-- ==== Sys2Proof/Word.lean ====
section
/-! DEFINITION. The word and byte types, and the name of a bit range of a register. -/

namespace Sys2Proof

/-- The contents of one register, widest case (R22: accesses are 32-bit or 64-bit). -/
abbrev Word := BitVec 64

/-- One byte of a memory or of a packet. -/
abbrev Byte := BitVec 8

/-- A bit range `[lo + width - 1 : lo]` of a register. -/
structure Fld where
  lo : Nat
  width : Nat
  deriving DecidableEq, Repr

end Sys2Proof
end

