-- ==== Sys2Proof/Syntax.lean ====
section
/-! DEFINITION. The commands and events of the table of operations: what reaches the part from outside,
and what happens in it of its own accord, one constructor per row, with the operands that the occasion
supplies and the state does not hold. -/

namespace Sys2Proof

/-- The transports of R668: host rings, device-memory rings of the control cores, the SMBus sideband, peers. -/
inductive Via where
  | H | C | S | P
  deriving DecidableEq, Repr

/-- A command: its transport, its ring (transports H and C; the source rank's low bits for P), and the 256 bytes of its slot (R686). -/
structure Cmd where
  via : Via
  ring : Fin 16
  slot : List Byte
  deriving DecidableEq, Repr

/-- Who makes a register access: the host through BAR0, a control core (with its M-mode bit), or the debug chain. -/
inductive Who where
  | host
  | core (c : Fin 16) (mmode : Bool)
  | debug
  deriving DecidableEq, Repr

/-- Press cycles that a part's instruction has waited, as the occasion measures them: on a register dependency (R236), on
bank conflicts (R181), on a taken Board bank (R194), on a hold (R200), on a scoreboard (R365), and on its own condition. -/
structure Stalls where
  dep : Nat
  bank : Nat
  board : Nat
  hold : Nat
  sb : Nat
  own : Nat
  deriving DecidableEq, Repr

/-- What a switch input shows when a bolt's head stands at it: flits in its skid, beats of head holding (R472) and beats in which
it sent HOLD (R415), the last two since they were last reported. -/
structure SkidObs where
  occ : Nat
  stall : Nat
  sent : Nat
  deriving DecidableEq, Repr

/-- What a controller's ECC found in the sectors of an access (R389 to R392): nothing, a corrected or an uncorrectable error, in the
32-byte sector numbered from the access's first. -/
inductive Ecc where
  | clean
  | corrected (sector : Nat)
  | bad (sector : Nat)
  deriving DecidableEq, Repr

/-- What the alignment markers of a frame show (R408, R410, R411): lanes with a BIP mismatch, lanes whose marker is missing, the
peer's RX_OK, RETRAIN_REQ and RETRAIN_FULL, and its PROFILE. -/
structure Marker where
  bip : BitVec 8
  missing : BitVec 8
  rxOk : Bool
  retrain : Bool
  full : Bool
  profile : Nat
  deriving DecidableEq, Repr

/-- A codeword as its decoder leaves it (R402 to R409): the markers of its frame when it is the frame's first, whether it could not
be corrected, its corrected symbols, CTL, its ten flits, and beats in which Score flits were withheld since the last one (R415). -/
structure Codeword where
  marker : Option Marker
  uncorr : Bool
  corr : Nat
  ctl : BitVec 20
  flits : List (List Byte)
  obeyed : Nat
  deriving DecidableEq, Repr

/-- A beat of a Seam as its receiver takes it (R419 to R423): whether its CRC holds, the low 24 bits of its control word, whether the
CRC-32C of a bar note or of both copies of a package notice holds, whether the transmitter still holds the beat that a replay request
names, whether it is the beat a replay was asked for, and beats in which Score slots were withheld since the last one. -/
structure SeamBeat where
  crcOk : Bool
  ctl : BitVec 24
  noteOk : Bool
  heldBeat : Bool
  replayed : Bool
  obeyed : Nat
  deriving DecidableEq, Repr

/-- What the decapsulation finds in a frame's SecTAG (R724, R726): SCI, AN, PN, and whether its ICV holds. -/
structure SecTag where
  sci : Nat
  an : Fin 4
  pn : Nat
  icvOk : Bool
  deriving DecidableEq, Repr

/-- A received frame: its octets from destination address through FCS, whether its FCS checks, its SecTAG, and its bytes from destination
address through payload, after decapsulation. -/
structure EthFrame where
  size : Nat
  fcsOk : Bool
  sec : Option SecTag
  bytes : List Byte
  deriving DecidableEq, Repr

/-- Why a stage command cannot finish, after some number of whole blocks (R703): an uncorrectable error in a sector of the block that
STAGE_OUT reads, a failed host read, a host write that cannot be delivered, or a stack or Board that stays out of service. -/
inductive StageCut where
  | ecc (blocks sector : Nat)
  | hostRead (blocks : Nat)
  | hostWrite (blocks : Nat)
  | away (blocks : Nat)
  deriving DecidableEq, Repr

/-- The command or event that a step performs: one constructor per row of the command table, those without operands last. -/
inductive Instr where
  /-- REGISTER_WRITE (R17): A write to a register that has no row of its own acts on its fields as their access codes state. -/
  | registerWrite (w : Who) (a : BitVec 26) (n : Fin 65) (v : Word)
  /-- RC_REGISTER_READ (R20): A read of an RC field returns its value and then clears it; a hardware update in the same cycle is kept. -/
  | rcRegisterRead (w : Who) (a : BitVec 26) (n : Fin 65)
  /-- ABSENT_UNIT_READ (R8): A register read to an absent unit's window returns 0 and records the access in GLB_ABSENT_ACCESS. -/
  | absentUnitRead (w : Who) (a : BitVec 26) (n : Fin 65)
  /-- ABSENT_UNIT_WRITE (R9): A register write to an absent unit's window is discarded and sets ACCESS and WRITE in GLB_ABSENT_ACCESS. -/
  | absentUnitWrite (w : Who) (a : BitVec 26) (n : Fin 65) (v : Word)
  /-- RESERVED_OFFSET_ACCESS (R13): An access to a reserved BAR0 offset reads 0, ignores writes and leaves GLB_ABSENT_ACCESS unchanged. -/
  | reservedOffsetAccess (w : Who) (a : BitVec 26) (n : Fin 65) (v : Option Word)
  /-- MISALIGNED_REG_ACCESS (R22): An access that is not a naturally aligned 32-bit or 64-bit access reads 0, ignores writes and sets CMD_ACCESS_FAULT. -/
  | misalignedRegAccess (w : Who) (a : BitVec 26) (n : Fin 65) (v : Option Word)
  /-- RAIL_UNDERVOLTAGE (R971): Any other rail below its UV threshold for 2 µs causes a cold reset. -/
  | railUndervoltage (r : Fin 17)
  /-- AVS_RESPONSE_TIMEOUT (R964): A Press-rail regulator that gives no AVSBus response for 1 ms counts as a lost rail. -/
  | avsResponseTimeout (d : Fin 8)
  /-- RST_COLD_WRITE (R819): A write of the key to RST_COLD from a C0 core in M mode triggers a cold reset. -/
  | rstColdWrite (w : Who) (v : BitVec 32)
  /-- COLD_RESET_RELEASE (R940): Once the reset pin, the supplies and the reference allow it, a cold reset is released in its numbered steps. -/
  | coldResetRelease (heat : BitVec 8) (flashOk : Bool) (failed : Option (Fin 11)) (ms : BitVec 16)
  /-- ROOT_PLL_LOCK (R130): A die's root PLL locks to the package reference, and the die may leave reset. -/
  | rootPllLock (d : Fin 12) (failed : Option (Fin 11))
  /-- ROOT_PLL_LOCK_LOSS (R131): A root PLL that loses lock for more than 1 µs puts its die into DIE reset. -/
  | rootPllLockLoss (d : Fin 12) (long : Bool)
  /-- REF_MISSING_EDGE (R134): A reference monitor sees no edge for 160 ns, and the reference is lost. -/
  | refMissingEdge (x : Fin 2)
  /-- REF_FREQ_WINDOW_FAIL (R134): A reference counts too few or too many edges in its window, and it is lost. -/
  | refFreqWindowFail (x : Fin 2)
  /-- REF_QUALIFIED (R135): A reference that has passed both checks for QUAL_MS milliseconds becomes qualified. -/
  | refQualified (x : Fin 2) (us : BitVec 24)
  /-- CLK_FWD_CFG_WRITE (R150): A write to CLK_FWD_CFG is ignored while armed or running; otherwise a change of source kind retrains the other native links. -/
  | clkFwdCfgWrite (v : BitVec 32)
  /-- CLK_REF_CFG_WRITE (R162): A write to CLK_REF_CFG sets the reference choices; clearing the active enable counts as a loss. -/
  | clkRefCfgWrite (v : BitVec 32)
  /-- MESO_FILL_MARGIN (R158): A mesochronous FIFO fill of 1 or 7 sets the margin flag and is counted. -/
  | mesoFillMargin (link : Bool) (d : Fin 12) (q : Fin 6) (high : Bool)
  /-- MESO_CROSSING_FAULT (R159): A mesochronous FIFO fill of 0 or 8 takes the link or Seam down and retrains it. -/
  | mesoCrossingFault (link : Bool) (d : Fin 12) (q : Fin 6) (high : Bool)
  /-- BAR_NOTE_RECEIVE (R73): A die checks that a bar note or merged decision arrives at its exact beat. -/
  | barNoteReceive (die : Fin 10) (port : Fin 4) (err : BitVec 16)
  /-- SCORE_START (R84): SCORE_START arms, launches or disarms the package's region. -/
  | scoreStart (c : Cmd)
  /-- COUNTIN_RECEIVE (R80): A Mangle die checks an arriving count-in flit and accepts or discards it. -/
  | countinReceive (l : Fin 12) (flit : List Byte)
  /-- START_NOTICE (R78): An internal start notice reaches a die, which schedules bar 0 and any forwarding. -/
  | startNotice (die : Fin 12)
  /-- DOWNBEAT_RECEIVE (R87): A receiver checks a downbeat for error, position and region, and relays any order. -/
  | downbeatReceive (l : Fin 12) (flit : List Byte) (err : BitVec 16)
  /-- DOWNBEAT_MISSING (R89): Downbeats absent on one internal link for two bars raise MISSING at beat L + 3. -/
  | downbeatMissing (l : Fin 12)
  /-- RUBATO_GATE_RELEASE (R99): A rubato chip begins its next bar once the bar has lasted 2^k beats and all Score-link downbeats are in. -/
  | rubatoGateRelease (beats : BitVec 32)
  /-- FERMATA (R113): The FERMATA command raises, extends or cancels a hold at the anchor. -/
  | fermata (c : Cmd)
  /-- SCORE_LOAD (R324): SCORE_LOAD checks a Score image and installs one rank's package image. -/
  | scoreLoad (c : Cmd)
  /-- SCORE_PATCH (R336): SCORE_PATCH checks a patch image and stages it on the dies. -/
  | scorePatch (c : Cmd)
  /-- PATCH_STAGE_DONE (R337): The last die reports a patch staged, and SCORE_PATCH completes. -/
  | patchStageDone (die : Fin 10)
  /-- SCORE_STOP (R330): SCORE_STOP stops a running package at its bar boundary, or disarms or unloads at once. -/
  | scoreStop (c : Cmd)
  /-- MOVE_SEND (R314): A Conductor acts on a MOVE send in its beat, and the bolt tries to depart. -/
  | moveSend (d : Fin 8) (free : Bool)
  /-- BOLT_DEPARTURE (R485): A waiting send departs once its outputs, window, quota and hold counts allow. -/
  | boltDeparture (d : Fin 8) (n : Nat) (free : Bool) (beats : Nat)
  /-- MOVE_TAKE (R317): A take releases the oldest held bolt of its landing buffer, or starts waiting. -/
  | moveTake (m : Fin 2) (free : Bool)
  /-- TAKE_DEFERRED (R317): A waiting take releases its bolt once one is wholly held. -/
  | takeDeferred (l : Fin 12) (beats : Nat) (free : Bool)
  /-- CUE (R319): A CUE entry fires if its tallies meet NEED, or joins the pending-cue queue. -/
  | cue (d : Fin 8)
  /-- PENDING_CUE_FIRE (R320): In a beat, up to eight pending cues whose tallies allow are fired oldest first. -/
  | pendingCueFire (d : Fin 8)
  /-- HELD_CUE_ENQUEUE (R321): A CUE held by a full pending queue enters it when space frees. -/
  | heldCueEnqueue (d : Fin 8)
  /-- CUE_ARRIVE (R244): A fired cue becomes visible to the Press and adds 1 to the cue count of its line in each named section. -/
  | cueArrive (d : Fin 8)
  /-- DESK_NOP (R298): A NOP desk entry does nothing. -/
  | deskNop (d : Fin 10)
  /-- PATCHPOINT (R304): A PATCHPOINT entry marks a patchable region and a restart point. -/
  | patchpoint (d : Fin 10)
  /-- SECTION_PAUSED (R211): A draining section reaches PAUSED and records PC, NEXT and TSTART. -/
  | sectionPaused (p : Fin 256) (k : Fin 4)
  /-- PAUSE_REQUEST (R210): Setting PRS_CTRL.PAUSE asks all four sections to stop at a preemption point. -/
  | pauseRequest (p : Fin 256)
  /-- RESUME (R213): Clearing PRS_CTRL.PAUSE resumes every PAUSED section. -/
  | resume (p : Fin 256)
  /-- PRS_CNT_CLR (R194): Writing PRS_CTRL.CNT_CLR clears the Press and section stall counters. -/
  | prsCntClr (p : Fin 256)
  /-- TSTART_WRITE (R215): A write to SCT_TSTART takes effect only while its section is PAUSED. -/
  | tstartWrite (p : Fin 256) (k : Fin 4) (row : BitVec 8)
  /-- BANK_WAKE_DONE (R184): A gated bank pair finishes its 24-cycle wake, and the waiting accesses proceed. -/
  | bankWakeDone (p : Fin 256) (k : Fin 4) (pair : Fin 8)
  /-- GATE_TAKES_EFFECT (R186): A set GATE bit takes effect once no access to the pair is pending. -/
  | gateTakesEffect (p : Fin 256) (k : Fin 4) (pair : Fin 8)
  /-- HOLD_WAIT_RELEASE (R200): A write waiting on a held block proceeds once its hold count returns to 0. -/
  | holdWaitRelease (p : Fin 256) (cycles : Nat)
  /-- ZEROING_DONE (R203): Board zeroing finishes after 1,024 Press cycles, and ZEROING clears. -/
  | zeroingDone (p : Fin 256)
  /-- BOARD_DEBUG_READ (R204): A read of PRS_BOARD_DATA returns 8 Board bytes, or 0 when denied, and advances the address. -/
  | boardDebugRead (p : Fin 256) (half : Fin 3)
  /-- BOARD_DEBUG_WRITE (R206): A write of PRS_BOARD_DATA stores 8 Board bytes unless denied or held, and advances the address. -/
  | boardDebugWrite (p : Fin 256) (half : Fin 3) (data : Word)
  /-- NOP (R254): NOP issues and does nothing. -/
  | nop (p : Fin 256) (k : Fin 4) (w : Stalls)
  /-- LOOP (R240): LOOP opens a fixed loop of CNT + 1 iterations. -/
  | loop (p : Fin 256) (k : Fin 4) (w : Stalls)
  /-- ENDL (R240): ENDL closes an iteration and loops back or leaves the loop. -/
  | endl (p : Fin 256) (k : Fin 4) (w : Stalls)
  /-- CUEWAIT (R245): CUEWAIT waits for a cue count above 0, subtracts 1 and retires. -/
  | cuewait (p : Fin 256) (k : Fin 4) (w : Stalls)
  /-- SYNC (R250): SYNC retires in all named sections once all wait on a matching SYNC. -/
  | sync (p : Fin 256) (k : Fin 4) (w : Stalls)
  /-- BANKSET (R281): BANKSET writes SCT_BANKMASK.GATE one Press cycle after issue. -/
  | bankset (p : Fin 256) (k : Fin 4) (w : Stalls)
  /-- END (R238): END retires once earlier instructions have retired, and the section becomes IDLE. -/
  | endPart (p : Fin 256) (k : Fin 4) (w : Stalls)
  /-- TLD (R256): TLD loads a Board block into a tile register. -/
  | tld (p : Fin 256) (k : Fin 4) (w : Stalls)
  /-- TST (R256): TST stores a tile register into a Board block. -/
  | tst (p : Fin 256) (k : Fin 4) (w : Stalls)
  /-- TZERO (R257): TZERO clears a tile register. -/
  | tzero (p : Fin 256) (k : Fin 4) (w : Stalls)
  /-- TTR (R257): TTR writes the transpose of a 16-bit tile. -/
  | ttr (p : Fin 256) (k : Fin 4) (w : Stalls)
  /-- AZERO (R254): AZERO clears an accumulator tile. -/
  | azero (p : Fin 256) (k : Fin 4) (w : Stalls)
  /-- ALD (R258): ALD loads an accumulator from two Board blocks. -/
  | ald (p : Fin 256) (k : Fin 4) (w : Stalls)
  /-- AST (R258): AST stores an accumulator to two Board blocks. -/
  | ast (p : Fin 256) (k : Fin 4) (w : Stalls)
  /-- ACVT (R259): ACVT converts an accumulator into a tile register in a given format. -/
  | acvt (p : Fin 256) (k : Fin 4) (w : Stalls)
  /-- MMA (R261): MMA adds a full-tile matrix product to an accumulator. -/
  | mma (p : Fin 256) (k : Fin 4) (w : Stalls)
  /-- MMAS (R265): MMAS streams Board rows through the stationary tile and writes or adds results to the Board. -/
  | mmas (p : Fin 256) (k : Fin 4) (w : Stalls) (upto : Nat)
  /-- VSET (R270): VSET writes an immediate to every voice of a vector register. -/
  | vset (p : Fin 256) (k : Fin 4) (w : Stalls)
  /-- VLD (R270): VLD loads one Board line into a vector register. -/
  | vld (p : Fin 256) (k : Fin 4) (w : Stalls)
  /-- VST (R270): VST stores a vector register into one Board line. -/
  | vst (p : Fin 256) (k : Fin 4) (w : Stalls)
  /-- VADD (R269): VADD adds two vector registers voice by voice. -/
  | vadd (p : Fin 256) (k : Fin 4) (w : Stalls)
  /-- VMUL (R269): VMUL multiplies two vector registers voice by voice. -/
  | vmul (p : Fin 256) (k : Fin 4) (w : Stalls)
  /-- VFMA (R269): VFMA computes a fused multiply-add voice by voice. -/
  | vfma (p : Fin 256) (k : Fin 4) (w : Stalls)
  /-- VMAX (R269): VMAX takes the voice-by-voice maximum. -/
  | vmax (p : Fin 256) (k : Fin 4) (w : Stalls)
  /-- ARED (R271): ARED reduces each accumulator row to one voice by sum or maximum. -/
  | ared (p : Fin 256) (k : Fin 4) (w : Stalls)
  /-- AVOP (R272): AVOP scales or offsets each accumulator row by a vector voice. -/
  | avop (p : Fin 256) (k : Fin 4) (w : Stalls)
  /-- QLD (R273): QLD places block loads from device memory into a load queue. -/
  | qld (p : Fin 256) (k : Fin 4) (w : Stalls)
  /-- QST (R273): QST places block stores to device memory into a store queue. -/
  | qst (p : Fin 256) (k : Fin 4) (w : Stalls)
  /-- QWAIT (R275): QWAIT retires once its queue has at most N requests outstanding. -/
  | qwait (p : Fin 256) (k : Fin 4) (w : Stalls)
  /-- RINSE (R276): RINSE hands a memory range to the port for rinsing and waits until it is done. -/
  | rinse (p : Fin 256) (k : Fin 4) (w : Stalls)
  /-- CADENCE (R277): CADENCE synchronises all four sections, drains the queues and applies the memory-side fence. -/
  | cadence (p : Fin 256) (k : Fin 4) (w : Stalls)
  /-- TKSEND (R279): TKSEND takes an injection token and injects a tack built from a template. -/
  | tksend (p : Fin 256) (k : Fin 4) (w : Stalls)
  /-- TIME (R280): TIME writes the Conductor's beat, bar count and Score bar into a vector register. -/
  | time (p : Fin 256) (k : Fin 4) (w : Stalls)
  /-- LOAD_FILL_ARRIVE (R362): A load's block arrives and is written into its Board block, and the load retires in order. -/
  | loadFillArrive (p : Fin 256) (q : Fin 4) (n : Nat) (ecc : Ecc) (victim : Option Nat)
  /-- STORE_ACCEPT (R363): The memory port accepts a store's block into the write buffer, and the store retires. -/
  | storeAccept (p : Fin 256) (q : Fin 2)
  /-- WRITEBACK_START (R372): The write buffer writes back its oldest dirty block while it holds more than 48 blocks. -/
  | writebackStart (d : Fin 8)
  /-- WRITEBACK_ACK (R373): The controller acknowledges a writeback, and the entry leaves the write buffer. -/
  | writebackAck (d : Fin 8) (blk : BitVec 29)
  /-- MEM_REQUEST_RETRY (R368): A request to a stack out of service is retried every 1 µs. -/
  | memRequestRetry (d : Fin 8)
  /-- MEM_WAIT_TIMEOUT (R368): A request still waiting after WAIT_US sets its stack's TIMEOUT bit. -/
  | memWaitTimeout (d : Fin 8) (m : Fin 8)
  /-- RINSE_DONE (R374): A RINSE scan and its writebacks finish, and the range is done. -/
  | rinseDone (d : Fin 8)
  /-- FENCE_DONE (R378): A memory-side fence finishes its writebacks and cache invalidation. -/
  | fenceDone (d : Fin 8)
  /-- HBM_REFRESH (R346): The controller issues refresh, doubling it while the stack is hot. -/
  | hbmRefresh (n : Fin 8) (hot : Bool)
  /-- SCRUB_READ (R395): Patrol scrub reads sectors in idle cycles and corrects errors in place. -/
  | scrubRead (n : Fin 8) (off : Nat) (ecc : Ecc)
  /-- UE_RETRY (R393): Writing MEM_UE_HOLD.RETRY reissues every held load of the port. -/
  | ueRetry (d : Fin 8)
  /-- MEM_QCTL_CNT_CLR (R366): Writing MEM_QCTL.CNT_CLR clears a Press's MEM_QFULL and MEM_SBWAIT. -/
  | memQctlCntClr (p : Fin 256)
  /-- BOARD_WINDOW_ACCESS (R354): An access through the Board window enters the Board through its queue port, or is refused for an away Press. -/
  | boardWindowAccess (src : Fin 12) (off : BitVec 48) (n : Nat) (w : Option (List Byte))
  /-- RINSE_RANGE (R383): RINSE_RANGE rinses a range on the named Press-die ports. -/
  | rinseRange (c : Cmd)
  /-- CADENCE_COMMAND (R385): The CADENCE command waits for earlier writes of its ring and fences the named ports. -/
  | cadenceCommand (c : Cmd)
  /-- CODEWORD_RECEIVE (R409): A receiver decodes a codeword, corrects it or counts it uncorrectable, and takes its flits and HOLD. -/
  | codewordReceive (l : Fin 12) (cw : Codeword)
  /-- SEAM_BEAT_RECEIVE (R420): A Seam receiver checks a beat's CRC and takes its slots, HOLD and replay request. -/
  | seamBeatReceive (d : Fin 12) (q : Fin 4) (beat : SeamBeat)
  /-- ALIGN_NOTICE (R439): An ALIGN notice sets a die's beat count and is forwarded along the tree. -/
  | alignNotice (die : Fin 12) (good : Bool)
  /-- ALIGN_REQUEST (R440): A die leaving DIE reset asks its tree parent for an ALIGN. -/
  | alignRequest (die : Fin 12)
  /-- ECHO_NOTICE (R438): An ECHO notice round measures a Seam's raw latency. -/
  | echoNotice (d : Fin 12) (q : Fin 4) (rtt : BitVec 32) (turn : BitVec 16)
  /-- SEAM_TRAINING_DONE (R438): A Seam finishes initialisation and measurement and sets its pad. -/
  | seamTrainingDone (d : Fin 12) (q : Fin 4) (repairs : Option Nat)
  /-- LINK_ENABLE (R427): Setting LNK_CTRL.ENABLE starts the link's training. -/
  | linkEnable (l : Fin 12)
  /-- LINK_DISABLE (R428): Clearing LNK_CTRL.ENABLE puts the link in OFF. -/
  | linkDisable (l : Fin 12)
  /-- LNK_CNT_CLR (R452): Writing LNK_CTRL.CNT_CLR clears every counter of the link. -/
  | lnkCntClr (l : Fin 12)
  /-- LINK_STATE_COMPLETE (R427): A training state meets its leave condition, and the link advances to the next state. -/
  | linkStateComplete (l : Fin 12) (reversed : Bool) (polarity : BitVec 8) (beat : BitVec 32)
  /-- LINK_STATE_TIMEOUT (R427): A training state passes its limit, sets CAUSE and enters DOWN. -/
  | linkStateTimeout (l : Fin 12)
  /-- LINK_RETRY_TIMER (R428): A link in DOWN returns to WAKE after RETRY_MS. -/
  | linkRetryTimer (l : Fin 12)
  /-- LINK_FLIT_RECEIVE (R431): A LINK flit answers, records an echo round or carries an ADMIT proposal. -/
  | linkFlitReceive (l : Fin 12) (flit : List Byte) (arrived : BitVec 32) (leaves : BitVec 32)
  /-- ECHO_REPEAT (R430): An echo round whose request or response is lost repeats after 256 beats. -/
  | echoRepeat (l : Fin 12) (beat : BitVec 32)
  /-- LINK_QUIET_START (R445): In a sleep-marked bar the transmitter goes electrically idle at beat 64. -/
  | linkQuietStart (l : Fin 12)
  /-- LINK_QUIET_END (R445): The transmitter resumes at beat 2^k − 511, or at once when a Score flit or HOLD needs it. -/
  | linkQuietEnd (l : Fin 12)
  /-- LINK_RETRAIN (R449): LINK_RETRAIN retrains a link or Seam and reports its latency and class. -/
  | linkRetrain (c : Cmd)
  /-- LINK_PROFILE (R450): LINK_PROFILE sets a link's profile and starts a full retrain. -/
  | linkProfile (c : Cmd)
  /-- BOLT_HEAD_ROUTE (R472): A bolt head at a switch checks HCRC and advances when its outputs are free, or holds. -/
  | boltHeadRoute (id : Nat) (free : Bool) (obs : SkidObs)
  /-- HEAD_ADVANCE (R472): A held head advances once every output it needs is free. -/
  | headAdvance (id : Nat) (free : Bool) (obs : SkidObs)
  /-- BOLT_LINK_ARRIVAL (R463): A Mangle die takes a bolt from a link, checks it and forwards, crosses or delivers it. -/
  | boltLinkArrival (l : Fin 12) (flits : List (List Byte)) (resend : Bool) (free : Bool) (obs : SkidObs)
  /-- BOLT_EXIT_LOOKUP (R488): An exit Mangle die looks up DRANK and ends the stream with SLICE_VIOLATION if absent. -/
  | boltExitLookup (id : Nat) (free : Bool) (obs : SkidObs)
  /-- DESCRIPTOR_RECORD_ARRIVE (R499): A descriptor record lands at its Mangle die and releases any early knots for it. -/
  | descriptorRecordArrive (stream : BitVec 12) (seq : BitVec 16)
  /-- BOLT_HEAD_ACCEPT (R490): At the destination die a head passes or fails the checks and window test, and its lines begin to land. -/
  | boltHeadAccept (id : Nat) (upto : Fin 129) (obs : SkidObs)
  /-- BOLT_TAIL_ARRIVE (R491): The last flit of an accepted bolt checks PCRC and counts the bolt or queues a snag. -/
  | boltTailArrive (id : Nat) (obs : SkidObs)
  /-- KNOT_TACK_SEND (R496): The knot queue sends its oldest entry as a knot or snag tack. -/
  | knotTackSend (d : Fin 8)
  /-- KNOT_APPLY (R500): A knot sets mask bits and releases completed descriptors and their holds. -/
  | knotApply (m : Fin 2)
  /-- SNAG_APPLY (R501): A snag puts its held descriptors on the resend queue. -/
  | snagApply (m : Fin 2)
  /-- KNOT_TIMEOUT (R502): A descriptor still held KNOT_BARS bars after departure joins the resend queue. -/
  | knotTimeout (m : Fin 2)
  /-- RESEND_START (R503): The Mangle die has the source re-read the Board and send the bolt again in free slots. -/
  | resendStart (m : Fin 2)
  /-- RESEND_DEPART (R504): A stored resend leaves on a link in a darning-window beat, or spills to the next bar. -/
  | resendDepart (l : Fin 12) (beat : BitVec 16) (free : Bool)
  /-- RESEND_FORWARD (R505): At the last Mangle die a resent bolt moves on to its destination in free slots. -/
  | resendForward (m : Fin 2)
  /-- CSEND_GO (R523): Writing TCK_CSEND_CTRL.GO sends the staged control-core tack, or refuses it. -/
  | csendGo (m : Fin 2)
  /-- TACK_INJECT_TRANSLATE (R524): A Mangle die translates a source tack's rank into coordinates and queues it for injection. -/
  | tackInjectTranslate (m : Fin 2)
  /-- TACK_RELEASE_TO_MANGLE (R526): A tack waiting on its source die enters its Mangle injection queue when room appears. -/
  | tackReleaseToMangle (d : Fin 12) (m : Fin 2)
  /-- TACK_FORWARD (R532): A ready tack leaves on its preferred output when free. -/
  | tackForward (m : Fin 2) (free : BitVec 6)
  /-- TACK_DEFLECT (R532): A tack that waited PATIENCE beats takes the first free output of its deflection order. -/
  | tackDeflect (m : Fin 2) (n : Nat) (waited : Nat) (free : BitVec 6)
  /-- TACK_LINK_ARRIVAL (R538): A tack from a link is checked and buffered or delivered. -/
  | tackLinkArrival (l : Fin 12) (tack : List Byte)
  /-- NOTICE_DELIVER (R539): A NOTICE adds COUNT to a tally of its Press die. -/
  | noticeDeliver (die : Fin 12)
  /-- WRITE_DELIVER (R539): A WRITE tack writes its bytes at OFFSET. -/
  | writeDeliver (die : Fin 12)
  /-- ADD_DELIVER (R539): An ADD tack applies its operation indivisibly to 8 bytes at OFFSET. -/
  | addDeliver (die : Fin 12) (ecc : Ecc)
  /-- DOORBELL_DELIVER (R539): A DOORBELL is stored whole in its die's inbox, or reaches the Unison comparator. -/
  | doorbellDeliver (die : Fin 12)
  /-- PEER_REQ_DELIVER (R515): A PEER_REQ fragment is stored in the inbox for reassembly into a command. -/
  | peerReqDeliver (die : Fin 12)
  /-- PEER_RSP_DELIVER (R515): A PEER_RSP fragment is stored in the inbox for the waiting firmware. -/
  | peerRspDeliver (die : Fin 12)
  /-- ACK_RECEIVE (R542): An ACK at SDIE is checked for wash count and tag and returns its token. -/
  | ackReceive (die : Fin 12)
  /-- ACK_TIMEOUT (R543): An outstanding token's ACK timeout expires, returning it and counting a TIMEOUT. -/
  | ackTimeout (die : Fin 10) (num : Fin 64)
  /-- INBOX_POP (R544): Writing TCK_INBOX_CTRL.POP removes the oldest inbox tack. -/
  | inboxPop (m : Fin 2)
  /-- TCK_GRID_WRITE (R528): A write to TCK_GRID sets the grid unless the package is armed or running. -/
  | tckGridWrite (m : Fin 2) (data : Word)
  /-- MCAST_GROUP_WRITE (R537): MCAST_GROUP_WRITE writes 32 member entries of a multicast group. -/
  | mcastGroupWrite (c : Cmd)
  /-- RANK_TABLE_WRITE (R558): RANK_TABLE_WRITE writes Rank Table entries on the named Mangle dies. -/
  | rankTableWrite (c : Cmd)
  /-- SLICE_SET (R565): SLICE_SET changes the package's slice and closes its tables and fences. -/
  | sliceSet (c : Cmd)
  /-- RNK_CHIP_WRITE (R548): A write to RNK_CHIP sets the chip number unless the package is armed or running. -/
  | rnkChipWrite (m : Fin 2) (data : BitVec 32)
  /-- FENCE_WRITE (R568): A write to RNK_FENCE.SW sets the software fences unless the package is armed or running. -/
  | fenceWrite (m : Fin 2) (data : BitVec 32)
  /-- LEGACY_STORE_SEND (R591): A bolt complete in the legacy store starts out on its G2 link. -/
  | legacyStoreSend (l : Fin 12)
  /-- G1_PACKET_SEND (R600): The bridge sends a G1 packet when it holds a peer credit. -/
  | g1PacketSend (l : Fin 12)
  /-- G1_SEG_RECEIVE (R603): An inbound SEG packet is reassembled into a bolt in credit linens. -/
  | g1SegReceive (l : Fin 12) (packet : List Byte)
  /-- G1_MSG_RECEIVE (R605): An inbound MSG packet becomes a tack and is delivered. -/
  | g1MsgReceive (l : Fin 12) (packet : List Byte)
  /-- G1_CREDIT_RECEIVE (R600): An inbound CREDIT packet adds to the count of peer credits. -/
  | g1CreditReceive (l : Fin 12) (packet : List Byte)
  /-- G1_INIT_RECEIVE (R596): An INIT packet completes G1 admission and sets the peer credits. -/
  | g1InitReceive (l : Fin 12) (packet : List Byte)
  /-- G1_CREDIT_TIMER (R598): Credits unreturned for 64 beats go out in a CREDIT packet. -/
  | g1CreditTimer (l : Fin 12)
  /-- LNK_LGC_ID_WRITE (R612): A write to LNK_LGC_ID sets the legacy identity unless ignored. -/
  | lnkLgcIdWrite (l : Fin 12) (data : BitVec 32)
  /-- ICU_EVENT (R625): An event on a source makes it pending or adds to its EVCOUNT. -/
  | icuEvent (n : Fin 1024)
  /-- ICU_SETPEND (R627): A write to ICU_SETPEND triggers a source as an event. -/
  | icuSetpend (n : Fin 1024)
  /-- ICU_SRC_WRITE (R628): A write to ICU_SRC sets a source's priority, which may make a level source pending. -/
  | icuSrcWrite (n : Fin 1024) (v : BitVec 32)
  /-- ICU_CLAIM (R634): A read of ICU_CLAIM returns and activates the selection and pushes it on the stack. -/
  | icuClaim (w : Who) (t : Fin 32)
  /-- ICU_COMPLETE (R637): A write to ICU_COMPLETE pops the stack and ends the source's active state. -/
  | icuComplete (w : Who) (t : Fin 32) (v : BitVec 32)
  /-- ICU_STACK_RESET (R642): A write to ICU_STACK_RESET empties and unfreezes a target's stack. -/
  | icuStackReset (w : Who) (v : BitVec 32)
  /-- MACHINE_TIMER (R620): EVA_TIME reaching ICU_MTIMECMP raises a core's machine timer interrupt. -/
  | machineTimer (c : Fin 16)
  /-- EVENT_STAMP (R644): The event arbiter stamps an arriving event with the next sequence number. -/
  | eventStamp (d : Fin 12)
  /-- EVENT_RECORD_WRITE (R652): A staged record is written whole to the ring when room allows. -/
  | eventRecordWrite (fail : Bool)
  /-- SOFTWARE_EVENT (R650): A write to EVA_SW raises a SOFTWARE event. -/
  | softwareEvent (v : Word)
  /-- EVA_RD_WRITE (R661): A write to EVA_RD advances the consumer index unless out of range. -/
  | evaRdWrite (v : BitVec 32)
  /-- EVENT_LOG_CONFIG (R657): EVENT_LOG_CONFIG sets the event ring's base, size and threshold. -/
  | eventLogConfig (c : Cmd)
  /-- HOST_INTERFACE_RESET (R670): PERST#, hot reset, link-down or FLR resets the host link and host command interface. -/
  | hostInterfaceReset (kind : Fin 4)
  /-- RING_ENABLE (R674): Enabling a command ring zeroes its indices and sets its phase. -/
  | ringEnable (w : Who) (r : Fin 16) (v : BitVec 32)
  /-- RING_DISABLE (R685): Clearing ENABLE stops fetching, and the ring goes IDLE once its commands end. -/
  | ringDisable (w : Who) (r : Fin 16) (v : BitVec 32)
  /-- TAIL_DOORBELL (R678): A tail doorbell advances TAIL or puts the ring in error. -/
  | tailDoorbell (w : Who) (bar2 : Bool) (r : Fin 16) (v : BitVec 32)
  /-- CPL_HEAD_DOORBELL (R678): A completion-head doorbell releases completion entries. -/
  | cplHeadDoorbell (w : Who) (bar2 : Bool) (r : Fin 16) (v : BitVec 32)
  /-- COMMAND_FETCH (R679): The KL3 fetches a command from a ring that has one, a free reservation and room in flight. -/
  | commandFetch (slot : List Byte) (ok : Bool)
  /-- MSIX_COALESCE_TIMER (R682): COAL_US after an unsignalled completion, the ring's MSI-X vector fires. -/
  | msixCoalesceTimer (r : Fin 16)
  /-- IDENTIFY (R697): IDENTIFY returns the package's identity. -/
  | identify (c : Cmd)
  /-- QUERY_CAPS (R698): QUERY_CAPS returns a page of capabilities. -/
  | queryCaps (c : Cmd)
  /-- STAGE_IN (R701): STAGE_IN copies host memory into device memory block by block. -/
  | stageIn (c : Cmd) (data : List Byte) (cut : Option StageCut)
  /-- STAGE_OUT (R701): STAGE_OUT copies device memory into host memory block by block. -/
  | stageOut (c : Cmd) (corr : List Nat) (cut : Option StageCut)
  /-- WRITE_INLINE (R705): WRITE_INLINE writes inline bytes to device memory, sector by sector indivisibly. -/
  | writeInline (c : Cmd)
  /-- READ_SMALL (R706): READ_SMALL reads up to 16 bytes of one sector. -/
  | readSmall (c : Cmd) (ecc : Ecc)
  /-- ETH_FRAME_RECEIVE (R711): A received frame is accepted, stored whole and steered to a queue, or discarded. -/
  | ethFrameReceive (p : Fin 2) (f : EthFrame)
  /-- PAUSE_FRAME_RECEIVE (R718): A valid PAUSE or PFC frame loads the pause timers 8 ns after it ends. -/
  | pauseFrameReceive (p : Fin 2)
  /-- PAUSE_TIMER_EXPIRY (R719): A pause timer reaches 0, and its priority may transmit again. -/
  | pauseTimerExpiry (p : Fin 2) (q : Fin 8)
  /-- ETH_FRAME_TRANSMIT (R720): At a frame boundary the transmitter starts the next frame of an unpaused priority. -/
  | ethFrameTransmit (p : Fin 2) (ecc : Ecc)
  /-- XOFF_REFRESH (R722): In the XOFF state E0 checks the level every half XOFF_QUANTA and sends a refresh. -/
  | xoffRefresh (p : Fin 2) (q : Fin 8)
  /-- ETH_LINK_UP (R723): A port link comes up and resends XOFF for every priority in XOFF. -/
  | ethLinkUp (p : Fin 2)
  /-- ETH_LINK_DOWN (R723): A port link goes down, and control frames stop. -/
  | ethLinkDown (p : Fin 2)
  /-- ETH_QDB_WRITE (R730): A write to ETH_QDB gives a queue's producer index. -/
  | ethQdbWrite (q : Fin 32) (v : BitVec 32)
  /-- ETH_QCPL_WRITE (R732): A write to ETH_QCPL releases completion entries. -/
  | ethQcplWrite (q : Fin 32) (v : BitVec 32)
  /-- QUEUE_TAIL_POLL (R730): Every POLL_US E0 reads a queue's tail word. -/
  | queueTailPoll (q : Fin 32) (fail : Bool)
  /-- DESCRIPTOR_TAKE (R732): E0 takes a descriptor when a completion entry is free and starts its DMA. -/
  | descriptorTake (q : Fin 32) (ecc : Ecc) (fail : Bool) (late : Bool)
  /-- ETH_DMA_COMPLETE (R738): Once a descriptor's writes are acknowledged, E0 writes its completion. -/
  | ethDmaComplete (q : Fin 32) (fail : Bool)
  /-- RBT_DATA_RECEIVE (R743): An RBT DATA packet is written, discarded or answered per its window position. -/
  | rbtDataReceive (q : Fin 32) (n : Nat) (mayAbort : Bool)
  /-- RBT_ACK_RECEIVE (R746): An RBT ACK advances the sender's acknowledged segments. -/
  | rbtAckReceive (p : Fin 2) (n : Nat)
  /-- RBT_NAK_RECEIVE (R746): An RBT NAK makes the sender resend the missing segments. -/
  | rbtNakReceive (p : Fin 2) (n : Nat)
  /-- RBT_ABORT_RECEIVE (R747): An RBT ABORT completes the message or restarts the sender in a new epoch. -/
  | rbtAbortReceive (p : Fin 2) (n : Nat)
  /-- RBT_ACK_TIMER (R745): 8 µs after the oldest unacknowledged segment, the receiver sends an ACK. -/
  | rbtAckTimer (q : Fin 32)
  /-- RBT_NAK_TIMER (R745): A gap lasting 4 µs draws a NAK. -/
  | rbtNakTimer (q : Fin 32)
  /-- RBT_RTO (R746): After RTO_US without progress the sender resends, and after 8 RTOs aborts. -/
  | rbtRto (q : Fin 32)
  /-- PORT_CONFIG (R748): PORT_CONFIG sets a port's speed, MAC, frame size and flow control. -/
  | portConfig (c : Cmd)
  /-- PORT_QUEUE_CREATE (R749): PORT_QUEUE_CREATE creates or deletes an E0 queue. -/
  | portQueueCreate (c : Cmd)
  /-- PFC_CONFIG (R750): PFC_CONFIG sets the enabled priorities and their notice marks. -/
  | pfcConfig (c : Cmd)
  /-- MACSEC_SA (R751): MACSEC_SA installs, activates or deletes a MACsec association. -/
  | macsecSa (c : Cmd)
  /-- REPRO_PROFILE_SET (R764): REPRO_PROFILE_SET sets the accumulation, subnormal and Metronome modes. -/
  | reproProfileSet (c : Cmd)
  /-- UNISON_PAIR (R768): UNISON_PAIR pairs or unpairs the package with a partner rank. -/
  | unisonPair (c : Cmd)
  /-- UNISON_REPLAY (R783): UNISON_REPLAY captures, replays or releases a Unison bar. -/
  | unisonReplay (c : Cmd)
  /-- DIGEST_CLOSE (R773): A digest or a bar closes, and the comparator sends its ENTRY or CLOSE tack. -/
  | digestClose (sbar : BitVec 32) (which : Option (Fin 64 × Fin 4096))
  /-- BAR_COMPARE (R777): With both CLOSEs and all entries in, the comparator compares the bar. -/
  | barCompare (sbar : BitVec 32)
  /-- UNISON_WAIT_TIMEOUT (R778): A bar not compared within WAIT_US is counted unchecked. -/
  | unisonWaitTimeout (sbar : BitVec 32)
  /-- CENSUS (R799): CENSUS checks its parameters and schedules a sampling beat. -/
  | census (c : Cmd)
  /-- CENSUS_SAMPLE (R800): At the sampling beat every book is sampled, and the report and completion follow. -/
  | censusSample (age0 : Nat) (age1 : Nat)
  /-- LINEN_HANDOVER (R795): A released linen leaves transit and becomes free in the remainder or its reservation. -/
  | linenHandover (m : Fin 2)
  /-- NOTICE_UPDATE (R810): A notice unit applies an update to PEAK, crossing, re-arm and LEVEL. -/
  | noticeUpdate (u : Fin 128) (mx : Nat) (mn : Nat)
  /-- NTC_MARKS_WRITE (R812): A write to NTC_MARKS sets the marks and re-evaluates the level, or is ignored. -/
  | ntcMarksWrite (u : Fin 128) (half : Fin 3) (v : Word)
  /-- NTC_LEVEL_WRITE (R809): A write to a software unit's NTC_LEVEL is an update. -/
  | ntcLevelWrite (u : Fin 128) (v : BitVec 32)
  /-- NTC_PEAK_READ (R813): A read of NTC_PEAK returns the peak and restarts it. -/
  | ntcPeakRead (u : Fin 128)
  /-- UP_CLR (R815): Writing NTC_CTRL.UP_CLR sets UPCOUNT to 0. -/
  | upClr (u : Fin 128)
  /-- UNIT_RESET (R823): UNIT_RESET quiesces a unit and resets it. -/
  | unitReset (c : Cmd)
  /-- UNIT_FOLD (R836): UNIT_FOLD quiesces a Press, Press die or E0 and powers it off. -/
  | unitFold (c : Cmd) (us : BitVec 32)
  /-- UNIT_UNFOLD (R838): UNIT_UNFOLD powers a folded unit and restores its parts. -/
  | unitUnfold (c : Cmd)
  /-- PSTATE_SET (R842): PSTATE_SET changes a Press's P-state or puts it in Idle. -/
  | pstateSet (c : Cmd) (us : BitVec 32)
  /-- UNIT_IN_SERVICE (R825): A released unit reaches its in-service condition, and its command completes. -/
  | unitInService (u : Fin 298) (us : BitVec 32)
  /-- UNIT_SERVICE_TIMEOUT (R852): A unit not in service 100 ms after release completes its command with TIMEOUT. -/
  | unitServiceTimeout (u : Fin 298) (us : BitVec 32)
  /-- LINK_GIVEUP (R829): A descriptor held for GIVEUP_US ends its stream with PEER_RESET. -/
  | linkGiveup (stream : BitVec 12) (seq : BitVec 16)
  /-- LINK_DISCARD (R830): A link not UP for GIVEUP_US has its waiting Score flits discarded. -/
  | linkDiscard (l : Fin 12)
  /-- THERMAL_THROTTLE (R843): A sensor at THROT forces its Press die to P3 until it cools; `hbm` tells a report of the die's HBM stack (R992). -/
  | thermalThrottle (d : Fin 12) (t : BitVec 8) (hbm : Bool)
  /-- THERMAL_TRIP (R844): A sensor at 115 °C triggers a cold reset held until cool. -/
  | thermalTrip (d : Fin 12) (t : BitVec 8)
  /-- FW_STAGE (R845): FW_STAGE verifies a firmware image and stages it. -/
  | fwStage (c : Cmd)
  /-- FW_ACTIVATE (R846): FW_ACTIVATE replaces the running C0 firmware with the staged image. -/
  | fwActivate (c : Cmd)
  /-- SM_SESSION_OPEN (R874): SM_SESSION_OPEN issues a challenge or opens a session on a signed response. -/
  | smSessionOpen (c : Cmd)
  /-- SM_SERVICE (R886): SM_SERVICE runs one security-module service. -/
  | smService (c : Cmd) (failed : Option (Fin 11))
  /-- ZEROIZE (R897): ZEROIZE erases keys, SAs and sessions, and optionally the store. -/
  | zeroize (c : Cmd)
  /-- SM_MBOX_GO (R880): Writing SM_MBOX_CTRL.GO submits the mailbox slot to the module. -/
  | smMboxGo (w : Who) (v : BitVec 32) (failed : Option (Fin 11))
  /-- SESSION_IDLE_TIMEOUT (R877): A session unused for IDLE_MIN minutes closes. -/
  | sessionIdleTimeout (slot : Fin 16)
  /-- CHALLENGE_EXPIRY (R872): A challenge expires 30 s after issue. -/
  | challengeExpiry (via : Via) (id : BitVec 32)
  /-- AUTH_LOCKOUT_END (R875): A 60 s lockout after eight failed responses ends. -/
  | authLockoutEnd (via : Via)
  /-- ENTROPY_HEALTH_FAIL (R892): A continuous entropy test fails and the module enters SOFT_ERROR. -/
  | entropyHealthFail (apt : Bool)
  /-- SOFT_ERROR_RECOVERY (R892): One second into SOFT_ERROR the entropy and DRBG tests rerun. -/
  | softErrorRecovery (ok7 : Bool) (ok6 : Bool)
  /-- PERIODIC_SELFTEST (R890): Every RETEST_H hours the known-answer tests rerun. -/
  | periodicSelftest (failed : Option (Fin 11))
  /-- TELEMETRY_SNAPSHOT (R909): TELEMETRY_SNAPSHOT reads one value, or schedules a report-mode snapshot. -/
  | telemetrySnapshot (c : Cmd)
  /-- SNAPSHOT_SAMPLE (R910): At the sampling beat the included counters are sampled and the report is written. -/
  | snapshotSample (ok : Bool)
  /-- TEL_CLR (R907): Writing TEL_CLR.CLR clears the telemetry counters. -/
  | telClr (v : BitVec 32)
  /-- TAP_INSTRUCTION_UPDATE (R922): A new TAP instruction takes effect, boundary-scan instructions taking over the balls. -/
  | tapInstructionUpdate (code : BitVec 8)
  /-- DBG_SEL (R924): DBG_SEL selects a debug target, or acts as BYPASS while locked. -/
  | dbgSel (v : BitVec 16)
  /-- DBG_ACCESS (R925): DBG_ACCESS starts an 8-byte debug read or write at Update-DR. -/
  | dbgAccess (v : BitVec 96)
  /-- HEM_IN_CHANGE (R929): A filtered change of HEM_IN changes the target's ARP eligibility. -/
  | hemInChange (level : Bool)
  /-- ARP_GET_UDID (R930): Get UDID (general) is answered by an eligible target with its UDID. -/
  | arpGetUdid (dst : Option (BitVec 7))
  /-- ARP_ASSIGN_ADDRESS (R930): Assign Address with the target's UDID sets its address and AV. -/
  | arpAssignAddress (udid : List Byte) (a : BitVec 7)
  /-- ARP_RESET_DEVICE (R930): Reset Device (general) clears AV. -/
  | arpResetDevice (dst : Option (BitVec 7))
  /-- SMB_WRITE_SLOT_LOW (R933): SMBus code 0x10 stages slot bytes 0–127. -/
  | smbWriteSlotLow (bs : List Byte) (pec : Option Bool)
  /-- SMB_WRITE_SLOT_HIGH (R933): SMBus code 0x11 stages slot bytes from 128. -/
  | smbWriteSlotHigh (count : Fin 129) (bs : List Byte) (pec : Option Bool)
  /-- SMB_SUBMIT (R935): SMBus code 0x12 hands the staged slot to the command front end as transport S. -/
  | smbSubmit (pec : Option Bool)
  /-- SMB_ALERT_RESPONSE (R937): The target answers the Alert Response Address while it asserts SMB_ALERT_N. -/
  | smbAlertResponse (wins : Bool)
  /-- LANE_LOCK_LOSS (R441): A lane of a link or Seam that is UP loses lock, or a Seam lane fails, and a full retrain starts. -/
  | laneLockLoss (target : BitVec 8)
  /-- LINK_RETRAIN_TIMEOUT (R449): A LINK_RETRAIN whose target is not UP 100 ms after the command completes with TIMEOUT while training continues. -/
  | linkRetrainTimeout (c : Cmd)
  /-- HOST_LINK_UP (R951): With PERST# deasserted after boot step 3, the host link trains to CXL or PCIe mode and sets CMD_IF_STATUS.LINK_UP. -/
  | hostLinkUp (cxl : Bool) (width : Fin 3) (rate : Fin 5)
  /-- BUS_MASTER_ENABLE_CHANGE (R671): A host configuration write changes Bus Master Enable, which holds or releases fetches, completion writes, stage transfers and pending MSI-X messages. -/
  | busMasterEnableChange (bme : Bool) (mps : Fin 3) (mrrs : Fin 6)
  /-- RAIL_TARGET_REACHED (R842): A Press rail reaches its raised AVS target, the faster P-state pattern starts at the next window boundary, and PSTATE_SET completes. -/
  | railTargetReached (d : Fin 8) (us : BitVec 32)
  /-- RESET_RELEASE (R818): After a commanded UNIT_RESET has held reset for at least 10 µs, the unit is released and begins its leave-reset order. -/
  | resetRelease (u : Fin 298)
  /-- POWER_ON_RESET (R816): Rising supplies reset the whole package, the always-on domain included. -/
  | powerOnReset
  /-- VAUX_UNDERVOLTAGE (R970): VAUX_33 below 2.85 V for 1 µs causes a power-on reset that holds until the rail recovers. -/
  | vauxUndervoltage
  /-- PKG_RESET_ASSERT (R976): A low level on PKG_RESET_N that passes the glitch filter starts a cold reset. -/
  | pkgResetAssert
  /-- FW_BOOT_TIMEOUT (R942): FW_READY not set within LIMIT_MS makes the module try the other copy of the C0 firmware. -/
  | fwBootTimeout
  /-- SWITCHOVER_COMPLETE (R137): The reference PLL completes a switchover to the other qualified source. -/
  | switchoverComplete
  /-- HOLDOVER_EXPIRY (R141): At 10 ms of holdover the KL3 sets HOLD_EXP and logs it. -/
  | holdoverExpiry
  /-- BAR_BOUNDARY (R60): After 2^k beats a bar ends: bar-closing entries, actions, patches and stops take effect and the next bar begins. -/
  | barBoundary
  /-- BAR_NOTE_CUTOFF (R71): At the cutoff each Mangle die freezes its view and sends a bar note toward the other. -/
  | barNoteCutoff
  /-- BAR_NOTE_MERGE (R71): Each Mangle die merges both views and sends the decision to the Press dies. -/
  | barNoteMerge
  /-- COUNTIN_BAR0_START (R76): W beats after the count-in the chip begins bar 0 and Score time. -/
  | countinBar0Start
  /-- GATE_TIMEOUT (R102): A rubato chip that waits more than GATE_LIMIT bars of gate beats raises GATE_TIMEOUT and halts. -/
  | gateTimeout
  /-- PATCH_LATE (R338): The cutoff of bar S − 1 passes before staging ends, so the patch is discarded. -/
  | patchLate
  /-- FERMATA_ENTRY (R114): A FERMATA desk entry on M0 of the anchor package counts as a fermata raised in its bar. -/
  | fermataEntry
  /-- FW_ACTIVATE_REVERT (R848): An activation not ready within LIMIT_MS, or failing its tests, reverts to the previous image. -/
  | fwActivateRevert
  /-- ZEROIZE_N_LATCH (R899): ZEROIZE_N held low for 10 µs latches a zeroization request that the module serves. -/
  | zeroizeNLatch
  /-- TAP_RESET (R918): The TAP controller resets on TRST_N or five TMS-high clocks. -/
  | tapReset
  /-- ARP_PREPARE (R930): Prepare to ARP is acknowledged by an eligible target. -/
  | arpPrepare
  /-- SMB_READ_STATUS (R934): SMBus code 0x01 returns the sideband STATUS byte. -/
  | smbReadStatus
  /-- SMB_READ_SM_STATUS (R934): SMBus code 0x02 returns SM_STATUS. -/
  | smbReadSmStatus
  /-- SMB_READ_ID (R934): SMBus code 0x03 returns GLB_SERIAL and GLB_ID. -/
  | smbReadId
  /-- SMB_READ_TEMP (R934): SMBus code 0x04 returns the hottest die temperature. -/
  | smbReadTemp
  /-- SMB_COMMAND_DONE (R936): A transport-S completion is stored, DONE is set and SMB_ALERT_N may be asserted. -/
  | smbCommandDone
  /-- SMB_READ_COMPLETION (R936): SMBus code 0x13 returns the completion and clears DONE and ALERT. -/
  | smbReadCompletion
  /-- SMB_TIMEOUT (R927): A clock held low for 25 ms releases the bus and sets TIMEOUT. -/
  | smbTimeout
  /-- ACTIVATION_DRAIN_TIMEOUT (R846): 100 ms into a firmware activation, commands still in flight complete with BUSY and the cores are reset. -/
  | activationDrainTimeout
  deriving DecidableEq, Repr

end Sys2Proof
end

