-- ==== Sys2Proof/Decode.lean ====
section
/-! DEFINITION. The reading of table words: no row of this part's table gives bits to its command. -/

namespace Sys2Proof

/-- The command that a word spells by the bits of spec/opcode_table.json: none, since no row of that table gives bits (DESIGN CHOICE, log entry 8). -/
def decodeTableWord (_nbits _w : Nat) : Option Instr := none

end Sys2Proof
end

