-- ==== Sys2Proof/Config.lean ====
section
/-! DEFINITION. What no rule of the spec fixes: free values, and the standard algorithms the spec names
without restating them. Every constant here is opaque: no proof can see a value of it. -/

namespace Sys2Proof

/-- Free value (DESIGN CHOICE, log entry 2): the DRBG's output bytes (R860, R872, R876), one per count of `State.free`. -/
opaque Config.drbgByte : Nat → Byte

/-- Free value (DESIGN CHOICE, log entry 3): a 64-bit value the spec leaves undefined, one per count of `State.free`. -/
opaque Config.freeWord : Nat → Word

/-- SHA-384 of FIPS 180-4 (R860), not restated by the spec (DESIGN CHOICE, log entry 4). -/
opaque Config.sha384 : List Byte → List Byte

/-- ECDSA P-384 verification of FIPS 186-5 (R860): public key, signed bytes, signature (DESIGN CHOICE, log entry 4). -/
opaque Config.ecdsaVerifies : List Byte → List Byte → List Byte → Bool

/-- AES-256 KW unwrapping of SP 800-38F (R860, R887): key encryption key and wrapped bytes (DESIGN CHOICE, log entry 4). -/
opaque Config.kwUnwrap : List Byte → List Byte → Option (List Byte)

/-- AES-256-GCM encryption of SP 800-38D (R860, R888): key, IV, plaintext to ciphertext and tag (DESIGN CHOICE, log entry 4). -/
opaque Config.gcmEncrypt : List Byte → List Byte → List Byte → List Byte × List Byte

/-- AES-256-GCM decryption (R888): key, IV, ciphertext, tag to the plaintext when the tag verifies (DESIGN CHOICE, log entry 4). -/
opaque Config.gcmDecrypt : List Byte → List Byte → List Byte → List Byte → Option (List Byte)

/-- Free value (DESIGN CHOICE, log entry 3): the IV of slice-key wrapping (R860) from slot, generation and invocation counter; the spec gives its parts and
not the order of their bytes. -/
opaque Config.wrapIv : Nat → Nat → Nat → List Byte

/-- Free value (DESIGN CHOICE, log entry 3): the MiB that a capture area uses (UN_CAP_USED) when its log holds items of that many data bytes; the
spec gives the items no layout (R780, R782) (DESIGN CHOICE, log entry 90). -/
opaque Config.captureMib : Nat → Nat

/-- Free value (DESIGN CHOICE, log entry 105): the parity that OTP_CHECK holds over the bytes of the other fuse fields (R861); the spec names no code. -/
opaque Config.otpParity : List Byte → BitVec 64

end Sys2Proof
end

