-- ==== Sys2Proof/Machine/Reg.lean ====
section
/-! DEFINITION. What the spec's register headings and tables say of a register: its offset, width,
reset domain, fields, access codes and reset value (R17, R22 to R24), and where an instance lies in BAR0 (R46). -/

namespace Sys2Proof.Machine

/-- The access codes of R17. -/
inductive Acc where
  | ro | rw | rwl | w1c | w1s | rc | wo
  deriving DecidableEq, Repr

/-- The reset-domain tags of R24. -/
inductive Dom where
  | por | cold | c0 | die | unit
  deriving DecidableEq, Repr

/-- One register family. `dies` gives the dies (R165) whose window holds an instance, when the first
index is a die; `dims` gives the count and stride of each further index; `exc` lists the instances
whose reset value is not `reset`. -/
structure Reg where
  name : String
  dies : Option (Nat × Nat)
  off : Nat
  dims : List (Nat × Nat)
  width : Nat
  dom : Dom
  reset : Nat
  exc : List (List Nat × Nat)
  fields : List (Fld × Acc)
  deriving DecidableEq, Repr

/-- The BAR0 base of a die's window (R46; for C0 and E0 so placed that the Seam groups of R452 fall right). -/
def dieWin (d : Nat) : Nat :=
  if d < 8 then 0x0080_0000 + d * 0x0010_0000
  else if d = 8 then 0x0100_0000
  else if d = 9 then 0x0120_0000
  else if d = 10 then 0x0030_2000
  else 0x0140_0000

/-- The same register: no two share their offset and the dies that hold them. -/
def Reg.is (r q : Reg) : Bool := r.off == q.off && r.dies == q.dies

/-- The offset that a list of indices adds. -/
def dimOff : List (Nat × Nat) → List Nat → Nat
  | (_, st) :: ds, i :: is => i * st + dimOff ds is
  | _, _ => 0

/-- The BAR0 offset of an instance. -/
def Reg.addr (r : Reg) (ix : List Nat) : Nat :=
  match r.dies with
  | none => r.off + dimOff r.dims ix
  | some _ =>
    match ix with
    | d :: is => dieWin d + r.off + dimOff r.dims is
    | [] => r.off

/-- The reset value of an instance (DESIGN CHOICE, log entry 102). -/
def Reg.resetAt (r : Reg) (ix : List Nat) : Word :=
  BitVec.ofNat 64 (match r.exc.find? (fun e => e.1 == ix) with
    | some e => e.2
    | none => r.reset)

/-- The bits of a register that carry one access code. -/
def Reg.bitsOf (r : Reg) (a : Acc) : Word :=
  (r.fields.filter (fun f => f.2 == a)).foldl (fun m f => m ||| BitVec.ofNat 64 ((2 ^ f.1.width - 1) * 2 ^ f.1.lo)) 0

end Sys2Proof.Machine
end

