-- ==== Sys2Proof/Machine/Regs0.lean ====
section
/-! DEFINITION. The registers of the spec files 00_scope.md, 01_package.md, 02_score_time.md, 03_clocks.md: one definition per register heading, one per field. -/

namespace Sys2Proof.Machine

/-- GLB_ABSENT_ACCESS (00_scope.md). -/
def GLB_ABSENT_ACCESS : Reg :=
  ⟨"GLB_ABSENT_ACCESS", none, 0x40, [], 32, .cold, 0x0,
    [],
    [(⟨0, 1⟩, .w1c), (⟨1, 1⟩, .w1c), (⟨8, 8⟩, .ro), (⟨16, 6⟩, .ro)]⟩
def GLB_ABSENT_ACCESS.ACCESS : Fld := ⟨0, 1⟩
def GLB_ABSENT_ACCESS.WRITE : Fld := ⟨1, 1⟩
def GLB_ABSENT_ACCESS.COUNT : Fld := ⟨8, 8⟩
def GLB_ABSENT_ACCESS.FIRST_MB : Fld := ⟨16, 6⟩

/-- GLB_ID (01_package.md). -/
def GLB_ID : Reg :=
  ⟨"GLB_ID", none, 0x0, [], 64, .por, 0x352e7,
    [],
    [(⟨0, 16⟩, .ro), (⟨16, 8⟩, .ro), (⟨24, 4⟩, .ro), (⟨28, 4⟩, .ro), (⟨32, 4⟩, .ro)]⟩
def GLB_ID.VENDOR : Fld := ⟨0, 16⟩
def GLB_ID.FAMILY : Fld := ⟨16, 8⟩
def GLB_ID.STEPPING : Fld := ⟨24, 4⟩
def GLB_ID.VARIANT : Fld := ⟨28, 4⟩
def GLB_ID.GRADE : Fld := ⟨32, 4⟩

/-- GLB_CAP0 (01_package.md). -/
def GLB_CAP0 : Reg :=
  ⟨"GLB_CAP0", none, 0x8, [], 32, .por, 0x300000,
    [],
    [(⟨0, 8⟩, .ro), (⟨8, 8⟩, .ro), (⟨16, 1⟩, .ro), (⟨17, 1⟩, .ro), (⟨18, 1⟩, .ro), (⟨19, 1⟩, .ro), (⟨20, 1⟩, .ro), (⟨21, 1⟩, .ro)]⟩
def GLB_CAP0.PRESS_DIE : Fld := ⟨0, 8⟩
def GLB_CAP0.HBM : Fld := ⟨8, 8⟩
def GLB_CAP0.E0 : Fld := ⟨16, 1⟩
def GLB_CAP0.UNISON : Fld := ⟨17, 1⟩
def GLB_CAP0.RELAY3 : Fld := ⟨18, 1⟩
def GLB_CAP0.RELAY7 : Fld := ⟨19, 1⟩
def GLB_CAP0.M0 : Fld := ⟨20, 1⟩
def GLB_CAP0.M1 : Fld := ⟨21, 1⟩

/-- GLB_CAP1 (01_package.md). -/
def GLB_CAP1 : Reg :=
  ⟨"GLB_CAP1", none, 0xc, [], 32, .por, 0x18740c20,
    [],
    [(⟨0, 8⟩, .ro), (⟨8, 8⟩, .ro), (⟨16, 4⟩, .ro), (⟨20, 1⟩, .ro), (⟨21, 1⟩, .ro), (⟨22, 1⟩, .ro), (⟨24, 8⟩, .ro)]⟩
def GLB_CAP1.PRESSES_PER_DIE : Fld := ⟨0, 8⟩
def GLB_CAP1.LINKS : Fld := ⟨8, 8⟩
def GLB_CAP1.LEGACY_MAX : Fld := ⟨16, 4⟩
def GLB_CAP1.G1 : Fld := ⟨20, 1⟩
def GLB_CAP1.G2 : Fld := ⟨21, 1⟩
def GLB_CAP1.CHIPKILL : Fld := ⟨22, 1⟩
def GLB_CAP1.STACK_GIB : Fld := ⟨24, 8⟩

/-- GLB_SERIAL (01_package.md). -/
def GLB_SERIAL : Reg :=
  ⟨"GLB_SERIAL", none, 0x20, [], 64, .por, 0x0,
    [],
    [(⟨0, 64⟩, .ro)]⟩
def GLB_SERIAL.SERIAL : Fld := ⟨0, 64⟩

/-- SCR_TEMPO_CFG (02_score_time.md). -/
def SCR_TEMPO_CFG : Reg :=
  ⟨"SCR_TEMPO_CFG", some (0, 9), 0x1040, [], 64, .die, 0x0,
    [],
    [(⟨0, 5⟩, .ro), (⟨8, 8⟩, .ro), (⟨16, 1⟩, .ro), (⟨17, 1⟩, .ro), (⟨18, 1⟩, .ro), (⟨24, 8⟩, .ro), (⟨32, 8⟩, .ro), (⟨40, 8⟩, .ro)]⟩
def SCR_TEMPO_CFG.K : Fld := ⟨0, 5⟩
def SCR_TEMPO_CFG.D64M1 : Fld := ⟨8, 8⟩
def SCR_TEMPO_CFG.RUBATO : Fld := ⟨16, 1⟩
def SCR_TEMPO_CFG.ACTION : Fld := ⟨17, 1⟩
def SCR_TEMPO_CFG.ANCHOR : Fld := ⟨18, 1⟩
def SCR_TEMPO_CFG.REGION : Fld := ⟨24, 8⟩
def SCR_TEMPO_CFG.FERM_LEAD : Fld := ⟨32, 8⟩
def SCR_TEMPO_CFG.GATE_LIMIT : Fld := ⟨40, 8⟩

/-- SCR_BEAT (02_score_time.md). -/
def SCR_BEAT : Reg :=
  ⟨"SCR_BEAT", some (0, 9), 0x1048, [], 64, .die, 0x0,
    [],
    [(⟨0, 32⟩, .ro), (⟨32, 16⟩, .ro), (⟨48, 1⟩, .ro), (⟨49, 1⟩, .ro), (⟨50, 1⟩, .ro), (⟨51, 1⟩, .ro), (⟨52, 1⟩, .ro), (⟨53, 1⟩, .ro), (⟨54, 1⟩, .ro)]⟩
def SCR_BEAT.BARNO : Fld := ⟨0, 32⟩
def SCR_BEAT.BEAT : Fld := ⟨32, 16⟩
def SCR_BEAT.RUNNING : Fld := ⟨48, 1⟩
def SCR_BEAT.HELD : Fld := ⟨49, 1⟩
def SCR_BEAT.PENDING : Fld := ⟨50, 1⟩
def SCR_BEAT.GATED : Fld := ⟨51, 1⟩
def SCR_BEAT.FALLBACK : Fld := ⟨52, 1⟩
def SCR_BEAT.HALTED : Fld := ⟨53, 1⟩
def SCR_BEAT.ARMED : Fld := ⟨54, 1⟩

/-- SCR_SBAR (02_score_time.md). -/
def SCR_SBAR : Reg :=
  ⟨"SCR_SBAR", some (0, 9), 0x1050, [], 64, .die, 0x0,
    [],
    [(⟨0, 32⟩, .ro), (⟨32, 16⟩, .ro), (⟨48, 1⟩, .ro), (⟨49, 1⟩, .ro)]⟩
def SCR_SBAR.SBAR : Fld := ⟨0, 32⟩
def SCR_SBAR.ORDER_SEQ : Fld := ⟨32, 16⟩
def SCR_SBAR.ORDER_VALID : Fld := ⟨48, 1⟩
def SCR_SBAR.INDEF : Fld := ⟨49, 1⟩

/-- SCR_FERM (02_score_time.md). -/
def SCR_FERM : Reg :=
  ⟨"SCR_FERM", some (0, 9), 0x1058, [], 64, .die, 0x0,
    [],
    [(⟨0, 32⟩, .ro), (⟨32, 32⟩, .ro)]⟩
def SCR_FERM.F : Fld := ⟨0, 32⟩
def SCR_FERM.R : Fld := ⟨32, 32⟩

/-- SCR_TEMPO_FAULT (02_score_time.md). -/
def SCR_TEMPO_FAULT : Reg :=
  ⟨"SCR_TEMPO_FAULT", some (0, 9), 0x1060, [], 32, .die, 0x0,
    [],
    [(⟨0, 1⟩, .w1c), (⟨1, 3⟩, .ro), (⟨4, 4⟩, .ro), (⟨8, 8⟩, .ro), (⟨16, 1⟩, .w1c)]⟩
def SCR_TEMPO_FAULT.FAULT : Fld := ⟨0, 1⟩
def SCR_TEMPO_FAULT.CAUSE : Fld := ⟨1, 3⟩
def SCR_TEMPO_FAULT.PORT : Fld := ⟨4, 4⟩
def SCR_TEMPO_FAULT.ERROR : Fld := ⟨8, 8⟩
def SCR_TEMPO_FAULT.MULTI : Fld := ⟨16, 1⟩

/-- CLK_REF_CFG (03_clocks.md). -/
def CLK_REF_CFG : Reg :=
  ⟨"CLK_REF_CFG", none, 0x300000, [], 32, .por, 0x10c,
    [],
    [(⟨0, 1⟩, .rw), (⟨1, 1⟩, .rw), (⟨2, 1⟩, .rw), (⟨3, 1⟩, .rw), (⟨8, 8⟩, .rw)]⟩
def CLK_REF_CFG.PREFER : Fld := ⟨0, 1⟩
def CLK_REF_CFG.REVERT : Fld := ⟨1, 1⟩
def CLK_REF_CFG.A_EN : Fld := ⟨2, 1⟩
def CLK_REF_CFG.B_EN : Fld := ⟨3, 1⟩
def CLK_REF_CFG.QUAL_MS : Fld := ⟨8, 8⟩

/-- CLK_FWD_CFG (03_clocks.md). -/
def CLK_FWD_CFG : Reg :=
  ⟨"CLK_FWD_CFG", none, 0x300008, [], 32, .por, 0x0,
    [],
    [(⟨0, 1⟩, .rw), (⟨4, 4⟩, .rw), (⟨8, 1⟩, .rw), (⟨12, 4⟩, .rw)]⟩
def CLK_FWD_CFG.MODE : Fld := ⟨0, 1⟩
def CLK_FWD_CFG.SRC_LINK : Fld := ⟨4, 4⟩
def CLK_FWD_CFG.BACKUP_VALID : Fld := ⟨8, 1⟩
def CLK_FWD_CFG.BACKUP_LINK : Fld := ⟨12, 4⟩

/-- CLK_REF_STATUS (03_clocks.md). -/
def CLK_REF_STATUS : Reg :=
  ⟨"CLK_REF_STATUS", none, 0x300010, [], 32, .por, 0x50,
    [],
    [(⟨0, 1⟩, .ro), (⟨1, 1⟩, .ro), (⟨2, 1⟩, .ro), (⟨3, 1⟩, .ro), (⟨4, 3⟩, .ro), (⟨7, 1⟩, .ro), (⟨8, 1⟩, .w1c), (⟨9, 1⟩, .w1c), (⟨10, 1⟩, .w1c), (⟨11, 1⟩, .w1c), (⟨12, 1⟩, .w1c), (⟨13, 1⟩, .w1c), (⟨14, 1⟩, .w1c), (⟨15, 1⟩, .w1c), (⟨16, 16⟩, .ro)]⟩
def CLK_REF_STATUS.A_QUAL : Fld := ⟨0, 1⟩
def CLK_REF_STATUS.B_QUAL : Fld := ⟨1, 1⟩
def CLK_REF_STATUS.SRC_QUAL : Fld := ⟨2, 1⟩
def CLK_REF_STATUS.BACKUP_QUAL : Fld := ⟨3, 1⟩
def CLK_REF_STATUS.ACTIVE : Fld := ⟨4, 3⟩
def CLK_REF_STATUS.HOLD_EXP : Fld := ⟨7, 1⟩
def CLK_REF_STATUS.A_LOST : Fld := ⟨8, 1⟩
def CLK_REF_STATUS.B_LOST : Fld := ⟨9, 1⟩
def CLK_REF_STATUS.SRC_LOST : Fld := ⟨10, 1⟩
def CLK_REF_STATUS.BACKUP_LOST : Fld := ⟨11, 1⟩
def CLK_REF_STATUS.SWITCHED : Fld := ⟨12, 1⟩
def CLK_REF_STATUS.HOLDOVER : Fld := ⟨13, 1⟩
def CLK_REF_STATUS.CFG_IGNORED : Fld := ⟨14, 1⟩
def CLK_REF_STATUS.RETURNED : Fld := ⟨15, 1⟩
def CLK_REF_STATUS.SWITCHES : Fld := ⟨16, 16⟩

/-- CLK_HOLDOVER (03_clocks.md). -/
def CLK_HOLDOVER : Reg :=
  ⟨"CLK_HOLDOVER", none, 0x300018, [], 32, .por, 0x0,
    [],
    [(⟨0, 24⟩, .ro)]⟩
def CLK_HOLDOVER.ELAPSED_US : Fld := ⟨0, 24⟩

/-- CLK_DIE (03_clocks.md). -/
def CLK_DIE : Reg :=
  ⟨"CLK_DIE", none, 0x300040, [(12, 0x4)], 32, .cold, 0x0,
    [],
    [(⟨0, 1⟩, .ro), (⟨1, 1⟩, .w1c), (⟨2, 1⟩, .w1c), (⟨8, 8⟩, .ro), (⟨16, 4⟩, .ro), (⟨20, 4⟩, .ro)]⟩
def CLK_DIE.LOCKED : Fld := ⟨0, 1⟩
def CLK_DIE.UNLOCK : Fld := ⟨1, 1⟩
def CLK_DIE.CLOCK_RESET : Fld := ⟨2, 1⟩
def CLK_DIE.MULT : Fld := ⟨8, 8⟩
def CLK_DIE.FAST_DIV : Fld := ⟨16, 4⟩
def CLK_DIE.FAB_DIV : Fld := ⟨20, 4⟩

/-- Every register of this file. -/
def regs0 : List Reg :=
  [GLB_ABSENT_ACCESS, GLB_ID, GLB_CAP0, GLB_CAP1, GLB_SERIAL, SCR_TEMPO_CFG, SCR_BEAT, SCR_SBAR, SCR_FERM, SCR_TEMPO_FAULT, CLK_REF_CFG, CLK_FWD_CFG, CLK_REF_STATUS, CLK_HOLDOVER, CLK_DIE]

end Sys2Proof.Machine
end

