-- ==== Sys2Proof/Machine/Regs1.lean ====
section
/-! DEFINITION. The registers of the spec files 04_press.md, 06_conductor.md, 07_memory.md: one definition per register heading, one per field. -/

namespace Sys2Proof.Machine

/-- PRS_DIE_RUN (04_press.md). -/
def PRS_DIE_RUN : Reg :=
  ⟨"PRS_DIE_RUN", some (0, 7), 0x0, [], 32, .die, 0x0,
    [],
    [(⟨0, 32⟩, .ro)]⟩
def PRS_DIE_RUN.RUN : Fld := ⟨0, 32⟩

/-- PRS_DIE_PAUSED (04_press.md). -/
def PRS_DIE_PAUSED : Reg :=
  ⟨"PRS_DIE_PAUSED", some (0, 7), 0x4, [], 32, .die, 0x0,
    [],
    [(⟨0, 32⟩, .ro)]⟩
def PRS_DIE_PAUSED.PAUSED : Fld := ⟨0, 32⟩

/-- PRS_DIE_EVENT (04_press.md). -/
def PRS_DIE_EVENT : Reg :=
  ⟨"PRS_DIE_EVENT", some (0, 7), 0x8, [], 32, .die, 0x0,
    [],
    [(⟨0, 32⟩, .w1c)]⟩
def PRS_DIE_EVENT.PAUSE_DONE : Fld := ⟨0, 32⟩

/-- PRS_CTRL (04_press.md). -/
def PRS_CTRL : Reg :=
  ⟨"PRS_CTRL", some (0, 7), 0x10000, [(32, 0x4000)], 32, .unit, 0x0,
    [],
    [(⟨0, 1⟩, .rw), (⟨1, 1⟩, .wo)]⟩
def PRS_CTRL.PAUSE : Fld := ⟨0, 1⟩
def PRS_CTRL.CNT_CLR : Fld := ⟨1, 1⟩

/-- PRS_STATUS (04_press.md). -/
def PRS_STATUS : Reg :=
  ⟨"PRS_STATUS", some (0, 7), 0x10004, [(32, 0x4000)], 32, .unit, 0x80,
    [],
    [(⟨0, 4⟩, .ro), (⟨4, 1⟩, .ro), (⟨5, 1⟩, .w1c), (⟨6, 1⟩, .w1c), (⟨7, 1⟩, .ro)]⟩
def PRS_STATUS.PAUSED : Fld := ⟨0, 4⟩
def PRS_STATUS.HOLD_WAIT : Fld := ⟨4, 1⟩
def PRS_STATUS.DBG_DENIED : Fld := ⟨5, 1⟩
def PRS_STATUS.DBG_HELD : Fld := ⟨6, 1⟩
def PRS_STATUS.ZEROING : Fld := ⟨7, 1⟩

/-- PRS_HOLD_SEL (04_press.md). -/
def PRS_HOLD_SEL : Reg :=
  ⟨"PRS_HOLD_SEL", some (0, 7), 0x10010, [(32, 0x4000)], 32, .unit, 0x0,
    [],
    [(⟨0, 11⟩, .rw)]⟩
def PRS_HOLD_SEL.BLOCK : Fld := ⟨0, 11⟩

/-- PRS_HOLD_CNT (04_press.md). -/
def PRS_HOLD_CNT : Reg :=
  ⟨"PRS_HOLD_CNT", some (0, 7), 0x10014, [(32, 0x4000)], 32, .unit, 0x0,
    [],
    [(⟨0, 4⟩, .ro)]⟩
def PRS_HOLD_CNT.COUNT : Fld := ⟨0, 4⟩

/-- PRS_HOLDS (04_press.md). -/
def PRS_HOLDS : Reg :=
  ⟨"PRS_HOLDS", some (0, 7), 0x10018, [(32, 0x4000)], 32, .unit, 0x0,
    [],
    [(⟨0, 12⟩, .ro), (⟨16, 16⟩, .ro)]⟩
def PRS_HOLDS.HELD_BLOCKS : Fld := ⟨0, 12⟩
def PRS_HOLDS.HOLDS : Fld := ⟨16, 16⟩

/-- PRS_BOARD_ADDR (04_press.md). -/
def PRS_BOARD_ADDR : Reg :=
  ⟨"PRS_BOARD_ADDR", some (0, 7), 0x10020, [(32, 0x4000)], 32, .unit, 0x0,
    [],
    [(⟨3, 17⟩, .rw)]⟩
def PRS_BOARD_ADDR.ADDR : Fld := ⟨3, 17⟩

/-- PRS_BOARD_DATA (04_press.md). -/
def PRS_BOARD_DATA : Reg :=
  ⟨"PRS_BOARD_DATA", some (0, 7), 0x10028, [(32, 0x4000)], 64, .unit, 0x0,
    [],
    [(⟨0, 64⟩, .rw)]⟩
def PRS_BOARD_DATA.DATA : Fld := ⟨0, 64⟩

/-- PRS_BOARD_STALLS (04_press.md). -/
def PRS_BOARD_STALLS : Reg :=
  ⟨"PRS_BOARD_STALLS", some (0, 7), 0x10030, [(32, 0x4000)], 32, .unit, 0x0,
    [],
    [(⟨0, 32⟩, .ro)]⟩
def PRS_BOARD_STALLS.COUNT : Fld := ⟨0, 32⟩

/-- PRS_HOLD_STALLS (04_press.md). -/
def PRS_HOLD_STALLS : Reg :=
  ⟨"PRS_HOLD_STALLS", some (0, 7), 0x10034, [(32, 0x4000)], 32, .unit, 0x0,
    [],
    [(⟨0, 32⟩, .ro)]⟩
def PRS_HOLD_STALLS.COUNT : Fld := ⟨0, 32⟩

/-- PRS_HOLD_FULL (04_press.md). -/
def PRS_HOLD_FULL : Reg :=
  ⟨"PRS_HOLD_FULL", some (0, 7), 0x10038, [(32, 0x4000)], 32, .unit, 0x0,
    [],
    [(⟨0, 32⟩, .ro)]⟩
def PRS_HOLD_FULL.COUNT : Fld := ⟨0, 32⟩

/-- SCT_STATE (04_press.md). -/
def SCT_STATE : Reg :=
  ⟨"SCT_STATE", some (0, 7), 0x11000, [(32, 0x4000), (4, 0x400)], 32, .unit, 0x0,
    [],
    [(⟨0, 16⟩, .ro), (⟨16, 3⟩, .ro), (⟨19, 1⟩, .ro), (⟨20, 12⟩, .ro)]⟩
def SCT_STATE.PC : Fld := ⟨0, 16⟩
def SCT_STATE.STATE : Fld := ⟨16, 3⟩
def SCT_STATE.IN_STRIP : Fld := ⟨19, 1⟩
def SCT_STATE.NEXT : Fld := ⟨20, 12⟩

/-- SCT_BANKMASK (04_press.md). -/
def SCT_BANKMASK : Reg :=
  ⟨"SCT_BANKMASK", some (0, 7), 0x11004, [(32, 0x4000), (4, 0x400)], 32, .unit, 0x0,
    [],
    [(⟨0, 8⟩, .rw), (⟨8, 8⟩, .ro)]⟩
def SCT_BANKMASK.GATE : Fld := ⟨0, 8⟩
def SCT_BANKMASK.WAKING : Fld := ⟨8, 8⟩

/-- SCT_TSTART (04_press.md). -/
def SCT_TSTART : Reg :=
  ⟨"SCT_TSTART", some (0, 7), 0x11008, [(32, 0x4000), (4, 0x400)], 32, .unit, 0x0,
    [],
    [(⟨0, 8⟩, .rw)]⟩
def SCT_TSTART.ROW : Fld := ⟨0, 8⟩

/-- SCT_BANK_STALLS (04_press.md). -/
def SCT_BANK_STALLS : Reg :=
  ⟨"SCT_BANK_STALLS", some (0, 7), 0x11010, [(32, 0x4000), (4, 0x400)], 32, .unit, 0x0,
    [],
    [(⟨0, 32⟩, .ro)]⟩
def SCT_BANK_STALLS.COUNT : Fld := ⟨0, 32⟩

/-- SCT_WAKES (04_press.md). -/
def SCT_WAKES : Reg :=
  ⟨"SCT_WAKES", some (0, 7), 0x11014, [(32, 0x4000), (4, 0x400)], 32, .unit, 0x0,
    [],
    [(⟨0, 16⟩, .ro)]⟩
def SCT_WAKES.COUNT : Fld := ⟨0, 16⟩

/-- SCR_STATUS (06_conductor.md). -/
def SCR_STATUS : Reg :=
  ⟨"SCR_STATUS", some (0, 9), 0x1000, [], 32, .die, 0x0,
    [],
    [(⟨0, 1⟩, .ro), (⟨1, 1⟩, .ro), (⟨2, 1⟩, .ro), (⟨3, 1⟩, .ro), (⟨16, 7⟩, .ro), (⟨23, 1⟩, .ro)]⟩
def SCR_STATUS.INSTALLED : Fld := ⟨0, 1⟩
def SCR_STATUS.LOADING : Fld := ⟨1, 1⟩
def SCR_STATUS.STOPPING : Fld := ⟨2, 1⟩
def SCR_STATUS.FINE : Fld := ⟨3, 1⟩
def SCR_STATUS.CUEQ : Fld := ⟨16, 7⟩
def SCR_STATUS.CUEHOLD : Fld := ⟨23, 1⟩

/-- SCR_JOB (06_conductor.md). -/
def SCR_JOB : Reg :=
  ⟨"SCR_JOB", some (0, 9), 0x1008, [], 64, .die, 0x0,
    [],
    [(⟨0, 64⟩, .ro)]⟩
def SCR_JOB.JOB_ID : Fld := ⟨0, 64⟩

/-- SCR_PLACE (06_conductor.md). -/
def SCR_PLACE : Reg :=
  ⟨"SCR_PLACE", some (0, 9), 0x1010, [], 32, .die, 0x0,
    [([0], 0x0), ([1], 0x10000), ([2], 0x20000), ([3], 0x30000), ([4], 0x40000), ([5], 0x50000), ([6], 0x60000), ([7], 0x70000), ([8], 0x80000), ([9], 0x90000)],
    [(⟨0, 16⟩, .ro), (⟨16, 4⟩, .ro)]⟩
def SCR_PLACE.RANK : Fld := ⟨0, 16⟩
def SCR_PLACE.DIE : Fld := ⟨16, 4⟩

/-- SCR_PTR (06_conductor.md). -/
def SCR_PTR : Reg :=
  ⟨"SCR_PTR", some (0, 9), 0x1018, [], 32, .die, 0x0,
    [],
    [(⟨0, 15⟩, .ro), (⟨16, 3⟩, .ro)]⟩
def SCR_PTR.ENTRY : Fld := ⟨0, 15⟩
def SCR_PTR.DEPTH : Fld := ⟨16, 3⟩

/-- SCR_REP (06_conductor.md). -/
def SCR_REP : Reg :=
  ⟨"SCR_REP", some (0, 9), 0x1020, [], 64, .die, 0x0,
    [],
    [(⟨0, 64⟩, .ro)]⟩
def SCR_REP.ITER : Fld := ⟨0, 64⟩

/-- SCR_FAULT (06_conductor.md). -/
def SCR_FAULT : Reg :=
  ⟨"SCR_FAULT", some (0, 9), 0x1028, [], 32, .die, 0xff00,
    [],
    [(⟨0, 1⟩, .w1c), (⟨1, 3⟩, .ro), (⟨4, 1⟩, .w1c), (⟨8, 8⟩, .ro)]⟩
def SCR_FAULT.FAULT : Fld := ⟨0, 1⟩
def SCR_FAULT.CAUSE : Fld := ⟨1, 3⟩
def SCR_FAULT.MULTI : Fld := ⟨4, 1⟩
def SCR_FAULT.PRESS : Fld := ⟨8, 8⟩

/-- SCR_FAULT_ENTRY (06_conductor.md). -/
def SCR_FAULT_ENTRY : Reg :=
  ⟨"SCR_FAULT_ENTRY", some (0, 9), 0x102c, [], 32, .die, 0x0,
    [],
    [(⟨0, 15⟩, .ro)]⟩
def SCR_FAULT_ENTRY.ENTRY : Fld := ⟨0, 15⟩

/-- SCR_LATE_CUES (06_conductor.md). -/
def SCR_LATE_CUES : Reg :=
  ⟨"SCR_LATE_CUES", some (0, 9), 0x1030, [], 32, .die, 0x0,
    [],
    [(⟨0, 32⟩, .ro)]⟩
def SCR_LATE_CUES.COUNT : Fld := ⟨0, 32⟩

/-- SCR_LATE_MOVES (06_conductor.md). -/
def SCR_LATE_MOVES : Reg :=
  ⟨"SCR_LATE_MOVES", some (0, 9), 0x1034, [], 32, .die, 0x0,
    [],
    [(⟨0, 32⟩, .ro)]⟩
def SCR_LATE_MOVES.COUNT : Fld := ⟨0, 32⟩

/-- SCR_TAKE_WAITS (06_conductor.md). -/
def SCR_TAKE_WAITS : Reg :=
  ⟨"SCR_TAKE_WAITS", some (0, 9), 0x1038, [], 32, .die, 0x0,
    [],
    [(⟨0, 32⟩, .ro)]⟩
def SCR_TAKE_WAITS.COUNT : Fld := ⟨0, 32⟩

/-- SCR_CUEQ_PEAK (06_conductor.md). -/
def SCR_CUEQ_PEAK : Reg :=
  ⟨"SCR_CUEQ_PEAK", some (0, 9), 0x103c, [], 32, .die, 0x0,
    [],
    [(⟨0, 7⟩, .rc)]⟩
def SCR_CUEQ_PEAK.PEAK : Fld := ⟨0, 7⟩

/-- SCR_PATCH (06_conductor.md). -/
def SCR_PATCH : Reg :=
  ⟨"SCR_PATCH", some (0, 9), 0x1068, [], 64, .die, 0x0,
    [],
    [(⟨0, 32⟩, .ro), (⟨32, 3⟩, .ro), (⟨35, 1⟩, .w1c), (⟨36, 1⟩, .w1c)]⟩
def SCR_PATCH.NEXT_S : Fld := ⟨0, 32⟩
def SCR_PATCH.STAGED : Fld := ⟨32, 3⟩
def SCR_PATCH.APPLIED : Fld := ⟨35, 1⟩
def SCR_PATCH.DISCARDED : Fld := ⟨36, 1⟩

/-- MEM_CFG (07_memory.md). -/
def MEM_CFG : Reg :=
  ⟨"MEM_CFG", none, 0x1600000, [(8, 0x20000)], 32, .die, 0x3e81802,
    [],
    [(⟨0, 1⟩, .rwl), (⟨1, 1⟩, .rw), (⟨8, 8⟩, .rw), (⟨16, 16⟩, .rw)]⟩
def MEM_CFG.CHIPKILL : Fld := ⟨0, 1⟩
def MEM_CFG.SCRUB_EN : Fld := ⟨1, 1⟩
def MEM_CFG.SCRUB_HOURS : Fld := ⟨8, 8⟩
def MEM_CFG.WAIT_US : Fld := ⟨16, 16⟩

/-- MEM_STATUS (07_memory.md). -/
def MEM_STATUS : Reg :=
  ⟨"MEM_STATUS", none, 0x1600004, [(8, 0x20000)], 32, .die, 0x0,
    [],
    [(⟨0, 1⟩, .ro), (⟨1, 1⟩, .ro), (⟨2, 1⟩, .ro), (⟨3, 1⟩, .ro), (⟨4, 1⟩, .ro), (⟨5, 7⟩, .ro), (⟨12, 1⟩, .ro)]⟩
def MEM_STATUS.TRAINED : Fld := ⟨0, 1⟩
def MEM_STATUS.SELF_REFRESH : Fld := ⟨1, 1⟩
def MEM_STATUS.CHIPKILL_ACTIVE : Fld := ⟨2, 1⟩
def MEM_STATUS.RINSING : Fld := ⟨3, 1⟩
def MEM_STATUS.FENCING : Fld := ⟨4, 1⟩
def MEM_STATUS.WB_OCC : Fld := ⟨5, 7⟩
def MEM_STATUS.HOT : Fld := ⟨12, 1⟩

/-- MEM_CE (07_memory.md). -/
def MEM_CE : Reg :=
  ⟨"MEM_CE", none, 0x1600008, [(8, 0x20000)], 32, .die, 0x0,
    [],
    [(⟨0, 32⟩, .ro)]⟩
def MEM_CE.COUNT : Fld := ⟨0, 32⟩

/-- MEM_CE_LIMIT (07_memory.md). -/
def MEM_CE_LIMIT : Reg :=
  ⟨"MEM_CE_LIMIT", none, 0x160000c, [(8, 0x20000)], 32, .die, 0x100,
    [],
    [(⟨0, 16⟩, .rw)]⟩
def MEM_CE_LIMIT.LIMIT : Fld := ⟨0, 16⟩

/-- MEM_ERR (07_memory.md). -/
def MEM_ERR : Reg :=
  ⟨"MEM_ERR", none, 0x1600010, [(8, 0x20000)], 32, .die, 0x0,
    [],
    [(⟨0, 1⟩, .w1c), (⟨1, 1⟩, .w1c), (⟨2, 1⟩, .w1c), (⟨3, 1⟩, .ro), (⟨4, 1⟩, .w1c), (⟨5, 1⟩, .w1c)]⟩
def MEM_ERR.CE : Fld := ⟨0, 1⟩
def MEM_ERR.CE_OVER : Fld := ⟨1, 1⟩
def MEM_ERR.UE : Fld := ⟨2, 1⟩
def MEM_ERR.UE_HELD : Fld := ⟨3, 1⟩
def MEM_ERR.WAIT : Fld := ⟨4, 1⟩
def MEM_ERR.WB_LOST : Fld := ⟨5, 1⟩

/-- MEM_ERR_ADDR (07_memory.md). -/
def MEM_ERR_ADDR : Reg :=
  ⟨"MEM_ERR_ADDR", none, 0x1600018, [(8, 0x20000)], 64, .die, 0x0,
    [],
    [(⟨0, 48⟩, .ro), (⟨48, 1⟩, .ro)]⟩
def MEM_ERR_ADDR.OFFSET : Fld := ⟨0, 48⟩
def MEM_ERR_ADDR.UNCORR : Fld := ⟨48, 1⟩

/-- MEM_UE_HOLD (07_memory.md). -/
def MEM_UE_HOLD : Reg :=
  ⟨"MEM_UE_HOLD", none, 0x1600020, [(8, 0x20000)], 64, .die, 0x0,
    [],
    [(⟨0, 48⟩, .ro), (⟨48, 8⟩, .ro), (⟨56, 2⟩, .ro), (⟨63, 1⟩, .wo)]⟩
def MEM_UE_HOLD.OFFSET : Fld := ⟨0, 48⟩
def MEM_UE_HOLD.PRESS : Fld := ⟨48, 8⟩
def MEM_UE_HOLD.QUEUE : Fld := ⟨56, 2⟩
def MEM_UE_HOLD.RETRY : Fld := ⟨63, 1⟩

/-- MEM_WAIT (07_memory.md). -/
def MEM_WAIT : Reg :=
  ⟨"MEM_WAIT", none, 0x1600028, [(8, 0x20000)], 32, .die, 0x0,
    [],
    [(⟨0, 8⟩, .ro), (⟨8, 8⟩, .w1c)]⟩
def MEM_WAIT.STACK : Fld := ⟨0, 8⟩
def MEM_WAIT.TIMEOUT : Fld := ⟨8, 8⟩

/-- MEM_STALE_FILLS (07_memory.md). -/
def MEM_STALE_FILLS : Reg :=
  ⟨"MEM_STALE_FILLS", none, 0x1600030, [(8, 0x20000)], 32, .die, 0x0,
    [],
    [(⟨0, 32⟩, .ro)]⟩
def MEM_STALE_FILLS.COUNT : Fld := ⟨0, 32⟩

/-- MEM_STRAY (07_memory.md). -/
def MEM_STRAY : Reg :=
  ⟨"MEM_STRAY", none, 0x1600040, [], 32, .die, 0x0,
    [],
    [(⟨0, 1⟩, .w1c), (⟨1, 1⟩, .w1c), (⟨2, 4⟩, .ro), (⟨8, 8⟩, .ro)]⟩
def MEM_STRAY.STRAY : Fld := ⟨0, 1⟩
def MEM_STRAY.WRITE : Fld := ⟨1, 1⟩
def MEM_STRAY.SOURCE : Fld := ⟨2, 4⟩
def MEM_STRAY.COUNT : Fld := ⟨8, 8⟩

/-- MEM_STRAY_ADDR (07_memory.md). -/
def MEM_STRAY_ADDR : Reg :=
  ⟨"MEM_STRAY_ADDR", none, 0x1600048, [], 64, .die, 0x0,
    [],
    [(⟨0, 48⟩, .ro)]⟩
def MEM_STRAY_ADDR.OFFSET : Fld := ⟨0, 48⟩

/-- MEM_QDEPTH (07_memory.md). -/
def MEM_QDEPTH : Reg :=
  ⟨"MEM_QDEPTH", none, 0x1601000, [(8, 0x20000), (32, 0x20)], 64, .die, 0x0,
    [],
    [(⟨0, 7⟩, .ro), (⟨8, 7⟩, .ro), (⟨16, 7⟩, .ro), (⟨24, 7⟩, .ro), (⟨32, 7⟩, .ro), (⟨40, 7⟩, .ro)]⟩
def MEM_QDEPTH.L0 : Fld := ⟨0, 7⟩
def MEM_QDEPTH.L1 : Fld := ⟨8, 7⟩
def MEM_QDEPTH.L2 : Fld := ⟨16, 7⟩
def MEM_QDEPTH.L3 : Fld := ⟨24, 7⟩
def MEM_QDEPTH.S0 : Fld := ⟨32, 7⟩
def MEM_QDEPTH.S1 : Fld := ⟨40, 7⟩

/-- MEM_QFULL (07_memory.md). -/
def MEM_QFULL : Reg :=
  ⟨"MEM_QFULL", none, 0x1601008, [(8, 0x20000), (32, 0x20)], 32, .die, 0x0,
    [],
    [(⟨0, 32⟩, .ro)]⟩
def MEM_QFULL.COUNT : Fld := ⟨0, 32⟩

/-- MEM_SBWAIT (07_memory.md). -/
def MEM_SBWAIT : Reg :=
  ⟨"MEM_SBWAIT", none, 0x160100c, [(8, 0x20000), (32, 0x20)], 32, .die, 0x0,
    [],
    [(⟨0, 32⟩, .ro)]⟩
def MEM_SBWAIT.COUNT : Fld := ⟨0, 32⟩

/-- MEM_QCTL (07_memory.md). -/
def MEM_QCTL : Reg :=
  ⟨"MEM_QCTL", none, 0x1601010, [(8, 0x20000), (32, 0x20)], 32, .die, 0x0,
    [],
    [(⟨0, 1⟩, .wo)]⟩
def MEM_QCTL.CNT_CLR : Fld := ⟨0, 1⟩

/-- Every register of this file. -/
def regs1 : List Reg :=
  [PRS_DIE_RUN, PRS_DIE_PAUSED, PRS_DIE_EVENT, PRS_CTRL, PRS_STATUS, PRS_HOLD_SEL, PRS_HOLD_CNT, PRS_HOLDS, PRS_BOARD_ADDR, PRS_BOARD_DATA, PRS_BOARD_STALLS, PRS_HOLD_STALLS, PRS_HOLD_FULL, SCT_STATE, SCT_BANKMASK] ++
  [SCT_TSTART, SCT_BANK_STALLS, SCT_WAKES, SCR_STATUS, SCR_JOB, SCR_PLACE, SCR_PTR, SCR_REP, SCR_FAULT, SCR_FAULT_ENTRY, SCR_LATE_CUES, SCR_LATE_MOVES, SCR_TAKE_WAITS, SCR_CUEQ_PEAK, SCR_PATCH] ++
  [MEM_CFG, MEM_STATUS, MEM_CE, MEM_CE_LIMIT, MEM_ERR, MEM_ERR_ADDR, MEM_UE_HOLD, MEM_WAIT, MEM_STALE_FILLS, MEM_STRAY, MEM_STRAY_ADDR, MEM_QDEPTH, MEM_QFULL, MEM_SBWAIT, MEM_QCTL]

end Sys2Proof.Machine
end

