-- ==== Sys2Proof/Machine/Regs2.lean ====
section
/-! DEFINITION. The registers of the spec files 08_links.md, 09_score_plane.md, 10_tack_plane.md: one definition per register heading, one per field. -/

namespace Sys2Proof.Machine

/-- LNK_CTRL (08_links.md). -/
def LNK_CTRL : Reg :=
  ⟨"LNK_CTRL", some (8, 9), 0x10000, [(6, 0x1000)], 32, .unit, 0x80100,
    [],
    [(⟨0, 1⟩, .rw), (⟨1, 1⟩, .wo), (⟨2, 2⟩, .rw), (⟨8, 8⟩, .rw), (⟨16, 8⟩, .rw)]⟩
def LNK_CTRL.ENABLE : Fld := ⟨0, 1⟩
def LNK_CTRL.CNT_CLR : Fld := ⟨1, 1⟩
def LNK_CTRL.CLASS_REQ : Fld := ⟨2, 2⟩
def LNK_CTRL.RETRY_MS : Fld := ⟨8, 8⟩
def LNK_CTRL.UNCORR_MAX : Fld := ⟨16, 8⟩

/-- LNK_QUAL (08_links.md). -/
def LNK_QUAL : Reg :=
  ⟨"LNK_QUAL", some (8, 9), 0x10004, [(6, 0x1000)], 32, .unit, 0x1000,
    [],
    [(⟨0, 32⟩, .rw)]⟩
def LNK_QUAL.CORR_MAX : Fld := ⟨0, 32⟩

/-- LNK_STATUS (08_links.md). -/
def LNK_STATUS : Reg :=
  ⟨"LNK_STATUS", some (8, 9), 0x10008, [(6, 0x1000)], 32, .unit, 0x30,
    [],
    [(⟨0, 4⟩, .ro), (⟨4, 2⟩, .ro), (⟨6, 2⟩, .ro), (⟨8, 1⟩, .ro), (⟨16, 8⟩, .ro), (⟨24, 8⟩, .ro)]⟩
def LNK_STATUS.STATE : Fld := ⟨0, 4⟩
def LNK_STATUS.CLASS : Fld := ⟨4, 2⟩
def LNK_STATUS.PROFILE : Fld := ⟨6, 2⟩
def LNK_STATUS.REVERSED : Fld := ⟨8, 1⟩
def LNK_STATUS.POLARITY : Fld := ⟨16, 8⟩
def LNK_STATUS.CAUSE : Fld := ⟨24, 8⟩

/-- LNK_LATENCY (08_links.md). -/
def LNK_LATENCY : Reg :=
  ⟨"LNK_LATENCY", some (8, 9), 0x10010, [(6, 0x1000)], 32, .unit, 0x0,
    [],
    [(⟨0, 16⟩, .ro), (⟨16, 16⟩, .ro)]⟩
def LNK_LATENCY.RAW : Fld := ⟨0, 16⟩
def LNK_LATENCY.PAD : Fld := ⟨16, 16⟩

/-- LNK_PEER (08_links.md). -/
def LNK_PEER : Reg :=
  ⟨"LNK_PEER", some (8, 9), 0x10014, [(6, 0x1000)], 32, .unit, 0x0,
    [],
    [(⟨0, 16⟩, .ro), (⟨16, 4⟩, .ro), (⟨20, 1⟩, .ro)]⟩
def LNK_PEER.CHIP : Fld := ⟨0, 16⟩
def LNK_PEER.LINK : Fld := ⟨16, 4⟩
def LNK_PEER.VALID : Fld := ⟨20, 1⟩

/-- LNK_FEC_CORR (08_links.md). -/
def LNK_FEC_CORR : Reg :=
  ⟨"LNK_FEC_CORR", some (8, 9), 0x10018, [(6, 0x1000)], 32, .unit, 0x0,
    [],
    [(⟨0, 32⟩, .ro)]⟩
def LNK_FEC_CORR.COUNT : Fld := ⟨0, 32⟩

/-- LNK_FEC_UNCORR (08_links.md). -/
def LNK_FEC_UNCORR : Reg :=
  ⟨"LNK_FEC_UNCORR", some (8, 9), 0x1001c, [(6, 0x1000)], 32, .unit, 0x0,
    [],
    [(⟨0, 24⟩, .ro), (⟨24, 8⟩, .ro)]⟩
def LNK_FEC_UNCORR.COUNT : Fld := ⟨0, 24⟩
def LNK_FEC_UNCORR.BAD_TYPE : Fld := ⟨24, 8⟩

/-- LNK_LANE_ERR (08_links.md). -/
def LNK_LANE_ERR : Reg :=
  ⟨"LNK_LANE_ERR", some (8, 9), 0x10020, [(6, 0x1000), (8, 0x4)], 32, .unit, 0x0,
    [],
    [(⟨0, 32⟩, .ro)]⟩
def LNK_LANE_ERR.COUNT : Fld := ⟨0, 32⟩

/-- LNK_HOLD_SENT (08_links.md). -/
def LNK_HOLD_SENT : Reg :=
  ⟨"LNK_HOLD_SENT", some (8, 9), 0x10040, [(6, 0x1000)], 32, .unit, 0x0,
    [],
    [(⟨0, 32⟩, .ro)]⟩
def LNK_HOLD_SENT.COUNT : Fld := ⟨0, 32⟩

/-- LNK_HOLD_OBEYED (08_links.md). -/
def LNK_HOLD_OBEYED : Reg :=
  ⟨"LNK_HOLD_OBEYED", some (8, 9), 0x10044, [(6, 0x1000)], 32, .unit, 0x0,
    [],
    [(⟨0, 32⟩, .ro)]⟩
def LNK_HOLD_OBEYED.COUNT : Fld := ⟨0, 32⟩

/-- LNK_RETRAINS (08_links.md). -/
def LNK_RETRAINS : Reg :=
  ⟨"LNK_RETRAINS", some (8, 9), 0x10050, [(6, 0x1000)], 32, .unit, 0x0,
    [],
    [(⟨0, 32⟩, .ro)]⟩
def LNK_RETRAINS.COUNT : Fld := ⟨0, 32⟩

/-- LNK_SLEEP_BARS (08_links.md). -/
def LNK_SLEEP_BARS : Reg :=
  ⟨"LNK_SLEEP_BARS", some (8, 9), 0x10054, [(6, 0x1000)], 32, .unit, 0x0,
    [],
    [(⟨0, 32⟩, .ro)]⟩
def LNK_SLEEP_BARS.COUNT : Fld := ⟨0, 32⟩

/-- LNK_MESO (08_links.md). -/
def LNK_MESO : Reg :=
  ⟨"LNK_MESO", some (8, 9), 0x10048, [(6, 0x1000)], 32, .unit, 0x0,
    [],
    [(⟨0, 4⟩, .ro), (⟨4, 1⟩, .w1c), (⟨16, 16⟩, .ro)]⟩
def LNK_MESO.FILL : Fld := ⟨0, 4⟩
def LNK_MESO.MARGIN : Fld := ⟨4, 1⟩
def LNK_MESO.MARGIN_COUNT : Fld := ⟨16, 16⟩

/-- SEAM_MESO (08_links.md). -/
def SEAM_MESO : Reg :=
  ⟨"SEAM_MESO", some (0, 11), 0x2014, [(4, 0x400)], 32, .die, 0x0,
    [],
    [(⟨0, 4⟩, .ro), (⟨4, 1⟩, .w1c), (⟨16, 16⟩, .ro)]⟩
def SEAM_MESO.FILL : Fld := ⟨0, 4⟩
def SEAM_MESO.MARGIN : Fld := ⟨4, 1⟩
def SEAM_MESO.MARGIN_COUNT : Fld := ⟨16, 16⟩

/-- LNK_EVENT (08_links.md). -/
def LNK_EVENT : Reg :=
  ⟨"LNK_EVENT", some (8, 9), 0x1004c, [(6, 0x1000)], 32, .unit, 0x0,
    [],
    [(⟨0, 1⟩, .w1c), (⟨1, 1⟩, .w1c), (⟨2, 1⟩, .w1c), (⟨3, 1⟩, .w1c), (⟨4, 1⟩, .w1c)]⟩
def LNK_EVENT.DOWN : Fld := ⟨0, 1⟩
def LNK_EVENT.UP : Fld := ⟨1, 1⟩
def LNK_EVENT.RETRAIN : Fld := ⟨2, 1⟩
def LNK_EVENT.MISCABLED : Fld := ⟨3, 1⟩
def LNK_EVENT.CLASS_MISS : Fld := ⟨4, 1⟩

/-- SEAM_STATUS (08_links.md). -/
def SEAM_STATUS : Reg :=
  ⟨"SEAM_STATUS", some (0, 11), 0x2000, [(4, 0x400)], 32, .die, 0x0,
    [],
    [(⟨0, 3⟩, .ro), (⟨4, 2⟩, .ro), (⟨8, 8⟩, .ro), (⟨16, 8⟩, .ro), (⟨24, 8⟩, .ro)]⟩
def SEAM_STATUS.STATE : Fld := ⟨0, 3⟩
def SEAM_STATUS.REPAIRS : Fld := ⟨4, 2⟩
def SEAM_STATUS.RAW : Fld := ⟨8, 8⟩
def SEAM_STATUS.PAD : Fld := ⟨16, 8⟩
def SEAM_STATUS.CAUSE : Fld := ⟨24, 8⟩

/-- SEAM_CRC_ERR (08_links.md). -/
def SEAM_CRC_ERR : Reg :=
  ⟨"SEAM_CRC_ERR", some (0, 11), 0x2004, [(4, 0x400)], 32, .die, 0x0,
    [],
    [(⟨0, 32⟩, .ro)]⟩
def SEAM_CRC_ERR.COUNT : Fld := ⟨0, 32⟩

/-- SEAM_REPLAYS (08_links.md). -/
def SEAM_REPLAYS : Reg :=
  ⟨"SEAM_REPLAYS", some (0, 11), 0x2008, [(4, 0x400)], 32, .die, 0x0,
    [],
    [(⟨0, 32⟩, .ro)]⟩
def SEAM_REPLAYS.COUNT : Fld := ⟨0, 32⟩

/-- SEAM_HOLD_SENT (08_links.md). -/
def SEAM_HOLD_SENT : Reg :=
  ⟨"SEAM_HOLD_SENT", some (0, 11), 0x200c, [(4, 0x400)], 32, .die, 0x0,
    [],
    [(⟨0, 32⟩, .ro)]⟩
def SEAM_HOLD_SENT.COUNT : Fld := ⟨0, 32⟩

/-- SEAM_HOLD_OBEYED (08_links.md). -/
def SEAM_HOLD_OBEYED : Reg :=
  ⟨"SEAM_HOLD_OBEYED", some (0, 11), 0x2010, [(4, 0x400)], 32, .die, 0x0,
    [],
    [(⟨0, 32⟩, .ro)]⟩
def SEAM_HOLD_OBEYED.COUNT : Fld := ⟨0, 32⟩

/-- SEAM_EVENT (08_links.md). -/
def SEAM_EVENT : Reg :=
  ⟨"SEAM_EVENT", some (0, 11), 0x2018, [(4, 0x400)], 32, .die, 0x0,
    [],
    [(⟨0, 1⟩, .w1c), (⟨1, 1⟩, .w1c), (⟨2, 1⟩, .w1c), (⟨3, 1⟩, .w1c)]⟩
def SEAM_EVENT.DOWN : Fld := ⟨0, 1⟩
def SEAM_EVENT.UP : Fld := ⟨1, 1⟩
def SEAM_EVENT.RETRAIN : Fld := ⟨2, 1⟩
def SEAM_EVENT.NOTE_LOST : Fld := ⟨3, 1⟩

/-- BLT_QUOTA (09_score_plane.md). -/
def BLT_QUOTA : Reg :=
  ⟨"BLT_QUOTA", some (0, 7), 0x4000, [], 32, .die, 0x4000400,
    [],
    [(⟨0, 11⟩, .ro), (⟨16, 11⟩, .ro)]⟩
def BLT_QUOTA.FREE0 : Fld := ⟨0, 11⟩
def BLT_QUOTA.FREE1 : Fld := ⟨16, 11⟩

/-- BLT_PFAULT (09_score_plane.md). -/
def BLT_PFAULT : Reg :=
  ⟨"BLT_PFAULT", some (0, 7), 0x4008, [], 32, .die, 0x0,
    [],
    [(⟨0, 1⟩, .w1c), (⟨1, 1⟩, .w1c), (⟨2, 1⟩, .w1c), (⟨3, 1⟩, .w1c), (⟨4, 1⟩, .w1c), (⟨5, 1⟩, .w1c), (⟨6, 1⟩, .w1c), (⟨7, 1⟩, .w1c), (⟨8, 1⟩, .w1c), (⟨9, 1⟩, .w1c)]⟩
def BLT_PFAULT.HDR_BAD : Fld := ⟨0, 1⟩
def BLT_PFAULT.SLICE_BAD : Fld := ⟨1, 1⟩
def BLT_PFAULT.MISROUTE : Fld := ⟨2, 1⟩
def BLT_PFAULT.DEST_AWAY : Fld := ⟨3, 1⟩
def BLT_PFAULT.WIN_FULL : Fld := ⟨4, 1⟩
def BLT_PFAULT.BEYOND : Fld := ⟨5, 1⟩
def BLT_PFAULT.TALLY_SAT : Fld := ⟨6, 1⟩
def BLT_PFAULT.ABANDONED : Fld := ⟨7, 1⟩
def BLT_PFAULT.SKID_OVF : Fld := ⟨8, 1⟩
def BLT_PFAULT.ENDED_SEND : Fld := ⟨9, 1⟩

/-- BLT_TALLY_SEL (09_score_plane.md). -/
def BLT_TALLY_SEL : Reg :=
  ⟨"BLT_TALLY_SEL", some (0, 7), 0x4010, [], 32, .die, 0x0,
    [],
    [(⟨0, 8⟩, .rw)]⟩
def BLT_TALLY_SEL.TALLY : Fld := ⟨0, 8⟩

/-- BLT_TALLY (09_score_plane.md). -/
def BLT_TALLY : Reg :=
  ⟨"BLT_TALLY", some (0, 7), 0x4014, [], 32, .die, 0x0,
    [],
    [(⟨0, 16⟩, .ro)]⟩
def BLT_TALLY.COUNT : Fld := ⟨0, 16⟩

/-- BLT_RX_GOOD (09_score_plane.md). -/
def BLT_RX_GOOD : Reg :=
  ⟨"BLT_RX_GOOD", some (0, 7), 0x4020, [], 32, .die, 0x0,
    [],
    [(⟨0, 32⟩, .ro)]⟩
def BLT_RX_GOOD.COUNT : Fld := ⟨0, 32⟩

/-- BLT_RX_BAD (09_score_plane.md). -/
def BLT_RX_BAD : Reg :=
  ⟨"BLT_RX_BAD", some (0, 7), 0x4024, [], 32, .die, 0x0,
    [],
    [(⟨0, 32⟩, .ro)]⟩
def BLT_RX_BAD.COUNT : Fld := ⟨0, 32⟩

/-- BLT_RX_DUP (09_score_plane.md). -/
def BLT_RX_DUP : Reg :=
  ⟨"BLT_RX_DUP", some (0, 7), 0x4028, [], 32, .die, 0x0,
    [],
    [(⟨0, 32⟩, .ro)]⟩
def BLT_RX_DUP.COUNT : Fld := ⟨0, 32⟩

/-- BLT_RX_DROP (09_score_plane.md). -/
def BLT_RX_DROP : Reg :=
  ⟨"BLT_RX_DROP", some (0, 7), 0x402c, [], 32, .die, 0x0,
    [],
    [(⟨0, 32⟩, .ro)]⟩
def BLT_RX_DROP.COUNT : Fld := ⟨0, 32⟩

/-- BLT_KNOT_DROP (09_score_plane.md). -/
def BLT_KNOT_DROP : Reg :=
  ⟨"BLT_KNOT_DROP", some (0, 7), 0x4030, [], 32, .die, 0x0,
    [],
    [(⟨0, 32⟩, .ro)]⟩
def BLT_KNOT_DROP.COUNT : Fld := ⟨0, 32⟩

/-- BLT_WIN_STALLS (09_score_plane.md). -/
def BLT_WIN_STALLS : Reg :=
  ⟨"BLT_WIN_STALLS", some (0, 7), 0x4034, [], 32, .die, 0x0,
    [],
    [(⟨0, 32⟩, .ro)]⟩
def BLT_WIN_STALLS.COUNT : Fld := ⟨0, 32⟩

/-- BLT_QUOTA_STALLS (09_score_plane.md). -/
def BLT_QUOTA_STALLS : Reg :=
  ⟨"BLT_QUOTA_STALLS", some (0, 7), 0x4038, [], 32, .die, 0x0,
    [],
    [(⟨0, 32⟩, .ro)]⟩
def BLT_QUOTA_STALLS.COUNT : Fld := ⟨0, 32⟩

/-- BLT_WINDOWS (09_score_plane.md). -/
def BLT_WINDOWS : Reg :=
  ⟨"BLT_WINDOWS", some (0, 7), 0x403c, [], 32, .die, 0x0,
    [],
    [(⟨0, 12⟩, .ro)]⟩
def BLT_WINDOWS.USED : Fld := ⟨0, 12⟩

/-- BLT_CFG (09_score_plane.md). -/
def BLT_CFG : Reg :=
  ⟨"BLT_CFG", some (8, 9), 0x4000, [], 32, .die, 0x804,
    [],
    [(⟨0, 8⟩, .rw), (⟨8, 8⟩, .rw)]⟩
def BLT_CFG.KNOT_BARS : Fld := ⟨0, 8⟩
def BLT_CFG.RESEND_WARN : Fld := ⟨8, 8⟩

/-- BLT_DARN (09_score_plane.md). -/
def BLT_DARN : Reg :=
  ⟨"BLT_DARN", some (8, 9), 0x4004, [], 32, .die, 0x0,
    [],
    [(⟨0, 14⟩, .ro), (⟨16, 14⟩, .ro)]⟩
def BLT_DARN.HELD : Fld := ⟨0, 14⟩
def BLT_DARN.RESEND_Q : Fld := ⟨16, 14⟩

/-- BLT_MFAULT (09_score_plane.md). -/
def BLT_MFAULT : Reg :=
  ⟨"BLT_MFAULT", some (8, 9), 0x4008, [], 32, .die, 0x0,
    [],
    [(⟨0, 1⟩, .w1c), (⟨1, 1⟩, .w1c), (⟨2, 1⟩, .w1c), (⟨3, 1⟩, .w1c), (⟨4, 1⟩, .w1c), (⟨5, 1⟩, .w1c)]⟩
def BLT_MFAULT.SLICE_VIOLATION : Fld := ⟨0, 1⟩
def BLT_MFAULT.RESEND_WARN : Fld := ⟨1, 1⟩
def BLT_MFAULT.HDR_BAD : Fld := ⟨2, 1⟩
def BLT_MFAULT.SLICE_BAD : Fld := ⟨3, 1⟩
def BLT_MFAULT.SKID_OVF : Fld := ⟨4, 1⟩
def BLT_MFAULT.NO_DEST : Fld := ⟨5, 1⟩

/-- BLT_SV (09_score_plane.md). -/
def BLT_SV : Reg :=
  ⟨"BLT_SV", some (8, 9), 0x400c, [], 32, .die, 0x0,
    [],
    [(⟨0, 16⟩, .ro), (⟨16, 12⟩, .ro)]⟩
def BLT_SV.DRANK : Fld := ⟨0, 16⟩
def BLT_SV.STREAM : Fld := ⟨16, 12⟩

/-- BLT_KNOTS (09_score_plane.md). -/
def BLT_KNOTS : Reg :=
  ⟨"BLT_KNOTS", some (8, 9), 0x4010, [], 32, .die, 0x0,
    [],
    [(⟨0, 32⟩, .ro)]⟩
def BLT_KNOTS.COUNT : Fld := ⟨0, 32⟩

/-- BLT_SNAGS (09_score_plane.md). -/
def BLT_SNAGS : Reg :=
  ⟨"BLT_SNAGS", some (8, 9), 0x4014, [], 32, .die, 0x0,
    [],
    [(⟨0, 32⟩, .ro)]⟩
def BLT_SNAGS.COUNT : Fld := ⟨0, 32⟩

/-- BLT_KNOT_STALE (09_score_plane.md). -/
def BLT_KNOT_STALE : Reg :=
  ⟨"BLT_KNOT_STALE", some (8, 9), 0x4018, [], 32, .die, 0x0,
    [],
    [(⟨0, 32⟩, .ro)]⟩
def BLT_KNOT_STALE.COUNT : Fld := ⟨0, 32⟩

/-- BLT_RESENDS (09_score_plane.md). -/
def BLT_RESENDS : Reg :=
  ⟨"BLT_RESENDS", some (8, 9), 0x401c, [], 32, .die, 0x0,
    [],
    [(⟨0, 32⟩, .ro)]⟩
def BLT_RESENDS.COUNT : Fld := ⟨0, 32⟩

/-- BLT_TIMEOUT_RESENDS (09_score_plane.md). -/
def BLT_TIMEOUT_RESENDS : Reg :=
  ⟨"BLT_TIMEOUT_RESENDS", some (8, 9), 0x4020, [], 32, .die, 0x0,
    [],
    [(⟨0, 32⟩, .ro)]⟩
def BLT_TIMEOUT_RESENDS.COUNT : Fld := ⟨0, 32⟩

/-- BLT_SPILLS (09_score_plane.md). -/
def BLT_SPILLS : Reg :=
  ⟨"BLT_SPILLS", some (8, 9), 0x4024, [], 32, .die, 0x0,
    [],
    [(⟨0, 32⟩, .ro)]⟩
def BLT_SPILLS.COUNT : Fld := ⟨0, 32⟩

/-- BLT_MRX_DROP (09_score_plane.md). -/
def BLT_MRX_DROP : Reg :=
  ⟨"BLT_MRX_DROP", some (8, 9), 0x4028, [], 32, .die, 0x0,
    [],
    [(⟨0, 32⟩, .ro)]⟩
def BLT_MRX_DROP.COUNT : Fld := ⟨0, 32⟩

/-- BLT_STALL (09_score_plane.md). -/
def BLT_STALL : Reg :=
  ⟨"BLT_STALL", some (0, 7), 0x4100, [(4, 0x8)], 32, .die, 0x0,
    [],
    [(⟨0, 32⟩, .ro)]⟩
def BLT_STALL.COUNT : Fld := ⟨0, 32⟩

/-- BLT_SKID_PEAK (09_score_plane.md). -/
def BLT_SKID_PEAK : Reg :=
  ⟨"BLT_SKID_PEAK", some (0, 7), 0x4104, [(4, 0x8)], 32, .die, 0x0,
    [],
    [(⟨0, 9⟩, .rc)]⟩
def BLT_SKID_PEAK.PEAK : Fld := ⟨0, 9⟩

/-- BLT_STALL_M (09_score_plane.md). -/
def BLT_STALL_M : Reg :=
  ⟨"BLT_STALL_M", some (8, 9), 0x4200, [(2, 0x8)], 32, .die, 0x0,
    [],
    [(⟨0, 32⟩, .ro)]⟩
def BLT_STALL_M.COUNT : Fld := ⟨0, 32⟩

/-- BLT_SKID_PEAK_M (09_score_plane.md). -/
def BLT_SKID_PEAK_M : Reg :=
  ⟨"BLT_SKID_PEAK_M", some (8, 9), 0x4204, [(2, 0x8)], 32, .die, 0x0,
    [],
    [(⟨0, 9⟩, .rc)]⟩
def BLT_SKID_PEAK_M.PEAK : Fld := ⟨0, 9⟩

/-- BLT_LSTALL (09_score_plane.md). -/
def BLT_LSTALL : Reg :=
  ⟨"BLT_LSTALL", some (8, 9), 0x4100, [(6, 0x10)], 32, .die, 0x0,
    [],
    [(⟨0, 32⟩, .ro)]⟩
def BLT_LSTALL.COUNT : Fld := ⟨0, 32⟩

/-- BLT_LSKID_PEAK (09_score_plane.md). -/
def BLT_LSKID_PEAK : Reg :=
  ⟨"BLT_LSKID_PEAK", some (8, 9), 0x4104, [(6, 0x10)], 32, .die, 0x0,
    [],
    [(⟨0, 12⟩, .rc)]⟩
def BLT_LSKID_PEAK.PEAK : Fld := ⟨0, 12⟩

/-- BLT_LSKID_RES (09_score_plane.md). -/
def BLT_LSKID_RES : Reg :=
  ⟨"BLT_LSKID_RES", some (8, 9), 0x4108, [(6, 0x10)], 32, .die, 0x0,
    [],
    [(⟨0, 10⟩, .ro)]⟩
def BLT_LSKID_RES.LINENS : Fld := ⟨0, 10⟩

/-- TCK_BUDGET (10_tack_plane.md). -/
def TCK_BUDGET : Reg :=
  ⟨"TCK_BUDGET", some (0, 7), 0x5000, [], 32, .die, 0x4040,
    [],
    [(⟨0, 7⟩, .rw), (⟨8, 7⟩, .ro), (⟨16, 7⟩, .ro)]⟩
def TCK_BUDGET.BUDGET : Fld := ⟨0, 7⟩
def TCK_BUDGET.AVAILABLE : Fld := ⟨8, 7⟩
def TCK_BUDGET.OUTSTANDING : Fld := ⟨16, 7⟩

/-- TCK_CFG (10_tack_plane.md). -/
def TCK_CFG : Reg :=
  ⟨"TCK_CFG", some (0, 7), 0x5004, [], 32, .die, 0x40,
    [],
    [(⟨0, 16⟩, .rw)]⟩
def TCK_CFG.ACK_US : Fld := ⟨0, 16⟩

/-- TCK_PFAULT (10_tack_plane.md). -/
def TCK_PFAULT : Reg :=
  ⟨"TCK_PFAULT", some (0, 7), 0x5008, [], 32, .die, 0x0,
    [],
    [(⟨0, 1⟩, .w1c), (⟨1, 1⟩, .w1c), (⟨2, 1⟩, .w1c), (⟨3, 1⟩, .w1c), (⟨4, 1⟩, .w1c), (⟨8, 8⟩, .ro), (⟨16, 8⟩, .ro)]⟩
def TCK_PFAULT.TIMEOUT : Fld := ⟨0, 1⟩
def TCK_PFAULT.NACK : Fld := ⟨1, 1⟩
def TCK_PFAULT.ACK_LATE : Fld := ⟨2, 1⟩
def TCK_PFAULT.STALE_WASH : Fld := ⟨3, 1⟩
def TCK_PFAULT.AWAY : Fld := ⟨4, 1⟩
def TCK_PFAULT.STATUS : Fld := ⟨8, 8⟩
def TCK_PFAULT.TAG : Fld := ⟨16, 8⟩

/-- TCK_TOKEN_WAITS (10_tack_plane.md). -/
def TCK_TOKEN_WAITS : Reg :=
  ⟨"TCK_TOKEN_WAITS", some (0, 7), 0x5010, [], 32, .die, 0x0,
    [],
    [(⟨0, 32⟩, .ro)]⟩
def TCK_TOKEN_WAITS.COUNT : Fld := ⟨0, 32⟩

/-- TCK_SENT (10_tack_plane.md). -/
def TCK_SENT : Reg :=
  ⟨"TCK_SENT", some (0, 7), 0x5014, [], 32, .die, 0x0,
    [],
    [(⟨0, 32⟩, .ro)]⟩
def TCK_SENT.COUNT : Fld := ⟨0, 32⟩

/-- TCK_NOTICES (10_tack_plane.md). -/
def TCK_NOTICES : Reg :=
  ⟨"TCK_NOTICES", some (0, 7), 0x5018, [], 32, .die, 0x0,
    [],
    [(⟨0, 32⟩, .ro)]⟩
def TCK_NOTICES.COUNT : Fld := ⟨0, 32⟩

/-- TCK_TIMEOUTS (10_tack_plane.md). -/
def TCK_TIMEOUTS : Reg :=
  ⟨"TCK_TIMEOUTS", some (0, 7), 0x501c, [], 32, .die, 0x0,
    [],
    [(⟨0, 32⟩, .ro)]⟩
def TCK_TIMEOUTS.COUNT : Fld := ⟨0, 32⟩

/-- TCK_MCFG (10_tack_plane.md). -/
def TCK_MCFG : Reg :=
  ⟨"TCK_MCFG", some (8, 9), 0x5000, [], 32, .die, 0x4002,
    [],
    [(⟨0, 8⟩, .rw), (⟨8, 16⟩, .rw)]⟩
def TCK_MCFG.PATIENCE : Fld := ⟨0, 8⟩
def TCK_MCFG.ACK_US : Fld := ⟨8, 16⟩

/-- TCK_GRID (10_tack_plane.md). -/
def TCK_GRID : Reg :=
  ⟨"TCK_GRID", some (8, 9), 0x5008, [], 64, .die, 0x0,
    [],
    [(⟨0, 5⟩, .rw), (⟨8, 5⟩, .rw), (⟨16, 5⟩, .rw), (⟨24, 5⟩, .rw), (⟨32, 5⟩, .rw), (⟨40, 5⟩, .rw), (⟨48, 1⟩, .rw), (⟨49, 1⟩, .rw), (⟨50, 1⟩, .rw), (⟨56, 1⟩, .rw)]⟩
def TCK_GRID.X : Fld := ⟨0, 5⟩
def TCK_GRID.Y : Fld := ⟨8, 5⟩
def TCK_GRID.Z : Fld := ⟨16, 5⟩
def TCK_GRID.SX : Fld := ⟨24, 5⟩
def TCK_GRID.SY : Fld := ⟨32, 5⟩
def TCK_GRID.SZ : Fld := ⟨40, 5⟩
def TCK_GRID.WX : Fld := ⟨48, 1⟩
def TCK_GRID.WY : Fld := ⟨49, 1⟩
def TCK_GRID.WZ : Fld := ⟨50, 1⟩
def TCK_GRID.VALID : Fld := ⟨56, 1⟩

/-- TCK_MFAULT (10_tack_plane.md). -/
def TCK_MFAULT : Reg :=
  ⟨"TCK_MFAULT", some (8, 9), 0x5010, [], 32, .die, 0x0,
    [],
    [(⟨0, 1⟩, .w1c), (⟨1, 1⟩, .w1c), (⟨2, 1⟩, .w1c), (⟨3, 1⟩, .w1c), (⟨4, 1⟩, .w1c), (⟨5, 1⟩, .w1c), (⟨6, 1⟩, .w1c)]⟩
def TCK_MFAULT.AGED : Fld := ⟨0, 1⟩
def TCK_MFAULT.OVF : Fld := ⟨1, 1⟩
def TCK_MFAULT.SLICE_BAD : Fld := ⟨2, 1⟩
def TCK_MFAULT.BAD_TACK : Fld := ⟨3, 1⟩
def TCK_MFAULT.SLICE_VIOLATION : Fld := ⟨4, 1⟩
def TCK_MFAULT.TARGET_FAIL : Fld := ⟨5, 1⟩
def TCK_MFAULT.AWAY : Fld := ⟨6, 1⟩

/-- TCK_DROPS (10_tack_plane.md). -/
def TCK_DROPS : Reg :=
  ⟨"TCK_DROPS", some (8, 9), 0x5028, [], 64, .die, 0x0,
    [],
    [(⟨0, 16⟩, .ro), (⟨16, 16⟩, .ro), (⟨32, 16⟩, .ro), (⟨48, 8⟩, .ro), (⟨56, 8⟩, .ro)]⟩
def TCK_DROPS.BAD : Fld := ⟨0, 16⟩
def TCK_DROPS.SLICE : Fld := ⟨16, 16⟩
def TCK_DROPS.OVF : Fld := ⟨32, 16⟩
def TCK_DROPS.GRID : Fld := ⟨48, 8⟩
def TCK_DROPS.INBOX : Fld := ⟨56, 8⟩

/-- TCK_BUF (10_tack_plane.md). -/
def TCK_BUF : Reg :=
  ⟨"TCK_BUF", some (8, 9), 0x5030, [], 32, .die, 0x0,
    [],
    [(⟨0, 11⟩, .ro), (⟨16, 11⟩, .rc)]⟩
def TCK_BUF.FILL : Fld := ⟨0, 11⟩
def TCK_BUF.PEAK : Fld := ⟨16, 11⟩

/-- TCK_CSEND_CTRL (10_tack_plane.md). -/
def TCK_CSEND_CTRL : Reg :=
  ⟨"TCK_CSEND_CTRL", some (8, 9), 0x50a0, [], 32, .die, 0x400000,
    [],
    [(⟨0, 1⟩, .wo), (⟨1, 1⟩, .w1c), (⟨2, 1⟩, .w1c), (⟨16, 7⟩, .ro)]⟩
def TCK_CSEND_CTRL.GO : Fld := ⟨0, 1⟩
def TCK_CSEND_CTRL.NO_TOKEN : Fld := ⟨1, 1⟩
def TCK_CSEND_CTRL.REFUSED : Fld := ⟨2, 1⟩
def TCK_CSEND_CTRL.AVAILABLE : Fld := ⟨16, 7⟩

/-- TCK_INBOX_CTRL (10_tack_plane.md). -/
def TCK_INBOX_CTRL : Reg :=
  ⟨"TCK_INBOX_CTRL", some (8, 9), 0x5120, [], 32, .die, 0x0,
    [],
    [(⟨0, 9⟩, .ro), (⟨16, 1⟩, .wo)]⟩
def TCK_INBOX_CTRL.COUNT : Fld := ⟨0, 9⟩
def TCK_INBOX_CTRL.POP : Fld := ⟨16, 1⟩

/-- TCK_DEFLECTS (10_tack_plane.md). -/
def TCK_DEFLECTS : Reg :=
  ⟨"TCK_DEFLECTS", some (8, 9), 0x5020, [], 32, .die, 0x0,
    [],
    [(⟨0, 32⟩, .ro)]⟩
def TCK_DEFLECTS.COUNT : Fld := ⟨0, 32⟩

/-- TCK_AGED (10_tack_plane.md). -/
def TCK_AGED : Reg :=
  ⟨"TCK_AGED", some (8, 9), 0x5024, [], 32, .die, 0x0,
    [],
    [(⟨0, 32⟩, .ro)]⟩
def TCK_AGED.COUNT : Fld := ⟨0, 32⟩

/-- TCK_CSEND_DATA (10_tack_plane.md). -/
def TCK_CSEND_DATA : Reg :=
  ⟨"TCK_CSEND_DATA", some (8, 9), 0x5080, [(4, 0x8)], 64, .die, 0x0,
    [],
    [(⟨0, 64⟩, .rw)]⟩
def TCK_CSEND_DATA.DATA : Fld := ⟨0, 64⟩

/-- TCK_INBOX_DATA (10_tack_plane.md). -/
def TCK_INBOX_DATA : Reg :=
  ⟨"TCK_INBOX_DATA", some (8, 9), 0x5100, [(4, 0x8)], 64, .die, 0x0,
    [],
    [(⟨0, 64⟩, .ro)]⟩
def TCK_INBOX_DATA.DATA : Fld := ⟨0, 64⟩

/-- Every register of this file. -/
def regs2 : List Reg :=
  [LNK_CTRL, LNK_QUAL, LNK_STATUS, LNK_LATENCY, LNK_PEER, LNK_FEC_CORR, LNK_FEC_UNCORR, LNK_LANE_ERR, LNK_HOLD_SENT, LNK_HOLD_OBEYED, LNK_RETRAINS, LNK_SLEEP_BARS, LNK_MESO, SEAM_MESO, LNK_EVENT] ++
  [SEAM_STATUS, SEAM_CRC_ERR, SEAM_REPLAYS, SEAM_HOLD_SENT, SEAM_HOLD_OBEYED, SEAM_EVENT, BLT_QUOTA, BLT_PFAULT, BLT_TALLY_SEL, BLT_TALLY, BLT_RX_GOOD, BLT_RX_BAD, BLT_RX_DUP, BLT_RX_DROP, BLT_KNOT_DROP] ++
  [BLT_WIN_STALLS, BLT_QUOTA_STALLS, BLT_WINDOWS, BLT_CFG, BLT_DARN, BLT_MFAULT, BLT_SV, BLT_KNOTS, BLT_SNAGS, BLT_KNOT_STALE, BLT_RESENDS, BLT_TIMEOUT_RESENDS, BLT_SPILLS, BLT_MRX_DROP, BLT_STALL] ++
  [BLT_SKID_PEAK, BLT_STALL_M, BLT_SKID_PEAK_M, BLT_LSTALL, BLT_LSKID_PEAK, BLT_LSKID_RES, TCK_BUDGET, TCK_CFG, TCK_PFAULT, TCK_TOKEN_WAITS, TCK_SENT, TCK_NOTICES, TCK_TIMEOUTS, TCK_MCFG, TCK_GRID] ++
  [TCK_MFAULT, TCK_DROPS, TCK_BUF, TCK_CSEND_CTRL, TCK_INBOX_CTRL, TCK_DEFLECTS, TCK_AGED, TCK_CSEND_DATA, TCK_INBOX_DATA]

end Sys2Proof.Machine
end

