-- ==== Sys2Proof/Machine/Regs3.lean ====
section
/-! DEFINITION. The registers of the spec files 11_ranks_slices.md, 12_mixed_generations.md, 13_control_die_interrupts.md: one definition per register heading, one per field. -/

namespace Sys2Proof.Machine

/-- RNK_CHIP (11_ranks_slices.md). -/
def RNK_CHIP : Reg :=
  ⟨"RNK_CHIP", some (8, 9), 0x6000, [], 32, .cold, 0x0,
    [],
    [(⟨0, 16⟩, .rw)]⟩
def RNK_CHIP.CHIP : Fld := ⟨0, 16⟩

/-- RNK_SLICE (11_ranks_slices.md). -/
def RNK_SLICE : Reg :=
  ⟨"RNK_SLICE", some (8, 9), 0x6004, [], 32, .cold, 0x0,
    [],
    [(⟨0, 12⟩, .ro), (⟨12, 1⟩, .ro)]⟩
def RNK_SLICE.SLICE : Fld := ⟨0, 12⟩
def RNK_SLICE.VALID : Fld := ⟨12, 1⟩

/-- RNK_FENCE (11_ranks_slices.md). -/
def RNK_FENCE : Reg :=
  ⟨"RNK_FENCE", some (8, 9), 0x6008, [], 32, .cold, 0xfff,
    [],
    [(⟨0, 12⟩, .rw), (⟨16, 12⟩, .ro)]⟩
def RNK_FENCE.SW : Fld := ⟨0, 12⟩
def RNK_FENCE.IMG : Fld := ⟨16, 12⟩

/-- RNK_COUNT (11_ranks_slices.md). -/
def RNK_COUNT : Reg :=
  ⟨"RNK_COUNT", some (8, 9), 0x6010, [], 32, .die, 0x0,
    [],
    [(⟨0, 15⟩, .ro)]⟩
def RNK_COUNT.VALID_ENTRIES : Fld := ⟨0, 15⟩

/-- RNK_EVENT (11_ranks_slices.md). -/
def RNK_EVENT : Reg :=
  ⟨"RNK_EVENT", some (8, 9), 0x6018, [], 32, .die, 0x0,
    [],
    [(⟨0, 1⟩, .w1c), (⟨1, 1⟩, .w1c), (⟨2, 1⟩, .w1c), (⟨3, 1⟩, .w1c), (⟨4, 1⟩, .w1c), (⟨16, 16⟩, .ro)]⟩
def RNK_EVENT.MISS : Fld := ⟨0, 1⟩
def RNK_EVENT.FENCE_OUT : Fld := ⟨1, 1⟩
def RNK_EVENT.FENCE_IN : Fld := ⟨2, 1⟩
def RNK_EVENT.NO_SLICE : Fld := ⟨3, 1⟩
def RNK_EVENT.CFG_IGNORED : Fld := ⟨4, 1⟩
def RNK_EVENT.MISS_RANK : Fld := ⟨16, 16⟩

/-- RNK_MISSES (11_ranks_slices.md). -/
def RNK_MISSES : Reg :=
  ⟨"RNK_MISSES", some (8, 9), 0x6020, [], 32, .die, 0x0,
    [],
    [(⟨0, 32⟩, .ro)]⟩
def RNK_MISSES.COUNT : Fld := ⟨0, 32⟩

/-- RNK_FENCED (11_ranks_slices.md). -/
def RNK_FENCED : Reg :=
  ⟨"RNK_FENCED", some (8, 9), 0x6024, [], 32, .die, 0x0,
    [],
    [(⟨0, 32⟩, .ro)]⟩
def RNK_FENCED.COUNT : Fld := ⟨0, 32⟩

/-- RNK_TABLE (11_ranks_slices.md). -/
def RNK_TABLE : Reg :=
  ⟨"RNK_TABLE", some (8, 9), 0x80000, [(16384, 0x8)], 64, .die, 0x0,
    [],
    [(⟨0, 64⟩, .ro)]⟩
def RNK_TABLE.ENTRY : Fld := ⟨0, 64⟩

/-- LNK_LGC_ID (12_mixed_generations.md). -/
def LNK_LGC_ID : Reg :=
  ⟨"LNK_LGC_ID", some (8, 9), 0x10080, [(6, 0x1000)], 32, .unit, 0x0,
    [],
    [(⟨0, 16⟩, .rw), (⟨16, 14⟩, .rw), (⟨31, 1⟩, .rw)]⟩
def LNK_LGC_ID.PEER_RANK : Fld := ⟨0, 16⟩
def LNK_LGC_ID.SELF_ID : Fld := ⟨16, 14⟩
def LNK_LGC_ID.VALID : Fld := ⟨31, 1⟩

/-- LNK_LGC_CRED (12_mixed_generations.md). -/
def LNK_LGC_CRED : Reg :=
  ⟨"LNK_LGC_CRED", some (8, 9), 0x10084, [(6, 0x1000)], 32, .unit, 0x0,
    [],
    [(⟨0, 7⟩, .ro), (⟨8, 7⟩, .ro), (⟨16, 8⟩, .ro), (⟨24, 7⟩, .ro), (⟨31, 1⟩, .ro)]⟩
def LNK_LGC_CRED.GRANTED : Fld := ⟨0, 7⟩
def LNK_LGC_CRED.INUSE : Fld := ⟨8, 7⟩
def LNK_LGC_CRED.PEER_CRED : Fld := ⟨16, 8⟩
def LNK_LGC_CRED.STORE : Fld := ⟨24, 7⟩
def LNK_LGC_CRED.INIT_DONE : Fld := ⟨31, 1⟩

/-- LNK_LGC_EVENT (12_mixed_generations.md). -/
def LNK_LGC_EVENT : Reg :=
  ⟨"LNK_LGC_EVENT", some (8, 9), 0x10088, [(6, 0x1000)], 32, .unit, 0x0,
    [],
    [(⟨0, 1⟩, .w1c), (⟨1, 1⟩, .w1c), (⟨2, 1⟩, .w1c), (⟨3, 1⟩, .w1c), (⟨4, 1⟩, .w1c)]⟩
def LNK_LGC_EVENT.OVERSIZE : Fld := ⟨0, 1⟩
def LNK_LGC_EVENT.SEG_LOST : Fld := ⟨1, 1⟩
def LNK_LGC_EVENT.CRED_OVF : Fld := ⟨2, 1⟩
def LNK_LGC_EVENT.UNTRANSLATABLE : Fld := ⟨3, 1⟩
def LNK_LGC_EVENT.CFG_IGNORED : Fld := ⟨4, 1⟩

/-- LNK_LGC_TX (12_mixed_generations.md). -/
def LNK_LGC_TX : Reg :=
  ⟨"LNK_LGC_TX", some (8, 9), 0x10090, [(6, 0x1000)], 32, .unit, 0x0,
    [],
    [(⟨0, 32⟩, .ro)]⟩
def LNK_LGC_TX.COUNT : Fld := ⟨0, 32⟩

/-- LNK_LGC_RX (12_mixed_generations.md). -/
def LNK_LGC_RX : Reg :=
  ⟨"LNK_LGC_RX", some (8, 9), 0x10094, [(6, 0x1000)], 32, .unit, 0x0,
    [],
    [(⟨0, 32⟩, .ro)]⟩
def LNK_LGC_RX.COUNT : Fld := ⟨0, 32⟩

/-- ICU_SRC (13_control_die_interrupts.md). -/
def ICU_SRC : Reg :=
  ⟨"ICU_SRC", none, 0x100000, [(1024, 0x4)], 32, .c0, 0x0,
    [([1], 0x1f)],
    [(⟨0, 5⟩, .rw), (⟨8, 8⟩, .ro), (⟨16, 1⟩, .ro), (⟨17, 1⟩, .ro), (⟨18, 1⟩, .ro), (⟨19, 1⟩, .ro), (⟨20, 1⟩, .ro), (⟨24, 5⟩, .ro)]⟩
def ICU_SRC.PRIO : Fld := ⟨0, 5⟩
def ICU_SRC.EVCOUNT : Fld := ⟨8, 8⟩
def ICU_SRC.SAT : Fld := ⟨16, 1⟩
def ICU_SRC.PENDING : Fld := ⟨17, 1⟩
def ICU_SRC.ACTIVE : Fld := ⟨18, 1⟩
def ICU_SRC.LINE : Fld := ⟨19, 1⟩
def ICU_SRC.LEVEL : Fld := ⟨20, 1⟩
def ICU_SRC.OWNER : Fld := ⟨24, 5⟩

/-- ICU_PENDING (13_control_die_interrupts.md). -/
def ICU_PENDING : Reg :=
  ⟨"ICU_PENDING", none, 0x101000, [(32, 0x4)], 32, .c0, 0x0,
    [],
    [(⟨0, 32⟩, .ro)]⟩
def ICU_PENDING.BITS : Fld := ⟨0, 32⟩

/-- ICU_ACTIVE (13_control_die_interrupts.md). -/
def ICU_ACTIVE : Reg :=
  ⟨"ICU_ACTIVE", none, 0x101080, [(32, 0x4)], 32, .c0, 0x0,
    [],
    [(⟨0, 32⟩, .ro)]⟩
def ICU_ACTIVE.BITS : Fld := ⟨0, 32⟩

/-- ICU_SETPEND (13_control_die_interrupts.md). -/
def ICU_SETPEND : Reg :=
  ⟨"ICU_SETPEND", none, 0x101100, [], 32, .c0, 0x0,
    [],
    [(⟨0, 10⟩, .wo)]⟩
def ICU_SETPEND.SOURCE : Fld := ⟨0, 10⟩

/-- ICU_CFG (13_control_die_interrupts.md). -/
def ICU_CFG : Reg :=
  ⟨"ICU_CFG", none, 0x101104, [], 32, .c0, 0x0,
    [],
    [(⟨0, 5⟩, .rw)]⟩
def ICU_CFG.SUPER_TGT : Fld := ⟨0, 5⟩

/-- ICU_TGT_FAULT (13_control_die_interrupts.md). -/
def ICU_TGT_FAULT : Reg :=
  ⟨"ICU_TGT_FAULT", none, 0x101108, [], 32, .c0, 0x0,
    [],
    [(⟨0, 32⟩, .w1c)]⟩
def ICU_TGT_FAULT.FAULT : Fld := ⟨0, 32⟩

/-- ICU_STACK_RESET (13_control_die_interrupts.md). -/
def ICU_STACK_RESET : Reg :=
  ⟨"ICU_STACK_RESET", none, 0x10110c, [], 32, .c0, 0x0,
    [],
    [(⟨0, 32⟩, .wo)]⟩
def ICU_STACK_RESET.RESET : Fld := ⟨0, 32⟩

/-- ICU_FAULT_INFO (13_control_die_interrupts.md). -/
def ICU_FAULT_INFO : Reg :=
  ⟨"ICU_FAULT_INFO", none, 0x101110, [], 32, .c0, 0x0,
    [],
    [(⟨0, 10⟩, .ro), (⟨10, 10⟩, .ro), (⟨20, 5⟩, .ro)]⟩
def ICU_FAULT_INFO.WRITTEN : Fld := ⟨0, 10⟩
def ICU_FAULT_INFO.TOP : Fld := ⟨10, 10⟩
def ICU_FAULT_INFO.TARGET : Fld := ⟨20, 5⟩

/-- ICU_ENABLE (13_control_die_interrupts.md). -/
def ICU_ENABLE : Reg :=
  ⟨"ICU_ENABLE", none, 0x102000, [(32, 0x80), (32, 0x4)], 32, .c0, 0x0,
    [],
    [(⟨0, 32⟩, .rw)]⟩
def ICU_ENABLE.EN : Fld := ⟨0, 32⟩

/-- ICU_THRESHOLD (13_control_die_interrupts.md). -/
def ICU_THRESHOLD : Reg :=
  ⟨"ICU_THRESHOLD", none, 0x104000, [(32, 0x100)], 32, .c0, 0x0,
    [],
    [(⟨0, 5⟩, .rw)]⟩
def ICU_THRESHOLD.THRESHOLD : Fld := ⟨0, 5⟩

/-- ICU_CLAIM (13_control_die_interrupts.md). -/
def ICU_CLAIM : Reg :=
  ⟨"ICU_CLAIM", none, 0x104004, [(32, 0x100)], 32, .c0, 0x0,
    [],
    [(⟨0, 10⟩, .rc), (⟨10, 5⟩, .rc), (⟨16, 8⟩, .rc), (⟨24, 1⟩, .rc)]⟩
def ICU_CLAIM.SOURCE : Fld := ⟨0, 10⟩
def ICU_CLAIM.PRIO : Fld := ⟨10, 5⟩
def ICU_CLAIM.EVCOUNT : Fld := ⟨16, 8⟩
def ICU_CLAIM.SAT : Fld := ⟨24, 1⟩

/-- ICU_COMPLETE (13_control_die_interrupts.md). -/
def ICU_COMPLETE : Reg :=
  ⟨"ICU_COMPLETE", none, 0x104008, [(32, 0x100)], 32, .c0, 0x0,
    [],
    [(⟨0, 10⟩, .wo)]⟩
def ICU_COMPLETE.SOURCE : Fld := ⟨0, 10⟩

/-- ICU_TSTAT (13_control_die_interrupts.md). -/
def ICU_TSTAT : Reg :=
  ⟨"ICU_TSTAT", none, 0x10400c, [(32, 0x100)], 32, .c0, 0x0,
    [],
    [(⟨0, 4⟩, .ro), (⟨4, 5⟩, .ro), (⟨9, 1⟩, .ro), (⟨10, 1⟩, .ro), (⟨11, 1⟩, .ro)]⟩
def ICU_TSTAT.DEPTH : Fld := ⟨0, 4⟩
def ICU_TSTAT.RUNPRIO : Fld := ⟨4, 5⟩
def ICU_TSTAT.FROZEN : Fld := ⟨9, 1⟩
def ICU_TSTAT.LINE : Fld := ⟨10, 1⟩
def ICU_TSTAT.WAKE : Fld := ⟨11, 1⟩

/-- ICU_STACK (13_control_die_interrupts.md). -/
def ICU_STACK : Reg :=
  ⟨"ICU_STACK", none, 0x104020, [(32, 0x100), (8, 0x4)], 32, .c0, 0x0,
    [],
    [(⟨0, 10⟩, .ro), (⟨10, 5⟩, .ro)]⟩
def ICU_STACK.SOURCE : Fld := ⟨0, 10⟩
def ICU_STACK.PRIO : Fld := ⟨10, 5⟩

/-- ICU_MTIMECMP (13_control_die_interrupts.md). -/
def ICU_MTIMECMP : Reg :=
  ⟨"ICU_MTIMECMP", none, 0x106000, [(16, 0x8)], 64, .c0, 0xffffffffffffffff,
    [],
    [(⟨0, 64⟩, .rw)]⟩
def ICU_MTIMECMP.CMP : Fld := ⟨0, 64⟩

/-- EVA_CFG (13_control_die_interrupts.md). -/
def EVA_CFG : Reg :=
  ⟨"EVA_CFG", none, 0x140000, [], 32, .c0, 0x400020,
    [],
    [(⟨0, 1⟩, .rw), (⟨1, 1⟩, .rw), (⟨2, 5⟩, .rw), (⟨16, 16⟩, .rw)]⟩
def EVA_CFG.ENABLE : Fld := ⟨0, 1⟩
def EVA_CFG.HOST : Fld := ⟨1, 1⟩
def EVA_CFG.LOG2N : Fld := ⟨2, 5⟩
def EVA_CFG.THRESH : Fld := ⟨16, 16⟩

/-- EVA_BASE (13_control_die_interrupts.md). -/
def EVA_BASE : Reg :=
  ⟨"EVA_BASE", none, 0x140008, [], 64, .c0, 0x0,
    [],
    [(⟨12, 52⟩, .rw)]⟩
def EVA_BASE.BASE : Fld := ⟨12, 52⟩

/-- EVA_LOST (13_control_die_interrupts.md). -/
def EVA_LOST : Reg :=
  ⟨"EVA_LOST", none, 0x140020, [], 32, .cold, 0x0,
    [],
    [(⟨0, 32⟩, .ro)]⟩
def EVA_LOST.COUNT : Fld := ⟨0, 32⟩

/-- EVA_STATUS (13_control_die_interrupts.md). -/
def EVA_STATUS : Reg :=
  ⟨"EVA_STATUS", none, 0x140024, [], 32, .c0, 0x0,
    [],
    [(⟨0, 9⟩, .ro), (⟨9, 1⟩, .w1c), (⟨10, 1⟩, .w1c), (⟨11, 1⟩, .ro), (⟨12, 1⟩, .w1c)]⟩
def EVA_STATUS.STAGED : Fld := ⟨0, 9⟩
def EVA_STATUS.LOST : Fld := ⟨9, 1⟩
def EVA_STATUS.CFG_IGNORED : Fld := ⟨10, 1⟩
def EVA_STATUS.RING_FULL : Fld := ⟨11, 1⟩
def EVA_STATUS.WRITE_FAIL : Fld := ⟨12, 1⟩

/-- EVA_SW (13_control_die_interrupts.md). -/
def EVA_SW : Reg :=
  ⟨"EVA_SW", none, 0x140028, [], 64, .c0, 0x0,
    [],
    [(⟨0, 64⟩, .wo)]⟩
def EVA_SW.DATA : Fld := ⟨0, 64⟩

/-- ICU_MSIP (13_control_die_interrupts.md). -/
def ICU_MSIP : Reg :=
  ⟨"ICU_MSIP", none, 0x106080, [(16, 0x4)], 32, .c0, 0x0,
    [],
    [(⟨0, 1⟩, .rw)]⟩
def ICU_MSIP.MSIP : Fld := ⟨0, 1⟩

/-- EVA_WR (13_control_die_interrupts.md). -/
def EVA_WR : Reg :=
  ⟨"EVA_WR", none, 0x140010, [], 32, .c0, 0x0,
    [],
    [(⟨0, 32⟩, .ro)]⟩
def EVA_WR.INDEX : Fld := ⟨0, 32⟩

/-- EVA_RD (13_control_die_interrupts.md). -/
def EVA_RD : Reg :=
  ⟨"EVA_RD", none, 0x140014, [], 32, .c0, 0x0,
    [],
    [(⟨0, 32⟩, .rw)]⟩
def EVA_RD.INDEX : Fld := ⟨0, 32⟩

/-- EVA_SEQ (13_control_die_interrupts.md). -/
def EVA_SEQ : Reg :=
  ⟨"EVA_SEQ", none, 0x140018, [], 64, .cold, 0x0,
    [],
    [(⟨0, 64⟩, .ro)]⟩
def EVA_SEQ.NEXT : Fld := ⟨0, 64⟩

/-- EVA_TIME (13_control_die_interrupts.md). -/
def EVA_TIME : Reg :=
  ⟨"EVA_TIME", none, 0x140030, [], 64, .cold, 0x0,
    [],
    [(⟨0, 64⟩, .ro)]⟩
def EVA_TIME.TIME : Fld := ⟨0, 64⟩

/-- Every register of this file. -/
def regs3 : List Reg :=
  [RNK_CHIP, RNK_SLICE, RNK_FENCE, RNK_COUNT, RNK_EVENT, RNK_MISSES, RNK_FENCED, RNK_TABLE, LNK_LGC_ID, LNK_LGC_CRED, LNK_LGC_EVENT, LNK_LGC_TX, LNK_LGC_RX, ICU_SRC, ICU_PENDING] ++
  [ICU_ACTIVE, ICU_SETPEND, ICU_CFG, ICU_TGT_FAULT, ICU_STACK_RESET, ICU_FAULT_INFO, ICU_ENABLE, ICU_THRESHOLD, ICU_CLAIM, ICU_COMPLETE, ICU_TSTAT, ICU_STACK, ICU_MTIMECMP, EVA_CFG, EVA_BASE] ++
  [EVA_LOST, EVA_STATUS, EVA_SW, ICU_MSIP, EVA_WR, EVA_RD, EVA_SEQ, EVA_TIME]

end Sys2Proof.Machine
end

