-- ==== Sys2Proof/Machine/Regs4.lean ====
section
/-! DEFINITION. The registers of the spec files 14_host_commands.md, 15_network_ports.md, 16_determinism.md: one definition per register heading, one per field. -/

namespace Sys2Proof.Machine

/-- CMD_IF_STATUS (14_host_commands.md). -/
def CMD_IF_STATUS : Reg :=
  ⟨"CMD_IF_STATUS", none, 0x400000, [], 32, .unit, 0x0,
    [],
    [(⟨0, 1⟩, .ro), (⟨1, 1⟩, .ro), (⟨2, 5⟩, .ro), (⟨7, 3⟩, .ro), (⟨10, 1⟩, .ro), (⟨11, 1⟩, .ro), (⟨12, 1⟩, .ro), (⟨13, 7⟩, .ro)]⟩
def CMD_IF_STATUS.LINK_UP : Fld := ⟨0, 1⟩
def CMD_IF_STATUS.CXL : Fld := ⟨1, 1⟩
def CMD_IF_STATUS.WIDTH : Fld := ⟨2, 5⟩
def CMD_IF_STATUS.RATE : Fld := ⟨7, 3⟩
def CMD_IF_STATUS.BME : Fld := ⟨10, 1⟩
def CMD_IF_STATUS.FW_READY : Fld := ⟨11, 1⟩
def CMD_IF_STATUS.ACTIVATING : Fld := ⟨12, 1⟩
def CMD_IF_STATUS.INFLIGHT : Fld := ⟨13, 7⟩

/-- The message address of an MSI-X vector (R667); the layout is that of PCI Express (PRESUMED, log entry 88). -/
def MSIX_ADDR : Reg :=
  ⟨"MSIX_ADDR", none, 0x408000, [(18, 0x10)], 64, .unit, 0x0,
    [],
    [(⟨2, 62⟩, .rw)]⟩
def MSIX_ADDR.ADDR : Fld := ⟨2, 62⟩

/-- The message data of an MSI-X vector (R667) (PRESUMED, log entry 88). -/
def MSIX_DATA : Reg :=
  ⟨"MSIX_DATA", none, 0x408008, [(18, 0x10)], 32, .unit, 0x0,
    [],
    [(⟨0, 32⟩, .rw)]⟩
def MSIX_DATA.DATA : Fld := ⟨0, 32⟩

/-- The vector control of an MSI-X vector (R667) (PRESUMED, log entry 88). -/
def MSIX_CTRL : Reg :=
  ⟨"MSIX_CTRL", none, 0x40800c, [(18, 0x10)], 32, .unit, 0x1,
    [],
    [(⟨0, 1⟩, .rw)]⟩
def MSIX_CTRL.MASK : Fld := ⟨0, 1⟩

/-- The pending bits of the MSI-X vectors (R667) (PRESUMED, log entry 88). -/
def MSIX_PBA : Reg :=
  ⟨"MSIX_PBA", none, 0x409000, [], 64, .unit, 0x0,
    [],
    [(⟨0, 18⟩, .ro)]⟩
def MSIX_PBA.PENDING : Fld := ⟨0, 18⟩

/-- CMD_ACCESS_FAULT (14_host_commands.md). -/
def CMD_ACCESS_FAULT : Reg :=
  ⟨"CMD_ACCESS_FAULT", none, 0x400008, [], 32, .unit, 0x0,
    [],
    [(⟨0, 1⟩, .w1c), (⟨1, 1⟩, .ro), (⟨2, 1⟩, .ro), (⟨6, 26⟩, .ro)]⟩
def CMD_ACCESS_FAULT.FAULT : Fld := ⟨0, 1⟩
def CMD_ACCESS_FAULT.WRITE : Fld := ⟨1, 1⟩
def CMD_ACCESS_FAULT.HOST : Fld := ⟨2, 1⟩
def CMD_ACCESS_FAULT.OFFSET : Fld := ⟨6, 26⟩

/-- CMD_RING_BASE (14_host_commands.md). -/
def CMD_RING_BASE : Reg :=
  ⟨"CMD_RING_BASE", none, 0x401000, [(16, 0x40)], 64, .unit, 0x0,
    [],
    [(⟨0, 1⟩, .rw), (⟨12, 52⟩, .rw)]⟩
def CMD_RING_BASE.LOC : Fld := ⟨0, 1⟩
def CMD_RING_BASE.BASE : Fld := ⟨12, 52⟩

/-- CMD_CPL_BASE (14_host_commands.md). -/
def CMD_CPL_BASE : Reg :=
  ⟨"CMD_CPL_BASE", none, 0x401008, [(16, 0x40)], 64, .unit, 0x0,
    [],
    [(⟨0, 1⟩, .ro), (⟨12, 52⟩, .rw)]⟩
def CMD_CPL_BASE.LOC : Fld := ⟨0, 1⟩
def CMD_CPL_BASE.BASE : Fld := ⟨12, 52⟩

/-- CMD_RING_CFG (14_host_commands.md). -/
def CMD_RING_CFG : Reg :=
  ⟨"CMD_RING_CFG", none, 0x401010, [(16, 0x40)], 32, .unit, 0x107d0,
    [],
    [(⟨0, 1⟩, .rw), (⟨1, 1⟩, .rw), (⟨2, 4⟩, .rw), (⟨6, 5⟩, .rw), (⟨16, 8⟩, .rw), (⟨24, 8⟩, .rw)]⟩
def CMD_RING_CFG.ENABLE : Fld := ⟨0, 1⟩
def CMD_RING_CFG.PRIO : Fld := ⟨1, 1⟩
def CMD_RING_CFG.LOG2N : Fld := ⟨2, 4⟩
def CMD_RING_CFG.MAXIF : Fld := ⟨6, 5⟩
def CMD_RING_CFG.COAL_CNT : Fld := ⟨16, 8⟩
def CMD_RING_CFG.COAL_US : Fld := ⟨24, 8⟩

/-- CMD_RING_STATUS (14_host_commands.md). -/
def CMD_RING_STATUS : Reg :=
  ⟨"CMD_RING_STATUS", none, 0x401014, [(16, 0x40)], 32, .unit, 0x1000,
    [],
    [(⟨0, 12⟩, .ro), (⟨12, 1⟩, .ro), (⟨13, 1⟩, .ro), (⟨14, 1⟩, .w1c), (⟨16, 3⟩, .ro), (⟨24, 6⟩, .ro)]⟩
def CMD_RING_STATUS.HEAD : Fld := ⟨0, 12⟩
def CMD_RING_STATUS.IDLE : Fld := ⟨12, 1⟩
def CMD_RING_STATUS.ERROR : Fld := ⟨13, 1⟩
def CMD_RING_STATUS.CFG_IGNORED : Fld := ⟨14, 1⟩
def CMD_RING_STATUS.ERR_CAUSE : Fld := ⟨16, 3⟩
def CMD_RING_STATUS.INFLIGHT : Fld := ⟨24, 6⟩

/-- CMD_RING_PTR (14_host_commands.md). -/
def CMD_RING_PTR : Reg :=
  ⟨"CMD_RING_PTR", none, 0x401018, [(16, 0x40)], 64, .unit, 0x10000000,
    [],
    [(⟨0, 12⟩, .ro), (⟨16, 12⟩, .ro), (⟨28, 1⟩, .ro), (⟨32, 12⟩, .ro)]⟩
def CMD_RING_PTR.TAIL : Fld := ⟨0, 12⟩
def CMD_RING_PTR.CTAIL : Fld := ⟨16, 12⟩
def CMD_RING_PTR.PHASE : Fld := ⟨28, 1⟩
def CMD_RING_PTR.CHEAD : Fld := ⟨32, 12⟩

/-- CMD_DB_TAIL (14_host_commands.md). -/
def CMD_DB_TAIL : Reg :=
  ⟨"CMD_DB_TAIL", none, 0x402000, [(16, 0x8)], 32, .unit, 0x0,
    [],
    [(⟨0, 32⟩, .wo)]⟩
def CMD_DB_TAIL.IDX : Fld := ⟨0, 32⟩

/-- CMD_DB_HEAD (14_host_commands.md). -/
def CMD_DB_HEAD : Reg :=
  ⟨"CMD_DB_HEAD", none, 0x402004, [(16, 0x8)], 32, .unit, 0x0,
    [],
    [(⟨0, 32⟩, .wo)]⟩
def CMD_DB_HEAD.IDX : Fld := ⟨0, 32⟩

/-- ETH_PORT_STATUS (15_network_ports.md). -/
def ETH_PORT_STATUS : Reg :=
  ⟨"ETH_PORT_STATUS", none, 0x1410000, [(2, 0x10000)], 32, .unit, 0x0,
    [],
    [(⟨0, 1⟩, .ro), (⟨1, 2⟩, .ro), (⟨3, 2⟩, .ro), (⟨5, 1⟩, .ro), (⟨6, 2⟩, .ro), (⟨8, 8⟩, .ro), (⟨16, 8⟩, .ro)]⟩
def ETH_PORT_STATUS.LINK_UP : Fld := ⟨0, 1⟩
def ETH_PORT_STATUS.SPEED : Fld := ⟨1, 2⟩
def ETH_PORT_STATUS.FC : Fld := ⟨3, 2⟩
def ETH_PORT_STATUS.MACSEC_REQ : Fld := ⟨5, 1⟩
def ETH_PORT_STATUS.TX_AN : Fld := ⟨6, 2⟩
def ETH_PORT_STATUS.XOFF : Fld := ⟨8, 8⟩
def ETH_PORT_STATUS.PAUSED : Fld := ⟨16, 8⟩

/-- ETH_EVENT (15_network_ports.md). -/
def ETH_EVENT : Reg :=
  ⟨"ETH_EVENT", none, 0x1410004, [(2, 0x10000)], 32, .unit, 0x0,
    [],
    [(⟨0, 1⟩, .w1c), (⟨1, 1⟩, .w1c), (⟨2, 1⟩, .w1c), (⟨3, 1⟩, .w1c), (⟨4, 1⟩, .w1c), (⟨5, 1⟩, .w1c), (⟨6, 1⟩, .w1c), (⟨7, 1⟩, .w1c), (⟨8, 1⟩, .w1c), (⟨9, 1⟩, .w1c), (⟨10, 1⟩, .w1c)]⟩
def ETH_EVENT.LINK_DOWN : Fld := ⟨0, 1⟩
def ETH_EVENT.LINK_UP : Fld := ⟨1, 1⟩
def ETH_EVENT.CTL_ERR : Fld := ⟨2, 1⟩
def ETH_EVENT.RX_OVF : Fld := ⟨3, 1⟩
def ETH_EVENT.MACSEC_FAIL : Fld := ⟨4, 1⟩
def ETH_EVENT.PN_WARN : Fld := ⟨5, 1⟩
def ETH_EVENT.DMA_FAIL : Fld := ⟨6, 1⟩
def ETH_EVENT.BAD_DESC : Fld := ⟨7, 1⟩
def ETH_EVENT.DMA_WAIT : Fld := ⟨8, 1⟩
def ETH_EVENT.NOTICE_LOST : Fld := ⟨9, 1⟩
def ETH_EVENT.RBT_ABORT : Fld := ⟨10, 1⟩

/-- ETH_QSTATUS (15_network_ports.md). -/
def ETH_QSTATUS : Reg :=
  ⟨"ETH_QSTATUS", none, 0x1440000, [(32, 0x40)], 64, .die, 0x1000000000,
    [],
    [(⟨0, 12⟩, .ro), (⟨12, 12⟩, .ro), (⟨24, 12⟩, .ro), (⟨36, 1⟩, .ro), (⟨37, 1⟩, .ro), (⟨38, 3⟩, .ro), (⟨41, 1⟩, .ro), (⟨42, 2⟩, .ro), (⟨44, 12⟩, .ro)]⟩
def ETH_QSTATUS.HEAD : Fld := ⟨0, 12⟩
def ETH_QSTATUS.TAIL : Fld := ⟨12, 12⟩
def ETH_QSTATUS.CTAIL : Fld := ⟨24, 12⟩
def ETH_QSTATUS.PHASE : Fld := ⟨36, 1⟩
def ETH_QSTATUS.ENABLED : Fld := ⟨37, 1⟩
def ETH_QSTATUS.KIND : Fld := ⟨38, 3⟩
def ETH_QSTATUS.ERROR : Fld := ⟨41, 1⟩
def ETH_QSTATUS.ERR_CAUSE : Fld := ⟨42, 2⟩
def ETH_QSTATUS.CHEAD : Fld := ⟨44, 12⟩

/-- ETH_PAUSE_TIMER (15_network_ports.md). -/
def ETH_PAUSE_TIMER : Reg :=
  ⟨"ETH_PAUSE_TIMER", none, 0x1410010, [(2, 0x10000), (8, 0x4)], 32, .unit, 0x0,
    [],
    [(⟨0, 16⟩, .ro)]⟩
def ETH_PAUSE_TIMER.QUANTA : Fld := ⟨0, 16⟩

/-- ETH_TX_PN (15_network_ports.md). -/
def ETH_TX_PN : Reg :=
  ⟨"ETH_TX_PN", none, 0x1410040, [(2, 0x10000)], 64, .unit, 0x0,
    [],
    [(⟨0, 64⟩, .ro)]⟩
def ETH_TX_PN.PN : Fld := ⟨0, 64⟩

/-- ETH_CNT (15_network_ports.md). -/
def ETH_CNT : Reg :=
  ⟨"ETH_CNT", none, 0x1410100, [(2, 0x10000), (32, 0x8)], 64, .unit, 0x0,
    [],
    [(⟨0, 64⟩, .ro)]⟩
def ETH_CNT.COUNT : Fld := ⟨0, 64⟩

/-- ETH_QDB (15_network_ports.md). -/
def ETH_QDB : Reg :=
  ⟨"ETH_QDB", none, 0x1440008, [(32, 0x40)], 32, .die, 0x0,
    [],
    [(⟨0, 12⟩, .wo)]⟩
def ETH_QDB.IDX : Fld := ⟨0, 12⟩

/-- ETH_QCPL (15_network_ports.md). -/
def ETH_QCPL : Reg :=
  ⟨"ETH_QCPL", none, 0x144000c, [(32, 0x40)], 32, .die, 0x0,
    [],
    [(⟨0, 12⟩, .wo)]⟩
def ETH_QCPL.IDX : Fld := ⟨0, 12⟩

/-- GLB_REPRO_PROFILE (16_determinism.md). -/
def GLB_REPRO_PROFILE : Reg :=
  ⟨"GLB_REPRO_PROFILE", none, 0x18, [], 64, .cold, 0x0,
    [],
    [(⟨0, 4⟩, .ro), (⟨4, 2⟩, .ro), (⟨6, 2⟩, .ro), (⟨8, 8⟩, .ro), (⟨16, 1⟩, .ro)]⟩
def GLB_REPRO_PROFILE.STEP_CLASS : Fld := ⟨0, 4⟩
def GLB_REPRO_PROFILE.ACCUM : Fld := ⟨4, 2⟩
def GLB_REPRO_PROFILE.SUBNORM : Fld := ⟨6, 2⟩
def GLB_REPRO_PROFILE.NFW_CLASS : Fld := ⟨8, 8⟩
def GLB_REPRO_PROFILE.METRONOME : Fld := ⟨16, 1⟩

/-- GLB_MODE (16_determinism.md). -/
def GLB_MODE : Reg :=
  ⟨"GLB_MODE", none, 0x10, [], 32, .cold, 0x0,
    [],
    [(⟨0, 1⟩, .ro), (⟨1, 1⟩, .ro), (⟨2, 1⟩, .w1c), (⟨3, 1⟩, .w1c)]⟩
def GLB_MODE.METRONOME : Fld := ⟨0, 1⟩
def GLB_MODE.UNISON : Fld := ⟨1, 1⟩
def GLB_MODE.VARIANT_SEEN : Fld := ⟨2, 1⟩
def GLB_MODE.PROFILE_MOVED : Fld := ⟨3, 1⟩

/-- UN_CTRL (16_determinism.md). -/
def UN_CTRL : Reg :=
  ⟨"UN_CTRL", none, 0x8000, [], 32, .c0, 0x0,
    [],
    [(⟨0, 1⟩, .ro), (⟨1, 1⟩, .ro), (⟨16, 16⟩, .ro)]⟩
def UN_CTRL.PAIRED : Fld := ⟨0, 1⟩
def UN_CTRL.IDX : Fld := ⟨1, 1⟩
def UN_CTRL.PARTNER : Fld := ⟨16, 16⟩

/-- UN_STATUS (16_determinism.md). -/
def UN_STATUS : Reg :=
  ⟨"UN_STATUS", none, 0x8004, [], 32, .c0, 0x0,
    [],
    [(⟨0, 1⟩, .w1c), (⟨1, 1⟩, .w1c), (⟨2, 1⟩, .w1c), (⟨3, 1⟩, .w1c), (⟨4, 2⟩, .ro), (⟨8, 8⟩, .ro), (⟨16, 12⟩, .ro)]⟩
def UN_STATUS.MISMATCH : Fld := ⟨0, 1⟩
def UN_STATUS.MULTI : Fld := ⟨1, 1⟩
def UN_STATUS.UNCHECKED : Fld := ⟨2, 1⟩
def UN_STATUS.OVERFLOW : Fld := ⟨3, 1⟩
def UN_STATUS.CAUSE : Fld := ⟨4, 2⟩
def UN_STATUS.UNIT : Fld := ⟨8, 8⟩
def UN_STATUS.STREAM : Fld := ⟨16, 12⟩

/-- UN_SBAR (16_determinism.md). -/
def UN_SBAR : Reg :=
  ⟨"UN_SBAR", none, 0x8008, [], 32, .c0, 0x0,
    [],
    [(⟨0, 32⟩, .ro)]⟩
def UN_SBAR.SBAR : Fld := ⟨0, 32⟩

/-- UN_OWN (16_determinism.md). -/
def UN_OWN : Reg :=
  ⟨"UN_OWN", none, 0x8010, [], 64, .c0, 0x0,
    [],
    [(⟨0, 64⟩, .ro)]⟩
def UN_OWN.DIGEST : Fld := ⟨0, 64⟩

/-- UN_PEER (16_determinism.md). -/
def UN_PEER : Reg :=
  ⟨"UN_PEER", none, 0x8018, [], 64, .c0, 0x0,
    [],
    [(⟨0, 64⟩, .ro)]⟩
def UN_PEER.DIGEST : Fld := ⟨0, 64⟩

/-- UN_MATCHED (16_determinism.md). -/
def UN_MATCHED : Reg :=
  ⟨"UN_MATCHED", none, 0x8020, [], 32, .c0, 0x0,
    [],
    [(⟨0, 32⟩, .ro)]⟩
def UN_MATCHED.COUNT : Fld := ⟨0, 32⟩

/-- UN_UNCHECKED (16_determinism.md). -/
def UN_UNCHECKED : Reg :=
  ⟨"UN_UNCHECKED", none, 0x8024, [], 32, .c0, 0x0,
    [],
    [(⟨0, 32⟩, .ro)]⟩
def UN_UNCHECKED.COUNT : Fld := ⟨0, 32⟩

/-- UN_PENDING (16_determinism.md). -/
def UN_PENDING : Reg :=
  ⟨"UN_PENDING", none, 0x8028, [], 32, .c0, 0x0,
    [],
    [(⟨0, 11⟩, .ro), (⟨16, 11⟩, .rc)]⟩
def UN_PENDING.PENDING : Fld := ⟨0, 11⟩
def UN_PENDING.PEAK : Fld := ⟨16, 11⟩

/-- UN_CAPTURE (16_determinism.md). -/
def UN_CAPTURE : Reg :=
  ⟨"UN_CAPTURE", none, 0x8040, [], 32, .c0, 0x0,
    [],
    [(⟨0, 1⟩, .ro), (⟨1, 1⟩, .ro), (⟨2, 1⟩, .ro), (⟨3, 1⟩, .ro), (⟨4, 1⟩, .ro)]⟩
def UN_CAPTURE.HELD : Fld := ⟨0, 1⟩
def UN_CAPTURE.SNAPSHOT : Fld := ⟨1, 1⟩
def UN_CAPTURE.LOGGING : Fld := ⟨2, 1⟩
def UN_CAPTURE.COMPLETE : Fld := ⟨3, 1⟩
def UN_CAPTURE.INCOMPLETE : Fld := ⟨4, 1⟩

/-- UN_CAP_SBAR (16_determinism.md). -/
def UN_CAP_SBAR : Reg :=
  ⟨"UN_CAP_SBAR", none, 0x8044, [], 32, .c0, 0x0,
    [],
    [(⟨0, 32⟩, .ro)]⟩
def UN_CAP_SBAR.S : Fld := ⟨0, 32⟩

/-- UN_CAP_USED (16_determinism.md). -/
def UN_CAP_USED : Reg :=
  ⟨"UN_CAP_USED", none, 0x8048, [], 32, .c0, 0x0,
    [],
    [(⟨0, 32⟩, .ro)]⟩
def UN_CAP_USED.MIB : Fld := ⟨0, 32⟩

/-- UN_REPLAY_DIV (16_determinism.md). -/
def UN_REPLAY_DIV : Reg :=
  ⟨"UN_REPLAY_DIV", none, 0x804c, [], 32, .c0, 0x0,
    [],
    [(⟨0, 32⟩, .ro)]⟩
def UN_REPLAY_DIV.COUNT : Fld := ⟨0, 32⟩

/-- Every register of this file. -/
def regs4 : List Reg :=
  [CMD_IF_STATUS, MSIX_ADDR, MSIX_DATA, MSIX_CTRL, MSIX_PBA, CMD_ACCESS_FAULT, CMD_RING_BASE, CMD_CPL_BASE, CMD_RING_CFG, CMD_RING_STATUS, CMD_RING_PTR, CMD_DB_TAIL, CMD_DB_HEAD, ETH_PORT_STATUS, ETH_EVENT, ETH_QSTATUS, ETH_PAUSE_TIMER, ETH_TX_PN, ETH_CNT] ++
  [ETH_QDB, ETH_QCPL, GLB_REPRO_PROFILE, GLB_MODE, UN_CTRL, UN_STATUS, UN_SBAR, UN_OWN, UN_PEER, UN_MATCHED, UN_UNCHECKED, UN_PENDING, UN_CAPTURE, UN_CAP_SBAR, UN_CAP_USED] ++
  [UN_REPLAY_DIV]

end Sys2Proof.Machine
end

