-- ==== Sys2Proof/Machine/Regs5.lean ====
section
/-! DEFINITION. The registers of the spec files 17_books_notices.md, 18_resets_power.md, 19_security.md, 20_telemetry_management.md, 21_startup.md: one definition per register heading, one per field. -/

namespace Sys2Proof.Machine

/-- LIN_POOL (17_books_notices.md). -/
def LIN_POOL : Reg :=
  ⟨"LIN_POOL", some (8, 9), 0x7000, [], 64, .die, 0x4000,
    [],
    [(⟨0, 15⟩, .ro), (⟨16, 15⟩, .ro), (⟨32, 15⟩, .ro)]⟩
def LIN_POOL.FREE : Fld := ⟨0, 15⟩
def LIN_POOL.ALLOC : Fld := ⟨16, 15⟩
def LIN_POOL.TRANSIT : Fld := ⟨32, 15⟩

/-- LIN_CFG (17_books_notices.md). -/
def LIN_CFG : Reg :=
  ⟨"LIN_CFG", some (8, 9), 0x7010, [], 32, .die, 0x400,
    [],
    [(⟨0, 15⟩, .rw)]⟩
def LIN_CFG.FLOOR : Fld := ⟨0, 15⟩

/-- LIN_CHAN (17_books_notices.md). -/
def LIN_CHAN : Reg :=
  ⟨"LIN_CHAN", some (8, 9), 0x7100, [(20, 0x8)], 64, .die, 0x0,
    [([8, 0], 0x320), ([8, 1], 0x320), ([8, 2], 0x320), ([8, 3], 0x320), ([8, 4], 0x320), ([8, 5], 0x320), ([8, 6], 0x8), ([8, 7], 0x8), ([8, 8], 0x8), ([8, 9], 0x8), ([8, 10], 0x8), ([8, 11], 0x8), ([8, 12], 0x8), ([8, 13], 0x8), ([8, 14], 0x8), ([8, 15], 0x8), ([8, 16], 0x8), ([8, 17], 0x8), ([8, 18], 0x80), ([8, 19], 0x20), ([9, 0], 0x320), ([9, 1], 0x320), ([9, 2], 0x320), ([9, 3], 0x320), ([9, 4], 0x320), ([9, 5], 0x320), ([9, 6], 0x8), ([9, 7], 0x8), ([9, 8], 0x8), ([9, 9], 0x8), ([9, 10], 0x8), ([9, 11], 0x8), ([9, 12], 0x8), ([9, 13], 0x8), ([9, 14], 0x8), ([9, 15], 0x8), ([9, 16], 0x8), ([9, 17], 0x8), ([9, 18], 0x80), ([9, 19], 0x20)],
    [(⟨0, 16⟩, .ro), (⟨16, 16⟩, .ro), (⟨32, 16⟩, .ro), (⟨48, 16⟩, .rc)]⟩
def LIN_CHAN.RESERVED : Fld := ⟨0, 16⟩
def LIN_CHAN.USED : Fld := ⟨16, 16⟩
def LIN_CHAN.DRAWN : Fld := ⟨32, 16⟩
def LIN_CHAN.PEAK : Fld := ⟨48, 16⟩

/-- NTC_MARKS (17_books_notices.md). -/
def NTC_MARKS : Reg :=
  ⟨"NTC_MARKS", none, 0x180008, [(128, 0x20)], 64, .c0, 0xffffffff00000000,
    [([0], 0x200000000)],
    [(⟨0, 32⟩, .rw), (⟨32, 32⟩, .rw)]⟩
def NTC_MARKS.LOW : Fld := ⟨0, 32⟩
def NTC_MARKS.HIGH : Fld := ⟨32, 32⟩

/-- NTC_STATUS (17_books_notices.md). -/
def NTC_STATUS : Reg :=
  ⟨"NTC_STATUS", none, 0x180010, [(128, 0x20)], 32, .c0, 0x4,
    [],
    [(⟨0, 1⟩, .w1c), (⟨1, 1⟩, .w1c), (⟨2, 1⟩, .ro), (⟨3, 1⟩, .w1c), (⟨16, 16⟩, .ro)]⟩
def NTC_STATUS.CROSSED : Fld := ⟨0, 1⟩
def NTC_STATUS.FELL : Fld := ⟨1, 1⟩
def NTC_STATUS.ARMED : Fld := ⟨2, 1⟩
def NTC_STATUS.CFG_IGNORED : Fld := ⟨3, 1⟩
def NTC_STATUS.UPCOUNT : Fld := ⟨16, 16⟩

/-- LIN_PEAK (17_books_notices.md). -/
def LIN_PEAK : Reg :=
  ⟨"LIN_PEAK", some (8, 9), 0x7008, [], 32, .die, 0x0,
    [],
    [(⟨0, 15⟩, .rc)]⟩
def LIN_PEAK.PEAK : Fld := ⟨0, 15⟩

/-- NTC_LEVEL (17_books_notices.md). -/
def NTC_LEVEL : Reg :=
  ⟨"NTC_LEVEL", none, 0x180000, [(128, 0x20)], 32, .c0, 0x0,
    [],
    [(⟨0, 32⟩, .rw)]⟩
def NTC_LEVEL.LEVEL : Fld := ⟨0, 32⟩

/-- NTC_PEAK (17_books_notices.md). -/
def NTC_PEAK : Reg :=
  ⟨"NTC_PEAK", none, 0x180014, [(128, 0x20)], 32, .c0, 0x0,
    [],
    [(⟨0, 32⟩, .rc)]⟩
def NTC_PEAK.PEAK : Fld := ⟨0, 32⟩

/-- NTC_CTRL (17_books_notices.md). -/
def NTC_CTRL : Reg :=
  ⟨"NTC_CTRL", none, 0x180018, [(128, 0x20)], 32, .c0, 0x0,
    [],
    [(⟨0, 1⟩, .wo)]⟩
def NTC_CTRL.UP_CLR : Fld := ⟨0, 1⟩

/-- RST_COLD (18_resets_power.md). -/
def RST_COLD : Reg :=
  ⟨"RST_COLD", none, 0x301000, [], 32, .cold, 0x0,
    [],
    [(⟨0, 16⟩, .wo)]⟩
def RST_COLD.KEY : Fld := ⟨0, 16⟩

/-- RST_CAUSE (18_resets_power.md). -/
def RST_CAUSE : Reg :=
  ⟨"RST_CAUSE", none, 0x301004, [], 32, .por, 0x1,
    [],
    [(⟨0, 1⟩, .ro), (⟨1, 1⟩, .ro), (⟨2, 1⟩, .ro), (⟨3, 1⟩, .ro)]⟩
def RST_CAUSE.POWER_ON : Fld := ⟨0, 1⟩
def RST_CAUSE.PIN : Fld := ⟨1, 1⟩
def RST_CAUSE.SOFT : Fld := ⟨2, 1⟩
def RST_CAUSE.THERMAL : Fld := ⟨3, 1⟩

/-- RST_GIVEUP (18_resets_power.md). -/
def RST_GIVEUP : Reg :=
  ⟨"RST_GIVEUP", none, 0x301040, [], 32, .cold, 0x2710,
    [],
    [(⟨0, 24⟩, .rw)]⟩
def RST_GIVEUP.GIVEUP_US : Fld := ⟨0, 24⟩

/-- RST_EVENT (18_resets_power.md). -/
def RST_EVENT : Reg :=
  ⟨"RST_EVENT", none, 0x301048, [], 32, .cold, 0x0,
    [],
    [(⟨0, 1⟩, .w1c), (⟨1, 1⟩, .w1c), (⟨2, 1⟩, .w1c), (⟨3, 1⟩, .w1c), (⟨4, 1⟩, .w1c), (⟨5, 1⟩, .w1c)]⟩
def RST_EVENT.RESET_DONE : Fld := ⟨0, 1⟩
def RST_EVENT.STREAM_ENDED : Fld := ⟨1, 1⟩
def RST_EVENT.GIVEUP : Fld := ⟨2, 1⟩
def RST_EVENT.LINK_DISCARD : Fld := ⟨3, 1⟩
def RST_EVENT.FOLD_DONE : Fld := ⟨4, 1⟩
def RST_EVENT.TIMEOUT : Fld := ⟨5, 1⟩

/-- RST_ENDED (18_resets_power.md). -/
def RST_ENDED : Reg :=
  ⟨"RST_ENDED", none, 0x301050, [], 64, .cold, 0x0,
    [],
    [(⟨0, 12⟩, .ro), (⟨12, 4⟩, .ro), (⟨16, 8⟩, .ro), (⟨32, 16⟩, .ro)]⟩
def RST_ENDED.STREAM : Fld := ⟨0, 12⟩
def RST_ENDED.DIE : Fld := ⟨12, 4⟩
def RST_ENDED.REASON : Fld := ⟨16, 8⟩
def RST_ENDED.COUNT : Fld := ⟨32, 16⟩

/-- PWR_THERM (18_resets_power.md). -/
def PWR_THERM : Reg :=
  ⟨"PWR_THERM", none, 0x3020b0, [], 32, .cold, 0x64,
    [],
    [(⟨0, 8⟩, .rw), (⟨16, 8⟩, .ro)]⟩
def PWR_THERM.THROT : Fld := ⟨0, 8⟩
def PWR_THERM.THROTTLED : Fld := ⟨16, 8⟩

/-- AON_FW (18_resets_power.md). -/
def AON_FW : Reg :=
  ⟨"AON_FW", none, 0x303000, [], 64, .por, 0x7d0000000000000,
    [],
    [(⟨0, 32⟩, .ro), (⟨32, 8⟩, .ro), (⟨40, 1⟩, .ro), (⟨41, 1⟩, .ro), (⟨42, 1⟩, .w1c), (⟨48, 16⟩, .rw)]⟩
def AON_FW.VERSION : Fld := ⟨0, 32⟩
def AON_FW.NFW_CLASS : Fld := ⟨32, 8⟩
def AON_FW.STAGED : Fld := ⟨40, 1⟩
def AON_FW.ACTIVATING : Fld := ⟨41, 1⟩
def AON_FW.REVERTED : Fld := ⟨42, 1⟩
def AON_FW.LIMIT_MS : Fld := ⟨48, 16⟩

/-- RST_DIE (18_resets_power.md). -/
def RST_DIE : Reg :=
  ⟨"RST_DIE", none, 0x301010, [], 32, .cold, 0x0,
    [],
    [(⟨0, 12⟩, .ro)]⟩
def RST_DIE.IN_RESET : Fld := ⟨0, 12⟩

/-- RST_PRESS (18_resets_power.md). -/
def RST_PRESS : Reg :=
  ⟨"RST_PRESS", none, 0x301020, [(8, 0x4)], 32, .cold, 0x0,
    [],
    [(⟨0, 32⟩, .ro)]⟩
def RST_PRESS.IN_RESET : Fld := ⟨0, 32⟩

/-- RST_DISCARDS (18_resets_power.md). -/
def RST_DISCARDS : Reg :=
  ⟨"RST_DISCARDS", none, 0x301058, [], 32, .cold, 0x0,
    [],
    [(⟨0, 32⟩, .ro)]⟩
def RST_DISCARDS.COUNT : Fld := ⟨0, 32⟩

/-- PWR_DIE (18_resets_power.md). -/
def PWR_DIE : Reg :=
  ⟨"PWR_DIE", none, 0x302000, [], 32, .cold, 0x0,
    [],
    [(⟨0, 12⟩, .ro)]⟩
def PWR_DIE.FOLDED : Fld := ⟨0, 12⟩

/-- PWR_PFOLD (18_resets_power.md). -/
def PWR_PFOLD : Reg :=
  ⟨"PWR_PFOLD", none, 0x302010, [(8, 0x4)], 32, .cold, 0x0,
    [],
    [(⟨0, 32⟩, .ro)]⟩
def PWR_PFOLD.BITS : Fld := ⟨0, 32⟩

/-- PWR_PIDLE (18_resets_power.md). -/
def PWR_PIDLE : Reg :=
  ⟨"PWR_PIDLE", none, 0x302030, [(8, 0x4)], 32, .cold, 0x0,
    [],
    [(⟨0, 32⟩, .ro)]⟩
def PWR_PIDLE.BITS : Fld := ⟨0, 32⟩

/-- PWR_PSTATE (18_resets_power.md). -/
def PWR_PSTATE : Reg :=
  ⟨"PWR_PSTATE", none, 0x302050, [(8, 0x8)], 64, .cold, 0x0,
    [],
    [(⟨0, 64⟩, .ro)]⟩
def PWR_PSTATE.BITS : Fld := ⟨0, 64⟩

/-- PWR_RAIL (18_resets_power.md). -/
def PWR_RAIL : Reg :=
  ⟨"PWR_RAIL", none, 0x302090, [(8, 0x4)], 32, .cold, 0x0,
    [],
    [(⟨0, 10⟩, .ro), (⟨16, 10⟩, .ro)]⟩
def PWR_RAIL.NOW_MV : Fld := ⟨0, 10⟩
def PWR_RAIL.TARGET_MV : Fld := ⟨16, 10⟩

/-- PWR_TEMP (18_resets_power.md). -/
def PWR_TEMP : Reg :=
  ⟨"PWR_TEMP", none, 0x3020c0, [(12, 0x4)], 32, .cold, 0x0,
    [],
    [(⟨0, 8⟩, .ro), (⟨8, 8⟩, .rc)]⟩
def PWR_TEMP.NOW : Fld := ⟨0, 8⟩
def PWR_TEMP.PEAK : Fld := ⟨8, 8⟩

/-- AON_FW_STAGED (18_resets_power.md). -/
def AON_FW_STAGED : Reg :=
  ⟨"AON_FW_STAGED", none, 0x303008, [], 64, .por, 0x0,
    [],
    [(⟨0, 32⟩, .ro), (⟨32, 8⟩, .ro)]⟩
def AON_FW_STAGED.VERSION : Fld := ⟨0, 32⟩
def AON_FW_STAGED.NFW_CLASS : Fld := ⟨32, 8⟩

/-- AON_WASH (18_resets_power.md). -/
def AON_WASH : Reg :=
  ⟨"AON_WASH", none, 0x303400, [(280, 0x4)], 32, .por, 0x0,
    [],
    [(⟨0, 16⟩, .ro)]⟩
def AON_WASH.WASH : Fld := ⟨0, 16⟩

/-- SM_STATUS (19_security.md). -/
def SM_STATUS : Reg :=
  ⟨"SM_STATUS", none, 0x200000, [], 32, .c0, 0x0,
    [],
    [(⟨0, 3⟩, .ro), (⟨3, 1⟩, .ro), (⟨4, 1⟩, .ro), (⟨5, 1⟩, .ro), (⟨6, 1⟩, .ro), (⟨8, 3⟩, .ro), (⟨16, 5⟩, .ro), (⟨24, 8⟩, .ro)]⟩
def SM_STATUS.STATE : Fld := ⟨0, 3⟩
def SM_STATUS.APPROVED : Fld := ⟨3, 1⟩
def SM_STATUS.DEBUG_UNLOCKED : Fld := ⟨4, 1⟩
def SM_STATUS.STORE_BAD : Fld := ⟨5, 1⟩
def SM_STATUS.STORE_EXHAUSTED : Fld := ⟨6, 1⟩
def SM_STATUS.STORE_BANK : Fld := ⟨8, 3⟩
def SM_STATUS.SESSIONS : Fld := ⟨16, 5⟩
def SM_STATUS.ERR_CODE : Fld := ⟨24, 8⟩

/-- SM_EVENT (19_security.md). -/
def SM_EVENT : Reg :=
  ⟨"SM_EVENT", none, 0x200008, [], 32, .c0, 0x0,
    [],
    [(⟨0, 1⟩, .w1c), (⟨1, 1⟩, .w1c), (⟨2, 1⟩, .w1c), (⟨3, 1⟩, .w1c), (⟨4, 1⟩, .w1c)]⟩
def SM_EVENT.ERROR : Fld := ⟨0, 1⟩
def SM_EVENT.ZEROIZED : Fld := ⟨1, 1⟩
def SM_EVENT.AUTH_FAIL : Fld := ⟨2, 1⟩
def SM_EVENT.DEBUG_UNLOCKED : Fld := ⟨3, 1⟩
def SM_EVENT.STORE_BAD : Fld := ⟨4, 1⟩

/-- SM_MBOX_CTRL (19_security.md). -/
def SM_MBOX_CTRL : Reg :=
  ⟨"SM_MBOX_CTRL", none, 0x200240, [], 32, .c0, 0x0,
    [],
    [(⟨0, 1⟩, .wo), (⟨1, 1⟩, .ro), (⟨2, 1⟩, .w1c), (⟨8, 2⟩, .ro)]⟩
def SM_MBOX_CTRL.GO : Fld := ⟨0, 1⟩
def SM_MBOX_CTRL.BUSY : Fld := ⟨1, 1⟩
def SM_MBOX_CTRL.DONE : Fld := ⟨2, 1⟩
def SM_MBOX_CTRL.TRANSPORT : Fld := ⟨8, 2⟩

/-- SM_SELFTEST (19_security.md). -/
def SM_SELFTEST : Reg :=
  ⟨"SM_SELFTEST", none, 0x200004, [], 32, .c0, 0x0,
    [],
    [(⟨0, 12⟩, .ro), (⟨16, 12⟩, .ro)]⟩
def SM_SELFTEST.PASSED : Fld := ⟨0, 12⟩
def SM_SELFTEST.FAILED : Fld := ⟨16, 12⟩

/-- SM_POLICY (19_security.md). -/
def SM_POLICY : Reg :=
  ⟨"SM_POLICY", none, 0x200010, [], 32, .c0, 0x180f00,
    [],
    [(⟨0, 1⟩, .ro), (⟨8, 8⟩, .ro), (⟨16, 8⟩, .ro)]⟩
def SM_POLICY.SCORE_NONE : Fld := ⟨0, 1⟩
def SM_POLICY.IDLE_MIN : Fld := ⟨8, 8⟩
def SM_POLICY.RETEST_H : Fld := ⟨16, 8⟩

/-- SM_ROLLBACK (19_security.md). -/
def SM_ROLLBACK : Reg :=
  ⟨"SM_ROLLBACK", none, 0x200018, [], 32, .cold, 0x0,
    [],
    [(⟨0, 7⟩, .ro), (⟨8, 7⟩, .ro), (⟨16, 4⟩, .ro), (⟨20, 2⟩, .ro)]⟩
def SM_ROLLBACK.SM_SVN : Fld := ⟨0, 7⟩
def SM_ROLLBACK.FW_SVN : Fld := ⟨8, 7⟩
def SM_ROLLBACK.ROOT_REVOKED : Fld := ⟨16, 4⟩
def SM_ROLLBACK.CO_FUSED : Fld := ⟨20, 2⟩

/-- SM_DEBUG (19_security.md). -/
def SM_DEBUG : Reg :=
  ⟨"SM_DEBUG", none, 0x20001c, [], 32, .cold, 0x1,
    [],
    [(⟨0, 1⟩, .ro), (⟨1, 1⟩, .ro)]⟩
def SM_DEBUG.LOCKED : Fld := ⟨0, 1⟩
def SM_DEBUG.DISABLE_FUSE : Fld := ⟨1, 1⟩

/-- SM_MBOX_SLOT (19_security.md). -/
def SM_MBOX_SLOT : Reg :=
  ⟨"SM_MBOX_SLOT", none, 0x200100, [(32, 0x8)], 64, .c0, 0x0,
    [],
    [(⟨0, 64⟩, .rw)]⟩
def SM_MBOX_SLOT.DATA : Fld := ⟨0, 64⟩

/-- SM_MBOX_CPL (19_security.md). -/
def SM_MBOX_CPL : Reg :=
  ⟨"SM_MBOX_CPL", none, 0x200200, [(4, 0x8)], 64, .c0, 0x0,
    [],
    [(⟨0, 64⟩, .ro)]⟩
def SM_MBOX_CPL.DATA : Fld := ⟨0, 64⟩

/-- TEL_STATUS (20_telemetry_management.md). -/
def TEL_STATUS : Reg :=
  ⟨"TEL_STATUS", none, 0x1800000, [], 32, .c0, 0x0,
    [],
    [(⟨0, 1⟩, .ro), (⟨16, 16⟩, .ro)]⟩
def TEL_STATUS.BUSY : Fld := ⟨0, 1⟩
def TEL_STATUS.SNAPS : Fld := ⟨16, 16⟩

/-- TEL_EVENT (20_telemetry_management.md). -/
def TEL_EVENT : Reg :=
  ⟨"TEL_EVENT", none, 0x1800008, [], 32, .c0, 0x0,
    [],
    [(⟨0, 1⟩, .w1c), (⟨1, 1⟩, .w1c), (⟨2, 1⟩, .w1c), (⟨3, 1⟩, .w1c)]⟩
def TEL_EVENT.SNAP_FAIL : Fld := ⟨0, 1⟩
def TEL_EVENT.EXTEST : Fld := ⟨1, 1⟩
def TEL_EVENT.DBG_DENIED : Fld := ⟨2, 1⟩
def TEL_EVENT.DEBUG_ACCESS : Fld := ⟨3, 1⟩

/-- SMB_ADDR (20_telemetry_management.md). -/
def SMB_ADDR : Reg :=
  ⟨"SMB_ADDR", none, 0x1900000, [], 32, .por, 0x0,
    [],
    [(⟨0, 7⟩, .ro), (⟨7, 1⟩, .ro), (⟨8, 1⟩, .ro)]⟩
def SMB_ADDR.ADDR : Fld := ⟨0, 7⟩
def SMB_ADDR.AV : Fld := ⟨7, 1⟩
def SMB_ADDR.HEM_IN : Fld := ⟨8, 1⟩

/-- SMB_EVENT (20_telemetry_management.md). -/
def SMB_EVENT : Reg :=
  ⟨"SMB_EVENT", none, 0x1900008, [], 32, .por, 0x0,
    [],
    [(⟨0, 1⟩, .w1c), (⟨1, 1⟩, .w1c), (⟨2, 1⟩, .w1c), (⟨3, 1⟩, .w1c), (⟨4, 1⟩, .w1c)]⟩
def SMB_EVENT.ASSIGNED : Fld := ⟨0, 1⟩
def SMB_EVENT.PEC_ERR : Fld := ⟨1, 1⟩
def SMB_EVENT.TIMEOUT : Fld := ⟨2, 1⟩
def SMB_EVENT.CMD_ERR : Fld := ⟨3, 1⟩
def SMB_EVENT.RESET_DEVICE : Fld := ⟨4, 1⟩

/-- TEL_CLR (20_telemetry_management.md). -/
def TEL_CLR : Reg :=
  ⟨"TEL_CLR", none, 0x1800020, [], 32, .c0, 0x0,
    [],
    [(⟨0, 1⟩, .wo)]⟩
def TEL_CLR.CLR : Fld := ⟨0, 1⟩

/-- TEL_PKG (20_telemetry_management.md). -/
def TEL_PKG : Reg :=
  ⟨"TEL_PKG", none, 0x1800010, [], 64, .cold, 0x0,
    [],
    [(⟨0, 32⟩, .ro), (⟨32, 32⟩, .ro)]⟩
def TEL_PKG.GATE_BEATS : Fld := ⟨0, 32⟩
def TEL_PKG.HELD_BARS : Fld := ⟨32, 32⟩

/-- TEL_LINK_DB_EARLY (20_telemetry_management.md). -/
def TEL_LINK_DB_EARLY : Reg :=
  ⟨"TEL_LINK_DB_EARLY", none, 0x1800100, [(12, 0x20)], 32, .unit, 0x0,
    [],
    [(⟨0, 32⟩, .ro)]⟩
def TEL_LINK_DB_EARLY.COUNT : Fld := ⟨0, 32⟩

/-- TEL_LINK_DB_LATE (20_telemetry_management.md). -/
def TEL_LINK_DB_LATE : Reg :=
  ⟨"TEL_LINK_DB_LATE", none, 0x1800104, [(12, 0x20)], 32, .unit, 0x0,
    [],
    [(⟨0, 32⟩, .ro)]⟩
def TEL_LINK_DB_LATE.COUNT : Fld := ⟨0, 32⟩

/-- TEL_LINK_DB_BAD (20_telemetry_management.md). -/
def TEL_LINK_DB_BAD : Reg :=
  ⟨"TEL_LINK_DB_BAD", none, 0x1800108, [(12, 0x20)], 32, .unit, 0x0,
    [],
    [(⟨0, 32⟩, .ro)]⟩
def TEL_LINK_DB_BAD.COUNT : Fld := ⟨0, 32⟩

/-- TEL_LINK_DB_MISSING (20_telemetry_management.md). -/
def TEL_LINK_DB_MISSING : Reg :=
  ⟨"TEL_LINK_DB_MISSING", none, 0x180010c, [(12, 0x20)], 32, .unit, 0x0,
    [],
    [(⟨0, 32⟩, .ro)]⟩
def TEL_LINK_DB_MISSING.COUNT : Fld := ⟨0, 32⟩

/-- TEL_LINK_CI_DISCARD (20_telemetry_management.md). -/
def TEL_LINK_CI_DISCARD : Reg :=
  ⟨"TEL_LINK_CI_DISCARD", none, 0x1800110, [(12, 0x20)], 32, .unit, 0x0,
    [],
    [(⟨0, 32⟩, .ro)]⟩
def TEL_LINK_CI_DISCARD.COUNT : Fld := ⟨0, 32⟩

/-- TEL_LINK_TACK_TX (20_telemetry_management.md). -/
def TEL_LINK_TACK_TX : Reg :=
  ⟨"TEL_LINK_TACK_TX", none, 0x1800114, [(12, 0x20)], 32, .unit, 0x0,
    [],
    [(⟨0, 32⟩, .ro)]⟩
def TEL_LINK_TACK_TX.COUNT : Fld := ⟨0, 32⟩

/-- TEL_LINK_TACK_RX (20_telemetry_management.md). -/
def TEL_LINK_TACK_RX : Reg :=
  ⟨"TEL_LINK_TACK_RX", none, 0x1800118, [(12, 0x20)], 32, .unit, 0x0,
    [],
    [(⟨0, 32⟩, .ro)]⟩
def TEL_LINK_TACK_RX.COUNT : Fld := ⟨0, 32⟩

/-- TEL_SECT_DEP (20_telemetry_management.md). -/
def TEL_SECT_DEP : Reg :=
  ⟨"TEL_SECT_DEP", none, 0x1810000, [(8, 0x1000), (32, 0x40), (4, 0x10)], 32, .unit, 0x0,
    [],
    [(⟨0, 32⟩, .ro)]⟩
def TEL_SECT_DEP.COUNT : Fld := ⟨0, 32⟩

/-- TEL_SECT_CUE (20_telemetry_management.md). -/
def TEL_SECT_CUE : Reg :=
  ⟨"TEL_SECT_CUE", none, 0x1810004, [(8, 0x1000), (32, 0x40), (4, 0x10)], 32, .unit, 0x0,
    [],
    [(⟨0, 32⟩, .ro)]⟩
def TEL_SECT_CUE.COUNT : Fld := ⟨0, 32⟩

/-- TEL_SECT_SYNC (20_telemetry_management.md). -/
def TEL_SECT_SYNC : Reg :=
  ⟨"TEL_SECT_SYNC", none, 0x1810008, [(8, 0x1000), (32, 0x40), (4, 0x10)], 32, .unit, 0x0,
    [],
    [(⟨0, 32⟩, .ro)]⟩
def TEL_SECT_SYNC.COUNT : Fld := ⟨0, 32⟩

/-- TEL_SECT_QWAIT (20_telemetry_management.md). -/
def TEL_SECT_QWAIT : Reg :=
  ⟨"TEL_SECT_QWAIT", none, 0x181000c, [(8, 0x1000), (32, 0x40), (4, 0x10)], 32, .unit, 0x0,
    [],
    [(⟨0, 32⟩, .ro)]⟩
def TEL_SECT_QWAIT.COUNT : Fld := ⟨0, 32⟩

/-- SMB_CFG (20_telemetry_management.md). -/
def SMB_CFG : Reg :=
  ⟨"SMB_CFG", none, 0x1900004, [], 32, .por, 0x1,
    [],
    [(⟨0, 1⟩, .rw), (⟨1, 1⟩, .rw)]⟩
def SMB_CFG.ALERT_EN : Fld := ⟨0, 1⟩
def SMB_CFG.PEC_REQ : Fld := ⟨1, 1⟩

/-- SMB_COUNT (20_telemetry_management.md). -/
def SMB_COUNT : Reg :=
  ⟨"SMB_COUNT", none, 0x190000c, [], 32, .por, 0x0,
    [],
    [(⟨0, 16⟩, .ro), (⟨16, 16⟩, .ro)]⟩
def SMB_COUNT.PEC_ERR : Fld := ⟨0, 16⟩
def SMB_COUNT.COMMANDS : Fld := ⟨16, 16⟩

/-- RST_BOOT (21_startup.md). -/
def RST_BOOT : Reg :=
  ⟨"RST_BOOT", none, 0x301060, [], 32, .cold, 0x1,
    [],
    [(⟨0, 4⟩, .ro), (⟨4, 4⟩, .ro), (⟨8, 1⟩, .ro), (⟨9, 1⟩, .ro), (⟨10, 1⟩, .ro), (⟨11, 1⟩, .ro), (⟨16, 16⟩, .ro)]⟩
def RST_BOOT.STAGE : Fld := ⟨0, 4⟩
def RST_BOOT.FAIL : Fld := ⟨4, 4⟩
def RST_BOOT.COPY_SM : Fld := ⟨8, 1⟩
def RST_BOOT.COPY_FW : Fld := ⟨9, 1⟩
def RST_BOOT.DIR_BAD : Fld := ⟨10, 1⟩
def RST_BOOT.DIR_COPY : Fld := ⟨11, 1⟩
def RST_BOOT.ELAPSED_MS : Fld := ⟨16, 16⟩

/-- Every register of this file. -/
def regs5 : List Reg :=
  [LIN_POOL, LIN_CFG, LIN_CHAN, NTC_MARKS, NTC_STATUS, LIN_PEAK, NTC_LEVEL, NTC_PEAK, NTC_CTRL, RST_COLD, RST_CAUSE, RST_GIVEUP, RST_EVENT, RST_ENDED, PWR_THERM] ++
  [AON_FW, RST_DIE, RST_PRESS, RST_DISCARDS, PWR_DIE, PWR_PFOLD, PWR_PIDLE, PWR_PSTATE, PWR_RAIL, PWR_TEMP, AON_FW_STAGED, AON_WASH, SM_STATUS, SM_EVENT, SM_MBOX_CTRL] ++
  [SM_SELFTEST, SM_POLICY, SM_ROLLBACK, SM_DEBUG, SM_MBOX_SLOT, SM_MBOX_CPL, TEL_STATUS, TEL_EVENT, SMB_ADDR, SMB_EVENT, TEL_CLR, TEL_PKG, TEL_LINK_DB_EARLY, TEL_LINK_DB_LATE, TEL_LINK_DB_BAD] ++
  [TEL_LINK_DB_MISSING, TEL_LINK_CI_DISCARD, TEL_LINK_TACK_TX, TEL_LINK_TACK_RX, TEL_SECT_DEP, TEL_SECT_CUE, TEL_SECT_SYNC, TEL_SECT_QWAIT, SMB_CFG, SMB_COUNT, RST_BOOT]

end Sys2Proof.Machine
end

