-- ==== Sys2Proof/Machine/RegMap.lean ====
section
/-! DEFINITION. The list of every register, and the decode of a BAR0 offset to a register instance. -/

namespace Sys2Proof.Machine

/-- Every register of BAR0 that the spec names. -/
def allRegs : List Reg := regs0 ++ regs1 ++ regs2 ++ regs3 ++ regs4 ++ regs5

/-- The indices along `dims` that reach a distance `n`, when some do. The strides of one register fall. -/
def dimIx : List (Nat × Nat) → Nat → Option (List Nat)
  | [], n => if n = 0 then some [] else none
  | (c, st) :: ds, n =>
    if n / st < c then (dimIx ds (n % st)).map (fun l => n / st :: l) else none

/-- The instance of `r` that starts at BAR0 offset `a`, when one does. -/
def Reg.at? (r : Reg) (a : Nat) : Option (List Nat) :=
  match r.dies with
  | none => if r.off ≤ a then dimIx r.dims (a - r.off) else none
  | some (lo, hi) =>
    (List.range (hi + 1 - lo)).findSome? (fun j =>
      let d := lo + j
      let b := dieWin d + r.off
      if b ≤ a ∧ a - b < 0x0010_0000 then (dimIx r.dims (a - b)).map (fun l => d :: l) else none)

/-- The register instance that starts at BAR0 offset `a`, when one does. -/
def regAt (a : Nat) : Option (Reg × List Nat) :=
  allRegs.findSome? (fun r => (r.at? a).map (fun ix => (r, ix)))

end Sys2Proof.Machine
end

