-- ==== Sys2Proof/Machine/Store.lean ====
section
/-! DEFINITION. Sparse tables in one canonical form (keys strictly rising, no entry at the value an
unlisted key reads as), and the bit-field and byte helpers every unit uses. -/

namespace Sys2Proof.Machine

/-- A sparse table: what is listed, by key. An unlisted key reads as a default its owner names. -/
abbrev Table (α : Type) := List (Nat × α)

/-- Read one key of a table whose unlisted keys read as `d`. -/
def tget {α : Type} (d : α) : Table α → Nat → α
  | [], _ => d
  | (k, v) :: t, i => if k = i then v else tget d t i

/-- Write one key, keeping the canonical form: the default is never listed. -/
def tput {α : Type} [DecidableEq α] (d : α) : Table α → Nat → α → Table α
  | [], i, v => if v = d then [] else [(i, v)]
  | (k, w) :: t, i, v =>
    if i < k then (if v = d then (k, w) :: t else (i, v) :: (k, w) :: t)
    else if i = k then (if v = d then t else (i, v) :: t)
    else (k, w) :: tput d t i v

/-- The canonical form: keys above `b`, strictly rising, and no entry equal to the default. -/
def tokFrom {α : Type} [DecidableEq α] (d : α) : Nat → Table α → Bool
  | _, [] => true
  | b, (k, v) :: t => decide (b ≤ k) && decide (v ≠ d) && tokFrom d (k + 1) t

/-- The canonical form of a whole table. -/
def tok {α : Type} [DecidableEq α] (d : α) (t : Table α) : Bool := tokFrom d 0 t

/-- Forget every entry whose key satisfies `p`: those keys read as the default again. -/
def tclear {α : Type} (p : Nat → Bool) : Table α → Table α
  | [] => []
  | (k, v) :: t => if p k then tclear p t else (k, v) :: tclear p t

/-- Read a bit range as a number. -/
def fget (v : Word) (f : Fld) : Nat := ((v >>> f.lo).toNat) % 2 ^ f.width

/-- The mask of a bit range. -/
def fmask (f : Fld) : Word := BitVec.ofNat 64 ((2 ^ f.width - 1) * 2 ^ f.lo)

/-- Write a bit range; the number is taken modulo the width, the other bits keep their value. -/
def fset (v : Word) (f : Fld) (x : Nat) : Word :=
  (v &&& ~~~ fmask f) ||| BitVec.ofNat 64 ((x % 2 ^ f.width) * 2 ^ f.lo)

/-- Test one bit of a register value. -/
def bitOf (v : Word) (i : Nat) : Bool := v.toNat.testBit i

/-- 1 for true, 0 for false. -/
def b2n (b : Bool) : Nat := if b then 1 else 0

/-- A number's bits below `w`, as a two's-complement value (R995). -/
def sx (w n : Nat) : Int :=
  let m := n % 2 ^ w
  if 2 * m < 2 ^ w then (m : Int) else (m : Int) - (2 ^ w : Nat)

/-- The serial difference a − b of `w`-bit numbers (R995). -/
def serialDiff (w a b : Nat) : Int := sx w (a + 2 ^ w - b % 2 ^ w)

/-- `a ≥ b` in serial arithmetic: the difference is 0 or positive (R995). -/
def serialGe (w a b : Nat) : Bool := decide (0 ≤ serialDiff w a b)

/-- `a` is newer than `b`: the serial difference is positive (R995). -/
def newer (w a b : Nat) : Bool := decide (0 < serialDiff w a b)

/-- The number spelled little-endian by bytes (R25). -/
def leNat : List Byte → Nat
  | [] => 0
  | b :: t => b.toNat + 256 * leNat t

/-- The `n` little-endian bytes of a number (R25). -/
def leBytes : Nat → Nat → List Byte
  | 0, _ => []
  | n + 1, v => BitVec.ofNat 8 v :: leBytes n (v / 256)

/-- `n` bytes of `l` from index `i`, 0 beyond the end. -/
def slice (l : List Byte) (i n : Nat) : List Byte :=
  let t := (l.drop i).take n
  t ++ List.replicate (n - t.length) 0

/-- The little-endian number at byte `i`, `n` bytes wide. -/
def leAt (l : List Byte) (i n : Nat) : Nat := leNat (slice l i n)

/-- `l` with the bytes `bs` laid over it from index `i`. -/
def overlay (l : List Byte) (i : Nat) (bs : List Byte) : List Byte :=
  l.take i ++ bs ++ l.drop (i + bs.length)

/-- Saturating addition. -/
def satAdd (cap a b : Nat) : Nat := min cap (a + b)

/-- Apply `f` for each element in order. -/
def foldS {σ α : Type} (f : σ → α → σ) (s : σ) (l : List α) : σ := l.foldl f s

/-- Replace the elements satisfying `p` by `g` of them. -/
def mapIf {α : Type} (p : α → Bool) (g : α → α) (l : List α) : List α :=
  l.map (fun x => if p x then g x else x)

/-- Drop the first element satisfying `p`. -/
def dropFirst {α : Type} (p : α → Bool) : List α → List α
  | [] => []
  | x :: t => if p x then t else x :: dropFirst p t

end Sys2Proof.Machine
end

