-- ==== Sys2Proof/Machine/Slot.lean ====
section
/-! DEFINITION. The command slot: its header fields, TARGET, status codes and the opcode index (R686, R687, R693, R694). -/

namespace Sys2Proof

open Sys2Proof.Machine

/-- Header field (R686, R687). -/
def Cmd.opcode (c : Cmd) : Nat := leAt c.slot 0 2
/-- Header field (R686, R687). -/
def Cmd.flags (c : Cmd) : Nat := leAt c.slot 2 1
/-- Header field (R686, R687). -/
def Cmd.version (c : Cmd) : Nat := leAt c.slot 3 1
/-- Header field (R686, R687). -/
def Cmd.tag (c : Cmd) : Nat := leAt c.slot 4 4
/-- Header field (R686, R687). -/
def Cmd.target (c : Cmd) : Nat := leAt c.slot 8 2
/-- Header field (R686, R687). -/
def Cmd.inlineLen (c : Cmd) : Nat := leAt c.slot 10 1
/-- Header field (R686, R687). -/
def Cmd.session (c : Cmd) : Nat := leAt c.slot 12 4
/-- Parameter bytes, numbered from 0 (R686). -/
def Cmd.par (c : Cmd) (i n : Nat) : Nat := leAt c.slot (16 + i) n
/-- Inline data bytes (R686). -/
def Cmd.inl (c : Cmd) : List Byte := slice c.slot 32 c.inlineLen
/-- Bytes of the parameter field are all 0. -/
def Cmd.parZero (c : Cmd) (i n : Nat) : Bool := c.par i n == 0
/-- Header field (R686, R687). -/
def Cmd.tDie (c : Cmd) : Nat := c.target % 16
/-- Header field (R686, R687). -/
def Cmd.tSub (c : Cmd) : Nat := c.target / 16 % 16
/-- Header field (R686, R687). -/
def Cmd.tIndex (c : Cmd) : Nat := c.target / 256

/-- TARGET is a valid encoding (R687). -/
def Cmd.targetValid (c : Cmd) : Bool :=
  let d := c.tDie
  let i := c.tIndex
  if c.target = 0x000F then true
  else if 11 < d then false
  else if c.tSub = 0 then i == 0
  else if c.tSub = 1 then decide (d < 8) && decide (i < 32)
  else if c.tSub = 2 then (d == 8 || d == 9) && decide (i < 6)
  else if c.tSub = 3 then d == 11 && decide (i < 2)
  else if c.tSub = 4 then d == 10 && decide (i < 16)
  else false

/-- The units an opcode's TARGET may name: power commands take dies and Presses, the Ports group takes ports of E0
(R688, R748 to R751; R850: UNIT_RESET takes any unit). -/
def Cmd.targetTaken (c : Cmd) (unit : Bool) : Bool :=
  if !unit then c.target == 0x000F
  else if c.opcode / 256 = 8 then c.tDie == 11 && c.tSub == 3
  else if c.opcode = 0x0504 then decide (c.tDie < 8) && (c.tSub == 0 || c.tSub == 1)
  else if c.opcode = 0x0502 ∨ c.opcode = 0x0503 then
    (decide (c.tDie < 8) && (c.tSub == 0 || c.tSub == 1)) || (c.tDie == 11 && c.tSub == 0)
  else c.target != 0x000F

end Sys2Proof

namespace Sys2Proof.Machine

/-- Status codes (R693). -/
def stOk : Nat := 0x00
def stBadOpcode : Nat := 0x01
def stBadParam : Nat := 0x02
def stBadLength : Nat := 0x03
def stNotAuthorized : Nat := 0x04
def stBusy : Nat := 0x05
def stAbsentUnit : Nat := 0x06
def stUnitInReset : Nat := 0x07
def stUnitFolded : Nat := 0x08
def stTimeout : Nat := 0x09
def stPeerReset : Nat := 0x0A
def stStaleWash : Nat := 0x0B
def stSliceViolation : Nat := 0x0C
def stIntegrity : Nat := 0x0D
def stVariantOp : Nat := 0x0E
def stScoreFault : Nat := 0x0F
def stTempoFault : Nat := 0x10
def stResource : Nat := 0x11
def stProfileMismatch : Nat := 0x12
def stInternal : Nat := 0x1F

/-- One row of the opcode index (R694): opcode, whether TARGET names a unit, and the transports in the order H C S P. -/
structure OpRow where
  code : Nat
  unit : Bool
  h : Bool
  c : Bool
  s : Bool
  p : Bool
  deriving DecidableEq, Repr

/-- The opcode index (R694). -/
def opIndex : List OpRow :=
  [⟨0x0101, false, true, true, true, true⟩, ⟨0x0102, false, true, true, true, true⟩,
   ⟨0x0201, false, true, false, false, false⟩, ⟨0x0202, false, true, false, false, false⟩,
   ⟨0x0203, false, true, true, false, true⟩, ⟨0x0204, false, true, true, false, true⟩,
   ⟨0x0205, false, true, true, false, false⟩, ⟨0x0206, false, true, true, false, false⟩,
   ⟨0x0301, false, true, true, false, false⟩, ⟨0x0302, false, true, true, false, true⟩,
   ⟨0x0303, false, true, true, false, false⟩, ⟨0x0304, false, true, true, false, true⟩,
   ⟨0x0305, false, true, true, false, true⟩, ⟨0x0306, false, true, true, true, true⟩] ++
  [⟨0x0401, false, true, true, false, false⟩, ⟨0x0402, false, true, true, false, false⟩,
   ⟨0x0403, false, true, true, false, false⟩, ⟨0x0404, false, true, true, false, false⟩,
   ⟨0x0405, false, true, true, false, false⟩, ⟨0x0501, true, true, true, true, false⟩,
   ⟨0x0502, true, true, true, true, false⟩, ⟨0x0503, true, true, true, true, false⟩,
   ⟨0x0504, true, true, true, true, false⟩, ⟨0x0601, false, true, true, true, true⟩,
   ⟨0x0602, false, true, true, false, false⟩, ⟨0x0701, false, true, true, true, false⟩,
   ⟨0x0702, false, true, true, true, false⟩, ⟨0x0703, false, true, true, true, false⟩] ++
  [⟨0x0801, true, true, true, false, false⟩, ⟨0x0802, true, true, true, false, false⟩,
   ⟨0x0803, true, true, true, false, false⟩, ⟨0x0804, true, true, true, false, false⟩,
   ⟨0x0901, false, true, true, false, false⟩, ⟨0x0902, false, true, true, false, false⟩,
   ⟨0x0903, false, true, true, false, false⟩, ⟨0x0A01, false, true, true, true, false⟩,
   ⟨0x0A02, false, true, true, true, false⟩]

/-- The index row of an opcode. -/
def opRow (code : Nat) : Option OpRow := opIndex.find? (fun r => r.code == code)

/-- The transport accepts the opcode. -/
def OpRow.takes (r : OpRow) : Via → Bool
  | .H => r.h
  | .C => r.c
  | .S => r.s
  | .P => r.p

end Sys2Proof.Machine
end

