-- ==== Sys2Proof/Machine/TypesControl.lean ====
section
/-! DEFINITION. Plain data of the control die: the event arbiter, the interrupt targets, the command front
end, the security module, telemetry, JTAG, the SMBus sideband, pins, fuses and the boot flash
(spec files 13, 14, 18 to 22). -/

namespace Sys2Proof.Machine

/-- An event on its way to the arbiter (R644, R649). DATA holds bytes 31:24 of the record. -/
structure Ev where
  die : Nat
  barno : Nat
  beat : Nat
  kind : Nat
  data : Nat
  deriving DecidableEq, Repr

/-- A stamped record (R649). -/
structure EvRec where
  seq : Nat
  time : Nat
  ev : Ev
  deriving DecidableEq, Repr

/-- The event arbiter (section 7 of 13_control_die_interrupts.md). -/
structure Arbiter where
  /-- Events each die has queued, oldest first, at most 64 for one die (R644, R645). -/
  queue : List Ev := []
  /-- By die: events dropped for want of queue room, not yet reported (R646). -/
  drops : Table Nat := []
  /-- Stamped records in the on-die buffer, oldest first, at most 256 (R653). -/
  staged : List EvRec := []
  /-- Stamped records discarded since the last LOST record: the first SEQ and how many (R653). -/
  lostFirst : Nat := 0
  lostCount : Nat := 0
  deriving DecidableEq, Repr

/-- One interrupt target (R629): its stack, oldest first, of source and priority. -/
structure Target where
  stack : List (Nat × Nat) := []
  frozen : Bool := false
  deriving DecidableEq, Repr

/-- The part of the interrupt controller that its registers do not hold. -/
structure Icu where
  /-- By target (R629). -/
  targets : Table Target := []
  /-- Momentary conditions not yet taken as events, by source (R621, R623): how many. -/
  edges : Table Nat := []
  /-- The target of source 1 in force (R658). -/
  superTgt : Nat := 0
  /-- Cores whose machine timer interrupt is raised (R620), as bits. -/
  mtip : Nat := 0
  deriving DecidableEq, Repr

/-- Why a command waits for something after its checks (the rules that complete it name these). -/
inductive WaitFor where
  | fermata | launch | stopBar | patch | rinse | fence | census | snapshot
  | retrain | unitReset (unit : Nat) | unfold (unit : Nat) | pstate (unit : Nat) | activate | capture
  | moveOn | cadenceDrain | busMaster
  deriving DecidableEq, Repr

/-- A completion (R690). -/
structure Cpl where
  via : Via
  ring : Nat
  tag : Nat
  opcode : Nat
  status : Nat
  phase : Nat
  head : Nat
  result : List Byte
  deriving DecidableEq, Repr

/-- The command front end (14_host_commands.md). -/
structure Front where
  /-- Commands fetched whose completion is not yet written, each with HEAD after its fetch (R679, R690). -/
  inflight : List (Cmd × Nat) := []
  /-- Commands past their checks, waiting for an event. -/
  waiting : List (WaitFor × Cmd) := []
  /-- Every completion given, in order; the newest last. -/
  done : List Cpl := []
  /-- Completion writes held while Bus Master Enable is 0 (R671): host address and bytes. -/
  cplHeld : List (Nat × List Byte) := []
  /-- A completion of transport S that the sideband has not yet stored (R935). -/
  smbDone : Option Cpl := none
  /-- What the part has written to host memory, in order: address and bytes. -/
  hostWrites : List (Nat × List Byte) := []
  /-- MSI-X messages sent, in order, and the vectors that are pending while Bus Master Enable is 0 or they are masked (R671, R682, R683). -/
  msix : List Nat := []
  msixHeld : List Nat := []
  /-- By ring: counted completions since its vector last fired (R682). -/
  counted : Table Nat := []
  /-- Rings served in the current round, and the ring served last (R679). -/
  round : List Nat := []
  turn : Nat := 0
  /-- Rings whose host side was reset while commands were in flight: their completions are discarded (R670). -/
  discard : List Cmd := []
  /-- Configuration-space values the boot flash and the host set (R667, R671). -/
  ssvid : Nat := 0x52E7
  ssid : Nat := 0
  mps : Nat := 128
  mrrs : Nat := 512
  /-- The host link may leave Detect: boot step 3 has ended (R951). -/
  linkMayTrain : Bool := false
  /-- The completions that a core's PEER_REQ waits for, returned as PEER_RSP (R696). -/
  peerDone : List Cpl := []
  /-- The result of the last register or Board-window read (R17, R354), and the bytes of the latter. -/
  readData : Word := 0
  readBytes : List Byte := []
  /-- The bar whose beat 0 a waiting CENSUS, or a report-mode snapshot, samples (R800, R910); none on a package that was not running. -/
  censusBar : Option Nat := none
  snapBar : Option Nat := none
  /-- The status that the last Board-window access or debug access was answered with (R354). -/
  answer : Nat := 0
  deriving DecidableEq, Repr

/-- The roles of R871 and R878. -/
inductive Role where
  | user | officer
  deriving DecidableEq, Repr

/-- An open session (R876). -/
structure Session where
  handle : BitVec 32
  role : Role
  via : Via
  deriving DecidableEq, Repr

/-- A challenge held for a RESPOND (R872). -/
structure Challenge where
  via : Via
  id : Nat
  role : Nat
  key : Nat
  nonce : List Byte
  deriving DecidableEq, Repr

/-- A key slot (R882, R883). `typ` is 0 while the slot is empty, 1 SAK, 2 KEK, 3 SLICE. -/
structure KeySlot where
  typ : Nat := 0
  gen : Nat := 0
  persist : Bool := false
  coOnly : Bool := false
  bound : Nat := 0
  key : List Byte := []
  /-- The invocation counter of slice-key wrapping (R860, R888). -/
  uses : Nat := 0
  deriving DecidableEq, Repr

/-- What the SM store of the boot flash holds (R862). -/
structure SmStore where
  keys : List (Nat × KeySlot) := []
  userKeys : Table (List Byte) := []
  scoreKeys : Table (List Byte) := []
  scoreNone : Bool := false
  idleMin : Nat := 0x0F
  retestH : Nat := 0x18
  deriving DecidableEq, Repr

/-- The OTP fuses (R861) and the fused identity (R49). -/
structure Fuses where
  variant : Nat
  stepping : Nat
  grade : Nat
  serial : Nat
  rootDigest : List (List Byte)
  rootRevoked : Nat
  /-- The fused Crypto Officer digests; an empty list is an unfused slot. -/
  coDigest : List (List Byte)
  /-- The Crypto Officer keys that the digests stand for (R873); an empty list where none is. -/
  coKey : List (List Byte)
  smSvn : Nat
  fwSvn : Nat
  /-- The store-key banks; an empty list is an unfused bank. -/
  storeKeys : List (List Byte)
  /-- The current bank; 8 when none is left (R898). -/
  bank : Nat
  debugDisable : Bool
  deriving DecidableEq, Repr

/-- The security module (19_security.md). -/
structure Sm where
  keys : Table KeySlot := []
  sessions : List Session := []
  challenges : List Challenge := []
  /-- By transport number: consecutive failed RESPONDs (R875). -/
  fails : Table Nat := []
  /-- Transports locked out (R875). -/
  locked : List Via := []
  store : SmStore := {}
  /-- The store in the flash authenticates under the current bank (R862). -/
  storeIntact : Bool := true
  /-- The debug lock has been opened since the last cold reset (R895, R902). -/
  everUnlocked : Bool := false
  /-- An unserviced ZEROIZE_N latch (R899). -/
  zeroLatch : Bool := false
  /-- The DRBG is instantiated and seeded (R863, R897). -/
  drbg : Bool := false
  /-- Consecutive failed recoveries from SOFT_ERROR, and the state to return to (R892). -/
  recoveries : Nat := 0
  prior : Nat := 0
  /-- SVN and key slot of the running images (R887, R889). -/
  runSmSvn : Nat := 0
  runFwSvn : Nat := 0
  runSmSlot : Nat := 0
  runFwSlot : Nat := 0
  deriving DecidableEq, Repr

/-- The test access port (20_telemetry_management.md, section 3). -/
structure Tap where
  ir : Nat := 0x01
  sel : Nat := 0
  /-- What the next Capture-DR captures (R925). -/
  capData : Word := 0
  capAddr : Nat := 0
  capStatus : Nat := 0
  deriving DecidableEq, Repr

/-- The SMBus sideband (20_telemetry_management.md, section 4). -/
structure Smb where
  slot : List Byte := List.replicate 256 0
  /-- A 0x10 or 0x11 write is incomplete (R935). -/
  partWritten : Bool := false
  busy : Bool := false
  done : Bool := false
  alert : Bool := false
  cpl : List Byte := List.replicate 32 0
  /-- What the target last answered on the bus: none when it did not acknowledge. -/
  answer : Option (List Byte) := none
  deriving DecidableEq, Repr

/-- The levels on the control pins and the supplies (22_electrical.md) (DESIGN CHOICE, log entry 84). -/
structure Pins where
  pkgResetLow : Bool := true
  testEn : Bool := false
  perstLow : Bool := true
  vauxGood : Bool := true
  /-- Bit r: rail r (in the order of R959, VDD_PRESS0 to 7 last) is above its threshold. -/
  railsGood : Nat := 0x1FFFF
  hemIn : Bool := false
  /-- A thermal trip holds the package: THERMTRIP_N is low (R844, R980). -/
  tripped : Bool := false
  deriving DecidableEq, Repr

/-- Resets and power states beyond the registers (18_resets_power.md). Units are numbered as AON_WASH numbers them. -/
structure Power where
  /-- Links that have not been UP for GIVEUP_US (R830). -/
  giveUp : List Nat := []
  /-- Units whose reset is asserted (R818); 280 + p is Ethernet port p, 282 + c is core c. -/
  asserted : List Nat := []
  /-- Commanded resets and unfolds under way, by unit: streams that they ended (R852). -/
  jobs : Table (Option Nat) := []
  /-- Units coming up from a fold (R838). -/
  unfolding : List Nat := []
  /-- Dies that a cold reset has released and that have not served since: their wash counts do not step then (R821). -/
  fresh : List Nat := []
  /-- A switchover of the reference PLL to its first choice is under way (R136, R138). -/
  switching : Bool := false
  /-- Press rails whose AVS target is raised and not yet reached, with the P-states to take up then: by Press, one more than the P-state (R842). -/
  rising : Table Nat := []
  /-- The last temperature report of the HBM stack of each Press die, in °C (R992). -/
  stackTemp : Table Nat := []
  deriving DecidableEq, Repr

/-- The firmware state that is in no register (R845 to R848, R941). -/
structure Firmware where
  /-- The regions of the boot flash that the C0 and the security-module firmware were booted from (R946, R949). -/
  region : Nat := 0
  smRegion : Nat := 0
  /-- The staged image (R845); the image in L3 that the cores run (R941), empty while there is none; and the one it replaced (R846). -/
  staged : Option (List Byte) := none
  running : List Byte := []
  previous : List Byte := []
  activateCmd : Option Cmd := none
  /-- Commands that had been fetched when the activation began (R846). -/
  early : List Cmd := []
  /-- The package is held in cold reset. -/
  inCold : Bool := true
  /-- C0's cores are in reset. -/
  coresHeld : Bool := true
  deriving DecidableEq, Repr

end Sys2Proof.Machine
end

