-- ==== Sys2Proof/Machine/TypesEth.lean ====
section
/-! DEFINITION. Plain data of E0: ports, receive buffers, MACsec associations, queues and RBT flows (15_network_ports.md). -/

namespace Sys2Proof.Machine

/-- What a frame in a receive buffer waits for: a descriptor of an RX_RAW queue, or its RBT processing, with the source address and UDP
port of the packet (R736). -/
inductive RxFor where
  | raw (queue : Nat)
  | rbt (ip : List Byte) (port : Nat)
  deriving DecidableEq, Repr

/-- A frame in a receive buffer (R713): its priority, the octets it holds, and its bytes after decapsulation, or its RBT packet. -/
structure RxFrame where
  pri : Nat
  size : Nat
  dest : RxFor
  bytes : List Byte
  deriving DecidableEq, Repr

/-- A secure association (R724 to R728, R751): the handle it came from, its key, and the next PN (transmit) or the lowest PN accepted (receive). -/
structure Sa where
  handle : Nat
  key : List Byte
  ssci : Nat
  salt : List Byte
  pn : Nat
  window : Nat
  /-- Receive: one more than the highest PN received. -/
  next : Nat
  deriving DecidableEq, Repr

/-- One port beyond its registers. -/
structure EthPort where
  autoneg : Bool := false
  mac : List Byte := List.replicate 6 0
  maxFrame : Nat := 1518
  defPri : Nat := 0
  rbtPort : Nat := 21223
  ip : List Byte := List.replicate 16 0
  /-- PFC_CONFIG: the priorities enabled, and XOFF_QUANTA (R750). -/
  enable : Nat := 0
  quanta : Nat := 0x2000
  rx : List RxFrame := []
  /-- Valid control frames whose timers are not yet loaded (R718). -/
  ctlIn : List (List Byte) := []
  /-- Priorities whose XOFF, or quanta 0, is to be sent (R721, R722). -/
  xoffDue : Nat := 0
  xonDue : Nat := 0
  /-- Transmit associations by AN, and whether one is active (ETH_PORT_STATUS.TX_AN). -/
  txSa : Table (Option Sa) := []
  txOn : Bool := false
  /-- Receive associations by 4 × channel + AN, and the channels' SCI. -/
  rxSa : Table (Option Sa) := []
  rxSci : Table Nat := []
  /-- The TX queue served last (R720). -/
  turn : Nat := 0
  deriving DecidableEq, Repr

/-- A descriptor that a queue has taken and not completed (R732 to R735, R742 to R746). -/
structure EthJob where
  seq : Nat
  off : Nat
  len : Nat
  tag : Nat
  notice : Bool
  /-- The work has ended; its completion is still to be written. -/
  ended : Bool := false
  status : Nat := 0
  bytes : Nat := 0
  trunc : Bool := false
  info : Nat := 0
  /-- TX_RAW: the frame read and not yet started. -/
  data : Option (List Byte) := none
  /-- RBT: the message, its first segment and its number of segments; received: its length and the ranges written. -/
  msg : Nat := 0
  seg0 : Nat := 0
  segs : Nat := 0
  segSize : Nat := 0
  mlen : Nat := 0
  got : List (Nat × Nat) := []
  deriving DecidableEq, Repr

/-- One E0 queue beyond its registers (R749). -/
structure EthQueue where
  log2n : Nat := 0
  poll : Bool := false
  notice : Bool := false
  irq : Bool := false
  ring : Nat := 0
  cpl : Nat := 0
  tail : Nat := 0
  ntDie : Nat := 0
  ntTally : Nat := 0
  ntCount : Nat := 0
  pri : Nat := 0
  pollUs : Nat := 0
  vid : Nat := 0
  peerIp : List Byte := []
  peerPort : Nat := 0
  flow : Nat := 0
  etype : Nat := 0
  udp : Nat := 0
  rtoUs : Nat := 0
  /-- Descriptors taken since creation, and those in progress, oldest first. -/
  taken : Nat := 0
  jobs : List EthJob := []
  /-- A deletion waits for the descriptors in progress. -/
  deleting : Option Cmd := none
  /-- RBT: the epoch (0 for none), the next MSG, and the next SEQ (sender) or the base (receiver). -/
  epoch : Nat := 0
  msg : Nat := 0
  seq : Nat := 0
  /-- Sender: the oldest unacknowledged SEQ, segments to send again, and consecutive RTOs. -/
  una : Nat := 0
  /-- Sender: the first SEQ that no message has. -/
  next : Nat := 0
  resend : List Nat := []
  rtos : Nat := 0
  /-- Receiver: SEQs received beyond the base, and segments accepted since the last ACK, with where ACKs go. -/
  marks : List Nat := []
  accepted : Nat := 0
  src : List Byte := []
  srcPort : Nat := 0
  deriving DecidableEq, Repr

/-- What a port has sent: a frame of a TX_RAW queue with its AN and PN when protected, a control frame, or an RBT packet with the
address and UDP port it goes to. -/
inductive EthOut where
  | frame (port : Nat) (bytes : List Byte) (sec : Option (Nat × Nat))
  | ctl (port : Nat) (bytes : List Byte)
  | rbt (port : Nat) (ip : List Byte) (udp : Nat) (packet : List Byte) (sec : Option (Nat × Nat))
  deriving DecidableEq, Repr

/-- E0 (15_network_ports.md). -/
structure Eth where
  ports : Table EthPort := []
  queues : Table EthQueue := []
  /-- The epoch counter (R747). -/
  epoch : Nat := 1
  sent : List EthOut := []
  deriving DecidableEq, Repr

end Sys2Proof.Machine
end

