-- ==== Sys2Proof/Machine/TypesFabric.lean ====
section
/-! DEFINITION. Plain data of the links and Seams, the Score plane and the Tack plane (spec files 08_links.md,
09_score_plane.md, 10_tack_plane.md, 12_mixed_generations.md). -/

namespace Sys2Proof.Machine

/-- The dynamic state of one link that its registers do not hold (08_links.md). -/
structure LinkDyn where
  /-- The peer's HOLD as last decoded (R412), and the HOLD this end sends. -/
  holdRx : Bool := false
  holdTx : Bool := false
  /-- For each uncorrectable codeword of the last 1,024, how many codewords ago it came (R441). -/
  uncorr : List Nat := []
  /-- Lanes whose marker was missing in the last frame (R411). -/
  missing : Nat := 0
  /-- Raw latencies of the echo rounds so far (R431, R432), and the stamp of an unanswered request. -/
  rounds : List Nat := []
  stamp : Option Nat := none
  /-- Corrected symbols in QUALIFY (R427). -/
  qualCorr : Nat := 0
  /-- The PROFILE that the peer's markers show (R408, R435). -/
  peerProfile : Nat := 0
  /-- This end's proposal (R433), and the peer's ADMIT: class, link index, chip. -/
  proposed : Option Nat := none
  peerAdmit : Option (Nat × Nat × Nat) := none
  /-- The bar in which the link last went quiet (R445, R446). -/
  quietBar : Option Nat := none
  /-- Flits in the skid, and its linens that come from its reservation (R477, R478). -/
  skid : Nat := 0
  skidRes : Nat := 0
  deriving DecidableEq, Repr

/-- The dynamic state of one Seam port that its registers do not hold. -/
structure SeamDyn where
  holdRx : Bool := false
  holdTx : Bool := false
  /-- Flits in the skid (R479). -/
  skid : Nat := 0
  /-- Slots from the first failed beat on are discarded until the replayed beat arrives (R421). -/
  awaiting : Bool := false
  rounds : List Nat := []
  stamp : Option Nat := none
  deriving DecidableEq, Repr

/-- A bolt's header (R458). -/
structure BoltHdr where
  seq : Nat
  srank : Nat
  drank : Nat
  slice : Nat
  stream : Nat
  dblk : Nat
  dpress : Nat
  tally : Nat
  lines : Nat
  route : Nat
  deriving DecidableEq, Repr

/-- A send that a Conductor has acted on and that has not departed (R315, R485). -/
structure WaitSend where
  die : Nat
  src : Nat
  slot : Nat
  width : Nat
  sblk : Nat
  lines : Nat
  tally : Nat
  stream : Nat
  drank : Nat
  dpress : Nat
  dblk : Nat
  route : Nat
  /-- The Score bar in which its MOVE stands (R772). -/
  sbar : Nat
  /-- Already counted in SCR_LATE_MOVES, or in PRS_HOLD_FULL. -/
  late : Bool
  full : Bool
  /-- The window, or the quota, held it back at its last attempt (R485). -/
  win : Bool
  quo : Bool
  deriving DecidableEq, Repr

/-- Where a bolt came into the die it stands in: its own source Board, a Seam from another die, a link, or a store of
the Mangle die (a resend, the legacy store). -/
inductive BoltIn where
  | source
  | seam (from_ : Nat)
  | link (l : Nat)
  | store
  deriving DecidableEq, Repr

/-- A bolt in flight inside the package: its head stands at the switch of `at_`. -/
structure Flight where
  id : Nat
  hdr : BoltHdr
  payload : List Byte
  /-- PCRC as it travels with the bolt (R456). -/
  pcrc : Nat
  /-- The header was damaged: HCRC fails. -/
  hdrBad : Bool
  /-- A payload flit was lost or damaged, so that PCRC fails. -/
  bad : Bool
  /-- Its input left UP before its last flit had arrived (R493). -/
  cut : Bool
  resend : Bool
  /-- It departed from a Press die of this package. -/
  own : Bool
  at_ : Nat
  inp : BoltIn
  /-- It has held at this switch (R472). -/
  held : Bool
  /-- It leaves the package by this link when set; otherwise it goes to the die of DPRESS. -/
  exit : Option Nat
  /-- At the Mangle die of a multicast receiver that also forwards: the local copy leaves with it (R468, R470). -/
  split : Bool
  /-- Its exit lookup is done (R488). -/
  looked : Bool
  /-- The link over which it entered the package. -/
  entry : Option Nat
  /-- Its head has been accepted at its destination (R490), and how many of its lines are written (R491). -/
  accepted : Bool
  lines : Nat
  deriving DecidableEq, Repr

/-- A darning descriptor (R498). -/
structure Desc where
  die : Nat
  stream : Nat
  seq : Nat
  hdr : BoltHdr
  press : Nat
  sblk : Nat
  bar : Nat
  resendBar : Nat
  n : Nat
  mask : Nat
  resends : Nat
  queued : Bool
  resending : Bool
  /-- The descriptor record has reached the Mangle die (R486, R499). -/
  record : Bool
  deriving DecidableEq, Repr

/-- A knot or snag: as an entry of a knot queue (R495), or in the early-knot buffer (R499). -/
structure Knot where
  snag : Bool
  srank : Nat
  stream : Nat
  base : Nat
  mask : Nat
  rem : Nat
  deriving DecidableEq, Repr

/-- A receive window (R491, R492). -/
structure Window where
  die : Nat
  srank : Nat
  stream : Nat
  base : Nat
  received : Nat
  landing : Nat
  deriving DecidableEq, Repr

/-- A resent bolt stored whole at a Mangle die (R504). -/
structure Stored where
  mangle : Nat
  hdr : BoltHdr
  payload : List Byte
  pcrc : Nat
  bad : Bool
  own : Bool
  /-- The link by which it leaves the package; none when it ends here. -/
  exit : Option Nat
  /-- The link channel whose linens it holds, and how many came from the remainder (R504, R796). -/
  chan : Nat
  lin : Nat
  deriving DecidableEq, Repr

/-- A bolt in a landing buffer that waits for a take (R104, R317). -/
structure Landed where
  link : Nat
  hdr : BoltHdr
  payload : List Byte
  pcrc : Nat
  hdrBad : Bool
  bad : Bool
  deriving DecidableEq, Repr

/-- The Score plane (09_score_plane.md). -/
structure ScorePlane where
  /-- Sequence counters by stream (R483). -/
  seqs : Table Nat := []
  /-- Streams that have ended: one more than the status (R508). -/
  ended : Table Nat := []
  sends : List WaitSend := []
  flights : List Flight := []
  nextId : Nat := 0
  desc : List Desc := []
  /-- By Mangle die: the early-knot buffer (R499), and the resend queue, oldest first (R503): stream and SEQ. -/
  early : Table (List Knot) := []
  resendQ : Table (List (Nat × Nat)) := []
  stored : List Stored := []
  windows : List Window := []
  /-- Tallies by 256 × die + tally (R494). -/
  tallies : Table Nat := []
  /-- Knot queues by Press die (R495). -/
  knotQ : Table (List Knot) := []
  landed : List Landed := []
  /-- Takes that wait for a bolt, by link, in order (R317). -/
  takes : List Nat := []
  /-- Tally books left unchecked by a saturation since the last arming, by die (R790). -/
  tallySat : Table Bool := []
  deriving DecidableEq, Repr

/-- The terms of the books that no register holds (17_books_notices.md). -/
structure Books where
  /-- Linens in transit, oldest first: Mangle die, channel, and whether to the remainder (R794, R795). -/
  linTransit : List (Nat × Nat × Bool) := []
  /-- By Press die: bolts accepted, notice counts and NEEDs consumed since arming (R789). -/
  accepted : Table Nat := []
  noticed : Table Nat := []
  consumed : Table Nat := []
  deriving DecidableEq, Repr

/-- A tack with where it came from. -/
structure Tack where
  bytes : List Byte
  /-- Its source die while inside its own package; none for a tack that came over a link. -/
  src : Option Nat
  /-- The injection token that it gives back when it leaves or is delivered (R521). -/
  token : Option Nat
  /-- The section (4 × package Press + section) whose TKSEND retires when it is injected (R279). -/
  sect : Option Nat
  /-- The Mangle die that translates it, or by which it entered the package. -/
  mangle : Nat
  /-- The legacy link that it leaves on (R583, R591, R604). -/
  via : Option Nat
  deriving DecidableEq, Repr

/-- An outstanding injection token (R520 to R522). -/
structure Token where
  num : Nat
  use : Nat
  ack : Bool
  peer : Bool
  deriving DecidableEq, Repr

/-- The Tack plane (10_tack_plane.md). By die, Press dies for their own budget, Mangle dies for the control cores'. -/
structure TackPlane where
  tokens : Table (List Token) := []
  /-- Use counts by 64 × die + token (R522). -/
  uses : Table Nat := []
  /-- Tacks that wait on their source die, oldest first (R526). -/
  waiting : List Tack := []
  /-- Tacks on their way to their Mangle die for translation, oldest first (R524). -/
  toMangle : List Tack := []
  /-- Injection queues by 16 × Mangle die + source die (R526), and by Mangle die the queue whose turn it is (R532). -/
  inj : Table (List Tack) := []
  turn : Table Nat := []
  /-- Transit buffers by Mangle die, in order of arrival (R534). -/
  transit : Table (List Tack) := []
  /-- Tacks on their way to the unit that delivers them, oldest first: the die. -/
  inPkg : List (Nat × Tack) := []
  inbox : Table (List (List Byte)) := []
  /-- Member entries by 2^20 × Mangle die + 64 × group + member (R535). -/
  groups : Table Nat := []
  deriving DecidableEq, Repr

/-- The legacy bridge of one link (12_mixed_generations.md). -/
structure Legacy where
  /-- Bolts of the legacy store that wait to leave, oldest first (R590): header, payload, PCRC, and whether a flit was lost. -/
  store : List (BoltHdr × List Byte × Nat × Bool) := []
  /-- G1: SEG packets of the oldest bolt that have been sent (R600). -/
  sent : Nat := 0
  /-- G1: SEG packets of the inbound bolt that is open, and whether one of them was bad (R603). -/
  segs : List (List Byte) := []
  segBad : Bool := false
  /-- G1: MSG packets of the bridge's own that wait for a peer credit, oldest first (R603). -/
  txq : List (List Byte) := []
  /-- G1: credits that the peer has granted, credits to return, and credit linens in use (R597, R598). -/
  peerCredits : Nat := 0
  owed : Nat := 0
  used : Nat := 0
  /-- G1: INIT has been sent, and received, in this training (R596). -/
  initTx : Bool := false
  initRx : Bool := false
  deriving DecidableEq, Repr

end Sys2Proof.Machine
end

