-- ==== Sys2Proof/Machine/TypesPress.lean ====
section
/-! DEFINITION. Plain data of the Presses, their memory queues, the memory ports and the HBM controllers
(spec files 04_press.md, 05_press_instructions.md, 07_memory.md). -/

namespace Sys2Proof.Machine

/-- The section states of R207. -/
inductive SecState where
  | idle | running | waiting | pausing | paused
  deriving DecidableEq, Repr

/-- What holds a section in WAITING (R207), or nothing. At `inject`, `rinse` and `cadence` the instruction's action has begun, and its end
retires it. -/
inductive SecWait where
  | none | cue | sync | queue | room | token | inject | hold | wake | scoreboard | rinse | cadence
  deriving DecidableEq, Repr

/-- The instruction's action has begun (R239). -/
def SecWait.begun : SecWait → Bool
  | .inject => true
  | .rinse => true
  | .cadence => true
  | _ => false

/-- An open loop of a section (R240). -/
structure LoopFrame where
  pc : Nat
  cnt : Nat
  i : Nat
  bstep : Nat
  mstep : Nat
  deriving DecidableEq, Repr

/-- One section of a Press (R169, R207, R240, R244). -/
structure Section where
  /-- Byte i of Tn is at key 512n + i (R172). -/
  tiles : Table Byte := []
  /-- Element (r, c) of An is at key 256n + 16r + c (R174). -/
  acc : Table (BitVec 32) := []
  /-- Voice v of Vn is at key 16n + v (R175). -/
  vec : Table (BitVec 32) := []
  /-- Cue counts by line (R244). -/
  cues : Table Nat := []
  /-- Open loops, outermost first. -/
  loops : List LoopFrame := []
  st : SecState := .idle
  /-- The first instruction that has not retired, and the first that has not issued (R211). -/
  pc : Nat := 0
  next : Nat := 0
  wait : SecWait := .none
  /-- The section was IDLE when the pause was requested (R213). -/
  wasIdle : Bool := false
  /-- An MMAS has issued and not retired, and the rows of it that are done (R208). -/
  row : Nat := 0
  inStrip : Bool := false
  /-- The Board write of a TST, AST or VST that waits on a held block (R200, R256): Board address and bytes. -/
  pendW : List (Nat × List Byte) := []
  /-- A BANKSET's value, until it takes effect (R281, R186): the bits not yet in force. -/
  gatePend : Nat := 0
  deriving DecidableEq, Repr

/-- What a write that waits on a held block belongs to (R200, R354). -/
inductive HeldFor where
  /-- A host command. -/
  | cmd (c : Cmd)
  /-- A tack WRITE or ADD, with its source die. -/
  | tack (bytes : List Byte) (src token : Option Nat) (mangle : Nat)
  /-- A write of an agent of the package that nothing waits for. -/
  | dma
  /-- A DMA write of E0: its queue, the order of its descriptor in that queue, and the RBT segment (R738, R745). -/
  | eth (queue job seg : Nat)
  deriving DecidableEq, Repr

/-- One Press (R167, R197, R221, R328). -/
structure Press where
  /-- The part store by PC, and the word count of the part: 0 for none (R221, R297). -/
  part : Table Word := []
  words : Nat := 0
  /-- Hold counts by block (R197), and the number of holds (PRS_HOLDS.HOLDS). -/
  holds : Table Nat := []
  holdN : Nat := 0
  /-- SCORE_STOP's pause (R328). -/
  stopPause : Bool := false
  /-- PRS_CTRL.PAUSE was cleared while a section was still PAUSING (R214). -/
  resumeAfter : Bool := false
  /-- Writes of the switch, queue or Board window that wait on a held block: in order (R200, R354): Board address, bytes
  and what they belong to. -/
  heldWrites : List (Nat × List Byte × HeldFor) := []
  deriving DecidableEq, Repr

/-- A queue request (R360 to R365). -/
structure QReq where
  store : Bool
  queue : Nat
  sect : Nat
  /-- Order of issue within the Press (R364). -/
  seq : Nat
  bblk : Nat
  mblk : Nat
  /-- A store's block, once the port has read it (R363). -/
  data : Option (List Byte)
  /-- A load's block is written into the Board (R362), or a store is accepted (R363). A load with data that is not done has
  arrived and waits to write its block (R200, R365). -/
  done : Bool
  /-- The load met an uncorrectable error and is held (R392). -/
  held : Bool
  /-- The fill is not kept in the read cache (R376). -/
  noCache : Bool
  /-- The request has been sent to memory (R361). -/
  sent : Bool
  deriving DecidableEq, Repr

/-- One entry of a write buffer (R372). `flight` is the data of a writeback that is not acknowledged. -/
structure WbEntry where
  blk : Nat
  data : List Byte
  dirty : Bool
  flight : Option (List Byte)
  deriving DecidableEq, Repr

/-- Who asked for a scan or fence: an instruction of a section, all sections (CADENCE), or a command. -/
inductive ScanFor where
  | sect (press sect : Nat)
  | press (press : Nat)
  | cmd (c : Cmd)
  deriving DecidableEq, Repr

/-- A RINSE or memory-side fence of one port (R374 to R378). A fence has no range. -/
structure Scan where
  fence : Bool
  lo : Nat
  n : Nat
  by_ : ScanFor
  /-- Blocks whose writeback is still to be acknowledged. -/
  await : List Nat
  /-- Blocks written back (R386). -/
  wrote : Nat
  deriving DecidableEq, Repr

/-- The memory port of a Press die (R370 to R377). -/
structure MemPort where
  cache : Table (List Byte) := []
  wb : List WbEntry := []
  scans : List Scan := []
  /-- MEM_CE since CE_OVER was last clear (R391). -/
  ceSince : Nat := 0
  /-- Fills on their way for loads that were discarded (R369). -/
  stale : Nat := 0
  deriving DecidableEq, Repr

end Sys2Proof.Machine
end

