-- ==== Sys2Proof/Machine/TypesScore.lean ====
section
/-! DEFINITION. Plain data of Score time and of the Conductors: orders, fermata requests, desks, cues,
patches (spec files 02_score_time.md and 06_conductor.md). -/

namespace Sys2Proof.Machine

/-- A fermata order (R107 to R113): the held bars are F + 1 to R, or unbounded. -/
structure Order where
  seq : Nat
  f : Nat
  r : Nat
  indef : Bool
  deriving DecidableEq, Repr

/-- Where a fermata count comes from; the order of R114. -/
inductive FermFrom where
  | entry
  | command (c : Cmd)
  deriving DecidableEq, Repr

/-- A fermata count waiting for the merge of the bar in which it counts as raised (R61, R113, R114). -/
structure FermReq where
  bar : Nat
  count : Nat
  src : FermFrom
  deriving DecidableEq, Repr

/-- An accepted count-in (R75 to R82): the Mangle die that took it (8 or 9; the anchor's own launch counts as M0's
with `rx` 10, which forwards nothing), its START_SBAR, the beats to bar 0, and what it forwards. -/
structure CountIn where
  rx : Nat
  startSbar : Nat
  wait : Nat
  elapsed : Nat
  total : Nat
  depth : Nat
  /-- Dies that the internal start notice has reached (R78). -/
  noticed : List Nat
  deriving DecidableEq, Repr

/-- One entry of the link table (R295). -/
structure LinkCfg where
  role : Nat := 0
  score : Bool := false
  parent : Bool := false
  child : Bool := false
  cls : Nat := 0
  profile : Nat := 0
  deriving DecidableEq, Repr

/-- What a bar boundary applies to the package (R92, R93, R96, R328). -/
inductive BarAction where
  | halt
  | fallback
  | stop (unload : Bool) (c : Cmd)
  deriving DecidableEq, Repr

/-- The package-wide Score time (sections 1 to 7 of 02_score_time.md). -/
structure Tempo where
  k : Nat := 0
  d64 : Nat := 0
  rubato : Bool := false
  fallbackAct : Bool := false
  anchor : Bool := false
  region : Nat := 0
  anchorChip : Nat := 0
  fermLead : Nat := 0
  gateLimit : Nat := 0
  slice : Nat := 0
  fineSbar : Nat := 0
  barno : Nat := 0
  sbar : Nat := 0
  beat : Nat := 0
  running : Bool := false
  held : Bool := false
  fallback : Bool := false
  halted : Bool := false
  armed : Bool := false
  /-- LAUNCH has been accepted since the last arming (R84). -/
  launched : Bool := false
  /-- The accepted count-in (R76, R81), until bar 0 begins. -/
  accepted : Option CountIn := none
  order : Option Order := none
  /-- An order adopted in the bar named, in force from that bar's boundary (R109, R122). -/
  adopting : Option (Nat × Order) := none
  /-- The largest REQ_BAR seen, and the largest the anchor has acted on (R111). -/
  reqBar : Option Nat := none
  reqDone : Option Nat := none
  /-- The cutoff of the current bar has passed (R61, R71). -/
  frozen : Bool := false
  /-- This bar's merge is done (R71, R115). -/
  merged : Bool := false
  actions : List (Nat × BarAction) := []
  ferm : List FermReq := []
  /-- By link: one more than the last bar whose downbeat was missing (R89); 0 for none. -/
  missed : Table Nat := []
  /-- By link: one more than the largest BARNO a valid downbeat carried (R99); 0 for none. -/
  gotBar : Table Nat := []
  deriving DecidableEq, Repr

/-- One desk entry (R298 to R304). -/
inductive DeskEntry where
  | nop
  | rest (sleepValid : Bool) (count sleep : Nat)
  | repeat_ (times target bstep dstep : Nat)
  | fine
  | tempo (rubato fallbackAct : Bool) (region k d64 anchor fermLead gateLimit slice fineSbar : Nat)
  | send (x : Bool) (beat src slot width sblk lines tally stream drank dpress dblk route : Nat)
  | take (beat link : Nat)
  | cue (beat pmask line sm : Nat) (conds : List (Nat × Nat))
  | fermata (beat count : Nat)
  | patchpoint (id len : Nat)
  deriving DecidableEq, Repr

/-- A cue waiting for its tallies (R319 to R321). -/
structure CueWait where
  entry : Nat
  pmask : Nat
  line : Nat
  sm : Nat
  conds : List (Nat × Nat)
  deriving DecidableEq, Repr

/-- An open repeat: the REPEAT entry, its iteration index and its block steps (R307, R308). -/
structure Rep where
  entry : Nat
  target : Nat
  iter : Nat
  bstep : Nat
  dstep : Nat
  deriving DecidableEq, Repr

/-- A restart point: its Score bar, its desk position, its PATCHPOINT (none for bar 0) and the entry PC of each Press
(R310, R313). -/
structure RestartPt where
  sbar : Nat
  entry : Nat
  id : Option Nat
  pcs : List Nat
  deriving DecidableEq, Repr

/-- One Conductor's stores and position (R282, section 5 of 06_conductor.md). -/
structure Conductor where
  desk : List DeskEntry := []
  meas : List Byte := []
  tpl : List Byte := []
  restart : List RestartPt := []
  ptr : Nat := 0
  /-- The Score bar to which the entries at `ptr` belong (R299). -/
  bar : Nat := 0
  /-- The bar that FINE closes has ended (R309). -/
  fine : Bool := false
  /-- Open repeats, outermost first (R303). -/
  reps : List Rep := []
  /-- The links of this die that may sleep in the bars that its last REST skips (R298, R445). -/
  sleep : Nat := 0
  pend : List CueWait := []
  heldCues : List CueWait := []
  /-- Fired cues not yet visible to the Presses, oldest first (R322, R244). -/
  fired : List CueWait := []
  deriving DecidableEq, Repr

/-- One record of a patch (R335): what it replaces on which die, with its data. -/
inductive PatchRec where
  | region (die id : Nat) (entries : List DeskEntry)
  | words (die press start : Nat) (ws : List Word)
  | templates (die : Nat) (bs : List Byte)
  | measures (die : Nat) (bs : List Byte)
  deriving DecidableEq, Repr

/-- A patch in staging or staged (R336 to R339). -/
structure Patch where
  sbar : Nat
  recs : List PatchRec
  /-- Dies that have not yet reported it staged. -/
  waiting : List Nat
  cmd : Cmd
  /-- The bar in which it counts as staged (R337). -/
  stagedBar : Option Nat
  deriving DecidableEq, Repr

end Sys2Proof.Machine
end

