-- ==== Sys2Proof/Machine/TypesUnison.lean ====
section
/-! DEFINITION. Plain data of Unison: digests, the comparator's tables, the capture and its replay (16_determinism.md, section 4). -/

namespace Sys2Proof.Machine

/-- A digest of one unit and stream in one Score bar (R770, R772, R774). -/
structure UnEntry where
  sbar : Nat
  unit : Nat
  stream : Nat
  digest : Nat
  deriving DecidableEq, Repr

/-- A CLOSE of one Score bar: its ENTRY count and profile bits (R774). -/
structure UnClose where
  sbar : Nat
  n : Nat
  profile : Nat
  deriving DecidableEq, Repr

/-- What a Press die logs during the captured bar (R782). -/
inductive LogItem where
  /-- A Board write from outside the package: package Press, Board address, bytes. -/
  | board (p a : Nat) (bs : List Byte)
  /-- A tally update by a notice or an inbound bolt. -/
  | tally (die t n : Nat)
  /-- A queue-load fill, by package Press and load queue. -/
  | fill (p q : Nat) (bs : List Byte)
  deriving DecidableEq, Repr

/-- A snapshot (R781). -/
structure Snapshot where
  job : Nat
  sects : Table Section
  tstart : Table Nat
  boards : List Host.Cell
  cond : Table Conductor
  tallies : Table Nat
  seqs : Table Nat
  windows : List Window
  /-- The terms of the tally books, which go with the tallies (R789, R790). -/
  accepted : Table Nat := []
  noticed : Table Nat := []
  consumed : Table Nat := []
  tallySat : Table Bool := []
  deriving DecidableEq, Repr

/-- The Unison comparator and capture (R767 to R784). -/
structure Unison where
  /-- Comparison has started at a count-in (R769). -/
  started : Bool := false
  waitUs : Nat := 0
  /-- Own digests that are not closed. -/
  open_ : List UnEntry := []
  own : List UnEntry := []
  peer : List UnEntry := []
  ownClose : List UnClose := []
  peerClose : List UnClose := []
  /-- By Score bar: ENTRY tacks sent (R774); and the Score bars whose CLOSE has been sent. -/
  sent : Table Nat := []
  closed : List Nat := []
  /-- Score bars an entry of which found the pending table full, or whose comparison timed out (R778). -/
  lost : List Nat := []
  snap : Option Snapshot := none
  capMib : Nat := 0
  /-- Beat and item, oldest first (R782). -/
  log : List (Nat × LogItem) := []
  /-- The captured bar's own and partner digests (R782). -/
  capOwn : List UnEntry := []
  capPeer : List UnEntry := []
  /-- The REPLAY in progress, and what of the log it has still to apply (R783). -/
  replay : Option Cmd := none
  left : List (Nat × LogItem) := []
  deriving DecidableEq, Repr

end Sys2Proof.Machine
end

