-- ==== Sys2Proof/Machine/State.lean ====
section
/-! DEFINITION. The state of the part: every register, store, queue, buffer, pin and fuse the spec gives it, with the
queue of waiting commands. -/

namespace Sys2Proof.Machine

/-- Why a run stops with a fault: no command of this part does (the spec gives each one an effect). -/
inductive Fault where
  /-- Raised by nothing (safe): kept so that the type has a name for it. -/
  | none
  deriving DecidableEq, Repr

/-- Why a command has no meaning. -/
inductive Refusal where
  /-- Raised by `exec` for a command that is not modelled yet (safe: nothing is claimed of it). -/
  | notModelled (mnemonic : String)
  deriving DecidableEq, Repr

/-- The whole part. -/
structure State where
  /-- Every register of BAR0 by offset, as its difference from its reset value; an unlisted one holds that value. -/
  regs : Table Word
  /-- Device memory with its Board window, by offset (R348); an unlisted byte reads 0 (DESIGN CHOICE, log entry 1). -/
  mem : List Host.Cell
  /-- Score time, package-wide (02_score_time.md). -/
  tempo : Tempo
  /-- Beats counted since power-on, and by die what its beat count has beyond them, modulo 2^32 (R439). -/
  clock : Nat
  dieBase : Table Nat
  /-- ALIGN notices on their way: the die they go to, VALUE, and whether that die forwards them (R439, R440). -/
  aligns : List (Nat × Nat × Bool)
  /-- The link table of the installed image, by link (R295). -/
  links : Table LinkCfg
  /-- Conductors by die (R282). -/
  cond : Table Conductor
  /-- Patches staged or in staging (R334 to R341). -/
  patches : List Patch
  /-- Presses by package number (R167), and sections by 4 × package Press + section (R168). -/
  press : Table Press
  sects : Table Section
  /-- Queue requests by 8 × package Press + queue, load queues 0–3 then store queues 4–5 (R360), in issue order. -/
  queues : Table (List QReq)
  /-- Requests issued so far, by package Press (R364). -/
  qseq : Table Nat
  /-- Memory ports by Press die (R370). -/
  ports : Table MemPort
  /-- Flits that the links have sent, in order: link and bytes. -/
  linkTx : List (Nat × List Byte)
  /-- Links by index (R163), Seam ports by 4 × die + port (R29), legacy bridges by link. -/
  lk : Table LinkDyn
  seams : Table SeamDyn
  legacy : Table Legacy
  /-- The Score plane and the Tack plane (09_score_plane.md, 10_tack_plane.md). -/
  score : ScorePlane
  tacks : TackPlane
  books : Books
  /-- E0's ports and queues (15_network_ports.md). -/
  eth : Eth
  unison : Unison
  arb : Arbiter
  icu : Icu
  front : Front
  sm : Sm
  tap : Tap
  smb : Smb
  pins : Pins
  fuses : Fuses
  /-- The boot flash, by byte; an unlisted byte reads 0xFF (R944). -/
  flash : Table Byte
  fw : Firmware
  pwr : Power
  /-- How many free values have been used: the model's own. -/
  free : Nat
  /-- The commands that wait, first in, first out: the model's own. -/
  pending : List Instr
  deriving DecidableEq, Repr

/-- The fuses of the part that the model starts with (DESIGN CHOICE, log entry 7): a KL3-B12-12 at stepping B0, with the serial number of the worked case of
section 10 of 19_security.md, as it leaves Rentisil (R870), with no store-key bank fused yet. -/
def factoryFuses : Fuses :=
  { variant := 0, stepping := 2, grade := 0xC, serial := 0x0000_0412_8C07_3A51
    rootDigest := List.replicate 4 (List.replicate 48 0), rootRevoked := 0, coDigest := [[], []], coKey := [[], []], smSvn := 0, fwSvn := 0
    storeKeys := List.replicate 8 [], bank := 0, debugDisable := false }

/-- The part right after power-on reset (R24, R816), held in cold reset: every register holds its reset value, every store is empty, the
control pins are as a board drives them before it releases the package (R965 to R967), and no command waits. -/
def State.reset : State :=
  { regs := [], mem := [], tempo := {}, clock := 0, dieBase := [], aligns := [], links := [], cond := [], patches := [], press := []
    sects := [], queues := [], qseq := [], ports := [], linkTx := [], lk := [], seams := [], legacy := [], score := {}, tacks := {}
    books := {}, eth := {}, unison := {}, arb := {}, icu := {}, front := {}, sm := {}, tap := {}, smb := {}, pins := {}
    fuses := factoryFuses, flash := [], fw := {}, pwr := {}, free := 0, pending := [] }

end Sys2Proof.Machine
end

