-- ==== Sys2Proof/Machine/Ops.lean ====
section
/-! DEFINITION. The named operations over registers, memory, events, faults and completions that the
commands share. -/

namespace Sys2Proof.Machine

/-! ### Registers -/

/-- The contents of a register instance (R17): `State.regs` holds its difference from the reset value. -/
def State.reg (s : State) (r : Reg) (ix : List Nat) : Word :=
  tget 0 s.regs (r.addr ix) ^^^ r.resetAt ix

/-- Set a whole register instance. -/
def State.setReg (s : State) (r : Reg) (ix : List Nat) (v : Word) : State :=
  { s with regs := tput 0 s.regs (r.addr ix) (v ^^^ r.resetAt ix) }

/-- Return a register instance to its reset value. -/
def State.clrReg (s : State) (r : Reg) (ix : List Nat) : State :=
  { s with regs := tput 0 s.regs (r.addr ix) 0 }

/-- A field of a register, as a number. -/
def State.getF (s : State) (r : Reg) (ix : List Nat) (f : Fld) : Nat := fget (s.reg r ix) f

/-- Set a field of a register. -/
def State.setF (s : State) (r : Reg) (ix : List Nat) (f : Fld) (x : Nat) : State :=
  s.setReg r ix (fset (s.reg r ix) f x)

/-- A one-bit field, as a truth value. -/
def State.bit (s : State) (r : Reg) (ix : List Nat) (f : Fld) : Bool := s.getF r ix f != 0

/-- Add to a counter field, which saturates at its width's largest value (R904). -/
def State.incF (s : State) (r : Reg) (ix : List Nat) (f : Fld) (n : Nat) : State :=
  s.setF r ix f (satAdd (2 ^ f.width - 1) (s.getF r ix f) n)

/-- Raise a peak field to `n` when `n` is higher. -/
def State.peakF (s : State) (r : Reg) (ix : List Nat) (f : Fld) (n : Nat) : State :=
  if s.getF r ix f < n then s.setF r ix f n else s

/-! ### Units -/

/-- The die is fitted (R2, R50): GLB_CAP0 tells of Press dies and E0; M0, M1 and C0 always are. -/
def State.hasDie (s : State) (d : Nat) : Bool :=
  if d < 8 then bitOf (s.reg GLB_CAP0 []) d
  else if d = 11 then s.bit GLB_CAP0 [] GLB_CAP0.E0
  else decide (d ≤ 10)

/-- The die is in reset (RST_DIE), or the whole package is. -/
def State.dieInReset (s : State) (d : Nat) : Bool := s.fw.inCold || bitOf (s.reg RST_DIE []) d

/-- The die is folded (PWR_DIE). -/
def State.dieFolded (s : State) (d : Nat) : Bool := bitOf (s.reg PWR_DIE []) d

/-- The die is fitted, out of reset and not folded. -/
def State.dieUp (s : State) (d : Nat) : Bool := s.hasDie d && !s.dieInReset d && !s.dieFolded d

/-- Press k of Pn is in reset, with its die or alone (RST_PRESS). -/
def State.pressInReset (s : State) (p : Nat) : Bool :=
  s.dieInReset (p / 32) || bitOf (s.reg RST_PRESS [p / 32]) (p % 32)

/-- Press k of Pn is folded, with its die or alone (PWR_PFOLD). -/
def State.pressFolded (s : State) (p : Nat) : Bool :=
  s.dieFolded (p / 32) || bitOf (s.reg PWR_PFOLD [p / 32]) (p % 32)

/-- The package Press p (R167: p = 32n + k) is fitted, out of reset and not folded. -/
def State.pressUp (s : State) (p : Nat) : Bool :=
  s.hasDie (p / 32) && !s.pressInReset p && !s.pressFolded p

/-- The dies that hold a Conductor (R28), of those fitted. -/
def State.condDies (s : State) : List Nat := (List.range 10).filter s.hasDie

/-- The Press dies fitted. -/
def State.pressDies (s : State) : List Nat := (List.range 8).filter s.hasDie

/-- The die-and-link index of LNK registers for link l (R163, R452). -/
def lnk (l : Nat) : List Nat := [8 + l / 6, l % 6]

/-- A link is UP: its STATE is UP, or QUIET, which is a part of UP (R427, R445, LNK_STATUS.STATE). -/
def State.linkUp (s : State) (l : Nat) : Bool :=
  s.getF LNK_STATUS (lnk l) LNK_STATUS.STATE == 6 || s.getF LNK_STATUS (lnk l) LNK_STATUS.STATE == 8

/-- The TAP's instruction takes over the balls (R922). -/
def State.boundaryScan (s : State) : Bool := [0x00, 0x03, 0x04, 0x05, 0x06].contains s.tap.ir

/-! ### Free values -/

/-- `n` bytes of the DRBG (R860) (DESIGN CHOICE, log entry 2). -/
def State.drbgBytes (s : State) (n : Nat) : List Byte :=
  (List.range n).map (fun i => Config.drbgByte (s.free + i))

/-- Move past `n` free values (DESIGN CHOICE, log entry 2) (DESIGN CHOICE, log entry 3). -/
def State.useFree (s : State) (n : Nat) : State := { s with free := s.free + n }

/-- The next free value below 2^w (DESIGN CHOICE, log entry 3). -/
def State.freeNat (s : State) (w : Nat) : Nat := (Config.freeWord s.free).toNat % 2 ^ w

/-! ### Device memory -/

/-- The base of the Board window of device memory (R348). -/
def boardBase : Nat := 0x0040_0000_0000

/-- The device-memory offset of Board address a of package Press p (R348). -/
def boardOff (p a : Nat) : Nat := boardBase + p * 0x0010_0000 + a % 0x0010_0000

/-- One byte of device memory (DESIGN CHOICE, log entry 1). -/
def State.mbyte (s : State) (off : Nat) : Byte := tget 0 s.mem off

/-- `n` bytes of device memory from `off` (DESIGN CHOICE, log entry 1). -/
def State.readMem (s : State) (off n : Nat) : List Byte := (List.range n).map (fun i => s.mbyte (off + i))

/-- Lay bytes over a memory from an offset on. -/
def putBytes : List Host.Cell → Nat → List Byte → List Host.Cell
  | m, _, [] => m
  | m, o, b :: bs => putBytes (tput 0 m o b) (o + 1) bs

/-- Write bytes to device memory. -/
def State.writeMem (s : State) (off : Nat) (bs : List Byte) : State := { s with mem := putBytes s.mem off bs }

/-- The stack that holds an HBM offset: fitted and below its 24 GiB (R348, R350). -/
def State.stackOf (s : State) (off : Nat) : Option Nat :=
  let n := off / 0x0006_0000_0000
  if n < 8 ∧ bitOf (s.reg GLB_CAP0 []) (8 + n) then some n else none

/-- The package Press whose Board holds an offset, when its die is fitted (R348, R350). -/
def State.boardOf (s : State) (off : Nat) : Option Nat :=
  if boardBase ≤ off ∧ off < boardBase + 256 * 0x0010_0000 then
    let p := (off - boardBase) / 0x0010_0000
    if s.hasDie (p / 32) then some p else none
  else none

/-- The offset lies in the carve-out (R352). -/
def inCarve (off : Nat) : Bool :=
  (decide (0x000A_0000_0000 ≤ off) && decide (off < 0x000C_0000_0000)) ||
  (decide (0x0022_0000_0000 ≤ off) && decide (off < 0x0024_0000_0000))

/-- A range lies wholly inside the carve-out. -/
def rangeInCarve (off n : Nat) : Bool :=
  (decide (0x000A_0000_0000 ≤ off) && decide (off + n ≤ 0x000C_0000_0000)) ||
  (decide (0x0022_0000_0000 ≤ off) && decide (off + n ≤ 0x0024_0000_0000))

/-- The points at which a range can change its unit: its ends, and the 1 MiB boundaries inside it, at most `fuel`. -/
def rangePoints : Nat → Nat → Nat → List Nat
  | 0, _, _ => []
  | fuel + 1, off, last =>
    if last < off then [] else off :: rangePoints fuel ((off / 0x0010_0000 + 1) * 0x0010_0000) last

/-- Every offset of a range lies in a fitted stack or Board (no hole, no reserved range). -/
def State.rangeMapped (s : State) (off n : Nat) : Bool :=
  if boardBase ≤ off then
    (rangePoints 257 off (off + n - 1)).all (fun o => (s.boardOf o).isSome) &&
    (s.boardOf (off + n - 1)).isSome
  else
    ((List.range 9).all (fun i =>
      let o := if i = 0 then off else (off / 0x0006_0000_0000 + i) * 0x0006_0000_0000
      decide (off + n ≤ o) || (s.stackOf o).isSome)) && decide (off + n ≤ 0x0030_0000_0000)

/-- The range touches the carve-out. -/
def touchesCarve (off n : Nat) : Bool :=
  (decide (off < 0x000C_0000_0000) && decide (0x000A_0000_0000 < off + n)) ||
  (decide (off < 0x0024_0000_0000) && decide (0x0022_0000_0000 < off + n))

/-- The stacks a range reaches. -/
def stacksOf (off n : Nat) : List Nat :=
  (List.range 8).filter (fun i =>
    decide (off < (i + 1) * 0x0006_0000_0000) && decide (i * 0x0006_0000_0000 < off + n))

/-- The package Presses whose Boards a range reaches. -/
def boardsOf (off n : Nat) : List Nat :=
  (List.range 256).filter (fun p =>
    decide (off < boardBase + (p + 1) * 0x0010_0000) && decide (boardBase + p * 0x0010_0000 < off + n))

/-- A stack is in service: its die is up and its controller trained (R700). -/
def State.stackUp (s : State) (n : Nat) : Bool := s.dieUp n && s.bit MEM_STATUS [n] MEM_STATUS.TRAINED

/-! ### CRC -/

/-- One bit step of the reflected CRC-32C (R457). -/
def crcBit (c : Nat) : Nat := if c % 2 = 1 then (c / 2) ^^^ 0x82F63B78 else c / 2

/-- One byte step of CRC-32C. -/
def crcByte (c : Nat) (b : Byte) : Nat :=
  crcBit (crcBit (crcBit (crcBit (crcBit (crcBit (crcBit (crcBit (c ^^^ b.toNat))))))))

/-- CRC-32C of bytes (R457: polynomial 0x1EDC_6F41 reflected, initial value and final XOR 0xFFFF_FFFF). -/
def crc32c (bs : List Byte) : Nat := (bs.foldl crcByte 0xFFFF_FFFF) ^^^ 0xFFFF_FFFF

/-! ### Score time -/

/-- The bar in which an event that reaches the Mangle dies now counts as raised (R61). -/
def State.raisedBar (s : State) : Nat :=
  if s.tempo.frozen then (s.tempo.barno + 1) % 2 ^ 32 else s.tempo.barno

/-- Replace the Score time. -/
def State.setTempo (s : State) (t : Tempo) : State := { s with tempo := t }

/-- The larger of two bars in 32-bit serial order (R58). -/
def barMax (a : Option Nat) (b : Nat) : Option Nat :=
  match a with
  | none => some b
  | some x => if newer 32 b x then some b else some x

/-- A momentary condition of an interrupt source (R621): one more event of it. -/
def State.edge (s : State) (n : Nat) : State :=
  { s with icu := { s.icu with edges := tput 0 s.icu.edges n (tget 0 s.icu.edges n + 1) } }

/-- A change of fermata state, a halt or a fallback: sources 385 and 449 (R126). -/
def State.tempoEdge (s : State) : State := (s.edge 385).edge 449

/-- Raise a fermata request: the bar is stored in REQ_BAR (R111). -/
def State.fermataRequest (s : State) : State :=
  s.setTempo { s.tempo with reqBar := barMax s.tempo.reqBar s.raisedBar }

/-! ### Events -/

/-- Send an event to the arbiter: at most 64 wait for one die, and one more is dropped and counted (R644, R646). -/
def State.sendEvent (s : State) (die kind data : Nat) : State :=
  let run := s.tempo.running && decide (die ≤ 9)
  let e : Ev :=
    { die := die
      barno := if run then s.tempo.barno else 0xFFFF_FFFF
      beat := if run then s.tempo.beat else 0xFFFF
      kind := kind
      data := data }
  if (s.arb.queue.filter (fun x => x.die == die)).length < 64 then
    { s with arb := { s.arb with queue := s.arb.queue ++ [e] } }
  else
    { s with arb := { s.arb with drops := tput 0 s.arb.drops die (tget 0 s.arb.drops die + 1) } }

/-- The FLAG_SET record of register bits (R647, R650): the 32-bit word's offset, and the bits in that word. -/
def State.logBits (s : State) (die : Nat) (r : Reg) (ix : List Nat) (bits : Nat) : State :=
  if bits < 2 ^ 32 then s.sendEvent die 0x01 (r.addr ix + bits * 2 ^ 32)
  else s.sendEvent die 0x01 (r.addr ix + 4 + (bits / 2 ^ 32) * 2 ^ 32)

/-- Set a flag bit without a log record. -/
def State.setBit (s : State) (r : Reg) (ix : List Nat) (f : Fld) : State := s.setF r ix f 1

/-- Set a flag bit that the spec says is logged (R647). -/
def State.setLogged (s : State) (die : Nat) (r : Reg) (ix : List Nat) (f : Fld) : State :=
  (s.setBit r ix f).logBits die r ix (2 ^ f.lo)

/-! ### Registers that cannot be reached -/

/-- The number of a link as a unit (AON_WASH). -/
def linkUnit (l : Nat) : Nat := 268 + l

/-- The link unit is in reset, with its die or alone. -/
def State.linkInReset (s : State) (l : Nat) : Bool := s.dieInReset (8 + l / 6) || s.pwr.asserted.contains (linkUnit l)

/-- The window of an absent unit (R8, R47; the TEL_SECT groups of absent Press dies). -/
def State.absentWindow (s : State) (a : Nat) : Bool :=
  (decide (0x8000 ≤ a) && decide (a < 0x9000) && !s.bit GLB_CAP0 [] GLB_CAP0.UNISON) ||
  (decide (0x0080_0000 ≤ a) && decide (a < 0x0100_0000) && !s.hasDie ((a - 0x0080_0000) / 0x0010_0000)) ||
  (decide (0x0140_0000 ≤ a) && decide (a < 0x0160_0000) && !s.hasDie 11) ||
  (decide (0x0160_0000 ≤ a) && decide (a < 0x0170_0000) && !bitOf (s.reg GLB_CAP0 []) (8 + (a - 0x0160_0000) / 0x0002_0000)) ||
  (decide (0x0181_0000 ≤ a) && decide (a < 0x0181_8000) && !s.hasDie ((a - 0x0181_0000) / 0x1000))

/-- The unit that holds a register is in reset or folded: the register stays at its reset value (R24; log entry 32). -/
def State.regAway (s : State) (r : Reg) (ix : List Nat) : Bool :=
  let i := ix.getD 0 0
  match r.dom with
  | .por => false
  | .cold => false
  | .c0 => s.dieInReset 10
  | .die => match r.dies with
    | some _ => s.dieInReset i || s.dieFolded i
    | none =>
      if r.off < 0x0160_0000 then s.dieInReset 11 || s.dieFolded 11
      else s.dieInReset i || s.dieFolded i
  | .unit => match r.dies with
    | some (0, _) => s.pressInReset (32 * i + ix.getD 1 0) || s.pressFolded (32 * i + ix.getD 1 0)
    | some _ => s.linkInReset (6 * (i - 8) + ix.getD 1 0)
    | none =>
      decide (0x0140_0000 ≤ r.off) && decide (r.off < 0x0160_0000) &&
        (s.dieInReset 11 || s.dieFolded 11 || s.pwr.asserted.contains (280 + i))

/-- An access to an absent unit's window is recorded (R8, R9, R14). -/
def State.absentAccess (s : State) (a : Nat) (write : Bool) : State :=
  let s := if s.bit GLB_ABSENT_ACCESS [] GLB_ABSENT_ACCESS.ACCESS then s
    else s.setF GLB_ABSENT_ACCESS [] GLB_ABSENT_ACCESS.FIRST_MB (a / 2 ^ 20)
  let s := (s.setBit GLB_ABSENT_ACCESS [] GLB_ABSENT_ACCESS.ACCESS).incF GLB_ABSENT_ACCESS [] GLB_ABSENT_ACCESS.COUNT 1
  if write then s.setBit GLB_ABSENT_ACCESS [] GLB_ABSENT_ACCESS.WRITE else s

/-- A register cannot be reached: its unit is absent, in reset or folded (R8, R9, R24; log entry 32). -/
def State.regGone (s : State) (r : Reg) (ix : List Nat) : Bool := s.absentWindow (r.addr ix) || s.regAway r ix

/-- What an access to a register that cannot be reached does: one to an absent unit is recorded (R8, R9). -/
def State.goneAccess (s : State) (r : Reg) (ix : List Nat) (write : Bool) : State :=
  if s.absentWindow (r.addr ix) then s.absentAccess (r.addr ix) write else s

/-! ### Faults of Score time and of the Score -/

/-- The action that a TEMPO_FAULT schedules (R92, R102): GATE_TIMEOUT halts, others take the region's action. -/
def State.scheduleAction (s : State) (a : BarAction) : State :=
  if s.tempo.running then
    s.setTempo { s.tempo with actions := s.tempo.actions ++ [(s.raisedBar, a)] }
  else s

/-- Latch a TEMPO_FAULT in a die's register (R92, R124, R125). -/
def State.latchTempo (s : State) (die cause port err : Nat) : State :=
  if s.bit SCR_TEMPO_FAULT [die] SCR_TEMPO_FAULT.FAULT then s.setBit SCR_TEMPO_FAULT [die] SCR_TEMPO_FAULT.MULTI
  else
    (((s.setBit SCR_TEMPO_FAULT [die] SCR_TEMPO_FAULT.FAULT).setF SCR_TEMPO_FAULT [die] SCR_TEMPO_FAULT.CAUSE cause).setF
      SCR_TEMPO_FAULT [die] SCR_TEMPO_FAULT.PORT port).setF SCR_TEMPO_FAULT [die] SCR_TEMPO_FAULT.ERROR err

/-- Raise a TEMPO_FAULT on a die (R92): latch, log, schedule the action. Causes as SCR_TEMPO_FAULT.CAUSE. -/
def State.tempoFault (s : State) (die cause port err : Nat) : State :=
  ((s.latchTempo die cause port err).logBits die SCR_TEMPO_FAULT [die] 1).scheduleAction
    (if cause = 5 then .halt else if s.tempo.fallbackAct then .fallback else .halt)

/-- Latch a SCORE_FAULT on a die and log it (R342, R344). Causes as SCR_FAULT.CAUSE; `press` 0xFF where none. -/
def State.scoreFault (s : State) (die cause press entry : Nat) : State :=
  let s := if s.bit SCR_FAULT [die] SCR_FAULT.FAULT then s.setBit SCR_FAULT [die] SCR_FAULT.MULTI
    else
      (((s.setBit SCR_FAULT [die] SCR_FAULT.FAULT).setF SCR_FAULT [die] SCR_FAULT.CAUSE cause).setF
        SCR_FAULT [die] SCR_FAULT.PRESS press).setF SCR_FAULT_ENTRY [die] SCR_FAULT_ENTRY.ENTRY entry
  s.logBits die SCR_FAULT [die] 1

/-- A SCORE_FAULT that also raises a fermata request (R316, R321, R322, R338, R340). -/
def State.scoreFaultReq (s : State) (die cause press entry : Nat) : State :=
  (s.scoreFault die cause press entry).fermataRequest

/-! ### Conductors -/

/-- A die's Conductor. -/
def State.conductor (s : State) (d : Nat) : Conductor := tget {} s.cond d

/-- Replace a die's Conductor. -/
def State.setConductor (s : State) (d : Nat) (c : Conductor) : State := { s with cond := tput {} s.cond d c }

/-! ### Self-tests -/

/-- Record the outcome of tests, given as masks of those that ran and of those that failed (SM_SELFTEST, R890). -/
def State.testsRun (s : State) (ran failed : Nat) : State :=
  let keep (n : Nat) : Nat := n &&& (0xFFF ^^^ ran)
  let p := s.getF SM_SELFTEST [] SM_SELFTEST.PASSED
  let f := s.getF SM_SELFTEST [] SM_SELFTEST.FAILED
  (s.setF SM_SELFTEST [] SM_SELFTEST.PASSED (keep p ||| (ran ^^^ (ran &&& failed)))).setF SM_SELFTEST [] SM_SELFTEST.FAILED
    (keep f ||| (ran &&& failed))

/-! ### Commands -/

/-- The access comes from a control core, or from the debug chain, whose BAR0 accesses behave as a core's (R636, R924)
(DEDUCED, log entry 38). -/
def Who.isCore : Who → Bool
  | .host => false
  | _ => true

/-- The access comes from a control core in M mode (R819, R880) (DEDUCED, log entry 38). -/
def Who.mMode : Who → Bool
  | .core _ m => m
  | _ => false

/-- The message of MSI-X vector v may go out: Bus Master Enable is 1 (R671) and the vector is not masked (R667) (PRESUMED, log entry 88). -/
def State.msixOpen (s : State) (v : Nat) : Bool := s.bit CMD_IF_STATUS [] CMD_IF_STATUS.BME && !s.bit MSIX_CTRL [v] MSIX_CTRL.MASK

/-- Fire an MSI-X vector (R682, R683), or hold it pending (R671). -/
def State.fireMsix (s : State) (v : Nat) : State :=
  if s.msixOpen v then { s with front := { s.front with msix := s.front.msix ++ [v] } }
  else if s.front.msixHeld.contains v then s
  else { s with front := { s.front with msixHeld := s.front.msixHeld ++ [v] } }

/-- The pending vectors whose messages may now go out do, in the order in which they became pending. -/
def State.sendMsix (s : State) : State :=
  { s with front := { s.front with msix := s.front.msix ++ s.front.msixHeld.filter s.msixOpen, msixHeld := s.front.msixHeld.filter (fun v => !s.msixOpen v) } }

/-- The bytes of a completion (R690). -/
def Cpl.bytes (c : Cpl) : List Byte :=
  leBytes 4 c.tag ++ leBytes 2 c.opcode ++ leBytes 1 c.status ++ leBytes 1 c.phase ++ leBytes 2 c.head ++
  leBytes 1 c.ring ++ leBytes 5 0 ++ slice c.result 0 16

/-- Write host memory, in order (R692). -/
def State.hostWrite (s : State) (a : Nat) (bs : List Byte) : State :=
  { s with front := { s.front with hostWrites := s.front.hostWrites ++ [(a, bs)] } }

/-- A command leaves the in-flight set: the ring's and the package's counts fall, and a disabled ring with nothing
left goes IDLE and leaves error (R679, R685). -/
def State.retire (s : State) (c : Cmd) : State :=
  if s.front.inflight.any (fun x => x.1 == c) then
    let r := (c.ring : Nat)
    let s := { s with front := { s.front with inflight := dropFirst (fun x => x.1 == c) s.front.inflight } }
    let s := s.setF CMD_IF_STATUS [] CMD_IF_STATUS.INFLIGHT (s.getF CMD_IF_STATUS [] CMD_IF_STATUS.INFLIGHT - 1)
    if c.via = .H ∨ c.via = .C then
      let s := s.setF CMD_RING_STATUS [r] CMD_RING_STATUS.INFLIGHT (s.getF CMD_RING_STATUS [r] CMD_RING_STATUS.INFLIGHT - 1)
      if !s.bit CMD_RING_CFG [r] CMD_RING_CFG.ENABLE && s.getF CMD_RING_STATUS [r] CMD_RING_STATUS.INFLIGHT == 0 then
        (s.setF CMD_RING_STATUS [r] CMD_RING_STATUS.IDLE 1).setF CMD_RING_STATUS [r] CMD_RING_STATUS.ERROR 0
      else s
    else s
  else s

/-- Count a completion with FLAGS.IRQ toward its ring's vector (R682). -/
def State.countIrq (s : State) (r : Nat) : State :=
  let n := tget 0 s.front.counted r + 1
  if s.getF CMD_RING_CFG [r] CMD_RING_CFG.COAL_CNT ≤ n then
    ({ s with front := { s.front with counted := tput 0 s.front.counted r 0 } }).fireMsix r
  else { s with front := { s.front with counted := tput 0 s.front.counted r n } }

/-- Write a ring completion at CTAIL and advance it; the phase inverts at the wrap (R675, R690). -/
def State.ringComplete (s : State) (c : Cmd) (cp : Cpl) : State :=
  let r := (c.ring : Nat)
  let n := 2 ^ s.getF CMD_RING_CFG [r] CMD_RING_CFG.LOG2N
  let ct := s.getF CMD_RING_PTR [r] CMD_RING_PTR.CTAIL
  let cp := { cp with phase := s.getF CMD_RING_PTR [r] CMD_RING_PTR.PHASE }
  let at_ := s.getF CMD_CPL_BASE [r] CMD_CPL_BASE.BASE * 4096 + 32 * ct
  let s := { s with front := { s.front with done := s.front.done ++ [cp] } }
  let s := s.setF CMD_RING_PTR [r] CMD_RING_PTR.CTAIL ((ct + 1) % n)
  let s := if ct + 1 = n then s.setF CMD_RING_PTR [r] CMD_RING_PTR.PHASE (1 - cp.phase) else s
  let s := if c.via = .C then s.writeMem at_ cp.bytes
    else if s.bit CMD_IF_STATUS [] CMD_IF_STATUS.BME then s.hostWrite at_ cp.bytes
    else { s with front := { s.front with cplHeld := s.front.cplHeld ++ [(at_, cp.bytes)] } }
  if c.via = .H ∧ c.flags % 2 = 1 then s.countIrq r else s

/-- Complete a command (R690 to R693): where its completion goes depends on its transport. -/
def State.complete (s : State) (c : Cmd) (status : Nat) (result : List Byte) : State :=
  let r := (c.ring : Nat)
  let hd := match s.front.inflight.find? (fun x => x.1 == c) with
    | some x => x.2
    | none => s.getF CMD_RING_STATUS [r] CMD_RING_STATUS.HEAD
  let cp : Cpl :=
    { via := c.via, ring := r, tag := c.tag, opcode := c.opcode, status := status, phase := 0, head := hd
      result := result }
  let gone := s.front.discard.any (fun x => x == c)
  let s := if gone then { s with front := { s.front with discard := dropFirst (fun x => x == c) s.front.discard } } else
    match c.via with
    | .H => s.ringComplete c cp
    | .C => s.ringComplete c cp
    | .S => { s with front := { s.front with done := s.front.done ++ [cp], smbDone := some cp } }
    | .P => { s with front := { s.front with done := s.front.done ++ [cp], peerDone := s.front.peerDone ++ [cp] } }
  s.retire c

/-- Keep a command waiting for an event. -/
def State.wait (s : State) (w : WaitFor) (c : Cmd) : State :=
  { s with front := { s.front with waiting := s.front.waiting ++ [(w, c)] } }

/-- The commands waiting for `w`, in order. -/
def State.waiters (s : State) (w : WaitFor) : List Cmd :=
  (s.front.waiting.filter (fun x => x.1 == w)).map (fun x => x.2)

/-- Complete every command waiting for `w` alike. -/
def State.completeAll (s : State) (w : WaitFor) (status : Nat) (result : List Byte) : State :=
  let cs := s.waiters w
  let s := { s with front := { s.front with waiting := s.front.waiting.filter (fun x => x.1 != w) } }
  cs.foldl (fun s c => s.complete c status result) s

/-- TARGET, or the unit that the opcode implies, is absent (R10, R689 check 6). -/
def State.targetAbsent (s : State) (c : Cmd) : Bool :=
  (c.target != 0x000F && !s.hasDie c.tDie) ||
  (c.opcode / 256 == 8 && !s.hasDie 11) ||
  ((c.opcode == 0x0902 || c.opcode == 0x0903) && !s.bit GLB_CAP0 [] GLB_CAP0.UNISON)

/-- The role of the open session that a command's SESSION names on its transport (R876, R878, R879):
`none` when it names none. Peer commands carry 0 and are User while a slice is valid. -/
def State.sessionRole (s : State) (c : Cmd) : Option Role :=
  if c.via = .P then (if s.bit RNK_SLICE [8] RNK_SLICE.VALID then some .user else none)
  else if c.session = 0 then none
  else (s.sm.sessions.find? (fun x => x.handle.toNat == c.session && x.via == c.via)).map (fun x => x.role)

/-- The role that an opcode, or a service of SM_SERVICE, needs (R878, R886): none, User or Crypto Officer. -/
def State.neededRole (s : State) (c : Cmd) : Option Role :=
  let op := c.opcode
  let svc := c.par 0 1
  if op = 0x0101 ∨ op = 0x0102 ∨ op = 0x0306 ∨ op = 0x0601 ∨ op = 0x0701 then none
  else if op = 0x0702 then
    if svc = 0x01 ∨ svc = 0x02 then none
    else if svc = 0x34 then (if s.getF SM_STATUS [] SM_STATUS.STATE = 2 then none else some .officer)
    else if svc = 0x03 ∨ svc = 0x12 ∨ svc = 0x13 ∨ svc = 0x14 ∨ svc = 0x20 ∨ svc = 0x21 then some .user
    else if svc = 0x10 then (if c.par 2 1 = 2 then some .officer else some .user)
    else if svc = 0x11 ∨ (0x30 ≤ svc ∧ svc ≤ 0x35) ∨ svc = 0x40 ∨ svc = 0x41 then some .officer
    else none
  else if op = 0x0402 ∨ op / 256 = 0x0A ∨ op = 0x0703 then some .officer
  else some .user

/-- Check 7 of R689 (R878): SESSION meets what the opcode needs, and a SESSION that names no open session of this
transport is refused even where none is needed. -/
def State.sessionOk (s : State) (c : Cmd) : Bool :=
  let role := s.sessionRole c
  let named := c.via == .P || c.session == 0 || role.isSome
  named && (match s.neededRole c with
    | none => true
    | some .user => role.isSome
    | some .officer => role == some .officer)

/-- The header checks (R689), in order: the first failure's status (DEDUCED, log entry 59). -/
def State.headerCheck (s : State) (c : Cmd) : Option Nat :=
  if c.version ≠ 1 ∨ leAt c.slot 11 1 ≠ 0 ∨ 4 ≤ c.flags then some stBadParam
  else match opRow c.opcode with
    | none => some stBadOpcode
    | some row =>
      if 224 < c.inlineLen then some stBadLength
      else if !row.takes c.via then some stNotAuthorized
      else if !c.targetValid || !c.targetTaken row.unit then some stBadParam
      else if s.targetAbsent c then some stAbsentUnit
      else if !s.sessionOk c then some stNotAuthorized
      else if s.bit CMD_IF_STATUS [] CMD_IF_STATUS.ACTIVATING && !s.fw.early.contains c then some stBusy
      else none

/-- Commands are checked: FW_READY (R952), or an activation answers them (R846), and C0 is not in reset (R832)
(DEDUCED, log entry 59). -/
def State.fwReady (s : State) : Bool :=
  (s.bit CMD_IF_STATUS [] CMD_IF_STATUS.FW_READY || s.bit CMD_IF_STATUS [] CMD_IF_STATUS.ACTIVATING) && !s.dieInReset 10

/-- A command with FLAGS.BARRIER waits for every earlier command of its ring (R680) (DEDUCED, log entry 89). -/
def State.barred (s : State) (c : Cmd) : Bool :=
  decide (c.flags / 2 % 2 = 1) && (c.via == .H || c.via == .C) && s.front.inflight.any (fun x => x.1 == c) &&
    (s.front.inflight.takeWhile (fun x => x.1 != c)).any (fun x => x.1.via == c.via && x.1.ring == c.ring)

/-- Run a command: while C0 cannot interpret it, it completes with UNIT_IN_RESET (R832, R952); then the header checks
(R689); then its own body. A slot whose OPCODE is another listed one is not this command, and one that a barrier holds does not start:
nothing happens (DEDUCED, log entry 89). -/
def State.runCmd (s : State) (c : Cmd) (opcode : Nat) (body : State → State) : State :=
  if (c.opcode ≠ opcode ∧ (opRow c.opcode).isSome) ∨ s.barred c then s
  else if !s.fwReady then s.complete c stUnitInReset []
  else match s.headerCheck c with
    | some st => s.complete c st []
    | none => body s

end Sys2Proof.Machine
end

