-- ==== Sys2Proof/Machine/IcuOps.lean ====
section
/-! DEFINITION. The interrupt controller: the lines of its sources, their states, and what each target selects (sections 2 to 6 of
13_control_die_interrupts.md). -/

namespace Sys2Proof.Machine

/-! ### Sources -/

/-- Some bit of a register is 1. -/
def State.anyBit (s : State) (r : Reg) (ix : List Nat) : Bool := s.reg r ix != 0

/-- The condition of source 2 (R655). -/
def State.evaDue (s : State) : Bool :=
  decide (s.getF EVA_CFG [] EVA_CFG.THRESH ≤ (s.getF EVA_WR [] EVA_WR.INDEX + 2 ^ 32 - s.getF EVA_RD [] EVA_RD.INDEX) % 2 ^ 32) ||
    s.bit EVA_STATUS [] EVA_STATUS.LOST

/-- Sources 1 to 127, of C0 (R166, R453, R640, R655, R708, R786, R856, R903, R938). -/
def State.lineC0 (s : State) (n : Nat) : Bool :=
  match n with
  | 1 => s.anyBit ICU_TGT_FAULT []
  | 2 => s.evaDue
  | 8 => (List.range 8).any (fun i => bitOf (s.reg CLK_REF_STATUS []) (8 + i))
  | 9 => (List.range 12).any (fun d => s.bit CLK_DIE [d] CLK_DIE.UNLOCK || s.bit CLK_DIE [d] CLK_DIE.CLOCK_RESET)
  | 10 => s.anyBit SEAM_EVENT [10, 0]
  | 11 => s.anyBit SEAM_EVENT [10, 1]
  | 12 => s.bit CMD_ACCESS_FAULT [] CMD_ACCESS_FAULT.FAULT ||
      (List.range 16).any (fun r => s.bit CMD_RING_STATUS [r] CMD_RING_STATUS.ERROR)
  | 13 => s.bit UN_STATUS [] UN_STATUS.MISMATCH || s.bit UN_STATUS [] UN_STATUS.MULTI || s.bit UN_STATUS [] UN_STATUS.UNCHECKED ||
      s.bit UN_STATUS [] UN_STATUS.OVERFLOW || s.bit GLB_MODE [] GLB_MODE.VARIANT_SEEN || s.bit GLB_MODE [] GLB_MODE.PROFILE_MOVED
  | 14 => s.anyBit RST_EVENT []
  | 15 => s.bit PWR_THERM [] PWR_THERM.THROTTLED
  | 16 => s.bit AON_FW [] AON_FW.REVERTED
  | 17 => s.anyBit SM_EVENT []
  | 18 => s.bit SM_MBOX_CTRL [] SM_MBOX_CTRL.DONE
  | 19 => s.anyBit TEL_EVENT []
  | 20 => s.anyBit SMB_EVENT []
  | 21 => s.boundaryScan
  | _ => false

/-- Sources 128 + 32p + i, of Press die Pp (R126, R217, R344, R453, R509, R545). -/
def State.linePress (s : State) (p i : Nat) : Bool :=
  match i with
  | 0 => s.bit SCR_TEMPO_FAULT [p] SCR_TEMPO_FAULT.FAULT
  | 1 => s.anyBit PRS_DIE_EVENT [p]
  | 2 => s.bit SCR_FAULT [p] SCR_FAULT.FAULT
  | 7 => s.anyBit BLT_PFAULT [p]
  | 8 => s.anyBit TCK_PFAULT [p]
  | _ => decide (3 ≤ i) && decide (i ≤ 6) && s.anyBit SEAM_EVENT [p, i - 3]

/-- Sources 384 + i and 448 + i, of M0 and M1 (R126, R344, R453, R509, R545, R580, R614). Source 1 of them is momentary (R126). -/
def State.lineMangle (s : State) (m i : Nat) : Bool :=
  if i = 0 then s.bit SCR_TEMPO_FAULT [m] SCR_TEMPO_FAULT.FAULT
  else if i = 2 then s.bit SCR_FAULT [m] SCR_FAULT.FAULT
  else if i = 3 then s.bit SCR_STATUS [m] SCR_STATUS.FINE || s.bit SCR_PATCH [m] SCR_PATCH.APPLIED || s.bit SCR_PATCH [m] SCR_PATCH.DISCARDED
  else if 4 ≤ i ∧ i < 10 then s.anyBit LNK_EVENT [m, i - 4]
  else if i = 10 ∨ i = 11 then s.anyBit SEAM_EVENT [m, i - 10]
  else if i = 12 then s.anyBit BLT_MFAULT [m]
  else if i = 13 then s.anyBit TCK_MFAULT [m]
  else if i = 14 then !(tget [] s.tacks.inbox m).isEmpty
  else if i = 15 then s.getF RNK_EVENT [m] ⟨0, 5⟩ != 0
  else if 16 ≤ i ∧ i < 22 then s.anyBit LNK_LGC_EVENT [m, i - 16]
  else false

/-- Sources 512 to 575, of E0 (R453, R752). -/
def State.lineE0 (s : State) (i : Nat) : Bool :=
  if i < 2 then s.anyBit ETH_EVENT [i]
  else if 8 ≤ i ∧ i < 40 then
    let q := i - 8
    s.bit ETH_QSTATUS [q] ETH_QSTATUS.ERROR ||
      ((tget {} s.eth.queues q).irq && s.getF ETH_QSTATUS [q] ETH_QSTATUS.CTAIL != s.getF ETH_QSTATUS [q] ETH_QSTATUS.CHEAD)
  else decide (62 ≤ i) && s.anyBit SEAM_EVENT [11, i - 62]

/-- The port of Press die n holds a load (MEM_ERR.UE_HELD, R392). -/
def State.ueHeld (s : State) (n : Nat) : Bool :=
  (List.range 32).any (fun k => (List.range 4).any (fun q => (tget [] s.queues (8 * (32 * n + k) + q)).any (fun r => r.held)))

/-- Sources 576 + 8n + i, of the memory windows (R397). -/
def State.lineMem (s : State) (n i : Nat) : Bool :=
  match i with
  | 0 => s.bit MEM_ERR [n] MEM_ERR.CE_OVER
  | 1 => s.bit MEM_ERR [n] MEM_ERR.UE || s.ueHeld n
  | 2 => s.bit MEM_WAIT [n] MEM_WAIT.TIMEOUT
  | 3 => n == 0 && s.bit MEM_STRAY [] MEM_STRAY.STRAY
  | 4 => s.bit MEM_ERR [n] MEM_ERR.WB_LOST
  | _ => false

/-- The line of a level source (R623). -/
def State.sourceLine (s : State) (n : Nat) : Bool :=
  if n < 128 then s.lineC0 n
  else if n < 384 then s.linePress ((n - 128) / 32) ((n - 128) % 32)
  else if n < 448 then s.lineMangle 8 (n - 384)
  else if n < 512 then s.lineMangle 9 (n - 448)
  else if n < 576 then s.lineE0 (n - 512)
  else if n < 640 then s.lineMem ((n - 576) / 8) ((n - 576) % 8)
  else false

/-- A source that some chapter assigns, of a unit that is fitted (R622). -/
def State.hasSource (s : State) (n : Nat) : Bool :=
  if n < 128 then n == 1 || n == 2 || (decide (8 ≤ n) && decide (n ≤ 21))
  else if n < 384 then s.hasDie ((n - 128) / 32) && decide ((n - 128) % 32 ≤ 8)
  else if n < 512 then decide (n % 64 ≤ 21)
  else if n < 576 then s.hasDie 11 && (decide (n < 514) || (decide (520 ≤ n) && decide (n < 552)) || decide (574 ≤ n))
  else if n < 640 then
    s.hasDie ((n - 576) / 8) && (decide ((n - 576) % 8 ≤ 2) || (n - 576) % 8 == 4 || n == 579)
  else if n < 768 then
    decide (n < 648) || (decide (656 ≤ n) && decide (n < 672) && s.hasDie 11) || decide (704 ≤ n)
  else decide (n < 1024)

/-- A level source (R623). -/
def State.levelSource (s : State) (n : Nat) : Bool := decide (n < 640) && s.hasSource n

/-! ### Source states -/

/-- A source's priority (R622). -/
def State.prio (s : State) (n : Nat) : Nat := if s.hasSource n then s.getF ICU_SRC [n] ICU_SRC.PRIO else 0

/-- The source is idle (R624). -/
def State.idleSource (s : State) (n : Nat) : Bool := !s.bit ICU_SRC [n] ICU_SRC.PENDING && !s.bit ICU_SRC [n] ICU_SRC.ACTIVE

/-- The source becomes pending with one event. -/
def State.makePending (s : State) (n : Nat) : State := (s.setBit ICU_SRC [n] ICU_SRC.PENDING).setF ICU_SRC [n] ICU_SRC.EVCOUNT 1

/-- One event on a source (R625). -/
def State.trigger (s : State) (n : Nat) : State :=
  if s.prio n = 0 then s
  else if s.idleSource n then s.makePending n
  else if s.getF ICU_SRC [n] ICU_SRC.EVCOUNT = 255 then s.setBit ICU_SRC [n] ICU_SRC.SAT
  else s.setF ICU_SRC [n] ICU_SRC.EVCOUNT (s.getF ICU_SRC [n] ICU_SRC.EVCOUNT + 1)

/-- k events on a source. -/
def State.triggers (s : State) (n : Nat) : Nat → State
  | 0 => s
  | k + 1 => (s.trigger n).triggers n k

/-- The rule of R626. -/
def State.levelPend (s : State) (n : Nat) : State :=
  if s.levelSource n && s.idleSource n && s.prio n != 0 && s.sourceLine n then s.makePending n else s

/-- The ICU takes what has happened on a source (R625, R626): its momentary events and a rising edge of its line. -/
def State.sample (s : State) (n : Nat) : State :=
  let line := s.levelSource n && s.sourceLine n
  let rise := line && !s.bit ICU_SRC [n] ICU_SRC.LINE
  let k := tget 0 s.icu.edges n + b2n rise
  let s := { s with icu := { s.icu with edges := tput 0 s.icu.edges n 0 } }
  ((s.setF ICU_SRC [n] ICU_SRC.LINE (b2n line)).triggers n k).levelPend n

/-! ### Targets -/

/-- A target's stack. -/
def State.target (s : State) (t : Nat) : Target := tget {} s.icu.targets t
def State.setTarget (s : State) (t : Nat) (x : Target) : State := { s with icu := { s.icu with targets := tput {} s.icu.targets t x } }

/-- The running priority (R629). -/
def Target.running (x : Target) : Nat := (x.stack.getLast?.map (fun e => e.2)).getD 0

/-- A core is held in reset (R643). -/
def State.coreDown (s : State) (c : Nat) : Bool := s.dieInReset 10 || s.fw.coresHeld || s.pwr.asserted.contains (282 + c)

/-- The source is enabled at a target (R629, R631). -/
def State.enabledAt (s : State) (t n : Nat) : Bool :=
  if n = 1 then t == s.icu.superTgt else bitOf (s.reg ICU_ENABLE [t, n / 32]) (n % 32)

/-- A source is a candidate at a target (R630, R631, R641, R643) (DEDUCED, log entry 104). -/
def State.candidate (s : State) (t n : Nat) : Bool :=
  let x := s.target t
  s.bit ICU_SRC [n] ICU_SRC.PENDING && !s.bit ICU_SRC [n] ICU_SRC.ACTIVE && s.enabledAt t n &&
    decide (s.getF ICU_THRESHOLD [t] ICU_THRESHOLD.THRESHOLD < s.prio n) && decide (x.running < s.prio n) && !s.coreDown (t / 2) && (n == 1 || (decide (x.stack.length < 8) && !x.frozen))

/-- The selection at a target: the highest priority, then the lowest number (R630). -/
def State.selection (s : State) (t : Nat) : Option Nat :=
  (List.range 1024).foldl (fun b n =>
    if s.candidate t n then
      (match b with
        | none => some n
        | some m => if s.prio m < s.prio n then some n else b)
    else b) none

/-- Wake of a core (R633). -/
def State.wakeCore (s : State) (c : Nat) : Bool :=
  !s.coreDown c && (List.range 1024).any (fun n =>
    s.bit ICU_SRC [n] ICU_SRC.PENDING && s.prio n != 0 && (s.enabledAt (2 * c) n || s.enabledAt (2 * c + 1) n))

/-- A source leaves active (R638); when source 1 does, a new SUPER_TGT comes into force (R658). -/
def State.leaveActive (s : State) (n : Nat) : State :=
  let s := (s.setF ICU_SRC [n] ICU_SRC.ACTIVE 0).setF ICU_SRC [n] ICU_SRC.OWNER 0
  let c := s.getF ICU_SRC [n] ICU_SRC.EVCOUNT
  let s := if c ≠ 0 then s.setBit ICU_SRC [n] ICU_SRC.PENDING
    else if s.levelSource n && s.sourceLine n then s.makePending n
    else s
  if n = 1 then { s with icu := { s.icu with superTgt := s.getF ICU_CFG [] ICU_CFG.SUPER_TGT } } else s

/-- A target's stack is emptied and unfrozen, and its sources leave active (R642, R643). -/
def State.emptyStack (s : State) (t : Nat) : State :=
  let l := (s.target t).stack
  l.foldl (fun s e => s.leaveActive e.1) (s.setTarget t {})

/-- A completion-order fault at target t, which wrote source n (R639). -/
def State.orderFault (s : State) (t n : Nat) : State :=
  let x := s.target t
  let s := if s.anyBit ICU_TGT_FAULT [] then s
    else ((s.setF ICU_FAULT_INFO [] ICU_FAULT_INFO.WRITTEN n).setF ICU_FAULT_INFO [] ICU_FAULT_INFO.TOP
      ((x.stack.getLast?.map (fun e => e.1)).getD 0)).setF ICU_FAULT_INFO [] ICU_FAULT_INFO.TARGET t
  let s := s.setTarget t { x with frozen := true }
  (s.setReg ICU_TGT_FAULT [] (s.reg ICU_TGT_FAULT [] ||| BitVec.ofNat 64 (2 ^ t))).logBits 10 ICU_TGT_FAULT [] (2 ^ t)

/-- The result of a register read (R17). -/
def State.readAs (s : State) (v : Word) : State := { s with front := { s.front with readData := v } }

/-! ### Accesses -/

/-- A read of ICU_CLAIM by a core (R634). -/
def State.claim (s : State) (t : Nat) : State :=
  match s.selection t with
  | none => s.readAs 0
  | some n =>
    let v := n + 2 ^ 10 * s.prio n + 2 ^ 16 * s.getF ICU_SRC [n] ICU_SRC.EVCOUNT + 2 ^ 24 * s.getF ICU_SRC [n] ICU_SRC.SAT
    let x := s.target t
    let p := s.prio n
    let s := ((s.setF ICU_SRC [n] ICU_SRC.PENDING 0).setF ICU_SRC [n] ICU_SRC.EVCOUNT 0).setF ICU_SRC [n] ICU_SRC.SAT 0
    let s := (s.setBit ICU_SRC [n] ICU_SRC.ACTIVE).setF ICU_SRC [n] ICU_SRC.OWNER t
    (if n = 1 then s else s.setTarget t { x with stack := x.stack ++ [(n, p)] }).readAs (BitVec.ofNat 64 v)

/-- A write of source n to ICU_COMPLETE of target t by a core (R637, R641) (DEDUCED, log entry 96). -/
def State.completeSource (s : State) (t n : Nat) : State :=
  let x := s.target t
  if n = 1 ∧ s.bit ICU_SRC [1] ICU_SRC.ACTIVE ∧ s.getF ICU_SRC [1] ICU_SRC.OWNER = t then s.leaveActive 1
  else if x.frozen then s
  else match x.stack.getLast? with
    | some e => if e.1 = n then (s.setTarget t { x with stack := x.stack.dropLast }).leaveActive n else s.orderFault t n
    | none => s.orderFault t n

/-- A write to ICU_STACK_RESET by a core (R642). -/
def State.resetStacks (s : State) (v : Nat) : State :=
  (List.range 32).foldl (fun s t =>
    if v.testBit t then
      (s.setReg ICU_TGT_FAULT [] (s.reg ICU_TGT_FAULT [] &&& ~~~ BitVec.ofNat 64 (2 ^ t))).emptyStack t
    else s) s

/-- A write to ICU_SRC (R626, R628): what has happened so far counts under the old priority. -/
def State.writeSrc (s : State) (n v : Nat) : State :=
  if n = 0 ∨ n = 1 ∨ !s.hasSource n then s
  else ((s.sample n).setF ICU_SRC [n] ICU_SRC.PRIO v).levelPend n

/-- A write to ICU_SETPEND (R627). -/
def State.setPend (s : State) (n : Nat) : State := if n = 0 ∨ n = 1 ∨ !s.hasSource n then s else s.trigger n

/-- SUPER_TGT is written (R658). -/
def State.superWritten (s : State) : State :=
  if s.bit ICU_SRC [1] ICU_SRC.ACTIVE then s
  else { s with icu := { s.icu with superTgt := s.getF ICU_CFG [] ICU_CFG.SUPER_TGT } }

end Sys2Proof.Machine
end

