-- ==== Sys2Proof/Machine/ArbOps.lean ====
section
/-! DEFINITION. The event arbiter: stamping, the on-die buffer, the ring and its registers (section 7 of 13_control_die_interrupts.md). -/

namespace Sys2Proof.Machine

/-- The ring is full (R651). -/
def State.evaFull (s : State) : Bool :=
  (s.getF EVA_WR [] EVA_WR.INDEX + 2 ^ 32 - s.getF EVA_RD [] EVA_RD.INDEX) % 2 ^ 32 == 2 ^ s.getF EVA_CFG [] EVA_CFG.LOG2N

/-- STAGED and RING_FULL follow. -/
def State.syncEva (s : State) : State :=
  (s.setF EVA_STATUS [] EVA_STATUS.STAGED s.arb.staged.length).setF EVA_STATUS [] EVA_STATUS.RING_FULL (b2n s.evaFull)

/-- A change of the ring: MSI-X vector 16 fires when the condition of source 2 becomes true with the ring in host memory (R683). -/
def State.evaChange (s : State) (f : State → State) : State :=
  let t := (f s).syncEva
  if !s.evaDue && t.evaDue && t.bit EVA_CFG [] EVA_CFG.HOST then t.fireMsix 16 else t

/-- Records are lost (R646, R653, R654). -/
def State.evaLose (s : State) (n : Nat) : State := (s.incF EVA_LOST [] EVA_LOST.COUNT n).setBit EVA_STATUS [] EVA_STATUS.LOST

/-- Take the next sequence number. -/
def State.takeSeq (s : State) : State × Nat :=
  let n := s.getF EVA_SEQ [] EVA_SEQ.NEXT
  (s.setF EVA_SEQ [] EVA_SEQ.NEXT (n + 1), n)

/-- A record stamped now. -/
def State.stampRec (s : State) (seq : Nat) (e : Ev) : EvRec := ⟨seq, s.getF EVA_TIME [] EVA_TIME.TIME, e⟩

/-- The event of a LOST record (R650, R653). -/
def lostEv (die n first : Nat) : Ev := ⟨die, 0xFFFF_FFFF, 0xFFFF, 0x02, min n 0xFFFF_FFFF + first % 2 ^ 32 * 2 ^ 32⟩

/-- Once there is room again, a LOST record covers what was discarded (R653). -/
def State.coverLost (s : State) : State :=
  if s.arb.lostCount ≠ 0 ∧ s.arb.staged.length < 256 then
    let r := s.takeSeq
    { r.1 with arb := { r.1.arb with
      staged := r.1.arb.staged ++ [s.stampRec r.2 (lostEv 10 s.arb.lostCount s.arb.lostFirst)], lostCount := 0, lostFirst := 0 } }
  else s

/-- An event is stamped, and waits in the on-die buffer or is discarded (R644, R653). -/
def State.stamp (s : State) (e : Ev) : State :=
  let s := s.coverLost
  let r := s.takeSeq
  if s.arb.staged.length < 256 then
    { r.1 with arb := { r.1.arb with staged := r.1.arb.staged ++ [s.stampRec r.2 e] } }
  else
    let a := r.1.arb
    ({ r.1 with arb := { a with lostCount := a.lostCount + 1, lostFirst := if a.lostCount = 0 then r.2 else a.lostFirst } }).evaLose 1

/-- The bytes of a record (R649). -/
def EvRec.bytes (r : EvRec) : List Byte :=
  leBytes 8 r.seq ++ leBytes 8 r.time ++ leBytes 4 r.ev.barno ++ leBytes 2 r.ev.beat ++ leBytes 1 r.ev.die ++ leBytes 1 r.ev.kind ++
  leBytes 8 r.ev.data

/-- A host-memory access can be made (R671). -/
def State.hostReach (s : State) : Bool := s.bit CMD_IF_STATUS [] CMD_IF_STATUS.LINK_UP && s.bit CMD_IF_STATUS [] CMD_IF_STATUS.BME

/-- A C0 reset discards the on-die buffer (R654). -/
def State.arbReset (s : State) : State :=
  let n := s.arb.staged.length
  match s.arb.staged with
  | [] => s
  | r :: _ =>
    let a := s.arb
    ({ s with arb := { a with
      staged := []
      lostCount := a.lostCount + n
      lostFirst := r.seq } }).incF EVA_LOST [] EVA_LOST.COUNT n

/-- Writes to EVA_CFG and EVA_BASE (R660): while enabled, HOST and LOG2N keep their values, and so does the base. -/
def State.writeEvaCfg (s : State) (v : Word) : State :=
  let old := s.reg EVA_CFG []
  let l := fget v EVA_CFG.LOG2N
  let on := fget old EVA_CFG.ENABLE == 1
  let bad := l < 8 || 20 < l || (on && (l != fget old EVA_CFG.LOG2N || fget v EVA_CFG.HOST != fget old EVA_CFG.HOST))
  let v := if on then fset v EVA_CFG.HOST (fget old EVA_CFG.HOST) else v
  let v := if on ∨ l < 8 ∨ 20 < l then fset v EVA_CFG.LOG2N (fget old EVA_CFG.LOG2N) else v
  let v := if fget v EVA_CFG.THRESH = 0 then fset v EVA_CFG.THRESH 1 else v
  s.evaChange (fun s =>
    let s := s.setReg EVA_CFG [] (v &&& EVA_CFG.bitsOf .rw)
    if bad then s.setBit EVA_STATUS [] EVA_STATUS.CFG_IGNORED else s)
def State.writeEvaBase (s : State) (v : Word) : State :=
  if s.bit EVA_CFG [] EVA_CFG.ENABLE then s.setBit EVA_STATUS [] EVA_STATUS.CFG_IGNORED
  else s.setReg EVA_BASE [] (v &&& EVA_BASE.bitsOf .rw)

/-- A write to EVA_RD (R661). -/
def State.writeEvaRd (s : State) (v : Nat) : State :=
  let n := 2 ^ s.getF EVA_CFG [] EVA_CFG.LOG2N
  if (s.getF EVA_WR [] EVA_WR.INDEX + 2 ^ 32 - v % 2 ^ 32) % 2 ^ 32 ≤ n then s.evaChange (fun s => s.setF EVA_RD [] EVA_RD.INDEX v)
  else s.setBit EVA_STATUS [] EVA_STATUS.CFG_IGNORED

end Sys2Proof.Machine
end

