-- ==== Sys2Proof/Machine/Float.lean ====
section
/-! DEFINITION. Floating point of the Presses and of tack ADD: exact values, rounding to a format, the subnormal
modes (R607, R997), NaNs (R996), the formats (R998) and the orders of summation (R608, R609). -/

namespace Sys2Proof.Machine

/-- An exact value: a NaN, a signed infinity, or ± m · 2^e with the sign of a zero kept. -/
inductive FVal where
  | nan
  | inf (neg : Bool)
  | fin (neg : Bool) (m : Nat) (e : Int)
  deriving DecidableEq, Repr

/-- A binary format (R998): exponent and mantissa widths, and whether all-ones exponents hold infinities and NaNs
(all formats but E4M3, whose only NaN is S.1111.111). -/
structure Fmt where
  ew : Nat
  mw : Nat
  bias : Nat
  ieee : Bool
  /-- ACVT saturates to the largest finite value instead of going to infinity (R260). -/
  sat : Bool
  /-- The canonical NaN (R996). -/
  nan : Nat
  deriving DecidableEq, Repr

def fmtFP32 : Fmt := ⟨8, 23, 127, true, false, 0x7FC0_0000⟩
def fmtBF16 : Fmt := ⟨8, 7, 127, true, false, 0x7FC0⟩
def fmtFP16 : Fmt := ⟨5, 10, 15, true, false, 0x7E00⟩
def fmtE4M3 : Fmt := ⟨4, 3, 7, false, true, 0x7F⟩
def fmtE5M2 : Fmt := ⟨5, 2, 15, true, true, 0x7E⟩
/-- IEEE 754 binary64, of tack ADD (R516). -/
def fmtFP64 : Fmt := ⟨11, 52, 1023, true, false, 0x7FF8_0000_0000_0000⟩

/-- The value that an encoding stands for (R998). -/
def Fmt.decode (f : Fmt) (w : Nat) : FVal :=
  let neg := w.testBit (f.ew + f.mw)
  let e := w / 2 ^ f.mw % 2 ^ f.ew
  let m := w % 2 ^ f.mw
  if f.ieee ∧ e = 2 ^ f.ew - 1 then (if m = 0 then .inf neg else .nan)
  else if !f.ieee ∧ e = 2 ^ f.ew - 1 ∧ m = 2 ^ f.mw - 1 then .nan
  else if e = 0 then .fin neg m (1 - (f.bias : Int) - f.mw)
  else .fin neg (2 ^ f.mw + m) ((e : Int) - f.bias - f.mw)

/-- Divide by 2^k, to nearest, ties to even. -/
def rne (m k : Nat) : Nat :=
  let q := m / 2 ^ k
  let r := m % 2 ^ k
  if 2 * r < 2 ^ k then q else if 2 ^ k < 2 * r then q + 1 else if q % 2 = 0 then q else q + 1

/-- A mantissa and its exponent, rounded so that the last place is 2^q with `q ≥ low` and at most `p` bits. -/
def roundMant (p : Nat) (low : Option Int) (m : Nat) (e : Int) : Nat × Int :=
  let q0 := e + (Nat.log2 m + 1 : Nat) - p
  let q := match low with
    | some l => max q0 l
    | none => q0
  let r := if q ≤ e then m * 2 ^ (e - q).toNat else rne m (q - e).toNat
  if r = 2 ^ p then (2 ^ (p - 1), q + 1) else (r, q)

/-- The largest finite encoding, without the sign. -/
def Fmt.maxFin (f : Fmt) : Nat :=
  if f.ieee then (2 ^ f.ew - 1) * 2 ^ f.mw - 1 else 2 ^ (f.ew + f.mw) - 2

/-- The encoding with a sign. -/
def Fmt.signed (f : Fmt) (neg : Bool) (w : Nat) : Nat := (if neg then 2 ^ (f.ew + f.mw) else 0) + w

/-- What an overflow or an infinity becomes (R260). -/
def Fmt.overflow (f : Fmt) (neg : Bool) : Nat :=
  f.signed neg (if f.sat then f.maxFin else (2 ^ f.ew - 1) * 2 ^ f.mw)

/-- Round to a format, to nearest with ties to even (R260, R269); `flush` is FTZ or DAZ_FTZ (R997). -/
def Fmt.round (f : Fmt) (flush : Bool) (v : FVal) : Nat :=
  match v with
  | .nan => f.nan
  | .inf neg => f.overflow neg
  | .fin neg m e =>
    if m = 0 then f.signed neg 0
    else
      let u := roundMant (f.mw + 1) none m e
      if flush ∧ u.2 + f.mw < 1 - (f.bias : Int) then f.signed neg 0
      else
        let r := roundMant (f.mw + 1) (some (1 - (f.bias : Int) - f.mw)) m e
        if r.1 < 2 ^ f.mw then f.signed neg r.1
        else
          let w := (r.2 + f.mw + f.bias).toNat * 2 ^ f.mw + (r.1 - 2 ^ f.mw)
          if f.maxFin < w then f.overflow neg else f.signed neg w

/-- An input element, read as zero when it is subnormal under DAZ_FTZ (R607). -/
def Fmt.input (f : Fmt) (daz : Bool) (w : Nat) : FVal :=
  match f.decode w with
  | .fin neg m e => if daz ∧ w / 2 ^ f.mw % 2 ^ f.ew = 0 then .fin neg 0 e else .fin neg m e
  | v => v

/-- The signed integer m · 2^(e − lo). -/
def scaled (neg : Bool) (m : Nat) (e lo : Int) : Int :=
  let a : Int := (m * 2 ^ (e - lo).toNat : Nat)
  if neg then -a else a

/-- The exact sum; a zero sum is +0 unless both addends are negative zeros. -/
def FVal.add : FVal → FVal → FVal
  | .nan, _ => .nan
  | _, .nan => .nan
  | .inf a, .inf b => if a = b then .inf a else .nan
  | .inf a, _ => .inf a
  | _, .inf b => .inf b
  | .fin a m e, .fin b n g =>
    let lo := min e g
    let t := scaled a m e lo + scaled b n g lo
    if t = 0 then .fin (a && b) 0 lo else .fin (decide (t < 0)) t.natAbs lo

/-- The exact product. -/
def FVal.mul : FVal → FVal → FVal
  | .nan, _ => .nan
  | _, .nan => .nan
  | .inf a, .inf b => .inf (a != b)
  | .inf a, .fin b n _ => if n = 0 then .nan else .inf (a != b)
  | .fin a m _, .inf b => if m = 0 then .nan else .inf (a != b)
  | .fin a m e, .fin b n g => .fin (a != b) (m * n) (e + g)

/-- `a < b` among values that are not NaNs. -/
def FVal.lt : FVal → FVal → Bool
  | .nan, _ => false
  | _, .nan => false
  | .inf a, .inf b => a && !b
  | .inf a, .fin _ _ _ => a
  | .fin _ _ _, .inf b => !b
  | .fin a m e, .fin b n g =>
    let lo := min e g
    decide (scaled a m e lo < scaled b n g lo)

/-- The maximum as VMAX takes it (R269): the non-NaN operand, +0 over −0. -/
def FVal.vmax (x y : FVal) : FVal :=
  match x, y with
  | .nan, y => y
  | x, .nan => x
  | x, y =>
    if x.lt y then y else if y.lt x then x
    else match x with
      | .fin true 0 _ => y
      | _ => x

/-- The arithmetic modes in force (R606). -/
structure FMode where
  acc : Nat
  sub : Nat
  deriving DecidableEq, Repr

/-- Subnormal results are flushed. -/
def FMode.flush (m : FMode) : Bool := m.sub == 1 || m.sub == 2
/-- Subnormal inputs are read as zero. -/
def FMode.daz (m : FMode) : Bool := m.sub == 2

/-- An FP32 input of a vector operation. -/
def FMode.in32 (m : FMode) (w : BitVec 32) : FVal := fmtFP32.input m.daz w.toNat

/-- Round a result to FP32. -/
def FMode.out32 (m : FMode) (v : FVal) : BitVec 32 := BitVec.ofNat 32 (fmtFP32.round m.flush v)

/-- One FP32 addition inside a sum: rounded, then taken on as a value (R608). -/
def FMode.add32 (m : FMode) (x y : FVal) : FVal := fmtFP32.decode (fmtFP32.round m.flush (x.add y))

/-- Add adjacent pairs. -/
def FMode.pairs (m : FMode) : List FVal → List FVal
  | x :: y :: t => m.add32 x y :: m.pairs t
  | l => l

/-- A pairwise tree over 2^n values. -/
def FMode.tree (m : FMode) : Nat → List FVal → FVal
  | 0, l => l.headD (.fin false 0 0)
  | n + 1, l => m.tree n (m.pairs l)

/-- A sequential sum from the first value on. -/
def FMode.seqSum (m : FMode) : List FVal → FVal
  | [] => .fin false 0 0
  | x :: t => t.foldl m.add32 x

/-- Cut a list into chunks of `n`, `fuel` at most. -/
def chunks {α : Type} (n : Nat) : Nat → List α → List (List α)
  | 0, _ => []
  | _ + 1, [] => []
  | fuel + 1, l => l.take n :: chunks n fuel (l.drop n)

/-- The sum of products added to an accumulator value, in the accumulation mode's order (R609). -/
def FMode.accumulate (m : FMode) (a : FVal) (ps : List FVal) : FVal :=
  let sums := if m.acc = 1 then (chunks 4 8 ps).map (m.tree 2)
    else if m.acc = 2 then (chunks 8 4 ps).map m.seqSum
    else [m.tree (Nat.log2 ps.length) ps]
  sums.foldl m.add32 a

/-- VADD, VMUL, VFMA, VMAX on one voice (R269). -/
def FMode.vadd (m : FMode) (x y : BitVec 32) : BitVec 32 := m.out32 ((m.in32 x).add (m.in32 y))
def FMode.vmul (m : FMode) (x y : BitVec 32) : BitVec 32 := m.out32 ((m.in32 x).mul (m.in32 y))
def FMode.vfma (m : FMode) (x y z : BitVec 32) : BitVec 32 :=
  m.out32 (((m.in32 x).mul (m.in32 y)).add (m.in32 z))
def FMode.vmax (m : FMode) (x y : BitVec 32) : BitVec 32 := m.out32 ((m.in32 x).vmax (m.in32 y))

end Sys2Proof.Machine
end

