-- ==== Sys2Proof/Machine/PartCode.lean ====
section
/-! DEFINITION. The words of a part: their decoding (R225 to R228, R254) and the install checks (R229, R231, R313). -/

namespace Sys2Proof.Machine

/-- One instruction of a part, with its operands (R254). -/
inductive PInstr where
  | nop
  | loop (cnt bstep mstep : Nat)
  | endl
  | cuewait (line : Nat)
  | sync
  | bankset (gate : Nat)
  | end_
  | tld (rd : Nat) (x : Bool) (blk : Nat)
  | tst (ra : Nat) (x : Bool) (blk : Nat)
  | tzero (rd : Nat)
  | ttr (rd ra fmt : Nat)
  | azero (ac : Nat)
  | ald (ac : Nat) (x : Bool) (blk : Nat)
  | ast (ac : Nat) (x : Bool) (blk : Nat)
  | acvt (rd ac fmt fl : Nat)
  | mma (ac ra rb fmt mix : Nat)
  | mmas (rb rows fmt : Nat) (x : Bool) (ba bd : Nat) (acc mix : Bool)
  | vset (rd imm : Nat)
  | vld (rd : Nat) (x : Bool) (blk ln : Nat)
  | vst (ra : Nat) (x : Bool) (blk ln : Nat)
  | vadd (rd ra rb : Nat)
  | vmul (rd ra rb : Nat)
  | vfma (rd ra rb rc : Nat)
  | vmax (rd ra rb : Nat)
  | ared (rd ac fl : Nat)
  | avop (ac ra fl : Nat)
  | qld (q nb : Nat) (x : Bool) (blk mblk : Nat)
  | qst (q nb : Nat) (x : Bool) (blk mblk : Nat)
  | qwait (q st n : Nat)
  | rinse (nb : Nat) (x : Bool) (mblk : Nat)
  | cadence
  | tksend (ra tpl : Nat)
  | time (rd : Nat)
  deriving DecidableEq, Repr

/-- Bits [hi:lo] of a word. -/
def bits (w hi lo : Nat) : Nat := w / 2 ^ lo % 2 ^ (hi + 1 - lo)

/-- The operand bits a word may use, as a mask (R227: bits an instruction does not use are reserved). -/
def opMask (op : Nat) : Nat :=
  let f (hi lo : Nat) : Nat := (2 ^ (hi + 1 - lo) - 1) * 2 ^ lo
  let ra := f 51 46
  let rb := f 45 40
  let rd := f 39 34
  let rc := f 33 28
  let ac := f 27 25
  let fmt := f 24 22
  let xblk := f 21 10
  match op with
  | 0x01 => f 51 0
  | 0x03 => f 3 0
  | 0x05 => f 7 0
  | 0x10 => rd + xblk
  | 0x11 => ra + xblk
  | 0x12 => rd
  | 0x13 => ra + rd + fmt
  | 0x18 => ac
  | 0x19 => ac + xblk
  | 0x1A => ac + xblk
  | 0x1B => rd + ac + fmt + f 0 0
  | 0x20 => ra + rb + ac + fmt + f 0 0
  | 0x21 => f 51 10
  | 0x28 => rd + f 31 0
  | 0x29 => rd + xblk + f 9 7
  | 0x2A => ra + xblk + f 9 7
  | 0x2B => rd + ra + rb
  | 0x2C => rd + ra + rb
  | 0x2D => rd + ra + rb + rc
  | 0x2E => rd + ra + rb
  | 0x2F => rd + ac + f 0 0
  | 0x30 => ac + ra + f 0 0
  | 0x38 => f 51 5
  | 0x39 => f 51 5
  | 0x3A => f 51 49 + f 5 0
  | 0x3B => f 51 5
  | 0x40 => ra + f 5 0
  | 0x41 => rd
  | _ => 0

/-- The instruction of an opcode and its operand bits; none for a reserved opcode (R255). -/
def opDecode (op w : Nat) : Option PInstr :=
  let ra := bits w 51 46
  let rb := bits w 45 40
  let rd := bits w 39 34
  let ac := bits w 27 25
  let fmt := bits w 24 22
  let x := w.testBit 21
  let blk := bits w 20 10
  let ln := bits w 9 7
  let fl := bits w 6 0
  match op with
  | 0x00 => some .nop
  | 0x01 => some (.loop (bits w 51 36) (bits w 35 25) (bits w 24 0))
  | 0x02 => some .endl
  | 0x03 => some (.cuewait (bits w 3 0))
  | 0x04 => some .sync
  | 0x05 => some (.bankset (bits w 7 0))
  | 0x06 => some .end_
  | 0x10 => some (.tld rd x blk)
  | 0x11 => some (.tst ra x blk)
  | 0x12 => some (.tzero rd)
  | 0x13 => some (.ttr rd ra fmt)
  | 0x18 => some (.azero ac)
  | 0x19 => some (.ald ac x blk)
  | 0x1A => some (.ast ac x blk)
  | 0x1B => some (.acvt rd ac fmt fl)
  | 0x20 => some (.mma ac ra rb fmt fl)
  | 0x21 => some (.mmas ra (bits w 45 38) (bits w 37 35) (w.testBit 34) (bits w 33 23) (bits w 22 12)
      (w.testBit 11) (w.testBit 10))
  | 0x28 => some (.vset rd (bits w 31 0))
  | 0x29 => some (.vld rd x blk ln)
  | 0x2A => some (.vst ra x blk ln)
  | 0x2B => some (.vadd rd ra rb)
  | 0x2C => some (.vmul rd ra rb)
  | 0x2D => some (.vfma rd ra rb (bits w 33 28))
  | 0x2E => some (.vmax rd ra rb)
  | 0x2F => some (.ared rd ac fl)
  | 0x30 => some (.avop ac ra fl)
  | 0x38 => some (.qld (bits w 51 50) (bits w 49 46) (w.testBit 45) (bits w 44 34) (bits w 33 5))
  | 0x39 => some (.qst (bits w 51 50) (bits w 49 46) (w.testBit 45) (bits w 44 34) (bits w 33 5))
  | 0x3A => some (.qwait (bits w 51 50) (bits w 49 49) (bits w 5 0))
  | 0x3B => some (.rinse (bits w 51 36) (w.testBit 35) (bits w 33 5))
  | 0x3C => some .cadence
  | 0x40 => some (.tksend ra (bits w 5 0))
  | 0x41 => some (.time rd)
  | _ => none

/-- A part word: V, section mask and instruction (R225). -/
structure PWord where
  v : Bool
  sm : Nat
  i : PInstr
  deriving DecidableEq, Repr

/-- Decode a part word; none for a reserved opcode or a reserved bit that is set. Bit 34 of RINSE is reserved: its
format uses [51:35] and [33:5]. -/
def decodeWord (w : Word) : Option PWord :=
  let n := w.toNat
  let op := bits n 62 56
  let body := n % 2 ^ 52
  let mask := if op = 0x3B then opMask op - 2 ^ 34 else opMask op
  if body &&& mask ≠ body then none
  else (opDecode op body).map (fun i => ⟨n.testBit 63, bits n 55 52, i⟩)

/-- Every section executes LOOP, ENDL, END and CADENCE (R226). -/
def PInstr.all : PInstr → Bool
  | .loop _ _ _ => true
  | .endl => true
  | .end_ => true
  | .cadence => true
  | _ => false

/-- The operand rules of R229 that concern one word. `tv` is the V bit of a template, none when it is not valid. -/
def PInstr.operandsOk : PInstr → Bool
  | .tld rd _ _ => decide (rd < 32)
  | .tst ra _ _ => decide (ra < 32)
  | .tzero rd => decide (rd < 32)
  | .ttr rd ra fmt => decide (rd < 32) && decide (ra < 32) && decide (fmt < 2)
  | .acvt rd ac fmt fl =>
    decide (rd < 32) && decide (fmt < 6) && !((fmt == 2 || fmt == 3 || fmt == 4) && ac % 2 == 1) && (fl == 0 || fmt == 5)
  | .mma _ ra rb fmt mix =>
    decide (ra < 32) && decide (rb < 32) && decide (fmt < 5) && (mix == 0 || fmt == 2 || fmt == 3)
  | .mmas rb _ fmt _ _ _ _ mix => decide (rb < 32) && decide (fmt < 5) && (!mix || fmt == 2 || fmt == 3)
  | .qst q _ _ _ _ => decide (q < 2)
  | .qwait q st _ => st == 0 || decide (q < 2)
  | _ => true

/-- Number of sections that a mask names. -/
def smCount (sm : Nat) : Nat := b2n (sm.testBit 0) + b2n (sm.testBit 1) + b2n (sm.testBit 2) + b2n (sm.testBit 3)

/-- One word passes R229 but for its loop structure; `tv` gives each template's V bit (R231, R517). -/
def PWord.ok (tv : Nat → Bool) (w : PWord) : Bool :=
  w.sm != 0 && (!w.i.all || w.sm == 0xF) && w.i.operandsOk &&
  (match w.i with
    | .sync => decide (2 ≤ smCount w.sm)
    | _ => true) &&
  (w.v == match w.i with
    | .time _ => true
    | .tksend _ t => tv t
    | _ => false)

/-- Loops nest, at most four open at once, and each closes (R229). -/
def loopsOk : Nat → List PWord → Bool
  | d, [] => d == 0
  | d, w :: ws => match w.i with
    | .loop _ _ _ => decide (d < 4) && loopsOk (d + 1) ws
    | .endl => decide (0 < d) && loopsOk (d - 1) ws
    | _ => loopsOk d ws

/-- The loop depth at each word, before the word: a word after a LOOP up to its ENDL is inside it (R313). -/
def loopDepths : Nat → List PWord → List Nat
  | _, [] => []
  | d, w :: ws => d :: match w.i with
    | .loop _ _ _ => loopDepths (d + 1) ws
    | .endl => loopDepths (d - 1) ws
    | _ => loopDepths d ws

/-- Decode a whole part; the index of its first bad word otherwise. -/
def decodePart : Nat → List Word → Except Nat (List PWord)
  | _, [] => .ok []
  | i, w :: ws => match decodeWord w with
    | none => .error i
    | some p => (decodePart (i + 1) ws).map (fun l => p :: l)

/-- The first word of a part that breaks R229, none when the part passes. -/
def partFault (tv : Nat → Bool) (ws : List Word) : Option Nat :=
  match decodePart 0 ws with
  | .error i => some i
  | .ok ps =>
    match ps.findIdx? (fun p => !p.ok tv) with
    | some i => some i
    | none =>
      if !loopsOk 0 ps then some 0
      else match ps.getLast? with
        | some p => if p.i = .end_ then none else some (ps.length - 1)
        | none => none

/-- An entry PC is inside the part and inside no LOOP (R313). -/
def entryPcOk (ws : List Word) (pc : Nat) : Bool :=
  match decodePart 0 ws with
  | .error _ => false
  | .ok ps => (loopDepths 0 ps)[pc]? == some 0

end Sys2Proof.Machine
end

