-- ==== Sys2Proof/Machine/PressOps.lean ====
section
/-! DEFINITION. The named operations over Presses and their sections: reading and replacing them, installing a part,
starting, pausing and resuming (04_press.md, sections 6 and 7; 05_press_instructions.md, section 1). -/

namespace Sys2Proof.Machine

/-- The die-and-Press index of the registers of package Press p (R167). -/
def pix (p : Nat) : List Nat := [p / 32, p % 32]
/-- The index of the registers of section k of package Press p. -/
def six (p k : Nat) : List Nat := [p / 32, p % 32, k]

/-- Package Press p. -/
def State.prs (s : State) (p : Nat) : Press := tget {} s.press p
/-- Replace package Press p. -/
def State.setPrs (s : State) (p : Nat) (x : Press) : State := { s with press := tput {} s.press p x }
/-- Section k of package Press p. -/
def State.sect (s : State) (p k : Nat) : Section := tget {} s.sects (4 * p + k)
/-- Replace section k of package Press p. -/
def State.setSect (s : State) (p k : Nat) (x : Section) : State :=
  { s with sects := tput {} s.sects (4 * p + k) x }

/-- A pause is in force on Press p: PRS_CTRL.PAUSE, or SCORE_STOP's (R210, R328). -/
def State.pausing (s : State) (p : Nat) : Bool := s.bit PRS_CTRL (pix p) PRS_CTRL.PAUSE || (s.prs p).stopPause

/-- All four sections of Press p are PAUSED. -/
def State.allPaused (s : State) (p : Nat) : Bool :=
  (List.range 4).all (fun k => (s.sect p k).st == .paused)

/-- Press p is in the Idle power state (PWR_PIDLE). -/
def State.pressIdle (s : State) (p : Nat) : Bool := bitOf (s.reg PWR_PIDLE [p / 32]) (p % 32)

/-- Resume one PAUSED section (R213): what was IDLE is IDLE again, every other section issues on at NEXT; a RINSE or
CADENCE whose action has begun goes on waiting (R239), and a strip goes on at SCT_TSTART. -/
def resumeSection (tstart : Nat) (x : Section) : Section :=
  if x.st = .paused then
    { x with
      st := if x.wasIdle then .idle else if x.wait.begun then .waiting else .running
      wasIdle := false
      row := if x.inStrip then tstart else x.row }
  else x

/-- Resume all four sections of a Press (R213). -/
def State.resumePress (s : State) (p : Nat) : State :=
  (List.range 4).foldl (fun s k => s.setSect p k (resumeSection (s.getF SCT_TSTART (six p k) SCT_TSTART.ROW) (s.sect p k)))
    (s.setPrs p { s.prs p with resumeAfter := false })

/-- All four sections have reached PAUSED: the Press's event bit is set (R212); sections that PAUSE no longer holds
resume together (R214). -/
def State.pauseReached (s : State) (p : Nat) : State :=
  if s.allPaused p then
    let s := s.setReg PRS_DIE_EVENT [p / 32] (s.reg PRS_DIE_EVENT [p / 32] ||| BitVec.ofNat 64 (2 ^ (p % 32)))
    if (s.prs p).resumeAfter && !s.pausing p then s.resumePress p else s
  else s

/-- The section is inside an MMAS of 16 rows or fewer, which completes before the section pauses (R267). -/
def State.shortMmas (s : State) (p k : Nat) : Bool :=
  let x := s.sect p k
  x.inStrip && match decodeWord (tget 0 (s.prs p).part x.pc) with
    | some ⟨_, _, .mmas _ rows _ _ _ _ _ _⟩ => decide (rows < 16)
    | _ => false

/-- One section sees a pause request (R210): IDLE and WAITING sections stop at once, a RUNNING one drains. -/
def pauseSection (shortMmas : Bool) (x : Section) : Section :=
  match x.st with
  | .idle => { x with st := .paused, wasIdle := true }
  | .waiting =>
    if shortMmas then { x with st := .pausing, wait := .none }
    else { x with st := .paused, wait := if x.wait.begun then x.wait else .none }
  | .running => { x with st := .pausing }
  | .pausing => x
  | .paused => x

/-- Inside a strip, SCT_TSTART names the first row that is not complete (R211). -/
def State.stripStart (s : State) (p k : Nat) : State :=
  if (s.sect p k).inStrip then s.setF SCT_TSTART (six p k) SCT_TSTART.ROW (s.sect p k).row else s

/-- The four sections of a Press see a pause request (R210); one that waits inside a strip stops there at once (R211). -/
def State.pausePress (s : State) (p : Nat) : State :=
  if s.allPaused p then s
  else
    ((List.range 4).foldl (fun s k =>
      let x := pauseSection (s.shortMmas p k) (s.sect p k)
      (if (s.sect p k).st == .waiting && x.st == .paused then s.stripStart p k else s).setSect p k x) s).pauseReached p

/-- Installing a part, or a reset of the Press, zeroes every register of its sections, their cue counts and loop
state (R223). The sections are then IDLE; a pause by PRS_CTRL.PAUSE stays in force. -/
def State.clearSections (s : State) (p : Nat) : State :=
  let x : Section := if s.bit PRS_CTRL (pix p) PRS_CTRL.PAUSE then { st := .paused, wasIdle := true } else {}
  (List.range 4).foldl (fun s k => (s.setSect p k x).setF SCT_TSTART (six p k) SCT_TSTART.ROW 0) s

/-- Every package Press of the fitted Press dies. -/
def State.presses (s : State) : List Nat := (List.range 256).filter (fun p => s.hasDie (p / 32))

/-- Reinstall every part from its store and end SCORE_STOP's pause (R333). -/
def State.reinstallParts (s : State) : State :=
  s.presses.foldl (fun s p => (s.setPrs p { s.prs p with stopPause := false, resumeAfter := false }).clearSections p) s

/-- Start the sections of a Press with a part at an entry PC (R224, R313). -/
def State.startPress (s : State) (p pc : Nat) : State :=
  if (s.prs p).words = 0 then s
  else
    (List.range 4).foldl (fun s k =>
      let x := s.sect p k
      s.setSect p k { x with
        st := if s.pausing p then .paused else .running
        wasIdle := false, pc := pc, next := pc, wait := .none, row := 0, inStrip := false }) s

/-- SCORE_STOP pauses every Press that is up (R328). -/
def State.stopPresses (s : State) : State :=
  (s.presses.filter s.pressUp).foldl
    (fun s p => (s.setPrs p { s.prs p with stopPause := true }).pausePress p) s

end Sys2Proof.Machine
end

