-- ==== Sys2Proof/Machine/BoardOps.lean ====
section
/-! DEFINITION. Boards and section registers: Board bytes with their holds and scoreboards, tiles, accumulators and
vector registers (04_press.md, sections 2, 5 and 6; 07_memory.md, R365). -/

namespace Sys2Proof.Machine

/-! ### Boards -/

/-- `n` Board bytes of Press p from Board address `a`, wrapping at the end of the Board (R243). -/
def State.readBoard (s : State) (p a n : Nat) : List Byte := (List.range n).map (fun i => s.mbyte (boardOff p (a + i)))

/-- Lay bytes over a Board from a Board address on, wrapping (R243). -/
def putBoard : List Host.Cell → Nat → Nat → List Byte → List Host.Cell
  | m, _, _, [] => m
  | m, p, a, b :: bs => putBoard (tput 0 m (boardOff p a) b) p (a + 1) bs

/-- Write Board bytes. -/
def State.writeBoard (s : State) (p a : Nat) (bs : List Byte) : State := { s with mem := putBoard s.mem p a bs }

/-- The blocks that `n` Board bytes from `a` touch (R192). -/
def blocksOf (a n : Nat) : List Nat := (List.range ((a % 512 + n + 511) / 512)).map (fun i => (a / 512 + i) % 2048)

/-- The hold count of a block (R197). -/
def State.holdCount (s : State) (p b : Nat) : Nat := tget 0 (s.prs p).holds b

/-- A write of `n` bytes at `a` waits on a hold (R200). -/
def State.heldRange (s : State) (p a n : Nat) : Bool := (blocksOf a n).any (fun b => s.holdCount p b != 0)

/-- PRS_HOLDS follows the hold counts (R197, PRS_HOLDS). -/
def State.syncHolds (s : State) (p : Nat) : State :=
  (s.setF PRS_HOLDS (pix p) PRS_HOLDS.HELD_BLOCKS (s.prs p).holds.length).setF PRS_HOLDS (pix p) PRS_HOLDS.HOLDS (s.prs p).holdN

/-- Place the hold of a bolt whose payload is `n` bytes from block `b` on (R197, R198). -/
def State.placeHold (s : State) (p b n : Nat) : State :=
  let x := s.prs p
  (s.setPrs p { x with holdN := x.holdN + 1
                       holds := (blocksOf (512 * b) n).foldl (fun t i => tput 0 t i (tget 0 t i + 1)) x.holds }).syncHolds p

/-- Release the hold of a bolt (R197, R199). -/
def State.dropHold (s : State) (p b n : Nat) : State :=
  let x := s.prs p
  (s.setPrs p { x with holdN := x.holdN - 1
                       holds := (blocksOf (512 * b) n).foldl (fun t i => tput 0 t i (tget 0 t i - 1)) x.holds }).syncHolds p

/-- A queued load of Press p has not yet written block b (R365). -/
def State.loadPend (s : State) (p b : Nat) : Bool :=
  (List.range 4).any (fun q => (tget [] s.queues (8 * p + q)).any (fun r => !r.done && r.bblk == b))

/-- A queued store of Press p has not yet read block b (R365). -/
def State.storePend (s : State) (p b : Nat) : Bool :=
  [4, 5].any (fun q => (tget [] s.queues (8 * p + q)).any (fun r => r.data.isNone && r.bblk == b))

/-- A section read of these bytes waits on the scoreboard (R253, R365). -/
def State.readWaits (s : State) (p a n : Nat) : Bool := (blocksOf a n).any (s.loadPend p)

/-- A section write to these bytes waits on the scoreboards (R253, R365). -/
def State.writeWaits (s : State) (p a n : Nat) : Bool := (blocksOf a n).any (fun b => s.loadPend p b || s.storePend p b)

/-! ### Section registers -/

/-- The 512 bytes of Tn (R172). -/
def Section.tile (x : Section) (n : Nat) : List Byte := (List.range 512).map (fun i => tget 0 x.tiles (512 * n + i))

/-- Lay bytes over a table of bytes from a key on. -/
def putTile : Table Byte → Nat → List Byte → Table Byte
  | t, _, [] => t
  | t, i, b :: bs => putTile (tput 0 t i b) (i + 1) bs

/-- Write the 512 bytes of Tn. -/
def Section.setTile (x : Section) (n : Nat) (bs : List Byte) : Section := { x with tiles := putTile x.tiles (512 * n) bs }

/-- Element (r, c) of An (R174). -/
def Section.accAt (x : Section) (n r c : Nat) : BitVec 32 := tget 0 x.acc (256 * n + 16 * r + c)

/-- Lay 32-bit values over a table from a key on. -/
def putWords32 : Table (BitVec 32) → Nat → List (BitVec 32) → Table (BitVec 32)
  | t, _, [] => t
  | t, i, b :: bs => putWords32 (tput 0 t i b) (i + 1) bs

/-- Write the 256 elements of An, row by row. -/
def Section.setAcc (x : Section) (n : Nat) (vs : List (BitVec 32)) : Section := { x with acc := putWords32 x.acc (256 * n) vs }

/-- Voice v of Vn (R175). -/
def Section.voice (x : Section) (n v : Nat) : BitVec 32 := tget 0 x.vec (16 * n + v)

/-- Write the 16 voices of Vn. -/
def Section.setVec (x : Section) (n : Nat) (vs : List (BitVec 32)) : Section := { x with vec := putWords32 x.vec (16 * n) vs }

/-- A 32-bit value at byte i of a list. -/
def w32At (bs : List Byte) (i : Nat) : BitVec 32 := BitVec.ofNat 32 (leAt bs i 4)

/-- The 256 elements of a 16 × 16 accumulator, row by row. -/
def each256 (f : Nat → Nat → BitVec 32) : List (BitVec 32) := (List.range 256).map (fun i => f (i / 16) (i % 16))

/-- The 16 voices of a vector register. -/
def each16 (f : Nat → BitVec 32) : List (BitVec 32) := (List.range 16).map f

/-! ### Formats -/

/-- The floating-point format of a code (R228); FP32 stands for the codes that are not floating point. -/
def fmtOf (code : Nat) : Fmt :=
  if code = 0 then fmtBF16 else if code = 1 then fmtFP16 else if code = 2 then fmtE4M3 else if code = 3 then fmtE5M2 else fmtFP32

/-- Bytes of one element (R173). -/
def fmtBytes (code : Nat) : Nat := if code ≤ 1 then 2 else if code = 5 then 4 else 1

/-- Products per output element (R261). -/
def fmtK (code : Nat) : Nat := if code ≤ 1 then 16 else 32

/-- Element i of a 32-byte row in a format. -/
def elemAt (row : List Byte) (code i : Nat) : Nat := leAt row (fmtBytes code * i) (fmtBytes code)

/-- The other FP8 encoding, for MIX (R262). -/
def mixFmt (code : Nat) (mix : Bool) : Nat := if mix then 5 - code else code

/-- The modes in force (R606): GLB_REPRO_PROFILE. -/
def State.fmode (s : State) : FMode :=
  ⟨s.getF GLB_REPRO_PROFILE [] GLB_REPRO_PROFILE.ACCUM, s.getF GLB_REPRO_PROFILE [] GLB_REPRO_PROFILE.SUBNORM⟩

/-- One output of MMA or of an MMAS row: the old value plus the sum of products of two 32-byte rows (R261 to R263,
R265, R608 to R610). The old value is an input too (DEDUCED, log entry 106). -/
def FMode.dot (m : FMode) (code : Nat) (mix : Bool) (old : BitVec 32) (a b : List Byte) : BitVec 32 :=
  if code = 4 then
    BitVec.ofInt 32 ((List.range 32).foldl (fun (t : Int) k => t + sx 8 (elemAt a 4 k) * sx 8 (elemAt b 4 k)) old.toInt)
  else
    let fb := mixFmt code mix
    m.out32 (m.accumulate (m.in32 old) ((List.range (fmtK code)).map (fun k =>
      ((fmtOf code).input m.daz (elemAt a code k)).mul ((fmtOf fb).input m.daz (elemAt b fb k)))))

/-- One element of ACVT (R259, R260): from an FP32 value, or from an INT32 value to INT8. -/
def FMode.convert (m : FMode) (code : Nat) (v : BitVec 32) : Nat :=
  if code = 4 then (BitVec.ofInt 8 (max (-128) (min 127 v.toInt))).toNat
  else (fmtOf code).round m.flush (m.in32 v)

end Sys2Proof.Machine
end

