-- ==== Sys2Proof/Machine/Linens.lean ====
section
/-! DEFINITION. The Linen pool of a Mangle die: taking, releasing and handing over linens, and skids with their HOLD decision
(17_books_notices.md, section 2; 09_score_plane.md, R477 to R480). -/

namespace Sys2Proof.Machine

/-- Linens of the shared remainder (R792). -/
def linRemainder : Nat := 11328

/-- Linens of the remainder that are free: neither drawn nor on their way back to it (R795, R796). -/
def State.remFree (s : State) (m : Nat) : Nat :=
  linRemainder - ((List.range 6).map (fun c => s.getF LIN_CHAN [m, c] LIN_CHAN.DRAWN)).foldl (· + ·) 0 -
    (s.books.linTransit.filter (fun x => x.1 == m && x.2.2)).length

/-- Linens of a channel's reservation that are on their way back to it. -/
def State.resTransit (s : State) (m c : Nat) : Nat :=
  (s.books.linTransit.filter (fun x => x.1 == m && x.2.1 == c && !x.2.2)).length

/-- Move linens among the pool's states: `FREE`, `ALLOC`, `TRANSIT` and the peak of `ALLOC`. -/
def State.linMove (s : State) (m : Nat) (f a t : Nat) : State :=
  ((((s.setF LIN_POOL [m] LIN_POOL.FREE f).setF LIN_POOL [m] LIN_POOL.ALLOC a).setF LIN_POOL [m] LIN_POOL.TRANSIT t).peakF
    LIN_PEAK [m] LIN_PEAK.PEAK a)

/-- The peak of a channel follows USED + DRAWN. -/
def State.chanPeak (s : State) (m c : Nat) : State :=
  s.peakF LIN_CHAN [m, c] LIN_CHAN.PEAK (s.getF LIN_CHAN [m, c] LIN_CHAN.USED + s.getF LIN_CHAN [m, c] LIN_CHAN.DRAWN)

/-- One linen is taken (R796): true when it comes from the reservation; none when the channel can take none. -/
def State.linTake (s : State) (m c : Nat) : Option (State × Bool) :=
  let fr := s.getF LIN_POOL [m] LIN_POOL.FREE
  let al := s.getF LIN_POOL [m] LIN_POOL.ALLOC
  let tr := s.getF LIN_POOL [m] LIN_POOL.TRANSIT
  if c < 6 ∧ s.getF LIN_CFG [m] LIN_CFG.FLOOR < s.remFree m then
    some ((((s.setF LIN_CHAN [m, c] LIN_CHAN.DRAWN (s.getF LIN_CHAN [m, c] LIN_CHAN.DRAWN + 1)).linMove m (fr - 1) (al + 1) tr).chanPeak m c), false)
  else if s.getF LIN_CHAN [m, c] LIN_CHAN.USED + s.resTransit m c < s.getF LIN_CHAN [m, c] LIN_CHAN.RESERVED then
    some ((((s.setF LIN_CHAN [m, c] LIN_CHAN.USED (s.getF LIN_CHAN [m, c] LIN_CHAN.USED + 1)).linMove m (fr - 1) (al + 1) tr).chanPeak m c), true)
  else none

/-- One linen is released and goes into transit (R795): to the remainder while the channel has drawn any. The result tells
whether it came from the reservation. -/
def State.linRelease (s : State) (m c : Nat) : State × Bool :=
  let fr := s.getF LIN_POOL [m] LIN_POOL.FREE
  let al := s.getF LIN_POOL [m] LIN_POOL.ALLOC
  let tr := s.getF LIN_POOL [m] LIN_POOL.TRANSIT
  let drawn := decide (0 < s.getF LIN_CHAN [m, c] LIN_CHAN.DRAWN)
  let s := if drawn then s.setF LIN_CHAN [m, c] LIN_CHAN.DRAWN (s.getF LIN_CHAN [m, c] LIN_CHAN.DRAWN - 1)
    else s.setF LIN_CHAN [m, c] LIN_CHAN.USED (s.getF LIN_CHAN [m, c] LIN_CHAN.USED - 1)
  let s := { s with books := { s.books with linTransit := s.books.linTransit ++ [(m, c, drawn)] } }
  (s.linMove m fr (al - 1) (tr + 1), !drawn)

/-- Take up to `n` linens; how many could not be taken. -/
def State.linTakes (m c : Nat) : Nat → State → State × Nat
  | 0, s => (s, 0)
  | n + 1, s => match s.linTake m c with
    | some (s, _) => State.linTakes m c n s
    | none => (s, n + 1)

/-- Release `n` linens. -/
def State.linReleases (m c : Nat) : Nat → State → State
  | 0, s => s
  | n + 1, s => State.linReleases m c n (s.linRelease m c).1

/-- The dynamic state of link l, and of Seam port q of die d. -/
def State.lnkDyn (s : State) (l : Nat) : LinkDyn := tget {} s.lk l
def State.setLnkDyn (s : State) (l : Nat) (x : LinkDyn) : State := { s with lk := tput {} s.lk l x }
def State.seamDyn (s : State) (d q : Nat) : SeamDyn := tget {} s.seams (4 * d + q)
def State.setSeamDyn (s : State) (d q : Nat) (x : SeamDyn) : State := { s with seams := tput {} s.seams (4 * d + q) x }

/-- The headroom of a link's skid (R477): L + raw + 16, with L = raw on a link without a class. -/
def State.headroom (s : State) (l : Nat) : Nat :=
  let raw := s.getF LNK_LATENCY (lnk l) LNK_LATENCY.RAW
  let cls := s.getF LNK_STATUS (lnk l) LNK_STATUS.CLASS
  (if cls = 0 then 256 else if cls = 1 then 1024 else raw) + raw + 16

/-- The guaranteed reservation of a link's skid (R477). -/
def State.skidReservation (s : State) (l : Nat) : Nat := (s.headroom l + 132 + 3) / 4

/-- Skid linens one by one: `n` more are taken for link l. -/
def State.skidGrow (l : Nat) : Nat → State → State × Nat
  | 0, s => (s, 0)
  | n + 1, s => match s.linTake (8 + l / 6) (l % 6) with
    | some (s, res) =>
      let x := s.lnkDyn l
      State.skidGrow l n (s.setLnkDyn l { x with skidRes := x.skidRes + b2n res })
    | none => (s, n + 1)

/-- Skid linens one by one: `n` are released. -/
def State.skidShrink (l : Nat) : Nat → State → State
  | 0, s => s
  | n + 1, s =>
    let r := s.linRelease (8 + l / 6) (l % 6)
    let x := r.1.lnkDyn l
    State.skidShrink l n (r.1.setLnkDyn l { x with skidRes := x.skidRes - b2n r.2 })

/-- The HOLD decision of a link's skid (R478, R793): raised while no more than a quarter of HR linens of its reservation are
unused, dropped at 64 flits or fewer. -/
def State.decideHold (s : State) (l : Nat) : State :=
  let x := s.lnkDyn l
  let res := s.skidReservation l
  let low := decide (res - x.skidRes ≤ (s.headroom l + 3) / 4)
  s.setLnkDyn l { x with holdTx := if decide (0 < x.skid) && low then true else if x.skid ≤ 64 then false else x.holdTx }

/-- A link's skid shows `obs` (R472, R478, R480): its linens follow its flits, its peak, stalls and HOLD beats are counted; a
flit that finds no linen is discarded and sets SKID_OVF. The result tells whether a flit was lost. -/
def State.linkSkid (s : State) (l : Nat) (obs : SkidObs) : State × Bool :=
  let d := 8 + l / 6
  let j := l % 6
  let x := s.lnkDyn l
  let old := (x.skid + 3) / 4
  let new := (obs.occ + 3) / 4
  let s := (s.incF BLT_LSTALL [d, j] BLT_LSTALL.COUNT obs.stall).incF LNK_HOLD_SENT (lnk l) LNK_HOLD_SENT.COUNT obs.sent
  let r := if old ≤ new then State.skidGrow l (new - old) s else (State.skidShrink l (old - new) s, 0)
  let occ := obs.occ - 4 * r.2
  let s := r.1.setLnkDyn l { r.1.lnkDyn l with skid := occ }
  let s := (s.peakF BLT_LSKID_PEAK [d, j] BLT_LSKID_PEAK.PEAK (min 4095 occ)).decideHold l
  if r.2 = 0 then (s, false) else (s.setLogged d BLT_MFAULT [d] BLT_MFAULT.SKID_OVF, true)

/-- A Seam skid shows `obs` (R472, R479, R480): 256 flits, HOLD raised at 120 and dropped at 32. -/
def State.seamSkid (s : State) (d q : Nat) (obs : SkidObs) : State × Bool :=
  let x := s.seamDyn d q
  let occ := min 256 obs.occ
  let s := s.setSeamDyn d q { x with skid := occ, holdTx := if 120 ≤ occ then true else if occ ≤ 32 then false else x.holdTx }
  let s := s.incF SEAM_HOLD_SENT [d, q] SEAM_HOLD_SENT.COUNT obs.sent
  let s := if d < 8 then (s.incF BLT_STALL [d, q] BLT_STALL.COUNT obs.stall).peakF BLT_SKID_PEAK [d, q] BLT_SKID_PEAK.PEAK occ
    else (s.incF BLT_STALL_M [d, q] BLT_STALL_M.COUNT obs.stall).peakF BLT_SKID_PEAK_M [d, q] BLT_SKID_PEAK_M.PEAK occ
  if obs.occ ≤ 256 then (s, false)
  else if d < 8 then (s.setLogged d BLT_PFAULT [d] BLT_PFAULT.SKID_OVF, true)
  else (s.setLogged d BLT_MFAULT [d] BLT_MFAULT.SKID_OVF, true)

/-- LINEN_HANDOVER (R795): the oldest linen in transit of a Mangle die becomes free. -/
def execLinenHandover (m : Fin 2) (s : State) : Host.Outcome State Fault Refusal :=
  .next (
    let d := 8 + (m : Nat)
    if s.books.linTransit.any (fun x => x.1 == d) then
      let s := { s with books := { s.books with linTransit := dropFirst (fun x => x.1 == d) s.books.linTransit } }
      s.linMove d (s.getF LIN_POOL [d] LIN_POOL.FREE + 1) (s.getF LIN_POOL [d] LIN_POOL.ALLOC)
        (s.getF LIN_POOL [d] LIN_POOL.TRANSIT - 1)
    else s)

end Sys2Proof.Machine
end

