-- ==== Sys2Proof/Machine/DeskCode.lean ====
section
/-! DEFINITION. Desk entries as bytes (R298 to R304), and the rules one desk obeys (R299 to R303, R310, R461). -/

namespace Sys2Proof.Machine

/-- Bytes i to i + n − 1 are all 0. -/
def zeros (b : List Byte) (i n : Nat) : Bool := (slice b i n).all (fun x => x == 0)

/-- One desk entry of 32 bytes (R298); none when TYPE is unknown or a reserved byte or bit is set. -/
def parseEntry (b : List Byte) : Option DeskEntry :=
  let n (i k : Nat) : Nat := leAt b i k
  let ty := n 0 1
  if ty = 0x00 then (if zeros b 1 31 then some .nop else none)
  else if ty = 0x01 then
    if n 1 1 < 2 ∧ zeros b 2 2 ∧ zeros b 9 23 ∧ n 8 1 < 64 then some (.rest (n 1 1 == 1) (n 4 4) (n 8 1)) else none
  else if ty = 0x02 then
    if zeros b 1 3 ∧ zeros b 6 2 ∧ zeros b 16 16 ∧ n 12 2 < 2048 ∧ n 14 2 < 2048 then
      some (.repeat_ (n 4 2) (n 8 4) (n 12 2) (n 14 2)) else none
  else if ty = 0x03 then (if zeros b 1 31 then some .fine else none)
  else if ty = 0x08 then
    if n 1 1 < 4 ∧ n 10 2 < 4096 ∧ zeros b 16 16 then
      some (.tempo (n 1 1 % 2 == 1) (2 ≤ n 1 1) (n 2 1) (n 3 1) (n 4 2) (n 6 2) (n 8 1) (n 9 1) (n 10 2) (n 12 4))
    else none
  else if ty = 0x10 then
    if 2 ≤ n 1 1 ∧ n 1 1 < 4 then
      (if n 1 1 = 2 ∧ zeros b 5 27 then some (.take (n 2 2) (n 4 1)) else none)
    else if n 1 1 < 2 ∧ n 5 1 < 64 ∧ n 6 2 < 2048 ∧ n 8 1 < 128 ∧ n 10 2 < 4096 ∧ zeros b 15 1 ∧ n 16 2 < 2048 ∧
        zeros b 22 10 then
      some (.send (n 1 1 == 1) (n 2 2) (n 4 1) (n 5 1 % 8) (n 5 1 / 8) (n 6 2) (n 8 1) (n 9 1) (n 10 2) (n 12 2)
        (n 14 1) (n 16 2) (n 18 4))
    else none
  else if ty = 0x20 then
    let nt := n 9 1
    if zeros b 1 1 ∧ zeros b 16 16 ∧ nt < 3 ∧ (nt ≠ 0 ∨ zeros b 10 3) ∧ (nt = 2 ∨ zeros b 13 3) then
      some (.cue (n 2 2) (n 4 4) (n 8 1 % 16) (n 8 1 / 16)
        (if nt = 0 then [] else if nt = 1 then [(n 10 1, n 11 2)] else [(n 10 1, n 11 2), (n 13 1, n 14 2)]))
    else none
  else if ty = 0x30 then (if zeros b 1 1 ∧ zeros b 5 27 then some (.fermata (n 2 2) (n 4 1)) else none)
  else if ty = 0x31 then
    if zeros b 1 3 ∧ zeros b 5 1 ∧ zeros b 8 24 then some (.patchpoint (n 4 1) (n 6 2)) else none
  else none

/-- Parse entries in order; the index of the first bad one otherwise. -/
def parseEntries : Nat → List (List Byte) → Except Nat (List DeskEntry)
  | _, [] => .ok []
  | i, b :: bs => match parseEntry b with
    | none => .error i
    | some e => (parseEntries (i + 1) bs).map (fun l => e :: l)

/-- The BEAT of an entry that has one. -/
def DeskEntry.beat : DeskEntry → Option Nat
  | .send _ b _ _ _ _ _ _ _ _ _ _ _ => some b
  | .take b _ => some b
  | .cue b _ _ _ _ => some b
  | .fermata b _ => some b
  | _ => none

/-- The fields of a TEMPO entry as Score time. -/
def DeskEntry.toTempo : DeskEntry → Option Tempo
  | .tempo ru fb rg k d an fl gl sl fs =>
    some { k := k, d64 := d, rubato := ru, fallbackAct := fb, region := rg, anchorChip := an, fermLead := fl
           gateLimit := gl, slice := sl, fineSbar := fs }
  | _ => none

/-- Hops of a route, by dimension (R460). -/
def routeH (r dim : Nat) : Nat := r / 2 ^ (6 * dim) % 32
def routeNeg (r dim : Nat) : Bool := r.testBit (6 * dim + 5)
def routeIdx (r dim : Nat) : Nat := b2n (r.testBit (18 + dim))
def routeMc (r : Nat) : Bool := r.testBit 21

/-- All hops of a route. -/
def routeHops (r : Nat) : Nat := routeH r 0 + routeH r 1 + routeH r 2

/-- The first dimension with hops. -/
def routeDim (r : Nat) : Option Nat := [0, 1, 2].find? (fun d => routeH r d != 0)

/-- The last dimension with hops: the line dimension of a multicast (R468). -/
def routeLine (r : Nat) : Nat := if routeH r 2 ≠ 0 then 2 else if routeH r 1 ≠ 0 then 1 else 0

/-- The link (R163) of the next hop of a route. -/
def routeLink (r : Nat) : Option Nat :=
  (routeDim r).map (fun d => 6 * routeIdx r d + 2 * d + b2n (routeNeg r d))

/-- One hop less in the dimension of the next hop (R462). -/
def routeStep (r : Nat) : Nat :=
  match routeDim r with
  | none => r
  | some d => r - 2 ^ (6 * d)

/-- E, the first beat of the darning window (R56). -/
def Tempo.e (t : Tempo) : Nat := 2 ^ t.k - 64 * t.d64

/-- The facts about the package that entry checks need. -/
structure DeskEnv where
  die : Nat
  rank : Nat
  tempo : Tempo
  anchorHere : Bool
  links : List LinkCfg

/-- The send rules of R302, R461 and R103. -/
def DeskEnv.sendOk (v : DeskEnv) (beat src slot width lines drank route : Nat) : Bool :=
  let cfg := ((routeLink route).bind (fun l => v.links[l]?)).getD {}
  decide (v.die < 8) && decide (src < 32) && decide (slot < 5) && decide (1 ≤ width) && decide (slot + width ≤ 5) &&
  (width == 1 || drank == v.rank) &&
  decide (1 ≤ beat) && decide (beat + 2 + lines ≤ v.tempo.e) &&
  decide (route < 2 ^ 22) &&
  [0, 1, 2].all (fun d => routeH route d != 0 || !routeNeg route d) &&
  (route == 0) == (drank == v.rank) &&
  !((v.tempo.rubato || cfg.role == 2) && decide (1 < routeHops route))

/-- One entry obeys the field and desk rules (R298, R302, R317, R461); `tempo` entries are checked apart. -/
def DeskEnv.entryOk (v : DeskEnv) : DeskEntry → Bool
  | .nop => true
  | .rest sv n sl => decide (1 ≤ n) && (!sv || decide (8 ≤ v.die)) && (sv || sl == 0)
  | .repeat_ t _ _ _ => decide (1 ≤ t)
  | .fine => true
  | .tempo _ _ _ _ _ _ _ _ _ _ => true
  | .send _ b src slot width _ lines _ _ drank _ _ route => v.sendOk b src slot width lines drank route
  | .take b l => (v.die == 8 || v.die == 9) && decide (l < 6) && decide (b < 2 ^ v.tempo.k)
  | .cue b pm _ sm conds =>
    decide (v.die < 8) && pm != 0 && sm != 0 && decide (b < 2 ^ v.tempo.k) && conds.all (fun c => decide (1 ≤ c.2))
  | .fermata b _ => v.die == 8 && v.anchorHere && decide (b < 2 ^ v.tempo.k)
  | .patchpoint _ n => decide (1 ≤ n) && decide (n < 32768)

/-- An entry closes its bar (R298). -/
def DeskEntry.closes : DeskEntry → Bool
  | .rest _ _ _ => true
  | .repeat_ _ _ _ _ => true
  | .fine => true
  | _ => false

/-- BEAT never falls within a bar and at most eight entries share one (R300): the first entry that breaks it. -/
def beatFault : Nat → Nat → Nat → List DeskEntry → Option Nat
  | _, _, _, [] => none
  | i, last, run, e :: es =>
    if e.closes then beatFault (i + 1) 0 0 es
    else match e.beat with
      | none => beatFault (i + 1) last run es
      | some b =>
        if b < last then some i
        else if b = last ∧ 8 ≤ run then some i
        else beatFault (i + 1) b (if b = last then run + 1 else 1) es

/-- The entry at index i is the first of its bar: it follows TEMPO or a closing entry. -/
def firstOfBar (d : List DeskEntry) (i : Nat) : Bool :=
  i == 1 || (decide (1 < i) && match d[i - 1]? with
    | some e => e.closes
    | none => false)

/-- The repeats of a desk: index and target. -/
def repeatsOf : Nat → List DeskEntry → List (Nat × Nat)
  | _, [] => []
  | i, .repeat_ _ t _ _ :: es => (i, t) :: repeatsOf (i + 1) es
  | i, _ :: es => repeatsOf (i + 1) es

/-- Repeats nest, at most four open at once, and each target begins a bar at or before it (R303). -/
def repeatsOk (d : List DeskEntry) : Bool :=
  let rs := repeatsOf 0 d
  rs.all (fun r => decide (r.2 ≤ r.1) && firstOfBar d r.2 &&
    rs.all (fun q => !(decide (q.1 < r.1)) || decide (r.2 ≤ q.2) || decide (q.1 < r.2)) &&
    decide ((rs.filter (fun q => decide (q.2 ≤ r.1) && decide (r.1 ≤ q.1))).length ≤ 4))

/-- The patchpoints of a desk: index, ID and LEN. -/
def patchpointsOf : Nat → List DeskEntry → List (Nat × Nat × Nat)
  | _, [] => []
  | i, .patchpoint id n :: es => (i, id, n) :: patchpointsOf (i + 1) es
  | i, _ :: es => patchpointsOf (i + 1) es

/-- Each PATCHPOINT begins its bar and its region closes one, with no TEMPO, FINE or PATCHPOINT in it and every
repeat's target inside (R304); IDs are unique. -/
def patchpointsOk (d : List DeskEntry) : Bool :=
  let ps := patchpointsOf 0 d
  ps.all (fun p =>
    let es := (d.drop (p.1 + 1)).take p.2.2
    firstOfBar d p.1 && es.length == p.2.2 &&
    (match es.getLast? with
      | some e => e.closes
      | none => false) &&
    es.all (fun e => match e with
      | .tempo _ _ _ _ _ _ _ _ _ _ => false
      | .fine => false
      | .patchpoint _ _ => false
      | .repeat_ _ t _ _ => decide (p.1 < t)
      | _ => true) &&
    (ps.filter (fun q => q.2.1 == p.2.1)).length == 1)

/-- Closing entries before index i. -/
def closingsBefore (d : List DeskEntry) (i : Nat) : Nat := ((d.take i).filter DeskEntry.closes).length

/-- One step of the bar plan (R301). -/
inductive PlanStep where
  | rest (n : Nat)
  | again (times target : Nat)
  | fine
  | patch (id bars : Nat)
  deriving DecidableEq, Repr

/-- The bar plan of a desk: what it closes and where, in bars (R301). -/
def planOf (d : List DeskEntry) : List PlanStep :=
  (d.zipIdx).filterMap (fun x => match x.1 with
    | .rest _ n _ => some (.rest n)
    | .repeat_ t g _ _ => some (.again t (closingsBefore d g))
    | .fine => some .fine
    | .patchpoint id n => some (.patch id (((d.drop (x.2 + 1)).take n).filter DeskEntry.closes).length)
    | _ => none)

/-- The Score bar in which each closing of a plan is first reached (R57, R298, R307), in order. -/
def barsOf : List Nat → List PlanStep → List Nat
  | acc, [] => acc
  | acc, .rest n :: ps => barsOf (acc ++ [acc.getLastD 0 + n]) ps
  | acc, .again t g :: ps =>
    let now := acc.getLastD 0
    let from_ := acc.getD g 0
    barsOf (acc ++ [from_ + (t + 1) * (now + 1 - from_)]) ps
  | acc, .fine :: ps => barsOf acc ps
  | acc, .patch _ _ :: ps => barsOf acc ps

/-- The Score bars of a desk: entry j is the bar that begins after j closings. -/
def scoreBars (d : List DeskEntry) : List Nat := barsOf [0] (planOf d)

/-- The restart points of a desk (R310): Score bar 0 at entry 1, and each PATCHPOINT's bar outside every repeat. -/
def restartPoints (d : List DeskEntry) (pcs : Nat → List Nat) : List RestartPt :=
  let rs := repeatsOf 0 d
  let bars := scoreBars d
  ⟨0, 1, none, []⟩ :: (patchpointsOf 0 d).filterMap (fun p =>
    if rs.any (fun r => decide (r.2 ≤ p.1) && decide (p.1 ≤ r.1)) then none
    else
      let b := bars.getD (closingsBefore d p.1) 0
      if b = 0 then none else some ⟨b % 2 ^ 32, p.1, some p.2.1, pcs p.2.1⟩)

end Sys2Proof.Machine
end

