-- ==== Sys2Proof/Machine/Topo.lean ====
section
/-! DEFINITION. The Seam mesh and the paths inside a package (R29, R30, R356, R357, R463, R466). Dies are indexed as
R165: 0–7 P0–P7, 8 M0, 9 M1, 10 C0, 11 E0. -/

namespace Sys2Proof.Machine

/-- The far end of each Seam port of a die, ports in order; 15 where nothing is connected (R29). -/
def seamFar (d : Nat) : List (Nat × Nat) :=
  match d with
  | 0 => [(8, 0), (1, 0), (4, 2), (15, 0)]
  | 1 => [(0, 1), (2, 0), (5, 2), (10, 0)]
  | 2 => [(1, 1), (3, 0), (6, 2), (11, 0)]
  | 3 => [(2, 1), (9, 0), (7, 2), (15, 0)]
  | 4 => [(8, 1), (5, 0), (0, 2), (15, 0)]
  | 5 => [(4, 1), (6, 0), (1, 2), (10, 1)]
  | 6 => [(5, 1), (7, 0), (2, 2), (11, 1)]
  | 7 => [(6, 1), (9, 1), (3, 2), (15, 0)]
  | 8 => [(0, 0), (4, 0)]
  | 9 => [(3, 1), (7, 1)]
  | 10 => [(1, 3), (5, 3)]
  | 11 => [(2, 3), (6, 3)]
  | _ => []

/-- The Seams in the order of R30: the die and port each is named after. -/
def seamNames : List (Nat × Nat) :=
  [(0, 0), (0, 1), (0, 2), (1, 1), (1, 2), (1, 3), (2, 1), (2, 2), (2, 3), (3, 1), (3, 2), (4, 0), (4, 1), (5, 1),
   (5, 3), (6, 1), (6, 3), (7, 1)]

/-- The port of die `a` that faces die `b`. -/
def portTo (a b : Nat) : Option Nat := (seamFar a).findIdx? (fun x => x.1 == b)

/-- Row and column of a Press die (section 2 of 01_package.md). -/
def rowOf (d : Nat) : Nat := d / 4
def colOf (d : Nat) : Nat := d % 4

/-- From Press die `a` along its row to column `c`: the dies passed, `a` left out. -/
def alongRow (a c : Nat) : List Nat :=
  let r := 4 * rowOf a
  if colOf a < c then (List.range (c - colOf a)).map (fun i => a + 1 + i)
  else (List.range (colOf a - c)).map (fun i => r + (colOf a - 1 - i))

/-- The Press die at which a die other than a Press die joins the mesh toward a row (R357, R466). -/
def entryDie (d row : Nat) : Nat :=
  4 * row + (if d = 8 then 0 else if d = 9 then 3 else if d = 10 then 1 else 2)

/-- The row by which two dies that are not Press dies reach each other: M0 to M1 eastbound on the top row, M1 to M0
westbound on the bottom row (R463); everything else on the top row. -/
def midRow (a b : Nat) : Nat := if a = 9 ∧ b = 8 then 1 else 0

/-- The dies of the fixed path from die `a` to die `b`, `a` left out (R356, R357, R463, R466). -/
def pathTo (a b : Nat) : List Nat :=
  if a = b then []
  else if a < 8 then
    if b < 8 then
      let row := alongRow a (colOf b)
      row ++ (if rowOf a = rowOf b then [] else [b])
    else if b = 8 ∨ b = 9 then
      let e := entryDie b (rowOf a)
      alongRow a (colOf e) ++ [b]
    else
      let e := entryDie b (rowOf a)
      alongRow a (colOf e) ++ [b]
  else if b < 8 then
    let e := entryDie a (rowOf b)
    [e] ++ alongRow e (colOf b)
  else
    let r := midRow a b
    let e := entryDie a r
    [e] ++ alongRow e (colOf (entryDie b r)) ++ [b]

/-- The next die on the path from `a` to `b`. -/
def nextDie (a b : Nat) : Nat := (pathTo a b).headD b

end Sys2Proof.Machine
end

