-- ==== Sys2Proof/Machine/UnisonOps.lean ====
section
/-! DEFINITION. What Unison takes from the events of the Score: digests of the sends that depart, and the capture's log
(16_determinism.md, R770 to R772, R782). -/

namespace Sys2Proof.Machine

/-- Replace the Unison state. -/
def State.setUnison (s : State) (u : Unison) : State := { s with unison := u }

/-- One bit of the CRC-64 (R772). -/
def crc64Bit (c : Nat) : Nat :=
  if c.testBit 63 then (2 * c % 2 ^ 64) ^^^ 0x42F0E1EBA9EA3693 else 2 * c % 2 ^ 64

/-- One byte of the CRC-64 (R772). -/
def crc64Byte (c : Nat) (b : Byte) : Nat :=
  crc64Bit (crc64Bit (crc64Bit (crc64Bit (crc64Bit (crc64Bit (crc64Bit (crc64Bit (c ^^^ (b.toNat * 2 ^ 56)))))))))

/-- The CRC-64 goes on over more bytes (R772). -/
def crc64 (c : Nat) (bs : List Byte) : Nat := bs.foldl crc64Byte c

/-- The canonical record of a bolt (R771). -/
def boltRecord (h : BoltHdr) (payload : List Byte) : List Byte :=
  leBytes 2 h.seq ++ leBytes 2 h.stream ++ leBytes 2 h.dblk ++ leBytes 1 h.dpress ++ leBytes 1 h.tally ++ leBytes 1 h.lines ++
  leBytes 3 0 ++ payload

/-- The digest unit of a send of Press die d (R770). -/
def digestUnit (d dpress route : Nat) : Nat :=
  match (if route = 0 then none else routeLink route) with
  | some u => u
  | none =>
    if dpress / 32 = d then 48 + d
    else 16 + 4 * d + (portTo d (nextDie d (dpress / 32))).getD 0

/-- Digests are kept: the package is paired and comparing (R769), or replays a bar (R783). -/
def State.digesting (s : State) : Bool := (s.bit UN_CTRL [] UN_CTRL.PAIRED && s.unison.started) || s.unison.replay.isSome

/-- A send that departs is digested in the unit of its Score bar (R770 to R772). -/
def State.digestSend (s : State) (d sbar : Nat) (h : BoltHdr) (payload : List Byte) : State :=
  if s.digesting then
    let unit := digestUnit d h.dpress h.route
    let same (e : UnEntry) : Bool := e.sbar == sbar && e.unit == unit && e.stream == h.stream
    let old := ((s.unison.open_.find? same).map (fun e => e.digest)).getD 0
    let e : UnEntry := ⟨sbar, unit, h.stream, crc64 old (boltRecord h payload)⟩
    s.setUnison { s.unison with open_ := s.unison.open_.filter (fun x => !same x) ++ [e] }
  else s

/-! ### The capture's log -/

/-- The capture logs: its snapshot is taken and its bar has not ended (R781, R782). -/
def State.capturing (s : State) : Bool :=
  s.bit UN_CAPTURE [] UN_CAPTURE.SNAPSHOT && !s.bit UN_CAPTURE [] UN_CAPTURE.COMPLETE && !s.bit UN_CAPTURE [] UN_CAPTURE.INCOMPLETE

/-- The die whose area a log item lies in, and its data bytes. -/
def LogItem.die : LogItem → Nat
  | .board p _ _ => p / 32
  | .tally d _ _ => d
  | .fill p _ _ => p / 32
/-- The data bytes of a log item. -/
def LogItem.size : LogItem → Nat
  | .board _ _ bs => bs.length
  | .tally .. => 8
  | .fill _ _ bs => bs.length

/-- The capture is incomplete (R782), which is logged (R786). -/
def State.captureIncomplete (s : State) : State :=
  (s.setF UN_CAPTURE [] UN_CAPTURE.LOGGING 0).setLogged 10 UN_CAPTURE [] UN_CAPTURE.INCOMPLETE

/-- A die or C0 is reset while a capture logs (R782). -/
def State.captureReset (s : State) : State := if s.capturing then s.captureIncomplete else s

/-- Log an item (R782); an area that overflows ends the capture's log (DESIGN CHOICE, log entry 90). -/
def State.logItem (s : State) (x : LogItem) : State :=
  if s.capturing then
    let b := if s.bit UN_CAPTURE [] UN_CAPTURE.LOGGING then s.tempo.beat else 0
    let s := s.setUnison { s.unison with log := s.unison.log ++ [(b, x)] }
    let n := ((s.unison.log.filter (fun y => y.2.die == x.die)).map (fun y => y.2.size)).foldl (· + ·) 0
    let used := max (s.getF UN_CAP_USED [] UN_CAP_USED.MIB) (Config.captureMib n % 2 ^ 32)
    if s.unison.capMib < used then (s.setF UN_CAP_USED [] UN_CAP_USED.MIB s.unison.capMib).captureIncomplete
    else s.setF UN_CAP_USED [] UN_CAP_USED.MIB used
  else s

/-- The package replays a bar (R783). -/
def State.replaying (s : State) : Bool := s.unison.replay.isSome

/-- Apply one logged item (R783). -/
def State.replayItem (s : State) : LogItem → State
  | .board p a bs => s.writeBoard p a bs
  | .tally d t n =>
    let v := tget 0 s.score.tallies (256 * d + t) + n
    let sat := tget false s.score.tallySat d || decide (65535 < v)
    { s with score := { s.score with tallies := tput 0 s.score.tallies (256 * d + t) (min 65535 v), tallySat := tput false s.score.tallySat d sat }
             books := { s.books with noticed := tput 0 s.books.noticed d (tget 0 s.books.noticed d + n) } }
  | .fill .. => s

/-- In a replay, logged writes and tally updates whose beat has come are applied (R783); fills wait for their loads. -/
def State.replayLog (s : State) : State :=
  let due (x : Nat × LogItem) : Bool := decide (x.1 ≤ s.tempo.beat) && (match x.2 with
    | .fill .. => false
    | _ => true)
  if s.replaying then
    let now := s.unison.left.filter due
    now.foldl (fun s x => s.replayItem x.2) (s.setUnison { s.unison with left := s.unison.left.filter (fun x => !due x) })
  else s

/-- The next logged fill of a load queue, served to a load in a replay (R783): zeros and UN_REPLAY_DIV when none is left. -/
def State.replayFill (s : State) (p q : Nat) : State × List Byte :=
  let mine (x : Nat × LogItem) : Bool := match x.2 with
    | .fill a b _ => a == p && b == q
    | _ => false
  match s.unison.left.find? mine with
  | some (_, .fill _ _ bs) => (s.setUnison { s.unison with left := dropFirst mine s.unison.left }, bs)
  | _ => (s.incF UN_REPLAY_DIV [] UN_REPLAY_DIV.COUNT 1, List.replicate 512 0)

/-- Entries in the order of (unit, stream): `a` is before `b`. -/
def UnEntry.before (a b : UnEntry) : Bool := decide (a.unit < b.unit) || (a.unit == b.unit && decide (a.stream < b.stream))

/-- The first entry of a list by unit and stream. -/
def firstEntry : List UnEntry → Option UnEntry
  | [] => none
  | e :: t => match firstEntry t with
    | none => some e
    | some f => if f.before e then some f else some e

/-- The same unit and stream with the same digest stand in a list. -/
def UnEntry.isIn (e : UnEntry) (l : List UnEntry) : Bool :=
  l.any (fun x => x.unit == e.unit && x.stream == e.stream && x.digest == e.digest)

/-- A replay is over: the package stands stopped again, its Presses paused as SCORE_STOP leaves them (R328, R783)
(DESIGN CHOICE, log entry 107). -/
def State.replayStop (s : State) : State :=
  let s := s.setUnison { s.unison with replay := none, left := [], open_ := [] }
  (s.setTempo { s.tempo with running := false, held := false, frozen := false, merged := false }).stopPresses

/-- The replayed bar ends and its REPLAY completes (R783): entries, matches with the own originals and the partner's, and the first
unit that differs with its stream. -/
def State.replayEnd (s : State) (c : Cmd) : State :=
  let u := s.unison
  let es := u.open_
  let diff := firstEntry (es.filter (fun e => !e.isIn u.capOwn) ++
    u.capOwn.filter (fun e => !es.any (fun x => x.unit == e.unit && x.stream == e.stream)))
  let res := leBytes 2 es.length ++ leBytes 2 (es.filter (fun e => e.isIn u.capOwn)).length ++
    leBytes 2 (es.filter (fun e => e.isIn u.capPeer)).length ++
    (match diff with
      | some e => leBytes 1 e.unit ++ leBytes 2 e.stream
      | none => leBytes 1 0xFF ++ leBytes 2 0)
  let s := u.left.foldl (fun s x => s.replayItem x.2) s
  s.replayStop.complete c stOk res

/-- The captured bar begins: the capture logs it (R782). -/
def State.captureStart (s : State) (sbar : Nat) : State :=
  if s.capturing && s.getF UN_CAP_SBAR [] UN_CAP_SBAR.S == sbar then s.setBit UN_CAPTURE [] UN_CAPTURE.LOGGING else s

/-- A hold has ended before the capture was taken: it is abandoned (R781). -/
def State.captureLate (s : State) : State := s.completeAll .capture stTimeout []

/-- SCORE_STOP discards pending entries (R769), and so does a count-in. -/
def State.unClear (s : State) : State :=
  (s.setUnison { s.unison with open_ := [], own := [], peer := [], ownClose := [], peerClose := [], sent := [], closed := [], lost := [] }).setF
    UN_PENDING [] UN_PENDING.PENDING 0

end Sys2Proof.Machine
end

