-- ==== Sys2Proof/Machine/ScoreOps.lean ====
section
/-! DEFINITION. The named operations of Score time and of the Score: bar numbers, the downbeat and count-in flits,
orders, faults' actions, desk closings, patches, stopping, unloading and the boundary of a bar
(02_score_time.md; 06_conductor.md, sections 5, 7 and 8). -/

namespace Sys2Proof.Machine

/-- 32-bit bar numbers wrap (R58). -/
def bar32 (n : Nat) : Nat := n % 2 ^ 32

/-- The region runs in rubato, as configured or by fallback (DEDUCED, log entry 5). -/
def Tempo.isGated (t : Tempo) : Bool := t.rubato || t.fallback
/-- Beats pass up to `b` of this bar. -/
def Tempo.atBeat (t : Tempo) (b : Nat) : Tempo := { t with beat := min 0xFFFF (max t.beat b) }

/-- A Score is installed: K is set and every Conductor holds its desk (R343, SCR_STATUS.INSTALLED). -/
def State.installed (s : State) : Bool :=
  s.tempo.k != 0 && s.condDies.all (fun d => s.bit SCR_STATUS [d] SCR_STATUS.INSTALLED)

/-- The installed image's entry for a link. -/
def State.linkCfg (s : State) (l : Nat) : LinkCfg := tget {} s.links l

/-- The latency L of a class (R63); a link admitted for rubato only has none, and the value is free (DESIGN CHOICE, log entry 3). -/
def State.classL (s : State) (cls : Nat) : Nat :=
  if cls = 0 then 256 else if cls = 1 then 1024 else s.freeNat 32

/-- Send a flit on a link. -/
def State.txFlit (s : State) (l : Nat) (bytes : List Byte) : State := { s with linkTx := s.linkTx ++ [(l, bytes)] }

/-- A 64-byte flit of 60 bytes and their CRC-32C (R74, R85, R430). -/
def crcFlit (body : List Byte) : List Byte :=
  let b := slice body 0 60
  b ++ leBytes 4 (crc32c b)

/-- The CRC of a 64-byte flit holds. -/
def flitOk (f : List Byte) : Bool := f.length == 64 && leAt f 60 4 == crc32c (slice f 0 60)

/-- This package's chip number. -/
def State.chip (s : State) : Nat := s.getF RNK_CHIP [8] RNK_CHIP.CHIP

/-- The downbeat of the current bar (R85). -/
def State.downbeat (s : State) : List Byte :=
  let t := s.tempo
  let o := t.order.getD ⟨0, 0, 0, false⟩
  crcFlit (leBytes 1 0xD1 ++
    leBytes 1 (b2n t.isGated + 2 * b2n t.held + 4 * b2n t.halted + 8 * b2n t.anchor) ++
    leBytes 1 t.region ++ leBytes 1 t.k ++ leBytes 2 t.slice ++ leBytes 2 s.chip ++
    leBytes 4 t.barno ++ leBytes 4 t.sbar ++ leBytes 4 o.f ++ leBytes 4 o.r ++ leBytes 2 o.seq ++
    leBytes 1 (b2n t.order.isSome + 2 * b2n o.indef + 4 * b2n t.reqBar.isSome) ++ leBytes 1 0 ++
    leBytes 4 (t.reqBar.getD 0))

/-- In beat 0 of a bar, a downbeat leaves on every trained link but those that run G1 (R85, R89). -/
def State.sendDownbeats (s : State) : State :=
  (List.range 12).foldl (fun s l =>
    if s.linkUp l && s.getF LNK_STATUS (lnk l) LNK_STATUS.PROFILE != 2 then s.txFlit l s.downbeat else s) s

/-- A count-in flit (R74). -/
def State.countinFlit (s : State) (total elapsed startSbar depth : Nat) : List Byte :=
  let t := s.tempo
  crcFlit (leBytes 1 0xC1 ++ leBytes 1 (b2n t.rubato) ++ leBytes 1 t.region ++ leBytes 1 t.k ++
    leBytes 2 t.slice ++ leBytes 2 s.chip ++ leBytes 4 total ++ leBytes 4 elapsed ++
    leBytes 4 startSbar ++ leBytes 2 depth ++ leBytes 2 t.anchorChip)

/-- Send the count-in on the child links of one Mangle die (R75, R77): ELAPSED is the elapsed beats plus L. -/
def State.sendCountin (s : State) (die : Nat) (total elapsed startSbar depth : Nat) : State :=
  ((List.range 6).foldl (fun s j =>
    let l := 6 * (die - 8) + j
    let c := s.linkCfg l
    if c.child then s.txFlit l (s.countinFlit total ((elapsed + s.classL c.cls) % 2 ^ 32) startSbar depth) else s) s).useFree 1

/-! ### Orders -/

/-- The order holds bar n (R107 to R109): F < n ≤ R. -/
def Order.holds (o : Order) (n : Nat) : Bool := newer 32 n o.f && (o.indef || serialGe 32 o.r n)

/-- An order is live in bar m (R113): not when F ≥ R or R < m. -/
def Order.live (o : Order) (m : Nat) : Bool := o.indef || (newer 32 o.r o.f && serialGe 32 o.r m)

/-- The later of two bars, and the earlier. -/
def laterBar (a b : Nat) : Nat := if newer 32 b a then b else a
def earlierBar (a b : Nat) : Nat := if newer 32 a b then b else a

/-- One FERMATA count c raised in bar m by the anchor's package (R113); the sequence number is not touched. -/
def applyCount (lead m c : Nat) (o : Option Order) : Option Order :=
  let b := bar32 (m + lead)
  match o with
  | none => if c = 0 then none else some ⟨0, b, bar32 (b + c), c == 255⟩
  | some o =>
    if o.live m then
      let x := laterBar o.f b
      if c = 0 then some { o with r := if o.indef then x else earlierBar o.r x, indef := false }
      else some { o with r := bar32 (x + c), indef := c == 255 }
    else if c = 0 then some o
    else some { o with f := b, r := bar32 (b + c), indef := c == 255 }

/-- Whether an order lies ahead with held bars (SCR_BEAT.PENDING). -/
def Tempo.pendingHold (t : Tempo) : Bool :=
  match t.order with
  | none => false
  | some o => o.live (bar32 (t.barno + 1)) && !o.holds t.barno

/-! ### Desks -/

/-- The next entry of a Conductor, if any. -/
def Conductor.entry (c : Conductor) : Option DeskEntry := c.desk[c.ptr]?

/-- Entries of the current Score bar remain to act (R305). -/
def Conductor.unacted (c : Conductor) (sbar : Nat) : Bool :=
  !c.fine && c.bar == sbar && match c.entry with
    | some e => !e.closes
    | none => false

/-- The pointer stands inside a repeat's innermost open frame for this entry. -/
def Conductor.open (c : Conductor) : Bool := match c.reps.getLast? with
  | some r => r.entry == c.ptr
  | none => false

/-- A bar-closing entry takes effect at the boundary that ends Score bar `sbar` (R299, R307, R309). -/
def Conductor.close (c : Conductor) (sbar : Nat) : Conductor :=
  if c.fine || c.bar != sbar then c
  else match c.entry with
    | some (.rest sv n sl) =>
      { c with ptr := c.ptr + 1, bar := bar32 (c.bar + n)
               sleep := if sv then sl else 0 }
    | some (.repeat_ times target bstep dstep) =>
      let i := if c.open then (c.reps.getLast?.map (fun r => r.iter)).getD 0 else 0
      if i < times then
        { c with ptr := target, bar := bar32 (c.bar + 1), sleep := 0
                 reps := (if c.open then c.reps.dropLast else c.reps) ++ [⟨c.ptr, target, i + 1, bstep, dstep⟩] }
      else { c with ptr := c.ptr + 1, bar := bar32 (c.bar + 1), sleep := 0
                    reps := if c.open then c.reps.dropLast else c.reps }
    | some .fine => { c with fine := true }
    | _ => c

/-- The pointer moves to the start of a restart point, with no repeat open (R312, R333). -/
def Conductor.rewind (c : Conductor) (r : RestartPt) : Conductor :=
  { c with ptr := r.entry, bar := r.sbar, fine := false, reps := [], sleep := 0
           pend := [], heldCues := [] }

/-- The restart point of a Score bar. -/
def Conductor.restartAt (c : Conductor) (sbar : Nat) : Option RestartPt := c.restart.find? (fun r => r.sbar == sbar)

/-- Apply a function to every fitted Conductor. -/
def State.mapCond (s : State) (f : Nat → Conductor → Conductor) : State :=
  s.condDies.foldl (fun s d => s.setConductor d (f d (s.conductor d))) s

/-- `sbar` is a restart point of the installed image (R310). -/
def State.isRestart (s : State) (sbar : Nat) : Bool := ((s.conductor 8).restartAt sbar).isSome

/-- Every pointer moves to the restart point of `sbar`. -/
def State.rewindTo (s : State) (sbar : Nat) : State :=
  s.mapCond (fun _ c => match c.restartAt sbar with
    | some r => c.rewind r
    | none => c)

/-! ### Patches -/

/-- SCR_PATCH of every Conductor: NEXT_S and STAGED follow the staged patches. -/
def State.syncPatch (s : State) : State :=
  let ps := s.patches.filter (fun p => p.waiting.isEmpty)
  let lo := ps.foldl (fun a p => if a.isNone then some p.sbar else a.map (fun x => earlierBar x p.sbar)) (none : Option Nat)
  s.condDies.foldl (fun s d =>
    (s.setF SCR_PATCH [d] SCR_PATCH.NEXT_S (lo.getD 0)).setF SCR_PATCH [d] SCR_PATCH.STAGED ps.length) s

/-- Set APPLIED or DISCARDED on every Conductor (R341): sources 387 and 451 follow them. -/
def State.patchFlag (s : State) (f : Fld) : State := s.condDies.foldl (fun s d => s.setBit SCR_PATCH [d] f) s

/-- The desk index of a PATCHPOINT. -/
def Conductor.patchpoint (c : Conductor) (id : Nat) : Option Nat :=
  c.desk.findIdx? (fun e => match e with
    | .patchpoint i _ => i == id
    | _ => false)

/-- A record replaces a region in which a pointer stands after its first entry (R340). -/
def State.pointerInside (s : State) : PatchRec → Bool
  | .region d id es =>
    let c := s.conductor d
    match c.patchpoint id with
    | some i => decide (i + 1 < c.ptr) && decide (c.ptr ≤ i + es.length)
    | none => false
  | _ => false

/-- Lay words over a part store. -/
def putWords : Table Word → Nat → List Word → Table Word
  | t, _, [] => t
  | t, i, w :: ws => putWords (tput 0 t i w) (i + 1) ws

/-- Write one record of a patch (R339). -/
def State.writeRec (s : State) : PatchRec → State
  | .region d id es =>
    let c := s.conductor d
    match c.patchpoint id with
    | some i => s.setConductor d { c with desk := c.desk.take (i + 1) ++ es ++ c.desk.drop (i + 1 + es.length) }
    | none => s
  | .words d k start ws =>
    let p := 32 * d + k
    s.setPrs p { s.prs p with part := putWords (s.prs p).part start ws }
  | .templates d bs => s.setConductor d { s.conductor d with tpl := bs }
  | .measures d bs => s.setConductor d { s.conductor d with meas := bs }

/-- The die of a record. -/
def PatchRec.die : PatchRec → Nat
  | .region d _ _ => d
  | .words d _ _ _ => d
  | .templates d _ => d
  | .measures d _ => d

/-- Discard a patch that is late (R119, R338): SCORE_FAULT PATCH_LATE on M0, a fermata request, DISCARDED, and
SCORE_FAULT as the status of a SCORE_PATCH that still stages it (DEDUCED, log entry 13). -/
def State.discardLate (s : State) (p : Patch) : State :=
  let s := { s with patches := s.patches.filter (fun q => q != p) }
  let s := (s.scoreFaultReq 8 2 0xFF (s.conductor 8).ptr).patchFlag SCR_PATCH.DISCARDED
  (if p.waiting.isEmpty then s else s.complete p.cmd stScoreFault []).syncPatch

/-- The patches that are not staged in time for Score bar S (R118, R119, R338). -/
def State.lateFor (s : State) (sb : Nat) : List Patch :=
  s.patches.filter (fun p => p.sbar == sb && !p.waiting.isEmpty)

/-- Apply the staged patch of Score bar S at its start (R339), or on no die when a pointer is inside it (R340). -/
def State.applyPatches (s : State) (sb : Nat) : State :=
  let s := (s.lateFor sb).foldl State.discardLate s
  match s.patches.find? (fun p => p.sbar == sb) with
  | none => s
  | some p =>
    let s := { s with patches := s.patches.filter (fun q => q != p) }
    (match p.recs.find? s.pointerInside with
      | some r => (s.scoreFaultReq r.die 3 0xFF (s.conductor r.die).ptr).patchFlag SCR_PATCH.DISCARDED
      | none => (p.recs.foldl State.writeRec s).patchFlag SCR_PATCH.APPLIED).syncPatch

/-! ### Stopping and unloading -/

/-- Unloading (R332): desks, measure tables and template tables are cleared, part stores zeroed with the effects of
R223, and SCR_TEMPO_CFG.K reads 0. -/
def State.unload (s : State) : State :=
  let s := s.mapCond (fun _ c => { c with desk := [], meas := [], tpl := [], restart := [], ptr := 0, reps := [] })
  let s := s.condDies.foldl (fun s d => (s.setF SCR_STATUS [d] SCR_STATUS.INSTALLED 0).setF SCR_STATUS [d] SCR_STATUS.FINE 0) s
  let s := s.presses.foldl (fun s p =>
    (s.setPrs p { s.prs p with part := [], words := 0 }).clearSections p) s
  { s with tempo := { s.tempo with k := 0 }, links := [] }

/-- Disarm (R84, R329). A LAUNCH that waited for bar 0 has no bar 0 to wait for, and the spec gives it no status:
its status is a free value (DESIGN CHOICE, log entry 3). -/
def State.disarm (s : State) : State :=
  let cs := s.waiters .launch
  let st := s.freeNat 8
  let s := s.setTempo { s.tempo with armed := false, launched := false, accepted := none }
  if cs.isEmpty then s else (s.completeAll .launch st []).useFree 1

/-- FERMATA commands whose bar's merge never comes, because the Score stops: the spec gives them no status, and it is a free value (log
entry 3) (DEDUCED, log entry 46). -/
def State.dropFermatas (s : State) : State :=
  let cs := s.tempo.ferm.filterMap (fun r => match r.src with
    | .command c => some c
    | _ => none)
  let st := s.freeNat 8
  let s := s.setTempo { s.tempo with ferm := [] }
  if cs.isEmpty then s else (cs.foldl (fun s c => s.complete c st []) s).useFree 1

/-- Pending and held cues of the package. -/
def State.cueCount (s : State) : Nat :=
  (s.condDies.map (fun d => (s.conductor d).pend.length + (s.conductor d).heldCues.length)).foldl (· + ·) 0

/-- SCORE_STOP's effect at its boundary (R328), and its completions (R330) (DEDUCED, log entry 6). -/
def State.stopNow (s : State) (unload : Bool) : State :=
  let n := s.cueCount
  let res := leBytes 4 s.tempo.barno ++ leBytes 4 s.tempo.sbar ++ leBytes 4 n
  let had := !s.patches.isEmpty
  let s := (s.patches.filter (fun p => !p.waiting.isEmpty)).foldl (fun s p => s.complete p.cmd stScoreFault []) s
  let s := { s with patches := [] }
  let s := (if had then s.patchFlag SCR_PATCH.DISCARDED else s).syncPatch
  let s := s.mapCond (fun _ c => { c with pend := [], heldCues := [], sleep := 0 })
  let s := s.stopPresses
  let s := s.condDies.foldl (fun s d => s.setF SCR_STATUS [d] SCR_STATUS.STOPPING 0) s
  let s := s.setTempo { s.tempo with
    running := false, armed := false, launched := false, accepted := none, held := false, actions := []
    frozen := false, merged := false, adopting := none }
  let s := s.dropFermatas
  let s := (if unload then s.unload else s).unClear.captureLate
  s.completeAll .stopBar stOk res

/-! ### The boundary of a bar -/

/-- The actions due at the end of bar n (R92). -/
def Tempo.due (t : Tempo) (n : Nat) : List BarAction :=
  (t.actions.filter (fun a => serialGe 32 n a.1)).map (fun a => a.2)

/-- What the desks do at the end of a bar that is not held (R305 to R309). FINE is reported on every Conductor. -/
def State.closeDesks (s : State) : State :=
  let sb := s.tempo.sbar
  let before := (s.conductor 8).fine
  let s := s.mapCond (fun _ c => c.close sb)
  if (s.conductor 8).fine && !before then
    s.condDies.foldl (fun s d => s.setF SCR_STATUS [d] SCR_STATUS.FINE 1) s
  else s

/-- The Unison capture's log ends with its Score bar (R782). -/
def State.captureEnd (s : State) : State :=
  if s.bit UN_CAPTURE [] UN_CAPTURE.LOGGING && !s.tempo.held && s.getF UN_CAP_SBAR [] UN_CAP_SBAR.S == s.tempo.sbar then
    let s := s.setF UN_CAPTURE [] UN_CAPTURE.LOGGING 0
    if s.bit UN_CAPTURE [] UN_CAPTURE.INCOMPLETE then s else s.setF UN_CAPTURE [] UN_CAPTURE.COMPLETE 1
  else s

/-- The next bar begins (R57, R60, R85, R93, R96, R107, R108): the bar numbers, whether it is held, the staged
patch of its Score bar, and the downbeats. -/
def State.nextBar (s : State) (halt fall : Bool) (order : Option Order) : State :=
  let t := s.tempo
  let n := bar32 (t.barno + 1)
  let sb := if t.held then t.sbar else bar32 (t.sbar + 1)
  let halted := t.halted || halt
  let held := halted || (match order with
    | some o => o.holds n
    | none => false)
  let s := if t.held then s.incF TEL_PKG [] TEL_PKG.HELD_BARS 1 else s
  let s := s.setTempo { t with
    barno := n, sbar := sb, held := held, halted := halted, fallback := t.fallback || fall, order := order
    adopting := none, frozen := false, merged := false, beat := 0
    actions := t.actions.filter (fun a => !serialGe 32 t.barno a.1) }
  let s := if held != t.held || (halt && !t.halted) || (fall && !t.fallback) || order != t.order then s.tempoEdge else s
  let s := if halt && !t.halted then s.fermataRequest else s
  let s := if held then s else ((s.applyPatches sb).captureLate).captureStart sb
  s.sendDownbeats

/-- The end of a bar (R60; in a replay the end of the replay, R783): the actions due, the adopted order and the closing entries take effect, and the next
bar begins, or the Score stops (R328). -/
def State.barEnd (s : State) : State :=
  let t := s.tempo
  let due := t.due t.barno
  let halt := due.any (fun a => a == .halt)
  let fall := due.any (fun a => a == .fallback)
  let order := match t.adopting with
    | some (m, o) => if serialGe 32 t.barno m then some o else t.order
    | none => t.order
  let late := match t.adopting with
    | some (m, o) => if serialGe 32 t.barno m then none else some (m, o)
    | none => none
  let s := s.captureEnd
  let stops := due.filterMap (fun a => match a with
    | .stop u _ => some u
    | _ => none)
  match s.unison.replay with
  | some c =>
    let s := s.replayEnd c
    if stops.isEmpty then s else s.stopNow (stops.any id)
  | none =>
  if stops.isEmpty then
    let s := if t.held then s else s.closeDesks
    let s := s.nextBar halt fall order
    s.setTempo { s.tempo with adopting := late }
  else s.stopNow (stops.any id)

/-- Every Score link has brought the downbeat of this bar or a later one (R99). -/
def State.gatesOpen (s : State) : Bool :=
  (List.range 12).all (fun l => !(s.linkCfg l).score ||
    (tget 0 s.tempo.gotBar l != 0 && serialGe 32 (tget 0 s.tempo.gotBar l - 1) s.tempo.barno))

/-- No entry of the current Score bar remains to act, or the bar is held (R305, R306). -/
def State.barDone (s : State) : Bool :=
  s.tempo.held || s.condDies.all (fun d => !(s.conductor d).unacted s.tempo.sbar)

end Sys2Proof.Machine
end

