-- ==== Sys2Proof/Machine/BoltOps.lean ====
section
/-! DEFINITION. The shared operations of the Score plane: headers and flits, the Rank Table, fences, descriptors, streams,
knot queues and the outputs of a switch (09_score_plane.md; 11_ranks_slices.md; R585, R590). -/

namespace Sys2Proof.Machine

/-! ### Headers and flits -/

/-- The 128-bit header as a number (R458). -/
def BoltHdr.nat (h : BoltHdr) : Nat :=
  h.seq + h.srank * 2 ^ 16 + h.drank * 2 ^ 32 + h.slice * 2 ^ 48 + h.stream * 2 ^ 60 + h.dblk * 2 ^ 72 + h.dpress * 2 ^ 83 +
  h.tally * 2 ^ 91 + h.lines * 2 ^ 99 + h.route * 2 ^ 106

/-- The header that a number spells (R458). -/
def BoltHdr.ofNat (n : Nat) : BoltHdr :=
  let f (lo w : Nat) : Nat := n / 2 ^ lo % 2 ^ w
  ⟨f 0 16, f 16 16, f 32 16, f 48 12, f 60 12, f 72 11, f 83 8, f 91 8, f 99 7, f 106 22⟩

/-- The flits of a bolt (R454, R456): header, HCRC, payload, PCRC, zeros. -/
def boltFlits (h : BoltHdr) (payload : List Byte) (pcrc : Nat) : List (List Byte) :=
  let hd := leBytes 16 h.nat
  let all := hd ++ leBytes 4 (crc32c hd) ++ payload ++ leBytes 4 pcrc ++ List.replicate 40 0
  (List.range (h.lines + 2)).map (fun i => slice all (64 * i) 64)

/-- The header, HCRC verdict, payload and PCRC of received flits. -/
def parseBolt (flits : List (List Byte)) : BoltHdr × Bool × List Byte × Nat :=
  let all := flits.flatMap id
  let h := BoltHdr.ofNat (leAt all 0 16)
  let n := 64 * (h.lines + 1)
  (h, leAt all 16 4 != crc32c (slice all 0 16), slice all 20 n, leAt all (20 + n) 4)

/-- Bytes of a bolt's payload. -/
def BoltHdr.bytes (h : BoltHdr) : Nat := 64 * (h.lines + 1)

/-- The Mangle die that holds a stream's descriptors (R482). -/
def streamMangle (stream : Nat) : Nat := if stream < 0x800 then 8 else 9

/-! ### Ranks, slices and fences -/

/-- The installed rank (SCR_PLACE, R490). -/
def State.rank (s : State) : Nat := s.getF SCR_PLACE [8] SCR_PLACE.RANK
/-- The current slice (R560), and whether one is set. -/
def State.sliceId (s : State) : Nat := s.getF RNK_SLICE [8] RNK_SLICE.SLICE
def State.sliceValid (s : State) : Bool := s.bit RNK_SLICE [8] RNK_SLICE.VALID

/-- A header's slice passes (R489, R490 check 2). -/
def State.sliceOk (s : State) (sl : Nat) : Bool := s.sliceValid && sl == s.sliceId

/-- A Rank Table entry as a number (R551). -/
def State.rankEntry (s : State) (m r : Nat) : Nat := if r < 16384 then (s.reg RNK_TABLE [m, r]).toNat else 0

/-- Fields of an entry (R551): GEN, coordinates, LID, VIA. -/
def entGen (e : Nat) : Nat := bits e 2 1
def entX (e : Nat) : Nat := bits e 8 4
def entY (e : Nat) : Nat := bits e 13 9
def entZ (e : Nat) : Nat := bits e 18 14

/-- The link of this Mangle die that VIA names: an index 0–5 of the die. -/
def entVia (e : Nat) : Nat := bits e 53 50
/-- LID of an entry: the legacy ID. -/
def entLid (e : Nat) : Nat := bits e 49 36

/-- The rank is absent on Mangle die m (R552, R583). -/
def State.rankAbsent (s : State) (m r : Nat) : Bool :=
  let e := s.rankEntry m r
  let l := 6 * (m - 8) + entVia e
  let g := s.reg TCK_GRID [m]
  decide (16384 ≤ r) || e % 2 == 0 || !s.sliceValid ||
  (entGen e != 3 && !(entX e == fget g TCK_GRID.X && entY e == fget g TCK_GRID.Y && entZ e == fget g TCK_GRID.Z &&
    decide (entVia e < 6) && s.getF LNK_STATUS (lnk l) LNK_STATUS.PROFILE == (if entGen e = 1 then 2 else 1) &&
    s.bit LNK_LGC_ID (lnk l) LNK_LGC_ID.VALID && s.getF LNK_LGC_ID (lnk l) LNK_LGC_ID.PEER_RANK == r))

/-- A lookup of an absent rank (R553). -/
def State.rankMiss (s : State) (m r : Nat) : State :=
  let s := s.incF RNK_MISSES [m] RNK_MISSES.COUNT 1
  let s := if s.bit RNK_EVENT [m] RNK_EVENT.MISS then s else s.setF RNK_EVENT [m] RNK_EVENT.MISS_RANK r
  s.setLogged m RNK_EVENT [m] RNK_EVENT.MISS

/-- A link is fenced (R566). -/
def State.fenced (s : State) (l : Nat) : Bool :=
  (s.getF RNK_FENCE [8] RNK_FENCE.SW).testBit l || (s.installed && (s.linkCfg l).role == 0)

/-- A discard at a fence (R567): on the way out, or on arrival. -/
def State.fenceCount (s : State) (m : Nat) (out : Bool) : State :=
  (s.incF RNK_FENCED [m] RNK_FENCED.COUNT 1).setLogged m RNK_EVENT [m] (if out then RNK_EVENT.FENCE_OUT else RNK_EVENT.FENCE_IN)

/-! ### Descriptors and streams -/

/-- BLT_DARN follows the darning buffers (R498, R788). -/
def State.syncDarn (s : State) : State :=
  [8, 9].foldl (fun s m =>
    (s.setF BLT_DARN [m] BLT_DARN.HELD (s.score.desc.filter (fun d => streamMangle d.stream == m)).length).setF BLT_DARN [m]
      BLT_DARN.RESEND_Q (tget [] s.score.resendQ m).length) s

/-- The descriptor of a stream and sequence number. -/
def State.descOf (s : State) (stream seq : Nat) : Option Desc :=
  s.score.desc.find? (fun d => d.stream == stream && d.seq == seq)

/-- Change one descriptor. -/
def State.mapDesc (s : State) (stream seq : Nat) (f : Desc → Desc) : State :=
  { s with score := { s.score with desc := mapIf (fun d => d.stream == stream && d.seq == seq) f s.score.desc } }

/-- A descriptor's quota field on its Mangle die (R485). -/
def quotaFld (stream : Nat) : Fld := if stream < 0x800 then BLT_QUOTA.FREE0 else BLT_QUOTA.FREE1

/-- Release a descriptor with its hold and its quota entry (R199, R500). -/
def State.releaseDesc (s : State) (d : Desc) : State :=
  let m := streamMangle d.stream
  let s := { s with score := { s.score with
    desc := s.score.desc.filter (fun x => x != d)
    resendQ := tput [] s.score.resendQ m ((tget [] s.score.resendQ m).filter (fun x => x != (d.stream, d.seq))) } }
  let s := s.setF BLT_QUOTA [d.die] (quotaFld d.stream) (s.getF BLT_QUOTA [d.die] (quotaFld d.stream) + 1)
  (s.dropHold (32 * d.die + d.press) d.sblk d.hdr.bytes).syncDarn

/-- A stream ends (R508): its descriptors are released with their holds, and it sends nothing until the package is armed. -/
def State.endStream (s : State) (stream status : Nat) : State :=
  let ds := s.score.desc.filter (fun d => d.stream == stream)
  let s := ds.foldl State.releaseDesc s
  { s with score := { s.score with
    ended := tput 0 s.score.ended stream (status + 1) } }

/-- A descriptor joins the resend queue of its Mangle die. -/
def State.queueResend (s : State) (d : Desc) : State :=
  let m := streamMangle d.stream
  let s := s.mapDesc d.stream d.seq (fun x => { x with queued := true })
  ({ s with score := { s.score with
    resendQ := tput [] s.score.resendQ m (tget [] s.score.resendQ m ++ [(d.stream, d.seq)]) } }).syncDarn

/-- The resend of a descriptor of this package is over: it may be queued again (R501, R502). -/
def State.resendOver (s : State) (own : Bool) (h : BoltHdr) : State :=
  if own then s.mapDesc h.stream h.seq (fun x => { x with resending := false }) else s

/-! ### Flights -/

/-- A flight by its number. -/
def State.flight (s : State) (id : Nat) : Option Flight := s.score.flights.find? (fun f => f.id == id)

/-- Replace a flight. -/
def State.setFlight (s : State) (f : Flight) : State :=
  { s with score := { s.score with flights := mapIf (fun x => x.id == f.id) (fun _ => f) s.score.flights } }

/-- Take a flight away. -/
def State.dropFlight (s : State) (f : Flight) : State :=
  let s := { s with score := { s.score with flights := s.score.flights.filter (fun x => x.id != f.id) } }
  if f.resend then s.resendOver f.own f.hdr else s

/-- Put a new flight on its way. -/
def State.addFlight (s : State) (f : Flight) : State :=
  { s with score := { s.score with
    flights := s.score.flights ++ [{ f with id := s.score.nextId }], nextId := s.score.nextId + 1 } }

/-- The die toward which a flight moves: the Mangle die of its exit link, or the die of DPRESS. -/
def Flight.goal (f : Flight) : Nat := match f.exit with
  | some l => 8 + l / 6
  | none => f.hdr.dpress / 32

/-- HDR_BAD on the die that found it (R481). -/
def State.headerBad (s : State) (d : Nat) : State :=
  if d < 8 then s.setBit BLT_PFAULT [d] BLT_PFAULT.HDR_BAD else s.setBit BLT_MFAULT [d] BLT_MFAULT.HDR_BAD

/-- SLICE_BAD and a discard at a Mangle die (R489, R562). -/
def State.sliceBadM (s : State) (m : Nat) : State :=
  let s := (s.setBit BLT_MFAULT [m] BLT_MFAULT.SLICE_BAD).incF BLT_MRX_DROP [m] BLT_MRX_DROP.COUNT 1
  if s.sliceValid then s else s.setLogged m RNK_EVENT [m] RNK_EVENT.NO_SLICE

/-! ### Outputs -/

/-- A Seam port is up and its peer does not hold Score slots (R426, R443). SEAM_STATUS.STATE 4 is UP. -/
def State.seamClear (s : State) (d q : Nat) : Bool :=
  s.getF SEAM_STATUS [d, q] SEAM_STATUS.STATE == 4 && !(s.seamDyn d q).holdRx

/-- The linens that a link's parts take (R434, R477, R590, R597); above 800 the link carries no Score flit (R793). -/
def State.overBudget (s : State) (l : Nat) : Bool :=
  let prof := s.getF LNK_STATUS (lnk l) LNK_STATUS.PROFILE
  let cls := s.getF LNK_STATUS (lnk l) LNK_STATUS.CLASS
  let pad := s.getF LNK_LATENCY (lnk l) LNK_LATENCY.PAD
  decide (800 < (if cls < 2 then (pad + 16 + 3) / 4 else 0) + s.skidReservation l + (if prof = 0 then 0 else 66) +
    (if prof = 2 then 64 else 0))

/-- A link takes Score flits: it is UP, not quiet, its peer does not hold them, and it is within its linens (R412, R443, R446, R793). A
quiet link wakes first, by LINK_QUIET_END. -/
def State.linkClear (s : State) (l : Nat) : Bool := s.getF LNK_STATUS (lnk l) LNK_STATUS.STATE == 6 && !(s.lnkDyn l).holdRx && !s.overBudget l

/-- Linens that the legacy store of a link holds (R590). -/
def State.legacyStore (s : State) (l : Nat) : Nat :=
  ((tget {} s.legacy l).store.map (fun b => (b.2.1.length / 64 + 1 + 3) / 4)).foldl (· + ·) 0

/-- Replace the bridge of a link; LNK_LGC_CRED follows (R597, R613). -/
def State.setLegacy (s : State) (l : Nat) (x : Legacy) : State :=
  let s := { s with legacy := tput {} s.legacy l x }
  let s := s.setF LNK_LGC_CRED (lnk l) LNK_LGC_CRED.STORE (s.legacyStore l)
  let s := (s.setF LNK_LGC_CRED (lnk l) LNK_LGC_CRED.INUSE x.used).setF LNK_LGC_CRED (lnk l) LNK_LGC_CRED.GRANTED
    (if x.initTx then 64 - x.used else 0)
  (s.setF LNK_LGC_CRED (lnk l) LNK_LGC_CRED.PEER_CRED x.peerCredits).setF LNK_LGC_CRED (lnk l) LNK_LGC_CRED.INIT_DONE (b2n (x.initTx && x.initRx))

/-- SEG packets of a bolt with so many payload bytes (R602). -/
def segPackets (b : Nat) : Nat := 1 + (b - 224 + 239) / 240

/-- Credit linens of link l are freed, and their credits wait to be returned (R598). -/
def State.freeCredits (s : State) (l n : Nat) : State :=
  let x := tget {} s.legacy l
  s.setLegacy l { x with used := x.used - n, owed := x.owed + n }

/-- The outbound header of a legacy link (R585): SELF_ID, the entry's LID, ROUTE 0. -/
def State.legacyHdr (s : State) (l : Nat) (h : BoltHdr) : BoltHdr :=
  { h with srank := s.getF LNK_LGC_ID (lnk l) LNK_LGC_ID.SELF_ID
           drank := entLid (s.rankEntry (8 + l / 6) h.drank), route := 0 }

/-- A bolt leaves the package on link l (R462, R585, R590): its flits go out with one hop less, or the bolt enters the legacy
store of a G1 or G2 link. A bolt that lost a flit in a skid (R480) leaves without its first payload line (DEDUCED, log entry 19). -/
def State.leaveOn (s : State) (l : Nat) (h : BoltHdr) (payload : List Byte) (pcrc : Nat) (bad : Bool) : State :=
  if s.getF LNK_STATUS (lnk l) LNK_STATUS.PROFILE = 0 then
    let fs := boltFlits { h with route := routeStep h.route } payload pcrc
    (if bad then fs.eraseIdx 1 else fs).foldl (fun s f => s.txFlit l f) s
  else
    let x := tget {} s.legacy l
    s.setLegacy l { x with store := x.store ++ [(s.legacyHdr l h, payload, pcrc, bad)] }

/-- A bolt can leave on link l: the link is clear, or its legacy store has room for the whole bolt (R590). -/
def State.canLeave (s : State) (l : Nat) (h : BoltHdr) : Bool :=
  if s.getF LNK_STATUS (lnk l) LNK_STATUS.PROFILE = 0 then s.linkClear l
  else decide (s.legacyStore l + (h.lines + 2 + 3) / 4 ≤ 66)

/-- RST_EVENT.LINK_DISCARD is in force for a link that has not been UP for GIVEUP_US (R830). -/
def State.discarding (s : State) (l : Nat) : Bool := s.pwr.giveUp.contains l && !s.linkUp l

/-- A Score flit that waits for a dead link is discarded (R830). -/
def State.linkDiscard (s : State) (n : Nat) : State :=
  (s.incF RST_DISCARDS [] RST_DISCARDS.COUNT n).setLogged 10 RST_EVENT [] RST_EVENT.LINK_DISCARD

end Sys2Proof.Machine
end

