-- ==== Sys2Proof/Machine/Bolts.lean ====
section
/-! DEFINITION. Departure, forwarding, arrival and darning of bolts: the operations that the Score-plane events share
(09_score_plane.md, sections 2 to 6). -/

namespace Sys2Proof.Machine

/-! ### Departure -/

/-- The Seam output of a waiting send: the next die and its slots; none for a move inside one die. -/
def WaitSend.output (w : WaitSend) : Option (Nat × Nat × Nat) :=
  let goal := if w.route = 0 then w.dpress / 32 else 8 + ((routeLink w.route).getD 0) / 6
  if goal = w.die then none else some (nextDie w.die goal, w.slot, w.slot + w.width)

/-- Two sends want the same output (R315, R472): the same Seam and a slot in common. -/
def sameOutput (a b : WaitSend) : Bool :=
  a.die == b.die && match a.output, b.output with
    | some x, some y => x.1 == y.1 && decide (x.2.1 < y.2.2) && decide (y.2.1 < x.2.2)
    | _, _ => false

/-- The blocks of a send's payload. -/
def WaitSend.blocks (w : WaitSend) : List Nat := blocksOf (512 * w.sblk) (64 * (w.lines + 1))

/-- The output condition of R485: its slots are free, its Seam takes Score flits, and no earlier send waits for it. -/
def State.outputFree (s : State) (w : WaitSend) (earlier : List WaitSend) (free : Bool) : Bool :=
  !earlier.any (sameOutput w) && match w.output with
    | none => free
    | some o => free && (match portTo w.die o.1 with
      | some q => s.seamClear w.die q
      | none => false)

/-- The window condition of R485: no descriptor at or older than s − 1,024 is held. -/
def State.windowFree (s : State) (w : WaitSend) : Bool :=
  let n := tget 0 s.score.seqs w.stream
  s.score.desc.all (fun d => d.stream != w.stream || !serialGe 16 (n + 2 ^ 16 - 1024) d.seq)

/-- The quota condition of R485. -/
def State.quotaFree (s : State) (w : WaitSend) : Bool := decide (0 < s.getF BLT_QUOTA [w.die] (quotaFld w.stream))

/-- The hold condition of R202 and R485: every block of the payload is held less than 15 times. -/
def State.holdsFree (s : State) (w : WaitSend) : Bool :=
  w.blocks.all (fun b => decide (s.holdCount (32 * w.die + w.src) b < 15))

/-- A send departs (R486, R198, R459, R770): SEQ, descriptor, hold, record, and the head on its way. In a replay no descriptor is
taken, and a send that leaves the package is digested and dropped (R783). -/
def State.depart (s : State) (w : WaitSend) : State :=
  let seq := tget 0 s.score.seqs w.stream
  let h : BoltHdr := ⟨seq, s.rank, w.drank, s.tempo.slice, w.stream, w.dblk, w.dpress, w.tally, w.lines, w.route⟩
  let p := 32 * w.die + w.src
  let payload := s.readBoard p (512 * w.sblk) h.bytes
  let exit := if w.route = 0 then none else routeLink w.route
  let goal := match exit with
    | some l => 8 + l / 6
    | none => w.dpress / 32
  let next := nextDie w.die goal
  let d : Desc :=
    { die := w.die, stream := w.stream, seq := seq, hdr := h, press := w.src, sblk := w.sblk, bar := s.tempo.barno
      resendBar := s.tempo.barno, n := if routeMc w.route then routeH w.route (routeLine w.route) else 1, mask := 0
      resends := 0, queued := false, resending := false, record := false }
  let s := s.digestSend w.die w.sbar h payload
  let s := { s with score := { s.score with seqs := tput 0 s.score.seqs w.stream ((seq + 1) % 2 ^ 16) } }
  let s := if s.replaying then s else
    let s := { s with score := { s.score with desc := s.score.desc ++ [d] } }
    let s := s.setF BLT_QUOTA [w.die] (quotaFld w.stream) (s.getF BLT_QUOTA [w.die] (quotaFld w.stream) - 1)
    (s.placeHold p w.sblk h.bytes).syncDarn
  if s.replaying && exit.isSome then s else s.addFlight
    { id := 0, hdr := h, payload := payload, pcrc := crc32c payload, hdrBad := false, bad := false, cut := false, resend := false, own := true
      at_ := next, inp := if next = w.die then .source else .seam w.die, held := false, exit := exit, split := false
      looked := false, entry := none, accepted := false, lines := 0 }

/-- A send tries to depart (R485); it waits otherwise. The counter of each condition that held it back at its last attempt counts
the `beats` of waiting since then. -/
def State.trySend (s : State) (w : WaitSend) (earlier : List WaitSend) (free : Bool) (beats : Nat) (now : Bool) :
    State × Option WaitSend :=
  let out := s.outputFree w earlier free
  let win := s.windowFree w
  let quo := s.quotaFree w
  let hol := s.holdsFree w
  let s := if !w.win then s else s.incF BLT_WIN_STALLS [w.die] BLT_WIN_STALLS.COUNT beats
  let s := if !w.quo then s else s.incF BLT_QUOTA_STALLS [w.die] BLT_QUOTA_STALLS.COUNT beats
  let s := if hol || w.full then s else s.incF PRS_HOLD_FULL (pix (32 * w.die + w.src)) PRS_HOLD_FULL.COUNT 1
  if out && win && quo && hol then
    ((if now then s else s.incF SCR_LATE_MOVES [w.die] SCR_LATE_MOVES.COUNT 1).depart w, none)
  else (s, some { w with late := true, full := w.full || !hol, win := !win, quo := !quo })

/-! ### Forwarding -/

/-- What the input of a flight shows is recorded (R472, R477 to R480); true when a flit of the bolt was lost. -/
def State.inputObs (s : State) (f : Flight) (obs : SkidObs) : State × Bool :=
  match f.inp with
  | .seam a => match portTo f.at_ a with
    | some q => s.seamSkid f.at_ q obs
    | none => (s, false)
  | .link l => s.linkSkid l obs
  | .source => (s, false)
  | .store => (s, false)

/-- The local copy of a multicast, or a bolt that enters its package, one hop inside (R466, R468). -/
def Flight.localCopy (f : Flight) : Flight :=
  let n := nextDie f.at_ (f.hdr.dpress / 32)
  { f with exit := none, split := false, held := false, at_ := n, inp := .seam f.at_ }

/-- The Seam port toward the next die of a flight takes Score flits. -/
def State.nextClear (s : State) (f : Flight) (goal : Nat) : Bool :=
  match portTo f.at_ (nextDie f.at_ goal) with
  | some q => s.seamClear f.at_ q
  | none => false

/-- A flight is stored whole at a Mangle die (R504), in linens of link channel `c`. -/
def State.storeBolt (s : State) (f : Flight) (exit : Option Nat) (c : Nat) : State :=
  let n := (f.hdr.lines + 2 + 3) / 4
  let r := State.linTakes f.at_ c n s
  { r.1 with score := { r.1.score with
    stored := r.1.score.stored ++ [⟨f.at_, f.hdr, f.payload, f.pcrc, f.bad || f.cut, f.own, exit, c, n - r.2⟩] } }

/-- Forget a flight without ending its resend (it goes on in another form). -/
def State.removeFlight (s : State) (f : Flight) : State :=
  { s with score := { s.score with flights := s.score.flights.filter (fun x => x.id != f.id) } }

/-- A head at the Mangle die of its exit link: the fence, a dead link, the store of a resend, and its outputs (R470, R472, R504,
R567, R830). -/
def State.exitHead (s : State) (f : Flight) (l : Nat) (free : Bool) : State :=
  let rest (s : State) : State :=
    if f.split then (s.removeFlight f).addFlight f.localCopy else s.dropFlight f
  if s.fenced l then
    if f.split && !(free && s.nextClear f (f.hdr.dpress / 32)) then s.setFlight { f with held := true }
    else rest (s.fenceCount f.at_ true)
  else if s.discarding l then
    if f.split && !(free && s.nextClear f (f.hdr.dpress / 32)) then s.setFlight { f with held := true }
    else rest (s.linkDiscard (f.hdr.lines + 2))
  else if f.resend && s.getF LNK_STATUS (lnk l) LNK_STATUS.PROFILE == 0 then
    (s.storeBolt f (some l) (l % 6)).removeFlight f
  else if free && s.canLeave l f.hdr && (!f.split || s.nextClear f (f.hdr.dpress / 32)) then
    rest (s.leaveOn l f.hdr f.payload f.pcrc (f.bad || f.cut))
  else s.setFlight { f with held := true }

/-- A head advances at its switch, or holds (R472): HCRC first (R481), then its outputs. -/
def State.advance (s : State) (f : Flight) (free : Bool) (obs : SkidObs) : State :=
  let r := s.inputObs f obs
  let s := r.1
  let f := { f with bad := f.bad || r.2 }
  if f.hdrBad then (s.headerBad f.at_).dropFlight f
  else if f.at_ = f.goal then
    match f.exit with
    | none => s.setFlight f
    | some l => if f.own && !f.looked then s.setFlight f else s.exitHead f l free
  else if free && s.nextClear f f.goal then
    s.setFlight { f with at_ := nextDie f.at_ f.goal, inp := .seam f.at_, held := false }
  else s.setFlight { f with held := true }

/-! ### Arrival over a link -/

/-- The link lies in the line dimension of a multicast: no hop of another dimension remains (R468). -/
def lineLink (l route : Nat) : Bool := routeHops route == routeH route (l % 6 / 2)

/-- A bolt that a Mangle die takes into the package from link l (R463, R468, R504): forwarded, crossed or delivered, a resend
stored whole. `free` tells whether the outputs it needs are free in its arrival beat. -/
def State.enterPackage (s : State) (l : Nat) (hdr : BoltHdr) (payload : List Byte) (pcrc : Nat) (bad cut resend free : Bool) : State :=
  let m := 8 + l / 6
  let fwd := if routeHops hdr.route = 0 then none else routeLink hdr.route
  let here := fwd.isNone || (routeMc hdr.route && lineLink l hdr.route)
  let noDest := here && !s.hasDie (hdr.dpress / 32)
  let s := if noDest then (s.setBit BLT_MFAULT [m] BLT_MFAULT.NO_DEST).incF BLT_MRX_DROP [m] BLT_MRX_DROP.COUNT 1 else s
  let deliver := here && !noDest
  let f : Flight :=
    { id := 0, hdr := hdr, payload := payload, pcrc := pcrc, hdrBad := false, bad := bad, cut := cut, resend := resend, own := false, at_ := m
      inp := .link l, held := false, exit := fwd, split := deliver && fwd.isSome, looked := false, entry := some l
      accepted := false, lines := 0 }
  if resend then
    let s := if deliver then s.storeBolt { f with exit := none } none (l % 6) else s
    match fwd with
    | some e => s.storeBolt f (some e) (l % 6)
    | none => s
  else if !deliver && fwd.isNone then s
  else
    let s := s.addFlight f
    match s.score.flights.getLast? with
    | some g => s.advance g free ⟨(s.lnkDyn l).skid, 0, 0⟩
    | none => s

/-- A bolt arriving on link l waits in the landing buffer for a take (R104, R105, R317, R593): in rubato, and on a boundary link. -/
def State.landsOn (s : State) (l : Nat) : Bool :=
  s.tempo.rubato || (s.linkCfg l).role == 2 || s.getF LNK_STATUS (lnk l) LNK_STATUS.PROFILE != 0

/-- The header of a bolt from a legacy link (R585). -/
def State.legacyIn (s : State) (l : Nat) (h : BoltHdr) : BoltHdr :=
  { h with srank := s.getF LNK_LGC_ID (lnk l) LNK_LGC_ID.PEER_RANK, drank := s.rank, slice := s.sliceId, route := 0 }

/-- The checks of a head from a link (R481, R489, R567, R589), and where the bolt goes. A bolt cut short that would have been stored
whole, as a resend or in the landing buffer, is lost (DEDUCED, log entry 20) (DEDUCED, log entry 27). -/
def State.boltFromLink (s : State) (l : Nat) (h : BoltHdr) (hdrBad : Bool) (payload : List Byte) (pcrc : Nat) (bad cut resend free : Bool) :
    State :=
  let m := 8 + l / 6
  if s.fenced l then s.fenceCount m false
  else if hdrBad then s.headerBad m
  else if !s.sliceOk h.slice then s.sliceBadM m
  else if cut && (resend || s.landsOn l) then s
  else if !resend && s.landsOn l then
    { s with score := { s.score with landed := s.score.landed ++ [⟨l, h, payload, pcrc, false, bad⟩] } }
  else s.enterPackage l h payload pcrc bad cut resend free

/-! ### Takes -/

/-- A take releases the oldest bolt of a link's landing buffer (R317), with its credit linens on G1 (R598); none when no bolt is held. -/
def State.takeBolt (s : State) (l : Nat) (free : Bool) : Option State :=
  (s.score.landed.find? (fun b => b.link == l)).map (fun b =>
    let s := { s with score := { s.score with landed := dropFirst (fun x => x.link == l) s.score.landed } }
    let s := if s.getF LNK_STATUS (lnk l) LNK_STATUS.PROFILE = 2 then s.freeCredits l (segPackets b.payload.length) else s
    s.enterPackage l b.hdr b.payload b.pcrc b.bad false false free)

/-! ### Arrival at the destination -/

/-- A knot or snag joins the knot queue of a Press die, or is dropped (R495). Only entries of one REM join (DEDUCED, log entry 26). -/
def State.queueKnot (s : State) (die : Nat) (snag : Bool) (srank stream seq rem : Nat) : State :=
  let q := tget [] s.score.knotQ die
  let fits (k : Knot) : Bool := k.snag == snag && k.srank == srank && k.stream == stream && k.rem == rem &&
    decide ((seq + 2 ^ 16 - k.base) % 2 ^ 16 < 64)
  let put (l : List Knot) : State := { s with score := { s.score with knotQ := tput [] s.score.knotQ die l } }
  match q.findIdx? fits with
  | some i => put (q.modify i (fun k => { k with mask := k.mask ||| 2 ^ ((seq + 2 ^ 16 - k.base) % 2 ^ 16) }))
  | none =>
    if q.length < 64 then put (q ++ [⟨snag, srank, stream, seq, 1, rem⟩])
    else s.incF BLT_KNOT_DROP [die] BLT_KNOT_DROP.COUNT 1

/-- Add to a tally (R494, R539): it stays at 65,535 and then sets TALLY_SAT, and its die's book is unchecked (R790). -/
def State.addTally (s : State) (die t n : Nat) : State :=
  let new := tget 0 s.score.tallies (256 * die + t) + n
  let s := { s with score := { s.score with tallies := tput 0 s.score.tallies (256 * die + t) (min 65535 new) } }
  if 65535 < new then
    { s with score := { s.score with tallySat := tput false s.score.tallySat die true } }.setBit BLT_PFAULT [die] BLT_PFAULT.TALLY_SAT
  else s

/-- REM of a receiver (R469). -/
def Flight.rem (f : Flight) : Nat := routeHops f.hdr.route

/-- The window of a pair on a die (R491). -/
def State.window (s : State) (die srank stream : Nat) : Option Window :=
  s.score.windows.find? (fun w => w.die == die && w.srank == srank && w.stream == stream)

/-- Replace or allocate a window; BLT_WINDOWS counts those in use (R492). -/
def State.setWindow (s : State) (w : Window) : State :=
  let same (x : Window) : Bool := x.die == w.die && x.srank == w.srank && x.stream == w.stream
  let ws := s.score.windows.filter (fun x => !same x) ++ [w]
  let s := { s with score := { s.score with windows := ws } }
  s.setF BLT_WINDOWS [w.die] BLT_WINDOWS.USED (ws.filter (fun x => x.die == w.die)).length

/-- b moves past every consecutive RECEIVED bit (R491), `fuel` at most. -/
def Window.slide : Nat → Window → Window
  | 0, w => w
  | fuel + 1, w =>
    if w.received % 2 = 1 then
      Window.slide fuel { w with base := (w.base + 1) % 2 ^ 16, received := w.received / 2, landing := w.landing / 2 }
    else w

/-- Write lines of an accepted bolt, from those done up to `upto`, as far as no block is held (R200, R491), `fuel` at most. -/
def State.landLines (p : Nat) (f : Flight) (upto : Nat) : Nat → State → State × Nat
  | 0, s => (s, f.lines)
  | fuel + 1, s =>
    if upto ≤ f.lines ∨ f.hdr.lines < f.lines then (s, f.lines)
    else
      let a := 512 * f.hdr.dblk + 64 * f.lines
      if s.heldRange p a 64 then (s, f.lines)
      else
        let bs := Sys2Proof.Machine.slice f.payload (64 * f.lines) 64
        let s := s.writeBoard p a bs
        State.landLines p { f with lines := f.lines + 1 } upto fuel (if f.entry.isSome then s.logItem (.board p a bs) else s)

/-- A discard at the head of a destination die, counted in BLT_RX_DROP (R490). -/
def State.rxDrop (s : State) (f : Flight) (flag : Fld) : State :=
  ((s.setBit BLT_PFAULT [f.at_] flag).incF BLT_RX_DROP [f.at_] BLT_RX_DROP.COUNT 1).dropFlight f

/-- The checks of R490 at the die that holds DPRESS, and the head column of R491. `upto` lines land before anything else happens. -/
def State.acceptHead (s : State) (f : Flight) (upto : Nat) : State :=
  let die := f.at_
  let h := f.hdr
  let dup (s : State) (knot : Bool) : State :=
    let s := if knot then s.queueKnot die false h.srank h.stream h.seq f.rem else s
    (s.incF BLT_RX_DUP [die] BLT_RX_DUP.COUNT 1).dropFlight f
  if f.hdrBad then (s.headerBad die).dropFlight f
  else if !s.sliceOk h.slice then s.rxDrop f BLT_PFAULT.SLICE_BAD
  else if f.rem = 0 ∧ h.drank ≠ s.rank then s.rxDrop f BLT_PFAULT.MISROUTE
  else if !s.pressUp h.dpress then s.rxDrop f BLT_PFAULT.DEST_AWAY
  else
    match (match s.window die h.srank h.stream with
      | some w => some w
      | none => if (s.score.windows.filter (fun w => w.die == die)).length < 2048 then some ⟨die, h.srank, h.stream, 0, 0, 0⟩ else none) with
    | none => ((s.rxDrop f BLT_PFAULT.WIN_FULL)).logBits die BLT_PFAULT [die] (2 ^ BLT_PFAULT.WIN_FULL.lo)
    | some w =>
      let s := s.setWindow w
      let d := serialDiff 16 h.seq w.base
      if d < 0 then dup s true
      else if 1024 ≤ d then (s.setBit BLT_PFAULT [die] BLT_PFAULT.BEYOND).dropFlight f
      else if w.received.testBit d.toNat then dup s true
      else if w.landing.testBit d.toNat then dup s false
      else
        let s := s.setWindow { w with landing := w.landing ||| 2 ^ d.toNat }
        let r := State.landLines h.dpress f upto 129 s
        r.1.setFlight { f with accepted := true, lines := r.2 }

/-- The bolt of an accepted flight ends (R491): PCRC decides. -/
def State.boltDone (s : State) (f : Flight) : State :=
  let die := f.at_
  let h := f.hdr
  let w := (s.window die h.srank h.stream).getD ⟨die, h.srank, h.stream, 0, 0, 0⟩
  let i := (serialDiff 16 h.seq w.base).toNat
  let w := { w with landing := if w.landing.testBit i then w.landing - 2 ^ i else w.landing }
  let s := s.dropFlight f
  if f.bad || crc32c f.payload != f.pcrc then
    ((s.setWindow w).queueKnot die true h.srank h.stream h.seq f.rem).incF BLT_RX_BAD [die] BLT_RX_BAD.COUNT 1
  else
    let s := s.setWindow (Window.slide 1024 { w with received := w.received ||| 2 ^ i })
    let s := s.addTally die h.tally 1
    let s := if f.entry.isSome then s.logItem (.tally die h.tally 1) else s
    let s := { s with books := { s.books with accepted := tput 0 s.books.accepted die (tget 0 s.books.accepted die + 1) } }
    (s.queueKnot die false h.srank h.stream h.seq f.rem).incF BLT_RX_GOOD [die] BLT_RX_GOOD.COUNT 1

/-- An input that leaves UP abandons the bolts it was bringing (R493): their LANDING mark is cleared. -/
def State.abandon (s : State) (f : Flight) : State :=
  let die := f.at_
  let w := (s.window die f.hdr.srank f.hdr.stream).getD ⟨die, f.hdr.srank, f.hdr.stream, 0, 0, 0⟩
  let i := (serialDiff 16 f.hdr.seq w.base).toNat
  let s := s.setWindow { w with landing := if w.landing.testBit i then w.landing - 2 ^ i else w.landing }
  ((s.setBit BLT_PFAULT [die] BLT_PFAULT.ABANDONED).incF BLT_RX_DROP [die] BLT_RX_DROP.COUNT 1).dropFlight f

/-- The lines of an accepted flight land; with the last of them the bolt ends, and one that was cut short is abandoned (R493). A line that reaches a held block waits (R200). -/
def State.landFlight (s : State) (f : Flight) : State :=
  let r := State.landLines f.hdr.dpress f 128 129 s
  let f := { f with lines := r.2 }
  if f.cut then r.1.abandon f
  else if f.hdr.lines < f.lines then r.1.boltDone f
  else r.1.setFlight { f with held := true }

/-- What leaving UP does to the bolts of an input (R493): accepted ones are abandoned, others lose their tail. -/
def State.inputDown (s : State) (test : Flight → Bool) : State :=
  (s.score.flights.filter test).foldl (fun s f => if f.accepted then s.abandon f else s.setFlight { f with cut := true }) s

/-! ### Knots and snags at the source -/

/-- One sequence number of a knot or snag on a held descriptor (R500, R501). -/
def State.knotBit (s : State) (m : Nat) (snag : Bool) (rem : Nat) (d : Desc) : State :=
  if snag then
    if d.queued || d.resending then s else (s.incF BLT_SNAGS [m] BLT_SNAGS.COUNT 1).queueResend d
  else
    let mask := d.mask ||| 2 ^ rem
    if mask % 2 ^ d.n = 2 ^ d.n - 1 then (s.incF BLT_KNOTS [m] BLT_KNOTS.COUNT 1).releaseDesc d
    else s.mapDesc d.stream d.seq (fun x => { x with mask := mask })

/-- A knot or snag at its Mangle die (R499 to R501). -/
def State.applyKnot (s : State) (m : Nat) (k : Knot) : State :=
  let on := (List.range 64).filter (fun i => k.mask.testBit i)
  let seqOf (i : Nat) : Nat := (k.base + i) % 2 ^ 16
  let held (i : Nat) : Option Desc := (s.descOf k.stream (seqOf i)).bind (fun d => if streamMangle d.stream == m then some d else none)
  let early := on.filter (fun i => (held i).any (fun d => !d.record))
  let stale := (on.filter (fun i => (held i).isNone)).length
  let s := (on.filter (fun i => (held i).any (fun d => d.record))).foldl (fun s i =>
    match s.descOf k.stream (seqOf i) with
    | some d => s.knotBit m k.snag k.rem d
    | none => s) s
  let buf := tget [] s.score.early m
  if early.isEmpty then s.incF BLT_KNOT_STALE [m] BLT_KNOT_STALE.COUNT stale
  else if buf.length < 64 then
    let e : Knot := { k with mask := early.foldl (fun a i => a + 2 ^ i) 0 }
    ({ s with score := { s.score with early := tput [] s.score.early m (buf ++ [e]) } }).incF BLT_KNOT_STALE [m] BLT_KNOT_STALE.COUNT stale
  else s.incF BLT_KNOT_STALE [m] BLT_KNOT_STALE.COUNT (stale + early.length)

/-- A descriptor record lands (R499): the early knots and snags for it are applied, knots first (R500). -/
def State.recordArrives (s : State) (d : Desc) : State :=
  let m := streamMangle d.stream
  let s := s.mapDesc d.stream d.seq (fun x => { x with record := true })
  let hits (k : Knot) : Bool := k.stream == d.stream && k.mask.testBit ((d.seq + 2 ^ 16 - k.base) % 2 ^ 16)
  let buf := tget [] s.score.early m
  let bit := fun (k : Knot) => (d.seq + 2 ^ 16 - k.base) % 2 ^ 16
  let left := (buf.map (fun k => if hits k then { k with mask := k.mask - 2 ^ bit k } else k)).filter (fun k => k.mask != 0)
  let s := { s with score := { s.score with early := tput [] s.score.early m left } }
  let mine := buf.filter hits
  (mine.filter (fun k => !k.snag) ++ mine.filter (fun k => k.snag)).foldl (fun s k =>
    s.applyKnot m { k with base := d.seq, mask := 1 }) s

end Sys2Proof.Machine
end

