-- ==== Sys2Proof/Machine/ClockOps.lean ====
section
/-! DEFINITION. The reference PLL: its sources, loss, qualification, switchover and holdover (03_clocks.md, section 2). Sources are numbered
as CLK_REF_STATUS.ACTIVE numbers them: 0 REFCLK_A, 1 REFCLK_B, 2 tempo-source link, 3 backup link, 4 holdover, 5 free-run. -/

namespace Sys2Proof.Machine

/-- A source is qualified (CLK_REF_STATUS[3:0]). -/
def State.refQual (s : State) (x : Nat) : Bool := decide (x < 4) && bitOf (s.reg CLK_REF_STATUS []) x

/-- What the reference PLL follows. -/
def State.refActive (s : State) : Nat := s.getF CLK_REF_STATUS [] CLK_REF_STATUS.ACTIVE

/-- Forwarded mode is configured (CLK_FWD_CFG.MODE). -/
def State.forwarded (s : State) : Bool := s.bit CLK_FWD_CFG [] CLK_FWD_CFG.MODE

/-- The configured sources, the first choice first (R136). -/
def State.refSources (s : State) : List Nat :=
  if s.forwarded then (if s.bit CLK_FWD_CFG [] CLK_FWD_CFG.BACKUP_VALID then [2, 3] else [2])
  else
    let p := s.getF CLK_REF_CFG [] CLK_REF_CFG.PREFER
    [p, 1 - p]

/-- Log bits of CLK_REF_STATUS as they are set (R166). -/
def State.refSet (s : State) (f : Fld) : State := s.setLogged 10 CLK_REF_STATUS [] f

/-- The active source is configured and qualified. -/
def State.refActiveOk (s : State) : Bool := s.refSources.contains s.refActive && s.refQual s.refActive

/-- The source that a switchover, begun or due, ends on (R136 to R138); none when there is none. -/
def State.refWanted (s : State) : Option Nat :=
  let q := s.refSources.filter s.refQual
  if 4 ≤ s.refActive then none
  else if s.refActiveOk then
    if s.pwr.switching then (match q.head? with
      | some x => if x = s.refActive then none else some x
      | none => none)
    else none
  else q.head?

/-- The PLL after a change of a source: its first lock (R164), the end of holdover (R142), or holdover when no configured source is
qualified (R136, R139, R140). A switchover to another source is still to complete (R137). -/
def State.refSettle (s : State) : State :=
  let q := s.refSources.filter s.refQual
  match q.head? with
  | some x =>
    if s.refActive = 5 then s.setF CLK_REF_STATUS [] CLK_REF_STATUS.ACTIVE x
    else if s.refActive = 4 then
      (((s.setF CLK_REF_STATUS [] CLK_REF_STATUS.ACTIVE x).setF CLK_REF_STATUS [] CLK_REF_STATUS.HOLD_EXP 0).refSet CLK_REF_STATUS.RETURNED)
    else s
  | none =>
    if 4 ≤ s.refActive then s
    else
      let s := (s.setF CLK_REF_STATUS [] CLK_REF_STATUS.ACTIVE 4).incF CLK_REF_STATUS [] CLK_REF_STATUS.SWITCHES 1
      ((s.setReg CLK_HOLDOVER [] 0).setF CLK_REF_STATUS [] CLK_REF_STATUS.HOLD_EXP 0).refSet CLK_REF_STATUS.HOLDOVER

/-- A qualified source is lost (R134, R162). A switchover under way between two qualified sources ends with it. -/
def State.refLost (s : State) (x : Nat) : State :=
  if s.refQual x then
    let s := { s with pwr := { s.pwr with switching := false } }
    ((s.setF CLK_REF_STATUS [] ⟨x, 1⟩ 0).refSet ⟨8 + x, 1⟩).refSettle
  else s

/-- A source becomes qualified (R135, R138). -/
def State.refQualified (s : State) (x : Nat) : State :=
  let s := s.setF CLK_REF_STATUS [] ⟨x, 1⟩ 1
  let back := s.bit CLK_REF_CFG [] CLK_REF_CFG.REVERT && s.refSources.head? == some x && s.refActive != x
  (if back then { s with pwr := { s.pwr with switching := true } } else s).refSettle

/-- A link source: native, UP and on profile N (R148). -/
def State.linkSource (s : State) (l : Nat) : Bool :=
  decide (l < 12) && s.linkUp l && s.getF LNK_STATUS (lnk l) LNK_STATUS.PROFILE == 0

/-- The link sources follow their links (R148): one that is no longer trained is lost, one that is trained qualifies. -/
def State.linkSources (s : State) : State :=
  let src := s.getF CLK_FWD_CFG [] CLK_FWD_CFG.SRC_LINK
  let bak := s.getF CLK_FWD_CFG [] CLK_FWD_CFG.BACKUP_LINK
  let one (s : State) (x : Nat) (on : Bool) : State := if on && !s.refQual x then s.refQualified x else if on then s else s.refLost x
  let s := one s 2 (s.forwarded && s.linkSource src)
  one s 3 (s.forwarded && s.bit CLK_FWD_CFG [] CLK_FWD_CFG.BACKUP_VALID && s.linkSource bak)

end Sys2Proof.Machine
end

