-- ==== Sys2Proof/Machine/LinkOps.lean ====
section
/-! DEFINITION. Links and Seams: their states, leaving UP, retrains, admission (08_links.md; 12_mixed_generations.md, R599). -/

namespace Sys2Proof.Machine

/-! ### Links -/

/-- State and profile of link l (LNK_STATUS): 0 OFF, 1 WAKE, 2 FRAME, 3 QUALIFY, 4 MEASURE, 5 ADMIT, 6 UP, 7 DOWN, 8 QUIET; 0 N, 1 G2,
2 G1, 3 OFF. -/
def State.linkState (s : State) (l : Nat) : Nat := s.getF LNK_STATUS (lnk l) LNK_STATUS.STATE
def State.linkProfile (s : State) (l : Nat) : Nat := s.getF LNK_STATUS (lnk l) LNK_STATUS.PROFILE
/-- Set the state of link l. -/
def State.setLinkState (s : State) (l st : Nat) : State := s.setF LNK_STATUS (lnk l) LNK_STATUS.STATE st

/-- The link is the tempo-source link or its backup (R148, R447, R451): CLK_FWD_CFG with MODE = 1. -/
def State.tempoSource (s : State) (l : Nat) : Bool :=
  s.bit CLK_FWD_CFG [] CLK_FWD_CFG.MODE && (s.getF CLK_FWD_CFG [] CLK_FWD_CFG.SRC_LINK == l ||
    (s.bit CLK_FWD_CFG [] CLK_FWD_CFG.BACKUP_VALID && s.getF CLK_FWD_CFG [] CLK_FWD_CFG.BACKUP_LINK == l))

/-- A G1 link leaves UP (R599): the peer credits and INIT_DONE go to 0, an incomplete inbound bolt frees its linens, and a bolt partly
sent goes again from its first packet. -/
def State.g1Down (s : State) (l : Nat) : State :=
  let x := tget {} s.legacy l
  s.setLegacy l { x with
    segs := [], segBad := false, sent := 0, peerCredits := 0, used := x.used - x.segs.length, owed := 0, initTx := false, initRx := false }

/-- What training starts from: no rounds, no admission, its class 3 (R427 to R434). -/
def State.startTraining (s : State) (l st : Nat) : State :=
  let x := s.lnkDyn l
  let s := if s.linkProfile l = 2 then s.g1Down l else s
  let s := s.setLnkDyn l { x with
    uncorr := [], missing := 0, rounds := [], stamp := none, qualCorr := 0, proposed := none, peerAdmit := none, holdRx := false }
  let s := ((s.setF LNK_STATUS (lnk l) LNK_STATUS.CLASS 3).setF LNK_PEER (lnk l) LNK_PEER.VALID 0).setF BLT_LSKID_RES
    [8 + l / 6, l % 6] BLT_LSKID_RES.LINENS 0
  s.setLinkState l st

/-- A link leaves its state for one in which it is not UP: DOWN is recorded when it was UP (LNK_EVENT). -/
def State.linkLeave (s : State) (l st : Nat) : State :=
  let s := if s.linkUp l then
      s.setLogged (8 + l / 6) LNK_EVENT (lnk l) LNK_EVENT.DOWN
    else s
  (s.startTraining l st).linkSources

/-- A training state fails (R427): CAUSE is set, and the link is DOWN. -/
def State.linkFail (s : State) (l cause : Nat) : State := (s.setF LNK_STATUS (lnk l) LNK_STATUS.CAUSE cause).linkLeave l 7

/-- A retrain trigger of R441: from UP the link leaves it for WAKE or FRAME; training under way goes back when that lies before;
OFF and DOWN stay. -/
def State.linkRetrain (s : State) (l : Nat) (full : Bool) : State :=
  let at_ := if full then 1 else 2
  let st := s.linkState l
  if s.linkUp l then
    ((s.incF LNK_RETRAINS (lnk l) LNK_RETRAINS.COUNT 1).setBit LNK_EVENT (lnk l) LNK_EVENT.RETRAIN).linkLeave l at_
  else if at_ < st ∧ st ≤ 5 then s.startTraining l at_
  else s

/-- ENABLE is set on a link that is OFF and whose profile is not OFF: it trains (R427). -/
def State.linkStart (s : State) (l : Nat) : State :=
  if s.bit LNK_CTRL (lnk l) LNK_CTRL.ENABLE && s.linkState l == 0 && s.linkProfile l != 3 && !s.linkInReset l then s.startTraining l 1
  else s

/-- The class that an end proposes (R433, R434, R436): A, B or rubato-only; true when a requested class is missed
(DEDUCED, log entry 16). -/
def State.proposal (s : State) (l raw : Nat) : Nat × Bool :=
  let auto := if raw ≤ 240 then 0 else if raw ≤ 1008 then 1 else 2
  if s.linkProfile l ≠ 0 then (2, false)
  else match s.getF LNK_CTRL (lnk l) LNK_CTRL.CLASS_REQ with
    | 0 => (auto, false)
    | 1 => if raw ≤ 240 then (0, false) else (2, true)
    | 2 => if raw ≤ 1008 then (1, false) else (2, true)
    | _ => (2, false)

/-- A LINK flit (R430). -/
def State.linkFlit (s : State) (l sub cls stamp turn raw : Nat) : List Byte :=
  crcFlit (leBytes 1 0x4C ++ leBytes 1 sub ++ leBytes 1 l ++ leBytes 1 cls ++ leBytes 4 stamp ++ leBytes 2 turn ++ leBytes 2 raw ++
    leBytes 2 s.chip)

/-- The next echo round starts with a request stamped `beat` (R431). -/
def State.sendEcho (s : State) (l beat : Nat) : State :=
  (s.txFlit l (s.linkFlit l 0x01 0 beat 0 0)).setLnkDyn l { s.lnkDyn l with stamp := some beat }

/-- Both ends have proposed (R433 to R435): the peer's identity is checked, the larger class adopted, the pad set, and the skid's
reservation made (R477). -/
def State.linkAdmit (s : State) (l : Nat) : State :=
  let x := s.lnkDyn l
  match x.proposed, x.peerAdmit with
  | some mine, some (cls, id, chip) =>
    let s := ((s.setF LNK_PEER (lnk l) LNK_PEER.CHIP chip).setF LNK_PEER (lnk l) LNK_PEER.LINK id).setF LNK_PEER (lnk l) LNK_PEER.VALID 1
    if id ≠ l ^^^ 1 then ((s.setLogged (8 + l / 6) LNK_EVENT (lnk l) LNK_EVENT.MISCABLED).linkFail l 5)
    else if x.peerProfile ≠ s.linkProfile l then s.linkFail l 6
    else
      let c := max mine cls
      let raw := s.getF LNK_LATENCY (lnk l) LNK_LATENCY.RAW
      let pad := if c = 0 then 256 - raw else if c = 1 then 1024 - raw else 0
      let s := (s.setF LNK_STATUS (lnk l) LNK_STATUS.CLASS c).setF LNK_LATENCY (lnk l) LNK_LATENCY.PAD pad
      s.setF BLT_LSKID_RES [8 + l / 6, l % 6] BLT_LSKID_RES.LINENS (s.skidReservation l)
  | _, _ => s

/-- Result bytes of LINK_RETRAIN for a link, or for a Seam's port (R449). -/
def State.linkResult (s : State) (l : Nat) : List Byte :=
  leBytes 2 (s.getF LNK_LATENCY (lnk l) LNK_LATENCY.RAW) ++ leBytes 2 (s.getF LNK_LATENCY (lnk l) LNK_LATENCY.PAD) ++
  leBytes 1 (s.getF LNK_STATUS (lnk l) LNK_STATUS.CLASS) ++ leBytes 1 (s.linkState l) ++
  leBytes 1 (s.getF LNK_STATUS (lnk l) LNK_STATUS.CAUSE)
def State.seamResult (s : State) (d q : Nat) : List Byte :=
  leBytes 2 (s.getF SEAM_STATUS [d, q] SEAM_STATUS.RAW) ++ leBytes 2 (s.getF SEAM_STATUS [d, q] SEAM_STATUS.PAD) ++
  leBytes 1 0 ++ leBytes 1 (s.getF SEAM_STATUS [d, q] SEAM_STATUS.STATE) ++ leBytes 1 (s.getF SEAM_STATUS [d, q] SEAM_STATUS.CAUSE)

/-- The result bytes of a target of LINK_RETRAIN (R448). -/
def State.retrainResult (s : State) (t : Nat) : List Byte :=
  if t < 12 then s.linkResult t
  else match seamNames[t - 0x80]? with
    | some (d, q) => s.seamResult d q
    | none => []

/-- The LINK_RETRAIN commands that wait for a target complete (R449). -/
def State.retrainDone (s : State) (t st : Nat) : State :=
  let cs := (s.waiters .retrain).filter (fun c => c.par 0 1 == t)
  let s := { s with front := { s.front with waiting := s.front.waiting.filter (fun x => !(x.1 == .retrain && x.2.par 0 1 == t)) } }
  cs.foldl (fun s c => s.complete c st (s.retrainResult t)) s

/-- The link enters UP (R427, R449, R830). -/
def State.linkEnterUp (s : State) (l : Nat) : State :=
  let s := (s.setLinkState l 6).setBit LNK_EVENT (lnk l) LNK_EVENT.UP
  let s := { s with pwr := { s.pwr with giveUp := s.pwr.giveUp.filter (fun x => x != l) } }
  s.linkSources.retrainDone l stOk

/-! ### Seams -/

/-- The state of a Seam port: 0 OFF, 1 UCIE_INIT, 2 MEASURE, 3 ALIGN, 4 UP, 5 DOWN (SEAM_STATUS). -/
def State.seamState (s : State) (d q : Nat) : Nat := s.getF SEAM_STATUS [d, q] SEAM_STATUS.STATE

/-- The far end of a Seam port. -/
def seamPeer (d q : Nat) : Nat × Nat := (seamFar d).getD q (15, 0)

/-- A port leaves its state for one in which it is not UP (R443, R493). -/
def State.seamLeave (s : State) (d q st : Nat) : State :=
  let up := s.seamState d q == 4
  let s := if up then s.setLogged d SEAM_EVENT [d, q] SEAM_EVENT.DOWN else s
  let x := s.seamDyn d q
  let s := s.setSeamDyn d q { x with rounds := [], stamp := none, holdRx := false }
  let s := s.setF SEAM_STATUS [d, q] SEAM_STATUS.STATE st
  if up then s.inputDown (fun f => f.at_ == d && f.inp == .seam (seamPeer d q).1) else s

/-- A retrain trigger of R441 at one port. -/
def State.portRetrain (s : State) (d q : Nat) (full : Bool) : State :=
  let at_ := if full then 1 else 2
  let st := s.seamState d q
  if st = 4 then (s.setBit SEAM_EVENT [d, q] SEAM_EVENT.RETRAIN).seamLeave d q at_
  else if at_ < st ∧ st ≤ 3 then s.seamLeave d q at_
  else s

/-- A Seam retrains at both its ends (R441) (DEDUCED, log entry 95). -/
def State.seamRetrain (s : State) (d q : Nat) (full : Bool) : State :=
  let p := seamPeer d q
  let s := s.portRetrain d q full
  if p.1 < 12 then s.portRetrain p.1 p.2 full else s

/-- A Seam fails (R417, R438): CAUSE is set, and it is DOWN. -/
def State.seamFail (s : State) (d q cause : Nat) : State :=
  (s.setF SEAM_STATUS [d, q] SEAM_STATUS.CAUSE cause).seamLeave d q 5

/-- The number of the Seam of a port in the order of R30. -/
def seamIndex (d q : Nat) : Option Nat :=
  match seamNames.findIdx? (fun x => x == (d, q)) with
  | some i => some i
  | none => seamNames.findIdx? (fun x => x == seamPeer d q)

/-- The eight agreeing rounds of a measurement (R432): the largest value. -/
def roundsAgree (rs : List Nat) : Bool := decide (rs.foldl max 0 ≤ rs.foldl min (rs.headD 0) + 1)

end Sys2Proof.Machine
end

