-- ==== Sys2Proof/Machine/G1Ops.lean ====
section
/-! DEFINITION. The packets of a G1 link and its admission (12_mixed_generations.md, R594, R596, R598). -/

namespace Sys2Proof.Machine

/-- A G1 packet (R594): PTYPE, FLAGS, CRED, LEN, DNODE, SNODE, KINDS, SEQ and payload, with its CRC. -/
def g1Packet (ptype flags cred len dnode snode kinds seq : Nat) (payload : List Byte) : List Byte :=
  let b := leBytes 1 ptype ++ leBytes 1 flags ++ leBytes 1 cred ++ leBytes 1 len ++ leBytes 2 dnode ++ leBytes 2 snode ++ leBytes 2 kinds ++
    leBytes 2 seq ++ slice payload 0 240
  b ++ leBytes 4 (crc32c b)

/-- The CRC of a packet holds. -/
def g1Ok (p : List Byte) : Bool := p.length == 256 && leAt p 252 4 == crc32c (slice p 0 252)

/-- The node IDs of link l: the peer's, and the bridge's own (R585, R604). -/
def State.selfId (s : State) (l : Nat) : Nat := s.getF LNK_LGC_ID (lnk l) LNK_LGC_ID.SELF_ID
def State.peerLid (s : State) (l : Nat) : Nat :=
  (s.rankEntry (8 + l / 6) (s.getF LNK_LGC_ID (lnk l) LNK_LGC_ID.PEER_RANK)) / 2 ^ 36 % 2 ^ 14

/-- Send a packet with the credits that wait to be returned (R598): at most 64, the rest later. -/
def State.g1Send (s : State) (l : Nat) (mk : Nat → List Byte) : State :=
  let x := tget {} s.legacy l
  let n := min 64 x.owed
  ((s.txFlit l (mk n)).setLegacy l { x with owed := x.owed - n }).incF LNK_LGC_TX (lnk l) LNK_LGC_TX.COUNT 1

/-- This end sends INIT with its grant (R596, R598). -/
def State.sendInit (s : State) (l : Nat) : State :=
  let x := tget {} s.legacy l
  let s := (s.txFlit l (g1Packet 0x04 0 (64 - x.used) 0 0 (s.selfId l) 0 0 [])).incF LNK_LGC_TX (lnk l) LNK_LGC_TX.COUNT 1
  s.setLegacy l { x with owed := 0, initTx := true }

/-- Both INITs have passed: the link is admitted rubato-only, with the peer's node (R437, R596). -/
def State.g1Admit (s : State) (l : Nat) : State :=
  let x := tget {} s.legacy l
  if x.initTx && x.initRx && s.linkState l == 5 then
    (((s.setF LNK_STATUS (lnk l) LNK_STATUS.CLASS 2).setF LNK_PEER (lnk l) LNK_PEER.VALID 1).setF BLT_LSKID_RES
      [8 + l / 6, l % 6] BLT_LSKID_RES.LINENS (s.skidReservation l)).linkEnterUp l
  else s

end Sys2Proof.Machine
end

