-- ==== Sys2Proof/Machine/Links.lean ====
section
/-! DEFINITION. The events and commands of links and Seams: codewords, beats, notices, training, retrains, sleep (08_links.md). -/

namespace Sys2Proof.Machine

/-! ### Codewords -/

/-- A non-Score flit is of a known TYPE, and every byte that its layout reserves is 0 (R406, R407). -/
def plainFlitOk (f : List Byte) : Bool :=
  let zero (i n : Nat) : Bool := (slice f i n).all (fun b => b == 0)
  match leAt f 0 1 with
  | 0x00 => zero 1 63
  | 0x4C => zero 14 46
  | 0x7A => zero 1 31
  | 0xC1 => zero 24 36
  | 0xD1 => zero 27 1 && zero 32 28
  | _ => false

/-- The alignment markers of a frame (R408, R410, R411, R429, R442): lane errors, the peer's state, and the retrains they call for. -/
def State.markers (s : State) (l : Nat) (m : Marker) : State :=
  let n := s.linkState l
  let s := (List.range 8).foldl (fun s i =>
    s.incF LNK_LANE_ERR (lnk l ++ [i]) LNK_LANE_ERR.COUNT (b2n (m.bip.toNat.testBit i) + b2n (m.missing.toNat.testBit i))) s
  let twice := (s.lnkDyn l).missing &&& m.missing.toNat
  let s := s.setLnkDyn l { s.lnkDyn l with missing := m.missing.toNat, peerProfile := m.profile }
  if twice ≠ 0 then s.linkRetrain l true
  else if m.retrain && s.linkUp l then s.linkRetrain l m.full
  else if !m.rxOk && decide (3 ≤ n) && decide (n ≤ 5) then s.startTraining l 1
  else s

/-- A codeword that could not be corrected (R409, R427, R441). -/
def State.badCodeword (s : State) (l : Nat) : State :=
  let s := s.incF LNK_FEC_UNCORR (lnk l) LNK_FEC_UNCORR.COUNT 1
  let x := s.lnkDyn l
  let s := s.setLnkDyn l { x with holdRx := true }
  if s.linkState l = 3 then s.linkFail l 3
  else if s.linkUp l then
    let s := s.setLnkDyn l { s.lnkDyn l with uncorr := (s.lnkDyn l).uncorr ++ [0] }
    if s.getF LNK_CTRL (lnk l) LNK_CTRL.UNCORR_MAX ≤ (s.lnkDyn l).uncorr.length then s.linkRetrain l false else s
  else s

/-- A codeword that is good or was corrected (R405 to R407, R409, R412): its symbols, its HOLD, and its unknown flits. -/
def State.goodCodeword (s : State) (l : Nat) (cw : Codeword) : State :=
  let s := s.incF LNK_FEC_CORR (lnk l) LNK_FEC_CORR.COUNT cw.corr
  let x := s.lnkDyn l
  let s := s.setLnkDyn l { x with holdRx := cw.ctl.toNat.testBit 10, qualCorr := if s.linkState l = 3 then x.qualCorr + cw.corr else x.qualCorr }
  let bad := (cw.flits.zipIdx).filter (fun f => !cw.ctl.toNat.testBit f.2 && !plainFlitOk f.1)
  s.incF LNK_FEC_UNCORR (lnk l) LNK_FEC_UNCORR.BAD_TYPE bad.length

/-- CODEWORD_RECEIVE (R407 to R412, R415, R427, R429, R441). The flits it carries act by their own rows. -/
def execCodewordReceive (l : Fin 12) (cw : Codeword) (s : State) : Host.Outcome State Fault Refusal :=
  .next (
    let n := s.linkState l
    if ((2 ≤ n ∧ n ≤ 6) ∨ n = 8) ∧ s.linkProfile l ≠ 2 then
      let s := s.incF LNK_HOLD_OBEYED (lnk l) LNK_HOLD_OBEYED.COUNT cw.obeyed
      let x := s.lnkDyn l
      let s := if s.linkUp l then
          s.setLnkDyn l { x with uncorr := (x.uncorr.map (fun a => a + 1)).filter (fun a => decide (a < 1024)) }
        else s
      let s := if cw.uncorr then s.badCodeword l else s.goodCodeword l cw
      match cw.marker with
      | some m => s.markers l m
      | none => s
    else if n ≠ 0 ∧ n ≠ 7 ∧ s.linkProfile l = 2 then
      if cw.uncorr then s.badCodeword l
      else s.incF LNK_FEC_CORR (lnk l) LNK_FEC_CORR.COUNT cw.corr
    else s)

/-! ### Beats of a Seam -/

/-- A slot of a control word carries KIND `k` (R419). -/
def slotKind (ctl : BitVec 24) (k : Nat) : Bool := (List.range 5).any (fun i => ctl.toNat / 2 ^ (3 * i) % 8 == k)

/-- A bar note or package notice did not count (R420, R423): NOTE_LOST, and for a bar note the SEAM tempo fault. -/
def State.noteLost (s : State) (d q : Nat) (bar : Bool) : State :=
  let s := s.setLogged d SEAM_EVENT [d, q] SEAM_EVENT.NOTE_LOST
  if bar && s.tempo.running && decide (d < 10) then s.tempoFault d 7 q 0 else s

/-- SEAM_BEAT_RECEIVE (R420 to R423, R426): the CRC, HOLD, a replay request, the end of a replay, and notes that are lost. The slots
it carries act by their own rows. -/
def execSeamBeatReceive (d : Fin 12) (q : Fin 4) (beat : SeamBeat) (s : State) : Host.Outcome State Fault Refusal :=
  .next (
    if s.seamState d q = 4 then
      let s := s.incF SEAM_HOLD_OBEYED [(d : Nat), (q : Nat)] SEAM_HOLD_OBEYED.COUNT beat.obeyed
      let note := slotKind beat.ctl 5 || slotKind beat.ctl 6
      let s := if note && !beat.noteOk then s.noteLost d q (slotKind beat.ctl 5) else s
      let x := s.seamDyn d q
      if !beat.crcOk then
        (s.incF SEAM_CRC_ERR [(d : Nat), (q : Nat)] SEAM_CRC_ERR.COUNT 1).setSeamDyn d q { x with holdRx := true, awaiting := true }
      else
        let s := s.setSeamDyn d q { x with holdRx := beat.ctl.toNat.testBit 15, awaiting := x.awaiting && !beat.replayed }
        if beat.ctl.toNat.testBit 16 then
          if beat.heldBeat then s.incF SEAM_REPLAYS [(d : Nat), (q : Nat)] SEAM_REPLAYS.COUNT 1 else s.seamRetrain d q false
        else s
    else s)

/-! ### Alignment -/

/-- The beat count of a die (R439). -/
def State.dieCount (s : State) (d : Nat) : Nat := (s.clock + tget 0 s.dieBase d) % 2 ^ 32

/-- Set the beat count of a die. -/
def State.setDieCount (s : State) (d v : Nat) : State :=
  { s with dieBase := tput 0 s.dieBase d ((v + 2 ^ 32 - s.clock % 2 ^ 32) % 2 ^ 32) }

/-- The dies that a die forwards ALIGN to (R439). -/
def alignChildren (d : Nat) : List Nat :=
  match d with
  | 8 => [0, 4]
  | 0 => [1]
  | 4 => [5]
  | 1 => [2, 10]
  | 5 => [6]
  | 2 => [3, 11]
  | 6 => [7]
  | 3 => [9]
  | _ => []

/-- The tree parent of a die. -/
def alignParent (d : Nat) : Option Nat := (List.range 12).find? (fun p => (alignChildren p).contains d)

/-- Send ALIGN with VALUE to dies that are fitted, or relayed (R34, R439). -/
def State.sendAlign (s : State) (ds : List Nat) (v : Nat) (fwd : Bool) : State :=
  { s with aligns := s.aligns ++ ds.map (fun d => (d, v % 2 ^ 32, fwd)) }

/-- Every Seam between fitted dies is UP. -/
def State.seamsUp (s : State) : Bool :=
  seamNames.all (fun x =>
    let p := (seamFar x.1).getD x.2 (15, 0)
    !(s.hasDie x.1 && s.hasDie p.1) || (s.seamState x.1 x.2 == 4 && s.seamState p.1 p.2 == 4))

/-- ALIGN_NOTICE (R425, R439, R440): M0 starts the alignment once every Seam is up; an ALIGN reaches another die, sets its beat count
and goes on along the tree; `good` is whether a copy of it had a good CRC. -/
def execAlignNotice (die : Fin 12) (good : Bool) (s : State) : Host.Outcome State Fault Refusal :=
  .next (
    let d : Nat := die
    if d = 8 then
      if s.seamsUp then s.sendAlign (alignChildren 8) (s.dieCount 8 + 12) true else s
    else match s.aligns.find? (fun x => x.1 == d) with
      | some x =>
        let s := { s with aligns := dropFirst (fun y => y.1 == d) s.aligns }
        if !good then
          match (alignParent d).bind (portTo d) with
          | some q => s.noteLost d q false
          | none => s
        else
          let s := if s.hasDie d then s.setDieCount d x.2.1 else s
          if x.2.2 then s.sendAlign (alignChildren d) (x.2.1 + 12) true else s
      | none => s)

/-- ALIGN_REQUEST (R440): a die that has left DIE reset asks its tree parent, which answers with an ALIGN for it alone. -/
def execAlignRequest (die : Fin 12) (s : State) : Host.Outcome State Fault Refusal :=
  .next (match alignParent die with
    | some p => if s.dieUp die && s.dieUp p then s.sendAlign [(die : Nat)] (s.dieCount p + 12) false else s
    | none => s)

/-! ### Training of a Seam -/

/-- ECHO_NOTICE (R432, R438): a round of a port in MEASURE. -/
def execEchoNotice (d : Fin 12) (q : Fin 4) (rtt : BitVec 32) (turn : BitVec 16) (s : State) : Host.Outcome State Fault Refusal :=
  .next (
    if s.seamState d q = 2 ∧ (s.seamDyn d q).rounds.length < 8 then
      let raw := (rtt.toNat - turn.toNat + 1) / 2
      let x := s.seamDyn d q
      let s := s.setSeamDyn d q { x with rounds := x.rounds ++ [raw] }
      if 10 < raw ∨ !roundsAgree (x.rounds ++ [raw]) then s.seamFail d q 4 else s
    else s)

/-- Commands that wait for a Seam complete once both its ports are UP (R449) (DEDUCED, log entry 95). -/
def State.seamDone (s : State) (d q : Nat) : State :=
  let p := seamPeer d q
  if s.seamState p.1 p.2 = 4 then
    match seamIndex d q with
    | some i => s.retrainDone (0x80 + i) stOk
    | none => s
  else s

/-- SEAM_TRAINING_DONE (R417, R438): initialisation ends with so many lanes repaired, or fails; a measurement of eight rounds ends with
the pad set and the port UP (DEDUCED, log entry 95). -/
def execSeamTrainingDone (d : Fin 12) (q : Fin 4) (repairs : Option Nat) (s : State) : Host.Outcome State Fault Refusal :=
  .next (
    let ix := [(d : Nat), (q : Nat)]
    match s.seamState d q with
    | 1 => match repairs with
      | none => s.seamFail d q 1
      | some n =>
        if 3 < n then s.seamFail d q 2
        else
          let s := (s.setF SEAM_STATUS ix SEAM_STATUS.REPAIRS n).setF SEAM_MESO ix SEAM_MESO.FILL 4
          (s.setSeamDyn d q { s.seamDyn d q with rounds := [] }).setF SEAM_STATUS ix SEAM_STATUS.STATE 2
    | 2 =>
      let rs := (s.seamDyn d q).rounds
      if rs.length = 8 then
        let raw := rs.foldl max 0
        let s := (s.setF SEAM_STATUS ix SEAM_STATUS.RAW raw).setF SEAM_STATUS ix SEAM_STATUS.PAD (12 - raw)
        ((s.setF SEAM_STATUS ix SEAM_STATUS.STATE 4).setBit SEAM_EVENT ix SEAM_EVENT.UP).seamDone d q
      else s
    | _ => s)

/-! ### Training of a link -/

/-- LINK_ENABLE (R427): LNK_CTRL.ENABLE is set. -/
def execLinkEnable (l : Fin 12) (s : State) : Host.Outcome State Fault Refusal :=
  .next (if s.regGone LNK_CTRL (lnk l) then s.goneAccess LNK_CTRL (lnk l) true else (s.setF LNK_CTRL (lnk l) LNK_CTRL.ENABLE 1).linkStart l)

/-- ENABLE is cleared: the link goes OFF from any state (R428) (DEDUCED, log entry 17). -/
def State.linkOff (s : State) (l : Nat) : State := (s.setF LNK_CTRL (lnk l) LNK_CTRL.ENABLE 0).linkLeave l 0

/-- LINK_DISABLE (R428). -/
def execLinkDisable (l : Fin 12) (s : State) : Host.Outcome State Fault Refusal := .next (
  if s.regGone LNK_CTRL (lnk l) then s.goneAccess LNK_CTRL (lnk l) true else s.linkOff l)

/-- Every counter of link l is cleared (LNK_CTRL.CNT_CLR). -/
def State.clrLinkCounts (s : State) (l : Nat) : State :=
  let s := [LNK_FEC_CORR, LNK_FEC_UNCORR, LNK_HOLD_SENT, LNK_HOLD_OBEYED, LNK_RETRAINS, LNK_SLEEP_BARS, LNK_LGC_TX, LNK_LGC_RX].foldl
    (fun s r => s.setReg r (lnk l) 0) s
  let s := (List.range 8).foldl (fun s i => s.setReg LNK_LANE_ERR (lnk l ++ [i]) 0) s
  s.setF LNK_MESO (lnk l) LNK_MESO.MARGIN_COUNT 0

/-- LNK_CNT_CLR (R452). -/
def execLnkCntClr (l : Fin 12) (s : State) : Host.Outcome State Fault Refusal := .next (
  if s.regGone LNK_CTRL (lnk l) then s.goneAccess LNK_CTRL (lnk l) true else s.clrLinkCounts l)

/-- MEASURE ends: raw is taken, a class proposed and sent, and the exchange of ADMIT flits goes on (R432 to R435). -/
def State.linkMeasured (s : State) (l : Nat) : State :=
  let raw := (s.lnkDyn l).rounds.foldl max 0
  let s := s.setF LNK_LATENCY (lnk l) LNK_LATENCY.RAW raw
  let p := s.proposal l raw
  let s := if p.2 then s.setBit LNK_EVENT (lnk l) LNK_EVENT.CLASS_MISS else s
  let s := s.txFlit l (s.linkFlit l 0x03 p.1 0 0 raw)
  ((s.setLnkDyn l { s.lnkDyn l with proposed := some p.1 }).setLinkState l 5).linkAdmit l

/-- LINK_STATE_COMPLETE (R427, R429, R432 to R437): the state's leave condition holds; `reversed` and `polarity` are what FRAME found,
`beat` the departure beat of a first echo request. -/
def execLinkStateComplete (l : Fin 12) (reversed : Bool) (polarity : BitVec 8) (beat : BitVec 32) (s : State) :
    Host.Outcome State Fault Refusal :=
  .next (
    let x := s.lnkDyn l
    match s.linkState l with
    | 1 => if s.boundaryScan then s else s.setLinkState l 2
    | 2 =>
      let s := (s.setF LNK_STATUS (lnk l) LNK_STATUS.REVERSED (b2n reversed)).setF LNK_STATUS (lnk l) LNK_STATUS.POLARITY polarity.toNat
      (s.setLnkDyn l { x with qualCorr := 0 }).setLinkState l 3
    | 3 =>
      if s.getF LNK_QUAL (lnk l) LNK_QUAL.CORR_MAX < x.qualCorr then s
      else if s.linkProfile l = 2 then
        let s := (s.setF LNK_LATENCY (lnk l) LNK_LATENCY.RAW 0).setF LNK_LATENCY (lnk l) LNK_LATENCY.PAD 0
        (((s.setLnkDyn l { x with proposed := some 2 }).setLinkState l 5).sendInit l).g1Admit l
      else
        let s := (s.setLnkDyn l { x with rounds := [] }).setLinkState l 4
        (s.setF LNK_MESO (lnk l) LNK_MESO.FILL 4).sendEcho l beat.toNat
    | 4 => if x.rounds.length = 8 then s.linkMeasured l else s
    | 5 => if s.getF LNK_STATUS (lnk l) LNK_STATUS.CLASS = 3 then s else s.linkEnterUp l
    | _ => s)

/-- LINK_STATE_TIMEOUT (R427): the limit of a training state passes. Which of ADMIT's two causes a native or G2 link then shows the spec
does not say: it is free (DESIGN CHOICE, log entry 3); a G1 link has only the second (R596). -/
def execLinkStateTimeout (l : Fin 12) (s : State) : Host.Outcome State Fault Refusal :=
  .next (match s.linkState l with
    | 1 => s.linkFail l 1
    | 2 => s.linkFail l 2
    | 3 => s.linkFail l 3
    | 4 => s.linkFail l 7
    | 5 => if s.linkProfile l = 2 then s.linkFail l 6 else (s.linkFail l (5 + s.freeNat 1)).useFree 1
    | _ => s)

/-- LINK_RETRY_TIMER (R428). -/
def execLinkRetryTimer (l : Fin 12) (s : State) : Host.Outcome State Fault Refusal :=
  .next (if s.linkState l = 7 ∧ s.bit LNK_CTRL (lnk l) LNK_CTRL.ENABLE ∧ s.linkProfile l ≠ 3 then s.startTraining l 1 else s)

/-- An echo response (R431, R432): the round's raw latency, or the failure of a round that disagrees; the next request is stamped
`leaves`. -/
def State.echoResponse (s : State) (l stamp turn arrived leaves : Nat) : State :=
  let x := s.lnkDyn l
  if s.linkState l = 4 ∧ x.stamp = some stamp ∧ x.rounds.length < 8 then
    let rtt := (arrived + 2 ^ 32 - stamp) % 2 ^ 32
    let rs := x.rounds ++ [(rtt - turn + 1) / 2]
    let s := s.setLnkDyn l { x with rounds := rs, stamp := none }
    if !roundsAgree rs then s.linkFail l 4
    else if rs.length < 8 then s.sendEcho l leaves
    else s
  else s

/-- LINK_FLIT_RECEIVE (R430 to R435): a LINK flit whose CRC holds leaves this end's landing buffer at its beat count `arrived`; what
answers it leaves its switch at `leaves`. -/
def execLinkFlitReceive (l : Fin 12) (flit : List Byte) (arrived leaves : BitVec 32) (s : State) : Host.Outcome State Fault Refusal :=
  .next (
    let n := s.linkState l
    if !flitOk flit || n == 0 || n == 1 || n == 7 || s.linkProfile l == 2 then s
    else match leAt flit 1 1 with
      | 0x01 =>
        let turn := (leaves.toNat + 2 ^ 32 - arrived.toNat) % 2 ^ 32
        s.txFlit l (s.linkFlit l 0x02 0 (leAt flit 4 4) turn 0)
      | 0x02 => s.echoResponse l (leAt flit 4 4) (leAt flit 8 2) arrived.toNat leaves.toNat
      | 0x03 =>
        let x := s.lnkDyn l
        let s := s.setLnkDyn l { x with peerAdmit := some (leAt flit 3 1, leAt flit 2 1 % 16, leAt flit 12 2) }
        if n = 5 then s.linkAdmit l else s
      | _ => s)

/-- ECHO_REPEAT (R430): an echo round that has lost its request or response goes out again. -/
def execEchoRepeat (l : Fin 12) (beat : BitVec 32) (s : State) : Host.Outcome State Fault Refusal :=
  .next (if s.linkState l = 4 ∧ (s.lnkDyn l).stamp.isSome then s.sendEcho l beat.toNat else s)

/-! ### Sleep -/

/-- Link l may sleep in the current bar (R445, R447): its Conductor skips the bar by a REST whose SLEEP names the link. -/
def State.maySleep (s : State) (l : Nat) : Bool :=
  let c := s.conductor (8 + l / 6)
  s.tempo.running && !s.tempo.held && decide (11 ≤ s.tempo.k) && s.linkProfile l == 0 && !s.tempoSource l &&
  newer 32 c.bar s.tempo.sbar && c.sleep.testBit (l % 6)

/-- LINK_QUIET_START (R445 to R447). -/
def execLinkQuietStart (l : Fin 12) (s : State) : Host.Outcome State Fault Refusal :=
  .next (
    let x := s.lnkDyn l
    if s.linkState l = 6 ∧ s.maySleep l ∧ x.skid = 0 ∧ !x.holdTx ∧ x.quietBar ≠ some s.tempo.barno then
      ((s.setLnkDyn l { x with quietBar := some s.tempo.barno }).incF LNK_SLEEP_BARS (lnk l) LNK_SLEEP_BARS.COUNT 1).setLinkState l 8
    else s)

/-- LINK_QUIET_END (R445, R446). -/
def execLinkQuietEnd (l : Fin 12) (s : State) : Host.Outcome State Fault Refusal :=
  .next (if s.linkState l = 8 then s.setLinkState l 6 else s)

/-! ### Commands and retrains -/

/-- The dies of a target of LINK_RETRAIN, and whether it is UP (R448, R449). -/
def State.retrainDies (t : Nat) : List Nat :=
  if t < 12 then [8 + t / 6]
  else match seamNames[t - 0x80]? with
    | some (d, q) => [d, (seamPeer d q).1]
    | none => []
def State.targetUp (s : State) (t : Nat) : Bool :=
  if t < 12 then s.linkUp t
  else match seamNames[t - 0x80]? with
    | some (d, q) => s.seamState d q == 4 && s.seamState (seamPeer d q).1 (seamPeer d q).2 == 4
    | none => false

/-- Retrain a target (R441). -/
def State.retrainTarget (s : State) (t : Nat) (full : Bool) : State :=
  if t < 12 then s.linkRetrain t full
  else match seamNames[t - 0x80]? with
    | some (d, q) => s.seamRetrain d q full
    | none => s

/-- The target is a link or a Seam (R448). -/
def retrainTargetOk (t : Nat) : Bool := decide (t < 12) || (decide (0x80 ≤ t) && decide (t < 0x92))

/-- LINK_RETRAIN (R441, R442, R444, R448, R449). Statuses in the order of log entry 21. -/
def execLinkRetrain (c : Cmd) (s : State) : Host.Outcome State Fault Refusal :=
  .next (s.runCmd c 0x0404 (fun s =>
    let t := c.par 0 1
    let fl := c.par 1 1
    if !retrainTargetOk t ∨ 4 ≤ fl ∨ !c.parZero 2 14 then s.complete c stBadParam []
    else if (s.tempo.armed || s.tempo.running) && decide (fl < 2) then s.complete c stBusy []
    else if (State.retrainDies t).any s.dieFolded then s.complete c stUnitFolded []
    else if (State.retrainDies t).any s.dieInReset || (decide (t < 12) && s.linkInReset t) then s.complete c stUnitInReset []
    else if !s.targetUp t then s.complete c stBusy []
    else (s.retrainTarget t (fl % 2 == 1)).wait .retrain c))

/-- LINK_RETRAIN_TIMEOUT (R449): 100 ms have passed. -/
def execLinkRetrainTimeout (c : Cmd) (s : State) : Host.Outcome State Fault Refusal :=
  .next (
    if (s.waiters .retrain).contains c then
      ({ s with front := { s.front with waiting := s.front.waiting.filter (fun x => !(x.1 == WaitFor.retrain && x.2 == c)) } }).complete c stTimeout
        (s.retrainResult (c.par 0 1))
    else s)

/-- The profile of link l changes (R450): a full retrain, or OFF. -/
def State.setProfile (s : State) (l p : Nat) : State :=
  let n := s.linkState l
  let up := s.linkUp l
  let s := if up then s.linkRetrain l true else s
  let s := s.setF LNK_STATUS (lnk l) LNK_STATUS.PROFILE p
  if p = 3 then s.linkLeave l 0
  else if up then s
  else if n = 0 then s.linkStart l
  else if n = 7 then s
  else s.startTraining l 1

/-- LINK_PROFILE (R450, R451) (DEDUCED, log entry 17). -/
def execLinkProfile (c : Cmd) (s : State) : Host.Outcome State Fault Refusal :=
  .next (s.runCmd c 0x0405 (fun s =>
    let l := c.par 0 1
    let p := c.par 1 1
    let legacy (i : Nat) : Bool :=
      let v := if i = l then p else s.linkProfile i
      v == 1 || v == 2
    if 12 ≤ l ∨ 4 ≤ p ∨ !c.parZero 2 14 ∨ ((p = 1 ∨ p = 2) ∧ s.tempoSource l) then s.complete c stBadParam []
    else if 4 < ((List.range 12).filter legacy).length then s.complete c stResource []
    else if s.tempo.armed || s.tempo.running then s.complete c stBusy []
    else (s.setProfile l p).complete c stOk []))

/-- LANE_LOCK_LOSS (R441): a lane of a link or Seam, named as LINK_RETRAIN names it, loses lock (DEDUCED, log entry 48). -/
def execLaneLockLoss (target : BitVec 8) (s : State) : Host.Outcome State Fault Refusal :=
  .next (if retrainTargetOk target.toNat then s.retrainTarget target.toNat true else s)

end Sys2Proof.Machine
end

