-- ==== Sys2Proof/Machine/PressExec.lean ====
section
/-! DEFINITION. How a section issues an instruction of its part: the word at which it stands, its stalls, loops and
effective blocks, gated banks, and the effects of the instructions that name tile registers (05_press_instructions.md,
sections 4 and 5; 04_press.md, sections 3, 4 and 7). -/

namespace Sys2Proof.Machine

/-- The word at which a section stands from index i on: words whose SM does not name it are passed over (R226). -/
def wordFrom (part : Table Word) (k : Nat) : Nat → Nat → Option (Nat × PWord)
  | 0, _ => none
  | fuel + 1, i => match decodeWord (tget 0 part i) with
    | none => none
    | some w => if w.sm.testBit k then some (i, w) else wordFrom part k fuel (i + 1)

/-- The instruction at which section k of Press p stands: the MMAS in progress, or the next word that names it. -/
def State.partAt (s : State) (p k : Nat) : Option (Nat × PWord) :=
  let x := s.sect p k
  let i := if x.inStrip then x.pc else x.next
  wordFrom (s.prs p).part k ((s.prs p).words - i) i

/-- The section may issue or go on: its Press is up and out of Idle, and it is RUNNING, or WAITING for a condition that is
tested again (R207, R233). A draining section goes on only with an MMAS in progress (R210). -/
def State.canIssue (s : State) (p k : Nat) : Bool :=
  let x := s.sect p k
  s.pressUp p && !s.pressIdle p &&
  (x.st == .running || (x.st == .waiting && !x.wait.begun) || (x.st == .pausing && x.inStrip))

/-- The stall counters of an instruction (R181, R194, R200, R236, R365). -/
def State.addStalls (s : State) (p k : Nat) (w : Stalls) : State :=
  ((((s.incF TEL_SECT_DEP (six p k) TEL_SECT_DEP.COUNT w.dep).incF SCT_BANK_STALLS (six p k) SCT_BANK_STALLS.COUNT w.bank).incF
    PRS_BOARD_STALLS (pix p) PRS_BOARD_STALLS.COUNT w.board).incF PRS_HOLD_STALLS (pix p) PRS_HOLD_STALLS.COUNT w.hold).incF
    MEM_SBWAIT (pix p) MEM_SBWAIT.COUNT w.sb

/-- One row of a part's instruction: when section k stands at a word of opcode `op`, its stalls are counted and `act`
runs on its index and its decoded word. -/
def State.partRow (s : State) (p k : Nat) (w : Stalls) (is_ : PInstr → Bool) (act : State → Nat → PWord → State) : State :=
  if s.canIssue p k then
    match s.partAt p k with
    | some (i, pw) => if is_ pw.i then act (s.addStalls p k w) i pw else s
    | none => s
  else s

/-- The section after an instruction at index i that has issued and, unless a Board write of it waits, retired: it stands
at `n`, and PC names the oldest instruction that has not retired (R211, R237). -/
def Section.goto (x : Section) (n : Nat) : Section :=
  { x with next := n, pc := if x.pendW.isEmpty then n else x.pc, st := if x.st = .pausing then .pausing else .running
           wait := .none, row := 0, inStrip := false }

/-- The section stands WAITING at index i for `w`. -/
def Section.hold (x : Section) (i : Nat) (w : SecWait) : Section :=
  { x with next := i, pc := if x.pendW.isEmpty then i else x.pc, st := .waiting, wait := w }

/-- The instruction at i retires with a change of the section's registers. -/
def State.retireAt (s : State) (p k i : Nat) (f : Section → Section) : State :=
  s.setSect p k ((f (s.sect p k)).goto (i + 1))

/-- The section waits at i. -/
def State.waitAt (s : State) (p k i : Nat) (w : SecWait) : State := s.setSect p k ((s.sect p k).hold i w)

/-! ### Loops and effective addresses -/

/-- The effective Board block of an instruction (R242). -/
def Section.effBlk (x : Section) (add : Bool) (b : Nat) : Nat :=
  if add then (x.loops.foldl (fun a l => a + l.i * l.bstep) b) % 2048 else b
/-- The effective memory block (R242). -/
def Section.effMem (x : Section) (add : Bool) (b : Nat) : Nat :=
  if add then (x.loops.foldl (fun a l => a + l.i * l.mstep) b) % 2 ^ 29 else b

/-! ### Register banks -/

/-- The bank pair of a tile register (R176, R183). -/
def pairOf (n : Nat) : Nat := n % 16 / 2

/-- The tile registers that an instruction reads or writes through its collector (R176 to R179, R184). -/
def PInstr.tiles : PInstr → List Nat
  | .tld rd _ _ => [rd]
  | .tst ra _ _ => [ra]
  | .tzero rd => [rd]
  | .ttr rd ra _ => [ra, rd]
  | .acvt rd _ _ _ => [rd]
  | .mma _ ra rb _ _ => [ra, rb]
  | .mmas rb _ _ _ _ _ _ _ => [rb]
  | _ => []

/-- Pair i is gated now: its GATE bit is set and in force (R183, R186). -/
def State.gated (s : State) (p k i : Nat) : Bool :=
  (s.getF SCT_BANKMASK (six p k) SCT_BANKMASK.GATE).testBit i && !(s.sect p k).gatePend.testBit i

/-- Pair i is waking (R184). -/
def State.waking (s : State) (p k i : Nat) : Bool := (s.getF SCT_BANKMASK (six p k) SCT_BANKMASK.WAKING).testBit i

/-- The pair wakes: GATE is cleared, WAKING set, and the wake counted (R184). -/
def State.startWake (s : State) (p k i : Nat) : State :=
  let s := s.setF SCT_BANKMASK (six p k) SCT_BANKMASK.GATE (s.getF SCT_BANKMASK (six p k) SCT_BANKMASK.GATE - 2 ^ i)
  let s := s.setF SCT_BANKMASK (six p k) SCT_BANKMASK.WAKING (s.getF SCT_BANKMASK (six p k) SCT_BANKMASK.WAKING + 2 ^ i)
  s.incF SCT_WAKES (six p k) SCT_WAKES.COUNT 1

/-- Every gated pair that an instruction accesses starts to wake, in parallel (R184, R185). -/
def State.wakeAll (s : State) (p k : Nat) (ts : List Nat) : State :=
  ts.foldl (fun s t => if s.gated p k (pairOf t) then s.startWake p k (pairOf t) else s) s

/-- Write SCT_BANKMASK.GATE (R186, R187): bits that were not in force take effect when no access to their pair is
pending; a bit cleared no longer waits to take effect. -/
def State.writeGate (s : State) (p k v : Nat) : State :=
  let old := s.getF SCT_BANKMASK (six p k) SCT_BANKMASK.GATE
  let x := s.sect p k
  let pend := (List.range 8).foldl (fun a i =>
    if v.testBit i && (!old.testBit i || x.gatePend.testBit i) then a + 2 ^ i else a) 0
  (s.setSect p k { x with gatePend := pend }).setF SCT_BANKMASK (six p k) SCT_BANKMASK.GATE v

/-- Extra collector cycles of an instruction's own operands (R179): tile operands in one bank, beyond the first. -/
def PInstr.ownConflict : PInstr → Nat
  | .mma _ ra rb _ _ => if ra % 16 = rb % 16 then 1 else 0
  | _ => 0

/-! ### Effects of the instructions that name tile registers -/

/-- Store bytes to the Board for a section (R200, R253, R256): now, or when the block is no longer held. -/
def State.storeBoard (s : State) (p k i a : Nat) (bs : List Byte) : State :=
  let x := s.sect p k
  if !x.pendW.isEmpty then s.waitAt p k i .hold
  else if s.writeWaits p a bs.length then s.waitAt p k i .scoreboard
  else if s.heldRange p a bs.length then
    s.setSect p k (({ x with pendW := [(a, bs)], pc := i } : Section).goto (i + 1))
  else (s.writeBoard p a bs).retireAt p k i id

/-- Load Board bytes for a section: `f` takes them into its registers (R251, R253). -/
def State.loadBoard (s : State) (p k i a n : Nat) (f : List Byte → Section → Section) : State :=
  if !(s.sect p k).pendW.isEmpty then s.waitAt p k i .hold
  else if s.readWaits p a n then s.waitAt p k i .scoreboard
  else s.retireAt p k i (f (s.readBoard p a n))

/-- The transpose of a tile of 16-bit elements (R257). -/
def transpose16 (t : List Byte) : List Byte :=
  (List.range 512).map (fun i => t.getD (32 * (i % 32 / 2) + 2 * (i / 32) + i % 2) 0)

/-- The tile that ACVT writes (R259, R260). -/
def acvtTile (m : FMode) (x : Section) (ac fmt fl : Nat) : List Byte :=
  if fmt ≤ 1 then (List.range 256).flatMap (fun i => leBytes 2 (m.convert fmt (x.accAt ac (i / 16) (i % 16))))
  else if fmt = 5 then (List.range 128).flatMap (fun i => leBytes 4 (m.convert 5 (x.accAt ac (i / 8) (i % 8 + 8 * (fl % 2)))))
  else (List.range 512).flatMap (fun i =>
    leBytes 1 (m.convert fmt (x.accAt (ac + i % 32 / 16) (i / 32) (i % 16))))

/-- The accumulator that MMA writes (R261 to R263). -/
def mmaAcc (m : FMode) (x : Section) (ac ra rb fmt fl : Nat) : List (BitVec 32) :=
  let a := x.tile ra
  let b := x.tile rb
  each256 (fun r c => m.dot fmt (fl % 2 == 1) (x.accAt ac r c) (slice a (32 * r) 32) (slice b (32 * c) 32))

/-- The offset of columns 8–15 of an MMAS result (R265). -/
def mmasHigh (rows : Nat) : Nat := (rows + 16) / 16

/-- One row of MMAS (R265): none while a hold or a scoreboard keeps it back, else the Board with its D values. -/
def State.mmasRow (s : State) (p k rb rows fmt ba bd : Nat) (acc mix : Bool) (r : Nat) : Except SecWait State :=
  let x := s.sect p k
  let ra := ba * 512 + 32 * r
  let d0 := bd * 512 + 32 * r
  let d1 := (bd + mmasHigh rows) * 512 + 32 * r
  if s.readWaits p ra 32 || s.writeWaits p d0 32 || s.writeWaits p d1 32 then .error .scoreboard
  else if s.heldRange p d0 32 || s.heldRange p d1 32 then .error .hold
  else
    let a := s.readBoard p ra 32
    let old := s.readBoard p d0 32 ++ s.readBoard p d1 32
    let b := x.tile rb
    let vs := (List.range 16).flatMap (fun c =>
      leBytes 4 (s.fmode.dot fmt mix (if acc then w32At old (4 * c) else 0) a (slice b (32 * c) 32)).toNat)
    .ok ((s.writeBoard p d0 (vs.take 32)).writeBoard p d1 (vs.drop 32))

/-- The strip ends: SCT_TSTART returns to 0 and the section goes on (R209). -/
def State.stripDone (s : State) (p k i : Nat) : State :=
  (s.setF SCT_TSTART (six p k) SCT_TSTART.ROW 0).retireAt p k i id

/-- Rows of an MMAS from its progress to `upto` (R208, R266, R268), `fuel` at most. -/
def State.mmasRows (s : State) (p k i rb rows fmt ba bd : Nat) (acc mix : Bool) (upto : Nat) : Nat → State
  | 0 => s
  | fuel + 1 =>
    let x := s.sect p k
    if rows < x.row then s.stripDone p k i
    else if upto ≤ x.row then s
    else match s.mmasRow p k rb rows fmt ba bd acc mix x.row with
      | .error w => s.setSect p k { x with st := if x.st = .pausing then .pausing else .waiting, wait := w }
      | .ok s => State.mmasRows (s.setSect p k { s.sect p k with row := x.row + 1 }) p k i rb rows fmt ba bd acc mix upto fuel

/-- Effect of an instruction that names a tile register, with its banks awake. `upto` is how many rows of a strip are done
by the end of this step. -/
def State.tileEffect (s : State) (p k i : Nat) (upto : Nat) (ins : PInstr) : State :=
  let x := s.sect p k
  match ins with
  | .tld rd xf blk => s.loadBoard p k i (512 * x.effBlk xf blk) 512 (fun bs y => y.setTile rd bs)
  | .tst ra xf blk => s.storeBoard p k i (512 * x.effBlk xf blk) (x.tile ra)
  | .tzero rd => s.retireAt p k i (fun y => y.setTile rd (List.replicate 512 0))
  | .ttr rd ra _ => s.retireAt p k i (fun y => y.setTile rd (transpose16 (y.tile ra)))
  | .acvt rd ac fmt fl => s.retireAt p k i (fun y => y.setTile rd (acvtTile s.fmode y ac fmt fl))
  | .mma ac ra rb fmt fl =>
    (s.incF SCT_BANK_STALLS (six p k) SCT_BANK_STALLS.COUNT ins.ownConflict).retireAt p k i
      (fun y => y.setAcc ac (mmaAcc s.fmode y ac ra rb fmt fl))
  | .mmas rb rows fmt xf ba bd acc mix =>
    if !x.inStrip && !x.pendW.isEmpty then s.waitAt p k i .hold
    else
      let y : Section := if x.inStrip then { x with st := if x.st = .pausing then .pausing else .running, wait := .none }
        else { x with st := .running, wait := .none, pc := i, next := i + 1, inStrip := true, row := 0 }
      (s.setSect p k y).mmasRows p k i rb rows fmt (x.effBlk xf ba) (x.effBlk xf bd) acc mix upto 257
  | _ => s

/-- An instruction that names tile registers: a gated pair wakes first, and the instruction waits for it (R184, R185). -/
def State.tileIssue (s : State) (p k i : Nat) (upto : Nat) (ins : PInstr) : State :=
  let s := if (s.sect p k).inStrip then s else s.wakeAll p k ins.tiles
  if !(s.sect p k).inStrip && ins.tiles.any (fun t => s.waking p k (pairOf t)) then s.waitAt p k i .wake
  else s.tileEffect p k i upto ins

end Sys2Proof.Machine
end

