-- ==== Sys2Proof/Machine/QueueOps.lean ====
section
/-! DEFINITION. The decoupling queues: requests, retirement in order, stray requests and the store's read of its Board
block (07_memory.md, section 4 and R355). -/

namespace Sys2Proof.Machine

/-- The requests of queue q of Press p that have not retired, in issue order (R360). -/
def State.queue (s : State) (p q : Nat) : List QReq := tget [] s.queues (8 * p + q)

/-- Replace a queue. Requests at its front that are done retire (R361 to R363). -/
def State.setQueue (s : State) (p q : Nat) (l : List QReq) : State :=
  { s with queues := tput [] s.queues (8 * p + q) (l.dropWhile (fun r => r.done)) }

/-- Change the requests of a queue that satisfy a test. -/
def State.mapQueue (s : State) (p q : Nat) (test : QReq → Bool) (f : QReq → QReq) : State :=
  s.setQueue p q (mapIf test f (s.queue p q))

/-- A device-memory block is HBM that a Press may name: in a fitted stack, outside the carve-out (R350, R352, R355). -/
def State.hbmBlock (s : State) (mblk : Nat) : Bool := (s.stackOf (mblk * 512)).isSome && !inCarve (mblk * 512)

/-- A stray access (R355): counted, the first recorded, and STRAY logged (R397). -/
def State.stray (s : State) (die off : Nat) (write : Bool) : State :=
  let first := !s.bit MEM_STRAY [] MEM_STRAY.STRAY
  let s := if first then (s.setF MEM_STRAY [] MEM_STRAY.SOURCE die).setF MEM_STRAY_ADDR [] MEM_STRAY_ADDR.OFFSET off else s
  let s := s.incF MEM_STRAY [] MEM_STRAY.COUNT 1
  let s := if write then s.setBit MEM_STRAY [] MEM_STRAY.WRITE else s
  s.setLogged die MEM_STRAY [] MEM_STRAY.STRAY

/-- A queued load may write its Board block: no store of the Press has still to read it (R365), and it is not held (R200). -/
def State.fillFree (s : State) (p b : Nat) : Bool := !s.storePend p b && s.holdCount p b == 0

/-- Arrived loads of Press p write their Board blocks as far as stores and holds allow (R200, R362, R365), and retire in order. -/
def State.landQueue (s : State) (p q : Nat) : State :=
  let ready (s : State) (r : QReq) : Bool := !r.store && !r.done && r.data.isSome && s.fillFree p r.bblk
  ((s.queue p q).filter (ready s)).foldl (fun s r =>
    (s.writeBoard p (512 * r.bblk) (r.data.getD [])).mapQueue p q (fun x => x.seq == r.seq) (fun x => { x with done := true })) s

/-- The same for all load queues of Press p. -/
def State.landFills (s : State) (p : Nat) : State := (List.range 4).foldl (fun s q => s.landQueue p q) s

/-- Place one request at the end of a queue (R273). A request for a stack in service is sent at once; one for another stack waits
(R361, R368). A stray one is counted, filled with zeros or discarded (R355). In a replay, loads are served from the log and stores
retire without effect (R783). -/
def State.request (s : State) (p k q bblk mblk : Nat) : State :=
  let store := decide (4 ≤ q)
  let n := tget 0 s.qseq p
  let stray := !s.hbmBlock mblk
  let up := s.stackUp (mblk * 512 / 0x0006_0000_0000)
  let s := { s with qseq := tput 0 s.qseq p (n + 1) }
  let r : QReq :=
    { store := store, queue := q, sect := k, seq := n, bblk := bblk, mblk := mblk, data := none, done := false, held := false
      noCache := false, sent := up }
  if s.replaying then
    if store then s.setQueue p q (s.queue p q ++ [{ r with data := some [], done := true }])
    else
      let x := s.replayFill p q
      (x.1.setQueue p q (x.1.queue p q ++ [{ r with data := some x.2 }])).landQueue p q
  else if stray then
    let s := s.stray (p / 32) (mblk * 512) store
    if store then s.setQueue p q (s.queue p q ++ [{ r with data := some [], done := true }])
    else (s.setQueue p q (s.queue p q ++ [{ r with data := some (List.replicate 512 0) }])).landQueue p q
  else
    let s := if up then s else s.setBit MEM_ERR [p / 32] MEM_ERR.WAIT
    s.setQueue p q (s.queue p q ++ [r])

/-- The blocks 0 to nb of a request run (R273): Board blocks wrap modulo 2,048, memory blocks modulo 2^29. -/
def State.requests (s : State) (p k q nb bblk mblk : Nat) : State :=
  (List.range (nb + 1)).foldl (fun s j => s.request p k q ((bblk + j) % 2048) ((mblk + j) % 2 ^ 29)) s

end Sys2Proof.Machine
end

