-- ==== Sys2Proof/Machine/MemOps.lean ====
section
/-! DEFINITION. The memory ports: serving loads, the write buffer, scans and fences, ECC, and accesses of agents other than
Presses (07_memory.md). -/

namespace Sys2Proof.Machine

/-! ### The port -/

/-- The memory port of a Press die. -/
def State.port (s : State) (d : Nat) : MemPort := tget {} s.ports d

/-- Replace a port. -/
def State.setPort (s : State) (d : Nat) (x : MemPort) : State := { s with ports := tput {} s.ports d x }

/-- The stack of a block. -/
def blkStack (mblk : Nat) : Nat := mblk * 512 / 0x0006_0000_0000

/-- The write-buffer entry of a block (R372). -/
def MemPort.entry (x : MemPort) (blk : Nat) : Option WbEntry := x.wb.find? (fun e => e.blk == blk)

/-- A store enters the write buffer (R371, R372): a block it holds becomes dirty and the youngest; a cached copy follows. -/
def MemPort.store (x : MemPort) (blk : Nat) (bs : List Byte) : MemPort :=
  let f := (x.entry blk).bind (fun e => e.flight)
  { x with
    wb := x.wb.filter (fun e => e.blk != blk) ++ [⟨blk, bs, true, f⟩]
    cache := if (tget [] x.cache blk).isEmpty then x.cache else tput [] x.cache blk bs }

/-- A block's writeback starts (R372). -/
def MemPort.startWb (x : MemPort) (blk : Nat) : MemPort :=
  { x with wb := mapIf (fun e => e.blk == blk && e.dirty && e.flight.isNone) (fun e => { e with dirty := false, flight := some e.data }) x.wb }

/-- Stacks that requests of die d wait for: loads not sent, and writebacks in flight (R368, MEM_WAIT.STACK). -/
def State.waitStacks (s : State) (d : Nat) : List Nat :=
  let loads := (List.range 32).flatMap (fun k => (List.range 4).flatMap (fun q =>
    ((s.queue (32 * d + k) q).filter (fun r => !r.sent && !r.done && r.data.isNone)).map (fun r => blkStack r.mblk)))
  let wbs := ((s.port d).wb.filter (fun e => e.flight.isSome)).map (fun e => blkStack e.blk)
  (List.range 8).filter (fun m => (loads ++ wbs).contains m && !s.stackUp m)

/-! ### Errors -/

/-- MEM_ERR_ADDR keeps the first errored sector after CE and UE were both clear. -/
def State.errAddr (s : State) (n off : Nat) (uncorr : Bool) : State :=
  if s.bit MEM_ERR [n] MEM_ERR.CE || s.bit MEM_ERR [n] MEM_ERR.UE then s
  else (s.setF MEM_ERR_ADDR [n] MEM_ERR_ADDR.OFFSET (off / 32 * 32)).setF MEM_ERR_ADDR [n] MEM_ERR_ADDR.UNCORR (b2n uncorr)

/-- A corrected error of stack n (R391). -/
def State.corrected (s : State) (n off : Nat) : State :=
  let s := ((s.errAddr n off false).incF MEM_CE [n] MEM_CE.COUNT 1).setBit MEM_ERR [n] MEM_ERR.CE
  if s.bit MEM_ERR [n] MEM_ERR.CE_OVER then s
  else
    let c := (s.port n).ceSince + 1
    let s := s.setPort n { s.port n with ceSince := c }
    if s.getF MEM_CE_LIMIT [n] MEM_CE_LIMIT.LIMIT ≤ c then s.setBit MEM_ERR [n] MEM_ERR.CE_OVER else s

/-- An uncorrectable error of stack n, whoever reads (R397, MEM_ERR.UE). -/
def State.uncorrectable (s : State) (n off : Nat) : State := (s.errAddr n off true).setLogged n MEM_ERR [n] MEM_ERR.UE

/-- Apply what the controller found in an access at `off` (R391, R392). -/
def State.eccSeen (s : State) (off : Nat) : Ecc → State
  | .clean => s
  | .corrected i => s.corrected (off / 0x0006_0000_0000) (off + 32 * i)
  | .bad i => s.uncorrectable (off / 0x0006_0000_0000) (off + 32 * i)

/-! ### Loads -/

/-- The first load of a port that is held (R392): UE_HELD tells whether there is one. -/
def State.heldLoads (s : State) (d : Nat) : Bool :=
  (List.range 32).any (fun k => (List.range 4).any (fun q => (s.queue (32 * d + k) q).any (fun r => r.held)))

/-- An older store of the same Press to the same block has not retired (R364). -/
def State.olderStore (s : State) (p : Nat) (r : QReq) : Bool :=
  [4, 5].any (fun q => (s.queue p q).any (fun x => !x.done && x.mblk == r.mblk && decide (x.seq < r.seq)))

/-- A load's block and whether the stack served it (R362): write buffer, then read cache, then stack. -/
def State.serve (s : State) (d mblk : Nat) : List Byte × Bool :=
  match (s.port d).entry mblk with
  | some e => (e.data, false)
  | none =>
    let c := tget [] (s.port d).cache mblk
    if c.isEmpty then (s.readMem (mblk * 512) 512, true) else (c, false)

/-- A load of Press p's queue q is held for its uncorrectable error (R392). -/
def State.holdLoad (s : State) (p q : Nat) (r : QReq) : State :=
  let d := p / 32
  let s := if s.heldLoads d then s else
    ((s.setF MEM_UE_HOLD [d] MEM_UE_HOLD.OFFSET (r.mblk * 512)).setF MEM_UE_HOLD [d] MEM_UE_HOLD.PRESS p).setF MEM_UE_HOLD [d]
      MEM_UE_HOLD.QUEUE q
  s.mapQueue p q (fun x => x.seq == r.seq) (fun x => { x with held := true })

/-- Make room in the read cache: the line `victim` leaves it (R370; which line a full set gives up the spec does not say). -/
def State.evict (s : State) (d : Nat) (victim : Option Nat) : State :=
  match victim with
  | some v => s.setPort d { s.port d with cache := tput [] (s.port d).cache v [] }
  | none => s

/-- A load's block arrives (R362, R371, R376, R391, R392), with what ECC found and the line that a full cache set gives up. -/
def State.fillArrives (s : State) (p q : Nat) (r : QReq) (ecc : Ecc) (victim : Option Nat) : State :=
  let d := p / 32
  let v := s.serve d r.mblk
  if v.2 && !(r.sent && s.stackUp (blkStack r.mblk)) then s
  else
    let s := if v.2 then s.eccSeen (r.mblk * 512) ecc else s
    match (if v.2 then ecc else Ecc.clean) with
    | .bad _ => s.holdLoad p q r
    | _ =>
      let s := if v.2 && !r.noCache then
          let s := s.evict d victim
          s.setPort d { s.port d with cache := tput [] (s.port d).cache r.mblk v.1 }
        else s
      let s := s.logItem (.fill p q v.1)
      (s.mapQueue p q (fun x => x.seq == r.seq) (fun x => { x with data := some v.1 })).landQueue p q

/-! ### Scans and fences -/

/-- A block of a range of n blocks from `lo`, which wraps modulo 2^29 (R242). -/
def Scan.covers (x : Scan) (blk : Nat) : Bool := x.fence || decide ((blk + 2 ^ 29 - x.lo % 2 ^ 29) % 2 ^ 29 < x.n)

/-- Blocks of the write buffer that a scan has to see acknowledged: one entry for a writeback in flight, one for a dirty block. -/
def MemPort.toAwait (x : MemPort) (sc : Scan) : List Nat :=
  (x.wb.filter (fun e => sc.covers e.blk)).flatMap (fun e =>
    (if e.flight.isSome then [e.blk] else []) ++ (if e.dirty then [e.blk] else []))

/-- A scan or fence reaches its port and begins (R374 to R378): the range's dirty blocks are written back, its lines leave the read
cache, and fills already asked for are not kept. -/
def State.beginScan (s : State) (d : Nat) (sc : Scan) : State :=
  let x := s.port d
  let dirty := (x.wb.filter (fun e => sc.covers e.blk && e.dirty)).map (fun e => e.blk)
  let sc := { sc with await := x.toAwait sc, wrote := dirty.length }
  let y := dirty.foldl MemPort.startWb { x with cache := tclear sc.covers x.cache }
  let s := s.setPort d { y with scans := x.scans ++ [sc] }
  (List.range 32).foldl (fun s k => (List.range 4).foldl (fun s q =>
    s.mapQueue (32 * d + k) q (fun r => sc.covers r.mblk && r.sent && !r.done && r.data.isNone) (fun r => { r with noCache := true })) s) s

/-- The controller acknowledges the writeback of a block (R372, R373): its stack holds the data, and the entry leaves unless it is
dirty again. A scan that still waits for the block has its later data written too. -/
def State.ackWb (s : State) (d blk : Nat) : State :=
  let x := s.port d
  match x.entry blk with
  | some e =>
    match e.flight with
    | some bs =>
      let s := s.writeMem (blk * 512) bs
      let scans := x.scans.map (fun c => { c with await := dropFirst (fun b => b == blk) c.await })
      let wb := if e.dirty then mapIf (fun y => y.blk == blk) (fun y => { y with flight := none }) x.wb
        else x.wb.filter (fun y => y.blk != blk)
      let y : MemPort := { x with wb := wb, scans := scans }
      s.setPort d (if scans.any (fun c => c.await.contains blk) then y.startWb blk else y)
    | none => s
  | none => s

/-- Everything dirty or in flight is written to its stack, and the cache is emptied: a fence taken to its end (R378). -/
def State.fenceNow (s : State) (d : Nat) : State :=
  let x := s.port d
  let s := x.wb.foldl (fun s e => s.writeMem (e.blk * 512) e.data) s
  s.setPort d { x with wb := [], cache := [], scans := x.scans.map (fun c => { c with await := [] }) }

/-- The oldest dirty block of a write buffer (R372). -/
def MemPort.oldestDirty (x : MemPort) : Option Nat := (x.wb.find? (fun e => e.dirty && e.flight.isNone)).map (fun e => e.blk)

/-- A section's RINSE or CADENCE is done: it retires, also when it is paused (R239, R276, R277). -/
def State.scanRetire (s : State) (p k : Nat) (w : SecWait) : State :=
  let x := s.sect p k
  if x.wait == w then
    if x.st == .waiting then s.setSect p k (x.goto (x.next + 1))
    else s.setSect p k { x with next := x.next + 1, pc := if x.pendW.isEmpty then x.next + 1 else x.pc, wait := .none }
  else s

/-! ### Accesses of other agents -/

/-- The status of the units of a range that are away (R354, R700): folded first, then in reset or untrained. -/
def State.rangeAway (s : State) (off n : Nat) : Option Nat :=
  if boardBase ≤ off then
    if (boardsOf off n).any s.pressFolded then some stUnitFolded
    else if (boardsOf off n).any s.pressInReset then some stUnitInReset
    else none
  else if (stacksOf off n).any s.dieFolded then some stUnitFolded
  else if (stacksOf off n).any (fun m => s.dieInReset m || !s.bit MEM_STATUS [m] MEM_STATUS.TRAINED) then some stUnitInReset
  else none

/-- Cut bytes from `off` on at multiples of `u`, at most `fuel` pieces. -/
def piecesOf (u : Nat) : Nat → Nat → List Byte → List (Nat × List Byte)
  | 0, _, _ => []
  | fuel + 1, off, bs =>
    if bs.isEmpty then []
    else
      let n := u - off % u
      (off, bs.take n) :: piecesOf u fuel (off + n) (bs.drop n)

/-- One piece is written by an agent other than a Press (R354, R380): to its stack, or through the queue port to its Board, where it
waits for a hold; true when it waits. Tack and Board-window writes from outside are logged by a capture (R782). -/
def State.writePiece (s : State) (off : Nat) (bs : List Byte) (why : HeldFor) (log : Bool) : State × Bool :=
  if off < boardBase then (s.writeMem off bs, false)
  else
    let p := (off - boardBase) / 0x0010_0000
    let a := (off - boardBase) % 0x0010_0000
    let s := if log then s.logItem (.board p a bs) else s
    if s.heldRange p a bs.length then
      (s.setPrs p { s.prs p with heldWrites := (s.prs p).heldWrites ++ [(a, bs, why)] }, true)
    else (s.writeBoard p a bs, false)

/-- A write of an agent in pieces of `u` bytes; true when some piece waits. -/
def State.agentWrite (s : State) (u off : Nat) (bs : List Byte) (why : HeldFor) (log : Bool) : State × Bool :=
  (piecesOf u (bs.length + 1) off bs).foldl (fun r x =>
    let t := r.1.writePiece x.1 x.2 why log
    (t.1, r.2 || t.2)) (s, false)

/-- Some held write belongs to a command. -/
def State.cmdHeld (s : State) (c : Cmd) : Bool :=
  (List.range 256).any (fun p => (s.prs p).heldWrites.any (fun w => w.2.2 == .cmd c))

end Sys2Proof.Machine
end

