-- ==== Sys2Proof/Machine/TackOps.lean ====
section
/-! DEFINITION. The Tack plane's shared operations: headers, tokens, injection, translation and routing (10_tack_plane.md, sections 1 to 5;
R583 to R586, R604). -/

namespace Sys2Proof.Machine

/-! ### Headers -/

/-- One bit step, and one byte step, of CRC-8 with polynomial 0x07 (R512). -/
def crc8Bit (c : Nat) : Nat := if c.testBit 7 then (2 * c % 256) ^^^ 0x07 else 2 * c
def crc8Byte (c : Nat) (b : Byte) : Nat :=
  crc8Bit (crc8Bit (crc8Bit (crc8Bit (crc8Bit (crc8Bit (crc8Bit (crc8Bit (c ^^^ b.toNat))))))))

/-- CHK of a tack (R510, R512). -/
def tackChk (bs : List Byte) : Nat := (bs.take 7 ++ slice bs 8 24).foldl crc8Byte 0

/-- A tack's bytes with CHK computed. -/
def withChk (bs : List Byte) : List Byte := let b := slice bs 0 32; b.take 7 ++ leBytes 1 (tackChk b) ++ b.drop 8

/-- Read, and set, a field of the header (R510); setting recomputes CHK (R512). -/
def hget (bs : List Byte) (lo w : Nat) : Nat := leAt bs 0 8 / 2 ^ lo % 2 ^ w
def hset (lo w v : Nat) (bs : List Byte) : List Byte :=
  let h := leAt bs 0 8
  withChk (leBytes 8 (h - hget bs lo w * 2 ^ lo + v % 2 ^ w * 2 ^ lo) ++ slice bs 8 24)

/-- Fields of a tack (R510, R514, R515). -/
def Tack.dest (t : Tack) : Nat := hget t.bytes 0 16
def Tack.mc (t : Tack) : Bool := hget t.bytes 16 1 == 1
def Tack.idx (t : Tack) : Nat := hget t.bytes 18 1
def Tack.dunit (t : Tack) : Nat := hget t.bytes 19 4
def Tack.kind (t : Tack) : Nat := hget t.bytes 36 4
def Tack.age (t : Tack) : Nat := hget t.bytes 40 8
/-- Payload bytes, numbered from 0. -/
def Tack.pay (t : Tack) (i n : Nat) : Nat := leAt t.bytes (8 + i) n
/-- An acknowledgement is requested (R515): of a NOTICE, WRITE, ADD or DOORBELL. -/
def Tack.ack (t : Tack) : Bool := decide (3 ≤ t.kind) && decide (t.kind ≤ 6) && t.pay 7 1 % 2 == 1
/-- OFFSET of a WRITE or ADD. -/
def Tack.offset (t : Tack) : Nat := t.pay 8 2 + t.pay 10 4 * 65536
/-- MASK of a multicast NOTICE. -/
def Tack.mask (t : Tack) : Nat := t.pay 16 8

/-- A header as bytes, CHK not yet set. -/
def tackHeader (dest mc idx dunit kind : Nat) : List Byte := leBytes 8 (dest + mc * 2 ^ 16 + idx * 2 ^ 18 + dunit * 2 ^ 19 + kind * 2 ^ 36)

/-- The payload bytes of a kind that are reserved are 0 (R497, R515). -/
def payloadOk (bs : List Byte) : Bool :=
  let z (i n : Nat) : Bool := leAt bs (8 + i) n == 0
  let ret : Bool := leAt bs 10 1 < 16
  match hget bs 36 4 with
  | 1 => leAt bs 9 1 < 16 && leAt bs 20 1 < 32 && z 13 1 && z 16 8
  | 2 => leAt bs 9 1 < 16 && leAt bs 20 1 < 32 && z 13 1 && z 16 8
  | 3 => ret && leAt bs 15 1 < 2 && z 10 6 && (hget bs 16 1 == 1 || z 16 8)
  | 4 => ret && leAt bs 15 1 < 2 && z 14 2
  | 5 => ret && leAt bs 15 1 < 2 && z 14 2
  | 6 => ret && z 6 1 && leAt bs 15 1 < 2
  | 7 => ret && z 7 1
  | 8 => ret && z 7 1
  | 9 => ret && z 7 1 && z 10 14
  | _ => false

/-- KIND is not reserved and every reserved bit is 0 (R510, R538). -/
def tackFormOk (bs : List Byte) : Bool :=
  hget bs 23 1 == 0 && hget bs 48 8 == 0 && payloadOk bs &&
  (if hget bs 16 1 = 1 then hget bs 4 12 == 0 else hget bs 17 1 == 0 || hget bs 15 1 == 0)

/-! ### Tokens -/

/-- The outstanding tokens of a die, and its budget (R520, R523). -/
def State.tokens (s : State) (d : Nat) : List Token := tget [] s.tacks.tokens d
def State.budget (s : State) (d : Nat) : Nat := if d < 8 then s.getF TCK_BUDGET [d] TCK_BUDGET.BUDGET else 64

/-- Replace a die's outstanding tokens; its registers follow (R520). -/
def State.setTokens (s : State) (d : Nat) (l : List Token) : State :=
  let s := { s with tacks := { s.tacks with tokens := tput [] s.tacks.tokens d l } }
  if d < 8 then (s.setF TCK_BUDGET [d] TCK_BUDGET.OUTSTANDING l.length).setF TCK_BUDGET [d] TCK_BUDGET.AVAILABLE (s.budget d - l.length)
  else s.setF TCK_CSEND_CTRL [d] TCK_CSEND_CTRL.AVAILABLE (64 - l.length)

/-- Take the lowest-numbered available token (R521, R522): the token and its use count. -/
def State.takeToken (s : State) (d : Nat) (ack peer : Bool) : Option (State × Nat × Nat) :=
  let out := s.tokens d
  ((List.range (s.budget d)).find? (fun n => out.all (fun t => t.num != n))).map (fun n =>
    let u := (tget 0 s.tacks.uses (64 * d + n) + 1) % 4
    let s := { s with tacks := { s.tacks with uses := tput 0 s.tacks.uses (64 * d + n) u } }
    (s.setTokens d (out ++ [⟨n, u, ack, peer⟩]), n, u))

/-- A token returns (R521). -/
def State.returnToken (s : State) (d n : Nat) : State := s.setTokens d ((s.tokens d).filter (fun t => t.num != n))

/-- The token that a tack gives back when it leaves or is delivered returns (R521). -/
def State.giveBack (s : State) (t : Tack) : State :=
  match t.src, t.token with
  | some d, some n => s.returnToken d n
  | _, _ => s

/-- The wash count of a die (R514, R542). -/
def State.dieWash (s : State) (d : Nat) : Nat :=
  s.getF AON_WASH [if d < 8 then 256 + d else if d = 10 then 267 else if d = 11 then 266 else 256 + d] AON_WASH.WASH

/-- The return field (R514). -/
def State.retField (s : State) (d : Nat) (full : Bool) (num use : Nat) : List Byte :=
  leBytes 2 s.rank ++ leBytes 1 d ++ leBytes 1 (if full then num + 64 * use else 0) ++ leBytes 2 (if full then s.dieWash d else 0)

/-! ### Toward the Mangle die -/

/-- Tacks of source die d in the injection queue of Mangle die m, or released to it (R526). -/
def State.injCount (s : State) (m d : Nat) : Nat :=
  (tget [] s.tacks.inj (16 * m + d)).length + (s.tacks.toMangle.filter (fun t => t.mangle == m && t.src == some d)).length

/-- The TKSEND of a tack retires at its injection (R279). -/
def State.injected (s : State) (t : Tack) : State :=
  match t.sect with
  | some i => s.scanRetire (i / 4) (i % 4) .inject
  | none => s

/-- A tack leaves its source die toward its Mangle die, or waits there for room (R524, R526). -/
def State.sendTack (s : State) (t : Tack) : State :=
  let d := t.src.getD 0
  if s.injCount t.mangle d < 64 && s.tacks.waiting.all (fun x => !(x.mangle == t.mangle && x.src == t.src)) then
    ({ s with tacks := { s.tacks with toMangle := s.tacks.toMangle ++ [t] } }).injected t
  else { s with tacks := { s.tacks with waiting := s.tacks.waiting ++ [t] } }

/-- A tack that die d builds is sent; a Press die counts it (TCK_SENT). -/
def State.buildTack (s : State) (d : Nat) (bs : List Byte) (token sect : Option Nat) : State :=
  let t : Tack :=
    { bytes := withChk bs, src := some d, token := token, sect := sect, mangle := 8 + hget bs 18 1, via := none }
  let s := if d < 8 then s.incF TCK_SENT [d] TCK_SENT.COUNT 1 else s
  s.sendTack t

/-- The ACK of a tack (R515, R541), sent by die d on the torus of the tack (DEDUCED, log entry 22). -/
def State.sendAck (s : State) (d : Nat) (t : Tack) (status : Nat) : State :=
  if t.ack then
    s.buildTack d (tackHeader (t.pay 0 2) 0 t.idx (t.pay 2 1 % 16) 9 ++ slice t.bytes 8 6 ++ leBytes 1 status ++ leBytes 1 0 ++
      leBytes 2 s.rank) none none
  else s

/-! ### Into the package -/

/-- The unit that serves an offset (R539): the die of its stack or Board; none for a stray one (R355, R540). -/
def State.offsetDie (s : State) (off n : Nat) : Option Nat :=
  if !s.rangeMapped off n || touchesCarve off n then none
  else if off < boardBase then s.stackOf off
  else (s.boardOf off).map (fun p => p / 32)

/-- The die at which a tack inside its package is delivered (R539); its Mangle die for one that no die serves. -/
def State.tackDie (s : State) (t : Tack) : Nat :=
  match t.kind with
  | 3 => if t.dunit < 8 ∧ s.hasDie t.dunit then t.dunit else t.mangle
  | 4 => (s.offsetDie t.offset (max 1 (t.pay 6 1))).getD t.mangle
  | 5 => (s.offsetDie t.offset 8).getD t.mangle
  | _ => if 8 ≤ t.dunit ∧ t.dunit ≤ 10 then t.dunit else if t.kind = 9 ∧ s.hasDie t.dunit then t.dunit else t.mangle

/-- A tack is on its way to the unit that delivers it. -/
def State.deliverIn (s : State) (t : Tack) : State :=
  { s with tacks := { s.tacks with inPkg := s.tacks.inPkg ++ [(s.tackDie t, t)] } }

/-- The die in front of die d on the way from Mangle die m (R540). -/
def frontDie (m d : Nat) : Nat := ((m :: pathTo m d).dropLast).getLastD m

/-! ### Groups and the grid -/

/-- A member entry of Mangle die m (R535). -/
def State.member (s : State) (m g i : Nat) : Nat := tget 0 s.tacks.groups (2 ^ 20 * m + 64 * g + i)

/-- Own coordinates, as DEST holds them (R510). -/
def State.ownCoords (s : State) (m : Nat) : Nat :=
  let g := s.reg TCK_GRID [m]
  fget g TCK_GRID.X + 32 * fget g TCK_GRID.Y + 1024 * fget g TCK_GRID.Z

/-- Per dimension: the preferred direction (0 P, 1 N) and the productive ones (R529, R530). -/
def dirsOf (a b size : Nat) (wrap : Bool) : Option Nat × List Nat :=
  if wrap then
    let n := size + 1
    let d := (b + n - a % n) % n
    if d = 0 then (none, []) else if 2 * d = n then (some 0, [0, 1]) else if 2 * d < n then (some 0, [0]) else (some 1, [1])
  else if a < b then (some 0, [0])
  else if b < a then (some 1, [1])
  else (none, [])

/-- The directions in the three dimensions toward coordinates `dest`. -/
def State.dirs (s : State) (m dest : Nat) : List (Option Nat × List Nat) :=
  let g := s.reg TCK_GRID [m]
  [dirsOf (fget g TCK_GRID.X) (dest % 32) (fget g TCK_GRID.SX) (bitOf g 48),
   dirsOf (fget g TCK_GRID.Y) (dest / 32 % 32) (fget g TCK_GRID.SY) (bitOf g 49),
   dirsOf (fget g TCK_GRID.Z) (dest / 1024 % 32) (fget g TCK_GRID.SZ) (bitOf g 50)]

/-- The preferred output, 0–5 in the order XP to ZN (R530); none at the destination. -/
def State.preferred (s : State) (m dest : Nat) : Option Nat :=
  (s.dirs m dest).zipIdx.findSome? (fun x => x.1.1.map (fun p => 2 * x.2 + p))

/-- The deflection order (R532): productive outputs, then the others. -/
def State.deflectOrder (s : State) (m dest : Nat) : List Nat :=
  let prod := (s.dirs m dest).zipIdx.flatMap (fun x => ([0, 1].filter (fun p => x.1.2.contains p)).map (fun p => 2 * x.2 + p))
  prod ++ (List.range 6).filter (fun j => !prod.contains j)

/-- Output j of Mangle die m is free for a tack (R531, R567); `free` is what this beat's flits leave. -/
def State.tackFree (s : State) (m : Nat) (free : BitVec 6) (j : Nat) : Bool :=
  let l := 6 * (m - 8) + j
  free.toNat.testBit j && s.linkState l == 6 && s.linkProfile l == 0 && !s.fenced l

/-! ### Translation -/

/-- A tack that is not sent (R525, R604): an ACK with the status, or its token. -/
def State.refuseTack (s : State) (t : Tack) (status : Nat) : State :=
  if t.ack then s.deliverIn
    { bytes := withChk (tackHeader (t.pay 0 2) 0 t.idx (t.pay 2 1 % 16) 9 ++ slice t.bytes 8 6 ++ leBytes 1 status ++ leBytes 1 0 ++
        leBytes 2 s.rank)
      src := some t.mangle, token := none, sect := none, mangle := t.mangle, via := none }
  else match t.src, t.token with
    | some d, some n => s.returnToken d n
    | some d, none => if t.kind = 7 then s.returnToken d (t.pay 3 1 % 64) else s
    | _, _ => s

/-- A tack joins its injection queue (R526). -/
def State.enqueue (s : State) (t : Tack) : State :=
  let k := 16 * t.mangle + t.src.getD 0
  { s with tacks := { s.tacks with inj := tput [] s.tacks.inj k (tget [] s.tacks.inj k ++ [t]) } }

/-- A Mangle die translates a tack and queues it, delivers it inside the package, or refuses it (R524 to R527, R535, R583, R585). -/
def State.translate (s : State) (t : Tack) : State :=
  let m := t.mangle
  let base := hset 40 8 0 (hset 24 12 s.sliceId (hset 17 1 1 t.bytes))
  if t.mc then
    let live := (List.range 64).foldl (fun a i => if t.mask.testBit i && (s.member m (t.dest % 16) i).testBit 15 then a + 2 ^ i else a) 0
    if live = 0 then s.giveBack t
    else s.enqueue { t with bytes := withChk (slice base 0 24 ++ leBytes 8 live) }
  else if s.rankAbsent m t.dest then
    ((s.rankMiss m t.dest).setLogged m TCK_MFAULT [m] TCK_MFAULT.SLICE_VIOLATION).refuseTack t stSliceViolation
  else
    let e := s.rankEntry m t.dest
    if entGen e = 3 then
      let c := entX e + 32 * entY e + 1024 * entZ e
      let t := { t with bytes := hset 0 16 c base }
      if c = s.ownCoords m then s.deliverIn t else s.enqueue t
    else
      s.enqueue { t with bytes := hset 17 1 0 (hset 0 16 (entLid e) base), via := some (6 * (m - 8) + entVia e) }

/-! ### Service of a Mangle die -/

/-- Tacks in the transit buffer of Mangle die m: those that go on, and those that entered by it and wait inside the package (R534). -/
def State.tackFill (s : State) (m : Nat) : Nat :=
  (tget [] s.tacks.transit m).length + (s.tacks.inPkg.filter (fun x => x.2.mangle == m && x.2.src.isNone)).length

/-- A tack that can be served: its injection queue's source die, or its place in the transit buffer. -/
structure Cand where
  src : Option Nat
  i : Nat
  t : Tack
  deriving DecidableEq, Repr

/-- Stable insertion by decreasing AGE (R532). -/
def insAge (c : Cand) : List Cand → List Cand
  | [] => [c]
  | x :: xs => if x.t.age < c.t.age then c :: x :: xs else x :: insAge c xs

/-- What Mangle die m serves, in order (R528, R532, R534): the transit buffer, then the queues in turn. -/
def State.served (s : State) (m : Nat) : List Cand :=
  if s.bit TCK_GRID [m] TCK_GRID.VALID then
    let tr := (tget [] s.tacks.transit m).zipIdx.foldl (fun l x => insAge ⟨none, x.2, x.1⟩ l) []
    let r := tget 0 s.tacks.turn m
    let inj := (List.range 12).filterMap (fun i =>
      let d := (r + i) % 12
      ((tget [] s.tacks.inj (16 * m + d)).head?).map (fun t => (⟨some d, 0, t⟩ : Cand)))
    tr ++ (if 768 ≤ s.tackFill m then [] else inj)
  else []

/-- A served tack is taken away, or what is left of it stays in its place (R536). -/
def State.takeCand (s : State) (m : Nat) (c : Cand) (left : Option Tack) : State :=
  match c.src with
  | some d =>
    let k := 16 * m + d
    let rest := (tget [] s.tacks.inj k).drop 1
    { s with tacks := { s.tacks with
      inj := tput [] s.tacks.inj k (match left with
        | some t => t :: rest
        | none => rest)
      turn := tput 0 s.tacks.turn m ((d + 1) % 12) } }
  | none =>
    let l := tget [] s.tacks.transit m
    { s with tacks := { s.tacks with transit := tput [] s.tacks.transit m (match left with
      | some t => l.set c.i t
      | none => l.eraseIdx c.i) } }

/-- A TACK flit (R406). -/
def tackFlit (bs : List Byte) : List Byte := leBytes 1 0x7A ++ List.replicate 31 0 ++ slice bs 0 32

/-- A tack leaves on output j of Mangle die m with AGE + 1, or is dropped for its age (R533). -/
def State.tackOut (s : State) (m j : Nat) (t : Tack) : State :=
  let l := 6 * (m - 8) + j
  if 255 ≤ t.age + 1 then (s.incF TCK_AGED [m] TCK_AGED.COUNT 1).setLogged m TCK_MFAULT [m] TCK_MFAULT.AGED
  else (s.txFlit l (tackFlit (hset 40 8 (t.age + 1) t.bytes))).incF TEL_LINK_TACK_TX [l] TEL_LINK_TACK_TX.COUNT 1

/-- A tack with another MASK. -/
def Tack.withMask (t : Tack) (mask : Nat) : Tack := { t with bytes := withChk (slice t.bytes 0 24 ++ leBytes 8 mask) }

/-- The bits of a mask whose members satisfy a test. -/
def maskOf (mask : Nat) (p : Nat → Bool) : Nat := (List.range 64).foldl (fun a i => if mask.testBit i && p i then a + 2 ^ i else a) 0

/-- The members of a multicast tack at the package's own coordinates get their notices (R536, step 1). -/
def State.mcLocal (s : State) (m : Nat) (t : Tack) : State × Tack :=
  let g := t.dest % 16
  let mine := maskOf t.mask (fun i => s.member m g i % 2 ^ 15 == s.ownCoords m)
  let s := (List.range 64).foldl (fun s i =>
    if mine.testBit i then
      let one := hset 16 1 0 (hset 19 4 (s.member m g i / 2 ^ 16 % 16) (hset 0 16 (s.ownCoords m) t.bytes))
      s.deliverIn { t with bytes := withChk (slice one 0 24 ++ leBytes 8 0), token := none }
    else s) s
  (s, t.withMask (t.mask - mine))

/-- A multicast tack is served (R536): local notices, then a copy for each output that is free. -/
def State.mcServe (s : State) (m : Nat) (free : BitVec 6) (c : Cand) : State :=
  let r := s.mcLocal m c.t
  let g := c.t.dest % 16
  let out := (List.range 6).foldl (fun (x : State × Tack) j =>
    let bits := maskOf x.2.mask (fun i => x.1.preferred m (x.1.member m g i % 2 ^ 15) == some j)
    if bits ≠ 0 ∧ x.1.tackFree m free j then (x.1.tackOut m j (x.2.withMask bits), x.2.withMask (x.2.mask - bits)) else x) r
  if out.2.mask = 0 then (out.1.takeCand m c none).giveBack c.t else out.1.takeCand m c (some out.2)

/-- A multicast tack has something to do in this beat. -/
def State.mcReady (s : State) (m : Nat) (free : BitVec 6) (t : Tack) : Bool :=
  (List.range 64).any (fun i => t.mask.testBit i &&
    (match s.preferred m (s.member m (t.dest % 16) i % 2 ^ 15) with
      | none => true
      | some j => s.tackFree m free j))

/-- A G2 link takes a tack of its bridge (R591). -/
def State.g2Free (s : State) (m : Nat) (free : BitVec 6) (l : Nat) : Bool :=
  l / 6 + 8 == m && free.toNat.testBit (l % 6) && s.linkUp l && s.linkProfile l == 1 && !s.fenced l

/-- A tack can leave by its preferred output, or is at its destination (R527, R532, R591). -/
def State.tackReady (s : State) (m : Nat) (free : BitVec 6) (t : Tack) : Bool :=
  match t.via with
  | some l => s.g2Free m free l
  | none =>
    if t.mc then s.mcReady m free t
    else match s.preferred m t.dest with
      | none => true
      | some j => s.tackFree m free j

/-- A served tack leaves (R532, R527, R591). -/
def State.forwardTack (s : State) (m : Nat) (free : BitVec 6) (c : Cand) : State :=
  match c.t.via with
  | some l => (((s.takeCand m c none).txFlit l (tackFlit c.t.bytes)).incF TEL_LINK_TACK_TX [l] TEL_LINK_TACK_TX.COUNT 1).giveBack c.t
  | none =>
    if c.t.mc then s.mcServe m free c
    else match s.preferred m c.t.dest with
      | none => (s.takeCand m c none).deliverIn c.t
      | some j => ((s.takeCand m c none).tackOut m j c.t).giveBack c.t

/-- A tack that has waited leaves by the first free output of its deflection order (R532, R536). -/
def State.deflectTack (s : State) (m : Nat) (free : BitVec 6) (c : Cand) : State :=
  if c.t.via.isSome then s
  else
    let r := if c.t.mc then s.mcLocal m c.t else (s, c.t)
    let dest := if c.t.mc then
        match (List.range 64).find? (fun i => r.2.mask.testBit i) with
        | some i => some (s.member m (c.t.dest % 16) i % 2 ^ 15)
        | none => none
      else some c.t.dest
    match dest with
    | none => (r.1.takeCand m c none).giveBack c.t
    | some x =>
      match (r.1.deflectOrder m x).find? (r.1.tackFree m free) with
      | some j =>
        let s := if r.1.preferred m x == some j then r.1 else r.1.incF TCK_DEFLECTS [m] TCK_DEFLECTS.COUNT 1
        ((s.takeCand m c none).tackOut m j r.2).giveBack c.t
      | none => if c.t.mc then r.1.takeCand m c (some r.2) else s

end Sys2Proof.Machine
end

