-- ==== Sys2Proof/Machine/Tacks.lean ====
section
/-! DEFINITION. The events and commands of the Tack plane, with TKSEND, and the knots and snags that travel by it (10_tack_plane.md;
09_score_plane.md, R491, R495 to R501). -/

namespace Sys2Proof.Machine

/-! ### Sending -/

/-- TKSEND (R279, R514, R519 to R521): a token, then a tack from the template and voices 0 to 5 of RA. In a replay it retires without
effect (R783). -/
def execTksend (p : Fin 256) (k : Fin 4) (w : Stalls) (s : State) : Host.Outcome State Fault Refusal :=
  .next (s.partRow p k w (fun i => match i with
      | .tksend _ _ => true
      | _ => false) (fun s i pw => match pw.i with
    | .tksend ra tpl =>
      let d := (p : Nat) / 32
      if s.replaying then s.retireAt p k i id
      else
        let raw := slice (s.conductor d).tpl (32 * tpl) 32
        let ack := leAt raw 8 1 / 2 % 2 == 1
        let s := s.incF TCK_TOKEN_WAITS [d] TCK_TOKEN_WAITS.COUNT w.own
        match s.takeToken d ack false with
        | none => s.waitAt p k i .token
        | some (s, num, use) =>
          let x := s.sect p k
          let pay := (List.range 6).flatMap (fun v => leBytes 4 (x.voice ra v).toNat)
          let fl := leAt pay 7 1
          let pay := s.retField d ack num use ++ slice pay 6 1 ++ leBytes 1 (fl - fl % 2 + b2n ack) ++ slice pay 8 16
          (s.waitAt p k i .inject).buildTack d (slice raw 0 8 ++ pay) (if ack then none else some num) (some (4 * (p : Nat) + (k : Nat)))
    | _ => s))

/-- TCK_CSEND_CTRL.GO: the send port of Mangle die d sends what its data registers hold (R523). -/
def State.csendGo (s : State) (d : Nat) : State :=
  let bs := (List.range 4).flatMap (fun i => leBytes 8 (s.reg TCK_CSEND_DATA [d, i]).toNat)
  let kind := hget bs 36 4
  let ack := decide (3 ≤ kind) && decide (kind ≤ 6) && leAt bs 15 1 % 2 == 1
  if !s.dieUp d then s
  else if kind = 1 ∨ kind = 2 ∨ kind = 9 ∨ !tackFormOk bs ∨ (kind = 5 ∧ s.bit GLB_MODE [] GLB_MODE.METRONOME) then
    s.setBit TCK_CSEND_CTRL [d] TCK_CSEND_CTRL.REFUSED
  else
    let full := ack || kind == 7
    match s.takeToken d ack (kind == 7) with
    | none => s.setBit TCK_CSEND_CTRL [d] TCK_CSEND_CTRL.NO_TOKEN
    | some (s, num, use) =>
      let ret := if kind = 8 then slice bs 8 6 else s.retField d full num use
      s.buildTack d (slice bs 0 8 ++ ret ++ slice bs 14 18) (if full then none else some num) none

/-- CSEND_GO (R523): the send port of Mangle die m. -/
def execCsendGo (m : Fin 2) (s : State) : Host.Outcome State Fault Refusal := .next (s.csendGo (8 + (m : Nat)))

/-- TACK_INJECT_TRANSLATE (R524 to R527, R535, R562, R583): the oldest tack on its way to Mangle die m arrives and is translated. -/
def execTackInjectTranslate (m : Fin 2) (s : State) : Host.Outcome State Fault Refusal :=
  .next (
    let d := 8 + (m : Nat)
    match s.tacks.toMangle.find? (fun t => t.mangle == d) with
    | some t =>
      if s.dieUp d then
        ({ s with tacks := { s.tacks with toMangle := dropFirst (fun x => x == t) s.tacks.toMangle } }).translate t
      else s
    | none => s)

/-- TACK_RELEASE_TO_MANGLE (R526): the oldest tack of die d for Mangle die m is released when its queue there has room. -/
def execTackReleaseToMangle (d : Fin 12) (m : Fin 2) (s : State) : Host.Outcome State Fault Refusal :=
  .next (
    match s.tacks.waiting.find? (fun t => t.src == some (d : Nat) && t.mangle == 8 + (m : Nat)) with
    | some t =>
      if s.injCount t.mangle d < 64 then
        ({ s with tacks := { s.tacks with
          waiting := dropFirst (fun x => x == t) s.tacks.waiting, toMangle := s.tacks.toMangle ++ [t] } }).injected t
      else s
    | none => s)

/-! ### Routing -/

/-- TACK_FORWARD (R527 to R536, R567, R591): in a beat that leaves the outputs `free`, the first tack of Mangle die m that can leaves by
its preferred output. -/
def execTackForward (m : Fin 2) (free : BitVec 6) (s : State) : Host.Outcome State Fault Refusal :=
  .next (
    let d := 8 + (m : Nat)
    if s.dieUp d then
      match (s.served d).find? (fun c => s.tackReady d free c.t) with
      | some c => s.forwardTack d free c
      | none => s
    else s)

/-- TACK_DEFLECT (R532, R533, R536): the tack at place n of the service order of Mangle die m has waited so many beats. -/
def execTackDeflect (m : Fin 2) (n waited : Nat) (free : BitVec 6) (s : State) : Host.Outcome State Fault Refusal :=
  .next (
    let d := 8 + (m : Nat)
    if s.dieUp d && decide (s.getF TCK_MCFG [d] TCK_MCFG.PATIENCE ≤ waited) then
      match (s.served d)[n]? with
      | some c => s.deflectTack d free c
      | none => s
    else s)

/-- One more discard of a kind (R528, R534, R538, R540). -/
def State.dropTack (s : State) (m : Nat) (f : Fld) : State := s.incF TCK_DROPS [m] f 1

/-- A tack of a G2 peer is rewritten (R585, R586). -/
def State.legacyTack (s : State) (bs : List Byte) : List Byte :=
  let bs := hset 40 8 0 (hset 24 12 s.sliceId (hset 17 1 1 (hset 0 16 (s.ownCoords 8) bs)))
  let kind := hget bs 36 4
  if kind = 1 ∨ kind = 2 then hset 19 4 (8 + leAt bs 8 2 / 2 ^ 11 % 2) bs else bs

/-- TACK_LINK_ARRIVAL (R528, R534, R538, R562, R567, R585): a tack leaves the landing buffer of link l. -/
def execTackLinkArrival (l : Fin 12) (tack : List Byte) (s : State) : Host.Outcome State Fault Refusal :=
  .next (
    let m := 8 + (l : Nat) / 6
    let bs := slice tack 0 32
    let prof := s.linkProfile l
    if s.linkUp l && prof != 2 && s.dieUp m then
      let s := s.incF TEL_LINK_TACK_RX [(l : Nat)] TEL_LINK_TACK_RX.COUNT 1
      if s.fenced l then s.fenceCount m false
      else if !s.bit TCK_GRID [m] TCK_GRID.VALID then s.dropTack m TCK_DROPS.GRID
      else if leAt bs 7 1 ≠ tackChk bs ∨ !tackFormOk bs ∨ (prof = 0 ∧ hget bs 17 1 = 0 ∧ hget bs 16 1 = 0) then
        (s.dropTack m TCK_DROPS.BAD).setBit TCK_MFAULT [m] TCK_MFAULT.BAD_TACK
      else if !s.sliceOk (hget (if prof = 0 then bs else s.legacyTack bs) 24 12) then
        let s := (s.dropTack m TCK_DROPS.SLICE).setBit TCK_MFAULT [m] TCK_MFAULT.SLICE_BAD
        if s.sliceValid then s else s.setLogged m RNK_EVENT [m] RNK_EVENT.NO_SLICE
      else
        let t : Tack :=
          { bytes := if prof = 0 then bs else s.legacyTack bs, src := none, token := none, sect := none, mangle := m, via := none }
        if 1024 ≤ s.tackFill m then (s.dropTack m TCK_DROPS.OVF).setLogged m TCK_MFAULT [m] TCK_MFAULT.OVF
        else
          let s := if prof = 1 ∨ (!t.mc ∧ t.dest = s.ownCoords m) then s.deliverIn t
            else { s with tacks := { s.tacks with transit := tput [] s.tacks.transit m (tget [] s.tacks.transit m ++ [t]) } }
          s.peakF TCK_BUF [m] TCK_BUF.PEAK (s.tackFill m)
    else s)

/-! ### Delivery -/

/-- The oldest tack of one kind that reaches die d (R539). A token held for its delivery comes back (R521). -/
def State.takeIn (s : State) (d kind : Nat) : Option (State × Tack) :=
  (s.tacks.inPkg.find? (fun x => x.1 == d && x.2.kind == kind)).map (fun x =>
    (({ s with tacks := { s.tacks with inPkg := dropFirst (fun y => y == x) s.tacks.inPkg } }).giveBack x.2, x.2))

/-- Why a die, or a Press of it, is away (R540); none when it is not. -/
def State.dieAway (s : State) (d : Nat) : Option Nat :=
  if s.dieFolded d then some stUnitFolded else if s.dieInReset d then some stUnitInReset else none
def State.pressAway (s : State) (p : Nat) : Option Nat :=
  if s.pressFolded p then some stUnitFolded else if s.pressInReset p then some stUnitInReset else none

/-- A delivery that fails because its unit is away (R540): AWAY, and the ACK of the die in front of it. -/
def State.awayTack (s : State) (t : Tack) (d status : Nat) : State :=
  let s := s.setBit TCK_MFAULT [t.mangle] TCK_MFAULT.AWAY
  if (s.dieAway d).isSome then s.sendAck (frontDie t.mangle d) t status
  else (if d < 8 then s.setBit TCK_PFAULT [d] TCK_PFAULT.AWAY else s).sendAck d t status

/-- NOTICE_DELIVER (R539 to R541, R789) (DEDUCED, log entry 28). -/
def execNoticeDeliver (die : Fin 12) (s : State) : Host.Outcome State Fault Refusal :=
  .next (match s.takeIn die 3 with
    | none => s
    | some (s, t) =>
      let d : Nat := die
      let n := t.pay 8 2
      if t.dunit ≠ d ∨ 8 ≤ d ∨ n = 0 then s.sendAck d t stBadParam
      else match s.dieAway d with
        | some st => s.awayTack t d st
        | none =>
          let s := ((s.addTally d (t.pay 6 1) n).incF TCK_NOTICES [d] TCK_NOTICES.COUNT 1).logItem (.tally d (t.pay 6 1) n)
          let s := { s with books := { s.books with noticed := tput 0 s.books.noticed d (tget 0 s.books.noticed d + n) } }
          s.sendAck d t stOk)

/-- The modes of the package, for ADD (R516, R607). -/
def State.adder (s : State) (op : Nat) (old v : List Byte) : List Byte :=
  let f := s.fmode
  let lo (b : List Byte) : Nat := leAt b 0 4
  let hi (b : List Byte) : Nat := leAt b 4 4
  match op with
  | 0 => leBytes 4 (lo old + lo v) ++ leBytes 4 (hi old + hi v)
  | 1 => leBytes 8 (leAt old 0 8 + leAt v 0 8)
  | 2 => leBytes 4 (f.vadd (BitVec.ofNat 32 (lo old)) (BitVec.ofNat 32 (lo v))).toNat ++
      leBytes 4 (f.vadd (BitVec.ofNat 32 (hi old)) (BitVec.ofNat 32 (hi v))).toNat
  | _ => leBytes 8 (fmtFP64.round f.flush ((fmtFP64.input f.daz (leAt old 0 8)).add (fmtFP64.input f.daz (leAt v 0 8))))

/-- The bytes that a WRITE or ADD stores (R515, R516, R539). -/
def State.tackBytes (s : State) (t : Tack) : List Byte :=
  if t.kind = 4 then slice t.bytes 24 (t.pay 6 1) else s.adder (t.pay 6 1) (s.readMem t.offset 8) (slice t.bytes 24 8)

/-- A WRITE or ADD takes effect at die d, or waits for a hold (R200, R539 to R541); a capture logs one from outside (R782). -/
def State.tackStore (s : State) (d : Nat) (t : Tack) : State :=
  let r := s.writePiece t.offset (s.tackBytes t) (.tack t.bytes t.src t.token t.mangle) t.src.isNone
  if r.2 then r.1 else r.1.sendAck d t stOk

/-- The form of a WRITE or ADD at its memory (R540): LEN or OP in range, one sector, aligned (DEDUCED, log entry 28). -/
def Tack.storeOk (t : Tack) : Bool :=
  if t.kind = 4 then decide (1 ≤ t.pay 6 1) && decide (t.pay 6 1 ≤ 8) && decide (t.offset % 32 + t.pay 6 1 ≤ 32)
  else t.offset % 8 == 0 && decide (t.pay 6 1 < 4)

/-- A WRITE or ADD at die d (R355, R394, R539, R540, R762, R765) (DEDUCED, log entry 28). -/
def State.memTack (s : State) (d : Nat) (t : Tack) (ecc : Ecc) : State :=
  let n := if t.kind = 4 then t.pay 6 1 else 8
  if !t.storeOk then s.sendAck d t stBadParam
  else if (s.offsetDie t.offset n).isNone then (s.stray (t.src.getD t.mangle) t.offset true).sendAck d t stBadParam
  else
    let away := if t.offset < boardBase then s.dieAway d else ((s.boardOf t.offset).bind s.pressAway)
    match away with
    | some st => s.awayTack t d st
    | none =>
      let s := if t.kind == 5 && t.src.isNone && s.bit GLB_MODE [] GLB_MODE.METRONOME then
          s.setLogged 10 GLB_MODE [] GLB_MODE.VARIANT_SEEN
        else s
      if t.kind = 5 ∧ t.offset < boardBase then
        let s := s.eccSeen (t.offset / 32 * 32) ecc
        match ecc with
        | .bad _ => (s.setLogged t.mangle TCK_MFAULT [t.mangle] TCK_MFAULT.TARGET_FAIL).sendAck d t stIntegrity
        | _ => s.tackStore d t
      else s.tackStore d t

/-- A tack for HBM waits while the controller of its stack is not trained (R368). -/
def State.tackWaits (s : State) (d kind : Nat) : Bool :=
  match s.tacks.inPkg.find? (fun x => x.1 == d && x.2.kind == kind) with
  | some x => decide (x.2.offset < boardBase) && decide (d < 8) && (s.dieAway d).isNone && !s.stackUp d
  | none => false

/-- WRITE_DELIVER (R539 to R541). -/
def execWriteDeliver (die : Fin 12) (s : State) : Host.Outcome State Fault Refusal :=
  .next (if s.tackWaits die 4 then s
    else match s.takeIn die 4 with
      | none => s
      | some (s, t) => s.memTack die t .clean)

/-- ADD_DELIVER (R516, R539 to R541). -/
def execAddDeliver (die : Fin 12) (ecc : Ecc) (s : State) : Host.Outcome State Fault Refusal :=
  .next (if s.tackWaits die 5 then s
    else match s.takeIn die 5 with
      | none => s
      | some (s, t) => s.memTack die t ecc)

/-- A tack is stored whole in the inbox of Mangle die d, or finds it full (R540, R544): true when stored. -/
def State.toInbox (s : State) (d : Nat) (t : Tack) : State × Bool :=
  let l := tget [] s.tacks.inbox d
  if l.length < 256 then
    (({ s with tacks := { s.tacks with inbox := tput [] s.tacks.inbox d (l ++ [t.bytes]) } }).setF TCK_INBOX_CTRL [d] TCK_INBOX_CTRL.COUNT
      (l.length + 1), true)
  else (s.dropTack d TCK_DROPS.INBOX, false)

/-- Entries in the comparator's pending table (R777). -/
def State.unPending (s : State) : State :=
  let n := s.unison.own.length + s.unison.peer.length
  (s.setF UN_PENDING [] UN_PENDING.PENDING n).peakF UN_PENDING [] UN_PENDING.PEAK n

/-- The entries and CLOSEs of a Score bar leave the comparator. -/
def State.unDrop (s : State) (sbar : Nat) : State :=
  let u := s.unison
  (s.setUnison { u with
    own := u.own.filter (fun e => e.sbar != sbar), peer := u.peer.filter (fun e => e.sbar != sbar)
    ownClose := u.ownClose.filter (fun e => e.sbar != sbar), peerClose := u.peerClose.filter (fun e => e.sbar != sbar) }).unPending

/-- A Score bar is unchecked (R778): counted, once, with UNCHECKED or OVERFLOW set; what it has in the table goes. -/
def State.unUnchecked (s : State) (sbar : Nat) (f : Fld) : State :=
  if s.unison.lost.contains sbar then s
  else
    let s := (s.setUnison { s.unison with lost := s.unison.lost ++ [sbar] }).unDrop sbar
    (s.incF UN_UNCHECKED [] UN_UNCHECKED.COUNT 1).setLogged 10 UN_STATUS [] f

/-- A digest tack of the partner reaches the comparator (R774, R776 to R778, R782). -/
def State.unReceive (s : State) (t : Tack) : State :=
  let sbar := t.pay 12 4
  if t.pay 8 1 = 1 then
    let e : UnEntry := ⟨sbar, t.pay 9 1, t.pay 10 2, t.pay 16 8⟩
    let s := if s.capturing && s.getF UN_CAP_SBAR [] UN_CAP_SBAR.S == sbar then
        s.setUnison { s.unison with capPeer := s.unison.capPeer ++ [e] } else s
    if s.unison.lost.contains sbar then s
    else if 1024 ≤ s.unison.own.length + s.unison.peer.length then s.unUnchecked sbar UN_STATUS.OVERFLOW
    else (s.setUnison { s.unison with peer := s.unison.peer ++ [e] }).unPending
  else if t.pay 8 1 = 2 ∧ !s.unison.lost.contains sbar then
    s.setUnison { s.unison with peerClose := s.unison.peerClose ++ [⟨sbar, t.pay 10 2, t.pay 16 4⟩] }
  else s

/-- DOORBELL_DELIVER (R539 to R541, R776) (DEDUCED, log entry 28). -/
def execDoorbellDeliver (die : Fin 12) (s : State) : Host.Outcome State Fault Refusal :=
  .next (match s.takeIn die 6 with
    | none => s
    | some (s, t) =>
      let d : Nat := die
      if t.dunit ≠ d ∨ d < 8 ∨ 10 < d then s.sendAck d t stBadParam
      else match s.dieAway d with
        | some st => s.awayTack t d st
        | none =>
          if d = 10 then
            if s.bit UN_CTRL [] UN_CTRL.PAIRED && t.pay 0 2 == s.getF UN_CTRL [] UN_CTRL.PARTNER then s.unReceive t
            else s.dropTack t.mangle TCK_DROPS.INBOX
          else
            let r := s.toInbox d t
            if r.2 then r.1.sendAck d t stOk else r.1)

/-- A PEER fragment goes to the inbox of its Mangle die (R515, R539). -/
def State.peerFragment (s : State) (d : Nat) (t : Tack) : State × Bool :=
  if t.dunit = d ∧ (d = 8 ∨ d = 9) ∧ (s.dieAway d).isNone then s.toInbox d t
  else if (s.dieAway d).isSome then (s.setBit TCK_MFAULT [t.mangle] TCK_MFAULT.AWAY, false)
  else (s, false)

/-- PEER_REQ_DELIVER (R515, R539, R540). -/
def execPeerReqDeliver (die : Fin 12) (s : State) : Host.Outcome State Fault Refusal :=
  .next (match s.takeIn die 7 with
    | none => s
    | some (s, t) => (s.peerFragment die t).1)

/-- PEER_RSP_DELIVER (R515, R523, R539): the final fragment returns the token of its PEER_REQ. -/
def execPeerRspDeliver (die : Fin 12) (s : State) : Host.Outcome State Fault Refusal :=
  .next (match s.takeIn die 8 with
    | none => s
    | some (s, t) =>
      let d : Nat := die
      let r := s.peerFragment d t
      let frag := t.pay 6 1
      let tag := t.pay 3 1
      if r.2 && frag % 16 == frag / 16 && t.pay 2 1 % 16 == d && t.pay 4 2 == s.dieWash d &&
          (r.1.tokens d).any (fun k => k.peer && k.num == tag % 64 && k.use == tag / 64) then
        r.1.returnToken d (tag % 64)
      else r.1)

/-- ACK_RECEIVE (R521, R542): an ACK at its SDIE. -/
def execAckReceive (die : Fin 12) (s : State) : Host.Outcome State Fault Refusal :=
  .next (match s.takeIn die 9 with
    | none => s
    | some (s, t) =>
      let d : Nat := die
      let tag := t.pay 3 1
      let st := t.pay 6 1
      if !s.dieUp d ∨ 10 ≤ d then s
      else if t.pay 4 2 ≠ s.dieWash d then (if d < 8 then s.setBit TCK_PFAULT [d] TCK_PFAULT.STALE_WASH else s)
      else if !(s.tokens d).any (fun k => k.num == tag % 64 && k.use == tag / 64) then
        (if d < 8 then s.setBit TCK_PFAULT [d] TCK_PFAULT.ACK_LATE else s)
      else
        let s := s.returnToken d (tag % 64)
        if 8 ≤ d then (s.toInbox d t).1
        else if st = 0 then s
        else
          let old := s.bit TCK_PFAULT [d] TCK_PFAULT.NACK
          let s := if old then s else s.setF TCK_PFAULT [d] TCK_PFAULT.STATUS st
          let s := if old || s.bit TCK_PFAULT [d] TCK_PFAULT.TIMEOUT then s else s.setF TCK_PFAULT [d] TCK_PFAULT.TAG tag
          s.setLogged d TCK_PFAULT [d] TCK_PFAULT.NACK)

/-- ACK_TIMEOUT (R521, R523, R543): ACK_US have passed for an outstanding token that an answer returns. -/
def execAckTimeout (die : Fin 10) (num : Fin 64) (s : State) : Host.Outcome State Fault Refusal :=
  .next (
    let d : Nat := die
    match (s.tokens d).find? (fun k => k.num == (num : Nat) && (k.ack || k.peer)) with
    | some k =>
      let s := s.returnToken d num
      if d < 8 then
        let tag := k.num + 64 * k.use
        let s := if s.bit TCK_PFAULT [d] TCK_PFAULT.NACK || s.bit TCK_PFAULT [d] TCK_PFAULT.TIMEOUT then s
          else s.setF TCK_PFAULT [d] TCK_PFAULT.TAG tag
        (s.incF TCK_TIMEOUTS [d] TCK_TIMEOUTS.COUNT 1).setLogged d TCK_PFAULT [d] TCK_PFAULT.TIMEOUT
      else s
    | none => s)

/-! ### Registers and groups -/

/-- The oldest tack of an inbox is removed (TCK_INBOX_CTRL.POP). -/
def State.popInbox (s : State) (d : Nat) : State :=
  match tget [] s.tacks.inbox d with
  | _ :: rest =>
    ({ s with tacks := { s.tacks with inbox := tput [] s.tacks.inbox d rest } }).setF TCK_INBOX_CTRL [d] TCK_INBOX_CTRL.COUNT rest.length
  | [] => s

/-- INBOX_POP (R544). -/
def execInboxPop (m : Fin 2) (s : State) : Host.Outcome State Fault Refusal := .next (s.popInbox (8 + (m : Nat)))

/-- The package is armed or running. -/
def State.busyTempo (s : State) : Bool := s.tempo.armed || s.tempo.running

/-- A write to TCK_GRID (R528). -/
def State.writeGrid (s : State) (d : Nat) (v : Word) : State :=
  if s.busyTempo then s else s.setReg TCK_GRID [d] (v &&& TCK_GRID.bitsOf .rw)

/-- TCK_GRID_WRITE (R528). -/
def execTckGridWrite (m : Fin 2) (data : Word) (s : State) : Host.Outcome State Fault Refusal := .next (
  if s.regGone TCK_GRID [8 + (m : Nat)] then s.goneAccess TCK_GRID [8 + (m : Nat)] true else s.writeGrid (8 + (m : Nat)) data)

/-- MCAST_GROUP_WRITE (R535, R537). -/
def execMcastGroupWrite (c : Cmd) (s : State) : Host.Outcome State Fault Refusal :=
  .next (s.runCmd c 0x0403 (fun s =>
    let g := c.par 0 1
    let fl := c.par 1 1
    let ents := (List.range 32).map (fun i => leAt c.inl (4 * i) 4)
    if c.inlineLen ≠ 128 then s.complete c stBadLength []
    else if 16 ≤ g ∨ 8 ≤ fl ∨ fl / 2 = 0 ∨ !c.parZero 2 14 ∨ ents.any (fun e => 2 ^ 19 ≤ e) then s.complete c stBadParam []
    else if s.busyTempo then s.complete c stBusy []
    else
      let put (s : State) (m : Nat) : State :=
        { s with tacks := { s.tacks with groups := ents.zipIdx.foldl (fun t e =>
          tput 0 t (2 ^ 20 * m + 64 * g + 32 * (fl % 2) + e.2) e.1) s.tacks.groups } }
      let s := if fl.testBit 1 then put s 8 else s
      let s := if fl.testBit 2 then put s 9 else s
      s.complete c stOk []))

/-! ### Bolts' ends, knots and snags -/

/-- BOLT_TAIL_ARRIVE (R455, R456, R491, R493 to R495): what is left of an accepted bolt lands, and its last flit ends it. -/
def execBoltTailArrive (id : Nat) (obs : SkidObs) (s : State) : Host.Outcome State Fault Refusal :=
  .next (match s.flight id with
    | some f =>
      if f.accepted then
        let r := s.inputObs f obs
        r.1.landFlight { f with bad := f.bad || r.2 }
      else s
    | none => s)

/-- The torus of a knot or snag tack (R587): that of the legacy link its bolt came by, else that of its stream (DEDUCED, log entry 22). -/
def State.knotIdx (s : State) (k : Knot) : Nat :=
  match (List.range 12).find? (fun l => (s.linkProfile l == 1 || s.linkProfile l == 2) && s.bit LNK_LGC_ID (lnk l) LNK_LGC_ID.VALID &&
      s.getF LNK_LGC_ID (lnk l) LNK_LGC_ID.PEER_RANK == k.srank) with
  | some l => l / 6
  | none => k.stream / 2 ^ 11 % 2

/-- KNOT_TACK_SEND (R496, R497, R587): the oldest entry of the knot queue of die d leaves as a tack, without a token. -/
def execKnotTackSend (d : Fin 8) (s : State) : Host.Outcome State Fault Refusal :=
  .next (match tget [] s.score.knotQ d with
    | k :: rest =>
      let i := s.knotIdx k
      if s.dieUp d && decide (s.injCount (8 + i) d < 64) then
        let pay := leBytes 2 k.stream ++ leBytes 2 k.base ++ leBytes 8 k.mask ++ leBytes 1 k.rem ++ leBytes 1 0 ++ leBytes 2 s.rank ++ leBytes 8 0
        ({ s with score := { s.score with knotQ := tput [] s.score.knotQ d rest } }).buildTack d
          (tackHeader k.srank 0 i (8 + k.stream / 2 ^ 11 % 2) (if k.snag then 2 else 1) ++ pay) none none
      else s
    | [] => s)

/-- A knot or snag tack as the Mangle die reads it (R497). -/
def Tack.knot (t : Tack) : Knot := ⟨t.kind == 2, 0, t.pay 0 2 % 4096, t.pay 2 2, t.pay 4 8, t.pay 12 1 % 32⟩

/-- A knot or snag reaches Mangle die d (R499 to R501). -/
def State.knotIn (s : State) (d kind : Nat) : State :=
  match s.takeIn d kind with
  | none => s
  | some (s, t) => if s.dieUp d && t.dunit == d then s.applyKnot d t.knot else s

/-- KNOT_APPLY (R199, R499, R500, R507). -/
def execKnotApply (m : Fin 2) (s : State) : Host.Outcome State Fault Refusal := .next (s.knotIn (8 + (m : Nat)) 1)

/-- SNAG_APPLY (R499, R501). -/
def execSnagApply (m : Fin 2) (s : State) : Host.Outcome State Fault Refusal := .next (s.knotIn (8 + (m : Nat)) 2)

end Sys2Proof.Machine
end

