-- ==== Sys2Proof/Machine/Clocks.lean ====
section
/-! DEFINITION. The meanings of the reference clocks' events and configuration writes, and of the mesochronous crossings (03_clocks.md). -/

namespace Sys2Proof.Machine

/-- REF_MISSING_EDGE (R134 to R136, R139, R140): REFCLK_A or REFCLK_B. -/
def execRefMissingEdge (x : Fin 2) (s : State) : Host.Outcome State Fault Refusal := .next (s.refLost x)

/-- REF_FREQ_WINDOW_FAIL (R134). -/
def execRefFreqWindowFail (x : Fin 2) (s : State) : Host.Outcome State Fault Refusal := .next (s.refLost x)

/-- REF_QUALIFIED (R135, R138, R142, R164); a holdover that it ends has lasted `us` microseconds. -/
def execRefQualified (x : Fin 2) (us : BitVec 24) (s : State) : Host.Outcome State Fault Refusal :=
  .next (
    let en := bitOf (s.reg CLK_REF_CFG []) (2 + x)
    if !en || s.refQual x then s
    else
      let t := s.refQualified x
      if s.refActive == 4 && t.refActive != 4 then t.setF CLK_HOLDOVER [] CLK_HOLDOVER.ELAPSED_US us.toNat else t)

/-- SWITCHOVER_COMPLETE (R136 to R138). -/
def execSwitchoverComplete (s : State) : Host.Outcome State Fault Refusal :=
  .next (match s.refWanted with
    | some x =>
      let s := { s with pwr := { s.pwr with switching := false } }
      ((s.setF CLK_REF_STATUS [] CLK_REF_STATUS.ACTIVE x).incF CLK_REF_STATUS [] CLK_REF_STATUS.SWITCHES 1).refSet CLK_REF_STATUS.SWITCHED
    | none => s)

/-- HOLDOVER_EXPIRY (R141). -/
def execHoldoverExpiry (s : State) : Host.Outcome State Fault Refusal :=
  .next (if s.refActive == 4 && !s.bit CLK_REF_STATUS [] CLK_REF_STATUS.HOLD_EXP then
    (s.setF CLK_HOLDOVER [] CLK_HOLDOVER.ELAPSED_US 10000).refSet CLK_REF_STATUS.HOLD_EXP
  else s)

/-- A write to CLK_FWD_CFG (R136, R150, R151, R163). -/
def State.writeFwdCfg (s : State) (v : Nat) : State :=
  let w : Word := BitVec.ofNat 64 v
  let src := fget w CLK_FWD_CFG.SRC_LINK
  let bak := fget w CLK_FWD_CFG.BACKUP_LINK
  if s.busyTempo ∨ (bitOf w 0 ∧ (11 < src ∨ (bitOf w 8 ∧ (11 < bak ∨ bak = src)))) then s.refSet CLK_REF_STATUS.CFG_IGNORED
  else
    let kind := s.forwarded != bitOf w 0
    let s := s.setReg CLK_FWD_CFG [] (w &&& CLK_FWD_CFG.bitsOf .rw)
    let s := { s with pwr := { s.pwr with switching := false } }
    let s := s.linkSources.refSettle
    if kind then
      ((List.range 12).filter (fun l => s.linkProfile l == 0 && !s.tempoSource l)).foldl (fun s l => s.linkRetrain l false) s
    else s

/-- CLK_FWD_CFG_WRITE (R150, R151, R163). -/
def execClkFwdCfgWrite (v : BitVec 32) (s : State) : Host.Outcome State Fault Refusal := .next (s.writeFwdCfg v.toNat)

/-- A write to CLK_REF_CFG (R135, R136, R138, R150, R162) (DEDUCED, log entry 14) (DEDUCED, log entry 15). -/
def State.writeRefCfg (s : State) (v : Nat) : State :=
  let w : Word := BitVec.ofNat 64 v
  let p := s.getF CLK_REF_CFG [] CLK_REF_CFG.PREFER
  let moved := fget w CLK_REF_CFG.PREFER != p
  let s := if moved && s.busyTempo then s.refSet CLK_REF_STATUS.CFG_IGNORED else s
  let moved := moved && !s.busyTempo
  let cfg := fset (fset (w &&& CLK_REF_CFG.bitsOf .rw) CLK_REF_CFG.QUAL_MS (max 1 (fget w CLK_REF_CFG.QUAL_MS))) CLK_REF_CFG.PREFER
    (if moved then 1 - p else p)
  let s := s.setReg CLK_REF_CFG [] cfg
  let both := s.refActiveOk && s.refSources.contains (1 - p) && s.refQual (1 - p) && s.refActive != 1 - p
  let s := if moved then { s with pwr := { s.pwr with switching := both } } else s
  [0, 1].foldl (fun s x =>
    if bitOf cfg (2 + x) then s
    else if s.refActive = x then s.refLost x else s.setF CLK_REF_STATUS [] ⟨x, 1⟩ 0) s

/-- CLK_REF_CFG_WRITE (R150, R162). -/
def execClkRefCfgWrite (v : BitVec 32) (s : State) : Host.Outcome State Fault Refusal := .next (s.writeRefCfg v.toNat)

/-! ### Mesochronous crossings -/

/-- MESO_FILL_MARGIN (R158): the crossing FIFO of a link or a Seam port reaches a fill of 7, or of 1. -/
def execMesoFillMargin (link : Bool) (d : Fin 12) (q : Fin 6) (high : Bool) (s : State) : Host.Outcome State Fault Refusal :=
  .next (
    let fill := if high then 7 else 1
    let ix : List Nat := [(d : Nat), (q : Nat)]
    if link then
      if d = 8 ∨ d = 9 then
        ((s.setF LNK_MESO ix LNK_MESO.FILL fill).setBit LNK_MESO ix LNK_MESO.MARGIN).incF LNK_MESO ix LNK_MESO.MARGIN_COUNT 1
      else s
    else if (seamPeer d q).1 < 12 then
      ((s.setF SEAM_MESO ix SEAM_MESO.FILL fill).setBit SEAM_MESO ix SEAM_MESO.MARGIN).incF SEAM_MESO ix SEAM_MESO.MARGIN_COUNT 1
    else s)

/-- MESO_CROSSING_FAULT (R159, R441): a fill of 8, or of 0, retrains the link or Seam. -/
def execMesoCrossingFault (link : Bool) (d : Fin 12) (q : Fin 6) (high : Bool) (s : State) : Host.Outcome State Fault Refusal :=
  .next (
    let fill := if high then 8 else 0
    let ix : List Nat := [(d : Nat), (q : Nat)]
    if link then
      if d = 8 ∨ d = 9 then (s.setF LNK_MESO ix LNK_MESO.FILL fill).linkRetrain (6 * ((d : Nat) - 8) + q) false else s
    else if (seamPeer d q).1 < 12 then (s.setF SEAM_MESO ix SEAM_MESO.FILL fill).seamRetrain d q false
    else s)

end Sys2Proof.Machine
end

