-- ==== Sys2Proof/Machine/BoltRows.lean ====
section
/-! DEFINITION. The events of the Score plane: heads at switches, arrivals over links, exit lookups, acceptance, landing,
descriptor records and resends (09_score_plane.md). -/

namespace Sys2Proof.Machine

/-- BOLT_HEAD_ROUTE (R3, R472, R481): the head of flight `id` stands at a switch and advances or holds. -/
def execBoltHeadRoute (id : Nat) (free : Bool) (obs : SkidObs) (s : State) : Host.Outcome State Fault Refusal :=
  .next (match s.flight id with
    | some f => if f.held || f.accepted then s else s.advance f free obs
    | none => s)

/-- HEAD_ADVANCE (R472): a head that holds tries its outputs again; `obs` tells the beats it has held. -/
def execHeadAdvance (id : Nat) (free : Bool) (obs : SkidObs) (s : State) : Host.Outcome State Fault Refusal :=
  .next (match s.flight id with
    | some f => if f.held && !f.accepted then s.advance f free obs else s
    | none => s)

/-- BOLT_LINK_ARRIVAL (R462, R463, R468, R478 to R481, R489, R567, R585, R589): the flits of a bolt arrive on link l. With fewer
than LINES + 2 of them, the link left UP before its tail (R493). -/
def execBoltLinkArrival (l : Fin 12) (flits : List (List Byte)) (resend free : Bool) (obs : SkidObs) (s : State) :
    Host.Outcome State Fault Refusal :=
  .next (
    let m := 8 + (l : Nat) / 6
    let prof := s.getF LNK_STATUS (lnk l) LNK_STATUS.PROFILE
    if s.linkUp l && prof != 2 then
      let b := parseBolt flits
      let r := s.linkSkid l obs
      let s := if prof = 1 then r.1.incF LNK_LGC_RX (lnk l) LNK_LGC_RX.COUNT 1 else r.1
      let cut := decide (flits.length < b.1.lines + 2)
      if prof = 1 ∧ 31 < b.1.lines ∧ !b.2.1 then s.setBit LNK_LGC_EVENT (lnk l) LNK_LGC_EVENT.OVERSIZE
      else
        let h := if prof = 1 then s.legacyIn l b.1 else b.1
        if s.dieUp m then s.boltFromLink l h b.2.1 b.2.2.1 b.2.2.2 r.2 cut resend free else s
    else s)

/-- The route of a head matches the entry of a legacy rank (R584): one hop, on the entry's VIA link. -/
def State.exitRouteOk (s : State) (m : Nat) (f : Flight) : Bool :=
  let e := s.rankEntry m f.hdr.drank
  entGen e == 3 || (routeHops f.hdr.route == 1 && f.exit == some (6 * (m - 8) + entVia e))

/-- BLT_SV keeps DRANK and STREAM of the first SLICE_VIOLATION since its bit was clear (R488). -/
def State.sliceViolation (s : State) (m drank stream : Nat) : State :=
  let s := if s.bit BLT_MFAULT [m] BLT_MFAULT.SLICE_VIOLATION then s
    else (s.setF BLT_SV [m] BLT_SV.DRANK drank).setF BLT_SV [m] BLT_SV.STREAM stream
  (s.setLogged m BLT_MFAULT [m] BLT_MFAULT.SLICE_VIOLATION).endStream stream stSliceViolation

/-- BOLT_EXIT_LOOKUP (R488, R553, R583, R584): the exit Mangle die looks up DRANK of a head from inside its package. -/
def execBoltExitLookup (id : Nat) (free : Bool) (obs : SkidObs) (s : State) : Host.Outcome State Fault Refusal :=
  .next (match s.flight id with
    | some f =>
      match f.exit with
      | some l =>
        let m := f.at_
        if m == f.goal && f.own && !f.looked then
          let r := s.inputObs f obs
          let f := { f with bad := f.bad || r.2, looked := true }
          if r.1.rankAbsent m f.hdr.drank || !r.1.exitRouteOk m f then
            ((r.1.rankMiss m f.hdr.drank).removeFlight f).sliceViolation m f.hdr.drank f.hdr.stream
          else (r.1.setFlight f).exitHead f l free
        else s
      | none => s
    | none => s)

/-- DESCRIPTOR_RECORD_ARRIVE (R486, R499): the record of a held descriptor reaches its Mangle die. -/
def execDescriptorRecordArrive (stream : BitVec 12) (seq : BitVec 16) (s : State) : Host.Outcome State Fault Refusal :=
  .next (match s.descOf stream.toNat seq.toNat with
    | some d => if d.record then s else s.recordArrives d
    | none => s)

/-- BOLT_HEAD_ACCEPT (R490, R491): a head at the die of DPRESS is checked, and the first `upto` lines land. -/
def execBoltHeadAccept (id : Nat) (upto : Fin 129) (obs : SkidObs) (s : State) : Host.Outcome State Fault Refusal :=
  .next (match s.flight id with
    | some f =>
      if f.exit.isNone && f.at_ == f.hdr.dpress / 32 && f.at_ < 8 && !f.accepted then
        let r := s.inputObs f obs
        r.1.acceptHead { f with bad := f.bad || r.2 } upto
      else s
    | none => s)

/-- KNOT_TIMEOUT (R502): at Mangle die m, descriptors whose timeout has passed join the resend queue, oldest first
(DEDUCED, log entry 104). -/
def execKnotTimeout (m : Fin 2) (s : State) : Host.Outcome State Fault Refusal :=
  .next (
    let d := 8 + (m : Nat)
    let bars := s.getF BLT_CFG [d] BLT_CFG.KNOT_BARS
    let due := s.score.desc.filter (fun x => streamMangle x.stream == d && !x.queued && !x.resending &&
      newer 32 s.tempo.barno (bar32 (x.resendBar + bars)))
    due.foldl (fun s x => (s.incF BLT_TIMEOUT_RESENDS [d] BLT_TIMEOUT_RESENDS.COUNT 1).queueResend x) s)

/-- The descriptor at the head of the resend queue of Mangle die m starts its resend (R503, R505). -/
def State.startResend (s : State) (m : Nat) (d : Desc) (rest : List (Nat × Nat)) : State :=
  let p := 32 * d.die + d.press
  let payload := s.readBoard p (512 * d.sblk) d.hdr.bytes
  let n := d.resends + 1
  let warn := n == s.getF BLT_CFG [m] BLT_CFG.RESEND_WARN
  let s := { s with score := { s.score with resendQ := tput [] s.score.resendQ m rest } }
  let s := s.mapDesc d.stream d.seq (fun x =>
    { x with queued := false, resending := true, resends := n, resendBar := s.tempo.barno })
  let s := (s.incF BLT_RESENDS [m] BLT_RESENDS.COUNT 1).syncDarn
  let s := if warn then s.setLogged m BLT_MFAULT [m] BLT_MFAULT.RESEND_WARN else s
  let exit := if d.hdr.route = 0 then none else routeLink d.hdr.route
  let goal := match exit with
    | some l => 8 + l / 6
    | none => d.hdr.dpress / 32
  let next := nextDie d.die goal
  s.addFlight
    { id := 0, hdr := d.hdr, payload := payload, pcrc := crc32c payload, hdrBad := false, bad := false, cut := false, resend := true, own := true
      at_ := next, inp := if next = d.die then .source else .seam d.die, held := false, exit := exit, split := false
      looked := false, entry := none, accepted := false, lines := 0 }

/-- RESEND_START (R503, R505): the source re-reads its Board and sends the bolt at the head of the resend queue again. -/
def execResendStart (m : Fin 2) (s : State) : Host.Outcome State Fault Refusal :=
  .next (
    let d := 8 + (m : Nat)
    match tget [] s.score.resendQ d with
    | (st, sq) :: rest =>
      match s.descOf st sq with
      | some x => s.startResend d x rest
      | none => ({ s with score := { s.score with resendQ := tput [] s.score.resendQ d rest } }).syncDarn
    | [] => s)

/-- A stored bolt leaves its Mangle die's linens. -/
def State.unstore (s : State) (b : Stored) : State :=
  let s := { s with score := { s.score with stored := dropFirst (fun x => x == b) s.score.stored } }
  State.linReleases b.mangle b.chan b.lin s

/-- A beat in which a stored bolt of n + 1 = LINES + 2 flits can leave (R504): in the darning window, with room before the bar ends.
While Score time does not run, every beat is one. -/
def Tempo.windowFits (t : Tempo) (beat n : Nat) : Bool := !t.running || (decide (t.e ≤ beat) && decide (beat + n ≤ 2 ^ t.k))

/-- RESEND_DEPART (R476, R504, R830): the oldest resend stored for link l leaves in window beat `beat`, or waits for the next bar's
window. -/
def execResendDepart (l : Fin 12) (beat : BitVec 16) (free : Bool) (s : State) : Host.Outcome State Fault Refusal :=
  .next (
    let m := 8 + (l : Nat) / 6
    let b := beat.toNat
    match s.score.stored.find? (fun x => x.mangle == m && x.exit == some (l : Nat)) with
    | some x =>
      let n := x.hdr.lines + 2
      if s.discarding l then ((s.unstore x).resendOver x.own x.hdr).linkDiscard n
      else if s.fenced l then ((s.unstore x).resendOver x.own x.hdr).fenceCount m true
      else if s.tempo.windowFits b n then
        if free && s.linkClear l then
          ((s.unstore x).resendOver x.own x.hdr).leaveOn l x.hdr x.payload x.pcrc x.bad
        else s
      else if s.tempo.e ≤ b then s.incF BLT_SPILLS [m] BLT_SPILLS.COUNT 1
      else s
    | none => s)

/-- RESEND_FORWARD (R503, R505): the oldest resend stored at Mangle die m that goes on inside the package moves on. -/
def execResendForward (m : Fin 2) (s : State) : Host.Outcome State Fault Refusal :=
  .next (
    let d := 8 + (m : Nat)
    match s.score.stored.find? (fun x => x.mangle == d && (match x.exit with
        | some l => 8 + l / 6 != d
        | none => true)) with
    | some x =>
      let goal := match x.exit with
        | some l => 8 + l / 6
        | none => x.hdr.dpress / 32
      (s.unstore x).addFlight
        { id := 0, hdr := x.hdr, payload := x.payload, pcrc := x.pcrc, hdrBad := false, bad := x.bad, cut := false, resend := true, own := x.own
          at_ := nextDie d goal, inp := .seam d, held := false, exit := x.exit, split := false, looked := true
          entry := some (6 * (m : Nat) + x.chan), accepted := false, lines := 0 }
    | none => s)

end Sys2Proof.Machine
end

