-- ==== Sys2Proof/Machine/EthOps.lean ====
section
/-! DEFINITION. E0's shared operations: ports, frames, queues, sending and RBT packets (15_network_ports.md). -/

namespace Sys2Proof.Machine

/-! ### Ports and queues -/

/-- A port, and a queue, of E0. -/
def State.ethPort (s : State) (p : Nat) : EthPort := tget {} s.eth.ports p
def State.setEthPort (s : State) (p : Nat) (x : EthPort) : State := { s with eth := { s.eth with ports := tput {} s.eth.ports p x } }
def State.ethQueue (s : State) (q : Nat) : EthQueue := tget {} s.eth.queues q
def State.setEthQueue (s : State) (q : Nat) (x : EthQueue) : State := { s with eth := { s.eth with queues := tput {} s.eth.queues q x } }

/-- One of a port's counters, and its event bits, of which some are logged (R752). -/
def State.ethCount (s : State) (p i n : Nat) : State := s.incF ETH_CNT [p, i] ETH_CNT.COUNT n
def State.ethLog (s : State) (p : Nat) (f : Fld) : State := s.setLogged 11 ETH_EVENT [p] f

/-- The port's link is up, and E0 runs. -/
def State.ethUp (s : State) (p : Nat) : Bool := s.dieUp 11 && s.bit ETH_PORT_STATUS [p] ETH_PORT_STATUS.LINK_UP

/-- Flow-control mode (R715): 0 NONE, 1 PAUSE, 2 PFC. -/
def State.ethFc (s : State) (p : Nat) : Nat := s.getF ETH_PORT_STATUS [p] ETH_PORT_STATUS.FC

/-- Queue q exists with KIND k, and no deletion of it is pending. -/
def State.ethIs (s : State) (q k : Nat) : Bool :=
  s.bit ETH_QSTATUS [q] ETH_QSTATUS.ENABLED && s.getF ETH_QSTATUS [q] ETH_QSTATUS.KIND == k && (s.ethQueue q).deleting.isNone

/-- The queues of a port. -/
def portQueues (p : Nat) : List Nat := (List.range 16).map (fun i => 16 * p + i)

/-- Octets that port p's receive buffer holds. -/
def EthPort.held (x : EthPort) : Nat := (x.rx.map (fun f => f.size)).foldl (· + ·) 0

/-- LEVEL of notice unit 16 + 8p + q, as 8p + q (R714). -/
def State.ethFill (s : State) (i : Nat) : Nat :=
  let x := s.ethPort (i / 8)
  if s.ethFc (i / 8) = 1 then (if i % 8 = 0 then (x.held + 1023) / 1024 else 0)
  else ((((x.rx.filter (fun f => f.pri == i % 8)).map (fun f => f.size)).foldl (· + ·) 0) + 1023) / 1024

/-! ### Frames -/

/-- A big-endian number inside a frame. -/
def beAt (l : List Byte) (i n : Nat) : Nat := leNat (slice l i n).reverse

/-- The n big-endian bytes of a number. -/
def beBytes (n v : Nat) : List Byte := (leBytes n v).reverse

/-- The frame carries an 802.1Q tag; where its EtherType stands; its priority (R712). -/
def ethTagged (bs : List Byte) : Bool := beAt bs 12 2 == 0x8100
def ethTypeAt (bs : List Byte) : Nat := if ethTagged bs then 16 else 12
def ethType (bs : List Byte) : Nat := beAt bs (ethTypeAt bs) 2
def ethPri (bs : List Byte) (dflt : Nat) : Nat := if ethTagged bs then beAt bs 14 1 / 32 else dflt

/-- The IPv4-mapped form of an address (R748). -/
def mapped4 (a : List Byte) : List Byte := List.replicate 10 0 ++ [0xFF, 0xFF] ++ a

/-- A UDP datagram in a frame: source address, source and destination ports, payload. -/
def udpOf (bs : List Byte) : Option (List Byte × Nat × Nat × List Byte) :=
  let l := ethTypeAt bs + 2
  let at_ (ip : List Byte) (u : Nat) : List Byte × Nat × Nat × List Byte :=
    (ip, beAt bs u 2, beAt bs (u + 2) 2, slice bs (u + 8) (beAt bs (u + 4) 2 - 8))
  if ethType bs = 0x0800 ∧ beAt bs (l + 9) 1 = 17 then some (at_ (mapped4 (slice bs (l + 12) 4)) (l + 4 * (beAt bs l 1 % 16)))
  else if ethType bs = 0x86DD ∧ beAt bs (l + 6) 1 = 17 then some (at_ (slice bs (l + 8) 16) (l + 40))
  else none

/-- The fields of an RBT packet (R741). -/
def rbtType (pk : List Byte) : Nat := leAt pk 1 1
def rbtEpoch (pk : List Byte) : Nat := leAt pk 3 1
def rbtFlow (pk : List Byte) : Nat := leAt pk 4 4
def rbtSeq (pk : List Byte) : Nat := leAt pk 8 4
def rbtMsg (pk : List Byte) : Nat := leAt pk 12 4
def rbtMoff (pk : List Byte) : Nat := leAt pk 16 8
def rbtMlen (pk : List Byte) : Nat := leAt pk 24 4
def rbtGood (pk : List Byte) : Bool := crc32c (pk.drop 32) == leAt pk 28 4
def isRbt (pk : List Byte) : Bool := decide (32 ≤ pk.length) && leAt pk 0 1 == 1 && decide (1 ≤ rbtType pk) && decide (rbtType pk ≤ 4)

/-- An RBT packet (R741). -/
def rbtPacket (type last epoch flow seq msg moff mlen : Nat) (payload : List Byte) : List Byte :=
  leBytes 1 1 ++ leBytes 1 type ++ leBytes 1 last ++ leBytes 1 epoch ++ leBytes 4 flow ++ leBytes 4 seq ++ leBytes 4 msg ++ leBytes 8 moff ++
    leBytes 4 mlen ++ leBytes 4 (crc32c payload) ++ payload

/-- A MAC Control frame of the port, from destination address through padding (R716). -/
def EthPort.control (x : EthPort) (opcode : Nat) (body : List Byte) : List Byte :=
  slice ([0x01, 0x80, 0xC2, 0x00, 0x00, 0x01] ++ x.mac ++ [0x88, 0x08] ++ beBytes 2 opcode ++ body) 0 60

/-! ### Sending -/

/-- What the port sends is recorded. -/
def State.ethOut (s : State) (o : EthOut) : State := { s with eth := { s.eth with sent := s.eth.sent ++ [o] } }

/-- Set a pause timer; PAUSED follows (R718, ETH_PAUSE_TIMER). -/
def State.setTimer (s : State) (p q v : Nat) : State :=
  let b := s.getF ETH_PORT_STATUS [p] ETH_PORT_STATUS.PAUSED
  (s.setF ETH_PAUSE_TIMER [p, q] ETH_PAUSE_TIMER.QUANTA v).setF ETH_PORT_STATUS [p] ETH_PORT_STATUS.PAUSED
    (if v = 0 then (if b.testBit q then b - 2 ^ q else b) else (b ||| 2 ^ q))

/-- The timer that holds a frame of priority q (R719). -/
def State.ethPaused (s : State) (p q : Nat) : Bool :=
  if s.ethFc p = 1 then s.getF ETH_PAUSE_TIMER [p, 0] ETH_PAUSE_TIMER.QUANTA != 0
  else s.getF ETH_PAUSE_TIMER [p, q] ETH_PAUSE_TIMER.QUANTA != 0

/-- Priority q enters the XOFF state, or leaves it (R722). -/
def State.setXoff (s : State) (p q : Nat) (on : Bool) : State :=
  let b := s.getF ETH_PORT_STATUS [p] ETH_PORT_STATUS.XOFF
  s.setF ETH_PORT_STATUS [p] ETH_PORT_STATUS.XOFF (if on then (b ||| 2 ^ q) else if b.testBit q then b - 2 ^ q else b)

/-- An XOFF, or quanta 0, of priority q is to be sent; the later one replaces the other. -/
def State.xoffDue (s : State) (p q : Nat) : State :=
  let x := s.ethPort p
  s.setEthPort p { x with xoffDue := x.xoffDue ||| 2 ^ q, xonDue := if x.xonDue.testBit q then x.xonDue - 2 ^ q else x.xonDue }
def State.xonDue (s : State) (p q : Nat) : State :=
  let x := s.ethPort p
  s.setEthPort p { x with xonDue := x.xonDue ||| 2 ^ q, xoffDue := if x.xoffDue.testBit q then x.xoffDue - 2 ^ q else x.xoffDue }

/-- Priority q generates pause (R715, R722). -/
def State.ethGenerates (s : State) (p q : Nat) : Bool :=
  (s.ethFc p == 1 && q == 0) || (s.ethFc p == 2 && (s.ethPort p).enable.testBit q)

/-- A notice unit of port p, priority q, has crossed upward, or has a level at or below LOW (R722, R750). -/
def State.ethNotice (s : State) (i : Nat) (crossed low : Bool) : State :=
  let p := i / 8
  let q := i % 8
  let s := if crossed && s.ethGenerates p q then (s.setXoff p q true).xoffDue p q else s
  if low && (s.getF ETH_PORT_STATUS [p] ETH_PORT_STATUS.XOFF).testBit q then (s.setXoff p q false).xonDue p q else s

/-- The active transmit association of a port. -/
def State.activeSa (s : State) (p : Nat) : Option Sa :=
  if (s.ethPort p).txOn then tget none (s.ethPort p).txSa (s.getF ETH_PORT_STATUS [p] ETH_PORT_STATUS.TX_AN) else none

/-- Data frames of a port may start (R727, R728): an association that is active has a PN left, and one is active where it must be. -/
def State.ethMaySend (s : State) (p : Nat) : Bool :=
  match s.activeSa p with
  | some a => decide (a.pn < 2 ^ 64)
  | none => !s.bit ETH_PORT_STATUS [p] ETH_PORT_STATUS.MACSEC_REQ && !(s.ethPort p).txOn

/-- ETH_TX_PN follows the active association. -/
def State.syncPn (s : State) (p : Nat) : State :=
  s.setF ETH_TX_PN [p] ETH_TX_PN.PN (match s.activeSa p with
    | some a => a.pn
    | none => 0)

/-- A data frame of `size` octets is sent: the association's PN is used, PN_WARN is raised where it is reached (R728), and the frame
counts. What protects it is answered. -/
def State.ethProtect (s : State) (p size : Nat) : State × Option (Nat × Nat) :=
  let s := s.ethCount p 1 1
  match s.activeSa p with
  | none => (s.ethCount p 7 size, none)
  | some a =>
    let an := s.getF ETH_PORT_STATUS [p] ETH_PORT_STATUS.TX_AN
    let x := s.ethPort p
    let s := (s.setEthPort p { x with txSa := tput none x.txSa an (some { a with pn := a.pn + 1 }) }).syncPn p
    let s := if a.pn + 1 = 2 ^ 64 - 2 ^ 40 then s.ethLog p ETH_EVENT.PN_WARN else s
    (s.ethCount p 7 (size + 32), some (an, a.pn))

/-- Octets of an RBT frame before MACsec: Ethernet header, tag, IP and UDP headers, the packet and FCS, at least 64. -/
def rbtSize (ip : List Byte) (vid : Nat) (pk : List Byte) : Nat :=
  max 64 (14 + (if vid = 0 then 0 else 4) + (if slice ip 0 12 = mapped4 [] then 20 else 40) + 8 + pk.length + 4)

/-! ### Taking and ending descriptors -/

/-- Replace the descriptors in progress that satisfy `p`. -/
def State.mapJobs (s : State) (q : Nat) (p : EthJob → Bool) (f : EthJob → EthJob) : State :=
  s.setEthQueue q { s.ethQueue q with jobs := mapIf p f (s.ethQueue q).jobs }

/-- End a descriptor's work: its completion may be written. -/
def EthJob.stop (j : EthJob) (status bytes : Nat) : EthJob := { j with ended := true, status := status, bytes := bytes, data := none }

/-- A range of a DMA access (R729, R733, R740): in one stack or one Board that exists, outside the carve-out. -/
def State.dmaRange (s : State) (off n : Nat) : Bool :=
  decide (1 ≤ n) && !touchesCarve off n &&
  (if off < boardBase then (s.stackOf off).isSome && decide (off / 0x0006_0000_0000 = (off + n - 1) / 0x0006_0000_0000)
   else (s.boardOf off).isSome && decide (off / 0x0010_0000 = (off + n - 1) / 0x0010_0000))

/-- The epoch counter is used (R747). -/
def State.takeEpoch (s : State) : State × Nat :=
  let e := s.eth.epoch
  ({ s with eth := { s.eth with epoch := if (e + 1) % 256 = 0 then 1 else (e + 1) % 256 } }, e)

/-- Put a queue in error (R730, R740): 1 tail, 2 completion head, 3 ring access. -/
def State.ethError (s : State) (q cause : Nat) : State :=
  (s.setBit ETH_QSTATUS [q] ETH_QSTATUS.ERROR).setF ETH_QSTATUS [q] ETH_QSTATUS.ERR_CAUSE cause

/-- Every descriptor of a queue that is being deleted has completed: the queue goes, and its command completes (R749). -/
def State.ethGone (s : State) (q : Nat) : State :=
  let x := s.ethQueue q
  match x.deleting with
  | some c => if x.jobs.isEmpty then ((s.setEthQueue q {}).clrReg ETH_QSTATUS [q]).complete c stOk [] else s
  | none => s

/-! ### RBT senders -/

/-- Segments of a message that the peer has acknowledged, as bytes. -/
def EthJob.acked (j : EthJob) (una : Nat) : Nat :=
  let n := serialDiff 32 una j.seg0
  if n ≤ 0 then 0 else min j.len (n.toNat * j.segSize)

/-- An RBT packet leaves a port. -/
def State.rbtSend (s : State) (p : Nat) (ip : List Byte) (udp vid : Nat) (pk : List Byte) : State :=
  let r := s.ethProtect p (rbtSize ip vid pk)
  r.1.ethOut (.rbt p ip udp pk r.2)

/-- An ABORT is sent (R746, R747). -/
def State.rbtAbort (s : State) (p : Nat) (ip : List Byte) (udp vid epoch flow msg status : Nat) : State :=
  (s.rbtSend p ip udp vid (rbtPacket 4 0 epoch flow 0 msg 0 0 (leBytes 1 status))).setBit ETH_EVENT [p] ETH_EVENT.RBT_ABORT

/-- The sender aborts a message (R740, R746, R749) and moves on to the next. -/
def State.abortMsg (s : State) (q : Nat) (j : EthJob) (status : Nat) : State :=
  let x := s.ethQueue q
  let after := (j.seg0 + j.segs) % 2 ^ 32
  let keep (n : Nat) : Nat := if serialGe 32 n j.seg0 && newer 32 after n then after else n
  let s := s.mapJobs q (fun y => y.seq == j.seq) (fun y => y.stop status (y.acked x.una))
  let s := s.setEthQueue q { s.ethQueue q with
    una := keep x.una, seq := keep x.seq, rtos := 0, resend := x.resend.filter (fun n => keep n == n) }
  s.rbtAbort (q / 16) x.peerIp x.peerPort x.vid x.epoch x.flow j.msg status

/-- The base that an ACK carries (R745): before any segment whose write still waits. -/
def State.ackBase (s : State) (q : Nat) : Nat :=
  let b := (s.ethQueue q).seq
  let held := (List.range 256).flatMap (fun p => (s.prs p).heldWrites.filterMap (fun w => match w.2.2 with
    | .eth q' _ n => if q' = q then some n else none
    | _ => none))
  held.foldl (fun a n => if newer 32 a n then n else a) b

/-- A receiver sends an ACK (R743, R745). -/
def State.rbtAck (s : State) (q : Nat) : State :=
  let x := s.ethQueue q
  (s.setEthQueue q { x with accepted := 0 }).rbtSend (q / 16) x.src x.srcPort 0 (rbtPacket 2 0 x.epoch x.flow (s.ackBase q) 0 0 0 [])

/-- A tally notice inside the package (R539, R739): the tally, the count of notices, and the terms of its book. -/
def State.tallyNotice (s : State) (d t n : Nat) : State :=
  let s := ((s.addTally d t n).incF TCK_NOTICES [d] TCK_NOTICES.COUNT 1).logItem (.tally d t n)
  { s with books := { s.books with noticed := tput 0 s.books.noticed d (tget 0 s.books.noticed d + n) } }

end Sys2Proof.Machine
end

