-- ==== Sys2Proof/Machine/Mem.lean ====
section
/-! DEFINITION. The meanings of RINSE and CADENCE and of the commands and events of device memory (05_press_instructions.md, R276 to
R278; 07_memory.md). -/

namespace Sys2Proof.Machine

/-! ### Instructions -/

/-- Stray blocks of a RINSE range (R355): outside HBM or in the carve-out. -/
def State.strayBlock (s : State) (mblk n : Nat) : Option Nat :=
  ((List.range n).map (fun j => (mblk + j) % 2 ^ 29)).find? (fun b => !s.hbmBlock b)

/-- RINSE (R276, R355, R374): the range goes to the port of the die, and the section waits (DEDUCED, log entry 94). -/
def execRinse (p : Fin 256) (k : Fin 4) (w : Stalls) (s : State) : Host.Outcome State Fault Refusal :=
  .next (s.partRow p k w (fun i => match i with
      | .rinse _ _ _ => true
      | _ => false) (fun s i pw => match pw.i with
    | .rinse nb xf mblk =>
      let m := (s.sect p k).effMem xf mblk
      let s := match s.strayBlock m (nb + 1) with
        | some b => s.stray (p / 32) (b * 512) false
        | none => s
      (s.waitAt p k i .rinse).beginScan (p / 32)
        { fence := false, lo := m, n := nb + 1, by_ := .sect p k, await := [], wrote := 0 }
    | _ => s))

/-- Section j of Press p stands waiting at a CADENCE. -/
def State.inCadence (s : State) (p j : Nat) : Bool :=
  let x := s.sect p j
  x.st == .waiting && x.wait == .sync && (match decodeWord (tget 0 (s.prs p).part x.next) with
    | some ⟨_, _, .cadence⟩ => true
    | _ => false)

/-- Every queue of Press p is empty (R277). -/
def State.queuesEmpty (s : State) (p : Nat) : Bool := (List.range 6).all (fun q => (s.queue p q).isEmpty)

/-- CADENCE (R277): a SYNC of all four sections, then the Press's queues empty, then the fence of the die's port. -/
def execCadence (p : Fin 256) (k : Fin 4) (w : Stalls) (s : State) : Host.Outcome State Fault Refusal :=
  .next (s.partRow p k w (fun i => i == .cadence) (fun s i _ =>
    let s := s.incF TEL_SECT_SYNC (six p k) TEL_SECT_SYNC.COUNT w.own
    if !(s.sect p k).pendW.isEmpty then s.waitAt p k i .hold
    else
      let s := s.waitAt p k i .sync
      if (List.range 4).all (fun j => s.inCadence p j) && s.queuesEmpty p then
        ((List.range 4).foldl (fun s j => s.setSect p j { s.sect p j with wait := .cadence }) s).beginScan (p / 32)
          { fence := true, lo := 0, n := 0, by_ := .press p, await := [], wrote := 0 }
      else s))

/-! ### Queues and ports -/

/-- LOAD_FILL_ARRIVE (R362, R364, R369, R391, R392): the block of the load at place n of load queue q arrives, or a fill for a load that
was discarded is dropped (DEDUCED, log entry 94). -/
def execLoadFillArrive (p : Fin 256) (q : Fin 4) (n : Nat) (ecc : Ecc) (victim : Option Nat) (s : State) :
    Host.Outcome State Fault Refusal :=
  .next (match (s.queue p q)[n]? with
    | some r =>
      if r.done || r.held || r.data.isSome || s.olderStore p r then s
      else s.fillArrives p q r ecc victim
    | none =>
      let d := (p : Nat) / 32
      let x := s.port d
      if x.stale = 0 then s
      else (s.setPort d { x with stale := x.stale - 1 }).incF MEM_STALE_FILLS [d] MEM_STALE_FILLS.COUNT 1)

/-- STORE_ACCEPT (R363, R371, R372): the oldest store of store queue q is read from its Board and enters the write buffer, unless that
is full (DEDUCED, log entry 94). -/
def execStoreAccept (p : Fin 256) (q : Fin 2) (s : State) : Host.Outcome State Fault Refusal :=
  .next (
    let d := (p : Nat) / 32
    let qn := 4 + (q : Nat)
    match s.queue p qn with
    | r :: _ =>
      let x := s.port d
      if s.pressUp p && !r.done && ((x.entry r.mblk).isSome || decide (x.wb.length < 64)) then
        let bs := s.readBoard p (512 * r.bblk) 512
        let s := s.setPort d (x.store r.mblk bs)
        (s.mapQueue p qn (fun y => y.seq == r.seq) (fun y => { y with data := some bs, done := true })).landFills p
      else s
    | [] => s)

/-- WRITEBACK_START (R372): while the write buffer holds more than 48 blocks, its oldest dirty block is written back. -/
def execWritebackStart (d : Fin 8) (s : State) : Host.Outcome State Fault Refusal :=
  .next (
    let x := s.port d
    if 48 < x.wb.length then
      match x.oldestDirty with
      | some b => s.setPort d (x.startWb b)
      | none => s
    else s)

/-- WRITEBACK_ACK (R368, R372, R373): the controller of the block's stack, in service, acknowledges its writeback. -/
def execWritebackAck (d : Fin 8) (blk : BitVec 29) (s : State) : Host.Outcome State Fault Refusal :=
  .next (if s.stackUp (blkStack blk.toNat) then s.ackWb d blk.toNat else s)

/-- MEM_REQUEST_RETRY (R368): the port of die d sends the requests whose stacks are back in service. -/
def execMemRequestRetry (d : Fin 8) (s : State) : Host.Outcome State Fault Refusal :=
  .next (
    let s := if (s.waitStacks d).isEmpty then s else s.setBit MEM_ERR [(d : Nat)] MEM_ERR.WAIT
    (List.range 32).foldl (fun s k => (List.range 4).foldl (fun s q =>
      s.mapQueue (32 * d + k) q (fun r => !r.sent && s.stackUp (blkStack r.mblk)) (fun r => { r with sent := true })) s) s)

/-- MEM_WAIT_TIMEOUT (R368): a request of die d's port has waited WAIT_US for stack m. -/
def execMemWaitTimeout (d : Fin 8) (m : Fin 8) (s : State) : Host.Outcome State Fault Refusal :=
  .next (if (s.waitStacks d).contains m then
    (s.setF MEM_WAIT [(d : Nat)] MEM_WAIT.TIMEOUT (s.getF MEM_WAIT [(d : Nat)] MEM_WAIT.TIMEOUT ||| 2 ^ (m : Nat))).setBit
      MEM_ERR [(d : Nat)] MEM_ERR.WAIT
  else s)

/-- The scans of a command on all ports. -/
def State.cmdScans (s : State) (c : Cmd) : List Scan :=
  (List.range 8).flatMap (fun d => (s.port d).scans.filter (fun x => x.by_ == .cmd c))

/-- A RINSE_RANGE or CADENCE command completes once every named port is done (R386). -/
def State.finishScans (s : State) (c : Cmd) : State :=
  let l := s.cmdScans c
  if l.all (fun x => x.await.isEmpty) then
    let s := (List.range 8).foldl (fun s d =>
      s.setPort d { s.port d with scans := (s.port d).scans.filter (fun x => x.by_ != .cmd c) }) s
    let s := { s with front := { s.front with waiting := s.front.waiting.filter (fun x => x.2 != c) } }
    s.complete c stOk (leBytes 4 ((l.map (fun x => x.wrote)).foldl (· + ·) 0))
  else s

/-- The oldest scan of a port of one kind that has nothing left to await is done (R374, R378). -/
def State.scanDone (s : State) (d : Nat) (fence : Bool) : State :=
  match (s.port d).scans.find? (fun x => x.fence == fence && x.await.isEmpty) with
  | some x =>
    let out (s : State) : State := s.setPort d { s.port d with scans := dropFirst (fun y => y == x) (s.port d).scans }
    match x.by_ with
    | .sect p k => (out s).scanRetire p k .rinse
    | .press p => (List.range 4).foldl (fun s k => s.scanRetire p k .cadence) (out s)
    | .cmd c => s.finishScans c
  | none => s

/-- RINSE_DONE (R276, R374, R386). -/
def execRinseDone (d : Fin 8) (s : State) : Host.Outcome State Fault Refusal := .next (s.scanDone d false)

/-- FENCE_DONE (R277, R378, R386). -/
def execFenceDone (d : Fin 8) (s : State) : Host.Outcome State Fault Refusal := .next (s.scanDone d true)

/-! ### The controller -/

/-- HBM_REFRESH (R346): the controller of stack n refreshes; `hot` is whether the stack reports more than 85 °C. -/
def execHbmRefresh (n : Fin 8) (hot : Bool) (s : State) : Host.Outcome State Fault Refusal :=
  .next (if s.stackUp n then s.setF MEM_STATUS [(n : Nat)] MEM_STATUS.HOT (b2n hot) else s)

/-- SCRUB_READ (R391, R395): patrol scrub of stack n reads the sector at `off` and finds `ecc`. -/
def execScrubRead (n : Fin 8) (off : Nat) (ecc : Ecc) (s : State) : Host.Outcome State Fault Refusal :=
  .next (if s.stackUp n && s.bit MEM_CFG [(n : Nat)] MEM_CFG.SCRUB_EN && decide (off < 0x0006_0000_0000) then
    s.eccSeen ((n : Nat) * 0x0006_0000_0000 + off / 32 * 32) ecc else s)

/-- Every held load of die d's port is asked for again (R393). -/
def State.retryHeld (s : State) (d : Nat) : State :=
  (List.range 32).foldl (fun s k => (List.range 4).foldl (fun s q =>
    s.mapQueue (32 * d + k) q (fun r => r.held) (fun r => { r with held := false, sent := s.stackUp (blkStack r.mblk) })) s) s

/-- UE_RETRY (R393): MEM_UE_HOLD.RETRY is written with 1. -/
def execUeRetry (d : Fin 8) (s : State) : Host.Outcome State Fault Refusal := .next (
  if s.regGone MEM_UE_HOLD [(d : Nat)] then s.goneAccess MEM_UE_HOLD [(d : Nat)] true else s.retryHeld d)

/-- MEM_QCTL.CNT_CLR clears the two counters of a Press. -/
def State.clrQueueCounts (s : State) (p : Nat) : State := (s.setReg MEM_QFULL (pix p) 0).setReg MEM_SBWAIT (pix p) 0

/-- MEM_QCTL_CNT_CLR (MEM_QCTL). -/
def execMemQctlCntClr (p : Fin 256) (s : State) : Host.Outcome State Fault Refusal :=
  .next (if s.regGone MEM_QCTL (pix p) then s.goneAccess MEM_QCTL (pix p) true else s.clrQueueCounts p)

/-- Answer an access of an agent. -/
def State.answered (s : State) (st : Nat) (bs : List Byte) : State :=
  { s with front := { s.front with answer := st, readBytes := bs, readData := BitVec.ofNat 64 (leAt bs 0 8) } }

/-- BOARD_WINDOW_ACCESS (R354, R355): a unit of die `src` reads `n` bytes of the Board window, or writes bytes to it
(DEDUCED, log entry 47). -/
def execBoardWindowAccess (src : Fin 12) (off : BitVec 48) (n : Nat) (w : Option (List Byte)) (s : State) :
    Host.Outcome State Fault Refusal :=
  .next (
    let a := off.toNat
    let len := match w with
      | some bs => bs.length
      | none => n
    if boardBase ≤ a && decide (0 < len) && s.rangeMapped a len then
      match s.rangeAway a len with
      | some st => s.answered st []
      | none => match w with
        | some bs => (s.agentWrite 512 a bs .dma true).1.answered stOk []
        | none => s.answered stOk (s.readMem a len)
    else if len = 0 ∨ (a < boardBase ∧ s.rangeMapped a len) then s
    else (s.stray src a w.isSome).answered stOk (match w with
      | some _ => []
      | none => List.replicate len 0))

/-! ### Commands -/

/-- The Press dies that DIES names (R383): all that are present when it is 0. -/
def State.diesNamed (s : State) (m : Nat) : List Nat := if m = 0 then s.pressDies else (List.range 8).filter (fun d => m.testBit d)

/-- RINSE_RANGE (R383, R386). -/
def execRinseRange (c : Cmd) (s : State) : Host.Outcome State Fault Refusal :=
  .next (s.runCmd c 0x0205 (fun s =>
    let off := c.par 0 8
    let len := c.par 8 4
    if !c.parZero 13 3 ∨ off % 512 ≠ 0 ∨ len % 512 ≠ 0 ∨ len = 0 ∨ boardBase ≤ off ∨ !s.rangeMapped off len ∨ touchesCarve off len then
      s.complete c stBadParam []
    else if (s.diesNamed (c.par 12 1)).any (fun d => !s.hasDie d) then s.complete c stAbsentUnit []
    else
      let s := s.wait .rinse c
      let ds := (s.diesNamed (c.par 12 1)).filter s.dieUp
      let s := ds.foldl (fun s d => s.beginScan d
        { fence := false, lo := off / 512, n := len / 512, by_ := .cmd c, await := [], wrote := 0 }) s
      if ds.isEmpty then s.finishScans c else s))

/-- The opcode writes device memory (R385). -/
def writesMem (op : Nat) : Bool := op == 0x0201 || op == 0x0203 || op == 0x0306 || op == 0x0601

/-- An earlier command of the same ring that writes device memory has not completed (R385). -/
def State.earlierWrites (s : State) (c : Cmd) : Bool :=
  (s.front.inflight.takeWhile (fun x => x.1 != c)).any (fun x => x.1.via == c.via && x.1.ring == c.ring && writesMem x.1.opcode)

/-- The fence of a CADENCE command begins on its ports (R385), or goes on waiting for its ring's earlier writes. -/
def State.startCadence (s : State) (c : Cmd) : State :=
  if s.earlierWrites c then s
  else
    let s := ({ s with front := { s.front with waiting := s.front.waiting.filter (fun x => x.2 != c) } }).wait .fence c
    let ds := (s.diesNamed (c.par 0 1)).filter s.dieUp
    let s := ds.foldl (fun s d => s.beginScan d { fence := true, lo := 0, n := 0, by_ := .cmd c, await := [], wrote := 0 }) s
    if ds.isEmpty then s.finishScans c else s

/-- Every CADENCE command that waits for earlier writes tries again. -/
def State.startCadences (s : State) : State := (s.waiters .cadenceDrain).foldl State.startCadence s

/-- CADENCE_COMMAND (R384 to R386); one that waits for its ring's earlier writes tries again when it is presented again. -/
def execCadenceCommand (c : Cmd) (s : State) : Host.Outcome State Fault Refusal :=
  .next (
    if (s.waiters .cadenceDrain).contains c then s.startCadence c
    else s.runCmd c 0x0206 (fun s =>
      if !c.parZero 1 15 then s.complete c stBadParam []
      else if (s.diesNamed (c.par 0 1)).any (fun d => !s.hasDie d) then s.complete c stAbsentUnit []
      else (s.wait .cadenceDrain c).startCadence c))

end Sys2Proof.Machine
end

