-- ==== Sys2Proof/Machine/HostOps.lean ====
section
/-! DEFINITION. The host command interface: rings, doorbells and fetches, the stage commands' moves, and writes that a released hold lets
through (14_host_commands.md; R200). -/

namespace Sys2Proof.Machine

/-! ### Rings -/

/-- A field of a ring's CMD_RING_STATUS, CMD_RING_PTR or CMD_RING_CFG. -/
def State.ringLoc (s : State) (r : Nat) : Bool := s.bit CMD_RING_BASE [r] CMD_RING_BASE.LOC
def State.ringN (s : State) (r : Nat) : Nat := 2 ^ s.getF CMD_RING_CFG [r] CMD_RING_CFG.LOG2N
def State.ringOn (s : State) (r : Nat) : Bool := s.bit CMD_RING_CFG [r] CMD_RING_CFG.ENABLE

/-- A write of a ring's configuration was ignored. -/
def State.cfgIgnored (s : State) (r : Nat) : State := s.setBit CMD_RING_STATUS [r] CMD_RING_STATUS.CFG_IGNORED

/-- The configuration of a ring is locked (R685). -/
def State.ringLocked (s : State) (r : Nat) : Bool := s.ringOn r || !s.bit CMD_RING_STATUS [r] CMD_RING_STATUS.IDLE

/-- A ring in error (R683, R684, R708): the first cause stays, and the event is logged; a host ring fires vector 17
(DEDUCED, log entry 18). -/
def State.ringError (s : State) (r cause : Nat) : State :=
  if s.bit CMD_RING_STATUS [r] CMD_RING_STATUS.ERROR then s
  else
    let s := (s.setF CMD_RING_STATUS [r] CMD_RING_STATUS.ERR_CAUSE cause).setLogged 10 CMD_RING_STATUS [r] CMD_RING_STATUS.ERROR
    if s.ringLoc r then s else s.fireMsix 17

/-- A ring of 2^`log2n` slots of LOC = 1 and its completion ring lie wholly in the carve-out (R707). -/
def State.ringInCarve (s : State) (r log2n : Nat) : Bool :=
  rangeInCarve (s.getF CMD_RING_BASE [r] CMD_RING_BASE.BASE * 4096) (256 * 2 ^ log2n) &&
  rangeInCarve (s.getF CMD_CPL_BASE [r] CMD_CPL_BASE.BASE * 4096) (32 * 2 ^ log2n)

/-- Write CMD_RING_CFG (R674, R685, R707). LOG2N, PRIO and MAXIF change only while the ring is disabled and IDLE; a COAL_CNT of 0 stores 1
(DEDUCED, log entry 18) (DEDUCED, log entry 87). -/
def State.writeRingCfg (s : State) (r v : Nat) : State :=
  let w : Word := BitVec.ofNat 64 v
  let old := s.reg CMD_RING_CFG [r]
  let locked := s.ringLocked r
  let differs := [CMD_RING_CFG.PRIO, CMD_RING_CFG.LOG2N, CMD_RING_CFG.MAXIF].any (fun f => fget w f != fget old f)
  let s := if locked && differs then s.cfgIgnored r else s
  let base := if locked then old
    else fset (fset (fset old CMD_RING_CFG.PRIO (fget w CMD_RING_CFG.PRIO)) CMD_RING_CFG.LOG2N (fget w CMD_RING_CFG.LOG2N)) CMD_RING_CFG.MAXIF
      (fget w CMD_RING_CFG.MAXIF)
  let s := s.setReg CMD_RING_CFG [r] (fset (fset base CMD_RING_CFG.COAL_CNT (max 1 (fget w CMD_RING_CFG.COAL_CNT))) CMD_RING_CFG.COAL_US
    (fget w CMD_RING_CFG.COAL_US))
  let on := bitOf w 0
  let k := s.getF CMD_RING_CFG [r] CMD_RING_CFG.LOG2N
  if on && !s.ringOn r then
    if k < 4 ∨ 12 < k ∨ (s.ringLoc r && !s.ringInCarve r k) then s.cfgIgnored r
    else
      ((s.setBit CMD_RING_CFG [r] CMD_RING_CFG.ENABLE).setReg CMD_RING_PTR [r] (CMD_RING_PTR.resetAt [r])).setReg CMD_RING_STATUS [r]
        (fset (fset (s.reg CMD_RING_STATUS [r]) CMD_RING_STATUS.HEAD 0) CMD_RING_STATUS.IDLE 0)
  else if !on && s.ringOn r then
    let s := s.setF CMD_RING_CFG [r] CMD_RING_CFG.ENABLE 0
    if s.getF CMD_RING_STATUS [r] CMD_RING_STATUS.INFLIGHT = 0 then
      (s.setBit CMD_RING_STATUS [r] CMD_RING_STATUS.IDLE).setF CMD_RING_STATUS [r] CMD_RING_STATUS.ERROR 0
    else s
  else s

/-- Write CMD_RING_BASE, or CMD_CPL_BASE (R673, R685): only a core sets LOC, and CMD_CPL_BASE mirrors it. -/
def State.writeRingBase (s : State) (w : Who) (cpl : Bool) (r v : Nat) : State :=
  let loc := v % 2
  if s.ringLocked r then s.cfgIgnored r
  else if cpl then s.setF CMD_CPL_BASE [r] CMD_CPL_BASE.BASE (v / 4096)
  else if loc = 1 ∧ !Who.isCore w then s.cfgIgnored r
  else ((s.setF CMD_RING_BASE [r] CMD_RING_BASE.BASE (v / 4096)).setF CMD_RING_BASE [r] CMD_RING_BASE.LOC loc).setF CMD_CPL_BASE [r]
    CMD_CPL_BASE.LOC loc

/-- A doorbell of ring r is accepted from there (R677): BAR2 serves rings with LOC = 0, and BAR0's doorbells of those rings only the cores. -/
def State.doorbellOk (s : State) (w : Who) (bar2 : Bool) (r : Nat) : Bool :=
  s.ringOn r && (if bar2 then !s.ringLoc r else s.ringLoc r || Who.isCore w)

/-- A tail doorbell (R678). -/
def State.tailDoorbell (s : State) (r v : Nat) : State :=
  let n := s.ringN r
  let hd := s.getF CMD_RING_STATUS [r] CMD_RING_STATUS.HEAD
  if 4096 ≤ v ∨ n ≤ v ∨ (v + n - hd) % n < (s.getF CMD_RING_PTR [r] CMD_RING_PTR.TAIL + n - hd) % n then s.ringError r 1
  else s.setF CMD_RING_PTR [r] CMD_RING_PTR.TAIL v

/-- A completion-head doorbell (R676, R678). -/
def State.headDoorbell (s : State) (r v : Nat) : State :=
  let n := s.ringN r
  let ch := s.getF CMD_RING_PTR [r] CMD_RING_PTR.CHEAD
  if 4096 ≤ v ∨ n ≤ v ∨ (s.getF CMD_RING_PTR [r] CMD_RING_PTR.CTAIL + n - ch) % n < (v + n - ch) % n then s.ringError r 2
  else s.setF CMD_RING_PTR [r] CMD_RING_PTR.CHEAD v

/-- A ring from which a command can be fetched (R671, R676, R679, R684). -/
def State.canFetch (s : State) (r : Nat) : Bool :=
  let n := s.ringN r
  let inf := s.getF CMD_RING_STATUS [r] CMD_RING_STATUS.INFLIGHT
  let held := (s.getF CMD_RING_PTR [r] CMD_RING_PTR.CTAIL + n - s.getF CMD_RING_PTR [r] CMD_RING_PTR.CHEAD) % n + inf
  s.ringOn r && !s.bit CMD_RING_STATUS [r] CMD_RING_STATUS.ERROR &&
  s.getF CMD_RING_STATUS [r] CMD_RING_STATUS.HEAD != s.getF CMD_RING_PTR [r] CMD_RING_PTR.TAIL &&
  decide (held + 1 < n) && decide (inf < s.getF CMD_RING_CFG [r] CMD_RING_CFG.MAXIF + 1) &&
  (s.ringLoc r || s.bit CMD_IF_STATUS [] CMD_IF_STATUS.BME)

/-- The ring that is served next (R679): in each round every ring once, PRIO = 1 first, equal ones in turn; and whether a round begins. -/
def State.nextRing (s : State) : Option (Nat × Bool) :=
  let order := (List.range 16).map (fun i => (s.front.turn + 1 + i) % 16)
  let can := order.filter s.canFetch
  let pick (l : List Nat) : Option Nat := (l.find? (fun r => s.bit CMD_RING_CFG [r] CMD_RING_CFG.PRIO)).or l.head?
  match pick (can.filter (fun r => !s.front.round.contains r)) with
  | some r => some (r, false)
  | none => (pick can).map (fun r => (r, true))

/-- Fetch one command from ring r (R679): the slot at HEAD, from the carve-out or as the host's memory gave it. -/
def State.fetch (s : State) (r : Nat) (fresh : Bool) (slot : List Byte) (ok : Bool) : State :=
  let s := { s with front := { s.front with round := if fresh then [r] else s.front.round ++ [r], turn := r } }
  let hd := s.getF CMD_RING_STATUS [r] CMD_RING_STATUS.HEAD
  if !s.ringLoc r && !ok then s.ringError r 3
  else
    let bs := if s.ringLoc r then s.readMem (s.getF CMD_RING_BASE [r] CMD_RING_BASE.BASE * 4096 + 256 * hd) 256 else slice slot 0 256
    let next := (hd + 1) % s.ringN r
    let c : Cmd := { via := if s.ringLoc r then .C else .H, ring := Fin.ofNat 16 r, slot := bs }
    let s := { s with front := { s.front with inflight := s.front.inflight ++ [(c, next)] } }
    ((s.setF CMD_RING_STATUS [r] CMD_RING_STATUS.HEAD next).incF CMD_RING_STATUS [r] CMD_RING_STATUS.INFLIGHT 1).incF CMD_IF_STATUS []
      CMD_IF_STATUS.INFLIGHT 1

/-! ### Resets of the host interface -/

/-- Forget a command that ends without a completion: its held writes go with it. -/
def State.dropCmdWrites (s : State) (c : Cmd) : State :=
  (List.range 256).foldl (fun s p =>
    if (s.prs p).heldWrites.any (fun w => w.2.2 == .cmd c) then
      s.setPrs p { s.prs p with heldWrites := (s.prs p).heldWrites.filter (fun w => w.2.2 != .cmd c) }
    else s) s

/-- The ring registers of r return to their reset values, its in-flight count and IDLE as they stand (R670). -/
def State.ringReset (s : State) (r : Nat) : State :=
  let inf := s.getF CMD_RING_STATUS [r] CMD_RING_STATUS.INFLIGHT
  let s := (((s.clrReg CMD_RING_BASE [r]).clrReg CMD_CPL_BASE [r]).clrReg CMD_RING_CFG [r]).clrReg CMD_RING_PTR [r]
  let s := { s with front := { s.front with counted := tput 0 s.front.counted r 0 } }
  s.setReg CMD_RING_STATUS [r] (fset (fset (CMD_RING_STATUS.resetAt [r]) CMD_RING_STATUS.INFLIGHT inf) CMD_RING_STATUS.IDLE (b2n (inf == 0)))

/-- The MSI-X table returns to its reset values (R670). -/
def State.clearMsix (s : State) : State :=
  { s with regs := tclear (fun a => decide (0x40_8000 ≤ a) && decide (a < 0x40_9000)) s.regs }

/-- The vendor, revision and class of R667; `State.deviceId` gives the device, and `Front` holds the subsystem and the sizes in force. -/
def vendorId : Nat := 0x52E7
def State.revisionId (s : State) : Nat := s.getF GLB_ID [] GLB_ID.STEPPING
def classCode : Nat := 0x12_0000

/-- A reset of the host interface (R670, R703, R977): host rings are disabled and their commands' completions discarded; a stage command
ends at once, with what it has moved; MSI-X state and the configuration space return to their reset values (DEDUCED, log entry 87). -/
def State.hostReset (s : State) : State :=
  let mine := (s.front.inflight.map (fun x => x.1)).filter (fun c => c.via == .H)
  let s := { s with front := { s.front with
    discard := s.front.discard ++ mine.filter (fun c => !s.front.discard.contains c), cplHeld := [], msixHeld := [], mps := 128, mrrs := 512 } }
  let s := ((List.range 16).filter (fun r => !s.ringLoc r)).foldl State.ringReset s
  let s := (s.clrReg CMD_ACCESS_FAULT []).clearMsix
  let s := [CMD_IF_STATUS.LINK_UP, CMD_IF_STATUS.CXL, CMD_IF_STATUS.WIDTH, CMD_IF_STATUS.RATE, CMD_IF_STATUS.BME].foldl
    (fun s f => s.setF CMD_IF_STATUS [] f 0) s
  let stages := mine.filter (fun c => c.opcode == 0x0201 || c.opcode == 0x0202)
  let s := { s with front := { s.front with waiting := s.front.waiting.filter (fun x => x.1 != .busMaster) } }
  stages.foldl (fun s c => (s.dropCmdWrites c).complete c stOk []) s

/-! ### Writes that waited on a hold -/

/-- One write of Press p that waited on a hold is performed (R200), with what follows from it. -/
def State.heldDone (s : State) (p a : Nat) (bs : List Byte) (why : HeldFor) : State :=
  match why with
  | .tack tb src token mangle =>
    let t : Tack := { bytes := tb, src := src, token := token, sect := none, mangle := mangle, via := none }
    let v := if t.kind = 4 then bs else s.adder (t.pay 6 1) (s.readMem t.offset 8) (slice t.bytes 24 8)
    (s.writeBoard p a v).sendAck (p / 32) t stOk
  | .cmd c =>
    let s := s.writeBoard p a bs
    if s.cmdHeld c then s
    else if c.opcode = 0x0203 then s.complete c stOk (leBytes 4 c.inlineLen)
    else s.complete c stOk (leBytes 8 (((List.range (c.par 8 1)).map (fun i => leAt c.inl (16 * i + 8) 4)).foldl (· + ·) 0))
  | .dma => s.writeBoard p a bs
  | .eth _ _ _ => s.writeBoard p a bs

/-- A write of a stage command waits for the command's earlier blocks (R701). -/
def State.waitsEarlier (s : State) (p : Nat) (why : HeldFor) : Bool :=
  match why with
  | .cmd c => (List.range p).any (fun q => (s.prs q).heldWrites.any (fun w => w.2.2 == .cmd c))
  | _ => false

/-- The waiting writes of Press p whose blocks are free are performed in order; a command's blocks do not overtake each other. -/
def State.releaseWrites (s : State) (p : Nat) : State :=
  let l := (s.prs p).heldWrites
  let r := l.foldl (fun (acc : State × List HeldFor) w =>
    let cmd := match w.2.2 with
      | .cmd _ => true
      | _ => false
    if acc.1.heldRange p w.1 w.2.1.length || acc.1.waitsEarlier p w.2.2 || (cmd && acc.2.contains w.2.2) then (acc.1, w.2.2 :: acc.2)
    else
      let x := acc.1.prs p
      let s := acc.1.setPrs p { x with heldWrites := dropFirst (fun y => y == w) x.heldWrites }
      (s.heldDone p w.1 w.2.1 w.2.2, acc.2)) (s, [])
  r.1

/-- The Board write of a section that waited on a hold is performed (R200, R256). -/
def State.releaseSection (s : State) (p k : Nat) : State :=
  let x := s.sect p k
  if !x.pendW.isEmpty && x.pendW.all (fun w => !s.heldRange p w.1 w.2.length) then
    let s := x.pendW.foldl (fun s w => s.writeBoard p w.1 w.2) s
    s.setSect p k { x with pendW := [], pc := x.next }
  else s

/-! ### Stage commands -/

/-- Segment i of a stage command (R699): HADDR, LEN and the reserved bytes. -/
def Cmd.seg (c : Cmd) (i : Nat) : Nat × Nat × Nat := (leAt c.slot (32 + 16 * i) 8, leAt c.slot (40 + 16 * i) 4, leAt c.slot (44 + 16 * i) 4)

/-- The segments of a stage command that its inline data holds. -/
def stageSegs (c : Cmd) : List (Nat × Nat × Nat) := (List.range (min (c.par 8 1) (c.inlineLen / 16))).map (Cmd.seg c)

/-- The bytes of a stage command's range (R700). -/
def stageLen (c : Cmd) : Nat := ((stageSegs c).map (fun g => g.2.1)).foldl (· + ·) 0

/-- The range of a command lies in stacks and Boards, outside the carve-out (R700). -/
def State.stageRange (s : State) (off n : Nat) : Bool := s.rangeMapped off n && !touchesCarve off n

/-- The checks of R700 for a stage command: the first failure's status. -/
def State.stageCheck (s : State) (c : Cmd) : Option Nat :=
  let off := c.par 0 8
  let k := c.par 8 1
  if !c.parZero 9 7 ∨ k = 0 ∨ 14 < k ∨ off % 512 ≠ 0 ∨ 2 ^ 48 ≤ off ∨
      (stageSegs c).any (fun g => g.1 % 64 != 0 || g.2.1 % 512 != 0 || g.2.1 == 0 || g.2.2 != 0) then some stBadParam
  else if c.inlineLen ≠ 16 * k then some stBadLength
  else if !s.stageRange off (stageLen c) then some stBadParam
  else s.rangeAway off (stageLen c)

/-- The whole blocks moved before a stage command is cut short, and its CAUSE and status (R703); none where the cut cannot be. -/
def stageCutAt (input : Bool) (total : Nat) : Option StageCut → Option (Nat × Nat × Nat)
  | some (.ecc b _) => if !input && decide (b < total) then some (b, 1, stIntegrity) else none
  | some (.hostRead b) => if input && decide (b < total) then some (b, 2, stIntegrity) else none
  | some (.hostWrite b) => if !input && decide (b < total) then some (b, 3, stIntegrity) else none
  | some (.away b) => if b < total then some (b, 4, stTimeout) else none
  | none => none

/-- The result of a stage command (R701, R703). -/
def stageResult (moved cause : Nat) : List Byte := leBytes 8 moved ++ leBytes 1 cause

/-- STAGE_IN's blocks are written in increasing device offset (R701, R702): once one waits on a hold, the blocks after it wait too; true when
some block waits. -/
def State.stageWrite (s : State) (c : Cmd) (off : Nat) (bs : List Byte) : State × Bool :=
  (piecesOf 512 (bs.length + 1) off bs).foldl (fun r x =>
    if r.2 then
      let p := (x.1 - boardBase) / 0x0010_0000
      (r.1.setPrs p { r.1.prs p with heldWrites := (r.1.prs p).heldWrites ++ [((x.1 - boardBase) % 0x0010_0000, x.2, .cmd c)] }, true)
    else r.1.writePiece x.1 x.2 (.cmd c) true) (s, false)

/-- STAGE_OUT's bytes go to the segments of host memory, in order (R700). -/
def stagePieces : List (Nat × Nat × Nat) → List Byte → List (Nat × List Byte)
  | [], _ => []
  | g :: gs, bs => if bs.isEmpty then [] else (g.1, bs.take g.2.1) :: stagePieces gs (bs.drop g.2.1)

/-- The bytes of a stage command that are moved before its first block that still waits on a hold (R703). -/
def State.stageMoved (s : State) (c : Cmd) : Nat :=
  let offs := (List.range 256).flatMap (fun p => ((s.prs p).heldWrites.filter (fun w => w.2.2 == .cmd c)).map (fun w => boardOff p w.1))
  match offs with
  | o :: t => t.foldl min o - c.par 0 8
  | [] => stageLen c

end Sys2Proof.Machine
end

