-- ==== Sys2Proof/Machine/Ranks.lean ====
section
/-! DEFINITION. Rank Tables, slices, chip numbers and fences (11_ranks_slices.md). -/

namespace Sys2Proof.Machine

/-- RNK_COUNT follows a Rank Table in which an entry changes from `old` to `new`. -/
def State.countRank (s : State) (m old new : Nat) : State :=
  s.setF RNK_COUNT [m] RNK_COUNT.VALID_ENTRIES (s.getF RNK_COUNT [m] RNK_COUNT.VALID_ENTRIES + new % 2 - old % 2)

/-- Write one entry (R557): one that is not valid is written as 0. -/
def State.putRank (s : State) (m r e : Nat) : State :=
  let e := if e % 2 = 1 then e else 0
  (s.countRank m (s.rankEntry m r) e).setReg RNK_TABLE [m, r] (BitVec.ofNat 64 e)

/-- Every entry of a Mangle die's Rank Table becomes 0 (R559, R565). -/
def State.clearRanks (s : State) (m : Nat) : State :=
  let lo := RNK_TABLE.addr [m, 0]
  ({ s with regs := tclear (fun a => decide (lo ≤ a) && decide (a < lo + 8 * 16384)) s.regs }).setReg RNK_COUNT [m] 0

/-- A valid entry passes check 7 of R558 on Mangle die m. -/
def State.rankEntryOk (s : State) (m e : Nat) : Bool :=
  let g := s.reg TCK_GRID [m]
  e % 2 == 0 || (entGen e != 0 && !e.testBit 3 && !e.testBit 19 && e / 2 ^ 54 == 0 && e / 2 ^ 20 % 65536 != 0 &&
    decide (entX e ≤ fget g TCK_GRID.SX) && decide (entY e ≤ fget g TCK_GRID.SY) && decide (entZ e ≤ fget g TCK_GRID.SZ) &&
    (entGen e != 3 || (entLid e == 0 && entVia e == 0)) && decide (entVia e ≤ 5) && (entGen e != 1 || entLid e / 2 ^ 12 == 0))

/-- RANK_TABLE_WRITE (R557, R558). -/
def execRankTableWrite (c : Cmd) (s : State) : Host.Outcome State Fault Refusal :=
  .next (s.runCmd c 0x0401 (fun s =>
    let first := c.par 0 2
    let n := c.par 2 1
    let fl := c.par 3 1
    let clear := fl.testBit 2
    let ms := (if fl.testBit 0 then [8] else []) ++ (if fl.testBit 1 then [9] else [])
    let ents := if clear then List.replicate n 0 else (List.range n).map (fun i => leAt c.inl (8 * i) 8)
    if 8 ≤ fl ∨ !c.parZero 4 12 ∨ ms.isEmpty ∨ n = 0 ∨ 28 < n ∨ 16384 < first + n then s.complete c stBadParam []
    else if c.inlineLen ≠ (if clear then 0 else 8 * n) then s.complete c stBadLength []
    else if ms.any s.dieFolded then s.complete c stUnitFolded []
    else if ms.any s.dieInReset then s.complete c stUnitInReset []
    else if !s.sliceValid then s.complete c stSliceViolation []
    else if s.busyTempo || ms.any (fun m => s.getF BLT_DARN [m] BLT_DARN.HELD != 0) then s.complete c stBusy []
    else if ms.any (fun m => !s.bit TCK_GRID [m] TCK_GRID.VALID) then s.complete c stBadParam []
    else if ms.any (fun m => ents.any (fun e => !s.rankEntryOk m e)) then s.complete c stBadParam []
    else
      let s := ms.foldl (fun s m => ents.zipIdx.foldl (fun s e => s.putRank m (first + e.2) e.1) s) s
      s.complete c stOk (leBytes 2 (s.getF RNK_COUNT [8] RNK_COUNT.VALID_ENTRIES) ++
        leBytes 2 (s.getF RNK_COUNT [9] RNK_COUNT.VALID_ENTRIES))))

/-- The slice of the package changes (R565). -/
def State.setSlice (s : State) (sl : Nat) (valid : Bool) : State :=
  let s := [8, 9].foldl (fun s m =>
    let s := (s.setF RNK_SLICE [m] RNK_SLICE.SLICE sl).setF RNK_SLICE [m] RNK_SLICE.VALID (b2n valid)
    (s.clearRanks m).setF RNK_FENCE [m] RNK_FENCE.SW 0xFFF) s
  { s with tacks := { s.tacks with groups := s.tacks.groups.foldl (fun t e =>
    tput 0 t e.1 (if e.2.testBit 15 then e.2 - 2 ^ 15 else e.2)) s.tacks.groups } }

/-- SLICE_SET (R563 to R565). -/
def execSliceSet (c : Cmd) (s : State) : Host.Outcome State Fault Refusal :=
  .next (s.runCmd c 0x0402 (fun s =>
    let sl := c.par 0 2
    let fl := c.par 2 1
    if 0x1000 ≤ sl ∨ 2 ≤ fl ∨ !c.parZero 3 13 ∨ (fl = 0 ∧ sl = 0) ∨ (fl = 1 ∧ sl ≠ 0) then s.complete c stBadParam []
    else if [8, 9].any s.dieFolded then s.complete c stUnitFolded []
    else if [8, 9].any s.dieInReset then s.complete c stUnitInReset []
    else if s.condDies.any (fun d => s.bit SCR_STATUS [d] SCR_STATUS.INSTALLED) || s.busyTempo ||
        [8, 9].any (fun m => s.getF BLT_DARN [m] BLT_DARN.HELD != 0) then s.complete c stBusy []
    else (s.setSlice sl (fl == 0)).complete c stOk []))

/-- A write that is ignored while armed or running sets CFG_IGNORED on the Mangle die through whose window it came (R568). -/
def State.rankCfg (s : State) (m : Nat) (f : State → State) : State :=
  if s.busyTempo then s.setBit RNK_EVENT [m] RNK_EVENT.CFG_IGNORED else f s

/-- A write to RNK_CHIP: the package has one chip number, which both windows show (R548). -/
def State.writeChip (s : State) (m v : Nat) : State :=
  s.rankCfg m (fun s => (s.setF RNK_CHIP [8] RNK_CHIP.CHIP v).setF RNK_CHIP [9] RNK_CHIP.CHIP v)

/-- RNK_CHIP_WRITE (R546, R548, R568). -/
def execRnkChipWrite (m : Fin 2) (data : BitVec 32) (s : State) : Host.Outcome State Fault Refusal :=
  .next (if s.regGone RNK_CHIP [8 + (m : Nat)] then s.goneAccess RNK_CHIP [8 + (m : Nat)] true else s.writeChip (8 + (m : Nat)) data.toNat)

/-- A write to RNK_FENCE.SW (R566, R568). -/
def State.writeFence (s : State) (m v : Nat) : State :=
  s.rankCfg m (fun s => (s.setF RNK_FENCE [8] RNK_FENCE.SW v).setF RNK_FENCE [9] RNK_FENCE.SW v)

/-- FENCE_WRITE (R566, R568). -/
def execFenceWrite (m : Fin 2) (data : BitVec 32) (s : State) : Host.Outcome State Fault Refusal :=
  .next (if s.regGone RNK_FENCE [8 + (m : Nat)] then s.goneAccess RNK_FENCE [8 + (m : Nat)] true else s.writeFence (8 + (m : Nat)) data.toNat)

end Sys2Proof.Machine
end

