-- ==== Sys2Proof/Machine/SmKeys.lean ====
section
/-! DEFINITION. Key slots of the security module, and who may use them (R882 to R885). -/

namespace Sys2Proof.Machine

/-- Key slot k. -/
def State.keySlot (s : State) (k : Nat) : KeySlot := tget {} s.sm.keys k

/-- Replace the security module's state. -/
def State.setSm (s : State) (x : Sm) : State := { s with sm := x }

/-- The slot that a handle names, when the handle is valid (R882). -/
def State.keyOf (s : State) (h : Nat) : Option (Nat × KeySlot) :=
  let i := h % 256
  let k := s.keySlot i
  if i < 64 ∧ k.typ ≠ 0 ∧ k.typ = h / 256 % 256 ∧ k.gen = h / 65536 then some (i, k) else none

/-- The handle of a slot (R882). -/
def KeySlot.handle (k : KeySlot) (i : Nat) : Nat := i + 256 * k.typ + 65536 * k.gen

/-- The session of a command may use a key (R883). -/
def State.mayUse (s : State) (c : Cmd) (k : KeySlot) : Bool :=
  (!k.coOnly || s.sessionRole c == some .officer) && (k.typ != 3 || k.bound == s.sliceId)

/-- An installed association came from a handle (R887). -/
def State.sakUsed (s : State) (h : Nat) : Bool :=
  (List.range 2).any (fun p =>
    let x := tget {} s.eth.ports p
    (x.txSa ++ x.rxSa).any (fun e => match e.2 with
      | some a => a.handle == h
      | none => false))

/-- Zeroize the key slots that satisfy `p`; a slot keeps its generation (R882, R884, R897). -/
def State.wipeKeys (s : State) (p : KeySlot → Bool) : State :=
  s.setSm { s.sm with keys := (List.range 64).foldl (fun t i =>
    let k := tget {} t i
    if p k then tput {} t i { gen := k.gen } else t) s.sm.keys }

/-- Every association of E0 is deleted (R892, R897). -/
def State.wipeSas (s : State) : State :=
  { s with eth := { s.eth with ports := (List.range 2).foldl (fun t p =>
    let x := tget {} t p
    tput {} t p { x with txSa := [], rxSa := [] }) s.eth.ports } }

end Sys2Proof.Machine
end

