-- ==== Sys2Proof/Machine/SmOps.lean ====
section
/-! DEFINITION. The security module's shared operations: its states, its start, the store, and zeroization (19_security.md, sections 2, 6
and 7). -/

namespace Sys2Proof.Machine

/-- The module's state (SM_STATUS): 0 BOOT, 1 SELFTEST, 2 PROVISION, 3 OPERATIONAL, 4 SOFT_ERROR, 5 HARD_ERROR. -/
def State.smState (s : State) : Nat := s.getF SM_STATUS [] SM_STATUS.STATE

/-- The bytes of every fuse field above OTP_CHECK, in the order of R861; an unfused field is zero. -/
def Fuses.bytes (f : Fuses) : List Byte :=
  f.rootDigest.flatMap (fun d => slice d 0 48) ++ leBytes 1 f.rootRevoked ++ f.coDigest.flatMap (fun d => slice d 0 48) ++
    leBytes 8 (2 ^ f.smSvn - 1) ++ leBytes 8 (2 ^ f.fwSvn - 1) ++ f.storeKeys.flatMap (fun k => slice k 0 32) ++ leBytes 1 (b2n f.debugDisable)

/-- OTP_CHECK (R861) (DESIGN CHOICE, log entry 105). -/
def Fuses.otpCheck (f : Fuses) : BitVec 64 := Config.otpParity f.bytes

/-- CO_DIGEST[k] is fused (R870). -/
def State.coFused (s : State) (k : Nat) : Bool := !(s.fuses.coDigest.getD k []).isEmpty

/-- Enter a state; APPROVED follows (R895). -/
def State.setSmState (s : State) (st : Nat) : State :=
  (s.setF SM_STATUS [] SM_STATUS.STATE st).setF SM_STATUS [] SM_STATUS.APPROVED
    (b2n (st == 3 && s.coFused 0 && !s.sm.everUnlocked))

/-- An event of the module is logged (R903). -/
def State.smEvent (s : State) (f : Fld) : State := s.setLogged 10 SM_EVENT [] f

/-- Every session closes (R877). -/
def State.closeSessions (s : State) : State := s.setSm { s.sm with sessions := [] }

/-- DRBG state, key slots, challenges and the module buffer are overwritten (R863, R897). -/
def State.wipeSecrets (s : State) : State :=
  let s := s.wipeKeys (fun _ => true)
  s.setSm { s.sm with challenges := [], drbg := false }

/-- The DRBG is seeded; a current store-key bank that is not fused yet is fused from it (R897). -/
def State.seedDrbg (s : State) : State :=
  let s := s.setSm { s.sm with drbg := true }
  let b := s.fuses.bank
  if b < 8 ∧ (s.fuses.storeKeys.getD b []).isEmpty then
    let k := s.drbgBytes 32
    ({ s with fuses := { s.fuses with storeKeys := s.fuses.storeKeys.set b k } }).useFree 32
  else s

/-- STORE: the store region is erased, the current bank blown, and the next one current (R897, R898) (DEDUCED, log entry 82). -/
def State.eraseStore (s : State) : State :=
  let b := s.fuses.bank
  let s := s.setSm { s.sm with store := {}, storeIntact := true }
  let s := { s with fuses := { s.fuses with storeKeys := s.fuses.storeKeys.set b (List.replicate 32 0xFF), bank := min 8 (b + 1) } }
  let s := s.setF SM_STATUS [] SM_STATUS.STORE_BANK (min 7 s.fuses.bank)
  if s.fuses.bank = 8 then s.setF SM_STATUS [] SM_STATUS.STORE_EXHAUSTED 1 else s

/-- Zeroization (R897). The DRBG is reseeded afterwards unless the module has stopped (R892). -/
def State.zeroize (s : State) (store : Bool) : State :=
  let s := s.wipeSecrets.wipeSas.closeSessions
  let s := if store then s.eraseStore else s
  let s := s.smEvent SM_EVENT.ZEROIZED
  if s.smState = 2 ∨ s.smState = 3 then s.seedDrbg else s

/-- The module enters SOFT_ERROR (R892): test `t` has failed. -/
def State.softError (s : State) (t : Nat) : State :=
  let s := s.setSm { s.sm with prior := s.smState, drbg := false, recoveries := 0 }
  ((s.closeSessions.setSmState 4).setF SM_STATUS [] SM_STATUS.ERR_CODE (0x80 + t)).smEvent SM_EVENT.ERROR

/-- The module enters HARD_ERROR (R866, R892). -/
def State.hardError (s : State) (code : Nat) : State :=
  let s := s.wipeSecrets.wipeSas.closeSessions
  ((s.setSmState 5).setF SM_STATUS [] SM_STATUS.ERR_CODE code).smEvent SM_EVENT.ERROR

/-- The policy registers follow the store (SM_POLICY). -/
def State.loadPolicy (s : State) : State :=
  ((s.setF SM_POLICY [] SM_POLICY.SCORE_NONE (b2n s.sm.store.scoreNone)).setF SM_POLICY [] SM_POLICY.IDLE_MIN s.sm.store.idleMin).setF
    SM_POLICY [] SM_POLICY.RETEST_H s.sm.store.retestH

/-- The SM store is loaded (R862, R883): one that does not authenticate is treated as empty. -/
def State.loadStore (s : State) : State :=
  let s := if s.sm.storeIntact then s
    else (s.setSm { s.sm with store := {} }).setF SM_STATUS [] SM_STATUS.STORE_BAD 1 |>.smEvent SM_EVENT.STORE_BAD
  (s.setSm { s.sm with keys := s.sm.store.keys.foldl (fun t e => tput {} t e.1 e.2) s.sm.keys }).loadPolicy

/-- What follows once tests 0 to 10 have passed (R862, R892, R897). -/
def State.smServe (s : State) : State := s.seedDrbg.loadStore.setSmState (if s.coFused 0 then 3 else 2)

/-- A latched ZEROIZE_N is served (R899). -/
def State.serveLatch (s : State) : State :=
  if s.sm.zeroLatch then
    let z := s.zeroize true
    z.setSm { z.sm with zeroLatch := false }
  else s

/-- The module starts (R890 to R892, R899): a latched ZEROIZE_N is served first, then tests 0 to 10 run; `failed` is the first that fails.
A failure of test 7 here leads nowhere but to the next cold reset (R894) (DEDUCED, log entry 66) (DEDUCED, log entry 73)
(DEDUCED, log entry 75). -/
def State.smStart (s : State) (failed : Option Nat) : State :=
  let s := ((s.setSmState 1).setF SM_STATUS [] SM_STATUS.STORE_BANK (min 7 s.fuses.bank)).setF SM_STATUS [] SM_STATUS.STORE_EXHAUSTED
    (b2n (s.fuses.bank == 8))
  let s := s.setF SM_STATUS [] SM_STATUS.DEBUG_UNLOCKED (1 - s.getF SM_DEBUG [] SM_DEBUG.LOCKED)
  let s := s.serveLatch
  match failed with
  | none => (s.testsRun 0x7FF 0).smServe
  | some t =>
    let s := s.testsRun 0x7FF (2 ^ t)
    if t = 8 ∨ t = 9 then s.softError t else s.hardError (0x80 + t)

/-- A reset of C0 takes the module back to BOOT: sessions close, and every volatile secret goes (R826, R863, R877, R892)
(DEDUCED, log entry 83). -/
def State.smReset (s : State) : State :=
  let s := s.wipeSecrets.closeSessions
  s.setSm { s.sm with recoveries := 0, prior := 0 }

end Sys2Proof.Machine
end

