-- ==== Sys2Proof/Machine/ResetOps.lean ====
section
/-! DEFINITION. What a reset of a part clears: registers by domain, Presses, dies, links, ports and cores, and the streams that lose their
source (18_resets_power.md, sections 2 and 3). Units are numbered as AON_WASH numbers them; 280 + p is Ethernet port p, 282 + c core c. -/

namespace Sys2Proof.Machine

/-! ### Units and wash counts -/

/-- The die that a unit is, or lies on. -/
def unitDie (u : Nat) : Nat :=
  if u < 256 then u / 32
  else if u < 264 then u - 256
  else if u = 264 then 8
  else if u = 265 then 9
  else if u = 266 then 11
  else if u = 267 then 10
  else if u < 280 then 8 + (u - 268) / 6
  else if u < 282 then 11
  else 10

/-- The number of a die as a unit. -/
def dieUnit (d : Nat) : Nat := if d < 8 then 256 + d else if d = 8 then 264 else if d = 9 then 265 else if d = 11 then 266 else 267

/-- The unit is a whole die. -/
def isDieUnit (u : Nat) : Bool := decide (256 ≤ u) && decide (u < 268)

/-- The units with a wash count that a die holds, itself first (R821). -/
def dieUnits (d : Nat) : List Nat :=
  dieUnit d :: (if d < 8 then (List.range 32).map (fun k => 32 * d + k)
    else if d < 10 then (List.range 6).map (fun j => 268 + 6 * (d - 8) + j) else [])

/-- A unit's wash count (AON_WASH); 0 where it has none. -/
def State.wash (s : State) (u : Nat) : Nat := if u < 280 then s.getF AON_WASH [u] AON_WASH.WASH else 0

/-- A wash count steps (R821) (DEDUCED, log entry 52). -/
def State.stepWash (s : State) (u : Nat) : State :=
  if u < 280 then s.setF AON_WASH [u] AON_WASH.WASH (if (s.wash u + 1) % 65536 = 0 then 1 else s.wash u + 1) else s

/-! ### Registers by domain -/

/-- The registers that satisfy `p` return to their reset values. -/
def State.clearRegs (s : State) (p : Reg → List Nat → Bool) : State :=
  { s with regs := tclear (fun a => match regAt a with
      | some x => p x.1 x.2
      | none => false) s.regs }

/-- The unit of a register of the UNIT domain (R24). -/
def regUnit (r : Reg) (ix : List Nat) : Option Nat :=
  match r.dies, ix with
  | some (0, _), d :: k :: _ => some (32 * d + k)
  | some (8, _), d :: j :: _ => some (268 + 6 * (d - 8) + j)
  | none, i :: t =>
    if 0x0181_0000 ≤ r.off then (match t with
      | k :: _ => some (32 * i + k)
      | [] => none)
    else if 0x0180_0000 ≤ r.off then some (268 + i)
    else if 0x0140_0000 ≤ r.off then some (280 + i)
    else none
  | _, _ => none

/-- The die of a register of the DIE domain. -/
def regDie (r : Reg) (ix : List Nat) : Option Nat :=
  match r.dies, ix with
  | some _, d :: _ => some d
  | none, i :: _ => if 0x0160_0000 ≤ r.off then some i else if 0x0140_0000 ≤ r.off then some 11 else none
  | _, [] => if 0x0160_0000 ≤ r.off then some 10 else none

/-- The registers of the UNIT domain of one unit. -/
def inUnit (u : Nat) (r : Reg) (ix : List Nat) : Bool := r.dom == .unit && regUnit r ix == some u

/-- The registers that a DIE reset of die d returns (R816): DIE and UNIT of that die. -/
def inDie (d : Nat) (r : Reg) (ix : List Nat) : Bool :=
  (r.dom == .die && regDie r ix == some d) || (r.dom == .unit && (match regUnit r ix with
    | some u => unitDie u == d
    | none => false))

/-- Set or clear bits of a register. -/
def State.orReg (s : State) (r : Reg) (ix : List Nat) (m : Nat) : State := s.setReg r ix (s.reg r ix ||| BitVec.ofNat 64 m)
def State.clrBits (s : State) (r : Reg) (ix : List Nat) (m : Nat) : State := s.setReg r ix (s.reg r ix &&& ~~~ BitVec.ofNat 64 m)

/-! ### Streams that end -/

/-- A stream of die d has ended (R831): for `reason` 1 source, 2 Mangle die, 3 give-up. -/
def State.noteEnded (s : State) (stream d reason : Nat) : State :=
  let s := if s.bit RST_EVENT [] RST_EVENT.STREAM_ENDED then s
    else ((s.setF RST_ENDED [] RST_ENDED.STREAM stream).setF RST_ENDED [] RST_ENDED.DIE d).setF RST_ENDED [] RST_ENDED.REASON reason
  let s := (s.incF RST_ENDED [] RST_ENDED.COUNT 1).setLogged 10 RST_EVENT [] RST_EVENT.STREAM_ENDED
  if s.tempo.running then s.fermataRequest else s

/-- End every stream with a held descriptor that satisfies `test` (R827, R828); how many. -/
def State.endStreams (s : State) (test : Desc → Bool) (reason : Nat) : State × Nat :=
  let l := (s.score.desc.filter test).foldl (fun l d => if l.any (fun x => x.1 == d.stream) then l else l ++ [(d.stream, d.die)]) []
  (l.foldl (fun s x => (s.endStream x.1 stPeerReset).noteEnded x.1 x.2 reason) s, l.length)

/-! ### Presses -/

/-- A Board is zeroed (R203). -/
def State.zeroBoard (s : State) (p : Nat) : State :=
  { s with mem := tclear (fun a => decide (boardBase + p * 0x0010_0000 ≤ a) && decide (a < boardBase + (p + 1) * 0x0010_0000)) s.mem }

/-- Writes that wait on a hold of a Press that goes away (R354): a tack is answered with `status`; a command and E0 go on waiting. -/
def State.awayWrites (s : State) (p status : Nat) : State :=
  let l := (s.prs p).heldWrites
  let s := s.setPrs p { s.prs p with heldWrites := l.filter (fun w => match w.2.2 with
    | .cmd _ => true
    | .eth _ _ _ => true
    | _ => false) }
  l.foldl (fun s w => match w.2.2 with
    | .tack tb src token mangle =>
      s.sendAck (p / 32) { bytes := tb, src := src, token := token, sect := none, mangle := mangle, via := none } status
    | _ => s) s

/-- The queue requests of a Press end (R369): loads on their way leave stale fills behind. -/
def State.endQueues (s : State) (p : Nat) : State :=
  let d := p / 32
  let out := ((List.range 4).map (fun q => ((s.queue p q).filter (fun r => r.sent && !r.done && !r.held && r.data.isNone)).length)).foldl
    (· + ·) 0
  let s := (List.range 6).foldl (fun s q => s.setQueue p q []) s
  let mine (b : ScanFor) : Bool := match b with
    | .sect i _ => i == p
    | .press i => i == p
    | .cmd _ => false
  let x := s.port d
  { s.setPort d { x with stale := x.stale + out, scans := x.scans.filter (fun c => !mine c.by_) } with qseq := tput 0 s.qseq p 0 }

/-- What a Press loses when it goes away (R203, R220, R223, R369, R826): its sections, registers, queue requests, Board and holds. The part
store is kept, or comes back from the Conductor's copy at unfold (R838). `status` answers the tacks that wait for it
(DEDUCED, log entry 78). -/
def State.losePress (s : State) (p status : Nat) : State :=
  let s := (s.awayWrites p status).endQueues p
  let s := s.inputDown (fun f => f.accepted && f.hdr.dpress == p)
  let s := (s.clearRegs (inUnit p)).zeroBoard p
  let x := s.prs p
  let s := s.setPrs p { part := x.part, words := x.words, heldWrites := x.heldWrites }
  let s := (List.range 4).foldl (fun s k => s.setSect p k {}) s
  s.clrBits PWR_PIDLE [p / 32] (2 ^ (p % 32))

/-! ### Seams and links -/

/-- A die stands at a site: fitted, or a relay die (R34). -/
def State.dieThere (s : State) (d : Nat) : Bool :=
  s.hasDie d || (d == 3 && s.bit GLB_CAP0 [] GLB_CAP0.RELAY3) || (d == 7 && s.bit GLB_CAP0 [] GLB_CAP0.RELAY7)

/-- The ports of a die that are bonded. -/
def State.bondedPorts (s : State) (d : Nat) : List Nat :=
  (List.range (seamFar d).length).filter (fun q => decide ((seamPeer d q).1 < 12) && s.dieThere (seamPeer d q).1)

/-- The Seams of a die go down (R443): its own ports are OFF, the far ends train again. -/
def State.dropSeams (s : State) (d : Nat) : State :=
  (s.bondedPorts d).foldl (fun s q =>
    let p := seamPeer d q
    (s.seamLeave d q 0).portRetrain p.1 p.2 true) s

/-- The Seam ports of a released die begin to train (R438, R824). -/
def State.trainSeams (s : State) (d : Nat) : State :=
  (s.bondedPorts d).foldl (fun s q => if s.seamState d q = 0 then s.setF SEAM_STATUS [d, q] SEAM_STATUS.STATE 1 else s) s

/-- Take the stored resends that satisfy `p` away: their sources may send them again (R502). -/
def State.dropStored (s : State) (p : Stored → Bool) : State :=
  (s.score.stored.filter p).foldl (fun s x => s.resendOver x.own x.hdr)
    { s with score := { s.score with stored := s.score.stored.filter (fun x => !p x) } }

/-- A link unit is reset (R826): its registers, its dynamic state, its bridge and its channel of the Linen pool
(DEDUCED, log entry 78). -/
def State.loseLink (s : State) (l : Nat) : State :=
  let m := 8 + l / 6
  let c := l % 6
  let s := if s.linkState l = 0 then s else s.linkLeave l 0
  let s := s.inputDown (fun f => f.at_ == m && f.inp == .link l)
  let s := s.dropStored (fun x => x.mangle == m && x.chan == c)
  let s := State.linReleases m c (s.getF LIN_CHAN [m, c] LIN_CHAN.USED + s.getF LIN_CHAN [m, c] LIN_CHAN.DRAWN) s
  let s := { s with lk := tput {} s.lk l {}, legacy := tput {} s.legacy l {} }
  let s := { s with score := { s.score with landed := s.score.landed.filter (fun x => x.link != l) } }
  (s.clearRegs (inUnit (linkUnit l))).linkSources

/-! ### Dies -/

/-- Flits inside a die are lost with it (R826). -/
def State.loseFlights (s : State) (d : Nat) : State :=
  (s.score.flights.filter (fun f => f.at_ == d)).foldl State.dropFlight s

/-- The streams that the desk of die d sends on (R483). -/
def Conductor.streams (c : Conductor) : List Nat := c.desk.filterMap (fun e => match e with
  | .send _ _ _ _ _ _ _ _ stream _ _ _ _ => some stream
  | _ => none)

/-- What any die that holds a Conductor loses (R343, R826): its Conductor's stores, its beat count, its tokens and its own tacks. -/
def State.loseCommon (s : State) (d : Nat) : State :=
  let s := (s.loseFlights d).setConductor d {}
  let s := s.setDieCount d 0
  let s := { s with aligns := s.aligns.filter (fun x => x.1 != d) }
  { s with tacks := { s.tacks with
    tokens := tput [] s.tacks.tokens d []
    uses := tclear (fun k => k / 64 == d) s.tacks.uses
    waiting := s.tacks.waiting.filter (fun t => t.src != some d)
    toMangle := s.tacks.toMangle.filter (fun t => t.src != some d) } }

/-- What a Press die loses beyond its Presses (R826): Conductor, tallies, windows, sequence counters, knot queue, its notice counts, and
the write buffer's dirty blocks unless the fence has run (R387) (DEDUCED, log entry 78). -/
def State.losePressDie (s : State) (d : Nat) : State :=
  let lost := (s.port d).wb.any (fun e => e.dirty || e.flight.isSome)
  let cmds := ((s.port d).scans.filterMap (fun x => match x.by_ with
    | .cmd c => some c
    | _ => none))
  let streams := (s.conductor d).streams
  let s := s.loseCommon d
  let s := { s with score := { s.score with
    seqs := streams.foldl (fun t x => tput 0 t x 0) s.score.seqs
    sends := s.score.sends.filter (fun w => w.die != d)
    windows := s.score.windows.filter (fun w => w.die != d)
    tallies := tclear (fun k => k / 256 == d) s.score.tallies
    knotQ := tput [] s.score.knotQ d []
    tallySat := tput false s.score.tallySat d false } }
  let s := { s with books := { s.books with
    accepted := tput 0 s.books.accepted d 0, noticed := tput 0 s.books.noticed d 0, consumed := tput 0 s.books.consumed d 0 } }
  let s := s.setPort d { stale := (s.port d).stale }
  let s := cmds.foldl (fun s c => s.finishScans c) s
  let s := s.clearRegs (inDie d)
  if lost then s.setBit MEM_ERR [d] MEM_ERR.WB_LOST else s

/-- What a Mangle die loses (R826): Rank Table, darning buffer, Linen pool, tack buffers, groups, Conductor, and its six links. -/
def State.loseMangleDie (s : State) (m : Nat) : State :=
  let ls := (List.range 6).map (fun j => 6 * (m - 8) + j)
  let s := ls.foldl (fun s l => if s.linkState l = 0 then s else s.linkLeave l 0) s
  let s := s.dropStored (fun x => x.mangle == m)
  let s := s.loseCommon m
  let s := ls.foldl (fun s l => { s with lk := tput {} s.lk l {}, legacy := tput {} s.legacy l {} }) s
  let s := { s with score := { s.score with
    early := tput [] s.score.early m [], resendQ := tput [] s.score.resendQ m []
    landed := s.score.landed.filter (fun x => 8 + x.link / 6 != m)
    takes := s.score.takes.filter (fun l => 8 + l / 6 != m) } }
  let s := { s with books := { s.books with linTransit := s.books.linTransit.filter (fun x => x.1 != m) } }
  let s := { s with tacks := { s.tacks with
    toMangle := s.tacks.toMangle.filter (fun t => t.mangle != m)
    inj := tclear (fun k => k / 16 == m) s.tacks.inj
    turn := tput 0 s.tacks.turn m 0
    transit := tput [] s.tacks.transit m []
    inbox := tput [] s.tacks.inbox m []
    groups := tclear (fun k => k / 2 ^ 20 == m) s.tacks.groups } }
  let s := { s with pwr := { s.pwr with giveUp := s.pwr.giveUp.filter (fun l => 8 + l / 6 != m) } }
  (s.clearRegs (inDie m)).linkSources

/-- What E0 loses (R753, R839): queues, associations, timers and buffered frames. Deletions that were waiting are answered with
`status` (R832) (DEDUCED, log entry 78). -/
def State.loseE0 (s : State) (status : Nat) : State :=
  let cs := (List.range 32).filterMap (fun q => (s.ethQueue q).deleting)
  let s := { s with eth := { s.eth with ports := [], queues := [] } }
  let s := (List.range 256).foldl (fun s p => s.setPrs p { s.prs p with heldWrites := (s.prs p).heldWrites.filter (fun w => match w.2.2 with
    | .eth _ _ _ => false
    | _ => true) }) s
  let s := (s.loseFlights 11).setDieCount 11 0
  let s := { s with aligns := s.aligns.filter (fun x => x.1 != 11) }
  cs.foldl (fun s c => s.complete c status []) (s.clearRegs (inDie 11))

/-- An activation under way is abandoned (R848): the image that ran before it runs again, and the command is answered as R832 says. -/
def State.abandonActivation (s : State) : State :=
  match s.fw.activateCmd with
  | some c =>
    let img := if s.bit CMD_IF_STATUS [] CMD_IF_STATUS.FW_READY then s.fw.running else s.fw.previous
    let s := { s with fw := { s.fw with activateCmd := none, early := [], running := img } }
    let s := (s.setF CMD_IF_STATUS [] CMD_IF_STATUS.ACTIVATING 0).setF AON_FW [] AON_FW.ACTIVATING 0
    let s := { s with front := { s.front with waiting := s.front.waiting.filter (fun x => x.1 != WaitFor.activate) } }
    s.complete c stUnitInReset []
  | none => s

/-- What C0 loses (R643, R654, R784, R817, R826, R853): cores, interrupt and notice registers, the arbiter's buffer, Unison, sessions and
secrets. The host command interface and rings with LOC = 0 go on; completions of transports C, S and P are lost
(DEDUCED, log entry 78). -/
def State.loseC0 (s : State) : State :=
  let s := s.abandonActivation
  let mine := ((s.front.inflight.map (fun x => x.1)).filter (fun c => c.via != .H)).filter (fun c => !s.front.discard.contains c)
  let s := { s with front := { s.front with discard := s.front.discard ++ mine, smbDone := none } }
  let s := ((List.range 16).filter s.ringLoc).foldl State.ringReset s
  let s := { s with smb := { s.smb with busy := false } }
  let s := s.smReset.captureReset.arbReset
  let s := (if s.replaying then s.replayStop else s).setUnison {}
  let s := { s with icu := {}, fw := { s.fw with coresHeld := true } }
  let s := (s.loseFlights 10).setDieCount 10 0
  let s := { s with aligns := s.aligns.filter (fun x => x.1 != 10) }
  let s := s.setF CMD_IF_STATUS [] CMD_IF_STATUS.FW_READY 0
  s.clearRegs (fun r ix => r.dom == .c0 || inDie 10 r ix)

/-! ### Assertion -/

/-- Step 6 of R823 for a unit, with what goes before it as `fence` says: true for a commanded reset, whose fence has run
(DEDUCED, log entry 79). -/
def State.assertReset (s : State) (u : Nat) : State :=
  let d := unitDie u
  let s := { s with pwr := { s.pwr with asserted := s.pwr.asserted.filter (fun x => x != u) ++ [u] } }
  if isDieUnit u then
    let s := { s with pwr := { s.pwr with fresh := s.pwr.fresh.filter (fun x => x != d) } }
    let s := (s.dropSeams d).captureReset
    let s := (s.orReg RST_DIE [] (2 ^ d)).setF CLK_DIE [d] CLK_DIE.LOCKED 0
    if d < 8 then
      let s := s.orReg RST_PRESS [d] (2 ^ 32 - 1)
      ((List.range 32).foldl (fun s k => s.losePress (32 * d + k) stUnitInReset) s).losePressDie d
    else if d < 10 then s.loseMangleDie d
    else if d = 11 then s.loseE0 stUnitInReset
    else s.loseC0
  else if u < 256 then (s.orReg RST_PRESS [d] (2 ^ (u % 32))).losePress u stUnitInReset
  else if u < 280 then s.loseLink (u - 268)
  else if u < 282 then
    let x := s.ethPort (u - 280)
    (s.clearRegs (inUnit u)).setEthPort (u - 280) { x with txOn := false, xoffDue := 0, xonDue := 0, ctlIn := [] }
  else
    let c := u - 282
    (s.emptyStack (2 * c)).emptyStack (2 * c + 1)

/-- The streams that a unit's loss ends (R827, R828); how many. -/
def State.endUnitStreams (s : State) (u : Nat) : State × Nat :=
  if u < 256 then s.endStreams (fun d => 32 * d.die + d.press == u) 1
  else if u < 264 then s.endStreams (fun d => d.die == u - 256) 1
  else if u = 264 ∨ u = 265 then s.endStreams (fun d => streamMangle d.stream == unitDie u) 2
  else (s, 0)

end Sys2Proof.Machine
end

