-- ==== Sys2Proof/Machine/Power.lean ====
section
/-! DEFINITION. Units that are taken away and come back: UNIT_RESET, UNIT_FOLD, UNIT_UNFOLD and PSTATE_SET, what the clock/reset/power
controller reports of them, give-up, discards and thermal throttling (18_resets_power.md; 03_clocks.md, R130 and R131). -/

namespace Sys2Proof.Machine

/-! ### The state of a unit -/

/-- The unit that TARGET names (R687, AON_WASH). -/
def cmdUnit (c : Cmd) : Nat :=
  let d := c.tDie
  let i := c.tIndex
  match c.tSub with
  | 0 => dieUnit d
  | 1 => 32 * d + i
  | 2 => 268 + 6 * (d - 8) + i
  | 3 => 280 + i
  | _ => 282 + i

/-- The unit is folded, with its die or alone. -/
def State.unitFolded (s : State) (u : Nat) : Bool := if u < 256 then s.pressFolded u else s.dieFolded (unitDie u)

/-- The unit is in reset, with its die or alone. -/
def State.unitInReset (s : State) (u : Nat) : Bool :=
  s.pwr.asserted.contains u || (if u < 256 then s.pressInReset u else s.dieInReset (unitDie u))

/-- A command of section 6 waits for the unit (R851). -/
def State.unitBusy (s : State) (u : Nat) : Bool :=
  s.front.waiting.any (fun x => x.1 == .unitReset u || x.1 == .unfold u || x.1 == .pstate u)

/-- The Presses that a unit is, or holds. -/
def unitPresses (u : Nat) : List Nat :=
  if u < 256 then [u] else if u < 264 then (List.range 32).map (fun k => 32 * (u - 256) + k) else []

/-- The Presses that PSTATE_SET acts on (R850). -/
def State.pstatePresses (s : State) (u : Nat) : List Nat := (unitPresses u).filter (fun p => !s.pressFolded p)

/-- The first failure of R851 for a command on unit u: its reserved bits, PSTATE, WASH, and the states of the unit
(DEDUCED, log entry 76). -/
def State.powerCheck (s : State) (c : Cmd) : Option Nat :=
  let u := cmdUnit c
  let op := c.opcode
  let ps := c.par 1 1
  let wash := c.par 2 2
  if 2 ≤ c.par 0 1 ∨ 4 < ps ∨ (ps ≠ 0 ∧ op ≠ 0x0504) ∨ !c.parZero 4 12 then some stBadParam
  else if wash ≠ 0 ∧ wash ≠ s.wash u then some stStaleWash
  else if (op ≠ 0x0503 ∧ s.unitFolded u) ∨ (op = 0x0503 ∧ u < 256 ∧ s.dieFolded (unitDie u)) then some stUnitFolded
  else if s.unitInReset u then some stUnitInReset
  else if (op = 0x0501 ∨ op = 0x0502) ∧ (u < 266 ∨ (268 ≤ u ∧ u < 280)) ∧ s.busyTempo ∧ c.par 0 1 = 0 then some stBusy
  else if op = 0x0504 ∧ ps = 4 ∧ !(s.pstatePresses u).all s.allPaused then some stBusy
  else if op = 0x0503 ∧ !s.unitFolded u then some stBusy
  else if s.unitBusy u then some stBusy
  else none

/-- The result of R852: the wash count, the microseconds taken and the streams ended. -/
def State.unitResult (s : State) (u us n : Nat) : List Byte := leBytes 2 (s.wash u) ++ leBytes 4 us ++ leBytes 2 n

/-- Streams that a commanded reset or unfold of the unit has ended; none when there is no such command to bring it back. -/
def State.job (s : State) (u : Nat) : Option Nat := tget none s.pwr.jobs u
def State.setJob (s : State) (u : Nat) (n : Option Nat) : State := { s with pwr := { s.pwr with jobs := tput none s.pwr.jobs u n } }

/-- The commands that wait for the unit complete (R852). -/
def State.answerUnit (s : State) (u us st : Nat) : State :=
  let r := s.unitResult u us ((s.job u).getD 0)
  (s.completeAll (.unitReset u) st r).completeAll (.unfold u) st r

/-- A unit has reached service (R852): RESET_DONE when it was commanded. -/
def State.finishUnit (s : State) (u us : Nat) : State :=
  let s := if (s.job u).isSome then s.setLogged 10 RST_EVENT [] RST_EVENT.RESET_DONE else s
  let s := s.answerUnit u us stOk
  let s := s.setJob u none
  { s with pwr := { s.pwr with unfolding := s.pwr.unfolding.filter (fun x => x != u) } }

/-! ### Away -/

/-- Steps 1 to 4 of R823, and the fermata request of R833; how many streams end. -/
def State.quiesce (s : State) (u : Nat) (force : Bool) : State × Nat :=
  let s := if force && s.busyTempo && (decide (u < 266) || (decide (268 ≤ u) && decide (u < 280))) then s.fermataRequest else s
  let s := if 256 ≤ u ∧ u < 264 then s.fenceNow (u - 256) else s
  s.endUnitStreams u

/-- UNIT_RESET (R823, R826 to R828, R833, R849 to R853). The quiesce steps are one step of the model (DEDUCED, log entry 76)
(DEDUCED, log entry 78). -/
def execUnitReset (c : Cmd) (s : State) : Host.Outcome State Fault Refusal :=
  .next (s.runCmd c 0x0501 (fun s =>
    let u := cmdUnit c
    match s.powerCheck c with
    | some st => s.complete c st []
    | none =>
      let r := s.quiesce u (c.par 0 1 == 1)
      ((r.1.setJob u (some r.2)).wait (.unitReset u) c).assertReset u))

/-- A Press die loses its port and its controller's service (R837). -/
def State.foldPort (s : State) (d : Nat) : State :=
  let cmds := ((s.port d).scans.filterMap (fun x => match x.by_ with
    | .cmd c => some c
    | _ => none))
  let s := s.setPort d { stale := (s.port d).stale }
  ((cmds.foldl (fun s c => s.finishScans c) s).setF MEM_STATUS [d] MEM_STATUS.TRAINED 0).setF MEM_STATUS [d] MEM_STATUS.SELF_REFRESH 1

/-- UNIT_FOLD (R823, R827, R833, R836, R837, R839, R849 to R852): `us` is what it took. -/
def execUnitFold (c : Cmd) (us : BitVec 32) (s : State) : Host.Outcome State Fault Refusal :=
  .next (s.runCmd c 0x0502 (fun s =>
    let u := cmdUnit c
    let d := unitDie u
    match s.powerCheck c with
    | some st => s.complete c st []
    | none =>
      let r := s.quiesce u (c.par 0 1 == 1)
      let s := (unitPresses u).foldl (fun s p => (s.losePress p stUnitFolded).orReg PWR_PFOLD [p / 32] (2 ^ (p % 32))) r.1
      let s := if u < 256 then s
        else if u < 264 then (s.foldPort d).orReg PWR_DIE [] (2 ^ d)
        else ((((s.dropSeams 11).captureReset).loseE0 stUnitFolded).orReg PWR_DIE [] (2 ^ 11)).setF CLK_DIE [11] CLK_DIE.LOCKED 0
      (s.setLogged 10 RST_EVENT [] RST_EVENT.FOLD_DONE).complete c stOk (s.unitResult u us.toNat r.2)))

/-- UNIT_UNFOLD (R838, R849 to R852): the unit is powered; it reaches service by UNIT_IN_SERVICE (DEDUCED, log entry 80). -/
def execUnitUnfold (c : Cmd) (s : State) : Host.Outcome State Fault Refusal :=
  .next (s.runCmd c 0x0503 (fun s =>
    let u := cmdUnit c
    let d := unitDie u
    match s.powerCheck c with
    | some st => s.complete c st []
    | none =>
      let s := (unitPresses u).foldl (fun s p =>
        (s.clrBits PWR_PFOLD [p / 32] (2 ^ (p % 32))).orReg RST_PRESS [p / 32] (2 ^ (p % 32))) s
      let s := if u < 256 then s else s.clrBits PWR_DIE [] (2 ^ d)
      let s := if u = 266 then s.orReg RST_DIE [] (2 ^ 11) else s
      let s := { s with pwr := { s.pwr with unfolding := s.pwr.unfolding ++ [u] } }
      (s.setJob u (some 0)).wait (.unfold u) c))

/-! ### Back -/

/-- RESET_RELEASE (R818, R821, R824): the unit's reset is released. A die's Seams begin to train once its root PLL has locked
(DEDUCED, log entry 52). -/
def execResetRelease (u : Fin 298) (s : State) : Host.Outcome State Fault Refusal :=
  .next (
    if !s.fw.inCold && s.pwr.asserted.contains (u : Nat) then
      let s := { s with pwr := { s.pwr with asserted := s.pwr.asserted.filter (fun x => x != (u : Nat)) } }
      if 268 ≤ (u : Nat) then s.stepWash u else s
    else s)

/-- ROOT_PLL_LOCK (R130, R164, R824): a die's root PLL locks, and the die goes on leaving reset. On C0 the security module then starts, where
a boot has entered its firmware (R866), and `failed` is the first of its tests that fails (R892). -/
def execRootPllLock (d : Fin 12) (failed : Option (Fin 11)) (s : State) : Host.Outcome State Fault Refusal :=
  .next (
    if s.fw.inCold ∨ !s.dieThere d ∨ s.refActive = 5 ∨ s.pwr.asserted.contains (dieUnit d) ∨ s.bit CLK_DIE [(d : Nat)] CLK_DIE.LOCKED ∨
        ((d : Nat) = 11 ∧ s.dieFolded 11) then s
    else
      let s := s.setF CLK_DIE [(d : Nat)] CLK_DIE.LOCKED 1
      if bitOf (s.reg RST_DIE []) d then
        let s := s.trainSeams d
        if (d : Nat) = 10 then
          let s := s.clrBits RST_DIE [] (2 ^ 10)
          if s.getF RST_BOOT [] RST_BOOT.STAGE < 4 then s else s.smStart (failed.map (fun t => (t : Nat)))
        else s
      else s)

/-- The contents of a stack that is not in self-refresh when its controller stops are not kept (R387, R388)
(DESIGN CHOICE, log entry 1) (DEDUCED, log entry 77). -/
def State.loseStack (s : State) (n : Nat) : State :=
  { s with mem := tclear (fun a => decide (n * 0x0006_0000_0000 ≤ a) && decide (a < (n + 1) * 0x0006_0000_0000)) s.mem }

/-- ROOT_PLL_LOCK_LOSS (R131, R823, R827, R828, R387): for 1 µs or less UNLOCK is set; for longer the die goes into DIE reset without the
quiesce steps (DEDUCED, log entry 81). -/
def execRootPllLockLoss (d : Fin 12) (long : Bool) (s : State) : Host.Outcome State Fault Refusal :=
  .next (
    if s.fw.inCold ∨ !s.bit CLK_DIE [(d : Nat)] CLK_DIE.LOCKED then s
    else if !long then s.setLogged 10 CLK_DIE [(d : Nat)] CLK_DIE.UNLOCK
    else
      let s := s.setLogged 10 CLK_DIE [(d : Nat)] CLK_DIE.CLOCK_RESET
      let s := ((s.endUnitStreams (dieUnit d)).1).assertReset (dieUnit d)
      if (d : Nat) < 8 then s.loseStack d else s)

/-- ZEROING_DONE (R203, R824): the Board of a Press that is out of reset assertion is zeroed. -/
def execZeroingDone (p : Fin 256) (s : State) : Host.Outcome State Fault Refusal :=
  .next (
    let d := (p : Nat) / 32
    if s.fw.inCold || !s.hasDie d || s.pressFolded p || s.pwr.asserted.contains (p : Nat) || s.pwr.asserted.contains (dieUnit d) ||
        !s.bit CLK_DIE [d] CLK_DIE.LOCKED then s
    else s.setF PRS_STATUS (pix p) PRS_STATUS.ZEROING 0)

/-- Every bonded Seam of a die is UP at both ends, or reaches a relay die. -/
def State.dieSeamsUp (s : State) (d : Nat) : Bool :=
  (s.bondedPorts d).all (fun q =>
    let p := seamPeer d q
    s.seamState d q == 4 && (!s.hasDie p.1 || s.seamState p.1 p.2 == 4))

/-- A die comes back (R824, R825, R838): its wash counts and those of its units step, and its Presses' parts are restored. Commands that
wait for one of its Presses complete with it (DEDUCED, log entry 52) (DEDUCED, log entry 80). -/
def State.dieServes (s : State) (d us : Nat) : State :=
  let u := dieUnit d
  let s := s.clrBits RST_DIE [] (2 ^ d)
  let s := if s.pwr.fresh.contains d then { s with pwr := { s.pwr with fresh := s.pwr.fresh.filter (fun x => x != d) } }
    else (dieUnits d).foldl State.stepWash s
  let ps := (unitPresses u).filter (fun p => !s.pwr.asserted.contains p && !s.pressFolded p)
  let s := ps.foldl (fun s p => (s.clrBits RST_PRESS [d] (2 ^ (p % 32))).clearSections p) s
  let s := if d < 8 then
      ((s.setF MEM_STATUS [d] MEM_STATUS.TRAINED 1).setF MEM_STATUS [d] MEM_STATUS.SELF_REFRESH 0).setF MEM_STATUS [d]
        MEM_STATUS.CHIPKILL_ACTIVE (s.getF MEM_CFG [d] MEM_CFG.CHIPKILL)
    else s
  let s := if d = 11 then
      let e := s.wash u % 256
      { s with eth := { s.eth with epoch := if e = 0 then 1 else e } }
    else s
  (ps.filter (fun p => (s.job p).isSome)).foldl (fun s p => s.finishUnit p us) (s.finishUnit u us)

/-- The C0 firmware's image in L3 changes (R761, R846): AON_FW shows its version and class. -/
def State.setFirmware (s : State) (img : List Byte) : State :=
  let cls := leAt img 0x0C 1
  let moved := s.getF AON_FW [] AON_FW.NFW_CLASS != cls && s.condDies.any (fun d => s.bit SCR_STATUS [d] SCR_STATUS.INSTALLED)
  let s := { s with fw := { s.fw with running := img } }
  let s := (s.setF AON_FW [] AON_FW.VERSION (leAt img 0x08 4)).setF AON_FW [] AON_FW.NFW_CLASS cls
  let s := s.setF GLB_REPRO_PROFILE [] GLB_REPRO_PROFILE.NFW_CLASS cls
  let s := s.setSm { s.sm with runFwSvn := leAt img 0x0D 1, runFwSlot := leAt img 0x0E 1 }
  if moved then s.setLogged 10 GLB_MODE [] GLB_MODE.PROFILE_MOVED else s

/-- Every core is reset (R643, R846): its targets' stacks are emptied. -/
def State.resetCores (s : State) : State := (List.range 32).foldl State.emptyStack s

/-- Steps 3 and 4 of an activation (R846): the cores are reset, the staged image is loaded, and the firmware's wash count steps
(DEDUCED, log entry 82). -/
def State.loadStaged (s : State) : State :=
  let s := { s.resetCores with fw := { s.fw with previous := s.fw.running } }
  ((s.setFirmware (s.fw.staged.getD [])).stepWash 267).setF CMD_IF_STATUS [] CMD_IF_STATUS.FW_READY 0

/-- An activation ends (R846, R848). -/
def State.endActivation (s : State) (c : Cmd) (st : Nat) (result : List Byte) : State :=
  let s := { s with fw := { s.fw with activateCmd := none, early := [] } }
  let s := (s.setF CMD_IF_STATUS [] CMD_IF_STATUS.ACTIVATING 0).setF AON_FW [] AON_FW.ACTIVATING 0
  let s := s.setF CMD_IF_STATUS [] CMD_IF_STATUS.FW_READY 1
  let s := { s with front := { s.front with waiting := s.front.waiting.filter (fun x => x.1 != WaitFor.activate) } }
  s.complete c st result

/-- The firmware sets FW_READY (R825, R846, R940): at the end of an activation, at the end of a boot, or after a C0 reset
(DESIGN CHOICE, log entry 85). -/
def State.c0Serves (s : State) (us : Nat) : State :=
  match s.fw.activateCmd with
  | some c =>
    let drained := s.front.inflight.all (fun x => x.1 == c)
    if s.bit CMD_IF_STATUS [] CMD_IF_STATUS.FW_READY && !drained then s
    else
      let s := if s.bit CMD_IF_STATUS [] CMD_IF_STATUS.FW_READY then s.loadStaged else s
      s.endActivation c stOk (leBytes 4 (s.getF AON_FW [] AON_FW.VERSION) ++ leBytes 1 (s.getF AON_FW [] AON_FW.NFW_CLASS) ++
        leBytes 2 (s.wash 267))
  | none =>
    let stage := s.getF RST_BOOT [] RST_BOOT.STAGE
    if s.dieInReset 10 ∨ s.fw.running.isEmpty ∨ stage < 6 ∨ s.smState < 2 ∨ s.bit CMD_IF_STATUS [] CMD_IF_STATUS.FW_READY ∨
        (stage = 6 ∧ s.fw.coresHeld) then s
    else
      let s := if s.fw.coresHeld then s.stepWash 267 else s
      let s := { s with fw := { s.fw with coresHeld := false } }
      let s := if stage = 6 then
          (s.setF RST_BOOT [] RST_BOOT.STAGE 7).setF RST_BOOT [] RST_BOOT.ELAPSED_MS (min 65535 (us / 1000))
        else s
      (s.setF CMD_IF_STATUS [] CMD_IF_STATUS.FW_READY 1).finishUnit 267 us

/-- UNIT_IN_SERVICE (R203, R824, R825, R838, R852): a unit has met its in-service condition, `us` microseconds on. -/
def execUnitInService (u : Fin 298) (us : BitVec 32) (s : State) : Host.Outcome State Fault Refusal :=
  .next (
    let n : Nat := u
    let d := unitDie n
    if s.fw.inCold || s.pwr.asserted.contains n || s.pwr.asserted.contains (dieUnit d) || !s.hasDie d then s
    else if n = 267 then s.c0Serves us.toNat
    else if isDieUnit n then
      if (bitOf (s.reg RST_DIE []) d || s.pwr.unfolding.contains n) && !s.dieFolded d && s.bit CLK_DIE [d] CLK_DIE.LOCKED && s.dieSeamsUp d &&
          (unitPresses n).all (fun p => s.pressFolded p || s.pwr.asserted.contains p || !s.bit PRS_STATUS (pix p) PRS_STATUS.ZEROING) then
        s.dieServes d us.toNat
      else s
    else if n < 256 then
      if s.dieInReset d || s.pwr.unfolding.contains (dieUnit d) || s.pressFolded n || !s.pressInReset n ||
          s.bit PRS_STATUS (pix n) PRS_STATUS.ZEROING then s
      else (((s.clrBits RST_PRESS [d] (2 ^ (n % 32))).stepWash n).clearSections n).finishUnit n us.toNat
    else if s.dieInReset d ∨ (s.job n).isNone ∨ (n < 280 ∧ !s.linkUp (n - 268)) then s
    else s.finishUnit n us.toNat)

/-- UNIT_SERVICE_TIMEOUT (R852): a unit is not in service 100 ms after its release; it continues to come up. -/
def execUnitServiceTimeout (u : Fin 298) (us : BitVec 32) (s : State) : Host.Outcome State Fault Refusal :=
  .next (
    let n : Nat := u
    let out := s.unitInReset n || s.pwr.unfolding.contains n || (s.job n).isSome
    if s.fw.inCold || s.pwr.asserted.contains n || !out then s
    else (s.setLogged 10 RST_EVENT [] RST_EVENT.TIMEOUT).answerUnit n us.toNat stTimeout)

/-! ### P-states -/

/-- The P-state of a Press (PWR_PSTATE). -/
def State.pstate (s : State) (p : Nat) : Nat := s.getF PWR_PSTATE [p / 32] ⟨2 * (p % 32), 2⟩
def State.setPstate (s : State) (p v : Nat) : State := s.setF PWR_PSTATE [p / 32] ⟨2 * (p % 32), 2⟩ v

/-- The controller of Pn sets a new rail target, somewhere within its range (R840, R963): a free value (DEDUCED, log entry 62). -/
def State.newTarget (s : State) (d : Nat) : State :=
  (s.setF PWR_RAIL [d] PWR_RAIL.TARGET_MV (550 + s.freeNat 32 % 251)).useFree 1

/-- A Press takes a P-state (R842): a step to a higher rate waits for its rail, another takes effect. -/
def State.takePstate (s : State) (p v : Nat) : State :=
  let s := s.clrBits PWR_PIDLE [p / 32] (2 ^ (p % 32))
  if v < s.pstate p then ({ s with pwr := { s.pwr with rising := tput 0 s.pwr.rising p (v + 1) } }).newTarget (p / 32)
  else if v = s.pstate p then { s with pwr := { s.pwr with rising := tput 0 s.pwr.rising p 0 } }
  else ({ s with pwr := { s.pwr with rising := tput 0 s.pwr.rising p 0 } }.setPstate p v).newTarget (p / 32)

/-- PSTATE_SET (R835, R842, R849 to R852): `us` is what it took when it need not wait for a rail (DEDUCED, log entry 34). -/
def execPstateSet (c : Cmd) (us : BitVec 32) (s : State) : Host.Outcome State Fault Refusal :=
  .next (s.runCmd c 0x0504 (fun s =>
    let u := cmdUnit c
    let ps := s.pstatePresses u
    let v := c.par 1 1
    match s.powerCheck c with
    | some st => s.complete c st []
    | none =>
      if v = 4 then
        (ps.foldl (fun s p => s.orReg PWR_PIDLE [p / 32] (2 ^ (p % 32))) s).complete c stOk (s.unitResult u us.toNat 0)
      else
        let s := ps.foldl (fun s p => s.takePstate p v) s
        if ps.any (fun p => tget 0 s.pwr.rising p != 0) then s.wait (.pstate u) c
        else s.complete c stOk (s.unitResult u us.toNat 0)))

/-- RAIL_TARGET_REACHED (R842, R852): the Press rail of Pd reaches its target, and the P-states that waited for it take effect. -/
def execRailTargetReached (d : Fin 8) (us : BitVec 32) (s : State) : Host.Outcome State Fault Refusal :=
  .next (
    let s := s.setF PWR_RAIL [(d : Nat)] PWR_RAIL.NOW_MV (s.getF PWR_RAIL [(d : Nat)] PWR_RAIL.TARGET_MV)
    let s := (List.range 32).foldl (fun s k =>
      let p := 32 * (d : Nat) + k
      let v := tget 0 s.pwr.rising p
      if v = 0 then s else ({ s with pwr := { s.pwr with rising := tput 0 s.pwr.rising p 0 } }).setPstate p (v - 1)) s
    let done := s.front.waiting.filterMap (fun x => match x.1 with
      | .pstate u => if (unitPresses u).any (fun p => tget 0 s.pwr.rising p != 0) then none else some u
      | _ => none)
    done.foldl (fun s u => s.completeAll (.pstate u) stOk (s.unitResult u us.toNat 0)) s)

/-! ### Give-up and discards -/

/-- LINK_GIVEUP (R829, R831): a descriptor has been held for GIVEUP_US. -/
def execLinkGiveup (stream : BitVec 12) (seq : BitVec 16) (s : State) : Host.Outcome State Fault Refusal :=
  .next (match s.descOf stream.toNat seq.toNat with
    | some d => (((s.endStream stream.toNat stPeerReset).noteEnded stream.toNat d.die 3)).setLogged 10 RST_EVENT [] RST_EVENT.GIVEUP
    | none => s)

/-- LINK_DISCARD (R830): a link has not been UP for GIVEUP_US; what waits for it is discarded, and so is what comes later. -/
def execLinkDiscard (l : Fin 12) (s : State) : Host.Outcome State Fault Refusal :=
  .next (
    let i : Nat := l
    let m := 8 + i / 6
    if s.linkUp i || !s.dieUp m then s
    else
      let s := { s with pwr := { s.pwr with giveUp := s.pwr.giveUp.filter (fun x => x != i) ++ [i] } }
      let s := (s.score.flights.filter (fun f => f.at_ == m && f.exit == some i && (f.looked || !f.own))).foldl
        (fun s f => s.exitHead f i false) s
      let s := (s.score.stored.filter (fun x => x.mangle == m && x.exit == some i)).foldl
        (fun s x => ((s.unstore x).resendOver x.own x.hdr).linkDiscard (x.hdr.lines + 2)) s
      let x : Legacy := tget {} s.legacy i
      if x.store.isEmpty then s
      else (s.setLegacy i { x with store := [], sent := 0 }).linkDiscard ((x.store.map (fun b => b.1.lines + 2)).foldl (· + ·) 0))

/-! ### Temperature -/

/-- A Press die is throttled while a sensor of it is at its threshold, THROT or the 95 °C of its HBM stack, until every one reads 5 °C below it
(R843, R856, R992) (DEDUCED, log entry 108). -/
def State.throttle (s : State) (d : Nat) : State :=
  let th := s.getF PWR_THERM [] PWR_THERM.THROT
  let now := s.getF PWR_TEMP [d] PWR_TEMP.NOW
  let stack := tget 0 s.pwr.stackTemp d
  let on := (s.getF PWR_THERM [] PWR_THERM.THROTTLED).testBit d
  let f : Fld := ⟨16 + d, 1⟩
  if !on && (decide (th ≤ now) || decide (95 ≤ stack)) then s.setLogged 10 PWR_THERM [] f
  else if on && decide (now + 5 < th) && decide (stack < 90) then s.setF PWR_THERM [] f 0
  else s

/-- The hottest sensor of a die reads `t` °C (PWR_TEMP, R843). -/
def State.senseTemp (s : State) (d t : Nat) : State :=
  let s := (s.setF PWR_TEMP [d] PWR_TEMP.NOW t).peakF PWR_TEMP [d] PWR_TEMP.PEAK t
  if 8 ≤ d then s else s.throttle d

/-- The HBM stack of a Press die reports `t` °C (R992). -/
def State.senseStack (s : State) (d t : Nat) : State :=
  State.throttle { s with pwr := { s.pwr with stackTemp := tput 0 s.pwr.stackTemp d t } } d

/-- THERMAL_THROTTLE (R843, R856, R992): a sensor reading below the trip threshold, or a report of an HBM stack, which never trips. -/
def execThermalThrottle (d : Fin 12) (t : BitVec 8) (hbm : Bool) (s : State) : Host.Outcome State Fault Refusal :=
  .next (
    if s.fw.inCold || !s.hasDie d then s
    else if hbm then (if 8 ≤ (d : Nat) then s else s.senseStack d t.toNat)
    else if 115 ≤ t.toNat then s
    else s.senseTemp d t.toNat)

end Sys2Proof.Machine
end

