-- ==== Sys2Proof/Machine/Boot.lean ====
section
/-! DEFINITION. The package's resets and its start: power-on and cold reset and what causes them, the boot from the flash, firmware images,
and the live replacement of the C0 firmware (18_resets_power.md, sections 1 and 5; 19_security.md, section 3; 21_startup.md;
22_electrical.md, section 3). -/

namespace Sys2Proof.Machine

/-! ### Cold reset -/

/-- The registers that a cold reset keeps are those of the POR domain (R24, R816) (DESIGN CHOICE, log entry 49). -/
def keptCold (a : Nat) : Bool :=
  match regAt a with
  | some x => x.1.dom == .por
  | none => false

/-- The package goes into cold reset (R816, R817, R845, R863): everything but the always-on domain returns to its reset state. Kept are the
registers of the POR domain, the pins, fuses and flash, the sideband and the test port, the ZEROIZE_N latch, and the record of what the
part has sent. Device memory reads as unwritten again (DESIGN CHOICE, log entry 1) (DESIGN CHOICE, log entry 49). -/
def State.coldBase (s : State) : State :=
  let z : State := State.reset
  { z with
    regs := tclear (fun a => !keptCold a) s.regs
    clock := s.clock, linkTx := s.linkTx, eth := { z.eth with sent := s.eth.sent }
    front := { z.front with done := s.front.done, hostWrites := s.front.hostWrites, msix := s.front.msix }
    sm := { z.sm with store := s.sm.store, storeIntact := s.sm.storeIntact, zeroLatch := s.sm.zeroLatch }
    tap := s.tap, smb := { s.smb with busy := false }, pins := s.pins, fuses := s.fuses, flash := s.flash
    pwr := { z.pwr with switching := s.pwr.switching }, free := s.free, pending := s.pending }

/-- A cold reset begins (R816): RST_CAUSE names `cause` alone, the links that were reference sources are gone (R148), and no image is staged
(R845) (DESIGN CHOICE, log entry 49). -/
def State.coldReset (s : State) (cause : Fld) : State :=
  let s := s.coldBase.linkSources
  let s := { s with arb := {}, icu := {} }
  let s := ((s.setF AON_FW [] AON_FW.STAGED 0).setF AON_FW [] AON_FW.ACTIVATING 0).clrReg AON_FW_STAGED []
  (s.setReg RST_CAUSE [] 0).setF RST_CAUSE [] cause 1

/-- A power-on reset (R816): the always-on domain returns to its reset state as well, with HEM_IN as its pin is (R929). -/
def State.powerOn (s : State) : State :=
  let s := { s.coldBase with regs := [], tap := {}, smb := {}, pwr := {} }
  let s := s.setSm { s.sm with zeroLatch := false }
  s.setF SMB_ADDR [] SMB_ADDR.HEM_IN (b2n s.pins.hemIn)

/-- Set the levels of the pins and supplies. -/
def State.setPins (s : State) (p : Pins) : State := { s with pins := p }

/-- POWER_ON_RESET (R816, R966): the supplies rise, with the package reset pin low. -/
def execPowerOnReset (s : State) : Host.Outcome State Fault Refusal :=
  .next ((s.powerOn).setPins { s.pins with vauxGood := true, pkgResetLow := true, tripped := false })

/-- VAUX_UNDERVOLTAGE (R970). -/
def execVauxUndervoltage (s : State) : Host.Outcome State Fault Refusal :=
  .next ((s.powerOn).setPins { s.pins with vauxGood := false, tripped := false })

/-- The part is a KL3-B9 whose Press rail of die d may stay unpowered (R961). -/
def State.railExempt (s : State) (r : Nat) : Bool := s.fuses.variant == 2 && (r == 9 + 3 || r == 9 + 7)

/-- A rail is lost (R961, R971). Rail 0 is VAUX_33, whose loss is VAUX_UNDERVOLTAGE. -/
def State.railLost (s : State) (r : Nat) : State :=
  if r = 0 ∨ s.railExempt r then s
  else (s.coldReset RST_CAUSE.POWER_ON).setPins { s.pins with railsGood := s.pins.railsGood &&& (0x1FFFF ^^^ 2 ^ r) }

/-- RAIL_UNDERVOLTAGE (R971): rail r of R959, in the order of its table. -/
def execRailUndervoltage (r : Fin 17) (s : State) : Host.Outcome State Fault Refusal := .next (s.railLost r)

/-- AVS_RESPONSE_TIMEOUT (R964, R971): the regulator of VDD_PRESS d, which the part commands from step 6 of the release onward
(DEDUCED, log entry 61). -/
def execAvsResponseTimeout (d : Fin 8) (s : State) : Host.Outcome State Fault Refusal :=
  .next (if s.fw.inCold || decide (s.getF RST_BOOT [] RST_BOOT.STAGE < 5) then s else s.railLost (9 + d))

/-- PKG_RESET_ASSERT (R976). -/
def execPkgResetAssert (s : State) : Host.Outcome State Fault Refusal :=
  .next ((s.coldReset RST_CAUSE.PIN).setPins { s.pins with pkgResetLow := true })

/-- A write to RST_COLD: the key from a core in M mode, while the cores run, cold-resets the package (R819) (DEDUCED, log entry 50). -/
def State.writeRstCold (s : State) (w : Who) (v : Nat) : State :=
  if Who.mMode w && v % 65536 == 0xC01D && !s.fw.coresHeld then s.coldReset RST_CAUSE.SOFT else s

/-- RST_COLD_WRITE (R819). -/
def execRstColdWrite (w : Who) (v : BitVec 32) (s : State) : Host.Outcome State Fault Refusal := .next (s.writeRstCold w v.toNat)

/-- THERMAL_TRIP (R844, R980): a sensor of die d reads `t` °C (DEDUCED, log entry 63). -/
def execThermalTrip (d : Fin 12) (t : BitVec 8) (s : State) : Host.Outcome State Fault Refusal :=
  .next (if t.toNat < 115 || (!s.fw.inCold && !s.dieThere d) then s
    else (s.coldReset RST_CAUSE.THERMAL).setPins { s.pins with tripped := true })

/-! ### Images -/

/-- Bytes of the boot flash (PRESUMED, log entry 86). -/
def State.flashBytes (s : State) (o n : Nat) : List Byte := (List.range n).map (fun i => tget 0xFF s.flash (o + i))

/-- Write bytes to the boot flash. -/
def State.writeFlash (s : State) (o : Nat) (bs : List Byte) : State :=
  { s with flash := bs.zipIdx.foldl (fun t x => tput 0xFF t (o + x.2) x.1) s.flash }

/-- Check 1 of R865 fails: MAGIC, KIND, HDR_VERSION or a reserved byte (R864) (DEDUCED, log entry 54). -/
def imageHdrBad (img : List Byte) (kind : Nat) : Bool :=
  leAt img 0 4 != 0x3357_464B || leAt img 4 2 != kind || leAt img 6 2 != 1 || leAt img 0x0F 1 != 0 || leAt img 0x18 40 != 0

/-- The reason code of R865 for an image of a kind; none when it passes. Reason 7 holds outside ROM verification
(DEDUCED, log entry 54). -/
def State.imageReason (s : State) (img : List Byte) (kind : Nat) (rom : Bool) : Option Nat :=
  let slot := leAt img 0x0E 1
  let key := slice img 64 96
  let n := img.length - 96
  if imageHdrBad img kind then some 1
  else if img.length ≠ 256 + leAt img 0x10 4 then some 2
  else if !(leAt img 0x14 4).testBit (s.fuses.stepping - 1) then some 3
  else if 4 ≤ slot ∨ s.fuses.rootRevoked.testBit slot ∨ s.fuses.rootDigest.getD slot [] ≠ Config.sha384 key then some 4
  else if !Config.ecdsaVerifies key (img.take n) (img.drop n) then some 5
  else if leAt img 0x0D 1 < (if kind = 1 then s.fuses.smSvn else s.fuses.fwSvn) then some 6
  else if !rom ∧ s.smState ≠ 3 then some 7
  else none

/-- The place and size of an image region of the flash (R946). -/
def regionAt (kind r : Nat) : Nat := if kind = 1 then 0x10_0000 * (1 + r) else 0x40_0000 + 0x80_0000 * r
def regionSize (kind : Nat) : Nat := if kind = 1 then 0x10_0000 else 0x80_0000

/-- The image of a region, and the reason for which ROM verification refuses it (DEDUCED, log entry 55). -/
def State.bootImage (s : State) (kind r : Nat) : List Byte × Option Nat :=
  let o := regionAt kind r
  let hdr := s.flashBytes o 64
  let n := 256 + leAt hdr 0x10 4
  if imageHdrBad hdr kind then ([], some 1)
  else if regionSize kind < n then ([], some 2)
  else
    let img := s.flashBytes o n
    (img, s.imageReason img kind true)

/-! ### The boot directory -/

/-- A directory copy is valid (R947, R948). -/
def dirOk (d : List Byte) : Bool :=
  leAt d 0 4 == 0x3344_424B && leAt d 4 2 == 1 && leAt d 6 2 == 0 && decide (leAt d 0x0C 1 ≤ 1) && decide (leAt d 0x0D 1 ≤ 1) &&
  leAt d 0x0E 2 == 0 && leAt d 0x17 0xFE5 == 0 && leAt d 0xFFC 4 == crc32c (slice d 0 0xFFC)

/-- The directory copy that the boot uses, and its number (R948). -/
def State.bootDir (s : State) : Option (Nat × List Byte) :=
  let a := s.flashBytes 0 4096
  let b := s.flashBytes 0x1000 4096
  match dirOk a, dirOk b with
  | true, true => if newer 32 (leAt b 8 4) (leAt a 8 4) then some (1, b) else some (0, a)
  | true, false => some (0, a)
  | false, true => some (1, b)
  | false, false => none

/-- The region that is copy A of a kind (R948, R949). -/
def State.copyA (s : State) (kind : Nat) : Nat :=
  match s.bootDir with
  | some d => leAt d.2 (if kind = 1 then 0x0C else 0x0D) 1
  | none => 0

/-- The device ID (R667). -/
def State.deviceId (s : State) : Nat := 0x0300 + s.getF GLB_ID [] GLB_ID.VARIANT

/-- The value of CLK_REF_CFG is one that the board record may hold (R950). -/
def refCfgOk (v : Nat) : Bool := (v.testBit 2 || v.testBit 3) && fget (BitVec.ofNat 64 v) CLK_REF_CFG.QUAL_MS != 0

/-- The boot ROM reads the directory and applies the board record (R948, R950). -/
def State.applyDir (s : State) : State :=
  let dflt := (CLK_REF_CFG.resetAt []).toNat
  match s.bootDir with
  | some (k, d) =>
    let s := s.setF RST_BOOT [] RST_BOOT.DIR_COPY k
    let v := leAt d 0x14 2
    let s := if refCfgOk v then s.writeRefCfg v else (s.writeRefCfg dflt).setF RST_BOOT [] RST_BOOT.DIR_BAD 1
    let th := leAt d 0x16 1
    let s := if th = 0 then s else s.setF PWR_THERM [] PWR_THERM.THROT (min 105 th)
    { s with front := { s.front with ssvid := leAt d 0x10 2, ssid := leAt d 0x12 2 } }
  | none =>
    let s := (s.writeRefCfg dflt).setF RST_BOOT [] RST_BOOT.DIR_BAD 1
    { s with front := { s.front with ssvid := 0x52E7, ssid := s.deviceId } }

/-- A PERSIST write (R868, R949): the image goes into the region that is not running, and a directory of the next generation that names the
region as copy A replaces the older copy (DEDUCED, log entry 56). -/
def State.persist (s : State) (kind : Nat) (img : List Byte) : State :=
  let r := 1 - (if kind = 1 then s.fw.smRegion else s.fw.region)
  let s := s.writeFlash (regionAt kind r) img
  let blank := leBytes 4 0x3344_424B ++ leBytes 2 1 ++ List.replicate 10 0 ++ leBytes 2 0x52E7 ++ leBytes 2 s.deviceId ++
    leBytes 2 (CLK_REF_CFG.resetAt []).toNat ++ List.replicate 0xFEA 0
  let old := s.bootDir
  let d := old.elim blank (fun x => x.2)
  let d := overlay (overlay d 8 (leBytes 4 (leAt d 8 4 + 1))) (if kind = 1 then 0x0C else 0x0D) [BitVec.ofNat 8 r]
  s.writeFlash (old.elim 0 (fun x => 0x1000 * (1 - x.1))) (overlay d 0xFFC (leBytes 4 (crc32c (slice d 0 0xFFC))))

/-! ### The release of a cold reset -/

/-- The first failure of a boot is recorded (RST_BOOT.FAIL). -/
def State.bootFail (s : State) (n : Nat) : State :=
  if s.getF RST_BOOT [] RST_BOOT.FAIL = 0 then s.setF RST_BOOT [] RST_BOOT.FAIL n else s

def State.bootStage (s : State) (n : Nat) : State := s.setF RST_BOOT [] RST_BOOT.STAGE n

/-- Step 1 of R940: C0's root PLL locks, and the other dies are held in reset. -/
def State.bootStart (s : State) : State :=
  let s := { s with fw := { s.fw with inCold := false } }
  let s := s.setPins { s.pins with pkgResetLow := false, vauxGood := true, railsGood := 0x1FFFF, tripped := false }
  ((s.setF CLK_DIE [10] CLK_DIE.LOCKED 1).setReg RST_DIE [] 0xBFF).bootStage 2

/-- GLB_CAP0 by variant (R50). -/
def cap0Of (variant : Nat) : Nat := if variant = 0 then 0x0033_FFFF else if variant = 1 then 0x0032_FFFF else 0x003C_7777

/-- Step 2 of R940 (R49, R128, R165): the fuses load (DEDUCED, log entry 74). -/
def State.loadFuses (s : State) : State :=
  let f := s.fuses
  let s := (((s.setF GLB_ID [] GLB_ID.STEPPING f.stepping).setF GLB_ID [] GLB_ID.VARIANT f.variant).setF GLB_ID [] GLB_ID.GRADE f.grade).setReg
    GLB_SERIAL [] (BitVec.ofNat 64 f.serial)
  let s := s.setF GLB_REPRO_PROFILE [] GLB_REPRO_PROFILE.STEP_CLASS f.stepping
  let s := s.setReg GLB_CAP0 [] (BitVec.ofNat 64 (cap0Of f.variant))
  let s := (List.range 12).foldl (fun s d =>
    if !s.dieThere d then s
    else
      let slow := decide (d < 8) && s.hasDie d && f.grade == 0xA
      let s := s.setF CLK_DIE [d] CLK_DIE.MULT (if slow then 0x28 else 0x30)
      let s := s.setF CLK_DIE [d] CLK_DIE.FAST_DIV (if d < 8 ∧ s.hasDie d then 4 else if d = 10 then 2 else 0)
      s.setF CLK_DIE [d] CLK_DIE.FAB_DIV (if slow then 5 else 6)) s
  let dies := ((List.range 12).filter (fun d => d != 10 && s.dieThere d))
  let s := s.setReg RST_DIE [] (BitVec.ofNat 64 ((dies.map (fun d => 2 ^ d)).foldl (· + ·) 0))
  let s := s.pressDies.foldl (fun s d => s.setReg RST_PRESS [d] 0xFFFF_FFFF) s
  { s with pwr := { s.pwr with asserted := dies.map dieUnit } }

/-- Steps 2 and 3 of R940: the fuses, and the flash, which is readable when `flashOk` (R944). The host link may train from here (R951). -/
def State.bootRom (s : State) (flashOk : Bool) : State :=
  let s := s.loadFuses
  let s := if flashOk then s.applyDir
    else
      let s := (s.bootFail 1).setF RST_BOOT [] RST_BOOT.DIR_BAD 0
      { s with front := { s.front with ssvid := 0x52E7, ssid := s.deviceId } }
  (({ s with front := { s.front with linkMayTrain := true } }).bootStage 3)

/-- Step 4 of R940 (R866): the boot ROM enters the first copy of the module's firmware that passes. Where neither does, the boot stops in
this step. -/
def State.bootSm (s : State) : State :=
  let a := s.copyA 1
  let enter (s : State) (r : Nat) (img : List Byte) : State :=
    let s := { s with fw := { s.fw with smRegion := r } }
    (s.setSm { s.sm with runSmSvn := leAt img 0x0D 1, runSmSlot := leAt img 0x0E 1 }).bootStage 4
  if s.getF RST_BOOT [] RST_BOOT.FAIL = 1 then s.hardError 1
  else match s.bootImage 1 a with
    | (img, none) => enter s a img
    | (_, some ra) => match s.bootImage 1 (1 - a) with
      | (img, none) => (enter s (1 - a) img).setF RST_BOOT [] RST_BOOT.COPY_SM 1
      | (_, some _) => (s.bootFail 2).hardError ra

/-- The wash counts are seeded (R820, R821): an independent DRBG value for every unit of the package, never 0. -/
def State.seedWash (s : State) : State :=
  (List.range 280).foldl (fun s u =>
    if s.hasDie (unitDie u) then
      let v := leNat (s.drbgBytes 2)
      (s.setF AON_WASH [u] AON_WASH.WASH (if v = 0 then 1 else v)).useFree 2
    else s) s

/-- Step 6 of R940: the dies are released together; the Press rails come under control (R964) (DEDUCED, log entry 62). -/
def State.releaseDies (s : State) : State :=
  let dies := s.pwr.asserted.map unitDie
  let s := { s with pwr := { s.pwr with asserted := [], fresh := dies } }
  (s.pressDies.foldl (fun s d =>
    let s := s.newTarget d
    s.setF PWR_RAIL [d] PWR_RAIL.NOW_MV (s.getF PWR_RAIL [d] PWR_RAIL.TARGET_MV)) s).bootStage 5

/-- Steps 5 and 6 of R940 (R820, R891 to R894): the module starts, `failed` being the first of its tests that fails, and once it serves the
wash counts are seeded and the dies released. -/
def State.bootTests (s : State) (failed : Option Nat) : State :=
  let s := if s.smState = 0 then s.smStart failed else s
  if s.smState = 2 ∨ s.smState = 3 then s.seedWash.releaseDies else s.bootFail 3

/-- Step 7 of R940 (R867, R941): the C0 firmware is verified, copy A before copy B, and the cores are released into it. -/
def State.bootFw (s : State) : State :=
  let a := s.copyA 2
  let enter (s : State) (r : Nat) (img : List Byte) : State :=
    let s := s.setFirmware img
    ({ s with fw := { s.fw with region := r, coresHeld := false } }).bootStage 6
  match s.bootImage 2 a with
  | (img, none) => enter s a img
  | (_, some _) => match s.bootImage 2 (1 - a) with
    | (img, none) => (enter s (1 - a) img).setF RST_BOOT [] RST_BOOT.COPY_FW 1
    | (_, some _) => (s.bootFail 4).bootStage 6

/-- The conditions of R939, R844, R969 and R981 that the state shows: the reference is not in free-run, no trip holds the package with its
hottest sensor at `heat` °C, and TEST_EN is low. The occasion itself says that the pin is high and the rails are good
(DEDUCED, log entry 51). -/
def State.mayRelease (s : State) (heat : Nat) : Bool :=
  s.refActive != 5 && !(s.pins.tripped && decide (95 ≤ heat)) && !s.pins.testEn

/-- COLD_RESET_RELEASE (R820, R862, R864 to R867, R939 to R951): the next stage of the release, `ms` milliseconds into it
(DESIGN CHOICE, log entry 84) (DESIGN CHOICE, log entry 85). -/
def execColdResetRelease (heat : BitVec 8) (flashOk : Bool) (failed : Option (Fin 11)) (ms : BitVec 16) (s : State) :
    Host.Outcome State Fault Refusal :=
  .next (
    let go (s : State) : State := s.setF RST_BOOT [] RST_BOOT.ELAPSED_MS ms.toNat
    let stage := s.getF RST_BOOT [] RST_BOOT.STAGE
    if s.fw.inCold then (if s.mayRelease heat.toNat then go s.bootStart else s)
    else if s.dieInReset 10 ∨ !s.bit CLK_DIE [10] CLK_DIE.LOCKED then s
    else if stage = 2 then go (s.bootRom flashOk)
    else if stage = 3 ∧ s.smState = 0 then go s.bootSm
    else if stage = 4 then go (s.bootTests (failed.map (fun t => (t : Nat))))
    else if stage = 5 ∧ (s.smState = 2 ∨ s.smState = 3) then go s.bootFw
    else s)

/-- FW_BOOT_TIMEOUT (R942): the firmware has not set FW_READY in time. The other copy is tried once (DEDUCED, log entry 53). -/
def execFwBootTimeout (s : State) : Host.Outcome State Fault Refusal :=
  .next (
    if s.getF RST_BOOT [] RST_BOOT.STAGE ≠ 6 ∨ s.fw.coresHeld ∨ s.bit CMD_IF_STATUS [] CMD_IF_STATUS.FW_READY then s
    else
      let r := 1 - s.fw.region
      let s := s.resetCores.bootFail 5
      let held (s : State) : State := { s with fw := { s.fw with coresHeld := true, running := [] } }
      if s.bit RST_BOOT [] RST_BOOT.COPY_FW then held s
      else match s.bootImage 2 r with
        | (img, none) =>
          let s := (s.setFirmware img).stepWash 267
          ({ s with fw := { s.fw with region := r } }).setF RST_BOOT [] RST_BOOT.COPY_FW 1
        | (_, some _) => held s)

/-! ### Live update -/

/-- FW_STAGE (R845, R854, R865, R868, R890, R949) (DEDUCED, log entry 55) (DEDUCED, log entry 57) (DEDUCED, log entry 58). -/
def execFwStage (c : Cmd) (s : State) : Host.Outcome State Fault Refusal :=
  .next (s.runCmd c 0x0A01 (fun s =>
    let off := c.par 0 8
    let len := c.par 8 4
    let flags := c.par 12 1
    if off % 4096 ≠ 0 ∨ len < 4096 ∨ 0x0080_0000 < len ∨ 2 ≤ flags ∨ !c.parZero 13 3 ∨ boardBase ≤ off ∨ !s.rangeMapped off len then
      s.complete c stBadParam []
    else match s.rangeAway off len with
      | some st => s.complete c st []
      | none =>
        let img := s.readMem off len
        let kind := leAt img 4 2
        let bad := if kind = 1 then s.imageReason img 1 false else s.imageReason img 2 false
        let bad := if bad = none ∧ kind = 1 ∧ flags = 0 then some 1 else bad
        let bad := if bad = none ∧ regionSize kind < len then some 2 else bad
        let s := s.testsRun 0x800 (if bad.isSome then 0x800 else 0)
        match bad with
        | some r => s.complete c stIntegrity (leBytes 1 r)
        | none =>
          let s := if flags = 1 then s.persist kind img else s
          let ver := leAt img 0x08 4
          let cls := leAt img 0x0C 1
          let s := if kind = 2 then
              let s := { s with fw := { s.fw with staged := some img } }
              let s := s.setF AON_FW [] AON_FW.STAGED 1
              (s.setF AON_FW_STAGED [] AON_FW_STAGED.VERSION ver).setF AON_FW_STAGED [] AON_FW_STAGED.NFW_CLASS cls
            else s
          s.complete c stOk (leBytes 4 ver ++ leBytes 1 cls)))

/-- FW_ACTIVATE (R846, R855): step 1 of an activation. -/
def execFwActivate (c : Cmd) (s : State) : Host.Outcome State Fault Refusal :=
  .next (s.runCmd c 0x0A02 (fun s =>
    let moved := s.getF AON_FW [] AON_FW.NFW_CLASS != s.getF AON_FW_STAGED [] AON_FW_STAGED.NFW_CLASS
    if 2 ≤ c.par 0 1 ∨ !c.parZero 1 15 then s.complete c stBadParam []
    else if s.fw.staged.isNone ∨ s.fw.activateCmd.isSome then s.complete c stBusy []
    else if moved && decide (c.par 0 1 = 0) && s.condDies.any (fun d => s.bit SCR_STATUS [d] SCR_STATUS.INSTALLED) then
      s.complete c stProfileMismatch []
    else
      let s := { s with fw := { s.fw with activateCmd := some c, early := s.front.inflight.map (fun (x : Cmd × Nat) => x.1) } }
      ((s.setF CMD_IF_STATUS [] CMD_IF_STATUS.ACTIVATING 1).setF AON_FW [] AON_FW.ACTIVATING 1).wait .activate c))

/-- A command that a drain ends (R846): it completes with BUSY, and what it would still do is dropped (DEDUCED, log entry 60). -/
def State.abortCmd (s : State) (c : Cmd) : State :=
  let s := s.dropCmdWrites c
  let s := { s with front := { s.front with waiting := s.front.waiting.filter (fun x => x.2 != c) } }
  let s := (List.range 8).foldl (fun s d =>
    let x := s.port d
    if x.scans.any (fun y => y.by_ == .cmd c) then s.setPort d { x with scans := x.scans.filter (fun y => y.by_ != .cmd c) } else s) s
  let s := { s with patches := s.patches.filter (fun p => !(p.cmd == c && !p.waiting.isEmpty)) }
  let stop := s.tempo.actions.any (fun (a : Nat × BarAction) => match a.2 with
    | .stop _ x => x == c
    | _ => false)
  let s := if stop then s.condDies.foldl (fun s d => s.setF SCR_STATUS [d] SCR_STATUS.STOPPING 0) s else s
  let s := s.setTempo { s.tempo with
    actions := s.tempo.actions.filter (fun (a : Nat × BarAction) => match a.2 with
      | .stop _ x => x != c
      | _ => true)
    ferm := s.tempo.ferm.filter (fun r => r.src != .command c) }
  let s := (List.range 32).foldl (fun s q =>
    let x := s.ethQueue q
    if x.deleting == some c then s.setEthQueue q { x with deleting := none } else s) s
  let s := if s.unison.replay == some c then s.replayStop else s
  s.complete c stBusy []

/-- Step 2 of an activation ends (R846): every other command that is still in flight completes with BUSY (DEDUCED, log entry 60). -/
def State.drainAll (s : State) (c : Cmd) : State :=
  let l := (s.front.inflight.map (fun x => x.1)).filter (fun x => x != c)
  let w := ((s.front.waiting.map (fun x => x.2)).filter (fun x => x != c && !l.contains x))
  (l ++ w).foldl State.abortCmd s

/-- ACTIVATION_DRAIN_TIMEOUT (R846): 100 ms after an activation began, its steps 2 to 4 end. -/
def execActivationDrainTimeout (s : State) : Host.Outcome State Fault Refusal :=
  .next (match s.fw.activateCmd with
    | some c => if s.bit CMD_IF_STATUS [] CMD_IF_STATUS.FW_READY then (s.drainAll c).loadStaged else s
    | none => s)

/-- FW_ACTIVATE_REVERT (R848): the previous image runs again. -/
def execFwActivateRevert (s : State) : Host.Outcome State Fault Refusal :=
  .next (match s.fw.activateCmd with
    | some c =>
      let early := s.bit CMD_IF_STATUS [] CMD_IF_STATUS.FW_READY
      let s := if early then s.drainAll c else s.setFirmware s.fw.previous
      let s := (s.resetCores.stepWash 267).setF AON_FW [] AON_FW.REVERTED 1
      s.endActivation c stIntegrity []
    | none => s)

end Sys2Proof.Machine
end

