-- ==== Sys2Proof/Machine/EthTx.lean ====
section
/-! DEFINITION. E0's transmitters, queues and descriptors (R719 to R721, R730 to R740). -/

namespace Sys2Proof.Machine

/-! ### Transmission -/

/-- The control frame that falls due at a boundary is sent (R721, R722). -/
def State.sendControl (s : State) (p : Nat) : State :=
  let x := s.ethPort p
  let off := x.xoffDue
  let on := x.xonDue
  let t (q : Nat) : Nat := if off.testBit q then x.quanta else 0
  let bs := if s.ethFc p = 1 then x.control 1 (beBytes 2 (t 0))
    else x.control 0x0101 (beBytes 2 (off ||| on) ++ (List.range 8).flatMap (fun q => beBytes 2 (t q)))
  let s := (List.range 8).foldl (fun s q =>
    let s := if off.testBit q then s.ethCount p (16 + q) 1 else s
    if on.testBit q then s.ethCount p 24 1 else s) s
  (((s.ethCount p 1 1).ethCount p 7 64).ethOut (.ctl p bs)).setEthPort p { x with xoffDue := 0, xonDue := 0 }

/-- A sender's next segment (R746): one to send again, or a new one that its window admits. -/
def EthQueue.segment (x : EthQueue) : Option Nat :=
  match x.resend with
  | n :: _ => some n
  | [] => if newer 32 x.next x.seq && decide (serialDiff 32 x.seq x.una < 4096) then some x.seq else none

/-- The oldest descriptor of a TX_RAW queue whose frame has not started. -/
def EthQueue.rawJob (x : EthQueue) : Option EthJob := x.jobs.find? (fun j => !j.ended && j.data.isSome)

/-- A TX queue has a frame ready (R720). -/
def State.txReady (s : State) (q : Nat) : Bool :=
  s.bit ETH_QSTATUS [q] ETH_QSTATUS.ENABLED && !s.ethPaused (q / 16) (s.ethQueue q).pri &&
    (match s.getF ETH_QSTATUS [q] ETH_QSTATUS.KIND with
      | 1 => (s.ethQueue q).rawJob.isSome
      | 2 => (s.ethQueue q).segment.isSome
      | _ => false)

/-- The queue that a boundary serves (R720): the highest priority, and round robin among its queues. -/
def State.txPick (s : State) (p : Nat) : Option Nat :=
  let r := (s.ethPort p).turn
  let qs := ((List.range 16).map (fun i => 16 * p + (r + 1 + i) % 16)).filter s.txReady
  let top := (qs.map (fun q => (s.ethQueue q).pri)).foldl max 0
  qs.find? (fun q => (s.ethQueue q).pri == top)

/-- A TX_RAW frame is sent (R735). -/
def State.sendRaw (s : State) (q : Nat) : State :=
  match (s.ethQueue q).rawJob with
  | some j =>
    let r := s.ethProtect (q / 16) (j.len + 4)
    (r.1.mapJobs q (fun y => y.seq == j.seq) (fun y => y.stop stOk y.len)).ethOut (.frame (q / 16) (j.data.getD []) r.2)
  | none => s

/-- A DATA segment is read and sent (R738, R740 to R742, R746). -/
def State.sendSegment (s : State) (q : Nat) (ecc : Ecc) : State :=
  let x := s.ethQueue q
  match x.segment with
  | none => s
  | some n =>
    match x.jobs.find? (fun j => serialGe 32 n j.seg0 && decide (serialDiff 32 n j.seg0 < j.segs)) with
    | none => s.setEthQueue q { x with resend := x.resend.drop 1 }
    | some j =>
      let o := (serialDiff 32 n j.seg0).toNat * j.segSize
      let len := min j.segSize (j.len - o)
      if (s.rangeAway (j.off + o) len).isSome then s
      else
        let s := if j.off < boardBase then s.eccSeen (j.off + o) ecc else s
        match (if j.off < boardBase then ecc else Ecc.clean) with
        | .bad _ => s.abortMsg q j stIntegrity
        | _ =>
          let again := !x.resend.isEmpty
          let pk := rbtPacket 1 (b2n (o + len == j.len)) x.epoch x.flow n j.msg o j.len (s.readMem (j.off + o) len)
          let s := s.setEthQueue q (if again then { x with resend := x.resend.drop 1 } else { x with seq := (x.seq + 1) % 2 ^ 32 })
          let s := if again then s.ethCount (q / 16) 31 1 else s
          s.rbtSend (q / 16) x.peerIp x.peerPort x.vid pk

/-- ETH_FRAME_TRANSMIT (R719 to R722, R727, R728, R735): a frame boundary of port p; `ecc` is what reading an RBT segment found. -/
def execEthFrameTransmit (p : Fin 2) (ecc : Ecc) (s : State) : Host.Outcome State Fault Refusal :=
  .next (
    let x := s.ethPort p
    if !s.ethUp p then s
    else if (x.xoffDue ||| x.xonDue) ≠ 0 ∧ s.ethFc p ≠ 0 then s.sendControl p
    else if !s.ethMaySend p then s
    else match s.txPick p with
      | none => s
      | some q =>
        let s := s.setEthPort p { x with turn := q % 16 }
        if s.getF ETH_QSTATUS [q] ETH_QSTATUS.KIND = 1 then s.sendRaw q else s.sendSegment q ecc)

/-! ### Producer and consumer indices -/

/-- A producer index arrives (R678, R730). -/
def State.ethTail (s : State) (q v : Nat) : State :=
  let n := 2 ^ (s.ethQueue q).log2n
  let hd := s.getF ETH_QSTATUS [q] ETH_QSTATUS.HEAD
  let tl := s.getF ETH_QSTATUS [q] ETH_QSTATUS.TAIL
  if !s.bit ETH_QSTATUS [q] ETH_QSTATUS.ENABLED then s
  else if n ≤ v ∨ (v + n - hd) % n < (tl + n - hd) % n then s.ethError q 1
  else s.setF ETH_QSTATUS [q] ETH_QSTATUS.TAIL v

/-- A completion-head index arrives (R678, R732). -/
def State.ethCplHead (s : State) (q v : Nat) : State :=
  let n := 2 ^ (s.ethQueue q).log2n
  let ch := s.getF ETH_QSTATUS [q] ETH_QSTATUS.CHEAD
  let ct := s.getF ETH_QSTATUS [q] ETH_QSTATUS.CTAIL
  if !s.bit ETH_QSTATUS [q] ETH_QSTATUS.ENABLED then s
  else if n ≤ v ∨ (ct + n - ch) % n < (v + n - ch) % n then s.ethError q 2
  else s.setF ETH_QSTATUS [q] ETH_QSTATUS.CHEAD v

/-- ETH_QDB_WRITE (R730). -/
def execEthQdbWrite (q : Fin 32) (v : BitVec 32) (s : State) : Host.Outcome State Fault Refusal :=
  .next (if s.regGone ETH_QDB [(q : Nat)] then s.goneAccess ETH_QDB [(q : Nat)] true else s.ethTail q v.toNat)

/-- ETH_QCPL_WRITE (R732). -/
def execEthQcplWrite (q : Fin 32) (v : BitVec 32) (s : State) : Host.Outcome State Fault Refusal :=
  .next (if s.regGone ETH_QCPL [(q : Nat)] then s.goneAccess ETH_QCPL [(q : Nat)] true else s.ethCplHead q v.toNat)

/-- QUEUE_TAIL_POLL (R730, R740): `fail` is a read that could not be made. -/
def execQueueTailPoll (q : Fin 32) (fail : Bool) (s : State) : Host.Outcome State Fault Refusal :=
  .next (
    let x := s.ethQueue q
    if s.dieUp 11 && s.bit ETH_QSTATUS [(q : Nat)] ETH_QSTATUS.ENABLED && x.poll then
      if fail then s.ethError q 3
      else if (s.rangeAway x.tail 8).isSome then s
      else s.ethTail q (leNat (s.readMem x.tail 8))
    else s)

/-! ### Descriptors -/

/-- A completion entry is free (R676, R732). -/
def State.ethRoom (s : State) (q : Nat) : Bool :=
  let n := 2 ^ (s.ethQueue q).log2n
  let ch := s.getF ETH_QSTATUS [q] ETH_QSTATUS.CHEAD
  let ct := s.getF ETH_QSTATUS [q] ETH_QSTATUS.CTAIL
  decide ((ct + n - ch) % n + (s.ethQueue q).jobs.length + 1 < n)

/-- The oldest buffered frame that waits for RX_RAW queue q. -/
def State.rawFrame (s : State) (q : Nat) : Option RxFrame := (s.ethPort (q / 16)).rx.find? (fun f => f.dest == .raw q)

/-- A buffered packet of RX_RBT queue q needs a descriptor that the queue has not taken (R744, R747). -/
def State.rbtNeeds (s : State) (q : Nat) : Bool :=
  let x := s.ethQueue q
  x.epoch != 0 && (s.ethPort (q / 16)).rx.any (fun f => match f.dest with
    | .rbt _ _ => (rbtType f.bytes == 1 || rbtType f.bytes == 4) && rbtFlow f.bytes == x.flow && rbtEpoch f.bytes == x.epoch &&
        serialGe 32 (rbtMsg f.bytes) x.msg
    | .raw _ => false)

/-- Remove the first frame that satisfies `p` from a receive buffer. -/
def State.dropFrame (s : State) (p : Nat) (f : RxFrame) : State :=
  s.setEthPort p { s.ethPort p with rx := dropFirst (fun y => y == f) (s.ethPort p).rx }

/-- The work of a descriptor just taken begins (R733, R735, R740, R742, R744). -/
def State.startJob (s : State) (q kind : Nat) (j : EthJob) (bad : Bool) (ecc : Ecc) : State :=
  let p := q / 16
  let x := s.ethQueue q
  let put (s : State) (j : EthJob) : State := s.setEthQueue q { s.ethQueue q with jobs := (s.ethQueue q).jobs ++ [j] }
  if bad then (put s (j.stop stBadParam 0)).ethLog p ETH_EVENT.BAD_DESC
  else if kind = 1 then
    let s := if j.off < boardBase then s.eccSeen j.off ecc else s
    match (if j.off < boardBase then ecc else Ecc.clean) with
    | .bad _ => put s (j.stop stIntegrity 0)
    | _ => put s { j with data := some (s.readMem j.off j.len) }
  else if kind = 2 then
    let size := ((s.ethPort p).maxFrame - 134) / 64 * 64
    let n := (j.len + size - 1) / size
    s.setEthQueue q { x with
      jobs := x.jobs ++ [{ j with msg := x.msg, seg0 := x.next, segs := n, segSize := size }]
      msg := (x.msg + 1) % 2 ^ 32
      next := (x.next + n) % 2 ^ 32 }
  else if kind = 3 then
    match s.rawFrame q with
    | none => s
    | some f =>
      let n := min j.len f.bytes.length
      let s := (put s { j.stop (if j.len < f.bytes.length then stBadLength else stOk) n with
        trunc := decide (j.len < f.bytes.length), info := f.pri }).dropFrame p f
      (s.agentWrite 512 j.off (f.bytes.take n) (.eth q j.seq 0) true).1
  else s.setEthQueue q { x with jobs := x.jobs ++ [{ j with msg := x.msg, info := x.msg }], msg := (x.msg + 1) % 2 ^ 32 }

/-- DESCRIPTOR_TAKE (R732 to R737, R740, R744): `fail` is a ring read that could not be made, `late` a wait past WAIT_US of the window
that is out of service. -/
def execDescriptorTake (q : Fin 32) (ecc : Ecc) (fail late : Bool) (s : State) : Host.Outcome State Fault Refusal :=
  .next (
    let qn : Nat := q
    let p := qn / 16
    let x := s.ethQueue qn
    let kind := s.getF ETH_QSTATUS [qn] ETH_QSTATUS.KIND
    let hd := s.getF ETH_QSTATUS [qn] ETH_QSTATUS.HEAD
    let away (s : State) : State := if late then s.setBit ETH_EVENT [p] ETH_EVENT.DMA_WAIT else s
    if !(s.dieUp 11 && s.ethIs qn kind && !s.bit ETH_QSTATUS [qn] ETH_QSTATUS.ERROR && s.getF ETH_QSTATUS [qn] ETH_QSTATUS.TAIL != hd &&
        s.ethRoom qn && (kind == 1 || kind == 2 || (kind == 3 && (s.rawFrame qn).isSome) || (kind == 4 && s.rbtNeeds qn))) then s
    else
      let dn := if kind = 1 ∨ kind = 2 then 32 else 16
      let at_ := x.ring + dn * hd
      if fail then s.ethError qn 3
      else if (s.rangeAway at_ dn).isSome then away s
      else
        let d := s.readMem at_ dn
        let off := leAt d 0 8
        let len := leAt d 8 4
        let tx := dn == 32
        let bad := !s.dmaRange off len || (tx && (2 ≤ leAt d 16 1 || leAt d 17 15 != 0)) ||
          (kind == 1 && (decide (len < 60) || decide ((s.ethPort p).maxFrame - 4 < len)))
        if !bad && (s.rangeAway off len).isSome then away s
        else
          let j : EthJob :=
            { seq := x.taken, off := off, len := len, tag := leAt d 12 4, notice := if tx then leAt d 16 1 == 1 else x.notice }
          let s := s.setF ETH_QSTATUS [qn] ETH_QSTATUS.HEAD ((hd + 1) % 2 ^ x.log2n)
          (s.setEthQueue qn { x with taken := x.taken + 1 }).startJob qn kind j bad ecc)

/-- A completion's bytes (R734). -/
def EthJob.cpl (j : EthJob) (phase : Nat) : List Byte :=
  leBytes 4 j.tag ++ leBytes 4 j.bytes ++ leBytes 1 j.status ++ leBytes 1 (phase + 2 * b2n j.trunc) ++ leBytes 2 0 ++ leBytes 4 j.info

/-- Some write of a descriptor waits on a held block (R738). -/
def State.ethHeld (s : State) (q seq : Nat) : Bool :=
  (List.range 256).any (fun p => (s.prs p).heldWrites.any (fun w => match w.2.2 with
    | .eth q' j _ => q' == q && j == seq
    | _ => false))

/-- The notice that follows a completion (R739). -/
def State.ethTally (s : State) (q : Nat) : State :=
  let x := s.ethQueue q
  if s.dieUp x.ntDie then s.tallyNotice x.ntDie x.ntTally x.ntCount else s.ethLog (q / 16) ETH_EVENT.NOTICE_LOST

/-- ETH_DMA_COMPLETE (R732, R734, R738 to R740): the oldest descriptor of queue q has ended and its writes are acknowledged. -/
def execEthDmaComplete (q : Fin 32) (fail : Bool) (s : State) : Host.Outcome State Fault Refusal :=
  .next (
    let qn : Nat := q
    let x := s.ethQueue qn
    let ct := s.getF ETH_QSTATUS [qn] ETH_QSTATUS.CTAIL
    let at_ := x.cpl + 16 * ct
    match x.jobs with
    | [] => s.ethGone qn
    | j :: rest =>
      if !s.dieUp 11 ∨ !j.ended ∨ s.ethHeld qn j.seq then s
      else if (s.rangeAway at_ 16).isSome then s
      else
        let s := s.setEthQueue qn { x with jobs := rest }
        if fail then (s.ethError qn 3).ethGone qn
        else
          let ph := s.getF ETH_QSTATUS [qn] ETH_QSTATUS.PHASE
          let s := (s.writeMem at_ (j.cpl ph)).setF ETH_QSTATUS [qn] ETH_QSTATUS.CTAIL ((ct + 1) % 2 ^ x.log2n)
          let s := if ct + 1 = 2 ^ x.log2n then s.setF ETH_QSTATUS [qn] ETH_QSTATUS.PHASE (1 - ph) else s
          let s := if j.status = stIntegrity then s.ethLog (qn / 16) ETH_EVENT.DMA_FAIL else s
          let s := if j.notice then s.ethTally qn else s
          s.ethGone qn)

end Sys2Proof.Machine
end

