-- ==== Sys2Proof/Machine/LegacyLinks.lean ====
section
/-! DEFINITION. The bridges of G2 and G1 links (12_mixed_generations.md, sections 2 and 3). -/

namespace Sys2Proof.Machine

/-- LEGACY_STORE_SEND (R590 to R592): the oldest bolt that is whole in the store of a G2 link leaves, unless the peer holds it. -/
def execLegacyStoreSend (l : Fin 12) (s : State) : Host.Outcome State Fault Refusal :=
  .next (
    let x := tget {} s.legacy l
    match x.store with
    | (h, payload, pcrc, bad) :: rest =>
      if s.linkProfile l == 1 && s.linkClear l then
        let fs := boltFlits h payload pcrc
        let s := (if bad then fs.eraseIdx 1 else fs).foldl (fun s f => s.txFlit l f) s
        (s.setLegacy l { x with store := rest }).incF LNK_LGC_TX (lnk l) LNK_LGC_TX.COUNT 1
      else s
    | [] => s)

/-! ### Sending on G1 -/

/-- A tack of the bridge as a MSG packet (R604). -/
def State.msgPacket (s : State) (l kind dunit dnode : Nat) (payload : List Byte) (cred : Nat) : List Byte :=
  g1Packet 0x02 0 cred 23 dnode (s.selfId l) (kind + 16 * dunit) 0 (slice payload 0 24)

/-- SEG packet i of a bolt (R585, R602). -/
def State.segPacket (s : State) (l i : Nat) (h : BoltHdr) (payload : List Byte) (cred : Nat) : List Byte :=
  let n := segPackets payload.length
  let body := if i = 0 then leBytes 16 h.nat ++ payload.take 224 else (payload.drop (224 + 240 * (i - 1))).take 240
  g1Packet 0x01 (b2n (i == 0) + 2 * b2n (i + 1 == n)) cred (body.length - 1) h.drank (s.selfId l) h.stream h.seq body

/-- A peer credit is used (R600). -/
def State.useCredit (s : State) (l : Nat) : State :=
  let x := tget {} s.legacy l
  s.setLegacy l { x with peerCredits := x.peerCredits - 1 }

/-- The first tack of the bridge that waits for link l at the head of an injection queue. -/
def State.bridgeTack (s : State) (l : Nat) : Option Cand :=
  (s.served (8 + l / 6)).find? (fun c => c.t.via == some l)

/-- G1_PACKET_SEND (R592, R600, R602, R604): with a peer credit, the next MSG or SEG packet of link l leaves. -/
def execG1PacketSend (l : Fin 12) (s : State) : Host.Outcome State Fault Refusal :=
  .next (
    let x := tget {} s.legacy l
    if s.linkProfile l == 2 && s.linkUp l && !s.fenced l && decide (0 < x.peerCredits) then
      match x.txq with
      | p :: rest => ((s.setLegacy l { x with txq := rest }).useCredit l).g1Send l (fun n => g1Packet 0x02 0 n (leAt p 3 1) (leAt p 4 2) (leAt p 6 2)
          (leAt p 8 2) 0 (slice p 12 240))
      | [] =>
        match s.bridgeTack l with
        | some c =>
          let s := ((s.takeCand (8 + (l : Nat) / 6) c none).giveBack c.t).incF TEL_LINK_TACK_TX [(l : Nat)] TEL_LINK_TACK_TX.COUNT 1
          (s.useCredit l).g1Send l (s.msgPacket l c.t.kind c.t.dunit c.t.dest (slice c.t.bytes 8 24))
        | none =>
          match x.store with
          | (h, payload, _, _) :: rest =>
            let last := x.sent + 1 == segPackets payload.length
            let s := (s.useCredit l).g1Send l (s.segPacket l x.sent h payload)
            let y := tget {} s.legacy l
            s.setLegacy l (if last then { y with store := rest, sent := 0 } else { y with sent := x.sent + 1 })
          | [] => s
    else s)

/-- G1_CREDIT_TIMER (R598): credits unreturned for 64 beats go out in a CREDIT packet. -/
def execG1CreditTimer (l : Fin 12) (s : State) : Host.Outcome State Fault Refusal :=
  .next (if s.linkProfile l == 2 && s.linkUp l && decide (0 < (tget {} s.legacy l).owed) then
    s.g1Send l (fun n => g1Packet 0x03 0 n 0 0 (s.selfId l) 0 0 [])
  else s)

/-! ### Receiving on G1 -/

/-- A credit violation (R601): CRED_OVF, and a framed retrain. -/
def State.credOvf (s : State) (l : Nat) : State :=
  (s.setLogged (8 + l / 6) LNK_LGC_EVENT (lnk l) LNK_LGC_EVENT.CRED_OVF).linkRetrain l false

/-- CRED of an arriving packet (R600, R601). -/
def State.takeCredits (s : State) (l : Nat) (p : List Byte) : State :=
  let x := tget {} s.legacy l
  let n := x.peerCredits + leAt p 2 1
  let s := s.setLegacy l { x with peerCredits := min 255 n }
  if 255 < n then s.credOvf l else s

/-- A packet other than CREDIT arrives (R598, R600, R601): all linens in use is a violation; a bad CRC returns its linen at once; else it
takes a linen, and `f` acts on it. -/
def State.g1Arrive (s : State) (l : Nat) (p : List Byte) (bad f : State → State) : State :=
  let x := tget {} s.legacy l
  if s.linkProfile l ≠ 2 ∨ !s.linkUp l then s
  else if 64 ≤ x.used then s.credOvf l
  else if !g1Ok p then bad (s.setLegacy l { x with owed := x.owed + 1 })
  else
    let s := (s.setLegacy l { x with used := x.used + 1 }).incF LNK_LGC_RX (lnk l) LNK_LGC_RX.COUNT 1
    let s := s.takeCredits l p
    if s.linkUp l then f s else s

/-- SEG_LOST (R603, R614). -/
def State.segLost (s : State) (l : Nat) : State := s.setLogged (8 + l / 6) LNK_LGC_EVENT (lnk l) LNK_LGC_EVENT.SEG_LOST

/-- The open inbound bolt of link l is discarded (R603): its linens are freed, and the peer gets a SNAG message for it. -/
def State.discardSegs (s : State) (l : Nat) : State :=
  let x := tget {} s.legacy l
  let h := BoltHdr.ofNat (leAt (x.segs.headD []) 12 16)
  let pay := leBytes 2 h.stream ++ leBytes 2 h.seq ++ leBytes 8 1 ++ leBytes 1 0 ++ leBytes 1 0 ++ leBytes 2 s.rank ++ leBytes 8 0
  let msg := s.msgPacket l 2 (8 + h.stream / 2 ^ 11 % 2) (s.peerLid l) pay 0
  let s := s.setLegacy l { x with segs := [], segBad := false, txq := x.txq ++ [msg] }
  (s.freeCredits l x.segs.length).segLost l

/-- The open inbound bolt is complete (R585, R593, R603, R567): it waits for its take. -/
def State.completeSegs (s : State) (l : Nat) : State :=
  let x := tget {} s.legacy l
  let m := 8 + l / 6
  let all := x.segs.flatMap (fun p => slice p 12 (leAt p 3 1 + 1))
  let h := s.legacyIn l (BoltHdr.ofNat (leAt all 0 16))
  let payload := slice all 16 h.bytes
  let n := x.segs.length
  let s := s.setLegacy l { x with segs := [], segBad := false }
  if all.length < 16 + h.bytes ∨ segPackets h.bytes ≠ n then (s.freeCredits l n).setBit LNK_LGC_EVENT (lnk l) LNK_LGC_EVENT.OVERSIZE
  else if s.fenced l then (s.freeCredits l n).fenceCount m false
  else if !s.sliceValid then (s.freeCredits l n).sliceBadM m
  else { s with score := { s.score with landed := s.score.landed ++ [⟨l, h, payload, crc32c payload, false, false⟩] } }

/-- A good SEG packet (R603). -/
def State.segArrives (s : State) (l : Nat) (p : List Byte) : State :=
  let fl := leAt p 1 1
  let first := fl % 2 == 1
  let s := if first && !(tget {} s.legacy l).segs.isEmpty then s.discardSegs l else s
  let x := tget {} s.legacy l
  if !first && x.segs.isEmpty then (s.freeCredits l 1).segLost l
  else
    let s := s.setLegacy l { x with segs := x.segs ++ [p] }
    if fl / 2 % 2 = 1 then (if x.segBad then s.discardSegs l else s.completeSegs l) else s

/-- G1_SEG_RECEIVE (R585, R593, R597, R598, R600, R601, R603). -/
def execG1SegReceive (l : Fin 12) (packet : List Byte) (s : State) : Host.Outcome State Fault Refusal :=
  .next (s.g1Arrive l packet
    (fun s =>
      let x := tget {} s.legacy l
      if x.segs.isEmpty then s else s.setLegacy l { x with segBad := true })
    (fun s => s.segArrives l packet))

/-- A MSG packet cannot be translated (R605). -/
def State.untranslatable (s : State) (l : Nat) : State := s.setLogged (8 + l / 6) LNK_LGC_EVENT (lnk l) LNK_LGC_EVENT.UNTRANSLATABLE

/-- G1_MSG_RECEIVE (R528, R562, R567, R585, R586, R598, R601, R605). -/
def execG1MsgReceive (l : Fin 12) (packet : List Byte) (s : State) : Host.Outcome State Fault Refusal :=
  .next (s.g1Arrive l packet id (fun s =>
    let s := s.freeCredits l 1
    let m := 8 + (l : Nat) / 6
    let kind := leAt packet 8 1 % 16
    let pay := slice packet 12 24
    let dunit := if kind = 1 ∨ kind = 2 then 8 + leAt pay 0 2 / 2 ^ 11 % 2 else leAt packet 8 1 / 16
    if kind = 0 ∨ 9 < kind ∨ leAt packet 3 1 ≠ 23 ∨ 12 ≤ dunit ∨ !s.hasDie dunit then s.untranslatable l
    else if s.fenced l then s.fenceCount m false
    else if !s.bit TCK_GRID [m] TCK_GRID.VALID then s.dropTack m TCK_DROPS.GRID
    else if !s.sliceValid then ((s.dropTack m TCK_DROPS.SLICE).setBit TCK_MFAULT [m] TCK_MFAULT.SLICE_BAD).setLogged m RNK_EVENT [m] RNK_EVENT.NO_SLICE
    else
      let bs := s.legacyTack (withChk (tackHeader 0 0 (m - 8) dunit kind ++ pay))
      (s.deliverIn { bytes := bs, src := none, token := none, sect := none, mangle := m, via := none }).incF TEL_LINK_TACK_RX [(l : Nat)]
        TEL_LINK_TACK_RX.COUNT 1))

/-- G1_CREDIT_RECEIVE (R600, R601). -/
def execG1CreditReceive (l : Fin 12) (packet : List Byte) (s : State) : Host.Outcome State Fault Refusal :=
  .next (if s.linkProfile l == 2 && s.linkUp l && g1Ok packet then
    (s.incF LNK_LGC_RX (lnk l) LNK_LGC_RX.COUNT 1).takeCredits l packet
  else s)

/-- G1_INIT_RECEIVE (R437, R596, R598 to R600): the peer's node and its grant. An INIT on a link that is UP shows that the peer has left
UP: this end goes back to WAKE (DEDUCED, log entry 23). -/
def execG1InitReceive (l : Fin 12) (packet : List Byte) (s : State) : Host.Outcome State Fault Refusal :=
  .next (
    if s.linkProfile l ≠ 2 ∨ !g1Ok packet then s
    else if s.linkUp l then (s.incF LNK_LGC_RX (lnk l) LNK_LGC_RX.COUNT 1).linkLeave l 1
    else if 3 ≤ s.linkState l ∧ s.linkState l ≤ 5 then
      let s := (s.incF LNK_LGC_RX (lnk l) LNK_LGC_RX.COUNT 1).setF LNK_PEER (lnk l) LNK_PEER.CHIP (leAt packet 6 2 % 4096)
      let x := tget {} s.legacy l
      (s.setLegacy l { x with peerCredits := leAt packet 2 1, initRx := true }).g1Admit l
    else s)

/-- A write to LNK_LGC_ID (R612); a link that runs profile N ignores it. -/
def State.writeLgcId (s : State) (l : Nat) (v : Word) : State :=
  let valid := bitOf v 31
  if s.linkProfile l = 0 then s
  else if s.busyTempo || (valid && (decide (16384 ≤ v.toNat % 65536) || (s.linkProfile l == 2 && v.toNat / 2 ^ 28 % 4 != 0))) then
    s.setBit LNK_LGC_EVENT (lnk l) LNK_LGC_EVENT.CFG_IGNORED
  else s.setReg LNK_LGC_ID (lnk l) (v &&& LNK_LGC_ID.bitsOf .rw)

/-- LNK_LGC_ID_WRITE (R582, R612). -/
def execLnkLgcIdWrite (l : Fin 12) (data : BitVec 32) (s : State) : Host.Outcome State Fault Refusal :=
  .next (if s.regGone LNK_LGC_ID (lnk l) then s.goneAccess LNK_LGC_ID (lnk l) true else s.writeLgcId l (data.setWidth 64))

end Sys2Proof.Machine
end

