-- ==== Sys2Proof/Machine/NoticeOps.lean ====
section
/-! DEFINITION. The notice units: which exist, the level each one watches, and an update (section 4 of 17_books_notices.md). -/

namespace Sys2Proof.Machine

/-- The tempo-source link, or its backup, is configured (R143). -/
def State.refConfigured (s : State) : List (Fld × Bool) :=
  if s.bit CLK_FWD_CFG [] CLK_FWD_CFG.MODE then
    [(CLK_REF_STATUS.SRC_QUAL, true), (CLK_REF_STATUS.BACKUP_QUAL, s.bit CLK_FWD_CFG [] CLK_FWD_CFG.BACKUP_VALID)]
  else
    [(CLK_REF_STATUS.A_QUAL, s.bit CLK_REF_CFG [] CLK_REF_CFG.A_EN),
     (CLK_REF_STATUS.B_QUAL, s.bit CLK_REF_CFG [] CLK_REF_CFG.B_EN)]

/-- The level of unit 0: 2 in holdover, else how many configured sources are not qualified (R143). -/
def State.refLevel (s : State) : Nat :=
  if s.getF CLK_REF_STATUS [] CLK_REF_STATUS.ACTIVE = 4 then 2
  else (s.refConfigured.filter (fun x => x.2 && !s.bit CLK_REF_STATUS [] x.1)).length

/-- Unit u exists on this part (R807, R808). -/
def State.noticeHas (s : State) (u : Nat) : Bool :=
  decide (u < 8) || (decide (16 ≤ u) && decide (u < 32) && s.hasDie 11) || (decide (64 ≤ u) && decide (u < 128))

/-- The level that a unit watches now, where the package has it (R807). A software unit watches what was written. -/
def State.noticeLevel (s : State) (u : Nat) : Nat :=
  if u = 0 then s.refLevel
  else if u = 1 ∨ u = 2 then s.getF LIN_POOL [u + 7] LIN_POOL.ALLOC + s.getF LIN_POOL [u + 7] LIN_POOL.TRANSIT
  else if u = 3 ∨ u = 4 then s.getF BLT_DARN [u + 5] BLT_DARN.HELD
  else if u = 5 ∨ u = 6 then s.tackFill (u + 3)
  else if u = 7 then (s.getF EVA_WR [] EVA_WR.INDEX + 2 ^ 32 - s.getF EVA_RD [] EVA_RD.INDEX) % 2 ^ 32
  else if 16 ≤ u ∧ u < 32 then s.ethFill (u - 16)
  else s.getF NTC_LEVEL [u] NTC_LEVEL.LEVEL

/-- One update of unit u (R810): PEAK, then a crossing, then a re-arm, then LEVEL. CROSSED is logged (R811); E0's units begin and end
XOFF (R722). -/
def State.noticeUpdate (s : State) (u cur mx mn : Nat) : State :=
  if s.noticeHas u && !s.dieInReset 10 then
    let s := s.peakF NTC_PEAK [u] NTC_PEAK.PEAK mx
    let crossed := s.bit NTC_STATUS [u] NTC_STATUS.ARMED && decide (s.getF NTC_MARKS [u] NTC_MARKS.HIGH ≤ mx)
    let low := decide (mn ≤ s.getF NTC_MARKS [u] NTC_MARKS.LOW)
    let s := if crossed then
        (((s.setLogged 10 NTC_STATUS [u] NTC_STATUS.CROSSED).incF NTC_STATUS [u] NTC_STATUS.UPCOUNT 1).setF
          NTC_STATUS [u] NTC_STATUS.ARMED 0).edge (640 + u)
      else s
    let s := if !s.bit NTC_STATUS [u] NTC_STATUS.ARMED && low then
        (s.setBit NTC_STATUS [u] NTC_STATUS.ARMED).setBit NTC_STATUS [u] NTC_STATUS.FELL
      else s
    let s := s.setF NTC_LEVEL [u] NTC_LEVEL.LEVEL cur
    if 16 ≤ u ∧ u < 32 then s.ethNotice (u - 16) crossed low else s
  else s

end Sys2Proof.Machine
end

