-- ==== Sys2Proof/Machine/Notices.lean ====
section
/-! DEFINITION. The events and register accesses of the notice units (R809 to R815). -/

namespace Sys2Proof.Machine

/-- NOTICE_UPDATE (R809, R810): an update of a unit whose level the package has; `mx` and `mn` are the extremes since the last one. -/
def execNoticeUpdate (u : Fin 128) (mx mn : Nat) (s : State) : Host.Outcome State Fault Refusal :=
  .next (
    let cur := s.noticeLevel u
    if (u : Nat) = 0 ∨ (u : Nat) = 7 then s.noticeUpdate u cur cur cur
    else if (u : Nat) < 64 then s.noticeUpdate u cur (max cur mx) (min cur mn)
    else s)

/-- A write to NTC_MARKS: of the whole register, or of its low or high half (R812). -/
def State.writeMarks (s : State) (u half : Nat) (v : Word) : State :=
  if s.noticeHas u then
    let old := s.reg NTC_MARKS [u]
    let new := if half = 0 then v else if half = 1 then fset old NTC_MARKS.LOW v.toNat else fset old NTC_MARKS.HIGH v.toNat
    if fget new NTC_MARKS.HIGH ≤ fget new NTC_MARKS.LOW then s.setBit NTC_STATUS [u] NTC_STATUS.CFG_IGNORED
    else
      let l := s.getF NTC_LEVEL [u] NTC_LEVEL.LEVEL
      (s.setReg NTC_MARKS [u] new).noticeUpdate u l l l
  else s

/-- NTC_MARKS_WRITE (R812). -/
def execNtcMarksWrite (u : Fin 128) (half : Fin 3) (v : Word) (s : State) : Host.Outcome State Fault Refusal :=
  .next (if s.dieInReset 10 then s else s.writeMarks u half v)

/-- A write to NTC_LEVEL is an update of a software unit (R809); others ignore it. -/
def State.writeLevel (s : State) (u : Nat) (v : Nat) : State := if 64 ≤ u then s.noticeUpdate u v v v else s

/-- NTC_LEVEL_WRITE (R809). -/
def execNtcLevelWrite (u : Fin 128) (v : BitVec 32) (s : State) : Host.Outcome State Fault Refusal := .next (if s.dieInReset 10 then s else s.writeLevel u v.toNat)

/-- A read of NTC_PEAK returns the peak, which restarts from the next update (R813). -/
def State.readPeak (s : State) (u : Nat) : State :=
  let v := s.reg NTC_PEAK [u]
  let s := { s with front := { s.front with readData := if s.noticeHas u then v else 0 } }
  s.clrReg NTC_PEAK [u]

/-- NTC_PEAK_READ (R813). -/
def execNtcPeakRead (u : Fin 128) (s : State) : Host.Outcome State Fault Refusal := .next (if s.dieInReset 10 then { s with front := { s.front with readData := 0 } } else s.readPeak u)

/-- UP_CLR sets UPCOUNT to 0 (NTC_CTRL). -/
def State.clrUpcount (s : State) (u : Nat) : State := if s.noticeHas u then s.setF NTC_STATUS [u] NTC_STATUS.UPCOUNT 0 else s

/-- UP_CLR (R815). -/
def execUpClr (u : Fin 128) (s : State) : Host.Outcome State Fault Refusal := .next (if s.dieInReset 10 then s else s.clrUpcount u)

end Sys2Proof.Machine
end

