-- ==== Sys2Proof/Machine/PressCtl.lean ====
section
/-! DEFINITION. Pausing and resuming Presses, their counters, bank gating and Board debug access (04_press.md, sections 4,
6.4 and 7). -/

namespace Sys2Proof.Machine

/-- SECTION_PAUSED (R211, R212): a draining section has retired what it issued and reaches PAUSED; inside a strip, SCT_TSTART
names the first row that is not complete. -/
def execSectionPaused (p : Fin 256) (k : Fin 4) (s : State) : Host.Outcome State Fault Refusal :=
  .next (
    let x := s.sect p k
    if x.st == .pausing && !s.shortMmas p k then
      ((s.stripStart p k).setSect p k { x with st := .paused, wait := .none }).pauseReached p
    else s)

/-- PRS_CTRL.PAUSE is set (R210). -/
def State.setPause (s : State) (p : Nat) : State :=
  ((s.setBit PRS_CTRL (pix p) PRS_CTRL.PAUSE).setPrs p { s.prs p with resumeAfter := false }).pausePress p

/-- PRS_CTRL.PAUSE is cleared (R213, R214); SCORE_STOP's own pause stays (R328). -/
def State.clearPause (s : State) (p : Nat) : State :=
  let s := s.setF PRS_CTRL (pix p) PRS_CTRL.PAUSE 0
  if s.pausing p then s
  else if (List.range 4).any (fun k => (s.sect p k).st == .pausing) then s.setPrs p { s.prs p with resumeAfter := true }
  else s.resumePress p

/-- PRS_CTRL.CNT_CLR: the stall counters of the Press and of its sections return to 0. -/
def State.clrPressCounts (s : State) (p : Nat) : State :=
  let s := ((s.setReg PRS_BOARD_STALLS (pix p) 0).setReg PRS_HOLD_STALLS (pix p) 0).setReg PRS_HOLD_FULL (pix p) 0
  (List.range 4).foldl (fun s k => (s.setReg SCT_BANK_STALLS (six p k) 0).setReg SCT_WAKES (six p k) 0) s

/-- PAUSE_REQUEST (R210): PRS_CTRL.PAUSE is set on Press p. -/
def execPauseRequest (p : Fin 256) (s : State) : Host.Outcome State Fault Refusal :=
  .next (if s.regGone PRS_CTRL (pix p) then s.goneAccess PRS_CTRL (pix p) true else s.setPause p)

/-- RESUME (R213, R214): PRS_CTRL.PAUSE is cleared on Press p. -/
def execResume (p : Fin 256) (s : State) : Host.Outcome State Fault Refusal :=
  .next (if s.regGone PRS_CTRL (pix p) then s.goneAccess PRS_CTRL (pix p) true else s.clearPause p)

/-- PRS_CNT_CLR (R194, PRS_CTRL.CNT_CLR). -/
def execPrsCntClr (p : Fin 256) (s : State) : Host.Outcome State Fault Refusal :=
  .next (if s.regGone PRS_CTRL (pix p) then s.goneAccess PRS_CTRL (pix p) true else s.clrPressCounts p)

/-- A write to SCT_TSTART takes effect only while its section is PAUSED (R215). -/
def State.writeTstart (s : State) (p k row : Nat) : State :=
  if (s.sect p k).st == .paused then s.setF SCT_TSTART (six p k) SCT_TSTART.ROW row else s

/-- TSTART_WRITE (R215). -/
def execTstartWrite (p : Fin 256) (k : Fin 4) (row : BitVec 8) (s : State) : Host.Outcome State Fault Refusal :=
  .next (if s.regGone SCT_TSTART (six p k) then s.goneAccess SCT_TSTART (six p k) true else s.writeTstart p k row.toNat)

/-- BANK_WAKE_DONE (R184, R185): pair i is awake, and an instruction that waits for no other pair proceeds. -/
def execBankWakeDone (p : Fin 256) (k : Fin 4) (i : Fin 8) (s : State) : Host.Outcome State Fault Refusal :=
  .next (
    if s.waking p k i then
      let s := s.setF SCT_BANKMASK (six p k) SCT_BANKMASK.WAKING (s.getF SCT_BANKMASK (six p k) SCT_BANKMASK.WAKING - 2 ^ (i : Nat))
      let x := s.sect p k
      if x.st == .waiting && x.wait == .wake then
        match s.partAt p k with
        | some (n, pw) => if pw.i.tiles.any (fun t => s.waking p k (pairOf t)) then s else s.tileEffect p k n 0 pw.i
        | none => s
      else s
    else s)

/-- GATE_TAKES_EFFECT (R186): a GATE bit set earlier is in force once no instruction waits for its pair. -/
def execGateTakesEffect (p : Fin 256) (k : Fin 4) (i : Fin 8) (s : State) : Host.Outcome State Fault Refusal :=
  .next (
    let x := s.sect p k
    let pendingAccess := x.wait == .wake && (match s.partAt p k with
      | some (_, pw) => pw.i.tiles.any (fun t => pairOf t == (i : Nat))
      | none => false)
    if x.gatePend.testBit i && !pendingAccess then
      s.setSect p k { x with gatePend := x.gatePend - 2 ^ (i : Nat) }
    else s)

/-- The debug lock is open (R205): SM_DEBUG. -/
def State.debugOpen (s : State) : Bool := s.bit SM_DEBUG [] SM_DEBUG.LOCKED == false

/-- PRS_BOARD_ADDR advances by 8, wrapping at the end of the Board, unless only the lower half was accessed (R204, R219). -/
def State.advanceBoard (s : State) (p : Nat) (lower : Bool) : State :=
  if lower then s
  else s.setF PRS_BOARD_ADDR (pix p) PRS_BOARD_ADDR.ADDR (s.getF PRS_BOARD_ADDR (pix p) PRS_BOARD_ADDR.ADDR + 1)

/-- A read of PRS_BOARD_DATA from byte `lo` of the register, `n` bytes (R204, R205, R219). -/
def State.boardDebugRead (s : State) (p lo n : Nat) : State × Nat :=
  let a := 8 * s.getF PRS_BOARD_ADDR (pix p) PRS_BOARD_ADDR.ADDR
  let last := lo + n < 8
  if s.debugOpen then (s.advanceBoard p last, leNat (s.readBoard p (a + lo) n))
  else ((s.setBit PRS_STATUS (pix p) PRS_STATUS.DBG_DENIED).advanceBoard p last, 0)

/-- A write of PRS_BOARD_DATA (R204 to R206, R219). -/
def State.boardDebugWrite (s : State) (p lo : Nat) (bs : List Byte) : State :=
  let a := 8 * s.getF PRS_BOARD_ADDR (pix p) PRS_BOARD_ADDR.ADDR
  let last := lo + bs.length < 8
  let s := if !s.debugOpen then s.setBit PRS_STATUS (pix p) PRS_STATUS.DBG_DENIED
    else if s.heldRange p (a + lo) bs.length then s.setBit PRS_STATUS (pix p) PRS_STATUS.DBG_HELD
    else s.writeBoard p (a + lo) bs
  s.advanceBoard p last

/-- The first byte and the count that an access of the whole register, its lower or its upper half moves (R22). -/
def halfLo (half : Nat) : Nat := if half = 2 then 4 else 0
def halfLen (half : Nat) : Nat := if half = 0 then 8 else 4

/-- BOARD_DEBUG_READ (R204, R205, R219): what it reads is in `Front.readData`. -/
def execBoardDebugRead (p : Fin 256) (half : Fin 3) (s : State) : Host.Outcome State Fault Refusal :=
  .next (
    let r := if s.regGone PRS_BOARD_DATA (pix p) then (s.goneAccess PRS_BOARD_DATA (pix p) false, 0)
      else s.boardDebugRead p (halfLo half) (halfLen half)
    { r.1 with front := { r.1.front with readData := BitVec.ofNat 64 r.2 } })

/-- BOARD_DEBUG_WRITE (R204 to R206, R219). -/
def execBoardDebugWrite (p : Fin 256) (half : Fin 3) (data : Word) (s : State) : Host.Outcome State Fault Refusal :=
  .next (
    if s.regGone PRS_BOARD_DATA (pix p) then s.goneAccess PRS_BOARD_DATA (pix p) true
    else s.boardDebugWrite p (halfLo half) (leBytes (halfLen half) data.toNat))

end Sys2Proof.Machine
end

