-- ==== Sys2Proof/Machine/SmServices.lean ====
section
/-! DEFINITION. What the security module answers: SM_SESSION_OPEN, the services of SM_SERVICE, and ZEROIZE (19_security.md, sections 4, 5 and
7). Each function gives the state after, the status and the result bytes. -/

namespace Sys2Proof.Machine

/-- What a request to the module yields: the state after it, its status and its result bytes. -/
abbrev SmOut := State × Nat × List Byte

/-- The number of a transport (R873, SM_MBOX_CTRL). -/
def viaNum : Via → Nat
  | .H => 0
  | .C => 1
  | .S => 2
  | .P => 3

/-! ### Sessions -/

/-- The message M that a RESPOND signs (R873). -/
def State.challengeMsg (s : State) (x : Challenge) : List Byte :=
  leBytes 8 (s.reg GLB_SERIAL []).toNat ++ leBytes 4 x.id ++ x.nonce ++ leBytes 1 x.role ++ leBytes 1 (viaNum x.via) ++ leBytes 1 x.key

/-- The key of a role (R873): a Crypto Officer's, or User key slot `k`; none where it is not provisioned (DEDUCED, log entry 65). -/
def State.roleKey (s : State) (role k : Nat) : Option (List Byte) :=
  let key := if role = 2 then s.fuses.coKey.getD k [] else tget [] s.sm.store.userKeys k
  if key.isEmpty ∨ (role = 2 ∧ s.fuses.coDigest.getD k [] ≠ Config.sha384 key) then none else some key

/-- CHALLENGE (R872): a nonce is drawn; a fifth challenge of a transport replaces its oldest. -/
def State.challenge (s : State) (via : Via) (role key : Nat) : SmOut :=
  let x : Challenge := { via := via, id := s.freeNat 32, role := role, key := key, nonce := s.drbgBytes 12 }
  let mine := s.sm.challenges.filter (fun y => y.via == via)
  let l := if 4 ≤ mine.length then dropFirst (fun y => y.via == via) s.sm.challenges else s.sm.challenges
  ((s.useFree 12).setSm { s.sm with challenges := l ++ [x] }, stOk, leBytes 4 x.id ++ x.nonce)

/-- A RESPOND whose signature fails (R875): the eighth in a row locks the transport out. -/
def State.authFail (s : State) (via : Via) : State :=
  let n := tget 0 s.sm.fails (viaNum via) + 1
  let s := s.smEvent SM_EVENT.AUTH_FAIL
  if 8 ≤ n then s.setSm { s.sm with fails := tput 0 s.sm.fails (viaNum via) 0, locked := s.sm.locked ++ [via] }
  else s.setSm { s.sm with fails := tput 0 s.sm.fails (viaNum via) n }

/-- The slot of a session handle (R876). -/
def Session.slot (x : Session) : Nat := x.handle.toNat % 16

/-- A session opens (R874, R876), in one of the free slots (DEDUCED, log entry 64). -/
def State.openSession (s : State) (via : Via) (role : Nat) : SmOut :=
  let free := (List.range 16).filter (fun i => !s.sm.sessions.any (fun x => x.slot == i))
  let slot := free.getD (s.freeNat 8 % free.length) 0
  let bits := leNat (s.drbgBytes 4) % 2 ^ 28
  let h := slot + 16 * (if slot = 0 ∧ bits = 0 then 1 else bits)
  let x : Session := { handle := BitVec.ofNat 32 h, role := if role = 2 then .officer else .user, via := via }
  ((s.useFree 4).setSm { s.sm with sessions := s.sm.sessions ++ [x] }, stOk, leBytes 4 h ++ leBytes 1 role)

/-- SM_SESSION_OPEN (R871 to R876) (DEDUCED, log entry 64) (DEDUCED, log entry 68). -/
def State.smSessionOpen (s : State) (c : Cmd) : SmOut :=
  let phase := c.par 0 1
  let role := c.par 1 1
  let key := c.par 2 1
  let id := c.par 4 4
  let full := 16 ≤ s.sm.sessions.length
  if (phase ≠ 1 ∧ phase ≠ 2) ∨ (role ≠ 1 ∧ role ≠ 2) ∨ (if role = 2 then 1 else 15) < key ∨ !c.parZero 3 1 ∨ !c.parZero 8 8 ∨ c.session ≠ 0 ∨
      c.inlineLen ≠ (if phase = 1 then 0 else 96) then (s, stBadParam, [])
  else if s.sm.locked.contains c.via ∨ s.smState ≠ 3 then (s, stBusy, [])
  else if phase = 1 then (if full then (s, stResource, []) else s.challenge c.via role key)
  else match s.sm.challenges.find? (fun x => x.via == c.via && x.id == id) with
    | none => (s, stNotAuthorized, [])
    | some x =>
      let s := s.setSm { s.sm with challenges := dropFirst (fun y => y == x) s.sm.challenges }
      if x.role ≠ role ∨ x.key ≠ key then (s, stNotAuthorized, [])
      else match s.roleKey role key with
        | none => (s, stNotAuthorized, [])
        | some pub =>
          if !Config.ecdsaVerifies pub (s.challengeMsg x) c.inl then (s.authFail c.via, stNotAuthorized, [])
          else
            let s := s.setSm { s.sm with fails := tput 0 s.sm.fails (viaNum c.via) 0 }
            if full then (s, stResource, []) else s.openSession c.via role

/-! ### Keys -/

/-- SM_STATUS as it reads: SESSIONS counts the open ones. -/
def State.smStatus (s : State) : Word := fset (s.reg SM_STATUS []) SM_STATUS.SESSIONS s.sm.sessions.length

/-- SM_ROLLBACK as it reads. -/
def State.smRollback (s : State) : Word :=
  let w := fset (fset (fset 0 SM_ROLLBACK.SM_SVN s.fuses.smSvn) SM_ROLLBACK.FW_SVN s.fuses.fwSvn) SM_ROLLBACK.ROOT_REVOKED s.fuses.rootRevoked
  fset w SM_ROLLBACK.CO_FUSED (b2n (s.coFused 0) + 2 * b2n (s.coFused 1))

/-- A key comes into one of the empty slots (R882, R883), and into the store when it persists; its handle. -/
def State.fillKey (s : State) (typ flags : Nat) (key : List Byte) : State × Nat :=
  let free := (List.range 64).filter (fun i => (s.keySlot i).typ == 0)
  let i := free.getD (s.freeNat 8 % free.length) 0
  let k : KeySlot :=
    { typ := typ, gen := ((s.keySlot i).gen + 1) % 65536, persist := flags.testBit 0, coOnly := flags.testBit 1
      bound := if typ = 3 then s.sliceId else 0, key := key, uses := 0 }
  let s := s.useFree 1
  let s := s.setSm { s.sm with keys := tput {} s.sm.keys i k }
  let s := if k.persist then s.setSm { s.sm with store := { s.sm.store with keys := s.sm.store.keys.filter (fun e => e.1 != i) ++ [(i, k)] } } else s
  (s, k.handle i)

/-- No room for a new key (R887, R898): 64 slots full, or PERSIST with the store exhausted (DEDUCED, log entry 67). -/
def State.noKeyRoom (s : State) (flags : Nat) : Bool :=
  (List.range 64).all (fun i => (s.keySlot i).typ != 0) || (flags.testBit 0 && s.fuses.bank == 8)

/-- The key that a service may use by a handle: valid, of type `typ` (0 for any), usable by the session (R882, R883). -/
def State.usable (s : State) (c : Cmd) (h typ : Nat) : Option (Nat × KeySlot) :=
  match s.keyOf h with
  | some x => if (typ = 0 ∨ x.2.typ = typ) ∧ s.mayUse c x.2 then some x else none
  | none => none

/-- The OFFSET and the bytes of SLICE_WRAP and SLICE_UNWRAP, with their IV and tag. -/
def wrapOff (c : Cmd) : Nat := c.par 6 8
def wrapLen (c : Cmd) : Nat := c.par 14 2 * 1024

/-- A range of job HBM (R355, R887). -/
def State.jobHbm (s : State) (off n : Nat) : Bool := decide (off + n ≤ 0x0030_0000_0000) && s.rangeMapped off n && !touchesCarve off n

/-- Parameter bytes that a service uses, from byte 2 on, and its inline length (R886); none for an unknown service. -/
def svcShape (c : Cmd) : Option (Nat × Nat) :=
  let keyInl := if c.par 3 1 = 0 then 0 else 96
  match c.par 0 1 with
  | 0x01 => some (0, 0)
  | 0x02 => some (0, 0)
  | 0x03 => some (0, 0)
  | 0x10 => some (1, 0)
  | 0x11 => some (1, 32)
  | 0x12 => some (5, 40)
  | 0x13 => some (4, 0)
  | 0x14 => some (4, 0)
  | 0x20 => some (14, 0)
  | 0x21 => some (14, 0)
  | 0x30 => some (2, keyInl)
  | 0x31 => some (3, 0)
  | 0x32 => some (2, keyInl)
  | 0x33 => some (0, 0)
  | 0x34 => some (1, 96)
  | 0x35 => some (1, 0)
  | 0x40 => some (0, 0)
  | 0x41 => some (0, 0)
  | _ => none

/-- The BAD_PARAM cases of R887. -/
def State.svcBad (s : State) (c : Cmd) : Bool :=
  let svc := c.par 0 1
  let flags := c.par 1 1
  let a := c.par 2 1
  match svcShape c with
  | none => true
  | some (n, inl) =>
    decide (8 ≤ flags) || !c.parZero (2 + n) (14 - n) || c.inlineLen != inl ||
    ((svc == 0x10 || svc == 0x12) && (a == 0 || decide (3 < a) || (a == 3 && flags.testBit 0))) ||
    (svc == 0x11 && (a == 0 || decide (2 < a))) ||
    (svc == 0x30 && (decide (7 < a) || decide (1 < c.par 3 1))) ||
    (svc == 0x31 && decide (1 < a)) ||
    (svc == 0x32 && (decide (15 < a) || decide (1 < c.par 3 1))) ||
    (svc == 0x34 && decide (1 < a)) || (svc == 0x35 && decide (3 < a)) ||
    ((svc == 0x20 || svc == 0x21) &&
      (c.par 14 2 == 0 || decide (64 < c.par 14 2) || !s.jobHbm (wrapOff c) (wrapLen c + 28)))

/-- The service uses or makes a key (DEDUCED, log entry 67). -/
def keyService (svc : Nat) : Bool := (decide (0x10 ≤ svc) && decide (svc ≤ 0x14)) || svc == 0x20 || svc == 0x21

/-- The NOT_AUTHORIZED cases of R887, with R870 and R893. -/
def State.svcRefused (s : State) (c : Cmd) : Bool :=
  let svc := c.par 0 1
  (keyService svc && !s.bit SM_DEBUG [] SM_DEBUG.LOCKED) ||
  (svc == 0x11 && c.via == .H) ||
  (svc == 0x12 && (s.usable c (c.par 3 4) 2).isNone) ||
  ((svc == 0x13 || svc == 0x14) && (s.usable c (c.par 2 4) 0).isNone) ||
  ((svc == 0x20 || svc == 0x21) && (s.usable c (c.par 2 4) 3).isNone) ||
  (svc == 0x34 && (s.coFused (c.par 2 1) || (s.smState == 2 && (c.via == .H || c.session != 0)))) ||
  (svc == 0x35 && (c.par 2 1 == s.sm.runSmSlot || c.par 2 1 == s.sm.runFwSlot)) ||
  (svc == 0x40 && s.fuses.debugDisable)

/-! ### Services -/

/-- Replace the SM store. -/
def State.setStore (s : State) (x : SmStore) : State := s.setSm { s.sm with store := x }

/-- SELFTEST (R890, R892): tests 1 to 6 rerun, and a failure is a HARD_ERROR (DEDUCED, log entry 66). -/
def State.knownAnswers (s : State) (failed : Option Nat) : State :=
  match failed.filter (fun t => decide (1 ≤ t) && decide (t ≤ 6)) with
  | none => s.testsRun 0x7E 0
  | some t => (s.testsRun 0x7E (2 ^ t)).hardError (0x80 + t)

/-- SLICE_WRAP (R860, R888). -/
def State.sliceWrap (s : State) (i : Nat) (k : KeySlot) (off n : Nat) : SmOut :=
  let iv := slice (Config.wrapIv i k.gen k.uses) 0 12
  let e := Config.gcmEncrypt k.key iv (s.readMem off n)
  let s := s.writeMem off (slice e.1 0 n ++ iv ++ slice e.2 0 16)
  (s.setSm { s.sm with keys := tput {} s.sm.keys i { k with uses := k.uses + 1 } }, stOk, leBytes 8 k.uses)

/-- SLICE_UNWRAP (R888). -/
def State.sliceUnwrap (s : State) (k : KeySlot) (off n : Nat) : SmOut :=
  match Config.gcmDecrypt k.key (s.readMem (off + n) 12) (s.readMem off n) (s.readMem (off + n + 12) 16) with
  | some p => (s.writeMem off (slice p 0 n), stOk, [])
  | none => (s, stIntegrity, [])

/-- The key services (R882 to R888), once their checks have passed. -/
def State.runKeySvc (s : State) (c : Cmd) : SmOut :=
  let a := c.par 2 1
  let flags := c.par 1 1
  let make (key : List Byte) : SmOut :=
    if s.noKeyRoom flags then (s, stResource, [])
    else
      let r := s.fillKey a flags key
      (r.1, stOk, leBytes 4 r.2)
  match c.par 0 1 with
  | 0x10 =>
    if s.noKeyRoom flags then (s, stResource, [])
    else
      let r := (s.useFree 32).fillKey a flags (s.drbgBytes 32)
      (r.1, stOk, leBytes 4 r.2)
  | 0x11 => make c.inl
  | 0x12 => match s.usable c (c.par 3 4) 2 with
    | some kek => match Config.kwUnwrap kek.2.key c.inl with
      | some key => make (slice key 0 32)
      | none => if s.noKeyRoom flags then (s, stResource, []) else (s, stIntegrity, [])
    | none => (s, stNotAuthorized, [])
  | 0x13 => match s.usable c (c.par 2 4) 0 with
    | some x =>
      if x.2.typ = 1 ∧ s.sakUsed (c.par 2 4) then (s, stBusy, [])
      else
        let s := s.setSm { s.sm with keys := tput {} s.sm.keys x.1 { gen := x.2.gen } }
        (s.setStore { s.sm.store with keys := s.sm.store.keys.filter (fun e => e.1 != x.1) }, stOk, [])
    | none => (s, stNotAuthorized, [])
  | 0x14 => match s.usable c (c.par 2 4) 0 with
    | some x => (s, stOk, leBytes 1 x.2.typ ++ leBytes 1 (b2n x.2.persist + 2 * b2n x.2.coOnly) ++ leBytes 2 x.2.bound)
    | none => (s, stNotAuthorized, [])
  | op => match s.usable c (c.par 2 4) 3 with
    | some x => if op = 0x20 then s.sliceWrap x.1 x.2 (wrapOff c) (wrapLen c) else s.sliceUnwrap x.2 (wrapOff c) (wrapLen c)
    | none => (s, stNotAuthorized, [])

/-- The Crypto Officer services on the store, the fuses and the debug lock (R869, R870, R889, R902) (DEDUCED, log entry 69). -/
def State.runOfficerSvc (s : State) (c : Cmd) : SmOut :=
  let a := c.par 2 1
  let st := s.sm.store
  let pub := if c.par 3 1 = 1 then c.inl else []
  match c.par 0 1 with
  | 0x30 => (s.setStore { st with scoreKeys := tput [] st.scoreKeys a pub }, stOk, [])
  | 0x31 => ((s.setStore { st with scoreNone := a == 1, idleMin := max 1 (c.par 3 1), retestH := max 1 (c.par 4 1) }).loadPolicy, stOk, [])
  | 0x32 => (s.setStore { st with userKeys := tput [] st.userKeys a pub }, stOk, [])
  | 0x33 =>
    let f := { s.fuses with smSvn := min 64 (max s.fuses.smSvn s.sm.runSmSvn), fwSvn := min 64 (max s.fuses.fwSvn s.sm.runFwSvn) }
    ({ s with fuses := f }, stOk, leBytes 1 f.smSvn ++ leBytes 1 f.fwSvn)
  | 0x34 =>
    let f := { s.fuses with coDigest := s.fuses.coDigest.set a (Config.sha384 c.inl), coKey := s.fuses.coKey.set a c.inl }
    let s : State := { s with fuses := f }
    (s.setSmState (if s.smState = 2 ∧ a = 0 then 3 else s.smState), stOk, [])
  | 0x35 => ({ s with fuses := { s.fuses with rootRevoked := s.fuses.rootRevoked ||| 2 ^ a } }, stOk, [])
  | 0x40 =>
    let s := (s.zeroize false).setF SM_DEBUG [] SM_DEBUG.LOCKED 0
    let s := (s.setSm { s.sm with everUnlocked := true }).setF SM_STATUS [] SM_STATUS.DEBUG_UNLOCKED 1
    ((s.setF SM_STATUS [] SM_STATUS.APPROVED 0).smEvent SM_EVENT.DEBUG_UNLOCKED, stOk, [])
  | _ => ((s.setF SM_DEBUG [] SM_DEBUG.LOCKED 1).setF SM_STATUS [] SM_STATUS.DEBUG_UNLOCKED 0, stOk, [])

/-- A service whose checks have passed. -/
def State.runSvc (s : State) (c : Cmd) (failed : Option Nat) : SmOut :=
  match c.par 0 1 with
  | 0x01 => (s, stOk, leBytes 4 s.smStatus.toNat ++ leBytes 4 (s.reg SM_SELFTEST []).toNat)
  | 0x02 =>
    let s := s.knownAnswers failed
    (s, stOk, leBytes 4 (s.reg SM_SELFTEST []).toNat)
  | 0x03 => (s.setSm { s.sm with sessions := s.sm.sessions.filter (fun x => !(x.handle.toNat == c.session && x.via == c.via)) }, stOk, [])
  | op => if keyService op then s.runKeySvc c else s.runOfficerSvc c

/-- SM_SERVICE (R886, R887, R893, R895): the first status that applies, and the service indicator in result byte 15
(DEDUCED, log entry 68). -/
def State.smService (s : State) (c : Cmd) (failed : Option Nat) : SmOut :=
  let svc := c.par 0 1
  let r : SmOut :=
    if (s.smState = 4 ∨ s.smState = 5) ∧ svc ≠ 0x01 then (s, stNotAuthorized, [])
    else if s.svcBad c then (s, stBadParam, [])
    else if s.svcRefused c then (s, stNotAuthorized, [])
    else match (if svc = 0x20 ∨ svc = 0x21 then s.rangeAway (wrapOff c) (wrapLen c + 28) else none) with
      | some st => (s, st, [])
      | none => s.runSvc c failed
  if r.2.1 = stOk then (r.1, stOk, slice r.2.2 0 15 ++ [BitVec.ofNat 8 (b2n (r.1.bit SM_STATUS [] SM_STATUS.APPROVED))]) else r

/-- ZEROIZE (R896, R897); inline data, which it does not take, is BAD_LENGTH (R693). -/
def State.smZeroize (s : State) (c : Cmd) : SmOut :=
  if 2 ≤ c.par 0 1 ∨ !c.parZero 1 15 then (s, stBadParam, [])
  else if c.inlineLen ≠ 0 then (s, stBadLength, [])
  else (s.zeroize (c.par 0 1 == 1), stOk, [])

/-! ### The mailbox -/

/-- What the mailbox shows after a request (R880, R881): the slot, its transport, the completion, and DONE (DEDUCED, log entry 71). -/
def State.mbox (s : State) (c : Cmd) (st : Nat) (result : List Byte) : State :=
  let cp : Cpl := { via := c.via, ring := 0, tag := c.tag, opcode := c.opcode, status := st, phase := 0, head := 0, result := result }
  let s := (List.range 32).foldl (fun s i => s.setReg SM_MBOX_SLOT [i] (BitVec.ofNat 64 (leAt c.slot (8 * i) 8))) s
  let s := (List.range 4).foldl (fun s i => s.setReg SM_MBOX_CPL [i] (BitVec.ofNat 64 (leAt cp.bytes (8 * i) 8))) s
  (s.setF SM_MBOX_CTRL [] SM_MBOX_CTRL.TRANSPORT (viaNum c.via)).setBit SM_MBOX_CTRL [] SM_MBOX_CTRL.DONE

/-- A request that the firmware hands to the module answers its command. -/
def State.smAnswer (c : Cmd) (r : SmOut) : State := (r.1.mbox c r.2.1 r.2.2).complete c r.2.1 r.2.2

end Sys2Proof.Machine
end

