-- ==== Sys2Proof/Machine/Security.lean ====
section
/-! DEFINITION. The meanings of the security module's commands and events (19_security.md). -/

namespace Sys2Proof.Machine

/-- SM_SESSION_OPEN (R871 to R876). -/
def execSmSessionOpen (c : Cmd) (s : State) : Host.Outcome State Fault Refusal :=
  .next (s.runCmd c 0x0701 (fun s => State.smAnswer c (s.smSessionOpen c)))

/-- SM_SERVICE (R886 to R889, R902); a SELFTEST's outcome is `failed`, the first of tests 1 to 6 that fails. -/
def execSmService (c : Cmd) (failed : Option (Fin 11)) (s : State) : Host.Outcome State Fault Refusal :=
  .next (s.runCmd c 0x0702 (fun s => State.smAnswer c (s.smService c (failed.map (fun t => (t : Nat))))))

/-- ZEROIZE (R896, R897). -/
def execZeroize (c : Cmd) (s : State) : Host.Outcome State Fault Refusal :=
  .next (s.runCmd c 0x0703 (fun s => State.smAnswer c (s.smZeroize c)))

/-- ZEROIZE_N_LATCH (R899, R978): the request is latched, and a module that runs acts on it (DEDUCED, log entry 72). -/
def execZeroizeNLatch (s : State) : Host.Outcome State Fault Refusal :=
  .next (
    if !s.pins.vauxGood then s
    else
      let s := s.setSm { s.sm with zeroLatch := true }
      if s.fw.inCold ∨ s.smState < 2 then s else s.serveLatch)

/-- The transport of a number. -/
def viaOf (n : Nat) : Via := if n = 0 then .H else if n = 1 then .C else if n = 2 then .S else .P

/-- The module runs the mailbox slot (R880, R881). What it answers to an opcode other than its own three is a free value
(DEDUCED, log entry 71). -/
def State.mboxRun (s : State) (failed : Option Nat) : State :=
  let slot := (List.range 32).flatMap (fun i => leBytes 8 (s.reg SM_MBOX_SLOT [i]).toNat)
  let c : Cmd := { via := viaOf (s.getF SM_MBOX_CTRL [] SM_MBOX_CTRL.TRANSPORT), ring := 0, slot := slot }
  if c.opcode = 0x0701 ∨ c.opcode = 0x0702 ∨ c.opcode = 0x0703 then
    let r := if !s.sessionOk c then (s, stNotAuthorized, []) else if c.opcode = 0x0701 then s.smSessionOpen c
      else if c.opcode = 0x0702 then s.smService c failed else s.smZeroize c
    r.1.mbox c r.2.1 r.2.2
  else (s.useFree 1).mbox c (s.freeNat 8) []

/-- A write to SM_MBOX_CTRL by a core in M mode (R880, R881): DONE clears, and GO runs the slot; `failed` is the self-test that fails, if one does. -/
def State.mboxCtrl (s : State) (w : Who) (v : Word) (failed : Option Nat) : State :=
  if Who.mMode w then
    let s := if bitOf v 2 then s.setF SM_MBOX_CTRL [] SM_MBOX_CTRL.DONE 0 else s
    if bitOf v 0 && !s.fw.coresHeld && !s.bit SM_MBOX_CTRL [] SM_MBOX_CTRL.BUSY then s.mboxRun failed else s
  else s

/-- SM_MBOX_GO (R880, R881): a core writes SM_MBOX_CTRL. -/
def execSmMboxGo (w : Who) (v : BitVec 32) (failed : Option (Fin 11)) (s : State) : Host.Outcome State Fault Refusal :=
  .next (s.mboxCtrl w (v.setWidth 64) (failed.map (fun t => (t : Nat))))

/-- SESSION_IDLE_TIMEOUT (R877): the session in a slot has not been named for IDLE_MIN minutes. -/
def execSessionIdleTimeout (slot : Fin 16) (s : State) : Host.Outcome State Fault Refusal :=
  .next (s.setSm { s.sm with sessions := s.sm.sessions.filter (fun x => x.slot != (slot : Nat)) })

/-- CHALLENGE_EXPIRY (R872). -/
def execChallengeExpiry (via : Via) (id : BitVec 32) (s : State) : Host.Outcome State Fault Refusal :=
  .next (s.setSm { s.sm with challenges := s.sm.challenges.filter (fun x => !(x.via == via && x.id == id.toNat)) })

/-- AUTH_LOCKOUT_END (R875). -/
def execAuthLockoutEnd (via : Via) (s : State) : Host.Outcome State Fault Refusal :=
  .next (s.setSm { s.sm with locked := s.sm.locked.filter (fun x => x != via) })

/-- ENTROPY_HEALTH_FAIL (R890, R892): test 8, or test 9 when `apt`, fails while the module runs. -/
def execEntropyHealthFail (apt : Bool) (s : State) : Host.Outcome State Fault Refusal :=
  .next (
    let t := if apt then 9 else 8
    if s.smState = 2 ∨ s.smState = 3 then (s.testsRun (2 ^ t) (2 ^ t)).softError t else s)

/-- SOFT_ERROR_RECOVERY (R890, R892): test 7 reruns, and then, when it passes, test 6 (DEDUCED, log entry 73). -/
def execSoftErrorRecovery (ok7 ok6 : Bool) (s : State) : Host.Outcome State Fault Refusal :=
  .next (
    if s.smState ≠ 4 then s
    else if !ok7 then
      let n := s.sm.recoveries + 1
      let s := (s.setSm { s.sm with recoveries := n }).testsRun 0x80 0x80
      if 3 ≤ n then s.hardError 0x87 else s
    else if !ok6 then (s.testsRun 0xC0 0x40).hardError 0x86
    else
      let s := (s.testsRun 0xC0 0).setSm { s.sm with recoveries := 0 }
      if s.sm.prior = 1 then s.smServe else s.seedDrbg.setSmState s.sm.prior)

/-- PERIODIC_SELFTEST (R890, R892): tests 1 to 6 rerun, `failed` being the first that fails. -/
def execPeriodicSelftest (failed : Option (Fin 11)) (s : State) : Host.Outcome State Fault Refusal :=
  .next (if s.smState = 2 ∨ s.smState = 3 then s.knownAnswers (failed.map (fun t => (t : Nat))) else s)

end Sys2Proof.Machine
end

