-- ==== Sys2Proof/Machine/Unison.lean ====
section
/-! DEFINITION. The meanings of the determinism commands and of the Unison comparator, capture and replay (16_determinism.md). -/

namespace Sys2Proof.Machine

/-- Some Conductor holds an image (SCR_STATUS.INSTALLED). -/
def State.anyInstalled (s : State) : Bool := s.condDies.any (fun d => s.bit SCR_STATUS [d] SCR_STATUS.INSTALLED)

/-- REPRO_PROFILE_SET (R760, R763, R764). -/
def execReproProfileSet (c : Cmd) (s : State) : Host.Outcome State Fault Refusal :=
  .next (s.runCmd c 0x0901 (fun s =>
    if 3 ≤ c.par 0 1 ∨ 3 ≤ c.par 1 1 ∨ 2 ≤ c.par 2 1 ∨ !c.parZero 3 13 then s.complete c stBadParam []
    else if s.anyInstalled || s.busyTempo || s.bit GLB_MODE [] GLB_MODE.UNISON then s.complete c stBusy []
    else
      let s := (s.setF GLB_REPRO_PROFILE [] GLB_REPRO_PROFILE.ACCUM (c.par 0 1)).setF GLB_REPRO_PROFILE [] GLB_REPRO_PROFILE.SUBNORM (c.par 1 1)
      let s := (s.setF GLB_REPRO_PROFILE [] GLB_REPRO_PROFILE.METRONOME (c.par 2 1)).setF GLB_MODE [] GLB_MODE.METRONOME (c.par 2 1)
      s.complete c stOk (leBytes 8 (s.reg GLB_REPRO_PROFILE []).toNat)))

/-- UNISON_PAIR (R767, R768) (DEDUCED, log entry 31). -/
def execUnisonPair (c : Cmd) (s : State) : Host.Outcome State Fault Refusal :=
  .next (s.runCmd c 0x0902 (fun s =>
    let act := c.par 0 1
    let partner := c.par 2 2
    if act = 0 ∨ 2 < act ∨ 2 ≤ c.par 1 1 ∨ c.par 4 2 = 0 ∨ 16384 ≤ partner ∨ !c.parZero 6 10 then s.complete c stBadParam []
    else if act = 1 ∧ !s.bit GLB_MODE [] GLB_MODE.METRONOME then s.complete c stProfileMismatch []
    else if s.busyTempo || (act == 1 && s.bit UN_CTRL [] UN_CTRL.PAIRED) then s.complete c stBusy []
    else if s.rankAbsent (8 + c.par 1 1) partner then s.complete c stSliceViolation []
    else
      let on := act == 1
      let s := (s.setF GLB_MODE [] GLB_MODE.UNISON (b2n on)).setReg UN_CTRL []
        (if on then BitVec.ofNat 64 (1 + 2 * c.par 1 1 + partner * 2 ^ 16) else 0)
      let s := s.setUnison { s.unison with waitUs := if on then c.par 4 2 else 0, started := s.unison.started && on }
      s.complete c stOk (leBytes 2 partner)))

/-! ### Capture and replay -/

/-- Every section is IDLE or waits in CUEWAIT or SYNC, every queue is empty, and no RINSE or fence runs (R781). -/
def State.quiescent (s : State) : Bool :=
  (s.presses.filter s.pressUp).all (fun p =>
    (List.range 4).all (fun k =>
      let x := s.sect p k
      x.st == .idle || (x.st == .waiting && (x.wait == .cue || x.wait == .sync))) && s.queuesEmpty p) &&
  (List.range 8).all (fun d => (s.port d).scans.isEmpty)

/-- The snapshot (R781): sections with SCT_TSTART, Boards, and the state of the Press dies' Conductors. -/
def State.takeSnapshot (s : State) : Snapshot :=
  { job := (s.reg SCR_JOB [0]).toNat
    sects := s.sects
    tstart := (List.range 1024).foldl (fun t i => tput 0 t i (s.getF SCT_TSTART (six (i / 4) (i % 4)) SCT_TSTART.ROW)) []
    boards := s.mem.filter (fun x => decide (boardBase ≤ x.1) && decide (x.1 < boardBase + 256 * 0x0010_0000))
    cond := s.cond.filter (fun x => decide (x.1 < 8))
    tallies := s.score.tallies
    seqs := s.score.seqs
    windows := s.score.windows
    accepted := s.books.accepted
    noticed := s.books.noticed
    consumed := s.books.consumed
    tallySat := s.score.tallySat }

/-- A pending capture goes on (R781): once all is quiet every Press pauses, the snapshot is taken, and the Presses resume
(DESIGN CHOICE, log entry 90). -/
def State.tryCapture (s : State) : State :=
  match (s.waiters .capture).head? with
  | some c =>
    if s.quiescent then
      let ps := s.presses.filter s.pressUp
      let s := ps.foldl (fun s p => s.pausePress p) s
      let sb := s.tempo.sbar
      let s := ps.foldl (fun s p => if s.pausing p then s else s.resumePress p) s
      let s := s.setUnison { s.unison with
        snap := some s.takeSnapshot, capMib := c.par 4 4, log := [], capOwn := [], capPeer := [], left := [] }
      let s := ((s.setReg UN_CAPTURE [] 3).setReg UN_CAP_SBAR [] (BitVec.ofNat 64 sb)).setF UN_CAP_USED [] UN_CAP_USED.MIB (min (c.par 4 4) (Config.captureMib 0))
      s.completeAll .capture stOk (leBytes 4 sb)
    else s
  | none => s

/-- Device memory with the Boards of a snapshot in place of what they held. -/
def replayBoards (n : Snapshot) (m : List Host.Cell) : List Host.Cell :=
  n.boards.foldl (fun m x => tput 0 m x.1 x.2)
    (tclear (fun k => decide (boardBase ≤ k) && decide (k < boardBase + 256 * 0x0010_0000)) m)

/-- REPLAY restores the snapshot and starts its Score bar (R783); the Presses go on as they did after the snapshot
(DESIGN CHOICE, log entry 107). -/
def State.replayStart (s : State) (c : Cmd) (n : Snapshot) : State :=
  let cond := n.cond.foldl (fun t x => tput {} t x.1 x.2) (tclear (fun k => decide (k < 8)) s.cond)
  let s := { s with mem := replayBoards n s.mem, sects := n.sects, cond := cond, queues := [] }
  let s := { s with score := { s.score with tallies := n.tallies, tallySat := n.tallySat, seqs := n.seqs, windows := n.windows, sends := [] } }
  let s := { s with books := { s.books with accepted := n.accepted, noticed := n.noticed, consumed := n.consumed } }
  let s := (List.range 1024).foldl (fun s i => s.setF SCT_TSTART (six (i / 4) (i % 4)) SCT_TSTART.ROW (tget 0 n.tstart i)) s
  let s := s.presses.foldl (fun s p =>
    let s := s.setPrs p { s.prs p with stopPause := false, resumeAfter := false }
    if s.pausing p then s.pausePress p else s) s
  let s := s.setUnison { s.unison with replay := some c, left := s.unison.log, open_ := [] }
  s.setTempo { s.tempo with
    sbar := s.getF UN_CAP_SBAR [] UN_CAP_SBAR.S, beat := 0, running := true, held := false, frozen := false, merged := false }

/-- UNISON_REPLAY (R780, R781, R783, R784). A capture that waits for quiet is tried again when it is presented again
(DEDUCED, log entry 33). -/
def execUnisonReplay (c : Cmd) (s : State) : Host.Outcome State Fault Refusal :=
  .next (
    if (s.waiters .capture).contains c then s.tryCapture
    else s.runCmd c 0x0903 (fun s =>
      let act := c.par 0 1
      let mib := c.par 4 4
      let off := c.par 8 8
      if act = 0 ∨ 3 < act ∨ !c.parZero 1 3 ∨
          (act = 1 ∧ (mib < 40 ∨ 16384 < mib ∨ off % 2 ^ 20 ≠ 0 ∨ 2 ^ 34 < off + mib * 2 ^ 20)) then s.complete c stBadParam []
      else if act = 1 then
        if !s.tempo.running || !s.tempo.held || s.bit UN_CAPTURE [] UN_CAPTURE.HELD || !(s.waiters .capture).isEmpty then
          s.complete c stBusy []
        else (s.wait .capture c).tryCapture
      else if act = 2 then
        if s.busyTempo then s.complete c stBusy []
        else match s.unison.snap with
          | some n =>
            if s.anyInstalled && s.bit UN_CAPTURE [] UN_CAPTURE.COMPLETE && (s.reg SCR_JOB [0]).toNat == n.job then s.replayStart c n
            else s.complete c stScoreFault []
          | none => s.complete c stScoreFault []
      else
        let s := s.setUnison { s.unison with snap := none, log := [], capOwn := [], capPeer := [], left := [] }
        (((s.clrReg UN_CAPTURE []).clrReg UN_CAP_SBAR []).clrReg UN_CAP_USED []).complete c stOk []))

/-! ### The comparator -/

/-- The comparator sends a digest tack to the partner (R774, R775). -/
def State.sendDigest (s : State) (data : List Byte) : State :=
  s.buildTack 10 (tackHeader (s.getF UN_CTRL [] UN_CTRL.PARTNER) 0 (s.getF UN_CTRL [] UN_CTRL.IDX) 10 6 ++
    leBytes 2 s.rank ++ leBytes 1 10 ++ leBytes 5 0 ++ slice data 0 16) none none

/-- A digest closes (R773): it is kept, for a capture of its bar too, and sent. -/
def State.closeDigest (s : State) (e : UnEntry) : State :=
  let s := s.setUnison { s.unison with
    open_ := s.unison.open_.filter (fun x => x != e), sent := tput 0 s.unison.sent e.sbar (tget 0 s.unison.sent e.sbar + 1) }
  let s := if s.capturing && s.getF UN_CAP_SBAR [] UN_CAP_SBAR.S == e.sbar then
      s.setUnison { s.unison with capOwn := s.unison.capOwn ++ [e] } else s
  let s := if s.unison.lost.contains e.sbar then s
    else if 1024 ≤ s.unison.own.length + s.unison.peer.length then s.unUnchecked e.sbar UN_STATUS.OVERFLOW
    else (s.setUnison { s.unison with own := s.unison.own ++ [e] }).unPending
  s.sendDigest (leBytes 1 1 ++ leBytes 1 e.unit ++ leBytes 2 e.stream ++ leBytes 4 e.sbar ++ leBytes 8 e.digest)

/-- A Score bar closes on the package (R773, R774). -/
def State.closeBar (s : State) (n : Nat) : State :=
  let p := (s.reg GLB_REPRO_PROFILE []).toNat % 2 ^ 17
  let k := tget 0 s.unison.sent n
  let u := s.unison
  let s := s.setUnison { u with
    closed := u.closed ++ [n], ownClose := if u.lost.contains n then u.ownClose else u.ownClose ++ [⟨n, k, p⟩] }
  s.sendDigest (leBytes 1 2 ++ leBytes 1 0 ++ leBytes 2 k ++ leBytes 4 n ++ leBytes 4 p)

/-- DIGEST_CLOSE (R773 to R775): the digest of a unit and stream in Score bar `sbar`, or with none the bar itself. -/
def execDigestClose (sbar : BitVec 32) (which : Option (Fin 64 × Fin 4096)) (s : State) : Host.Outcome State Fault Refusal :=
  .next (
    let n := sbar.toNat
    if !(s.bit UN_CTRL [] UN_CTRL.PAIRED && s.unison.started) || s.replaying || !newer 32 s.tempo.sbar n || s.dieInReset 10 then s
    else match which with
      | some (u, st) =>
        if s.score.sends.any (fun w => w.stream == (st : Nat) && w.sbar == n) then s
        else match s.unison.open_.find? (fun e => e.sbar == n && e.unit == (u : Nat) && e.stream == (st : Nat)) with
          | some e => s.closeDigest e
          | none => s
      | none =>
        if s.unison.closed.contains n || s.unison.open_.any (fun e => e.sbar == n) || s.score.sends.any (fun w => w.sbar == n) then s
        else s.closeBar n)

/-- The disagreements of a Score bar, each entry with its cause and the two digests (R777). -/
def State.unDiffs (s : State) (n : Nat) : List (UnEntry × Nat × Nat × Nat) :=
  let own := s.unison.own.filter (fun e => e.sbar == n)
  let peer := s.unison.peer.filter (fun e => e.sbar == n)
  let same (e x : UnEntry) : Bool := x.unit == e.unit && x.stream == e.stream
  own.filterMap (fun e => match peer.find? (same e) with
    | some x => if x.digest = e.digest then none else some (e, 1, e.digest, x.digest)
    | none => some (e, 2, e.digest, 0)) ++
  (peer.filter (fun x => !own.any (same x))).map (fun x => (x, 2, 0, x.digest))

/-- A mismatch (R779, R785). -/
def State.unMismatch (s : State) (n cause unit stream own peer : Nat) : State :=
  if s.bit UN_STATUS [] UN_STATUS.MISMATCH then s.setLogged 10 UN_STATUS [] UN_STATUS.MULTI
  else
    let s := ((s.setF UN_STATUS [] UN_STATUS.CAUSE cause).setF UN_STATUS [] UN_STATUS.UNIT unit).setF UN_STATUS [] UN_STATUS.STREAM stream
    let s := ((s.setReg UN_SBAR [] (BitVec.ofNat 64 n)).setReg UN_OWN [] (BitVec.ofNat 64 own)).setReg UN_PEER [] (BitVec.ofNat 64 peer)
    (s.setLogged 10 UN_STATUS [] UN_STATUS.MISMATCH).fermataRequest

/-- BAR_COMPARE (R777, R779): both CLOSEs of Score bar `sbar` and all entries of the partner are in. -/
def execBarCompare (sbar : BitVec 32) (s : State) : Host.Outcome State Fault Refusal :=
  .next (
    let n := sbar.toNat
    let u := s.unison
    match u.ownClose.find? (fun x => x.sbar == n), u.peerClose.find? (fun x => x.sbar == n) with
    | some a, some b =>
      if (u.peer.filter (fun e => e.sbar == n)).length ≠ b.n then s
      else
        let ds := s.unDiffs n
        let out := s.unDrop n
        match firstEntry (ds.map (fun d => d.1)) with
        | some e => match ds.find? (fun d => d.1 == e) with
          | some (_, cause, x, y) => out.unMismatch n cause e.unit e.stream x y
          | none => out
        | none =>
          if a.profile ≠ b.profile then out.unMismatch n 3 0xFF 0 0 0
          else out.incF UN_MATCHED [] UN_MATCHED.COUNT 1
    | _, _ => s)

/-- UNISON_WAIT_TIMEOUT (R778): WAIT_US after the own CLOSE of Score bar `sbar` it has not been compared. -/
def execUnisonWaitTimeout (sbar : BitVec 32) (s : State) : Host.Outcome State Fault Refusal :=
  .next (if s.unison.ownClose.any (fun x => x.sbar == sbar.toNat) then s.unUnchecked sbar.toNat UN_STATUS.UNCHECKED else s)

end Sys2Proof.Machine
end

