-- ==== Sys2Proof/Machine/Census.lean ====
section
/-! DEFINITION. CENSUS: its sampling beat, the records of the books and the report (17_books_notices.md, sections 1 and 3). Report writes to
the host, shared with the telemetry snapshot. -/

namespace Sys2Proof.Machine

/-! ### Sampling beats and reports -/

/-- The bar whose beat 0 is the sampling beat of a command accepted now; none when the package is not running (R800). -/
def State.sampleBar (s : State) : Option Nat := if s.tempo.running then some (bar32 (s.raisedBar + 1)) else none

/-- The sampling beat has come (R800): beat 0 of that bar; for a package that does not run, the occasion itself tells. -/
def State.sampleDue (s : State) (due : Option Nat) : Bool :=
  match due with
  | some b => !s.tempo.running || serialGe 32 s.tempo.barno b
  | none => true

/-- BARNO and SBAR of the sampling beat, all-ones when the package does not run. -/
def State.sampleBarno (s : State) : Nat := if s.tempo.running then s.tempo.barno else 0xFFFF_FFFF
def State.sampleSbar (s : State) : Nat := if s.tempo.running then s.tempo.sbar else 0xFFFF_FFFF

/-- A report's destination is valid (R799, R909): aligned, on the host only for transport H, on the device in HBM and outside the carve-out
but for transport C. -/
def State.destOk (s : State) (c : Cmd) (dest len : Nat) (host : Bool) : Bool :=
  dest % 4096 == 0 && (if host then c.via == .H
    else decide (dest + len ≤ boardBase) && s.rangeMapped dest len && (c.via == .C || !touchesCarve dest len))

/-- A report is written (R692): to the host, held while Bus Master Enable is 0 (R671), or to device memory. -/
def State.putReport (s : State) (host : Bool) (dest : Nat) (bs : List Byte) : State :=
  if host then
    if s.bit CMD_IF_STATUS [] CMD_IF_STATUS.BME then s.hostWrite dest bs
    else { s with front := { s.front with cplHeld := s.front.cplHeld ++ [(dest, bs)] } }
  else s.writeMem dest bs

/-! ### The books -/

/-- One record of a book (R803). -/
structure Record where
  kind : Nat
  die : Nat
  ix : Nat := 0
  away : Bool
  unchecked : Bool := false
  transient : Bool := false
  bad : Bool := false
  t1 : Nat := 0
  t2 : Nat := 0
  t3 : Nat := 0
  expect : Nat := 0
  aux : Nat := 0
  deriving DecidableEq, Repr

/-- A record whose unit is away keeps no terms, and an unchecked one is not BAD (R802). -/
def Record.checked (r : Record) : Record :=
  if r.away then { kind := r.kind, die := r.die, ix := r.ix, away := true } else { r with bad := r.bad && !r.unchecked }

/-- The 32 bytes of a record (R803). -/
def Record.bytes (r : Record) : List Byte :=
  leBytes 1 r.kind ++ leBytes 1 r.die ++ leBytes 1 r.ix ++
  leBytes 1 (b2n r.bad + 2 * b2n r.transient + 4 * b2n r.unchecked + 8 * b2n r.away) ++
  leBytes 4 r.t1 ++ leBytes 4 r.t2 ++ leBytes 4 r.t3 ++ leBytes 4 r.expect ++ leBytes 4 r.aux ++ leBytes 8 0

/-- The die is in reset or folded. -/
def State.away (s : State) (d : Nat) : Bool := s.dieInReset d || s.dieFolded d

/-- Kind 1: the linens of Mangle die m, one of them `age` beats in transit (R787, R802, R803). -/
def State.linenRecord (s : State) (m age : Nat) : Record :=
  let f := s.getF LIN_POOL [m] LIN_POOL.FREE
  let a := s.getF LIN_POOL [m] LIN_POOL.ALLOC
  let t := s.getF LIN_POOL [m] LIN_POOL.TRANSIT
  { kind := 1, die := m, away := s.away m, transient := t != 0, bad := f + a + t != 16384 || decide (2 < age)
    t1 := f, t2 := a, t3 := t, expect := 16384, aux := age }

/-- Kind 2: the G1 credits of link l (R597, R599). -/
def State.creditRecord (s : State) (l : Nat) : Record :=
  let g := s.getF LNK_LGC_CRED (lnk l) LNK_LGC_CRED.GRANTED
  let u := s.getF LNK_LGC_CRED (lnk l) LNK_LGC_CRED.INUSE
  let open_ := !s.bit LNK_LGC_CRED (lnk l) LNK_LGC_CRED.INIT_DONE
  { kind := 2, die := 8 + l / 6, ix := l % 6, away := s.away (8 + l / 6), unchecked := open_, transient := open_, bad := g + u != 64
    t1 := g, t2 := u, t3 := s.getF LNK_LGC_CRED (lnk l) LNK_LGC_CRED.PEER_CRED, expect := 64 }

/-- Kind 3: the injection tokens of a die (R520). -/
def State.tokenRecord (s : State) (d : Nat) : Record :=
  let out := (s.tokens d).length
  let av := if d < 8 then s.getF TCK_BUDGET [d] TCK_BUDGET.AVAILABLE else s.getF TCK_CSEND_CTRL [d] TCK_CSEND_CTRL.AVAILABLE
  { kind := 3, die := d, away := s.away d, bad := out + av != s.budget d, t1 := out, t2 := av, expect := s.budget d }

/-- Kind 4: the darning descriptors of Mangle die m (R498, R788). -/
def State.descRecord (s : State) (m : Nat) : Record :=
  let held := s.getF BLT_DARN [m] BLT_DARN.HELD
  let going := (s.score.desc.filter (fun d => streamMangle d.stream == m && !d.record)).length
  { kind := 4, die := m, away := s.away m, t1 := held, t2 := 8192 - held, t3 := going, expect := 8192
    bad := decide (8192 < held), aux := s.getF BLT_DARN [m] BLT_DARN.RESEND_Q }

/-- Kind 5: the Board holds of Press die d (R788). -/
def State.holdRecord (s : State) (d : Nat) : Record :=
  let holds := ((List.range 32).map (fun k => s.getF PRS_HOLDS [d, k] PRS_HOLDS.HOLDS)).foldl (· + ·) 0
  let m0 := 1024 - s.getF BLT_QUOTA [d] BLT_QUOTA.FREE0
  let m1 := 1024 - s.getF BLT_QUOTA [d] BLT_QUOTA.FREE1
  { kind := 5, die := d, away := s.away d, bad := holds != m0 + m1, t1 := holds, t2 := m0, t3 := m1, expect := m0 + m1 }

/-- Kind 6: the tallies of Press die d (R789, R790). -/
def State.tallyRecord (s : State) (d : Nat) : Record :=
  let sum := ((List.range 256).map (fun t => tget 0 s.score.tallies (256 * d + t))).foldl (· + ·) 0
  let a := tget 0 s.books.accepted d
  let n := tget 0 s.books.noticed d
  let c := tget 0 s.books.consumed d
  let e := (a + n + 2 ^ 32 - c % 2 ^ 32) % 2 ^ 32
  { kind := 6, die := d, away := s.away d, unchecked := tget false s.score.tallySat d, bad := sum % 2 ^ 32 != e
    t1 := sum, t2 := a, t3 := n, expect := e, aux := c }

/-- Kind 7: the memory queues of Press die d (R360). -/
def State.queueRecord (s : State) (d : Nat) : Record :=
  let ds := (List.range 32).flatMap (fun k => (List.range 6).map (fun q => (s.queue (32 * d + k) q).length))
  let top := ds.foldl max 0
  { kind := 7, die := d, away := s.away d, bad := decide (64 < top), t1 := top, t2 := ds.foldl (· + ·) 0, expect := 64 }

/-- The records of a census, in increasing KIND, DIE and INDEX (R802). -/
def State.records (s : State) (age : Nat → Nat) : List Record :=
  let ps := s.pressDies
  ([8, 9].map (fun m => s.linenRecord m (age m)) ++
   ((List.range 12).filter (fun l => s.getF LNK_STATUS (lnk l) LNK_STATUS.PROFILE == 2)).map s.creditRecord ++
   (ps ++ [8, 9]).map s.tokenRecord ++ [8, 9].map s.descRecord ++ ps.map s.holdRecord ++ ps.map s.tallyRecord ++
   ps.map s.queueRecord).map Record.checked

/-- Bit k − 1 for each kind k of which some record satisfies a test. -/
def kindBits (rs : List Record) (test : Record → Bool) : Nat :=
  (List.range 7).foldl (fun n k => if rs.any (fun r => r.kind == k + 1 && test r) then n + 2 ^ k else n) 0

/-- The report (R804). -/
def State.censusReport (s : State) (rs : List Record) : List Byte :=
  leBytes 4 0x534E4543 ++ leBytes 2 1 ++ leBytes 2 rs.length ++ leBytes 8 (s.reg GLB_SERIAL []).toNat ++
  leBytes 8 (s.reg EVA_TIME []).toNat ++ leBytes 4 s.sampleBarno ++ leBytes 4 s.sampleSbar ++
  leBytes 2 (kindBits rs (fun r => r.bad)) ++ leBytes 2 (kindBits rs (fun r => r.transient)) ++ leBytes 28 0 ++ rs.flatMap Record.bytes

/-- CENSUS (R798 to R800) (DEDUCED, log entry 91). -/
def execCensus (c : Cmd) (s : State) : Host.Outcome State Fault Refusal :=
  .next (s.runCmd c 0x0306 (fun s =>
    let host := c.par 8 1 % 2 == 1
    if 4 ≤ c.par 8 1 ∨ !c.parZero 9 7 ∨ !s.destOk c (c.par 0 8) 4096 host then s.complete c stBadParam []
    else if !(s.waiters .census).isEmpty then s.complete c stBusy []
    else (({ s with front := { s.front with censusBar := s.sampleBar } }).wait .census c)))

/-- CENSUS_SAMPLE (R800 to R806): at the sampling beat, the longest time in transit on M0 and M1 being `age0` and `age1` beats. -/
def execCensusSample (age0 age1 : Nat) (s : State) : Host.Outcome State Fault Refusal :=
  .next (match (s.waiters .census).head? with
    | none => s
    | some c =>
      if !s.sampleDue s.front.censusBar then s
      else
        let rs := s.records (fun m => if m = 8 then age0 else age1)
        let bad := kindBits rs (fun r => r.bad)
        let tr := kindBits rs (fun r => r.transient)
        let held := s.getF BLT_DARN [8] BLT_DARN.HELD + s.getF BLT_DARN [9] BLT_DARN.HELD
        let t := if (c.par 8 1).testBit 1 then s else s.putReport ((c.par 8 1).testBit 0) (c.par 0 8) (s.censusReport rs)
        let t := if bad = 0 then t else t.sendEvent 10 0x10 (bad + tr * 2 ^ 16 + s.sampleBarno * 2 ^ 32)
        t.completeAll .census stOk
          (leBytes 4 s.sampleBarno ++ leBytes 2 bad ++ leBytes 2 tr ++ leBytes 4 held ++ leBytes 2 rs.length ++ leBytes 2 0))

end Sys2Proof.Machine
end

