-- ==== Sys2Proof/Machine/Telemetry.lean ====
section
/-! DEFINITION. The telemetry counters' clearing and TELEMETRY_SNAPSHOT (20_telemetry_management.md, sections 1 and 2). -/

namespace Sys2Proof.Machine

/-- A register's value, as a number. -/
def State.regN (s : State) (r : Reg) (ix : List Nat) : Nat := (s.reg r ix).toNat

/-- The groups of a snapshot: instances and values (R914). -/
def telInstances (g : Nat) : Nat := [1, 12, 40, 8, 2, 256, 2].getD g 0
def telValues (g : Nat) : Nat := [4, 15, 6, 15, 14, 30, 32].getD g 0

/-- The die and port of SEAM instance i (R914). -/
def telSeam (i : Nat) : Nat × Nat := if i < 32 then (i / 4, i % 4) else (8 + (i - 32) / 2, i % 2)

/-- The unit of an instance is absent (R916): not fitted, or a Seam port that is not bonded. -/
def State.telAbsent (s : State) (g i : Nat) : Bool :=
  match g with
  | 2 =>
    let (d, q) := telSeam i
    !s.hasDie d || decide (11 < (seamPeer d q).1) || ((seamPeer d q).1 == 11 && !s.hasDie 11)
  | 3 => !s.hasDie i
  | 5 => !s.hasDie (i / 32)
  | 6 => !s.hasDie 11
  | _ => false

/-- The unit of an instance is in reset or folded (R916). -/
def State.telAway (s : State) (g i : Nat) : Bool :=
  match g with
  | 1 => s.linkInReset i
  | 2 => s.away (telSeam i).1
  | 3 => s.away i
  | 4 => s.away (8 + i)
  | 5 => s.pressInReset i || s.pressFolded i
  | 6 => s.away 11 || s.pwr.asserted.contains (280 + i)
  | _ => false

/-- The depths of the six queues of a Press, as MEM_QDEPTH lays them out (R360). -/
def State.queueDepths (s : State) (p : Nat) : Nat :=
  (List.range 6).foldl (fun n q => n + (s.queue p q).length % 128 * 2 ^ (8 * q)) 0

/-- The values of one instance of a group, in order (R914). -/
def State.telGroup (s : State) (g i : Nat) : List Nat :=
  match g with
  | 0 => [s.getF TEL_PKG [] TEL_PKG.GATE_BEATS, s.getF TEL_PKG [] TEL_PKG.HELD_BARS, s.regN EVA_LOST [], s.regN RST_DISCARDS []]
  | 1 =>
    [LNK_FEC_CORR, LNK_FEC_UNCORR, LNK_HOLD_SENT, LNK_HOLD_OBEYED, LNK_RETRAINS, LNK_SLEEP_BARS, BLT_LSTALL, BLT_LSKID_PEAK].map
      (fun r => s.regN r (lnk i)) ++
    [TEL_LINK_DB_EARLY, TEL_LINK_DB_LATE, TEL_LINK_DB_BAD, TEL_LINK_DB_MISSING, TEL_LINK_CI_DISCARD, TEL_LINK_TACK_TX, TEL_LINK_TACK_RX].map
      (fun r => s.regN r [i])
  | 2 =>
    let (d, q) := telSeam i
    [SEAM_CRC_ERR, SEAM_REPLAYS, SEAM_HOLD_SENT, SEAM_HOLD_OBEYED].map (fun r => s.regN r [d, q]) ++
    (if d < 8 then [s.regN BLT_STALL [d, q], s.regN BLT_SKID_PEAK [d, q]]
     else if d < 10 then [s.regN BLT_STALL_M [d, q], s.regN BLT_SKID_PEAK_M [d, q]] else [0, 0])
  | 3 =>
    [BLT_RX_GOOD, BLT_RX_BAD, BLT_RX_DUP, BLT_RX_DROP, BLT_KNOT_DROP, BLT_WIN_STALLS, BLT_QUOTA_STALLS, BLT_WINDOWS, TCK_TOKEN_WAITS, TCK_SENT,
     TCK_NOTICES, TCK_TIMEOUTS, SCR_LATE_CUES, SCR_LATE_MOVES, MEM_STALE_FILLS].map (fun r => s.regN r [i])
  | 4 =>
    [BLT_KNOTS, BLT_SNAGS, BLT_KNOT_STALE, BLT_RESENDS, BLT_TIMEOUT_RESENDS, BLT_SPILLS, BLT_DARN, TCK_DEFLECTS, TCK_AGED, TCK_DROPS].map
      (fun r => s.regN r [8 + i]) ++
    [s.getF TCK_BUF [8 + i] TCK_BUF.PEAK, s.getF LIN_POOL [8 + i] LIN_POOL.ALLOC, s.regN LIN_PEAK [8 + i], s.regN SCR_TAKE_WAITS [8 + i]]
  | 5 =>
    [PRS_BOARD_STALLS, PRS_HOLD_STALLS, PRS_HOLD_FULL, MEM_QFULL, MEM_SBWAIT].map (fun r => s.regN r (pix i)) ++ [s.queueDepths i] ++
    (List.range 4).flatMap (fun k => [SCT_BANK_STALLS, SCT_WAKES, TEL_SECT_DEP, TEL_SECT_CUE, TEL_SECT_SYNC, TEL_SECT_QWAIT].map
      (fun r => s.regN r (six i k)))
  | _ => (List.range 32).map (fun v => s.regN ETH_CNT [i, v])

/-- An instance record (R915, R916). -/
def State.telRecord (s : State) (g i : Nat) : List Byte :=
  let gone := s.telAbsent g i
  let away := !gone && s.telAway g i
  leBytes 2 i ++ leBytes 1 (b2n gone + 2 * b2n away) ++ leBytes 5 0 ++
  (if gone || away then leBytes (8 * telValues g) 0 else (s.telGroup g i).flatMap (leBytes 8))

/-- A group of a report (R915). -/
def State.telSection (s : State) (g : Nat) : List Byte :=
  leBytes 2 g ++ leBytes 2 (telInstances g) ++ leBytes 2 (telValues g) ++ leBytes 10 0 ++ (List.range (telInstances g)).flatMap (s.telRecord g)

/-- Bytes of a report of the groups of a mask (R916). -/
def telLength (groups : Nat) : Nat :=
  64 + (((List.range 7).filter groups.testBit).map (fun g => 16 + telInstances g * (8 + 8 * telValues g))).foldl (· + ·) 0

/-- The report (R915). -/
def State.telReport (s : State) (groups snaps : Nat) : List Byte :=
  leBytes 4 0x454C4554 ++ leBytes 2 1 ++ leBytes 1 groups ++ leBytes 1 0 ++ leBytes 8 (s.regN GLB_SERIAL []) ++ leBytes 8 (s.regN EVA_TIME []) ++
  leBytes 4 s.sampleBarno ++ leBytes 4 s.sampleSbar ++ leBytes 4 (telLength groups) ++ leBytes 4 snaps ++ leBytes 24 0 ++
  ((List.range 7).filter groups.testBit).flatMap s.telSection

/-- The counters of R905 return to 0 (R907, R912): TEL_PKG, and the windows of TEL_LINK and TEL_SECT. -/
def State.telClear (s : State) : State :=
  { s with regs := tclear (fun a => a == TEL_PKG.off || (decide (0x1800100 ≤ a) && decide (a < 0x1800280)) ||
    (decide (0x1810000 ≤ a) && decide (a < 0x1818000))) s.regs }

/-- TEL_CLR (R907). -/
def execTelClr (v : BitVec 32) (s : State) : Host.Outcome State Fault Refusal := .next (if v.getLsbD 0 && !s.dieInReset 10 then s.telClear else s)

/-- TELEMETRY_SNAPSHOT (R908 to R910, R913) (DEDUCED, log entry 91). -/
def execTelemetrySnapshot (c : Cmd) (s : State) : Host.Outcome State Fault Refusal :=
  .next (s.runCmd c 0x0601 (fun s =>
    let fl := c.par 8 1
    let host := fl.testBit 0
    let groups := c.par 9 1
    let g := c.par 10 1
    let v := c.par 11 1
    let i := c.par 12 2
    if 8 ≤ fl ∨ !c.parZero 14 2 then s.complete c stBadParam []
    else if fl.testBit 1 then
      if host ∨ fl.testBit 2 ∨ c.par 0 8 ≠ 0 ∨ groups ≠ 0 ∨ 7 ≤ g ∨ telInstances g ≤ i ∨ telValues g ≤ v then s.complete c stBadParam []
      else if s.telAbsent g i then s.complete c stAbsentUnit []
      else if s.telAway g i then s.complete c stOk (leBytes 8 0 ++ leBytes 1 1)
      else s.complete c stOk (leBytes 8 ((s.telGroup g i).getD v 0))
    else if groups = 0 ∨ 0x7F < groups ∨ g ≠ 0 ∨ v ≠ 0 ∨ i ≠ 0 ∨ !s.destOk c (c.par 0 8) (72 * 1024) host then s.complete c stBadParam []
    else if s.bit TEL_STATUS [] TEL_STATUS.BUSY then s.complete c stBusy []
    else (({ s with front := { s.front with snapBar := s.sampleBar } }).setBit TEL_STATUS [] TEL_STATUS.BUSY).wait .snapshot c))

/-- SNAPSHOT_SAMPLE (R910 to R917): at the sampling beat; `ok` is whether a report to the host can be written (DEDUCED, log entry 30). -/
def execSnapshotSample (ok : Bool) (s : State) : Host.Outcome State Fault Refusal :=
  .next (match (s.waiters .snapshot).head? with
    | none => s
    | some c =>
      if !s.sampleDue s.front.snapBar then s
      else
        let fl := c.par 8 1
        let host := fl.testBit 0
        let n := (s.getF TEL_STATUS [] TEL_STATUS.SNAPS + 1) % 2 ^ 16
        let report := s.telReport (c.par 9 1) n
        let t := (s.setF TEL_STATUS [] TEL_STATUS.BUSY 0).setF TEL_STATUS [] TEL_STATUS.SNAPS n
        let t := if fl.testBit 2 then t.telClear else t
        if host && !ok then (t.setBit TEL_EVENT [] TEL_EVENT.SNAP_FAIL).completeAll .snapshot stIntegrity []
        else
          (t.putReport host (c.par 0 8) report).completeAll .snapshot stOk
            (leBytes 4 s.sampleBarno ++ leBytes 4 (telLength (c.par 9 1)) ++ leBytes 4 n ++ leBytes 4 0))

end Sys2Proof.Machine
end

