-- ==== Sys2Proof/Machine/View.lean ====
section
/-! DEFINITION. What a register reads as (R17): its stored contents, and for the registers that show other state, that state. -/

namespace Sys2Proof.Machine

/-- A word of fields, each given with its value. -/
def packF (l : List (Fld × Nat)) : Word := l.foldl (fun w x => fset w x.1 x.2) 0

/-- A word of single bits: bit i is `f i`. -/
def packBits (n : Nat) (f : Nat → Bool) : Word := BitVec.ofNat 64 ((List.range n).foldl (fun m i => if f i then m + 2 ^ i else m) 0)

/-- The state codes of SCT_STATE (R207). -/
def SecState.code : SecState → Nat
  | .idle => 0
  | .running => 1
  | .waiting => 2
  | .pausing => 3
  | .paused => 4

/-! ### Conductors -/

/-- SCR_TEMPO_CFG (R69 to R71). -/
def State.viewTempoCfg (s : State) : Word :=
  let t := s.tempo
  packF [(SCR_TEMPO_CFG.K, t.k), (SCR_TEMPO_CFG.D64M1, t.d64 - 1), (SCR_TEMPO_CFG.RUBATO, b2n t.rubato), (SCR_TEMPO_CFG.ACTION, b2n t.fallbackAct),
    (SCR_TEMPO_CFG.ANCHOR, b2n t.anchor), (SCR_TEMPO_CFG.REGION, t.region), (SCR_TEMPO_CFG.FERM_LEAD, t.fermLead),
    (SCR_TEMPO_CFG.GATE_LIMIT, t.gateLimit)]

/-- SCR_BEAT (R123). -/
def State.viewBeat (s : State) : Word :=
  let t := s.tempo
  packF [(SCR_BEAT.BARNO, t.barno), (SCR_BEAT.BEAT, t.beat), (SCR_BEAT.RUNNING, b2n t.running), (SCR_BEAT.HELD, b2n t.held),
    (SCR_BEAT.PENDING, b2n t.pendingHold), (SCR_BEAT.GATED, b2n (t.running && t.isGated)), (SCR_BEAT.FALLBACK, b2n t.fallback),
    (SCR_BEAT.HALTED, b2n t.halted), (SCR_BEAT.ARMED, b2n t.armed)]

/-- SCR_SBAR and SCR_FERM (R107 to R109). -/
def State.viewSbar (s : State) : Word :=
  let t := s.tempo
  packF ((SCR_SBAR.SBAR, t.sbar) :: (match t.order with
    | none => []
    | some o => [(SCR_SBAR.ORDER_SEQ, o.seq), (SCR_SBAR.ORDER_VALID, 1), (SCR_SBAR.INDEF, b2n o.indef)]))
def State.viewFerm (s : State) : Word :=
  match s.tempo.order with
  | none => 0
  | some o => packF [(SCR_FERM.F, o.f), (SCR_FERM.R, o.r)]

/-- A register of Conductor d's group (R69, R123, R299, R303, R321) (DEDUCED, log entry 35). -/
def State.viewScore (s : State) (r : Reg) (d : Nat) : Word :=
  let c := s.conductor d
  let on := s.bit SCR_STATUS [d] SCR_STATUS.INSTALLED
  if r.is SCR_TEMPO_CFG then (if on then s.viewTempoCfg else 0)
  else if r.is SCR_BEAT then (if on then s.viewBeat else 0)
  else if r.is SCR_SBAR then (if on then s.viewSbar else 0)
  else if r.is SCR_FERM then (if on then s.viewFerm else 0)
  else if r.is SCR_PTR then packF [(SCR_PTR.ENTRY, c.ptr), (SCR_PTR.DEPTH, c.reps.length)]
  else if r.is SCR_REP then packF (c.reps.zipIdx.map (fun x => (⟨16 * x.2, 16⟩, x.1.iter)))
  else if r.is SCR_STATUS then
    fset (fset (s.reg SCR_STATUS [d]) SCR_STATUS.CUEQ c.pend.length) SCR_STATUS.CUEHOLD (b2n !c.heldCues.isEmpty)
  else s.reg r [d]

/-! ### Presses -/

/-- A write of Press p is waiting on a hold now (R200). -/
def State.holdWaiting (s : State) (p : Nat) : Bool :=
  !(s.prs p).heldWrites.isEmpty || (List.range 4).any (fun k => !(s.sect p k).pendW.isEmpty || (s.sect p k).wait == .hold) ||
  (List.range 4).any (fun q => (s.queue p q).any (fun x => !x.done && x.data.isSome && s.heldRange p (512 * x.bblk) 512))

/-- Some section of Press p is RUNNING or WAITING. -/
def State.pressRuns (s : State) (p : Nat) : Bool :=
  (List.range 4).any (fun k => (s.sect p k).st == .running || (s.sect p k).st == .waiting)

/-- A register of Press p's group or of one of its sections (R197, R207, R211, R212). -/
def State.viewPress (s : State) (r : Reg) (ix : List Nat) : Word :=
  let p := 32 * ix.getD 0 0 + ix.getD 1 0
  if r.is PRS_STATUS then
    fset (fset (s.reg r ix) PRS_STATUS.PAUSED (packBits 4 (fun k => (s.sect p k).st == .paused)).toNat) PRS_STATUS.HOLD_WAIT
      (b2n (s.holdWaiting p))
  else if r.is PRS_HOLD_CNT then packF [(PRS_HOLD_CNT.COUNT, s.holdCount p (s.getF PRS_HOLD_SEL ix PRS_HOLD_SEL.BLOCK))]
  else if r.is SCT_STATE then
    let x := s.sect p (ix.getD 2 0)
    packF [(SCT_STATE.PC, x.pc), (SCT_STATE.STATE, x.st.code), (SCT_STATE.IN_STRIP, b2n (x.st == .paused && x.inStrip)), (SCT_STATE.NEXT, x.next)]
  else s.reg r ix

/-! ### Memory controllers and the Mangle dies -/

/-- A register of HBM controller n's window (R360, R368, R372, R392). -/
def State.viewMem (s : State) (r : Reg) (ix : List Nat) : Word :=
  let n := ix.getD 0 0
  let x := s.port n
  if r.is MEM_STATUS then
    fset (fset (fset (s.reg r ix) MEM_STATUS.RINSING (b2n (x.scans.any (fun y => !y.fence)))) MEM_STATUS.FENCING (b2n (x.scans.any (fun y => y.fence))))
      MEM_STATUS.WB_OCC x.wb.length
  else if r.is MEM_ERR then fset (s.reg r ix) MEM_ERR.UE_HELD (b2n (s.ueHeld n))
  else if r.is MEM_WAIT then fset (s.reg r ix) MEM_WAIT.STACK (packBits 8 (fun m => (s.waitStacks n).contains m)).toNat
  else if r.is MEM_QDEPTH then BitVec.ofNat 64 (s.queueDepths (32 * n + ix.getD 1 0))
  else s.reg r ix

/-- A register of a Mangle die's window that shows other state (R494, R544, R566, R588). -/
def State.viewMangle (s : State) (r : Reg) (ix : List Nat) : Word :=
  let d := ix.getD 0 0
  if r.is RNK_FENCE then
    fset (s.reg r ix) RNK_FENCE.IMG (if s.installed then (packBits 12 (fun l => (s.linkCfg l).role == 0)).toNat else 0)
  else if r.is TCK_INBOX_DATA then BitVec.ofNat 64 (leAt ((tget [] s.tacks.inbox d).headD []) (8 * ix.getD 1 0) 8)
  else if r.is TCK_BUF then fset (s.reg r ix) TCK_BUF.FILL (s.tackFill d)
  else if [LNK_LGC_ID, LNK_LGC_CRED, LNK_LGC_EVENT, LNK_LGC_TX, LNK_LGC_RX].any r.is then
    (if s.linkProfile (6 * (d - 8) + ix.getD 1 0) = 0 then 0 else s.reg r ix)
  else s.reg r ix

/-! ### The control die -/

/-- A register of the interrupt controller (R621 to R633, R658). -/
def State.viewIcu (s : State) (r : Reg) (ix : List Nat) : Word :=
  let n := ix.getD 0 0
  let x := s.target n
  if r.is ICU_SRC then (if s.hasSource n then fset (s.reg r ix) ICU_SRC.LEVEL (b2n (s.levelSource n)) else 0)
  else if r.is ICU_PENDING then packBits 32 (fun i => s.bit ICU_SRC [32 * n + i] ICU_SRC.PENDING)
  else if r.is ICU_ACTIVE then packBits 32 (fun i => s.bit ICU_SRC [32 * n + i] ICU_SRC.ACTIVE)
  else if r.is ICU_ENABLE then
    (if ix.getD 1 0 = 0 then fset (s.reg r ix) ⟨1, 1⟩ (b2n (n == s.icu.superTgt)) else s.reg r ix)
  else if r.is ICU_TSTAT then
    packF [(ICU_TSTAT.DEPTH, x.stack.length), (ICU_TSTAT.RUNPRIO, x.running), (ICU_TSTAT.FROZEN, b2n x.frozen),
      (ICU_TSTAT.LINE, b2n (s.selection n).isSome), (ICU_TSTAT.WAKE, b2n (s.wakeCore (n / 2)))]
  else if r.is ICU_STACK then
    (match x.stack[ix.getD 1 0]? with
    | some e => packF [(ICU_STACK.SOURCE, e.1), (ICU_STACK.PRIO, e.2)]
    | none => 0)
  else s.reg r ix

/-- The registers of a notice unit read 0 when the unit is reserved or absent (R808). -/
def State.viewNotice (s : State) (r : Reg) (ix : List Nat) : Word := if s.noticeHas (ix.getD 0 0) then s.reg r ix else 0

/-- What a read of a register returns, whoever reads and before what the read itself changes (R17). -/
def State.view (s : State) (r : Reg) (ix : List Nat) : Word :=
  match r.dies with
  | some (0, 9) => s.viewScore r (ix.getD 0 0)
  | some (0, 7) =>
    if r.is PRS_DIE_RUN then packBits 32 (fun k => s.pressRuns (32 * ix.getD 0 0 + k))
    else if r.is PRS_DIE_PAUSED then packBits 32 (fun k => s.allPaused (32 * ix.getD 0 0 + k))
    else if r.is BLT_TALLY then
      packF [(BLT_TALLY.COUNT, tget 0 s.score.tallies (256 * ix.getD 0 0 + s.getF BLT_TALLY_SEL ix BLT_TALLY_SEL.TALLY))]
    else s.viewPress r ix
  | some _ => s.viewMangle r ix
  | none =>
    if 0x0160_0000 ≤ r.off ∧ r.off < 0x0170_0000 then s.viewMem r ix
    else if 0x0010_0000 ≤ r.off ∧ r.off < 0x0014_0000 then s.viewIcu r ix
    else if 0x0018_0000 ≤ r.off ∧ r.off < 0x0020_0000 then s.viewNotice r ix
    else if r.is MSIX_PBA then packBits 18 (fun i => s.front.msixHeld.contains i)
    else if r.is SM_STATUS then s.smStatus
    else if r.is SM_ROLLBACK then s.smRollback
    else if r.is SM_DEBUG then fset (s.reg r ix) SM_DEBUG.DISABLE_FUSE (b2n s.fuses.debugDisable)
    else s.reg r ix

end Sys2Proof.Machine
end

