-- ==== Sys2Proof/Machine/Access.lean ====
section
/-! DEFINITION. Accesses to BAR0 (R8 to R24): which registers an access reaches, what it reads, and what a write changes. -/

namespace Sys2Proof.Machine

/-! ### Where an access is aimed -/

/-- An access that breaks R22: of another size than 4 or 8 bytes, not aligned to it, or a 64-bit one to a per-target block of the interrupt
controller (R659). -/
def accessBad (a n : Nat) : Bool :=
  (n != 4 && n != 8) || a % n != 0 || (n == 8 && decide (0x0010_4000 ≤ a) && decide (a < 0x0010_6000))

/-- A piece of an access that falls in one register: its bytes from `lo` on, `len` of them, at byte `pos` of the access. -/
structure RegPart where
  r : Reg
  ix : List Nat
  lo : Nat
  len : Nat
  pos : Nat
  deriving DecidableEq, Repr

/-- What a 32-bit access reaches: a 32-bit register, or a half of a 64-bit one (R23). -/
def partAt4 (a pos : Nat) : List RegPart :=
  match regAt a with
  | some (r, ix) => [⟨r, ix, 0, 4, pos⟩]
  | none =>
    if a % 8 = 4 then
      (match regAt (a - 4) with
      | some (r, ix) => if r.width = 64 then [⟨r, ix, 4, 4, pos⟩] else []
      | none => [])
    else []

/-- What an access of `n` bytes at `a` reaches (R23): a register, a half of one, or two 32-bit registers. Empty at reserved offsets. -/
def regParts (a n : Nat) : List RegPart :=
  if n = 8 then
    match regAt a with
    | some (r, ix) => if r.width = 64 then [⟨r, ix, 0, 8, 0⟩] else ⟨r, ix, 0, 4, 0⟩ :: partAt4 (a + 4) 4
    | none => partAt4 (a + 4) 4
  else partAt4 a 0

/-! ### Reads -/

/-- The SM_MBOX registers, which only cores in M mode reach (R880). -/
def Reg.isMbox (r : Reg) : Bool := r.is SM_MBOX_SLOT || r.is SM_MBOX_CPL || r.is SM_MBOX_CTRL

/-- What a part of a read returns. -/
def State.readPart (s : State) (w : Who) (x : RegPart) : Nat :=
  if x.r.is ICU_CLAIM then (if Who.isCore w && !s.dieInReset 10 then (s.claim (x.ix.getD 0 0)).front.readData.toNat else 0)
  else if x.r.is PRS_BOARD_DATA then (s.boardDebugRead (32 * x.ix.getD 0 0 + x.ix.getD 1 0) x.lo x.len).2
  else if x.r.isMbox && !Who.mMode w then 0
  else (s.view x.r x.ix).toNat / 2 ^ (8 * x.lo) % 2 ^ (8 * x.len)

/-- The bits of a register that a part reaches. -/
def RegPart.mask (x : RegPart) : Word := BitVec.ofNat 64 ((2 ^ (8 * x.len) - 1) * 2 ^ (8 * x.lo))

/-- What a part of a read changes: its RC fields clear (R17), a claim claims (R634), and a debug read of a Board advances (R204). -/
def State.readEffect (s : State) (w : Who) (x : RegPart) : State :=
  if x.r.is ICU_CLAIM then (if Who.isCore w && !s.dieInReset 10 then s.claim (x.ix.getD 0 0) else s)
  else if x.r.is PRS_BOARD_DATA then (s.boardDebugRead (32 * x.ix.getD 0 0 + x.ix.getD 1 0) x.lo x.len).1
  else s.setReg x.r x.ix (s.reg x.r x.ix &&& ~~~ (x.r.bitsOf .rc &&& x.mask))

/-- A read of registers: both halves of a 64-bit access are taken together (R23). Its result is `Front.readData`. -/
def State.regRead (s : State) (w : Who) (a n : Nat) : State :=
  let ps := regParts a n
  let v := ps.foldl (fun m x => m + s.readPart w x * 2 ^ (8 * x.pos)) 0
  (ps.foldl (fun s x => s.readEffect w x) s).readAs (BitVec.ofNat 64 v)

/-! ### Writes -/

/-- A write to one register: the bits it reaches, and the data at their places. -/
structure RegWrite where
  who : Who
  r : Reg
  ix : List Nat
  mask : Word
  data : Word
  deriving DecidableEq, Repr

/-- Index i of the written register. -/
def RegWrite.i (x : RegWrite) (k : Nat) : Nat := x.ix.getD k 0

/-- The write is of a 1 to bit `i`. -/
def RegWrite.hot (x : RegWrite) (i : Nat) : Bool := bitOf x.data i

/-- What the register holds after the write if every bit reached is replaced (DEDUCED, log entry 37). -/
def State.merged (s : State) (x : RegWrite) : Word := (s.reg x.r x.ix &&& ~~~ x.mask) ||| x.data

/-- The access codes of R17: RW bits take the data, W1C bits clear, W1S bits set; RWL bits as `lock` says. -/
def State.plainWrite (s : State) (x : RegWrite) (open_ : Bool) : State :=
  let m := (x.r.bitsOf .rw ||| (if open_ then x.r.bitsOf .rwl else 0)) &&& x.mask
  let v := (s.reg x.r x.ix &&& ~~~ m) ||| (x.data &&& m)
  s.setReg x.r x.ix ((v &&& ~~~ (x.data &&& x.r.bitsOf .w1c)) ||| (x.data &&& x.r.bitsOf .w1s))

/-- A field in which a write of 0 stores 1. -/
def State.atLeast1 (s : State) (r : Reg) (ix : List Nat) (f : Fld) : State := if s.getF r ix f = 0 then s.setF r ix f 1 else s

/-- A field in which a write above `n` stores `n`. -/
def State.atMost (s : State) (r : Reg) (ix : List Nat) (f : Fld) (n : Nat) : State := if n < s.getF r ix f then s.setF r ix f n else s

/-- Fields that clear once a flag of the register reads 0. -/
def State.clearsWith (s : State) (r : Reg) (ix : List Nat) (flag : Fld) (l : List (Reg × Fld)) : State :=
  if s.bit r ix flag then s else l.foldl (fun s x => s.setF x.1 ix x.2 0) s

/-- Writes to a Conductor's group and to the Press dies' own registers (R124, R205, R210, R215, R342, R520). -/
def State.writePressDie (s : State) (x : RegWrite) : State :=
  let d := x.i 0
  let p := 32 * d + x.i 1
  let plain := s.plainWrite x false
  if x.r.is SCR_TEMPO_FAULT then
    plain.clearsWith x.r x.ix SCR_TEMPO_FAULT.FAULT
      [(x.r, SCR_TEMPO_FAULT.CAUSE), (x.r, SCR_TEMPO_FAULT.PORT), (x.r, SCR_TEMPO_FAULT.ERROR)]
  else if x.r.is SCR_FAULT then
    (if plain.bit SCR_FAULT x.ix SCR_FAULT.FAULT then plain
    else ((plain.setF SCR_FAULT x.ix SCR_FAULT.CAUSE 0).setF SCR_FAULT x.ix SCR_FAULT.PRESS 0xFF).setF SCR_FAULT_ENTRY x.ix SCR_FAULT_ENTRY.ENTRY 0)
  else if x.r.is PRS_CTRL then
    let s := if x.hot 1 then s.clrPressCounts p else s
    (if x.hot 0 then s.setPause p else if s.bit PRS_CTRL x.ix PRS_CTRL.PAUSE && bitOf x.mask 0 then s.clearPause p else s)
  else if x.r.is PRS_BOARD_DATA then
    let lo := if bitOf x.mask 0 then 0 else 4
    let n := if bitOf x.mask 63 then 8 - lo else 4
    s.boardDebugWrite p lo (leBytes n (x.data.toNat / 2 ^ (8 * lo)))
  else if x.r.is SCT_BANKMASK then s.writeGate p (x.i 2) (fget x.data SCT_BANKMASK.GATE)
  else if x.r.is SCT_TSTART then s.writeTstart p (x.i 2) (fget x.data SCT_TSTART.ROW)
  else if x.r.is TCK_BUDGET then
    let b := fget x.data TCK_BUDGET.BUDGET
    (if b = 0 ∨ 64 < b ∨ s.getF TCK_BUDGET x.ix TCK_BUDGET.OUTSTANDING ≠ 0 ∨ s.busyTempo then s
    else (s.setF TCK_BUDGET x.ix TCK_BUDGET.BUDGET b).setTokens d (s.tokens d))
  else if x.r.is TCK_CFG then plain.atLeast1 x.r x.ix TCK_CFG.ACK_US
  else plain

/-- Writes to the Mangle dies' windows (R427, R502, R523, R528, R543, R544, R546, R566, R582, R796). -/
def State.writeMangle (s : State) (x : RegWrite) : State :=
  let d := x.i 0
  let l := 6 * (d - 8) + x.i 1
  let plain := s.plainWrite x false
  if x.r.is LNK_CTRL then
    let t := plain.setF LNK_CTRL x.ix LNK_CTRL.ENABLE (s.getF LNK_CTRL x.ix LNK_CTRL.ENABLE)
    let t := (t.atLeast1 x.r x.ix LNK_CTRL.RETRY_MS).atLeast1 x.r x.ix LNK_CTRL.UNCORR_MAX
    let t := if x.hot 1 then t.clrLinkCounts l else t
    (if x.hot 0 then (t.setF LNK_CTRL x.ix LNK_CTRL.ENABLE 1).linkStart l
    else if s.bit LNK_CTRL x.ix LNK_CTRL.ENABLE then t.linkOff l else t)
  else if x.r.is BLT_CFG then (plain.atLeast1 x.r x.ix BLT_CFG.KNOT_BARS).atLeast1 x.r x.ix BLT_CFG.RESEND_WARN
  else if x.r.is TCK_MCFG then plain.atLeast1 x.r x.ix TCK_MCFG.ACK_US
  else if x.r.is TCK_GRID then s.writeGrid d (s.merged x)
  else if x.r.is TCK_CSEND_CTRL then (if x.hot 0 then plain.csendGo d else plain)
  else if x.r.is TCK_INBOX_CTRL then (if x.hot 16 then s.popInbox d else s)
  else if x.r.is RNK_CHIP then s.writeChip d (fget x.data RNK_CHIP.CHIP)
  else if x.r.is RNK_FENCE then s.writeFence d (fget x.data RNK_FENCE.SW)
  else if x.r.is RNK_EVENT then plain.clearsWith x.r x.ix RNK_EVENT.MISS [(x.r, RNK_EVENT.MISS_RANK)]
  else if x.r.is LNK_LGC_ID then s.writeLgcId l (s.merged x)
  else if x.r.is LNK_LGC_EVENT then (if s.linkProfile l = 0 then s else plain)
  else if x.r.is LIN_CFG then plain.atMost x.r x.ix LIN_CFG.FLOOR 11328
  else plain

/-- Writes to the memory controllers' windows (R355, R391, R393, R398). -/
def State.writeMemReg (s : State) (x : RegWrite) : State :=
  let n := x.i 0
  let locked := s.bit MEM_STATUS [n] MEM_STATUS.TRAINED || s.bit MEM_STATUS [n] MEM_STATUS.SELF_REFRESH
  let plain := s.plainWrite x !locked
  if x.r.is MEM_CFG then (plain.atLeast1 x.r x.ix MEM_CFG.SCRUB_HOURS).atLeast1 x.r x.ix MEM_CFG.WAIT_US
  else if x.r.is MEM_CE_LIMIT then plain.atLeast1 x.r x.ix MEM_CE_LIMIT.LIMIT
  else if x.r.is MEM_ERR then
    (if plain.bit MEM_ERR x.ix MEM_ERR.CE_OVER then plain else plain.setPort n { plain.port n with ceSince := 0 })
  else if x.r.is MEM_UE_HOLD then (if x.hot 63 then s.retryHeld n else s)
  else if x.r.is MEM_STRAY then plain.clearsWith x.r x.ix MEM_STRAY.STRAY [(x.r, MEM_STRAY.COUNT)]
  else if x.r.is MEM_QCTL then (if x.hot 0 then s.clrQueueCounts (32 * n + x.i 1) else s)
  else plain

/-- Writes to the interrupt controller and the event arbiter (R626 to R661). -/
def State.writeIcu (s : State) (x : RegWrite) : State :=
  let n := x.i 0
  let plain := s.plainWrite x false
  let v := x.data.toNat
  if x.r.is ICU_SRC then s.writeSrc n (fget x.data ICU_SRC.PRIO)
  else if x.r.is ICU_SETPEND then s.setPend (v % 1024)
  else if x.r.is ICU_CFG then plain.superWritten
  else if x.r.is ICU_STACK_RESET then (if Who.isCore x.who then s.resetStacks v else s)
  else if x.r.is ICU_COMPLETE then (if Who.isCore x.who then s.completeSource n (v % 1024) else s)
  else if x.r.is ICU_ENABLE then (if x.i 1 = 0 then plain.setF ICU_ENABLE x.ix ⟨1, 1⟩ 0 else plain)
  else if x.r.is EVA_CFG then s.writeEvaCfg (s.merged x)
  else if x.r.is EVA_BASE then s.writeEvaBase (s.merged x)
  else if x.r.is EVA_RD then s.writeEvaRd v
  else if x.r.is EVA_SW then s.sendEvent 10 0x03 v
  else plain

/-- Writes to the host command interface and to E0's queues (R673, R677, R678, R685, R730, R732). -/
def State.writeHostIf (s : State) (x : RegWrite) : State :=
  let n := x.i 0
  if x.r.is CMD_RING_CFG then s.writeRingCfg n (s.merged x).toNat
  else if x.r.is CMD_RING_BASE then s.writeRingBase x.who false n (s.merged x).toNat
  else if x.r.is CMD_CPL_BASE then s.writeRingBase x.who true n (s.merged x).toNat
  else if x.r.is CMD_DB_TAIL then (if s.doorbellOk x.who false n then s.tailDoorbell n x.data.toNat else s)
  else if x.r.is CMD_DB_HEAD then (if s.doorbellOk x.who false n then s.headDoorbell n x.data.toNat else s)
  else if x.r.is MSIX_CTRL then (s.plainWrite x false).sendMsix
  else if x.r.is ETH_QDB then s.ethTail n (fget x.data ETH_QDB.IDX)
  else if x.r.is ETH_QCPL then s.ethCplHead n (fget x.data ETH_QCPL.IDX)
  else s.plainWrite x false

/-- Writes to the notice units (R809, R812, R815): a reserved or absent unit ignores them (R808). -/
def State.writeNotice (s : State) (x : RegWrite) : State :=
  let u := x.i 0
  if !s.noticeHas u then s
  else if x.r.is NTC_MARKS then s.writeMarks u 0 (s.merged x)
  else if x.r.is NTC_LEVEL then s.writeLevel u x.data.toNat
  else if x.r.is NTC_CTRL then (if x.hot 0 then s.clrUpcount u else s)
  else s.plainWrite x false

/-- Writes to the clock, reset and power block and to the security module's mailbox (R150, R819, R831, R843, R848, R880). -/
def State.writeAon (s : State) (x : RegWrite) : State :=
  let plain := s.plainWrite x false
  if x.r.is CLK_REF_CFG then s.writeRefCfg (s.merged x).toNat
  else if x.r.is CLK_FWD_CFG then s.writeFwdCfg (s.merged x).toNat
  else if x.r.is RST_COLD then s.writeRstCold x.who x.data.toNat
  else if x.r.is RST_GIVEUP then plain.atLeast1 x.r x.ix RST_GIVEUP.GIVEUP_US
  else if x.r.is RST_EVENT then plain.clearsWith x.r x.ix RST_EVENT.STREAM_ENDED [(RST_ENDED, RST_ENDED.COUNT)]
  else if x.r.is PWR_THERM then
    (List.range 8).foldl (fun s d => if s.hasDie d then s.throttle d else s) (plain.atMost x.r x.ix PWR_THERM.THROT 105)
  else if x.r.is AON_FW then plain.atLeast1 x.r x.ix AON_FW.LIMIT_MS
  else if x.r.is SM_MBOX_SLOT then (if Who.mMode x.who then plain else s)
  else if x.r.is SM_MBOX_CTRL then s.mboxCtrl x.who x.data none
  else plain

/-- Writes to the global block, Unison and telemetry (R9, R14, R778, R907). -/
def State.writeGlobal (s : State) (x : RegWrite) : State :=
  let plain := s.plainWrite x false
  if x.r.is GLB_ABSENT_ACCESS then
    plain.clearsWith x.r x.ix GLB_ABSENT_ACCESS.ACCESS [(x.r, GLB_ABSENT_ACCESS.COUNT), (x.r, GLB_ABSENT_ACCESS.FIRST_MB)]
  else if x.r.is UN_STATUS then
    plain.clearsWith x.r x.ix UN_STATUS.MISMATCH [(x.r, UN_STATUS.CAUSE), (x.r, UN_STATUS.UNIT), (x.r, UN_STATUS.STREAM), (UN_SBAR, UN_SBAR.SBAR),
      (UN_OWN, UN_OWN.DIGEST), (UN_PEER, UN_PEER.DIGEST)]
  else if x.r.is TEL_CLR then (if x.hot 0 then s.telClear else s)
  else plain

/-- A write to one register (R17, R23): none while the unit that holds it is in reset or folded (DEDUCED, log entry 32)
(DEDUCED, log entry 36). -/
def State.writeOne (s : State) (x : RegWrite) : State :=
  if s.regAway x.r x.ix then s
  else match x.r.dies with
    | some (0, 7) => s.writePressDie x
    | some (0, 9) => s.writePressDie x
    | some (8, 9) => s.writeMangle x
    | some _ => s.plainWrite x false
    | none =>
      let o := x.r.off
      if o < 0x0010_0000 then s.writeGlobal x
      else if o < 0x0018_0000 then s.writeIcu x
      else if o < 0x0020_0000 then s.writeNotice x
      else if o < 0x0040_0000 then s.writeAon x
      else if o < 0x0160_0000 then s.writeHostIf x
      else if o < 0x0170_0000 then s.writeMemReg x
      else s.writeGlobal x

/-- A write of `n` bytes at `a`, of the low bytes of `v`: both halves act (R23). -/
def State.regWrite (s : State) (w : Who) (a n v : Nat) : State :=
  (regParts a n).foldl (fun s x =>
    s.writeOne ⟨w, x.r, x.ix, x.mask, BitVec.ofNat 64 (v / 2 ^ (8 * x.pos) % 2 ^ (8 * x.len) * 2 ^ (8 * x.lo))⟩) s

/-! ### Accesses that reach no register -/

/-- An access that breaks R22 sets CMD_ACCESS_FAULT, which records the first and fires vector 17 (R22, R683, R708). -/
def State.accessFault (s : State) (w : Who) (a : Nat) (write : Bool) : State :=
  if s.bit CMD_ACCESS_FAULT [] CMD_ACCESS_FAULT.FAULT then s
  else
    let s := s.setReg CMD_ACCESS_FAULT [] (packF [(CMD_ACCESS_FAULT.WRITE, b2n write), (CMD_ACCESS_FAULT.HOST, b2n (w == .host)),
      (CMD_ACCESS_FAULT.OFFSET, a)])
    (s.setLogged 10 CMD_ACCESS_FAULT [] CMD_ACCESS_FAULT.FAULT).fireMsix 17

/-- Where an aligned access of `n` bytes at `a` goes. -/
inductive Aim where
  | bad | absent | reserved | register
  deriving DecidableEq, Repr

/-- The order of R22: size and alignment first, then the window, then the registers. -/
def State.aim (s : State) (a n : Nat) : Aim :=
  if accessBad a n then .bad
  else if s.absentWindow a then .absent
  else if (regParts a n).isEmpty then .reserved
  else .register

/-- Any read of BAR0. -/
def State.busRead (s : State) (w : Who) (a n : Nat) : State :=
  match s.aim a n with
  | .bad => (s.accessFault w a false).readAs 0
  | .absent => (s.absentAccess a false).readAs 0
  | .reserved => s.readAs 0
  | .register => s.regRead w a n

/-- Any write of BAR0. -/
def State.busWrite (s : State) (w : Who) (a n v : Nat) : State :=
  match s.aim a n with
  | .bad => s.accessFault w a true
  | .absent => s.absentAccess a true
  | .reserved => s
  | .register => s.regWrite w a n v

/-! ### The rows -/

/-- REGISTER_WRITE (R17 to R23). -/
def execRegisterWrite (w : Who) (a : BitVec 26) (n : Fin 65) (v : Word) (s : State) : Host.Outcome State Fault Refusal :=
  .next (if s.aim a.toNat n == .register then s.busWrite w a.toNat n v.toNat else s)

/-- RC_REGISTER_READ (R17, R20, R23): a read of a register, whose RC fields then clear. -/
def execRcRegisterRead (w : Who) (a : BitVec 26) (n : Fin 65) (s : State) : Host.Outcome State Fault Refusal :=
  .next (if s.aim a.toNat n == .register then s.busRead w a.toNat n else s)

/-- ABSENT_UNIT_READ (R8, R14). -/
def execAbsentUnitRead (w : Who) (a : BitVec 26) (n : Fin 65) (s : State) : Host.Outcome State Fault Refusal :=
  .next (if s.aim a.toNat n == .absent then s.busRead w a.toNat n else s)

/-- ABSENT_UNIT_WRITE (R9, R14). -/
def execAbsentUnitWrite (w : Who) (a : BitVec 26) (n : Fin 65) (v : Word) (s : State) : Host.Outcome State Fault Refusal :=
  .next (if s.aim a.toNat n == .absent then s.busWrite w a.toNat n v.toNat else s)

/-- RESERVED_OFFSET_ACCESS (R13): a read, or a write when there is data. -/
def execReservedOffsetAccess (w : Who) (a : BitVec 26) (n : Fin 65) (v : Option Word) (s : State) : Host.Outcome State Fault Refusal :=
  .next (if s.aim a.toNat n == .reserved then (match v with
    | none => s.busRead w a.toNat n
    | some d => s.busWrite w a.toNat n d.toNat) else s)

/-- MISALIGNED_REG_ACCESS (R22, R659): a read, or a write when there is data. -/
def execMisalignedRegAccess (w : Who) (a : BitVec 26) (n : Fin 65) (v : Option Word) (s : State) : Host.Outcome State Fault Refusal :=
  .next (if s.aim a.toNat n == .bad then (match v with
    | none => s.busRead w a.toNat n
    | some d => s.busWrite w a.toNat n d.toNat) else s)

end Sys2Proof.Machine
end

