-- ==== Sys2Proof/Machine/Arb.lean ====
section
/-! DEFINITION. The events and commands of the event arbiter (R644 to R661). -/

namespace Sys2Proof.Machine

/-- EVENT_STAMP (R644 to R646): the arbiter stamps the oldest event of die d, or first the LOST record of that die's drops. -/
def execEventStamp (d : Fin 12) (s : State) : Host.Outcome State Fault Refusal :=
  .next (
    let dn : Nat := d
    let k := tget 0 s.arb.drops dn
    match s.arb.queue.find? (fun e => e.die == dn) with
    | none => s
    | some e =>
      if s.dieInReset 10 then s
      else if k ≠ 0 then
        s.evaChange (fun s => (({ s with arb := { s.arb with drops := tput 0 s.arb.drops dn 0 } }).evaLose k).stamp (lostEv dn k 0xFFFF_FFFF))
      else s.evaChange (fun s => ({ s with arb := { s.arb with queue := dropFirst (fun x => x == e) s.arb.queue } }).stamp e))

/-- EVENT_RECORD_WRITE (R652, R653, R847): the oldest staged record goes to the ring; `fail` is a host write that could not complete
(DEDUCED, log entry 25). -/
def execEventRecordWrite (fail : Bool) (s : State) : Host.Outcome State Fault Refusal :=
  .next (match s.arb.staged with
    | [] => s
    | r :: rest =>
      let host := s.bit EVA_CFG [] EVA_CFG.HOST
      let at_ := s.getF EVA_BASE [] EVA_BASE.BASE * 4096 + 32 * (s.getF EVA_WR [] EVA_WR.INDEX % 2 ^ s.getF EVA_CFG [] EVA_CFG.LOG2N)
      if s.dieInReset 10 ∨ !s.bit EVA_CFG [] EVA_CFG.ENABLE ∨ s.evaFull then s
      else if host ∧ (fail ∨ !s.hostReach) then (if fail then s.setBit EVA_STATUS [] EVA_STATUS.WRITE_FAIL else s)
      else if !host ∧ (s.bit AON_FW [] AON_FW.ACTIVATING ∨ (stacksOf at_ 32).any (fun n => !s.stackUp n)) then s
      else s.evaChange (fun s =>
        let s := if host then s.hostWrite at_ r.bytes else s.writeMem at_ r.bytes
        (({ s with arb := { s.arb with staged := rest } }).setF EVA_WR [] EVA_WR.INDEX (s.getF EVA_WR [] EVA_WR.INDEX + 1)).coverLost))

/-- SOFTWARE_EVENT (R650): a write to EVA_SW. -/
def execSoftwareEvent (v : Word) (s : State) : Host.Outcome State Fault Refusal :=
  .next (if s.dieInReset 10 then s else s.sendEvent 10 0x03 v.toNat)

/-- EVA_RD_WRITE (R661). -/
def execEvaRdWrite (v : BitVec 32) (s : State) : Host.Outcome State Fault Refusal :=
  .next (if s.dieInReset 10 then s else s.writeEvaRd v.toNat)

/-- EVENT_LOG_CONFIG (R656, R657) (DEDUCED, log entry 24). -/
def execEventLogConfig (c : Cmd) (s : State) : Host.Outcome State Fault Refusal :=
  .next (s.runCmd c 0x0602 (fun s =>
    let base := c.par 0 8
    let l := c.par 8 1
    let fl := c.par 9 1
    let same := base == s.getF EVA_BASE [] EVA_BASE.BASE * 4096 && l == s.getF EVA_CFG [] EVA_CFG.LOG2N &&
      fl / 2 % 2 == s.getF EVA_CFG [] EVA_CFG.HOST
    if l < 8 ∨ 20 < l ∨ base % 4096 ≠ 0 ∨ (fl / 2 % 2 = 0 ∧ !rangeInCarve base (32 * 2 ^ l)) ∨ 8 ≤ fl ∨ c.par 10 2 = 0 ∨ !c.parZero 12 4 ∨
        (!same ∧ fl / 4 % 2 = 0) then s.complete c stBadParam []
    else
      let s := s.evaChange (fun s =>
        let s := (s.setF EVA_CFG [] EVA_CFG.ENABLE 0).setF EVA_BASE [] EVA_BASE.BASE (base / 4096)
        let s := ((s.setF EVA_CFG [] EVA_CFG.LOG2N l).setF EVA_CFG [] EVA_CFG.HOST (fl / 2)).setF EVA_CFG [] EVA_CFG.THRESH (c.par 10 2)
        let s := if fl / 4 % 2 = 1 then (s.setF EVA_WR [] EVA_WR.INDEX 0).setF EVA_RD [] EVA_RD.INDEX 0 else s
        s.setF EVA_CFG [] EVA_CFG.ENABLE fl)
      s.complete c stOk (leBytes 8 (s.getF EVA_SEQ [] EVA_SEQ.NEXT) ++ leBytes 4 (s.getF EVA_LOST [] EVA_LOST.COUNT))))

end Sys2Proof.Machine
end

