-- ==== Sys2Proof/Machine/Desks.lean ====
section
/-! DEFINITION. What a Conductor does at its desk entries: moves, takes, cues, fermata entries, patch points
(06_conductor.md, section 5). -/

namespace Sys2Proof.Machine

/-! ### The entry at the pointer -/

/-- The Conductor of die d may act on the entry at its pointer: Score time plays, the bar is not held, and the entry belongs to
the current Score bar (R305, R306, R309). In a replay
only Press-die Conductors play (R783). -/
def State.deskEntry (s : State) (d : Nat) : Option DeskEntry :=
  let c := s.conductor d
  if s.tempo.running && !s.tempo.held && s.dieUp d && c.unacted s.tempo.sbar && (!s.replaying || decide (d < 8)) then c.entry
  else none

/-- The pointer passes the entry, and the beat is at least the entry's own (R305). -/
def State.passEntry (s : State) (d : Nat) (beat : Nat) : State :=
  let c := s.conductor d
  ((s.setConductor d { c with ptr := c.ptr + 1 }).setTempo (s.tempo.atBeat beat)).replayLog

/-- The block sums of the open repeats (R308). -/
def Conductor.offsets (c : Conductor) : Nat × Nat :=
  c.reps.foldl (fun a r => (a.1 + r.iter * r.bstep, a.2 + r.iter * r.dstep)) (0, 0)

/-! ### Moves -/

/-- A send enters the departure rules (R314 to R316, R485, R487): it departs, waits, is refused for its source Press, or is
refused because its stream has ended. -/
def State.newSend (s : State) (d entry : Nat) (w : WaitSend) (free : Bool) : State :=
  let p := 32 * d + w.src
  if s.pressFolded p then s.scoreFaultReq d 4 w.src entry
  else if s.pressInReset p then s.scoreFaultReq d 5 w.src entry
  else if tget 0 s.score.ended w.stream != 0 then s.setBit BLT_PFAULT [d] BLT_PFAULT.ENDED_SEND
  else
    match s.trySend w s.score.sends free 0 true with
    | (s, none) => s
    | (s, some w) => { s with score := { s.score with sends := s.score.sends ++ [w] } }

/-- MOVE_SEND (R305, R308, R314 to R316, R485 to R487): the Conductor of Press die d acts on a MOVE send; `free` tells whether
its output slots are free. -/
def execMoveSend (d : Fin 8) (free : Bool) (s : State) : Host.Outcome State Fault Refusal :=
  .next (match s.deskEntry d with
    | some (.send x beat src slot width sblk lines tally stream drank dpress dblk route) =>
      let c := s.conductor d
      let o := if x then c.offsets else (0, 0)
      (s.passEntry d beat).newSend d c.ptr
        { die := d, src := src, slot := slot, width := width, sblk := (sblk + o.1) % 2048, lines := lines, tally := tally
          stream := stream, drank := drank, dpress := dpress, dblk := (dblk + o.2) % 2048, route := route, sbar := s.tempo.sbar, late := false
          full := false, win := false, quo := false } free
    | _ => s)

/-- A send in the list of waiting ones, by its place: it departs or goes on waiting. A send whose stream has ended since leaves the
list (R487), and one whose source Press is away is not retried (R316). -/
def State.departAt (s : State) (i : Nat) (free : Bool) (beats : Nat) : State :=
  match s.score.sends[i]? with
  | none => s
  | some w =>
    let p := 32 * w.die + w.src
    let out (s : State) : State := { s with score := { s.score with sends := s.score.sends.eraseIdx i } }
    if s.pressFolded p then (out s).scoreFaultReq w.die 4 w.src (s.conductor w.die).ptr
    else if s.pressInReset p then (out s).scoreFaultReq w.die 5 w.src (s.conductor w.die).ptr
    else if tget 0 s.score.ended w.stream != 0 then (out s).setBit BLT_PFAULT [w.die] BLT_PFAULT.ENDED_SEND
    else
      match s.trySend w (s.score.sends.take i) free beats false with
      | (s, none) => out s
      | (s, some w) => { s with score := { s.score with sends := s.score.sends.set i w } }

/-- BOLT_DEPARTURE (R107, R315, R485, R486): the n-th waiting send of Press die d departs, after `beats` more beats of waiting, when
its conditions hold; `free` tells whether its output slots are free. Nothing departs in a held bar. -/
def execBoltDeparture (d : Fin 8) (n : Nat) (free : Bool) (beats : Nat) (s : State) : Host.Outcome State Fault Refusal :=
  .next (
    if s.tempo.running && !s.tempo.held then
      let at_ := (List.range s.score.sends.length).filter (fun i => (s.score.sends[i]?).any (fun w => w.die == (d : Nat)))
      match at_[n]? with
      | some i => s.departAt i free beats
      | none => s
    else s)

/-- MOVE_TAKE (R305, R317): a Mangle die's Conductor acts on a take: the oldest bolt held for its link goes on, or the take waits. -/
def execMoveTake (m : Fin 2) (free : Bool) (s : State) : Host.Outcome State Fault Refusal :=
  .next (
    let d := 8 + (m : Nat)
    match s.deskEntry d with
    | some (.take beat link) =>
      let l := 6 * (m : Nat) + link
      let s := s.passEntry d beat
      let queue (s : State) : State := { s with score := { s.score with takes := s.score.takes ++ [l] } }
      if s.score.takes.contains l then queue s
      else match s.takeBolt l free with
        | some s => s
        | none => queue s
    | _ => s)

/-- TAKE_DEFERRED (R317): after `beats` beats of waiting, the oldest waiting take of link l releases the oldest bolt held. -/
def execTakeDeferred (l : Fin 12) (beats : Nat) (free : Bool) (s : State) : Host.Outcome State Fault Refusal :=
  .next (
    if s.score.takes.contains l then
      match s.takeBolt l free with
      | some t => ({ t with score := { t.score with takes := dropFirst (fun x => x == (l : Nat)) t.score.takes } }).incF
          SCR_TAKE_WAITS [8 + l / 6] SCR_TAKE_WAITS.COUNT beats
      | none => s
    else s)

/-! ### Cues -/

/-- A tally (R494). -/
def State.tally (s : State) (d t : Nat) : Nat := tget 0 s.score.tallies (256 * d + t)

/-- Every tally of a cue has reached its NEED (R319). -/
def State.cueReady (s : State) (d : Nat) (c : CueWait) : Bool := c.conds.all (fun x => decide (x.2 ≤ s.tally d x.1))

/-- SCR_CUEQ_PEAK follows the queue (SCR_STATUS.CUEQ and CUEHOLD are read from it). -/
def State.syncCues (s : State) (d : Nat) : State :=
  s.peakF SCR_CUEQ_PEAK [d] SCR_CUEQ_PEAK.PEAK (s.conductor d).pend.length

/-- A cue fires (R319): it subtracts its NEEDs and goes on its way to the Presses (R154). -/
def State.fireCue (s : State) (d : Nat) (c : CueWait) : State :=
  let sub (s : State) (x : Nat × Nat) : State :=
    { s with score := { s.score with tallies := tput 0 s.score.tallies (256 * d + x.1) (s.tally d x.1 - x.2) }
             books := { s.books with consumed := tput 0 s.books.consumed d (tget 0 s.books.consumed d + x.2) } }
  let s := c.conds.foldl sub s
  s.setConductor d { s.conductor d with fired := (s.conductor d).fired ++ [c] }

/-- CUE (R305, R319, R321): a CUE entry fires, joins the 64 pending cues, or is held. -/
def execCue (d : Fin 8) (s : State) : Host.Outcome State Fault Refusal :=
  .next (match s.deskEntry d with
    | some (.cue beat pmask line sm conds) =>
      let i := (s.conductor d).ptr
      let c : CueWait := ⟨i, pmask, line, sm, conds⟩
      let s := s.passEntry d beat
      let x := s.conductor d
      if x.heldCues.isEmpty && s.cueReady d c then s.fireCue d c
      else if x.heldCues.isEmpty && decide (x.pend.length < 64) then
        (s.setConductor d { x with pend := x.pend ++ [c] }).syncCues d
      else
        let s := (s.setConductor d { x with heldCues := x.heldCues ++ [c] }).syncCues d
        if x.pend.length < 64 then s else s.scoreFaultReq d 1 0xFF i
    | _ => s)

/-- The pending cues tested oldest first; at most `n` of them fire (R320). -/
def State.firePending (d : Nat) : Nat → List CueWait → State → State
  | _, [], s => s
  | 0, _, s => s
  | n + 1, c :: cs, s =>
    if s.cueReady d c then
      let x := s.conductor d
      let s := (s.setConductor d { x with pend := dropFirst (fun y => y == c) x.pend }).fireCue d c
      State.firePending d n cs (s.incF SCR_LATE_CUES [d] SCR_LATE_CUES.COUNT 1)
    else State.firePending d (n + 1) cs s

/-- PENDING_CUE_FIRE (R318, R320): in a beat that is not held, the pending cues of Press die d are tested. -/
def execPendingCueFire (d : Fin 8) (s : State) : Host.Outcome State Fault Refusal :=
  .next (
    if s.tempo.running && !s.tempo.held && s.dieUp d then
      (State.firePending d 8 (s.conductor d).pend s).syncCues d
    else s)

/-- HELD_CUE_ENQUEUE (R321): a held cue enters the queue as space frees. -/
def execHeldCueEnqueue (d : Fin 8) (s : State) : Host.Outcome State Fault Refusal :=
  .next (
    let x := s.conductor d
    match x.heldCues with
    | c :: cs =>
      if x.pend.length < 64 then (s.setConductor d { x with pend := x.pend ++ [c], heldCues := cs }).syncCues d else s
    | [] => s)

/-- One section takes a cue (R244 to R247): its count rises, or releases a CUEWAIT on that line at once. -/
def State.cueSection (s : State) (p k line : Nat) : State :=
  let x := s.sect p k
  let n := tget 0 x.cues line
  if n = 255 then s
  else
    let waits := x.st == .waiting && x.wait == .cue && (match decodeWord (tget 0 (s.prs p).part x.next) with
      | some ⟨_, _, .cuewait l⟩ => l == line
      | _ => false)
    if waits && n == 0 && s.pressUp p && !s.pressIdle p then s.setSect p k (x.goto (x.next + 1))
    else s.setSect p k { x with cues := tput 0 x.cues line (n + 1) }

/-- A fired cue becomes visible (R244, R247, R322). -/
def State.applyCue (s : State) (d : Nat) (c : CueWait) : State :=
  let ks := (List.range 32).filter (fun k => c.pmask.testBit k)
  let here := ks.filter (fun k => s.pressUp (32 * d + k))
  let secs := (List.range 4).filter (fun k => c.sm.testBit k)
  let full := here.find? (fun k => secs.any (fun j => tget 0 (s.sect (32 * d + k) j).cues c.line == 255))
  let s := here.foldl (fun s k => secs.foldl (fun s j => s.cueSection (32 * d + k) j c.line) s) s
  let s := match full with
    | some k => s.scoreFaultReq d 0 k c.entry
    | none => s
  let folded := ks.filter (fun k => s.pressFolded (32 * d + k))
  let inReset := ks.filter (fun k => !s.pressFolded (32 * d + k) && s.pressInReset (32 * d + k))
  let s := folded.foldl (fun s k => s.scoreFaultReq d 4 k c.entry) s
  inReset.foldl (fun s k => s.scoreFaultReq d 5 k c.entry) s

/-- CUE_ARRIVE (R154, R244): the oldest fired cue of Press die d becomes visible to its Presses. -/
def execCueArrive (d : Fin 8) (s : State) : Host.Outcome State Fault Refusal :=
  .next (
    let x := s.conductor d
    match x.fired with
    | c :: cs => (s.setConductor d { x with fired := cs }).applyCue d c
    | [] => s)

/-! ### Other entries -/

/-- FERMATA_ENTRY (R112 to R114): M0's Conductor acts on a FERMATA entry; its count goes to this bar's merge, which
has already taken it when it is done. -/
def execFermataEntry (s : State) : Host.Outcome State Fault Refusal :=
  .next (match s.deskEntry 8 with
    | some (.fermata beat count) =>
      let s := s.passEntry 8 beat
      if s.tempo.merged then s else s.setTempo { s.tempo with ferm := s.tempo.ferm ++ [⟨s.tempo.barno, count, .entry⟩] }
    | _ => s)

/-- DESK_NOP (R298): a NOP, the TEMPO entry or a bar's closing entry; the first two are passed, the last acts at the boundary. -/
def execDeskNop (d : Fin 10) (s : State) : Host.Outcome State Fault Refusal :=
  .next (match s.deskEntry d with
    | some .nop => s.passEntry d 0
    | some (.tempo ..) => s.passEntry d 0
    | _ => s)

/-- PATCHPOINT (R304): the pointer passes into the region. -/
def execPatchpoint (d : Fin 10) (s : State) : Host.Outcome State Fault Refusal :=
  .next (match s.deskEntry d with
    | some (.patchpoint _ _) => s.passEntry d 0
    | _ => s)

end Sys2Proof.Machine
end

