-- ==== Sys2Proof/Machine/EthCmds.lean ====
section
/-! DEFINITION. The commands of the Ports group (R748 to R751, R753). -/

namespace Sys2Proof.Machine

/-- A command to a port of E0: E0 folded or in reset answers for it (R753). -/
def State.ethCmd (s : State) (c : Cmd) (opcode : Nat) (body : Nat → State → State) : State :=
  s.runCmd c opcode (fun s =>
    if s.dieFolded 11 then s.complete c stUnitFolded []
    else if s.dieInReset 11 then s.complete c stUnitInReset []
    else body c.tIndex s)

/-- PORT_CONFIG (R748). -/
def execPortConfig (c : Cmd) (s : State) : Host.Outcome State Fault Refusal :=
  .next (s.ethCmd c 0x0801 (fun p s =>
    if 3 < c.par 0 1 ∨ 4 ≤ c.par 1 1 ∨ c.par 8 2 < 1518 ∨ 9216 < c.par 8 2 ∨ 2 < c.par 10 1 ∨ 8 ≤ c.par 11 1 ∨ !c.parZero 14 2 then
      s.complete c stBadParam []
    else if c.inlineLen ≠ 16 then s.complete c stBadLength []
    else if (portQueues p).any (fun q => s.bit ETH_QSTATUS [q] ETH_QSTATUS.ENABLED) then s.complete c stBusy []
    else
      let s := s.setEthPort p { s.ethPort p with
        autoneg := c.par 1 1 % 2 == 1
        mac := slice c.slot 18 6
        maxFrame := c.par 8 2
        defPri := c.par 11 1
        rbtPort := if c.par 12 2 = 0 then 21223 else c.par 12 2
        ip := c.inl }
      let s := ((s.setF ETH_PORT_STATUS [p] ETH_PORT_STATUS.SPEED (c.par 0 1)).setF ETH_PORT_STATUS [p] ETH_PORT_STATUS.FC (c.par 10 1)).setF
        ETH_PORT_STATUS [p] ETH_PORT_STATUS.MACSEC_REQ (c.par 1 1 / 2)
      s.complete c stOk []))

/-- A ring of n bytes (R729). -/
def State.ringOk (s : State) (off n : Nat) : Bool :=
  off % 4096 == 0 && decide (off + n ≤ boardBase) && s.rangeMapped off n && !touchesCarve off n

/-- The fields of a creation are valid (R729, R749). -/
def State.queueOk (s : State) (c : Cmd) : Bool :=
  let k := c.par 1 1
  let fl := c.par 3 1
  let d (i n : Nat) : Nat := leAt c.inl i n
  let n := 2 ^ c.par 2 1
  decide (4 ≤ c.par 2 1) && decide (c.par 2 1 ≤ 12) && decide (fl < 8) && (decide (3 ≤ k) || fl / 2 % 2 == 0) &&
    s.ringOk (d 0 8) ((if k ≤ 2 then 32 else 16) * n) && s.ringOk (d 8 8) (16 * n) &&
    (fl % 2 == 0 || (d 16 8 % 8 == 0 && decide (d 16 8 + 8 ≤ boardBase) && s.rangeMapped (d 16 8) 8 && !touchesCarve (d 16 8) 8 &&
      decide (1 ≤ d 29 1))) &&
    (fl / 2 % 2 == 0 || (decide (d 24 1 < 8) && decide (1 ≤ d 26 2))) && decide (d 24 1 < 8) &&
    decide (d 28 1 < 8) && decide (d 30 2 < 4096) && (k != 2 || decide (1 ≤ d 58 2)) && d 60 4 == 0

/-- The queue that a creation makes (R749); a TX_RBT queue takes an epoch (R747). -/
def queueFrom (c : Cmd) (epoch : Nat) : EthQueue :=
  let d (i n : Nat) : Nat := leAt c.inl i n
  let fl := c.par 3 1
  { log2n := c.par 2 1, poll := fl % 2 == 1, notice := fl / 2 % 2 == 1, irq := fl / 4 == 1
    ring := d 0 8, cpl := d 8 8, tail := d 16 8, ntDie := d 24 1, ntTally := d 25 1, ntCount := d 26 2
    pri := d 28 1, pollUs := d 29 1, vid := d 30 2, peerIp := slice c.inl 32 16, peerPort := d 48 2, flow := d 50 4
    etype := d 54 2, udp := d 56 2, rtoUs := d 58 2, epoch := epoch }

/-- PORT_QUEUE_CREATE (R749): creation, or a deletion that completes once no descriptor is in progress. -/
def execPortQueueCreate (c : Cmd) (s : State) : Host.Outcome State Fault Refusal :=
  .next (s.ethCmd c 0x0802 (fun p s =>
    let k := c.par 1 1
    let q := 16 * p + c.par 0 1
    if 16 ≤ c.par 0 1 ∨ 4 < k ∨ !c.parZero 4 12 then s.complete c stBadParam []
    else if k = 0 then
      if c.inlineLen ≠ 0 then s.complete c stBadLength []
      else if !s.bit ETH_QSTATUS [q] ETH_QSTATUS.ENABLED then s.complete c stOk []
      else if (s.ethQueue q).deleting.isSome then s.complete c stBusy []
      else
        let open_ := (s.ethQueue q).jobs.filter (fun j => !j.ended)
        let s := if s.getF ETH_QSTATUS [q] ETH_QSTATUS.KIND = 2 then
            open_.foldl (fun s j => s.abortMsg q j stPeerReset) s
          else s
        (s.setEthQueue q { s.ethQueue q with deleting := some c }).ethGone q
    else if c.inlineLen = 64 ∧ !s.queueOk c then s.complete c stBadParam []
    else if c.inlineLen ≠ 64 then s.complete c stBadLength []
    else if s.bit ETH_QSTATUS [q] ETH_QSTATUS.ENABLED then s.complete c stBusy []
    else if k = 4 ∧ (List.range 32).any (fun r => s.ethIs r 4 && (s.ethQueue r).flow == leAt c.inl 50 4) then s.complete c stResource []
    else
      let r := if k = 2 then s.takeEpoch else (s, 0)
      let s := (((r.1.setEthQueue q (queueFrom c r.2)).clrReg ETH_QSTATUS [q]).setBit ETH_QSTATUS [q] ETH_QSTATUS.ENABLED).setF
        ETH_QSTATUS [q] ETH_QSTATUS.KIND k
      s.complete c stOk []))

/-- PFC_CONFIG (R750). -/
def execPfcConfig (c : Cmd) (s : State) : Host.Outcome State Fault Refusal :=
  .next (s.ethCmd c 0x0803 (fun p s =>
    let hi (q : Nat) : Nat := leAt c.inl (4 * q) 2
    let lo (q : Nat) : Nat := leAt c.inl (4 * q + 2) 2
    if c.par 1 2 = 0 ∨ !c.parZero 3 13 ∨ (s.ethFc p = 1 ∧ 2 ≤ c.par 0 1) then s.complete c stBadParam []
    else if c.inlineLen ≠ 32 then s.complete c stBadLength []
    else if (List.range 8).any (fun q => hi q == 0 || decide (2048 < hi q) || decide (hi q ≤ lo q)) then s.complete c stBadParam []
    else
      let s := s.setEthPort p { s.ethPort p with enable := c.par 0 1, quanta := c.par 1 2 }
      let s := (List.range 8).foldl (fun s q =>
        let u := 16 + 8 * p + q
        let l := s.ethFill (8 * p + q)
        ((s.setF NTC_MARKS [u] NTC_MARKS.LOW (lo q)).setF NTC_MARKS [u] NTC_MARKS.HIGH (hi q)).noticeUpdate u l l l) s
      s.complete c stOk []))

/-- MACSEC_SA (R751, R885). -/
def execMacsecSa (c : Cmd) (s : State) : Host.Outcome State Fault Refusal :=
  .next (s.ethCmd c 0x0804 (fun p s =>
    let act := c.par 0 1
    let an := c.par 1 1
    let sc := c.par 2 1
    let inst := act == 1 || act == 2
    let rx := act == 2 || act == 5
    let x := s.ethPort p
    let r := 4 * sc + an
    let pn := leAt c.inl 8 8
    if act = 0 ∨ 5 < act ∨ 3 < an ∨ 7 < sc ∨ (!rx ∧ sc ≠ 0) ∨ !c.parZero 3 1 ∨ (!inst ∧ !c.parZero 4 8) ∨ (act ≠ 2 ∧ !c.parZero 12 4) ∨
        (act = 3 ∧ (tget none x.txSa an).isNone) then
      s.complete c stBadParam []
    else if c.inlineLen ≠ (if inst then 28 else 0) then s.complete c stBadLength []
    else if inst ∧ (pn = 0 ∨ (act = 1 ∧ leAt c.inl 0 8 ≠ 0)) then s.complete c stBadParam []
    else
      let k := s.keyOf (c.par 4 4)
      let usable := match k with
        | some (_, k) => k.typ == 1 && s.mayUse c k
        | none => false
      if inst ∧ !usable then s.complete c stNotAuthorized []
      else if (act = 1 ∧ (tget none x.txSa an).isSome) ∨ (act = 2 ∧ (tget none x.rxSa r).isSome) ∨
          (act = 4 ∧ x.txOn ∧ s.getF ETH_PORT_STATUS [p] ETH_PORT_STATUS.TX_AN = an) then s.complete c stBusy []
      else
        let sa : Sa :=
          { handle := c.par 4 4, key := (match k with | some (_, k) => k.key | none => []), ssci := c.par 8 4
            salt := slice c.inl 16 12, pn := pn, window := c.par 12 4, next := pn }
        let s := match act with
          | 1 => s.setEthPort p { x with txSa := tput none x.txSa an (some sa) }
          | 2 => s.setEthPort p { x with rxSa := tput none x.rxSa r (some sa), rxSci := tput 0 x.rxSci sc (leAt c.inl 0 8) }
          | 3 =>
            let s := (s.setEthPort p { x with txOn := true }).setF ETH_PORT_STATUS [p] ETH_PORT_STATUS.TX_AN an
            (match s.activeSa p with
              | some a => if 2 ^ 64 - 2 ^ 40 ≤ a.pn then s.ethLog p ETH_EVENT.PN_WARN else s
              | none => s).syncPn p
          | 4 => s.setEthPort p { x with txSa := tput none x.txSa an none }
          | _ => s.setEthPort p { x with rxSa := tput none x.rxSa r none }
        s.complete c stOk []))

end Sys2Proof.Machine
end

