-- ==== Sys2Proof/Machine/EthRx.lean ====
section
/-! DEFINITION. Frames that E0's ports receive, their pause timers and their links (R709 to R723, R726, R736). -/

namespace Sys2Proof.Machine

/-- The frame is addressed to the port, to all, or to a group (R711). -/
def EthPort.takes (x : EthPort) (bs : List Byte) : Bool := slice bs 0 6 == x.mac || beAt bs 0 1 % 2 == 1

/-- A MAC Control frame is valid (R716). -/
def State.ctlValid (s : State) (p : Nat) (f : EthFrame) : Bool :=
  let op := beAt f.bytes 14 2
  (slice f.bytes 0 6 == [0x01, 0x80, 0xC2, 0x00, 0x00, 0x01] || slice f.bytes 0 6 == (s.ethPort p).mac) && f.size == 64 && f.fcsOk &&
    ((s.ethFc p == 1 && op == 1) || (s.ethFc p == 2 && op == 0x0101))

/-- What MACsec makes of a data frame (R726): none when the frame passes, else the counter and whether it is a failure. -/
def State.macsecRefuses (s : State) (p : Nat) (f : EthFrame) : Option Nat :=
  match f.sec with
  | none => if s.bit ETH_PORT_STATUS [p] ETH_PORT_STATUS.MACSEC_REQ then some 27 else none
  | some t =>
    let x := s.ethPort p
    match (List.range 8).find? (fun sc => tget 0 x.rxSci sc == t.sci && (tget none x.rxSa (4 * sc + (t.an : Nat))).isSome) with
    | none => some 25
    | some sc => match tget none x.rxSa (4 * sc + (t.an : Nat)) with
      | none => some 25
      | some a => if !t.icvOk then some 25 else if t.pn < a.pn then some 26 else none

/-- An accepted PN moves its channel's replay window (R726). -/
def State.macsecSeen (s : State) (p : Nat) (t : SecTag) : State :=
  let x := s.ethPort p
  match (List.range 8).find? (fun sc => tget 0 x.rxSci sc == t.sci && (tget none x.rxSa (4 * sc + (t.an : Nat))).isSome) with
  | none => s
  | some sc => match tget none x.rxSa (4 * sc + (t.an : Nat)) with
    | none => s
    | some a =>
      let n := max a.next (t.pn + 1)
      s.setEthPort p { x with rxSa := tput none x.rxSa (4 * sc + (t.an : Nat)) (some { a with next := n, pn := max a.pn (n - a.window) }) }

/-- Where an accepted data frame goes (R736): an RX_RBT queue, an RX_RAW queue, or nowhere. -/
def State.steer (s : State) (p : Nat) (bs : List Byte) : Option (RxFor × List Byte) :=
  let x := s.ethPort p
  let u := udpOf bs
  match u with
  | some (ip, sp, dp, pk) =>
    if dp = x.rbtPort ∧ isRbt pk then
      if rbtType pk ≠ 1 ∨ (portQueues p).any (fun q => s.ethIs q 4 && (s.ethQueue q).flow == rbtFlow pk) then some (.rbt ip sp, pk) else none
    else
      ((portQueues p).find? (fun q => s.ethIs q 3 && ((s.ethQueue q).etype == 0 || (s.ethQueue q).etype == ethType bs) &&
        ((s.ethQueue q).udp == 0 || (s.ethQueue q).udp == dp))).map (fun q => (.raw q, bs))
  | none =>
    ((portQueues p).find? (fun q => s.ethIs q 3 && ((s.ethQueue q).etype == 0 || (s.ethQueue q).etype == ethType bs) &&
      (s.ethQueue q).udp == 0)).map (fun q => (.raw q, bs))

/-- A data frame that has been accepted is stored whole and steered, or discarded (R713, R726, R736). -/
def State.ethStore (s : State) (p : Nat) (f : EthFrame) : State :=
  match s.macsecRefuses p f with
  | some n => let s := s.ethCount p n 1; if n = 27 then s else s.ethLog p ETH_EVENT.MACSEC_FAIL
  | none =>
    let s := match f.sec with
      | some t => s.macsecSeen p t
      | none => s
    if 0x0020_0000 < (s.ethPort p).held + f.size then (s.ethCount p 3 1).ethLog p ETH_EVENT.RX_OVF
    else match s.steer p f.bytes with
      | none => s.ethCount p 4 1
      | some (d, bs) =>
        s.setEthPort p { s.ethPort p with
          rx := (s.ethPort p).rx ++ [⟨ethPri f.bytes (s.ethPort p).defPri, f.size, d, bs⟩] }

/-- ETH_FRAME_RECEIVE (R711 to R713, R716, R726, R736). -/
def execEthFrameReceive (p : Fin 2) (f : EthFrame) (s : State) : Host.Outcome State Fault Refusal :=
  .next (
    let x := s.ethPort p
    if !s.ethUp p then s
    else if ethType f.bytes = 0x8808 ∧ !ethTagged f.bytes then
      if s.ctlValid p f then
        ((s.ethCount p 0 1).ethCount p 6 f.size).setEthPort p { x with ctlIn := x.ctlIn ++ [f.bytes] }
      else (s.ethCount p 5 1).setBit ETH_EVENT [(p : Nat)] ETH_EVENT.CTL_ERR
    else if f.size < 64 ∨ x.maxFrame < f.size ∨ !f.fcsOk ∨ !x.takes f.bytes then s.ethCount p 2 1
    else ((s.ethCount p 0 1).ethCount p 6 f.size).ethStore p f)

/-- PAUSE_FRAME_RECEIVE (R718): 8 ns after the oldest valid control frame has ended, its timers are loaded. -/
def execPauseFrameReceive (p : Fin 2) (s : State) : Host.Outcome State Fault Refusal :=
  .next (
    let x := s.ethPort p
    match x.ctlIn with
    | [] => s
    | bs :: rest =>
      let s := s.setEthPort p { x with ctlIn := rest }
      if s.ethFc p = 1 then (s.setTimer p 0 (beAt bs 16 2)).ethCount p 8 1
      else if s.ethFc p = 2 then
        (List.range 8).foldl (fun s q =>
          if (beAt bs 17 1).testBit q && x.enable.testBit q then (s.setTimer p q (beAt bs (18 + 2 * q) 2)).ethCount p (8 + q) 1 else s) s
      else s)

/-- PAUSE_TIMER_EXPIRY (R719). -/
def execPauseTimerExpiry (p : Fin 2) (q : Fin 8) (s : State) : Host.Outcome State Fault Refusal :=
  .next (if s.getF ETH_PAUSE_TIMER [(p : Nat), (q : Nat)] ETH_PAUSE_TIMER.QUANTA = 0 then s else s.setTimer p q 0)

/-- XOFF_REFRESH (R722): half of XOFF_QUANTA after the last XOFF, the level is checked against HIGH_MARK. -/
def execXoffRefresh (p : Fin 2) (q : Fin 8) (s : State) : Host.Outcome State Fault Refusal :=
  .next (
    let i := 8 * (p : Nat) + (q : Nat)
    if s.dieUp 11 && (s.getF ETH_PORT_STATUS [(p : Nat)] ETH_PORT_STATUS.XOFF).testBit q &&
        decide (s.getF NTC_MARKS [16 + i] NTC_MARKS.HIGH ≤ s.ethFill i) && s.ethUp p then
      s.xoffDue p q
    else s)

/-- ETH_LINK_UP (R723). -/
def execEthLinkUp (p : Fin 2) (s : State) : Host.Outcome State Fault Refusal :=
  .next (
    if s.dieUp 11 && !s.boundaryScan && !s.bit ETH_PORT_STATUS [(p : Nat)] ETH_PORT_STATUS.LINK_UP &&
        s.getF ETH_PORT_STATUS [(p : Nat)] ETH_PORT_STATUS.SPEED != 0 then
      let s := (s.setBit ETH_PORT_STATUS [(p : Nat)] ETH_PORT_STATUS.LINK_UP).setBit ETH_EVENT [(p : Nat)] ETH_EVENT.LINK_UP
      s.setEthPort p { s.ethPort p with xoffDue := s.getF ETH_PORT_STATUS [(p : Nat)] ETH_PORT_STATUS.XOFF, xonDue := 0 }
    else s)

/-- The link of port p goes down (R723). -/
def State.ethDown (s : State) (p : Nat) : State :=
  if s.ethUp p then
    let s := (s.setF ETH_PORT_STATUS [p] ETH_PORT_STATUS.LINK_UP 0).setBit ETH_EVENT [p] ETH_EVENT.LINK_DOWN
    s.setEthPort p { s.ethPort p with xoffDue := 0, xonDue := 0 }
  else s

/-- ETH_LINK_DOWN (R723). -/
def execEthLinkDown (p : Fin 2) (s : State) : Host.Outcome State Fault Refusal := .next (s.ethDown p)

end Sys2Proof.Machine
end

