-- ==== Sys2Proof/Machine/HostCmds.lean ====
section
/-! DEFINITION. The meanings of the host link's events, of the command rings, of the identity and data commands, and of a hold's release
(14_host_commands.md; R200). -/

namespace Sys2Proof.Machine

/-! ### The host link and its rings -/

/-- HOST_INTERFACE_RESET (R670, R977): 0 PERST#, 1 hot reset, 2 link-down, 3 Function Level Reset. -/
def execHostInterfaceReset (kind : Fin 4) (s : State) : Host.Outcome State Fault Refusal :=
  .next (
    let s := s.hostReset
    if kind = 0 then { s with pins := { s.pins with perstLow := true } } else s)

/-- HOST_LINK_UP (R663, R664, R951): once boot step 3 has ended, the deasserted PERST# lets the link train, at 4, 8 or 16 lanes, in CXL mode
at 8.0 to 32.0 GT/s or in PCIe mode at any rate. -/
def execHostLinkUp (cxl : Bool) (width : Fin 3) (rate : Fin 5) (s : State) : Host.Outcome State Fault Refusal :=
  .next (if s.front.linkMayTrain && !s.boundaryScan && !s.bit CMD_IF_STATUS [] CMD_IF_STATUS.LINK_UP && (!cxl || decide (2 ≤ (rate : Nat))) then
    let s := { s with pins := { s.pins with perstLow := false } }
    let s := (s.setF CMD_IF_STATUS [] CMD_IF_STATUS.LINK_UP 1).setF CMD_IF_STATUS [] CMD_IF_STATUS.CXL (b2n cxl)
    (s.setF CMD_IF_STATUS [] CMD_IF_STATUS.WIDTH (4 * 2 ^ (width : Nat))).setF CMD_IF_STATUS [] CMD_IF_STATUS.RATE ((rate : Nat) + 1)
  else s)

/-- BUS_MASTER_ENABLE_CHANGE (R671): what Bus Master Enable held goes out, completion writes before interrupts. The configuration write also
gives the payload and read-request sizes of R667 (PRESUMED, log entry 88). -/
def execBusMasterEnableChange (bme : Bool) (mps : Fin 3) (mrrs : Fin 6) (s : State) : Host.Outcome State Fault Refusal :=
  .next (
    let s := { s with front := { s.front with mps := 128 * 2 ^ (mps : Nat), mrrs := 128 * 2 ^ (mrrs : Nat) } }
    let s := s.setF CMD_IF_STATUS [] CMD_IF_STATUS.BME (b2n bme)
    if bme then
      ({ s with front := { s.front with hostWrites := s.front.hostWrites ++ s.front.cplHeld, cplHeld := [] } }).sendMsix
    else s)

/-- RING_ENABLE (R672, R674, R685, R707): CMD_RING_CFG is written with ENABLE = 1. -/
def execRingEnable (_w : Who) (r : Fin 16) (v : BitVec 32) (s : State) : Host.Outcome State Fault Refusal :=
  .next (s.writeRingCfg r (v ||| 1).toNat)

/-- RING_DISABLE (R685): CMD_RING_CFG is written with ENABLE = 0. -/
def execRingDisable (_w : Who) (r : Fin 16) (v : BitVec 32) (s : State) : Host.Outcome State Fault Refusal :=
  .next (s.writeRingCfg r (v &&& ~~~ 1).toNat)

/-- TAIL_DOORBELL (R669, R677, R678, R684). -/
def execTailDoorbell (w : Who) (bar2 : Bool) (r : Fin 16) (v : BitVec 32) (s : State) : Host.Outcome State Fault Refusal :=
  .next (if s.doorbellOk w bar2 r then s.tailDoorbell r v.toNat else s)

/-- CPL_HEAD_DOORBELL (R669, R676 to R678, R684). -/
def execCplHeadDoorbell (w : Who) (bar2 : Bool) (r : Fin 16) (v : BitVec 32) (s : State) : Host.Outcome State Fault Refusal :=
  .next (if s.doorbellOk w bar2 r then s.headDoorbell r v.toNat else s)

/-- COMMAND_FETCH (R671, R676, R679, R684): `slot` is what host memory holds at the host ring's HEAD, `ok` whether that read succeeds. -/
def execCommandFetch (slot : List Byte) (ok : Bool) (s : State) : Host.Outcome State Fault Refusal :=
  .next (if 64 ≤ s.getF CMD_IF_STATUS [] CMD_IF_STATUS.INFLIGHT then s
    else match s.nextRing with
      | some (r, fresh) => s.fetch r fresh slot ok
      | none => s)

/-- MSIX_COALESCE_TIMER (R682): COAL_US have passed since the first counted completion that is not signalled. -/
def execMsixCoalesceTimer (r : Fin 16) (s : State) : Host.Outcome State Fault Refusal :=
  .next (if s.getF CMD_RING_CFG [(r : Nat)] CMD_RING_CFG.COAL_US != 0 && tget 0 s.front.counted r != 0 then
    ({ s with front := { s.front with counted := tput 0 s.front.counted r 0 } }).fireMsix r
  else s)

/-! ### Identity -/

/-- IDENTIFY (R697). -/
def execIdentify (c : Cmd) (s : State) : Host.Outcome State Fault Refusal :=
  .next (s.runCmd c 0x0101 (fun s =>
    if !c.parZero 0 16 then s.complete c stBadParam []
    else if c.inlineLen ≠ 0 then s.complete c stBadLength []
    else s.complete c stOk (leBytes 8 (s.reg GLB_SERIAL []).toNat ++ leBytes 5 (s.reg GLB_ID []).toNat ++
      leBytes 2 (s.getF RNK_CHIP [8] RNK_CHIP.CHIP) ++
      leBytes 1 (b2n (s.bit RNK_SLICE [8] RNK_SLICE.VALID) + 2 * b2n s.installed + 4 * b2n s.tempo.armed + 8 * b2n s.tempo.running))))

/-- The pages of QUERY_CAPS (R698). -/
def State.capsPage (s : State) (page : Nat) : List Byte :=
  if page = 0 then
    leBytes 4 (s.reg GLB_CAP0 []).toNat ++ leBytes 4 (s.reg GLB_CAP1 []).toNat ++ leBytes 4 (s.getF AON_FW [] AON_FW.VERSION) ++
    leBytes 1 0x10 ++ leBytes 1 0xE0 ++ leBytes 1 (s.getF CMD_IF_STATUS [] CMD_IF_STATUS.CXL)
  else if page = 1 then leBytes 8 (s.reg GLB_REPRO_PROFILE []).toNat ++ leBytes 4 (s.reg GLB_MODE []).toNat
  else
    leBytes 1 (s.getF CMD_IF_STATUS [] CMD_IF_STATUS.CXL) ++ leBytes 1 (s.getF CMD_IF_STATUS [] CMD_IF_STATUS.WIDTH) ++
    leBytes 1 (s.getF CMD_IF_STATUS [] CMD_IF_STATUS.RATE) ++ leBytes 1 0 ++ leBytes 2 s.front.mps ++ leBytes 2 s.front.mrrs

/-- QUERY_CAPS (R698). -/
def execQueryCaps (c : Cmd) (s : State) : Host.Outcome State Fault Refusal :=
  .next (s.runCmd c 0x0102 (fun s =>
    if 2 < c.par 0 1 ∨ !c.parZero 1 15 then s.complete c stBadParam []
    else if c.inlineLen ≠ 0 then s.complete c stBadLength []
    else s.complete c stOk (s.capsPage (c.par 0 1))))

/-! ### Data -/

/-- A stage command begins to move data, or waits for Bus Master Enable (R671); it is presented again when that is set. -/
def State.stageGo (s : State) (c : Cmd) (input : Bool) (go : State → State) : State :=
  let waits := (s.waiters .busMaster).contains c
  let bme := s.bit CMD_IF_STATUS [] CMD_IF_STATUS.BME
  let begin_ (s : State) : State := if bme then go s else s.wait .busMaster c
  if waits then
    if bme then go { s with front := { s.front with waiting := s.front.waiting.filter (fun x => x.2 != c) } } else s
  else s.runCmd c (if input then 0x0201 else 0x0202) (fun s => match s.stageCheck c with
    | some st => s.complete c st []
    | none => begin_ s)

/-- A STAGE_IN that waits on a hold of a Press that stays out of service past WAIT_US ends (R703). -/
def State.stageAway (s : State) (c : Cmd) : State :=
  if (List.range 256).any (fun p => !s.pressUp p && (s.prs p).heldWrites.any (fun w => w.2.2 == .cmd c)) then
    (s.dropCmdWrites c).complete c stTimeout (stageResult (s.stageMoved c) 4)
  else s

/-- STAGE_IN (R699 to R704): `data` is what the host's segments hold, `cut` what stops the command (DEDUCED, log entry 87). -/
def execStageIn (c : Cmd) (data : List Byte) (cut : Option StageCut) (s : State) : Host.Outcome State Fault Refusal :=
  .next (
    if s.cmdHeld c then (match cut with
      | some (.away _) => s.stageAway c
      | _ => s)
    else s.stageGo c true (fun s =>
      let off := c.par 0 8
      let len := stageLen c
      match stageCutAt true (len / 512) cut with
      | some (b, cause, st) => (s.stageWrite c off (slice data 0 (512 * b))).1.complete c st (stageResult (512 * b) cause)
      | none =>
        let r := s.stageWrite c off (slice data 0 len)
        if r.2 then r.1 else r.1.complete c stOk (leBytes 8 len)))

/-- STAGE_OUT (R394, R699 to R704): `corr` are the sectors in which the controllers corrected an error, `cut` what stops the command. -/
def execStageOut (c : Cmd) (corr : List Nat) (cut : Option StageCut) (s : State) : Host.Outcome State Fault Refusal :=
  .next (s.stageGo c false (fun s =>
    let off := c.par 0 8
    let len := stageLen c
    let done (s : State) (b : Nat) : State :=
      let s := if off < boardBase then (corr.filter (fun i => decide (32 * i < 512 * b))).foldl (fun s i => s.eccSeen (off + 32 * i) (.corrected 0)) s
        else s
      (stagePieces (stageSegs c) (s.readMem off (512 * b))).foldl (fun s x => s.hostWrite x.1 x.2) s
    match stageCutAt false (len / 512) cut with
    | some (b, cause, st) =>
      let s := done s b
      let s := match cut with
        | some (.ecc _ i) => if off < boardBase then s.eccSeen (off + 512 * b) (.bad (i % 16)) else s
        | _ => s
      s.complete c st (stageResult (512 * b) cause)
    | none => (done s (len / 512)).complete c stOk (leBytes 8 len)))

/-- WRITE_INLINE (R702, R705). -/
def execWriteInline (c : Cmd) (s : State) : Host.Outcome State Fault Refusal :=
  .next (if s.cmdHeld c then s
    else s.runCmd c 0x0203 (fun s =>
      let off := c.par 0 8
      let n := c.inlineLen
      if !c.parZero 8 8 ∨ 2 ^ 48 ≤ off then s.complete c stBadParam []
      else if n = 0 then s.complete c stBadLength []
      else if !s.stageRange off n then s.complete c stBadParam []
      else match s.rangeAway off n with
        | some st => s.complete c st []
        | none =>
          let r := s.agentWrite 32 off c.inl (.cmd c) true
          if r.2 then r.1 else r.1.complete c stOk (leBytes 4 n)))

/-- READ_SMALL (R394, R706): `ecc` is what the controller finds in the sector. -/
def execReadSmall (c : Cmd) (ecc : Ecc) (s : State) : Host.Outcome State Fault Refusal :=
  .next (s.runCmd c 0x0204 (fun s =>
    let off := c.par 0 8
    let n := c.par 8 1
    if !c.parZero 9 7 ∨ 2 ^ 48 ≤ off ∨ n = 0 ∨ 16 < n ∨ 32 < off % 32 + n then s.complete c stBadParam []
    else if c.inlineLen ≠ 0 then s.complete c stBadLength []
    else if !s.stageRange off n then s.complete c stBadParam []
    else match s.rangeAway off n with
      | some st => s.complete c st []
      | none =>
        let s := if off < boardBase then s.eccSeen (off / 32 * 32) ecc else s
        match ecc with
        | .bad _ => if off < boardBase then s.complete c stIntegrity [] else s.complete c stOk (s.readMem off n)
        | _ => s.complete c stOk (s.readMem off n)))

/-- HOLD_WAIT_RELEASE (R199, R200, R256, R702): the writes of Press p that waited on holds now released are performed, after `cycles` Press
cycles of waiting. -/
def execHoldWaitRelease (p : Fin 256) (cycles : Nat) (s : State) : Host.Outcome State Fault Refusal :=
  .next (if !s.pressUp p then s
    else
      let s := s.incF PRS_HOLD_STALLS (pix p) PRS_HOLD_STALLS.COUNT cycles
      let s := (List.range 4).foldl (fun s k => s.releaseSection p k) s
      let s := (s.releaseWrites p).landFills p
      let s := (s.score.flights.filter (fun f => f.accepted && f.held && f.hdr.dpress == (p : Nat))).foldl (fun s f => s.landFlight f) s
      s.startCadences)

end Sys2Proof.Machine
end

