-- ==== Sys2Proof/Machine/Icu.lean ====
section
/-! DEFINITION. The events and register accesses of the interrupt controller (R620 to R643). -/

namespace Sys2Proof.Machine

/-- ICU_EVENT (R625, R626) (DEDUCED, log entry 96). -/
def execIcuEvent (n : Fin 1024) (s : State) : Host.Outcome State Fault Refusal :=
  .next (if s.dieInReset 10 || (n : Nat) == 0 then s else s.sample n)

/-- ICU_SETPEND (R627). -/
def execIcuSetpend (n : Fin 1024) (s : State) : Host.Outcome State Fault Refusal := .next (if s.dieInReset 10 then s else s.setPend n)

/-- ICU_SRC_WRITE (R626, R628). -/
def execIcuSrcWrite (n : Fin 1024) (v : BitVec 32) (s : State) : Host.Outcome State Fault Refusal :=
  .next (if s.dieInReset 10 then s else s.writeSrc n v.toNat)

/-- ICU_CLAIM (R634, R636). -/
def execIcuClaim (w : Who) (t : Fin 32) (s : State) : Host.Outcome State Fault Refusal :=
  .next (if Who.isCore w && !s.dieInReset 10 then s.claim t else s.readAs 0)

/-- ICU_COMPLETE (R636, R637). -/
def execIcuComplete (w : Who) (t : Fin 32) (v : BitVec 32) (s : State) : Host.Outcome State Fault Refusal :=
  .next (if Who.isCore w && !s.dieInReset 10 then s.completeSource t (v.toNat % 1024) else s)

/-- ICU_STACK_RESET (R636, R642). -/
def execIcuStackReset (w : Who) (v : BitVec 32) (s : State) : Host.Outcome State Fault Refusal :=
  .next (if Who.isCore w && !s.dieInReset 10 then s.resetStacks v.toNat else s)

/-- MACHINE_TIMER (R620): a core's machine timer interrupt follows EVA_TIME and its compare register. -/
def execMachineTimer (c : Fin 16) (s : State) : Host.Outcome State Fault Refusal :=
  .next (
    let on := decide ((s.reg ICU_MTIMECMP [(c : Nat)]).toNat ≤ (s.reg EVA_TIME []).toNat) && !s.coreDown c
    let m := s.icu.mtip
    { s with icu := { s.icu with mtip := if on then m ||| 2 ^ (c : Nat) else if m.testBit c then m - 2 ^ (c : Nat) else m } })

end Sys2Proof.Machine
end

