-- ==== Sys2Proof/Machine/PressIns.lean ====
section
/-! DEFINITION. The meanings of the part's instructions that act inside a Press: sequencer, tiles, accumulators, vectors
and queue requests (05_press_instructions.md, sections 4 and 5). -/

namespace Sys2Proof.Machine

/-- NOP (R254). -/
def execNop (p : Fin 256) (k : Fin 4) (w : Stalls) (s : State) : Host.Outcome State Fault Refusal :=
  .next (s.partRow p k w (fun i => i == .nop) (fun s i _ => s.retireAt p k i id))

/-- LOOP (R240, R241): opens a loop of CNT + 1 iterations. -/
def execLoop (p : Fin 256) (k : Fin 4) (w : Stalls) (s : State) : Host.Outcome State Fault Refusal :=
  .next (s.partRow p k w (fun i => match i with
      | .loop _ _ _ => true
      | _ => false) (fun s i pw => match pw.i with
    | .loop cnt b m => s.retireAt p k i (fun x => { x with loops := x.loops ++ [⟨i, cnt, 0, b, m⟩] })
    | _ => s))

/-- ENDL (R240): the next iteration, or the loop closes. -/
def execEndl (p : Fin 256) (k : Fin 4) (w : Stalls) (s : State) : Host.Outcome State Fault Refusal :=
  .next (s.partRow p k w (fun i => i == .endl) (fun s i _ =>
    let x := s.sect p k
    match x.loops.getLast? with
    | none => s.retireAt p k i id
    | some l =>
      if l.i < l.cnt then
        s.setSect p k ((({ x with loops := x.loops.dropLast ++ [{ l with i := l.i + 1 }] } : Section)).goto (l.pc + 1))
      else s.retireAt p k i (fun x => { x with loops := x.loops.dropLast })))

/-- CUEWAIT (R245): takes one cue of its line, or waits for one. -/
def execCuewait (p : Fin 256) (k : Fin 4) (w : Stalls) (s : State) : Host.Outcome State Fault Refusal :=
  .next (s.partRow p k w (fun i => match i with
      | .cuewait _ => true
      | _ => false) (fun s i pw => match pw.i with
    | .cuewait l =>
      let s := s.incF TEL_SECT_CUE (six p k) TEL_SECT_CUE.COUNT w.own
      let n := tget 0 (s.sect p k).cues l
      if n = 0 then s.waitAt p k i .cue
      else s.retireAt p k i (fun x => { x with cues := tput 0 x.cues l (n - 1) })
    | _ => s))

/-- Section j waits on a SYNC with the section mask `sm`. -/
def State.inSync (s : State) (p j sm : Nat) : Bool :=
  let x := s.sect p j
  x.st == .waiting && x.wait == .sync && (match decodeWord (tget 0 (s.prs p).part x.next) with
    | some ⟨_, m, .sync⟩ => m == sm
    | _ => false)

/-- The sections that a mask names. -/
def sectionsOf (sm : Nat) : List Nat := (List.range 4).filter (fun j => sm.testBit j)

/-- SYNC (R250): retires in every named section once all of them wait on it. A section whose Board write still waits on a
hold meets no SYNC before that write has taken effect (R252). -/
def execSync (p : Fin 256) (k : Fin 4) (w : Stalls) (s : State) : Host.Outcome State Fault Refusal :=
  .next (s.partRow p k w (fun i => i == .sync) (fun s i pw =>
    let s := s.incF TEL_SECT_SYNC (six p k) TEL_SECT_SYNC.COUNT w.own
    if !(s.sect p k).pendW.isEmpty then s.waitAt p k i .hold
    else
      let s := s.waitAt p k i .sync
      if (sectionsOf pw.sm).all (fun j => s.inSync p j pw.sm) then
        (sectionsOf pw.sm).foldl (fun s j => s.retireAt p j (s.sect p j).next id) s
      else s))

/-- BANKSET (R281, R186, R187). -/
def execBankset (p : Fin 256) (k : Fin 4) (w : Stalls) (s : State) : Host.Outcome State Fault Refusal :=
  .next (s.partRow p k w (fun i => match i with
      | .bankset _ => true
      | _ => false) (fun s i pw => match pw.i with
    | .bankset g => (s.writeGate p k g).retireAt p k i id
    | _ => s))

/-- END (R238): once every earlier instruction has retired, the section is IDLE. -/
def execEndPart (p : Fin 256) (k : Fin 4) (w : Stalls) (s : State) : Host.Outcome State Fault Refusal :=
  .next (s.partRow p k w (fun i => i == .end_) (fun s i _ =>
    if !(s.sect p k).pendW.isEmpty then s.waitAt p k i .hold
    else s.setSect p k { (s.sect p k).goto (i + 1) with st := .idle }))

/-- TLD (R256). -/
def execTld (p : Fin 256) (k : Fin 4) (w : Stalls) (s : State) : Host.Outcome State Fault Refusal :=
  .next (s.partRow p k w (fun i => match i with
      | .tld _ _ _ => true
      | _ => false) (fun s i pw => s.tileIssue p k i 0 pw.i))

/-- TST (R256). -/
def execTst (p : Fin 256) (k : Fin 4) (w : Stalls) (s : State) : Host.Outcome State Fault Refusal :=
  .next (s.partRow p k w (fun i => match i with
      | .tst _ _ _ => true
      | _ => false) (fun s i pw => s.tileIssue p k i 0 pw.i))

/-- TZERO (R257). -/
def execTzero (p : Fin 256) (k : Fin 4) (w : Stalls) (s : State) : Host.Outcome State Fault Refusal :=
  .next (s.partRow p k w (fun i => match i with
      | .tzero _ => true
      | _ => false) (fun s i pw => s.tileIssue p k i 0 pw.i))

/-- TTR (R257). -/
def execTtr (p : Fin 256) (k : Fin 4) (w : Stalls) (s : State) : Host.Outcome State Fault Refusal :=
  .next (s.partRow p k w (fun i => match i with
      | .ttr _ _ _ => true
      | _ => false) (fun s i pw => s.tileIssue p k i 0 pw.i))

/-- AZERO (R254): clears an accumulator tile. -/
def execAzero (p : Fin 256) (k : Fin 4) (w : Stalls) (s : State) : Host.Outcome State Fault Refusal :=
  .next (s.partRow p k w (fun i => match i with
      | .azero _ => true
      | _ => false) (fun s i pw => match pw.i with
    | .azero ac => s.retireAt p k i (fun x => x.setAcc ac (each256 (fun _ _ => 0)))
    | _ => s))

/-- ALD (R258): columns 0–7 from the first block, 8–15 from the next. -/
def execAld (p : Fin 256) (k : Fin 4) (w : Stalls) (s : State) : Host.Outcome State Fault Refusal :=
  .next (s.partRow p k w (fun i => match i with
      | .ald _ _ _ => true
      | _ => false) (fun s i pw => match pw.i with
    | .ald ac xf blk =>
      s.loadBoard p k i (512 * (s.sect p k).effBlk xf blk) 1024 (fun bs x =>
        x.setAcc ac (each256 (fun r c => w32At bs (512 * (c / 8) + 32 * r + 4 * (c % 8)))))
    | _ => s))

/-- AST (R258). -/
def execAst (p : Fin 256) (k : Fin 4) (w : Stalls) (s : State) : Host.Outcome State Fault Refusal :=
  .next (s.partRow p k w (fun i => match i with
      | .ast _ _ _ => true
      | _ => false) (fun s i pw => match pw.i with
    | .ast ac xf blk =>
      let x := s.sect p k
      s.storeBoard p k i (512 * x.effBlk xf blk) ((List.range 256).flatMap (fun n =>
        leBytes 4 (x.accAt ac (n % 128 / 8) (8 * (n / 128) + n % 8)).toNat))
    | _ => s))

/-- ACVT (R259, R260). -/
def execAcvt (p : Fin 256) (k : Fin 4) (w : Stalls) (s : State) : Host.Outcome State Fault Refusal :=
  .next (s.partRow p k w (fun i => match i with
      | .acvt _ _ _ _ => true
      | _ => false) (fun s i pw => s.tileIssue p k i 0 pw.i))

/-- MMA (R261 to R264). -/
def execMma (p : Fin 256) (k : Fin 4) (w : Stalls) (s : State) : Host.Outcome State Fault Refusal :=
  .next (s.partRow p k w (fun i => match i with
      | .mma _ _ _ _ _ => true
      | _ => false) (fun s i pw => s.tileIssue p k i 0 pw.i))

/-- MMAS (R265 to R268): the rows below `upto` are done by the end of this step, unless a hold keeps one back. -/
def execMmas (p : Fin 256) (k : Fin 4) (w : Stalls) (upto : Nat) (s : State) : Host.Outcome State Fault Refusal :=
  .next (s.partRow p k w (fun i => match i with
      | .mmas _ _ _ _ _ _ _ _ => true
      | _ => false) (fun s i pw => s.tileIssue p k i upto pw.i))

/-- VSET (R270). -/
def execVset (p : Fin 256) (k : Fin 4) (w : Stalls) (s : State) : Host.Outcome State Fault Refusal :=
  .next (s.partRow p k w (fun i => match i with
      | .vset _ _ => true
      | _ => false) (fun s i pw => match pw.i with
    | .vset rd imm => s.retireAt p k i (fun x => x.setVec rd (each16 (fun _ => BitVec.ofNat 32 imm)))
    | _ => s))

/-- VLD (R270). -/
def execVld (p : Fin 256) (k : Fin 4) (w : Stalls) (s : State) : Host.Outcome State Fault Refusal :=
  .next (s.partRow p k w (fun i => match i with
      | .vld _ _ _ _ => true
      | _ => false) (fun s i pw => match pw.i with
    | .vld rd xf blk ln =>
      s.loadBoard p k i (512 * (s.sect p k).effBlk xf blk + 64 * ln) 64
        (fun bs x => x.setVec rd (each16 (fun v => w32At bs (4 * v))))
    | _ => s))

/-- VST (R270). -/
def execVst (p : Fin 256) (k : Fin 4) (w : Stalls) (s : State) : Host.Outcome State Fault Refusal :=
  .next (s.partRow p k w (fun i => match i with
      | .vst _ _ _ _ => true
      | _ => false) (fun s i pw => match pw.i with
    | .vst ra xf blk ln =>
      let x := s.sect p k
      s.storeBoard p k i (512 * x.effBlk xf blk + 64 * ln) ((List.range 16).flatMap (fun v => leBytes 4 (x.voice ra v).toNat))
    | _ => s))

/-- VADD (R269). -/
def execVadd (p : Fin 256) (k : Fin 4) (w : Stalls) (s : State) : Host.Outcome State Fault Refusal :=
  .next (s.partRow p k w (fun i => match i with
      | .vadd _ _ _ => true
      | _ => false) (fun s i pw => match pw.i with
    | .vadd rd ra rb => s.retireAt p k i (fun x => x.setVec rd (each16 (fun v => s.fmode.vadd (x.voice ra v) (x.voice rb v))))
    | _ => s))

/-- VMUL (R269). -/
def execVmul (p : Fin 256) (k : Fin 4) (w : Stalls) (s : State) : Host.Outcome State Fault Refusal :=
  .next (s.partRow p k w (fun i => match i with
      | .vmul _ _ _ => true
      | _ => false) (fun s i pw => match pw.i with
    | .vmul rd ra rb => s.retireAt p k i (fun x => x.setVec rd (each16 (fun v => s.fmode.vmul (x.voice ra v) (x.voice rb v))))
    | _ => s))

/-- VFMA (R269): rounded once. -/
def execVfma (p : Fin 256) (k : Fin 4) (w : Stalls) (s : State) : Host.Outcome State Fault Refusal :=
  .next (s.partRow p k w (fun i => match i with
      | .vfma _ _ _ _ => true
      | _ => false) (fun s i pw => match pw.i with
    | .vfma rd ra rb rc =>
      s.retireAt p k i (fun x => x.setVec rd (each16 (fun v => s.fmode.vfma (x.voice ra v) (x.voice rb v) (x.voice rc v))))
    | _ => s))

/-- VMAX (R269). -/
def execVmax (p : Fin 256) (k : Fin 4) (w : Stalls) (s : State) : Host.Outcome State Fault Refusal :=
  .next (s.partRow p k w (fun i => match i with
      | .vmax _ _ _ => true
      | _ => false) (fun s i pw => match pw.i with
    | .vmax rd ra rb => s.retireAt p k i (fun x => x.setVec rd (each16 (fun v => s.fmode.vmax (x.voice ra v) (x.voice rb v))))
    | _ => s))

/-- The maximum of adjacent pairs of a row, level by level (R271). -/
def maxTree : Nat → List FVal → FVal
  | 0, l => l.headD (.fin false 0 0)
  | n + 1, l => maxTree n (pairsMax l)
where
  /-- One level. -/
  pairsMax : List FVal → List FVal
    | x :: y :: t => x.vmax y :: pairsMax t
    | l => l

/-- ARED (R271): a pairwise sum or maximum of each accumulator row. -/
def execAred (p : Fin 256) (k : Fin 4) (w : Stalls) (s : State) : Host.Outcome State Fault Refusal :=
  .next (s.partRow p k w (fun i => match i with
      | .ared _ _ _ => true
      | _ => false) (fun s i pw => match pw.i with
    | .ared rd ac fl =>
      let m := s.fmode
      s.retireAt p k i (fun x => x.setVec rd (each16 (fun r =>
        let row := (List.range 16).map (fun c => m.in32 (x.accAt ac r c))
        m.out32 (if fl % 2 = 1 then maxTree 4 row else m.tree 4 row))))
    | _ => s))

/-- AVOP (R272): scales or offsets each accumulator row by a voice. -/
def execAvop (p : Fin 256) (k : Fin 4) (w : Stalls) (s : State) : Host.Outcome State Fault Refusal :=
  .next (s.partRow p k w (fun i => match i with
      | .avop _ _ _ => true
      | _ => false) (fun s i pw => match pw.i with
    | .avop ac ra fl =>
      let m := s.fmode
      s.retireAt p k i (fun x => x.setAcc ac (each256 (fun r c =>
        if fl % 2 = 1 then m.vadd (x.accAt ac r c) (x.voice ra r) else m.vmul (x.accAt ac r c) (x.voice ra r))))
    | _ => s))

/-- QLD or QST waits for room, counted in MEM_QFULL (R366), or places its requests and retires (R273). -/
def State.placeRequests (s : State) (p k i own q nb blk mblk : Nat) : State :=
  let s := s.incF MEM_QFULL (pix p) MEM_QFULL.COUNT own
  if 64 < (s.queue p q).length + nb + 1 then s.waitAt p k i .room
  else (s.requests p k q nb blk mblk).retireAt p k i id

/-- QLD (R273). -/
def execQld (p : Fin 256) (k : Fin 4) (w : Stalls) (s : State) : Host.Outcome State Fault Refusal :=
  .next (s.partRow p k w (fun i => match i with
      | .qld _ _ _ _ _ => true
      | _ => false) (fun s i pw => match pw.i with
    | .qld q nb xf blk mblk =>
      let x := s.sect p k
      s.placeRequests p k i w.own q nb (x.effBlk xf blk) (x.effMem xf mblk)
    | _ => s))

/-- QST (R273): store queues 0 and 1 are queues 4 and 5 of the Press. -/
def execQst (p : Fin 256) (k : Fin 4) (w : Stalls) (s : State) : Host.Outcome State Fault Refusal :=
  .next (s.partRow p k w (fun i => match i with
      | .qst _ _ _ _ _ => true
      | _ => false) (fun s i pw => match pw.i with
    | .qst q nb xf blk mblk =>
      let x := s.sect p k
      s.placeRequests p k i w.own (4 + q) nb (x.effBlk xf blk) (x.effMem xf mblk)
    | _ => s))

/-- QWAIT (R275): retires when at most N requests of its queue are outstanding. -/
def execQwait (p : Fin 256) (k : Fin 4) (w : Stalls) (s : State) : Host.Outcome State Fault Refusal :=
  .next (s.partRow p k w (fun i => match i with
      | .qwait _ _ _ => true
      | _ => false) (fun s i pw => match pw.i with
    | .qwait q st n =>
      let s := s.incF TEL_SECT_QWAIT (six p k) TEL_SECT_QWAIT.COUNT w.own
      if n < (s.queue p (4 * st + q)).length then s.waitAt p k i .queue else s.retireAt p k i id
    | _ => s))

/-- TIME (R280): the Conductor's BEAT, BARNO and SBAR; all read 0 on a die whose Conductor holds no image. -/
def execTime (p : Fin 256) (k : Fin 4) (w : Stalls) (s : State) : Host.Outcome State Fault Refusal :=
  .next (s.partRow p k w (fun i => match i with
      | .time _ => true
      | _ => false) (fun s i pw => match pw.i with
    | .time rd =>
      let t := s.tempo
      s.retireAt p k i (fun x => x.setVec rd (each16 (fun v =>
        BitVec.ofNat 32 (if v = 0 then t.beat else if v = 1 then t.barno else if v = 2 then t.sbar else 0))))
    | _ => s))

end Sys2Proof.Machine
end

