-- ==== Sys2Proof/Machine/Rbt.lean ====
section
/-! DEFINITION. Rentisil Bulk Transfer: the packets that E0 receives, and its timers (R741 to R747). -/

namespace Sys2Proof.Machine

/-- The n-th buffered RBT packet of one TYPE in port p's buffer, with where it came from. -/
def State.rbtFrame (s : State) (p type n : Nat) : Option (RxFrame × List Byte × Nat) :=
  ((s.ethPort p).rx.filterMap (fun f => match f.dest with
    | .rbt ip u => if rbtType f.bytes = type then some (f, ip, u) else none
    | .raw _ => none))[n]?

/-! ### Receivers -/

/-- How far the ranges written cover a message from byte x on, at most `fuel` ranges. -/
def covered (l : List (Nat × Nat)) : Nat → Nat → Nat
  | 0, x => x
  | fuel + 1, x =>
    match l.find? (fun r => decide (r.1 ≤ x) && decide (x < r.1 + r.2)) with
    | some r => covered l fuel (r.1 + r.2)
    | none => x

/-- Bytes written of a message, within its descriptor. -/
def EthJob.written (j : EthJob) : Nat := min j.len ((j.got.map (fun r => r.2)).foldl (· + ·) 0)

/-- The base moves past consecutive marks (R743). -/
def advanceBase : Nat → Nat → List Nat → Nat × List Nat
  | 0, b, l => (b, l)
  | fuel + 1, b, l => if l.contains b then advanceBase fuel ((b + 1) % 2 ^ 32) (l.filter (fun x => x != b)) else (b, l)

/-- The queue adopts an epoch (R747): a message in progress completes with PEER_RESET. -/
def State.adopt (s : State) (q e : Nat) (ip : List Byte) (u : Nat) : State :=
  let s := s.mapJobs q (fun j => !j.ended) (fun j => j.stop stPeerReset j.written)
  s.setEthQueue q { s.ethQueue q with epoch := e, seq := 0, msg := 0, marks := [], accepted := 0, src := ip, srcPort := u }

/-- A segment of a message is written and marked (R743 to R745). -/
def State.landSegment (s : State) (q : Nat) (f : RxFrame) (j : EthJob) : State :=
  let pk := f.bytes
  let pay := pk.drop 32
  let moff := rbtMoff pk
  let fit := pay.take (j.len - moff)
  let s := (s.dropFrame (q / 16) f)
  let s := if j.ended ∨ fit.isEmpty then s else (s.agentWrite 512 (j.off + moff) fit (.eth q j.seq (rbtSeq pk)) true).1
  let s := s.mapJobs q (fun y => y.seq == j.seq && !y.ended) (fun y =>
    let y := { y with got := y.got ++ [(moff, pay.length)], mlen := rbtMlen pk }
    if y.mlen ≤ covered y.got (y.got.length + 1) 0 then
      { y.stop (if y.len < y.mlen then stBadLength else stOk) (min y.len y.mlen) with trunc := decide (y.len < y.mlen) }
    else y)
  let x := s.ethQueue q
  let r := advanceBase 4097 x.seq (x.marks ++ [rbtSeq pk])
  let s := s.setEthQueue q { x with seq := r.1, marks := r.2, accepted := x.accepted + 1 }
  if 16 ≤ x.accepted + 1 then s.rbtAck q else s

/-- RBT_DATA_RECEIVE (R743, R744, R747): the n-th buffered DATA packet of RX_RBT queue q; `mayAbort` is that 16 µs have passed since its
flow's last ABORT (DEDUCED, log entry 29). -/
def execRbtDataReceive (q : Fin 32) (n : Nat) (mayAbort : Bool) (s : State) : Host.Outcome State Fault Refusal :=
  .next (
    let qn : Nat := q
    let p := qn / 16
    let x := s.ethQueue qn
    match (((s.ethPort p).rx.filterMap (fun f => match f.dest with
        | .rbt ip u => if rbtType f.bytes = 1 ∧ rbtFlow f.bytes = x.flow then some (f, ip, u) else none
        | .raw _ => none))[n]? : Option (RxFrame × List Byte × Nat)) with
    | none => s
    | some (f, ip, u) =>
      let pk := f.bytes
      let e := rbtEpoch pk
      if !(s.dieUp 11 && s.ethIs qn 4) then s
      else if rbtSeq pk = 0 ∧ rbtMsg pk = 0 ∧ e ≠ 0 ∧ e ≠ x.epoch then s.adopt qn e ip u
      else if e ≠ x.epoch ∨ e = 0 then
        let s := (s.dropFrame p f).ethCount p 30 1
        if mayAbort then s.rbtAbort p ip u 0 e x.flow (rbtMsg pk) stPeerReset else s
      else
        let d := serialDiff 32 (rbtSeq pk) x.seq
        if d < 0 ∨ x.marks.contains (rbtSeq pk) then ((s.dropFrame p f).ethCount p 28 1).rbtAck qn
        else if 4096 ≤ d then (s.dropFrame p f).ethCount p 30 1
        else if !rbtGood pk then (s.dropFrame p f).ethCount p 29 1
        else
          let s := s.setEthQueue qn { x with src := ip, srcPort := u }
          match x.jobs.find? (fun j => j.msg == rbtMsg pk) with
          | some j =>
            if !j.ended ∧ (s.rangeAway j.off j.len).isSome then s else s.landSegment qn f j
          | none =>
            if serialGe 32 (rbtMsg pk) x.msg then s
            else s.landSegment qn f { seq := 2 ^ 64, off := 0, len := 0, tag := 0, notice := false, ended := true })

/-- RBT_ACK_TIMER (R745). -/
def execRbtAckTimer (q : Fin 32) (s : State) : Host.Outcome State Fault Refusal :=
  .next (if s.dieUp 11 && s.ethIs q 4 && (s.ethQueue q).accepted != 0 then s.rbtAck q else s)

/-- RBT_NAK_TIMER (R741, R745): a gap at the base has lasted 4 µs while later segments are held. -/
def execRbtNakTimer (q : Fin 32) (s : State) : Host.Outcome State Fault Refusal :=
  .next (
    let x := s.ethQueue q
    if s.dieUp 11 && s.ethIs q 4 && !x.marks.isEmpty then
      let top := (x.marks.map (fun n => (serialDiff 32 n x.seq).toNat)).foldl max 0
      let map := (List.range 64).foldl (fun a i => if i < top && !x.marks.contains ((x.seq + i) % 2 ^ 32) then a + 2 ^ i else a) 0
      s.rbtSend ((q : Nat) / 16) x.src x.srcPort 0 (rbtPacket 3 0 x.epoch x.flow x.seq 0 0 0 (leBytes 8 map))
    else s)

/-! ### Senders -/

/-- The TX_RBT queue of port p that an answer from `ip` on a flow, in an epoch, concerns (R742, R747). -/
def State.rbtSender (s : State) (p flow epoch : Nat) (ip : List Byte) : Option Nat :=
  (portQueues p).find? (fun q => s.bit ETH_QSTATUS [q] ETH_QSTATUS.ENABLED && s.getF ETH_QSTATUS [q] ETH_QSTATUS.KIND == 2 &&
    (s.ethQueue q).flow == flow && (s.ethQueue q).peerIp == ip && (s.ethQueue q).epoch == epoch)

/-- An answer leaves the buffer; one whose PCRC fails is discarded. -/
def State.rbtAnswer (s : State) (p type n : Nat) (act : State → Nat → List Byte → State) : State :=
  match s.rbtFrame p type n with
  | none => s
  | some (f, ip, _) =>
    if !s.dieUp 11 then s
    else
      let s := s.dropFrame p f
      if !rbtGood f.bytes then s.ethCount p 29 1
      else match s.rbtSender p (rbtFlow f.bytes) (rbtEpoch f.bytes) ip with
        | some q => act s q f.bytes
        | none => s

/-- Segments before `a` are acknowledged (R746): whole messages end. -/
def State.acked (s : State) (q a : Nat) : State :=
  let x := s.ethQueue q
  if newer 32 a x.una && serialGe 32 x.seq a then
    let s := s.setEthQueue q { x with una := a, rtos := 0, resend := x.resend.filter (fun n => serialGe 32 n a) }
    s.mapJobs q (fun j => !j.ended && decide ((j.segs : Int) ≤ serialDiff 32 a j.seg0)) (fun j => j.stop stOk j.len)
  else s

/-- RBT_ACK_RECEIVE (R746): the n-th buffered ACK of port p. -/
def execRbtAckReceive (p : Fin 2) (n : Nat) (s : State) : Host.Outcome State Fault Refusal :=
  .next (s.rbtAnswer p 2 n (fun s q pk => s.acked q (rbtSeq pk)))

/-- RBT_NAK_RECEIVE (R746): the missing segments are sent again at once. -/
def execRbtNakReceive (p : Fin 2) (n : Nat) (s : State) : Host.Outcome State Fault Refusal :=
  .next (s.rbtAnswer p 3 n (fun s q pk =>
    let x := s.ethQueue q
    let miss := ((List.range 64).filter (fun i => (leAt pk 32 8).testBit i)).map (fun i => (rbtSeq pk + i) % 2 ^ 32)
    let miss := miss.filter (fun k => serialGe 32 k x.una && newer 32 x.seq k && !x.resend.contains k)
    s.setEthQueue q { x with resend := x.resend ++ miss }))

/-- A sender restarts in a new epoch (R747). -/
def State.restart (s : State) (q : Nat) : State :=
  let x := s.ethQueue q
  let s := s.mapJobs q (fun j => !j.ended) (fun j => j.stop stPeerReset (j.acked x.una))
  let r := s.takeEpoch
  r.1.setEthQueue q { r.1.ethQueue q with epoch := r.2, msg := 0, seq := 0, una := 0, next := 0, resend := [], rtos := 0 }

/-- RBT_ABORT_RECEIVE (R746, R747): the n-th buffered ABORT of port p. -/
def execRbtAbortReceive (p : Fin 2) (n : Nat) (s : State) : Host.Outcome State Fault Refusal :=
  .next (match s.rbtFrame p 4 n with
    | none => s
    | some (f, ip, _) =>
      let pk := f.bytes
      let st := leAt pk 32 1
      let rx := (portQueues p).find? (fun q => s.ethIs q 4 && (s.ethQueue q).flow == rbtFlow pk && (s.ethQueue q).epoch == rbtEpoch pk)
      let tx := s.rbtSender p (rbtFlow pk) (rbtEpoch pk) ip
      if !s.dieUp 11 then s
      else if !rbtGood pk then (s.dropFrame p f).ethCount p 29 1
      else if rx.any (fun q => serialGe 32 (rbtMsg pk) (s.ethQueue q).msg) && tx.isNone then s
      else
        let s := (s.dropFrame p f).setBit ETH_EVENT [(p : Nat)] ETH_EVENT.RBT_ABORT
        let s := match rx with
          | some q => s.mapJobs q (fun j => !j.ended && j.msg == rbtMsg pk) (fun j => j.stop st j.written)
          | none => s
        match tx with
        | some q => if st = stPeerReset then s.restart q else s
        | none => s)

/-- RBT_RTO (R746): RTO_US have passed without progress. -/
def execRbtRto (q : Fin 32) (s : State) : Host.Outcome State Fault Refusal :=
  .next (
    let qn : Nat := q
    let x := s.ethQueue qn
    let left := (serialDiff 32 x.seq x.una).toNat
    if s.dieUp 11 && s.ethIs qn 2 && left != 0 then
      if x.rtos + 1 < 8 then
        s.setEthQueue qn { x with rtos := x.rtos + 1, resend := (List.range left).map (fun i => (x.una + i) % 2 ^ 32) }
      else match x.jobs.find? (fun j => !j.ended) with
        | some j => s.abortMsg qn j stTimeout
        | none => s
    else s)

end Sys2Proof.Machine
end

