-- ==== Sys2Proof/Machine/ScoreLoad.lean ====
section
/-! DEFINITION. SCORE_LOAD and SCORE_PATCH: the images byte by byte, their checks in order, and what they install
(06_conductor.md, sections 3, 6 and 8). -/

namespace Sys2Proof.Machine

/-- Why a load fails (R324, R326): CHECK, status, die and entry; 0xFF bytes where a field does not apply. -/
structure LoadFail where
  check : Nat
  status : Nat
  die : Nat
  entry : Nat
  job : Nat
  rank : Nat
  deriving DecidableEq, Repr

/-- The Conductor stores that an image gives one die. -/
structure DieImage where
  die : Nat
  desk : List DeskEntry
  raw : List (List Byte)
  meas : List Byte
  tpl : List Byte
  parts : List (List Word)
  pcs : List (Nat × List Nat)

/-- `k` items of `w` bytes from device-memory offset `o`. -/
def State.items (s : State) (o w k : Nat) : List (List Byte) :=
  (List.range k).map (fun i => s.readMem (o + w * i) w)

/-- A little-endian number in device memory. -/
def State.memNat (s : State) (o n : Nat) : Nat := leNat (s.readMem o n)

/-- A signature under the image policy (R869, R893): in OPERATIONAL only; SCORE_NONE lets every one pass, else it
verifies under a Score key. -/
def State.signatureOk (s : State) (signed sig : List Byte) : Bool :=
  s.getF SM_STATUS [] SM_STATUS.STATE == 3 &&
  (s.bit SM_POLICY [] SM_POLICY.SCORE_NONE || s.sm.store.scoreKeys.any (fun k => Config.ecdsaVerifies k.2 signed sig))

/-- The CRC of a package or patch image, whose field at `f` counts as 0 (R293, R335). -/
def imageCrc (signed : List Byte) (f : Nat) : Nat := crc32c (overlay signed f [0, 0, 0, 0])

/-- The V bit of a template (R231, R517). -/
def tplV (tpl : List Byte) (t : Nat) : Bool := leAt tpl (32 * t + 8) 1 / 4 % 2 == 1
/-- The VALID bit of a template. -/
def tplValid (tpl : List Byte) (t : Nat) : Bool := leAt tpl (32 * t + 8) 1 % 2 == 1

/-- One template obeys R518. -/
def templateOk (b : List Byte) : Bool :=
  let h := leAt b 0 8
  let fl := leAt b 8 1
  let kind := bits h 39 36
  let mc := h.testBit 16
  let du := bits h 22 19
  fl % 2 == 0 ||
  (fl < 8 && zeros b 9 23 && (kind == 3 || kind == 4 || kind == 5 || kind == 6) &&
    (!mc || (kind == 3 && !fl.testBit 1 && bits h 15 4 == 0)) &&
    (kind != 3 || decide (du < 8)) && (kind != 6 || du == 8 || du == 9) && decide (du < 12) &&
    (fl.testBit 2 == (kind == 5)) &&
    !h.testBit 17 && !h.testBit 23 && bits h 35 24 == 0 && bits h 63 40 == 0)

/-- The templates of a table obey R518. -/
def templatesOk (tpl : List Byte) : Bool := (List.range 64).all (fun t => templateOk (slice tpl (32 * t) 32))

/-- TKSEND names only valid templates (R518): the first word that does not. -/
def tksendFault (tpl : List Byte) (ws : List Word) : Option Nat :=
  ws.findIdx? (fun w => match decodeWord w with
    | some ⟨_, _, .tksend _ t⟩ => !tplValid tpl t
    | _ => false)

/-- A part holds an instruction with V = 1 (R232). -/
def partHasV (ws : List Word) : Bool := ws.any (fun w => w.toNat.testBit 63)

/-- The dies of a send's path inside its package, the source left out (R466). -/
def sendPath (die dpress route : Nat) : List Nat :=
  if route = 0 then pathTo die (dpress / 32) else pathTo die (8 + ((routeLink route).getD 0) / 6)

/-- The beats that a bar note takes on a Seam from die a to die b (R72), in a bar of E first window beat `e`. -/
def noteBeats (e a b : Nat) : List Nat :=
  let east := [(8, 0), (0, 1), (1, 2), (2, 3), (3, 9)]
  let west := [(9, 7), (7, 6), (6, 5), (5, 4), (4, 8)]
  match (east.findIdx? (fun x => x == (a, b))), (west.findIdx? (fun x => x == (a, b))) with
  | some h, _ => (e - 192 + 12 * h) :: (if h ≤ 3 then [e - 132 + 12 * h] else [])
  | none, some h => (e - 192 + 12 * h) :: (if h ≤ 3 then [e - 132 + 12 * h] else [])
  | none, none => []

/-- A send leaves the bar-note beats of every Seam hop free (R72): hop i carries it from BEAT + 12i on, WIDTH flits a
beat. -/
def sendClear (e die beat width lines dpress route : Nat) : Bool :=
  let p := sendPath die dpress route
  let len := (lines + 2 + width - 1) / width
  (List.range p.length).all (fun i =>
    let a := if i = 0 then die else p.getD (i - 1) die
    let from_ := beat + 12 * i
    (noteBeats e a (p.getD i die)).all (fun b => !(decide (from_ ≤ b) && decide (b < from_ + len))))

/-- The link table (R295): none when a reserved bit is set or a code has no meaning. -/
def parseLink (b : List Byte) : Option LinkCfg :=
  let r := leAt b 0 1
  if 32 ≤ r ∨ r % 4 = 3 ∨ 2 < leAt b 1 1 ∨ 2 < leAt b 2 1 ∨ leAt b 3 1 ≠ 0 then none
  else some ⟨r % 4, r.testBit 2, r.testBit 3, r.testBit 4, leAt b 1 1, leAt b 2 1⟩

/-- Check 0x0D (R324, R581). `single` is whether the region holds one package: no internal link at all. -/
def linkTableOk (ls : List LinkCfg) (t : Tempo) (anchor : Bool) : Bool :=
  let parents := (ls.filter (fun l => l.parent)).length
  let internal := ls.any (fun l => l.role == 1)
  decide (parents ≤ 1) && (!anchor || parents == 0) && (anchor || !internal || parents == 1) &&
  ls.all (fun l => (!(l.parent || l.child) || l.role == 1) && (l.profile == 0 || l.role != 1) &&
    (l.profile != 2 || !l.score) && (t.rubato || l.role != 1 || decide (l.cls < 2))) &&
  decide ((ls.filter (fun l => l.profile != 0)).length ≤ 4)

/-- The TEMPO fields and ranges (R55, R56, R324 check 0x0E, R561). -/
def State.tempoOk (s : State) (t : Tempo) : Bool :=
  decide (10 ≤ t.k) && decide (t.k ≤ 16) && decide (1 ≤ t.d64) && decide (t.d64 ≤ 2 ^ (t.k - 8)) &&
  decide (1 ≤ t.gateLimit) && s.bit RNK_SLICE [8] RNK_SLICE.VALID && t.slice == s.getF RNK_SLICE [8] RNK_SLICE.SLICE

/-- The dies and Presses that an image names: its Conductors' dies, and the Presses of parts, cues and moves. -/
def DieImage.presses (d : DieImage) (rank : Nat) : List Nat :=
  ((d.parts.zipIdx).filterMap (fun x => if x.1.isEmpty then none else some (32 * d.die + x.2))) ++
  d.desk.flatMap (fun e => match e with
    | .send _ _ src _ _ _ _ _ _ dr dp _ _ => (32 * d.die + src) :: (if dr = rank then [dp] else [])
    | .cue _ pm _ _ _ => ((List.range 32).filter (fun k => pm.testBit k)).map (fun k => 32 * d.die + k)
    | _ => [])

/-- The first index at which a list of checks fails. -/
def firstFail {α : Type} (p : α → Bool) (l : List α) : Option Nat := l.findIdx? (fun x => !p x)

/-- The records of a part restart table (R313): ID and the 32 entry PCs. -/
def parseRestart (recs : List (List Byte)) : List (Nat × List Nat) :=
  recs.map (fun b => (leAt b 0 1, (List.range 32).map (fun k => leAt b (32 + 2 * k) 2)))

/-- The part restart table obeys R313. -/
def restartOk (desk : List DeskEntry) (parts : List (List Word)) (recs : List (List Byte)) : Bool :=
  let rs := parseRestart recs
  let pts := (restartPoints desk (fun _ => [])).filterMap (fun p => p.id)
  let zero := (patchpointsOf 0 desk).filterMap (fun p => if p.1 = 1 then some p.2.1 else none)
  let hasPart := parts.any (fun w => !w.isEmpty)
  recs.all (fun b => zeros b 1 31) &&
  (!hasPart || pts.all (fun id => rs.any (fun r => r.1 == id))) &&
  rs.all (fun r => (pts.contains r.1 || zero.contains r.1) &&
    (parts.zipIdx).all (fun x => let pc := r.2.getD x.2 0
      if x.1.isEmpty then pc == 0 else entryPcOk x.1 pc))

/-- Read what a package image at offset `o` gives die `d`. -/
def State.readDie (s : State) (o d : Nat) : DieImage :=
  let e := o + 0x80 + 32 * d
  let f (i : Nat) : Nat := s.memNat (e + i) 4
  let raw := s.items (o + f 0) 32 (f 4)
  let desk := match parseEntries 0 raw with
    | .ok l => l
    | .error _ => []
  let press := decide (d < 8)
  let pdir := o + f 20
  let parts := if press then (List.range 32).map (fun k =>
      let po := s.memNat (pdir + 8 * k) 4
      let n := s.memNat (pdir + 8 * k + 4) 2
      (List.range n).map (fun i => BitVec.ofNat 64 (s.memNat (o + po + 8 * i) 8))) else []
  let recs := if press then parseRestart (s.items (o + f 24) 96 (f 28)) else []
  { die := d, desk := desk, raw := raw, meas := s.readMem (o + f 8) (f 12)
    tpl := if press then s.readMem (o + f 16) 2048 else [], parts := parts
    pcs := recs }

/-- Check 0x0C: a die's data fits its stores (R282, R296, R297). -/
def State.dieFits (s : State) (o d : Nat) : Bool :=
  let e := o + 0x80 + 32 * d
  decide (s.memNat (e + 4) 4 ≤ 32768) && decide (s.memNat (e + 12) 4 ≤ 4096) && decide (s.memNat (e + 28) 4 ≤ 1023) &&
  (decide (8 ≤ d) || (List.range 32).all (fun k => decide (s.memNat (o + s.memNat (e + 20) 4 + 8 * k + 4) 2 ≤ 4096)))

/-- The directory entry of a die is in order: aligned on 32, inside the image, and 0 where the die has no such data
(R293, R296). -/
def State.dieDirOk (s : State) (o len d k : Nat) : Bool :=
  let e := o + 0x80 + 32 * d
  let f (i : Nat) : Nat := s.memNat (e + i) 4
  let lim := len - 96
  let inside (off n : Nat) : Bool := off % 32 == 0 && decide (0x200 ≤ off) && decide (off + n ≤ lim)
  f 12 == 2 ^ (k - 6) * (if d < 8 then 4 else 2) && inside (f 0) (32 * f 4) && inside (f 8) (f 12) &&
  (if d < 8 then
    inside (f 16) 2048 && inside (f 20) 256 && (if f 28 = 0 then f 24 == 0 else inside (f 24) (96 * f 28)) &&
    (List.range 32).all (fun j =>
      let p := o + f 20 + 8 * j
      s.memNat (p + 6) 2 == 0 && (s.memNat (p + 4) 2 == 0 || inside (s.memNat p 4) (8 * s.memNat (p + 4) 2)))
  else f 16 == 0 && f 20 == 0 && f 24 == 0 && f 28 == 0)

/-- Measure-table bytes mark slots 0–4 only, and an unbonded port 3 is 0 (R31, R290). -/
def measOk (m : List Byte) : Bool := m.all (fun b => decide (b.toNat < 32))
def portThreeOk (d : Nat) (m : List Byte) : Bool :=
  !(d == 0 || d == 3 || d == 4 || d == 7) || (m.zipIdx).all (fun x => x.2 % 4 != 3 || x.1 == 0)

/-- The first die of a list for which a check fails. -/
def firstDie (ds : List DieImage) (p : DieImage → Option Nat) : Option (Nat × Nat) :=
  ds.findSome? (fun d => (p d).map (fun i => (d.die, i)))

/-- The entry rules of one desk (check 0x0F): the first entry that breaks one. -/
def deskFault (v : DeskEnv) (d : DieImage) (recs : List (List Byte)) : Option Nat :=
  match parseEntries 0 d.raw with
  | .error i => some i
  | .ok es =>
    match firstFail v.entryOk es with
    | some i => some i
    | none =>
      match beatFault 0 0 0 es with
      | some i => some i
      | none =>
        if repeatsOk es && patchpointsOk es && measOk d.meas && (d.tpl.isEmpty || templatesOk d.tpl) &&
          (8 ≤ d.die || restartOk es d.parts recs) then
          d.parts.findSome? (tksendFault d.tpl)
        else some 0

/-- A stream lies on one desk only (R482). -/
def streamsOk (ds : List DieImage) : Bool :=
  let st (d : DieImage) : List Nat := d.desk.filterMap (fun e => match e with
    | .send _ _ _ _ _ _ _ _ stream _ _ _ _ => some stream
    | _ => none)
  ds.all (fun a => ds.all (fun b => a.die == b.die || (st a).all (fun x => !(st b).contains x)))

/-- The region rules of check 0x10 (R62, R72, R103 by `sendOk`, R589, takes on rubato or boundary links). The rule of
R106 needs the region of the link's other end, which no image of this rank gives (DESIGN CHOICE, log entry 10). -/
def regionFault (t : Tempo) (ls : List LinkCfg) (d : DieImage) : Option Nat :=
  d.desk.findIdx? (fun e => match e with
    | .send _ b _ _ w _ lines _ _ _ dp _ r =>
      !sendClear t.e d.die b w lines dp r ||
      ([0, 1, 2].any (fun dim => routeH r dim != 0 &&
        ((ls[6 * routeIdx r dim + 2 * dim + b2n (routeNeg r dim)]?).getD {}).profile == 1) && decide (31 < lines))
    | .take _ l =>
      let c := (ls[6 * (d.die - 8) + l]?).getD {}
      !(c.role == 2 || (t.rubato && c.role == 1))
    | _ => false)

/-- What a package image installs once its checks pass (R325, R223, R483, R492). The only package of a region is its anchor (R116, log entry
11) (DEDUCED, log entry 11). -/
def State.install (s : State) (job rank : Nat) (t : Tempo) (ls : List LinkCfg) (ds : List DieImage) : State :=
  let s := ds.foldl (fun s d =>
    let s := s.setConductor d.die { desk := d.desk, meas := d.meas, tpl := d.tpl,
                                    restart := restartPoints d.desk (fun id => (d.pcs.find? (fun r => r.1 == id)).elim [] (fun r => r.2)), ptr := 1, bar := 0 }
    let s := ((s.setReg SCR_JOB [d.die] (BitVec.ofNat 64 job)).setF SCR_PLACE [d.die] SCR_PLACE.RANK rank).setF
      SCR_STATUS [d.die] SCR_STATUS.INSTALLED 1
    let s := s.setF SCR_STATUS [d.die] SCR_STATUS.FINE 0
    (d.parts.zipIdx).foldl (fun s x =>
      let p := 32 * d.die + x.2
      (s.setPrs p { s.prs p with part := putWords [] 0 x.1, words := x.1.length }).clearSections p) s) s
  let s := { s with
    links := ((ls.zipIdx).map (fun (x : LinkCfg × Nat) => (x.2, x.1))).filter (fun x => x.2 != ({} : LinkCfg))
    score := { s.score with seqs := [], windows := [] } }
  let s := (List.range 8).foldl (fun s d => s.setReg BLT_WINDOWS [d] 0) s
  s.setTempo { t with anchor := t.anchorChip == s.chip || ls.all (fun l => l.role != 1), barno := s.tempo.barno, sbar := s.tempo.sbar
                      order := s.tempo.order, reqBar := s.tempo.reqBar, reqDone := s.tempo.reqDone
                      beat := s.tempo.beat, held := s.tempo.held, halted := s.tempo.halted, fallback := s.tempo.fallback }

/-- The 16 result bytes of SCORE_LOAD (R326). -/
def LoadFail.bytes (f : LoadFail) : List Byte :=
  leBytes 8 f.job ++ leBytes 2 f.rank ++ leBytes 1 f.die ++ leBytes 1 f.check ++ leBytes 4 f.entry

/-- A failing check with no die and no entry; JOB_ID and RANK as far as they are known. -/
def failAt (check status : Nat) (job rank : Nat) : LoadFail := ⟨check, status, 0xFF, 0xFFFF_FFFF, job, rank⟩

/-- The package image's own part of the checks, 0x06 to 0x12 (R324), at device-memory offset `o` of length `len`. -/
def State.checkPackage (s : State) (o len job rank : Nat) (reproReq : Bool) (repro : Nat) :
    Except LoadFail (Tempo × List LinkCfg × List DieImage) := do
  let fail (c st : Nat) : LoadFail := failAt c st job rank
  let failD (c st d e : Nat) : LoadFail := ⟨c, st, d, e, job, rank⟩
  let signed := s.readMem o (len - 96)
  if !s.signatureOk signed (s.readMem (o + len - 96) 96) then throw (fail 0x06 stIntegrity)
  if imageCrc signed 0x0C ≠ s.memNat (o + 0x0C) 4 then throw (fail 0x07 stIntegrity)
  if reproReq && repro % 2 ^ 17 != (s.reg GLB_REPRO_PROFILE []).toNat % 2 ^ 17 then throw (fail 0x08 stProfileMismatch)
  let req := s.memNat (o + 8) 4
  if req &&& (s.reg GLB_CAP0 []).toNat ≠ req then throw (fail 0x09 stAbsentUnit)
  let dirZero (d : Nat) : Bool := zeros (s.readMem (o + 0x80 + 32 * d) 32) 0 32
  match (List.range 8).find? (fun d => !s.hasDie d && !dirZero d) with
  | some d => throw (failD 0x09 stAbsentUnit d 0xFFFF_FFFF)
  | none => pure ()
  let dies := s.condDies
  let ds := if dies.all (fun d => s.dieFits o d) then dies.map (s.readDie o) else []
  match firstDie ds (fun d => if (d.presses rank).all (fun p => s.hasDie (p / 32)) then none else some 0xFFFF_FFFF) with
  | some x => throw (failD 0x09 stAbsentUnit x.1 x.2)
  | none => pure ()
  match dies.find? s.dieFolded with
  | some d => throw (failD 0x0A stUnitFolded d 0xFFFF_FFFF)
  | none => pure ()
  match firstDie ds (fun d => if (d.presses rank).all (fun p => !s.pressFolded p) then none else some 0xFFFF_FFFF) with
  | some x => throw (failD 0x0A stUnitFolded x.1 x.2)
  | none => pure ()
  match dies.find? s.dieInReset with
  | some d => throw (failD 0x0B stUnitInReset d 0xFFFF_FFFF)
  | none => pure ()
  match firstDie ds (fun d => if (d.presses rank).all (fun p => !s.pressInReset p) then none else some 0xFFFF_FFFF) with
  | some x => throw (failD 0x0B stUnitInReset x.1 x.2)
  | none => pure ()
  match dies.find? (fun d => !s.dieFits o d) with
  | some d => throw (failD 0x0C stResource d 0xFFFF_FFFF)
  | none => pure ()
  let ls ← match ((List.range 12).map (fun l => parseLink (s.readMem (o + 0x40 + 4 * l) 4))).mapM id with
    | none => throw (fail 0x0D stBadParam)
    | some ls => pure ls
  let t0 := ((s.readDie o 8).desk.head?.bind DeskEntry.toTempo).getD {}
  let anchor := t0.anchorChip == s.chip || ls.all (fun l => l.role != 1)
  if !linkTableOk ls t0 anchor then throw (fail 0x0D stBadParam)
  let head := (ds.headD (s.readDie o 8)).raw.headD []
  match firstDie ds (fun d => if d.raw.head? == some head && planOf d.desk == planOf (ds.headD d).desk then none
      else some 0) with
  | some x => throw (failD 0x0E stBadParam x.1 x.2)
  | none => pure ()
  let m0 := s.readDie o 8
  if !s.tempoOk t0 || (scoreBars m0.desk).getLastD 0 % 2 ^ 32 != t0.fineSbar then throw (failD 0x0E stBadParam 8 0)
  if !(dies.all (fun d => s.dieDirOk o len d t0.k)) || !dirZero 10 || !dirZero 11 then throw (fail 0x0F stBadParam)
  match firstDie ds (fun d =>
      let recs := s.items (o + s.memNat (o + 0x80 + 32 * d.die + 24) 4) 96 (s.memNat (o + 0x80 + 32 * d.die + 28) 4)
      let tempos := d.desk.filter (fun e => e.toTempo.isSome)
      if tempos.length ≠ 1 ∨ (d.desk.head?.bind DeskEntry.toTempo).isNone ∨ d.desk.getLast? ≠ some .fine ∨
          (d.desk.filter (fun e => e == .fine)).length ≠ 1 then some 0
      else deskFault ⟨d.die, rank, t0, anchor, ls⟩ d recs) with
  | some x => throw (failD 0x0F stBadParam x.1 x.2)
  | none => pure ()
  if !streamsOk ds then throw (fail 0x0F stBadParam)
  if !t0.rubato && ls.any (fun l => l.role == 1 && decide (t0.e ≤ 192 + (if l.cls = 0 then 256 else 1024) + 2)) then
    throw (fail 0x10 stBadParam)
  match firstDie ds (fun d => if portThreeOk d.die d.meas then regionFault t0 ls d else some 0xFFFF_FFFF) with
  | some x => throw (failD 0x10 stBadParam x.1 x.2)
  | none => pure ()
  match firstDie ds (fun d => d.parts.findSome? (fun ws => if ws.isEmpty then none else partFault (tplV d.tpl) ws)) with
  | some x => throw (failD 0x11 stBadParam x.1 x.2)
  | none => pure ()
  if s.bit GLB_MODE [] GLB_MODE.METRONOME then
    match firstDie ds (fun d => if d.parts.any partHasV then some 0xFFFF_FFFF else none) with
    | some x => throw (failD 0x12 stVariantOp x.1 x.2)
    | none => pure ()
  return (t0, ls, ds)

/-- SCORE_LOAD's checks 0x01 to 0x05 and then the package image's (R291 to R293, R324, R759). -/
def State.checkLoad (s : State) (o len rank : Nat) (resv : Bool) :
    Except LoadFail (Nat × Tempo × List LinkCfg × List DieImage) := do
  let ff := 2 ^ 64 - 1
  if s.patches.any (fun p => !p.waiting.isEmpty) || s.tempo.armed || s.tempo.running then
    throw (failAt 0x01 stBusy ff 0xFFFF)
  if o % 64 ≠ 0 || resv || len == 0 || !s.rangeMapped o len then throw (failAt 0x02 stBadParam ff 0xFFFF)
  let m (i n : Nat) : Nat := s.memNat (o + i) n
  if m 0 4 ≠ 0x524F_4353 ∨ m 4 2 ≠ 1 ∨ 2 ≤ m 0x28 4 ∨ !zeros (s.readMem (o + 0x2C) 20) 0 20 ∨
      m 0x20 8 / 2 ^ 17 ≠ 0 then throw (failAt 0x03 stBadParam ff 0xFFFF)
  let job := m 0x10 8
  let n := m 0x18 4
  let dir := m 0x1C 4
  let ent := s.items (o + dir) 16 (min n 65536)
  if m 8 8 ≠ len ∨ len < dir + 16 * n ∨ ent.any (fun e => decide (len < leAt e 4 4 + leAt e 8 4)) then
    throw (failAt 0x04 stBadLength job 0xFFFF)
  let ordered := (ent.zip (ent.drop 1)).all (fun x => decide (leAt x.1 0 2 < leAt x.2 0 2))
  match ent.find? (fun e => leAt e 0 2 == rank) with
  | none => throw (failAt 0x05 stBadParam job rank)
  | some e =>
    let p := o + leAt e 4 4
    if leAt e 2 1 = 3 ∧ (s.memNat (p + 0x10) 4 ≠ leAt e 8 4 ∨ leAt e 8 4 < 0x260) then
      throw (failAt 0x04 stBadLength job rank)
    if !ordered || n == 0 || decide (65536 < n) || dir % 16 != 0 || leAt e 2 1 != 3 || leAt e 3 1 != 0 ||
        leAt e 12 4 != 0 || leAt e 4 4 % 64 != 0 || s.memNat p 4 != 0x3347_4B50 || s.memNat (p + 4) 2 != rank ||
        s.memNat (p + 6) 2 != 0 || !zeros (s.readMem (p + 0x14) 44) 0 44 then
      throw (failAt 0x05 stBadParam job rank)
    let r ← s.checkPackage p (leAt e 8 4) job rank (m 0x28 4 == 1) (m 0x20 8)
    return (job, r)

/-- The module's test of an image (test 11 of R890), unless the command ended before it or the module does not serve. -/
def State.imageTest (s : State) (skipped ok : Bool) : State :=
  if skipped || s.getF SM_STATUS [] SM_STATUS.STATE != 3 then s else s.testsRun 0x800 (if ok then 0 else 0x800)

/-- SCORE_LOAD (R323 to R326) (DESIGN CHOICE, log entry 12). -/
def execScoreLoad (c : Cmd) (s : State) : Host.Outcome State Fault Refusal :=
  .next (s.runCmd c 0x0301 (fun s =>
    let rank := c.par 12 2
    match s.checkLoad (c.par 0 8) (c.par 8 4) rank (!c.parZero 14 2) with
    | .error f => (s.imageTest (decide (f.check < 6)) (f.check != 6)).complete c f.status f.bytes
    | .ok (job, t, ls, ds) =>
      ((s.imageTest false true).install job rank t ls ds).complete c stOk (LoadFail.bytes ⟨0, 0, 0xFF, 0xFFFF_FFFF, job, rank⟩)))

/-! ### Patches -/

/-- The region that a PATCHPOINT of a desk begins. -/
def Conductor.region (c : Conductor) (id : Nat) : Option (Nat × List DeskEntry) :=
  (c.patchpoint id).bind (fun i => match c.desk[i]? with
    | some (.patchpoint _ n) => some (i, (c.desk.drop (i + 1)).take n)
    | _ => none)

/-- One record of a patch image at device-memory offset `o` (R335); none when a field is wrong. -/
def State.parseRec (s : State) (o len : Nat) (b : List Byte) : Option PatchRec :=
  let kind := leAt b 0 1
  let die := leAt b 1 1
  let sel := leAt b 2 1
  let start := leAt b 4 2
  let n := leAt b 6 2
  let data := leAt b 8 4
  let fits (k : Nat) : Bool := decide (data + k ≤ len - 96)
  if leAt b 3 1 ≠ 0 ∨ leAt b 12 4 ≠ 0 ∨ 9 < die then none
  else if kind = 1 then
    if start ≠ 0 ∨ !fits (32 * n) then none
    else match parseEntries 0 (s.items (o + data) 32 n) with
      | .ok es => some (.region die sel es)
      | .error _ => none
  else if kind = 2 then
    if 7 < die ∨ 31 < sel ∨ n = 0 ∨ !fits (8 * n) then none
    else some (.words die sel start ((List.range n).map (fun i => BitVec.ofNat 64 (s.memNat (o + data + 8 * i) 8))))
  else if kind = 3 then
    if 7 < die ∨ sel ≠ 0 ∨ start ≠ 0 ∨ n ≠ 64 ∨ !fits 2048 then none
    else some (.templates die (s.readMem (o + data) 2048))
  else if kind = 4 then
    if sel ≠ 0 ∨ start ≠ 0 ∨ !fits n then none else some (.measures die (s.readMem (o + data) n))
  else none

/-- Bytes of patch stage that a record takes on its die (R282). -/
def PatchRec.size : PatchRec → Nat
  | .region _ _ es => 32 * es.length
  | .words _ _ _ ws => 8 * ws.length
  | .templates _ bs => bs.length
  | .measures _ bs => bs.length

/-- The part of a Press as it will stand after the patches staged so far and these records (R336). -/
def State.partAfter (s : State) (recs : List PatchRec) (p : Nat) : List Word :=
  let t := ((s.patches.flatMap (fun q => q.recs)) ++ recs).foldl (fun t r => match r with
    | .words d k start ws => if 32 * d + k = p then putWords t start ws else t
    | _ => t) (s.prs p).part
  (List.range (s.prs p).words).map (tget 0 t)

/-- The template table of a die after the records of a patch. -/
def State.tplAfter (s : State) (recs : List PatchRec) (d : Nat) : List Byte :=
  recs.foldl (fun t r => match r with
    | .templates e bs => if e = d then bs else t
    | _ => t) (s.conductor d).tpl

/-- The checks of a patch image once it is read, in the order of R324 and then R336: the failing status. -/
def State.patchFault (s : State) (job sb : Nat) (recs : List PatchRec) : Option Nat :=
  let t := s.tempo
  let dies := recs.map PatchRec.die
  let parts := (recs.filterMap (fun r => match r with
    | .words d k _ _ => some (32 * d + k)
    | .templates d _ => some (32 * d + 32)
    | _ => none))
  let touched := (List.range 256).filter (fun p => (s.prs p).words != 0 &&
    (parts.contains p || recs.any (fun r => match r with
      | .templates d _ => d == p / 32
      | _ => false)))
  let ls := (List.range 12).map s.linkCfg
  let rank := s.getF SCR_PLACE [8] SCR_PLACE.RANK
  let regions := recs.filterMap (fun r => match r with
    | .region d id es => some (d, id, es)
    | _ => none)
  let shape (d : Nat) (es : List DeskEntry) (i : Nat) : Bool :=
    let v : DeskEnv := ⟨d, rank, t, t.anchor, ls⟩
    es.all v.entryOk && (beatFault 0 0 0 es).isNone &&
    es.all (fun e => match e with
      | .tempo _ _ _ _ _ _ _ _ _ _ => false
      | .fine => false
      | .patchpoint _ _ => false
      | .repeat_ _ g _ _ => decide (i < g)
      | _ => true) &&
    (regionFault t ls { die := d, desk := es, raw := [], meas := [], tpl := [], parts := [], pcs := [] }).isNone
  if dies.any (fun d => !s.hasDie d) then some stAbsentUnit
  else if dies.any s.dieFolded || touched.any s.pressFolded then some stUnitFolded
  else if dies.any s.dieInReset || touched.any s.pressInReset then some stUnitInReset
  else if recs.any (fun r => match r with
      | .words d k start ws => decide ((s.prs (32 * d + k)).words < start + ws.length)
      | .templates _ bs => !templatesOk bs
      | .measures d bs => bs.length != 2 ^ (t.k - 6) * (if d < 8 then 4 else 2) || !measOk bs || !portThreeOk d bs
      | .region d id es => match (s.conductor d).region id with
        | some (i, old) => es.length != old.length || !shape d es i
        | none => true) then some stBadParam
  else if regions.any (fun r => match (s.conductor r.1).region r.2.1 with
      | some (i, old) =>
        let plan (es : List DeskEntry) : List PlanStep := planOf ((s.conductor r.1).desk.take (i + 1) ++ es)
        plan r.2.2 != plan old &&
          !(s.condDies.all (fun d => regions.any (fun q => q.1 == d && q.2.1 == r.2.1 &&
            planOf q.2.2 == planOf r.2.2)))
      | none => true) then some stBadParam
  else if touched.any (fun p =>
      let ws := s.partAfter recs p
      let tpl := s.tplAfter recs (p / 32)
      (partFault (tplV tpl) ws).isSome || (tksendFault tpl ws).isSome ||
      (s.conductor (p / 32)).restart.any (fun r => !r.pcs.isEmpty && !entryPcOk ws (r.pcs.getD (p % 32) 0))) then
    some stBadParam
  else if s.bit GLB_MODE [] GLB_MODE.METRONOME && touched.any (fun p => partHasV (s.partAfter recs p)) then
    some stVariantOp
  else if !s.installed then some stScoreFault
  else if !t.running then some stBadParam
  else if (s.reg SCR_JOB [8]).toNat ≠ job then some stBadParam
  else if (if t.held then newer 32 t.sbar sb else serialGe 32 t.sbar sb) || newer 32 sb t.fineSbar then some stBadParam
  else if s.patches.any (fun p => p.sbar == sb) then some stBadParam
  else if 4 ≤ s.patches.length || s.condDies.any (fun d =>
      let used := ((s.patches.flatMap (fun p => p.recs)) ++ recs).filter (fun r => r.die == d)
      decide (65536 < (used.map PatchRec.size).foldl (· + ·) 0)) then some stResource
  else none

/-- SCORE_PATCH (R334 to R338): the checks, then staging begins on the dies that the records name. -/
def execScorePatch (c : Cmd) (s : State) : Host.Outcome State Fault Refusal :=
  .next (s.runCmd c 0x0303 (fun s =>
    let o := c.par 0 8
    let len := c.par 8 4
    let m (i n : Nat) : Nat := s.memNat (o + i) n
    let nrec := m 6 2
    if s.patches.any (fun p => !p.waiting.isEmpty) then s.complete c stBusy []
    else if !c.parZero 12 4 || o % 64 != 0 || len == 0 || !s.rangeMapped o len then s.complete c stBadParam []
    else if m 0 4 ≠ 0x3343_5450 ∨ !zeros (s.readMem (o + 0x1C) 36) 0 36 then s.complete c stBadParam []
    else if m 0x14 4 ≠ len ∨ len < 64 + 16 * nrec + 96 then s.complete c stBadLength []
    else if m 4 2 ≠ s.getF SCR_PLACE [8] SCR_PLACE.RANK ∨ nrec = 0 ∨ 256 < nrec then s.complete c stBadParam []
    else
      let signed := s.readMem o (len - 96)
      let ok := s.signatureOk signed (s.readMem (o + len - 96) 96)
      let s := s.imageTest false ok
      if !ok then s.complete c stIntegrity []
      else if imageCrc signed 0x18 ≠ m 0x18 4 then s.complete c stIntegrity []
      else match ((s.items (o + 64) 16 nrec).map (s.parseRec o len)).mapM id with
        | none => s.complete c stBadParam []
        | some recs =>
          match s.patchFault (m 8 8) (m 0x10 4) recs with
          | some st => s.complete c st []
          | none =>
            let dies := s.condDies.filter (fun d => recs.any (fun r => r.die == d))
            { s with patches := s.patches ++ [⟨m 0x10 4, recs, dies, c, none⟩] }))

/-- The Score bar that a patch must be staged for by the cutoff of this bar (R118, R338): the one after the bar that is
played, or, in the last bar of a hold, the one shown. -/
def State.patchDue (s : State) : Option Nat :=
  let t := s.tempo
  if !t.held then some (bar32 (t.sbar + 1))
  else if t.halted || (match t.order with
    | some o => o.holds (bar32 (t.barno + 1))
    | none => false) then none
  else some t.sbar

/-- PATCH_STAGE_DONE (R118, R337, R338): a die reports its share staged; with the last one the patch counts as staged
in the bar of R61 and SCORE_PATCH completes, or the patch is late. -/
def execPatchStageDone (die : Fin 10) (s : State) : Host.Outcome State Fault Refusal :=
  .next (match s.patches.find? (fun p => p.waiting.contains (die : Nat)) with
    | none => s
    | some p =>
      let w := p.waiting.filter (fun d => d != (die : Nat))
      let m := s.raisedBar
      let q : Patch := { p with waiting := w, stagedBar := if w.isEmpty then some m else none }
      let s := { s with patches := mapIf (fun x => x == p) (fun _ => q) s.patches }
      if !w.isEmpty then s
      else if s.tempo.frozen && s.patchDue == some p.sbar then
        s.discardLate { q with waiting := [(die : Nat)] }
      else (s.complete p.cmd stOk (leBytes 4 m ++ leBytes 4 p.sbar)).syncPatch)

/-- PATCH_LATE (R119, R338): the cutoff of Score bar S − 1 has passed and the patch is not staged: it is discarded
(DEDUCED, log entry 13). -/
def execPatchLate (s : State) : Host.Outcome State Fault Refusal :=
  .next (if s.tempo.running && s.tempo.frozen then
    match s.patchDue with
    | some sb => (s.lateFor sb).foldl State.discardLate s
    | none => s
  else s)

end Sys2Proof.Machine
end

