-- ==== Sys2Proof/Machine/ScoreTime.lean ====
section
/-! DEFINITION. The meanings of the commands and events of Score time (02_score_time.md). -/

namespace Sys2Proof.Machine

/-- BAR_BOUNDARY (R57, R60, R93 to R98, R107, R108, R117, R298 to R309, R328, R339): the bar ends and the next one
begins. No occasion while the package is not running, while an entry of the bar has not acted, or, in rubato, while a
gate is closed (R99); a halted package no longer gates (DEDUCED, log entry 5). -/
def execBarBoundary (s : State) : Host.Outcome State Fault Refusal :=
  .next (if s.tempo.running && s.barDone && (!s.tempo.isGated || s.tempo.halted || s.replaying || s.gatesOpen) then s.barEnd else s)

/-- BAR_NOTE_CUTOFF (R61, R71): the Mangle dies freeze their views; what comes later counts in the next bar. -/
def execBarNoteCutoff (s : State) : Host.Outcome State Fault Refusal :=
  .next (if s.tempo.running then s.setTempo { s.tempo.atBeat (s.tempo.e - 192) with frozen := true } else s)

/-- The FERMATA entries of the current bar that M0's Conductor has still to act on: they count in this bar's merge too,
whatever their BEAT (R114). -/
def State.fermataAhead (s : State) : List Nat :=
  let c := s.conductor 8
  if s.tempo.held || c.fine || c.bar != s.tempo.sbar then []
  else ((c.desk.drop c.ptr).takeWhile (fun e => !e.closes)).filterMap (fun e => match e with
    | .fermata _ n => some n
    | _ => none)

/-- The requests of bar n in the order of R114: desk entries, acted on and `ahead`, then commands, then a REQ_BAR increase. -/
def Tempo.counts (t : Tempo) (ahead : List Nat) : List Nat :=
  let now := t.ferm.filter (fun r => r.bar == t.barno)
  let pick (p : FermFrom → Bool) := (now.filter (fun r => p r.src)).map (fun r => r.count)
  pick (fun x => x == .entry) ++ ahead ++ pick (fun x => match x with
    | .command _ => true
    | _ => false) ++
  (match t.reqBar, t.reqDone with
    | some r, none => if newer 32 r t.barno then [] else [255]
    | some r, some d => if newer 32 r d ∧ !newer 32 r t.barno then [255] else []
    | none, _ => [])

/-- The anchor's new order of this bar (R113, R114): one more ORDER_SEQ when it changed. -/
def Tempo.newOrder (t : Tempo) (ahead : List Nat) : Option Order :=
  let o := (t.counts ahead).foldl (fun o c => applyCount t.fermLead t.barno c o) t.order
  if o = t.order then t.order
  else o.map (fun x => { x with seq := (((t.order.map (fun y => y.seq)).getD 0) + 1) % 2 ^ 16 })

/-- The bytes FERMATA completes with (R115): F, R and whether R is unbounded. -/
def orderResult (o : Option Order) : List Byte :=
  match o with
  | some o => leBytes 4 o.f ++ leBytes 4 o.r ++ leBytes 1 (b2n o.indef)
  | none => leBytes 9 0

/-- BAR_NOTE_MERGE (R71, R111, R113 to R115): the views are merged; the anchor computes its order, which takes
effect at the boundary, and the FERMATA commands of the bar complete. -/
def execBarNoteMerge (s : State) : Host.Outcome State Fault Refusal :=
  .next (
    let t := s.tempo
    if t.running && t.frozen && !t.merged then
      let o := t.newOrder s.fermataAhead
      let seen := match t.reqBar with
        | some r => if newer 32 r t.barno then t.reqDone else some r
        | none => t.reqDone
      let cmds := (t.ferm.filter (fun r => r.bar == t.barno)).filterMap (fun r => match r.src with
        | .command c => some c
        | _ => none)
      let s := s.setTempo { t.atBeat (t.e - 132) with
        merged := true
        adopting := if t.anchor && o != t.order then o.map (fun x => (t.barno, x)) else t.adopting
        reqDone := if t.anchor then seen else t.reqDone
        ferm := t.ferm.filter (fun r => r.bar != t.barno) }
      cmds.foldl (fun s c => s.complete c stOk (orderResult o)) s
    else s)

/-- BAR_NOTE_RECEIVE (R73, R87): a bar note that is more than 2 beats off its exact beat raises TEMPO_FAULT SEAM on
the receiving die; `err` is the signed error in beats. -/
def execBarNoteReceive (die : Fin 10) (port : Fin 4) (err : BitVec 16) (s : State) : Host.Outcome State Fault Refusal :=
  .next (if s.tempo.running && 2 < err.toInt.natAbs then
    s.tempoFault die 7 port (BitVec.ofInt 8 (max (-127) (min 127 err.toInt))).toNat
  else s)

/-- The link check of R66: every internal link of a strict region is UP in the class the image assumes, A or B. -/
def State.linksReady (s : State) : Bool :=
  s.tempo.rubato || (List.range 12).all (fun l =>
    let c := s.linkCfg l
    c.role != 1 || (s.linkUp l && s.getF LNK_STATUS (lnk l) LNK_STATUS.CLASS == c.cls && decide (c.cls < 2)))

/-- Arming (R333, R494, R508): parts are reinstalled, pointers return to the start, tallies to 0, ended streams live
again, and the package is armed. -/
def State.arm (s : State) : State :=
  let s := (s.reinstallParts).rewindTo 0
  let s := { s with score := { s.score with tallies := [], tallySat := [], ended := [], sends := [], takes := [] } }
  let s := { s with books := { s.books with accepted := [], noticed := [], consumed := [] } }
  let s := s.condDies.foldl (fun s d => s.setF SCR_STATUS [d] SCR_STATUS.FINE 0) s
  s.setTempo { s.tempo with armed := true, launched := false, accepted := none }

/-- The parameter and state checks of SCORE_START in the order of R84, R311 and R66; none when all pass. -/
def State.startCheck (s : State) (c : Cmd) : Option Nat :=
  let mode := c.par 0 1
  let t := s.tempo
  if !s.installed then some stScoreFault
  else if c.par 1 1 ≠ t.region ∨ (mode = 2 ∧ !t.anchor) ∨ (mode = 2 ∧ c.par 4 4 < 64) ∨
      !(mode == 1 || mode == 2 || mode == 3) ∨ c.par 2 2 ≠ 0 ∨ c.par 12 4 ≠ 0 ∨
      (mode = 2 ∧ !s.isRestart (c.par 8 4)) then some stBadParam
  else if (mode = 1 ∧ (t.armed || t.running)) ∨ (mode = 2 ∧ (t.running || t.launched)) ∨
      (mode = 3 ∧ t.running) then some stBusy
  else if (mode = 1 ∨ (mode = 2 ∧ !t.armed)) ∧ !s.linksReady then some stTempoFault
  else none

/-- LAUNCH (R75, R84): the anchor sends count-in flits on its child links and begins bar 0 COUNTIN_TOTAL beats later. -/
def State.launch (s : State) (c : Cmd) : State :=
  let s := if s.tempo.armed then s else s.arm
  let total := c.par 4 4
  let sb := c.par 8 4
  let s := (s.sendCountin 8 total 0 sb 1).sendCountin 9 total 0 sb 1
  let s := s.rewindTo sb
  (s.setTempo { s.tempo with
    launched := true
    accepted := some ⟨10, sb, total, 0, total, 0, []⟩ }).wait .launch c

/-- SCORE_START (R83, R84, R66, R75, R311, R333). -/
def execScoreStart (c : Cmd) (s : State) : Host.Outcome State Fault Refusal :=
  .next (s.runCmd c 0x0302 (fun s =>
    match s.startCheck c with
    | some st => s.complete c st []
    | none =>
      if c.par 0 1 = 1 then s.arm.complete c stOk []
      else if c.par 0 1 = 3 then s.disarm.complete c stOk []
      else s.launch c))

/-- A count-in that is not obeyed is counted on its link (R80, R81). -/
def State.discardCountin (s : State) (l : Nat) : State := s.incF TEL_LINK_CI_DISCARD [l] TEL_LINK_CI_DISCARD.COUNT 1

/-- COUNTIN_RECEIVE (R74 to R82, R311, R312): a count-in flit leaves the landing buffer of link `l`. -/
def execCountinReceive (l : Fin 12) (flit : List Byte) (s : State) : Host.Outcome State Fault Refusal :=
  .next (
    let t := s.tempo
    let die := 8 + (l : Nat) / 6
    let sb := leAt flit 16 4
    let ok := flitOk flit && leAt flit 0 1 == 0xC1 && s.installed && t.armed && !t.running && t.accepted.isNone &&
      (s.linkCfg l).parent && leAt flit 2 1 == t.region && leAt flit 4 2 == t.slice && leAt flit 3 1 == t.k &&
      leAt flit 22 2 == t.anchorChip
    if !ok then s.discardCountin l
    else if !s.isRestart sb then (s.discardCountin l).scoreFault die 6 0xFF 0
    else
      let total := leAt flit 8 4
      let el := leAt flit 12 4
      let w : Int := if t.rubato then 64 else (total : Int) - el
      if w < 64 then s.tempoFault die 3 ((l : Nat) % 6) 0
      else
        let depth := leAt flit 20 2
        let s := s.sendCountin die total el sb (depth + 1)
        let s := s.rewindTo sb
        s.setTempo { s.tempo with accepted := some ⟨die, sb, w.toNat, el, total, depth, []⟩ })

/-- START_NOTICE (R77, R78): the internal start notice reaches a die; the Mangle die that did not receive the count-in
forwards it 60 beats after the arrival. -/
def execStartNotice (die : Fin 12) (s : State) : Host.Outcome State Fault Refusal :=
  .next (match s.tempo.accepted with
    | none => s
    | some a =>
      if a.noticed.contains (die : Nat) then s
      else
        let s := s.setTempo { s.tempo with accepted := some { a with noticed := a.noticed ++ [(die : Nat)] } }
        if (die = 8 ∨ die = 9) ∧ a.rx ≠ 10 ∧ (die : Nat) ≠ a.rx then
          s.sendCountin die a.total (a.elapsed + 60) a.startSbar (a.depth + 1)
        else s)

/-- Every section of a Press with a part starts: at PC 0 for Score bar 0, else at its entry PC (R224, R313). -/
def State.startSections (s : State) (sbar : Nat) : State :=
  (s.presses.filter (fun p => s.pressUp p && !s.pressIdle p)).foldl (fun s p =>
    let pc := match (s.conductor (p / 32)).restartAt sbar with
      | some r => if sbar = 0 then 0 else r.pcs.getD (p % 32) 0
      | none => 0
    s.startPress p pc) s

/-- COUNTIN_BAR0_START (R57, R59, R76, R82, R84, R224, R313): bar 0 and Score time begin. -/
def execCountinBar0Start (s : State) : Host.Outcome State Fault Refusal :=
  .next (match s.tempo.accepted with
    | none => s
    | some a =>
      let s := s.setTempo { s.tempo with
        barno := 0, sbar := a.startSbar, beat := 0, running := true, held := false, fallback := false
        halted := false, armed := false, accepted := none, order := none, adopting := none, reqBar := none
        reqDone := none, frozen := false, merged := false, actions := [], ferm := [], missed := [], gotBar := [] }
      let s := s.condDies.foldl (fun s d =>
        ((s.setReg SCR_LATE_CUES [d] 0).setReg SCR_LATE_MOVES [d] 0).setReg SCR_TAKE_WAITS [d] 0) s
      let s := (s.clrReg TEL_PKG []).unClear
      let s := s.setUnison { s.unison with started := s.bit UN_CTRL [] UN_CTRL.PAIRED }
      let s := s.startSections a.startSbar
      let s := s.sendDownbeats
      s.completeAll .launch stOk [])

/-- The error of a downbeat on an internal link of a strict region (R87): early or late within 2 beats is counted,
more raises DRIFT; ERROR saturates at ±127. -/
def State.checkDrift (s : State) (l : Nat) (e : Int) : State :=
  let die := 8 + l / 6
  if 2 < e.natAbs then s.tempoFault die 0 (l % 6) (BitVec.ofInt 8 (max (-127) (min 127 e))).toNat
  else if e < 0 then s.incF TEL_LINK_DB_EARLY [l] TEL_LINK_DB_EARLY.COUNT 1
  else if 0 < e then s.incF TEL_LINK_DB_LATE [l] TEL_LINK_DB_LATE.COUNT 1
  else s

/-- A TEMPO_FAULT POSITION on the receiving Mangle die. -/
def State.position (s : State) (l : Nat) : State := s.tempoFault (8 + l / 6) 1 (l % 6) 0

/-- Adopt a newer order from a downbeat (R109), with FERM_LATE when its F has passed (R110) (DEDUCED, log entry 97). -/
def State.adoptOrder (s : State) (l : Nat) (o : Order) : State :=
  let t := s.tempo
  let own := (t.adopting.map (fun x => x.2)).or t.order
  if own.all (fun x => newer 16 o.seq x.seq) then
    let m := s.raisedBar
    let s := s.setTempo { t with adopting := some (m, o) }
    if newer 32 m o.f then s.tempoFault (8 + l / 6) 4 (l % 6) 0 else s
  else s

/-- DOWNBEAT_RECEIVE (R86 to R90, R94, R97, R99, R101, R105, R109 to R111): a downbeat leaves the Mangle switch of
link `l` with error `err` in beats. -/
def execDownbeatReceive (l : Fin 12) (flit : List Byte) (err : BitVec 16) (s : State) :
    Host.Outcome State Fault Refusal :=
  .next (
    let t := s.tempo
    let cfg := s.linkCfg l
    if !flitOk flit then s.incF TEL_LINK_DB_BAD [(l : Nat)] TEL_LINK_DB_BAD.COUNT 1
    else if leAt flit 0 1 ≠ 0xD1 ∨ !t.running ∨ (cfg.role ≠ 1 ∧ cfg.role ≠ 2) then s
    else
      let fl := leAt flit 1 1
      let bn := leAt flit 8 4
      let sb := leAt flit 12 4
      let seen := tget 0 t.gotBar l
      let s := s.setTempo { t with
        gotBar := if seen = 0 ∨ newer 32 bn (seen - 1) then tput 0 t.gotBar l (bn + 1) else t.gotBar }
      let s := if cfg.role = 1 ∧ leAt flit 2 1 ≠ t.region then s.tempoFault (8 + (l : Nat) / 6) 6 ((l : Nat) % 6) 0 else s
      let s :=
        if t.rubato then
          if (serialDiff 32 bn t.barno).natAbs ≤ 1 then s else s.position l
        else if t.fallback ∨ cfg.role ≠ 1 then s
        else if fl % 8 = 0 then
          let s := s.checkDrift l err.toInt
          if bn ≠ t.barno ∨ sb ≠ t.sbar then s.position l else s
        else
          let s := if fl.testBit 2 then s.scheduleAction .halt else s
          if fl.testBit 0 then s.scheduleAction .fallback else s
      if cfg.role ≠ 1 then s
      else
        let ofl := leAt flit 26 1
        let s := if ofl.testBit 0 then
            s.adoptOrder l ⟨leAt flit 24 2, leAt flit 16 4, leAt flit 20 4, ofl.testBit 1⟩ else s
        if ofl.testBit 2 then s.setTempo { s.tempo with reqBar := barMax s.tempo.reqBar (leAt flit 28 4) } else s)

/-- DOWNBEAT_MISSING (R89, R90): no downbeat had arrived on link `l` by beat L + 2; the second bar in a row raises
MISSING. Only internal links of a package in strict tempo are watched, and none that runs G1 (DEDUCED, log entry 97). -/
def execDownbeatMissing (l : Fin 12) (s : State) : Host.Outcome State Fault Refusal :=
  .next (
    let t := s.tempo
    if t.running && !t.isGated && (s.linkCfg l).role == 1 && (s.linkCfg l).profile != 2 then
      let last := tget 0 t.missed l
      let s := s.incF TEL_LINK_DB_MISSING [(l : Nat)] TEL_LINK_DB_MISSING.COUNT 1
      let s := s.setTempo { s.tempo with missed := tput 0 s.tempo.missed l (t.barno + 1) }
      if last ≠ 0 ∧ last % 2 ^ 32 = t.barno then s.tempoFault (8 + (l : Nat) / 6) 2 ((l : Nat) % 6) 0 else s
    else s)

/-- RUBATO_GATE_RELEASE (R99, R100): after `beats` gate beats every Score link has brought its downbeat, and the next
bar begins; the gate beats are counted. -/
def execRubatoGateRelease (beats : BitVec 32) (s : State) : Host.Outcome State Fault Refusal :=
  .next (
    if s.tempo.running && s.tempo.isGated && s.barDone && s.gatesOpen then
      (s.incF TEL_PKG [] TEL_PKG.GATE_BEATS beats.toNat).barEnd
    else s)

/-- GATE_TIMEOUT (R92, R102): a rubato package has waited more than GATE_LIMIT × 2^k gate beats at a closed gate: it
raises GATE_TIMEOUT on the Mangle die of the first such link and halts, so that the bar ends (DEDUCED, log entry 5). -/
def execGateTimeout (s : State) : Host.Outcome State Fault Refusal :=
  .next (
    if s.tempo.running && s.tempo.isGated && !s.tempo.halted && s.barDone && !s.gatesOpen then
      let l := ((List.range 12).find? (fun l => (s.linkCfg l).score && !(tget 0 s.tempo.gotBar l != 0 &&
        serialGe 32 (tget 0 s.tempo.gotBar l - 1) s.tempo.barno))).getD 0
      let s := s.incF TEL_PKG [] TEL_PKG.GATE_BEATS (s.tempo.gateLimit * 2 ^ s.tempo.k + 1)
      let die := 8 + l / 6
      let s := (s.latchTempo die 5 (l % 6) 0).logBits die SCR_TEMPO_FAULT [die] 1
      (s.setTempo { s.tempo with actions := s.tempo.actions ++ [(s.tempo.barno, .halt)] }).barEnd
    else s)

/-- FERMATA (R112 to R116): the count joins the requests of its bar and completes at that bar's merge. -/
def execFermata (c : Cmd) (s : State) : Host.Outcome State Fault Refusal :=
  .next (s.runCmd c 0x0304 (fun s =>
    let t := s.tempo
    if !t.anchor || !t.running || c.par 1 1 != t.region || !c.parZero 2 14 then s.complete c stBadParam []
    else if t.halted then s.complete c stTempoFault []
    else s.setTempo { t with ferm := t.ferm ++ [⟨s.raisedBar, c.par 0 1, .command c⟩] }))

/-- SCORE_STOP (R95, R98, R327 to R332) (DEDUCED, log entry 6). -/
def execScoreStop (c : Cmd) (s : State) : Host.Outcome State Fault Refusal :=
  .next (s.runCmd c 0x0305 (fun s =>
    let t := s.tempo
    let unload := c.par 0 1 == 1
    if 2 ≤ c.par 0 1 ∨ !c.parZero 2 14 ∨ (t.k ≠ 0 ∧ c.par 1 1 ≠ t.region) then s.complete c stBadParam []
    else if t.running then
      let s := s.condDies.foldl (fun s d => s.setF SCR_STATUS [d] SCR_STATUS.STOPPING 1) s
      (s.setTempo { s.tempo with actions := s.tempo.actions ++ [(s.raisedBar, .stop unload c)] }).wait .stopBar c
    else
      let s := if t.armed then s.disarm else s
      let s := if unload then s.unload else s
      s.complete c stOk (leBytes 4 t.barno ++ leBytes 4 t.sbar ++ leBytes 4 s.cueCount)))

end Sys2Proof.Machine
end

