-- ==== Sys2Proof/Machine/Sideband.lean ====
section
/-! DEFINITION. The test access port with its debug chain, and the SMBus sideband (20_telemetry_management.md, sections 3 and 4). -/

namespace Sys2Proof.Machine

/-! ### The test access port -/

/-- A logged event of the telemetry block or the sideband (R938); while C0 is in reset nothing logs it (DEDUCED, log entry 43). -/
def State.mgmtEvent (s : State) (r : Reg) (f : Fld) : State :=
  if s.dieInReset 10 then s.setBit r [] f else s.setLogged 10 r [] f

/-- Boundary scan takes over the balls (R922): no link is UP, the host link and the Ethernet ports are down (DEDUCED, log entry 42). -/
def State.scanEnter (s : State) : State :=
  let s := (List.range 12).foldl (fun s l => if 1 < s.linkState l && s.linkState l != 7 then s.linkLeave l 1 else s) s
  let s := [0, 1].foldl State.ethDown s
  s.hostReset

/-- Normal operation returns (R922): each link then retrains (DEDUCED, log entry 42). -/
def State.scanLeave (s : State) : State :=
  (List.range 12).foldl (fun s l => if s.linkState l != 0 && !s.linkInReset l then s.startTraining l 1 else s) s

/-- The TAP's current instruction becomes `code` (R918, R919, R922). -/
def State.tapInstruction (s : State) (code : Nat) : State :=
  let t := { s with tap := { s.tap with ir := code } }
  if t.boundaryScan then (if s.boundaryScan then t else t.scanEnter).mgmtEvent TEL_EVENT TEL_EVENT.EXTEST
  else if s.boundaryScan then t.scanLeave
  else t

/-- What IDCODE reads (R920); the table has no row for a shift of a data register. -/
def State.idcode (s : State) : Nat :=
  s.getF GLB_ID [] GLB_ID.STEPPING * 2 ^ 28 + (0x3300 + s.getF GLB_ID [] GLB_ID.VARIANT) * 2 ^ 12 + 0x2B5 * 2 + 1

/-- TAP_RESET (R918, R919): IDCODE is then the instruction (DEDUCED, log entry 40). -/
def execTapReset (s : State) : Host.Outcome State Fault Refusal := .next (s.tapInstruction 0x01)

/-- TAP_INSTRUCTION_UPDATE (R919, R922). -/
def execTapInstructionUpdate (code : BitVec 8) (s : State) : Host.Outcome State Fault Refusal := .next (s.tapInstruction code.toNat)

/-- DBG_SEL (R923, R924): Update-DR while DBG_SEL is the instruction (DEDUCED, log entry 41). -/
def execDbgSel (v : BitVec 16) (s : State) : Host.Outcome State Fault Refusal :=
  .next (if s.tap.ir != 0x10 then s
    else if s.debugOpen then { s with tap := { s.tap with sel := v.toNat } }
    else s.mgmtEvent TEL_EVENT TEL_EVENT.DBG_DENIED)

/-- What the next Capture-DR captures (R925). -/
def State.capture (s : State) (data : Word) (addr status : Nat) : State :=
  { s with tap := { s.tap with capData := data, capAddr := addr, capStatus := status } }

/-- A captured value that the spec does not state (DESIGN CHOICE, log entry 3). -/
def State.captureFree (s : State) (addr status : Nat) : State :=
  (s.capture (Config.freeWord s.free) addr status).useFree 1

/-- The size of a KIND 0 access: 4 bytes at a 32-bit register or at the upper half of a 64-bit one, else 8 (R925). -/
def debugSize (a : Nat) : Nat :=
  match regAt a with
  | some (r, _) => if r.width = 64 then 8 else 4
  | none => if a % 8 = 0 then 8 else 4

/-- The eight register bytes of a section at a multiple of 8 (R926). -/
def Section.debugRead (x : Section) (o : Nat) : List Byte :=
  if o < 0x4000 then (List.range 8).map (fun i => tget 0 x.tiles (o + i))
  else if o < 0x6000 then [0, 1].flatMap (fun i => leBytes 4 (tget 0 x.acc ((o - 0x4000) / 4 + i)).toNat)
  else if o < 0x7000 then [0, 1].flatMap (fun i => leBytes 4 (tget 0 x.vec ((o - 0x6000) / 4 + i)).toNat)
  else List.replicate 8 0

/-- Write eight register bytes of a section (R926). -/
def Section.debugWrite (x : Section) (o : Nat) (v : Nat) : Section :=
  let ws : List (BitVec 32) := [BitVec.ofNat 32 v, BitVec.ofNat 32 (v / 2 ^ 32)]
  if o < 0x4000 then { x with tiles := putTile x.tiles o (leBytes 8 v) }
  else if o < 0x6000 then { x with acc := putWords32 x.acc ((o - 0x4000) / 4) ws }
  else if o < 0x7000 then { x with vec := putWords32 x.vec ((o - 0x6000) / 4) ws }
  else x

/-- A debug access to the sections of a Press (R926) (DEDUCED, log entry 39). -/
def State.debugSection (s : State) (p addr : Nat) (write : Bool) (v : Nat) : State :=
  let k := addr / 0x8000 % 4
  let o := addr % 0x8000 / 8 * 8
  let x := s.sect p k
  if !s.pressUp p then s.captureFree addr 2
  else if x.st != .paused && x.st != .idle then s.captureFree addr 1
  else if write then (s.setSect p k (x.debugWrite o v)).captureFree addr 0
  else s.capture (BitVec.ofNat 64 (leNat (x.debugRead o))) addr 0

/-- A debug access (R924, R925). What a core's own debug module does is outside the spec (DEDUCED, log entry 70): its answer is free
(DEDUCED, log entry 39). -/
def State.debugAccess (s : State) (addr : Nat) (write : Bool) (v : Nat) : State :=
  let s := s.mgmtEvent TEL_EVENT TEL_EVENT.DEBUG_ACCESS
  match s.tap.sel % 4 with
  | 0 =>
    let n := debugSize addr
    if write then (s.busWrite .debug addr n v).captureFree addr 0
    else
      let t := s.busRead .debug addr n
      t.capture t.front.readData addr 0
  | 1 => s.debugSection (s.tap.sel / 256 % 256) addr write v
  | 2 => s.captureFree addr (s.freeNat 2)
  | _ => s.captureFree addr 2

/-- DBG_ACCESS (R923, R925): Update-DR while DBG_ACCESS is the instruction. OP 0 starts nothing, and what was captured last stays
(DEDUCED, log entry 41). -/
def execDbgAccess (v : BitVec 96) (s : State) : Host.Outcome State Fault Refusal :=
  .next (if s.tap.ir != 0x11 then s
    else if !s.debugOpen then s.mgmtEvent TEL_EVENT TEL_EVENT.DBG_DENIED
    else
      let n := v.toNat
      let addr := n / 2 ^ 64 % 2 ^ 26
      match n / 2 ^ 90 % 4 with
      | 0 => s
      | 1 => s.debugAccess addr false 0
      | 2 => s.debugAccess addr true (n % 2 ^ 64)
      | _ => s.captureFree addr (s.freeNat 2))

/-! ### The sideband's address -/

/-- What the target answers on the bus: nothing when it does not acknowledge. -/
def State.smbAnswer (s : State) (a : Option (List Byte)) : State := { s with smb := { s.smb with answer := a } }

/-- An address is assigned (SMB_ADDR.AV). -/
def State.smbAv (s : State) : Bool := s.bit SMB_ADDR [] SMB_ADDR.AV

/-- The target is eligible (R930): HEM_IN is asserted and it has no address. -/
def State.smbEligible (s : State) : Bool := s.bit SMB_ADDR [] SMB_ADDR.HEM_IN && !s.smbAv

/-- The UDID (R928), in the order in which it is sent. -/
def State.udid (s : State) : List Byte :=
  beBytes 1 0x81 ++ beBytes 1 (0x08 + s.getF GLB_ID [] GLB_ID.STEPPING) ++ beBytes 2 0x52E7 ++ beBytes 2 s.deviceId ++ beBytes 2 0x0005 ++
  beBytes 2 s.front.ssvid ++ beBytes 2 s.front.ssid ++ beBytes 4 ((s.reg GLB_SERIAL []).toNat % 2 ^ 32)

/-- HEM_IN_CHANGE (R929, R932): the filtered level changes. -/
def execHemInChange (level : Bool) (s : State) : Host.Outcome State Fault Refusal :=
  .next (({ s with pins := { s.pins with hemIn := level } }).setF SMB_ADDR [] SMB_ADDR.HEM_IN (b2n level))

/-- ARP_PREPARE (R930, R932). -/
def execArpPrepare (s : State) : Host.Outcome State Fault Refusal :=
  .next (s.smbAnswer (if s.smbEligible then some [] else none))

/-- A directed ARP command names this target (R930). -/
def State.directed (s : State) (dst : Option (BitVec 7)) : Bool :=
  match dst with
  | some a => s.smbAv && a.toNat == s.getF SMB_ADDR [] SMB_ADDR.ADDR
  | none => false

/-- ARP_GET_UDID (R928, R930): the general command, or the one directed to an address (PRESUMED, log entry 44). -/
def execArpGetUdid (dst : Option (BitVec 7)) (s : State) : Host.Outcome State Fault Refusal :=
  .next (s.smbAnswer (if s.directed dst || (dst.isNone && s.smbEligible) then some s.udid else none))

/-- An address that Assign Address does not give (R931). -/
def smbReserved (a : Nat) : Bool := decide (a ≤ 0x07) || [0x0C, 0x28, 0x37, 0x61].contains a || decide (0x78 ≤ a)

/-- ARP_ASSIGN_ADDRESS (R930, R931). -/
def execArpAssignAddress (udid : List Byte) (a : BitVec 7) (s : State) : Host.Outcome State Fault Refusal :=
  .next (if s.smbEligible && udid == s.udid && !smbReserved a.toNat then
      let s := (s.setF SMB_ADDR [] SMB_ADDR.ADDR a.toNat).setBit SMB_ADDR [] SMB_ADDR.AV
      (s.mgmtEvent SMB_EVENT SMB_EVENT.ASSIGNED).smbAnswer (some [])
    else s.smbAnswer none)

/-- ARP_RESET_DEVICE (R930, R932): the general command, or the one directed to an address (PRESUMED, log entry 44). -/
def execArpResetDevice (dst : Option (BitVec 7)) (s : State) : Host.Outcome State Fault Refusal :=
  .next (
    if s.directed dst || (dst.isNone && s.smbAv) then
      ((s.setF SMB_ADDR [] SMB_ADDR.AV 0).mgmtEvent SMB_EVENT SMB_EVENT.RESET_DEVICE).smbAnswer (some [])
    else s.smbAnswer (if dst.isNone && s.smbEligible then some [] else none))

/-! ### Commands over SMBus -/

/-- A read of a command code at the assigned address (R933). -/
def State.smbRead (s : State) (bs : List Byte) : State := s.smbAnswer (if s.smbAv then some bs else none)

/-- SMB_READ_STATUS (R933, R934). -/
def execSmbReadStatus (s : State) : Host.Outcome State Fault Refusal :=
  .next (s.smbRead (leBytes 1 (s.getF CMD_IF_STATUS [] CMD_IF_STATUS.FW_READY + 2 * b2n s.smb.busy + 4 * b2n s.smb.done + 8 * b2n s.smb.alert +
    16 * s.getF SMB_EVENT [] SMB_EVENT.CMD_ERR)))

/-- SMB_READ_SM_STATUS (R933, R934). -/
def execSmbReadSmStatus (s : State) : Host.Outcome State Fault Refusal := .next (s.smbRead (leBytes 4 s.smStatus.toNat))

/-- SMB_READ_ID (R933, R934). -/
def execSmbReadId (s : State) : Host.Outcome State Fault Refusal :=
  .next (s.smbRead (leBytes 8 (s.reg GLB_SERIAL []).toNat ++ leBytes 8 (s.reg GLB_ID []).toNat))

/-- SMB_READ_TEMP (R933, R934): the highest PWR_TEMP.NOW. -/
def execSmbReadTemp (s : State) : Host.Outcome State Fault Refusal :=
  .next (s.smbRead (leBytes 2 ((List.range 12).foldl (fun m d => max m (s.getF PWR_TEMP [d] PWR_TEMP.NOW)) 0)))

/-- A write at the assigned address (R933): discarded for a wrong PEC, or for none while PEC_REQ is 1. `pec` tells whether the PEC that came is
right. -/
def State.smbWrite (s : State) (pec : Option Bool) (f : State → State) : State :=
  if !s.smbAv then s.smbAnswer none
  else if pec == some false || (pec.isNone && s.bit SMB_CFG [] SMB_CFG.PEC_REQ) then
    ((s.setBit SMB_EVENT [] SMB_EVENT.PEC_ERR).incF SMB_COUNT [] SMB_COUNT.PEC_ERR 1).smbAnswer none
  else (f s).smbAnswer (some [])

/-- Stage slot bytes; a write that ends early leaves it incomplete (R935). -/
def State.stageSlot (s : State) (slot : List Byte) (whole : Bool) : State :=
  { s with smb := { s.smb with slot := slot, partWritten := !whole } }

/-- SMB_WRITE_SLOT_LOW (R933, R935): bytes 0 to 127; the others become 0. -/
def execSmbWriteSlotLow (bs : List Byte) (pec : Option Bool) (s : State) : Host.Outcome State Fault Refusal :=
  .next (s.smbWrite pec (fun s => s.stageSlot (slice (bs.take 128) 0 256) (decide (128 ≤ bs.length))))

/-- SMB_WRITE_SLOT_HIGH (R933, R935): up to `count` bytes from byte 128 on (DEDUCED, log entry 45). -/
def execSmbWriteSlotHigh (count : Fin 129) (bs : List Byte) (pec : Option Bool) (s : State) : Host.Outcome State Fault Refusal :=
  .next (s.smbWrite pec (fun s =>
    s.stageSlot (overlay s.smb.slot 128 (bs.take count)) (decide (0 < (count : Nat)) && decide ((count : Nat) ≤ bs.length))))

/-- SMB_SUBMIT (R935, R936): the staged slot goes to the command front end (DEDUCED, log entry 45). -/
def execSmbSubmit (pec : Option Bool) (s : State) : Host.Outcome State Fault Refusal :=
  .next (s.smbWrite pec (fun s =>
    if s.smb.busy || s.smb.partWritten then s.setBit SMB_EVENT [] SMB_EVENT.CMD_ERR
    else
      let c : Cmd := { via := .S, ring := 0, slot := s.smb.slot }
      let s := { s with smb := { s.smb with busy := true, done := false, cpl := List.replicate 32 0 } }
      let s := { s with front := { s.front with inflight := s.front.inflight ++ [(c, 0)] } }
      (s.incF CMD_IF_STATUS [] CMD_IF_STATUS.INFLIGHT 1).incF SMB_COUNT [] SMB_COUNT.COMMANDS 1))

/-- SMB_COMMAND_DONE (R936): the completion that is ready is stored. -/
def execSmbCommandDone (s : State) : Host.Outcome State Fault Refusal :=
  .next (match s.front.smbDone with
    | some cp =>
      let s := { s with front := { s.front with smbDone := none } }
      { s with smb := { s.smb with
        cpl := cp.bytes, busy := false, done := true, alert := s.smb.alert || s.bit SMB_CFG [] SMB_CFG.ALERT_EN } }
    | none => s)

/-- SMB_READ_COMPLETION (R936); without a completion the bytes are free (DESIGN CHOICE, log entry 3). -/
def execSmbReadCompletion (s : State) : Host.Outcome State Fault Refusal :=
  .next (if !s.smbAv then s.smbAnswer none
    else if s.smb.done then ({ s with smb := { s.smb with done := false, alert := false } }).smbAnswer (some s.smb.cpl)
    else
      let bs := (List.range 4).flatMap (fun i => leBytes 8 (Config.freeWord (s.free + i)).toNat)
      ((s.useFree 4).smbAnswer (some bs)))

/-- SMB_ALERT_RESPONSE (R937): `wins` is the outcome of the bus's arbitration (DEDUCED, log entry 45). -/
def execSmbAlertResponse (wins : Bool) (s : State) : Host.Outcome State Fault Refusal :=
  .next (s.smbAnswer (if s.smb.alert && s.smbAv && wins then some (leBytes 1 (s.getF SMB_ADDR [] SMB_ADDR.ADDR)) else none))

/-- SMB_TIMEOUT (R927). -/
def execSmbTimeout (s : State) : Host.Outcome State Fault Refusal := .next ((s.setBit SMB_EVENT [] SMB_EVENT.TIMEOUT).smbAnswer none)

end Sys2Proof.Machine
end

