-- ==== Sys2Proof/Machine/Dispatch.lean ====
section
/-! DEFINITION. The one map from a command of the table to its meaning. -/

namespace Sys2Proof.Machine

/-- The effect of a command on everything but the queue. -/
def exec (i : Instr) (s : State) : Host.Outcome State Fault Refusal :=
  match i with
  | .registerWrite w a n v => Sys2Proof.Machine.execRegisterWrite w a n v s
  | .rcRegisterRead w a n => Sys2Proof.Machine.execRcRegisterRead w a n s
  | .absentUnitRead w a n => Sys2Proof.Machine.execAbsentUnitRead w a n s
  | .absentUnitWrite w a n v => Sys2Proof.Machine.execAbsentUnitWrite w a n v s
  | .reservedOffsetAccess w a n v => Sys2Proof.Machine.execReservedOffsetAccess w a n v s
  | .misalignedRegAccess w a n v => Sys2Proof.Machine.execMisalignedRegAccess w a n v s
  | .powerOnReset => Sys2Proof.Machine.execPowerOnReset s
  | .vauxUndervoltage => Sys2Proof.Machine.execVauxUndervoltage s
  | .railUndervoltage r => Sys2Proof.Machine.execRailUndervoltage r s
  | .avsResponseTimeout d => Sys2Proof.Machine.execAvsResponseTimeout d s
  | .pkgResetAssert => Sys2Proof.Machine.execPkgResetAssert s
  | .rstColdWrite w v => Sys2Proof.Machine.execRstColdWrite w v s
  | .coldResetRelease heat flashOk failed ms => Sys2Proof.Machine.execColdResetRelease heat flashOk failed ms s
  | .fwBootTimeout => Sys2Proof.Machine.execFwBootTimeout s
  | .rootPllLock d failed => Sys2Proof.Machine.execRootPllLock d failed s
  | .rootPllLockLoss d long => Sys2Proof.Machine.execRootPllLockLoss d long s
  | .refMissingEdge x => Sys2Proof.Machine.execRefMissingEdge x s
  | .refFreqWindowFail x => Sys2Proof.Machine.execRefFreqWindowFail x s
  | .refQualified x us => Sys2Proof.Machine.execRefQualified x us s
  | .switchoverComplete => Sys2Proof.Machine.execSwitchoverComplete s
  | .holdoverExpiry => Sys2Proof.Machine.execHoldoverExpiry s
  | .clkFwdCfgWrite v => Sys2Proof.Machine.execClkFwdCfgWrite v s
  | .clkRefCfgWrite v => Sys2Proof.Machine.execClkRefCfgWrite v s
  | .mesoFillMargin link d q high => Sys2Proof.Machine.execMesoFillMargin link d q high s
  | .mesoCrossingFault link d q high => Sys2Proof.Machine.execMesoCrossingFault link d q high s
  | .barBoundary => Sys2Proof.Machine.execBarBoundary s
  | .barNoteCutoff => Sys2Proof.Machine.execBarNoteCutoff s
  | .barNoteMerge => Sys2Proof.Machine.execBarNoteMerge s
  | .barNoteReceive die port err => Sys2Proof.Machine.execBarNoteReceive die port err s
  | .scoreStart c => Sys2Proof.Machine.execScoreStart c s
  | .countinReceive l flit => Sys2Proof.Machine.execCountinReceive l flit s
  | .startNotice die => Sys2Proof.Machine.execStartNotice die s
  | .countinBar0Start => Sys2Proof.Machine.execCountinBar0Start s
  | .downbeatReceive l flit err => Sys2Proof.Machine.execDownbeatReceive l flit err s
  | .downbeatMissing l => Sys2Proof.Machine.execDownbeatMissing l s
  | .rubatoGateRelease beats => Sys2Proof.Machine.execRubatoGateRelease beats s
  | .gateTimeout => Sys2Proof.Machine.execGateTimeout s
  | .fermata c => Sys2Proof.Machine.execFermata c s
  | .scoreLoad c => Sys2Proof.Machine.execScoreLoad c s
  | .scorePatch c => Sys2Proof.Machine.execScorePatch c s
  | .patchStageDone die => Sys2Proof.Machine.execPatchStageDone die s
  | .patchLate => Sys2Proof.Machine.execPatchLate s
  | .scoreStop c => Sys2Proof.Machine.execScoreStop c s
  | .moveSend d free => Sys2Proof.Machine.execMoveSend d free s
  | .boltDeparture d n free beats => Sys2Proof.Machine.execBoltDeparture d n free beats s
  | .moveTake m free => Sys2Proof.Machine.execMoveTake m free s
  | .takeDeferred l beats free => Sys2Proof.Machine.execTakeDeferred l beats free s
  | .cue d => Sys2Proof.Machine.execCue d s
  | .pendingCueFire d => Sys2Proof.Machine.execPendingCueFire d s
  | .heldCueEnqueue d => Sys2Proof.Machine.execHeldCueEnqueue d s
  | .cueArrive d => Sys2Proof.Machine.execCueArrive d s
  | .fermataEntry => Sys2Proof.Machine.execFermataEntry s
  | .deskNop d => Sys2Proof.Machine.execDeskNop d s
  | .patchpoint d => Sys2Proof.Machine.execPatchpoint d s
  | .sectionPaused p k => Sys2Proof.Machine.execSectionPaused p k s
  | .pauseRequest p => Sys2Proof.Machine.execPauseRequest p s
  | .resume p => Sys2Proof.Machine.execResume p s
  | .prsCntClr p => Sys2Proof.Machine.execPrsCntClr p s
  | .tstartWrite p k row => Sys2Proof.Machine.execTstartWrite p k row s
  | .bankWakeDone p k pair => Sys2Proof.Machine.execBankWakeDone p k pair s
  | .gateTakesEffect p k pair => Sys2Proof.Machine.execGateTakesEffect p k pair s
  | .holdWaitRelease p cycles => Sys2Proof.Machine.execHoldWaitRelease p cycles s
  | .zeroingDone p => Sys2Proof.Machine.execZeroingDone p s
  | .boardDebugRead p half => Sys2Proof.Machine.execBoardDebugRead p half s
  | .boardDebugWrite p half data => Sys2Proof.Machine.execBoardDebugWrite p half data s
  | .nop p k w => Sys2Proof.Machine.execNop p k w s
  | .loop p k w => Sys2Proof.Machine.execLoop p k w s
  | .endl p k w => Sys2Proof.Machine.execEndl p k w s
  | .cuewait p k w => Sys2Proof.Machine.execCuewait p k w s
  | .sync p k w => Sys2Proof.Machine.execSync p k w s
  | .bankset p k w => Sys2Proof.Machine.execBankset p k w s
  | .endPart p k w => Sys2Proof.Machine.execEndPart p k w s
  | .tld p k w => Sys2Proof.Machine.execTld p k w s
  | .tst p k w => Sys2Proof.Machine.execTst p k w s
  | .tzero p k w => Sys2Proof.Machine.execTzero p k w s
  | .ttr p k w => Sys2Proof.Machine.execTtr p k w s
  | .azero p k w => Sys2Proof.Machine.execAzero p k w s
  | .ald p k w => Sys2Proof.Machine.execAld p k w s
  | .ast p k w => Sys2Proof.Machine.execAst p k w s
  | .acvt p k w => Sys2Proof.Machine.execAcvt p k w s
  | .mma p k w => Sys2Proof.Machine.execMma p k w s
  | .mmas p k w upto => Sys2Proof.Machine.execMmas p k w upto s
  | .vset p k w => Sys2Proof.Machine.execVset p k w s
  | .vld p k w => Sys2Proof.Machine.execVld p k w s
  | .vst p k w => Sys2Proof.Machine.execVst p k w s
  | .vadd p k w => Sys2Proof.Machine.execVadd p k w s
  | .vmul p k w => Sys2Proof.Machine.execVmul p k w s
  | .vfma p k w => Sys2Proof.Machine.execVfma p k w s
  | .vmax p k w => Sys2Proof.Machine.execVmax p k w s
  | .ared p k w => Sys2Proof.Machine.execAred p k w s
  | .avop p k w => Sys2Proof.Machine.execAvop p k w s
  | .qld p k w => Sys2Proof.Machine.execQld p k w s
  | .qst p k w => Sys2Proof.Machine.execQst p k w s
  | .qwait p k w => Sys2Proof.Machine.execQwait p k w s
  | .rinse p k w => Sys2Proof.Machine.execRinse p k w s
  | .cadence p k w => Sys2Proof.Machine.execCadence p k w s
  | .tksend p k w => Sys2Proof.Machine.execTksend p k w s
  | .time p k w => Sys2Proof.Machine.execTime p k w s
  | .loadFillArrive p q n ecc victim => Sys2Proof.Machine.execLoadFillArrive p q n ecc victim s
  | .storeAccept p q => Sys2Proof.Machine.execStoreAccept p q s
  | .writebackStart d => Sys2Proof.Machine.execWritebackStart d s
  | .writebackAck d blk => Sys2Proof.Machine.execWritebackAck d blk s
  | .memRequestRetry d => Sys2Proof.Machine.execMemRequestRetry d s
  | .memWaitTimeout d m => Sys2Proof.Machine.execMemWaitTimeout d m s
  | .rinseDone d => Sys2Proof.Machine.execRinseDone d s
  | .fenceDone d => Sys2Proof.Machine.execFenceDone d s
  | .hbmRefresh n hot => Sys2Proof.Machine.execHbmRefresh n hot s
  | .scrubRead n off ecc => Sys2Proof.Machine.execScrubRead n off ecc s
  | .ueRetry d => Sys2Proof.Machine.execUeRetry d s
  | .memQctlCntClr p => Sys2Proof.Machine.execMemQctlCntClr p s
  | .boardWindowAccess src off n w => Sys2Proof.Machine.execBoardWindowAccess src off n w s
  | .rinseRange c => Sys2Proof.Machine.execRinseRange c s
  | .cadenceCommand c => Sys2Proof.Machine.execCadenceCommand c s
  | .codewordReceive l cw => Sys2Proof.Machine.execCodewordReceive l cw s
  | .seamBeatReceive d q beat => Sys2Proof.Machine.execSeamBeatReceive d q beat s
  | .alignNotice die good => Sys2Proof.Machine.execAlignNotice die good s
  | .alignRequest die => Sys2Proof.Machine.execAlignRequest die s
  | .echoNotice d q rtt turn => Sys2Proof.Machine.execEchoNotice d q rtt turn s
  | .seamTrainingDone d q repairs => Sys2Proof.Machine.execSeamTrainingDone d q repairs s
  | .linkEnable l => Sys2Proof.Machine.execLinkEnable l s
  | .linkDisable l => Sys2Proof.Machine.execLinkDisable l s
  | .lnkCntClr l => Sys2Proof.Machine.execLnkCntClr l s
  | .linkStateComplete l reversed polarity beat => Sys2Proof.Machine.execLinkStateComplete l reversed polarity beat s
  | .linkStateTimeout l => Sys2Proof.Machine.execLinkStateTimeout l s
  | .linkRetryTimer l => Sys2Proof.Machine.execLinkRetryTimer l s
  | .linkFlitReceive l flit arrived leaves => Sys2Proof.Machine.execLinkFlitReceive l flit arrived leaves s
  | .echoRepeat l beat => Sys2Proof.Machine.execEchoRepeat l beat s
  | .linkQuietStart l => Sys2Proof.Machine.execLinkQuietStart l s
  | .linkQuietEnd l => Sys2Proof.Machine.execLinkQuietEnd l s
  | .linkRetrain c => Sys2Proof.Machine.execLinkRetrain c s
  | .linkProfile c => Sys2Proof.Machine.execLinkProfile c s
  | .boltHeadRoute id free obs => Sys2Proof.Machine.execBoltHeadRoute id free obs s
  | .headAdvance id free obs => Sys2Proof.Machine.execHeadAdvance id free obs s
  | .boltLinkArrival l flits resend free obs => Sys2Proof.Machine.execBoltLinkArrival l flits resend free obs s
  | .boltExitLookup id free obs => Sys2Proof.Machine.execBoltExitLookup id free obs s
  | .descriptorRecordArrive stream seq => Sys2Proof.Machine.execDescriptorRecordArrive stream seq s
  | .boltHeadAccept id upto obs => Sys2Proof.Machine.execBoltHeadAccept id upto obs s
  | .boltTailArrive id obs => Sys2Proof.Machine.execBoltTailArrive id obs s
  | .knotTackSend d => Sys2Proof.Machine.execKnotTackSend d s
  | .knotApply m => Sys2Proof.Machine.execKnotApply m s
  | .snagApply m => Sys2Proof.Machine.execSnagApply m s
  | .knotTimeout m => Sys2Proof.Machine.execKnotTimeout m s
  | .resendStart m => Sys2Proof.Machine.execResendStart m s
  | .resendDepart l beat free => Sys2Proof.Machine.execResendDepart l beat free s
  | .resendForward m => Sys2Proof.Machine.execResendForward m s
  | .csendGo m => Sys2Proof.Machine.execCsendGo m s
  | .tackInjectTranslate m => Sys2Proof.Machine.execTackInjectTranslate m s
  | .tackReleaseToMangle d m => Sys2Proof.Machine.execTackReleaseToMangle d m s
  | .tackForward m free => Sys2Proof.Machine.execTackForward m free s
  | .tackDeflect m n waited free => Sys2Proof.Machine.execTackDeflect m n waited free s
  | .tackLinkArrival l tack => Sys2Proof.Machine.execTackLinkArrival l tack s
  | .noticeDeliver die => Sys2Proof.Machine.execNoticeDeliver die s
  | .writeDeliver die => Sys2Proof.Machine.execWriteDeliver die s
  | .addDeliver die ecc => Sys2Proof.Machine.execAddDeliver die ecc s
  | .doorbellDeliver die => Sys2Proof.Machine.execDoorbellDeliver die s
  | .peerReqDeliver die => Sys2Proof.Machine.execPeerReqDeliver die s
  | .peerRspDeliver die => Sys2Proof.Machine.execPeerRspDeliver die s
  | .ackReceive die => Sys2Proof.Machine.execAckReceive die s
  | .ackTimeout die num => Sys2Proof.Machine.execAckTimeout die num s
  | .inboxPop m => Sys2Proof.Machine.execInboxPop m s
  | .tckGridWrite m data => Sys2Proof.Machine.execTckGridWrite m data s
  | .mcastGroupWrite c => Sys2Proof.Machine.execMcastGroupWrite c s
  | .rankTableWrite c => Sys2Proof.Machine.execRankTableWrite c s
  | .sliceSet c => Sys2Proof.Machine.execSliceSet c s
  | .rnkChipWrite m data => Sys2Proof.Machine.execRnkChipWrite m data s
  | .fenceWrite m data => Sys2Proof.Machine.execFenceWrite m data s
  | .legacyStoreSend l => Sys2Proof.Machine.execLegacyStoreSend l s
  | .g1PacketSend l => Sys2Proof.Machine.execG1PacketSend l s
  | .g1SegReceive l packet => Sys2Proof.Machine.execG1SegReceive l packet s
  | .g1MsgReceive l packet => Sys2Proof.Machine.execG1MsgReceive l packet s
  | .g1CreditReceive l packet => Sys2Proof.Machine.execG1CreditReceive l packet s
  | .g1InitReceive l packet => Sys2Proof.Machine.execG1InitReceive l packet s
  | .g1CreditTimer l => Sys2Proof.Machine.execG1CreditTimer l s
  | .lnkLgcIdWrite l data => Sys2Proof.Machine.execLnkLgcIdWrite l data s
  | .icuEvent n => Sys2Proof.Machine.execIcuEvent n s
  | .icuSetpend n => Sys2Proof.Machine.execIcuSetpend n s
  | .icuSrcWrite n v => Sys2Proof.Machine.execIcuSrcWrite n v s
  | .icuClaim w t => Sys2Proof.Machine.execIcuClaim w t s
  | .icuComplete w t v => Sys2Proof.Machine.execIcuComplete w t v s
  | .icuStackReset w v => Sys2Proof.Machine.execIcuStackReset w v s
  | .machineTimer c => Sys2Proof.Machine.execMachineTimer c s
  | .eventStamp d => Sys2Proof.Machine.execEventStamp d s
  | .eventRecordWrite fail => Sys2Proof.Machine.execEventRecordWrite fail s
  | .softwareEvent v => Sys2Proof.Machine.execSoftwareEvent v s
  | .evaRdWrite v => Sys2Proof.Machine.execEvaRdWrite v s
  | .eventLogConfig c => Sys2Proof.Machine.execEventLogConfig c s
  | .hostInterfaceReset kind => Sys2Proof.Machine.execHostInterfaceReset kind s
  | .ringEnable w r v => Sys2Proof.Machine.execRingEnable w r v s
  | .ringDisable w r v => Sys2Proof.Machine.execRingDisable w r v s
  | .tailDoorbell w bar2 r v => Sys2Proof.Machine.execTailDoorbell w bar2 r v s
  | .cplHeadDoorbell w bar2 r v => Sys2Proof.Machine.execCplHeadDoorbell w bar2 r v s
  | .commandFetch slot ok => Sys2Proof.Machine.execCommandFetch slot ok s
  | .msixCoalesceTimer r => Sys2Proof.Machine.execMsixCoalesceTimer r s
  | .identify c => Sys2Proof.Machine.execIdentify c s
  | .queryCaps c => Sys2Proof.Machine.execQueryCaps c s
  | .stageIn c data cut => Sys2Proof.Machine.execStageIn c data cut s
  | .stageOut c corr cut => Sys2Proof.Machine.execStageOut c corr cut s
  | .writeInline c => Sys2Proof.Machine.execWriteInline c s
  | .readSmall c ecc => Sys2Proof.Machine.execReadSmall c ecc s
  | .ethFrameReceive p f => Sys2Proof.Machine.execEthFrameReceive p f s
  | .pauseFrameReceive p => Sys2Proof.Machine.execPauseFrameReceive p s
  | .pauseTimerExpiry p q => Sys2Proof.Machine.execPauseTimerExpiry p q s
  | .ethFrameTransmit p ecc => Sys2Proof.Machine.execEthFrameTransmit p ecc s
  | .xoffRefresh p q => Sys2Proof.Machine.execXoffRefresh p q s
  | .ethLinkUp p => Sys2Proof.Machine.execEthLinkUp p s
  | .ethLinkDown p => Sys2Proof.Machine.execEthLinkDown p s
  | .ethQdbWrite q v => Sys2Proof.Machine.execEthQdbWrite q v s
  | .ethQcplWrite q v => Sys2Proof.Machine.execEthQcplWrite q v s
  | .queueTailPoll q fail => Sys2Proof.Machine.execQueueTailPoll q fail s
  | .descriptorTake q ecc fail late => Sys2Proof.Machine.execDescriptorTake q ecc fail late s
  | .ethDmaComplete q fail => Sys2Proof.Machine.execEthDmaComplete q fail s
  | .rbtDataReceive q n mayAbort => Sys2Proof.Machine.execRbtDataReceive q n mayAbort s
  | .rbtAckReceive p n => Sys2Proof.Machine.execRbtAckReceive p n s
  | .rbtNakReceive p n => Sys2Proof.Machine.execRbtNakReceive p n s
  | .rbtAbortReceive p n => Sys2Proof.Machine.execRbtAbortReceive p n s
  | .rbtAckTimer q => Sys2Proof.Machine.execRbtAckTimer q s
  | .rbtNakTimer q => Sys2Proof.Machine.execRbtNakTimer q s
  | .rbtRto q => Sys2Proof.Machine.execRbtRto q s
  | .portConfig c => Sys2Proof.Machine.execPortConfig c s
  | .portQueueCreate c => Sys2Proof.Machine.execPortQueueCreate c s
  | .pfcConfig c => Sys2Proof.Machine.execPfcConfig c s
  | .macsecSa c => Sys2Proof.Machine.execMacsecSa c s
  | .reproProfileSet c => Sys2Proof.Machine.execReproProfileSet c s
  | .unisonPair c => Sys2Proof.Machine.execUnisonPair c s
  | .unisonReplay c => Sys2Proof.Machine.execUnisonReplay c s
  | .digestClose sbar which => Sys2Proof.Machine.execDigestClose sbar which s
  | .barCompare sbar => Sys2Proof.Machine.execBarCompare sbar s
  | .unisonWaitTimeout sbar => Sys2Proof.Machine.execUnisonWaitTimeout sbar s
  | .census c => Sys2Proof.Machine.execCensus c s
  | .censusSample age0 age1 => Sys2Proof.Machine.execCensusSample age0 age1 s
  | .linenHandover m => Sys2Proof.Machine.execLinenHandover m s
  | .noticeUpdate u mx mn => Sys2Proof.Machine.execNoticeUpdate u mx mn s
  | .ntcMarksWrite u half v => Sys2Proof.Machine.execNtcMarksWrite u half v s
  | .ntcLevelWrite u v => Sys2Proof.Machine.execNtcLevelWrite u v s
  | .ntcPeakRead u => Sys2Proof.Machine.execNtcPeakRead u s
  | .upClr u => Sys2Proof.Machine.execUpClr u s
  | .unitReset c => Sys2Proof.Machine.execUnitReset c s
  | .unitFold c us => Sys2Proof.Machine.execUnitFold c us s
  | .unitUnfold c => Sys2Proof.Machine.execUnitUnfold c s
  | .pstateSet c us => Sys2Proof.Machine.execPstateSet c us s
  | .unitInService u us => Sys2Proof.Machine.execUnitInService u us s
  | .unitServiceTimeout u us => Sys2Proof.Machine.execUnitServiceTimeout u us s
  | .linkGiveup stream seq => Sys2Proof.Machine.execLinkGiveup stream seq s
  | .linkDiscard l => Sys2Proof.Machine.execLinkDiscard l s
  | .thermalThrottle d t hbm => Sys2Proof.Machine.execThermalThrottle d t hbm s
  | .thermalTrip d t => Sys2Proof.Machine.execThermalTrip d t s
  | .fwStage c => Sys2Proof.Machine.execFwStage c s
  | .fwActivate c => Sys2Proof.Machine.execFwActivate c s
  | .fwActivateRevert => Sys2Proof.Machine.execFwActivateRevert s
  | .smSessionOpen c => Sys2Proof.Machine.execSmSessionOpen c s
  | .smService c failed => Sys2Proof.Machine.execSmService c failed s
  | .zeroize c => Sys2Proof.Machine.execZeroize c s
  | .zeroizeNLatch => Sys2Proof.Machine.execZeroizeNLatch s
  | .smMboxGo w v failed => Sys2Proof.Machine.execSmMboxGo w v failed s
  | .sessionIdleTimeout slot => Sys2Proof.Machine.execSessionIdleTimeout slot s
  | .challengeExpiry via id => Sys2Proof.Machine.execChallengeExpiry via id s
  | .authLockoutEnd via => Sys2Proof.Machine.execAuthLockoutEnd via s
  | .entropyHealthFail apt => Sys2Proof.Machine.execEntropyHealthFail apt s
  | .softErrorRecovery ok7 ok6 => Sys2Proof.Machine.execSoftErrorRecovery ok7 ok6 s
  | .periodicSelftest failed => Sys2Proof.Machine.execPeriodicSelftest failed s
  | .telemetrySnapshot c => Sys2Proof.Machine.execTelemetrySnapshot c s
  | .snapshotSample ok => Sys2Proof.Machine.execSnapshotSample ok s
  | .telClr v => Sys2Proof.Machine.execTelClr v s
  | .tapReset => Sys2Proof.Machine.execTapReset s
  | .tapInstructionUpdate code => Sys2Proof.Machine.execTapInstructionUpdate code s
  | .dbgSel v => Sys2Proof.Machine.execDbgSel v s
  | .dbgAccess v => Sys2Proof.Machine.execDbgAccess v s
  | .hemInChange level => Sys2Proof.Machine.execHemInChange level s
  | .arpPrepare => Sys2Proof.Machine.execArpPrepare s
  | .arpGetUdid dst => Sys2Proof.Machine.execArpGetUdid dst s
  | .arpAssignAddress udid a => Sys2Proof.Machine.execArpAssignAddress udid a s
  | .arpResetDevice dst => Sys2Proof.Machine.execArpResetDevice dst s
  | .smbReadStatus => Sys2Proof.Machine.execSmbReadStatus s
  | .smbReadSmStatus => Sys2Proof.Machine.execSmbReadSmStatus s
  | .smbReadId => Sys2Proof.Machine.execSmbReadId s
  | .smbReadTemp => Sys2Proof.Machine.execSmbReadTemp s
  | .smbWriteSlotLow bs pec => Sys2Proof.Machine.execSmbWriteSlotLow bs pec s
  | .smbWriteSlotHigh count bs pec => Sys2Proof.Machine.execSmbWriteSlotHigh count bs pec s
  | .smbSubmit pec => Sys2Proof.Machine.execSmbSubmit pec s
  | .smbCommandDone => Sys2Proof.Machine.execSmbCommandDone s
  | .smbReadCompletion => Sys2Proof.Machine.execSmbReadCompletion s
  | .smbAlertResponse wins => Sys2Proof.Machine.execSmbAlertResponse wins s
  | .smbTimeout => Sys2Proof.Machine.execSmbTimeout s
  | .laneLockLoss target => Sys2Proof.Machine.execLaneLockLoss target s
  | .linkRetrainTimeout c => Sys2Proof.Machine.execLinkRetrainTimeout c s
  | .hostLinkUp cxl width rate => Sys2Proof.Machine.execHostLinkUp cxl width rate s
  | .busMasterEnableChange bme mps mrrs => Sys2Proof.Machine.execBusMasterEnableChange bme mps mrrs s
  | .railTargetReached d us => Sys2Proof.Machine.execRailTargetReached d us s
  | .activationDrainTimeout => Sys2Proof.Machine.execActivationDrainTimeout s
  | .resetRelease u => Sys2Proof.Machine.execResetRelease u s

end Sys2Proof.Machine
end

