-- ==== Sys2Proof/Machine/Tick.lean ====
section
/-! DEFINITION. What a beat in which no command waits does (DESIGN CHOICE, log entry 9). -/

namespace Sys2Proof.Machine

/-- One fabric cycle (DESIGN CHOICE, log entry 9): EVA_TIME counts except in cold reset (EVA_TIME), the beat of a running package counts and
holds at 0xFFFF (SCR_BEAT.BEAT), each die's beat count advances (R439), and a replay applies what is due (R783). -/
def State.tick (s : State) : State :=
  let s := { s with clock := s.clock + 1 }
  let s := if s.fw.inCold then s else s.setF EVA_TIME [] EVA_TIME.TIME (s.getF EVA_TIME [] EVA_TIME.TIME + 1)
  let s := if s.tempo.running then s.setTempo { s.tempo with beat := min 0xFFFF (s.tempo.beat + 1) } else s
  s.replayLog

/-- The queue without its first command. -/
def State.withPending (s : State) (q : List Instr) : State := { s with pending := q }

end Sys2Proof.Machine
end

