-- ==== Sys2Proof/Safety.lean ====
section
/-! DEFINITION. What counts as a safe step of this part, in the terms that claims use. -/

namespace Sys2Proof.Machine

/-- Device memory is in its canonical form: offsets rise strictly, and no listed byte is the one that an unlisted offset reads as
(DESIGN CHOICE, log entry 1). -/
def Memory.wf (m : List Host.Cell) : Bool := tok 0 m

/-- The register store is in its canonical form: only differences from reset values are listed, in rising order of offset. -/
def Registers.wf (r : Table Word) : Bool := tok 0 r

/-- The stores that the part is read through are in canonical form. -/
def State.wf (s : State) : Prop := Memory.wf s.mem = true ∧ Registers.wf s.regs = true

/-- The parts of the state, one per field. -/
inductive Part where
  | regs | mem | tempo | clock | dieBase | aligns | links | cond | patches | press | sects | queues | qseq | ports | linkTx | lk | seams | legacy
  | score | tacks | books | eth | unison | arb | icu | front | sm | tap | smb | pins | fuses | flash | fw | pwr | free | pending
  deriving DecidableEq, Repr

/-- A part has the same contents in two states. -/
def Part.same : Part → State → State → Prop
  | .regs, s, t => t.regs = s.regs
  | .mem, s, t => t.mem = s.mem
  | .tempo, s, t => t.tempo = s.tempo
  | .clock, s, t => t.clock = s.clock
  | .dieBase, s, t => t.dieBase = s.dieBase
  | .aligns, s, t => t.aligns = s.aligns
  | .links, s, t => t.links = s.links
  | .cond, s, t => t.cond = s.cond
  | .patches, s, t => t.patches = s.patches
  | .press, s, t => t.press = s.press
  | .sects, s, t => t.sects = s.sects
  | .queues, s, t => t.queues = s.queues
  | .qseq, s, t => t.qseq = s.qseq
  | .ports, s, t => t.ports = s.ports
  | .linkTx, s, t => t.linkTx = s.linkTx
  | .lk, s, t => t.lk = s.lk
  | .seams, s, t => t.seams = s.seams
  | .legacy, s, t => t.legacy = s.legacy
  | .score, s, t => t.score = s.score
  | .tacks, s, t => t.tacks = s.tacks
  | .books, s, t => t.books = s.books
  | .eth, s, t => t.eth = s.eth
  | .unison, s, t => t.unison = s.unison
  | .arb, s, t => t.arb = s.arb
  | .icu, s, t => t.icu = s.icu
  | .front, s, t => t.front = s.front
  | .sm, s, t => t.sm = s.sm
  | .tap, s, t => t.tap = s.tap
  | .smb, s, t => t.smb = s.smb
  | .pins, s, t => t.pins = s.pins
  | .fuses, s, t => t.fuses = s.fuses
  | .flash, s, t => t.flash = s.flash
  | .fw, s, t => t.fw = s.fw
  | .pwr, s, t => t.pwr = s.pwr
  | .free, s, t => t.free = s.free
  | .pending, s, t => t.pending = s.pending

/-- From `s` to `t` nothing changes but the parts listed, and the register store and device memory keep their canonical form. -/
def Frame (l : List Part) (s t : State) : Prop :=
  (∀ p, p ∉ l → p.same s t) ∧ (Registers.wf s.regs = true → Registers.wf t.regs = true) ∧ (Memory.wf s.mem = true → Memory.wf t.mem = true)

/-- Every register but those at the listed offsets reads as before. -/
def RegsKept (as : List Nat) (s t : State) : Prop := ∀ a, a ∉ as → tget 0 t.regs a = tget 0 s.regs a

/-- An outcome is a next state that has the property `P`. -/
def Completes (o : Host.Outcome State Fault Refusal) (P : State → Prop) : Prop := ∃ t, o = .next t ∧ P t

/-- The step neither faults nor is refused: no command of this part stops. -/
def Safe (s : State) : Prop := Completes (step s) (fun _ => True)

end Sys2Proof.Machine
end

