-- ==== Sys2Proof/Certificates/Slice0/Obligations.lean ====
section
/-! DEFINITION. The statements about the part. Each is one or more of the spec's rules over the commands that it names: when such a
command does what the rule says, what the next state then holds, and what it leaves as it was. -/

open Sys2Proof Sys2Proof.Machine

namespace Sys2Proof.Machine

/-- The host command `c` with this opcode runs its body: no barrier holds it, the firmware answers, and the header checks pass
(R680, R689, R952). -/
def State.Accepts (s : State) (c : Cmd) (op : Nat) : Prop :=
  c.opcode = op ∧ s.barred c = false ∧ s.fwReady = true ∧ s.headerCheck c = none

/-- From `s` to `t` one event of this die, kind and data went to the arbiter, when fewer than 64 of the die's waited (R644, R646). -/
def Logs (s t : State) (die kind data : Nat) : Prop :=
  (s.arb.queue.filter (fun x => x.die == die)).length < 64 →
    ∃ e : Ev, e.die = die ∧ e.kind = kind ∧ e.data = data ∧ t.arb.queue = s.arb.queue ++ [e]

/-- A counter field after `n` more events: it stays at its width's largest value (R904). -/
def Counted (r : Reg) (ix : List Nat) (f : Fld) (n : Nat) (s t : State) : Prop :=
  t.getF r ix f = min (2 ^ f.width - 1) (s.getF r ix f + n)

end Sys2Proof.Machine

namespace Sys2Proof.Machine

/-- Section k of Press p runs, with no Board write of it waiting, and issues the instruction `ins`, which stands at index i (R226, R233). -/
def State.Issues (s : State) (p k i : Nat) (ins : PInstr) : Prop :=
  s.canIssue p k = true ∧ (s.sect p k).st = .running ∧ (s.sect p k).pendW = [] ∧ ∃ v sm, s.partAt p k = some (i, ⟨v, sm, ins⟩)

/-- The section has the registers of `x` and stands at `n`, where every instruction before it has retired (R237). -/
def Retired (s t : State) (p k n : Nat) (x : Section) : Prop :=
  t.sects = tput {} s.sects (4 * p + k) { x with next := n, pc := n, st := .running, wait := .none, row := 0, inStrip := false }

/-- The section stands WAITING at its instruction at index i for `w`. -/
def Waits (s t : State) (p k i : Nat) (w : SecWait) : Prop :=
  t.sects = tput {} s.sects (4 * p + k) { s.sect p k with next := i, pc := i, st := .waiting, wait := w }

/-- The offsets of the stall counters of a section and its Press (R181, R194, R200, R236, R365). -/
def stallRegs (p k : Nat) : List Nat :=
  [TEL_SECT_DEP.addr (six p k), SCT_BANK_STALLS.addr (six p k), PRS_BOARD_STALLS.addr (pix p), PRS_HOLD_STALLS.addr (pix p), MEM_SBWAIT.addr (pix p)]

/-- Everything but one section and its stall counters, and the offsets of `more`, stays as it was. -/
def OnlySection (s t : State) (p k : Nat) (more : List Nat) : Prop := RegsKept (more ++ stallRegs p k) s t ∧ Frame [.regs, .sects] s t

/-- No bank pair that the instruction accesses is gated or waking (R184). -/
def State.Awake (s : State) (p k : Nat) (ins : PInstr) : Prop :=
  ∀ r ∈ ins.tiles, s.gated p k (pairOf r) = false ∧ s.waking p k (pairOf r) = false

end Sys2Proof.Machine

namespace Sys2Proof.Machine

/-- No SCORE_STOP takes effect at the end of the current bar. -/
def State.NoStopDue (s : State) : Prop := ∀ u c, BarAction.stop u c ∉ s.tempo.due s.tempo.barno

/-- The bar that `t` plays follows the bar that `s` plays (R57). -/
def FollowingBar (s t : State) : Prop :=
  t.tempo.barno = (s.tempo.barno + 1) % 2 ^ 32 ∧
  t.tempo.sbar = (if s.tempo.held then s.tempo.sbar else (s.tempo.sbar + 1) % 2 ^ 32) ∧
  t.tempo.beat = 0 ∧ t.tempo.running = true

end Sys2Proof.Machine

/-- R57: BARNO is 0 in the first bar after count-in and increases by one at every bar boundary; SBAR is START_SBAR in bar 0 and increases by
one at every boundary that ends a bar which is not held. -/
def Obligations.BarBoundaryCounts : Prop :=
  (∀ s : State, s.tempo.running = true → s.barDone = true → (s.tempo.isGated = false ∨ s.gatesOpen = true) → s.unison.replay = none →
    s.NoStopDue → Completes (exec .barBoundary s) (fun t => FollowingBar s t ∧
      Frame [.regs, .mem, .tempo, .links, .cond, .patches, .press, .sects, .linkTx, .score, .unison, .arb, .icu, .front, .free] s t)) ∧
  (∀ (n : BitVec 32) (s : State), s.tempo.running = true → s.tempo.isGated = true → s.barDone = true → s.gatesOpen = true →
    s.unison.replay = none → s.NoStopDue → Completes (exec (.rubatoGateRelease n) s) (fun t => FollowingBar s t ∧
      Frame [.regs, .mem, .tempo, .links, .cond, .patches, .press, .sects, .linkTx, .score, .unison, .arb, .icu, .front, .free] s t)) ∧
  (∀ (s : State) (a : CountIn), s.tempo.accepted = some a → Completes (exec .countinBar0Start s) (fun t =>
    t.tempo.barno = 0 ∧ t.tempo.sbar = a.startSbar ∧ t.tempo.running = true ∧ t.tempo.held = false ∧
    Frame [.regs, .mem, .tempo, .sects, .linkTx, .unison, .front] s t))

/-- R113. The new order, with one more ORDER_SEQ where it changed (R114), is adopted at the boundary of the bar. -/
def Obligations.FermataArithmetic : Prop :=
  ∀ (s : State) (c : Cmd) (n : Nat), n < 256 → s.tempo.running = true → s.tempo.frozen = true → s.tempo.merged = false →
    s.tempo.anchor = true → s.fermataAhead = [] → s.tempo.reqBar = none → s.tempo.adopting = none →
    s.tempo.ferm = [⟨s.tempo.barno, n, .command c⟩] →
    Completes (exec .barNoteMerge s) (fun t =>
      let m := s.tempo.barno
      let b := (m + s.tempo.fermLead) % 2 ^ 32
      t.tempo.merged = true ∧ t.tempo.ferm = [] ∧
      (s.tempo.order = none → 0 < n → t.tempo.adopting = some (m, ⟨1, b, (b + n) % 2 ^ 32, n == 255⟩)) ∧
      (s.tempo.order = none → n = 0 → t.tempo.adopting = none) ∧
      (∀ o, s.tempo.order = some o → (o.indef = false ∧ (newer 32 o.r o.f = false ∨ serialGe 32 o.r m = false)) →
        (n = 0 → t.tempo.adopting = none) ∧
        (0 < n → ⟨o.seq, b, (b + n) % 2 ^ 32, n == 255⟩ ≠ o →
          t.tempo.adopting = some (m, ⟨(o.seq + 1) % 2 ^ 16, b, (b + n) % 2 ^ 32, n == 255⟩))) ∧
      (∀ o, s.tempo.order = some o → (o.indef = true ∨ (newer 32 o.r o.f = true ∧ serialGe 32 o.r m = true)) →
        let x := if newer 32 b o.f then b else o.f
        (0 < n → ⟨o.seq, o.f, (x + n) % 2 ^ 32, n == 255⟩ ≠ o →
          t.tempo.adopting = some (m, ⟨(o.seq + 1) % 2 ^ 16, o.f, (x + n) % 2 ^ 32, n == 255⟩)) ∧
        (n = 0 → ∀ r, r = (if o.indef then x else if newer 32 o.r x then x else o.r) → ⟨o.seq, o.f, r, false⟩ ≠ o →
          t.tempo.adopting = some (m, ⟨(o.seq + 1) % 2 ^ 16, o.f, r, false⟩))) ∧
      Frame [.regs, .mem, .tempo, .front] s t)

/-- R84 and R311, in the order of R84's table. -/
def Obligations.ScoreStartStatuses : Prop :=
  (∀ (s : State) (c : Cmd), s.Accepts c 0x0302 →
    let mode := c.par 0 1
    let bad := c.par 1 1 ≠ s.tempo.region ∨ (mode = 2 ∧ s.tempo.anchor = false) ∨ (mode = 2 ∧ c.par 4 4 < 64) ∨
      (mode ≠ 1 ∧ mode ≠ 2 ∧ mode ≠ 3) ∨ c.par 2 2 ≠ 0 ∨ c.par 12 4 ≠ 0 ∨ (mode = 2 ∧ s.isRestart (c.par 8 4) = false)
    let busy := (mode = 1 ∧ (s.tempo.armed = true ∨ s.tempo.running = true)) ∨
      (mode = 2 ∧ (s.tempo.running = true ∨ s.tempo.launched = true)) ∨ (mode = 3 ∧ s.tempo.running = true)
    let unready := (mode = 1 ∨ (mode = 2 ∧ s.tempo.armed = false)) ∧ s.linksReady = false
    (s.installed = false → exec (.scoreStart c) s = .next (s.complete c stScoreFault [])) ∧
    (s.installed = true → bad → exec (.scoreStart c) s = .next (s.complete c stBadParam [])) ∧
    (s.installed = true → ¬bad → busy → exec (.scoreStart c) s = .next (s.complete c stBusy [])) ∧
    (s.installed = true → ¬bad → ¬busy → unready → exec (.scoreStart c) s = .next (s.complete c stTempoFault [])) ∧
    (s.installed = true → ¬bad → ¬busy → ¬unready →
      (mode = 1 → exec (.scoreStart c) s = .next (s.arm.complete c stOk []) ∧ s.arm.tempo.armed = true) ∧
      (mode = 3 → exec (.scoreStart c) s = .next (s.disarm.complete c stOk []) ∧ s.disarm.tempo.armed = false) ∧
      (mode = 2 → Completes (exec (.scoreStart c) s) (fun t => t.tempo.armed = true ∧ t.tempo.launched = true ∧
        t.tempo.accepted.isSome = true ∧ (WaitFor.launch, c) ∈ t.front.waiting)))) ∧
  (∀ (s : State) (a : CountIn) (c : Cmd), s.tempo.accepted = some a → s.waiters .launch = [c] →
    ∃ u : State, u.tempo.running = true ∧ u.tempo.barno = 0 ∧ exec .countinBar0Start s = .next (u.complete c stOk []))

/-- R76 to R82: acceptance, the wait W, forwarding, and the discards. -/
def Obligations.CountinAcceptance : Prop :=
  (∀ (l : Fin 12) (f : List Byte) (s : State),
    (flitOk f = false ∨ leAt f 0 1 ≠ 0xC1 ∨ s.installed = false ∨ s.tempo.armed = false ∨ s.tempo.running = true ∨
      s.tempo.accepted.isSome = true ∨ (s.linkCfg l).parent = false ∨ leAt f 2 1 ≠ s.tempo.region ∨ leAt f 4 2 ≠ s.tempo.slice ∨
      leAt f 3 1 ≠ s.tempo.k ∨ leAt f 22 2 ≠ s.tempo.anchorChip) →
    exec (.countinReceive l f) s = .next (s.incF TEL_LINK_CI_DISCARD [(l : Nat)] TEL_LINK_CI_DISCARD.COUNT 1)) ∧
  (∀ (l : Fin 12) (f : List Byte) (s : State) (w : Nat),
    flitOk f = true → leAt f 0 1 = 0xC1 → s.installed = true → s.tempo.armed = true → s.tempo.running = false →
    s.tempo.accepted = none → (s.linkCfg l).parent = true → leAt f 2 1 = s.tempo.region → leAt f 4 2 = s.tempo.slice →
    leAt f 3 1 = s.tempo.k → leAt f 22 2 = s.tempo.anchorChip → s.isRestart (leAt f 16 4) = true → 64 ≤ w →
    (if s.tempo.rubato then w = 64 else w + leAt f 12 4 = leAt f 8 4) →
    Completes (exec (.countinReceive l f) s) (fun t =>
      t.tempo.accepted = some ⟨8 + l / 6, leAt f 16 4, w, leAt f 12 4, leAt f 8 4, leAt f 20 2, []⟩ ∧
      t.linkTx = (s.sendCountin (8 + l / 6) (leAt f 8 4) (leAt f 12 4) (leAt f 16 4) (leAt f 20 2 + 1)).linkTx ∧
      Frame [.tempo, .cond, .linkTx, .free] s t)) ∧
  (∀ (d : Fin 12) (s : State) (a : CountIn), s.tempo.accepted = some a → (d : Nat) ∉ a.noticed →
    Completes (exec (.startNotice d) s) (fun t =>
      t.tempo.accepted = some { a with noticed := a.noticed ++ [(d : Nat)] } ∧
      t.linkTx = (if ((d : Nat) = 8 ∨ (d : Nat) = 9) ∧ a.rx ≠ 10 ∧ (d : Nat) ≠ a.rx then
        ((s.setTempo { s.tempo with accepted := some { a with noticed := a.noticed ++ [(d : Nat)] } }).sendCountin d a.total (a.elapsed + 60)
          a.startSbar (a.depth + 1)).linkTx else s.linkTx) ∧
      Frame [.tempo, .linkTx, .free] s t))

/-- R73 and R86 to R97. -/
def Obligations.DownbeatChecks : Prop :=
  (∀ (l : Fin 12) (f : List Byte) (e : BitVec 16) (s : State), flitOk f = false →
    exec (.downbeatReceive l f e) s = .next (s.incF TEL_LINK_DB_BAD [(l : Nat)] TEL_LINK_DB_BAD.COUNT 1)) ∧
  (∀ (l : Fin 12) (f : List Byte) (e : BitVec 16) (s : State), flitOk f = true → leAt f 0 1 = 0xD1 → s.tempo.running = true →
    (s.linkCfg l).role = 1 → s.tempo.rubato = false → s.tempo.fallback = false → leAt f 2 1 = s.tempo.region → leAt f 26 1 = 0 →
    let got := if tget 0 s.tempo.gotBar l = 0 ∨ newer 32 (leAt f 8 4) (tget 0 s.tempo.gotBar l - 1) then
      tput 0 s.tempo.gotBar l (leAt f 8 4 + 1) else s.tempo.gotBar
    let u := s.setTempo { s.tempo with gotBar := got }
    (leAt f 1 1 % 8 = 0 → leAt f 8 4 = s.tempo.barno → leAt f 12 4 = s.tempo.sbar →
      exec (.downbeatReceive l f e) s = .next (
        if e.toInt < -2 ∨ 2 < e.toInt then
          u.tempoFault (8 + l / 6) 0 (l % 6) (BitVec.ofInt 8 (max (-127) (min 127 e.toInt))).toNat
        else if e.toInt < 0 then u.incF TEL_LINK_DB_EARLY [(l : Nat)] TEL_LINK_DB_EARLY.COUNT 1
        else if 0 < e.toInt then u.incF TEL_LINK_DB_LATE [(l : Nat)] TEL_LINK_DB_LATE.COUNT 1
        else u)) ∧
    (leAt f 1 1 = 4 → exec (.downbeatReceive l f e) s = .next (u.scheduleAction .halt)) ∧
    (leAt f 1 1 = 1 → exec (.downbeatReceive l f e) s = .next (u.scheduleAction .fallback))) ∧
  (∀ (l : Fin 12) (s : State), s.tempo.running = true → s.tempo.isGated = false → (s.linkCfg l).role = 1 → (s.linkCfg l).profile ≠ 2 →
    let u := (s.incF TEL_LINK_DB_MISSING [(l : Nat)] TEL_LINK_DB_MISSING.COUNT 1).setTempo
      { s.tempo with missed := tput 0 s.tempo.missed l (s.tempo.barno + 1) }
    exec (.downbeatMissing l) s = .next (
      if tget 0 s.tempo.missed l ≠ 0 ∧ tget 0 s.tempo.missed l % 2 ^ 32 = s.tempo.barno then u.tempoFault (8 + l / 6) 2 (l % 6) 0 else u)) ∧
  (∀ (d : Fin 10) (p : Fin 4) (e : BitVec 16) (s : State), s.tempo.running = true →
    exec (.barNoteReceive d p e) s = .next (
      if 2 < e.toInt ∨ e.toInt < -2 then s.tempoFault d 7 p (BitVec.ofInt 8 (max (-127) (min 127 e.toInt))).toNat else s))

/-- R92, R93, R102: one fault, and what its HALT does at the boundary. -/
def Obligations.TempoFaultEffects : Prop :=
  (∀ (s : State) (die cause port err : Nat), s.wf → die < 10 → cause < 8 → port < 16 → err < 256 →
    s.bit SCR_TEMPO_FAULT [die] SCR_TEMPO_FAULT.FAULT = false →
    let t := s.tempoFault die cause port err
    t.bit SCR_TEMPO_FAULT [die] SCR_TEMPO_FAULT.FAULT = true ∧ t.getF SCR_TEMPO_FAULT [die] SCR_TEMPO_FAULT.CAUSE = cause ∧
    t.getF SCR_TEMPO_FAULT [die] SCR_TEMPO_FAULT.PORT = port ∧ t.getF SCR_TEMPO_FAULT [die] SCR_TEMPO_FAULT.ERROR = err ∧
    ((s.arb.queue.filter (fun x => x.die == die)).length < 64 → t.arb.queue.length = s.arb.queue.length + 1) ∧
    (s.tempo.running = true → t.tempo.actions = s.tempo.actions ++
      [(s.raisedBar, if cause = 5 then .halt else if s.tempo.fallbackAct then .fallback else .halt)]) ∧
    RegsKept [SCR_TEMPO_FAULT.addr [die]] s t ∧ Frame [.regs, .tempo, .arb] s t) ∧
  (∀ s : State, s.tempo.running = true → s.barDone = true → (s.tempo.isGated = false ∨ s.gatesOpen = true) → s.unison.replay = none →
    s.NoStopDue → BarAction.halt ∈ s.tempo.due s.tempo.barno → s.tempo.halted = false →
    Completes (exec .barBoundary s) (fun t => t.tempo.halted = true ∧ t.tempo.held = true ∧ t.tempo.reqBar.isSome = true ∧ FollowingBar s t)) ∧
  (∀ s : State, s.tempo.running = true → s.tempo.isGated = true → s.tempo.halted = false → s.barDone = true → s.gatesOpen = false →
    s.unison.replay = none → s.NoStopDue →
    Completes (exec .gateTimeout s) (fun t => t.tempo.halted = true ∧ t.tempo.held = true ∧ FollowingBar s t))

/-- R61, R112, R116, R328 to R330. -/
def Obligations.ScoreStopAndFermata : Prop :=
  (∀ (s : State) (c : Cmd), s.Accepts c 0x0305 → c.par 0 1 < 2 → c.par 2 14 = 0 → (s.tempo.k ≠ 0 → c.par 1 1 = s.tempo.region) →
    (s.tempo.running = false → s.tempo.armed = false → c.par 0 1 = 0 → exec (.scoreStop c) s =
      .next (s.complete c stOk (leBytes 4 s.tempo.barno ++ leBytes 4 s.tempo.sbar ++ leBytes 4 s.cueCount))) ∧
    (s.tempo.running = true → Completes (exec (.scoreStop c) s) (fun t =>
      t.tempo = { s.tempo with actions := s.tempo.actions ++ [(s.raisedBar, .stop (c.par 0 1 == 1) c)] } ∧
      t.front.waiting = s.front.waiting ++ [(.stopBar, c)] ∧ Frame [.regs, .tempo, .front] s t))) ∧
  (∀ (s : State) (c : Cmd), s.Accepts c 0x0305 → (2 ≤ c.par 0 1 ∨ c.par 2 14 ≠ 0 ∨ (s.tempo.k ≠ 0 ∧ c.par 1 1 ≠ s.tempo.region)) →
    exec (.scoreStop c) s = .next (s.complete c stBadParam [])) ∧
  (∀ (s : State) (c : Cmd), s.Accepts c 0x0304 →
    ((s.tempo.anchor = false ∨ s.tempo.running = false ∨ c.par 1 1 ≠ s.tempo.region ∨ c.par 2 14 ≠ 0) →
      exec (.fermata c) s = .next (s.complete c stBadParam [])) ∧
    (s.tempo.anchor = true → s.tempo.running = true → c.par 1 1 = s.tempo.region → c.par 2 14 = 0 →
      exec (.fermata c) s = .next (if s.tempo.halted then s.complete c stTempoFault []
        else s.setTempo { s.tempo with ferm := s.tempo.ferm ++ [⟨s.raisedBar, c.par 0 1, .command c⟩] }))) ∧
  (∀ s : State, s.tempo.running = true → Completes (exec .barNoteCutoff s) (fun t => t.tempo.frozen = true ∧
    t.raisedBar = (s.tempo.barno + 1) % 2 ^ 32 ∧ Frame [.tempo] s t))
/-- R134 to R142, R164 and R166. -/
def Obligations.ReferenceLossAndReturn : Prop :=
  (∀ (x : Fin 2) (s : State) (c : Instr), c = .refMissingEdge x ∨ c = .refFreqWindowFail x → s.wf →
    (s.refQual x = false → exec c s = .next s) ∧
    (s.refQual x = true → Completes (exec c s) (fun t =>
      t.refQual x = false ∧ t.bit CLK_REF_STATUS [] ⟨8 + (x : Nat), 1⟩ = true ∧
      (s.refActive < 4 → (∃ y ∈ s.refSources, y ≠ (x : Nat) ∧ s.refQual y = true) → t.refActive = s.refActive) ∧
      (s.refActive < 4 → (∀ y ∈ s.refSources, y = (x : Nat) ∨ s.refQual y = false) →
        t.refActive = 4 ∧ t.bit CLK_REF_STATUS [] CLK_REF_STATUS.HOLDOVER = true ∧ t.reg CLK_HOLDOVER [] = 0 ∧
        Counted CLK_REF_STATUS [] CLK_REF_STATUS.SWITCHES 1 s t) ∧
      RegsKept [CLK_REF_STATUS.addr [], CLK_HOLDOVER.addr []] s t ∧ Frame [.regs, .arb, .pwr] s t))) ∧
  (∀ (x : Fin 2) (us : BitVec 24) (s : State), s.wf → bitOf (s.reg CLK_REF_CFG []) (2 + x) = true → s.refQual x = false →
    Completes (exec (.refQualified x us) s) (fun t => t.refQual x = true ∧ (s.refActive < 4 → t.refActive = s.refActive) ∧
      ((x : Nat) ∈ s.refSources → (∀ y ∈ s.refSources, s.refQual y = false) → s.refActive = 5 → t.refActive = x) ∧
      ((x : Nat) ∈ s.refSources → (∀ y ∈ s.refSources, s.refQual y = false) → s.refActive = 4 →
        t.refActive = x ∧ t.bit CLK_REF_STATUS [] CLK_REF_STATUS.RETURNED = true ∧
        t.bit CLK_REF_STATUS [] CLK_REF_STATUS.HOLD_EXP = false ∧ t.getF CLK_HOLDOVER [] CLK_HOLDOVER.ELAPSED_US = us.toNat) ∧
      RegsKept [CLK_REF_STATUS.addr [], CLK_HOLDOVER.addr []] s t ∧ Frame [.regs, .arb, .pwr] s t)) ∧
  (∀ s : State, s.wf →
    (4 ≤ s.refActive → exec .switchoverComplete s = .next s) ∧
    (∀ x, s.refActive < 4 → s.refActiveOk = false → (s.refSources.filter s.refQual).head? = some x →
      Completes (exec .switchoverComplete s) (fun t => t.refActive = x ∧
        t.bit CLK_REF_STATUS [] CLK_REF_STATUS.SWITCHED = true ∧ Counted CLK_REF_STATUS [] CLK_REF_STATUS.SWITCHES 1 s t ∧
        RegsKept [CLK_REF_STATUS.addr []] s t ∧ Frame [.regs, .arb, .pwr] s t))) ∧
  (∀ s : State, s.wf → s.refActive = 4 → s.bit CLK_REF_STATUS [] CLK_REF_STATUS.HOLD_EXP = false →
    Completes (exec .holdoverExpiry s) (fun t => t.bit CLK_REF_STATUS [] CLK_REF_STATUS.HOLD_EXP = true ∧
      t.getF CLK_HOLDOVER [] CLK_HOLDOVER.ELAPSED_US = 10000 ∧
      Logs s t 10 1 (CLK_REF_STATUS.addr [] + 2 ^ 7 * 2 ^ 32) ∧
      RegsKept [CLK_REF_STATUS.addr [], CLK_HOLDOVER.addr []] s t ∧ Frame [.regs, .arb] s t))

/-- R130, R131, R150, R151, R158, R159, R162 and R163. -/
def Obligations.ClockConfiguration : Prop :=
  (∀ (v : BitVec 32) (s : State), s.wf →
    let w : Word := BitVec.ofNat 64 v.toNat
    let bad := s.busyTempo = true ∨ (bitOf w 0 = true ∧ (11 < fget w CLK_FWD_CFG.SRC_LINK ∨
      (bitOf w 8 = true ∧ (11 < fget w CLK_FWD_CFG.BACKUP_LINK ∨ fget w CLK_FWD_CFG.BACKUP_LINK = fget w CLK_FWD_CFG.SRC_LINK))))
    (bad → Completes (exec (.clkFwdCfgWrite v) s) (fun t => t.bit CLK_REF_STATUS [] CLK_REF_STATUS.CFG_IGNORED = true ∧
      RegsKept [CLK_REF_STATUS.addr []] s t ∧ Frame [.regs, .arb] s t)) ∧
    (¬bad → ∃ u : State, u.reg CLK_FWD_CFG [] = w &&& CLK_FWD_CFG.bitsOf .rw ∧
      RegsKept [CLK_FWD_CFG.addr [], CLK_REF_STATUS.addr [], CLK_HOLDOVER.addr []] s u ∧ Frame [.regs, .arb, .pwr] s u ∧
      exec (.clkFwdCfgWrite v) s = .next (if s.forwarded = bitOf w 0 then u else
        ((List.range 12).filter (fun l => u.linkProfile l == 0 && !u.tempoSource l)).foldl (fun s l => s.linkRetrain l false) u))) ∧
  (∀ (v : BitVec 32) (s : State), s.wf →
    let w : Word := BitVec.ofNat 64 v.toNat
    Completes (exec (.clkRefCfgWrite v) s) (fun t =>
      t.getF CLK_REF_CFG [] CLK_REF_CFG.PREFER = (if s.busyTempo then s.getF CLK_REF_CFG [] CLK_REF_CFG.PREFER else
        fget w CLK_REF_CFG.PREFER) ∧
      t.getF CLK_REF_CFG [] CLK_REF_CFG.REVERT = fget w CLK_REF_CFG.REVERT ∧
      t.getF CLK_REF_CFG [] CLK_REF_CFG.A_EN = fget w CLK_REF_CFG.A_EN ∧ t.getF CLK_REF_CFG [] CLK_REF_CFG.B_EN = fget w CLK_REF_CFG.B_EN ∧
      t.getF CLK_REF_CFG [] CLK_REF_CFG.QUAL_MS = max 1 (fget w CLK_REF_CFG.QUAL_MS) ∧
      (s.busyTempo = true → fget w CLK_REF_CFG.PREFER ≠ s.getF CLK_REF_CFG [] CLK_REF_CFG.PREFER →
        t.bit CLK_REF_STATUS [] CLK_REF_STATUS.CFG_IGNORED = true) ∧
      (∀ x : Fin 2, bitOf w (2 + x) = false → t.refQual x = false) ∧
      RegsKept [CLK_REF_CFG.addr [], CLK_REF_STATUS.addr [], CLK_HOLDOVER.addr []] s t ∧ Frame [.regs, .arb, .pwr] s t)) ∧
  (∀ (link : Bool) (d : Fin 12) (q : Fin 6) (high : Bool) (s : State), s.wf →
    let r := if link then LNK_MESO else SEAM_MESO
    (if link then (d : Nat) = 8 ∨ (d : Nat) = 9 else (seamPeer d q).1 < 12) →
    Completes (exec (.mesoFillMargin link d q high) s) (fun t => t.getF r [d, q] LNK_MESO.FILL = (if high then 7 else 1) ∧
      t.bit r [d, q] LNK_MESO.MARGIN = true ∧ Counted r [d, q] LNK_MESO.MARGIN_COUNT 1 s t ∧
      RegsKept [r.addr [d, q]] s t ∧ Frame [.regs] s t) ∧
    ∃ u : State, u.getF r [d, q] LNK_MESO.FILL = (if high then 8 else 0) ∧ RegsKept [r.addr [d, q]] s u ∧ Frame [.regs] s u ∧
      exec (.mesoCrossingFault link d q high) s = .next (if link then u.linkRetrain (6 * ((d : Nat) - 8) + q) false else u.seamRetrain d q false)) ∧
  (∀ (d : Fin 12) (s : State), s.wf → s.fw.inCold = false → s.bit CLK_DIE [(d : Nat)] CLK_DIE.LOCKED = true →
    Completes (exec (.rootPllLockLoss d false) s) (fun t => t.bit CLK_DIE [(d : Nat)] CLK_DIE.UNLOCK = true ∧
      Logs s t 10 1 (CLK_DIE.addr [(d : Nat)] + 2 * 2 ^ 32) ∧ RegsKept [CLK_DIE.addr [(d : Nat)]] s t ∧ Frame [.regs, .arb] s t) ∧
    ∃ u : State, u.bit CLK_DIE [(d : Nat)] CLK_DIE.CLOCK_RESET = true ∧ RegsKept [CLK_DIE.addr [(d : Nat)]] s u ∧ Frame [.regs, .arb] s u ∧
      exec (.rootPllLockLoss d true) s = .next (
        let t := ((u.endUnitStreams (dieUnit d)).1).assertReset (dieUnit d)
        if (d : Nat) < 8 then t.loseStack d else t)) ∧
  (∀ (d : Fin 12) (failed : Option (Fin 11)) (s : State), s.wf → s.fw.inCold = false → s.dieThere d = true → s.refActive ≠ 5 →
    s.pwr.asserted.contains (dieUnit d) = false → s.bit CLK_DIE [(d : Nat)] CLK_DIE.LOCKED = false → ((d : Nat) ≠ 11 ∨ s.dieFolded 11 = false) →
    ∃ u : State, u.bit CLK_DIE [(d : Nat)] CLK_DIE.LOCKED = true ∧ RegsKept [CLK_DIE.addr [(d : Nat)]] s u ∧ Frame [.regs] s u ∧
      (bitOf (s.reg RST_DIE []) d = false → exec (.rootPllLock d failed) s = .next u) ∧
      (bitOf (s.reg RST_DIE []) d = true → (d : Nat) ≠ 10 → exec (.rootPllLock d failed) s = .next (u.trainSeams d)) ∧
      (bitOf (s.reg RST_DIE []) d = true → (d : Nat) = 10 → exec (.rootPllLock d failed) s =
        .next (((u.trainSeams 10).clrBits RST_DIE [] (2 ^ 10)).smStart (failed.map (fun t => (t : Nat))))))
/-- R210 to R215. -/
def Obligations.PauseAndResume : Prop :=
  (∀ (p : Fin 256) (s : State), s.regGone PRS_CTRL (pix p) = false → s.wf → (∀ k : Fin 4, (s.sect p k).st = .idle ∨ ((s.sect p k).st = .waiting ∧ s.shortMmas p k = false)) →
    tok {} s.sects = true → Completes (exec (.pauseRequest p) s) (fun t => t.bit PRS_CTRL (pix p) PRS_CTRL.PAUSE = true ∧
      (∀ k : Fin 4, (t.sect p k).st = .paused ∧ ((t.sect p k).wasIdle = true ∨ (s.sect p k).st = .waiting) ∧ (t.sect p k).next = (s.sect p k).next) ∧
      (∀ k : Fin 4, (s.sect p k).st = .waiting → (s.sect p k).inStrip = true →
        t.getF SCT_TSTART (six p k) SCT_TSTART.ROW = (s.sect p k).row % 256) ∧
      bitOf (t.reg PRS_DIE_EVENT [p / 32]) (p % 32) = true ∧
      RegsKept ([PRS_CTRL.addr (pix p), PRS_DIE_EVENT.addr [p / 32]] ++ (List.range 4).map (fun j => SCT_TSTART.addr (six p j))) s t ∧ Frame [.regs, .press, .sects] s t)) ∧
  (∀ (p : Fin 256) (k : Fin 4) (s : State), s.regGone PRS_CTRL (pix p) = false → s.wf → tok {} s.sects = true → (s.sect p k).st = .running →
    Completes (exec (.pauseRequest p) s) (fun t => (t.sect p k).st = .pausing ∧ (t.sect p k).pc = (s.sect p k).pc ∧
      RegsKept (PRS_CTRL.addr (pix p) :: (List.range 4).map (fun j => SCT_TSTART.addr (six p j))) s t ∧ Frame [.regs, .press, .sects] s t)) ∧
  (∀ (p : Fin 256) (k : Fin 4) (s : State), s.wf → tok {} s.sects = true → (s.sect p k).st = .pausing → s.shortMmas p k = false →
    (∀ j : Fin 4, j ≠ k → (s.sect p j).st = .paused) → ((s.prs p).resumeAfter = false ∨ s.pausing p = true) →
    Completes (exec (.sectionPaused p k) s) (fun t => (t.sect p k).st = .paused ∧ bitOf (t.reg PRS_DIE_EVENT [p / 32]) (p % 32) = true ∧
      ((s.sect p k).inStrip = true → t.getF SCT_TSTART (six p k) SCT_TSTART.ROW = (s.sect p k).row % 256) ∧
      RegsKept [SCT_TSTART.addr (six p k), PRS_DIE_EVENT.addr [p / 32]] s t ∧ Frame [.regs, .press, .sects] s t)) ∧
  (∀ (p : Fin 256) (s : State), s.regGone PRS_CTRL (pix p) = false → s.wf → tok {} s.sects = true → (s.prs p).stopPause = false →
    (∀ k : Fin 4, (s.sect p k).st = .paused) →
    Completes (exec (.resume p) s) (fun t => t.bit PRS_CTRL (pix p) PRS_CTRL.PAUSE = false ∧
      (∀ k : Fin 4, (t.sect p k).next = (s.sect p k).next ∧
        (t.sect p k).st = (if (s.sect p k).wasIdle then .idle else if (s.sect p k).wait.begun then .waiting else .running) ∧
        ((s.sect p k).inStrip = true → (t.sect p k).row = s.getF SCT_TSTART (six p k) SCT_TSTART.ROW)) ∧
      RegsKept [PRS_CTRL.addr (pix p)] s t ∧ Frame [.regs, .press, .sects] s t)) ∧
  (∀ (p : Fin 256) (s : State), s.regGone PRS_CTRL (pix p) = false → s.wf → (s.prs p).stopPause = false → (∃ k : Fin 4, (s.sect p k).st = .pausing) →
    Completes (exec (.resume p) s) (fun t => t.bit PRS_CTRL (pix p) PRS_CTRL.PAUSE = false ∧
      t.press = tput {} s.press p { s.prs p with resumeAfter := true } ∧ Frame [.regs, .press] s t)) ∧
  (∀ (p : Fin 256) (k : Fin 4) (row : BitVec 8) (s : State), s.regGone SCT_TSTART (six p k) = false → s.wf →
    Completes (exec (.tstartWrite p k row) s) (fun t =>
      t.getF SCT_TSTART (six p k) SCT_TSTART.ROW =
        (if (s.sect p k).st = .paused then row.toNat else s.getF SCT_TSTART (six p k) SCT_TSTART.ROW) ∧
      RegsKept [SCT_TSTART.addr (six p k)] s t ∧ Frame [.regs] s t)) ∧
  (∀ (p : Fin 256) (s : State), s.regGone PRS_CTRL (pix p) = false → s.wf → Completes (exec (.prsCntClr p) s) (fun t =>
    t.reg PRS_BOARD_STALLS (pix p) = 0 ∧ t.reg PRS_HOLD_STALLS (pix p) = 0 ∧ t.reg PRS_HOLD_FULL (pix p) = 0 ∧
    (∀ k : Fin 4, t.reg SCT_BANK_STALLS (six p k) = 0 ∧ t.reg SCT_WAKES (six p k) = 0) ∧ Frame [.regs] s t)) ∧
  (∀ (p : Fin 256) (s : State), s.regGone PRS_CTRL (pix p) = true → ∀ c : Instr, c = .pauseRequest p ∨ c = .resume p ∨ c = .prsCntClr p →
    exec c s = .next (s.goneAccess PRS_CTRL (pix p) true))

/-- R204, R205 and R206; the halves are R219's. -/
def Obligations.BoardDebugAccess : Prop :=
  ∀ (p : Fin 256) (h : Fin 3) (d : Word) (s : State), s.regGone PRS_BOARD_DATA (pix p) = false → s.wf →
    let a := 8 * s.getF PRS_BOARD_ADDR (pix p) PRS_BOARD_ADDR.ADDR
    let lo := if h = 2 then 4 else 0
    let n := if h = 0 then 8 else 4
    let moved (t : State) : Prop := t.getF PRS_BOARD_ADDR (pix p) PRS_BOARD_ADDR.ADDR =
      (if h = 1 then s.getF PRS_BOARD_ADDR (pix p) PRS_BOARD_ADDR.ADDR else (s.getF PRS_BOARD_ADDR (pix p) PRS_BOARD_ADDR.ADDR + 1) % 2 ^ 17)
    Completes (exec (.boardDebugRead p h) s) (fun t => moved t ∧
      (s.debugOpen = true → t.front.readData = BitVec.ofNat 64 (leNat (s.readBoard p (a + lo) n)) ∧ RegsKept [PRS_BOARD_ADDR.addr (pix p)] s t) ∧
      (s.debugOpen = false → t.front.readData = 0 ∧ t.bit PRS_STATUS (pix p) PRS_STATUS.DBG_DENIED = true) ∧
      RegsKept [PRS_BOARD_ADDR.addr (pix p), PRS_STATUS.addr (pix p)] s t ∧ Frame [.regs, .front] s t) ∧
    Completes (exec (.boardDebugWrite p h d) s) (fun t => moved t ∧
      (s.debugOpen = true → s.heldRange p (a + lo) n = false →
        (∀ i, i < n → t.mbyte (boardOff p (a + lo + i)) = BitVec.ofNat 8 (d.toNat / 256 ^ i)) ∧
        (∀ o, (∀ i, i < n → o ≠ boardOff p (a + lo + i)) → t.mbyte o = s.mbyte o) ∧ RegsKept [PRS_BOARD_ADDR.addr (pix p)] s t) ∧
      (s.debugOpen = true → s.heldRange p (a + lo) n = true → t.bit PRS_STATUS (pix p) PRS_STATUS.DBG_HELD = true ∧ t.mem = s.mem) ∧
      (s.debugOpen = false → t.bit PRS_STATUS (pix p) PRS_STATUS.DBG_DENIED = true ∧ t.mem = s.mem) ∧
      RegsKept [PRS_BOARD_ADDR.addr (pix p), PRS_STATUS.addr (pix p)] s t ∧ Frame [.regs, .mem] s t)
/-- R238, R240, R245, R250, R254, R280 and R281; the stall counters are R236's. -/
def Obligations.SequencerInstructions : Prop :=
  ∀ (p : Fin 256) (k : Fin 4) (w : Stalls) (s : State) (i : Nat), s.wf →
    let x := s.sect p k
    (s.Issues p k i .nop → Completes (exec (.nop p k w) s) (fun t => Retired s t p k (i + 1) x ∧
      Counted TEL_SECT_DEP (six p k) TEL_SECT_DEP.COUNT w.dep s t ∧ Counted SCT_BANK_STALLS (six p k) SCT_BANK_STALLS.COUNT w.bank s t ∧
      Counted PRS_BOARD_STALLS (pix p) PRS_BOARD_STALLS.COUNT w.board s t ∧ Counted PRS_HOLD_STALLS (pix p) PRS_HOLD_STALLS.COUNT w.hold s t ∧
      Counted MEM_SBWAIT (pix p) MEM_SBWAIT.COUNT w.sb s t ∧ OnlySection s t p k [])) ∧
    (∀ c b m, s.Issues p k i (.loop c b m) → Completes (exec (.loop p k w) s) (fun t =>
      Retired s t p k (i + 1) { x with loops := x.loops ++ [⟨i, c, 0, b, m⟩] } ∧ OnlySection s t p k [])) ∧
    (∀ (ls : List LoopFrame) (l : LoopFrame), s.Issues p k i .endl → x.loops = ls ++ [l] →
      (l.i < l.cnt → Completes (exec (.endl p k w) s) (fun t =>
        Retired s t p k (l.pc + 1) { x with loops := ls ++ [{ l with i := l.i + 1 }] } ∧ OnlySection s t p k [])) ∧
      (l.cnt ≤ l.i → Completes (exec (.endl p k w) s) (fun t => Retired s t p k (i + 1) { x with loops := ls } ∧ OnlySection s t p k []))) ∧
    (∀ l n, s.Issues p k i (.cuewait l) → tget 0 x.cues l = n →
      (n = 0 → Completes (exec (.cuewait p k w) s) (fun t => Waits s t p k i .cue ∧
        Counted TEL_SECT_CUE (six p k) TEL_SECT_CUE.COUNT w.own s t ∧ OnlySection s t p k [TEL_SECT_CUE.addr (six p k)])) ∧
      (0 < n → Completes (exec (.cuewait p k w) s) (fun t => Retired s t p k (i + 1) { x with cues := tput 0 x.cues l (n - 1) } ∧
        OnlySection s t p k [TEL_SECT_CUE.addr (six p k)]))) ∧
    (∀ g, s.Issues p k i (.bankset g) → g < 256 → Completes (exec (.bankset p k w) s) (fun t =>
      t.getF SCT_BANKMASK (six p k) SCT_BANKMASK.GATE = g ∧
      (∀ n, n ≠ 4 * (p : Nat) + k → tget {} t.sects n = tget {} s.sects n) ∧ OnlySection s t p k [SCT_BANKMASK.addr (six p k)])) ∧
    (s.Issues p k i .end_ → Completes (exec (.endPart p k w) s) (fun t =>
      t.sects = tput {} s.sects (4 * p + k) { x with next := i + 1, pc := i + 1, st := .idle, wait := .none, row := 0, inStrip := false } ∧
      OnlySection s t p k [])) ∧
    (∀ rd, s.Issues p k i (.time rd) → Completes (exec (.time p k w) s) (fun t => Retired s t p k (i + 1) (x.setVec rd
      ([BitVec.ofNat 32 s.tempo.beat, BitVec.ofNat 32 s.tempo.barno, BitVec.ofNat 32 s.tempo.sbar] ++ List.replicate 13 0)) ∧
      OnlySection s t p k [])) ∧
    (∀ (j : Fin 4), j ≠ k → s.canIssue p k = true → x.st = .running → x.pendW = [] → tok {} s.sects = true →
      decodeWord (tget 0 (s.prs p).part i) = some ⟨false, 2 ^ (j : Nat) + 2 ^ (k : Nat), .sync⟩ →
      s.partAt p k = some (i, ⟨false, 2 ^ (j : Nat) + 2 ^ (k : Nat), .sync⟩) → (s.sect p j).next = i →
      ((s.sect p j).st = .waiting ∧ (s.sect p j).wait = .sync → (s.sect p j).pendW = [] → Completes (exec (.sync p k w) s) (fun t =>
        (t.sect p k).next = i + 1 ∧ (t.sect p k).st = .running ∧ (t.sect p j).next = i + 1 ∧ (t.sect p j).st = .running ∧
        Frame [.regs, .sects] s t)) ∧
      ((s.sect p j).st ≠ .waiting → Completes (exec (.sync p k w) s) (fun t => Waits s t p k i .sync ∧
        OnlySection s t p k [TEL_SECT_SYNC.addr (six p k)])))

/-- R256, R257, R259, R261, R265 and R184. -/
def Obligations.TileInstructions : Prop :=
  ∀ (p : Fin 256) (k : Fin 4) (w : Stalls) (s : State) (i : Nat), s.wf →
    let x := s.sect p k
    let at_ (xf : Bool) (blk : Nat) : Nat := 512 * x.effBlk xf blk
    x.inStrip = false →
    (∀ rd xf blk, s.Issues p k i (.tld rd xf blk) → s.Awake p k (.tld rd xf blk) → s.readWaits p (at_ xf blk) 512 = false →
      Completes (exec (.tld p k w) s) (fun t => Retired s t p k (i + 1) (x.setTile rd (s.readBoard p (at_ xf blk) 512)) ∧ OnlySection s t p k [])) ∧
    (∀ ra xf blk, s.Issues p k i (.tst ra xf blk) → s.Awake p k (.tst ra xf blk) → s.writeWaits p (at_ xf blk) 512 = false →
      s.heldRange p (at_ xf blk) 512 = false → Completes (exec (.tst p k w) s) (fun t => Retired s t p k (i + 1) x ∧
        (∀ n, n < 512 → t.mbyte (boardOff p (at_ xf blk + n)) = tget 0 x.tiles (512 * ra + n)) ∧
        (∀ o, (∀ n, n < 512 → o ≠ boardOff p (at_ xf blk + n)) → t.mbyte o = s.mbyte o) ∧
        RegsKept (stallRegs p k) s t ∧ Frame [.regs, .sects, .mem] s t)) ∧
    (∀ rd, s.Issues p k i (.tzero rd) → s.Awake p k (.tzero rd) → Completes (exec (.tzero p k w) s) (fun t =>
      Retired s t p k (i + 1) (x.setTile rd (List.replicate 512 0)) ∧ OnlySection s t p k [])) ∧
    (∀ rd ra f, s.Issues p k i (.ttr rd ra f) → s.Awake p k (.ttr rd ra f) → Completes (exec (.ttr p k w) s) (fun t =>
      ∃ bs : List Byte, bs.length = 512 ∧ (∀ r c b, r < 16 → c < 16 → b < 2 → bs[32 * r + 2 * c + b]? = (x.tile ra)[32 * c + 2 * r + b]?) ∧
        Retired s t p k (i + 1) (x.setTile rd bs) ∧ OnlySection s t p k [])) ∧
    (∀ rd ac f fl, s.Issues p k i (.acvt rd ac f fl) → s.Awake p k (.acvt rd ac f fl) → f = 0 ∨ f = 1 → Completes (exec (.acvt p k w) s) (fun t =>
      ∃ bs : List Byte, bs.length = 512 ∧ (∀ r c, r < 16 → c < 16 → leAt bs (32 * r + 2 * c) 2 = s.fmode.convert f (x.accAt ac r c) % 2 ^ 16) ∧
        Retired s t p k (i + 1) (x.setTile rd bs) ∧ OnlySection s t p k [])) ∧
    (∀ rd ac f fl, s.Issues p k i (.acvt rd ac f fl) → s.Awake p k (.acvt rd ac f fl) → f = 2 ∨ f = 3 ∨ f = 4 → Completes (exec (.acvt p k w) s) (fun t =>
      ∃ bs : List Byte, bs.length = 512 ∧ (∀ r c, r < 16 → c < 32 → leAt bs (32 * r + c) 1 = s.fmode.convert f (x.accAt (ac + c / 16) r (c % 16)) % 2 ^ 8) ∧
        Retired s t p k (i + 1) (x.setTile rd bs) ∧ OnlySection s t p k [])) ∧
    (∀ rd ac fl, s.Issues p k i (.acvt rd ac 5 fl) → s.Awake p k (.acvt rd ac 5 fl) → Completes (exec (.acvt p k w) s) (fun t =>
      ∃ bs : List Byte, bs.length = 512 ∧ (∀ r c, r < 16 → c < 8 → leAt bs (32 * r + 4 * c) 4 =
          s.fmode.convert 5 (x.accAt ac r (c + 8 * (fl % 2))) % 2 ^ 32) ∧
        Retired s t p k (i + 1) (x.setTile rd bs) ∧ OnlySection s t p k [])) ∧
    (∀ ac ra rb f mix, s.Issues p k i (.mma ac ra rb f mix) → s.Awake p k (.mma ac ra rb f mix) → Completes (exec (.mma p k w) s) (fun t =>
      ∃ vs : List (BitVec 32), vs.length = 256 ∧ (∀ r c, r < 16 → c < 16 → vs[16 * r + c]? = some
          (s.fmode.dot f (mix % 2 == 1) (x.accAt ac r c) (slice (x.tile ra) (32 * r) 32) (slice (x.tile rb) (32 * c) 32))) ∧
        Retired s t p k (i + 1) (x.setAcc ac vs) ∧ OnlySection s t p k [])) ∧
    (∀ rb f xf ba bd acc mix, s.Issues p k i (.mmas rb 0 f xf ba bd acc mix) → s.Awake p k (.mmas rb 0 f xf ba bd acc mix) → tok {} s.sects = true →
      let ra := at_ xf ba
      let d0 := at_ xf bd
      let d1 := 512 * ((x.effBlk xf bd + 1) % 2048)
      s.readWaits p ra 32 = false → s.writeWaits p d0 32 = false → s.writeWaits p d1 32 = false → s.heldRange p d0 32 = false → s.heldRange p d1 32 = false →
      Completes (exec (.mmas p k w 1) s) (fun t => (t.sect p k).next = i + 1 ∧ (t.sect p k).inStrip = false ∧ (t.sect p k).st = .running ∧
        (∀ c, c < 16 → leNat (t.readBoard p ((if c < 8 then d0 else d1) + 4 * (c % 8)) 4) =
          (s.fmode.dot f mix (if acc then w32At (s.readBoard p ((if c < 8 then d0 else d1) + 4 * (c % 8)) 4) 0 else 0)
            (s.readBoard p ra 32) (slice (x.tile rb) (32 * c) 32)).toNat) ∧
        (∀ o, (∀ n, n < 32 → o ≠ boardOff p (d0 + n) ∧ o ≠ boardOff p (d1 + n)) → t.mbyte o = s.mbyte o) ∧
        Frame [.regs, .sects, .mem] s t)) ∧
    (∀ (rb rows f ba bd r : Nat) (acc mix : Bool) (u : State), r ≤ rows → rows < 256 → s.mmasRow p k rb rows f ba bd acc mix r = .ok u →
      let d (c : Nat) : Nat := 512 * (bd + (if c < 8 then 0 else (rows + 16) / 16)) + 32 * r + 4 * (c % 8)
      (∀ c, c < 16 → leNat (u.readBoard p (d c) 4) = (s.fmode.dot f mix (if acc then w32At (s.readBoard p (d c) 4) 0 else 0)
        (s.readBoard p (512 * ba + 32 * r) 32) (slice (x.tile rb) (32 * c) 32)).toNat) ∧
      (∀ o, (∀ c j, c < 16 → j < 4 → o ≠ boardOff p (d c + j)) → u.mbyte o = s.mbyte o) ∧ Frame [.mem] s u) ∧
    (∀ rd, s.Issues p k i (.tzero rd) → s.gated p k (pairOf rd) = true → s.waking p k (pairOf rd) = false → Completes (exec (.tzero p k w) s) (fun t =>
      t.gated p k (pairOf rd) = false ∧ t.waking p k (pairOf rd) = true ∧ Counted SCT_WAKES (six p k) SCT_WAKES.COUNT 1 s t ∧
      Waits s t p k i .wake ∧ OnlySection s t p k [SCT_BANKMASK.addr (six p k), SCT_WAKES.addr (six p k)]))

/-- R184 to R186. -/
def Obligations.BankGating : Prop :=
  (∀ (p : Fin 256) (k : Fin 4) (b : Fin 8) (s : State), s.wf → s.waking p k b = true → (s.sect p k).wait ≠ .wake →
    Completes (exec (.bankWakeDone p k b) s) (fun t => t.waking p k b = false ∧ (∀ c : Fin 8, c ≠ b → t.waking p k c = s.waking p k c) ∧
      RegsKept [SCT_BANKMASK.addr (six p k)] s t ∧ Frame [.regs] s t)) ∧
  (∀ (p : Fin 256) (k : Fin 4) (b : Fin 8) (s : State) (i rd sm : Nat) (v : Bool), s.wf → s.waking p k b = true → (s.sect p k).st = .waiting →
    (s.sect p k).wait = .wake → (s.sect p k).pendW = [] → s.partAt p k = some (i, ⟨v, sm, .tzero rd⟩) → pairOf rd = (b : Nat) →
    Completes (exec (.bankWakeDone p k b) s) (fun t => Retired s t p k (i + 1) ((s.sect p k).setTile rd (List.replicate 512 0)) ∧
      Frame [.regs, .sects] s t)) ∧
  (∀ (p : Fin 256) (k : Fin 4) (b : Fin 8) (s : State), (s.sect p k).gatePend.testBit b = true → (s.sect p k).wait ≠ .wake → tok {} s.sects = true →
    Completes (exec (.gateTakesEffect p k b) s) (fun t => t.gated p k b = (s.getF SCT_BANKMASK (six p k) SCT_BANKMASK.GATE).testBit b ∧
      t.sects = tput {} s.sects (4 * p + k) { s.sect p k with gatePend := (s.sect p k).gatePend - 2 ^ (b : Nat) } ∧ Frame [.sects] s t))

/-- R254, R258, R269 to R272. -/
def Obligations.VectorAndAccumulatorInstructions : Prop :=
  ∀ (p : Fin 256) (k : Fin 4) (w : Stalls) (s : State) (i : Nat), s.wf →
    let x := s.sect p k
    let m := s.fmode
    let at_ (xf : Bool) (blk : Nat) : Nat := 512 * x.effBlk xf blk
    let sets (c : Instr) (y : Section) : Prop := Completes (exec c s) (fun t => Retired s t p k (i + 1) y ∧ OnlySection s t p k [])
    let stores (c : Instr) (a n : Nat) (b : Nat → Byte) : Prop := s.writeWaits p a n = false → s.heldRange p a n = false →
      Completes (exec c s) (fun t => Retired s t p k (i + 1) x ∧ (∀ j, j < n → t.mbyte (boardOff p (a + j)) = b j) ∧
        (∀ o, (∀ j, j < n → o ≠ boardOff p (a + j)) → t.mbyte o = s.mbyte o) ∧ RegsKept (stallRegs p k) s t ∧ Frame [.regs, .sects, .mem] s t)
    let perVoice (f : Nat → BitVec 32) : List (BitVec 32) := (List.range 16).map f
    let perElem (f : Nat → Nat → BitVec 32) : List (BitVec 32) := (List.range 256).map (fun n => f (n / 16) (n % 16))
    (∀ ac, s.Issues p k i (.azero ac) → sets (.azero p k w) (x.setAcc ac (List.replicate 256 0))) ∧
    (∀ ac xf b, s.Issues p k i (.ald ac xf b) → s.readWaits p (at_ xf b) 1024 = false →
      sets (.ald p k w) (x.setAcc ac (perElem (fun r c => w32At (s.readBoard p (at_ xf b) 1024) (512 * (c / 8) + 32 * r + 4 * (c % 8)))))) ∧
    (∀ ac xf b, s.Issues p k i (.ast ac xf b) → stores (.ast p k w) (at_ xf b) 1024 (fun j =>
      BitVec.ofNat 8 ((x.accAt ac (j % 512 / 32) (8 * (j / 512) + j % 32 / 4)).toNat / 256 ^ (j % 4)))) ∧
    (∀ rd v, s.Issues p k i (.vset rd v) → sets (.vset p k w) (x.setVec rd (List.replicate 16 (BitVec.ofNat 32 v)))) ∧
    (∀ rd xf b ln, s.Issues p k i (.vld rd xf b ln) → s.readWaits p (at_ xf b + 64 * ln) 64 = false →
      sets (.vld p k w) (x.setVec rd (perVoice (fun v => w32At (s.readBoard p (at_ xf b + 64 * ln) 64) (4 * v))))) ∧
    (∀ ra xf b ln, s.Issues p k i (.vst ra xf b ln) → stores (.vst p k w) (at_ xf b + 64 * ln) 64 (fun j =>
      BitVec.ofNat 8 ((x.voice ra (j / 4)).toNat / 256 ^ (j % 4)))) ∧
    (∀ rd ra rb, s.Issues p k i (.vadd rd ra rb) → sets (.vadd p k w) (x.setVec rd (perVoice (fun v =>
      m.out32 ((m.in32 (x.voice ra v)).add (m.in32 (x.voice rb v))))))) ∧
    (∀ rd ra rb, s.Issues p k i (.vmul rd ra rb) → sets (.vmul p k w) (x.setVec rd (perVoice (fun v =>
      m.out32 ((m.in32 (x.voice ra v)).mul (m.in32 (x.voice rb v))))))) ∧
    (∀ rd ra rb rc, s.Issues p k i (.vfma rd ra rb rc) → sets (.vfma p k w) (x.setVec rd (perVoice (fun v =>
      m.out32 (((m.in32 (x.voice ra v)).mul (m.in32 (x.voice rb v))).add (m.in32 (x.voice rc v))))))) ∧
    (∀ rd ra rb, s.Issues p k i (.vmax rd ra rb) → sets (.vmax p k w) (x.setVec rd (perVoice (fun v =>
      m.out32 ((m.in32 (x.voice ra v)).vmax (m.in32 (x.voice rb v))))))) ∧
    (∀ rd ac fl, s.Issues p k i (.ared rd ac fl) → sets (.ared p k w) (x.setVec rd (perVoice (fun r =>
      m.out32 (if fl % 2 = 1 then maxTree 4 ((List.range 16).map (fun c => m.in32 (x.accAt ac r c)))
        else m.tree 4 ((List.range 16).map (fun c => m.in32 (x.accAt ac r c)))))))) ∧
    (∀ ac ra fl, s.Issues p k i (.avop ac ra fl) → sets (.avop p k w) (x.setAcc ac (perElem (fun r c =>
      m.out32 (if fl % 2 = 1 then (m.in32 (x.accAt ac r c)).add (m.in32 (x.voice ra r))
        else (m.in32 (x.accAt ac r c)).mul (m.in32 (x.voice ra r)))))))

/-- R273 and R275. -/
def Obligations.QueueInstructions : Prop :=
  ∀ (p : Fin 256) (k : Fin 4) (w : Stalls) (s : State) (i q nb b m : Nat) (xf : Bool), s.wf → q < 4 → nb < 16 →
    tok [] s.queues = true → s.replaying = false →
    let x := s.sect p k
    let moves (c : Instr) (st : Bool) (n : Nat) : Prop :=
      ((s.queue p n).length + nb + 1 ≤ 64 → (∀ r, (s.queue p n).head? = some r → r.done = false) →
        (∀ j, j ≤ nb → s.hbmBlock ((x.effMem xf m + j) % 2 ^ 29) = true) → Completes (exec c s) (fun t => Retired s t p k (i + 1) x ∧
        (∃ rs : List QReq, rs.length = nb + 1 ∧ t.queues = tput [] s.queues (8 * p + n) (s.queue p n ++ rs) ∧
          ∀ j r, rs[j]? = some r → r.store = st ∧ r.bblk = (x.effBlk xf b + j) % 2048 ∧ r.mblk = (x.effMem xf m + j) % 2 ^ 29 ∧
            r.data = none ∧ r.done = false ∧ r.sect = (k : Nat)))) ∧
      (64 < (s.queue p n).length + nb + 1 → Completes (exec c s) (fun t => Waits s t p k i .room ∧
        Counted MEM_QFULL (pix p) MEM_QFULL.COUNT w.own s t ∧ OnlySection s t p k [MEM_QFULL.addr (pix p)]))
    (s.Issues p k i (.qld q nb xf b m) → moves (.qld p k w) false q) ∧
    (q < 2 → s.Issues p k i (.qst q nb xf b m) → moves (.qst p k w) true (4 + q)) ∧
    (∀ st n, st < 2 → s.Issues p k i (.qwait q st n) →
      ((s.queue p (4 * st + q)).length ≤ n → Completes (exec (.qwait p k w) s) (fun t => Retired s t p k (i + 1) x ∧
        OnlySection s t p k [TEL_SECT_QWAIT.addr (six p k)])) ∧
      (n < (s.queue p (4 * st + q)).length → Completes (exec (.qwait p k w) s) (fun t => Waits s t p k i .queue ∧
        Counted TEL_SECT_QWAIT (six p k) TEL_SECT_QWAIT.COUNT w.own s t ∧ OnlySection s t p k [TEL_SECT_QWAIT.addr (six p k)])))
namespace Sys2Proof.Machine

/-- The parameters and the header of a SCORE_PATCH image are in order, its signature verifies, its CRC holds and its records parse to
`recs` (R334, R335). -/
def State.PatchImage (s : State) (c : Cmd) (recs : List PatchRec) : Prop :=
  let o := c.par 0 8
  let len := c.par 8 4
  (s.patches.any (fun p => !p.waiting.isEmpty)) = false ∧ c.par 12 4 = 0 ∧ o % 64 = 0 ∧ len ≠ 0 ∧ s.rangeMapped o len = true ∧
  s.memNat o 4 = 0x3343_5450 ∧ zeros (s.readMem (o + 0x1C) 36) 0 36 = true ∧ s.memNat (o + 0x14) 4 = len ∧
  64 + 16 * s.memNat (o + 6) 2 + 96 ≤ len ∧ s.memNat (o + 4) 2 = s.getF SCR_PLACE [8] SCR_PLACE.RANK ∧
  0 < s.memNat (o + 6) 2 ∧ s.memNat (o + 6) 2 ≤ 256 ∧
  s.signatureOk (s.readMem o (len - 96)) (s.readMem (o + len - 96) 96) = true ∧
  imageCrc (s.readMem o (len - 96)) 0x18 = s.memNat (o + 0x18) 4 ∧
  ((s.items (o + 64) 16 (s.memNat (o + 6) 2)).map (s.parseRec o len)).mapM id = some recs

end Sys2Proof.Machine

/-- R324 to R326. -/
def Obligations.ScoreLoadResult : Prop :=
  ∀ (s : State) (c : Cmd), s.Accepts c 0x0301 →
    (∀ job t ls ds, s.checkLoad (c.par 0 8) (c.par 8 4) (c.par 12 2) (!c.parZero 14 2) = .ok (job, t, ls, ds) →
      ∃ u : State, exec (.scoreLoad c) s = .next (u.complete c stOk (LoadFail.bytes ⟨0, 0, 0xFF, 0xFFFF_FFFF, job, c.par 12 2⟩)) ∧
        u.tempo.k = t.k ∧ u.tempo.region = t.region ∧ u.tempo.fermLead = t.fermLead ∧ u.tempo.gateLimit = t.gateLimit ∧
        u.score.seqs = [] ∧ u.score.windows = [] ∧ Frame [.regs, .tempo, .links, .cond, .press, .sects, .score] s u) ∧
    (∀ f, s.checkLoad (c.par 0 8) (c.par 8 4) (c.par 12 2) (!c.parZero 14 2) = .error f →
      ∃ u : State, exec (.scoreLoad c) s = .next (u.complete c f.status f.bytes) ∧ Frame [.regs] s u)

/-- R118, R119, R336 to R338. -/
def Obligations.ScorePatchStaging : Prop :=
  (∀ (s : State) (c : Cmd) (recs : List PatchRec), s.Accepts c 0x0303 → s.PatchImage c recs →
    let sb := s.memNat (c.par 0 8 + 0x10) 4
    let u := s.imageTest false true
    (∀ st, u.patchFault (s.memNat (c.par 0 8 + 8) 8) sb recs = some st → exec (.scorePatch c) s = .next (u.complete c st [])) ∧
    (u.patchFault (s.memNat (c.par 0 8 + 8) 8) sb recs = none → Completes (exec (.scorePatch c) s) (fun t =>
      t.patches = s.patches ++ [⟨sb, recs, s.condDies.filter (fun d => recs.any (fun r => r.die == d)), c, none⟩] ∧
      Frame [.regs, .patches] s t))) ∧
  (∀ (d : Fin 10) (s : State) (p : Patch) (e : Nat) (es : List Nat), s.patches = [p] →
    p.waiting.contains (d : Nat) = true → p.waiting.filter (fun x => x != (d : Nat)) = e :: es →
    Completes (exec (.patchStageDone d) s) (fun t => t.patches = [{ p with waiting := e :: es, stagedBar := none }] ∧
      Frame [.patches] s t)) ∧
  (∀ (d : Fin 10) (s : State) (p : Patch), s.patches = [p] → p.waiting.contains (d : Nat) = true →
    p.waiting.filter (fun x => x != (d : Nat)) = [] → (s.tempo.frozen = false ∨ s.patchDue ≠ some p.sbar) →
    ∃ u : State, u.patches = [{ p with waiting := [], stagedBar := some s.raisedBar }] ∧ Frame [.patches] s u ∧
      exec (.patchStageDone d) s = .next (u.complete p.cmd stOk (leBytes 4 s.raisedBar ++ leBytes 4 p.sbar)).syncPatch) ∧
  (∀ (s : State) (sb : Nat) (p : Patch), s.tempo.running = true → s.tempo.frozen = true → s.patchDue = some sb →
    s.patches = [p] → p.sbar = sb → p.waiting ≠ [] →
    Completes (exec .patchLate s) (fun t => t.patches = [] ∧ t.tempo.reqBar.isSome = true ∧
      Frame [.regs, .mem, .tempo, .patches, .arb, .front] s t))

/-- R298, R304, R305, R114, R316 and R317. -/
def Obligations.DeskEntriesAct : Prop :=
  (∀ (d : Fin 10) (s : State), s.unison.replay = none → (s.deskEntry d = some .nop ∨ ∃ a b c e f g h i j k, s.deskEntry d = some (.tempo a b c e f g h i j k)) →
    exec (.deskNop d) s = .next ((s.setConductor d { s.conductor d with ptr := (s.conductor d).ptr + 1 }).setTempo (s.tempo.atBeat 0))) ∧
  (∀ (d : Fin 10) (s : State) (i n : Nat), s.unison.replay = none → s.deskEntry d = some (.patchpoint i n) →
    exec (.patchpoint d) s = .next ((s.setConductor d { s.conductor d with ptr := (s.conductor d).ptr + 1 }).setTempo (s.tempo.atBeat 0))) ∧
  (∀ (s : State) (b n : Nat), s.unison.replay = none → s.deskEntry 8 = some (.fermata b n) → s.tempo.merged = false →
    Completes (exec .fermataEntry s) (fun t => t.tempo.ferm = s.tempo.ferm ++ [⟨s.tempo.barno, n, .entry⟩] ∧
      t.cond = tput {} s.cond 8 { s.conductor 8 with ptr := (s.conductor 8).ptr + 1 } ∧ Frame [.tempo, .cond] s t)) ∧
  (∀ (d : Fin 8) (free : Bool) (s : State) (x : Bool) (b src sl w sb ln ta st dr dp db r : Nat), s.unison.replay = none →
    s.deskEntry d = some (.send x b src sl w sb ln ta st dr dp db r) →
    let u := (s.setConductor d { s.conductor d with ptr := (s.conductor d).ptr + 1 }).setTempo (s.tempo.atBeat b)
    (s.pressFolded (32 * d + src) = true → exec (.moveSend d free) s = .next (u.scoreFaultReq d 4 src (s.conductor d).ptr)) ∧
    (s.pressFolded (32 * d + src) = false → s.pressInReset (32 * d + src) = true →
      exec (.moveSend d free) s = .next (u.scoreFaultReq d 5 src (s.conductor d).ptr))) ∧
  (∀ (m : Fin 2) (free : Bool) (s : State) (b k : Nat), s.unison.replay = none → s.deskEntry (8 + m) = some (.take b k) →
    s.score.landed.find? (fun x => x.link == 6 * (m : Nat) + k) = none →
    Completes (exec (.moveTake m free) s) (fun t => t.score = { s.score with takes := s.score.takes ++ [6 * (m : Nat) + k] } ∧
      t.cond = tput {} s.cond (8 + m) { s.conductor (8 + m) with ptr := (s.conductor (8 + m)).ptr + 1 } ∧ Frame [.tempo, .cond, .score] s t))

/-- R107, R314, R315, R317. -/
def Obligations.BoltsLeaveAndAreTaken : Prop :=
  (∀ (d : Fin 8) (free : Bool) (s : State) (x : Bool) (b src sl w sb ln ta st dr dp db r : Nat), s.unison.replay = none →
    s.deskEntry d = some (.send x b src sl w sb ln ta st dr dp db r) → s.pressFolded (32 * d + src) = false →
    s.pressInReset (32 * d + src) = false → tget 0 s.score.ended st = 0 →
    let u := (s.setConductor d { s.conductor d with ptr := (s.conductor d).ptr + 1 }).setTempo (s.tempo.atBeat b)
    let o := if x then (s.conductor d).offsets else (0, 0)
    let v := u.trySend ⟨d, src, sl, w, (sb + o.1) % 2048, ln, ta, st, dr, dp, (db + o.2) % 2048, r, s.tempo.sbar, false, false, false, false⟩
      u.score.sends free 0 true
    exec (.moveSend d free) s = .next (match v.2 with
      | none => v.1
      | some y => { v.1 with score := { v.1.score with sends := v.1.score.sends ++ [y] } })) ∧
  (∀ (d : Fin 8) (n : Nat) (free : Bool) (k : Nat) (s : State), (s.tempo.running = false ∨ s.tempo.held = true) →
    exec (.boltDeparture d n free k) s = .next s) ∧
  (∀ (d : Fin 8) (free : Bool) (k : Nat) (s : State) (w : WaitSend), s.tempo.running = true → s.tempo.held = false → s.score.sends = [w] →
    w.die = (d : Nat) → s.pressFolded (32 * d + w.src) = false → s.pressInReset (32 * d + w.src) = false → tget 0 s.score.ended w.stream = 0 →
    (s.trySend w [] free k false).2 = none →
    exec (.boltDeparture d 0 free k) s = .next { (s.trySend w [] free k false).1 with
      score := { (s.trySend w [] free k false).1.score with sends := (s.trySend w [] free k false).1.score.sends.eraseIdx 0 } }) ∧
  (∀ (m : Fin 2) (free : Bool) (s : State) (b k : Nat) (u t : State), s.unison.replay = none → s.deskEntry (8 + m) = some (.take b k) →
    6 * (m : Nat) + k ∉ s.score.takes →
    u = (s.setConductor (8 + m) { s.conductor (8 + m) with ptr := (s.conductor (8 + m)).ptr + 1 }).setTempo (s.tempo.atBeat b) →
    u.takeBolt (6 * (m : Nat) + k) free = some t → exec (.moveTake m free) s = .next t) ∧
  (∀ (l : Fin 12) (k : Nat) (free : Bool) (s t : State), (l : Nat) ∈ s.score.takes → s.takeBolt l free = some t →
    exec (.takeDeferred l k free) s = .next (({ t with score := { t.score with takes := dropFirst (fun x => x == (l : Nat)) t.score.takes } } : State).incF
      SCR_TAKE_WAITS [8 + (l : Nat) / 6] SCR_TAKE_WAITS.COUNT k))

/-- R319, with R320, R321 and R322 for what happens to the cue next. -/
def Obligations.CuesFireOnTallies : Prop :=
  (∀ (d : Fin 8) (s : State) (b pm li sm : Nat) (cs : List (Nat × Nat)), s.unison.replay = none →
    s.deskEntry d = some (.cue b pm li sm cs) →
    let q : CueWait := ⟨(s.conductor d).ptr, pm, li, sm, cs⟩
    let u := (s.setConductor d { s.conductor d with ptr := (s.conductor d).ptr + 1 }).setTempo (s.tempo.atBeat b)
    (u.conductor d).heldCues = [] → ((∀ x ∈ cs, x.2 ≤ s.tally d x.1) → exec (.cue d) s = .next (u.fireCue d q)) ∧
    ((∃ x ∈ cs, s.tally d x.1 < x.2) → (u.conductor d).pend.length < 64 → exec (.cue d) s =
      .next ((u.setConductor d { u.conductor d with pend := (u.conductor d).pend ++ [q] }).syncCues d))) ∧
  (∀ (d : Nat) (s : State) (q : CueWait) (ti need : Nat), q.conds = [(ti, need)] →
    (s.fireCue d q).score.tallies = tput 0 s.score.tallies (256 * d + ti) (s.tally d ti - need) ∧
    (s.fireCue d q).cond = tput {} s.cond d { s.conductor d with fired := (s.conductor d).fired ++ [q] }) ∧
  (∀ (d : Fin 8) (s : State) (q : CueWait), s.tempo.running = true → s.tempo.held = false → s.dieUp d = true →
    (s.conductor d).pend = [q] →
    ((∃ x ∈ q.conds, s.tally d x.1 < x.2) → exec (.pendingCueFire d) s = .next (s.syncCues d)) ∧
    ((∀ x ∈ q.conds, x.2 ≤ s.tally d x.1) → exec (.pendingCueFire d) s =
      .next ((((s.setConductor d { s.conductor d with pend := [] }).fireCue d q).incF SCR_LATE_CUES [(d : Nat)] SCR_LATE_CUES.COUNT 1).syncCues d))) ∧
  (∀ (d : Fin 8) (s : State) (q : CueWait) (qs : List CueWait), (s.conductor d).heldCues = q :: qs → (s.conductor d).pend.length < 64 →
    exec (.heldCueEnqueue d) s =
      .next ((s.setConductor d { s.conductor d with pend := (s.conductor d).pend ++ [q], heldCues := qs }).syncCues d)) ∧
  (∀ (d : Fin 8) (s : State) (q : CueWait) (qs : List CueWait), (s.conductor d).fired = q :: qs →
    exec (.cueArrive d) s = .next ((s.setConductor d { s.conductor d with fired := qs }).applyCue d q))
/-- R361 to R364, R368, R371 to R373, R392 and R393. -/
def Obligations.LoadsAndStoresReachMemory : Prop :=
  (∀ (p : Fin 256) (q : Fin 4) (s : State) (r : QReq) (rs : List QReq) (e : Ecc), s.wf → s.capturing = false →
    s.queue p q = r :: rs → r.done = false → r.held = false → r.data = none → r.store = false → (∀ x ∈ rs, x.seq ≠ r.seq ∧ x.data = none ∧ x.done = false) → s.olderStore p r = false →
    tok [] s.queues = true → s.fillFree p r.bblk = true →
    let d := (p : Nat) / 32
    let stack := s.readMem (r.mblk * 512) 512
    let lands (bs : List Byte) (t : State) : Prop := t.queue p q = rs ∧
      (∀ n, n < 512 → t.mbyte (boardOff p (512 * r.bblk + n)) = bs.getD n 0) ∧
      (∀ o, (∀ n, n < 512 → o ≠ boardOff p (512 * r.bblk + n)) → t.mbyte o = s.mbyte o) ∧ Frame [.regs, .mem, .queues, .ports, .arb, .unison] s t
    (∀ y, (s.port d).entry r.mblk = some y → y.data.length = 512 → Completes (exec (.loadFillArrive p q 0 e none) s) (lands y.data)) ∧
    ((s.port d).entry r.mblk = none → (tget [] (s.port d).cache r.mblk).length = 512 →
      Completes (exec (.loadFillArrive p q 0 e none) s) (lands (tget [] (s.port d).cache r.mblk))) ∧
    ((s.port d).entry r.mblk = none → tget [] (s.port d).cache r.mblk = [] → r.sent = true → s.stackUp (blkStack r.mblk) = true →
      ((∀ n, e ≠ .bad n) → Completes (exec (.loadFillArrive p q 0 e none) s) (lands stack)) ∧
      (∀ n, e = .bad n → Completes (exec (.loadFillArrive p q 0 e none) s) (fun t => t.mem = s.mem ∧
        t.queue p q = { r with held := true } :: rs ∧ t.bit MEM_ERR [blkStack r.mblk] MEM_ERR.UE = true)))) ∧
  (∀ (p : Fin 256) (q : Fin 4) (n : Nat) (e : Ecc) (v : Option Nat) (s : State) (r : QReq), (s.queue p q)[n]? = some r →
    (r.held = true ∨ r.done = true ∨ s.olderStore p r = true) → exec (.loadFillArrive p q n e v) s = .next s) ∧
  (∀ (p : Fin 256) (q : Fin 2) (s : State) (r : QReq) (rs : List QReq), s.wf → s.queue p (4 + q) = r :: rs → s.pressUp p = true → r.done = false →
    let x := s.port (p / 32)
    let bs := s.readBoard p (512 * r.bblk) 512
    ((x.entry r.mblk).isSome = true ∨ x.wb.length < 64 → Completes (exec (.storeAccept p q) s) (fun t =>
      t.ports = tput {} s.ports (p / 32) { x with
        wb := x.wb.filter (fun y => y.blk != r.mblk) ++ [⟨r.mblk, bs, true, (x.entry r.mblk).bind (fun y => y.flight)⟩]
        cache := if (tget [] x.cache r.mblk).isEmpty then x.cache else tput [] x.cache r.mblk bs } ∧
      Frame [.queues, .ports, .mem] s t)) ∧
    (x.entry r.mblk = none → 64 ≤ x.wb.length → exec (.storeAccept p q) s = .next s)) ∧
  (∀ (d : Fin 8) (s : State) (y : WbEntry) (ys : List WbEntry), (s.port d).wb = y :: ys → y.dirty = true → y.flight = none →
    (∀ z ∈ ys, z.blk ≠ y.blk) →
    (48 < (y :: ys).length → Completes (exec (.writebackStart d) s) (fun t =>
      t.ports = tput {} s.ports d { s.port d with wb := { y with dirty := false, flight := some y.data } :: ys } ∧ Frame [.ports] s t)) ∧
    ((y :: ys).length ≤ 48 → exec (.writebackStart d) s = .next s)) ∧
  (∀ (d : Fin 8) (b : BitVec 29) (s : State) (y : WbEntry) (bs : List Byte), s.wf → s.stackUp (blkStack b.toNat) = true →
    (s.port d).entry b.toNat = some y → y.flight = some bs → y.dirty = false → (s.port d).scans = [] → bs.length = 512 →
    Completes (exec (.writebackAck d b) s) (fun t =>
      t.ports = tput {} s.ports d { s.port d with wb := (s.port d).wb.filter (fun z => z.blk != b.toNat), scans := [] } ∧
      t.readMem (b.toNat * 512) 512 = bs ∧ (∀ o, o < b.toNat * 512 ∨ b.toNat * 512 + 512 ≤ o → t.mbyte o = s.mbyte o) ∧
      Frame [.mem, .ports] s t)) ∧
  (∀ (d : Fin 8) (k : Fin 32) (q : Fin 4) (s : State), s.wf → tok [] s.queues = true →
    (∀ r, (s.queue (32 * d + k) q).head? = some r → r.done = false) →
    Completes (exec (.memRequestRetry d) s) (fun t =>
      t.queue (32 * d + k) q = (s.queue (32 * d + k) q).map (fun r => if r.sent = false ∧ s.stackUp (blkStack r.mblk) = true then { r with sent := true } else r) ∧
      RegsKept [MEM_ERR.addr [(d : Nat)]] s t ∧ Frame [.regs, .queues] s t) ∧
    (s.regGone MEM_UE_HOLD [(d : Nat)] = false → Completes (exec (.ueRetry d) s) (fun t =>
      t.queue (32 * d + k) q = (s.queue (32 * d + k) q).map (fun r => if r.held = true then
        { r with held := false, sent := s.stackUp (blkStack r.mblk) } else r) ∧ Frame [.queues] s t))) ∧
  (∀ (d m : Fin 8) (s : State), s.wf →
    ((s.waitStacks d).contains (m : Nat) = true → Completes (exec (.memWaitTimeout d m) s) (fun t =>
      (t.getF MEM_WAIT [(d : Nat)] MEM_WAIT.TIMEOUT).testBit m = true ∧ t.bit MEM_ERR [(d : Nat)] MEM_ERR.WAIT = true ∧
      RegsKept [MEM_WAIT.addr [(d : Nat)], MEM_ERR.addr [(d : Nat)]] s t ∧ Frame [.regs] s t)) ∧
    ((s.waitStacks d).contains (m : Nat) = false → exec (.memWaitTimeout d m) s = .next s))

/-- R276, R277, R355, R374 to R378 and R383 to R386. -/
def Obligations.RinseAndCadence : Prop :=
  (∀ (p : Fin 256) (k : Fin 4) (w : Stalls) (s : State) (i nb m : Nat) (xf : Bool), s.Issues p k i (.rinse nb xf m) →
    s.strayBlock ((s.sect p k).effMem xf m) (nb + 1) = none → s.wf → tok {} s.ports = true → Completes (exec (.rinse p k w) s) (fun t =>
      Waits s t p k i .rinse ∧ (t.port (p / 32)).scans.length = (s.port (p / 32)).scans.length + 1 ∧
      (∃ sc, (t.port (p / 32)).scans.getLast? = some sc ∧ sc.fence = false ∧ sc.lo = (s.sect p k).effMem xf m ∧ sc.n = nb + 1 ∧ sc.by_ = .sect p k) ∧
      RegsKept (stallRegs p k) s t ∧ Frame [.regs, .sects, .ports, .queues] s t)) ∧
  (∀ (p : Fin 256) (k : Fin 4) (w : Stalls) (s : State) (i : Nat), s.Issues p k i .cadence →
    decodeWord (tget 0 (s.prs p).part i) = some ⟨false, 15, .cadence⟩ → s.wf → tok {} s.sects = true → tok {} s.ports = true →
    ((∃ j : Fin 4, j ≠ k ∧ s.inCadence p j = false) → Completes (exec (.cadence p k w) s) (fun t => Waits s t p k i .sync ∧
      OnlySection s t p k [TEL_SECT_SYNC.addr (six p k)])) ∧
    ((∀ j : Fin 4, j ≠ k → s.inCadence p j = true) → s.queuesEmpty p = true → Completes (exec (.cadence p k w) s) (fun t =>
      (∀ j : Fin 4, (t.sect p j).wait = .cadence ∧ (t.sect p j).st = .waiting) ∧
      (∃ sc, (t.port (p / 32)).scans.getLast? = some sc ∧ sc.fence = true ∧ sc.by_ = .press p) ∧
      Frame [.regs, .sects, .ports, .queues] s t))) ∧
  (∀ (d : Nat) (s : State) (sc : Scan) (m : Nat), tok {} s.ports = true → tok [] (s.port d).cache = true →
    let t := s.beginScan d sc
    (sc.covers m = true → tget [] (t.port d).cache m = []) ∧ (sc.covers m = false → tget [] (t.port d).cache m = tget [] (s.port d).cache m) ∧
    (∀ e ∈ (s.port d).wb, sc.covers e.blk = true → e.dirty = true → e.flight = none →
      { e with dirty := false, flight := some e.data } ∈ (t.port d).wb) ∧
    (∀ e ∈ (s.port d).wb, sc.covers e.blk = false → e ∈ (t.port d).wb) ∧ Frame [.ports, .queues] s t) ∧
  (∀ (d : Fin 8) (s : State),
    ((∀ x ∈ (s.port d).scans, x.fence = false → x.await ≠ []) → exec (.rinseDone d) s = .next s) ∧
    ((∀ x ∈ (s.port d).scans, x.fence = true → x.await ≠ []) → exec (.fenceDone d) s = .next s)) ∧
  (∀ (d : Fin 8) (s : State) (p : Fin 256) (k : Fin 4) (x : Scan) (xs : List Scan), (s.port d).scans = x :: xs → x.await = [] →
    (x.fence = false → x.by_ = .sect p k → (s.sect p k).wait = .rinse → (s.sect p k).st = .waiting → (s.sect p k).pendW = [] →
      Completes (exec (.rinseDone d) s) (fun t => Retired s t p k ((s.sect p k).next + 1) (s.sect p k) ∧
        t.ports = tput {} s.ports d { s.port d with scans := xs } ∧ Frame [.ports, .sects] s t)) ∧
    (x.fence = true → x.by_ = .press p → tok {} s.sects = true → (∀ j : Fin 4, (s.sect p j).wait = .cadence ∧ (s.sect p j).st = .waiting) →
      Completes (exec (.fenceDone d) s) (fun t => (∀ j : Fin 4, (t.sect p j).st = .running ∧ (t.sect p j).next = (s.sect p j).next + 1) ∧
        t.ports = tput {} s.ports d { s.port d with scans := xs } ∧ Frame [.ports, .sects] s t))) ∧
  (∀ (s : State) (c : Cmd), s.Accepts c 0x0205 →
    let off := c.par 0 8
    let len := c.par 8 4
    let bad := c.parZero 13 3 = false ∨ off % 512 ≠ 0 ∨ len % 512 ≠ 0 ∨ len = 0 ∨ boardBase ≤ off ∨ s.rangeMapped off len = false ∨ touchesCarve off len = true
    (bad → exec (.rinseRange c) s = .next (s.complete c stBadParam [])) ∧
    (¬bad → (∃ d ∈ s.diesNamed (c.par 12 1), s.hasDie d = false) → exec (.rinseRange c) s = .next (s.complete c stAbsentUnit [])) ∧
    (∀ d : Fin 8, ¬bad → s.diesNamed (c.par 12 1) = [(d : Nat)] → s.hasDie d = true → s.dieUp d = true → Completes (exec (.rinseRange c) s) (fun t =>
      t.front.waiting = s.front.waiting ++ [(.rinse, c)] ∧ t = (s.wait .rinse c).beginScan d
        { fence := false, lo := off / 512, n := len / 512, by_ := .cmd c, await := [], wrote := 0 }))) ∧
  (∀ (s : State) (c : Cmd), s.Accepts c 0x0206 → (s.waiters .cadenceDrain).contains c = false →
    (c.parZero 1 15 = false → exec (.cadenceCommand c) s = .next (s.complete c stBadParam [])) ∧
    (c.parZero 1 15 = true → (∃ d ∈ s.diesNamed (c.par 0 1), s.hasDie d = false) →
      exec (.cadenceCommand c) s = .next (s.complete c stAbsentUnit [])) ∧
    (c.parZero 1 15 = true → (∀ d ∈ s.diesNamed (c.par 0 1), s.hasDie d = true) → s.earlierWrites c = true →
      Completes (exec (.cadenceCommand c) s) (fun t => t.front.waiting = s.front.waiting ++ [(.cadenceDrain, c)] ∧ Frame [.front] s t)) ∧
    (∀ d : Fin 8, c.parZero 1 15 = true → s.diesNamed (c.par 0 1) = [(d : Nat)] → s.hasDie d = true → s.dieUp d = true → s.earlierWrites c = false →
      (∀ x ∈ s.front.waiting, x.2 ≠ c) → tok {} s.ports = true → Completes (exec (.cadenceCommand c) s) (fun t => t.front.waiting = s.front.waiting ++ [(.fence, c)] ∧
        (∃ sc, (t.port d).scans.getLast? = some sc ∧ sc.fence = true ∧ sc.by_ = .cmd c) ∧ Frame [.front, .ports, .queues] s t))) ∧
  (∀ (s : State) (c : Cmd), (∃ x ∈ s.cmdScans c, x.await ≠ []) → s.finishScans c = s) ∧
  (∀ (s : State) (c : Cmd), (∀ x ∈ s.cmdScans c, x.await = []) → ∃ u : State, Frame [.ports, .front] s u ∧
    s.finishScans c = u.complete c stOk (leBytes 4 ((s.cmdScans c).map (fun x => x.wrote)).sum))

/-- R346, R354, R355, R391, R395 and R397. -/
def Obligations.MemoryControllerEvents : Prop :=
  (∀ (n : Fin 8) (hot : Bool) (s : State), s.wf → s.stackUp n = true → Completes (exec (.hbmRefresh n hot) s) (fun t =>
    t.bit MEM_STATUS [(n : Nat)] MEM_STATUS.HOT = hot ∧ t.bit MEM_STATUS [(n : Nat)] MEM_STATUS.TRAINED = true ∧
    RegsKept [MEM_STATUS.addr [(n : Nat)]] s t ∧ Frame [.regs] s t)) ∧
  (∀ (n : Fin 8) (off : Nat) (s : State), s.wf → s.stackUp n = true → s.bit MEM_CFG [(n : Nat)] MEM_CFG.SCRUB_EN = true →
    off < 0x0006_0000_0000 → s.bit MEM_ERR [(n : Nat)] MEM_ERR.CE = false → s.bit MEM_ERR [(n : Nat)] MEM_ERR.UE = false →
    let at_ := (n : Nat) * 0x0006_0000_0000 + off / 32 * 32
    Completes (exec (.scrubRead n off (.corrected 0)) s) (fun t => Counted MEM_CE [(n : Nat)] MEM_CE.COUNT 1 s t ∧
      t.bit MEM_ERR [(n : Nat)] MEM_ERR.CE = true ∧ t.getF MEM_ERR_ADDR [(n : Nat)] MEM_ERR_ADDR.OFFSET = at_ ∧
      t.bit MEM_ERR_ADDR [(n : Nat)] MEM_ERR_ADDR.UNCORR = false ∧
      RegsKept [MEM_CE.addr [(n : Nat)], MEM_ERR.addr [(n : Nat)], MEM_ERR_ADDR.addr [(n : Nat)]] s t ∧ Frame [.regs, .ports] s t) ∧
    Completes (exec (.scrubRead n off (.bad 0)) s) (fun t => t.bit MEM_ERR [(n : Nat)] MEM_ERR.UE = true ∧
      t.getF MEM_ERR_ADDR [(n : Nat)] MEM_ERR_ADDR.OFFSET = at_ ∧ t.bit MEM_ERR_ADDR [(n : Nat)] MEM_ERR_ADDR.UNCORR = true ∧
      Logs s t n 1 (MEM_ERR.addr [(n : Nat)] + 4 * 2 ^ 32) ∧
      RegsKept [MEM_ERR.addr [(n : Nat)], MEM_ERR_ADDR.addr [(n : Nat)]] s t ∧ Frame [.regs, .arb] s t) ∧
    exec (.scrubRead n off .clean) s = .next s) ∧
  (∀ (p : Fin 256) (s : State), s.regGone MEM_QCTL (pix p) = false → s.wf → Completes (exec (.memQctlCntClr p) s) (fun t =>
    t.reg MEM_QFULL (pix p) = 0 ∧ t.reg MEM_SBWAIT (pix p) = 0 ∧ RegsKept [MEM_QFULL.addr (pix p), MEM_SBWAIT.addr (pix p)] s t ∧
    Frame [.regs] s t)) ∧
  (∀ (src : Fin 12) (p : Fin 256) (a n : Nat) (bs : List Byte) (s : State), s.wf → 0 < n → a % 512 + n ≤ 512 → a < 0x0010_0000 → bs.length = n →
    s.hasDie (p / 32) = true →
    let off : BitVec 48 := BitVec.ofNat 48 (boardBase + p * 0x0010_0000 + a)
    (s.pressFolded p = true → exec (.boardWindowAccess src off n none) s = .next (s.answered stUnitFolded []) ∧
      exec (.boardWindowAccess src off n (some bs)) s = .next (s.answered stUnitFolded [])) ∧
    (s.pressFolded p = false → s.pressInReset p = true → exec (.boardWindowAccess src off n none) s = .next (s.answered stUnitInReset []) ∧
      exec (.boardWindowAccess src off n (some bs)) s = .next (s.answered stUnitInReset [])) ∧
    (s.pressFolded p = false → s.pressInReset p = false →
      exec (.boardWindowAccess src off n none) s = .next (s.answered stOk (s.readBoard p a n)) ∧
      (s.heldRange p a n = false → s.capturing = false → Completes (exec (.boardWindowAccess src off n (some bs)) s) (fun t => t.front.answer = stOk ∧
        t.readBoard p a n = bs ∧ (∀ o, (∀ j, j < n → o ≠ boardOff p (a + j)) → t.mbyte o = s.mbyte o) ∧ Frame [.regs, .mem, .front, .unison] s t)))) ∧
  (∀ (src : Fin 12) (p : Fin 256) (a n : Nat) (bs : List Byte) (s : State), s.wf → 0 < n → a + n ≤ 0x0010_0000 → bs.length = n →
    s.hasDie (p / 32) = false → s.bit MEM_STRAY [] MEM_STRAY.STRAY = false →
    let off : BitVec 48 := BitVec.ofNat 48 (boardBase + p * 0x0010_0000 + a)
    Completes (exec (.boardWindowAccess src off n none) s) (fun t => t.front.readBytes = List.replicate n 0 ∧
      t.bit MEM_STRAY [] MEM_STRAY.STRAY = true ∧ t.getF MEM_STRAY [] MEM_STRAY.SOURCE = (src : Nat) ∧ Counted MEM_STRAY [] MEM_STRAY.COUNT 1 s t ∧
      t.getF MEM_STRAY_ADDR [] MEM_STRAY_ADDR.OFFSET = boardBase + p * 0x0010_0000 + a ∧
      RegsKept [MEM_STRAY.addr [], MEM_STRAY_ADDR.addr []] s t ∧ Frame [.regs, .arb, .front] s t) ∧
    Completes (exec (.boardWindowAccess src off n (some bs)) s) (fun t => t.mem = s.mem ∧ t.bit MEM_STRAY [] MEM_STRAY.STRAY = true ∧
      t.bit MEM_STRAY [] MEM_STRAY.WRITE = true ∧ RegsKept [MEM_STRAY.addr [], MEM_STRAY_ADDR.addr []] s t ∧ Frame [.regs, .arb, .front] s t))
/-- R427, R428, R430 to R436. -/
def Obligations.LinkTrainingStates : Prop :=
  (∀ (l : Fin 12) (s : State), s.wf → s.regGone LNK_CTRL (lnk l) = false → s.linkInReset l = false →
    (s.linkState l = 0 → s.linkProfile l < 3 → Completes (exec (.linkEnable l) s) (fun t => t.linkState l = 1 ∧
      t.bit LNK_CTRL (lnk l) LNK_CTRL.ENABLE = true ∧ t.getF LNK_STATUS (lnk l) LNK_STATUS.CLASS = 3)) ∧
    Completes (exec (.linkDisable l) s) (fun t => t.linkState l = 0 ∧ t.bit LNK_CTRL (lnk l) LNK_CTRL.ENABLE = false) ∧
    Completes (exec (.lnkCntClr l) s) (fun t => t.reg LNK_FEC_CORR (lnk l) = 0 ∧ t.reg LNK_FEC_UNCORR (lnk l) = 0 ∧ t.reg LNK_HOLD_SENT (lnk l) = 0 ∧
      t.reg LNK_HOLD_OBEYED (lnk l) = 0 ∧ t.reg LNK_RETRAINS (lnk l) = 0 ∧ t.reg LNK_SLEEP_BARS (lnk l) = 0 ∧
      (∀ i : Fin 8, t.reg LNK_LANE_ERR (lnk l ++ [(i : Nat)]) = 0) ∧ t.getF LNK_MESO (lnk l) LNK_MESO.MARGIN_COUNT = 0 ∧
      t.linkState l = s.linkState l ∧ Frame [.regs] s t)) ∧
  (∀ (l : Fin 12) (rev : Bool) (pol : BitVec 8) (b : BitVec 32) (s : State), s.wf → tok {} s.lk = true → s.linkProfile l ≠ 2 →
    (s.linkState l = 1 → s.boundaryScan = false → Completes (exec (.linkStateComplete l rev pol b) s) (fun t => t.linkState l = 2 ∧
      RegsKept [LNK_STATUS.addr (lnk l)] s t ∧ Frame [.regs] s t)) ∧
    (s.linkState l = 2 → Completes (exec (.linkStateComplete l rev pol b) s) (fun t => t.linkState l = 3 ∧
      t.bit LNK_STATUS (lnk l) LNK_STATUS.REVERSED = rev ∧ t.getF LNK_STATUS (lnk l) LNK_STATUS.POLARITY = pol.toNat ∧
      (t.lnkDyn l).qualCorr = 0 ∧ RegsKept [LNK_STATUS.addr (lnk l)] s t ∧ Frame [.regs, .lk] s t)) ∧
    (s.linkState l = 3 → (s.lnkDyn l).qualCorr ≤ s.getF LNK_QUAL (lnk l) LNK_QUAL.CORR_MAX →
      Completes (exec (.linkStateComplete l rev pol b) s) (fun t => t.linkState l = 4 ∧ t.getF LNK_MESO (lnk l) LNK_MESO.FILL = 4 ∧
        (t.lnkDyn l).stamp = some b.toNat ∧ (t.lnkDyn l).rounds = [] ∧
        t.linkTx = s.linkTx ++ [((l : Nat), s.linkFlit l 1 0 b.toNat 0 0)] ∧ Frame [.regs, .lk, .linkTx] s t)) ∧
    (∀ raw, s.linkState l = 4 → (s.lnkDyn l).rounds.length = 8 → (s.lnkDyn l).rounds.foldl max 0 = raw → raw < 2 ^ 16 → (s.lnkDyn l).peerAdmit = none →
      let p := if s.linkProfile l ≠ 0 then 2 else match s.getF LNK_CTRL (lnk l) LNK_CTRL.CLASS_REQ with
        | 0 => if raw ≤ 256 - 16 then 0 else if raw ≤ 1024 - 16 then 1 else 2
        | 1 => if raw ≤ 256 - 16 then 0 else 2
        | 2 => if raw ≤ 1024 - 16 then 1 else 2
        | _ => 2
      Completes (exec (.linkStateComplete l rev pol b) s) (fun t => t.linkState l = 5 ∧ t.getF LNK_LATENCY (lnk l) LNK_LATENCY.RAW = raw ∧
        (t.lnkDyn l).proposed = some p ∧ t.linkTx = s.linkTx ++ [((l : Nat), s.linkFlit l 3 p 0 0 raw)] ∧
        Frame [.regs, .lk, .linkTx] s t)) ∧
    (s.linkState l = 5 → s.getF LNK_STATUS (lnk l) LNK_STATUS.CLASS ≠ 3 → ∃ u : State, u.linkState l = 6 ∧
      u.bit LNK_EVENT (lnk l) LNK_EVENT.UP = true ∧ RegsKept [LNK_STATUS.addr (lnk l), LNK_EVENT.addr (lnk l)] s u ∧ Frame [.regs, .pwr] s u ∧
      exec (.linkStateComplete l rev pol b) s = .next (u.linkSources.retrainDone l stOk))) ∧
  (∀ (l : Fin 12) (f : List Byte) (a b : BitVec 32) (s : State), s.wf → tok {} s.lk = true → flitOk f = true → s.linkProfile l ≠ 2 → 2 ≤ s.linkState l → s.linkState l ≠ 7 →
    (leAt f 1 1 = 1 → Completes (exec (.linkFlitReceive l f a b) s) (fun t => t.linkTx = s.linkTx ++
      [((l : Nat), s.linkFlit l 2 0 (leAt f 4 4) ((b.toNat + 2 ^ 32 - a.toNat) % 2 ^ 32) 0)] ∧ Frame [.linkTx] s t)) ∧
    (∀ rs raw, leAt f 1 1 = 2 → s.linkState l = 4 → (s.lnkDyn l).stamp = some (leAt f 4 4) → (s.lnkDyn l).rounds = rs → rs.length < 8 →
      raw = ((a.toNat + 2 ^ 32 - leAt f 4 4) % 2 ^ 32 - leAt f 8 2 + 1) / 2 →
      (roundsAgree (rs ++ [raw]) = true → Completes (exec (.linkFlitReceive l f a b) s) (fun t => (t.lnkDyn l).rounds = rs ++ [raw] ∧ t.linkState l = 4 ∧
        Frame [.lk, .linkTx] s t)) ∧
      (roundsAgree (rs ++ [raw]) = false → ∃ u : State, Frame [.lk] s u ∧ exec (.linkFlitReceive l f a b) s = .next (u.linkFail l 4))) ∧
    (∀ mine, leAt f 1 1 = 3 → s.linkState l = 5 → (s.lnkDyn l).proposed = some mine → leAt f 2 1 % 16 = (l : Nat) ^^^ 1 → mine ≤ 2 → leAt f 3 1 ≤ 2 →
      (s.lnkDyn l).peerProfile = s.linkProfile l → Completes (exec (.linkFlitReceive l f a b) s) (fun t =>
        let c := max mine (leAt f 3 1)
        t.getF LNK_STATUS (lnk l) LNK_STATUS.CLASS = c ∧ t.getF LNK_PEER (lnk l) LNK_PEER.CHIP = leAt f 12 2 ∧
        t.getF LNK_LATENCY (lnk l) LNK_LATENCY.PAD = (if c = 0 then 256 - s.getF LNK_LATENCY (lnk l) LNK_LATENCY.RAW
          else if c = 1 then 1024 - s.getF LNK_LATENCY (lnk l) LNK_LATENCY.RAW else 0) ∧ t.linkState l = 5 ∧ Frame [.regs, .lk] s t))) ∧
  (∀ (l : Fin 12) (b : BitVec 32) (s : State), tok {} s.lk = true → s.linkState l = 4 → (s.lnkDyn l).stamp.isSome = true →
    Completes (exec (.echoRepeat l b) s) (fun t => (t.lnkDyn l).stamp = some b.toNat ∧
      t.linkTx = s.linkTx ++ [((l : Nat), s.linkFlit l 1 0 b.toNat 0 0)] ∧ Frame [.lk, .linkTx] s t)) ∧
  (∀ (l : Fin 12) (s : State), s.wf →
    (∀ n, 1 ≤ n → n ≤ 4 → s.linkState l = n → Completes (exec (.linkStateTimeout l) s) (fun t => t.linkState l = 7 ∧
      t.getF LNK_STATUS (lnk l) LNK_STATUS.CAUSE = (if n = 4 then 7 else n))) ∧
    (s.linkState l = 5 → Completes (exec (.linkStateTimeout l) s) (fun t => t.linkState l = 7 ∧
      (t.getF LNK_STATUS (lnk l) LNK_STATUS.CAUSE = 5 ∨ t.getF LNK_STATUS (lnk l) LNK_STATUS.CAUSE = 6))) ∧
    (s.linkState l = 7 → s.bit LNK_CTRL (lnk l) LNK_CTRL.ENABLE = true → s.linkProfile l ≠ 3 →
      Completes (exec (.linkRetryTimer l) s) (fun t => t.linkState l = 1)) ∧
    (s.linkState l ≠ 7 → exec (.linkRetryTimer l) s = .next s))

/-- R405 to R412, R415, R441, R444 to R451. -/
def Obligations.LinkTrafficAndRetrains : Prop :=
  (∀ (l : Fin 12) (cw : Codeword) (s : State), s.wf → tok {} s.lk = true → s.linkState l = 6 → s.linkProfile l = 0 → cw.marker = none →
    let aged := ((s.lnkDyn l).uncorr.map (fun a => a + 1)).filter (fun a => decide (a < 1024))
    (cw.uncorr = false → Completes (exec (.codewordReceive l cw) s) (fun t => Counted LNK_FEC_CORR (lnk l) LNK_FEC_CORR.COUNT cw.corr s t ∧
      Counted LNK_HOLD_OBEYED (lnk l) LNK_HOLD_OBEYED.COUNT cw.obeyed s t ∧ (t.lnkDyn l).holdRx = cw.ctl.toNat.testBit 10 ∧ (t.lnkDyn l).uncorr = aged ∧
      Counted LNK_FEC_UNCORR (lnk l) LNK_FEC_UNCORR.BAD_TYPE ((cw.flits.zipIdx).filter (fun f => !cw.ctl.toNat.testBit f.2 && !plainFlitOk f.1)).length s t ∧
      t.linkState l = 6 ∧ Frame [.regs, .lk] s t)) ∧
    (cw.uncorr = true → aged.length + 1 < s.getF LNK_CTRL (lnk l) LNK_CTRL.UNCORR_MAX → Completes (exec (.codewordReceive l cw) s) (fun t =>
      Counted LNK_FEC_UNCORR (lnk l) LNK_FEC_UNCORR.COUNT 1 s t ∧ (t.lnkDyn l).holdRx = true ∧ (t.lnkDyn l).uncorr = aged ++ [0] ∧
      t.linkState l = 6 ∧ Frame [.regs, .lk] s t)) ∧
    (cw.uncorr = true → s.getF LNK_CTRL (lnk l) LNK_CTRL.UNCORR_MAX ≤ aged.length + 1 → Completes (exec (.codewordReceive l cw) s) (fun t =>
      t.linkState l = 2 ∧ t.bit LNK_EVENT (lnk l) LNK_EVENT.RETRAIN = true ∧ t.bit LNK_EVENT (lnk l) LNK_EVENT.DOWN = true))) ∧
  (∀ (l : Fin 12) (s : State), s.wf →
    (s.linkState l = 8 → Completes (exec (.linkQuietEnd l) s) (fun t => t.linkState l = 6 ∧ RegsKept [LNK_STATUS.addr (lnk l)] s t ∧ Frame [.regs] s t)) ∧
    (s.linkState l = 6 → s.maySleep l = true → (s.lnkDyn l).skid = 0 → (s.lnkDyn l).holdTx = false → (s.lnkDyn l).quietBar ≠ some s.tempo.barno →
      Completes (exec (.linkQuietStart l) s) (fun t => t.linkState l = 8 ∧ Counted LNK_SLEEP_BARS (lnk l) LNK_SLEEP_BARS.COUNT 1 s t ∧
        RegsKept [LNK_STATUS.addr (lnk l), LNK_SLEEP_BARS.addr (lnk l)] s t ∧ Frame [.regs, .lk] s t)) ∧
    (s.maySleep l = false → exec (.linkQuietStart l) s = .next s)) ∧
  (∀ (l : Fin 12) (full : Bool) (s : State), s.wf →
    (s.linkUp l = true → (s.linkRetrain l full).linkState l = (if full then 1 else 2) ∧
      Counted LNK_RETRAINS (lnk l) LNK_RETRAINS.COUNT 1 s (s.linkRetrain l full) ∧ (s.linkRetrain l full).bit LNK_EVENT (lnk l) LNK_EVENT.RETRAIN = true ∧
      (s.linkRetrain l full).bit LNK_EVENT (lnk l) LNK_EVENT.DOWN = true) ∧
    (s.linkState l = 0 ∨ s.linkState l = 7 → s.linkRetrain l full = s)) ∧
  (∀ (s : State) (c : Cmd), s.Accepts c 0x0404 →
    let tg := c.par 0 1
    let fl := c.par 1 1
    let bad := retrainTargetOk tg = false ∨ 4 ≤ fl ∨ c.parZero 2 14 = false
    (bad → exec (.linkRetrain c) s = .next (s.complete c stBadParam [])) ∧
    (¬bad → (s.tempo.armed = true ∨ s.tempo.running = true) → fl < 2 → exec (.linkRetrain c) s = .next (s.complete c stBusy [])) ∧
    (tg < 12 → ¬bad → (2 ≤ fl ∨ (s.tempo.armed = false ∧ s.tempo.running = false)) → s.dieFolded (8 + tg / 6) = false → s.linkInReset tg = false →
      (s.linkUp tg = false → exec (.linkRetrain c) s = .next (s.complete c stBusy [])) ∧
      (s.linkUp tg = true → exec (.linkRetrain c) s = .next ((s.linkRetrain tg (fl % 2 == 1)).wait .retrain c)))) ∧
  (∀ (s : State) (c : Cmd), s.Accepts c 0x0405 →
    let l := c.par 0 1
    let p := c.par 1 1
    let legacy (i : Nat) : Bool := (if i = l then p else s.linkProfile i) == 1 || (if i = l then p else s.linkProfile i) == 2
    let bad := 12 ≤ l ∨ 4 ≤ p ∨ c.parZero 2 14 = false ∨ ((p = 1 ∨ p = 2) ∧ s.tempoSource l = true)
    (bad → exec (.linkProfile c) s = .next (s.complete c stBadParam [])) ∧
    (¬bad → 4 < ((List.range 12).filter legacy).length → exec (.linkProfile c) s = .next (s.complete c stResource [])) ∧
    (¬bad → ((List.range 12).filter legacy).length ≤ 4 → (s.tempo.armed = true ∨ s.tempo.running = true) →
      exec (.linkProfile c) s = .next (s.complete c stBusy [])) ∧
    (¬bad → ((List.range 12).filter legacy).length ≤ 4 → s.tempo.armed = false → s.tempo.running = false → s.wf →
      ∃ u : State, u.linkProfile l = p ∧ (p = 3 → u.linkState l = 0) ∧ (s.linkUp l = true → p ≠ 3 → u.linkState l = 1) ∧
        exec (.linkProfile c) s = .next (u.complete c stOk []))) ∧
  (∀ (s : State) (c : Cmd), ((s.waiters .retrain).contains c = false → exec (.linkRetrainTimeout c) s = .next s) ∧
    ((s.waiters .retrain).contains c = true → ∃ u : State, u.front.waiting = s.front.waiting.filter (fun x => !(x.1 == .retrain && x.2 == c)) ∧
      Frame [.front] s u ∧ exec (.linkRetrainTimeout c) s = .next (u.complete c stTimeout (s.retrainResult (c.par 0 1))))) ∧
  (∀ (tg : BitVec 8) (s : State), exec (.laneLockLoss tg) s = .next (if tg.toNat < 12 then s.linkRetrain tg.toNat true
    else match (if 0x80 ≤ tg.toNat then seamNames[tg.toNat - 0x80]? else none) with
      | some x => s.seamRetrain x.1 x.2 true
      | none => s))

/-- R420 to R426, R432 and R438 to R440. -/
def Obligations.SeamsAndAlignment : Prop :=
  (∀ (d : Fin 12) (q : Fin 4) (b : SeamBeat) (s : State), s.wf → tok {} s.seams = true → s.seamState d q = 4 →
    slotKind b.ctl 5 = false → slotKind b.ctl 6 = false →
    (b.crcOk = false → Completes (exec (.seamBeatReceive d q b) s) (fun t => Counted SEAM_CRC_ERR [d, q] SEAM_CRC_ERR.COUNT 1 s t ∧
      Counted SEAM_HOLD_OBEYED [d, q] SEAM_HOLD_OBEYED.COUNT b.obeyed s t ∧ (t.seamDyn d q).holdRx = true ∧ (t.seamDyn d q).awaiting = true ∧
      RegsKept [SEAM_CRC_ERR.addr [d, q], SEAM_HOLD_OBEYED.addr [d, q]] s t ∧ Frame [.regs, .seams] s t)) ∧
    (b.crcOk = true → b.ctl.toNat.testBit 16 = false → Completes (exec (.seamBeatReceive d q b) s) (fun t =>
      (t.seamDyn d q).holdRx = b.ctl.toNat.testBit 15 ∧ (t.seamDyn d q).awaiting = ((s.seamDyn d q).awaiting && !b.replayed) ∧
      RegsKept [SEAM_HOLD_OBEYED.addr [d, q]] s t ∧ Frame [.regs, .seams] s t)) ∧
    (b.crcOk = true → b.ctl.toNat.testBit 16 = true → b.heldBeat = true → Completes (exec (.seamBeatReceive d q b) s) (fun t =>
      Counted SEAM_REPLAYS [d, q] SEAM_REPLAYS.COUNT 1 s t ∧ Frame [.regs, .seams] s t)) ∧
    (b.crcOk = true → b.ctl.toNat.testBit 16 = true → b.heldBeat = false → ∃ u : State, Frame [.regs, .seams] s u ∧
      exec (.seamBeatReceive d q b) s = .next (u.seamRetrain d q false))) ∧
  (∀ (d : Fin 10) (q : Fin 4) (s : State), s.wf → s.tempo.running = true → s.bit SCR_TEMPO_FAULT [(d : Nat)] SCR_TEMPO_FAULT.FAULT = false →
    (s.noteLost d q true).bit SEAM_EVENT [d, q] SEAM_EVENT.NOTE_LOST = true ∧
    (s.noteLost d q true).bit SCR_TEMPO_FAULT [(d : Nat)] SCR_TEMPO_FAULT.FAULT = true ∧
    (s.noteLost d q true).getF SCR_TEMPO_FAULT [(d : Nat)] SCR_TEMPO_FAULT.CAUSE = 7 ∧
    Frame [.regs, .tempo, .arb] s (s.noteLost d q true)) ∧
  (∀ (d : Fin 12) (q : Fin 4) (rtt : BitVec 32) (turn : BitVec 16) (s : State) (rs : List Nat) (raw : Nat), s.wf → s.seamState d q = 2 →
    (s.seamDyn d q).rounds = rs → rs.length < 8 → raw = (rtt.toNat - turn.toNat + 1) / 2 →
    (raw ≤ 10 → roundsAgree (rs ++ [raw]) = true → Completes (exec (.echoNotice d q rtt turn) s) (fun t =>
      t.seams = tput {} s.seams (4 * d + q) { s.seamDyn d q with rounds := rs ++ [raw] } ∧ Frame [.seams] s t)) ∧
    ((10 < raw ∨ roundsAgree (rs ++ [raw]) = false) → Completes (exec (.echoNotice d q rtt turn) s) (fun t => t.seamState d q = 5 ∧
      t.getF SEAM_STATUS [d, q] SEAM_STATUS.CAUSE = 4 ∧ Frame [.regs, .seams] s t))) ∧
  (∀ (d : Fin 12) (q : Fin 4) (rep : Option Nat) (s : State), s.wf →
    (∀ n, s.seamState d q = 1 → rep = some n → n ≤ 3 → Completes (exec (.seamTrainingDone d q rep) s) (fun t => t.seamState d q = 2 ∧
      t.getF SEAM_STATUS [d, q] SEAM_STATUS.REPAIRS = n ∧ t.getF SEAM_MESO [d, q] SEAM_MESO.FILL = 4 ∧ Frame [.regs, .seams] s t)) ∧
    (s.seamState d q = 1 → (rep = none ∨ ∃ n, rep = some n ∧ 3 < n) → Completes (exec (.seamTrainingDone d q rep) s) (fun t => t.seamState d q = 5 ∧
      t.getF SEAM_STATUS [d, q] SEAM_STATUS.CAUSE = (if rep = none then 1 else 2) ∧ Frame [.regs, .seams] s t)) ∧
    (∀ raw, s.seamState d q = 2 → (s.seamDyn d q).rounds.length = 8 → (s.seamDyn d q).rounds.foldl max 0 = raw → raw ≤ 10 →
      ∃ u : State, u.seamState d q = 4 ∧ u.getF SEAM_STATUS [d, q] SEAM_STATUS.RAW = raw ∧ u.getF SEAM_STATUS [d, q] SEAM_STATUS.PAD = 12 - raw ∧
        u.bit SEAM_EVENT [d, q] SEAM_EVENT.UP = true ∧ RegsKept [SEAM_STATUS.addr [d, q], SEAM_EVENT.addr [d, q]] s u ∧ Frame [.regs] s u ∧
        exec (.seamTrainingDone d q rep) s = .next (u.seamDone d q))) ∧
  (∀ (good : Bool) (s : State), s.seamsUp = true → Completes (exec (.alignNotice 8 good) s) (fun t =>
    t.aligns = s.aligns ++ [(0, (s.dieCount 8 + 12) % 2 ^ 32, true), (4, (s.dieCount 8 + 12) % 2 ^ 32, true)] ∧ Frame [.aligns] s t)) ∧
  (∀ (d : Fin 12) (v : Nat) (fwd : Bool) (as : List (Nat × Nat × Bool)) (s : State), (d : Nat) ≠ 8 → s.aligns = ((d : Nat), v, fwd) :: as → v < 2 ^ 32 → s.hasDie d = true →
    tok 0 s.dieBase = true → Completes (exec (.alignNotice d true) s) (fun t => t.dieCount d = v ∧
      t.aligns = as ++ (if fwd then (alignChildren d).map (fun e => (e, (v + 12) % 2 ^ 32, true)) else []) ∧ Frame [.aligns, .dieBase] s t)) ∧
  (∀ (d p : Fin 12) (s : State), alignParent d = some (p : Nat) → s.dieUp d = true → s.dieUp p = true →
    Completes (exec (.alignRequest d) s) (fun t => t.aligns = s.aligns ++ [((d : Nat), (s.dieCount p + 12) % 2 ^ 32, false)] ∧ Frame [.aligns] s t))

/-- R472, R488, R462 and R508. -/
def Obligations.BoltHeadsAtSwitches : Prop :=
  (∀ (id a q : Nat) (free : Bool) (obs : SkidObs) (c : Instr) (f : Flight) (s : State), s.wf → tok {} s.seams = true → s.flight id = some f →
    f.accepted = false → f.hdrBad = false → f.at_ < 8 → f.at_ ≠ f.goal → f.inp = .seam a → portTo f.at_ a = some q → obs.occ ≤ 256 →
    (c = .boltHeadRoute id free obs ∧ f.held = false) ∨ (c = .headAdvance id free obs ∧ f.held = true) →
    Completes (exec c s) (fun t =>
      t.flight id = some (if free && s.nextClear f f.goal then { f with at_ := nextDie f.at_ f.goal, inp := .seam f.at_, held := false }
        else { f with held := true }) ∧
      Counted BLT_STALL [f.at_, q] BLT_STALL.COUNT obs.stall s t ∧ Counted SEAM_HOLD_SENT [f.at_, q] SEAM_HOLD_SENT.COUNT obs.sent s t ∧
      (t.seamDyn f.at_ q).skid = obs.occ ∧ (120 ≤ obs.occ → (t.seamDyn f.at_ q).holdTx = true) ∧ (obs.occ ≤ 32 → (t.seamDyn f.at_ q).holdTx = false) ∧
      RegsKept [BLT_STALL.addr [f.at_, q], SEAM_HOLD_SENT.addr [f.at_, q], BLT_SKID_PEAK.addr [f.at_, q]] s t ∧ Frame [.regs, .seams, .score] s t)) ∧
  (∀ (id : Nat) (free : Bool) (obs : SkidObs) (f : Flight) (s : State), s.flight id = some f → f.accepted = true →
    exec (.boltHeadRoute id free obs) s = .next s ∧ exec (.headAdvance id free obs) s = .next s) ∧
  (∀ (id a q l : Nat) (obs : SkidObs) (f : Flight) (s : State), s.wf → tok {} s.seams = true → s.flight id = some f → f.own = true → f.looked = false →
    f.exit = some l → l < 12 → f.at_ = 8 + l / 6 → f.inp = .seam a → portTo f.at_ a = some q → q < 2 → obs.occ ≤ 256 →
    (s.rankAbsent f.at_ f.hdr.drank = false → s.exitRouteOk f.at_ f = true → s.fenced l = false → s.discarding l = false → s.linkProfile l = 0 →
      s.linkClear l = true → f.resend = false → f.split = false → f.bad = false → f.cut = false →
      Completes (exec (.boltExitLookup id true obs) s) (fun t => t.flight id = none ∧
        t.linkTx = s.linkTx ++ (boltFlits { f.hdr with route := routeStep f.hdr.route } f.payload f.pcrc).map (fun x => (l, x)) ∧
        Frame [.regs, .seams, .score, .linkTx] s t)) ∧
    (s.rankAbsent f.at_ f.hdr.drank = true → ∃ u : State, u.flight id = none ∧
      Counted RNK_MISSES [f.at_] RNK_MISSES.COUNT 1 s u ∧
      u.bit BLT_MFAULT [f.at_] BLT_MFAULT.SLICE_VIOLATION = true ∧
      (s.bit BLT_MFAULT [f.at_] BLT_MFAULT.SLICE_VIOLATION = false → f.hdr.drank < 2 ^ 16 → f.hdr.stream < 2 ^ 12 →
        u.getF BLT_SV [f.at_] BLT_SV.DRANK = f.hdr.drank ∧ u.getF BLT_SV [f.at_] BLT_SV.STREAM = f.hdr.stream) ∧
      Frame [.regs, .seams, .score, .arb] s u ∧ exec (.boltExitLookup id true obs) s = .next (u.endStream f.hdr.stream stSliceViolation))) ∧
  (∀ (stream status : Nat) (s : State), tok 0 s.score.ended = true →
    (s.endStream stream status).score.desc = s.score.desc.filter (fun d => d.stream != stream) ∧
    tget 0 (s.endStream stream status).score.ended stream = status + 1)

/-- R463, R489, R490 and R491. -/
def Obligations.BoltsOverLinks : Prop :=
  (∀ (l : Fin 12) (flits : List (List Byte)) (free : Bool) (h : BoltHdr) (hb : Bool) (pay : List Byte) (pcrc : Nat) (s : State), s.wf → tok {} s.lk = true →
    s.linkUp l = true → s.linkProfile l = 0 → s.dieUp (8 + (l : Nat) / 6) = true → parseBolt flits = (h, hb, pay, pcrc) →
    let m := 8 + (l : Nat) / 6
    let c : Instr := .boltLinkArrival l flits false free ⟨(s.lnkDyn l).skid, 0, 0⟩
    (s.fenced l = true → Completes (exec c s) (fun t => Counted RNK_FENCED [m] RNK_FENCED.COUNT 1 s t ∧ Frame [.regs, .lk, .arb] s t)) ∧
    (s.fenced l = false → hb = true → Completes (exec c s) (fun t => t.bit BLT_MFAULT [m] BLT_MFAULT.HDR_BAD = true ∧ Frame [.regs, .lk] s t)) ∧
    (s.fenced l = false → hb = false → s.sliceOk h.slice = false → Completes (exec c s) (fun t => t.bit BLT_MFAULT [m] BLT_MFAULT.SLICE_BAD = true ∧
      Counted BLT_MRX_DROP [m] BLT_MRX_DROP.COUNT 1 s t ∧ Frame [.regs, .lk, .arb] s t)) ∧
    (s.fenced l = false → hb = false → s.sliceOk h.slice = true → s.landsOn l = false → routeHops h.route = 0 → h.lines + 2 ≤ flits.length →
      (s.hasDie (h.dpress / 32) = false → Completes (exec c s) (fun t => t.bit BLT_MFAULT [m] BLT_MFAULT.NO_DEST = true ∧
        Counted BLT_MRX_DROP [m] BLT_MRX_DROP.COUNT 1 s t ∧ Frame [.regs, .lk] s t)) ∧
      (s.hasDie (h.dpress / 32) = true → free = true → h.dpress < 256 → (portTo m (nextDie m (h.dpress / 32))).any (s.seamClear m) = true →
        Completes (exec c s) (fun t => (∃ g ∈ t.score.flights, g.hdr = h ∧ g.payload = pay ∧ g.pcrc = pcrc ∧ g.at_ = nextDie m (h.dpress / 32) ∧
          g.inp = .seam m ∧ g.exit = none ∧ g.entry = some (l : Nat) ∧ g.accepted = false) ∧ Frame [.regs, .lk, .score] s t)))) ∧
  (∀ (id a q : Nat) (upto : Fin 129) (obs : SkidObs) (f : Flight) (s : State), s.wf → s.flight id = some f → f.exit = none → f.accepted = false →
    f.hdrBad = false → f.at_ < 8 → f.at_ = f.hdr.dpress / 32 → f.inp = .seam a → portTo f.at_ a = some q → obs.occ ≤ 256 → f.resend = false →
    let c : Instr := .boltHeadAccept id upto obs
    let drop (flag : Fld) : Prop := Completes (exec c s) (fun t => t.flight id = none ∧ t.bit BLT_PFAULT [f.at_] flag = true ∧
      Counted BLT_RX_DROP [f.at_] BLT_RX_DROP.COUNT 1 s t ∧ Frame [.regs, .seams, .score] s t)
    (s.sliceOk f.hdr.slice = false → drop BLT_PFAULT.SLICE_BAD) ∧
    (s.sliceOk f.hdr.slice = true → f.rem = 0 → f.hdr.drank ≠ s.rank → drop BLT_PFAULT.MISROUTE) ∧
    (s.sliceOk f.hdr.slice = true → (f.rem = 0 → f.hdr.drank = s.rank) →
      (s.pressUp f.hdr.dpress = false → drop BLT_PFAULT.DEST_AWAY) ∧
      (∀ w d, s.pressUp f.hdr.dpress = true → s.window f.at_ f.hdr.srank f.hdr.stream = some w → serialDiff 16 f.hdr.seq w.base = d →
        (d < 0 ∨ (d < 1024 ∧ w.received.testBit d.toNat = true) → Completes (exec c s) (fun t => t.flight id = none ∧
          t.score.knotQ = (s.queueKnot f.at_ false f.hdr.srank f.hdr.stream f.hdr.seq f.rem).score.knotQ ∧
          Counted BLT_RX_DUP [f.at_] BLT_RX_DUP.COUNT 1 s t ∧ Frame [.regs, .seams, .score] s t)) ∧
        (1024 ≤ d → Completes (exec c s) (fun t => t.flight id = none ∧ t.bit BLT_PFAULT [f.at_] BLT_PFAULT.BEYOND = true ∧
          Frame [.regs, .seams, .score] s t)) ∧
        (0 ≤ d → d < 1024 → w.received.testBit d.toNat = false →
          (w.landing.testBit d.toNat = true → Completes (exec c s) (fun t => t.flight id = none ∧ t.score.knotQ = s.score.knotQ ∧
            Counted BLT_RX_DUP [f.at_] BLT_RX_DUP.COUNT 1 s t ∧ Frame [.regs, .seams, .score] s t)) ∧
          (w.landing.testBit d.toNat = false → (upto : Nat) = 0 → Completes (exec c s) (fun t =>
            t.window f.at_ f.hdr.srank f.hdr.stream = some { w with landing := w.landing ||| 2 ^ d.toNat } ∧
            t.flight id = some { f with accepted := true } ∧ t.score.knotQ = s.score.knotQ ∧ Frame [.regs, .seams, .score] s t))))))

/-- R486, R499, R502 to R505. -/
def Obligations.DarningSteps : Prop :=
  (∀ (stream : BitVec 12) (seq : BitVec 16) (d : Desc) (s : State), s.descOf stream.toNat seq.toNat = some d → d.record = false →
    tget [] s.score.early (streamMangle d.stream) = [] → Completes (exec (.descriptorRecordArrive stream seq) s) (fun t =>
      t.descOf stream.toNat seq.toNat = some { d with record := true } ∧ Frame [.score] s t)) ∧
  (∀ (m : Fin 2) (s : State), s.wf → tok [] s.score.resendQ = true →
    let d := 8 + (m : Nat)
    let due := s.score.desc.filter (fun x => streamMangle x.stream == d && !x.queued && !x.resending &&
      newer 32 s.tempo.barno (bar32 (x.resendBar + s.getF BLT_CFG [d] BLT_CFG.KNOT_BARS)))
    Completes (exec (.knotTimeout m) s) (fun t =>
      tget [] t.score.resendQ d = tget [] s.score.resendQ d ++ due.map (fun x => (x.stream, x.seq)) ∧
      Counted BLT_TIMEOUT_RESENDS [d] BLT_TIMEOUT_RESENDS.COUNT due.length s t ∧
      RegsKept [BLT_TIMEOUT_RESENDS.addr [d], BLT_DARN.addr [8], BLT_DARN.addr [9]] s t ∧ Frame [.regs, .score] s t)) ∧
  (∀ (m : Fin 2) (st sq : Nat) (rest : List (Nat × Nat)) (x : Desc) (s : State), s.wf → tok [] s.score.resendQ = true →
    tget [] s.score.resendQ (8 + (m : Nat)) = (st, sq) :: rest → s.descOf st sq = some x → Completes (exec (.resendStart m) s) (fun t =>
      let d := 8 + (m : Nat)
      tget [] t.score.resendQ d = rest ∧
      t.descOf st sq = some { x with queued := false, resending := true, resends := x.resends + 1, resendBar := s.tempo.barno } ∧
      Counted BLT_RESENDS [d] BLT_RESENDS.COUNT 1 s t ∧
      (x.resends + 1 = s.getF BLT_CFG [d] BLT_CFG.RESEND_WARN → t.bit BLT_MFAULT [d] BLT_MFAULT.RESEND_WARN = true) ∧
      (∃ g : Flight, g.hdr = x.hdr ∧ g.payload = s.readBoard (32 * x.die + x.press) (512 * x.sblk) x.hdr.bytes ∧ g.pcrc = crc32c g.payload ∧
        g.resend = true ∧ g.own = true ∧ g.accepted = false ∧ t.score.flights = s.score.flights ++ [g]) ∧
      Frame [.regs, .score, .arb] s t)) ∧
  (∀ (m : Fin 2) (s : State), tget [] s.score.resendQ (8 + (m : Nat)) = [] → exec (.resendStart m) s = .next s) ∧
  (∀ (l : Fin 12) (beat : BitVec 16) (x : Stored) (s : State), s.wf →
    let m := 8 + (l : Nat) / 6
    s.score.stored.find? (fun x => x.mangle == m && x.exit == some (l : Nat)) = some x → s.discarding l = false → s.fenced l = false → x.chan < 6 →
    (s.tempo.windowFits beat.toNat (x.hdr.lines + 2) = true → s.linkClear l = true → s.linkProfile l = 0 → x.bad = false →
      Completes (exec (.resendDepart l beat true) s) (fun t => t.score.stored = dropFirst (fun y => y == x) s.score.stored ∧
        t.linkTx = s.linkTx ++ (boltFlits { x.hdr with route := routeStep x.hdr.route } x.payload x.pcrc).map (fun y => ((l : Nat), y)) ∧
        Frame [.regs, .score, .books, .linkTx] s t)) ∧
    (s.tempo.windowFits beat.toNat (x.hdr.lines + 2) = true → exec (.resendDepart l beat false) s = .next s) ∧
    (s.tempo.windowFits beat.toNat (x.hdr.lines + 2) = false → s.tempo.e ≤ beat.toNat → ∀ free, Completes (exec (.resendDepart l beat free) s) (fun t =>
      Counted BLT_SPILLS [m] BLT_SPILLS.COUNT 1 s t ∧ RegsKept [BLT_SPILLS.addr [m]] s t ∧ Frame [.regs] s t))) ∧
  (∀ (m : Fin 2) (x : Stored) (s : State),
    let d := 8 + (m : Nat)
    s.score.stored.find? (fun x => x.mangle == d && (match x.exit with | some l => 8 + l / 6 != d | none => true)) = some x →
    Completes (exec (.resendForward m) s) (fun t => t.score.stored = dropFirst (fun y => y == x) s.score.stored ∧
      (∃ g : Flight, g.hdr = x.hdr ∧ g.payload = x.payload ∧ g.pcrc = x.pcrc ∧ g.resend = true ∧ g.exit = x.exit ∧ g.inp = .seam d ∧
        g.at_ = nextDie d (match x.exit with | some l => 8 + l / 6 | none => x.hdr.dpress / 32) ∧ t.score.flights = s.score.flights ++ [g]) ∧
      Frame [.regs, .score, .books] s t))

namespace Sys2Proof.Machine

/-- The tack `t`, which came over a link, is the oldest of its kind on its way to die d (R539). -/
def State.Reaches (s : State) (d : Nat) (t : Tack) : Prop :=
  s.tacks.inPkg.find? (fun x => x.1 == d && x.2.kind == t.kind) = some (d, t) ∧ t.src = none

/-- The bytes of the ACK that answers `t` (R515, R541). -/
def State.ackBytes (s : State) (t : Tack) (status : Nat) : List Byte :=
  withChk (tackHeader (t.pay 0 2) 0 t.idx (t.pay 2 1 % 16) 9 ++ slice t.bytes 8 6 ++ leBytes 1 status ++ leBytes 1 0 ++ leBytes 2 s.rank)

end Sys2Proof.Machine

/-- R279, R496, R497 and R514 to R527. -/
def Obligations.TacksLeaveTheirDie : Prop :=
  (∀ (p : Fin 256) (k : Fin 4) (w : Stalls) (s : State) (i ra tpl : Nat), s.wf → s.Issues p k i (.tksend ra tpl) → s.replaying = false → tok {} s.sects = true →
    tok [] s.tacks.tokens = true →
    let d := (p : Nat) / 32
    let raw := slice (s.conductor d).tpl (32 * tpl) 32
    let ack := leAt raw 8 1 / 2 % 2 == 1
    let pay := (List.range 6).flatMap (fun v => leBytes 4 ((s.sect p k).voice ra v).toNat)
    let free := (List.range (s.budget d)).find? (fun n => (s.tokens d).all (fun t => t.num != n))
    (free = none → Completes (exec (.tksend p k w) s) (fun t => Waits s t p k i .token ∧ t.tacks = s.tacks ∧
      Counted TCK_TOKEN_WAITS [d] TCK_TOKEN_WAITS.COUNT w.own s t ∧ Frame [.regs, .sects] s t)) ∧
    (∀ num, free = some num → ∃ u : State, Waits s u p k i .inject ∧ Frame [.regs, .sects, .tacks] s u ∧
      u.tokens d = s.tokens d ++ [⟨num, (tget 0 s.tacks.uses (64 * d + num) + 1) % 4, ack, false⟩] ∧
      u.getF TCK_BUDGET [d] TCK_BUDGET.OUTSTANDING = ((s.tokens d).length + 1) % 128 ∧
      exec (.tksend p k w) s = .next (u.buildTack d (slice raw 0 8 ++ s.retField d ack num ((tget 0 s.tacks.uses (64 * d + num) + 1) % 4) ++ slice pay 6 1 ++
        leBytes 1 (leAt pay 7 1 - leAt pay 7 1 % 2 + b2n ack) ++ slice pay 8 16) (if ack then none else some num) (some (4 * (p : Nat) + (k : Nat)))))) ∧
  (∀ (m : Fin 2) (s : State), s.wf → s.dieUp (8 + (m : Nat)) = true →
    let d := 8 + (m : Nat)
    let bs := (List.range 4).flatMap (fun i => leBytes 8 (s.reg TCK_CSEND_DATA [d, i]).toNat)
    let kind := hget bs 36 4
    let refused := kind = 1 ∨ kind = 2 ∨ kind = 9 ∨ tackFormOk bs = false ∨ (kind = 5 ∧ s.bit GLB_MODE [] GLB_MODE.METRONOME = true)
    let full := (decide (3 ≤ kind) && decide (kind ≤ 6) && leAt bs 15 1 % 2 == 1) || kind == 7
    let free := (List.range 64).find? (fun n => (s.tokens d).all (fun t => t.num != n))
    (refused → Completes (exec (.csendGo m) s) (fun t => t.bit TCK_CSEND_CTRL [d] TCK_CSEND_CTRL.REFUSED = true ∧ Frame [.regs] s t)) ∧
    (¬refused → free = none → Completes (exec (.csendGo m) s) (fun t => t.bit TCK_CSEND_CTRL [d] TCK_CSEND_CTRL.NO_TOKEN = true ∧ Frame [.regs] s t)) ∧
    (∀ num, ¬refused → free = some num → ∃ (u : State) (ret : List Byte), Frame [.regs, .tacks] s u ∧
      (kind ≠ 8 → ret = s.retField d full num ((tget 0 s.tacks.uses (64 * d + num) + 1) % 4)) ∧ (kind = 8 → ret = slice bs 8 6) ∧
      exec (.csendGo m) s = .next (u.buildTack d (slice bs 0 8 ++ ret ++ slice bs 14 18) (if full then none else some num) none))) ∧
  (∀ (d : Nat) (bs : List Byte) (token : Option Nat) (s : State), s.wf → d < 12 →
    let tk : Tack := ⟨withChk bs, some d, token, none, 8 + hget bs 18 1, none⟩
    let room := s.injCount tk.mangle d < 64 ∧ ∀ x ∈ s.tacks.waiting, ¬(x.mangle = tk.mangle ∧ x.src = some d)
    (room → (s.buildTack d bs token none).tacks = { s.tacks with toMangle := s.tacks.toMangle ++ [tk] }) ∧
    (¬room → (s.buildTack d bs token none).tacks = { s.tacks with waiting := s.tacks.waiting ++ [tk] }) ∧
    (d < 8 → Counted TCK_SENT [d] TCK_SENT.COUNT 1 s (s.buildTack d bs token none)) ∧ Frame [.regs, .tacks] s (s.buildTack d bs token none)) ∧
  (∀ (d : Fin 12) (m : Fin 2) (t : Tack) (s : State), s.tacks.waiting.find? (fun t => t.src == some (d : Nat) && t.mangle == 8 + (m : Nat)) = some t →
    (s.injCount (8 + (m : Nat)) d < 64 → Completes (exec (.tackReleaseToMangle d m) s) (fun u =>
      u.tacks = { s.tacks with waiting := dropFirst (fun x => x == t) s.tacks.waiting, toMangle := s.tacks.toMangle ++ [t] } ∧ Frame [.sects, .tacks] s u)) ∧
    (64 ≤ s.injCount (8 + (m : Nat)) d → exec (.tackReleaseToMangle d m) s = .next s)) ∧
  (∀ (d : Fin 8) (k : Knot) (rest : List Knot) (s : State), tget [] s.score.knotQ d = k :: rest → tok [] s.score.knotQ = true → s.dieUp d = true →
    s.injCount (8 + s.knotIdx k) d < 64 → ∃ u : State, tget [] u.score.knotQ d = rest ∧ Frame [.score] s u ∧
      exec (.knotTackSend d) s = .next (u.buildTack d (tackHeader k.srank 0 (s.knotIdx k) (8 + k.stream / 2 ^ 11 % 2) (if k.snag then 2 else 1) ++
        (leBytes 2 k.stream ++ leBytes 2 k.base ++ leBytes 8 k.mask ++ leBytes 1 k.rem ++ leBytes 1 0 ++ leBytes 2 s.rank ++ leBytes 8 0)) none none)) ∧
  (∀ (m : Fin 2) (t : Tack) (sd : Nat) (s : State), s.wf → tok [] s.tacks.inj = true → s.dieUp (8 + (m : Nat)) = true →
    let d := 8 + (m : Nat)
    let base := hset 40 8 0 (hset 24 12 s.sliceId (hset 17 1 1 t.bytes))
    let e := s.rankEntry d t.dest
    let c := entX e + 32 * entY e + 1024 * entZ e
    s.tacks.toMangle.find? (fun t => t.mangle == d) = some t → t.src = some sd → t.mc = false →
    (s.rankAbsent d t.dest = false → entGen e = 3 → c = s.ownCoords d → Completes (exec (.tackInjectTranslate m) s) (fun u =>
      u.tacks.toMangle = dropFirst (fun x => x == t) s.tacks.toMangle ∧ (∃ a, u.tacks.inPkg = s.tacks.inPkg ++ [(a, { t with bytes := hset 0 16 c base })]) ∧
      Frame [.tacks] s u)) ∧
    (s.rankAbsent d t.dest = false → entGen e = 3 → c ≠ s.ownCoords d → Completes (exec (.tackInjectTranslate m) s) (fun u =>
      u.tacks.toMangle = dropFirst (fun x => x == t) s.tacks.toMangle ∧
      tget [] u.tacks.inj (16 * d + sd) = tget [] s.tacks.inj (16 * d + sd) ++ [{ t with bytes := hset 0 16 c base }] ∧ Frame [.tacks] s u)) ∧
    (s.rankAbsent d t.dest = true → sd < 10 → Completes (exec (.tackInjectTranslate m) s) (fun u =>
      u.bit TCK_MFAULT [d] TCK_MFAULT.SLICE_VIOLATION = true ∧ Counted RNK_MISSES [d] RNK_MISSES.COUNT 1 s u ∧
      (t.ack = true → ∃ x ∈ u.tacks.inPkg, x.2.bytes = s.ackBytes t stSliceViolation) ∧
      (∀ n, t.ack = false → t.token = some n → tok [] s.tacks.tokens = true → ∀ x ∈ u.tokens sd, x.num ≠ n) ∧ Frame [.regs, .tacks, .arb] s u)))

/-- R528 to R538. -/
def Obligations.TacksTravel : Prop :=
  (∀ (m : Fin 2) (free : BitVec 6) (c : Cand) (s : State), s.wf → s.dieUp (8 + (m : Nat)) = true → (∀ sd, c.t.src = some sd → sd < 10) →
    let d := 8 + (m : Nat)
    (s.served d).find? (fun c => s.tackReady d free c.t) = some c → c.t.via = none → c.t.mc = false →
    (s.preferred d c.t.dest = none → Completes (exec (.tackForward m free) s) (fun t =>
      (∃ a, t.tacks.inPkg = s.tacks.inPkg ++ [(a, c.t)]) ∧ Frame [.tacks] s t)) ∧
    (∀ j, s.preferred d c.t.dest = some j → c.t.age + 1 < 255 → Completes (exec (.tackForward m free) s) (fun t =>
      t.linkTx = s.linkTx ++ [(6 * (m : Nat) + j, tackFlit (hset 40 8 (c.t.age + 1) c.t.bytes))] ∧
      Counted TEL_LINK_TACK_TX [6 * (m : Nat) + j] TEL_LINK_TACK_TX.COUNT 1 s t ∧ Frame [.regs, .tacks, .linkTx] s t)) ∧
    (∀ j, s.preferred d c.t.dest = some j → 255 ≤ c.t.age + 1 → Completes (exec (.tackForward m free) s) (fun t =>
      Counted TCK_AGED [d] TCK_AGED.COUNT 1 s t ∧ t.bit TCK_MFAULT [d] TCK_MFAULT.AGED = true ∧ Frame [.regs, .tacks, .arb] s t))) ∧
  (∀ (m : Fin 2) (free : BitVec 6) (s : State), (∀ c ∈ s.served (8 + (m : Nat)), s.tackReady (8 + (m : Nat)) free c.t = false) →
    exec (.tackForward m free) s = .next s) ∧
  (∀ (m : Fin 2) (n waited : Nat) (free : BitVec 6) (s : State), s.wf →
    let d := 8 + (m : Nat)
    (waited < s.getF TCK_MCFG [d] TCK_MCFG.PATIENCE → exec (.tackDeflect m n waited free) s = .next s) ∧
    (∀ c j, s.dieUp d = true → s.getF TCK_MCFG [d] TCK_MCFG.PATIENCE ≤ waited → (s.served d)[n]? = some c → c.t.via = none → c.t.mc = false →
      (∀ sd, c.t.src = some sd → sd < 10) → (s.deflectOrder d c.t.dest).find? (s.tackFree d free) = some j → c.t.age + 1 < 255 →
      Completes (exec (.tackDeflect m n waited free) s) (fun t =>
        t.linkTx = s.linkTx ++ [(6 * (m : Nat) + j, tackFlit (hset 40 8 (c.t.age + 1) c.t.bytes))] ∧
        Counted TCK_DEFLECTS [d] TCK_DEFLECTS.COUNT (if s.preferred d c.t.dest = some j then 0 else 1) s t ∧ Frame [.regs, .tacks, .linkTx] s t))) ∧
  (∀ (l : Fin 12) (tack : List Byte) (s : State), s.wf → s.linkUp l = true → s.linkProfile l = 0 → s.dieUp (8 + (l : Nat) / 6) = true → s.fenced l = false →
    let d := 8 + (l : Nat) / 6
    let bs := slice tack 0 32
    let tk : Tack := ⟨bs, none, none, none, d, none⟩
    let drop (f : Fld) (ps : List Part) : Prop := Completes (exec (.tackLinkArrival l tack) s) (fun t => Counted TCK_DROPS [d] f 1 s t ∧
      Counted TEL_LINK_TACK_RX [(l : Nat)] TEL_LINK_TACK_RX.COUNT 1 s t ∧ Frame ps s t)
    let valid := s.bit TCK_GRID [d] TCK_GRID.VALID = true
    let form := leAt bs 7 1 = tackChk bs ∧ tackFormOk bs = true ∧ ¬(hget bs 17 1 = 0 ∧ hget bs 16 1 = 0)
    (¬valid → drop TCK_DROPS.GRID [.regs]) ∧ (valid → ¬form → drop TCK_DROPS.BAD [.regs]) ∧
    (valid → form → s.sliceOk (hget bs 24 12) = false → drop TCK_DROPS.SLICE [.regs, .arb]) ∧
    (valid → form → s.sliceOk (hget bs 24 12) = true → 1024 ≤ s.tackFill d → drop TCK_DROPS.OVF [.regs, .arb]) ∧
    (valid → form → s.sliceOk (hget bs 24 12) = true → s.tackFill d < 1024 → tok [] s.tacks.transit = true →
      Completes (exec (.tackLinkArrival l tack) s) (fun t =>
        (if tk.mc = false ∧ tk.dest = s.ownCoords d then ∃ a, t.tacks = { s.tacks with inPkg := s.tacks.inPkg ++ [(a, tk)] }
          else tget [] t.tacks.transit d = tget [] s.tacks.transit d ++ [tk]) ∧
        Counted TEL_LINK_TACK_RX [(l : Nat)] TEL_LINK_TACK_RX.COUNT 1 s t ∧ Frame [.regs, .tacks] s t))) ∧
  (∀ (m : Fin 2) (v : Word) (s : State), s.wf → s.regGone TCK_GRID [8 + (m : Nat)] = false →
    ((s.tempo.armed = true ∨ s.tempo.running = true) → exec (.tckGridWrite m v) s = .next s) ∧
    (s.tempo.armed = false → s.tempo.running = false → Completes (exec (.tckGridWrite m v) s) (fun t =>
      (∀ f ∈ [TCK_GRID.X, TCK_GRID.Y, TCK_GRID.Z, TCK_GRID.SX, TCK_GRID.SY, TCK_GRID.SZ, TCK_GRID.VALID], t.getF TCK_GRID [8 + (m : Nat)] f = fget v f) ∧
      RegsKept [TCK_GRID.addr [8 + (m : Nat)]] s t ∧ Frame [.regs] s t))) ∧
  (∀ (s : State) (c : Cmd), s.Accepts c 0x0403 →
    let g := c.par 0 1
    let fl := c.par 1 1
    let ent (i : Nat) : Nat := leAt c.inl (4 * i) 4
    let bad := 16 ≤ g ∨ 8 ≤ fl ∨ fl < 2 ∨ c.parZero 2 14 = false ∨ ∃ i : Fin 32, 2 ^ 19 ≤ ent i
    (c.inlineLen ≠ 128 → exec (.mcastGroupWrite c) s = .next (s.complete c stBadLength [])) ∧
    (c.inlineLen = 128 → bad → exec (.mcastGroupWrite c) s = .next (s.complete c stBadParam [])) ∧
    (c.inlineLen = 128 → ¬bad → (s.tempo.armed = true ∨ s.tempo.running = true) → exec (.mcastGroupWrite c) s = .next (s.complete c stBusy [])) ∧
    (c.inlineLen = 128 → ¬bad → s.tempo.armed = false → s.tempo.running = false → tok 0 s.tacks.groups = true → ∃ u : State,
      (∀ (m : Fin 2) (i : Fin 32), fl.testBit (1 + (m : Nat)) = true → u.member (8 + (m : Nat)) g (32 * (fl % 2) + (i : Nat)) = ent i) ∧
      (∀ m h i, (¬(m = 8 ∧ fl.testBit 1 = true) ∧ ¬(m = 9 ∧ fl.testBit 2 = true)) → h < 16 → i < 64 → u.member m h i = s.member m h i) ∧
      Frame [.tacks] s u ∧ exec (.mcastGroupWrite c) s = .next (u.complete c stOk [])))

/-- R539 to R544 and R516. -/
def Obligations.TacksArrive : Prop :=
  (∀ (d : Nat) (tk : Tack) (st : Nat) (s : State), (tk.ack = false → s.sendAck d tk st = s) ∧
    (tk.ack = true → ∃ x ∈ (s.sendAck d tk st).tacks.toMangle ++ (s.sendAck d tk st).tacks.waiting, x.bytes = s.ackBytes tk st ∧ x.src = some d)) ∧
  (∀ (d : Fin 12) (tk : Tack) (s : State), s.wf → s.Reaches d tk → tk.kind = 3 → tk.dunit = (d : Nat) → (d : Nat) < 8 → tk.pay 8 2 ≠ 0 → s.dieUp d = true →
    s.capturing = false → tok 0 s.score.tallies = true → ∃ u : State,
      tget 0 u.score.tallies (256 * (d : Nat) + tk.pay 6 1) = min 65535 (tget 0 s.score.tallies (256 * (d : Nat) + tk.pay 6 1) + tk.pay 8 2) ∧
      Counted TCK_NOTICES [(d : Nat)] TCK_NOTICES.COUNT 1 s u ∧ u.tacks.inPkg = dropFirst (fun y => y == ((d : Nat), tk)) s.tacks.inPkg ∧
      Frame [.regs, .tacks, .score, .books] s u ∧ exec (.noticeDeliver d) s = .next (u.sendAck d tk stOk)) ∧
  (∀ (d : Fin 12) (tk : Tack) (s : State), s.wf → s.Reaches d tk → tk.kind = 4 → s.tackWaits d 4 = false → tk.storeOk = true →
    s.offsetDie tk.offset (tk.pay 6 1) = some (d : Nat) → tk.offset < boardBase → s.dieUp d = true → s.dieAway d = none → ∃ u : State,
      u.readMem tk.offset (tk.pay 6 1) = slice tk.bytes 24 (tk.pay 6 1) ∧
      (∀ a, a < tk.offset ∨ tk.offset + tk.pay 6 1 ≤ a → u.mbyte a = s.mbyte a) ∧ Frame [.tacks, .mem] s u ∧
      exec (.writeDeliver d) s = .next (u.sendAck d tk stOk)) ∧
  (∀ (d : Fin 12) (tk : Tack) (ecc : Ecc) (s : State), s.wf → s.Reaches d tk → tk.kind = 5 → s.tackWaits d 5 = false →
    (tk.storeOk = false → ∃ u : State, Frame [.tacks] s u ∧ exec (.addDeliver d ecc) s = .next (u.sendAck d tk stBadParam)) ∧
    (tk.storeOk = true → s.offsetDie tk.offset 8 = some (d : Nat) → tk.offset < boardBase → s.dieAway d = none →
      ((∀ n, ecc ≠ .bad n) → ∃ u : State, u.readMem tk.offset 8 = slice (s.adder (tk.pay 6 1) (s.readMem tk.offset 8) (slice tk.bytes 24 8)) 0 8 ∧
        (∀ a, a < tk.offset ∨ tk.offset + 8 ≤ a → u.mbyte a = s.mbyte a) ∧ exec (.addDeliver d ecc) s = .next (u.sendAck d tk stOk)) ∧
      (∀ n, ecc = .bad n → (tk.mangle = 8 ∨ tk.mangle = 9) → ∃ u : State, u.mem = s.mem ∧ u.bit TCK_MFAULT [tk.mangle] TCK_MFAULT.TARGET_FAIL = true ∧
        exec (.addDeliver d ecc) s = .next (u.sendAck d tk stIntegrity)))) ∧
  (∀ (d : Fin 12) (tk : Tack) (s : State), s.wf → s.Reaches d tk → tk.dunit = (d : Nat) → ((d : Nat) = 8 ∨ (d : Nat) = 9) → s.dieAway d = none →
    (tk.mangle = 8 ∨ tk.mangle = 9) → tok [] s.tacks.inbox = true →
    let box := tget [] s.tacks.inbox d
    let stored (t : State) : Prop := tget [] t.tacks.inbox d = box ++ [tk.bytes] ∧ t.getF TCK_INBOX_CTRL [(d : Nat)] TCK_INBOX_CTRL.COUNT = box.length + 1 ∧
      Frame [.regs, .tacks] s t
    let full (t : State) : Prop := Counted TCK_DROPS [(d : Nat)] TCK_DROPS.INBOX 1 s t ∧ tget [] t.tacks.inbox d = box ∧ Frame [.regs, .tacks] s t
    (tk.kind = 6 → box.length < 256 → ∃ u : State, stored u ∧ exec (.doorbellDeliver d) s = .next (u.sendAck d tk stOk)) ∧
    (tk.kind = 6 → 256 ≤ box.length → Completes (exec (.doorbellDeliver d) s) full) ∧
    (tk.kind = 7 → box.length < 256 → Completes (exec (.peerReqDeliver d) s) stored) ∧
    (tk.kind = 7 → 256 ≤ box.length → Completes (exec (.peerReqDeliver d) s) full) ∧
    (tk.kind = 8 → box.length < 256 → Completes (exec (.peerRspDeliver d) s) (fun t => stored t ∧
      ∀ x ∈ s.tokens d, x.peer = true → x.num = tk.pay 3 1 % 64 → x.use = tk.pay 3 1 / 64 → tk.pay 6 1 % 16 = tk.pay 6 1 / 16 →
        tk.pay 2 1 % 16 = (d : Nat) → tk.pay 4 2 = s.dieWash d → tok [] s.tacks.tokens = true → ∀ y ∈ t.tokens d, y.num ≠ x.num)) ∧
    (tk.kind = 8 → 256 ≤ box.length → Completes (exec (.peerRspDeliver d) s) full)) ∧
  (∀ (d : Fin 12) (tk : Tack) (s : State), s.wf → s.Reaches d tk → tk.kind = 9 → (d : Nat) < 8 → s.dieUp d = true → tok [] s.tacks.tokens = true →
    let tag := tk.pay 3 1
    let mine := ∃ k ∈ s.tokens d, k.num = tag % 64 ∧ k.use = tag / 64
    (tk.pay 4 2 ≠ s.dieWash d → Completes (exec (.ackReceive d) s) (fun t => t.bit TCK_PFAULT [(d : Nat)] TCK_PFAULT.STALE_WASH = true ∧
      t.tokens d = s.tokens d ∧ Frame [.regs, .tacks] s t)) ∧
    (tk.pay 4 2 = s.dieWash d → ¬mine → Completes (exec (.ackReceive d) s) (fun t => t.bit TCK_PFAULT [(d : Nat)] TCK_PFAULT.ACK_LATE = true ∧
      t.tokens d = s.tokens d ∧ Frame [.regs, .tacks] s t)) ∧
    (tk.pay 4 2 = s.dieWash d → mine → Completes (exec (.ackReceive d) s) (fun t =>
      t.tokens d = (s.tokens d).filter (fun k => k.num != tag % 64) ∧
      (tk.pay 6 1 ≠ 0 → t.bit TCK_PFAULT [(d : Nat)] TCK_PFAULT.NACK = true ∧ (s.bit TCK_PFAULT [(d : Nat)] TCK_PFAULT.NACK = false →
        t.getF TCK_PFAULT [(d : Nat)] TCK_PFAULT.STATUS = tk.pay 6 1)) ∧
      (tk.pay 6 1 = 0 → t.reg TCK_PFAULT [(d : Nat)] = s.reg TCK_PFAULT [(d : Nat)]) ∧ Frame [.regs, .tacks, .arb] s t))) ∧
  (∀ (d : Fin 10) (num : Fin 64) (s : State), s.wf → tok [] s.tacks.tokens = true →
    ((∃ k ∈ s.tokens d, k.num = (num : Nat) ∧ (k.ack = true ∨ k.peer = true)) → Completes (exec (.ackTimeout d num) s) (fun t =>
      t.tokens d = (s.tokens d).filter (fun k => k.num != (num : Nat)) ∧
      ((d : Nat) < 8 → Counted TCK_TIMEOUTS [(d : Nat)] TCK_TIMEOUTS.COUNT 1 s t ∧ t.bit TCK_PFAULT [(d : Nat)] TCK_PFAULT.TIMEOUT = true) ∧
      Frame [.regs, .tacks, .arb] s t)) ∧
    ((∀ k ∈ s.tokens d, k.num ≠ (num : Nat)) → exec (.ackTimeout d num) s = .next s)) ∧
  (∀ (m : Fin 2) (x : List Byte) (rest : List (List Byte)) (s : State), s.wf → tok [] s.tacks.inbox = true →
    let d := 8 + (m : Nat)
    tget [] s.tacks.inbox d = x :: rest → rest.length < 256 → Completes (exec (.inboxPop m) s) (fun t => tget [] t.tacks.inbox d = rest ∧
      t.getF TCK_INBOX_CTRL [d] TCK_INBOX_CTRL.COUNT = rest.length ∧ RegsKept [TCK_INBOX_CTRL.addr [d]] s t ∧ Frame [.regs, .tacks] s t))

/-- R491, R494, R500 and R501. -/
def Obligations.BoltsEnd : Prop :=
  (∀ (id a q : Nat) (obs : SkidObs) (f : Flight) (w : Window) (i : Nat) (s : State), s.wf → s.flight id = some f → f.accepted = true → f.at_ < 8 → f.inp = .seam a →
    portTo f.at_ a = some q → obs.occ ≤ 256 → f.cut = false → f.bad = false → f.resend = false → f.entry = none → f.lines ≤ f.hdr.lines → f.hdr.lines < 128 →
    f.payload.length = f.hdr.bytes → f.hdr.dpress < 256 → s.heldRange f.hdr.dpress (512 * f.hdr.dblk + 64 * f.lines) (64 * (f.hdr.lines + 1 - f.lines)) = false →
    s.window f.at_ f.hdr.srank f.hdr.stream = some w → serialDiff 16 f.hdr.seq w.base = (i : Int) → i < 1024 → w.landing.testBit i = true →
    let w' : Window := { w with landing := w.landing - 2 ^ i }
    (crc32c f.payload = f.pcrc → tok 0 s.score.tallies = true → Completes (exec (.boltTailArrive id obs) s) (fun t => t.flight id = none ∧
      t.window f.at_ f.hdr.srank f.hdr.stream = some (Window.slide 1024 { w' with received := w.received ||| 2 ^ i }) ∧
      tget 0 t.score.tallies (256 * f.at_ + f.hdr.tally) = min 65535 (tget 0 s.score.tallies (256 * f.at_ + f.hdr.tally) + 1) ∧
      t.score.knotQ = (s.queueKnot f.at_ false f.hdr.srank f.hdr.stream f.hdr.seq f.rem).score.knotQ ∧
      Counted BLT_RX_GOOD [f.at_] BLT_RX_GOOD.COUNT 1 s t)) ∧
    (crc32c f.payload ≠ f.pcrc → Completes (exec (.boltTailArrive id obs) s) (fun t => t.flight id = none ∧
      t.window f.at_ f.hdr.srank f.hdr.stream = some w' ∧ t.score.tallies = s.score.tallies ∧
      t.score.knotQ = (s.queueKnot f.at_ true f.hdr.srank f.hdr.stream f.hdr.seq f.rem).score.knotQ ∧
      Counted BLT_RX_BAD [f.at_] BLT_RX_BAD.COUNT 1 s t))) ∧
  (∀ (id : Nat) (obs : SkidObs) (f : Flight) (s : State), s.flight id = some f → f.accepted = false → exec (.boltTailArrive id obs) s = .next s) ∧
  (∀ (m : Fin 2) (tk : Tack) (d : Desc) (s : State), s.wf → s.Reaches (8 + (m : Nat)) tk → s.dieUp (8 + (m : Nat)) = true → tk.dunit = 8 + (m : Nat) →
    tk.knot.mask = 1 → s.descOf tk.knot.stream (tk.knot.base % 2 ^ 16) = some d → d.record = true → streamMangle d.stream = 8 + (m : Nat) →
    (tk.kind = 1 → (d.mask ||| 2 ^ tk.knot.rem) % 2 ^ d.n ≠ 2 ^ d.n - 1 → Completes (exec (.knotApply m) s) (fun t =>
      t.descOf d.stream d.seq = some { d with mask := d.mask ||| 2 ^ tk.knot.rem } ∧ Frame [.regs, .score, .tacks] s t)) ∧
    (tk.kind = 1 → (d.mask ||| 2 ^ tk.knot.rem) % 2 ^ d.n = 2 ^ d.n - 1 → d.die < 8 → d.press < 32 → Completes (exec (.knotApply m) s) (fun t =>
      t.score.desc = s.score.desc.filter (fun x => x != d) ∧
      t.getF BLT_QUOTA [d.die] (quotaFld d.stream) = (s.getF BLT_QUOTA [d.die] (quotaFld d.stream) + 1) % 2 ^ 11 ∧
      Counted BLT_KNOTS [8 + (m : Nat)] BLT_KNOTS.COUNT 1 s t)) ∧
    (tk.kind = 2 → d.queued = false → d.resending = false → tok [] s.score.resendQ = true → Completes (exec (.snagApply m) s) (fun t =>
      tget [] t.score.resendQ (8 + (m : Nat)) = tget [] s.score.resendQ (8 + (m : Nat)) ++ [(d.stream, d.seq)] ∧
      t.descOf d.stream d.seq = some { d with queued := true } ∧ Counted BLT_SNAGS [8 + (m : Nat)] BLT_SNAGS.COUNT 1 s t ∧
      Frame [.regs, .score, .tacks] s t)) ∧
    (tk.kind = 2 → (d.queued = true ∨ d.resending = true) → Completes (exec (.snagApply m) s) (fun t => t.score = s.score ∧ Frame [.regs, .tacks] s t))) ∧
  (∀ (m : Fin 2) (tk : Tack) (s : State), s.wf → s.Reaches (8 + (m : Nat)) tk → s.dieUp (8 + (m : Nat)) = true → tk.dunit = 8 + (m : Nat) →
    tk.knot.mask = 1 → s.descOf tk.knot.stream (tk.knot.base % 2 ^ 16) = none →
    (tk.kind = 1 → Completes (exec (.knotApply m) s) (fun t => Counted BLT_KNOT_STALE [8 + (m : Nat)] BLT_KNOT_STALE.COUNT 1 s t ∧ Frame [.regs, .tacks] s t)) ∧
    (tk.kind = 2 → Completes (exec (.snagApply m) s) (fun t => Counted BLT_KNOT_STALE [8 + (m : Nat)] BLT_KNOT_STALE.COUNT 1 s t ∧ Frame [.regs, .tacks] s t)))

/-- R546, R548, R557, R558 and R560 to R568. -/
def Obligations.RanksAndSlices : Prop :=
  (∀ (s : State) (c : Cmd), s.Accepts c 0x0401 →
    let first := c.par 0 2
    let n := c.par 2 1
    let fl := c.par 3 1
    let named (m : Nat) : Prop := (m = 8 ∧ fl.testBit 0 = true) ∨ (m = 9 ∧ fl.testBit 1 = true)
    let ent (i : Nat) : Nat := if fl.testBit 2 then 0 else leAt c.inl (8 * i) 8
    let bad := 8 ≤ fl ∨ c.parZero 4 12 = false ∨ fl % 4 = 0 ∨ n = 0 ∨ 28 < n ∨ 16384 < first + n
    let badLen := c.inlineLen ≠ (if fl.testBit 2 then 0 else 8 * n)
    let folded := ∃ m, named m ∧ s.dieFolded m = true
    let reset := ∃ m, named m ∧ s.dieInReset m = true
    let busy := s.tempo.armed = true ∨ s.tempo.running = true ∨ ∃ m, named m ∧ s.getF BLT_DARN [m] BLT_DARN.HELD ≠ 0
    let gridless := ∃ m, named m ∧ s.bit TCK_GRID [m] TCK_GRID.VALID = false
    let badEnt := ∃ m i, named m ∧ i < n ∧ s.rankEntryOk m (ent i) = false
    let ends (st : Nat) : Prop := exec (.rankTableWrite c) s = .next (s.complete c st [])
    (bad → ends stBadParam) ∧ (¬bad → badLen → ends stBadLength) ∧ (¬bad → ¬badLen → folded → ends stUnitFolded) ∧
    (¬bad → ¬badLen → ¬folded → reset → ends stUnitInReset) ∧ (¬bad → ¬badLen → ¬folded → ¬reset → s.sliceValid = false → ends stSliceViolation) ∧
    (¬bad → ¬badLen → ¬folded → ¬reset → s.sliceValid = true → busy → ends stBusy) ∧
    (¬bad → ¬badLen → ¬folded → ¬reset → s.sliceValid = true → ¬busy → (gridless ∨ badEnt) → ends stBadParam) ∧
    (¬bad → ¬badLen → ¬folded → ¬reset → s.sliceValid = true → ¬busy → ¬gridless → ¬badEnt → s.wf → ∃ u : State,
      (∀ m i, named m → i < n → u.rankEntry m (first + i) = if (ent i) % 2 = 1 then ent i else 0) ∧
      (∀ (m : Fin 2) (r : Nat), ¬named (8 + (m : Nat)) ∨ r < first ∨ first + n ≤ r → u.rankEntry (8 + (m : Nat)) r = s.rankEntry (8 + (m : Nat)) r) ∧ Frame [.regs] s u ∧
      exec (.rankTableWrite c) s = .next (u.complete c stOk (leBytes 2 (u.getF RNK_COUNT [8] RNK_COUNT.VALID_ENTRIES) ++
        leBytes 2 (u.getF RNK_COUNT [9] RNK_COUNT.VALID_ENTRIES))))) ∧
  (∀ (s : State) (c : Cmd), s.Accepts c 0x0402 →
    let sl := c.par 0 2
    let fl := c.par 2 1
    let bad := 0x1000 ≤ sl ∨ 2 ≤ fl ∨ c.parZero 3 13 = false ∨ (fl = 0 ∧ sl = 0) ∨ (fl = 1 ∧ sl ≠ 0)
    let folded := s.dieFolded 8 = true ∨ s.dieFolded 9 = true
    let reset := s.dieInReset 8 = true ∨ s.dieInReset 9 = true
    let busy := (∃ d ∈ s.condDies, s.bit SCR_STATUS [d] SCR_STATUS.INSTALLED = true) ∨ s.tempo.armed = true ∨ s.tempo.running = true ∨
      s.getF BLT_DARN [8] BLT_DARN.HELD ≠ 0 ∨ s.getF BLT_DARN [9] BLT_DARN.HELD ≠ 0
    let ends (st : Nat) : Prop := exec (.sliceSet c) s = .next (s.complete c st [])
    (bad → ends stBadParam) ∧ (¬bad → folded → ends stUnitFolded) ∧ (¬bad → ¬folded → reset → ends stUnitInReset) ∧
    (¬bad → ¬folded → ¬reset → busy → ends stBusy) ∧
    (¬bad → ¬folded → ¬reset → ¬busy → s.wf → tok 0 s.tacks.groups = true → ∃ u : State, u.sliceId = sl ∧ u.sliceValid = (fl == 0) ∧
      (∀ (m : Fin 2) (r : Nat), u.rankEntry (8 + (m : Nat)) r = 0 ∧ u.getF RNK_COUNT [8 + (m : Nat)] RNK_COUNT.VALID_ENTRIES = 0 ∧
        u.getF RNK_FENCE [8 + (m : Nat)] RNK_FENCE.SW = 0xFFF ∧ u.getF RNK_SLICE [8 + (m : Nat)] RNK_SLICE.SLICE = sl) ∧
      (∀ m g i, (u.member m g i).testBit 15 = false ∧ (u.member m g i) % 2 ^ 15 = (s.member m g i) % 2 ^ 15) ∧ Frame [.regs, .tacks] s u ∧
      exec (.sliceSet c) s = .next (u.complete c stOk []))) ∧
  (∀ (m : Fin 2) (v : BitVec 32) (s : State), s.wf →
    let d := 8 + (m : Nat)
    let busy := s.tempo.armed = true ∨ s.tempo.running = true
    let ignored (t : State) : Prop := t.bit RNK_EVENT [d] RNK_EVENT.CFG_IGNORED = true ∧ RegsKept [RNK_EVENT.addr [d]] s t ∧ Frame [.regs] s t
    (s.regGone RNK_CHIP [d] = false → busy → Completes (exec (.rnkChipWrite m v) s) ignored) ∧
    (s.regGone RNK_FENCE [d] = false → busy → Completes (exec (.fenceWrite m v) s) ignored) ∧
    (s.regGone RNK_CHIP [d] = false → ¬busy → Completes (exec (.rnkChipWrite m v) s) (fun t =>
      (∀ e : Fin 2, t.getF RNK_CHIP [8 + (e : Nat)] RNK_CHIP.CHIP = v.toNat % 2 ^ 16) ∧ RegsKept [RNK_CHIP.addr [8], RNK_CHIP.addr [9]] s t ∧ Frame [.regs] s t)) ∧
    (s.regGone RNK_FENCE [d] = false → ¬busy → Completes (exec (.fenceWrite m v) s) (fun t =>
      (∀ e : Fin 2, t.getF RNK_FENCE [8 + (e : Nat)] RNK_FENCE.SW = v.toNat % 2 ^ 12 ∧
        t.getF RNK_FENCE [8 + (e : Nat)] RNK_FENCE.IMG = s.getF RNK_FENCE [8 + (e : Nat)] RNK_FENCE.IMG) ∧
      RegsKept [RNK_FENCE.addr [8], RNK_FENCE.addr [9]] s t ∧ Frame [.regs] s t)))

/-- R585, R590, R591, R594 to R605 and R612. -/
def Obligations.LegacyBridges : Prop :=
  (∀ (l : Fin 12) (h : BoltHdr) (pay : List Byte) (pcrc : Nat) (rest : List (BoltHdr × List Byte × Nat × Bool)) (s : State), s.wf → tok {} s.legacy = true →
    (tget {} s.legacy l).store = (h, pay, pcrc, false) :: rest →
    (s.linkProfile l = 1 → s.linkClear l = true → Completes (exec (.legacyStoreSend l) s) (fun t =>
      t.linkTx = s.linkTx ++ (boltFlits h pay pcrc).map (fun f => ((l : Nat), f)) ∧ tget {} t.legacy l = { tget {} s.legacy l with store := rest } ∧
      Counted LNK_LGC_TX (lnk l) LNK_LGC_TX.COUNT 1 s t ∧ RegsKept [LNK_LGC_TX.addr (lnk l), LNK_LGC_CRED.addr (lnk l)] s t ∧
      Frame [.regs, .linkTx, .legacy] s t)) ∧
    (s.linkClear l = false → exec (.legacyStoreSend l) s = .next s)) ∧
  (∀ (l : Fin 12) (x : Legacy) (s : State), s.wf → tok {} s.legacy = true → tget {} s.legacy l = x → s.linkProfile l = 2 → s.linkUp l = true → s.fenced l = false →
    (x.peerCredits = 0 → exec (.g1PacketSend l) s = .next s) ∧
    (∀ h pay pcrc bad rest, 0 < x.peerCredits → x.txq = [] → s.bridgeTack l = none → x.store = (h, pay, pcrc, bad) :: rest →
      Completes (exec (.g1PacketSend l) s) (fun t => t.linkTx = s.linkTx ++ [((l : Nat), s.segPacket l x.sent h pay (min 64 x.owed))] ∧
        (let y : Legacy := { x with peerCredits := x.peerCredits - 1, owed := x.owed - min 64 x.owed }
        tget {} t.legacy l = if x.sent + 1 = segPackets pay.length then { y with store := rest, sent := 0 } else { y with sent := x.sent + 1 }) ∧
        Counted LNK_LGC_TX (lnk l) LNK_LGC_TX.COUNT 1 s t ∧ Frame [.regs, .linkTx, .legacy] s t)) ∧
    (∀ c, 0 < x.peerCredits → x.txq = [] → s.bridgeTack l = some c → c.t.token = none → Completes (exec (.g1PacketSend l) s) (fun t =>
      t.linkTx = s.linkTx ++ [((l : Nat), s.msgPacket l c.t.kind c.t.dunit c.t.dest (slice c.t.bytes 8 24) (min 64 x.owed))] ∧
      tget {} t.legacy l = { x with peerCredits := x.peerCredits - 1, owed := x.owed - min 64 x.owed } ∧ Frame [.regs, .tacks, .linkTx, .legacy] s t)) ∧
    (0 < x.owed → Completes (exec (.g1CreditTimer l) s) (fun t =>
      t.linkTx = s.linkTx ++ [((l : Nat), g1Packet 0x03 0 (min 64 x.owed) 0 0 (s.selfId l) 0 0 [])] ∧
      tget {} t.legacy l = { x with owed := x.owed - min 64 x.owed } ∧ Frame [.regs, .linkTx, .legacy] s t)) ∧
    (x.owed = 0 → exec (.g1CreditTimer l) s = .next s)) ∧
  (∀ (l : Fin 12) (p : List Byte) (x : Legacy) (s : State), s.wf → tok {} s.legacy = true → tget {} s.legacy l = x → s.linkProfile l = 2 → s.linkUp l = true →
    (64 ≤ x.used → exec (.g1SegReceive l p) s = .next (s.credOvf l) ∧ exec (.g1MsgReceive l p) s = .next (s.credOvf l) ∧
      (s.credOvf l).linkState l = 2 ∧ (s.credOvf l).bit LNK_LGC_EVENT (lnk l) LNK_LGC_EVENT.CRED_OVF = true) ∧
    (x.used < 64 → g1Ok p = false →
      Completes (exec (.g1SegReceive l p) s) (fun t => tget {} t.legacy l = { x with owed := x.owed + 1, segBad := x.segBad || !x.segs.isEmpty } ∧
        RegsKept [LNK_LGC_CRED.addr (lnk l)] s t ∧ Frame [.regs, .legacy] s t) ∧
      Completes (exec (.g1MsgReceive l p) s) (fun t => tget {} t.legacy l = { x with owed := x.owed + 1 } ∧ Frame [.regs, .legacy] s t)) ∧
    (x.used < 64 → g1Ok p = true → x.peerCredits + leAt p 2 1 ≤ 255 →
      let y : Legacy := { x with used := x.used + 1, peerCredits := x.peerCredits + leAt p 2 1 }
      let fl := leAt p 1 1
      (fl = 1 → x.segs = [] → Completes (exec (.g1SegReceive l p) s) (fun t => tget {} t.legacy l = { y with segs := [p] } ∧
        Counted LNK_LGC_RX (lnk l) LNK_LGC_RX.COUNT 1 s t ∧ Frame [.regs, .legacy] s t)) ∧
      (fl = 0 → x.segs ≠ [] → Completes (exec (.g1SegReceive l p) s) (fun t => tget {} t.legacy l = { y with segs := x.segs ++ [p] } ∧
        Counted LNK_LGC_RX (lnk l) LNK_LGC_RX.COUNT 1 s t ∧ Frame [.regs, .legacy] s t)) ∧
      (fl % 2 = 0 → x.segs = [] → Completes (exec (.g1SegReceive l p) s) (fun t =>
        tget {} t.legacy l = { y with used := x.used, owed := x.owed + 1 } ∧ t.bit LNK_LGC_EVENT (lnk l) LNK_LGC_EVENT.SEG_LOST = true ∧
        Frame [.regs, .legacy, .arb] s t)) ∧
      (let kind := leAt p 8 1 % 16
      let pay := slice p 12 24
      let dunit := if kind = 1 ∨ kind = 2 then 8 + leAt pay 0 2 / 2 ^ 11 % 2 else leAt p 8 1 / 16
      let ok := 1 ≤ kind ∧ kind ≤ 9 ∧ leAt p 3 1 = 23 ∧ dunit < 12 ∧ s.hasDie dunit = true
      let m := 8 + (l : Nat) / 6
      (¬ok → Completes (exec (.g1MsgReceive l p) s) (fun t => t.bit LNK_LGC_EVENT (lnk l) LNK_LGC_EVENT.UNTRANSLATABLE = true ∧
        tget {} t.legacy l = { y with used := x.used, owed := x.owed + 1 } ∧ Frame [.regs, .legacy, .arb] s t)) ∧
      (ok → s.fenced l = false → s.bit TCK_GRID [m] TCK_GRID.VALID = true → s.sliceValid = true → Completes (exec (.g1MsgReceive l p) s) (fun t =>
        (∃ a, t.tacks.inPkg = s.tacks.inPkg ++ [(a, ⟨s.legacyTack (withChk (tackHeader 0 0 (m - 8) dunit kind ++ pay)), none, none, none, m, none⟩)]) ∧
        tget {} t.legacy l = { y with used := x.used, owed := x.owed + 1 } ∧ Frame [.regs, .legacy, .tacks] s t)))) ∧
    (g1Ok p = true → x.peerCredits + leAt p 2 1 ≤ 255 → Completes (exec (.g1CreditReceive l p) s) (fun t =>
      tget {} t.legacy l = { x with peerCredits := x.peerCredits + leAt p 2 1 } ∧ Counted LNK_LGC_RX (lnk l) LNK_LGC_RX.COUNT 1 s t ∧
      Frame [.regs, .legacy] s t))) ∧
  (∀ (l : Fin 12) (p : List Byte) (x : Legacy) (s : State), s.wf → tok {} s.legacy = true → tget {} s.legacy l = x → s.linkProfile l = 2 → g1Ok p = true →
    (3 ≤ s.linkState l → s.linkState l ≤ 5 → x.initTx = false → Completes (exec (.g1InitReceive l p) s) (fun t =>
      tget {} t.legacy l = { x with peerCredits := leAt p 2 1, initRx := true } ∧ t.getF LNK_PEER (lnk l) LNK_PEER.CHIP = leAt p 6 2 % 4096 ∧
      t.linkState l = s.linkState l ∧ Frame [.regs, .legacy] s t)) ∧
    (s.linkState l = 5 → x.initTx = true → ∃ u : State, u.linkState l = 6 ∧ u.bit LNK_EVENT (lnk l) LNK_EVENT.UP = true ∧
      u.getF LNK_PEER (lnk l) LNK_PEER.CHIP = leAt p 6 2 % 4096 ∧ u.bit LNK_PEER (lnk l) LNK_PEER.VALID = true ∧
      u.getF LNK_STATUS (lnk l) LNK_STATUS.CLASS = 2 ∧ tget {} u.legacy l = { x with peerCredits := leAt p 2 1, initRx := true } ∧
      Frame [.regs, .legacy, .pwr] s u ∧ exec (.g1InitReceive l p) s = .next (u.linkSources.retrainDone l stOk))) ∧
  (∀ (l : Fin 12) (v : BitVec 32) (s : State), s.wf → s.regGone LNK_LGC_ID (lnk l) = false →
    let busy := s.tempo.armed = true ∨ s.tempo.running = true
    let bad := v.getLsbD 31 = true ∧ (16384 ≤ v.toNat % 65536 ∨ (s.linkProfile l = 2 ∧ v.toNat / 2 ^ 28 % 4 ≠ 0))
    (s.linkProfile l = 0 → exec (.lnkLgcIdWrite l v) s = .next s) ∧
    (s.linkProfile l ≠ 0 → (busy ∨ bad) → Completes (exec (.lnkLgcIdWrite l v) s) (fun t =>
      t.bit LNK_LGC_EVENT (lnk l) LNK_LGC_EVENT.CFG_IGNORED = true ∧ RegsKept [LNK_LGC_EVENT.addr (lnk l)] s t ∧ Frame [.regs] s t)) ∧
    (s.linkProfile l ≠ 0 → ¬busy → ¬bad → Completes (exec (.lnkLgcIdWrite l v) s) (fun t =>
      t.getF LNK_LGC_ID (lnk l) LNK_LGC_ID.PEER_RANK = v.toNat % 65536 ∧ t.getF LNK_LGC_ID (lnk l) LNK_LGC_ID.SELF_ID = v.toNat / 65536 % 2 ^ 14 ∧
      t.bit LNK_LGC_ID (lnk l) LNK_LGC_ID.VALID = v.getLsbD 31 ∧ RegsKept [LNK_LGC_ID.addr (lnk l)] s t ∧ Frame [.regs] s t)))

/-- R620 and R624 to R628. -/
def Obligations.InterruptSources : Prop :=
  (∀ (n : Fin 1024) (s : State), s.wf → s.dieInReset 10 = false → (n : Nat) ≠ 0 → (n : Nat) ≠ 1 → s.hasSource n = true →
    let g (f : Fld) : Nat := s.getF ICU_SRC [(n : Nat)] f
    (g ICU_SRC.PRIO = 0 → exec (.icuSetpend n) s = .next s) ∧
    (g ICU_SRC.PRIO ≠ 0 → Completes (exec (.icuSetpend n) s) (fun t =>
      let h (f : Fld) : Nat := t.getF ICU_SRC [(n : Nat)] f
      (g ICU_SRC.PENDING = 0 ∧ g ICU_SRC.ACTIVE = 0 → h ICU_SRC.PENDING = 1 ∧ h ICU_SRC.EVCOUNT = 1 ∧ h ICU_SRC.SAT = g ICU_SRC.SAT) ∧
      (g ICU_SRC.PENDING ≠ 0 ∨ g ICU_SRC.ACTIVE ≠ 0 → h ICU_SRC.PENDING = g ICU_SRC.PENDING ∧ h ICU_SRC.EVCOUNT = min 255 (g ICU_SRC.EVCOUNT + 1) ∧
        h ICU_SRC.SAT = if g ICU_SRC.EVCOUNT = 255 then 1 else g ICU_SRC.SAT) ∧
      (∀ f ∈ [ICU_SRC.PRIO, ICU_SRC.ACTIVE, ICU_SRC.LINE, ICU_SRC.OWNER], h f = g f) ∧ RegsKept [ICU_SRC.addr [(n : Nat)]] s t ∧ Frame [.regs] s t)) ∧
    (640 ≤ (n : Nat) → tget 0 s.icu.edges n = 0 → ∀ v, Completes (exec (.icuSrcWrite n v) s) (fun t => t.getF ICU_SRC [(n : Nat)] ICU_SRC.PRIO = v.toNat % 32 ∧
      (∀ f ∈ [ICU_SRC.PENDING, ICU_SRC.ACTIVE, ICU_SRC.EVCOUNT, ICU_SRC.SAT], t.getF ICU_SRC [(n : Nat)] f = g f) ∧
      RegsKept [ICU_SRC.addr [(n : Nat)]] s t ∧ Frame [.regs, .icu] s t)) ∧
    ((n : Nat) < 640 → s.sourceLine n = true → g ICU_SRC.PRIO = 0 → g ICU_SRC.PENDING = 0 → g ICU_SRC.ACTIVE = 0 → ∀ v, v.toNat % 32 ≠ 0 →
      Completes (exec (.icuSrcWrite n v) s) (fun t => t.getF ICU_SRC [(n : Nat)] ICU_SRC.PRIO = v.toNat % 32 ∧ t.getF ICU_SRC [(n : Nat)] ICU_SRC.PENDING = 1 ∧
        t.getF ICU_SRC [(n : Nat)] ICU_SRC.EVCOUNT = 1 ∧ RegsKept [ICU_SRC.addr [(n : Nat)]] s t ∧ Frame [.regs, .icu] s t)) ∧
    ((n : Nat) < 640 → s.sourceLine n = true → g ICU_SRC.LINE = 0 → g ICU_SRC.PRIO ≠ 0 → tget 0 s.icu.edges n = 0 →
      Completes (exec (.icuEvent n) s) (fun t => t.getF ICU_SRC [(n : Nat)] ICU_SRC.LINE = 1 ∧
        (g ICU_SRC.PENDING = 0 ∧ g ICU_SRC.ACTIVE = 0 → t.getF ICU_SRC [(n : Nat)] ICU_SRC.PENDING = 1 ∧ t.getF ICU_SRC [(n : Nat)] ICU_SRC.EVCOUNT = 1) ∧
        (g ICU_SRC.PENDING ≠ 0 ∨ g ICU_SRC.ACTIVE ≠ 0 → t.getF ICU_SRC [(n : Nat)] ICU_SRC.PENDING = g ICU_SRC.PENDING ∧
          t.getF ICU_SRC [(n : Nat)] ICU_SRC.EVCOUNT = min 255 (g ICU_SRC.EVCOUNT + 1)) ∧
        RegsKept [ICU_SRC.addr [(n : Nat)]] s t ∧ Frame [.regs, .icu] s t))) ∧
  (∀ (n : Fin 1024) (v : BitVec 32) (s : State), ((n : Nat) = 0 ∨ (n : Nat) = 1 ∨ s.hasSource n = false) →
    exec (.icuSetpend n) s = .next s ∧ exec (.icuSrcWrite n v) s = .next s) ∧
  (∀ (c : Fin 16) (s : State), Completes (exec (.machineTimer c) s) (fun t =>
    t.icu.mtip.testBit c = (decide ((s.reg ICU_MTIMECMP [(c : Nat)]).toNat ≤ (s.reg EVA_TIME []).toNat) && !s.coreDown c) ∧
    (∀ k, k ≠ (c : Nat) → t.icu.mtip.testBit k = s.icu.mtip.testBit k) ∧ t.icu.targets = s.icu.targets ∧ Frame [.icu] s t))

/-- R629 to R631, R634 and R636 to R642. -/
def Obligations.ClaimAndComplete : Prop :=
  (∀ (s : State) (t n : Nat), s.selection t = some n ↔ n < 1024 ∧ s.candidate t n = true ∧
    ∀ m, m < 1024 → s.candidate t m = true → s.prio m < s.prio n ∨ (s.prio m = s.prio n ∧ n ≤ m)) ∧
  (∀ (s : State) (t n : Nat), s.selection t = none → n < 1024 → s.candidate t n = false) ∧
  (∀ (s : State) (t n : Nat), n ≠ 1 → (s.candidate t n = true ↔ s.bit ICU_SRC [n] ICU_SRC.PENDING = true ∧ s.bit ICU_SRC [n] ICU_SRC.ACTIVE = false ∧
    bitOf (s.reg ICU_ENABLE [t, n / 32]) (n % 32) = true ∧ s.getF ICU_THRESHOLD [t] ICU_THRESHOLD.THRESHOLD < s.prio n ∧
    (s.target t).running < s.prio n ∧ (s.target t).stack.length < 8 ∧ (s.target t).frozen = false ∧ s.coreDown (t / 2) = false)) ∧
  (∀ (c : Fin 16) (b : Bool) (t : Fin 32) (s : State), s.wf → s.dieInReset 10 = false →
    (s.selection t = none → Completes (exec (.icuClaim (.core c b) t) s) (fun u => u.front.readData = 0 ∧ Frame [.front] s u)) ∧
    (∀ n, s.selection t = some n → tok {} s.icu.targets = true → Completes (exec (.icuClaim (.core c b) t) s) (fun u =>
      u.front.readData.toNat = n + 2 ^ 10 * s.prio n + 2 ^ 16 * s.getF ICU_SRC [n] ICU_SRC.EVCOUNT + 2 ^ 24 * s.getF ICU_SRC [n] ICU_SRC.SAT ∧
      u.bit ICU_SRC [n] ICU_SRC.ACTIVE = true ∧ u.getF ICU_SRC [n] ICU_SRC.OWNER = (t : Nat) ∧ u.bit ICU_SRC [n] ICU_SRC.PENDING = false ∧
      u.getF ICU_SRC [n] ICU_SRC.EVCOUNT = 0 ∧ u.bit ICU_SRC [n] ICU_SRC.SAT = false ∧ u.getF ICU_SRC [n] ICU_SRC.PRIO = s.getF ICU_SRC [n] ICU_SRC.PRIO ∧
      u.target t = (if n = 1 then s.target t else { s.target t with stack := (s.target t).stack ++ [(n, s.prio n)] }) ∧
      RegsKept [ICU_SRC.addr [n]] s u ∧ Frame [.regs, .icu, .front] s u))) ∧
  (∀ (t : Fin 32) (v : BitVec 32) (s : State), Completes (exec (.icuClaim .host t) s) (fun u => u.front.readData = 0 ∧ Frame [.front] s u) ∧
    exec (.icuComplete .host t v) s = .next s ∧ exec (.icuStackReset .host v) s = .next s) ∧
  (∀ (c : Fin 16) (b : Bool) (t : Fin 32) (v : BitVec 32) (s : State), s.wf → s.dieInReset 10 = false → tok {} s.icu.targets = true →
    let n := v.toNat % 1024
    let st := (s.target t).stack
    let one := n = 1 ∧ s.bit ICU_SRC [1] ICU_SRC.ACTIVE = true ∧ s.getF ICU_SRC [1] ICU_SRC.OWNER = (t : Nat)
    (¬one → (s.target t).frozen = true → exec (.icuComplete (.core c b) t v) s = .next s) ∧
    (one → Completes (exec (.icuComplete (.core c b) t v) s) (fun u => u.bit ICU_SRC [1] ICU_SRC.ACTIVE = false ∧ u.target t = s.target t ∧
      u.icu.superTgt = s.getF ICU_CFG [] ICU_CFG.SUPER_TGT ∧ Frame [.regs, .icu] s u)) ∧
    (∀ e, ¬one → (s.target t).frozen = false → st.getLast? = some (n, e) → Completes (exec (.icuComplete (.core c b) t v) s) (fun u =>
      u.target t = { s.target t with stack := st.dropLast } ∧ u.bit ICU_SRC [n] ICU_SRC.ACTIVE = false ∧
      (s.getF ICU_SRC [n] ICU_SRC.EVCOUNT ≠ 0 → u.bit ICU_SRC [n] ICU_SRC.PENDING = true ∧ u.getF ICU_SRC [n] ICU_SRC.EVCOUNT = s.getF ICU_SRC [n] ICU_SRC.EVCOUNT) ∧
      (s.getF ICU_SRC [n] ICU_SRC.EVCOUNT = 0 → s.levelSource n = true → s.sourceLine n = true → u.bit ICU_SRC [n] ICU_SRC.PENDING = true ∧
        u.getF ICU_SRC [n] ICU_SRC.EVCOUNT = 1) ∧
      (s.getF ICU_SRC [n] ICU_SRC.EVCOUNT = 0 → (s.levelSource n = false ∨ s.sourceLine n = false) →
        u.bit ICU_SRC [n] ICU_SRC.PENDING = s.bit ICU_SRC [n] ICU_SRC.PENDING) ∧
      RegsKept [ICU_SRC.addr [n]] s u ∧ Frame [.regs, .icu] s u)) ∧
    (¬one → (s.target t).frozen = false → (∀ e, st.getLast? ≠ some (n, e)) → Completes (exec (.icuComplete (.core c b) t v) s) (fun u =>
      u.target t = { s.target t with frozen := true } ∧ bitOf (u.reg ICU_TGT_FAULT []) t = true ∧
      (s.reg ICU_TGT_FAULT [] = 0 → u.getF ICU_FAULT_INFO [] ICU_FAULT_INFO.WRITTEN = n ∧ u.getF ICU_FAULT_INFO [] ICU_FAULT_INFO.TARGET = (t : Nat) ∧
        u.getF ICU_FAULT_INFO [] ICU_FAULT_INFO.TOP = ((st.getLast?.map (fun e => e.1)).getD 0) % 1024) ∧
      Logs s u 10 1 (ICU_TGT_FAULT.addr [] + 2 ^ (t : Nat) * 2 ^ 32) ∧ RegsKept [ICU_TGT_FAULT.addr [], ICU_FAULT_INFO.addr []] s u ∧
      Frame [.regs, .icu, .arb] s u))) ∧
  (∀ (c : Fin 16) (b : Bool) (t : Fin 32) (s : State), s.wf → s.dieInReset 10 = false → tok {} s.icu.targets = true →
    (∀ e ∈ (s.target t).stack, e.1 < 1024) → Completes (exec (.icuStackReset (.core c b) (BitVec.ofNat 32 (2 ^ (t : Nat)))) s) (fun u => u.target t = {} ∧
      (∀ t', t' ≠ (t : Nat) → u.target t' = s.target t') ∧ bitOf (u.reg ICU_TGT_FAULT []) t = false ∧ Frame [.regs, .icu] s u))

/-- R644 to R646, R650 to R653, R656, R657 and R661. -/
def Obligations.EventLog : Prop :=
  (∀ (d : Fin 12) (e : Ev) (s : State), s.wf → s.dieInReset 10 = false → s.arb.queue.find? (fun e => e.die == (d : Nat)) = some e → s.arb.lostCount = 0 →
    let seq := s.getF EVA_SEQ [] EVA_SEQ.NEXT
    let time := s.getF EVA_TIME [] EVA_TIME.TIME
    let next (t : State) : Prop := t.getF EVA_SEQ [] EVA_SEQ.NEXT = (seq + 1) % 2 ^ 64 ∧ Frame [.regs, .arb, .front] s t
    (tget 0 s.arb.drops d = 0 → s.arb.staged.length < 256 → Completes (exec (.eventStamp d) s) (fun t => next t ∧
      t.arb.staged = s.arb.staged ++ [⟨seq, time, e⟩] ∧ t.arb.queue = dropFirst (fun x => x == e) s.arb.queue ∧
      t.getF EVA_STATUS [] EVA_STATUS.STAGED = s.arb.staged.length + 1)) ∧
    (tget 0 s.arb.drops d = 0 → 256 ≤ s.arb.staged.length → Completes (exec (.eventStamp d) s) (fun t => next t ∧ t.arb.staged = s.arb.staged ∧
      t.arb.queue = dropFirst (fun x => x == e) s.arb.queue ∧ Counted EVA_LOST [] EVA_LOST.COUNT 1 s t ∧ t.bit EVA_STATUS [] EVA_STATUS.LOST = true ∧
      t.arb.lostCount = 1 ∧ t.arb.lostFirst = seq)) ∧
    (∀ k, tget 0 s.arb.drops d = k → k ≠ 0 → s.arb.staged.length < 256 → tok 0 s.arb.drops = true → Completes (exec (.eventStamp d) s) (fun t => next t ∧
      t.arb.staged = s.arb.staged ++ [⟨seq, time, lostEv d k 0xFFFF_FFFF⟩] ∧ t.arb.queue = s.arb.queue ∧ tget 0 t.arb.drops d = 0 ∧
      Counted EVA_LOST [] EVA_LOST.COUNT k s t ∧ t.bit EVA_STATUS [] EVA_STATUS.LOST = true))) ∧
  (∀ (d : Fin 12) (s : State), (∀ e ∈ s.arb.queue, e.die ≠ (d : Nat)) → exec (.eventStamp d) s = .next s) ∧
  (∀ (fail : Bool) (r : EvRec) (rest : List EvRec) (s : State), s.wf → s.arb.staged = r :: rest → s.dieInReset 10 = false →
    let wr := s.getF EVA_WR [] EVA_WR.INDEX
    let at_ := s.getF EVA_BASE [] EVA_BASE.BASE * 4096 + 32 * (wr % 2 ^ s.getF EVA_CFG [] EVA_CFG.LOG2N)
    let host := s.bit EVA_CFG [] EVA_CFG.HOST
    (s.bit EVA_CFG [] EVA_CFG.ENABLE = false ∨ s.evaFull = true → exec (.eventRecordWrite fail) s = .next s) ∧
    (s.bit EVA_CFG [] EVA_CFG.ENABLE = true → s.evaFull = false →
      (host = true → fail = true → Completes (exec (.eventRecordWrite fail) s) (fun t => t.bit EVA_STATUS [] EVA_STATUS.WRITE_FAIL = true ∧
        RegsKept [EVA_STATUS.addr []] s t ∧ Frame [.regs] s t)) ∧
      (s.arb.lostCount = 0 → rest.length < 256 → (host = true → fail = false ∧ s.hostReach = true) →
        (host = false → s.bit AON_FW [] AON_FW.ACTIVATING = false ∧ ∀ n ∈ stacksOf at_ 32, s.stackUp n = true) →
        Completes (exec (.eventRecordWrite fail) s) (fun t => t.getF EVA_WR [] EVA_WR.INDEX = (wr + 1) % 2 ^ 32 ∧ t.arb = { s.arb with staged := rest } ∧
          (host = true → t.front.hostWrites = s.front.hostWrites ++ [(at_, r.bytes)] ∧ t.mem = s.mem) ∧
          (host = false → t.readMem at_ 32 = r.bytes ∧ ∀ a, a < at_ ∨ at_ + 32 ≤ a → t.mbyte a = s.mbyte a) ∧
          RegsKept [EVA_WR.addr [], EVA_STATUS.addr []] s t ∧ Frame [.regs, .arb, .front, .mem] s t)))) ∧
  (∀ (v : Word) (s : State), s.dieInReset 10 = false → Completes (exec (.softwareEvent v) s) (fun t => Logs s t 10 3 v.toNat ∧ Frame [.arb] s t)) ∧
  (∀ (v : BitVec 32) (s : State), s.wf → s.dieInReset 10 = false →
    let inRing := (s.getF EVA_WR [] EVA_WR.INDEX + 2 ^ 32 - v.toNat) % 2 ^ 32 ≤ 2 ^ s.getF EVA_CFG [] EVA_CFG.LOG2N
    (inRing → Completes (exec (.evaRdWrite v) s) (fun t => t.getF EVA_RD [] EVA_RD.INDEX = v.toNat ∧ Frame [.regs, .front] s t)) ∧
    (¬inRing → Completes (exec (.evaRdWrite v) s) (fun t => t.bit EVA_STATUS [] EVA_STATUS.CFG_IGNORED = true ∧ RegsKept [EVA_STATUS.addr []] s t ∧
      Frame [.regs] s t))) ∧
  (∀ (s : State) (c : Cmd), s.Accepts c 0x0602 →
    let base := c.par 0 8
    let l := c.par 8 1
    let fl := c.par 9 1
    let kept := base = s.getF EVA_BASE [] EVA_BASE.BASE * 4096 ∧ l = s.getF EVA_CFG [] EVA_CFG.LOG2N ∧ fl / 2 % 2 = s.getF EVA_CFG [] EVA_CFG.HOST
    let bad := l < 8 ∨ 20 < l ∨ base % 4096 ≠ 0 ∨ (fl.testBit 1 = false ∧ rangeInCarve base (32 * 2 ^ l) = false) ∨ 8 ≤ fl ∨ c.par 10 2 = 0 ∨
      c.parZero 12 4 = false ∨ (¬kept ∧ fl.testBit 2 = false)
    (bad → exec (.eventLogConfig c) s = .next (s.complete c stBadParam [])) ∧
    (¬bad → s.wf → ∃ u : State, u.getF EVA_BASE [] EVA_BASE.BASE * 4096 = base ∧ u.getF EVA_CFG [] EVA_CFG.LOG2N = l ∧
      u.bit EVA_CFG [] EVA_CFG.HOST = fl.testBit 1 ∧ u.bit EVA_CFG [] EVA_CFG.ENABLE = fl.testBit 0 ∧ u.getF EVA_CFG [] EVA_CFG.THRESH = c.par 10 2 ∧
      (fl.testBit 2 = true → u.getF EVA_WR [] EVA_WR.INDEX = 0 ∧ u.getF EVA_RD [] EVA_RD.INDEX = 0) ∧
      (fl.testBit 2 = false → u.getF EVA_WR [] EVA_WR.INDEX = s.getF EVA_WR [] EVA_WR.INDEX ∧ u.getF EVA_RD [] EVA_RD.INDEX = s.getF EVA_RD [] EVA_RD.INDEX) ∧
      Frame [.regs, .front] s u ∧ exec (.eventLogConfig c) s = .next (u.complete c stOk (leBytes 8 (s.getF EVA_SEQ [] EVA_SEQ.NEXT) ++
        leBytes 4 (s.getF EVA_LOST [] EVA_LOST.COUNT)))))

/-- R664, R670, R671 and R674 to R685. -/
def Obligations.HostRings : Prop :=
  (∀ (w : Who) (r : Fin 16) (v : BitVec 32) (s : State), s.wf → s.ringOn r = false → s.bit CMD_RING_STATUS [(r : Nat)] CMD_RING_STATUS.IDLE = true → s.ringLoc r = false →
    let g (f : Fld) : Nat := fget (v.setWidth 64) f
    (4 ≤ g CMD_RING_CFG.LOG2N → g CMD_RING_CFG.LOG2N ≤ 12 → Completes (exec (.ringEnable w r v) s) (fun t => t.ringOn r = true ∧
      (∀ f ∈ [CMD_RING_CFG.PRIO, CMD_RING_CFG.LOG2N, CMD_RING_CFG.MAXIF, CMD_RING_CFG.COAL_US], t.getF CMD_RING_CFG [(r : Nat)] f = g f) ∧
      t.getF CMD_RING_CFG [(r : Nat)] CMD_RING_CFG.COAL_CNT = max 1 (g CMD_RING_CFG.COAL_CNT) ∧
      (∀ f ∈ [CMD_RING_PTR.TAIL, CMD_RING_PTR.CTAIL, CMD_RING_PTR.CHEAD], t.getF CMD_RING_PTR [(r : Nat)] f = 0) ∧
      t.getF CMD_RING_PTR [(r : Nat)] CMD_RING_PTR.PHASE = 1 ∧ t.getF CMD_RING_STATUS [(r : Nat)] CMD_RING_STATUS.HEAD = 0 ∧
      t.bit CMD_RING_STATUS [(r : Nat)] CMD_RING_STATUS.IDLE = false ∧
      RegsKept [CMD_RING_CFG.addr [(r : Nat)], CMD_RING_PTR.addr [(r : Nat)], CMD_RING_STATUS.addr [(r : Nat)]] s t ∧ Frame [.regs] s t)) ∧
    ((g CMD_RING_CFG.LOG2N < 4 ∨ 12 < g CMD_RING_CFG.LOG2N) → Completes (exec (.ringEnable w r v) s) (fun t => t.ringOn r = false ∧
      t.bit CMD_RING_STATUS [(r : Nat)] CMD_RING_STATUS.CFG_IGNORED = true ∧ Frame [.regs] s t))) ∧
  (∀ (w : Who) (r : Fin 16) (v : BitVec 32) (s : State), s.wf → s.ringOn r = true → Completes (exec (.ringDisable w r v) s) (fun t => t.ringOn r = false ∧
    (s.getF CMD_RING_STATUS [(r : Nat)] CMD_RING_STATUS.INFLIGHT = 0 → t.bit CMD_RING_STATUS [(r : Nat)] CMD_RING_STATUS.IDLE = true ∧
      t.bit CMD_RING_STATUS [(r : Nat)] CMD_RING_STATUS.ERROR = false) ∧
    (s.getF CMD_RING_STATUS [(r : Nat)] CMD_RING_STATUS.INFLIGHT ≠ 0 →
      t.bit CMD_RING_STATUS [(r : Nat)] CMD_RING_STATUS.IDLE = s.bit CMD_RING_STATUS [(r : Nat)] CMD_RING_STATUS.IDLE) ∧
    RegsKept [CMD_RING_CFG.addr [(r : Nat)], CMD_RING_STATUS.addr [(r : Nat)]] s t ∧ Frame [.regs] s t)) ∧
  (∀ (w : Who) (bar2 : Bool) (r : Fin 16) (v : BitVec 32) (s : State), s.wf →
    let n := s.ringN r
    let p (f : Fld) : Nat := s.getF CMD_RING_PTR [(r : Nat)] f
    let hd := s.getF CMD_RING_STATUS [(r : Nat)] CMD_RING_STATUS.HEAD
    let ok := s.ringOn r = true ∧ (bar2 = true → s.ringLoc r = false) ∧ (bar2 = false → s.ringLoc r = true ∨ Who.isCore w = true)
    let tailBad := 4096 ≤ v.toNat ∨ n ≤ v.toNat ∨ (v.toNat + n - hd) % n < (p CMD_RING_PTR.TAIL + n - hd) % n
    let headBad := 4096 ≤ v.toNat ∨ n ≤ v.toNat ∨
      (p CMD_RING_PTR.CTAIL + n - p CMD_RING_PTR.CHEAD) % n < (v.toNat + n - p CMD_RING_PTR.CHEAD) % n
    let errs (cause : Nat) (t : State) : Prop := t.reg CMD_RING_PTR [(r : Nat)] = s.reg CMD_RING_PTR [(r : Nat)] ∧
      t.bit CMD_RING_STATUS [(r : Nat)] CMD_RING_STATUS.ERROR = true ∧
      (s.bit CMD_RING_STATUS [(r : Nat)] CMD_RING_STATUS.ERROR = false → t.getF CMD_RING_STATUS [(r : Nat)] CMD_RING_STATUS.ERR_CAUSE = cause ∧
        Logs s t 10 1 (CMD_RING_STATUS.addr [(r : Nat)] + 2 ^ 13 * 2 ^ 32)) ∧ Frame [.regs, .arb, .front] s t
    (¬ok → exec (.tailDoorbell w bar2 r v) s = .next s ∧ exec (.cplHeadDoorbell w bar2 r v) s = .next s) ∧
    (ok → ¬tailBad → Completes (exec (.tailDoorbell w bar2 r v) s) (fun t => t.getF CMD_RING_PTR [(r : Nat)] CMD_RING_PTR.TAIL = v.toNat ∧
      (∀ f ∈ [CMD_RING_PTR.CTAIL, CMD_RING_PTR.CHEAD, CMD_RING_PTR.PHASE], t.getF CMD_RING_PTR [(r : Nat)] f = p f) ∧
      RegsKept [CMD_RING_PTR.addr [(r : Nat)]] s t ∧ Frame [.regs] s t)) ∧
    (ok → tailBad → Completes (exec (.tailDoorbell w bar2 r v) s) (errs 1)) ∧
    (ok → ¬headBad → Completes (exec (.cplHeadDoorbell w bar2 r v) s) (fun t => t.getF CMD_RING_PTR [(r : Nat)] CMD_RING_PTR.CHEAD = v.toNat ∧
      (∀ f ∈ [CMD_RING_PTR.CTAIL, CMD_RING_PTR.TAIL, CMD_RING_PTR.PHASE], t.getF CMD_RING_PTR [(r : Nat)] f = p f) ∧
      RegsKept [CMD_RING_PTR.addr [(r : Nat)]] s t ∧ Frame [.regs] s t)) ∧
    (ok → headBad → Completes (exec (.cplHeadDoorbell w bar2 r v) s) (errs 2))) ∧
  (∀ (slot : List Byte) (ok fresh : Bool) (r : Nat) (s : State), s.wf →
    let full := 64 ≤ s.getF CMD_IF_STATUS [] CMD_IF_STATUS.INFLIGHT
    let hd := s.getF CMD_RING_STATUS [r] CMD_RING_STATUS.HEAD
    let next := (hd + 1) % s.ringN r
    (full ∨ s.nextRing = none → exec (.commandFetch slot ok) s = .next s) ∧
    (¬full → s.nextRing = some (r, fresh) → s.ringLoc r = false → ok = true → Completes (exec (.commandFetch slot ok) s) (fun t =>
      t.front.inflight = s.front.inflight ++ [({ via := .H, ring := Fin.ofNat 16 r, slot := slice slot 0 256 }, next)] ∧
      t.getF CMD_RING_STATUS [r] CMD_RING_STATUS.HEAD = next % 4096 ∧ Counted CMD_RING_STATUS [r] CMD_RING_STATUS.INFLIGHT 1 s t ∧
      Counted CMD_IF_STATUS [] CMD_IF_STATUS.INFLIGHT 1 s t ∧ RegsKept [CMD_RING_STATUS.addr [r], CMD_IF_STATUS.addr []] s t ∧ Frame [.regs, .front] s t)) ∧
    (¬full → s.nextRing = some (r, fresh) → s.ringLoc r = true → Completes (exec (.commandFetch slot ok) s) (fun t =>
      t.front.inflight = s.front.inflight ++ [({ via := .C, ring := Fin.ofNat 16 r
                                                 slot := s.readMem (s.getF CMD_RING_BASE [r] CMD_RING_BASE.BASE * 4096 + 256 * hd) 256 }, next)] ∧
      Frame [.regs, .front] s t)) ∧
    (¬full → s.nextRing = some (r, fresh) → s.ringLoc r = false → ok = false → Completes (exec (.commandFetch slot ok) s) (fun t =>
      t.bit CMD_RING_STATUS [r] CMD_RING_STATUS.ERROR = true ∧ t.getF CMD_RING_STATUS [r] CMD_RING_STATUS.ERR_CAUSE = 3 ∧
      t.front.inflight = s.front.inflight ∧ Frame [.regs, .front, .arb] s t)) ∧
    (s.nextRing = some (r, fresh) → r < 16 ∧ s.canFetch r = true ∧ ((∃ q, q < 16 ∧ s.canFetch q = true ∧ ¬q ∈ s.front.round) → ¬r ∈ s.front.round))) ∧
  (∀ (r : Fin 16) (s : State), tok 0 s.front.counted = true →
    (s.getF CMD_RING_CFG [(r : Nat)] CMD_RING_CFG.COAL_US ≠ 0 → tget 0 s.front.counted r ≠ 0 → Completes (exec (.msixCoalesceTimer r) s) (fun t =>
      tget 0 t.front.counted r = 0 ∧ (s.msixOpen r = true → t.front.msix = s.front.msix ++ [(r : Nat)]) ∧
      (s.msixOpen r = false → (r : Nat) ∈ t.front.msixHeld ∧ t.front.msix = s.front.msix) ∧ Frame [.front] s t)) ∧
    ((s.getF CMD_RING_CFG [(r : Nat)] CMD_RING_CFG.COAL_US = 0 ∨ tget 0 s.front.counted r = 0) → exec (.msixCoalesceTimer r) s = .next s)) ∧
  (∀ (k : Fin 4) (s : State), s.wf → Completes (exec (.hostInterfaceReset k) s) (fun t =>
    (∀ r : Fin 16, s.ringLoc r = false → t.ringOn r = false ∧ t.getF CMD_RING_PTR [(r : Nat)] CMD_RING_PTR.TAIL = 0 ∧
      t.getF CMD_RING_PTR [(r : Nat)] CMD_RING_PTR.PHASE = 1) ∧
    (∀ f ∈ [CMD_IF_STATUS.LINK_UP, CMD_IF_STATUS.CXL, CMD_IF_STATUS.WIDTH, CMD_IF_STATUS.RATE, CMD_IF_STATUS.BME], t.getF CMD_IF_STATUS [] f = 0) ∧
    (∀ v : Fin 18, t.bit MSIX_CTRL [(v : Nat)] MSIX_CTRL.MASK = true) ∧
    (∀ x ∈ s.front.inflight, x.1.via = .H → x.1.opcode ≠ 0x0201 → x.1.opcode ≠ 0x0202 → x.1 ∈ t.front.discard) ∧
    t.front.hostWrites = s.front.hostWrites ∧ Frame [.regs, .front, .press, .pins] s t)) ∧
  (∀ (cxl : Bool) (width : Fin 3) (rate : Fin 5) (s : State), s.wf →
    (s.front.linkMayTrain = true → s.boundaryScan = false → s.bit CMD_IF_STATUS [] CMD_IF_STATUS.LINK_UP = false → (cxl = true → 2 ≤ (rate : Nat)) →
      Completes (exec (.hostLinkUp cxl width rate) s) (fun t => t.bit CMD_IF_STATUS [] CMD_IF_STATUS.LINK_UP = true ∧
        t.bit CMD_IF_STATUS [] CMD_IF_STATUS.CXL = cxl ∧ t.getF CMD_IF_STATUS [] CMD_IF_STATUS.WIDTH = 4 * 2 ^ (width : Nat) ∧
        t.getF CMD_IF_STATUS [] CMD_IF_STATUS.RATE = (rate : Nat) + 1 ∧ RegsKept [CMD_IF_STATUS.addr []] s t ∧ Frame [.regs, .pins] s t)) ∧
    ((s.front.linkMayTrain = false ∨ (cxl = true ∧ (rate : Nat) < 2)) → exec (.hostLinkUp cxl width rate) s = .next s)) ∧
  (∀ (bme : Bool) (mps : Fin 3) (mrrs : Fin 6) (s : State), s.wf → Completes (exec (.busMasterEnableChange bme mps mrrs) s) (fun t =>
    t.bit CMD_IF_STATUS [] CMD_IF_STATUS.BME = bme ∧ t.front.mps = 128 * 2 ^ (mps : Nat) ∧ t.front.mrrs = 128 * 2 ^ (mrrs : Nat) ∧
    (bme = true → t.front.hostWrites = s.front.hostWrites ++ s.front.cplHeld ∧ t.front.cplHeld = [] ∧ t.front.msix = s.front.msix ++ s.front.msixHeld.filter t.msixOpen ∧
      (∀ v ∈ t.front.msixHeld, v ∈ s.front.msixHeld ∧ t.msixOpen v = false)) ∧
    (bme = false → t.front.hostWrites = s.front.hostWrites ∧ t.front.cplHeld = s.front.cplHeld ∧ t.front.msixHeld = s.front.msixHeld) ∧
    RegsKept [CMD_IF_STATUS.addr []] s t ∧ Frame [.regs, .front] s t))

/-- R200, R671, R675, R690, R697, R698 and R700 to R706. -/
def Obligations.HostCommands : Prop :=
  (∀ (c : Cmd) (st : Nat) (res : List Byte) (hd : Nat) (s : State), s.wf → c.via = .H → c ∉ s.front.discard → (s.front.inflight.find? (fun x => x.1 == c)) = some (c, hd) →
    let r : Nat := c.ring
    let n := s.ringN r
    let ct := s.getF CMD_RING_PTR [r] CMD_RING_PTR.CTAIL
    let ph := s.getF CMD_RING_PTR [r] CMD_RING_PTR.PHASE
    let cp : Cpl := { via := .H, ring := r, tag := c.tag, opcode := c.opcode, status := st, phase := ph, head := hd, result := res }
    let t := s.complete c st res
    t.front.done = s.front.done ++ [cp] ∧ t.getF CMD_RING_PTR [r] CMD_RING_PTR.CTAIL = (ct + 1) % n % 4096 ∧
    t.getF CMD_RING_PTR [r] CMD_RING_PTR.PHASE = (if ct + 1 = n then 1 - ph else ph) ∧
    (s.bit CMD_IF_STATUS [] CMD_IF_STATUS.BME = true →
      t.front.hostWrites = s.front.hostWrites ++ [(s.getF CMD_CPL_BASE [r] CMD_CPL_BASE.BASE * 4096 + 32 * ct, cp.bytes)]) ∧
    (s.bit CMD_IF_STATUS [] CMD_IF_STATUS.BME = false →
      t.front.cplHeld = s.front.cplHeld ++ [(s.getF CMD_CPL_BASE [r] CMD_CPL_BASE.BASE * 4096 + 32 * ct, cp.bytes)]) ∧
    t.front.inflight = dropFirst (fun x => x.1 == c) s.front.inflight ∧ Frame [.regs, .front] s t) ∧
  (∀ (s : State) (c : Cmd), c.inlineLen = 0 →
    (s.Accepts c 0x0101 → c.parZero 0 16 = true → exec (.identify c) s = .next (s.complete c stOk (leBytes 8 (s.reg GLB_SERIAL []).toNat ++
      leBytes 5 (s.reg GLB_ID []).toNat ++ leBytes 2 (s.getF RNK_CHIP [8] RNK_CHIP.CHIP) ++
      leBytes 1 (b2n s.sliceValid + 2 * b2n s.installed + 4 * b2n s.tempo.armed + 8 * b2n s.tempo.running)))) ∧
    (s.Accepts c 0x0102 → c.parZero 1 15 = true →
      (c.par 0 1 = 0 → exec (.queryCaps c) s = .next (s.complete c stOk (leBytes 4 (s.reg GLB_CAP0 []).toNat ++ leBytes 4 (s.reg GLB_CAP1 []).toNat ++
        leBytes 4 (s.getF AON_FW [] AON_FW.VERSION) ++ leBytes 1 16 ++ leBytes 1 224 ++ leBytes 1 (s.getF CMD_IF_STATUS [] CMD_IF_STATUS.CXL)))) ∧
      (c.par 0 1 = 1 → exec (.queryCaps c) s = .next (s.complete c stOk (leBytes 8 (s.reg GLB_REPRO_PROFILE []).toNat ++ leBytes 4 (s.reg GLB_MODE []).toNat))) ∧
      (2 < c.par 0 1 → exec (.queryCaps c) s = .next (s.complete c stBadParam [])))) ∧
  (∀ (s : State) (c : Cmd) (ecc : Ecc) (off n : Nat), s.wf → c.par 0 8 = off → off < 2 ^ 48 →
    (s.Accepts c 0x0203 → s.cmdHeld c = false → c.parZero 8 8 = true → c.inlineLen = n →
      (n = 0 → exec (.writeInline c) s = .next (s.complete c stBadLength [])) ∧
      (n ≠ 0 → s.stageRange off n = false → exec (.writeInline c) s = .next (s.complete c stBadParam [])) ∧
      (∀ st, n ≠ 0 → s.stageRange off n = true → s.rangeAway off n = some st → exec (.writeInline c) s = .next (s.complete c st [])) ∧
      (n ≠ 0 → s.stageRange off n = true → s.rangeAway off n = none → off + n ≤ boardBase → ∃ u : State, u.readMem off n = c.inl ∧
        (∀ a, a < off ∨ off + n ≤ a → u.mbyte a = s.mbyte a) ∧ Frame [.mem] s u ∧ exec (.writeInline c) s = .next (u.complete c stOk (leBytes 4 n)))) ∧
    (s.Accepts c 0x0204 → c.parZero 9 7 = true → c.par 8 1 = n → 1 ≤ n → n ≤ 16 → off % 32 + n ≤ 32 → c.inlineLen = 0 → s.stageRange off n = true →
      s.rangeAway off n = none → off < boardBase →
      (ecc = .clean → exec (.readSmall c ecc) s = .next (s.complete c stOk (s.readMem off n))) ∧
      (∀ i, ecc = .bad i → ∃ u : State, Frame [.regs, .arb] s u ∧ exec (.readSmall c ecc) s = .next (u.complete c stIntegrity [])))) ∧
  (∀ (s : State) (c : Cmd) (data : List Byte) (cut : Option StageCut), s.wf → s.Accepts c 0x0201 → s.cmdHeld c = false → (s.waiters .busMaster).contains c = false →
    let off := c.par 0 8
    let len := stageLen c
    (∀ st, s.stageCheck c = some st → exec (.stageIn c data cut) s = .next (s.complete c st [])) ∧
    (s.stageCheck c = none → s.bit CMD_IF_STATUS [] CMD_IF_STATUS.BME = false → exec (.stageIn c data cut) s = .next (s.wait .busMaster c)) ∧
    (s.stageCheck c = none → s.bit CMD_IF_STATUS [] CMD_IF_STATUS.BME = true → off + len ≤ boardBase →
      (cut = none → ∃ u : State, u.readMem off len = slice data 0 len ∧ (∀ a, a < off ∨ off + len ≤ a → u.mbyte a = s.mbyte a) ∧ Frame [.mem] s u ∧
        exec (.stageIn c data cut) s = .next (u.complete c stOk (leBytes 8 len))) ∧
      (∀ b, cut = some (.hostRead b) → 512 * b < len → ∃ u : State, u.readMem off (512 * b) = slice data 0 (512 * b) ∧
        (∀ a, a < off ∨ off + 512 * b ≤ a → u.mbyte a = s.mbyte a) ∧ Frame [.mem] s u ∧
        exec (.stageIn c data cut) s = .next (u.complete c stIntegrity (leBytes 8 (512 * b) ++ [2]))))) ∧
  (∀ (s : State) (c : Cmd), s.Accepts c 0x0202 → (s.waiters .busMaster).contains c = false → s.stageCheck c = none →
    (s.bit CMD_IF_STATUS [] CMD_IF_STATUS.BME = false → exec (.stageOut c [] none) s = .next (s.wait .busMaster c)) ∧
    (s.bit CMD_IF_STATUS [] CMD_IF_STATUS.BME = true → ∃ u : State,
      u.front.hostWrites = s.front.hostWrites ++ stagePieces (stageSegs c) (s.readMem (c.par 0 8) (512 * (stageLen c / 512))) ∧ Frame [.front] s u ∧
      exec (.stageOut c [] none) s = .next (u.complete c stOk (leBytes 8 (stageLen c))))) ∧
  (∀ (p : Fin 256) (k : Fin 4) (cycles a : Nat) (bs : List Byte) (s : State), s.wf → tok {} s.sects = true →
    (s.pressUp p = false → exec (.holdWaitRelease p cycles) s = .next s) ∧
    (s.pressUp p = true → (s.sect p k).pendW = [(a, bs)] → (∀ j : Fin 4, j ≠ k → (s.sect p j).pendW = []) → (s.prs p).heldWrites = [] →
      (∀ q, q < 8 → s.queue p q = []) → s.waiters .cadenceDrain = [] → (∀ f ∈ s.score.flights, f.accepted = false) → bs.length ≤ 512 →
      s.heldRange p a bs.length = false → Completes (exec (.holdWaitRelease p cycles) s) (fun t =>
        t.sect p k = { s.sect p k with pendW := [], pc := (s.sect p k).next } ∧ t.readBoard p a bs.length = bs ∧
        Counted PRS_HOLD_STALLS (pix p) PRS_HOLD_STALLS.COUNT cycles s t ∧ Frame [.regs, .mem, .sects] s t)) ∧
    (s.pressUp p = true → (s.sect p k).pendW = [(a, bs)] → (∀ j : Fin 4, j ≠ k → (s.sect p j).pendW = []) → (s.prs p).heldWrites = [] →
      (∀ q, q < 8 → s.queue p q = []) → s.waiters .cadenceDrain = [] → (∀ f ∈ s.score.flights, f.accepted = false) →
      s.heldRange p a bs.length = true → Completes (exec (.holdWaitRelease p cycles) s) (fun t =>
        t.sects = s.sects ∧ t.mem = s.mem ∧ Counted PRS_HOLD_STALLS (pix p) PRS_HOLD_STALLS.COUNT cycles s t ∧ Frame [.regs] s t)))
namespace Sys2Proof.Machine

/-- The tables of E0's ports and queues are in canonical form. -/
def State.EthWf (s : State) : Prop := s.wf ∧ tok {} s.eth.ports = true ∧ tok {} s.eth.queues = true

/-- A received frame passes the checks of R711 and is no MAC Control frame. -/
def State.EthData (s : State) (p : Nat) (f : EthFrame) : Prop :=
  s.ethUp p = true ∧ ethType f.bytes ≠ 0x8808 ∧ 64 ≤ f.size ∧ f.size ≤ (s.ethPort p).maxFrame ∧ f.fcsOk = true ∧ (s.ethPort p).takes f.bytes = true

/-- A producer index reaches queue q: it is stored where R678 calls it valid, and puts the queue in error where not (R730). -/
def State.EthTailTo (s : State) (q v : Nat) (o : Host.Outcome State Fault Refusal) : Prop :=
  let n := 2 ^ (s.ethQueue q).log2n
  let hd := s.getF ETH_QSTATUS [q] ETH_QSTATUS.HEAD
  let bad := n ≤ v ∨ (v + n - hd) % n < (s.getF ETH_QSTATUS [q] ETH_QSTATUS.TAIL + n - hd) % n
  (¬bad → Completes o (fun t => t.getF ETH_QSTATUS [q] ETH_QSTATUS.TAIL = v ∧
    (∀ f ∈ [ETH_QSTATUS.HEAD, ETH_QSTATUS.CTAIL, ETH_QSTATUS.PHASE, ETH_QSTATUS.ENABLED, ETH_QSTATUS.KIND, ETH_QSTATUS.ERROR, ETH_QSTATUS.ERR_CAUSE,
      ETH_QSTATUS.CHEAD], t.getF ETH_QSTATUS [q] f = s.getF ETH_QSTATUS [q] f) ∧ RegsKept [ETH_QSTATUS.addr [q]] s t ∧ Frame [.regs] s t)) ∧
  (bad → Completes o (fun t => t.bit ETH_QSTATUS [q] ETH_QSTATUS.ERROR = true ∧ t.getF ETH_QSTATUS [q] ETH_QSTATUS.ERR_CAUSE = 1 ∧
    (∀ f ∈ [ETH_QSTATUS.HEAD, ETH_QSTATUS.TAIL, ETH_QSTATUS.CTAIL, ETH_QSTATUS.PHASE, ETH_QSTATUS.ENABLED, ETH_QSTATUS.KIND, ETH_QSTATUS.CHEAD],
      t.getF ETH_QSTATUS [q] f = s.getF ETH_QSTATUS [q] f) ∧ RegsKept [ETH_QSTATUS.addr [q]] s t ∧ Frame [.regs] s t))

/-- The n-th DATA packet of RX_RBT queue q's flow in its port's buffer is `f`, from this address and UDP port; the queue runs. -/
def State.RbtData (s : State) (q n : Nat) (f : RxFrame) (ip : List Byte) (u : Nat) : Prop :=
  s.dieUp 11 = true ∧ s.ethIs q 4 = true ∧
  (((s.ethPort (q / 16)).rx.filterMap (fun x => match x.dest with
    | .rbt a b => if rbtType x.bytes = 1 ∧ rbtFlow x.bytes = (s.ethQueue q).flow then some (x, a, b) else none
    | .raw _ => none))[n]? : Option (RxFrame × List Byte × Nat)) = some (f, ip, u)

/-- A queue of kind k takes its next descriptor, which stands in a stack that is in service: index, completion room and ring are as R732 asks. -/
def State.Takes (s : State) (q k : Nat) : Prop :=
  s.dieUp 11 = true ∧ s.ethIs q k = true ∧ s.getF ETH_QSTATUS [q] ETH_QSTATUS.KIND = k ∧ s.bit ETH_QSTATUS [q] ETH_QSTATUS.ERROR = false ∧
  s.getF ETH_QSTATUS [q] ETH_QSTATUS.TAIL ≠ s.getF ETH_QSTATUS [q] ETH_QSTATUS.HEAD ∧ s.ethRoom q = true ∧ (s.ethQueue q).log2n ≤ 12

end Sys2Proof.Machine

/-- R711 to R713, R716, R718 to R723, R726 to R728 and R736. -/
def Obligations.EthernetPorts : Prop :=
  (∀ (p : Fin 2) (s : State), s.EthWf →
    let up := s.dieUp 11 = true ∧ s.boundaryScan = false ∧ s.bit ETH_PORT_STATUS [(p : Nat)] ETH_PORT_STATUS.LINK_UP = false ∧
      s.getF ETH_PORT_STATUS [(p : Nat)] ETH_PORT_STATUS.SPEED ≠ 0
    (up → Completes (exec (.ethLinkUp p) s) (fun t => t.bit ETH_PORT_STATUS [(p : Nat)] ETH_PORT_STATUS.LINK_UP = true ∧
      t.bit ETH_EVENT [(p : Nat)] ETH_EVENT.LINK_UP = true ∧
      t.ethPort p = { s.ethPort p with xoffDue := s.getF ETH_PORT_STATUS [(p : Nat)] ETH_PORT_STATUS.XOFF, xonDue := 0 } ∧
      (∀ q, q ≠ (p : Nat) → t.ethPort q = s.ethPort q) ∧ t.eth.queues = s.eth.queues ∧
      RegsKept [ETH_PORT_STATUS.addr [(p : Nat)], ETH_EVENT.addr [(p : Nat)]] s t ∧ Frame [.regs, .eth] s t)) ∧
    (¬up → exec (.ethLinkUp p) s = .next s) ∧
    (s.ethUp p = true → Completes (exec (.ethLinkDown p) s) (fun t => t.bit ETH_PORT_STATUS [(p : Nat)] ETH_PORT_STATUS.LINK_UP = false ∧
      t.bit ETH_EVENT [(p : Nat)] ETH_EVENT.LINK_DOWN = true ∧
      t.getF ETH_PORT_STATUS [(p : Nat)] ETH_PORT_STATUS.XOFF = s.getF ETH_PORT_STATUS [(p : Nat)] ETH_PORT_STATUS.XOFF ∧
      t.ethPort p = { s.ethPort p with xoffDue := 0, xonDue := 0 } ∧
      RegsKept [ETH_PORT_STATUS.addr [(p : Nat)], ETH_EVENT.addr [(p : Nat)]] s t ∧ Frame [.regs, .eth] s t)) ∧
    (s.ethUp p = false → exec (.ethLinkDown p) s = .next s)) ∧
  (∀ (p : Fin 2) (q : Fin 8) (s : State), s.EthWf →
    let timer (t : State) (k : Nat) : Nat := t.getF ETH_PAUSE_TIMER [(p : Nat), k] ETH_PAUSE_TIMER.QUANTA
    let paused (t : State) (k : Nat) : Bool := (t.getF ETH_PORT_STATUS [(p : Nat)] ETH_PORT_STATUS.PAUSED).testBit k
    (timer s q ≠ 0 → Completes (exec (.pauseTimerExpiry p q) s) (fun t => timer t q = 0 ∧ paused t q = false ∧
      (∀ k, k < 8 → k ≠ (q : Nat) → timer t k = timer s k ∧ paused t k = paused s k) ∧
      RegsKept [ETH_PAUSE_TIMER.addr [(p : Nat), (q : Nat)], ETH_PORT_STATUS.addr [(p : Nat)]] s t ∧ Frame [.regs] s t)) ∧
    (timer s q = 0 → exec (.pauseTimerExpiry p q) s = .next s) ∧
    (∀ (bs : List Byte) (rest : List (List Byte)), (s.ethPort p).ctlIn = bs :: rest →
      (s.ethFc p = 1 → Completes (exec (.pauseFrameReceive p) s) (fun t => timer t 0 = beAt bs 16 2 ∧ paused t 0 = decide (beAt bs 16 2 ≠ 0) ∧
        Counted ETH_CNT [(p : Nat), 8] ETH_CNT.COUNT 1 s t ∧ (t.ethPort p).ctlIn = rest ∧
        RegsKept [ETH_PAUSE_TIMER.addr [(p : Nat), 0], ETH_PORT_STATUS.addr [(p : Nat)], ETH_CNT.addr [(p : Nat), 8]] s t ∧ Frame [.regs, .eth] s t)) ∧
      (s.ethFc p = 2 → Completes (exec (.pauseFrameReceive p) s) (fun t =>
        ((beAt bs 17 1).testBit q = true → (s.ethPort p).enable.testBit q = true → timer t q = beAt bs (18 + 2 * (q : Nat)) 2 ∧
          paused t q = decide (beAt bs (18 + 2 * (q : Nat)) 2 ≠ 0) ∧ Counted ETH_CNT [(p : Nat), 8 + (q : Nat)] ETH_CNT.COUNT 1 s t) ∧
        ((beAt bs 17 1).testBit q = false ∨ (s.ethPort p).enable.testBit q = false → timer t q = timer s q ∧ paused t q = paused s q ∧
          t.reg ETH_CNT [(p : Nat), 8 + (q : Nat)] = s.reg ETH_CNT [(p : Nat), 8 + (q : Nat)]) ∧
        (t.ethPort p).ctlIn = rest ∧ Frame [.regs, .eth] s t))) ∧
    ((s.ethPort p).ctlIn = [] → exec (.pauseFrameReceive p) s = .next s) ∧
    (let due := s.ethUp p = true ∧ (s.getF ETH_PORT_STATUS [(p : Nat)] ETH_PORT_STATUS.XOFF).testBit q = true ∧
      s.getF NTC_MARKS [16 + (8 * (p : Nat) + (q : Nat))] NTC_MARKS.HIGH ≤ s.ethFill (8 * (p : Nat) + (q : Nat))
    (due → Completes (exec (.xoffRefresh p q) s) (fun t => (t.ethPort p).xoffDue.testBit q = true ∧ (t.ethPort p).xonDue.testBit q = false ∧
      (∀ k, k ≠ (q : Nat) → (t.ethPort p).xoffDue.testBit k = (s.ethPort p).xoffDue.testBit k ∧ (t.ethPort p).xonDue.testBit k = (s.ethPort p).xonDue.testBit k) ∧
      Frame [.eth] s t)) ∧
    (¬due → exec (.xoffRefresh p q) s = .next s))) ∧
  (∀ (p : Fin 2) (f : EthFrame) (s : State), s.EthWf →
    let valid := (slice f.bytes 0 6 = [0x01, 0x80, 0xC2, 0x00, 0x00, 0x01] ∨ slice f.bytes 0 6 = (s.ethPort p).mac) ∧ f.size = 64 ∧ f.fcsOk = true ∧
      ((s.ethFc p = 1 ∧ beAt f.bytes 14 2 = 1) ∨ (s.ethFc p = 2 ∧ beAt f.bytes 14 2 = 0x0101))
    let fits := (s.ethPort p).held + f.size ≤ 0x0020_0000
    let seen (t : State) : Prop := Counted ETH_CNT [(p : Nat), 0] ETH_CNT.COUNT 1 s t ∧ Counted ETH_CNT [(p : Nat), 6] ETH_CNT.COUNT f.size s t
    (s.ethUp p = false → exec (.ethFrameReceive p f) s = .next s) ∧
    (s.ethUp p = true → ethType f.bytes = 0x8808 → ethTagged f.bytes = false → valid → Completes (exec (.ethFrameReceive p f) s) (fun t =>
      t.ethPort p = { s.ethPort p with ctlIn := (s.ethPort p).ctlIn ++ [f.bytes] } ∧ seen t ∧ Frame [.regs, .eth] s t)) ∧
    (s.ethUp p = true → ethType f.bytes = 0x8808 → ethTagged f.bytes = false → ¬valid → Completes (exec (.ethFrameReceive p f) s) (fun t =>
      Counted ETH_CNT [(p : Nat), 5] ETH_CNT.COUNT 1 s t ∧ t.bit ETH_EVENT [(p : Nat)] ETH_EVENT.CTL_ERR = true ∧
      RegsKept [ETH_CNT.addr [(p : Nat), 5], ETH_EVENT.addr [(p : Nat)]] s t ∧ Frame [.regs] s t)) ∧
    (s.ethUp p = true → ethType f.bytes ≠ 0x8808 → ¬s.EthData p f → Completes (exec (.ethFrameReceive p f) s) (fun t =>
      Counted ETH_CNT [(p : Nat), 2] ETH_CNT.COUNT 1 s t ∧ RegsKept [ETH_CNT.addr [(p : Nat), 2]] s t ∧ Frame [.regs] s t)) ∧
    (s.EthData p f → f.sec = none → s.bit ETH_PORT_STATUS [(p : Nat)] ETH_PORT_STATUS.MACSEC_REQ = true → Completes (exec (.ethFrameReceive p f) s) (fun t =>
      seen t ∧ Counted ETH_CNT [(p : Nat), 27] ETH_CNT.COUNT 1 s t ∧ Frame [.regs] s t)) ∧
    (∀ g, s.EthData p f → f.sec = some g → (∀ sc, sc < 8 → tget 0 (s.ethPort p).rxSci sc = g.sci → tget none (s.ethPort p).rxSa (4 * sc + (g.an : Nat)) = none) →
      Completes (exec (.ethFrameReceive p f) s) (fun t => seen t ∧ Counted ETH_CNT [(p : Nat), 25] ETH_CNT.COUNT 1 s t ∧
        t.bit ETH_EVENT [(p : Nat)] ETH_EVENT.MACSEC_FAIL = true ∧ Frame [.regs, .arb] s t)) ∧
    (∀ g sc a, s.EthData p f → f.sec = some g → sc < 8 → tget 0 (s.ethPort p).rxSci sc = g.sci →
      (∀ k, k < sc → tget 0 (s.ethPort p).rxSci k ≠ g.sci) → tget none (s.ethPort p).rxSa (4 * sc + (g.an : Nat)) = some a → g.icvOk = true → g.pn < a.pn →
      Completes (exec (.ethFrameReceive p f) s) (fun t => seen t ∧ Counted ETH_CNT [(p : Nat), 26] ETH_CNT.COUNT 1 s t ∧
        t.bit ETH_EVENT [(p : Nat)] ETH_EVENT.MACSEC_FAIL = true ∧ Frame [.regs, .arb] s t)) ∧
    (s.EthData p f → f.sec = none → s.bit ETH_PORT_STATUS [(p : Nat)] ETH_PORT_STATUS.MACSEC_REQ = false →
      (¬fits → Completes (exec (.ethFrameReceive p f) s) (fun t => seen t ∧ Counted ETH_CNT [(p : Nat), 3] ETH_CNT.COUNT 1 s t ∧
        t.bit ETH_EVENT [(p : Nat)] ETH_EVENT.RX_OVF = true ∧ Frame [.regs, .arb] s t)) ∧
      (fits → s.steer p f.bytes = none → Completes (exec (.ethFrameReceive p f) s) (fun t => seen t ∧ Counted ETH_CNT [(p : Nat), 4] ETH_CNT.COUNT 1 s t ∧
        Frame [.regs] s t)) ∧
      (∀ d bs, fits → s.steer p f.bytes = some (d, bs) → Completes (exec (.ethFrameReceive p f) s) (fun t => seen t ∧
        t.ethPort p = { s.ethPort p with rx := (s.ethPort p).rx ++
          [⟨if ethTagged f.bytes then beAt f.bytes 14 1 / 32 else (s.ethPort p).defPri, f.size, d, bs⟩] } ∧ Frame [.regs, .eth] s t))) ∧
    (∀ q, udpOf f.bytes = none → (s.steer p f.bytes = some (.raw q, f.bytes) ↔ q ∈ portQueues p ∧ s.ethIs q 3 = true ∧ (s.ethQueue q).udp = 0 ∧
      ((s.ethQueue q).etype = 0 ∨ (s.ethQueue q).etype = ethType f.bytes) ∧
      ∀ r ∈ portQueues p, r < q → ¬(s.ethIs r 3 = true ∧ (s.ethQueue r).udp = 0 ∧ ((s.ethQueue r).etype = 0 ∨ (s.ethQueue r).etype = ethType f.bytes))))) ∧
  (∀ (p : Fin 2) (ecc : Ecc) (s : State), s.EthWf →
    let x := s.ethPort p
    let due := x.xoffDue ||| x.xonDue
    (s.ethUp p = false → exec (.ethFrameTransmit p ecc) s = .next s) ∧
    (s.ethUp p = true → due ≠ 0 → s.ethFc p = 1 → Completes (exec (.ethFrameTransmit p ecc) s) (fun t =>
      t.eth.sent = s.eth.sent ++ [.ctl p (x.control 1 (beBytes 2 (if x.xoffDue.testBit 0 then x.quanta else 0)))] ∧
      t.ethPort p = { x with xoffDue := 0, xonDue := 0 } ∧ Counted ETH_CNT [(p : Nat), 1] ETH_CNT.COUNT 1 s t ∧ Frame [.regs, .eth] s t)) ∧
    (s.ethUp p = true → due ≠ 0 → s.ethFc p = 2 → Completes (exec (.ethFrameTransmit p ecc) s) (fun t =>
      t.eth.sent = s.eth.sent ++ [.ctl p (x.control 0x0101 (beBytes 2 due ++ (List.range 8).flatMap (fun q => beBytes 2 (if x.xoffDue.testBit q then x.quanta else 0))))] ∧
      t.ethPort p = { x with xoffDue := 0, xonDue := 0 } ∧
      (∀ q : Fin 8, Counted ETH_CNT [(p : Nat), 16 + (q : Nat)] ETH_CNT.COUNT (b2n (x.xoffDue.testBit q)) s t) ∧ Frame [.regs, .eth] s t)) ∧
    (s.ethUp p = true → due = 0 → (s.ethMaySend p = false ∨ s.txPick p = none) → exec (.ethFrameTransmit p ecc) s = .next s) ∧
    (∀ q, s.txPick p = some q → q ∈ portQueues p ∧ s.txReady q = true ∧ s.ethPaused p (s.ethQueue q).pri = false ∧
      ∀ r ∈ portQueues p, s.txReady r = true → (s.ethQueue r).pri ≤ (s.ethQueue q).pri) ∧
    (∀ q j, s.ethUp p = true → due = 0 → s.ethMaySend p = true → s.txPick p = some q → s.getF ETH_QSTATUS [q] ETH_QSTATUS.KIND = 1 →
      (s.ethQueue q).rawJob = some j → (∀ y ∈ (s.ethQueue q).jobs, y.seq = j.seq → y = j) →
      (s.activeSa p = none → Completes (exec (.ethFrameTransmit p ecc) s) (fun t => t.eth.sent = s.eth.sent ++ [.frame p (j.data.getD []) none] ∧
        (t.ethQueue q).jobs = mapIf (fun y => y == j) (fun y => y.stop stOk y.len) (s.ethQueue q).jobs ∧ (t.ethPort p).turn = q % 16 ∧
        Counted ETH_CNT [(p : Nat), 1] ETH_CNT.COUNT 1 s t ∧ Counted ETH_CNT [(p : Nat), 7] ETH_CNT.COUNT (j.len + 4) s t ∧
        RegsKept [ETH_CNT.addr [(p : Nat), 1], ETH_CNT.addr [(p : Nat), 7]] s t ∧ Frame [.regs, .eth] s t)) ∧
      (∀ a, s.activeSa p = some a → tok none (s.ethPort p).txSa = true → a.pn + 1 < 2 ^ 64 → Completes (exec (.ethFrameTransmit p ecc) s) (fun t =>
        t.eth.sent = s.eth.sent ++ [.frame p (j.data.getD []) (some (s.getF ETH_PORT_STATUS [(p : Nat)] ETH_PORT_STATUS.TX_AN, a.pn))] ∧
        t.getF ETH_TX_PN [(p : Nat)] ETH_TX_PN.PN = a.pn + 1 ∧ t.activeSa p = some { a with pn := a.pn + 1 } ∧
        (a.pn + 1 = 2 ^ 64 - 2 ^ 40 → t.bit ETH_EVENT [(p : Nat)] ETH_EVENT.PN_WARN = true) ∧
        (a.pn + 1 ≠ 2 ^ 64 - 2 ^ 40 → t.reg ETH_EVENT [(p : Nat)] = s.reg ETH_EVENT [(p : Nat)]) ∧ Frame [.regs, .eth, .arb] s t))))

/-- R730, R732 to R735, R738 to R742 and R749. -/
def Obligations.EthernetQueues : Prop :=
  (∀ (q : Fin 32) (v : BitVec 32) (s : State), s.wf → (s.ethQueue q).log2n ≤ 12 →
    (s.regGone ETH_QDB [(q : Nat)] = false → s.bit ETH_QSTATUS [(q : Nat)] ETH_QSTATUS.ENABLED = true →
      s.EthTailTo q v.toNat (exec (.ethQdbWrite q v) s)) ∧
    (s.regGone ETH_QDB [(q : Nat)] = false → s.regGone ETH_QCPL [(q : Nat)] = false → s.bit ETH_QSTATUS [(q : Nat)] ETH_QSTATUS.ENABLED = false →
      exec (.ethQdbWrite q v) s = .next s ∧ exec (.ethQcplWrite q v) s = .next s) ∧
    (let n := 2 ^ (s.ethQueue q).log2n
     let ch := s.getF ETH_QSTATUS [(q : Nat)] ETH_QSTATUS.CHEAD
     let bad := n ≤ v.toNat ∨ (s.getF ETH_QSTATUS [(q : Nat)] ETH_QSTATUS.CTAIL + n - ch) % n < (v.toNat + n - ch) % n
     s.regGone ETH_QCPL [(q : Nat)] = false → s.bit ETH_QSTATUS [(q : Nat)] ETH_QSTATUS.ENABLED = true →
      (¬bad → Completes (exec (.ethQcplWrite q v) s) (fun t => t.getF ETH_QSTATUS [(q : Nat)] ETH_QSTATUS.CHEAD = v.toNat ∧
        (∀ f ∈ [ETH_QSTATUS.HEAD, ETH_QSTATUS.TAIL, ETH_QSTATUS.CTAIL, ETH_QSTATUS.PHASE, ETH_QSTATUS.ERROR],
          t.getF ETH_QSTATUS [(q : Nat)] f = s.getF ETH_QSTATUS [(q : Nat)] f) ∧ RegsKept [ETH_QSTATUS.addr [(q : Nat)]] s t ∧ Frame [.regs] s t)) ∧
      (bad → Completes (exec (.ethQcplWrite q v) s) (fun t => t.bit ETH_QSTATUS [(q : Nat)] ETH_QSTATUS.ERROR = true ∧
        t.getF ETH_QSTATUS [(q : Nat)] ETH_QSTATUS.ERR_CAUSE = 2 ∧ t.getF ETH_QSTATUS [(q : Nat)] ETH_QSTATUS.CHEAD = ch ∧
        RegsKept [ETH_QSTATUS.addr [(q : Nat)]] s t ∧ Frame [.regs] s t))) ∧
    (s.dieUp 11 = true → s.bit ETH_QSTATUS [(q : Nat)] ETH_QSTATUS.ENABLED = true → (s.ethQueue q).poll = true →
      (s.rangeAway (s.ethQueue q).tail 8 = none → s.EthTailTo q (leNat (s.readMem (s.ethQueue q).tail 8)) (exec (.queueTailPoll q false) s)) ∧
      Completes (exec (.queueTailPoll q true) s) (fun t => t.bit ETH_QSTATUS [(q : Nat)] ETH_QSTATUS.ERROR = true ∧
        t.getF ETH_QSTATUS [(q : Nat)] ETH_QSTATUS.ERR_CAUSE = 3 ∧ RegsKept [ETH_QSTATUS.addr [(q : Nat)]] s t ∧ Frame [.regs] s t))) ∧
  (∀ (q : Fin 32) (ecc : Ecc) (late : Bool) (s : State), s.EthWf →
    let x := s.ethQueue q
    let hd := s.getF ETH_QSTATUS [(q : Nat)] ETH_QSTATUS.HEAD
    let next (t : State) : Prop := t.getF ETH_QSTATUS [(q : Nat)] ETH_QSTATUS.HEAD = (hd + 1) % 2 ^ x.log2n ∧ (t.ethQueue q).taken = x.taken + 1
    let tx := s.readMem (x.ring + 32 * hd) 32
    let rx := s.readMem (x.ring + 16 * hd) 16
    (s.getF ETH_QSTATUS [(q : Nat)] ETH_QSTATUS.TAIL = hd ∨ s.ethRoom q = false ∨ s.bit ETH_QSTATUS [(q : Nat)] ETH_QSTATUS.ERROR = true ∨ s.dieUp 11 = false →
      exec (.descriptorTake q ecc false late) s = .next s) ∧
    (s.Takes q 1 ∨ s.Takes q 2 → Completes (exec (.descriptorTake q ecc true late) s) (fun t => t.bit ETH_QSTATUS [(q : Nat)] ETH_QSTATUS.ERROR = true ∧
      t.getF ETH_QSTATUS [(q : Nat)] ETH_QSTATUS.ERR_CAUSE = 3 ∧ t.getF ETH_QSTATUS [(q : Nat)] ETH_QSTATUS.HEAD = hd ∧ Frame [.regs] s t)) ∧
    (s.Takes q 1 → s.rangeAway (x.ring + 32 * hd) 32 = none →
      let off := leAt tx 0 8
      let len := leAt tx 8 4
      let ok := s.dmaRange off len = true ∧ leAt tx 16 1 < 2 ∧ leAt tx 17 15 = 0 ∧ 60 ≤ len ∧ len ≤ (s.ethPort ((q : Nat) / 16)).maxFrame - 4
      (¬ok → Completes (exec (.descriptorTake q ecc false late) s) (fun t => next t ∧ t.bit ETH_EVENT [(q : Nat) / 16] ETH_EVENT.BAD_DESC = true ∧
        (∃ j : EthJob, (t.ethQueue q).jobs = x.jobs ++ [j] ∧ j.ended = true ∧ j.status = stBadParam ∧ j.bytes = 0 ∧ j.tag = leAt tx 12 4) ∧
        Frame [.regs, .eth, .arb] s t)) ∧
      (ok → s.rangeAway off len = none → (ecc = .clean ∨ boardBase ≤ off) → Completes (exec (.descriptorTake q ecc false late) s) (fun t => next t ∧
        (∃ j : EthJob, (t.ethQueue q).jobs = x.jobs ++ [j] ∧ j.ended = false ∧ j.data = some (s.readMem off len) ∧ j.len = len ∧ j.tag = leAt tx 12 4 ∧
          j.notice = decide (leAt tx 16 1 = 1)) ∧ RegsKept [ETH_QSTATUS.addr [(q : Nat)]] s t ∧ Frame [.regs, .eth] s t)) ∧
      (ok → (s.rangeAway off len).isSome = true → Completes (exec (.descriptorTake q ecc false late) s) (fun t =>
        (late = true → t.bit ETH_EVENT [(q : Nat) / 16] ETH_EVENT.DMA_WAIT = true) ∧ (late = false → t = s) ∧ Frame [.regs] s t))) ∧
    (s.Takes q 2 → s.rangeAway (x.ring + 32 * hd) 32 = none →
      let off := leAt tx 0 8
      let len := leAt tx 8 4
      let size := ((s.ethPort ((q : Nat) / 16)).maxFrame - 134) / 64 * 64
      s.dmaRange off len = true → leAt tx 16 1 < 2 → leAt tx 17 15 = 0 → s.rangeAway off len = none → 0 < size →
      Completes (exec (.descriptorTake q ecc false late) s) (fun t => next t ∧ (t.ethQueue q).msg = (x.msg + 1) % 2 ^ 32 ∧
        (∃ j : EthJob, (t.ethQueue q).jobs = x.jobs ++ [j] ∧ j.msg = x.msg ∧ j.seg0 = x.next ∧ j.segSize = size ∧ len ≤ j.segs * size ∧ j.segs * size < len + size ∧
          (t.ethQueue q).next = (x.next + j.segs) % 2 ^ 32) ∧ RegsKept [ETH_QSTATUS.addr [(q : Nat)]] s t ∧ Frame [.regs, .eth] s t)) ∧
    (∀ f, s.Takes q 3 → s.rawFrame q = some f → s.rangeAway (x.ring + 16 * hd) 16 = none →
      let off := leAt rx 0 8
      let len := leAt rx 8 4
      let n := min len f.bytes.length
      s.dmaRange off len = true → off < boardBase → s.rangeAway off len = none → Completes (exec (.descriptorTake q ecc false late) s) (fun t => next t ∧
        t.readMem off n = f.bytes.take n ∧ (∀ a, a < off ∨ off + n ≤ a → t.mbyte a = s.mbyte a) ∧
        (t.ethPort ((q : Nat) / 16)).rx = dropFirst (fun y => y == f) (s.ethPort ((q : Nat) / 16)).rx ∧
        (∃ j : EthJob, (t.ethQueue q).jobs = x.jobs ++ [j] ∧ j.ended = true ∧ j.bytes = n ∧ j.info = f.pri ∧
          (len < f.bytes.length → j.status = stBadLength ∧ j.trunc = true) ∧ (f.bytes.length ≤ len → j.status = stOk ∧ j.trunc = false)) ∧
        RegsKept [ETH_QSTATUS.addr [(q : Nat)]] s t ∧ Frame [.regs, .eth, .mem] s t))) ∧
  (∀ (q : Fin 32) (j : EthJob) (rest : List EthJob) (s : State), s.EthWf → (s.ethQueue q).jobs = j :: rest → s.dieUp 11 = true →
    let x := s.ethQueue q
    let ct := s.getF ETH_QSTATUS [(q : Nat)] ETH_QSTATUS.CTAIL
    let ph := s.getF ETH_QSTATUS [(q : Nat)] ETH_QSTATUS.PHASE
    let at_ := x.cpl + 16 * ct
    (j.ended = false ∨ s.ethHeld q j.seq = true → exec (.ethDmaComplete q false) s = .next s) ∧
    (j.ended = true → s.ethHeld q j.seq = false → s.rangeAway at_ 16 = none → x.deleting = none →
      Completes (exec (.ethDmaComplete q true) s) (fun t => (t.ethQueue q).jobs = rest ∧ t.bit ETH_QSTATUS [(q : Nat)] ETH_QSTATUS.ERROR = true ∧
        t.getF ETH_QSTATUS [(q : Nat)] ETH_QSTATUS.ERR_CAUSE = 3 ∧ Frame [.regs, .eth] s t) ∧
      (x.log2n ≤ 12 → ct < 2 ^ x.log2n → at_ + 16 ≤ boardBase → x.ntDie < 8 → Completes (exec (.ethDmaComplete q false) s) (fun t =>
        (t.ethQueue q).jobs = rest ∧ t.getF ETH_QSTATUS [(q : Nat)] ETH_QSTATUS.CTAIL = (ct + 1) % 2 ^ x.log2n ∧
        t.getF ETH_QSTATUS [(q : Nat)] ETH_QSTATUS.PHASE = (if ct + 1 = 2 ^ x.log2n then 1 - ph else ph) ∧
        t.readMem at_ 16 = leBytes 4 j.tag ++ leBytes 4 j.bytes ++ leBytes 1 j.status ++ leBytes 1 (ph + 2 * b2n j.trunc) ++ leBytes 2 0 ++ leBytes 4 j.info ∧
        (∀ a, a < at_ ∨ at_ + 16 ≤ a → t.mbyte a = s.mbyte a) ∧
        (j.status = stIntegrity → t.bit ETH_EVENT [(q : Nat) / 16] ETH_EVENT.DMA_FAIL = true) ∧
        (j.notice = true → s.dieUp x.ntDie = false → t.bit ETH_EVENT [(q : Nat) / 16] ETH_EVENT.NOTICE_LOST = true ∧ t.score.tallies = s.score.tallies) ∧
        (j.notice = true → s.dieUp x.ntDie = true → tok 0 s.score.tallies = true →
          tget 0 t.score.tallies (256 * x.ntDie + x.ntTally) = min 65535 (tget 0 s.score.tallies (256 * x.ntDie + x.ntTally) + x.ntCount)) ∧
        (j.notice = false → t.score = s.score ∧ t.books = s.books)))) ∧
    (∀ c, j.ended = true → s.ethHeld q j.seq = false → s.rangeAway at_ 16 = none → x.deleting = some c → rest = [] → j.notice = false →
      ∃ u : State, u.ethQueue q = {} ∧ u.reg ETH_QSTATUS [(q : Nat)] = ETH_QSTATUS.resetAt [(q : Nat)] ∧
        exec (.ethDmaComplete q false) s = .next (u.complete c stOk []))) ∧
  (∀ (q : Fin 32) (fail : Bool) (s : State), (s.ethQueue q).jobs = [] → (s.ethQueue q).deleting = none → exec (.ethDmaComplete q fail) s = .next s) ∧
  (∀ (c : Cmd) (s : State), s.EthWf → s.Accepts c 0x0802 → s.dieUp 11 = true → c.tIndex < 2 → c.par 0 1 < 16 → c.parZero 4 12 = true →
    let q := 16 * c.tIndex + c.par 0 1
    let free := s.bit ETH_QSTATUS [q] ETH_QSTATUS.ENABLED = false
    (c.par 1 1 = 0 → c.inlineLen ≠ 0 → exec (.portQueueCreate c) s = .next (s.complete c stBadLength [])) ∧
    (c.par 1 1 = 0 → c.inlineLen = 0 → free → exec (.portQueueCreate c) s = .next (s.complete c stOk [])) ∧
    (c.par 1 1 = 0 → c.inlineLen = 0 → ¬free → s.getF ETH_QSTATUS [q] ETH_QSTATUS.KIND ≠ 2 → (s.ethQueue q).deleting = none →
      ((s.ethQueue q).jobs = [] → ∃ u : State, u.ethQueue q = {} ∧ u.reg ETH_QSTATUS [q] = ETH_QSTATUS.resetAt [q] ∧ Frame [.regs, .eth] s u ∧
        exec (.portQueueCreate c) s = .next (u.complete c stOk [])) ∧
      ((s.ethQueue q).jobs ≠ [] → Completes (exec (.portQueueCreate c) s) (fun t => (t.ethQueue q).deleting = some c ∧ t.ethIs q 1 = false ∧ t.ethIs q 3 = false ∧
        t.ethIs q 4 = false ∧ Frame [.eth] s t))) ∧
    (1 ≤ c.par 1 1 → c.par 1 1 ≤ 4 →
      (c.inlineLen = 64 → s.queueOk c = false → exec (.portQueueCreate c) s = .next (s.complete c stBadParam [])) ∧
      (c.inlineLen ≠ 64 → exec (.portQueueCreate c) s = .next (s.complete c stBadLength [])) ∧
      (c.inlineLen = 64 → s.queueOk c = true → ¬free → exec (.portQueueCreate c) s = .next (s.complete c stBusy [])) ∧
      (c.inlineLen = 64 → s.queueOk c = true → free → c.par 1 1 = 4 → (∃ r, r < 32 ∧ s.ethIs r 4 = true ∧ (s.ethQueue r).flow = leAt c.inl 50 4) →
        exec (.portQueueCreate c) s = .next (s.complete c stResource [])) ∧
      (c.inlineLen = 64 → s.queueOk c = true → free → (c.par 1 1 = 4 → ∀ r, r < 32 → s.ethIs r 4 = true → (s.ethQueue r).flow ≠ leAt c.inl 50 4) →
        ∃ u : State, u.ethIs q (c.par 1 1) = true ∧ u.getF ETH_QSTATUS [q] ETH_QSTATUS.HEAD = 0 ∧ u.getF ETH_QSTATUS [q] ETH_QSTATUS.TAIL = 0 ∧
          u.getF ETH_QSTATUS [q] ETH_QSTATUS.PHASE = 1 ∧ (u.ethQueue q).log2n = c.par 2 1 ∧ (u.ethQueue q).ring = leAt c.inl 0 8 ∧ (u.ethQueue q).jobs = [] ∧
          (c.par 1 1 = 2 → (u.ethQueue q).epoch = s.eth.epoch ∧ u.eth.epoch = (if (s.eth.epoch + 1) % 256 = 0 then 1 else (s.eth.epoch + 1) % 256)) ∧
          (c.par 1 1 ≠ 2 → (u.ethQueue q).epoch = 0 ∧ u.eth.epoch = s.eth.epoch) ∧ RegsKept [ETH_QSTATUS.addr [q]] s u ∧ Frame [.regs, .eth] s u ∧
          exec (.portQueueCreate c) s = .next (u.complete c stOk []))))

/-- R742 to R748, R750 and R751. -/
def Obligations.RbtFlowsAndPortCommands : Prop :=
  (∀ (q : Fin 32) (n : Nat) (may : Bool) (f : RxFrame) (ip : List Byte) (u : Nat) (s : State), s.EthWf → s.RbtData q n f ip u →
    let p : Nat := (q : Nat) / 16
    let x := s.ethQueue q
    let e := rbtEpoch f.bytes
    let d := serialDiff 32 (rbtSeq f.bytes) x.seq
    let gone (t : State) : Prop := (t.ethPort p).rx = dropFirst (fun y => y == f) (s.ethPort p).rx
    let zero := rbtSeq f.bytes = 0 ∧ rbtMsg f.bytes = 0
    (zero → e ≠ 0 → e ≠ x.epoch → Completes (exec (.rbtDataReceive q n may) s) (fun t => (t.ethQueue q).epoch = e ∧ (t.ethQueue q).seq = 0 ∧
      (t.ethQueue q).msg = 0 ∧ (t.ethQueue q).marks = [] ∧ (t.ethQueue q).jobs.length = x.jobs.length ∧
      (∀ k (hk : k < x.jobs.length), (t.ethQueue q).jobs[k]? = some (if x.jobs[k].ended then x.jobs[k] else x.jobs[k].stop stPeerReset x.jobs[k].written)) ∧
      Frame [.eth] s t)) ∧
    (e = 0 ∨ (e ≠ x.epoch ∧ ¬zero) → Completes (exec (.rbtDataReceive q n may) s) (fun t => gone t ∧ Counted ETH_CNT [p, 30] ETH_CNT.COUNT 1 s t ∧
      (t.ethQueue q).jobs = x.jobs ∧
      (may = false → RegsKept [ETH_CNT.addr [p, 30]] s t ∧ Frame [.regs, .eth] s t) ∧
      (may = true → t.bit ETH_EVENT [p] ETH_EVENT.RBT_ABORT = true ∧ ∃ sec, t.eth.sent = s.eth.sent ++
        [.rbt p ip u (rbtPacket 4 0 e x.flow 0 (rbtMsg f.bytes) 0 0 (leBytes 1 stPeerReset)) sec]))) ∧
    (e = x.epoch → e ≠ 0 → d < 0 ∨ rbtSeq f.bytes ∈ x.marks → Completes (exec (.rbtDataReceive q n may) s) (fun t => gone t ∧
      Counted ETH_CNT [p, 28] ETH_CNT.COUNT 1 s t ∧ (t.ethQueue q).jobs = x.jobs ∧ (t.ethQueue q).seq = x.seq ∧ t.mem = s.mem ∧
      ∃ sec, t.eth.sent = s.eth.sent ++ [.rbt p x.src x.srcPort (rbtPacket 2 0 x.epoch x.flow (s.ackBase q) 0 0 0 []) sec])) ∧
    (e = x.epoch → e ≠ 0 → 4096 ≤ d → rbtSeq f.bytes ∉ x.marks → Completes (exec (.rbtDataReceive q n may) s) (fun t => gone t ∧
      Counted ETH_CNT [p, 30] ETH_CNT.COUNT 1 s t ∧ t.eth.queues = s.eth.queues ∧ RegsKept [ETH_CNT.addr [p, 30]] s t ∧ Frame [.regs, .eth] s t)) ∧
    (e = x.epoch → e ≠ 0 → 0 ≤ d → d < 4096 → rbtSeq f.bytes ∉ x.marks → crc32c (f.bytes.drop 32) ≠ leAt f.bytes 28 4 →
      Completes (exec (.rbtDataReceive q n may) s) (fun t => gone t ∧ Counted ETH_CNT [p, 29] ETH_CNT.COUNT 1 s t ∧ t.eth.queues = s.eth.queues ∧
        RegsKept [ETH_CNT.addr [p, 29]] s t ∧ Frame [.regs, .eth] s t)) ∧
    (∀ j, e = x.epoch → e ≠ 0 → 0 < d → d < 4096 → rbtSeq f.bytes ∉ x.marks → crc32c (f.bytes.drop 32) = leAt f.bytes 28 4 →
      x.jobs.find? (fun y => y.msg == rbtMsg f.bytes) = some j → j.ended = false → s.rangeAway j.off j.len = none → j.off + j.len ≤ boardBase → x.seq < 2 ^ 32 →
      x.seq ∉ x.marks → x.accepted < 15 →
      let pay := (f.bytes.drop 32).take (j.len - rbtMoff f.bytes)
      Completes (exec (.rbtDataReceive q n may) s) (fun t => gone t ∧ (t.ethQueue q).marks = x.marks ++ [rbtSeq f.bytes] ∧ (t.ethQueue q).seq = x.seq ∧
        (t.ethQueue q).accepted = x.accepted + 1 ∧ t.readMem (j.off + rbtMoff f.bytes) pay.length = pay ∧
        (∀ a, a < j.off + rbtMoff f.bytes ∨ j.off + rbtMoff f.bytes + pay.length ≤ a → t.mbyte a = s.mbyte a) ∧ Frame [.mem, .eth] s t)) ∧
    (e = x.epoch → e ≠ 0 → 0 ≤ d → d < 4096 → rbtSeq f.bytes ∉ x.marks → crc32c (f.bytes.drop 32) = leAt f.bytes 28 4 →
      x.jobs.find? (fun y => y.msg == rbtMsg f.bytes) = none → serialGe 32 (rbtMsg f.bytes) x.msg = true →
      Completes (exec (.rbtDataReceive q n may) s) (fun t => (t.ethPort p).rx = (s.ethPort p).rx ∧ t.mem = s.mem ∧ (t.ethQueue q).jobs = x.jobs ∧ Frame [.eth] s t))) ∧
  (∀ (q : Fin 32) (s : State), s.EthWf → s.dieUp 11 = true →
    let p : Nat := (q : Nat) / 16
    let x := s.ethQueue q
    (s.ethIs q 4 = true → x.accepted ≠ 0 → Completes (exec (.rbtAckTimer q) s) (fun t => (t.ethQueue q).accepted = 0 ∧
      ∃ sec, t.eth.sent = s.eth.sent ++ [.rbt p x.src x.srcPort (rbtPacket 2 0 x.epoch x.flow (s.ackBase q) 0 0 0 []) sec])) ∧
    (s.ethIs q 4 = false ∨ x.accepted = 0 → exec (.rbtAckTimer q) s = .next s) ∧
    (s.ethIs q 4 = false ∨ x.marks = [] → exec (.rbtNakTimer q) s = .next s) ∧
    (s.ethIs q 4 = true → x.marks ≠ [] → Completes (exec (.rbtNakTimer q) s) (fun t => t.eth.queues = s.eth.queues ∧
      ∃ sec map, t.eth.sent = s.eth.sent ++ [.rbt p x.src x.srcPort (rbtPacket 3 0 x.epoch x.flow x.seq 0 0 0 (leBytes 8 map)) sec] ∧
        ∀ i, i < 64 → (map.testBit i = true ↔ (x.seq + i) % 2 ^ 32 ∉ x.marks ∧ ∃ m ∈ x.marks, (i : Int) < serialDiff 32 m x.seq))) ∧
    (let left := (serialDiff 32 x.seq x.una).toNat
     s.ethIs q 2 = true → left ≠ 0 →
      (x.rtos + 1 < 8 → Completes (exec (.rbtRto q) s) (fun t =>
        t.ethQueue q = { x with rtos := x.rtos + 1, resend := (List.range left).map (fun i => (x.una + i) % 2 ^ 32) } ∧ Frame [.eth] s t)) ∧
      (∀ j, 8 ≤ x.rtos + 1 → x.jobs.find? (fun y => !y.ended) = some j → (∀ y ∈ x.jobs, y.seq = j.seq → y = j) → Completes (exec (.rbtRto q) s) (fun t =>
        t.bit ETH_EVENT [p] ETH_EVENT.RBT_ABORT = true ∧ (t.ethQueue q).rtos = 0 ∧
        (t.ethQueue q).jobs = mapIf (fun y => y == j) (fun y => y.stop stTimeout (y.acked x.una)) x.jobs ∧
        ∃ sec, t.eth.sent = s.eth.sent ++ [.rbt p x.peerIp x.peerPort (rbtPacket 4 0 x.epoch x.flow 0 j.msg 0 0 (leBytes 1 stTimeout)) sec])))) ∧
  (∀ (p : Fin 2) (n type : Nat) (f : RxFrame) (ip : List Byte) (u : Nat) (s : State), s.EthWf → s.dieUp 11 = true → s.rbtFrame p type n = some (f, ip, u) →
    let pk := f.bytes
    let who := s.rbtSender p (rbtFlow pk) (rbtEpoch pk) ip
    let gone (t : State) : Prop := (t.ethPort p).rx = dropFirst (fun y => y == f) (s.ethPort p).rx
    let bad (t : State) : Prop := gone t ∧ Counted ETH_CNT [(p : Nat), 29] ETH_CNT.COUNT 1 s t ∧ t.eth.queues = s.eth.queues ∧
      RegsKept [ETH_CNT.addr [(p : Nat), 29]] s t ∧ Frame [.regs, .eth] s t
    (rbtGood pk = false → (type = 2 → Completes (exec (.rbtAckReceive p n) s) bad) ∧ (type = 3 → Completes (exec (.rbtNakReceive p n) s) bad) ∧
      (type = 4 → Completes (exec (.rbtAbortReceive p n) s) bad)) ∧
    (rbtGood pk = true → who = none → (type = 2 → Completes (exec (.rbtAckReceive p n) s) (fun t => gone t ∧ t.eth.queues = s.eth.queues ∧ Frame [.eth] s t)) ∧
      (type = 3 → Completes (exec (.rbtNakReceive p n) s) (fun t => gone t ∧ t.eth.queues = s.eth.queues ∧ Frame [.eth] s t))) ∧
    (∀ q, who = some q → q ∈ portQueues p ∧ s.getF ETH_QSTATUS [q] ETH_QSTATUS.KIND = 2 ∧ (s.ethQueue q).flow = rbtFlow pk ∧ (s.ethQueue q).peerIp = ip ∧
      (s.ethQueue q).epoch = rbtEpoch pk) ∧
    (∀ q, rbtGood pk = true → who = some q →
      let x := s.ethQueue q
      let a := rbtSeq pk
      (type = 2 → newer 32 a x.una = true → serialGe 32 x.seq a = true → Completes (exec (.rbtAckReceive p n) s) (fun t => gone t ∧
        (t.ethQueue q).una = a ∧ (t.ethQueue q).rtos = 0 ∧ (t.ethQueue q).resend = x.resend.filter (fun k => serialGe 32 k a) ∧
        (t.ethQueue q).jobs = mapIf (fun j => !j.ended && decide ((j.segs : Int) ≤ serialDiff 32 a j.seg0)) (fun j => j.stop stOk j.len) x.jobs ∧ Frame [.eth] s t)) ∧
      (type = 2 → newer 32 a x.una = false → Completes (exec (.rbtAckReceive p n) s) (fun t => gone t ∧ t.ethQueue q = x ∧ Frame [.eth] s t)) ∧
      (type = 3 → Completes (exec (.rbtNakReceive p n) s) (fun t => gone t ∧ Frame [.eth] s t ∧
        ∀ k, k ∈ (t.ethQueue q).resend ↔ k ∈ x.resend ∨ ∃ i, i < 64 ∧ (leAt pk 32 8).testBit i = true ∧ k = (a + i) % 2 ^ 32 ∧ serialGe 32 k x.una = true ∧
          newer 32 x.seq k = true)) ∧
      (type = 4 → (∀ r ∈ portQueues p, s.ethIs r 4 = false) →
        (leAt pk 32 1 = stPeerReset → Completes (exec (.rbtAbortReceive p n) s) (fun t => gone t ∧ t.bit ETH_EVENT [(p : Nat)] ETH_EVENT.RBT_ABORT = true ∧
          (t.ethQueue q).epoch = s.eth.epoch ∧ (t.ethQueue q).msg = 0 ∧ (t.ethQueue q).seq = 0 ∧ (t.ethQueue q).una = 0 ∧
          (t.ethQueue q).jobs = mapIf (fun j => !j.ended) (fun j => j.stop stPeerReset (j.acked x.una)) x.jobs ∧ Frame [.regs, .eth] s t)) ∧
        (leAt pk 32 1 ≠ stPeerReset → Completes (exec (.rbtAbortReceive p n) s) (fun t => gone t ∧ t.ethQueue q = x ∧
          t.bit ETH_EVENT [(p : Nat)] ETH_EVENT.RBT_ABORT = true ∧ Frame [.regs, .eth] s t))))) ∧
  (∀ (c : Cmd) (s : State), s.EthWf → c.tIndex < 2 →
    let p := c.tIndex
    let h (q : Nat) : Nat := leAt c.inl (4 * q) 2
    let l (q : Nat) : Nat := leAt c.inl (4 * q + 2) 2
    (s.Accepts c 0x0801 → (s.dieFolded 11 = true → exec (.portConfig c) s = .next (s.complete c stUnitFolded [])) ∧
      (s.dieFolded 11 = false → s.dieInReset 11 = true → exec (.portConfig c) s = .next (s.complete c stUnitInReset []))) ∧
    (s.dieUp 11 = true → s.Accepts c 0x0801 →
      let ok := c.par 0 1 ≤ 3 ∧ c.par 1 1 < 4 ∧ 1518 ≤ c.par 8 2 ∧ c.par 8 2 ≤ 9216 ∧ c.par 10 1 ≤ 2 ∧ c.par 11 1 < 8 ∧ c.par 14 2 = 0
      (¬ok → exec (.portConfig c) s = .next (s.complete c stBadParam [])) ∧
      (ok → c.inlineLen ≠ 16 → exec (.portConfig c) s = .next (s.complete c stBadLength [])) ∧
      (ok → c.inlineLen = 16 → (∃ q ∈ portQueues p, s.bit ETH_QSTATUS [q] ETH_QSTATUS.ENABLED = true) →
        exec (.portConfig c) s = .next (s.complete c stBusy [])) ∧
      (ok → c.inlineLen = 16 → (∀ q ∈ portQueues p, s.bit ETH_QSTATUS [q] ETH_QSTATUS.ENABLED = false) → ∃ u : State,
        u.getF ETH_PORT_STATUS [p] ETH_PORT_STATUS.SPEED = c.par 0 1 ∧ u.getF ETH_PORT_STATUS [p] ETH_PORT_STATUS.FC = c.par 10 1 ∧
        u.bit ETH_PORT_STATUS [p] ETH_PORT_STATUS.MACSEC_REQ = (c.par 1 1).testBit 1 ∧ (u.ethPort p).mac = slice c.slot 18 6 ∧
        (u.ethPort p).maxFrame = c.par 8 2 ∧ (u.ethPort p).defPri = c.par 11 1 ∧ (u.ethPort p).rbtPort = (if c.par 12 2 = 0 then 21223 else c.par 12 2) ∧
        (u.ethPort p).ip = c.inl ∧ (u.ethPort p).rx = (s.ethPort p).rx ∧ RegsKept [ETH_PORT_STATUS.addr [p]] s u ∧ Frame [.regs, .eth] s u ∧
        exec (.portConfig c) s = .next (u.complete c stOk []))) ∧
    (s.dieUp 11 = true → s.Accepts c 0x0803 →
      let ok := c.par 1 2 ≠ 0 ∧ c.par 3 13 = 0 ∧ (s.ethFc p = 1 → c.par 0 1 < 2)
      let marks := ∀ q, q < 8 → 1 ≤ h q ∧ h q ≤ 2048 ∧ l q < h q
      (¬ok → exec (.pfcConfig c) s = .next (s.complete c stBadParam [])) ∧
      (ok → c.inlineLen ≠ 32 → exec (.pfcConfig c) s = .next (s.complete c stBadLength [])) ∧
      (ok → c.inlineLen = 32 → ¬marks → exec (.pfcConfig c) s = .next (s.complete c stBadParam [])) ∧
      (ok → c.inlineLen = 32 → marks → ∃ u : State, (u.ethPort p).enable = c.par 0 1 ∧ (u.ethPort p).quanta = c.par 1 2 ∧ (u.ethPort p).rx = (s.ethPort p).rx ∧
        (∀ q, q < 8 → u.getF NTC_MARKS [16 + 8 * p + q] NTC_MARKS.HIGH = h q ∧ u.getF NTC_MARKS [16 + 8 * p + q] NTC_MARKS.LOW = l q) ∧
        exec (.pfcConfig c) s = .next (u.complete c stOk []))) ∧
    (s.dieUp 11 = true → s.Accepts c 0x0804 → tok none (s.ethPort p).txSa = true →
      let an := c.par 1 1
      let x := s.ethPort p
      (c.par 0 1 = 3 → an < 4 → c.par 2 14 = 0 →
        (tget none x.txSa an = none → exec (.macsecSa c) s = .next (s.complete c stBadParam [])) ∧
        (∀ a, tget none x.txSa an = some a → c.inlineLen = 0 → a.pn < 2 ^ 64 → ∃ u : State, u.activeSa p = some a ∧
          u.getF ETH_PORT_STATUS [p] ETH_PORT_STATUS.TX_AN = an ∧ u.getF ETH_TX_PN [p] ETH_TX_PN.PN = a.pn ∧ Frame [.regs, .eth, .arb] s u ∧
          exec (.macsecSa c) s = .next (u.complete c stOk []))) ∧
      (c.par 0 1 = 4 → an < 4 → c.par 2 14 = 0 → c.inlineLen = 0 →
        (x.txOn = true → s.getF ETH_PORT_STATUS [p] ETH_PORT_STATUS.TX_AN = an → exec (.macsecSa c) s = .next (s.complete c stBusy [])) ∧
        (x.txOn = false → ∃ u : State, tget none (u.ethPort p).txSa an = none ∧ Frame [.eth] s u ∧ exec (.macsecSa c) s = .next (u.complete c stOk []))) ∧
      (c.par 0 1 = 1 → an < 4 → c.par 2 2 = 0 → c.par 12 4 = 0 → c.inlineLen = 28 → leAt c.inl 8 8 ≠ 0 → leAt c.inl 0 8 = 0 →
        (s.keyOf (c.par 4 4) = none → exec (.macsecSa c) s = .next (s.complete c stNotAuthorized [])) ∧
        (∀ i k, s.keyOf (c.par 4 4) = some (i, k) → k.typ = 1 → s.mayUse c k = true → ((tget none x.txSa an).isSome = true →
            exec (.macsecSa c) s = .next (s.complete c stBusy [])) ∧
          (tget none x.txSa an = none → ∃ u : State, tget none (u.ethPort p).txSa an = some { handle := c.par 4 4, key := k.key, ssci := c.par 8 4
                                                                                              salt := slice c.inl 16 12, pn := leAt c.inl 8 8
                                                                                              window := 0, next := leAt c.inl 8 8 } ∧
            Frame [.eth] s u ∧ exec (.macsecSa c) s = .next (u.complete c stOk []))))))
namespace Sys2Proof.Machine

/-- The own and the partner's entries of Score bar n; each has one entry for a unit and stream, in the widths of their tack (R774). -/
def State.unOwn (s : State) (n : Nat) : List UnEntry := s.unison.own.filter (fun e => e.sbar == n)
def State.unPeer (s : State) (n : Nat) : List UnEntry := s.unison.peer.filter (fun e => e.sbar == n)
def UnEntry.key (e : UnEntry) : Nat × Nat := (e.unit, e.stream)
def UnKeyed (l : List UnEntry) : Prop :=
  (∀ e ∈ l, ∀ f ∈ l, e.key = f.key → e = f) ∧ ∀ e ∈ l, e.unit < 256 ∧ e.stream < 4096 ∧ e.digest < 2 ^ 64

/-- An entry of Score bar n disagrees (R777): the two digests differ, or one side has none. -/
def State.unDisagrees (s : State) (n : Nat) (e : UnEntry) : Prop :=
  (e ∈ s.unOwn n ∧ ∀ x ∈ s.unPeer n, x.key = e.key → x.digest ≠ e.digest) ∨ (e ∈ s.unPeer n ∧ ∀ x ∈ s.unOwn n, x.key ≠ e.key)

end Sys2Proof.Machine

/-- R763 and R764. -/
def Obligations.ReproProfileSet : Prop :=
  ∀ (c : Cmd) (s : State), s.wf → s.Accepts c 0x0901 →
    let good := c.par 0 1 ≤ 2 ∧ c.par 1 1 ≤ 2 ∧ c.par 2 1 < 2 ∧ c.par 3 13 = 0
    let busy := (∃ d ∈ s.condDies, s.bit SCR_STATUS [d] SCR_STATUS.INSTALLED = true) ∨ s.tempo.armed = true ∨ s.tempo.running = true ∨
      s.bit GLB_MODE [] GLB_MODE.UNISON = true
    (¬good → exec (.reproProfileSet c) s = .next (s.complete c stBadParam [])) ∧
    (good → busy → exec (.reproProfileSet c) s = .next (s.complete c stBusy [])) ∧
    (good → ¬busy → ∃ u : State, u.getF GLB_REPRO_PROFILE [] GLB_REPRO_PROFILE.ACCUM = c.par 0 1 ∧
      u.getF GLB_REPRO_PROFILE [] GLB_REPRO_PROFILE.SUBNORM = c.par 1 1 ∧ u.getF GLB_REPRO_PROFILE [] GLB_REPRO_PROFILE.METRONOME = c.par 2 1 ∧
      u.getF GLB_MODE [] GLB_MODE.METRONOME = c.par 2 1 ∧
      (∀ f ∈ [GLB_REPRO_PROFILE.STEP_CLASS, GLB_REPRO_PROFILE.NFW_CLASS], u.getF GLB_REPRO_PROFILE [] f = s.getF GLB_REPRO_PROFILE [] f) ∧
      (∀ f ∈ [GLB_MODE.UNISON, GLB_MODE.VARIANT_SEEN, GLB_MODE.PROFILE_MOVED], u.getF GLB_MODE [] f = s.getF GLB_MODE [] f) ∧
      RegsKept [GLB_REPRO_PROFILE.addr [], GLB_MODE.addr []] s u ∧ Frame [.regs] s u ∧
      exec (.reproProfileSet c) s = .next (u.complete c stOk (leBytes 8 (u.reg GLB_REPRO_PROFILE []).toNat)))

/-- R768, R773, R777 to R781, R783 and R784. -/
def Obligations.UnisonCompares : Prop :=
  (∀ (c : Cmd) (s : State), s.wf → s.Accepts c 0x0902 →
    let act := c.par 0 1
    let good := (act = 1 ∨ act = 2) ∧ c.par 1 1 < 2 ∧ c.par 4 2 ≠ 0 ∧ c.par 2 2 < 16384 ∧ c.par 6 10 = 0
    let busy := s.busyTempo = true ∨ (act = 1 ∧ s.bit UN_CTRL [] UN_CTRL.PAIRED = true)
    (¬good → exec (.unisonPair c) s = .next (s.complete c stBadParam [])) ∧
    (good → act = 1 → s.bit GLB_MODE [] GLB_MODE.METRONOME = false → exec (.unisonPair c) s = .next (s.complete c stProfileMismatch [])) ∧
    (good → (act = 1 → s.bit GLB_MODE [] GLB_MODE.METRONOME = true) →
      (busy → exec (.unisonPair c) s = .next (s.complete c stBusy [])) ∧
      (¬busy → s.rankAbsent (8 + c.par 1 1) (c.par 2 2) = true → exec (.unisonPair c) s = .next (s.complete c stSliceViolation [])) ∧
      (¬busy → s.rankAbsent (8 + c.par 1 1) (c.par 2 2) = false → ∃ u : State, u.bit GLB_MODE [] GLB_MODE.UNISON = decide (act = 1) ∧
        u.bit UN_CTRL [] UN_CTRL.PAIRED = decide (act = 1) ∧
        (act = 1 → u.getF UN_CTRL [] UN_CTRL.IDX = c.par 1 1 ∧ u.getF UN_CTRL [] UN_CTRL.PARTNER = c.par 2 2 ∧ u.unison.waitUs = c.par 4 2) ∧
        (act = 2 → (u.reg UN_CTRL []).toNat = 0) ∧ RegsKept [GLB_MODE.addr [], UN_CTRL.addr []] s u ∧ Frame [.regs, .unison] s u ∧
        exec (.unisonPair c) s = .next (u.complete c stOk (leBytes 2 (c.par 2 2)))))) ∧
  (∀ (v : BitVec 32) (u : Fin 64) (st : Fin 4096) (e : UnEntry) (s : State), s.wf → s.bit UN_CTRL [] UN_CTRL.PAIRED = true → s.unison.started = true →
    s.replaying = false → newer 32 s.tempo.sbar v.toNat = true → s.dieInReset 10 = false → s.capturing = false → v.toNat ∉ s.unison.lost →
    let sent := exec (.digestClose v (some (u, st))) s
    ((∃ w ∈ s.score.sends, w.stream = (st : Nat) ∧ w.sbar = v.toNat) → sent = .next s) ∧
    (s.unison.open_.find? (fun e => e.sbar == v.toNat && e.unit == (u : Nat) && e.stream == (st : Nat)) = some e → (∀ w ∈ s.score.sends, w.stream = (st : Nat) → w.sbar ≠ v.toNat) →
      (s.unison.own.length + s.unison.peer.length < 1024 → Completes sent (fun t => t.unison.own = s.unison.own ++ [e] ∧ t.unison.peer = s.unison.peer ∧
        e ∉ t.unison.open_ ∧ t.getF UN_PENDING [] UN_PENDING.PENDING = s.unison.own.length + s.unison.peer.length + 1 ∧
        Frame [.regs, .sects, .tacks, .unison, .arb] s t)) ∧
      (1024 ≤ s.unison.own.length + s.unison.peer.length → Completes sent (fun t => Counted UN_UNCHECKED [] UN_UNCHECKED.COUNT 1 s t ∧
        t.bit UN_STATUS [] UN_STATUS.OVERFLOW = true ∧ v.toNat ∈ t.unison.lost ∧ Frame [.regs, .sects, .tacks, .unison, .arb] s t)))) ∧
  (∀ (v : BitVec 32) (a b : UnClose) (s : State), s.wf →
    let n := v.toNat
    s.unison.ownClose.find? (fun x => x.sbar == n) = some a → s.unison.peerClose.find? (fun x => x.sbar == n) = some b →
    UnKeyed (s.unOwn n) → UnKeyed (s.unPeer n) →
    let rec_ (t : State) : Prop := (∀ f ∈ [UN_STATUS.CAUSE, UN_STATUS.UNIT, UN_STATUS.STREAM], t.getF UN_STATUS [] f = s.getF UN_STATUS [] f) ∧
      t.reg UN_SBAR [] = s.reg UN_SBAR [] ∧ t.reg UN_OWN [] = s.reg UN_OWN [] ∧ t.reg UN_PEER [] = s.reg UN_PEER []
    let done (t : State) : Prop := t.unOwn n = [] ∧ t.unPeer n = [] ∧ (∀ m, m ≠ n → t.unOwn m = s.unOwn m ∧ t.unPeer m = s.unPeer m) ∧
      Frame [.regs, .tempo, .unison, .arb] s t
    let none_ := ∀ e, ¬s.unDisagrees n e
    ((s.unPeer n).length ≠ b.n → exec (.barCompare v) s = .next s) ∧
    ((s.unPeer n).length = b.n →
      (none_ → a.profile = b.profile → Completes (exec (.barCompare v) s) (fun t => done t ∧ rec_ t ∧ Counted UN_MATCHED [] UN_MATCHED.COUNT 1 s t ∧
        t.tempo = s.tempo ∧ t.reg UN_STATUS [] = s.reg UN_STATUS [])) ∧
      (none_ → a.profile ≠ b.profile → s.bit UN_STATUS [] UN_STATUS.MISMATCH = false → Completes (exec (.barCompare v) s) (fun t => done t ∧
        t.bit UN_STATUS [] UN_STATUS.MISMATCH = true ∧ t.getF UN_STATUS [] UN_STATUS.CAUSE = 3 ∧ t.getF UN_STATUS [] UN_STATUS.UNIT = 0xFF ∧
        t.getF UN_STATUS [] UN_STATUS.STREAM = 0 ∧ t.getF UN_SBAR [] UN_SBAR.SBAR = n ∧ t.reg UN_MATCHED [] = s.reg UN_MATCHED [])) ∧
      (∀ d, s.unDisagrees n d → s.bit UN_STATUS [] UN_STATUS.MISMATCH = false → Completes (exec (.barCompare v) s) (fun t => done t ∧
        t.bit UN_STATUS [] UN_STATUS.MISMATCH = true ∧ t.getF UN_SBAR [] UN_SBAR.SBAR = n ∧ t.reg UN_MATCHED [] = s.reg UN_MATCHED [] ∧
        ∃ e, s.unDisagrees n e ∧ (∀ f, s.unDisagrees n f → f.before e = false) ∧ t.getF UN_STATUS [] UN_STATUS.UNIT = e.unit ∧
          t.getF UN_STATUS [] UN_STATUS.STREAM = e.stream ∧
          ((t.getF UN_STATUS [] UN_STATUS.CAUSE = 1 ∧ ∃ x ∈ s.unPeer n, e ∈ s.unOwn n ∧ x.key = e.key ∧ x.digest ≠ e.digest ∧
              t.getF UN_OWN [] UN_OWN.DIGEST = e.digest ∧ t.getF UN_PEER [] UN_PEER.DIGEST = x.digest) ∨
            (t.getF UN_STATUS [] UN_STATUS.CAUSE = 2 ∧ ((e ∈ s.unOwn n ∧ ∀ x ∈ s.unPeer n, x.key ≠ e.key) ∨ (e ∈ s.unPeer n ∧ ∀ x ∈ s.unOwn n, x.key ≠ e.key)))))) ∧
      ((¬none_ ∨ a.profile ≠ b.profile) → s.bit UN_STATUS [] UN_STATUS.MISMATCH = true → Completes (exec (.barCompare v) s) (fun t => done t ∧ rec_ t ∧
        t.bit UN_STATUS [] UN_STATUS.MULTI = true ∧ t.tempo = s.tempo ∧ t.reg UN_MATCHED [] = s.reg UN_MATCHED [])))) ∧
  (∀ (v : BitVec 32) (s : State), s.wf →
    ((∃ x ∈ s.unison.ownClose, x.sbar = v.toNat) → v.toNat ∉ s.unison.lost → Completes (exec (.unisonWaitTimeout v) s) (fun t =>
      Counted UN_UNCHECKED [] UN_UNCHECKED.COUNT 1 s t ∧ t.bit UN_STATUS [] UN_STATUS.UNCHECKED = true ∧ t.unOwn v.toNat = [] ∧ t.unPeer v.toNat = [] ∧
      (∀ x ∈ t.unison.ownClose, x.sbar ≠ v.toNat) ∧ RegsKept [UN_UNCHECKED.addr [], UN_STATUS.addr [], UN_PENDING.addr []] s t ∧
      Frame [.regs, .unison, .arb] s t)) ∧
    ((∀ x ∈ s.unison.ownClose, x.sbar ≠ v.toNat) → exec (.unisonWaitTimeout v) s = .next s)) ∧
  (∀ (c : Cmd) (s : State), s.wf → s.Accepts c 0x0903 → s.waiters .capture = [] → c.par 1 3 = 0 →
    (c.par 0 1 = 1 → 40 ≤ c.par 4 4 → c.par 4 4 ≤ 16384 → c.par 8 8 % 2 ^ 20 = 0 → c.par 8 8 + c.par 4 4 * 2 ^ 20 ≤ 2 ^ 34 →
      (s.tempo.running = false ∨ s.tempo.held = false ∨ s.bit UN_CAPTURE [] UN_CAPTURE.HELD = true → exec (.unisonReplay c) s = .next (s.complete c stBusy [])) ∧
      (s.tempo.running = true → s.tempo.held = true → s.bit UN_CAPTURE [] UN_CAPTURE.HELD = false →
        (s.quiescent = false → exec (.unisonReplay c) s = .next (s.wait .capture c)) ∧
        (s.quiescent = true → s.tempo.sbar < 2 ^ 32 → s.bit UN_CAPTURE [] UN_CAPTURE.SNAPSHOT = false → Completes (exec (.unisonReplay c) s) (fun t => t.bit UN_CAPTURE [] UN_CAPTURE.HELD = true ∧
          t.bit UN_CAPTURE [] UN_CAPTURE.SNAPSHOT = true ∧ t.getF UN_CAP_SBAR [] UN_CAP_SBAR.S = s.tempo.sbar ∧ t.unison.snap.isSome = true ∧ t.unison.log = [] ∧
          t.waiters .capture = [])))) ∧
    (c.par 0 1 = 2 →
      (s.busyTempo = true → exec (.unisonReplay c) s = .next (s.complete c stBusy [])) ∧
      (s.busyTempo = false → s.unison.snap = none ∨ s.bit UN_CAPTURE [] UN_CAPTURE.COMPLETE = false → exec (.unisonReplay c) s = .next (s.complete c stScoreFault [])) ∧
      (∀ n, s.busyTempo = false → s.unison.snap = some n → s.anyInstalled = true → (s.reg SCR_JOB [0]).toNat = n.job → s.bit UN_CAPTURE [] UN_CAPTURE.COMPLETE = true →
        (∀ x ∈ n.boards, boardBase ≤ x.1) → Completes (exec (.unisonReplay c) s) (fun t => t.unison.replay = some c ∧ t.unison.left = s.unison.log ∧ ((∀ p ∈ s.presses, s.pausing p = false) → t.sects = n.sects) ∧ t.tempo.running = true ∧
          t.tempo.sbar = s.getF UN_CAP_SBAR [] UN_CAP_SBAR.S ∧ t.tempo.beat = 0 ∧ t.score.tallies = n.tallies ∧ t.score.tallySat = n.tallySat ∧ t.score.seqs = n.seqs ∧
          t.score.windows = n.windows ∧ t.books = { s.books with accepted := n.accepted, noticed := n.noticed, consumed := n.consumed } ∧ (∀ a, a < boardBase → t.mbyte a = s.mbyte a) ∧
          Frame [.regs, .mem, .press, .sects, .cond, .queues, .score, .books, .unison, .tempo] s t))) ∧
    (c.par 0 1 = 3 → ∃ u : State, u.unison.snap = none ∧ u.unison.log = [] ∧ (u.reg UN_CAPTURE []).toNat = 0 ∧ Frame [.regs, .unison] s u ∧
      exec (.unisonReplay c) s = .next (u.complete c stOk [])))
namespace Sys2Proof.Machine

/-- From `s` to `t` notice unit u, which exists, takes one update with the current value, maximum and minimum of R810; `u` carries no E0 state
with it unless it is one of E0's. -/
def NoticeStep (s t : State) (u cur mx mn : Nat) : Prop :=
  let g (f : Fld) : Nat := s.getF NTC_STATUS [u] f
  let h (f : Fld) : Nat := t.getF NTC_STATUS [u] f
  let crossed := g NTC_STATUS.ARMED = 1 ∧ s.getF NTC_MARKS [u] NTC_MARKS.HIGH ≤ mx
  let open_ := crossed ∨ g NTC_STATUS.ARMED = 0
  let low := mn ≤ s.getF NTC_MARKS [u] NTC_MARKS.LOW
  t.getF NTC_PEAK [u] NTC_PEAK.PEAK = max (s.getF NTC_PEAK [u] NTC_PEAK.PEAK) mx ∧ t.getF NTC_LEVEL [u] NTC_LEVEL.LEVEL = cur ∧
  (crossed → h NTC_STATUS.CROSSED = 1 ∧ Counted NTC_STATUS [u] NTC_STATUS.UPCOUNT 1 s t ∧
    tget 0 t.icu.edges (640 + u) = tget 0 s.icu.edges (640 + u) + 1 ∧ Logs s t 10 1 (NTC_STATUS.addr [u] + 2 ^ 32)) ∧
  (¬crossed → h NTC_STATUS.CROSSED = g NTC_STATUS.CROSSED ∧ h NTC_STATUS.UPCOUNT = g NTC_STATUS.UPCOUNT ∧ t.icu = s.icu ∧ t.arb = s.arb) ∧
  (open_ → low → h NTC_STATUS.ARMED = 1 ∧ h NTC_STATUS.FELL = 1) ∧ (open_ → ¬low → h NTC_STATUS.ARMED = 0 ∧ h NTC_STATUS.FELL = g NTC_STATUS.FELL) ∧
  (¬open_ → h NTC_STATUS.ARMED = 1 ∧ h NTC_STATUS.FELL = g NTC_STATUS.FELL) ∧ h NTC_STATUS.CFG_IGNORED = g NTC_STATUS.CFG_IGNORED

/-- Every register of the notice units but those of unit u reads as before. -/
def OnlyUnit (s t : State) (u : Nat) : Prop := ∀ v, v < 128 → v ≠ u → ∀ r ∈ [NTC_LEVEL, NTC_MARKS, NTC_STATUS, NTC_PEAK], t.reg r [v] = s.reg r [v]

end Sys2Proof.Machine

/-- R794, R795 and R808 to R814. -/
def Obligations.BooksAndNotices : Prop :=
  (∀ (m : Fin 2) (s : State), s.wf →
    let d := 8 + (m : Nat)
    let g (t : State) (f : Fld) : Nat := t.getF LIN_POOL [d] f
    ((∃ x ∈ s.books.linTransit, x.1 = d) → 0 < g s LIN_POOL.TRANSIT → g s LIN_POOL.FREE < 16384 → Completes (exec (.linenHandover m) s) (fun t =>
      g t LIN_POOL.FREE = g s LIN_POOL.FREE + 1 ∧ g t LIN_POOL.TRANSIT = g s LIN_POOL.TRANSIT - 1 ∧ g t LIN_POOL.ALLOC = g s LIN_POOL.ALLOC ∧
      (∃ a b x, s.books.linTransit = a ++ x :: b ∧ t.books.linTransit = a ++ b ∧ x.1 = d ∧ ∀ y ∈ a, y.1 ≠ d) ∧
      RegsKept [LIN_POOL.addr [d], LIN_PEAK.addr [d]] s t ∧ Frame [.regs, .books] s t)) ∧
    ((∀ x ∈ s.books.linTransit, x.1 ≠ d) → exec (.linenHandover m) s = .next s)) ∧
  (∀ (u : Fin 128) (mx mn : Nat) (s : State), s.wf → s.noticeHas u = true → s.dieInReset 10 = false → (u : Nat) < 64 → mx < 2 ^ 32 → s.noticeLevel u < 2 ^ 32 →
    let cur := s.noticeLevel u
    Completes (exec (.noticeUpdate u mx mn) s) (fun t =>
      ((u : Nat) = 0 ∨ (u : Nat) = 7 → NoticeStep s t u cur cur cur) ∧ ((u : Nat) ≠ 0 → (u : Nat) ≠ 7 → NoticeStep s t u cur (max cur mx) (min cur mn)) ∧
      t.reg NTC_MARKS [(u : Nat)] = s.reg NTC_MARKS [(u : Nat)] ∧ OnlyUnit s t u ∧ ((u : Nat) < 16 → t.eth = s.eth) ∧ Frame [.regs, .arb, .icu, .eth] s t)) ∧
  (∀ (u : Fin 128) (v : BitVec 32) (s : State), s.wf → s.dieInReset 10 = false →
    (64 ≤ (u : Nat) → Completes (exec (.ntcLevelWrite u v) s) (fun t => NoticeStep s t u v.toNat v.toNat v.toNat ∧ OnlyUnit s t u ∧ Frame [.regs, .arb, .icu] s t)) ∧
    ((u : Nat) < 64 → exec (.ntcLevelWrite u v) s = .next s)) ∧
  (∀ (u : Fin 128) (half : Fin 3) (v : Word) (s : State), s.wf → s.dieInReset 10 = false →
    let lo := if (half : Nat) = 2 then s.getF NTC_MARKS [(u : Nat)] NTC_MARKS.LOW else v.toNat % 2 ^ 32
    let hi := if (half : Nat) = 0 then v.toNat / 2 ^ 32 else if (half : Nat) = 1 then s.getF NTC_MARKS [(u : Nat)] NTC_MARKS.HIGH else v.toNat % 2 ^ 32
    let l := s.getF NTC_LEVEL [(u : Nat)] NTC_LEVEL.LEVEL
    (s.noticeHas u = false → exec (.ntcMarksWrite u half v) s = .next s) ∧
    (s.noticeHas u = true → hi ≤ lo → Completes (exec (.ntcMarksWrite u half v) s) (fun t => t.bit NTC_STATUS [(u : Nat)] NTC_STATUS.CFG_IGNORED = true ∧
      RegsKept [NTC_STATUS.addr [(u : Nat)]] s t ∧ Frame [.regs] s t)) ∧
    (s.noticeHas u = true → lo < hi → ∃ w : State, w.getF NTC_MARKS [(u : Nat)] NTC_MARKS.LOW = lo ∧ w.getF NTC_MARKS [(u : Nat)] NTC_MARKS.HIGH = hi ∧
      RegsKept [NTC_MARKS.addr [(u : Nat)]] s w ∧ Frame [.regs] s w ∧
      Completes (exec (.ntcMarksWrite u half v) s) (fun t => NoticeStep w t u l l l ∧ t.getF NTC_MARKS [(u : Nat)] NTC_MARKS.LOW = lo ∧
        t.getF NTC_MARKS [(u : Nat)] NTC_MARKS.HIGH = hi ∧ OnlyUnit s t u ∧ Frame [.regs, .arb, .icu, .eth] s t))) ∧
  (∀ (u : Fin 128) (s : State), s.wf → s.dieInReset 10 = false →
    (s.noticeHas u = true → Completes (exec (.ntcPeakRead u) s) (fun t => t.front.readData = s.reg NTC_PEAK [(u : Nat)] ∧
      t.getF NTC_PEAK [(u : Nat)] NTC_PEAK.PEAK = 0 ∧ RegsKept [NTC_PEAK.addr [(u : Nat)]] s t ∧ Frame [.regs, .front] s t) ∧
      Completes (exec (.upClr u) s) (fun t => t.getF NTC_STATUS [(u : Nat)] NTC_STATUS.UPCOUNT = 0 ∧
        (∀ f ∈ [NTC_STATUS.CROSSED, NTC_STATUS.FELL, NTC_STATUS.ARMED, NTC_STATUS.CFG_IGNORED], t.getF NTC_STATUS [(u : Nat)] f = s.getF NTC_STATUS [(u : Nat)] f) ∧
        RegsKept [NTC_STATUS.addr [(u : Nat)]] s t ∧ Frame [.regs] s t)) ∧
    (s.noticeHas u = false → Completes (exec (.ntcPeakRead u) s) (fun t => t.front.readData = 0 ∧ Frame [.regs, .front] s t) ∧
      exec (.upClr u) s = .next s))

/-- R799 to R806, R907 and R909 to R917. -/
def Obligations.SampledReports : Prop :=
  (∀ (c : Cmd) (s : State), s.Accepts c 0x0306 →
    let host := (c.par 8 1).testBit 0
    let good := c.par 8 1 < 4 ∧ c.par 9 7 = 0 ∧ s.destOk c (c.par 0 8) 4096 host = true
    (¬good → exec (.census c) s = .next (s.complete c stBadParam [])) ∧
    (good → s.waiters .census ≠ [] → exec (.census c) s = .next (s.complete c stBusy [])) ∧
    (good → s.waiters .census = [] → Completes (exec (.census c) s) (fun t => t.waiters .census = [c] ∧
      t.front.censusBar = (if s.tempo.running then some (bar32 (s.raisedBar + 1)) else none) ∧ t.front.done = s.front.done ∧ Frame [.front] s t))) ∧
  (∀ (c : Cmd) (a0 a1 : Nat) (s : State), s.wf → s.waiters .census = [c] →
    let rs := s.records (fun m => if m = 8 then a0 else a1)
    let bad := kindBits rs (fun r => r.bad)
    let tr := kindBits rs (fun r => r.transient)
    let held := s.getF BLT_DARN [8] BLT_DARN.HELD + s.getF BLT_DARN [9] BLT_DARN.HELD
    let barno := if s.tempo.running then s.tempo.barno else 0xFFFF_FFFF
    let res := leBytes 4 barno ++ leBytes 2 bad ++ leBytes 2 tr ++ leBytes 4 held ++ leBytes 2 rs.length ++ leBytes 2 0
    (s.sampleDue s.front.censusBar = false → exec (.censusSample a0 a1) s = .next s) ∧
    (s.sampleDue s.front.censusBar = true → (c.par 8 1).testBit 1 = true → ∃ u : State, u.waiters .census = [] ∧
      (bad = 0 → u.arb = s.arb) ∧ (bad ≠ 0 → Logs s u 10 0x10 (bad + tr * 2 ^ 16 + barno * 2 ^ 32)) ∧ u.mem = s.mem ∧
      (∀ r ∈ [LIN_POOL, BLT_DARN], ∀ d ∈ [8, 9], u.reg r [d] = s.reg r [d]) ∧ Frame [.regs, .arb, .front] s u ∧
      exec (.censusSample a0 a1) s = .next (u.complete c stOk res)) ∧
    (s.sampleDue s.front.censusBar = true → c.par 8 1 = 0 → c.par 0 8 + 4096 ≤ boardBase → ∃ u : State, u.readMem (c.par 0 8) (64 + 32 * rs.length) = s.censusReport rs ∧
      (∀ a, a < c.par 0 8 ∨ c.par 0 8 + (64 + 32 * rs.length) ≤ a → u.mbyte a = s.mbyte a) ∧ Frame [.regs, .arb, .front, .mem] s u ∧
      exec (.censusSample a0 a1) s = .next (u.complete c stOk res)) ∧
    (∀ r ∈ rs, (r.away = true → r.t1 = 0 ∧ r.t2 = 0 ∧ r.t3 = 0 ∧ r.bad = false) ∧ (r.unchecked = true → r.bad = false) ∧
      (r.away = false → r.kind = 1 → (r.bad = true ↔ r.t1 + r.t2 + r.t3 ≠ 16384 ∨ 2 < r.aux)) ∧
      (r.away = false → r.kind = 2 → r.unchecked = false → (r.bad = true ↔ r.t1 + r.t2 ≠ 64)) ∧
      (r.away = false → r.kind = 3 → (r.bad = true ↔ r.t1 + r.t2 ≠ r.expect)) ∧
      (r.away = false → r.kind = 5 → (r.bad = true ↔ r.t1 ≠ r.t2 + r.t3)) ∧
      (r.away = false → r.kind = 6 → r.unchecked = false → (r.bad = true ↔ r.t1 % 2 ^ 32 ≠ (r.t2 + r.t3 + 2 ^ 32 - r.aux % 2 ^ 32) % 2 ^ 32)) ∧
      (r.away = false → r.kind = 7 → (r.bad = true ↔ 64 < r.t1)))) ∧
  (∀ (a0 a1 : Nat) (ok : Bool) (s : State), (s.waiters .census = [] → exec (.censusSample a0 a1) s = .next s) ∧
    (s.waiters .snapshot = [] → exec (.snapshotSample ok) s = .next s)) ∧
  (∀ (c : Cmd) (s : State), s.wf → s.Accepts c 0x0601 → c.par 14 2 = 0 →
    let g := c.par 10 1
    let v := c.par 11 1
    let i := c.par 12 2
    (c.par 8 1 = 2 → c.par 0 8 = 0 → c.par 9 1 = 0 →
      let ok := g < 7 ∧ i < telInstances g ∧ v < telValues g
      (¬ok → exec (.telemetrySnapshot c) s = .next (s.complete c stBadParam [])) ∧
      (ok → s.telAbsent g i = true → exec (.telemetrySnapshot c) s = .next (s.complete c stAbsentUnit [])) ∧
      (ok → s.telAbsent g i = false → s.telAway g i = true → exec (.telemetrySnapshot c) s = .next (s.complete c stOk (leBytes 8 0 ++ [1]))) ∧
      (ok → s.telAbsent g i = false → s.telAway g i = false →
        exec (.telemetrySnapshot c) s = .next (s.complete c stOk (leBytes 8 ((s.telGroup g i).getD v 0))))) ∧
    (c.par 8 1 < 8 → (c.par 8 1).testBit 1 = false →
      let good := 1 ≤ c.par 9 1 ∧ c.par 9 1 ≤ 0x7F ∧ g = 0 ∧ v = 0 ∧ i = 0 ∧ s.destOk c (c.par 0 8) 73728 ((c.par 8 1).testBit 0) = true
      (¬good → exec (.telemetrySnapshot c) s = .next (s.complete c stBadParam [])) ∧
      (good → s.bit TEL_STATUS [] TEL_STATUS.BUSY = true → exec (.telemetrySnapshot c) s = .next (s.complete c stBusy [])) ∧
      (good → s.bit TEL_STATUS [] TEL_STATUS.BUSY = false → Completes (exec (.telemetrySnapshot c) s) (fun t => t.bit TEL_STATUS [] TEL_STATUS.BUSY = true ∧
        t.waiters .snapshot = s.waiters .snapshot ++ [c] ∧ t.front.snapBar = (if s.tempo.running then some (bar32 (s.raisedBar + 1)) else none) ∧
        RegsKept [TEL_STATUS.addr []] s t ∧ Frame [.regs, .front] s t)))) ∧
  (∀ (c : Cmd) (ok : Bool) (s : State), s.wf → s.waiters .snapshot = [c] → s.sampleDue s.front.snapBar = true →
    let n := (s.getF TEL_STATUS [] TEL_STATUS.SNAPS + 1) % 2 ^ 16
    let barno := if s.tempo.running then s.tempo.barno else 0xFFFF_FFFF
    let clear := (c.par 8 1).testBit 2 = true
    let swept (u : State) : Prop := u.bit TEL_STATUS [] TEL_STATUS.BUSY = false ∧ u.getF TEL_STATUS [] TEL_STATUS.SNAPS = n ∧
      (clear → (u.reg TEL_PKG []).toNat = 0 ∧ ∀ l, l < 12 → (u.reg TEL_LINK_DB_EARLY [l]).toNat = 0 ∧ (u.reg TEL_LINK_TACK_RX [l]).toNat = 0) ∧
      (¬clear → u.reg TEL_PKG [] = s.reg TEL_PKG [] ∧ ∀ l, l < 12 → u.reg TEL_LINK_TACK_RX [l] = s.reg TEL_LINK_TACK_RX [l])
    ((c.par 8 1).testBit 0 = false → c.par 0 8 + 73728 ≤ boardBase → ∃ u : State, swept u ∧
      u.readMem (c.par 0 8) (s.telReport (c.par 9 1) n).length = s.telReport (c.par 9 1) n ∧ Frame [.regs, .mem, .front] s u ∧
      exec (.snapshotSample ok) s = .next (u.complete c stOk (leBytes 4 barno ++ leBytes 4 (telLength (c.par 9 1)) ++ leBytes 4 n ++ leBytes 4 0))) ∧
    ((c.par 8 1).testBit 0 = true → ok = false → ∃ u : State, swept u ∧ u.bit TEL_EVENT [] TEL_EVENT.SNAP_FAIL = true ∧ u.mem = s.mem ∧
      Frame [.regs, .front] s u ∧ exec (.snapshotSample ok) s = .next (u.complete c stIntegrity []))) ∧
  (∀ (g : Nat) (s : State), 1 ≤ g → g ≤ 0x7F → (s.telReport g 0).length = telLength g ∧ telLength g ≤ 69272) ∧
  (∀ (v : BitVec 32) (s : State), s.wf →
    (v.getLsbD 0 = true → s.dieInReset 10 = false → Completes (exec (.telClr v) s) (fun t => (t.reg TEL_PKG []).toNat = 0 ∧
      (∀ l, l < 12 → ∀ r ∈ [TEL_LINK_DB_EARLY, TEL_LINK_DB_LATE, TEL_LINK_DB_BAD, TEL_LINK_DB_MISSING, TEL_LINK_CI_DISCARD, TEL_LINK_TACK_TX, TEL_LINK_TACK_RX],
        (t.reg r [l]).toNat = 0) ∧
      (∀ p k, p < 256 → k < 4 → ∀ r ∈ [TEL_SECT_DEP, TEL_SECT_CUE, TEL_SECT_SYNC, TEL_SECT_QWAIT], (t.reg r (six p k)).toNat = 0) ∧
      t.reg TEL_STATUS [] = s.reg TEL_STATUS [] ∧ t.reg TEL_EVENT [] = s.reg TEL_EVENT [] ∧ Frame [.regs] s t)) ∧
    (v.getLsbD 0 = false → exec (.telClr v) s = .next s))
namespace Sys2Proof.Machine

/-- The status of the first case of a table that holds; and that no case does. -/
def FirstOf : List (Prop × Nat) → Nat → Prop
  | [], _ => False
  | (p, v) :: t, st => (p ∧ st = v) ∨ (¬p ∧ FirstOf t st)
def NoneOf (l : List (Prop × Nat)) : Prop := ∀ x ∈ l, ¬x.1

/-- The failures of R851, in order, of the command `c` on its unit. -/
def State.powerTable (s : State) (c : Cmd) : List (Prop × Nat) :=
  let u := cmdUnit c
  let op := c.opcode
  [(2 ≤ c.par 0 1 ∨ c.par 4 12 ≠ 0 ∨ 4 < c.par 1 1 ∨ (c.par 1 1 ≠ 0 ∧ op ≠ 0x0504), stBadParam),
   (c.par 2 2 ≠ 0 ∧ c.par 2 2 ≠ s.wash u, stStaleWash),
   (op ≠ 0x0503 ∧ s.unitFolded u = true, stUnitFolded),
   (s.unitInReset u = true, stUnitInReset),
   ((op = 0x0501 ∨ op = 0x0502) ∧ (u < 266 ∨ (268 ≤ u ∧ u < 280)) ∧ s.busyTempo = true ∧ c.par 0 1 = 0, stBusy),
   (op = 0x0504 ∧ c.par 1 1 = 4 ∧ ∃ p ∈ s.pstatePresses u, s.allPaused p = false, stBusy),
   (op = 0x0503 ∧ s.unitFolded u = false, stBusy),
   (s.unitBusy u = true, stBusy)]

/-- The stores that a unit's loss empties are in canonical form, and held descriptors name Presses of the package. -/
def State.UnitWf (s : State) : Prop :=
  s.wf ∧ tok {} s.sects = true ∧ tok [] s.queues = true ∧ tok {} s.press = true ∧ tok {} s.cond = true ∧ tok 0 s.pwr.rising = true ∧
  tok none s.pwr.jobs = true ∧ ∀ x ∈ s.score.desc, x.die < 8 ∧ x.press < 32

/-- What a Press that is reset or folded has lost (R203, R223, R369, R826): sections, queue requests, its Board, and the descriptors that it
sourced; its part store and every other byte of memory are kept. -/
def PressLost (s t : State) (p : Nat) : Prop :=
  (∀ k, k < 4 → t.sect p k = {}) ∧ (∀ q, q < 6 → t.queue p q = []) ∧ (t.prs p).part = (s.prs p).part ∧ (t.prs p).words = (s.prs p).words ∧
  (∀ a, boardBase + p * 0x0010_0000 ≤ a → a < boardBase + (p + 1) * 0x0010_0000 → t.mbyte a = 0) ∧
  (∀ a, a < boardBase + p * 0x0010_0000 ∨ boardBase + (p + 1) * 0x0010_0000 ≤ a → t.mbyte a = s.mbyte a) ∧
  ∀ x ∈ t.score.desc, 32 * x.die + x.press ≠ p

/-- Press die n is throttled (PWR_THERM.THROTTLED). -/
def State.throttled (s : State) (n : Nat) : Bool := (s.getF PWR_THERM [] PWR_THERM.THROTTLED).testBit n

/-- Press die d of `t` is throttled as its sensors say, THROT holding for those of the die and 95 °C for its HBM stack (R843, R992); between
the thresholds it is as it was in `s`. -/
def State.ThrottledFrom (t s : State) (d : Nat) : Prop :=
  let th := t.getF PWR_THERM [] PWR_THERM.THROT
  let now := t.getF PWR_TEMP [d] PWR_TEMP.NOW
  let stack := tget 0 t.pwr.stackTemp d
  ((th ≤ now ∨ 95 ≤ stack) → t.throttled d = true) ∧ (now + 5 < th → stack < 90 → t.throttled d = false) ∧
  (now < th → stack < 95 → (th ≤ now + 5 ∨ 90 ≤ stack) → t.throttled d = s.throttled d)

end Sys2Proof.Machine

/-- R823, R826, R827, R835 to R837, R842 and R849 to R852. -/
def Obligations.UnitsGoAway : Prop :=
  (∀ (c : Cmd) (us : BitVec 32) (st : Nat) (s : State), FirstOf (s.powerTable c) st →
    (s.Accepts c 0x0501 → exec (.unitReset c) s = .next (s.complete c st [])) ∧
    (s.Accepts c 0x0502 → exec (.unitFold c us) s = .next (s.complete c st [])) ∧
    (s.Accepts c 0x0503 → (256 ≤ cmdUnit c ∨ s.dieFolded (cmdUnit c / 32) = false) → exec (.unitUnfold c) s = .next (s.complete c st [])) ∧
    (s.Accepts c 0x0504 → exec (.pstateSet c us) s = .next (s.complete c st []))) ∧
  (∀ (c : Cmd) (s : State), s.UnitWf → s.Accepts c 0x0501 → NoneOf (s.powerTable c) →
    let u := cmdUnit c
    Completes (exec (.unitReset c) s) (fun t => u ∈ t.pwr.asserted ∧
      (u < 256 → PressLost s t u ∧ bitOf (t.reg RST_PRESS [u / 32]) (u % 32) = true ∧ c ∈ t.waiters (.unitReset u) ∧ t.wash u = s.wash u) ∧
      (256 ≤ u → u < 268 → bitOf (t.reg RST_DIE []) (unitDie u) = true ∧ t.bit CLK_DIE [unitDie u] CLK_DIE.LOCKED = false) ∧
      (256 ≤ u → u < 266 → t.conductor (unitDie u) = {} ∧ t.bit SCR_STATUS [unitDie u] SCR_STATUS.INSTALLED = false) ∧
      (268 ≤ u → u < 280 → t.linkState (u - 268) = 0 ∧ c ∈ t.waiters (.unitReset u)) ∧
      (280 ≤ u → u < 282 → (t.reg ETH_PORT_STATUS [u - 280]).toNat = 0 ∧ (t.reg ETH_EVENT [u - 280]).toNat = 0 ∧ c ∈ t.waiters (.unitReset u)) ∧
      (282 ≤ u → u < 298 → tok {} s.icu.targets = true → (t.target (2 * (u - 282))).stack = [] ∧ (t.target (2 * (u - 282) + 1)).stack = [] ∧
        c ∈ t.waiters (.unitReset u)))) ∧
  (∀ (c : Cmd) (us : BitVec 32) (s : State), s.UnitWf → s.Accepts c 0x0502 → NoneOf (s.powerTable c) →
    let u := cmdUnit c
    (u < 264 ∨ u = 266) → ∃ (w : State) (n : Nat), exec (.unitFold c us) s = .next (w.complete c stOk (leBytes 2 (s.wash u) ++ leBytes 4 us.toNat ++ leBytes 2 n)) ∧
      w.bit RST_EVENT [] RST_EVENT.FOLD_DONE = true ∧ w.wash u = s.wash u ∧
      (u < 256 → PressLost s w u ∧ bitOf (w.reg PWR_PFOLD [u / 32]) (u % 32) = true) ∧
      (256 ≤ u → bitOf (w.reg PWR_DIE []) (unitDie u) = true) ∧
      (256 ≤ u → u < 264 → (∀ k, k < 32 → bitOf (w.reg PWR_PFOLD [u - 256]) k = true) ∧ w.seams = s.seams ∧ w.conductor (u - 256) = s.conductor (u - 256) ∧
        w.bit MEM_STATUS [u - 256] MEM_STATUS.SELF_REFRESH = true ∧ ∀ x ∈ w.score.desc, x.die ≠ u - 256) ∧
      (u = 266 → w.eth.ports = [] ∧ w.eth.queues = [])) ∧
  (∀ (c : Cmd) (s : State), s.wf → s.Accepts c 0x0503 → NoneOf (s.powerTable c) →
    let u := cmdUnit c
    (u < 256 → s.dieFolded (u / 32) = false → Completes (exec (.unitUnfold c) s) (fun t => bitOf (t.reg PWR_PFOLD [u / 32]) (u % 32) = false ∧
      bitOf (t.reg RST_PRESS [u / 32]) (u % 32) = true ∧ t.waiters (.unfold u) = s.waiters (.unfold u) ++ [c] ∧ u ∈ t.pwr.unfolding ∧
      RegsKept [PWR_PFOLD.addr [u / 32], RST_PRESS.addr [u / 32]] s t ∧ Frame [.regs, .front, .pwr] s t)) ∧
    (256 ≤ u → u < 264 → Completes (exec (.unitUnfold c) s) (fun t => bitOf (t.reg PWR_DIE []) (u - 256) = false ∧
      (∀ k, k < 32 → bitOf (t.reg PWR_PFOLD [u - 256]) k = false ∧ bitOf (t.reg RST_PRESS [u - 256]) k = true) ∧
      t.waiters (.unfold u) = s.waiters (.unfold u) ++ [c] ∧ Frame [.regs, .front, .pwr] s t)) ∧
    (u = 266 → Completes (exec (.unitUnfold c) s) (fun t => bitOf (t.reg PWR_DIE []) 11 = false ∧ bitOf (t.reg RST_DIE []) 11 = true ∧
      t.waiters (.unfold u) = s.waiters (.unfold u) ++ [c] ∧ Frame [.regs, .front, .pwr] s t))) ∧
  (∀ (c : Cmd) (us : BitVec 32) (s : State), s.UnitWf → s.Accepts c 0x0504 → NoneOf (s.powerTable c) →
    let u := cmdUnit c
    let v := c.par 1 1
    let res := leBytes 2 (s.wash u) ++ leBytes 4 us.toNat ++ leBytes 2 0
    (u < 264 → v = 4 → ∃ w : State, (∀ p ∈ s.pstatePresses u, bitOf (w.reg PWR_PIDLE [p / 32]) (p % 32) = true) ∧
      RegsKept [PWR_PIDLE.addr [(unitDie u)]] s w ∧ Frame [.regs] s w ∧ exec (.pstateSet c us) s = .next (w.complete c stOk res)) ∧
    (u < 256 → v < 4 → s.pstate u ≤ v → ∃ w : State, w.pstate u = v ∧ bitOf (w.reg PWR_PIDLE [u / 32]) (u % 32) = false ∧ tget 0 w.pwr.rising u = 0 ∧
      (∀ p, p < 256 → p ≠ u → w.pstate p = s.pstate p) ∧ (s.pstate u = v → w.reg PWR_RAIL [u / 32] = s.reg PWR_RAIL [u / 32]) ∧
      Frame [.regs, .pwr, .free] s w ∧ exec (.pstateSet c us) s = .next (w.complete c stOk res)) ∧
    (u < 256 → v < s.pstate u → Completes (exec (.pstateSet c us) s) (fun t => t.pstate u = s.pstate u ∧ tget 0 t.pwr.rising u = v + 1 ∧
      bitOf (t.reg PWR_PIDLE [u / 32]) (u % 32) = false ∧ 550 ≤ t.getF PWR_RAIL [u / 32] PWR_RAIL.TARGET_MV ∧ t.getF PWR_RAIL [u / 32] PWR_RAIL.TARGET_MV ≤ 800 ∧
      t.waiters (.pstate u) = s.waiters (.pstate u) ++ [c] ∧ Frame [.regs, .front, .pwr, .free] s t)))

/-- R203, R821, R824, R825, R829 to R831, R842, R843, R852 and R992; what a stack's report and a write of THROT do at once is the model's
reading (log entry 108). -/
def Obligations.UnitsReturn : Prop :=
  (∀ (u : Fin 298) (s : State), s.wf →
    let stepped (t : State) : Prop := t.wash u = if (s.wash u + 1) % 65536 = 0 then 1 else s.wash u + 1
    (s.fw.inCold = false → (u : Nat) ∈ s.pwr.asserted → Completes (exec (.resetRelease u) s) (fun t => (u : Nat) ∉ t.pwr.asserted ∧
      (∀ v, v ≠ (u : Nat) → (v ∈ t.pwr.asserted ↔ v ∈ s.pwr.asserted)) ∧ (268 ≤ (u : Nat) → (u : Nat) < 280 → stepped t) ∧ ((u : Nat) < 268 → t.wash u = s.wash u) ∧
      RegsKept [AON_WASH.addr [(u : Nat)]] s t ∧ Frame [.regs, .pwr] s t)) ∧
    (s.fw.inCold = true ∨ (u : Nat) ∉ s.pwr.asserted → exec (.resetRelease u) s = .next s) ∧
    (∀ us, (u : Nat) < 256 → s.UnitWf → s.fw.inCold = false → (u : Nat) ∉ s.pwr.asserted → dieUnit ((u : Nat) / 32) ∉ s.pwr.asserted →
      s.hasDie ((u : Nat) / 32) = true → s.dieInReset ((u : Nat) / 32) = false → dieUnit ((u : Nat) / 32) ∉ s.pwr.unfolding → s.pressFolded u = false →
      s.pressInReset u = true → s.bit PRS_STATUS (pix u) PRS_STATUS.ZEROING = false → Completes (exec (.unitInService u us) s) (fun t =>
        bitOf (t.reg RST_PRESS [(u : Nat) / 32]) ((u : Nat) % 32) = false ∧ stepped t ∧
        (s.bit PRS_CTRL (pix u) PRS_CTRL.PAUSE = false → ∀ k, k < 4 → t.sect u k = {}) ∧
        (s.bit PRS_CTRL (pix u) PRS_CTRL.PAUSE = true → ∀ k, k < 4 → (t.sect u k).st = .paused) ∧
        (s.job u ≠ none → t.bit RST_EVENT [] RST_EVENT.RESET_DONE = true) ∧ t.job u = none ∧ t.waiters (.unitReset u) = [] ∧ t.waiters (.unfold u) = [] ∧
        (∀ c, s.waiters (.unitReset u) = [c] → s.waiters (.unfold u) = [] → ∃ w : State, w.front.done = s.front.done ∧
          t.front = (w.complete c stOk (leBytes 2 (t.wash u) ++ leBytes 4 us.toNat ++ leBytes 2 ((s.job u).getD 0))).front) ∧
        Frame [.regs, .mem, .sects, .front, .arb, .pwr] s t)) ∧
    (∀ us, 256 ≤ (u : Nat) → (u : Nat) < 264 → s.UnitWf → s.fw.inCold = false → (u : Nat) ∉ s.pwr.asserted → s.hasDie ((u : Nat) - 256) = true →
      bitOf (s.reg RST_DIE []) ((u : Nat) - 256) = true → s.dieFolded ((u : Nat) - 256) = false → s.bit CLK_DIE [(u : Nat) - 256] CLK_DIE.LOCKED = true →
      s.dieSeamsUp ((u : Nat) - 256) = true → (∀ k, k < 32 → s.bit PRS_STATUS [(u : Nat) - 256, k] PRS_STATUS.ZEROING = false) →
      Completes (exec (.unitInService u us) s) (fun t => bitOf (t.reg RST_DIE []) ((u : Nat) - 256) = false ∧
        t.bit MEM_STATUS [(u : Nat) - 256] MEM_STATUS.TRAINED = true ∧ t.bit MEM_STATUS [(u : Nat) - 256] MEM_STATUS.SELF_REFRESH = false ∧
        ((u : Nat) - 256 ∉ s.pwr.fresh → stepped t) ∧ (∀ k, k < 32 → 32 * ((u : Nat) - 256) + k ∉ s.pwr.asserted →
          s.pressFolded (32 * ((u : Nat) - 256) + k) = false → bitOf (t.reg RST_PRESS [(u : Nat) - 256]) k = false) ∧
        t.job u = none ∧ t.waiters (.unitReset u) = [] ∧ t.waiters (.unfold u) = [])) ∧
    (∀ us c, s.fw.inCold = false → (u : Nat) ∉ s.pwr.asserted → s.unitInReset u = true ∨ (u : Nat) ∈ s.pwr.unfolding ∨ s.job u ≠ none →
      s.waiters (.unitReset u) = [c] → s.waiters (.unfold u) = [] → ∃ w : State, w.bit RST_EVENT [] RST_EVENT.TIMEOUT = true ∧ w.waiters (.unitReset u) = [] ∧
        w.pwr = s.pwr ∧ Frame [.regs, .arb, .front] s w ∧
        exec (.unitServiceTimeout u us) s = .next (w.complete c stTimeout (leBytes 2 (s.wash u) ++ leBytes 4 us.toNat ++ leBytes 2 ((s.job u).getD 0))))) ∧
  (∀ (p : Fin 256) (s : State), s.wf →
    let d := (p : Nat) / 32
    let ok := s.fw.inCold = false ∧ s.hasDie d = true ∧ s.pressFolded p = false ∧ (p : Nat) ∉ s.pwr.asserted ∧ dieUnit d ∉ s.pwr.asserted ∧
      s.bit CLK_DIE [d] CLK_DIE.LOCKED = true
    (ok → Completes (exec (.zeroingDone p) s) (fun t => t.bit PRS_STATUS (pix p) PRS_STATUS.ZEROING = false ∧ RegsKept [PRS_STATUS.addr (pix p)] s t ∧ Frame [.regs] s t)) ∧
    (¬ok → exec (.zeroingDone p) s = .next s)) ∧
  (∀ (d : Fin 8) (us : BitVec 32) (s : State), s.UnitWf → (∀ x ∈ s.pwr.rising, x.2 ≤ 4) → Completes (exec (.railTargetReached d us) s) (fun t =>
    t.getF PWR_RAIL [(d : Nat)] PWR_RAIL.NOW_MV = s.getF PWR_RAIL [(d : Nat)] PWR_RAIL.TARGET_MV ∧
    (∀ k, k < 32 → let p := 32 * (d : Nat) + k
      tget 0 t.pwr.rising p = 0 ∧ (tget 0 s.pwr.rising p ≠ 0 → t.pstate p = tget 0 s.pwr.rising p - 1) ∧ (tget 0 s.pwr.rising p = 0 → t.pstate p = s.pstate p) ∧
        t.waiters (.pstate p) = []) ∧
    (∀ p, p < 256 → p / 32 ≠ (d : Nat) → t.pstate p = s.pstate p ∧ tget 0 t.pwr.rising p = tget 0 s.pwr.rising p))) ∧
  (∀ (d : Fin 12) (v : BitVec 8) (hbm : Bool) (s : State), s.wf → tok 0 s.pwr.stackTemp = true →
    let th := s.getF PWR_THERM [] PWR_THERM.THROT
    let stops := s.fw.inCold = true ∨ s.hasDie d = false ∨ (hbm = true ∧ 8 ≤ (d : Nat)) ∨ (hbm = false ∧ 115 ≤ v.toNat)
    (stops → exec (.thermalThrottle d v hbm) s = .next s) ∧
    (¬stops → Completes (exec (.thermalThrottle d v hbm) s) (fun t =>
      (hbm = false → t.getF PWR_TEMP [(d : Nat)] PWR_TEMP.NOW = v.toNat ∧
        t.getF PWR_TEMP [(d : Nat)] PWR_TEMP.PEAK = max (s.getF PWR_TEMP [(d : Nat)] PWR_TEMP.PEAK) v.toNat ∧ t.pwr = s.pwr) ∧
      (hbm = true → tget 0 t.pwr.stackTemp d = v.toNat ∧ t.reg PWR_TEMP [(d : Nat)] = s.reg PWR_TEMP [(d : Nat)]) ∧
      ((d : Nat) < 8 → t.ThrottledFrom s d) ∧ (∀ n, n ≠ (d : Nat) → t.throttled n = s.throttled n) ∧ t.getF PWR_THERM [] PWR_THERM.THROT = th ∧
      RegsKept [PWR_TEMP.addr [(d : Nat)], PWR_THERM.addr []] s t ∧ Frame [.regs, .arb, .pwr] s t))) ∧
  (∀ (w : Who) (v : Word) (s : State), s.wf → s.regAway PWR_THERM [] = false →
    Completes (exec (.registerWrite w (BitVec.ofNat 26 (PWR_THERM.addr [])) 4 v) s) (fun t =>
      t.getF PWR_THERM [] PWR_THERM.THROT = min 105 (v.toNat % 256) ∧ (∀ d, d < 8 → s.hasDie d = true → t.ThrottledFrom s d) ∧
      RegsKept [PWR_THERM.addr []] s t ∧ Frame [.regs, .arb] s t)) ∧
  (∀ (stream : BitVec 12) (seq : BitVec 16) (x : Desc) (s : State), s.wf → (∀ y ∈ s.score.desc, y.die < 8 ∧ y.press < 32) →
    (s.descOf stream.toNat seq.toNat = none → exec (.linkGiveup stream seq) s = .next s) ∧
    (s.descOf stream.toNat seq.toNat = some x → Completes (exec (.linkGiveup stream seq) s) (fun t => t.score.desc = s.score.desc.filter (fun y => y.stream != stream.toNat) ∧
      t.bit RST_EVENT [] RST_EVENT.GIVEUP = true ∧ t.bit RST_EVENT [] RST_EVENT.STREAM_ENDED = true ∧ Counted RST_ENDED [] RST_ENDED.COUNT 1 s t ∧
      tget 0 t.score.ended stream.toNat = stPeerReset + 1 ∧
      (s.bit RST_EVENT [] RST_EVENT.STREAM_ENDED = false → t.getF RST_ENDED [] RST_ENDED.STREAM = stream.toNat ∧ t.getF RST_ENDED [] RST_ENDED.DIE = x.die ∧
        t.getF RST_ENDED [] RST_ENDED.REASON = 3) ∧
      (s.bit RST_EVENT [] RST_EVENT.STREAM_ENDED = true → ∀ f ∈ [RST_ENDED.STREAM, RST_ENDED.DIE, RST_ENDED.REASON], t.getF RST_ENDED [] f = s.getF RST_ENDED [] f) ∧
      (s.tempo.running = true → t.tempo.reqBar = barMax s.tempo.reqBar s.raisedBar) ∧ (s.tempo.running = false → t.tempo = s.tempo) ∧
      t.mem = s.mem ∧ Frame [.regs, .tempo, .press, .score, .arb] s t))) ∧
  (∀ (l : Fin 12) (s : State), s.wf →
    (s.linkUp l = true ∨ s.dieUp (8 + (l : Nat) / 6) = false → exec (.linkDiscard l) s = .next s) ∧
    (s.linkUp l = false → s.dieUp (8 + (l : Nat) / 6) = true → Completes (exec (.linkDiscard l) s) (fun t => (l : Nat) ∈ t.pwr.giveUp ∧
      (∀ i, i ≠ (l : Nat) → (i ∈ t.pwr.giveUp ↔ i ∈ s.pwr.giveUp)) ∧ t.mem = s.mem ∧
      (s.score.flights = [] → s.score.stored = [] → tok {} s.legacy = true →
        let st := (tget {} s.legacy (l : Nat)).store
        (st = [] → t.reg RST_DISCARDS [] = s.reg RST_DISCARDS [] ∧ t.reg RST_EVENT [] = s.reg RST_EVENT []) ∧
        (st ≠ [] → (tget {} t.legacy (l : Nat)).store = [] ∧ t.bit RST_EVENT [] RST_EVENT.LINK_DISCARD = true ∧
          Counted RST_DISCARDS [] RST_DISCARDS.COUNT ((st.map (fun b => b.1.lines + 2)).foldl (· + ·) 0) s t)))))
namespace Sys2Proof.Machine

/-- The parts of the state that every cold reset returns to what they are after power-on (R816), and those that it keeps. -/
def coldParts : List Part :=
  [.mem, .tempo, .dieBase, .aligns, .links, .cond, .patches, .press, .sects, .queues, .qseq, .ports, .lk, .seams, .legacy, .score, .tacks, .books,
   .unison, .arb, .icu, .fw]
def keptParts : List Part := [.clock, .linkTx, .fuses, .flash, .free, .pending]

/-- A cold reset of cause `cause` (R816, R817, R845): RST_CAUSE names it alone; every register of another domain than POR is at its reset value,
and those of the POR domain stay, but for the reference's status and the staged image. Commands in flight and volatile secrets are gone. -/
def ColdReset (s t : State) (cause : Fld) : Prop :=
  (t.reg RST_CAUSE []).toNat = 2 ^ cause.lo ∧ t.bit AON_FW [] AON_FW.STAGED = false ∧ (t.reg AON_FW_STAGED []).toNat = 0 ∧
  (∀ a, a ∉ [RST_CAUSE.addr [], CLK_REF_STATUS.addr [], CLK_HOLDOVER.addr [], AON_FW.addr [], AON_FW_STAGED.addr []] →
    tget 0 t.regs a = if keptCold a then tget 0 s.regs a else 0) ∧
  (∀ p ∈ coldParts, p.same State.reset t) ∧ (∀ p ∈ keptParts, p.same s t) ∧ t.tap = s.tap ∧ t.smb = { s.smb with busy := false } ∧
  t.sm = { store := s.sm.store, storeIntact := s.sm.storeIntact, zeroLatch := s.sm.zeroLatch } ∧
  t.front = { done := s.front.done, hostWrites := s.front.hostWrites, msix := s.front.msix }

/-- A power-on reset (R816): the always-on domain is at its reset state as well, but for HEM_IN, which follows its pin. -/
def PowerOn (s t : State) : Prop :=
  (∀ a, a ≠ SMB_ADDR.addr [] → tget 0 t.regs a = 0) ∧ (t.reg SMB_ADDR []).toNat = 256 * b2n s.pins.hemIn ∧
  (∀ p ∈ coldParts ++ [.tap, .smb, .pwr], p.same State.reset t) ∧ (∀ p ∈ keptParts, p.same s t) ∧
  t.sm = { store := s.sm.store, storeIntact := s.sm.storeIntact }

/-- Wash count n after one step: it is never 0 (R820, R821). -/
def washNext (n : Nat) : Nat := if (n + 1) % 65536 = 0 then 1 else n + 1

/-- The boot goes on from `stage`: C0 is out of reset and its root PLL locked (R940). -/
def State.BootAt (s : State) (stage : Nat) : Prop :=
  s.wf ∧ s.fw.inCold = false ∧ s.dieInReset 10 = false ∧ s.bit CLK_DIE [10] CLK_DIE.LOCKED = true ∧ s.getF RST_BOOT [] RST_BOOT.STAGE = stage

def State.bootF (s : State) (f : Fld) : Nat := s.getF RST_BOOT [] f

/-- The BAD_PARAM cases of FW_STAGE (R854). -/
def State.StageBad (s : State) (c : Cmd) : Prop :=
  c.par 0 8 % 4096 ≠ 0 ∨ c.par 8 4 < 4096 ∨ 0x0080_0000 < c.par 8 4 ∨ 2 ≤ c.par 12 1 ∨ c.par 13 3 ≠ 0 ∨ boardBase ≤ c.par 0 8 ∨
  s.rangeMapped (c.par 0 8) (c.par 8 4) = false

/-- The reason code with which FW_STAGE refuses an image (R865, R868); an image that its flash region does not hold counts as of a wrong length. -/
def State.StageReason (s : State) (img : List Byte) (flags : Nat) : Option Nat :=
  let kind := leAt img 4 2
  match s.imageReason img (if kind = 1 then 1 else 2) false with
  | some r => some r
  | none => if kind = 1 ∧ flags = 0 then some 1 else if regionSize kind < img.length then some 2 else none

end Sys2Proof.Machine

/-- R816, R817, R819, R844, R961, R964, R970, R971, R976 and R980. -/
def Obligations.ResetsOfThePackage : Prop :=
  (∀ (s : State), Completes (exec .powerOnReset s) (fun t => PowerOn s t ∧
    t.pins = { s.pins with vauxGood := true, pkgResetLow := true, tripped := false })) ∧
  (∀ (s : State), Completes (exec .vauxUndervoltage s) (fun t => PowerOn s t ∧ t.pins = { s.pins with vauxGood := false, tripped := false })) ∧
  (∀ (r : Fin 17) (s : State), s.wf → ((r : Nat) = 0 ∨ (s.fuses.variant = 2 ∧ ((r : Nat) = 12 ∨ (r : Nat) = 16)) → exec (.railUndervoltage r) s = .next s) ∧
    (¬((r : Nat) = 0 ∨ (s.fuses.variant = 2 ∧ ((r : Nat) = 12 ∨ (r : Nat) = 16))) → Completes (exec (.railUndervoltage r) s) (fun t =>
      ColdReset s t RST_CAUSE.POWER_ON ∧ t.pins = { s.pins with railsGood := s.pins.railsGood &&& (0x1FFFF ^^^ 2 ^ (r : Nat)) }))) ∧
  (∀ (d : Fin 8) (s : State),
    ((s.fw.inCold = true ∨ s.bootF RST_BOOT.STAGE < 5) → exec (.avsResponseTimeout d) s = .next s) ∧
    (s.fw.inCold = false → 5 ≤ s.bootF RST_BOOT.STAGE → exec (.avsResponseTimeout d) s = exec (.railUndervoltage ⟨9 + d, by omega⟩) s)) ∧
  (∀ (s : State), s.wf → Completes (exec .pkgResetAssert s) (fun t => ColdReset s t RST_CAUSE.PIN ∧ t.pins = { s.pins with pkgResetLow := true })) ∧
  (∀ (w : Who) (v : BitVec 32) (s : State), s.wf →
    (Who.mMode w = true → v.setWidth 16 = 0xC01D#16 → s.fw.coresHeld = false → Completes (exec (.rstColdWrite w v) s) (fun t => ColdReset s t RST_CAUSE.SOFT ∧
      t.pins = s.pins)) ∧
    ((Who.mMode w = false ∨ v.setWidth 16 ≠ 0xC01D#16 ∨ s.fw.coresHeld = true) → exec (.rstColdWrite w v) s = .next s)) ∧
  (∀ (d : Fin 12) (c : BitVec 8) (s : State), s.wf →
    ((c.toNat < 115 ∨ (s.fw.inCold = false ∧ s.dieThere d = false)) → exec (.thermalTrip d c) s = .next s) ∧
    (115 ≤ c.toNat → (s.fw.inCold = true ∨ s.dieThere d = true) → Completes (exec (.thermalTrip d c) s) (fun t =>
      ColdReset s t RST_CAUSE.THERMAL ∧ t.pins = { s.pins with tripped := true })))

/-- R939 to R944, R948, R49, R820, R866, R867, R891 and R892. That one occasion is one stage is the model's choice (log entry 85). -/
def Obligations.BootStages : Prop :=
  (∀ (heat : BitVec 8) (ok : Bool) (f : Option (Fin 11)) (ms : BitVec 16) (s : State), s.wf → s.fw.inCold = true →
    let may := s.refActive ≠ 5 ∧ ¬(s.pins.tripped = true ∧ 95 ≤ heat.toNat) ∧ s.pins.testEn = false
    (¬may → exec (.coldResetRelease heat ok f ms) s = .next s) ∧
    (may → Completes (exec (.coldResetRelease heat ok f ms) s) (fun t => t.fw = { s.fw with inCold := false } ∧ t.bootF RST_BOOT.STAGE = 2 ∧
      t.bootF RST_BOOT.ELAPSED_MS = ms.toNat ∧ t.bit CLK_DIE [10] CLK_DIE.LOCKED = true ∧ (t.reg RST_DIE []).toNat = 0xBFF ∧
      t.pins.pkgResetLow = false ∧ t.pins.tripped = false ∧ Frame [.regs, .pins, .fw] s t))) ∧
  (∀ (heat : BitVec 8) (ok : Bool) (f : Option (Fin 11)) (ms : BitVec 16) (s : State), s.BootAt 2 →
    Completes (exec (.coldResetRelease heat ok f ms) s) (fun t => t.bootF RST_BOOT.STAGE = 3 ∧ t.bootF RST_BOOT.ELAPSED_MS = ms.toNat ∧
      t.getF GLB_ID [] GLB_ID.STEPPING = s.fuses.stepping % 2 ^ GLB_ID.STEPPING.width ∧ t.getF GLB_ID [] GLB_ID.VARIANT = s.fuses.variant % 2 ^ GLB_ID.VARIANT.width ∧
      t.getF GLB_ID [] GLB_ID.GRADE = s.fuses.grade % 2 ^ GLB_ID.GRADE.width ∧ (t.reg GLB_SERIAL []).toNat = s.fuses.serial % 2 ^ 64 ∧
      (t.reg GLB_CAP0 []).toNat = (if s.fuses.variant = 0 then 0x0033_FFFF else if s.fuses.variant = 1 then 0x0032_FFFF else 0x003C_7777) ∧
      t.front.linkMayTrain = true ∧
      (ok = false → t.bootF RST_BOOT.FAIL = (if s.bootF RST_BOOT.FAIL = 0 then 1 else s.bootF RST_BOOT.FAIL) ∧ t.front.ssvid = 0x52E7 ∧ t.front.ssid = t.deviceId) ∧
      (ok = true → t.bootF RST_BOOT.FAIL = s.bootF RST_BOOT.FAIL ∧ match s.bootDir with
        | some x => t.bootF RST_BOOT.DIR_COPY = x.1 ∧ t.front.ssvid = leAt x.2 0x10 2 ∧ t.front.ssid = leAt x.2 0x12 2
        | none => t.bootF RST_BOOT.DIR_BAD = 1 ∧ t.front.ssvid = 0x52E7 ∧ t.front.ssid = t.deviceId) ∧
      Frame [.regs, .arb, .front, .pwr] s t)) ∧
  (∀ (heat : BitVec 8) (ok : Bool) (f : Option (Fin 11)) (ms : BitVec 16) (s : State), s.BootAt 3 → s.smState = 0 →
    let a := s.copyA 1
    let entered (t : State) (r : Nat) (img : List Byte) : Prop := t.bootF RST_BOOT.STAGE = 4 ∧ t.fw = { s.fw with smRegion := r } ∧
      t.sm = { s.sm with runSmSvn := leAt img 0x0D 1, runSmSlot := leAt img 0x0E 1 } ∧ t.bootF RST_BOOT.FAIL = s.bootF RST_BOOT.FAIL ∧ Frame [.regs, .sm, .fw] s t
    let failed (t : State) (reason fail : Nat) : Prop := t.bootF RST_BOOT.STAGE = 3 ∧ t.smState = 5 ∧ t.getF SM_STATUS [] SM_STATUS.ERR_CODE = reason ∧
      t.bootF RST_BOOT.FAIL = fail ∧ Frame [.regs, .eth, .arb, .sm] s t
    (s.bootF RST_BOOT.FAIL = 1 → Completes (exec (.coldResetRelease heat ok f ms) s) (fun t => failed t 1 1)) ∧
    (s.bootF RST_BOOT.FAIL ≠ 1 →
      (∀ img, s.bootImage 1 a = (img, none) → Completes (exec (.coldResetRelease heat ok f ms) s) (fun t => entered t a img ∧
        t.bootF RST_BOOT.COPY_SM = s.bootF RST_BOOT.COPY_SM)) ∧
      (∀ x img ra, s.bootImage 1 a = (x, some ra) → s.bootImage 1 (1 - a) = (img, none) →
        Completes (exec (.coldResetRelease heat ok f ms) s) (fun t => entered t (1 - a) img ∧ t.bootF RST_BOOT.COPY_SM = 1)) ∧
      (∀ x y ra rb, s.bootImage 1 a = (x, some ra) → s.bootImage 1 (1 - a) = (y, some rb) → Completes (exec (.coldResetRelease heat ok f ms) s) (fun t =>
        failed t ra (if s.bootF RST_BOOT.FAIL = 0 then 2 else s.bootF RST_BOOT.FAIL))))) ∧
  (∀ (heat : BitVec 8) (ok : Bool) (ms : BitVec 16) (s : State), s.BootAt 4 → s.smState = 0 →
    Completes (exec (.coldResetRelease heat ok none ms) s) (fun t => t.bootF RST_BOOT.STAGE = 5 ∧ t.smState = (if s.coFused 0 then 3 else 2) ∧
      t.sm.drbg = true ∧ t.sm.zeroLatch = false ∧ t.pwr.asserted = [] ∧ t.getF SM_SELFTEST [] SM_SELFTEST.FAILED &&& 0x7FF = 0 ∧
      t.getF SM_SELFTEST [] SM_SELFTEST.PASSED &&& 0x7FF = 0x7FF ∧ (∀ u, u < 280 → s.hasDie (unitDie u) = true → t.wash u ≠ 0) ∧
      (s.sm.zeroLatch = true → t.bit SM_EVENT [] SM_EVENT.ZEROIZED = true) ∧ Frame [.regs, .eth, .arb, .sm, .fuses, .pwr, .free] s t) ∧
    ∀ x : Fin 11, Completes (exec (.coldResetRelease heat ok (some x) ms) s) (fun t => t.bootF RST_BOOT.STAGE = 4 ∧
      t.bootF RST_BOOT.FAIL = (if s.bootF RST_BOOT.FAIL = 0 then 3 else s.bootF RST_BOOT.FAIL) ∧
      t.smState = (if (x : Nat) = 8 ∨ (x : Nat) = 9 then 4 else 5) ∧ t.getF SM_STATUS [] SM_STATUS.ERR_CODE = 0x80 + x ∧ t.pwr = s.pwr ∧
      Frame [.regs, .eth, .arb, .sm, .fuses, .free] s t)) ∧
  (∀ (heat : BitVec 8) (ok : Bool) (f : Option (Fin 11)) (ms : BitVec 16) (s : State), s.BootAt 5 → (s.smState = 2 ∨ s.smState = 3) →
    let a := s.copyA 2
    let entered (t : State) (r : Nat) (img : List Byte) : Prop := t.bootF RST_BOOT.STAGE = 6 ∧ t.fw = { s.fw with region := r, coresHeld := false, running := img } ∧
      t.getF AON_FW [] AON_FW.VERSION = leAt img 8 4 ∧ t.getF AON_FW [] AON_FW.NFW_CLASS = leAt img 0x0C 1 ∧ Frame [.regs, .arb, .sm, .fw] s t
    (∀ img, s.bootImage 2 a = (img, none) → Completes (exec (.coldResetRelease heat ok f ms) s) (fun t => entered t a img ∧
      t.bootF RST_BOOT.COPY_FW = s.bootF RST_BOOT.COPY_FW)) ∧
    (∀ x img ra, s.bootImage 2 a = (x, some ra) → s.bootImage 2 (1 - a) = (img, none) →
      Completes (exec (.coldResetRelease heat ok f ms) s) (fun t => entered t (1 - a) img ∧ t.bootF RST_BOOT.COPY_FW = 1)) ∧
    (∀ x y ra rb, s.bootImage 2 a = (x, some ra) → s.bootImage 2 (1 - a) = (y, some rb) → Completes (exec (.coldResetRelease heat ok f ms) s) (fun t =>
      t.bootF RST_BOOT.STAGE = 6 ∧ t.bootF RST_BOOT.FAIL = (if s.bootF RST_BOOT.FAIL = 0 then 4 else s.bootF RST_BOOT.FAIL) ∧ Frame [.regs] s t))) ∧
  (∀ (s : State), s.wf → tok {} s.icu.targets = true →
    let due := s.bootF RST_BOOT.STAGE = 6 ∧ s.fw.coresHeld = false ∧ s.bit CMD_IF_STATUS [] CMD_IF_STATUS.FW_READY = false
    (¬due → exec .fwBootTimeout s = .next s) ∧
    (due → Completes (exec .fwBootTimeout s) (fun t => t.bootF RST_BOOT.FAIL = (if s.bootF RST_BOOT.FAIL = 0 then 5 else s.bootF RST_BOOT.FAIL) ∧
      (∀ n, n < 32 → (t.target n).stack = []) ∧
      (∀ img, s.bootF RST_BOOT.COPY_FW = 0 → s.bootImage 2 (1 - s.fw.region) = (img, none) → t.fw = { s.fw with region := 1 - s.fw.region, running := img } ∧
        t.bootF RST_BOOT.COPY_FW = 1 ∧ t.wash 267 = washNext (s.wash 267)) ∧
      ((s.bootF RST_BOOT.COPY_FW = 1 ∨ ∃ x r, s.bootImage 2 (1 - s.fw.region) = (x, some r)) → t.fw = { s.fw with coresHeld := true, running := [] } ∧
        t.wash 267 = s.wash 267) ∧ Frame [.regs, .arb, .icu, .sm, .fw] s t)))

/-- R845, R846, R848, R854, R855, R865, R868 and R949; an image larger than its region is refused by the model's choice (log entry 85). -/
def Obligations.FirmwareUpdates : Prop :=
  (∀ (c : Cmd) (s : State), s.wf → s.Accepts c 0x0A01 →
    let img := s.readMem (c.par 0 8) (c.par 8 4)
    let flags := c.par 12 1
    let kind := leAt img 4 2
    let r := 1 - (if kind = 1 then s.fw.smRegion else s.fw.region)
    (s.StageBad c → exec (.fwStage c) s = .next (s.complete c stBadParam [])) ∧
    (¬s.StageBad c → ∀ st, s.rangeAway (c.par 0 8) (c.par 8 4) = some st → exec (.fwStage c) s = .next (s.complete c st [])) ∧
    (¬s.StageBad c → s.rangeAway (c.par 0 8) (c.par 8 4) = none → ∃ u : State, RegsKept [SM_SELFTEST.addr [], AON_FW.addr [], AON_FW_STAGED.addr []] s u ∧
      Frame [.regs, .flash, .fw] s u ∧
      (∀ x, s.StageReason img flags = some x → exec (.fwStage c) s = .next (u.complete c stIntegrity (leBytes 1 x)) ∧ u.flash = s.flash ∧ u.fw = s.fw ∧
        (u.getF SM_SELFTEST [] SM_SELFTEST.FAILED).testBit 11 = true ∧ (u.getF SM_SELFTEST [] SM_SELFTEST.PASSED).testBit 11 = false) ∧
      (s.StageReason img flags = none → exec (.fwStage c) s = .next (u.complete c stOk (leBytes 4 (leAt img 8 4) ++ leBytes 1 (leAt img 0x0C 1))) ∧
        (u.getF SM_SELFTEST [] SM_SELFTEST.FAILED).testBit 11 = false ∧ (u.getF SM_SELFTEST [] SM_SELFTEST.PASSED).testBit 11 = true ∧
        (kind = 2 → u.fw = { s.fw with staged := some img } ∧ u.bit AON_FW [] AON_FW.STAGED = true ∧
          u.getF AON_FW_STAGED [] AON_FW_STAGED.VERSION = leAt img 8 4 ∧ u.getF AON_FW_STAGED [] AON_FW_STAGED.NFW_CLASS = leAt img 0x0C 1) ∧
        (kind = 1 → u.fw = s.fw) ∧ (flags = 0 → u.flash = s.flash) ∧
        (flags = 1 → tok 0xFF s.flash = true → u.flashBytes (regionAt kind r) img.length = img ∧ u.copyA kind = r)))) ∧
  (∀ (c : Cmd) (s : State), s.wf → s.Accepts c 0x0A02 →
    let bad := 2 ≤ c.par 0 1 ∨ c.par 1 15 ≠ 0
    let busy := s.fw.staged = none ∨ s.fw.activateCmd ≠ none
    let moves := s.getF AON_FW [] AON_FW.NFW_CLASS ≠ s.getF AON_FW_STAGED [] AON_FW_STAGED.NFW_CLASS ∧ c.par 0 1 = 0 ∧
      ∃ d ∈ s.condDies, s.bit SCR_STATUS [d] SCR_STATUS.INSTALLED = true
    (bad → exec (.fwActivate c) s = .next (s.complete c stBadParam [])) ∧ (¬bad → busy → exec (.fwActivate c) s = .next (s.complete c stBusy [])) ∧
    (¬bad → ¬busy → moves → exec (.fwActivate c) s = .next (s.complete c stProfileMismatch [])) ∧
    (¬bad → ¬busy → ¬moves → Completes (exec (.fwActivate c) s) (fun t => t.bit CMD_IF_STATUS [] CMD_IF_STATUS.ACTIVATING = true ∧
      t.bit AON_FW [] AON_FW.ACTIVATING = true ∧ t.fw = { s.fw with activateCmd := some c, early := s.front.inflight.map (fun (x : Cmd × Nat) => x.1) } ∧
      t.front = { s.front with waiting := s.front.waiting ++ [(.activate, c)] } ∧ RegsKept [CMD_IF_STATUS.addr [], AON_FW.addr []] s t ∧
      Frame [.regs, .front, .fw] s t))) ∧
  (∀ (s : State), s.wf →
    ((s.fw.activateCmd = none ∨ s.bit CMD_IF_STATUS [] CMD_IF_STATUS.FW_READY = false) → exec .activationDrainTimeout s = .next s) ∧
    (∀ c, s.fw.activateCmd = some c → s.bit CMD_IF_STATUS [] CMD_IF_STATUS.FW_READY = true → Completes (exec .activationDrainTimeout s) (fun t =>
      t.fw = { s.fw with previous := s.fw.running, running := s.fw.staged.getD [] } ∧ t.bit CMD_IF_STATUS [] CMD_IF_STATUS.FW_READY = false ∧
      t.getF AON_FW [] AON_FW.VERSION = leAt (s.fw.staged.getD []) 8 4 ∧ t.wash 267 = washNext (s.wash 267) ∧ (∀ x ∈ t.front.inflight, x.1 = c) ∧
      Frame [.regs, .mem, .tempo, .patches, .press, .sects, .ports, .eth, .unison, .arb, .icu, .front, .sm, .fw] s t))) ∧
  (∀ (s : State), s.wf → (s.fw.activateCmd = none → exec .fwActivateRevert s = .next s) ∧
    (∀ c, s.fw.activateCmd = some c → Completes (exec .fwActivateRevert s) (fun t => t.fw.activateCmd = none ∧ t.fw.early = [] ∧
      t.fw.running = (if s.bit CMD_IF_STATUS [] CMD_IF_STATUS.FW_READY then s.fw.running else s.fw.previous) ∧
      t.bit AON_FW [] AON_FW.REVERTED = true ∧ t.bit AON_FW [] AON_FW.ACTIVATING = false ∧ t.bit CMD_IF_STATUS [] CMD_IF_STATUS.ACTIVATING = false ∧
      t.bit CMD_IF_STATUS [] CMD_IF_STATUS.FW_READY = true ∧ t.wash 267 = washNext (s.wash 267) ∧
      Frame [.regs, .mem, .tempo, .patches, .press, .sects, .ports, .eth, .unison, .arb, .icu, .front, .sm, .fw] s t)))
namespace Sys2Proof.Machine

/-- The request `c` ends with this status and these result bytes, from the state `u` that its own effect leaves: the mailbox shows both, and
the command completes (R880). -/
def SmAnswers (o : Host.Outcome State Fault Refusal) (c : Cmd) (st : Nat) (res : List Byte) (P : State → Prop) : Prop :=
  ∃ u, P u ∧ o = .next ((u.mbox c st res).complete c st res)

/-- An approved service ends with OK: the service indicator stands in result byte 15 (R886, R895). -/
def SmServes (o : Host.Outcome State Fault Refusal) (c : Cmd) (res : List Byte) (P : State → Prop) : Prop :=
  ∃ u, P u ∧ ∀ r, r = slice res 0 15 ++ [if u.bit SM_STATUS [] SM_STATUS.APPROVED then 1 else 0] → o = .next ((u.mbox c stOk r).complete c stOk r)

/-- What a zeroization leaves (R897): no secret, session or association; with STORE, no store, the current bank blown and the next one current. -/
def Zeroized (s u : State) (store : Bool) : Prop :=
  u.sm.sessions = [] ∧ u.sm.challenges = [] ∧ (∀ i, i < 64 → u.keySlot i = { gen := (s.keySlot i).gen }) ∧
  (∀ p, p < 2 → (tget {} u.eth.ports p).txSa = [] ∧ (tget {} u.eth.ports p).rxSa = []) ∧ u.bit SM_EVENT [] SM_EVENT.ZEROIZED = true ∧
  u.sm.drbg = decide (s.smState = 2 ∨ s.smState = 3) ∧ u.smState = s.smState ∧
  (if store then u.sm.store = {} ∧ u.fuses.bank = min 8 (s.fuses.bank + 1) ∧
      (s.fuses.bank < s.fuses.storeKeys.length → u.fuses.storeKeys[s.fuses.bank]? = some (List.replicate 32 0xFF) ∨ s.fuses.bank = 8)
    else u.sm.store = s.sm.store ∧ u.fuses.bank = s.fuses.bank) ∧
  Frame [.regs, .eth, .arb, .sm, .fuses, .free] s u

/-- The module has stopped with this reason (R866, R892): every volatile secret, session and association is gone. -/
def HardErrored (s u : State) (code : Nat) : Prop :=
  u.smState = 5 ∧ u.getF SM_STATUS [] SM_STATUS.ERR_CODE = code ∧ u.bit SM_EVENT [] SM_EVENT.ERROR = true ∧ u.sm.sessions = [] ∧ u.sm.challenges = [] ∧
  u.sm.drbg = false ∧ (∀ i, i < 64 → u.keySlot i = { gen := (s.keySlot i).gen }) ∧
  (∀ p, p < 2 → (tget {} u.eth.ports p).txSa = [] ∧ (tget {} u.eth.ports p).rxSa = []) ∧ Frame [.regs, .eth, .arb, .sm] s u

/-- The tables of keys and ports are in canonical form. -/
def State.SmWf (s : State) : Prop := s.wf ∧ tok {} s.sm.keys = true ∧ tok {} s.eth.ports = true ∧ tok 0 s.sm.fails = true

/-- The BAD_PARAM and the BUSY cases of SM_SESSION_OPEN (R874). -/
def OpenBad (c : Cmd) : Prop :=
  (c.par 0 1 ≠ 1 ∧ c.par 0 1 ≠ 2) ∨ (c.par 1 1 ≠ 1 ∧ c.par 1 1 ≠ 2) ∨ (c.par 1 1 = 2 ∧ 1 < c.par 2 1) ∨ (c.par 1 1 = 1 ∧ 15 < c.par 2 1) ∨
  c.par 3 1 ≠ 0 ∨ c.par 8 8 ≠ 0 ∨ c.session ≠ 0 ∨ (c.par 0 1 = 1 ∧ c.inlineLen ≠ 0) ∨ (c.par 0 1 = 2 ∧ c.inlineLen ≠ 96)
def State.OpenBusy (s : State) (c : Cmd) : Prop := c.via ∈ s.sm.locked ∨ s.smState ≠ 3

/-- A service passes its checks (R887, R893). -/
def State.SvcRuns (s : State) (c : Cmd) (svc : Nat) : Prop :=
  s.SmWf ∧ s.Accepts c 0x0702 ∧ c.par 0 1 = svc ∧ s.smState ≠ 4 ∧ s.smState ≠ 5 ∧ s.svcBad c = false ∧ s.svcRefused c = false

/-- A new key stands in a slot that was empty, in the next generation, and in the store when it persists; `res` is its handle (R882, R883). -/
def KeyFilled (s u : State) (typ flags : Nat) (key : Option (List Byte)) (res : List Byte) : Prop :=
  ∃ (i : Nat) (k : KeySlot), i < 64 ∧ (s.keySlot i).typ = 0 ∧ k.typ = typ ∧ k.gen = ((s.keySlot i).gen + 1) % 65536 ∧ k.persist = flags.testBit 0 ∧
    k.coOnly = flags.testBit 1 ∧ k.bound = (if typ = 3 then s.sliceId else 0) ∧ k.uses = 0 ∧ (∀ b, key = some b → k.key = b) ∧
    res = leBytes 4 (i + 256 * k.typ + 65536 * k.gen) ∧
    u.sm = { s.sm with keys := tput {} s.sm.keys i k, store := if k.persist then { s.sm.store with keys := s.sm.store.keys.filter (fun e => e.1 != i) ++ [(i, k)] } else s.sm.store } ∧
    Frame [.sm, .free] s u

end Sys2Proof.Machine

/-- R871 to R877, R880 to R883, R886 to R889 and R902. The slots that are taken are free values (log entry 3). -/
def Obligations.SecurityRequests : Prop :=
  (∀ (c : Cmd) (s : State), s.SmWf → s.Accepts c 0x0701 →
    let o := exec (.smSessionOpen c) s
    let role := c.par 1 1
    let key := c.par 2 1
    let full := 16 ≤ s.sm.sessions.length
    let fails := tget 0 s.sm.fails (viaNum c.via)
    (OpenBad c → SmAnswers o c stBadParam [] (fun u => u = s)) ∧
    (¬OpenBad c → s.OpenBusy c → SmAnswers o c stBusy [] (fun u => u = s)) ∧
    (¬OpenBad c → ¬s.OpenBusy c → c.par 0 1 = 1 → full → SmAnswers o c stResource [] (fun u => u = s)) ∧
    (¬OpenBad c → ¬s.OpenBusy c → c.par 0 1 = 1 → ¬full → ∃ x : Challenge, x.via = c.via ∧ x.role = role ∧ x.key = key ∧ x.nonce.length = 12 ∧
      SmAnswers o c stOk (leBytes 4 x.id ++ x.nonce) (fun u => Frame [.sm, .free] s u ∧ u.sm = { s.sm with challenges := (if 4 ≤ (s.sm.challenges.filter (fun y => y.via == c.via)).length then dropFirst (fun y => y.via == c.via) s.sm.challenges else s.sm.challenges) ++ [x] })) ∧
    (¬OpenBad c → ¬s.OpenBusy c → c.par 0 1 = 2 →
      (s.sm.challenges.find? (fun x => x.via == c.via && x.id == c.par 4 4) = none → SmAnswers o c stNotAuthorized [] (fun u => u = s)) ∧
      (∀ x, s.sm.challenges.find? (fun x => x.via == c.via && x.id == c.par 4 4) = some x →
        let used := dropFirst (fun y => y == x) s.sm.challenges
        ((x.role ≠ role ∨ x.key ≠ key ∨ s.roleKey role key = none) →
          SmAnswers o c stNotAuthorized [] (fun u => u = { s with sm := { s.sm with challenges := used } })) ∧
        (∀ pub, x.role = role → x.key = key → s.roleKey role key = some pub →
          let good := Config.ecdsaVerifies pub (leBytes 8 (s.reg GLB_SERIAL []).toNat ++ leBytes 4 x.id ++ x.nonce ++ leBytes 1 x.role ++
            leBytes 1 (viaNum x.via) ++ leBytes 1 x.key) c.inl
          (good = false → SmAnswers o c stNotAuthorized [] (fun u => u.bit SM_EVENT [] SM_EVENT.AUTH_FAIL = true ∧ Frame [.regs, .arb, .sm] s u ∧
            RegsKept [SM_EVENT.addr []] s u ∧ u.sm = { s.sm with challenges := used, fails := tput 0 s.sm.fails (viaNum c.via) (if fails < 7 then fails + 1 else 0), locked := if fails < 7 then s.sm.locked else s.sm.locked ++ [c.via] })) ∧
          (good = true → full → SmAnswers o c stResource [] (fun u => Frame [.sm] s u ∧ u.sm.sessions = s.sm.sessions)) ∧
          (good = true → ¬full → ∃ n : Session, n.via = c.via ∧ n.role = (if role = 2 then Role.officer else Role.user) ∧ n.handle ≠ 0 ∧
            (∀ y ∈ s.sm.sessions, y.handle.toNat % 16 ≠ n.handle.toNat % 16) ∧
            SmAnswers o c stOk (leBytes 4 n.handle.toNat ++ leBytes 1 role) (fun u => Frame [.sm, .free] s u ∧
              u.sm = { s.sm with challenges := used, fails := tput 0 s.sm.fails (viaNum c.via) 0, sessions := s.sm.sessions ++ [n] })))))) ∧
  (∀ (c : Cmd) (f : Option (Fin 11)) (s : State), s.Accepts c 0x0702 →
    let o := exec (.smService c f) s
    let stopped := (s.smState = 4 ∨ s.smState = 5) ∧ c.par 0 1 ≠ 1
    (stopped → SmAnswers o c stNotAuthorized [] (fun u => u = s)) ∧ (¬stopped → s.svcBad c = true → SmAnswers o c stBadParam [] (fun u => u = s)) ∧
    (¬stopped → s.svcBad c = false → s.svcRefused c = true → SmAnswers o c stNotAuthorized [] (fun u => u = s))) ∧
  (∀ (c : Cmd) (f : Option (Fin 11)) (s : State),
    let o := exec (.smService c f) s
    let a := c.par 2 1
    let flags := c.par 1 1
    let room := s.noKeyRoom flags = false
    (s.Accepts c 0x0702 → c.par 0 1 = 1 → s.svcBad c = false → s.svcRefused c = false →
      SmServes o c (leBytes 4 s.smStatus.toNat ++ leBytes 4 (s.reg SM_SELFTEST []).toNat) (fun u => u = s)) ∧
    (s.SvcRuns c 0x02 → (∀ t, f = some t → (t : Nat) = 0 ∨ 6 < (t : Nat)) → ∃ res, SmServes o c res (fun u => res = leBytes 4 (u.reg SM_SELFTEST []).toNat ∧
      u.getF SM_SELFTEST [] SM_SELFTEST.PASSED &&& 0x7E = 0x7E ∧ u.getF SM_SELFTEST [] SM_SELFTEST.FAILED &&& 0x7E = 0 ∧ RegsKept [SM_SELFTEST.addr []] s u ∧ Frame [.regs] s u)) ∧
    (s.SvcRuns c 0x03 → SmServes o c [] (fun u => u = { s with sm := { s.sm with sessions := s.sm.sessions.filter (fun x => !(x.handle.toNat == c.session && x.via == c.via)) } })) ∧
    ((s.SvcRuns c 0x10 ∨ s.SvcRuns c 0x11) → ¬room → SmAnswers o c stResource [] (fun u => u = s)) ∧
    (s.SvcRuns c 0x10 → room → ∃ res, SmServes o c res (fun u => KeyFilled s u a flags none res)) ∧
    (s.SvcRuns c 0x11 → room → ∃ res, SmServes o c res (fun u => KeyFilled s u a flags (some c.inl) res)) ∧
    (s.SvcRuns c 0x12 → ∀ k, s.usable c (c.par 3 4) 2 = some k →
      (¬room → SmAnswers o c stResource [] (fun u => u = s)) ∧
      (room → Config.kwUnwrap k.2.key c.inl = none → SmAnswers o c stIntegrity [] (fun u => u = s)) ∧
      (room → ∀ b, Config.kwUnwrap k.2.key c.inl = some b → ∃ res, SmServes o c res (fun u => KeyFilled s u a flags (some (slice b 0 32)) res))) ∧
    (s.SvcRuns c 0x13 → ∀ k, s.usable c (c.par 2 4) 0 = some k →
      (k.2.typ = 1 → s.sakUsed (c.par 2 4) = true → SmAnswers o c stBusy [] (fun u => u = s)) ∧
      ((k.2.typ ≠ 1 ∨ s.sakUsed (c.par 2 4) = false) → SmServes o c [] (fun u => Frame [.sm] s u ∧ u.sm = { s.sm with keys := tput {} s.sm.keys k.1 { gen := k.2.gen }, store := { s.sm.store with keys := s.sm.store.keys.filter (fun e => e.1 != k.1) } }))) ∧
    (s.SvcRuns c 0x14 → ∀ k, s.usable c (c.par 2 4) 0 = some k →
      SmServes o c (leBytes 1 k.2.typ ++ leBytes 1 (b2n k.2.persist + 2 * b2n k.2.coOnly) ++ leBytes 2 k.2.bound) (fun u => u = s)) ∧
    (∀ svc, (svc = 0x20 ∨ svc = 0x21) → s.SvcRuns c svc → ∀ st, s.rangeAway (c.par 6 8) (c.par 14 2 * 1024 + 28) = some st → st ≠ stOk →
      SmAnswers o c st [] (fun u => u = s)) ∧
    (∀ k, s.usable c (c.par 2 4) 3 = some k → s.rangeAway (c.par 6 8) (c.par 14 2 * 1024 + 28) = none →
      let off := c.par 6 8
      let n := c.par 14 2 * 1024
      let iv := slice (Config.wrapIv k.1 k.2.gen k.2.uses) 0 12
      let e := Config.gcmEncrypt k.2.key iv (s.readMem off n)
      (s.SvcRuns c 0x20 → SmServes o c (leBytes 8 k.2.uses) (fun u => u.readMem off (n + 28) = slice e.1 0 n ++ iv ++ slice e.2 0 16 ∧
        (∀ x, x < off ∨ off + n + 28 ≤ x → u.mbyte x = s.mbyte x) ∧ u.sm = { s.sm with keys := tput {} s.sm.keys k.1 { k.2 with uses := k.2.uses + 1 } } ∧
        Frame [.mem, .sm] s u)) ∧
      (s.SvcRuns c 0x21 → Config.gcmDecrypt k.2.key (s.readMem (off + n) 12) (s.readMem off n) (s.readMem (off + n + 12) 16) = none →
        SmAnswers o c stIntegrity [] (fun u => u = s)) ∧
      (s.SvcRuns c 0x21 → ∀ p, Config.gcmDecrypt k.2.key (s.readMem (off + n) 12) (s.readMem off n) (s.readMem (off + n + 12) 16) = some p →
        SmServes o c [] (fun u => u.readMem off n = slice p 0 n ∧ (∀ x, x < off ∨ off + n ≤ x → u.mbyte x = s.mbyte x) ∧ Frame [.mem] s u))) ∧
    (s.SvcRuns c 0x30 → SmServes o c [] (fun u => u = s.setStore { s.sm.store with scoreKeys := tput [] s.sm.store.scoreKeys a (if c.par 3 1 = 1 then c.inl else []) })) ∧
    (s.SvcRuns c 0x31 → SmServes o c [] (fun u => u.sm = { s.sm with store := { s.sm.store with scoreNone := decide (a = 1), idleMin := max 1 (c.par 3 1), retestH := max 1 (c.par 4 1) } } ∧
      u.getF SM_POLICY [] SM_POLICY.SCORE_NONE = a ∧ u.getF SM_POLICY [] SM_POLICY.IDLE_MIN = max 1 (c.par 3 1) ∧
      u.getF SM_POLICY [] SM_POLICY.RETEST_H = max 1 (c.par 4 1) ∧ RegsKept [SM_POLICY.addr []] s u ∧ Frame [.regs, .sm] s u)) ∧
    (s.SvcRuns c 0x32 → SmServes o c [] (fun u => u = s.setStore { s.sm.store with userKeys := tput [] s.sm.store.userKeys a (if c.par 3 1 = 1 then c.inl else []) })) ∧
    (s.SvcRuns c 0x33 → ∃ x y, SmServes o c (leBytes 1 x ++ leBytes 1 y) (fun u => u.fuses = { s.fuses with smSvn := x, fwSvn := y } ∧ Frame [.fuses] s u) ∧
      x = min 64 (max s.fuses.smSvn s.sm.runSmSvn) ∧ y = min 64 (max s.fuses.fwSvn s.sm.runFwSvn)) ∧
    (s.SvcRuns c 0x34 → SmServes o c [] (fun u => u.fuses = { s.fuses with coDigest := s.fuses.coDigest.set a (Config.sha384 c.inl), coKey := s.fuses.coKey.set a c.inl } ∧
      u.smState = (if s.smState = 2 ∧ a = 0 then 3 else s.smState) ∧ RegsKept [SM_STATUS.addr []] s u ∧ Frame [.regs, .fuses] s u)) ∧
    (s.SvcRuns c 0x35 → SmServes o c [] (fun u => u = { s with fuses := { s.fuses with rootRevoked := s.fuses.rootRevoked ||| 2 ^ a } })) ∧
    (s.SvcRuns c 0x40 → SmServes o c [] (fun u => u.sm.everUnlocked = true ∧ u.debugOpen = true ∧ u.bit SM_STATUS [] SM_STATUS.DEBUG_UNLOCKED = true ∧
      u.bit SM_STATUS [] SM_STATUS.APPROVED = false ∧ u.bit SM_EVENT [] SM_EVENT.DEBUG_UNLOCKED = true ∧ Zeroized s u false)) ∧
    (s.SvcRuns c 0x41 → SmServes o c [] (fun u => u.debugOpen = false ∧ u.bit SM_STATUS [] SM_STATUS.DEBUG_UNLOCKED = false ∧
      RegsKept [SM_DEBUG.addr [], SM_STATUS.addr []] s u ∧ Frame [.regs] s u))) ∧
  (∀ (slot : Fin 16) (via : Via) (id : BitVec 32) (s : State),
    Completes (exec (.sessionIdleTimeout slot) s) (fun t => (∀ x, x ∈ t.sm.sessions ↔ x ∈ s.sm.sessions ∧ x.handle.toNat % 16 ≠ (slot : Nat)) ∧
      t.sm = { s.sm with sessions := t.sm.sessions } ∧ Frame [.sm] s t) ∧
    Completes (exec (.challengeExpiry via id) s) (fun t => (∀ x, x ∈ t.sm.challenges ↔ x ∈ s.sm.challenges ∧ ¬(x.via = via ∧ x.id = id.toNat)) ∧
      t.sm = { s.sm with challenges := t.sm.challenges } ∧ Frame [.sm] s t) ∧
    Completes (exec (.authLockoutEnd via) s) (fun t => (∀ x, x ∈ t.sm.locked ↔ x ∈ s.sm.locked ∧ x ≠ via) ∧
      t.sm = { s.sm with locked := t.sm.locked } ∧ Frame [.sm] s t)) ∧
  (∀ (w : Who) (v : BitVec 32) (f : Option (Fin 11)) (s : State), s.wf →
    let u := if v.getLsbD 2 then s.setF SM_MBOX_CTRL [] SM_MBOX_CTRL.DONE 0 else s
    let go := v.getLsbD 0 = true ∧ s.fw.coresHeld = false ∧ s.bit SM_MBOX_CTRL [] SM_MBOX_CTRL.BUSY = false
    let c : Cmd := { via := viaOf (s.getF SM_MBOX_CTRL [] SM_MBOX_CTRL.TRANSPORT), ring := 0, slot := (List.range 32).flatMap (fun i => leBytes 8 (s.reg SM_MBOX_SLOT [i]).toNat) }
    (Who.mMode w = false → exec (.smMboxGo w v f) s = .next s) ∧ (Who.mMode w = true → ¬go → exec (.smMboxGo w v f) s = .next u) ∧
    (Who.mMode w = true → go → Completes (exec (.smMboxGo w v f) s) (fun t => t.bit SM_MBOX_CTRL [] SM_MBOX_CTRL.DONE = true ∧
      t.bit SM_MBOX_CTRL [] SM_MBOX_CTRL.BUSY = false ∧ Frame [.regs, .mem, .eth, .arb, .sm, .fuses, .free] s t ∧
      ((c.opcode = 0x0701 ∨ c.opcode = 0x0702 ∨ c.opcode = 0x0703) →
        (u.sessionOk c = false → t = u.mbox c stNotAuthorized []) ∧
        (u.sessionOk c = true → ∀ r : SmOut, r = (if c.opcode = 0x0701 then u.smSessionOpen c else if c.opcode = 0x0702 then u.smService c (f.map (fun t => (t : Nat))) else u.smZeroize c) →
          t = r.1.mbox c r.2.1 r.2.2)))))

/-- R863, R877, R890, R892, R896 to R899 and R978. -/
def Obligations.SecurityStates : Prop :=
  (∀ (c : Cmd) (s : State), s.SmWf → s.Accepts c 0x0703 →
    ((2 ≤ c.par 0 1 ∨ c.par 1 15 ≠ 0) → SmAnswers (exec (.zeroize c) s) c stBadParam [] (fun u => u = s)) ∧
    (¬(2 ≤ c.par 0 1 ∨ c.par 1 15 ≠ 0) → c.inlineLen ≠ 0 → SmAnswers (exec (.zeroize c) s) c stBadLength [] (fun u => u = s)) ∧
    (¬(2 ≤ c.par 0 1 ∨ c.par 1 15 ≠ 0) → c.inlineLen = 0 → SmAnswers (exec (.zeroize c) s) c stOk [] (fun u => Zeroized s u (c.par 0 1 == 1)))) ∧
  (∀ (s : State), s.SmWf →
    (s.pins.vauxGood = false → exec .zeroizeNLatch s = .next s) ∧
    (s.pins.vauxGood = true → (s.fw.inCold = true ∨ s.smState < 2) → exec .zeroizeNLatch s = .next { s with sm := { s.sm with zeroLatch := true } }) ∧
    (s.pins.vauxGood = true → s.fw.inCold = false → 2 ≤ s.smState → Completes (exec .zeroizeNLatch s) (fun t => Zeroized s t true ∧ t.sm.zeroLatch = false))) ∧
  (∀ (apt : Bool) (s : State), s.SmWf →
    let n := if apt then 9 else 8
    (s.smState ≠ 2 → s.smState ≠ 3 → exec (.entropyHealthFail apt) s = .next s) ∧
    ((s.smState = 2 ∨ s.smState = 3) → Completes (exec (.entropyHealthFail apt) s) (fun t => t.smState = 4 ∧ t.getF SM_STATUS [] SM_STATUS.ERR_CODE = 0x80 + n ∧
      (t.getF SM_SELFTEST [] SM_SELFTEST.FAILED).testBit n = true ∧ t.bit SM_EVENT [] SM_EVENT.ERROR = true ∧
      t.sm = { s.sm with sessions := [], prior := s.smState, drbg := false, recoveries := 0 } ∧
      RegsKept [SM_STATUS.addr [], SM_SELFTEST.addr [], SM_EVENT.addr []] s t ∧ Frame [.regs, .arb, .sm] s t))) ∧
  (∀ (a b : Bool) (s : State), s.SmWf →
    (s.smState ≠ 4 → exec (.softErrorRecovery a b) s = .next s) ∧
    (s.smState = 4 → a = false → s.sm.recoveries < 2 → Completes (exec (.softErrorRecovery a b) s) (fun t => t.smState = 4 ∧
      t.sm = { s.sm with recoveries := s.sm.recoveries + 1 } ∧ (t.getF SM_SELFTEST [] SM_SELFTEST.FAILED).testBit 7 = true ∧
      RegsKept [SM_SELFTEST.addr []] s t ∧ Frame [.regs, .sm] s t)) ∧
    (s.smState = 4 → a = false → 2 ≤ s.sm.recoveries → Completes (exec (.softErrorRecovery a b) s) (fun t => HardErrored s t 0x87)) ∧
    (s.smState = 4 → a = true → b = false → Completes (exec (.softErrorRecovery a b) s) (fun t => HardErrored s t 0x86)) ∧
    (s.smState = 4 → a = true → b = true → Completes (exec (.softErrorRecovery a b) s) (fun t =>
      t.smState = (if s.sm.prior = 1 then (if s.coFused 0 then 3 else 2) else s.sm.prior % 8) ∧ t.sm.drbg = true ∧ t.sm.recoveries = 0 ∧
      t.getF SM_SELFTEST [] SM_SELFTEST.PASSED &&& 0xC0 = 0xC0 ∧ Frame [.regs, .arb, .sm, .fuses, .free] s t))) ∧
  (∀ (f : Option (Fin 11)) (s : State), s.SmWf →
    (s.smState ≠ 2 → s.smState ≠ 3 → exec (.periodicSelftest f) s = .next s) ∧
    ((s.smState = 2 ∨ s.smState = 3) → (∀ t, f = some t → (t : Nat) = 0 ∨ 6 < (t : Nat)) → Completes (exec (.periodicSelftest f) s) (fun t =>
      t.getF SM_SELFTEST [] SM_SELFTEST.PASSED &&& 0x7E = 0x7E ∧ t.getF SM_SELFTEST [] SM_SELFTEST.FAILED &&& 0x7E = 0 ∧ RegsKept [SM_SELFTEST.addr []] s t ∧
      Frame [.regs] s t)) ∧
    ((s.smState = 2 ∨ s.smState = 3) → ∀ x, f = some x → 1 ≤ (x : Nat) → (x : Nat) ≤ 6 → Completes (exec (.periodicSelftest f) s) (fun t =>
      (t.getF SM_SELFTEST [] SM_SELFTEST.FAILED).testBit x = true ∧ HardErrored s t (0x80 + x))))
namespace Sys2Proof.Machine

/-- The registers in which a write does what a rule of their own says, beside or in place of their access codes. -/
def ruledRegs : List Reg :=
  [SCR_TEMPO_FAULT, SCR_FAULT, PRS_CTRL, PRS_BOARD_DATA, SCT_BANKMASK, SCT_TSTART, TCK_BUDGET, TCK_CFG, LNK_CTRL, BLT_CFG, TCK_MCFG, TCK_GRID,
   TCK_CSEND_CTRL, TCK_INBOX_CTRL, RNK_CHIP, RNK_FENCE, RNK_EVENT, LNK_LGC_ID, LNK_LGC_EVENT, LIN_CFG, MEM_CFG, MEM_CE_LIMIT, MEM_ERR] ++
  [MEM_UE_HOLD, MEM_STRAY, MEM_QCTL, ICU_SRC, ICU_SETPEND, ICU_CFG, ICU_STACK_RESET, ICU_COMPLETE, ICU_ENABLE, EVA_CFG, EVA_BASE, EVA_RD, EVA_SW,
   CMD_RING_CFG, CMD_RING_BASE, CMD_CPL_BASE, CMD_DB_TAIL, CMD_DB_HEAD, MSIX_CTRL, ETH_QDB, ETH_QCPL, NTC_MARKS, NTC_LEVEL, NTC_CTRL] ++
  [CLK_REF_CFG, CLK_FWD_CFG, RST_COLD, RST_GIVEUP, RST_EVENT, PWR_THERM, AON_FW, SM_MBOX_SLOT, SM_MBOX_CTRL, GLB_ABSENT_ACCESS, UN_STATUS, TEL_CLR]

/-- The lock of the RWL fields of a memory controller is open (R393); no other register has such a field. -/
def State.lockOpen (s : State) (r : Reg) (ix : List Nat) : Bool :=
  decide (0x0160_0000 ≤ r.off) && decide (r.off < 0x0170_0000) &&
    !(s.bit MEM_STATUS [ix.getD 0 0] MEM_STATUS.TRAINED || s.bit MEM_STATUS [ix.getD 0 0] MEM_STATUS.SELF_REFRESH)

/-- A bit of a field after a write that reaches it with `d`, when it held `o` (R17). -/
def wroteBit (code : Acc) (open_ o d : Bool) : Bool :=
  match code with
  | .rw => d
  | .rwl => if open_ then d else o
  | .w1c => o && !d
  | .w1s => o || d
  | .ro => o
  | .rc => o
  | .wo => o

/-- Bit i of a register lies in the bytes that a part of an access reaches, and the data bit of `v` that it takes. -/
def RegPart.reaches (x : RegPart) (i : Nat) : Prop := 8 * x.lo ≤ i ∧ i < 8 * (x.lo + x.len)
def RegPart.dataBit (x : RegPart) (v i : Nat) : Bool := v.testBit (i - 8 * x.lo + 8 * x.pos)

end Sys2Proof.Machine

/-- R8, R9, R13 to R15, R17, R18, R22 to R24, R659, R683 and R708 (a unit in reset ignores writes: log entry 32). -/
def Obligations.RegisterAccess : Prop :=
  (∀ (w : Who) (a : BitVec 26) (n : Fin 65) (v : Word) (s : State) (x : RegPart), s.wf → s.aim a.toNat n = .register →
    regParts a.toNat n = [x] → ruledRegs.any x.r.is = false → (x.r.off / 0x8_0000 = 3 → s.noticeHas (x.ix.getD 0 0) = true) →
    s.regAway x.r x.ix = false →
    Completes (exec (.registerWrite w a n v) s) (fun t =>
      (∀ f ∈ x.r.fields, ∀ i, f.1.lo ≤ i → i < f.1.lo + f.1.width → x.reaches i →
        bitOf (t.reg x.r x.ix) i = wroteBit f.2 (s.lockOpen x.r x.ix) (bitOf (s.reg x.r x.ix) i) (x.dataBit v.toNat i)) ∧
      (∀ i, ¬x.reaches i → bitOf (t.reg x.r x.ix) i = bitOf (s.reg x.r x.ix) i) ∧
      RegsKept [x.r.addr x.ix] s t ∧ Frame [.regs] s t)) ∧
  (∀ (w : Who) (k : Fin 8) (v : Word) (s : State), s.wf → s.absentWindow (MEM_CFG.addr [(k : Nat)]) = false → s.regAway MEM_CFG [(k : Nat)] = false →
    Completes (exec (.registerWrite w (BitVec.ofNat 26 (MEM_CFG.addr [(k : Nat)])) 4 v) s) (fun t =>
      bitOf (t.reg MEM_CFG [(k : Nat)]) 0 = (if s.lockOpen MEM_CFG [(k : Nat)] then v.getLsbD 0 else bitOf (s.reg MEM_CFG [(k : Nat)]) 0) ∧
      bitOf (t.reg MEM_CFG [(k : Nat)]) 1 = v.getLsbD 1 ∧ t.getF MEM_CFG [(k : Nat)] MEM_CFG.SCRUB_HOURS = max 1 (fget v MEM_CFG.SCRUB_HOURS) ∧
      t.getF MEM_CFG [(k : Nat)] MEM_CFG.WAIT_US = max 1 (fget v MEM_CFG.WAIT_US) ∧ RegsKept [MEM_CFG.addr [(k : Nat)]] s t ∧ Frame [.regs] s t)) ∧
  (∀ (w : Who) (a : BitVec 26) (n : Fin 65) (v : Word) (s : State), s.aim a.toNat n = .register →
    (∀ x ∈ regParts a.toNat n, s.regAway x.r x.ix = true) → exec (.registerWrite w a n v) s = .next s) ∧
  (∀ (w : Who) (a : BitVec 26) (v : Word) (s : State) (x y : RegPart), s.aim a.toNat 8 = .register → regParts a.toNat 8 = [x, y] →
    exec (.registerWrite w a 8 v) s = .next ((s.regWrite w a.toNat 4 (v.toNat % 2 ^ 32)).regWrite w (a.toNat + 4) 4 (v.toNat / 2 ^ 32))) ∧
  (∀ (w : Who) (a : BitVec 26) (n : Fin 65) (s : State) (x : RegPart), s.wf → s.aim a.toNat n = .register → regParts a.toNat n = [x] →
    x.r.is ICU_CLAIM = false → x.r.is PRS_BOARD_DATA = false → x.r.isMbox = false →
    Completes (exec (.rcRegisterRead w a n) s) (fun t =>
      t.front.readData.toNat = (s.view x.r x.ix).toNat / 2 ^ (8 * x.lo) % 2 ^ (8 * x.len) * 2 ^ (8 * x.pos) % 2 ^ 64 ∧
      (∀ i, x.reaches i → bitOf (x.r.bitsOf .rc) i = true → bitOf (t.reg x.r x.ix) i = false) ∧
      (∀ i, (¬x.reaches i ∨ bitOf (x.r.bitsOf .rc) i = false) → bitOf (t.reg x.r x.ix) i = bitOf (s.reg x.r x.ix) i) ∧
      t.front = { s.front with readData := t.front.readData } ∧ RegsKept [x.r.addr x.ix] s t ∧ Frame [.regs, .front] s t)) ∧
  (∀ (w : Who) (a : BitVec 26) (n : Fin 65) (v : Word) (s : State), s.wf → accessBad a.toNat n = false → s.absentWindow a.toNat = true →
    let counts (t : State) : Prop :=
      t.bit GLB_ABSENT_ACCESS [] GLB_ABSENT_ACCESS.ACCESS = true ∧ Counted GLB_ABSENT_ACCESS [] GLB_ABSENT_ACCESS.COUNT 1 s t ∧
      t.getF GLB_ABSENT_ACCESS [] GLB_ABSENT_ACCESS.FIRST_MB =
        (if s.bit GLB_ABSENT_ACCESS [] GLB_ABSENT_ACCESS.ACCESS then s.getF GLB_ABSENT_ACCESS [] GLB_ABSENT_ACCESS.FIRST_MB else a.toNat / 2 ^ 20) ∧
      RegsKept [GLB_ABSENT_ACCESS.addr []] s t
    Completes (exec (.absentUnitRead w a n) s) (fun t => counts t ∧
      t.bit GLB_ABSENT_ACCESS [] GLB_ABSENT_ACCESS.WRITE = s.bit GLB_ABSENT_ACCESS [] GLB_ABSENT_ACCESS.WRITE ∧
      t.front = { s.front with readData := 0 } ∧ Frame [.regs, .front] s t) ∧
    Completes (exec (.absentUnitWrite w a n v) s) (fun t => counts t ∧ t.bit GLB_ABSENT_ACCESS [] GLB_ABSENT_ACCESS.WRITE = true ∧
      Frame [.regs] s t)) ∧
  (∀ (w : Who) (a : BitVec 26) (n : Fin 65) (v : Word) (s : State), s.aim a.toNat n = .reserved →
    exec (.reservedOffsetAccess w a n none) s = .next (s.readAs 0) ∧ exec (.reservedOffsetAccess w a n (some v)) s = .next s) ∧
  (∀ (w : Who) (a : BitVec 26) (n : Fin 65) (v : Option Word) (s : State), s.wf →
    (((n : Nat) ≠ 4 ∧ (n : Nat) ≠ 8) ∨ a.toNat % n ≠ 0 ∨ ((n : Nat) = 8 ∧ 0x0010_4000 ≤ a.toNat ∧ a.toNat < 0x0010_6000)) →
    (s.bit CMD_ACCESS_FAULT [] CMD_ACCESS_FAULT.FAULT = true →
      exec (.misalignedRegAccess w a n v) s = .next (if v.isNone then s.readAs 0 else s)) ∧
    (s.bit CMD_ACCESS_FAULT [] CMD_ACCESS_FAULT.FAULT = false → Completes (exec (.misalignedRegAccess w a n v) s) (fun t =>
      t.bit CMD_ACCESS_FAULT [] CMD_ACCESS_FAULT.FAULT = true ∧ t.bit CMD_ACCESS_FAULT [] CMD_ACCESS_FAULT.WRITE = v.isSome ∧
      t.bit CMD_ACCESS_FAULT [] CMD_ACCESS_FAULT.HOST = (w == .host) ∧ t.getF CMD_ACCESS_FAULT [] CMD_ACCESS_FAULT.OFFSET = a.toNat ∧
      Logs s t 10 1 (CMD_ACCESS_FAULT.addr [] + 2 ^ 32) ∧ (v = none → t.front.readData = 0) ∧
      (if s.msixOpen 17 then t.front.msix = s.front.msix ++ [17] else 17 ∈ t.front.msixHeld ∧ t.front.msix = s.front.msix) ∧
      RegsKept [CMD_ACCESS_FAULT.addr []] s t ∧ Frame [.regs, .arb, .front] s t)))
namespace Sys2Proof.Machine

/-- From `s` to `t` one flag of the always-on management registers is set, and logged unless C0 is in reset (R938). -/
def Flagged (s t : State) (r : Reg) (f : Fld) : Prop :=
  t.bit r [] f = true ∧ (s.dieInReset 10 = false → Logs s t 10 1 (r.addr [] + 2 ^ f.lo * 2 ^ 32)) ∧ (s.dieInReset 10 = true → t.arb = s.arb) ∧
  (∀ g : Fld, g.lo + g.width ≤ f.lo ∨ f.lo + f.width ≤ g.lo → t.getF r [] g = s.getF r [] g) ∧ RegsKept [r.addr []] s t

/-- The instructions that take over the balls (R922). -/
def scanCodes : List Nat := [0x00, 0x03, 0x04, 0x05, 0x06]

/-- What a section's register bytes at the multiple `o` of 8 become by a debug write of `v` (R926): those bytes take it, and no other. -/
def SectionPoked (x y : Section) (o v : Nat) : Prop :=
  (∀ a, tget 0 y.tiles a = if o < 0x4000 ∧ o ≤ a ∧ a < o + 8 then BitVec.ofNat 8 (v / 256 ^ (a - o)) else tget 0 x.tiles a) ∧
  (∀ a, tget 0 y.acc a = if 0x4000 ≤ o ∧ o < 0x6000 ∧ o ≤ 0x4000 + 4 * a ∧ 4 * a < o - 0x4000 + 8 then BitVec.ofNat 32 (v / 2 ^ (8 * (0x4000 + 4 * a - o)))
    else tget 0 x.acc a) ∧
  (∀ a, tget 0 y.vec a = if 0x6000 ≤ o ∧ o < 0x7000 ∧ o ≤ 0x6000 + 4 * a ∧ 4 * a < o - 0x6000 + 8 then BitVec.ofNat 32 (v / 2 ^ (8 * (0x6000 + 4 * a - o)))
    else tget 0 x.vec a) ∧
  y = { x with tiles := y.tiles, acc := y.acc, vec := y.vec }

/-- What a debug read of those bytes captures (R926). -/
def SectionPeeked (x : Section) (o : Nat) (d : Word) : Prop :=
  (o < 0x4000 → ∀ i, i < 8 → (d >>> (8 * i)).setWidth 8 = tget 0 x.tiles (o + i)) ∧
  (0x4000 ≤ o → o < 0x6000 → d.setWidth 32 = tget 0 x.acc ((o - 0x4000) / 4) ∧ (d >>> 32).setWidth 32 = tget 0 x.acc ((o - 0x4000) / 4 + 1)) ∧
  (0x6000 ≤ o → o < 0x7000 → d.setWidth 32 = tget 0 x.vec ((o - 0x6000) / 4) ∧ (d >>> 32).setWidth 32 = tget 0 x.vec ((o - 0x6000) / 4 + 1)) ∧
  (0x7000 ≤ o → d = 0)

/-- A write on the sideband is taken (R933): it is at the assigned address, and its PEC is right, or absent where none is required. -/
def State.smbTakes (s : State) (pec : Option Bool) : Prop :=
  s.bit SMB_ADDR [] SMB_ADDR.AV = true ∧ (pec = some true ∨ (pec = none ∧ s.bit SMB_CFG [] SMB_CFG.PEC_REQ = false))

end Sys2Proof.Machine

/-- R918 to R938. KIND 0's rights, what an update captures after a write, and a read without a completion rest on the model's log. -/
def Obligations.TestPortAndSideband : Prop :=
  (∀ (s : State), exec .tapReset s = exec (.tapInstructionUpdate 0x01) s) ∧
  (∀ (code : BitVec 8) (s : State), scanCodes.contains code.toNat = false → scanCodes.contains s.tap.ir = false →
    exec (.tapInstructionUpdate code) s = .next { s with tap := { s.tap with ir := code.toNat } }) ∧
  (∀ (code : BitVec 8) (s : State), s.wf → scanCodes.contains code.toNat = true → scanCodes.contains s.tap.ir = true →
    Completes (exec (.tapInstructionUpdate code) s) (fun t => t.tap = { s.tap with ir := code.toNat } ∧ Flagged s t TEL_EVENT TEL_EVENT.EXTEST ∧
      Frame [.regs, .arb, .tap] s t)) ∧
  (∀ (code : BitVec 8) (s : State), s.wf → scanCodes.contains code.toNat = true → scanCodes.contains s.tap.ir = false →
    Completes (exec (.tapInstructionUpdate code) s) (fun t => t.tap = { s.tap with ir := code.toNat } ∧
      t.bit TEL_EVENT [] TEL_EVENT.EXTEST = true ∧ (∀ l, l < 12 → t.linkUp l = false) ∧ t.bit CMD_IF_STATUS [] CMD_IF_STATUS.LINK_UP = false ∧
      (∀ p, p < 2 → t.ethUp p = false) ∧ Frame [.regs, .mem, .press, .lk, .legacy, .eth, .arb, .front, .tap, .pwr] s t)) ∧
  (∀ (code : BitVec 8) (s : State), s.wf → scanCodes.contains code.toNat = false → scanCodes.contains s.tap.ir = true →
    Completes (exec (.tapInstructionUpdate code) s) (fun t => t.tap = { s.tap with ir := code.toNat } ∧
      (∀ l, l < 12 → t.linkState l = if s.linkState l ≠ 0 ∧ s.linkInReset l = false then 1 else s.linkState l) ∧
      Frame [.regs, .lk, .legacy, .tap] s t)) ∧
  (∀ (v : BitVec 16) (w : BitVec 96) (s : State), s.wf →
    (s.tap.ir ≠ 0x10 → exec (.dbgSel v) s = .next s) ∧ (s.tap.ir ≠ 0x11 → exec (.dbgAccess w) s = .next s) ∧
    (s.tap.ir = 0x10 → s.debugOpen = true → exec (.dbgSel v) s = .next { s with tap := { s.tap with sel := v.toNat } }) ∧
    (s.debugOpen = false → (s.tap.ir = 0x10 → Completes (exec (.dbgSel v) s) (fun t => Flagged s t TEL_EVENT TEL_EVENT.DBG_DENIED ∧ Frame [.regs, .arb] s t)) ∧
      (s.tap.ir = 0x11 → Completes (exec (.dbgAccess w) s) (fun t => Flagged s t TEL_EVENT TEL_EVENT.DBG_DENIED ∧ Frame [.regs, .arb] s t)))) ∧
  (∀ (w : BitVec 96) (s : State), s.wf → s.tap.ir = 0x11 → s.debugOpen = true →
    let op := w.toNat / 2 ^ 90 % 4
    let addr := w.toNat / 2 ^ 64 % 2 ^ 26
    let v := w.toNat % 2 ^ 64
    let kind := s.tap.sel % 4
    let p := s.tap.sel / 256 % 256
    let k := addr / 0x8000 % 4
    let o := addr % 0x8000 / 8 * 8
    (op = 0 → exec (.dbgAccess w) s = .next s) ∧
    (op = 3 → Completes (exec (.dbgAccess w) s) (fun t => t.tap.capAddr = addr ∧ Frame [.tap, .free] s t)) ∧
    ((op = 1 ∨ op = 2) → ∃ u, Flagged s u TEL_EVENT TEL_EVENT.DEBUG_ACCESS ∧ Frame [.regs, .arb] s u ∧
      (kind = 0 → op = 1 → exec (.dbgAccess w) s =
        .next ((u.busRead .debug addr (debugSize addr)).capture (u.busRead .debug addr (debugSize addr)).front.readData addr 0)) ∧
      (kind = 0 → op = 2 → exec (.dbgAccess w) s = .next ((u.busWrite .debug addr (debugSize addr) v).captureFree addr 0)) ∧
      (kind ≠ 0 → Completes (exec (.dbgAccess w) s) (fun t => t.tap.capAddr = addr ∧ t.regs = u.regs ∧ t.arb = u.arb ∧
        (kind = 3 → t.tap.capStatus = 2) ∧
        (kind = 1 → s.pressUp p = false → t.tap.capStatus = 2) ∧
        (kind = 1 → s.pressUp p = true → (s.sect p k).st ≠ .paused → (s.sect p k).st ≠ .idle → t.tap.capStatus = 1) ∧
        (kind = 1 → s.pressUp p = true → ((s.sect p k).st = .paused ∨ (s.sect p k).st = .idle) → t.tap.capStatus = 0 ∧
          (op = 1 → SectionPeeked (s.sect p k) o t.tap.capData) ∧
          (op = 2 → tok {} s.sects = true → tok 0 (s.sect p k).tiles = true → tok 0 (s.sect p k).acc = true → tok 0 (s.sect p k).vec = true →
            SectionPoked (s.sect p k) (t.sect p k) o v ∧ ∀ a, a ≠ 4 * p + k → tget {} t.sects a = tget {} s.sects a)) ∧
        ((kind ≠ 1 ∨ op = 1) → t.sects = s.sects) ∧ Frame [.regs, .arb, .sects, .tap, .free] s t)))) ∧
  (∀ (level : Bool) (s : State), s.wf → Completes (exec (.hemInChange level) s) (fun t => t.pins = { s.pins with hemIn := level } ∧
    t.bit SMB_ADDR [] SMB_ADDR.HEM_IN = level ∧ t.bit SMB_ADDR [] SMB_ADDR.AV = s.bit SMB_ADDR [] SMB_ADDR.AV ∧
    t.getF SMB_ADDR [] SMB_ADDR.ADDR = s.getF SMB_ADDR [] SMB_ADDR.ADDR ∧ RegsKept [SMB_ADDR.addr []] s t ∧ Frame [.regs, .pins] s t)) ∧
  (∀ (dst : Option (BitVec 7)) (bs : List Byte) (a : BitVec 7) (s : State), s.wf →
    let av := s.bit SMB_ADDR [] SMB_ADDR.AV
    let eligible := s.bit SMB_ADDR [] SMB_ADDR.HEM_IN && !av
    let mine := (match dst with | some b => av && b.toNat == s.getF SMB_ADDR [] SMB_ADDR.ADDR | none => false)
    exec .arpPrepare s = .next (s.smbAnswer (if eligible then some [] else none)) ∧
    exec (.arpGetUdid dst) s = .next (s.smbAnswer (if mine || (dst.isNone && eligible) then some s.udid else none)) ∧
    (eligible = true → bs = s.udid → smbReserved a.toNat = false → Completes (exec (.arpAssignAddress bs a) s) (fun t =>
      t.getF SMB_ADDR [] SMB_ADDR.ADDR = a.toNat ∧ t.bit SMB_ADDR [] SMB_ADDR.AV = true ∧ t.bit SMB_EVENT [] SMB_EVENT.ASSIGNED = true ∧
      t.smb = { s.smb with answer := some [] } ∧ RegsKept [SMB_ADDR.addr [], SMB_EVENT.addr []] s t ∧ Frame [.regs, .arb, .smb] s t)) ∧
    (¬(eligible = true ∧ bs = s.udid ∧ smbReserved a.toNat = false) → exec (.arpAssignAddress bs a) s = .next (s.smbAnswer none)) ∧
    ((mine || (dst.isNone && av)) = true → Completes (exec (.arpResetDevice dst) s) (fun t =>
      t.bit SMB_ADDR [] SMB_ADDR.AV = false ∧ t.bit SMB_EVENT [] SMB_EVENT.RESET_DEVICE = true ∧ t.smb = { s.smb with answer := some [] } ∧
      RegsKept [SMB_ADDR.addr [], SMB_EVENT.addr []] s t ∧ Frame [.regs, .arb, .smb] s t)) ∧
    ((mine || (dst.isNone && av)) = false → exec (.arpResetDevice dst) s = .next (s.smbAnswer (if dst.isNone && eligible then some [] else none)))) ∧
  (∀ (s : State), s.bit SMB_ADDR [] SMB_ADDR.AV = false → ∀ r ∈ [Instr.smbReadStatus, .smbReadSmStatus, .smbReadId, .smbReadTemp, .smbReadCompletion],
    exec r s = .next (s.smbAnswer none)) ∧
  (∀ (s : State), s.bit SMB_ADDR [] SMB_ADDR.AV = true →
    Completes (exec .smbReadStatus s) (fun t => ∃ b : Byte, t = s.smbAnswer (some [b]) ∧
      b.getLsbD 0 = s.bit CMD_IF_STATUS [] CMD_IF_STATUS.FW_READY ∧ b.getLsbD 1 = s.smb.busy ∧ b.getLsbD 2 = s.smb.done ∧ b.getLsbD 3 = s.smb.alert ∧
      b.getLsbD 4 = s.bit SMB_EVENT [] SMB_EVENT.CMD_ERR ∧ b.toNat < 32) ∧
    Completes (exec .smbReadSmStatus s) (fun t => ∃ bs, t = s.smbAnswer (some bs) ∧ bs.length = 4 ∧ leNat bs = s.smStatus.toNat % 2 ^ 32) ∧
    Completes (exec .smbReadId s) (fun t => ∃ bs, t = s.smbAnswer (some bs) ∧ bs.length = 16 ∧ leAt bs 0 8 = (s.reg GLB_SERIAL []).toNat ∧
      leAt bs 8 8 = (s.reg GLB_ID []).toNat) ∧
    Completes (exec .smbReadTemp s) (fun t => ∃ bs, t = s.smbAnswer (some bs) ∧ bs.length = 2 ∧
      (∀ d, d < 12 → s.getF PWR_TEMP [d] PWR_TEMP.NOW ≤ leNat bs) ∧ ∃ d, d < 12 ∧ leNat bs = s.getF PWR_TEMP [d] PWR_TEMP.NOW) ∧
    (s.smb.done = true → exec .smbReadCompletion s = .next (({ s with smb := { s.smb with done := false, alert := false } }).smbAnswer (some s.smb.cpl))) ∧
    (s.smb.done = false → Completes (exec .smbReadCompletion s) (fun t => (∃ bs, t.smb = { s.smb with answer := some bs }) ∧ Frame [.smb, .free] s t))) ∧
  (∀ (bs : List Byte) (n : Fin 129) (pec : Option Bool) (s : State), s.wf →
    (s.bit SMB_ADDR [] SMB_ADDR.AV = false → ∀ r ∈ [Instr.smbWriteSlotLow bs pec, .smbWriteSlotHigh n bs pec, .smbSubmit pec], exec r s = .next (s.smbAnswer none)) ∧
    (s.bit SMB_ADDR [] SMB_ADDR.AV = true → ¬s.smbTakes pec → ∀ r ∈ [Instr.smbWriteSlotLow bs pec, .smbWriteSlotHigh n bs pec, .smbSubmit pec],
      Completes (exec r s) (fun t => t.bit SMB_EVENT [] SMB_EVENT.PEC_ERR = true ∧ Counted SMB_COUNT [] SMB_COUNT.PEC_ERR 1 s t ∧
        t.smb = { s.smb with answer := none } ∧ RegsKept [SMB_EVENT.addr [], SMB_COUNT.addr []] s t ∧ Frame [.regs, .smb] s t)) ∧
    (s.smbTakes pec →
      Completes (exec (.smbWriteSlotLow bs pec) s) (fun t => t.smb.slot.length = 256 ∧
        (∀ j, j < 256 → t.smb.slot.getD j 0 = if j < 128 then bs.getD j 0 else 0) ∧
        t.smb = { s.smb with slot := t.smb.slot, partWritten := decide (bs.length < 128), answer := some [] } ∧ Frame [.smb] s t) ∧
      (s.smb.slot.length = 256 → Completes (exec (.smbWriteSlotHigh n bs pec) s) (fun t => t.smb.slot.length = 256 ∧
        (∀ j, j < 256 → t.smb.slot.getD j 0 = if 128 ≤ j ∧ j < 128 + min (n : Nat) bs.length then bs.getD (j - 128) 0 else s.smb.slot.getD j 0) ∧
        t.smb = { s.smb with slot := t.smb.slot, partWritten := decide ((n : Nat) = 0 ∨ bs.length < n), answer := some [] } ∧ Frame [.smb] s t)) ∧
      ((s.smb.busy = true ∨ s.smb.partWritten = true) → Completes (exec (.smbSubmit pec) s) (fun t => t.bit SMB_EVENT [] SMB_EVENT.CMD_ERR = true ∧
        t.smb = { s.smb with answer := some [] } ∧ RegsKept [SMB_EVENT.addr []] s t ∧ Frame [.regs, .smb] s t)) ∧
      (s.smb.busy = false → s.smb.partWritten = false → Completes (exec (.smbSubmit pec) s) (fun t =>
        t.front = { s.front with inflight := s.front.inflight ++ [(({ via := .S, ring := 0, slot := s.smb.slot } : Cmd), 0)] } ∧
        t.smb.busy = true ∧ t.smb.done = false ∧ t.smb.slot = s.smb.slot ∧ t.smb.answer = some [] ∧ Counted SMB_COUNT [] SMB_COUNT.COMMANDS 1 s t ∧
        RegsKept [CMD_IF_STATUS.addr [], SMB_COUNT.addr []] s t ∧ Frame [.regs, .front, .smb] s t)))) ∧
  (∀ (s : State) (cp : Cpl), s.front.smbDone = some cp → Completes (exec .smbCommandDone s) (fun t =>
    t.smb = { s.smb with cpl := cp.bytes, busy := false, done := true, alert := s.smb.alert || s.bit SMB_CFG [] SMB_CFG.ALERT_EN } ∧
    t.front = { s.front with smbDone := none } ∧ Frame [.front, .smb] s t)) ∧
  (∀ (wins : Bool) (s : State),
    (s.smb.alert = true → s.bit SMB_ADDR [] SMB_ADDR.AV = true → wins = true → ∃ b : Byte, b.toNat = s.getF SMB_ADDR [] SMB_ADDR.ADDR ∧
      exec (.smbAlertResponse wins) s = .next (s.smbAnswer (some [b]))) ∧
    ((s.smb.alert = false ∨ s.bit SMB_ADDR [] SMB_ADDR.AV = false ∨ wins = false) → exec (.smbAlertResponse wins) s = .next (s.smbAnswer none))) ∧
  (∀ (s : State), s.wf → Completes (exec .smbTimeout s) (fun t => t.bit SMB_EVENT [] SMB_EVENT.TIMEOUT = true ∧ t.smb = { s.smb with answer := none } ∧
    RegsKept [SMB_EVENT.addr []] s t ∧ Frame [.regs, .smb] s t))
namespace Sys2Proof.Machine

/-- What every step keeps: registers and device memory in canonical form, and the fused counters and the store-key bank within their ranges
(R861, R889, R898). -/
def State.Inv (s : State) : Prop := s.wf ∧ s.fuses.smSvn ≤ 64 ∧ s.fuses.fwSvn ≤ 64 ∧ s.fuses.bank ≤ 8

/-- No fuse bit goes from 1 to 0 (R861), and the identity that the part was fused with stays (R49). -/
def FusesRise (s t : State) : Prop :=
  t.fuses.variant = s.fuses.variant ∧ t.fuses.stepping = s.fuses.stepping ∧ t.fuses.grade = s.fuses.grade ∧ t.fuses.serial = s.fuses.serial ∧
  t.fuses.rootDigest = s.fuses.rootDigest ∧ s.fuses.rootRevoked ||| t.fuses.rootRevoked = t.fuses.rootRevoked ∧
  s.fuses.smSvn ≤ t.fuses.smSvn ∧ s.fuses.fwSvn ≤ t.fuses.fwSvn ∧ s.fuses.bank ≤ t.fuses.bank ∧ t.fuses.debugDisable = s.fuses.debugDisable ∧
  (∀ k, s.fuses.coDigest.getD k [] ≠ [] → t.fuses.coDigest.getD k [] = s.fuses.coDigest.getD k []) ∧
  (∀ b j, j < 32 → (s.fuses.storeKeys.getD b []).getD j 0 ||| (t.fuses.storeKeys.getD b []).getD j 0 = (t.fuses.storeKeys.getD b []).getD j 0)

end Sys2Proof.Machine

/-- The queue is the model's (log entry 9): no rule of the spec is stated here. -/
def Obligations.StepRunsTheFront : Prop :=
  (∀ (c : Instr) (cs : List Instr) (s : State), s.pending = c :: cs → step s = exec c { s with pending := cs }) ∧
  (∀ (s : State), s.wf → s.pending = [] → s.unison.replay = none → Completes (step s) (fun t => t.clock = s.clock + 1 ∧
    t.getF EVA_TIME [] EVA_TIME.TIME = (if s.fw.inCold then s.getF EVA_TIME [] EVA_TIME.TIME else (s.getF EVA_TIME [] EVA_TIME.TIME + 1) % 2 ^ 64) ∧
    t.tempo = (if s.tempo.running then { s.tempo with beat := min 0xFFFF (s.tempo.beat + 1) } else s.tempo) ∧ RegsKept [EVA_TIME.addr []] s t ∧
    Frame [.regs, .tempo, .clock] s t))

/-- R24 and R816; the state before the release (log entry 84). -/
def Obligations.ResetState : Prop :=
  State.reset.Inv ∧ (∀ r ix, State.reset.reg r ix = r.resetAt ix) ∧ State.reset.getF RST_BOOT [] RST_BOOT.STAGE = 1 ∧
  State.reset.bit RST_CAUSE [] RST_CAUSE.POWER_ON = true ∧ State.reset.mem = [] ∧ State.reset.pending = [] ∧ State.reset.front.inflight = [] ∧
  State.reset.fw.inCold = true ∧ State.reset.fw.coresHeld = true ∧ State.reset.pins.pkgResetLow = true ∧ State.reset.sm.sessions = []

/-- R49, R861, R889 and R898: whatever the command, over every state with the invariant. -/
def Obligations.EveryStepKeeps : Prop :=
  ∀ s : State, Completes (step s) (fun t => t.pending = s.pending.drop 1 ∧ (s.Inv → t.Inv ∧ FusesRise s t))
end

