-- ==== Sys2Proof/Laws/Store.lean ====
section
/-! SUPPORT. The laws of sparse tables and of byte memory: a read after a write, and the canonical form that every write keeps. -/

namespace Sys2Proof.Machine

variable {α : Type} [DecidableEq α]

theorem tokFrom_mono (d : α) (t : Table α) : ∀ {a b : Nat}, a ≤ b → tokFrom d b t = true → tokFrom d a t = true := by
  cases t with
  | nil => intros; rfl
  | cons x t =>
    intro a b h hb
    obtain ⟨k, v⟩ := x
    simp only [tokFrom, Bool.and_eq_true, decide_eq_true_eq] at hb ⊢
    exact ⟨⟨Nat.le_trans h hb.1.1, hb.1.2⟩, hb.2⟩

/-- Below the bound of a canonical table nothing is listed. -/
theorem tget_below (d : α) (t : Table α) : ∀ {b i : Nat}, tokFrom d b t = true → i < b → tget d t i = d := by
  induction t with
  | nil => intros; rfl
  | cons x t ih =>
    intro b i hb hi
    obtain ⟨k, v⟩ := x
    simp only [tokFrom, Bool.and_eq_true, decide_eq_true_eq] at hb
    have : k ≠ i := by omega
    simp only [tget, this, if_false]
    exact ih hb.2 (by omega)

theorem tput_tokFrom (d : α) (t : Table α) (i : Nat) (v : α) :
    ∀ {b : Nat}, tokFrom d b t = true → b ≤ i → tokFrom d b (tput d t i v) = true := by
  induction t with
  | nil =>
    intro b _ hi
    by_cases h : v = d <;> simp [tput, tokFrom, h, hi]
  | cons x t ih =>
    intro b hb hi
    obtain ⟨k, w⟩ := x
    simp only [tokFrom, Bool.and_eq_true, decide_eq_true_eq] at hb
    simp only [tput]
    by_cases h1 : i < k
    · by_cases h : v = d
      · simp [h1, h, tokFrom, hb]
      · have : tokFrom d (k + 1) t = true := hb.2
        have h2 : i + 1 ≤ k := h1
        simp [h1, h, tokFrom, hi, h2, hb.1.2, this]
    · by_cases h3 : i = k
      · subst h3
        by_cases h : v = d
        · simpa [h] using tokFrom_mono d t (by omega : b ≤ i + 1) hb.2
        · simp [h, tokFrom, hb]
      · have := ih hb.2 (by omega : k + 1 ≤ i)
        simp [h1, h3, tokFrom, hb.1, this]

/-- A write keeps the canonical form. -/
theorem tok_tput (d : α) {t : Table α} (i : Nat) (v : α) (h : tok d t = true) : tok d (tput d t i v) = true :=
  tput_tokFrom d t i v h (Nat.zero_le i)

theorem tclear_tokFrom (d : α) (p : Nat → Bool) (t : Table α) :
    ∀ {b : Nat}, tokFrom d b t = true → tokFrom d b (tclear p t) = true := by
  induction t with
  | nil => intros; rfl
  | cons x t ih =>
    intro b hb
    obtain ⟨k, v⟩ := x
    simp only [tokFrom, Bool.and_eq_true, decide_eq_true_eq] at hb
    by_cases h : p k
    · simpa [tclear, h] using ih (tokFrom_mono d t (by omega) hb.2)
    · simpa [tclear, h, tokFrom, hb.1] using ih hb.2

/-- Clearing keys keeps the canonical form. -/
theorem tok_tclear (d : α) (p : Nat → Bool) {t : Table α} (h : tok d t = true) : tok d (tclear p t) = true :=
  tclear_tokFrom d p t h

/-- A write leaves every other key as it was. -/
theorem tget_tput_ne (d : α) (t : Table α) {i j : Nat} (v : α) (h : j ≠ i) : tget d (tput d t i v) j = tget d t j := by
  induction t with
  | nil => by_cases hv : v = d <;> simp [tput, tget, hv, Ne.symm h]
  | cons x t ih =>
    obtain ⟨k, w⟩ := x
    simp only [tput]
    split
    · split <;> simp [tget, Ne.symm h]
    · split
      · rename_i h1 h2
        subst h2
        split <;> simp [tget, Ne.symm h]
      · simp [tget, ih]

theorem tget_tput_from (d : α) (t : Table α) (i : Nat) (v : α) :
    ∀ {b : Nat}, tokFrom d b t = true → tget d (tput d t i v) i = v := by
  induction t with
  | nil => intro b _; by_cases hv : v = d <;> simp [tput, tget, hv]
  | cons x t ih =>
    intro b hb
    obtain ⟨k, w⟩ := x
    simp only [tokFrom, Bool.and_eq_true, decide_eq_true_eq] at hb
    simp only [tput]
    split
    · rename_i h1
      split
      · rename_i hv
        have : k ≠ i := by omega
        simp only [tget, this, if_false, hv]
        exact tget_below d t hb.2 (by omega)
      · simp [tget]
    · split
      · rename_i h2
        subst h2
        split
        · rename_i hv; rw [hv]; exact tget_below d t hb.2 (by omega)
        · simp [tget]
      · rename_i h1 h2
        have : k ≠ i := fun e => h2 e.symm
        simp only [tget, this, if_false]
        exact ih hb.2

/-- A read after a write of the same key gives the value written. -/
theorem tget_tput_same (d : α) {t : Table α} (i : Nat) (v : α) (h : tok d t = true) : tget d (tput d t i v) i = v :=
  tget_tput_from d t i v h

theorem putBytes_tok (bs : List Byte) : ∀ {m : List Host.Cell} (o : Nat), tok 0 m = true → tok 0 (putBytes m o bs) = true := by
  induction bs with
  | nil => intro m o h; exact h
  | cons b bs ih => intro m o h; exact ih (o + 1) (tok_tput 0 o b h)

/-- A write of bytes leaves every byte outside its range as it was. -/
theorem putBytes_ne (bs : List Byte) : ∀ (m : List Host.Cell) (o a : Nat), a < o ∨ o + bs.length ≤ a →
    tget 0 (putBytes m o bs) a = tget 0 m a := by
  induction bs with
  | nil => intros; rfl
  | cons b bs ih =>
    intro m o a h
    simp only [List.length_cons] at h
    simp only [putBytes]
    rw [ih _ _ _ (by omega), tget_tput_ne 0 m b (by omega)]

/-- A write of bytes stores them in order from its first offset. -/
theorem putBytes_at (bs : List Byte) : ∀ {m : List Host.Cell} (o i : Nat), tok 0 m = true → i < bs.length →
    tget 0 (putBytes m o bs) (o + i) = bs.getD i 0 := by
  induction bs with
  | nil => intro m o i _ h; simp at h
  | cons b bs ih =>
    intro m o i hm h
    simp only [putBytes]
    cases i with
    | zero => rw [putBytes_ne bs _ _ _ (by omega)]; simpa using tget_tput_same 0 o b hm
    | succ i =>
      have := ih (m := tput 0 m o b) (o + 1) i (tok_tput 0 o b hm) (by simpa using h)
      rw [show o + (i + 1) = o + 1 + i by omega, this]; simp

/-! ### Registers of a state -/

/-- A register reads as the value set. -/
theorem reg_setReg_same (s : State) (r : Reg) (ix : List Nat) (v : Word) (h : tok 0 s.regs = true) :
    (s.setReg r ix v).reg r ix = v := by
  simp only [State.reg, State.setReg, tget_tput_same 0 _ _ h]
  rw [BitVec.xor_assoc, BitVec.xor_self, BitVec.xor_zero]

/-- Setting a register leaves every other offset as it was. -/
theorem regs_setReg_ne (s : State) (r : Reg) (ix : List Nat) (v : Word) {a : Nat} (h : a ≠ r.addr ix) :
    tget 0 (s.setReg r ix v).regs a = tget 0 s.regs a := tget_tput_ne 0 _ _ h

theorem reg_setReg_ne (s : State) (r q : Reg) (ix jx : List Nat) (v : Word) (h : q.addr jx ≠ r.addr ix) :
    (s.setReg r ix v).reg q jx = s.reg q jx := by simp only [State.reg, regs_setReg_ne s r ix v h]

theorem setReg_tok (s : State) (r : Reg) (ix : List Nat) (v : Word) (h : tok 0 s.regs = true) :
    tok 0 (s.setReg r ix v).regs = true := tok_tput 0 _ _ h

theorem setF_tok (s : State) (r : Reg) (ix : List Nat) (f : Fld) (x : Nat) (h : tok 0 s.regs = true) :
    tok 0 (s.setF r ix f x).regs = true := tok_tput 0 _ _ h

/-- A register read after one of its fields was set. -/
theorem reg_setF_same (s : State) (r : Reg) (ix : List Nat) (f : Fld) (x : Nat) (h : tok 0 s.regs = true) :
    (s.setF r ix f x).reg r ix = fset (s.reg r ix) f x := reg_setReg_same s r ix _ h

theorem reg_setF_ne (s : State) (r q : Reg) (ix jx : List Nat) (f : Fld) (x : Nat) (h : q.addr jx ≠ r.addr ix) :
    (s.setF r ix f x).reg q jx = s.reg q jx := reg_setReg_ne s r q ix jx _ h

end Sys2Proof.Machine
end

