-- ==== Sys2Proof/Laws/Fields.lean ====
section
/-! SUPPORT. The laws of bit ranges: what a field reads as after a field was written, and the fields of a state's registers. -/

namespace Sys2Proof.Machine

theorem fget_testBit (v : Word) (f : Fld) (i : Nat) :
    (fget v f).testBit i = (decide (i < f.width) && v.toNat.testBit (f.lo + i)) := by
  simp [fget, Nat.testBit_mod_two_pow, BitVec.toNat_ushiftRight, Nat.testBit_shiftRight]

theorem field_testBit (f : Fld) (n i : Nat) :
    ((BitVec.ofNat 64 ((n % 2 ^ f.width) * 2 ^ f.lo) : Word).toNat).testBit i =
      (decide (i < 64) && decide (f.lo ≤ i) && decide (i < f.lo + f.width) && n.testBit (i - f.lo)) := by
  rw [BitVec.toNat_ofNat, Nat.testBit_mod_two_pow, Nat.testBit_mul_two_pow, Nat.testBit_mod_two_pow]
  by_cases h : f.lo ≤ i
  · have : (i - f.lo < f.width) = (i < f.lo + f.width) := by rw [eq_iff_iff]; omega
    simp [h, this, Bool.and_assoc]
  · simp [h]

theorem fset_testBit (v : Word) (f : Fld) (x i : Nat) (h : i < 64) :
    ((fset v f x).toNat).testBit i =
      if f.lo ≤ i ∧ i < f.lo + f.width then x.testBit (i - f.lo) else v.toNat.testBit i := by
  have hm : ((fmask f).toNat).testBit i = (decide (f.lo ≤ i) && decide (i < f.lo + f.width)) := by
    have := field_testBit f (2 ^ f.width - 1) i
    have h2 : (2 ^ f.width - 1) % 2 ^ f.width = 2 ^ f.width - 1 :=
      Nat.mod_eq_of_lt (by have := Nat.two_pow_pos f.width; omega)
    rw [h2] at this
    rw [fmask, this, Nat.testBit_two_pow_sub_one]
    by_cases h3 : f.lo ≤ i
    · have : (i - f.lo < f.width) = (i < f.lo + f.width) := by rw [eq_iff_iff]; omega
      simp [h, h3, this]
    · simp [h3]
  have hx := field_testBit f x i
  have hv : ((v &&& ~~~ fmask f).toNat).testBit i = (v.toNat.testBit i && !((fmask f).toNat).testBit i) := by
    rw [BitVec.testBit_toNat, BitVec.getLsbD_and, BitVec.getLsbD_not]
    simp [h, BitVec.testBit_toNat]
  rw [fset, BitVec.toNat_or, Nat.testBit_or, hv, hx, hm]
  by_cases h1 : f.lo ≤ i <;> by_cases h2 : i < f.lo + f.width <;> simp [h, h1, h2]

/-- A field reads as the number written, modulo its width. -/
theorem fget_fset_same (v : Word) (f : Fld) (x : Nat) (h : f.lo + f.width ≤ 64) :
    fget (fset v f x) f = x % 2 ^ f.width := by
  apply Nat.eq_of_testBit_eq
  intro i
  rw [fget_testBit, Nat.testBit_mod_two_pow]
  by_cases hi : i < f.width
  · rw [fset_testBit v f x _ (by omega)]
    have h1 : f.lo ≤ f.lo + i := by omega
    have h2 : f.lo + i < f.lo + f.width := by omega
    simp [hi]
  · simp [hi]

/-- A field that shares no bit with the one written keeps its value. -/
theorem fget_fset_ne (v : Word) (f g : Fld) (x : Nat) (h : g.lo + g.width ≤ 64)
    (hd : g.lo + g.width ≤ f.lo ∨ f.lo + f.width ≤ g.lo) : fget (fset v f x) g = fget v g := by
  apply Nat.eq_of_testBit_eq
  intro i
  rw [fget_testBit, fget_testBit]
  by_cases hi : i < g.width
  · rw [fset_testBit v f x _ (by omega)]
    have : ¬(f.lo ≤ g.lo + i ∧ g.lo + i < f.lo + f.width) := by omega
    simp [hi, this]
  · simp [hi]

theorem getF_setF_same (s : State) (r : Reg) (ix : List Nat) (f : Fld) (x : Nat) (h : tok 0 s.regs = true)
    (hf : f.lo + f.width ≤ 64) : (s.setF r ix f x).getF r ix f = x % 2 ^ f.width := by
  rw [State.getF, reg_setF_same s r ix f x h, fget_fset_same _ _ _ hf]

theorem getF_setF_field (s : State) (r : Reg) (ix : List Nat) (f g : Fld) (x : Nat) (h : tok 0 s.regs = true)
    (hg : g.lo + g.width ≤ 64) (hd : g.lo + g.width ≤ f.lo ∨ f.lo + f.width ≤ g.lo) :
    (s.setF r ix f x).getF r ix g = s.getF r ix g := by
  rw [State.getF, reg_setF_same s r ix f x h, fget_fset_ne _ _ _ _ hg hd]; rfl

theorem getF_setF_ne (s : State) (r q : Reg) (ix jx : List Nat) (f g : Fld) (x : Nat) (h : q.addr jx ≠ r.addr ix) :
    (s.setF r ix f x).getF q jx g = s.getF q jx g := by
  rw [State.getF, reg_setF_ne s r q ix jx f x h]; rfl

/-- A flag that was set reads 1. -/
theorem bit_setBit_same (s : State) (r : Reg) (ix : List Nat) (f : Fld) (h : tok 0 s.regs = true)
    (hf : f.lo + f.width ≤ 64) (hw : 1 ≤ f.width) : (s.setBit r ix f).bit r ix f = true := by
  have h1 : 1 < 2 ^ f.width := Nat.one_lt_two_pow (by omega)
  simp [State.bit, State.setBit, getF_setF_same s r ix f 1 h hf, Nat.mod_eq_of_lt h1]

end Sys2Proof.Machine
end

