-- ==== Sys2Proof/Laws/Frame.lean ====
section
/-! SUPPORT. The rules by which the frame of an operation follows from the frames of the operations it is made of. -/

namespace Sys2Proof.Machine

variable {l : List Part} {s0 s t u : State}

theorem Registers.wf_tput {r : Table Word} {i : Nat} {v : Word} (h : Registers.wf r = true) : Registers.wf (tput 0 r i v) = true :=
  tok_tput 0 i v h

theorem Registers.wf_nil : Registers.wf [] = true := rfl

theorem Registers.wf_tclear {r : Table Word} {p : Nat → Bool} (h : Registers.wf r = true) : Registers.wf (tclear p r) = true :=
  tok_tclear 0 p h

theorem Memory.wf_putBytes {m : List Host.Cell} {o : Nat} {bs : List Byte} (h : Memory.wf m = true) : Memory.wf (putBytes m o bs) = true :=
  putBytes_tok bs o h

theorem Memory.wf_tclear {m : List Host.Cell} {p : Nat → Bool} (h : Memory.wf m = true) : Memory.wf (tclear p m) = true :=
  tok_tclear 0 p h

theorem Memory.wf_putBoard {bs : List Byte} : ∀ {m : List Host.Cell} {p a : Nat}, Memory.wf m = true → Memory.wf (putBoard m p a bs) = true := by
  induction bs with
  | nil => exact fun h => h
  | cons b bs ih => exact fun h => ih (tok_tput 0 _ b h)

theorem Memory.wf_puts (l : List Host.Cell) : ∀ {m : List Host.Cell}, Memory.wf m = true →
    Memory.wf (l.foldl (fun m x => tput 0 m x.1 x.2) m) = true := by
  induction l with
  | nil => exact fun h => h
  | cons x l ih => exact fun h => ih (tok_tput 0 _ _ h)

theorem Memory.wf_replayBoards {n : Snapshot} {m : List Host.Cell} (h : Memory.wf m = true) : Memory.wf (replayBoards n m) = true :=
  Memory.wf_puts _ (Memory.wf_tclear h)

theorem Part.same_refl (p : Part) (s : State) : p.same s s := by cases p <;> rfl

theorem Part.same_trans {p : Part} (h : p.same s t) (k : p.same t u) : p.same s u := by
  cases p <;> exact Eq.trans k h

theorem Frame.refl (l : List Part) (s : State) : Frame l s s := ⟨fun p _ => p.same_refl s, id, id⟩

theorem Frame.trans (h : Frame l s t) (k : Frame l t u) : Frame l s u :=
  ⟨fun p hp => Part.same_trans (h.1 p hp) (k.1 p hp), k.2.1 ∘ h.2.1, k.2.2 ∘ h.2.2⟩

/-- A frame within a wider one. -/
theorem Frame.mono {a : List Part} (h : Frame a s t) (hs : a.all (fun p => l.contains p) = true) : Frame l s t := by
  refine ⟨fun p hp => h.1 p (fun hm => hp ?_), h.2⟩
  simpa using List.all_eq_true.mp hs p hm

/-- One more operation after a run of them. -/
theorem Frame.via {a : List Part} (h : Frame a s t) (hs : a.all (fun p => l.contains p) = true) (k : Frame l s0 s) : Frame l s0 t :=
  k.trans (h.mono hs)

theorem Frame.ite {c : Prop} [Decidable c] (h : c → Frame l s0 s) (k : ¬c → Frame l s0 t) : Frame l s0 (if c then s else t) := by
  by_cases hc : c <;> simp only [hc, if_true, if_false]
  · exact h hc
  · exact k hc

theorem Frame.ite1 {α : Type} {c : Prop} [Decidable c] {p q : State × α} (h : c → Frame l s0 p.1) (k : ¬c → Frame l s0 q.1) :
    Frame l s0 (if c then p else q).1 := by
  by_cases hc : c <;> simp only [hc, if_true, if_false]
  · exact h hc
  · exact k hc

theorem Frame.of_eq1 {α : Type} {p : State × α} {y : α} (h : Frame l s p.1) (e : p = (t, y)) : Frame l s t := by
  subst e; exact h

theorem Frame.foldl {α : Type} {f : State → α → State} (hf : ∀ s x, Frame l s0 s → Frame l s0 (f s x)) (as : List α) :
    ∀ s, Frame l s0 s → Frame l s0 (as.foldl f s) := by
  induction as with
  | nil => exact fun _ h => h
  | cons a as ih => exact fun s h => ih _ (hf s a h)

theorem Frame.foldl1 {α β : Type} {f : State × β → α → State × β} (hf : ∀ r x, Frame l s0 r.1 → Frame l s0 (f r x).1) (as : List α) :
    ∀ r, Frame l s0 r.1 → Frame l s0 (as.foldl f r).1 := by
  induction as with
  | nil => exact fun _ h => h
  | cons a as ih => exact fun r h => ih _ (hf r a h)

theorem Frame.idf (h : Frame l s0 s) : Frame l s0 (id s) := h

/-- A named intermediate state may be any state with its frame. -/
theorem Frame.gen {P : State → Prop} (x : State) (h : Frame l s0 x) (k : ∀ y, Frame l s0 y → P y) : P x := k x h

theorem Frame.gen1 {α : Type} {P : State × α → Prop} (x : State × α) (h : Frame l s0 x.1) (k : ∀ y, Frame l s0 y.1 → P y) : P x :=
  k x h

theorem Frame.set_regs (v0 : Table Word) (m0 : Part.regs ∈ l) (hr : Registers.wf s.regs = true → Registers.wf v0 = true) (k : Frame l s0 s) :
    Frame l s0 { s with regs := v0 } := by
  refine ⟨fun p hp => ?_, fun h => hr (k.2.1 h), k.2.2⟩
  cases p <;> first | exact k.1 _ hp | exact absurd (by assumption) hp
theorem Frame.set_mem (v0 : List Host.Cell) (m0 : Part.mem ∈ l) (hm : Memory.wf s.mem = true → Memory.wf v0 = true) (k : Frame l s0 s) :
    Frame l s0 { s with mem := v0 } := by
  refine ⟨fun p hp => ?_, k.2.1, fun h => hm (k.2.2 h)⟩
  cases p <;> first | exact k.1 _ hp | exact absurd (by assumption) hp
theorem Frame.set_tempo (v0 : Tempo) (m0 : Part.tempo ∈ l) (k : Frame l s0 s) :
    Frame l s0 { s with tempo := v0 } := by
  refine ⟨fun p hp => ?_, k.2.1, k.2.2⟩
  cases p <;> first | exact k.1 _ hp | exact absurd (by assumption) hp
theorem Frame.set_clock (v0 : Nat) (m0 : Part.clock ∈ l) (k : Frame l s0 s) :
    Frame l s0 { s with clock := v0 } := by
  refine ⟨fun p hp => ?_, k.2.1, k.2.2⟩
  cases p <;> first | exact k.1 _ hp | exact absurd (by assumption) hp
theorem Frame.set_dieBase (v0 : Table Nat) (m0 : Part.dieBase ∈ l) (k : Frame l s0 s) :
    Frame l s0 { s with dieBase := v0 } := by
  refine ⟨fun p hp => ?_, k.2.1, k.2.2⟩
  cases p <;> first | exact k.1 _ hp | exact absurd (by assumption) hp
theorem Frame.set_aligns (v0 : List (Nat × Nat × Bool)) (m0 : Part.aligns ∈ l) (k : Frame l s0 s) :
    Frame l s0 { s with aligns := v0 } := by
  refine ⟨fun p hp => ?_, k.2.1, k.2.2⟩
  cases p <;> first | exact k.1 _ hp | exact absurd (by assumption) hp
theorem Frame.set_links (v0 : Table LinkCfg) (m0 : Part.links ∈ l) (k : Frame l s0 s) :
    Frame l s0 { s with links := v0 } := by
  refine ⟨fun p hp => ?_, k.2.1, k.2.2⟩
  cases p <;> first | exact k.1 _ hp | exact absurd (by assumption) hp
theorem Frame.set_cond (v0 : Table Conductor) (m0 : Part.cond ∈ l) (k : Frame l s0 s) :
    Frame l s0 { s with cond := v0 } := by
  refine ⟨fun p hp => ?_, k.2.1, k.2.2⟩
  cases p <;> first | exact k.1 _ hp | exact absurd (by assumption) hp
theorem Frame.set_patches (v0 : List Patch) (m0 : Part.patches ∈ l) (k : Frame l s0 s) :
    Frame l s0 { s with patches := v0 } := by
  refine ⟨fun p hp => ?_, k.2.1, k.2.2⟩
  cases p <;> first | exact k.1 _ hp | exact absurd (by assumption) hp
theorem Frame.set_press (v0 : Table Press) (m0 : Part.press ∈ l) (k : Frame l s0 s) :
    Frame l s0 { s with press := v0 } := by
  refine ⟨fun p hp => ?_, k.2.1, k.2.2⟩
  cases p <;> first | exact k.1 _ hp | exact absurd (by assumption) hp
theorem Frame.set_sects (v0 : Table Section) (m0 : Part.sects ∈ l) (k : Frame l s0 s) :
    Frame l s0 { s with sects := v0 } := by
  refine ⟨fun p hp => ?_, k.2.1, k.2.2⟩
  cases p <;> first | exact k.1 _ hp | exact absurd (by assumption) hp
theorem Frame.set_queues (v0 : Table (List QReq)) (m0 : Part.queues ∈ l) (k : Frame l s0 s) :
    Frame l s0 { s with queues := v0 } := by
  refine ⟨fun p hp => ?_, k.2.1, k.2.2⟩
  cases p <;> first | exact k.1 _ hp | exact absurd (by assumption) hp
theorem Frame.set_qseq (v0 : Table Nat) (m0 : Part.qseq ∈ l) (k : Frame l s0 s) :
    Frame l s0 { s with qseq := v0 } := by
  refine ⟨fun p hp => ?_, k.2.1, k.2.2⟩
  cases p <;> first | exact k.1 _ hp | exact absurd (by assumption) hp
theorem Frame.set_ports (v0 : Table MemPort) (m0 : Part.ports ∈ l) (k : Frame l s0 s) :
    Frame l s0 { s with ports := v0 } := by
  refine ⟨fun p hp => ?_, k.2.1, k.2.2⟩
  cases p <;> first | exact k.1 _ hp | exact absurd (by assumption) hp
theorem Frame.set_linkTx (v0 : List (Nat × List Byte)) (m0 : Part.linkTx ∈ l) (k : Frame l s0 s) :
    Frame l s0 { s with linkTx := v0 } := by
  refine ⟨fun p hp => ?_, k.2.1, k.2.2⟩
  cases p <;> first | exact k.1 _ hp | exact absurd (by assumption) hp
theorem Frame.set_lk (v0 : Table LinkDyn) (m0 : Part.lk ∈ l) (k : Frame l s0 s) :
    Frame l s0 { s with lk := v0 } := by
  refine ⟨fun p hp => ?_, k.2.1, k.2.2⟩
  cases p <;> first | exact k.1 _ hp | exact absurd (by assumption) hp
theorem Frame.set_seams (v0 : Table SeamDyn) (m0 : Part.seams ∈ l) (k : Frame l s0 s) :
    Frame l s0 { s with seams := v0 } := by
  refine ⟨fun p hp => ?_, k.2.1, k.2.2⟩
  cases p <;> first | exact k.1 _ hp | exact absurd (by assumption) hp
theorem Frame.set_legacy (v0 : Table Legacy) (m0 : Part.legacy ∈ l) (k : Frame l s0 s) :
    Frame l s0 { s with legacy := v0 } := by
  refine ⟨fun p hp => ?_, k.2.1, k.2.2⟩
  cases p <;> first | exact k.1 _ hp | exact absurd (by assumption) hp
theorem Frame.set_score (v0 : ScorePlane) (m0 : Part.score ∈ l) (k : Frame l s0 s) :
    Frame l s0 { s with score := v0 } := by
  refine ⟨fun p hp => ?_, k.2.1, k.2.2⟩
  cases p <;> first | exact k.1 _ hp | exact absurd (by assumption) hp
theorem Frame.set_tacks (v0 : TackPlane) (m0 : Part.tacks ∈ l) (k : Frame l s0 s) :
    Frame l s0 { s with tacks := v0 } := by
  refine ⟨fun p hp => ?_, k.2.1, k.2.2⟩
  cases p <;> first | exact k.1 _ hp | exact absurd (by assumption) hp
theorem Frame.set_books (v0 : Books) (m0 : Part.books ∈ l) (k : Frame l s0 s) :
    Frame l s0 { s with books := v0 } := by
  refine ⟨fun p hp => ?_, k.2.1, k.2.2⟩
  cases p <;> first | exact k.1 _ hp | exact absurd (by assumption) hp
theorem Frame.set_eth (v0 : Eth) (m0 : Part.eth ∈ l) (k : Frame l s0 s) :
    Frame l s0 { s with eth := v0 } := by
  refine ⟨fun p hp => ?_, k.2.1, k.2.2⟩
  cases p <;> first | exact k.1 _ hp | exact absurd (by assumption) hp
theorem Frame.set_unison (v0 : Unison) (m0 : Part.unison ∈ l) (k : Frame l s0 s) :
    Frame l s0 { s with unison := v0 } := by
  refine ⟨fun p hp => ?_, k.2.1, k.2.2⟩
  cases p <;> first | exact k.1 _ hp | exact absurd (by assumption) hp
theorem Frame.set_arb (v0 : Arbiter) (m0 : Part.arb ∈ l) (k : Frame l s0 s) :
    Frame l s0 { s with arb := v0 } := by
  refine ⟨fun p hp => ?_, k.2.1, k.2.2⟩
  cases p <;> first | exact k.1 _ hp | exact absurd (by assumption) hp
theorem Frame.set_icu (v0 : Icu) (m0 : Part.icu ∈ l) (k : Frame l s0 s) :
    Frame l s0 { s with icu := v0 } := by
  refine ⟨fun p hp => ?_, k.2.1, k.2.2⟩
  cases p <;> first | exact k.1 _ hp | exact absurd (by assumption) hp
theorem Frame.set_front (v0 : Front) (m0 : Part.front ∈ l) (k : Frame l s0 s) :
    Frame l s0 { s with front := v0 } := by
  refine ⟨fun p hp => ?_, k.2.1, k.2.2⟩
  cases p <;> first | exact k.1 _ hp | exact absurd (by assumption) hp
theorem Frame.set_sm (v0 : Sm) (m0 : Part.sm ∈ l) (k : Frame l s0 s) :
    Frame l s0 { s with sm := v0 } := by
  refine ⟨fun p hp => ?_, k.2.1, k.2.2⟩
  cases p <;> first | exact k.1 _ hp | exact absurd (by assumption) hp
theorem Frame.set_tap (v0 : Tap) (m0 : Part.tap ∈ l) (k : Frame l s0 s) :
    Frame l s0 { s with tap := v0 } := by
  refine ⟨fun p hp => ?_, k.2.1, k.2.2⟩
  cases p <;> first | exact k.1 _ hp | exact absurd (by assumption) hp
theorem Frame.set_smb (v0 : Smb) (m0 : Part.smb ∈ l) (k : Frame l s0 s) :
    Frame l s0 { s with smb := v0 } := by
  refine ⟨fun p hp => ?_, k.2.1, k.2.2⟩
  cases p <;> first | exact k.1 _ hp | exact absurd (by assumption) hp
theorem Frame.set_pins (v0 : Pins) (m0 : Part.pins ∈ l) (k : Frame l s0 s) :
    Frame l s0 { s with pins := v0 } := by
  refine ⟨fun p hp => ?_, k.2.1, k.2.2⟩
  cases p <;> first | exact k.1 _ hp | exact absurd (by assumption) hp
theorem Frame.set_fuses (v0 : Fuses) (m0 : Part.fuses ∈ l) (k : Frame l s0 s) :
    Frame l s0 { s with fuses := v0 } := by
  refine ⟨fun p hp => ?_, k.2.1, k.2.2⟩
  cases p <;> first | exact k.1 _ hp | exact absurd (by assumption) hp
theorem Frame.set_flash (v0 : Table Byte) (m0 : Part.flash ∈ l) (k : Frame l s0 s) :
    Frame l s0 { s with flash := v0 } := by
  refine ⟨fun p hp => ?_, k.2.1, k.2.2⟩
  cases p <;> first | exact k.1 _ hp | exact absurd (by assumption) hp
theorem Frame.set_fw (v0 : Firmware) (m0 : Part.fw ∈ l) (k : Frame l s0 s) :
    Frame l s0 { s with fw := v0 } := by
  refine ⟨fun p hp => ?_, k.2.1, k.2.2⟩
  cases p <;> first | exact k.1 _ hp | exact absurd (by assumption) hp
theorem Frame.set_pwr (v0 : Power) (m0 : Part.pwr ∈ l) (k : Frame l s0 s) :
    Frame l s0 { s with pwr := v0 } := by
  refine ⟨fun p hp => ?_, k.2.1, k.2.2⟩
  cases p <;> first | exact k.1 _ hp | exact absurd (by assumption) hp
theorem Frame.set_free (v0 : Nat) (m0 : Part.free ∈ l) (k : Frame l s0 s) :
    Frame l s0 { s with free := v0 } := by
  refine ⟨fun p hp => ?_, k.2.1, k.2.2⟩
  cases p <;> first | exact k.1 _ hp | exact absurd (by assumption) hp
theorem Frame.set_regs_eth_front_sm_smb_pwr (v0 : Table Word) (v1 : Eth) (v2 : Front) (v3 : Sm) (v4 : Smb) (v5 : Power) (m0 : Part.regs ∈ l) (m1 : Part.eth ∈ l) (m2 : Part.front ∈ l) (m3 : Part.sm ∈ l) (m4 : Part.smb ∈ l) (m5 : Part.pwr ∈ l) (hr : Registers.wf s.regs = true → Registers.wf v0 = true) (k : Frame l s0 s) :
    Frame l s0 { s with regs := v0, eth := v1, front := v2, sm := v3, smb := v4, pwr := v5 } := by
  refine ⟨fun p hp => ?_, fun h => hr (k.2.1 h), k.2.2⟩
  cases p <;> first | exact k.1 _ hp | exact absurd (by assumption) hp
theorem Frame.set_regs_tap_smb_pwr (v0 : Table Word) (v1 : Tap) (v2 : Smb) (v3 : Power) (m0 : Part.regs ∈ l) (m1 : Part.tap ∈ l) (m2 : Part.smb ∈ l) (m3 : Part.pwr ∈ l) (hr : Registers.wf s.regs = true → Registers.wf v0 = true) (k : Frame l s0 s) :
    Frame l s0 { s with regs := v0, tap := v1, smb := v2, pwr := v3 } := by
  refine ⟨fun p hp => ?_, fun h => hr (k.2.1 h), k.2.2⟩
  cases p <;> first | exact k.1 _ hp | exact absurd (by assumption) hp
theorem Frame.set_lk_legacy (v0 : Table LinkDyn) (v1 : Table Legacy) (m0 : Part.lk ∈ l) (m1 : Part.legacy ∈ l) (k : Frame l s0 s) :
    Frame l s0 { s with lk := v0, legacy := v1 } := by
  refine ⟨fun p hp => ?_, k.2.1, k.2.2⟩
  cases p <;> first | exact k.1 _ hp | exact absurd (by assumption) hp
theorem Frame.set_links_score (v0 : Table LinkCfg) (v1 : ScorePlane) (m0 : Part.links ∈ l) (m1 : Part.score ∈ l) (k : Frame l s0 s) :
    Frame l s0 { s with links := v0, score := v1 } := by
  refine ⟨fun p hp => ?_, k.2.1, k.2.2⟩
  cases p <;> first | exact k.1 _ hp | exact absurd (by assumption) hp
theorem Frame.set_tempo_links (v0 : Tempo) (v1 : Table LinkCfg) (m0 : Part.tempo ∈ l) (m1 : Part.links ∈ l) (k : Frame l s0 s) :
    Frame l s0 { s with tempo := v0, links := v1 } := by
  refine ⟨fun p hp => ?_, k.2.1, k.2.2⟩
  cases p <;> first | exact k.1 _ hp | exact absurd (by assumption) hp
theorem Frame.set_arb_icu (v0 : Arbiter) (v1 : Icu) (m0 : Part.arb ∈ l) (m1 : Part.icu ∈ l) (k : Frame l s0 s) :
    Frame l s0 { s with arb := v0, icu := v1 } := by
  refine ⟨fun p hp => ?_, k.2.1, k.2.2⟩
  cases p <;> first | exact k.1 _ hp | exact absurd (by assumption) hp
theorem Frame.set_icu_fw (v0 : Icu) (v1 : Firmware) (m0 : Part.icu ∈ l) (m1 : Part.fw ∈ l) (k : Frame l s0 s) :
    Frame l s0 { s with icu := v0, fw := v1 } := by
  refine ⟨fun p hp => ?_, k.2.1, k.2.2⟩
  cases p <;> first | exact k.1 _ hp | exact absurd (by assumption) hp
theorem Frame.set_score_books (v0 : ScorePlane) (v1 : Books) (m0 : Part.score ∈ l) (m1 : Part.books ∈ l) (k : Frame l s0 s) :
    Frame l s0 { s with score := v0, books := v1 } := by
  refine ⟨fun p hp => ?_, k.2.1, k.2.2⟩
  cases p <;> first | exact k.1 _ hp | exact absurd (by assumption) hp
theorem Frame.set_mem_cond_sects_queues (v0 : List Host.Cell) (v1 : Table Conductor) (v2 : Table Section) (v3 : Table (List QReq)) (m0 : Part.mem ∈ l) (m1 : Part.cond ∈ l) (m2 : Part.sects ∈ l) (m3 : Part.queues ∈ l) (hm : Memory.wf s.mem = true → Memory.wf v0 = true) (k : Frame l s0 s) :
    Frame l s0 { s with mem := v0, cond := v1, sects := v2, queues := v3 } := by
  refine ⟨fun p hp => ?_, k.2.1, fun h => hm (k.2.2 h)⟩
  cases p <;> first | exact k.1 _ hp | exact absurd (by assumption) hp

end Sys2Proof.Machine
end

