-- ==== Sys2Proof/Laws/Frames0.lean ====
section
/-! SUPPORT. The frames of operations and commands of Access, ArbOps, BoardOps, BoltOps, ClockOps, EthOps, EthTx, HostOps,
IcuOps, Linens, LinkOps, MemOps, Ops, PressCtl, PressExec, PressOps, TackOps, Tacks: the parts that each may change. -/

namespace Sys2Proof.Machine

theorem State.setReg_frame (s0 : State) (a1 : Reg) (a2 : List Nat) (a3 : Word) : Frame [.regs] s0 (State.setReg s0 a1 a2 a3) := by
  unfold State.setReg
  repeat' first
    | with_reducible assumption
    | intro _
    | (extract_lets -merge +onlyGivenNames x; refine (have hx : Frame [.regs] s0 x := ?_; ?_); rotate_left; clear_value x; rotate_left; subst x)
    | (extract_lets -merge +onlyGivenNames x; clear_value x)
    | with_reducible exact Frame.refl _ _
    | with_reducible apply Frame.ite
    | with_reducible apply Frame.foldl
    | split
    | with_reducible apply Frame.set_regs _ (by decide) (fun h => by first | exact h | exact Registers.wf_tput h | exact Registers.wf_tclear h | exact Registers.wf_nil)

theorem State.fireMsix_frame (s0 : State) (a1 : Nat) : Frame [.front] s0 (State.fireMsix s0 a1) := by
  unfold State.fireMsix
  repeat' first
    | with_reducible assumption
    | intro _
    | (extract_lets -merge +onlyGivenNames x; refine (have hx : Frame [.front] s0 x := ?_; ?_); rotate_left; clear_value x; rotate_left; subst x)
    | (extract_lets -merge +onlyGivenNames x; clear_value x)
    | with_reducible exact Frame.refl _ _
    | with_reducible apply Frame.ite
    | with_reducible apply Frame.foldl
    | split
    | with_reducible apply Frame.set_front _ (by decide)

theorem State.setF_frame (s0 : State) (a1 : Reg) (a2 : List Nat) (a3 : Fld) (a4 : Nat) : Frame [.regs] s0 (State.setF s0 a1 a2 a3 a4) := by
  unfold State.setF
  repeat' first
    | with_reducible assumption
    | intro _
    | (extract_lets -merge +onlyGivenNames x; refine (have hx : Frame [.regs] s0 x := ?_; ?_); rotate_left; clear_value x; rotate_left; subst x)
    | (extract_lets -merge +onlyGivenNames x; clear_value x)
    | with_reducible exact Frame.refl _ _
    | with_reducible apply Frame.ite
    | with_reducible apply Frame.foldl
    | with_reducible apply Frame.via (State.setReg_frame _ _ _ _) (by decide)
    | split

theorem State.setBit_frame (s0 : State) (a1 : Reg) (a2 : List Nat) (a3 : Fld) : Frame [.regs] s0 (State.setBit s0 a1 a2 a3) := by
  unfold State.setBit
  repeat' first
    | with_reducible assumption
    | intro _
    | (extract_lets -merge +onlyGivenNames x; refine (have hx : Frame [.regs] s0 x := ?_; ?_); rotate_left; clear_value x; rotate_left; subst x)
    | (extract_lets -merge +onlyGivenNames x; clear_value x)
    | with_reducible exact Frame.refl _ _
    | with_reducible apply Frame.ite
    | with_reducible apply Frame.foldl
    | with_reducible apply Frame.via (State.setF_frame _ _ _ _ _) (by decide)
    | split

theorem State.sendEvent_frame (s0 : State) (a1 : Nat) (a2 : Nat) (a3 : Nat) : Frame [.arb] s0 (State.sendEvent s0 a1 a2 a3) := by
  unfold State.sendEvent
  repeat' first
    | with_reducible assumption
    | intro _
    | (extract_lets -merge +onlyGivenNames x; refine (have hx : Frame [.arb] s0 x := ?_; ?_); rotate_left; clear_value x; rotate_left; subst x)
    | (extract_lets -merge +onlyGivenNames x; clear_value x)
    | with_reducible exact Frame.refl _ _
    | with_reducible apply Frame.ite
    | with_reducible apply Frame.foldl
    | split
    | with_reducible apply Frame.set_arb _ (by decide)

theorem State.logBits_frame (s0 : State) (a1 : Nat) (a2 : Reg) (a3 : List Nat) (a4 : Nat) : Frame [.arb] s0 (State.logBits s0 a1 a2 a3 a4) := by
  unfold State.logBits
  repeat' first
    | with_reducible assumption
    | intro _
    | (extract_lets -merge +onlyGivenNames x; refine (have hx : Frame [.arb] s0 x := ?_; ?_); rotate_left; clear_value x; rotate_left; subst x)
    | (extract_lets -merge +onlyGivenNames x; clear_value x)
    | with_reducible exact Frame.refl _ _
    | with_reducible apply Frame.ite
    | with_reducible apply Frame.foldl
    | with_reducible apply Frame.via (State.sendEvent_frame _ _ _ _) (by decide)
    | split

theorem State.setLogged_frame (s0 : State) (a1 : Nat) (a2 : Reg) (a3 : List Nat) (a4 : Fld) : Frame [.regs, .arb] s0 (State.setLogged s0 a1 a2 a3 a4) := by
  unfold State.setLogged
  repeat' first
    | with_reducible assumption
    | intro _
    | (extract_lets -merge +onlyGivenNames x; refine (have hx : Frame [.regs, .arb] s0 x := ?_; ?_); rotate_left; clear_value x; rotate_left; subst x)
    | (extract_lets -merge +onlyGivenNames x; clear_value x)
    | with_reducible exact Frame.refl _ _
    | with_reducible apply Frame.ite
    | with_reducible apply Frame.foldl
    | with_reducible apply Frame.via (State.setBit_frame _ _ _ _) (by decide)
    | with_reducible apply Frame.via (State.logBits_frame _ _ _ _ _) (by decide)
    | split

theorem State.accessFault_frame (s0 : State) (a1 : Who) (a2 : Nat) (a3 : Bool) : Frame [.regs, .arb, .front] s0 (State.accessFault s0 a1 a2 a3) := by
  unfold State.accessFault
  repeat' first
    | with_reducible assumption
    | intro _
    | (extract_lets -merge +onlyGivenNames x; refine (have hx : Frame [.regs, .arb, .front] s0 x := ?_; ?_); rotate_left; clear_value x; rotate_left; subst x)
    | (extract_lets -merge +onlyGivenNames x; clear_value x)
    | with_reducible exact Frame.refl _ _
    | with_reducible apply Frame.ite
    | with_reducible apply Frame.foldl
    | with_reducible apply Frame.via (State.setReg_frame _ _ _ _) (by decide)
    | with_reducible apply Frame.via (State.fireMsix_frame _ _) (by decide)
    | with_reducible apply Frame.via (State.setLogged_frame _ _ _ _ _) (by decide)
    | split

theorem State.atLeast1_frame (s0 : State) (a1 : Reg) (a2 : List Nat) (a3 : Fld) : Frame [.regs] s0 (State.atLeast1 s0 a1 a2 a3) := by
  unfold State.atLeast1
  repeat' first
    | with_reducible assumption
    | intro _
    | (extract_lets -merge +onlyGivenNames x; refine (have hx : Frame [.regs] s0 x := ?_; ?_); rotate_left; clear_value x; rotate_left; subst x)
    | (extract_lets -merge +onlyGivenNames x; clear_value x)
    | with_reducible exact Frame.refl _ _
    | with_reducible apply Frame.ite
    | with_reducible apply Frame.foldl
    | with_reducible apply Frame.via (State.setF_frame _ _ _ _ _) (by decide)
    | split

theorem State.atMost_frame (s0 : State) (a1 : Reg) (a2 : List Nat) (a3 : Fld) (a4 : Nat) : Frame [.regs] s0 (State.atMost s0 a1 a2 a3 a4) := by
  unfold State.atMost
  repeat' first
    | with_reducible assumption
    | intro _
    | (extract_lets -merge +onlyGivenNames x; refine (have hx : Frame [.regs] s0 x := ?_; ?_); rotate_left; clear_value x; rotate_left; subst x)
    | (extract_lets -merge +onlyGivenNames x; clear_value x)
    | with_reducible exact Frame.refl _ _
    | with_reducible apply Frame.ite
    | with_reducible apply Frame.foldl
    | with_reducible apply Frame.via (State.setF_frame _ _ _ _ _) (by decide)
    | split

theorem State.setTarget_frame (s0 : State) (a1 : Nat) (a2 : Target) : Frame [.icu] s0 (State.setTarget s0 a1 a2) := by
  unfold State.setTarget
  repeat' first
    | with_reducible assumption
    | intro _
    | (extract_lets -merge +onlyGivenNames x; refine (have hx : Frame [.icu] s0 x := ?_; ?_); rotate_left; clear_value x; rotate_left; subst x)
    | (extract_lets -merge +onlyGivenNames x; clear_value x)
    | with_reducible exact Frame.refl _ _
    | with_reducible apply Frame.ite
    | with_reducible apply Frame.foldl
    | split
    | with_reducible apply Frame.set_icu _ (by decide)

theorem State.readAs_frame (s0 : State) (a1 : Word) : Frame [.front] s0 (State.readAs s0 a1) := by
  unfold State.readAs
  repeat' first
    | with_reducible assumption
    | intro _
    | (extract_lets -merge +onlyGivenNames x; refine (have hx : Frame [.front] s0 x := ?_; ?_); rotate_left; clear_value x; rotate_left; subst x)
    | (extract_lets -merge +onlyGivenNames x; clear_value x)
    | with_reducible exact Frame.refl _ _
    | with_reducible apply Frame.ite
    | with_reducible apply Frame.foldl
    | split
    | with_reducible apply Frame.set_front _ (by decide)

theorem State.claim_frame (s0 : State) (a1 : Nat) : Frame [.regs, .icu, .front] s0 (State.claim s0 a1) := by
  unfold State.claim
  repeat' first
    | with_reducible assumption
    | intro _
    | (extract_lets -merge +onlyGivenNames x; refine (have hx : Frame [.regs, .icu, .front] s0 x := ?_; ?_); rotate_left; clear_value x; rotate_left; subst x)
    | (extract_lets -merge +onlyGivenNames x; clear_value x)
    | with_reducible exact Frame.refl _ _
    | with_reducible apply Frame.ite
    | with_reducible apply Frame.foldl
    | with_reducible apply Frame.via (State.setF_frame _ _ _ _ _) (by decide)
    | with_reducible apply Frame.via (State.setBit_frame _ _ _ _) (by decide)
    | with_reducible apply Frame.via (State.setTarget_frame _ _ _) (by decide)
    | with_reducible apply Frame.via (State.readAs_frame _ _) (by decide)
    | split

theorem State.advanceBoard_frame (s0 : State) (a1 : Nat) (a2 : Bool) : Frame [.regs] s0 (State.advanceBoard s0 a1 a2) := by
  unfold State.advanceBoard
  repeat' first
    | with_reducible assumption
    | intro _
    | (extract_lets -merge +onlyGivenNames x; refine (have hx : Frame [.regs] s0 x := ?_; ?_); rotate_left; clear_value x; rotate_left; subst x)
    | (extract_lets -merge +onlyGivenNames x; clear_value x)
    | with_reducible exact Frame.refl _ _
    | with_reducible apply Frame.ite
    | with_reducible apply Frame.foldl
    | with_reducible apply Frame.via (State.setF_frame _ _ _ _ _) (by decide)
    | split

theorem State.boardDebugRead_frame (s0 : State) (a1 : Nat) (a2 : Nat) (a3 : Nat) : Frame [.regs] s0 (State.boardDebugRead s0 a1 a2 a3).1 := by
  unfold State.boardDebugRead
  repeat' first
    | with_reducible assumption
    | intro _
    | (extract_lets -merge +onlyGivenNames x; refine (have hx : Frame [.regs] s0 x := ?_; ?_); rotate_left; clear_value x; rotate_left; subst x)
    | (extract_lets -merge +onlyGivenNames x; refine (have hx : Frame [.regs] s0 x.1 := ?_; ?_); rotate_left; clear_value x; rotate_left; subst x)
    | (extract_lets -merge +onlyGivenNames x; refine (have hf : _ → _ := x; ?_); clear hf; subst x)
    | (extract_lets -merge +onlyGivenNames x; clear_value x)
    | with_reducible exact Frame.refl _ _
    | with_reducible apply Frame.ite
    | with_reducible apply Frame.ite1
    | with_reducible apply Frame.foldl
    | with_reducible apply Frame.foldl1
    | with_reducible apply Frame.idf
    | with_reducible apply Frame.via (State.setBit_frame _ _ _ _) (by decide)
    | with_reducible apply Frame.via (State.advanceBoard_frame _ _ _) (by decide)
    | split

theorem State.readEffect_frame (s0 : State) (a1 : Who) (a2 : RegPart) : Frame [.regs, .icu, .front] s0 (State.readEffect s0 a1 a2) := by
  unfold State.readEffect
  repeat' first
    | with_reducible assumption
    | intro _
    | (extract_lets -merge +onlyGivenNames x; refine (have hx : Frame [.regs, .icu, .front] s0 x := ?_; ?_); rotate_left; clear_value x; rotate_left; subst x)
    | (extract_lets -merge +onlyGivenNames x; clear_value x)
    | with_reducible exact Frame.refl _ _
    | with_reducible apply Frame.ite
    | with_reducible apply Frame.foldl
    | with_reducible apply Frame.via (State.setReg_frame _ _ _ _) (by decide)
    | with_reducible apply Frame.via (State.claim_frame _ _) (by decide)
    | with_reducible apply Frame.via (State.boardDebugRead_frame _ _ _ _) (by decide)
    | with_reducible refine Frame.via (Frame.of_eq1 (State.boardDebugRead_frame _ _ _ _) (by assumption)) (by decide) ?_
    | split

theorem State.regRead_frame (s0 : State) (a1 : Who) (a2 : Nat) (a3 : Nat) : Frame [.regs, .icu, .front] s0 (State.regRead s0 a1 a2 a3) := by
  unfold State.regRead
  repeat' first
    | with_reducible assumption
    | intro _
    | (extract_lets -merge +onlyGivenNames x; refine (have hx : Frame [.regs, .icu, .front] s0 x := ?_; ?_); rotate_left; clear_value x; rotate_left; subst x)
    | (extract_lets -merge +onlyGivenNames x; clear_value x)
    | with_reducible exact Frame.refl _ _
    | with_reducible apply Frame.ite
    | with_reducible apply Frame.foldl
    | with_reducible apply Frame.via (State.readAs_frame _ _) (by decide)
    | with_reducible apply Frame.via (State.readEffect_frame _ _ _) (by decide)
    | split

theorem State.incF_frame (s0 : State) (a1 : Reg) (a2 : List Nat) (a3 : Fld) (a4 : Nat) : Frame [.regs] s0 (State.incF s0 a1 a2 a3 a4) := by
  unfold State.incF
  repeat' first
    | with_reducible assumption
    | intro _
    | (extract_lets -merge +onlyGivenNames x; refine (have hx : Frame [.regs] s0 x := ?_; ?_); rotate_left; clear_value x; rotate_left; subst x)
    | (extract_lets -merge +onlyGivenNames x; clear_value x)
    | with_reducible exact Frame.refl _ _
    | with_reducible apply Frame.ite
    | with_reducible apply Frame.foldl
    | with_reducible apply Frame.via (State.setF_frame _ _ _ _ _) (by decide)
    | split

theorem State.absentAccess_frame (s0 : State) (a1 : Nat) (a2 : Bool) : Frame [.regs] s0 (State.absentAccess s0 a1 a2) := by
  unfold State.absentAccess
  repeat' first
    | with_reducible assumption
    | intro _
    | (extract_lets -merge +onlyGivenNames x; refine (have hx : Frame [.regs] s0 x := ?_; ?_); rotate_left; clear_value x; rotate_left; subst x)
    | (extract_lets -merge +onlyGivenNames x; clear_value x)
    | with_reducible exact Frame.refl _ _
    | with_reducible apply Frame.ite
    | with_reducible apply Frame.foldl
    | with_reducible apply Frame.via (State.setF_frame _ _ _ _ _) (by decide)
    | with_reducible apply Frame.via (State.setBit_frame _ _ _ _) (by decide)
    | with_reducible apply Frame.via (State.incF_frame _ _ _ _ _) (by decide)
    | split

theorem State.busRead_frame (s0 : State) (a1 : Who) (a2 : Nat) (a3 : Nat) : Frame [.regs, .arb, .icu, .front] s0 (State.busRead s0 a1 a2 a3) := by
  unfold State.busRead
  repeat' first
    | with_reducible assumption
    | intro _
    | (extract_lets -merge +onlyGivenNames x; refine (have hx : Frame [.regs, .arb, .icu, .front] s0 x := ?_; ?_); rotate_left; clear_value x; rotate_left; subst x)
    | (extract_lets -merge +onlyGivenNames x; clear_value x)
    | with_reducible exact Frame.refl _ _
    | with_reducible apply Frame.ite
    | with_reducible apply Frame.foldl
    | with_reducible apply Frame.via (State.accessFault_frame _ _ _ _) (by decide)
    | with_reducible apply Frame.via (State.readAs_frame _ _) (by decide)
    | with_reducible apply Frame.via (State.regRead_frame _ _ _ _) (by decide)
    | with_reducible apply Frame.via (State.absentAccess_frame _ _ _) (by decide)
    | split

theorem State.ringError_frame (s0 : State) (a1 : Nat) (a2 : Nat) : Frame [.regs, .arb, .front] s0 (State.ringError s0 a1 a2) := by
  unfold State.ringError
  repeat' first
    | with_reducible assumption
    | intro _
    | (extract_lets -merge +onlyGivenNames x; refine (have hx : Frame [.regs, .arb, .front] s0 x := ?_; ?_); rotate_left; clear_value x; rotate_left; subst x)
    | (extract_lets -merge +onlyGivenNames x; clear_value x)
    | with_reducible exact Frame.refl _ _
    | with_reducible apply Frame.ite
    | with_reducible apply Frame.foldl
    | with_reducible apply Frame.via (State.fireMsix_frame _ _) (by decide)
    | with_reducible apply Frame.via (State.setF_frame _ _ _ _ _) (by decide)
    | with_reducible apply Frame.via (State.setLogged_frame _ _ _ _ _) (by decide)
    | split

theorem State.tailDoorbell_frame (s0 : State) (a1 : Nat) (a2 : Nat) : Frame [.regs, .arb, .front] s0 (State.tailDoorbell s0 a1 a2) := by
  unfold State.tailDoorbell
  repeat' first
    | with_reducible assumption
    | intro _
    | (extract_lets -merge +onlyGivenNames x; refine (have hx : Frame [.regs, .arb, .front] s0 x := ?_; ?_); rotate_left; clear_value x; rotate_left; subst x)
    | (extract_lets -merge +onlyGivenNames x; clear_value x)
    | with_reducible exact Frame.refl _ _
    | with_reducible apply Frame.ite
    | with_reducible apply Frame.foldl
    | with_reducible apply Frame.via (State.setF_frame _ _ _ _ _) (by decide)
    | with_reducible apply Frame.via (State.ringError_frame _ _ _) (by decide)
    | split

theorem State.cfgIgnored_frame (s0 : State) (a1 : Nat) : Frame [.regs] s0 (State.cfgIgnored s0 a1) := by
  unfold State.cfgIgnored
  repeat' first
    | with_reducible assumption
    | intro _
    | (extract_lets -merge +onlyGivenNames x; refine (have hx : Frame [.regs] s0 x := ?_; ?_); rotate_left; clear_value x; rotate_left; subst x)
    | (extract_lets -merge +onlyGivenNames x; clear_value x)
    | with_reducible exact Frame.refl _ _
    | with_reducible apply Frame.ite
    | with_reducible apply Frame.foldl
    | with_reducible apply Frame.via (State.setBit_frame _ _ _ _) (by decide)
    | split

theorem State.writeRingCfg_frame (s0 : State) (a1 : Nat) (a2 : Nat) : Frame [.regs] s0 (State.writeRingCfg s0 a1 a2) := by
  unfold State.writeRingCfg
  repeat' first
    | with_reducible assumption
    | intro _
    | (extract_lets -merge +onlyGivenNames x; refine (have hx : Frame [.regs] s0 x := ?_; ?_); rotate_left; clear_value x; rotate_left; subst x)
    | (extract_lets -merge +onlyGivenNames x; clear_value x)
    | with_reducible exact Frame.refl _ _
    | with_reducible apply Frame.ite
    | with_reducible apply Frame.foldl
    | with_reducible apply Frame.via (State.setReg_frame _ _ _ _) (by decide)
    | with_reducible apply Frame.via (State.setF_frame _ _ _ _ _) (by decide)
    | with_reducible apply Frame.via (State.setBit_frame _ _ _ _) (by decide)
    | with_reducible apply Frame.via (State.cfgIgnored_frame _ _) (by decide)
    | split

theorem State.headDoorbell_frame (s0 : State) (a1 : Nat) (a2 : Nat) : Frame [.regs, .arb, .front] s0 (State.headDoorbell s0 a1 a2) := by
  unfold State.headDoorbell
  repeat' first
    | with_reducible assumption
    | intro _
    | (extract_lets -merge +onlyGivenNames x; refine (have hx : Frame [.regs, .arb, .front] s0 x := ?_; ?_); rotate_left; clear_value x; rotate_left; subst x)
    | (extract_lets -merge +onlyGivenNames x; clear_value x)
    | with_reducible exact Frame.refl _ _
    | with_reducible apply Frame.ite
    | with_reducible apply Frame.foldl
    | with_reducible apply Frame.via (State.setF_frame _ _ _ _ _) (by decide)
    | with_reducible apply Frame.via (State.ringError_frame _ _ _) (by decide)
    | split

theorem State.writeRingBase_frame (s0 : State) (a1 : Who) (a2 : Bool) (a3 : Nat) (a4 : Nat) : Frame [.regs] s0 (State.writeRingBase s0 a1 a2 a3 a4) := by
  unfold State.writeRingBase
  repeat' first
    | with_reducible assumption
    | intro _
    | (extract_lets -merge +onlyGivenNames x; refine (have hx : Frame [.regs] s0 x := ?_; ?_); rotate_left; clear_value x; rotate_left; subst x)
    | (extract_lets -merge +onlyGivenNames x; clear_value x)
    | with_reducible exact Frame.refl _ _
    | with_reducible apply Frame.ite
    | with_reducible apply Frame.foldl
    | with_reducible apply Frame.via (State.setF_frame _ _ _ _ _) (by decide)
    | with_reducible apply Frame.via (State.cfgIgnored_frame _ _) (by decide)
    | split

theorem State.plainWrite_frame (s0 : State) (a1 : RegWrite) (a2 : Bool) : Frame [.regs] s0 (State.plainWrite s0 a1 a2) := by
  unfold State.plainWrite
  repeat' first
    | with_reducible assumption
    | intro _
    | (extract_lets -merge +onlyGivenNames x; refine (have hx : Frame [.regs] s0 x := ?_; ?_); rotate_left; clear_value x; rotate_left; subst x)
    | (extract_lets -merge +onlyGivenNames x; clear_value x)
    | with_reducible exact Frame.refl _ _
    | with_reducible apply Frame.ite
    | with_reducible apply Frame.foldl
    | with_reducible apply Frame.via (State.setReg_frame _ _ _ _) (by decide)
    | split

theorem State.sendMsix_frame (s0 : State) : Frame [.front] s0 (State.sendMsix s0) := by
  unfold State.sendMsix
  repeat' first
    | with_reducible assumption
    | intro _
    | (extract_lets -merge +onlyGivenNames x; refine (have hx : Frame [.front] s0 x := ?_; ?_); rotate_left; clear_value x; rotate_left; subst x)
    | (extract_lets -merge +onlyGivenNames x; clear_value x)
    | with_reducible exact Frame.refl _ _
    | with_reducible apply Frame.ite
    | with_reducible apply Frame.foldl
    | split
    | with_reducible apply Frame.set_front _ (by decide)

theorem State.ethError_frame (s0 : State) (a1 : Nat) (a2 : Nat) : Frame [.regs] s0 (State.ethError s0 a1 a2) := by
  unfold State.ethError
  repeat' first
    | with_reducible assumption
    | intro _
    | (extract_lets -merge +onlyGivenNames x; refine (have hx : Frame [.regs] s0 x := ?_; ?_); rotate_left; clear_value x; rotate_left; subst x)
    | (extract_lets -merge +onlyGivenNames x; clear_value x)
    | with_reducible exact Frame.refl _ _
    | with_reducible apply Frame.ite
    | with_reducible apply Frame.foldl
    | with_reducible apply Frame.via (State.setF_frame _ _ _ _ _) (by decide)
    | with_reducible apply Frame.via (State.setBit_frame _ _ _ _) (by decide)
    | split

theorem State.ethTail_frame (s0 : State) (a1 : Nat) (a2 : Nat) : Frame [.regs] s0 (State.ethTail s0 a1 a2) := by
  unfold State.ethTail
  repeat' first
    | with_reducible assumption
    | intro _
    | (extract_lets -merge +onlyGivenNames x; refine (have hx : Frame [.regs] s0 x := ?_; ?_); rotate_left; clear_value x; rotate_left; subst x)
    | (extract_lets -merge +onlyGivenNames x; clear_value x)
    | with_reducible exact Frame.refl _ _
    | with_reducible apply Frame.ite
    | with_reducible apply Frame.foldl
    | with_reducible apply Frame.via (State.setF_frame _ _ _ _ _) (by decide)
    | with_reducible apply Frame.via (State.ethError_frame _ _ _) (by decide)
    | split

theorem State.ethCplHead_frame (s0 : State) (a1 : Nat) (a2 : Nat) : Frame [.regs] s0 (State.ethCplHead s0 a1 a2) := by
  unfold State.ethCplHead
  repeat' first
    | with_reducible assumption
    | intro _
    | (extract_lets -merge +onlyGivenNames x; refine (have hx : Frame [.regs] s0 x := ?_; ?_); rotate_left; clear_value x; rotate_left; subst x)
    | (extract_lets -merge +onlyGivenNames x; clear_value x)
    | with_reducible exact Frame.refl _ _
    | with_reducible apply Frame.ite
    | with_reducible apply Frame.foldl
    | with_reducible apply Frame.via (State.setF_frame _ _ _ _ _) (by decide)
    | with_reducible apply Frame.via (State.ethError_frame _ _ _) (by decide)
    | split

theorem State.writeHostIf_frame (s0 : State) (a1 : RegWrite) : Frame [.regs, .arb, .front] s0 (State.writeHostIf s0 a1) := by
  unfold State.writeHostIf
  repeat' first
    | with_reducible assumption
    | intro _
    | (extract_lets -merge +onlyGivenNames x; refine (have hx : Frame [.regs, .arb, .front] s0 x := ?_; ?_); rotate_left; clear_value x; rotate_left; subst x)
    | (extract_lets -merge +onlyGivenNames x; clear_value x)
    | with_reducible exact Frame.refl _ _
    | with_reducible apply Frame.ite
    | with_reducible apply Frame.foldl
    | with_reducible apply Frame.via (State.tailDoorbell_frame _ _ _) (by decide)
    | with_reducible apply Frame.via (State.writeRingCfg_frame _ _ _) (by decide)
    | with_reducible apply Frame.via (State.headDoorbell_frame _ _ _) (by decide)
    | with_reducible apply Frame.via (State.writeRingBase_frame _ _ _ _ _) (by decide)
    | with_reducible apply Frame.via (State.plainWrite_frame _ _ _) (by decide)
    | with_reducible apply Frame.via (State.sendMsix_frame _) (by decide)
    | with_reducible apply Frame.via (State.ethTail_frame _ _ _) (by decide)
    | with_reducible apply Frame.via (State.ethCplHead_frame _ _ _) (by decide)
    | split

theorem State.syncEva_frame (s0 : State) : Frame [.regs] s0 (State.syncEva s0) := by
  unfold State.syncEva
  repeat' first
    | with_reducible assumption
    | intro _
    | (extract_lets -merge +onlyGivenNames x; refine (have hx : Frame [.regs] s0 x := ?_; ?_); rotate_left; clear_value x; rotate_left; subst x)
    | (extract_lets -merge +onlyGivenNames x; clear_value x)
    | with_reducible exact Frame.refl _ _
    | with_reducible apply Frame.ite
    | with_reducible apply Frame.foldl
    | with_reducible apply Frame.via (State.setF_frame _ _ _ _ _) (by decide)
    | split

theorem State.evaChange_frame {l : List Part} (s0 s : State) (f : State → State)
    (hl : [Part.regs, .front].all (fun p => l.contains p) = true) (hb : Frame l s0 (f s)) : Frame l s0 (s.evaChange f) := by
  have hr : [Part.regs].all (fun p => l.contains p) = true := by simp at hl ⊢; exact hl.1
  have hf : [Part.front].all (fun p => l.contains p) = true := by simp at hl ⊢; exact hl.2
  unfold State.evaChange
  have := Frame.via (State.syncEva_frame _) hr hb
  dsimp only
  split
  · exact Frame.via (State.fireMsix_frame _ _) hf this
  · exact this

theorem State.writeEvaCfg_frame (s0 : State) (a1 : Word) : Frame [.regs, .front] s0 (State.writeEvaCfg s0 a1) := by
  unfold State.writeEvaCfg
  repeat' first
    | with_reducible assumption
    | intro _
    | (extract_lets -merge +onlyGivenNames x; refine (have hx : Frame [.regs, .front] s0 x := ?_; ?_); rotate_left; clear_value x; rotate_left; subst x)
    | (extract_lets -merge +onlyGivenNames x; clear_value x)
    | with_reducible exact Frame.refl _ _
    | with_reducible apply Frame.ite
    | with_reducible apply Frame.foldl
    | with_reducible apply Frame.via (State.setReg_frame _ _ _ _) (by decide)
    | with_reducible apply Frame.via (State.setBit_frame _ _ _ _) (by decide)
    | with_reducible refine State.evaChange_frame _ _ _ (by decide) ?_
    | split

theorem State.writeEvaBase_frame (s0 : State) (a1 : Word) : Frame [.regs] s0 (State.writeEvaBase s0 a1) := by
  unfold State.writeEvaBase
  repeat' first
    | with_reducible assumption
    | intro _
    | (extract_lets -merge +onlyGivenNames x; refine (have hx : Frame [.regs] s0 x := ?_; ?_); rotate_left; clear_value x; rotate_left; subst x)
    | (extract_lets -merge +onlyGivenNames x; clear_value x)
    | with_reducible exact Frame.refl _ _
    | with_reducible apply Frame.ite
    | with_reducible apply Frame.foldl
    | with_reducible apply Frame.via (State.setReg_frame _ _ _ _) (by decide)
    | with_reducible apply Frame.via (State.setBit_frame _ _ _ _) (by decide)
    | split

theorem State.writeEvaRd_frame (s0 : State) (a1 : Nat) : Frame [.regs, .front] s0 (State.writeEvaRd s0 a1) := by
  unfold State.writeEvaRd
  repeat' first
    | with_reducible assumption
    | intro _
    | (extract_lets -merge +onlyGivenNames x; refine (have hx : Frame [.regs, .front] s0 x := ?_; ?_); rotate_left; clear_value x; rotate_left; subst x)
    | (extract_lets -merge +onlyGivenNames x; clear_value x)
    | with_reducible exact Frame.refl _ _
    | with_reducible apply Frame.ite
    | with_reducible apply Frame.foldl
    | with_reducible apply Frame.via (State.setF_frame _ _ _ _ _) (by decide)
    | with_reducible apply Frame.via (State.setBit_frame _ _ _ _) (by decide)
    | with_reducible refine State.evaChange_frame _ _ _ (by decide) ?_
    | split

theorem State.makePending_frame (s0 : State) (a1 : Nat) : Frame [.regs] s0 (State.makePending s0 a1) := by
  unfold State.makePending
  repeat' first
    | with_reducible assumption
    | intro _
    | (extract_lets -merge +onlyGivenNames x; refine (have hx : Frame [.regs] s0 x := ?_; ?_); rotate_left; clear_value x; rotate_left; subst x)
    | (extract_lets -merge +onlyGivenNames x; clear_value x)
    | with_reducible exact Frame.refl _ _
    | with_reducible apply Frame.ite
    | with_reducible apply Frame.foldl
    | with_reducible apply Frame.via (State.setF_frame _ _ _ _ _) (by decide)
    | with_reducible apply Frame.via (State.setBit_frame _ _ _ _) (by decide)
    | split

theorem State.trigger_frame (s0 : State) (a1 : Nat) : Frame [.regs] s0 (State.trigger s0 a1) := by
  unfold State.trigger
  repeat' first
    | with_reducible assumption
    | intro _
    | (extract_lets -merge +onlyGivenNames x; refine (have hx : Frame [.regs] s0 x := ?_; ?_); rotate_left; clear_value x; rotate_left; subst x)
    | (extract_lets -merge +onlyGivenNames x; clear_value x)
    | with_reducible exact Frame.refl _ _
    | with_reducible apply Frame.ite
    | with_reducible apply Frame.foldl
    | with_reducible apply Frame.via (State.setF_frame _ _ _ _ _) (by decide)
    | with_reducible apply Frame.via (State.setBit_frame _ _ _ _) (by decide)
    | with_reducible apply Frame.via (State.makePending_frame _ _) (by decide)
    | split

theorem State.setPend_frame (s0 : State) (a1 : Nat) : Frame [.regs] s0 (State.setPend s0 a1) := by
  unfold State.setPend
  repeat' first
    | with_reducible assumption
    | intro _
    | (extract_lets -merge +onlyGivenNames x; refine (have hx : Frame [.regs] s0 x := ?_; ?_); rotate_left; clear_value x; rotate_left; subst x)
    | (extract_lets -merge +onlyGivenNames x; clear_value x)
    | with_reducible exact Frame.refl _ _
    | with_reducible apply Frame.ite
    | with_reducible apply Frame.foldl
    | with_reducible apply Frame.via (State.trigger_frame _ _) (by decide)
    | split

theorem State.leaveActive_frame (s0 : State) (a1 : Nat) : Frame [.regs, .icu] s0 (State.leaveActive s0 a1) := by
  unfold State.leaveActive
  repeat' first
    | with_reducible assumption
    | intro _
    | (extract_lets -merge +onlyGivenNames x; refine (have hx : Frame [.regs, .icu] s0 x := ?_; ?_); rotate_left; clear_value x; rotate_left; subst x)
    | (extract_lets -merge +onlyGivenNames x; clear_value x)
    | with_reducible exact Frame.refl _ _
    | with_reducible apply Frame.ite
    | with_reducible apply Frame.foldl
    | with_reducible apply Frame.via (State.setF_frame _ _ _ _ _) (by decide)
    | with_reducible apply Frame.via (State.setBit_frame _ _ _ _) (by decide)
    | with_reducible apply Frame.via (State.makePending_frame _ _) (by decide)
    | split
    | with_reducible apply Frame.set_icu _ (by decide)

theorem State.emptyStack_frame (s0 : State) (a1 : Nat) : Frame [.regs, .icu] s0 (State.emptyStack s0 a1) := by
  unfold State.emptyStack
  repeat' first
    | with_reducible assumption
    | intro _
    | (extract_lets -merge +onlyGivenNames x; refine (have hx : Frame [.regs, .icu] s0 x := ?_; ?_); rotate_left; clear_value x; rotate_left; subst x)
    | (extract_lets -merge +onlyGivenNames x; clear_value x)
    | with_reducible exact Frame.refl _ _
    | with_reducible apply Frame.ite
    | with_reducible apply Frame.foldl
    | with_reducible apply Frame.via (State.setTarget_frame _ _ _) (by decide)
    | with_reducible apply Frame.via (State.leaveActive_frame _ _) (by decide)
    | split

theorem State.resetStacks_frame (s0 : State) (a1 : Nat) : Frame [.regs, .icu] s0 (State.resetStacks s0 a1) := by
  unfold State.resetStacks
  repeat' first
    | with_reducible assumption
    | intro _
    | (extract_lets -merge +onlyGivenNames x; refine (have hx : Frame [.regs, .icu] s0 x := ?_; ?_); rotate_left; clear_value x; rotate_left; subst x)
    | (extract_lets -merge +onlyGivenNames x; clear_value x)
    | with_reducible exact Frame.refl _ _
    | with_reducible apply Frame.ite
    | with_reducible apply Frame.foldl
    | with_reducible apply Frame.via (State.setReg_frame _ _ _ _) (by decide)
    | with_reducible apply Frame.via (State.emptyStack_frame _ _) (by decide)
    | split

theorem State.orderFault_frame (s0 : State) (a1 : Nat) (a2 : Nat) : Frame [.regs, .arb, .icu] s0 (State.orderFault s0 a1 a2) := by
  unfold State.orderFault
  repeat' first
    | with_reducible assumption
    | intro _
    | (extract_lets -merge +onlyGivenNames x; refine (have hx : Frame [.regs, .arb, .icu] s0 x := ?_; ?_); rotate_left; clear_value x; rotate_left; subst x)
    | (extract_lets -merge +onlyGivenNames x; clear_value x)
    | with_reducible exact Frame.refl _ _
    | with_reducible apply Frame.ite
    | with_reducible apply Frame.foldl
    | with_reducible apply Frame.via (State.setReg_frame _ _ _ _) (by decide)
    | with_reducible apply Frame.via (State.setF_frame _ _ _ _ _) (by decide)
    | with_reducible apply Frame.via (State.logBits_frame _ _ _ _ _) (by decide)
    | with_reducible apply Frame.via (State.setTarget_frame _ _ _) (by decide)
    | split

theorem State.completeSource_frame (s0 : State) (a1 : Nat) (a2 : Nat) : Frame [.regs, .arb, .icu] s0 (State.completeSource s0 a1 a2) := by
  unfold State.completeSource
  repeat' first
    | with_reducible assumption
    | intro _
    | (extract_lets -merge +onlyGivenNames x; refine (have hx : Frame [.regs, .arb, .icu] s0 x := ?_; ?_); rotate_left; clear_value x; rotate_left; subst x)
    | (extract_lets -merge +onlyGivenNames x; clear_value x)
    | with_reducible exact Frame.refl _ _
    | with_reducible apply Frame.ite
    | with_reducible apply Frame.foldl
    | with_reducible apply Frame.via (State.setTarget_frame _ _ _) (by decide)
    | with_reducible apply Frame.via (State.leaveActive_frame _ _) (by decide)
    | with_reducible apply Frame.via (State.orderFault_frame _ _ _) (by decide)
    | split

theorem State.levelPend_frame (s0 : State) (a1 : Nat) : Frame [.regs] s0 (State.levelPend s0 a1) := by
  unfold State.levelPend
  repeat' first
    | with_reducible assumption
    | intro _
    | (extract_lets -merge +onlyGivenNames x; refine (have hx : Frame [.regs] s0 x := ?_; ?_); rotate_left; clear_value x; rotate_left; subst x)
    | (extract_lets -merge +onlyGivenNames x; clear_value x)
    | with_reducible exact Frame.refl _ _
    | with_reducible apply Frame.ite
    | with_reducible apply Frame.foldl
    | with_reducible apply Frame.via (State.makePending_frame _ _) (by decide)
    | split

theorem State.triggers_frame (s0 : State) (n k : Nat) : Frame [.regs] s0 (State.triggers s0 n k) := by
  induction k generalizing s0 with
  | zero => exact Frame.refl _ _
  | succ k ih => exact (Frame.via (State.trigger_frame _ _) (by decide) (Frame.refl _ _)).trans (ih _)

theorem State.sample_frame (s0 : State) (a1 : Nat) : Frame [.regs, .icu] s0 (State.sample s0 a1) := by
  unfold State.sample
  repeat' first
    | with_reducible assumption
    | intro _
    | (extract_lets -merge +onlyGivenNames x; refine (have hx : Frame [.regs, .icu] s0 x := ?_; ?_); rotate_left; clear_value x; rotate_left; subst x)
    | (extract_lets -merge +onlyGivenNames x; clear_value x)
    | with_reducible exact Frame.refl _ _
    | with_reducible apply Frame.ite
    | with_reducible apply Frame.foldl
    | with_reducible apply Frame.via (State.setF_frame _ _ _ _ _) (by decide)
    | with_reducible apply Frame.via (State.levelPend_frame _ _) (by decide)
    | with_reducible apply Frame.via (State.triggers_frame _ _ _) (by decide)
    | split
    | with_reducible apply Frame.set_icu _ (by decide)

theorem State.writeSrc_frame (s0 : State) (a1 : Nat) (a2 : Nat) : Frame [.regs, .icu] s0 (State.writeSrc s0 a1 a2) := by
  unfold State.writeSrc
  repeat' first
    | with_reducible assumption
    | intro _
    | (extract_lets -merge +onlyGivenNames x; refine (have hx : Frame [.regs, .icu] s0 x := ?_; ?_); rotate_left; clear_value x; rotate_left; subst x)
    | (extract_lets -merge +onlyGivenNames x; clear_value x)
    | with_reducible exact Frame.refl _ _
    | with_reducible apply Frame.ite
    | with_reducible apply Frame.foldl
    | with_reducible apply Frame.via (State.setF_frame _ _ _ _ _) (by decide)
    | with_reducible apply Frame.via (State.levelPend_frame _ _) (by decide)
    | with_reducible apply Frame.via (State.sample_frame _ _) (by decide)
    | split

theorem State.superWritten_frame (s0 : State) : Frame [.icu] s0 (State.superWritten s0) := by
  unfold State.superWritten
  repeat' first
    | with_reducible assumption
    | intro _
    | (extract_lets -merge +onlyGivenNames x; refine (have hx : Frame [.icu] s0 x := ?_; ?_); rotate_left; clear_value x; rotate_left; subst x)
    | (extract_lets -merge +onlyGivenNames x; clear_value x)
    | with_reducible exact Frame.refl _ _
    | with_reducible apply Frame.ite
    | with_reducible apply Frame.foldl
    | split
    | with_reducible apply Frame.set_icu _ (by decide)

theorem State.writeIcu_frame (s0 : State) (a1 : RegWrite) : Frame [.regs, .arb, .icu, .front] s0 (State.writeIcu s0 a1) := by
  unfold State.writeIcu
  repeat' first
    | with_reducible assumption
    | intro _
    | (extract_lets -merge +onlyGivenNames x; refine (have hx : Frame [.regs, .arb, .icu, .front] s0 x := ?_; ?_); rotate_left; clear_value x; rotate_left; subst x)
    | (extract_lets -merge +onlyGivenNames x; clear_value x)
    | with_reducible exact Frame.refl _ _
    | with_reducible apply Frame.ite
    | with_reducible apply Frame.foldl
    | with_reducible apply Frame.via (State.setF_frame _ _ _ _ _) (by decide)
    | with_reducible apply Frame.via (State.sendEvent_frame _ _ _ _) (by decide)
    | with_reducible apply Frame.via (State.plainWrite_frame _ _ _) (by decide)
    | with_reducible apply Frame.via (State.writeEvaCfg_frame _ _) (by decide)
    | with_reducible apply Frame.via (State.writeEvaBase_frame _ _) (by decide)
    | with_reducible apply Frame.via (State.writeEvaRd_frame _ _) (by decide)
    | with_reducible apply Frame.via (State.setPend_frame _ _) (by decide)
    | with_reducible apply Frame.via (State.resetStacks_frame _ _) (by decide)
    | with_reducible apply Frame.via (State.completeSource_frame _ _ _) (by decide)
    | with_reducible apply Frame.via (State.writeSrc_frame _ _ _) (by decide)
    | with_reducible apply Frame.via (State.superWritten_frame _) (by decide)
    | split

theorem State.writeTstart_frame (s0 : State) (a1 : Nat) (a2 : Nat) (a3 : Nat) : Frame [.regs] s0 (State.writeTstart s0 a1 a2 a3) := by
  unfold State.writeTstart
  repeat' first
    | with_reducible assumption
    | intro _
    | (extract_lets -merge +onlyGivenNames x; refine (have hx : Frame [.regs] s0 x := ?_; ?_); rotate_left; clear_value x; rotate_left; subst x)
    | (extract_lets -merge +onlyGivenNames x; clear_value x)
    | with_reducible exact Frame.refl _ _
    | with_reducible apply Frame.ite
    | with_reducible apply Frame.foldl
    | with_reducible apply Frame.via (State.setF_frame _ _ _ _ _) (by decide)
    | split

theorem State.clearsWith_frame (s0 : State) (a1 : Reg) (a2 : List Nat) (a3 : Fld) (a4 : List (Prod Reg Fld)) : Frame [.regs] s0 (State.clearsWith s0 a1 a2 a3 a4) := by
  unfold State.clearsWith
  repeat' first
    | with_reducible assumption
    | intro _
    | (extract_lets -merge +onlyGivenNames x; refine (have hx : Frame [.regs] s0 x := ?_; ?_); rotate_left; clear_value x; rotate_left; subst x)
    | (extract_lets -merge +onlyGivenNames x; clear_value x)
    | with_reducible exact Frame.refl _ _
    | with_reducible apply Frame.ite
    | with_reducible apply Frame.foldl
    | with_reducible apply Frame.via (State.setF_frame _ _ _ _ _) (by decide)
    | split

theorem State.clrPressCounts_frame (s0 : State) (a1 : Nat) : Frame [.regs] s0 (State.clrPressCounts s0 a1) := by
  unfold State.clrPressCounts
  repeat' first
    | with_reducible assumption
    | intro _
    | (extract_lets -merge +onlyGivenNames x; refine (have hx : Frame [.regs] s0 x := ?_; ?_); rotate_left; clear_value x; rotate_left; subst x)
    | (extract_lets -merge +onlyGivenNames x; clear_value x)
    | with_reducible exact Frame.refl _ _
    | with_reducible apply Frame.ite
    | with_reducible apply Frame.foldl
    | with_reducible apply Frame.via (State.setReg_frame _ _ _ _) (by decide)
    | split

theorem State.setPrs_frame (s0 : State) (a1 : Nat) (a2 : Press) : Frame [.press] s0 (State.setPrs s0 a1 a2) := by
  unfold State.setPrs
  repeat' first
    | with_reducible assumption
    | intro _
    | (extract_lets -merge +onlyGivenNames x; refine (have hx : Frame [.press] s0 x := ?_; ?_); rotate_left; clear_value x; rotate_left; subst x)
    | (extract_lets -merge +onlyGivenNames x; clear_value x)
    | with_reducible exact Frame.refl _ _
    | with_reducible apply Frame.ite
    | with_reducible apply Frame.foldl
    | split
    | with_reducible apply Frame.set_press _ (by decide)

theorem State.stripStart_frame (s0 : State) (a1 : Nat) (a2 : Nat) : Frame [.regs] s0 (State.stripStart s0 a1 a2) := by
  unfold State.stripStart
  repeat' first
    | with_reducible assumption
    | intro _
    | (extract_lets -merge +onlyGivenNames x; refine (have hx : Frame [.regs] s0 x := ?_; ?_); rotate_left; clear_value x; rotate_left; subst x)
    | (extract_lets -merge +onlyGivenNames x; clear_value x)
    | with_reducible exact Frame.refl _ _
    | with_reducible apply Frame.ite
    | with_reducible apply Frame.foldl
    | with_reducible apply Frame.via (State.setF_frame _ _ _ _ _) (by decide)
    | split

theorem State.setSect_frame (s0 : State) (a1 : Nat) (a2 : Nat) (a3 : Section) : Frame [.sects] s0 (State.setSect s0 a1 a2 a3) := by
  unfold State.setSect
  repeat' first
    | with_reducible assumption
    | intro _
    | (extract_lets -merge +onlyGivenNames x; refine (have hx : Frame [.sects] s0 x := ?_; ?_); rotate_left; clear_value x; rotate_left; subst x)
    | (extract_lets -merge +onlyGivenNames x; clear_value x)
    | with_reducible exact Frame.refl _ _
    | with_reducible apply Frame.ite
    | with_reducible apply Frame.foldl
    | split
    | with_reducible apply Frame.set_sects _ (by decide)

theorem State.resumePress_frame (s0 : State) (a1 : Nat) : Frame [.press, .sects] s0 (State.resumePress s0 a1) := by
  unfold State.resumePress
  repeat' first
    | with_reducible assumption
    | intro _
    | (extract_lets -merge +onlyGivenNames x; refine (have hx : Frame [.press, .sects] s0 x := ?_; ?_); rotate_left; clear_value x; rotate_left; subst x)
    | (extract_lets -merge +onlyGivenNames x; clear_value x)
    | with_reducible exact Frame.refl _ _
    | with_reducible apply Frame.ite
    | with_reducible apply Frame.foldl
    | with_reducible apply Frame.via (State.setPrs_frame _ _ _) (by decide)
    | with_reducible apply Frame.via (State.setSect_frame _ _ _ _) (by decide)
    | split

theorem State.pauseReached_frame (s0 : State) (a1 : Nat) : Frame [.regs, .press, .sects] s0 (State.pauseReached s0 a1) := by
  unfold State.pauseReached
  repeat' first
    | with_reducible assumption
    | intro _
    | (extract_lets -merge +onlyGivenNames x; refine (have hx : Frame [.regs, .press, .sects] s0 x := ?_; ?_); rotate_left; clear_value x; rotate_left; subst x)
    | (extract_lets -merge +onlyGivenNames x; clear_value x)
    | with_reducible exact Frame.refl _ _
    | with_reducible apply Frame.ite
    | with_reducible apply Frame.foldl
    | with_reducible apply Frame.via (State.setReg_frame _ _ _ _) (by decide)
    | with_reducible apply Frame.via (State.resumePress_frame _ _) (by decide)
    | split

theorem State.pausePress_frame (s0 : State) (a1 : Nat) : Frame [.regs, .press, .sects] s0 (State.pausePress s0 a1) := by
  unfold State.pausePress
  repeat' first
    | with_reducible assumption
    | intro _
    | (extract_lets -merge +onlyGivenNames x; refine (have hx : Frame [.regs, .press, .sects] s0 x := ?_; ?_); rotate_left; clear_value x; rotate_left; subst x)
    | (extract_lets -merge +onlyGivenNames x; clear_value x)
    | with_reducible exact Frame.refl _ _
    | with_reducible apply Frame.ite
    | with_reducible apply Frame.foldl
    | with_reducible apply Frame.via (State.stripStart_frame _ _ _) (by decide)
    | with_reducible apply Frame.via (State.setSect_frame _ _ _ _) (by decide)
    | with_reducible apply Frame.via (State.pauseReached_frame _ _) (by decide)
    | split

theorem State.setPause_frame (s0 : State) (a1 : Nat) : Frame [.regs, .press, .sects] s0 (State.setPause s0 a1) := by
  unfold State.setPause
  repeat' first
    | with_reducible assumption
    | intro _
    | (extract_lets -merge +onlyGivenNames x; refine (have hx : Frame [.regs, .press, .sects] s0 x := ?_; ?_); rotate_left; clear_value x; rotate_left; subst x)
    | (extract_lets -merge +onlyGivenNames x; clear_value x)
    | with_reducible exact Frame.refl _ _
    | with_reducible apply Frame.ite
    | with_reducible apply Frame.foldl
    | with_reducible apply Frame.via (State.setBit_frame _ _ _ _) (by decide)
    | with_reducible apply Frame.via (State.setPrs_frame _ _ _) (by decide)
    | with_reducible apply Frame.via (State.pausePress_frame _ _) (by decide)
    | split

theorem State.clearPause_frame (s0 : State) (a1 : Nat) : Frame [.regs, .press, .sects] s0 (State.clearPause s0 a1) := by
  unfold State.clearPause
  repeat' first
    | with_reducible assumption
    | intro _
    | (extract_lets -merge +onlyGivenNames x; refine (have hx : Frame [.regs, .press, .sects] s0 x := ?_; ?_); rotate_left; clear_value x; rotate_left; subst x)
    | (extract_lets -merge +onlyGivenNames x; clear_value x)
    | with_reducible exact Frame.refl _ _
    | with_reducible apply Frame.ite
    | with_reducible apply Frame.foldl
    | with_reducible apply Frame.via (State.setF_frame _ _ _ _ _) (by decide)
    | with_reducible apply Frame.via (State.setPrs_frame _ _ _) (by decide)
    | with_reducible apply Frame.via (State.resumePress_frame _ _) (by decide)
    | split

theorem State.setTokens_frame (s0 : State) (a1 : Nat) (a2 : List Token) : Frame [.regs, .tacks] s0 (State.setTokens s0 a1 a2) := by
  unfold State.setTokens
  repeat' first
    | with_reducible assumption
    | intro _
    | (extract_lets -merge +onlyGivenNames x; refine (have hx : Frame [.regs, .tacks] s0 x := ?_; ?_); rotate_left; clear_value x; rotate_left; subst x)
    | (extract_lets -merge +onlyGivenNames x; clear_value x)
    | with_reducible exact Frame.refl _ _
    | with_reducible apply Frame.ite
    | with_reducible apply Frame.foldl
    | with_reducible apply Frame.via (State.setF_frame _ _ _ _ _) (by decide)
    | split
    | with_reducible apply Frame.set_tacks _ (by decide)

theorem State.writeGate_frame (s0 : State) (a1 : Nat) (a2 : Nat) (a3 : Nat) : Frame [.regs, .sects] s0 (State.writeGate s0 a1 a2 a3) := by
  unfold State.writeGate
  repeat' first
    | with_reducible assumption
    | intro _
    | (extract_lets -merge +onlyGivenNames x; refine (have hx : Frame [.regs, .sects] s0 x := ?_; ?_); rotate_left; clear_value x; rotate_left; subst x)
    | (extract_lets -merge +onlyGivenNames x; clear_value x)
    | with_reducible exact Frame.refl _ _
    | with_reducible apply Frame.ite
    | with_reducible apply Frame.foldl
    | with_reducible apply Frame.via (State.setF_frame _ _ _ _ _) (by decide)
    | with_reducible apply Frame.via (State.setSect_frame _ _ _ _) (by decide)
    | split

theorem State.writeBoard_frame (s0 : State) (a1 : Nat) (a2 : Nat) (a3 : List Byte) : Frame [.mem] s0 (State.writeBoard s0 a1 a2 a3) := by
  unfold State.writeBoard
  repeat' first
    | with_reducible assumption
    | intro _
    | (extract_lets -merge +onlyGivenNames x; refine (have hx : Frame [.mem] s0 x := ?_; ?_); rotate_left; clear_value x; rotate_left; subst x)
    | (extract_lets -merge +onlyGivenNames x; clear_value x)
    | with_reducible exact Frame.refl _ _
    | with_reducible apply Frame.ite
    | with_reducible apply Frame.foldl
    | split
    | with_reducible apply Frame.set_mem _ (by decide) (fun h => by first | exact h | exact Memory.wf_putBytes h | exact Memory.wf_putBoard h | exact Memory.wf_replayBoards h | exact Memory.wf_tclear h | rfl)

theorem State.boardDebugWrite_frame (s0 : State) (a1 : Nat) (a2 : Nat) (a3 : List Byte) : Frame [.regs, .mem] s0 (State.boardDebugWrite s0 a1 a2 a3) := by
  unfold State.boardDebugWrite
  repeat' first
    | with_reducible assumption
    | intro _
    | (extract_lets -merge +onlyGivenNames x; refine (have hx : Frame [.regs, .mem] s0 x := ?_; ?_); rotate_left; clear_value x; rotate_left; subst x)
    | (extract_lets -merge +onlyGivenNames x; clear_value x)
    | with_reducible exact Frame.refl _ _
    | with_reducible apply Frame.ite
    | with_reducible apply Frame.foldl
    | with_reducible apply Frame.via (State.setBit_frame _ _ _ _) (by decide)
    | with_reducible apply Frame.via (State.advanceBoard_frame _ _ _) (by decide)
    | with_reducible apply Frame.via (State.writeBoard_frame _ _ _ _) (by decide)
    | split

theorem State.writePressDie_frame (s0 : State) (a1 : RegWrite) : Frame [.regs, .mem, .press, .sects, .tacks] s0 (State.writePressDie s0 a1) := by
  unfold State.writePressDie
  repeat' first
    | with_reducible assumption
    | intro _
    | (extract_lets -merge +onlyGivenNames x; refine (have hx : Frame [.regs, .mem, .press, .sects, .tacks] s0 x := ?_; ?_); rotate_left; clear_value x; rotate_left; subst x)
    | (extract_lets -merge +onlyGivenNames x; clear_value x)
    | with_reducible exact Frame.refl _ _
    | with_reducible apply Frame.ite
    | with_reducible apply Frame.foldl
    | with_reducible apply Frame.via (State.setF_frame _ _ _ _ _) (by decide)
    | with_reducible apply Frame.via (State.atLeast1_frame _ _ _ _) (by decide)
    | with_reducible apply Frame.via (State.plainWrite_frame _ _ _) (by decide)
    | with_reducible apply Frame.via (State.writeTstart_frame _ _ _ _) (by decide)
    | with_reducible apply Frame.via (State.clearsWith_frame _ _ _ _ _) (by decide)
    | with_reducible apply Frame.via (State.clrPressCounts_frame _ _) (by decide)
    | with_reducible apply Frame.via (State.setPause_frame _ _) (by decide)
    | with_reducible apply Frame.via (State.clearPause_frame _ _) (by decide)
    | with_reducible apply Frame.via (State.setTokens_frame _ _ _) (by decide)
    | with_reducible apply Frame.via (State.writeGate_frame _ _ _ _) (by decide)
    | with_reducible apply Frame.via (State.boardDebugWrite_frame _ _ _ _) (by decide)
    | split

theorem State.scanRetire_frame (s0 : State) (a1 : Nat) (a2 : Nat) (a3 : SecWait) : Frame [.sects] s0 (State.scanRetire s0 a1 a2 a3) := by
  unfold State.scanRetire
  repeat' first
    | with_reducible assumption
    | intro _
    | (extract_lets -merge +onlyGivenNames x; refine (have hx : Frame [.sects] s0 x := ?_; ?_); rotate_left; clear_value x; rotate_left; subst x)
    | (extract_lets -merge +onlyGivenNames x; clear_value x)
    | with_reducible exact Frame.refl _ _
    | with_reducible apply Frame.ite
    | with_reducible apply Frame.foldl
    | with_reducible apply Frame.via (State.setSect_frame _ _ _ _) (by decide)
    | split

theorem State.injected_frame (s0 : State) (a1 : Tack) : Frame [.sects] s0 (State.injected s0 a1) := by
  unfold State.injected
  repeat' first
    | with_reducible assumption
    | intro _
    | (extract_lets -merge +onlyGivenNames x; refine (have hx : Frame [.sects] s0 x := ?_; ?_); rotate_left; clear_value x; rotate_left; subst x)
    | (extract_lets -merge +onlyGivenNames x; clear_value x)
    | with_reducible exact Frame.refl _ _
    | with_reducible apply Frame.ite
    | with_reducible apply Frame.foldl
    | with_reducible apply Frame.via (State.scanRetire_frame _ _ _ _) (by decide)
    | split

theorem State.sendTack_frame (s0 : State) (a1 : Tack) : Frame [.sects, .tacks] s0 (State.sendTack s0 a1) := by
  unfold State.sendTack
  repeat' first
    | with_reducible assumption
    | intro _
    | (extract_lets -merge +onlyGivenNames x; refine (have hx : Frame [.sects, .tacks] s0 x := ?_; ?_); rotate_left; clear_value x; rotate_left; subst x)
    | (extract_lets -merge +onlyGivenNames x; clear_value x)
    | with_reducible exact Frame.refl _ _
    | with_reducible apply Frame.ite
    | with_reducible apply Frame.foldl
    | with_reducible apply Frame.via (State.injected_frame _ _) (by decide)
    | split
    | with_reducible apply Frame.set_tacks _ (by decide)

theorem State.buildTack_frame (s0 : State) (a1 : Nat) (a2 : List Byte) (a3 : Option Nat) (a4 : Option Nat) : Frame [.regs, .sects, .tacks] s0 (State.buildTack s0 a1 a2 a3 a4) := by
  unfold State.buildTack
  repeat' first
    | with_reducible assumption
    | intro _
    | (extract_lets -merge +onlyGivenNames x; refine (have hx : Frame [.regs, .sects, .tacks] s0 x := ?_; ?_); rotate_left; clear_value x; rotate_left; subst x)
    | (extract_lets -merge +onlyGivenNames x; clear_value x)
    | with_reducible exact Frame.refl _ _
    | with_reducible apply Frame.ite
    | with_reducible apply Frame.foldl
    | with_reducible apply Frame.via (State.incF_frame _ _ _ _ _) (by decide)
    | with_reducible apply Frame.via (State.sendTack_frame _ _) (by decide)
    | split

theorem State.takeToken_frame (s0 : State) (d : Nat) (ack peer : Bool) {t : State} {y : Nat × Nat} (h : s0.takeToken d ack peer = some (t, y)) :
    Frame [.regs, .tacks] s0 t := by
  unfold State.takeToken at h
  obtain ⟨n, -, h⟩ := Option.map_eq_some_iff.mp h
  cases h
  exact Frame.via (State.setTokens_frame _ _ _) (by decide) (Frame.set_tacks _ (by decide) (Frame.refl _ _))

theorem State.csendGo_frame (s0 : State) (a1 : Nat) : Frame [.regs, .sects, .tacks] s0 (State.csendGo s0 a1) := by
  unfold State.csendGo
  repeat' first
    | with_reducible assumption
    | intro _
    | (extract_lets -merge +onlyGivenNames x; refine (have hx : Frame [.regs, .sects, .tacks] s0 x := ?_; ?_); rotate_left; clear_value x; rotate_left; subst x)
    | (extract_lets -merge +onlyGivenNames x; clear_value x)
    | with_reducible exact Frame.refl _ _
    | with_reducible apply Frame.ite
    | with_reducible apply Frame.foldl
    | with_reducible apply Frame.via (State.setBit_frame _ _ _ _) (by decide)
    | with_reducible apply Frame.via (State.buildTack_frame _ _ _ _ _) (by decide)
    | with_reducible refine Frame.via (State.takeToken_frame _ _ _ _ (by assumption)) (by decide) ?_
    | split

theorem State.writeGrid_frame (s0 : State) (a1 : Nat) (a2 : Word) : Frame [.regs] s0 (State.writeGrid s0 a1 a2) := by
  unfold State.writeGrid
  repeat' first
    | with_reducible assumption
    | intro _
    | (extract_lets -merge +onlyGivenNames x; refine (have hx : Frame [.regs] s0 x := ?_; ?_); rotate_left; clear_value x; rotate_left; subst x)
    | (extract_lets -merge +onlyGivenNames x; clear_value x)
    | with_reducible exact Frame.refl _ _
    | with_reducible apply Frame.ite
    | with_reducible apply Frame.foldl
    | with_reducible apply Frame.via (State.setReg_frame _ _ _ _) (by decide)
    | split

theorem State.setLegacy_frame (s0 : State) (a1 : Nat) (a2 : Legacy) : Frame [.regs, .legacy] s0 (State.setLegacy s0 a1 a2) := by
  unfold State.setLegacy
  repeat' first
    | with_reducible assumption
    | intro _
    | (extract_lets -merge +onlyGivenNames x; refine (have hx : Frame [.regs, .legacy] s0 x := ?_; ?_); rotate_left; clear_value x; rotate_left; subst x)
    | (extract_lets -merge +onlyGivenNames x; clear_value x)
    | with_reducible exact Frame.refl _ _
    | with_reducible apply Frame.ite
    | with_reducible apply Frame.foldl
    | with_reducible apply Frame.via (State.setF_frame _ _ _ _ _) (by decide)
    | split
    | with_reducible apply Frame.set_legacy _ (by decide)

theorem State.g1Down_frame (s0 : State) (a1 : Nat) : Frame [.regs, .legacy] s0 (State.g1Down s0 a1) := by
  unfold State.g1Down
  repeat' first
    | with_reducible assumption
    | intro _
    | (extract_lets -merge +onlyGivenNames x; refine (have hx : Frame [.regs, .legacy] s0 x := ?_; ?_); rotate_left; clear_value x; rotate_left; subst x)
    | (extract_lets -merge +onlyGivenNames x; clear_value x)
    | with_reducible exact Frame.refl _ _
    | with_reducible apply Frame.ite
    | with_reducible apply Frame.foldl
    | with_reducible apply Frame.via (State.setLegacy_frame _ _ _) (by decide)
    | split

theorem State.setLnkDyn_frame (s0 : State) (a1 : Nat) (a2 : LinkDyn) : Frame [.lk] s0 (State.setLnkDyn s0 a1 a2) := by
  unfold State.setLnkDyn
  repeat' first
    | with_reducible assumption
    | intro _
    | (extract_lets -merge +onlyGivenNames x; refine (have hx : Frame [.lk] s0 x := ?_; ?_); rotate_left; clear_value x; rotate_left; subst x)
    | (extract_lets -merge +onlyGivenNames x; clear_value x)
    | with_reducible exact Frame.refl _ _
    | with_reducible apply Frame.ite
    | with_reducible apply Frame.foldl
    | split
    | with_reducible apply Frame.set_lk _ (by decide)

theorem State.setLinkState_frame (s0 : State) (a1 : Nat) (a2 : Nat) : Frame [.regs] s0 (State.setLinkState s0 a1 a2) := by
  unfold State.setLinkState
  repeat' first
    | with_reducible assumption
    | intro _
    | (extract_lets -merge +onlyGivenNames x; refine (have hx : Frame [.regs] s0 x := ?_; ?_); rotate_left; clear_value x; rotate_left; subst x)
    | (extract_lets -merge +onlyGivenNames x; clear_value x)
    | with_reducible exact Frame.refl _ _
    | with_reducible apply Frame.ite
    | with_reducible apply Frame.foldl
    | with_reducible apply Frame.via (State.setF_frame _ _ _ _ _) (by decide)
    | split

theorem State.startTraining_frame (s0 : State) (a1 : Nat) (a2 : Nat) : Frame [.regs, .lk, .legacy] s0 (State.startTraining s0 a1 a2) := by
  unfold State.startTraining
  repeat' first
    | with_reducible assumption
    | intro _
    | (extract_lets -merge +onlyGivenNames x; refine (have hx : Frame [.regs, .lk, .legacy] s0 x := ?_; ?_); rotate_left; clear_value x; rotate_left; subst x)
    | (extract_lets -merge +onlyGivenNames x; clear_value x)
    | with_reducible exact Frame.refl _ _
    | with_reducible apply Frame.ite
    | with_reducible apply Frame.foldl
    | with_reducible apply Frame.via (State.setF_frame _ _ _ _ _) (by decide)
    | with_reducible apply Frame.via (State.g1Down_frame _ _) (by decide)
    | with_reducible apply Frame.via (State.setLnkDyn_frame _ _ _) (by decide)
    | with_reducible apply Frame.via (State.setLinkState_frame _ _ _) (by decide)
    | split

theorem State.refSet_frame (s0 : State) (a1 : Fld) : Frame [.regs, .arb] s0 (State.refSet s0 a1) := by
  unfold State.refSet
  repeat' first
    | with_reducible assumption
    | intro _
    | (extract_lets -merge +onlyGivenNames x; refine (have hx : Frame [.regs, .arb] s0 x := ?_; ?_); rotate_left; clear_value x; rotate_left; subst x)
    | (extract_lets -merge +onlyGivenNames x; clear_value x)
    | with_reducible exact Frame.refl _ _
    | with_reducible apply Frame.ite
    | with_reducible apply Frame.foldl
    | with_reducible apply Frame.via (State.setLogged_frame _ _ _ _ _) (by decide)
    | split

theorem State.refSettle_frame (s0 : State) : Frame [.regs, .arb] s0 (State.refSettle s0) := by
  unfold State.refSettle
  repeat' first
    | with_reducible assumption
    | intro _
    | (extract_lets -merge +onlyGivenNames x; refine (have hx : Frame [.regs, .arb] s0 x := ?_; ?_); rotate_left; clear_value x; rotate_left; subst x)
    | (extract_lets -merge +onlyGivenNames x; clear_value x)
    | with_reducible exact Frame.refl _ _
    | with_reducible apply Frame.ite
    | with_reducible apply Frame.foldl
    | with_reducible apply Frame.via (State.setReg_frame _ _ _ _) (by decide)
    | with_reducible apply Frame.via (State.setF_frame _ _ _ _ _) (by decide)
    | with_reducible apply Frame.via (State.incF_frame _ _ _ _ _) (by decide)
    | with_reducible apply Frame.via (State.refSet_frame _ _) (by decide)
    | split

end Sys2Proof.Machine
end

