-- ==== Sys2Proof/Laws/Frames1.lean ====
section
/-! SUPPORT. The frames of operations and commands of Access, Boot, ClockOps, Clocks, EthOps, LegacyLinks, LinkOps, Links,
Mem, MemOps, NoticeOps, Notices, Ops, Power, QueueOps, Ranks, Security, SmKeys, SmOps, SmServices, Tacks, Telemetry:
the parts that each may change. -/

namespace Sys2Proof.Machine

theorem State.refQualified_frame (s0 : State) (a1 : Nat) : Frame [.regs, .arb, .pwr] s0 (State.refQualified s0 a1) := by
  unfold State.refQualified
  repeat' first
    | with_reducible assumption
    | intro _
    | (extract_lets -merge +onlyGivenNames x; refine (have hx : Frame [.regs, .arb, .pwr] s0 x := ?_; ?_); rotate_left; clear_value x; rotate_left; subst x)
    | (extract_lets -merge +onlyGivenNames x; clear_value x)
    | with_reducible exact Frame.refl _ _
    | with_reducible apply Frame.ite
    | with_reducible apply Frame.foldl
    | with_reducible apply Frame.via (State.setF_frame _ _ _ _ _) (by decide)
    | with_reducible apply Frame.via (State.refSettle_frame _) (by decide)
    | split
    | with_reducible apply Frame.set_pwr _ (by decide)

theorem State.refLost_frame (s0 : State) (a1 : Nat) : Frame [.regs, .arb, .pwr] s0 (State.refLost s0 a1) := by
  unfold State.refLost
  repeat' first
    | with_reducible assumption
    | intro _
    | (extract_lets -merge +onlyGivenNames x; refine (have hx : Frame [.regs, .arb, .pwr] s0 x := ?_; ?_); rotate_left; clear_value x; rotate_left; subst x)
    | (extract_lets -merge +onlyGivenNames x; clear_value x)
    | with_reducible exact Frame.refl _ _
    | with_reducible apply Frame.ite
    | with_reducible apply Frame.foldl
    | with_reducible apply Frame.via (State.setF_frame _ _ _ _ _) (by decide)
    | with_reducible apply Frame.via (State.refSet_frame _ _) (by decide)
    | with_reducible apply Frame.via (State.refSettle_frame _) (by decide)
    | split
    | with_reducible apply Frame.set_pwr _ (by decide)

theorem State.linkSources_frame (s0 : State) : Frame [.regs, .arb, .pwr] s0 (State.linkSources s0) := by
  unfold State.linkSources
  repeat' first
    | with_reducible assumption
    | intro _
    | (extract_lets -merge +onlyGivenNames x; refine (have hx : Frame [.regs, .arb, .pwr] s0 x := ?_; ?_); rotate_left; clear_value x; rotate_left; subst x)
    | (extract_lets -merge +onlyGivenNames x; refine (have hx : Frame [.regs, .arb, .pwr] s0 x.1 := ?_; ?_); rotate_left; clear_value x; rotate_left; subst x)
    | (extract_lets -merge +onlyGivenNames x; refine (have hf : _ → _ := x; ?_); clear hf; subst x)
    | (extract_lets -merge +onlyGivenNames x; clear_value x)
    | with_reducible exact Frame.refl _ _
    | with_reducible apply Frame.ite
    | with_reducible apply Frame.ite1
    | with_reducible apply Frame.foldl
    | with_reducible apply Frame.foldl1
    | with_reducible apply Frame.idf
    | with_reducible apply Frame.via (State.refQualified_frame _ _) (by decide)
    | with_reducible apply Frame.via (State.refLost_frame _ _) (by decide)
    | split

theorem State.linkLeave_frame (s0 : State) (a1 : Nat) (a2 : Nat) : Frame [.regs, .lk, .legacy, .arb, .pwr] s0 (State.linkLeave s0 a1 a2) := by
  unfold State.linkLeave
  repeat' first
    | with_reducible assumption
    | intro _
    | (extract_lets -merge +onlyGivenNames x; refine (have hx : Frame [.regs, .lk, .legacy, .arb, .pwr] s0 x := ?_; ?_); rotate_left; clear_value x; rotate_left; subst x)
    | (extract_lets -merge +onlyGivenNames x; clear_value x)
    | with_reducible exact Frame.refl _ _
    | with_reducible apply Frame.ite
    | with_reducible apply Frame.foldl
    | with_reducible apply Frame.via (State.setLogged_frame _ _ _ _ _) (by decide)
    | with_reducible apply Frame.via (State.startTraining_frame _ _ _) (by decide)
    | with_reducible apply Frame.via (State.linkSources_frame _) (by decide)
    | split

theorem State.linkOff_frame (s0 : State) (a1 : Nat) : Frame [.regs, .lk, .legacy, .arb, .pwr] s0 (State.linkOff s0 a1) := by
  unfold State.linkOff
  repeat' first
    | with_reducible assumption
    | intro _
    | (extract_lets -merge +onlyGivenNames x; refine (have hx : Frame [.regs, .lk, .legacy, .arb, .pwr] s0 x := ?_; ?_); rotate_left; clear_value x; rotate_left; subst x)
    | (extract_lets -merge +onlyGivenNames x; clear_value x)
    | with_reducible exact Frame.refl _ _
    | with_reducible apply Frame.ite
    | with_reducible apply Frame.foldl
    | with_reducible apply Frame.via (State.setF_frame _ _ _ _ _) (by decide)
    | with_reducible apply Frame.via (State.linkLeave_frame _ _ _) (by decide)
    | split

theorem State.writeLgcId_frame (s0 : State) (a1 : Nat) (a2 : Word) : Frame [.regs] s0 (State.writeLgcId s0 a1 a2) := by
  unfold State.writeLgcId
  repeat' first
    | with_reducible assumption
    | intro _
    | (extract_lets -merge +onlyGivenNames x; refine (have hx : Frame [.regs] s0 x := ?_; ?_); rotate_left; clear_value x; rotate_left; subst x)
    | (extract_lets -merge +onlyGivenNames x; clear_value x)
    | with_reducible exact Frame.refl _ _
    | with_reducible apply Frame.ite
    | with_reducible apply Frame.foldl
    | with_reducible apply Frame.via (State.setReg_frame _ _ _ _) (by decide)
    | with_reducible apply Frame.via (State.setBit_frame _ _ _ _) (by decide)
    | split

theorem State.rankCfg_frame {l : List Part} (s0 s : State) (m : Nat) (f : State → State)
    (hl : [Part.regs].all (fun p => l.contains p) = true) (h : Frame l s0 s)
    (hb : Frame l s0 s → Frame l s0 (f s)) : Frame l s0 (s.rankCfg m f) := by
  unfold State.rankCfg
  exact Frame.ite (fun _ => Frame.via (State.setBit_frame _ _ _ _) hl h) (fun _ => hb h)

theorem State.writeFence_frame (s0 : State) (a1 : Nat) (a2 : Nat) : Frame [.regs] s0 (State.writeFence s0 a1 a2) := by
  unfold State.writeFence
  repeat' first
    | with_reducible assumption
    | intro _
    | (extract_lets -merge +onlyGivenNames x; refine (have hx : Frame [.regs] s0 x := ?_; ?_); rotate_left; clear_value x; rotate_left; subst x)
    | (extract_lets -merge +onlyGivenNames x; clear_value x)
    | with_reducible exact Frame.refl _ _
    | with_reducible apply Frame.ite
    | with_reducible apply Frame.foldl
    | with_reducible apply Frame.via (State.setF_frame _ _ _ _ _) (by decide)
    | with_reducible refine State.rankCfg_frame _ _ _ _ (by decide) ?_ (fun _ => ?_)
    | split

theorem State.clrLinkCounts_frame (s0 : State) (a1 : Nat) : Frame [.regs] s0 (State.clrLinkCounts s0 a1) := by
  unfold State.clrLinkCounts
  repeat' first
    | with_reducible assumption
    | intro _
    | (extract_lets -merge +onlyGivenNames x; refine (have hx : Frame [.regs] s0 x := ?_; ?_); rotate_left; clear_value x; rotate_left; subst x)
    | (extract_lets -merge +onlyGivenNames x; clear_value x)
    | with_reducible exact Frame.refl _ _
    | with_reducible apply Frame.ite
    | with_reducible apply Frame.foldl
    | with_reducible apply Frame.via (State.setReg_frame _ _ _ _) (by decide)
    | with_reducible apply Frame.via (State.setF_frame _ _ _ _ _) (by decide)
    | split

theorem State.writeChip_frame (s0 : State) (a1 : Nat) (a2 : Nat) : Frame [.regs] s0 (State.writeChip s0 a1 a2) := by
  unfold State.writeChip
  repeat' first
    | with_reducible assumption
    | intro _
    | (extract_lets -merge +onlyGivenNames x; refine (have hx : Frame [.regs] s0 x := ?_; ?_); rotate_left; clear_value x; rotate_left; subst x)
    | (extract_lets -merge +onlyGivenNames x; clear_value x)
    | with_reducible exact Frame.refl _ _
    | with_reducible apply Frame.ite
    | with_reducible apply Frame.foldl
    | with_reducible apply Frame.via (State.setF_frame _ _ _ _ _) (by decide)
    | with_reducible refine State.rankCfg_frame _ _ _ _ (by decide) ?_ (fun _ => ?_)
    | split

theorem State.popInbox_frame (s0 : State) (a1 : Nat) : Frame [.regs, .tacks] s0 (State.popInbox s0 a1) := by
  unfold State.popInbox
  repeat' first
    | with_reducible assumption
    | intro _
    | (extract_lets -merge +onlyGivenNames x; refine (have hx : Frame [.regs, .tacks] s0 x := ?_; ?_); rotate_left; clear_value x; rotate_left; subst x)
    | (extract_lets -merge +onlyGivenNames x; clear_value x)
    | with_reducible exact Frame.refl _ _
    | with_reducible apply Frame.ite
    | with_reducible apply Frame.foldl
    | with_reducible apply Frame.via (State.setF_frame _ _ _ _ _) (by decide)
    | split
    | with_reducible apply Frame.set_tacks _ (by decide)

theorem State.linkStart_frame (s0 : State) (a1 : Nat) : Frame [.regs, .lk, .legacy] s0 (State.linkStart s0 a1) := by
  unfold State.linkStart
  repeat' first
    | with_reducible assumption
    | intro _
    | (extract_lets -merge +onlyGivenNames x; refine (have hx : Frame [.regs, .lk, .legacy] s0 x := ?_; ?_); rotate_left; clear_value x; rotate_left; subst x)
    | (extract_lets -merge +onlyGivenNames x; clear_value x)
    | with_reducible exact Frame.refl _ _
    | with_reducible apply Frame.ite
    | with_reducible apply Frame.foldl
    | with_reducible apply Frame.via (State.startTraining_frame _ _ _) (by decide)
    | split

theorem State.writeMangle_frame (s0 : State) (a1 : RegWrite) : Frame [.regs, .sects, .lk, .legacy, .tacks, .arb, .pwr] s0 (State.writeMangle s0 a1) := by
  unfold State.writeMangle
  repeat' first
    | with_reducible assumption
    | intro _
    | (extract_lets -merge +onlyGivenNames x; refine (have hx : Frame [.regs, .sects, .lk, .legacy, .tacks, .arb, .pwr] s0 x := ?_; ?_); rotate_left; clear_value x; rotate_left; subst x)
    | (extract_lets -merge +onlyGivenNames x; clear_value x)
    | with_reducible exact Frame.refl _ _
    | with_reducible apply Frame.ite
    | with_reducible apply Frame.foldl
    | with_reducible apply Frame.via (State.setF_frame _ _ _ _ _) (by decide)
    | with_reducible apply Frame.via (State.atLeast1_frame _ _ _ _) (by decide)
    | with_reducible apply Frame.via (State.atMost_frame _ _ _ _ _) (by decide)
    | with_reducible apply Frame.via (State.plainWrite_frame _ _ _) (by decide)
    | with_reducible apply Frame.via (State.clearsWith_frame _ _ _ _ _) (by decide)
    | with_reducible apply Frame.via (State.csendGo_frame _ _) (by decide)
    | with_reducible apply Frame.via (State.writeGrid_frame _ _ _) (by decide)
    | with_reducible apply Frame.via (State.linkOff_frame _ _) (by decide)
    | with_reducible apply Frame.via (State.writeLgcId_frame _ _ _) (by decide)
    | with_reducible apply Frame.via (State.writeFence_frame _ _ _) (by decide)
    | with_reducible apply Frame.via (State.clrLinkCounts_frame _ _) (by decide)
    | with_reducible apply Frame.via (State.writeChip_frame _ _ _) (by decide)
    | with_reducible apply Frame.via (State.popInbox_frame _ _) (by decide)
    | with_reducible apply Frame.via (State.linkStart_frame _ _) (by decide)
    | split

theorem State.clrUpcount_frame (s0 : State) (a1 : Nat) : Frame [.regs] s0 (State.clrUpcount s0 a1) := by
  unfold State.clrUpcount
  repeat' first
    | with_reducible assumption
    | intro _
    | (extract_lets -merge +onlyGivenNames x; refine (have hx : Frame [.regs] s0 x := ?_; ?_); rotate_left; clear_value x; rotate_left; subst x)
    | (extract_lets -merge +onlyGivenNames x; clear_value x)
    | with_reducible exact Frame.refl _ _
    | with_reducible apply Frame.ite
    | with_reducible apply Frame.foldl
    | with_reducible apply Frame.via (State.setF_frame _ _ _ _ _) (by decide)
    | split

theorem State.peakF_frame (s0 : State) (a1 : Reg) (a2 : List Nat) (a3 : Fld) (a4 : Nat) : Frame [.regs] s0 (State.peakF s0 a1 a2 a3 a4) := by
  unfold State.peakF
  repeat' first
    | with_reducible assumption
    | intro _
    | (extract_lets -merge +onlyGivenNames x; refine (have hx : Frame [.regs] s0 x := ?_; ?_); rotate_left; clear_value x; rotate_left; subst x)
    | (extract_lets -merge +onlyGivenNames x; clear_value x)
    | with_reducible exact Frame.refl _ _
    | with_reducible apply Frame.ite
    | with_reducible apply Frame.foldl
    | with_reducible apply Frame.via (State.setF_frame _ _ _ _ _) (by decide)
    | split

theorem State.edge_frame (s0 : State) (a1 : Nat) : Frame [.icu] s0 (State.edge s0 a1) := by
  unfold State.edge
  repeat' first
    | with_reducible assumption
    | intro _
    | (extract_lets -merge +onlyGivenNames x; refine (have hx : Frame [.icu] s0 x := ?_; ?_); rotate_left; clear_value x; rotate_left; subst x)
    | (extract_lets -merge +onlyGivenNames x; clear_value x)
    | with_reducible exact Frame.refl _ _
    | with_reducible apply Frame.ite
    | with_reducible apply Frame.foldl
    | split
    | with_reducible apply Frame.set_icu _ (by decide)

theorem State.setEthPort_frame (s0 : State) (a1 : Nat) (a2 : EthPort) : Frame [.eth] s0 (State.setEthPort s0 a1 a2) := by
  unfold State.setEthPort
  repeat' first
    | with_reducible assumption
    | intro _
    | (extract_lets -merge +onlyGivenNames x; refine (have hx : Frame [.eth] s0 x := ?_; ?_); rotate_left; clear_value x; rotate_left; subst x)
    | (extract_lets -merge +onlyGivenNames x; clear_value x)
    | with_reducible exact Frame.refl _ _
    | with_reducible apply Frame.ite
    | with_reducible apply Frame.foldl
    | split
    | with_reducible apply Frame.set_eth _ (by decide)

theorem State.xoffDue_frame (s0 : State) (a1 : Nat) (a2 : Nat) : Frame [.eth] s0 (State.xoffDue s0 a1 a2) := by
  unfold State.xoffDue
  repeat' first
    | with_reducible assumption
    | intro _
    | (extract_lets -merge +onlyGivenNames x; refine (have hx : Frame [.eth] s0 x := ?_; ?_); rotate_left; clear_value x; rotate_left; subst x)
    | (extract_lets -merge +onlyGivenNames x; clear_value x)
    | with_reducible exact Frame.refl _ _
    | with_reducible apply Frame.ite
    | with_reducible apply Frame.foldl
    | with_reducible apply Frame.via (State.setEthPort_frame _ _ _) (by decide)
    | split

theorem State.setXoff_frame (s0 : State) (a1 : Nat) (a2 : Nat) (a3 : Bool) : Frame [.regs] s0 (State.setXoff s0 a1 a2 a3) := by
  unfold State.setXoff
  repeat' first
    | with_reducible assumption
    | intro _
    | (extract_lets -merge +onlyGivenNames x; refine (have hx : Frame [.regs] s0 x := ?_; ?_); rotate_left; clear_value x; rotate_left; subst x)
    | (extract_lets -merge +onlyGivenNames x; clear_value x)
    | with_reducible exact Frame.refl _ _
    | with_reducible apply Frame.ite
    | with_reducible apply Frame.foldl
    | with_reducible apply Frame.via (State.setF_frame _ _ _ _ _) (by decide)
    | split

theorem State.xonDue_frame (s0 : State) (a1 : Nat) (a2 : Nat) : Frame [.eth] s0 (State.xonDue s0 a1 a2) := by
  unfold State.xonDue
  repeat' first
    | with_reducible assumption
    | intro _
    | (extract_lets -merge +onlyGivenNames x; refine (have hx : Frame [.eth] s0 x := ?_; ?_); rotate_left; clear_value x; rotate_left; subst x)
    | (extract_lets -merge +onlyGivenNames x; clear_value x)
    | with_reducible exact Frame.refl _ _
    | with_reducible apply Frame.ite
    | with_reducible apply Frame.foldl
    | with_reducible apply Frame.via (State.setEthPort_frame _ _ _) (by decide)
    | split

theorem State.ethNotice_frame (s0 : State) (a1 : Nat) (a2 : Bool) (a3 : Bool) : Frame [.regs, .eth] s0 (State.ethNotice s0 a1 a2 a3) := by
  unfold State.ethNotice
  repeat' first
    | with_reducible assumption
    | intro _
    | (extract_lets -merge +onlyGivenNames x; refine (have hx : Frame [.regs, .eth] s0 x := ?_; ?_); rotate_left; clear_value x; rotate_left; subst x)
    | (extract_lets -merge +onlyGivenNames x; clear_value x)
    | with_reducible exact Frame.refl _ _
    | with_reducible apply Frame.ite
    | with_reducible apply Frame.foldl
    | with_reducible apply Frame.via (State.xoffDue_frame _ _ _) (by decide)
    | with_reducible apply Frame.via (State.setXoff_frame _ _ _ _) (by decide)
    | with_reducible apply Frame.via (State.xonDue_frame _ _ _) (by decide)
    | split

theorem State.noticeUpdate_frame (s0 : State) (a1 : Nat) (a2 : Nat) (a3 : Nat) (a4 : Nat) : Frame [.regs, .eth, .arb, .icu] s0 (State.noticeUpdate s0 a1 a2 a3 a4) := by
  unfold State.noticeUpdate
  repeat' first
    | with_reducible assumption
    | intro _
    | (extract_lets -merge +onlyGivenNames x; refine (have hx : Frame [.regs, .eth, .arb, .icu] s0 x := ?_; ?_); rotate_left; clear_value x; rotate_left; subst x)
    | (extract_lets -merge +onlyGivenNames x; clear_value x)
    | with_reducible exact Frame.refl _ _
    | with_reducible apply Frame.ite
    | with_reducible apply Frame.foldl
    | with_reducible apply Frame.via (State.setF_frame _ _ _ _ _) (by decide)
    | with_reducible apply Frame.via (State.setBit_frame _ _ _ _) (by decide)
    | with_reducible apply Frame.via (State.setLogged_frame _ _ _ _ _) (by decide)
    | with_reducible apply Frame.via (State.incF_frame _ _ _ _ _) (by decide)
    | with_reducible apply Frame.via (State.peakF_frame _ _ _ _ _) (by decide)
    | with_reducible apply Frame.via (State.edge_frame _ _) (by decide)
    | with_reducible apply Frame.via (State.ethNotice_frame _ _ _ _) (by decide)
    | split

theorem State.writeMarks_frame (s0 : State) (a1 : Nat) (a2 : Nat) (a3 : Word) : Frame [.regs, .eth, .arb, .icu] s0 (State.writeMarks s0 a1 a2 a3) := by
  unfold State.writeMarks
  repeat' first
    | with_reducible assumption
    | intro _
    | (extract_lets -merge +onlyGivenNames x; refine (have hx : Frame [.regs, .eth, .arb, .icu] s0 x := ?_; ?_); rotate_left; clear_value x; rotate_left; subst x)
    | (extract_lets -merge +onlyGivenNames x; clear_value x)
    | with_reducible exact Frame.refl _ _
    | with_reducible apply Frame.ite
    | with_reducible apply Frame.foldl
    | with_reducible apply Frame.via (State.setReg_frame _ _ _ _) (by decide)
    | with_reducible apply Frame.via (State.setBit_frame _ _ _ _) (by decide)
    | with_reducible apply Frame.via (State.noticeUpdate_frame _ _ _ _ _) (by decide)
    | split

theorem State.writeLevel_frame (s0 : State) (a1 : Nat) (a2 : Nat) : Frame [.regs, .eth, .arb, .icu] s0 (State.writeLevel s0 a1 a2) := by
  unfold State.writeLevel
  repeat' first
    | with_reducible assumption
    | intro _
    | (extract_lets -merge +onlyGivenNames x; refine (have hx : Frame [.regs, .eth, .arb, .icu] s0 x := ?_; ?_); rotate_left; clear_value x; rotate_left; subst x)
    | (extract_lets -merge +onlyGivenNames x; clear_value x)
    | with_reducible exact Frame.refl _ _
    | with_reducible apply Frame.ite
    | with_reducible apply Frame.foldl
    | with_reducible apply Frame.via (State.noticeUpdate_frame _ _ _ _ _) (by decide)
    | split

theorem State.writeNotice_frame (s0 : State) (a1 : RegWrite) : Frame [.regs, .eth, .arb, .icu] s0 (State.writeNotice s0 a1) := by
  unfold State.writeNotice
  repeat' first
    | with_reducible assumption
    | intro _
    | (extract_lets -merge +onlyGivenNames x; refine (have hx : Frame [.regs, .eth, .arb, .icu] s0 x := ?_; ?_); rotate_left; clear_value x; rotate_left; subst x)
    | (extract_lets -merge +onlyGivenNames x; clear_value x)
    | with_reducible exact Frame.refl _ _
    | with_reducible apply Frame.ite
    | with_reducible apply Frame.foldl
    | with_reducible apply Frame.via (State.plainWrite_frame _ _ _) (by decide)
    | with_reducible apply Frame.via (State.clrUpcount_frame _ _) (by decide)
    | with_reducible apply Frame.via (State.writeMarks_frame _ _ _ _) (by decide)
    | with_reducible apply Frame.via (State.writeLevel_frame _ _ _) (by decide)
    | split

theorem State.telClear_frame (s0 : State) : Frame [.regs] s0 (State.telClear s0) := by
  unfold State.telClear
  repeat' first
    | with_reducible assumption
    | intro _
    | (extract_lets -merge +onlyGivenNames x; refine (have hx : Frame [.regs] s0 x := ?_; ?_); rotate_left; clear_value x; rotate_left; subst x)
    | (extract_lets -merge +onlyGivenNames x; clear_value x)
    | with_reducible exact Frame.refl _ _
    | with_reducible apply Frame.ite
    | with_reducible apply Frame.foldl
    | split
    | with_reducible apply Frame.set_regs _ (by decide) (fun h => by first | exact h | exact Registers.wf_tput h | exact Registers.wf_tclear h | exact Registers.wf_nil)

theorem State.writeGlobal_frame (s0 : State) (a1 : RegWrite) : Frame [.regs] s0 (State.writeGlobal s0 a1) := by
  unfold State.writeGlobal
  repeat' first
    | with_reducible assumption
    | intro _
    | (extract_lets -merge +onlyGivenNames x; refine (have hx : Frame [.regs] s0 x := ?_; ?_); rotate_left; clear_value x; rotate_left; subst x)
    | (extract_lets -merge +onlyGivenNames x; clear_value x)
    | with_reducible exact Frame.refl _ _
    | with_reducible apply Frame.ite
    | with_reducible apply Frame.foldl
    | with_reducible apply Frame.via (State.plainWrite_frame _ _ _) (by decide)
    | with_reducible apply Frame.via (State.clearsWith_frame _ _ _ _ _) (by decide)
    | with_reducible apply Frame.via (State.telClear_frame _) (by decide)
    | split

theorem State.setPort_frame (s0 : State) (a1 : Nat) (a2 : MemPort) : Frame [.ports] s0 (State.setPort s0 a1 a2) := by
  unfold State.setPort
  repeat' first
    | with_reducible assumption
    | intro _
    | (extract_lets -merge +onlyGivenNames x; refine (have hx : Frame [.ports] s0 x := ?_; ?_); rotate_left; clear_value x; rotate_left; subst x)
    | (extract_lets -merge +onlyGivenNames x; clear_value x)
    | with_reducible exact Frame.refl _ _
    | with_reducible apply Frame.ite
    | with_reducible apply Frame.foldl
    | split
    | with_reducible apply Frame.set_ports _ (by decide)

theorem State.clrQueueCounts_frame (s0 : State) (a1 : Nat) : Frame [.regs] s0 (State.clrQueueCounts s0 a1) := by
  unfold State.clrQueueCounts
  repeat' first
    | with_reducible assumption
    | intro _
    | (extract_lets -merge +onlyGivenNames x; refine (have hx : Frame [.regs] s0 x := ?_; ?_); rotate_left; clear_value x; rotate_left; subst x)
    | (extract_lets -merge +onlyGivenNames x; clear_value x)
    | with_reducible exact Frame.refl _ _
    | with_reducible apply Frame.ite
    | with_reducible apply Frame.foldl
    | with_reducible apply Frame.via (State.setReg_frame _ _ _ _) (by decide)
    | split

theorem State.setQueue_frame (s0 : State) (a1 : Nat) (a2 : Nat) (a3 : List QReq) : Frame [.queues] s0 (State.setQueue s0 a1 a2 a3) := by
  unfold State.setQueue
  repeat' first
    | with_reducible assumption
    | intro _
    | (extract_lets -merge +onlyGivenNames x; refine (have hx : Frame [.queues] s0 x := ?_; ?_); rotate_left; clear_value x; rotate_left; subst x)
    | (extract_lets -merge +onlyGivenNames x; clear_value x)
    | with_reducible exact Frame.refl _ _
    | with_reducible apply Frame.ite
    | with_reducible apply Frame.foldl
    | split
    | with_reducible apply Frame.set_queues _ (by decide)

theorem State.mapQueue_frame (s0 : State) (a1 : Nat) (a2 : Nat) (a3 : QReq → Bool) (a4 : QReq → QReq) : Frame [.queues] s0 (State.mapQueue s0 a1 a2 a3 a4) := by
  unfold State.mapQueue
  repeat' first
    | with_reducible assumption
    | intro _
    | (extract_lets -merge +onlyGivenNames x; refine (have hx : Frame [.queues] s0 x := ?_; ?_); rotate_left; clear_value x; rotate_left; subst x)
    | (extract_lets -merge +onlyGivenNames x; clear_value x)
    | with_reducible exact Frame.refl _ _
    | with_reducible apply Frame.ite
    | with_reducible apply Frame.foldl
    | with_reducible apply Frame.via (State.setQueue_frame _ _ _ _) (by decide)
    | split

theorem State.retryHeld_frame (s0 : State) (a1 : Nat) : Frame [.queues] s0 (State.retryHeld s0 a1) := by
  unfold State.retryHeld
  repeat' first
    | with_reducible assumption
    | intro _
    | (extract_lets -merge +onlyGivenNames x; refine (have hx : Frame [.queues] s0 x := ?_; ?_); rotate_left; clear_value x; rotate_left; subst x)
    | (extract_lets -merge +onlyGivenNames x; clear_value x)
    | with_reducible exact Frame.refl _ _
    | with_reducible apply Frame.ite
    | with_reducible apply Frame.foldl
    | with_reducible apply Frame.via (State.mapQueue_frame _ _ _ _ _) (by decide)
    | split

theorem State.writeMemReg_frame (s0 : State) (a1 : RegWrite) : Frame [.regs, .queues, .ports] s0 (State.writeMemReg s0 a1) := by
  unfold State.writeMemReg
  repeat' first
    | with_reducible assumption
    | intro _
    | (extract_lets -merge +onlyGivenNames x; refine (have hx : Frame [.regs, .queues, .ports] s0 x := ?_; ?_); rotate_left; clear_value x; rotate_left; subst x)
    | (extract_lets -merge +onlyGivenNames x; clear_value x)
    | with_reducible exact Frame.refl _ _
    | with_reducible apply Frame.ite
    | with_reducible apply Frame.foldl
    | with_reducible apply Frame.via (State.atLeast1_frame _ _ _ _) (by decide)
    | with_reducible apply Frame.via (State.plainWrite_frame _ _ _) (by decide)
    | with_reducible apply Frame.via (State.clearsWith_frame _ _ _ _ _) (by decide)
    | with_reducible apply Frame.via (State.setPort_frame _ _ _) (by decide)
    | with_reducible apply Frame.via (State.clrQueueCounts_frame _ _) (by decide)
    | with_reducible apply Frame.via (State.retryHeld_frame _ _) (by decide)
    | split

theorem State.throttle_frame (s0 : State) (a1 : Nat) : Frame [.regs, .arb] s0 (State.throttle s0 a1) := by
  unfold State.throttle
  repeat' first
    | with_reducible assumption
    | intro _
    | (extract_lets -merge +onlyGivenNames x; refine (have hx : Frame [.regs, .arb] s0 x := ?_; ?_); rotate_left; clear_value x; rotate_left; subst x)
    | (extract_lets -merge +onlyGivenNames x; clear_value x)
    | with_reducible exact Frame.refl _ _
    | with_reducible apply Frame.ite
    | with_reducible apply Frame.foldl
    | with_reducible apply Frame.via (State.setF_frame _ _ _ _ _) (by decide)
    | with_reducible apply Frame.via (State.setLogged_frame _ _ _ _ _) (by decide)
    | split

theorem State.clrReg_frame (s0 : State) (a1 : Reg) (a2 : List Nat) : Frame [.regs] s0 (State.clrReg s0 a1 a2) := by
  unfold State.clrReg
  repeat' first
    | with_reducible assumption
    | intro _
    | (extract_lets -merge +onlyGivenNames x; refine (have hx : Frame [.regs] s0 x := ?_; ?_); rotate_left; clear_value x; rotate_left; subst x)
    | (extract_lets -merge +onlyGivenNames x; clear_value x)
    | with_reducible exact Frame.refl _ _
    | with_reducible apply Frame.ite
    | with_reducible apply Frame.foldl
    | split
    | with_reducible apply Frame.set_regs _ (by decide) (fun h => by first | exact h | exact Registers.wf_tput h | exact Registers.wf_tclear h | exact Registers.wf_nil)

theorem State.coldBase_frame (s0 : State) :
    Frame [.regs, .mem, .tempo, .dieBase, .aligns, .links, .cond, .patches, .press, .sects, .queues, .qseq, .ports, .lk, .seams,
      .legacy, .score, .tacks, .books, .eth, .unison, .arb, .icu, .front, .sm, .smb, .fw, .pwr] s0 s0.coldBase := by
  refine ⟨fun p hp => ?_, fun h => tok_tclear 0 _ h, fun _ => rfl⟩
  cases p <;> first | rfl | exact absurd (by decide) hp

theorem State.coldReset_frame (s0 : State) (a1 : Fld) : Frame [.regs, .mem, .tempo, .dieBase, .aligns, .links, .cond, .patches, .press, .sects, .queues, .qseq, .ports, .lk, .seams, .legacy, .score, .tacks, .books, .eth, .unison, .arb, .icu, .front, .sm, .smb, .fw, .pwr] s0 (State.coldReset s0 a1) := by
  unfold State.coldReset
  repeat' first
    | with_reducible assumption
    | intro _
    | (extract_lets -merge +onlyGivenNames x; refine (have hx : Frame [.regs, .mem, .tempo, .dieBase, .aligns, .links, .cond, .patches, .press, .sects, .queues, .qseq, .ports, .lk, .seams, .legacy, .score, .tacks, .books, .eth, .unison, .arb, .icu, .front, .sm, .smb, .fw, .pwr] s0 x := ?_; ?_); rotate_left; clear_value x; rotate_left; subst x)
    | (extract_lets -merge +onlyGivenNames x; clear_value x)
    | with_reducible exact Frame.refl _ _
    | with_reducible apply Frame.ite
    | with_reducible apply Frame.foldl
    | with_reducible apply Frame.via (State.setReg_frame _ _ _ _) (by decide)
    | with_reducible apply Frame.via (State.setF_frame _ _ _ _ _) (by decide)
    | with_reducible apply Frame.via (State.linkSources_frame _) (by decide)
    | with_reducible apply Frame.via (State.clrReg_frame _ _ _) (by decide)
    | with_reducible apply Frame.via (State.coldBase_frame _) (by decide)
    | split
    | with_reducible apply Frame.set_arb_icu _ _ (by decide) (by decide)

theorem State.writeRstCold_frame (s0 : State) (a1 : Who) (a2 : Nat) : Frame [.regs, .mem, .tempo, .dieBase, .aligns, .links, .cond, .patches, .press, .sects, .queues, .qseq, .ports, .lk, .seams, .legacy, .score, .tacks, .books, .eth, .unison, .arb, .icu, .front, .sm, .smb, .fw, .pwr] s0 (State.writeRstCold s0 a1 a2) := by
  unfold State.writeRstCold
  repeat' first
    | with_reducible assumption
    | intro _
    | (extract_lets -merge +onlyGivenNames x; refine (have hx : Frame [.regs, .mem, .tempo, .dieBase, .aligns, .links, .cond, .patches, .press, .sects, .queues, .qseq, .ports, .lk, .seams, .legacy, .score, .tacks, .books, .eth, .unison, .arb, .icu, .front, .sm, .smb, .fw, .pwr] s0 x := ?_; ?_); rotate_left; clear_value x; rotate_left; subst x)
    | (extract_lets -merge +onlyGivenNames x; clear_value x)
    | with_reducible exact Frame.refl _ _
    | with_reducible apply Frame.ite
    | with_reducible apply Frame.foldl
    | with_reducible apply Frame.via (State.coldReset_frame _ _) (by decide)
    | split

theorem State.linkRetrain_frame (s0 : State) (a1 : Nat) (a2 : Bool) : Frame [.regs, .lk, .legacy, .arb, .pwr] s0 (State.linkRetrain s0 a1 a2) := by
  unfold State.linkRetrain
  repeat' first
    | with_reducible assumption
    | intro _
    | (extract_lets -merge +onlyGivenNames x; refine (have hx : Frame [.regs, .lk, .legacy, .arb, .pwr] s0 x := ?_; ?_); rotate_left; clear_value x; rotate_left; subst x)
    | (extract_lets -merge +onlyGivenNames x; clear_value x)
    | with_reducible exact Frame.refl _ _
    | with_reducible apply Frame.ite
    | with_reducible apply Frame.foldl
    | with_reducible apply Frame.via (State.setBit_frame _ _ _ _) (by decide)
    | with_reducible apply Frame.via (State.incF_frame _ _ _ _ _) (by decide)
    | with_reducible apply Frame.via (State.startTraining_frame _ _ _) (by decide)
    | with_reducible apply Frame.via (State.linkLeave_frame _ _ _) (by decide)
    | split

theorem State.writeFwdCfg_frame (s0 : State) (a1 : Nat) : Frame [.regs, .lk, .legacy, .arb, .pwr] s0 (State.writeFwdCfg s0 a1) := by
  unfold State.writeFwdCfg
  repeat' first
    | with_reducible assumption
    | intro _
    | (extract_lets -merge +onlyGivenNames x; refine (have hx : Frame [.regs, .lk, .legacy, .arb, .pwr] s0 x := ?_; ?_); rotate_left; clear_value x; rotate_left; subst x)
    | (extract_lets -merge +onlyGivenNames x; clear_value x)
    | with_reducible exact Frame.refl _ _
    | with_reducible apply Frame.ite
    | with_reducible apply Frame.foldl
    | with_reducible apply Frame.via (State.setReg_frame _ _ _ _) (by decide)
    | with_reducible apply Frame.via (State.refSet_frame _ _) (by decide)
    | with_reducible apply Frame.via (State.refSettle_frame _) (by decide)
    | with_reducible apply Frame.via (State.linkSources_frame _) (by decide)
    | with_reducible apply Frame.via (State.linkRetrain_frame _ _ _) (by decide)
    | split
    | with_reducible apply Frame.set_pwr _ (by decide)

theorem State.writeMem_frame (s0 : State) (a1 : Nat) (a2 : List Byte) : Frame [.mem] s0 (State.writeMem s0 a1 a2) := by
  unfold State.writeMem
  repeat' first
    | with_reducible assumption
    | intro _
    | (extract_lets -merge +onlyGivenNames x; refine (have hx : Frame [.mem] s0 x := ?_; ?_); rotate_left; clear_value x; rotate_left; subst x)
    | (extract_lets -merge +onlyGivenNames x; clear_value x)
    | with_reducible exact Frame.refl _ _
    | with_reducible apply Frame.ite
    | with_reducible apply Frame.foldl
    | split
    | with_reducible apply Frame.set_mem _ (by decide) (fun h => by first | exact h | exact Memory.wf_putBytes h | exact Memory.wf_putBoard h | exact Memory.wf_replayBoards h | exact Memory.wf_tclear h | rfl)

theorem State.sliceUnwrap_frame (s0 : State) (a1 : KeySlot) (a2 : Nat) (a3 : Nat) : Frame [.mem] s0 (State.sliceUnwrap s0 a1 a2 a3).1 := by
  unfold State.sliceUnwrap
  repeat' first
    | with_reducible assumption
    | intro _
    | (extract_lets -merge +onlyGivenNames x; refine (have hx : Frame [.mem] s0 x := ?_; ?_); rotate_left; clear_value x; rotate_left; subst x)
    | (extract_lets -merge +onlyGivenNames x; clear_value x)
    | with_reducible exact Frame.refl _ _
    | with_reducible apply Frame.ite
    | with_reducible apply Frame.foldl
    | with_reducible apply Frame.via (State.writeMem_frame _ _ _) (by decide)
    | split

theorem State.setSm_frame (s0 : State) (a1 : Sm) : Frame [.sm] s0 (State.setSm s0 a1) := by
  unfold State.setSm
  repeat' first
    | with_reducible assumption
    | intro _
    | (extract_lets -merge +onlyGivenNames x; refine (have hx : Frame [.sm] s0 x := ?_; ?_); rotate_left; clear_value x; rotate_left; subst x)
    | (extract_lets -merge +onlyGivenNames x; clear_value x)
    | with_reducible exact Frame.refl _ _
    | with_reducible apply Frame.ite
    | with_reducible apply Frame.foldl
    | split
    | with_reducible apply Frame.set_sm _ (by decide)

theorem State.setStore_frame (s0 : State) (a1 : SmStore) : Frame [.sm] s0 (State.setStore s0 a1) := by
  unfold State.setStore
  repeat' first
    | with_reducible assumption
    | intro _
    | (extract_lets -merge +onlyGivenNames x; refine (have hx : Frame [.sm] s0 x := ?_; ?_); rotate_left; clear_value x; rotate_left; subst x)
    | (extract_lets -merge +onlyGivenNames x; clear_value x)
    | with_reducible exact Frame.refl _ _
    | with_reducible apply Frame.ite
    | with_reducible apply Frame.foldl
    | with_reducible apply Frame.via (State.setSm_frame _ _) (by decide)
    | split

theorem State.useFree_frame (s0 : State) (a1 : Nat) : Frame [.free] s0 (State.useFree s0 a1) := by
  unfold State.useFree
  repeat' first
    | with_reducible assumption
    | intro _
    | (extract_lets -merge +onlyGivenNames x; refine (have hx : Frame [.free] s0 x := ?_; ?_); rotate_left; clear_value x; rotate_left; subst x)
    | (extract_lets -merge +onlyGivenNames x; clear_value x)
    | with_reducible exact Frame.refl _ _
    | with_reducible apply Frame.ite
    | with_reducible apply Frame.foldl
    | split
    | with_reducible apply Frame.set_free _ (by decide)

theorem State.fillKey_frame (s0 : State) (a1 : Nat) (a2 : Nat) (a3 : List Byte) : Frame [.sm, .free] s0 (State.fillKey s0 a1 a2 a3).1 := by
  unfold State.fillKey
  repeat' first
    | with_reducible assumption
    | intro _
    | (extract_lets -merge +onlyGivenNames x; refine (have hx : Frame [.sm, .free] s0 x := ?_; ?_); rotate_left; clear_value x; rotate_left; subst x)
    | (extract_lets -merge +onlyGivenNames x; clear_value x)
    | with_reducible exact Frame.refl _ _
    | with_reducible apply Frame.ite
    | with_reducible apply Frame.foldl
    | with_reducible apply Frame.via (State.setSm_frame _ _) (by decide)
    | with_reducible apply Frame.via (State.useFree_frame _ _) (by decide)
    | split

theorem State.sliceWrap_frame (s0 : State) (a1 : Nat) (a2 : KeySlot) (a3 : Nat) (a4 : Nat) : Frame [.mem, .sm] s0 (State.sliceWrap s0 a1 a2 a3 a4).1 := by
  unfold State.sliceWrap
  repeat' first
    | with_reducible assumption
    | intro _
    | (extract_lets -merge +onlyGivenNames x; refine (have hx : Frame [.mem, .sm] s0 x := ?_; ?_); rotate_left; clear_value x; rotate_left; subst x)
    | (extract_lets -merge +onlyGivenNames x; clear_value x)
    | with_reducible exact Frame.refl _ _
    | with_reducible apply Frame.ite
    | with_reducible apply Frame.foldl
    | with_reducible apply Frame.via (State.writeMem_frame _ _ _) (by decide)
    | with_reducible apply Frame.via (State.setSm_frame _ _) (by decide)
    | split

theorem State.runKeySvc_frame (s0 : State) (a1 : Cmd) : Frame [.mem, .sm, .free] s0 (State.runKeySvc s0 a1).1 := by
  unfold State.runKeySvc
  repeat' first
    | with_reducible assumption
    | intro _
    | (extract_lets -merge +onlyGivenNames x; refine (have hx : Frame [.mem, .sm, .free] s0 x := ?_; ?_); rotate_left; clear_value x; rotate_left; subst x)
    | (extract_lets -merge +onlyGivenNames x; refine (have hx : Frame [.mem, .sm, .free] s0 x.1 := ?_; ?_); rotate_left; clear_value x; rotate_left; subst x)
    | (extract_lets -merge +onlyGivenNames x; refine (have hf : _ → _ := x; ?_); clear hf; subst x)
    | (extract_lets -merge +onlyGivenNames x; clear_value x)
    | with_reducible exact Frame.refl _ _
    | with_reducible apply Frame.ite
    | with_reducible apply Frame.ite1
    | with_reducible apply Frame.foldl
    | with_reducible apply Frame.foldl1
    | with_reducible apply Frame.idf
    | with_reducible apply Frame.via (State.sliceUnwrap_frame _ _ _ _) (by decide)
    | with_reducible apply Frame.via (State.setSm_frame _ _) (by decide)
    | with_reducible apply Frame.via (State.setStore_frame _ _) (by decide)
    | with_reducible apply Frame.via (State.useFree_frame _ _) (by decide)
    | with_reducible apply Frame.via (State.fillKey_frame _ _ _ _) (by decide)
    | with_reducible apply Frame.via (State.sliceWrap_frame _ _ _ _ _) (by decide)
    | with_reducible refine Frame.via (Frame.of_eq1 (State.sliceUnwrap_frame _ _ _ _) (by assumption)) (by decide) ?_
    | with_reducible refine Frame.via (Frame.of_eq1 (State.fillKey_frame _ _ _ _) (by assumption)) (by decide) ?_
    | with_reducible refine Frame.via (Frame.of_eq1 (State.sliceWrap_frame _ _ _ _ _) (by assumption)) (by decide) ?_
    | split

theorem State.closeSessions_frame (s0 : State) : Frame [.sm] s0 (State.closeSessions s0) := by
  unfold State.closeSessions
  repeat' first
    | with_reducible assumption
    | intro _
    | (extract_lets -merge +onlyGivenNames x; refine (have hx : Frame [.sm] s0 x := ?_; ?_); rotate_left; clear_value x; rotate_left; subst x)
    | (extract_lets -merge +onlyGivenNames x; clear_value x)
    | with_reducible exact Frame.refl _ _
    | with_reducible apply Frame.ite
    | with_reducible apply Frame.foldl
    | with_reducible apply Frame.via (State.setSm_frame _ _) (by decide)
    | split

theorem State.wipeKeys_frame (s0 : State) (a1 : KeySlot → Bool) : Frame [.sm] s0 (State.wipeKeys s0 a1) := by
  unfold State.wipeKeys
  repeat' first
    | with_reducible assumption
    | intro _
    | (extract_lets -merge +onlyGivenNames x; refine (have hx : Frame [.sm] s0 x := ?_; ?_); rotate_left; clear_value x; rotate_left; subst x)
    | (extract_lets -merge +onlyGivenNames x; clear_value x)
    | with_reducible exact Frame.refl _ _
    | with_reducible apply Frame.ite
    | with_reducible apply Frame.foldl
    | with_reducible apply Frame.via (State.setSm_frame _ _) (by decide)
    | split

theorem State.wipeSecrets_frame (s0 : State) : Frame [.sm] s0 (State.wipeSecrets s0) := by
  unfold State.wipeSecrets
  repeat' first
    | with_reducible assumption
    | intro _
    | (extract_lets -merge +onlyGivenNames x; refine (have hx : Frame [.sm] s0 x := ?_; ?_); rotate_left; clear_value x; rotate_left; subst x)
    | (extract_lets -merge +onlyGivenNames x; clear_value x)
    | with_reducible exact Frame.refl _ _
    | with_reducible apply Frame.ite
    | with_reducible apply Frame.foldl
    | with_reducible apply Frame.via (State.setSm_frame _ _) (by decide)
    | with_reducible apply Frame.via (State.wipeKeys_frame _ _) (by decide)
    | split

theorem State.wipeSas_frame (s0 : State) : Frame [.eth] s0 (State.wipeSas s0) := by
  unfold State.wipeSas
  repeat' first
    | with_reducible assumption
    | intro _
    | (extract_lets -merge +onlyGivenNames x; refine (have hx : Frame [.eth] s0 x := ?_; ?_); rotate_left; clear_value x; rotate_left; subst x)
    | (extract_lets -merge +onlyGivenNames x; clear_value x)
    | with_reducible exact Frame.refl _ _
    | with_reducible apply Frame.ite
    | with_reducible apply Frame.foldl
    | split
    | with_reducible apply Frame.set_eth _ (by decide)

theorem State.smEvent_frame (s0 : State) (a1 : Fld) : Frame [.regs, .arb] s0 (State.smEvent s0 a1) := by
  unfold State.smEvent
  repeat' first
    | with_reducible assumption
    | intro _
    | (extract_lets -merge +onlyGivenNames x; refine (have hx : Frame [.regs, .arb] s0 x := ?_; ?_); rotate_left; clear_value x; rotate_left; subst x)
    | (extract_lets -merge +onlyGivenNames x; clear_value x)
    | with_reducible exact Frame.refl _ _
    | with_reducible apply Frame.ite
    | with_reducible apply Frame.foldl
    | with_reducible apply Frame.via (State.setLogged_frame _ _ _ _ _) (by decide)
    | split

theorem State.setSmState_frame (s0 : State) (a1 : Nat) : Frame [.regs] s0 (State.setSmState s0 a1) := by
  unfold State.setSmState
  repeat' first
    | with_reducible assumption
    | intro _
    | (extract_lets -merge +onlyGivenNames x; refine (have hx : Frame [.regs] s0 x := ?_; ?_); rotate_left; clear_value x; rotate_left; subst x)
    | (extract_lets -merge +onlyGivenNames x; clear_value x)
    | with_reducible exact Frame.refl _ _
    | with_reducible apply Frame.ite
    | with_reducible apply Frame.foldl
    | with_reducible apply Frame.via (State.setF_frame _ _ _ _ _) (by decide)
    | split

theorem State.hardError_frame (s0 : State) (a1 : Nat) : Frame [.regs, .eth, .arb, .sm] s0 (State.hardError s0 a1) := by
  unfold State.hardError
  repeat' first
    | with_reducible assumption
    | intro _
    | (extract_lets -merge +onlyGivenNames x; refine (have hx : Frame [.regs, .eth, .arb, .sm] s0 x := ?_; ?_); rotate_left; clear_value x; rotate_left; subst x)
    | (extract_lets -merge +onlyGivenNames x; clear_value x)
    | with_reducible exact Frame.refl _ _
    | with_reducible apply Frame.ite
    | with_reducible apply Frame.foldl
    | with_reducible apply Frame.via (State.setF_frame _ _ _ _ _) (by decide)
    | with_reducible apply Frame.via (State.closeSessions_frame _) (by decide)
    | with_reducible apply Frame.via (State.wipeSecrets_frame _) (by decide)
    | with_reducible apply Frame.via (State.wipeSas_frame _) (by decide)
    | with_reducible apply Frame.via (State.smEvent_frame _ _) (by decide)
    | with_reducible apply Frame.via (State.setSmState_frame _ _) (by decide)
    | split

theorem State.testsRun_frame (s0 : State) (a1 : Nat) (a2 : Nat) : Frame [.regs] s0 (State.testsRun s0 a1 a2) := by
  unfold State.testsRun
  repeat' first
    | with_reducible assumption
    | intro _
    | (extract_lets -merge +onlyGivenNames x; refine (have hx : Frame [.regs] s0 x := ?_; ?_); rotate_left; clear_value x; rotate_left; subst x)
    | (extract_lets -merge +onlyGivenNames x; clear_value x)
    | with_reducible exact Frame.refl _ _
    | with_reducible apply Frame.ite
    | with_reducible apply Frame.foldl
    | with_reducible apply Frame.via (State.setF_frame _ _ _ _ _) (by decide)
    | split

theorem State.knownAnswers_frame (s0 : State) (a1 : Option Nat) : Frame [.regs, .eth, .arb, .sm] s0 (State.knownAnswers s0 a1) := by
  unfold State.knownAnswers
  repeat' first
    | with_reducible assumption
    | intro _
    | (extract_lets -merge +onlyGivenNames x; refine (have hx : Frame [.regs, .eth, .arb, .sm] s0 x := ?_; ?_); rotate_left; clear_value x; rotate_left; subst x)
    | (extract_lets -merge +onlyGivenNames x; clear_value x)
    | with_reducible exact Frame.refl _ _
    | with_reducible apply Frame.ite
    | with_reducible apply Frame.foldl
    | with_reducible apply Frame.via (State.hardError_frame _ _) (by decide)
    | with_reducible apply Frame.via (State.testsRun_frame _ _ _) (by decide)
    | split

theorem State.loadPolicy_frame (s0 : State) : Frame [.regs] s0 (State.loadPolicy s0) := by
  unfold State.loadPolicy
  repeat' first
    | with_reducible assumption
    | intro _
    | (extract_lets -merge +onlyGivenNames x; refine (have hx : Frame [.regs] s0 x := ?_; ?_); rotate_left; clear_value x; rotate_left; subst x)
    | (extract_lets -merge +onlyGivenNames x; clear_value x)
    | with_reducible exact Frame.refl _ _
    | with_reducible apply Frame.ite
    | with_reducible apply Frame.foldl
    | with_reducible apply Frame.via (State.setF_frame _ _ _ _ _) (by decide)
    | split

theorem State.eraseStore_frame (s0 : State) : Frame [.regs, .sm, .fuses] s0 (State.eraseStore s0) := by
  unfold State.eraseStore
  repeat' first
    | with_reducible assumption
    | intro _
    | (extract_lets -merge +onlyGivenNames x; refine (have hx : Frame [.regs, .sm, .fuses] s0 x := ?_; ?_); rotate_left; clear_value x; rotate_left; subst x)
    | (extract_lets -merge +onlyGivenNames x; clear_value x)
    | with_reducible exact Frame.refl _ _
    | with_reducible apply Frame.ite
    | with_reducible apply Frame.foldl
    | with_reducible apply Frame.via (State.setF_frame _ _ _ _ _) (by decide)
    | with_reducible apply Frame.via (State.setSm_frame _ _) (by decide)
    | split
    | with_reducible apply Frame.set_fuses _ (by decide)

theorem State.seedDrbg_frame (s0 : State) : Frame [.sm, .fuses, .free] s0 (State.seedDrbg s0) := by
  unfold State.seedDrbg
  repeat' first
    | with_reducible assumption
    | intro _
    | (extract_lets -merge +onlyGivenNames x; refine (have hx : Frame [.sm, .fuses, .free] s0 x := ?_; ?_); rotate_left; clear_value x; rotate_left; subst x)
    | (extract_lets -merge +onlyGivenNames x; clear_value x)
    | with_reducible exact Frame.refl _ _
    | with_reducible apply Frame.ite
    | with_reducible apply Frame.foldl
    | with_reducible apply Frame.via (State.setSm_frame _ _) (by decide)
    | with_reducible apply Frame.via (State.useFree_frame _ _) (by decide)
    | split
    | with_reducible apply Frame.set_fuses _ (by decide)

theorem State.zeroize_frame (s0 : State) (a1 : Bool) : Frame [.regs, .eth, .arb, .sm, .fuses, .free] s0 (State.zeroize s0 a1) := by
  unfold State.zeroize
  repeat' first
    | with_reducible assumption
    | intro _
    | (extract_lets -merge +onlyGivenNames x; refine (have hx : Frame [.regs, .eth, .arb, .sm, .fuses, .free] s0 x := ?_; ?_); rotate_left; clear_value x; rotate_left; subst x)
    | (extract_lets -merge +onlyGivenNames x; clear_value x)
    | with_reducible exact Frame.refl _ _
    | with_reducible apply Frame.ite
    | with_reducible apply Frame.foldl
    | with_reducible apply Frame.via (State.closeSessions_frame _) (by decide)
    | with_reducible apply Frame.via (State.wipeSecrets_frame _) (by decide)
    | with_reducible apply Frame.via (State.wipeSas_frame _) (by decide)
    | with_reducible apply Frame.via (State.smEvent_frame _ _) (by decide)
    | with_reducible apply Frame.via (State.eraseStore_frame _) (by decide)
    | with_reducible apply Frame.via (State.seedDrbg_frame _) (by decide)
    | split

theorem State.runOfficerSvc_frame (s0 : State) (a1 : Cmd) : Frame [.regs, .eth, .arb, .sm, .fuses, .free] s0 (State.runOfficerSvc s0 a1).1 := by
  unfold State.runOfficerSvc
  repeat' first
    | with_reducible assumption
    | intro _
    | (extract_lets -merge +onlyGivenNames x; refine (have hx : Frame [.regs, .eth, .arb, .sm, .fuses, .free] s0 x := ?_; ?_); rotate_left; clear_value x; rotate_left; subst x)
    | (extract_lets -merge +onlyGivenNames x; clear_value x)
    | with_reducible exact Frame.refl _ _
    | with_reducible apply Frame.ite
    | with_reducible apply Frame.foldl
    | with_reducible apply Frame.via (State.setF_frame _ _ _ _ _) (by decide)
    | with_reducible apply Frame.via (State.setSm_frame _ _) (by decide)
    | with_reducible apply Frame.via (State.setStore_frame _ _) (by decide)
    | with_reducible apply Frame.via (State.smEvent_frame _ _) (by decide)
    | with_reducible apply Frame.via (State.setSmState_frame _ _) (by decide)
    | with_reducible apply Frame.via (State.loadPolicy_frame _) (by decide)
    | with_reducible apply Frame.via (State.zeroize_frame _ _) (by decide)
    | split
    | with_reducible apply Frame.set_fuses _ (by decide)

theorem State.runSvc_frame (s0 : State) (a1 : Cmd) (a2 : Option Nat) : Frame [.regs, .mem, .eth, .arb, .sm, .fuses, .free] s0 (State.runSvc s0 a1 a2).1 := by
  unfold State.runSvc
  repeat' first
    | with_reducible assumption
    | intro _
    | (extract_lets -merge +onlyGivenNames x; refine (have hx : Frame [.regs, .mem, .eth, .arb, .sm, .fuses, .free] s0 x := ?_; ?_); rotate_left; clear_value x; rotate_left; subst x)
    | (extract_lets -merge +onlyGivenNames x; clear_value x)
    | with_reducible exact Frame.refl _ _
    | with_reducible apply Frame.ite
    | with_reducible apply Frame.foldl
    | with_reducible apply Frame.via (State.setSm_frame _ _) (by decide)
    | with_reducible apply Frame.via (State.runKeySvc_frame _ _) (by decide)
    | with_reducible apply Frame.via (State.knownAnswers_frame _ _) (by decide)
    | with_reducible apply Frame.via (State.runOfficerSvc_frame _ _) (by decide)
    | with_reducible refine Frame.via (Frame.of_eq1 (State.runKeySvc_frame _ _) (by assumption)) (by decide) ?_
    | with_reducible refine Frame.via (Frame.of_eq1 (State.runOfficerSvc_frame _ _) (by assumption)) (by decide) ?_
    | split

theorem State.smService_frame (s0 : State) (a1 : Cmd) (a2 : Option Nat) : Frame [.regs, .mem, .eth, .arb, .sm, .fuses, .free] s0 (State.smService s0 a1 a2).1 := by
  unfold State.smService
  repeat' first
    | with_reducible assumption
    | intro _
    | (extract_lets -merge +onlyGivenNames x; refine (have hx : Frame [.regs, .mem, .eth, .arb, .sm, .fuses, .free] s0 x := ?_; ?_); rotate_left; clear_value x; rotate_left; subst x)
    | (extract_lets -merge +onlyGivenNames x; refine (have hx : Frame [.regs, .mem, .eth, .arb, .sm, .fuses, .free] s0 x.1 := ?_; ?_); rotate_left; clear_value x; rotate_left; subst x)
    | (extract_lets -merge +onlyGivenNames x; refine (have hf : _ → _ := x; ?_); clear hf; subst x)
    | (extract_lets -merge +onlyGivenNames x; clear_value x)
    | with_reducible exact Frame.refl _ _
    | with_reducible apply Frame.ite
    | with_reducible apply Frame.ite1
    | with_reducible apply Frame.foldl
    | with_reducible apply Frame.foldl1
    | with_reducible apply Frame.idf
    | with_reducible apply Frame.via (State.runSvc_frame _ _ _) (by decide)
    | with_reducible refine Frame.via (Frame.of_eq1 (State.runSvc_frame _ _ _) (by assumption)) (by decide) ?_
    | split

theorem State.mbox_frame (s0 : State) (a1 : Cmd) (a2 : Nat) (a3 : List Byte) : Frame [.regs] s0 (State.mbox s0 a1 a2 a3) := by
  unfold State.mbox
  repeat' first
    | with_reducible assumption
    | intro _
    | (extract_lets -merge +onlyGivenNames x; refine (have hx : Frame [.regs] s0 x := ?_; ?_); rotate_left; clear_value x; rotate_left; subst x)
    | (extract_lets -merge +onlyGivenNames x; clear_value x)
    | with_reducible exact Frame.refl _ _
    | with_reducible apply Frame.ite
    | with_reducible apply Frame.foldl
    | with_reducible apply Frame.via (State.setReg_frame _ _ _ _) (by decide)
    | with_reducible apply Frame.via (State.setF_frame _ _ _ _ _) (by decide)
    | with_reducible apply Frame.via (State.setBit_frame _ _ _ _) (by decide)
    | split

theorem State.authFail_frame (s0 : State) (a1 : Via) : Frame [.regs, .arb, .sm] s0 (State.authFail s0 a1) := by
  unfold State.authFail
  repeat' first
    | with_reducible assumption
    | intro _
    | (extract_lets -merge +onlyGivenNames x; refine (have hx : Frame [.regs, .arb, .sm] s0 x := ?_; ?_); rotate_left; clear_value x; rotate_left; subst x)
    | (extract_lets -merge +onlyGivenNames x; clear_value x)
    | with_reducible exact Frame.refl _ _
    | with_reducible apply Frame.ite
    | with_reducible apply Frame.foldl
    | with_reducible apply Frame.via (State.setSm_frame _ _) (by decide)
    | with_reducible apply Frame.via (State.smEvent_frame _ _) (by decide)
    | split

theorem State.challenge_frame (s0 : State) (a1 : Via) (a2 : Nat) (a3 : Nat) : Frame [.sm, .free] s0 (State.challenge s0 a1 a2 a3).1 := by
  unfold State.challenge
  repeat' first
    | with_reducible assumption
    | intro _
    | (extract_lets -merge +onlyGivenNames x; refine (have hx : Frame [.sm, .free] s0 x := ?_; ?_); rotate_left; clear_value x; rotate_left; subst x)
    | (extract_lets -merge +onlyGivenNames x; clear_value x)
    | with_reducible exact Frame.refl _ _
    | with_reducible apply Frame.ite
    | with_reducible apply Frame.foldl
    | with_reducible apply Frame.via (State.setSm_frame _ _) (by decide)
    | with_reducible apply Frame.via (State.useFree_frame _ _) (by decide)
    | split

theorem State.openSession_frame (s0 : State) (a1 : Via) (a2 : Nat) : Frame [.sm, .free] s0 (State.openSession s0 a1 a2).1 := by
  unfold State.openSession
  repeat' first
    | with_reducible assumption
    | intro _
    | (extract_lets -merge +onlyGivenNames x; refine (have hx : Frame [.sm, .free] s0 x := ?_; ?_); rotate_left; clear_value x; rotate_left; subst x)
    | (extract_lets -merge +onlyGivenNames x; clear_value x)
    | with_reducible exact Frame.refl _ _
    | with_reducible apply Frame.ite
    | with_reducible apply Frame.foldl
    | with_reducible apply Frame.via (State.setSm_frame _ _) (by decide)
    | with_reducible apply Frame.via (State.useFree_frame _ _) (by decide)
    | split

theorem State.smSessionOpen_frame (s0 : State) (a1 : Cmd) : Frame [.regs, .arb, .sm, .free] s0 (State.smSessionOpen s0 a1).1 := by
  unfold State.smSessionOpen
  repeat' first
    | with_reducible assumption
    | intro _
    | (extract_lets -merge +onlyGivenNames x; refine (have hx : Frame [.regs, .arb, .sm, .free] s0 x := ?_; ?_); rotate_left; clear_value x; rotate_left; subst x)
    | (extract_lets -merge +onlyGivenNames x; refine (have hx : Frame [.regs, .arb, .sm, .free] s0 x.1 := ?_; ?_); rotate_left; clear_value x; rotate_left; subst x)
    | (extract_lets -merge +onlyGivenNames x; refine (have hf : _ → _ := x; ?_); clear hf; subst x)
    | (extract_lets -merge +onlyGivenNames x; clear_value x)
    | with_reducible exact Frame.refl _ _
    | with_reducible apply Frame.ite
    | with_reducible apply Frame.ite1
    | with_reducible apply Frame.foldl
    | with_reducible apply Frame.foldl1
    | with_reducible apply Frame.idf
    | with_reducible apply Frame.via (State.setSm_frame _ _) (by decide)
    | with_reducible apply Frame.via (State.authFail_frame _ _) (by decide)
    | with_reducible apply Frame.via (State.challenge_frame _ _ _ _) (by decide)
    | with_reducible apply Frame.via (State.openSession_frame _ _ _) (by decide)
    | with_reducible refine Frame.via (Frame.of_eq1 (State.challenge_frame _ _ _ _) (by assumption)) (by decide) ?_
    | with_reducible refine Frame.via (Frame.of_eq1 (State.openSession_frame _ _ _) (by assumption)) (by decide) ?_
    | split

theorem State.smZeroize_frame (s0 : State) (a1 : Cmd) : Frame [.regs, .eth, .arb, .sm, .fuses, .free] s0 (State.smZeroize s0 a1).1 := by
  unfold State.smZeroize
  repeat' first
    | with_reducible assumption
    | intro _
    | (extract_lets -merge +onlyGivenNames x; refine (have hx : Frame [.regs, .eth, .arb, .sm, .fuses, .free] s0 x := ?_; ?_); rotate_left; clear_value x; rotate_left; subst x)
    | (extract_lets -merge +onlyGivenNames x; clear_value x)
    | with_reducible exact Frame.refl _ _
    | with_reducible apply Frame.ite
    | with_reducible apply Frame.foldl
    | with_reducible apply Frame.via (State.zeroize_frame _ _) (by decide)
    | split

theorem State.mboxRun_frame (s0 : State) (a1 : Option Nat) : Frame [.regs, .mem, .eth, .arb, .sm, .fuses, .free] s0 (State.mboxRun s0 a1) := by
  unfold State.mboxRun
  repeat' first
    | with_reducible assumption
    | intro _
    | (extract_lets -merge +onlyGivenNames x; refine (have hx : Frame [.regs, .mem, .eth, .arb, .sm, .fuses, .free] s0 x := ?_; ?_); rotate_left; clear_value x; rotate_left; subst x)
    | (extract_lets -merge +onlyGivenNames x; refine (have hx : Frame [.regs, .mem, .eth, .arb, .sm, .fuses, .free] s0 x.1 := ?_; ?_); rotate_left; clear_value x; rotate_left; subst x)
    | (extract_lets -merge +onlyGivenNames x; refine (have hf : _ → _ := x; ?_); clear hf; subst x)
    | (extract_lets -merge +onlyGivenNames x; clear_value x)
    | with_reducible exact Frame.refl _ _
    | with_reducible apply Frame.ite
    | with_reducible apply Frame.ite1
    | with_reducible apply Frame.foldl
    | with_reducible apply Frame.foldl1
    | with_reducible apply Frame.idf
    | with_reducible apply Frame.via (State.useFree_frame _ _) (by decide)
    | with_reducible apply Frame.via (State.smService_frame _ _ _) (by decide)
    | with_reducible apply Frame.via (State.mbox_frame _ _ _ _) (by decide)
    | with_reducible apply Frame.via (State.smSessionOpen_frame _ _) (by decide)
    | with_reducible apply Frame.via (State.smZeroize_frame _ _) (by decide)
    | with_reducible refine Frame.via (Frame.of_eq1 (State.smService_frame _ _ _) (by assumption)) (by decide) ?_
    | with_reducible refine Frame.via (Frame.of_eq1 (State.smSessionOpen_frame _ _) (by assumption)) (by decide) ?_
    | with_reducible refine Frame.via (Frame.of_eq1 (State.smZeroize_frame _ _) (by assumption)) (by decide) ?_
    | split

theorem State.mboxCtrl_frame (s0 : State) (a1 : Who) (a2 : Word) (a3 : Option Nat) : Frame [.regs, .mem, .eth, .arb, .sm, .fuses, .free] s0 (State.mboxCtrl s0 a1 a2 a3) := by
  unfold State.mboxCtrl
  repeat' first
    | with_reducible assumption
    | intro _
    | (extract_lets -merge +onlyGivenNames x; refine (have hx : Frame [.regs, .mem, .eth, .arb, .sm, .fuses, .free] s0 x := ?_; ?_); rotate_left; clear_value x; rotate_left; subst x)
    | (extract_lets -merge +onlyGivenNames x; clear_value x)
    | with_reducible exact Frame.refl _ _
    | with_reducible apply Frame.ite
    | with_reducible apply Frame.foldl
    | with_reducible apply Frame.via (State.setF_frame _ _ _ _ _) (by decide)
    | with_reducible apply Frame.via (State.mboxRun_frame _ _) (by decide)
    | split

theorem State.writeRefCfg_frame (s0 : State) (a1 : Nat) : Frame [.regs, .arb, .pwr] s0 (State.writeRefCfg s0 a1) := by
  unfold State.writeRefCfg
  repeat' first
    | with_reducible assumption
    | intro _
    | (extract_lets -merge +onlyGivenNames x; refine (have hx : Frame [.regs, .arb, .pwr] s0 x := ?_; ?_); rotate_left; clear_value x; rotate_left; subst x)
    | (extract_lets -merge +onlyGivenNames x; clear_value x)
    | with_reducible exact Frame.refl _ _
    | with_reducible apply Frame.ite
    | with_reducible apply Frame.foldl
    | with_reducible apply Frame.via (State.setReg_frame _ _ _ _) (by decide)
    | with_reducible apply Frame.via (State.setF_frame _ _ _ _ _) (by decide)
    | with_reducible apply Frame.via (State.refSet_frame _ _) (by decide)
    | with_reducible apply Frame.via (State.refLost_frame _ _) (by decide)
    | split
    | with_reducible apply Frame.set_pwr _ (by decide)

theorem State.writeAon_frame (s0 : State) (a1 : RegWrite) : Frame [.regs, .mem, .tempo, .dieBase, .aligns, .links, .cond, .patches, .press, .sects, .queues, .qseq, .ports, .lk, .seams, .legacy, .score, .tacks, .books, .eth, .unison, .arb, .icu, .front, .sm, .smb, .fuses, .fw, .pwr, .free] s0 (State.writeAon s0 a1) := by
  unfold State.writeAon
  repeat' first
    | with_reducible assumption
    | intro _
    | (extract_lets -merge +onlyGivenNames x; refine (have hx : Frame [.regs, .mem, .tempo, .dieBase, .aligns, .links, .cond, .patches, .press, .sects, .queues, .qseq, .ports, .lk, .seams, .legacy, .score, .tacks, .books, .eth, .unison, .arb, .icu, .front, .sm, .smb, .fuses, .fw, .pwr, .free] s0 x := ?_; ?_); rotate_left; clear_value x; rotate_left; subst x)
    | (extract_lets -merge +onlyGivenNames x; clear_value x)
    | with_reducible exact Frame.refl _ _
    | with_reducible apply Frame.ite
    | with_reducible apply Frame.foldl
    | with_reducible apply Frame.via (State.atLeast1_frame _ _ _ _) (by decide)
    | with_reducible apply Frame.via (State.atMost_frame _ _ _ _ _) (by decide)
    | with_reducible apply Frame.via (State.plainWrite_frame _ _ _) (by decide)
    | with_reducible apply Frame.via (State.clearsWith_frame _ _ _ _ _) (by decide)
    | with_reducible apply Frame.via (State.throttle_frame _ _) (by decide)
    | with_reducible apply Frame.via (State.writeRstCold_frame _ _ _) (by decide)
    | with_reducible apply Frame.via (State.writeFwdCfg_frame _ _) (by decide)
    | with_reducible apply Frame.via (State.mboxCtrl_frame _ _ _ _) (by decide)
    | with_reducible apply Frame.via (State.writeRefCfg_frame _ _) (by decide)
    | split

theorem State.writeOne_frame (s0 : State) (a1 : RegWrite) : Frame [.regs, .mem, .tempo, .dieBase, .aligns, .links, .cond, .patches, .press, .sects, .queues, .qseq, .ports, .lk, .seams, .legacy, .score, .tacks, .books, .eth, .unison, .arb, .icu, .front, .sm, .smb, .fuses, .fw, .pwr, .free] s0 (State.writeOne s0 a1) := by
  unfold State.writeOne
  repeat' first
    | with_reducible assumption
    | intro _
    | (extract_lets -merge +onlyGivenNames x; refine (have hx : Frame [.regs, .mem, .tempo, .dieBase, .aligns, .links, .cond, .patches, .press, .sects, .queues, .qseq, .ports, .lk, .seams, .legacy, .score, .tacks, .books, .eth, .unison, .arb, .icu, .front, .sm, .smb, .fuses, .fw, .pwr, .free] s0 x := ?_; ?_); rotate_left; clear_value x; rotate_left; subst x)
    | (extract_lets -merge +onlyGivenNames x; clear_value x)
    | with_reducible exact Frame.refl _ _
    | with_reducible apply Frame.ite
    | with_reducible apply Frame.foldl
    | with_reducible apply Frame.via (State.plainWrite_frame _ _ _) (by decide)
    | with_reducible apply Frame.via (State.writeHostIf_frame _ _) (by decide)
    | with_reducible apply Frame.via (State.writeIcu_frame _ _) (by decide)
    | with_reducible apply Frame.via (State.writePressDie_frame _ _) (by decide)
    | with_reducible apply Frame.via (State.writeMangle_frame _ _) (by decide)
    | with_reducible apply Frame.via (State.writeNotice_frame _ _) (by decide)
    | with_reducible apply Frame.via (State.writeGlobal_frame _ _) (by decide)
    | with_reducible apply Frame.via (State.writeMemReg_frame _ _) (by decide)
    | with_reducible apply Frame.via (State.writeAon_frame _ _) (by decide)
    | split

theorem State.regWrite_frame (s0 : State) (a1 : Who) (a2 : Nat) (a3 : Nat) (a4 : Nat) : Frame [.regs, .mem, .tempo, .dieBase, .aligns, .links, .cond, .patches, .press, .sects, .queues, .qseq, .ports, .lk, .seams, .legacy, .score, .tacks, .books, .eth, .unison, .arb, .icu, .front, .sm, .smb, .fuses, .fw, .pwr, .free] s0 (State.regWrite s0 a1 a2 a3 a4) := by
  unfold State.regWrite
  repeat' first
    | with_reducible assumption
    | intro _
    | (extract_lets -merge +onlyGivenNames x; refine (have hx : Frame [.regs, .mem, .tempo, .dieBase, .aligns, .links, .cond, .patches, .press, .sects, .queues, .qseq, .ports, .lk, .seams, .legacy, .score, .tacks, .books, .eth, .unison, .arb, .icu, .front, .sm, .smb, .fuses, .fw, .pwr, .free] s0 x := ?_; ?_); rotate_left; clear_value x; rotate_left; subst x)
    | (extract_lets -merge +onlyGivenNames x; clear_value x)
    | with_reducible exact Frame.refl _ _
    | with_reducible apply Frame.ite
    | with_reducible apply Frame.foldl
    | with_reducible apply Frame.via (State.writeOne_frame _ _) (by decide)
    | split

theorem State.busWrite_frame (s0 : State) (a1 : Who) (a2 : Nat) (a3 : Nat) (a4 : Nat) : Frame [.regs, .mem, .tempo, .dieBase, .aligns, .links, .cond, .patches, .press, .sects, .queues, .qseq, .ports, .lk, .seams, .legacy, .score, .tacks, .books, .eth, .unison, .arb, .icu, .front, .sm, .smb, .fuses, .fw, .pwr, .free] s0 (State.busWrite s0 a1 a2 a3 a4) := by
  unfold State.busWrite
  repeat' first
    | with_reducible assumption
    | intro _
    | (extract_lets -merge +onlyGivenNames x; refine (have hx : Frame [.regs, .mem, .tempo, .dieBase, .aligns, .links, .cond, .patches, .press, .sects, .queues, .qseq, .ports, .lk, .seams, .legacy, .score, .tacks, .books, .eth, .unison, .arb, .icu, .front, .sm, .smb, .fuses, .fw, .pwr, .free] s0 x := ?_; ?_); rotate_left; clear_value x; rotate_left; subst x)
    | (extract_lets -merge +onlyGivenNames x; clear_value x)
    | with_reducible exact Frame.refl _ _
    | with_reducible apply Frame.ite
    | with_reducible apply Frame.foldl
    | with_reducible apply Frame.via (State.accessFault_frame _ _ _ _) (by decide)
    | with_reducible apply Frame.via (State.absentAccess_frame _ _ _) (by decide)
    | with_reducible apply Frame.via (State.regWrite_frame _ _ _ _ _) (by decide)
    | split

theorem execAbsentUnitRead_frame (s0 : State) (a0 : Who) (a1 : BitVec 26) (a2 : Fin 65) : Completes (execAbsentUnitRead a0 a1 a2 s0) (Frame [.regs, .arb, .icu, .front] s0) := by
  unfold execAbsentUnitRead
  refine ⟨_, rfl, ?_⟩
  repeat' first
    | with_reducible assumption
    | intro _
    | (extract_lets -merge +onlyGivenNames x; refine (have hx : Frame [.regs, .arb, .icu, .front] s0 x := ?_; ?_); rotate_left; clear_value x; rotate_left; subst x)
    | (extract_lets -merge +onlyGivenNames x; clear_value x)
    | with_reducible exact Frame.refl _ _
    | with_reducible apply Frame.ite
    | with_reducible apply Frame.foldl
    | with_reducible apply Frame.via (State.busRead_frame _ _ _ _) (by decide)
    | split

theorem execAbsentUnitWrite_frame (s0 : State) (a0 : Who) (a1 : BitVec 26) (a2 : Fin 65) (a3 : Word) : Completes (execAbsentUnitWrite a0 a1 a2 a3 s0) (Frame [.regs, .mem, .tempo, .dieBase, .aligns, .links, .cond, .patches, .press, .sects, .queues, .qseq, .ports, .lk, .seams, .legacy, .score, .tacks, .books, .eth, .unison, .arb, .icu, .front, .sm, .smb, .fuses, .fw, .pwr, .free] s0) := by
  unfold execAbsentUnitWrite
  refine ⟨_, rfl, ?_⟩
  repeat' first
    | with_reducible assumption
    | intro _
    | (extract_lets -merge +onlyGivenNames x; refine (have hx : Frame [.regs, .mem, .tempo, .dieBase, .aligns, .links, .cond, .patches, .press, .sects, .queues, .qseq, .ports, .lk, .seams, .legacy, .score, .tacks, .books, .eth, .unison, .arb, .icu, .front, .sm, .smb, .fuses, .fw, .pwr, .free] s0 x := ?_; ?_); rotate_left; clear_value x; rotate_left; subst x)
    | (extract_lets -merge +onlyGivenNames x; clear_value x)
    | with_reducible exact Frame.refl _ _
    | with_reducible apply Frame.ite
    | with_reducible apply Frame.foldl
    | with_reducible apply Frame.via (State.busWrite_frame _ _ _ _ _) (by decide)
    | split

theorem execMisalignedRegAccess_frame (s0 : State) (a0 : Who) (a1 : BitVec 26) (a2 : Fin 65) (a3 : Option Word) : Completes (execMisalignedRegAccess a0 a1 a2 a3 s0) (Frame [.regs, .mem, .tempo, .dieBase, .aligns, .links, .cond, .patches, .press, .sects, .queues, .qseq, .ports, .lk, .seams, .legacy, .score, .tacks, .books, .eth, .unison, .arb, .icu, .front, .sm, .smb, .fuses, .fw, .pwr, .free] s0) := by
  unfold execMisalignedRegAccess
  refine ⟨_, rfl, ?_⟩
  repeat' first
    | with_reducible assumption
    | intro _
    | (extract_lets -merge +onlyGivenNames x; refine (have hx : Frame [.regs, .mem, .tempo, .dieBase, .aligns, .links, .cond, .patches, .press, .sects, .queues, .qseq, .ports, .lk, .seams, .legacy, .score, .tacks, .books, .eth, .unison, .arb, .icu, .front, .sm, .smb, .fuses, .fw, .pwr, .free] s0 x := ?_; ?_); rotate_left; clear_value x; rotate_left; subst x)
    | (extract_lets -merge +onlyGivenNames x; clear_value x)
    | with_reducible exact Frame.refl _ _
    | with_reducible apply Frame.ite
    | with_reducible apply Frame.foldl
    | with_reducible apply Frame.via (State.busRead_frame _ _ _ _) (by decide)
    | with_reducible apply Frame.via (State.busWrite_frame _ _ _ _ _) (by decide)
    | split

theorem execRcRegisterRead_frame (s0 : State) (a0 : Who) (a1 : BitVec 26) (a2 : Fin 65) : Completes (execRcRegisterRead a0 a1 a2 s0) (Frame [.regs, .arb, .icu, .front] s0) := by
  unfold execRcRegisterRead
  refine ⟨_, rfl, ?_⟩
  repeat' first
    | with_reducible assumption
    | intro _
    | (extract_lets -merge +onlyGivenNames x; refine (have hx : Frame [.regs, .arb, .icu, .front] s0 x := ?_; ?_); rotate_left; clear_value x; rotate_left; subst x)
    | (extract_lets -merge +onlyGivenNames x; clear_value x)
    | with_reducible exact Frame.refl _ _
    | with_reducible apply Frame.ite
    | with_reducible apply Frame.foldl
    | with_reducible apply Frame.via (State.busRead_frame _ _ _ _) (by decide)
    | split

end Sys2Proof.Machine
end

