-- ==== Sys2Proof/Laws/Frames2.lean ====
section
/-! SUPPORT. The frames of operations and commands of Access, Arb, ArbOps, BoardOps, BoltOps, BoltRows, Bolts, Linens,
Ops, ScoreOps, UnisonOps: the parts that each may change. -/

namespace Sys2Proof.Machine

theorem execRegisterWrite_frame (s0 : State) (a0 : Who) (a1 : BitVec 26) (a2 : Fin 65) (a3 : Word) : Completes (execRegisterWrite a0 a1 a2 a3 s0) (Frame [.regs, .mem, .tempo, .dieBase, .aligns, .links, .cond, .patches, .press, .sects, .queues, .qseq, .ports, .lk, .seams, .legacy, .score, .tacks, .books, .eth, .unison, .arb, .icu, .front, .sm, .smb, .fuses, .fw, .pwr, .free] s0) := by
  unfold execRegisterWrite
  refine ⟨_, rfl, ?_⟩
  repeat' first
    | with_reducible assumption
    | intro _
    | (extract_lets -merge +onlyGivenNames x; refine (have hx : Frame [.regs, .mem, .tempo, .dieBase, .aligns, .links, .cond, .patches, .press, .sects, .queues, .qseq, .ports, .lk, .seams, .legacy, .score, .tacks, .books, .eth, .unison, .arb, .icu, .front, .sm, .smb, .fuses, .fw, .pwr, .free] s0 x := ?_; ?_); rotate_left; clear_value x; rotate_left; subst x)
    | (extract_lets -merge +onlyGivenNames x; clear_value x)
    | with_reducible exact Frame.refl _ _
    | with_reducible apply Frame.ite
    | with_reducible apply Frame.foldl
    | with_reducible apply Frame.via (State.busWrite_frame _ _ _ _ _) (by decide)
    | split

theorem execReservedOffsetAccess_frame (s0 : State) (a0 : Who) (a1 : BitVec 26) (a2 : Fin 65) (a3 : Option Word) : Completes (execReservedOffsetAccess a0 a1 a2 a3 s0) (Frame [.regs, .mem, .tempo, .dieBase, .aligns, .links, .cond, .patches, .press, .sects, .queues, .qseq, .ports, .lk, .seams, .legacy, .score, .tacks, .books, .eth, .unison, .arb, .icu, .front, .sm, .smb, .fuses, .fw, .pwr, .free] s0) := by
  unfold execReservedOffsetAccess
  refine ⟨_, rfl, ?_⟩
  repeat' first
    | with_reducible assumption
    | intro _
    | (extract_lets -merge +onlyGivenNames x; refine (have hx : Frame [.regs, .mem, .tempo, .dieBase, .aligns, .links, .cond, .patches, .press, .sects, .queues, .qseq, .ports, .lk, .seams, .legacy, .score, .tacks, .books, .eth, .unison, .arb, .icu, .front, .sm, .smb, .fuses, .fw, .pwr, .free] s0 x := ?_; ?_); rotate_left; clear_value x; rotate_left; subst x)
    | (extract_lets -merge +onlyGivenNames x; clear_value x)
    | with_reducible exact Frame.refl _ _
    | with_reducible apply Frame.ite
    | with_reducible apply Frame.foldl
    | with_reducible apply Frame.via (State.busRead_frame _ _ _ _) (by decide)
    | with_reducible apply Frame.via (State.busWrite_frame _ _ _ _ _) (by decide)
    | split

theorem execEvaRdWrite_frame (s0 : State) (a0 : BitVec 32) : Completes (execEvaRdWrite a0 s0) (Frame [.regs, .front] s0) := by
  unfold execEvaRdWrite
  refine ⟨_, rfl, ?_⟩
  repeat' first
    | with_reducible assumption
    | intro _
    | (extract_lets -merge +onlyGivenNames x; refine (have hx : Frame [.regs, .front] s0 x := ?_; ?_); rotate_left; clear_value x; rotate_left; subst x)
    | (extract_lets -merge +onlyGivenNames x; clear_value x)
    | with_reducible exact Frame.refl _ _
    | with_reducible apply Frame.ite
    | with_reducible apply Frame.foldl
    | with_reducible apply Frame.via (State.writeEvaRd_frame _ _) (by decide)
    | split

theorem State.hostWrite_frame (s0 : State) (a1 : Nat) (a2 : List Byte) : Frame [.front] s0 (State.hostWrite s0 a1 a2) := by
  unfold State.hostWrite
  repeat' first
    | with_reducible assumption
    | intro _
    | (extract_lets -merge +onlyGivenNames x; refine (have hx : Frame [.front] s0 x := ?_; ?_); rotate_left; clear_value x; rotate_left; subst x)
    | (extract_lets -merge +onlyGivenNames x; clear_value x)
    | with_reducible exact Frame.refl _ _
    | with_reducible apply Frame.ite
    | with_reducible apply Frame.foldl
    | split
    | with_reducible apply Frame.set_front _ (by decide)

theorem State.countIrq_frame (s0 : State) (a1 : Nat) : Frame [.front] s0 (State.countIrq s0 a1) := by
  unfold State.countIrq
  repeat' first
    | with_reducible assumption
    | intro _
    | (extract_lets -merge +onlyGivenNames x; refine (have hx : Frame [.front] s0 x := ?_; ?_); rotate_left; clear_value x; rotate_left; subst x)
    | (extract_lets -merge +onlyGivenNames x; clear_value x)
    | with_reducible exact Frame.refl _ _
    | with_reducible apply Frame.ite
    | with_reducible apply Frame.foldl
    | with_reducible apply Frame.via (State.fireMsix_frame _ _) (by decide)
    | split
    | with_reducible apply Frame.set_front _ (by decide)

theorem State.ringComplete_frame (s0 : State) (a1 : Cmd) (a2 : Cpl) : Frame [.regs, .mem, .front] s0 (State.ringComplete s0 a1 a2) := by
  unfold State.ringComplete
  repeat' first
    | with_reducible assumption
    | intro _
    | (extract_lets -merge +onlyGivenNames x; refine (have hx : Frame [.regs, .mem, .front] s0 x := ?_; ?_); rotate_left; clear_value x; rotate_left; subst x)
    | (extract_lets -merge +onlyGivenNames x; clear_value x)
    | with_reducible exact Frame.refl _ _
    | with_reducible apply Frame.ite
    | with_reducible apply Frame.foldl
    | with_reducible apply Frame.via (State.setF_frame _ _ _ _ _) (by decide)
    | with_reducible apply Frame.via (State.writeMem_frame _ _ _) (by decide)
    | with_reducible apply Frame.via (State.hostWrite_frame _ _ _) (by decide)
    | with_reducible apply Frame.via (State.countIrq_frame _ _) (by decide)
    | split
    | with_reducible apply Frame.set_front _ (by decide)

theorem State.retire_frame (s0 : State) (a1 : Cmd) : Frame [.regs, .front] s0 (State.retire s0 a1) := by
  unfold State.retire
  repeat' first
    | with_reducible assumption
    | intro _
    | (extract_lets -merge +onlyGivenNames x; refine (have hx : Frame [.regs, .front] s0 x := ?_; ?_); rotate_left; clear_value x; rotate_left; subst x)
    | (extract_lets -merge +onlyGivenNames x; clear_value x)
    | with_reducible exact Frame.refl _ _
    | with_reducible apply Frame.ite
    | with_reducible apply Frame.foldl
    | with_reducible apply Frame.via (State.setF_frame _ _ _ _ _) (by decide)
    | split
    | with_reducible apply Frame.set_front _ (by decide)

theorem State.complete_frame (s0 : State) (a1 : Cmd) (a2 : Nat) (a3 : List Byte) : Frame [.regs, .mem, .front] s0 (State.complete s0 a1 a2 a3) := by
  unfold State.complete
  repeat' first
    | with_reducible assumption
    | intro _
    | (extract_lets -merge +onlyGivenNames x; refine (have hx : Frame [.regs, .mem, .front] s0 x := ?_; ?_); rotate_left; clear_value x; rotate_left; subst x)
    | (extract_lets -merge +onlyGivenNames x; clear_value x)
    | with_reducible exact Frame.refl _ _
    | with_reducible apply Frame.ite
    | with_reducible apply Frame.foldl
    | with_reducible apply Frame.via (State.ringComplete_frame _ _ _) (by decide)
    | with_reducible apply Frame.via (State.retire_frame _ _) (by decide)
    | split
    | with_reducible apply Frame.set_front _ (by decide)

theorem State.runCmd_frame {l : List Part} (s0 s : State) (c : Cmd) (op : Nat) (body : State → State)
    (hl : [Part.regs, .mem, .front].all (fun p => l.contains p) = true) (h : Frame l s0 s)
    (hb : Frame l s0 s → Frame l s0 (body s)) : Frame l s0 (s.runCmd c op body) := by
  unfold State.runCmd
  repeat' first
    | with_reducible assumption
    | exact hb h
    | with_reducible refine Frame.ite (fun _ => ?_) (fun _ => ?_)
    | with_reducible refine Frame.via (State.complete_frame _ _ _ _) hl ?_
    | split

theorem execEventLogConfig_frame (s0 : State) (a0 : Cmd) : Completes (execEventLogConfig a0 s0) (Frame [.regs, .mem, .front] s0) := by
  unfold execEventLogConfig
  refine ⟨_, rfl, ?_⟩
  repeat' first
    | with_reducible assumption
    | intro _
    | (extract_lets -merge +onlyGivenNames x; refine (have hx : Frame [.regs, .mem, .front] s0 x := ?_; ?_); rotate_left; clear_value x; rotate_left; subst x)
    | (extract_lets -merge +onlyGivenNames x; clear_value x)
    | with_reducible exact Frame.refl _ _
    | with_reducible apply Frame.ite
    | with_reducible apply Frame.foldl
    | with_reducible apply Frame.via (State.setF_frame _ _ _ _ _) (by decide)
    | with_reducible refine State.evaChange_frame _ _ _ (by decide) ?_
    | with_reducible apply Frame.via (State.complete_frame _ _ _ _) (by decide)
    | with_reducible refine State.runCmd_frame _ _ _ _ _ (by decide) ?_ (fun _ => ?_)
    | split

theorem State.takeSeq_frame (s0 : State) : Frame [.regs] s0 (State.takeSeq s0).1 := by
  unfold State.takeSeq
  repeat' first
    | with_reducible assumption
    | intro _
    | (extract_lets -merge +onlyGivenNames x; refine (have hx : Frame [.regs] s0 x := ?_; ?_); rotate_left; clear_value x; rotate_left; subst x)
    | (extract_lets -merge +onlyGivenNames x; clear_value x)
    | with_reducible exact Frame.refl _ _
    | with_reducible apply Frame.ite
    | with_reducible apply Frame.foldl
    | with_reducible apply Frame.via (State.setF_frame _ _ _ _ _) (by decide)
    | split

theorem State.coverLost_frame (s0 : State) : Frame [.regs, .arb] s0 (State.coverLost s0) := by
  unfold State.coverLost
  repeat' first
    | with_reducible assumption
    | intro _
    | (extract_lets -merge +onlyGivenNames x; refine (have hx : Frame [.regs, .arb] s0 x := ?_; ?_); rotate_left; clear_value x; rotate_left; subst x)
    | (extract_lets -merge +onlyGivenNames x; refine (have hx : Frame [.regs, .arb] s0 x.1 := ?_; ?_); rotate_left; clear_value x; rotate_left; subst x)
    | (extract_lets -merge +onlyGivenNames x; refine (have hf : _ → _ := x; ?_); clear hf; subst x)
    | (extract_lets -merge +onlyGivenNames x; clear_value x)
    | with_reducible exact Frame.refl _ _
    | with_reducible apply Frame.ite
    | with_reducible apply Frame.ite1
    | with_reducible apply Frame.foldl
    | with_reducible apply Frame.foldl1
    | with_reducible apply Frame.idf
    | with_reducible apply Frame.via (State.takeSeq_frame _) (by decide)
    | with_reducible refine Frame.via (Frame.of_eq1 (State.takeSeq_frame _) (by assumption)) (by decide) ?_
    | split
    | with_reducible apply Frame.set_arb _ (by decide)

theorem execEventRecordWrite_frame (s0 : State) (a0 : Bool) : Completes (execEventRecordWrite a0 s0) (Frame [.regs, .mem, .arb, .front] s0) := by
  unfold execEventRecordWrite
  refine ⟨_, rfl, ?_⟩
  repeat' first
    | with_reducible assumption
    | intro _
    | (extract_lets -merge +onlyGivenNames x; refine (have hx : Frame [.regs, .mem, .arb, .front] s0 x := ?_; ?_); rotate_left; clear_value x; rotate_left; subst x)
    | (extract_lets -merge +onlyGivenNames x; refine (have hx : Frame [.regs, .mem, .arb, .front] s0 x.1 := ?_; ?_); rotate_left; clear_value x; rotate_left; subst x)
    | (extract_lets -merge +onlyGivenNames x; refine (have hf : _ → _ := x; ?_); clear hf; subst x)
    | (extract_lets -merge +onlyGivenNames x; clear_value x)
    | with_reducible exact Frame.refl _ _
    | with_reducible apply Frame.ite
    | with_reducible apply Frame.ite1
    | with_reducible apply Frame.foldl
    | with_reducible apply Frame.foldl1
    | with_reducible apply Frame.idf
    | with_reducible apply Frame.via (State.setF_frame _ _ _ _ _) (by decide)
    | with_reducible apply Frame.via (State.setBit_frame _ _ _ _) (by decide)
    | with_reducible refine State.evaChange_frame _ _ _ (by decide) ?_
    | with_reducible apply Frame.via (State.writeMem_frame _ _ _) (by decide)
    | with_reducible apply Frame.via (State.hostWrite_frame _ _ _) (by decide)
    | with_reducible apply Frame.via (State.coverLost_frame _) (by decide)
    | split
    | with_reducible apply Frame.set_arb _ (by decide)

theorem State.evaLose_frame (s0 : State) (a1 : Nat) : Frame [.regs] s0 (State.evaLose s0 a1) := by
  unfold State.evaLose
  repeat' first
    | with_reducible assumption
    | intro _
    | (extract_lets -merge +onlyGivenNames x; refine (have hx : Frame [.regs] s0 x := ?_; ?_); rotate_left; clear_value x; rotate_left; subst x)
    | (extract_lets -merge +onlyGivenNames x; clear_value x)
    | with_reducible exact Frame.refl _ _
    | with_reducible apply Frame.ite
    | with_reducible apply Frame.foldl
    | with_reducible apply Frame.via (State.setBit_frame _ _ _ _) (by decide)
    | with_reducible apply Frame.via (State.incF_frame _ _ _ _ _) (by decide)
    | split

theorem State.stamp_frame (s0 : State) (a1 : Ev) : Frame [.regs, .arb] s0 (State.stamp s0 a1) := by
  unfold State.stamp
  repeat' first
    | with_reducible assumption
    | intro _
    | (extract_lets -merge +onlyGivenNames x; refine (have hx : Frame [.regs, .arb] s0 x := ?_; ?_); rotate_left; clear_value x; rotate_left; subst x)
    | (extract_lets -merge +onlyGivenNames x; refine (have hx : Frame [.regs, .arb] s0 x.1 := ?_; ?_); rotate_left; clear_value x; rotate_left; subst x)
    | (extract_lets -merge +onlyGivenNames x; refine (have hf : _ → _ := x; ?_); clear hf; subst x)
    | (extract_lets -merge +onlyGivenNames x; clear_value x)
    | with_reducible exact Frame.refl _ _
    | with_reducible apply Frame.ite
    | with_reducible apply Frame.ite1
    | with_reducible apply Frame.foldl
    | with_reducible apply Frame.foldl1
    | with_reducible apply Frame.idf
    | with_reducible apply Frame.via (State.takeSeq_frame _) (by decide)
    | with_reducible apply Frame.via (State.coverLost_frame _) (by decide)
    | with_reducible apply Frame.via (State.evaLose_frame _ _) (by decide)
    | with_reducible refine Frame.via (Frame.of_eq1 (State.takeSeq_frame _) (by assumption)) (by decide) ?_
    | split
    | with_reducible apply Frame.set_arb _ (by decide)

theorem execEventStamp_frame (s0 : State) (a0 : Fin 12) : Completes (execEventStamp a0 s0) (Frame [.regs, .arb, .front] s0) := by
  unfold execEventStamp
  refine ⟨_, rfl, ?_⟩
  repeat' first
    | with_reducible assumption
    | intro _
    | (extract_lets -merge +onlyGivenNames x; refine (have hx : Frame [.regs, .arb, .front] s0 x := ?_; ?_); rotate_left; clear_value x; rotate_left; subst x)
    | (extract_lets -merge +onlyGivenNames x; refine (have hx : Frame [.regs, .arb, .front] s0 x.1 := ?_; ?_); rotate_left; clear_value x; rotate_left; subst x)
    | (extract_lets -merge +onlyGivenNames x; refine (have hf : _ → _ := x; ?_); clear hf; subst x)
    | (extract_lets -merge +onlyGivenNames x; clear_value x)
    | with_reducible exact Frame.refl _ _
    | with_reducible apply Frame.ite
    | with_reducible apply Frame.ite1
    | with_reducible apply Frame.foldl
    | with_reducible apply Frame.foldl1
    | with_reducible apply Frame.idf
    | with_reducible refine State.evaChange_frame _ _ _ (by decide) ?_
    | with_reducible apply Frame.via (State.evaLose_frame _ _) (by decide)
    | with_reducible apply Frame.via (State.stamp_frame _ _) (by decide)
    | split
    | with_reducible apply Frame.set_arb _ (by decide)

theorem execSoftwareEvent_frame (s0 : State) (a0 : Word) : Completes (execSoftwareEvent a0 s0) (Frame [.arb] s0) := by
  unfold execSoftwareEvent
  refine ⟨_, rfl, ?_⟩
  repeat' first
    | with_reducible assumption
    | intro _
    | (extract_lets -merge +onlyGivenNames x; refine (have hx : Frame [.arb] s0 x := ?_; ?_); rotate_left; clear_value x; rotate_left; subst x)
    | (extract_lets -merge +onlyGivenNames x; clear_value x)
    | with_reducible exact Frame.refl _ _
    | with_reducible apply Frame.ite
    | with_reducible apply Frame.foldl
    | with_reducible apply Frame.via (State.sendEvent_frame _ _ _ _) (by decide)
    | split

theorem State.arbReset_frame (s0 : State) : Frame [.regs, .arb] s0 (State.arbReset s0) := by
  unfold State.arbReset
  repeat' first
    | with_reducible assumption
    | intro _
    | (extract_lets -merge +onlyGivenNames x; refine (have hx : Frame [.regs, .arb] s0 x := ?_; ?_); rotate_left; clear_value x; rotate_left; subst x)
    | (extract_lets -merge +onlyGivenNames x; clear_value x)
    | with_reducible exact Frame.refl _ _
    | with_reducible apply Frame.ite
    | with_reducible apply Frame.foldl
    | with_reducible apply Frame.via (State.incF_frame _ _ _ _ _) (by decide)
    | split
    | with_reducible apply Frame.set_arb _ (by decide)

theorem State.syncHolds_frame (s0 : State) (a1 : Nat) : Frame [.regs] s0 (State.syncHolds s0 a1) := by
  unfold State.syncHolds
  repeat' first
    | with_reducible assumption
    | intro _
    | (extract_lets -merge +onlyGivenNames x; refine (have hx : Frame [.regs] s0 x := ?_; ?_); rotate_left; clear_value x; rotate_left; subst x)
    | (extract_lets -merge +onlyGivenNames x; clear_value x)
    | with_reducible exact Frame.refl _ _
    | with_reducible apply Frame.ite
    | with_reducible apply Frame.foldl
    | with_reducible apply Frame.via (State.setF_frame _ _ _ _ _) (by decide)
    | split

theorem State.dropHold_frame (s0 : State) (a1 : Nat) (a2 : Nat) (a3 : Nat) : Frame [.regs, .press] s0 (State.dropHold s0 a1 a2 a3) := by
  unfold State.dropHold
  repeat' first
    | with_reducible assumption
    | intro _
    | (extract_lets -merge +onlyGivenNames x; refine (have hx : Frame [.regs, .press] s0 x := ?_; ?_); rotate_left; clear_value x; rotate_left; subst x)
    | (extract_lets -merge +onlyGivenNames x; clear_value x)
    | with_reducible exact Frame.refl _ _
    | with_reducible apply Frame.ite
    | with_reducible apply Frame.foldl
    | with_reducible apply Frame.via (State.setPrs_frame _ _ _) (by decide)
    | with_reducible apply Frame.via (State.syncHolds_frame _ _) (by decide)
    | split

theorem State.placeHold_frame (s0 : State) (a1 : Nat) (a2 : Nat) (a3 : Nat) : Frame [.regs, .press] s0 (State.placeHold s0 a1 a2 a3) := by
  unfold State.placeHold
  repeat' first
    | with_reducible assumption
    | intro _
    | (extract_lets -merge +onlyGivenNames x; refine (have hx : Frame [.regs, .press] s0 x := ?_; ?_); rotate_left; clear_value x; rotate_left; subst x)
    | (extract_lets -merge +onlyGivenNames x; clear_value x)
    | with_reducible exact Frame.refl _ _
    | with_reducible apply Frame.ite
    | with_reducible apply Frame.foldl
    | with_reducible apply Frame.via (State.setPrs_frame _ _ _) (by decide)
    | with_reducible apply Frame.via (State.syncHolds_frame _ _) (by decide)
    | split

theorem State.addFlight_frame (s0 : State) (a1 : Flight) : Frame [.score] s0 (State.addFlight s0 a1) := by
  unfold State.addFlight
  repeat' first
    | with_reducible assumption
    | intro _
    | (extract_lets -merge +onlyGivenNames x; refine (have hx : Frame [.score] s0 x := ?_; ?_); rotate_left; clear_value x; rotate_left; subst x)
    | (extract_lets -merge +onlyGivenNames x; clear_value x)
    | with_reducible exact Frame.refl _ _
    | with_reducible apply Frame.ite
    | with_reducible apply Frame.foldl
    | split
    | with_reducible apply Frame.set_score _ (by decide)

theorem State.mapDesc_frame (s0 : State) (a1 : Nat) (a2 : Nat) (a3 : Desc → Desc) : Frame [.score] s0 (State.mapDesc s0 a1 a2 a3) := by
  unfold State.mapDesc
  repeat' first
    | with_reducible assumption
    | intro _
    | (extract_lets -merge +onlyGivenNames x; refine (have hx : Frame [.score] s0 x := ?_; ?_); rotate_left; clear_value x; rotate_left; subst x)
    | (extract_lets -merge +onlyGivenNames x; clear_value x)
    | with_reducible exact Frame.refl _ _
    | with_reducible apply Frame.ite
    | with_reducible apply Frame.foldl
    | split
    | with_reducible apply Frame.set_score _ (by decide)

theorem State.resendOver_frame (s0 : State) (a1 : Bool) (a2 : BoltHdr) : Frame [.score] s0 (State.resendOver s0 a1 a2) := by
  unfold State.resendOver
  repeat' first
    | with_reducible assumption
    | intro _
    | (extract_lets -merge +onlyGivenNames x; refine (have hx : Frame [.score] s0 x := ?_; ?_); rotate_left; clear_value x; rotate_left; subst x)
    | (extract_lets -merge +onlyGivenNames x; clear_value x)
    | with_reducible exact Frame.refl _ _
    | with_reducible apply Frame.ite
    | with_reducible apply Frame.foldl
    | with_reducible apply Frame.via (State.mapDesc_frame _ _ _ _) (by decide)
    | split

theorem State.dropFlight_frame (s0 : State) (a1 : Flight) : Frame [.score] s0 (State.dropFlight s0 a1) := by
  unfold State.dropFlight
  repeat' first
    | with_reducible assumption
    | intro _
    | (extract_lets -merge +onlyGivenNames x; refine (have hx : Frame [.score] s0 x := ?_; ?_); rotate_left; clear_value x; rotate_left; subst x)
    | (extract_lets -merge +onlyGivenNames x; clear_value x)
    | with_reducible exact Frame.refl _ _
    | with_reducible apply Frame.ite
    | with_reducible apply Frame.foldl
    | with_reducible apply Frame.via (State.resendOver_frame _ _ _) (by decide)
    | split
    | with_reducible apply Frame.set_score _ (by decide)

theorem State.syncDarn_frame (s0 : State) : Frame [.regs] s0 (State.syncDarn s0) := by
  unfold State.syncDarn
  repeat' first
    | with_reducible assumption
    | intro _
    | (extract_lets -merge +onlyGivenNames x; refine (have hx : Frame [.regs] s0 x := ?_; ?_); rotate_left; clear_value x; rotate_left; subst x)
    | (extract_lets -merge +onlyGivenNames x; clear_value x)
    | with_reducible exact Frame.refl _ _
    | with_reducible apply Frame.ite
    | with_reducible apply Frame.foldl
    | with_reducible apply Frame.via (State.setF_frame _ _ _ _ _) (by decide)
    | split

theorem State.releaseDesc_frame (s0 : State) (a1 : Desc) : Frame [.regs, .press, .score] s0 (State.releaseDesc s0 a1) := by
  unfold State.releaseDesc
  repeat' first
    | with_reducible assumption
    | intro _
    | (extract_lets -merge +onlyGivenNames x; refine (have hx : Frame [.regs, .press, .score] s0 x := ?_; ?_); rotate_left; clear_value x; rotate_left; subst x)
    | (extract_lets -merge +onlyGivenNames x; clear_value x)
    | with_reducible exact Frame.refl _ _
    | with_reducible apply Frame.ite
    | with_reducible apply Frame.foldl
    | with_reducible apply Frame.via (State.setF_frame _ _ _ _ _) (by decide)
    | with_reducible apply Frame.via (State.dropHold_frame _ _ _ _) (by decide)
    | with_reducible apply Frame.via (State.syncDarn_frame _) (by decide)
    | split
    | with_reducible apply Frame.set_score _ (by decide)

theorem State.endStream_frame (s0 : State) (a1 : Nat) (a2 : Nat) : Frame [.regs, .press, .score] s0 (State.endStream s0 a1 a2) := by
  unfold State.endStream
  repeat' first
    | with_reducible assumption
    | intro _
    | (extract_lets -merge +onlyGivenNames x; refine (have hx : Frame [.regs, .press, .score] s0 x := ?_; ?_); rotate_left; clear_value x; rotate_left; subst x)
    | (extract_lets -merge +onlyGivenNames x; clear_value x)
    | with_reducible exact Frame.refl _ _
    | with_reducible apply Frame.ite
    | with_reducible apply Frame.foldl
    | with_reducible apply Frame.via (State.releaseDesc_frame _ _) (by decide)
    | split
    | with_reducible apply Frame.set_score _ (by decide)

theorem State.fenceCount_frame (s0 : State) (a1 : Nat) (a2 : Bool) : Frame [.regs, .arb] s0 (State.fenceCount s0 a1 a2) := by
  unfold State.fenceCount
  repeat' first
    | with_reducible assumption
    | intro _
    | (extract_lets -merge +onlyGivenNames x; refine (have hx : Frame [.regs, .arb] s0 x := ?_; ?_); rotate_left; clear_value x; rotate_left; subst x)
    | (extract_lets -merge +onlyGivenNames x; clear_value x)
    | with_reducible exact Frame.refl _ _
    | with_reducible apply Frame.ite
    | with_reducible apply Frame.foldl
    | with_reducible apply Frame.via (State.setLogged_frame _ _ _ _ _) (by decide)
    | with_reducible apply Frame.via (State.incF_frame _ _ _ _ _) (by decide)
    | split

theorem State.freeCredits_frame (s0 : State) (a1 : Nat) (a2 : Nat) : Frame [.regs, .legacy] s0 (State.freeCredits s0 a1 a2) := by
  unfold State.freeCredits
  repeat' first
    | with_reducible assumption
    | intro _
    | (extract_lets -merge +onlyGivenNames x; refine (have hx : Frame [.regs, .legacy] s0 x := ?_; ?_); rotate_left; clear_value x; rotate_left; subst x)
    | (extract_lets -merge +onlyGivenNames x; clear_value x)
    | with_reducible exact Frame.refl _ _
    | with_reducible apply Frame.ite
    | with_reducible apply Frame.foldl
    | with_reducible apply Frame.via (State.setLegacy_frame _ _ _) (by decide)
    | split

theorem State.headerBad_frame (s0 : State) (a1 : Nat) : Frame [.regs] s0 (State.headerBad s0 a1) := by
  unfold State.headerBad
  repeat' first
    | with_reducible assumption
    | intro _
    | (extract_lets -merge +onlyGivenNames x; refine (have hx : Frame [.regs] s0 x := ?_; ?_); rotate_left; clear_value x; rotate_left; subst x)
    | (extract_lets -merge +onlyGivenNames x; clear_value x)
    | with_reducible exact Frame.refl _ _
    | with_reducible apply Frame.ite
    | with_reducible apply Frame.foldl
    | with_reducible apply Frame.via (State.setBit_frame _ _ _ _) (by decide)
    | split

theorem State.txFlit_frame (s0 : State) (a1 : Nat) (a2 : List Byte) : Frame [.linkTx] s0 (State.txFlit s0 a1 a2) := by
  unfold State.txFlit
  repeat' first
    | with_reducible assumption
    | intro _
    | (extract_lets -merge +onlyGivenNames x; refine (have hx : Frame [.linkTx] s0 x := ?_; ?_); rotate_left; clear_value x; rotate_left; subst x)
    | (extract_lets -merge +onlyGivenNames x; clear_value x)
    | with_reducible exact Frame.refl _ _
    | with_reducible apply Frame.ite
    | with_reducible apply Frame.foldl
    | split
    | with_reducible apply Frame.set_linkTx _ (by decide)

theorem State.leaveOn_frame (s0 : State) (a1 : Nat) (a2 : BoltHdr) (a3 : List Byte) (a4 : Nat) (a5 : Bool) : Frame [.regs, .linkTx, .legacy] s0 (State.leaveOn s0 a1 a2 a3 a4 a5) := by
  unfold State.leaveOn
  repeat' first
    | with_reducible assumption
    | intro _
    | (extract_lets -merge +onlyGivenNames x; refine (have hx : Frame [.regs, .linkTx, .legacy] s0 x := ?_; ?_); rotate_left; clear_value x; rotate_left; subst x)
    | (extract_lets -merge +onlyGivenNames x; clear_value x)
    | with_reducible exact Frame.refl _ _
    | with_reducible apply Frame.ite
    | with_reducible apply Frame.foldl
    | with_reducible apply Frame.via (State.setLegacy_frame _ _ _) (by decide)
    | with_reducible apply Frame.via (State.txFlit_frame _ _ _) (by decide)
    | split

theorem State.linkDiscard_frame (s0 : State) (a1 : Nat) : Frame [.regs, .arb] s0 (State.linkDiscard s0 a1) := by
  unfold State.linkDiscard
  repeat' first
    | with_reducible assumption
    | intro _
    | (extract_lets -merge +onlyGivenNames x; refine (have hx : Frame [.regs, .arb] s0 x := ?_; ?_); rotate_left; clear_value x; rotate_left; subst x)
    | (extract_lets -merge +onlyGivenNames x; clear_value x)
    | with_reducible exact Frame.refl _ _
    | with_reducible apply Frame.ite
    | with_reducible apply Frame.foldl
    | with_reducible apply Frame.via (State.setLogged_frame _ _ _ _ _) (by decide)
    | with_reducible apply Frame.via (State.incF_frame _ _ _ _ _) (by decide)
    | split

theorem State.queueResend_frame (s0 : State) (a1 : Desc) : Frame [.regs, .score] s0 (State.queueResend s0 a1) := by
  unfold State.queueResend
  repeat' first
    | with_reducible assumption
    | intro _
    | (extract_lets -merge +onlyGivenNames x; refine (have hx : Frame [.regs, .score] s0 x := ?_; ?_); rotate_left; clear_value x; rotate_left; subst x)
    | (extract_lets -merge +onlyGivenNames x; clear_value x)
    | with_reducible exact Frame.refl _ _
    | with_reducible apply Frame.ite
    | with_reducible apply Frame.foldl
    | with_reducible apply Frame.via (State.mapDesc_frame _ _ _ _) (by decide)
    | with_reducible apply Frame.via (State.syncDarn_frame _) (by decide)
    | split
    | with_reducible apply Frame.set_score _ (by decide)

theorem State.rankMiss_frame (s0 : State) (a1 : Nat) (a2 : Nat) : Frame [.regs, .arb] s0 (State.rankMiss s0 a1 a2) := by
  unfold State.rankMiss
  repeat' first
    | with_reducible assumption
    | intro _
    | (extract_lets -merge +onlyGivenNames x; refine (have hx : Frame [.regs, .arb] s0 x := ?_; ?_); rotate_left; clear_value x; rotate_left; subst x)
    | (extract_lets -merge +onlyGivenNames x; clear_value x)
    | with_reducible exact Frame.refl _ _
    | with_reducible apply Frame.ite
    | with_reducible apply Frame.foldl
    | with_reducible apply Frame.via (State.setF_frame _ _ _ _ _) (by decide)
    | with_reducible apply Frame.via (State.setLogged_frame _ _ _ _ _) (by decide)
    | with_reducible apply Frame.via (State.incF_frame _ _ _ _ _) (by decide)
    | split

theorem State.setFlight_frame (s0 : State) (a1 : Flight) : Frame [.score] s0 (State.setFlight s0 a1) := by
  unfold State.setFlight
  repeat' first
    | with_reducible assumption
    | intro _
    | (extract_lets -merge +onlyGivenNames x; refine (have hx : Frame [.score] s0 x := ?_; ?_); rotate_left; clear_value x; rotate_left; subst x)
    | (extract_lets -merge +onlyGivenNames x; clear_value x)
    | with_reducible exact Frame.refl _ _
    | with_reducible apply Frame.ite
    | with_reducible apply Frame.foldl
    | split
    | with_reducible apply Frame.set_score _ (by decide)

theorem State.sliceBadM_frame (s0 : State) (a1 : Nat) : Frame [.regs, .arb] s0 (State.sliceBadM s0 a1) := by
  unfold State.sliceBadM
  repeat' first
    | with_reducible assumption
    | intro _
    | (extract_lets -merge +onlyGivenNames x; refine (have hx : Frame [.regs, .arb] s0 x := ?_; ?_); rotate_left; clear_value x; rotate_left; subst x)
    | (extract_lets -merge +onlyGivenNames x; clear_value x)
    | with_reducible exact Frame.refl _ _
    | with_reducible apply Frame.ite
    | with_reducible apply Frame.foldl
    | with_reducible apply Frame.via (State.setBit_frame _ _ _ _) (by decide)
    | with_reducible apply Frame.via (State.setLogged_frame _ _ _ _ _) (by decide)
    | with_reducible apply Frame.via (State.incF_frame _ _ _ _ _) (by decide)
    | split

theorem State.sliceViolation_frame (s0 : State) (a1 : Nat) (a2 : Nat) (a3 : Nat) : Frame [.regs, .press, .score, .arb] s0 (State.sliceViolation s0 a1 a2 a3) := by
  unfold State.sliceViolation
  repeat' first
    | with_reducible assumption
    | intro _
    | (extract_lets -merge +onlyGivenNames x; refine (have hx : Frame [.regs, .press, .score, .arb] s0 x := ?_; ?_); rotate_left; clear_value x; rotate_left; subst x)
    | (extract_lets -merge +onlyGivenNames x; clear_value x)
    | with_reducible exact Frame.refl _ _
    | with_reducible apply Frame.ite
    | with_reducible apply Frame.foldl
    | with_reducible apply Frame.via (State.setF_frame _ _ _ _ _) (by decide)
    | with_reducible apply Frame.via (State.setLogged_frame _ _ _ _ _) (by decide)
    | with_reducible apply Frame.via (State.endStream_frame _ _ _) (by decide)
    | split

theorem State.startResend_frame (s0 : State) (a1 : Nat) (a2 : Desc) (a3 : List (Prod Nat Nat)) : Frame [.regs, .score, .arb] s0 (State.startResend s0 a1 a2 a3) := by
  unfold State.startResend
  repeat' first
    | with_reducible assumption
    | intro _
    | (extract_lets -merge +onlyGivenNames x; refine (have hx : Frame [.regs, .score, .arb] s0 x := ?_; ?_); rotate_left; clear_value x; rotate_left; subst x)
    | (extract_lets -merge +onlyGivenNames x; clear_value x)
    | with_reducible exact Frame.refl _ _
    | with_reducible apply Frame.ite
    | with_reducible apply Frame.foldl
    | with_reducible apply Frame.via (State.setLogged_frame _ _ _ _ _) (by decide)
    | with_reducible apply Frame.via (State.incF_frame _ _ _ _ _) (by decide)
    | with_reducible apply Frame.via (State.addFlight_frame _ _) (by decide)
    | with_reducible apply Frame.via (State.mapDesc_frame _ _ _ _) (by decide)
    | with_reducible apply Frame.via (State.syncDarn_frame _) (by decide)
    | split
    | with_reducible apply Frame.set_score _ (by decide)

theorem State.linMove_frame (s0 : State) (a1 : Nat) (a2 : Nat) (a3 : Nat) (a4 : Nat) : Frame [.regs] s0 (State.linMove s0 a1 a2 a3 a4) := by
  unfold State.linMove
  repeat' first
    | with_reducible assumption
    | intro _
    | (extract_lets -merge +onlyGivenNames x; refine (have hx : Frame [.regs] s0 x := ?_; ?_); rotate_left; clear_value x; rotate_left; subst x)
    | (extract_lets -merge +onlyGivenNames x; clear_value x)
    | with_reducible exact Frame.refl _ _
    | with_reducible apply Frame.ite
    | with_reducible apply Frame.foldl
    | with_reducible apply Frame.via (State.setF_frame _ _ _ _ _) (by decide)
    | with_reducible apply Frame.via (State.peakF_frame _ _ _ _ _) (by decide)
    | split

theorem State.linRelease_frame (s0 : State) (a1 : Nat) (a2 : Nat) : Frame [.regs, .books] s0 (State.linRelease s0 a1 a2).1 := by
  unfold State.linRelease
  repeat' first
    | with_reducible assumption
    | intro _
    | (extract_lets -merge +onlyGivenNames x; refine (have hx : Frame [.regs, .books] s0 x := ?_; ?_); rotate_left; clear_value x; rotate_left; subst x)
    | (extract_lets -merge +onlyGivenNames x; clear_value x)
    | with_reducible exact Frame.refl _ _
    | with_reducible apply Frame.ite
    | with_reducible apply Frame.foldl
    | with_reducible apply Frame.via (State.setF_frame _ _ _ _ _) (by decide)
    | with_reducible apply Frame.via (State.linMove_frame _ _ _ _ _) (by decide)
    | split
    | with_reducible apply Frame.set_books _ (by decide)

theorem State.linReleases_frame (m c n : Nat) (s0 : State) : Frame [.regs, .books] s0 (State.linReleases m c n s0) := by
  induction n generalizing s0 with
  | zero => exact Frame.refl _ _
  | succ n ih => exact (Frame.via (State.linRelease_frame _ _ _) (by decide) (Frame.refl _ _)).trans (ih _)

theorem State.unstore_frame (s0 : State) (a1 : Stored) : Frame [.regs, .score, .books] s0 (State.unstore s0 a1) := by
  unfold State.unstore
  repeat' first
    | with_reducible assumption
    | intro _
    | (extract_lets -merge +onlyGivenNames x; refine (have hx : Frame [.regs, .score, .books] s0 x := ?_; ?_); rotate_left; clear_value x; rotate_left; subst x)
    | (extract_lets -merge +onlyGivenNames x; clear_value x)
    | with_reducible exact Frame.refl _ _
    | with_reducible apply Frame.ite
    | with_reducible apply Frame.foldl
    | with_reducible apply Frame.via (State.linReleases_frame _ _ _ _) (by decide)
    | split
    | with_reducible apply Frame.set_score _ (by decide)

theorem State.removeFlight_frame (s0 : State) (a1 : Flight) : Frame [.score] s0 (State.removeFlight s0 a1) := by
  unfold State.removeFlight
  repeat' first
    | with_reducible assumption
    | intro _
    | (extract_lets -merge +onlyGivenNames x; refine (have hx : Frame [.score] s0 x := ?_; ?_); rotate_left; clear_value x; rotate_left; subst x)
    | (extract_lets -merge +onlyGivenNames x; clear_value x)
    | with_reducible exact Frame.refl _ _
    | with_reducible apply Frame.ite
    | with_reducible apply Frame.foldl
    | split
    | with_reducible apply Frame.set_score _ (by decide)

theorem State.chanPeak_frame (s0 : State) (a1 : Nat) (a2 : Nat) : Frame [.regs] s0 (State.chanPeak s0 a1 a2) := by
  unfold State.chanPeak
  repeat' first
    | with_reducible assumption
    | intro _
    | (extract_lets -merge +onlyGivenNames x; refine (have hx : Frame [.regs] s0 x := ?_; ?_); rotate_left; clear_value x; rotate_left; subst x)
    | (extract_lets -merge +onlyGivenNames x; clear_value x)
    | with_reducible exact Frame.refl _ _
    | with_reducible apply Frame.ite
    | with_reducible apply Frame.foldl
    | with_reducible apply Frame.via (State.peakF_frame _ _ _ _ _) (by decide)
    | split

theorem State.linTake_frame (s0 : State) (m c : Nat) {t : State} {y : Bool} (h : s0.linTake m c = some (t, y)) : Frame [.regs] s0 t := by
  unfold State.linTake at h
  dsimp only at h
  split at h
  · cases h
    exact Frame.via (State.chanPeak_frame _ _ _) (by decide) (Frame.via (State.linMove_frame _ _ _ _ _) (by decide)
      (State.setF_frame _ _ _ _ _))
  · split at h
    · cases h
      exact Frame.via (State.chanPeak_frame _ _ _) (by decide) (Frame.via (State.linMove_frame _ _ _ _ _) (by decide)
        (State.setF_frame _ _ _ _ _))
    · cases h

theorem State.linTakes_frame (m c n : Nat) (s0 : State) : Frame [.regs] s0 (State.linTakes m c n s0).1 := by
  induction n generalizing s0 with
  | zero => exact Frame.refl _ _
  | succ n ih =>
    unfold State.linTakes
    split
    · rename_i h
      exact (State.linTake_frame _ _ _ h).trans (ih _)
    · exact Frame.refl _ _

theorem State.storeBolt_frame (s0 : State) (a1 : Flight) (a2 : Option Nat) (a3 : Nat) : Frame [.regs, .score] s0 (State.storeBolt s0 a1 a2 a3) := by
  unfold State.storeBolt
  repeat' first
    | with_reducible assumption
    | intro _
    | (extract_lets -merge +onlyGivenNames x; refine (have hx : Frame [.regs, .score] s0 x := ?_; ?_); rotate_left; clear_value x; rotate_left; subst x)
    | (extract_lets -merge +onlyGivenNames x; refine (have hx : Frame [.regs, .score] s0 x.1 := ?_; ?_); rotate_left; clear_value x; rotate_left; subst x)
    | (extract_lets -merge +onlyGivenNames x; refine (have hf : _ → _ := x; ?_); clear hf; subst x)
    | (extract_lets -merge +onlyGivenNames x; clear_value x)
    | with_reducible exact Frame.refl _ _
    | with_reducible apply Frame.ite
    | with_reducible apply Frame.ite1
    | with_reducible apply Frame.foldl
    | with_reducible apply Frame.foldl1
    | with_reducible apply Frame.idf
    | with_reducible apply Frame.via (State.linTakes_frame _ _ _ _) (by decide)
    | with_reducible refine Frame.via (Frame.of_eq1 (State.linTakes_frame _ _ _ _) (by assumption)) (by decide) ?_
    | split
    | with_reducible apply Frame.set_score _ (by decide)

theorem State.exitHead_frame (s0 : State) (a1 : Flight) (a2 : Nat) (a3 : Bool) : Frame [.regs, .linkTx, .legacy, .score, .arb] s0 (State.exitHead s0 a1 a2 a3) := by
  unfold State.exitHead
  repeat' first
    | with_reducible assumption
    | intro _
    | (extract_lets -merge +onlyGivenNames x; refine (have hx : Frame [.regs, .linkTx, .legacy, .score, .arb] s0 x := ?_; ?_); rotate_left; clear_value x; rotate_left; subst x)
    | (extract_lets -merge +onlyGivenNames x; refine (have hx : Frame [.regs, .linkTx, .legacy, .score, .arb] s0 x.1 := ?_; ?_); rotate_left; clear_value x; rotate_left; subst x)
    | (extract_lets -merge +onlyGivenNames x; refine (have hf : _ → _ := x; ?_); clear hf; subst x)
    | (extract_lets -merge +onlyGivenNames x; clear_value x)
    | with_reducible exact Frame.refl _ _
    | with_reducible apply Frame.ite
    | with_reducible apply Frame.ite1
    | with_reducible apply Frame.foldl
    | with_reducible apply Frame.foldl1
    | with_reducible apply Frame.idf
    | with_reducible apply Frame.via (State.addFlight_frame _ _) (by decide)
    | with_reducible apply Frame.via (State.dropFlight_frame _ _) (by decide)
    | with_reducible apply Frame.via (State.fenceCount_frame _ _ _) (by decide)
    | with_reducible apply Frame.via (State.leaveOn_frame _ _ _ _ _ _) (by decide)
    | with_reducible apply Frame.via (State.linkDiscard_frame _ _) (by decide)
    | with_reducible apply Frame.via (State.setFlight_frame _ _) (by decide)
    | with_reducible apply Frame.via (State.removeFlight_frame _ _) (by decide)
    | with_reducible apply Frame.via (State.storeBolt_frame _ _ _ _) (by decide)
    | split

theorem State.setSeamDyn_frame (s0 : State) (a1 : Nat) (a2 : Nat) (a3 : SeamDyn) : Frame [.seams] s0 (State.setSeamDyn s0 a1 a2 a3) := by
  unfold State.setSeamDyn
  repeat' first
    | with_reducible assumption
    | intro _
    | (extract_lets -merge +onlyGivenNames x; refine (have hx : Frame [.seams] s0 x := ?_; ?_); rotate_left; clear_value x; rotate_left; subst x)
    | (extract_lets -merge +onlyGivenNames x; clear_value x)
    | with_reducible exact Frame.refl _ _
    | with_reducible apply Frame.ite
    | with_reducible apply Frame.foldl
    | split
    | with_reducible apply Frame.set_seams _ (by decide)

theorem State.seamSkid_frame (s0 : State) (a1 : Nat) (a2 : Nat) (a3 : SkidObs) : Frame [.regs, .seams, .arb] s0 (State.seamSkid s0 a1 a2 a3).1 := by
  unfold State.seamSkid
  repeat' first
    | with_reducible assumption
    | intro _
    | (extract_lets -merge +onlyGivenNames x; refine (have hx : Frame [.regs, .seams, .arb] s0 x := ?_; ?_); rotate_left; clear_value x; rotate_left; subst x)
    | (extract_lets -merge +onlyGivenNames x; clear_value x)
    | with_reducible exact Frame.refl _ _
    | with_reducible apply Frame.ite
    | with_reducible apply Frame.foldl
    | with_reducible apply Frame.via (State.setLogged_frame _ _ _ _ _) (by decide)
    | with_reducible apply Frame.via (State.incF_frame _ _ _ _ _) (by decide)
    | with_reducible apply Frame.via (State.peakF_frame _ _ _ _ _) (by decide)
    | with_reducible apply Frame.via (State.setSeamDyn_frame _ _ _ _) (by decide)
    | split

theorem State.skidGrow_frame (l n : Nat) (s0 : State) : Frame [.regs, .lk] s0 (State.skidGrow l n s0).1 := by
  induction n generalizing s0 with
  | zero => exact Frame.refl _ _
  | succ n ih =>
    unfold State.skidGrow
    split
    · rename_i h
      exact ((Frame.via (State.setLnkDyn_frame _ _ _) (by decide) ((State.linTake_frame _ _ _ h).mono (by decide)))).trans (ih _)
    · exact Frame.refl _ _

theorem State.decideHold_frame (s0 : State) (a1 : Nat) : Frame [.lk] s0 (State.decideHold s0 a1) := by
  unfold State.decideHold
  repeat' first
    | with_reducible assumption
    | intro _
    | (extract_lets -merge +onlyGivenNames x; refine (have hx : Frame [.lk] s0 x := ?_; ?_); rotate_left; clear_value x; rotate_left; subst x)
    | (extract_lets -merge +onlyGivenNames x; clear_value x)
    | with_reducible exact Frame.refl _ _
    | with_reducible apply Frame.ite
    | with_reducible apply Frame.foldl
    | with_reducible apply Frame.via (State.setLnkDyn_frame _ _ _) (by decide)
    | split

theorem State.skidShrink_frame (l n : Nat) (s0 : State) : Frame [.regs, .lk, .books] s0 (State.skidShrink l n s0) := by
  induction n generalizing s0 with
  | zero => exact Frame.refl _ _
  | succ n ih =>
    exact ((Frame.via (State.setLnkDyn_frame _ _ _) (by decide) ((State.linRelease_frame _ _ _).mono (by decide)))).trans (ih _)

theorem State.linkSkid_frame (s0 : State) (a1 : Nat) (a2 : SkidObs) : Frame [.regs, .lk, .books, .arb] s0 (State.linkSkid s0 a1 a2).1 := by
  unfold State.linkSkid
  repeat' first
    | with_reducible assumption
    | intro _
    | (extract_lets -merge +onlyGivenNames x; refine (have hx : Frame [.regs, .lk, .books, .arb] s0 x := ?_; ?_); rotate_left; clear_value x; rotate_left; subst x)
    | (extract_lets -merge +onlyGivenNames x; refine (have hx : Frame [.regs, .lk, .books, .arb] s0 x.1 := ?_; ?_); rotate_left; clear_value x; rotate_left; subst x)
    | (extract_lets -merge +onlyGivenNames x; refine (have hf : _ → _ := x; ?_); clear hf; subst x)
    | (extract_lets -merge +onlyGivenNames x; clear_value x)
    | with_reducible exact Frame.refl _ _
    | with_reducible apply Frame.ite
    | with_reducible apply Frame.ite1
    | with_reducible apply Frame.foldl
    | with_reducible apply Frame.foldl1
    | with_reducible apply Frame.idf
    | with_reducible apply Frame.via (State.setLogged_frame _ _ _ _ _) (by decide)
    | with_reducible apply Frame.via (State.incF_frame _ _ _ _ _) (by decide)
    | with_reducible apply Frame.via (State.setLnkDyn_frame _ _ _) (by decide)
    | with_reducible apply Frame.via (State.peakF_frame _ _ _ _ _) (by decide)
    | with_reducible apply Frame.via (State.skidGrow_frame _ _ _) (by decide)
    | with_reducible apply Frame.via (State.decideHold_frame _ _) (by decide)
    | with_reducible apply Frame.via (State.skidShrink_frame _ _ _) (by decide)
    | with_reducible refine Frame.via (Frame.of_eq1 (State.skidGrow_frame _ _ _) (by assumption)) (by decide) ?_
    | split

theorem State.inputObs_frame (s0 : State) (a1 : Flight) (a2 : SkidObs) : Frame [.regs, .lk, .seams, .books, .arb] s0 (State.inputObs s0 a1 a2).1 := by
  unfold State.inputObs
  repeat' first
    | with_reducible assumption
    | intro _
    | (extract_lets -merge +onlyGivenNames x; refine (have hx : Frame [.regs, .lk, .seams, .books, .arb] s0 x := ?_; ?_); rotate_left; clear_value x; rotate_left; subst x)
    | (extract_lets -merge +onlyGivenNames x; clear_value x)
    | with_reducible exact Frame.refl _ _
    | with_reducible apply Frame.ite
    | with_reducible apply Frame.foldl
    | with_reducible apply Frame.via (State.seamSkid_frame _ _ _ _) (by decide)
    | with_reducible apply Frame.via (State.linkSkid_frame _ _ _) (by decide)
    | with_reducible refine Frame.via (Frame.of_eq1 (State.seamSkid_frame _ _ _ _) (by assumption)) (by decide) ?_
    | with_reducible refine Frame.via (Frame.of_eq1 (State.linkSkid_frame _ _ _) (by assumption)) (by decide) ?_
    | split

theorem execBoltExitLookup_frame (s0 : State) (a0 : Nat) (a1 : Bool) (a2 : SkidObs) : Completes (execBoltExitLookup a0 a1 a2 s0) (Frame [.regs, .press, .linkTx, .lk, .seams, .legacy, .score, .books, .arb] s0) := by
  unfold execBoltExitLookup
  refine ⟨_, rfl, ?_⟩
  repeat' first
    | with_reducible assumption
    | intro _
    | (extract_lets -merge +onlyGivenNames x; refine (have hx : Frame [.regs, .press, .linkTx, .lk, .seams, .legacy, .score, .books, .arb] s0 x := ?_; ?_); rotate_left; clear_value x; rotate_left; subst x)
    | (extract_lets -merge +onlyGivenNames x; refine (have hx : Frame [.regs, .press, .linkTx, .lk, .seams, .legacy, .score, .books, .arb] s0 x.1 := ?_; ?_); rotate_left; clear_value x; rotate_left; subst x)
    | (extract_lets -merge +onlyGivenNames x; refine (have hf : _ → _ := x; ?_); clear hf; subst x)
    | (extract_lets -merge +onlyGivenNames x; clear_value x)
    | with_reducible exact Frame.refl _ _
    | with_reducible apply Frame.ite
    | with_reducible apply Frame.ite1
    | with_reducible apply Frame.foldl
    | with_reducible apply Frame.foldl1
    | with_reducible apply Frame.idf
    | with_reducible apply Frame.via (State.rankMiss_frame _ _ _) (by decide)
    | with_reducible apply Frame.via (State.setFlight_frame _ _) (by decide)
    | with_reducible apply Frame.via (State.sliceViolation_frame _ _ _ _) (by decide)
    | with_reducible apply Frame.via (State.removeFlight_frame _ _) (by decide)
    | with_reducible apply Frame.via (State.exitHead_frame _ _ _ _) (by decide)
    | with_reducible apply Frame.via (State.inputObs_frame _ _ _) (by decide)
    | with_reducible refine Frame.via (Frame.of_eq1 (State.inputObs_frame _ _ _) (by assumption)) (by decide) ?_
    | split

theorem State.queueKnot_frame (s0 : State) (a1 : Nat) (a2 : Bool) (a3 : Nat) (a4 : Nat) (a5 : Nat) (a6 : Nat) : Frame [.regs, .score] s0 (State.queueKnot s0 a1 a2 a3 a4 a5 a6) := by
  unfold State.queueKnot
  repeat' first
    | with_reducible assumption
    | intro _
    | (extract_lets -merge +onlyGivenNames x; refine (have hx : Frame [.regs, .score] s0 x := ?_; ?_); rotate_left; clear_value x; rotate_left; subst x)
    | (extract_lets -merge +onlyGivenNames x; refine (have hx : Frame [.regs, .score] s0 x.1 := ?_; ?_); rotate_left; clear_value x; rotate_left; subst x)
    | (extract_lets -merge +onlyGivenNames x; refine (have hf : _ → _ := x; ?_); clear hf; subst x)
    | (extract_lets -merge +onlyGivenNames x; clear_value x)
    | with_reducible exact Frame.refl _ _
    | with_reducible apply Frame.ite
    | with_reducible apply Frame.ite1
    | with_reducible apply Frame.foldl
    | with_reducible apply Frame.foldl1
    | with_reducible apply Frame.idf
    | with_reducible apply Frame.via (State.incF_frame _ _ _ _ _) (by decide)
    | split
    | with_reducible apply Frame.set_score _ (by decide)

theorem State.setWindow_frame (s0 : State) (a1 : Window) : Frame [.regs, .score] s0 (State.setWindow s0 a1) := by
  unfold State.setWindow
  repeat' first
    | with_reducible assumption
    | intro _
    | (extract_lets -merge +onlyGivenNames x; refine (have hx : Frame [.regs, .score] s0 x := ?_; ?_); rotate_left; clear_value x; rotate_left; subst x)
    | (extract_lets -merge +onlyGivenNames x; clear_value x)
    | with_reducible exact Frame.refl _ _
    | with_reducible apply Frame.ite
    | with_reducible apply Frame.foldl
    | with_reducible apply Frame.via (State.setF_frame _ _ _ _ _) (by decide)
    | split
    | with_reducible apply Frame.set_score _ (by decide)

theorem State.setUnison_frame (s0 : State) (a1 : Unison) : Frame [.unison] s0 (State.setUnison s0 a1) := by
  unfold State.setUnison
  repeat' first
    | with_reducible assumption
    | intro _
    | (extract_lets -merge +onlyGivenNames x; refine (have hx : Frame [.unison] s0 x := ?_; ?_); rotate_left; clear_value x; rotate_left; subst x)
    | (extract_lets -merge +onlyGivenNames x; clear_value x)
    | with_reducible exact Frame.refl _ _
    | with_reducible apply Frame.ite
    | with_reducible apply Frame.foldl
    | split
    | with_reducible apply Frame.set_unison _ (by decide)

theorem State.captureIncomplete_frame (s0 : State) : Frame [.regs, .arb] s0 (State.captureIncomplete s0) := by
  unfold State.captureIncomplete
  repeat' first
    | with_reducible assumption
    | intro _
    | (extract_lets -merge +onlyGivenNames x; refine (have hx : Frame [.regs, .arb] s0 x := ?_; ?_); rotate_left; clear_value x; rotate_left; subst x)
    | (extract_lets -merge +onlyGivenNames x; clear_value x)
    | with_reducible exact Frame.refl _ _
    | with_reducible apply Frame.ite
    | with_reducible apply Frame.foldl
    | with_reducible apply Frame.via (State.setF_frame _ _ _ _ _) (by decide)
    | with_reducible apply Frame.via (State.setLogged_frame _ _ _ _ _) (by decide)
    | split

theorem State.logItem_frame (s0 : State) (a1 : LogItem) : Frame [.regs, .unison, .arb] s0 (State.logItem s0 a1) := by
  unfold State.logItem
  repeat' first
    | with_reducible assumption
    | intro _
    | (extract_lets -merge +onlyGivenNames x; refine (have hx : Frame [.regs, .unison, .arb] s0 x := ?_; ?_); rotate_left; clear_value x; rotate_left; subst x)
    | (extract_lets -merge +onlyGivenNames x; clear_value x)
    | with_reducible exact Frame.refl _ _
    | with_reducible apply Frame.ite
    | with_reducible apply Frame.foldl
    | with_reducible apply Frame.via (State.setF_frame _ _ _ _ _) (by decide)
    | with_reducible apply Frame.via (State.setUnison_frame _ _) (by decide)
    | with_reducible apply Frame.via (State.captureIncomplete_frame _) (by decide)
    | split

theorem State.landLines_frame (p : Nat) (f : Flight) (upto fuel : Nat) (s0 : State) :
    Frame [.regs, .mem, .unison, .arb] s0 (State.landLines p f upto fuel s0).1 := by
  induction fuel generalizing f s0 with
  | zero => exact Frame.refl _ _
  | succ n ih =>
    unfold State.landLines
    refine Frame.ite1 (fun _ => Frame.refl _ _) (fun _ => Frame.ite1 (fun _ => Frame.refl _ _) (fun _ => ?_))
    refine Frame.trans ?_ (ih _ _)
    have h := (State.writeBoard_frame s0 p (512 * f.hdr.dblk + 64 * f.lines) (Sys2Proof.Machine.slice f.payload (64 * f.lines) 64))
    exact Frame.ite (fun _ => Frame.via (State.logItem_frame _ _) (by decide) (h.mono (by decide))) (fun _ => h.mono (by decide))

theorem State.rxDrop_frame (s0 : State) (a1 : Flight) (a2 : Fld) : Frame [.regs, .score] s0 (State.rxDrop s0 a1 a2) := by
  unfold State.rxDrop
  repeat' first
    | with_reducible assumption
    | intro _
    | (extract_lets -merge +onlyGivenNames x; refine (have hx : Frame [.regs, .score] s0 x := ?_; ?_); rotate_left; clear_value x; rotate_left; subst x)
    | (extract_lets -merge +onlyGivenNames x; clear_value x)
    | with_reducible exact Frame.refl _ _
    | with_reducible apply Frame.ite
    | with_reducible apply Frame.foldl
    | with_reducible apply Frame.via (State.setBit_frame _ _ _ _) (by decide)
    | with_reducible apply Frame.via (State.incF_frame _ _ _ _ _) (by decide)
    | with_reducible apply Frame.via (State.dropFlight_frame _ _) (by decide)
    | split

theorem State.acceptHead_frame (s0 : State) (a1 : Flight) (a2 : Nat) : Frame [.regs, .mem, .score, .unison, .arb] s0 (State.acceptHead s0 a1 a2) := by
  unfold State.acceptHead
  repeat' first
    | with_reducible assumption
    | intro _
    | (extract_lets -merge +onlyGivenNames x; refine (have hx : Frame [.regs, .mem, .score, .unison, .arb] s0 x := ?_; ?_); rotate_left; clear_value x; rotate_left; subst x)
    | (extract_lets -merge +onlyGivenNames x; refine (have hx : Frame [.regs, .mem, .score, .unison, .arb] s0 x.1 := ?_; ?_); rotate_left; clear_value x; rotate_left; subst x)
    | (extract_lets -merge +onlyGivenNames x; refine (have hf : _ → _ := x; ?_); clear hf; subst x)
    | (extract_lets -merge +onlyGivenNames x; clear_value x)
    | with_reducible exact Frame.refl _ _
    | with_reducible apply Frame.ite
    | with_reducible apply Frame.ite1
    | with_reducible apply Frame.foldl
    | with_reducible apply Frame.foldl1
    | with_reducible apply Frame.idf
    | with_reducible apply Frame.via (State.setBit_frame _ _ _ _) (by decide)
    | with_reducible apply Frame.via (State.logBits_frame _ _ _ _ _) (by decide)
    | with_reducible apply Frame.via (State.incF_frame _ _ _ _ _) (by decide)
    | with_reducible apply Frame.via (State.dropFlight_frame _ _) (by decide)
    | with_reducible apply Frame.via (State.headerBad_frame _ _) (by decide)
    | with_reducible apply Frame.via (State.setFlight_frame _ _) (by decide)
    | with_reducible apply Frame.via (State.queueKnot_frame _ _ _ _ _ _ _) (by decide)
    | with_reducible apply Frame.via (State.setWindow_frame _ _) (by decide)
    | with_reducible apply Frame.via (State.landLines_frame _ _ _ _ _) (by decide)
    | with_reducible apply Frame.via (State.rxDrop_frame _ _ _) (by decide)
    | with_reducible refine Frame.via (Frame.of_eq1 (State.landLines_frame _ _ _ _ _) (by assumption)) (by decide) ?_
    | split

theorem execBoltHeadAccept_frame (s0 : State) (a0 : Nat) (a1 : Fin 129) (a2 : SkidObs) : Completes (execBoltHeadAccept a0 a1 a2 s0) (Frame [.regs, .mem, .lk, .seams, .score, .books, .unison, .arb] s0) := by
  unfold execBoltHeadAccept
  refine ⟨_, rfl, ?_⟩
  repeat' first
    | with_reducible assumption
    | intro _
    | (extract_lets -merge +onlyGivenNames x; refine (have hx : Frame [.regs, .mem, .lk, .seams, .score, .books, .unison, .arb] s0 x := ?_; ?_); rotate_left; clear_value x; rotate_left; subst x)
    | (extract_lets -merge +onlyGivenNames x; refine (have hx : Frame [.regs, .mem, .lk, .seams, .score, .books, .unison, .arb] s0 x.1 := ?_; ?_); rotate_left; clear_value x; rotate_left; subst x)
    | (extract_lets -merge +onlyGivenNames x; refine (have hf : _ → _ := x; ?_); clear hf; subst x)
    | (extract_lets -merge +onlyGivenNames x; clear_value x)
    | with_reducible exact Frame.refl _ _
    | with_reducible apply Frame.ite
    | with_reducible apply Frame.ite1
    | with_reducible apply Frame.foldl
    | with_reducible apply Frame.foldl1
    | with_reducible apply Frame.idf
    | with_reducible apply Frame.via (State.inputObs_frame _ _ _) (by decide)
    | with_reducible apply Frame.via (State.acceptHead_frame _ _ _) (by decide)
    | with_reducible refine Frame.via (Frame.of_eq1 (State.inputObs_frame _ _ _) (by assumption)) (by decide) ?_
    | split

theorem State.advance_frame (s0 : State) (a1 : Flight) (a2 : Bool) (a3 : SkidObs) : Frame [.regs, .linkTx, .lk, .seams, .legacy, .score, .books, .arb] s0 (State.advance s0 a1 a2 a3) := by
  unfold State.advance
  repeat' first
    | with_reducible assumption
    | intro _
    | (extract_lets -merge +onlyGivenNames x; refine (have hx : Frame [.regs, .linkTx, .lk, .seams, .legacy, .score, .books, .arb] s0 x := ?_; ?_); rotate_left; clear_value x; rotate_left; subst x)
    | (extract_lets -merge +onlyGivenNames x; refine (have hx : Frame [.regs, .linkTx, .lk, .seams, .legacy, .score, .books, .arb] s0 x.1 := ?_; ?_); rotate_left; clear_value x; rotate_left; subst x)
    | (extract_lets -merge +onlyGivenNames x; refine (have hf : _ → _ := x; ?_); clear hf; subst x)
    | (extract_lets -merge +onlyGivenNames x; clear_value x)
    | with_reducible exact Frame.refl _ _
    | with_reducible apply Frame.ite
    | with_reducible apply Frame.ite1
    | with_reducible apply Frame.foldl
    | with_reducible apply Frame.foldl1
    | with_reducible apply Frame.idf
    | with_reducible apply Frame.via (State.dropFlight_frame _ _) (by decide)
    | with_reducible apply Frame.via (State.headerBad_frame _ _) (by decide)
    | with_reducible apply Frame.via (State.setFlight_frame _ _) (by decide)
    | with_reducible apply Frame.via (State.exitHead_frame _ _ _ _) (by decide)
    | with_reducible apply Frame.via (State.inputObs_frame _ _ _) (by decide)
    | with_reducible refine Frame.via (Frame.of_eq1 (State.inputObs_frame _ _ _) (by assumption)) (by decide) ?_
    | split

theorem execBoltHeadRoute_frame (s0 : State) (a0 : Nat) (a1 : Bool) (a2 : SkidObs) : Completes (execBoltHeadRoute a0 a1 a2 s0) (Frame [.regs, .linkTx, .lk, .seams, .legacy, .score, .books, .arb] s0) := by
  unfold execBoltHeadRoute
  refine ⟨_, rfl, ?_⟩
  repeat' first
    | with_reducible assumption
    | intro _
    | (extract_lets -merge +onlyGivenNames x; refine (have hx : Frame [.regs, .linkTx, .lk, .seams, .legacy, .score, .books, .arb] s0 x := ?_; ?_); rotate_left; clear_value x; rotate_left; subst x)
    | (extract_lets -merge +onlyGivenNames x; clear_value x)
    | with_reducible exact Frame.refl _ _
    | with_reducible apply Frame.ite
    | with_reducible apply Frame.foldl
    | with_reducible apply Frame.via (State.advance_frame _ _ _ _) (by decide)
    | split

theorem State.enterPackage_frame (s0 : State) (a1 : Nat) (a2 : BoltHdr) (a3 : List Byte) (a4 : Nat) (a5 : Bool) (a6 : Bool) (a7 : Bool) (a8 : Bool) : Frame [.regs, .linkTx, .lk, .seams, .legacy, .score, .books, .arb] s0 (State.enterPackage s0 a1 a2 a3 a4 a5 a6 a7 a8) := by
  unfold State.enterPackage
  repeat' first
    | with_reducible assumption
    | intro _
    | (extract_lets -merge +onlyGivenNames x; refine (have hx : Frame [.regs, .linkTx, .lk, .seams, .legacy, .score, .books, .arb] s0 x := ?_; ?_); rotate_left; clear_value x; rotate_left; subst x)
    | (extract_lets -merge +onlyGivenNames x; refine (have hx : Frame [.regs, .linkTx, .lk, .seams, .legacy, .score, .books, .arb] s0 x.1 := ?_; ?_); rotate_left; clear_value x; rotate_left; subst x)
    | (extract_lets -merge +onlyGivenNames x; refine (have hf : _ → _ := x; ?_); clear hf; subst x)
    | (extract_lets -merge +onlyGivenNames x; clear_value x)
    | with_reducible exact Frame.refl _ _
    | with_reducible apply Frame.ite
    | with_reducible apply Frame.ite1
    | with_reducible apply Frame.foldl
    | with_reducible apply Frame.foldl1
    | with_reducible apply Frame.idf
    | with_reducible apply Frame.via (State.setBit_frame _ _ _ _) (by decide)
    | with_reducible apply Frame.via (State.incF_frame _ _ _ _ _) (by decide)
    | with_reducible apply Frame.via (State.addFlight_frame _ _) (by decide)
    | with_reducible apply Frame.via (State.storeBolt_frame _ _ _ _) (by decide)
    | with_reducible apply Frame.via (State.advance_frame _ _ _ _) (by decide)
    | split

theorem State.boltFromLink_frame (s0 : State) (a1 : Nat) (a2 : BoltHdr) (a3 : Bool) (a4 : List Byte) (a5 : Nat) (a6 : Bool) (a7 : Bool) (a8 : Bool) (a9 : Bool) : Frame [.regs, .linkTx, .lk, .seams, .legacy, .score, .books, .arb] s0 (State.boltFromLink s0 a1 a2 a3 a4 a5 a6 a7 a8 a9) := by
  unfold State.boltFromLink
  repeat' first
    | with_reducible assumption
    | intro _
    | (extract_lets -merge +onlyGivenNames x; refine (have hx : Frame [.regs, .linkTx, .lk, .seams, .legacy, .score, .books, .arb] s0 x := ?_; ?_); rotate_left; clear_value x; rotate_left; subst x)
    | (extract_lets -merge +onlyGivenNames x; clear_value x)
    | with_reducible exact Frame.refl _ _
    | with_reducible apply Frame.ite
    | with_reducible apply Frame.foldl
    | with_reducible apply Frame.via (State.fenceCount_frame _ _ _) (by decide)
    | with_reducible apply Frame.via (State.headerBad_frame _ _) (by decide)
    | with_reducible apply Frame.via (State.sliceBadM_frame _ _) (by decide)
    | with_reducible apply Frame.via (State.enterPackage_frame _ _ _ _ _ _ _ _ _) (by decide)
    | split
    | with_reducible apply Frame.set_score _ (by decide)

theorem execBoltLinkArrival_frame (s0 : State) (a0 : Fin 12) (a1 : List (List Byte)) (a2 : Bool) (a3 : Bool) (a4 : SkidObs) : Completes (execBoltLinkArrival a0 a1 a2 a3 a4 s0) (Frame [.regs, .linkTx, .lk, .seams, .legacy, .score, .books, .arb] s0) := by
  unfold execBoltLinkArrival
  refine ⟨_, rfl, ?_⟩
  repeat' first
    | with_reducible assumption
    | intro _
    | (extract_lets -merge +onlyGivenNames x; refine (have hx : Frame [.regs, .linkTx, .lk, .seams, .legacy, .score, .books, .arb] s0 x := ?_; ?_); rotate_left; clear_value x; rotate_left; subst x)
    | (extract_lets -merge +onlyGivenNames x; refine (have hx : Frame [.regs, .linkTx, .lk, .seams, .legacy, .score, .books, .arb] s0 x.1 := ?_; ?_); rotate_left; clear_value x; rotate_left; subst x)
    | (extract_lets -merge +onlyGivenNames x; refine (have hf : _ → _ := x; ?_); clear hf; subst x)
    | (extract_lets -merge +onlyGivenNames x; clear_value x)
    | with_reducible exact Frame.refl _ _
    | with_reducible apply Frame.ite
    | with_reducible apply Frame.ite1
    | with_reducible apply Frame.foldl
    | with_reducible apply Frame.foldl1
    | with_reducible apply Frame.idf
    | with_reducible apply Frame.via (State.setBit_frame _ _ _ _) (by decide)
    | with_reducible apply Frame.via (State.incF_frame _ _ _ _ _) (by decide)
    | with_reducible apply Frame.via (State.linkSkid_frame _ _ _) (by decide)
    | with_reducible apply Frame.via (State.boltFromLink_frame _ _ _ _ _ _ _ _ _ _) (by decide)
    | with_reducible refine Frame.via (Frame.of_eq1 (State.linkSkid_frame _ _ _) (by assumption)) (by decide) ?_
    | split

theorem State.knotBit_frame (s0 : State) (a1 : Nat) (a2 : Bool) (a3 : Nat) (a4 : Desc) : Frame [.regs, .press, .score] s0 (State.knotBit s0 a1 a2 a3 a4) := by
  unfold State.knotBit
  repeat' first
    | with_reducible assumption
    | intro _
    | (extract_lets -merge +onlyGivenNames x; refine (have hx : Frame [.regs, .press, .score] s0 x := ?_; ?_); rotate_left; clear_value x; rotate_left; subst x)
    | (extract_lets -merge +onlyGivenNames x; clear_value x)
    | with_reducible exact Frame.refl _ _
    | with_reducible apply Frame.ite
    | with_reducible apply Frame.foldl
    | with_reducible apply Frame.via (State.incF_frame _ _ _ _ _) (by decide)
    | with_reducible apply Frame.via (State.mapDesc_frame _ _ _ _) (by decide)
    | with_reducible apply Frame.via (State.releaseDesc_frame _ _) (by decide)
    | with_reducible apply Frame.via (State.queueResend_frame _ _) (by decide)
    | split

theorem State.applyKnot_frame (s0 : State) (a1 : Nat) (a2 : Knot) : Frame [.regs, .press, .score] s0 (State.applyKnot s0 a1 a2) := by
  unfold State.applyKnot
  repeat' first
    | with_reducible assumption
    | intro _
    | (extract_lets -merge +onlyGivenNames x; refine (have hx : Frame [.regs, .press, .score] s0 x := ?_; ?_); rotate_left; clear_value x; rotate_left; subst x)
    | (extract_lets -merge +onlyGivenNames x; clear_value x)
    | with_reducible exact Frame.refl _ _
    | with_reducible apply Frame.ite
    | with_reducible apply Frame.foldl
    | with_reducible apply Frame.via (State.incF_frame _ _ _ _ _) (by decide)
    | with_reducible apply Frame.via (State.knotBit_frame _ _ _ _ _) (by decide)
    | split
    | with_reducible apply Frame.set_score _ (by decide)

theorem State.recordArrives_frame (s0 : State) (a1 : Desc) : Frame [.regs, .press, .score] s0 (State.recordArrives s0 a1) := by
  unfold State.recordArrives
  repeat' first
    | with_reducible assumption
    | intro _
    | (extract_lets -merge +onlyGivenNames x; refine (have hx : Frame [.regs, .press, .score] s0 x := ?_; ?_); rotate_left; clear_value x; rotate_left; subst x)
    | (extract_lets -merge +onlyGivenNames x; clear_value x)
    | with_reducible exact Frame.refl _ _
    | with_reducible apply Frame.ite
    | with_reducible apply Frame.foldl
    | with_reducible apply Frame.via (State.mapDesc_frame _ _ _ _) (by decide)
    | with_reducible apply Frame.via (State.applyKnot_frame _ _ _) (by decide)
    | split
    | with_reducible apply Frame.set_score _ (by decide)

theorem execDescriptorRecordArrive_frame (s0 : State) (a0 : BitVec 12) (a1 : BitVec 16) : Completes (execDescriptorRecordArrive a0 a1 s0) (Frame [.regs, .press, .score] s0) := by
  unfold execDescriptorRecordArrive
  refine ⟨_, rfl, ?_⟩
  repeat' first
    | with_reducible assumption
    | intro _
    | (extract_lets -merge +onlyGivenNames x; refine (have hx : Frame [.regs, .press, .score] s0 x := ?_; ?_); rotate_left; clear_value x; rotate_left; subst x)
    | (extract_lets -merge +onlyGivenNames x; clear_value x)
    | with_reducible exact Frame.refl _ _
    | with_reducible apply Frame.ite
    | with_reducible apply Frame.foldl
    | with_reducible apply Frame.via (State.recordArrives_frame _ _) (by decide)
    | split

theorem execHeadAdvance_frame (s0 : State) (a0 : Nat) (a1 : Bool) (a2 : SkidObs) : Completes (execHeadAdvance a0 a1 a2 s0) (Frame [.regs, .linkTx, .lk, .seams, .legacy, .score, .books, .arb] s0) := by
  unfold execHeadAdvance
  refine ⟨_, rfl, ?_⟩
  repeat' first
    | with_reducible assumption
    | intro _
    | (extract_lets -merge +onlyGivenNames x; refine (have hx : Frame [.regs, .linkTx, .lk, .seams, .legacy, .score, .books, .arb] s0 x := ?_; ?_); rotate_left; clear_value x; rotate_left; subst x)
    | (extract_lets -merge +onlyGivenNames x; clear_value x)
    | with_reducible exact Frame.refl _ _
    | with_reducible apply Frame.ite
    | with_reducible apply Frame.foldl
    | with_reducible apply Frame.via (State.advance_frame _ _ _ _) (by decide)
    | split

theorem execKnotTimeout_frame (s0 : State) (a0 : Fin 2) : Completes (execKnotTimeout a0 s0) (Frame [.regs, .score] s0) := by
  unfold execKnotTimeout
  refine ⟨_, rfl, ?_⟩
  repeat' first
    | with_reducible assumption
    | intro _
    | (extract_lets -merge +onlyGivenNames x; refine (have hx : Frame [.regs, .score] s0 x := ?_; ?_); rotate_left; clear_value x; rotate_left; subst x)
    | (extract_lets -merge +onlyGivenNames x; clear_value x)
    | with_reducible exact Frame.refl _ _
    | with_reducible apply Frame.ite
    | with_reducible apply Frame.foldl
    | with_reducible apply Frame.via (State.incF_frame _ _ _ _ _) (by decide)
    | with_reducible apply Frame.via (State.queueResend_frame _ _) (by decide)
    | split

theorem execResendDepart_frame (s0 : State) (a0 : Fin 12) (a1 : BitVec 16) (a2 : Bool) : Completes (execResendDepart a0 a1 a2 s0) (Frame [.regs, .linkTx, .legacy, .score, .books, .arb] s0) := by
  unfold execResendDepart
  refine ⟨_, rfl, ?_⟩
  repeat' first
    | with_reducible assumption
    | intro _
    | (extract_lets -merge +onlyGivenNames x; refine (have hx : Frame [.regs, .linkTx, .legacy, .score, .books, .arb] s0 x := ?_; ?_); rotate_left; clear_value x; rotate_left; subst x)
    | (extract_lets -merge +onlyGivenNames x; clear_value x)
    | with_reducible exact Frame.refl _ _
    | with_reducible apply Frame.ite
    | with_reducible apply Frame.foldl
    | with_reducible apply Frame.via (State.incF_frame _ _ _ _ _) (by decide)
    | with_reducible apply Frame.via (State.resendOver_frame _ _ _) (by decide)
    | with_reducible apply Frame.via (State.fenceCount_frame _ _ _) (by decide)
    | with_reducible apply Frame.via (State.leaveOn_frame _ _ _ _ _ _) (by decide)
    | with_reducible apply Frame.via (State.linkDiscard_frame _ _) (by decide)
    | with_reducible apply Frame.via (State.unstore_frame _ _) (by decide)
    | split

theorem execResendForward_frame (s0 : State) (a0 : Fin 2) : Completes (execResendForward a0 s0) (Frame [.regs, .score, .books] s0) := by
  unfold execResendForward
  refine ⟨_, rfl, ?_⟩
  repeat' first
    | with_reducible assumption
    | intro _
    | (extract_lets -merge +onlyGivenNames x; refine (have hx : Frame [.regs, .score, .books] s0 x := ?_; ?_); rotate_left; clear_value x; rotate_left; subst x)
    | (extract_lets -merge +onlyGivenNames x; clear_value x)
    | with_reducible exact Frame.refl _ _
    | with_reducible apply Frame.ite
    | with_reducible apply Frame.foldl
    | with_reducible apply Frame.via (State.addFlight_frame _ _) (by decide)
    | with_reducible apply Frame.via (State.unstore_frame _ _) (by decide)
    | split

theorem execResendStart_frame (s0 : State) (a0 : Fin 2) : Completes (execResendStart a0 s0) (Frame [.regs, .score, .arb] s0) := by
  unfold execResendStart
  refine ⟨_, rfl, ?_⟩
  repeat' first
    | with_reducible assumption
    | intro _
    | (extract_lets -merge +onlyGivenNames x; refine (have hx : Frame [.regs, .score, .arb] s0 x := ?_; ?_); rotate_left; clear_value x; rotate_left; subst x)
    | (extract_lets -merge +onlyGivenNames x; clear_value x)
    | with_reducible exact Frame.refl _ _
    | with_reducible apply Frame.ite
    | with_reducible apply Frame.foldl
    | with_reducible apply Frame.via (State.syncDarn_frame _) (by decide)
    | with_reducible apply Frame.via (State.startResend_frame _ _ _ _) (by decide)
    | split
    | with_reducible apply Frame.set_score _ (by decide)

end Sys2Proof.Machine
end

