-- ==== Sys2Proof/Laws/Frames3.lean ====
section
/-! SUPPORT. The frames of operations and commands of Bolts, Boot, Census, Clocks, Desks, EthOps, HostOps, LinkOps, Ops,
Power, PressOps, ResetOps, SmOps, UnisonOps: the parts that each may change. -/

namespace Sys2Proof.Machine

theorem State.abandon_frame (s0 : State) (a1 : Flight) : Frame [.regs, .score] s0 (State.abandon s0 a1) := by
  unfold State.abandon
  repeat' first
    | with_reducible assumption
    | intro _
    | (extract_lets -merge +onlyGivenNames x; refine (have hx : Frame [.regs, .score] s0 x := ?_; ?_); rotate_left; clear_value x; rotate_left; subst x)
    | (extract_lets -merge +onlyGivenNames x; clear_value x)
    | with_reducible exact Frame.refl _ _
    | with_reducible apply Frame.ite
    | with_reducible apply Frame.foldl
    | with_reducible apply Frame.via (State.setBit_frame _ _ _ _) (by decide)
    | with_reducible apply Frame.via (State.incF_frame _ _ _ _ _) (by decide)
    | with_reducible apply Frame.via (State.dropFlight_frame _ _) (by decide)
    | with_reducible apply Frame.via (State.setWindow_frame _ _) (by decide)
    | split

theorem State.addTally_frame (s0 : State) (a1 : Nat) (a2 : Nat) (a3 : Nat) : Frame [.regs, .score] s0 (State.addTally s0 a1 a2 a3) := by
  unfold State.addTally
  repeat' first
    | with_reducible assumption
    | intro _
    | (extract_lets -merge +onlyGivenNames x; refine (have hx : Frame [.regs, .score] s0 x := ?_; ?_); rotate_left; clear_value x; rotate_left; subst x)
    | (extract_lets -merge +onlyGivenNames x; clear_value x)
    | with_reducible exact Frame.refl _ _
    | with_reducible apply Frame.ite
    | with_reducible apply Frame.foldl
    | with_reducible apply Frame.via (State.setBit_frame _ _ _ _) (by decide)
    | split
    | with_reducible apply Frame.set_score _ (by decide)

theorem State.boltDone_frame (s0 : State) (a1 : Flight) : Frame [.regs, .score, .books, .unison, .arb] s0 (State.boltDone s0 a1) := by
  unfold State.boltDone
  repeat' first
    | with_reducible assumption
    | intro _
    | (extract_lets -merge +onlyGivenNames x; refine (have hx : Frame [.regs, .score, .books, .unison, .arb] s0 x := ?_; ?_); rotate_left; clear_value x; rotate_left; subst x)
    | (extract_lets -merge +onlyGivenNames x; clear_value x)
    | with_reducible exact Frame.refl _ _
    | with_reducible apply Frame.ite
    | with_reducible apply Frame.foldl
    | with_reducible apply Frame.via (State.incF_frame _ _ _ _ _) (by decide)
    | with_reducible apply Frame.via (State.dropFlight_frame _ _) (by decide)
    | with_reducible apply Frame.via (State.queueKnot_frame _ _ _ _ _ _ _) (by decide)
    | with_reducible apply Frame.via (State.setWindow_frame _ _) (by decide)
    | with_reducible apply Frame.via (State.logItem_frame _ _) (by decide)
    | with_reducible apply Frame.via (State.addTally_frame _ _ _ _) (by decide)
    | split
    | with_reducible apply Frame.set_books _ (by decide)

theorem State.digestSend_frame (s0 : State) (a1 : Nat) (a2 : Nat) (a3 : BoltHdr) (a4 : List Byte) : Frame [.unison] s0 (State.digestSend s0 a1 a2 a3 a4) := by
  unfold State.digestSend
  repeat' first
    | with_reducible assumption
    | intro _
    | (extract_lets -merge +onlyGivenNames x; refine (have hx : Frame [.unison] s0 x := ?_; ?_); rotate_left; clear_value x; rotate_left; subst x)
    | (extract_lets -merge +onlyGivenNames x; clear_value x)
    | with_reducible exact Frame.refl _ _
    | with_reducible apply Frame.ite
    | with_reducible apply Frame.foldl
    | with_reducible apply Frame.via (State.setUnison_frame _ _) (by decide)
    | split

theorem State.depart_frame (s0 : State) (a1 : WaitSend) : Frame [.regs, .press, .score, .unison] s0 (State.depart s0 a1) := by
  unfold State.depart
  repeat' first
    | with_reducible assumption
    | intro _
    | (extract_lets -merge +onlyGivenNames x; refine (have hx : Frame [.regs, .press, .score, .unison] s0 x := ?_; ?_); rotate_left; clear_value x; rotate_left; subst x)
    | (extract_lets -merge +onlyGivenNames x; clear_value x)
    | with_reducible exact Frame.refl _ _
    | with_reducible apply Frame.ite
    | with_reducible apply Frame.foldl
    | with_reducible apply Frame.via (State.setF_frame _ _ _ _ _) (by decide)
    | with_reducible apply Frame.via (State.placeHold_frame _ _ _ _) (by decide)
    | with_reducible apply Frame.via (State.addFlight_frame _ _) (by decide)
    | with_reducible apply Frame.via (State.syncDarn_frame _) (by decide)
    | with_reducible apply Frame.via (State.digestSend_frame _ _ _ _ _) (by decide)
    | split
    | with_reducible apply Frame.set_score _ (by decide)

theorem State.inputDown_frame (s0 : State) (a1 : Flight → Bool) : Frame [.regs, .score] s0 (State.inputDown s0 a1) := by
  unfold State.inputDown
  repeat' first
    | with_reducible assumption
    | intro _
    | (extract_lets -merge +onlyGivenNames x; refine (have hx : Frame [.regs, .score] s0 x := ?_; ?_); rotate_left; clear_value x; rotate_left; subst x)
    | (extract_lets -merge +onlyGivenNames x; clear_value x)
    | with_reducible exact Frame.refl _ _
    | with_reducible apply Frame.ite
    | with_reducible apply Frame.foldl
    | with_reducible apply Frame.via (State.setFlight_frame _ _) (by decide)
    | with_reducible apply Frame.via (State.abandon_frame _ _) (by decide)
    | split

theorem State.landFlight_frame (s0 : State) (a1 : Flight) : Frame [.regs, .mem, .score, .books, .unison, .arb] s0 (State.landFlight s0 a1) := by
  unfold State.landFlight
  repeat' first
    | with_reducible assumption
    | intro _
    | (extract_lets -merge +onlyGivenNames x; refine (have hx : Frame [.regs, .mem, .score, .books, .unison, .arb] s0 x := ?_; ?_); rotate_left; clear_value x; rotate_left; subst x)
    | (extract_lets -merge +onlyGivenNames x; refine (have hx : Frame [.regs, .mem, .score, .books, .unison, .arb] s0 x.1 := ?_; ?_); rotate_left; clear_value x; rotate_left; subst x)
    | (extract_lets -merge +onlyGivenNames x; refine (have hf : _ → _ := x; ?_); clear hf; subst x)
    | (extract_lets -merge +onlyGivenNames x; clear_value x)
    | with_reducible exact Frame.refl _ _
    | with_reducible apply Frame.ite
    | with_reducible apply Frame.ite1
    | with_reducible apply Frame.foldl
    | with_reducible apply Frame.foldl1
    | with_reducible apply Frame.idf
    | with_reducible apply Frame.via (State.setFlight_frame _ _) (by decide)
    | with_reducible apply Frame.via (State.landLines_frame _ _ _ _ _) (by decide)
    | with_reducible apply Frame.via (State.abandon_frame _ _) (by decide)
    | with_reducible apply Frame.via (State.boltDone_frame _ _) (by decide)
    | with_reducible refine Frame.via (Frame.of_eq1 (State.landLines_frame _ _ _ _ _) (by assumption)) (by decide) ?_
    | split

theorem State.takeBolt_frame (s0 : State) (l : Nat) (free : Bool) {t : State} (h : s0.takeBolt l free = some t) :
    Frame [.regs, .linkTx, .lk, .seams, .legacy, .score, .books, .arb] s0 t := by
  unfold State.takeBolt at h
  obtain ⟨b, -, rfl⟩ := Option.map_eq_some_iff.mp h
  refine Frame.via (State.enterPackage_frame _ _ _ _ _ _ _ _ _) (by decide) ?_
  refine Frame.ite (fun _ => ?_) (fun _ => ?_)
  · exact Frame.via (State.freeCredits_frame _ _ _) (by decide) (Frame.set_score _ (by decide) (Frame.refl _ _))
  · exact Frame.set_score _ (by decide) (Frame.refl _ _)

theorem State.trySend_frame (s0 : State) (a1 : WaitSend) (a2 : List WaitSend) (a3 : Bool) (a4 : Nat) (a5 : Bool) : Frame [.regs, .press, .score, .unison] s0 (State.trySend s0 a1 a2 a3 a4 a5).1 := by
  unfold State.trySend
  repeat' first
    | with_reducible assumption
    | intro _
    | (extract_lets -merge +onlyGivenNames x; refine (have hx : Frame [.regs, .press, .score, .unison] s0 x := ?_; ?_); rotate_left; clear_value x; rotate_left; subst x)
    | (extract_lets -merge +onlyGivenNames x; clear_value x)
    | with_reducible exact Frame.refl _ _
    | with_reducible apply Frame.ite
    | with_reducible apply Frame.foldl
    | with_reducible apply Frame.via (State.incF_frame _ _ _ _ _) (by decide)
    | with_reducible apply Frame.via (State.depart_frame _ _) (by decide)
    | split

theorem State.setEthQueue_frame (s0 : State) (a1 : Nat) (a2 : EthQueue) : Frame [.eth] s0 (State.setEthQueue s0 a1 a2) := by
  unfold State.setEthQueue
  repeat' first
    | with_reducible assumption
    | intro _
    | (extract_lets -merge +onlyGivenNames x; refine (have hx : Frame [.eth] s0 x := ?_; ?_); rotate_left; clear_value x; rotate_left; subst x)
    | (extract_lets -merge +onlyGivenNames x; clear_value x)
    | with_reducible exact Frame.refl _ _
    | with_reducible apply Frame.ite
    | with_reducible apply Frame.foldl
    | split
    | with_reducible apply Frame.set_eth _ (by decide)

theorem State.setTempo_frame (s0 : State) (a1 : Tempo) : Frame [.tempo] s0 (State.setTempo s0 a1) := by
  unfold State.setTempo
  repeat' first
    | with_reducible assumption
    | intro _
    | (extract_lets -merge +onlyGivenNames x; refine (have hx : Frame [.tempo] s0 x := ?_; ?_); rotate_left; clear_value x; rotate_left; subst x)
    | (extract_lets -merge +onlyGivenNames x; clear_value x)
    | with_reducible exact Frame.refl _ _
    | with_reducible apply Frame.ite
    | with_reducible apply Frame.foldl
    | split
    | with_reducible apply Frame.set_tempo _ (by decide)

theorem State.stopPresses_frame (s0 : State) : Frame [.regs, .press, .sects] s0 (State.stopPresses s0) := by
  unfold State.stopPresses
  repeat' first
    | with_reducible assumption
    | intro _
    | (extract_lets -merge +onlyGivenNames x; refine (have hx : Frame [.regs, .press, .sects] s0 x := ?_; ?_); rotate_left; clear_value x; rotate_left; subst x)
    | (extract_lets -merge +onlyGivenNames x; clear_value x)
    | with_reducible exact Frame.refl _ _
    | with_reducible apply Frame.ite
    | with_reducible apply Frame.foldl
    | with_reducible apply Frame.via (State.setPrs_frame _ _ _) (by decide)
    | with_reducible apply Frame.via (State.pausePress_frame _ _) (by decide)
    | split

theorem State.replayStop_frame (s0 : State) : Frame [.regs, .tempo, .press, .sects, .unison] s0 (State.replayStop s0) := by
  unfold State.replayStop
  repeat' first
    | with_reducible assumption
    | intro _
    | (extract_lets -merge +onlyGivenNames x; refine (have hx : Frame [.regs, .tempo, .press, .sects, .unison] s0 x := ?_; ?_); rotate_left; clear_value x; rotate_left; subst x)
    | (extract_lets -merge +onlyGivenNames x; clear_value x)
    | with_reducible exact Frame.refl _ _
    | with_reducible apply Frame.ite
    | with_reducible apply Frame.foldl
    | with_reducible apply Frame.via (State.setUnison_frame _ _) (by decide)
    | with_reducible apply Frame.via (State.setTempo_frame _ _) (by decide)
    | with_reducible apply Frame.via (State.stopPresses_frame _) (by decide)
    | split

theorem State.dropCmdWrites_frame (s0 : State) (a1 : Cmd) : Frame [.press] s0 (State.dropCmdWrites s0 a1) := by
  unfold State.dropCmdWrites
  repeat' first
    | with_reducible assumption
    | intro _
    | (extract_lets -merge +onlyGivenNames x; refine (have hx : Frame [.press] s0 x := ?_; ?_); rotate_left; clear_value x; rotate_left; subst x)
    | (extract_lets -merge +onlyGivenNames x; clear_value x)
    | with_reducible exact Frame.refl _ _
    | with_reducible apply Frame.ite
    | with_reducible apply Frame.foldl
    | with_reducible apply Frame.via (State.setPrs_frame _ _ _) (by decide)
    | split

theorem State.abortCmd_frame (s0 : State) (a1 : Cmd) : Frame [.regs, .mem, .tempo, .patches, .press, .sects, .ports, .eth, .unison, .front] s0 (State.abortCmd s0 a1) := by
  unfold State.abortCmd
  repeat' first
    | with_reducible assumption
    | intro _
    | (extract_lets -merge +onlyGivenNames x; refine (have hx : Frame [.regs, .mem, .tempo, .patches, .press, .sects, .ports, .eth, .unison, .front] s0 x := ?_; ?_); rotate_left; clear_value x; rotate_left; subst x)
    | (extract_lets -merge +onlyGivenNames x; clear_value x)
    | with_reducible exact Frame.refl _ _
    | with_reducible apply Frame.ite
    | with_reducible apply Frame.foldl
    | with_reducible apply Frame.via (State.setF_frame _ _ _ _ _) (by decide)
    | with_reducible apply Frame.via (State.setPort_frame _ _ _) (by decide)
    | with_reducible apply Frame.via (State.complete_frame _ _ _ _) (by decide)
    | with_reducible apply Frame.via (State.setEthQueue_frame _ _ _) (by decide)
    | with_reducible apply Frame.via (State.setTempo_frame _ _) (by decide)
    | with_reducible apply Frame.via (State.replayStop_frame _) (by decide)
    | with_reducible apply Frame.via (State.dropCmdWrites_frame _ _) (by decide)
    | split
    | with_reducible apply Frame.set_patches _ (by decide)
    | with_reducible apply Frame.set_front _ (by decide)

theorem State.applyDir_frame (s0 : State) : Frame [.regs, .arb, .front, .pwr] s0 (State.applyDir s0) := by
  unfold State.applyDir
  repeat' first
    | with_reducible assumption
    | intro _
    | (extract_lets -merge +onlyGivenNames x; refine (have hx : Frame [.regs, .arb, .front, .pwr] s0 x := ?_; ?_); rotate_left; clear_value x; rotate_left; subst x)
    | (extract_lets -merge +onlyGivenNames x; clear_value x)
    | with_reducible exact Frame.refl _ _
    | with_reducible apply Frame.ite
    | with_reducible apply Frame.foldl
    | with_reducible apply Frame.via (State.setF_frame _ _ _ _ _) (by decide)
    | with_reducible apply Frame.via (State.writeRefCfg_frame _ _) (by decide)
    | split
    | with_reducible apply Frame.set_front _ (by decide)

theorem State.bootFail_frame (s0 : State) (a1 : Nat) : Frame [.regs] s0 (State.bootFail s0 a1) := by
  unfold State.bootFail
  repeat' first
    | with_reducible assumption
    | intro _
    | (extract_lets -merge +onlyGivenNames x; refine (have hx : Frame [.regs] s0 x := ?_; ?_); rotate_left; clear_value x; rotate_left; subst x)
    | (extract_lets -merge +onlyGivenNames x; clear_value x)
    | with_reducible exact Frame.refl _ _
    | with_reducible apply Frame.ite
    | with_reducible apply Frame.foldl
    | with_reducible apply Frame.via (State.setF_frame _ _ _ _ _) (by decide)
    | split

theorem State.bootStage_frame (s0 : State) (a1 : Nat) : Frame [.regs] s0 (State.bootStage s0 a1) := by
  unfold State.bootStage
  repeat' first
    | with_reducible assumption
    | intro _
    | (extract_lets -merge +onlyGivenNames x; refine (have hx : Frame [.regs] s0 x := ?_; ?_); rotate_left; clear_value x; rotate_left; subst x)
    | (extract_lets -merge +onlyGivenNames x; clear_value x)
    | with_reducible exact Frame.refl _ _
    | with_reducible apply Frame.ite
    | with_reducible apply Frame.foldl
    | with_reducible apply Frame.via (State.setF_frame _ _ _ _ _) (by decide)
    | split

theorem State.setFirmware_frame (s0 : State) (a1 : List Byte) : Frame [.regs, .arb, .sm, .fw] s0 (State.setFirmware s0 a1) := by
  unfold State.setFirmware
  repeat' first
    | with_reducible assumption
    | intro _
    | (extract_lets -merge +onlyGivenNames x; refine (have hx : Frame [.regs, .arb, .sm, .fw] s0 x := ?_; ?_); rotate_left; clear_value x; rotate_left; subst x)
    | (extract_lets -merge +onlyGivenNames x; clear_value x)
    | with_reducible exact Frame.refl _ _
    | with_reducible apply Frame.ite
    | with_reducible apply Frame.foldl
    | with_reducible apply Frame.via (State.setF_frame _ _ _ _ _) (by decide)
    | with_reducible apply Frame.via (State.setLogged_frame _ _ _ _ _) (by decide)
    | with_reducible apply Frame.via (State.setSm_frame _ _) (by decide)
    | split
    | with_reducible apply Frame.set_fw _ (by decide)

theorem State.bootFw_frame (s0 : State) : Frame [.regs, .arb, .sm, .fw] s0 (State.bootFw s0) := by
  unfold State.bootFw
  repeat' first
    | with_reducible assumption
    | intro _
    | (extract_lets -merge +onlyGivenNames x; refine (have hx : Frame [.regs, .arb, .sm, .fw] s0 x := ?_; ?_); rotate_left; clear_value x; rotate_left; subst x)
    | (extract_lets -merge +onlyGivenNames x; refine (have hx : Frame [.regs, .arb, .sm, .fw] s0 x.1 := ?_; ?_); rotate_left; clear_value x; rotate_left; subst x)
    | (extract_lets -merge +onlyGivenNames x; refine (have hf : _ → _ := x; ?_); clear hf; subst x)
    | (extract_lets -merge +onlyGivenNames x; clear_value x)
    | with_reducible exact Frame.refl _ _
    | with_reducible apply Frame.ite
    | with_reducible apply Frame.ite1
    | with_reducible apply Frame.foldl
    | with_reducible apply Frame.foldl1
    | with_reducible apply Frame.idf
    | with_reducible apply Frame.via (State.setF_frame _ _ _ _ _) (by decide)
    | with_reducible apply Frame.via (State.bootFail_frame _ _) (by decide)
    | with_reducible apply Frame.via (State.bootStage_frame _ _) (by decide)
    | with_reducible apply Frame.via (State.setFirmware_frame _ _) (by decide)
    | split
    | with_reducible apply Frame.set_fw _ (by decide)

theorem State.loadFuses_frame (s0 : State) : Frame [.regs, .pwr] s0 (State.loadFuses s0) := by
  unfold State.loadFuses
  repeat' first
    | with_reducible assumption
    | intro _
    | (extract_lets -merge +onlyGivenNames x; refine (have hx : Frame [.regs, .pwr] s0 x := ?_; ?_); rotate_left; clear_value x; rotate_left; subst x)
    | (extract_lets -merge +onlyGivenNames x; clear_value x)
    | with_reducible exact Frame.refl _ _
    | with_reducible apply Frame.ite
    | with_reducible apply Frame.foldl
    | with_reducible apply Frame.via (State.setReg_frame _ _ _ _) (by decide)
    | with_reducible apply Frame.via (State.setF_frame _ _ _ _ _) (by decide)
    | split
    | with_reducible apply Frame.set_pwr _ (by decide)

theorem State.bootRom_frame (s0 : State) (a1 : Bool) : Frame [.regs, .arb, .front, .pwr] s0 (State.bootRom s0 a1) := by
  unfold State.bootRom
  repeat' first
    | with_reducible assumption
    | intro _
    | (extract_lets -merge +onlyGivenNames x; refine (have hx : Frame [.regs, .arb, .front, .pwr] s0 x := ?_; ?_); rotate_left; clear_value x; rotate_left; subst x)
    | (extract_lets -merge +onlyGivenNames x; clear_value x)
    | with_reducible exact Frame.refl _ _
    | with_reducible apply Frame.ite
    | with_reducible apply Frame.foldl
    | with_reducible apply Frame.via (State.setF_frame _ _ _ _ _) (by decide)
    | with_reducible apply Frame.via (State.applyDir_frame _) (by decide)
    | with_reducible apply Frame.via (State.bootFail_frame _ _) (by decide)
    | with_reducible apply Frame.via (State.bootStage_frame _ _) (by decide)
    | with_reducible apply Frame.via (State.loadFuses_frame _) (by decide)
    | split
    | with_reducible apply Frame.set_front _ (by decide)

theorem State.bootSm_frame (s0 : State) : Frame [.regs, .eth, .arb, .sm, .fw] s0 (State.bootSm s0) := by
  unfold State.bootSm
  repeat' first
    | with_reducible assumption
    | intro _
    | (extract_lets -merge +onlyGivenNames x; refine (have hx : Frame [.regs, .eth, .arb, .sm, .fw] s0 x := ?_; ?_); rotate_left; clear_value x; rotate_left; subst x)
    | (extract_lets -merge +onlyGivenNames x; refine (have hx : Frame [.regs, .eth, .arb, .sm, .fw] s0 x.1 := ?_; ?_); rotate_left; clear_value x; rotate_left; subst x)
    | (extract_lets -merge +onlyGivenNames x; refine (have hf : _ → _ := x; ?_); clear hf; subst x)
    | (extract_lets -merge +onlyGivenNames x; clear_value x)
    | with_reducible exact Frame.refl _ _
    | with_reducible apply Frame.ite
    | with_reducible apply Frame.ite1
    | with_reducible apply Frame.foldl
    | with_reducible apply Frame.foldl1
    | with_reducible apply Frame.idf
    | with_reducible apply Frame.via (State.setF_frame _ _ _ _ _) (by decide)
    | with_reducible apply Frame.via (State.setSm_frame _ _) (by decide)
    | with_reducible apply Frame.via (State.hardError_frame _ _) (by decide)
    | with_reducible apply Frame.via (State.bootFail_frame _ _) (by decide)
    | with_reducible apply Frame.via (State.bootStage_frame _ _) (by decide)
    | split
    | with_reducible apply Frame.set_fw _ (by decide)

theorem State.setPins_frame (s0 : State) (a1 : Pins) : Frame [.pins] s0 (State.setPins s0 a1) := by
  unfold State.setPins
  repeat' first
    | with_reducible assumption
    | intro _
    | (extract_lets -merge +onlyGivenNames x; refine (have hx : Frame [.pins] s0 x := ?_; ?_); rotate_left; clear_value x; rotate_left; subst x)
    | (extract_lets -merge +onlyGivenNames x; clear_value x)
    | with_reducible exact Frame.refl _ _
    | with_reducible apply Frame.ite
    | with_reducible apply Frame.foldl
    | split
    | with_reducible apply Frame.set_pins _ (by decide)

theorem State.bootStart_frame (s0 : State) : Frame [.regs, .pins, .fw] s0 (State.bootStart s0) := by
  unfold State.bootStart
  repeat' first
    | with_reducible assumption
    | intro _
    | (extract_lets -merge +onlyGivenNames x; refine (have hx : Frame [.regs, .pins, .fw] s0 x := ?_; ?_); rotate_left; clear_value x; rotate_left; subst x)
    | (extract_lets -merge +onlyGivenNames x; clear_value x)
    | with_reducible exact Frame.refl _ _
    | with_reducible apply Frame.ite
    | with_reducible apply Frame.foldl
    | with_reducible apply Frame.via (State.setReg_frame _ _ _ _) (by decide)
    | with_reducible apply Frame.via (State.setF_frame _ _ _ _ _) (by decide)
    | with_reducible apply Frame.via (State.bootStage_frame _ _) (by decide)
    | with_reducible apply Frame.via (State.setPins_frame _ _) (by decide)
    | split
    | with_reducible apply Frame.set_fw _ (by decide)

theorem State.newTarget_frame (s0 : State) (a1 : Nat) : Frame [.regs, .free] s0 (State.newTarget s0 a1) := by
  unfold State.newTarget
  repeat' first
    | with_reducible assumption
    | intro _
    | (extract_lets -merge +onlyGivenNames x; refine (have hx : Frame [.regs, .free] s0 x := ?_; ?_); rotate_left; clear_value x; rotate_left; subst x)
    | (extract_lets -merge +onlyGivenNames x; clear_value x)
    | with_reducible exact Frame.refl _ _
    | with_reducible apply Frame.ite
    | with_reducible apply Frame.foldl
    | with_reducible apply Frame.via (State.setF_frame _ _ _ _ _) (by decide)
    | with_reducible apply Frame.via (State.useFree_frame _ _) (by decide)
    | split

theorem State.releaseDies_frame (s0 : State) : Frame [.regs, .pwr, .free] s0 (State.releaseDies s0) := by
  unfold State.releaseDies
  repeat' first
    | with_reducible assumption
    | intro _
    | (extract_lets -merge +onlyGivenNames x; refine (have hx : Frame [.regs, .pwr, .free] s0 x := ?_; ?_); rotate_left; clear_value x; rotate_left; subst x)
    | (extract_lets -merge +onlyGivenNames x; clear_value x)
    | with_reducible exact Frame.refl _ _
    | with_reducible apply Frame.ite
    | with_reducible apply Frame.foldl
    | with_reducible apply Frame.via (State.setF_frame _ _ _ _ _) (by decide)
    | with_reducible apply Frame.via (State.bootStage_frame _ _) (by decide)
    | with_reducible apply Frame.via (State.newTarget_frame _ _) (by decide)
    | split
    | with_reducible apply Frame.set_pwr _ (by decide)

theorem State.loadStore_frame (s0 : State) : Frame [.regs, .arb, .sm] s0 (State.loadStore s0) := by
  unfold State.loadStore
  repeat' first
    | with_reducible assumption
    | intro _
    | (extract_lets -merge +onlyGivenNames x; refine (have hx : Frame [.regs, .arb, .sm] s0 x := ?_; ?_); rotate_left; clear_value x; rotate_left; subst x)
    | (extract_lets -merge +onlyGivenNames x; clear_value x)
    | with_reducible exact Frame.refl _ _
    | with_reducible apply Frame.ite
    | with_reducible apply Frame.foldl
    | with_reducible apply Frame.via (State.setF_frame _ _ _ _ _) (by decide)
    | with_reducible apply Frame.via (State.setSm_frame _ _) (by decide)
    | with_reducible apply Frame.via (State.smEvent_frame _ _) (by decide)
    | with_reducible apply Frame.via (State.loadPolicy_frame _) (by decide)
    | split

theorem State.smServe_frame (s0 : State) : Frame [.regs, .arb, .sm, .fuses, .free] s0 (State.smServe s0) := by
  unfold State.smServe
  repeat' first
    | with_reducible assumption
    | intro _
    | (extract_lets -merge +onlyGivenNames x; refine (have hx : Frame [.regs, .arb, .sm, .fuses, .free] s0 x := ?_; ?_); rotate_left; clear_value x; rotate_left; subst x)
    | (extract_lets -merge +onlyGivenNames x; clear_value x)
    | with_reducible exact Frame.refl _ _
    | with_reducible apply Frame.ite
    | with_reducible apply Frame.foldl
    | with_reducible apply Frame.via (State.setSmState_frame _ _) (by decide)
    | with_reducible apply Frame.via (State.seedDrbg_frame _) (by decide)
    | with_reducible apply Frame.via (State.loadStore_frame _) (by decide)
    | split

theorem State.serveLatch_frame (s0 : State) : Frame [.regs, .eth, .arb, .sm, .fuses, .free] s0 (State.serveLatch s0) := by
  unfold State.serveLatch
  repeat' first
    | with_reducible assumption
    | intro _
    | (extract_lets -merge +onlyGivenNames x; refine (have hx : Frame [.regs, .eth, .arb, .sm, .fuses, .free] s0 x := ?_; ?_); rotate_left; clear_value x; rotate_left; subst x)
    | (extract_lets -merge +onlyGivenNames x; clear_value x)
    | with_reducible exact Frame.refl _ _
    | with_reducible apply Frame.ite
    | with_reducible apply Frame.foldl
    | with_reducible apply Frame.via (State.setSm_frame _ _) (by decide)
    | with_reducible apply Frame.via (State.zeroize_frame _ _) (by decide)
    | split

theorem State.softError_frame (s0 : State) (a1 : Nat) : Frame [.regs, .arb, .sm] s0 (State.softError s0 a1) := by
  unfold State.softError
  repeat' first
    | with_reducible assumption
    | intro _
    | (extract_lets -merge +onlyGivenNames x; refine (have hx : Frame [.regs, .arb, .sm] s0 x := ?_; ?_); rotate_left; clear_value x; rotate_left; subst x)
    | (extract_lets -merge +onlyGivenNames x; clear_value x)
    | with_reducible exact Frame.refl _ _
    | with_reducible apply Frame.ite
    | with_reducible apply Frame.foldl
    | with_reducible apply Frame.via (State.setF_frame _ _ _ _ _) (by decide)
    | with_reducible apply Frame.via (State.setSm_frame _ _) (by decide)
    | with_reducible apply Frame.via (State.closeSessions_frame _) (by decide)
    | with_reducible apply Frame.via (State.smEvent_frame _ _) (by decide)
    | with_reducible apply Frame.via (State.setSmState_frame _ _) (by decide)
    | split

theorem State.smStart_frame (s0 : State) (a1 : Option Nat) : Frame [.regs, .eth, .arb, .sm, .fuses, .free] s0 (State.smStart s0 a1) := by
  unfold State.smStart
  repeat' first
    | with_reducible assumption
    | intro _
    | (extract_lets -merge +onlyGivenNames x; refine (have hx : Frame [.regs, .eth, .arb, .sm, .fuses, .free] s0 x := ?_; ?_); rotate_left; clear_value x; rotate_left; subst x)
    | (extract_lets -merge +onlyGivenNames x; clear_value x)
    | with_reducible exact Frame.refl _ _
    | with_reducible apply Frame.ite
    | with_reducible apply Frame.foldl
    | with_reducible apply Frame.via (State.setF_frame _ _ _ _ _) (by decide)
    | with_reducible apply Frame.via (State.setSmState_frame _ _) (by decide)
    | with_reducible apply Frame.via (State.hardError_frame _ _) (by decide)
    | with_reducible apply Frame.via (State.testsRun_frame _ _ _) (by decide)
    | with_reducible apply Frame.via (State.smServe_frame _) (by decide)
    | with_reducible apply Frame.via (State.serveLatch_frame _) (by decide)
    | with_reducible apply Frame.via (State.softError_frame _ _) (by decide)
    | split

theorem State.seedWash_frame (s0 : State) : Frame [.regs, .free] s0 (State.seedWash s0) := by
  unfold State.seedWash
  repeat' first
    | with_reducible assumption
    | intro _
    | (extract_lets -merge +onlyGivenNames x; refine (have hx : Frame [.regs, .free] s0 x := ?_; ?_); rotate_left; clear_value x; rotate_left; subst x)
    | (extract_lets -merge +onlyGivenNames x; clear_value x)
    | with_reducible exact Frame.refl _ _
    | with_reducible apply Frame.ite
    | with_reducible apply Frame.foldl
    | with_reducible apply Frame.via (State.setF_frame _ _ _ _ _) (by decide)
    | with_reducible apply Frame.via (State.useFree_frame _ _) (by decide)
    | split

theorem State.bootTests_frame (s0 : State) (a1 : Option Nat) : Frame [.regs, .eth, .arb, .sm, .fuses, .pwr, .free] s0 (State.bootTests s0 a1) := by
  unfold State.bootTests
  repeat' first
    | with_reducible assumption
    | intro _
    | (extract_lets -merge +onlyGivenNames x; refine (have hx : Frame [.regs, .eth, .arb, .sm, .fuses, .pwr, .free] s0 x := ?_; ?_); rotate_left; clear_value x; rotate_left; subst x)
    | (extract_lets -merge +onlyGivenNames x; clear_value x)
    | with_reducible exact Frame.refl _ _
    | with_reducible apply Frame.ite
    | with_reducible apply Frame.foldl
    | with_reducible apply Frame.via (State.bootFail_frame _ _) (by decide)
    | with_reducible apply Frame.via (State.releaseDies_frame _) (by decide)
    | with_reducible apply Frame.via (State.smStart_frame _ _) (by decide)
    | with_reducible apply Frame.via (State.seedWash_frame _) (by decide)
    | split

theorem State.drainAll_frame (s0 : State) (a1 : Cmd) : Frame [.regs, .mem, .tempo, .patches, .press, .sects, .ports, .eth, .unison, .front] s0 (State.drainAll s0 a1) := by
  unfold State.drainAll
  repeat' first
    | with_reducible assumption
    | intro _
    | (extract_lets -merge +onlyGivenNames x; refine (have hx : Frame [.regs, .mem, .tempo, .patches, .press, .sects, .ports, .eth, .unison, .front] s0 x := ?_; ?_); rotate_left; clear_value x; rotate_left; subst x)
    | (extract_lets -merge +onlyGivenNames x; clear_value x)
    | with_reducible exact Frame.refl _ _
    | with_reducible apply Frame.ite
    | with_reducible apply Frame.foldl
    | with_reducible apply Frame.via (State.abortCmd_frame _ _) (by decide)
    | split

theorem State.writeFlash_frame (s0 : State) (a1 : Nat) (a2 : List Byte) : Frame [.flash] s0 (State.writeFlash s0 a1 a2) := by
  unfold State.writeFlash
  repeat' first
    | with_reducible assumption
    | intro _
    | (extract_lets -merge +onlyGivenNames x; refine (have hx : Frame [.flash] s0 x := ?_; ?_); rotate_left; clear_value x; rotate_left; subst x)
    | (extract_lets -merge +onlyGivenNames x; clear_value x)
    | with_reducible exact Frame.refl _ _
    | with_reducible apply Frame.ite
    | with_reducible apply Frame.foldl
    | split
    | with_reducible apply Frame.set_flash _ (by decide)

theorem State.persist_frame (s0 : State) (a1 : Nat) (a2 : List Byte) : Frame [.flash] s0 (State.persist s0 a1 a2) := by
  unfold State.persist
  repeat' first
    | with_reducible assumption
    | intro _
    | (extract_lets -merge +onlyGivenNames x; refine (have hx : Frame [.flash] s0 x := ?_; ?_); rotate_left; clear_value x; rotate_left; subst x)
    | (extract_lets -merge +onlyGivenNames x; clear_value x)
    | with_reducible exact Frame.refl _ _
    | with_reducible apply Frame.ite
    | with_reducible apply Frame.foldl
    | with_reducible apply Frame.via (State.writeFlash_frame _ _ _) (by decide)
    | split

theorem State.powerOn_frame (s0 : State) : Frame [.regs, .mem, .tempo, .dieBase, .aligns, .links, .cond, .patches, .press, .sects, .queues, .qseq, .ports, .lk, .seams, .legacy, .score, .tacks, .books, .eth, .unison, .arb, .icu, .front, .sm, .tap, .smb, .fw, .pwr] s0 (State.powerOn s0) := by
  unfold State.powerOn
  repeat' first
    | with_reducible assumption
    | intro _
    | (extract_lets -merge +onlyGivenNames x; refine (have hx : Frame [.regs, .mem, .tempo, .dieBase, .aligns, .links, .cond, .patches, .press, .sects, .queues, .qseq, .ports, .lk, .seams, .legacy, .score, .tacks, .books, .eth, .unison, .arb, .icu, .front, .sm, .tap, .smb, .fw, .pwr] s0 x := ?_; ?_); rotate_left; clear_value x; rotate_left; subst x)
    | (extract_lets -merge +onlyGivenNames x; clear_value x)
    | with_reducible exact Frame.refl _ _
    | with_reducible apply Frame.ite
    | with_reducible apply Frame.foldl
    | with_reducible apply Frame.via (State.setF_frame _ _ _ _ _) (by decide)
    | with_reducible apply Frame.via (State.coldBase_frame _) (by decide)
    | with_reducible apply Frame.via (State.setSm_frame _ _) (by decide)
    | split
    | with_reducible apply Frame.set_regs_tap_smb_pwr _ _ _ _ (by decide) (by decide) (by decide) (by decide) (fun h => by first | exact h | exact Registers.wf_tput h | exact Registers.wf_tclear h | exact Registers.wf_nil)

theorem State.railLost_frame (s0 : State) (a1 : Nat) : Frame [.regs, .mem, .tempo, .dieBase, .aligns, .links, .cond, .patches, .press, .sects, .queues, .qseq, .ports, .lk, .seams, .legacy, .score, .tacks, .books, .eth, .unison, .arb, .icu, .front, .sm, .smb, .pins, .fw, .pwr] s0 (State.railLost s0 a1) := by
  unfold State.railLost
  repeat' first
    | with_reducible assumption
    | intro _
    | (extract_lets -merge +onlyGivenNames x; refine (have hx : Frame [.regs, .mem, .tempo, .dieBase, .aligns, .links, .cond, .patches, .press, .sects, .queues, .qseq, .ports, .lk, .seams, .legacy, .score, .tacks, .books, .eth, .unison, .arb, .icu, .front, .sm, .smb, .pins, .fw, .pwr] s0 x := ?_; ?_); rotate_left; clear_value x; rotate_left; subst x)
    | (extract_lets -merge +onlyGivenNames x; clear_value x)
    | with_reducible exact Frame.refl _ _
    | with_reducible apply Frame.ite
    | with_reducible apply Frame.foldl
    | with_reducible apply Frame.via (State.coldReset_frame _ _) (by decide)
    | with_reducible apply Frame.via (State.setPins_frame _ _) (by decide)
    | split

theorem State.resetCores_frame (s0 : State) : Frame [.regs, .icu] s0 (State.resetCores s0) := by
  unfold State.resetCores
  repeat' first
    | with_reducible assumption
    | intro _
    | (extract_lets -merge +onlyGivenNames x; refine (have hx : Frame [.regs, .icu] s0 x := ?_; ?_); rotate_left; clear_value x; rotate_left; subst x)
    | (extract_lets -merge +onlyGivenNames x; clear_value x)
    | with_reducible exact Frame.refl _ _
    | with_reducible apply Frame.ite
    | with_reducible apply Frame.foldl
    | with_reducible apply Frame.via (State.emptyStack_frame _ _) (by decide)
    | split

theorem State.stepWash_frame (s0 : State) (a1 : Nat) : Frame [.regs] s0 (State.stepWash s0 a1) := by
  unfold State.stepWash
  repeat' first
    | with_reducible assumption
    | intro _
    | (extract_lets -merge +onlyGivenNames x; refine (have hx : Frame [.regs] s0 x := ?_; ?_); rotate_left; clear_value x; rotate_left; subst x)
    | (extract_lets -merge +onlyGivenNames x; clear_value x)
    | with_reducible exact Frame.refl _ _
    | with_reducible apply Frame.ite
    | with_reducible apply Frame.foldl
    | with_reducible apply Frame.via (State.setF_frame _ _ _ _ _) (by decide)
    | split

theorem State.loadStaged_frame (s0 : State) : Frame [.regs, .arb, .icu, .sm, .fw] s0 (State.loadStaged s0) := by
  unfold State.loadStaged
  repeat' first
    | with_reducible assumption
    | intro _
    | (extract_lets -merge +onlyGivenNames x; refine (have hx : Frame [.regs, .arb, .icu, .sm, .fw] s0 x := ?_; ?_); rotate_left; clear_value x; rotate_left; subst x)
    | (extract_lets -merge +onlyGivenNames x; clear_value x)
    | with_reducible exact Frame.refl _ _
    | with_reducible apply Frame.ite
    | with_reducible apply Frame.foldl
    | with_reducible apply Frame.via (State.setF_frame _ _ _ _ _) (by decide)
    | with_reducible apply Frame.via (State.setFirmware_frame _ _) (by decide)
    | with_reducible apply Frame.via (State.resetCores_frame _) (by decide)
    | with_reducible apply Frame.via (State.stepWash_frame _ _) (by decide)
    | split
    | with_reducible apply Frame.set_fw _ (by decide)

theorem execActivationDrainTimeout_frame (s0 : State) : Completes (execActivationDrainTimeout s0) (Frame [.regs, .mem, .tempo, .patches, .press, .sects, .ports, .eth, .unison, .arb, .icu, .front, .sm, .fw] s0) := by
  unfold execActivationDrainTimeout
  refine ⟨_, rfl, ?_⟩
  repeat' first
    | with_reducible assumption
    | intro _
    | (extract_lets -merge +onlyGivenNames x; refine (have hx : Frame [.regs, .mem, .tempo, .patches, .press, .sects, .ports, .eth, .unison, .arb, .icu, .front, .sm, .fw] s0 x := ?_; ?_); rotate_left; clear_value x; rotate_left; subst x)
    | (extract_lets -merge +onlyGivenNames x; clear_value x)
    | with_reducible exact Frame.refl _ _
    | with_reducible apply Frame.ite
    | with_reducible apply Frame.foldl
    | with_reducible apply Frame.via (State.drainAll_frame _ _) (by decide)
    | with_reducible apply Frame.via (State.loadStaged_frame _) (by decide)
    | split

theorem execAvsResponseTimeout_frame (s0 : State) (a0 : Fin 8) : Completes (execAvsResponseTimeout a0 s0) (Frame [.regs, .mem, .tempo, .dieBase, .aligns, .links, .cond, .patches, .press, .sects, .queues, .qseq, .ports, .lk, .seams, .legacy, .score, .tacks, .books, .eth, .unison, .arb, .icu, .front, .sm, .smb, .pins, .fw, .pwr] s0) := by
  unfold execAvsResponseTimeout
  refine ⟨_, rfl, ?_⟩
  repeat' first
    | with_reducible assumption
    | intro _
    | (extract_lets -merge +onlyGivenNames x; refine (have hx : Frame [.regs, .mem, .tempo, .dieBase, .aligns, .links, .cond, .patches, .press, .sects, .queues, .qseq, .ports, .lk, .seams, .legacy, .score, .tacks, .books, .eth, .unison, .arb, .icu, .front, .sm, .smb, .pins, .fw, .pwr] s0 x := ?_; ?_); rotate_left; clear_value x; rotate_left; subst x)
    | (extract_lets -merge +onlyGivenNames x; clear_value x)
    | with_reducible exact Frame.refl _ _
    | with_reducible apply Frame.ite
    | with_reducible apply Frame.foldl
    | with_reducible apply Frame.via (State.railLost_frame _ _) (by decide)
    | split

theorem execColdResetRelease_frame (s0 : State) (a0 : BitVec 8) (a1 : Bool) (a2 : Option (Fin 11)) (a3 : BitVec 16) : Completes (execColdResetRelease a0 a1 a2 a3 s0) (Frame [.regs, .eth, .arb, .front, .sm, .pins, .fuses, .fw, .pwr, .free] s0) := by
  unfold execColdResetRelease
  refine ⟨_, rfl, ?_⟩
  repeat' first
    | with_reducible assumption
    | intro _
    | (extract_lets -merge +onlyGivenNames x; refine (have hx : Frame [.regs, .eth, .arb, .front, .sm, .pins, .fuses, .fw, .pwr, .free] s0 x := ?_; ?_); rotate_left; clear_value x; rotate_left; subst x)
    | (extract_lets -merge +onlyGivenNames x; refine (have hx : Frame [.regs, .eth, .arb, .front, .sm, .pins, .fuses, .fw, .pwr, .free] s0 x.1 := ?_; ?_); rotate_left; clear_value x; rotate_left; subst x)
    | (extract_lets -merge +onlyGivenNames x; refine (have hf : _ → _ := x; ?_); clear hf; subst x)
    | (extract_lets -merge +onlyGivenNames x; clear_value x)
    | with_reducible exact Frame.refl _ _
    | with_reducible apply Frame.ite
    | with_reducible apply Frame.ite1
    | with_reducible apply Frame.foldl
    | with_reducible apply Frame.foldl1
    | with_reducible apply Frame.idf
    | with_reducible apply Frame.via (State.setF_frame _ _ _ _ _) (by decide)
    | with_reducible apply Frame.via (State.bootFw_frame _) (by decide)
    | with_reducible apply Frame.via (State.bootRom_frame _ _) (by decide)
    | with_reducible apply Frame.via (State.bootSm_frame _) (by decide)
    | with_reducible apply Frame.via (State.bootStart_frame _) (by decide)
    | with_reducible apply Frame.via (State.bootTests_frame _ _) (by decide)
    | split

theorem State.wait_frame (s0 : State) (a1 : WaitFor) (a2 : Cmd) : Frame [.front] s0 (State.wait s0 a1 a2) := by
  unfold State.wait
  repeat' first
    | with_reducible assumption
    | intro _
    | (extract_lets -merge +onlyGivenNames x; refine (have hx : Frame [.front] s0 x := ?_; ?_); rotate_left; clear_value x; rotate_left; subst x)
    | (extract_lets -merge +onlyGivenNames x; clear_value x)
    | with_reducible exact Frame.refl _ _
    | with_reducible apply Frame.ite
    | with_reducible apply Frame.foldl
    | split
    | with_reducible apply Frame.set_front _ (by decide)

theorem execFwActivate_frame (s0 : State) (a0 : Cmd) : Completes (execFwActivate a0 s0) (Frame [.regs, .mem, .front, .fw] s0) := by
  unfold execFwActivate
  refine ⟨_, rfl, ?_⟩
  repeat' first
    | with_reducible assumption
    | intro _
    | (extract_lets -merge +onlyGivenNames x; refine (have hx : Frame [.regs, .mem, .front, .fw] s0 x := ?_; ?_); rotate_left; clear_value x; rotate_left; subst x)
    | (extract_lets -merge +onlyGivenNames x; clear_value x)
    | with_reducible exact Frame.refl _ _
    | with_reducible apply Frame.ite
    | with_reducible apply Frame.foldl
    | with_reducible apply Frame.via (State.setF_frame _ _ _ _ _) (by decide)
    | with_reducible apply Frame.via (State.complete_frame _ _ _ _) (by decide)
    | with_reducible refine State.runCmd_frame _ _ _ _ _ (by decide) ?_ (fun _ => ?_)
    | with_reducible apply Frame.via (State.wait_frame _ _ _) (by decide)
    | split
    | with_reducible apply Frame.set_fw _ (by decide)

theorem State.endActivation_frame (s0 : State) (a1 : Cmd) (a2 : Nat) (a3 : List Byte) : Frame [.regs, .mem, .front, .fw] s0 (State.endActivation s0 a1 a2 a3) := by
  unfold State.endActivation
  repeat' first
    | with_reducible assumption
    | intro _
    | (extract_lets -merge +onlyGivenNames x; refine (have hx : Frame [.regs, .mem, .front, .fw] s0 x := ?_; ?_); rotate_left; clear_value x; rotate_left; subst x)
    | (extract_lets -merge +onlyGivenNames x; clear_value x)
    | with_reducible exact Frame.refl _ _
    | with_reducible apply Frame.ite
    | with_reducible apply Frame.foldl
    | with_reducible apply Frame.via (State.setF_frame _ _ _ _ _) (by decide)
    | with_reducible apply Frame.via (State.complete_frame _ _ _ _) (by decide)
    | split
    | with_reducible apply Frame.set_fw _ (by decide)
    | with_reducible apply Frame.set_front _ (by decide)

theorem execFwActivateRevert_frame (s0 : State) : Completes (execFwActivateRevert s0) (Frame [.regs, .mem, .tempo, .patches, .press, .sects, .ports, .eth, .unison, .arb, .icu, .front, .sm, .fw] s0) := by
  unfold execFwActivateRevert
  refine ⟨_, rfl, ?_⟩
  repeat' first
    | with_reducible assumption
    | intro _
    | (extract_lets -merge +onlyGivenNames x; refine (have hx : Frame [.regs, .mem, .tempo, .patches, .press, .sects, .ports, .eth, .unison, .arb, .icu, .front, .sm, .fw] s0 x := ?_; ?_); rotate_left; clear_value x; rotate_left; subst x)
    | (extract_lets -merge +onlyGivenNames x; clear_value x)
    | with_reducible exact Frame.refl _ _
    | with_reducible apply Frame.ite
    | with_reducible apply Frame.foldl
    | with_reducible apply Frame.via (State.setF_frame _ _ _ _ _) (by decide)
    | with_reducible apply Frame.via (State.setFirmware_frame _ _) (by decide)
    | with_reducible apply Frame.via (State.drainAll_frame _ _) (by decide)
    | with_reducible apply Frame.via (State.resetCores_frame _) (by decide)
    | with_reducible apply Frame.via (State.stepWash_frame _ _) (by decide)
    | with_reducible apply Frame.via (State.endActivation_frame _ _ _ _) (by decide)
    | split

theorem execFwBootTimeout_frame (s0 : State) : Completes (execFwBootTimeout s0) (Frame [.regs, .arb, .icu, .sm, .fw] s0) := by
  unfold execFwBootTimeout
  refine ⟨_, rfl, ?_⟩
  repeat' first
    | with_reducible assumption
    | intro _
    | (extract_lets -merge +onlyGivenNames x; refine (have hx : Frame [.regs, .arb, .icu, .sm, .fw] s0 x := ?_; ?_); rotate_left; clear_value x; rotate_left; subst x)
    | (extract_lets -merge +onlyGivenNames x; refine (have hx : Frame [.regs, .arb, .icu, .sm, .fw] s0 x.1 := ?_; ?_); rotate_left; clear_value x; rotate_left; subst x)
    | (extract_lets -merge +onlyGivenNames x; refine (have hf : _ → _ := x; ?_); clear hf; subst x)
    | (extract_lets -merge +onlyGivenNames x; clear_value x)
    | with_reducible exact Frame.refl _ _
    | with_reducible apply Frame.ite
    | with_reducible apply Frame.ite1
    | with_reducible apply Frame.foldl
    | with_reducible apply Frame.foldl1
    | with_reducible apply Frame.idf
    | with_reducible apply Frame.via (State.setF_frame _ _ _ _ _) (by decide)
    | with_reducible apply Frame.via (State.bootFail_frame _ _) (by decide)
    | with_reducible apply Frame.via (State.setFirmware_frame _ _) (by decide)
    | with_reducible apply Frame.via (State.resetCores_frame _) (by decide)
    | with_reducible apply Frame.via (State.stepWash_frame _ _) (by decide)
    | split
    | with_reducible apply Frame.set_fw _ (by decide)

theorem execFwStage_frame (s0 : State) (a0 : Cmd) : Completes (execFwStage a0 s0) (Frame [.regs, .mem, .front, .flash, .fw] s0) := by
  unfold execFwStage
  refine ⟨_, rfl, ?_⟩
  repeat' first
    | with_reducible assumption
    | intro _
    | (extract_lets -merge +onlyGivenNames x; refine (have hx : Frame [.regs, .mem, .front, .flash, .fw] s0 x := ?_; ?_); rotate_left; clear_value x; rotate_left; subst x)
    | (extract_lets -merge +onlyGivenNames x; clear_value x)
    | with_reducible exact Frame.refl _ _
    | with_reducible apply Frame.ite
    | with_reducible apply Frame.foldl
    | with_reducible apply Frame.via (State.setF_frame _ _ _ _ _) (by decide)
    | with_reducible apply Frame.via (State.testsRun_frame _ _ _) (by decide)
    | with_reducible apply Frame.via (State.complete_frame _ _ _ _) (by decide)
    | with_reducible refine State.runCmd_frame _ _ _ _ _ (by decide) ?_ (fun _ => ?_)
    | with_reducible apply Frame.via (State.persist_frame _ _ _) (by decide)
    | split
    | with_reducible apply Frame.set_fw _ (by decide)

theorem execPkgResetAssert_frame (s0 : State) : Completes (execPkgResetAssert s0) (Frame [.regs, .mem, .tempo, .dieBase, .aligns, .links, .cond, .patches, .press, .sects, .queues, .qseq, .ports, .lk, .seams, .legacy, .score, .tacks, .books, .eth, .unison, .arb, .icu, .front, .sm, .smb, .pins, .fw, .pwr] s0) := by
  unfold execPkgResetAssert
  refine ⟨_, rfl, ?_⟩
  repeat' first
    | with_reducible assumption
    | intro _
    | (extract_lets -merge +onlyGivenNames x; refine (have hx : Frame [.regs, .mem, .tempo, .dieBase, .aligns, .links, .cond, .patches, .press, .sects, .queues, .qseq, .ports, .lk, .seams, .legacy, .score, .tacks, .books, .eth, .unison, .arb, .icu, .front, .sm, .smb, .pins, .fw, .pwr] s0 x := ?_; ?_); rotate_left; clear_value x; rotate_left; subst x)
    | (extract_lets -merge +onlyGivenNames x; clear_value x)
    | with_reducible exact Frame.refl _ _
    | with_reducible apply Frame.ite
    | with_reducible apply Frame.foldl
    | with_reducible apply Frame.via (State.coldReset_frame _ _) (by decide)
    | with_reducible apply Frame.via (State.setPins_frame _ _) (by decide)
    | split

theorem execPowerOnReset_frame (s0 : State) : Completes (execPowerOnReset s0) (Frame [.regs, .mem, .tempo, .dieBase, .aligns, .links, .cond, .patches, .press, .sects, .queues, .qseq, .ports, .lk, .seams, .legacy, .score, .tacks, .books, .eth, .unison, .arb, .icu, .front, .sm, .tap, .smb, .pins, .fw, .pwr] s0) := by
  unfold execPowerOnReset
  refine ⟨_, rfl, ?_⟩
  repeat' first
    | with_reducible assumption
    | intro _
    | (extract_lets -merge +onlyGivenNames x; refine (have hx : Frame [.regs, .mem, .tempo, .dieBase, .aligns, .links, .cond, .patches, .press, .sects, .queues, .qseq, .ports, .lk, .seams, .legacy, .score, .tacks, .books, .eth, .unison, .arb, .icu, .front, .sm, .tap, .smb, .pins, .fw, .pwr] s0 x := ?_; ?_); rotate_left; clear_value x; rotate_left; subst x)
    | (extract_lets -merge +onlyGivenNames x; clear_value x)
    | with_reducible exact Frame.refl _ _
    | with_reducible apply Frame.ite
    | with_reducible apply Frame.foldl
    | with_reducible apply Frame.via (State.setPins_frame _ _) (by decide)
    | with_reducible apply Frame.via (State.powerOn_frame _) (by decide)
    | split

theorem execRailUndervoltage_frame (s0 : State) (a0 : Fin 17) : Completes (execRailUndervoltage a0 s0) (Frame [.regs, .mem, .tempo, .dieBase, .aligns, .links, .cond, .patches, .press, .sects, .queues, .qseq, .ports, .lk, .seams, .legacy, .score, .tacks, .books, .eth, .unison, .arb, .icu, .front, .sm, .smb, .pins, .fw, .pwr] s0) := by
  unfold execRailUndervoltage
  refine ⟨_, rfl, ?_⟩
  repeat' first
    | with_reducible assumption
    | intro _
    | (extract_lets -merge +onlyGivenNames x; refine (have hx : Frame [.regs, .mem, .tempo, .dieBase, .aligns, .links, .cond, .patches, .press, .sects, .queues, .qseq, .ports, .lk, .seams, .legacy, .score, .tacks, .books, .eth, .unison, .arb, .icu, .front, .sm, .smb, .pins, .fw, .pwr] s0 x := ?_; ?_); rotate_left; clear_value x; rotate_left; subst x)
    | (extract_lets -merge +onlyGivenNames x; clear_value x)
    | with_reducible exact Frame.refl _ _
    | with_reducible apply Frame.ite
    | with_reducible apply Frame.foldl
    | with_reducible apply Frame.via (State.railLost_frame _ _) (by decide)
    | split

theorem execRstColdWrite_frame (s0 : State) (a0 : Who) (a1 : BitVec 32) : Completes (execRstColdWrite a0 a1 s0) (Frame [.regs, .mem, .tempo, .dieBase, .aligns, .links, .cond, .patches, .press, .sects, .queues, .qseq, .ports, .lk, .seams, .legacy, .score, .tacks, .books, .eth, .unison, .arb, .icu, .front, .sm, .smb, .fw, .pwr] s0) := by
  unfold execRstColdWrite
  refine ⟨_, rfl, ?_⟩
  repeat' first
    | with_reducible assumption
    | intro _
    | (extract_lets -merge +onlyGivenNames x; refine (have hx : Frame [.regs, .mem, .tempo, .dieBase, .aligns, .links, .cond, .patches, .press, .sects, .queues, .qseq, .ports, .lk, .seams, .legacy, .score, .tacks, .books, .eth, .unison, .arb, .icu, .front, .sm, .smb, .fw, .pwr] s0 x := ?_; ?_); rotate_left; clear_value x; rotate_left; subst x)
    | (extract_lets -merge +onlyGivenNames x; clear_value x)
    | with_reducible exact Frame.refl _ _
    | with_reducible apply Frame.ite
    | with_reducible apply Frame.foldl
    | with_reducible apply Frame.via (State.writeRstCold_frame _ _ _) (by decide)
    | split

theorem execThermalTrip_frame (s0 : State) (a0 : Fin 12) (a1 : BitVec 8) : Completes (execThermalTrip a0 a1 s0) (Frame [.regs, .mem, .tempo, .dieBase, .aligns, .links, .cond, .patches, .press, .sects, .queues, .qseq, .ports, .lk, .seams, .legacy, .score, .tacks, .books, .eth, .unison, .arb, .icu, .front, .sm, .smb, .pins, .fw, .pwr] s0) := by
  unfold execThermalTrip
  refine ⟨_, rfl, ?_⟩
  repeat' first
    | with_reducible assumption
    | intro _
    | (extract_lets -merge +onlyGivenNames x; refine (have hx : Frame [.regs, .mem, .tempo, .dieBase, .aligns, .links, .cond, .patches, .press, .sects, .queues, .qseq, .ports, .lk, .seams, .legacy, .score, .tacks, .books, .eth, .unison, .arb, .icu, .front, .sm, .smb, .pins, .fw, .pwr] s0 x := ?_; ?_); rotate_left; clear_value x; rotate_left; subst x)
    | (extract_lets -merge +onlyGivenNames x; clear_value x)
    | with_reducible exact Frame.refl _ _
    | with_reducible apply Frame.ite
    | with_reducible apply Frame.foldl
    | with_reducible apply Frame.via (State.coldReset_frame _ _) (by decide)
    | with_reducible apply Frame.via (State.setPins_frame _ _) (by decide)
    | split

theorem execVauxUndervoltage_frame (s0 : State) : Completes (execVauxUndervoltage s0) (Frame [.regs, .mem, .tempo, .dieBase, .aligns, .links, .cond, .patches, .press, .sects, .queues, .qseq, .ports, .lk, .seams, .legacy, .score, .tacks, .books, .eth, .unison, .arb, .icu, .front, .sm, .tap, .smb, .pins, .fw, .pwr] s0) := by
  unfold execVauxUndervoltage
  refine ⟨_, rfl, ?_⟩
  repeat' first
    | with_reducible assumption
    | intro _
    | (extract_lets -merge +onlyGivenNames x; refine (have hx : Frame [.regs, .mem, .tempo, .dieBase, .aligns, .links, .cond, .patches, .press, .sects, .queues, .qseq, .ports, .lk, .seams, .legacy, .score, .tacks, .books, .eth, .unison, .arb, .icu, .front, .sm, .tap, .smb, .pins, .fw, .pwr] s0 x := ?_; ?_); rotate_left; clear_value x; rotate_left; subst x)
    | (extract_lets -merge +onlyGivenNames x; clear_value x)
    | with_reducible exact Frame.refl _ _
    | with_reducible apply Frame.ite
    | with_reducible apply Frame.foldl
    | with_reducible apply Frame.via (State.setPins_frame _ _) (by decide)
    | with_reducible apply Frame.via (State.powerOn_frame _) (by decide)
    | split

theorem State.putReport_frame (s0 : State) (a1 : Bool) (a2 : Nat) (a3 : List Byte) : Frame [.mem, .front] s0 (State.putReport s0 a1 a2 a3) := by
  unfold State.putReport
  repeat' first
    | with_reducible assumption
    | intro _
    | (extract_lets -merge +onlyGivenNames x; refine (have hx : Frame [.mem, .front] s0 x := ?_; ?_); rotate_left; clear_value x; rotate_left; subst x)
    | (extract_lets -merge +onlyGivenNames x; clear_value x)
    | with_reducible exact Frame.refl _ _
    | with_reducible apply Frame.ite
    | with_reducible apply Frame.foldl
    | with_reducible apply Frame.via (State.writeMem_frame _ _ _) (by decide)
    | with_reducible apply Frame.via (State.hostWrite_frame _ _ _) (by decide)
    | split
    | with_reducible apply Frame.set_front _ (by decide)

theorem execCensus_frame (s0 : State) (a0 : Cmd) : Completes (execCensus a0 s0) (Frame [.regs, .mem, .front] s0) := by
  unfold execCensus
  refine ⟨_, rfl, ?_⟩
  repeat' first
    | with_reducible assumption
    | intro _
    | (extract_lets -merge +onlyGivenNames x; refine (have hx : Frame [.regs, .mem, .front] s0 x := ?_; ?_); rotate_left; clear_value x; rotate_left; subst x)
    | (extract_lets -merge +onlyGivenNames x; clear_value x)
    | with_reducible exact Frame.refl _ _
    | with_reducible apply Frame.ite
    | with_reducible apply Frame.foldl
    | with_reducible apply Frame.via (State.complete_frame _ _ _ _) (by decide)
    | with_reducible refine State.runCmd_frame _ _ _ _ _ (by decide) ?_ (fun _ => ?_)
    | with_reducible apply Frame.via (State.wait_frame _ _ _) (by decide)
    | split
    | with_reducible apply Frame.set_front _ (by decide)

theorem State.completeAll_frame (s0 : State) (a1 : WaitFor) (a2 : Nat) (a3 : List Byte) : Frame [.regs, .mem, .front] s0 (State.completeAll s0 a1 a2 a3) := by
  unfold State.completeAll
  repeat' first
    | with_reducible assumption
    | intro _
    | (extract_lets -merge +onlyGivenNames x; refine (have hx : Frame [.regs, .mem, .front] s0 x := ?_; ?_); rotate_left; clear_value x; rotate_left; subst x)
    | (extract_lets -merge +onlyGivenNames x; clear_value x)
    | with_reducible exact Frame.refl _ _
    | with_reducible apply Frame.ite
    | with_reducible apply Frame.foldl
    | with_reducible apply Frame.via (State.complete_frame _ _ _ _) (by decide)
    | split
    | with_reducible apply Frame.set_front _ (by decide)

theorem execCensusSample_frame (s0 : State) (a0 : Nat) (a1 : Nat) : Completes (execCensusSample a0 a1 s0) (Frame [.regs, .mem, .arb, .front] s0) := by
  unfold execCensusSample
  refine ⟨_, rfl, ?_⟩
  repeat' first
    | with_reducible assumption
    | intro _
    | (extract_lets -merge +onlyGivenNames x; refine (have hx : Frame [.regs, .mem, .arb, .front] s0 x := ?_; ?_); rotate_left; clear_value x; rotate_left; subst x)
    | (extract_lets -merge +onlyGivenNames x; clear_value x)
    | with_reducible exact Frame.refl _ _
    | with_reducible apply Frame.ite
    | with_reducible apply Frame.foldl
    | with_reducible apply Frame.via (State.sendEvent_frame _ _ _ _) (by decide)
    | with_reducible apply Frame.via (State.putReport_frame _ _ _ _) (by decide)
    | with_reducible apply Frame.via (State.completeAll_frame _ _ _ _) (by decide)
    | split

theorem execClkFwdCfgWrite_frame (s0 : State) (a0 : BitVec 32) : Completes (execClkFwdCfgWrite a0 s0) (Frame [.regs, .lk, .legacy, .arb, .pwr] s0) := by
  unfold execClkFwdCfgWrite
  refine ⟨_, rfl, ?_⟩
  repeat' first
    | with_reducible assumption
    | intro _
    | (extract_lets -merge +onlyGivenNames x; refine (have hx : Frame [.regs, .lk, .legacy, .arb, .pwr] s0 x := ?_; ?_); rotate_left; clear_value x; rotate_left; subst x)
    | (extract_lets -merge +onlyGivenNames x; clear_value x)
    | with_reducible exact Frame.refl _ _
    | with_reducible apply Frame.ite
    | with_reducible apply Frame.foldl
    | with_reducible apply Frame.via (State.writeFwdCfg_frame _ _) (by decide)
    | split

theorem execClkRefCfgWrite_frame (s0 : State) (a0 : BitVec 32) : Completes (execClkRefCfgWrite a0 s0) (Frame [.regs, .arb, .pwr] s0) := by
  unfold execClkRefCfgWrite
  refine ⟨_, rfl, ?_⟩
  repeat' first
    | with_reducible assumption
    | intro _
    | (extract_lets -merge +onlyGivenNames x; refine (have hx : Frame [.regs, .arb, .pwr] s0 x := ?_; ?_); rotate_left; clear_value x; rotate_left; subst x)
    | (extract_lets -merge +onlyGivenNames x; clear_value x)
    | with_reducible exact Frame.refl _ _
    | with_reducible apply Frame.ite
    | with_reducible apply Frame.foldl
    | with_reducible apply Frame.via (State.writeRefCfg_frame _ _) (by decide)
    | split

theorem execHoldoverExpiry_frame (s0 : State) : Completes (execHoldoverExpiry s0) (Frame [.regs, .arb] s0) := by
  unfold execHoldoverExpiry
  refine ⟨_, rfl, ?_⟩
  repeat' first
    | with_reducible assumption
    | intro _
    | (extract_lets -merge +onlyGivenNames x; refine (have hx : Frame [.regs, .arb] s0 x := ?_; ?_); rotate_left; clear_value x; rotate_left; subst x)
    | (extract_lets -merge +onlyGivenNames x; clear_value x)
    | with_reducible exact Frame.refl _ _
    | with_reducible apply Frame.ite
    | with_reducible apply Frame.foldl
    | with_reducible apply Frame.via (State.setF_frame _ _ _ _ _) (by decide)
    | with_reducible apply Frame.via (State.refSet_frame _ _) (by decide)
    | split

theorem State.seamLeave_frame (s0 : State) (a1 : Nat) (a2 : Nat) (a3 : Nat) : Frame [.regs, .seams, .score, .arb] s0 (State.seamLeave s0 a1 a2 a3) := by
  unfold State.seamLeave
  repeat' first
    | with_reducible assumption
    | intro _
    | (extract_lets -merge +onlyGivenNames x; refine (have hx : Frame [.regs, .seams, .score, .arb] s0 x := ?_; ?_); rotate_left; clear_value x; rotate_left; subst x)
    | (extract_lets -merge +onlyGivenNames x; clear_value x)
    | with_reducible exact Frame.refl _ _
    | with_reducible apply Frame.ite
    | with_reducible apply Frame.foldl
    | with_reducible apply Frame.via (State.setF_frame _ _ _ _ _) (by decide)
    | with_reducible apply Frame.via (State.setLogged_frame _ _ _ _ _) (by decide)
    | with_reducible apply Frame.via (State.setSeamDyn_frame _ _ _ _) (by decide)
    | with_reducible apply Frame.via (State.inputDown_frame _ _) (by decide)
    | split

theorem State.portRetrain_frame (s0 : State) (a1 : Nat) (a2 : Nat) (a3 : Bool) : Frame [.regs, .seams, .score, .arb] s0 (State.portRetrain s0 a1 a2 a3) := by
  unfold State.portRetrain
  repeat' first
    | with_reducible assumption
    | intro _
    | (extract_lets -merge +onlyGivenNames x; refine (have hx : Frame [.regs, .seams, .score, .arb] s0 x := ?_; ?_); rotate_left; clear_value x; rotate_left; subst x)
    | (extract_lets -merge +onlyGivenNames x; clear_value x)
    | with_reducible exact Frame.refl _ _
    | with_reducible apply Frame.ite
    | with_reducible apply Frame.foldl
    | with_reducible apply Frame.via (State.setBit_frame _ _ _ _) (by decide)
    | with_reducible apply Frame.via (State.seamLeave_frame _ _ _ _) (by decide)
    | split

theorem State.seamRetrain_frame (s0 : State) (a1 : Nat) (a2 : Nat) (a3 : Bool) : Frame [.regs, .seams, .score, .arb] s0 (State.seamRetrain s0 a1 a2 a3) := by
  unfold State.seamRetrain
  repeat' first
    | with_reducible assumption
    | intro _
    | (extract_lets -merge +onlyGivenNames x; refine (have hx : Frame [.regs, .seams, .score, .arb] s0 x := ?_; ?_); rotate_left; clear_value x; rotate_left; subst x)
    | (extract_lets -merge +onlyGivenNames x; clear_value x)
    | with_reducible exact Frame.refl _ _
    | with_reducible apply Frame.ite
    | with_reducible apply Frame.foldl
    | with_reducible apply Frame.via (State.portRetrain_frame _ _ _ _) (by decide)
    | split

theorem execMesoCrossingFault_frame (s0 : State) (a0 : Bool) (a1 : Fin 12) (a2 : Fin 6) (a3 : Bool) : Completes (execMesoCrossingFault a0 a1 a2 a3 s0) (Frame [.regs, .lk, .seams, .legacy, .score, .arb, .pwr] s0) := by
  unfold execMesoCrossingFault
  refine ⟨_, rfl, ?_⟩
  repeat' first
    | with_reducible assumption
    | intro _
    | (extract_lets -merge +onlyGivenNames x; refine (have hx : Frame [.regs, .lk, .seams, .legacy, .score, .arb, .pwr] s0 x := ?_; ?_); rotate_left; clear_value x; rotate_left; subst x)
    | (extract_lets -merge +onlyGivenNames x; clear_value x)
    | with_reducible exact Frame.refl _ _
    | with_reducible apply Frame.ite
    | with_reducible apply Frame.foldl
    | with_reducible apply Frame.via (State.setF_frame _ _ _ _ _) (by decide)
    | with_reducible apply Frame.via (State.linkRetrain_frame _ _ _) (by decide)
    | with_reducible apply Frame.via (State.seamRetrain_frame _ _ _ _) (by decide)
    | split

theorem execMesoFillMargin_frame (s0 : State) (a0 : Bool) (a1 : Fin 12) (a2 : Fin 6) (a3 : Bool) : Completes (execMesoFillMargin a0 a1 a2 a3 s0) (Frame [.regs] s0) := by
  unfold execMesoFillMargin
  refine ⟨_, rfl, ?_⟩
  repeat' first
    | with_reducible assumption
    | intro _
    | (extract_lets -merge +onlyGivenNames x; refine (have hx : Frame [.regs] s0 x := ?_; ?_); rotate_left; clear_value x; rotate_left; subst x)
    | (extract_lets -merge +onlyGivenNames x; clear_value x)
    | with_reducible exact Frame.refl _ _
    | with_reducible apply Frame.ite
    | with_reducible apply Frame.foldl
    | with_reducible apply Frame.via (State.setF_frame _ _ _ _ _) (by decide)
    | with_reducible apply Frame.via (State.setBit_frame _ _ _ _) (by decide)
    | with_reducible apply Frame.via (State.incF_frame _ _ _ _ _) (by decide)
    | split

theorem execRefFreqWindowFail_frame (s0 : State) (a0 : Fin 2) : Completes (execRefFreqWindowFail a0 s0) (Frame [.regs, .arb, .pwr] s0) := by
  unfold execRefFreqWindowFail
  refine ⟨_, rfl, ?_⟩
  repeat' first
    | with_reducible assumption
    | intro _
    | (extract_lets -merge +onlyGivenNames x; refine (have hx : Frame [.regs, .arb, .pwr] s0 x := ?_; ?_); rotate_left; clear_value x; rotate_left; subst x)
    | (extract_lets -merge +onlyGivenNames x; clear_value x)
    | with_reducible exact Frame.refl _ _
    | with_reducible apply Frame.ite
    | with_reducible apply Frame.foldl
    | with_reducible apply Frame.via (State.refLost_frame _ _) (by decide)
    | split

theorem execRefMissingEdge_frame (s0 : State) (a0 : Fin 2) : Completes (execRefMissingEdge a0 s0) (Frame [.regs, .arb, .pwr] s0) := by
  unfold execRefMissingEdge
  refine ⟨_, rfl, ?_⟩
  repeat' first
    | with_reducible assumption
    | intro _
    | (extract_lets -merge +onlyGivenNames x; refine (have hx : Frame [.regs, .arb, .pwr] s0 x := ?_; ?_); rotate_left; clear_value x; rotate_left; subst x)
    | (extract_lets -merge +onlyGivenNames x; clear_value x)
    | with_reducible exact Frame.refl _ _
    | with_reducible apply Frame.ite
    | with_reducible apply Frame.foldl
    | with_reducible apply Frame.via (State.refLost_frame _ _) (by decide)
    | split

theorem execRefQualified_frame (s0 : State) (a0 : Fin 2) (a1 : BitVec 24) : Completes (execRefQualified a0 a1 s0) (Frame [.regs, .arb, .pwr] s0) := by
  unfold execRefQualified
  refine ⟨_, rfl, ?_⟩
  repeat' first
    | with_reducible assumption
    | intro _
    | (extract_lets -merge +onlyGivenNames x; refine (have hx : Frame [.regs, .arb, .pwr] s0 x := ?_; ?_); rotate_left; clear_value x; rotate_left; subst x)
    | (extract_lets -merge +onlyGivenNames x; clear_value x)
    | with_reducible exact Frame.refl _ _
    | with_reducible apply Frame.ite
    | with_reducible apply Frame.foldl
    | with_reducible apply Frame.via (State.setF_frame _ _ _ _ _) (by decide)
    | with_reducible apply Frame.via (State.refQualified_frame _ _) (by decide)
    | split

theorem execSwitchoverComplete_frame (s0 : State) : Completes (execSwitchoverComplete s0) (Frame [.regs, .arb, .pwr] s0) := by
  unfold execSwitchoverComplete
  refine ⟨_, rfl, ?_⟩
  repeat' first
    | with_reducible assumption
    | intro _
    | (extract_lets -merge +onlyGivenNames x; refine (have hx : Frame [.regs, .arb, .pwr] s0 x := ?_; ?_); rotate_left; clear_value x; rotate_left; subst x)
    | (extract_lets -merge +onlyGivenNames x; clear_value x)
    | with_reducible exact Frame.refl _ _
    | with_reducible apply Frame.ite
    | with_reducible apply Frame.foldl
    | with_reducible apply Frame.via (State.setF_frame _ _ _ _ _) (by decide)
    | with_reducible apply Frame.via (State.incF_frame _ _ _ _ _) (by decide)
    | with_reducible apply Frame.via (State.refSet_frame _ _) (by decide)
    | split
    | with_reducible apply Frame.set_pwr _ (by decide)

theorem State.cueSection_frame (s0 : State) (a1 : Nat) (a2 : Nat) (a3 : Nat) : Frame [.sects] s0 (State.cueSection s0 a1 a2 a3) := by
  unfold State.cueSection
  repeat' first
    | with_reducible assumption
    | intro _
    | (extract_lets -merge +onlyGivenNames x; refine (have hx : Frame [.sects] s0 x := ?_; ?_); rotate_left; clear_value x; rotate_left; subst x)
    | (extract_lets -merge +onlyGivenNames x; clear_value x)
    | with_reducible exact Frame.refl _ _
    | with_reducible apply Frame.ite
    | with_reducible apply Frame.foldl
    | with_reducible apply Frame.via (State.setSect_frame _ _ _ _) (by decide)
    | split

theorem State.scoreFault_frame (s0 : State) (a1 : Nat) (a2 : Nat) (a3 : Nat) (a4 : Nat) : Frame [.regs, .arb] s0 (State.scoreFault s0 a1 a2 a3 a4) := by
  unfold State.scoreFault
  repeat' first
    | with_reducible assumption
    | intro _
    | (extract_lets -merge +onlyGivenNames x; refine (have hx : Frame [.regs, .arb] s0 x := ?_; ?_); rotate_left; clear_value x; rotate_left; subst x)
    | (extract_lets -merge +onlyGivenNames x; clear_value x)
    | with_reducible exact Frame.refl _ _
    | with_reducible apply Frame.ite
    | with_reducible apply Frame.foldl
    | with_reducible apply Frame.via (State.setF_frame _ _ _ _ _) (by decide)
    | with_reducible apply Frame.via (State.setBit_frame _ _ _ _) (by decide)
    | with_reducible apply Frame.via (State.logBits_frame _ _ _ _ _) (by decide)
    | split

theorem State.fermataRequest_frame (s0 : State) : Frame [.tempo] s0 (State.fermataRequest s0) := by
  unfold State.fermataRequest
  repeat' first
    | with_reducible assumption
    | intro _
    | (extract_lets -merge +onlyGivenNames x; refine (have hx : Frame [.tempo] s0 x := ?_; ?_); rotate_left; clear_value x; rotate_left; subst x)
    | (extract_lets -merge +onlyGivenNames x; clear_value x)
    | with_reducible exact Frame.refl _ _
    | with_reducible apply Frame.ite
    | with_reducible apply Frame.foldl
    | with_reducible apply Frame.via (State.setTempo_frame _ _) (by decide)
    | split

theorem State.scoreFaultReq_frame (s0 : State) (a1 : Nat) (a2 : Nat) (a3 : Nat) (a4 : Nat) : Frame [.regs, .tempo, .arb] s0 (State.scoreFaultReq s0 a1 a2 a3 a4) := by
  unfold State.scoreFaultReq
  repeat' first
    | with_reducible assumption
    | intro _
    | (extract_lets -merge +onlyGivenNames x; refine (have hx : Frame [.regs, .tempo, .arb] s0 x := ?_; ?_); rotate_left; clear_value x; rotate_left; subst x)
    | (extract_lets -merge +onlyGivenNames x; clear_value x)
    | with_reducible exact Frame.refl _ _
    | with_reducible apply Frame.ite
    | with_reducible apply Frame.foldl
    | with_reducible apply Frame.via (State.scoreFault_frame _ _ _ _ _) (by decide)
    | with_reducible apply Frame.via (State.fermataRequest_frame _) (by decide)
    | split

theorem State.applyCue_frame (s0 : State) (a1 : Nat) (a2 : CueWait) : Frame [.regs, .tempo, .sects, .arb] s0 (State.applyCue s0 a1 a2) := by
  unfold State.applyCue
  repeat' first
    | with_reducible assumption
    | intro _
    | (extract_lets -merge +onlyGivenNames x; refine (have hx : Frame [.regs, .tempo, .sects, .arb] s0 x := ?_; ?_); rotate_left; clear_value x; rotate_left; subst x)
    | (extract_lets -merge +onlyGivenNames x; clear_value x)
    | with_reducible exact Frame.refl _ _
    | with_reducible apply Frame.ite
    | with_reducible apply Frame.foldl
    | with_reducible apply Frame.via (State.cueSection_frame _ _ _ _) (by decide)
    | with_reducible apply Frame.via (State.scoreFaultReq_frame _ _ _ _ _) (by decide)
    | split

theorem State.departAt_frame (s0 : State) (a1 : Nat) (a2 : Bool) (a3 : Nat) : Frame [.regs, .tempo, .press, .score, .unison, .arb] s0 (State.departAt s0 a1 a2 a3) := by
  unfold State.departAt
  repeat' first
    | with_reducible assumption
    | intro _
    | (extract_lets -merge +onlyGivenNames x; refine (have hx : Frame [.regs, .tempo, .press, .score, .unison, .arb] s0 x := ?_; ?_); rotate_left; clear_value x; rotate_left; subst x)
    | (extract_lets -merge +onlyGivenNames x; refine (have hx : Frame [.regs, .tempo, .press, .score, .unison, .arb] s0 x.1 := ?_; ?_); rotate_left; clear_value x; rotate_left; subst x)
    | (extract_lets -merge +onlyGivenNames x; refine (have hf : _ → _ := x; ?_); clear hf; subst x)
    | (extract_lets -merge +onlyGivenNames x; clear_value x)
    | with_reducible exact Frame.refl _ _
    | with_reducible apply Frame.ite
    | with_reducible apply Frame.ite1
    | with_reducible apply Frame.foldl
    | with_reducible apply Frame.foldl1
    | with_reducible apply Frame.idf
    | with_reducible apply Frame.via (State.setBit_frame _ _ _ _) (by decide)
    | with_reducible apply Frame.via (State.trySend_frame _ _ _ _ _ _) (by decide)
    | with_reducible apply Frame.via (State.scoreFaultReq_frame _ _ _ _ _) (by decide)
    | with_reducible refine Frame.via (Frame.of_eq1 (State.trySend_frame _ _ _ _ _ _) (by assumption)) (by decide) ?_
    | split
    | with_reducible apply Frame.set_score _ (by decide)

theorem State.setConductor_frame (s0 : State) (a1 : Nat) (a2 : Conductor) : Frame [.cond] s0 (State.setConductor s0 a1 a2) := by
  unfold State.setConductor
  repeat' first
    | with_reducible assumption
    | intro _
    | (extract_lets -merge +onlyGivenNames x; refine (have hx : Frame [.cond] s0 x := ?_; ?_); rotate_left; clear_value x; rotate_left; subst x)
    | (extract_lets -merge +onlyGivenNames x; clear_value x)
    | with_reducible exact Frame.refl _ _
    | with_reducible apply Frame.ite
    | with_reducible apply Frame.foldl
    | split
    | with_reducible apply Frame.set_cond _ (by decide)

theorem State.fireCue_frame (s0 : State) (a1 : Nat) (a2 : CueWait) : Frame [.cond, .score, .books] s0 (State.fireCue s0 a1 a2) := by
  unfold State.fireCue
  repeat' first
    | with_reducible assumption
    | intro _
    | (extract_lets -merge +onlyGivenNames x; refine (have hx : Frame [.cond, .score, .books] s0 x := ?_; ?_); rotate_left; clear_value x; rotate_left; subst x)
    | (extract_lets -merge +onlyGivenNames x; refine (have hx : Frame [.cond, .score, .books] s0 x.1 := ?_; ?_); rotate_left; clear_value x; rotate_left; subst x)
    | (extract_lets -merge +onlyGivenNames x; refine (have hf : _ → _ := x; ?_); clear hf; subst x)
    | (extract_lets -merge +onlyGivenNames x; clear_value x)
    | with_reducible exact Frame.refl _ _
    | with_reducible apply Frame.ite
    | with_reducible apply Frame.ite1
    | with_reducible apply Frame.foldl
    | with_reducible apply Frame.foldl1
    | with_reducible apply Frame.idf
    | with_reducible apply Frame.via (State.setConductor_frame _ _ _) (by decide)
    | split
    | with_reducible apply Frame.set_score_books _ _ (by decide) (by decide)

end Sys2Proof.Machine
end

