-- ==== Sys2Proof/Laws/Frames4.lean ====
section
/-! SUPPORT. The frames of operations and commands of Desks, EthCmds, EthOps, EthRx, EthTx, G1Ops, HostCmds, HostOps,
LinkOps, Mem, MemOps, Ops, QueueOps, TackOps, UnisonOps: the parts that each may change. -/

namespace Sys2Proof.Machine

theorem State.firePending_frame (d n : Nat) (cs : List CueWait) (s0 : State) :
    Frame [.regs, .cond, .score, .books] s0 (State.firePending d n cs s0) := by
  induction cs generalizing n s0 with
  | nil => cases n <;> exact Frame.refl _ _
  | cons c cs ih =>
    cases n with
    | zero => exact Frame.refl _ _
    | succ n =>
      unfold State.firePending
      refine Frame.ite (fun _ => Frame.trans ?_ (ih _ _)) (fun _ => ih _ _)
      exact Frame.via (State.incF_frame _ _ _ _ _) (by decide) (Frame.via (State.fireCue_frame _ _ _) (by decide)
        (Frame.via (State.setConductor_frame _ _ _) (by decide) (Frame.refl _ _)))

theorem State.newSend_frame (s0 : State) (a1 : Nat) (a2 : Nat) (a3 : WaitSend) (a4 : Bool) : Frame [.regs, .tempo, .press, .score, .unison, .arb] s0 (State.newSend s0 a1 a2 a3 a4) := by
  unfold State.newSend
  repeat' first
    | with_reducible assumption
    | intro _
    | (extract_lets -merge +onlyGivenNames x; refine (have hx : Frame [.regs, .tempo, .press, .score, .unison, .arb] s0 x := ?_; ?_); rotate_left; clear_value x; rotate_left; subst x)
    | (extract_lets -merge +onlyGivenNames x; clear_value x)
    | with_reducible exact Frame.refl _ _
    | with_reducible apply Frame.ite
    | with_reducible apply Frame.foldl
    | with_reducible apply Frame.via (State.setBit_frame _ _ _ _) (by decide)
    | with_reducible apply Frame.via (State.trySend_frame _ _ _ _ _ _) (by decide)
    | with_reducible apply Frame.via (State.scoreFaultReq_frame _ _ _ _ _) (by decide)
    | with_reducible refine Frame.via (Frame.of_eq1 (State.trySend_frame _ _ _ _ _ _) (by assumption)) (by decide) ?_
    | split
    | with_reducible apply Frame.set_score _ (by decide)

theorem State.replayItem_frame (s0 : State) (a1 : LogItem) : Frame [.mem, .score, .books] s0 (State.replayItem s0 a1) := by
  unfold State.replayItem
  repeat' first
    | with_reducible assumption
    | intro _
    | (extract_lets -merge +onlyGivenNames x; refine (have hx : Frame [.mem, .score, .books] s0 x := ?_; ?_); rotate_left; clear_value x; rotate_left; subst x)
    | (extract_lets -merge +onlyGivenNames x; clear_value x)
    | with_reducible exact Frame.refl _ _
    | with_reducible apply Frame.ite
    | with_reducible apply Frame.foldl
    | with_reducible apply Frame.via (State.writeBoard_frame _ _ _ _) (by decide)
    | split
    | with_reducible apply Frame.set_score_books _ _ (by decide) (by decide)

theorem State.replayLog_frame (s0 : State) : Frame [.mem, .score, .books, .unison] s0 (State.replayLog s0) := by
  unfold State.replayLog
  repeat' first
    | with_reducible assumption
    | intro _
    | (extract_lets -merge +onlyGivenNames x; refine (have hx : Frame [.mem, .score, .books, .unison] s0 x := ?_; ?_); rotate_left; clear_value x; rotate_left; subst x)
    | (extract_lets -merge +onlyGivenNames x; clear_value x)
    | with_reducible exact Frame.refl _ _
    | with_reducible apply Frame.ite
    | with_reducible apply Frame.foldl
    | with_reducible apply Frame.via (State.setUnison_frame _ _) (by decide)
    | with_reducible apply Frame.via (State.replayItem_frame _ _) (by decide)
    | split

theorem State.passEntry_frame (s0 : State) (a1 : Nat) (a2 : Nat) : Frame [.mem, .tempo, .cond, .score, .books, .unison] s0 (State.passEntry s0 a1 a2) := by
  unfold State.passEntry
  repeat' first
    | with_reducible assumption
    | intro _
    | (extract_lets -merge +onlyGivenNames x; refine (have hx : Frame [.mem, .tempo, .cond, .score, .books, .unison] s0 x := ?_; ?_); rotate_left; clear_value x; rotate_left; subst x)
    | (extract_lets -merge +onlyGivenNames x; clear_value x)
    | with_reducible exact Frame.refl _ _
    | with_reducible apply Frame.ite
    | with_reducible apply Frame.foldl
    | with_reducible apply Frame.via (State.setTempo_frame _ _) (by decide)
    | with_reducible apply Frame.via (State.setConductor_frame _ _ _) (by decide)
    | with_reducible apply Frame.via (State.replayLog_frame _) (by decide)
    | split

theorem State.syncCues_frame (s0 : State) (a1 : Nat) : Frame [.regs] s0 (State.syncCues s0 a1) := by
  unfold State.syncCues
  repeat' first
    | with_reducible assumption
    | intro _
    | (extract_lets -merge +onlyGivenNames x; refine (have hx : Frame [.regs] s0 x := ?_; ?_); rotate_left; clear_value x; rotate_left; subst x)
    | (extract_lets -merge +onlyGivenNames x; clear_value x)
    | with_reducible exact Frame.refl _ _
    | with_reducible apply Frame.ite
    | with_reducible apply Frame.foldl
    | with_reducible apply Frame.via (State.peakF_frame _ _ _ _ _) (by decide)
    | split

theorem execBoltDeparture_frame (s0 : State) (a0 : Fin 8) (a1 : Nat) (a2 : Bool) (a3 : Nat) : Completes (execBoltDeparture a0 a1 a2 a3 s0) (Frame [.regs, .tempo, .press, .score, .unison, .arb] s0) := by
  unfold execBoltDeparture
  refine ⟨_, rfl, ?_⟩
  repeat' first
    | with_reducible assumption
    | intro _
    | (extract_lets -merge +onlyGivenNames x; refine (have hx : Frame [.regs, .tempo, .press, .score, .unison, .arb] s0 x := ?_; ?_); rotate_left; clear_value x; rotate_left; subst x)
    | (extract_lets -merge +onlyGivenNames x; refine (have hx : Frame [.regs, .tempo, .press, .score, .unison, .arb] s0 x.1 := ?_; ?_); rotate_left; clear_value x; rotate_left; subst x)
    | (extract_lets -merge +onlyGivenNames x; refine (have hf : _ → _ := x; ?_); clear hf; subst x)
    | (extract_lets -merge +onlyGivenNames x; clear_value x)
    | with_reducible exact Frame.refl _ _
    | with_reducible apply Frame.ite
    | with_reducible apply Frame.ite1
    | with_reducible apply Frame.foldl
    | with_reducible apply Frame.foldl1
    | with_reducible apply Frame.idf
    | with_reducible apply Frame.via (State.departAt_frame _ _ _ _) (by decide)
    | split

theorem execCue_frame (s0 : State) (a0 : Fin 8) : Completes (execCue a0 s0) (Frame [.regs, .mem, .tempo, .cond, .score, .books, .unison, .arb] s0) := by
  unfold execCue
  refine ⟨_, rfl, ?_⟩
  repeat' first
    | with_reducible assumption
    | intro _
    | (extract_lets -merge +onlyGivenNames x; refine (have hx : Frame [.regs, .mem, .tempo, .cond, .score, .books, .unison, .arb] s0 x := ?_; ?_); rotate_left; clear_value x; rotate_left; subst x)
    | (extract_lets -merge +onlyGivenNames x; refine (have hx : Frame [.regs, .mem, .tempo, .cond, .score, .books, .unison, .arb] s0 x.1 := ?_; ?_); rotate_left; clear_value x; rotate_left; subst x)
    | (extract_lets -merge +onlyGivenNames x; refine (have hf : _ → _ := x; ?_); clear hf; subst x)
    | (extract_lets -merge +onlyGivenNames x; clear_value x)
    | with_reducible exact Frame.refl _ _
    | with_reducible apply Frame.ite
    | with_reducible apply Frame.ite1
    | with_reducible apply Frame.foldl
    | with_reducible apply Frame.foldl1
    | with_reducible apply Frame.idf
    | with_reducible apply Frame.via (State.scoreFaultReq_frame _ _ _ _ _) (by decide)
    | with_reducible apply Frame.via (State.setConductor_frame _ _ _) (by decide)
    | with_reducible apply Frame.via (State.fireCue_frame _ _ _) (by decide)
    | with_reducible apply Frame.via (State.passEntry_frame _ _ _) (by decide)
    | with_reducible apply Frame.via (State.syncCues_frame _ _) (by decide)
    | split

theorem execCueArrive_frame (s0 : State) (a0 : Fin 8) : Completes (execCueArrive a0 s0) (Frame [.regs, .tempo, .cond, .sects, .arb] s0) := by
  unfold execCueArrive
  refine ⟨_, rfl, ?_⟩
  repeat' first
    | with_reducible assumption
    | intro _
    | (extract_lets -merge +onlyGivenNames x; refine (have hx : Frame [.regs, .tempo, .cond, .sects, .arb] s0 x := ?_; ?_); rotate_left; clear_value x; rotate_left; subst x)
    | (extract_lets -merge +onlyGivenNames x; clear_value x)
    | with_reducible exact Frame.refl _ _
    | with_reducible apply Frame.ite
    | with_reducible apply Frame.foldl
    | with_reducible apply Frame.via (State.applyCue_frame _ _ _) (by decide)
    | with_reducible apply Frame.via (State.setConductor_frame _ _ _) (by decide)
    | split

theorem execDeskNop_frame (s0 : State) (a0 : Fin 10) : Completes (execDeskNop a0 s0) (Frame [.mem, .tempo, .cond, .score, .books, .unison] s0) := by
  unfold execDeskNop
  refine ⟨_, rfl, ?_⟩
  repeat' first
    | with_reducible assumption
    | intro _
    | (extract_lets -merge +onlyGivenNames x; refine (have hx : Frame [.mem, .tempo, .cond, .score, .books, .unison] s0 x := ?_; ?_); rotate_left; clear_value x; rotate_left; subst x)
    | (extract_lets -merge +onlyGivenNames x; clear_value x)
    | with_reducible exact Frame.refl _ _
    | with_reducible apply Frame.ite
    | with_reducible apply Frame.foldl
    | with_reducible apply Frame.via (State.passEntry_frame _ _ _) (by decide)
    | split

theorem execFermataEntry_frame (s0 : State) : Completes (execFermataEntry s0) (Frame [.mem, .tempo, .cond, .score, .books, .unison] s0) := by
  unfold execFermataEntry
  refine ⟨_, rfl, ?_⟩
  repeat' first
    | with_reducible assumption
    | intro _
    | (extract_lets -merge +onlyGivenNames x; refine (have hx : Frame [.mem, .tempo, .cond, .score, .books, .unison] s0 x := ?_; ?_); rotate_left; clear_value x; rotate_left; subst x)
    | (extract_lets -merge +onlyGivenNames x; clear_value x)
    | with_reducible exact Frame.refl _ _
    | with_reducible apply Frame.ite
    | with_reducible apply Frame.foldl
    | with_reducible apply Frame.via (State.setTempo_frame _ _) (by decide)
    | with_reducible apply Frame.via (State.passEntry_frame _ _ _) (by decide)
    | split

theorem execHeldCueEnqueue_frame (s0 : State) (a0 : Fin 8) : Completes (execHeldCueEnqueue a0 s0) (Frame [.regs, .cond] s0) := by
  unfold execHeldCueEnqueue
  refine ⟨_, rfl, ?_⟩
  repeat' first
    | with_reducible assumption
    | intro _
    | (extract_lets -merge +onlyGivenNames x; refine (have hx : Frame [.regs, .cond] s0 x := ?_; ?_); rotate_left; clear_value x; rotate_left; subst x)
    | (extract_lets -merge +onlyGivenNames x; clear_value x)
    | with_reducible exact Frame.refl _ _
    | with_reducible apply Frame.ite
    | with_reducible apply Frame.foldl
    | with_reducible apply Frame.via (State.setConductor_frame _ _ _) (by decide)
    | with_reducible apply Frame.via (State.syncCues_frame _ _) (by decide)
    | split

theorem execMoveSend_frame (s0 : State) (a0 : Fin 8) (a1 : Bool) : Completes (execMoveSend a0 a1 s0) (Frame [.regs, .mem, .tempo, .cond, .press, .score, .books, .unison, .arb] s0) := by
  unfold execMoveSend
  refine ⟨_, rfl, ?_⟩
  repeat' first
    | with_reducible assumption
    | intro _
    | (extract_lets -merge +onlyGivenNames x; refine (have hx : Frame [.regs, .mem, .tempo, .cond, .press, .score, .books, .unison, .arb] s0 x := ?_; ?_); rotate_left; clear_value x; rotate_left; subst x)
    | (extract_lets -merge +onlyGivenNames x; clear_value x)
    | with_reducible exact Frame.refl _ _
    | with_reducible apply Frame.ite
    | with_reducible apply Frame.foldl
    | with_reducible apply Frame.via (State.newSend_frame _ _ _ _ _) (by decide)
    | with_reducible apply Frame.via (State.passEntry_frame _ _ _) (by decide)
    | split

theorem execMoveTake_frame (s0 : State) (a0 : Fin 2) (a1 : Bool) : Completes (execMoveTake a0 a1 s0) (Frame [.regs, .mem, .tempo, .cond, .linkTx, .lk, .seams, .legacy, .score, .books, .unison, .arb] s0) := by
  unfold execMoveTake
  refine ⟨_, rfl, ?_⟩
  repeat' first
    | with_reducible assumption
    | intro _
    | (extract_lets -merge +onlyGivenNames x; refine (have hx : Frame [.regs, .mem, .tempo, .cond, .linkTx, .lk, .seams, .legacy, .score, .books, .unison, .arb] s0 x := ?_; ?_); rotate_left; clear_value x; rotate_left; subst x)
    | (extract_lets -merge +onlyGivenNames x; refine (have hx : Frame [.regs, .mem, .tempo, .cond, .linkTx, .lk, .seams, .legacy, .score, .books, .unison, .arb] s0 x.1 := ?_; ?_); rotate_left; clear_value x; rotate_left; subst x)
    | (extract_lets -merge +onlyGivenNames x; refine (have hf : _ → _ := x; ?_); clear hf; subst x)
    | (extract_lets -merge +onlyGivenNames x; clear_value x)
    | with_reducible exact Frame.refl _ _
    | with_reducible apply Frame.ite
    | with_reducible apply Frame.ite1
    | with_reducible apply Frame.foldl
    | with_reducible apply Frame.foldl1
    | with_reducible apply Frame.idf
    | with_reducible refine Frame.via (State.takeBolt_frame _ _ _ (by assumption)) (by decide) ?_
    | with_reducible apply Frame.via (State.passEntry_frame _ _ _) (by decide)
    | split
    | with_reducible apply Frame.set_score _ (by decide)

theorem execPatchpoint_frame (s0 : State) (a0 : Fin 10) : Completes (execPatchpoint a0 s0) (Frame [.mem, .tempo, .cond, .score, .books, .unison] s0) := by
  unfold execPatchpoint
  refine ⟨_, rfl, ?_⟩
  repeat' first
    | with_reducible assumption
    | intro _
    | (extract_lets -merge +onlyGivenNames x; refine (have hx : Frame [.mem, .tempo, .cond, .score, .books, .unison] s0 x := ?_; ?_); rotate_left; clear_value x; rotate_left; subst x)
    | (extract_lets -merge +onlyGivenNames x; clear_value x)
    | with_reducible exact Frame.refl _ _
    | with_reducible apply Frame.ite
    | with_reducible apply Frame.foldl
    | with_reducible apply Frame.via (State.passEntry_frame _ _ _) (by decide)
    | split

theorem execPendingCueFire_frame (s0 : State) (a0 : Fin 8) : Completes (execPendingCueFire a0 s0) (Frame [.regs, .cond, .score, .books] s0) := by
  unfold execPendingCueFire
  refine ⟨_, rfl, ?_⟩
  repeat' first
    | with_reducible assumption
    | intro _
    | (extract_lets -merge +onlyGivenNames x; refine (have hx : Frame [.regs, .cond, .score, .books] s0 x := ?_; ?_); rotate_left; clear_value x; rotate_left; subst x)
    | (extract_lets -merge +onlyGivenNames x; clear_value x)
    | with_reducible exact Frame.refl _ _
    | with_reducible apply Frame.ite
    | with_reducible apply Frame.foldl
    | with_reducible apply Frame.via (State.firePending_frame _ _ _ _) (by decide)
    | with_reducible apply Frame.via (State.syncCues_frame _ _) (by decide)
    | split

theorem execTakeDeferred_frame (s0 : State) (a0 : Fin 12) (a1 : Nat) (a2 : Bool) : Completes (execTakeDeferred a0 a1 a2 s0) (Frame [.regs, .linkTx, .lk, .seams, .legacy, .score, .books, .arb] s0) := by
  unfold execTakeDeferred
  refine ⟨_, rfl, ?_⟩
  repeat' first
    | with_reducible assumption
    | intro _
    | (extract_lets -merge +onlyGivenNames x; refine (have hx : Frame [.regs, .linkTx, .lk, .seams, .legacy, .score, .books, .arb] s0 x := ?_; ?_); rotate_left; clear_value x; rotate_left; subst x)
    | (extract_lets -merge +onlyGivenNames x; clear_value x)
    | with_reducible exact Frame.refl _ _
    | with_reducible apply Frame.ite
    | with_reducible apply Frame.foldl
    | with_reducible apply Frame.via (State.incF_frame _ _ _ _ _) (by decide)
    | with_reducible refine Frame.via (State.takeBolt_frame _ _ _ (by assumption)) (by decide) ?_
    | split
    | with_reducible apply Frame.set_score _ (by decide)

theorem State.ethCmd_frame {l : List Part} (s0 s : State) (c : Cmd) (op : Nat) (body : Nat → State → State)
    (hl : [Part.regs, .mem, .front].all (fun p => l.contains p) = true) (h : Frame l s0 s)
    (hb : Frame l s0 s → Frame l s0 (body c.tIndex s)) : Frame l s0 (s.ethCmd c op body) := by
  unfold State.ethCmd
  refine State.runCmd_frame _ _ _ _ _ hl h (fun _ => ?_)
  exact Frame.ite (fun _ => Frame.via (State.complete_frame _ _ _ _) hl h)
    (fun _ => Frame.ite (fun _ => Frame.via (State.complete_frame _ _ _ _) hl h) (fun _ => hb h))

theorem State.syncPn_frame (s0 : State) (a1 : Nat) : Frame [.regs] s0 (State.syncPn s0 a1) := by
  unfold State.syncPn
  repeat' first
    | with_reducible assumption
    | intro _
    | (extract_lets -merge +onlyGivenNames x; refine (have hx : Frame [.regs] s0 x := ?_; ?_); rotate_left; clear_value x; rotate_left; subst x)
    | (extract_lets -merge +onlyGivenNames x; clear_value x)
    | with_reducible exact Frame.refl _ _
    | with_reducible apply Frame.ite
    | with_reducible apply Frame.foldl
    | with_reducible apply Frame.via (State.setF_frame _ _ _ _ _) (by decide)
    | split

theorem State.ethLog_frame (s0 : State) (a1 : Nat) (a2 : Fld) : Frame [.regs, .arb] s0 (State.ethLog s0 a1 a2) := by
  unfold State.ethLog
  repeat' first
    | with_reducible assumption
    | intro _
    | (extract_lets -merge +onlyGivenNames x; refine (have hx : Frame [.regs, .arb] s0 x := ?_; ?_); rotate_left; clear_value x; rotate_left; subst x)
    | (extract_lets -merge +onlyGivenNames x; clear_value x)
    | with_reducible exact Frame.refl _ _
    | with_reducible apply Frame.ite
    | with_reducible apply Frame.foldl
    | with_reducible apply Frame.via (State.setLogged_frame _ _ _ _ _) (by decide)
    | split

theorem execMacsecSa_frame (s0 : State) (a0 : Cmd) : Completes (execMacsecSa a0 s0) (Frame [.regs, .mem, .eth, .arb, .front] s0) := by
  unfold execMacsecSa
  refine ⟨_, rfl, ?_⟩
  repeat' first
    | with_reducible assumption
    | intro _
    | (extract_lets -merge +onlyGivenNames x; refine (have hx : Frame [.regs, .mem, .eth, .arb, .front] s0 x := ?_; ?_); rotate_left; clear_value x; rotate_left; subst x)
    | (extract_lets -merge +onlyGivenNames x; clear_value x)
    | with_reducible exact Frame.refl _ _
    | with_reducible apply Frame.ite
    | with_reducible apply Frame.foldl
    | with_reducible apply Frame.via (State.setF_frame _ _ _ _ _) (by decide)
    | with_reducible apply Frame.via (State.setEthPort_frame _ _ _) (by decide)
    | with_reducible apply Frame.via (State.complete_frame _ _ _ _) (by decide)
    | with_reducible refine State.ethCmd_frame _ _ _ _ _ (by decide) ?_ (fun _ => ?_)
    | with_reducible apply Frame.via (State.syncPn_frame _ _) (by decide)
    | with_reducible apply Frame.via (State.ethLog_frame _ _ _) (by decide)
    | split

theorem execPfcConfig_frame (s0 : State) (a0 : Cmd) : Completes (execPfcConfig a0 s0) (Frame [.regs, .mem, .eth, .arb, .icu, .front] s0) := by
  unfold execPfcConfig
  refine ⟨_, rfl, ?_⟩
  repeat' first
    | with_reducible assumption
    | intro _
    | (extract_lets -merge +onlyGivenNames x; refine (have hx : Frame [.regs, .mem, .eth, .arb, .icu, .front] s0 x := ?_; ?_); rotate_left; clear_value x; rotate_left; subst x)
    | (extract_lets -merge +onlyGivenNames x; clear_value x)
    | with_reducible exact Frame.refl _ _
    | with_reducible apply Frame.ite
    | with_reducible apply Frame.foldl
    | with_reducible apply Frame.via (State.setF_frame _ _ _ _ _) (by decide)
    | with_reducible apply Frame.via (State.setEthPort_frame _ _ _) (by decide)
    | with_reducible apply Frame.via (State.noticeUpdate_frame _ _ _ _ _) (by decide)
    | with_reducible apply Frame.via (State.complete_frame _ _ _ _) (by decide)
    | with_reducible refine State.ethCmd_frame _ _ _ _ _ (by decide) ?_ (fun _ => ?_)
    | split

theorem execPortConfig_frame (s0 : State) (a0 : Cmd) : Completes (execPortConfig a0 s0) (Frame [.regs, .mem, .eth, .front] s0) := by
  unfold execPortConfig
  refine ⟨_, rfl, ?_⟩
  repeat' first
    | with_reducible assumption
    | intro _
    | (extract_lets -merge +onlyGivenNames x; refine (have hx : Frame [.regs, .mem, .eth, .front] s0 x := ?_; ?_); rotate_left; clear_value x; rotate_left; subst x)
    | (extract_lets -merge +onlyGivenNames x; clear_value x)
    | with_reducible exact Frame.refl _ _
    | with_reducible apply Frame.ite
    | with_reducible apply Frame.foldl
    | with_reducible apply Frame.via (State.setF_frame _ _ _ _ _) (by decide)
    | with_reducible apply Frame.via (State.setEthPort_frame _ _ _) (by decide)
    | with_reducible apply Frame.via (State.complete_frame _ _ _ _) (by decide)
    | with_reducible refine State.ethCmd_frame _ _ _ _ _ (by decide) ?_ (fun _ => ?_)
    | split

theorem State.ethCount_frame (s0 : State) (a1 : Nat) (a2 : Nat) (a3 : Nat) : Frame [.regs] s0 (State.ethCount s0 a1 a2 a3) := by
  unfold State.ethCount
  repeat' first
    | with_reducible assumption
    | intro _
    | (extract_lets -merge +onlyGivenNames x; refine (have hx : Frame [.regs] s0 x := ?_; ?_); rotate_left; clear_value x; rotate_left; subst x)
    | (extract_lets -merge +onlyGivenNames x; clear_value x)
    | with_reducible exact Frame.refl _ _
    | with_reducible apply Frame.ite
    | with_reducible apply Frame.foldl
    | with_reducible apply Frame.via (State.incF_frame _ _ _ _ _) (by decide)
    | split

theorem State.ethProtect_frame (s0 : State) (a1 : Nat) (a2 : Nat) : Frame [.regs, .eth, .arb] s0 (State.ethProtect s0 a1 a2).1 := by
  unfold State.ethProtect
  repeat' first
    | with_reducible assumption
    | intro _
    | (extract_lets -merge +onlyGivenNames x; refine (have hx : Frame [.regs, .eth, .arb] s0 x := ?_; ?_); rotate_left; clear_value x; rotate_left; subst x)
    | (extract_lets -merge +onlyGivenNames x; clear_value x)
    | with_reducible exact Frame.refl _ _
    | with_reducible apply Frame.ite
    | with_reducible apply Frame.foldl
    | with_reducible apply Frame.via (State.setEthPort_frame _ _ _) (by decide)
    | with_reducible apply Frame.via (State.syncPn_frame _ _) (by decide)
    | with_reducible apply Frame.via (State.ethLog_frame _ _ _) (by decide)
    | with_reducible apply Frame.via (State.ethCount_frame _ _ _ _) (by decide)
    | split

theorem State.ethOut_frame (s0 : State) (a1 : EthOut) : Frame [.eth] s0 (State.ethOut s0 a1) := by
  unfold State.ethOut
  repeat' first
    | with_reducible assumption
    | intro _
    | (extract_lets -merge +onlyGivenNames x; refine (have hx : Frame [.eth] s0 x := ?_; ?_); rotate_left; clear_value x; rotate_left; subst x)
    | (extract_lets -merge +onlyGivenNames x; clear_value x)
    | with_reducible exact Frame.refl _ _
    | with_reducible apply Frame.ite
    | with_reducible apply Frame.foldl
    | split
    | with_reducible apply Frame.set_eth _ (by decide)

theorem State.rbtSend_frame (s0 : State) (a1 : Nat) (a2 : List Byte) (a3 : Nat) (a4 : Nat) (a5 : List Byte) : Frame [.regs, .eth, .arb] s0 (State.rbtSend s0 a1 a2 a3 a4 a5) := by
  unfold State.rbtSend
  repeat' first
    | with_reducible assumption
    | intro _
    | (extract_lets -merge +onlyGivenNames x; refine (have hx : Frame [.regs, .eth, .arb] s0 x := ?_; ?_); rotate_left; clear_value x; rotate_left; subst x)
    | (extract_lets -merge +onlyGivenNames x; refine (have hx : Frame [.regs, .eth, .arb] s0 x.1 := ?_; ?_); rotate_left; clear_value x; rotate_left; subst x)
    | (extract_lets -merge +onlyGivenNames x; refine (have hf : _ → _ := x; ?_); clear hf; subst x)
    | (extract_lets -merge +onlyGivenNames x; clear_value x)
    | with_reducible exact Frame.refl _ _
    | with_reducible apply Frame.ite
    | with_reducible apply Frame.ite1
    | with_reducible apply Frame.foldl
    | with_reducible apply Frame.foldl1
    | with_reducible apply Frame.idf
    | with_reducible apply Frame.via (State.ethProtect_frame _ _ _) (by decide)
    | with_reducible apply Frame.via (State.ethOut_frame _ _) (by decide)
    | with_reducible refine Frame.via (Frame.of_eq1 (State.ethProtect_frame _ _ _) (by assumption)) (by decide) ?_
    | split

theorem State.rbtAbort_frame (s0 : State) (a1 : Nat) (a2 : List Byte) (a3 : Nat) (a4 : Nat) (a5 : Nat) (a6 : Nat) (a7 : Nat) (a8 : Nat) : Frame [.regs, .eth, .arb] s0 (State.rbtAbort s0 a1 a2 a3 a4 a5 a6 a7 a8) := by
  unfold State.rbtAbort
  repeat' first
    | with_reducible assumption
    | intro _
    | (extract_lets -merge +onlyGivenNames x; refine (have hx : Frame [.regs, .eth, .arb] s0 x := ?_; ?_); rotate_left; clear_value x; rotate_left; subst x)
    | (extract_lets -merge +onlyGivenNames x; clear_value x)
    | with_reducible exact Frame.refl _ _
    | with_reducible apply Frame.ite
    | with_reducible apply Frame.foldl
    | with_reducible apply Frame.via (State.setBit_frame _ _ _ _) (by decide)
    | with_reducible apply Frame.via (State.rbtSend_frame _ _ _ _ _ _) (by decide)
    | split

theorem State.mapJobs_frame (s0 : State) (a1 : Nat) (a2 : EthJob → Bool) (a3 : EthJob → EthJob) : Frame [.eth] s0 (State.mapJobs s0 a1 a2 a3) := by
  unfold State.mapJobs
  repeat' first
    | with_reducible assumption
    | intro _
    | (extract_lets -merge +onlyGivenNames x; refine (have hx : Frame [.eth] s0 x := ?_; ?_); rotate_left; clear_value x; rotate_left; subst x)
    | (extract_lets -merge +onlyGivenNames x; clear_value x)
    | with_reducible exact Frame.refl _ _
    | with_reducible apply Frame.ite
    | with_reducible apply Frame.foldl
    | with_reducible apply Frame.via (State.setEthQueue_frame _ _ _) (by decide)
    | split

theorem State.abortMsg_frame (s0 : State) (a1 : Nat) (a2 : EthJob) (a3 : Nat) : Frame [.regs, .eth, .arb] s0 (State.abortMsg s0 a1 a2 a3) := by
  unfold State.abortMsg
  repeat' first
    | with_reducible assumption
    | intro _
    | (extract_lets -merge +onlyGivenNames x; refine (have hx : Frame [.regs, .eth, .arb] s0 x := ?_; ?_); rotate_left; clear_value x; rotate_left; subst x)
    | (extract_lets -merge +onlyGivenNames x; clear_value x)
    | with_reducible exact Frame.refl _ _
    | with_reducible apply Frame.ite
    | with_reducible apply Frame.foldl
    | with_reducible apply Frame.via (State.setEthQueue_frame _ _ _) (by decide)
    | with_reducible apply Frame.via (State.rbtAbort_frame _ _ _ _ _ _ _ _ _) (by decide)
    | with_reducible apply Frame.via (State.mapJobs_frame _ _ _ _) (by decide)
    | split

theorem State.ethGone_frame (s0 : State) (a1 : Nat) : Frame [.regs, .mem, .eth, .front] s0 (State.ethGone s0 a1) := by
  unfold State.ethGone
  repeat' first
    | with_reducible assumption
    | intro _
    | (extract_lets -merge +onlyGivenNames x; refine (have hx : Frame [.regs, .mem, .eth, .front] s0 x := ?_; ?_); rotate_left; clear_value x; rotate_left; subst x)
    | (extract_lets -merge +onlyGivenNames x; clear_value x)
    | with_reducible exact Frame.refl _ _
    | with_reducible apply Frame.ite
    | with_reducible apply Frame.foldl
    | with_reducible apply Frame.via (State.clrReg_frame _ _ _) (by decide)
    | with_reducible apply Frame.via (State.complete_frame _ _ _ _) (by decide)
    | with_reducible apply Frame.via (State.setEthQueue_frame _ _ _) (by decide)
    | split

theorem State.takeEpoch_frame (s0 : State) : Frame [.eth] s0 (State.takeEpoch s0).1 := by
  unfold State.takeEpoch
  repeat' first
    | with_reducible assumption
    | intro _
    | (extract_lets -merge +onlyGivenNames x; refine (have hx : Frame [.eth] s0 x := ?_; ?_); rotate_left; clear_value x; rotate_left; subst x)
    | (extract_lets -merge +onlyGivenNames x; clear_value x)
    | with_reducible exact Frame.refl _ _
    | with_reducible apply Frame.ite
    | with_reducible apply Frame.foldl
    | split
    | with_reducible apply Frame.set_eth _ (by decide)

theorem execPortQueueCreate_frame (s0 : State) (a0 : Cmd) : Completes (execPortQueueCreate a0 s0) (Frame [.regs, .mem, .eth, .arb, .front] s0) := by
  unfold execPortQueueCreate
  refine ⟨_, rfl, ?_⟩
  repeat' first
    | with_reducible assumption
    | intro _
    | (extract_lets -merge +onlyGivenNames x; refine (have hx : Frame [.regs, .mem, .eth, .arb, .front] s0 x := ?_; ?_); rotate_left; clear_value x; rotate_left; subst x)
    | (extract_lets -merge +onlyGivenNames x; refine (have hx : Frame [.regs, .mem, .eth, .arb, .front] s0 x.1 := ?_; ?_); rotate_left; clear_value x; rotate_left; subst x)
    | (extract_lets -merge +onlyGivenNames x; refine (have hf : _ → _ := x; ?_); clear hf; subst x)
    | (extract_lets -merge +onlyGivenNames x; clear_value x)
    | with_reducible exact Frame.refl _ _
    | with_reducible apply Frame.ite
    | with_reducible apply Frame.ite1
    | with_reducible apply Frame.foldl
    | with_reducible apply Frame.foldl1
    | with_reducible apply Frame.idf
    | with_reducible apply Frame.via (State.setF_frame _ _ _ _ _) (by decide)
    | with_reducible apply Frame.via (State.setBit_frame _ _ _ _) (by decide)
    | with_reducible apply Frame.via (State.clrReg_frame _ _ _) (by decide)
    | with_reducible apply Frame.via (State.complete_frame _ _ _ _) (by decide)
    | with_reducible apply Frame.via (State.setEthQueue_frame _ _ _) (by decide)
    | with_reducible refine State.ethCmd_frame _ _ _ _ _ (by decide) ?_ (fun _ => ?_)
    | with_reducible apply Frame.via (State.abortMsg_frame _ _ _ _) (by decide)
    | with_reducible apply Frame.via (State.ethGone_frame _ _) (by decide)
    | with_reducible apply Frame.via (State.takeEpoch_frame _) (by decide)
    | with_reducible refine Frame.via (Frame.of_eq1 (State.takeEpoch_frame _) (by assumption)) (by decide) ?_
    | split

theorem State.rbtAck_frame (s0 : State) (a1 : Nat) : Frame [.regs, .eth, .arb] s0 (State.rbtAck s0 a1) := by
  unfold State.rbtAck
  repeat' first
    | with_reducible assumption
    | intro _
    | (extract_lets -merge +onlyGivenNames x; refine (have hx : Frame [.regs, .eth, .arb] s0 x := ?_; ?_); rotate_left; clear_value x; rotate_left; subst x)
    | (extract_lets -merge +onlyGivenNames x; clear_value x)
    | with_reducible exact Frame.refl _ _
    | with_reducible apply Frame.ite
    | with_reducible apply Frame.foldl
    | with_reducible apply Frame.via (State.setEthQueue_frame _ _ _) (by decide)
    | with_reducible apply Frame.via (State.rbtSend_frame _ _ _ _ _ _) (by decide)
    | split

theorem State.setTimer_frame (s0 : State) (a1 : Nat) (a2 : Nat) (a3 : Nat) : Frame [.regs] s0 (State.setTimer s0 a1 a2 a3) := by
  unfold State.setTimer
  repeat' first
    | with_reducible assumption
    | intro _
    | (extract_lets -merge +onlyGivenNames x; refine (have hx : Frame [.regs] s0 x := ?_; ?_); rotate_left; clear_value x; rotate_left; subst x)
    | (extract_lets -merge +onlyGivenNames x; clear_value x)
    | with_reducible exact Frame.refl _ _
    | with_reducible apply Frame.ite
    | with_reducible apply Frame.foldl
    | with_reducible apply Frame.via (State.setF_frame _ _ _ _ _) (by decide)
    | split

theorem State.tallyNotice_frame (s0 : State) (a1 : Nat) (a2 : Nat) (a3 : Nat) : Frame [.regs, .score, .books, .unison, .arb] s0 (State.tallyNotice s0 a1 a2 a3) := by
  unfold State.tallyNotice
  repeat' first
    | with_reducible assumption
    | intro _
    | (extract_lets -merge +onlyGivenNames x; refine (have hx : Frame [.regs, .score, .books, .unison, .arb] s0 x := ?_; ?_); rotate_left; clear_value x; rotate_left; subst x)
    | (extract_lets -merge +onlyGivenNames x; clear_value x)
    | with_reducible exact Frame.refl _ _
    | with_reducible apply Frame.ite
    | with_reducible apply Frame.foldl
    | with_reducible apply Frame.via (State.incF_frame _ _ _ _ _) (by decide)
    | with_reducible apply Frame.via (State.logItem_frame _ _) (by decide)
    | with_reducible apply Frame.via (State.addTally_frame _ _ _ _) (by decide)
    | split
    | with_reducible apply Frame.set_books _ (by decide)

theorem State.ethDown_frame (s0 : State) (a1 : Nat) : Frame [.regs, .eth] s0 (State.ethDown s0 a1) := by
  unfold State.ethDown
  repeat' first
    | with_reducible assumption
    | intro _
    | (extract_lets -merge +onlyGivenNames x; refine (have hx : Frame [.regs, .eth] s0 x := ?_; ?_); rotate_left; clear_value x; rotate_left; subst x)
    | (extract_lets -merge +onlyGivenNames x; clear_value x)
    | with_reducible exact Frame.refl _ _
    | with_reducible apply Frame.ite
    | with_reducible apply Frame.foldl
    | with_reducible apply Frame.via (State.setF_frame _ _ _ _ _) (by decide)
    | with_reducible apply Frame.via (State.setBit_frame _ _ _ _) (by decide)
    | with_reducible apply Frame.via (State.setEthPort_frame _ _ _) (by decide)
    | split

theorem State.macsecSeen_frame (s0 : State) (a1 : Nat) (a2 : SecTag) : Frame [.eth] s0 (State.macsecSeen s0 a1 a2) := by
  unfold State.macsecSeen
  repeat' first
    | with_reducible assumption
    | intro _
    | (extract_lets -merge +onlyGivenNames x; refine (have hx : Frame [.eth] s0 x := ?_; ?_); rotate_left; clear_value x; rotate_left; subst x)
    | (extract_lets -merge +onlyGivenNames x; clear_value x)
    | with_reducible exact Frame.refl _ _
    | with_reducible apply Frame.ite
    | with_reducible apply Frame.foldl
    | with_reducible apply Frame.via (State.setEthPort_frame _ _ _) (by decide)
    | split

theorem State.ethStore_frame (s0 : State) (a1 : Nat) (a2 : EthFrame) : Frame [.regs, .eth, .arb] s0 (State.ethStore s0 a1 a2) := by
  unfold State.ethStore
  repeat' first
    | with_reducible assumption
    | intro _
    | (extract_lets -merge +onlyGivenNames x; refine (have hx : Frame [.regs, .eth, .arb] s0 x := ?_; ?_); rotate_left; clear_value x; rotate_left; subst x)
    | (extract_lets -merge +onlyGivenNames x; clear_value x)
    | with_reducible exact Frame.refl _ _
    | with_reducible apply Frame.ite
    | with_reducible apply Frame.foldl
    | with_reducible apply Frame.via (State.setEthPort_frame _ _ _) (by decide)
    | with_reducible apply Frame.via (State.ethLog_frame _ _ _) (by decide)
    | with_reducible apply Frame.via (State.ethCount_frame _ _ _ _) (by decide)
    | with_reducible apply Frame.via (State.macsecSeen_frame _ _ _) (by decide)
    | split

theorem execEthFrameReceive_frame (s0 : State) (a0 : Fin 2) (a1 : EthFrame) : Completes (execEthFrameReceive a0 a1 s0) (Frame [.regs, .eth, .arb] s0) := by
  unfold execEthFrameReceive
  refine ⟨_, rfl, ?_⟩
  repeat' first
    | with_reducible assumption
    | intro _
    | (extract_lets -merge +onlyGivenNames x; refine (have hx : Frame [.regs, .eth, .arb] s0 x := ?_; ?_); rotate_left; clear_value x; rotate_left; subst x)
    | (extract_lets -merge +onlyGivenNames x; clear_value x)
    | with_reducible exact Frame.refl _ _
    | with_reducible apply Frame.ite
    | with_reducible apply Frame.foldl
    | with_reducible apply Frame.via (State.setBit_frame _ _ _ _) (by decide)
    | with_reducible apply Frame.via (State.setEthPort_frame _ _ _) (by decide)
    | with_reducible apply Frame.via (State.ethCount_frame _ _ _ _) (by decide)
    | with_reducible apply Frame.via (State.ethStore_frame _ _ _) (by decide)
    | split

theorem execEthLinkDown_frame (s0 : State) (a0 : Fin 2) : Completes (execEthLinkDown a0 s0) (Frame [.regs, .eth] s0) := by
  unfold execEthLinkDown
  refine ⟨_, rfl, ?_⟩
  repeat' first
    | with_reducible assumption
    | intro _
    | (extract_lets -merge +onlyGivenNames x; refine (have hx : Frame [.regs, .eth] s0 x := ?_; ?_); rotate_left; clear_value x; rotate_left; subst x)
    | (extract_lets -merge +onlyGivenNames x; clear_value x)
    | with_reducible exact Frame.refl _ _
    | with_reducible apply Frame.ite
    | with_reducible apply Frame.foldl
    | with_reducible apply Frame.via (State.ethDown_frame _ _) (by decide)
    | split

theorem execEthLinkUp_frame (s0 : State) (a0 : Fin 2) : Completes (execEthLinkUp a0 s0) (Frame [.regs, .eth] s0) := by
  unfold execEthLinkUp
  refine ⟨_, rfl, ?_⟩
  repeat' first
    | with_reducible assumption
    | intro _
    | (extract_lets -merge +onlyGivenNames x; refine (have hx : Frame [.regs, .eth] s0 x := ?_; ?_); rotate_left; clear_value x; rotate_left; subst x)
    | (extract_lets -merge +onlyGivenNames x; clear_value x)
    | with_reducible exact Frame.refl _ _
    | with_reducible apply Frame.ite
    | with_reducible apply Frame.foldl
    | with_reducible apply Frame.via (State.setBit_frame _ _ _ _) (by decide)
    | with_reducible apply Frame.via (State.setEthPort_frame _ _ _) (by decide)
    | split

theorem execPauseFrameReceive_frame (s0 : State) (a0 : Fin 2) : Completes (execPauseFrameReceive a0 s0) (Frame [.regs, .eth] s0) := by
  unfold execPauseFrameReceive
  refine ⟨_, rfl, ?_⟩
  repeat' first
    | with_reducible assumption
    | intro _
    | (extract_lets -merge +onlyGivenNames x; refine (have hx : Frame [.regs, .eth] s0 x := ?_; ?_); rotate_left; clear_value x; rotate_left; subst x)
    | (extract_lets -merge +onlyGivenNames x; clear_value x)
    | with_reducible exact Frame.refl _ _
    | with_reducible apply Frame.ite
    | with_reducible apply Frame.foldl
    | with_reducible apply Frame.via (State.setEthPort_frame _ _ _) (by decide)
    | with_reducible apply Frame.via (State.ethCount_frame _ _ _ _) (by decide)
    | with_reducible apply Frame.via (State.setTimer_frame _ _ _ _) (by decide)
    | split

theorem execPauseTimerExpiry_frame (s0 : State) (a0 : Fin 2) (a1 : Fin 8) : Completes (execPauseTimerExpiry a0 a1 s0) (Frame [.regs] s0) := by
  unfold execPauseTimerExpiry
  refine ⟨_, rfl, ?_⟩
  repeat' first
    | with_reducible assumption
    | intro _
    | (extract_lets -merge +onlyGivenNames x; refine (have hx : Frame [.regs] s0 x := ?_; ?_); rotate_left; clear_value x; rotate_left; subst x)
    | (extract_lets -merge +onlyGivenNames x; clear_value x)
    | with_reducible exact Frame.refl _ _
    | with_reducible apply Frame.ite
    | with_reducible apply Frame.foldl
    | with_reducible apply Frame.via (State.setTimer_frame _ _ _ _) (by decide)
    | split

theorem execXoffRefresh_frame (s0 : State) (a0 : Fin 2) (a1 : Fin 8) : Completes (execXoffRefresh a0 a1 s0) (Frame [.eth] s0) := by
  unfold execXoffRefresh
  refine ⟨_, rfl, ?_⟩
  repeat' first
    | with_reducible assumption
    | intro _
    | (extract_lets -merge +onlyGivenNames x; refine (have hx : Frame [.eth] s0 x := ?_; ?_); rotate_left; clear_value x; rotate_left; subst x)
    | (extract_lets -merge +onlyGivenNames x; clear_value x)
    | with_reducible exact Frame.refl _ _
    | with_reducible apply Frame.ite
    | with_reducible apply Frame.foldl
    | with_reducible apply Frame.via (State.xoffDue_frame _ _ _) (by decide)
    | split

theorem State.dropFrame_frame (s0 : State) (a1 : Nat) (a2 : RxFrame) : Frame [.eth] s0 (State.dropFrame s0 a1 a2) := by
  unfold State.dropFrame
  repeat' first
    | with_reducible assumption
    | intro _
    | (extract_lets -merge +onlyGivenNames x; refine (have hx : Frame [.eth] s0 x := ?_; ?_); rotate_left; clear_value x; rotate_left; subst x)
    | (extract_lets -merge +onlyGivenNames x; clear_value x)
    | with_reducible exact Frame.refl _ _
    | with_reducible apply Frame.ite
    | with_reducible apply Frame.foldl
    | with_reducible apply Frame.via (State.setEthPort_frame _ _ _) (by decide)
    | split

theorem State.ethTally_frame (s0 : State) (a1 : Nat) : Frame [.regs, .score, .books, .unison, .arb] s0 (State.ethTally s0 a1) := by
  unfold State.ethTally
  repeat' first
    | with_reducible assumption
    | intro _
    | (extract_lets -merge +onlyGivenNames x; refine (have hx : Frame [.regs, .score, .books, .unison, .arb] s0 x := ?_; ?_); rotate_left; clear_value x; rotate_left; subst x)
    | (extract_lets -merge +onlyGivenNames x; clear_value x)
    | with_reducible exact Frame.refl _ _
    | with_reducible apply Frame.ite
    | with_reducible apply Frame.foldl
    | with_reducible apply Frame.via (State.ethLog_frame _ _ _) (by decide)
    | with_reducible apply Frame.via (State.tallyNotice_frame _ _ _ _) (by decide)
    | split

theorem State.sendControl_frame (s0 : State) (a1 : Nat) : Frame [.regs, .eth] s0 (State.sendControl s0 a1) := by
  unfold State.sendControl
  repeat' first
    | with_reducible assumption
    | intro _
    | (extract_lets -merge +onlyGivenNames x; refine (have hx : Frame [.regs, .eth] s0 x := ?_; ?_); rotate_left; clear_value x; rotate_left; subst x)
    | (extract_lets -merge +onlyGivenNames x; clear_value x)
    | with_reducible exact Frame.refl _ _
    | with_reducible apply Frame.ite
    | with_reducible apply Frame.foldl
    | with_reducible apply Frame.via (State.setEthPort_frame _ _ _) (by decide)
    | with_reducible apply Frame.via (State.ethCount_frame _ _ _ _) (by decide)
    | with_reducible apply Frame.via (State.ethOut_frame _ _) (by decide)
    | split

theorem State.sendRaw_frame (s0 : State) (a1 : Nat) : Frame [.regs, .eth, .arb] s0 (State.sendRaw s0 a1) := by
  unfold State.sendRaw
  repeat' first
    | with_reducible assumption
    | intro _
    | (extract_lets -merge +onlyGivenNames x; refine (have hx : Frame [.regs, .eth, .arb] s0 x := ?_; ?_); rotate_left; clear_value x; rotate_left; subst x)
    | (extract_lets -merge +onlyGivenNames x; refine (have hx : Frame [.regs, .eth, .arb] s0 x.1 := ?_; ?_); rotate_left; clear_value x; rotate_left; subst x)
    | (extract_lets -merge +onlyGivenNames x; refine (have hf : _ → _ := x; ?_); clear hf; subst x)
    | (extract_lets -merge +onlyGivenNames x; clear_value x)
    | with_reducible exact Frame.refl _ _
    | with_reducible apply Frame.ite
    | with_reducible apply Frame.ite1
    | with_reducible apply Frame.foldl
    | with_reducible apply Frame.foldl1
    | with_reducible apply Frame.idf
    | with_reducible apply Frame.via (State.ethProtect_frame _ _ _) (by decide)
    | with_reducible apply Frame.via (State.ethOut_frame _ _) (by decide)
    | with_reducible apply Frame.via (State.mapJobs_frame _ _ _ _) (by decide)
    | with_reducible refine Frame.via (Frame.of_eq1 (State.ethProtect_frame _ _ _) (by assumption)) (by decide) ?_
    | split

theorem State.errAddr_frame (s0 : State) (a1 : Nat) (a2 : Nat) (a3 : Bool) : Frame [.regs] s0 (State.errAddr s0 a1 a2 a3) := by
  unfold State.errAddr
  repeat' first
    | with_reducible assumption
    | intro _
    | (extract_lets -merge +onlyGivenNames x; refine (have hx : Frame [.regs] s0 x := ?_; ?_); rotate_left; clear_value x; rotate_left; subst x)
    | (extract_lets -merge +onlyGivenNames x; clear_value x)
    | with_reducible exact Frame.refl _ _
    | with_reducible apply Frame.ite
    | with_reducible apply Frame.foldl
    | with_reducible apply Frame.via (State.setF_frame _ _ _ _ _) (by decide)
    | split

theorem State.corrected_frame (s0 : State) (a1 : Nat) (a2 : Nat) : Frame [.regs, .ports] s0 (State.corrected s0 a1 a2) := by
  unfold State.corrected
  repeat' first
    | with_reducible assumption
    | intro _
    | (extract_lets -merge +onlyGivenNames x; refine (have hx : Frame [.regs, .ports] s0 x := ?_; ?_); rotate_left; clear_value x; rotate_left; subst x)
    | (extract_lets -merge +onlyGivenNames x; clear_value x)
    | with_reducible exact Frame.refl _ _
    | with_reducible apply Frame.ite
    | with_reducible apply Frame.foldl
    | with_reducible apply Frame.via (State.setBit_frame _ _ _ _) (by decide)
    | with_reducible apply Frame.via (State.incF_frame _ _ _ _ _) (by decide)
    | with_reducible apply Frame.via (State.setPort_frame _ _ _) (by decide)
    | with_reducible apply Frame.via (State.errAddr_frame _ _ _ _) (by decide)
    | split

theorem State.uncorrectable_frame (s0 : State) (a1 : Nat) (a2 : Nat) : Frame [.regs, .arb] s0 (State.uncorrectable s0 a1 a2) := by
  unfold State.uncorrectable
  repeat' first
    | with_reducible assumption
    | intro _
    | (extract_lets -merge +onlyGivenNames x; refine (have hx : Frame [.regs, .arb] s0 x := ?_; ?_); rotate_left; clear_value x; rotate_left; subst x)
    | (extract_lets -merge +onlyGivenNames x; clear_value x)
    | with_reducible exact Frame.refl _ _
    | with_reducible apply Frame.ite
    | with_reducible apply Frame.foldl
    | with_reducible apply Frame.via (State.setLogged_frame _ _ _ _ _) (by decide)
    | with_reducible apply Frame.via (State.errAddr_frame _ _ _ _) (by decide)
    | split

theorem State.eccSeen_frame (s0 : State) (a1 : Nat) (a2 : Ecc) : Frame [.regs, .ports, .arb] s0 (State.eccSeen s0 a1 a2) := by
  unfold State.eccSeen
  repeat' first
    | with_reducible assumption
    | intro _
    | (extract_lets -merge +onlyGivenNames x; refine (have hx : Frame [.regs, .ports, .arb] s0 x := ?_; ?_); rotate_left; clear_value x; rotate_left; subst x)
    | (extract_lets -merge +onlyGivenNames x; clear_value x)
    | with_reducible exact Frame.refl _ _
    | with_reducible apply Frame.ite
    | with_reducible apply Frame.foldl
    | with_reducible apply Frame.via (State.corrected_frame _ _ _) (by decide)
    | with_reducible apply Frame.via (State.uncorrectable_frame _ _ _) (by decide)
    | split

theorem State.sendSegment_frame (s0 : State) (a1 : Nat) (a2 : Ecc) : Frame [.regs, .ports, .eth, .arb] s0 (State.sendSegment s0 a1 a2) := by
  unfold State.sendSegment
  repeat' first
    | with_reducible assumption
    | intro _
    | (extract_lets -merge +onlyGivenNames x; refine (have hx : Frame [.regs, .ports, .eth, .arb] s0 x := ?_; ?_); rotate_left; clear_value x; rotate_left; subst x)
    | (extract_lets -merge +onlyGivenNames x; clear_value x)
    | with_reducible exact Frame.refl _ _
    | with_reducible apply Frame.ite
    | with_reducible apply Frame.foldl
    | with_reducible apply Frame.via (State.setEthQueue_frame _ _ _) (by decide)
    | with_reducible apply Frame.via (State.ethCount_frame _ _ _ _) (by decide)
    | with_reducible apply Frame.via (State.rbtSend_frame _ _ _ _ _ _) (by decide)
    | with_reducible apply Frame.via (State.abortMsg_frame _ _ _ _) (by decide)
    | with_reducible apply Frame.via (State.eccSeen_frame _ _ _) (by decide)
    | split

theorem State.writePiece_frame (s0 : State) (a1 : Nat) (a2 : List Byte) (a3 : HeldFor) (a4 : Bool) : Frame [.regs, .mem, .press, .unison, .arb] s0 (State.writePiece s0 a1 a2 a3 a4).1 := by
  unfold State.writePiece
  repeat' first
    | with_reducible assumption
    | intro _
    | (extract_lets -merge +onlyGivenNames x; refine (have hx : Frame [.regs, .mem, .press, .unison, .arb] s0 x := ?_; ?_); rotate_left; clear_value x; rotate_left; subst x)
    | (extract_lets -merge +onlyGivenNames x; clear_value x)
    | with_reducible exact Frame.refl _ _
    | with_reducible apply Frame.ite
    | with_reducible apply Frame.foldl
    | with_reducible apply Frame.via (State.setPrs_frame _ _ _) (by decide)
    | with_reducible apply Frame.via (State.writeBoard_frame _ _ _ _) (by decide)
    | with_reducible apply Frame.via (State.writeMem_frame _ _ _) (by decide)
    | with_reducible apply Frame.via (State.logItem_frame _ _) (by decide)
    | split

theorem State.agentWrite_frame (s0 : State) (a1 : Nat) (a2 : Nat) (a3 : List Byte) (a4 : HeldFor) (a5 : Bool) : Frame [.regs, .mem, .press, .unison, .arb] s0 (State.agentWrite s0 a1 a2 a3 a4 a5).1 := by
  unfold State.agentWrite
  repeat' first
    | with_reducible assumption
    | intro _
    | (extract_lets -merge +onlyGivenNames x; refine (have hx : Frame [.regs, .mem, .press, .unison, .arb] s0 x := ?_; ?_); rotate_left; clear_value x; rotate_left; subst x)
    | (extract_lets -merge +onlyGivenNames x; refine (have hx : Frame [.regs, .mem, .press, .unison, .arb] s0 x.1 := ?_; ?_); rotate_left; clear_value x; rotate_left; subst x)
    | (extract_lets -merge +onlyGivenNames x; refine (have hf : _ → _ := x; ?_); clear hf; subst x)
    | (extract_lets -merge +onlyGivenNames x; clear_value x)
    | with_reducible exact Frame.refl _ _
    | with_reducible apply Frame.ite
    | with_reducible apply Frame.ite1
    | with_reducible apply Frame.foldl
    | with_reducible apply Frame.foldl1
    | with_reducible apply Frame.idf
    | with_reducible apply Frame.via (State.writePiece_frame _ _ _ _ _) (by decide)
    | with_reducible refine Frame.via (Frame.of_eq1 (State.writePiece_frame _ _ _ _ _) (by assumption)) (by decide) ?_
    | split

theorem State.startJob_frame (s0 : State) (a1 : Nat) (a2 : Nat) (a3 : EthJob) (a4 : Bool) (a5 : Ecc) : Frame [.regs, .mem, .press, .ports, .eth, .unison, .arb] s0 (State.startJob s0 a1 a2 a3 a4 a5) := by
  unfold State.startJob
  repeat' first
    | with_reducible assumption
    | intro _
    | (extract_lets -merge +onlyGivenNames x; refine (have hx : Frame [.regs, .mem, .press, .ports, .eth, .unison, .arb] s0 x := ?_; ?_); rotate_left; clear_value x; rotate_left; subst x)
    | (extract_lets -merge +onlyGivenNames x; refine (have hx : Frame [.regs, .mem, .press, .ports, .eth, .unison, .arb] s0 x.1 := ?_; ?_); rotate_left; clear_value x; rotate_left; subst x)
    | (extract_lets -merge +onlyGivenNames x; refine (have hf : _ → _ := x; ?_); clear hf; subst x)
    | (extract_lets -merge +onlyGivenNames x; clear_value x)
    | with_reducible exact Frame.refl _ _
    | with_reducible apply Frame.ite
    | with_reducible apply Frame.ite1
    | with_reducible apply Frame.foldl
    | with_reducible apply Frame.foldl1
    | with_reducible apply Frame.idf
    | with_reducible apply Frame.via (State.setEthQueue_frame _ _ _) (by decide)
    | with_reducible apply Frame.via (State.ethLog_frame _ _ _) (by decide)
    | with_reducible apply Frame.via (State.dropFrame_frame _ _ _) (by decide)
    | with_reducible apply Frame.via (State.eccSeen_frame _ _ _) (by decide)
    | with_reducible apply Frame.via (State.agentWrite_frame _ _ _ _ _ _) (by decide)
    | with_reducible refine Frame.via (Frame.of_eq1 (State.agentWrite_frame _ _ _ _ _ _) (by assumption)) (by decide) ?_
    | split

theorem execDescriptorTake_frame (s0 : State) (a0 : Fin 32) (a1 : Ecc) (a2 : Bool) (a3 : Bool) : Completes (execDescriptorTake a0 a1 a2 a3 s0) (Frame [.regs, .mem, .press, .ports, .eth, .unison, .arb] s0) := by
  unfold execDescriptorTake
  refine ⟨_, rfl, ?_⟩
  repeat' first
    | with_reducible assumption
    | intro _
    | (extract_lets -merge +onlyGivenNames x; refine (have hx : Frame [.regs, .mem, .press, .ports, .eth, .unison, .arb] s0 x := ?_; ?_); rotate_left; clear_value x; rotate_left; subst x)
    | (extract_lets -merge +onlyGivenNames x; refine (have hx : Frame [.regs, .mem, .press, .ports, .eth, .unison, .arb] s0 x.1 := ?_; ?_); rotate_left; clear_value x; rotate_left; subst x)
    | (extract_lets -merge +onlyGivenNames x; refine (have hf : _ → _ := x; ?_); clear hf; subst x)
    | (extract_lets -merge +onlyGivenNames x; clear_value x)
    | with_reducible exact Frame.refl _ _
    | with_reducible apply Frame.ite
    | with_reducible apply Frame.ite1
    | with_reducible apply Frame.foldl
    | with_reducible apply Frame.foldl1
    | with_reducible apply Frame.idf
    | with_reducible apply Frame.via (State.setF_frame _ _ _ _ _) (by decide)
    | with_reducible apply Frame.via (State.setBit_frame _ _ _ _) (by decide)
    | with_reducible apply Frame.via (State.ethError_frame _ _ _) (by decide)
    | with_reducible apply Frame.via (State.setEthQueue_frame _ _ _) (by decide)
    | with_reducible apply Frame.via (State.startJob_frame _ _ _ _ _ _) (by decide)
    | split

theorem execEthDmaComplete_frame (s0 : State) (a0 : Fin 32) (a1 : Bool) : Completes (execEthDmaComplete a0 a1 s0) (Frame [.regs, .mem, .score, .books, .eth, .unison, .arb, .front] s0) := by
  unfold execEthDmaComplete
  refine ⟨_, rfl, ?_⟩
  repeat' first
    | with_reducible assumption
    | intro _
    | (extract_lets -merge +onlyGivenNames x; refine (have hx : Frame [.regs, .mem, .score, .books, .eth, .unison, .arb, .front] s0 x := ?_; ?_); rotate_left; clear_value x; rotate_left; subst x)
    | (extract_lets -merge +onlyGivenNames x; clear_value x)
    | with_reducible exact Frame.refl _ _
    | with_reducible apply Frame.ite
    | with_reducible apply Frame.foldl
    | with_reducible apply Frame.via (State.setF_frame _ _ _ _ _) (by decide)
    | with_reducible apply Frame.via (State.ethError_frame _ _ _) (by decide)
    | with_reducible apply Frame.via (State.writeMem_frame _ _ _) (by decide)
    | with_reducible apply Frame.via (State.setEthQueue_frame _ _ _) (by decide)
    | with_reducible apply Frame.via (State.ethLog_frame _ _ _) (by decide)
    | with_reducible apply Frame.via (State.ethGone_frame _ _) (by decide)
    | with_reducible apply Frame.via (State.ethTally_frame _ _) (by decide)
    | split

theorem execEthFrameTransmit_frame (s0 : State) (a0 : Fin 2) (a1 : Ecc) : Completes (execEthFrameTransmit a0 a1 s0) (Frame [.regs, .ports, .eth, .arb] s0) := by
  unfold execEthFrameTransmit
  refine ⟨_, rfl, ?_⟩
  repeat' first
    | with_reducible assumption
    | intro _
    | (extract_lets -merge +onlyGivenNames x; refine (have hx : Frame [.regs, .ports, .eth, .arb] s0 x := ?_; ?_); rotate_left; clear_value x; rotate_left; subst x)
    | (extract_lets -merge +onlyGivenNames x; clear_value x)
    | with_reducible exact Frame.refl _ _
    | with_reducible apply Frame.ite
    | with_reducible apply Frame.foldl
    | with_reducible apply Frame.via (State.setEthPort_frame _ _ _) (by decide)
    | with_reducible apply Frame.via (State.sendControl_frame _ _) (by decide)
    | with_reducible apply Frame.via (State.sendRaw_frame _ _) (by decide)
    | with_reducible apply Frame.via (State.sendSegment_frame _ _ _) (by decide)
    | split

theorem State.goneAccess_frame (s0 : State) (a1 : Reg) (a2 : List Nat) (a3 : Bool) : Frame [.regs] s0 (State.goneAccess s0 a1 a2 a3) := by
  unfold State.goneAccess
  repeat' first
    | with_reducible assumption
    | intro _
    | (extract_lets -merge +onlyGivenNames x; refine (have hx : Frame [.regs] s0 x := ?_; ?_); rotate_left; clear_value x; rotate_left; subst x)
    | (extract_lets -merge +onlyGivenNames x; clear_value x)
    | with_reducible exact Frame.refl _ _
    | with_reducible apply Frame.ite
    | with_reducible apply Frame.foldl
    | with_reducible apply Frame.via (State.absentAccess_frame _ _ _) (by decide)
    | split

theorem execEthQcplWrite_frame (s0 : State) (a0 : Fin 32) (a1 : BitVec 32) : Completes (execEthQcplWrite a0 a1 s0) (Frame [.regs] s0) := by
  unfold execEthQcplWrite
  refine ⟨_, rfl, ?_⟩
  repeat' first
    | with_reducible assumption
    | intro _
    | (extract_lets -merge +onlyGivenNames x; refine (have hx : Frame [.regs] s0 x := ?_; ?_); rotate_left; clear_value x; rotate_left; subst x)
    | (extract_lets -merge +onlyGivenNames x; clear_value x)
    | with_reducible exact Frame.refl _ _
    | with_reducible apply Frame.ite
    | with_reducible apply Frame.foldl
    | with_reducible apply Frame.via (State.ethCplHead_frame _ _ _) (by decide)
    | with_reducible apply Frame.via (State.goneAccess_frame _ _ _ _) (by decide)
    | split

theorem execEthQdbWrite_frame (s0 : State) (a0 : Fin 32) (a1 : BitVec 32) : Completes (execEthQdbWrite a0 a1 s0) (Frame [.regs] s0) := by
  unfold execEthQdbWrite
  refine ⟨_, rfl, ?_⟩
  repeat' first
    | with_reducible assumption
    | intro _
    | (extract_lets -merge +onlyGivenNames x; refine (have hx : Frame [.regs] s0 x := ?_; ?_); rotate_left; clear_value x; rotate_left; subst x)
    | (extract_lets -merge +onlyGivenNames x; clear_value x)
    | with_reducible exact Frame.refl _ _
    | with_reducible apply Frame.ite
    | with_reducible apply Frame.foldl
    | with_reducible apply Frame.via (State.ethTail_frame _ _ _) (by decide)
    | with_reducible apply Frame.via (State.goneAccess_frame _ _ _ _) (by decide)
    | split

theorem execQueueTailPoll_frame (s0 : State) (a0 : Fin 32) (a1 : Bool) : Completes (execQueueTailPoll a0 a1 s0) (Frame [.regs] s0) := by
  unfold execQueueTailPoll
  refine ⟨_, rfl, ?_⟩
  repeat' first
    | with_reducible assumption
    | intro _
    | (extract_lets -merge +onlyGivenNames x; refine (have hx : Frame [.regs] s0 x := ?_; ?_); rotate_left; clear_value x; rotate_left; subst x)
    | (extract_lets -merge +onlyGivenNames x; clear_value x)
    | with_reducible exact Frame.refl _ _
    | with_reducible apply Frame.ite
    | with_reducible apply Frame.foldl
    | with_reducible apply Frame.via (State.ethError_frame _ _ _) (by decide)
    | with_reducible apply Frame.via (State.ethTail_frame _ _ _) (by decide)
    | split

theorem State.retrainDone_frame (s0 : State) (a1 : Nat) (a2 : Nat) : Frame [.regs, .mem, .front] s0 (State.retrainDone s0 a1 a2) := by
  unfold State.retrainDone
  repeat' first
    | with_reducible assumption
    | intro _
    | (extract_lets -merge +onlyGivenNames x; refine (have hx : Frame [.regs, .mem, .front] s0 x := ?_; ?_); rotate_left; clear_value x; rotate_left; subst x)
    | (extract_lets -merge +onlyGivenNames x; clear_value x)
    | with_reducible exact Frame.refl _ _
    | with_reducible apply Frame.ite
    | with_reducible apply Frame.foldl
    | with_reducible apply Frame.via (State.complete_frame _ _ _ _) (by decide)
    | split
    | with_reducible apply Frame.set_front _ (by decide)

theorem State.linkEnterUp_frame (s0 : State) (a1 : Nat) : Frame [.regs, .mem, .arb, .front, .pwr] s0 (State.linkEnterUp s0 a1) := by
  unfold State.linkEnterUp
  repeat' first
    | with_reducible assumption
    | intro _
    | (extract_lets -merge +onlyGivenNames x; refine (have hx : Frame [.regs, .mem, .arb, .front, .pwr] s0 x := ?_; ?_); rotate_left; clear_value x; rotate_left; subst x)
    | (extract_lets -merge +onlyGivenNames x; clear_value x)
    | with_reducible exact Frame.refl _ _
    | with_reducible apply Frame.ite
    | with_reducible apply Frame.foldl
    | with_reducible apply Frame.via (State.setBit_frame _ _ _ _) (by decide)
    | with_reducible apply Frame.via (State.setLinkState_frame _ _ _) (by decide)
    | with_reducible apply Frame.via (State.linkSources_frame _) (by decide)
    | with_reducible apply Frame.via (State.retrainDone_frame _ _ _) (by decide)
    | split
    | with_reducible apply Frame.set_pwr _ (by decide)

theorem State.g1Admit_frame (s0 : State) (a1 : Nat) : Frame [.regs, .mem, .arb, .front, .pwr] s0 (State.g1Admit s0 a1) := by
  unfold State.g1Admit
  repeat' first
    | with_reducible assumption
    | intro _
    | (extract_lets -merge +onlyGivenNames x; refine (have hx : Frame [.regs, .mem, .arb, .front, .pwr] s0 x := ?_; ?_); rotate_left; clear_value x; rotate_left; subst x)
    | (extract_lets -merge +onlyGivenNames x; clear_value x)
    | with_reducible exact Frame.refl _ _
    | with_reducible apply Frame.ite
    | with_reducible apply Frame.foldl
    | with_reducible apply Frame.via (State.setF_frame _ _ _ _ _) (by decide)
    | with_reducible apply Frame.via (State.linkEnterUp_frame _ _) (by decide)
    | split

theorem State.g1Send_frame (s0 : State) (a1 : Nat) (a2 : Nat → List Byte) : Frame [.regs, .linkTx, .legacy] s0 (State.g1Send s0 a1 a2) := by
  unfold State.g1Send
  repeat' first
    | with_reducible assumption
    | intro _
    | (extract_lets -merge +onlyGivenNames x; refine (have hx : Frame [.regs, .linkTx, .legacy] s0 x := ?_; ?_); rotate_left; clear_value x; rotate_left; subst x)
    | (extract_lets -merge +onlyGivenNames x; clear_value x)
    | with_reducible exact Frame.refl _ _
    | with_reducible apply Frame.ite
    | with_reducible apply Frame.foldl
    | with_reducible apply Frame.via (State.incF_frame _ _ _ _ _) (by decide)
    | with_reducible apply Frame.via (State.setLegacy_frame _ _ _) (by decide)
    | with_reducible apply Frame.via (State.txFlit_frame _ _ _) (by decide)
    | split

theorem State.sendInit_frame (s0 : State) (a1 : Nat) : Frame [.regs, .linkTx, .legacy] s0 (State.sendInit s0 a1) := by
  unfold State.sendInit
  repeat' first
    | with_reducible assumption
    | intro _
    | (extract_lets -merge +onlyGivenNames x; refine (have hx : Frame [.regs, .linkTx, .legacy] s0 x := ?_; ?_); rotate_left; clear_value x; rotate_left; subst x)
    | (extract_lets -merge +onlyGivenNames x; clear_value x)
    | with_reducible exact Frame.refl _ _
    | with_reducible apply Frame.ite
    | with_reducible apply Frame.foldl
    | with_reducible apply Frame.via (State.incF_frame _ _ _ _ _) (by decide)
    | with_reducible apply Frame.via (State.setLegacy_frame _ _ _) (by decide)
    | with_reducible apply Frame.via (State.txFlit_frame _ _ _) (by decide)
    | split

theorem State.stageAway_frame (s0 : State) (a1 : Cmd) : Frame [.regs, .mem, .press, .front] s0 (State.stageAway s0 a1) := by
  unfold State.stageAway
  repeat' first
    | with_reducible assumption
    | intro _
    | (extract_lets -merge +onlyGivenNames x; refine (have hx : Frame [.regs, .mem, .press, .front] s0 x := ?_; ?_); rotate_left; clear_value x; rotate_left; subst x)
    | (extract_lets -merge +onlyGivenNames x; clear_value x)
    | with_reducible exact Frame.refl _ _
    | with_reducible apply Frame.ite
    | with_reducible apply Frame.foldl
    | with_reducible apply Frame.via (State.complete_frame _ _ _ _) (by decide)
    | with_reducible apply Frame.via (State.dropCmdWrites_frame _ _) (by decide)
    | split

theorem State.stageGo_frame {l : List Part} (s0 s : State) (c : Cmd) (input : Bool) (go : State → State)
    (hl : [Part.regs, .mem, .front].all (fun p => l.contains p) = true) (h : Frame l s0 s)
    (hb : ∀ t, Frame l s0 t → Frame l s0 (go t)) : Frame l s0 (s.stageGo c input go) := by
  have hm : Part.front ∈ l := by simp at hl; exact hl.2.2
  unfold State.stageGo
  dsimp only
  split
  · split
    · exact hb _ (Frame.set_front _ hm h)
    · exact h
  · refine State.runCmd_frame _ _ _ _ _ hl h (fun _ => ?_)
    split
    · exact Frame.via (State.complete_frame _ _ _ _) hl h
    · split
      · exact hb _ h
      · exact Frame.set_front _ hm h

theorem execBusMasterEnableChange_frame (s0 : State) (a0 : Bool) (a1 : Fin 3) (a2 : Fin 6) : Completes (execBusMasterEnableChange a0 a1 a2 s0) (Frame [.regs, .front] s0) := by
  unfold execBusMasterEnableChange
  refine ⟨_, rfl, ?_⟩
  repeat' first
    | with_reducible assumption
    | intro _
    | (extract_lets -merge +onlyGivenNames x; refine (have hx : Frame [.regs, .front] s0 x := ?_; ?_); rotate_left; clear_value x; rotate_left; subst x)
    | (extract_lets -merge +onlyGivenNames x; clear_value x)
    | with_reducible exact Frame.refl _ _
    | with_reducible apply Frame.ite
    | with_reducible apply Frame.foldl
    | with_reducible apply Frame.via (State.setF_frame _ _ _ _ _) (by decide)
    | with_reducible apply Frame.via (State.sendMsix_frame _) (by decide)
    | split
    | with_reducible apply Frame.set_front _ (by decide)

theorem State.fetch_frame (s0 : State) (a1 : Nat) (a2 : Bool) (a3 : List Byte) (a4 : Bool) : Frame [.regs, .arb, .front] s0 (State.fetch s0 a1 a2 a3 a4) := by
  unfold State.fetch
  repeat' first
    | with_reducible assumption
    | intro _
    | (extract_lets -merge +onlyGivenNames x; refine (have hx : Frame [.regs, .arb, .front] s0 x := ?_; ?_); rotate_left; clear_value x; rotate_left; subst x)
    | (extract_lets -merge +onlyGivenNames x; clear_value x)
    | with_reducible exact Frame.refl _ _
    | with_reducible apply Frame.ite
    | with_reducible apply Frame.foldl
    | with_reducible apply Frame.via (State.setF_frame _ _ _ _ _) (by decide)
    | with_reducible apply Frame.via (State.incF_frame _ _ _ _ _) (by decide)
    | with_reducible apply Frame.via (State.ringError_frame _ _ _) (by decide)
    | split
    | with_reducible apply Frame.set_front _ (by decide)

theorem execCommandFetch_frame (s0 : State) (a0 : List Byte) (a1 : Bool) : Completes (execCommandFetch a0 a1 s0) (Frame [.regs, .arb, .front] s0) := by
  unfold execCommandFetch
  refine ⟨_, rfl, ?_⟩
  repeat' first
    | with_reducible assumption
    | intro _
    | (extract_lets -merge +onlyGivenNames x; refine (have hx : Frame [.regs, .arb, .front] s0 x := ?_; ?_); rotate_left; clear_value x; rotate_left; subst x)
    | (extract_lets -merge +onlyGivenNames x; clear_value x)
    | with_reducible exact Frame.refl _ _
    | with_reducible apply Frame.ite
    | with_reducible apply Frame.foldl
    | with_reducible apply Frame.via (State.fetch_frame _ _ _ _ _) (by decide)
    | split

theorem execCplHeadDoorbell_frame (s0 : State) (a0 : Who) (a1 : Bool) (a2 : Fin 16) (a3 : BitVec 32) : Completes (execCplHeadDoorbell a0 a1 a2 a3 s0) (Frame [.regs, .arb, .front] s0) := by
  unfold execCplHeadDoorbell
  refine ⟨_, rfl, ?_⟩
  repeat' first
    | with_reducible assumption
    | intro _
    | (extract_lets -merge +onlyGivenNames x; refine (have hx : Frame [.regs, .arb, .front] s0 x := ?_; ?_); rotate_left; clear_value x; rotate_left; subst x)
    | (extract_lets -merge +onlyGivenNames x; clear_value x)
    | with_reducible exact Frame.refl _ _
    | with_reducible apply Frame.ite
    | with_reducible apply Frame.foldl
    | with_reducible apply Frame.via (State.headDoorbell_frame _ _ _) (by decide)
    | split

theorem State.sendAck_frame (s0 : State) (a1 : Nat) (a2 : Tack) (a3 : Nat) : Frame [.regs, .sects, .tacks] s0 (State.sendAck s0 a1 a2 a3) := by
  unfold State.sendAck
  repeat' first
    | with_reducible assumption
    | intro _
    | (extract_lets -merge +onlyGivenNames x; refine (have hx : Frame [.regs, .sects, .tacks] s0 x := ?_; ?_); rotate_left; clear_value x; rotate_left; subst x)
    | (extract_lets -merge +onlyGivenNames x; clear_value x)
    | with_reducible exact Frame.refl _ _
    | with_reducible apply Frame.ite
    | with_reducible apply Frame.foldl
    | with_reducible apply Frame.via (State.buildTack_frame _ _ _ _ _) (by decide)
    | split

theorem State.heldDone_frame (s0 : State) (a1 : Nat) (a2 : Nat) (a3 : List Byte) (a4 : HeldFor) : Frame [.regs, .mem, .sects, .tacks, .front] s0 (State.heldDone s0 a1 a2 a3 a4) := by
  unfold State.heldDone
  repeat' first
    | with_reducible assumption
    | intro _
    | (extract_lets -merge +onlyGivenNames x; refine (have hx : Frame [.regs, .mem, .sects, .tacks, .front] s0 x := ?_; ?_); rotate_left; clear_value x; rotate_left; subst x)
    | (extract_lets -merge +onlyGivenNames x; clear_value x)
    | with_reducible exact Frame.refl _ _
    | with_reducible apply Frame.ite
    | with_reducible apply Frame.foldl
    | with_reducible apply Frame.via (State.writeBoard_frame _ _ _ _) (by decide)
    | with_reducible apply Frame.via (State.complete_frame _ _ _ _) (by decide)
    | with_reducible apply Frame.via (State.sendAck_frame _ _ _ _) (by decide)
    | split

theorem State.releaseWrites_frame (s0 : State) (a1 : Nat) : Frame [.regs, .mem, .press, .sects, .tacks, .front] s0 (State.releaseWrites s0 a1) := by
  unfold State.releaseWrites
  repeat' first
    | with_reducible assumption
    | intro _
    | (extract_lets -merge +onlyGivenNames x; refine (have hx : Frame [.regs, .mem, .press, .sects, .tacks, .front] s0 x := ?_; ?_); rotate_left; clear_value x; rotate_left; subst x)
    | (extract_lets -merge +onlyGivenNames x; refine (have hx : Frame [.regs, .mem, .press, .sects, .tacks, .front] s0 x.1 := ?_; ?_); rotate_left; clear_value x; rotate_left; subst x)
    | (extract_lets -merge +onlyGivenNames x; refine (have hf : _ → _ := x; ?_); clear hf; subst x)
    | (extract_lets -merge +onlyGivenNames x; clear_value x)
    | with_reducible exact Frame.refl _ _
    | with_reducible apply Frame.ite
    | with_reducible apply Frame.ite1
    | with_reducible apply Frame.foldl
    | with_reducible apply Frame.foldl1
    | with_reducible apply Frame.idf
    | with_reducible apply Frame.via (State.setPrs_frame _ _ _) (by decide)
    | with_reducible apply Frame.via (State.heldDone_frame _ _ _ _ _) (by decide)
    | split

theorem State.landQueue_frame (s0 : State) (a1 : Nat) (a2 : Nat) : Frame [.mem, .queues] s0 (State.landQueue s0 a1 a2) := by
  unfold State.landQueue
  repeat' first
    | with_reducible assumption
    | intro _
    | (extract_lets -merge +onlyGivenNames x; refine (have hx : Frame [.mem, .queues] s0 x := ?_; ?_); rotate_left; clear_value x; rotate_left; subst x)
    | (extract_lets -merge +onlyGivenNames x; clear_value x)
    | with_reducible exact Frame.refl _ _
    | with_reducible apply Frame.ite
    | with_reducible apply Frame.foldl
    | with_reducible apply Frame.via (State.writeBoard_frame _ _ _ _) (by decide)
    | with_reducible apply Frame.via (State.mapQueue_frame _ _ _ _ _) (by decide)
    | split

theorem State.landFills_frame (s0 : State) (a1 : Nat) : Frame [.mem, .queues] s0 (State.landFills s0 a1) := by
  unfold State.landFills
  repeat' first
    | with_reducible assumption
    | intro _
    | (extract_lets -merge +onlyGivenNames x; refine (have hx : Frame [.mem, .queues] s0 x := ?_; ?_); rotate_left; clear_value x; rotate_left; subst x)
    | (extract_lets -merge +onlyGivenNames x; clear_value x)
    | with_reducible exact Frame.refl _ _
    | with_reducible apply Frame.ite
    | with_reducible apply Frame.foldl
    | with_reducible apply Frame.via (State.landQueue_frame _ _ _) (by decide)
    | split

theorem State.finishScans_frame (s0 : State) (a1 : Cmd) : Frame [.regs, .mem, .ports, .front] s0 (State.finishScans s0 a1) := by
  unfold State.finishScans
  repeat' first
    | with_reducible assumption
    | intro _
    | (extract_lets -merge +onlyGivenNames x; refine (have hx : Frame [.regs, .mem, .ports, .front] s0 x := ?_; ?_); rotate_left; clear_value x; rotate_left; subst x)
    | (extract_lets -merge +onlyGivenNames x; clear_value x)
    | with_reducible exact Frame.refl _ _
    | with_reducible apply Frame.ite
    | with_reducible apply Frame.foldl
    | with_reducible apply Frame.via (State.setPort_frame _ _ _) (by decide)
    | with_reducible apply Frame.via (State.complete_frame _ _ _ _) (by decide)
    | split
    | with_reducible apply Frame.set_front _ (by decide)

end Sys2Proof.Machine
end

