-- ==== Sys2Proof/Laws/Frames5.lean ====
section
/-! SUPPORT. The frames of operations and commands of HostCmds, HostOps, Icu, LegacyLinks, Linens, LinkOps, Links, Mem,
MemOps, Ops, TackOps, Tacks: the parts that each may change. -/

namespace Sys2Proof.Machine

theorem State.beginScan_frame (s0 : State) (a1 : Nat) (a2 : Scan) : Frame [.queues, .ports] s0 (State.beginScan s0 a1 a2) := by
  unfold State.beginScan
  repeat' first
    | with_reducible assumption
    | intro _
    | (extract_lets -merge +onlyGivenNames x; refine (have hx : Frame [.queues, .ports] s0 x := ?_; ?_); rotate_left; clear_value x; rotate_left; subst x)
    | (extract_lets -merge +onlyGivenNames x; clear_value x)
    | with_reducible exact Frame.refl _ _
    | with_reducible apply Frame.ite
    | with_reducible apply Frame.foldl
    | with_reducible apply Frame.via (State.setPort_frame _ _ _) (by decide)
    | with_reducible apply Frame.via (State.mapQueue_frame _ _ _ _ _) (by decide)
    | split

theorem State.startCadence_frame (s0 : State) (a1 : Cmd) : Frame [.regs, .mem, .queues, .ports, .front] s0 (State.startCadence s0 a1) := by
  unfold State.startCadence
  repeat' first
    | with_reducible assumption
    | intro _
    | (extract_lets -merge +onlyGivenNames x; refine (have hx : Frame [.regs, .mem, .queues, .ports, .front] s0 x := ?_; ?_); rotate_left; clear_value x; rotate_left; subst x)
    | (extract_lets -merge +onlyGivenNames x; clear_value x)
    | with_reducible exact Frame.refl _ _
    | with_reducible apply Frame.ite
    | with_reducible apply Frame.foldl
    | with_reducible apply Frame.via (State.wait_frame _ _ _) (by decide)
    | with_reducible apply Frame.via (State.finishScans_frame _ _) (by decide)
    | with_reducible apply Frame.via (State.beginScan_frame _ _ _) (by decide)
    | split
    | with_reducible apply Frame.set_front _ (by decide)

theorem State.startCadences_frame (s0 : State) : Frame [.regs, .mem, .queues, .ports, .front] s0 (State.startCadences s0) := by
  unfold State.startCadences
  repeat' first
    | with_reducible assumption
    | intro _
    | (extract_lets -merge +onlyGivenNames x; refine (have hx : Frame [.regs, .mem, .queues, .ports, .front] s0 x := ?_; ?_); rotate_left; clear_value x; rotate_left; subst x)
    | (extract_lets -merge +onlyGivenNames x; clear_value x)
    | with_reducible exact Frame.refl _ _
    | with_reducible apply Frame.ite
    | with_reducible apply Frame.foldl
    | with_reducible apply Frame.via (State.startCadence_frame _ _) (by decide)
    | split

theorem State.releaseSection_frame (s0 : State) (a1 : Nat) (a2 : Nat) : Frame [.mem, .sects] s0 (State.releaseSection s0 a1 a2) := by
  unfold State.releaseSection
  repeat' first
    | with_reducible assumption
    | intro _
    | (extract_lets -merge +onlyGivenNames x; refine (have hx : Frame [.mem, .sects] s0 x := ?_; ?_); rotate_left; clear_value x; rotate_left; subst x)
    | (extract_lets -merge +onlyGivenNames x; clear_value x)
    | with_reducible exact Frame.refl _ _
    | with_reducible apply Frame.ite
    | with_reducible apply Frame.foldl
    | with_reducible apply Frame.via (State.setSect_frame _ _ _ _) (by decide)
    | with_reducible apply Frame.via (State.writeBoard_frame _ _ _ _) (by decide)
    | split

theorem execHoldWaitRelease_frame (s0 : State) (a0 : Fin 256) (a1 : Nat) : Completes (execHoldWaitRelease a0 a1 s0) (Frame [.regs, .mem, .press, .sects, .queues, .ports, .score, .tacks, .books, .unison, .arb, .front] s0) := by
  unfold execHoldWaitRelease
  refine ⟨_, rfl, ?_⟩
  repeat' first
    | with_reducible assumption
    | intro _
    | (extract_lets -merge +onlyGivenNames x; refine (have hx : Frame [.regs, .mem, .press, .sects, .queues, .ports, .score, .tacks, .books, .unison, .arb, .front] s0 x := ?_; ?_); rotate_left; clear_value x; rotate_left; subst x)
    | (extract_lets -merge +onlyGivenNames x; clear_value x)
    | with_reducible exact Frame.refl _ _
    | with_reducible apply Frame.ite
    | with_reducible apply Frame.foldl
    | with_reducible apply Frame.via (State.incF_frame _ _ _ _ _) (by decide)
    | with_reducible apply Frame.via (State.landFlight_frame _ _) (by decide)
    | with_reducible apply Frame.via (State.releaseWrites_frame _ _) (by decide)
    | with_reducible apply Frame.via (State.landFills_frame _ _) (by decide)
    | with_reducible apply Frame.via (State.startCadences_frame _) (by decide)
    | with_reducible apply Frame.via (State.releaseSection_frame _ _ _) (by decide)
    | split

theorem State.ringReset_frame (s0 : State) (a1 : Nat) : Frame [.regs, .front] s0 (State.ringReset s0 a1) := by
  unfold State.ringReset
  repeat' first
    | with_reducible assumption
    | intro _
    | (extract_lets -merge +onlyGivenNames x; refine (have hx : Frame [.regs, .front] s0 x := ?_; ?_); rotate_left; clear_value x; rotate_left; subst x)
    | (extract_lets -merge +onlyGivenNames x; clear_value x)
    | with_reducible exact Frame.refl _ _
    | with_reducible apply Frame.ite
    | with_reducible apply Frame.foldl
    | with_reducible apply Frame.via (State.setReg_frame _ _ _ _) (by decide)
    | with_reducible apply Frame.via (State.clrReg_frame _ _ _) (by decide)
    | split
    | with_reducible apply Frame.set_front _ (by decide)

theorem State.clearMsix_frame (s0 : State) : Frame [.regs] s0 (State.clearMsix s0) := by
  unfold State.clearMsix
  repeat' first
    | with_reducible assumption
    | intro _
    | (extract_lets -merge +onlyGivenNames x; refine (have hx : Frame [.regs] s0 x := ?_; ?_); rotate_left; clear_value x; rotate_left; subst x)
    | (extract_lets -merge +onlyGivenNames x; clear_value x)
    | with_reducible exact Frame.refl _ _
    | with_reducible apply Frame.ite
    | with_reducible apply Frame.foldl
    | split
    | with_reducible apply Frame.set_regs _ (by decide) (fun h => by first | exact h | exact Registers.wf_tput h | exact Registers.wf_tclear h | exact Registers.wf_nil)

theorem State.hostReset_frame (s0 : State) : Frame [.regs, .mem, .press, .front] s0 (State.hostReset s0) := by
  unfold State.hostReset
  repeat' first
    | with_reducible assumption
    | intro _
    | (extract_lets -merge +onlyGivenNames x; refine (have hx : Frame [.regs, .mem, .press, .front] s0 x := ?_; ?_); rotate_left; clear_value x; rotate_left; subst x)
    | (extract_lets -merge +onlyGivenNames x; clear_value x)
    | with_reducible exact Frame.refl _ _
    | with_reducible apply Frame.ite
    | with_reducible apply Frame.foldl
    | with_reducible apply Frame.via (State.setF_frame _ _ _ _ _) (by decide)
    | with_reducible apply Frame.via (State.clrReg_frame _ _ _) (by decide)
    | with_reducible apply Frame.via (State.complete_frame _ _ _ _) (by decide)
    | with_reducible apply Frame.via (State.dropCmdWrites_frame _ _) (by decide)
    | with_reducible apply Frame.via (State.ringReset_frame _ _) (by decide)
    | with_reducible apply Frame.via (State.clearMsix_frame _) (by decide)
    | split
    | with_reducible apply Frame.set_front _ (by decide)

theorem execHostInterfaceReset_frame (s0 : State) (a0 : Fin 4) : Completes (execHostInterfaceReset a0 s0) (Frame [.regs, .mem, .press, .front, .pins] s0) := by
  unfold execHostInterfaceReset
  refine ⟨_, rfl, ?_⟩
  repeat' first
    | with_reducible assumption
    | intro _
    | (extract_lets -merge +onlyGivenNames x; refine (have hx : Frame [.regs, .mem, .press, .front, .pins] s0 x := ?_; ?_); rotate_left; clear_value x; rotate_left; subst x)
    | (extract_lets -merge +onlyGivenNames x; clear_value x)
    | with_reducible exact Frame.refl _ _
    | with_reducible apply Frame.ite
    | with_reducible apply Frame.foldl
    | with_reducible apply Frame.via (State.hostReset_frame _) (by decide)
    | split
    | with_reducible apply Frame.set_pins _ (by decide)

theorem execHostLinkUp_frame (s0 : State) (a0 : Bool) (a1 : Fin 3) (a2 : Fin 5) : Completes (execHostLinkUp a0 a1 a2 s0) (Frame [.regs, .pins] s0) := by
  unfold execHostLinkUp
  refine ⟨_, rfl, ?_⟩
  repeat' first
    | with_reducible assumption
    | intro _
    | (extract_lets -merge +onlyGivenNames x; refine (have hx : Frame [.regs, .pins] s0 x := ?_; ?_); rotate_left; clear_value x; rotate_left; subst x)
    | (extract_lets -merge +onlyGivenNames x; clear_value x)
    | with_reducible exact Frame.refl _ _
    | with_reducible apply Frame.ite
    | with_reducible apply Frame.foldl
    | with_reducible apply Frame.via (State.setF_frame _ _ _ _ _) (by decide)
    | split
    | with_reducible apply Frame.set_pins _ (by decide)

theorem execIdentify_frame (s0 : State) (a0 : Cmd) : Completes (execIdentify a0 s0) (Frame [.regs, .mem, .front] s0) := by
  unfold execIdentify
  refine ⟨_, rfl, ?_⟩
  repeat' first
    | with_reducible assumption
    | intro _
    | (extract_lets -merge +onlyGivenNames x; refine (have hx : Frame [.regs, .mem, .front] s0 x := ?_; ?_); rotate_left; clear_value x; rotate_left; subst x)
    | (extract_lets -merge +onlyGivenNames x; clear_value x)
    | with_reducible exact Frame.refl _ _
    | with_reducible apply Frame.ite
    | with_reducible apply Frame.foldl
    | with_reducible apply Frame.via (State.complete_frame _ _ _ _) (by decide)
    | with_reducible refine State.runCmd_frame _ _ _ _ _ (by decide) ?_ (fun _ => ?_)
    | split

theorem execMsixCoalesceTimer_frame (s0 : State) (a0 : Fin 16) : Completes (execMsixCoalesceTimer a0 s0) (Frame [.front] s0) := by
  unfold execMsixCoalesceTimer
  refine ⟨_, rfl, ?_⟩
  repeat' first
    | with_reducible assumption
    | intro _
    | (extract_lets -merge +onlyGivenNames x; refine (have hx : Frame [.front] s0 x := ?_; ?_); rotate_left; clear_value x; rotate_left; subst x)
    | (extract_lets -merge +onlyGivenNames x; clear_value x)
    | with_reducible exact Frame.refl _ _
    | with_reducible apply Frame.ite
    | with_reducible apply Frame.foldl
    | with_reducible apply Frame.via (State.fireMsix_frame _ _) (by decide)
    | split
    | with_reducible apply Frame.set_front _ (by decide)

theorem execQueryCaps_frame (s0 : State) (a0 : Cmd) : Completes (execQueryCaps a0 s0) (Frame [.regs, .mem, .front] s0) := by
  unfold execQueryCaps
  refine ⟨_, rfl, ?_⟩
  repeat' first
    | with_reducible assumption
    | intro _
    | (extract_lets -merge +onlyGivenNames x; refine (have hx : Frame [.regs, .mem, .front] s0 x := ?_; ?_); rotate_left; clear_value x; rotate_left; subst x)
    | (extract_lets -merge +onlyGivenNames x; clear_value x)
    | with_reducible exact Frame.refl _ _
    | with_reducible apply Frame.ite
    | with_reducible apply Frame.foldl
    | with_reducible apply Frame.via (State.complete_frame _ _ _ _) (by decide)
    | with_reducible refine State.runCmd_frame _ _ _ _ _ (by decide) ?_ (fun _ => ?_)
    | split

theorem execReadSmall_frame (s0 : State) (a0 : Cmd) (a1 : Ecc) : Completes (execReadSmall a0 a1 s0) (Frame [.regs, .mem, .ports, .arb, .front] s0) := by
  unfold execReadSmall
  refine ⟨_, rfl, ?_⟩
  repeat' first
    | with_reducible assumption
    | intro _
    | (extract_lets -merge +onlyGivenNames x; refine (have hx : Frame [.regs, .mem, .ports, .arb, .front] s0 x := ?_; ?_); rotate_left; clear_value x; rotate_left; subst x)
    | (extract_lets -merge +onlyGivenNames x; clear_value x)
    | with_reducible exact Frame.refl _ _
    | with_reducible apply Frame.ite
    | with_reducible apply Frame.foldl
    | with_reducible apply Frame.via (State.complete_frame _ _ _ _) (by decide)
    | with_reducible refine State.runCmd_frame _ _ _ _ _ (by decide) ?_ (fun _ => ?_)
    | with_reducible apply Frame.via (State.eccSeen_frame _ _ _) (by decide)
    | split

theorem execRingDisable_frame (s0 : State) (a0 : Who) (a1 : Fin 16) (a2 : BitVec 32) : Completes (execRingDisable a0 a1 a2 s0) (Frame [.regs] s0) := by
  unfold execRingDisable
  refine ⟨_, rfl, ?_⟩
  repeat' first
    | with_reducible assumption
    | intro _
    | (extract_lets -merge +onlyGivenNames x; refine (have hx : Frame [.regs] s0 x := ?_; ?_); rotate_left; clear_value x; rotate_left; subst x)
    | (extract_lets -merge +onlyGivenNames x; clear_value x)
    | with_reducible exact Frame.refl _ _
    | with_reducible apply Frame.ite
    | with_reducible apply Frame.foldl
    | with_reducible apply Frame.via (State.writeRingCfg_frame _ _ _) (by decide)
    | split

theorem execRingEnable_frame (s0 : State) (a0 : Who) (a1 : Fin 16) (a2 : BitVec 32) : Completes (execRingEnable a0 a1 a2 s0) (Frame [.regs] s0) := by
  unfold execRingEnable
  refine ⟨_, rfl, ?_⟩
  repeat' first
    | with_reducible assumption
    | intro _
    | (extract_lets -merge +onlyGivenNames x; refine (have hx : Frame [.regs] s0 x := ?_; ?_); rotate_left; clear_value x; rotate_left; subst x)
    | (extract_lets -merge +onlyGivenNames x; clear_value x)
    | with_reducible exact Frame.refl _ _
    | with_reducible apply Frame.ite
    | with_reducible apply Frame.foldl
    | with_reducible apply Frame.via (State.writeRingCfg_frame _ _ _) (by decide)
    | split

theorem State.stageWrite_frame (s0 : State) (a1 : Cmd) (a2 : Nat) (a3 : List Byte) : Frame [.regs, .mem, .press, .unison, .arb] s0 (State.stageWrite s0 a1 a2 a3).1 := by
  unfold State.stageWrite
  repeat' first
    | with_reducible assumption
    | intro _
    | (extract_lets -merge +onlyGivenNames x; refine (have hx : Frame [.regs, .mem, .press, .unison, .arb] s0 x := ?_; ?_); rotate_left; clear_value x; rotate_left; subst x)
    | (extract_lets -merge +onlyGivenNames x; refine (have hx : Frame [.regs, .mem, .press, .unison, .arb] s0 x.1 := ?_; ?_); rotate_left; clear_value x; rotate_left; subst x)
    | (extract_lets -merge +onlyGivenNames x; refine (have hf : _ → _ := x; ?_); clear hf; subst x)
    | (extract_lets -merge +onlyGivenNames x; clear_value x)
    | with_reducible exact Frame.refl _ _
    | with_reducible apply Frame.ite
    | with_reducible apply Frame.ite1
    | with_reducible apply Frame.foldl
    | with_reducible apply Frame.foldl1
    | with_reducible apply Frame.idf
    | with_reducible apply Frame.via (State.setPrs_frame _ _ _) (by decide)
    | with_reducible apply Frame.via (State.writePiece_frame _ _ _ _ _) (by decide)
    | with_reducible refine Frame.via (Frame.of_eq1 (State.writePiece_frame _ _ _ _ _) (by assumption)) (by decide) ?_
    | split

theorem execStageIn_frame (s0 : State) (a0 : Cmd) (a1 : List Byte) (a2 : Option StageCut) : Completes (execStageIn a0 a1 a2 s0) (Frame [.regs, .mem, .press, .unison, .arb, .front] s0) := by
  unfold execStageIn
  refine ⟨_, rfl, ?_⟩
  repeat' first
    | with_reducible assumption
    | intro _
    | (extract_lets -merge +onlyGivenNames x; refine (have hx : Frame [.regs, .mem, .press, .unison, .arb, .front] s0 x := ?_; ?_); rotate_left; clear_value x; rotate_left; subst x)
    | (extract_lets -merge +onlyGivenNames x; refine (have hx : Frame [.regs, .mem, .press, .unison, .arb, .front] s0 x.1 := ?_; ?_); rotate_left; clear_value x; rotate_left; subst x)
    | (extract_lets -merge +onlyGivenNames x; refine (have hf : _ → _ := x; ?_); clear hf; subst x)
    | (extract_lets -merge +onlyGivenNames x; clear_value x)
    | with_reducible exact Frame.refl _ _
    | with_reducible apply Frame.ite
    | with_reducible apply Frame.ite1
    | with_reducible apply Frame.foldl
    | with_reducible apply Frame.foldl1
    | with_reducible apply Frame.idf
    | with_reducible apply Frame.via (State.complete_frame _ _ _ _) (by decide)
    | with_reducible apply Frame.via (State.stageAway_frame _ _) (by decide)
    | with_reducible refine State.stageGo_frame _ _ _ _ _ (by decide) ?_ (fun _ _ => ?_)
    | with_reducible apply Frame.via (State.stageWrite_frame _ _ _ _) (by decide)
    | with_reducible refine Frame.via (Frame.of_eq1 (State.stageWrite_frame _ _ _ _) (by assumption)) (by decide) ?_
    | split

theorem execStageOut_frame (s0 : State) (a0 : Cmd) (a1 : List Nat) (a2 : Option StageCut) : Completes (execStageOut a0 a1 a2 s0) (Frame [.regs, .mem, .ports, .arb, .front] s0) := by
  unfold execStageOut
  refine ⟨_, rfl, ?_⟩
  repeat' first
    | with_reducible assumption
    | intro _
    | (extract_lets -merge +onlyGivenNames x; refine (have hx : Frame [.regs, .mem, .ports, .arb, .front] s0 x := ?_; ?_); rotate_left; clear_value x; rotate_left; subst x)
    | (extract_lets -merge +onlyGivenNames x; refine (have hx : Frame [.regs, .mem, .ports, .arb, .front] s0 x.1 := ?_; ?_); rotate_left; clear_value x; rotate_left; subst x)
    | (extract_lets -merge +onlyGivenNames x; refine (have hf : _ → _ := x; ?_); clear hf; subst x)
    | (extract_lets -merge +onlyGivenNames x; clear_value x)
    | with_reducible exact Frame.refl _ _
    | with_reducible apply Frame.ite
    | with_reducible apply Frame.ite1
    | with_reducible apply Frame.foldl
    | with_reducible apply Frame.foldl1
    | with_reducible apply Frame.idf
    | with_reducible apply Frame.via (State.hostWrite_frame _ _ _) (by decide)
    | with_reducible apply Frame.via (State.complete_frame _ _ _ _) (by decide)
    | with_reducible apply Frame.via (State.eccSeen_frame _ _ _) (by decide)
    | with_reducible refine State.stageGo_frame _ _ _ _ _ (by decide) ?_ (fun _ _ => ?_)
    | split

theorem execTailDoorbell_frame (s0 : State) (a0 : Who) (a1 : Bool) (a2 : Fin 16) (a3 : BitVec 32) : Completes (execTailDoorbell a0 a1 a2 a3 s0) (Frame [.regs, .arb, .front] s0) := by
  unfold execTailDoorbell
  refine ⟨_, rfl, ?_⟩
  repeat' first
    | with_reducible assumption
    | intro _
    | (extract_lets -merge +onlyGivenNames x; refine (have hx : Frame [.regs, .arb, .front] s0 x := ?_; ?_); rotate_left; clear_value x; rotate_left; subst x)
    | (extract_lets -merge +onlyGivenNames x; clear_value x)
    | with_reducible exact Frame.refl _ _
    | with_reducible apply Frame.ite
    | with_reducible apply Frame.foldl
    | with_reducible apply Frame.via (State.tailDoorbell_frame _ _ _) (by decide)
    | split

theorem execWriteInline_frame (s0 : State) (a0 : Cmd) : Completes (execWriteInline a0 s0) (Frame [.regs, .mem, .press, .unison, .arb, .front] s0) := by
  unfold execWriteInline
  refine ⟨_, rfl, ?_⟩
  repeat' first
    | with_reducible assumption
    | intro _
    | (extract_lets -merge +onlyGivenNames x; refine (have hx : Frame [.regs, .mem, .press, .unison, .arb, .front] s0 x := ?_; ?_); rotate_left; clear_value x; rotate_left; subst x)
    | (extract_lets -merge +onlyGivenNames x; refine (have hx : Frame [.regs, .mem, .press, .unison, .arb, .front] s0 x.1 := ?_; ?_); rotate_left; clear_value x; rotate_left; subst x)
    | (extract_lets -merge +onlyGivenNames x; refine (have hf : _ → _ := x; ?_); clear hf; subst x)
    | (extract_lets -merge +onlyGivenNames x; clear_value x)
    | with_reducible exact Frame.refl _ _
    | with_reducible apply Frame.ite
    | with_reducible apply Frame.ite1
    | with_reducible apply Frame.foldl
    | with_reducible apply Frame.foldl1
    | with_reducible apply Frame.idf
    | with_reducible apply Frame.via (State.complete_frame _ _ _ _) (by decide)
    | with_reducible refine State.runCmd_frame _ _ _ _ _ (by decide) ?_ (fun _ => ?_)
    | with_reducible apply Frame.via (State.agentWrite_frame _ _ _ _ _ _) (by decide)
    | with_reducible refine Frame.via (Frame.of_eq1 (State.agentWrite_frame _ _ _ _ _ _) (by assumption)) (by decide) ?_
    | split

theorem execIcuClaim_frame (s0 : State) (a0 : Who) (a1 : Fin 32) : Completes (execIcuClaim a0 a1 s0) (Frame [.regs, .icu, .front] s0) := by
  unfold execIcuClaim
  refine ⟨_, rfl, ?_⟩
  repeat' first
    | with_reducible assumption
    | intro _
    | (extract_lets -merge +onlyGivenNames x; refine (have hx : Frame [.regs, .icu, .front] s0 x := ?_; ?_); rotate_left; clear_value x; rotate_left; subst x)
    | (extract_lets -merge +onlyGivenNames x; clear_value x)
    | with_reducible exact Frame.refl _ _
    | with_reducible apply Frame.ite
    | with_reducible apply Frame.foldl
    | with_reducible apply Frame.via (State.readAs_frame _ _) (by decide)
    | with_reducible apply Frame.via (State.claim_frame _ _) (by decide)
    | split

theorem execIcuComplete_frame (s0 : State) (a0 : Who) (a1 : Fin 32) (a2 : BitVec 32) : Completes (execIcuComplete a0 a1 a2 s0) (Frame [.regs, .arb, .icu] s0) := by
  unfold execIcuComplete
  refine ⟨_, rfl, ?_⟩
  repeat' first
    | with_reducible assumption
    | intro _
    | (extract_lets -merge +onlyGivenNames x; refine (have hx : Frame [.regs, .arb, .icu] s0 x := ?_; ?_); rotate_left; clear_value x; rotate_left; subst x)
    | (extract_lets -merge +onlyGivenNames x; clear_value x)
    | with_reducible exact Frame.refl _ _
    | with_reducible apply Frame.ite
    | with_reducible apply Frame.foldl
    | with_reducible apply Frame.via (State.completeSource_frame _ _ _) (by decide)
    | split

theorem execIcuEvent_frame (s0 : State) (a0 : Fin 1024) : Completes (execIcuEvent a0 s0) (Frame [.regs, .icu] s0) := by
  unfold execIcuEvent
  refine ⟨_, rfl, ?_⟩
  repeat' first
    | with_reducible assumption
    | intro _
    | (extract_lets -merge +onlyGivenNames x; refine (have hx : Frame [.regs, .icu] s0 x := ?_; ?_); rotate_left; clear_value x; rotate_left; subst x)
    | (extract_lets -merge +onlyGivenNames x; clear_value x)
    | with_reducible exact Frame.refl _ _
    | with_reducible apply Frame.ite
    | with_reducible apply Frame.foldl
    | with_reducible apply Frame.via (State.sample_frame _ _) (by decide)
    | split

theorem execIcuSetpend_frame (s0 : State) (a0 : Fin 1024) : Completes (execIcuSetpend a0 s0) (Frame [.regs] s0) := by
  unfold execIcuSetpend
  refine ⟨_, rfl, ?_⟩
  repeat' first
    | with_reducible assumption
    | intro _
    | (extract_lets -merge +onlyGivenNames x; refine (have hx : Frame [.regs] s0 x := ?_; ?_); rotate_left; clear_value x; rotate_left; subst x)
    | (extract_lets -merge +onlyGivenNames x; clear_value x)
    | with_reducible exact Frame.refl _ _
    | with_reducible apply Frame.ite
    | with_reducible apply Frame.foldl
    | with_reducible apply Frame.via (State.setPend_frame _ _) (by decide)
    | split

theorem execIcuSrcWrite_frame (s0 : State) (a0 : Fin 1024) (a1 : BitVec 32) : Completes (execIcuSrcWrite a0 a1 s0) (Frame [.regs, .icu] s0) := by
  unfold execIcuSrcWrite
  refine ⟨_, rfl, ?_⟩
  repeat' first
    | with_reducible assumption
    | intro _
    | (extract_lets -merge +onlyGivenNames x; refine (have hx : Frame [.regs, .icu] s0 x := ?_; ?_); rotate_left; clear_value x; rotate_left; subst x)
    | (extract_lets -merge +onlyGivenNames x; clear_value x)
    | with_reducible exact Frame.refl _ _
    | with_reducible apply Frame.ite
    | with_reducible apply Frame.foldl
    | with_reducible apply Frame.via (State.writeSrc_frame _ _ _) (by decide)
    | split

theorem execIcuStackReset_frame (s0 : State) (a0 : Who) (a1 : BitVec 32) : Completes (execIcuStackReset a0 a1 s0) (Frame [.regs, .icu] s0) := by
  unfold execIcuStackReset
  refine ⟨_, rfl, ?_⟩
  repeat' first
    | with_reducible assumption
    | intro _
    | (extract_lets -merge +onlyGivenNames x; refine (have hx : Frame [.regs, .icu] s0 x := ?_; ?_); rotate_left; clear_value x; rotate_left; subst x)
    | (extract_lets -merge +onlyGivenNames x; clear_value x)
    | with_reducible exact Frame.refl _ _
    | with_reducible apply Frame.ite
    | with_reducible apply Frame.foldl
    | with_reducible apply Frame.via (State.resetStacks_frame _ _) (by decide)
    | split

theorem execMachineTimer_frame (s0 : State) (a0 : Fin 16) : Completes (execMachineTimer a0 s0) (Frame [.icu] s0) := by
  unfold execMachineTimer
  refine ⟨_, rfl, ?_⟩
  repeat' first
    | with_reducible assumption
    | intro _
    | (extract_lets -merge +onlyGivenNames x; refine (have hx : Frame [.icu] s0 x := ?_; ?_); rotate_left; clear_value x; rotate_left; subst x)
    | (extract_lets -merge +onlyGivenNames x; clear_value x)
    | with_reducible exact Frame.refl _ _
    | with_reducible apply Frame.ite
    | with_reducible apply Frame.foldl
    | split
    | with_reducible apply Frame.set_icu _ (by decide)

theorem State.completeSegs_frame (s0 : State) (a1 : Nat) : Frame [.regs, .legacy, .score, .arb] s0 (State.completeSegs s0 a1) := by
  unfold State.completeSegs
  repeat' first
    | with_reducible assumption
    | intro _
    | (extract_lets -merge +onlyGivenNames x; refine (have hx : Frame [.regs, .legacy, .score, .arb] s0 x := ?_; ?_); rotate_left; clear_value x; rotate_left; subst x)
    | (extract_lets -merge +onlyGivenNames x; clear_value x)
    | with_reducible exact Frame.refl _ _
    | with_reducible apply Frame.ite
    | with_reducible apply Frame.foldl
    | with_reducible apply Frame.via (State.setBit_frame _ _ _ _) (by decide)
    | with_reducible apply Frame.via (State.setLegacy_frame _ _ _) (by decide)
    | with_reducible apply Frame.via (State.fenceCount_frame _ _ _) (by decide)
    | with_reducible apply Frame.via (State.freeCredits_frame _ _ _) (by decide)
    | with_reducible apply Frame.via (State.sliceBadM_frame _ _) (by decide)
    | split
    | with_reducible apply Frame.set_score _ (by decide)

theorem State.credOvf_frame (s0 : State) (a1 : Nat) : Frame [.regs, .lk, .legacy, .arb, .pwr] s0 (State.credOvf s0 a1) := by
  unfold State.credOvf
  repeat' first
    | with_reducible assumption
    | intro _
    | (extract_lets -merge +onlyGivenNames x; refine (have hx : Frame [.regs, .lk, .legacy, .arb, .pwr] s0 x := ?_; ?_); rotate_left; clear_value x; rotate_left; subst x)
    | (extract_lets -merge +onlyGivenNames x; clear_value x)
    | with_reducible exact Frame.refl _ _
    | with_reducible apply Frame.ite
    | with_reducible apply Frame.foldl
    | with_reducible apply Frame.via (State.setLogged_frame _ _ _ _ _) (by decide)
    | with_reducible apply Frame.via (State.linkRetrain_frame _ _ _) (by decide)
    | split

theorem State.segLost_frame (s0 : State) (a1 : Nat) : Frame [.regs, .arb] s0 (State.segLost s0 a1) := by
  unfold State.segLost
  repeat' first
    | with_reducible assumption
    | intro _
    | (extract_lets -merge +onlyGivenNames x; refine (have hx : Frame [.regs, .arb] s0 x := ?_; ?_); rotate_left; clear_value x; rotate_left; subst x)
    | (extract_lets -merge +onlyGivenNames x; clear_value x)
    | with_reducible exact Frame.refl _ _
    | with_reducible apply Frame.ite
    | with_reducible apply Frame.foldl
    | with_reducible apply Frame.via (State.setLogged_frame _ _ _ _ _) (by decide)
    | split

theorem State.discardSegs_frame (s0 : State) (a1 : Nat) : Frame [.regs, .legacy, .arb] s0 (State.discardSegs s0 a1) := by
  unfold State.discardSegs
  repeat' first
    | with_reducible assumption
    | intro _
    | (extract_lets -merge +onlyGivenNames x; refine (have hx : Frame [.regs, .legacy, .arb] s0 x := ?_; ?_); rotate_left; clear_value x; rotate_left; subst x)
    | (extract_lets -merge +onlyGivenNames x; clear_value x)
    | with_reducible exact Frame.refl _ _
    | with_reducible apply Frame.ite
    | with_reducible apply Frame.foldl
    | with_reducible apply Frame.via (State.setLegacy_frame _ _ _) (by decide)
    | with_reducible apply Frame.via (State.freeCredits_frame _ _ _) (by decide)
    | with_reducible apply Frame.via (State.segLost_frame _ _) (by decide)
    | split

theorem State.takeCredits_frame (s0 : State) (a1 : Nat) (a2 : List Byte) : Frame [.regs, .lk, .legacy, .arb, .pwr] s0 (State.takeCredits s0 a1 a2) := by
  unfold State.takeCredits
  repeat' first
    | with_reducible assumption
    | intro _
    | (extract_lets -merge +onlyGivenNames x; refine (have hx : Frame [.regs, .lk, .legacy, .arb, .pwr] s0 x := ?_; ?_); rotate_left; clear_value x; rotate_left; subst x)
    | (extract_lets -merge +onlyGivenNames x; clear_value x)
    | with_reducible exact Frame.refl _ _
    | with_reducible apply Frame.ite
    | with_reducible apply Frame.foldl
    | with_reducible apply Frame.via (State.setLegacy_frame _ _ _) (by decide)
    | with_reducible apply Frame.via (State.credOvf_frame _ _) (by decide)
    | split

theorem State.g1Arrive_frame {l : List Part} (s0 s : State) (n : Nat) (p : List Byte) (bad f : State → State)
    (hl : [Part.regs, .lk, .legacy, .arb, .pwr].all (fun q => l.contains q) = true) (h : Frame l s0 s)
    (hb : ∀ t, Frame l s0 t → Frame l s0 (bad t)) (hf : ∀ t, Frame l s0 t → Frame l s0 (f t)) : Frame l s0 (s.g1Arrive n p bad f) := by
  have hr : [Part.regs].all (fun q => l.contains q) = true := by simp at hl ⊢; exact hl.1
  have hg : [Part.regs, .legacy].all (fun q => l.contains q) = true := by simp at hl ⊢; exact ⟨hl.1, hl.2.2.1⟩
  unfold State.g1Arrive
  dsimp only
  refine Frame.ite (fun _ => h) (fun _ => Frame.ite (fun _ => ?_) (fun _ => Frame.ite (fun _ => ?_) (fun _ => ?_)))
  · exact (h.trans ((State.credOvf_frame _ _).mono hl))
  · exact hb _ (Frame.via (State.setLegacy_frame _ _ _) hg h)
  · have h3 : Frame l s0 ((((s.setLegacy n { tget {} s.legacy n with used := (tget {} s.legacy n).used + 1 }).incF LNK_LGC_RX (lnk n)
        LNK_LGC_RX.COUNT 1)).takeCredits n p) :=
      Frame.via ((State.takeCredits_frame _ _ _).mono (l := [Part.regs, .lk, .legacy, .arb, .pwr]) (by decide)) hl
        (Frame.via (State.incF_frame _ _ _ _ _) hr (Frame.via (State.setLegacy_frame _ _ _) hg h))
    exact Frame.ite (fun _ => hf _ h3) (fun _ => h3)

theorem State.segArrives_frame (s0 : State) (a1 : Nat) (a2 : List Byte) : Frame [.regs, .legacy, .score, .arb] s0 (State.segArrives s0 a1 a2) := by
  unfold State.segArrives
  repeat' first
    | with_reducible assumption
    | intro _
    | (extract_lets -merge +onlyGivenNames x; refine (have hx : Frame [.regs, .legacy, .score, .arb] s0 x := ?_; ?_); rotate_left; clear_value x; rotate_left; subst x)
    | (extract_lets -merge +onlyGivenNames x; clear_value x)
    | with_reducible exact Frame.refl _ _
    | with_reducible apply Frame.ite
    | with_reducible apply Frame.foldl
    | with_reducible apply Frame.via (State.setLegacy_frame _ _ _) (by decide)
    | with_reducible apply Frame.via (State.freeCredits_frame _ _ _) (by decide)
    | with_reducible apply Frame.via (State.completeSegs_frame _ _) (by decide)
    | with_reducible apply Frame.via (State.segLost_frame _ _) (by decide)
    | with_reducible apply Frame.via (State.discardSegs_frame _ _) (by decide)
    | split

theorem State.untranslatable_frame (s0 : State) (a1 : Nat) : Frame [.regs, .arb] s0 (State.untranslatable s0 a1) := by
  unfold State.untranslatable
  repeat' first
    | with_reducible assumption
    | intro _
    | (extract_lets -merge +onlyGivenNames x; refine (have hx : Frame [.regs, .arb] s0 x := ?_; ?_); rotate_left; clear_value x; rotate_left; subst x)
    | (extract_lets -merge +onlyGivenNames x; clear_value x)
    | with_reducible exact Frame.refl _ _
    | with_reducible apply Frame.ite
    | with_reducible apply Frame.foldl
    | with_reducible apply Frame.via (State.setLogged_frame _ _ _ _ _) (by decide)
    | split

theorem State.useCredit_frame (s0 : State) (a1 : Nat) : Frame [.regs, .legacy] s0 (State.useCredit s0 a1) := by
  unfold State.useCredit
  repeat' first
    | with_reducible assumption
    | intro _
    | (extract_lets -merge +onlyGivenNames x; refine (have hx : Frame [.regs, .legacy] s0 x := ?_; ?_); rotate_left; clear_value x; rotate_left; subst x)
    | (extract_lets -merge +onlyGivenNames x; clear_value x)
    | with_reducible exact Frame.refl _ _
    | with_reducible apply Frame.ite
    | with_reducible apply Frame.foldl
    | with_reducible apply Frame.via (State.setLegacy_frame _ _ _) (by decide)
    | split

theorem execG1CreditReceive_frame (s0 : State) (a0 : Fin 12) (a1 : List Byte) : Completes (execG1CreditReceive a0 a1 s0) (Frame [.regs, .lk, .legacy, .arb, .pwr] s0) := by
  unfold execG1CreditReceive
  refine ⟨_, rfl, ?_⟩
  repeat' first
    | with_reducible assumption
    | intro _
    | (extract_lets -merge +onlyGivenNames x; refine (have hx : Frame [.regs, .lk, .legacy, .arb, .pwr] s0 x := ?_; ?_); rotate_left; clear_value x; rotate_left; subst x)
    | (extract_lets -merge +onlyGivenNames x; clear_value x)
    | with_reducible exact Frame.refl _ _
    | with_reducible apply Frame.ite
    | with_reducible apply Frame.foldl
    | with_reducible apply Frame.via (State.incF_frame _ _ _ _ _) (by decide)
    | with_reducible apply Frame.via (State.takeCredits_frame _ _ _) (by decide)
    | split

theorem execG1CreditTimer_frame (s0 : State) (a0 : Fin 12) : Completes (execG1CreditTimer a0 s0) (Frame [.regs, .linkTx, .legacy] s0) := by
  unfold execG1CreditTimer
  refine ⟨_, rfl, ?_⟩
  repeat' first
    | with_reducible assumption
    | intro _
    | (extract_lets -merge +onlyGivenNames x; refine (have hx : Frame [.regs, .linkTx, .legacy] s0 x := ?_; ?_); rotate_left; clear_value x; rotate_left; subst x)
    | (extract_lets -merge +onlyGivenNames x; clear_value x)
    | with_reducible exact Frame.refl _ _
    | with_reducible apply Frame.ite
    | with_reducible apply Frame.foldl
    | with_reducible apply Frame.via (State.g1Send_frame _ _ _) (by decide)
    | split

theorem execG1InitReceive_frame (s0 : State) (a0 : Fin 12) (a1 : List Byte) : Completes (execG1InitReceive a0 a1 s0) (Frame [.regs, .mem, .lk, .legacy, .arb, .front, .pwr] s0) := by
  unfold execG1InitReceive
  refine ⟨_, rfl, ?_⟩
  repeat' first
    | with_reducible assumption
    | intro _
    | (extract_lets -merge +onlyGivenNames x; refine (have hx : Frame [.regs, .mem, .lk, .legacy, .arb, .front, .pwr] s0 x := ?_; ?_); rotate_left; clear_value x; rotate_left; subst x)
    | (extract_lets -merge +onlyGivenNames x; clear_value x)
    | with_reducible exact Frame.refl _ _
    | with_reducible apply Frame.ite
    | with_reducible apply Frame.foldl
    | with_reducible apply Frame.via (State.setF_frame _ _ _ _ _) (by decide)
    | with_reducible apply Frame.via (State.incF_frame _ _ _ _ _) (by decide)
    | with_reducible apply Frame.via (State.setLegacy_frame _ _ _) (by decide)
    | with_reducible apply Frame.via (State.linkLeave_frame _ _ _) (by decide)
    | with_reducible apply Frame.via (State.g1Admit_frame _ _) (by decide)
    | split

theorem State.dropTack_frame (s0 : State) (a1 : Nat) (a2 : Fld) : Frame [.regs] s0 (State.dropTack s0 a1 a2) := by
  unfold State.dropTack
  repeat' first
    | with_reducible assumption
    | intro _
    | (extract_lets -merge +onlyGivenNames x; refine (have hx : Frame [.regs] s0 x := ?_; ?_); rotate_left; clear_value x; rotate_left; subst x)
    | (extract_lets -merge +onlyGivenNames x; clear_value x)
    | with_reducible exact Frame.refl _ _
    | with_reducible apply Frame.ite
    | with_reducible apply Frame.foldl
    | with_reducible apply Frame.via (State.incF_frame _ _ _ _ _) (by decide)
    | split

theorem State.deliverIn_frame (s0 : State) (a1 : Tack) : Frame [.tacks] s0 (State.deliverIn s0 a1) := by
  unfold State.deliverIn
  repeat' first
    | with_reducible assumption
    | intro _
    | (extract_lets -merge +onlyGivenNames x; refine (have hx : Frame [.tacks] s0 x := ?_; ?_); rotate_left; clear_value x; rotate_left; subst x)
    | (extract_lets -merge +onlyGivenNames x; clear_value x)
    | with_reducible exact Frame.refl _ _
    | with_reducible apply Frame.ite
    | with_reducible apply Frame.foldl
    | split
    | with_reducible apply Frame.set_tacks _ (by decide)

theorem execG1MsgReceive_frame (s0 : State) (a0 : Fin 12) (a1 : List Byte) : Completes (execG1MsgReceive a0 a1 s0) (Frame [.regs, .lk, .legacy, .tacks, .arb, .pwr] s0) := by
  unfold execG1MsgReceive
  refine ⟨_, rfl, ?_⟩
  repeat' first
    | with_reducible assumption
    | intro _
    | (extract_lets -merge +onlyGivenNames x; refine (have hx : Frame [.regs, .lk, .legacy, .tacks, .arb, .pwr] s0 x := ?_; ?_); rotate_left; clear_value x; rotate_left; subst x)
    | (extract_lets -merge +onlyGivenNames x; refine (have hx : Frame [.regs, .lk, .legacy, .tacks, .arb, .pwr] s0 x.1 := ?_; ?_); rotate_left; clear_value x; rotate_left; subst x)
    | (extract_lets -merge +onlyGivenNames x; refine (have hf : _ → _ := x; ?_); clear hf; subst x)
    | (extract_lets -merge +onlyGivenNames x; clear_value x)
    | with_reducible exact Frame.refl _ _
    | with_reducible apply Frame.ite
    | with_reducible apply Frame.ite1
    | with_reducible apply Frame.foldl
    | with_reducible apply Frame.foldl1
    | with_reducible apply Frame.idf
    | with_reducible apply Frame.via (State.setBit_frame _ _ _ _) (by decide)
    | with_reducible apply Frame.via (State.setLogged_frame _ _ _ _ _) (by decide)
    | with_reducible apply Frame.via (State.incF_frame _ _ _ _ _) (by decide)
    | with_reducible apply Frame.via (State.fenceCount_frame _ _ _) (by decide)
    | with_reducible apply Frame.via (State.freeCredits_frame _ _ _) (by decide)
    | with_reducible refine State.g1Arrive_frame _ _ _ _ _ _ (by decide) ?_ (fun _ _ => ?_) (fun _ _ => ?_)
    | with_reducible apply Frame.via (State.untranslatable_frame _ _) (by decide)
    | with_reducible apply Frame.via (State.dropTack_frame _ _ _) (by decide)
    | with_reducible apply Frame.via (State.deliverIn_frame _ _) (by decide)
    | split

theorem State.takeCand_frame (s0 : State) (a1 : Nat) (a2 : Cand) (a3 : Option Tack) : Frame [.tacks] s0 (State.takeCand s0 a1 a2 a3) := by
  unfold State.takeCand
  repeat' first
    | with_reducible assumption
    | intro _
    | (extract_lets -merge +onlyGivenNames x; refine (have hx : Frame [.tacks] s0 x := ?_; ?_); rotate_left; clear_value x; rotate_left; subst x)
    | (extract_lets -merge +onlyGivenNames x; clear_value x)
    | with_reducible exact Frame.refl _ _
    | with_reducible apply Frame.ite
    | with_reducible apply Frame.foldl
    | split
    | with_reducible apply Frame.set_tacks _ (by decide)

theorem State.returnToken_frame (s0 : State) (a1 : Nat) (a2 : Nat) : Frame [.regs, .tacks] s0 (State.returnToken s0 a1 a2) := by
  unfold State.returnToken
  repeat' first
    | with_reducible assumption
    | intro _
    | (extract_lets -merge +onlyGivenNames x; refine (have hx : Frame [.regs, .tacks] s0 x := ?_; ?_); rotate_left; clear_value x; rotate_left; subst x)
    | (extract_lets -merge +onlyGivenNames x; clear_value x)
    | with_reducible exact Frame.refl _ _
    | with_reducible apply Frame.ite
    | with_reducible apply Frame.foldl
    | with_reducible apply Frame.via (State.setTokens_frame _ _ _) (by decide)
    | split

theorem State.giveBack_frame (s0 : State) (a1 : Tack) : Frame [.regs, .tacks] s0 (State.giveBack s0 a1) := by
  unfold State.giveBack
  repeat' first
    | with_reducible assumption
    | intro _
    | (extract_lets -merge +onlyGivenNames x; refine (have hx : Frame [.regs, .tacks] s0 x := ?_; ?_); rotate_left; clear_value x; rotate_left; subst x)
    | (extract_lets -merge +onlyGivenNames x; clear_value x)
    | with_reducible exact Frame.refl _ _
    | with_reducible apply Frame.ite
    | with_reducible apply Frame.foldl
    | with_reducible apply Frame.via (State.returnToken_frame _ _ _) (by decide)
    | split

theorem execG1PacketSend_frame (s0 : State) (a0 : Fin 12) : Completes (execG1PacketSend a0 s0) (Frame [.regs, .linkTx, .legacy, .tacks] s0) := by
  unfold execG1PacketSend
  refine ⟨_, rfl, ?_⟩
  repeat' first
    | with_reducible assumption
    | intro _
    | (extract_lets -merge +onlyGivenNames x; refine (have hx : Frame [.regs, .linkTx, .legacy, .tacks] s0 x := ?_; ?_); rotate_left; clear_value x; rotate_left; subst x)
    | (extract_lets -merge +onlyGivenNames x; clear_value x)
    | with_reducible exact Frame.refl _ _
    | with_reducible apply Frame.ite
    | with_reducible apply Frame.foldl
    | with_reducible apply Frame.via (State.incF_frame _ _ _ _ _) (by decide)
    | with_reducible apply Frame.via (State.setLegacy_frame _ _ _) (by decide)
    | with_reducible apply Frame.via (State.g1Send_frame _ _ _) (by decide)
    | with_reducible apply Frame.via (State.useCredit_frame _ _) (by decide)
    | with_reducible apply Frame.via (State.takeCand_frame _ _ _ _) (by decide)
    | with_reducible apply Frame.via (State.giveBack_frame _ _) (by decide)
    | split

theorem execG1SegReceive_frame (s0 : State) (a0 : Fin 12) (a1 : List Byte) : Completes (execG1SegReceive a0 a1 s0) (Frame [.regs, .lk, .legacy, .score, .arb, .pwr] s0) := by
  unfold execG1SegReceive
  refine ⟨_, rfl, ?_⟩
  repeat' first
    | with_reducible assumption
    | intro _
    | (extract_lets -merge +onlyGivenNames x; refine (have hx : Frame [.regs, .lk, .legacy, .score, .arb, .pwr] s0 x := ?_; ?_); rotate_left; clear_value x; rotate_left; subst x)
    | (extract_lets -merge +onlyGivenNames x; clear_value x)
    | with_reducible exact Frame.refl _ _
    | with_reducible apply Frame.ite
    | with_reducible apply Frame.foldl
    | with_reducible apply Frame.via (State.setLegacy_frame _ _ _) (by decide)
    | with_reducible refine State.g1Arrive_frame _ _ _ _ _ _ (by decide) ?_ (fun _ _ => ?_) (fun _ _ => ?_)
    | with_reducible apply Frame.via (State.segArrives_frame _ _ _) (by decide)
    | split

theorem execLegacyStoreSend_frame (s0 : State) (a0 : Fin 12) : Completes (execLegacyStoreSend a0 s0) (Frame [.regs, .linkTx, .legacy] s0) := by
  unfold execLegacyStoreSend
  refine ⟨_, rfl, ?_⟩
  repeat' first
    | with_reducible assumption
    | intro _
    | (extract_lets -merge +onlyGivenNames x; refine (have hx : Frame [.regs, .linkTx, .legacy] s0 x := ?_; ?_); rotate_left; clear_value x; rotate_left; subst x)
    | (extract_lets -merge +onlyGivenNames x; clear_value x)
    | with_reducible exact Frame.refl _ _
    | with_reducible apply Frame.ite
    | with_reducible apply Frame.foldl
    | with_reducible apply Frame.via (State.incF_frame _ _ _ _ _) (by decide)
    | with_reducible apply Frame.via (State.setLegacy_frame _ _ _) (by decide)
    | with_reducible apply Frame.via (State.txFlit_frame _ _ _) (by decide)
    | split

theorem execLnkLgcIdWrite_frame (s0 : State) (a0 : Fin 12) (a1 : BitVec 32) : Completes (execLnkLgcIdWrite a0 a1 s0) (Frame [.regs] s0) := by
  unfold execLnkLgcIdWrite
  refine ⟨_, rfl, ?_⟩
  repeat' first
    | with_reducible assumption
    | intro _
    | (extract_lets -merge +onlyGivenNames x; refine (have hx : Frame [.regs] s0 x := ?_; ?_); rotate_left; clear_value x; rotate_left; subst x)
    | (extract_lets -merge +onlyGivenNames x; clear_value x)
    | with_reducible exact Frame.refl _ _
    | with_reducible apply Frame.ite
    | with_reducible apply Frame.foldl
    | with_reducible apply Frame.via (State.writeLgcId_frame _ _ _) (by decide)
    | with_reducible apply Frame.via (State.goneAccess_frame _ _ _ _) (by decide)
    | split

theorem execLinenHandover_frame (s0 : State) (a0 : Fin 2) : Completes (execLinenHandover a0 s0) (Frame [.regs, .books] s0) := by
  unfold execLinenHandover
  refine ⟨_, rfl, ?_⟩
  repeat' first
    | with_reducible assumption
    | intro _
    | (extract_lets -merge +onlyGivenNames x; refine (have hx : Frame [.regs, .books] s0 x := ?_; ?_); rotate_left; clear_value x; rotate_left; subst x)
    | (extract_lets -merge +onlyGivenNames x; clear_value x)
    | with_reducible exact Frame.refl _ _
    | with_reducible apply Frame.ite
    | with_reducible apply Frame.foldl
    | with_reducible apply Frame.via (State.linMove_frame _ _ _ _ _) (by decide)
    | split
    | with_reducible apply Frame.set_books _ (by decide)

theorem State.linkFail_frame (s0 : State) (a1 : Nat) (a2 : Nat) : Frame [.regs, .lk, .legacy, .arb, .pwr] s0 (State.linkFail s0 a1 a2) := by
  unfold State.linkFail
  repeat' first
    | with_reducible assumption
    | intro _
    | (extract_lets -merge +onlyGivenNames x; refine (have hx : Frame [.regs, .lk, .legacy, .arb, .pwr] s0 x := ?_; ?_); rotate_left; clear_value x; rotate_left; subst x)
    | (extract_lets -merge +onlyGivenNames x; clear_value x)
    | with_reducible exact Frame.refl _ _
    | with_reducible apply Frame.ite
    | with_reducible apply Frame.foldl
    | with_reducible apply Frame.via (State.setF_frame _ _ _ _ _) (by decide)
    | with_reducible apply Frame.via (State.linkLeave_frame _ _ _) (by decide)
    | split

theorem State.linkAdmit_frame (s0 : State) (a1 : Nat) : Frame [.regs, .lk, .legacy, .arb, .pwr] s0 (State.linkAdmit s0 a1) := by
  unfold State.linkAdmit
  repeat' first
    | with_reducible assumption
    | intro _
    | (extract_lets -merge +onlyGivenNames x; refine (have hx : Frame [.regs, .lk, .legacy, .arb, .pwr] s0 x := ?_; ?_); rotate_left; clear_value x; rotate_left; subst x)
    | (extract_lets -merge +onlyGivenNames x; clear_value x)
    | with_reducible exact Frame.refl _ _
    | with_reducible apply Frame.ite
    | with_reducible apply Frame.foldl
    | with_reducible apply Frame.via (State.setF_frame _ _ _ _ _) (by decide)
    | with_reducible apply Frame.via (State.setLogged_frame _ _ _ _ _) (by decide)
    | with_reducible apply Frame.via (State.linkFail_frame _ _ _) (by decide)
    | split

theorem State.seamFail_frame (s0 : State) (a1 : Nat) (a2 : Nat) (a3 : Nat) : Frame [.regs, .seams, .score, .arb] s0 (State.seamFail s0 a1 a2 a3) := by
  unfold State.seamFail
  repeat' first
    | with_reducible assumption
    | intro _
    | (extract_lets -merge +onlyGivenNames x; refine (have hx : Frame [.regs, .seams, .score, .arb] s0 x := ?_; ?_); rotate_left; clear_value x; rotate_left; subst x)
    | (extract_lets -merge +onlyGivenNames x; clear_value x)
    | with_reducible exact Frame.refl _ _
    | with_reducible apply Frame.ite
    | with_reducible apply Frame.foldl
    | with_reducible apply Frame.via (State.setF_frame _ _ _ _ _) (by decide)
    | with_reducible apply Frame.via (State.seamLeave_frame _ _ _ _) (by decide)
    | split

theorem State.sendEcho_frame (s0 : State) (a1 : Nat) (a2 : Nat) : Frame [.linkTx, .lk] s0 (State.sendEcho s0 a1 a2) := by
  unfold State.sendEcho
  repeat' first
    | with_reducible assumption
    | intro _
    | (extract_lets -merge +onlyGivenNames x; refine (have hx : Frame [.linkTx, .lk] s0 x := ?_; ?_); rotate_left; clear_value x; rotate_left; subst x)
    | (extract_lets -merge +onlyGivenNames x; clear_value x)
    | with_reducible exact Frame.refl _ _
    | with_reducible apply Frame.ite
    | with_reducible apply Frame.foldl
    | with_reducible apply Frame.via (State.setLnkDyn_frame _ _ _) (by decide)
    | with_reducible apply Frame.via (State.txFlit_frame _ _ _) (by decide)
    | split

theorem State.badCodeword_frame (s0 : State) (a1 : Nat) : Frame [.regs, .lk, .legacy, .arb, .pwr] s0 (State.badCodeword s0 a1) := by
  unfold State.badCodeword
  repeat' first
    | with_reducible assumption
    | intro _
    | (extract_lets -merge +onlyGivenNames x; refine (have hx : Frame [.regs, .lk, .legacy, .arb, .pwr] s0 x := ?_; ?_); rotate_left; clear_value x; rotate_left; subst x)
    | (extract_lets -merge +onlyGivenNames x; clear_value x)
    | with_reducible exact Frame.refl _ _
    | with_reducible apply Frame.ite
    | with_reducible apply Frame.foldl
    | with_reducible apply Frame.via (State.incF_frame _ _ _ _ _) (by decide)
    | with_reducible apply Frame.via (State.setLnkDyn_frame _ _ _) (by decide)
    | with_reducible apply Frame.via (State.linkRetrain_frame _ _ _) (by decide)
    | with_reducible apply Frame.via (State.linkFail_frame _ _ _) (by decide)
    | split

theorem State.echoResponse_frame (s0 : State) (a1 : Nat) (a2 : Nat) (a3 : Nat) (a4 : Nat) (a5 : Nat) : Frame [.regs, .linkTx, .lk, .legacy, .arb, .pwr] s0 (State.echoResponse s0 a1 a2 a3 a4 a5) := by
  unfold State.echoResponse
  repeat' first
    | with_reducible assumption
    | intro _
    | (extract_lets -merge +onlyGivenNames x; refine (have hx : Frame [.regs, .linkTx, .lk, .legacy, .arb, .pwr] s0 x := ?_; ?_); rotate_left; clear_value x; rotate_left; subst x)
    | (extract_lets -merge +onlyGivenNames x; clear_value x)
    | with_reducible exact Frame.refl _ _
    | with_reducible apply Frame.ite
    | with_reducible apply Frame.foldl
    | with_reducible apply Frame.via (State.setLnkDyn_frame _ _ _) (by decide)
    | with_reducible apply Frame.via (State.linkFail_frame _ _ _) (by decide)
    | with_reducible apply Frame.via (State.sendEcho_frame _ _ _) (by decide)
    | split

theorem State.goodCodeword_frame (s0 : State) (a1 : Nat) (a2 : Codeword) : Frame [.regs, .lk] s0 (State.goodCodeword s0 a1 a2) := by
  unfold State.goodCodeword
  repeat' first
    | with_reducible assumption
    | intro _
    | (extract_lets -merge +onlyGivenNames x; refine (have hx : Frame [.regs, .lk] s0 x := ?_; ?_); rotate_left; clear_value x; rotate_left; subst x)
    | (extract_lets -merge +onlyGivenNames x; clear_value x)
    | with_reducible exact Frame.refl _ _
    | with_reducible apply Frame.ite
    | with_reducible apply Frame.foldl
    | with_reducible apply Frame.via (State.incF_frame _ _ _ _ _) (by decide)
    | with_reducible apply Frame.via (State.setLnkDyn_frame _ _ _) (by decide)
    | split

theorem State.linkMeasured_frame (s0 : State) (a1 : Nat) : Frame [.regs, .linkTx, .lk, .legacy, .arb, .pwr] s0 (State.linkMeasured s0 a1) := by
  unfold State.linkMeasured
  repeat' first
    | with_reducible assumption
    | intro _
    | (extract_lets -merge +onlyGivenNames x; refine (have hx : Frame [.regs, .linkTx, .lk, .legacy, .arb, .pwr] s0 x := ?_; ?_); rotate_left; clear_value x; rotate_left; subst x)
    | (extract_lets -merge +onlyGivenNames x; clear_value x)
    | with_reducible exact Frame.refl _ _
    | with_reducible apply Frame.ite
    | with_reducible apply Frame.foldl
    | with_reducible apply Frame.via (State.setF_frame _ _ _ _ _) (by decide)
    | with_reducible apply Frame.via (State.setBit_frame _ _ _ _) (by decide)
    | with_reducible apply Frame.via (State.setLnkDyn_frame _ _ _) (by decide)
    | with_reducible apply Frame.via (State.setLinkState_frame _ _ _) (by decide)
    | with_reducible apply Frame.via (State.txFlit_frame _ _ _) (by decide)
    | with_reducible apply Frame.via (State.linkAdmit_frame _ _) (by decide)
    | split

theorem State.markers_frame (s0 : State) (a1 : Nat) (a2 : Marker) : Frame [.regs, .lk, .legacy, .arb, .pwr] s0 (State.markers s0 a1 a2) := by
  unfold State.markers
  repeat' first
    | with_reducible assumption
    | intro _
    | (extract_lets -merge +onlyGivenNames x; refine (have hx : Frame [.regs, .lk, .legacy, .arb, .pwr] s0 x := ?_; ?_); rotate_left; clear_value x; rotate_left; subst x)
    | (extract_lets -merge +onlyGivenNames x; clear_value x)
    | with_reducible exact Frame.refl _ _
    | with_reducible apply Frame.ite
    | with_reducible apply Frame.foldl
    | with_reducible apply Frame.via (State.incF_frame _ _ _ _ _) (by decide)
    | with_reducible apply Frame.via (State.setLnkDyn_frame _ _ _) (by decide)
    | with_reducible apply Frame.via (State.startTraining_frame _ _ _) (by decide)
    | with_reducible apply Frame.via (State.linkRetrain_frame _ _ _) (by decide)
    | split

theorem State.latchTempo_frame (s0 : State) (a1 : Nat) (a2 : Nat) (a3 : Nat) (a4 : Nat) : Frame [.regs] s0 (State.latchTempo s0 a1 a2 a3 a4) := by
  unfold State.latchTempo
  repeat' first
    | with_reducible assumption
    | intro _
    | (extract_lets -merge +onlyGivenNames x; refine (have hx : Frame [.regs] s0 x := ?_; ?_); rotate_left; clear_value x; rotate_left; subst x)
    | (extract_lets -merge +onlyGivenNames x; clear_value x)
    | with_reducible exact Frame.refl _ _
    | with_reducible apply Frame.ite
    | with_reducible apply Frame.foldl
    | with_reducible apply Frame.via (State.setF_frame _ _ _ _ _) (by decide)
    | with_reducible apply Frame.via (State.setBit_frame _ _ _ _) (by decide)
    | split

theorem State.scheduleAction_frame (s0 : State) (a1 : BarAction) : Frame [.tempo] s0 (State.scheduleAction s0 a1) := by
  unfold State.scheduleAction
  repeat' first
    | with_reducible assumption
    | intro _
    | (extract_lets -merge +onlyGivenNames x; refine (have hx : Frame [.tempo] s0 x := ?_; ?_); rotate_left; clear_value x; rotate_left; subst x)
    | (extract_lets -merge +onlyGivenNames x; clear_value x)
    | with_reducible exact Frame.refl _ _
    | with_reducible apply Frame.ite
    | with_reducible apply Frame.foldl
    | with_reducible apply Frame.via (State.setTempo_frame _ _) (by decide)
    | split

theorem State.tempoFault_frame (s0 : State) (a1 : Nat) (a2 : Nat) (a3 : Nat) (a4 : Nat) : Frame [.regs, .tempo, .arb] s0 (State.tempoFault s0 a1 a2 a3 a4) := by
  unfold State.tempoFault
  repeat' first
    | with_reducible assumption
    | intro _
    | (extract_lets -merge +onlyGivenNames x; refine (have hx : Frame [.regs, .tempo, .arb] s0 x := ?_; ?_); rotate_left; clear_value x; rotate_left; subst x)
    | (extract_lets -merge +onlyGivenNames x; clear_value x)
    | with_reducible exact Frame.refl _ _
    | with_reducible apply Frame.ite
    | with_reducible apply Frame.foldl
    | with_reducible apply Frame.via (State.logBits_frame _ _ _ _ _) (by decide)
    | with_reducible apply Frame.via (State.latchTempo_frame _ _ _ _ _) (by decide)
    | with_reducible apply Frame.via (State.scheduleAction_frame _ _) (by decide)
    | split

theorem State.noteLost_frame (s0 : State) (a1 : Nat) (a2 : Nat) (a3 : Bool) : Frame [.regs, .tempo, .arb] s0 (State.noteLost s0 a1 a2 a3) := by
  unfold State.noteLost
  repeat' first
    | with_reducible assumption
    | intro _
    | (extract_lets -merge +onlyGivenNames x; refine (have hx : Frame [.regs, .tempo, .arb] s0 x := ?_; ?_); rotate_left; clear_value x; rotate_left; subst x)
    | (extract_lets -merge +onlyGivenNames x; clear_value x)
    | with_reducible exact Frame.refl _ _
    | with_reducible apply Frame.ite
    | with_reducible apply Frame.foldl
    | with_reducible apply Frame.via (State.setLogged_frame _ _ _ _ _) (by decide)
    | with_reducible apply Frame.via (State.tempoFault_frame _ _ _ _ _) (by decide)
    | split

theorem State.retrainTarget_frame (s0 : State) (a1 : Nat) (a2 : Bool) : Frame [.regs, .lk, .seams, .legacy, .score, .arb, .pwr] s0 (State.retrainTarget s0 a1 a2) := by
  unfold State.retrainTarget
  repeat' first
    | with_reducible assumption
    | intro _
    | (extract_lets -merge +onlyGivenNames x; refine (have hx : Frame [.regs, .lk, .seams, .legacy, .score, .arb, .pwr] s0 x := ?_; ?_); rotate_left; clear_value x; rotate_left; subst x)
    | (extract_lets -merge +onlyGivenNames x; clear_value x)
    | with_reducible exact Frame.refl _ _
    | with_reducible apply Frame.ite
    | with_reducible apply Frame.foldl
    | with_reducible apply Frame.via (State.linkRetrain_frame _ _ _) (by decide)
    | with_reducible apply Frame.via (State.seamRetrain_frame _ _ _ _) (by decide)
    | split

theorem State.seamDone_frame (s0 : State) (a1 : Nat) (a2 : Nat) : Frame [.regs, .mem, .front] s0 (State.seamDone s0 a1 a2) := by
  unfold State.seamDone
  repeat' first
    | with_reducible assumption
    | intro _
    | (extract_lets -merge +onlyGivenNames x; refine (have hx : Frame [.regs, .mem, .front] s0 x := ?_; ?_); rotate_left; clear_value x; rotate_left; subst x)
    | (extract_lets -merge +onlyGivenNames x; clear_value x)
    | with_reducible exact Frame.refl _ _
    | with_reducible apply Frame.ite
    | with_reducible apply Frame.foldl
    | with_reducible apply Frame.via (State.retrainDone_frame _ _ _) (by decide)
    | split

theorem State.sendAlign_frame (s0 : State) (a1 : List Nat) (a2 : Nat) (a3 : Bool) : Frame [.aligns] s0 (State.sendAlign s0 a1 a2 a3) := by
  unfold State.sendAlign
  repeat' first
    | with_reducible assumption
    | intro _
    | (extract_lets -merge +onlyGivenNames x; refine (have hx : Frame [.aligns] s0 x := ?_; ?_); rotate_left; clear_value x; rotate_left; subst x)
    | (extract_lets -merge +onlyGivenNames x; clear_value x)
    | with_reducible exact Frame.refl _ _
    | with_reducible apply Frame.ite
    | with_reducible apply Frame.foldl
    | split
    | with_reducible apply Frame.set_aligns _ (by decide)

theorem State.setDieCount_frame (s0 : State) (a1 : Nat) (a2 : Nat) : Frame [.dieBase] s0 (State.setDieCount s0 a1 a2) := by
  unfold State.setDieCount
  repeat' first
    | with_reducible assumption
    | intro _
    | (extract_lets -merge +onlyGivenNames x; refine (have hx : Frame [.dieBase] s0 x := ?_; ?_); rotate_left; clear_value x; rotate_left; subst x)
    | (extract_lets -merge +onlyGivenNames x; clear_value x)
    | with_reducible exact Frame.refl _ _
    | with_reducible apply Frame.ite
    | with_reducible apply Frame.foldl
    | split
    | with_reducible apply Frame.set_dieBase _ (by decide)

theorem State.setProfile_frame (s0 : State) (a1 : Nat) (a2 : Nat) : Frame [.regs, .lk, .legacy, .arb, .pwr] s0 (State.setProfile s0 a1 a2) := by
  unfold State.setProfile
  repeat' first
    | with_reducible assumption
    | intro _
    | (extract_lets -merge +onlyGivenNames x; refine (have hx : Frame [.regs, .lk, .legacy, .arb, .pwr] s0 x := ?_; ?_); rotate_left; clear_value x; rotate_left; subst x)
    | (extract_lets -merge +onlyGivenNames x; clear_value x)
    | with_reducible exact Frame.refl _ _
    | with_reducible apply Frame.ite
    | with_reducible apply Frame.foldl
    | with_reducible apply Frame.via (State.setF_frame _ _ _ _ _) (by decide)
    | with_reducible apply Frame.via (State.startTraining_frame _ _ _) (by decide)
    | with_reducible apply Frame.via (State.linkLeave_frame _ _ _) (by decide)
    | with_reducible apply Frame.via (State.linkStart_frame _ _) (by decide)
    | with_reducible apply Frame.via (State.linkRetrain_frame _ _ _) (by decide)
    | split

theorem execAlignNotice_frame (s0 : State) (a0 : Fin 12) (a1 : Bool) : Completes (execAlignNotice a0 a1 s0) (Frame [.regs, .tempo, .dieBase, .aligns, .arb] s0) := by
  unfold execAlignNotice
  refine ⟨_, rfl, ?_⟩
  repeat' first
    | with_reducible assumption
    | intro _
    | (extract_lets -merge +onlyGivenNames x; refine (have hx : Frame [.regs, .tempo, .dieBase, .aligns, .arb] s0 x := ?_; ?_); rotate_left; clear_value x; rotate_left; subst x)
    | (extract_lets -merge +onlyGivenNames x; clear_value x)
    | with_reducible exact Frame.refl _ _
    | with_reducible apply Frame.ite
    | with_reducible apply Frame.foldl
    | with_reducible apply Frame.via (State.noteLost_frame _ _ _ _) (by decide)
    | with_reducible apply Frame.via (State.sendAlign_frame _ _ _ _) (by decide)
    | with_reducible apply Frame.via (State.setDieCount_frame _ _ _) (by decide)
    | split
    | with_reducible apply Frame.set_aligns _ (by decide)

theorem execAlignRequest_frame (s0 : State) (a0 : Fin 12) : Completes (execAlignRequest a0 s0) (Frame [.aligns] s0) := by
  unfold execAlignRequest
  refine ⟨_, rfl, ?_⟩
  repeat' first
    | with_reducible assumption
    | intro _
    | (extract_lets -merge +onlyGivenNames x; refine (have hx : Frame [.aligns] s0 x := ?_; ?_); rotate_left; clear_value x; rotate_left; subst x)
    | (extract_lets -merge +onlyGivenNames x; clear_value x)
    | with_reducible exact Frame.refl _ _
    | with_reducible apply Frame.ite
    | with_reducible apply Frame.foldl
    | with_reducible apply Frame.via (State.sendAlign_frame _ _ _ _) (by decide)
    | split

theorem execCodewordReceive_frame (s0 : State) (a0 : Fin 12) (a1 : Codeword) : Completes (execCodewordReceive a0 a1 s0) (Frame [.regs, .lk, .legacy, .arb, .pwr] s0) := by
  unfold execCodewordReceive
  refine ⟨_, rfl, ?_⟩
  repeat' first
    | with_reducible assumption
    | intro _
    | (extract_lets -merge +onlyGivenNames x; refine (have hx : Frame [.regs, .lk, .legacy, .arb, .pwr] s0 x := ?_; ?_); rotate_left; clear_value x; rotate_left; subst x)
    | (extract_lets -merge +onlyGivenNames x; clear_value x)
    | with_reducible exact Frame.refl _ _
    | with_reducible apply Frame.ite
    | with_reducible apply Frame.foldl
    | with_reducible apply Frame.via (State.incF_frame _ _ _ _ _) (by decide)
    | with_reducible apply Frame.via (State.setLnkDyn_frame _ _ _) (by decide)
    | with_reducible apply Frame.via (State.badCodeword_frame _ _) (by decide)
    | with_reducible apply Frame.via (State.goodCodeword_frame _ _ _) (by decide)
    | with_reducible apply Frame.via (State.markers_frame _ _ _) (by decide)
    | split

theorem execEchoNotice_frame (s0 : State) (a0 : Fin 12) (a1 : Fin 4) (a2 : BitVec 32) (a3 : BitVec 16) : Completes (execEchoNotice a0 a1 a2 a3 s0) (Frame [.regs, .seams, .score, .arb] s0) := by
  unfold execEchoNotice
  refine ⟨_, rfl, ?_⟩
  repeat' first
    | with_reducible assumption
    | intro _
    | (extract_lets -merge +onlyGivenNames x; refine (have hx : Frame [.regs, .seams, .score, .arb] s0 x := ?_; ?_); rotate_left; clear_value x; rotate_left; subst x)
    | (extract_lets -merge +onlyGivenNames x; clear_value x)
    | with_reducible exact Frame.refl _ _
    | with_reducible apply Frame.ite
    | with_reducible apply Frame.foldl
    | with_reducible apply Frame.via (State.setSeamDyn_frame _ _ _ _) (by decide)
    | with_reducible apply Frame.via (State.seamFail_frame _ _ _ _) (by decide)
    | split

theorem execEchoRepeat_frame (s0 : State) (a0 : Fin 12) (a1 : BitVec 32) : Completes (execEchoRepeat a0 a1 s0) (Frame [.linkTx, .lk] s0) := by
  unfold execEchoRepeat
  refine ⟨_, rfl, ?_⟩
  repeat' first
    | with_reducible assumption
    | intro _
    | (extract_lets -merge +onlyGivenNames x; refine (have hx : Frame [.linkTx, .lk] s0 x := ?_; ?_); rotate_left; clear_value x; rotate_left; subst x)
    | (extract_lets -merge +onlyGivenNames x; clear_value x)
    | with_reducible exact Frame.refl _ _
    | with_reducible apply Frame.ite
    | with_reducible apply Frame.foldl
    | with_reducible apply Frame.via (State.sendEcho_frame _ _ _) (by decide)
    | split

theorem execLaneLockLoss_frame (s0 : State) (a0 : BitVec 8) : Completes (execLaneLockLoss a0 s0) (Frame [.regs, .lk, .seams, .legacy, .score, .arb, .pwr] s0) := by
  unfold execLaneLockLoss
  refine ⟨_, rfl, ?_⟩
  repeat' first
    | with_reducible assumption
    | intro _
    | (extract_lets -merge +onlyGivenNames x; refine (have hx : Frame [.regs, .lk, .seams, .legacy, .score, .arb, .pwr] s0 x := ?_; ?_); rotate_left; clear_value x; rotate_left; subst x)
    | (extract_lets -merge +onlyGivenNames x; clear_value x)
    | with_reducible exact Frame.refl _ _
    | with_reducible apply Frame.ite
    | with_reducible apply Frame.foldl
    | with_reducible apply Frame.via (State.retrainTarget_frame _ _ _) (by decide)
    | split

theorem execLinkDisable_frame (s0 : State) (a0 : Fin 12) : Completes (execLinkDisable a0 s0) (Frame [.regs, .lk, .legacy, .arb, .pwr] s0) := by
  unfold execLinkDisable
  refine ⟨_, rfl, ?_⟩
  repeat' first
    | with_reducible assumption
    | intro _
    | (extract_lets -merge +onlyGivenNames x; refine (have hx : Frame [.regs, .lk, .legacy, .arb, .pwr] s0 x := ?_; ?_); rotate_left; clear_value x; rotate_left; subst x)
    | (extract_lets -merge +onlyGivenNames x; clear_value x)
    | with_reducible exact Frame.refl _ _
    | with_reducible apply Frame.ite
    | with_reducible apply Frame.foldl
    | with_reducible apply Frame.via (State.linkOff_frame _ _) (by decide)
    | with_reducible apply Frame.via (State.goneAccess_frame _ _ _ _) (by decide)
    | split

theorem execLinkEnable_frame (s0 : State) (a0 : Fin 12) : Completes (execLinkEnable a0 s0) (Frame [.regs, .lk, .legacy] s0) := by
  unfold execLinkEnable
  refine ⟨_, rfl, ?_⟩
  repeat' first
    | with_reducible assumption
    | intro _
    | (extract_lets -merge +onlyGivenNames x; refine (have hx : Frame [.regs, .lk, .legacy] s0 x := ?_; ?_); rotate_left; clear_value x; rotate_left; subst x)
    | (extract_lets -merge +onlyGivenNames x; clear_value x)
    | with_reducible exact Frame.refl _ _
    | with_reducible apply Frame.ite
    | with_reducible apply Frame.foldl
    | with_reducible apply Frame.via (State.setF_frame _ _ _ _ _) (by decide)
    | with_reducible apply Frame.via (State.linkStart_frame _ _) (by decide)
    | with_reducible apply Frame.via (State.goneAccess_frame _ _ _ _) (by decide)
    | split

theorem execLinkFlitReceive_frame (s0 : State) (a0 : Fin 12) (a1 : List Byte) (a2 : BitVec 32) (a3 : BitVec 32) : Completes (execLinkFlitReceive a0 a1 a2 a3 s0) (Frame [.regs, .linkTx, .lk, .legacy, .arb, .pwr] s0) := by
  unfold execLinkFlitReceive
  refine ⟨_, rfl, ?_⟩
  repeat' first
    | with_reducible assumption
    | intro _
    | (extract_lets -merge +onlyGivenNames x; refine (have hx : Frame [.regs, .linkTx, .lk, .legacy, .arb, .pwr] s0 x := ?_; ?_); rotate_left; clear_value x; rotate_left; subst x)
    | (extract_lets -merge +onlyGivenNames x; clear_value x)
    | with_reducible exact Frame.refl _ _
    | with_reducible apply Frame.ite
    | with_reducible apply Frame.foldl
    | with_reducible apply Frame.via (State.setLnkDyn_frame _ _ _) (by decide)
    | with_reducible apply Frame.via (State.txFlit_frame _ _ _) (by decide)
    | with_reducible apply Frame.via (State.linkAdmit_frame _ _) (by decide)
    | with_reducible apply Frame.via (State.echoResponse_frame _ _ _ _ _ _) (by decide)
    | split

theorem execLinkProfile_frame (s0 : State) (a0 : Cmd) : Completes (execLinkProfile a0 s0) (Frame [.regs, .mem, .lk, .legacy, .arb, .front, .pwr] s0) := by
  unfold execLinkProfile
  refine ⟨_, rfl, ?_⟩
  repeat' first
    | with_reducible assumption
    | intro _
    | (extract_lets -merge +onlyGivenNames x; refine (have hx : Frame [.regs, .mem, .lk, .legacy, .arb, .front, .pwr] s0 x := ?_; ?_); rotate_left; clear_value x; rotate_left; subst x)
    | (extract_lets -merge +onlyGivenNames x; clear_value x)
    | with_reducible exact Frame.refl _ _
    | with_reducible apply Frame.ite
    | with_reducible apply Frame.foldl
    | with_reducible apply Frame.via (State.complete_frame _ _ _ _) (by decide)
    | with_reducible refine State.runCmd_frame _ _ _ _ _ (by decide) ?_ (fun _ => ?_)
    | with_reducible apply Frame.via (State.setProfile_frame _ _ _) (by decide)
    | split

theorem execLinkQuietEnd_frame (s0 : State) (a0 : Fin 12) : Completes (execLinkQuietEnd a0 s0) (Frame [.regs] s0) := by
  unfold execLinkQuietEnd
  refine ⟨_, rfl, ?_⟩
  repeat' first
    | with_reducible assumption
    | intro _
    | (extract_lets -merge +onlyGivenNames x; refine (have hx : Frame [.regs] s0 x := ?_; ?_); rotate_left; clear_value x; rotate_left; subst x)
    | (extract_lets -merge +onlyGivenNames x; clear_value x)
    | with_reducible exact Frame.refl _ _
    | with_reducible apply Frame.ite
    | with_reducible apply Frame.foldl
    | with_reducible apply Frame.via (State.setLinkState_frame _ _ _) (by decide)
    | split

theorem execLinkQuietStart_frame (s0 : State) (a0 : Fin 12) : Completes (execLinkQuietStart a0 s0) (Frame [.regs, .lk] s0) := by
  unfold execLinkQuietStart
  refine ⟨_, rfl, ?_⟩
  repeat' first
    | with_reducible assumption
    | intro _
    | (extract_lets -merge +onlyGivenNames x; refine (have hx : Frame [.regs, .lk] s0 x := ?_; ?_); rotate_left; clear_value x; rotate_left; subst x)
    | (extract_lets -merge +onlyGivenNames x; clear_value x)
    | with_reducible exact Frame.refl _ _
    | with_reducible apply Frame.ite
    | with_reducible apply Frame.foldl
    | with_reducible apply Frame.via (State.incF_frame _ _ _ _ _) (by decide)
    | with_reducible apply Frame.via (State.setLnkDyn_frame _ _ _) (by decide)
    | with_reducible apply Frame.via (State.setLinkState_frame _ _ _) (by decide)
    | split

end Sys2Proof.Machine
end

