-- ==== Sys2Proof/Laws/Frames6.lean ====
section
/-! SUPPORT. The frames of operations and commands of Links, Mem, MemOps, Notices, Ops, Power, PressExec, PressOps,
QueueOps, ResetOps: the parts that each may change. -/

namespace Sys2Proof.Machine

theorem execLinkRetrain_frame (s0 : State) (a0 : Cmd) : Completes (execLinkRetrain a0 s0) (Frame [.regs, .mem, .lk, .seams, .legacy, .score, .arb, .front, .pwr] s0) := by
  unfold execLinkRetrain
  refine ⟨_, rfl, ?_⟩
  repeat' first
    | with_reducible assumption
    | intro _
    | (extract_lets -merge +onlyGivenNames x; refine (have hx : Frame [.regs, .mem, .lk, .seams, .legacy, .score, .arb, .front, .pwr] s0 x := ?_; ?_); rotate_left; clear_value x; rotate_left; subst x)
    | (extract_lets -merge +onlyGivenNames x; clear_value x)
    | with_reducible exact Frame.refl _ _
    | with_reducible apply Frame.ite
    | with_reducible apply Frame.foldl
    | with_reducible apply Frame.via (State.complete_frame _ _ _ _) (by decide)
    | with_reducible refine State.runCmd_frame _ _ _ _ _ (by decide) ?_ (fun _ => ?_)
    | with_reducible apply Frame.via (State.wait_frame _ _ _) (by decide)
    | with_reducible apply Frame.via (State.retrainTarget_frame _ _ _) (by decide)
    | split

theorem execLinkRetrainTimeout_frame (s0 : State) (a0 : Cmd) : Completes (execLinkRetrainTimeout a0 s0) (Frame [.regs, .mem, .front] s0) := by
  unfold execLinkRetrainTimeout
  refine ⟨_, rfl, ?_⟩
  repeat' first
    | with_reducible assumption
    | intro _
    | (extract_lets -merge +onlyGivenNames x; refine (have hx : Frame [.regs, .mem, .front] s0 x := ?_; ?_); rotate_left; clear_value x; rotate_left; subst x)
    | (extract_lets -merge +onlyGivenNames x; clear_value x)
    | with_reducible exact Frame.refl _ _
    | with_reducible apply Frame.ite
    | with_reducible apply Frame.foldl
    | with_reducible apply Frame.via (State.complete_frame _ _ _ _) (by decide)
    | split
    | with_reducible apply Frame.set_front _ (by decide)

theorem execLinkRetryTimer_frame (s0 : State) (a0 : Fin 12) : Completes (execLinkRetryTimer a0 s0) (Frame [.regs, .lk, .legacy] s0) := by
  unfold execLinkRetryTimer
  refine ⟨_, rfl, ?_⟩
  repeat' first
    | with_reducible assumption
    | intro _
    | (extract_lets -merge +onlyGivenNames x; refine (have hx : Frame [.regs, .lk, .legacy] s0 x := ?_; ?_); rotate_left; clear_value x; rotate_left; subst x)
    | (extract_lets -merge +onlyGivenNames x; clear_value x)
    | with_reducible exact Frame.refl _ _
    | with_reducible apply Frame.ite
    | with_reducible apply Frame.foldl
    | with_reducible apply Frame.via (State.startTraining_frame _ _ _) (by decide)
    | split

theorem execLinkStateComplete_frame (s0 : State) (a0 : Fin 12) (a1 : Bool) (a2 : BitVec 8) (a3 : BitVec 32) : Completes (execLinkStateComplete a0 a1 a2 a3 s0) (Frame [.regs, .mem, .linkTx, .lk, .legacy, .arb, .front, .pwr] s0) := by
  unfold execLinkStateComplete
  refine ⟨_, rfl, ?_⟩
  repeat' first
    | with_reducible assumption
    | intro _
    | (extract_lets -merge +onlyGivenNames x; refine (have hx : Frame [.regs, .mem, .linkTx, .lk, .legacy, .arb, .front, .pwr] s0 x := ?_; ?_); rotate_left; clear_value x; rotate_left; subst x)
    | (extract_lets -merge +onlyGivenNames x; clear_value x)
    | with_reducible exact Frame.refl _ _
    | with_reducible apply Frame.ite
    | with_reducible apply Frame.foldl
    | with_reducible apply Frame.via (State.setF_frame _ _ _ _ _) (by decide)
    | with_reducible apply Frame.via (State.setLnkDyn_frame _ _ _) (by decide)
    | with_reducible apply Frame.via (State.setLinkState_frame _ _ _) (by decide)
    | with_reducible apply Frame.via (State.linkEnterUp_frame _ _) (by decide)
    | with_reducible apply Frame.via (State.g1Admit_frame _ _) (by decide)
    | with_reducible apply Frame.via (State.sendInit_frame _ _) (by decide)
    | with_reducible apply Frame.via (State.sendEcho_frame _ _ _) (by decide)
    | with_reducible apply Frame.via (State.linkMeasured_frame _ _) (by decide)
    | split

theorem execLinkStateTimeout_frame (s0 : State) (a0 : Fin 12) : Completes (execLinkStateTimeout a0 s0) (Frame [.regs, .lk, .legacy, .arb, .pwr, .free] s0) := by
  unfold execLinkStateTimeout
  refine ⟨_, rfl, ?_⟩
  repeat' first
    | with_reducible assumption
    | intro _
    | (extract_lets -merge +onlyGivenNames x; refine (have hx : Frame [.regs, .lk, .legacy, .arb, .pwr, .free] s0 x := ?_; ?_); rotate_left; clear_value x; rotate_left; subst x)
    | (extract_lets -merge +onlyGivenNames x; clear_value x)
    | with_reducible exact Frame.refl _ _
    | with_reducible apply Frame.ite
    | with_reducible apply Frame.foldl
    | with_reducible apply Frame.via (State.useFree_frame _ _) (by decide)
    | with_reducible apply Frame.via (State.linkFail_frame _ _ _) (by decide)
    | split

theorem execLnkCntClr_frame (s0 : State) (a0 : Fin 12) : Completes (execLnkCntClr a0 s0) (Frame [.regs] s0) := by
  unfold execLnkCntClr
  refine ⟨_, rfl, ?_⟩
  repeat' first
    | with_reducible assumption
    | intro _
    | (extract_lets -merge +onlyGivenNames x; refine (have hx : Frame [.regs] s0 x := ?_; ?_); rotate_left; clear_value x; rotate_left; subst x)
    | (extract_lets -merge +onlyGivenNames x; clear_value x)
    | with_reducible exact Frame.refl _ _
    | with_reducible apply Frame.ite
    | with_reducible apply Frame.foldl
    | with_reducible apply Frame.via (State.clrLinkCounts_frame _ _) (by decide)
    | with_reducible apply Frame.via (State.goneAccess_frame _ _ _ _) (by decide)
    | split

theorem execSeamBeatReceive_frame (s0 : State) (a0 : Fin 12) (a1 : Fin 4) (a2 : SeamBeat) : Completes (execSeamBeatReceive a0 a1 a2 s0) (Frame [.regs, .tempo, .seams, .score, .arb] s0) := by
  unfold execSeamBeatReceive
  refine ⟨_, rfl, ?_⟩
  repeat' first
    | with_reducible assumption
    | intro _
    | (extract_lets -merge +onlyGivenNames x; refine (have hx : Frame [.regs, .tempo, .seams, .score, .arb] s0 x := ?_; ?_); rotate_left; clear_value x; rotate_left; subst x)
    | (extract_lets -merge +onlyGivenNames x; clear_value x)
    | with_reducible exact Frame.refl _ _
    | with_reducible apply Frame.ite
    | with_reducible apply Frame.foldl
    | with_reducible apply Frame.via (State.incF_frame _ _ _ _ _) (by decide)
    | with_reducible apply Frame.via (State.setSeamDyn_frame _ _ _ _) (by decide)
    | with_reducible apply Frame.via (State.seamRetrain_frame _ _ _ _) (by decide)
    | with_reducible apply Frame.via (State.noteLost_frame _ _ _ _) (by decide)
    | split

theorem execSeamTrainingDone_frame (s0 : State) (a0 : Fin 12) (a1 : Fin 4) (a2 : Option Nat) : Completes (execSeamTrainingDone a0 a1 a2 s0) (Frame [.regs, .mem, .seams, .score, .arb, .front] s0) := by
  unfold execSeamTrainingDone
  refine ⟨_, rfl, ?_⟩
  repeat' first
    | with_reducible assumption
    | intro _
    | (extract_lets -merge +onlyGivenNames x; refine (have hx : Frame [.regs, .mem, .seams, .score, .arb, .front] s0 x := ?_; ?_); rotate_left; clear_value x; rotate_left; subst x)
    | (extract_lets -merge +onlyGivenNames x; clear_value x)
    | with_reducible exact Frame.refl _ _
    | with_reducible apply Frame.ite
    | with_reducible apply Frame.foldl
    | with_reducible apply Frame.via (State.setF_frame _ _ _ _ _) (by decide)
    | with_reducible apply Frame.via (State.setBit_frame _ _ _ _) (by decide)
    | with_reducible apply Frame.via (State.setSeamDyn_frame _ _ _ _) (by decide)
    | with_reducible apply Frame.via (State.seamFail_frame _ _ _ _) (by decide)
    | with_reducible apply Frame.via (State.seamDone_frame _ _ _) (by decide)
    | split

theorem State.answered_frame (s0 : State) (a1 : Nat) (a2 : List Byte) : Frame [.front] s0 (State.answered s0 a1 a2) := by
  unfold State.answered
  repeat' first
    | with_reducible assumption
    | intro _
    | (extract_lets -merge +onlyGivenNames x; refine (have hx : Frame [.front] s0 x := ?_; ?_); rotate_left; clear_value x; rotate_left; subst x)
    | (extract_lets -merge +onlyGivenNames x; clear_value x)
    | with_reducible exact Frame.refl _ _
    | with_reducible apply Frame.ite
    | with_reducible apply Frame.foldl
    | split
    | with_reducible apply Frame.set_front _ (by decide)

theorem State.scanDone_frame (s0 : State) (a1 : Nat) (a2 : Bool) : Frame [.regs, .mem, .sects, .ports, .front] s0 (State.scanDone s0 a1 a2) := by
  unfold State.scanDone
  repeat' first
    | with_reducible assumption
    | intro _
    | (extract_lets -merge +onlyGivenNames x; refine (have hx : Frame [.regs, .mem, .sects, .ports, .front] s0 x := ?_; ?_); rotate_left; clear_value x; rotate_left; subst x)
    | (extract_lets -merge +onlyGivenNames x; refine (have hx : Frame [.regs, .mem, .sects, .ports, .front] s0 x.1 := ?_; ?_); rotate_left; clear_value x; rotate_left; subst x)
    | (extract_lets -merge +onlyGivenNames x; refine (have hf : _ → _ := x; ?_); clear hf; subst x)
    | (extract_lets -merge +onlyGivenNames x; clear_value x)
    | with_reducible exact Frame.refl _ _
    | with_reducible apply Frame.ite
    | with_reducible apply Frame.ite1
    | with_reducible apply Frame.foldl
    | with_reducible apply Frame.foldl1
    | with_reducible apply Frame.idf
    | with_reducible apply Frame.via (State.scanRetire_frame _ _ _ _) (by decide)
    | with_reducible apply Frame.via (State.setPort_frame _ _ _) (by decide)
    | with_reducible apply Frame.via (State.finishScans_frame _ _) (by decide)
    | split

theorem State.stray_frame (s0 : State) (a1 : Nat) (a2 : Nat) (a3 : Bool) : Frame [.regs, .arb] s0 (State.stray s0 a1 a2 a3) := by
  unfold State.stray
  repeat' first
    | with_reducible assumption
    | intro _
    | (extract_lets -merge +onlyGivenNames x; refine (have hx : Frame [.regs, .arb] s0 x := ?_; ?_); rotate_left; clear_value x; rotate_left; subst x)
    | (extract_lets -merge +onlyGivenNames x; clear_value x)
    | with_reducible exact Frame.refl _ _
    | with_reducible apply Frame.ite
    | with_reducible apply Frame.foldl
    | with_reducible apply Frame.via (State.setF_frame _ _ _ _ _) (by decide)
    | with_reducible apply Frame.via (State.setBit_frame _ _ _ _) (by decide)
    | with_reducible apply Frame.via (State.setLogged_frame _ _ _ _ _) (by decide)
    | with_reducible apply Frame.via (State.incF_frame _ _ _ _ _) (by decide)
    | split

theorem execBoardWindowAccess_frame (s0 : State) (a0 : Fin 12) (a1 : BitVec 48) (a2 : Nat) (a3 : Option (List Byte)) : Completes (execBoardWindowAccess a0 a1 a2 a3 s0) (Frame [.regs, .mem, .press, .unison, .arb, .front] s0) := by
  unfold execBoardWindowAccess
  refine ⟨_, rfl, ?_⟩
  repeat' first
    | with_reducible assumption
    | intro _
    | (extract_lets -merge +onlyGivenNames x; refine (have hx : Frame [.regs, .mem, .press, .unison, .arb, .front] s0 x := ?_; ?_); rotate_left; clear_value x; rotate_left; subst x)
    | (extract_lets -merge +onlyGivenNames x; clear_value x)
    | with_reducible exact Frame.refl _ _
    | with_reducible apply Frame.ite
    | with_reducible apply Frame.foldl
    | with_reducible apply Frame.via (State.agentWrite_frame _ _ _ _ _ _) (by decide)
    | with_reducible apply Frame.via (State.answered_frame _ _ _) (by decide)
    | with_reducible apply Frame.via (State.stray_frame _ _ _ _) (by decide)
    | with_reducible refine Frame.via (Frame.of_eq1 (State.agentWrite_frame _ _ _ _ _ _) (by assumption)) (by decide) ?_
    | split

theorem State.addStalls_frame (s0 : State) (a1 : Nat) (a2 : Nat) (a3 : Stalls) : Frame [.regs] s0 (State.addStalls s0 a1 a2 a3) := by
  unfold State.addStalls
  repeat' first
    | with_reducible assumption
    | intro _
    | (extract_lets -merge +onlyGivenNames x; refine (have hx : Frame [.regs] s0 x := ?_; ?_); rotate_left; clear_value x; rotate_left; subst x)
    | (extract_lets -merge +onlyGivenNames x; clear_value x)
    | with_reducible exact Frame.refl _ _
    | with_reducible apply Frame.ite
    | with_reducible apply Frame.foldl
    | with_reducible apply Frame.via (State.incF_frame _ _ _ _ _) (by decide)
    | split

theorem State.partRow_frame {l : List Part} (s0 s : State) (p k : Nat) (w : Stalls) (is_ : PInstr → Bool)
    (act : State → Nat → PWord → State) (hl : [Part.regs].all (fun p => l.contains p) = true) (h : Frame l s0 s)
    (hb : ∀ t i pw, Frame l s0 t → Frame l s0 (act t i pw)) : Frame l s0 (s.partRow p k w is_ act) := by
  unfold State.partRow
  refine Frame.ite (fun _ => ?_) (fun _ => h)
  split
  · exact Frame.ite (fun _ => hb _ _ _ (Frame.via (State.addStalls_frame _ _ _ _) hl h)) (fun _ => h)
  · exact h

theorem State.waitAt_frame (s0 : State) (a1 : Nat) (a2 : Nat) (a3 : Nat) (a4 : SecWait) : Frame [.sects] s0 (State.waitAt s0 a1 a2 a3 a4) := by
  unfold State.waitAt
  repeat' first
    | with_reducible assumption
    | intro _
    | (extract_lets -merge +onlyGivenNames x; refine (have hx : Frame [.sects] s0 x := ?_; ?_); rotate_left; clear_value x; rotate_left; subst x)
    | (extract_lets -merge +onlyGivenNames x; clear_value x)
    | with_reducible exact Frame.refl _ _
    | with_reducible apply Frame.ite
    | with_reducible apply Frame.foldl
    | with_reducible apply Frame.via (State.setSect_frame _ _ _ _) (by decide)
    | split

theorem execCadence_frame (s0 : State) (a0 : Fin 256) (a1 : Fin 4) (a2 : Stalls) : Completes (execCadence a0 a1 a2 s0) (Frame [.regs, .sects, .queues, .ports] s0) := by
  unfold execCadence
  refine ⟨_, rfl, ?_⟩
  repeat' first
    | with_reducible assumption
    | intro _
    | (extract_lets -merge +onlyGivenNames x; refine (have hx : Frame [.regs, .sects, .queues, .ports] s0 x := ?_; ?_); rotate_left; clear_value x; rotate_left; subst x)
    | (extract_lets -merge +onlyGivenNames x; clear_value x)
    | with_reducible exact Frame.refl _ _
    | with_reducible apply Frame.ite
    | with_reducible apply Frame.foldl
    | with_reducible apply Frame.via (State.incF_frame _ _ _ _ _) (by decide)
    | with_reducible apply Frame.via (State.setSect_frame _ _ _ _) (by decide)
    | with_reducible apply Frame.via (State.beginScan_frame _ _ _) (by decide)
    | with_reducible refine State.partRow_frame _ _ _ _ _ _ _ (by decide) ?_ (fun _ _ _ _ => ?_)
    | with_reducible apply Frame.via (State.waitAt_frame _ _ _ _ _) (by decide)
    | split

theorem execCadenceCommand_frame (s0 : State) (a0 : Cmd) : Completes (execCadenceCommand a0 s0) (Frame [.regs, .mem, .queues, .ports, .front] s0) := by
  unfold execCadenceCommand
  refine ⟨_, rfl, ?_⟩
  repeat' first
    | with_reducible assumption
    | intro _
    | (extract_lets -merge +onlyGivenNames x; refine (have hx : Frame [.regs, .mem, .queues, .ports, .front] s0 x := ?_; ?_); rotate_left; clear_value x; rotate_left; subst x)
    | (extract_lets -merge +onlyGivenNames x; clear_value x)
    | with_reducible exact Frame.refl _ _
    | with_reducible apply Frame.ite
    | with_reducible apply Frame.foldl
    | with_reducible apply Frame.via (State.complete_frame _ _ _ _) (by decide)
    | with_reducible refine State.runCmd_frame _ _ _ _ _ (by decide) ?_ (fun _ => ?_)
    | with_reducible apply Frame.via (State.wait_frame _ _ _) (by decide)
    | with_reducible apply Frame.via (State.startCadence_frame _ _) (by decide)
    | split

theorem execFenceDone_frame (s0 : State) (a0 : Fin 8) : Completes (execFenceDone a0 s0) (Frame [.regs, .mem, .sects, .ports, .front] s0) := by
  unfold execFenceDone
  refine ⟨_, rfl, ?_⟩
  repeat' first
    | with_reducible assumption
    | intro _
    | (extract_lets -merge +onlyGivenNames x; refine (have hx : Frame [.regs, .mem, .sects, .ports, .front] s0 x := ?_; ?_); rotate_left; clear_value x; rotate_left; subst x)
    | (extract_lets -merge +onlyGivenNames x; clear_value x)
    | with_reducible exact Frame.refl _ _
    | with_reducible apply Frame.ite
    | with_reducible apply Frame.foldl
    | with_reducible apply Frame.via (State.scanDone_frame _ _ _) (by decide)
    | split

theorem execHbmRefresh_frame (s0 : State) (a0 : Fin 8) (a1 : Bool) : Completes (execHbmRefresh a0 a1 s0) (Frame [.regs] s0) := by
  unfold execHbmRefresh
  refine ⟨_, rfl, ?_⟩
  repeat' first
    | with_reducible assumption
    | intro _
    | (extract_lets -merge +onlyGivenNames x; refine (have hx : Frame [.regs] s0 x := ?_; ?_); rotate_left; clear_value x; rotate_left; subst x)
    | (extract_lets -merge +onlyGivenNames x; clear_value x)
    | with_reducible exact Frame.refl _ _
    | with_reducible apply Frame.ite
    | with_reducible apply Frame.foldl
    | with_reducible apply Frame.via (State.setF_frame _ _ _ _ _) (by decide)
    | split

theorem State.holdLoad_frame (s0 : State) (a1 : Nat) (a2 : Nat) (a3 : QReq) : Frame [.regs, .queues] s0 (State.holdLoad s0 a1 a2 a3) := by
  unfold State.holdLoad
  repeat' first
    | with_reducible assumption
    | intro _
    | (extract_lets -merge +onlyGivenNames x; refine (have hx : Frame [.regs, .queues] s0 x := ?_; ?_); rotate_left; clear_value x; rotate_left; subst x)
    | (extract_lets -merge +onlyGivenNames x; clear_value x)
    | with_reducible exact Frame.refl _ _
    | with_reducible apply Frame.ite
    | with_reducible apply Frame.foldl
    | with_reducible apply Frame.via (State.setF_frame _ _ _ _ _) (by decide)
    | with_reducible apply Frame.via (State.mapQueue_frame _ _ _ _ _) (by decide)
    | split

theorem State.evict_frame (s0 : State) (a1 : Nat) (a2 : Option Nat) : Frame [.ports] s0 (State.evict s0 a1 a2) := by
  unfold State.evict
  repeat' first
    | with_reducible assumption
    | intro _
    | (extract_lets -merge +onlyGivenNames x; refine (have hx : Frame [.ports] s0 x := ?_; ?_); rotate_left; clear_value x; rotate_left; subst x)
    | (extract_lets -merge +onlyGivenNames x; clear_value x)
    | with_reducible exact Frame.refl _ _
    | with_reducible apply Frame.ite
    | with_reducible apply Frame.foldl
    | with_reducible apply Frame.via (State.setPort_frame _ _ _) (by decide)
    | split

theorem State.fillArrives_frame (s0 : State) (a1 : Nat) (a2 : Nat) (a3 : QReq) (a4 : Ecc) (a5 : Option Nat) : Frame [.regs, .mem, .queues, .ports, .unison, .arb] s0 (State.fillArrives s0 a1 a2 a3 a4 a5) := by
  unfold State.fillArrives
  repeat' first
    | with_reducible assumption
    | intro _
    | (extract_lets -merge +onlyGivenNames x; refine (have hx : Frame [.regs, .mem, .queues, .ports, .unison, .arb] s0 x := ?_; ?_); rotate_left; clear_value x; rotate_left; subst x)
    | (extract_lets -merge +onlyGivenNames x; clear_value x)
    | with_reducible exact Frame.refl _ _
    | with_reducible apply Frame.ite
    | with_reducible apply Frame.foldl
    | with_reducible apply Frame.via (State.setPort_frame _ _ _) (by decide)
    | with_reducible apply Frame.via (State.mapQueue_frame _ _ _ _ _) (by decide)
    | with_reducible apply Frame.via (State.logItem_frame _ _) (by decide)
    | with_reducible apply Frame.via (State.eccSeen_frame _ _ _) (by decide)
    | with_reducible apply Frame.via (State.landQueue_frame _ _ _) (by decide)
    | with_reducible apply Frame.via (State.holdLoad_frame _ _ _ _) (by decide)
    | with_reducible apply Frame.via (State.evict_frame _ _ _) (by decide)
    | split

theorem execLoadFillArrive_frame (s0 : State) (a0 : Fin 256) (a1 : Fin 4) (a2 : Nat) (a3 : Ecc) (a4 : Option Nat) : Completes (execLoadFillArrive a0 a1 a2 a3 a4 s0) (Frame [.regs, .mem, .queues, .ports, .unison, .arb] s0) := by
  unfold execLoadFillArrive
  refine ⟨_, rfl, ?_⟩
  repeat' first
    | with_reducible assumption
    | intro _
    | (extract_lets -merge +onlyGivenNames x; refine (have hx : Frame [.regs, .mem, .queues, .ports, .unison, .arb] s0 x := ?_; ?_); rotate_left; clear_value x; rotate_left; subst x)
    | (extract_lets -merge +onlyGivenNames x; clear_value x)
    | with_reducible exact Frame.refl _ _
    | with_reducible apply Frame.ite
    | with_reducible apply Frame.foldl
    | with_reducible apply Frame.via (State.incF_frame _ _ _ _ _) (by decide)
    | with_reducible apply Frame.via (State.setPort_frame _ _ _) (by decide)
    | with_reducible apply Frame.via (State.fillArrives_frame _ _ _ _ _ _) (by decide)
    | split

theorem execMemQctlCntClr_frame (s0 : State) (a0 : Fin 256) : Completes (execMemQctlCntClr a0 s0) (Frame [.regs] s0) := by
  unfold execMemQctlCntClr
  refine ⟨_, rfl, ?_⟩
  repeat' first
    | with_reducible assumption
    | intro _
    | (extract_lets -merge +onlyGivenNames x; refine (have hx : Frame [.regs] s0 x := ?_; ?_); rotate_left; clear_value x; rotate_left; subst x)
    | (extract_lets -merge +onlyGivenNames x; clear_value x)
    | with_reducible exact Frame.refl _ _
    | with_reducible apply Frame.ite
    | with_reducible apply Frame.foldl
    | with_reducible apply Frame.via (State.clrQueueCounts_frame _ _) (by decide)
    | with_reducible apply Frame.via (State.goneAccess_frame _ _ _ _) (by decide)
    | split

theorem execMemRequestRetry_frame (s0 : State) (a0 : Fin 8) : Completes (execMemRequestRetry a0 s0) (Frame [.regs, .queues] s0) := by
  unfold execMemRequestRetry
  refine ⟨_, rfl, ?_⟩
  repeat' first
    | with_reducible assumption
    | intro _
    | (extract_lets -merge +onlyGivenNames x; refine (have hx : Frame [.regs, .queues] s0 x := ?_; ?_); rotate_left; clear_value x; rotate_left; subst x)
    | (extract_lets -merge +onlyGivenNames x; clear_value x)
    | with_reducible exact Frame.refl _ _
    | with_reducible apply Frame.ite
    | with_reducible apply Frame.foldl
    | with_reducible apply Frame.via (State.setBit_frame _ _ _ _) (by decide)
    | with_reducible apply Frame.via (State.mapQueue_frame _ _ _ _ _) (by decide)
    | split

theorem execMemWaitTimeout_frame (s0 : State) (a0 : Fin 8) (a1 : Fin 8) : Completes (execMemWaitTimeout a0 a1 s0) (Frame [.regs] s0) := by
  unfold execMemWaitTimeout
  refine ⟨_, rfl, ?_⟩
  repeat' first
    | with_reducible assumption
    | intro _
    | (extract_lets -merge +onlyGivenNames x; refine (have hx : Frame [.regs] s0 x := ?_; ?_); rotate_left; clear_value x; rotate_left; subst x)
    | (extract_lets -merge +onlyGivenNames x; clear_value x)
    | with_reducible exact Frame.refl _ _
    | with_reducible apply Frame.ite
    | with_reducible apply Frame.foldl
    | with_reducible apply Frame.via (State.setF_frame _ _ _ _ _) (by decide)
    | with_reducible apply Frame.via (State.setBit_frame _ _ _ _) (by decide)
    | split

theorem execRinse_frame (s0 : State) (a0 : Fin 256) (a1 : Fin 4) (a2 : Stalls) : Completes (execRinse a0 a1 a2 s0) (Frame [.regs, .sects, .queues, .ports, .arb] s0) := by
  unfold execRinse
  refine ⟨_, rfl, ?_⟩
  repeat' first
    | with_reducible assumption
    | intro _
    | (extract_lets -merge +onlyGivenNames x; refine (have hx : Frame [.regs, .sects, .queues, .ports, .arb] s0 x := ?_; ?_); rotate_left; clear_value x; rotate_left; subst x)
    | (extract_lets -merge +onlyGivenNames x; clear_value x)
    | with_reducible exact Frame.refl _ _
    | with_reducible apply Frame.ite
    | with_reducible apply Frame.foldl
    | with_reducible apply Frame.via (State.beginScan_frame _ _ _) (by decide)
    | with_reducible apply Frame.via (State.stray_frame _ _ _ _) (by decide)
    | with_reducible refine State.partRow_frame _ _ _ _ _ _ _ (by decide) ?_ (fun _ _ _ _ => ?_)
    | with_reducible apply Frame.via (State.waitAt_frame _ _ _ _ _) (by decide)
    | split

theorem execRinseDone_frame (s0 : State) (a0 : Fin 8) : Completes (execRinseDone a0 s0) (Frame [.regs, .mem, .sects, .ports, .front] s0) := by
  unfold execRinseDone
  refine ⟨_, rfl, ?_⟩
  repeat' first
    | with_reducible assumption
    | intro _
    | (extract_lets -merge +onlyGivenNames x; refine (have hx : Frame [.regs, .mem, .sects, .ports, .front] s0 x := ?_; ?_); rotate_left; clear_value x; rotate_left; subst x)
    | (extract_lets -merge +onlyGivenNames x; clear_value x)
    | with_reducible exact Frame.refl _ _
    | with_reducible apply Frame.ite
    | with_reducible apply Frame.foldl
    | with_reducible apply Frame.via (State.scanDone_frame _ _ _) (by decide)
    | split

theorem execRinseRange_frame (s0 : State) (a0 : Cmd) : Completes (execRinseRange a0 s0) (Frame [.regs, .mem, .queues, .ports, .front] s0) := by
  unfold execRinseRange
  refine ⟨_, rfl, ?_⟩
  repeat' first
    | with_reducible assumption
    | intro _
    | (extract_lets -merge +onlyGivenNames x; refine (have hx : Frame [.regs, .mem, .queues, .ports, .front] s0 x := ?_; ?_); rotate_left; clear_value x; rotate_left; subst x)
    | (extract_lets -merge +onlyGivenNames x; clear_value x)
    | with_reducible exact Frame.refl _ _
    | with_reducible apply Frame.ite
    | with_reducible apply Frame.foldl
    | with_reducible apply Frame.via (State.complete_frame _ _ _ _) (by decide)
    | with_reducible refine State.runCmd_frame _ _ _ _ _ (by decide) ?_ (fun _ => ?_)
    | with_reducible apply Frame.via (State.wait_frame _ _ _) (by decide)
    | with_reducible apply Frame.via (State.finishScans_frame _ _) (by decide)
    | with_reducible apply Frame.via (State.beginScan_frame _ _ _) (by decide)
    | split

theorem execScrubRead_frame (s0 : State) (a0 : Fin 8) (a1 : Nat) (a2 : Ecc) : Completes (execScrubRead a0 a1 a2 s0) (Frame [.regs, .ports, .arb] s0) := by
  unfold execScrubRead
  refine ⟨_, rfl, ?_⟩
  repeat' first
    | with_reducible assumption
    | intro _
    | (extract_lets -merge +onlyGivenNames x; refine (have hx : Frame [.regs, .ports, .arb] s0 x := ?_; ?_); rotate_left; clear_value x; rotate_left; subst x)
    | (extract_lets -merge +onlyGivenNames x; clear_value x)
    | with_reducible exact Frame.refl _ _
    | with_reducible apply Frame.ite
    | with_reducible apply Frame.foldl
    | with_reducible apply Frame.via (State.eccSeen_frame _ _ _) (by decide)
    | split

theorem execStoreAccept_frame (s0 : State) (a0 : Fin 256) (a1 : Fin 2) : Completes (execStoreAccept a0 a1 s0) (Frame [.mem, .queues, .ports] s0) := by
  unfold execStoreAccept
  refine ⟨_, rfl, ?_⟩
  repeat' first
    | with_reducible assumption
    | intro _
    | (extract_lets -merge +onlyGivenNames x; refine (have hx : Frame [.mem, .queues, .ports] s0 x := ?_; ?_); rotate_left; clear_value x; rotate_left; subst x)
    | (extract_lets -merge +onlyGivenNames x; clear_value x)
    | with_reducible exact Frame.refl _ _
    | with_reducible apply Frame.ite
    | with_reducible apply Frame.foldl
    | with_reducible apply Frame.via (State.setPort_frame _ _ _) (by decide)
    | with_reducible apply Frame.via (State.mapQueue_frame _ _ _ _ _) (by decide)
    | with_reducible apply Frame.via (State.landFills_frame _ _) (by decide)
    | split

theorem execUeRetry_frame (s0 : State) (a0 : Fin 8) : Completes (execUeRetry a0 s0) (Frame [.regs, .queues] s0) := by
  unfold execUeRetry
  refine ⟨_, rfl, ?_⟩
  repeat' first
    | with_reducible assumption
    | intro _
    | (extract_lets -merge +onlyGivenNames x; refine (have hx : Frame [.regs, .queues] s0 x := ?_; ?_); rotate_left; clear_value x; rotate_left; subst x)
    | (extract_lets -merge +onlyGivenNames x; clear_value x)
    | with_reducible exact Frame.refl _ _
    | with_reducible apply Frame.ite
    | with_reducible apply Frame.foldl
    | with_reducible apply Frame.via (State.retryHeld_frame _ _) (by decide)
    | with_reducible apply Frame.via (State.goneAccess_frame _ _ _ _) (by decide)
    | split

theorem State.ackWb_frame (s0 : State) (a1 : Nat) (a2 : Nat) : Frame [.mem, .ports] s0 (State.ackWb s0 a1 a2) := by
  unfold State.ackWb
  repeat' first
    | with_reducible assumption
    | intro _
    | (extract_lets -merge +onlyGivenNames x; refine (have hx : Frame [.mem, .ports] s0 x := ?_; ?_); rotate_left; clear_value x; rotate_left; subst x)
    | (extract_lets -merge +onlyGivenNames x; clear_value x)
    | with_reducible exact Frame.refl _ _
    | with_reducible apply Frame.ite
    | with_reducible apply Frame.foldl
    | with_reducible apply Frame.via (State.setPort_frame _ _ _) (by decide)
    | with_reducible apply Frame.via (State.writeMem_frame _ _ _) (by decide)
    | split

theorem execWritebackAck_frame (s0 : State) (a0 : Fin 8) (a1 : BitVec 29) : Completes (execWritebackAck a0 a1 s0) (Frame [.mem, .ports] s0) := by
  unfold execWritebackAck
  refine ⟨_, rfl, ?_⟩
  repeat' first
    | with_reducible assumption
    | intro _
    | (extract_lets -merge +onlyGivenNames x; refine (have hx : Frame [.mem, .ports] s0 x := ?_; ?_); rotate_left; clear_value x; rotate_left; subst x)
    | (extract_lets -merge +onlyGivenNames x; clear_value x)
    | with_reducible exact Frame.refl _ _
    | with_reducible apply Frame.ite
    | with_reducible apply Frame.foldl
    | with_reducible apply Frame.via (State.ackWb_frame _ _ _) (by decide)
    | split

theorem execWritebackStart_frame (s0 : State) (a0 : Fin 8) : Completes (execWritebackStart a0 s0) (Frame [.ports] s0) := by
  unfold execWritebackStart
  refine ⟨_, rfl, ?_⟩
  repeat' first
    | with_reducible assumption
    | intro _
    | (extract_lets -merge +onlyGivenNames x; refine (have hx : Frame [.ports] s0 x := ?_; ?_); rotate_left; clear_value x; rotate_left; subst x)
    | (extract_lets -merge +onlyGivenNames x; clear_value x)
    | with_reducible exact Frame.refl _ _
    | with_reducible apply Frame.ite
    | with_reducible apply Frame.foldl
    | with_reducible apply Frame.via (State.setPort_frame _ _ _) (by decide)
    | split

theorem State.fenceNow_frame (s0 : State) (a1 : Nat) : Frame [.mem, .ports] s0 (State.fenceNow s0 a1) := by
  unfold State.fenceNow
  repeat' first
    | with_reducible assumption
    | intro _
    | (extract_lets -merge +onlyGivenNames x; refine (have hx : Frame [.mem, .ports] s0 x := ?_; ?_); rotate_left; clear_value x; rotate_left; subst x)
    | (extract_lets -merge +onlyGivenNames x; clear_value x)
    | with_reducible exact Frame.refl _ _
    | with_reducible apply Frame.ite
    | with_reducible apply Frame.foldl
    | with_reducible apply Frame.via (State.setPort_frame _ _ _) (by decide)
    | with_reducible apply Frame.via (State.writeMem_frame _ _ _) (by decide)
    | split

theorem State.readPeak_frame (s0 : State) (a1 : Nat) : Frame [.regs, .front] s0 (State.readPeak s0 a1) := by
  unfold State.readPeak
  repeat' first
    | with_reducible assumption
    | intro _
    | (extract_lets -merge +onlyGivenNames x; refine (have hx : Frame [.regs, .front] s0 x := ?_; ?_); rotate_left; clear_value x; rotate_left; subst x)
    | (extract_lets -merge +onlyGivenNames x; clear_value x)
    | with_reducible exact Frame.refl _ _
    | with_reducible apply Frame.ite
    | with_reducible apply Frame.foldl
    | with_reducible apply Frame.via (State.clrReg_frame _ _ _) (by decide)
    | split
    | with_reducible apply Frame.set_front _ (by decide)

theorem execNoticeUpdate_frame (s0 : State) (a0 : Fin 128) (a1 : Nat) (a2 : Nat) : Completes (execNoticeUpdate a0 a1 a2 s0) (Frame [.regs, .eth, .arb, .icu] s0) := by
  unfold execNoticeUpdate
  refine ⟨_, rfl, ?_⟩
  repeat' first
    | with_reducible assumption
    | intro _
    | (extract_lets -merge +onlyGivenNames x; refine (have hx : Frame [.regs, .eth, .arb, .icu] s0 x := ?_; ?_); rotate_left; clear_value x; rotate_left; subst x)
    | (extract_lets -merge +onlyGivenNames x; clear_value x)
    | with_reducible exact Frame.refl _ _
    | with_reducible apply Frame.ite
    | with_reducible apply Frame.foldl
    | with_reducible apply Frame.via (State.noticeUpdate_frame _ _ _ _ _) (by decide)
    | split

theorem execNtcLevelWrite_frame (s0 : State) (a0 : Fin 128) (a1 : BitVec 32) : Completes (execNtcLevelWrite a0 a1 s0) (Frame [.regs, .eth, .arb, .icu] s0) := by
  unfold execNtcLevelWrite
  refine ⟨_, rfl, ?_⟩
  repeat' first
    | with_reducible assumption
    | intro _
    | (extract_lets -merge +onlyGivenNames x; refine (have hx : Frame [.regs, .eth, .arb, .icu] s0 x := ?_; ?_); rotate_left; clear_value x; rotate_left; subst x)
    | (extract_lets -merge +onlyGivenNames x; clear_value x)
    | with_reducible exact Frame.refl _ _
    | with_reducible apply Frame.ite
    | with_reducible apply Frame.foldl
    | with_reducible apply Frame.via (State.writeLevel_frame _ _ _) (by decide)
    | split

theorem execNtcMarksWrite_frame (s0 : State) (a0 : Fin 128) (a1 : Fin 3) (a2 : Word) : Completes (execNtcMarksWrite a0 a1 a2 s0) (Frame [.regs, .eth, .arb, .icu] s0) := by
  unfold execNtcMarksWrite
  refine ⟨_, rfl, ?_⟩
  repeat' first
    | with_reducible assumption
    | intro _
    | (extract_lets -merge +onlyGivenNames x; refine (have hx : Frame [.regs, .eth, .arb, .icu] s0 x := ?_; ?_); rotate_left; clear_value x; rotate_left; subst x)
    | (extract_lets -merge +onlyGivenNames x; clear_value x)
    | with_reducible exact Frame.refl _ _
    | with_reducible apply Frame.ite
    | with_reducible apply Frame.foldl
    | with_reducible apply Frame.via (State.writeMarks_frame _ _ _ _) (by decide)
    | split

theorem execNtcPeakRead_frame (s0 : State) (a0 : Fin 128) : Completes (execNtcPeakRead a0 s0) (Frame [.regs, .front] s0) := by
  unfold execNtcPeakRead
  refine ⟨_, rfl, ?_⟩
  repeat' first
    | with_reducible assumption
    | intro _
    | (extract_lets -merge +onlyGivenNames x; refine (have hx : Frame [.regs, .front] s0 x := ?_; ?_); rotate_left; clear_value x; rotate_left; subst x)
    | (extract_lets -merge +onlyGivenNames x; clear_value x)
    | with_reducible exact Frame.refl _ _
    | with_reducible apply Frame.ite
    | with_reducible apply Frame.foldl
    | with_reducible apply Frame.via (State.readPeak_frame _ _) (by decide)
    | split
    | with_reducible apply Frame.set_front _ (by decide)

theorem execUpClr_frame (s0 : State) (a0 : Fin 128) : Completes (execUpClr a0 s0) (Frame [.regs] s0) := by
  unfold execUpClr
  refine ⟨_, rfl, ?_⟩
  repeat' first
    | with_reducible assumption
    | intro _
    | (extract_lets -merge +onlyGivenNames x; refine (have hx : Frame [.regs] s0 x := ?_; ?_); rotate_left; clear_value x; rotate_left; subst x)
    | (extract_lets -merge +onlyGivenNames x; clear_value x)
    | with_reducible exact Frame.refl _ _
    | with_reducible apply Frame.ite
    | with_reducible apply Frame.foldl
    | with_reducible apply Frame.via (State.clrUpcount_frame _ _) (by decide)
    | split

theorem State.tempoEdge_frame (s0 : State) : Frame [.icu] s0 (State.tempoEdge s0) := by
  unfold State.tempoEdge
  repeat' first
    | with_reducible assumption
    | intro _
    | (extract_lets -merge +onlyGivenNames x; refine (have hx : Frame [.icu] s0 x := ?_; ?_); rotate_left; clear_value x; rotate_left; subst x)
    | (extract_lets -merge +onlyGivenNames x; clear_value x)
    | with_reducible exact Frame.refl _ _
    | with_reducible apply Frame.ite
    | with_reducible apply Frame.foldl
    | with_reducible apply Frame.via (State.edge_frame _ _) (by decide)
    | split

theorem State.answerUnit_frame (s0 : State) (a1 : Nat) (a2 : Nat) (a3 : Nat) : Frame [.regs, .mem, .front] s0 (State.answerUnit s0 a1 a2 a3) := by
  unfold State.answerUnit
  repeat' first
    | with_reducible assumption
    | intro _
    | (extract_lets -merge +onlyGivenNames x; refine (have hx : Frame [.regs, .mem, .front] s0 x := ?_; ?_); rotate_left; clear_value x; rotate_left; subst x)
    | (extract_lets -merge +onlyGivenNames x; clear_value x)
    | with_reducible exact Frame.refl _ _
    | with_reducible apply Frame.ite
    | with_reducible apply Frame.foldl
    | with_reducible apply Frame.via (State.completeAll_frame _ _ _ _) (by decide)
    | split

theorem State.setJob_frame (s0 : State) (a1 : Nat) (a2 : Option Nat) : Frame [.pwr] s0 (State.setJob s0 a1 a2) := by
  unfold State.setJob
  repeat' first
    | with_reducible assumption
    | intro _
    | (extract_lets -merge +onlyGivenNames x; refine (have hx : Frame [.pwr] s0 x := ?_; ?_); rotate_left; clear_value x; rotate_left; subst x)
    | (extract_lets -merge +onlyGivenNames x; clear_value x)
    | with_reducible exact Frame.refl _ _
    | with_reducible apply Frame.ite
    | with_reducible apply Frame.foldl
    | split
    | with_reducible apply Frame.set_pwr _ (by decide)

theorem State.finishUnit_frame (s0 : State) (a1 : Nat) (a2 : Nat) : Frame [.regs, .mem, .arb, .front, .pwr] s0 (State.finishUnit s0 a1 a2) := by
  unfold State.finishUnit
  repeat' first
    | with_reducible assumption
    | intro _
    | (extract_lets -merge +onlyGivenNames x; refine (have hx : Frame [.regs, .mem, .arb, .front, .pwr] s0 x := ?_; ?_); rotate_left; clear_value x; rotate_left; subst x)
    | (extract_lets -merge +onlyGivenNames x; clear_value x)
    | with_reducible exact Frame.refl _ _
    | with_reducible apply Frame.ite
    | with_reducible apply Frame.foldl
    | with_reducible apply Frame.via (State.setLogged_frame _ _ _ _ _) (by decide)
    | with_reducible apply Frame.via (State.answerUnit_frame _ _ _ _) (by decide)
    | with_reducible apply Frame.via (State.setJob_frame _ _ _) (by decide)
    | split
    | with_reducible apply Frame.set_pwr _ (by decide)

theorem State.c0Serves_frame (s0 : State) (a1 : Nat) : Frame [.regs, .mem, .arb, .icu, .front, .sm, .fw, .pwr] s0 (State.c0Serves s0 a1) := by
  unfold State.c0Serves
  repeat' first
    | with_reducible assumption
    | intro _
    | (extract_lets -merge +onlyGivenNames x; refine (have hx : Frame [.regs, .mem, .arb, .icu, .front, .sm, .fw, .pwr] s0 x := ?_; ?_); rotate_left; clear_value x; rotate_left; subst x)
    | (extract_lets -merge +onlyGivenNames x; clear_value x)
    | with_reducible exact Frame.refl _ _
    | with_reducible apply Frame.ite
    | with_reducible apply Frame.foldl
    | with_reducible apply Frame.via (State.setF_frame _ _ _ _ _) (by decide)
    | with_reducible apply Frame.via (State.stepWash_frame _ _) (by decide)
    | with_reducible apply Frame.via (State.loadStaged_frame _) (by decide)
    | with_reducible apply Frame.via (State.endActivation_frame _ _ _ _) (by decide)
    | with_reducible apply Frame.via (State.finishUnit_frame _ _ _) (by decide)
    | split
    | with_reducible apply Frame.set_fw _ (by decide)

theorem State.clearSections_frame (s0 : State) (a1 : Nat) : Frame [.regs, .sects] s0 (State.clearSections s0 a1) := by
  unfold State.clearSections
  repeat' first
    | with_reducible assumption
    | intro _
    | (extract_lets -merge +onlyGivenNames x; refine (have hx : Frame [.regs, .sects] s0 x := ?_; ?_); rotate_left; clear_value x; rotate_left; subst x)
    | (extract_lets -merge +onlyGivenNames x; clear_value x)
    | with_reducible exact Frame.refl _ _
    | with_reducible apply Frame.ite
    | with_reducible apply Frame.foldl
    | with_reducible apply Frame.via (State.setF_frame _ _ _ _ _) (by decide)
    | with_reducible apply Frame.via (State.setSect_frame _ _ _ _) (by decide)
    | split

theorem State.clrBits_frame (s0 : State) (a1 : Reg) (a2 : List Nat) (a3 : Nat) : Frame [.regs] s0 (State.clrBits s0 a1 a2 a3) := by
  unfold State.clrBits
  repeat' first
    | with_reducible assumption
    | intro _
    | (extract_lets -merge +onlyGivenNames x; refine (have hx : Frame [.regs] s0 x := ?_; ?_); rotate_left; clear_value x; rotate_left; subst x)
    | (extract_lets -merge +onlyGivenNames x; clear_value x)
    | with_reducible exact Frame.refl _ _
    | with_reducible apply Frame.ite
    | with_reducible apply Frame.foldl
    | with_reducible apply Frame.via (State.setReg_frame _ _ _ _) (by decide)
    | split

theorem State.dieServes_frame (s0 : State) (a1 : Nat) (a2 : Nat) : Frame [.regs, .mem, .sects, .eth, .arb, .front, .pwr] s0 (State.dieServes s0 a1 a2) := by
  unfold State.dieServes
  repeat' first
    | with_reducible assumption
    | intro _
    | (extract_lets -merge +onlyGivenNames x; refine (have hx : Frame [.regs, .mem, .sects, .eth, .arb, .front, .pwr] s0 x := ?_; ?_); rotate_left; clear_value x; rotate_left; subst x)
    | (extract_lets -merge +onlyGivenNames x; clear_value x)
    | with_reducible exact Frame.refl _ _
    | with_reducible apply Frame.ite
    | with_reducible apply Frame.foldl
    | with_reducible apply Frame.via (State.setF_frame _ _ _ _ _) (by decide)
    | with_reducible apply Frame.via (State.stepWash_frame _ _) (by decide)
    | with_reducible apply Frame.via (State.finishUnit_frame _ _ _) (by decide)
    | with_reducible apply Frame.via (State.clearSections_frame _ _) (by decide)
    | with_reducible apply Frame.via (State.clrBits_frame _ _ _ _) (by decide)
    | split
    | with_reducible apply Frame.set_pwr _ (by decide)
    | with_reducible apply Frame.set_eth _ (by decide)

theorem State.foldPort_frame (s0 : State) (a1 : Nat) : Frame [.regs, .mem, .ports, .front] s0 (State.foldPort s0 a1) := by
  unfold State.foldPort
  repeat' first
    | with_reducible assumption
    | intro _
    | (extract_lets -merge +onlyGivenNames x; refine (have hx : Frame [.regs, .mem, .ports, .front] s0 x := ?_; ?_); rotate_left; clear_value x; rotate_left; subst x)
    | (extract_lets -merge +onlyGivenNames x; clear_value x)
    | with_reducible exact Frame.refl _ _
    | with_reducible apply Frame.ite
    | with_reducible apply Frame.foldl
    | with_reducible apply Frame.via (State.setF_frame _ _ _ _ _) (by decide)
    | with_reducible apply Frame.via (State.setPort_frame _ _ _) (by decide)
    | with_reducible apply Frame.via (State.finishScans_frame _ _) (by decide)
    | split

theorem State.loseStack_frame (s0 : State) (a1 : Nat) : Frame [.mem] s0 (State.loseStack s0 a1) := by
  unfold State.loseStack
  repeat' first
    | with_reducible assumption
    | intro _
    | (extract_lets -merge +onlyGivenNames x; refine (have hx : Frame [.mem] s0 x := ?_; ?_); rotate_left; clear_value x; rotate_left; subst x)
    | (extract_lets -merge +onlyGivenNames x; clear_value x)
    | with_reducible exact Frame.refl _ _
    | with_reducible apply Frame.ite
    | with_reducible apply Frame.foldl
    | split
    | with_reducible apply Frame.set_mem _ (by decide) (fun h => by first | exact h | exact Memory.wf_putBytes h | exact Memory.wf_putBoard h | exact Memory.wf_replayBoards h | exact Memory.wf_tclear h | rfl)

theorem State.noteEnded_frame (s0 : State) (a1 : Nat) (a2 : Nat) (a3 : Nat) : Frame [.regs, .tempo, .arb] s0 (State.noteEnded s0 a1 a2 a3) := by
  unfold State.noteEnded
  repeat' first
    | with_reducible assumption
    | intro _
    | (extract_lets -merge +onlyGivenNames x; refine (have hx : Frame [.regs, .tempo, .arb] s0 x := ?_; ?_); rotate_left; clear_value x; rotate_left; subst x)
    | (extract_lets -merge +onlyGivenNames x; clear_value x)
    | with_reducible exact Frame.refl _ _
    | with_reducible apply Frame.ite
    | with_reducible apply Frame.foldl
    | with_reducible apply Frame.via (State.setF_frame _ _ _ _ _) (by decide)
    | with_reducible apply Frame.via (State.setLogged_frame _ _ _ _ _) (by decide)
    | with_reducible apply Frame.via (State.incF_frame _ _ _ _ _) (by decide)
    | with_reducible apply Frame.via (State.fermataRequest_frame _) (by decide)
    | split

theorem State.endStreams_frame (s0 : State) (a1 : Desc → Bool) (a2 : Nat) : Frame [.regs, .tempo, .press, .score, .arb] s0 (State.endStreams s0 a1 a2).1 := by
  unfold State.endStreams
  repeat' first
    | with_reducible assumption
    | intro _
    | (extract_lets -merge +onlyGivenNames x; refine (have hx : Frame [.regs, .tempo, .press, .score, .arb] s0 x := ?_; ?_); rotate_left; clear_value x; rotate_left; subst x)
    | (extract_lets -merge +onlyGivenNames x; clear_value x)
    | with_reducible exact Frame.refl _ _
    | with_reducible apply Frame.ite
    | with_reducible apply Frame.foldl
    | with_reducible apply Frame.via (State.endStream_frame _ _ _) (by decide)
    | with_reducible apply Frame.via (State.noteEnded_frame _ _ _ _) (by decide)
    | split

theorem State.endUnitStreams_frame (s0 : State) (a1 : Nat) : Frame [.regs, .tempo, .press, .score, .arb] s0 (State.endUnitStreams s0 a1).1 := by
  unfold State.endUnitStreams
  repeat' first
    | with_reducible assumption
    | intro _
    | (extract_lets -merge +onlyGivenNames x; refine (have hx : Frame [.regs, .tempo, .press, .score, .arb] s0 x := ?_; ?_); rotate_left; clear_value x; rotate_left; subst x)
    | (extract_lets -merge +onlyGivenNames x; clear_value x)
    | with_reducible exact Frame.refl _ _
    | with_reducible apply Frame.ite
    | with_reducible apply Frame.foldl
    | with_reducible apply Frame.via (State.endStreams_frame _ _ _) (by decide)
    | with_reducible refine Frame.via (Frame.of_eq1 (State.endStreams_frame _ _ _) (by assumption)) (by decide) ?_
    | split

theorem State.quiesce_frame (s0 : State) (a1 : Nat) (a2 : Bool) : Frame [.regs, .mem, .tempo, .press, .ports, .score, .arb] s0 (State.quiesce s0 a1 a2).1 := by
  unfold State.quiesce
  repeat' first
    | with_reducible assumption
    | intro _
    | (extract_lets -merge +onlyGivenNames x; refine (have hx : Frame [.regs, .mem, .tempo, .press, .ports, .score, .arb] s0 x := ?_; ?_); rotate_left; clear_value x; rotate_left; subst x)
    | (extract_lets -merge +onlyGivenNames x; clear_value x)
    | with_reducible exact Frame.refl _ _
    | with_reducible apply Frame.ite
    | with_reducible apply Frame.foldl
    | with_reducible apply Frame.via (State.fermataRequest_frame _) (by decide)
    | with_reducible apply Frame.via (State.fenceNow_frame _ _) (by decide)
    | with_reducible apply Frame.via (State.endUnitStreams_frame _ _) (by decide)
    | with_reducible refine Frame.via (Frame.of_eq1 (State.endUnitStreams_frame _ _) (by assumption)) (by decide) ?_
    | split

theorem State.senseStack_frame (s0 : State) (a1 : Nat) (a2 : Nat) : Frame [.regs, .arb, .pwr] s0 (State.senseStack s0 a1 a2) := by
  unfold State.senseStack
  repeat' first
    | with_reducible assumption
    | intro _
    | (extract_lets -merge +onlyGivenNames x; refine (have hx : Frame [.regs, .arb, .pwr] s0 x := ?_; ?_); rotate_left; clear_value x; rotate_left; subst x)
    | (extract_lets -merge +onlyGivenNames x; clear_value x)
    | with_reducible exact Frame.refl _ _
    | with_reducible apply Frame.ite
    | with_reducible apply Frame.foldl
    | with_reducible apply Frame.via (State.throttle_frame _ _) (by decide)
    | split
    | with_reducible apply Frame.set_pwr _ (by decide)

theorem State.senseTemp_frame (s0 : State) (a1 : Nat) (a2 : Nat) : Frame [.regs, .arb] s0 (State.senseTemp s0 a1 a2) := by
  unfold State.senseTemp
  repeat' first
    | with_reducible assumption
    | intro _
    | (extract_lets -merge +onlyGivenNames x; refine (have hx : Frame [.regs, .arb] s0 x := ?_; ?_); rotate_left; clear_value x; rotate_left; subst x)
    | (extract_lets -merge +onlyGivenNames x; clear_value x)
    | with_reducible exact Frame.refl _ _
    | with_reducible apply Frame.ite
    | with_reducible apply Frame.foldl
    | with_reducible apply Frame.via (State.setF_frame _ _ _ _ _) (by decide)
    | with_reducible apply Frame.via (State.peakF_frame _ _ _ _ _) (by decide)
    | with_reducible apply Frame.via (State.throttle_frame _ _) (by decide)
    | split

theorem State.setPstate_frame (s0 : State) (a1 : Nat) (a2 : Nat) : Frame [.regs] s0 (State.setPstate s0 a1 a2) := by
  unfold State.setPstate
  repeat' first
    | with_reducible assumption
    | intro _
    | (extract_lets -merge +onlyGivenNames x; refine (have hx : Frame [.regs] s0 x := ?_; ?_); rotate_left; clear_value x; rotate_left; subst x)
    | (extract_lets -merge +onlyGivenNames x; clear_value x)
    | with_reducible exact Frame.refl _ _
    | with_reducible apply Frame.ite
    | with_reducible apply Frame.foldl
    | with_reducible apply Frame.via (State.setF_frame _ _ _ _ _) (by decide)
    | split

theorem State.takePstate_frame (s0 : State) (a1 : Nat) (a2 : Nat) : Frame [.regs, .pwr, .free] s0 (State.takePstate s0 a1 a2) := by
  unfold State.takePstate
  repeat' first
    | with_reducible assumption
    | intro _
    | (extract_lets -merge +onlyGivenNames x; refine (have hx : Frame [.regs, .pwr, .free] s0 x := ?_; ?_); rotate_left; clear_value x; rotate_left; subst x)
    | (extract_lets -merge +onlyGivenNames x; clear_value x)
    | with_reducible exact Frame.refl _ _
    | with_reducible apply Frame.ite
    | with_reducible apply Frame.foldl
    | with_reducible apply Frame.via (State.newTarget_frame _ _) (by decide)
    | with_reducible apply Frame.via (State.clrBits_frame _ _ _ _) (by decide)
    | with_reducible apply Frame.via (State.setPstate_frame _ _ _) (by decide)
    | split
    | with_reducible apply Frame.set_pwr _ (by decide)

theorem execLinkDiscard_frame (s0 : State) (a0 : Fin 12) : Completes (execLinkDiscard a0 s0) (Frame [.regs, .linkTx, .legacy, .score, .books, .arb, .pwr] s0) := by
  unfold execLinkDiscard
  refine ⟨_, rfl, ?_⟩
  repeat' first
    | with_reducible assumption
    | intro _
    | (extract_lets -merge +onlyGivenNames x; refine (have hx : Frame [.regs, .linkTx, .legacy, .score, .books, .arb, .pwr] s0 x := ?_; ?_); rotate_left; clear_value x; rotate_left; subst x)
    | (extract_lets -merge +onlyGivenNames x; clear_value x)
    | with_reducible exact Frame.refl _ _
    | with_reducible apply Frame.ite
    | with_reducible apply Frame.foldl
    | with_reducible apply Frame.via (State.setLegacy_frame _ _ _) (by decide)
    | with_reducible apply Frame.via (State.resendOver_frame _ _ _) (by decide)
    | with_reducible apply Frame.via (State.linkDiscard_frame _ _) (by decide)
    | with_reducible apply Frame.via (State.unstore_frame _ _) (by decide)
    | with_reducible apply Frame.via (State.exitHead_frame _ _ _ _) (by decide)
    | split
    | with_reducible apply Frame.set_pwr _ (by decide)

theorem execLinkGiveup_frame (s0 : State) (a0 : BitVec 12) (a1 : BitVec 16) : Completes (execLinkGiveup a0 a1 s0) (Frame [.regs, .tempo, .press, .score, .arb] s0) := by
  unfold execLinkGiveup
  refine ⟨_, rfl, ?_⟩
  repeat' first
    | with_reducible assumption
    | intro _
    | (extract_lets -merge +onlyGivenNames x; refine (have hx : Frame [.regs, .tempo, .press, .score, .arb] s0 x := ?_; ?_); rotate_left; clear_value x; rotate_left; subst x)
    | (extract_lets -merge +onlyGivenNames x; clear_value x)
    | with_reducible exact Frame.refl _ _
    | with_reducible apply Frame.ite
    | with_reducible apply Frame.foldl
    | with_reducible apply Frame.via (State.setLogged_frame _ _ _ _ _) (by decide)
    | with_reducible apply Frame.via (State.endStream_frame _ _ _) (by decide)
    | with_reducible apply Frame.via (State.noteEnded_frame _ _ _ _) (by decide)
    | split

theorem State.orReg_frame (s0 : State) (a1 : Reg) (a2 : List Nat) (a3 : Nat) : Frame [.regs] s0 (State.orReg s0 a1 a2 a3) := by
  unfold State.orReg
  repeat' first
    | with_reducible assumption
    | intro _
    | (extract_lets -merge +onlyGivenNames x; refine (have hx : Frame [.regs] s0 x := ?_; ?_); rotate_left; clear_value x; rotate_left; subst x)
    | (extract_lets -merge +onlyGivenNames x; clear_value x)
    | with_reducible exact Frame.refl _ _
    | with_reducible apply Frame.ite
    | with_reducible apply Frame.foldl
    | with_reducible apply Frame.via (State.setReg_frame _ _ _ _) (by decide)
    | split

theorem execPstateSet_frame (s0 : State) (a0 : Cmd) (a1 : BitVec 32) : Completes (execPstateSet a0 a1 s0) (Frame [.regs, .mem, .front, .pwr, .free] s0) := by
  unfold execPstateSet
  refine ⟨_, rfl, ?_⟩
  repeat' first
    | with_reducible assumption
    | intro _
    | (extract_lets -merge +onlyGivenNames x; refine (have hx : Frame [.regs, .mem, .front, .pwr, .free] s0 x := ?_; ?_); rotate_left; clear_value x; rotate_left; subst x)
    | (extract_lets -merge +onlyGivenNames x; clear_value x)
    | with_reducible exact Frame.refl _ _
    | with_reducible apply Frame.ite
    | with_reducible apply Frame.foldl
    | with_reducible apply Frame.via (State.complete_frame _ _ _ _) (by decide)
    | with_reducible refine State.runCmd_frame _ _ _ _ _ (by decide) ?_ (fun _ => ?_)
    | with_reducible apply Frame.via (State.wait_frame _ _ _) (by decide)
    | with_reducible apply Frame.via (State.takePstate_frame _ _ _) (by decide)
    | with_reducible apply Frame.via (State.orReg_frame _ _ _ _) (by decide)
    | split

theorem execRailTargetReached_frame (s0 : State) (a0 : Fin 8) (a1 : BitVec 32) : Completes (execRailTargetReached a0 a1 s0) (Frame [.regs, .mem, .front, .pwr] s0) := by
  unfold execRailTargetReached
  refine ⟨_, rfl, ?_⟩
  repeat' first
    | with_reducible assumption
    | intro _
    | (extract_lets -merge +onlyGivenNames x; refine (have hx : Frame [.regs, .mem, .front, .pwr] s0 x := ?_; ?_); rotate_left; clear_value x; rotate_left; subst x)
    | (extract_lets -merge +onlyGivenNames x; clear_value x)
    | with_reducible exact Frame.refl _ _
    | with_reducible apply Frame.ite
    | with_reducible apply Frame.foldl
    | with_reducible apply Frame.via (State.setF_frame _ _ _ _ _) (by decide)
    | with_reducible apply Frame.via (State.completeAll_frame _ _ _ _) (by decide)
    | with_reducible apply Frame.via (State.setPstate_frame _ _ _) (by decide)
    | split
    | with_reducible apply Frame.set_pwr _ (by decide)

theorem execResetRelease_frame (s0 : State) (a0 : Fin 298) : Completes (execResetRelease a0 s0) (Frame [.regs, .pwr] s0) := by
  unfold execResetRelease
  refine ⟨_, rfl, ?_⟩
  repeat' first
    | with_reducible assumption
    | intro _
    | (extract_lets -merge +onlyGivenNames x; refine (have hx : Frame [.regs, .pwr] s0 x := ?_; ?_); rotate_left; clear_value x; rotate_left; subst x)
    | (extract_lets -merge +onlyGivenNames x; clear_value x)
    | with_reducible exact Frame.refl _ _
    | with_reducible apply Frame.ite
    | with_reducible apply Frame.foldl
    | with_reducible apply Frame.via (State.stepWash_frame _ _) (by decide)
    | split
    | with_reducible apply Frame.set_pwr _ (by decide)

theorem State.trainSeams_frame (s0 : State) (a1 : Nat) : Frame [.regs] s0 (State.trainSeams s0 a1) := by
  unfold State.trainSeams
  repeat' first
    | with_reducible assumption
    | intro _
    | (extract_lets -merge +onlyGivenNames x; refine (have hx : Frame [.regs] s0 x := ?_; ?_); rotate_left; clear_value x; rotate_left; subst x)
    | (extract_lets -merge +onlyGivenNames x; clear_value x)
    | with_reducible exact Frame.refl _ _
    | with_reducible apply Frame.ite
    | with_reducible apply Frame.foldl
    | with_reducible apply Frame.via (State.setF_frame _ _ _ _ _) (by decide)
    | split

theorem execRootPllLock_frame (s0 : State) (a0 : Fin 12) (a1 : Option (Fin 11)) : Completes (execRootPllLock a0 a1 s0) (Frame [.regs, .eth, .arb, .sm, .fuses, .free] s0) := by
  unfold execRootPllLock
  refine ⟨_, rfl, ?_⟩
  repeat' first
    | with_reducible assumption
    | intro _
    | (extract_lets -merge +onlyGivenNames x; refine (have hx : Frame [.regs, .eth, .arb, .sm, .fuses, .free] s0 x := ?_; ?_); rotate_left; clear_value x; rotate_left; subst x)
    | (extract_lets -merge +onlyGivenNames x; clear_value x)
    | with_reducible exact Frame.refl _ _
    | with_reducible apply Frame.ite
    | with_reducible apply Frame.foldl
    | with_reducible apply Frame.via (State.setF_frame _ _ _ _ _) (by decide)
    | with_reducible apply Frame.via (State.smStart_frame _ _) (by decide)
    | with_reducible apply Frame.via (State.clrBits_frame _ _ _ _) (by decide)
    | with_reducible apply Frame.via (State.trainSeams_frame _ _) (by decide)
    | split

theorem State.endQueues_frame (s0 : State) (a1 : Nat) : Frame [.queues, .qseq, .ports] s0 (State.endQueues s0 a1) := by
  unfold State.endQueues
  repeat' first
    | with_reducible assumption
    | intro _
    | (extract_lets -merge +onlyGivenNames x; refine (have hx : Frame [.queues, .qseq, .ports] s0 x := ?_; ?_); rotate_left; clear_value x; rotate_left; subst x)
    | (extract_lets -merge +onlyGivenNames x; clear_value x)
    | with_reducible exact Frame.refl _ _
    | with_reducible apply Frame.ite
    | with_reducible apply Frame.foldl
    | with_reducible apply Frame.via (State.setPort_frame _ _ _) (by decide)
    | with_reducible apply Frame.via (State.setQueue_frame _ _ _ _) (by decide)
    | split
    | with_reducible apply Frame.set_qseq _ (by decide)

theorem State.zeroBoard_frame (s0 : State) (a1 : Nat) : Frame [.mem] s0 (State.zeroBoard s0 a1) := by
  unfold State.zeroBoard
  repeat' first
    | with_reducible assumption
    | intro _
    | (extract_lets -merge +onlyGivenNames x; refine (have hx : Frame [.mem] s0 x := ?_; ?_); rotate_left; clear_value x; rotate_left; subst x)
    | (extract_lets -merge +onlyGivenNames x; clear_value x)
    | with_reducible exact Frame.refl _ _
    | with_reducible apply Frame.ite
    | with_reducible apply Frame.foldl
    | split
    | with_reducible apply Frame.set_mem _ (by decide) (fun h => by first | exact h | exact Memory.wf_putBytes h | exact Memory.wf_putBoard h | exact Memory.wf_replayBoards h | exact Memory.wf_tclear h | rfl)

theorem State.clearRegs_frame (s0 : State) (a1 : Reg → List Nat → Bool) : Frame [.regs] s0 (State.clearRegs s0 a1) := by
  unfold State.clearRegs
  repeat' first
    | with_reducible assumption
    | intro _
    | (extract_lets -merge +onlyGivenNames x; refine (have hx : Frame [.regs] s0 x := ?_; ?_); rotate_left; clear_value x; rotate_left; subst x)
    | (extract_lets -merge +onlyGivenNames x; clear_value x)
    | with_reducible exact Frame.refl _ _
    | with_reducible apply Frame.ite
    | with_reducible apply Frame.foldl
    | split
    | with_reducible apply Frame.set_regs _ (by decide) (fun h => by first | exact h | exact Registers.wf_tput h | exact Registers.wf_tclear h | exact Registers.wf_nil)

theorem State.awayWrites_frame (s0 : State) (a1 : Nat) (a2 : Nat) : Frame [.regs, .press, .sects, .tacks] s0 (State.awayWrites s0 a1 a2) := by
  unfold State.awayWrites
  repeat' first
    | with_reducible assumption
    | intro _
    | (extract_lets -merge +onlyGivenNames x; refine (have hx : Frame [.regs, .press, .sects, .tacks] s0 x := ?_; ?_); rotate_left; clear_value x; rotate_left; subst x)
    | (extract_lets -merge +onlyGivenNames x; clear_value x)
    | with_reducible exact Frame.refl _ _
    | with_reducible apply Frame.ite
    | with_reducible apply Frame.foldl
    | with_reducible apply Frame.via (State.setPrs_frame _ _ _) (by decide)
    | with_reducible apply Frame.via (State.sendAck_frame _ _ _ _) (by decide)
    | split

theorem State.losePress_frame (s0 : State) (a1 : Nat) (a2 : Nat) : Frame [.regs, .mem, .press, .sects, .queues, .qseq, .ports, .score, .tacks] s0 (State.losePress s0 a1 a2) := by
  unfold State.losePress
  repeat' first
    | with_reducible assumption
    | intro _
    | (extract_lets -merge +onlyGivenNames x; refine (have hx : Frame [.regs, .mem, .press, .sects, .queues, .qseq, .ports, .score, .tacks] s0 x := ?_; ?_); rotate_left; clear_value x; rotate_left; subst x)
    | (extract_lets -merge +onlyGivenNames x; clear_value x)
    | with_reducible exact Frame.refl _ _
    | with_reducible apply Frame.ite
    | with_reducible apply Frame.foldl
    | with_reducible apply Frame.via (State.setPrs_frame _ _ _) (by decide)
    | with_reducible apply Frame.via (State.setSect_frame _ _ _ _) (by decide)
    | with_reducible apply Frame.via (State.inputDown_frame _ _) (by decide)
    | with_reducible apply Frame.via (State.clrBits_frame _ _ _ _) (by decide)
    | with_reducible apply Frame.via (State.endQueues_frame _ _) (by decide)
    | with_reducible apply Frame.via (State.zeroBoard_frame _ _) (by decide)
    | with_reducible apply Frame.via (State.clearRegs_frame _ _) (by decide)
    | with_reducible apply Frame.via (State.awayWrites_frame _ _ _) (by decide)
    | split

theorem State.loseFlights_frame (s0 : State) (a1 : Nat) : Frame [.score] s0 (State.loseFlights s0 a1) := by
  unfold State.loseFlights
  repeat' first
    | with_reducible assumption
    | intro _
    | (extract_lets -merge +onlyGivenNames x; refine (have hx : Frame [.score] s0 x := ?_; ?_); rotate_left; clear_value x; rotate_left; subst x)
    | (extract_lets -merge +onlyGivenNames x; clear_value x)
    | with_reducible exact Frame.refl _ _
    | with_reducible apply Frame.ite
    | with_reducible apply Frame.foldl
    | with_reducible apply Frame.via (State.dropFlight_frame _ _) (by decide)
    | split

theorem State.loseE0_frame (s0 : State) (a1 : Nat) : Frame [.regs, .mem, .dieBase, .aligns, .press, .score, .eth, .front] s0 (State.loseE0 s0 a1) := by
  unfold State.loseE0
  repeat' first
    | with_reducible assumption
    | intro _
    | (extract_lets -merge +onlyGivenNames x; refine (have hx : Frame [.regs, .mem, .dieBase, .aligns, .press, .score, .eth, .front] s0 x := ?_; ?_); rotate_left; clear_value x; rotate_left; subst x)
    | (extract_lets -merge +onlyGivenNames x; clear_value x)
    | with_reducible exact Frame.refl _ _
    | with_reducible apply Frame.ite
    | with_reducible apply Frame.foldl
    | with_reducible apply Frame.via (State.setPrs_frame _ _ _) (by decide)
    | with_reducible apply Frame.via (State.complete_frame _ _ _ _) (by decide)
    | with_reducible apply Frame.via (State.setDieCount_frame _ _ _) (by decide)
    | with_reducible apply Frame.via (State.clearRegs_frame _ _) (by decide)
    | with_reducible apply Frame.via (State.loseFlights_frame _ _) (by decide)
    | split
    | with_reducible apply Frame.set_aligns _ (by decide)
    | with_reducible apply Frame.set_eth _ (by decide)

theorem State.dropSeams_frame (s0 : State) (a1 : Nat) : Frame [.regs, .seams, .score, .arb] s0 (State.dropSeams s0 a1) := by
  unfold State.dropSeams
  repeat' first
    | with_reducible assumption
    | intro _
    | (extract_lets -merge +onlyGivenNames x; refine (have hx : Frame [.regs, .seams, .score, .arb] s0 x := ?_; ?_); rotate_left; clear_value x; rotate_left; subst x)
    | (extract_lets -merge +onlyGivenNames x; clear_value x)
    | with_reducible exact Frame.refl _ _
    | with_reducible apply Frame.ite
    | with_reducible apply Frame.foldl
    | with_reducible apply Frame.via (State.seamLeave_frame _ _ _ _) (by decide)
    | with_reducible apply Frame.via (State.portRetrain_frame _ _ _ _) (by decide)
    | split

theorem State.loseCommon_frame (s0 : State) (a1 : Nat) : Frame [.dieBase, .aligns, .cond, .score, .tacks] s0 (State.loseCommon s0 a1) := by
  unfold State.loseCommon
  repeat' first
    | with_reducible assumption
    | intro _
    | (extract_lets -merge +onlyGivenNames x; refine (have hx : Frame [.dieBase, .aligns, .cond, .score, .tacks] s0 x := ?_; ?_); rotate_left; clear_value x; rotate_left; subst x)
    | (extract_lets -merge +onlyGivenNames x; clear_value x)
    | with_reducible exact Frame.refl _ _
    | with_reducible apply Frame.ite
    | with_reducible apply Frame.foldl
    | with_reducible apply Frame.via (State.setConductor_frame _ _ _) (by decide)
    | with_reducible apply Frame.via (State.setDieCount_frame _ _ _) (by decide)
    | with_reducible apply Frame.via (State.loseFlights_frame _ _) (by decide)
    | split
    | with_reducible apply Frame.set_aligns _ (by decide)
    | with_reducible apply Frame.set_tacks _ (by decide)

theorem State.dropStored_frame (s0 : State) (a1 : Stored → Bool) : Frame [.score] s0 (State.dropStored s0 a1) := by
  unfold State.dropStored
  repeat' first
    | with_reducible assumption
    | intro _
    | (extract_lets -merge +onlyGivenNames x; refine (have hx : Frame [.score] s0 x := ?_; ?_); rotate_left; clear_value x; rotate_left; subst x)
    | (extract_lets -merge +onlyGivenNames x; clear_value x)
    | with_reducible exact Frame.refl _ _
    | with_reducible apply Frame.ite
    | with_reducible apply Frame.foldl
    | with_reducible apply Frame.via (State.resendOver_frame _ _ _) (by decide)
    | split
    | with_reducible apply Frame.set_score _ (by decide)

theorem State.loseMangleDie_frame (s0 : State) (a1 : Nat) : Frame [.regs, .dieBase, .aligns, .cond, .lk, .legacy, .score, .tacks, .books, .arb, .pwr] s0 (State.loseMangleDie s0 a1) := by
  unfold State.loseMangleDie
  repeat' first
    | with_reducible assumption
    | intro _
    | (extract_lets -merge +onlyGivenNames x; refine (have hx : Frame [.regs, .dieBase, .aligns, .cond, .lk, .legacy, .score, .tacks, .books, .arb, .pwr] s0 x := ?_; ?_); rotate_left; clear_value x; rotate_left; subst x)
    | (extract_lets -merge +onlyGivenNames x; clear_value x)
    | with_reducible exact Frame.refl _ _
    | with_reducible apply Frame.ite
    | with_reducible apply Frame.foldl
    | with_reducible apply Frame.via (State.linkSources_frame _) (by decide)
    | with_reducible apply Frame.via (State.linkLeave_frame _ _ _) (by decide)
    | with_reducible apply Frame.via (State.clearRegs_frame _ _) (by decide)
    | with_reducible apply Frame.via (State.loseCommon_frame _ _) (by decide)
    | with_reducible apply Frame.via (State.dropStored_frame _ _) (by decide)
    | split
    | with_reducible apply Frame.set_score _ (by decide)
    | with_reducible apply Frame.set_lk_legacy _ _ (by decide) (by decide)
    | with_reducible apply Frame.set_books _ (by decide)
    | with_reducible apply Frame.set_tacks _ (by decide)
    | with_reducible apply Frame.set_pwr _ (by decide)

theorem State.loseLink_frame (s0 : State) (a1 : Nat) : Frame [.regs, .lk, .legacy, .score, .books, .arb, .pwr] s0 (State.loseLink s0 a1) := by
  unfold State.loseLink
  repeat' first
    | with_reducible assumption
    | intro _
    | (extract_lets -merge +onlyGivenNames x; refine (have hx : Frame [.regs, .lk, .legacy, .score, .books, .arb, .pwr] s0 x := ?_; ?_); rotate_left; clear_value x; rotate_left; subst x)
    | (extract_lets -merge +onlyGivenNames x; clear_value x)
    | with_reducible exact Frame.refl _ _
    | with_reducible apply Frame.ite
    | with_reducible apply Frame.foldl
    | with_reducible apply Frame.via (State.linkSources_frame _) (by decide)
    | with_reducible apply Frame.via (State.linkLeave_frame _ _ _) (by decide)
    | with_reducible apply Frame.via (State.linReleases_frame _ _ _ _) (by decide)
    | with_reducible apply Frame.via (State.inputDown_frame _ _) (by decide)
    | with_reducible apply Frame.via (State.clearRegs_frame _ _) (by decide)
    | with_reducible apply Frame.via (State.dropStored_frame _ _) (by decide)
    | split
    | with_reducible apply Frame.set_score _ (by decide)
    | with_reducible apply Frame.set_lk_legacy _ _ (by decide) (by decide)

theorem State.abandonActivation_frame (s0 : State) : Frame [.regs, .mem, .front, .fw] s0 (State.abandonActivation s0) := by
  unfold State.abandonActivation
  repeat' first
    | with_reducible assumption
    | intro _
    | (extract_lets -merge +onlyGivenNames x; refine (have hx : Frame [.regs, .mem, .front, .fw] s0 x := ?_; ?_); rotate_left; clear_value x; rotate_left; subst x)
    | (extract_lets -merge +onlyGivenNames x; clear_value x)
    | with_reducible exact Frame.refl _ _
    | with_reducible apply Frame.ite
    | with_reducible apply Frame.foldl
    | with_reducible apply Frame.via (State.setF_frame _ _ _ _ _) (by decide)
    | with_reducible apply Frame.via (State.complete_frame _ _ _ _) (by decide)
    | split
    | with_reducible apply Frame.set_fw _ (by decide)
    | with_reducible apply Frame.set_front _ (by decide)

end Sys2Proof.Machine
end

