-- ==== Sys2Proof/Laws/Frames7.lean ====
section
/-! SUPPORT. The frames of operations and commands of Power, PressCtl, PressExec, PressIns, PressOps, QueueOps, Ranks,
Rbt, ResetOps, SmOps, UnisonOps: the parts that each may change. -/

namespace Sys2Proof.Machine

theorem State.smReset_frame (s0 : State) : Frame [.sm] s0 (State.smReset s0) := by
  unfold State.smReset
  repeat' first
    | with_reducible assumption
    | intro _
    | (extract_lets -merge +onlyGivenNames x; refine (have hx : Frame [.sm] s0 x := ?_; ?_); rotate_left; clear_value x; rotate_left; subst x)
    | (extract_lets -merge +onlyGivenNames x; clear_value x)
    | with_reducible exact Frame.refl _ _
    | with_reducible apply Frame.ite
    | with_reducible apply Frame.foldl
    | with_reducible apply Frame.via (State.setSm_frame _ _) (by decide)
    | with_reducible apply Frame.via (State.closeSessions_frame _) (by decide)
    | with_reducible apply Frame.via (State.wipeSecrets_frame _) (by decide)
    | split

theorem State.captureReset_frame (s0 : State) : Frame [.regs, .arb] s0 (State.captureReset s0) := by
  unfold State.captureReset
  repeat' first
    | with_reducible assumption
    | intro _
    | (extract_lets -merge +onlyGivenNames x; refine (have hx : Frame [.regs, .arb] s0 x := ?_; ?_); rotate_left; clear_value x; rotate_left; subst x)
    | (extract_lets -merge +onlyGivenNames x; clear_value x)
    | with_reducible exact Frame.refl _ _
    | with_reducible apply Frame.ite
    | with_reducible apply Frame.foldl
    | with_reducible apply Frame.via (State.captureIncomplete_frame _) (by decide)
    | split

theorem State.loseC0_frame (s0 : State) : Frame [.regs, .mem, .tempo, .dieBase, .aligns, .press, .sects, .score, .unison, .arb, .icu, .front, .sm, .smb, .fw] s0 (State.loseC0 s0) := by
  unfold State.loseC0
  repeat' first
    | with_reducible assumption
    | intro _
    | (extract_lets -merge +onlyGivenNames x; refine (have hx : Frame [.regs, .mem, .tempo, .dieBase, .aligns, .press, .sects, .score, .unison, .arb, .icu, .front, .sm, .smb, .fw] s0 x := ?_; ?_); rotate_left; clear_value x; rotate_left; subst x)
    | (extract_lets -merge +onlyGivenNames x; clear_value x)
    | with_reducible exact Frame.refl _ _
    | with_reducible apply Frame.ite
    | with_reducible apply Frame.foldl
    | with_reducible apply Frame.via (State.setF_frame _ _ _ _ _) (by decide)
    | with_reducible apply Frame.via (State.arbReset_frame _) (by decide)
    | with_reducible apply Frame.via (State.setUnison_frame _ _) (by decide)
    | with_reducible apply Frame.via (State.replayStop_frame _) (by decide)
    | with_reducible apply Frame.via (State.ringReset_frame _ _) (by decide)
    | with_reducible apply Frame.via (State.setDieCount_frame _ _ _) (by decide)
    | with_reducible apply Frame.via (State.clearRegs_frame _ _) (by decide)
    | with_reducible apply Frame.via (State.loseFlights_frame _ _) (by decide)
    | with_reducible apply Frame.via (State.abandonActivation_frame _) (by decide)
    | with_reducible apply Frame.via (State.smReset_frame _) (by decide)
    | with_reducible apply Frame.via (State.captureReset_frame _) (by decide)
    | split
    | with_reducible apply Frame.set_icu_fw _ _ (by decide) (by decide)
    | with_reducible apply Frame.set_aligns _ (by decide)
    | with_reducible apply Frame.set_front _ (by decide)
    | with_reducible apply Frame.set_smb _ (by decide)

theorem State.losePressDie_frame (s0 : State) (a1 : Nat) : Frame [.regs, .mem, .dieBase, .aligns, .cond, .ports, .score, .tacks, .books, .front] s0 (State.losePressDie s0 a1) := by
  unfold State.losePressDie
  repeat' first
    | with_reducible assumption
    | intro _
    | (extract_lets -merge +onlyGivenNames x; refine (have hx : Frame [.regs, .mem, .dieBase, .aligns, .cond, .ports, .score, .tacks, .books, .front] s0 x := ?_; ?_); rotate_left; clear_value x; rotate_left; subst x)
    | (extract_lets -merge +onlyGivenNames x; clear_value x)
    | with_reducible exact Frame.refl _ _
    | with_reducible apply Frame.ite
    | with_reducible apply Frame.foldl
    | with_reducible apply Frame.via (State.setBit_frame _ _ _ _) (by decide)
    | with_reducible apply Frame.via (State.setPort_frame _ _ _) (by decide)
    | with_reducible apply Frame.via (State.finishScans_frame _ _) (by decide)
    | with_reducible apply Frame.via (State.clearRegs_frame _ _) (by decide)
    | with_reducible apply Frame.via (State.loseCommon_frame _ _) (by decide)
    | split
    | with_reducible apply Frame.set_score _ (by decide)
    | with_reducible apply Frame.set_books _ (by decide)

theorem State.assertReset_frame (s0 : State) (a1 : Nat) : Frame [.regs, .mem, .tempo, .dieBase, .aligns, .cond, .press, .sects, .queues, .qseq, .ports, .lk, .seams, .legacy, .score, .tacks, .books, .eth, .unison, .arb, .icu, .front, .sm, .smb, .fw, .pwr] s0 (State.assertReset s0 a1) := by
  unfold State.assertReset
  repeat' first
    | with_reducible assumption
    | intro _
    | (extract_lets -merge +onlyGivenNames x; refine (have hx : Frame [.regs, .mem, .tempo, .dieBase, .aligns, .cond, .press, .sects, .queues, .qseq, .ports, .lk, .seams, .legacy, .score, .tacks, .books, .eth, .unison, .arb, .icu, .front, .sm, .smb, .fw, .pwr] s0 x := ?_; ?_); rotate_left; clear_value x; rotate_left; subst x)
    | (extract_lets -merge +onlyGivenNames x; clear_value x)
    | with_reducible exact Frame.refl _ _
    | with_reducible apply Frame.ite
    | with_reducible apply Frame.foldl
    | with_reducible apply Frame.via (State.setF_frame _ _ _ _ _) (by decide)
    | with_reducible apply Frame.via (State.emptyStack_frame _ _) (by decide)
    | with_reducible apply Frame.via (State.setEthPort_frame _ _ _) (by decide)
    | with_reducible apply Frame.via (State.orReg_frame _ _ _ _) (by decide)
    | with_reducible apply Frame.via (State.clearRegs_frame _ _) (by decide)
    | with_reducible apply Frame.via (State.losePress_frame _ _ _) (by decide)
    | with_reducible apply Frame.via (State.loseE0_frame _ _) (by decide)
    | with_reducible apply Frame.via (State.dropSeams_frame _ _) (by decide)
    | with_reducible apply Frame.via (State.loseMangleDie_frame _ _) (by decide)
    | with_reducible apply Frame.via (State.loseLink_frame _ _) (by decide)
    | with_reducible apply Frame.via (State.captureReset_frame _) (by decide)
    | with_reducible apply Frame.via (State.loseC0_frame _) (by decide)
    | with_reducible apply Frame.via (State.losePressDie_frame _ _) (by decide)
    | split
    | with_reducible apply Frame.set_pwr _ (by decide)

theorem execRootPllLockLoss_frame (s0 : State) (a0 : Fin 12) (a1 : Bool) : Completes (execRootPllLockLoss a0 a1 s0) (Frame [.regs, .mem, .tempo, .dieBase, .aligns, .cond, .press, .sects, .queues, .qseq, .ports, .lk, .seams, .legacy, .score, .tacks, .books, .eth, .unison, .arb, .icu, .front, .sm, .smb, .fw, .pwr] s0) := by
  unfold execRootPllLockLoss
  refine ⟨_, rfl, ?_⟩
  repeat' first
    | with_reducible assumption
    | intro _
    | (extract_lets -merge +onlyGivenNames x; refine (have hx : Frame [.regs, .mem, .tempo, .dieBase, .aligns, .cond, .press, .sects, .queues, .qseq, .ports, .lk, .seams, .legacy, .score, .tacks, .books, .eth, .unison, .arb, .icu, .front, .sm, .smb, .fw, .pwr] s0 x := ?_; ?_); rotate_left; clear_value x; rotate_left; subst x)
    | (extract_lets -merge +onlyGivenNames x; clear_value x)
    | with_reducible exact Frame.refl _ _
    | with_reducible apply Frame.ite
    | with_reducible apply Frame.foldl
    | with_reducible apply Frame.via (State.setLogged_frame _ _ _ _ _) (by decide)
    | with_reducible apply Frame.via (State.loseStack_frame _ _) (by decide)
    | with_reducible apply Frame.via (State.endUnitStreams_frame _ _) (by decide)
    | with_reducible apply Frame.via (State.assertReset_frame _ _) (by decide)
    | with_reducible refine Frame.via (Frame.of_eq1 (State.endUnitStreams_frame _ _) (by assumption)) (by decide) ?_
    | split

theorem execThermalThrottle_frame (s0 : State) (a0 : Fin 12) (a1 : BitVec 8) (a2 : Bool) : Completes (execThermalThrottle a0 a1 a2 s0) (Frame [.regs, .arb, .pwr] s0) := by
  unfold execThermalThrottle
  refine ⟨_, rfl, ?_⟩
  repeat' first
    | with_reducible assumption
    | intro _
    | (extract_lets -merge +onlyGivenNames x; refine (have hx : Frame [.regs, .arb, .pwr] s0 x := ?_; ?_); rotate_left; clear_value x; rotate_left; subst x)
    | (extract_lets -merge +onlyGivenNames x; clear_value x)
    | with_reducible exact Frame.refl _ _
    | with_reducible apply Frame.ite
    | with_reducible apply Frame.foldl
    | with_reducible apply Frame.via (State.senseStack_frame _ _ _) (by decide)
    | with_reducible apply Frame.via (State.senseTemp_frame _ _ _) (by decide)
    | split

theorem execUnitFold_frame (s0 : State) (a0 : Cmd) (a1 : BitVec 32) : Completes (execUnitFold a0 a1 s0) (Frame [.regs, .mem, .tempo, .dieBase, .aligns, .press, .sects, .queues, .qseq, .ports, .seams, .score, .tacks, .eth, .arb, .front] s0) := by
  unfold execUnitFold
  refine ⟨_, rfl, ?_⟩
  repeat' first
    | with_reducible assumption
    | intro _
    | (extract_lets -merge +onlyGivenNames x; refine (have hx : Frame [.regs, .mem, .tempo, .dieBase, .aligns, .press, .sects, .queues, .qseq, .ports, .seams, .score, .tacks, .eth, .arb, .front] s0 x := ?_; ?_); rotate_left; clear_value x; rotate_left; subst x)
    | (extract_lets -merge +onlyGivenNames x; refine (have hx : Frame [.regs, .mem, .tempo, .dieBase, .aligns, .press, .sects, .queues, .qseq, .ports, .seams, .score, .tacks, .eth, .arb, .front] s0 x.1 := ?_; ?_); rotate_left; clear_value x; rotate_left; subst x)
    | (extract_lets -merge +onlyGivenNames x; refine (have hf : _ → _ := x; ?_); clear hf; subst x)
    | (extract_lets -merge +onlyGivenNames x; clear_value x)
    | with_reducible exact Frame.refl _ _
    | with_reducible apply Frame.ite
    | with_reducible apply Frame.ite1
    | with_reducible apply Frame.foldl
    | with_reducible apply Frame.foldl1
    | with_reducible apply Frame.idf
    | with_reducible apply Frame.via (State.setF_frame _ _ _ _ _) (by decide)
    | with_reducible apply Frame.via (State.setLogged_frame _ _ _ _ _) (by decide)
    | with_reducible apply Frame.via (State.complete_frame _ _ _ _) (by decide)
    | with_reducible refine State.runCmd_frame _ _ _ _ _ (by decide) ?_ (fun _ => ?_)
    | with_reducible apply Frame.via (State.foldPort_frame _ _) (by decide)
    | with_reducible apply Frame.via (State.quiesce_frame _ _ _) (by decide)
    | with_reducible apply Frame.via (State.orReg_frame _ _ _ _) (by decide)
    | with_reducible apply Frame.via (State.losePress_frame _ _ _) (by decide)
    | with_reducible apply Frame.via (State.loseE0_frame _ _) (by decide)
    | with_reducible apply Frame.via (State.dropSeams_frame _ _) (by decide)
    | with_reducible apply Frame.via (State.captureReset_frame _) (by decide)
    | with_reducible refine Frame.via (Frame.of_eq1 (State.quiesce_frame _ _ _) (by assumption)) (by decide) ?_
    | split

theorem execUnitInService_frame (s0 : State) (a0 : Fin 298) (a1 : BitVec 32) : Completes (execUnitInService a0 a1 s0) (Frame [.regs, .mem, .sects, .eth, .arb, .icu, .front, .sm, .fw, .pwr] s0) := by
  unfold execUnitInService
  refine ⟨_, rfl, ?_⟩
  repeat' first
    | with_reducible assumption
    | intro _
    | (extract_lets -merge +onlyGivenNames x; refine (have hx : Frame [.regs, .mem, .sects, .eth, .arb, .icu, .front, .sm, .fw, .pwr] s0 x := ?_; ?_); rotate_left; clear_value x; rotate_left; subst x)
    | (extract_lets -merge +onlyGivenNames x; clear_value x)
    | with_reducible exact Frame.refl _ _
    | with_reducible apply Frame.ite
    | with_reducible apply Frame.foldl
    | with_reducible apply Frame.via (State.stepWash_frame _ _) (by decide)
    | with_reducible apply Frame.via (State.finishUnit_frame _ _ _) (by decide)
    | with_reducible apply Frame.via (State.c0Serves_frame _ _) (by decide)
    | with_reducible apply Frame.via (State.clearSections_frame _ _) (by decide)
    | with_reducible apply Frame.via (State.clrBits_frame _ _ _ _) (by decide)
    | with_reducible apply Frame.via (State.dieServes_frame _ _ _) (by decide)
    | split

theorem execUnitReset_frame (s0 : State) (a0 : Cmd) : Completes (execUnitReset a0 s0) (Frame [.regs, .mem, .tempo, .dieBase, .aligns, .cond, .press, .sects, .queues, .qseq, .ports, .lk, .seams, .legacy, .score, .tacks, .books, .eth, .unison, .arb, .icu, .front, .sm, .smb, .fw, .pwr] s0) := by
  unfold execUnitReset
  refine ⟨_, rfl, ?_⟩
  repeat' first
    | with_reducible assumption
    | intro _
    | (extract_lets -merge +onlyGivenNames x; refine (have hx : Frame [.regs, .mem, .tempo, .dieBase, .aligns, .cond, .press, .sects, .queues, .qseq, .ports, .lk, .seams, .legacy, .score, .tacks, .books, .eth, .unison, .arb, .icu, .front, .sm, .smb, .fw, .pwr] s0 x := ?_; ?_); rotate_left; clear_value x; rotate_left; subst x)
    | (extract_lets -merge +onlyGivenNames x; refine (have hx : Frame [.regs, .mem, .tempo, .dieBase, .aligns, .cond, .press, .sects, .queues, .qseq, .ports, .lk, .seams, .legacy, .score, .tacks, .books, .eth, .unison, .arb, .icu, .front, .sm, .smb, .fw, .pwr] s0 x.1 := ?_; ?_); rotate_left; clear_value x; rotate_left; subst x)
    | (extract_lets -merge +onlyGivenNames x; refine (have hf : _ → _ := x; ?_); clear hf; subst x)
    | (extract_lets -merge +onlyGivenNames x; clear_value x)
    | with_reducible exact Frame.refl _ _
    | with_reducible apply Frame.ite
    | with_reducible apply Frame.ite1
    | with_reducible apply Frame.foldl
    | with_reducible apply Frame.foldl1
    | with_reducible apply Frame.idf
    | with_reducible apply Frame.via (State.complete_frame _ _ _ _) (by decide)
    | with_reducible refine State.runCmd_frame _ _ _ _ _ (by decide) ?_ (fun _ => ?_)
    | with_reducible apply Frame.via (State.wait_frame _ _ _) (by decide)
    | with_reducible apply Frame.via (State.setJob_frame _ _ _) (by decide)
    | with_reducible apply Frame.via (State.quiesce_frame _ _ _) (by decide)
    | with_reducible apply Frame.via (State.assertReset_frame _ _) (by decide)
    | with_reducible refine Frame.via (Frame.of_eq1 (State.quiesce_frame _ _ _) (by assumption)) (by decide) ?_
    | split

theorem execUnitServiceTimeout_frame (s0 : State) (a0 : Fin 298) (a1 : BitVec 32) : Completes (execUnitServiceTimeout a0 a1 s0) (Frame [.regs, .mem, .arb, .front] s0) := by
  unfold execUnitServiceTimeout
  refine ⟨_, rfl, ?_⟩
  repeat' first
    | with_reducible assumption
    | intro _
    | (extract_lets -merge +onlyGivenNames x; refine (have hx : Frame [.regs, .mem, .arb, .front] s0 x := ?_; ?_); rotate_left; clear_value x; rotate_left; subst x)
    | (extract_lets -merge +onlyGivenNames x; clear_value x)
    | with_reducible exact Frame.refl _ _
    | with_reducible apply Frame.ite
    | with_reducible apply Frame.foldl
    | with_reducible apply Frame.via (State.setLogged_frame _ _ _ _ _) (by decide)
    | with_reducible apply Frame.via (State.answerUnit_frame _ _ _ _) (by decide)
    | split

theorem execUnitUnfold_frame (s0 : State) (a0 : Cmd) : Completes (execUnitUnfold a0 s0) (Frame [.regs, .mem, .front, .pwr] s0) := by
  unfold execUnitUnfold
  refine ⟨_, rfl, ?_⟩
  repeat' first
    | with_reducible assumption
    | intro _
    | (extract_lets -merge +onlyGivenNames x; refine (have hx : Frame [.regs, .mem, .front, .pwr] s0 x := ?_; ?_); rotate_left; clear_value x; rotate_left; subst x)
    | (extract_lets -merge +onlyGivenNames x; clear_value x)
    | with_reducible exact Frame.refl _ _
    | with_reducible apply Frame.ite
    | with_reducible apply Frame.foldl
    | with_reducible apply Frame.via (State.complete_frame _ _ _ _) (by decide)
    | with_reducible refine State.runCmd_frame _ _ _ _ _ (by decide) ?_ (fun _ => ?_)
    | with_reducible apply Frame.via (State.wait_frame _ _ _) (by decide)
    | with_reducible apply Frame.via (State.setJob_frame _ _ _) (by decide)
    | with_reducible apply Frame.via (State.clrBits_frame _ _ _ _) (by decide)
    | with_reducible apply Frame.via (State.orReg_frame _ _ _ _) (by decide)
    | split
    | with_reducible apply Frame.set_pwr _ (by decide)

theorem execZeroingDone_frame (s0 : State) (a0 : Fin 256) : Completes (execZeroingDone a0 s0) (Frame [.regs] s0) := by
  unfold execZeroingDone
  refine ⟨_, rfl, ?_⟩
  repeat' first
    | with_reducible assumption
    | intro _
    | (extract_lets -merge +onlyGivenNames x; refine (have hx : Frame [.regs] s0 x := ?_; ?_); rotate_left; clear_value x; rotate_left; subst x)
    | (extract_lets -merge +onlyGivenNames x; clear_value x)
    | with_reducible exact Frame.refl _ _
    | with_reducible apply Frame.ite
    | with_reducible apply Frame.foldl
    | with_reducible apply Frame.via (State.setF_frame _ _ _ _ _) (by decide)
    | split

theorem State.retireAt_frame (s0 : State) (a1 : Nat) (a2 : Nat) (a3 : Nat) (a4 : Section → Section) : Frame [.sects] s0 (State.retireAt s0 a1 a2 a3 a4) := by
  unfold State.retireAt
  repeat' first
    | with_reducible assumption
    | intro _
    | (extract_lets -merge +onlyGivenNames x; refine (have hx : Frame [.sects] s0 x := ?_; ?_); rotate_left; clear_value x; rotate_left; subst x)
    | (extract_lets -merge +onlyGivenNames x; clear_value x)
    | with_reducible exact Frame.refl _ _
    | with_reducible apply Frame.ite
    | with_reducible apply Frame.foldl
    | with_reducible apply Frame.via (State.setSect_frame _ _ _ _) (by decide)
    | split

theorem State.storeBoard_frame (s0 : State) (a1 : Nat) (a2 : Nat) (a3 : Nat) (a4 : Nat) (a5 : List Byte) : Frame [.mem, .sects] s0 (State.storeBoard s0 a1 a2 a3 a4 a5) := by
  unfold State.storeBoard
  repeat' first
    | with_reducible assumption
    | intro _
    | (extract_lets -merge +onlyGivenNames x; refine (have hx : Frame [.mem, .sects] s0 x := ?_; ?_); rotate_left; clear_value x; rotate_left; subst x)
    | (extract_lets -merge +onlyGivenNames x; clear_value x)
    | with_reducible exact Frame.refl _ _
    | with_reducible apply Frame.ite
    | with_reducible apply Frame.foldl
    | with_reducible apply Frame.via (State.setSect_frame _ _ _ _) (by decide)
    | with_reducible apply Frame.via (State.writeBoard_frame _ _ _ _) (by decide)
    | with_reducible apply Frame.via (State.waitAt_frame _ _ _ _ _) (by decide)
    | with_reducible apply Frame.via (State.retireAt_frame _ _ _ _ _) (by decide)
    | split

theorem State.mmasRow_frame (s0 : State) (p k rb rows fmt ba bd : Nat) (acc mix : Bool) (r : Nat) {t : State}
    (h : s0.mmasRow p k rb rows fmt ba bd acc mix r = .ok t) : Frame [.mem] s0 t := by
  unfold State.mmasRow at h
  dsimp only at h
  split at h
  · cases h
  · split at h
    · cases h
    · cases h
      exact Frame.via (State.writeBoard_frame _ _ _ _) (by decide) (State.writeBoard_frame _ _ _ _)

theorem State.stripDone_frame (s0 : State) (a1 : Nat) (a2 : Nat) (a3 : Nat) : Frame [.regs, .sects] s0 (State.stripDone s0 a1 a2 a3) := by
  unfold State.stripDone
  repeat' first
    | with_reducible assumption
    | intro _
    | (extract_lets -merge +onlyGivenNames x; refine (have hx : Frame [.regs, .sects] s0 x := ?_; ?_); rotate_left; clear_value x; rotate_left; subst x)
    | (extract_lets -merge +onlyGivenNames x; clear_value x)
    | with_reducible exact Frame.refl _ _
    | with_reducible apply Frame.ite
    | with_reducible apply Frame.foldl
    | with_reducible apply Frame.via (State.setF_frame _ _ _ _ _) (by decide)
    | with_reducible apply Frame.via (State.retireAt_frame _ _ _ _ _) (by decide)
    | split

theorem State.mmasRows_frame (s0 : State) (p k i rb rows fmt ba bd : Nat) (acc mix : Bool) (upto fuel : Nat) :
    Frame [.regs, .mem, .sects] s0 (State.mmasRows s0 p k i rb rows fmt ba bd acc mix upto fuel) := by
  induction fuel generalizing s0 with
  | zero => exact Frame.refl _ _
  | succ n ih =>
    unfold State.mmasRows
    refine Frame.ite (fun _ => (State.stripDone_frame _ _ _ _).mono (by decide)) (fun _ => Frame.ite (fun _ => Frame.refl _ _) (fun _ => ?_))
    split
    · exact (State.setSect_frame _ _ _ _).mono (by decide)
    · rename_i h
      exact (Frame.via (State.setSect_frame _ _ _ _) (by decide) ((State.mmasRow_frame _ _ _ _ _ _ _ _ _ _ _ h).mono (by decide))).trans (ih _)

theorem State.loadBoard_frame (s0 : State) (a1 : Nat) (a2 : Nat) (a3 : Nat) (a4 : Nat) (a5 : Nat) (a6 : List Byte → Section → Section) : Frame [.sects] s0 (State.loadBoard s0 a1 a2 a3 a4 a5 a6) := by
  unfold State.loadBoard
  repeat' first
    | with_reducible assumption
    | intro _
    | (extract_lets -merge +onlyGivenNames x; refine (have hx : Frame [.sects] s0 x := ?_; ?_); rotate_left; clear_value x; rotate_left; subst x)
    | (extract_lets -merge +onlyGivenNames x; clear_value x)
    | with_reducible exact Frame.refl _ _
    | with_reducible apply Frame.ite
    | with_reducible apply Frame.foldl
    | with_reducible apply Frame.via (State.waitAt_frame _ _ _ _ _) (by decide)
    | with_reducible apply Frame.via (State.retireAt_frame _ _ _ _ _) (by decide)
    | split

theorem State.tileEffect_frame (s0 : State) (a1 : Nat) (a2 : Nat) (a3 : Nat) (a4 : Nat) (a5 : PInstr) : Frame [.regs, .mem, .sects] s0 (State.tileEffect s0 a1 a2 a3 a4 a5) := by
  unfold State.tileEffect
  repeat' first
    | with_reducible assumption
    | intro _
    | (extract_lets -merge +onlyGivenNames x; refine (have hx : Frame [.regs, .mem, .sects] s0 x := ?_; ?_); rotate_left; clear_value x; rotate_left; subst x)
    | (extract_lets -merge +onlyGivenNames x; clear_value x)
    | with_reducible exact Frame.refl _ _
    | with_reducible apply Frame.ite
    | with_reducible apply Frame.foldl
    | with_reducible apply Frame.via (State.incF_frame _ _ _ _ _) (by decide)
    | with_reducible apply Frame.via (State.setSect_frame _ _ _ _) (by decide)
    | with_reducible apply Frame.via (State.waitAt_frame _ _ _ _ _) (by decide)
    | with_reducible apply Frame.via (State.retireAt_frame _ _ _ _ _) (by decide)
    | with_reducible apply Frame.via (State.storeBoard_frame _ _ _ _ _ _) (by decide)
    | with_reducible apply Frame.via (State.mmasRows_frame _ _ _ _ _ _ _ _ _ _ _ _ _) (by decide)
    | with_reducible apply Frame.via (State.loadBoard_frame _ _ _ _ _ _ _) (by decide)
    | split

theorem execBankWakeDone_frame (s0 : State) (a0 : Fin 256) (a1 : Fin 4) (a2 : Fin 8) : Completes (execBankWakeDone a0 a1 a2 s0) (Frame [.regs, .mem, .sects] s0) := by
  unfold execBankWakeDone
  refine ⟨_, rfl, ?_⟩
  repeat' first
    | with_reducible assumption
    | intro _
    | (extract_lets -merge +onlyGivenNames x; refine (have hx : Frame [.regs, .mem, .sects] s0 x := ?_; ?_); rotate_left; clear_value x; rotate_left; subst x)
    | (extract_lets -merge +onlyGivenNames x; clear_value x)
    | with_reducible exact Frame.refl _ _
    | with_reducible apply Frame.ite
    | with_reducible apply Frame.foldl
    | with_reducible apply Frame.via (State.setF_frame _ _ _ _ _) (by decide)
    | with_reducible apply Frame.via (State.tileEffect_frame _ _ _ _ _ _) (by decide)
    | split

theorem execBoardDebugRead_frame (s0 : State) (a0 : Fin 256) (a1 : Fin 3) : Completes (execBoardDebugRead a0 a1 s0) (Frame [.regs, .front] s0) := by
  unfold execBoardDebugRead
  refine ⟨_, rfl, ?_⟩
  repeat' first
    | with_reducible assumption
    | intro _
    | (extract_lets -merge +onlyGivenNames x; refine (have hx : Frame [.regs, .front] s0 x := ?_; ?_); rotate_left; clear_value x; rotate_left; subst x)
    | (extract_lets -merge +onlyGivenNames x; refine (have hx : Frame [.regs, .front] s0 x.1 := ?_; ?_); rotate_left; clear_value x; rotate_left; subst x)
    | (extract_lets -merge +onlyGivenNames x; refine (have hf : _ → _ := x; ?_); clear hf; subst x)
    | (extract_lets -merge +onlyGivenNames x; clear_value x)
    | with_reducible exact Frame.refl _ _
    | with_reducible apply Frame.ite
    | with_reducible apply Frame.ite1
    | with_reducible apply Frame.foldl
    | with_reducible apply Frame.foldl1
    | with_reducible apply Frame.idf
    | with_reducible apply Frame.via (State.boardDebugRead_frame _ _ _ _) (by decide)
    | with_reducible apply Frame.via (State.goneAccess_frame _ _ _ _) (by decide)
    | with_reducible refine Frame.via (Frame.of_eq1 (State.boardDebugRead_frame _ _ _ _) (by assumption)) (by decide) ?_
    | split
    | with_reducible apply Frame.set_front _ (by decide)

theorem execBoardDebugWrite_frame (s0 : State) (a0 : Fin 256) (a1 : Fin 3) (a2 : Word) : Completes (execBoardDebugWrite a0 a1 a2 s0) (Frame [.regs, .mem] s0) := by
  unfold execBoardDebugWrite
  refine ⟨_, rfl, ?_⟩
  repeat' first
    | with_reducible assumption
    | intro _
    | (extract_lets -merge +onlyGivenNames x; refine (have hx : Frame [.regs, .mem] s0 x := ?_; ?_); rotate_left; clear_value x; rotate_left; subst x)
    | (extract_lets -merge +onlyGivenNames x; clear_value x)
    | with_reducible exact Frame.refl _ _
    | with_reducible apply Frame.ite
    | with_reducible apply Frame.foldl
    | with_reducible apply Frame.via (State.boardDebugWrite_frame _ _ _ _) (by decide)
    | with_reducible apply Frame.via (State.goneAccess_frame _ _ _ _) (by decide)
    | split

theorem execGateTakesEffect_frame (s0 : State) (a0 : Fin 256) (a1 : Fin 4) (a2 : Fin 8) : Completes (execGateTakesEffect a0 a1 a2 s0) (Frame [.sects] s0) := by
  unfold execGateTakesEffect
  refine ⟨_, rfl, ?_⟩
  repeat' first
    | with_reducible assumption
    | intro _
    | (extract_lets -merge +onlyGivenNames x; refine (have hx : Frame [.sects] s0 x := ?_; ?_); rotate_left; clear_value x; rotate_left; subst x)
    | (extract_lets -merge +onlyGivenNames x; clear_value x)
    | with_reducible exact Frame.refl _ _
    | with_reducible apply Frame.ite
    | with_reducible apply Frame.foldl
    | with_reducible apply Frame.via (State.setSect_frame _ _ _ _) (by decide)
    | split

theorem execPauseRequest_frame (s0 : State) (a0 : Fin 256) : Completes (execPauseRequest a0 s0) (Frame [.regs, .press, .sects] s0) := by
  unfold execPauseRequest
  refine ⟨_, rfl, ?_⟩
  repeat' first
    | with_reducible assumption
    | intro _
    | (extract_lets -merge +onlyGivenNames x; refine (have hx : Frame [.regs, .press, .sects] s0 x := ?_; ?_); rotate_left; clear_value x; rotate_left; subst x)
    | (extract_lets -merge +onlyGivenNames x; clear_value x)
    | with_reducible exact Frame.refl _ _
    | with_reducible apply Frame.ite
    | with_reducible apply Frame.foldl
    | with_reducible apply Frame.via (State.setPause_frame _ _) (by decide)
    | with_reducible apply Frame.via (State.goneAccess_frame _ _ _ _) (by decide)
    | split

theorem execPrsCntClr_frame (s0 : State) (a0 : Fin 256) : Completes (execPrsCntClr a0 s0) (Frame [.regs] s0) := by
  unfold execPrsCntClr
  refine ⟨_, rfl, ?_⟩
  repeat' first
    | with_reducible assumption
    | intro _
    | (extract_lets -merge +onlyGivenNames x; refine (have hx : Frame [.regs] s0 x := ?_; ?_); rotate_left; clear_value x; rotate_left; subst x)
    | (extract_lets -merge +onlyGivenNames x; clear_value x)
    | with_reducible exact Frame.refl _ _
    | with_reducible apply Frame.ite
    | with_reducible apply Frame.foldl
    | with_reducible apply Frame.via (State.clrPressCounts_frame _ _) (by decide)
    | with_reducible apply Frame.via (State.goneAccess_frame _ _ _ _) (by decide)
    | split

theorem execResume_frame (s0 : State) (a0 : Fin 256) : Completes (execResume a0 s0) (Frame [.regs, .press, .sects] s0) := by
  unfold execResume
  refine ⟨_, rfl, ?_⟩
  repeat' first
    | with_reducible assumption
    | intro _
    | (extract_lets -merge +onlyGivenNames x; refine (have hx : Frame [.regs, .press, .sects] s0 x := ?_; ?_); rotate_left; clear_value x; rotate_left; subst x)
    | (extract_lets -merge +onlyGivenNames x; clear_value x)
    | with_reducible exact Frame.refl _ _
    | with_reducible apply Frame.ite
    | with_reducible apply Frame.foldl
    | with_reducible apply Frame.via (State.clearPause_frame _ _) (by decide)
    | with_reducible apply Frame.via (State.goneAccess_frame _ _ _ _) (by decide)
    | split

theorem execSectionPaused_frame (s0 : State) (a0 : Fin 256) (a1 : Fin 4) : Completes (execSectionPaused a0 a1 s0) (Frame [.regs, .press, .sects] s0) := by
  unfold execSectionPaused
  refine ⟨_, rfl, ?_⟩
  repeat' first
    | with_reducible assumption
    | intro _
    | (extract_lets -merge +onlyGivenNames x; refine (have hx : Frame [.regs, .press, .sects] s0 x := ?_; ?_); rotate_left; clear_value x; rotate_left; subst x)
    | (extract_lets -merge +onlyGivenNames x; clear_value x)
    | with_reducible exact Frame.refl _ _
    | with_reducible apply Frame.ite
    | with_reducible apply Frame.foldl
    | with_reducible apply Frame.via (State.stripStart_frame _ _ _) (by decide)
    | with_reducible apply Frame.via (State.setSect_frame _ _ _ _) (by decide)
    | with_reducible apply Frame.via (State.pauseReached_frame _ _) (by decide)
    | split

theorem execTstartWrite_frame (s0 : State) (a0 : Fin 256) (a1 : Fin 4) (a2 : BitVec 8) : Completes (execTstartWrite a0 a1 a2 s0) (Frame [.regs] s0) := by
  unfold execTstartWrite
  refine ⟨_, rfl, ?_⟩
  repeat' first
    | with_reducible assumption
    | intro _
    | (extract_lets -merge +onlyGivenNames x; refine (have hx : Frame [.regs] s0 x := ?_; ?_); rotate_left; clear_value x; rotate_left; subst x)
    | (extract_lets -merge +onlyGivenNames x; clear_value x)
    | with_reducible exact Frame.refl _ _
    | with_reducible apply Frame.ite
    | with_reducible apply Frame.foldl
    | with_reducible apply Frame.via (State.writeTstart_frame _ _ _ _) (by decide)
    | with_reducible apply Frame.via (State.goneAccess_frame _ _ _ _) (by decide)
    | split

theorem State.startWake_frame (s0 : State) (a1 : Nat) (a2 : Nat) (a3 : Nat) : Frame [.regs] s0 (State.startWake s0 a1 a2 a3) := by
  unfold State.startWake
  repeat' first
    | with_reducible assumption
    | intro _
    | (extract_lets -merge +onlyGivenNames x; refine (have hx : Frame [.regs] s0 x := ?_; ?_); rotate_left; clear_value x; rotate_left; subst x)
    | (extract_lets -merge +onlyGivenNames x; clear_value x)
    | with_reducible exact Frame.refl _ _
    | with_reducible apply Frame.ite
    | with_reducible apply Frame.foldl
    | with_reducible apply Frame.via (State.setF_frame _ _ _ _ _) (by decide)
    | with_reducible apply Frame.via (State.incF_frame _ _ _ _ _) (by decide)
    | split

theorem State.wakeAll_frame (s0 : State) (a1 : Nat) (a2 : Nat) (a3 : List Nat) : Frame [.regs] s0 (State.wakeAll s0 a1 a2 a3) := by
  unfold State.wakeAll
  repeat' first
    | with_reducible assumption
    | intro _
    | (extract_lets -merge +onlyGivenNames x; refine (have hx : Frame [.regs] s0 x := ?_; ?_); rotate_left; clear_value x; rotate_left; subst x)
    | (extract_lets -merge +onlyGivenNames x; clear_value x)
    | with_reducible exact Frame.refl _ _
    | with_reducible apply Frame.ite
    | with_reducible apply Frame.foldl
    | with_reducible apply Frame.via (State.startWake_frame _ _ _ _) (by decide)
    | split

theorem State.tileIssue_frame (s0 : State) (a1 : Nat) (a2 : Nat) (a3 : Nat) (a4 : Nat) (a5 : PInstr) : Frame [.regs, .mem, .sects] s0 (State.tileIssue s0 a1 a2 a3 a4 a5) := by
  unfold State.tileIssue
  repeat' first
    | with_reducible assumption
    | intro _
    | (extract_lets -merge +onlyGivenNames x; refine (have hx : Frame [.regs, .mem, .sects] s0 x := ?_; ?_); rotate_left; clear_value x; rotate_left; subst x)
    | (extract_lets -merge +onlyGivenNames x; clear_value x)
    | with_reducible exact Frame.refl _ _
    | with_reducible apply Frame.ite
    | with_reducible apply Frame.foldl
    | with_reducible apply Frame.via (State.waitAt_frame _ _ _ _ _) (by decide)
    | with_reducible apply Frame.via (State.tileEffect_frame _ _ _ _ _ _) (by decide)
    | with_reducible apply Frame.via (State.wakeAll_frame _ _ _ _) (by decide)
    | split

theorem State.replayFill_frame (s0 : State) (a1 : Nat) (a2 : Nat) : Frame [.regs, .unison] s0 (State.replayFill s0 a1 a2).1 := by
  unfold State.replayFill
  repeat' first
    | with_reducible assumption
    | intro _
    | (extract_lets -merge +onlyGivenNames x; refine (have hx : Frame [.regs, .unison] s0 x := ?_; ?_); rotate_left; clear_value x; rotate_left; subst x)
    | (extract_lets -merge +onlyGivenNames x; clear_value x)
    | with_reducible exact Frame.refl _ _
    | with_reducible apply Frame.ite
    | with_reducible apply Frame.foldl
    | with_reducible apply Frame.via (State.incF_frame _ _ _ _ _) (by decide)
    | with_reducible apply Frame.via (State.setUnison_frame _ _) (by decide)
    | split

theorem State.request_frame (s0 : State) (a1 : Nat) (a2 : Nat) (a3 : Nat) (a4 : Nat) (a5 : Nat) : Frame [.regs, .mem, .queues, .qseq, .unison, .arb] s0 (State.request s0 a1 a2 a3 a4 a5) := by
  unfold State.request
  repeat' first
    | with_reducible assumption
    | intro _
    | (extract_lets -merge +onlyGivenNames x; refine (have hx : Frame [.regs, .mem, .queues, .qseq, .unison, .arb] s0 x := ?_; ?_); rotate_left; clear_value x; rotate_left; subst x)
    | (extract_lets -merge +onlyGivenNames x; refine (have hx : Frame [.regs, .mem, .queues, .qseq, .unison, .arb] s0 x.1 := ?_; ?_); rotate_left; clear_value x; rotate_left; subst x)
    | (extract_lets -merge +onlyGivenNames x; refine (have hf : _ → _ := x; ?_); clear hf; subst x)
    | (extract_lets -merge +onlyGivenNames x; clear_value x)
    | with_reducible exact Frame.refl _ _
    | with_reducible apply Frame.ite
    | with_reducible apply Frame.ite1
    | with_reducible apply Frame.foldl
    | with_reducible apply Frame.foldl1
    | with_reducible apply Frame.idf
    | with_reducible apply Frame.via (State.setBit_frame _ _ _ _) (by decide)
    | with_reducible apply Frame.via (State.setQueue_frame _ _ _ _) (by decide)
    | with_reducible apply Frame.via (State.landQueue_frame _ _ _) (by decide)
    | with_reducible apply Frame.via (State.stray_frame _ _ _ _) (by decide)
    | with_reducible apply Frame.via (State.replayFill_frame _ _ _) (by decide)
    | with_reducible refine Frame.via (Frame.of_eq1 (State.replayFill_frame _ _ _) (by assumption)) (by decide) ?_
    | split
    | with_reducible apply Frame.set_qseq _ (by decide)

theorem State.requests_frame (s0 : State) (a1 : Nat) (a2 : Nat) (a3 : Nat) (a4 : Nat) (a5 : Nat) (a6 : Nat) : Frame [.regs, .mem, .queues, .qseq, .unison, .arb] s0 (State.requests s0 a1 a2 a3 a4 a5 a6) := by
  unfold State.requests
  repeat' first
    | with_reducible assumption
    | intro _
    | (extract_lets -merge +onlyGivenNames x; refine (have hx : Frame [.regs, .mem, .queues, .qseq, .unison, .arb] s0 x := ?_; ?_); rotate_left; clear_value x; rotate_left; subst x)
    | (extract_lets -merge +onlyGivenNames x; refine (have hx : Frame [.regs, .mem, .queues, .qseq, .unison, .arb] s0 x.1 := ?_; ?_); rotate_left; clear_value x; rotate_left; subst x)
    | (extract_lets -merge +onlyGivenNames x; refine (have hf : _ → _ := x; ?_); clear hf; subst x)
    | (extract_lets -merge +onlyGivenNames x; clear_value x)
    | with_reducible exact Frame.refl _ _
    | with_reducible apply Frame.ite
    | with_reducible apply Frame.ite1
    | with_reducible apply Frame.foldl
    | with_reducible apply Frame.foldl1
    | with_reducible apply Frame.idf
    | with_reducible apply Frame.via (State.request_frame _ _ _ _ _ _) (by decide)
    | split

theorem State.placeRequests_frame (s0 : State) (a1 : Nat) (a2 : Nat) (a3 : Nat) (a4 : Nat) (a5 : Nat) (a6 : Nat) (a7 : Nat) (a8 : Nat) : Frame [.regs, .mem, .sects, .queues, .qseq, .unison, .arb] s0 (State.placeRequests s0 a1 a2 a3 a4 a5 a6 a7 a8) := by
  unfold State.placeRequests
  repeat' first
    | with_reducible assumption
    | intro _
    | (extract_lets -merge +onlyGivenNames x; refine (have hx : Frame [.regs, .mem, .sects, .queues, .qseq, .unison, .arb] s0 x := ?_; ?_); rotate_left; clear_value x; rotate_left; subst x)
    | (extract_lets -merge +onlyGivenNames x; clear_value x)
    | with_reducible exact Frame.refl _ _
    | with_reducible apply Frame.ite
    | with_reducible apply Frame.foldl
    | with_reducible apply Frame.via (State.incF_frame _ _ _ _ _) (by decide)
    | with_reducible apply Frame.via (State.waitAt_frame _ _ _ _ _) (by decide)
    | with_reducible apply Frame.via (State.retireAt_frame _ _ _ _ _) (by decide)
    | with_reducible apply Frame.via (State.requests_frame _ _ _ _ _ _ _) (by decide)
    | split

theorem execAcvt_frame (s0 : State) (a0 : Fin 256) (a1 : Fin 4) (a2 : Stalls) : Completes (execAcvt a0 a1 a2 s0) (Frame [.regs, .mem, .sects] s0) := by
  unfold execAcvt
  refine ⟨_, rfl, ?_⟩
  repeat' first
    | with_reducible assumption
    | intro _
    | (extract_lets -merge +onlyGivenNames x; refine (have hx : Frame [.regs, .mem, .sects] s0 x := ?_; ?_); rotate_left; clear_value x; rotate_left; subst x)
    | (extract_lets -merge +onlyGivenNames x; clear_value x)
    | with_reducible exact Frame.refl _ _
    | with_reducible apply Frame.ite
    | with_reducible apply Frame.foldl
    | with_reducible refine State.partRow_frame _ _ _ _ _ _ _ (by decide) ?_ (fun _ _ _ _ => ?_)
    | with_reducible apply Frame.via (State.tileIssue_frame _ _ _ _ _ _) (by decide)
    | split

theorem execAld_frame (s0 : State) (a0 : Fin 256) (a1 : Fin 4) (a2 : Stalls) : Completes (execAld a0 a1 a2 s0) (Frame [.regs, .sects] s0) := by
  unfold execAld
  refine ⟨_, rfl, ?_⟩
  repeat' first
    | with_reducible assumption
    | intro _
    | (extract_lets -merge +onlyGivenNames x; refine (have hx : Frame [.regs, .sects] s0 x := ?_; ?_); rotate_left; clear_value x; rotate_left; subst x)
    | (extract_lets -merge +onlyGivenNames x; clear_value x)
    | with_reducible exact Frame.refl _ _
    | with_reducible apply Frame.ite
    | with_reducible apply Frame.foldl
    | with_reducible refine State.partRow_frame _ _ _ _ _ _ _ (by decide) ?_ (fun _ _ _ _ => ?_)
    | with_reducible apply Frame.via (State.loadBoard_frame _ _ _ _ _ _ _) (by decide)
    | split

theorem execAred_frame (s0 : State) (a0 : Fin 256) (a1 : Fin 4) (a2 : Stalls) : Completes (execAred a0 a1 a2 s0) (Frame [.regs, .sects] s0) := by
  unfold execAred
  refine ⟨_, rfl, ?_⟩
  repeat' first
    | with_reducible assumption
    | intro _
    | (extract_lets -merge +onlyGivenNames x; refine (have hx : Frame [.regs, .sects] s0 x := ?_; ?_); rotate_left; clear_value x; rotate_left; subst x)
    | (extract_lets -merge +onlyGivenNames x; clear_value x)
    | with_reducible exact Frame.refl _ _
    | with_reducible apply Frame.ite
    | with_reducible apply Frame.foldl
    | with_reducible refine State.partRow_frame _ _ _ _ _ _ _ (by decide) ?_ (fun _ _ _ _ => ?_)
    | with_reducible apply Frame.via (State.retireAt_frame _ _ _ _ _) (by decide)
    | split

theorem execAst_frame (s0 : State) (a0 : Fin 256) (a1 : Fin 4) (a2 : Stalls) : Completes (execAst a0 a1 a2 s0) (Frame [.regs, .mem, .sects] s0) := by
  unfold execAst
  refine ⟨_, rfl, ?_⟩
  repeat' first
    | with_reducible assumption
    | intro _
    | (extract_lets -merge +onlyGivenNames x; refine (have hx : Frame [.regs, .mem, .sects] s0 x := ?_; ?_); rotate_left; clear_value x; rotate_left; subst x)
    | (extract_lets -merge +onlyGivenNames x; clear_value x)
    | with_reducible exact Frame.refl _ _
    | with_reducible apply Frame.ite
    | with_reducible apply Frame.foldl
    | with_reducible refine State.partRow_frame _ _ _ _ _ _ _ (by decide) ?_ (fun _ _ _ _ => ?_)
    | with_reducible apply Frame.via (State.storeBoard_frame _ _ _ _ _ _) (by decide)
    | split

theorem execAvop_frame (s0 : State) (a0 : Fin 256) (a1 : Fin 4) (a2 : Stalls) : Completes (execAvop a0 a1 a2 s0) (Frame [.regs, .sects] s0) := by
  unfold execAvop
  refine ⟨_, rfl, ?_⟩
  repeat' first
    | with_reducible assumption
    | intro _
    | (extract_lets -merge +onlyGivenNames x; refine (have hx : Frame [.regs, .sects] s0 x := ?_; ?_); rotate_left; clear_value x; rotate_left; subst x)
    | (extract_lets -merge +onlyGivenNames x; clear_value x)
    | with_reducible exact Frame.refl _ _
    | with_reducible apply Frame.ite
    | with_reducible apply Frame.foldl
    | with_reducible refine State.partRow_frame _ _ _ _ _ _ _ (by decide) ?_ (fun _ _ _ _ => ?_)
    | with_reducible apply Frame.via (State.retireAt_frame _ _ _ _ _) (by decide)
    | split

theorem execAzero_frame (s0 : State) (a0 : Fin 256) (a1 : Fin 4) (a2 : Stalls) : Completes (execAzero a0 a1 a2 s0) (Frame [.regs, .sects] s0) := by
  unfold execAzero
  refine ⟨_, rfl, ?_⟩
  repeat' first
    | with_reducible assumption
    | intro _
    | (extract_lets -merge +onlyGivenNames x; refine (have hx : Frame [.regs, .sects] s0 x := ?_; ?_); rotate_left; clear_value x; rotate_left; subst x)
    | (extract_lets -merge +onlyGivenNames x; clear_value x)
    | with_reducible exact Frame.refl _ _
    | with_reducible apply Frame.ite
    | with_reducible apply Frame.foldl
    | with_reducible refine State.partRow_frame _ _ _ _ _ _ _ (by decide) ?_ (fun _ _ _ _ => ?_)
    | with_reducible apply Frame.via (State.retireAt_frame _ _ _ _ _) (by decide)
    | split

theorem execBankset_frame (s0 : State) (a0 : Fin 256) (a1 : Fin 4) (a2 : Stalls) : Completes (execBankset a0 a1 a2 s0) (Frame [.regs, .sects] s0) := by
  unfold execBankset
  refine ⟨_, rfl, ?_⟩
  repeat' first
    | with_reducible assumption
    | intro _
    | (extract_lets -merge +onlyGivenNames x; refine (have hx : Frame [.regs, .sects] s0 x := ?_; ?_); rotate_left; clear_value x; rotate_left; subst x)
    | (extract_lets -merge +onlyGivenNames x; clear_value x)
    | with_reducible exact Frame.refl _ _
    | with_reducible apply Frame.ite
    | with_reducible apply Frame.foldl
    | with_reducible apply Frame.via (State.writeGate_frame _ _ _ _) (by decide)
    | with_reducible refine State.partRow_frame _ _ _ _ _ _ _ (by decide) ?_ (fun _ _ _ _ => ?_)
    | with_reducible apply Frame.via (State.retireAt_frame _ _ _ _ _) (by decide)
    | split

theorem execCuewait_frame (s0 : State) (a0 : Fin 256) (a1 : Fin 4) (a2 : Stalls) : Completes (execCuewait a0 a1 a2 s0) (Frame [.regs, .sects] s0) := by
  unfold execCuewait
  refine ⟨_, rfl, ?_⟩
  repeat' first
    | with_reducible assumption
    | intro _
    | (extract_lets -merge +onlyGivenNames x; refine (have hx : Frame [.regs, .sects] s0 x := ?_; ?_); rotate_left; clear_value x; rotate_left; subst x)
    | (extract_lets -merge +onlyGivenNames x; clear_value x)
    | with_reducible exact Frame.refl _ _
    | with_reducible apply Frame.ite
    | with_reducible apply Frame.foldl
    | with_reducible apply Frame.via (State.incF_frame _ _ _ _ _) (by decide)
    | with_reducible refine State.partRow_frame _ _ _ _ _ _ _ (by decide) ?_ (fun _ _ _ _ => ?_)
    | with_reducible apply Frame.via (State.waitAt_frame _ _ _ _ _) (by decide)
    | with_reducible apply Frame.via (State.retireAt_frame _ _ _ _ _) (by decide)
    | split

theorem execEndPart_frame (s0 : State) (a0 : Fin 256) (a1 : Fin 4) (a2 : Stalls) : Completes (execEndPart a0 a1 a2 s0) (Frame [.regs, .sects] s0) := by
  unfold execEndPart
  refine ⟨_, rfl, ?_⟩
  repeat' first
    | with_reducible assumption
    | intro _
    | (extract_lets -merge +onlyGivenNames x; refine (have hx : Frame [.regs, .sects] s0 x := ?_; ?_); rotate_left; clear_value x; rotate_left; subst x)
    | (extract_lets -merge +onlyGivenNames x; clear_value x)
    | with_reducible exact Frame.refl _ _
    | with_reducible apply Frame.ite
    | with_reducible apply Frame.foldl
    | with_reducible apply Frame.via (State.setSect_frame _ _ _ _) (by decide)
    | with_reducible refine State.partRow_frame _ _ _ _ _ _ _ (by decide) ?_ (fun _ _ _ _ => ?_)
    | with_reducible apply Frame.via (State.waitAt_frame _ _ _ _ _) (by decide)
    | split

theorem execEndl_frame (s0 : State) (a0 : Fin 256) (a1 : Fin 4) (a2 : Stalls) : Completes (execEndl a0 a1 a2 s0) (Frame [.regs, .sects] s0) := by
  unfold execEndl
  refine ⟨_, rfl, ?_⟩
  repeat' first
    | with_reducible assumption
    | intro _
    | (extract_lets -merge +onlyGivenNames x; refine (have hx : Frame [.regs, .sects] s0 x := ?_; ?_); rotate_left; clear_value x; rotate_left; subst x)
    | (extract_lets -merge +onlyGivenNames x; clear_value x)
    | with_reducible exact Frame.refl _ _
    | with_reducible apply Frame.ite
    | with_reducible apply Frame.foldl
    | with_reducible apply Frame.via (State.setSect_frame _ _ _ _) (by decide)
    | with_reducible refine State.partRow_frame _ _ _ _ _ _ _ (by decide) ?_ (fun _ _ _ _ => ?_)
    | with_reducible apply Frame.via (State.retireAt_frame _ _ _ _ _) (by decide)
    | split

theorem execLoop_frame (s0 : State) (a0 : Fin 256) (a1 : Fin 4) (a2 : Stalls) : Completes (execLoop a0 a1 a2 s0) (Frame [.regs, .sects] s0) := by
  unfold execLoop
  refine ⟨_, rfl, ?_⟩
  repeat' first
    | with_reducible assumption
    | intro _
    | (extract_lets -merge +onlyGivenNames x; refine (have hx : Frame [.regs, .sects] s0 x := ?_; ?_); rotate_left; clear_value x; rotate_left; subst x)
    | (extract_lets -merge +onlyGivenNames x; clear_value x)
    | with_reducible exact Frame.refl _ _
    | with_reducible apply Frame.ite
    | with_reducible apply Frame.foldl
    | with_reducible refine State.partRow_frame _ _ _ _ _ _ _ (by decide) ?_ (fun _ _ _ _ => ?_)
    | with_reducible apply Frame.via (State.retireAt_frame _ _ _ _ _) (by decide)
    | split

theorem execMma_frame (s0 : State) (a0 : Fin 256) (a1 : Fin 4) (a2 : Stalls) : Completes (execMma a0 a1 a2 s0) (Frame [.regs, .mem, .sects] s0) := by
  unfold execMma
  refine ⟨_, rfl, ?_⟩
  repeat' first
    | with_reducible assumption
    | intro _
    | (extract_lets -merge +onlyGivenNames x; refine (have hx : Frame [.regs, .mem, .sects] s0 x := ?_; ?_); rotate_left; clear_value x; rotate_left; subst x)
    | (extract_lets -merge +onlyGivenNames x; clear_value x)
    | with_reducible exact Frame.refl _ _
    | with_reducible apply Frame.ite
    | with_reducible apply Frame.foldl
    | with_reducible refine State.partRow_frame _ _ _ _ _ _ _ (by decide) ?_ (fun _ _ _ _ => ?_)
    | with_reducible apply Frame.via (State.tileIssue_frame _ _ _ _ _ _) (by decide)
    | split

theorem execMmas_frame (s0 : State) (a0 : Fin 256) (a1 : Fin 4) (a2 : Stalls) (a3 : Nat) : Completes (execMmas a0 a1 a2 a3 s0) (Frame [.regs, .mem, .sects] s0) := by
  unfold execMmas
  refine ⟨_, rfl, ?_⟩
  repeat' first
    | with_reducible assumption
    | intro _
    | (extract_lets -merge +onlyGivenNames x; refine (have hx : Frame [.regs, .mem, .sects] s0 x := ?_; ?_); rotate_left; clear_value x; rotate_left; subst x)
    | (extract_lets -merge +onlyGivenNames x; clear_value x)
    | with_reducible exact Frame.refl _ _
    | with_reducible apply Frame.ite
    | with_reducible apply Frame.foldl
    | with_reducible refine State.partRow_frame _ _ _ _ _ _ _ (by decide) ?_ (fun _ _ _ _ => ?_)
    | with_reducible apply Frame.via (State.tileIssue_frame _ _ _ _ _ _) (by decide)
    | split

theorem execNop_frame (s0 : State) (a0 : Fin 256) (a1 : Fin 4) (a2 : Stalls) : Completes (execNop a0 a1 a2 s0) (Frame [.regs, .sects] s0) := by
  unfold execNop
  refine ⟨_, rfl, ?_⟩
  repeat' first
    | with_reducible assumption
    | intro _
    | (extract_lets -merge +onlyGivenNames x; refine (have hx : Frame [.regs, .sects] s0 x := ?_; ?_); rotate_left; clear_value x; rotate_left; subst x)
    | (extract_lets -merge +onlyGivenNames x; clear_value x)
    | with_reducible exact Frame.refl _ _
    | with_reducible apply Frame.ite
    | with_reducible apply Frame.foldl
    | with_reducible refine State.partRow_frame _ _ _ _ _ _ _ (by decide) ?_ (fun _ _ _ _ => ?_)
    | with_reducible apply Frame.via (State.retireAt_frame _ _ _ _ _) (by decide)
    | split

theorem execQld_frame (s0 : State) (a0 : Fin 256) (a1 : Fin 4) (a2 : Stalls) : Completes (execQld a0 a1 a2 s0) (Frame [.regs, .mem, .sects, .queues, .qseq, .unison, .arb] s0) := by
  unfold execQld
  refine ⟨_, rfl, ?_⟩
  repeat' first
    | with_reducible assumption
    | intro _
    | (extract_lets -merge +onlyGivenNames x; refine (have hx : Frame [.regs, .mem, .sects, .queues, .qseq, .unison, .arb] s0 x := ?_; ?_); rotate_left; clear_value x; rotate_left; subst x)
    | (extract_lets -merge +onlyGivenNames x; clear_value x)
    | with_reducible exact Frame.refl _ _
    | with_reducible apply Frame.ite
    | with_reducible apply Frame.foldl
    | with_reducible refine State.partRow_frame _ _ _ _ _ _ _ (by decide) ?_ (fun _ _ _ _ => ?_)
    | with_reducible apply Frame.via (State.placeRequests_frame _ _ _ _ _ _ _ _ _) (by decide)
    | split

theorem execQst_frame (s0 : State) (a0 : Fin 256) (a1 : Fin 4) (a2 : Stalls) : Completes (execQst a0 a1 a2 s0) (Frame [.regs, .mem, .sects, .queues, .qseq, .unison, .arb] s0) := by
  unfold execQst
  refine ⟨_, rfl, ?_⟩
  repeat' first
    | with_reducible assumption
    | intro _
    | (extract_lets -merge +onlyGivenNames x; refine (have hx : Frame [.regs, .mem, .sects, .queues, .qseq, .unison, .arb] s0 x := ?_; ?_); rotate_left; clear_value x; rotate_left; subst x)
    | (extract_lets -merge +onlyGivenNames x; clear_value x)
    | with_reducible exact Frame.refl _ _
    | with_reducible apply Frame.ite
    | with_reducible apply Frame.foldl
    | with_reducible refine State.partRow_frame _ _ _ _ _ _ _ (by decide) ?_ (fun _ _ _ _ => ?_)
    | with_reducible apply Frame.via (State.placeRequests_frame _ _ _ _ _ _ _ _ _) (by decide)
    | split

theorem execQwait_frame (s0 : State) (a0 : Fin 256) (a1 : Fin 4) (a2 : Stalls) : Completes (execQwait a0 a1 a2 s0) (Frame [.regs, .sects] s0) := by
  unfold execQwait
  refine ⟨_, rfl, ?_⟩
  repeat' first
    | with_reducible assumption
    | intro _
    | (extract_lets -merge +onlyGivenNames x; refine (have hx : Frame [.regs, .sects] s0 x := ?_; ?_); rotate_left; clear_value x; rotate_left; subst x)
    | (extract_lets -merge +onlyGivenNames x; clear_value x)
    | with_reducible exact Frame.refl _ _
    | with_reducible apply Frame.ite
    | with_reducible apply Frame.foldl
    | with_reducible apply Frame.via (State.incF_frame _ _ _ _ _) (by decide)
    | with_reducible refine State.partRow_frame _ _ _ _ _ _ _ (by decide) ?_ (fun _ _ _ _ => ?_)
    | with_reducible apply Frame.via (State.waitAt_frame _ _ _ _ _) (by decide)
    | with_reducible apply Frame.via (State.retireAt_frame _ _ _ _ _) (by decide)
    | split

theorem execSync_frame (s0 : State) (a0 : Fin 256) (a1 : Fin 4) (a2 : Stalls) : Completes (execSync a0 a1 a2 s0) (Frame [.regs, .sects] s0) := by
  unfold execSync
  refine ⟨_, rfl, ?_⟩
  repeat' first
    | with_reducible assumption
    | intro _
    | (extract_lets -merge +onlyGivenNames x; refine (have hx : Frame [.regs, .sects] s0 x := ?_; ?_); rotate_left; clear_value x; rotate_left; subst x)
    | (extract_lets -merge +onlyGivenNames x; clear_value x)
    | with_reducible exact Frame.refl _ _
    | with_reducible apply Frame.ite
    | with_reducible apply Frame.foldl
    | with_reducible apply Frame.via (State.incF_frame _ _ _ _ _) (by decide)
    | with_reducible refine State.partRow_frame _ _ _ _ _ _ _ (by decide) ?_ (fun _ _ _ _ => ?_)
    | with_reducible apply Frame.via (State.waitAt_frame _ _ _ _ _) (by decide)
    | with_reducible apply Frame.via (State.retireAt_frame _ _ _ _ _) (by decide)
    | split

theorem execTime_frame (s0 : State) (a0 : Fin 256) (a1 : Fin 4) (a2 : Stalls) : Completes (execTime a0 a1 a2 s0) (Frame [.regs, .sects] s0) := by
  unfold execTime
  refine ⟨_, rfl, ?_⟩
  repeat' first
    | with_reducible assumption
    | intro _
    | (extract_lets -merge +onlyGivenNames x; refine (have hx : Frame [.regs, .sects] s0 x := ?_; ?_); rotate_left; clear_value x; rotate_left; subst x)
    | (extract_lets -merge +onlyGivenNames x; clear_value x)
    | with_reducible exact Frame.refl _ _
    | with_reducible apply Frame.ite
    | with_reducible apply Frame.foldl
    | with_reducible refine State.partRow_frame _ _ _ _ _ _ _ (by decide) ?_ (fun _ _ _ _ => ?_)
    | with_reducible apply Frame.via (State.retireAt_frame _ _ _ _ _) (by decide)
    | split

theorem execTld_frame (s0 : State) (a0 : Fin 256) (a1 : Fin 4) (a2 : Stalls) : Completes (execTld a0 a1 a2 s0) (Frame [.regs, .mem, .sects] s0) := by
  unfold execTld
  refine ⟨_, rfl, ?_⟩
  repeat' first
    | with_reducible assumption
    | intro _
    | (extract_lets -merge +onlyGivenNames x; refine (have hx : Frame [.regs, .mem, .sects] s0 x := ?_; ?_); rotate_left; clear_value x; rotate_left; subst x)
    | (extract_lets -merge +onlyGivenNames x; clear_value x)
    | with_reducible exact Frame.refl _ _
    | with_reducible apply Frame.ite
    | with_reducible apply Frame.foldl
    | with_reducible refine State.partRow_frame _ _ _ _ _ _ _ (by decide) ?_ (fun _ _ _ _ => ?_)
    | with_reducible apply Frame.via (State.tileIssue_frame _ _ _ _ _ _) (by decide)
    | split

theorem execTst_frame (s0 : State) (a0 : Fin 256) (a1 : Fin 4) (a2 : Stalls) : Completes (execTst a0 a1 a2 s0) (Frame [.regs, .mem, .sects] s0) := by
  unfold execTst
  refine ⟨_, rfl, ?_⟩
  repeat' first
    | with_reducible assumption
    | intro _
    | (extract_lets -merge +onlyGivenNames x; refine (have hx : Frame [.regs, .mem, .sects] s0 x := ?_; ?_); rotate_left; clear_value x; rotate_left; subst x)
    | (extract_lets -merge +onlyGivenNames x; clear_value x)
    | with_reducible exact Frame.refl _ _
    | with_reducible apply Frame.ite
    | with_reducible apply Frame.foldl
    | with_reducible refine State.partRow_frame _ _ _ _ _ _ _ (by decide) ?_ (fun _ _ _ _ => ?_)
    | with_reducible apply Frame.via (State.tileIssue_frame _ _ _ _ _ _) (by decide)
    | split

theorem execTtr_frame (s0 : State) (a0 : Fin 256) (a1 : Fin 4) (a2 : Stalls) : Completes (execTtr a0 a1 a2 s0) (Frame [.regs, .mem, .sects] s0) := by
  unfold execTtr
  refine ⟨_, rfl, ?_⟩
  repeat' first
    | with_reducible assumption
    | intro _
    | (extract_lets -merge +onlyGivenNames x; refine (have hx : Frame [.regs, .mem, .sects] s0 x := ?_; ?_); rotate_left; clear_value x; rotate_left; subst x)
    | (extract_lets -merge +onlyGivenNames x; clear_value x)
    | with_reducible exact Frame.refl _ _
    | with_reducible apply Frame.ite
    | with_reducible apply Frame.foldl
    | with_reducible refine State.partRow_frame _ _ _ _ _ _ _ (by decide) ?_ (fun _ _ _ _ => ?_)
    | with_reducible apply Frame.via (State.tileIssue_frame _ _ _ _ _ _) (by decide)
    | split

theorem execTzero_frame (s0 : State) (a0 : Fin 256) (a1 : Fin 4) (a2 : Stalls) : Completes (execTzero a0 a1 a2 s0) (Frame [.regs, .mem, .sects] s0) := by
  unfold execTzero
  refine ⟨_, rfl, ?_⟩
  repeat' first
    | with_reducible assumption
    | intro _
    | (extract_lets -merge +onlyGivenNames x; refine (have hx : Frame [.regs, .mem, .sects] s0 x := ?_; ?_); rotate_left; clear_value x; rotate_left; subst x)
    | (extract_lets -merge +onlyGivenNames x; clear_value x)
    | with_reducible exact Frame.refl _ _
    | with_reducible apply Frame.ite
    | with_reducible apply Frame.foldl
    | with_reducible refine State.partRow_frame _ _ _ _ _ _ _ (by decide) ?_ (fun _ _ _ _ => ?_)
    | with_reducible apply Frame.via (State.tileIssue_frame _ _ _ _ _ _) (by decide)
    | split

theorem execVadd_frame (s0 : State) (a0 : Fin 256) (a1 : Fin 4) (a2 : Stalls) : Completes (execVadd a0 a1 a2 s0) (Frame [.regs, .sects] s0) := by
  unfold execVadd
  refine ⟨_, rfl, ?_⟩
  repeat' first
    | with_reducible assumption
    | intro _
    | (extract_lets -merge +onlyGivenNames x; refine (have hx : Frame [.regs, .sects] s0 x := ?_; ?_); rotate_left; clear_value x; rotate_left; subst x)
    | (extract_lets -merge +onlyGivenNames x; clear_value x)
    | with_reducible exact Frame.refl _ _
    | with_reducible apply Frame.ite
    | with_reducible apply Frame.foldl
    | with_reducible refine State.partRow_frame _ _ _ _ _ _ _ (by decide) ?_ (fun _ _ _ _ => ?_)
    | with_reducible apply Frame.via (State.retireAt_frame _ _ _ _ _) (by decide)
    | split

theorem execVfma_frame (s0 : State) (a0 : Fin 256) (a1 : Fin 4) (a2 : Stalls) : Completes (execVfma a0 a1 a2 s0) (Frame [.regs, .sects] s0) := by
  unfold execVfma
  refine ⟨_, rfl, ?_⟩
  repeat' first
    | with_reducible assumption
    | intro _
    | (extract_lets -merge +onlyGivenNames x; refine (have hx : Frame [.regs, .sects] s0 x := ?_; ?_); rotate_left; clear_value x; rotate_left; subst x)
    | (extract_lets -merge +onlyGivenNames x; clear_value x)
    | with_reducible exact Frame.refl _ _
    | with_reducible apply Frame.ite
    | with_reducible apply Frame.foldl
    | with_reducible refine State.partRow_frame _ _ _ _ _ _ _ (by decide) ?_ (fun _ _ _ _ => ?_)
    | with_reducible apply Frame.via (State.retireAt_frame _ _ _ _ _) (by decide)
    | split

theorem execVld_frame (s0 : State) (a0 : Fin 256) (a1 : Fin 4) (a2 : Stalls) : Completes (execVld a0 a1 a2 s0) (Frame [.regs, .sects] s0) := by
  unfold execVld
  refine ⟨_, rfl, ?_⟩
  repeat' first
    | with_reducible assumption
    | intro _
    | (extract_lets -merge +onlyGivenNames x; refine (have hx : Frame [.regs, .sects] s0 x := ?_; ?_); rotate_left; clear_value x; rotate_left; subst x)
    | (extract_lets -merge +onlyGivenNames x; clear_value x)
    | with_reducible exact Frame.refl _ _
    | with_reducible apply Frame.ite
    | with_reducible apply Frame.foldl
    | with_reducible refine State.partRow_frame _ _ _ _ _ _ _ (by decide) ?_ (fun _ _ _ _ => ?_)
    | with_reducible apply Frame.via (State.loadBoard_frame _ _ _ _ _ _ _) (by decide)
    | split

theorem execVmax_frame (s0 : State) (a0 : Fin 256) (a1 : Fin 4) (a2 : Stalls) : Completes (execVmax a0 a1 a2 s0) (Frame [.regs, .sects] s0) := by
  unfold execVmax
  refine ⟨_, rfl, ?_⟩
  repeat' first
    | with_reducible assumption
    | intro _
    | (extract_lets -merge +onlyGivenNames x; refine (have hx : Frame [.regs, .sects] s0 x := ?_; ?_); rotate_left; clear_value x; rotate_left; subst x)
    | (extract_lets -merge +onlyGivenNames x; clear_value x)
    | with_reducible exact Frame.refl _ _
    | with_reducible apply Frame.ite
    | with_reducible apply Frame.foldl
    | with_reducible refine State.partRow_frame _ _ _ _ _ _ _ (by decide) ?_ (fun _ _ _ _ => ?_)
    | with_reducible apply Frame.via (State.retireAt_frame _ _ _ _ _) (by decide)
    | split

theorem execVmul_frame (s0 : State) (a0 : Fin 256) (a1 : Fin 4) (a2 : Stalls) : Completes (execVmul a0 a1 a2 s0) (Frame [.regs, .sects] s0) := by
  unfold execVmul
  refine ⟨_, rfl, ?_⟩
  repeat' first
    | with_reducible assumption
    | intro _
    | (extract_lets -merge +onlyGivenNames x; refine (have hx : Frame [.regs, .sects] s0 x := ?_; ?_); rotate_left; clear_value x; rotate_left; subst x)
    | (extract_lets -merge +onlyGivenNames x; clear_value x)
    | with_reducible exact Frame.refl _ _
    | with_reducible apply Frame.ite
    | with_reducible apply Frame.foldl
    | with_reducible refine State.partRow_frame _ _ _ _ _ _ _ (by decide) ?_ (fun _ _ _ _ => ?_)
    | with_reducible apply Frame.via (State.retireAt_frame _ _ _ _ _) (by decide)
    | split

theorem execVset_frame (s0 : State) (a0 : Fin 256) (a1 : Fin 4) (a2 : Stalls) : Completes (execVset a0 a1 a2 s0) (Frame [.regs, .sects] s0) := by
  unfold execVset
  refine ⟨_, rfl, ?_⟩
  repeat' first
    | with_reducible assumption
    | intro _
    | (extract_lets -merge +onlyGivenNames x; refine (have hx : Frame [.regs, .sects] s0 x := ?_; ?_); rotate_left; clear_value x; rotate_left; subst x)
    | (extract_lets -merge +onlyGivenNames x; clear_value x)
    | with_reducible exact Frame.refl _ _
    | with_reducible apply Frame.ite
    | with_reducible apply Frame.foldl
    | with_reducible refine State.partRow_frame _ _ _ _ _ _ _ (by decide) ?_ (fun _ _ _ _ => ?_)
    | with_reducible apply Frame.via (State.retireAt_frame _ _ _ _ _) (by decide)
    | split

theorem execVst_frame (s0 : State) (a0 : Fin 256) (a1 : Fin 4) (a2 : Stalls) : Completes (execVst a0 a1 a2 s0) (Frame [.regs, .mem, .sects] s0) := by
  unfold execVst
  refine ⟨_, rfl, ?_⟩
  repeat' first
    | with_reducible assumption
    | intro _
    | (extract_lets -merge +onlyGivenNames x; refine (have hx : Frame [.regs, .mem, .sects] s0 x := ?_; ?_); rotate_left; clear_value x; rotate_left; subst x)
    | (extract_lets -merge +onlyGivenNames x; clear_value x)
    | with_reducible exact Frame.refl _ _
    | with_reducible apply Frame.ite
    | with_reducible apply Frame.foldl
    | with_reducible refine State.partRow_frame _ _ _ _ _ _ _ (by decide) ?_ (fun _ _ _ _ => ?_)
    | with_reducible apply Frame.via (State.storeBoard_frame _ _ _ _ _ _) (by decide)
    | split

theorem State.reinstallParts_frame (s0 : State) : Frame [.regs, .press, .sects] s0 (State.reinstallParts s0) := by
  unfold State.reinstallParts
  repeat' first
    | with_reducible assumption
    | intro _
    | (extract_lets -merge +onlyGivenNames x; refine (have hx : Frame [.regs, .press, .sects] s0 x := ?_; ?_); rotate_left; clear_value x; rotate_left; subst x)
    | (extract_lets -merge +onlyGivenNames x; clear_value x)
    | with_reducible exact Frame.refl _ _
    | with_reducible apply Frame.ite
    | with_reducible apply Frame.foldl
    | with_reducible apply Frame.via (State.setPrs_frame _ _ _) (by decide)
    | with_reducible apply Frame.via (State.clearSections_frame _ _) (by decide)
    | split

theorem State.startPress_frame (s0 : State) (a1 : Nat) (a2 : Nat) : Frame [.sects] s0 (State.startPress s0 a1 a2) := by
  unfold State.startPress
  repeat' first
    | with_reducible assumption
    | intro _
    | (extract_lets -merge +onlyGivenNames x; refine (have hx : Frame [.sects] s0 x := ?_; ?_); rotate_left; clear_value x; rotate_left; subst x)
    | (extract_lets -merge +onlyGivenNames x; clear_value x)
    | with_reducible exact Frame.refl _ _
    | with_reducible apply Frame.ite
    | with_reducible apply Frame.foldl
    | with_reducible apply Frame.via (State.setSect_frame _ _ _ _) (by decide)
    | split

theorem State.clearRanks_frame (s0 : State) (a1 : Nat) : Frame [.regs] s0 (State.clearRanks s0 a1) := by
  unfold State.clearRanks
  repeat' first
    | with_reducible assumption
    | intro _
    | (extract_lets -merge +onlyGivenNames x; refine (have hx : Frame [.regs] s0 x := ?_; ?_); rotate_left; clear_value x; rotate_left; subst x)
    | (extract_lets -merge +onlyGivenNames x; clear_value x)
    | with_reducible exact Frame.refl _ _
    | with_reducible apply Frame.ite
    | with_reducible apply Frame.foldl
    | with_reducible apply Frame.via (State.setReg_frame _ _ _ _) (by decide)
    | split
    | with_reducible apply Frame.set_regs _ (by decide) (fun h => by first | exact h | exact Registers.wf_tput h | exact Registers.wf_tclear h | exact Registers.wf_nil)

theorem State.countRank_frame (s0 : State) (a1 : Nat) (a2 : Nat) (a3 : Nat) : Frame [.regs] s0 (State.countRank s0 a1 a2 a3) := by
  unfold State.countRank
  repeat' first
    | with_reducible assumption
    | intro _
    | (extract_lets -merge +onlyGivenNames x; refine (have hx : Frame [.regs] s0 x := ?_; ?_); rotate_left; clear_value x; rotate_left; subst x)
    | (extract_lets -merge +onlyGivenNames x; clear_value x)
    | with_reducible exact Frame.refl _ _
    | with_reducible apply Frame.ite
    | with_reducible apply Frame.foldl
    | with_reducible apply Frame.via (State.setF_frame _ _ _ _ _) (by decide)
    | split

theorem State.putRank_frame (s0 : State) (a1 : Nat) (a2 : Nat) (a3 : Nat) : Frame [.regs] s0 (State.putRank s0 a1 a2 a3) := by
  unfold State.putRank
  repeat' first
    | with_reducible assumption
    | intro _
    | (extract_lets -merge +onlyGivenNames x; refine (have hx : Frame [.regs] s0 x := ?_; ?_); rotate_left; clear_value x; rotate_left; subst x)
    | (extract_lets -merge +onlyGivenNames x; clear_value x)
    | with_reducible exact Frame.refl _ _
    | with_reducible apply Frame.ite
    | with_reducible apply Frame.foldl
    | with_reducible apply Frame.via (State.setReg_frame _ _ _ _) (by decide)
    | with_reducible apply Frame.via (State.countRank_frame _ _ _ _) (by decide)
    | split

theorem State.setSlice_frame (s0 : State) (a1 : Nat) (a2 : Bool) : Frame [.regs, .tacks] s0 (State.setSlice s0 a1 a2) := by
  unfold State.setSlice
  repeat' first
    | with_reducible assumption
    | intro _
    | (extract_lets -merge +onlyGivenNames x; refine (have hx : Frame [.regs, .tacks] s0 x := ?_; ?_); rotate_left; clear_value x; rotate_left; subst x)
    | (extract_lets -merge +onlyGivenNames x; clear_value x)
    | with_reducible exact Frame.refl _ _
    | with_reducible apply Frame.ite
    | with_reducible apply Frame.foldl
    | with_reducible apply Frame.via (State.setF_frame _ _ _ _ _) (by decide)
    | with_reducible apply Frame.via (State.clearRanks_frame _ _) (by decide)
    | split
    | with_reducible apply Frame.set_tacks _ (by decide)

theorem execFenceWrite_frame (s0 : State) (a0 : Fin 2) (a1 : BitVec 32) : Completes (execFenceWrite a0 a1 s0) (Frame [.regs] s0) := by
  unfold execFenceWrite
  refine ⟨_, rfl, ?_⟩
  repeat' first
    | with_reducible assumption
    | intro _
    | (extract_lets -merge +onlyGivenNames x; refine (have hx : Frame [.regs] s0 x := ?_; ?_); rotate_left; clear_value x; rotate_left; subst x)
    | (extract_lets -merge +onlyGivenNames x; clear_value x)
    | with_reducible exact Frame.refl _ _
    | with_reducible apply Frame.ite
    | with_reducible apply Frame.foldl
    | with_reducible apply Frame.via (State.writeFence_frame _ _ _) (by decide)
    | with_reducible apply Frame.via (State.goneAccess_frame _ _ _ _) (by decide)
    | split

theorem execRankTableWrite_frame (s0 : State) (a0 : Cmd) : Completes (execRankTableWrite a0 s0) (Frame [.regs, .mem, .front] s0) := by
  unfold execRankTableWrite
  refine ⟨_, rfl, ?_⟩
  repeat' first
    | with_reducible assumption
    | intro _
    | (extract_lets -merge +onlyGivenNames x; refine (have hx : Frame [.regs, .mem, .front] s0 x := ?_; ?_); rotate_left; clear_value x; rotate_left; subst x)
    | (extract_lets -merge +onlyGivenNames x; clear_value x)
    | with_reducible exact Frame.refl _ _
    | with_reducible apply Frame.ite
    | with_reducible apply Frame.foldl
    | with_reducible apply Frame.via (State.complete_frame _ _ _ _) (by decide)
    | with_reducible refine State.runCmd_frame _ _ _ _ _ (by decide) ?_ (fun _ => ?_)
    | with_reducible apply Frame.via (State.putRank_frame _ _ _ _) (by decide)
    | split

theorem execRnkChipWrite_frame (s0 : State) (a0 : Fin 2) (a1 : BitVec 32) : Completes (execRnkChipWrite a0 a1 s0) (Frame [.regs] s0) := by
  unfold execRnkChipWrite
  refine ⟨_, rfl, ?_⟩
  repeat' first
    | with_reducible assumption
    | intro _
    | (extract_lets -merge +onlyGivenNames x; refine (have hx : Frame [.regs] s0 x := ?_; ?_); rotate_left; clear_value x; rotate_left; subst x)
    | (extract_lets -merge +onlyGivenNames x; clear_value x)
    | with_reducible exact Frame.refl _ _
    | with_reducible apply Frame.ite
    | with_reducible apply Frame.foldl
    | with_reducible apply Frame.via (State.writeChip_frame _ _ _) (by decide)
    | with_reducible apply Frame.via (State.goneAccess_frame _ _ _ _) (by decide)
    | split

theorem execSliceSet_frame (s0 : State) (a0 : Cmd) : Completes (execSliceSet a0 s0) (Frame [.regs, .mem, .tacks, .front] s0) := by
  unfold execSliceSet
  refine ⟨_, rfl, ?_⟩
  repeat' first
    | with_reducible assumption
    | intro _
    | (extract_lets -merge +onlyGivenNames x; refine (have hx : Frame [.regs, .mem, .tacks, .front] s0 x := ?_; ?_); rotate_left; clear_value x; rotate_left; subst x)
    | (extract_lets -merge +onlyGivenNames x; clear_value x)
    | with_reducible exact Frame.refl _ _
    | with_reducible apply Frame.ite
    | with_reducible apply Frame.foldl
    | with_reducible apply Frame.via (State.complete_frame _ _ _ _) (by decide)
    | with_reducible refine State.runCmd_frame _ _ _ _ _ (by decide) ?_ (fun _ => ?_)
    | with_reducible apply Frame.via (State.setSlice_frame _ _ _) (by decide)
    | split

theorem State.acked_frame (s0 : State) (a1 : Nat) (a2 : Nat) : Frame [.eth] s0 (State.acked s0 a1 a2) := by
  unfold State.acked
  repeat' first
    | with_reducible assumption
    | intro _
    | (extract_lets -merge +onlyGivenNames x; refine (have hx : Frame [.eth] s0 x := ?_; ?_); rotate_left; clear_value x; rotate_left; subst x)
    | (extract_lets -merge +onlyGivenNames x; clear_value x)
    | with_reducible exact Frame.refl _ _
    | with_reducible apply Frame.ite
    | with_reducible apply Frame.foldl
    | with_reducible apply Frame.via (State.setEthQueue_frame _ _ _) (by decide)
    | with_reducible apply Frame.via (State.mapJobs_frame _ _ _ _) (by decide)
    | split

theorem State.adopt_frame (s0 : State) (a1 : Nat) (a2 : Nat) (a3 : List Byte) (a4 : Nat) : Frame [.eth] s0 (State.adopt s0 a1 a2 a3 a4) := by
  unfold State.adopt
  repeat' first
    | with_reducible assumption
    | intro _
    | (extract_lets -merge +onlyGivenNames x; refine (have hx : Frame [.eth] s0 x := ?_; ?_); rotate_left; clear_value x; rotate_left; subst x)
    | (extract_lets -merge +onlyGivenNames x; clear_value x)
    | with_reducible exact Frame.refl _ _
    | with_reducible apply Frame.ite
    | with_reducible apply Frame.foldl
    | with_reducible apply Frame.via (State.setEthQueue_frame _ _ _) (by decide)
    | with_reducible apply Frame.via (State.mapJobs_frame _ _ _ _) (by decide)
    | split

theorem State.landSegment_frame (s0 : State) (a1 : Nat) (a2 : RxFrame) (a3 : EthJob) : Frame [.regs, .mem, .press, .eth, .unison, .arb] s0 (State.landSegment s0 a1 a2 a3) := by
  unfold State.landSegment
  repeat' first
    | with_reducible assumption
    | intro _
    | (extract_lets -merge +onlyGivenNames x; refine (have hx : Frame [.regs, .mem, .press, .eth, .unison, .arb] s0 x := ?_; ?_); rotate_left; clear_value x; rotate_left; subst x)
    | (extract_lets -merge +onlyGivenNames x; clear_value x)
    | with_reducible exact Frame.refl _ _
    | with_reducible apply Frame.ite
    | with_reducible apply Frame.foldl
    | with_reducible apply Frame.via (State.setEthQueue_frame _ _ _) (by decide)
    | with_reducible apply Frame.via (State.mapJobs_frame _ _ _ _) (by decide)
    | with_reducible apply Frame.via (State.rbtAck_frame _ _) (by decide)
    | with_reducible apply Frame.via (State.dropFrame_frame _ _ _) (by decide)
    | with_reducible apply Frame.via (State.agentWrite_frame _ _ _ _ _ _) (by decide)
    | with_reducible refine Frame.via (Frame.of_eq1 (State.agentWrite_frame _ _ _ _ _ _) (by assumption)) (by decide) ?_
    | split

theorem State.rbtAnswer_frame {l : List Part} (s0 s : State) (p type n : Nat) (act : State → Nat → List Byte → State)
    (hl : [Part.regs, .eth].all (fun q => l.contains q) = true) (h : Frame l s0 s)
    (hb : ∀ t q b, Frame l s0 t → Frame l s0 (act t q b)) : Frame l s0 (s.rbtAnswer p type n act) := by
  unfold State.rbtAnswer
  split
  · exact h
  · refine Frame.ite (fun _ => h) (fun _ => ?_)
    rename_i f _ _ _ _
    have hd : Frame l s0 (s.dropFrame p f) := Frame.via ((State.dropFrame_frame _ _ _).mono (l := [Part.regs, .eth]) (by decide)) hl h
    refine Frame.ite (fun _ => ?_) (fun _ => ?_)
    · exact Frame.via ((State.ethCount_frame _ _ _ _).mono (l := [Part.regs, .eth]) (by decide)) hl hd
    · split
      · exact hb _ _ _ hd
      · exact hd

theorem State.restart_frame (s0 : State) (a1 : Nat) : Frame [.eth] s0 (State.restart s0 a1) := by
  unfold State.restart
  repeat' first
    | with_reducible assumption
    | intro _
    | (extract_lets -merge +onlyGivenNames x; refine (have hx : Frame [.eth] s0 x := ?_; ?_); rotate_left; clear_value x; rotate_left; subst x)
    | (extract_lets -merge +onlyGivenNames x; refine (have hx : Frame [.eth] s0 x.1 := ?_; ?_); rotate_left; clear_value x; rotate_left; subst x)
    | (extract_lets -merge +onlyGivenNames x; refine (have hf : _ → _ := x; ?_); clear hf; subst x)
    | (extract_lets -merge +onlyGivenNames x; clear_value x)
    | with_reducible exact Frame.refl _ _
    | with_reducible apply Frame.ite
    | with_reducible apply Frame.ite1
    | with_reducible apply Frame.foldl
    | with_reducible apply Frame.foldl1
    | with_reducible apply Frame.idf
    | with_reducible apply Frame.via (State.setEthQueue_frame _ _ _) (by decide)
    | with_reducible apply Frame.via (State.mapJobs_frame _ _ _ _) (by decide)
    | with_reducible apply Frame.via (State.takeEpoch_frame _) (by decide)
    | with_reducible refine Frame.via (Frame.of_eq1 (State.takeEpoch_frame _) (by assumption)) (by decide) ?_
    | split

end Sys2Proof.Machine
end

