-- ==== Sys2Proof/Laws/Frames8.lean ====
section
/-! SUPPORT. The frames of operations and commands of Rbt, ScoreLoad, ScoreOps, ScoreTime, Security, Sideband, SmServices,
UnisonOps: the parts that each may change. -/

namespace Sys2Proof.Machine

theorem execRbtAbortReceive_frame (s0 : State) (a0 : Fin 2) (a1 : Nat) : Completes (execRbtAbortReceive a0 a1 s0) (Frame [.regs, .eth] s0) := by
  unfold execRbtAbortReceive
  refine ⟨_, rfl, ?_⟩
  repeat' first
    | with_reducible assumption
    | intro _
    | (extract_lets -merge +onlyGivenNames x; refine (have hx : Frame [.regs, .eth] s0 x := ?_; ?_); rotate_left; clear_value x; rotate_left; subst x)
    | (extract_lets -merge +onlyGivenNames x; clear_value x)
    | with_reducible exact Frame.refl _ _
    | with_reducible apply Frame.ite
    | with_reducible apply Frame.foldl
    | with_reducible apply Frame.via (State.setBit_frame _ _ _ _) (by decide)
    | with_reducible apply Frame.via (State.ethCount_frame _ _ _ _) (by decide)
    | with_reducible apply Frame.via (State.mapJobs_frame _ _ _ _) (by decide)
    | with_reducible apply Frame.via (State.dropFrame_frame _ _ _) (by decide)
    | with_reducible apply Frame.via (State.restart_frame _ _) (by decide)
    | split

theorem execRbtAckReceive_frame (s0 : State) (a0 : Fin 2) (a1 : Nat) : Completes (execRbtAckReceive a0 a1 s0) (Frame [.regs, .eth] s0) := by
  unfold execRbtAckReceive
  refine ⟨_, rfl, ?_⟩
  repeat' first
    | with_reducible assumption
    | intro _
    | (extract_lets -merge +onlyGivenNames x; refine (have hx : Frame [.regs, .eth] s0 x := ?_; ?_); rotate_left; clear_value x; rotate_left; subst x)
    | (extract_lets -merge +onlyGivenNames x; clear_value x)
    | with_reducible exact Frame.refl _ _
    | with_reducible apply Frame.ite
    | with_reducible apply Frame.foldl
    | with_reducible apply Frame.via (State.acked_frame _ _ _) (by decide)
    | with_reducible refine State.rbtAnswer_frame _ _ _ _ _ _ (by decide) ?_ (fun _ _ _ _ => ?_)
    | split

theorem execRbtAckTimer_frame (s0 : State) (a0 : Fin 32) : Completes (execRbtAckTimer a0 s0) (Frame [.regs, .eth, .arb] s0) := by
  unfold execRbtAckTimer
  refine ⟨_, rfl, ?_⟩
  repeat' first
    | with_reducible assumption
    | intro _
    | (extract_lets -merge +onlyGivenNames x; refine (have hx : Frame [.regs, .eth, .arb] s0 x := ?_; ?_); rotate_left; clear_value x; rotate_left; subst x)
    | (extract_lets -merge +onlyGivenNames x; clear_value x)
    | with_reducible exact Frame.refl _ _
    | with_reducible apply Frame.ite
    | with_reducible apply Frame.foldl
    | with_reducible apply Frame.via (State.rbtAck_frame _ _) (by decide)
    | split

theorem execRbtDataReceive_frame (s0 : State) (a0 : Fin 32) (a1 : Nat) (a2 : Bool) : Completes (execRbtDataReceive a0 a1 a2 s0) (Frame [.regs, .mem, .press, .eth, .unison, .arb] s0) := by
  unfold execRbtDataReceive
  refine ⟨_, rfl, ?_⟩
  repeat' first
    | with_reducible assumption
    | intro _
    | (extract_lets -merge +onlyGivenNames x; refine (have hx : Frame [.regs, .mem, .press, .eth, .unison, .arb] s0 x := ?_; ?_); rotate_left; clear_value x; rotate_left; subst x)
    | (extract_lets -merge +onlyGivenNames x; clear_value x)
    | with_reducible exact Frame.refl _ _
    | with_reducible apply Frame.ite
    | with_reducible apply Frame.foldl
    | with_reducible apply Frame.via (State.setEthQueue_frame _ _ _) (by decide)
    | with_reducible apply Frame.via (State.ethCount_frame _ _ _ _) (by decide)
    | with_reducible apply Frame.via (State.rbtAbort_frame _ _ _ _ _ _ _ _ _) (by decide)
    | with_reducible apply Frame.via (State.rbtAck_frame _ _) (by decide)
    | with_reducible apply Frame.via (State.dropFrame_frame _ _ _) (by decide)
    | with_reducible apply Frame.via (State.adopt_frame _ _ _ _ _) (by decide)
    | with_reducible apply Frame.via (State.landSegment_frame _ _ _ _) (by decide)
    | split

theorem execRbtNakReceive_frame (s0 : State) (a0 : Fin 2) (a1 : Nat) : Completes (execRbtNakReceive a0 a1 s0) (Frame [.regs, .eth] s0) := by
  unfold execRbtNakReceive
  refine ⟨_, rfl, ?_⟩
  repeat' first
    | with_reducible assumption
    | intro _
    | (extract_lets -merge +onlyGivenNames x; refine (have hx : Frame [.regs, .eth] s0 x := ?_; ?_); rotate_left; clear_value x; rotate_left; subst x)
    | (extract_lets -merge +onlyGivenNames x; clear_value x)
    | with_reducible exact Frame.refl _ _
    | with_reducible apply Frame.ite
    | with_reducible apply Frame.foldl
    | with_reducible apply Frame.via (State.setEthQueue_frame _ _ _) (by decide)
    | with_reducible refine State.rbtAnswer_frame _ _ _ _ _ _ (by decide) ?_ (fun _ _ _ _ => ?_)
    | split

theorem execRbtNakTimer_frame (s0 : State) (a0 : Fin 32) : Completes (execRbtNakTimer a0 s0) (Frame [.regs, .eth, .arb] s0) := by
  unfold execRbtNakTimer
  refine ⟨_, rfl, ?_⟩
  repeat' first
    | with_reducible assumption
    | intro _
    | (extract_lets -merge +onlyGivenNames x; refine (have hx : Frame [.regs, .eth, .arb] s0 x := ?_; ?_); rotate_left; clear_value x; rotate_left; subst x)
    | (extract_lets -merge +onlyGivenNames x; clear_value x)
    | with_reducible exact Frame.refl _ _
    | with_reducible apply Frame.ite
    | with_reducible apply Frame.foldl
    | with_reducible apply Frame.via (State.rbtSend_frame _ _ _ _ _ _) (by decide)
    | split

theorem execRbtRto_frame (s0 : State) (a0 : Fin 32) : Completes (execRbtRto a0 s0) (Frame [.regs, .eth, .arb] s0) := by
  unfold execRbtRto
  refine ⟨_, rfl, ?_⟩
  repeat' first
    | with_reducible assumption
    | intro _
    | (extract_lets -merge +onlyGivenNames x; refine (have hx : Frame [.regs, .eth, .arb] s0 x := ?_; ?_); rotate_left; clear_value x; rotate_left; subst x)
    | (extract_lets -merge +onlyGivenNames x; clear_value x)
    | with_reducible exact Frame.refl _ _
    | with_reducible apply Frame.ite
    | with_reducible apply Frame.foldl
    | with_reducible apply Frame.via (State.setEthQueue_frame _ _ _) (by decide)
    | with_reducible apply Frame.via (State.abortMsg_frame _ _ _ _) (by decide)
    | split

theorem State.imageTest_frame (s0 : State) (a1 : Bool) (a2 : Bool) : Frame [.regs] s0 (State.imageTest s0 a1 a2) := by
  unfold State.imageTest
  repeat' first
    | with_reducible assumption
    | intro _
    | (extract_lets -merge +onlyGivenNames x; refine (have hx : Frame [.regs] s0 x := ?_; ?_); rotate_left; clear_value x; rotate_left; subst x)
    | (extract_lets -merge +onlyGivenNames x; clear_value x)
    | with_reducible exact Frame.refl _ _
    | with_reducible apply Frame.ite
    | with_reducible apply Frame.foldl
    | with_reducible apply Frame.via (State.testsRun_frame _ _ _) (by decide)
    | split

theorem State.install_frame (s0 : State) (a1 : Nat) (a2 : Nat) (a3 : Tempo) (a4 : List LinkCfg) (a5 : List DieImage) : Frame [.regs, .tempo, .links, .cond, .press, .sects, .score] s0 (State.install s0 a1 a2 a3 a4 a5) := by
  unfold State.install
  repeat' first
    | with_reducible assumption
    | intro _
    | (extract_lets -merge +onlyGivenNames x; refine (have hx : Frame [.regs, .tempo, .links, .cond, .press, .sects, .score] s0 x := ?_; ?_); rotate_left; clear_value x; rotate_left; subst x)
    | (extract_lets -merge +onlyGivenNames x; clear_value x)
    | with_reducible exact Frame.refl _ _
    | with_reducible apply Frame.ite
    | with_reducible apply Frame.foldl
    | with_reducible apply Frame.via (State.setReg_frame _ _ _ _) (by decide)
    | with_reducible apply Frame.via (State.setF_frame _ _ _ _ _) (by decide)
    | with_reducible apply Frame.via (State.setPrs_frame _ _ _) (by decide)
    | with_reducible apply Frame.via (State.setTempo_frame _ _) (by decide)
    | with_reducible apply Frame.via (State.setConductor_frame _ _ _) (by decide)
    | with_reducible apply Frame.via (State.clearSections_frame _ _) (by decide)
    | split
    | with_reducible apply Frame.set_links_score _ _ (by decide) (by decide)

theorem State.syncPatch_frame (s0 : State) : Frame [.regs] s0 (State.syncPatch s0) := by
  unfold State.syncPatch
  repeat' first
    | with_reducible assumption
    | intro _
    | (extract_lets -merge +onlyGivenNames x; refine (have hx : Frame [.regs] s0 x := ?_; ?_); rotate_left; clear_value x; rotate_left; subst x)
    | (extract_lets -merge +onlyGivenNames x; clear_value x)
    | with_reducible exact Frame.refl _ _
    | with_reducible apply Frame.ite
    | with_reducible apply Frame.foldl
    | with_reducible apply Frame.via (State.setF_frame _ _ _ _ _) (by decide)
    | split

theorem State.patchFlag_frame (s0 : State) (a1 : Fld) : Frame [.regs] s0 (State.patchFlag s0 a1) := by
  unfold State.patchFlag
  repeat' first
    | with_reducible assumption
    | intro _
    | (extract_lets -merge +onlyGivenNames x; refine (have hx : Frame [.regs] s0 x := ?_; ?_); rotate_left; clear_value x; rotate_left; subst x)
    | (extract_lets -merge +onlyGivenNames x; clear_value x)
    | with_reducible exact Frame.refl _ _
    | with_reducible apply Frame.ite
    | with_reducible apply Frame.foldl
    | with_reducible apply Frame.via (State.setBit_frame _ _ _ _) (by decide)
    | split

theorem State.discardLate_frame (s0 : State) (a1 : Patch) : Frame [.regs, .mem, .tempo, .patches, .arb, .front] s0 (State.discardLate s0 a1) := by
  unfold State.discardLate
  repeat' first
    | with_reducible assumption
    | intro _
    | (extract_lets -merge +onlyGivenNames x; refine (have hx : Frame [.regs, .mem, .tempo, .patches, .arb, .front] s0 x := ?_; ?_); rotate_left; clear_value x; rotate_left; subst x)
    | (extract_lets -merge +onlyGivenNames x; clear_value x)
    | with_reducible exact Frame.refl _ _
    | with_reducible apply Frame.ite
    | with_reducible apply Frame.foldl
    | with_reducible apply Frame.via (State.complete_frame _ _ _ _) (by decide)
    | with_reducible apply Frame.via (State.scoreFaultReq_frame _ _ _ _ _) (by decide)
    | with_reducible apply Frame.via (State.syncPatch_frame _) (by decide)
    | with_reducible apply Frame.via (State.patchFlag_frame _ _) (by decide)
    | split
    | with_reducible apply Frame.set_patches _ (by decide)

theorem execPatchLate_frame (s0 : State) : Completes (execPatchLate s0) (Frame [.regs, .mem, .tempo, .patches, .arb, .front] s0) := by
  unfold execPatchLate
  refine ⟨_, rfl, ?_⟩
  repeat' first
    | with_reducible assumption
    | intro _
    | (extract_lets -merge +onlyGivenNames x; refine (have hx : Frame [.regs, .mem, .tempo, .patches, .arb, .front] s0 x := ?_; ?_); rotate_left; clear_value x; rotate_left; subst x)
    | (extract_lets -merge +onlyGivenNames x; clear_value x)
    | with_reducible exact Frame.refl _ _
    | with_reducible apply Frame.ite
    | with_reducible apply Frame.foldl
    | with_reducible apply Frame.via (State.discardLate_frame _ _) (by decide)
    | split

theorem execPatchStageDone_frame (s0 : State) (a0 : Fin 10) : Completes (execPatchStageDone a0 s0) (Frame [.regs, .mem, .tempo, .patches, .arb, .front] s0) := by
  unfold execPatchStageDone
  refine ⟨_, rfl, ?_⟩
  repeat' first
    | with_reducible assumption
    | intro _
    | (extract_lets -merge +onlyGivenNames x; refine (have hx : Frame [.regs, .mem, .tempo, .patches, .arb, .front] s0 x := ?_; ?_); rotate_left; clear_value x; rotate_left; subst x)
    | (extract_lets -merge +onlyGivenNames x; clear_value x)
    | with_reducible exact Frame.refl _ _
    | with_reducible apply Frame.ite
    | with_reducible apply Frame.foldl
    | with_reducible apply Frame.via (State.complete_frame _ _ _ _) (by decide)
    | with_reducible apply Frame.via (State.syncPatch_frame _) (by decide)
    | with_reducible apply Frame.via (State.discardLate_frame _ _) (by decide)
    | split
    | with_reducible apply Frame.set_patches _ (by decide)

theorem execScoreLoad_frame (s0 : State) (a0 : Cmd) : Completes (execScoreLoad a0 s0) (Frame [.regs, .mem, .tempo, .links, .cond, .press, .sects, .score, .front] s0) := by
  unfold execScoreLoad
  refine ⟨_, rfl, ?_⟩
  repeat' first
    | with_reducible assumption
    | intro _
    | (extract_lets -merge +onlyGivenNames x; refine (have hx : Frame [.regs, .mem, .tempo, .links, .cond, .press, .sects, .score, .front] s0 x := ?_; ?_); rotate_left; clear_value x; rotate_left; subst x)
    | (extract_lets -merge +onlyGivenNames x; clear_value x)
    | with_reducible exact Frame.refl _ _
    | with_reducible apply Frame.ite
    | with_reducible apply Frame.foldl
    | with_reducible apply Frame.via (State.complete_frame _ _ _ _) (by decide)
    | with_reducible refine State.runCmd_frame _ _ _ _ _ (by decide) ?_ (fun _ => ?_)
    | with_reducible apply Frame.via (State.imageTest_frame _ _ _) (by decide)
    | with_reducible apply Frame.via (State.install_frame _ _ _ _ _ _) (by decide)
    | split

theorem execScorePatch_frame (s0 : State) (a0 : Cmd) : Completes (execScorePatch a0 s0) (Frame [.regs, .mem, .patches, .front] s0) := by
  unfold execScorePatch
  refine ⟨_, rfl, ?_⟩
  repeat' first
    | with_reducible assumption
    | intro _
    | (extract_lets -merge +onlyGivenNames x; refine (have hx : Frame [.regs, .mem, .patches, .front] s0 x := ?_; ?_); rotate_left; clear_value x; rotate_left; subst x)
    | (extract_lets -merge +onlyGivenNames x; clear_value x)
    | with_reducible exact Frame.refl _ _
    | with_reducible apply Frame.ite
    | with_reducible apply Frame.foldl
    | with_reducible apply Frame.via (State.complete_frame _ _ _ _) (by decide)
    | with_reducible refine State.runCmd_frame _ _ _ _ _ (by decide) ?_ (fun _ => ?_)
    | with_reducible apply Frame.via (State.imageTest_frame _ _ _) (by decide)
    | split
    | with_reducible apply Frame.set_patches _ (by decide)

theorem State.writeRec_frame (s0 : State) (a1 : PatchRec) : Frame [.cond, .press] s0 (State.writeRec s0 a1) := by
  unfold State.writeRec
  repeat' first
    | with_reducible assumption
    | intro _
    | (extract_lets -merge +onlyGivenNames x; refine (have hx : Frame [.cond, .press] s0 x := ?_; ?_); rotate_left; clear_value x; rotate_left; subst x)
    | (extract_lets -merge +onlyGivenNames x; clear_value x)
    | with_reducible exact Frame.refl _ _
    | with_reducible apply Frame.ite
    | with_reducible apply Frame.foldl
    | with_reducible apply Frame.via (State.setPrs_frame _ _ _) (by decide)
    | with_reducible apply Frame.via (State.setConductor_frame _ _ _) (by decide)
    | split

theorem State.applyPatches_frame (s0 : State) (a1 : Nat) : Frame [.regs, .mem, .tempo, .cond, .patches, .press, .arb, .front] s0 (State.applyPatches s0 a1) := by
  unfold State.applyPatches
  repeat' first
    | with_reducible assumption
    | intro _
    | (extract_lets -merge +onlyGivenNames x; refine (have hx : Frame [.regs, .mem, .tempo, .cond, .patches, .press, .arb, .front] s0 x := ?_; ?_); rotate_left; clear_value x; rotate_left; subst x)
    | (extract_lets -merge +onlyGivenNames x; clear_value x)
    | with_reducible exact Frame.refl _ _
    | with_reducible apply Frame.ite
    | with_reducible apply Frame.foldl
    | with_reducible apply Frame.via (State.scoreFaultReq_frame _ _ _ _ _) (by decide)
    | with_reducible apply Frame.via (State.syncPatch_frame _) (by decide)
    | with_reducible apply Frame.via (State.patchFlag_frame _ _) (by decide)
    | with_reducible apply Frame.via (State.discardLate_frame _ _) (by decide)
    | with_reducible apply Frame.via (State.writeRec_frame _ _) (by decide)
    | split
    | with_reducible apply Frame.set_patches _ (by decide)

theorem State.mapCond_frame (s0 : State) (a1 : Nat → Conductor → Conductor) : Frame [.cond] s0 (State.mapCond s0 a1) := by
  unfold State.mapCond
  repeat' first
    | with_reducible assumption
    | intro _
    | (extract_lets -merge +onlyGivenNames x; refine (have hx : Frame [.cond] s0 x := ?_; ?_); rotate_left; clear_value x; rotate_left; subst x)
    | (extract_lets -merge +onlyGivenNames x; clear_value x)
    | with_reducible exact Frame.refl _ _
    | with_reducible apply Frame.ite
    | with_reducible apply Frame.foldl
    | with_reducible apply Frame.via (State.setConductor_frame _ _ _) (by decide)
    | split

theorem State.closeDesks_frame (s0 : State) : Frame [.regs, .cond] s0 (State.closeDesks s0) := by
  unfold State.closeDesks
  repeat' first
    | with_reducible assumption
    | intro _
    | (extract_lets -merge +onlyGivenNames x; refine (have hx : Frame [.regs, .cond] s0 x := ?_; ?_); rotate_left; clear_value x; rotate_left; subst x)
    | (extract_lets -merge +onlyGivenNames x; clear_value x)
    | with_reducible exact Frame.refl _ _
    | with_reducible apply Frame.ite
    | with_reducible apply Frame.foldl
    | with_reducible apply Frame.via (State.setF_frame _ _ _ _ _) (by decide)
    | with_reducible apply Frame.via (State.mapCond_frame _ _) (by decide)
    | split

theorem State.captureEnd_frame (s0 : State) : Frame [.regs] s0 (State.captureEnd s0) := by
  unfold State.captureEnd
  repeat' first
    | with_reducible assumption
    | intro _
    | (extract_lets -merge +onlyGivenNames x; refine (have hx : Frame [.regs] s0 x := ?_; ?_); rotate_left; clear_value x; rotate_left; subst x)
    | (extract_lets -merge +onlyGivenNames x; clear_value x)
    | with_reducible exact Frame.refl _ _
    | with_reducible apply Frame.ite
    | with_reducible apply Frame.foldl
    | with_reducible apply Frame.via (State.setF_frame _ _ _ _ _) (by decide)
    | split

theorem State.captureLate_frame (s0 : State) : Frame [.regs, .mem, .front] s0 (State.captureLate s0) := by
  unfold State.captureLate
  repeat' first
    | with_reducible assumption
    | intro _
    | (extract_lets -merge +onlyGivenNames x; refine (have hx : Frame [.regs, .mem, .front] s0 x := ?_; ?_); rotate_left; clear_value x; rotate_left; subst x)
    | (extract_lets -merge +onlyGivenNames x; clear_value x)
    | with_reducible exact Frame.refl _ _
    | with_reducible apply Frame.ite
    | with_reducible apply Frame.foldl
    | with_reducible apply Frame.via (State.completeAll_frame _ _ _ _) (by decide)
    | split

theorem State.captureStart_frame (s0 : State) (a1 : Nat) : Frame [.regs] s0 (State.captureStart s0 a1) := by
  unfold State.captureStart
  repeat' first
    | with_reducible assumption
    | intro _
    | (extract_lets -merge +onlyGivenNames x; refine (have hx : Frame [.regs] s0 x := ?_; ?_); rotate_left; clear_value x; rotate_left; subst x)
    | (extract_lets -merge +onlyGivenNames x; clear_value x)
    | with_reducible exact Frame.refl _ _
    | with_reducible apply Frame.ite
    | with_reducible apply Frame.foldl
    | with_reducible apply Frame.via (State.setBit_frame _ _ _ _) (by decide)
    | split

theorem State.sendDownbeats_frame (s0 : State) : Frame [.linkTx] s0 (State.sendDownbeats s0) := by
  unfold State.sendDownbeats
  repeat' first
    | with_reducible assumption
    | intro _
    | (extract_lets -merge +onlyGivenNames x; refine (have hx : Frame [.linkTx] s0 x := ?_; ?_); rotate_left; clear_value x; rotate_left; subst x)
    | (extract_lets -merge +onlyGivenNames x; clear_value x)
    | with_reducible exact Frame.refl _ _
    | with_reducible apply Frame.ite
    | with_reducible apply Frame.foldl
    | with_reducible apply Frame.via (State.txFlit_frame _ _ _) (by decide)
    | split

theorem State.nextBar_frame (s0 : State) (a1 : Bool) (a2 : Bool) (a3 : Option Order) : Frame [.regs, .mem, .tempo, .cond, .patches, .press, .linkTx, .arb, .icu, .front] s0 (State.nextBar s0 a1 a2 a3) := by
  unfold State.nextBar
  repeat' first
    | with_reducible assumption
    | intro _
    | (extract_lets -merge +onlyGivenNames x; refine (have hx : Frame [.regs, .mem, .tempo, .cond, .patches, .press, .linkTx, .arb, .icu, .front] s0 x := ?_; ?_); rotate_left; clear_value x; rotate_left; subst x)
    | (extract_lets -merge +onlyGivenNames x; clear_value x)
    | with_reducible exact Frame.refl _ _
    | with_reducible apply Frame.ite
    | with_reducible apply Frame.foldl
    | with_reducible apply Frame.via (State.incF_frame _ _ _ _ _) (by decide)
    | with_reducible apply Frame.via (State.setTempo_frame _ _) (by decide)
    | with_reducible apply Frame.via (State.fermataRequest_frame _) (by decide)
    | with_reducible apply Frame.via (State.tempoEdge_frame _) (by decide)
    | with_reducible apply Frame.via (State.applyPatches_frame _ _) (by decide)
    | with_reducible apply Frame.via (State.captureLate_frame _) (by decide)
    | with_reducible apply Frame.via (State.captureStart_frame _ _) (by decide)
    | with_reducible apply Frame.via (State.sendDownbeats_frame _) (by decide)
    | split

theorem State.unClear_frame (s0 : State) : Frame [.regs, .unison] s0 (State.unClear s0) := by
  unfold State.unClear
  repeat' first
    | with_reducible assumption
    | intro _
    | (extract_lets -merge +onlyGivenNames x; refine (have hx : Frame [.regs, .unison] s0 x := ?_; ?_); rotate_left; clear_value x; rotate_left; subst x)
    | (extract_lets -merge +onlyGivenNames x; clear_value x)
    | with_reducible exact Frame.refl _ _
    | with_reducible apply Frame.ite
    | with_reducible apply Frame.foldl
    | with_reducible apply Frame.via (State.setF_frame _ _ _ _ _) (by decide)
    | with_reducible apply Frame.via (State.setUnison_frame _ _) (by decide)
    | split

theorem State.dropFermatas_frame (s0 : State) : Frame [.regs, .mem, .tempo, .front, .free] s0 (State.dropFermatas s0) := by
  unfold State.dropFermatas
  repeat' first
    | with_reducible assumption
    | intro _
    | (extract_lets -merge +onlyGivenNames x; refine (have hx : Frame [.regs, .mem, .tempo, .front, .free] s0 x := ?_; ?_); rotate_left; clear_value x; rotate_left; subst x)
    | (extract_lets -merge +onlyGivenNames x; clear_value x)
    | with_reducible exact Frame.refl _ _
    | with_reducible apply Frame.ite
    | with_reducible apply Frame.foldl
    | with_reducible apply Frame.via (State.useFree_frame _ _) (by decide)
    | with_reducible apply Frame.via (State.complete_frame _ _ _ _) (by decide)
    | with_reducible apply Frame.via (State.setTempo_frame _ _) (by decide)
    | split

theorem State.unload_frame (s0 : State) : Frame [.regs, .tempo, .links, .cond, .press, .sects] s0 (State.unload s0) := by
  unfold State.unload
  repeat' first
    | with_reducible assumption
    | intro _
    | (extract_lets -merge +onlyGivenNames x; refine (have hx : Frame [.regs, .tempo, .links, .cond, .press, .sects] s0 x := ?_; ?_); rotate_left; clear_value x; rotate_left; subst x)
    | (extract_lets -merge +onlyGivenNames x; clear_value x)
    | with_reducible exact Frame.refl _ _
    | with_reducible apply Frame.ite
    | with_reducible apply Frame.foldl
    | with_reducible apply Frame.via (State.setF_frame _ _ _ _ _) (by decide)
    | with_reducible apply Frame.via (State.setPrs_frame _ _ _) (by decide)
    | with_reducible apply Frame.via (State.clearSections_frame _ _) (by decide)
    | with_reducible apply Frame.via (State.mapCond_frame _ _) (by decide)
    | split
    | with_reducible apply Frame.set_tempo_links _ _ (by decide) (by decide)

theorem State.stopNow_frame (s0 : State) (a1 : Bool) : Frame [.regs, .mem, .tempo, .links, .cond, .patches, .press, .sects, .unison, .front, .free] s0 (State.stopNow s0 a1) := by
  unfold State.stopNow
  repeat' first
    | with_reducible assumption
    | intro _
    | (extract_lets -merge +onlyGivenNames x; refine (have hx : Frame [.regs, .mem, .tempo, .links, .cond, .patches, .press, .sects, .unison, .front, .free] s0 x := ?_; ?_); rotate_left; clear_value x; rotate_left; subst x)
    | (extract_lets -merge +onlyGivenNames x; clear_value x)
    | with_reducible exact Frame.refl _ _
    | with_reducible apply Frame.ite
    | with_reducible apply Frame.foldl
    | with_reducible apply Frame.via (State.setF_frame _ _ _ _ _) (by decide)
    | with_reducible apply Frame.via (State.complete_frame _ _ _ _) (by decide)
    | with_reducible apply Frame.via (State.setTempo_frame _ _) (by decide)
    | with_reducible apply Frame.via (State.stopPresses_frame _) (by decide)
    | with_reducible apply Frame.via (State.completeAll_frame _ _ _ _) (by decide)
    | with_reducible apply Frame.via (State.syncPatch_frame _) (by decide)
    | with_reducible apply Frame.via (State.patchFlag_frame _ _) (by decide)
    | with_reducible apply Frame.via (State.mapCond_frame _ _) (by decide)
    | with_reducible apply Frame.via (State.captureLate_frame _) (by decide)
    | with_reducible apply Frame.via (State.unClear_frame _) (by decide)
    | with_reducible apply Frame.via (State.dropFermatas_frame _) (by decide)
    | with_reducible apply Frame.via (State.unload_frame _) (by decide)
    | split
    | with_reducible apply Frame.set_patches _ (by decide)

theorem State.replayEnd_frame (s0 : State) (a1 : Cmd) : Frame [.regs, .mem, .tempo, .press, .sects, .score, .books, .unison, .front] s0 (State.replayEnd s0 a1) := by
  unfold State.replayEnd
  repeat' first
    | with_reducible assumption
    | intro _
    | (extract_lets -merge +onlyGivenNames x; refine (have hx : Frame [.regs, .mem, .tempo, .press, .sects, .score, .books, .unison, .front] s0 x := ?_; ?_); rotate_left; clear_value x; rotate_left; subst x)
    | (extract_lets -merge +onlyGivenNames x; clear_value x)
    | with_reducible exact Frame.refl _ _
    | with_reducible apply Frame.ite
    | with_reducible apply Frame.foldl
    | with_reducible apply Frame.via (State.complete_frame _ _ _ _) (by decide)
    | with_reducible apply Frame.via (State.replayStop_frame _) (by decide)
    | with_reducible apply Frame.via (State.replayItem_frame _ _) (by decide)
    | split

theorem State.barEnd_frame (s0 : State) : Frame [.regs, .mem, .tempo, .links, .cond, .patches, .press, .sects, .linkTx, .score, .books, .unison, .arb, .icu, .front, .free] s0 (State.barEnd s0) := by
  unfold State.barEnd
  repeat' first
    | with_reducible assumption
    | intro _
    | (extract_lets -merge +onlyGivenNames x; refine (have hx : Frame [.regs, .mem, .tempo, .links, .cond, .patches, .press, .sects, .linkTx, .score, .books, .unison, .arb, .icu, .front, .free] s0 x := ?_; ?_); rotate_left; clear_value x; rotate_left; subst x)
    | (extract_lets -merge +onlyGivenNames x; clear_value x)
    | with_reducible exact Frame.refl _ _
    | with_reducible apply Frame.ite
    | with_reducible apply Frame.foldl
    | with_reducible apply Frame.via (State.setTempo_frame _ _) (by decide)
    | with_reducible apply Frame.via (State.closeDesks_frame _) (by decide)
    | with_reducible apply Frame.via (State.captureEnd_frame _) (by decide)
    | with_reducible apply Frame.via (State.nextBar_frame _ _ _ _) (by decide)
    | with_reducible apply Frame.via (State.stopNow_frame _ _) (by decide)
    | with_reducible apply Frame.via (State.replayEnd_frame _ _) (by decide)
    | split

theorem State.disarm_frame (s0 : State) : Frame [.regs, .mem, .tempo, .front, .free] s0 (State.disarm s0) := by
  unfold State.disarm
  repeat' first
    | with_reducible assumption
    | intro _
    | (extract_lets -merge +onlyGivenNames x; refine (have hx : Frame [.regs, .mem, .tempo, .front, .free] s0 x := ?_; ?_); rotate_left; clear_value x; rotate_left; subst x)
    | (extract_lets -merge +onlyGivenNames x; clear_value x)
    | with_reducible exact Frame.refl _ _
    | with_reducible apply Frame.ite
    | with_reducible apply Frame.foldl
    | with_reducible apply Frame.via (State.useFree_frame _ _) (by decide)
    | with_reducible apply Frame.via (State.setTempo_frame _ _) (by decide)
    | with_reducible apply Frame.via (State.completeAll_frame _ _ _ _) (by decide)
    | split

theorem State.rewindTo_frame (s0 : State) (a1 : Nat) : Frame [.cond] s0 (State.rewindTo s0 a1) := by
  unfold State.rewindTo
  repeat' first
    | with_reducible assumption
    | intro _
    | (extract_lets -merge +onlyGivenNames x; refine (have hx : Frame [.cond] s0 x := ?_; ?_); rotate_left; clear_value x; rotate_left; subst x)
    | (extract_lets -merge +onlyGivenNames x; clear_value x)
    | with_reducible exact Frame.refl _ _
    | with_reducible apply Frame.ite
    | with_reducible apply Frame.foldl
    | with_reducible apply Frame.via (State.mapCond_frame _ _) (by decide)
    | split

theorem State.sendCountin_frame (s0 : State) (a1 : Nat) (a2 : Nat) (a3 : Nat) (a4 : Nat) (a5 : Nat) : Frame [.linkTx, .free] s0 (State.sendCountin s0 a1 a2 a3 a4 a5) := by
  unfold State.sendCountin
  repeat' first
    | with_reducible assumption
    | intro _
    | (extract_lets -merge +onlyGivenNames x; refine (have hx : Frame [.linkTx, .free] s0 x := ?_; ?_); rotate_left; clear_value x; rotate_left; subst x)
    | (extract_lets -merge +onlyGivenNames x; clear_value x)
    | with_reducible exact Frame.refl _ _
    | with_reducible apply Frame.ite
    | with_reducible apply Frame.foldl
    | with_reducible apply Frame.via (State.useFree_frame _ _) (by decide)
    | with_reducible apply Frame.via (State.txFlit_frame _ _ _) (by decide)
    | split

theorem State.adoptOrder_frame (s0 : State) (a1 : Nat) (a2 : Order) : Frame [.regs, .tempo, .arb] s0 (State.adoptOrder s0 a1 a2) := by
  unfold State.adoptOrder
  repeat' first
    | with_reducible assumption
    | intro _
    | (extract_lets -merge +onlyGivenNames x; refine (have hx : Frame [.regs, .tempo, .arb] s0 x := ?_; ?_); rotate_left; clear_value x; rotate_left; subst x)
    | (extract_lets -merge +onlyGivenNames x; clear_value x)
    | with_reducible exact Frame.refl _ _
    | with_reducible apply Frame.ite
    | with_reducible apply Frame.foldl
    | with_reducible apply Frame.via (State.setTempo_frame _ _) (by decide)
    | with_reducible apply Frame.via (State.tempoFault_frame _ _ _ _ _) (by decide)
    | split

theorem State.arm_frame (s0 : State) : Frame [.regs, .tempo, .cond, .press, .sects, .score, .books] s0 (State.arm s0) := by
  unfold State.arm
  repeat' first
    | with_reducible assumption
    | intro _
    | (extract_lets -merge +onlyGivenNames x; refine (have hx : Frame [.regs, .tempo, .cond, .press, .sects, .score, .books] s0 x := ?_; ?_); rotate_left; clear_value x; rotate_left; subst x)
    | (extract_lets -merge +onlyGivenNames x; clear_value x)
    | with_reducible exact Frame.refl _ _
    | with_reducible apply Frame.ite
    | with_reducible apply Frame.foldl
    | with_reducible apply Frame.via (State.setF_frame _ _ _ _ _) (by decide)
    | with_reducible apply Frame.via (State.setTempo_frame _ _) (by decide)
    | with_reducible apply Frame.via (State.reinstallParts_frame _) (by decide)
    | with_reducible apply Frame.via (State.rewindTo_frame _ _) (by decide)
    | split
    | with_reducible apply Frame.set_score _ (by decide)
    | with_reducible apply Frame.set_books _ (by decide)

theorem State.checkDrift_frame (s0 : State) (a1 : Nat) (a2 : Int) : Frame [.regs, .tempo, .arb] s0 (State.checkDrift s0 a1 a2) := by
  unfold State.checkDrift
  repeat' first
    | with_reducible assumption
    | intro _
    | (extract_lets -merge +onlyGivenNames x; refine (have hx : Frame [.regs, .tempo, .arb] s0 x := ?_; ?_); rotate_left; clear_value x; rotate_left; subst x)
    | (extract_lets -merge +onlyGivenNames x; clear_value x)
    | with_reducible exact Frame.refl _ _
    | with_reducible apply Frame.ite
    | with_reducible apply Frame.foldl
    | with_reducible apply Frame.via (State.incF_frame _ _ _ _ _) (by decide)
    | with_reducible apply Frame.via (State.tempoFault_frame _ _ _ _ _) (by decide)
    | split

theorem State.discardCountin_frame (s0 : State) (a1 : Nat) : Frame [.regs] s0 (State.discardCountin s0 a1) := by
  unfold State.discardCountin
  repeat' first
    | with_reducible assumption
    | intro _
    | (extract_lets -merge +onlyGivenNames x; refine (have hx : Frame [.regs] s0 x := ?_; ?_); rotate_left; clear_value x; rotate_left; subst x)
    | (extract_lets -merge +onlyGivenNames x; clear_value x)
    | with_reducible exact Frame.refl _ _
    | with_reducible apply Frame.ite
    | with_reducible apply Frame.foldl
    | with_reducible apply Frame.via (State.incF_frame _ _ _ _ _) (by decide)
    | split

theorem State.launch_frame (s0 : State) (a1 : Cmd) : Frame [.regs, .tempo, .cond, .press, .sects, .linkTx, .score, .books, .front, .free] s0 (State.launch s0 a1) := by
  unfold State.launch
  repeat' first
    | with_reducible assumption
    | intro _
    | (extract_lets -merge +onlyGivenNames x; refine (have hx : Frame [.regs, .tempo, .cond, .press, .sects, .linkTx, .score, .books, .front, .free] s0 x := ?_; ?_); rotate_left; clear_value x; rotate_left; subst x)
    | (extract_lets -merge +onlyGivenNames x; clear_value x)
    | with_reducible exact Frame.refl _ _
    | with_reducible apply Frame.ite
    | with_reducible apply Frame.foldl
    | with_reducible apply Frame.via (State.setTempo_frame _ _) (by decide)
    | with_reducible apply Frame.via (State.wait_frame _ _ _) (by decide)
    | with_reducible apply Frame.via (State.rewindTo_frame _ _) (by decide)
    | with_reducible apply Frame.via (State.sendCountin_frame _ _ _ _ _ _) (by decide)
    | with_reducible apply Frame.via (State.arm_frame _) (by decide)
    | split

theorem State.position_frame (s0 : State) (a1 : Nat) : Frame [.regs, .tempo, .arb] s0 (State.position s0 a1) := by
  unfold State.position
  repeat' first
    | with_reducible assumption
    | intro _
    | (extract_lets -merge +onlyGivenNames x; refine (have hx : Frame [.regs, .tempo, .arb] s0 x := ?_; ?_); rotate_left; clear_value x; rotate_left; subst x)
    | (extract_lets -merge +onlyGivenNames x; clear_value x)
    | with_reducible exact Frame.refl _ _
    | with_reducible apply Frame.ite
    | with_reducible apply Frame.foldl
    | with_reducible apply Frame.via (State.tempoFault_frame _ _ _ _ _) (by decide)
    | split

theorem State.startSections_frame (s0 : State) (a1 : Nat) : Frame [.sects] s0 (State.startSections s0 a1) := by
  unfold State.startSections
  repeat' first
    | with_reducible assumption
    | intro _
    | (extract_lets -merge +onlyGivenNames x; refine (have hx : Frame [.sects] s0 x := ?_; ?_); rotate_left; clear_value x; rotate_left; subst x)
    | (extract_lets -merge +onlyGivenNames x; clear_value x)
    | with_reducible exact Frame.refl _ _
    | with_reducible apply Frame.ite
    | with_reducible apply Frame.foldl
    | with_reducible apply Frame.via (State.startPress_frame _ _ _) (by decide)
    | split

theorem execBarBoundary_frame (s0 : State) : Completes (execBarBoundary s0) (Frame [.regs, .mem, .tempo, .links, .cond, .patches, .press, .sects, .linkTx, .score, .books, .unison, .arb, .icu, .front, .free] s0) := by
  unfold execBarBoundary
  refine ⟨_, rfl, ?_⟩
  repeat' first
    | with_reducible assumption
    | intro _
    | (extract_lets -merge +onlyGivenNames x; refine (have hx : Frame [.regs, .mem, .tempo, .links, .cond, .patches, .press, .sects, .linkTx, .score, .books, .unison, .arb, .icu, .front, .free] s0 x := ?_; ?_); rotate_left; clear_value x; rotate_left; subst x)
    | (extract_lets -merge +onlyGivenNames x; clear_value x)
    | with_reducible exact Frame.refl _ _
    | with_reducible apply Frame.ite
    | with_reducible apply Frame.foldl
    | with_reducible apply Frame.via (State.barEnd_frame _) (by decide)
    | split

theorem execBarNoteCutoff_frame (s0 : State) : Completes (execBarNoteCutoff s0) (Frame [.tempo] s0) := by
  unfold execBarNoteCutoff
  refine ⟨_, rfl, ?_⟩
  repeat' first
    | with_reducible assumption
    | intro _
    | (extract_lets -merge +onlyGivenNames x; refine (have hx : Frame [.tempo] s0 x := ?_; ?_); rotate_left; clear_value x; rotate_left; subst x)
    | (extract_lets -merge +onlyGivenNames x; clear_value x)
    | with_reducible exact Frame.refl _ _
    | with_reducible apply Frame.ite
    | with_reducible apply Frame.foldl
    | with_reducible apply Frame.via (State.setTempo_frame _ _) (by decide)
    | split

theorem execBarNoteMerge_frame (s0 : State) : Completes (execBarNoteMerge s0) (Frame [.regs, .mem, .tempo, .front] s0) := by
  unfold execBarNoteMerge
  refine ⟨_, rfl, ?_⟩
  repeat' first
    | with_reducible assumption
    | intro _
    | (extract_lets -merge +onlyGivenNames x; refine (have hx : Frame [.regs, .mem, .tempo, .front] s0 x := ?_; ?_); rotate_left; clear_value x; rotate_left; subst x)
    | (extract_lets -merge +onlyGivenNames x; clear_value x)
    | with_reducible exact Frame.refl _ _
    | with_reducible apply Frame.ite
    | with_reducible apply Frame.foldl
    | with_reducible apply Frame.via (State.complete_frame _ _ _ _) (by decide)
    | with_reducible apply Frame.via (State.setTempo_frame _ _) (by decide)
    | split

theorem execBarNoteReceive_frame (s0 : State) (a0 : Fin 10) (a1 : Fin 4) (a2 : BitVec 16) : Completes (execBarNoteReceive a0 a1 a2 s0) (Frame [.regs, .tempo, .arb] s0) := by
  unfold execBarNoteReceive
  refine ⟨_, rfl, ?_⟩
  repeat' first
    | with_reducible assumption
    | intro _
    | (extract_lets -merge +onlyGivenNames x; refine (have hx : Frame [.regs, .tempo, .arb] s0 x := ?_; ?_); rotate_left; clear_value x; rotate_left; subst x)
    | (extract_lets -merge +onlyGivenNames x; clear_value x)
    | with_reducible exact Frame.refl _ _
    | with_reducible apply Frame.ite
    | with_reducible apply Frame.foldl
    | with_reducible apply Frame.via (State.tempoFault_frame _ _ _ _ _) (by decide)
    | split

theorem execCountinBar0Start_frame (s0 : State) : Completes (execCountinBar0Start s0) (Frame [.regs, .mem, .tempo, .sects, .linkTx, .unison, .front] s0) := by
  unfold execCountinBar0Start
  refine ⟨_, rfl, ?_⟩
  repeat' first
    | with_reducible assumption
    | intro _
    | (extract_lets -merge +onlyGivenNames x; refine (have hx : Frame [.regs, .mem, .tempo, .sects, .linkTx, .unison, .front] s0 x := ?_; ?_); rotate_left; clear_value x; rotate_left; subst x)
    | (extract_lets -merge +onlyGivenNames x; clear_value x)
    | with_reducible exact Frame.refl _ _
    | with_reducible apply Frame.ite
    | with_reducible apply Frame.foldl
    | with_reducible apply Frame.via (State.setReg_frame _ _ _ _) (by decide)
    | with_reducible apply Frame.via (State.clrReg_frame _ _ _) (by decide)
    | with_reducible apply Frame.via (State.setUnison_frame _ _) (by decide)
    | with_reducible apply Frame.via (State.setTempo_frame _ _) (by decide)
    | with_reducible apply Frame.via (State.completeAll_frame _ _ _ _) (by decide)
    | with_reducible apply Frame.via (State.sendDownbeats_frame _) (by decide)
    | with_reducible apply Frame.via (State.unClear_frame _) (by decide)
    | with_reducible apply Frame.via (State.startSections_frame _ _) (by decide)
    | split

theorem execCountinReceive_frame (s0 : State) (a0 : Fin 12) (a1 : List Byte) : Completes (execCountinReceive a0 a1 s0) (Frame [.regs, .tempo, .cond, .linkTx, .arb, .free] s0) := by
  unfold execCountinReceive
  refine ⟨_, rfl, ?_⟩
  repeat' first
    | with_reducible assumption
    | intro _
    | (extract_lets -merge +onlyGivenNames x; refine (have hx : Frame [.regs, .tempo, .cond, .linkTx, .arb, .free] s0 x := ?_; ?_); rotate_left; clear_value x; rotate_left; subst x)
    | (extract_lets -merge +onlyGivenNames x; clear_value x)
    | with_reducible exact Frame.refl _ _
    | with_reducible apply Frame.ite
    | with_reducible apply Frame.foldl
    | with_reducible apply Frame.via (State.setTempo_frame _ _) (by decide)
    | with_reducible apply Frame.via (State.scoreFault_frame _ _ _ _ _) (by decide)
    | with_reducible apply Frame.via (State.tempoFault_frame _ _ _ _ _) (by decide)
    | with_reducible apply Frame.via (State.rewindTo_frame _ _) (by decide)
    | with_reducible apply Frame.via (State.sendCountin_frame _ _ _ _ _ _) (by decide)
    | with_reducible apply Frame.via (State.discardCountin_frame _ _) (by decide)
    | split

theorem execDownbeatMissing_frame (s0 : State) (a0 : Fin 12) : Completes (execDownbeatMissing a0 s0) (Frame [.regs, .tempo, .arb] s0) := by
  unfold execDownbeatMissing
  refine ⟨_, rfl, ?_⟩
  repeat' first
    | with_reducible assumption
    | intro _
    | (extract_lets -merge +onlyGivenNames x; refine (have hx : Frame [.regs, .tempo, .arb] s0 x := ?_; ?_); rotate_left; clear_value x; rotate_left; subst x)
    | (extract_lets -merge +onlyGivenNames x; clear_value x)
    | with_reducible exact Frame.refl _ _
    | with_reducible apply Frame.ite
    | with_reducible apply Frame.foldl
    | with_reducible apply Frame.via (State.incF_frame _ _ _ _ _) (by decide)
    | with_reducible apply Frame.via (State.setTempo_frame _ _) (by decide)
    | with_reducible apply Frame.via (State.tempoFault_frame _ _ _ _ _) (by decide)
    | split

theorem execDownbeatReceive_frame (s0 : State) (a0 : Fin 12) (a1 : List Byte) (a2 : BitVec 16) : Completes (execDownbeatReceive a0 a1 a2 s0) (Frame [.regs, .tempo, .arb] s0) := by
  unfold execDownbeatReceive
  refine ⟨_, rfl, ?_⟩
  repeat' first
    | with_reducible assumption
    | intro _
    | (extract_lets -merge +onlyGivenNames x; refine (have hx : Frame [.regs, .tempo, .arb] s0 x := ?_; ?_); rotate_left; clear_value x; rotate_left; subst x)
    | (extract_lets -merge +onlyGivenNames x; clear_value x)
    | with_reducible exact Frame.refl _ _
    | with_reducible apply Frame.ite
    | with_reducible apply Frame.foldl
    | with_reducible apply Frame.via (State.incF_frame _ _ _ _ _) (by decide)
    | with_reducible apply Frame.via (State.setTempo_frame _ _) (by decide)
    | with_reducible apply Frame.via (State.scheduleAction_frame _ _) (by decide)
    | with_reducible apply Frame.via (State.tempoFault_frame _ _ _ _ _) (by decide)
    | with_reducible apply Frame.via (State.adoptOrder_frame _ _ _) (by decide)
    | with_reducible apply Frame.via (State.checkDrift_frame _ _ _) (by decide)
    | with_reducible apply Frame.via (State.position_frame _ _) (by decide)
    | split

theorem execFermata_frame (s0 : State) (a0 : Cmd) : Completes (execFermata a0 s0) (Frame [.regs, .mem, .tempo, .front] s0) := by
  unfold execFermata
  refine ⟨_, rfl, ?_⟩
  repeat' first
    | with_reducible assumption
    | intro _
    | (extract_lets -merge +onlyGivenNames x; refine (have hx : Frame [.regs, .mem, .tempo, .front] s0 x := ?_; ?_); rotate_left; clear_value x; rotate_left; subst x)
    | (extract_lets -merge +onlyGivenNames x; clear_value x)
    | with_reducible exact Frame.refl _ _
    | with_reducible apply Frame.ite
    | with_reducible apply Frame.foldl
    | with_reducible apply Frame.via (State.complete_frame _ _ _ _) (by decide)
    | with_reducible refine State.runCmd_frame _ _ _ _ _ (by decide) ?_ (fun _ => ?_)
    | with_reducible apply Frame.via (State.setTempo_frame _ _) (by decide)
    | split

theorem execGateTimeout_frame (s0 : State) : Completes (execGateTimeout s0) (Frame [.regs, .mem, .tempo, .links, .cond, .patches, .press, .sects, .linkTx, .score, .books, .unison, .arb, .icu, .front, .free] s0) := by
  unfold execGateTimeout
  refine ⟨_, rfl, ?_⟩
  repeat' first
    | with_reducible assumption
    | intro _
    | (extract_lets -merge +onlyGivenNames x; refine (have hx : Frame [.regs, .mem, .tempo, .links, .cond, .patches, .press, .sects, .linkTx, .score, .books, .unison, .arb, .icu, .front, .free] s0 x := ?_; ?_); rotate_left; clear_value x; rotate_left; subst x)
    | (extract_lets -merge +onlyGivenNames x; clear_value x)
    | with_reducible exact Frame.refl _ _
    | with_reducible apply Frame.ite
    | with_reducible apply Frame.foldl
    | with_reducible apply Frame.via (State.logBits_frame _ _ _ _ _) (by decide)
    | with_reducible apply Frame.via (State.incF_frame _ _ _ _ _) (by decide)
    | with_reducible apply Frame.via (State.setTempo_frame _ _) (by decide)
    | with_reducible apply Frame.via (State.latchTempo_frame _ _ _ _ _) (by decide)
    | with_reducible apply Frame.via (State.barEnd_frame _) (by decide)
    | split

theorem execRubatoGateRelease_frame (s0 : State) (a0 : BitVec 32) : Completes (execRubatoGateRelease a0 s0) (Frame [.regs, .mem, .tempo, .links, .cond, .patches, .press, .sects, .linkTx, .score, .books, .unison, .arb, .icu, .front, .free] s0) := by
  unfold execRubatoGateRelease
  refine ⟨_, rfl, ?_⟩
  repeat' first
    | with_reducible assumption
    | intro _
    | (extract_lets -merge +onlyGivenNames x; refine (have hx : Frame [.regs, .mem, .tempo, .links, .cond, .patches, .press, .sects, .linkTx, .score, .books, .unison, .arb, .icu, .front, .free] s0 x := ?_; ?_); rotate_left; clear_value x; rotate_left; subst x)
    | (extract_lets -merge +onlyGivenNames x; clear_value x)
    | with_reducible exact Frame.refl _ _
    | with_reducible apply Frame.ite
    | with_reducible apply Frame.foldl
    | with_reducible apply Frame.via (State.incF_frame _ _ _ _ _) (by decide)
    | with_reducible apply Frame.via (State.barEnd_frame _) (by decide)
    | split

theorem execScoreStart_frame (s0 : State) (a0 : Cmd) : Completes (execScoreStart a0 s0) (Frame [.regs, .mem, .tempo, .cond, .press, .sects, .linkTx, .score, .books, .front, .free] s0) := by
  unfold execScoreStart
  refine ⟨_, rfl, ?_⟩
  repeat' first
    | with_reducible assumption
    | intro _
    | (extract_lets -merge +onlyGivenNames x; refine (have hx : Frame [.regs, .mem, .tempo, .cond, .press, .sects, .linkTx, .score, .books, .front, .free] s0 x := ?_; ?_); rotate_left; clear_value x; rotate_left; subst x)
    | (extract_lets -merge +onlyGivenNames x; clear_value x)
    | with_reducible exact Frame.refl _ _
    | with_reducible apply Frame.ite
    | with_reducible apply Frame.foldl
    | with_reducible apply Frame.via (State.complete_frame _ _ _ _) (by decide)
    | with_reducible refine State.runCmd_frame _ _ _ _ _ (by decide) ?_ (fun _ => ?_)
    | with_reducible apply Frame.via (State.disarm_frame _) (by decide)
    | with_reducible apply Frame.via (State.arm_frame _) (by decide)
    | with_reducible apply Frame.via (State.launch_frame _ _) (by decide)
    | split

theorem execScoreStop_frame (s0 : State) (a0 : Cmd) : Completes (execScoreStop a0 s0) (Frame [.regs, .mem, .tempo, .links, .cond, .press, .sects, .front, .free] s0) := by
  unfold execScoreStop
  refine ⟨_, rfl, ?_⟩
  repeat' first
    | with_reducible assumption
    | intro _
    | (extract_lets -merge +onlyGivenNames x; refine (have hx : Frame [.regs, .mem, .tempo, .links, .cond, .press, .sects, .front, .free] s0 x := ?_; ?_); rotate_left; clear_value x; rotate_left; subst x)
    | (extract_lets -merge +onlyGivenNames x; clear_value x)
    | with_reducible exact Frame.refl _ _
    | with_reducible apply Frame.ite
    | with_reducible apply Frame.foldl
    | with_reducible apply Frame.via (State.setF_frame _ _ _ _ _) (by decide)
    | with_reducible apply Frame.via (State.complete_frame _ _ _ _) (by decide)
    | with_reducible refine State.runCmd_frame _ _ _ _ _ (by decide) ?_ (fun _ => ?_)
    | with_reducible apply Frame.via (State.setTempo_frame _ _) (by decide)
    | with_reducible apply Frame.via (State.wait_frame _ _ _) (by decide)
    | with_reducible apply Frame.via (State.unload_frame _) (by decide)
    | with_reducible apply Frame.via (State.disarm_frame _) (by decide)
    | split

theorem execStartNotice_frame (s0 : State) (a0 : Fin 12) : Completes (execStartNotice a0 s0) (Frame [.tempo, .linkTx, .free] s0) := by
  unfold execStartNotice
  refine ⟨_, rfl, ?_⟩
  repeat' first
    | with_reducible assumption
    | intro _
    | (extract_lets -merge +onlyGivenNames x; refine (have hx : Frame [.tempo, .linkTx, .free] s0 x := ?_; ?_); rotate_left; clear_value x; rotate_left; subst x)
    | (extract_lets -merge +onlyGivenNames x; clear_value x)
    | with_reducible exact Frame.refl _ _
    | with_reducible apply Frame.ite
    | with_reducible apply Frame.foldl
    | with_reducible apply Frame.via (State.setTempo_frame _ _) (by decide)
    | with_reducible apply Frame.via (State.sendCountin_frame _ _ _ _ _ _) (by decide)
    | split

theorem execAuthLockoutEnd_frame (s0 : State) (a0 : Via) : Completes (execAuthLockoutEnd a0 s0) (Frame [.sm] s0) := by
  unfold execAuthLockoutEnd
  refine ⟨_, rfl, ?_⟩
  repeat' first
    | with_reducible assumption
    | intro _
    | (extract_lets -merge +onlyGivenNames x; refine (have hx : Frame [.sm] s0 x := ?_; ?_); rotate_left; clear_value x; rotate_left; subst x)
    | (extract_lets -merge +onlyGivenNames x; clear_value x)
    | with_reducible exact Frame.refl _ _
    | with_reducible apply Frame.ite
    | with_reducible apply Frame.foldl
    | with_reducible apply Frame.via (State.setSm_frame _ _) (by decide)
    | split

theorem execChallengeExpiry_frame (s0 : State) (a0 : Via) (a1 : BitVec 32) : Completes (execChallengeExpiry a0 a1 s0) (Frame [.sm] s0) := by
  unfold execChallengeExpiry
  refine ⟨_, rfl, ?_⟩
  repeat' first
    | with_reducible assumption
    | intro _
    | (extract_lets -merge +onlyGivenNames x; refine (have hx : Frame [.sm] s0 x := ?_; ?_); rotate_left; clear_value x; rotate_left; subst x)
    | (extract_lets -merge +onlyGivenNames x; clear_value x)
    | with_reducible exact Frame.refl _ _
    | with_reducible apply Frame.ite
    | with_reducible apply Frame.foldl
    | with_reducible apply Frame.via (State.setSm_frame _ _) (by decide)
    | split

theorem execEntropyHealthFail_frame (s0 : State) (a0 : Bool) : Completes (execEntropyHealthFail a0 s0) (Frame [.regs, .arb, .sm] s0) := by
  unfold execEntropyHealthFail
  refine ⟨_, rfl, ?_⟩
  repeat' first
    | with_reducible assumption
    | intro _
    | (extract_lets -merge +onlyGivenNames x; refine (have hx : Frame [.regs, .arb, .sm] s0 x := ?_; ?_); rotate_left; clear_value x; rotate_left; subst x)
    | (extract_lets -merge +onlyGivenNames x; clear_value x)
    | with_reducible exact Frame.refl _ _
    | with_reducible apply Frame.ite
    | with_reducible apply Frame.foldl
    | with_reducible apply Frame.via (State.testsRun_frame _ _ _) (by decide)
    | with_reducible apply Frame.via (State.softError_frame _ _) (by decide)
    | split

theorem execPeriodicSelftest_frame (s0 : State) (a0 : Option (Fin 11)) : Completes (execPeriodicSelftest a0 s0) (Frame [.regs, .eth, .arb, .sm] s0) := by
  unfold execPeriodicSelftest
  refine ⟨_, rfl, ?_⟩
  repeat' first
    | with_reducible assumption
    | intro _
    | (extract_lets -merge +onlyGivenNames x; refine (have hx : Frame [.regs, .eth, .arb, .sm] s0 x := ?_; ?_); rotate_left; clear_value x; rotate_left; subst x)
    | (extract_lets -merge +onlyGivenNames x; clear_value x)
    | with_reducible exact Frame.refl _ _
    | with_reducible apply Frame.ite
    | with_reducible apply Frame.foldl
    | with_reducible apply Frame.via (State.knownAnswers_frame _ _) (by decide)
    | split

theorem execSessionIdleTimeout_frame (s0 : State) (a0 : Fin 16) : Completes (execSessionIdleTimeout a0 s0) (Frame [.sm] s0) := by
  unfold execSessionIdleTimeout
  refine ⟨_, rfl, ?_⟩
  repeat' first
    | with_reducible assumption
    | intro _
    | (extract_lets -merge +onlyGivenNames x; refine (have hx : Frame [.sm] s0 x := ?_; ?_); rotate_left; clear_value x; rotate_left; subst x)
    | (extract_lets -merge +onlyGivenNames x; clear_value x)
    | with_reducible exact Frame.refl _ _
    | with_reducible apply Frame.ite
    | with_reducible apply Frame.foldl
    | with_reducible apply Frame.via (State.setSm_frame _ _) (by decide)
    | split

theorem execSmMboxGo_frame (s0 : State) (a0 : Who) (a1 : BitVec 32) (a2 : Option (Fin 11)) : Completes (execSmMboxGo a0 a1 a2 s0) (Frame [.regs, .mem, .eth, .arb, .sm, .fuses, .free] s0) := by
  unfold execSmMboxGo
  refine ⟨_, rfl, ?_⟩
  repeat' first
    | with_reducible assumption
    | intro _
    | (extract_lets -merge +onlyGivenNames x; refine (have hx : Frame [.regs, .mem, .eth, .arb, .sm, .fuses, .free] s0 x := ?_; ?_); rotate_left; clear_value x; rotate_left; subst x)
    | (extract_lets -merge +onlyGivenNames x; clear_value x)
    | with_reducible exact Frame.refl _ _
    | with_reducible apply Frame.ite
    | with_reducible apply Frame.foldl
    | with_reducible apply Frame.via (State.mboxCtrl_frame _ _ _ _) (by decide)
    | split

theorem State.smAnswer_frame {l : List Part} (s0 : State) (c : Cmd) (r : SmOut) (hl : [Part.regs, .mem, .front].all (fun p => l.contains p) = true)
    (h : Frame l s0 r.1) : Frame l s0 (State.smAnswer c r) := by
  have hr : [Part.regs].all (fun p => l.contains p) = true := by simp at hl ⊢; exact hl.1
  exact Frame.via (State.complete_frame _ _ _ _) hl (Frame.via (State.mbox_frame _ _ _ _) hr h)

theorem execSmService_frame (s0 : State) (a0 : Cmd) (a1 : Option (Fin 11)) : Completes (execSmService a0 a1 s0) (Frame [.regs, .mem, .eth, .arb, .front, .sm, .fuses, .free] s0) := by
  unfold execSmService
  refine ⟨_, rfl, ?_⟩
  repeat' first
    | with_reducible assumption
    | intro _
    | (extract_lets -merge +onlyGivenNames x; refine (have hx : Frame [.regs, .mem, .eth, .arb, .front, .sm, .fuses, .free] s0 x := ?_; ?_); rotate_left; clear_value x; rotate_left; subst x)
    | (extract_lets -merge +onlyGivenNames x; clear_value x)
    | with_reducible exact Frame.refl _ _
    | with_reducible apply Frame.ite
    | with_reducible apply Frame.foldl
    | with_reducible apply Frame.via (State.smService_frame _ _ _) (by decide)
    | with_reducible refine State.runCmd_frame _ _ _ _ _ (by decide) ?_ (fun _ => ?_)
    | with_reducible refine State.smAnswer_frame _ _ _ (by decide) ?_
    | with_reducible refine Frame.via (Frame.of_eq1 (State.smService_frame _ _ _) (by assumption)) (by decide) ?_
    | split

theorem execSmSessionOpen_frame (s0 : State) (a0 : Cmd) : Completes (execSmSessionOpen a0 s0) (Frame [.regs, .mem, .arb, .front, .sm, .free] s0) := by
  unfold execSmSessionOpen
  refine ⟨_, rfl, ?_⟩
  repeat' first
    | with_reducible assumption
    | intro _
    | (extract_lets -merge +onlyGivenNames x; refine (have hx : Frame [.regs, .mem, .arb, .front, .sm, .free] s0 x := ?_; ?_); rotate_left; clear_value x; rotate_left; subst x)
    | (extract_lets -merge +onlyGivenNames x; clear_value x)
    | with_reducible exact Frame.refl _ _
    | with_reducible apply Frame.ite
    | with_reducible apply Frame.foldl
    | with_reducible apply Frame.via (State.smSessionOpen_frame _ _) (by decide)
    | with_reducible refine State.runCmd_frame _ _ _ _ _ (by decide) ?_ (fun _ => ?_)
    | with_reducible refine State.smAnswer_frame _ _ _ (by decide) ?_
    | with_reducible refine Frame.via (Frame.of_eq1 (State.smSessionOpen_frame _ _) (by assumption)) (by decide) ?_
    | split

theorem execSoftErrorRecovery_frame (s0 : State) (a0 : Bool) (a1 : Bool) : Completes (execSoftErrorRecovery a0 a1 s0) (Frame [.regs, .eth, .arb, .sm, .fuses, .free] s0) := by
  unfold execSoftErrorRecovery
  refine ⟨_, rfl, ?_⟩
  repeat' first
    | with_reducible assumption
    | intro _
    | (extract_lets -merge +onlyGivenNames x; refine (have hx : Frame [.regs, .eth, .arb, .sm, .fuses, .free] s0 x := ?_; ?_); rotate_left; clear_value x; rotate_left; subst x)
    | (extract_lets -merge +onlyGivenNames x; clear_value x)
    | with_reducible exact Frame.refl _ _
    | with_reducible apply Frame.ite
    | with_reducible apply Frame.foldl
    | with_reducible apply Frame.via (State.setSm_frame _ _) (by decide)
    | with_reducible apply Frame.via (State.setSmState_frame _ _) (by decide)
    | with_reducible apply Frame.via (State.hardError_frame _ _) (by decide)
    | with_reducible apply Frame.via (State.testsRun_frame _ _ _) (by decide)
    | with_reducible apply Frame.via (State.seedDrbg_frame _) (by decide)
    | with_reducible apply Frame.via (State.smServe_frame _) (by decide)
    | split

theorem execZeroize_frame (s0 : State) (a0 : Cmd) : Completes (execZeroize a0 s0) (Frame [.regs, .mem, .eth, .arb, .front, .sm, .fuses, .free] s0) := by
  unfold execZeroize
  refine ⟨_, rfl, ?_⟩
  repeat' first
    | with_reducible assumption
    | intro _
    | (extract_lets -merge +onlyGivenNames x; refine (have hx : Frame [.regs, .mem, .eth, .arb, .front, .sm, .fuses, .free] s0 x := ?_; ?_); rotate_left; clear_value x; rotate_left; subst x)
    | (extract_lets -merge +onlyGivenNames x; clear_value x)
    | with_reducible exact Frame.refl _ _
    | with_reducible apply Frame.ite
    | with_reducible apply Frame.foldl
    | with_reducible apply Frame.via (State.smZeroize_frame _ _) (by decide)
    | with_reducible refine State.runCmd_frame _ _ _ _ _ (by decide) ?_ (fun _ => ?_)
    | with_reducible refine State.smAnswer_frame _ _ _ (by decide) ?_
    | with_reducible refine Frame.via (Frame.of_eq1 (State.smZeroize_frame _ _) (by assumption)) (by decide) ?_
    | split

theorem execZeroizeNLatch_frame (s0 : State) : Completes (execZeroizeNLatch s0) (Frame [.regs, .eth, .arb, .sm, .fuses, .free] s0) := by
  unfold execZeroizeNLatch
  refine ⟨_, rfl, ?_⟩
  repeat' first
    | with_reducible assumption
    | intro _
    | (extract_lets -merge +onlyGivenNames x; refine (have hx : Frame [.regs, .eth, .arb, .sm, .fuses, .free] s0 x := ?_; ?_); rotate_left; clear_value x; rotate_left; subst x)
    | (extract_lets -merge +onlyGivenNames x; clear_value x)
    | with_reducible exact Frame.refl _ _
    | with_reducible apply Frame.ite
    | with_reducible apply Frame.foldl
    | with_reducible apply Frame.via (State.setSm_frame _ _) (by decide)
    | with_reducible apply Frame.via (State.serveLatch_frame _) (by decide)
    | split

theorem State.capture_frame (s0 : State) (a1 : Word) (a2 : Nat) (a3 : Nat) : Frame [.tap] s0 (State.capture s0 a1 a2 a3) := by
  unfold State.capture
  repeat' first
    | with_reducible assumption
    | intro _
    | (extract_lets -merge +onlyGivenNames x; refine (have hx : Frame [.tap] s0 x := ?_; ?_); rotate_left; clear_value x; rotate_left; subst x)
    | (extract_lets -merge +onlyGivenNames x; clear_value x)
    | with_reducible exact Frame.refl _ _
    | with_reducible apply Frame.ite
    | with_reducible apply Frame.foldl
    | split
    | with_reducible apply Frame.set_tap _ (by decide)

theorem State.captureFree_frame (s0 : State) (a1 : Nat) (a2 : Nat) : Frame [.tap, .free] s0 (State.captureFree s0 a1 a2) := by
  unfold State.captureFree
  repeat' first
    | with_reducible assumption
    | intro _
    | (extract_lets -merge +onlyGivenNames x; refine (have hx : Frame [.tap, .free] s0 x := ?_; ?_); rotate_left; clear_value x; rotate_left; subst x)
    | (extract_lets -merge +onlyGivenNames x; clear_value x)
    | with_reducible exact Frame.refl _ _
    | with_reducible apply Frame.ite
    | with_reducible apply Frame.foldl
    | with_reducible apply Frame.via (State.useFree_frame _ _) (by decide)
    | with_reducible apply Frame.via (State.capture_frame _ _ _ _) (by decide)
    | split

theorem State.debugSection_frame (s0 : State) (a1 : Nat) (a2 : Nat) (a3 : Bool) (a4 : Nat) : Frame [.sects, .tap, .free] s0 (State.debugSection s0 a1 a2 a3 a4) := by
  unfold State.debugSection
  repeat' first
    | with_reducible assumption
    | intro _
    | (extract_lets -merge +onlyGivenNames x; refine (have hx : Frame [.sects, .tap, .free] s0 x := ?_; ?_); rotate_left; clear_value x; rotate_left; subst x)
    | (extract_lets -merge +onlyGivenNames x; clear_value x)
    | with_reducible exact Frame.refl _ _
    | with_reducible apply Frame.ite
    | with_reducible apply Frame.foldl
    | with_reducible apply Frame.via (State.setSect_frame _ _ _ _) (by decide)
    | with_reducible apply Frame.via (State.capture_frame _ _ _ _) (by decide)
    | with_reducible apply Frame.via (State.captureFree_frame _ _ _) (by decide)
    | split

theorem State.mgmtEvent_frame (s0 : State) (a1 : Reg) (a2 : Fld) : Frame [.regs, .arb] s0 (State.mgmtEvent s0 a1 a2) := by
  unfold State.mgmtEvent
  repeat' first
    | with_reducible assumption
    | intro _
    | (extract_lets -merge +onlyGivenNames x; refine (have hx : Frame [.regs, .arb] s0 x := ?_; ?_); rotate_left; clear_value x; rotate_left; subst x)
    | (extract_lets -merge +onlyGivenNames x; clear_value x)
    | with_reducible exact Frame.refl _ _
    | with_reducible apply Frame.ite
    | with_reducible apply Frame.foldl
    | with_reducible apply Frame.via (State.setBit_frame _ _ _ _) (by decide)
    | with_reducible apply Frame.via (State.setLogged_frame _ _ _ _ _) (by decide)
    | split

theorem State.debugAccess_frame (s0 : State) (a1 : Nat) (a2 : Bool) (a3 : Nat) : Frame [.regs, .mem, .tempo, .dieBase, .aligns, .links, .cond, .patches, .press, .sects, .queues, .qseq, .ports, .lk, .seams, .legacy, .score, .tacks, .books, .eth, .unison, .arb, .icu, .front, .sm, .tap, .smb, .fuses, .fw, .pwr, .free] s0 (State.debugAccess s0 a1 a2 a3) := by
  unfold State.debugAccess
  repeat' first
    | with_reducible assumption
    | intro _
    | (extract_lets -merge +onlyGivenNames x; refine (have hx : Frame [.regs, .mem, .tempo, .dieBase, .aligns, .links, .cond, .patches, .press, .sects, .queues, .qseq, .ports, .lk, .seams, .legacy, .score, .tacks, .books, .eth, .unison, .arb, .icu, .front, .sm, .tap, .smb, .fuses, .fw, .pwr, .free] s0 x := ?_; ?_); rotate_left; clear_value x; rotate_left; subst x)
    | (extract_lets -merge +onlyGivenNames x; clear_value x)
    | with_reducible exact Frame.refl _ _
    | with_reducible apply Frame.ite
    | with_reducible apply Frame.foldl
    | with_reducible apply Frame.via (State.busRead_frame _ _ _ _) (by decide)
    | with_reducible apply Frame.via (State.busWrite_frame _ _ _ _ _) (by decide)
    | with_reducible apply Frame.via (State.capture_frame _ _ _ _) (by decide)
    | with_reducible apply Frame.via (State.captureFree_frame _ _ _) (by decide)
    | with_reducible apply Frame.via (State.debugSection_frame _ _ _ _ _) (by decide)
    | with_reducible apply Frame.via (State.mgmtEvent_frame _ _ _) (by decide)
    | split

theorem State.scanEnter_frame (s0 : State) : Frame [.regs, .mem, .press, .lk, .legacy, .eth, .arb, .front, .pwr] s0 (State.scanEnter s0) := by
  unfold State.scanEnter
  repeat' first
    | with_reducible assumption
    | intro _
    | (extract_lets -merge +onlyGivenNames x; refine (have hx : Frame [.regs, .mem, .press, .lk, .legacy, .eth, .arb, .front, .pwr] s0 x := ?_; ?_); rotate_left; clear_value x; rotate_left; subst x)
    | (extract_lets -merge +onlyGivenNames x; clear_value x)
    | with_reducible exact Frame.refl _ _
    | with_reducible apply Frame.ite
    | with_reducible apply Frame.foldl
    | with_reducible apply Frame.via (State.linkLeave_frame _ _ _) (by decide)
    | with_reducible apply Frame.via (State.ethDown_frame _ _) (by decide)
    | with_reducible apply Frame.via (State.hostReset_frame _) (by decide)
    | split

theorem State.scanLeave_frame (s0 : State) : Frame [.regs, .lk, .legacy] s0 (State.scanLeave s0) := by
  unfold State.scanLeave
  repeat' first
    | with_reducible assumption
    | intro _
    | (extract_lets -merge +onlyGivenNames x; refine (have hx : Frame [.regs, .lk, .legacy] s0 x := ?_; ?_); rotate_left; clear_value x; rotate_left; subst x)
    | (extract_lets -merge +onlyGivenNames x; clear_value x)
    | with_reducible exact Frame.refl _ _
    | with_reducible apply Frame.ite
    | with_reducible apply Frame.foldl
    | with_reducible apply Frame.via (State.startTraining_frame _ _ _) (by decide)
    | split

theorem State.smbAnswer_frame (s0 : State) (a1 : Option (List Byte)) : Frame [.smb] s0 (State.smbAnswer s0 a1) := by
  unfold State.smbAnswer
  repeat' first
    | with_reducible assumption
    | intro _
    | (extract_lets -merge +onlyGivenNames x; refine (have hx : Frame [.smb] s0 x := ?_; ?_); rotate_left; clear_value x; rotate_left; subst x)
    | (extract_lets -merge +onlyGivenNames x; clear_value x)
    | with_reducible exact Frame.refl _ _
    | with_reducible apply Frame.ite
    | with_reducible apply Frame.foldl
    | split
    | with_reducible apply Frame.set_smb _ (by decide)

theorem State.smbRead_frame (s0 : State) (a1 : List Byte) : Frame [.smb] s0 (State.smbRead s0 a1) := by
  unfold State.smbRead
  repeat' first
    | with_reducible assumption
    | intro _
    | (extract_lets -merge +onlyGivenNames x; refine (have hx : Frame [.smb] s0 x := ?_; ?_); rotate_left; clear_value x; rotate_left; subst x)
    | (extract_lets -merge +onlyGivenNames x; clear_value x)
    | with_reducible exact Frame.refl _ _
    | with_reducible apply Frame.ite
    | with_reducible apply Frame.foldl
    | with_reducible apply Frame.via (State.smbAnswer_frame _ _) (by decide)
    | split

theorem State.smbWrite_frame {l : List Part} (s0 s : State) (pec : Option Bool) (f : State → State)
    (hl : [Part.regs, .smb].all (fun p => l.contains p) = true) (h : Frame l s0 s)
    (hb : Frame l s0 s → Frame l s0 (f s)) : Frame l s0 (s.smbWrite pec f) := by
  have hr : [Part.regs].all (fun p => l.contains p) = true := by simp at hl ⊢; exact hl.1
  have hf : [Part.smb].all (fun p => l.contains p) = true := by simp at hl ⊢; exact hl.2
  unfold State.smbWrite
  refine Frame.ite (fun _ => Frame.via (State.smbAnswer_frame _ _) hf h) (fun _ => Frame.ite (fun _ => ?_) (fun _ => ?_))
  · exact Frame.via (State.smbAnswer_frame _ _) hf (Frame.via (State.incF_frame _ _ _ _ _) hr (Frame.via (State.setBit_frame _ _ _ _) hr h))
  · exact Frame.via (State.smbAnswer_frame _ _) hf (hb h)

theorem State.stageSlot_frame (s0 : State) (a1 : List Byte) (a2 : Bool) : Frame [.smb] s0 (State.stageSlot s0 a1 a2) := by
  unfold State.stageSlot
  repeat' first
    | with_reducible assumption
    | intro _
    | (extract_lets -merge +onlyGivenNames x; refine (have hx : Frame [.smb] s0 x := ?_; ?_); rotate_left; clear_value x; rotate_left; subst x)
    | (extract_lets -merge +onlyGivenNames x; clear_value x)
    | with_reducible exact Frame.refl _ _
    | with_reducible apply Frame.ite
    | with_reducible apply Frame.foldl
    | split
    | with_reducible apply Frame.set_smb _ (by decide)

theorem State.tapInstruction_frame (s0 : State) (a1 : Nat) : Frame [.regs, .mem, .press, .lk, .legacy, .eth, .arb, .front, .tap, .pwr] s0 (State.tapInstruction s0 a1) := by
  unfold State.tapInstruction
  repeat' first
    | with_reducible assumption
    | intro _
    | (extract_lets -merge +onlyGivenNames x; refine (have hx : Frame [.regs, .mem, .press, .lk, .legacy, .eth, .arb, .front, .tap, .pwr] s0 x := ?_; ?_); rotate_left; clear_value x; rotate_left; subst x)
    | (extract_lets -merge +onlyGivenNames x; clear_value x)
    | with_reducible exact Frame.refl _ _
    | with_reducible apply Frame.ite
    | with_reducible apply Frame.foldl
    | with_reducible apply Frame.via (State.mgmtEvent_frame _ _ _) (by decide)
    | with_reducible apply Frame.via (State.scanEnter_frame _) (by decide)
    | with_reducible apply Frame.via (State.scanLeave_frame _) (by decide)
    | split
    | with_reducible apply Frame.set_tap _ (by decide)

theorem execArpAssignAddress_frame (s0 : State) (a0 : List Byte) (a1 : BitVec 7) : Completes (execArpAssignAddress a0 a1 s0) (Frame [.regs, .arb, .smb] s0) := by
  unfold execArpAssignAddress
  refine ⟨_, rfl, ?_⟩
  repeat' first
    | with_reducible assumption
    | intro _
    | (extract_lets -merge +onlyGivenNames x; refine (have hx : Frame [.regs, .arb, .smb] s0 x := ?_; ?_); rotate_left; clear_value x; rotate_left; subst x)
    | (extract_lets -merge +onlyGivenNames x; clear_value x)
    | with_reducible exact Frame.refl _ _
    | with_reducible apply Frame.ite
    | with_reducible apply Frame.foldl
    | with_reducible apply Frame.via (State.setF_frame _ _ _ _ _) (by decide)
    | with_reducible apply Frame.via (State.setBit_frame _ _ _ _) (by decide)
    | with_reducible apply Frame.via (State.mgmtEvent_frame _ _ _) (by decide)
    | with_reducible apply Frame.via (State.smbAnswer_frame _ _) (by decide)
    | split

theorem execArpGetUdid_frame (s0 : State) (a0 : Option (BitVec 7)) : Completes (execArpGetUdid a0 s0) (Frame [.smb] s0) := by
  unfold execArpGetUdid
  refine ⟨_, rfl, ?_⟩
  repeat' first
    | with_reducible assumption
    | intro _
    | (extract_lets -merge +onlyGivenNames x; refine (have hx : Frame [.smb] s0 x := ?_; ?_); rotate_left; clear_value x; rotate_left; subst x)
    | (extract_lets -merge +onlyGivenNames x; clear_value x)
    | with_reducible exact Frame.refl _ _
    | with_reducible apply Frame.ite
    | with_reducible apply Frame.foldl
    | with_reducible apply Frame.via (State.smbAnswer_frame _ _) (by decide)
    | split

end Sys2Proof.Machine
end

