-- ==== Sys2Proof/Laws/Frames9.lean ====
section
/-! SUPPORT. The frames of operations and commands of Sideband, TackOps, Tacks, Telemetry, Tick, Unison: the parts that
each may change. -/

namespace Sys2Proof.Machine

theorem execArpPrepare_frame (s0 : State) : Completes (execArpPrepare s0) (Frame [.smb] s0) := by
  unfold execArpPrepare
  refine ⟨_, rfl, ?_⟩
  repeat' first
    | with_reducible assumption
    | intro _
    | (extract_lets -merge +onlyGivenNames x; refine (have hx : Frame [.smb] s0 x := ?_; ?_); rotate_left; clear_value x; rotate_left; subst x)
    | (extract_lets -merge +onlyGivenNames x; clear_value x)
    | with_reducible exact Frame.refl _ _
    | with_reducible apply Frame.ite
    | with_reducible apply Frame.foldl
    | with_reducible apply Frame.via (State.smbAnswer_frame _ _) (by decide)
    | split

theorem execArpResetDevice_frame (s0 : State) (a0 : Option (BitVec 7)) : Completes (execArpResetDevice a0 s0) (Frame [.regs, .arb, .smb] s0) := by
  unfold execArpResetDevice
  refine ⟨_, rfl, ?_⟩
  repeat' first
    | with_reducible assumption
    | intro _
    | (extract_lets -merge +onlyGivenNames x; refine (have hx : Frame [.regs, .arb, .smb] s0 x := ?_; ?_); rotate_left; clear_value x; rotate_left; subst x)
    | (extract_lets -merge +onlyGivenNames x; clear_value x)
    | with_reducible exact Frame.refl _ _
    | with_reducible apply Frame.ite
    | with_reducible apply Frame.foldl
    | with_reducible apply Frame.via (State.setF_frame _ _ _ _ _) (by decide)
    | with_reducible apply Frame.via (State.mgmtEvent_frame _ _ _) (by decide)
    | with_reducible apply Frame.via (State.smbAnswer_frame _ _) (by decide)
    | split

theorem execDbgAccess_frame (s0 : State) (a0 : BitVec 96) : Completes (execDbgAccess a0 s0) (Frame [.regs, .mem, .tempo, .dieBase, .aligns, .links, .cond, .patches, .press, .sects, .queues, .qseq, .ports, .lk, .seams, .legacy, .score, .tacks, .books, .eth, .unison, .arb, .icu, .front, .sm, .tap, .smb, .fuses, .fw, .pwr, .free] s0) := by
  unfold execDbgAccess
  refine ⟨_, rfl, ?_⟩
  repeat' first
    | with_reducible assumption
    | intro _
    | (extract_lets -merge +onlyGivenNames x; refine (have hx : Frame [.regs, .mem, .tempo, .dieBase, .aligns, .links, .cond, .patches, .press, .sects, .queues, .qseq, .ports, .lk, .seams, .legacy, .score, .tacks, .books, .eth, .unison, .arb, .icu, .front, .sm, .tap, .smb, .fuses, .fw, .pwr, .free] s0 x := ?_; ?_); rotate_left; clear_value x; rotate_left; subst x)
    | (extract_lets -merge +onlyGivenNames x; clear_value x)
    | with_reducible exact Frame.refl _ _
    | with_reducible apply Frame.ite
    | with_reducible apply Frame.foldl
    | with_reducible apply Frame.via (State.captureFree_frame _ _ _) (by decide)
    | with_reducible apply Frame.via (State.mgmtEvent_frame _ _ _) (by decide)
    | with_reducible apply Frame.via (State.debugAccess_frame _ _ _ _) (by decide)
    | split

theorem execDbgSel_frame (s0 : State) (a0 : BitVec 16) : Completes (execDbgSel a0 s0) (Frame [.regs, .arb, .tap] s0) := by
  unfold execDbgSel
  refine ⟨_, rfl, ?_⟩
  repeat' first
    | with_reducible assumption
    | intro _
    | (extract_lets -merge +onlyGivenNames x; refine (have hx : Frame [.regs, .arb, .tap] s0 x := ?_; ?_); rotate_left; clear_value x; rotate_left; subst x)
    | (extract_lets -merge +onlyGivenNames x; clear_value x)
    | with_reducible exact Frame.refl _ _
    | with_reducible apply Frame.ite
    | with_reducible apply Frame.foldl
    | with_reducible apply Frame.via (State.mgmtEvent_frame _ _ _) (by decide)
    | split
    | with_reducible apply Frame.set_tap _ (by decide)

theorem execHemInChange_frame (s0 : State) (a0 : Bool) : Completes (execHemInChange a0 s0) (Frame [.regs, .pins] s0) := by
  unfold execHemInChange
  refine ⟨_, rfl, ?_⟩
  repeat' first
    | with_reducible assumption
    | intro _
    | (extract_lets -merge +onlyGivenNames x; refine (have hx : Frame [.regs, .pins] s0 x := ?_; ?_); rotate_left; clear_value x; rotate_left; subst x)
    | (extract_lets -merge +onlyGivenNames x; clear_value x)
    | with_reducible exact Frame.refl _ _
    | with_reducible apply Frame.ite
    | with_reducible apply Frame.foldl
    | with_reducible apply Frame.via (State.setF_frame _ _ _ _ _) (by decide)
    | split
    | with_reducible apply Frame.set_pins _ (by decide)

theorem execSmbAlertResponse_frame (s0 : State) (a0 : Bool) : Completes (execSmbAlertResponse a0 s0) (Frame [.smb] s0) := by
  unfold execSmbAlertResponse
  refine ⟨_, rfl, ?_⟩
  repeat' first
    | with_reducible assumption
    | intro _
    | (extract_lets -merge +onlyGivenNames x; refine (have hx : Frame [.smb] s0 x := ?_; ?_); rotate_left; clear_value x; rotate_left; subst x)
    | (extract_lets -merge +onlyGivenNames x; clear_value x)
    | with_reducible exact Frame.refl _ _
    | with_reducible apply Frame.ite
    | with_reducible apply Frame.foldl
    | with_reducible apply Frame.via (State.smbAnswer_frame _ _) (by decide)
    | split

theorem execSmbCommandDone_frame (s0 : State) : Completes (execSmbCommandDone s0) (Frame [.front, .smb] s0) := by
  unfold execSmbCommandDone
  refine ⟨_, rfl, ?_⟩
  repeat' first
    | with_reducible assumption
    | intro _
    | (extract_lets -merge +onlyGivenNames x; refine (have hx : Frame [.front, .smb] s0 x := ?_; ?_); rotate_left; clear_value x; rotate_left; subst x)
    | (extract_lets -merge +onlyGivenNames x; clear_value x)
    | with_reducible exact Frame.refl _ _
    | with_reducible apply Frame.ite
    | with_reducible apply Frame.foldl
    | split
    | with_reducible apply Frame.set_smb _ (by decide)
    | with_reducible apply Frame.set_front _ (by decide)

theorem execSmbReadCompletion_frame (s0 : State) : Completes (execSmbReadCompletion s0) (Frame [.smb, .free] s0) := by
  unfold execSmbReadCompletion
  refine ⟨_, rfl, ?_⟩
  repeat' first
    | with_reducible assumption
    | intro _
    | (extract_lets -merge +onlyGivenNames x; refine (have hx : Frame [.smb, .free] s0 x := ?_; ?_); rotate_left; clear_value x; rotate_left; subst x)
    | (extract_lets -merge +onlyGivenNames x; clear_value x)
    | with_reducible exact Frame.refl _ _
    | with_reducible apply Frame.ite
    | with_reducible apply Frame.foldl
    | with_reducible apply Frame.via (State.useFree_frame _ _) (by decide)
    | with_reducible apply Frame.via (State.smbAnswer_frame _ _) (by decide)
    | split
    | with_reducible apply Frame.set_smb _ (by decide)

theorem execSmbReadId_frame (s0 : State) : Completes (execSmbReadId s0) (Frame [.smb] s0) := by
  unfold execSmbReadId
  refine ⟨_, rfl, ?_⟩
  repeat' first
    | with_reducible assumption
    | intro _
    | (extract_lets -merge +onlyGivenNames x; refine (have hx : Frame [.smb] s0 x := ?_; ?_); rotate_left; clear_value x; rotate_left; subst x)
    | (extract_lets -merge +onlyGivenNames x; clear_value x)
    | with_reducible exact Frame.refl _ _
    | with_reducible apply Frame.ite
    | with_reducible apply Frame.foldl
    | with_reducible apply Frame.via (State.smbRead_frame _ _) (by decide)
    | split

theorem execSmbReadSmStatus_frame (s0 : State) : Completes (execSmbReadSmStatus s0) (Frame [.smb] s0) := by
  unfold execSmbReadSmStatus
  refine ⟨_, rfl, ?_⟩
  repeat' first
    | with_reducible assumption
    | intro _
    | (extract_lets -merge +onlyGivenNames x; refine (have hx : Frame [.smb] s0 x := ?_; ?_); rotate_left; clear_value x; rotate_left; subst x)
    | (extract_lets -merge +onlyGivenNames x; clear_value x)
    | with_reducible exact Frame.refl _ _
    | with_reducible apply Frame.ite
    | with_reducible apply Frame.foldl
    | with_reducible apply Frame.via (State.smbRead_frame _ _) (by decide)
    | split

theorem execSmbReadStatus_frame (s0 : State) : Completes (execSmbReadStatus s0) (Frame [.smb] s0) := by
  unfold execSmbReadStatus
  refine ⟨_, rfl, ?_⟩
  repeat' first
    | with_reducible assumption
    | intro _
    | (extract_lets -merge +onlyGivenNames x; refine (have hx : Frame [.smb] s0 x := ?_; ?_); rotate_left; clear_value x; rotate_left; subst x)
    | (extract_lets -merge +onlyGivenNames x; clear_value x)
    | with_reducible exact Frame.refl _ _
    | with_reducible apply Frame.ite
    | with_reducible apply Frame.foldl
    | with_reducible apply Frame.via (State.smbRead_frame _ _) (by decide)
    | split

theorem execSmbReadTemp_frame (s0 : State) : Completes (execSmbReadTemp s0) (Frame [.smb] s0) := by
  unfold execSmbReadTemp
  refine ⟨_, rfl, ?_⟩
  repeat' first
    | with_reducible assumption
    | intro _
    | (extract_lets -merge +onlyGivenNames x; refine (have hx : Frame [.smb] s0 x := ?_; ?_); rotate_left; clear_value x; rotate_left; subst x)
    | (extract_lets -merge +onlyGivenNames x; clear_value x)
    | with_reducible exact Frame.refl _ _
    | with_reducible apply Frame.ite
    | with_reducible apply Frame.foldl
    | with_reducible apply Frame.via (State.smbRead_frame _ _) (by decide)
    | split

theorem execSmbSubmit_frame (s0 : State) (a0 : Option Bool) : Completes (execSmbSubmit a0 s0) (Frame [.regs, .front, .smb] s0) := by
  unfold execSmbSubmit
  refine ⟨_, rfl, ?_⟩
  repeat' first
    | with_reducible assumption
    | intro _
    | (extract_lets -merge +onlyGivenNames x; refine (have hx : Frame [.regs, .front, .smb] s0 x := ?_; ?_); rotate_left; clear_value x; rotate_left; subst x)
    | (extract_lets -merge +onlyGivenNames x; clear_value x)
    | with_reducible exact Frame.refl _ _
    | with_reducible apply Frame.ite
    | with_reducible apply Frame.foldl
    | with_reducible apply Frame.via (State.setBit_frame _ _ _ _) (by decide)
    | with_reducible apply Frame.via (State.incF_frame _ _ _ _ _) (by decide)
    | with_reducible refine State.smbWrite_frame _ _ _ _ (by decide) ?_ (fun _ => ?_)
    | split
    | with_reducible apply Frame.set_smb _ (by decide)
    | with_reducible apply Frame.set_front _ (by decide)

theorem execSmbTimeout_frame (s0 : State) : Completes (execSmbTimeout s0) (Frame [.regs, .smb] s0) := by
  unfold execSmbTimeout
  refine ⟨_, rfl, ?_⟩
  repeat' first
    | with_reducible assumption
    | intro _
    | (extract_lets -merge +onlyGivenNames x; refine (have hx : Frame [.regs, .smb] s0 x := ?_; ?_); rotate_left; clear_value x; rotate_left; subst x)
    | (extract_lets -merge +onlyGivenNames x; clear_value x)
    | with_reducible exact Frame.refl _ _
    | with_reducible apply Frame.ite
    | with_reducible apply Frame.foldl
    | with_reducible apply Frame.via (State.setBit_frame _ _ _ _) (by decide)
    | with_reducible apply Frame.via (State.smbAnswer_frame _ _) (by decide)
    | split

theorem execSmbWriteSlotHigh_frame (s0 : State) (a0 : Fin 129) (a1 : List Byte) (a2 : Option Bool) : Completes (execSmbWriteSlotHigh a0 a1 a2 s0) (Frame [.regs, .smb] s0) := by
  unfold execSmbWriteSlotHigh
  refine ⟨_, rfl, ?_⟩
  repeat' first
    | with_reducible assumption
    | intro _
    | (extract_lets -merge +onlyGivenNames x; refine (have hx : Frame [.regs, .smb] s0 x := ?_; ?_); rotate_left; clear_value x; rotate_left; subst x)
    | (extract_lets -merge +onlyGivenNames x; clear_value x)
    | with_reducible exact Frame.refl _ _
    | with_reducible apply Frame.ite
    | with_reducible apply Frame.foldl
    | with_reducible refine State.smbWrite_frame _ _ _ _ (by decide) ?_ (fun _ => ?_)
    | with_reducible apply Frame.via (State.stageSlot_frame _ _ _) (by decide)
    | split

theorem execSmbWriteSlotLow_frame (s0 : State) (a0 : List Byte) (a1 : Option Bool) : Completes (execSmbWriteSlotLow a0 a1 s0) (Frame [.regs, .smb] s0) := by
  unfold execSmbWriteSlotLow
  refine ⟨_, rfl, ?_⟩
  repeat' first
    | with_reducible assumption
    | intro _
    | (extract_lets -merge +onlyGivenNames x; refine (have hx : Frame [.regs, .smb] s0 x := ?_; ?_); rotate_left; clear_value x; rotate_left; subst x)
    | (extract_lets -merge +onlyGivenNames x; clear_value x)
    | with_reducible exact Frame.refl _ _
    | with_reducible apply Frame.ite
    | with_reducible apply Frame.foldl
    | with_reducible refine State.smbWrite_frame _ _ _ _ (by decide) ?_ (fun _ => ?_)
    | with_reducible apply Frame.via (State.stageSlot_frame _ _ _) (by decide)
    | split

theorem execTapInstructionUpdate_frame (s0 : State) (a0 : BitVec 8) : Completes (execTapInstructionUpdate a0 s0) (Frame [.regs, .mem, .press, .lk, .legacy, .eth, .arb, .front, .tap, .pwr] s0) := by
  unfold execTapInstructionUpdate
  refine ⟨_, rfl, ?_⟩
  repeat' first
    | with_reducible assumption
    | intro _
    | (extract_lets -merge +onlyGivenNames x; refine (have hx : Frame [.regs, .mem, .press, .lk, .legacy, .eth, .arb, .front, .tap, .pwr] s0 x := ?_; ?_); rotate_left; clear_value x; rotate_left; subst x)
    | (extract_lets -merge +onlyGivenNames x; clear_value x)
    | with_reducible exact Frame.refl _ _
    | with_reducible apply Frame.ite
    | with_reducible apply Frame.foldl
    | with_reducible apply Frame.via (State.tapInstruction_frame _ _) (by decide)
    | split

theorem execTapReset_frame (s0 : State) : Completes (execTapReset s0) (Frame [.regs, .mem, .press, .lk, .legacy, .eth, .arb, .front, .tap, .pwr] s0) := by
  unfold execTapReset
  refine ⟨_, rfl, ?_⟩
  repeat' first
    | with_reducible assumption
    | intro _
    | (extract_lets -merge +onlyGivenNames x; refine (have hx : Frame [.regs, .mem, .press, .lk, .legacy, .eth, .arb, .front, .tap, .pwr] s0 x := ?_; ?_); rotate_left; clear_value x; rotate_left; subst x)
    | (extract_lets -merge +onlyGivenNames x; clear_value x)
    | with_reducible exact Frame.refl _ _
    | with_reducible apply Frame.ite
    | with_reducible apply Frame.foldl
    | with_reducible apply Frame.via (State.tapInstruction_frame _ _) (by decide)
    | split

theorem State.mcLocal_frame (s0 : State) (a1 : Nat) (a2 : Tack) : Frame [.tacks] s0 (State.mcLocal s0 a1 a2).1 := by
  unfold State.mcLocal
  repeat' first
    | with_reducible assumption
    | intro _
    | (extract_lets -merge +onlyGivenNames x; refine (have hx : Frame [.tacks] s0 x := ?_; ?_); rotate_left; clear_value x; rotate_left; subst x)
    | (extract_lets -merge +onlyGivenNames x; clear_value x)
    | with_reducible exact Frame.refl _ _
    | with_reducible apply Frame.ite
    | with_reducible apply Frame.foldl
    | with_reducible apply Frame.via (State.deliverIn_frame _ _) (by decide)
    | split

theorem State.tackOut_frame (s0 : State) (a1 : Nat) (a2 : Nat) (a3 : Tack) : Frame [.regs, .linkTx, .arb] s0 (State.tackOut s0 a1 a2 a3) := by
  unfold State.tackOut
  repeat' first
    | with_reducible assumption
    | intro _
    | (extract_lets -merge +onlyGivenNames x; refine (have hx : Frame [.regs, .linkTx, .arb] s0 x := ?_; ?_); rotate_left; clear_value x; rotate_left; subst x)
    | (extract_lets -merge +onlyGivenNames x; clear_value x)
    | with_reducible exact Frame.refl _ _
    | with_reducible apply Frame.ite
    | with_reducible apply Frame.foldl
    | with_reducible apply Frame.via (State.setLogged_frame _ _ _ _ _) (by decide)
    | with_reducible apply Frame.via (State.incF_frame _ _ _ _ _) (by decide)
    | with_reducible apply Frame.via (State.txFlit_frame _ _ _) (by decide)
    | split

theorem State.deflectTack_frame (s0 : State) (a1 : Nat) (a2 : BitVec 6) (a3 : Cand) : Frame [.regs, .linkTx, .tacks, .arb] s0 (State.deflectTack s0 a1 a2 a3) := by
  unfold State.deflectTack
  repeat' first
    | with_reducible assumption
    | intro _
    | (extract_lets -merge +onlyGivenNames x; refine (have hx : Frame [.regs, .linkTx, .tacks, .arb] s0 x := ?_; ?_); rotate_left; clear_value x; rotate_left; subst x)
    | (extract_lets -merge +onlyGivenNames x; refine (have hx : Frame [.regs, .linkTx, .tacks, .arb] s0 x.1 := ?_; ?_); rotate_left; clear_value x; rotate_left; subst x)
    | (extract_lets -merge +onlyGivenNames x; refine (have hf : _ → _ := x; ?_); clear hf; subst x)
    | (extract_lets -merge +onlyGivenNames x; clear_value x)
    | with_reducible exact Frame.refl _ _
    | with_reducible apply Frame.ite
    | with_reducible apply Frame.ite1
    | with_reducible apply Frame.foldl
    | with_reducible apply Frame.foldl1
    | with_reducible apply Frame.idf
    | with_reducible apply Frame.via (State.incF_frame _ _ _ _ _) (by decide)
    | with_reducible apply Frame.via (State.takeCand_frame _ _ _ _) (by decide)
    | with_reducible apply Frame.via (State.giveBack_frame _ _) (by decide)
    | with_reducible apply Frame.via (State.mcLocal_frame _ _ _) (by decide)
    | with_reducible apply Frame.via (State.tackOut_frame _ _ _ _) (by decide)
    | with_reducible refine Frame.via (Frame.of_eq1 (State.mcLocal_frame _ _ _) (by assumption)) (by decide) ?_
    | split

theorem State.enqueue_frame (s0 : State) (a1 : Tack) : Frame [.tacks] s0 (State.enqueue s0 a1) := by
  unfold State.enqueue
  repeat' first
    | with_reducible assumption
    | intro _
    | (extract_lets -merge +onlyGivenNames x; refine (have hx : Frame [.tacks] s0 x := ?_; ?_); rotate_left; clear_value x; rotate_left; subst x)
    | (extract_lets -merge +onlyGivenNames x; clear_value x)
    | with_reducible exact Frame.refl _ _
    | with_reducible apply Frame.ite
    | with_reducible apply Frame.foldl
    | split
    | with_reducible apply Frame.set_tacks _ (by decide)

theorem State.mcServe_frame (s0 : State) (a1 : Nat) (a2 : BitVec 6) (a3 : Cand) : Frame [.regs, .linkTx, .tacks, .arb] s0 (State.mcServe s0 a1 a2 a3) := by
  unfold State.mcServe
  repeat' first
    | with_reducible assumption
    | intro _
    | (extract_lets -merge +onlyGivenNames x; refine (have hx : Frame [.regs, .linkTx, .tacks, .arb] s0 x := ?_; ?_); rotate_left; clear_value x; rotate_left; subst x)
    | (extract_lets -merge +onlyGivenNames x; refine (have hx : Frame [.regs, .linkTx, .tacks, .arb] s0 x.1 := ?_; ?_); rotate_left; clear_value x; rotate_left; subst x)
    | (extract_lets -merge +onlyGivenNames x; refine (have hf : _ → _ := x; ?_); clear hf; subst x)
    | (extract_lets -merge +onlyGivenNames x; clear_value x)
    | with_reducible exact Frame.refl _ _
    | with_reducible apply Frame.ite
    | with_reducible apply Frame.ite1
    | with_reducible apply Frame.foldl
    | with_reducible apply Frame.foldl1
    | with_reducible apply Frame.idf
    | with_reducible apply Frame.via (State.takeCand_frame _ _ _ _) (by decide)
    | with_reducible apply Frame.via (State.giveBack_frame _ _) (by decide)
    | with_reducible apply Frame.via (State.mcLocal_frame _ _ _) (by decide)
    | with_reducible apply Frame.via (State.tackOut_frame _ _ _ _) (by decide)
    | with_reducible refine Frame.via (Frame.of_eq1 (State.mcLocal_frame _ _ _) (by assumption)) (by decide) ?_
    | split

theorem State.forwardTack_frame (s0 : State) (a1 : Nat) (a2 : BitVec 6) (a3 : Cand) : Frame [.regs, .linkTx, .tacks, .arb] s0 (State.forwardTack s0 a1 a2 a3) := by
  unfold State.forwardTack
  repeat' first
    | with_reducible assumption
    | intro _
    | (extract_lets -merge +onlyGivenNames x; refine (have hx : Frame [.regs, .linkTx, .tacks, .arb] s0 x := ?_; ?_); rotate_left; clear_value x; rotate_left; subst x)
    | (extract_lets -merge +onlyGivenNames x; clear_value x)
    | with_reducible exact Frame.refl _ _
    | with_reducible apply Frame.ite
    | with_reducible apply Frame.foldl
    | with_reducible apply Frame.via (State.incF_frame _ _ _ _ _) (by decide)
    | with_reducible apply Frame.via (State.txFlit_frame _ _ _) (by decide)
    | with_reducible apply Frame.via (State.deliverIn_frame _ _) (by decide)
    | with_reducible apply Frame.via (State.takeCand_frame _ _ _ _) (by decide)
    | with_reducible apply Frame.via (State.giveBack_frame _ _) (by decide)
    | with_reducible apply Frame.via (State.tackOut_frame _ _ _ _) (by decide)
    | with_reducible apply Frame.via (State.mcServe_frame _ _ _ _) (by decide)
    | split

theorem State.refuseTack_frame (s0 : State) (a1 : Tack) (a2 : Nat) : Frame [.regs, .tacks] s0 (State.refuseTack s0 a1 a2) := by
  unfold State.refuseTack
  repeat' first
    | with_reducible assumption
    | intro _
    | (extract_lets -merge +onlyGivenNames x; refine (have hx : Frame [.regs, .tacks] s0 x := ?_; ?_); rotate_left; clear_value x; rotate_left; subst x)
    | (extract_lets -merge +onlyGivenNames x; clear_value x)
    | with_reducible exact Frame.refl _ _
    | with_reducible apply Frame.ite
    | with_reducible apply Frame.foldl
    | with_reducible apply Frame.via (State.deliverIn_frame _ _) (by decide)
    | with_reducible apply Frame.via (State.returnToken_frame _ _ _) (by decide)
    | split

theorem State.translate_frame (s0 : State) (a1 : Tack) : Frame [.regs, .tacks, .arb] s0 (State.translate s0 a1) := by
  unfold State.translate
  repeat' first
    | with_reducible assumption
    | intro _
    | (extract_lets -merge +onlyGivenNames x; refine (have hx : Frame [.regs, .tacks, .arb] s0 x := ?_; ?_); rotate_left; clear_value x; rotate_left; subst x)
    | (extract_lets -merge +onlyGivenNames x; clear_value x)
    | with_reducible exact Frame.refl _ _
    | with_reducible apply Frame.ite
    | with_reducible apply Frame.foldl
    | with_reducible apply Frame.via (State.setLogged_frame _ _ _ _ _) (by decide)
    | with_reducible apply Frame.via (State.rankMiss_frame _ _ _) (by decide)
    | with_reducible apply Frame.via (State.deliverIn_frame _ _) (by decide)
    | with_reducible apply Frame.via (State.giveBack_frame _ _) (by decide)
    | with_reducible apply Frame.via (State.enqueue_frame _ _) (by decide)
    | with_reducible apply Frame.via (State.refuseTack_frame _ _ _) (by decide)
    | split

theorem State.awayTack_frame (s0 : State) (a1 : Tack) (a2 : Nat) (a3 : Nat) : Frame [.regs, .sects, .tacks] s0 (State.awayTack s0 a1 a2 a3) := by
  unfold State.awayTack
  repeat' first
    | with_reducible assumption
    | intro _
    | (extract_lets -merge +onlyGivenNames x; refine (have hx : Frame [.regs, .sects, .tacks] s0 x := ?_; ?_); rotate_left; clear_value x; rotate_left; subst x)
    | (extract_lets -merge +onlyGivenNames x; clear_value x)
    | with_reducible exact Frame.refl _ _
    | with_reducible apply Frame.ite
    | with_reducible apply Frame.foldl
    | with_reducible apply Frame.via (State.setBit_frame _ _ _ _) (by decide)
    | with_reducible apply Frame.via (State.sendAck_frame _ _ _ _) (by decide)
    | split

theorem State.takeIn_frame (s0 : State) (d kind : Nat) {t : State} {y : Tack} (h : s0.takeIn d kind = some (t, y)) : Frame [.regs, .tacks] s0 t := by
  unfold State.takeIn at h
  obtain ⟨n, -, h⟩ := Option.map_eq_some_iff.mp h
  cases h
  exact Frame.via (State.giveBack_frame _ _) (by decide) (Frame.set_tacks _ (by decide) (Frame.refl _ _))

theorem State.knotIn_frame (s0 : State) (a1 : Nat) (a2 : Nat) : Frame [.regs, .press, .score, .tacks] s0 (State.knotIn s0 a1 a2) := by
  unfold State.knotIn
  repeat' first
    | with_reducible assumption
    | intro _
    | (extract_lets -merge +onlyGivenNames x; refine (have hx : Frame [.regs, .press, .score, .tacks] s0 x := ?_; ?_); rotate_left; clear_value x; rotate_left; subst x)
    | (extract_lets -merge +onlyGivenNames x; clear_value x)
    | with_reducible exact Frame.refl _ _
    | with_reducible apply Frame.ite
    | with_reducible apply Frame.foldl
    | with_reducible apply Frame.via (State.applyKnot_frame _ _ _) (by decide)
    | with_reducible refine Frame.via (State.takeIn_frame _ _ _ (by assumption)) (by decide) ?_
    | split

theorem State.tackStore_frame (s0 : State) (a1 : Nat) (a2 : Tack) : Frame [.regs, .mem, .press, .sects, .tacks, .unison, .arb] s0 (State.tackStore s0 a1 a2) := by
  unfold State.tackStore
  repeat' first
    | with_reducible assumption
    | intro _
    | (extract_lets -merge +onlyGivenNames x; refine (have hx : Frame [.regs, .mem, .press, .sects, .tacks, .unison, .arb] s0 x := ?_; ?_); rotate_left; clear_value x; rotate_left; subst x)
    | (extract_lets -merge +onlyGivenNames x; refine (have hx : Frame [.regs, .mem, .press, .sects, .tacks, .unison, .arb] s0 x.1 := ?_; ?_); rotate_left; clear_value x; rotate_left; subst x)
    | (extract_lets -merge +onlyGivenNames x; refine (have hf : _ → _ := x; ?_); clear hf; subst x)
    | (extract_lets -merge +onlyGivenNames x; clear_value x)
    | with_reducible exact Frame.refl _ _
    | with_reducible apply Frame.ite
    | with_reducible apply Frame.ite1
    | with_reducible apply Frame.foldl
    | with_reducible apply Frame.foldl1
    | with_reducible apply Frame.idf
    | with_reducible apply Frame.via (State.writePiece_frame _ _ _ _ _) (by decide)
    | with_reducible apply Frame.via (State.sendAck_frame _ _ _ _) (by decide)
    | with_reducible refine Frame.via (Frame.of_eq1 (State.writePiece_frame _ _ _ _ _) (by assumption)) (by decide) ?_
    | split

theorem State.memTack_frame (s0 : State) (a1 : Nat) (a2 : Tack) (a3 : Ecc) : Frame [.regs, .mem, .press, .sects, .ports, .tacks, .unison, .arb] s0 (State.memTack s0 a1 a2 a3) := by
  unfold State.memTack
  repeat' first
    | with_reducible assumption
    | intro _
    | (extract_lets -merge +onlyGivenNames x; refine (have hx : Frame [.regs, .mem, .press, .sects, .ports, .tacks, .unison, .arb] s0 x := ?_; ?_); rotate_left; clear_value x; rotate_left; subst x)
    | (extract_lets -merge +onlyGivenNames x; clear_value x)
    | with_reducible exact Frame.refl _ _
    | with_reducible apply Frame.ite
    | with_reducible apply Frame.foldl
    | with_reducible apply Frame.via (State.setLogged_frame _ _ _ _ _) (by decide)
    | with_reducible apply Frame.via (State.eccSeen_frame _ _ _) (by decide)
    | with_reducible apply Frame.via (State.sendAck_frame _ _ _ _) (by decide)
    | with_reducible apply Frame.via (State.stray_frame _ _ _ _) (by decide)
    | with_reducible apply Frame.via (State.awayTack_frame _ _ _ _) (by decide)
    | with_reducible apply Frame.via (State.tackStore_frame _ _ _) (by decide)
    | split

theorem State.toInbox_frame (s0 : State) (a1 : Nat) (a2 : Tack) : Frame [.regs, .tacks] s0 (State.toInbox s0 a1 a2).1 := by
  unfold State.toInbox
  repeat' first
    | with_reducible assumption
    | intro _
    | (extract_lets -merge +onlyGivenNames x; refine (have hx : Frame [.regs, .tacks] s0 x := ?_; ?_); rotate_left; clear_value x; rotate_left; subst x)
    | (extract_lets -merge +onlyGivenNames x; clear_value x)
    | with_reducible exact Frame.refl _ _
    | with_reducible apply Frame.ite
    | with_reducible apply Frame.foldl
    | with_reducible apply Frame.via (State.setF_frame _ _ _ _ _) (by decide)
    | with_reducible apply Frame.via (State.dropTack_frame _ _ _) (by decide)
    | split
    | with_reducible apply Frame.set_tacks _ (by decide)

theorem State.peerFragment_frame (s0 : State) (a1 : Nat) (a2 : Tack) : Frame [.regs, .tacks] s0 (State.peerFragment s0 a1 a2).1 := by
  unfold State.peerFragment
  repeat' first
    | with_reducible assumption
    | intro _
    | (extract_lets -merge +onlyGivenNames x; refine (have hx : Frame [.regs, .tacks] s0 x := ?_; ?_); rotate_left; clear_value x; rotate_left; subst x)
    | (extract_lets -merge +onlyGivenNames x; clear_value x)
    | with_reducible exact Frame.refl _ _
    | with_reducible apply Frame.ite
    | with_reducible apply Frame.foldl
    | with_reducible apply Frame.via (State.setBit_frame _ _ _ _) (by decide)
    | with_reducible apply Frame.via (State.toInbox_frame _ _ _) (by decide)
    | with_reducible refine Frame.via (Frame.of_eq1 (State.toInbox_frame _ _ _) (by assumption)) (by decide) ?_
    | split

theorem State.unPending_frame (s0 : State) : Frame [.regs] s0 (State.unPending s0) := by
  unfold State.unPending
  repeat' first
    | with_reducible assumption
    | intro _
    | (extract_lets -merge +onlyGivenNames x; refine (have hx : Frame [.regs] s0 x := ?_; ?_); rotate_left; clear_value x; rotate_left; subst x)
    | (extract_lets -merge +onlyGivenNames x; clear_value x)
    | with_reducible exact Frame.refl _ _
    | with_reducible apply Frame.ite
    | with_reducible apply Frame.foldl
    | with_reducible apply Frame.via (State.setF_frame _ _ _ _ _) (by decide)
    | with_reducible apply Frame.via (State.peakF_frame _ _ _ _ _) (by decide)
    | split

theorem State.unDrop_frame (s0 : State) (a1 : Nat) : Frame [.regs, .unison] s0 (State.unDrop s0 a1) := by
  unfold State.unDrop
  repeat' first
    | with_reducible assumption
    | intro _
    | (extract_lets -merge +onlyGivenNames x; refine (have hx : Frame [.regs, .unison] s0 x := ?_; ?_); rotate_left; clear_value x; rotate_left; subst x)
    | (extract_lets -merge +onlyGivenNames x; clear_value x)
    | with_reducible exact Frame.refl _ _
    | with_reducible apply Frame.ite
    | with_reducible apply Frame.foldl
    | with_reducible apply Frame.via (State.setUnison_frame _ _) (by decide)
    | with_reducible apply Frame.via (State.unPending_frame _) (by decide)
    | split

theorem State.unUnchecked_frame (s0 : State) (a1 : Nat) (a2 : Fld) : Frame [.regs, .unison, .arb] s0 (State.unUnchecked s0 a1 a2) := by
  unfold State.unUnchecked
  repeat' first
    | with_reducible assumption
    | intro _
    | (extract_lets -merge +onlyGivenNames x; refine (have hx : Frame [.regs, .unison, .arb] s0 x := ?_; ?_); rotate_left; clear_value x; rotate_left; subst x)
    | (extract_lets -merge +onlyGivenNames x; clear_value x)
    | with_reducible exact Frame.refl _ _
    | with_reducible apply Frame.ite
    | with_reducible apply Frame.foldl
    | with_reducible apply Frame.via (State.setLogged_frame _ _ _ _ _) (by decide)
    | with_reducible apply Frame.via (State.incF_frame _ _ _ _ _) (by decide)
    | with_reducible apply Frame.via (State.setUnison_frame _ _) (by decide)
    | with_reducible apply Frame.via (State.unDrop_frame _ _) (by decide)
    | split

theorem State.unReceive_frame (s0 : State) (a1 : Tack) : Frame [.regs, .unison, .arb] s0 (State.unReceive s0 a1) := by
  unfold State.unReceive
  repeat' first
    | with_reducible assumption
    | intro _
    | (extract_lets -merge +onlyGivenNames x; refine (have hx : Frame [.regs, .unison, .arb] s0 x := ?_; ?_); rotate_left; clear_value x; rotate_left; subst x)
    | (extract_lets -merge +onlyGivenNames x; clear_value x)
    | with_reducible exact Frame.refl _ _
    | with_reducible apply Frame.ite
    | with_reducible apply Frame.foldl
    | with_reducible apply Frame.via (State.setUnison_frame _ _) (by decide)
    | with_reducible apply Frame.via (State.unPending_frame _) (by decide)
    | with_reducible apply Frame.via (State.unUnchecked_frame _ _ _) (by decide)
    | split

theorem execAckReceive_frame (s0 : State) (a0 : Fin 12) : Completes (execAckReceive a0 s0) (Frame [.regs, .tacks, .arb] s0) := by
  unfold execAckReceive
  refine ⟨_, rfl, ?_⟩
  repeat' first
    | with_reducible assumption
    | intro _
    | (extract_lets -merge +onlyGivenNames x; refine (have hx : Frame [.regs, .tacks, .arb] s0 x := ?_; ?_); rotate_left; clear_value x; rotate_left; subst x)
    | (extract_lets -merge +onlyGivenNames x; clear_value x)
    | with_reducible exact Frame.refl _ _
    | with_reducible apply Frame.ite
    | with_reducible apply Frame.foldl
    | with_reducible apply Frame.via (State.setF_frame _ _ _ _ _) (by decide)
    | with_reducible apply Frame.via (State.setBit_frame _ _ _ _) (by decide)
    | with_reducible apply Frame.via (State.setLogged_frame _ _ _ _ _) (by decide)
    | with_reducible apply Frame.via (State.returnToken_frame _ _ _) (by decide)
    | with_reducible refine Frame.via (State.takeIn_frame _ _ _ (by assumption)) (by decide) ?_
    | with_reducible apply Frame.via (State.toInbox_frame _ _ _) (by decide)
    | with_reducible refine Frame.via (Frame.of_eq1 (State.toInbox_frame _ _ _) (by assumption)) (by decide) ?_
    | split

theorem execAckTimeout_frame (s0 : State) (a0 : Fin 10) (a1 : Fin 64) : Completes (execAckTimeout a0 a1 s0) (Frame [.regs, .tacks, .arb] s0) := by
  unfold execAckTimeout
  refine ⟨_, rfl, ?_⟩
  repeat' first
    | with_reducible assumption
    | intro _
    | (extract_lets -merge +onlyGivenNames x; refine (have hx : Frame [.regs, .tacks, .arb] s0 x := ?_; ?_); rotate_left; clear_value x; rotate_left; subst x)
    | (extract_lets -merge +onlyGivenNames x; clear_value x)
    | with_reducible exact Frame.refl _ _
    | with_reducible apply Frame.ite
    | with_reducible apply Frame.foldl
    | with_reducible apply Frame.via (State.setF_frame _ _ _ _ _) (by decide)
    | with_reducible apply Frame.via (State.setLogged_frame _ _ _ _ _) (by decide)
    | with_reducible apply Frame.via (State.incF_frame _ _ _ _ _) (by decide)
    | with_reducible apply Frame.via (State.returnToken_frame _ _ _) (by decide)
    | split

theorem execAddDeliver_frame (s0 : State) (a0 : Fin 12) (a1 : Ecc) : Completes (execAddDeliver a0 a1 s0) (Frame [.regs, .mem, .press, .sects, .ports, .tacks, .unison, .arb] s0) := by
  unfold execAddDeliver
  refine ⟨_, rfl, ?_⟩
  repeat' first
    | with_reducible assumption
    | intro _
    | (extract_lets -merge +onlyGivenNames x; refine (have hx : Frame [.regs, .mem, .press, .sects, .ports, .tacks, .unison, .arb] s0 x := ?_; ?_); rotate_left; clear_value x; rotate_left; subst x)
    | (extract_lets -merge +onlyGivenNames x; clear_value x)
    | with_reducible exact Frame.refl _ _
    | with_reducible apply Frame.ite
    | with_reducible apply Frame.foldl
    | with_reducible refine Frame.via (State.takeIn_frame _ _ _ (by assumption)) (by decide) ?_
    | with_reducible apply Frame.via (State.memTack_frame _ _ _ _) (by decide)
    | split

theorem execBoltTailArrive_frame (s0 : State) (a0 : Nat) (a1 : SkidObs) : Completes (execBoltTailArrive a0 a1 s0) (Frame [.regs, .mem, .lk, .seams, .score, .books, .unison, .arb] s0) := by
  unfold execBoltTailArrive
  refine ⟨_, rfl, ?_⟩
  repeat' first
    | with_reducible assumption
    | intro _
    | (extract_lets -merge +onlyGivenNames x; refine (have hx : Frame [.regs, .mem, .lk, .seams, .score, .books, .unison, .arb] s0 x := ?_; ?_); rotate_left; clear_value x; rotate_left; subst x)
    | (extract_lets -merge +onlyGivenNames x; refine (have hx : Frame [.regs, .mem, .lk, .seams, .score, .books, .unison, .arb] s0 x.1 := ?_; ?_); rotate_left; clear_value x; rotate_left; subst x)
    | (extract_lets -merge +onlyGivenNames x; refine (have hf : _ → _ := x; ?_); clear hf; subst x)
    | (extract_lets -merge +onlyGivenNames x; clear_value x)
    | with_reducible exact Frame.refl _ _
    | with_reducible apply Frame.ite
    | with_reducible apply Frame.ite1
    | with_reducible apply Frame.foldl
    | with_reducible apply Frame.foldl1
    | with_reducible apply Frame.idf
    | with_reducible apply Frame.via (State.inputObs_frame _ _ _) (by decide)
    | with_reducible apply Frame.via (State.landFlight_frame _ _) (by decide)
    | with_reducible refine Frame.via (Frame.of_eq1 (State.inputObs_frame _ _ _) (by assumption)) (by decide) ?_
    | split

theorem execCsendGo_frame (s0 : State) (a0 : Fin 2) : Completes (execCsendGo a0 s0) (Frame [.regs, .sects, .tacks] s0) := by
  unfold execCsendGo
  refine ⟨_, rfl, ?_⟩
  repeat' first
    | with_reducible assumption
    | intro _
    | (extract_lets -merge +onlyGivenNames x; refine (have hx : Frame [.regs, .sects, .tacks] s0 x := ?_; ?_); rotate_left; clear_value x; rotate_left; subst x)
    | (extract_lets -merge +onlyGivenNames x; clear_value x)
    | with_reducible exact Frame.refl _ _
    | with_reducible apply Frame.ite
    | with_reducible apply Frame.foldl
    | with_reducible apply Frame.via (State.csendGo_frame _ _) (by decide)
    | split

theorem execDoorbellDeliver_frame (s0 : State) (a0 : Fin 12) : Completes (execDoorbellDeliver a0 s0) (Frame [.regs, .sects, .tacks, .unison, .arb] s0) := by
  unfold execDoorbellDeliver
  refine ⟨_, rfl, ?_⟩
  repeat' first
    | with_reducible assumption
    | intro _
    | (extract_lets -merge +onlyGivenNames x; refine (have hx : Frame [.regs, .sects, .tacks, .unison, .arb] s0 x := ?_; ?_); rotate_left; clear_value x; rotate_left; subst x)
    | (extract_lets -merge +onlyGivenNames x; refine (have hx : Frame [.regs, .sects, .tacks, .unison, .arb] s0 x.1 := ?_; ?_); rotate_left; clear_value x; rotate_left; subst x)
    | (extract_lets -merge +onlyGivenNames x; refine (have hf : _ → _ := x; ?_); clear hf; subst x)
    | (extract_lets -merge +onlyGivenNames x; clear_value x)
    | with_reducible exact Frame.refl _ _
    | with_reducible apply Frame.ite
    | with_reducible apply Frame.ite1
    | with_reducible apply Frame.foldl
    | with_reducible apply Frame.foldl1
    | with_reducible apply Frame.idf
    | with_reducible apply Frame.via (State.sendAck_frame _ _ _ _) (by decide)
    | with_reducible apply Frame.via (State.dropTack_frame _ _ _) (by decide)
    | with_reducible apply Frame.via (State.awayTack_frame _ _ _ _) (by decide)
    | with_reducible refine Frame.via (State.takeIn_frame _ _ _ (by assumption)) (by decide) ?_
    | with_reducible apply Frame.via (State.toInbox_frame _ _ _) (by decide)
    | with_reducible apply Frame.via (State.unReceive_frame _ _) (by decide)
    | with_reducible refine Frame.via (Frame.of_eq1 (State.toInbox_frame _ _ _) (by assumption)) (by decide) ?_
    | split

theorem execInboxPop_frame (s0 : State) (a0 : Fin 2) : Completes (execInboxPop a0 s0) (Frame [.regs, .tacks] s0) := by
  unfold execInboxPop
  refine ⟨_, rfl, ?_⟩
  repeat' first
    | with_reducible assumption
    | intro _
    | (extract_lets -merge +onlyGivenNames x; refine (have hx : Frame [.regs, .tacks] s0 x := ?_; ?_); rotate_left; clear_value x; rotate_left; subst x)
    | (extract_lets -merge +onlyGivenNames x; clear_value x)
    | with_reducible exact Frame.refl _ _
    | with_reducible apply Frame.ite
    | with_reducible apply Frame.foldl
    | with_reducible apply Frame.via (State.popInbox_frame _ _) (by decide)
    | split

theorem execKnotApply_frame (s0 : State) (a0 : Fin 2) : Completes (execKnotApply a0 s0) (Frame [.regs, .press, .score, .tacks] s0) := by
  unfold execKnotApply
  refine ⟨_, rfl, ?_⟩
  repeat' first
    | with_reducible assumption
    | intro _
    | (extract_lets -merge +onlyGivenNames x; refine (have hx : Frame [.regs, .press, .score, .tacks] s0 x := ?_; ?_); rotate_left; clear_value x; rotate_left; subst x)
    | (extract_lets -merge +onlyGivenNames x; clear_value x)
    | with_reducible exact Frame.refl _ _
    | with_reducible apply Frame.ite
    | with_reducible apply Frame.foldl
    | with_reducible apply Frame.via (State.knotIn_frame _ _ _) (by decide)
    | split

theorem execKnotTackSend_frame (s0 : State) (a0 : Fin 8) : Completes (execKnotTackSend a0 s0) (Frame [.regs, .sects, .score, .tacks] s0) := by
  unfold execKnotTackSend
  refine ⟨_, rfl, ?_⟩
  repeat' first
    | with_reducible assumption
    | intro _
    | (extract_lets -merge +onlyGivenNames x; refine (have hx : Frame [.regs, .sects, .score, .tacks] s0 x := ?_; ?_); rotate_left; clear_value x; rotate_left; subst x)
    | (extract_lets -merge +onlyGivenNames x; clear_value x)
    | with_reducible exact Frame.refl _ _
    | with_reducible apply Frame.ite
    | with_reducible apply Frame.foldl
    | with_reducible apply Frame.via (State.buildTack_frame _ _ _ _ _) (by decide)
    | split
    | with_reducible apply Frame.set_score _ (by decide)

theorem execMcastGroupWrite_frame (s0 : State) (a0 : Cmd) : Completes (execMcastGroupWrite a0 s0) (Frame [.regs, .mem, .tacks, .front] s0) := by
  unfold execMcastGroupWrite
  refine ⟨_, rfl, ?_⟩
  repeat' first
    | with_reducible assumption
    | intro _
    | (extract_lets -merge +onlyGivenNames x; refine (have hx : Frame [.regs, .mem, .tacks, .front] s0 x := ?_; ?_); rotate_left; clear_value x; rotate_left; subst x)
    | (extract_lets -merge +onlyGivenNames x; refine (have hx : Frame [.regs, .mem, .tacks, .front] s0 x.1 := ?_; ?_); rotate_left; clear_value x; rotate_left; subst x)
    | (extract_lets -merge +onlyGivenNames x; refine (have hf : _ → _ := x; ?_); clear hf; subst x)
    | (extract_lets -merge +onlyGivenNames x; clear_value x)
    | with_reducible exact Frame.refl _ _
    | with_reducible apply Frame.ite
    | with_reducible apply Frame.ite1
    | with_reducible apply Frame.foldl
    | with_reducible apply Frame.foldl1
    | with_reducible apply Frame.idf
    | with_reducible apply Frame.via (State.complete_frame _ _ _ _) (by decide)
    | with_reducible refine State.runCmd_frame _ _ _ _ _ (by decide) ?_ (fun _ => ?_)
    | split
    | with_reducible apply Frame.set_tacks _ (by decide)

theorem execNoticeDeliver_frame (s0 : State) (a0 : Fin 12) : Completes (execNoticeDeliver a0 s0) (Frame [.regs, .sects, .score, .tacks, .books, .unison, .arb] s0) := by
  unfold execNoticeDeliver
  refine ⟨_, rfl, ?_⟩
  repeat' first
    | with_reducible assumption
    | intro _
    | (extract_lets -merge +onlyGivenNames x; refine (have hx : Frame [.regs, .sects, .score, .tacks, .books, .unison, .arb] s0 x := ?_; ?_); rotate_left; clear_value x; rotate_left; subst x)
    | (extract_lets -merge +onlyGivenNames x; clear_value x)
    | with_reducible exact Frame.refl _ _
    | with_reducible apply Frame.ite
    | with_reducible apply Frame.foldl
    | with_reducible apply Frame.via (State.incF_frame _ _ _ _ _) (by decide)
    | with_reducible apply Frame.via (State.logItem_frame _ _) (by decide)
    | with_reducible apply Frame.via (State.addTally_frame _ _ _ _) (by decide)
    | with_reducible apply Frame.via (State.sendAck_frame _ _ _ _) (by decide)
    | with_reducible apply Frame.via (State.awayTack_frame _ _ _ _) (by decide)
    | with_reducible refine Frame.via (State.takeIn_frame _ _ _ (by assumption)) (by decide) ?_
    | split
    | with_reducible apply Frame.set_books _ (by decide)

theorem execPeerReqDeliver_frame (s0 : State) (a0 : Fin 12) : Completes (execPeerReqDeliver a0 s0) (Frame [.regs, .tacks] s0) := by
  unfold execPeerReqDeliver
  refine ⟨_, rfl, ?_⟩
  repeat' first
    | with_reducible assumption
    | intro _
    | (extract_lets -merge +onlyGivenNames x; refine (have hx : Frame [.regs, .tacks] s0 x := ?_; ?_); rotate_left; clear_value x; rotate_left; subst x)
    | (extract_lets -merge +onlyGivenNames x; clear_value x)
    | with_reducible exact Frame.refl _ _
    | with_reducible apply Frame.ite
    | with_reducible apply Frame.foldl
    | with_reducible refine Frame.via (State.takeIn_frame _ _ _ (by assumption)) (by decide) ?_
    | with_reducible apply Frame.via (State.peerFragment_frame _ _ _) (by decide)
    | with_reducible refine Frame.via (Frame.of_eq1 (State.peerFragment_frame _ _ _) (by assumption)) (by decide) ?_
    | split

theorem execPeerRspDeliver_frame (s0 : State) (a0 : Fin 12) : Completes (execPeerRspDeliver a0 s0) (Frame [.regs, .tacks] s0) := by
  unfold execPeerRspDeliver
  refine ⟨_, rfl, ?_⟩
  repeat' first
    | with_reducible assumption
    | intro _
    | (extract_lets -merge +onlyGivenNames x; refine (have hx : Frame [.regs, .tacks] s0 x := ?_; ?_); rotate_left; clear_value x; rotate_left; subst x)
    | (extract_lets -merge +onlyGivenNames x; refine (have hx : Frame [.regs, .tacks] s0 x.1 := ?_; ?_); rotate_left; clear_value x; rotate_left; subst x)
    | (extract_lets -merge +onlyGivenNames x; refine (have hf : _ → _ := x; ?_); clear hf; subst x)
    | (extract_lets -merge +onlyGivenNames x; clear_value x)
    | with_reducible exact Frame.refl _ _
    | with_reducible apply Frame.ite
    | with_reducible apply Frame.ite1
    | with_reducible apply Frame.foldl
    | with_reducible apply Frame.foldl1
    | with_reducible apply Frame.idf
    | with_reducible apply Frame.via (State.returnToken_frame _ _ _) (by decide)
    | with_reducible refine Frame.via (State.takeIn_frame _ _ _ (by assumption)) (by decide) ?_
    | with_reducible apply Frame.via (State.peerFragment_frame _ _ _) (by decide)
    | with_reducible refine Frame.via (Frame.of_eq1 (State.peerFragment_frame _ _ _) (by assumption)) (by decide) ?_
    | split

theorem execSnagApply_frame (s0 : State) (a0 : Fin 2) : Completes (execSnagApply a0 s0) (Frame [.regs, .press, .score, .tacks] s0) := by
  unfold execSnagApply
  refine ⟨_, rfl, ?_⟩
  repeat' first
    | with_reducible assumption
    | intro _
    | (extract_lets -merge +onlyGivenNames x; refine (have hx : Frame [.regs, .press, .score, .tacks] s0 x := ?_; ?_); rotate_left; clear_value x; rotate_left; subst x)
    | (extract_lets -merge +onlyGivenNames x; clear_value x)
    | with_reducible exact Frame.refl _ _
    | with_reducible apply Frame.ite
    | with_reducible apply Frame.foldl
    | with_reducible apply Frame.via (State.knotIn_frame _ _ _) (by decide)
    | split

theorem execTackDeflect_frame (s0 : State) (a0 : Fin 2) (a1 : Nat) (a2 : Nat) (a3 : BitVec 6) : Completes (execTackDeflect a0 a1 a2 a3 s0) (Frame [.regs, .linkTx, .tacks, .arb] s0) := by
  unfold execTackDeflect
  refine ⟨_, rfl, ?_⟩
  repeat' first
    | with_reducible assumption
    | intro _
    | (extract_lets -merge +onlyGivenNames x; refine (have hx : Frame [.regs, .linkTx, .tacks, .arb] s0 x := ?_; ?_); rotate_left; clear_value x; rotate_left; subst x)
    | (extract_lets -merge +onlyGivenNames x; clear_value x)
    | with_reducible exact Frame.refl _ _
    | with_reducible apply Frame.ite
    | with_reducible apply Frame.foldl
    | with_reducible apply Frame.via (State.deflectTack_frame _ _ _ _) (by decide)
    | split

theorem execTackForward_frame (s0 : State) (a0 : Fin 2) (a1 : BitVec 6) : Completes (execTackForward a0 a1 s0) (Frame [.regs, .linkTx, .tacks, .arb] s0) := by
  unfold execTackForward
  refine ⟨_, rfl, ?_⟩
  repeat' first
    | with_reducible assumption
    | intro _
    | (extract_lets -merge +onlyGivenNames x; refine (have hx : Frame [.regs, .linkTx, .tacks, .arb] s0 x := ?_; ?_); rotate_left; clear_value x; rotate_left; subst x)
    | (extract_lets -merge +onlyGivenNames x; clear_value x)
    | with_reducible exact Frame.refl _ _
    | with_reducible apply Frame.ite
    | with_reducible apply Frame.foldl
    | with_reducible apply Frame.via (State.forwardTack_frame _ _ _ _) (by decide)
    | split

theorem execTackInjectTranslate_frame (s0 : State) (a0 : Fin 2) : Completes (execTackInjectTranslate a0 s0) (Frame [.regs, .tacks, .arb] s0) := by
  unfold execTackInjectTranslate
  refine ⟨_, rfl, ?_⟩
  repeat' first
    | with_reducible assumption
    | intro _
    | (extract_lets -merge +onlyGivenNames x; refine (have hx : Frame [.regs, .tacks, .arb] s0 x := ?_; ?_); rotate_left; clear_value x; rotate_left; subst x)
    | (extract_lets -merge +onlyGivenNames x; clear_value x)
    | with_reducible exact Frame.refl _ _
    | with_reducible apply Frame.ite
    | with_reducible apply Frame.foldl
    | with_reducible apply Frame.via (State.translate_frame _ _) (by decide)
    | split
    | with_reducible apply Frame.set_tacks _ (by decide)

theorem execTackLinkArrival_frame (s0 : State) (a0 : Fin 12) (a1 : List Byte) : Completes (execTackLinkArrival a0 a1 s0) (Frame [.regs, .tacks, .arb] s0) := by
  unfold execTackLinkArrival
  refine ⟨_, rfl, ?_⟩
  repeat' first
    | with_reducible assumption
    | intro _
    | (extract_lets -merge +onlyGivenNames x; refine (have hx : Frame [.regs, .tacks, .arb] s0 x := ?_; ?_); rotate_left; clear_value x; rotate_left; subst x)
    | (extract_lets -merge +onlyGivenNames x; clear_value x)
    | with_reducible exact Frame.refl _ _
    | with_reducible apply Frame.ite
    | with_reducible apply Frame.foldl
    | with_reducible apply Frame.via (State.setBit_frame _ _ _ _) (by decide)
    | with_reducible apply Frame.via (State.setLogged_frame _ _ _ _ _) (by decide)
    | with_reducible apply Frame.via (State.incF_frame _ _ _ _ _) (by decide)
    | with_reducible apply Frame.via (State.peakF_frame _ _ _ _ _) (by decide)
    | with_reducible apply Frame.via (State.fenceCount_frame _ _ _) (by decide)
    | with_reducible apply Frame.via (State.dropTack_frame _ _ _) (by decide)
    | with_reducible apply Frame.via (State.deliverIn_frame _ _) (by decide)
    | split
    | with_reducible apply Frame.set_tacks _ (by decide)

theorem execTackReleaseToMangle_frame (s0 : State) (a0 : Fin 12) (a1 : Fin 2) : Completes (execTackReleaseToMangle a0 a1 s0) (Frame [.sects, .tacks] s0) := by
  unfold execTackReleaseToMangle
  refine ⟨_, rfl, ?_⟩
  repeat' first
    | with_reducible assumption
    | intro _
    | (extract_lets -merge +onlyGivenNames x; refine (have hx : Frame [.sects, .tacks] s0 x := ?_; ?_); rotate_left; clear_value x; rotate_left; subst x)
    | (extract_lets -merge +onlyGivenNames x; clear_value x)
    | with_reducible exact Frame.refl _ _
    | with_reducible apply Frame.ite
    | with_reducible apply Frame.foldl
    | with_reducible apply Frame.via (State.injected_frame _ _) (by decide)
    | split
    | with_reducible apply Frame.set_tacks _ (by decide)

theorem execTckGridWrite_frame (s0 : State) (a0 : Fin 2) (a1 : Word) : Completes (execTckGridWrite a0 a1 s0) (Frame [.regs] s0) := by
  unfold execTckGridWrite
  refine ⟨_, rfl, ?_⟩
  repeat' first
    | with_reducible assumption
    | intro _
    | (extract_lets -merge +onlyGivenNames x; refine (have hx : Frame [.regs] s0 x := ?_; ?_); rotate_left; clear_value x; rotate_left; subst x)
    | (extract_lets -merge +onlyGivenNames x; clear_value x)
    | with_reducible exact Frame.refl _ _
    | with_reducible apply Frame.ite
    | with_reducible apply Frame.foldl
    | with_reducible apply Frame.via (State.writeGrid_frame _ _ _) (by decide)
    | with_reducible apply Frame.via (State.goneAccess_frame _ _ _ _) (by decide)
    | split

theorem execTksend_frame (s0 : State) (a0 : Fin 256) (a1 : Fin 4) (a2 : Stalls) : Completes (execTksend a0 a1 a2 s0) (Frame [.regs, .sects, .tacks] s0) := by
  unfold execTksend
  refine ⟨_, rfl, ?_⟩
  repeat' first
    | with_reducible assumption
    | intro _
    | (extract_lets -merge +onlyGivenNames x; refine (have hx : Frame [.regs, .sects, .tacks] s0 x := ?_; ?_); rotate_left; clear_value x; rotate_left; subst x)
    | (extract_lets -merge +onlyGivenNames x; clear_value x)
    | with_reducible exact Frame.refl _ _
    | with_reducible apply Frame.ite
    | with_reducible apply Frame.foldl
    | with_reducible apply Frame.via (State.incF_frame _ _ _ _ _) (by decide)
    | with_reducible apply Frame.via (State.buildTack_frame _ _ _ _ _) (by decide)
    | with_reducible refine Frame.via (State.takeToken_frame _ _ _ _ (by assumption)) (by decide) ?_
    | with_reducible refine State.partRow_frame _ _ _ _ _ _ _ (by decide) ?_ (fun _ _ _ _ => ?_)
    | with_reducible apply Frame.via (State.waitAt_frame _ _ _ _ _) (by decide)
    | with_reducible apply Frame.via (State.retireAt_frame _ _ _ _ _) (by decide)
    | split

theorem execWriteDeliver_frame (s0 : State) (a0 : Fin 12) : Completes (execWriteDeliver a0 s0) (Frame [.regs, .mem, .press, .sects, .ports, .tacks, .unison, .arb] s0) := by
  unfold execWriteDeliver
  refine ⟨_, rfl, ?_⟩
  repeat' first
    | with_reducible assumption
    | intro _
    | (extract_lets -merge +onlyGivenNames x; refine (have hx : Frame [.regs, .mem, .press, .sects, .ports, .tacks, .unison, .arb] s0 x := ?_; ?_); rotate_left; clear_value x; rotate_left; subst x)
    | (extract_lets -merge +onlyGivenNames x; clear_value x)
    | with_reducible exact Frame.refl _ _
    | with_reducible apply Frame.ite
    | with_reducible apply Frame.foldl
    | with_reducible refine Frame.via (State.takeIn_frame _ _ _ (by assumption)) (by decide) ?_
    | with_reducible apply Frame.via (State.memTack_frame _ _ _ _) (by decide)
    | split

theorem execSnapshotSample_frame (s0 : State) (a0 : Bool) : Completes (execSnapshotSample a0 s0) (Frame [.regs, .mem, .front] s0) := by
  unfold execSnapshotSample
  refine ⟨_, rfl, ?_⟩
  repeat' first
    | with_reducible assumption
    | intro _
    | (extract_lets -merge +onlyGivenNames x; refine (have hx : Frame [.regs, .mem, .front] s0 x := ?_; ?_); rotate_left; clear_value x; rotate_left; subst x)
    | (extract_lets -merge +onlyGivenNames x; clear_value x)
    | with_reducible exact Frame.refl _ _
    | with_reducible apply Frame.ite
    | with_reducible apply Frame.foldl
    | with_reducible apply Frame.via (State.setF_frame _ _ _ _ _) (by decide)
    | with_reducible apply Frame.via (State.setBit_frame _ _ _ _) (by decide)
    | with_reducible apply Frame.via (State.telClear_frame _) (by decide)
    | with_reducible apply Frame.via (State.putReport_frame _ _ _ _) (by decide)
    | with_reducible apply Frame.via (State.completeAll_frame _ _ _ _) (by decide)
    | split

theorem execTelClr_frame (s0 : State) (a0 : BitVec 32) : Completes (execTelClr a0 s0) (Frame [.regs] s0) := by
  unfold execTelClr
  refine ⟨_, rfl, ?_⟩
  repeat' first
    | with_reducible assumption
    | intro _
    | (extract_lets -merge +onlyGivenNames x; refine (have hx : Frame [.regs] s0 x := ?_; ?_); rotate_left; clear_value x; rotate_left; subst x)
    | (extract_lets -merge +onlyGivenNames x; clear_value x)
    | with_reducible exact Frame.refl _ _
    | with_reducible apply Frame.ite
    | with_reducible apply Frame.foldl
    | with_reducible apply Frame.via (State.telClear_frame _) (by decide)
    | split

theorem execTelemetrySnapshot_frame (s0 : State) (a0 : Cmd) : Completes (execTelemetrySnapshot a0 s0) (Frame [.regs, .mem, .front] s0) := by
  unfold execTelemetrySnapshot
  refine ⟨_, rfl, ?_⟩
  repeat' first
    | with_reducible assumption
    | intro _
    | (extract_lets -merge +onlyGivenNames x; refine (have hx : Frame [.regs, .mem, .front] s0 x := ?_; ?_); rotate_left; clear_value x; rotate_left; subst x)
    | (extract_lets -merge +onlyGivenNames x; clear_value x)
    | with_reducible exact Frame.refl _ _
    | with_reducible apply Frame.ite
    | with_reducible apply Frame.foldl
    | with_reducible apply Frame.via (State.setBit_frame _ _ _ _) (by decide)
    | with_reducible apply Frame.via (State.complete_frame _ _ _ _) (by decide)
    | with_reducible refine State.runCmd_frame _ _ _ _ _ (by decide) ?_ (fun _ => ?_)
    | with_reducible apply Frame.via (State.wait_frame _ _ _) (by decide)
    | split
    | with_reducible apply Frame.set_front _ (by decide)

theorem State.tick_frame (s0 : State) : Frame [.regs, .mem, .tempo, .clock, .score, .books, .unison] s0 (State.tick s0) := by
  unfold State.tick
  repeat' first
    | with_reducible assumption
    | intro _
    | (extract_lets -merge +onlyGivenNames x; refine (have hx : Frame [.regs, .mem, .tempo, .clock, .score, .books, .unison] s0 x := ?_; ?_); rotate_left; clear_value x; rotate_left; subst x)
    | (extract_lets -merge +onlyGivenNames x; clear_value x)
    | with_reducible exact Frame.refl _ _
    | with_reducible apply Frame.ite
    | with_reducible apply Frame.foldl
    | with_reducible apply Frame.via (State.setF_frame _ _ _ _ _) (by decide)
    | with_reducible apply Frame.via (State.setTempo_frame _ _) (by decide)
    | with_reducible apply Frame.via (State.replayLog_frame _) (by decide)
    | split
    | with_reducible apply Frame.set_clock _ (by decide)

theorem State.sendDigest_frame (s0 : State) (a1 : List Byte) : Frame [.regs, .sects, .tacks] s0 (State.sendDigest s0 a1) := by
  unfold State.sendDigest
  repeat' first
    | with_reducible assumption
    | intro _
    | (extract_lets -merge +onlyGivenNames x; refine (have hx : Frame [.regs, .sects, .tacks] s0 x := ?_; ?_); rotate_left; clear_value x; rotate_left; subst x)
    | (extract_lets -merge +onlyGivenNames x; clear_value x)
    | with_reducible exact Frame.refl _ _
    | with_reducible apply Frame.ite
    | with_reducible apply Frame.foldl
    | with_reducible apply Frame.via (State.buildTack_frame _ _ _ _ _) (by decide)
    | split

theorem State.closeBar_frame (s0 : State) (a1 : Nat) : Frame [.regs, .sects, .tacks, .unison] s0 (State.closeBar s0 a1) := by
  unfold State.closeBar
  repeat' first
    | with_reducible assumption
    | intro _
    | (extract_lets -merge +onlyGivenNames x; refine (have hx : Frame [.regs, .sects, .tacks, .unison] s0 x := ?_; ?_); rotate_left; clear_value x; rotate_left; subst x)
    | (extract_lets -merge +onlyGivenNames x; clear_value x)
    | with_reducible exact Frame.refl _ _
    | with_reducible apply Frame.ite
    | with_reducible apply Frame.foldl
    | with_reducible apply Frame.via (State.setUnison_frame _ _) (by decide)
    | with_reducible apply Frame.via (State.sendDigest_frame _ _) (by decide)
    | split

theorem State.closeDigest_frame (s0 : State) (a1 : UnEntry) : Frame [.regs, .sects, .tacks, .unison, .arb] s0 (State.closeDigest s0 a1) := by
  unfold State.closeDigest
  repeat' first
    | with_reducible assumption
    | intro _
    | (extract_lets -merge +onlyGivenNames x; refine (have hx : Frame [.regs, .sects, .tacks, .unison, .arb] s0 x := ?_; ?_); rotate_left; clear_value x; rotate_left; subst x)
    | (extract_lets -merge +onlyGivenNames x; clear_value x)
    | with_reducible exact Frame.refl _ _
    | with_reducible apply Frame.ite
    | with_reducible apply Frame.foldl
    | with_reducible apply Frame.via (State.setUnison_frame _ _) (by decide)
    | with_reducible apply Frame.via (State.unPending_frame _) (by decide)
    | with_reducible apply Frame.via (State.unUnchecked_frame _ _ _) (by decide)
    | with_reducible apply Frame.via (State.sendDigest_frame _ _) (by decide)
    | split

theorem State.replayStart_frame (s0 : State) (a1 : Cmd) (a2 : Snapshot) : Frame [.regs, .mem, .tempo, .cond, .press, .sects, .queues, .score, .books, .unison] s0 (State.replayStart s0 a1 a2) := by
  unfold State.replayStart
  repeat' first
    | with_reducible assumption
    | intro _
    | (extract_lets -merge +onlyGivenNames x; refine (have hx : Frame [.regs, .mem, .tempo, .cond, .press, .sects, .queues, .score, .books, .unison] s0 x := ?_; ?_); rotate_left; clear_value x; rotate_left; subst x)
    | (extract_lets -merge +onlyGivenNames x; clear_value x)
    | with_reducible exact Frame.refl _ _
    | with_reducible apply Frame.ite
    | with_reducible apply Frame.foldl
    | with_reducible apply Frame.via (State.setF_frame _ _ _ _ _) (by decide)
    | with_reducible apply Frame.via (State.setPrs_frame _ _ _) (by decide)
    | with_reducible apply Frame.via (State.pausePress_frame _ _) (by decide)
    | with_reducible apply Frame.via (State.setUnison_frame _ _) (by decide)
    | with_reducible apply Frame.via (State.setTempo_frame _ _) (by decide)
    | split
    | with_reducible apply Frame.set_score _ (by decide)
    | with_reducible apply Frame.set_books _ (by decide)
    | with_reducible apply Frame.set_mem_cond_sects_queues _ _ _ _ (by decide) (by decide) (by decide) (by decide) (fun h => by first | exact h | exact Memory.wf_putBytes h | exact Memory.wf_putBoard h | exact Memory.wf_replayBoards h | exact Memory.wf_tclear h | rfl)

theorem State.tryCapture_frame (s0 : State) : Frame [.regs, .mem, .press, .sects, .unison, .front] s0 (State.tryCapture s0) := by
  unfold State.tryCapture
  repeat' first
    | with_reducible assumption
    | intro _
    | (extract_lets -merge +onlyGivenNames x; refine (have hx : Frame [.regs, .mem, .press, .sects, .unison, .front] s0 x := ?_; ?_); rotate_left; clear_value x; rotate_left; subst x)
    | (extract_lets -merge +onlyGivenNames x; clear_value x)
    | with_reducible exact Frame.refl _ _
    | with_reducible apply Frame.ite
    | with_reducible apply Frame.foldl
    | with_reducible apply Frame.via (State.setReg_frame _ _ _ _) (by decide)
    | with_reducible apply Frame.via (State.setF_frame _ _ _ _ _) (by decide)
    | with_reducible apply Frame.via (State.resumePress_frame _ _) (by decide)
    | with_reducible apply Frame.via (State.pausePress_frame _ _) (by decide)
    | with_reducible apply Frame.via (State.setUnison_frame _ _) (by decide)
    | with_reducible apply Frame.via (State.completeAll_frame _ _ _ _) (by decide)
    | split

theorem State.unMismatch_frame (s0 : State) (a1 : Nat) (a2 : Nat) (a3 : Nat) (a4 : Nat) (a5 : Nat) (a6 : Nat) : Frame [.regs, .tempo, .arb] s0 (State.unMismatch s0 a1 a2 a3 a4 a5 a6) := by
  unfold State.unMismatch
  repeat' first
    | with_reducible assumption
    | intro _
    | (extract_lets -merge +onlyGivenNames x; refine (have hx : Frame [.regs, .tempo, .arb] s0 x := ?_; ?_); rotate_left; clear_value x; rotate_left; subst x)
    | (extract_lets -merge +onlyGivenNames x; clear_value x)
    | with_reducible exact Frame.refl _ _
    | with_reducible apply Frame.ite
    | with_reducible apply Frame.foldl
    | with_reducible apply Frame.via (State.setReg_frame _ _ _ _) (by decide)
    | with_reducible apply Frame.via (State.setF_frame _ _ _ _ _) (by decide)
    | with_reducible apply Frame.via (State.setLogged_frame _ _ _ _ _) (by decide)
    | with_reducible apply Frame.via (State.fermataRequest_frame _) (by decide)
    | split

theorem execBarCompare_frame (s0 : State) (a0 : BitVec 32) : Completes (execBarCompare a0 s0) (Frame [.regs, .tempo, .unison, .arb] s0) := by
  unfold execBarCompare
  refine ⟨_, rfl, ?_⟩
  repeat' first
    | with_reducible assumption
    | intro _
    | (extract_lets -merge +onlyGivenNames x; refine (have hx : Frame [.regs, .tempo, .unison, .arb] s0 x := ?_; ?_); rotate_left; clear_value x; rotate_left; subst x)
    | (extract_lets -merge +onlyGivenNames x; clear_value x)
    | with_reducible exact Frame.refl _ _
    | with_reducible apply Frame.ite
    | with_reducible apply Frame.foldl
    | with_reducible apply Frame.via (State.incF_frame _ _ _ _ _) (by decide)
    | with_reducible apply Frame.via (State.unDrop_frame _ _) (by decide)
    | with_reducible apply Frame.via (State.unMismatch_frame _ _ _ _ _ _ _) (by decide)
    | split

theorem execDigestClose_frame (s0 : State) (a0 : BitVec 32) (a1 : Option (Prod (Fin 64) (Fin 4096))) : Completes (execDigestClose a0 a1 s0) (Frame [.regs, .sects, .tacks, .unison, .arb] s0) := by
  unfold execDigestClose
  refine ⟨_, rfl, ?_⟩
  repeat' first
    | with_reducible assumption
    | intro _
    | (extract_lets -merge +onlyGivenNames x; refine (have hx : Frame [.regs, .sects, .tacks, .unison, .arb] s0 x := ?_; ?_); rotate_left; clear_value x; rotate_left; subst x)
    | (extract_lets -merge +onlyGivenNames x; clear_value x)
    | with_reducible exact Frame.refl _ _
    | with_reducible apply Frame.ite
    | with_reducible apply Frame.foldl
    | with_reducible apply Frame.via (State.closeBar_frame _ _) (by decide)
    | with_reducible apply Frame.via (State.closeDigest_frame _ _) (by decide)
    | split

theorem execReproProfileSet_frame (s0 : State) (a0 : Cmd) : Completes (execReproProfileSet a0 s0) (Frame [.regs, .mem, .front] s0) := by
  unfold execReproProfileSet
  refine ⟨_, rfl, ?_⟩
  repeat' first
    | with_reducible assumption
    | intro _
    | (extract_lets -merge +onlyGivenNames x; refine (have hx : Frame [.regs, .mem, .front] s0 x := ?_; ?_); rotate_left; clear_value x; rotate_left; subst x)
    | (extract_lets -merge +onlyGivenNames x; clear_value x)
    | with_reducible exact Frame.refl _ _
    | with_reducible apply Frame.ite
    | with_reducible apply Frame.foldl
    | with_reducible apply Frame.via (State.setF_frame _ _ _ _ _) (by decide)
    | with_reducible apply Frame.via (State.complete_frame _ _ _ _) (by decide)
    | with_reducible refine State.runCmd_frame _ _ _ _ _ (by decide) ?_ (fun _ => ?_)
    | split

theorem execUnisonPair_frame (s0 : State) (a0 : Cmd) : Completes (execUnisonPair a0 s0) (Frame [.regs, .mem, .unison, .front] s0) := by
  unfold execUnisonPair
  refine ⟨_, rfl, ?_⟩
  repeat' first
    | with_reducible assumption
    | intro _
    | (extract_lets -merge +onlyGivenNames x; refine (have hx : Frame [.regs, .mem, .unison, .front] s0 x := ?_; ?_); rotate_left; clear_value x; rotate_left; subst x)
    | (extract_lets -merge +onlyGivenNames x; clear_value x)
    | with_reducible exact Frame.refl _ _
    | with_reducible apply Frame.ite
    | with_reducible apply Frame.foldl
    | with_reducible apply Frame.via (State.setReg_frame _ _ _ _) (by decide)
    | with_reducible apply Frame.via (State.setF_frame _ _ _ _ _) (by decide)
    | with_reducible apply Frame.via (State.complete_frame _ _ _ _) (by decide)
    | with_reducible refine State.runCmd_frame _ _ _ _ _ (by decide) ?_ (fun _ => ?_)
    | with_reducible apply Frame.via (State.setUnison_frame _ _) (by decide)
    | split

theorem execUnisonReplay_frame (s0 : State) (a0 : Cmd) : Completes (execUnisonReplay a0 s0) (Frame [.regs, .mem, .tempo, .cond, .press, .sects, .queues, .score, .books, .unison, .front] s0) := by
  unfold execUnisonReplay
  refine ⟨_, rfl, ?_⟩
  repeat' first
    | with_reducible assumption
    | intro _
    | (extract_lets -merge +onlyGivenNames x; refine (have hx : Frame [.regs, .mem, .tempo, .cond, .press, .sects, .queues, .score, .books, .unison, .front] s0 x := ?_; ?_); rotate_left; clear_value x; rotate_left; subst x)
    | (extract_lets -merge +onlyGivenNames x; clear_value x)
    | with_reducible exact Frame.refl _ _
    | with_reducible apply Frame.ite
    | with_reducible apply Frame.foldl
    | with_reducible apply Frame.via (State.clrReg_frame _ _ _) (by decide)
    | with_reducible apply Frame.via (State.complete_frame _ _ _ _) (by decide)
    | with_reducible refine State.runCmd_frame _ _ _ _ _ (by decide) ?_ (fun _ => ?_)
    | with_reducible apply Frame.via (State.setUnison_frame _ _) (by decide)
    | with_reducible apply Frame.via (State.wait_frame _ _ _) (by decide)
    | with_reducible apply Frame.via (State.replayStart_frame _ _ _) (by decide)
    | with_reducible apply Frame.via (State.tryCapture_frame _) (by decide)
    | split

theorem execUnisonWaitTimeout_frame (s0 : State) (a0 : BitVec 32) : Completes (execUnisonWaitTimeout a0 s0) (Frame [.regs, .unison, .arb] s0) := by
  unfold execUnisonWaitTimeout
  refine ⟨_, rfl, ?_⟩
  repeat' first
    | with_reducible assumption
    | intro _
    | (extract_lets -merge +onlyGivenNames x; refine (have hx : Frame [.regs, .unison, .arb] s0 x := ?_; ?_); rotate_left; clear_value x; rotate_left; subst x)
    | (extract_lets -merge +onlyGivenNames x; clear_value x)
    | with_reducible exact Frame.refl _ _
    | with_reducible apply Frame.ite
    | with_reducible apply Frame.foldl
    | with_reducible apply Frame.via (State.unUnchecked_frame _ _ _) (by decide)
    | split

end Sys2Proof.Machine
end

