-- ==== Sys2Proof/Laws/State.lean ====
section
/-! SUPPORT. One lemma per field per named update of the state, so that no proof unfolds a record update. -/

namespace Sys2Proof.Machine

section
variable (s : State)

@[simp] theorem State.setReg_mem (r : Reg) (ix : List Nat) (v : Word) : (s.setReg r ix v).mem = s.mem := rfl
@[simp] theorem State.setReg_tempo (r : Reg) (ix : List Nat) (v : Word) : (s.setReg r ix v).tempo = s.tempo := rfl
@[simp] theorem State.setReg_clock (r : Reg) (ix : List Nat) (v : Word) : (s.setReg r ix v).clock = s.clock := rfl
@[simp] theorem State.setReg_dieBase (r : Reg) (ix : List Nat) (v : Word) : (s.setReg r ix v).dieBase = s.dieBase := rfl
@[simp] theorem State.setReg_aligns (r : Reg) (ix : List Nat) (v : Word) : (s.setReg r ix v).aligns = s.aligns := rfl
@[simp] theorem State.setReg_links (r : Reg) (ix : List Nat) (v : Word) : (s.setReg r ix v).links = s.links := rfl
@[simp] theorem State.setReg_cond (r : Reg) (ix : List Nat) (v : Word) : (s.setReg r ix v).cond = s.cond := rfl
@[simp] theorem State.setReg_patches (r : Reg) (ix : List Nat) (v : Word) : (s.setReg r ix v).patches = s.patches := rfl
@[simp] theorem State.setReg_press (r : Reg) (ix : List Nat) (v : Word) : (s.setReg r ix v).press = s.press := rfl
@[simp] theorem State.setReg_sects (r : Reg) (ix : List Nat) (v : Word) : (s.setReg r ix v).sects = s.sects := rfl
@[simp] theorem State.setReg_queues (r : Reg) (ix : List Nat) (v : Word) : (s.setReg r ix v).queues = s.queues := rfl
@[simp] theorem State.setReg_qseq (r : Reg) (ix : List Nat) (v : Word) : (s.setReg r ix v).qseq = s.qseq := rfl
@[simp] theorem State.setReg_ports (r : Reg) (ix : List Nat) (v : Word) : (s.setReg r ix v).ports = s.ports := rfl
@[simp] theorem State.setReg_linkTx (r : Reg) (ix : List Nat) (v : Word) : (s.setReg r ix v).linkTx = s.linkTx := rfl
@[simp] theorem State.setReg_lk (r : Reg) (ix : List Nat) (v : Word) : (s.setReg r ix v).lk = s.lk := rfl
@[simp] theorem State.setReg_seams (r : Reg) (ix : List Nat) (v : Word) : (s.setReg r ix v).seams = s.seams := rfl
@[simp] theorem State.setReg_legacy (r : Reg) (ix : List Nat) (v : Word) : (s.setReg r ix v).legacy = s.legacy := rfl
@[simp] theorem State.setReg_score (r : Reg) (ix : List Nat) (v : Word) : (s.setReg r ix v).score = s.score := rfl
@[simp] theorem State.setReg_tacks (r : Reg) (ix : List Nat) (v : Word) : (s.setReg r ix v).tacks = s.tacks := rfl
@[simp] theorem State.setReg_books (r : Reg) (ix : List Nat) (v : Word) : (s.setReg r ix v).books = s.books := rfl
@[simp] theorem State.setReg_eth (r : Reg) (ix : List Nat) (v : Word) : (s.setReg r ix v).eth = s.eth := rfl
@[simp] theorem State.setReg_unison (r : Reg) (ix : List Nat) (v : Word) : (s.setReg r ix v).unison = s.unison := rfl
@[simp] theorem State.setReg_arb (r : Reg) (ix : List Nat) (v : Word) : (s.setReg r ix v).arb = s.arb := rfl
@[simp] theorem State.setReg_icu (r : Reg) (ix : List Nat) (v : Word) : (s.setReg r ix v).icu = s.icu := rfl
@[simp] theorem State.setReg_front (r : Reg) (ix : List Nat) (v : Word) : (s.setReg r ix v).front = s.front := rfl
@[simp] theorem State.setReg_sm (r : Reg) (ix : List Nat) (v : Word) : (s.setReg r ix v).sm = s.sm := rfl
@[simp] theorem State.setReg_tap (r : Reg) (ix : List Nat) (v : Word) : (s.setReg r ix v).tap = s.tap := rfl
@[simp] theorem State.setReg_smb (r : Reg) (ix : List Nat) (v : Word) : (s.setReg r ix v).smb = s.smb := rfl
@[simp] theorem State.setReg_pins (r : Reg) (ix : List Nat) (v : Word) : (s.setReg r ix v).pins = s.pins := rfl
@[simp] theorem State.setReg_fuses (r : Reg) (ix : List Nat) (v : Word) : (s.setReg r ix v).fuses = s.fuses := rfl
@[simp] theorem State.setReg_flash (r : Reg) (ix : List Nat) (v : Word) : (s.setReg r ix v).flash = s.flash := rfl
@[simp] theorem State.setReg_fw (r : Reg) (ix : List Nat) (v : Word) : (s.setReg r ix v).fw = s.fw := rfl
@[simp] theorem State.setReg_pwr (r : Reg) (ix : List Nat) (v : Word) : (s.setReg r ix v).pwr = s.pwr := rfl
@[simp] theorem State.setReg_free (r : Reg) (ix : List Nat) (v : Word) : (s.setReg r ix v).free = s.free := rfl
@[simp] theorem State.setReg_pending (r : Reg) (ix : List Nat) (v : Word) : (s.setReg r ix v).pending = s.pending := rfl

@[simp] theorem State.clrReg_mem (r : Reg) (ix : List Nat) : (s.clrReg r ix).mem = s.mem := rfl
@[simp] theorem State.clrReg_tempo (r : Reg) (ix : List Nat) : (s.clrReg r ix).tempo = s.tempo := rfl
@[simp] theorem State.clrReg_clock (r : Reg) (ix : List Nat) : (s.clrReg r ix).clock = s.clock := rfl
@[simp] theorem State.clrReg_dieBase (r : Reg) (ix : List Nat) : (s.clrReg r ix).dieBase = s.dieBase := rfl
@[simp] theorem State.clrReg_aligns (r : Reg) (ix : List Nat) : (s.clrReg r ix).aligns = s.aligns := rfl
@[simp] theorem State.clrReg_links (r : Reg) (ix : List Nat) : (s.clrReg r ix).links = s.links := rfl
@[simp] theorem State.clrReg_cond (r : Reg) (ix : List Nat) : (s.clrReg r ix).cond = s.cond := rfl
@[simp] theorem State.clrReg_patches (r : Reg) (ix : List Nat) : (s.clrReg r ix).patches = s.patches := rfl
@[simp] theorem State.clrReg_press (r : Reg) (ix : List Nat) : (s.clrReg r ix).press = s.press := rfl
@[simp] theorem State.clrReg_sects (r : Reg) (ix : List Nat) : (s.clrReg r ix).sects = s.sects := rfl
@[simp] theorem State.clrReg_queues (r : Reg) (ix : List Nat) : (s.clrReg r ix).queues = s.queues := rfl
@[simp] theorem State.clrReg_qseq (r : Reg) (ix : List Nat) : (s.clrReg r ix).qseq = s.qseq := rfl
@[simp] theorem State.clrReg_ports (r : Reg) (ix : List Nat) : (s.clrReg r ix).ports = s.ports := rfl
@[simp] theorem State.clrReg_linkTx (r : Reg) (ix : List Nat) : (s.clrReg r ix).linkTx = s.linkTx := rfl
@[simp] theorem State.clrReg_lk (r : Reg) (ix : List Nat) : (s.clrReg r ix).lk = s.lk := rfl
@[simp] theorem State.clrReg_seams (r : Reg) (ix : List Nat) : (s.clrReg r ix).seams = s.seams := rfl
@[simp] theorem State.clrReg_legacy (r : Reg) (ix : List Nat) : (s.clrReg r ix).legacy = s.legacy := rfl
@[simp] theorem State.clrReg_score (r : Reg) (ix : List Nat) : (s.clrReg r ix).score = s.score := rfl
@[simp] theorem State.clrReg_tacks (r : Reg) (ix : List Nat) : (s.clrReg r ix).tacks = s.tacks := rfl
@[simp] theorem State.clrReg_books (r : Reg) (ix : List Nat) : (s.clrReg r ix).books = s.books := rfl
@[simp] theorem State.clrReg_eth (r : Reg) (ix : List Nat) : (s.clrReg r ix).eth = s.eth := rfl
@[simp] theorem State.clrReg_unison (r : Reg) (ix : List Nat) : (s.clrReg r ix).unison = s.unison := rfl
@[simp] theorem State.clrReg_arb (r : Reg) (ix : List Nat) : (s.clrReg r ix).arb = s.arb := rfl
@[simp] theorem State.clrReg_icu (r : Reg) (ix : List Nat) : (s.clrReg r ix).icu = s.icu := rfl
@[simp] theorem State.clrReg_front (r : Reg) (ix : List Nat) : (s.clrReg r ix).front = s.front := rfl
@[simp] theorem State.clrReg_sm (r : Reg) (ix : List Nat) : (s.clrReg r ix).sm = s.sm := rfl
@[simp] theorem State.clrReg_tap (r : Reg) (ix : List Nat) : (s.clrReg r ix).tap = s.tap := rfl
@[simp] theorem State.clrReg_smb (r : Reg) (ix : List Nat) : (s.clrReg r ix).smb = s.smb := rfl
@[simp] theorem State.clrReg_pins (r : Reg) (ix : List Nat) : (s.clrReg r ix).pins = s.pins := rfl
@[simp] theorem State.clrReg_fuses (r : Reg) (ix : List Nat) : (s.clrReg r ix).fuses = s.fuses := rfl
@[simp] theorem State.clrReg_flash (r : Reg) (ix : List Nat) : (s.clrReg r ix).flash = s.flash := rfl
@[simp] theorem State.clrReg_fw (r : Reg) (ix : List Nat) : (s.clrReg r ix).fw = s.fw := rfl
@[simp] theorem State.clrReg_pwr (r : Reg) (ix : List Nat) : (s.clrReg r ix).pwr = s.pwr := rfl
@[simp] theorem State.clrReg_free (r : Reg) (ix : List Nat) : (s.clrReg r ix).free = s.free := rfl
@[simp] theorem State.clrReg_pending (r : Reg) (ix : List Nat) : (s.clrReg r ix).pending = s.pending := rfl

@[simp] theorem State.setF_mem (r : Reg) (ix : List Nat) (f : Fld) (x : Nat) : (s.setF r ix f x).mem = s.mem := rfl
@[simp] theorem State.setF_tempo (r : Reg) (ix : List Nat) (f : Fld) (x : Nat) : (s.setF r ix f x).tempo = s.tempo := rfl
@[simp] theorem State.setF_clock (r : Reg) (ix : List Nat) (f : Fld) (x : Nat) : (s.setF r ix f x).clock = s.clock := rfl
@[simp] theorem State.setF_dieBase (r : Reg) (ix : List Nat) (f : Fld) (x : Nat) : (s.setF r ix f x).dieBase = s.dieBase := rfl
@[simp] theorem State.setF_aligns (r : Reg) (ix : List Nat) (f : Fld) (x : Nat) : (s.setF r ix f x).aligns = s.aligns := rfl
@[simp] theorem State.setF_links (r : Reg) (ix : List Nat) (f : Fld) (x : Nat) : (s.setF r ix f x).links = s.links := rfl
@[simp] theorem State.setF_cond (r : Reg) (ix : List Nat) (f : Fld) (x : Nat) : (s.setF r ix f x).cond = s.cond := rfl
@[simp] theorem State.setF_patches (r : Reg) (ix : List Nat) (f : Fld) (x : Nat) : (s.setF r ix f x).patches = s.patches := rfl
@[simp] theorem State.setF_press (r : Reg) (ix : List Nat) (f : Fld) (x : Nat) : (s.setF r ix f x).press = s.press := rfl
@[simp] theorem State.setF_sects (r : Reg) (ix : List Nat) (f : Fld) (x : Nat) : (s.setF r ix f x).sects = s.sects := rfl
@[simp] theorem State.setF_queues (r : Reg) (ix : List Nat) (f : Fld) (x : Nat) : (s.setF r ix f x).queues = s.queues := rfl
@[simp] theorem State.setF_qseq (r : Reg) (ix : List Nat) (f : Fld) (x : Nat) : (s.setF r ix f x).qseq = s.qseq := rfl
@[simp] theorem State.setF_ports (r : Reg) (ix : List Nat) (f : Fld) (x : Nat) : (s.setF r ix f x).ports = s.ports := rfl
@[simp] theorem State.setF_linkTx (r : Reg) (ix : List Nat) (f : Fld) (x : Nat) : (s.setF r ix f x).linkTx = s.linkTx := rfl
@[simp] theorem State.setF_lk (r : Reg) (ix : List Nat) (f : Fld) (x : Nat) : (s.setF r ix f x).lk = s.lk := rfl
@[simp] theorem State.setF_seams (r : Reg) (ix : List Nat) (f : Fld) (x : Nat) : (s.setF r ix f x).seams = s.seams := rfl
@[simp] theorem State.setF_legacy (r : Reg) (ix : List Nat) (f : Fld) (x : Nat) : (s.setF r ix f x).legacy = s.legacy := rfl
@[simp] theorem State.setF_score (r : Reg) (ix : List Nat) (f : Fld) (x : Nat) : (s.setF r ix f x).score = s.score := rfl
@[simp] theorem State.setF_tacks (r : Reg) (ix : List Nat) (f : Fld) (x : Nat) : (s.setF r ix f x).tacks = s.tacks := rfl
@[simp] theorem State.setF_books (r : Reg) (ix : List Nat) (f : Fld) (x : Nat) : (s.setF r ix f x).books = s.books := rfl
@[simp] theorem State.setF_eth (r : Reg) (ix : List Nat) (f : Fld) (x : Nat) : (s.setF r ix f x).eth = s.eth := rfl
@[simp] theorem State.setF_unison (r : Reg) (ix : List Nat) (f : Fld) (x : Nat) : (s.setF r ix f x).unison = s.unison := rfl
@[simp] theorem State.setF_arb (r : Reg) (ix : List Nat) (f : Fld) (x : Nat) : (s.setF r ix f x).arb = s.arb := rfl
@[simp] theorem State.setF_icu (r : Reg) (ix : List Nat) (f : Fld) (x : Nat) : (s.setF r ix f x).icu = s.icu := rfl
@[simp] theorem State.setF_front (r : Reg) (ix : List Nat) (f : Fld) (x : Nat) : (s.setF r ix f x).front = s.front := rfl
@[simp] theorem State.setF_sm (r : Reg) (ix : List Nat) (f : Fld) (x : Nat) : (s.setF r ix f x).sm = s.sm := rfl
@[simp] theorem State.setF_tap (r : Reg) (ix : List Nat) (f : Fld) (x : Nat) : (s.setF r ix f x).tap = s.tap := rfl
@[simp] theorem State.setF_smb (r : Reg) (ix : List Nat) (f : Fld) (x : Nat) : (s.setF r ix f x).smb = s.smb := rfl
@[simp] theorem State.setF_pins (r : Reg) (ix : List Nat) (f : Fld) (x : Nat) : (s.setF r ix f x).pins = s.pins := rfl
@[simp] theorem State.setF_fuses (r : Reg) (ix : List Nat) (f : Fld) (x : Nat) : (s.setF r ix f x).fuses = s.fuses := rfl
@[simp] theorem State.setF_flash (r : Reg) (ix : List Nat) (f : Fld) (x : Nat) : (s.setF r ix f x).flash = s.flash := rfl
@[simp] theorem State.setF_fw (r : Reg) (ix : List Nat) (f : Fld) (x : Nat) : (s.setF r ix f x).fw = s.fw := rfl
@[simp] theorem State.setF_pwr (r : Reg) (ix : List Nat) (f : Fld) (x : Nat) : (s.setF r ix f x).pwr = s.pwr := rfl
@[simp] theorem State.setF_free (r : Reg) (ix : List Nat) (f : Fld) (x : Nat) : (s.setF r ix f x).free = s.free := rfl
@[simp] theorem State.setF_pending (r : Reg) (ix : List Nat) (f : Fld) (x : Nat) : (s.setF r ix f x).pending = s.pending := rfl

@[simp] theorem State.setBit_mem (r : Reg) (ix : List Nat) (f : Fld) : (s.setBit r ix f).mem = s.mem := rfl
@[simp] theorem State.setBit_tempo (r : Reg) (ix : List Nat) (f : Fld) : (s.setBit r ix f).tempo = s.tempo := rfl
@[simp] theorem State.setBit_clock (r : Reg) (ix : List Nat) (f : Fld) : (s.setBit r ix f).clock = s.clock := rfl
@[simp] theorem State.setBit_dieBase (r : Reg) (ix : List Nat) (f : Fld) : (s.setBit r ix f).dieBase = s.dieBase := rfl
@[simp] theorem State.setBit_aligns (r : Reg) (ix : List Nat) (f : Fld) : (s.setBit r ix f).aligns = s.aligns := rfl
@[simp] theorem State.setBit_links (r : Reg) (ix : List Nat) (f : Fld) : (s.setBit r ix f).links = s.links := rfl
@[simp] theorem State.setBit_cond (r : Reg) (ix : List Nat) (f : Fld) : (s.setBit r ix f).cond = s.cond := rfl
@[simp] theorem State.setBit_patches (r : Reg) (ix : List Nat) (f : Fld) : (s.setBit r ix f).patches = s.patches := rfl
@[simp] theorem State.setBit_press (r : Reg) (ix : List Nat) (f : Fld) : (s.setBit r ix f).press = s.press := rfl
@[simp] theorem State.setBit_sects (r : Reg) (ix : List Nat) (f : Fld) : (s.setBit r ix f).sects = s.sects := rfl
@[simp] theorem State.setBit_queues (r : Reg) (ix : List Nat) (f : Fld) : (s.setBit r ix f).queues = s.queues := rfl
@[simp] theorem State.setBit_qseq (r : Reg) (ix : List Nat) (f : Fld) : (s.setBit r ix f).qseq = s.qseq := rfl
@[simp] theorem State.setBit_ports (r : Reg) (ix : List Nat) (f : Fld) : (s.setBit r ix f).ports = s.ports := rfl
@[simp] theorem State.setBit_linkTx (r : Reg) (ix : List Nat) (f : Fld) : (s.setBit r ix f).linkTx = s.linkTx := rfl
@[simp] theorem State.setBit_lk (r : Reg) (ix : List Nat) (f : Fld) : (s.setBit r ix f).lk = s.lk := rfl
@[simp] theorem State.setBit_seams (r : Reg) (ix : List Nat) (f : Fld) : (s.setBit r ix f).seams = s.seams := rfl
@[simp] theorem State.setBit_legacy (r : Reg) (ix : List Nat) (f : Fld) : (s.setBit r ix f).legacy = s.legacy := rfl
@[simp] theorem State.setBit_score (r : Reg) (ix : List Nat) (f : Fld) : (s.setBit r ix f).score = s.score := rfl
@[simp] theorem State.setBit_tacks (r : Reg) (ix : List Nat) (f : Fld) : (s.setBit r ix f).tacks = s.tacks := rfl
@[simp] theorem State.setBit_books (r : Reg) (ix : List Nat) (f : Fld) : (s.setBit r ix f).books = s.books := rfl
@[simp] theorem State.setBit_eth (r : Reg) (ix : List Nat) (f : Fld) : (s.setBit r ix f).eth = s.eth := rfl
@[simp] theorem State.setBit_unison (r : Reg) (ix : List Nat) (f : Fld) : (s.setBit r ix f).unison = s.unison := rfl
@[simp] theorem State.setBit_arb (r : Reg) (ix : List Nat) (f : Fld) : (s.setBit r ix f).arb = s.arb := rfl
@[simp] theorem State.setBit_icu (r : Reg) (ix : List Nat) (f : Fld) : (s.setBit r ix f).icu = s.icu := rfl
@[simp] theorem State.setBit_front (r : Reg) (ix : List Nat) (f : Fld) : (s.setBit r ix f).front = s.front := rfl
@[simp] theorem State.setBit_sm (r : Reg) (ix : List Nat) (f : Fld) : (s.setBit r ix f).sm = s.sm := rfl
@[simp] theorem State.setBit_tap (r : Reg) (ix : List Nat) (f : Fld) : (s.setBit r ix f).tap = s.tap := rfl
@[simp] theorem State.setBit_smb (r : Reg) (ix : List Nat) (f : Fld) : (s.setBit r ix f).smb = s.smb := rfl
@[simp] theorem State.setBit_pins (r : Reg) (ix : List Nat) (f : Fld) : (s.setBit r ix f).pins = s.pins := rfl
@[simp] theorem State.setBit_fuses (r : Reg) (ix : List Nat) (f : Fld) : (s.setBit r ix f).fuses = s.fuses := rfl
@[simp] theorem State.setBit_flash (r : Reg) (ix : List Nat) (f : Fld) : (s.setBit r ix f).flash = s.flash := rfl
@[simp] theorem State.setBit_fw (r : Reg) (ix : List Nat) (f : Fld) : (s.setBit r ix f).fw = s.fw := rfl
@[simp] theorem State.setBit_pwr (r : Reg) (ix : List Nat) (f : Fld) : (s.setBit r ix f).pwr = s.pwr := rfl
@[simp] theorem State.setBit_free (r : Reg) (ix : List Nat) (f : Fld) : (s.setBit r ix f).free = s.free := rfl
@[simp] theorem State.setBit_pending (r : Reg) (ix : List Nat) (f : Fld) : (s.setBit r ix f).pending = s.pending := rfl

@[simp] theorem State.incF_mem (r : Reg) (ix : List Nat) (f : Fld) (n : Nat) : (s.incF r ix f n).mem = s.mem := rfl
@[simp] theorem State.incF_tempo (r : Reg) (ix : List Nat) (f : Fld) (n : Nat) : (s.incF r ix f n).tempo = s.tempo := rfl
@[simp] theorem State.incF_clock (r : Reg) (ix : List Nat) (f : Fld) (n : Nat) : (s.incF r ix f n).clock = s.clock := rfl
@[simp] theorem State.incF_dieBase (r : Reg) (ix : List Nat) (f : Fld) (n : Nat) : (s.incF r ix f n).dieBase = s.dieBase := rfl
@[simp] theorem State.incF_aligns (r : Reg) (ix : List Nat) (f : Fld) (n : Nat) : (s.incF r ix f n).aligns = s.aligns := rfl
@[simp] theorem State.incF_links (r : Reg) (ix : List Nat) (f : Fld) (n : Nat) : (s.incF r ix f n).links = s.links := rfl
@[simp] theorem State.incF_cond (r : Reg) (ix : List Nat) (f : Fld) (n : Nat) : (s.incF r ix f n).cond = s.cond := rfl
@[simp] theorem State.incF_patches (r : Reg) (ix : List Nat) (f : Fld) (n : Nat) : (s.incF r ix f n).patches = s.patches := rfl
@[simp] theorem State.incF_press (r : Reg) (ix : List Nat) (f : Fld) (n : Nat) : (s.incF r ix f n).press = s.press := rfl
@[simp] theorem State.incF_sects (r : Reg) (ix : List Nat) (f : Fld) (n : Nat) : (s.incF r ix f n).sects = s.sects := rfl
@[simp] theorem State.incF_queues (r : Reg) (ix : List Nat) (f : Fld) (n : Nat) : (s.incF r ix f n).queues = s.queues := rfl
@[simp] theorem State.incF_qseq (r : Reg) (ix : List Nat) (f : Fld) (n : Nat) : (s.incF r ix f n).qseq = s.qseq := rfl
@[simp] theorem State.incF_ports (r : Reg) (ix : List Nat) (f : Fld) (n : Nat) : (s.incF r ix f n).ports = s.ports := rfl
@[simp] theorem State.incF_linkTx (r : Reg) (ix : List Nat) (f : Fld) (n : Nat) : (s.incF r ix f n).linkTx = s.linkTx := rfl
@[simp] theorem State.incF_lk (r : Reg) (ix : List Nat) (f : Fld) (n : Nat) : (s.incF r ix f n).lk = s.lk := rfl
@[simp] theorem State.incF_seams (r : Reg) (ix : List Nat) (f : Fld) (n : Nat) : (s.incF r ix f n).seams = s.seams := rfl
@[simp] theorem State.incF_legacy (r : Reg) (ix : List Nat) (f : Fld) (n : Nat) : (s.incF r ix f n).legacy = s.legacy := rfl
@[simp] theorem State.incF_score (r : Reg) (ix : List Nat) (f : Fld) (n : Nat) : (s.incF r ix f n).score = s.score := rfl
@[simp] theorem State.incF_tacks (r : Reg) (ix : List Nat) (f : Fld) (n : Nat) : (s.incF r ix f n).tacks = s.tacks := rfl
@[simp] theorem State.incF_books (r : Reg) (ix : List Nat) (f : Fld) (n : Nat) : (s.incF r ix f n).books = s.books := rfl
@[simp] theorem State.incF_eth (r : Reg) (ix : List Nat) (f : Fld) (n : Nat) : (s.incF r ix f n).eth = s.eth := rfl
@[simp] theorem State.incF_unison (r : Reg) (ix : List Nat) (f : Fld) (n : Nat) : (s.incF r ix f n).unison = s.unison := rfl
@[simp] theorem State.incF_arb (r : Reg) (ix : List Nat) (f : Fld) (n : Nat) : (s.incF r ix f n).arb = s.arb := rfl
@[simp] theorem State.incF_icu (r : Reg) (ix : List Nat) (f : Fld) (n : Nat) : (s.incF r ix f n).icu = s.icu := rfl
@[simp] theorem State.incF_front (r : Reg) (ix : List Nat) (f : Fld) (n : Nat) : (s.incF r ix f n).front = s.front := rfl
@[simp] theorem State.incF_sm (r : Reg) (ix : List Nat) (f : Fld) (n : Nat) : (s.incF r ix f n).sm = s.sm := rfl
@[simp] theorem State.incF_tap (r : Reg) (ix : List Nat) (f : Fld) (n : Nat) : (s.incF r ix f n).tap = s.tap := rfl
@[simp] theorem State.incF_smb (r : Reg) (ix : List Nat) (f : Fld) (n : Nat) : (s.incF r ix f n).smb = s.smb := rfl
@[simp] theorem State.incF_pins (r : Reg) (ix : List Nat) (f : Fld) (n : Nat) : (s.incF r ix f n).pins = s.pins := rfl
@[simp] theorem State.incF_fuses (r : Reg) (ix : List Nat) (f : Fld) (n : Nat) : (s.incF r ix f n).fuses = s.fuses := rfl
@[simp] theorem State.incF_flash (r : Reg) (ix : List Nat) (f : Fld) (n : Nat) : (s.incF r ix f n).flash = s.flash := rfl
@[simp] theorem State.incF_fw (r : Reg) (ix : List Nat) (f : Fld) (n : Nat) : (s.incF r ix f n).fw = s.fw := rfl
@[simp] theorem State.incF_pwr (r : Reg) (ix : List Nat) (f : Fld) (n : Nat) : (s.incF r ix f n).pwr = s.pwr := rfl
@[simp] theorem State.incF_free (r : Reg) (ix : List Nat) (f : Fld) (n : Nat) : (s.incF r ix f n).free = s.free := rfl
@[simp] theorem State.incF_pending (r : Reg) (ix : List Nat) (f : Fld) (n : Nat) : (s.incF r ix f n).pending = s.pending := rfl

@[simp] theorem State.useFree_regs (n : Nat) : (s.useFree n).regs = s.regs := rfl
@[simp] theorem State.useFree_mem (n : Nat) : (s.useFree n).mem = s.mem := rfl
@[simp] theorem State.useFree_tempo (n : Nat) : (s.useFree n).tempo = s.tempo := rfl
@[simp] theorem State.useFree_clock (n : Nat) : (s.useFree n).clock = s.clock := rfl
@[simp] theorem State.useFree_dieBase (n : Nat) : (s.useFree n).dieBase = s.dieBase := rfl
@[simp] theorem State.useFree_aligns (n : Nat) : (s.useFree n).aligns = s.aligns := rfl
@[simp] theorem State.useFree_links (n : Nat) : (s.useFree n).links = s.links := rfl
@[simp] theorem State.useFree_cond (n : Nat) : (s.useFree n).cond = s.cond := rfl
@[simp] theorem State.useFree_patches (n : Nat) : (s.useFree n).patches = s.patches := rfl
@[simp] theorem State.useFree_press (n : Nat) : (s.useFree n).press = s.press := rfl
@[simp] theorem State.useFree_sects (n : Nat) : (s.useFree n).sects = s.sects := rfl
@[simp] theorem State.useFree_queues (n : Nat) : (s.useFree n).queues = s.queues := rfl
@[simp] theorem State.useFree_qseq (n : Nat) : (s.useFree n).qseq = s.qseq := rfl
@[simp] theorem State.useFree_ports (n : Nat) : (s.useFree n).ports = s.ports := rfl
@[simp] theorem State.useFree_linkTx (n : Nat) : (s.useFree n).linkTx = s.linkTx := rfl
@[simp] theorem State.useFree_lk (n : Nat) : (s.useFree n).lk = s.lk := rfl
@[simp] theorem State.useFree_seams (n : Nat) : (s.useFree n).seams = s.seams := rfl
@[simp] theorem State.useFree_legacy (n : Nat) : (s.useFree n).legacy = s.legacy := rfl
@[simp] theorem State.useFree_score (n : Nat) : (s.useFree n).score = s.score := rfl
@[simp] theorem State.useFree_tacks (n : Nat) : (s.useFree n).tacks = s.tacks := rfl
@[simp] theorem State.useFree_books (n : Nat) : (s.useFree n).books = s.books := rfl
@[simp] theorem State.useFree_eth (n : Nat) : (s.useFree n).eth = s.eth := rfl
@[simp] theorem State.useFree_unison (n : Nat) : (s.useFree n).unison = s.unison := rfl
@[simp] theorem State.useFree_arb (n : Nat) : (s.useFree n).arb = s.arb := rfl
@[simp] theorem State.useFree_icu (n : Nat) : (s.useFree n).icu = s.icu := rfl
@[simp] theorem State.useFree_front (n : Nat) : (s.useFree n).front = s.front := rfl
@[simp] theorem State.useFree_sm (n : Nat) : (s.useFree n).sm = s.sm := rfl
@[simp] theorem State.useFree_tap (n : Nat) : (s.useFree n).tap = s.tap := rfl
@[simp] theorem State.useFree_smb (n : Nat) : (s.useFree n).smb = s.smb := rfl
@[simp] theorem State.useFree_pins (n : Nat) : (s.useFree n).pins = s.pins := rfl
@[simp] theorem State.useFree_fuses (n : Nat) : (s.useFree n).fuses = s.fuses := rfl
@[simp] theorem State.useFree_flash (n : Nat) : (s.useFree n).flash = s.flash := rfl
@[simp] theorem State.useFree_fw (n : Nat) : (s.useFree n).fw = s.fw := rfl
@[simp] theorem State.useFree_pwr (n : Nat) : (s.useFree n).pwr = s.pwr := rfl
@[simp] theorem State.useFree_free (n : Nat) : (s.useFree n).free = s.free + n := rfl
@[simp] theorem State.useFree_pending (n : Nat) : (s.useFree n).pending = s.pending := rfl

@[simp] theorem State.writeMem_regs (o : Nat) (bs : List Byte) : (s.writeMem o bs).regs = s.regs := rfl
@[simp] theorem State.writeMem_mem (o : Nat) (bs : List Byte) : (s.writeMem o bs).mem = putBytes s.mem o bs := rfl
@[simp] theorem State.writeMem_tempo (o : Nat) (bs : List Byte) : (s.writeMem o bs).tempo = s.tempo := rfl
@[simp] theorem State.writeMem_clock (o : Nat) (bs : List Byte) : (s.writeMem o bs).clock = s.clock := rfl
@[simp] theorem State.writeMem_dieBase (o : Nat) (bs : List Byte) : (s.writeMem o bs).dieBase = s.dieBase := rfl
@[simp] theorem State.writeMem_aligns (o : Nat) (bs : List Byte) : (s.writeMem o bs).aligns = s.aligns := rfl
@[simp] theorem State.writeMem_links (o : Nat) (bs : List Byte) : (s.writeMem o bs).links = s.links := rfl
@[simp] theorem State.writeMem_cond (o : Nat) (bs : List Byte) : (s.writeMem o bs).cond = s.cond := rfl
@[simp] theorem State.writeMem_patches (o : Nat) (bs : List Byte) : (s.writeMem o bs).patches = s.patches := rfl
@[simp] theorem State.writeMem_press (o : Nat) (bs : List Byte) : (s.writeMem o bs).press = s.press := rfl
@[simp] theorem State.writeMem_sects (o : Nat) (bs : List Byte) : (s.writeMem o bs).sects = s.sects := rfl
@[simp] theorem State.writeMem_queues (o : Nat) (bs : List Byte) : (s.writeMem o bs).queues = s.queues := rfl
@[simp] theorem State.writeMem_qseq (o : Nat) (bs : List Byte) : (s.writeMem o bs).qseq = s.qseq := rfl
@[simp] theorem State.writeMem_ports (o : Nat) (bs : List Byte) : (s.writeMem o bs).ports = s.ports := rfl
@[simp] theorem State.writeMem_linkTx (o : Nat) (bs : List Byte) : (s.writeMem o bs).linkTx = s.linkTx := rfl
@[simp] theorem State.writeMem_lk (o : Nat) (bs : List Byte) : (s.writeMem o bs).lk = s.lk := rfl
@[simp] theorem State.writeMem_seams (o : Nat) (bs : List Byte) : (s.writeMem o bs).seams = s.seams := rfl
@[simp] theorem State.writeMem_legacy (o : Nat) (bs : List Byte) : (s.writeMem o bs).legacy = s.legacy := rfl
@[simp] theorem State.writeMem_score (o : Nat) (bs : List Byte) : (s.writeMem o bs).score = s.score := rfl
@[simp] theorem State.writeMem_tacks (o : Nat) (bs : List Byte) : (s.writeMem o bs).tacks = s.tacks := rfl
@[simp] theorem State.writeMem_books (o : Nat) (bs : List Byte) : (s.writeMem o bs).books = s.books := rfl
@[simp] theorem State.writeMem_eth (o : Nat) (bs : List Byte) : (s.writeMem o bs).eth = s.eth := rfl
@[simp] theorem State.writeMem_unison (o : Nat) (bs : List Byte) : (s.writeMem o bs).unison = s.unison := rfl
@[simp] theorem State.writeMem_arb (o : Nat) (bs : List Byte) : (s.writeMem o bs).arb = s.arb := rfl
@[simp] theorem State.writeMem_icu (o : Nat) (bs : List Byte) : (s.writeMem o bs).icu = s.icu := rfl
@[simp] theorem State.writeMem_front (o : Nat) (bs : List Byte) : (s.writeMem o bs).front = s.front := rfl
@[simp] theorem State.writeMem_sm (o : Nat) (bs : List Byte) : (s.writeMem o bs).sm = s.sm := rfl
@[simp] theorem State.writeMem_tap (o : Nat) (bs : List Byte) : (s.writeMem o bs).tap = s.tap := rfl
@[simp] theorem State.writeMem_smb (o : Nat) (bs : List Byte) : (s.writeMem o bs).smb = s.smb := rfl
@[simp] theorem State.writeMem_pins (o : Nat) (bs : List Byte) : (s.writeMem o bs).pins = s.pins := rfl
@[simp] theorem State.writeMem_fuses (o : Nat) (bs : List Byte) : (s.writeMem o bs).fuses = s.fuses := rfl
@[simp] theorem State.writeMem_flash (o : Nat) (bs : List Byte) : (s.writeMem o bs).flash = s.flash := rfl
@[simp] theorem State.writeMem_fw (o : Nat) (bs : List Byte) : (s.writeMem o bs).fw = s.fw := rfl
@[simp] theorem State.writeMem_pwr (o : Nat) (bs : List Byte) : (s.writeMem o bs).pwr = s.pwr := rfl
@[simp] theorem State.writeMem_free (o : Nat) (bs : List Byte) : (s.writeMem o bs).free = s.free := rfl
@[simp] theorem State.writeMem_pending (o : Nat) (bs : List Byte) : (s.writeMem o bs).pending = s.pending := rfl

@[simp] theorem State.writeBoard_regs (p a : Nat) (bs : List Byte) : (s.writeBoard p a bs).regs = s.regs := rfl
@[simp] theorem State.writeBoard_mem (p a : Nat) (bs : List Byte) : (s.writeBoard p a bs).mem = putBoard s.mem p a bs := rfl
@[simp] theorem State.writeBoard_tempo (p a : Nat) (bs : List Byte) : (s.writeBoard p a bs).tempo = s.tempo := rfl
@[simp] theorem State.writeBoard_clock (p a : Nat) (bs : List Byte) : (s.writeBoard p a bs).clock = s.clock := rfl
@[simp] theorem State.writeBoard_dieBase (p a : Nat) (bs : List Byte) : (s.writeBoard p a bs).dieBase = s.dieBase := rfl
@[simp] theorem State.writeBoard_aligns (p a : Nat) (bs : List Byte) : (s.writeBoard p a bs).aligns = s.aligns := rfl
@[simp] theorem State.writeBoard_links (p a : Nat) (bs : List Byte) : (s.writeBoard p a bs).links = s.links := rfl
@[simp] theorem State.writeBoard_cond (p a : Nat) (bs : List Byte) : (s.writeBoard p a bs).cond = s.cond := rfl
@[simp] theorem State.writeBoard_patches (p a : Nat) (bs : List Byte) : (s.writeBoard p a bs).patches = s.patches := rfl
@[simp] theorem State.writeBoard_press (p a : Nat) (bs : List Byte) : (s.writeBoard p a bs).press = s.press := rfl
@[simp] theorem State.writeBoard_sects (p a : Nat) (bs : List Byte) : (s.writeBoard p a bs).sects = s.sects := rfl
@[simp] theorem State.writeBoard_queues (p a : Nat) (bs : List Byte) : (s.writeBoard p a bs).queues = s.queues := rfl
@[simp] theorem State.writeBoard_qseq (p a : Nat) (bs : List Byte) : (s.writeBoard p a bs).qseq = s.qseq := rfl
@[simp] theorem State.writeBoard_ports (p a : Nat) (bs : List Byte) : (s.writeBoard p a bs).ports = s.ports := rfl
@[simp] theorem State.writeBoard_linkTx (p a : Nat) (bs : List Byte) : (s.writeBoard p a bs).linkTx = s.linkTx := rfl
@[simp] theorem State.writeBoard_lk (p a : Nat) (bs : List Byte) : (s.writeBoard p a bs).lk = s.lk := rfl
@[simp] theorem State.writeBoard_seams (p a : Nat) (bs : List Byte) : (s.writeBoard p a bs).seams = s.seams := rfl
@[simp] theorem State.writeBoard_legacy (p a : Nat) (bs : List Byte) : (s.writeBoard p a bs).legacy = s.legacy := rfl
@[simp] theorem State.writeBoard_score (p a : Nat) (bs : List Byte) : (s.writeBoard p a bs).score = s.score := rfl
@[simp] theorem State.writeBoard_tacks (p a : Nat) (bs : List Byte) : (s.writeBoard p a bs).tacks = s.tacks := rfl
@[simp] theorem State.writeBoard_books (p a : Nat) (bs : List Byte) : (s.writeBoard p a bs).books = s.books := rfl
@[simp] theorem State.writeBoard_eth (p a : Nat) (bs : List Byte) : (s.writeBoard p a bs).eth = s.eth := rfl
@[simp] theorem State.writeBoard_unison (p a : Nat) (bs : List Byte) : (s.writeBoard p a bs).unison = s.unison := rfl
@[simp] theorem State.writeBoard_arb (p a : Nat) (bs : List Byte) : (s.writeBoard p a bs).arb = s.arb := rfl
@[simp] theorem State.writeBoard_icu (p a : Nat) (bs : List Byte) : (s.writeBoard p a bs).icu = s.icu := rfl
@[simp] theorem State.writeBoard_front (p a : Nat) (bs : List Byte) : (s.writeBoard p a bs).front = s.front := rfl
@[simp] theorem State.writeBoard_sm (p a : Nat) (bs : List Byte) : (s.writeBoard p a bs).sm = s.sm := rfl
@[simp] theorem State.writeBoard_tap (p a : Nat) (bs : List Byte) : (s.writeBoard p a bs).tap = s.tap := rfl
@[simp] theorem State.writeBoard_smb (p a : Nat) (bs : List Byte) : (s.writeBoard p a bs).smb = s.smb := rfl
@[simp] theorem State.writeBoard_pins (p a : Nat) (bs : List Byte) : (s.writeBoard p a bs).pins = s.pins := rfl
@[simp] theorem State.writeBoard_fuses (p a : Nat) (bs : List Byte) : (s.writeBoard p a bs).fuses = s.fuses := rfl
@[simp] theorem State.writeBoard_flash (p a : Nat) (bs : List Byte) : (s.writeBoard p a bs).flash = s.flash := rfl
@[simp] theorem State.writeBoard_fw (p a : Nat) (bs : List Byte) : (s.writeBoard p a bs).fw = s.fw := rfl
@[simp] theorem State.writeBoard_pwr (p a : Nat) (bs : List Byte) : (s.writeBoard p a bs).pwr = s.pwr := rfl
@[simp] theorem State.writeBoard_free (p a : Nat) (bs : List Byte) : (s.writeBoard p a bs).free = s.free := rfl
@[simp] theorem State.writeBoard_pending (p a : Nat) (bs : List Byte) : (s.writeBoard p a bs).pending = s.pending := rfl

@[simp] theorem State.setTempo_regs (t : Tempo) : (s.setTempo t).regs = s.regs := rfl
@[simp] theorem State.setTempo_mem (t : Tempo) : (s.setTempo t).mem = s.mem := rfl
@[simp] theorem State.setTempo_tempo (t : Tempo) : (s.setTempo t).tempo = t := rfl
@[simp] theorem State.setTempo_clock (t : Tempo) : (s.setTempo t).clock = s.clock := rfl
@[simp] theorem State.setTempo_dieBase (t : Tempo) : (s.setTempo t).dieBase = s.dieBase := rfl
@[simp] theorem State.setTempo_aligns (t : Tempo) : (s.setTempo t).aligns = s.aligns := rfl
@[simp] theorem State.setTempo_links (t : Tempo) : (s.setTempo t).links = s.links := rfl
@[simp] theorem State.setTempo_cond (t : Tempo) : (s.setTempo t).cond = s.cond := rfl
@[simp] theorem State.setTempo_patches (t : Tempo) : (s.setTempo t).patches = s.patches := rfl
@[simp] theorem State.setTempo_press (t : Tempo) : (s.setTempo t).press = s.press := rfl
@[simp] theorem State.setTempo_sects (t : Tempo) : (s.setTempo t).sects = s.sects := rfl
@[simp] theorem State.setTempo_queues (t : Tempo) : (s.setTempo t).queues = s.queues := rfl
@[simp] theorem State.setTempo_qseq (t : Tempo) : (s.setTempo t).qseq = s.qseq := rfl
@[simp] theorem State.setTempo_ports (t : Tempo) : (s.setTempo t).ports = s.ports := rfl
@[simp] theorem State.setTempo_linkTx (t : Tempo) : (s.setTempo t).linkTx = s.linkTx := rfl
@[simp] theorem State.setTempo_lk (t : Tempo) : (s.setTempo t).lk = s.lk := rfl
@[simp] theorem State.setTempo_seams (t : Tempo) : (s.setTempo t).seams = s.seams := rfl
@[simp] theorem State.setTempo_legacy (t : Tempo) : (s.setTempo t).legacy = s.legacy := rfl
@[simp] theorem State.setTempo_score (t : Tempo) : (s.setTempo t).score = s.score := rfl
@[simp] theorem State.setTempo_tacks (t : Tempo) : (s.setTempo t).tacks = s.tacks := rfl
@[simp] theorem State.setTempo_books (t : Tempo) : (s.setTempo t).books = s.books := rfl
@[simp] theorem State.setTempo_eth (t : Tempo) : (s.setTempo t).eth = s.eth := rfl
@[simp] theorem State.setTempo_unison (t : Tempo) : (s.setTempo t).unison = s.unison := rfl
@[simp] theorem State.setTempo_arb (t : Tempo) : (s.setTempo t).arb = s.arb := rfl
@[simp] theorem State.setTempo_icu (t : Tempo) : (s.setTempo t).icu = s.icu := rfl
@[simp] theorem State.setTempo_front (t : Tempo) : (s.setTempo t).front = s.front := rfl
@[simp] theorem State.setTempo_sm (t : Tempo) : (s.setTempo t).sm = s.sm := rfl
@[simp] theorem State.setTempo_tap (t : Tempo) : (s.setTempo t).tap = s.tap := rfl
@[simp] theorem State.setTempo_smb (t : Tempo) : (s.setTempo t).smb = s.smb := rfl
@[simp] theorem State.setTempo_pins (t : Tempo) : (s.setTempo t).pins = s.pins := rfl
@[simp] theorem State.setTempo_fuses (t : Tempo) : (s.setTempo t).fuses = s.fuses := rfl
@[simp] theorem State.setTempo_flash (t : Tempo) : (s.setTempo t).flash = s.flash := rfl
@[simp] theorem State.setTempo_fw (t : Tempo) : (s.setTempo t).fw = s.fw := rfl
@[simp] theorem State.setTempo_pwr (t : Tempo) : (s.setTempo t).pwr = s.pwr := rfl
@[simp] theorem State.setTempo_free (t : Tempo) : (s.setTempo t).free = s.free := rfl
@[simp] theorem State.setTempo_pending (t : Tempo) : (s.setTempo t).pending = s.pending := rfl

@[simp] theorem State.edge_regs (n : Nat) : (s.edge n).regs = s.regs := rfl
@[simp] theorem State.edge_mem (n : Nat) : (s.edge n).mem = s.mem := rfl
@[simp] theorem State.edge_tempo (n : Nat) : (s.edge n).tempo = s.tempo := rfl
@[simp] theorem State.edge_clock (n : Nat) : (s.edge n).clock = s.clock := rfl
@[simp] theorem State.edge_dieBase (n : Nat) : (s.edge n).dieBase = s.dieBase := rfl
@[simp] theorem State.edge_aligns (n : Nat) : (s.edge n).aligns = s.aligns := rfl
@[simp] theorem State.edge_links (n : Nat) : (s.edge n).links = s.links := rfl
@[simp] theorem State.edge_cond (n : Nat) : (s.edge n).cond = s.cond := rfl
@[simp] theorem State.edge_patches (n : Nat) : (s.edge n).patches = s.patches := rfl
@[simp] theorem State.edge_press (n : Nat) : (s.edge n).press = s.press := rfl
@[simp] theorem State.edge_sects (n : Nat) : (s.edge n).sects = s.sects := rfl
@[simp] theorem State.edge_queues (n : Nat) : (s.edge n).queues = s.queues := rfl
@[simp] theorem State.edge_qseq (n : Nat) : (s.edge n).qseq = s.qseq := rfl
@[simp] theorem State.edge_ports (n : Nat) : (s.edge n).ports = s.ports := rfl
@[simp] theorem State.edge_linkTx (n : Nat) : (s.edge n).linkTx = s.linkTx := rfl
@[simp] theorem State.edge_lk (n : Nat) : (s.edge n).lk = s.lk := rfl
@[simp] theorem State.edge_seams (n : Nat) : (s.edge n).seams = s.seams := rfl
@[simp] theorem State.edge_legacy (n : Nat) : (s.edge n).legacy = s.legacy := rfl
@[simp] theorem State.edge_score (n : Nat) : (s.edge n).score = s.score := rfl
@[simp] theorem State.edge_tacks (n : Nat) : (s.edge n).tacks = s.tacks := rfl
@[simp] theorem State.edge_books (n : Nat) : (s.edge n).books = s.books := rfl
@[simp] theorem State.edge_eth (n : Nat) : (s.edge n).eth = s.eth := rfl
@[simp] theorem State.edge_unison (n : Nat) : (s.edge n).unison = s.unison := rfl
@[simp] theorem State.edge_arb (n : Nat) : (s.edge n).arb = s.arb := rfl
@[simp] theorem State.edge_front (n : Nat) : (s.edge n).front = s.front := rfl
@[simp] theorem State.edge_sm (n : Nat) : (s.edge n).sm = s.sm := rfl
@[simp] theorem State.edge_tap (n : Nat) : (s.edge n).tap = s.tap := rfl
@[simp] theorem State.edge_smb (n : Nat) : (s.edge n).smb = s.smb := rfl
@[simp] theorem State.edge_pins (n : Nat) : (s.edge n).pins = s.pins := rfl
@[simp] theorem State.edge_fuses (n : Nat) : (s.edge n).fuses = s.fuses := rfl
@[simp] theorem State.edge_flash (n : Nat) : (s.edge n).flash = s.flash := rfl
@[simp] theorem State.edge_fw (n : Nat) : (s.edge n).fw = s.fw := rfl
@[simp] theorem State.edge_pwr (n : Nat) : (s.edge n).pwr = s.pwr := rfl
@[simp] theorem State.edge_free (n : Nat) : (s.edge n).free = s.free := rfl
@[simp] theorem State.edge_pending (n : Nat) : (s.edge n).pending = s.pending := rfl

@[simp] theorem State.tempoEdge_regs : (s.tempoEdge).regs = s.regs := rfl
@[simp] theorem State.tempoEdge_mem : (s.tempoEdge).mem = s.mem := rfl
@[simp] theorem State.tempoEdge_tempo : (s.tempoEdge).tempo = s.tempo := rfl
@[simp] theorem State.tempoEdge_clock : (s.tempoEdge).clock = s.clock := rfl
@[simp] theorem State.tempoEdge_dieBase : (s.tempoEdge).dieBase = s.dieBase := rfl
@[simp] theorem State.tempoEdge_aligns : (s.tempoEdge).aligns = s.aligns := rfl
@[simp] theorem State.tempoEdge_links : (s.tempoEdge).links = s.links := rfl
@[simp] theorem State.tempoEdge_cond : (s.tempoEdge).cond = s.cond := rfl
@[simp] theorem State.tempoEdge_patches : (s.tempoEdge).patches = s.patches := rfl
@[simp] theorem State.tempoEdge_press : (s.tempoEdge).press = s.press := rfl
@[simp] theorem State.tempoEdge_sects : (s.tempoEdge).sects = s.sects := rfl
@[simp] theorem State.tempoEdge_queues : (s.tempoEdge).queues = s.queues := rfl
@[simp] theorem State.tempoEdge_qseq : (s.tempoEdge).qseq = s.qseq := rfl
@[simp] theorem State.tempoEdge_ports : (s.tempoEdge).ports = s.ports := rfl
@[simp] theorem State.tempoEdge_linkTx : (s.tempoEdge).linkTx = s.linkTx := rfl
@[simp] theorem State.tempoEdge_lk : (s.tempoEdge).lk = s.lk := rfl
@[simp] theorem State.tempoEdge_seams : (s.tempoEdge).seams = s.seams := rfl
@[simp] theorem State.tempoEdge_legacy : (s.tempoEdge).legacy = s.legacy := rfl
@[simp] theorem State.tempoEdge_score : (s.tempoEdge).score = s.score := rfl
@[simp] theorem State.tempoEdge_tacks : (s.tempoEdge).tacks = s.tacks := rfl
@[simp] theorem State.tempoEdge_books : (s.tempoEdge).books = s.books := rfl
@[simp] theorem State.tempoEdge_eth : (s.tempoEdge).eth = s.eth := rfl
@[simp] theorem State.tempoEdge_unison : (s.tempoEdge).unison = s.unison := rfl
@[simp] theorem State.tempoEdge_arb : (s.tempoEdge).arb = s.arb := rfl
@[simp] theorem State.tempoEdge_front : (s.tempoEdge).front = s.front := rfl
@[simp] theorem State.tempoEdge_sm : (s.tempoEdge).sm = s.sm := rfl
@[simp] theorem State.tempoEdge_tap : (s.tempoEdge).tap = s.tap := rfl
@[simp] theorem State.tempoEdge_smb : (s.tempoEdge).smb = s.smb := rfl
@[simp] theorem State.tempoEdge_pins : (s.tempoEdge).pins = s.pins := rfl
@[simp] theorem State.tempoEdge_fuses : (s.tempoEdge).fuses = s.fuses := rfl
@[simp] theorem State.tempoEdge_flash : (s.tempoEdge).flash = s.flash := rfl
@[simp] theorem State.tempoEdge_fw : (s.tempoEdge).fw = s.fw := rfl
@[simp] theorem State.tempoEdge_pwr : (s.tempoEdge).pwr = s.pwr := rfl
@[simp] theorem State.tempoEdge_free : (s.tempoEdge).free = s.free := rfl
@[simp] theorem State.tempoEdge_pending : (s.tempoEdge).pending = s.pending := rfl

@[simp] theorem State.fermataRequest_regs : (s.fermataRequest).regs = s.regs := rfl
@[simp] theorem State.fermataRequest_mem : (s.fermataRequest).mem = s.mem := rfl
@[simp] theorem State.fermataRequest_clock : (s.fermataRequest).clock = s.clock := rfl
@[simp] theorem State.fermataRequest_dieBase : (s.fermataRequest).dieBase = s.dieBase := rfl
@[simp] theorem State.fermataRequest_aligns : (s.fermataRequest).aligns = s.aligns := rfl
@[simp] theorem State.fermataRequest_links : (s.fermataRequest).links = s.links := rfl
@[simp] theorem State.fermataRequest_cond : (s.fermataRequest).cond = s.cond := rfl
@[simp] theorem State.fermataRequest_patches : (s.fermataRequest).patches = s.patches := rfl
@[simp] theorem State.fermataRequest_press : (s.fermataRequest).press = s.press := rfl
@[simp] theorem State.fermataRequest_sects : (s.fermataRequest).sects = s.sects := rfl
@[simp] theorem State.fermataRequest_queues : (s.fermataRequest).queues = s.queues := rfl
@[simp] theorem State.fermataRequest_qseq : (s.fermataRequest).qseq = s.qseq := rfl
@[simp] theorem State.fermataRequest_ports : (s.fermataRequest).ports = s.ports := rfl
@[simp] theorem State.fermataRequest_linkTx : (s.fermataRequest).linkTx = s.linkTx := rfl
@[simp] theorem State.fermataRequest_lk : (s.fermataRequest).lk = s.lk := rfl
@[simp] theorem State.fermataRequest_seams : (s.fermataRequest).seams = s.seams := rfl
@[simp] theorem State.fermataRequest_legacy : (s.fermataRequest).legacy = s.legacy := rfl
@[simp] theorem State.fermataRequest_score : (s.fermataRequest).score = s.score := rfl
@[simp] theorem State.fermataRequest_tacks : (s.fermataRequest).tacks = s.tacks := rfl
@[simp] theorem State.fermataRequest_books : (s.fermataRequest).books = s.books := rfl
@[simp] theorem State.fermataRequest_eth : (s.fermataRequest).eth = s.eth := rfl
@[simp] theorem State.fermataRequest_unison : (s.fermataRequest).unison = s.unison := rfl
@[simp] theorem State.fermataRequest_arb : (s.fermataRequest).arb = s.arb := rfl
@[simp] theorem State.fermataRequest_icu : (s.fermataRequest).icu = s.icu := rfl
@[simp] theorem State.fermataRequest_front : (s.fermataRequest).front = s.front := rfl
@[simp] theorem State.fermataRequest_sm : (s.fermataRequest).sm = s.sm := rfl
@[simp] theorem State.fermataRequest_tap : (s.fermataRequest).tap = s.tap := rfl
@[simp] theorem State.fermataRequest_smb : (s.fermataRequest).smb = s.smb := rfl
@[simp] theorem State.fermataRequest_pins : (s.fermataRequest).pins = s.pins := rfl
@[simp] theorem State.fermataRequest_fuses : (s.fermataRequest).fuses = s.fuses := rfl
@[simp] theorem State.fermataRequest_flash : (s.fermataRequest).flash = s.flash := rfl
@[simp] theorem State.fermataRequest_fw : (s.fermataRequest).fw = s.fw := rfl
@[simp] theorem State.fermataRequest_pwr : (s.fermataRequest).pwr = s.pwr := rfl
@[simp] theorem State.fermataRequest_free : (s.fermataRequest).free = s.free := rfl
@[simp] theorem State.fermataRequest_pending : (s.fermataRequest).pending = s.pending := rfl

@[simp] theorem State.setConductor_regs (d : Nat) (c : Conductor) : (s.setConductor d c).regs = s.regs := rfl
@[simp] theorem State.setConductor_mem (d : Nat) (c : Conductor) : (s.setConductor d c).mem = s.mem := rfl
@[simp] theorem State.setConductor_tempo (d : Nat) (c : Conductor) : (s.setConductor d c).tempo = s.tempo := rfl
@[simp] theorem State.setConductor_clock (d : Nat) (c : Conductor) : (s.setConductor d c).clock = s.clock := rfl
@[simp] theorem State.setConductor_dieBase (d : Nat) (c : Conductor) : (s.setConductor d c).dieBase = s.dieBase := rfl
@[simp] theorem State.setConductor_aligns (d : Nat) (c : Conductor) : (s.setConductor d c).aligns = s.aligns := rfl
@[simp] theorem State.setConductor_links (d : Nat) (c : Conductor) : (s.setConductor d c).links = s.links := rfl
@[simp] theorem State.setConductor_cond (d : Nat) (c : Conductor) : (s.setConductor d c).cond = tput {} s.cond d c := rfl
@[simp] theorem State.setConductor_patches (d : Nat) (c : Conductor) : (s.setConductor d c).patches = s.patches := rfl
@[simp] theorem State.setConductor_press (d : Nat) (c : Conductor) : (s.setConductor d c).press = s.press := rfl
@[simp] theorem State.setConductor_sects (d : Nat) (c : Conductor) : (s.setConductor d c).sects = s.sects := rfl
@[simp] theorem State.setConductor_queues (d : Nat) (c : Conductor) : (s.setConductor d c).queues = s.queues := rfl
@[simp] theorem State.setConductor_qseq (d : Nat) (c : Conductor) : (s.setConductor d c).qseq = s.qseq := rfl
@[simp] theorem State.setConductor_ports (d : Nat) (c : Conductor) : (s.setConductor d c).ports = s.ports := rfl
@[simp] theorem State.setConductor_linkTx (d : Nat) (c : Conductor) : (s.setConductor d c).linkTx = s.linkTx := rfl
@[simp] theorem State.setConductor_lk (d : Nat) (c : Conductor) : (s.setConductor d c).lk = s.lk := rfl
@[simp] theorem State.setConductor_seams (d : Nat) (c : Conductor) : (s.setConductor d c).seams = s.seams := rfl
@[simp] theorem State.setConductor_legacy (d : Nat) (c : Conductor) : (s.setConductor d c).legacy = s.legacy := rfl
@[simp] theorem State.setConductor_score (d : Nat) (c : Conductor) : (s.setConductor d c).score = s.score := rfl
@[simp] theorem State.setConductor_tacks (d : Nat) (c : Conductor) : (s.setConductor d c).tacks = s.tacks := rfl
@[simp] theorem State.setConductor_books (d : Nat) (c : Conductor) : (s.setConductor d c).books = s.books := rfl
@[simp] theorem State.setConductor_eth (d : Nat) (c : Conductor) : (s.setConductor d c).eth = s.eth := rfl
@[simp] theorem State.setConductor_unison (d : Nat) (c : Conductor) : (s.setConductor d c).unison = s.unison := rfl
@[simp] theorem State.setConductor_arb (d : Nat) (c : Conductor) : (s.setConductor d c).arb = s.arb := rfl
@[simp] theorem State.setConductor_icu (d : Nat) (c : Conductor) : (s.setConductor d c).icu = s.icu := rfl
@[simp] theorem State.setConductor_front (d : Nat) (c : Conductor) : (s.setConductor d c).front = s.front := rfl
@[simp] theorem State.setConductor_sm (d : Nat) (c : Conductor) : (s.setConductor d c).sm = s.sm := rfl
@[simp] theorem State.setConductor_tap (d : Nat) (c : Conductor) : (s.setConductor d c).tap = s.tap := rfl
@[simp] theorem State.setConductor_smb (d : Nat) (c : Conductor) : (s.setConductor d c).smb = s.smb := rfl
@[simp] theorem State.setConductor_pins (d : Nat) (c : Conductor) : (s.setConductor d c).pins = s.pins := rfl
@[simp] theorem State.setConductor_fuses (d : Nat) (c : Conductor) : (s.setConductor d c).fuses = s.fuses := rfl
@[simp] theorem State.setConductor_flash (d : Nat) (c : Conductor) : (s.setConductor d c).flash = s.flash := rfl
@[simp] theorem State.setConductor_fw (d : Nat) (c : Conductor) : (s.setConductor d c).fw = s.fw := rfl
@[simp] theorem State.setConductor_pwr (d : Nat) (c : Conductor) : (s.setConductor d c).pwr = s.pwr := rfl
@[simp] theorem State.setConductor_free (d : Nat) (c : Conductor) : (s.setConductor d c).free = s.free := rfl
@[simp] theorem State.setConductor_pending (d : Nat) (c : Conductor) : (s.setConductor d c).pending = s.pending := rfl

@[simp] theorem State.hostWrite_regs (a : Nat) (bs : List Byte) : (s.hostWrite a bs).regs = s.regs := rfl
@[simp] theorem State.hostWrite_mem (a : Nat) (bs : List Byte) : (s.hostWrite a bs).mem = s.mem := rfl
@[simp] theorem State.hostWrite_tempo (a : Nat) (bs : List Byte) : (s.hostWrite a bs).tempo = s.tempo := rfl
@[simp] theorem State.hostWrite_clock (a : Nat) (bs : List Byte) : (s.hostWrite a bs).clock = s.clock := rfl
@[simp] theorem State.hostWrite_dieBase (a : Nat) (bs : List Byte) : (s.hostWrite a bs).dieBase = s.dieBase := rfl
@[simp] theorem State.hostWrite_aligns (a : Nat) (bs : List Byte) : (s.hostWrite a bs).aligns = s.aligns := rfl
@[simp] theorem State.hostWrite_links (a : Nat) (bs : List Byte) : (s.hostWrite a bs).links = s.links := rfl
@[simp] theorem State.hostWrite_cond (a : Nat) (bs : List Byte) : (s.hostWrite a bs).cond = s.cond := rfl
@[simp] theorem State.hostWrite_patches (a : Nat) (bs : List Byte) : (s.hostWrite a bs).patches = s.patches := rfl
@[simp] theorem State.hostWrite_press (a : Nat) (bs : List Byte) : (s.hostWrite a bs).press = s.press := rfl
@[simp] theorem State.hostWrite_sects (a : Nat) (bs : List Byte) : (s.hostWrite a bs).sects = s.sects := rfl
@[simp] theorem State.hostWrite_queues (a : Nat) (bs : List Byte) : (s.hostWrite a bs).queues = s.queues := rfl
@[simp] theorem State.hostWrite_qseq (a : Nat) (bs : List Byte) : (s.hostWrite a bs).qseq = s.qseq := rfl
@[simp] theorem State.hostWrite_ports (a : Nat) (bs : List Byte) : (s.hostWrite a bs).ports = s.ports := rfl
@[simp] theorem State.hostWrite_linkTx (a : Nat) (bs : List Byte) : (s.hostWrite a bs).linkTx = s.linkTx := rfl
@[simp] theorem State.hostWrite_lk (a : Nat) (bs : List Byte) : (s.hostWrite a bs).lk = s.lk := rfl
@[simp] theorem State.hostWrite_seams (a : Nat) (bs : List Byte) : (s.hostWrite a bs).seams = s.seams := rfl
@[simp] theorem State.hostWrite_legacy (a : Nat) (bs : List Byte) : (s.hostWrite a bs).legacy = s.legacy := rfl
@[simp] theorem State.hostWrite_score (a : Nat) (bs : List Byte) : (s.hostWrite a bs).score = s.score := rfl
@[simp] theorem State.hostWrite_tacks (a : Nat) (bs : List Byte) : (s.hostWrite a bs).tacks = s.tacks := rfl
@[simp] theorem State.hostWrite_books (a : Nat) (bs : List Byte) : (s.hostWrite a bs).books = s.books := rfl
@[simp] theorem State.hostWrite_eth (a : Nat) (bs : List Byte) : (s.hostWrite a bs).eth = s.eth := rfl
@[simp] theorem State.hostWrite_unison (a : Nat) (bs : List Byte) : (s.hostWrite a bs).unison = s.unison := rfl
@[simp] theorem State.hostWrite_arb (a : Nat) (bs : List Byte) : (s.hostWrite a bs).arb = s.arb := rfl
@[simp] theorem State.hostWrite_icu (a : Nat) (bs : List Byte) : (s.hostWrite a bs).icu = s.icu := rfl
@[simp] theorem State.hostWrite_sm (a : Nat) (bs : List Byte) : (s.hostWrite a bs).sm = s.sm := rfl
@[simp] theorem State.hostWrite_tap (a : Nat) (bs : List Byte) : (s.hostWrite a bs).tap = s.tap := rfl
@[simp] theorem State.hostWrite_smb (a : Nat) (bs : List Byte) : (s.hostWrite a bs).smb = s.smb := rfl
@[simp] theorem State.hostWrite_pins (a : Nat) (bs : List Byte) : (s.hostWrite a bs).pins = s.pins := rfl
@[simp] theorem State.hostWrite_fuses (a : Nat) (bs : List Byte) : (s.hostWrite a bs).fuses = s.fuses := rfl
@[simp] theorem State.hostWrite_flash (a : Nat) (bs : List Byte) : (s.hostWrite a bs).flash = s.flash := rfl
@[simp] theorem State.hostWrite_fw (a : Nat) (bs : List Byte) : (s.hostWrite a bs).fw = s.fw := rfl
@[simp] theorem State.hostWrite_pwr (a : Nat) (bs : List Byte) : (s.hostWrite a bs).pwr = s.pwr := rfl
@[simp] theorem State.hostWrite_free (a : Nat) (bs : List Byte) : (s.hostWrite a bs).free = s.free := rfl
@[simp] theorem State.hostWrite_pending (a : Nat) (bs : List Byte) : (s.hostWrite a bs).pending = s.pending := rfl

@[simp] theorem State.wait_regs (w : WaitFor) (c : Cmd) : (s.wait w c).regs = s.regs := rfl
@[simp] theorem State.wait_mem (w : WaitFor) (c : Cmd) : (s.wait w c).mem = s.mem := rfl
@[simp] theorem State.wait_tempo (w : WaitFor) (c : Cmd) : (s.wait w c).tempo = s.tempo := rfl
@[simp] theorem State.wait_clock (w : WaitFor) (c : Cmd) : (s.wait w c).clock = s.clock := rfl
@[simp] theorem State.wait_dieBase (w : WaitFor) (c : Cmd) : (s.wait w c).dieBase = s.dieBase := rfl
@[simp] theorem State.wait_aligns (w : WaitFor) (c : Cmd) : (s.wait w c).aligns = s.aligns := rfl
@[simp] theorem State.wait_links (w : WaitFor) (c : Cmd) : (s.wait w c).links = s.links := rfl
@[simp] theorem State.wait_cond (w : WaitFor) (c : Cmd) : (s.wait w c).cond = s.cond := rfl
@[simp] theorem State.wait_patches (w : WaitFor) (c : Cmd) : (s.wait w c).patches = s.patches := rfl
@[simp] theorem State.wait_press (w : WaitFor) (c : Cmd) : (s.wait w c).press = s.press := rfl
@[simp] theorem State.wait_sects (w : WaitFor) (c : Cmd) : (s.wait w c).sects = s.sects := rfl
@[simp] theorem State.wait_queues (w : WaitFor) (c : Cmd) : (s.wait w c).queues = s.queues := rfl
@[simp] theorem State.wait_qseq (w : WaitFor) (c : Cmd) : (s.wait w c).qseq = s.qseq := rfl
@[simp] theorem State.wait_ports (w : WaitFor) (c : Cmd) : (s.wait w c).ports = s.ports := rfl
@[simp] theorem State.wait_linkTx (w : WaitFor) (c : Cmd) : (s.wait w c).linkTx = s.linkTx := rfl
@[simp] theorem State.wait_lk (w : WaitFor) (c : Cmd) : (s.wait w c).lk = s.lk := rfl
@[simp] theorem State.wait_seams (w : WaitFor) (c : Cmd) : (s.wait w c).seams = s.seams := rfl
@[simp] theorem State.wait_legacy (w : WaitFor) (c : Cmd) : (s.wait w c).legacy = s.legacy := rfl
@[simp] theorem State.wait_score (w : WaitFor) (c : Cmd) : (s.wait w c).score = s.score := rfl
@[simp] theorem State.wait_tacks (w : WaitFor) (c : Cmd) : (s.wait w c).tacks = s.tacks := rfl
@[simp] theorem State.wait_books (w : WaitFor) (c : Cmd) : (s.wait w c).books = s.books := rfl
@[simp] theorem State.wait_eth (w : WaitFor) (c : Cmd) : (s.wait w c).eth = s.eth := rfl
@[simp] theorem State.wait_unison (w : WaitFor) (c : Cmd) : (s.wait w c).unison = s.unison := rfl
@[simp] theorem State.wait_arb (w : WaitFor) (c : Cmd) : (s.wait w c).arb = s.arb := rfl
@[simp] theorem State.wait_icu (w : WaitFor) (c : Cmd) : (s.wait w c).icu = s.icu := rfl
@[simp] theorem State.wait_sm (w : WaitFor) (c : Cmd) : (s.wait w c).sm = s.sm := rfl
@[simp] theorem State.wait_tap (w : WaitFor) (c : Cmd) : (s.wait w c).tap = s.tap := rfl
@[simp] theorem State.wait_smb (w : WaitFor) (c : Cmd) : (s.wait w c).smb = s.smb := rfl
@[simp] theorem State.wait_pins (w : WaitFor) (c : Cmd) : (s.wait w c).pins = s.pins := rfl
@[simp] theorem State.wait_fuses (w : WaitFor) (c : Cmd) : (s.wait w c).fuses = s.fuses := rfl
@[simp] theorem State.wait_flash (w : WaitFor) (c : Cmd) : (s.wait w c).flash = s.flash := rfl
@[simp] theorem State.wait_fw (w : WaitFor) (c : Cmd) : (s.wait w c).fw = s.fw := rfl
@[simp] theorem State.wait_pwr (w : WaitFor) (c : Cmd) : (s.wait w c).pwr = s.pwr := rfl
@[simp] theorem State.wait_free (w : WaitFor) (c : Cmd) : (s.wait w c).free = s.free := rfl
@[simp] theorem State.wait_pending (w : WaitFor) (c : Cmd) : (s.wait w c).pending = s.pending := rfl

@[simp] theorem State.readAs_regs (v : Word) : (s.readAs v).regs = s.regs := rfl
@[simp] theorem State.readAs_mem (v : Word) : (s.readAs v).mem = s.mem := rfl
@[simp] theorem State.readAs_tempo (v : Word) : (s.readAs v).tempo = s.tempo := rfl
@[simp] theorem State.readAs_clock (v : Word) : (s.readAs v).clock = s.clock := rfl
@[simp] theorem State.readAs_dieBase (v : Word) : (s.readAs v).dieBase = s.dieBase := rfl
@[simp] theorem State.readAs_aligns (v : Word) : (s.readAs v).aligns = s.aligns := rfl
@[simp] theorem State.readAs_links (v : Word) : (s.readAs v).links = s.links := rfl
@[simp] theorem State.readAs_cond (v : Word) : (s.readAs v).cond = s.cond := rfl
@[simp] theorem State.readAs_patches (v : Word) : (s.readAs v).patches = s.patches := rfl
@[simp] theorem State.readAs_press (v : Word) : (s.readAs v).press = s.press := rfl
@[simp] theorem State.readAs_sects (v : Word) : (s.readAs v).sects = s.sects := rfl
@[simp] theorem State.readAs_queues (v : Word) : (s.readAs v).queues = s.queues := rfl
@[simp] theorem State.readAs_qseq (v : Word) : (s.readAs v).qseq = s.qseq := rfl
@[simp] theorem State.readAs_ports (v : Word) : (s.readAs v).ports = s.ports := rfl
@[simp] theorem State.readAs_linkTx (v : Word) : (s.readAs v).linkTx = s.linkTx := rfl
@[simp] theorem State.readAs_lk (v : Word) : (s.readAs v).lk = s.lk := rfl
@[simp] theorem State.readAs_seams (v : Word) : (s.readAs v).seams = s.seams := rfl
@[simp] theorem State.readAs_legacy (v : Word) : (s.readAs v).legacy = s.legacy := rfl
@[simp] theorem State.readAs_score (v : Word) : (s.readAs v).score = s.score := rfl
@[simp] theorem State.readAs_tacks (v : Word) : (s.readAs v).tacks = s.tacks := rfl
@[simp] theorem State.readAs_books (v : Word) : (s.readAs v).books = s.books := rfl
@[simp] theorem State.readAs_eth (v : Word) : (s.readAs v).eth = s.eth := rfl
@[simp] theorem State.readAs_unison (v : Word) : (s.readAs v).unison = s.unison := rfl
@[simp] theorem State.readAs_arb (v : Word) : (s.readAs v).arb = s.arb := rfl
@[simp] theorem State.readAs_icu (v : Word) : (s.readAs v).icu = s.icu := rfl
@[simp] theorem State.readAs_sm (v : Word) : (s.readAs v).sm = s.sm := rfl
@[simp] theorem State.readAs_tap (v : Word) : (s.readAs v).tap = s.tap := rfl
@[simp] theorem State.readAs_smb (v : Word) : (s.readAs v).smb = s.smb := rfl
@[simp] theorem State.readAs_pins (v : Word) : (s.readAs v).pins = s.pins := rfl
@[simp] theorem State.readAs_fuses (v : Word) : (s.readAs v).fuses = s.fuses := rfl
@[simp] theorem State.readAs_flash (v : Word) : (s.readAs v).flash = s.flash := rfl
@[simp] theorem State.readAs_fw (v : Word) : (s.readAs v).fw = s.fw := rfl
@[simp] theorem State.readAs_pwr (v : Word) : (s.readAs v).pwr = s.pwr := rfl
@[simp] theorem State.readAs_free (v : Word) : (s.readAs v).free = s.free := rfl
@[simp] theorem State.readAs_pending (v : Word) : (s.readAs v).pending = s.pending := rfl

@[simp] theorem State.setPrs_regs (p : Nat) (x : Press) : (s.setPrs p x).regs = s.regs := rfl
@[simp] theorem State.setPrs_mem (p : Nat) (x : Press) : (s.setPrs p x).mem = s.mem := rfl
@[simp] theorem State.setPrs_tempo (p : Nat) (x : Press) : (s.setPrs p x).tempo = s.tempo := rfl
@[simp] theorem State.setPrs_clock (p : Nat) (x : Press) : (s.setPrs p x).clock = s.clock := rfl
@[simp] theorem State.setPrs_dieBase (p : Nat) (x : Press) : (s.setPrs p x).dieBase = s.dieBase := rfl
@[simp] theorem State.setPrs_aligns (p : Nat) (x : Press) : (s.setPrs p x).aligns = s.aligns := rfl
@[simp] theorem State.setPrs_links (p : Nat) (x : Press) : (s.setPrs p x).links = s.links := rfl
@[simp] theorem State.setPrs_cond (p : Nat) (x : Press) : (s.setPrs p x).cond = s.cond := rfl
@[simp] theorem State.setPrs_patches (p : Nat) (x : Press) : (s.setPrs p x).patches = s.patches := rfl
@[simp] theorem State.setPrs_press (p : Nat) (x : Press) : (s.setPrs p x).press = tput {} s.press p x := rfl
@[simp] theorem State.setPrs_sects (p : Nat) (x : Press) : (s.setPrs p x).sects = s.sects := rfl
@[simp] theorem State.setPrs_queues (p : Nat) (x : Press) : (s.setPrs p x).queues = s.queues := rfl
@[simp] theorem State.setPrs_qseq (p : Nat) (x : Press) : (s.setPrs p x).qseq = s.qseq := rfl
@[simp] theorem State.setPrs_ports (p : Nat) (x : Press) : (s.setPrs p x).ports = s.ports := rfl
@[simp] theorem State.setPrs_linkTx (p : Nat) (x : Press) : (s.setPrs p x).linkTx = s.linkTx := rfl
@[simp] theorem State.setPrs_lk (p : Nat) (x : Press) : (s.setPrs p x).lk = s.lk := rfl
@[simp] theorem State.setPrs_seams (p : Nat) (x : Press) : (s.setPrs p x).seams = s.seams := rfl
@[simp] theorem State.setPrs_legacy (p : Nat) (x : Press) : (s.setPrs p x).legacy = s.legacy := rfl
@[simp] theorem State.setPrs_score (p : Nat) (x : Press) : (s.setPrs p x).score = s.score := rfl
@[simp] theorem State.setPrs_tacks (p : Nat) (x : Press) : (s.setPrs p x).tacks = s.tacks := rfl
@[simp] theorem State.setPrs_books (p : Nat) (x : Press) : (s.setPrs p x).books = s.books := rfl
@[simp] theorem State.setPrs_eth (p : Nat) (x : Press) : (s.setPrs p x).eth = s.eth := rfl
@[simp] theorem State.setPrs_unison (p : Nat) (x : Press) : (s.setPrs p x).unison = s.unison := rfl
@[simp] theorem State.setPrs_arb (p : Nat) (x : Press) : (s.setPrs p x).arb = s.arb := rfl
@[simp] theorem State.setPrs_icu (p : Nat) (x : Press) : (s.setPrs p x).icu = s.icu := rfl
@[simp] theorem State.setPrs_front (p : Nat) (x : Press) : (s.setPrs p x).front = s.front := rfl
@[simp] theorem State.setPrs_sm (p : Nat) (x : Press) : (s.setPrs p x).sm = s.sm := rfl
@[simp] theorem State.setPrs_tap (p : Nat) (x : Press) : (s.setPrs p x).tap = s.tap := rfl
@[simp] theorem State.setPrs_smb (p : Nat) (x : Press) : (s.setPrs p x).smb = s.smb := rfl
@[simp] theorem State.setPrs_pins (p : Nat) (x : Press) : (s.setPrs p x).pins = s.pins := rfl
@[simp] theorem State.setPrs_fuses (p : Nat) (x : Press) : (s.setPrs p x).fuses = s.fuses := rfl
@[simp] theorem State.setPrs_flash (p : Nat) (x : Press) : (s.setPrs p x).flash = s.flash := rfl
@[simp] theorem State.setPrs_fw (p : Nat) (x : Press) : (s.setPrs p x).fw = s.fw := rfl
@[simp] theorem State.setPrs_pwr (p : Nat) (x : Press) : (s.setPrs p x).pwr = s.pwr := rfl
@[simp] theorem State.setPrs_free (p : Nat) (x : Press) : (s.setPrs p x).free = s.free := rfl
@[simp] theorem State.setPrs_pending (p : Nat) (x : Press) : (s.setPrs p x).pending = s.pending := rfl

@[simp] theorem State.setSect_regs (p k : Nat) (x : Section) : (s.setSect p k x).regs = s.regs := rfl
@[simp] theorem State.setSect_mem (p k : Nat) (x : Section) : (s.setSect p k x).mem = s.mem := rfl
@[simp] theorem State.setSect_tempo (p k : Nat) (x : Section) : (s.setSect p k x).tempo = s.tempo := rfl
@[simp] theorem State.setSect_clock (p k : Nat) (x : Section) : (s.setSect p k x).clock = s.clock := rfl
@[simp] theorem State.setSect_dieBase (p k : Nat) (x : Section) : (s.setSect p k x).dieBase = s.dieBase := rfl
@[simp] theorem State.setSect_aligns (p k : Nat) (x : Section) : (s.setSect p k x).aligns = s.aligns := rfl
@[simp] theorem State.setSect_links (p k : Nat) (x : Section) : (s.setSect p k x).links = s.links := rfl
@[simp] theorem State.setSect_cond (p k : Nat) (x : Section) : (s.setSect p k x).cond = s.cond := rfl
@[simp] theorem State.setSect_patches (p k : Nat) (x : Section) : (s.setSect p k x).patches = s.patches := rfl
@[simp] theorem State.setSect_press (p k : Nat) (x : Section) : (s.setSect p k x).press = s.press := rfl
@[simp] theorem State.setSect_queues (p k : Nat) (x : Section) : (s.setSect p k x).queues = s.queues := rfl
@[simp] theorem State.setSect_qseq (p k : Nat) (x : Section) : (s.setSect p k x).qseq = s.qseq := rfl
@[simp] theorem State.setSect_ports (p k : Nat) (x : Section) : (s.setSect p k x).ports = s.ports := rfl
@[simp] theorem State.setSect_linkTx (p k : Nat) (x : Section) : (s.setSect p k x).linkTx = s.linkTx := rfl
@[simp] theorem State.setSect_lk (p k : Nat) (x : Section) : (s.setSect p k x).lk = s.lk := rfl
@[simp] theorem State.setSect_seams (p k : Nat) (x : Section) : (s.setSect p k x).seams = s.seams := rfl
@[simp] theorem State.setSect_legacy (p k : Nat) (x : Section) : (s.setSect p k x).legacy = s.legacy := rfl
@[simp] theorem State.setSect_score (p k : Nat) (x : Section) : (s.setSect p k x).score = s.score := rfl
@[simp] theorem State.setSect_tacks (p k : Nat) (x : Section) : (s.setSect p k x).tacks = s.tacks := rfl
@[simp] theorem State.setSect_books (p k : Nat) (x : Section) : (s.setSect p k x).books = s.books := rfl
@[simp] theorem State.setSect_eth (p k : Nat) (x : Section) : (s.setSect p k x).eth = s.eth := rfl
@[simp] theorem State.setSect_unison (p k : Nat) (x : Section) : (s.setSect p k x).unison = s.unison := rfl
@[simp] theorem State.setSect_arb (p k : Nat) (x : Section) : (s.setSect p k x).arb = s.arb := rfl
@[simp] theorem State.setSect_icu (p k : Nat) (x : Section) : (s.setSect p k x).icu = s.icu := rfl
@[simp] theorem State.setSect_front (p k : Nat) (x : Section) : (s.setSect p k x).front = s.front := rfl
@[simp] theorem State.setSect_sm (p k : Nat) (x : Section) : (s.setSect p k x).sm = s.sm := rfl
@[simp] theorem State.setSect_tap (p k : Nat) (x : Section) : (s.setSect p k x).tap = s.tap := rfl
@[simp] theorem State.setSect_smb (p k : Nat) (x : Section) : (s.setSect p k x).smb = s.smb := rfl
@[simp] theorem State.setSect_pins (p k : Nat) (x : Section) : (s.setSect p k x).pins = s.pins := rfl
@[simp] theorem State.setSect_fuses (p k : Nat) (x : Section) : (s.setSect p k x).fuses = s.fuses := rfl
@[simp] theorem State.setSect_flash (p k : Nat) (x : Section) : (s.setSect p k x).flash = s.flash := rfl
@[simp] theorem State.setSect_fw (p k : Nat) (x : Section) : (s.setSect p k x).fw = s.fw := rfl
@[simp] theorem State.setSect_pwr (p k : Nat) (x : Section) : (s.setSect p k x).pwr = s.pwr := rfl
@[simp] theorem State.setSect_free (p k : Nat) (x : Section) : (s.setSect p k x).free = s.free := rfl
@[simp] theorem State.setSect_pending (p k : Nat) (x : Section) : (s.setSect p k x).pending = s.pending := rfl

@[simp] theorem State.setQueue_regs (p q : Nat) (l : List QReq) : (s.setQueue p q l).regs = s.regs := rfl
@[simp] theorem State.setQueue_mem (p q : Nat) (l : List QReq) : (s.setQueue p q l).mem = s.mem := rfl
@[simp] theorem State.setQueue_tempo (p q : Nat) (l : List QReq) : (s.setQueue p q l).tempo = s.tempo := rfl
@[simp] theorem State.setQueue_clock (p q : Nat) (l : List QReq) : (s.setQueue p q l).clock = s.clock := rfl
@[simp] theorem State.setQueue_dieBase (p q : Nat) (l : List QReq) : (s.setQueue p q l).dieBase = s.dieBase := rfl
@[simp] theorem State.setQueue_aligns (p q : Nat) (l : List QReq) : (s.setQueue p q l).aligns = s.aligns := rfl
@[simp] theorem State.setQueue_links (p q : Nat) (l : List QReq) : (s.setQueue p q l).links = s.links := rfl
@[simp] theorem State.setQueue_cond (p q : Nat) (l : List QReq) : (s.setQueue p q l).cond = s.cond := rfl
@[simp] theorem State.setQueue_patches (p q : Nat) (l : List QReq) : (s.setQueue p q l).patches = s.patches := rfl
@[simp] theorem State.setQueue_press (p q : Nat) (l : List QReq) : (s.setQueue p q l).press = s.press := rfl
@[simp] theorem State.setQueue_sects (p q : Nat) (l : List QReq) : (s.setQueue p q l).sects = s.sects := rfl
@[simp] theorem State.setQueue_qseq (p q : Nat) (l : List QReq) : (s.setQueue p q l).qseq = s.qseq := rfl
@[simp] theorem State.setQueue_ports (p q : Nat) (l : List QReq) : (s.setQueue p q l).ports = s.ports := rfl
@[simp] theorem State.setQueue_linkTx (p q : Nat) (l : List QReq) : (s.setQueue p q l).linkTx = s.linkTx := rfl
@[simp] theorem State.setQueue_lk (p q : Nat) (l : List QReq) : (s.setQueue p q l).lk = s.lk := rfl
@[simp] theorem State.setQueue_seams (p q : Nat) (l : List QReq) : (s.setQueue p q l).seams = s.seams := rfl
@[simp] theorem State.setQueue_legacy (p q : Nat) (l : List QReq) : (s.setQueue p q l).legacy = s.legacy := rfl
@[simp] theorem State.setQueue_score (p q : Nat) (l : List QReq) : (s.setQueue p q l).score = s.score := rfl
@[simp] theorem State.setQueue_tacks (p q : Nat) (l : List QReq) : (s.setQueue p q l).tacks = s.tacks := rfl
@[simp] theorem State.setQueue_books (p q : Nat) (l : List QReq) : (s.setQueue p q l).books = s.books := rfl
@[simp] theorem State.setQueue_eth (p q : Nat) (l : List QReq) : (s.setQueue p q l).eth = s.eth := rfl
@[simp] theorem State.setQueue_unison (p q : Nat) (l : List QReq) : (s.setQueue p q l).unison = s.unison := rfl
@[simp] theorem State.setQueue_arb (p q : Nat) (l : List QReq) : (s.setQueue p q l).arb = s.arb := rfl
@[simp] theorem State.setQueue_icu (p q : Nat) (l : List QReq) : (s.setQueue p q l).icu = s.icu := rfl
@[simp] theorem State.setQueue_front (p q : Nat) (l : List QReq) : (s.setQueue p q l).front = s.front := rfl
@[simp] theorem State.setQueue_sm (p q : Nat) (l : List QReq) : (s.setQueue p q l).sm = s.sm := rfl
@[simp] theorem State.setQueue_tap (p q : Nat) (l : List QReq) : (s.setQueue p q l).tap = s.tap := rfl
@[simp] theorem State.setQueue_smb (p q : Nat) (l : List QReq) : (s.setQueue p q l).smb = s.smb := rfl
@[simp] theorem State.setQueue_pins (p q : Nat) (l : List QReq) : (s.setQueue p q l).pins = s.pins := rfl
@[simp] theorem State.setQueue_fuses (p q : Nat) (l : List QReq) : (s.setQueue p q l).fuses = s.fuses := rfl
@[simp] theorem State.setQueue_flash (p q : Nat) (l : List QReq) : (s.setQueue p q l).flash = s.flash := rfl
@[simp] theorem State.setQueue_fw (p q : Nat) (l : List QReq) : (s.setQueue p q l).fw = s.fw := rfl
@[simp] theorem State.setQueue_pwr (p q : Nat) (l : List QReq) : (s.setQueue p q l).pwr = s.pwr := rfl
@[simp] theorem State.setQueue_free (p q : Nat) (l : List QReq) : (s.setQueue p q l).free = s.free := rfl
@[simp] theorem State.setQueue_pending (p q : Nat) (l : List QReq) : (s.setQueue p q l).pending = s.pending := rfl

@[simp] theorem State.setPort_regs (d : Nat) (x : MemPort) : (s.setPort d x).regs = s.regs := rfl
@[simp] theorem State.setPort_mem (d : Nat) (x : MemPort) : (s.setPort d x).mem = s.mem := rfl
@[simp] theorem State.setPort_tempo (d : Nat) (x : MemPort) : (s.setPort d x).tempo = s.tempo := rfl
@[simp] theorem State.setPort_clock (d : Nat) (x : MemPort) : (s.setPort d x).clock = s.clock := rfl
@[simp] theorem State.setPort_dieBase (d : Nat) (x : MemPort) : (s.setPort d x).dieBase = s.dieBase := rfl
@[simp] theorem State.setPort_aligns (d : Nat) (x : MemPort) : (s.setPort d x).aligns = s.aligns := rfl
@[simp] theorem State.setPort_links (d : Nat) (x : MemPort) : (s.setPort d x).links = s.links := rfl
@[simp] theorem State.setPort_cond (d : Nat) (x : MemPort) : (s.setPort d x).cond = s.cond := rfl
@[simp] theorem State.setPort_patches (d : Nat) (x : MemPort) : (s.setPort d x).patches = s.patches := rfl
@[simp] theorem State.setPort_press (d : Nat) (x : MemPort) : (s.setPort d x).press = s.press := rfl
@[simp] theorem State.setPort_sects (d : Nat) (x : MemPort) : (s.setPort d x).sects = s.sects := rfl
@[simp] theorem State.setPort_queues (d : Nat) (x : MemPort) : (s.setPort d x).queues = s.queues := rfl
@[simp] theorem State.setPort_qseq (d : Nat) (x : MemPort) : (s.setPort d x).qseq = s.qseq := rfl
@[simp] theorem State.setPort_ports (d : Nat) (x : MemPort) : (s.setPort d x).ports = tput {} s.ports d x := rfl
@[simp] theorem State.setPort_linkTx (d : Nat) (x : MemPort) : (s.setPort d x).linkTx = s.linkTx := rfl
@[simp] theorem State.setPort_lk (d : Nat) (x : MemPort) : (s.setPort d x).lk = s.lk := rfl
@[simp] theorem State.setPort_seams (d : Nat) (x : MemPort) : (s.setPort d x).seams = s.seams := rfl
@[simp] theorem State.setPort_legacy (d : Nat) (x : MemPort) : (s.setPort d x).legacy = s.legacy := rfl
@[simp] theorem State.setPort_score (d : Nat) (x : MemPort) : (s.setPort d x).score = s.score := rfl
@[simp] theorem State.setPort_tacks (d : Nat) (x : MemPort) : (s.setPort d x).tacks = s.tacks := rfl
@[simp] theorem State.setPort_books (d : Nat) (x : MemPort) : (s.setPort d x).books = s.books := rfl
@[simp] theorem State.setPort_eth (d : Nat) (x : MemPort) : (s.setPort d x).eth = s.eth := rfl
@[simp] theorem State.setPort_unison (d : Nat) (x : MemPort) : (s.setPort d x).unison = s.unison := rfl
@[simp] theorem State.setPort_arb (d : Nat) (x : MemPort) : (s.setPort d x).arb = s.arb := rfl
@[simp] theorem State.setPort_icu (d : Nat) (x : MemPort) : (s.setPort d x).icu = s.icu := rfl
@[simp] theorem State.setPort_front (d : Nat) (x : MemPort) : (s.setPort d x).front = s.front := rfl
@[simp] theorem State.setPort_sm (d : Nat) (x : MemPort) : (s.setPort d x).sm = s.sm := rfl
@[simp] theorem State.setPort_tap (d : Nat) (x : MemPort) : (s.setPort d x).tap = s.tap := rfl
@[simp] theorem State.setPort_smb (d : Nat) (x : MemPort) : (s.setPort d x).smb = s.smb := rfl
@[simp] theorem State.setPort_pins (d : Nat) (x : MemPort) : (s.setPort d x).pins = s.pins := rfl
@[simp] theorem State.setPort_fuses (d : Nat) (x : MemPort) : (s.setPort d x).fuses = s.fuses := rfl
@[simp] theorem State.setPort_flash (d : Nat) (x : MemPort) : (s.setPort d x).flash = s.flash := rfl
@[simp] theorem State.setPort_fw (d : Nat) (x : MemPort) : (s.setPort d x).fw = s.fw := rfl
@[simp] theorem State.setPort_pwr (d : Nat) (x : MemPort) : (s.setPort d x).pwr = s.pwr := rfl
@[simp] theorem State.setPort_free (d : Nat) (x : MemPort) : (s.setPort d x).free = s.free := rfl
@[simp] theorem State.setPort_pending (d : Nat) (x : MemPort) : (s.setPort d x).pending = s.pending := rfl

@[simp] theorem State.setEthPort_regs (p : Nat) (x : EthPort) : (s.setEthPort p x).regs = s.regs := rfl
@[simp] theorem State.setEthPort_mem (p : Nat) (x : EthPort) : (s.setEthPort p x).mem = s.mem := rfl
@[simp] theorem State.setEthPort_tempo (p : Nat) (x : EthPort) : (s.setEthPort p x).tempo = s.tempo := rfl
@[simp] theorem State.setEthPort_clock (p : Nat) (x : EthPort) : (s.setEthPort p x).clock = s.clock := rfl
@[simp] theorem State.setEthPort_dieBase (p : Nat) (x : EthPort) : (s.setEthPort p x).dieBase = s.dieBase := rfl
@[simp] theorem State.setEthPort_aligns (p : Nat) (x : EthPort) : (s.setEthPort p x).aligns = s.aligns := rfl
@[simp] theorem State.setEthPort_links (p : Nat) (x : EthPort) : (s.setEthPort p x).links = s.links := rfl
@[simp] theorem State.setEthPort_cond (p : Nat) (x : EthPort) : (s.setEthPort p x).cond = s.cond := rfl
@[simp] theorem State.setEthPort_patches (p : Nat) (x : EthPort) : (s.setEthPort p x).patches = s.patches := rfl
@[simp] theorem State.setEthPort_press (p : Nat) (x : EthPort) : (s.setEthPort p x).press = s.press := rfl
@[simp] theorem State.setEthPort_sects (p : Nat) (x : EthPort) : (s.setEthPort p x).sects = s.sects := rfl
@[simp] theorem State.setEthPort_queues (p : Nat) (x : EthPort) : (s.setEthPort p x).queues = s.queues := rfl
@[simp] theorem State.setEthPort_qseq (p : Nat) (x : EthPort) : (s.setEthPort p x).qseq = s.qseq := rfl
@[simp] theorem State.setEthPort_ports (p : Nat) (x : EthPort) : (s.setEthPort p x).ports = s.ports := rfl
@[simp] theorem State.setEthPort_linkTx (p : Nat) (x : EthPort) : (s.setEthPort p x).linkTx = s.linkTx := rfl
@[simp] theorem State.setEthPort_lk (p : Nat) (x : EthPort) : (s.setEthPort p x).lk = s.lk := rfl
@[simp] theorem State.setEthPort_seams (p : Nat) (x : EthPort) : (s.setEthPort p x).seams = s.seams := rfl
@[simp] theorem State.setEthPort_legacy (p : Nat) (x : EthPort) : (s.setEthPort p x).legacy = s.legacy := rfl
@[simp] theorem State.setEthPort_score (p : Nat) (x : EthPort) : (s.setEthPort p x).score = s.score := rfl
@[simp] theorem State.setEthPort_tacks (p : Nat) (x : EthPort) : (s.setEthPort p x).tacks = s.tacks := rfl
@[simp] theorem State.setEthPort_books (p : Nat) (x : EthPort) : (s.setEthPort p x).books = s.books := rfl
@[simp] theorem State.setEthPort_unison (p : Nat) (x : EthPort) : (s.setEthPort p x).unison = s.unison := rfl
@[simp] theorem State.setEthPort_arb (p : Nat) (x : EthPort) : (s.setEthPort p x).arb = s.arb := rfl
@[simp] theorem State.setEthPort_icu (p : Nat) (x : EthPort) : (s.setEthPort p x).icu = s.icu := rfl
@[simp] theorem State.setEthPort_front (p : Nat) (x : EthPort) : (s.setEthPort p x).front = s.front := rfl
@[simp] theorem State.setEthPort_sm (p : Nat) (x : EthPort) : (s.setEthPort p x).sm = s.sm := rfl
@[simp] theorem State.setEthPort_tap (p : Nat) (x : EthPort) : (s.setEthPort p x).tap = s.tap := rfl
@[simp] theorem State.setEthPort_smb (p : Nat) (x : EthPort) : (s.setEthPort p x).smb = s.smb := rfl
@[simp] theorem State.setEthPort_pins (p : Nat) (x : EthPort) : (s.setEthPort p x).pins = s.pins := rfl
@[simp] theorem State.setEthPort_fuses (p : Nat) (x : EthPort) : (s.setEthPort p x).fuses = s.fuses := rfl
@[simp] theorem State.setEthPort_flash (p : Nat) (x : EthPort) : (s.setEthPort p x).flash = s.flash := rfl
@[simp] theorem State.setEthPort_fw (p : Nat) (x : EthPort) : (s.setEthPort p x).fw = s.fw := rfl
@[simp] theorem State.setEthPort_pwr (p : Nat) (x : EthPort) : (s.setEthPort p x).pwr = s.pwr := rfl
@[simp] theorem State.setEthPort_free (p : Nat) (x : EthPort) : (s.setEthPort p x).free = s.free := rfl
@[simp] theorem State.setEthPort_pending (p : Nat) (x : EthPort) : (s.setEthPort p x).pending = s.pending := rfl

@[simp] theorem State.setEthQueue_regs (q : Nat) (x : EthQueue) : (s.setEthQueue q x).regs = s.regs := rfl
@[simp] theorem State.setEthQueue_mem (q : Nat) (x : EthQueue) : (s.setEthQueue q x).mem = s.mem := rfl
@[simp] theorem State.setEthQueue_tempo (q : Nat) (x : EthQueue) : (s.setEthQueue q x).tempo = s.tempo := rfl
@[simp] theorem State.setEthQueue_clock (q : Nat) (x : EthQueue) : (s.setEthQueue q x).clock = s.clock := rfl
@[simp] theorem State.setEthQueue_dieBase (q : Nat) (x : EthQueue) : (s.setEthQueue q x).dieBase = s.dieBase := rfl
@[simp] theorem State.setEthQueue_aligns (q : Nat) (x : EthQueue) : (s.setEthQueue q x).aligns = s.aligns := rfl
@[simp] theorem State.setEthQueue_links (q : Nat) (x : EthQueue) : (s.setEthQueue q x).links = s.links := rfl
@[simp] theorem State.setEthQueue_cond (q : Nat) (x : EthQueue) : (s.setEthQueue q x).cond = s.cond := rfl
@[simp] theorem State.setEthQueue_patches (q : Nat) (x : EthQueue) : (s.setEthQueue q x).patches = s.patches := rfl
@[simp] theorem State.setEthQueue_press (q : Nat) (x : EthQueue) : (s.setEthQueue q x).press = s.press := rfl
@[simp] theorem State.setEthQueue_sects (q : Nat) (x : EthQueue) : (s.setEthQueue q x).sects = s.sects := rfl
@[simp] theorem State.setEthQueue_queues (q : Nat) (x : EthQueue) : (s.setEthQueue q x).queues = s.queues := rfl
@[simp] theorem State.setEthQueue_qseq (q : Nat) (x : EthQueue) : (s.setEthQueue q x).qseq = s.qseq := rfl
@[simp] theorem State.setEthQueue_ports (q : Nat) (x : EthQueue) : (s.setEthQueue q x).ports = s.ports := rfl
@[simp] theorem State.setEthQueue_linkTx (q : Nat) (x : EthQueue) : (s.setEthQueue q x).linkTx = s.linkTx := rfl
@[simp] theorem State.setEthQueue_lk (q : Nat) (x : EthQueue) : (s.setEthQueue q x).lk = s.lk := rfl
@[simp] theorem State.setEthQueue_seams (q : Nat) (x : EthQueue) : (s.setEthQueue q x).seams = s.seams := rfl
@[simp] theorem State.setEthQueue_legacy (q : Nat) (x : EthQueue) : (s.setEthQueue q x).legacy = s.legacy := rfl
@[simp] theorem State.setEthQueue_score (q : Nat) (x : EthQueue) : (s.setEthQueue q x).score = s.score := rfl
@[simp] theorem State.setEthQueue_tacks (q : Nat) (x : EthQueue) : (s.setEthQueue q x).tacks = s.tacks := rfl
@[simp] theorem State.setEthQueue_books (q : Nat) (x : EthQueue) : (s.setEthQueue q x).books = s.books := rfl
@[simp] theorem State.setEthQueue_unison (q : Nat) (x : EthQueue) : (s.setEthQueue q x).unison = s.unison := rfl
@[simp] theorem State.setEthQueue_arb (q : Nat) (x : EthQueue) : (s.setEthQueue q x).arb = s.arb := rfl
@[simp] theorem State.setEthQueue_icu (q : Nat) (x : EthQueue) : (s.setEthQueue q x).icu = s.icu := rfl
@[simp] theorem State.setEthQueue_front (q : Nat) (x : EthQueue) : (s.setEthQueue q x).front = s.front := rfl
@[simp] theorem State.setEthQueue_sm (q : Nat) (x : EthQueue) : (s.setEthQueue q x).sm = s.sm := rfl
@[simp] theorem State.setEthQueue_tap (q : Nat) (x : EthQueue) : (s.setEthQueue q x).tap = s.tap := rfl
@[simp] theorem State.setEthQueue_smb (q : Nat) (x : EthQueue) : (s.setEthQueue q x).smb = s.smb := rfl
@[simp] theorem State.setEthQueue_pins (q : Nat) (x : EthQueue) : (s.setEthQueue q x).pins = s.pins := rfl
@[simp] theorem State.setEthQueue_fuses (q : Nat) (x : EthQueue) : (s.setEthQueue q x).fuses = s.fuses := rfl
@[simp] theorem State.setEthQueue_flash (q : Nat) (x : EthQueue) : (s.setEthQueue q x).flash = s.flash := rfl
@[simp] theorem State.setEthQueue_fw (q : Nat) (x : EthQueue) : (s.setEthQueue q x).fw = s.fw := rfl
@[simp] theorem State.setEthQueue_pwr (q : Nat) (x : EthQueue) : (s.setEthQueue q x).pwr = s.pwr := rfl
@[simp] theorem State.setEthQueue_free (q : Nat) (x : EthQueue) : (s.setEthQueue q x).free = s.free := rfl
@[simp] theorem State.setEthQueue_pending (q : Nat) (x : EthQueue) : (s.setEthQueue q x).pending = s.pending := rfl

@[simp] theorem State.ethOut_regs (o : EthOut) : (s.ethOut o).regs = s.regs := rfl
@[simp] theorem State.ethOut_mem (o : EthOut) : (s.ethOut o).mem = s.mem := rfl
@[simp] theorem State.ethOut_tempo (o : EthOut) : (s.ethOut o).tempo = s.tempo := rfl
@[simp] theorem State.ethOut_clock (o : EthOut) : (s.ethOut o).clock = s.clock := rfl
@[simp] theorem State.ethOut_dieBase (o : EthOut) : (s.ethOut o).dieBase = s.dieBase := rfl
@[simp] theorem State.ethOut_aligns (o : EthOut) : (s.ethOut o).aligns = s.aligns := rfl
@[simp] theorem State.ethOut_links (o : EthOut) : (s.ethOut o).links = s.links := rfl
@[simp] theorem State.ethOut_cond (o : EthOut) : (s.ethOut o).cond = s.cond := rfl
@[simp] theorem State.ethOut_patches (o : EthOut) : (s.ethOut o).patches = s.patches := rfl
@[simp] theorem State.ethOut_press (o : EthOut) : (s.ethOut o).press = s.press := rfl
@[simp] theorem State.ethOut_sects (o : EthOut) : (s.ethOut o).sects = s.sects := rfl
@[simp] theorem State.ethOut_queues (o : EthOut) : (s.ethOut o).queues = s.queues := rfl
@[simp] theorem State.ethOut_qseq (o : EthOut) : (s.ethOut o).qseq = s.qseq := rfl
@[simp] theorem State.ethOut_ports (o : EthOut) : (s.ethOut o).ports = s.ports := rfl
@[simp] theorem State.ethOut_linkTx (o : EthOut) : (s.ethOut o).linkTx = s.linkTx := rfl
@[simp] theorem State.ethOut_lk (o : EthOut) : (s.ethOut o).lk = s.lk := rfl
@[simp] theorem State.ethOut_seams (o : EthOut) : (s.ethOut o).seams = s.seams := rfl
@[simp] theorem State.ethOut_legacy (o : EthOut) : (s.ethOut o).legacy = s.legacy := rfl
@[simp] theorem State.ethOut_score (o : EthOut) : (s.ethOut o).score = s.score := rfl
@[simp] theorem State.ethOut_tacks (o : EthOut) : (s.ethOut o).tacks = s.tacks := rfl
@[simp] theorem State.ethOut_books (o : EthOut) : (s.ethOut o).books = s.books := rfl
@[simp] theorem State.ethOut_unison (o : EthOut) : (s.ethOut o).unison = s.unison := rfl
@[simp] theorem State.ethOut_arb (o : EthOut) : (s.ethOut o).arb = s.arb := rfl
@[simp] theorem State.ethOut_icu (o : EthOut) : (s.ethOut o).icu = s.icu := rfl
@[simp] theorem State.ethOut_front (o : EthOut) : (s.ethOut o).front = s.front := rfl
@[simp] theorem State.ethOut_sm (o : EthOut) : (s.ethOut o).sm = s.sm := rfl
@[simp] theorem State.ethOut_tap (o : EthOut) : (s.ethOut o).tap = s.tap := rfl
@[simp] theorem State.ethOut_smb (o : EthOut) : (s.ethOut o).smb = s.smb := rfl
@[simp] theorem State.ethOut_pins (o : EthOut) : (s.ethOut o).pins = s.pins := rfl
@[simp] theorem State.ethOut_fuses (o : EthOut) : (s.ethOut o).fuses = s.fuses := rfl
@[simp] theorem State.ethOut_flash (o : EthOut) : (s.ethOut o).flash = s.flash := rfl
@[simp] theorem State.ethOut_fw (o : EthOut) : (s.ethOut o).fw = s.fw := rfl
@[simp] theorem State.ethOut_pwr (o : EthOut) : (s.ethOut o).pwr = s.pwr := rfl
@[simp] theorem State.ethOut_free (o : EthOut) : (s.ethOut o).free = s.free := rfl
@[simp] theorem State.ethOut_pending (o : EthOut) : (s.ethOut o).pending = s.pending := rfl

@[simp] theorem State.setTarget_regs (t : Nat) (x : Target) : (s.setTarget t x).regs = s.regs := rfl
@[simp] theorem State.setTarget_mem (t : Nat) (x : Target) : (s.setTarget t x).mem = s.mem := rfl
@[simp] theorem State.setTarget_tempo (t : Nat) (x : Target) : (s.setTarget t x).tempo = s.tempo := rfl
@[simp] theorem State.setTarget_clock (t : Nat) (x : Target) : (s.setTarget t x).clock = s.clock := rfl
@[simp] theorem State.setTarget_dieBase (t : Nat) (x : Target) : (s.setTarget t x).dieBase = s.dieBase := rfl
@[simp] theorem State.setTarget_aligns (t : Nat) (x : Target) : (s.setTarget t x).aligns = s.aligns := rfl
@[simp] theorem State.setTarget_links (t : Nat) (x : Target) : (s.setTarget t x).links = s.links := rfl
@[simp] theorem State.setTarget_cond (t : Nat) (x : Target) : (s.setTarget t x).cond = s.cond := rfl
@[simp] theorem State.setTarget_patches (t : Nat) (x : Target) : (s.setTarget t x).patches = s.patches := rfl
@[simp] theorem State.setTarget_press (t : Nat) (x : Target) : (s.setTarget t x).press = s.press := rfl
@[simp] theorem State.setTarget_sects (t : Nat) (x : Target) : (s.setTarget t x).sects = s.sects := rfl
@[simp] theorem State.setTarget_queues (t : Nat) (x : Target) : (s.setTarget t x).queues = s.queues := rfl
@[simp] theorem State.setTarget_qseq (t : Nat) (x : Target) : (s.setTarget t x).qseq = s.qseq := rfl
@[simp] theorem State.setTarget_ports (t : Nat) (x : Target) : (s.setTarget t x).ports = s.ports := rfl
@[simp] theorem State.setTarget_linkTx (t : Nat) (x : Target) : (s.setTarget t x).linkTx = s.linkTx := rfl
@[simp] theorem State.setTarget_lk (t : Nat) (x : Target) : (s.setTarget t x).lk = s.lk := rfl
@[simp] theorem State.setTarget_seams (t : Nat) (x : Target) : (s.setTarget t x).seams = s.seams := rfl
@[simp] theorem State.setTarget_legacy (t : Nat) (x : Target) : (s.setTarget t x).legacy = s.legacy := rfl
@[simp] theorem State.setTarget_score (t : Nat) (x : Target) : (s.setTarget t x).score = s.score := rfl
@[simp] theorem State.setTarget_tacks (t : Nat) (x : Target) : (s.setTarget t x).tacks = s.tacks := rfl
@[simp] theorem State.setTarget_books (t : Nat) (x : Target) : (s.setTarget t x).books = s.books := rfl
@[simp] theorem State.setTarget_eth (t : Nat) (x : Target) : (s.setTarget t x).eth = s.eth := rfl
@[simp] theorem State.setTarget_unison (t : Nat) (x : Target) : (s.setTarget t x).unison = s.unison := rfl
@[simp] theorem State.setTarget_arb (t : Nat) (x : Target) : (s.setTarget t x).arb = s.arb := rfl
@[simp] theorem State.setTarget_front (t : Nat) (x : Target) : (s.setTarget t x).front = s.front := rfl
@[simp] theorem State.setTarget_sm (t : Nat) (x : Target) : (s.setTarget t x).sm = s.sm := rfl
@[simp] theorem State.setTarget_tap (t : Nat) (x : Target) : (s.setTarget t x).tap = s.tap := rfl
@[simp] theorem State.setTarget_smb (t : Nat) (x : Target) : (s.setTarget t x).smb = s.smb := rfl
@[simp] theorem State.setTarget_pins (t : Nat) (x : Target) : (s.setTarget t x).pins = s.pins := rfl
@[simp] theorem State.setTarget_fuses (t : Nat) (x : Target) : (s.setTarget t x).fuses = s.fuses := rfl
@[simp] theorem State.setTarget_flash (t : Nat) (x : Target) : (s.setTarget t x).flash = s.flash := rfl
@[simp] theorem State.setTarget_fw (t : Nat) (x : Target) : (s.setTarget t x).fw = s.fw := rfl
@[simp] theorem State.setTarget_pwr (t : Nat) (x : Target) : (s.setTarget t x).pwr = s.pwr := rfl
@[simp] theorem State.setTarget_free (t : Nat) (x : Target) : (s.setTarget t x).free = s.free := rfl
@[simp] theorem State.setTarget_pending (t : Nat) (x : Target) : (s.setTarget t x).pending = s.pending := rfl

@[simp] theorem State.setLnkDyn_regs (l : Nat) (x : LinkDyn) : (s.setLnkDyn l x).regs = s.regs := rfl
@[simp] theorem State.setLnkDyn_mem (l : Nat) (x : LinkDyn) : (s.setLnkDyn l x).mem = s.mem := rfl
@[simp] theorem State.setLnkDyn_tempo (l : Nat) (x : LinkDyn) : (s.setLnkDyn l x).tempo = s.tempo := rfl
@[simp] theorem State.setLnkDyn_clock (l : Nat) (x : LinkDyn) : (s.setLnkDyn l x).clock = s.clock := rfl
@[simp] theorem State.setLnkDyn_dieBase (l : Nat) (x : LinkDyn) : (s.setLnkDyn l x).dieBase = s.dieBase := rfl
@[simp] theorem State.setLnkDyn_aligns (l : Nat) (x : LinkDyn) : (s.setLnkDyn l x).aligns = s.aligns := rfl
@[simp] theorem State.setLnkDyn_links (l : Nat) (x : LinkDyn) : (s.setLnkDyn l x).links = s.links := rfl
@[simp] theorem State.setLnkDyn_cond (l : Nat) (x : LinkDyn) : (s.setLnkDyn l x).cond = s.cond := rfl
@[simp] theorem State.setLnkDyn_patches (l : Nat) (x : LinkDyn) : (s.setLnkDyn l x).patches = s.patches := rfl
@[simp] theorem State.setLnkDyn_press (l : Nat) (x : LinkDyn) : (s.setLnkDyn l x).press = s.press := rfl
@[simp] theorem State.setLnkDyn_sects (l : Nat) (x : LinkDyn) : (s.setLnkDyn l x).sects = s.sects := rfl
@[simp] theorem State.setLnkDyn_queues (l : Nat) (x : LinkDyn) : (s.setLnkDyn l x).queues = s.queues := rfl
@[simp] theorem State.setLnkDyn_qseq (l : Nat) (x : LinkDyn) : (s.setLnkDyn l x).qseq = s.qseq := rfl
@[simp] theorem State.setLnkDyn_ports (l : Nat) (x : LinkDyn) : (s.setLnkDyn l x).ports = s.ports := rfl
@[simp] theorem State.setLnkDyn_linkTx (l : Nat) (x : LinkDyn) : (s.setLnkDyn l x).linkTx = s.linkTx := rfl
@[simp] theorem State.setLnkDyn_lk (l : Nat) (x : LinkDyn) : (s.setLnkDyn l x).lk = tput {} s.lk l x := rfl
@[simp] theorem State.setLnkDyn_seams (l : Nat) (x : LinkDyn) : (s.setLnkDyn l x).seams = s.seams := rfl
@[simp] theorem State.setLnkDyn_legacy (l : Nat) (x : LinkDyn) : (s.setLnkDyn l x).legacy = s.legacy := rfl
@[simp] theorem State.setLnkDyn_score (l : Nat) (x : LinkDyn) : (s.setLnkDyn l x).score = s.score := rfl
@[simp] theorem State.setLnkDyn_tacks (l : Nat) (x : LinkDyn) : (s.setLnkDyn l x).tacks = s.tacks := rfl
@[simp] theorem State.setLnkDyn_books (l : Nat) (x : LinkDyn) : (s.setLnkDyn l x).books = s.books := rfl
@[simp] theorem State.setLnkDyn_eth (l : Nat) (x : LinkDyn) : (s.setLnkDyn l x).eth = s.eth := rfl
@[simp] theorem State.setLnkDyn_unison (l : Nat) (x : LinkDyn) : (s.setLnkDyn l x).unison = s.unison := rfl
@[simp] theorem State.setLnkDyn_arb (l : Nat) (x : LinkDyn) : (s.setLnkDyn l x).arb = s.arb := rfl
@[simp] theorem State.setLnkDyn_icu (l : Nat) (x : LinkDyn) : (s.setLnkDyn l x).icu = s.icu := rfl
@[simp] theorem State.setLnkDyn_front (l : Nat) (x : LinkDyn) : (s.setLnkDyn l x).front = s.front := rfl
@[simp] theorem State.setLnkDyn_sm (l : Nat) (x : LinkDyn) : (s.setLnkDyn l x).sm = s.sm := rfl
@[simp] theorem State.setLnkDyn_tap (l : Nat) (x : LinkDyn) : (s.setLnkDyn l x).tap = s.tap := rfl
@[simp] theorem State.setLnkDyn_smb (l : Nat) (x : LinkDyn) : (s.setLnkDyn l x).smb = s.smb := rfl
@[simp] theorem State.setLnkDyn_pins (l : Nat) (x : LinkDyn) : (s.setLnkDyn l x).pins = s.pins := rfl
@[simp] theorem State.setLnkDyn_fuses (l : Nat) (x : LinkDyn) : (s.setLnkDyn l x).fuses = s.fuses := rfl
@[simp] theorem State.setLnkDyn_flash (l : Nat) (x : LinkDyn) : (s.setLnkDyn l x).flash = s.flash := rfl
@[simp] theorem State.setLnkDyn_fw (l : Nat) (x : LinkDyn) : (s.setLnkDyn l x).fw = s.fw := rfl
@[simp] theorem State.setLnkDyn_pwr (l : Nat) (x : LinkDyn) : (s.setLnkDyn l x).pwr = s.pwr := rfl
@[simp] theorem State.setLnkDyn_free (l : Nat) (x : LinkDyn) : (s.setLnkDyn l x).free = s.free := rfl
@[simp] theorem State.setLnkDyn_pending (l : Nat) (x : LinkDyn) : (s.setLnkDyn l x).pending = s.pending := rfl

@[simp] theorem State.setSeamDyn_regs (d q : Nat) (x : SeamDyn) : (s.setSeamDyn d q x).regs = s.regs := rfl
@[simp] theorem State.setSeamDyn_mem (d q : Nat) (x : SeamDyn) : (s.setSeamDyn d q x).mem = s.mem := rfl
@[simp] theorem State.setSeamDyn_tempo (d q : Nat) (x : SeamDyn) : (s.setSeamDyn d q x).tempo = s.tempo := rfl
@[simp] theorem State.setSeamDyn_clock (d q : Nat) (x : SeamDyn) : (s.setSeamDyn d q x).clock = s.clock := rfl
@[simp] theorem State.setSeamDyn_dieBase (d q : Nat) (x : SeamDyn) : (s.setSeamDyn d q x).dieBase = s.dieBase := rfl
@[simp] theorem State.setSeamDyn_aligns (d q : Nat) (x : SeamDyn) : (s.setSeamDyn d q x).aligns = s.aligns := rfl
@[simp] theorem State.setSeamDyn_links (d q : Nat) (x : SeamDyn) : (s.setSeamDyn d q x).links = s.links := rfl
@[simp] theorem State.setSeamDyn_cond (d q : Nat) (x : SeamDyn) : (s.setSeamDyn d q x).cond = s.cond := rfl
@[simp] theorem State.setSeamDyn_patches (d q : Nat) (x : SeamDyn) : (s.setSeamDyn d q x).patches = s.patches := rfl
@[simp] theorem State.setSeamDyn_press (d q : Nat) (x : SeamDyn) : (s.setSeamDyn d q x).press = s.press := rfl
@[simp] theorem State.setSeamDyn_sects (d q : Nat) (x : SeamDyn) : (s.setSeamDyn d q x).sects = s.sects := rfl
@[simp] theorem State.setSeamDyn_queues (d q : Nat) (x : SeamDyn) : (s.setSeamDyn d q x).queues = s.queues := rfl
@[simp] theorem State.setSeamDyn_qseq (d q : Nat) (x : SeamDyn) : (s.setSeamDyn d q x).qseq = s.qseq := rfl
@[simp] theorem State.setSeamDyn_ports (d q : Nat) (x : SeamDyn) : (s.setSeamDyn d q x).ports = s.ports := rfl
@[simp] theorem State.setSeamDyn_linkTx (d q : Nat) (x : SeamDyn) : (s.setSeamDyn d q x).linkTx = s.linkTx := rfl
@[simp] theorem State.setSeamDyn_lk (d q : Nat) (x : SeamDyn) : (s.setSeamDyn d q x).lk = s.lk := rfl
@[simp] theorem State.setSeamDyn_seams (d q : Nat) (x : SeamDyn) : (s.setSeamDyn d q x).seams = tput {} s.seams (4 * d + q) x := rfl
@[simp] theorem State.setSeamDyn_legacy (d q : Nat) (x : SeamDyn) : (s.setSeamDyn d q x).legacy = s.legacy := rfl
@[simp] theorem State.setSeamDyn_score (d q : Nat) (x : SeamDyn) : (s.setSeamDyn d q x).score = s.score := rfl
@[simp] theorem State.setSeamDyn_tacks (d q : Nat) (x : SeamDyn) : (s.setSeamDyn d q x).tacks = s.tacks := rfl
@[simp] theorem State.setSeamDyn_books (d q : Nat) (x : SeamDyn) : (s.setSeamDyn d q x).books = s.books := rfl
@[simp] theorem State.setSeamDyn_eth (d q : Nat) (x : SeamDyn) : (s.setSeamDyn d q x).eth = s.eth := rfl
@[simp] theorem State.setSeamDyn_unison (d q : Nat) (x : SeamDyn) : (s.setSeamDyn d q x).unison = s.unison := rfl
@[simp] theorem State.setSeamDyn_arb (d q : Nat) (x : SeamDyn) : (s.setSeamDyn d q x).arb = s.arb := rfl
@[simp] theorem State.setSeamDyn_icu (d q : Nat) (x : SeamDyn) : (s.setSeamDyn d q x).icu = s.icu := rfl
@[simp] theorem State.setSeamDyn_front (d q : Nat) (x : SeamDyn) : (s.setSeamDyn d q x).front = s.front := rfl
@[simp] theorem State.setSeamDyn_sm (d q : Nat) (x : SeamDyn) : (s.setSeamDyn d q x).sm = s.sm := rfl
@[simp] theorem State.setSeamDyn_tap (d q : Nat) (x : SeamDyn) : (s.setSeamDyn d q x).tap = s.tap := rfl
@[simp] theorem State.setSeamDyn_smb (d q : Nat) (x : SeamDyn) : (s.setSeamDyn d q x).smb = s.smb := rfl
@[simp] theorem State.setSeamDyn_pins (d q : Nat) (x : SeamDyn) : (s.setSeamDyn d q x).pins = s.pins := rfl
@[simp] theorem State.setSeamDyn_fuses (d q : Nat) (x : SeamDyn) : (s.setSeamDyn d q x).fuses = s.fuses := rfl
@[simp] theorem State.setSeamDyn_flash (d q : Nat) (x : SeamDyn) : (s.setSeamDyn d q x).flash = s.flash := rfl
@[simp] theorem State.setSeamDyn_fw (d q : Nat) (x : SeamDyn) : (s.setSeamDyn d q x).fw = s.fw := rfl
@[simp] theorem State.setSeamDyn_pwr (d q : Nat) (x : SeamDyn) : (s.setSeamDyn d q x).pwr = s.pwr := rfl
@[simp] theorem State.setSeamDyn_free (d q : Nat) (x : SeamDyn) : (s.setSeamDyn d q x).free = s.free := rfl
@[simp] theorem State.setSeamDyn_pending (d q : Nat) (x : SeamDyn) : (s.setSeamDyn d q x).pending = s.pending := rfl

@[simp] theorem State.setLinkState_mem (l st : Nat) : (s.setLinkState l st).mem = s.mem := rfl
@[simp] theorem State.setLinkState_tempo (l st : Nat) : (s.setLinkState l st).tempo = s.tempo := rfl
@[simp] theorem State.setLinkState_clock (l st : Nat) : (s.setLinkState l st).clock = s.clock := rfl
@[simp] theorem State.setLinkState_dieBase (l st : Nat) : (s.setLinkState l st).dieBase = s.dieBase := rfl
@[simp] theorem State.setLinkState_aligns (l st : Nat) : (s.setLinkState l st).aligns = s.aligns := rfl
@[simp] theorem State.setLinkState_links (l st : Nat) : (s.setLinkState l st).links = s.links := rfl
@[simp] theorem State.setLinkState_cond (l st : Nat) : (s.setLinkState l st).cond = s.cond := rfl
@[simp] theorem State.setLinkState_patches (l st : Nat) : (s.setLinkState l st).patches = s.patches := rfl
@[simp] theorem State.setLinkState_press (l st : Nat) : (s.setLinkState l st).press = s.press := rfl
@[simp] theorem State.setLinkState_sects (l st : Nat) : (s.setLinkState l st).sects = s.sects := rfl
@[simp] theorem State.setLinkState_queues (l st : Nat) : (s.setLinkState l st).queues = s.queues := rfl
@[simp] theorem State.setLinkState_qseq (l st : Nat) : (s.setLinkState l st).qseq = s.qseq := rfl
@[simp] theorem State.setLinkState_ports (l st : Nat) : (s.setLinkState l st).ports = s.ports := rfl
@[simp] theorem State.setLinkState_linkTx (l st : Nat) : (s.setLinkState l st).linkTx = s.linkTx := rfl
@[simp] theorem State.setLinkState_lk (l st : Nat) : (s.setLinkState l st).lk = s.lk := rfl
@[simp] theorem State.setLinkState_seams (l st : Nat) : (s.setLinkState l st).seams = s.seams := rfl
@[simp] theorem State.setLinkState_legacy (l st : Nat) : (s.setLinkState l st).legacy = s.legacy := rfl
@[simp] theorem State.setLinkState_score (l st : Nat) : (s.setLinkState l st).score = s.score := rfl
@[simp] theorem State.setLinkState_tacks (l st : Nat) : (s.setLinkState l st).tacks = s.tacks := rfl
@[simp] theorem State.setLinkState_books (l st : Nat) : (s.setLinkState l st).books = s.books := rfl
@[simp] theorem State.setLinkState_eth (l st : Nat) : (s.setLinkState l st).eth = s.eth := rfl
@[simp] theorem State.setLinkState_unison (l st : Nat) : (s.setLinkState l st).unison = s.unison := rfl
@[simp] theorem State.setLinkState_arb (l st : Nat) : (s.setLinkState l st).arb = s.arb := rfl
@[simp] theorem State.setLinkState_icu (l st : Nat) : (s.setLinkState l st).icu = s.icu := rfl
@[simp] theorem State.setLinkState_front (l st : Nat) : (s.setLinkState l st).front = s.front := rfl
@[simp] theorem State.setLinkState_sm (l st : Nat) : (s.setLinkState l st).sm = s.sm := rfl
@[simp] theorem State.setLinkState_tap (l st : Nat) : (s.setLinkState l st).tap = s.tap := rfl
@[simp] theorem State.setLinkState_smb (l st : Nat) : (s.setLinkState l st).smb = s.smb := rfl
@[simp] theorem State.setLinkState_pins (l st : Nat) : (s.setLinkState l st).pins = s.pins := rfl
@[simp] theorem State.setLinkState_fuses (l st : Nat) : (s.setLinkState l st).fuses = s.fuses := rfl
@[simp] theorem State.setLinkState_flash (l st : Nat) : (s.setLinkState l st).flash = s.flash := rfl
@[simp] theorem State.setLinkState_fw (l st : Nat) : (s.setLinkState l st).fw = s.fw := rfl
@[simp] theorem State.setLinkState_pwr (l st : Nat) : (s.setLinkState l st).pwr = s.pwr := rfl
@[simp] theorem State.setLinkState_free (l st : Nat) : (s.setLinkState l st).free = s.free := rfl
@[simp] theorem State.setLinkState_pending (l st : Nat) : (s.setLinkState l st).pending = s.pending := rfl

@[simp] theorem State.setJob_regs (u : Nat) (n : Option Nat) : (s.setJob u n).regs = s.regs := rfl
@[simp] theorem State.setJob_mem (u : Nat) (n : Option Nat) : (s.setJob u n).mem = s.mem := rfl
@[simp] theorem State.setJob_tempo (u : Nat) (n : Option Nat) : (s.setJob u n).tempo = s.tempo := rfl
@[simp] theorem State.setJob_clock (u : Nat) (n : Option Nat) : (s.setJob u n).clock = s.clock := rfl
@[simp] theorem State.setJob_dieBase (u : Nat) (n : Option Nat) : (s.setJob u n).dieBase = s.dieBase := rfl
@[simp] theorem State.setJob_aligns (u : Nat) (n : Option Nat) : (s.setJob u n).aligns = s.aligns := rfl
@[simp] theorem State.setJob_links (u : Nat) (n : Option Nat) : (s.setJob u n).links = s.links := rfl
@[simp] theorem State.setJob_cond (u : Nat) (n : Option Nat) : (s.setJob u n).cond = s.cond := rfl
@[simp] theorem State.setJob_patches (u : Nat) (n : Option Nat) : (s.setJob u n).patches = s.patches := rfl
@[simp] theorem State.setJob_press (u : Nat) (n : Option Nat) : (s.setJob u n).press = s.press := rfl
@[simp] theorem State.setJob_sects (u : Nat) (n : Option Nat) : (s.setJob u n).sects = s.sects := rfl
@[simp] theorem State.setJob_queues (u : Nat) (n : Option Nat) : (s.setJob u n).queues = s.queues := rfl
@[simp] theorem State.setJob_qseq (u : Nat) (n : Option Nat) : (s.setJob u n).qseq = s.qseq := rfl
@[simp] theorem State.setJob_ports (u : Nat) (n : Option Nat) : (s.setJob u n).ports = s.ports := rfl
@[simp] theorem State.setJob_linkTx (u : Nat) (n : Option Nat) : (s.setJob u n).linkTx = s.linkTx := rfl
@[simp] theorem State.setJob_lk (u : Nat) (n : Option Nat) : (s.setJob u n).lk = s.lk := rfl
@[simp] theorem State.setJob_seams (u : Nat) (n : Option Nat) : (s.setJob u n).seams = s.seams := rfl
@[simp] theorem State.setJob_legacy (u : Nat) (n : Option Nat) : (s.setJob u n).legacy = s.legacy := rfl
@[simp] theorem State.setJob_score (u : Nat) (n : Option Nat) : (s.setJob u n).score = s.score := rfl
@[simp] theorem State.setJob_tacks (u : Nat) (n : Option Nat) : (s.setJob u n).tacks = s.tacks := rfl
@[simp] theorem State.setJob_books (u : Nat) (n : Option Nat) : (s.setJob u n).books = s.books := rfl
@[simp] theorem State.setJob_eth (u : Nat) (n : Option Nat) : (s.setJob u n).eth = s.eth := rfl
@[simp] theorem State.setJob_unison (u : Nat) (n : Option Nat) : (s.setJob u n).unison = s.unison := rfl
@[simp] theorem State.setJob_arb (u : Nat) (n : Option Nat) : (s.setJob u n).arb = s.arb := rfl
@[simp] theorem State.setJob_icu (u : Nat) (n : Option Nat) : (s.setJob u n).icu = s.icu := rfl
@[simp] theorem State.setJob_front (u : Nat) (n : Option Nat) : (s.setJob u n).front = s.front := rfl
@[simp] theorem State.setJob_sm (u : Nat) (n : Option Nat) : (s.setJob u n).sm = s.sm := rfl
@[simp] theorem State.setJob_tap (u : Nat) (n : Option Nat) : (s.setJob u n).tap = s.tap := rfl
@[simp] theorem State.setJob_smb (u : Nat) (n : Option Nat) : (s.setJob u n).smb = s.smb := rfl
@[simp] theorem State.setJob_pins (u : Nat) (n : Option Nat) : (s.setJob u n).pins = s.pins := rfl
@[simp] theorem State.setJob_fuses (u : Nat) (n : Option Nat) : (s.setJob u n).fuses = s.fuses := rfl
@[simp] theorem State.setJob_flash (u : Nat) (n : Option Nat) : (s.setJob u n).flash = s.flash := rfl
@[simp] theorem State.setJob_fw (u : Nat) (n : Option Nat) : (s.setJob u n).fw = s.fw := rfl
@[simp] theorem State.setJob_free (u : Nat) (n : Option Nat) : (s.setJob u n).free = s.free := rfl
@[simp] theorem State.setJob_pending (u : Nat) (n : Option Nat) : (s.setJob u n).pending = s.pending := rfl

@[simp] theorem State.txFlit_regs (l : Nat) (bs : List Byte) : (s.txFlit l bs).regs = s.regs := rfl
@[simp] theorem State.txFlit_mem (l : Nat) (bs : List Byte) : (s.txFlit l bs).mem = s.mem := rfl
@[simp] theorem State.txFlit_tempo (l : Nat) (bs : List Byte) : (s.txFlit l bs).tempo = s.tempo := rfl
@[simp] theorem State.txFlit_clock (l : Nat) (bs : List Byte) : (s.txFlit l bs).clock = s.clock := rfl
@[simp] theorem State.txFlit_dieBase (l : Nat) (bs : List Byte) : (s.txFlit l bs).dieBase = s.dieBase := rfl
@[simp] theorem State.txFlit_aligns (l : Nat) (bs : List Byte) : (s.txFlit l bs).aligns = s.aligns := rfl
@[simp] theorem State.txFlit_links (l : Nat) (bs : List Byte) : (s.txFlit l bs).links = s.links := rfl
@[simp] theorem State.txFlit_cond (l : Nat) (bs : List Byte) : (s.txFlit l bs).cond = s.cond := rfl
@[simp] theorem State.txFlit_patches (l : Nat) (bs : List Byte) : (s.txFlit l bs).patches = s.patches := rfl
@[simp] theorem State.txFlit_press (l : Nat) (bs : List Byte) : (s.txFlit l bs).press = s.press := rfl
@[simp] theorem State.txFlit_sects (l : Nat) (bs : List Byte) : (s.txFlit l bs).sects = s.sects := rfl
@[simp] theorem State.txFlit_queues (l : Nat) (bs : List Byte) : (s.txFlit l bs).queues = s.queues := rfl
@[simp] theorem State.txFlit_qseq (l : Nat) (bs : List Byte) : (s.txFlit l bs).qseq = s.qseq := rfl
@[simp] theorem State.txFlit_ports (l : Nat) (bs : List Byte) : (s.txFlit l bs).ports = s.ports := rfl
@[simp] theorem State.txFlit_linkTx (l : Nat) (bs : List Byte) : (s.txFlit l bs).linkTx = s.linkTx ++ [(l, bs)] := rfl
@[simp] theorem State.txFlit_lk (l : Nat) (bs : List Byte) : (s.txFlit l bs).lk = s.lk := rfl
@[simp] theorem State.txFlit_seams (l : Nat) (bs : List Byte) : (s.txFlit l bs).seams = s.seams := rfl
@[simp] theorem State.txFlit_legacy (l : Nat) (bs : List Byte) : (s.txFlit l bs).legacy = s.legacy := rfl
@[simp] theorem State.txFlit_score (l : Nat) (bs : List Byte) : (s.txFlit l bs).score = s.score := rfl
@[simp] theorem State.txFlit_tacks (l : Nat) (bs : List Byte) : (s.txFlit l bs).tacks = s.tacks := rfl
@[simp] theorem State.txFlit_books (l : Nat) (bs : List Byte) : (s.txFlit l bs).books = s.books := rfl
@[simp] theorem State.txFlit_eth (l : Nat) (bs : List Byte) : (s.txFlit l bs).eth = s.eth := rfl
@[simp] theorem State.txFlit_unison (l : Nat) (bs : List Byte) : (s.txFlit l bs).unison = s.unison := rfl
@[simp] theorem State.txFlit_arb (l : Nat) (bs : List Byte) : (s.txFlit l bs).arb = s.arb := rfl
@[simp] theorem State.txFlit_icu (l : Nat) (bs : List Byte) : (s.txFlit l bs).icu = s.icu := rfl
@[simp] theorem State.txFlit_front (l : Nat) (bs : List Byte) : (s.txFlit l bs).front = s.front := rfl
@[simp] theorem State.txFlit_sm (l : Nat) (bs : List Byte) : (s.txFlit l bs).sm = s.sm := rfl
@[simp] theorem State.txFlit_tap (l : Nat) (bs : List Byte) : (s.txFlit l bs).tap = s.tap := rfl
@[simp] theorem State.txFlit_smb (l : Nat) (bs : List Byte) : (s.txFlit l bs).smb = s.smb := rfl
@[simp] theorem State.txFlit_pins (l : Nat) (bs : List Byte) : (s.txFlit l bs).pins = s.pins := rfl
@[simp] theorem State.txFlit_fuses (l : Nat) (bs : List Byte) : (s.txFlit l bs).fuses = s.fuses := rfl
@[simp] theorem State.txFlit_flash (l : Nat) (bs : List Byte) : (s.txFlit l bs).flash = s.flash := rfl
@[simp] theorem State.txFlit_fw (l : Nat) (bs : List Byte) : (s.txFlit l bs).fw = s.fw := rfl
@[simp] theorem State.txFlit_pwr (l : Nat) (bs : List Byte) : (s.txFlit l bs).pwr = s.pwr := rfl
@[simp] theorem State.txFlit_free (l : Nat) (bs : List Byte) : (s.txFlit l bs).free = s.free := rfl
@[simp] theorem State.txFlit_pending (l : Nat) (bs : List Byte) : (s.txFlit l bs).pending = s.pending := rfl

@[simp] theorem State.smbAnswer_regs (a : Option (List Byte)) : (s.smbAnswer a).regs = s.regs := rfl
@[simp] theorem State.smbAnswer_mem (a : Option (List Byte)) : (s.smbAnswer a).mem = s.mem := rfl
@[simp] theorem State.smbAnswer_tempo (a : Option (List Byte)) : (s.smbAnswer a).tempo = s.tempo := rfl
@[simp] theorem State.smbAnswer_clock (a : Option (List Byte)) : (s.smbAnswer a).clock = s.clock := rfl
@[simp] theorem State.smbAnswer_dieBase (a : Option (List Byte)) : (s.smbAnswer a).dieBase = s.dieBase := rfl
@[simp] theorem State.smbAnswer_aligns (a : Option (List Byte)) : (s.smbAnswer a).aligns = s.aligns := rfl
@[simp] theorem State.smbAnswer_links (a : Option (List Byte)) : (s.smbAnswer a).links = s.links := rfl
@[simp] theorem State.smbAnswer_cond (a : Option (List Byte)) : (s.smbAnswer a).cond = s.cond := rfl
@[simp] theorem State.smbAnswer_patches (a : Option (List Byte)) : (s.smbAnswer a).patches = s.patches := rfl
@[simp] theorem State.smbAnswer_press (a : Option (List Byte)) : (s.smbAnswer a).press = s.press := rfl
@[simp] theorem State.smbAnswer_sects (a : Option (List Byte)) : (s.smbAnswer a).sects = s.sects := rfl
@[simp] theorem State.smbAnswer_queues (a : Option (List Byte)) : (s.smbAnswer a).queues = s.queues := rfl
@[simp] theorem State.smbAnswer_qseq (a : Option (List Byte)) : (s.smbAnswer a).qseq = s.qseq := rfl
@[simp] theorem State.smbAnswer_ports (a : Option (List Byte)) : (s.smbAnswer a).ports = s.ports := rfl
@[simp] theorem State.smbAnswer_linkTx (a : Option (List Byte)) : (s.smbAnswer a).linkTx = s.linkTx := rfl
@[simp] theorem State.smbAnswer_lk (a : Option (List Byte)) : (s.smbAnswer a).lk = s.lk := rfl
@[simp] theorem State.smbAnswer_seams (a : Option (List Byte)) : (s.smbAnswer a).seams = s.seams := rfl
@[simp] theorem State.smbAnswer_legacy (a : Option (List Byte)) : (s.smbAnswer a).legacy = s.legacy := rfl
@[simp] theorem State.smbAnswer_score (a : Option (List Byte)) : (s.smbAnswer a).score = s.score := rfl
@[simp] theorem State.smbAnswer_tacks (a : Option (List Byte)) : (s.smbAnswer a).tacks = s.tacks := rfl
@[simp] theorem State.smbAnswer_books (a : Option (List Byte)) : (s.smbAnswer a).books = s.books := rfl
@[simp] theorem State.smbAnswer_eth (a : Option (List Byte)) : (s.smbAnswer a).eth = s.eth := rfl
@[simp] theorem State.smbAnswer_unison (a : Option (List Byte)) : (s.smbAnswer a).unison = s.unison := rfl
@[simp] theorem State.smbAnswer_arb (a : Option (List Byte)) : (s.smbAnswer a).arb = s.arb := rfl
@[simp] theorem State.smbAnswer_icu (a : Option (List Byte)) : (s.smbAnswer a).icu = s.icu := rfl
@[simp] theorem State.smbAnswer_front (a : Option (List Byte)) : (s.smbAnswer a).front = s.front := rfl
@[simp] theorem State.smbAnswer_sm (a : Option (List Byte)) : (s.smbAnswer a).sm = s.sm := rfl
@[simp] theorem State.smbAnswer_tap (a : Option (List Byte)) : (s.smbAnswer a).tap = s.tap := rfl
@[simp] theorem State.smbAnswer_pins (a : Option (List Byte)) : (s.smbAnswer a).pins = s.pins := rfl
@[simp] theorem State.smbAnswer_fuses (a : Option (List Byte)) : (s.smbAnswer a).fuses = s.fuses := rfl
@[simp] theorem State.smbAnswer_flash (a : Option (List Byte)) : (s.smbAnswer a).flash = s.flash := rfl
@[simp] theorem State.smbAnswer_fw (a : Option (List Byte)) : (s.smbAnswer a).fw = s.fw := rfl
@[simp] theorem State.smbAnswer_pwr (a : Option (List Byte)) : (s.smbAnswer a).pwr = s.pwr := rfl
@[simp] theorem State.smbAnswer_free (a : Option (List Byte)) : (s.smbAnswer a).free = s.free := rfl
@[simp] theorem State.smbAnswer_pending (a : Option (List Byte)) : (s.smbAnswer a).pending = s.pending := rfl

@[simp] theorem State.setSm_regs (x : Sm) : (s.setSm x).regs = s.regs := rfl
@[simp] theorem State.setSm_mem (x : Sm) : (s.setSm x).mem = s.mem := rfl
@[simp] theorem State.setSm_tempo (x : Sm) : (s.setSm x).tempo = s.tempo := rfl
@[simp] theorem State.setSm_clock (x : Sm) : (s.setSm x).clock = s.clock := rfl
@[simp] theorem State.setSm_dieBase (x : Sm) : (s.setSm x).dieBase = s.dieBase := rfl
@[simp] theorem State.setSm_aligns (x : Sm) : (s.setSm x).aligns = s.aligns := rfl
@[simp] theorem State.setSm_links (x : Sm) : (s.setSm x).links = s.links := rfl
@[simp] theorem State.setSm_cond (x : Sm) : (s.setSm x).cond = s.cond := rfl
@[simp] theorem State.setSm_patches (x : Sm) : (s.setSm x).patches = s.patches := rfl
@[simp] theorem State.setSm_press (x : Sm) : (s.setSm x).press = s.press := rfl
@[simp] theorem State.setSm_sects (x : Sm) : (s.setSm x).sects = s.sects := rfl
@[simp] theorem State.setSm_queues (x : Sm) : (s.setSm x).queues = s.queues := rfl
@[simp] theorem State.setSm_qseq (x : Sm) : (s.setSm x).qseq = s.qseq := rfl
@[simp] theorem State.setSm_ports (x : Sm) : (s.setSm x).ports = s.ports := rfl
@[simp] theorem State.setSm_linkTx (x : Sm) : (s.setSm x).linkTx = s.linkTx := rfl
@[simp] theorem State.setSm_lk (x : Sm) : (s.setSm x).lk = s.lk := rfl
@[simp] theorem State.setSm_seams (x : Sm) : (s.setSm x).seams = s.seams := rfl
@[simp] theorem State.setSm_legacy (x : Sm) : (s.setSm x).legacy = s.legacy := rfl
@[simp] theorem State.setSm_score (x : Sm) : (s.setSm x).score = s.score := rfl
@[simp] theorem State.setSm_tacks (x : Sm) : (s.setSm x).tacks = s.tacks := rfl
@[simp] theorem State.setSm_books (x : Sm) : (s.setSm x).books = s.books := rfl
@[simp] theorem State.setSm_eth (x : Sm) : (s.setSm x).eth = s.eth := rfl
@[simp] theorem State.setSm_unison (x : Sm) : (s.setSm x).unison = s.unison := rfl
@[simp] theorem State.setSm_arb (x : Sm) : (s.setSm x).arb = s.arb := rfl
@[simp] theorem State.setSm_icu (x : Sm) : (s.setSm x).icu = s.icu := rfl
@[simp] theorem State.setSm_front (x : Sm) : (s.setSm x).front = s.front := rfl
@[simp] theorem State.setSm_sm (x : Sm) : (s.setSm x).sm = x := rfl
@[simp] theorem State.setSm_tap (x : Sm) : (s.setSm x).tap = s.tap := rfl
@[simp] theorem State.setSm_smb (x : Sm) : (s.setSm x).smb = s.smb := rfl
@[simp] theorem State.setSm_pins (x : Sm) : (s.setSm x).pins = s.pins := rfl
@[simp] theorem State.setSm_fuses (x : Sm) : (s.setSm x).fuses = s.fuses := rfl
@[simp] theorem State.setSm_flash (x : Sm) : (s.setSm x).flash = s.flash := rfl
@[simp] theorem State.setSm_fw (x : Sm) : (s.setSm x).fw = s.fw := rfl
@[simp] theorem State.setSm_pwr (x : Sm) : (s.setSm x).pwr = s.pwr := rfl
@[simp] theorem State.setSm_free (x : Sm) : (s.setSm x).free = s.free := rfl
@[simp] theorem State.setSm_pending (x : Sm) : (s.setSm x).pending = s.pending := rfl

@[simp] theorem State.setUnison_regs (u : Unison) : (s.setUnison u).regs = s.regs := rfl
@[simp] theorem State.setUnison_mem (u : Unison) : (s.setUnison u).mem = s.mem := rfl
@[simp] theorem State.setUnison_tempo (u : Unison) : (s.setUnison u).tempo = s.tempo := rfl
@[simp] theorem State.setUnison_clock (u : Unison) : (s.setUnison u).clock = s.clock := rfl
@[simp] theorem State.setUnison_dieBase (u : Unison) : (s.setUnison u).dieBase = s.dieBase := rfl
@[simp] theorem State.setUnison_aligns (u : Unison) : (s.setUnison u).aligns = s.aligns := rfl
@[simp] theorem State.setUnison_links (u : Unison) : (s.setUnison u).links = s.links := rfl
@[simp] theorem State.setUnison_cond (u : Unison) : (s.setUnison u).cond = s.cond := rfl
@[simp] theorem State.setUnison_patches (u : Unison) : (s.setUnison u).patches = s.patches := rfl
@[simp] theorem State.setUnison_press (u : Unison) : (s.setUnison u).press = s.press := rfl
@[simp] theorem State.setUnison_sects (u : Unison) : (s.setUnison u).sects = s.sects := rfl
@[simp] theorem State.setUnison_queues (u : Unison) : (s.setUnison u).queues = s.queues := rfl
@[simp] theorem State.setUnison_qseq (u : Unison) : (s.setUnison u).qseq = s.qseq := rfl
@[simp] theorem State.setUnison_ports (u : Unison) : (s.setUnison u).ports = s.ports := rfl
@[simp] theorem State.setUnison_linkTx (u : Unison) : (s.setUnison u).linkTx = s.linkTx := rfl
@[simp] theorem State.setUnison_lk (u : Unison) : (s.setUnison u).lk = s.lk := rfl
@[simp] theorem State.setUnison_seams (u : Unison) : (s.setUnison u).seams = s.seams := rfl
@[simp] theorem State.setUnison_legacy (u : Unison) : (s.setUnison u).legacy = s.legacy := rfl
@[simp] theorem State.setUnison_score (u : Unison) : (s.setUnison u).score = s.score := rfl
@[simp] theorem State.setUnison_tacks (u : Unison) : (s.setUnison u).tacks = s.tacks := rfl
@[simp] theorem State.setUnison_books (u : Unison) : (s.setUnison u).books = s.books := rfl
@[simp] theorem State.setUnison_eth (u : Unison) : (s.setUnison u).eth = s.eth := rfl
@[simp] theorem State.setUnison_unison (u : Unison) : (s.setUnison u).unison = u := rfl
@[simp] theorem State.setUnison_arb (u : Unison) : (s.setUnison u).arb = s.arb := rfl
@[simp] theorem State.setUnison_icu (u : Unison) : (s.setUnison u).icu = s.icu := rfl
@[simp] theorem State.setUnison_front (u : Unison) : (s.setUnison u).front = s.front := rfl
@[simp] theorem State.setUnison_sm (u : Unison) : (s.setUnison u).sm = s.sm := rfl
@[simp] theorem State.setUnison_tap (u : Unison) : (s.setUnison u).tap = s.tap := rfl
@[simp] theorem State.setUnison_smb (u : Unison) : (s.setUnison u).smb = s.smb := rfl
@[simp] theorem State.setUnison_pins (u : Unison) : (s.setUnison u).pins = s.pins := rfl
@[simp] theorem State.setUnison_fuses (u : Unison) : (s.setUnison u).fuses = s.fuses := rfl
@[simp] theorem State.setUnison_flash (u : Unison) : (s.setUnison u).flash = s.flash := rfl
@[simp] theorem State.setUnison_fw (u : Unison) : (s.setUnison u).fw = s.fw := rfl
@[simp] theorem State.setUnison_pwr (u : Unison) : (s.setUnison u).pwr = s.pwr := rfl
@[simp] theorem State.setUnison_free (u : Unison) : (s.setUnison u).free = s.free := rfl
@[simp] theorem State.setUnison_pending (u : Unison) : (s.setUnison u).pending = s.pending := rfl

@[simp] theorem State.setPins_regs (p : Pins) : (s.setPins p).regs = s.regs := rfl
@[simp] theorem State.setPins_mem (p : Pins) : (s.setPins p).mem = s.mem := rfl
@[simp] theorem State.setPins_tempo (p : Pins) : (s.setPins p).tempo = s.tempo := rfl
@[simp] theorem State.setPins_clock (p : Pins) : (s.setPins p).clock = s.clock := rfl
@[simp] theorem State.setPins_dieBase (p : Pins) : (s.setPins p).dieBase = s.dieBase := rfl
@[simp] theorem State.setPins_aligns (p : Pins) : (s.setPins p).aligns = s.aligns := rfl
@[simp] theorem State.setPins_links (p : Pins) : (s.setPins p).links = s.links := rfl
@[simp] theorem State.setPins_cond (p : Pins) : (s.setPins p).cond = s.cond := rfl
@[simp] theorem State.setPins_patches (p : Pins) : (s.setPins p).patches = s.patches := rfl
@[simp] theorem State.setPins_press (p : Pins) : (s.setPins p).press = s.press := rfl
@[simp] theorem State.setPins_sects (p : Pins) : (s.setPins p).sects = s.sects := rfl
@[simp] theorem State.setPins_queues (p : Pins) : (s.setPins p).queues = s.queues := rfl
@[simp] theorem State.setPins_qseq (p : Pins) : (s.setPins p).qseq = s.qseq := rfl
@[simp] theorem State.setPins_ports (p : Pins) : (s.setPins p).ports = s.ports := rfl
@[simp] theorem State.setPins_linkTx (p : Pins) : (s.setPins p).linkTx = s.linkTx := rfl
@[simp] theorem State.setPins_lk (p : Pins) : (s.setPins p).lk = s.lk := rfl
@[simp] theorem State.setPins_seams (p : Pins) : (s.setPins p).seams = s.seams := rfl
@[simp] theorem State.setPins_legacy (p : Pins) : (s.setPins p).legacy = s.legacy := rfl
@[simp] theorem State.setPins_score (p : Pins) : (s.setPins p).score = s.score := rfl
@[simp] theorem State.setPins_tacks (p : Pins) : (s.setPins p).tacks = s.tacks := rfl
@[simp] theorem State.setPins_books (p : Pins) : (s.setPins p).books = s.books := rfl
@[simp] theorem State.setPins_eth (p : Pins) : (s.setPins p).eth = s.eth := rfl
@[simp] theorem State.setPins_unison (p : Pins) : (s.setPins p).unison = s.unison := rfl
@[simp] theorem State.setPins_arb (p : Pins) : (s.setPins p).arb = s.arb := rfl
@[simp] theorem State.setPins_icu (p : Pins) : (s.setPins p).icu = s.icu := rfl
@[simp] theorem State.setPins_front (p : Pins) : (s.setPins p).front = s.front := rfl
@[simp] theorem State.setPins_sm (p : Pins) : (s.setPins p).sm = s.sm := rfl
@[simp] theorem State.setPins_tap (p : Pins) : (s.setPins p).tap = s.tap := rfl
@[simp] theorem State.setPins_smb (p : Pins) : (s.setPins p).smb = s.smb := rfl
@[simp] theorem State.setPins_pins (p : Pins) : (s.setPins p).pins = p := rfl
@[simp] theorem State.setPins_fuses (p : Pins) : (s.setPins p).fuses = s.fuses := rfl
@[simp] theorem State.setPins_flash (p : Pins) : (s.setPins p).flash = s.flash := rfl
@[simp] theorem State.setPins_fw (p : Pins) : (s.setPins p).fw = s.fw := rfl
@[simp] theorem State.setPins_pwr (p : Pins) : (s.setPins p).pwr = s.pwr := rfl
@[simp] theorem State.setPins_free (p : Pins) : (s.setPins p).free = s.free := rfl
@[simp] theorem State.setPins_pending (p : Pins) : (s.setPins p).pending = s.pending := rfl

@[simp] theorem State.withPending_regs (q : List Instr) : (s.withPending q).regs = s.regs := rfl
@[simp] theorem State.withPending_mem (q : List Instr) : (s.withPending q).mem = s.mem := rfl
@[simp] theorem State.withPending_tempo (q : List Instr) : (s.withPending q).tempo = s.tempo := rfl
@[simp] theorem State.withPending_clock (q : List Instr) : (s.withPending q).clock = s.clock := rfl
@[simp] theorem State.withPending_dieBase (q : List Instr) : (s.withPending q).dieBase = s.dieBase := rfl
@[simp] theorem State.withPending_aligns (q : List Instr) : (s.withPending q).aligns = s.aligns := rfl
@[simp] theorem State.withPending_links (q : List Instr) : (s.withPending q).links = s.links := rfl
@[simp] theorem State.withPending_cond (q : List Instr) : (s.withPending q).cond = s.cond := rfl
@[simp] theorem State.withPending_patches (q : List Instr) : (s.withPending q).patches = s.patches := rfl
@[simp] theorem State.withPending_press (q : List Instr) : (s.withPending q).press = s.press := rfl
@[simp] theorem State.withPending_sects (q : List Instr) : (s.withPending q).sects = s.sects := rfl
@[simp] theorem State.withPending_queues (q : List Instr) : (s.withPending q).queues = s.queues := rfl
@[simp] theorem State.withPending_qseq (q : List Instr) : (s.withPending q).qseq = s.qseq := rfl
@[simp] theorem State.withPending_ports (q : List Instr) : (s.withPending q).ports = s.ports := rfl
@[simp] theorem State.withPending_linkTx (q : List Instr) : (s.withPending q).linkTx = s.linkTx := rfl
@[simp] theorem State.withPending_lk (q : List Instr) : (s.withPending q).lk = s.lk := rfl
@[simp] theorem State.withPending_seams (q : List Instr) : (s.withPending q).seams = s.seams := rfl
@[simp] theorem State.withPending_legacy (q : List Instr) : (s.withPending q).legacy = s.legacy := rfl
@[simp] theorem State.withPending_score (q : List Instr) : (s.withPending q).score = s.score := rfl
@[simp] theorem State.withPending_tacks (q : List Instr) : (s.withPending q).tacks = s.tacks := rfl
@[simp] theorem State.withPending_books (q : List Instr) : (s.withPending q).books = s.books := rfl
@[simp] theorem State.withPending_eth (q : List Instr) : (s.withPending q).eth = s.eth := rfl
@[simp] theorem State.withPending_unison (q : List Instr) : (s.withPending q).unison = s.unison := rfl
@[simp] theorem State.withPending_arb (q : List Instr) : (s.withPending q).arb = s.arb := rfl
@[simp] theorem State.withPending_icu (q : List Instr) : (s.withPending q).icu = s.icu := rfl
@[simp] theorem State.withPending_front (q : List Instr) : (s.withPending q).front = s.front := rfl
@[simp] theorem State.withPending_sm (q : List Instr) : (s.withPending q).sm = s.sm := rfl
@[simp] theorem State.withPending_tap (q : List Instr) : (s.withPending q).tap = s.tap := rfl
@[simp] theorem State.withPending_smb (q : List Instr) : (s.withPending q).smb = s.smb := rfl
@[simp] theorem State.withPending_pins (q : List Instr) : (s.withPending q).pins = s.pins := rfl
@[simp] theorem State.withPending_fuses (q : List Instr) : (s.withPending q).fuses = s.fuses := rfl
@[simp] theorem State.withPending_flash (q : List Instr) : (s.withPending q).flash = s.flash := rfl
@[simp] theorem State.withPending_fw (q : List Instr) : (s.withPending q).fw = s.fw := rfl
@[simp] theorem State.withPending_pwr (q : List Instr) : (s.withPending q).pwr = s.pwr := rfl
@[simp] theorem State.withPending_free (q : List Instr) : (s.withPending q).free = s.free := rfl
@[simp] theorem State.withPending_pending (q : List Instr) : (s.withPending q).pending = q := rfl

end

end Sys2Proof.Machine
end

