-- ==== Sys2Proof/WellFormed.lean ====
section
/-! DEFINITION. Well-formed terms: the sizes that the spec fixes for what a command or an event carries. -/

namespace Sys2Proof

/-- A command carries a slot of 256 bytes (R686). -/
def Cmd.wellFormed (c : Cmd) : Bool := c.slot.length == 256

/-- What a command or event carries has the size that the spec gives it: command slots 256 bytes (R686), flits 64 bytes (R38), codewords ten
flits (R403), tacks 32 bytes (R510), packets of a G1 link 256 bytes (R594), a UDID 16 bytes (R928), and the block writes of R933. -/
def Instr.wellFormed : Instr → Bool
  | .countinReceive _ flit => flit.length == 64
  | .downbeatReceive _ flit _ => flit.length == 64
  | .linkFlitReceive _ flit _ _ => flit.length == 64
  | .tackLinkArrival _ tack => tack.length == 32
  | .boltLinkArrival _ flits _ _ _ => decide (0 < flits.length) && flits.all (fun f => f.length == 64)
  | .codewordReceive _ cw => (cw.uncorr || cw.flits.length == 10) && cw.flits.all (fun f => f.length == 64)
  | .g1SegReceive _ p => p.length == 256
  | .g1MsgReceive _ p => p.length == 256
  | .g1CreditReceive _ p => p.length == 256
  | .g1InitReceive _ p => p.length == 256
  | .commandFetch slot ok => !ok || slot.length == 256
  | .boardWindowAccess _ _ n w => decide (0 < n) && (match w with
    | some bs => bs.length == n
    | none => true)
  | .arpAssignAddress udid _ => udid.length == 16
  | .smbWriteSlotLow bs _ => decide (bs.length ≤ 128)
  | .smbWriteSlotHigh _ bs _ => decide (bs.length ≤ 128)
  | .scoreStart c | .fermata c | .scoreLoad c | .scorePatch c | .scoreStop c | .rinseRange c | .cadenceCommand c | .linkRetrain c
  | .linkProfile c | .mcastGroupWrite c | .rankTableWrite c | .sliceSet c | .eventLogConfig c | .identify c | .queryCaps c | .stageIn c _ _
  | .stageOut c _ _ | .writeInline c | .readSmall c _ | .portConfig c | .portQueueCreate c | .pfcConfig c | .macsecSa c
  | .reproProfileSet c | .unisonPair c | .unisonReplay c | .census c | .unitReset c | .unitFold c _ | .unitUnfold c | .pstateSet c _
  | .fwStage c | .fwActivate c | .smSessionOpen c | .smService c _ | .zeroize c | .telemetrySnapshot c | .linkRetrainTimeout c => c.wellFormed
  | .registerWrite _ _ _ _ | .rcRegisterRead _ _ _ | .absentUnitRead _ _ _ | .absentUnitWrite _ _ _ _ | .reservedOffsetAccess _ _ _ _
  | .misalignedRegAccess _ _ _ _ | .powerOnReset | .vauxUndervoltage | .railUndervoltage _ | .avsResponseTimeout _ | .pkgResetAssert
  | .rstColdWrite _ _ | .coldResetRelease _ _ _ _ | .fwBootTimeout | .rootPllLock _ _ | .rootPllLockLoss _ _ | .refMissingEdge _
  | .refFreqWindowFail _ | .refQualified _ _ | .switchoverComplete | .holdoverExpiry | .clkFwdCfgWrite _ | .clkRefCfgWrite _
  | .mesoFillMargin _ _ _ _ | .mesoCrossingFault _ _ _ _ | .barBoundary | .barNoteCutoff | .barNoteMerge | .barNoteReceive _ _ _
  | .startNotice _ | .countinBar0Start | .downbeatMissing _ | .rubatoGateRelease _ | .gateTimeout | .patchStageDone _ | .patchLate
  | .moveSend _ _ | .boltDeparture _ _ _ _ | .moveTake _ _ | .takeDeferred _ _ _ | .cue _ | .pendingCueFire _ | .heldCueEnqueue _
  | .cueArrive _ | .fermataEntry | .deskNop _ | .patchpoint _ | .sectionPaused _ _ | .pauseRequest _ | .resume _ | .prsCntClr _
  | .tstartWrite _ _ _ | .bankWakeDone _ _ _ | .gateTakesEffect _ _ _ | .holdWaitRelease _ _ | .zeroingDone _ | .boardDebugRead _ _
  | .boardDebugWrite _ _ _ | .nop _ _ _ | .loop _ _ _ | .endl _ _ _ | .cuewait _ _ _ | .sync _ _ _ | .bankset _ _ _ | .endPart _ _ _
  | .tld _ _ _ | .tst _ _ _ | .tzero _ _ _ | .ttr _ _ _ | .azero _ _ _ | .ald _ _ _ | .ast _ _ _ | .acvt _ _ _ | .mma _ _ _ | .mmas _ _ _ _
  | .vset _ _ _ | .vld _ _ _ | .vst _ _ _ | .vadd _ _ _ | .vmul _ _ _ | .vfma _ _ _ | .vmax _ _ _ | .ared _ _ _ | .avop _ _ _ | .qld _ _ _
  | .qst _ _ _ | .qwait _ _ _ | .rinse _ _ _ | .cadence _ _ _ | .tksend _ _ _ | .time _ _ _ | .loadFillArrive _ _ _ _ _ | .storeAccept _ _
  | .writebackStart _ | .writebackAck _ _ | .memRequestRetry _ | .memWaitTimeout _ _ | .rinseDone _ | .fenceDone _ | .hbmRefresh _ _
  | .scrubRead _ _ _ | .ueRetry _ | .memQctlCntClr _ | .seamBeatReceive _ _ _ | .alignNotice _ _ | .alignRequest _ | .echoNotice _ _ _ _
  | .seamTrainingDone _ _ _ | .linkEnable _ | .linkDisable _ | .lnkCntClr _ | .linkStateComplete _ _ _ _ | .linkStateTimeout _
  | .linkRetryTimer _ | .echoRepeat _ _ | .linkQuietStart _ | .linkQuietEnd _ | .boltHeadRoute _ _ _ | .headAdvance _ _ _
  | .boltExitLookup _ _ _ | .descriptorRecordArrive _ _ | .boltHeadAccept _ _ _ | .boltTailArrive _ _ | .knotTackSend _ | .knotApply _
  | .snagApply _ | .knotTimeout _ | .resendStart _ | .resendDepart _ _ _ | .resendForward _ | .csendGo _ | .tackInjectTranslate _
  | .tackReleaseToMangle _ _ | .tackForward _ _ | .tackDeflect _ _ _ _ | .noticeDeliver _ | .writeDeliver _ | .addDeliver _ _
  | .doorbellDeliver _ | .peerReqDeliver _ | .peerRspDeliver _ | .ackReceive _ | .ackTimeout _ _ | .inboxPop _ | .tckGridWrite _ _
  | .rnkChipWrite _ _ | .fenceWrite _ _ | .legacyStoreSend _ | .g1PacketSend _ | .g1CreditTimer _ | .lnkLgcIdWrite _ _ | .icuEvent _
  | .icuSetpend _ | .icuSrcWrite _ _ | .icuClaim _ _ | .icuComplete _ _ _ | .icuStackReset _ _ | .machineTimer _ | .eventStamp _
  | .eventRecordWrite _ | .softwareEvent _ | .evaRdWrite _ | .hostInterfaceReset _ | .ringEnable _ _ _ | .ringDisable _ _ _
  | .tailDoorbell _ _ _ _ | .cplHeadDoorbell _ _ _ _ | .msixCoalesceTimer _ | .ethFrameReceive _ _ | .pauseFrameReceive _
  | .pauseTimerExpiry _ _ | .ethFrameTransmit _ _ | .xoffRefresh _ _ | .ethLinkUp _ | .ethLinkDown _ | .ethQdbWrite _ _ | .ethQcplWrite _ _
  | .queueTailPoll _ _ | .descriptorTake _ _ _ _ | .ethDmaComplete _ _ | .rbtDataReceive _ _ _ | .rbtAckReceive _ _ | .rbtNakReceive _ _
  | .rbtAbortReceive _ _ | .rbtAckTimer _ | .rbtNakTimer _ | .rbtRto _ | .digestClose _ _ | .barCompare _ | .unisonWaitTimeout _
  | .censusSample _ _ | .linenHandover _ | .noticeUpdate _ _ _ | .ntcMarksWrite _ _ _ | .ntcLevelWrite _ _ | .ntcPeakRead _ | .upClr _
  | .unitInService _ _ | .unitServiceTimeout _ _ | .linkGiveup _ _ | .linkDiscard _ | .thermalThrottle _ _ _ | .thermalTrip _ _
  | .fwActivateRevert | .zeroizeNLatch | .smMboxGo _ _ _ | .sessionIdleTimeout _ | .challengeExpiry _ _ | .authLockoutEnd _
  | .entropyHealthFail _ | .softErrorRecovery _ _ | .periodicSelftest _ | .snapshotSample _ | .telClr _ | .tapReset
  | .tapInstructionUpdate _ | .dbgSel _ | .dbgAccess _ | .hemInChange _ | .arpPrepare | .arpGetUdid _ | .arpResetDevice _ | .smbReadStatus
  | .smbReadSmStatus | .smbReadId | .smbReadTemp | .smbSubmit _ | .smbCommandDone | .smbReadCompletion | .smbAlertResponse _ | .smbTimeout
  | .laneLockLoss _ | .hostLinkUp _ _ _ | .busMasterEnableChange _ _ _ | .railTargetReached _ _ | .activationDrainTimeout | .resetRelease _ => true

end Sys2Proof
end

