-- ==== Sys2Proof/Tests/Slice0.lean ====
section
/-! SUPPORT. Tests: ill-formed terms that the check refuses, worked cases of the spec, and for every statement of
Obligations.lean states and operands that meet its hypotheses. -/

open Sys2Proof Sys2Proof.Machine

namespace Sys2Proof.Tests

set_option linter.unusedVariables false
set_option linter.unusedSimpArgs false
set_option Elab.async false

/-- A KL3-B12-12 in service: every die fitted and out of reset, its firmware ready, a slice set, and two sessions of transport H open. -/
def up : State :=
  let s := { State.reset with
    fw := { inCold := false, coresHeld := false }, sm := { drbg := true, sessions := [⟨1, .officer, .H⟩, ⟨2, .user, .H⟩] } }
  (((s.setReg GLB_CAP0 [] 0x33FFFF).setF CMD_IF_STATUS [] CMD_IF_STATUS.FW_READY 1).setReg RNK_SLICE [8] 0x1005).setReg RNK_SLICE [9] 0x1005

/-- A command of transport H with session 1. -/
def cmd (op : Nat) (pars : List Byte := []) (target : Nat := 0xF) (inl : List Byte := []) : Cmd :=
  { via := .H, ring := 0
    slot := leBytes 2 op ++ leBytes 1 0 ++ leBytes 1 1 ++ leBytes 4 7 ++ leBytes 2 target ++ leBytes 1 inl.length ++ leBytes 1 0 ++
      leBytes 4 1 ++ slice pars 0 16 ++ slice inl 0 224 }

/-! ### How a hypothesis is met -/

/-- A statement about what an option holds. -/
theorem of_some {α : Type} {x : Option α} {P : α → Prop} [DecidablePred P] (h : x.elim true (fun a => decide (P a)) = true) : ∀ a, x = some a → P a := by
  rintro a rfl
  simpa using h
/-- The top of a stack is another entry. -/
theorem top_ne {o : Option (Nat × Nat)} {n : Nat} (h : o.map Prod.fst ≠ some n) : ∀ e, o ≠ some (n, e) := by
  rintro e rfl
  exact h rfl
/-- A block that the check did not find bad. -/
theorem not_bad {e : Ecc} (h : (match e with
    | .bad _ => false
    | _ => true) = true) : ∀ n, e ≠ Ecc.bad n := by
  rintro n rfl
  cases h
/-- No stop is due. -/
theorem no_stop {s : State} (h : (s.tempo.due s.tempo.barno).all (fun x => match x with
    | .stop _ _ => false
    | _ => true) = true) : s.NoStopDue := by
  intro u c hm
  simpa using List.all_eq_true.1 h _ hm
/-- A section issues the word at which it stands. -/
theorem issues {s : State} {p k i : Nat} {ins : PInstr} (h : s.canIssue p k = true ∧ (s.sect p k).st = .running ∧ (s.sect p k).pendW = [] ∧
    (s.partAt p k).map (fun x => (x.1, x.2.i)) = some (i, ins)) : s.Issues p k i ins := by
  obtain ⟨a, b, c, d⟩ := h
  refine ⟨a, b, c, ?_⟩
  cases e : s.partAt p k with
  | none => simp [e] at d
  | some x =>
    obtain ⟨j, v, sm, y⟩ := x
    simp only [e, Option.map_some, Option.some.injEq, Prod.mk.injEq] at d
    obtain ⟨rfl, rfl⟩ := d
    exact ⟨v, sm, rfl⟩
/-- What a check answers. -/
theorem is_ok {α ε : Type} {x : Except ε α} {d : α} (h : x.toOption.isSome = true) : x = Except.ok (x.toOption.getD d) := by
  cases x with
  | ok a => rfl
  | error e => cases h
/-- The same for four results at once. -/
theorem is_ok4 {α β γ δ ε : Type} {x : Except ε (α × β × γ × δ)} (h : x.toOption.isSome = true) : ∃ a b c d, x = Except.ok (a, b, c, d) := by
  cases x with
  | ok a => exact ⟨_, _, _, _, rfl⟩
  | error e => cases h
/-- Some Mangle die that flags `a` and `b` name. -/
theorem named_ex (a b : Prop) (P : Nat → Prop) : (∃ m, (m = 8 ∧ a ∨ m = 9 ∧ b) ∧ P m) ↔ (a ∧ P 8) ∨ (b ∧ P 9) := by
  constructor
  · rintro ⟨m, ⟨rfl, h⟩ | ⟨rfl, h⟩, hp⟩
    · exact .inl ⟨h, hp⟩
    · exact .inr ⟨h, hp⟩
  · rintro (⟨h, hp⟩ | ⟨h, hp⟩)
    · exact ⟨8, .inl ⟨rfl, h⟩, hp⟩
    · exact ⟨9, .inr ⟨rfl, h⟩, hp⟩
theorem named_ex2 (a b : Prop) (n : Nat) (P : Nat → Nat → Prop) :
    (∃ m i, (m = 8 ∧ a ∨ m = 9 ∧ b) ∧ i < n ∧ P m i) ↔ (a ∧ ∃ i, i < n ∧ P 8 i) ∨ (b ∧ ∃ i, i < n ∧ P 9 i) := by
  constructor
  · rintro ⟨m, i, ⟨rfl, h⟩ | ⟨rfl, h⟩, hp⟩
    · exact .inl ⟨h, i, hp⟩
    · exact .inr ⟨h, i, hp⟩
  · rintro (⟨h, i, hp⟩ | ⟨h, i, hp⟩)
    · exact ⟨8, i, .inl ⟨rfl, h⟩, hp⟩
    · exact ⟨9, i, .inr ⟨rfl, h⟩, hp⟩
/-- The entries of a bar agree. -/
theorem no_dispute {s : State} {n : Nat} (h : ∀ e ∈ s.unOwn n ++ s.unPeer n, ¬((e ∈ s.unOwn n ∧ ∀ x ∈ s.unPeer n, x.key = e.key → x.digest ≠ e.digest) ∨
    (e ∈ s.unPeer n ∧ ∀ x ∈ s.unOwn n, x.key ≠ e.key))) : ∀ e, ¬s.unDisagrees n e := by
  intro e he
  refine h e ?_ he
  rcases he with he | he
  · exact List.mem_append.2 (.inl he.1)
  · exact List.mem_append.2 (.inr he.1)
theorem is_error {α ε : Type} [DecidableEq ε] {x : Except ε α} {f : ε} (h : (match x with
    | .error e => decide (e = f)
    | .ok _ => false) = true) : x = Except.error f := by
  cases x with
  | ok a => cases h
  | error e => simp only [decide_eq_true_eq] at h; rw [h]

/-! ### Score time (02_score_time.md) -/

/-- An anchor with an installed image of one desk, stopped. -/
def still : State :=
  let s := { up with
    tempo := { k := 10, d64 := 1, anchor := true, region := 3, anchorChip := 9, slice := 5, fermLead := 4, gateLimit := 10 }
    cond := [(8, { desk := [.rest false 1 0, .fine], ptr := 1, restart := [⟨0, 1, none, []⟩] })]
    links := [(0, { role := 1, score := true, parent := true }), (1, { role := 1, score := true, child := true })] }
  (List.range 10).foldl (fun s d => s.setF SCR_STATUS [d] SCR_STATUS.INSTALLED 1) s

/-- The same package playing the last beat of bar 0xFFFF_FFFF. -/
def playing : State := still.setTempo { still.tempo with running := true, barno := 0xFFFF_FFFF, sbar := 0xFFFF_FFFF, beat := 1023 }
/-- The same in rubato, with the downbeats of bar 0xFFFF_FFFF there. -/
def gated : State :=
  playing.setTempo { playing.tempo with rubato := true, gotBar := [(0, 0x1_0000_0000), (1, 0x1_0000_0000)] }
/-- The same in rubato, still waiting for a downbeat. -/
def gateShut : State := playing.setTempo { playing.tempo with rubato := true }
/-- Links 0 and 1 are UP in class A. -/
def linked : State :=
  [0, 1].foldl (fun s l => (s.setF LNK_STATUS (lnk l) LNK_STATUS.STATE 6).setF LNK_STATUS (lnk l) LNK_STATUS.CLASS 0) still
/-- A count-in has been accepted. -/
def counting : State := still.setTempo { still.tempo with armed := true, accepted := some ⟨8, 0, 64, 0, 64, 1, [8]⟩ }
/-- A fermata request of count n in the current bar. -/
def fermataIn (c : Cmd) (n : Nat) : State :=
  playing.setTempo { playing.tempo with frozen := true, ferm := [⟨0xFFFF_FFFF, n, .command c⟩] }
/-- A count-in flit for `still`: TOTAL 100, ELAPSED 36. -/
def countin : List Byte :=
  crcFlit (leBytes 1 0xC1 ++ leBytes 1 0 ++ leBytes 1 3 ++ leBytes 1 10 ++ leBytes 2 5 ++ leBytes 2 0 ++ leBytes 4 100 ++ leBytes 4 36 ++ leBytes 4 0 ++
    leBytes 2 1 ++ leBytes 2 9)
/-- A downbeat flit for `playing` with these flags. -/
def downbeatFlit (flags : Nat) : List Byte :=
  crcFlit (leBytes 1 0xD1 ++ leBytes 1 flags ++ leBytes 1 3 ++ leBytes 5 0 ++ leBytes 4 0xFFFF_FFFF ++ leBytes 4 0xFFFF_FFFF)

/-! ### Clocks (03_clocks.md) -/

/-- The package with this value in CLK_REF_STATUS. -/
def refs (v : Nat) : State := up.setReg CLK_REF_STATUS [] (BitVec.ofNat 64 v)
/-- The same with die d's root PLL locked, and with die d in reset and its PLL unlocked. -/
def locked (d : Nat) : State := (refs 0x3).setF CLK_DIE [d] CLK_DIE.LOCKED 1
def relock (d : Nat) : State := (refs 0x3).setReg RST_DIE [] (BitVec.ofNat 64 (2 ^ d))

/-! ### Presses (04_press.md, 05_press_instructions.md) -/

/-- A part word: opcode, bits [51:0], sections 0 to 3, and V. -/
def word (op body : Nat) (sm : Nat := 15) (v : Nat := 0) : Word := BitVec.ofNat 64 (v * 2 ^ 63 + op * 2 ^ 56 + sm * 2 ^ 52 + body)
/-- Sections of Press p in these states. -/
def sections (p : Nat) (l : List Section) : State := { up with sects := (l.zipIdx.filter (fun x => x.1 != {})).map (fun x => (4 * p + x.2, x.1)) }
/-- Section k of Press p, running, stands at a word of its part. -/
def at_ (p k : Nat) (w : Word) (x : Section := {}) : State :=
  { up with press := [(p, { part := [(0, w)], words := 1 })], sects := [(4 * p + k, { x with st := .running })] }
/-- Board blocks that a Press holds. -/
def holding (p b : Nat) : State := { up with press := [(p, { holds := [(b, 1)], holdN := 1 })] }
/-- The debug lock is open. -/
def open_ (s : State) : State := s.setF SM_DEBUG [] SM_DEBUG.LOCKED 0
def noStalls : Stalls := ⟨0, 0, 0, 0, 0, 0⟩

/-! ### Conductors (06_conductor.md) -/

/-- A part with P0 and its stack only, in OPERATIONAL with SCORE_NONE, in service. -/
def small : State := ((up.setReg GLB_CAP0 [] 0x300101).setF SM_STATUS [] SM_STATUS.STATE 3).setF SM_POLICY [] SM_POLICY.SCORE_NONE 1
/-- A job image of one package, rank 7, for `small`: three desks of TEMPO and FINE, no parts; CRC field `crc`. -/
def jobImage (crc : Nat) : List Host.Cell :=
  let at_ (l : List Host.Cell) (o : Nat) (bs : List Byte) : List Host.Cell := putBytes l (0x10000 + o) bs
  let dieDir (press : Bool) : List Byte := leBytes 4 0x200 ++ leBytes 4 2 ++ leBytes 4 0x240 ++ leBytes 4 (if press then 64 else 32) ++
    leBytes 4 (if press then 0x240 else 0) ++ leBytes 4 (if press then 0x240 else 0)
  let l := at_ [] 0 (leBytes 4 0x524F_4353 ++ leBytes 4 1 ++ leBytes 8 0xB20 ++ leBytes 8 0x77 ++ leBytes 4 1 ++ leBytes 4 0x40)
  let l := at_ l 0x40 (leBytes 2 7 ++ leBytes 2 3 ++ leBytes 4 0x80 ++ leBytes 4 0xAA0)
  let l := at_ l 0x80 (leBytes 4 0x3347_4B50 ++ leBytes 4 7 ++ leBytes 4 0 ++ leBytes 4 crc ++ leBytes 4 0xAA0)
  let l := [(0, true), (8, false), (9, false)].foldl (fun l x => at_ l (0x100 + 32 * x.1) (dieDir x.2)) l
  let l := at_ l 0x280 ([0x08, 0, 3, 10] ++ leBytes 2 1 ++ leBytes 2 0 ++ [4, 10] ++ leBytes 2 5)
  at_ l 0x2A0 [0x03]
/-- The job image with its CRC, and the command that loads it. -/
def loadable : State := { small with mem := jobImage 1174828890 }
def loadCmd : Cmd := cmd 0x0301 (leBytes 8 0x10000 ++ leBytes 4 0xB20 ++ leBytes 2 7)
/-- `small` playing an installed Score of one package, job 0x77, rank 7, before its Score bar 5. -/
def scored : State :=
  let s := { small with
    tempo := { k := 10, d64 := 1, anchor := true, region := 3, slice := 5, fermLead := 4, gateLimit := 10, running := true, sbar := 4, fineSbar := 9 }
    cond := [0, 8, 9].map (fun d => (d, { desk := [.rest false 5 0, .fine], ptr := 1 })) }
  [0, 8, 9].foldl (fun s d => ((s.setF SCR_STATUS [d] SCR_STATUS.INSTALLED 1).setReg SCR_JOB [d] 0x77).setF SCR_PLACE [d] SCR_PLACE.RANK 7) s
/-- A patch image for `scored`: M0's measure table anew, for Score bar 5. -/
def patchImage (crc : Nat) : List Host.Cell :=
  let l := putBytes [] 0x10000 (leBytes 4 0x3343_5450 ++ leBytes 2 7 ++ leBytes 2 1 ++ leBytes 8 0x77 ++ leBytes 4 5 ++ leBytes 4 208 ++ leBytes 4 crc)
  putBytes l 0x10040 ([4, 8, 0, 0] ++ leBytes 2 0 ++ leBytes 2 32 ++ leBytes 4 0x50)
def patchable : State := { scored with mem := patchImage 3547231912 }
def patchCmd : Cmd := cmd 0x0303 (leBytes 8 0x10000 ++ leBytes 4 208)
/-- A staged or staging patch. -/
def patching (sbar : Nat) (waiting : List Nat) : Patch := ⟨sbar, [], waiting, patchCmd, none⟩
/-- Conductor d of `playing` stands at an entry. -/
def atEntry (d : Nat) (e : DeskEntry) : State := playing.setConductor d { desk := [e, .fine], ptr := 0, bar := 0xFFFF_FFFF }
/-- M0's Conductor stands at a take on link 0, whose landing buffer holds a bolt for Press 0. -/
def landed0 : State :=
  { atEntry 8 (.take 3 0) with score := { landed := [⟨0, ⟨0, 0, 0, 5, 0, 0, 0, 0, 0, 0⟩, List.replicate 64 0, 0, false, false⟩] } }
/-- What SCORE_LOAD's checks find in the image of `loadable`. -/
def loadFound : Nat × Tempo × List LinkCfg × List DieImage := (loadable.checkLoad 0x10000 0xB20 7 false).toOption.getD (0, {}, [], [])

/-! ### Memory (07_memory.md) -/

/-- The package with every stack in service. -/
def fitted8 : State := (List.range 8).foldl (fun s n => s.setF MEM_STATUS [n] MEM_STATUS.TRAINED 1) up
/-- A load of block m into Board block b, and a store, that have been sent. -/
def load (b m : Nat) : QReq := ⟨false, 0, 0, 0, b, m, none, false, false, false, true⟩
def store (b m : Nat) : QReq := ⟨true, 4, 0, 0, b, m, none, false, false, false, true⟩
/-- Press 0 with these requests in queue q, and a port of P0. -/
def queued (q : Nat) (l : List QReq) (x : MemPort) : State := { fitted8 with queues := [(q, l)], ports := if x = {} then [] else [(0, x)] }
/-- A block of 512 equal bytes. -/
def block (b : Byte) : List Byte := List.replicate 512 b
/-- A dirty entry of a write buffer. -/
def dirty (m : Nat) : WbEntry := ⟨m, block 1, true, none⟩
/-- A scan of one section that awaits these blocks. -/
def scan (fence : Bool) (by_ : ScanFor) (await : List Nat) : Scan := ⟨fence, 0, 1, by_, await, 0⟩

/-! ### Links and Seams (08_links.md) -/

/-- Link l in this state, with these details. -/
def link (l st : Nat) (x : LinkDyn := {}) : State := { up.setF LNK_STATUS (lnk l) LNK_STATUS.STATE st with lk := if x = {} then [] else [(l, x)] }
/-- A native codeword without markers. -/
def codeword (uncorr : Bool) (corr : Nat) (ctl : BitVec 20) (flits : List (List Byte)) : Codeword := ⟨none, uncorr, corr, ctl, flits, 3⟩
/-- A LINK flit of this subtype. -/
def linkFlit (sub a cls stamp turn chip : Nat) : List Byte :=
  crcFlit (leBytes 1 0x4C ++ leBytes 1 sub ++ leBytes 1 a ++ leBytes 1 cls ++ leBytes 4 stamp ++ leBytes 2 turn ++ leBytes 2 0 ++ leBytes 2 chip)
/-- Seam port q of die d in this state. -/
def seam (d q st : Nat) (x : SeamDyn := {}) : State := { up.setF SEAM_STATUS [d, q] SEAM_STATUS.STATE st with seams := if x = {} then [] else [(4 * d + q, x)] }
/-- Link 11 may sleep in the bar that plays. -/
def sleepy : State :=
  (({ link 11 6 with tempo := { k := 11, running := true } }).setConductor 9 { bar := 1, sleep := 32 })
/-- Four links have legacy profiles. -/
def legacyLinks : State := [1, 2, 3, 4].foldl (fun s l => s.setF LNK_STATUS (lnk l) LNK_STATUS.PROFILE 2) up
/-- Every fitted Seam is UP. -/
def seamsThere : State := (List.range 12).foldl (fun s d => (List.range 4).foldl (fun s q => s.setF SEAM_STATUS [d, q] SEAM_STATUS.STATE 4) s) up

/-! ### The Score plane (09_score_plane.md) -/

/-- A bolt header: stream 9, SEQ 3, from rank 7 to Press `dpress` of rank `drank`. -/
def hdr (dpress : Nat) (route : Nat := 0) (drank : Nat := 0) (slice : Nat := 5) : BoltHdr := ⟨3, 7, drank, slice, 9, 2, dpress, 1, 0, route⟩
/-- One payload line. -/
def pay1 : List Byte := List.replicate 64 0x3C
/-- Flight 0 with this header, at die `at_`, from a neighbour die. -/
def fly (h : BoltHdr) (at_ from_ : Nat) (exit : Option Nat := none) : Flight :=
  { id := 0, hdr := h, payload := pay1, pcrc := crc32c pay1, hdrBad := false, bad := false, cut := false, resend := false, own := exit.isSome, at_ := at_
    inp := .seam from_, held := false, exit := exit, split := false, looked := false, entry := none, accepted := false, lines := 0 }
/-- Every Seam is UP, and so is link 0. -/
def ways : State := seamsThere.setF LNK_STATUS (lnk 0) LNK_STATUS.STATE 6
/-- The same with one flight. -/
def flying (f : Flight) : State := { ways with score := { flights := [f], nextId := 1 } }
/-- The same with a window of rank 7, stream 9 on P1. -/
def windowed (base received landing : Nat) (f : Flight) : State :=
  { flying f with score := { flights := [f], nextId := 1, windows := [⟨1, 7, 9, base, received, landing⟩] } }
/-- A held descriptor of Press 0, stream 9, last sent in bar `bar`. -/
def held (bar : Nat) (record : Bool := true) (queued : Bool := false) : Desc := ⟨0, 9, 3, hdr 33, 0, 4, bar, bar, 1, 0, 0, queued, false, record⟩
/-- M0 holds this descriptor; its resend queue. -/
def darn (d : Desc) (q : List (Nat × Nat) := []) : State := { ways with score := { desc := [d], resendQ := if q = [] then [] else [(8, q)] } }
/-- A resend stored at M0. -/
def kept (h : BoltHdr) (exit : Option Nat) : Stored := ⟨8, h, pay1, crc32c pay1, false, false, exit, 0, 1⟩
def keeping (x : Stored) : State := { ways with score := { stored := [x] } }
/-- The same while the Score plays bars of 1,024 beats. -/
def keepingOn (x : Stored) : State := { keeping x with tempo := { k := 10, d64 := 1, running := true } }

/-! ### The Tack plane (10_tack_plane.md) -/

/-- A tack of this kind for unit `dunit`, with these payload bytes, that came over a link into M0. -/
def tck (kind dunit : Nat) (pay : List Byte) (dest : Nat := 0) (age : Nat := 0) : Tack :=
  ⟨hset 40 8 age (hset 24 12 5 (hset 17 1 1 (slice (tackHeader dest 0 0 dunit kind ++ pay) 0 32))), none, none, none, 8, none⟩
/-- A return field of this tag, for die d. -/
def ret (d tag : Nat) (wash : Nat := 0) : List Byte := leBytes 2 7 ++ leBytes 1 d ++ leBytes 1 tag ++ leBytes 2 wash
/-- M0 is at the origin of a 4 × 4 grid without wraps and without fences, link 0 UP. -/
def grid : State := ((ways.setReg RNK_FENCE [8] 0).setReg TCK_GRID [8] 0x0100_0003_0300_0000).setReg RNK_TABLE [8, 1] 0x17
/-- The same with its tacks. -/
def tacks (x : TackPlane) : State := { grid with tacks := x }
/-- A tack on its way to the unit on die d. -/
def reach (d : Nat) (t : Tack) : State := { fitted8 with tacks := { inPkg := [(d, t)] } }
/-- The same with an inbox of n tacks on die d. -/
def boxed (d n : Nat) (t : Tack) : State := { fitted8 with tacks := { inPkg := [(d, t)], inbox := [(d, List.replicate n (List.replicate 32 1))] } }
/-- Die d holds this token. -/
def tokened (d : Nat) (k : Token) (l : List (Nat × Tack)) : State := { up with tacks := { tokens := [(d, [k])], inPkg := l } }
/-- A knot or snag for SEQ 3 of stream 9. -/
def knotFor (kind : Nat) (rem : Nat := 0) : Tack := tck kind 8 (leBytes 2 9 ++ leBytes 2 3 ++ leBytes 8 1 ++ leBytes 1 rem)
/-- That tack at M0, which holds this descriptor. -/
def knotted (t : Tack) (d : List Desc) : State := { ways with score := { desc := d }, tacks := { inPkg := [(8, t)] } }

/-! ### Ranks, slices and legacy links (11_ranks_slices.md, 12_mixed_generations.md) -/

/-- A Rank Table entry: a valid KL3 rank of chip 1 at the origin. -/
def entry : List Byte := leBytes 8 0x10_0007
/-- A package whose two grids are valid. -/
def grids : State := grid.setReg TCK_GRID [9] 0x0100_0003_0300_0000
/-- A RANK_TABLE_WRITE for both dies: `n` entries from `first` on. -/
def rtw (first n : Nat) (fl : Nat := 3) (inl : List Byte := entry) : Cmd := cmd 0x0401 (leBytes 2 first ++ leBytes 1 n ++ leBytes 1 fl) 0xF inl
/-- Link 0 has profile `p`, is in state `st`, and its bridge holds `x`. -/
def bridge (p st : Nat) (x : Legacy) (s : State := grid) : State :=
  { (s.setF LNK_STATUS (lnk 0) LNK_STATUS.PROFILE p).setF LNK_STATUS (lnk 0) LNK_STATUS.STATE st with legacy := if x = {} then [] else [(0, x)] }
/-- A G1 packet. -/
def g1 (ptype flags cred len kinds : Nat) : List Byte := g1Packet ptype flags cred len 5 6 kinds 0 []

/-! ### Interrupts and the event log (13_control_die_interrupts.md) -/

/-- Source n with these fields. -/
def src (n : Nat) (l : List (Fld × Nat)) (s : State := up) : State := l.foldl (fun s x => s.setF ICU_SRC [n] x.1 x.2) s
/-- Press die 0's tempo fault asserts source 128. -/
def line128 : State := up.setBit SCR_TEMPO_FAULT [0] SCR_TEMPO_FAULT.FAULT
/-- Source 1023 is pending, with EVCOUNT 3 and SAT, above target 31's threshold. -/
def pending : State :=
  (src 1023 [(ICU_SRC.PRIO, 31), (ICU_SRC.PENDING, 1), (ICU_SRC.EVCOUNT, 3), (ICU_SRC.SAT, 1)]).setReg ICU_ENABLE [31, 31] 0x8000_0000
/-- Target t has this stack. -/
def stacked (t : Nat) (x : Target) (s : State := up) : State := { s with icu := { targets := [(t, x)] } }
/-- Die 3's oldest event; what the arbiter holds. -/
def ev : Ev := ⟨3, 5, 6, 1, 7⟩
def arbiter (x : Arbiter) (s : State := up) : State := { s with arb := x }
/-- A record that waits for the ring, which is enabled, in the carve of die 1's stack or in host memory. -/
def logging (host : Bool) (rd : Nat := 0) : State :=
  let s := arbiter { staged := [⟨1, 2, ev⟩] } fitted8
  let s := ((s.setF EVA_CFG [] EVA_CFG.ENABLE 1).setF EVA_CFG [] EVA_CFG.HOST (b2n host)).setF EVA_RD [] EVA_RD.INDEX rd
  ((s.setReg EVA_BASE [] 0xA_0000_0000).setBit CMD_IF_STATUS [] CMD_IF_STATUS.LINK_UP).setBit CMD_IF_STATUS [] CMD_IF_STATUS.BME
/-- EVENT_LOG_CONFIG. -/
def elc (base l fl th : Nat) : Cmd := cmd 0x0602 (leBytes 8 base ++ leBytes 1 l ++ leBytes 1 fl ++ leBytes 2 th)

/-! ### Host commands (14_host_commands.md) -/

/-- Ring r enabled with 16 slots: its TAIL, HEAD, CTAIL and CHEAD. -/
def ring (r tail head ctail chead : Nat) (s : State := up) : State :=
  let s := ((s.setF CMD_RING_CFG [r] CMD_RING_CFG.ENABLE 1).setF CMD_RING_STATUS [r] CMD_RING_STATUS.IDLE 0).setF CMD_RING_STATUS [r] CMD_RING_STATUS.HEAD head
  ((s.setF CMD_RING_PTR [r] CMD_RING_PTR.TAIL tail).setF CMD_RING_PTR [r] CMD_RING_PTR.CTAIL ctail).setF CMD_RING_PTR [r] CMD_RING_PTR.CHEAD chead
/-- Bus Master Enable is 1. -/
def mastered (s : State) : State := s.setBit CMD_IF_STATUS [] CMD_IF_STATUS.BME
/-- A command in flight on ring 0, whose completion ring is at its last slot. -/
def inFlight (c : Cmd) : State := { ring 0 1 1 15 0 with front := { inflight := [(c, 1)] } }
/-- STAGE_IN or STAGE_OUT of one host segment of `len` bytes at offset `off`. -/
def stage (op off len : Nat) : Cmd := cmd op (leBytes 8 off ++ leBytes 1 1) 0xF (leBytes 8 0x1000 ++ leBytes 4 len ++ leBytes 4 0)
/-- Section 3 of Press 255 waits to write its Board. -/
def waiting (s : State := up) : State := { s with sects := [(1023, { st := .running, next := 1, pendW := [(64, pay1)] })] }

/-! ### Network ports (15_network_ports.md) -/

/-- Port 0 of E0, up, with flow-control mode `fc`. -/
def port (fc : Nat) (x : EthPort) (s : State := fitted8) : State :=
  let s := (s.setBit ETH_PORT_STATUS [0] ETH_PORT_STATUS.LINK_UP).setF ETH_PORT_STATUS [0] ETH_PORT_STATUS.FC fc
  { s with eth := { s.eth with ports := if x = {} then [] else [(0, x)] } }
/-- Queue 0 of this kind, enabled, with a producer index. -/
def queue (kind tail : Nat) (x : EthQueue) (s : State := fitted8) : State :=
  let s := ((s.setF ETH_QSTATUS [0] ETH_QSTATUS.KIND kind).setBit ETH_QSTATUS [0] ETH_QSTATUS.ENABLED).setF ETH_QSTATUS [0] ETH_QSTATUS.TAIL tail
  { s with eth := { s.eth with queues := if x = {} then [] else [(0, x)] } }
/-- A data frame for all, without a tag, of 64 octets. -/
def frame (sec : Option SecTag := none) (fcs : Bool := true) : EthFrame := ⟨64, fcs, sec, List.replicate 12 0xFF ++ [0x12, 0x34] ++ List.replicate 46 7⟩
/-- A MAC Control frame. -/
def control (op : Nat) (body : List Byte) : List Byte := ({} : EthPort).control op body
/-- A secure association. -/
def sa (pn : Nat) : Sa := ⟨0x1_0100, List.replicate 32 5, 0, List.replicate 12 0, pn, 0, pn⟩
/-- A descriptor in progress: a frame read for TX_RAW, or a message. -/
def job (seq len : Nat) (data : Option (List Byte) := none) : EthJob := { seq := seq, off := 0x10000, len := len, tag := 3, notice := false, data := data, segs := 1, segSize := 64 }
/-- The ring of queue 0 holds this descriptor. -/
def withDesc (bs : List Byte) (s : State) : State := { s with mem := putBytes [] 0x20000 bs }
/-- An RBT packet in port 0's buffer, from an IPv4 peer. -/
def peer : List Byte := mapped4 [10, 0, 0, 1]
def got (pk : List Byte) : RxFrame := ⟨0, 128, .rbt peer 9, pk⟩
/-- Queue 0 is an RX_RBT, or TX_RBT, queue of flow 5 whose buffer holds a packet. -/
def rbt (kind : Nat) (x : EthQueue) (pk : List Byte) : State :=
  let s := queue kind 0 { x with log2n := 4, flow := 5, peerIp := if kind = 2 then peer else [] }
  { s with eth := { s.eth with ports := [(0, { rx := [got pk] })] } }
/-- A command to port 0 of E0. -/
def portCmd (op : Nat) (pars : List Byte) (inl : List Byte := []) : Cmd := cmd op pars 0x3B inl
/-- PORT_CONFIG of a 400G port with PFC, and PORT_QUEUE_CREATE's 64 inline bytes. -/
def cfg : List Byte := [3, 2, 1, 2, 3, 4, 5, 6] ++ leBytes 2 9216 ++ [2, 7, 0, 0]
def create (flow : Nat) : List Byte := leBytes 8 0x20000 ++ leBytes 8 0x40000 ++ List.replicate 34 0 ++ leBytes 4 flow ++ leBytes 4 0 ++ leBytes 2 1 ++ leBytes 4 0
/-- Key slot 0 holds a MACsec key. -/
def keyed (x : EthPort) : State := { port 0 x with sm := { up.sm with keys := [(0, { typ := 1, gen := 1, key := List.replicate 32 5 })] } }

/-! ### Unison (16_determinism.md) -/

/-- Unison is on and has compared from Score bar 1 on; the Score stands at bar 9. -/
def paired (x : Unison) (s : State := up) : State :=
  { (s.setF UN_CTRL [] UN_CTRL.PAIRED 1).setF GLB_MODE [] GLB_MODE.UNISON 1 with unison := { x with started := true }, tempo := { sbar := 9, running := true } }
/-- Metronome is on. -/
def metro (s : State := grid) : State := s.setF GLB_MODE [] GLB_MODE.METRONOME 1
/-- UNISON_PAIR with the partner rank r. -/
def pairCmd (act idx r us : Nat) : Cmd := cmd 0x0902 (leBytes 1 act ++ leBytes 1 idx ++ leBytes 2 r ++ leBytes 2 us)
/-- Entries of Score bar 5. -/
def digest (u st d : Nat) : UnEntry := ⟨5, u, st, d⟩
/-- The pending table holds these entries of bar 5 and both CLOSEs. -/
def barred (own peer : List UnEntry) (n p q : Nat) (s : State := up) : State :=
  paired { own := own, peer := peer, ownClose := [⟨5, 1, p⟩], peerClose := [⟨5, n, q⟩] } s
/-- UNISON_REPLAY: CAPTURE at an area of 40 MiB, REPLAY, RELEASE. -/
def replayCmd (act : Nat) : Cmd := cmd 0x0903 (leBytes 4 act ++ leBytes 4 40 ++ leBytes 8 0x4000_0000)
/-- A part with P0 and its stack only. -/
def tiny : State := up.setReg GLB_CAP0 [] 0x320101
/-- A complete capture of one bar. -/
def captured : State :=
  ((tiny.setF SCR_STATUS [0] SCR_STATUS.INSTALLED 1).setReg SCR_JOB [0] 0x77).setReg UN_CAPTURE [] 0xA
def snap : Snapshot := ⟨0x77, [(0, { st := .running })], [], [(boardBase, 3)], [], [(5, 1)], [], [], [], [], [], []⟩

/-! ### Books, notices and telemetry (17_books_notices.md, 20_operations_debug.md) -/

/-- M0's pool: 9 linens free, 5 allocated, one of them in transit. -/
def pool (s : State := up) : State :=
  let s := s.setF LIN_POOL [8] LIN_POOL.FREE 16378
  { (s.setF LIN_POOL [8] LIN_POOL.ALLOC 5).setF LIN_POOL [8] LIN_POOL.TRANSIT 1 with books := { linTransit := [(9, 3, false), (8, 2, true), (8, 1, false)] } }
/-- Notice unit u with these marks. -/
def marks (u lo hi : Nat) (s : State := up) : State := (s.setF NTC_MARKS [u] NTC_MARKS.LOW lo).setF NTC_MARKS [u] NTC_MARKS.HIGH hi
/-- CENSUS and TELEMETRY_SNAPSHOT. -/
def censusCmd (dest flags : Nat) : Cmd := cmd 0x0306 (leBytes 8 dest ++ leBytes 8 flags)
def snapCmd (dest mode groups g v i : Nat) : Cmd := cmd 0x0601 (leBytes 8 dest ++ leBytes 1 mode ++ leBytes 1 groups ++ leBytes 1 g ++ leBytes 1 v ++ leBytes 2 i)
/-- A census, or a snapshot, waits for its beat in the part with one Press die. -/
def counted (c : Cmd) (bar : Option Nat := none) (s : State := tiny) : State :=
  let s := s.wait .census c
  { s with front := { s.front with censusBar := bar } }
def snapping (c : Cmd) (s : State := tiny) : State := s.wait .snapshot c
/-- The first record of this kind. -/
def record (k : Nat) (s : State) : Record := ((s.records (fun _ => 0)).filter (fun r => r.kind == k)).headD { kind := k, die := 0, away := false }

/-! ### Resets and power (18_resets_power.md) -/

/-- The four commands of section 6 to a unit. -/
def power (op target : Nat) (force ps wash : Nat := 0) : Cmd := cmd op (leBytes 1 force ++ leBytes 1 ps ++ leBytes 2 wash) target
/-- A Press that runs, whose Board holds a byte, and which sourced a held descriptor. -/
def busyPress (p : Nat) (s : State := ways) : State :=
  { s with
    mem := [(boardBase + 0x0010_0000 * p, 7)], sects := [(4 * p + 3, { st := .running })], queues := [(6 * p, [load 1 2])]
    press := [(p, { part := [(0, 5)], words := 1, holds := [(1, 1)], holdN := 1 })]
    score := { desc := [{ held 4 with die := p / 32, press := p % 32 }], flights := [] } }
/-- Press p alone is folded, or in reset; die d is folded. -/
def foldedPress (p : Nat) (s : State := up) : State := s.setReg PWR_PFOLD [p / 32] (BitVec.ofNat 64 (2 ^ (p % 32)))
def resetPress (p : Nat) (s : State := up) : State := s.setReg RST_PRESS [p / 32] (BitVec.ofNat 64 (2 ^ (p % 32)))
def foldedDie (d : Nat) (s : State := up) : State := s.setReg PWR_DIE [] (BitVec.ofNat 64 (2 ^ d))
/-- Unit u's reset is asserted; c waits for it. -/
def asserted (u : Nat) (s : State := up) : State := { s with pwr := { s.pwr with asserted := [u] } }
/-- The Boards of die d have been zeroed. -/
def zeroed (d : Nat) (s : State := up) : State := (List.range 32).foldl (fun s k => s.setF PRS_STATUS [d, k] PRS_STATUS.ZEROING 0) s
/-- Press die 7 waits for service with all that R825 asks. -/
def returning : State :=
  (((zeroed 7 seamsThere).setReg RST_DIE [] 0x80).setF CLK_DIE [7] CLK_DIE.LOCKED 1).setReg RST_PRESS [7] 0xFFFF_FFFF
/-- Presses of die 1 wait for a higher P-state. -/
def rising (l : List (Nat × Nat)) (c : Cmd) (s : State := up) : State :=
  let s := (s.setF PWR_RAIL [1] PWR_RAIL.TARGET_MV 700).wait (.pstate 32) c
  { s with pwr := { s.pwr with rising := l } }
/-- P7 is throttled, and its HBM stack reported `t` °C. -/
def throttled7 (t : Nat) : State :=
  { (up.setF PWR_THERM [] PWR_THERM.THROTTLED 0x80).setF PWR_TEMP [7] PWR_TEMP.NOW 40 with pwr := { stackTemp := [(7, t)] } }

/-! ### Start-up (21_startup.md), resets of the package and firmware (18_resets_power.md) -/

/-- In cold reset, the reference locked to a live input. -/
def cold : State := State.reset.setReg CLK_REF_STATUS [] 0x3
/-- The boot at this stage, with FAIL. -/
def booting (stage fail : Nat) (sm : Nat := 0) : State :=
  let s := { cold with fw := { inCold := false } }
  (((s.setF CLK_DIE [10] CLK_DIE.LOCKED 1).setF RST_BOOT [] RST_BOOT.STAGE stage).setF RST_BOOT [] RST_BOOT.FAIL fail).setF SM_STATUS [] SM_STATUS.STATE sm
/-- An image of this kind: version 9, class 2, SVN 0, key slot 0, any stepping, a body of n zeros, key and signature of equal bytes. -/
def image (kind : Nat) (n : Nat := 0) : List Byte :=
  leBytes 4 0x3357_464B ++ leBytes 2 kind ++ leBytes 2 1 ++ leBytes 4 9 ++ leBytes 1 2 ++ leBytes 1 0 ++ leBytes 1 0 ++ leBytes 1 0 ++ leBytes 4 n ++
    leBytes 4 0xFFFF_FFFF ++ leBytes 40 0 ++ List.replicate 96 6 ++ List.replicate n 0 ++ List.replicate 96 7
/-- FW_STAGE of `len` bytes at `off`. -/
def stageCmd (off len flags : Nat) : Cmd := cmd 0x0A01 (leBytes 8 off ++ leBytes 4 len ++ leBytes 4 flags)
/-- A staged image; an activation of it by `c`. -/
def staged (cls : Nat := 0) (s : State := up) : State :=
  { (s.setBit AON_FW [] AON_FW.STAGED).setF AON_FW_STAGED [] AON_FW_STAGED.NFW_CLASS cls with fw := { s.fw with staged := some (image 2), running := [1] } }
def activating (c : Cmd) : State := { staged with fw := { staged.fw with activateCmd := some c, previous := [2] } }
def activate (force : Nat) : Cmd := cmd 0x0A02 [BitVec.ofNat 8 force]

/-! ### Security (19_security.md) -/

/-- The module is OPERATIONAL, or in state `n`. -/
def oper (n : Nat := 3) (s : State := up) : State := s.setF SM_STATUS [] SM_STATUS.STATE n
/-- SM_SESSION_OPEN, without a session. -/
def openCmd (phase role key id : Nat) (inl : List Byte := []) : Cmd :=
  let c := cmd 0x0701 (leBytes 1 phase ++ leBytes 1 role ++ leBytes 2 key ++ leBytes 4 id) 0xF inl
  { c with slot := overlay c.slot 12 (leBytes 4 0) }
/-- SM_SERVICE with session 1. -/
def svc (n flags : Nat) (rest : List Byte := []) (inl : List Byte := []) : Cmd := cmd 0x0702 (leBytes 1 n ++ leBytes 1 flags ++ rest) 0xF inl
/-- A challenge for User key 15 on transport H. -/
def challenge (id : Nat) : Challenge := ⟨.H, id, 1, 15, List.replicate 12 8⟩
/-- OPERATIONAL with this much of the module. -/
def module_ (f : Sm → Sm) (s : State := oper) : State := { s with sm := f s.sm }
/-- The same with challenge 6, and User key 15 in the store. -/
def challenged (n : Nat := 2) : State :=
  module_ (fun x => { x with challenges := [challenge 5, challenge 6], store := { userKeys := [(15, List.replicate 96 4)] }, fails := [(0, 7)], sessions := (List.range n).map (fun i => ⟨BitVec.ofNat 32 (i + 1), .user, .H⟩) })
/-- Key slot 5 holds a key of this type, of generation 1. -/
def slot5 (typ : Nat) : KeySlot := { typ := typ, gen := 1, bound := if typ = 3 then 5 else 0, key := List.replicate 32 5 }
def withKey (typ : Nat) (s : State := oper) : State := module_ (fun x => { x with keys := [(5, slot5 typ)] }) s
def handle5 (typ : Nat) : List Byte := leBytes 4 (5 + 256 * typ + 65536)
/-- No key slot is empty. -/
def fullKeys (s : State := oper) : State := module_ (fun x => { x with keys := (List.range 64).map (fun i => (i, slot5 2)) }) s
/-- SLICE_WRAP or SLICE_UNWRAP of 64 KiB. -/
def wrapCmd (n off : Nat) : Cmd := svc n 0 (handle5 3 ++ leBytes 8 off ++ leBytes 2 64)
/-- The mailbox holds this slot. -/
def mailbox (c : Cmd) (s : State := oper) : State :=
  let s := { s with fw := { s.fw with coresHeld := false } }
  (List.range 32).foldl (fun s i => s.setReg SM_MBOX_SLOT [i] (BitVec.ofNat 64 (leAt c.slot (8 * i) 8))) s

/-! ### Register accesses (00_overview.md) -/

/-- The address of a register in BAR0; the part of it, or the half that an access to it reaches. -/
def bar0 (r : Reg) (ix : List Nat) : BitVec 26 := BitVec.ofNat 26 (r.addr ix)
def whole (r : Reg) (ix : List Nat) : RegPart := ⟨r, ix, 0, r.width / 8, 0⟩
/-- The access fault register already holds one. -/
def faulted : State := up.setBit CMD_ACCESS_FAULT [] CMD_ACCESS_FAULT.FAULT
/-- A part without Press die 7. -/
def without7 : State := up.setReg GLB_CAP0 [] 0x33FF7F

/-! ### Test port and sideband (20_telemetry_management.md) -/

/-- The test port holds this instruction and selection; the debug lock is open, or closed. -/
def tap (ir sel : Nat) (s : State := up) : State := { s with tap := { ir := ir, sel := sel } }
/-- A debug access word. -/
def dbg (op addr v : Nat) : BitVec 96 := BitVec.ofNat 96 (op * 2 ^ 90 + addr * 2 ^ 64 + v)
/-- The part has the sideband address 0x2A, or HEM_IN is high and it has none. -/
def addressed (s : State := up) : State := (s.setBit SMB_ADDR [] SMB_ADDR.AV).setF SMB_ADDR [] SMB_ADDR.ADDR 0x2A
def asking : State := up.setBit SMB_ADDR [] SMB_ADDR.HEM_IN
def sideband (x : Smb) (s : State := addressed) : State := { s with smb := x }

/-! ### Signed images -/

/-- The booting part with images of this kind in these regions of the flash; key slot 0 of the fuses holds the digest of their key. -/
def flashed (stage sm kind : Nat) (regions : List Nat) : State :=
  let s := booting stage 0 sm
  { s with
    flash := regions.flatMap (fun r => (image kind).zipIdx.map (fun x => (regionAt kind r + x.2, x.1)))
    fuses := { s.fuses with rootDigest := [Config.sha384 (List.replicate 96 6)] } }
/-- The signature of the image verifies; the curve is the part's, so this is a hypothesis on the opaque primitive. -/
def Signed (kind : Nat) (n : Nat := 0) : Prop := Config.ecdsaVerifies (List.replicate 96 6) ((image kind n).take (n + 160)) ((image kind n).drop (n + 160)) = true

/-- An image with a good signature passes the checks of R865. -/
theorem image_passes {s : State} {rom : Bool} {kind n : Nat} (hk : (kind = 1 ∧ n = 0) ∨ (kind = 2 ∧ n = 0) ∨ (kind = 2 ∧ n = 3840)) (h : Signed kind n)
    (hf : s.fuses = { factoryFuses with rootDigest := [Config.sha384 (List.replicate 96 6)] }) (hr : rom = true ∨ s.smState = 3) :
    s.imageReason (image kind n) kind rom = none := by
  have hs : slice (image kind n) 64 96 = List.replicate 96 6 := by rcases hk with ⟨rfl, rfl⟩ | ⟨rfl, rfl⟩ | ⟨rfl, rfl⟩ <;> decide +kernel
  have h0 : imageHdrBad (image kind n) kind = false := by rcases hk with ⟨rfl, rfl⟩ | ⟨rfl, rfl⟩ | ⟨rfl, rfl⟩ <;> decide +kernel
  have hl : (image kind n).length = n + 256 := by rcases hk with ⟨rfl, rfl⟩ | ⟨rfl, rfl⟩ | ⟨rfl, rfl⟩ <;> decide +kernel
  have hn : leAt (image kind n) 0x10 4 = n := by rcases hk with ⟨rfl, rfl⟩ | ⟨rfl, rfl⟩ | ⟨rfl, rfl⟩ <;> decide +kernel
  have hm : leAt (image kind n) 0x14 4 = 0xFFFF_FFFF := by rcases hk with ⟨rfl, rfl⟩ | ⟨rfl, rfl⟩ | ⟨rfl, rfl⟩ <;> decide +kernel
  have hx : leAt (image kind n) 0x0E 1 = 0 := by rcases hk with ⟨rfl, rfl⟩ | ⟨rfl, rfl⟩ | ⟨rfl, rfl⟩ <;> decide +kernel
  have hv : leAt (image kind n) 0x0D 1 = 0 := by rcases hk with ⟨rfl, rfl⟩ | ⟨rfl, rfl⟩ | ⟨rfl, rfl⟩ <;> decide +kernel
  have hb : Nat.testBit 0xFFFF_FFFF 1 = true := by decide
  have hd : n + 256 - 96 = n + 160 := by omega
  unfold State.imageReason
  unfold Signed at h
  simp only [hs, h0, hl, hn, hm, hx, hv, hf, hd, h, factoryFuses]
  rcases hr with rfl | hr
  · simp [hb, Nat.add_comm]
  · simp [hb, hr, Nat.add_comm]

/-- A region of the flash that holds a good image. -/
theorem boot_passes {s : State} {r kind : Nat} (hk : kind = 1 ∨ kind = 2) (h : Signed kind)
    (hf : s.fuses = { factoryFuses with rootDigest := [Config.sha384 (List.replicate 96 6)] })
    (hb : s.flashBytes (regionAt kind r) 64 = (image kind).take 64 ∧ s.flashBytes (regionAt kind r) 256 = image kind) :
    s.bootImage kind r = (image kind, none) := by
  have h0 : imageHdrBad ((image kind).take 64) kind = false := by rcases hk with rfl | rfl <;> decide +kernel
  have hn : leAt ((image kind).take 64) 0x10 4 = 0 := by rcases hk with rfl | rfl <;> decide +kernel
  have hz : ¬regionSize kind < 256 := by rcases hk with rfl | rfl <;> decide
  unfold State.bootImage
  simp only [hb.1, h0, hn, hb.2, image_passes (n := 0) (by rcases hk with h | h <;> simp [h]) h hf (.inl rfl)]
  simp [hz]

theorem witness_BootStages_images (h1 : Signed 1) (h2 : Signed 2) :
    (∃ (s : State) (img : List Byte), s.BootAt 3 ∧ s.smState = 0 ∧ s.bootF RST_BOOT.FAIL ≠ 1 ∧ s.bootImage 1 (s.copyA 1) = (img, none)) ∧
    (∃ (s : State) (x img : List Byte) (ra : Nat), s.BootAt 3 ∧ s.smState = 0 ∧ s.bootF RST_BOOT.FAIL ≠ 1 ∧
      s.bootImage 1 (s.copyA 1) = (x, some ra) ∧ s.bootImage 1 (1 - s.copyA 1) = (img, none)) ∧
    (∃ (s : State) (img : List Byte), s.BootAt 5 ∧ (s.smState = 2 ∨ s.smState = 3) ∧ s.bootImage 2 (s.copyA 2) = (img, none)) ∧
    (∃ (s : State) (x img : List Byte) (ra : Nat), s.BootAt 5 ∧ (s.smState = 2 ∨ s.smState = 3) ∧ s.bootImage 2 (s.copyA 2) = (x, some ra) ∧
      s.bootImage 2 (1 - s.copyA 2) = (img, none)) ∧
    (∃ (s : State) (img : List Byte), s.wf ∧ tok {} s.icu.targets = true ∧ s.bootF RST_BOOT.STAGE = 6 ∧ s.fw.coresHeld = false ∧
      s.bit CMD_IF_STATUS [] CMD_IF_STATUS.FW_READY = false ∧ s.bootF RST_BOOT.COPY_FW = 0 ∧ s.bootImage 2 (1 - s.fw.region) = (img, none)) := by
  refine ⟨⟨flashed 3 0 1 [0], image 1, ?_, ?_, ?_, ?_⟩, ⟨flashed 3 0 1 [1], [], image 1, 1, ?_, ?_, ?_, ?_, ?_⟩,
    ⟨flashed 5 2 2 [0], image 2, ?_, ?_, ?_⟩, ⟨flashed 5 3 2 [1], [], image 2, 1, ?_, ?_, ?_, ?_⟩,
    ⟨{ flashed 6 2 2 [1] with fw := { inCold := false, coresHeld := false } }, image 2, ?_, ?_, ?_, ?_, ?_, ?_, ?_⟩⟩
  · unfold State.BootAt State.wf; decide +kernel
  · decide +kernel
  · decide +kernel
  · rw [show (flashed 3 0 1 [0]).copyA 1 = 0 by decide +kernel]; exact boot_passes (.inl rfl) h1 rfl (by decide +kernel)
  · unfold State.BootAt State.wf; decide +kernel
  · decide +kernel
  · decide +kernel
  · decide +kernel
  · rw [show (flashed 3 0 1 [1]).copyA 1 = 0 by decide +kernel]; exact boot_passes (.inl rfl) h1 rfl (by decide +kernel)
  · unfold State.BootAt State.wf; decide +kernel
  · decide +kernel
  · rw [show (flashed 5 2 2 [0]).copyA 2 = 0 by decide +kernel]; exact boot_passes (.inr rfl) h2 rfl (by decide +kernel)
  · unfold State.BootAt State.wf; decide +kernel
  · decide +kernel
  · decide +kernel
  · rw [show (flashed 5 3 2 [1]).copyA 2 = 0 by decide +kernel]; exact boot_passes (.inr rfl) h2 rfl (by decide +kernel)
  · unfold State.wf; decide +kernel
  · decide +kernel
  · decide +kernel
  · decide +kernel
  · decide +kernel
  · decide +kernel
  · exact boot_passes (.inr rfl) h2 rfl (by decide +kernel)

theorem leBytes_length (n : Nat) : ∀ v : Nat, (leBytes n v).length = n := by
  induction n with
  | zero => intro; rfl
  | succ n ih => intro v; simp [leBytes, ih]
theorem image_length (kind n : Nat) : (image kind n).length = n + 256 := by
  simp only [image, List.length_append, leBytes_length, List.length_replicate]; omega
/-- A read of device memory over which bytes were laid gives those bytes. -/
theorem readMem_putBytes (s : State) (o : Nat) (bs : List Byte) (h : s.mem = putBytes [] o bs) : s.readMem o bs.length = bs := by
  apply List.ext_getElem
  · simp [State.readMem]
  · intro i h1 h2
    have := putBytes_at bs (m := []) o i rfl h2
    simpa [State.readMem, State.mbyte, h, List.getD, h2] using this
/-- Device memory holds these bytes from 0x1000 on, and the module is OPERATIONAL. -/
def stageable (bs : List Byte) : State :=
  { oper 3 fitted8 with mem := putBytes [] 0x1000 bs, fuses := { factoryFuses with rootDigest := [Config.sha384 (List.replicate 96 6)] } }
theorem stageable_facts (bs : List Byte) :
    (stageable bs).Accepts (stageCmd 0x1000 0x1000 1) 0x0A01 ∧ (stageable bs).rangeMapped 0x1000 0x1000 = true ∧ (stageable bs).rangeAway 0x1000 0x1000 = none ∧
      (stageable bs).smState = 3 ∧ Registers.wf (stageable bs).regs = true := by
  show (oper 3 fitted8).Accepts (stageCmd 0x1000 0x1000 1) 0x0A01 ∧ (oper 3 fitted8).rangeMapped 0x1000 0x1000 = true ∧ (oper 3 fitted8).rangeAway 0x1000 0x1000 = none ∧
      (oper 3 fitted8).smState = 3 ∧ Registers.wf (oper 3 fitted8).regs = true
  unfold State.Accepts
  decide +kernel
theorem stageable_mem (bs : List Byte) : Memory.wf (stageable bs).mem = true := putBytes_tok bs 0x1000 rfl
theorem stageable_read (bs : List Byte) : (stageable bs).readMem 0x1000 bs.length = bs := readMem_putBytes _ 0x1000 bs rfl
theorem stageable_fuses (bs : List Byte) : (stageable bs).fuses = { factoryFuses with rootDigest := [Config.sha384 (List.replicate 96 6)] } := rfl
theorem stageable_flash (bs : List Byte) : tok 0xFF (stageable bs).flash = true := by show tok 0xFF (oper 3 fitted8).flash = true; decide +kernel
theorem stageCmd_pars : (stageCmd 0x1000 0x1000 1).par 0 8 = 0x1000 ∧ (stageCmd 0x1000 0x1000 1).par 8 4 = 0x1000 ∧ (stageCmd 0x1000 0x1000 1).par 12 1 = 1 ∧
    (stageCmd 0x1000 0x1000 1).par 13 3 = 0 := by decide +kernel
theorem witness_FirmwareUpdates_image (h : Signed 2 3840) :
    ∃ (c : Cmd) (s : State), s.wf ∧ s.Accepts c 0x0A01 ∧ ¬s.StageBad c ∧ s.rangeAway (c.par 0 8) (c.par 8 4) = none ∧
      s.StageReason (s.readMem (c.par 0 8) (c.par 8 4)) (c.par 12 1) = none ∧ tok 0xFF s.flash = true := by
  obtain ⟨p0, p8, p12, p13⟩ := stageCmd_pars
  obtain ⟨ha, hm, hw, ho, hr⟩ := stageable_facts (image 2 3840)
  refine ⟨stageCmd 0x1000 0x1000 1, stageable (image 2 3840), ⟨stageable_mem _, hr⟩, ha, ?_, ?_, ?_, ?_⟩
  · unfold State.StageBad; rw [p0, p8, p12, p13, hm]; decide
  · rw [p0, p8, hw]
  · have hi : (stageable (image 2 3840)).readMem 0x1000 0x1000 = image 2 3840 := by
      have := stageable_read (image 2 3840)
      rwa [image_length] at this
    rw [p0, p8, p12, hi]
    have hk : leAt (image 2 3840) 4 2 = 2 := by decide +kernel
    have hp : (stageable (image 2 3840)).imageReason (image 2 3840) 2 false = none := image_passes (.inr (.inr ⟨rfl, rfl⟩)) h (stageable_fuses _) (.inr ho)
    unfold State.StageReason
    simp [hk, hp, regionSize, image_length]
  · exact stageable_flash _

/-! ### Ill-formed terms -/

/-- A command of this many slot bytes. -/
def sized (n : Nat) : Cmd := { via := .H, ring := 0, slot := List.replicate n 0 }
theorem test_short_slot_refused : (sized 255).wellFormed = false ∧ (sized 257).wellFormed = false ∧ (sized 256).wellFormed = true := by decide +kernel
theorem test_short_flit_refused : (Instr.countinReceive 0 (List.replicate 63 0)).wellFormed = false ∧
    (Instr.downbeatReceive 0 (List.replicate 65 0) 0).wellFormed = false ∧ (Instr.linkFlitReceive 0 [] 0 0).wellFormed = false ∧
    (Instr.linkFlitReceive 0 (List.replicate 64 0) 0 0).wellFormed = true := by decide +kernel
theorem test_short_tack_refused : (Instr.tackLinkArrival 0 (List.replicate 31 0)).wellFormed = false ∧
    (Instr.tackLinkArrival 0 (List.replicate 32 0)).wellFormed = true := by decide +kernel
theorem test_empty_bolt_refused : (Instr.boltLinkArrival 0 [] false false ⟨0, 0, 0⟩).wellFormed = false ∧
    (Instr.boltLinkArrival 0 [List.replicate 64 0, List.replicate 60 0] false false ⟨0, 0, 0⟩).wellFormed = false := by decide +kernel
theorem test_short_codeword_refused : (Instr.codewordReceive 0 ⟨none, false, 0, 0, List.replicate 9 (List.replicate 64 0), 0⟩).wellFormed = false ∧
    (Instr.codewordReceive 0 ⟨none, true, 0, 0, [[0]], 0⟩).wellFormed = false ∧
    (Instr.codewordReceive 0 ⟨none, false, 0, 0, List.replicate 10 (List.replicate 64 0), 0⟩).wellFormed = true := by decide +kernel
theorem test_short_packet_refused : (Instr.g1SegReceive 0 [0]).wellFormed = false ∧ (Instr.g1MsgReceive 0 [0]).wellFormed = false ∧
    (Instr.g1CreditReceive 0 [0]).wellFormed = false ∧ (Instr.g1InitReceive 0 (List.replicate 257 0)).wellFormed = false := by decide +kernel
theorem test_short_fetch_refused : (Instr.commandFetch [0] true).wellFormed = false ∧ (Instr.commandFetch [] false).wellFormed = true := by decide +kernel
theorem test_window_access_refused : (Instr.boardWindowAccess 0 0 0 none).wellFormed = false ∧
    (Instr.boardWindowAccess 0 0 4 (some [0])).wellFormed = false ∧ (Instr.boardWindowAccess 0 0 1 (some [0])).wellFormed = true := by decide +kernel
theorem test_sideband_sizes_refused : (Instr.arpAssignAddress [0] 0).wellFormed = false ∧ (Instr.smbWriteSlotLow (List.replicate 129 0) none).wellFormed = false ∧
    (Instr.smbWriteSlotHigh 0 (List.replicate 129 0) none).wellFormed = false ∧ (Instr.smbWriteSlotLow (List.replicate 128 0) none).wellFormed = true := by
  decide +kernel
theorem test_bad_command_refused : (Instr.scoreLoad (sized 16)).wellFormed = false ∧ (Instr.stageIn (sized 16) [] none).wellFormed = false ∧
    (Instr.smService (sized 0) none).wellFormed = false ∧ (Instr.census (sized 256)).wellFormed = true := by decide +kernel

/-! ### The worked cases of the spec -/

/-- The bytes of "123456789", over which the check values of CRCs are given (R457, R512, R772). -/
def digits : List Byte := [0x31, 0x32, 0x33, 0x34, 0x35, 0x36, 0x37, 0x38, 0x39]
theorem test_crc_check_values : crc32c digits = 0xE3069283 ∧ digits.foldl crc8Byte 0 = 0xF4 ∧ crc64 0 digits = 0x6C40DF5F0B497347 := by decide +kernel

/-- Worked case 4.1 of 00_scope.md: a KL3-B9. -/
def b9 : State := (State.reset.setReg GLB_CAP0 [] 0x3C7777)
/-- The state after commands, done one after another. -/
def after : State → List Instr → Option State
  | s, [] => some s
  | s, i :: is => match exec i s with
    | .next t => after t is
    | _ => none
theorem test_absent_access_counts : (after b9 [.absentUnitRead .host 0xB0_0000 4, .absentUnitWrite .host 0x140_0000 4 1]).map (fun s => s.reg GLB_ABSENT_ACCESS []) =
    some 0x000B_0203 := by decide +kernel
theorem test_absent_access_clears : (after (b9.setReg GLB_ABSENT_ACCESS [] 0x000B_0203) [.registerWrite .host 0x40 4 1]).map (fun s => s.reg GLB_ABSENT_ACCESS []) =
    some 0x2 := by decide +kernel

/-- Worked case 5.1 of 06_conductor.md: the entries of A.P2 and B.P6. -/
theorem test_rest_entry : parseEntry ([1, 0, 0, 0, 0x0C, 0, 0, 0] ++ List.replicate 24 0) = some (.rest false 12 0) := by decide +kernel
theorem test_move_entry : parseEntry ([0x10, 0, 0xE8, 3, 9, 8, 0x60, 0, 0x7F, 5, 0x21, 0, 0x41, 0, 0xD4, 0, 0x80, 2] ++ List.replicate 14 0) =
    some (.send false 1000 9 0 1 0x60 0x7F 5 0x21 0x41 0xD4 0x280 0) := by decide +kernel
theorem test_cue_entry : parseEntry ([0x20, 0, 0xB4, 5, 0, 0, 0x10, 0, 0x12, 1, 5, 1, 0, 0, 0, 0] ++ List.replicate 16 0) =
    some (.cue 1460 0x100000 2 1 [(5, 1)]) := by decide +kernel

/-- Worked case 1.1 of 09_score_plane.md: the header of that bolt. -/
theorem test_bolt_header_bytes :
    leBytes 16 (BoltHdr.nat ⟨7, 0x40, 0x41, 5, 0x21, 0x280, 0xD4, 5, 0x7F, 1⟩) =
      [0x07, 0x00, 0x40, 0x00, 0x41, 0x00, 0x05, 0x10, 0x02, 0x80, 0xA2, 0x2E, 0xF8, 0x07, 0x00, 0x00] := by decide +kernel
theorem test_bolt_header_fields : BoltHdr.ofNat (leNat [0x07, 0x00, 0x40, 0x00, 0x41, 0x00, 0x05, 0x10, 0x02, 0x80, 0xA2, 0x2E, 0xF8, 0x07, 0x00, 0x00]) =
    ⟨7, 0x40, 0x41, 5, 0x21, 0x280, 0xD4, 5, 0x7F, 1⟩ := by decide +kernel

/-- Worked case 5.1 of 11_ranks_slices.md: the entry of rank 37. -/
theorem test_rank_entry : entGen 0x0000_0001_1650_8217 = 3 ∧ entX 0x0000_0001_1650_8217 = 1 ∧ entY 0x0000_0001_1650_8217 = 1 ∧ entZ 0x0000_0001_1650_8217 = 2 ∧
    bits 0x0000_0001_1650_8217 35 20 = 0x1165 := by decide +kernel

/-- Worked case 6.1 of 05_press_instructions.md: four words of the part. -/
theorem test_part_words : decodeWord 0x1810_0000_0000_0000 = some ⟨false, 1, .azero 0⟩ ∧ decodeWord 0x1010_0048_0000_2C00 = some ⟨false, 1, .tld 18 false 11⟩ ∧
    decodeWord 0x2010_5200_0000_0000 = some ⟨false, 1, .mma 0 1 18 0 0⟩ ∧ decodeWord 0x1111_8000_0000_3000 = some ⟨false, 1, .tst 6 false 12⟩ := by decide +kernel
theorem test_reserved_word_refused : decodeWord 0x0710_0000_0000_0000 = none ∧ decodeWord 0x1810_0000_0000_0001 = none := by decide +kernel

/-- Worked case 5.1 of 13_control_die_interrupts.md: sources 260 and 396 at target 6. -/
def targeted (n p : Nat) (stack : List (Nat × Nat)) : State :=
  stacked 6 { stack := stack } (((src n [(ICU_SRC.PENDING, 1), (ICU_SRC.EVCOUNT, 1), (ICU_SRC.PRIO, p)]).setF ICU_THRESHOLD [6] ICU_THRESHOLD.THRESHOLD 4).setReg
    ICU_ENABLE [6, n / 32] (BitVec.ofNat 64 (2 ^ (n % 32))))
theorem test_claim_value : (after (targeted 260 10 []) [.icuClaim (.core 3 true) 6]).map (fun s => (s.front.readData, (s.target 6).stack)) =
    some (0x0001_2904, [(260, 10)]) := by decide +kernel
theorem test_nested_claim_value : (after (targeted 396 20 [(260, 10)]) [.icuClaim (.core 3 true) 6]).map (fun s => (s.front.readData, (s.target 6).stack)) =
    some (0x0001_518C, [(260, 10), (396, 20)]) := by decide +kernel
theorem test_equal_priority_waits : (after (targeted 290 10 [(260, 10)]) [.icuClaim (.core 3 true) 6]).map (fun s => s.front.readData) = some 0 := by decide +kernel

/-- Worked case 6.1 of 14_host_commands.md: slot 5 and its completion. -/
def slotFive : Cmd :=
  { via := .H, ring := 3
    slot := [0x03, 0x02, 0x01, 0x01, 0x34, 0x12, 0, 0, 0x0F, 0, 0x18, 0, 0x91, 0x2E, 0x40, 0x7B, 0x40, 0, 0, 0, 0x0C, 0] ++ List.replicate 234 0 }
theorem test_slot_fields : slotFive.opcode = 0x0203 ∧ slotFive.tag = 0x1234 ∧ slotFive.target = 0xF ∧ slotFive.inlineLen = 24 ∧ slotFive.session = 0x7B40_2E91 ∧
    slotFive.par 0 8 = 0x000C_0000_0040 ∧ slotFive.wellFormed = true := by decide +kernel
theorem test_completion_bytes : (Cpl.bytes { via := .H, ring := 3, tag := 0x1234, opcode := 0x0203, status := 0, phase := 1, head := 7, result := leBytes 4 24 }).take 20 =
    [0x34, 0x12, 0, 0, 0x03, 0x02, 0, 1, 7, 0, 3, 0, 0, 0, 0, 0, 0x18, 0, 0, 0] := by decide +kernel

/-- Worked case 3.1 of 17_books_notices.md: the linen record of M0. -/
theorem test_linen_record : (((((up.setF LIN_POOL [8] LIN_POOL.FREE 15179).setF LIN_POOL [8] LIN_POOL.ALLOC 1203).setF LIN_POOL [8] LIN_POOL.TRANSIT 2).linenRecord 8 1).checked.bytes) =
    [0x01, 0x08, 0x00, 0x02, 0x4B, 0x3B, 0, 0, 0xB3, 0x04, 0, 0, 0x02, 0, 0, 0, 0, 0x40, 0, 0, 0x01, 0, 0, 0, 0, 0, 0, 0, 0, 0, 0, 0] := by decide +kernel
/-- Worked case 4.1 of 17_books_notices.md: unit 1. -/
def unit1 : State :=
  (((up.setF NTC_MARKS [1] NTC_MARKS.HIGH 12000).setF NTC_MARKS [1] NTC_MARKS.LOW 8000).setF NTC_STATUS [1] NTC_STATUS.UPCOUNT 4).setF NTC_STATUS [1] NTC_STATUS.ARMED 1
theorem test_notice_unit : (((unit1.noticeUpdate 1 12100 12350 11200).noticeUpdate 1 11500 12900 11000).noticeUpdate 1 7950 9100 7900).reg NTC_STATUS [1] = 0x0005_0007 ∧
    (((unit1.noticeUpdate 1 12100 12350 11200).noticeUpdate 1 11500 12900 11000).noticeUpdate 1 7950 9100 7900).getF NTC_PEAK [1] NTC_PEAK.PEAK = 12900 := by decide +kernel

/-- R920: a KL3-B11 at stepping B0. -/
theorem test_idcode : ((State.reset.setF GLB_ID [] GLB_ID.VARIANT 1).setF GLB_ID [] GLB_ID.STEPPING 2).idcode = 0x2330_156B := by decide +kernel

/-- An invariant that every step keeps has a state to begin with. -/
theorem witness_EveryStepKeeps : ∃ s : State, s.Inv ∧ s.pending ≠ [] := ⟨{ up with pending := [.tapReset] }, by unfold State.Inv State.wf; decide +kernel, by decide⟩

/-! ### Witnesses: states and operands that meet the hypotheses of each statement -/

theorem witness_BarBoundaryCounts :
    (∃ (s : State), s.tempo.running = true ∧ s.barDone = true ∧ (s.tempo.isGated = false ∨ s.gatesOpen = true) ∧ s.unison.replay = none ∧ s.NoStopDue) ∧
    (∃ (s : State), s.tempo.running = true ∧ s.barDone = true ∧ (s.tempo.isGated = false ∨ s.gatesOpen = true) ∧ s.unison.replay = none ∧ s.NoStopDue) ∧
    (∃ (n : BitVec 32) (s : State), s.tempo.running = true ∧ s.tempo.isGated = true ∧ s.barDone = true ∧ s.gatesOpen = true ∧ s.unison.replay = none ∧ s.NoStopDue) ∧
    (∃ (s : State) (a : CountIn), s.tempo.accepted = some a) :=
  ⟨⟨playing, by decide +kernel, by decide +kernel, by decide +kernel, by decide +kernel, no_stop (by decide +kernel)⟩,
   ⟨gated, by decide +kernel, by decide +kernel, by decide +kernel, by decide +kernel, no_stop (by decide +kernel)⟩,
   ⟨5, gated, by decide +kernel, by decide +kernel, by decide +kernel, by decide +kernel, by decide +kernel, no_stop (by decide +kernel)⟩,
   ⟨counting, ⟨8, 0, 64, 0, 64, 1, [8]⟩, by decide +kernel⟩⟩

theorem witness_FermataArithmetic :
    (∃ (s : State) (c : Cmd) (n : Nat), n < 256 ∧ s.tempo.running = true ∧ s.tempo.frozen = true ∧ s.tempo.merged = false ∧ s.tempo.anchor = true ∧ s.fermataAhead = [] ∧ s.tempo.reqBar = none ∧ s.tempo.adopting = none ∧ s.tempo.ferm = [{ bar := s.tempo.barno, count := n, src := FermFrom.command c : FermReq }]) ∧
    (∃ (s : State) (c : Cmd) (n : Nat), n < 256 ∧ s.tempo.running = true ∧ s.tempo.frozen = true ∧ s.tempo.merged = false ∧ s.tempo.anchor = true ∧ s.fermataAhead = [] ∧ s.tempo.reqBar = none ∧ s.tempo.adopting = none ∧ s.tempo.ferm = [{ bar := s.tempo.barno, count := n, src := FermFrom.command c : FermReq }]) ∧
    (∃ (s : State) (c : Cmd) (n : Nat), n < 256 ∧ s.tempo.running = true ∧ s.tempo.frozen = true ∧ s.tempo.merged = false ∧ s.tempo.anchor = true ∧ s.fermataAhead = [] ∧ s.tempo.reqBar = none ∧ s.tempo.adopting = none ∧ s.tempo.ferm = [{ bar := s.tempo.barno, count := n, src := FermFrom.command c : FermReq }]) ∧
    (∃ (s : State) (c : Cmd) (n : Nat), n < 256 ∧ s.tempo.running = true ∧ s.tempo.frozen = true ∧ s.tempo.merged = false ∧ s.tempo.anchor = true ∧ s.fermataAhead = [] ∧ s.tempo.reqBar = none ∧ s.tempo.adopting = none ∧ s.tempo.ferm = [{ bar := s.tempo.barno, count := n, src := FermFrom.command c : FermReq }]) :=
  ⟨⟨fermataIn (cmd 0x0304 [255, 3]) 255, cmd 0x0304 [255, 3], 255, by decide +kernel⟩,
   ⟨fermataIn (cmd 0x0304 [0, 3]) 0, cmd 0x0304 [0, 3], 0, by decide +kernel⟩,
   ⟨(fermataIn (cmd 0x0304 [2, 3]) 2).setTempo { (fermataIn (cmd 0x0304 [2, 3]) 2).tempo with order := some ⟨1, 0xFFFF_FFFE, 1, false⟩ }, cmd 0x0304 [2, 3], 2, by decide +kernel⟩,
   ⟨(fermataIn (cmd 0x0304 [0, 3]) 0).setTempo { (fermataIn (cmd 0x0304 [0, 3]) 0).tempo with order := some ⟨1, 0xFFFF_FFFE, 0, true⟩ }, cmd 0x0304 [0, 3], 0, by decide +kernel⟩⟩

theorem witness_ScoreStartStatuses :
    (∃ (s : State) (c : Cmd), s.Accepts c 770 ∧ s.installed = false) ∧
    (∃ (s : State) (c : Cmd), s.Accepts c 770 ∧ s.installed = true ∧ (c.par 1 1 ≠ s.tempo.region ∨ c.par 0 1 = 2 ∧ s.tempo.anchor = false ∨ c.par 0 1 = 2 ∧ c.par 4 4 < 64 ∨ c.par 0 1 ≠ 1 ∧ c.par 0 1 ≠ 2 ∧ c.par 0 1 ≠ 3 ∨ c.par 2 2 ≠ 0 ∨ c.par 12 4 ≠ 0 ∨ c.par 0 1 = 2 ∧ s.isRestart (c.par 8 4) = false)) ∧
    (∃ (s : State) (c : Cmd), s.Accepts c 770 ∧ s.installed = true ∧ (c.par 1 1 ≠ s.tempo.region ∨ c.par 0 1 = 2 ∧ s.tempo.anchor = false ∨ c.par 0 1 = 2 ∧ c.par 4 4 < 64 ∨ c.par 0 1 ≠ 1 ∧ c.par 0 1 ≠ 2 ∧ c.par 0 1 ≠ 3 ∨ c.par 2 2 ≠ 0 ∨ c.par 12 4 ≠ 0 ∨ c.par 0 1 = 2 ∧ s.isRestart (c.par 8 4) = false)) ∧
    (∃ (s : State) (c : Cmd), s.Accepts c 770 ∧ s.installed = true ∧ (¬(c.par 1 1 ≠ s.tempo.region ∨ c.par 0 1 = 2 ∧ s.tempo.anchor = false ∨ c.par 0 1 = 2 ∧ c.par 4 4 < 64 ∨ c.par 0 1 ≠ 1 ∧ c.par 0 1 ≠ 2 ∧ c.par 0 1 ≠ 3 ∨ c.par 2 2 ≠ 0 ∨ c.par 12 4 ≠ 0 ∨ c.par 0 1 = 2 ∧ s.isRestart (c.par 8 4) = false)) ∧ (c.par 0 1 = 1 ∧ (s.tempo.armed = true ∨ s.tempo.running = true) ∨ c.par 0 1 = 2 ∧ (s.tempo.running = true ∨ s.tempo.launched = true) ∨ c.par 0 1 = 3 ∧ s.tempo.running = true)) ∧
    (∃ (s : State) (c : Cmd), s.Accepts c 770 ∧ s.installed = true ∧ (¬(c.par 1 1 ≠ s.tempo.region ∨ c.par 0 1 = 2 ∧ s.tempo.anchor = false ∨ c.par 0 1 = 2 ∧ c.par 4 4 < 64 ∨ c.par 0 1 ≠ 1 ∧ c.par 0 1 ≠ 2 ∧ c.par 0 1 ≠ 3 ∨ c.par 2 2 ≠ 0 ∨ c.par 12 4 ≠ 0 ∨ c.par 0 1 = 2 ∧ s.isRestart (c.par 8 4) = false)) ∧ (¬(c.par 0 1 = 1 ∧ (s.tempo.armed = true ∨ s.tempo.running = true) ∨ c.par 0 1 = 2 ∧ (s.tempo.running = true ∨ s.tempo.launched = true) ∨ c.par 0 1 = 3 ∧ s.tempo.running = true)) ∧ ((c.par 0 1 = 1 ∨ c.par 0 1 = 2 ∧ s.tempo.armed = false) ∧ s.linksReady = false)) ∧
    (∃ (s : State) (c : Cmd), s.Accepts c 770 ∧ s.installed = true ∧ (¬(c.par 1 1 ≠ s.tempo.region ∨ c.par 0 1 = 2 ∧ s.tempo.anchor = false ∨ c.par 0 1 = 2 ∧ c.par 4 4 < 64 ∨ c.par 0 1 ≠ 1 ∧ c.par 0 1 ≠ 2 ∧ c.par 0 1 ≠ 3 ∨ c.par 2 2 ≠ 0 ∨ c.par 12 4 ≠ 0 ∨ c.par 0 1 = 2 ∧ s.isRestart (c.par 8 4) = false)) ∧ (¬(c.par 0 1 = 1 ∧ (s.tempo.armed = true ∨ s.tempo.running = true) ∨ c.par 0 1 = 2 ∧ (s.tempo.running = true ∨ s.tempo.launched = true) ∨ c.par 0 1 = 3 ∧ s.tempo.running = true)) ∧ (¬((c.par 0 1 = 1 ∨ c.par 0 1 = 2 ∧ s.tempo.armed = false) ∧ s.linksReady = false)) ∧ c.par 0 1 = 1) ∧
    (∃ (s : State) (c : Cmd), s.Accepts c 770 ∧ s.installed = true ∧ (¬(c.par 1 1 ≠ s.tempo.region ∨ c.par 0 1 = 2 ∧ s.tempo.anchor = false ∨ c.par 0 1 = 2 ∧ c.par 4 4 < 64 ∨ c.par 0 1 ≠ 1 ∧ c.par 0 1 ≠ 2 ∧ c.par 0 1 ≠ 3 ∨ c.par 2 2 ≠ 0 ∨ c.par 12 4 ≠ 0 ∨ c.par 0 1 = 2 ∧ s.isRestart (c.par 8 4) = false)) ∧ (¬(c.par 0 1 = 1 ∧ (s.tempo.armed = true ∨ s.tempo.running = true) ∨ c.par 0 1 = 2 ∧ (s.tempo.running = true ∨ s.tempo.launched = true) ∨ c.par 0 1 = 3 ∧ s.tempo.running = true)) ∧ (¬((c.par 0 1 = 1 ∨ c.par 0 1 = 2 ∧ s.tempo.armed = false) ∧ s.linksReady = false)) ∧ c.par 0 1 = 3) ∧
    (∃ (s : State) (c : Cmd), s.Accepts c 770 ∧ s.installed = true ∧ (¬(c.par 1 1 ≠ s.tempo.region ∨ c.par 0 1 = 2 ∧ s.tempo.anchor = false ∨ c.par 0 1 = 2 ∧ c.par 4 4 < 64 ∨ c.par 0 1 ≠ 1 ∧ c.par 0 1 ≠ 2 ∧ c.par 0 1 ≠ 3 ∨ c.par 2 2 ≠ 0 ∨ c.par 12 4 ≠ 0 ∨ c.par 0 1 = 2 ∧ s.isRestart (c.par 8 4) = false)) ∧ (¬(c.par 0 1 = 1 ∧ (s.tempo.armed = true ∨ s.tempo.running = true) ∨ c.par 0 1 = 2 ∧ (s.tempo.running = true ∨ s.tempo.launched = true) ∨ c.par 0 1 = 3 ∧ s.tempo.running = true)) ∧ (¬((c.par 0 1 = 1 ∨ c.par 0 1 = 2 ∧ s.tempo.armed = false) ∧ s.linksReady = false)) ∧ c.par 0 1 = 2) ∧
    (∃ (s : State) (a : CountIn) (c : Cmd), s.tempo.accepted = some a ∧ s.waiters WaitFor.launch = [c]) :=
  ⟨⟨up, cmd 0x0302 [1, 0], by unfold State.Accepts; decide +kernel⟩,
   ⟨still, cmd 0x0302 [1, 2], by unfold State.Accepts; decide +kernel⟩,
   ⟨still, cmd 0x0302 [2, 3, 0, 0, 63], by unfold State.Accepts; decide +kernel⟩,
   ⟨playing, cmd 0x0302 [3, 3], by unfold State.Accepts; decide +kernel⟩,
   ⟨still, cmd 0x0302 [1, 3], by unfold State.Accepts; decide +kernel⟩,
   ⟨linked, cmd 0x0302 [1, 3], by unfold State.Accepts; decide +kernel⟩,
   ⟨linked, cmd 0x0302 [3, 3], by unfold State.Accepts; decide +kernel⟩,
   ⟨linked, cmd 0x0302 [2, 3, 0, 0, 64], by unfold State.Accepts; decide +kernel⟩,
   ⟨counting.wait .launch (cmd 0x0302 [2, 3, 0, 0, 64]), ⟨8, 0, 64, 0, 64, 1, [8]⟩, cmd 0x0302 [2, 3, 0, 0, 64], by decide +kernel⟩⟩

theorem witness_CountinAcceptance :
    (∃ (l : Fin 12) (f : List Byte) (s : State), (flitOk f = false ∨ leAt f 0 1 ≠ 193 ∨ s.installed = false ∨ s.tempo.armed = false ∨ s.tempo.running = true ∨ s.tempo.accepted.isSome = true ∨ (s.linkCfg ↑l).parent = false ∨ leAt f 2 1 ≠ s.tempo.region ∨ leAt f 4 2 ≠ s.tempo.slice ∨ leAt f 3 1 ≠ s.tempo.k ∨ leAt f 22 2 ≠ s.tempo.anchorChip)) ∧
    (∃ (l : Fin 12) (f : List Byte) (s : State) (w : Nat), flitOk f = true ∧ leAt f 0 1 = 193 ∧ s.installed = true ∧ s.tempo.armed = true ∧ s.tempo.running = false ∧ s.tempo.accepted = none ∧ (s.linkCfg ↑l).parent = true ∧ leAt f 2 1 = s.tempo.region ∧ leAt f 4 2 = s.tempo.slice ∧ leAt f 3 1 = s.tempo.k ∧ leAt f 22 2 = s.tempo.anchorChip ∧ s.isRestart (leAt f 16 4) = true ∧ 64 ≤ w ∧ (if s.tempo.rubato = true then w = 64 else w + leAt f 12 4 = leAt f 8 4)) ∧
    (∃ (d : Fin 12) (s : State) (a : CountIn), s.tempo.accepted = some a ∧ (¬↑d ∈ a.noticed)) :=
  ⟨⟨0, countin, still, by decide +kernel⟩,
   ⟨0, countin, still.setTempo { still.tempo with armed := true }, 64, by decide +kernel⟩,
   ⟨9, counting, ⟨8, 0, 64, 0, 64, 1, [8]⟩, by decide +kernel⟩⟩

theorem witness_DownbeatChecks :
    (∃ (l : Fin 12) (f : List Byte) (e : BitVec 16) (s : State), flitOk f = false) ∧
    (∃ (l : Fin 12) (f : List Byte) (e : BitVec 16) (s : State), flitOk f = true ∧ leAt f 0 1 = 209 ∧ s.tempo.running = true ∧ (s.linkCfg ↑l).role = 1 ∧ s.tempo.rubato = false ∧ s.tempo.fallback = false ∧ leAt f 2 1 = s.tempo.region ∧ leAt f 26 1 = 0 ∧ leAt f 1 1 % 8 = 0 ∧ leAt f 8 4 = s.tempo.barno ∧ leAt f 12 4 = s.tempo.sbar) ∧
    (∃ (l : Fin 12) (f : List Byte) (e : BitVec 16) (s : State), flitOk f = true ∧ leAt f 0 1 = 209 ∧ s.tempo.running = true ∧ (s.linkCfg ↑l).role = 1 ∧ s.tempo.rubato = false ∧ s.tempo.fallback = false ∧ leAt f 2 1 = s.tempo.region ∧ leAt f 26 1 = 0 ∧ leAt f 1 1 % 8 = 0 ∧ leAt f 8 4 = s.tempo.barno ∧ leAt f 12 4 = s.tempo.sbar) ∧
    (∃ (l : Fin 12) (f : List Byte) (e : BitVec 16) (s : State), flitOk f = true ∧ leAt f 0 1 = 209 ∧ s.tempo.running = true ∧ (s.linkCfg ↑l).role = 1 ∧ s.tempo.rubato = false ∧ s.tempo.fallback = false ∧ leAt f 2 1 = s.tempo.region ∧ leAt f 26 1 = 0 ∧ leAt f 1 1 % 8 = 0 ∧ leAt f 8 4 = s.tempo.barno ∧ leAt f 12 4 = s.tempo.sbar) ∧
    (∃ (l : Fin 12) (f : List Byte) (e : BitVec 16) (s : State), flitOk f = true ∧ leAt f 0 1 = 209 ∧ s.tempo.running = true ∧ (s.linkCfg ↑l).role = 1 ∧ s.tempo.rubato = false ∧ s.tempo.fallback = false ∧ leAt f 2 1 = s.tempo.region ∧ leAt f 26 1 = 0 ∧ leAt f 1 1 = 4) ∧
    (∃ (l : Fin 12) (f : List Byte) (e : BitVec 16) (s : State), flitOk f = true ∧ leAt f 0 1 = 209 ∧ s.tempo.running = true ∧ (s.linkCfg ↑l).role = 1 ∧ s.tempo.rubato = false ∧ s.tempo.fallback = false ∧ leAt f 2 1 = s.tempo.region ∧ leAt f 26 1 = 0 ∧ leAt f 1 1 = 1) ∧
    (∃ (l : Fin 12) (s : State), s.tempo.running = true ∧ s.tempo.isGated = false ∧ (s.linkCfg ↑l).role = 1 ∧ (s.linkCfg ↑l).profile ≠ 2) ∧
    (∃ (l : Fin 12) (s : State), s.tempo.running = true ∧ s.tempo.isGated = false ∧ (s.linkCfg ↑l).role = 1 ∧ (s.linkCfg ↑l).profile ≠ 2) ∧
    (∃ (d : Fin 10) (p : Fin 4) (e : BitVec 16) (s : State), s.tempo.running = true) :=
  ⟨⟨0, [], 0, playing, by decide +kernel⟩,
   ⟨0, downbeatFlit 0, 2, playing, by decide +kernel⟩,
   ⟨0, downbeatFlit 0, 0xFFFE, playing, by decide +kernel⟩,
   ⟨0, downbeatFlit 0, 0xFFFD, playing, by decide +kernel⟩,
   ⟨0, downbeatFlit 4, 0, playing, by decide +kernel⟩,
   ⟨0, downbeatFlit 1, 0, playing, by decide +kernel⟩,
   ⟨0, playing, by decide +kernel⟩,
   ⟨1, playing.setTempo { playing.tempo with missed := [(1, 0xFFFF_FFFF)] }, by decide +kernel⟩,
   ⟨9, 3, 3, playing, by decide +kernel⟩⟩

theorem witness_TempoFaultEffects :
    (∃ (s : State) (die : Nat) (cause : Nat) (port : Nat) (err : Nat), s.wf ∧ die < 10 ∧ cause < 8 ∧ port < 16 ∧ err < 256 ∧ s.bit SCR_TEMPO_FAULT [die] SCR_TEMPO_FAULT.FAULT = false) ∧
    (∃ (s : State), s.tempo.running = true ∧ s.barDone = true ∧ (s.tempo.isGated = false ∨ s.gatesOpen = true) ∧ s.unison.replay = none ∧ s.NoStopDue ∧ BarAction.halt ∈ s.tempo.due s.tempo.barno ∧ s.tempo.halted = false) ∧
    (∃ (s : State), s.tempo.running = true ∧ s.tempo.isGated = true ∧ s.tempo.halted = false ∧ s.barDone = true ∧ s.gatesOpen = false ∧ s.unison.replay = none ∧ s.NoStopDue) :=
  ⟨⟨playing, 9, 7, 15, 255, by unfold State.wf; decide +kernel⟩,
   ⟨playing.setTempo { playing.tempo with actions := [(0xFFFF_FFFF, .halt)] }, by decide +kernel, by decide +kernel, by decide +kernel, by decide +kernel, no_stop (by decide +kernel), by decide +kernel, by decide +kernel⟩,
   ⟨gateShut, by decide +kernel, by decide +kernel, by decide +kernel, by decide +kernel, by decide +kernel, by decide +kernel, no_stop (by decide +kernel)⟩⟩

theorem witness_ScoreStopAndFermata :
    (∃ (s : State) (c : Cmd), s.Accepts c 773 ∧ c.par 0 1 < 2 ∧ c.par 2 14 = 0 ∧ (s.tempo.k ≠ 0 → c.par 1 1 = s.tempo.region) ∧ s.tempo.running = false ∧ s.tempo.armed = false ∧ c.par 0 1 = 0) ∧
    (∃ (s : State) (c : Cmd), s.Accepts c 773 ∧ c.par 0 1 < 2 ∧ c.par 2 14 = 0 ∧ (s.tempo.k ≠ 0 → c.par 1 1 = s.tempo.region) ∧ s.tempo.running = true) ∧
    (∃ (s : State) (c : Cmd), s.Accepts c 773 ∧ (2 ≤ c.par 0 1 ∨ c.par 2 14 ≠ 0 ∨ s.tempo.k ≠ 0 ∧ c.par 1 1 ≠ s.tempo.region)) ∧
    (∃ (s : State) (c : Cmd), s.Accepts c 772 ∧ (s.tempo.anchor = false ∨ s.tempo.running = false ∨ c.par 1 1 ≠ s.tempo.region ∨ c.par 2 14 ≠ 0)) ∧
    (∃ (s : State) (c : Cmd), s.Accepts c 772 ∧ s.tempo.anchor = true ∧ s.tempo.running = true ∧ c.par 1 1 = s.tempo.region ∧ c.par 2 14 = 0) ∧
    (∃ (s : State), s.tempo.running = true) :=
  ⟨⟨still, cmd 0x0305 [0, 3], by unfold State.Accepts; decide +kernel⟩,
   ⟨playing, cmd 0x0305 [1, 3], by unfold State.Accepts; decide +kernel⟩,
   ⟨playing, cmd 0x0305 [2, 3], by unfold State.Accepts; decide +kernel⟩,
   ⟨still, cmd 0x0304 [1, 3], by unfold State.Accepts; decide +kernel⟩,
   ⟨playing, cmd 0x0304 [255, 3], by unfold State.Accepts; decide +kernel⟩,
   ⟨playing, by decide +kernel⟩⟩

theorem witness_ReferenceLossAndReturn :
    (∃ (x : Fin 2) (s : State) (c : Instr), (c = Instr.refMissingEdge x ∨ c = Instr.refFreqWindowFail x) ∧ s.wf ∧ s.refQual ↑x = false) ∧
    (∃ (x : Fin 2) (s : State) (c : Instr), (c = Instr.refMissingEdge x ∨ c = Instr.refFreqWindowFail x) ∧ s.wf ∧ s.refQual ↑x = true) ∧
    (∃ (x : Fin 2) (s : State) (c : Instr), (c = Instr.refMissingEdge x ∨ c = Instr.refFreqWindowFail x) ∧ s.wf ∧ s.refQual ↑x = true) ∧
    (∃ (x : Fin 2) (s : State) (c : Instr), (c = Instr.refMissingEdge x ∨ c = Instr.refFreqWindowFail x) ∧ s.wf ∧ s.refQual ↑x = true) ∧
    (∃ (x : Fin 2) (us : BitVec 24) (s : State), s.wf ∧ bitOf (s.reg CLK_REF_CFG []) (2 + ↑x) = true ∧ s.refQual ↑x = false) ∧
    (∃ (x : Fin 2) (us : BitVec 24) (s : State), s.wf ∧ bitOf (s.reg CLK_REF_CFG []) (2 + ↑x) = true ∧ s.refQual ↑x = false) ∧
    (∃ (x : Fin 2) (us : BitVec 24) (s : State), s.wf ∧ bitOf (s.reg CLK_REF_CFG []) (2 + ↑x) = true ∧ s.refQual ↑x = false) ∧
    (∃ (s : State), s.wf ∧ 4 ≤ s.refActive) ∧
    (∃ (s : State) (x : Nat), s.wf ∧ s.refActive < 4 ∧ s.refActiveOk = false ∧ (List.filter s.refQual s.refSources).head? = some x) ∧
    (∃ (s : State), s.wf ∧ s.refActive = 4 ∧ s.bit CLK_REF_STATUS [] CLK_REF_STATUS.HOLD_EXP = false) :=
  ⟨⟨1, refs 0x01, .refMissingEdge 1, by unfold State.wf; decide +kernel⟩,
   ⟨0, refs 0x03, .refFreqWindowFail 0, by unfold State.wf; decide +kernel⟩,
   ⟨0, refs 0x01, .refMissingEdge 0, by unfold State.wf; decide +kernel⟩,
   ⟨1, refs 0xFFFF_0013, .refMissingEdge 1, by unfold State.wf; decide +kernel⟩,
   ⟨0, 0xFF_FFFF, refs 0x40, by unfold State.wf; decide +kernel⟩,
   ⟨1, 0, refs 0x50, by unfold State.wf; decide +kernel⟩,
   ⟨1, 0, refs 0x01, by unfold State.wf; decide +kernel⟩,
   ⟨refs 0x42, by unfold State.wf; decide +kernel⟩,
   ⟨refs 0xFFFF_0002, 1, by unfold State.wf; decide +kernel⟩,
   ⟨refs 0x40, by unfold State.wf; decide +kernel⟩⟩

theorem witness_ClockConfiguration :
    (∃ (v : BitVec 32) (s : State), s.wf ∧ (s.busyTempo = true ∨ bitOf (BitVec.ofNat 64 v.toNat) 0 = true ∧ (11 < fget (BitVec.ofNat 64 v.toNat) CLK_FWD_CFG.SRC_LINK ∨ bitOf (BitVec.ofNat 64 v.toNat) 8 = true ∧ (11 < fget (BitVec.ofNat 64 v.toNat) CLK_FWD_CFG.BACKUP_LINK ∨ fget (BitVec.ofNat 64 v.toNat) CLK_FWD_CFG.BACKUP_LINK = fget (BitVec.ofNat 64 v.toNat) CLK_FWD_CFG.SRC_LINK)))) ∧
    (∃ (v : BitVec 32) (s : State), s.wf ∧ (s.busyTempo = true ∨ bitOf (BitVec.ofNat 64 v.toNat) 0 = true ∧ (11 < fget (BitVec.ofNat 64 v.toNat) CLK_FWD_CFG.SRC_LINK ∨ bitOf (BitVec.ofNat 64 v.toNat) 8 = true ∧ (11 < fget (BitVec.ofNat 64 v.toNat) CLK_FWD_CFG.BACKUP_LINK ∨ fget (BitVec.ofNat 64 v.toNat) CLK_FWD_CFG.BACKUP_LINK = fget (BitVec.ofNat 64 v.toNat) CLK_FWD_CFG.SRC_LINK)))) ∧
    (∃ (v : BitVec 32) (s : State), s.wf ∧ (s.busyTempo = true ∨ bitOf (BitVec.ofNat 64 v.toNat) 0 = true ∧ (11 < fget (BitVec.ofNat 64 v.toNat) CLK_FWD_CFG.SRC_LINK ∨ bitOf (BitVec.ofNat 64 v.toNat) 8 = true ∧ (11 < fget (BitVec.ofNat 64 v.toNat) CLK_FWD_CFG.BACKUP_LINK ∨ fget (BitVec.ofNat 64 v.toNat) CLK_FWD_CFG.BACKUP_LINK = fget (BitVec.ofNat 64 v.toNat) CLK_FWD_CFG.SRC_LINK)))) ∧
    (∃ (v : BitVec 32) (s : State), s.wf ∧ (¬(s.busyTempo = true ∨ bitOf (BitVec.ofNat 64 v.toNat) 0 = true ∧ (11 < fget (BitVec.ofNat 64 v.toNat) CLK_FWD_CFG.SRC_LINK ∨ bitOf (BitVec.ofNat 64 v.toNat) 8 = true ∧ (11 < fget (BitVec.ofNat 64 v.toNat) CLK_FWD_CFG.BACKUP_LINK ∨ fget (BitVec.ofNat 64 v.toNat) CLK_FWD_CFG.BACKUP_LINK = fget (BitVec.ofNat 64 v.toNat) CLK_FWD_CFG.SRC_LINK))))) ∧
    (∃ (v : BitVec 32) (s : State), s.wf) ∧
    (∃ (v : BitVec 32) (s : State), s.wf) ∧
    (∃ (v : BitVec 32) (s : State), s.wf) ∧
    (∃ (link : Bool) (d : Fin 12) (q : Fin 6) (high : Bool) (s : State), s.wf ∧ (if link = true then ↑d = 8 ∨ ↑d = 9 else (seamPeer ↑d ↑q).fst < 12)) ∧
    (∃ (link : Bool) (d : Fin 12) (q : Fin 6) (high : Bool) (s : State), s.wf ∧ (if link = true then ↑d = 8 ∨ ↑d = 9 else (seamPeer ↑d ↑q).fst < 12)) ∧
    (∃ (link : Bool) (d : Fin 12) (q : Fin 6) (high : Bool) (s : State), s.wf ∧ (if link = true then ↑d = 8 ∨ ↑d = 9 else (seamPeer ↑d ↑q).fst < 12)) ∧
    (∃ (link : Bool) (d : Fin 12) (q : Fin 6) (high : Bool) (s : State), s.wf ∧ (if link = true then ↑d = 8 ∨ ↑d = 9 else (seamPeer ↑d ↑q).fst < 12)) ∧
    (∃ (d : Fin 12) (s : State), s.wf ∧ s.fw.inCold = false ∧ s.bit CLK_DIE [↑d] CLK_DIE.LOCKED = true) ∧
    (∃ (d : Fin 12) (s : State), s.wf ∧ s.fw.inCold = false ∧ s.bit CLK_DIE [↑d] CLK_DIE.LOCKED = true) ∧
    (∃ (d : Fin 12) (failed : Option (Fin 11)) (s : State), s.wf ∧ s.fw.inCold = false ∧ s.dieThere ↑d = true ∧ s.refActive ≠ 5 ∧ s.pwr.asserted.contains (dieUnit ↑d) = false ∧ s.bit CLK_DIE [↑d] CLK_DIE.LOCKED = false ∧ (↑d ≠ 11 ∨ s.dieFolded 11 = false)) ∧
    (∃ (d : Fin 12) (failed : Option (Fin 11)) (s : State), s.wf ∧ s.fw.inCold = false ∧ s.dieThere ↑d = true ∧ s.refActive ≠ 5 ∧ s.pwr.asserted.contains (dieUnit ↑d) = false ∧ s.bit CLK_DIE [↑d] CLK_DIE.LOCKED = false ∧ (↑d ≠ 11 ∨ s.dieFolded 11 = false)) ∧
    (∃ (d : Fin 12) (failed : Option (Fin 11)) (s : State), s.wf ∧ s.fw.inCold = false ∧ s.dieThere ↑d = true ∧ s.refActive ≠ 5 ∧ s.pwr.asserted.contains (dieUnit ↑d) = false ∧ s.bit CLK_DIE [↑d] CLK_DIE.LOCKED = false ∧ (↑d ≠ 11 ∨ s.dieFolded 11 = false)) :=
  ⟨⟨0x0C1, playing, by unfold State.wf; decide +kernel⟩,
   ⟨0x0C1, refs 0, by unfold State.wf; decide +kernel⟩,
   ⟨0xB1B1, refs 0, by unfold State.wf; decide +kernel⟩,
   ⟨0xFFFF_A1BF, refs 0, by unfold State.wf; decide +kernel⟩,
   ⟨0x0000_0001, playing, by unfold State.wf; decide +kernel⟩,
   ⟨0x0000_FF0F, refs 0x13, by unfold State.wf; decide +kernel⟩,
   ⟨0x0000_0000, refs 0x03, by unfold State.wf; decide +kernel⟩,
   ⟨true, 9, 5, true, refs 0, by unfold State.wf; decide +kernel⟩,
   ⟨true, 8, 0, false, linked, by unfold State.wf; decide +kernel⟩,
   ⟨false, 7, 1, true, refs 0, by unfold State.wf; decide +kernel⟩,
   ⟨false, 0, 0, false, refs 0, by unfold State.wf; decide +kernel⟩,
   ⟨11, locked 11, by unfold State.wf; decide +kernel⟩,
   ⟨0, locked 0, by unfold State.wf; decide +kernel⟩,
   ⟨0, some 10, refs 3, by unfold State.wf; decide +kernel⟩,
   ⟨7, none, relock 7, by unfold State.wf; decide +kernel⟩,
   ⟨10, none, relock 10, by unfold State.wf; decide +kernel⟩⟩

theorem witness_PauseAndResume :
    (∃ (p : Fin 256) (s : State), s.regGone PRS_CTRL (pix ↑p) = false ∧ s.wf ∧ (∀ (k : Fin 4), (s.sect ↑p ↑k).st = SecState.idle ∨ (s.sect ↑p ↑k).st = SecState.waiting ∧ s.shortMmas ↑p ↑k = false) ∧ tok { : Section } s.sects = true) ∧
    (∃ (p : Fin 256) (s : State), s.regGone PRS_CTRL (pix ↑p) = false ∧ s.wf ∧ (∀ (k : Fin 4), (s.sect ↑p ↑k).st = SecState.idle ∨ (s.sect ↑p ↑k).st = SecState.waiting ∧ s.shortMmas ↑p ↑k = false) ∧ tok { : Section } s.sects = true) ∧
    (∃ (p : Fin 256) (s : State), s.regGone PRS_CTRL (pix ↑p) = false ∧ s.wf ∧ (∀ (k : Fin 4), (s.sect ↑p ↑k).st = SecState.idle ∨ (s.sect ↑p ↑k).st = SecState.waiting ∧ s.shortMmas ↑p ↑k = false) ∧ tok { : Section } s.sects = true) ∧
    (∃ (p : Fin 256) (k : Fin 4) (s : State), s.regGone PRS_CTRL (pix ↑p) = false ∧ s.wf ∧ tok { : Section } s.sects = true ∧ (s.sect ↑p ↑k).st = SecState.running) ∧
    (∃ (p : Fin 256) (k : Fin 4) (s : State), s.wf ∧ tok { : Section } s.sects = true ∧ (s.sect ↑p ↑k).st = SecState.pausing ∧ s.shortMmas ↑p ↑k = false ∧ (∀ (j : Fin 4), j ≠ k → (s.sect ↑p ↑j).st = SecState.paused) ∧ ((s.prs ↑p).resumeAfter = false ∨ s.pausing ↑p = true)) ∧
    (∃ (p : Fin 256) (s : State), s.regGone PRS_CTRL (pix ↑p) = false ∧ s.wf ∧ tok { : Section } s.sects = true ∧ (s.prs ↑p).stopPause = false ∧ (∀ (k : Fin 4), (s.sect ↑p ↑k).st = SecState.paused)) ∧
    (∃ (p : Fin 256) (s : State), s.regGone PRS_CTRL (pix ↑p) = false ∧ s.wf ∧ (s.prs ↑p).stopPause = false ∧ (∃ (k : Fin 4), (s.sect ↑p ↑k).st = SecState.pausing)) ∧
    (∃ (p : Fin 256) (k : Fin 4) (row : BitVec 8) (s : State), s.regGone SCT_TSTART (six ↑p ↑k) = false ∧ s.wf) ∧
    (∃ (p : Fin 256) (k : Fin 4) (row : BitVec 8) (s : State), s.regGone SCT_TSTART (six ↑p ↑k) = false ∧ s.wf) ∧
    (∃ (p : Fin 256) (s : State), s.regGone PRS_CTRL (pix ↑p) = false ∧ s.wf) ∧
    (∃ (p : Fin 256) (s : State) (c : Instr), s.regGone PRS_CTRL (pix ↑p) = true ∧ (c = Instr.pauseRequest p ∨ c = Instr.resume p ∨ c = Instr.prsCntClr p)) :=
  ⟨⟨0, up, by unfold State.wf; decide +kernel⟩,
   ⟨255, sections 255 [{ st := .waiting, wait := .cue, next := 3, pc := 3 }], by unfold State.wf; decide +kernel⟩,
   ⟨7, sections 7 [{}, {}, {}, { st := .waiting, wait := .hold, inStrip := true, row := 255, pc := 3, next := 4 }], by unfold State.wf; decide +kernel⟩,
   ⟨7, 3, sections 7 [{}, {}, {}, { st := .running, pc := 5, next := 6 }], by unfold State.wf; decide +kernel⟩,
   ⟨7, 0, sections 7 [{ st := .pausing, inStrip := true, row := 255 }, { st := .paused }, { st := .paused }, { st := .paused }], by unfold State.wf; decide +kernel⟩,
   ⟨7, sections 7 [{ st := .paused, inStrip := true, row := 3 }, { st := .paused, wasIdle := true }, { st := .paused, wait := .rinse }, { st := .paused }], by unfold State.wf; decide +kernel⟩,
   ⟨7, sections 7 [{ st := .pausing }], by unfold State.wf; decide +kernel⟩,
   ⟨7, 0, 255, sections 7 [{ st := .paused }], by unfold State.wf; decide +kernel⟩,
   ⟨7, 3, 255, up, by unfold State.wf; decide +kernel⟩,
   ⟨255, (up.incF SCT_WAKES (six 255 3) SCT_WAKES.COUNT 3).incF PRS_HOLD_FULL (pix 255) PRS_HOLD_FULL.COUNT 2, by unfold State.wf; decide +kernel⟩,
   ⟨255, up.setReg RST_DIE [] 0x80, .resume 255, by decide +kernel⟩⟩

theorem witness_BoardDebugAccess :
    (∃ (p : Fin 256) (h : Fin 3) (d : Word) (s : State), s.regGone PRS_BOARD_DATA (pix ↑p) = false ∧ s.wf) ∧
    (∃ (p : Fin 256) (h : Fin 3) (d : Word) (s : State), s.regGone PRS_BOARD_DATA (pix ↑p) = false ∧ s.wf) ∧
    (∃ (p : Fin 256) (h : Fin 3) (d : Word) (s : State), s.regGone PRS_BOARD_DATA (pix ↑p) = false ∧ s.wf) :=
  ⟨⟨255, 0, 0x8877665544332211, open_ (up.setReg PRS_BOARD_ADDR (pix 255) 0xFFFF8), by unfold State.wf; decide +kernel⟩,
   ⟨0, 2, 0x8877665544332211, open_ (holding 0 0), by unfold State.wf; decide +kernel⟩,
   ⟨0, 1, 0x8877665544332211, up, by unfold State.wf; decide +kernel⟩⟩

theorem witness_SequencerInstructions :
    (∃ (p : Fin 256) (k : Fin 4) (w : Stalls) (s : State) (i : Nat), s.wf ∧ s.Issues (↑p) (↑k) i PInstr.nop) ∧
    (∃ (p : Fin 256) (k : Fin 4) (w : Stalls) (s : State) (i : Nat) (c : Nat) (b : Nat) (m : Nat), s.wf ∧ s.Issues (↑p) (↑k) i (PInstr.loop c b m)) ∧
    (∃ (p : Fin 256) (k : Fin 4) (w : Stalls) (s : State) (i : Nat) (ls : List LoopFrame) (l : LoopFrame), s.wf ∧ s.Issues (↑p) (↑k) i PInstr.endl ∧ (s.sect ↑p ↑k).loops = ls ++ [l] ∧ l.i < l.cnt) ∧
    (∃ (p : Fin 256) (k : Fin 4) (w : Stalls) (s : State) (i : Nat) (ls : List LoopFrame) (l : LoopFrame), s.wf ∧ s.Issues (↑p) (↑k) i PInstr.endl ∧ (s.sect ↑p ↑k).loops = ls ++ [l] ∧ l.cnt ≤ l.i) ∧
    (∃ (p : Fin 256) (k : Fin 4) (w : Stalls) (s : State) (i : Nat) (l : Nat) (n : Nat), s.wf ∧ s.Issues (↑p) (↑k) i (PInstr.cuewait l) ∧ tget 0 (s.sect ↑p ↑k).cues l = n ∧ n = 0) ∧
    (∃ (p : Fin 256) (k : Fin 4) (w : Stalls) (s : State) (i : Nat) (l : Nat) (n : Nat), s.wf ∧ s.Issues (↑p) (↑k) i (PInstr.cuewait l) ∧ tget 0 (s.sect ↑p ↑k).cues l = n ∧ 0 < n) ∧
    (∃ (p : Fin 256) (k : Fin 4) (w : Stalls) (s : State) (i : Nat) (g : Nat), s.wf ∧ s.Issues (↑p) (↑k) i (PInstr.bankset g) ∧ g < 256) ∧
    (∃ (p : Fin 256) (k : Fin 4) (w : Stalls) (s : State) (i : Nat), s.wf ∧ s.Issues (↑p) (↑k) i PInstr.end_) ∧
    (∃ (p : Fin 256) (k : Fin 4) (w : Stalls) (s : State) (i : Nat) (rd : Nat), s.wf ∧ s.Issues (↑p) (↑k) i (PInstr.time rd)) ∧
    (∃ (p : Fin 256) (k : Fin 4) (w : Stalls) (s : State) (i : Nat) (j : Fin 4), s.wf ∧ j ≠ k ∧ s.canIssue ↑p ↑k = true ∧ (s.sect ↑p ↑k).st = SecState.running ∧ (s.sect ↑p ↑k).pendW = [] ∧ tok { : Section } s.sects = true ∧ decodeWord (tget 0 (s.prs ↑p).part i) = some { v := false, sm := 2 ^ ↑j + 2 ^ ↑k, i := PInstr.sync : PWord } ∧ s.partAt ↑p ↑k = some (i, { v := false, sm := 2 ^ ↑j + 2 ^ ↑k, i := PInstr.sync : PWord }) ∧ (s.sect ↑p ↑j).next = i ∧ (s.sect ↑p ↑j).st = SecState.waiting ∧ (s.sect ↑p ↑j).wait = SecWait.sync ∧ (s.sect ↑p ↑j).pendW = []) ∧
    (∃ (p : Fin 256) (k : Fin 4) (w : Stalls) (s : State) (i : Nat) (j : Fin 4), s.wf ∧ j ≠ k ∧ s.canIssue ↑p ↑k = true ∧ (s.sect ↑p ↑k).st = SecState.running ∧ (s.sect ↑p ↑k).pendW = [] ∧ tok { : Section } s.sects = true ∧ decodeWord (tget 0 (s.prs ↑p).part i) = some { v := false, sm := 2 ^ ↑j + 2 ^ ↑k, i := PInstr.sync : PWord } ∧ s.partAt ↑p ↑k = some (i, { v := false, sm := 2 ^ ↑j + 2 ^ ↑k, i := PInstr.sync : PWord }) ∧ (s.sect ↑p ↑j).next = i ∧ (s.sect ↑p ↑j).st ≠ SecState.waiting) :=
  ⟨⟨0, 0, ⟨1, 2, 3, 4, 5, 6⟩, at_ 0 0 (word 0 0), 0, by unfold State.wf; decide +kernel, issues (by decide +kernel)⟩,
   ⟨255, 3, noStalls, at_ 255 3 (word 1 (0xFFFF * 2 ^ 36 + 7 * 2 ^ 25 + 9)), 0, 0xFFFF, 7, 9, by unfold State.wf; decide +kernel, issues (by decide +kernel)⟩,
   ⟨0, 0, noStalls, at_ 0 0 (word 2 0) { loops := [⟨5, 1, 0, 0, 0⟩] }, 0, [], ⟨5, 1, 0, 0, 0⟩, by unfold State.wf; decide +kernel, issues (by decide +kernel), by decide +kernel, by decide +kernel⟩,
   ⟨0, 0, noStalls, at_ 0 0 (word 2 0) { loops := [⟨5, 1, 1, 0, 0⟩] }, 0, [], ⟨5, 1, 1, 0, 0⟩, by unfold State.wf; decide +kernel, issues (by decide +kernel), by decide +kernel, by decide +kernel⟩,
   ⟨0, 0, ⟨0, 0, 0, 0, 0, 9⟩, at_ 0 0 (word 3 15), 0, 15, 0, by unfold State.wf; decide +kernel, issues (by decide +kernel), by decide +kernel, by decide +kernel⟩,
   ⟨0, 0, noStalls, at_ 0 0 (word 3 15) { cues := [(15, 1)] }, 0, 15, 1, by unfold State.wf; decide +kernel, issues (by decide +kernel), by decide +kernel, by decide +kernel⟩,
   ⟨0, 0, noStalls, at_ 0 0 (word 5 255), 0, 255, by unfold State.wf; decide +kernel, issues (by decide +kernel), by decide +kernel⟩,
   ⟨0, 0, noStalls, at_ 0 0 (word 6 0), 0, by unfold State.wf; decide +kernel, issues (by decide +kernel)⟩,
   ⟨0, 0, noStalls, at_ 0 0 (word 0x41 (63 * 2 ^ 34) 15 1), 0, 63, by unfold State.wf; decide +kernel, issues (by decide +kernel)⟩,
   ⟨0, 0, noStalls, { at_ 0 0 (word 4 0 3) with sects := [(0, { st := .running }), (1, { st := .waiting, wait := .sync })] }, 0, 1, by unfold State.wf; decide +kernel⟩,
   ⟨0, 0, noStalls, { at_ 0 0 (word 4 0 3) with sects := [(0, { st := .running }), (1, { st := .running })] }, 0, 1, by unfold State.wf; decide +kernel⟩⟩

theorem witness_TileInstructions :
    (∃ (p : Fin 256) (k : Fin 4) (w : Stalls) (s : State) (i : Nat) (rd : Nat) (xf : Bool) (blk : Nat), s.wf ∧ (s.sect ↑p ↑k).inStrip = false ∧ s.Issues (↑p) (↑k) i (PInstr.tld rd xf blk) ∧ s.Awake (↑p) (↑k) (PInstr.tld rd xf blk) ∧ (s.readWaits (↑p) ((fun (xf : Bool) (blk : Nat) => 512 * (s.sect ↑p ↑k).effBlk xf blk) xf blk) 512 = false)) ∧
    (∃ (p : Fin 256) (k : Fin 4) (w : Stalls) (s : State) (i : Nat) (ra : Nat) (xf : Bool) (blk : Nat), s.wf ∧ (s.sect ↑p ↑k).inStrip = false ∧ s.Issues (↑p) (↑k) i (PInstr.tst ra xf blk) ∧ s.Awake (↑p) (↑k) (PInstr.tst ra xf blk) ∧ (s.writeWaits (↑p) ((fun (xf : Bool) (blk : Nat) => 512 * (s.sect ↑p ↑k).effBlk xf blk) xf blk) 512 = false) ∧ (s.heldRange (↑p) ((fun (xf : Bool) (blk : Nat) => 512 * (s.sect ↑p ↑k).effBlk xf blk) xf blk) 512 = false)) ∧
    (∃ (p : Fin 256) (k : Fin 4) (w : Stalls) (s : State) (i : Nat) (rd : Nat), s.wf ∧ (s.sect ↑p ↑k).inStrip = false ∧ s.Issues (↑p) (↑k) i (PInstr.tzero rd) ∧ s.Awake (↑p) (↑k) (PInstr.tzero rd)) ∧
    (∃ (p : Fin 256) (k : Fin 4) (w : Stalls) (s : State) (i : Nat) (rd : Nat) (ra : Nat) (f : Nat), s.wf ∧ (s.sect ↑p ↑k).inStrip = false ∧ s.Issues (↑p) (↑k) i (PInstr.ttr rd ra f) ∧ s.Awake (↑p) (↑k) (PInstr.ttr rd ra f)) ∧
    (∃ (p : Fin 256) (k : Fin 4) (w : Stalls) (s : State) (i : Nat) (rd : Nat) (ac : Nat) (f : Nat) (fl : Nat), s.wf ∧ (s.sect ↑p ↑k).inStrip = false ∧ s.Issues (↑p) (↑k) i (PInstr.acvt rd ac f fl) ∧ s.Awake (↑p) (↑k) (PInstr.acvt rd ac f fl) ∧ (f = 0 ∨ f = 1)) ∧
    (∃ (p : Fin 256) (k : Fin 4) (w : Stalls) (s : State) (i : Nat) (rd : Nat) (ac : Nat) (f : Nat) (fl : Nat), s.wf ∧ (s.sect ↑p ↑k).inStrip = false ∧ s.Issues (↑p) (↑k) i (PInstr.acvt rd ac f fl) ∧ s.Awake (↑p) (↑k) (PInstr.acvt rd ac f fl) ∧ (f = 2 ∨ f = 3 ∨ f = 4)) ∧
    (∃ (p : Fin 256) (k : Fin 4) (w : Stalls) (s : State) (i : Nat) (rd : Nat) (ac : Nat) (fl : Nat), s.wf ∧ (s.sect ↑p ↑k).inStrip = false ∧ s.Issues (↑p) (↑k) i (PInstr.acvt rd ac 5 fl) ∧ s.Awake (↑p) (↑k) (PInstr.acvt rd ac 5 fl)) ∧
    (∃ (p : Fin 256) (k : Fin 4) (w : Stalls) (s : State) (i : Nat) (ac : Nat) (ra : Nat) (rb : Nat) (f : Nat) (mix : Nat), s.wf ∧ (s.sect ↑p ↑k).inStrip = false ∧ s.Issues (↑p) (↑k) i (PInstr.mma ac ra rb f mix) ∧ s.Awake (↑p) (↑k) (PInstr.mma ac ra rb f mix)) ∧
    (∃ (p : Fin 256) (k : Fin 4) (w : Stalls) (s : State) (i : Nat) (rb : Nat) (f : Nat) (xf : Bool) (ba : Nat) (bd : Nat) (acc : Bool) (mix : Bool), s.wf ∧ (s.sect ↑p ↑k).inStrip = false ∧ s.Issues (↑p) (↑k) i (PInstr.mmas rb 0 f xf ba bd acc mix) ∧ s.Awake (↑p) (↑k) (PInstr.mmas rb 0 f xf ba bd acc mix) ∧ tok { : Section } s.sects = true ∧ (s.readWaits (↑p) ((fun (xf : Bool) (blk : Nat) => 512 * (s.sect ↑p ↑k).effBlk xf blk) xf ba) 32 = false) ∧ (s.writeWaits (↑p) ((fun (xf : Bool) (blk : Nat) => 512 * (s.sect ↑p ↑k).effBlk xf blk) xf bd) 32 = false) ∧ s.writeWaits (↑p) (512 * (((s.sect ↑p ↑k).effBlk xf bd + 1) % 2048)) 32 = false ∧ (s.heldRange (↑p) ((fun (xf : Bool) (blk : Nat) => 512 * (s.sect ↑p ↑k).effBlk xf blk) xf bd) 32 = false) ∧ s.heldRange (↑p) (512 * (((s.sect ↑p ↑k).effBlk xf bd + 1) % 2048)) 32 = false) ∧
    (∃ (p : Fin 256) (k : Fin 4) (w : Stalls) (s : State) (i : Nat) (rb : Nat) (rows : Nat) (f : Nat) (ba : Nat) (bd : Nat) (r : Nat) (acc : Bool) (mix : Bool) (u : State), s.wf ∧ (s.sect ↑p ↑k).inStrip = false ∧ r ≤ rows ∧ rows < 256 ∧ s.mmasRow (↑p) (↑k) rb rows f ba bd acc mix r = Except.ok u) ∧
    (∃ (p : Fin 256) (k : Fin 4) (w : Stalls) (s : State) (i : Nat) (rd : Nat), s.wf ∧ (s.sect ↑p ↑k).inStrip = false ∧ s.Issues (↑p) (↑k) i (PInstr.tzero rd) ∧ s.gated (↑p) (↑k) (pairOf rd) = true ∧ s.waking (↑p) (↑k) (pairOf rd) = false) :=
  ⟨⟨255, 3, noStalls, at_ 255 3 (word 0x10 (31 * 2 ^ 34 + 2047 * 2 ^ 10)), 0, 31, false, 2047, by unfold State.wf; decide +kernel, by decide +kernel, issues (by decide +kernel), by unfold State.Awake; decide +kernel, by decide +kernel⟩,
   ⟨255, 3, noStalls, at_ 255 3 (word 0x11 (31 * 2 ^ 46 + 2 ^ 21 + 2047 * 2 ^ 10)) { tiles := [(512 * 31 + 511, 7)], loops := [⟨0, 2, 1, 1, 0⟩] }, 0, 31, true, 2047, by unfold State.wf; decide +kernel, by decide +kernel, issues (by decide +kernel), by unfold State.Awake; decide +kernel, by decide +kernel, by decide +kernel⟩,
   ⟨0, 0, noStalls, at_ 0 0 (word 0x12 (31 * 2 ^ 34)) { tiles := [(512 * 31, 7)] }, 0, 31, by unfold State.wf; decide +kernel, by decide +kernel, issues (by decide +kernel), by unfold State.Awake; decide +kernel⟩,
   ⟨0, 0, noStalls, at_ 0 0 (word 0x13 (31 * 2 ^ 34)) { tiles := [(2, 7)] }, 0, 31, 0, 0, by unfold State.wf; decide +kernel, by decide +kernel, issues (by decide +kernel), by unfold State.Awake; decide +kernel⟩,
   ⟨0, 0, noStalls, at_ 0 0 (word 0x1B (31 * 2 ^ 34 + 7 * 2 ^ 25)) { acc := [(256 * 7, 0x3F800000)] }, 0, 31, 7, 0, 0, by unfold State.wf; decide +kernel, by decide +kernel, issues (by decide +kernel), by unfold State.Awake; decide +kernel, by decide +kernel⟩,
   ⟨0, 0, noStalls, at_ 0 0 (word 0x1B (31 * 2 ^ 34 + 6 * 2 ^ 25 + 2 * 2 ^ 22)) { acc := [(256 * 7, 0x3F800000)] }, 0, 31, 6, 2, 0, by unfold State.wf; decide +kernel, by decide +kernel, issues (by decide +kernel), by unfold State.Awake; decide +kernel, by decide +kernel⟩,
   ⟨0, 0, noStalls, at_ 0 0 (word 0x1B (31 * 2 ^ 34 + 7 * 2 ^ 25 + 5 * 2 ^ 22 + 1)) { acc := [(256 * 7, 0x3F800000)] }, 0, 31, 7, 1, by unfold State.wf; decide +kernel, by decide +kernel, issues (by decide +kernel), by unfold State.Awake; decide +kernel⟩,
   ⟨0, 0, noStalls, at_ 0 0 (word 0x20 (31 * 2 ^ 46 + 30 * 2 ^ 40 + 7 * 2 ^ 25)) { acc := [(256 * 7, 0x3F800000)] }, 0, 7, 31, 30, 0, 0, by unfold State.wf; decide +kernel, by decide +kernel, issues (by decide +kernel), by unfold State.Awake; decide +kernel⟩,
   ⟨0, 0, noStalls, at_ 0 0 (word 0x21 (31 * 2 ^ 46 + 2 * 2 ^ 23 + 2047 * 2 ^ 12 + 2 ^ 11)), 0, 31, 0, false, 2, 2047, true, false, by unfold State.wf; decide +kernel, by decide +kernel, issues (by decide +kernel), by unfold State.Awake; decide +kernel, by decide +kernel, by decide +kernel, by decide +kernel, by decide +kernel, by decide +kernel, by decide +kernel⟩,
   ⟨0, 0, noStalls, up, 0, 31, 255, 0, 2, 5, 255, true, false, ((up.mmasRow 0 0 31 255 0 2 5 true false 255).toOption.getD up), by unfold State.wf; decide +kernel, by decide +kernel, by decide +kernel, by decide +kernel, is_ok (by decide +kernel)⟩,
   ⟨0, 0, noStalls, (at_ 0 0 (word 0x12 (31 * 2 ^ 34))).setF SCT_BANKMASK (six 0 0) SCT_BANKMASK.GATE 0x80, 0, 31, by unfold State.wf; decide +kernel, by decide +kernel, issues (by decide +kernel), by decide +kernel, by decide +kernel⟩⟩

theorem witness_BankGating :
    (∃ (p : Fin 256) (k : Fin 4) (b : Fin 8) (s : State), s.wf ∧ s.waking ↑p ↑k ↑b = true ∧ (s.sect ↑p ↑k).wait ≠ SecWait.wake) ∧
    (∃ (p : Fin 256) (k : Fin 4) (b : Fin 8) (s : State) (i : Nat) (rd : Nat) (sm : Nat) (v : Bool), s.wf ∧ s.waking ↑p ↑k ↑b = true ∧ (s.sect ↑p ↑k).st = SecState.waiting ∧ (s.sect ↑p ↑k).wait = SecWait.wake ∧ (s.sect ↑p ↑k).pendW = [] ∧ s.partAt ↑p ↑k = some (i, { v := v, sm := sm, i := PInstr.tzero rd : PWord }) ∧ pairOf rd = ↑b) ∧
    (∃ (p : Fin 256) (k : Fin 4) (b : Fin 8) (s : State), (s.sect ↑p ↑k).gatePend.testBit ↑b = true ∧ (s.sect ↑p ↑k).wait ≠ SecWait.wake ∧ tok { : Section } s.sects = true) :=
  ⟨⟨0, 0, 7, up.setF SCT_BANKMASK (six 0 0) SCT_BANKMASK.WAKING 0xFF, by unfold State.wf; decide +kernel⟩,
   ⟨0, 0, 7, ({ at_ 0 0 (word 0x12 (31 * 2 ^ 34)) with sects := [(0, { st := .waiting, wait := .wake })] }).setF SCT_BANKMASK (six 0 0) SCT_BANKMASK.WAKING 0x80, 0, 31, 15, false, by unfold State.wf; decide +kernel⟩,
   ⟨0, 0, 7, (at_ 0 0 (word 0 0) { gatePend := 0x80 }).setF SCT_BANKMASK (six 0 0) SCT_BANKMASK.GATE 0x80, by decide +kernel⟩⟩

theorem witness_VectorAndAccumulatorInstructions :
    (∃ (p : Fin 256) (k : Fin 4) (w : Stalls) (s : State) (i : Nat) (ac : Nat), s.wf ∧ s.Issues (↑p) (↑k) i (PInstr.azero ac)) ∧
    (∃ (p : Fin 256) (k : Fin 4) (w : Stalls) (s : State) (i : Nat) (ac : Nat) (xf : Bool) (b : Nat), s.wf ∧ s.Issues (↑p) (↑k) i (PInstr.ald ac xf b) ∧ (s.readWaits (↑p) ((fun (xf : Bool) (blk : Nat) => 512 * (s.sect ↑p ↑k).effBlk xf blk) xf b) 1024 = false)) ∧
    (∃ (p : Fin 256) (k : Fin 4) (w : Stalls) (s : State) (i : Nat) (ac : Nat) (xf : Bool) (b : Nat), s.wf ∧ s.Issues (↑p) (↑k) i (PInstr.ast ac xf b) ∧ (s.writeWaits (↑p) ((fun (xf : Bool) (blk : Nat) => 512 * (s.sect ↑p ↑k).effBlk xf blk) xf b) 1024 = false) ∧ (s.heldRange (↑p) ((fun (xf : Bool) (blk : Nat) => 512 * (s.sect ↑p ↑k).effBlk xf blk) xf b) 1024 = false)) ∧
    (∃ (p : Fin 256) (k : Fin 4) (w : Stalls) (s : State) (i : Nat) (rd : Nat) (v : Nat), s.wf ∧ s.Issues (↑p) (↑k) i (PInstr.vset rd v)) ∧
    (∃ (p : Fin 256) (k : Fin 4) (w : Stalls) (s : State) (i : Nat) (rd : Nat) (xf : Bool) (b : Nat) (ln : Nat), s.wf ∧ s.Issues (↑p) (↑k) i (PInstr.vld rd xf b ln) ∧ (s.readWaits (↑p) ((fun (xf : Bool) (blk : Nat) => 512 * (s.sect ↑p ↑k).effBlk xf blk) xf b + 64 * ln) 64 = false)) ∧
    (∃ (p : Fin 256) (k : Fin 4) (w : Stalls) (s : State) (i : Nat) (ra : Nat) (xf : Bool) (b : Nat) (ln : Nat), s.wf ∧ s.Issues (↑p) (↑k) i (PInstr.vst ra xf b ln) ∧ (s.writeWaits (↑p) ((fun (xf : Bool) (blk : Nat) => 512 * (s.sect ↑p ↑k).effBlk xf blk) xf b + 64 * ln) 64 = false) ∧ (s.heldRange (↑p) ((fun (xf : Bool) (blk : Nat) => 512 * (s.sect ↑p ↑k).effBlk xf blk) xf b + 64 * ln) 64 = false)) ∧
    (∃ (p : Fin 256) (k : Fin 4) (w : Stalls) (s : State) (i : Nat) (rd : Nat) (ra : Nat) (rb : Nat), s.wf ∧ s.Issues (↑p) (↑k) i (PInstr.vadd rd ra rb)) ∧
    (∃ (p : Fin 256) (k : Fin 4) (w : Stalls) (s : State) (i : Nat) (rd : Nat) (ra : Nat) (rb : Nat), s.wf ∧ s.Issues (↑p) (↑k) i (PInstr.vmul rd ra rb)) ∧
    (∃ (p : Fin 256) (k : Fin 4) (w : Stalls) (s : State) (i : Nat) (rd : Nat) (ra : Nat) (rb : Nat) (rc : Nat), s.wf ∧ s.Issues (↑p) (↑k) i (PInstr.vfma rd ra rb rc)) ∧
    (∃ (p : Fin 256) (k : Fin 4) (w : Stalls) (s : State) (i : Nat) (rd : Nat) (ra : Nat) (rb : Nat), s.wf ∧ s.Issues (↑p) (↑k) i (PInstr.vmax rd ra rb)) ∧
    (∃ (p : Fin 256) (k : Fin 4) (w : Stalls) (s : State) (i : Nat) (rd : Nat) (ac : Nat) (fl : Nat), s.wf ∧ s.Issues (↑p) (↑k) i (PInstr.ared rd ac fl)) ∧
    (∃ (p : Fin 256) (k : Fin 4) (w : Stalls) (s : State) (i : Nat) (ac : Nat) (ra : Nat) (fl : Nat), s.wf ∧ s.Issues (↑p) (↑k) i (PInstr.avop ac ra fl)) :=
  ⟨⟨0, 0, noStalls, at_ 0 0 (word 0x18 (7 * 2 ^ 25)) { acc := [(256 * 7, 1)] }, 0, 7, by unfold State.wf; decide +kernel, issues (by decide +kernel)⟩,
   ⟨0, 0, noStalls, { at_ 0 0 (word 0x19 (7 * 2 ^ 25 + 2047 * 2 ^ 10)) with mem := [(boardBase + 0x20, 5), (boardBase + 0xFFE04, 9)] }, 0, 7, false, 2047, by unfold State.wf; decide +kernel, issues (by decide +kernel), by decide +kernel⟩,
   ⟨0, 0, noStalls, at_ 0 0 (word 0x1A (7 * 2 ^ 25 + 2047 * 2 ^ 10)) { acc := [(256 * 7 + 255, 0x01020304)] }, 0, 7, false, 2047, by unfold State.wf; decide +kernel, issues (by decide +kernel), by decide +kernel, by decide +kernel⟩,
   ⟨0, 0, noStalls, at_ 0 0 (word 0x28 (63 * 2 ^ 34 + 0xFFFFFFFF)), 0, 63, 0xFFFFFFFF, by unfold State.wf; decide +kernel, issues (by decide +kernel)⟩,
   ⟨0, 0, noStalls, { at_ 0 0 (word 0x29 (63 * 2 ^ 34 + 7 * 2 ^ 7)) with mem := [(boardBase + 0x1C0, 5)] }, 0, 63, false, 0, 7, by unfold State.wf; decide +kernel, issues (by decide +kernel), by decide +kernel⟩,
   ⟨0, 0, noStalls, at_ 0 0 (word 0x2A (63 * 2 ^ 46 + 7 * 2 ^ 7)) { vec := [(16 * 63 + 15, 9)] }, 0, 63, false, 0, 7, by unfold State.wf; decide +kernel, issues (by decide +kernel), by decide +kernel, by decide +kernel⟩,
   ⟨0, 0, noStalls, at_ 0 0 (word 0x2B (63 * 2 ^ 34 + 1 * 2 ^ 46 + 2 * 2 ^ 40)) { vec := [(16, 0x3F800000), (32, 0x3F800001)] }, 0, 63, 1, 2, by unfold State.wf; decide +kernel, issues (by decide +kernel)⟩,
   ⟨0, 0, noStalls, at_ 0 0 (word 0x2C (63 * 2 ^ 34 + 1 * 2 ^ 46 + 2 * 2 ^ 40)) { vec := [(16, 0x3F800001), (32, 0x3F800001)] }, 0, 63, 1, 2, by unfold State.wf; decide +kernel, issues (by decide +kernel)⟩,
   ⟨0, 0, noStalls, at_ 0 0 (word 0x2D (63 * 2 ^ 34 + 1 * 2 ^ 46 + 2 * 2 ^ 40 + 3 * 2 ^ 28)) { vec := [(16, 0x3F800001), (32, 0x3F800001), (48, 0x33800000)] }, 0, 63, 1, 2, 3, by unfold State.wf; decide +kernel, issues (by decide +kernel)⟩,
   ⟨0, 0, noStalls, at_ 0 0 (word 0x2E (63 * 2 ^ 34 + 1 * 2 ^ 46 + 2 * 2 ^ 40)) { vec := [(16, 0xBF800000)] }, 0, 63, 1, 2, by unfold State.wf; decide +kernel, issues (by decide +kernel)⟩,
   ⟨0, 0, noStalls, at_ 0 0 (word 0x2F (63 * 2 ^ 34 + 7 * 2 ^ 25 + 1)) { acc := [(256 * 7 + 255, 0x3F800000)] }, 0, 63, 7, 1, by unfold State.wf; decide +kernel, issues (by decide +kernel)⟩,
   ⟨0, 0, noStalls, at_ 0 0 (word 0x30 (63 * 2 ^ 46 + 7 * 2 ^ 25)) { acc := [(256 * 7 + 255, 0x3F800000)], vec := [(16 * 63 + 15, 0x40000000)] }, 0, 7, 63, 0, by unfold State.wf; decide +kernel, issues (by decide +kernel)⟩⟩

theorem witness_QueueInstructions :
    (∃ (p : Fin 256) (k : Fin 4) (w : Stalls) (s : State) (i : Nat) (q : Nat) (nb : Nat) (b : Nat) (m : Nat) (xf : Bool), s.wf ∧ q < 4 ∧ nb < 16 ∧ tok [] s.queues = true ∧ s.replaying = false ∧ s.Issues (↑p) (↑k) i (PInstr.qld q nb xf b m) ∧ (s.queue (↑p) q).length + nb + 1 ≤ 64 ∧ (∀ (r : QReq), (s.queue (↑p) q).head? = some r → r.done = false) ∧ (∀ (j : Nat), j ≤ nb → s.hbmBlock (((s.sect ↑p ↑k).effMem xf m + j) % 2 ^ 29) = true)) ∧
    (∃ (p : Fin 256) (k : Fin 4) (w : Stalls) (s : State) (i : Nat) (q : Nat) (nb : Nat) (b : Nat) (m : Nat) (xf : Bool), s.wf ∧ q < 4 ∧ nb < 16 ∧ tok [] s.queues = true ∧ s.replaying = false ∧ s.Issues (↑p) (↑k) i (PInstr.qld q nb xf b m) ∧ 64 < (s.queue (↑p) q).length + nb + 1) ∧
    (∃ (p : Fin 256) (k : Fin 4) (w : Stalls) (s : State) (i : Nat) (q : Nat) (nb : Nat) (b : Nat) (m : Nat) (xf : Bool), s.wf ∧ q < 4 ∧ nb < 16 ∧ tok [] s.queues = true ∧ s.replaying = false ∧ q < 2 ∧ s.Issues (↑p) (↑k) i (PInstr.qst q nb xf b m) ∧ (s.queue (↑p) (4 + q)).length + nb + 1 ≤ 64 ∧ (∀ (r : QReq), (s.queue (↑p) (4 + q)).head? = some r → r.done = false) ∧ (∀ (j : Nat), j ≤ nb → s.hbmBlock (((s.sect ↑p ↑k).effMem xf m + j) % 2 ^ 29) = true)) ∧
    (∃ (p : Fin 256) (k : Fin 4) (w : Stalls) (s : State) (i : Nat) (q : Nat) (nb : Nat) (b : Nat) (m : Nat) (xf : Bool), s.wf ∧ q < 4 ∧ nb < 16 ∧ tok [] s.queues = true ∧ s.replaying = false ∧ q < 2 ∧ s.Issues (↑p) (↑k) i (PInstr.qst q nb xf b m) ∧ 64 < (s.queue (↑p) (4 + q)).length + nb + 1) ∧
    (∃ (p : Fin 256) (k : Fin 4) (w : Stalls) (s : State) (i : Nat) (q : Nat) (nb : Nat) (b : Nat) (m : Nat) (xf : Bool) (st : Nat) (n : Nat), s.wf ∧ q < 4 ∧ nb < 16 ∧ tok [] s.queues = true ∧ s.replaying = false ∧ st < 2 ∧ s.Issues (↑p) (↑k) i (PInstr.qwait q st n) ∧ (s.queue (↑p) (4 * st + q)).length ≤ n) ∧
    (∃ (p : Fin 256) (k : Fin 4) (w : Stalls) (s : State) (i : Nat) (q : Nat) (nb : Nat) (b : Nat) (m : Nat) (xf : Bool) (st : Nat) (n : Nat), s.wf ∧ q < 4 ∧ nb < 16 ∧ tok [] s.queues = true ∧ s.replaying = false ∧ st < 2 ∧ s.Issues (↑p) (↑k) i (PInstr.qwait q st n) ∧ n < (s.queue (↑p) (4 * st + q)).length) :=
  ⟨⟨255, 3, noStalls, at_ 255 3 (word 0x38 (3 * 2 ^ 50 + 15 * 2 ^ 46 + 2047 * 2 ^ 34 + 7 * 2 ^ 5)), 0, 3, 15, 2047, 7, false, by unfold State.wf; decide +kernel, by decide +kernel, by decide +kernel, by decide +kernel, by decide +kernel, issues (by decide +kernel), by decide +kernel, of_some (by decide +kernel), by decide +kernel⟩,
   ⟨0, 0, ⟨0, 0, 0, 0, 0, 9⟩, { at_ 0 0 (word 0x38 (15 * 2 ^ 46)) with queues := [(0, List.replicate 49 ⟨false, 0, 0, 0, 0, 0, none, false, false, false, true⟩)] }, 0, 0, 15, 0, 0, false, by unfold State.wf; decide +kernel, by decide +kernel, by decide +kernel, by decide +kernel, by decide +kernel, issues (by decide +kernel), by decide +kernel⟩,
   ⟨0, 0, noStalls, at_ 0 0 (word 0x39 (1 * 2 ^ 50 + 3 * 2 ^ 5)), 0, 1, 0, 0, 3, false, by unfold State.wf; decide +kernel, by decide +kernel, by decide +kernel, by decide +kernel, by decide +kernel, by decide +kernel, issues (by decide +kernel), by decide +kernel, of_some (by decide +kernel), by decide +kernel⟩,
   ⟨0, 0, ⟨0, 0, 0, 0, 0, 9⟩, { at_ 0 0 (word 0x39 (1 * 2 ^ 50 + 3 * 2 ^ 5)) with queues := [(5, List.replicate 64 ⟨true, 1, 0, 0, 0, 0, none, false, false, false, true⟩)] }, 0, 1, 0, 0, 3, false, by unfold State.wf; decide +kernel, by decide +kernel, by decide +kernel, by decide +kernel, by decide +kernel, by decide +kernel, issues (by decide +kernel), by decide +kernel⟩,
   ⟨0, 0, noStalls, at_ 0 0 (word 0x3A (1 * 2 ^ 50 + 1 * 2 ^ 49)), 0, 1, 0, 0, 0, false, 1, 0, by unfold State.wf; decide +kernel, by decide +kernel, by decide +kernel, by decide +kernel, by decide +kernel, by decide +kernel, issues (by decide +kernel), by decide +kernel⟩,
   ⟨0, 0, ⟨0, 0, 0, 0, 0, 9⟩, { at_ 0 0 (word 0x3A (3 * 2 ^ 50)) with queues := [(3, [⟨false, 3, 0, 0, 0, 0, none, false, false, false, true⟩])] }, 0, 3, 0, 0, 0, false, 0, 0, by unfold State.wf; decide +kernel, by decide +kernel, by decide +kernel, by decide +kernel, by decide +kernel, by decide +kernel, issues (by decide +kernel), by decide +kernel⟩⟩

set_option maxRecDepth 1000000 in
theorem witness_ScoreLoadResult :
    (∃ (s : State) (c : Cmd) (f : LoadFail), s.Accepts c 769 ∧ (s.checkLoad (c.par 0 8) (c.par 8 4) (c.par 12 2) !c.parZero 14 2) = Except.error f) ∧
    (∃ (s : State) (c : Cmd) (job : Nat) (t : Tempo) (ls : List LinkCfg) (ds : List DieImage), s.Accepts c 769 ∧ (s.checkLoad (c.par 0 8) (c.par 8 4) (c.par 12 2) !c.parZero 14 2) = Except.ok (job, t, ls, ds)) :=
  ⟨⟨loadable, cmd 0x0301 (leBytes 8 0x10000 ++ leBytes 4 0xB20 ++ leBytes 2 8), ⟨5, 2, 0xFF, 0xFFFFFFFF, 0x77, 8⟩, by unfold State.Accepts; decide +kernel, is_error (by decide +kernel)⟩,
   (let ⟨j, x, ls, ds, h⟩ := is_ok4 (x := loadable.checkLoad (loadCmd.par 0 8) (loadCmd.par 8 4) (loadCmd.par 12 2) (!loadCmd.parZero 14 2)) (by decide +kernel); ⟨loadable, loadCmd, j, x, ls, ds, by unfold State.Accepts; decide +kernel, h⟩)⟩

theorem witness_ScorePatchStaging :
    (∃ (s : State) (c : Cmd) (recs : List PatchRec) (st : Nat), s.Accepts c 771 ∧ s.PatchImage c recs ∧ (s.imageTest false true).patchFault (s.memNat (c.par 0 8 + 8) 8) (s.memNat (c.par 0 8 + 16) 4) recs = some st) ∧
    (∃ (s : State) (c : Cmd) (recs : List PatchRec), s.Accepts c 771 ∧ s.PatchImage c recs ∧ (s.imageTest false true).patchFault (s.memNat (c.par 0 8 + 8) 8) (s.memNat (c.par 0 8 + 16) 4) recs = none) ∧
    (∃ (d : Fin 10) (s : State) (p : Patch) (e : Nat) (es : List Nat), s.patches = [p] ∧ p.waiting.contains ↑d = true ∧ (List.filter (fun (x : Nat) => x != ↑d) p.waiting = e :: es)) ∧
    (∃ (d : Fin 10) (s : State) (p : Patch), s.patches = [p] ∧ p.waiting.contains ↑d = true ∧ (List.filter (fun (x : Nat) => x != ↑d) p.waiting = []) ∧ (s.tempo.frozen = false ∨ s.patchDue ≠ some p.sbar)) ∧
    (∃ (s : State) (sb : Nat) (p : Patch), s.tempo.running = true ∧ s.tempo.frozen = true ∧ s.patchDue = some sb ∧ s.patches = [p] ∧ p.sbar = sb ∧ p.waiting ≠ []) :=
  ⟨⟨{ patchable with tempo := { patchable.tempo with running := false } }, patchCmd, [.measures 8 (List.replicate 32 0)], stBadParam, by unfold State.Accepts State.PatchImage; decide +kernel⟩,
   ⟨patchable, patchCmd, [.measures 8 (List.replicate 32 0)], by unfold State.Accepts State.PatchImage; decide +kernel⟩,
   ⟨9, { scored with patches := [patching 5 [8, 9]] }, patching 5 [8, 9], 8, [], by decide +kernel⟩,
   ⟨9, { scored with patches := [patching 5 [9]] }, patching 5 [9], by decide +kernel⟩,
   ⟨{ scored with patches := [patching 5 [9]], tempo := { scored.tempo with frozen := true } }, 5, patching 5 [9], by decide +kernel⟩⟩

theorem witness_DeskEntriesAct :
    (∃ (d : Fin 10) (s : State), s.unison.replay = none ∧ (s.deskEntry ↑d = some DeskEntry.nop ∨ ∃ (a : Bool), ∃ (b : Bool), ∃ (c : Nat), ∃ (e : Nat), ∃ (f : Nat), ∃ (g : Nat), ∃ (h : Nat), ∃ (i : Nat), ∃ (j : Nat), ∃ (k : Nat), s.deskEntry ↑d = some (DeskEntry.tempo a b c e f g h i j k))) ∧
    (∃ (d : Fin 10) (s : State) (i : Nat) (n : Nat), s.unison.replay = none ∧ s.deskEntry ↑d = some (DeskEntry.patchpoint i n)) ∧
    (∃ (s : State) (b : Nat) (n : Nat), s.unison.replay = none ∧ s.deskEntry 8 = some (DeskEntry.fermata b n) ∧ s.tempo.merged = false) ∧
    (∃ (d : Fin 8) (free : Bool) (s : State) (x : Bool) (b : Nat) (src : Nat) (sl : Nat) (w : Nat) (sb : Nat) (ln : Nat) (ta : Nat) (st : Nat) (dr : Nat) (dp : Nat) (db : Nat) (r : Nat), s.unison.replay = none ∧ s.deskEntry ↑d = some (DeskEntry.send x b src sl w sb ln ta st dr dp db r) ∧ s.pressFolded (32 * ↑d + src) = true) ∧
    (∃ (d : Fin 8) (free : Bool) (s : State) (x : Bool) (b : Nat) (src : Nat) (sl : Nat) (w : Nat) (sb : Nat) (ln : Nat) (ta : Nat) (st : Nat) (dr : Nat) (dp : Nat) (db : Nat) (r : Nat), s.unison.replay = none ∧ s.deskEntry ↑d = some (DeskEntry.send x b src sl w sb ln ta st dr dp db r) ∧ s.pressFolded (32 * ↑d + src) = false ∧ s.pressInReset (32 * ↑d + src) = true) ∧
    (∃ (m : Fin 2) (free : Bool) (s : State) (b : Nat) (k : Nat), s.unison.replay = none ∧ s.deskEntry (8 + ↑m) = some (DeskEntry.take b k) ∧ (List.find? (fun (x : Landed) => x.link == 6 * ↑m + k) s.score.landed = none)) :=
  ⟨⟨9, atEntry 9 .nop, by decide +kernel, by first | exact .inl (by decide +kernel) | exact .inr (by decide +kernel)⟩,
   ⟨0, atEntry 0 (.patchpoint 255 1), 255, 1, by decide +kernel⟩,
   ⟨atEntry 8 (.fermata 1023 255), 1023, 255, by decide +kernel⟩,
   ⟨7, true, (atEntry 7 (.send false 0 31 0 1 0 0 0 0 0 0 0 0)).setReg PWR_PFOLD [7] 0x80000000, false, 0, 31, 0, 1, 0, 0, 0, 0, 0, 0, 0, 0, by decide +kernel⟩,
   ⟨7, true, (atEntry 7 (.send false 0 31 0 1 0 0 0 0 0 0 0 0)).setReg RST_PRESS [7] 0x80000000, false, 0, 31, 0, 1, 0, 0, 0, 0, 0, 0, 0, 0, by decide +kernel⟩,
   ⟨1, true, atEntry 9 (.take 5 5), 5, 5, by decide +kernel⟩⟩

theorem witness_BoltsLeaveAndAreTaken :
    (∃ (d : Fin 8) (free : Bool) (s : State) (x : Bool) (b : Nat) (src : Nat) (sl : Nat) (w : Nat) (sb : Nat) (ln : Nat) (ta : Nat) (st : Nat) (dr : Nat) (dp : Nat) (db : Nat) (r : Nat), s.unison.replay = none ∧ s.deskEntry ↑d = some (DeskEntry.send x b src sl w sb ln ta st dr dp db r) ∧ s.pressFolded (32 * ↑d + src) = false ∧ s.pressInReset (32 * ↑d + src) = false ∧ tget 0 s.score.ended st = 0) ∧
    (∃ (d : Fin 8) (n : Nat) (free : Bool) (k : Nat) (s : State), (s.tempo.running = false ∨ s.tempo.held = true)) ∧
    (∃ (d : Fin 8) (free : Bool) (k : Nat) (s : State) (w : WaitSend), s.tempo.running = true ∧ s.tempo.held = false ∧ s.score.sends = [w] ∧ w.die = ↑d ∧ s.pressFolded (32 * ↑d + w.src) = false ∧ s.pressInReset (32 * ↑d + w.src) = false ∧ tget 0 s.score.ended w.stream = 0 ∧ (s.trySend w [] free k false).snd = none) ∧
    (∃ (m : Fin 2) (free : Bool) (s : State) (b : Nat) (k : Nat) (u : State) (t : State), s.unison.replay = none ∧ s.deskEntry (8 + ↑m) = some (DeskEntry.take b k) ∧ (¬6 * ↑m + k ∈ s.score.takes) ∧ u = (s.setConductor (8 + ↑m) (have __src := s.conductor (8 + ↑m); { desk := __src.desk, meas := __src.meas, tpl := __src.tpl, restart := __src.restart, ptr := (s.conductor (8 + ↑m)).ptr + 1, bar := __src.bar, fine := __src.fine, reps := __src.reps, sleep := __src.sleep, pend := __src.pend, heldCues := __src.heldCues, fired := __src.fired : Conductor })).setTempo (s.tempo.atBeat b) ∧ u.takeBolt (6 * ↑m + k) free = some t) ∧
    (∃ (l : Fin 12) (k : Nat) (free : Bool) (s : State) (t : State), ↑l ∈ s.score.takes ∧ s.takeBolt (↑l) free = some t) :=
  ⟨⟨0, true, atEntry 0 (.send true 1023 31 3 4 2047 127 255 2047 0 0 2047 0), true, 1023, 31, 3, 4, 2047, 127, 255, 2047, 0, 0, 2047, 0, by decide +kernel⟩,
   ⟨0, 0, true, 0, up, by decide +kernel⟩,
   ⟨0, true, 9, { playing with score := { sends := [⟨0, 1, 0, 1, 3, 0, 0, 4, 0, 0, 0, 0, 5, true, false, false, false⟩] } }, ⟨0, 1, 0, 1, 3, 0, 0, 4, 0, 0, 0, 0, 5, true, false, false, false⟩, by decide +kernel⟩,
   ⟨0, true, landed0, 3, 0, (landed0.setConductor 8 { landed0.conductor 8 with ptr := 1 }).setTempo (landed0.tempo.atBeat 3), (((landed0.setConductor 8 { landed0.conductor 8 with ptr := 1 }).setTempo (landed0.tempo.atBeat 3)).takeBolt 0 true).getD up, by decide +kernel⟩,
   ⟨0, 9, true, { landed0 with score := { landed0.score with takes := [3, 0] } }, (({ landed0 with score := { landed0.score with takes := [3, 0] } } : State).takeBolt 0 true).getD up, by decide +kernel⟩⟩

theorem witness_CuesFireOnTallies :
    (∃ (d : Fin 8) (s : State) (b : Nat) (pm : Nat) (li : Nat) (sm : Nat) (cs : List (Nat × Nat)), s.unison.replay = none ∧ s.deskEntry ↑d = some (DeskEntry.cue b pm li sm cs) ∧ (((s.setConductor (↑d) (have __src := s.conductor ↑d; { desk := __src.desk, meas := __src.meas, tpl := __src.tpl, restart := __src.restart, ptr := (s.conductor ↑d).ptr + 1, bar := __src.bar, fine := __src.fine, reps := __src.reps, sleep := __src.sleep, pend := __src.pend, heldCues := __src.heldCues, fired := __src.fired : Conductor })).setTempo (s.tempo.atBeat b)).conductor ↑d).heldCues = [] ∧ (∀ (x : Nat × Nat), x ∈ cs → x.snd ≤ s.tally (↑d) x.fst)) ∧
    (∃ (d : Fin 8) (s : State) (b : Nat) (pm : Nat) (li : Nat) (sm : Nat) (cs : List (Nat × Nat)), s.unison.replay = none ∧ s.deskEntry ↑d = some (DeskEntry.cue b pm li sm cs) ∧ (((s.setConductor (↑d) (have __src := s.conductor ↑d; { desk := __src.desk, meas := __src.meas, tpl := __src.tpl, restart := __src.restart, ptr := (s.conductor ↑d).ptr + 1, bar := __src.bar, fine := __src.fine, reps := __src.reps, sleep := __src.sleep, pend := __src.pend, heldCues := __src.heldCues, fired := __src.fired : Conductor })).setTempo (s.tempo.atBeat b)).conductor ↑d).heldCues = [] ∧ (∀ (x : Nat × Nat), x ∈ cs → x.snd ≤ s.tally (↑d) x.fst)) ∧
    (∃ (d : Fin 8) (s : State) (b : Nat) (pm : Nat) (li : Nat) (sm : Nat) (cs : List (Nat × Nat)), s.unison.replay = none ∧ s.deskEntry ↑d = some (DeskEntry.cue b pm li sm cs) ∧ (((s.setConductor (↑d) (have __src := s.conductor ↑d; { desk := __src.desk, meas := __src.meas, tpl := __src.tpl, restart := __src.restart, ptr := (s.conductor ↑d).ptr + 1, bar := __src.bar, fine := __src.fine, reps := __src.reps, sleep := __src.sleep, pend := __src.pend, heldCues := __src.heldCues, fired := __src.fired : Conductor })).setTempo (s.tempo.atBeat b)).conductor ↑d).heldCues = [] ∧ (∃ (x : Nat × Nat), x ∈ cs ∧ s.tally (↑d) x.fst < x.snd) ∧ (((s.setConductor (↑d) (have __src := s.conductor ↑d; { desk := __src.desk, meas := __src.meas, tpl := __src.tpl, restart := __src.restart, ptr := (s.conductor ↑d).ptr + 1, bar := __src.bar, fine := __src.fine, reps := __src.reps, sleep := __src.sleep, pend := __src.pend, heldCues := __src.heldCues, fired := __src.fired : Conductor })).setTempo (s.tempo.atBeat b)).conductor ↑d).pend.length < 64) ∧
    (∃ (d : Nat) (s : State) (q : CueWait) (ti : Nat) (need : Nat), q.conds = [(ti, need)]) ∧
    (∃ (d : Fin 8) (s : State) (q : CueWait), s.tempo.running = true ∧ s.tempo.held = false ∧ s.dieUp ↑d = true ∧ (s.conductor ↑d).pend = [q] ∧ (∃ (x : Nat × Nat), x ∈ q.conds ∧ s.tally (↑d) x.fst < x.snd)) ∧
    (∃ (d : Fin 8) (s : State) (q : CueWait), s.tempo.running = true ∧ s.tempo.held = false ∧ s.dieUp ↑d = true ∧ (s.conductor ↑d).pend = [q] ∧ (∀ (x : Nat × Nat), x ∈ q.conds → x.snd ≤ s.tally (↑d) x.fst)) ∧
    (∃ (d : Fin 8) (s : State) (q : CueWait) (qs : List CueWait), (s.conductor ↑d).heldCues = q :: qs ∧ (s.conductor ↑d).pend.length < 64) ∧
    (∃ (d : Fin 8) (s : State) (q : CueWait) (qs : List CueWait), (s.conductor ↑d).fired = q :: qs) :=
  ⟨⟨7, { atEntry 7 (.cue 1023 0xFFFFFFFF 15 15 [(255, 65535)]) with score := { tallies := [(256 * 7 + 255, 65535)] } }, 1023, 0xFFFFFFFF, 15, 15, [(255, 65535)], by decide +kernel⟩,
   ⟨7, atEntry 7 (.cue 0 1 0 1 []), 0, 1, 0, 1, [], by decide +kernel⟩,
   ⟨7, { atEntry 7 (.cue 1023 0xFFFFFFFF 15 15 [(255, 65535)]) with score := { tallies := [(256 * 7 + 255, 65534)] } }, 1023, 0xFFFFFFFF, 15, 15, [(255, 65535)], by decide +kernel⟩,
   ⟨7, up, ⟨0, 0, 0, 0, [(255, 1)]⟩, 255, 1, by decide +kernel⟩,
   ⟨0, playing.setConductor 0 { pend := [⟨0, 1, 0, 1, [(0, 1)]⟩] }, ⟨0, 1, 0, 1, [(0, 1)]⟩, by decide +kernel⟩,
   ⟨0, { playing.setConductor 0 { pend := [⟨0, 1, 0, 1, [(0, 1)]⟩] } with score := { tallies := [(0, 1)] } }, ⟨0, 1, 0, 1, [(0, 1)]⟩, by decide +kernel⟩,
   ⟨0, playing.setConductor 0 { heldCues := [⟨0, 1, 0, 1, []⟩], pend := List.replicate 63 ⟨0, 1, 0, 1, []⟩ }, ⟨0, 1, 0, 1, []⟩, [], by decide +kernel⟩,
   ⟨0, playing.setConductor 0 { fired := [⟨0, 1, 0, 1, []⟩] }, ⟨0, 1, 0, 1, []⟩, [], by decide +kernel⟩⟩

theorem witness_LoadsAndStoresReachMemory :
    (∃ (p : Fin 256) (q : Fin 4) (s : State) (r : QReq) (rs : List QReq) (e : Ecc) (y : WbEntry), s.wf ∧ s.capturing = false ∧ s.queue ↑p ↑q = r :: rs ∧ r.done = false ∧ r.held = false ∧ r.data = none ∧ r.store = false ∧ (∀ (x : QReq), x ∈ rs → x.seq ≠ r.seq ∧ x.data = none ∧ x.done = false) ∧ s.olderStore (↑p) r = false ∧ tok [] s.queues = true ∧ s.fillFree (↑p) r.bblk = true ∧ (s.port (↑p / 32)).entry r.mblk = some y ∧ y.data.length = 512) ∧
    (∃ (p : Fin 256) (q : Fin 4) (s : State) (r : QReq) (rs : List QReq) (e : Ecc), s.wf ∧ s.capturing = false ∧ s.queue ↑p ↑q = r :: rs ∧ r.done = false ∧ r.held = false ∧ r.data = none ∧ r.store = false ∧ (∀ (x : QReq), x ∈ rs → x.seq ≠ r.seq ∧ x.data = none ∧ x.done = false) ∧ s.olderStore (↑p) r = false ∧ tok [] s.queues = true ∧ s.fillFree (↑p) r.bblk = true ∧ (s.port (↑p / 32)).entry r.mblk = none ∧ (tget [] (s.port (↑p / 32)).cache r.mblk).length = 512) ∧
    (∃ (p : Fin 256) (q : Fin 4) (s : State) (r : QReq) (rs : List QReq) (e : Ecc), s.wf ∧ s.capturing = false ∧ s.queue ↑p ↑q = r :: rs ∧ r.done = false ∧ r.held = false ∧ r.data = none ∧ r.store = false ∧ (∀ (x : QReq), x ∈ rs → x.seq ≠ r.seq ∧ x.data = none ∧ x.done = false) ∧ s.olderStore (↑p) r = false ∧ tok [] s.queues = true ∧ s.fillFree (↑p) r.bblk = true ∧ (s.port (↑p / 32)).entry r.mblk = none ∧ tget [] (s.port (↑p / 32)).cache r.mblk = [] ∧ r.sent = true ∧ s.stackUp (blkStack r.mblk) = true ∧ (∀ (n : Nat), e ≠ Ecc.bad n)) ∧
    (∃ (p : Fin 256) (q : Fin 4) (s : State) (r : QReq) (rs : List QReq) (e : Ecc) (n : Nat), s.wf ∧ s.capturing = false ∧ s.queue ↑p ↑q = r :: rs ∧ r.done = false ∧ r.held = false ∧ r.data = none ∧ r.store = false ∧ (∀ (x : QReq), x ∈ rs → x.seq ≠ r.seq ∧ x.data = none ∧ x.done = false) ∧ s.olderStore (↑p) r = false ∧ tok [] s.queues = true ∧ s.fillFree (↑p) r.bblk = true ∧ (s.port (↑p / 32)).entry r.mblk = none ∧ tget [] (s.port (↑p / 32)).cache r.mblk = [] ∧ r.sent = true ∧ s.stackUp (blkStack r.mblk) = true ∧ e = Ecc.bad n) ∧
    (∃ (p : Fin 256) (q : Fin 4) (n : Nat) (e : Ecc) (v : Option Nat) (s : State) (r : QReq), (s.queue ↑p ↑q)[n]? = some r ∧ (r.held = true ∨ r.done = true ∨ s.olderStore (↑p) r = true)) ∧
    (∃ (p : Fin 256) (q : Fin 2) (s : State) (r : QReq) (rs : List QReq), s.wf ∧ s.queue (↑p) (4 + ↑q) = r :: rs ∧ s.pressUp ↑p = true ∧ r.done = false ∧ (((s.port (↑p / 32)).entry r.mblk).isSome = true ∨ (s.port (↑p / 32)).wb.length < 64)) ∧
    (∃ (p : Fin 256) (q : Fin 2) (s : State) (r : QReq) (rs : List QReq), s.wf ∧ s.queue (↑p) (4 + ↑q) = r :: rs ∧ s.pressUp ↑p = true ∧ r.done = false ∧ (s.port (↑p / 32)).entry r.mblk = none ∧ 64 ≤ (s.port (↑p / 32)).wb.length) ∧
    (∃ (d : Fin 8) (s : State) (y : WbEntry) (ys : List WbEntry), (s.port ↑d).wb = y :: ys ∧ y.dirty = true ∧ y.flight = none ∧ (∀ (z : WbEntry), z ∈ ys → z.blk ≠ y.blk) ∧ 48 < (y :: ys).length) ∧
    (∃ (d : Fin 8) (s : State) (y : WbEntry) (ys : List WbEntry), (s.port ↑d).wb = y :: ys ∧ y.dirty = true ∧ y.flight = none ∧ (∀ (z : WbEntry), z ∈ ys → z.blk ≠ y.blk) ∧ (y :: ys).length ≤ 48) ∧
    (∃ (d : Fin 8) (b : BitVec 29) (s : State) (y : WbEntry) (bs : List Byte), s.wf ∧ s.stackUp (blkStack b.toNat) = true ∧ (s.port ↑d).entry b.toNat = some y ∧ y.flight = some bs ∧ y.dirty = false ∧ (s.port ↑d).scans = [] ∧ bs.length = 512) ∧
    (∃ (d : Fin 8) (k : Fin 32) (q : Fin 4) (s : State), s.wf ∧ tok [] s.queues = true ∧ (∀ (r : QReq), (s.queue (32 * ↑d + ↑k) ↑q).head? = some r → r.done = false)) ∧
    (∃ (d : Fin 8) (k : Fin 32) (q : Fin 4) (s : State), s.wf ∧ tok [] s.queues = true ∧ (∀ (r : QReq), (s.queue (32 * ↑d + ↑k) ↑q).head? = some r → r.done = false) ∧ s.regGone MEM_UE_HOLD [↑d] = false) ∧
    (∃ (d : Fin 8) (m : Fin 8) (s : State), s.wf ∧ (s.waitStacks ↑d).contains ↑m = true) ∧
    (∃ (d : Fin 8) (m : Fin 8) (s : State), s.wf ∧ (s.waitStacks ↑d).contains ↑m = false) :=
  ⟨⟨0, 0, queued 0 [load 2047 5] { wb := [⟨5, block 9, true, none⟩] }, load 2047 5, [], .clean, ⟨5, block 9, true, none⟩, by unfold State.wf; decide +kernel⟩,
   ⟨0, 0, queued 0 [load 2047 5] { cache := [(5, block 9)] }, load 2047 5, [], .clean, by unfold State.wf; decide +kernel⟩,
   ⟨0, 0, { queued 0 [load 0 0x2FFFFFF] {} with mem := [(0x5FFFFFE01, 3)] }, load 0 0x2FFFFFF, [], .corrected 3, by unfold State.wf; decide +kernel, by decide +kernel, by decide +kernel, by decide +kernel, by decide +kernel, by decide +kernel, by decide +kernel, by decide +kernel, by decide +kernel, by decide +kernel, by decide +kernel, by decide +kernel, by decide +kernel, by decide +kernel, by decide +kernel, not_bad rfl⟩,
   ⟨0, 0, queued 0 [load 0 5] {}, load 0 5, [], .bad 15, 15, by unfold State.wf; decide +kernel⟩,
   ⟨0, 0, 0, .clean, none, queued 0 [{ load 0 5 with held := true }] {}, { load 0 5 with held := true }, by decide +kernel⟩,
   ⟨0, 0, { queued 4 [store 2047 5] { wb := (List.range 63).map (fun n => dirty (n + 6)), cache := [(5, block 2)] } with mem := [(boardBase + 0xFFE00, 7)] }, store 2047 5, [], by unfold State.wf; decide +kernel⟩,
   ⟨0, 0, queued 4 [store 0 5] { wb := (List.range 64).map (fun n => dirty (n + 6)) }, store 0 5, [], by unfold State.wf; decide +kernel⟩,
   ⟨0, queued 0 [] { wb := (List.range 49).map dirty }, dirty 0, (List.range 48).map (fun n => dirty (n + 1)), by decide +kernel⟩,
   ⟨0, queued 0 [] { wb := (List.range 48).map dirty }, dirty 0, (List.range 47).map (fun n => dirty (n + 1)), by decide +kernel⟩,
   ⟨0, 0x17FFFFFF, queued 0 [] { wb := [⟨0x17FFFFFF, block 1, false, some (block 2)⟩] }, ⟨0x17FFFFFF, block 1, false, some (block 2)⟩, block 2, by unfold State.wf; decide +kernel⟩,
   ⟨0, 0, 0, queued 0 [{ load 0 5 with sent := false }] {}, by unfold State.wf; decide +kernel, by decide +kernel, of_some (by decide +kernel)⟩,
   ⟨0, 0, 0, queued 0 [{ load 0 5 with held := true }] {}, by unfold State.wf; decide +kernel, by decide +kernel, of_some (by decide +kernel), by decide +kernel⟩,
   ⟨0, 0, (queued 0 [{ load 0 5 with sent := false }] {}).setF MEM_STATUS [0] MEM_STATUS.TRAINED 0, by unfold State.wf; decide +kernel⟩,
   ⟨7, 7, fitted8, by unfold State.wf; decide +kernel⟩⟩

theorem witness_RinseAndCadence :
    (∃ (p : Fin 256) (k : Fin 4) (w : Stalls) (s : State) (i : Nat) (nb : Nat) (m : Nat) (xf : Bool), s.Issues (↑p) (↑k) i (PInstr.rinse nb xf m) ∧ s.strayBlock ((s.sect ↑p ↑k).effMem xf m) (nb + 1) = none ∧ s.wf ∧ tok { : MemPort } s.ports = true) ∧
    (∃ (p : Fin 256) (k : Fin 4) (w : Stalls) (s : State) (i : Nat), s.Issues (↑p) (↑k) i PInstr.cadence ∧ decodeWord (tget 0 (s.prs ↑p).part i) = some { v := false, sm := 15, i := PInstr.cadence : PWord } ∧ s.wf ∧ tok { : Section } s.sects = true ∧ tok { : MemPort } s.ports = true ∧ (∃ (j : Fin 4), j ≠ k ∧ s.inCadence ↑p ↑j = false)) ∧
    (∃ (p : Fin 256) (k : Fin 4) (w : Stalls) (s : State) (i : Nat), s.Issues (↑p) (↑k) i PInstr.cadence ∧ decodeWord (tget 0 (s.prs ↑p).part i) = some { v := false, sm := 15, i := PInstr.cadence : PWord } ∧ s.wf ∧ tok { : Section } s.sects = true ∧ tok { : MemPort } s.ports = true ∧ (∀ (j : Fin 4), j ≠ k → s.inCadence ↑p ↑j = true) ∧ s.queuesEmpty ↑p = true) ∧
    (∃ (d : Nat) (s : State) (sc : Scan) (m : Nat), tok { : MemPort } s.ports = true ∧ tok [] (s.port d).cache = true) ∧
    (∃ (d : Fin 8) (s : State), (∀ (x : Scan), x ∈ (s.port ↑d).scans → x.fence = false → x.await ≠ [])) ∧
    (∃ (d : Fin 8) (s : State), (∀ (x : Scan), x ∈ (s.port ↑d).scans → x.fence = true → x.await ≠ [])) ∧
    (∃ (d : Fin 8) (s : State) (p : Fin 256) (k : Fin 4) (x : Scan) (xs : List Scan), (s.port ↑d).scans = x :: xs ∧ x.await = [] ∧ x.fence = false ∧ x.by_ = ScanFor.sect ↑p ↑k ∧ (s.sect ↑p ↑k).wait = SecWait.rinse ∧ (s.sect ↑p ↑k).st = SecState.waiting ∧ (s.sect ↑p ↑k).pendW = []) ∧
    (∃ (d : Fin 8) (s : State) (p : Fin 256) (k : Fin 4) (x : Scan) (xs : List Scan), (s.port ↑d).scans = x :: xs ∧ x.await = [] ∧ x.fence = true ∧ x.by_ = ScanFor.press ↑p ∧ tok { : Section } s.sects = true ∧ (∀ (j : Fin 4), (s.sect ↑p ↑j).wait = SecWait.cadence ∧ (s.sect ↑p ↑j).st = SecState.waiting)) ∧
    (∃ (s : State) (c : Cmd), s.Accepts c 517 ∧ (c.parZero 13 3 = false ∨ c.par 0 8 % 512 ≠ 0 ∨ c.par 8 4 % 512 ≠ 0 ∨ c.par 8 4 = 0 ∨ boardBase ≤ c.par 0 8 ∨ s.rangeMapped (c.par 0 8) (c.par 8 4) = false ∨ touchesCarve (c.par 0 8) (c.par 8 4) = true)) ∧
    (∃ (s : State) (c : Cmd), s.Accepts c 517 ∧ (¬(c.parZero 13 3 = false ∨ c.par 0 8 % 512 ≠ 0 ∨ c.par 8 4 % 512 ≠ 0 ∨ c.par 8 4 = 0 ∨ boardBase ≤ c.par 0 8 ∨ s.rangeMapped (c.par 0 8) (c.par 8 4) = false ∨ touchesCarve (c.par 0 8) (c.par 8 4) = true)) ∧ (∃ (d : Nat), d ∈ s.diesNamed (c.par 12 1) ∧ s.hasDie d = false)) ∧
    (∃ (s : State) (c : Cmd) (d : Fin 8), s.Accepts c 517 ∧ (¬(c.parZero 13 3 = false ∨ c.par 0 8 % 512 ≠ 0 ∨ c.par 8 4 % 512 ≠ 0 ∨ c.par 8 4 = 0 ∨ boardBase ≤ c.par 0 8 ∨ s.rangeMapped (c.par 0 8) (c.par 8 4) = false ∨ touchesCarve (c.par 0 8) (c.par 8 4) = true)) ∧ s.diesNamed (c.par 12 1) = [↑d] ∧ s.hasDie ↑d = true ∧ s.dieUp ↑d = true) ∧
    (∃ (s : State) (c : Cmd) (d : Fin 8), s.Accepts c 517 ∧ (¬(c.parZero 13 3 = false ∨ c.par 0 8 % 512 ≠ 0 ∨ c.par 8 4 % 512 ≠ 0 ∨ c.par 8 4 = 0 ∨ boardBase ≤ c.par 0 8 ∨ s.rangeMapped (c.par 0 8) (c.par 8 4) = false ∨ touchesCarve (c.par 0 8) (c.par 8 4) = true)) ∧ s.diesNamed (c.par 12 1) = [↑d] ∧ s.hasDie ↑d = true ∧ s.dieUp ↑d = true) ∧
    (∃ (s : State) (c : Cmd), s.Accepts c 518 ∧ (s.waiters WaitFor.cadenceDrain).contains c = false ∧ c.parZero 1 15 = false) ∧
    (∃ (s : State) (c : Cmd), s.Accepts c 518 ∧ (s.waiters WaitFor.cadenceDrain).contains c = false ∧ c.parZero 1 15 = true ∧ (∃ (d : Nat), d ∈ s.diesNamed (c.par 0 1) ∧ s.hasDie d = false)) ∧
    (∃ (s : State) (c : Cmd), s.Accepts c 518 ∧ (s.waiters WaitFor.cadenceDrain).contains c = false ∧ c.parZero 1 15 = true ∧ (∀ (d : Nat), d ∈ s.diesNamed (c.par 0 1) → s.hasDie d = true) ∧ s.earlierWrites c = true) ∧
    (∃ (s : State) (c : Cmd) (d : Fin 8), s.Accepts c 518 ∧ (s.waiters WaitFor.cadenceDrain).contains c = false ∧ c.parZero 1 15 = true ∧ s.diesNamed (c.par 0 1) = [↑d] ∧ s.hasDie ↑d = true ∧ s.dieUp ↑d = true ∧ s.earlierWrites c = false ∧ (∀ (x : WaitFor × Cmd), x ∈ s.front.waiting → x.snd ≠ c) ∧ tok { : MemPort } s.ports = true) ∧
    (∃ (s : State) (c : Cmd), (∃ (x : Scan), x ∈ s.cmdScans c ∧ x.await ≠ [])) ∧
    (∃ (s : State) (c : Cmd), (∀ (x : Scan), x ∈ s.cmdScans c → x.await = [])) :=
  ⟨⟨0, 0, noStalls, at_ 0 0 (word 0x3B (0xFF * 2 ^ 36)), 0, 0xFF, 0, false, issues (by decide +kernel), by decide +kernel, by unfold State.wf; decide +kernel, by decide +kernel⟩,
   ⟨0, 0, noStalls, at_ 0 0 (word 0x3C 0), 0, issues (by decide +kernel), by decide +kernel, by unfold State.wf; decide +kernel, by decide +kernel, by decide +kernel, by decide +kernel⟩,
   ⟨0, 3, noStalls, { at_ 0 3 (word 0x3C 0) with sects := [(0, { st := .waiting, wait := .sync }), (1, { st := .waiting, wait := .sync }), (2, { st := .waiting, wait := .sync }), (3, { st := .running })] }, 0, issues (by decide +kernel), by decide +kernel, by unfold State.wf; decide +kernel, by decide +kernel, by decide +kernel, by decide +kernel, by decide +kernel⟩,
   ⟨0, queued 0 [] { cache := [(0, block 1)], wb := [dirty 0] }, scan false (.sect 0 0) [], 0, by decide +kernel⟩,
   ⟨0, queued 0 [] { scans := [scan false (.sect 0 0) [5]] }, by decide +kernel⟩,
   ⟨0, queued 0 [] { scans := [scan true (.press 0) [5]] }, by decide +kernel⟩,
   ⟨0, { queued 0 [] { scans := [scan false (.sect 0 0) []] } with sects := [(0, { st := .waiting, wait := .rinse })] }, 0, 0, scan false (.sect 0 0) [], [], by decide +kernel⟩,
   ⟨0, { queued 0 [] { scans := [scan true (.press 0) []] } with sects := (List.range 4).map (fun k => (k, { st := .waiting, wait := .cadence })) }, 0, 0, scan true (.press 0) [], [], by decide +kernel⟩,
   ⟨fitted8, cmd 0x0205 (leBytes 8 256 ++ leBytes 4 512), by unfold State.Accepts; decide +kernel⟩,
   ⟨fitted8.setReg GLB_CAP0 [] 0x33FF7F, cmd 0x0205 (leBytes 8 512 ++ leBytes 4 512 ++ [0x80]), by unfold State.Accepts; decide +kernel⟩,
   ⟨fitted8, cmd 0x0205 (leBytes 8 0x2FFFFFFE00 ++ leBytes 4 512 ++ [0x80]), 7, by unfold State.Accepts; decide +kernel⟩,
   ⟨fitted8, cmd 0x0205 (leBytes 8 0 ++ leBytes 4 512 ++ [1]), 0, by unfold State.Accepts; decide +kernel⟩,
   ⟨fitted8, cmd 0x0206 [0, 1], by unfold State.Accepts; decide +kernel⟩,
   ⟨fitted8.setReg GLB_CAP0 [] 0x33FF7F, cmd 0x0206 [0x80], by unfold State.Accepts; decide +kernel⟩,
   ⟨{ fitted8 with front := { inflight := [(cmd 0x0201, 1), (cmd 0x0206 [0x80], 2)] } }, cmd 0x0206 [0x80], by unfold State.Accepts; decide +kernel⟩,
   ⟨fitted8, cmd 0x0206 [0x80], 7, by unfold State.Accepts; decide +kernel⟩,
   ⟨queued 0 [] { scans := [scan true (.cmd (cmd 0x0206)) [5]] }, cmd 0x0206, by decide +kernel⟩,
   ⟨queued 0 [] { scans := [scan true (.cmd (cmd 0x0206)) []] }, cmd 0x0206, by decide +kernel⟩⟩

theorem witness_MemoryControllerEvents :
    (∃ (n : Fin 8) (hot : Bool) (s : State), s.wf ∧ s.stackUp ↑n = true) ∧
    (∃ (n : Fin 8) (off : Nat) (s : State), s.wf ∧ s.stackUp ↑n = true ∧ s.bit MEM_CFG [↑n] MEM_CFG.SCRUB_EN = true ∧ off < 25769803776 ∧ s.bit MEM_ERR [↑n] MEM_ERR.CE = false ∧ s.bit MEM_ERR [↑n] MEM_ERR.UE = false) ∧
    (∃ (p : Fin 256) (s : State), s.regGone MEM_QCTL (pix ↑p) = false ∧ s.wf) ∧
    (∃ (src : Fin 12) (p : Fin 256) (a : Nat) (n : Nat) (bs : List Byte) (s : State), s.wf ∧ 0 < n ∧ a % 512 + n ≤ 512 ∧ a < 1048576 ∧ bs.length = n ∧ s.hasDie (↑p / 32) = true ∧ s.pressFolded ↑p = true) ∧
    (∃ (src : Fin 12) (p : Fin 256) (a : Nat) (n : Nat) (bs : List Byte) (s : State), s.wf ∧ 0 < n ∧ a % 512 + n ≤ 512 ∧ a < 1048576 ∧ bs.length = n ∧ s.hasDie (↑p / 32) = true ∧ s.pressFolded ↑p = false ∧ s.pressInReset ↑p = true) ∧
    (∃ (src : Fin 12) (p : Fin 256) (a : Nat) (n : Nat) (bs : List Byte) (s : State), s.wf ∧ 0 < n ∧ a % 512 + n ≤ 512 ∧ a < 1048576 ∧ bs.length = n ∧ s.hasDie (↑p / 32) = true ∧ s.pressFolded ↑p = false ∧ s.pressInReset ↑p = false) ∧
    (∃ (src : Fin 12) (p : Fin 256) (a : Nat) (n : Nat) (bs : List Byte) (s : State), s.wf ∧ 0 < n ∧ a % 512 + n ≤ 512 ∧ a < 1048576 ∧ bs.length = n ∧ s.hasDie (↑p / 32) = true ∧ s.pressFolded ↑p = false ∧ s.pressInReset ↑p = false ∧ s.heldRange (↑p) a n = false ∧ s.capturing = false) ∧
    (∃ (src : Fin 12) (p : Fin 256) (a : Nat) (n : Nat) (bs : List Byte) (s : State), s.wf ∧ 0 < n ∧ a + n ≤ 1048576 ∧ bs.length = n ∧ s.hasDie (↑p / 32) = false ∧ s.bit MEM_STRAY [] MEM_STRAY.STRAY = false) ∧
    (∃ (src : Fin 12) (p : Fin 256) (a : Nat) (n : Nat) (bs : List Byte) (s : State), s.wf ∧ 0 < n ∧ a + n ≤ 1048576 ∧ bs.length = n ∧ s.hasDie (↑p / 32) = false ∧ s.bit MEM_STRAY [] MEM_STRAY.STRAY = false) :=
  ⟨⟨7, true, fitted8, by unfold State.wf; decide +kernel⟩,
   ⟨7, 0x5FFFFFFFF, fitted8, by unfold State.wf; decide +kernel⟩,
   ⟨255, fitted8, by unfold State.wf; decide +kernel⟩,
   ⟨11, 255, 0xFFFFF, 1, [7], fitted8.setReg PWR_PFOLD [7] 0x80000000, by unfold State.wf; decide +kernel⟩,
   ⟨11, 255, 0xFFE00, 512, block 7, fitted8.setReg RST_PRESS [7] 0x80000000, by unfold State.wf; decide +kernel⟩,
   ⟨11, 255, 0xFFE00, 512, block 7, fitted8, by unfold State.wf; decide +kernel⟩,
   ⟨11, 255, 0xFFE00, 512, block 7, fitted8, by unfold State.wf; decide +kernel⟩,
   ⟨11, 255, 0, 1, [7], fitted8.setReg GLB_CAP0 [] 0x33FF7F, by unfold State.wf; decide +kernel⟩,
   ⟨0, 224, 5, 8, List.replicate 8 7, fitted8.setReg GLB_CAP0 [] 0x33FF7F, by unfold State.wf; decide +kernel⟩⟩

theorem witness_LinkTrainingStates :
    (∃ (l : Fin 12) (s : State), s.wf ∧ s.regGone LNK_CTRL (lnk ↑l) = false ∧ s.linkInReset ↑l = false ∧ s.linkState ↑l = 0 ∧ s.linkProfile ↑l < 3) ∧
    (∃ (l : Fin 12) (s : State), s.wf ∧ s.regGone LNK_CTRL (lnk ↑l) = false ∧ s.linkInReset ↑l = false) ∧
    (∃ (l : Fin 12) (s : State), s.wf ∧ s.regGone LNK_CTRL (lnk ↑l) = false ∧ s.linkInReset ↑l = false) ∧
    (∃ (l : Fin 12) (rev : Bool) (pol : BitVec 8) (b : BitVec 32) (s : State), s.wf ∧ tok { : LinkDyn } s.lk = true ∧ s.linkProfile ↑l ≠ 2 ∧ s.linkState ↑l = 1 ∧ s.boundaryScan = false) ∧
    (∃ (l : Fin 12) (rev : Bool) (pol : BitVec 8) (b : BitVec 32) (s : State), s.wf ∧ tok { : LinkDyn } s.lk = true ∧ s.linkProfile ↑l ≠ 2 ∧ s.linkState ↑l = 2) ∧
    (∃ (l : Fin 12) (rev : Bool) (pol : BitVec 8) (b : BitVec 32) (s : State), s.wf ∧ tok { : LinkDyn } s.lk = true ∧ s.linkProfile ↑l ≠ 2 ∧ s.linkState ↑l = 3 ∧ (s.lnkDyn ↑l).qualCorr ≤ s.getF LNK_QUAL (lnk ↑l) LNK_QUAL.CORR_MAX) ∧
    (∃ (l : Fin 12) (rev : Bool) (pol : BitVec 8) (b : BitVec 32) (s : State) (raw : Nat), s.wf ∧ tok { : LinkDyn } s.lk = true ∧ s.linkProfile ↑l ≠ 2 ∧ s.linkState ↑l = 4 ∧ (s.lnkDyn ↑l).rounds.length = 8 ∧ List.foldl max 0 (s.lnkDyn ↑l).rounds = raw ∧ raw < 2 ^ 16 ∧ (s.lnkDyn ↑l).peerAdmit = none) ∧
    (∃ (l : Fin 12) (rev : Bool) (pol : BitVec 8) (b : BitVec 32) (s : State) (raw : Nat), s.wf ∧ tok { : LinkDyn } s.lk = true ∧ s.linkProfile ↑l ≠ 2 ∧ s.linkState ↑l = 4 ∧ (s.lnkDyn ↑l).rounds.length = 8 ∧ List.foldl max 0 (s.lnkDyn ↑l).rounds = raw ∧ raw < 2 ^ 16 ∧ (s.lnkDyn ↑l).peerAdmit = none) ∧
    (∃ (l : Fin 12) (rev : Bool) (pol : BitVec 8) (b : BitVec 32) (s : State) (raw : Nat), s.wf ∧ tok { : LinkDyn } s.lk = true ∧ s.linkProfile ↑l ≠ 2 ∧ s.linkState ↑l = 4 ∧ (s.lnkDyn ↑l).rounds.length = 8 ∧ List.foldl max 0 (s.lnkDyn ↑l).rounds = raw ∧ raw < 2 ^ 16 ∧ (s.lnkDyn ↑l).peerAdmit = none) ∧
    (∃ (l : Fin 12) (rev : Bool) (pol : BitVec 8) (b : BitVec 32) (s : State), s.wf ∧ tok { : LinkDyn } s.lk = true ∧ s.linkProfile ↑l ≠ 2 ∧ s.linkState ↑l = 5 ∧ s.getF LNK_STATUS (lnk ↑l) LNK_STATUS.CLASS ≠ 3) ∧
    (∃ (l : Fin 12) (f : List Byte) (a : BitVec 32) (b : BitVec 32) (s : State), s.wf ∧ tok { : LinkDyn } s.lk = true ∧ flitOk f = true ∧ s.linkProfile ↑l ≠ 2 ∧ 2 ≤ s.linkState ↑l ∧ s.linkState ↑l ≠ 7 ∧ leAt f 1 1 = 1) ∧
    (∃ (l : Fin 12) (f : List Byte) (a : BitVec 32) (b : BitVec 32) (s : State) (rs : List Nat) (raw : Nat), s.wf ∧ tok { : LinkDyn } s.lk = true ∧ flitOk f = true ∧ s.linkProfile ↑l ≠ 2 ∧ 2 ≤ s.linkState ↑l ∧ s.linkState ↑l ≠ 7 ∧ leAt f 1 1 = 2 ∧ s.linkState ↑l = 4 ∧ (s.lnkDyn ↑l).stamp = some (leAt f 4 4) ∧ (s.lnkDyn ↑l).rounds = rs ∧ rs.length < 8 ∧ raw = ((a.toNat + 2 ^ 32 - leAt f 4 4) % 2 ^ 32 - leAt f 8 2 + 1) / 2 ∧ roundsAgree (rs ++ [raw]) = true) ∧
    (∃ (l : Fin 12) (f : List Byte) (a : BitVec 32) (b : BitVec 32) (s : State) (rs : List Nat) (raw : Nat), s.wf ∧ tok { : LinkDyn } s.lk = true ∧ flitOk f = true ∧ s.linkProfile ↑l ≠ 2 ∧ 2 ≤ s.linkState ↑l ∧ s.linkState ↑l ≠ 7 ∧ leAt f 1 1 = 2 ∧ s.linkState ↑l = 4 ∧ (s.lnkDyn ↑l).stamp = some (leAt f 4 4) ∧ (s.lnkDyn ↑l).rounds = rs ∧ rs.length < 8 ∧ raw = ((a.toNat + 2 ^ 32 - leAt f 4 4) % 2 ^ 32 - leAt f 8 2 + 1) / 2 ∧ roundsAgree (rs ++ [raw]) = false) ∧
    (∃ (l : Fin 12) (f : List Byte) (a : BitVec 32) (b : BitVec 32) (s : State) (mine : Nat), s.wf ∧ tok { : LinkDyn } s.lk = true ∧ flitOk f = true ∧ s.linkProfile ↑l ≠ 2 ∧ 2 ≤ s.linkState ↑l ∧ s.linkState ↑l ≠ 7 ∧ leAt f 1 1 = 3 ∧ s.linkState ↑l = 5 ∧ (s.lnkDyn ↑l).proposed = some mine ∧ leAt f 2 1 % 16 = ↑l ^^^ 1 ∧ mine ≤ 2 ∧ leAt f 3 1 ≤ 2 ∧ (s.lnkDyn ↑l).peerProfile = s.linkProfile ↑l) ∧
    (∃ (l : Fin 12) (b : BitVec 32) (s : State), tok { : LinkDyn } s.lk = true ∧ s.linkState ↑l = 4 ∧ (s.lnkDyn ↑l).stamp.isSome = true) ∧
    (∃ (l : Fin 12) (s : State) (n : Nat), s.wf ∧ 1 ≤ n ∧ n ≤ 4 ∧ s.linkState ↑l = n) ∧
    (∃ (l : Fin 12) (s : State) (n : Nat), s.wf ∧ 1 ≤ n ∧ n ≤ 4 ∧ s.linkState ↑l = n) ∧
    (∃ (l : Fin 12) (s : State), s.wf ∧ s.linkState ↑l = 5) ∧
    (∃ (l : Fin 12) (s : State), s.wf ∧ s.linkState ↑l = 7 ∧ s.bit LNK_CTRL (lnk ↑l) LNK_CTRL.ENABLE = true ∧ s.linkProfile ↑l ≠ 3) ∧
    (∃ (l : Fin 12) (s : State), s.wf ∧ s.linkState ↑l ≠ 7) :=
  ⟨⟨11, up, by unfold State.wf; decide +kernel⟩,
   ⟨0, link 0 6, by unfold State.wf; decide +kernel⟩,
   ⟨11, ((link 11 6).incF LNK_LANE_ERR (lnk 11 ++ [7]) LNK_LANE_ERR.COUNT 5).incF LNK_MESO (lnk 11) LNK_MESO.MARGIN_COUNT 3, by unfold State.wf; decide +kernel⟩,
   ⟨11, true, 255, 0, link 11 1, by unfold State.wf; decide +kernel⟩,
   ⟨11, true, 255, 0, link 11 2 { qualCorr := 7 }, by unfold State.wf; decide +kernel⟩,
   ⟨11, false, 0, 0xFFFFFFFF, link 11 3 { qualCorr := 4096, rounds := [1] }, by unfold State.wf; decide +kernel⟩,
   ⟨11, false, 0, 0, link 11 4 { rounds := List.replicate 8 240 }, 240, by unfold State.wf; decide +kernel⟩,
   ⟨11, false, 0, 0, link 11 4 { rounds := List.replicate 7 240 ++ [241] }, 241, by unfold State.wf; decide +kernel⟩,
   ⟨11, false, 0, 0, (link 11 4 { rounds := List.replicate 8 1009 }).setF LNK_CTRL (lnk 11) LNK_CTRL.CLASS_REQ 2, 1009, by unfold State.wf; decide +kernel⟩,
   ⟨11, false, 0, 0, (link 11 5).setF LNK_STATUS (lnk 11) LNK_STATUS.CLASS 2, by unfold State.wf; decide +kernel⟩,
   ⟨11, linkFlit 1 0 0 77 0 0, 0xFFFFFFFF, 5, link 11 2, by unfold State.wf; decide +kernel⟩,
   ⟨11, linkFlit 2 0 0 100 10 0, 611, 0, link 11 4 { stamp := some 100, rounds := [250] }, [250], 251, by unfold State.wf; decide +kernel⟩,
   ⟨11, linkFlit 2 0 0 100 10 0, 611, 0, link 11 4 { stamp := some 100, rounds := [249] }, [249], 251, by unfold State.wf; decide +kernel⟩,
   ⟨11, linkFlit 3 10 1 0 0 0xFFFF, 0, 0, (link 11 5 { proposed := some 0 }).setF LNK_LATENCY (lnk 11) LNK_LATENCY.RAW 240, 0, by unfold State.wf; decide +kernel⟩,
   ⟨0, 5, link 0 4 { stamp := some 1 }, by decide +kernel⟩,
   ⟨0, link 0 4, 4, by unfold State.wf; decide +kernel⟩,
   ⟨0, link 0 1, 1, by unfold State.wf; decide +kernel⟩,
   ⟨0, link 0 5, by unfold State.wf; decide +kernel⟩,
   ⟨0, (link 0 7).setF LNK_CTRL (lnk 0) LNK_CTRL.ENABLE 1, by unfold State.wf; decide +kernel⟩,
   ⟨0, link 0 6, by unfold State.wf; decide +kernel⟩⟩

theorem witness_LinkTrafficAndRetrains :
    (∃ (l : Fin 12) (cw : Codeword) (s : State), s.wf ∧ tok { : LinkDyn } s.lk = true ∧ s.linkState ↑l = 6 ∧ s.linkProfile ↑l = 0 ∧ cw.marker = none ∧ cw.uncorr = false) ∧
    (∃ (l : Fin 12) (cw : Codeword) (s : State), s.wf ∧ tok { : LinkDyn } s.lk = true ∧ s.linkState ↑l = 6 ∧ s.linkProfile ↑l = 0 ∧ cw.marker = none ∧ cw.uncorr = true ∧ ((List.filter (fun (a : Nat) => decide (a < 1024)) (List.map (fun (a : Nat) => a + 1) (s.lnkDyn ↑l).uncorr)).length + 1 < s.getF LNK_CTRL (lnk ↑l) LNK_CTRL.UNCORR_MAX)) ∧
    (∃ (l : Fin 12) (cw : Codeword) (s : State), s.wf ∧ tok { : LinkDyn } s.lk = true ∧ s.linkState ↑l = 6 ∧ s.linkProfile ↑l = 0 ∧ cw.marker = none ∧ cw.uncorr = true ∧ (s.getF LNK_CTRL (lnk ↑l) LNK_CTRL.UNCORR_MAX ≤ (List.filter (fun (a : Nat) => decide (a < 1024)) (List.map (fun (a : Nat) => a + 1) (s.lnkDyn ↑l).uncorr)).length + 1)) ∧
    (∃ (l : Fin 12) (s : State), s.wf ∧ s.linkState ↑l = 8) ∧
    (∃ (l : Fin 12) (s : State), s.wf ∧ s.linkState ↑l = 6 ∧ s.maySleep ↑l = true ∧ (s.lnkDyn ↑l).skid = 0 ∧ (s.lnkDyn ↑l).holdTx = false ∧ (s.lnkDyn ↑l).quietBar ≠ some s.tempo.barno) ∧
    (∃ (l : Fin 12) (s : State), s.wf ∧ s.maySleep ↑l = false) ∧
    (∃ (l : Fin 12) (full : Bool) (s : State), s.wf ∧ s.linkUp ↑l = true) ∧
    (∃ (l : Fin 12) (full : Bool) (s : State), s.wf ∧ s.linkUp ↑l = true) ∧
    (∃ (l : Fin 12) (full : Bool) (s : State), s.wf ∧ (s.linkState ↑l = 0 ∨ s.linkState ↑l = 7)) ∧
    (∃ (s : State) (c : Cmd), s.Accepts c 1028 ∧ (retrainTargetOk (c.par 0 1) = false ∨ 4 ≤ c.par 1 1 ∨ c.parZero 2 14 = false)) ∧
    (∃ (s : State) (c : Cmd), s.Accepts c 1028 ∧ (retrainTargetOk (c.par 0 1) = false ∨ 4 ≤ c.par 1 1 ∨ c.parZero 2 14 = false)) ∧
    (∃ (s : State) (c : Cmd), s.Accepts c 1028 ∧ (¬(retrainTargetOk (c.par 0 1) = false ∨ 4 ≤ c.par 1 1 ∨ c.parZero 2 14 = false)) ∧ (s.tempo.armed = true ∨ s.tempo.running = true) ∧ c.par 1 1 < 2) ∧
    (∃ (s : State) (c : Cmd), s.Accepts c 1028 ∧ c.par 0 1 < 12 ∧ (¬(retrainTargetOk (c.par 0 1) = false ∨ 4 ≤ c.par 1 1 ∨ c.parZero 2 14 = false)) ∧ (2 ≤ c.par 1 1 ∨ s.tempo.armed = false ∧ s.tempo.running = false) ∧ s.dieFolded (8 + c.par 0 1 / 6) = false ∧ s.linkInReset (c.par 0 1) = false ∧ s.linkUp (c.par 0 1) = false) ∧
    (∃ (s : State) (c : Cmd), s.Accepts c 1028 ∧ c.par 0 1 < 12 ∧ (¬(retrainTargetOk (c.par 0 1) = false ∨ 4 ≤ c.par 1 1 ∨ c.parZero 2 14 = false)) ∧ (2 ≤ c.par 1 1 ∨ s.tempo.armed = false ∧ s.tempo.running = false) ∧ s.dieFolded (8 + c.par 0 1 / 6) = false ∧ s.linkInReset (c.par 0 1) = false ∧ s.linkUp (c.par 0 1) = true) ∧
    (∃ (s : State) (c : Cmd), s.Accepts c 1029 ∧ (12 ≤ c.par 0 1 ∨ 4 ≤ c.par 1 1 ∨ c.parZero 2 14 = false ∨ (c.par 1 1 = 1 ∨ c.par 1 1 = 2) ∧ s.tempoSource (c.par 0 1) = true)) ∧
    (∃ (s : State) (c : Cmd), s.Accepts c 1029 ∧ (12 ≤ c.par 0 1 ∨ 4 ≤ c.par 1 1 ∨ c.parZero 2 14 = false ∨ (c.par 1 1 = 1 ∨ c.par 1 1 = 2) ∧ s.tempoSource (c.par 0 1) = true)) ∧
    (∃ (s : State) (c : Cmd), s.Accepts c 1029 ∧ (¬(12 ≤ c.par 0 1 ∨ 4 ≤ c.par 1 1 ∨ c.parZero 2 14 = false ∨ (c.par 1 1 = 1 ∨ c.par 1 1 = 2) ∧ s.tempoSource (c.par 0 1) = true)) ∧ (4 < (List.filter (fun (i : Nat) => (if i = c.par 0 1 then c.par 1 1 else s.linkProfile i) == 1 || (if i = c.par 0 1 then c.par 1 1 else s.linkProfile i) == 2) (List.range 12)).length)) ∧
    (∃ (s : State) (c : Cmd), s.Accepts c 1029 ∧ (¬(12 ≤ c.par 0 1 ∨ 4 ≤ c.par 1 1 ∨ c.parZero 2 14 = false ∨ (c.par 1 1 = 1 ∨ c.par 1 1 = 2) ∧ s.tempoSource (c.par 0 1) = true)) ∧ ((List.filter (fun (i : Nat) => (if i = c.par 0 1 then c.par 1 1 else s.linkProfile i) == 1 || (if i = c.par 0 1 then c.par 1 1 else s.linkProfile i) == 2) (List.range 12)).length ≤ 4) ∧ (s.tempo.armed = true ∨ s.tempo.running = true)) ∧
    (∃ (s : State) (c : Cmd), s.Accepts c 1029 ∧ (¬(12 ≤ c.par 0 1 ∨ 4 ≤ c.par 1 1 ∨ c.parZero 2 14 = false ∨ (c.par 1 1 = 1 ∨ c.par 1 1 = 2) ∧ s.tempoSource (c.par 0 1) = true)) ∧ ((List.filter (fun (i : Nat) => (if i = c.par 0 1 then c.par 1 1 else s.linkProfile i) == 1 || (if i = c.par 0 1 then c.par 1 1 else s.linkProfile i) == 2) (List.range 12)).length ≤ 4) ∧ s.tempo.armed = false ∧ s.tempo.running = false ∧ s.wf) ∧
    (∃ (s : State) (c : Cmd), (s.waiters WaitFor.retrain).contains c = false) ∧
    (∃ (s : State) (c : Cmd), (s.waiters WaitFor.retrain).contains c = true) :=
  ⟨⟨11, codeword false 15 0x400 [[0x55], []], link 11 6 { uncorr := [1022, 1023] }, by unfold State.wf; decide +kernel⟩,
   ⟨11, codeword true 0 0 [], link 11 6 { uncorr := [1, 2, 3, 4, 5, 6, 1023] }, by unfold State.wf; decide +kernel⟩,
   ⟨11, codeword true 0 0 [], link 11 6 { uncorr := [1, 2, 3, 4, 5, 6, 1022] }, by unfold State.wf; decide +kernel⟩,
   ⟨11, link 11 8, by unfold State.wf; decide +kernel⟩,
   ⟨11, sleepy, by unfold State.wf; decide +kernel⟩,
   ⟨0, link 0 6, by unfold State.wf; decide +kernel⟩,
   ⟨0, true, link 0 8, by unfold State.wf; decide +kernel⟩,
   ⟨0, false, link 0 6, by unfold State.wf; decide +kernel⟩,
   ⟨0, true, link 0 7, by unfold State.wf; decide +kernel⟩,
   ⟨up, cmd 0x0404 [12], by unfold State.Accepts; decide +kernel⟩,
   ⟨up, cmd 0x0404 [0x92], by unfold State.Accepts; decide +kernel⟩,
   ⟨playing, cmd 0x0404 [0x91, 1], by unfold State.Accepts; decide +kernel⟩,
   ⟨playing, cmd 0x0404 [11, 2], by unfold State.Accepts; decide +kernel⟩,
   ⟨link 11 6, cmd 0x0404 [11, 1], by unfold State.Accepts; decide +kernel⟩,
   ⟨up, cmd 0x0405 [12], by unfold State.Accepts; decide +kernel⟩,
   ⟨up.setReg CLK_FWD_CFG [] 0x31, cmd 0x0405 [3, 1], by unfold State.Accepts; decide +kernel⟩,
   ⟨legacyLinks, cmd 0x0405 [5, 1], by unfold State.Accepts; decide +kernel⟩,
   ⟨playing, cmd 0x0405 [5, 1], by unfold State.Accepts; decide +kernel⟩,
   ⟨legacyLinks, cmd 0x0405 [4, 3], by unfold State.wf State.Accepts; decide +kernel⟩,
   ⟨up, cmd 0x0404 [0], by decide +kernel⟩,
   ⟨up.wait .retrain (cmd 0x0404 [0]), cmd 0x0404 [0], by decide +kernel⟩⟩

theorem witness_SeamsAndAlignment :
    (∃ (d : Fin 12) (q : Fin 4) (b : SeamBeat) (s : State), s.wf ∧ tok { : SeamDyn } s.seams = true ∧ s.seamState ↑d ↑q = 4 ∧ slotKind b.ctl 5 = false ∧ slotKind b.ctl 6 = false ∧ b.crcOk = false) ∧
    (∃ (d : Fin 12) (q : Fin 4) (b : SeamBeat) (s : State), s.wf ∧ tok { : SeamDyn } s.seams = true ∧ s.seamState ↑d ↑q = 4 ∧ slotKind b.ctl 5 = false ∧ slotKind b.ctl 6 = false ∧ b.crcOk = true ∧ b.ctl.toNat.testBit 16 = false) ∧
    (∃ (d : Fin 12) (q : Fin 4) (b : SeamBeat) (s : State), s.wf ∧ tok { : SeamDyn } s.seams = true ∧ s.seamState ↑d ↑q = 4 ∧ slotKind b.ctl 5 = false ∧ slotKind b.ctl 6 = false ∧ b.crcOk = true ∧ b.ctl.toNat.testBit 16 = true ∧ b.heldBeat = true) ∧
    (∃ (d : Fin 12) (q : Fin 4) (b : SeamBeat) (s : State), s.wf ∧ tok { : SeamDyn } s.seams = true ∧ s.seamState ↑d ↑q = 4 ∧ slotKind b.ctl 5 = false ∧ slotKind b.ctl 6 = false ∧ b.crcOk = true ∧ b.ctl.toNat.testBit 16 = true ∧ b.heldBeat = false) ∧
    (∃ (d : Fin 10) (q : Fin 4) (s : State), s.wf ∧ s.tempo.running = true ∧ s.bit SCR_TEMPO_FAULT [↑d] SCR_TEMPO_FAULT.FAULT = false) ∧
    (∃ (d : Fin 12) (q : Fin 4) (rtt : BitVec 32) (turn : BitVec 16) (s : State) (rs : List Nat) (raw : Nat), s.wf ∧ s.seamState ↑d ↑q = 2 ∧ (s.seamDyn ↑d ↑q).rounds = rs ∧ rs.length < 8 ∧ raw = (rtt.toNat - turn.toNat + 1) / 2 ∧ raw ≤ 10 ∧ roundsAgree (rs ++ [raw]) = true) ∧
    (∃ (d : Fin 12) (q : Fin 4) (rtt : BitVec 32) (turn : BitVec 16) (s : State) (rs : List Nat) (raw : Nat), s.wf ∧ s.seamState ↑d ↑q = 2 ∧ (s.seamDyn ↑d ↑q).rounds = rs ∧ rs.length < 8 ∧ raw = (rtt.toNat - turn.toNat + 1) / 2 ∧ (10 < raw ∨ roundsAgree (rs ++ [raw]) = false)) ∧
    (∃ (d : Fin 12) (q : Fin 4) (rtt : BitVec 32) (turn : BitVec 16) (s : State) (rs : List Nat) (raw : Nat), s.wf ∧ s.seamState ↑d ↑q = 2 ∧ (s.seamDyn ↑d ↑q).rounds = rs ∧ rs.length < 8 ∧ raw = (rtt.toNat - turn.toNat + 1) / 2 ∧ (10 < raw ∨ roundsAgree (rs ++ [raw]) = false)) ∧
    (∃ (d : Fin 12) (q : Fin 4) (rep : Option Nat) (s : State) (n : Nat), s.wf ∧ s.seamState ↑d ↑q = 1 ∧ rep = some n ∧ n ≤ 3) ∧
    (∃ (d : Fin 12) (q : Fin 4) (rep : Option Nat) (s : State), s.wf ∧ s.seamState ↑d ↑q = 1 ∧ (rep = none ∨ ∃ (n : Nat), rep = some n ∧ 3 < n)) ∧
    (∃ (d : Fin 12) (q : Fin 4) (rep : Option Nat) (s : State), s.wf ∧ s.seamState ↑d ↑q = 1 ∧ (rep = none ∨ ∃ (n : Nat), rep = some n ∧ 3 < n)) ∧
    (∃ (d : Fin 12) (q : Fin 4) (rep : Option Nat) (s : State) (raw : Nat), s.wf ∧ s.seamState ↑d ↑q = 2 ∧ (s.seamDyn ↑d ↑q).rounds.length = 8 ∧ List.foldl max 0 (s.seamDyn ↑d ↑q).rounds = raw ∧ raw ≤ 10) ∧
    (∃ (good : Bool) (s : State), s.seamsUp = true) ∧
    (∃ (d : Fin 12) (v : Nat) (fwd : Bool) (as : List (Nat × Nat × Bool)) (s : State), ↑d ≠ 8 ∧ s.aligns = (↑d, v, fwd) :: as ∧ v < 2 ^ 32 ∧ s.hasDie ↑d = true ∧ tok 0 s.dieBase = true) ∧
    (∃ (d : Fin 12) (v : Nat) (fwd : Bool) (as : List (Nat × Nat × Bool)) (s : State), ↑d ≠ 8 ∧ s.aligns = (↑d, v, fwd) :: as ∧ v < 2 ^ 32 ∧ s.hasDie ↑d = true ∧ tok 0 s.dieBase = true) ∧
    (∃ (d : Fin 12) (p : Fin 12) (s : State), alignParent ↑d = some ↑p ∧ s.dieUp ↑d = true ∧ s.dieUp ↑p = true) :=
  ⟨⟨0, 0, ⟨false, 0, true, false, false, 9⟩, seam 0 0 4, by unfold State.wf; decide +kernel⟩,
   ⟨0, 0, ⟨true, 0x8000, true, false, true, 9⟩, seam 0 0 4 { awaiting := true }, by unfold State.wf; decide +kernel⟩,
   ⟨0, 0, ⟨true, 0x10000, true, true, true, 9⟩, seam 0 0 4, by unfold State.wf; decide +kernel⟩,
   ⟨0, 0, ⟨true, 0x10000, true, false, true, 9⟩, seam 0 0 4, by unfold State.wf; decide +kernel⟩,
   ⟨9, 3, playing, by unfold State.wf; decide +kernel⟩,
   ⟨0, 0, 29, 10, seam 0 0 2 { rounds := [9] }, [9], 10, by unfold State.wf; decide +kernel⟩,
   ⟨0, 0, 31, 10, seam 0 0 2, [], 11, by unfold State.wf; decide +kernel⟩,
   ⟨0, 0, 29, 10, seam 0 0 2 { rounds := [8] }, [8], 10, by unfold State.wf; decide +kernel⟩,
   ⟨0, 0, some 3, seam 0 0 1, 3, by unfold State.wf; decide +kernel⟩,
   ⟨0, 0, some 4, seam 0 0 1, by unfold State.wf; decide +kernel⟩,
   ⟨0, 0, none, seam 0 0 1, by unfold State.wf; decide +kernel⟩,
   ⟨0, 0, none, seam 0 0 2 { rounds := List.replicate 8 10 }, 10, by unfold State.wf; decide +kernel⟩,
   ⟨true, seamsThere, by decide +kernel⟩,
   ⟨11, 0xFFFFFFFF, false, [], { up with aligns := [(11, 0xFFFFFFFF, false)] }, by decide +kernel⟩,
   ⟨4, 0xFFFFFFFF, true, [], { up with aligns := [(4, 0xFFFFFFFF, true)] }, by decide +kernel⟩,
   ⟨0, 8, { up with clock := 0xFFFFFFFF }, by decide +kernel⟩⟩

theorem witness_BoltHeadsAtSwitches :
    (∃ (id : Nat) (a : Nat) (q : Nat) (free : Bool) (obs : SkidObs) (c : Instr) (f : Flight) (s : State), s.wf ∧ tok { : SeamDyn } s.seams = true ∧ s.flight id = some f ∧ f.accepted = false ∧ f.hdrBad = false ∧ f.at_ < 8 ∧ f.at_ ≠ f.goal ∧ f.inp = BoltIn.seam a ∧ portTo f.at_ a = some q ∧ obs.occ ≤ 256 ∧ (c = Instr.boltHeadRoute id free obs ∧ f.held = false ∨ c = Instr.headAdvance id free obs ∧ f.held = true)) ∧
    (∃ (id : Nat) (a : Nat) (q : Nat) (free : Bool) (obs : SkidObs) (c : Instr) (f : Flight) (s : State), s.wf ∧ tok { : SeamDyn } s.seams = true ∧ s.flight id = some f ∧ f.accepted = false ∧ f.hdrBad = false ∧ f.at_ < 8 ∧ f.at_ ≠ f.goal ∧ f.inp = BoltIn.seam a ∧ portTo f.at_ a = some q ∧ obs.occ ≤ 256 ∧ (c = Instr.boltHeadRoute id free obs ∧ f.held = false ∨ c = Instr.headAdvance id free obs ∧ f.held = true)) ∧
    (∃ (id : Nat) (free : Bool) (obs : SkidObs) (f : Flight) (s : State), s.flight id = some f ∧ f.accepted = true) ∧
    (∃ (id : Nat) (a : Nat) (q : Nat) (l : Nat) (obs : SkidObs) (f : Flight) (s : State), s.wf ∧ tok { : SeamDyn } s.seams = true ∧ s.flight id = some f ∧ f.own = true ∧ f.looked = false ∧ f.exit = some l ∧ l < 12 ∧ f.at_ = 8 + l / 6 ∧ f.inp = BoltIn.seam a ∧ portTo f.at_ a = some q ∧ q < 2 ∧ obs.occ ≤ 256 ∧ s.rankAbsent f.at_ f.hdr.drank = false ∧ s.exitRouteOk f.at_ f = true ∧ s.fenced l = false ∧ s.discarding l = false ∧ s.linkProfile l = 0 ∧ s.linkClear l = true ∧ f.resend = false ∧ f.split = false ∧ f.bad = false ∧ f.cut = false) ∧
    (∃ (id : Nat) (a : Nat) (q : Nat) (l : Nat) (obs : SkidObs) (f : Flight) (s : State), s.wf ∧ tok { : SeamDyn } s.seams = true ∧ s.flight id = some f ∧ f.own = true ∧ f.looked = false ∧ f.exit = some l ∧ l < 12 ∧ f.at_ = 8 + l / 6 ∧ f.inp = BoltIn.seam a ∧ portTo f.at_ a = some q ∧ q < 2 ∧ obs.occ ≤ 256 ∧ s.rankAbsent f.at_ f.hdr.drank = true) ∧
    (∃ (stream : Nat) (status : Nat) (s : State), tok 0 s.score.ended = true) :=
  ⟨⟨0, 0, 0, true, ⟨0, 0, 0⟩, .boltHeadRoute 0 true ⟨0, 0, 0⟩, fly (hdr 64) 1 0, flying (fly (hdr 64) 1 0), by unfold State.wf; decide +kernel⟩,
   ⟨0, 0, 0, false, ⟨120, 9, 9⟩, .headAdvance 0 false ⟨120, 9, 9⟩, { fly (hdr 64) 1 0 with held := true }, flying { fly (hdr 64) 1 0 with held := true }, by unfold State.wf; decide +kernel⟩,
   ⟨0, true, ⟨0, 0, 0⟩, { fly (hdr 32) 1 0 with accepted := true }, flying { fly (hdr 32) 1 0 with accepted := true }, by decide +kernel⟩,
   ⟨0, 0, 0, 0, ⟨256, 0, 0⟩, fly (hdr 0 1 16383) 8 0 (some 0), ((flying (fly (hdr 0 1 16383) 8 0 (some 0))).setReg RNK_TABLE [8, 16383] 7).setReg RNK_FENCE [8] 0, by unfold State.wf; decide +kernel⟩,
   ⟨0, 0, 0, 0, ⟨0, 0, 0⟩, fly (hdr 0 1 16384) 8 0 (some 0), flying (fly (hdr 0 1 16384) 8 0 (some 0)), by unfold State.wf; decide +kernel⟩,
   ⟨9, 5, darn (held 3), by decide +kernel⟩⟩

theorem witness_BoltsOverLinks :
    (∃ (l : Fin 12) (flits : List (List Byte)) (free : Bool) (h : BoltHdr) (hb : Bool) (pay : List Byte) (pcrc : Nat) (s : State), s.wf ∧ tok { : LinkDyn } s.lk = true ∧ s.linkUp ↑l = true ∧ s.linkProfile ↑l = 0 ∧ s.dieUp (8 + ↑l / 6) = true ∧ parseBolt flits = (h, hb, pay, pcrc) ∧ s.fenced ↑l = true) ∧
    (∃ (l : Fin 12) (flits : List (List Byte)) (free : Bool) (h : BoltHdr) (hb : Bool) (pay : List Byte) (pcrc : Nat) (s : State), s.wf ∧ tok { : LinkDyn } s.lk = true ∧ s.linkUp ↑l = true ∧ s.linkProfile ↑l = 0 ∧ s.dieUp (8 + ↑l / 6) = true ∧ parseBolt flits = (h, hb, pay, pcrc) ∧ s.fenced ↑l = false ∧ hb = true) ∧
    (∃ (l : Fin 12) (flits : List (List Byte)) (free : Bool) (h : BoltHdr) (hb : Bool) (pay : List Byte) (pcrc : Nat) (s : State), s.wf ∧ tok { : LinkDyn } s.lk = true ∧ s.linkUp ↑l = true ∧ s.linkProfile ↑l = 0 ∧ s.dieUp (8 + ↑l / 6) = true ∧ parseBolt flits = (h, hb, pay, pcrc) ∧ s.fenced ↑l = false ∧ hb = false ∧ s.sliceOk h.slice = false) ∧
    (∃ (l : Fin 12) (flits : List (List Byte)) (free : Bool) (h : BoltHdr) (hb : Bool) (pay : List Byte) (pcrc : Nat) (s : State), s.wf ∧ tok { : LinkDyn } s.lk = true ∧ s.linkUp ↑l = true ∧ s.linkProfile ↑l = 0 ∧ s.dieUp (8 + ↑l / 6) = true ∧ parseBolt flits = (h, hb, pay, pcrc) ∧ s.fenced ↑l = false ∧ hb = false ∧ s.sliceOk h.slice = true ∧ s.landsOn ↑l = false ∧ routeHops h.route = 0 ∧ h.lines + 2 ≤ flits.length ∧ s.hasDie (h.dpress / 32) = false) ∧
    (∃ (l : Fin 12) (flits : List (List Byte)) (free : Bool) (h : BoltHdr) (hb : Bool) (pay : List Byte) (pcrc : Nat) (s : State), s.wf ∧ tok { : LinkDyn } s.lk = true ∧ s.linkUp ↑l = true ∧ s.linkProfile ↑l = 0 ∧ s.dieUp (8 + ↑l / 6) = true ∧ parseBolt flits = (h, hb, pay, pcrc) ∧ s.fenced ↑l = false ∧ hb = false ∧ s.sliceOk h.slice = true ∧ s.landsOn ↑l = false ∧ routeHops h.route = 0 ∧ h.lines + 2 ≤ flits.length ∧ s.hasDie (h.dpress / 32) = true ∧ free = true ∧ h.dpress < 256 ∧ Option.any (s.seamClear (8 + ↑l / 6)) (portTo (8 + ↑l / 6) (nextDie (8 + ↑l / 6) (h.dpress / 32))) = true) ∧
    (∃ (id : Nat) (a : Nat) (q : Nat) (upto : Fin 129) (obs : SkidObs) (f : Flight) (s : State), s.wf ∧ s.flight id = some f ∧ f.exit = none ∧ f.accepted = false ∧ f.hdrBad = false ∧ f.at_ < 8 ∧ f.at_ = f.hdr.dpress / 32 ∧ f.inp = BoltIn.seam a ∧ portTo f.at_ a = some q ∧ obs.occ ≤ 256 ∧ f.resend = false ∧ s.sliceOk f.hdr.slice = false) ∧
    (∃ (id : Nat) (a : Nat) (q : Nat) (upto : Fin 129) (obs : SkidObs) (f : Flight) (s : State), s.wf ∧ s.flight id = some f ∧ f.exit = none ∧ f.accepted = false ∧ f.hdrBad = false ∧ f.at_ < 8 ∧ f.at_ = f.hdr.dpress / 32 ∧ f.inp = BoltIn.seam a ∧ portTo f.at_ a = some q ∧ obs.occ ≤ 256 ∧ f.resend = false ∧ s.sliceOk f.hdr.slice = true ∧ f.rem = 0 ∧ f.hdr.drank ≠ s.rank) ∧
    (∃ (id : Nat) (a : Nat) (q : Nat) (upto : Fin 129) (obs : SkidObs) (f : Flight) (s : State), s.wf ∧ s.flight id = some f ∧ f.exit = none ∧ f.accepted = false ∧ f.hdrBad = false ∧ f.at_ < 8 ∧ f.at_ = f.hdr.dpress / 32 ∧ f.inp = BoltIn.seam a ∧ portTo f.at_ a = some q ∧ obs.occ ≤ 256 ∧ f.resend = false ∧ s.sliceOk f.hdr.slice = true ∧ (f.rem = 0 → f.hdr.drank = s.rank) ∧ s.pressUp f.hdr.dpress = false) ∧
    (∃ (id : Nat) (a : Nat) (q : Nat) (upto : Fin 129) (obs : SkidObs) (f : Flight) (s : State) (w : Window) (d : Int), s.wf ∧ s.flight id = some f ∧ f.exit = none ∧ f.accepted = false ∧ f.hdrBad = false ∧ f.at_ < 8 ∧ f.at_ = f.hdr.dpress / 32 ∧ f.inp = BoltIn.seam a ∧ portTo f.at_ a = some q ∧ obs.occ ≤ 256 ∧ f.resend = false ∧ s.sliceOk f.hdr.slice = true ∧ (f.rem = 0 → f.hdr.drank = s.rank) ∧ s.pressUp f.hdr.dpress = true ∧ s.window f.at_ f.hdr.srank f.hdr.stream = some w ∧ serialDiff 16 f.hdr.seq w.base = d ∧ (d < 0 ∨ d < 1024 ∧ w.received.testBit d.toNat = true)) ∧
    (∃ (id : Nat) (a : Nat) (q : Nat) (upto : Fin 129) (obs : SkidObs) (f : Flight) (s : State) (w : Window) (d : Int), s.wf ∧ s.flight id = some f ∧ f.exit = none ∧ f.accepted = false ∧ f.hdrBad = false ∧ f.at_ < 8 ∧ f.at_ = f.hdr.dpress / 32 ∧ f.inp = BoltIn.seam a ∧ portTo f.at_ a = some q ∧ obs.occ ≤ 256 ∧ f.resend = false ∧ s.sliceOk f.hdr.slice = true ∧ (f.rem = 0 → f.hdr.drank = s.rank) ∧ s.pressUp f.hdr.dpress = true ∧ s.window f.at_ f.hdr.srank f.hdr.stream = some w ∧ serialDiff 16 f.hdr.seq w.base = d ∧ (d < 0 ∨ d < 1024 ∧ w.received.testBit d.toNat = true)) ∧
    (∃ (id : Nat) (a : Nat) (q : Nat) (upto : Fin 129) (obs : SkidObs) (f : Flight) (s : State) (w : Window) (d : Int), s.wf ∧ s.flight id = some f ∧ f.exit = none ∧ f.accepted = false ∧ f.hdrBad = false ∧ f.at_ < 8 ∧ f.at_ = f.hdr.dpress / 32 ∧ f.inp = BoltIn.seam a ∧ portTo f.at_ a = some q ∧ obs.occ ≤ 256 ∧ f.resend = false ∧ s.sliceOk f.hdr.slice = true ∧ (f.rem = 0 → f.hdr.drank = s.rank) ∧ s.pressUp f.hdr.dpress = true ∧ s.window f.at_ f.hdr.srank f.hdr.stream = some w ∧ serialDiff 16 f.hdr.seq w.base = d ∧ 1024 ≤ d) ∧
    (∃ (id : Nat) (a : Nat) (q : Nat) (upto : Fin 129) (obs : SkidObs) (f : Flight) (s : State) (w : Window) (d : Int), s.wf ∧ s.flight id = some f ∧ f.exit = none ∧ f.accepted = false ∧ f.hdrBad = false ∧ f.at_ < 8 ∧ f.at_ = f.hdr.dpress / 32 ∧ f.inp = BoltIn.seam a ∧ portTo f.at_ a = some q ∧ obs.occ ≤ 256 ∧ f.resend = false ∧ s.sliceOk f.hdr.slice = true ∧ (f.rem = 0 → f.hdr.drank = s.rank) ∧ s.pressUp f.hdr.dpress = true ∧ s.window f.at_ f.hdr.srank f.hdr.stream = some w ∧ serialDiff 16 f.hdr.seq w.base = d ∧ 0 ≤ d ∧ d < 1024 ∧ w.received.testBit d.toNat = false ∧ w.landing.testBit d.toNat = true) ∧
    (∃ (id : Nat) (a : Nat) (q : Nat) (upto : Fin 129) (obs : SkidObs) (f : Flight) (s : State) (w : Window) (d : Int), s.wf ∧ s.flight id = some f ∧ f.exit = none ∧ f.accepted = false ∧ f.hdrBad = false ∧ f.at_ < 8 ∧ f.at_ = f.hdr.dpress / 32 ∧ f.inp = BoltIn.seam a ∧ portTo f.at_ a = some q ∧ obs.occ ≤ 256 ∧ f.resend = false ∧ s.sliceOk f.hdr.slice = true ∧ (f.rem = 0 → f.hdr.drank = s.rank) ∧ s.pressUp f.hdr.dpress = true ∧ s.window f.at_ f.hdr.srank f.hdr.stream = some w ∧ serialDiff 16 f.hdr.seq w.base = d ∧ 0 ≤ d ∧ d < 1024 ∧ w.received.testBit d.toNat = false ∧ w.landing.testBit d.toNat = false ∧ ↑upto = 0) :=
  ⟨⟨0, boltFlits (hdr 0) pay1 (crc32c pay1), true, hdr 0, false, pay1, crc32c pay1, ways.setF RNK_FENCE [8] RNK_FENCE.SW 1, by unfold State.wf; decide +kernel⟩,
   ⟨0, (overlay ((boltFlits (hdr 0) pay1 (crc32c pay1)).headD []) 16 [0, 0, 0, 0]) :: (boltFlits (hdr 0) pay1 (crc32c pay1)).drop 1, true, hdr 0, true, pay1, crc32c pay1, ways.setReg RNK_FENCE [8] 0, by unfold State.wf; decide +kernel⟩,
   ⟨0, boltFlits (hdr 0 0 0 4) pay1 (crc32c pay1), true, hdr 0 0 0 4, false, pay1, crc32c pay1, ways.setReg RNK_FENCE [8] 0, by unfold State.wf; decide +kernel⟩,
   ⟨0, boltFlits (hdr 32) pay1 (crc32c pay1), true, hdr 32, false, pay1, crc32c pay1, (ways.setReg RNK_FENCE [8] 0).setReg GLB_CAP0 [] 0x300101, by unfold State.wf; decide +kernel⟩,
   ⟨0, boltFlits (hdr 0) pay1 (crc32c pay1), true, hdr 0, false, pay1, crc32c pay1, ways.setReg RNK_FENCE [8] 0, by unfold State.wf; decide +kernel⟩,
   ⟨0, 0, 0, 128, ⟨0, 0, 0⟩, fly (hdr 33 0 0 4) 1 0, flying (fly (hdr 33 0 0 4) 1 0), by unfold State.wf; decide +kernel⟩,
   ⟨0, 0, 0, 128, ⟨0, 0, 0⟩, fly (hdr 33 0 1) 1 0, flying (fly (hdr 33 0 1) 1 0), by unfold State.wf; decide +kernel⟩,
   ⟨0, 0, 0, 128, ⟨0, 0, 0⟩, fly (hdr 33 1 8) 1 0, (flying (fly (hdr 33 1 8) 1 0)).setReg RST_DIE [] 2, by unfold State.wf; decide +kernel⟩,
   ⟨0, 0, 0, 128, ⟨0, 0, 0⟩, fly (hdr 33) 1 0, windowed 4 0 0 (fly (hdr 33) 1 0), ⟨1, 7, 9, 4, 0, 0⟩, -1, by unfold State.wf; decide +kernel⟩,
   ⟨0, 0, 0, 128, ⟨0, 0, 0⟩, fly (hdr 33) 1 0, windowed 64516 (2 ^ 1023) 0 (fly (hdr 33) 1 0), ⟨1, 7, 9, 64516, 2 ^ 1023, 0⟩, 1023, by unfold State.wf; decide +kernel⟩,
   ⟨0, 0, 0, 128, ⟨0, 0, 0⟩, fly (hdr 33) 1 0, windowed 64515 0 0 (fly (hdr 33) 1 0), ⟨1, 7, 9, 64515, 0, 0⟩, 1024, by unfold State.wf; decide +kernel⟩,
   ⟨0, 0, 0, 128, ⟨0, 0, 0⟩, fly (hdr 33) 1 0, windowed 3 0 1 (fly (hdr 33) 1 0), ⟨1, 7, 9, 3, 0, 1⟩, 0, by unfold State.wf; decide +kernel⟩,
   ⟨0, 0, 0, 0, ⟨0, 0, 0⟩, fly (hdr 33) 1 0, windowed 64516 0 0 (fly (hdr 33) 1 0), ⟨1, 7, 9, 64516, 0, 0⟩, 1023, by unfold State.wf; decide +kernel⟩⟩

theorem witness_DarningSteps :
    (∃ (stream : BitVec 12) (seq : BitVec 16) (d : Desc) (s : State), s.descOf stream.toNat seq.toNat = some d ∧ d.record = false ∧ tget [] s.score.early (streamMangle d.stream) = []) ∧
    (∃ (m : Fin 2) (s : State), s.wf ∧ tok [] s.score.resendQ = true) ∧
    (∃ (m : Fin 2) (s : State), s.wf ∧ tok [] s.score.resendQ = true) ∧
    (∃ (m : Fin 2) (st : Nat) (sq : Nat) (rest : List (Nat × Nat)) (x : Desc) (s : State), s.wf ∧ tok [] s.score.resendQ = true ∧ tget [] s.score.resendQ (8 + ↑m) = (st, sq) :: rest ∧ s.descOf st sq = some x) ∧
    (∃ (m : Fin 2) (s : State), tget [] s.score.resendQ (8 + ↑m) = []) ∧
    (∃ (l : Fin 12) (beat : BitVec 16) (x : Stored) (s : State), s.wf ∧ (List.find? (fun (x : Stored) => x.mangle == 8 + ↑l / 6 && x.exit == some ↑l) s.score.stored = some x) ∧ s.discarding ↑l = false ∧ s.fenced ↑l = false ∧ x.chan < 6 ∧ s.tempo.windowFits beat.toNat (x.hdr.lines + 2) = true ∧ s.linkClear ↑l = true ∧ s.linkProfile ↑l = 0 ∧ x.bad = false) ∧
    (∃ (l : Fin 12) (beat : BitVec 16) (x : Stored) (s : State), s.wf ∧ (List.find? (fun (x : Stored) => x.mangle == 8 + ↑l / 6 && x.exit == some ↑l) s.score.stored = some x) ∧ s.discarding ↑l = false ∧ s.fenced ↑l = false ∧ x.chan < 6 ∧ s.tempo.windowFits beat.toNat (x.hdr.lines + 2) = true) ∧
    (∃ (l : Fin 12) (beat : BitVec 16) (x : Stored) (s : State) (free : Bool), s.wf ∧ (List.find? (fun (x : Stored) => x.mangle == 8 + ↑l / 6 && x.exit == some ↑l) s.score.stored = some x) ∧ s.discarding ↑l = false ∧ s.fenced ↑l = false ∧ x.chan < 6 ∧ s.tempo.windowFits beat.toNat (x.hdr.lines + 2) = false ∧ s.tempo.e ≤ beat.toNat) ∧
    (∃ (m : Fin 2) (x : Stored) (s : State), (List.find? (fun (x : Stored) => x.mangle == 8 + ↑m && match x.exit with | some l => 8 + l / 6 != 8 + ↑m | none => true) s.score.stored = some x)) ∧
    (∃ (m : Fin 2) (x : Stored) (s : State), (List.find? (fun (x : Stored) => x.mangle == 8 + ↑m && match x.exit with | some l => 8 + l / 6 != 8 + ↑m | none => true) s.score.stored = some x)) :=
  ⟨⟨9, 3, held 3 false, darn (held 3 false), by decide +kernel⟩,
   ⟨0, { darn (held 3) with tempo := { barno := 7 } }, by unfold State.wf; decide +kernel⟩,
   ⟨1, { darn (held 3) with tempo := { barno := 5 } }, by unfold State.wf; decide +kernel⟩,
   ⟨0, 9, 3, [], held 3 true true, darn (held 3 true true) [(9, 3)], by unfold State.wf; decide +kernel⟩,
   ⟨1, darn (held 3 true true) [(9, 3)], by decide +kernel⟩,
   ⟨0, 960, kept (hdr 0 1) (some 0), (keepingOn (kept (hdr 0 1) (some 0))).setReg RNK_FENCE [8] 0, by unfold State.wf; decide +kernel⟩,
   ⟨0, 1022, kept (hdr 0 1) (some 0), (keepingOn (kept (hdr 0 1) (some 0))).setReg RNK_FENCE [8] 0, by unfold State.wf; decide +kernel⟩,
   ⟨0, 1023, kept (hdr 0 1) (some 0), (keepingOn (kept (hdr 0 1) (some 0))).setReg RNK_FENCE [8] 0, true, by unfold State.wf; decide +kernel⟩,
   ⟨0, kept (hdr 33) none, keeping (kept (hdr 33) none), by decide +kernel⟩,
   ⟨0, kept (hdr 33 8) (some 7), keeping (kept (hdr 33 8) (some 7)), by decide +kernel⟩⟩

theorem witness_TacksLeaveTheirDie :
    (∃ (p : Fin 256) (k : Fin 4) (w : Stalls) (s : State) (i : Nat) (ra : Nat) (tpl : Nat), s.wf ∧ s.Issues (↑p) (↑k) i (PInstr.tksend ra tpl) ∧ s.replaying = false ∧ tok { : Section } s.sects = true ∧ tok [] s.tacks.tokens = true ∧ (List.find? (fun (n : Nat) => (s.tokens (↑p / 32)).all fun (t : Token) => t.num != n) (List.range (s.budget (↑p / 32))) = none)) ∧
    (∃ (p : Fin 256) (k : Fin 4) (w : Stalls) (s : State) (i : Nat) (ra : Nat) (tpl : Nat) (num : Nat), s.wf ∧ s.Issues (↑p) (↑k) i (PInstr.tksend ra tpl) ∧ s.replaying = false ∧ tok { : Section } s.sects = true ∧ tok [] s.tacks.tokens = true ∧ (List.find? (fun (n : Nat) => (s.tokens (↑p / 32)).all fun (t : Token) => t.num != n) (List.range (s.budget (↑p / 32))) = some num)) ∧
    (∃ (m : Fin 2) (s : State), s.wf ∧ s.dieUp (8 + ↑m) = true ∧ (hget (List.flatMap (fun (i : Nat) => leBytes 8 (BitVec.toNat (s.reg TCK_CSEND_DATA [8 + ↑m, i]))) (List.range 4)) 36 4 = 1 ∨ hget (List.flatMap (fun (i : Nat) => leBytes 8 (BitVec.toNat (s.reg TCK_CSEND_DATA [8 + ↑m, i]))) (List.range 4)) 36 4 = 2 ∨ hget (List.flatMap (fun (i : Nat) => leBytes 8 (BitVec.toNat (s.reg TCK_CSEND_DATA [8 + ↑m, i]))) (List.range 4)) 36 4 = 9 ∨ tackFormOk (List.flatMap (fun (i : Nat) => leBytes 8 (BitVec.toNat (s.reg TCK_CSEND_DATA [8 + ↑m, i]))) (List.range 4)) = false ∨ hget (List.flatMap (fun (i : Nat) => leBytes 8 (BitVec.toNat (s.reg TCK_CSEND_DATA [8 + ↑m, i]))) (List.range 4)) 36 4 = 5 ∧ s.bit GLB_MODE [] GLB_MODE.METRONOME = true)) ∧
    (∃ (m : Fin 2) (s : State), s.wf ∧ s.dieUp (8 + ↑m) = true ∧ (¬(hget (List.flatMap (fun (i : Nat) => leBytes 8 (BitVec.toNat (s.reg TCK_CSEND_DATA [8 + ↑m, i]))) (List.range 4)) 36 4 = 1 ∨ hget (List.flatMap (fun (i : Nat) => leBytes 8 (BitVec.toNat (s.reg TCK_CSEND_DATA [8 + ↑m, i]))) (List.range 4)) 36 4 = 2 ∨ hget (List.flatMap (fun (i : Nat) => leBytes 8 (BitVec.toNat (s.reg TCK_CSEND_DATA [8 + ↑m, i]))) (List.range 4)) 36 4 = 9 ∨ tackFormOk (List.flatMap (fun (i : Nat) => leBytes 8 (BitVec.toNat (s.reg TCK_CSEND_DATA [8 + ↑m, i]))) (List.range 4)) = false ∨ hget (List.flatMap (fun (i : Nat) => leBytes 8 (BitVec.toNat (s.reg TCK_CSEND_DATA [8 + ↑m, i]))) (List.range 4)) 36 4 = 5 ∧ s.bit GLB_MODE [] GLB_MODE.METRONOME = true)) ∧ (List.find? (fun (n : Nat) => (s.tokens (8 + ↑m)).all fun (t : Token) => t.num != n) (List.range 64) = none)) ∧
    (∃ (m : Fin 2) (s : State) (num : Nat), s.wf ∧ s.dieUp (8 + ↑m) = true ∧ (¬(hget (List.flatMap (fun (i : Nat) => leBytes 8 (BitVec.toNat (s.reg TCK_CSEND_DATA [8 + ↑m, i]))) (List.range 4)) 36 4 = 1 ∨ hget (List.flatMap (fun (i : Nat) => leBytes 8 (BitVec.toNat (s.reg TCK_CSEND_DATA [8 + ↑m, i]))) (List.range 4)) 36 4 = 2 ∨ hget (List.flatMap (fun (i : Nat) => leBytes 8 (BitVec.toNat (s.reg TCK_CSEND_DATA [8 + ↑m, i]))) (List.range 4)) 36 4 = 9 ∨ tackFormOk (List.flatMap (fun (i : Nat) => leBytes 8 (BitVec.toNat (s.reg TCK_CSEND_DATA [8 + ↑m, i]))) (List.range 4)) = false ∨ hget (List.flatMap (fun (i : Nat) => leBytes 8 (BitVec.toNat (s.reg TCK_CSEND_DATA [8 + ↑m, i]))) (List.range 4)) 36 4 = 5 ∧ s.bit GLB_MODE [] GLB_MODE.METRONOME = true)) ∧ (List.find? (fun (n : Nat) => (s.tokens (8 + ↑m)).all fun (t : Token) => t.num != n) (List.range 64) = some num)) ∧
    (∃ (m : Fin 2) (s : State) (num : Nat), s.wf ∧ s.dieUp (8 + ↑m) = true ∧ (¬(hget (List.flatMap (fun (i : Nat) => leBytes 8 (BitVec.toNat (s.reg TCK_CSEND_DATA [8 + ↑m, i]))) (List.range 4)) 36 4 = 1 ∨ hget (List.flatMap (fun (i : Nat) => leBytes 8 (BitVec.toNat (s.reg TCK_CSEND_DATA [8 + ↑m, i]))) (List.range 4)) 36 4 = 2 ∨ hget (List.flatMap (fun (i : Nat) => leBytes 8 (BitVec.toNat (s.reg TCK_CSEND_DATA [8 + ↑m, i]))) (List.range 4)) 36 4 = 9 ∨ tackFormOk (List.flatMap (fun (i : Nat) => leBytes 8 (BitVec.toNat (s.reg TCK_CSEND_DATA [8 + ↑m, i]))) (List.range 4)) = false ∨ hget (List.flatMap (fun (i : Nat) => leBytes 8 (BitVec.toNat (s.reg TCK_CSEND_DATA [8 + ↑m, i]))) (List.range 4)) 36 4 = 5 ∧ s.bit GLB_MODE [] GLB_MODE.METRONOME = true)) ∧ (List.find? (fun (n : Nat) => (s.tokens (8 + ↑m)).all fun (t : Token) => t.num != n) (List.range 64) = some num)) ∧
    (∃ (d : Nat) (bs : List Byte) (token : Option Nat) (s : State), s.wf ∧ d < 12 ∧ (s.injCount { bytes := withChk bs, src := some d, token := token, sect := none, mangle := 8 + hget bs 18 1, via := none : Tack }.mangle d < 64 ∧ ∀ (x : Tack), x ∈ s.tacks.waiting → ¬(x.mangle = { bytes := withChk bs, src := some d, token := token, sect := none, mangle := 8 + hget bs 18 1, via := none : Tack }.mangle ∧ x.src = some d))) ∧
    (∃ (d : Nat) (bs : List Byte) (token : Option Nat) (s : State), s.wf ∧ d < 12 ∧ (¬(s.injCount { bytes := withChk bs, src := some d, token := token, sect := none, mangle := 8 + hget bs 18 1, via := none : Tack }.mangle d < 64 ∧ ∀ (x : Tack), x ∈ s.tacks.waiting → ¬(x.mangle = { bytes := withChk bs, src := some d, token := token, sect := none, mangle := 8 + hget bs 18 1, via := none : Tack }.mangle ∧ x.src = some d)))) ∧
    (∃ (d : Nat) (bs : List Byte) (token : Option Nat) (s : State), s.wf ∧ d < 12 ∧ d < 8) ∧
    (∃ (d : Nat) (bs : List Byte) (token : Option Nat) (s : State), s.wf ∧ d < 12) ∧
    (∃ (d : Fin 12) (m : Fin 2) (t : Tack) (s : State), (List.find? (fun (t : Tack) => t.src == some ↑d && t.mangle == 8 + ↑m) s.tacks.waiting = some t) ∧ s.injCount (8 + ↑m) ↑d < 64) ∧
    (∃ (d : Fin 12) (m : Fin 2) (t : Tack) (s : State), (List.find? (fun (t : Tack) => t.src == some ↑d && t.mangle == 8 + ↑m) s.tacks.waiting = some t) ∧ 64 ≤ s.injCount (8 + ↑m) ↑d) ∧
    (∃ (d : Fin 8) (k : Knot) (rest : List Knot) (s : State), tget [] s.score.knotQ ↑d = k :: rest ∧ tok [] s.score.knotQ = true ∧ s.dieUp ↑d = true ∧ s.injCount (8 + s.knotIdx k) ↑d < 64) ∧
    (∃ (m : Fin 2) (t : Tack) (sd : Nat) (s : State), s.wf ∧ tok [] s.tacks.inj = true ∧ s.dieUp (8 + ↑m) = true ∧ (List.find? (fun (t : Tack) => t.mangle == 8 + ↑m) s.tacks.toMangle = some t) ∧ t.src = some sd ∧ t.mc = false ∧ s.rankAbsent (8 + ↑m) t.dest = false ∧ entGen (s.rankEntry (8 + ↑m) t.dest) = 3 ∧ entX (s.rankEntry (8 + ↑m) t.dest) + 32 * entY (s.rankEntry (8 + ↑m) t.dest) + 1024 * entZ (s.rankEntry (8 + ↑m) t.dest) = s.ownCoords (8 + ↑m)) ∧
    (∃ (m : Fin 2) (t : Tack) (sd : Nat) (s : State), s.wf ∧ tok [] s.tacks.inj = true ∧ s.dieUp (8 + ↑m) = true ∧ (List.find? (fun (t : Tack) => t.mangle == 8 + ↑m) s.tacks.toMangle = some t) ∧ t.src = some sd ∧ t.mc = false ∧ s.rankAbsent (8 + ↑m) t.dest = false ∧ entGen (s.rankEntry (8 + ↑m) t.dest) = 3 ∧ entX (s.rankEntry (8 + ↑m) t.dest) + 32 * entY (s.rankEntry (8 + ↑m) t.dest) + 1024 * entZ (s.rankEntry (8 + ↑m) t.dest) ≠ s.ownCoords (8 + ↑m)) ∧
    (∃ (m : Fin 2) (t : Tack) (sd : Nat) (s : State), s.wf ∧ tok [] s.tacks.inj = true ∧ s.dieUp (8 + ↑m) = true ∧ (List.find? (fun (t : Tack) => t.mangle == 8 + ↑m) s.tacks.toMangle = some t) ∧ t.src = some sd ∧ t.mc = false ∧ s.rankAbsent (8 + ↑m) t.dest = true ∧ sd < 10) ∧
    (∃ (m : Fin 2) (t : Tack) (sd : Nat) (s : State), s.wf ∧ tok [] s.tacks.inj = true ∧ s.dieUp (8 + ↑m) = true ∧ (List.find? (fun (t : Tack) => t.mangle == 8 + ↑m) s.tacks.toMangle = some t) ∧ t.src = some sd ∧ t.mc = false ∧ s.rankAbsent (8 + ↑m) t.dest = true ∧ sd < 10) :=
  ⟨⟨0, 0, noStalls, (at_ 0 0 (word 0x40 0)).setF TCK_BUDGET [0] TCK_BUDGET.BUDGET 0, 0, 0, 0, by unfold State.wf; decide +kernel, issues (by decide +kernel), by decide +kernel, by decide +kernel, by decide +kernel, by decide +kernel⟩,
   ⟨255, 3, noStalls, at_ 255 3 (word 0x40 63), 0, 0, 63, 0, by unfold State.wf; decide +kernel, issues (by decide +kernel), by decide +kernel, by decide +kernel, by decide +kernel, by decide +kernel⟩,
   ⟨0, up, by unfold State.wf; decide +kernel⟩,
   ⟨1, { up.setReg TCK_CSEND_DATA [9, 0] 0x30_0000_0000 with tacks := { tokens := [(9, (List.range 64).map (fun n => ⟨n, 0, true, false⟩))] } }, by unfold State.wf; decide +kernel⟩,
   ⟨0, up.setReg TCK_CSEND_DATA [8, 0] 0x30_0000_0000, 0, by unfold State.wf; decide +kernel⟩,
   ⟨1, up.setReg TCK_CSEND_DATA [9, 0] 0x80_0000_0000, 0, by unfold State.wf; decide +kernel⟩,
   ⟨0, (tck 3 0 (ret 0 0)).bytes, some 0, up, by unfold State.wf; decide +kernel⟩,
   ⟨9, (tck 3 0 (ret 0 0)).bytes, none, { up with tacks := { waiting := [{ tck 3 0 (ret 9 0) with src := some 9 }] } }, by unfold State.wf; decide +kernel⟩,
   ⟨0, (tck 3 0 (ret 0 0)).bytes, some 0, up, by unfold State.wf; decide +kernel⟩,
   ⟨0, (tck 3 0 (ret 0 0)).bytes, some 0, up, by unfold State.wf; decide +kernel⟩,
   ⟨9, 0, { tck 3 0 (ret 9 0) with src := some 9 }, { up with tacks := { waiting := [{ tck 3 0 (ret 9 0) with src := some 9 }] } }, by decide +kernel⟩,
   ⟨9, 0, { tck 3 0 (ret 9 0) with src := some 9 }, { up with tacks := { waiting := [{ tck 3 0 (ret 9 0) with src := some 9 }], toMangle := List.replicate 64 { tck 3 0 (ret 9 0) with src := some 9 } } }, by decide +kernel⟩,
   ⟨0, ⟨true, 7, 0xFFF, 3, 1, 0⟩, [⟨false, 7, 9, 3, 1, 2⟩], { up with score := { knotQ := [(0, [⟨true, 7, 0xFFF, 3, 1, 0⟩, ⟨false, 7, 9, 3, 1, 2⟩])] } }, by decide +kernel⟩,
   ⟨0, { tck 3 0 (ret 0 0) 1 with src := some 0 }, 0, (tacks { toMangle := [{ tck 3 0 (ret 0 0) 1 with src := some 0 }] }).setReg RNK_TABLE [8, 1] 7, by unfold State.wf; decide +kernel⟩,
   ⟨0, { tck 3 0 (ret 0 0) 1 with src := some 11 }, 11, tacks { toMangle := [{ tck 3 0 (ret 0 0) 1 with src := some 11 }] }, by unfold State.wf; decide +kernel⟩,
   ⟨0, { tck 3 0 (ret 0 0 ++ [0, 1]) 2 with src := some 0 }, 0, tacks { toMangle := [{ tck 3 0 (ret 0 0 ++ [0, 1]) 2 with src := some 0 }] }, by unfold State.wf; decide +kernel⟩,
   ⟨0, { tck 3 0 (ret 0 0) 2 with src := some 9, token := some 5 }, 9, tacks { toMangle := [{ tck 3 0 (ret 0 0) 2 with src := some 9, token := some 5 }], tokens := [(9, [⟨5, 0, false, false⟩])] }, by unfold State.wf; decide +kernel⟩⟩

theorem witness_TacksTravel :
    (∃ (m : Fin 2) (free : BitVec 6) (c : Cand) (s : State), s.wf ∧ s.dieUp (8 + ↑m) = true ∧ (∀ (sd : Nat), c.t.src = some sd → sd < 10) ∧ (List.find? (fun (c : Cand) => s.tackReady (8 + ↑m) free c.t) (s.served (8 + ↑m)) = some c) ∧ c.t.via = none ∧ c.t.mc = false ∧ s.preferred (8 + ↑m) c.t.dest = none) ∧
    (∃ (m : Fin 2) (free : BitVec 6) (c : Cand) (s : State) (j : Nat), s.wf ∧ s.dieUp (8 + ↑m) = true ∧ (∀ (sd : Nat), c.t.src = some sd → sd < 10) ∧ (List.find? (fun (c : Cand) => s.tackReady (8 + ↑m) free c.t) (s.served (8 + ↑m)) = some c) ∧ c.t.via = none ∧ c.t.mc = false ∧ s.preferred (8 + ↑m) c.t.dest = some j ∧ c.t.age + 1 < 255) ∧
    (∃ (m : Fin 2) (free : BitVec 6) (c : Cand) (s : State) (j : Nat), s.wf ∧ s.dieUp (8 + ↑m) = true ∧ (∀ (sd : Nat), c.t.src = some sd → sd < 10) ∧ (List.find? (fun (c : Cand) => s.tackReady (8 + ↑m) free c.t) (s.served (8 + ↑m)) = some c) ∧ c.t.via = none ∧ c.t.mc = false ∧ s.preferred (8 + ↑m) c.t.dest = some j ∧ 255 ≤ c.t.age + 1) ∧
    (∃ (m : Fin 2) (free : BitVec 6) (s : State), (∀ (c : Cand), c ∈ s.served (8 + ↑m) → s.tackReady (8 + ↑m) free c.t = false)) ∧
    (∃ (m : Fin 2) (n : Nat) (waited : Nat) (free : BitVec 6) (s : State), s.wf ∧ waited < s.getF TCK_MCFG [8 + ↑m] TCK_MCFG.PATIENCE) ∧
    (∃ (m : Fin 2) (n : Nat) (waited : Nat) (free : BitVec 6) (s : State) (c : Cand) (j : Nat), s.wf ∧ s.dieUp (8 + ↑m) = true ∧ s.getF TCK_MCFG [8 + ↑m] TCK_MCFG.PATIENCE ≤ waited ∧ (s.served (8 + ↑m))[n]? = some c ∧ c.t.via = none ∧ c.t.mc = false ∧ (∀ (sd : Nat), c.t.src = some sd → sd < 10) ∧ List.find? (s.tackFree (8 + ↑m) free) (s.deflectOrder (8 + ↑m) c.t.dest) = some j ∧ c.t.age + 1 < 255) ∧
    (∃ (l : Fin 12) (tack : List Byte) (s : State), s.wf ∧ s.linkUp ↑l = true ∧ s.linkProfile ↑l = 0 ∧ s.dieUp (8 + ↑l / 6) = true ∧ s.fenced ↑l = false ∧ (¬s.bit TCK_GRID [8 + ↑l / 6] TCK_GRID.VALID = true)) ∧
    (∃ (l : Fin 12) (tack : List Byte) (s : State), s.wf ∧ s.linkUp ↑l = true ∧ s.linkProfile ↑l = 0 ∧ s.dieUp (8 + ↑l / 6) = true ∧ s.fenced ↑l = false ∧ s.bit TCK_GRID [8 + ↑l / 6] TCK_GRID.VALID = true ∧ (¬(leAt (slice tack 0 32) 7 1 = tackChk (slice tack 0 32) ∧ tackFormOk (slice tack 0 32) = true ∧ ¬(hget (slice tack 0 32) 17 1 = 0 ∧ hget (slice tack 0 32) 16 1 = 0)))) ∧
    (∃ (l : Fin 12) (tack : List Byte) (s : State), s.wf ∧ s.linkUp ↑l = true ∧ s.linkProfile ↑l = 0 ∧ s.dieUp (8 + ↑l / 6) = true ∧ s.fenced ↑l = false ∧ s.bit TCK_GRID [8 + ↑l / 6] TCK_GRID.VALID = true ∧ (leAt (slice tack 0 32) 7 1 = tackChk (slice tack 0 32) ∧ tackFormOk (slice tack 0 32) = true ∧ ¬(hget (slice tack 0 32) 17 1 = 0 ∧ hget (slice tack 0 32) 16 1 = 0)) ∧ s.sliceOk (hget (slice tack 0 32) 24 12) = false) ∧
    (∃ (l : Fin 12) (tack : List Byte) (s : State), s.wf ∧ s.linkUp ↑l = true ∧ s.linkProfile ↑l = 0 ∧ s.dieUp (8 + ↑l / 6) = true ∧ s.fenced ↑l = false ∧ s.bit TCK_GRID [8 + ↑l / 6] TCK_GRID.VALID = true ∧ (leAt (slice tack 0 32) 7 1 = tackChk (slice tack 0 32) ∧ tackFormOk (slice tack 0 32) = true ∧ ¬(hget (slice tack 0 32) 17 1 = 0 ∧ hget (slice tack 0 32) 16 1 = 0)) ∧ s.sliceOk (hget (slice tack 0 32) 24 12) = true ∧ 1024 ≤ s.tackFill (8 + ↑l / 6)) ∧
    (∃ (l : Fin 12) (tack : List Byte) (s : State), s.wf ∧ s.linkUp ↑l = true ∧ s.linkProfile ↑l = 0 ∧ s.dieUp (8 + ↑l / 6) = true ∧ s.fenced ↑l = false ∧ s.bit TCK_GRID [8 + ↑l / 6] TCK_GRID.VALID = true ∧ (leAt (slice tack 0 32) 7 1 = tackChk (slice tack 0 32) ∧ tackFormOk (slice tack 0 32) = true ∧ ¬(hget (slice tack 0 32) 17 1 = 0 ∧ hget (slice tack 0 32) 16 1 = 0)) ∧ s.sliceOk (hget (slice tack 0 32) 24 12) = true ∧ s.tackFill (8 + ↑l / 6) < 1024 ∧ tok [] s.tacks.transit = true) ∧
    (∃ (l : Fin 12) (tack : List Byte) (s : State), s.wf ∧ s.linkUp ↑l = true ∧ s.linkProfile ↑l = 0 ∧ s.dieUp (8 + ↑l / 6) = true ∧ s.fenced ↑l = false ∧ s.bit TCK_GRID [8 + ↑l / 6] TCK_GRID.VALID = true ∧ (leAt (slice tack 0 32) 7 1 = tackChk (slice tack 0 32) ∧ tackFormOk (slice tack 0 32) = true ∧ ¬(hget (slice tack 0 32) 17 1 = 0 ∧ hget (slice tack 0 32) 16 1 = 0)) ∧ s.sliceOk (hget (slice tack 0 32) 24 12) = true ∧ s.tackFill (8 + ↑l / 6) < 1024 ∧ tok [] s.tacks.transit = true) ∧
    (∃ (m : Fin 2) (v : Word) (s : State), s.wf ∧ s.regGone TCK_GRID [8 + ↑m] = false ∧ (s.tempo.armed = true ∨ s.tempo.running = true)) ∧
    (∃ (m : Fin 2) (v : Word) (s : State), s.wf ∧ s.regGone TCK_GRID [8 + ↑m] = false ∧ s.tempo.armed = false ∧ s.tempo.running = false) ∧
    (∃ (s : State) (c : Cmd), s.Accepts c 1027 ∧ c.inlineLen ≠ 128) ∧
    (∃ (s : State) (c : Cmd), s.Accepts c 1027 ∧ c.inlineLen = 128 ∧ (16 ≤ c.par 0 1 ∨ 8 ≤ c.par 1 1 ∨ c.par 1 1 < 2 ∨ c.parZero 2 14 = false ∨ ∃ (i : Fin 32), 2 ^ 19 ≤ (fun (i : Nat) => leAt c.inl (4 * i) 4) ↑i)) ∧
    (∃ (s : State) (c : Cmd), s.Accepts c 1027 ∧ c.inlineLen = 128 ∧ (16 ≤ c.par 0 1 ∨ 8 ≤ c.par 1 1 ∨ c.par 1 1 < 2 ∨ c.parZero 2 14 = false ∨ ∃ (i : Fin 32), 2 ^ 19 ≤ (fun (i : Nat) => leAt c.inl (4 * i) 4) ↑i)) ∧
    (∃ (s : State) (c : Cmd), s.Accepts c 1027 ∧ c.inlineLen = 128 ∧ (¬(16 ≤ c.par 0 1 ∨ 8 ≤ c.par 1 1 ∨ c.par 1 1 < 2 ∨ c.parZero 2 14 = false ∨ ∃ (i : Fin 32), 2 ^ 19 ≤ (fun (i : Nat) => leAt c.inl (4 * i) 4) ↑i)) ∧ (s.tempo.armed = true ∨ s.tempo.running = true)) ∧
    (∃ (s : State) (c : Cmd), s.Accepts c 1027 ∧ c.inlineLen = 128 ∧ (¬(16 ≤ c.par 0 1 ∨ 8 ≤ c.par 1 1 ∨ c.par 1 1 < 2 ∨ c.parZero 2 14 = false ∨ ∃ (i : Fin 32), 2 ^ 19 ≤ (fun (i : Nat) => leAt c.inl (4 * i) 4) ↑i)) ∧ s.tempo.armed = false ∧ s.tempo.running = false ∧ tok 0 s.tacks.groups = true) :=
  ⟨⟨0, 0, ⟨none, 0, tck 3 0 (ret 0 0)⟩, tacks { transit := [(8, [tck 3 0 (ret 0 0)])] }, by unfold State.wf; decide +kernel, by decide +kernel, of_some (by decide +kernel), by decide +kernel, by decide +kernel, by decide +kernel, by decide +kernel⟩,
   ⟨0, 1, ⟨some 9, 0, { tck 3 0 (ret 0 0) 1 253 with src := some 9 }⟩, tacks { inj := [(137, [{ tck 3 0 (ret 0 0) 1 253 with src := some 9 }])] }, 0, by unfold State.wf; decide +kernel, by decide +kernel, of_some (by decide +kernel), by decide +kernel, by decide +kernel, by decide +kernel, by decide +kernel, by decide +kernel⟩,
   ⟨0, 1, ⟨none, 0, tck 3 0 (ret 0 0) 1 254⟩, tacks { transit := [(8, [tck 3 0 (ret 0 0) 1 254])] }, 0, by unfold State.wf; decide +kernel, by decide +kernel, of_some (by decide +kernel), by decide +kernel, by decide +kernel, by decide +kernel, by decide +kernel, by decide +kernel⟩,
   ⟨0, 0, tacks { transit := [(8, [tck 3 0 (ret 0 0) 1])] }, by decide +kernel⟩,
   ⟨0, 0, 1, 63, tacks { transit := [(8, [tck 3 0 (ret 0 0) 32])] }, by unfold State.wf; decide +kernel⟩,
   ⟨0, 0, 2, 63, tacks { transit := [(8, [tck 3 0 (ret 0 0) 32])] }, ⟨none, 0, tck 3 0 (ret 0 0) 32⟩, 0, by unfold State.wf; decide +kernel, by decide +kernel, by decide +kernel, by decide +kernel, by decide +kernel, by decide +kernel, of_some (by decide +kernel), by decide +kernel, by decide +kernel⟩,
   ⟨0, (tck 3 0 (ret 0 0)).bytes, ways.setReg RNK_FENCE [8] 0, by unfold State.wf; decide +kernel⟩,
   ⟨0, (tck 0 0 []).bytes, grid, by unfold State.wf; decide +kernel⟩,
   ⟨0, hset 24 12 4 (tck 3 0 (ret 0 0)).bytes, grid, by unfold State.wf; decide +kernel⟩,
   ⟨0, (tck 3 0 (ret 0 0)).bytes, tacks { transit := [(8, List.replicate 1024 (tck 3 0 (ret 0 0) 1))] }, by unfold State.wf; decide +kernel⟩,
   ⟨0, (tck 3 0 (ret 0 0)).bytes, grid, by unfold State.wf; decide +kernel⟩,
   ⟨0, (tck 3 0 (ret 0 0) 32).bytes, grid, by unfold State.wf; decide +kernel⟩,
   ⟨0, 0x0107_1F1F_1F1F_1F1F, playing, by unfold State.wf; decide +kernel⟩,
   ⟨1, 0xFFFF_FFFF_FFFF_FFFF, up, by unfold State.wf; decide +kernel⟩,
   ⟨up, cmd 0x0403 [0, 2] 0xF (List.replicate 127 0), by unfold State.Accepts; decide +kernel⟩,
   ⟨up, cmd 0x0403 [16, 2] 0xF (List.replicate 128 0), by unfold State.Accepts; decide +kernel⟩,
   ⟨up, cmd 0x0403 [0, 2] 0xF (List.replicate 126 0 ++ [8, 0]), by unfold State.Accepts; decide +kernel⟩,
   ⟨playing, cmd 0x0403 [15, 7] 0xF (List.replicate 128 0), by unfold State.Accepts; decide +kernel⟩,
   ⟨up, cmd 0x0403 [15, 5] 0xF (List.replicate 128 0), by unfold State.Accepts; decide +kernel⟩⟩

theorem witness_TacksArrive :
    (∃ (d : Nat) (tk : Tack) (st : Nat) (s : State), tk.ack = false) ∧
    (∃ (d : Nat) (tk : Tack) (st : Nat) (s : State), tk.ack = true) ∧
    (∃ (d : Fin 12) (tk : Tack) (s : State), s.wf ∧ s.Reaches (↑d) tk ∧ tk.kind = 3 ∧ tk.dunit = ↑d ∧ ↑d < 8 ∧ tk.pay 8 2 ≠ 0 ∧ s.dieUp ↑d = true ∧ s.capturing = false ∧ tok 0 s.score.tallies = true) ∧
    (∃ (d : Fin 12) (tk : Tack) (s : State), s.wf ∧ s.Reaches (↑d) tk ∧ tk.kind = 4 ∧ s.tackWaits (↑d) 4 = false ∧ tk.storeOk = true ∧ s.offsetDie tk.offset (tk.pay 6 1) = some ↑d ∧ tk.offset < boardBase ∧ s.dieUp ↑d = true ∧ s.dieAway ↑d = none) ∧
    (∃ (d : Fin 12) (tk : Tack) (ecc : Ecc) (s : State), s.wf ∧ s.Reaches (↑d) tk ∧ tk.kind = 5 ∧ s.tackWaits (↑d) 5 = false ∧ tk.storeOk = false) ∧
    (∃ (d : Fin 12) (tk : Tack) (ecc : Ecc) (s : State), s.wf ∧ s.Reaches (↑d) tk ∧ tk.kind = 5 ∧ s.tackWaits (↑d) 5 = false ∧ tk.storeOk = true ∧ s.offsetDie tk.offset 8 = some ↑d ∧ tk.offset < boardBase ∧ s.dieAway ↑d = none ∧ (∀ (n : Nat), ecc ≠ Ecc.bad n)) ∧
    (∃ (d : Fin 12) (tk : Tack) (ecc : Ecc) (s : State) (n : Nat), s.wf ∧ s.Reaches (↑d) tk ∧ tk.kind = 5 ∧ s.tackWaits (↑d) 5 = false ∧ tk.storeOk = true ∧ s.offsetDie tk.offset 8 = some ↑d ∧ tk.offset < boardBase ∧ s.dieAway ↑d = none ∧ ecc = Ecc.bad n ∧ (tk.mangle = 8 ∨ tk.mangle = 9)) ∧
    (∃ (d : Fin 12) (tk : Tack) (s : State), s.wf ∧ s.Reaches (↑d) tk ∧ tk.dunit = ↑d ∧ (↑d = 8 ∨ ↑d = 9) ∧ s.dieAway ↑d = none ∧ (tk.mangle = 8 ∨ tk.mangle = 9) ∧ tok [] s.tacks.inbox = true ∧ tk.kind = 6 ∧ (tget [] s.tacks.inbox ↑d).length < 256) ∧
    (∃ (d : Fin 12) (tk : Tack) (s : State), s.wf ∧ s.Reaches (↑d) tk ∧ tk.dunit = ↑d ∧ (↑d = 8 ∨ ↑d = 9) ∧ s.dieAway ↑d = none ∧ (tk.mangle = 8 ∨ tk.mangle = 9) ∧ tok [] s.tacks.inbox = true ∧ tk.kind = 6 ∧ 256 ≤ (tget [] s.tacks.inbox ↑d).length) ∧
    (∃ (d : Fin 12) (tk : Tack) (s : State), s.wf ∧ s.Reaches (↑d) tk ∧ tk.dunit = ↑d ∧ (↑d = 8 ∨ ↑d = 9) ∧ s.dieAway ↑d = none ∧ (tk.mangle = 8 ∨ tk.mangle = 9) ∧ tok [] s.tacks.inbox = true ∧ tk.kind = 7 ∧ (tget [] s.tacks.inbox ↑d).length < 256) ∧
    (∃ (d : Fin 12) (tk : Tack) (s : State), s.wf ∧ s.Reaches (↑d) tk ∧ tk.dunit = ↑d ∧ (↑d = 8 ∨ ↑d = 9) ∧ s.dieAway ↑d = none ∧ (tk.mangle = 8 ∨ tk.mangle = 9) ∧ tok [] s.tacks.inbox = true ∧ tk.kind = 7 ∧ 256 ≤ (tget [] s.tacks.inbox ↑d).length) ∧
    (∃ (d : Fin 12) (tk : Tack) (s : State), s.wf ∧ s.Reaches (↑d) tk ∧ tk.dunit = ↑d ∧ (↑d = 8 ∨ ↑d = 9) ∧ s.dieAway ↑d = none ∧ (tk.mangle = 8 ∨ tk.mangle = 9) ∧ tok [] s.tacks.inbox = true ∧ tk.kind = 8 ∧ (tget [] s.tacks.inbox ↑d).length < 256) ∧
    (∃ (d : Fin 12) (tk : Tack) (s : State), s.wf ∧ s.Reaches (↑d) tk ∧ tk.dunit = ↑d ∧ (↑d = 8 ∨ ↑d = 9) ∧ s.dieAway ↑d = none ∧ (tk.mangle = 8 ∨ tk.mangle = 9) ∧ tok [] s.tacks.inbox = true ∧ tk.kind = 8 ∧ 256 ≤ (tget [] s.tacks.inbox ↑d).length) ∧
    (∃ (d : Fin 12) (tk : Tack) (s : State), s.wf ∧ s.Reaches (↑d) tk ∧ tk.kind = 9 ∧ ↑d < 8 ∧ s.dieUp ↑d = true ∧ tok [] s.tacks.tokens = true ∧ tk.pay 4 2 ≠ s.dieWash ↑d) ∧
    (∃ (d : Fin 12) (tk : Tack) (s : State), s.wf ∧ s.Reaches (↑d) tk ∧ tk.kind = 9 ∧ ↑d < 8 ∧ s.dieUp ↑d = true ∧ tok [] s.tacks.tokens = true ∧ tk.pay 4 2 = s.dieWash ↑d ∧ (¬∃ (k : Token), k ∈ s.tokens ↑d ∧ k.num = tk.pay 3 1 % 64 ∧ k.use = tk.pay 3 1 / 64)) ∧
    (∃ (d : Fin 12) (tk : Tack) (s : State), s.wf ∧ s.Reaches (↑d) tk ∧ tk.kind = 9 ∧ ↑d < 8 ∧ s.dieUp ↑d = true ∧ tok [] s.tacks.tokens = true ∧ tk.pay 4 2 = s.dieWash ↑d ∧ (∃ (k : Token), k ∈ s.tokens ↑d ∧ k.num = tk.pay 3 1 % 64 ∧ k.use = tk.pay 3 1 / 64)) ∧
    (∃ (d : Fin 12) (tk : Tack) (s : State), s.wf ∧ s.Reaches (↑d) tk ∧ tk.kind = 9 ∧ ↑d < 8 ∧ s.dieUp ↑d = true ∧ tok [] s.tacks.tokens = true ∧ tk.pay 4 2 = s.dieWash ↑d ∧ (∃ (k : Token), k ∈ s.tokens ↑d ∧ k.num = tk.pay 3 1 % 64 ∧ k.use = tk.pay 3 1 / 64)) ∧
    (∃ (d : Fin 10) (num : Fin 64) (s : State), s.wf ∧ tok [] s.tacks.tokens = true ∧ (∃ (k : Token), k ∈ s.tokens ↑d ∧ k.num = ↑num ∧ (k.ack = true ∨ k.peer = true))) ∧
    (∃ (d : Fin 10) (num : Fin 64) (s : State), s.wf ∧ tok [] s.tacks.tokens = true ∧ (∃ (k : Token), k ∈ s.tokens ↑d ∧ k.num = ↑num ∧ (k.ack = true ∨ k.peer = true))) ∧
    (∃ (d : Fin 10) (num : Fin 64) (s : State), s.wf ∧ tok [] s.tacks.tokens = true ∧ (∀ (k : Token), k ∈ s.tokens ↑d → k.num ≠ ↑num)) ∧
    (∃ (m : Fin 2) (x : List Byte) (rest : List (List Byte)) (s : State), s.wf ∧ tok [] s.tacks.inbox = true ∧ tget [] s.tacks.inbox (8 + ↑m) = x :: rest ∧ rest.length < 256) :=
  ⟨⟨0, tck 3 0 (ret 0 0), 0, up, by decide +kernel⟩,
   ⟨0, tck 3 0 (ret 0 65 ++ [0, 1]), 0x16, up, by decide +kernel⟩,
   ⟨0, tck 3 0 (ret 0 65 ++ [255, 1, 255, 255]), (reach 0 (tck 3 0 (ret 0 65 ++ [255, 1, 255, 255]))), by unfold State.wf State.Reaches; decide +kernel⟩,
   ⟨0, tck 4 0 (ret 0 0 ++ [8, 0] ++ leBytes 2 24 ++ leBytes 4 1 ++ [0, 0, 1, 2, 3, 4, 5, 6, 7, 8]), reach 0 (tck 4 0 (ret 0 0 ++ [8, 0] ++ leBytes 2 24 ++ leBytes 4 1 ++ [0, 0, 1, 2, 3, 4, 5, 6, 7, 8])), by unfold State.wf State.Reaches; decide +kernel⟩,
   ⟨8, tck 5 0 (ret 0 0 ++ [4, 1]), .clean, reach 8 (tck 5 0 (ret 0 0 ++ [4, 1])), by unfold State.wf State.Reaches; decide +kernel⟩,
   ⟨0, tck 5 0 (ret 0 0 ++ [1, 1] ++ leBytes 2 8 ++ leBytes 4 1 ++ List.replicate 10 0xFF), .clean, reach 0 (tck 5 0 (ret 0 0 ++ [1, 1] ++ leBytes 2 8 ++ leBytes 4 1 ++ List.replicate 10 0xFF)), by unfold State.wf; decide +kernel, by unfold State.Reaches; decide +kernel, by decide +kernel, by decide +kernel, by decide +kernel, by decide +kernel, by decide +kernel, by decide +kernel, not_bad rfl⟩,
   ⟨0, tck 5 0 (ret 0 0 ++ [1, 1] ++ leBytes 2 8 ++ leBytes 4 1 ++ List.replicate 10 0xFF), .bad 0, reach 0 (tck 5 0 (ret 0 0 ++ [1, 1] ++ leBytes 2 8 ++ leBytes 4 1 ++ List.replicate 10 0xFF)), 0, by unfold State.wf State.Reaches; decide +kernel⟩,
   ⟨8, tck 6 8 (ret 0 0 ++ [0, 1]), boxed 8 255 (tck 6 8 (ret 0 0 ++ [0, 1])), by unfold State.wf State.Reaches; decide +kernel⟩,
   ⟨9, tck 6 9 (ret 0 0 ++ [0, 1]), boxed 9 256 (tck 6 9 (ret 0 0 ++ [0, 1])), by unfold State.wf State.Reaches; decide +kernel⟩,
   ⟨8, tck 7 8 (ret 0 0), reach 8 (tck 7 8 (ret 0 0)), by unfold State.wf State.Reaches; decide +kernel⟩,
   ⟨8, tck 7 8 (ret 0 0), boxed 8 256 (tck 7 8 (ret 0 0)), by unfold State.wf State.Reaches; decide +kernel⟩,
   ⟨8, tck 8 8 (ret 8 65 ++ [0x11]), tokened 8 ⟨1, 1, false, true⟩ [(8, tck 8 8 (ret 8 65 ++ [0x11]))], by unfold State.wf State.Reaches; decide +kernel⟩,
   ⟨8, tck 8 8 (ret 0 0), boxed 8 256 (tck 8 8 (ret 0 0)), by unfold State.wf State.Reaches; decide +kernel⟩,
   ⟨0, tck 9 0 (ret 0 65 1), tokened 0 ⟨1, 1, true, false⟩ [(0, tck 9 0 (ret 0 65 1))], by unfold State.wf State.Reaches; decide +kernel⟩,
   ⟨7, tck 9 7 (ret 7 1), tokened 7 ⟨1, 1, true, false⟩ [(7, tck 9 7 (ret 7 1))], by unfold State.wf State.Reaches; decide +kernel⟩,
   ⟨0, tck 9 0 (ret 0 65 ++ [0x16]), tokened 0 ⟨1, 1, true, false⟩ [(0, tck 9 0 (ret 0 65 ++ [0x16]))], by unfold State.wf State.Reaches; decide +kernel⟩,
   ⟨0, tck 9 0 (ret 0 65), tokened 0 ⟨1, 1, true, false⟩ [(0, tck 9 0 (ret 0 65))], by unfold State.wf State.Reaches; decide +kernel⟩,
   ⟨0, 63, tokened 0 ⟨63, 0, true, false⟩ [], by unfold State.wf; decide +kernel⟩,
   ⟨9, 0, tokened 9 ⟨0, 0, false, true⟩ [], by unfold State.wf; decide +kernel⟩,
   ⟨9, 1, tokened 9 ⟨0, 0, false, true⟩ [], by unfold State.wf; decide +kernel⟩,
   ⟨0, List.replicate 32 1, List.replicate 255 (List.replicate 32 1), boxed 8 256 (tck 3 0 []), by unfold State.wf; decide +kernel⟩⟩

theorem witness_BoltsEnd :
    (∃ (id : Nat) (a : Nat) (q : Nat) (obs : SkidObs) (f : Flight) (w : Window) (i : Nat) (s : State), s.wf ∧ s.flight id = some f ∧ f.accepted = true ∧ f.at_ < 8 ∧ f.inp = BoltIn.seam a ∧ portTo f.at_ a = some q ∧ obs.occ ≤ 256 ∧ f.cut = false ∧ f.bad = false ∧ f.resend = false ∧ f.entry = none ∧ f.lines ≤ f.hdr.lines ∧ f.hdr.lines < 128 ∧ f.payload.length = f.hdr.bytes ∧ f.hdr.dpress < 256 ∧ s.heldRange f.hdr.dpress (512 * f.hdr.dblk + 64 * f.lines) (64 * (f.hdr.lines + 1 - f.lines)) = false ∧ s.window f.at_ f.hdr.srank f.hdr.stream = some w ∧ serialDiff 16 f.hdr.seq w.base = ↑i ∧ i < 1024 ∧ w.landing.testBit i = true ∧ crc32c f.payload = f.pcrc ∧ tok 0 s.score.tallies = true) ∧
    (∃ (id : Nat) (a : Nat) (q : Nat) (obs : SkidObs) (f : Flight) (w : Window) (i : Nat) (s : State), s.wf ∧ s.flight id = some f ∧ f.accepted = true ∧ f.at_ < 8 ∧ f.inp = BoltIn.seam a ∧ portTo f.at_ a = some q ∧ obs.occ ≤ 256 ∧ f.cut = false ∧ f.bad = false ∧ f.resend = false ∧ f.entry = none ∧ f.lines ≤ f.hdr.lines ∧ f.hdr.lines < 128 ∧ f.payload.length = f.hdr.bytes ∧ f.hdr.dpress < 256 ∧ s.heldRange f.hdr.dpress (512 * f.hdr.dblk + 64 * f.lines) (64 * (f.hdr.lines + 1 - f.lines)) = false ∧ s.window f.at_ f.hdr.srank f.hdr.stream = some w ∧ serialDiff 16 f.hdr.seq w.base = ↑i ∧ i < 1024 ∧ w.landing.testBit i = true ∧ crc32c f.payload ≠ f.pcrc) ∧
    (∃ (id : Nat) (obs : SkidObs) (f : Flight) (s : State), s.flight id = some f ∧ f.accepted = false) ∧
    (∃ (m : Fin 2) (tk : Tack) (d : Desc) (s : State), s.wf ∧ s.Reaches (8 + ↑m) tk ∧ s.dieUp (8 + ↑m) = true ∧ tk.dunit = 8 + ↑m ∧ tk.knot.mask = 1 ∧ s.descOf tk.knot.stream (tk.knot.base % 2 ^ 16) = some d ∧ d.record = true ∧ streamMangle d.stream = 8 + ↑m ∧ tk.kind = 1 ∧ (d.mask ||| 2 ^ tk.knot.rem) % 2 ^ d.n ≠ 2 ^ d.n - 1) ∧
    (∃ (m : Fin 2) (tk : Tack) (d : Desc) (s : State), s.wf ∧ s.Reaches (8 + ↑m) tk ∧ s.dieUp (8 + ↑m) = true ∧ tk.dunit = 8 + ↑m ∧ tk.knot.mask = 1 ∧ s.descOf tk.knot.stream (tk.knot.base % 2 ^ 16) = some d ∧ d.record = true ∧ streamMangle d.stream = 8 + ↑m ∧ tk.kind = 1 ∧ (d.mask ||| 2 ^ tk.knot.rem) % 2 ^ d.n = 2 ^ d.n - 1 ∧ d.die < 8 ∧ d.press < 32) ∧
    (∃ (m : Fin 2) (tk : Tack) (d : Desc) (s : State), s.wf ∧ s.Reaches (8 + ↑m) tk ∧ s.dieUp (8 + ↑m) = true ∧ tk.dunit = 8 + ↑m ∧ tk.knot.mask = 1 ∧ s.descOf tk.knot.stream (tk.knot.base % 2 ^ 16) = some d ∧ d.record = true ∧ streamMangle d.stream = 8 + ↑m ∧ tk.kind = 2 ∧ d.queued = false ∧ d.resending = false ∧ tok [] s.score.resendQ = true) ∧
    (∃ (m : Fin 2) (tk : Tack) (d : Desc) (s : State), s.wf ∧ s.Reaches (8 + ↑m) tk ∧ s.dieUp (8 + ↑m) = true ∧ tk.dunit = 8 + ↑m ∧ tk.knot.mask = 1 ∧ s.descOf tk.knot.stream (tk.knot.base % 2 ^ 16) = some d ∧ d.record = true ∧ streamMangle d.stream = 8 + ↑m ∧ tk.kind = 2 ∧ (d.queued = true ∨ d.resending = true)) ∧
    (∃ (m : Fin 2) (tk : Tack) (s : State), s.wf ∧ s.Reaches (8 + ↑m) tk ∧ s.dieUp (8 + ↑m) = true ∧ tk.dunit = 8 + ↑m ∧ tk.knot.mask = 1 ∧ s.descOf tk.knot.stream (tk.knot.base % 2 ^ 16) = none ∧ tk.kind = 1) ∧
    (∃ (m : Fin 2) (tk : Tack) (s : State), s.wf ∧ s.Reaches (8 + ↑m) tk ∧ s.dieUp (8 + ↑m) = true ∧ tk.dunit = 8 + ↑m ∧ tk.knot.mask = 1 ∧ s.descOf tk.knot.stream (tk.knot.base % 2 ^ 16) = none ∧ tk.kind = 2) :=
  ⟨⟨0, 0, 0, ⟨0, 0, 0⟩, { fly (hdr 33) 1 0 with accepted := true }, ⟨1, 7, 9, 3, 0, 1⟩, 0, windowed 3 0 1 { fly (hdr 33) 1 0 with accepted := true }, by unfold State.wf; decide +kernel⟩,
   ⟨0, 0, 0, ⟨0, 0, 0⟩, { fly (hdr 33) 1 0 with accepted := true, pcrc := 0 }, ⟨1, 7, 9, 64516, 0, 2 ^ 1023⟩, 1023, windowed 64516 0 (2 ^ 1023) { fly (hdr 33) 1 0 with accepted := true, pcrc := 0 }, by unfold State.wf; decide +kernel⟩,
   ⟨0, ⟨0, 0, 0⟩, fly (hdr 33) 1 0, flying (fly (hdr 33) 1 0), by decide +kernel⟩,
   ⟨0, knotFor 1, { held 3 with n := 2 }, knotted (knotFor 1) [{ held 3 with n := 2 }], by unfold State.wf State.Reaches; decide +kernel⟩,
   ⟨0, knotFor 1, held 3, knotted (knotFor 1) [held 3], by unfold State.wf State.Reaches; decide +kernel⟩,
   ⟨0, knotFor 2, held 3, knotted (knotFor 2) [held 3], by unfold State.wf State.Reaches; decide +kernel⟩,
   ⟨0, knotFor 2, held 3 true true, knotted (knotFor 2) [held 3 true true], by unfold State.wf State.Reaches; decide +kernel⟩,
   ⟨0, knotFor 1, knotted (knotFor 1) [], by unfold State.wf State.Reaches; decide +kernel⟩,
   ⟨0, knotFor 2, knotted (knotFor 2) [], by unfold State.wf State.Reaches; decide +kernel⟩⟩

theorem witness_RanksAndSlices :
    (∃ (s : State) (c : Cmd), s.Accepts c 1025 ∧ (8 ≤ c.par 3 1 ∨ c.parZero 4 12 = false ∨ c.par 3 1 % 4 = 0 ∨ c.par 2 1 = 0 ∨ 28 < c.par 2 1 ∨ 16384 < c.par 0 2 + c.par 2 1)) ∧
    (∃ (s : State) (c : Cmd), s.Accepts c 1025 ∧ (8 ≤ c.par 3 1 ∨ c.parZero 4 12 = false ∨ c.par 3 1 % 4 = 0 ∨ c.par 2 1 = 0 ∨ 28 < c.par 2 1 ∨ 16384 < c.par 0 2 + c.par 2 1)) ∧
    (∃ (s : State) (c : Cmd), s.Accepts c 1025 ∧ (¬(8 ≤ c.par 3 1 ∨ c.parZero 4 12 = false ∨ c.par 3 1 % 4 = 0 ∨ c.par 2 1 = 0 ∨ 28 < c.par 2 1 ∨ 16384 < c.par 0 2 + c.par 2 1)) ∧ (c.inlineLen ≠ if (c.par 3 1).testBit 2 = true then 0 else 8 * c.par 2 1)) ∧
    (∃ (s : State) (c : Cmd), s.Accepts c 1025 ∧ (¬(8 ≤ c.par 3 1 ∨ c.parZero 4 12 = false ∨ c.par 3 1 % 4 = 0 ∨ c.par 2 1 = 0 ∨ 28 < c.par 2 1 ∨ 16384 < c.par 0 2 + c.par 2 1)) ∧ (c.inlineLen ≠ if (c.par 3 1).testBit 2 = true then 0 else 8 * c.par 2 1)) ∧
    (∃ (s : State) (c : Cmd), s.Accepts c 1025 ∧ (¬(8 ≤ c.par 3 1 ∨ c.parZero 4 12 = false ∨ c.par 3 1 % 4 = 0 ∨ c.par 2 1 = 0 ∨ 28 < c.par 2 1 ∨ 16384 < c.par 0 2 + c.par 2 1)) ∧ (¬c.inlineLen ≠ if (c.par 3 1).testBit 2 = true then 0 else 8 * c.par 2 1) ∧ (∃ (m : Nat), (fun (m : Nat) => m = 8 ∧ (c.par 3 1).testBit 0 = true ∨ m = 9 ∧ (c.par 3 1).testBit 1 = true) m ∧ s.dieFolded m = true)) ∧
    (∃ (s : State) (c : Cmd), s.Accepts c 1025 ∧ (¬(8 ≤ c.par 3 1 ∨ c.parZero 4 12 = false ∨ c.par 3 1 % 4 = 0 ∨ c.par 2 1 = 0 ∨ 28 < c.par 2 1 ∨ 16384 < c.par 0 2 + c.par 2 1)) ∧ (¬c.inlineLen ≠ if (c.par 3 1).testBit 2 = true then 0 else 8 * c.par 2 1) ∧ (¬∃ (m : Nat), (fun (m : Nat) => m = 8 ∧ (c.par 3 1).testBit 0 = true ∨ m = 9 ∧ (c.par 3 1).testBit 1 = true) m ∧ s.dieFolded m = true) ∧ (∃ (m : Nat), (fun (m : Nat) => m = 8 ∧ (c.par 3 1).testBit 0 = true ∨ m = 9 ∧ (c.par 3 1).testBit 1 = true) m ∧ s.dieInReset m = true)) ∧
    (∃ (s : State) (c : Cmd), s.Accepts c 1025 ∧ (¬(8 ≤ c.par 3 1 ∨ c.parZero 4 12 = false ∨ c.par 3 1 % 4 = 0 ∨ c.par 2 1 = 0 ∨ 28 < c.par 2 1 ∨ 16384 < c.par 0 2 + c.par 2 1)) ∧ (¬c.inlineLen ≠ if (c.par 3 1).testBit 2 = true then 0 else 8 * c.par 2 1) ∧ (¬∃ (m : Nat), (fun (m : Nat) => m = 8 ∧ (c.par 3 1).testBit 0 = true ∨ m = 9 ∧ (c.par 3 1).testBit 1 = true) m ∧ s.dieFolded m = true) ∧ (¬∃ (m : Nat), (fun (m : Nat) => m = 8 ∧ (c.par 3 1).testBit 0 = true ∨ m = 9 ∧ (c.par 3 1).testBit 1 = true) m ∧ s.dieInReset m = true) ∧ s.sliceValid = false) ∧
    (∃ (s : State) (c : Cmd), s.Accepts c 1025 ∧ (¬(8 ≤ c.par 3 1 ∨ c.parZero 4 12 = false ∨ c.par 3 1 % 4 = 0 ∨ c.par 2 1 = 0 ∨ 28 < c.par 2 1 ∨ 16384 < c.par 0 2 + c.par 2 1)) ∧ (¬c.inlineLen ≠ if (c.par 3 1).testBit 2 = true then 0 else 8 * c.par 2 1) ∧ (¬∃ (m : Nat), (fun (m : Nat) => m = 8 ∧ (c.par 3 1).testBit 0 = true ∨ m = 9 ∧ (c.par 3 1).testBit 1 = true) m ∧ s.dieFolded m = true) ∧ (¬∃ (m : Nat), (fun (m : Nat) => m = 8 ∧ (c.par 3 1).testBit 0 = true ∨ m = 9 ∧ (c.par 3 1).testBit 1 = true) m ∧ s.dieInReset m = true) ∧ s.sliceValid = true ∧ (s.tempo.armed = true ∨ s.tempo.running = true ∨ ∃ (m : Nat), (fun (m : Nat) => m = 8 ∧ (c.par 3 1).testBit 0 = true ∨ m = 9 ∧ (c.par 3 1).testBit 1 = true) m ∧ s.getF BLT_DARN [m] BLT_DARN.HELD ≠ 0)) ∧
    (∃ (s : State) (c : Cmd), s.Accepts c 1025 ∧ (¬(8 ≤ c.par 3 1 ∨ c.parZero 4 12 = false ∨ c.par 3 1 % 4 = 0 ∨ c.par 2 1 = 0 ∨ 28 < c.par 2 1 ∨ 16384 < c.par 0 2 + c.par 2 1)) ∧ (¬c.inlineLen ≠ if (c.par 3 1).testBit 2 = true then 0 else 8 * c.par 2 1) ∧ (¬∃ (m : Nat), (fun (m : Nat) => m = 8 ∧ (c.par 3 1).testBit 0 = true ∨ m = 9 ∧ (c.par 3 1).testBit 1 = true) m ∧ s.dieFolded m = true) ∧ (¬∃ (m : Nat), (fun (m : Nat) => m = 8 ∧ (c.par 3 1).testBit 0 = true ∨ m = 9 ∧ (c.par 3 1).testBit 1 = true) m ∧ s.dieInReset m = true) ∧ s.sliceValid = true ∧ (s.tempo.armed = true ∨ s.tempo.running = true ∨ ∃ (m : Nat), (fun (m : Nat) => m = 8 ∧ (c.par 3 1).testBit 0 = true ∨ m = 9 ∧ (c.par 3 1).testBit 1 = true) m ∧ s.getF BLT_DARN [m] BLT_DARN.HELD ≠ 0)) ∧
    (∃ (s : State) (c : Cmd), s.Accepts c 1025 ∧ (¬(8 ≤ c.par 3 1 ∨ c.parZero 4 12 = false ∨ c.par 3 1 % 4 = 0 ∨ c.par 2 1 = 0 ∨ 28 < c.par 2 1 ∨ 16384 < c.par 0 2 + c.par 2 1)) ∧ (¬c.inlineLen ≠ if (c.par 3 1).testBit 2 = true then 0 else 8 * c.par 2 1) ∧ (¬∃ (m : Nat), (fun (m : Nat) => m = 8 ∧ (c.par 3 1).testBit 0 = true ∨ m = 9 ∧ (c.par 3 1).testBit 1 = true) m ∧ s.dieFolded m = true) ∧ (¬∃ (m : Nat), (fun (m : Nat) => m = 8 ∧ (c.par 3 1).testBit 0 = true ∨ m = 9 ∧ (c.par 3 1).testBit 1 = true) m ∧ s.dieInReset m = true) ∧ s.sliceValid = true ∧ (¬(s.tempo.armed = true ∨ s.tempo.running = true ∨ ∃ (m : Nat), (fun (m : Nat) => m = 8 ∧ (c.par 3 1).testBit 0 = true ∨ m = 9 ∧ (c.par 3 1).testBit 1 = true) m ∧ s.getF BLT_DARN [m] BLT_DARN.HELD ≠ 0)) ∧ ((∃ (m : Nat), (fun (m : Nat) => m = 8 ∧ (c.par 3 1).testBit 0 = true ∨ m = 9 ∧ (c.par 3 1).testBit 1 = true) m ∧ s.bit TCK_GRID [m] TCK_GRID.VALID = false) ∨ ∃ (m : Nat), ∃ (i : Nat), (fun (m : Nat) => m = 8 ∧ (c.par 3 1).testBit 0 = true ∨ m = 9 ∧ (c.par 3 1).testBit 1 = true) m ∧ i < c.par 2 1 ∧ s.rankEntryOk m ((fun (i : Nat) => if (c.par 3 1).testBit 2 = true then 0 else leAt c.inl (8 * i) 8) i) = false)) ∧
    (∃ (s : State) (c : Cmd), s.Accepts c 1025 ∧ (¬(8 ≤ c.par 3 1 ∨ c.parZero 4 12 = false ∨ c.par 3 1 % 4 = 0 ∨ c.par 2 1 = 0 ∨ 28 < c.par 2 1 ∨ 16384 < c.par 0 2 + c.par 2 1)) ∧ (¬c.inlineLen ≠ if (c.par 3 1).testBit 2 = true then 0 else 8 * c.par 2 1) ∧ (¬∃ (m : Nat), (fun (m : Nat) => m = 8 ∧ (c.par 3 1).testBit 0 = true ∨ m = 9 ∧ (c.par 3 1).testBit 1 = true) m ∧ s.dieFolded m = true) ∧ (¬∃ (m : Nat), (fun (m : Nat) => m = 8 ∧ (c.par 3 1).testBit 0 = true ∨ m = 9 ∧ (c.par 3 1).testBit 1 = true) m ∧ s.dieInReset m = true) ∧ s.sliceValid = true ∧ (¬(s.tempo.armed = true ∨ s.tempo.running = true ∨ ∃ (m : Nat), (fun (m : Nat) => m = 8 ∧ (c.par 3 1).testBit 0 = true ∨ m = 9 ∧ (c.par 3 1).testBit 1 = true) m ∧ s.getF BLT_DARN [m] BLT_DARN.HELD ≠ 0)) ∧ ((∃ (m : Nat), (fun (m : Nat) => m = 8 ∧ (c.par 3 1).testBit 0 = true ∨ m = 9 ∧ (c.par 3 1).testBit 1 = true) m ∧ s.bit TCK_GRID [m] TCK_GRID.VALID = false) ∨ ∃ (m : Nat), ∃ (i : Nat), (fun (m : Nat) => m = 8 ∧ (c.par 3 1).testBit 0 = true ∨ m = 9 ∧ (c.par 3 1).testBit 1 = true) m ∧ i < c.par 2 1 ∧ s.rankEntryOk m ((fun (i : Nat) => if (c.par 3 1).testBit 2 = true then 0 else leAt c.inl (8 * i) 8) i) = false)) ∧
    (∃ (s : State) (c : Cmd), s.Accepts c 1025 ∧ (¬(8 ≤ c.par 3 1 ∨ c.parZero 4 12 = false ∨ c.par 3 1 % 4 = 0 ∨ c.par 2 1 = 0 ∨ 28 < c.par 2 1 ∨ 16384 < c.par 0 2 + c.par 2 1)) ∧ (¬c.inlineLen ≠ if (c.par 3 1).testBit 2 = true then 0 else 8 * c.par 2 1) ∧ (¬∃ (m : Nat), (fun (m : Nat) => m = 8 ∧ (c.par 3 1).testBit 0 = true ∨ m = 9 ∧ (c.par 3 1).testBit 1 = true) m ∧ s.dieFolded m = true) ∧ (¬∃ (m : Nat), (fun (m : Nat) => m = 8 ∧ (c.par 3 1).testBit 0 = true ∨ m = 9 ∧ (c.par 3 1).testBit 1 = true) m ∧ s.dieInReset m = true) ∧ s.sliceValid = true ∧ (¬(s.tempo.armed = true ∨ s.tempo.running = true ∨ ∃ (m : Nat), (fun (m : Nat) => m = 8 ∧ (c.par 3 1).testBit 0 = true ∨ m = 9 ∧ (c.par 3 1).testBit 1 = true) m ∧ s.getF BLT_DARN [m] BLT_DARN.HELD ≠ 0)) ∧ (¬∃ (m : Nat), (fun (m : Nat) => m = 8 ∧ (c.par 3 1).testBit 0 = true ∨ m = 9 ∧ (c.par 3 1).testBit 1 = true) m ∧ s.bit TCK_GRID [m] TCK_GRID.VALID = false) ∧ (¬∃ (m : Nat), ∃ (i : Nat), (fun (m : Nat) => m = 8 ∧ (c.par 3 1).testBit 0 = true ∨ m = 9 ∧ (c.par 3 1).testBit 1 = true) m ∧ i < c.par 2 1 ∧ s.rankEntryOk m ((fun (i : Nat) => if (c.par 3 1).testBit 2 = true then 0 else leAt c.inl (8 * i) 8) i) = false) ∧ s.wf) ∧
    (∃ (s : State) (c : Cmd), s.Accepts c 1025 ∧ (¬(8 ≤ c.par 3 1 ∨ c.parZero 4 12 = false ∨ c.par 3 1 % 4 = 0 ∨ c.par 2 1 = 0 ∨ 28 < c.par 2 1 ∨ 16384 < c.par 0 2 + c.par 2 1)) ∧ (¬c.inlineLen ≠ if (c.par 3 1).testBit 2 = true then 0 else 8 * c.par 2 1) ∧ (¬∃ (m : Nat), (fun (m : Nat) => m = 8 ∧ (c.par 3 1).testBit 0 = true ∨ m = 9 ∧ (c.par 3 1).testBit 1 = true) m ∧ s.dieFolded m = true) ∧ (¬∃ (m : Nat), (fun (m : Nat) => m = 8 ∧ (c.par 3 1).testBit 0 = true ∨ m = 9 ∧ (c.par 3 1).testBit 1 = true) m ∧ s.dieInReset m = true) ∧ s.sliceValid = true ∧ (¬(s.tempo.armed = true ∨ s.tempo.running = true ∨ ∃ (m : Nat), (fun (m : Nat) => m = 8 ∧ (c.par 3 1).testBit 0 = true ∨ m = 9 ∧ (c.par 3 1).testBit 1 = true) m ∧ s.getF BLT_DARN [m] BLT_DARN.HELD ≠ 0)) ∧ (¬∃ (m : Nat), (fun (m : Nat) => m = 8 ∧ (c.par 3 1).testBit 0 = true ∨ m = 9 ∧ (c.par 3 1).testBit 1 = true) m ∧ s.bit TCK_GRID [m] TCK_GRID.VALID = false) ∧ (¬∃ (m : Nat), ∃ (i : Nat), (fun (m : Nat) => m = 8 ∧ (c.par 3 1).testBit 0 = true ∨ m = 9 ∧ (c.par 3 1).testBit 1 = true) m ∧ i < c.par 2 1 ∧ s.rankEntryOk m ((fun (i : Nat) => if (c.par 3 1).testBit 2 = true then 0 else leAt c.inl (8 * i) 8) i) = false) ∧ s.wf) ∧
    (∃ (s : State) (c : Cmd), s.Accepts c 1026 ∧ (4096 ≤ c.par 0 2 ∨ 2 ≤ c.par 2 1 ∨ c.parZero 3 13 = false ∨ c.par 2 1 = 0 ∧ c.par 0 2 = 0 ∨ c.par 2 1 = 1 ∧ c.par 0 2 ≠ 0)) ∧
    (∃ (s : State) (c : Cmd), s.Accepts c 1026 ∧ (4096 ≤ c.par 0 2 ∨ 2 ≤ c.par 2 1 ∨ c.parZero 3 13 = false ∨ c.par 2 1 = 0 ∧ c.par 0 2 = 0 ∨ c.par 2 1 = 1 ∧ c.par 0 2 ≠ 0)) ∧
    (∃ (s : State) (c : Cmd), s.Accepts c 1026 ∧ (¬(4096 ≤ c.par 0 2 ∨ 2 ≤ c.par 2 1 ∨ c.parZero 3 13 = false ∨ c.par 2 1 = 0 ∧ c.par 0 2 = 0 ∨ c.par 2 1 = 1 ∧ c.par 0 2 ≠ 0)) ∧ (s.dieFolded 8 = true ∨ s.dieFolded 9 = true)) ∧
    (∃ (s : State) (c : Cmd), s.Accepts c 1026 ∧ (¬(4096 ≤ c.par 0 2 ∨ 2 ≤ c.par 2 1 ∨ c.parZero 3 13 = false ∨ c.par 2 1 = 0 ∧ c.par 0 2 = 0 ∨ c.par 2 1 = 1 ∧ c.par 0 2 ≠ 0)) ∧ (¬(s.dieFolded 8 = true ∨ s.dieFolded 9 = true)) ∧ (s.dieInReset 8 = true ∨ s.dieInReset 9 = true)) ∧
    (∃ (s : State) (c : Cmd), s.Accepts c 1026 ∧ (¬(4096 ≤ c.par 0 2 ∨ 2 ≤ c.par 2 1 ∨ c.parZero 3 13 = false ∨ c.par 2 1 = 0 ∧ c.par 0 2 = 0 ∨ c.par 2 1 = 1 ∧ c.par 0 2 ≠ 0)) ∧ (¬(s.dieFolded 8 = true ∨ s.dieFolded 9 = true)) ∧ (¬(s.dieInReset 8 = true ∨ s.dieInReset 9 = true)) ∧ ((∃ (d : Nat), d ∈ s.condDies ∧ s.bit SCR_STATUS [d] SCR_STATUS.INSTALLED = true) ∨ s.tempo.armed = true ∨ s.tempo.running = true ∨ s.getF BLT_DARN [8] BLT_DARN.HELD ≠ 0 ∨ s.getF BLT_DARN [9] BLT_DARN.HELD ≠ 0)) ∧
    (∃ (s : State) (c : Cmd), s.Accepts c 1026 ∧ (¬(4096 ≤ c.par 0 2 ∨ 2 ≤ c.par 2 1 ∨ c.parZero 3 13 = false ∨ c.par 2 1 = 0 ∧ c.par 0 2 = 0 ∨ c.par 2 1 = 1 ∧ c.par 0 2 ≠ 0)) ∧ (¬(s.dieFolded 8 = true ∨ s.dieFolded 9 = true)) ∧ (¬(s.dieInReset 8 = true ∨ s.dieInReset 9 = true)) ∧ (¬((∃ (d : Nat), d ∈ s.condDies ∧ s.bit SCR_STATUS [d] SCR_STATUS.INSTALLED = true) ∨ s.tempo.armed = true ∨ s.tempo.running = true ∨ s.getF BLT_DARN [8] BLT_DARN.HELD ≠ 0 ∨ s.getF BLT_DARN [9] BLT_DARN.HELD ≠ 0)) ∧ s.wf ∧ tok 0 s.tacks.groups = true) ∧
    (∃ (s : State) (c : Cmd), s.Accepts c 1026 ∧ (¬(4096 ≤ c.par 0 2 ∨ 2 ≤ c.par 2 1 ∨ c.parZero 3 13 = false ∨ c.par 2 1 = 0 ∧ c.par 0 2 = 0 ∨ c.par 2 1 = 1 ∧ c.par 0 2 ≠ 0)) ∧ (¬(s.dieFolded 8 = true ∨ s.dieFolded 9 = true)) ∧ (¬(s.dieInReset 8 = true ∨ s.dieInReset 9 = true)) ∧ (¬((∃ (d : Nat), d ∈ s.condDies ∧ s.bit SCR_STATUS [d] SCR_STATUS.INSTALLED = true) ∨ s.tempo.armed = true ∨ s.tempo.running = true ∨ s.getF BLT_DARN [8] BLT_DARN.HELD ≠ 0 ∨ s.getF BLT_DARN [9] BLT_DARN.HELD ≠ 0)) ∧ s.wf ∧ tok 0 s.tacks.groups = true) ∧
    (∃ (m : Fin 2) (v : BitVec 32) (s : State), s.wf ∧ s.regGone RNK_CHIP [8 + ↑m] = false ∧ (s.tempo.armed = true ∨ s.tempo.running = true)) ∧
    (∃ (m : Fin 2) (v : BitVec 32) (s : State), s.wf ∧ s.regGone RNK_FENCE [8 + ↑m] = false ∧ (s.tempo.armed = true ∨ s.tempo.running = true)) ∧
    (∃ (m : Fin 2) (v : BitVec 32) (s : State), s.wf ∧ s.regGone RNK_CHIP [8 + ↑m] = false ∧ (¬(s.tempo.armed = true ∨ s.tempo.running = true))) ∧
    (∃ (m : Fin 2) (v : BitVec 32) (s : State), s.wf ∧ s.regGone RNK_FENCE [8 + ↑m] = false ∧ (¬(s.tempo.armed = true ∨ s.tempo.running = true))) :=
  ⟨⟨up, rtw 0 1 8, by unfold State.Accepts; decide +kernel⟩,
   ⟨up, rtw 16383 2, by unfold State.Accepts; decide +kernel⟩,
   ⟨up, rtw 16383 1 3 [], by unfold State.Accepts; decide +kernel⟩,
   ⟨up, rtw 0 28 7 entry, by unfold State.Accepts; decide +kernel⟩,
   ⟨up.setReg PWR_DIE [] 0x100, rtw 0 1, by unfold State.Accepts; decide +kernel, by decide +kernel, by decide +kernel, by simp only [named_ex, named_ex2]; decide +kernel⟩,
   ⟨up.setReg RST_DIE [] 0x200, rtw 0 1 2, by unfold State.Accepts; decide +kernel, by decide +kernel, by decide +kernel, by simp only [named_ex, named_ex2]; decide +kernel, by simp only [named_ex, named_ex2]; decide +kernel⟩,
   ⟨up.setReg RNK_SLICE [8] 0, rtw 0 1, by unfold State.Accepts; decide +kernel, by decide +kernel, by decide +kernel, by simp only [named_ex, named_ex2]; decide +kernel, by simp only [named_ex, named_ex2]; decide +kernel, by decide +kernel⟩,
   ⟨up.setF BLT_DARN [9] BLT_DARN.HELD 1, rtw 0 1, by unfold State.Accepts; decide +kernel, by decide +kernel, by decide +kernel, by simp only [named_ex, named_ex2]; decide +kernel, by simp only [named_ex, named_ex2]; decide +kernel, by decide +kernel, by simp only [named_ex, named_ex2]; decide +kernel⟩,
   ⟨playing, rtw 0 1, by unfold State.Accepts; decide +kernel, by decide +kernel, by decide +kernel, by simp only [named_ex, named_ex2]; decide +kernel, by simp only [named_ex, named_ex2]; decide +kernel, by decide +kernel, by simp only [named_ex, named_ex2]; decide +kernel⟩,
   ⟨grid, rtw 0 1, by unfold State.Accepts; decide +kernel, by decide +kernel, by decide +kernel, by simp only [named_ex, named_ex2]; decide +kernel, by simp only [named_ex, named_ex2]; decide +kernel, by decide +kernel, by simp only [named_ex, named_ex2]; decide +kernel, by simp only [named_ex, named_ex2]; decide +kernel⟩,
   ⟨grids, rtw 0 1 3 (leBytes 8 0x7), by unfold State.Accepts; decide +kernel, by decide +kernel, by decide +kernel, by simp only [named_ex, named_ex2]; decide +kernel, by simp only [named_ex, named_ex2]; decide +kernel, by decide +kernel, by simp only [named_ex, named_ex2]; decide +kernel, by simp only [named_ex, named_ex2]; decide +kernel⟩,
   ⟨grids, rtw 16383 1, by unfold State.Accepts; decide +kernel, by decide +kernel, by decide +kernel, by simp only [named_ex, named_ex2]; decide +kernel, by simp only [named_ex, named_ex2]; decide +kernel, by decide +kernel, by simp only [named_ex, named_ex2]; decide +kernel, by simp only [named_ex, named_ex2]; decide +kernel, by simp only [named_ex, named_ex2]; decide +kernel, by unfold State.wf; decide +kernel⟩,
   ⟨grid, rtw 1 28 5 [], by unfold State.Accepts; decide +kernel, by decide +kernel, by decide +kernel, by simp only [named_ex, named_ex2]; decide +kernel, by simp only [named_ex, named_ex2]; decide +kernel, by decide +kernel, by simp only [named_ex, named_ex2]; decide +kernel, by simp only [named_ex, named_ex2]; decide +kernel, by simp only [named_ex, named_ex2]; decide +kernel, by unfold State.wf; decide +kernel⟩,
   ⟨up, cmd 0x0402 [0, 0, 0], by unfold State.Accepts; decide +kernel⟩,
   ⟨up, cmd 0x0402 [0, 0x10, 0], by unfold State.Accepts; decide +kernel⟩,
   ⟨up.setReg PWR_DIE [] 0x200, cmd 0x0402 [1, 0, 0], by unfold State.Accepts; decide +kernel⟩,
   ⟨up.setReg RST_DIE [] 0x100, cmd 0x0402 [1, 0, 0], by unfold State.Accepts; decide +kernel⟩,
   ⟨still, cmd 0x0402 [1, 0, 0], by unfold State.Accepts; decide +kernel⟩,
   ⟨grids, cmd 0x0402 [0xFF, 0xF, 0], by unfold State.wf State.Accepts; decide +kernel⟩,
   ⟨{ grids with tacks := { groups := [(2 ^ 20 * 8 + 64 * 3 + 5, 0x8001)] } }, cmd 0x0402 [0, 0, 1], by unfold State.wf State.Accepts; decide +kernel⟩,
   ⟨0, 0x1234, playing, by unfold State.wf; decide +kernel⟩,
   ⟨1, 0x1234, playing, by unfold State.wf; decide +kernel⟩,
   ⟨0, 0xFFFF_FFFF, up, by unfold State.wf; decide +kernel⟩,
   ⟨1, 0, up, by unfold State.wf; decide +kernel⟩⟩

theorem witness_LegacyBridges :
    (∃ (l : Fin 12) (h : BoltHdr) (pay : List Byte) (pcrc : Nat) (rest : List (BoltHdr × List Byte × Nat × Bool)) (s : State), s.wf ∧ tok { : Legacy } s.legacy = true ∧ (tget { : Legacy } s.legacy ↑l).store = (h, pay, pcrc, false) :: rest ∧ s.linkProfile ↑l = 1 ∧ s.linkClear ↑l = true) ∧
    (∃ (l : Fin 12) (h : BoltHdr) (pay : List Byte) (pcrc : Nat) (rest : List (BoltHdr × List Byte × Nat × Bool)) (s : State), s.wf ∧ tok { : Legacy } s.legacy = true ∧ (tget { : Legacy } s.legacy ↑l).store = (h, pay, pcrc, false) :: rest ∧ s.linkClear ↑l = false) ∧
    (∃ (l : Fin 12) (x : Legacy) (s : State), s.wf ∧ tok { : Legacy } s.legacy = true ∧ tget { : Legacy } s.legacy ↑l = x ∧ s.linkProfile ↑l = 2 ∧ s.linkUp ↑l = true ∧ s.fenced ↑l = false ∧ x.peerCredits = 0) ∧
    (∃ (l : Fin 12) (x : Legacy) (s : State) (h : BoltHdr) (pay : List Byte) (pcrc : Nat) (bad : Bool) (rest : List (BoltHdr × List Byte × Nat × Bool)), s.wf ∧ tok { : Legacy } s.legacy = true ∧ tget { : Legacy } s.legacy ↑l = x ∧ s.linkProfile ↑l = 2 ∧ s.linkUp ↑l = true ∧ s.fenced ↑l = false ∧ 0 < x.peerCredits ∧ x.txq = [] ∧ s.bridgeTack ↑l = none ∧ x.store = (h, pay, pcrc, bad) :: rest) ∧
    (∃ (l : Fin 12) (x : Legacy) (s : State) (c : Cand), s.wf ∧ tok { : Legacy } s.legacy = true ∧ tget { : Legacy } s.legacy ↑l = x ∧ s.linkProfile ↑l = 2 ∧ s.linkUp ↑l = true ∧ s.fenced ↑l = false ∧ 0 < x.peerCredits ∧ x.txq = [] ∧ s.bridgeTack ↑l = some c ∧ c.t.token = none) ∧
    (∃ (l : Fin 12) (x : Legacy) (s : State), s.wf ∧ tok { : Legacy } s.legacy = true ∧ tget { : Legacy } s.legacy ↑l = x ∧ s.linkProfile ↑l = 2 ∧ s.linkUp ↑l = true ∧ s.fenced ↑l = false ∧ 0 < x.owed) ∧
    (∃ (l : Fin 12) (x : Legacy) (s : State), s.wf ∧ tok { : Legacy } s.legacy = true ∧ tget { : Legacy } s.legacy ↑l = x ∧ s.linkProfile ↑l = 2 ∧ s.linkUp ↑l = true ∧ s.fenced ↑l = false ∧ x.owed = 0) ∧
    (∃ (l : Fin 12) (p : List Byte) (x : Legacy) (s : State), s.wf ∧ tok { : Legacy } s.legacy = true ∧ tget { : Legacy } s.legacy ↑l = x ∧ s.linkProfile ↑l = 2 ∧ s.linkUp ↑l = true ∧ 64 ≤ x.used) ∧
    (∃ (l : Fin 12) (p : List Byte) (x : Legacy) (s : State), s.wf ∧ tok { : Legacy } s.legacy = true ∧ tget { : Legacy } s.legacy ↑l = x ∧ s.linkProfile ↑l = 2 ∧ s.linkUp ↑l = true ∧ x.used < 64 ∧ g1Ok p = false) ∧
    (∃ (l : Fin 12) (p : List Byte) (x : Legacy) (s : State), s.wf ∧ tok { : Legacy } s.legacy = true ∧ tget { : Legacy } s.legacy ↑l = x ∧ s.linkProfile ↑l = 2 ∧ s.linkUp ↑l = true ∧ x.used < 64 ∧ g1Ok p = true ∧ x.peerCredits + leAt p 2 1 ≤ 255 ∧ leAt p 1 1 = 1 ∧ x.segs = []) ∧
    (∃ (l : Fin 12) (p : List Byte) (x : Legacy) (s : State), s.wf ∧ tok { : Legacy } s.legacy = true ∧ tget { : Legacy } s.legacy ↑l = x ∧ s.linkProfile ↑l = 2 ∧ s.linkUp ↑l = true ∧ x.used < 64 ∧ g1Ok p = true ∧ x.peerCredits + leAt p 2 1 ≤ 255 ∧ leAt p 1 1 = 0 ∧ x.segs ≠ []) ∧
    (∃ (l : Fin 12) (p : List Byte) (x : Legacy) (s : State), s.wf ∧ tok { : Legacy } s.legacy = true ∧ tget { : Legacy } s.legacy ↑l = x ∧ s.linkProfile ↑l = 2 ∧ s.linkUp ↑l = true ∧ x.used < 64 ∧ g1Ok p = true ∧ x.peerCredits + leAt p 2 1 ≤ 255 ∧ leAt p 1 1 % 2 = 0 ∧ x.segs = []) ∧
    (∃ (l : Fin 12) (p : List Byte) (x : Legacy) (s : State), s.wf ∧ tok { : Legacy } s.legacy = true ∧ tget { : Legacy } s.legacy ↑l = x ∧ s.linkProfile ↑l = 2 ∧ s.linkUp ↑l = true ∧ x.used < 64 ∧ g1Ok p = true ∧ x.peerCredits + leAt p 2 1 ≤ 255 ∧ (¬(1 ≤ leAt p 8 1 % 16 ∧ leAt p 8 1 % 16 ≤ 9 ∧ leAt p 3 1 = 23 ∧ (if leAt p 8 1 % 16 = 1 ∨ leAt p 8 1 % 16 = 2 then 8 + leAt (slice p 12 24) 0 2 / 2 ^ 11 % 2 else leAt p 8 1 / 16) < 12 ∧ s.hasDie (if leAt p 8 1 % 16 = 1 ∨ leAt p 8 1 % 16 = 2 then 8 + leAt (slice p 12 24) 0 2 / 2 ^ 11 % 2 else leAt p 8 1 / 16) = true))) ∧
    (∃ (l : Fin 12) (p : List Byte) (x : Legacy) (s : State), s.wf ∧ tok { : Legacy } s.legacy = true ∧ tget { : Legacy } s.legacy ↑l = x ∧ s.linkProfile ↑l = 2 ∧ s.linkUp ↑l = true ∧ x.used < 64 ∧ g1Ok p = true ∧ x.peerCredits + leAt p 2 1 ≤ 255 ∧ (¬(1 ≤ leAt p 8 1 % 16 ∧ leAt p 8 1 % 16 ≤ 9 ∧ leAt p 3 1 = 23 ∧ (if leAt p 8 1 % 16 = 1 ∨ leAt p 8 1 % 16 = 2 then 8 + leAt (slice p 12 24) 0 2 / 2 ^ 11 % 2 else leAt p 8 1 / 16) < 12 ∧ s.hasDie (if leAt p 8 1 % 16 = 1 ∨ leAt p 8 1 % 16 = 2 then 8 + leAt (slice p 12 24) 0 2 / 2 ^ 11 % 2 else leAt p 8 1 / 16) = true))) ∧
    (∃ (l : Fin 12) (p : List Byte) (x : Legacy) (s : State), s.wf ∧ tok { : Legacy } s.legacy = true ∧ tget { : Legacy } s.legacy ↑l = x ∧ s.linkProfile ↑l = 2 ∧ s.linkUp ↑l = true ∧ x.used < 64 ∧ g1Ok p = true ∧ x.peerCredits + leAt p 2 1 ≤ 255 ∧ (1 ≤ leAt p 8 1 % 16 ∧ leAt p 8 1 % 16 ≤ 9 ∧ leAt p 3 1 = 23 ∧ (if leAt p 8 1 % 16 = 1 ∨ leAt p 8 1 % 16 = 2 then 8 + leAt (slice p 12 24) 0 2 / 2 ^ 11 % 2 else leAt p 8 1 / 16) < 12 ∧ s.hasDie (if leAt p 8 1 % 16 = 1 ∨ leAt p 8 1 % 16 = 2 then 8 + leAt (slice p 12 24) 0 2 / 2 ^ 11 % 2 else leAt p 8 1 / 16) = true) ∧ s.fenced ↑l = false ∧ s.bit TCK_GRID [8 + ↑l / 6] TCK_GRID.VALID = true ∧ s.sliceValid = true) ∧
    (∃ (l : Fin 12) (p : List Byte) (x : Legacy) (s : State), s.wf ∧ tok { : Legacy } s.legacy = true ∧ tget { : Legacy } s.legacy ↑l = x ∧ s.linkProfile ↑l = 2 ∧ s.linkUp ↑l = true ∧ g1Ok p = true ∧ x.peerCredits + leAt p 2 1 ≤ 255) ∧
    (∃ (l : Fin 12) (p : List Byte) (x : Legacy) (s : State), s.wf ∧ tok { : Legacy } s.legacy = true ∧ tget { : Legacy } s.legacy ↑l = x ∧ s.linkProfile ↑l = 2 ∧ g1Ok p = true ∧ 3 ≤ s.linkState ↑l ∧ s.linkState ↑l ≤ 5 ∧ x.initTx = false) ∧
    (∃ (l : Fin 12) (p : List Byte) (x : Legacy) (s : State), s.wf ∧ tok { : Legacy } s.legacy = true ∧ tget { : Legacy } s.legacy ↑l = x ∧ s.linkProfile ↑l = 2 ∧ g1Ok p = true ∧ 3 ≤ s.linkState ↑l ∧ s.linkState ↑l ≤ 5 ∧ x.initTx = false) ∧
    (∃ (l : Fin 12) (p : List Byte) (x : Legacy) (s : State), s.wf ∧ tok { : Legacy } s.legacy = true ∧ tget { : Legacy } s.legacy ↑l = x ∧ s.linkProfile ↑l = 2 ∧ g1Ok p = true ∧ s.linkState ↑l = 5 ∧ x.initTx = true) ∧
    (∃ (l : Fin 12) (v : BitVec 32) (s : State), s.wf ∧ s.regGone LNK_LGC_ID (lnk ↑l) = false ∧ s.linkProfile ↑l = 0) ∧
    (∃ (l : Fin 12) (v : BitVec 32) (s : State), s.wf ∧ s.regGone LNK_LGC_ID (lnk ↑l) = false ∧ s.linkProfile ↑l ≠ 0 ∧ ((s.tempo.armed = true ∨ s.tempo.running = true) ∨ v.getLsbD 31 = true ∧ (16384 ≤ v.toNat % 65536 ∨ s.linkProfile ↑l = 2 ∧ v.toNat / 2 ^ 28 % 4 ≠ 0))) ∧
    (∃ (l : Fin 12) (v : BitVec 32) (s : State), s.wf ∧ s.regGone LNK_LGC_ID (lnk ↑l) = false ∧ s.linkProfile ↑l ≠ 0 ∧ ((s.tempo.armed = true ∨ s.tempo.running = true) ∨ v.getLsbD 31 = true ∧ (16384 ≤ v.toNat % 65536 ∨ s.linkProfile ↑l = 2 ∧ v.toNat / 2 ^ 28 % 4 ≠ 0))) ∧
    (∃ (l : Fin 12) (v : BitVec 32) (s : State), s.wf ∧ s.regGone LNK_LGC_ID (lnk ↑l) = false ∧ s.linkProfile ↑l ≠ 0 ∧ ((s.tempo.armed = true ∨ s.tempo.running = true) ∨ v.getLsbD 31 = true ∧ (16384 ≤ v.toNat % 65536 ∨ s.linkProfile ↑l = 2 ∧ v.toNat / 2 ^ 28 % 4 ≠ 0))) ∧
    (∃ (l : Fin 12) (v : BitVec 32) (s : State), s.wf ∧ s.regGone LNK_LGC_ID (lnk ↑l) = false ∧ s.linkProfile ↑l ≠ 0 ∧ (¬(s.tempo.armed = true ∨ s.tempo.running = true)) ∧ (¬(v.getLsbD 31 = true ∧ (16384 ≤ v.toNat % 65536 ∨ s.linkProfile ↑l = 2 ∧ v.toNat / 2 ^ 28 % 4 ≠ 0)))) :=
  ⟨⟨0, hdr 0, pay1, crc32c pay1, [], bridge 1 6 { store := [(hdr 0, pay1, crc32c pay1, false)] }, by unfold State.wf; decide +kernel⟩,
   ⟨0, hdr 0, pay1, crc32c pay1, [], bridge 1 7 { store := [(hdr 0, pay1, crc32c pay1, false)] }, by unfold State.wf; decide +kernel⟩,
   ⟨0, { owed := 3 }, bridge 2 6 { owed := 3 }, by unfold State.wf; decide +kernel⟩,
   ⟨0, { store := [(hdr 0, pay1, crc32c pay1, true)], peerCredits := 1, owed := 65 }, bridge 2 6 { store := [(hdr 0, pay1, crc32c pay1, true)], peerCredits := 1, owed := 65 }, hdr 0, pay1, crc32c pay1, true, [], by unfold State.wf; decide +kernel⟩,
   ⟨0, { peerCredits := 255 }, { bridge 2 6 { peerCredits := 255 } with tacks := { inj := [(128, [{ tck 3 0 (ret 0 0) with src := some 0, via := some 0 }])] } }, ⟨some 0, 0, { tck 3 0 (ret 0 0) with src := some 0, via := some 0 }⟩, by unfold State.wf; decide +kernel⟩,
   ⟨0, { owed := 65 }, bridge 2 6 { owed := 65 }, by unfold State.wf; decide +kernel⟩,
   ⟨0, { used := 1 }, bridge 2 6 { used := 1 }, by unfold State.wf; decide +kernel⟩,
   ⟨0, [], { used := 64 }, bridge 2 6 { used := 64 }, by unfold State.wf; decide +kernel⟩,
   ⟨0, [], { used := 63, segs := [[]] }, bridge 2 6 { used := 63, segs := [[]] }, by unfold State.wf; decide +kernel⟩,
   ⟨0, g1 1 1 255 79 9, {}, bridge 2 6 {}, by unfold State.wf; decide +kernel⟩,
   ⟨0, g1 1 0 0 239 9, { used := 1, segs := [[1]] }, bridge 2 6 { used := 1, segs := [[1]] }, by unfold State.wf; decide +kernel⟩,
   ⟨0, g1 1 2 0 239 9, { used := 63 }, bridge 2 6 { used := 63 }, by unfold State.wf; decide +kernel⟩,
   ⟨0, g1 2 0 0 22 0x03, {}, bridge 2 6 {}, by unfold State.wf; decide +kernel⟩,
   ⟨0, g1 2 0 0 23 0xC3, {}, bridge 2 6 {}, by unfold State.wf; decide +kernel⟩,
   ⟨0, g1 2 0 0 23 0xB9, {}, bridge 2 6 {}, by unfold State.wf; decide +kernel⟩,
   ⟨0, g1 3 0 64 0 0, { peerCredits := 191 }, bridge 2 6 { peerCredits := 191 }, by unfold State.wf; decide +kernel⟩,
   ⟨0, g1 4 0 64 0 0, {}, bridge 2 3 {}, by unfold State.wf; decide +kernel⟩,
   ⟨0, g1 4 0 64 0 0, {}, bridge 2 5 {}, by unfold State.wf; decide +kernel⟩,
   ⟨0, g1 4 0 64 0 0, { initTx := true }, bridge 2 5 { initTx := true }, by unfold State.wf; decide +kernel⟩,
   ⟨0, 0xFFFF_FFFF, up, by unfold State.wf; decide +kernel⟩,
   ⟨0, 0x8000_4000, bridge 1 0 {}, by unfold State.wf; decide +kernel⟩,
   ⟨0, 0x9000_0000, bridge 2 0 {}, by unfold State.wf; decide +kernel⟩,
   ⟨0, 0, bridge 1 0 {} playing, by unfold State.wf; decide +kernel⟩,
   ⟨0, 0xBFFF_3FFF, bridge 1 0 {}, by unfold State.wf; decide +kernel⟩⟩

theorem witness_InterruptSources :
    (∃ (n : Fin 1024) (s : State), s.wf ∧ s.dieInReset 10 = false ∧ ↑n ≠ 0 ∧ ↑n ≠ 1 ∧ s.hasSource ↑n = true ∧ ((fun (f : Fld) => s.getF ICU_SRC [↑n] f) ICU_SRC.PRIO = 0)) ∧
    (∃ (n : Fin 1024) (s : State), s.wf ∧ s.dieInReset 10 = false ∧ ↑n ≠ 0 ∧ ↑n ≠ 1 ∧ s.hasSource ↑n = true ∧ ((fun (f : Fld) => s.getF ICU_SRC [↑n] f) ICU_SRC.PRIO ≠ 0)) ∧
    (∃ (n : Fin 1024) (s : State), s.wf ∧ s.dieInReset 10 = false ∧ ↑n ≠ 0 ∧ ↑n ≠ 1 ∧ s.hasSource ↑n = true ∧ ((fun (f : Fld) => s.getF ICU_SRC [↑n] f) ICU_SRC.PRIO ≠ 0)) ∧
    (∃ (n : Fin 1024) (s : State) (v : BitVec 32), s.wf ∧ s.dieInReset 10 = false ∧ ↑n ≠ 0 ∧ ↑n ≠ 1 ∧ s.hasSource ↑n = true ∧ 640 ≤ ↑n ∧ tget 0 s.icu.edges ↑n = 0) ∧
    (∃ (n : Fin 1024) (s : State) (v : BitVec 32), s.wf ∧ s.dieInReset 10 = false ∧ ↑n ≠ 0 ∧ ↑n ≠ 1 ∧ s.hasSource ↑n = true ∧ ↑n < 640 ∧ s.sourceLine ↑n = true ∧ ((fun (f : Fld) => s.getF ICU_SRC [↑n] f) ICU_SRC.PRIO = 0) ∧ ((fun (f : Fld) => s.getF ICU_SRC [↑n] f) ICU_SRC.PENDING = 0) ∧ ((fun (f : Fld) => s.getF ICU_SRC [↑n] f) ICU_SRC.ACTIVE = 0) ∧ v.toNat % 32 ≠ 0) ∧
    (∃ (n : Fin 1024) (s : State), s.wf ∧ s.dieInReset 10 = false ∧ ↑n ≠ 0 ∧ ↑n ≠ 1 ∧ s.hasSource ↑n = true ∧ ↑n < 640 ∧ s.sourceLine ↑n = true ∧ ((fun (f : Fld) => s.getF ICU_SRC [↑n] f) ICU_SRC.LINE = 0) ∧ ((fun (f : Fld) => s.getF ICU_SRC [↑n] f) ICU_SRC.PRIO ≠ 0) ∧ tget 0 s.icu.edges ↑n = 0) ∧
    (∃ (n : Fin 1024) (s : State), s.wf ∧ s.dieInReset 10 = false ∧ ↑n ≠ 0 ∧ ↑n ≠ 1 ∧ s.hasSource ↑n = true ∧ ↑n < 640 ∧ s.sourceLine ↑n = true ∧ ((fun (f : Fld) => s.getF ICU_SRC [↑n] f) ICU_SRC.LINE = 0) ∧ ((fun (f : Fld) => s.getF ICU_SRC [↑n] f) ICU_SRC.PRIO ≠ 0) ∧ tget 0 s.icu.edges ↑n = 0) ∧
    (∃ (n : Fin 1024) (v : BitVec 32) (s : State), (↑n = 0 ∨ ↑n = 1 ∨ s.hasSource ↑n = false)) ∧
    (∃ (n : Fin 1024) (v : BitVec 32) (s : State), (↑n = 0 ∨ ↑n = 1 ∨ s.hasSource ↑n = false)) :=
  ⟨⟨1023, up, by unfold State.wf; decide +kernel⟩,
   ⟨2, src 2 [(ICU_SRC.PRIO, 1)], by unfold State.wf; decide +kernel⟩,
   ⟨640, src 640 [(ICU_SRC.PRIO, 31), (ICU_SRC.PENDING, 1), (ICU_SRC.EVCOUNT, 255)], by unfold State.wf; decide +kernel⟩,
   ⟨640, src 640 [(ICU_SRC.PRIO, 31), (ICU_SRC.PENDING, 1)], 0xFFFF_FFE0, by unfold State.wf; decide +kernel⟩,
   ⟨128, line128, 1, by unfold State.wf; decide +kernel⟩,
   ⟨128, src 128 [(ICU_SRC.PRIO, 5)] line128, by unfold State.wf; decide +kernel⟩,
   ⟨128, src 128 [(ICU_SRC.PRIO, 5), (ICU_SRC.ACTIVE, 1), (ICU_SRC.EVCOUNT, 255)] line128, by unfold State.wf; decide +kernel⟩,
   ⟨1, 0xFFFF_FFFF, up, by decide +kernel⟩,
   ⟨22, 0xFFFF_FFFF, up, by decide +kernel⟩⟩

theorem witness_ClaimAndComplete :
    (∃ (s : State) (t : Nat) (n : Nat), s.selection t = none ∧ n < 1024) ∧
    (∃ (s : State) (t : Nat) (n : Nat), n ≠ 1) ∧
    (∃ (c : Fin 16) (b : Bool) (t : Fin 32) (s : State), s.wf ∧ s.dieInReset 10 = false ∧ s.selection ↑t = none) ∧
    (∃ (c : Fin 16) (b : Bool) (t : Fin 32) (s : State) (n : Nat), s.wf ∧ s.dieInReset 10 = false ∧ s.selection ↑t = some n ∧ tok { : Target } s.icu.targets = true) ∧
    (∃ (c : Fin 16) (b : Bool) (t : Fin 32) (v : BitVec 32) (s : State), s.wf ∧ s.dieInReset 10 = false ∧ tok { : Target } s.icu.targets = true ∧ (¬(v.toNat % 1024 = 1 ∧ s.bit ICU_SRC [1] ICU_SRC.ACTIVE = true ∧ s.getF ICU_SRC [1] ICU_SRC.OWNER = ↑t)) ∧ (s.target ↑t).frozen = true) ∧
    (∃ (c : Fin 16) (b : Bool) (t : Fin 32) (v : BitVec 32) (s : State), s.wf ∧ s.dieInReset 10 = false ∧ tok { : Target } s.icu.targets = true ∧ v.toNat % 1024 = 1 ∧ s.bit ICU_SRC [1] ICU_SRC.ACTIVE = true ∧ s.getF ICU_SRC [1] ICU_SRC.OWNER = ↑t) ∧
    (∃ (c : Fin 16) (b : Bool) (t : Fin 32) (v : BitVec 32) (s : State) (e : Nat), s.wf ∧ s.dieInReset 10 = false ∧ tok { : Target } s.icu.targets = true ∧ (¬(v.toNat % 1024 = 1 ∧ s.bit ICU_SRC [1] ICU_SRC.ACTIVE = true ∧ s.getF ICU_SRC [1] ICU_SRC.OWNER = ↑t)) ∧ (s.target ↑t).frozen = false ∧ (s.target ↑t).stack.getLast? = some (v.toNat % 1024, e)) ∧
    (∃ (c : Fin 16) (b : Bool) (t : Fin 32) (v : BitVec 32) (s : State) (e : Nat), s.wf ∧ s.dieInReset 10 = false ∧ tok { : Target } s.icu.targets = true ∧ (¬(v.toNat % 1024 = 1 ∧ s.bit ICU_SRC [1] ICU_SRC.ACTIVE = true ∧ s.getF ICU_SRC [1] ICU_SRC.OWNER = ↑t)) ∧ (s.target ↑t).frozen = false ∧ (s.target ↑t).stack.getLast? = some (v.toNat % 1024, e)) ∧
    (∃ (c : Fin 16) (b : Bool) (t : Fin 32) (v : BitVec 32) (s : State), s.wf ∧ s.dieInReset 10 = false ∧ tok { : Target } s.icu.targets = true ∧ (¬(v.toNat % 1024 = 1 ∧ s.bit ICU_SRC [1] ICU_SRC.ACTIVE = true ∧ s.getF ICU_SRC [1] ICU_SRC.OWNER = ↑t)) ∧ (s.target ↑t).frozen = false ∧ (∀ (e : Nat), (s.target ↑t).stack.getLast? ≠ some (v.toNat % 1024, e))) ∧
    (∃ (c : Fin 16) (b : Bool) (t : Fin 32) (v : BitVec 32) (s : State), s.wf ∧ s.dieInReset 10 = false ∧ tok { : Target } s.icu.targets = true ∧ (¬(v.toNat % 1024 = 1 ∧ s.bit ICU_SRC [1] ICU_SRC.ACTIVE = true ∧ s.getF ICU_SRC [1] ICU_SRC.OWNER = ↑t)) ∧ (s.target ↑t).frozen = false ∧ (∀ (e : Nat), (s.target ↑t).stack.getLast? ≠ some (v.toNat % 1024, e))) ∧
    (∃ (c : Fin 16) (b : Bool) (t : Fin 32) (s : State), s.wf ∧ s.dieInReset 10 = false ∧ tok { : Target } s.icu.targets = true ∧ (∀ (e : Nat × Nat), e ∈ (s.target ↑t).stack → e.fst < 1024)) :=
  ⟨⟨up, 0, 1023, by decide +kernel⟩,
   ⟨pending, 31, 1023, by decide +kernel⟩,
   ⟨0, true, 0, up, by unfold State.wf; decide +kernel⟩,
   ⟨15, true, 31, pending, 1023, by unfold State.wf; decide +kernel⟩,
   ⟨0, true, 0, 5, stacked 0 { stack := [(5, 1)], frozen := true }, by unfold State.wf; decide +kernel⟩,
   ⟨0, true, 0, 1, src 1 [(ICU_SRC.ACTIVE, 1)] (stacked 0 { stack := [(5, 1)], frozen := true }), by unfold State.wf; decide +kernel⟩,
   ⟨15, false, 31, 128, stacked 31 { stack := [(5, 1), (128, 2)] } (src 128 [(ICU_SRC.ACTIVE, 1)] line128), 2, by unfold State.wf; decide +kernel⟩,
   ⟨15, false, 31, 1023, stacked 31 { stack := [(5, 1), (1023, 2)] } (src 1023 [(ICU_SRC.ACTIVE, 1), (ICU_SRC.EVCOUNT, 2), (ICU_SRC.PRIO, 2)]), 2, by unfold State.wf; decide +kernel⟩,
   ⟨0, true, 0, 6, stacked 0 { stack := [(6, 1), (5, 2)] }, by unfold State.wf; decide +kernel, by decide +kernel, by decide +kernel, by decide +kernel, by decide +kernel, top_ne (by decide +kernel)⟩,
   ⟨0, true, 31, 0, up.setReg ICU_TGT_FAULT [] 1, by unfold State.wf; decide +kernel, by decide +kernel, by decide +kernel, by decide +kernel, by decide +kernel, top_ne (by decide +kernel)⟩,
   ⟨0, true, 31, stacked 31 { stack := [(1023, 2), (5, 3)], frozen := true }, by unfold State.wf; decide +kernel⟩⟩

theorem witness_EventLog :
    (∃ (d : Fin 12) (e : Ev) (s : State), s.wf ∧ s.dieInReset 10 = false ∧ (List.find? (fun (e : Ev) => e.die == ↑d) s.arb.queue = some e) ∧ s.arb.lostCount = 0 ∧ tget 0 s.arb.drops ↑d = 0 ∧ s.arb.staged.length < 256) ∧
    (∃ (d : Fin 12) (e : Ev) (s : State), s.wf ∧ s.dieInReset 10 = false ∧ (List.find? (fun (e : Ev) => e.die == ↑d) s.arb.queue = some e) ∧ s.arb.lostCount = 0 ∧ tget 0 s.arb.drops ↑d = 0 ∧ 256 ≤ s.arb.staged.length) ∧
    (∃ (d : Fin 12) (e : Ev) (s : State) (k : Nat), s.wf ∧ s.dieInReset 10 = false ∧ (List.find? (fun (e : Ev) => e.die == ↑d) s.arb.queue = some e) ∧ s.arb.lostCount = 0 ∧ tget 0 s.arb.drops ↑d = k ∧ k ≠ 0 ∧ s.arb.staged.length < 256 ∧ tok 0 s.arb.drops = true) ∧
    (∃ (d : Fin 12) (s : State), (∀ (e : Ev), e ∈ s.arb.queue → e.die ≠ ↑d)) ∧
    (∃ (fail : Bool) (r : EvRec) (rest : List EvRec) (s : State), s.wf ∧ s.arb.staged = r :: rest ∧ s.dieInReset 10 = false ∧ (s.bit EVA_CFG [] EVA_CFG.ENABLE = false ∨ s.evaFull = true)) ∧
    (∃ (fail : Bool) (r : EvRec) (rest : List EvRec) (s : State), s.wf ∧ s.arb.staged = r :: rest ∧ s.dieInReset 10 = false ∧ (s.bit EVA_CFG [] EVA_CFG.ENABLE = false ∨ s.evaFull = true)) ∧
    (∃ (fail : Bool) (r : EvRec) (rest : List EvRec) (s : State), s.wf ∧ s.arb.staged = r :: rest ∧ s.dieInReset 10 = false ∧ s.bit EVA_CFG [] EVA_CFG.ENABLE = true ∧ s.evaFull = false ∧ s.bit EVA_CFG [] EVA_CFG.HOST = true ∧ fail = true) ∧
    (∃ (fail : Bool) (r : EvRec) (rest : List EvRec) (s : State), s.wf ∧ s.arb.staged = r :: rest ∧ s.dieInReset 10 = false ∧ s.bit EVA_CFG [] EVA_CFG.ENABLE = true ∧ s.evaFull = false ∧ s.arb.lostCount = 0 ∧ rest.length < 256 ∧ (s.bit EVA_CFG [] EVA_CFG.HOST = true → fail = false ∧ s.hostReach = true) ∧ (s.bit EVA_CFG [] EVA_CFG.HOST = false → s.bit AON_FW [] AON_FW.ACTIVATING = false ∧ ∀ (n : Nat), n ∈ stacksOf (s.getF EVA_BASE [] EVA_BASE.BASE * 4096 + 32 * (s.getF EVA_WR [] EVA_WR.INDEX % 2 ^ s.getF EVA_CFG [] EVA_CFG.LOG2N)) 32 → s.stackUp n = true)) ∧
    (∃ (fail : Bool) (r : EvRec) (rest : List EvRec) (s : State), s.wf ∧ s.arb.staged = r :: rest ∧ s.dieInReset 10 = false ∧ s.bit EVA_CFG [] EVA_CFG.ENABLE = true ∧ s.evaFull = false ∧ s.arb.lostCount = 0 ∧ rest.length < 256 ∧ (s.bit EVA_CFG [] EVA_CFG.HOST = true → fail = false ∧ s.hostReach = true) ∧ (s.bit EVA_CFG [] EVA_CFG.HOST = false → s.bit AON_FW [] AON_FW.ACTIVATING = false ∧ ∀ (n : Nat), n ∈ stacksOf (s.getF EVA_BASE [] EVA_BASE.BASE * 4096 + 32 * (s.getF EVA_WR [] EVA_WR.INDEX % 2 ^ s.getF EVA_CFG [] EVA_CFG.LOG2N)) 32 → s.stackUp n = true)) ∧
    (∃ (v : Word) (s : State), s.dieInReset 10 = false) ∧
    (∃ (v : BitVec 32) (s : State), s.wf ∧ s.dieInReset 10 = false ∧ (s.getF EVA_WR [] EVA_WR.INDEX + 2 ^ 32 - v.toNat) % 2 ^ 32 ≤ 2 ^ s.getF EVA_CFG [] EVA_CFG.LOG2N) ∧
    (∃ (v : BitVec 32) (s : State), s.wf ∧ s.dieInReset 10 = false ∧ (¬(s.getF EVA_WR [] EVA_WR.INDEX + 2 ^ 32 - v.toNat) % 2 ^ 32 ≤ 2 ^ s.getF EVA_CFG [] EVA_CFG.LOG2N)) ∧
    (∃ (v : BitVec 32) (s : State), s.wf ∧ s.dieInReset 10 = false ∧ (¬(s.getF EVA_WR [] EVA_WR.INDEX + 2 ^ 32 - v.toNat) % 2 ^ 32 ≤ 2 ^ s.getF EVA_CFG [] EVA_CFG.LOG2N)) ∧
    (∃ (s : State) (c : Cmd), s.Accepts c 1538 ∧ (c.par 8 1 < 8 ∨ 20 < c.par 8 1 ∨ c.par 0 8 % 4096 ≠ 0 ∨ (c.par 9 1).testBit 1 = false ∧ rangeInCarve (c.par 0 8) (32 * 2 ^ c.par 8 1) = false ∨ 8 ≤ c.par 9 1 ∨ c.par 10 2 = 0 ∨ c.parZero 12 4 = false ∨ ¬(c.par 0 8 = s.getF EVA_BASE [] EVA_BASE.BASE * 4096 ∧ c.par 8 1 = s.getF EVA_CFG [] EVA_CFG.LOG2N ∧ c.par 9 1 / 2 % 2 = s.getF EVA_CFG [] EVA_CFG.HOST) ∧ (c.par 9 1).testBit 2 = false)) ∧
    (∃ (s : State) (c : Cmd), s.Accepts c 1538 ∧ (c.par 8 1 < 8 ∨ 20 < c.par 8 1 ∨ c.par 0 8 % 4096 ≠ 0 ∨ (c.par 9 1).testBit 1 = false ∧ rangeInCarve (c.par 0 8) (32 * 2 ^ c.par 8 1) = false ∨ 8 ≤ c.par 9 1 ∨ c.par 10 2 = 0 ∨ c.parZero 12 4 = false ∨ ¬(c.par 0 8 = s.getF EVA_BASE [] EVA_BASE.BASE * 4096 ∧ c.par 8 1 = s.getF EVA_CFG [] EVA_CFG.LOG2N ∧ c.par 9 1 / 2 % 2 = s.getF EVA_CFG [] EVA_CFG.HOST) ∧ (c.par 9 1).testBit 2 = false)) ∧
    (∃ (s : State) (c : Cmd), s.Accepts c 1538 ∧ (c.par 8 1 < 8 ∨ 20 < c.par 8 1 ∨ c.par 0 8 % 4096 ≠ 0 ∨ (c.par 9 1).testBit 1 = false ∧ rangeInCarve (c.par 0 8) (32 * 2 ^ c.par 8 1) = false ∨ 8 ≤ c.par 9 1 ∨ c.par 10 2 = 0 ∨ c.parZero 12 4 = false ∨ ¬(c.par 0 8 = s.getF EVA_BASE [] EVA_BASE.BASE * 4096 ∧ c.par 8 1 = s.getF EVA_CFG [] EVA_CFG.LOG2N ∧ c.par 9 1 / 2 % 2 = s.getF EVA_CFG [] EVA_CFG.HOST) ∧ (c.par 9 1).testBit 2 = false)) ∧
    (∃ (s : State) (c : Cmd), s.Accepts c 1538 ∧ (¬(c.par 8 1 < 8 ∨ 20 < c.par 8 1 ∨ c.par 0 8 % 4096 ≠ 0 ∨ (c.par 9 1).testBit 1 = false ∧ rangeInCarve (c.par 0 8) (32 * 2 ^ c.par 8 1) = false ∨ 8 ≤ c.par 9 1 ∨ c.par 10 2 = 0 ∨ c.parZero 12 4 = false ∨ ¬(c.par 0 8 = s.getF EVA_BASE [] EVA_BASE.BASE * 4096 ∧ c.par 8 1 = s.getF EVA_CFG [] EVA_CFG.LOG2N ∧ c.par 9 1 / 2 % 2 = s.getF EVA_CFG [] EVA_CFG.HOST) ∧ (c.par 9 1).testBit 2 = false)) ∧ s.wf) ∧
    (∃ (s : State) (c : Cmd), s.Accepts c 1538 ∧ (¬(c.par 8 1 < 8 ∨ 20 < c.par 8 1 ∨ c.par 0 8 % 4096 ≠ 0 ∨ (c.par 9 1).testBit 1 = false ∧ rangeInCarve (c.par 0 8) (32 * 2 ^ c.par 8 1) = false ∨ 8 ≤ c.par 9 1 ∨ c.par 10 2 = 0 ∨ c.parZero 12 4 = false ∨ ¬(c.par 0 8 = s.getF EVA_BASE [] EVA_BASE.BASE * 4096 ∧ c.par 8 1 = s.getF EVA_CFG [] EVA_CFG.LOG2N ∧ c.par 9 1 / 2 % 2 = s.getF EVA_CFG [] EVA_CFG.HOST) ∧ (c.par 9 1).testBit 2 = false)) ∧ s.wf) :=
  ⟨⟨3, ev, arbiter { queue := [⟨4, 0, 0, 1, 0⟩, ev], staged := List.replicate 255 ⟨0, 0, ev⟩ }, by unfold State.wf; decide +kernel⟩,
   ⟨3, ev, arbiter { queue := [ev], staged := List.replicate 256 ⟨0, 0, ev⟩ }, by unfold State.wf; decide +kernel⟩,
   ⟨3, ev, arbiter { queue := [ev], drops := [(3, 9)] }, 9, by unfold State.wf; decide +kernel⟩,
   ⟨4, arbiter { queue := [ev] }, by decide +kernel⟩,
   ⟨false, ⟨1, 2, ev⟩, [], (logging true).setF EVA_CFG [] EVA_CFG.ENABLE 0, by unfold State.wf; decide +kernel⟩,
   ⟨false, ⟨1, 2, ev⟩, [], (logging false).setF EVA_WR [] EVA_WR.INDEX 256, by unfold State.wf; decide +kernel⟩,
   ⟨true, ⟨1, 2, ev⟩, [], logging true, by unfold State.wf; decide +kernel⟩,
   ⟨false, ⟨1, 2, ev⟩, [], logging true, by unfold State.wf; decide +kernel⟩,
   ⟨true, ⟨1, 2, ev⟩, [], (logging false).setF EVA_WR [] EVA_WR.INDEX 255, by unfold State.wf; decide +kernel⟩,
   ⟨0xFFFF_FFFF_FFFF_FFFF, up, by decide +kernel⟩,
   ⟨0xFFFF_FF00, up, by unfold State.wf; decide +kernel⟩,
   ⟨0xFFFF_FEFF, up, by unfold State.wf; decide +kernel⟩,
   ⟨1, up, by unfold State.wf; decide +kernel⟩,
   ⟨up, elc 0xA_0000_0000 7 5 1, by unfold State.Accepts; decide +kernel⟩,
   ⟨up, elc 0xA_0000_0000 8 1 1, by unfold State.Accepts; decide +kernel⟩,
   ⟨up, elc 0x9_FFFF_F000 20 5 1, by unfold State.Accepts; decide +kernel⟩,
   ⟨up, elc 0x23_FE00_0000 20 5 65535, by unfold State.wf State.Accepts; decide +kernel⟩,
   ⟨up, elc 0x1000 8 6 1, by unfold State.wf State.Accepts; decide +kernel⟩⟩

theorem witness_HostRings :
    (∃ (w : Who) (r : Fin 16) (v : BitVec 32) (s : State), s.wf ∧ s.ringOn ↑r = false ∧ s.bit CMD_RING_STATUS [↑r] CMD_RING_STATUS.IDLE = true ∧ s.ringLoc ↑r = false ∧ (4 ≤ (fun (f : Fld) => fget (BitVec.setWidth 64 v) f) CMD_RING_CFG.LOG2N) ∧ ((fun (f : Fld) => fget (BitVec.setWidth 64 v) f) CMD_RING_CFG.LOG2N ≤ 12)) ∧
    (∃ (w : Who) (r : Fin 16) (v : BitVec 32) (s : State), s.wf ∧ s.ringOn ↑r = false ∧ s.bit CMD_RING_STATUS [↑r] CMD_RING_STATUS.IDLE = true ∧ s.ringLoc ↑r = false ∧ (4 ≤ (fun (f : Fld) => fget (BitVec.setWidth 64 v) f) CMD_RING_CFG.LOG2N) ∧ ((fun (f : Fld) => fget (BitVec.setWidth 64 v) f) CMD_RING_CFG.LOG2N ≤ 12)) ∧
    (∃ (w : Who) (r : Fin 16) (v : BitVec 32) (s : State), s.wf ∧ s.ringOn ↑r = false ∧ s.bit CMD_RING_STATUS [↑r] CMD_RING_STATUS.IDLE = true ∧ s.ringLoc ↑r = false ∧ ((fun (f : Fld) => fget (BitVec.setWidth 64 v) f) CMD_RING_CFG.LOG2N < 4 ∨ 12 < (fun (f : Fld) => fget (BitVec.setWidth 64 v) f) CMD_RING_CFG.LOG2N)) ∧
    (∃ (w : Who) (r : Fin 16) (v : BitVec 32) (s : State), s.wf ∧ s.ringOn ↑r = false ∧ s.bit CMD_RING_STATUS [↑r] CMD_RING_STATUS.IDLE = true ∧ s.ringLoc ↑r = false ∧ ((fun (f : Fld) => fget (BitVec.setWidth 64 v) f) CMD_RING_CFG.LOG2N < 4 ∨ 12 < (fun (f : Fld) => fget (BitVec.setWidth 64 v) f) CMD_RING_CFG.LOG2N)) ∧
    (∃ (w : Who) (r : Fin 16) (v : BitVec 32) (s : State), s.wf ∧ s.ringOn ↑r = true) ∧
    (∃ (w : Who) (r : Fin 16) (v : BitVec 32) (s : State), s.wf ∧ s.ringOn ↑r = true) ∧
    (∃ (w : Who) (bar2 : Bool) (r : Fin 16) (v : BitVec 32) (s : State), s.wf ∧ (¬(s.ringOn ↑r = true ∧ (bar2 = true → s.ringLoc ↑r = false) ∧ (bar2 = false → s.ringLoc ↑r = true ∨ Who.isCore w = true)))) ∧
    (∃ (w : Who) (bar2 : Bool) (r : Fin 16) (v : BitVec 32) (s : State), s.wf ∧ (s.ringOn ↑r = true ∧ (bar2 = true → s.ringLoc ↑r = false) ∧ (bar2 = false → s.ringLoc ↑r = true ∨ Who.isCore w = true)) ∧ (¬(4096 ≤ v.toNat ∨ s.ringN ↑r ≤ v.toNat ∨ (v.toNat + s.ringN ↑r - s.getF CMD_RING_STATUS [↑r] CMD_RING_STATUS.HEAD) % s.ringN ↑r < ((fun (f : Fld) => s.getF CMD_RING_PTR [↑r] f) CMD_RING_PTR.TAIL + s.ringN ↑r - s.getF CMD_RING_STATUS [↑r] CMD_RING_STATUS.HEAD) % s.ringN ↑r))) ∧
    (∃ (w : Who) (bar2 : Bool) (r : Fin 16) (v : BitVec 32) (s : State), s.wf ∧ (s.ringOn ↑r = true ∧ (bar2 = true → s.ringLoc ↑r = false) ∧ (bar2 = false → s.ringLoc ↑r = true ∨ Who.isCore w = true)) ∧ (4096 ≤ v.toNat ∨ s.ringN ↑r ≤ v.toNat ∨ (v.toNat + s.ringN ↑r - s.getF CMD_RING_STATUS [↑r] CMD_RING_STATUS.HEAD) % s.ringN ↑r < ((fun (f : Fld) => s.getF CMD_RING_PTR [↑r] f) CMD_RING_PTR.TAIL + s.ringN ↑r - s.getF CMD_RING_STATUS [↑r] CMD_RING_STATUS.HEAD) % s.ringN ↑r)) ∧
    (∃ (w : Who) (bar2 : Bool) (r : Fin 16) (v : BitVec 32) (s : State), s.wf ∧ (s.ringOn ↑r = true ∧ (bar2 = true → s.ringLoc ↑r = false) ∧ (bar2 = false → s.ringLoc ↑r = true ∨ Who.isCore w = true)) ∧ (4096 ≤ v.toNat ∨ s.ringN ↑r ≤ v.toNat ∨ (v.toNat + s.ringN ↑r - s.getF CMD_RING_STATUS [↑r] CMD_RING_STATUS.HEAD) % s.ringN ↑r < ((fun (f : Fld) => s.getF CMD_RING_PTR [↑r] f) CMD_RING_PTR.TAIL + s.ringN ↑r - s.getF CMD_RING_STATUS [↑r] CMD_RING_STATUS.HEAD) % s.ringN ↑r)) ∧
    (∃ (w : Who) (bar2 : Bool) (r : Fin 16) (v : BitVec 32) (s : State), s.wf ∧ (s.ringOn ↑r = true ∧ (bar2 = true → s.ringLoc ↑r = false) ∧ (bar2 = false → s.ringLoc ↑r = true ∨ Who.isCore w = true)) ∧ (¬(4096 ≤ v.toNat ∨ s.ringN ↑r ≤ v.toNat ∨ ((fun (f : Fld) => s.getF CMD_RING_PTR [↑r] f) CMD_RING_PTR.CTAIL + s.ringN ↑r - (fun (f : Fld) => s.getF CMD_RING_PTR [↑r] f) CMD_RING_PTR.CHEAD) % s.ringN ↑r < (v.toNat + s.ringN ↑r - (fun (f : Fld) => s.getF CMD_RING_PTR [↑r] f) CMD_RING_PTR.CHEAD) % s.ringN ↑r))) ∧
    (∃ (w : Who) (bar2 : Bool) (r : Fin 16) (v : BitVec 32) (s : State), s.wf ∧ (s.ringOn ↑r = true ∧ (bar2 = true → s.ringLoc ↑r = false) ∧ (bar2 = false → s.ringLoc ↑r = true ∨ Who.isCore w = true)) ∧ (4096 ≤ v.toNat ∨ s.ringN ↑r ≤ v.toNat ∨ ((fun (f : Fld) => s.getF CMD_RING_PTR [↑r] f) CMD_RING_PTR.CTAIL + s.ringN ↑r - (fun (f : Fld) => s.getF CMD_RING_PTR [↑r] f) CMD_RING_PTR.CHEAD) % s.ringN ↑r < (v.toNat + s.ringN ↑r - (fun (f : Fld) => s.getF CMD_RING_PTR [↑r] f) CMD_RING_PTR.CHEAD) % s.ringN ↑r)) ∧
    (∃ (slot : List Byte) (ok : Bool) (fresh : Bool) (r : Nat) (s : State), s.wf ∧ (64 ≤ s.getF CMD_IF_STATUS [] CMD_IF_STATUS.INFLIGHT ∨ s.nextRing = none)) ∧
    (∃ (slot : List Byte) (ok : Bool) (fresh : Bool) (r : Nat) (s : State), s.wf ∧ (64 ≤ s.getF CMD_IF_STATUS [] CMD_IF_STATUS.INFLIGHT ∨ s.nextRing = none)) ∧
    (∃ (slot : List Byte) (ok : Bool) (fresh : Bool) (r : Nat) (s : State), s.wf ∧ (¬64 ≤ s.getF CMD_IF_STATUS [] CMD_IF_STATUS.INFLIGHT) ∧ s.nextRing = some (r, fresh) ∧ s.ringLoc r = false ∧ ok = true) ∧
    (∃ (slot : List Byte) (ok : Bool) (fresh : Bool) (r : Nat) (s : State), s.wf ∧ (¬64 ≤ s.getF CMD_IF_STATUS [] CMD_IF_STATUS.INFLIGHT) ∧ s.nextRing = some (r, fresh) ∧ s.ringLoc r = true) ∧
    (∃ (slot : List Byte) (ok : Bool) (fresh : Bool) (r : Nat) (s : State), s.wf ∧ (¬64 ≤ s.getF CMD_IF_STATUS [] CMD_IF_STATUS.INFLIGHT) ∧ s.nextRing = some (r, fresh) ∧ s.ringLoc r = false ∧ ok = false) ∧
    (∃ (slot : List Byte) (ok : Bool) (fresh : Bool) (r : Nat) (s : State), s.wf ∧ s.nextRing = some (r, fresh) ∧ (∃ (q : Nat), q < 16 ∧ s.canFetch q = true ∧ ¬q ∈ s.front.round)) ∧
    (∃ (r : Fin 16) (s : State), tok 0 s.front.counted = true ∧ s.getF CMD_RING_CFG [↑r] CMD_RING_CFG.COAL_US ≠ 0 ∧ tget 0 s.front.counted ↑r ≠ 0) ∧
    (∃ (r : Fin 16) (s : State), tok 0 s.front.counted = true ∧ (s.getF CMD_RING_CFG [↑r] CMD_RING_CFG.COAL_US = 0 ∨ tget 0 s.front.counted ↑r = 0)) ∧
    (∃ (k : Fin 4) (s : State), s.wf) ∧
    (∃ (cxl : Bool) (width : Fin 3) (rate : Fin 5) (s : State), s.wf ∧ s.front.linkMayTrain = true ∧ s.boundaryScan = false ∧ s.bit CMD_IF_STATUS [] CMD_IF_STATUS.LINK_UP = false ∧ (cxl = true → 2 ≤ ↑rate)) ∧
    (∃ (cxl : Bool) (width : Fin 3) (rate : Fin 5) (s : State), s.wf ∧ (s.front.linkMayTrain = false ∨ cxl = true ∧ ↑rate < 2)) ∧
    (∃ (bme : Bool) (mps : Fin 3) (mrrs : Fin 6) (s : State), s.wf) ∧
    (∃ (bme : Bool) (mps : Fin 3) (mrrs : Fin 6) (s : State), s.wf) ∧
    (∃ (r : Fin 16) (s : State), tok 0 s.front.counted = true ∧ s.getF CMD_RING_CFG [↑r] CMD_RING_CFG.COAL_US ≠ 0 ∧ tget 0 s.front.counted ↑r ≠ 0) ∧
    (∃ (bme : Bool) (mps : Fin 3) (mrrs : Fin 6) (s : State), s.wf) :=
  ⟨⟨.host, 15, 0x0000_0131, up, by unfold State.wf; decide +kernel⟩,
   ⟨.host, 0, 0xFF00_0013, up, by unfold State.wf; decide +kernel⟩,
   ⟨.host, 0, 0x35, up, by unfold State.wf; decide +kernel⟩,
   ⟨.host, 0, 0x0D, up, by unfold State.wf; decide +kernel⟩,
   ⟨.host, 0, 0, (ring 0 0 0 0 0).setF CMD_RING_STATUS [0] CMD_RING_STATUS.ERROR 1, by unfold State.wf; decide +kernel⟩,
   ⟨.host, 15, 0, (ring 15 0 0 0 0).setF CMD_RING_STATUS [15] CMD_RING_STATUS.INFLIGHT 1, by unfold State.wf; decide +kernel⟩,
   ⟨.host, false, 0, 1, ring 0 0 0 0 0, by unfold State.wf; decide +kernel⟩,
   ⟨.host, true, 0, 15, ring 0 14 0 0 0, by unfold State.wf; decide +kernel⟩,
   ⟨.host, true, 0, 16, ring 0 14 0 0 0, by unfold State.wf; decide +kernel⟩,
   ⟨.host, true, 0, 13, (ring 0 14 0 0 0).setF CMD_RING_STATUS [0] CMD_RING_STATUS.ERROR 1, by unfold State.wf; decide +kernel⟩,
   ⟨.host, true, 15, 3, ring 15 0 0 3 14, by unfold State.wf; decide +kernel⟩,
   ⟨.host, true, 15, 4, ring 15 0 0 3 14, by unfold State.wf; decide +kernel⟩,
   ⟨[], true, true, 0, mastered (ring 0 1 1 0 0), by unfold State.wf; decide +kernel⟩,
   ⟨[], true, true, 0, (mastered (ring 0 1 0 0 0)).setF CMD_IF_STATUS [] CMD_IF_STATUS.INFLIGHT 64, by unfold State.wf; decide +kernel⟩,
   ⟨(cmd 0x0101).slot, true, false, 15, (mastered (ring 15 0 15 0 0)).setF CMD_IF_STATUS [] CMD_IF_STATUS.INFLIGHT 63, by unfold State.wf; decide +kernel⟩,
   ⟨[], true, false, 8, (((ring 8 1 0 0 0).setF CMD_RING_BASE [8] CMD_RING_BASE.LOC 1).setF CMD_RING_BASE [8] CMD_RING_BASE.BASE 0xA_0000), by unfold State.wf; decide +kernel⟩,
   ⟨[], false, true, 0, { mastered (ring 0 1 0 0 0) with front := { round := [0] } }, by unfold State.wf; decide +kernel⟩,
   ⟨[], true, false, 1, { mastered (ring 1 1 0 0 0 (ring 0 1 0 0 0)) with front := { round := [0] } }, by unfold State.wf; decide +kernel⟩,
   ⟨0, { up.setF CMD_RING_CFG [0] CMD_RING_CFG.COAL_US 1 with front := { counted := [(0, 3)] } }, by decide +kernel⟩,
   ⟨0, { up with front := { counted := [(0, 3)] } }, by decide +kernel⟩,
   ⟨0, inFlight (cmd 0x0101), by unfold State.wf; decide +kernel⟩,
   ⟨true, 2, 2, { up with front := { linkMayTrain := true }, tap := { ir := 0x1F } }, by unfold State.wf; decide +kernel⟩,
   ⟨true, 2, 1, up, by unfold State.wf; decide +kernel⟩,
   ⟨true, 2, 5, { up with front := { cplHeld := [(0x40, [1])], msixHeld := [17] } }, by unfold State.wf; decide +kernel⟩,
   ⟨false, 0, 0, mastered up, by unfold State.wf; decide +kernel⟩,
   ⟨15, { (mastered up).setF CMD_RING_CFG [15] CMD_RING_CFG.COAL_US 1 |>.setReg MSIX_CTRL [15] 0 with front := { counted := [(15, 3)] } }, by decide +kernel⟩,
   ⟨true, 0, 0, { up.setReg MSIX_CTRL [17] 0 with front := { cplHeld := [(0x40, [1])], msixHeld := [17, 3] } }, by unfold State.wf; decide +kernel⟩⟩

theorem witness_HostCommands :
    (∃ (c : Cmd) (st : Nat) (res : List Byte) (hd : Nat) (s : State), s.wf ∧ c.via = Via.H ∧ (¬c ∈ s.front.discard) ∧ (List.find? (fun (x : Cmd × Nat) => x.fst == c) s.front.inflight = some (c, hd)) ∧ s.bit CMD_IF_STATUS [] CMD_IF_STATUS.BME = true) ∧
    (∃ (c : Cmd) (st : Nat) (res : List Byte) (hd : Nat) (s : State), s.wf ∧ c.via = Via.H ∧ (¬c ∈ s.front.discard) ∧ (List.find? (fun (x : Cmd × Nat) => x.fst == c) s.front.inflight = some (c, hd)) ∧ s.bit CMD_IF_STATUS [] CMD_IF_STATUS.BME = false) ∧
    (∃ (s : State) (c : Cmd), c.inlineLen = 0 ∧ s.Accepts c 257 ∧ c.parZero 0 16 = true) ∧
    (∃ (s : State) (c : Cmd), c.inlineLen = 0 ∧ s.Accepts c 258 ∧ c.parZero 1 15 = true ∧ c.par 0 1 = 0) ∧
    (∃ (s : State) (c : Cmd), c.inlineLen = 0 ∧ s.Accepts c 258 ∧ c.parZero 1 15 = true ∧ c.par 0 1 = 1) ∧
    (∃ (s : State) (c : Cmd), c.inlineLen = 0 ∧ s.Accepts c 258 ∧ c.parZero 1 15 = true ∧ 2 < c.par 0 1) ∧
    (∃ (s : State) (c : Cmd) (ecc : Ecc) (off : Nat) (n : Nat), s.wf ∧ c.par 0 8 = off ∧ off < 2 ^ 48 ∧ s.Accepts c 515 ∧ s.cmdHeld c = false ∧ c.parZero 8 8 = true ∧ c.inlineLen = n ∧ n = 0) ∧
    (∃ (s : State) (c : Cmd) (ecc : Ecc) (off : Nat) (n : Nat), s.wf ∧ c.par 0 8 = off ∧ off < 2 ^ 48 ∧ s.Accepts c 515 ∧ s.cmdHeld c = false ∧ c.parZero 8 8 = true ∧ c.inlineLen = n ∧ n ≠ 0 ∧ s.stageRange off n = false) ∧
    (∃ (s : State) (c : Cmd) (ecc : Ecc) (off : Nat) (n : Nat) (st : Nat), s.wf ∧ c.par 0 8 = off ∧ off < 2 ^ 48 ∧ s.Accepts c 515 ∧ s.cmdHeld c = false ∧ c.parZero 8 8 = true ∧ c.inlineLen = n ∧ n ≠ 0 ∧ s.stageRange off n = true ∧ s.rangeAway off n = some st) ∧
    (∃ (s : State) (c : Cmd) (ecc : Ecc) (off : Nat) (n : Nat), s.wf ∧ c.par 0 8 = off ∧ off < 2 ^ 48 ∧ s.Accepts c 515 ∧ s.cmdHeld c = false ∧ c.parZero 8 8 = true ∧ c.inlineLen = n ∧ n ≠ 0 ∧ s.stageRange off n = true ∧ s.rangeAway off n = none ∧ off + n ≤ boardBase) ∧
    (∃ (s : State) (c : Cmd) (ecc : Ecc) (off : Nat) (n : Nat), s.wf ∧ c.par 0 8 = off ∧ off < 2 ^ 48 ∧ s.Accepts c 516 ∧ c.parZero 9 7 = true ∧ c.par 8 1 = n ∧ 1 ≤ n ∧ n ≤ 16 ∧ off % 32 + n ≤ 32 ∧ c.inlineLen = 0 ∧ s.stageRange off n = true ∧ s.rangeAway off n = none ∧ off < boardBase ∧ ecc = Ecc.clean) ∧
    (∃ (s : State) (c : Cmd) (ecc : Ecc) (off : Nat) (n : Nat) (i : Nat), s.wf ∧ c.par 0 8 = off ∧ off < 2 ^ 48 ∧ s.Accepts c 516 ∧ c.parZero 9 7 = true ∧ c.par 8 1 = n ∧ 1 ≤ n ∧ n ≤ 16 ∧ off % 32 + n ≤ 32 ∧ c.inlineLen = 0 ∧ s.stageRange off n = true ∧ s.rangeAway off n = none ∧ off < boardBase ∧ ecc = Ecc.bad i) ∧
    (∃ (s : State) (c : Cmd) (data : List Byte) (cut : Option StageCut) (st : Nat), s.wf ∧ s.Accepts c 513 ∧ s.cmdHeld c = false ∧ (s.waiters WaitFor.busMaster).contains c = false ∧ s.stageCheck c = some st) ∧
    (∃ (s : State) (c : Cmd) (data : List Byte) (cut : Option StageCut), s.wf ∧ s.Accepts c 513 ∧ s.cmdHeld c = false ∧ (s.waiters WaitFor.busMaster).contains c = false ∧ s.stageCheck c = none ∧ s.bit CMD_IF_STATUS [] CMD_IF_STATUS.BME = false) ∧
    (∃ (s : State) (c : Cmd) (data : List Byte) (cut : Option StageCut), s.wf ∧ s.Accepts c 513 ∧ s.cmdHeld c = false ∧ (s.waiters WaitFor.busMaster).contains c = false ∧ s.stageCheck c = none ∧ s.bit CMD_IF_STATUS [] CMD_IF_STATUS.BME = true ∧ c.par 0 8 + stageLen c ≤ boardBase ∧ cut = none) ∧
    (∃ (s : State) (c : Cmd) (data : List Byte) (cut : Option StageCut) (b : Nat), s.wf ∧ s.Accepts c 513 ∧ s.cmdHeld c = false ∧ (s.waiters WaitFor.busMaster).contains c = false ∧ s.stageCheck c = none ∧ s.bit CMD_IF_STATUS [] CMD_IF_STATUS.BME = true ∧ c.par 0 8 + stageLen c ≤ boardBase ∧ cut = some (StageCut.hostRead b) ∧ 512 * b < stageLen c) ∧
    (∃ (s : State) (c : Cmd), s.Accepts c 514 ∧ (s.waiters WaitFor.busMaster).contains c = false ∧ s.stageCheck c = none ∧ s.bit CMD_IF_STATUS [] CMD_IF_STATUS.BME = false) ∧
    (∃ (s : State) (c : Cmd), s.Accepts c 514 ∧ (s.waiters WaitFor.busMaster).contains c = false ∧ s.stageCheck c = none ∧ s.bit CMD_IF_STATUS [] CMD_IF_STATUS.BME = true) ∧
    (∃ (p : Fin 256) (k : Fin 4) (cycles : Nat) (a : Nat) (bs : List Byte) (s : State), s.wf ∧ tok { : Section } s.sects = true ∧ s.pressUp ↑p = false) ∧
    (∃ (p : Fin 256) (k : Fin 4) (cycles : Nat) (a : Nat) (bs : List Byte) (s : State), s.wf ∧ tok { : Section } s.sects = true ∧ s.pressUp ↑p = true ∧ (s.sect ↑p ↑k).pendW = [(a, bs)] ∧ (∀ (j : Fin 4), j ≠ k → (s.sect ↑p ↑j).pendW = []) ∧ (s.prs ↑p).heldWrites = [] ∧ (∀ (q : Nat), q < 8 → s.queue (↑p) q = []) ∧ s.waiters WaitFor.cadenceDrain = [] ∧ (∀ (f : Flight), f ∈ s.score.flights → f.accepted = false) ∧ bs.length ≤ 512 ∧ s.heldRange (↑p) a bs.length = false) ∧
    (∃ (p : Fin 256) (k : Fin 4) (cycles : Nat) (a : Nat) (bs : List Byte) (s : State), s.wf ∧ tok { : Section } s.sects = true ∧ s.pressUp ↑p = true ∧ (s.sect ↑p ↑k).pendW = [(a, bs)] ∧ (∀ (j : Fin 4), j ≠ k → (s.sect ↑p ↑j).pendW = []) ∧ (s.prs ↑p).heldWrites = [] ∧ (∀ (q : Nat), q < 8 → s.queue (↑p) q = []) ∧ s.waiters WaitFor.cadenceDrain = [] ∧ (∀ (f : Flight), f ∈ s.score.flights → f.accepted = false) ∧ s.heldRange (↑p) a bs.length = true) :=
  ⟨⟨cmd 0x0101, 0, [1], 1, mastered (inFlight (cmd 0x0101)), by unfold State.wf; decide +kernel⟩,
   ⟨cmd 0x0101, 0x16, [], 1, inFlight (cmd 0x0101), by unfold State.wf; decide +kernel⟩,
   ⟨up, cmd 0x0101, by unfold State.Accepts; decide +kernel⟩,
   ⟨up, cmd 0x0102, by unfold State.Accepts; decide +kernel⟩,
   ⟨up, cmd 0x0102 [1], by unfold State.Accepts; decide +kernel⟩,
   ⟨up, cmd 0x0102 [3], by unfold State.Accepts; decide +kernel⟩,
   ⟨fitted8, cmd 0x0203 (leBytes 8 0x10000), .clean, 0x10000, 0, by unfold State.wf State.Accepts; decide +kernel⟩,
   ⟨fitted8, cmd 0x0203 (leBytes 8 0xA_0000_0000) 0xF [1], .clean, 0xA_0000_0000, 1, by unfold State.wf State.Accepts; decide +kernel⟩,
   ⟨up, cmd 0x0203 (leBytes 8 0x10000) 0xF [1], .clean, 0x10000, 1, stUnitInReset, by unfold State.wf State.Accepts; decide +kernel⟩,
   ⟨fitted8, cmd 0x0203 (leBytes 8 0x10001) 0xF (List.replicate 224 0xA5), .clean, 0x10001, 224, by unfold State.wf State.Accepts; decide +kernel⟩,
   ⟨{ fitted8 with mem := [(0x1_001F, 9)] }, cmd 0x0204 (leBytes 8 0x10010 ++ [16]), .clean, 0x10010, 16, by unfold State.wf State.Accepts; decide +kernel⟩,
   ⟨fitted8, cmd 0x0204 (leBytes 8 0x1001F ++ [1]), .bad 0, 0x1001F, 1, 0, by unfold State.wf State.Accepts; decide +kernel⟩,
   ⟨fitted8, stage 0x0201 0x10000 513, [], none, stBadParam, by unfold State.wf State.Accepts; decide +kernel⟩,
   ⟨fitted8, stage 0x0201 0x10000 512, [], none, by unfold State.wf State.Accepts; decide +kernel⟩,
   ⟨mastered fitted8, stage 0x0201 0x10000 512, List.replicate 512 0x7E, none, by unfold State.wf State.Accepts; decide +kernel⟩,
   ⟨mastered fitted8, stage 0x0201 0x10000 1024, List.replicate 1024 0x7E, some (.hostRead 1), 1, by unfold State.wf State.Accepts; decide +kernel⟩,
   ⟨fitted8, stage 0x0202 0x10000 512, by unfold State.Accepts; decide +kernel⟩,
   ⟨{ mastered fitted8 with mem := [(0x1_0000, 9)] }, stage 0x0202 0x10000 512, by unfold State.Accepts; decide +kernel⟩,
   ⟨255, 3, 9, 64, pay1, waiting (up.setReg RST_DIE [] 0x80), by unfold State.wf; decide +kernel⟩,
   ⟨255, 3, 9, 64, pay1, waiting, by unfold State.wf; decide +kernel⟩,
   ⟨255, 3, 9, 64, pay1, waiting (holding 255 0), by unfold State.wf; decide +kernel⟩⟩

theorem witness_EthernetPorts :
    (∃ (p : Fin 2) (s : State), s.EthWf ∧ s.dieUp 11 = true ∧ s.boundaryScan = false ∧ s.bit ETH_PORT_STATUS [↑p] ETH_PORT_STATUS.LINK_UP = false ∧ s.getF ETH_PORT_STATUS [↑p] ETH_PORT_STATUS.SPEED ≠ 0) ∧
    (∃ (p : Fin 2) (s : State), s.EthWf ∧ (¬(s.dieUp 11 = true ∧ s.boundaryScan = false ∧ s.bit ETH_PORT_STATUS [↑p] ETH_PORT_STATUS.LINK_UP = false ∧ s.getF ETH_PORT_STATUS [↑p] ETH_PORT_STATUS.SPEED ≠ 0))) ∧
    (∃ (p : Fin 2) (s : State), s.EthWf ∧ s.ethUp ↑p = true) ∧
    (∃ (p : Fin 2) (s : State), s.EthWf ∧ s.ethUp ↑p = false) ∧
    (∃ (p : Fin 2) (q : Fin 8) (s : State), s.EthWf ∧ ((fun (t : State) (k : Nat) => t.getF ETH_PAUSE_TIMER [↑p, k] ETH_PAUSE_TIMER.QUANTA) s ↑q ≠ 0)) ∧
    (∃ (p : Fin 2) (q : Fin 8) (s : State), s.EthWf ∧ ((fun (t : State) (k : Nat) => t.getF ETH_PAUSE_TIMER [↑p, k] ETH_PAUSE_TIMER.QUANTA) s ↑q = 0)) ∧
    (∃ (p : Fin 2) (q : Fin 8) (s : State) (bs : List Byte) (rest : List (List Byte)), s.EthWf ∧ (s.ethPort ↑p).ctlIn = bs :: rest ∧ s.ethFc ↑p = 1) ∧
    (∃ (p : Fin 2) (q : Fin 8) (s : State) (bs : List Byte) (rest : List (List Byte)), s.EthWf ∧ (s.ethPort ↑p).ctlIn = bs :: rest ∧ s.ethFc ↑p = 2) ∧
    (∃ (p : Fin 2) (q : Fin 8) (s : State) (bs : List Byte) (rest : List (List Byte)), s.EthWf ∧ (s.ethPort ↑p).ctlIn = bs :: rest ∧ s.ethFc ↑p = 2) ∧
    (∃ (p : Fin 2) (q : Fin 8) (s : State), s.EthWf ∧ (s.ethPort ↑p).ctlIn = []) ∧
    (∃ (p : Fin 2) (q : Fin 8) (s : State), s.EthWf ∧ s.ethUp ↑p = true ∧ (s.getF ETH_PORT_STATUS [↑p] ETH_PORT_STATUS.XOFF).testBit ↑q = true ∧ s.getF NTC_MARKS [16 + (8 * ↑p + ↑q)] NTC_MARKS.HIGH ≤ s.ethFill (8 * ↑p + ↑q)) ∧
    (∃ (p : Fin 2) (q : Fin 8) (s : State), s.EthWf ∧ (¬(s.ethUp ↑p = true ∧ (s.getF ETH_PORT_STATUS [↑p] ETH_PORT_STATUS.XOFF).testBit ↑q = true ∧ s.getF NTC_MARKS [16 + (8 * ↑p + ↑q)] NTC_MARKS.HIGH ≤ s.ethFill (8 * ↑p + ↑q)))) ∧
    (∃ (p : Fin 2) (f : EthFrame) (s : State), s.EthWf ∧ s.ethUp ↑p = false) ∧
    (∃ (p : Fin 2) (f : EthFrame) (s : State), s.EthWf ∧ s.ethUp ↑p = true ∧ ethType f.bytes = 34824 ∧ ethTagged f.bytes = false ∧ ((slice f.bytes 0 6 = [1, 128, 194, 0, 0, 1] ∨ slice f.bytes 0 6 = (s.ethPort ↑p).mac) ∧ f.size = 64 ∧ f.fcsOk = true ∧ (s.ethFc ↑p = 1 ∧ beAt f.bytes 14 2 = 1 ∨ s.ethFc ↑p = 2 ∧ beAt f.bytes 14 2 = 257))) ∧
    (∃ (p : Fin 2) (f : EthFrame) (s : State), s.EthWf ∧ s.ethUp ↑p = true ∧ ethType f.bytes = 34824 ∧ ethTagged f.bytes = false ∧ (¬((slice f.bytes 0 6 = [1, 128, 194, 0, 0, 1] ∨ slice f.bytes 0 6 = (s.ethPort ↑p).mac) ∧ f.size = 64 ∧ f.fcsOk = true ∧ (s.ethFc ↑p = 1 ∧ beAt f.bytes 14 2 = 1 ∨ s.ethFc ↑p = 2 ∧ beAt f.bytes 14 2 = 257)))) ∧
    (∃ (p : Fin 2) (f : EthFrame) (s : State), s.EthWf ∧ s.ethUp ↑p = true ∧ ethType f.bytes ≠ 34824 ∧ (¬s.EthData (↑p) f)) ∧
    (∃ (p : Fin 2) (f : EthFrame) (s : State), s.EthWf ∧ s.EthData (↑p) f ∧ f.sec = none ∧ s.bit ETH_PORT_STATUS [↑p] ETH_PORT_STATUS.MACSEC_REQ = true) ∧
    (∃ (p : Fin 2) (f : EthFrame) (s : State) (g : SecTag), s.EthWf ∧ s.EthData (↑p) f ∧ f.sec = some g ∧ (∀ (sc : Nat), sc < 8 → tget 0 (s.ethPort ↑p).rxSci sc = g.sci → tget none (s.ethPort ↑p).rxSa (4 * sc + ↑g.an) = none)) ∧
    (∃ (p : Fin 2) (f : EthFrame) (s : State) (g : SecTag) (sc : Nat) (a : Sa), s.EthWf ∧ s.EthData (↑p) f ∧ f.sec = some g ∧ sc < 8 ∧ tget 0 (s.ethPort ↑p).rxSci sc = g.sci ∧ (∀ (k : Nat), k < sc → tget 0 (s.ethPort ↑p).rxSci k ≠ g.sci) ∧ tget none (s.ethPort ↑p).rxSa (4 * sc + ↑g.an) = some a ∧ g.icvOk = true ∧ g.pn < a.pn) ∧
    (∃ (p : Fin 2) (f : EthFrame) (s : State), s.EthWf ∧ s.EthData (↑p) f ∧ f.sec = none ∧ s.bit ETH_PORT_STATUS [↑p] ETH_PORT_STATUS.MACSEC_REQ = false ∧ (¬(s.ethPort ↑p).held + f.size ≤ 2097152)) ∧
    (∃ (p : Fin 2) (f : EthFrame) (s : State), s.EthWf ∧ s.EthData (↑p) f ∧ f.sec = none ∧ s.bit ETH_PORT_STATUS [↑p] ETH_PORT_STATUS.MACSEC_REQ = false ∧ (s.ethPort ↑p).held + f.size ≤ 2097152 ∧ s.steer (↑p) f.bytes = none) ∧
    (∃ (p : Fin 2) (f : EthFrame) (s : State) (d : RxFor) (bs : List Byte), s.EthWf ∧ s.EthData (↑p) f ∧ f.sec = none ∧ s.bit ETH_PORT_STATUS [↑p] ETH_PORT_STATUS.MACSEC_REQ = false ∧ (s.ethPort ↑p).held + f.size ≤ 2097152 ∧ s.steer (↑p) f.bytes = some (d, bs)) ∧
    (∃ (p : Fin 2) (f : EthFrame) (s : State) (q : Nat), s.EthWf ∧ udpOf f.bytes = none) ∧
    (∃ (p : Fin 2) (ecc : Ecc) (s : State), s.EthWf ∧ s.ethUp ↑p = false) ∧
    (∃ (p : Fin 2) (ecc : Ecc) (s : State), s.EthWf ∧ s.ethUp ↑p = true ∧ (s.ethPort ↑p).xoffDue ||| (s.ethPort ↑p).xonDue ≠ 0 ∧ s.ethFc ↑p = 1) ∧
    (∃ (p : Fin 2) (ecc : Ecc) (s : State), s.EthWf ∧ s.ethUp ↑p = true ∧ (s.ethPort ↑p).xoffDue ||| (s.ethPort ↑p).xonDue ≠ 0 ∧ s.ethFc ↑p = 2) ∧
    (∃ (p : Fin 2) (ecc : Ecc) (s : State), s.EthWf ∧ s.ethUp ↑p = true ∧ (s.ethPort ↑p).xoffDue ||| (s.ethPort ↑p).xonDue = 0 ∧ (s.ethMaySend ↑p = false ∨ s.txPick ↑p = none)) ∧
    (∃ (p : Fin 2) (ecc : Ecc) (s : State), s.EthWf ∧ s.ethUp ↑p = true ∧ (s.ethPort ↑p).xoffDue ||| (s.ethPort ↑p).xonDue = 0 ∧ (s.ethMaySend ↑p = false ∨ s.txPick ↑p = none)) ∧
    (∃ (p : Fin 2) (ecc : Ecc) (s : State) (q : Nat) (r : Nat), s.EthWf ∧ s.txPick ↑p = some q ∧ r ∈ portQueues ↑p ∧ s.txReady r = true) ∧
    (∃ (p : Fin 2) (ecc : Ecc) (s : State) (q : Nat) (j : EthJob), s.EthWf ∧ s.ethUp ↑p = true ∧ (s.ethPort ↑p).xoffDue ||| (s.ethPort ↑p).xonDue = 0 ∧ s.ethMaySend ↑p = true ∧ s.txPick ↑p = some q ∧ s.getF ETH_QSTATUS [q] ETH_QSTATUS.KIND = 1 ∧ (s.ethQueue q).rawJob = some j ∧ (∀ (y : EthJob), y ∈ (s.ethQueue q).jobs → y.seq = j.seq → y = j) ∧ s.activeSa ↑p = none) ∧
    (∃ (p : Fin 2) (ecc : Ecc) (s : State) (q : Nat) (j : EthJob) (a : Sa), s.EthWf ∧ s.ethUp ↑p = true ∧ (s.ethPort ↑p).xoffDue ||| (s.ethPort ↑p).xonDue = 0 ∧ s.ethMaySend ↑p = true ∧ s.txPick ↑p = some q ∧ s.getF ETH_QSTATUS [q] ETH_QSTATUS.KIND = 1 ∧ (s.ethQueue q).rawJob = some j ∧ (∀ (y : EthJob), y ∈ (s.ethQueue q).jobs → y.seq = j.seq → y = j) ∧ s.activeSa ↑p = some a ∧ tok none (s.ethPort ↑p).txSa = true ∧ a.pn + 1 < 2 ^ 64) :=
  ⟨⟨1, up.setF ETH_PORT_STATUS [1] ETH_PORT_STATUS.SPEED 3, by unfold State.EthWf State.wf; decide +kernel⟩,
   ⟨1, up, by unfold State.EthWf State.wf; decide +kernel⟩,
   ⟨0, port 2 { xoffDue := 3 }, by unfold State.EthWf State.wf; decide +kernel⟩,
   ⟨1, port 2 {}, by unfold State.EthWf State.wf; decide +kernel⟩,
   ⟨0, 7, (up.setF ETH_PAUSE_TIMER [0, 7] ETH_PAUSE_TIMER.QUANTA 1).setF ETH_PORT_STATUS [0] ETH_PORT_STATUS.PAUSED 0xFF, by unfold State.EthWf State.wf; decide +kernel⟩,
   ⟨1, 0, up, by unfold State.EthWf State.wf; decide +kernel⟩,
   ⟨0, 0, port 1 { ctlIn := [control 1 [0xFF, 0xFF], []] }, control 1 [0xFF, 0xFF], [[]], by unfold State.EthWf State.wf; decide +kernel⟩,
   ⟨0, 7, port 2 { enable := 0x80, ctlIn := [control 0x101 ([0, 0x81] ++ List.replicate 15 0 ++ [9])] }, control 0x101 ([0, 0x81] ++ List.replicate 15 0 ++ [9]), [], by unfold State.EthWf State.wf; decide +kernel⟩,
   ⟨0, 0, port 2 { enable := 0x80, ctlIn := [control 0x101 ([0, 0x81] ++ List.replicate 15 0 ++ [9])] }, control 0x101 ([0, 0x81] ++ List.replicate 15 0 ++ [9]), [], by unfold State.EthWf State.wf; decide +kernel⟩,
   ⟨0, 0, up, by unfold State.EthWf State.wf; decide +kernel⟩,
   ⟨0, 7, ((port 2 { enable := 0x80, xonDue := 0x80 }).setF ETH_PORT_STATUS [0] ETH_PORT_STATUS.XOFF 0x80).setF NTC_MARKS [23] NTC_MARKS.HIGH 0, by unfold State.EthWf State.wf; decide +kernel⟩,
   ⟨0, 7, (port 2 { enable := 0x80 }).setF ETH_PORT_STATUS [0] ETH_PORT_STATUS.XOFF 0x80, by unfold State.EthWf State.wf; decide +kernel⟩,
   ⟨0, frame, up, by unfold State.EthWf State.wf; decide +kernel⟩,
   ⟨0, ⟨64, true, none, control 0x101 []⟩, port 2 {}, by unfold State.EthWf State.wf; decide +kernel⟩,
   ⟨0, ⟨64, true, none, control 0x101 []⟩, port 1 {}, by unfold State.EthWf State.wf; decide +kernel⟩,
   ⟨0, frame none false, port 0 {}, by unfold State.EthWf State.wf State.EthData; decide +kernel⟩,
   ⟨0, frame, (port 0 {}).setBit ETH_PORT_STATUS [0] ETH_PORT_STATUS.MACSEC_REQ, by unfold State.EthWf State.wf State.EthData; decide +kernel⟩,
   ⟨0, frame (some ⟨9, 3, 1, true⟩), port 0 {}, ⟨9, 3, 1, true⟩, by unfold State.EthWf State.wf State.EthData; decide +kernel⟩,
   ⟨0, frame (some ⟨9, 3, 4, true⟩), port 0 { rxSa := [(31, some (sa 5))], rxSci := [(7, 9)] }, ⟨9, 3, 4, true⟩, 7, sa 5, by unfold State.EthWf State.wf State.EthData; decide +kernel⟩,
   ⟨0, frame, port 0 { rx := [⟨0, 0x001F_FFC1, .raw 0, []⟩] }, by unfold State.EthWf State.wf State.EthData; decide +kernel⟩,
   ⟨0, frame, port 0 { rx := [⟨0, 0x001F_FFC0, .raw 0, []⟩] }, by unfold State.EthWf State.wf State.EthData; decide +kernel⟩,
   ⟨0, frame, port 0 {} (queue 3 0 {}), .raw 0, frame.bytes, by unfold State.EthWf State.wf State.EthData; decide +kernel⟩,
   ⟨0, frame, port 0 {} (queue 3 0 {}), 0, by unfold State.EthWf State.wf; decide +kernel⟩,
   ⟨0, .clean, up, by unfold State.EthWf State.wf; decide +kernel⟩,
   ⟨0, .clean, port 1 { xoffDue := 1 }, by unfold State.EthWf State.wf; decide +kernel⟩,
   ⟨0, .clean, port 2 { xoffDue := 0x80, xonDue := 1 }, by unfold State.EthWf State.wf; decide +kernel⟩,
   ⟨0, .clean, port 2 {}, by unfold State.EthWf State.wf; decide +kernel⟩,
   ⟨0, .clean, (port 2 {} (queue 1 1 { jobs := [job 0 60 (some pay1)] })).setBit ETH_PORT_STATUS [0] ETH_PORT_STATUS.MACSEC_REQ, by unfold State.EthWf State.wf; decide +kernel⟩,
   ⟨0, .clean, port 0 {} (queue 1 1 { jobs := [job 0 64 (some pay1)] }), 0, 0, by unfold State.EthWf State.wf; decide +kernel⟩,
   ⟨0, .clean, port 0 { turn := 15 } (queue 1 1 { jobs := [job 0 64 (some pay1)] }), 0, job 0 64 (some pay1), by unfold State.EthWf State.wf; decide +kernel⟩,
   ⟨0, .clean, port 0 { txOn := true, txSa := [(0, some (sa (2 ^ 64 - 2 ^ 40 - 1)))] } (queue 1 1 { jobs := [job 0 64 (some pay1)] }), 0, job 0 64 (some pay1), sa (2 ^ 64 - 2 ^ 40 - 1), by unfold State.EthWf State.wf; decide +kernel⟩⟩

theorem witness_EthernetQueues :
    (∃ (q : Fin 32) (v : BitVec 32) (s : State), s.wf ∧ (s.ethQueue ↑q).log2n ≤ 12 ∧ s.regGone ETH_QDB [↑q] = false ∧ s.bit ETH_QSTATUS [↑q] ETH_QSTATUS.ENABLED = true) ∧
    (∃ (q : Fin 32) (v : BitVec 32) (s : State), s.wf ∧ (s.ethQueue ↑q).log2n ≤ 12 ∧ s.regGone ETH_QDB [↑q] = false ∧ s.bit ETH_QSTATUS [↑q] ETH_QSTATUS.ENABLED = true) ∧
    (∃ (q : Fin 32) (v : BitVec 32) (s : State), s.wf ∧ (s.ethQueue ↑q).log2n ≤ 12 ∧ s.regGone ETH_QDB [↑q] = false ∧ s.regGone ETH_QCPL [↑q] = false ∧ s.bit ETH_QSTATUS [↑q] ETH_QSTATUS.ENABLED = false) ∧
    (∃ (q : Fin 32) (v : BitVec 32) (s : State), s.wf ∧ (s.ethQueue ↑q).log2n ≤ 12 ∧ s.regGone ETH_QCPL [↑q] = false ∧ s.bit ETH_QSTATUS [↑q] ETH_QSTATUS.ENABLED = true ∧ (¬(2 ^ (s.ethQueue ↑q).log2n ≤ v.toNat ∨ (s.getF ETH_QSTATUS [↑q] ETH_QSTATUS.CTAIL + 2 ^ (s.ethQueue ↑q).log2n - s.getF ETH_QSTATUS [↑q] ETH_QSTATUS.CHEAD) % 2 ^ (s.ethQueue ↑q).log2n < (v.toNat + 2 ^ (s.ethQueue ↑q).log2n - s.getF ETH_QSTATUS [↑q] ETH_QSTATUS.CHEAD) % 2 ^ (s.ethQueue ↑q).log2n))) ∧
    (∃ (q : Fin 32) (v : BitVec 32) (s : State), s.wf ∧ (s.ethQueue ↑q).log2n ≤ 12 ∧ s.regGone ETH_QCPL [↑q] = false ∧ s.bit ETH_QSTATUS [↑q] ETH_QSTATUS.ENABLED = true ∧ (2 ^ (s.ethQueue ↑q).log2n ≤ v.toNat ∨ (s.getF ETH_QSTATUS [↑q] ETH_QSTATUS.CTAIL + 2 ^ (s.ethQueue ↑q).log2n - s.getF ETH_QSTATUS [↑q] ETH_QSTATUS.CHEAD) % 2 ^ (s.ethQueue ↑q).log2n < (v.toNat + 2 ^ (s.ethQueue ↑q).log2n - s.getF ETH_QSTATUS [↑q] ETH_QSTATUS.CHEAD) % 2 ^ (s.ethQueue ↑q).log2n)) ∧
    (∃ (q : Fin 32) (v : BitVec 32) (s : State), s.wf ∧ (s.ethQueue ↑q).log2n ≤ 12 ∧ s.dieUp 11 = true ∧ s.bit ETH_QSTATUS [↑q] ETH_QSTATUS.ENABLED = true ∧ (s.ethQueue ↑q).poll = true ∧ s.rangeAway (s.ethQueue ↑q).tail 8 = none) ∧
    (∃ (q : Fin 32) (v : BitVec 32) (s : State), s.wf ∧ (s.ethQueue ↑q).log2n ≤ 12 ∧ s.dieUp 11 = true ∧ s.bit ETH_QSTATUS [↑q] ETH_QSTATUS.ENABLED = true ∧ (s.ethQueue ↑q).poll = true) ∧
    (∃ (q : Fin 32) (ecc : Ecc) (late : Bool) (s : State), s.EthWf ∧ (s.getF ETH_QSTATUS [↑q] ETH_QSTATUS.TAIL = s.getF ETH_QSTATUS [↑q] ETH_QSTATUS.HEAD ∨ s.ethRoom ↑q = false ∨ s.bit ETH_QSTATUS [↑q] ETH_QSTATUS.ERROR = true ∨ s.dieUp 11 = false)) ∧
    (∃ (q : Fin 32) (ecc : Ecc) (late : Bool) (s : State), s.EthWf ∧ (s.Takes (↑q) 1 ∨ s.Takes (↑q) 2)) ∧
    (∃ (q : Fin 32) (ecc : Ecc) (late : Bool) (s : State), s.EthWf ∧ s.Takes (↑q) 1 ∧ s.rangeAway ((s.ethQueue ↑q).ring + 32 * s.getF ETH_QSTATUS [↑q] ETH_QSTATUS.HEAD) 32 = none ∧ (¬(s.dmaRange (leAt (s.readMem ((s.ethQueue ↑q).ring + 32 * s.getF ETH_QSTATUS [↑q] ETH_QSTATUS.HEAD) 32) 0 8) (leAt (s.readMem ((s.ethQueue ↑q).ring + 32 * s.getF ETH_QSTATUS [↑q] ETH_QSTATUS.HEAD) 32) 8 4) = true ∧ leAt (s.readMem ((s.ethQueue ↑q).ring + 32 * s.getF ETH_QSTATUS [↑q] ETH_QSTATUS.HEAD) 32) 16 1 < 2 ∧ leAt (s.readMem ((s.ethQueue ↑q).ring + 32 * s.getF ETH_QSTATUS [↑q] ETH_QSTATUS.HEAD) 32) 17 15 = 0 ∧ 60 ≤ leAt (s.readMem ((s.ethQueue ↑q).ring + 32 * s.getF ETH_QSTATUS [↑q] ETH_QSTATUS.HEAD) 32) 8 4 ∧ leAt (s.readMem ((s.ethQueue ↑q).ring + 32 * s.getF ETH_QSTATUS [↑q] ETH_QSTATUS.HEAD) 32) 8 4 ≤ (s.ethPort (↑q / 16)).maxFrame - 4))) ∧
    (∃ (q : Fin 32) (ecc : Ecc) (late : Bool) (s : State), s.EthWf ∧ s.Takes (↑q) 1 ∧ s.rangeAway ((s.ethQueue ↑q).ring + 32 * s.getF ETH_QSTATUS [↑q] ETH_QSTATUS.HEAD) 32 = none ∧ s.dmaRange (leAt (s.readMem ((s.ethQueue ↑q).ring + 32 * s.getF ETH_QSTATUS [↑q] ETH_QSTATUS.HEAD) 32) 0 8) (leAt (s.readMem ((s.ethQueue ↑q).ring + 32 * s.getF ETH_QSTATUS [↑q] ETH_QSTATUS.HEAD) 32) 8 4) = true ∧ leAt (s.readMem ((s.ethQueue ↑q).ring + 32 * s.getF ETH_QSTATUS [↑q] ETH_QSTATUS.HEAD) 32) 16 1 < 2 ∧ leAt (s.readMem ((s.ethQueue ↑q).ring + 32 * s.getF ETH_QSTATUS [↑q] ETH_QSTATUS.HEAD) 32) 17 15 = 0 ∧ 60 ≤ leAt (s.readMem ((s.ethQueue ↑q).ring + 32 * s.getF ETH_QSTATUS [↑q] ETH_QSTATUS.HEAD) 32) 8 4 ∧ leAt (s.readMem ((s.ethQueue ↑q).ring + 32 * s.getF ETH_QSTATUS [↑q] ETH_QSTATUS.HEAD) 32) 8 4 ≤ (s.ethPort (↑q / 16)).maxFrame - 4 ∧ s.rangeAway (leAt (s.readMem ((s.ethQueue ↑q).ring + 32 * s.getF ETH_QSTATUS [↑q] ETH_QSTATUS.HEAD) 32) 0 8) (leAt (s.readMem ((s.ethQueue ↑q).ring + 32 * s.getF ETH_QSTATUS [↑q] ETH_QSTATUS.HEAD) 32) 8 4) = none ∧ (ecc = Ecc.clean ∨ boardBase ≤ leAt (s.readMem ((s.ethQueue ↑q).ring + 32 * s.getF ETH_QSTATUS [↑q] ETH_QSTATUS.HEAD) 32) 0 8)) ∧
    (∃ (q : Fin 32) (ecc : Ecc) (late : Bool) (s : State), s.EthWf ∧ s.Takes (↑q) 1 ∧ s.rangeAway ((s.ethQueue ↑q).ring + 32 * s.getF ETH_QSTATUS [↑q] ETH_QSTATUS.HEAD) 32 = none ∧ s.dmaRange (leAt (s.readMem ((s.ethQueue ↑q).ring + 32 * s.getF ETH_QSTATUS [↑q] ETH_QSTATUS.HEAD) 32) 0 8) (leAt (s.readMem ((s.ethQueue ↑q).ring + 32 * s.getF ETH_QSTATUS [↑q] ETH_QSTATUS.HEAD) 32) 8 4) = true ∧ leAt (s.readMem ((s.ethQueue ↑q).ring + 32 * s.getF ETH_QSTATUS [↑q] ETH_QSTATUS.HEAD) 32) 16 1 < 2 ∧ leAt (s.readMem ((s.ethQueue ↑q).ring + 32 * s.getF ETH_QSTATUS [↑q] ETH_QSTATUS.HEAD) 32) 17 15 = 0 ∧ 60 ≤ leAt (s.readMem ((s.ethQueue ↑q).ring + 32 * s.getF ETH_QSTATUS [↑q] ETH_QSTATUS.HEAD) 32) 8 4 ∧ leAt (s.readMem ((s.ethQueue ↑q).ring + 32 * s.getF ETH_QSTATUS [↑q] ETH_QSTATUS.HEAD) 32) 8 4 ≤ (s.ethPort (↑q / 16)).maxFrame - 4 ∧ (s.rangeAway (leAt (s.readMem ((s.ethQueue ↑q).ring + 32 * s.getF ETH_QSTATUS [↑q] ETH_QSTATUS.HEAD) 32) 0 8) (leAt (s.readMem ((s.ethQueue ↑q).ring + 32 * s.getF ETH_QSTATUS [↑q] ETH_QSTATUS.HEAD) 32) 8 4)).isSome = true) ∧
    (∃ (q : Fin 32) (ecc : Ecc) (late : Bool) (s : State), s.EthWf ∧ s.Takes (↑q) 2 ∧ s.rangeAway ((s.ethQueue ↑q).ring + 32 * s.getF ETH_QSTATUS [↑q] ETH_QSTATUS.HEAD) 32 = none ∧ s.dmaRange (leAt (s.readMem ((s.ethQueue ↑q).ring + 32 * s.getF ETH_QSTATUS [↑q] ETH_QSTATUS.HEAD) 32) 0 8) (leAt (s.readMem ((s.ethQueue ↑q).ring + 32 * s.getF ETH_QSTATUS [↑q] ETH_QSTATUS.HEAD) 32) 8 4) = true ∧ leAt (s.readMem ((s.ethQueue ↑q).ring + 32 * s.getF ETH_QSTATUS [↑q] ETH_QSTATUS.HEAD) 32) 16 1 < 2 ∧ leAt (s.readMem ((s.ethQueue ↑q).ring + 32 * s.getF ETH_QSTATUS [↑q] ETH_QSTATUS.HEAD) 32) 17 15 = 0 ∧ s.rangeAway (leAt (s.readMem ((s.ethQueue ↑q).ring + 32 * s.getF ETH_QSTATUS [↑q] ETH_QSTATUS.HEAD) 32) 0 8) (leAt (s.readMem ((s.ethQueue ↑q).ring + 32 * s.getF ETH_QSTATUS [↑q] ETH_QSTATUS.HEAD) 32) 8 4) = none ∧ 0 < ((s.ethPort (↑q / 16)).maxFrame - 134) / 64 * 64) ∧
    (∃ (q : Fin 32) (ecc : Ecc) (late : Bool) (s : State) (f : RxFrame), s.EthWf ∧ s.Takes (↑q) 3 ∧ s.rawFrame ↑q = some f ∧ s.rangeAway ((s.ethQueue ↑q).ring + 16 * s.getF ETH_QSTATUS [↑q] ETH_QSTATUS.HEAD) 16 = none ∧ s.dmaRange (leAt (s.readMem ((s.ethQueue ↑q).ring + 16 * s.getF ETH_QSTATUS [↑q] ETH_QSTATUS.HEAD) 16) 0 8) (leAt (s.readMem ((s.ethQueue ↑q).ring + 16 * s.getF ETH_QSTATUS [↑q] ETH_QSTATUS.HEAD) 16) 8 4) = true ∧ leAt (s.readMem ((s.ethQueue ↑q).ring + 16 * s.getF ETH_QSTATUS [↑q] ETH_QSTATUS.HEAD) 16) 0 8 < boardBase ∧ s.rangeAway (leAt (s.readMem ((s.ethQueue ↑q).ring + 16 * s.getF ETH_QSTATUS [↑q] ETH_QSTATUS.HEAD) 16) 0 8) (leAt (s.readMem ((s.ethQueue ↑q).ring + 16 * s.getF ETH_QSTATUS [↑q] ETH_QSTATUS.HEAD) 16) 8 4) = none) ∧
    (∃ (q : Fin 32) (j : EthJob) (rest : List EthJob) (s : State), s.EthWf ∧ (s.ethQueue ↑q).jobs = j :: rest ∧ s.dieUp 11 = true ∧ (j.ended = false ∨ s.ethHeld (↑q) j.seq = true)) ∧
    (∃ (q : Fin 32) (j : EthJob) (rest : List EthJob) (s : State), s.EthWf ∧ (s.ethQueue ↑q).jobs = j :: rest ∧ s.dieUp 11 = true ∧ j.ended = true ∧ s.ethHeld (↑q) j.seq = false ∧ s.rangeAway ((s.ethQueue ↑q).cpl + 16 * s.getF ETH_QSTATUS [↑q] ETH_QSTATUS.CTAIL) 16 = none ∧ (s.ethQueue ↑q).deleting = none) ∧
    (∃ (q : Fin 32) (j : EthJob) (rest : List EthJob) (s : State), s.EthWf ∧ (s.ethQueue ↑q).jobs = j :: rest ∧ s.dieUp 11 = true ∧ j.ended = true ∧ s.ethHeld (↑q) j.seq = false ∧ s.rangeAway ((s.ethQueue ↑q).cpl + 16 * s.getF ETH_QSTATUS [↑q] ETH_QSTATUS.CTAIL) 16 = none ∧ (s.ethQueue ↑q).deleting = none ∧ (s.ethQueue ↑q).log2n ≤ 12 ∧ s.getF ETH_QSTATUS [↑q] ETH_QSTATUS.CTAIL < 2 ^ (s.ethQueue ↑q).log2n ∧ (s.ethQueue ↑q).cpl + 16 * s.getF ETH_QSTATUS [↑q] ETH_QSTATUS.CTAIL + 16 ≤ boardBase ∧ (s.ethQueue ↑q).ntDie < 8) ∧
    (∃ (q : Fin 32) (j : EthJob) (rest : List EthJob) (s : State), s.EthWf ∧ (s.ethQueue ↑q).jobs = j :: rest ∧ s.dieUp 11 = true ∧ j.ended = true ∧ s.ethHeld (↑q) j.seq = false ∧ s.rangeAway ((s.ethQueue ↑q).cpl + 16 * s.getF ETH_QSTATUS [↑q] ETH_QSTATUS.CTAIL) 16 = none ∧ (s.ethQueue ↑q).deleting = none ∧ (s.ethQueue ↑q).log2n ≤ 12 ∧ s.getF ETH_QSTATUS [↑q] ETH_QSTATUS.CTAIL < 2 ^ (s.ethQueue ↑q).log2n ∧ (s.ethQueue ↑q).cpl + 16 * s.getF ETH_QSTATUS [↑q] ETH_QSTATUS.CTAIL + 16 ≤ boardBase ∧ (s.ethQueue ↑q).ntDie < 8) ∧
    (∃ (q : Fin 32) (j : EthJob) (rest : List EthJob) (s : State) (c : Cmd), s.EthWf ∧ (s.ethQueue ↑q).jobs = j :: rest ∧ s.dieUp 11 = true ∧ j.ended = true ∧ s.ethHeld (↑q) j.seq = false ∧ s.rangeAway ((s.ethQueue ↑q).cpl + 16 * s.getF ETH_QSTATUS [↑q] ETH_QSTATUS.CTAIL) 16 = none ∧ (s.ethQueue ↑q).deleting = some c ∧ rest = [] ∧ j.notice = false) ∧
    (∃ (q : Fin 32) (fail : Bool) (s : State), (s.ethQueue ↑q).jobs = [] ∧ (s.ethQueue ↑q).deleting = none) ∧
    (∃ (c : Cmd) (s : State), s.EthWf ∧ s.Accepts c 2050 ∧ s.dieUp 11 = true ∧ c.tIndex < 2 ∧ c.par 0 1 < 16 ∧ c.parZero 4 12 = true ∧ c.par 1 1 = 0 ∧ c.inlineLen ≠ 0) ∧
    (∃ (c : Cmd) (s : State), s.EthWf ∧ s.Accepts c 2050 ∧ s.dieUp 11 = true ∧ c.tIndex < 2 ∧ c.par 0 1 < 16 ∧ c.parZero 4 12 = true ∧ c.par 1 1 = 0 ∧ c.inlineLen = 0 ∧ s.bit ETH_QSTATUS [16 * c.tIndex + c.par 0 1] ETH_QSTATUS.ENABLED = false) ∧
    (∃ (c : Cmd) (s : State), s.EthWf ∧ s.Accepts c 2050 ∧ s.dieUp 11 = true ∧ c.tIndex < 2 ∧ c.par 0 1 < 16 ∧ c.parZero 4 12 = true ∧ c.par 1 1 = 0 ∧ c.inlineLen = 0 ∧ (¬s.bit ETH_QSTATUS [16 * c.tIndex + c.par 0 1] ETH_QSTATUS.ENABLED = false) ∧ s.getF ETH_QSTATUS [16 * c.tIndex + c.par 0 1] ETH_QSTATUS.KIND ≠ 2 ∧ (s.ethQueue (16 * c.tIndex + c.par 0 1)).deleting = none ∧ (s.ethQueue (16 * c.tIndex + c.par 0 1)).jobs = []) ∧
    (∃ (c : Cmd) (s : State), s.EthWf ∧ s.Accepts c 2050 ∧ s.dieUp 11 = true ∧ c.tIndex < 2 ∧ c.par 0 1 < 16 ∧ c.parZero 4 12 = true ∧ c.par 1 1 = 0 ∧ c.inlineLen = 0 ∧ (¬s.bit ETH_QSTATUS [16 * c.tIndex + c.par 0 1] ETH_QSTATUS.ENABLED = false) ∧ s.getF ETH_QSTATUS [16 * c.tIndex + c.par 0 1] ETH_QSTATUS.KIND ≠ 2 ∧ (s.ethQueue (16 * c.tIndex + c.par 0 1)).deleting = none ∧ (s.ethQueue (16 * c.tIndex + c.par 0 1)).jobs ≠ []) ∧
    (∃ (c : Cmd) (s : State), s.EthWf ∧ s.Accepts c 2050 ∧ s.dieUp 11 = true ∧ c.tIndex < 2 ∧ c.par 0 1 < 16 ∧ c.parZero 4 12 = true ∧ 1 ≤ c.par 1 1 ∧ c.par 1 1 ≤ 4 ∧ c.inlineLen = 64 ∧ s.queueOk c = false) ∧
    (∃ (c : Cmd) (s : State), s.EthWf ∧ s.Accepts c 2050 ∧ s.dieUp 11 = true ∧ c.tIndex < 2 ∧ c.par 0 1 < 16 ∧ c.parZero 4 12 = true ∧ 1 ≤ c.par 1 1 ∧ c.par 1 1 ≤ 4 ∧ c.inlineLen ≠ 64) ∧
    (∃ (c : Cmd) (s : State), s.EthWf ∧ s.Accepts c 2050 ∧ s.dieUp 11 = true ∧ c.tIndex < 2 ∧ c.par 0 1 < 16 ∧ c.parZero 4 12 = true ∧ 1 ≤ c.par 1 1 ∧ c.par 1 1 ≤ 4 ∧ c.inlineLen = 64 ∧ s.queueOk c = true ∧ (¬s.bit ETH_QSTATUS [16 * c.tIndex + c.par 0 1] ETH_QSTATUS.ENABLED = false)) ∧
    (∃ (c : Cmd) (s : State), s.EthWf ∧ s.Accepts c 2050 ∧ s.dieUp 11 = true ∧ c.tIndex < 2 ∧ c.par 0 1 < 16 ∧ c.parZero 4 12 = true ∧ 1 ≤ c.par 1 1 ∧ c.par 1 1 ≤ 4 ∧ c.inlineLen = 64 ∧ s.queueOk c = true ∧ s.bit ETH_QSTATUS [16 * c.tIndex + c.par 0 1] ETH_QSTATUS.ENABLED = false ∧ c.par 1 1 = 4 ∧ (∃ (r : Nat), r < 32 ∧ s.ethIs r 4 = true ∧ (s.ethQueue r).flow = leAt c.inl 50 4)) ∧
    (∃ (c : Cmd) (s : State), s.EthWf ∧ s.Accepts c 2050 ∧ s.dieUp 11 = true ∧ c.tIndex < 2 ∧ c.par 0 1 < 16 ∧ c.parZero 4 12 = true ∧ 1 ≤ c.par 1 1 ∧ c.par 1 1 ≤ 4 ∧ c.inlineLen = 64 ∧ s.queueOk c = true ∧ s.bit ETH_QSTATUS [16 * c.tIndex + c.par 0 1] ETH_QSTATUS.ENABLED = false ∧ (c.par 1 1 = 4 → ∀ (r : Nat), r < 32 → s.ethIs r 4 = true → (s.ethQueue r).flow ≠ leAt c.inl 50 4)) ∧
    (∃ (c : Cmd) (s : State), s.EthWf ∧ s.Accepts c 2050 ∧ s.dieUp 11 = true ∧ c.tIndex < 2 ∧ c.par 0 1 < 16 ∧ c.parZero 4 12 = true ∧ 1 ≤ c.par 1 1 ∧ c.par 1 1 ≤ 4 ∧ c.inlineLen = 64 ∧ s.queueOk c = true ∧ s.bit ETH_QSTATUS [16 * c.tIndex + c.par 0 1] ETH_QSTATUS.ENABLED = false ∧ (c.par 1 1 = 4 → ∀ (r : Nat), r < 32 → s.ethIs r 4 = true → (s.ethQueue r).flow ≠ leAt c.inl 50 4)) :=
  ⟨⟨0, 15, queue 1 14 { log2n := 4 }, by unfold State.wf; decide +kernel⟩,
   ⟨0, 13, queue 1 14 { log2n := 4 }, by unfold State.wf; decide +kernel⟩,
   ⟨31, 0, up, by unfold State.wf; decide +kernel⟩,
   ⟨0, 0, queue 1 0 { log2n := 12 }, by unfold State.wf; decide +kernel⟩,
   ⟨0, 1, queue 1 0 { log2n := 12 }, by unfold State.wf; decide +kernel⟩,
   ⟨0, 0, withDesc [16] (queue 1 0 { log2n := 4, poll := true, tail := 0x20000 }), by unfold State.wf; decide +kernel⟩,
   ⟨0, 0, queue 1 0 { log2n := 4, poll := true }, by unfold State.wf; decide +kernel⟩,
   ⟨0, .clean, true, queue 1 0 { log2n := 4 }, by unfold State.EthWf State.wf; decide +kernel⟩,
   ⟨0, .clean, false, queue 2 1 { log2n := 4 }, by unfold State.EthWf State.wf; decide +kernel, by unfold State.Takes; first | exact .inl (by decide +kernel) | exact .inr (by decide +kernel)⟩,
   ⟨0, .clean, true, withDesc (leBytes 8 0x10000 ++ leBytes 4 59 ++ leBytes 4 9) (queue 1 1 { log2n := 4, ring := 0x20000 }), by unfold State.EthWf State.wf State.Takes; decide +kernel⟩,
   ⟨0, .clean, true, withDesc (leBytes 8 0x10000 ++ leBytes 4 1514 ++ leBytes 4 9 ++ [1]) (queue 1 1 { log2n := 4, ring := 0x20000 }), by unfold State.EthWf State.wf State.Takes; decide +kernel⟩,
   ⟨0, .clean, true, withDesc (leBytes 8 0x40_0000_0000 ++ leBytes 4 60 ++ leBytes 4 9) ((queue 1 1 { log2n := 4, ring := 0x20000 }).setReg PWR_PFOLD [0] 1), by unfold State.EthWf State.wf State.Takes; decide +kernel⟩,
   ⟨0, .clean, true, withDesc (leBytes 8 0x10000 ++ leBytes 4 1345 ++ leBytes 4 9) (queue 2 1 { log2n := 4, ring := 0x20000, next := 0xFFFF_FFFF }), by unfold State.EthWf State.wf State.Takes; decide +kernel⟩,
   ⟨0, .clean, true, withDesc (leBytes 8 0x10000 ++ leBytes 4 63 ++ leBytes 4 9) (port 0 { rx := [⟨5, 64, .raw 0, pay1⟩] } (queue 3 1 { log2n := 4, ring := 0x20000 })), ⟨5, 64, .raw 0, pay1⟩, by unfold State.EthWf State.wf State.Takes; decide +kernel⟩,
   ⟨0, job 0 64, [], queue 1 1 { log2n := 4, jobs := [job 0 64] }, by unfold State.EthWf State.wf; decide +kernel⟩,
   ⟨0, (job 0 64).stop 0 64, [job 1 64], queue 1 1 { log2n := 4, jobs := [(job 0 64).stop 0 64, job 1 64] }, by unfold State.EthWf State.wf; decide +kernel⟩,
   ⟨0, (job 0 64).stop stIntegrity 64, [job 1 64], (queue 1 1 { log2n := 4, cpl := 0x40000, jobs := [(job 0 64).stop stIntegrity 64, job 1 64] }).setF ETH_QSTATUS [0] ETH_QSTATUS.CTAIL 15, by unfold State.EthWf State.wf; decide +kernel⟩,
   ⟨0, { (job 0 64).stop 0 64 with notice := true }, [], queue 1 1 { log2n := 4, cpl := 0x40000, ntDie := 7, ntTally := 255, ntCount := 3, jobs := [{ (job 0 64).stop 0 64 with notice := true }] }, by unfold State.EthWf State.wf; decide +kernel⟩,
   ⟨0, (job 0 64).stop 0 64, [], queue 1 1 { log2n := 4, cpl := 0x40000, deleting := some (portCmd 0x0802 []), jobs := [(job 0 64).stop 0 64] }, portCmd 0x0802 [], by unfold State.EthWf State.wf; decide +kernel⟩,
   ⟨0, true, queue 1 1 { log2n := 4 }, by decide +kernel⟩,
   ⟨portCmd 0x0802 [15, 0, 0, 0] [1], up, by unfold State.Accepts State.EthWf State.wf; decide +kernel⟩,
   ⟨portCmd 0x0802 [15, 0, 0, 0], up, by unfold State.Accepts State.EthWf State.wf; decide +kernel⟩,
   ⟨portCmd 0x0802 [0, 0, 0, 0], queue 1 0 { log2n := 4 }, by unfold State.Accepts State.EthWf State.wf; decide +kernel⟩,
   ⟨portCmd 0x0802 [0, 0, 0, 0], queue 1 0 { log2n := 4, jobs := [job 0 64] }, by unfold State.Accepts State.EthWf State.wf; decide +kernel⟩,
   ⟨portCmd 0x0802 [0, 1, 3, 0] (create 5), up, by unfold State.Accepts State.EthWf State.wf; decide +kernel⟩,
   ⟨portCmd 0x0802 [0, 1, 4, 0] [], up, by unfold State.Accepts State.EthWf State.wf; decide +kernel⟩,
   ⟨portCmd 0x0802 [0, 1, 4, 0] (create 5), queue 1 0 { log2n := 4 }, by unfold State.Accepts State.EthWf State.wf; decide +kernel⟩,
   ⟨portCmd 0x0802 [1, 4, 4, 0] (create 5), rbt 4 {} [], by unfold State.Accepts State.EthWf State.wf; decide +kernel⟩,
   ⟨portCmd 0x0802 [1, 4, 12, 0] (create 6), rbt 4 {} [], by unfold State.Accepts State.EthWf State.wf; decide +kernel⟩,
   ⟨portCmd 0x0802 [15, 2, 4, 0] (create 6), { up with eth := { epoch := 255 } }, by unfold State.Accepts State.EthWf State.wf; decide +kernel⟩⟩

theorem witness_RbtFlowsAndPortCommands :
    (∃ (q : Fin 32) (n : Nat) (may : Bool) (f : RxFrame) (ip : List Byte) (u : Nat) (s : State), s.EthWf ∧ s.RbtData (↑q) n f ip u ∧ rbtSeq f.bytes = 0 ∧ rbtMsg f.bytes = 0 ∧ rbtEpoch f.bytes ≠ 0 ∧ rbtEpoch f.bytes ≠ (s.ethQueue ↑q).epoch) ∧
    (∃ (q : Fin 32) (n : Nat) (may : Bool) (f : RxFrame) (ip : List Byte) (u : Nat) (s : State), s.EthWf ∧ s.RbtData (↑q) n f ip u ∧ (rbtEpoch f.bytes = 0 ∨ rbtEpoch f.bytes ≠ (s.ethQueue ↑q).epoch ∧ ¬(rbtSeq f.bytes = 0 ∧ rbtMsg f.bytes = 0))) ∧
    (∃ (q : Fin 32) (n : Nat) (may : Bool) (f : RxFrame) (ip : List Byte) (u : Nat) (s : State), s.EthWf ∧ s.RbtData (↑q) n f ip u ∧ (rbtEpoch f.bytes = 0 ∨ rbtEpoch f.bytes ≠ (s.ethQueue ↑q).epoch ∧ ¬(rbtSeq f.bytes = 0 ∧ rbtMsg f.bytes = 0))) ∧
    (∃ (q : Fin 32) (n : Nat) (may : Bool) (f : RxFrame) (ip : List Byte) (u : Nat) (s : State), s.EthWf ∧ s.RbtData (↑q) n f ip u ∧ rbtEpoch f.bytes = (s.ethQueue ↑q).epoch ∧ rbtEpoch f.bytes ≠ 0 ∧ (serialDiff 32 (rbtSeq f.bytes) (s.ethQueue ↑q).seq < 0 ∨ rbtSeq f.bytes ∈ (s.ethQueue ↑q).marks)) ∧
    (∃ (q : Fin 32) (n : Nat) (may : Bool) (f : RxFrame) (ip : List Byte) (u : Nat) (s : State), s.EthWf ∧ s.RbtData (↑q) n f ip u ∧ rbtEpoch f.bytes = (s.ethQueue ↑q).epoch ∧ rbtEpoch f.bytes ≠ 0 ∧ 4096 ≤ serialDiff 32 (rbtSeq f.bytes) (s.ethQueue ↑q).seq ∧ (¬rbtSeq f.bytes ∈ (s.ethQueue ↑q).marks)) ∧
    (∃ (q : Fin 32) (n : Nat) (may : Bool) (f : RxFrame) (ip : List Byte) (u : Nat) (s : State), s.EthWf ∧ s.RbtData (↑q) n f ip u ∧ rbtEpoch f.bytes = (s.ethQueue ↑q).epoch ∧ rbtEpoch f.bytes ≠ 0 ∧ 0 ≤ serialDiff 32 (rbtSeq f.bytes) (s.ethQueue ↑q).seq ∧ serialDiff 32 (rbtSeq f.bytes) (s.ethQueue ↑q).seq < 4096 ∧ (¬rbtSeq f.bytes ∈ (s.ethQueue ↑q).marks) ∧ crc32c (List.drop 32 f.bytes) ≠ leAt f.bytes 28 4) ∧
    (∃ (q : Fin 32) (n : Nat) (may : Bool) (f : RxFrame) (ip : List Byte) (u : Nat) (s : State) (j : EthJob), s.EthWf ∧ s.RbtData (↑q) n f ip u ∧ rbtEpoch f.bytes = (s.ethQueue ↑q).epoch ∧ rbtEpoch f.bytes ≠ 0 ∧ 0 < serialDiff 32 (rbtSeq f.bytes) (s.ethQueue ↑q).seq ∧ serialDiff 32 (rbtSeq f.bytes) (s.ethQueue ↑q).seq < 4096 ∧ (¬rbtSeq f.bytes ∈ (s.ethQueue ↑q).marks) ∧ crc32c (List.drop 32 f.bytes) = leAt f.bytes 28 4 ∧ (List.find? (fun (y : EthJob) => y.msg == rbtMsg f.bytes) (s.ethQueue ↑q).jobs = some j) ∧ j.ended = false ∧ s.rangeAway j.off j.len = none ∧ j.off + j.len ≤ boardBase ∧ (s.ethQueue ↑q).seq < 2 ^ 32 ∧ (¬(s.ethQueue ↑q).seq ∈ (s.ethQueue ↑q).marks) ∧ (s.ethQueue ↑q).accepted < 15) ∧
    (∃ (q : Fin 32) (n : Nat) (may : Bool) (f : RxFrame) (ip : List Byte) (u : Nat) (s : State), s.EthWf ∧ s.RbtData (↑q) n f ip u ∧ rbtEpoch f.bytes = (s.ethQueue ↑q).epoch ∧ rbtEpoch f.bytes ≠ 0 ∧ 0 ≤ serialDiff 32 (rbtSeq f.bytes) (s.ethQueue ↑q).seq ∧ serialDiff 32 (rbtSeq f.bytes) (s.ethQueue ↑q).seq < 4096 ∧ (¬rbtSeq f.bytes ∈ (s.ethQueue ↑q).marks) ∧ crc32c (List.drop 32 f.bytes) = leAt f.bytes 28 4 ∧ (List.find? (fun (y : EthJob) => y.msg == rbtMsg f.bytes) (s.ethQueue ↑q).jobs = none) ∧ serialGe 32 (rbtMsg f.bytes) (s.ethQueue ↑q).msg = true) ∧
    (∃ (q : Fin 32) (s : State), s.EthWf ∧ s.dieUp 11 = true ∧ s.ethIs (↑q) 4 = true ∧ (s.ethQueue ↑q).accepted ≠ 0) ∧
    (∃ (q : Fin 32) (s : State), s.EthWf ∧ s.dieUp 11 = true ∧ (s.ethIs (↑q) 4 = false ∨ (s.ethQueue ↑q).accepted = 0)) ∧
    (∃ (q : Fin 32) (s : State), s.EthWf ∧ s.dieUp 11 = true ∧ (s.ethIs (↑q) 4 = false ∨ (s.ethQueue ↑q).marks = [])) ∧
    (∃ (q : Fin 32) (s : State), s.EthWf ∧ s.dieUp 11 = true ∧ s.ethIs (↑q) 4 = true ∧ (s.ethQueue ↑q).marks ≠ []) ∧
    (∃ (q : Fin 32) (s : State), s.EthWf ∧ s.dieUp 11 = true ∧ s.ethIs (↑q) 2 = true ∧ (serialDiff 32 (s.ethQueue ↑q).seq (s.ethQueue ↑q).una).toNat ≠ 0 ∧ (s.ethQueue ↑q).rtos + 1 < 8) ∧
    (∃ (q : Fin 32) (s : State) (j : EthJob), s.EthWf ∧ s.dieUp 11 = true ∧ s.ethIs (↑q) 2 = true ∧ (serialDiff 32 (s.ethQueue ↑q).seq (s.ethQueue ↑q).una).toNat ≠ 0 ∧ 8 ≤ (s.ethQueue ↑q).rtos + 1 ∧ (List.find? (fun (y : EthJob) => !y.ended) (s.ethQueue ↑q).jobs = some j) ∧ (∀ (y : EthJob), y ∈ (s.ethQueue ↑q).jobs → y.seq = j.seq → y = j)) ∧
    (∃ (p : Fin 2) (n : Nat) (type : Nat) (f : RxFrame) (ip : List Byte) (u : Nat) (s : State), s.EthWf ∧ s.dieUp 11 = true ∧ s.rbtFrame (↑p) type n = some (f, ip, u) ∧ rbtGood f.bytes = false ∧ type = 2) ∧
    (∃ (p : Fin 2) (n : Nat) (type : Nat) (f : RxFrame) (ip : List Byte) (u : Nat) (s : State), s.EthWf ∧ s.dieUp 11 = true ∧ s.rbtFrame (↑p) type n = some (f, ip, u) ∧ rbtGood f.bytes = false ∧ type = 3) ∧
    (∃ (p : Fin 2) (n : Nat) (type : Nat) (f : RxFrame) (ip : List Byte) (u : Nat) (s : State), s.EthWf ∧ s.dieUp 11 = true ∧ s.rbtFrame (↑p) type n = some (f, ip, u) ∧ rbtGood f.bytes = false ∧ type = 4) ∧
    (∃ (p : Fin 2) (n : Nat) (type : Nat) (f : RxFrame) (ip : List Byte) (u : Nat) (s : State), s.EthWf ∧ s.dieUp 11 = true ∧ s.rbtFrame (↑p) type n = some (f, ip, u) ∧ rbtGood f.bytes = true ∧ s.rbtSender (↑p) (rbtFlow f.bytes) (rbtEpoch f.bytes) ip = none ∧ type = 2) ∧
    (∃ (p : Fin 2) (n : Nat) (type : Nat) (f : RxFrame) (ip : List Byte) (u : Nat) (s : State), s.EthWf ∧ s.dieUp 11 = true ∧ s.rbtFrame (↑p) type n = some (f, ip, u) ∧ rbtGood f.bytes = true ∧ s.rbtSender (↑p) (rbtFlow f.bytes) (rbtEpoch f.bytes) ip = none ∧ type = 3) ∧
    (∃ (p : Fin 2) (n : Nat) (type : Nat) (f : RxFrame) (ip : List Byte) (u : Nat) (s : State) (q : Nat), s.EthWf ∧ s.dieUp 11 = true ∧ s.rbtFrame (↑p) type n = some (f, ip, u) ∧ s.rbtSender (↑p) (rbtFlow f.bytes) (rbtEpoch f.bytes) ip = some q) ∧
    (∃ (p : Fin 2) (n : Nat) (type : Nat) (f : RxFrame) (ip : List Byte) (u : Nat) (s : State) (q : Nat), s.EthWf ∧ s.dieUp 11 = true ∧ s.rbtFrame (↑p) type n = some (f, ip, u) ∧ rbtGood f.bytes = true ∧ s.rbtSender (↑p) (rbtFlow f.bytes) (rbtEpoch f.bytes) ip = some q ∧ type = 2 ∧ newer 32 (rbtSeq f.bytes) (s.ethQueue q).una = true ∧ serialGe 32 (s.ethQueue q).seq (rbtSeq f.bytes) = true) ∧
    (∃ (p : Fin 2) (n : Nat) (type : Nat) (f : RxFrame) (ip : List Byte) (u : Nat) (s : State) (q : Nat), s.EthWf ∧ s.dieUp 11 = true ∧ s.rbtFrame (↑p) type n = some (f, ip, u) ∧ rbtGood f.bytes = true ∧ s.rbtSender (↑p) (rbtFlow f.bytes) (rbtEpoch f.bytes) ip = some q ∧ type = 2 ∧ newer 32 (rbtSeq f.bytes) (s.ethQueue q).una = false) ∧
    (∃ (p : Fin 2) (n : Nat) (type : Nat) (f : RxFrame) (ip : List Byte) (u : Nat) (s : State) (q : Nat), s.EthWf ∧ s.dieUp 11 = true ∧ s.rbtFrame (↑p) type n = some (f, ip, u) ∧ rbtGood f.bytes = true ∧ s.rbtSender (↑p) (rbtFlow f.bytes) (rbtEpoch f.bytes) ip = some q ∧ type = 3) ∧
    (∃ (p : Fin 2) (n : Nat) (type : Nat) (f : RxFrame) (ip : List Byte) (u : Nat) (s : State) (q : Nat), s.EthWf ∧ s.dieUp 11 = true ∧ s.rbtFrame (↑p) type n = some (f, ip, u) ∧ rbtGood f.bytes = true ∧ s.rbtSender (↑p) (rbtFlow f.bytes) (rbtEpoch f.bytes) ip = some q ∧ type = 4 ∧ (∀ (r : Nat), r ∈ portQueues ↑p → s.ethIs r 4 = false) ∧ leAt f.bytes 32 1 = stPeerReset) ∧
    (∃ (p : Fin 2) (n : Nat) (type : Nat) (f : RxFrame) (ip : List Byte) (u : Nat) (s : State) (q : Nat), s.EthWf ∧ s.dieUp 11 = true ∧ s.rbtFrame (↑p) type n = some (f, ip, u) ∧ rbtGood f.bytes = true ∧ s.rbtSender (↑p) (rbtFlow f.bytes) (rbtEpoch f.bytes) ip = some q ∧ type = 4 ∧ (∀ (r : Nat), r ∈ portQueues ↑p → s.ethIs r 4 = false) ∧ leAt f.bytes 32 1 ≠ stPeerReset) ∧
    (∃ (c : Cmd) (s : State), s.EthWf ∧ c.tIndex < 2 ∧ s.Accepts c 2049 ∧ s.dieFolded 11 = true) ∧
    (∃ (c : Cmd) (s : State), s.EthWf ∧ c.tIndex < 2 ∧ s.Accepts c 2049 ∧ s.dieFolded 11 = false ∧ s.dieInReset 11 = true) ∧
    (∃ (c : Cmd) (s : State), s.EthWf ∧ c.tIndex < 2 ∧ s.dieUp 11 = true ∧ s.Accepts c 2049 ∧ (¬(c.par 0 1 ≤ 3 ∧ c.par 1 1 < 4 ∧ 1518 ≤ c.par 8 2 ∧ c.par 8 2 ≤ 9216 ∧ c.par 10 1 ≤ 2 ∧ c.par 11 1 < 8 ∧ c.par 14 2 = 0))) ∧
    (∃ (c : Cmd) (s : State), s.EthWf ∧ c.tIndex < 2 ∧ s.dieUp 11 = true ∧ s.Accepts c 2049 ∧ c.par 0 1 ≤ 3 ∧ c.par 1 1 < 4 ∧ 1518 ≤ c.par 8 2 ∧ c.par 8 2 ≤ 9216 ∧ c.par 10 1 ≤ 2 ∧ c.par 11 1 < 8 ∧ c.par 14 2 = 0 ∧ c.inlineLen ≠ 16) ∧
    (∃ (c : Cmd) (s : State), s.EthWf ∧ c.tIndex < 2 ∧ s.dieUp 11 = true ∧ s.Accepts c 2049 ∧ c.par 0 1 ≤ 3 ∧ c.par 1 1 < 4 ∧ 1518 ≤ c.par 8 2 ∧ c.par 8 2 ≤ 9216 ∧ c.par 10 1 ≤ 2 ∧ c.par 11 1 < 8 ∧ c.par 14 2 = 0 ∧ c.inlineLen = 16 ∧ (∃ (q : Nat), q ∈ portQueues c.tIndex ∧ s.bit ETH_QSTATUS [q] ETH_QSTATUS.ENABLED = true)) ∧
    (∃ (c : Cmd) (s : State), s.EthWf ∧ c.tIndex < 2 ∧ s.dieUp 11 = true ∧ s.Accepts c 2049 ∧ c.par 0 1 ≤ 3 ∧ c.par 1 1 < 4 ∧ 1518 ≤ c.par 8 2 ∧ c.par 8 2 ≤ 9216 ∧ c.par 10 1 ≤ 2 ∧ c.par 11 1 < 8 ∧ c.par 14 2 = 0 ∧ c.inlineLen = 16 ∧ (∀ (q : Nat), q ∈ portQueues c.tIndex → s.bit ETH_QSTATUS [q] ETH_QSTATUS.ENABLED = false)) ∧
    (∃ (c : Cmd) (s : State), s.EthWf ∧ c.tIndex < 2 ∧ s.dieUp 11 = true ∧ s.Accepts c 2051 ∧ (¬(c.par 1 2 ≠ 0 ∧ c.par 3 13 = 0 ∧ (s.ethFc c.tIndex = 1 → c.par 0 1 < 2)))) ∧
    (∃ (c : Cmd) (s : State), s.EthWf ∧ c.tIndex < 2 ∧ s.dieUp 11 = true ∧ s.Accepts c 2051 ∧ (c.par 1 2 ≠ 0 ∧ c.par 3 13 = 0 ∧ (s.ethFc c.tIndex = 1 → c.par 0 1 < 2)) ∧ c.inlineLen ≠ 32) ∧
    (∃ (c : Cmd) (s : State), s.EthWf ∧ c.tIndex < 2 ∧ s.dieUp 11 = true ∧ s.Accepts c 2051 ∧ (c.par 1 2 ≠ 0 ∧ c.par 3 13 = 0 ∧ (s.ethFc c.tIndex = 1 → c.par 0 1 < 2)) ∧ c.inlineLen = 32 ∧ (¬∀ (q : Nat), q < 8 → 1 ≤ (fun (q : Nat) => leAt c.inl (4 * q) 2) q ∧ (fun (q : Nat) => leAt c.inl (4 * q) 2) q ≤ 2048 ∧ (fun (q : Nat) => leAt c.inl (4 * q + 2) 2) q < (fun (q : Nat) => leAt c.inl (4 * q) 2) q)) ∧
    (∃ (c : Cmd) (s : State), s.EthWf ∧ c.tIndex < 2 ∧ s.dieUp 11 = true ∧ s.Accepts c 2051 ∧ (c.par 1 2 ≠ 0 ∧ c.par 3 13 = 0 ∧ (s.ethFc c.tIndex = 1 → c.par 0 1 < 2)) ∧ c.inlineLen = 32 ∧ (∀ (q : Nat), q < 8 → 1 ≤ (fun (q : Nat) => leAt c.inl (4 * q) 2) q ∧ (fun (q : Nat) => leAt c.inl (4 * q) 2) q ≤ 2048 ∧ (fun (q : Nat) => leAt c.inl (4 * q + 2) 2) q < (fun (q : Nat) => leAt c.inl (4 * q) 2) q)) ∧
    (∃ (c : Cmd) (s : State), s.EthWf ∧ c.tIndex < 2 ∧ s.dieUp 11 = true ∧ s.Accepts c 2052 ∧ tok none (s.ethPort c.tIndex).txSa = true ∧ c.par 0 1 = 3 ∧ c.par 1 1 < 4 ∧ c.par 2 14 = 0 ∧ tget none (s.ethPort c.tIndex).txSa (c.par 1 1) = none) ∧
    (∃ (c : Cmd) (s : State) (a : Sa), s.EthWf ∧ c.tIndex < 2 ∧ s.dieUp 11 = true ∧ s.Accepts c 2052 ∧ tok none (s.ethPort c.tIndex).txSa = true ∧ c.par 0 1 = 3 ∧ c.par 1 1 < 4 ∧ c.par 2 14 = 0 ∧ tget none (s.ethPort c.tIndex).txSa (c.par 1 1) = some a ∧ c.inlineLen = 0 ∧ a.pn < 2 ^ 64) ∧
    (∃ (c : Cmd) (s : State), s.EthWf ∧ c.tIndex < 2 ∧ s.dieUp 11 = true ∧ s.Accepts c 2052 ∧ tok none (s.ethPort c.tIndex).txSa = true ∧ c.par 0 1 = 4 ∧ c.par 1 1 < 4 ∧ c.par 2 14 = 0 ∧ c.inlineLen = 0 ∧ (s.ethPort c.tIndex).txOn = true ∧ s.getF ETH_PORT_STATUS [c.tIndex] ETH_PORT_STATUS.TX_AN = c.par 1 1) ∧
    (∃ (c : Cmd) (s : State), s.EthWf ∧ c.tIndex < 2 ∧ s.dieUp 11 = true ∧ s.Accepts c 2052 ∧ tok none (s.ethPort c.tIndex).txSa = true ∧ c.par 0 1 = 4 ∧ c.par 1 1 < 4 ∧ c.par 2 14 = 0 ∧ c.inlineLen = 0 ∧ (s.ethPort c.tIndex).txOn = false) ∧
    (∃ (c : Cmd) (s : State), s.EthWf ∧ c.tIndex < 2 ∧ s.dieUp 11 = true ∧ s.Accepts c 2052 ∧ tok none (s.ethPort c.tIndex).txSa = true ∧ c.par 0 1 = 1 ∧ c.par 1 1 < 4 ∧ c.par 2 2 = 0 ∧ c.par 12 4 = 0 ∧ c.inlineLen = 28 ∧ leAt c.inl 8 8 ≠ 0 ∧ leAt c.inl 0 8 = 0 ∧ s.keyOf (c.par 4 4) = none) ∧
    (∃ (c : Cmd) (s : State) (i : Nat) (k : KeySlot), s.EthWf ∧ c.tIndex < 2 ∧ s.dieUp 11 = true ∧ s.Accepts c 2052 ∧ tok none (s.ethPort c.tIndex).txSa = true ∧ c.par 0 1 = 1 ∧ c.par 1 1 < 4 ∧ c.par 2 2 = 0 ∧ c.par 12 4 = 0 ∧ c.inlineLen = 28 ∧ leAt c.inl 8 8 ≠ 0 ∧ leAt c.inl 0 8 = 0 ∧ s.keyOf (c.par 4 4) = some (i, k) ∧ k.typ = 1 ∧ s.mayUse c k = true ∧ (tget none (s.ethPort c.tIndex).txSa (c.par 1 1)).isSome = true) ∧
    (∃ (c : Cmd) (s : State) (i : Nat) (k : KeySlot), s.EthWf ∧ c.tIndex < 2 ∧ s.dieUp 11 = true ∧ s.Accepts c 2052 ∧ tok none (s.ethPort c.tIndex).txSa = true ∧ c.par 0 1 = 1 ∧ c.par 1 1 < 4 ∧ c.par 2 2 = 0 ∧ c.par 12 4 = 0 ∧ c.inlineLen = 28 ∧ leAt c.inl 8 8 ≠ 0 ∧ leAt c.inl 0 8 = 0 ∧ s.keyOf (c.par 4 4) = some (i, k) ∧ k.typ = 1 ∧ s.mayUse c k = true ∧ tget none (s.ethPort c.tIndex).txSa (c.par 1 1) = none) :=
  ⟨⟨0, 0, true, got (rbtPacket 1 0 7 5 0 0 0 64 pay1), peer, 9, rbt 4 { epoch := 3, jobs := [job 0 64, (job 1 64).stop 0 64] } (rbtPacket 1 0 7 5 0 0 0 64 pay1), by unfold State.EthWf State.wf State.RbtData; decide +kernel⟩,
   ⟨0, 0, true, got (rbtPacket 1 0 7 5 1 0 0 64 pay1), peer, 9, rbt 4 { epoch := 3 } (rbtPacket 1 0 7 5 1 0 0 64 pay1), by unfold State.EthWf State.wf State.RbtData; decide +kernel⟩,
   ⟨0, 0, false, got (rbtPacket 1 0 0 5 0 0 0 64 pay1), peer, 9, rbt 4 { epoch := 3 } (rbtPacket 1 0 0 5 0 0 0 64 pay1), by unfold State.EthWf State.wf State.RbtData; decide +kernel⟩,
   ⟨0, 0, true, got (rbtPacket 1 0 3 5 8 0 0 64 pay1), peer, 9, rbt 4 { epoch := 3, seq := 9 } (rbtPacket 1 0 3 5 8 0 0 64 pay1), by unfold State.EthWf State.wf State.RbtData; decide +kernel⟩,
   ⟨0, 0, true, got (rbtPacket 1 0 3 5 4095 0 0 64 pay1), peer, 9, rbt 4 { epoch := 3, seq := 0xFFFF_FFFF } (rbtPacket 1 0 3 5 4095 0 0 64 pay1), by unfold State.EthWf State.wf State.RbtData; decide +kernel⟩,
   ⟨0, 0, true, got (rbtPacket 1 0 3 5 4094 0 0 64 pay1 ++ [1]), peer, 9, rbt 4 { epoch := 3, seq := 0xFFFF_FFFF } (rbtPacket 1 0 3 5 4094 0 0 64 pay1 ++ [1]), by unfold State.EthWf State.wf State.RbtData; decide +kernel⟩,
   ⟨0, 0, true, got (rbtPacket 1 0 3 5 1 4 32 128 pay1), peer, 9, rbt 4 { epoch := 3, msg := 5, jobs := [{ job 0 64 with msg := 4 }] } (rbtPacket 1 0 3 5 1 4 32 128 pay1), { job 0 64 with msg := 4 }, by unfold State.EthWf State.wf State.RbtData; decide +kernel⟩,
   ⟨0, 0, true, got (rbtPacket 1 0 3 5 0 0 0 64 pay1), peer, 9, rbt 4 { epoch := 3 } (rbtPacket 1 0 3 5 0 0 0 64 pay1), by unfold State.EthWf State.wf State.RbtData; decide +kernel⟩,
   ⟨0, rbt 4 { epoch := 3, accepted := 1, src := peer } [], by unfold State.EthWf State.wf; decide +kernel⟩,
   ⟨0, rbt 4 { epoch := 3 } [], by unfold State.EthWf State.wf; decide +kernel⟩,
   ⟨31, up, by unfold State.EthWf State.wf; decide +kernel⟩,
   ⟨0, rbt 4 { epoch := 3, seq := 0xFFFF_FFFE, marks := [0, 62], src := peer } [], by unfold State.EthWf State.wf; decide +kernel⟩,
   ⟨0, rbt 2 { epoch := 3, seq := 1, una := 0xFFFF_FFFF, rtos := 6 } [], by unfold State.EthWf State.wf; decide +kernel⟩,
   ⟨0, rbt 2 { epoch := 3, seq := 1, next := 1, rtos := 7, jobs := [job 0 64] } [], job 0 64, by unfold State.EthWf State.wf; decide +kernel⟩,
   ⟨0, 0, 2, got (rbtPacket 2 0 3 5 1 0 0 0 [] ++ [1]), peer, 9, rbt 2 { epoch := 3, seq := 2, next := 2 } (rbtPacket 2 0 3 5 1 0 0 0 [] ++ [1]), by unfold State.EthWf State.wf; decide +kernel⟩,
   ⟨0, 0, 3, got (rbtPacket 3 0 3 5 1 0 0 0 [] ++ [1]), peer, 9, rbt 2 { epoch := 3, seq := 2, next := 2 } (rbtPacket 3 0 3 5 1 0 0 0 [] ++ [1]), by unfold State.EthWf State.wf; decide +kernel⟩,
   ⟨0, 0, 4, got (rbtPacket 4 0 3 5 1 0 0 0 [] ++ [1]), peer, 9, rbt 2 { epoch := 3, seq := 2, next := 2 } (rbtPacket 4 0 3 5 1 0 0 0 [] ++ [1]), by unfold State.EthWf State.wf; decide +kernel⟩,
   ⟨0, 0, 2, got (rbtPacket 2 0 4 5 1 0 0 0 []), peer, 9, rbt 2 { epoch := 3, seq := 2, next := 2 } (rbtPacket 2 0 4 5 1 0 0 0 []), by unfold State.EthWf State.wf; decide +kernel⟩,
   ⟨0, 0, 3, got (rbtPacket 3 0 4 5 1 0 0 0 []), peer, 9, rbt 2 { epoch := 3, seq := 2, next := 2 } (rbtPacket 3 0 4 5 1 0 0 0 []), by unfold State.EthWf State.wf; decide +kernel⟩,
   ⟨0, 0, 2, got (rbtPacket 2 0 3 5 1 0 0 0 []), peer, 9, rbt 2 { epoch := 3, seq := 2, next := 2 } (rbtPacket 2 0 3 5 1 0 0 0 []), 0, by unfold State.EthWf State.wf; decide +kernel⟩,
   ⟨0, 0, 2, got (rbtPacket 2 0 3 5 1 0 0 0 []), peer, 9, rbt 2 { epoch := 3, seq := 1, next := 2, resend := [0], jobs := [job 0 64, { job 1 64 with seg0 := 1 }] } (rbtPacket 2 0 3 5 1 0 0 0 []), 0, by unfold State.EthWf State.wf; decide +kernel⟩,
   ⟨0, 0, 2, got (rbtPacket 2 0 3 5 0 0 0 0 []), peer, 9, rbt 2 { epoch := 3, seq := 1, next := 2, jobs := [job 0 64] } (rbtPacket 2 0 3 5 0 0 0 0 []), 0, by unfold State.EthWf State.wf; decide +kernel⟩,
   ⟨0, 0, 3, got (rbtPacket 3 0 3 5 0 0 0 0 (leBytes 8 5)), peer, 9, rbt 2 { epoch := 3, seq := 3, next := 3, jobs := [job 0 64] } (rbtPacket 3 0 3 5 0 0 0 0 (leBytes 8 5)), 0, by unfold State.EthWf State.wf; decide +kernel⟩,
   ⟨0, 0, 4, got (rbtPacket 4 0 3 5 0 0 0 0 (leBytes 1 stPeerReset)), peer, 9, rbt 2 { epoch := 3, seq := 3, next := 3, jobs := [job 0 64] } (rbtPacket 4 0 3 5 0 0 0 0 (leBytes 1 stPeerReset)), 0, by unfold State.EthWf State.wf; decide +kernel⟩,
   ⟨0, 0, 4, got (rbtPacket 4 0 3 5 0 0 0 0 (leBytes 1 stTimeout)), peer, 9, rbt 2 { epoch := 3, seq := 3, next := 3, jobs := [job 0 64] } (rbtPacket 4 0 3 5 0 0 0 0 (leBytes 1 stTimeout)), 0, by unfold State.EthWf State.wf; decide +kernel⟩,
   ⟨portCmd 0x0801 cfg peer, up.setReg PWR_DIE [] 0x800, by unfold State.Accepts State.EthWf State.wf; decide +kernel⟩,
   ⟨portCmd 0x0801 cfg peer, up.setReg RST_DIE [] 0x800, by unfold State.Accepts State.EthWf State.wf; decide +kernel⟩,
   ⟨portCmd 0x0801 [4] peer, up, by unfold State.Accepts State.EthWf State.wf; decide +kernel⟩,
   ⟨portCmd 0x0801 cfg [], up, by unfold State.Accepts State.EthWf State.wf; decide +kernel⟩,
   ⟨portCmd 0x0801 cfg peer, queue 1 0 {}, by unfold State.Accepts State.EthWf State.wf; decide +kernel⟩,
   ⟨portCmd 0x0801 cfg peer, up, by unfold State.Accepts State.EthWf State.wf; decide +kernel⟩,
   ⟨portCmd 0x0803 [2, 1, 0] [], port 1 {}, by unfold State.Accepts State.EthWf State.wf; decide +kernel⟩,
   ⟨portCmd 0x0803 [2, 1, 0] [], port 2 {}, by unfold State.Accepts State.EthWf State.wf; decide +kernel⟩,
   ⟨portCmd 0x0803 [2, 1, 0] ((List.range 8).flatMap (fun _ => [1, 0, 1, 0])), port 2 {}, by unfold State.Accepts State.EthWf State.wf; decide +kernel⟩,
   ⟨portCmd 0x0803 [0xFF, 0xFF, 0xFF] ((List.range 8).flatMap (fun _ => [0, 8, 0, 0])), port 2 {}, by unfold State.Accepts State.EthWf State.wf; decide +kernel⟩,
   ⟨portCmd 0x0804 [3, 3], port 0 {}, by unfold State.Accepts State.EthWf State.wf; decide +kernel⟩,
   ⟨portCmd 0x0804 [3, 3], port 0 { txSa := [(3, some (sa (2 ^ 64 - 1)))] }, sa (2 ^ 64 - 1), by unfold State.Accepts State.EthWf State.wf; decide +kernel⟩,
   ⟨portCmd 0x0804 [4, 0], port 0 { txSa := [(0, some (sa 1))], txOn := true }, by unfold State.Accepts State.EthWf State.wf; decide +kernel⟩,
   ⟨portCmd 0x0804 [4, 3], port 0 { txSa := [(3, some (sa 1))] }, by unfold State.Accepts State.EthWf State.wf; decide +kernel⟩,
   ⟨portCmd 0x0804 ([1, 0, 0, 0] ++ leBytes 4 0x1_0100) (leBytes 8 0 ++ leBytes 8 1 ++ List.replicate 12 3), port 0 {}, by unfold State.Accepts State.EthWf State.wf; decide +kernel⟩,
   ⟨portCmd 0x0804 ([1, 0, 0, 0] ++ leBytes 4 0x1_0100) (leBytes 8 0 ++ leBytes 8 1 ++ List.replicate 12 3), keyed { txSa := [(0, some (sa 1))] }, 0, { typ := 1, gen := 1, key := List.replicate 32 5 }, by unfold State.Accepts State.EthWf State.wf; decide +kernel⟩,
   ⟨portCmd 0x0804 ([1, 3, 0, 0] ++ leBytes 4 0x1_0100) (leBytes 8 0 ++ leBytes 8 1 ++ List.replicate 12 3), keyed {}, 0, { typ := 1, gen := 1, key := List.replicate 32 5 }, by unfold State.Accepts State.EthWf State.wf; decide +kernel⟩⟩

theorem witness_ReproProfileSet :
    (∃ (c : Cmd) (s : State), s.wf ∧ s.Accepts c 2305 ∧ (¬(c.par 0 1 ≤ 2 ∧ c.par 1 1 ≤ 2 ∧ c.par 2 1 < 2 ∧ c.par 3 13 = 0))) ∧
    (∃ (c : Cmd) (s : State), s.wf ∧ s.Accepts c 2305 ∧ (¬(c.par 0 1 ≤ 2 ∧ c.par 1 1 ≤ 2 ∧ c.par 2 1 < 2 ∧ c.par 3 13 = 0))) ∧
    (∃ (c : Cmd) (s : State), s.wf ∧ s.Accepts c 2305 ∧ c.par 0 1 ≤ 2 ∧ c.par 1 1 ≤ 2 ∧ c.par 2 1 < 2 ∧ c.par 3 13 = 0 ∧ ((∃ (d : Nat), d ∈ s.condDies ∧ s.bit SCR_STATUS [d] SCR_STATUS.INSTALLED = true) ∨ s.tempo.armed = true ∨ s.tempo.running = true ∨ s.bit GLB_MODE [] GLB_MODE.UNISON = true)) ∧
    (∃ (c : Cmd) (s : State), s.wf ∧ s.Accepts c 2305 ∧ c.par 0 1 ≤ 2 ∧ c.par 1 1 ≤ 2 ∧ c.par 2 1 < 2 ∧ c.par 3 13 = 0 ∧ ((∃ (d : Nat), d ∈ s.condDies ∧ s.bit SCR_STATUS [d] SCR_STATUS.INSTALLED = true) ∨ s.tempo.armed = true ∨ s.tempo.running = true ∨ s.bit GLB_MODE [] GLB_MODE.UNISON = true)) ∧
    (∃ (c : Cmd) (s : State), s.wf ∧ s.Accepts c 2305 ∧ c.par 0 1 ≤ 2 ∧ c.par 1 1 ≤ 2 ∧ c.par 2 1 < 2 ∧ c.par 3 13 = 0 ∧ (¬((∃ (d : Nat), d ∈ s.condDies ∧ s.bit SCR_STATUS [d] SCR_STATUS.INSTALLED = true) ∨ s.tempo.armed = true ∨ s.tempo.running = true ∨ s.bit GLB_MODE [] GLB_MODE.UNISON = true))) :=
  ⟨⟨cmd 0x0901 [3, 0, 0], up, by unfold State.wf State.Accepts; decide +kernel⟩,
   ⟨cmd 0x0901 [2, 2, 1, 1], up, by unfold State.wf State.Accepts; decide +kernel⟩,
   ⟨cmd 0x0901 [2, 2, 1], still, by unfold State.wf State.Accepts; decide +kernel⟩,
   ⟨cmd 0x0901 [0, 0, 0], up.setF GLB_MODE [] GLB_MODE.UNISON 1, by unfold State.wf State.Accepts; decide +kernel⟩,
   ⟨cmd 0x0901 [2, 1, 1], up, by unfold State.wf State.Accepts; decide +kernel⟩⟩

theorem witness_UnisonCompares :
    (∃ (c : Cmd) (s : State), s.wf ∧ s.Accepts c 2306 ∧ (¬((c.par 0 1 = 1 ∨ c.par 0 1 = 2) ∧ c.par 1 1 < 2 ∧ c.par 4 2 ≠ 0 ∧ c.par 2 2 < 16384 ∧ c.par 6 10 = 0))) ∧
    (∃ (c : Cmd) (s : State), s.wf ∧ s.Accepts c 2306 ∧ (¬((c.par 0 1 = 1 ∨ c.par 0 1 = 2) ∧ c.par 1 1 < 2 ∧ c.par 4 2 ≠ 0 ∧ c.par 2 2 < 16384 ∧ c.par 6 10 = 0))) ∧
    (∃ (c : Cmd) (s : State), s.wf ∧ s.Accepts c 2306 ∧ ((c.par 0 1 = 1 ∨ c.par 0 1 = 2) ∧ c.par 1 1 < 2 ∧ c.par 4 2 ≠ 0 ∧ c.par 2 2 < 16384 ∧ c.par 6 10 = 0) ∧ c.par 0 1 = 1 ∧ s.bit GLB_MODE [] GLB_MODE.METRONOME = false) ∧
    (∃ (c : Cmd) (s : State), s.wf ∧ s.Accepts c 2306 ∧ ((c.par 0 1 = 1 ∨ c.par 0 1 = 2) ∧ c.par 1 1 < 2 ∧ c.par 4 2 ≠ 0 ∧ c.par 2 2 < 16384 ∧ c.par 6 10 = 0) ∧ (c.par 0 1 = 1 → s.bit GLB_MODE [] GLB_MODE.METRONOME = true) ∧ (s.busyTempo = true ∨ c.par 0 1 = 1 ∧ s.bit UN_CTRL [] UN_CTRL.PAIRED = true)) ∧
    (∃ (c : Cmd) (s : State), s.wf ∧ s.Accepts c 2306 ∧ ((c.par 0 1 = 1 ∨ c.par 0 1 = 2) ∧ c.par 1 1 < 2 ∧ c.par 4 2 ≠ 0 ∧ c.par 2 2 < 16384 ∧ c.par 6 10 = 0) ∧ (c.par 0 1 = 1 → s.bit GLB_MODE [] GLB_MODE.METRONOME = true) ∧ (s.busyTempo = true ∨ c.par 0 1 = 1 ∧ s.bit UN_CTRL [] UN_CTRL.PAIRED = true)) ∧
    (∃ (c : Cmd) (s : State), s.wf ∧ s.Accepts c 2306 ∧ ((c.par 0 1 = 1 ∨ c.par 0 1 = 2) ∧ c.par 1 1 < 2 ∧ c.par 4 2 ≠ 0 ∧ c.par 2 2 < 16384 ∧ c.par 6 10 = 0) ∧ (c.par 0 1 = 1 → s.bit GLB_MODE [] GLB_MODE.METRONOME = true) ∧ (¬(s.busyTempo = true ∨ c.par 0 1 = 1 ∧ s.bit UN_CTRL [] UN_CTRL.PAIRED = true)) ∧ s.rankAbsent (8 + c.par 1 1) (c.par 2 2) = true) ∧
    (∃ (c : Cmd) (s : State), s.wf ∧ s.Accepts c 2306 ∧ ((c.par 0 1 = 1 ∨ c.par 0 1 = 2) ∧ c.par 1 1 < 2 ∧ c.par 4 2 ≠ 0 ∧ c.par 2 2 < 16384 ∧ c.par 6 10 = 0) ∧ (c.par 0 1 = 1 → s.bit GLB_MODE [] GLB_MODE.METRONOME = true) ∧ (¬(s.busyTempo = true ∨ c.par 0 1 = 1 ∧ s.bit UN_CTRL [] UN_CTRL.PAIRED = true)) ∧ s.rankAbsent (8 + c.par 1 1) (c.par 2 2) = false) ∧
    (∃ (c : Cmd) (s : State), s.wf ∧ s.Accepts c 2306 ∧ ((c.par 0 1 = 1 ∨ c.par 0 1 = 2) ∧ c.par 1 1 < 2 ∧ c.par 4 2 ≠ 0 ∧ c.par 2 2 < 16384 ∧ c.par 6 10 = 0) ∧ (c.par 0 1 = 1 → s.bit GLB_MODE [] GLB_MODE.METRONOME = true) ∧ (¬(s.busyTempo = true ∨ c.par 0 1 = 1 ∧ s.bit UN_CTRL [] UN_CTRL.PAIRED = true)) ∧ s.rankAbsent (8 + c.par 1 1) (c.par 2 2) = false) ∧
    (∃ (v : BitVec 32) (u : Fin 64) (st : Fin 4096) (e : UnEntry) (s : State), s.wf ∧ s.bit UN_CTRL [] UN_CTRL.PAIRED = true ∧ s.unison.started = true ∧ s.replaying = false ∧ newer 32 s.tempo.sbar v.toNat = true ∧ s.dieInReset 10 = false ∧ s.capturing = false ∧ (¬v.toNat ∈ s.unison.lost) ∧ (∃ (w : WaitSend), w ∈ s.score.sends ∧ w.stream = ↑st ∧ w.sbar = v.toNat)) ∧
    (∃ (v : BitVec 32) (u : Fin 64) (st : Fin 4096) (e : UnEntry) (s : State), s.wf ∧ s.bit UN_CTRL [] UN_CTRL.PAIRED = true ∧ s.unison.started = true ∧ s.replaying = false ∧ newer 32 s.tempo.sbar v.toNat = true ∧ s.dieInReset 10 = false ∧ s.capturing = false ∧ (¬v.toNat ∈ s.unison.lost) ∧ (List.find? (fun (e : UnEntry) => e.sbar == v.toNat && e.unit == ↑u && e.stream == ↑st) s.unison.open_ = some e) ∧ (∀ (w : WaitSend), w ∈ s.score.sends → w.stream = ↑st → w.sbar ≠ v.toNat) ∧ s.unison.own.length + s.unison.peer.length < 1024) ∧
    (∃ (v : BitVec 32) (u : Fin 64) (st : Fin 4096) (e : UnEntry) (s : State), s.wf ∧ s.bit UN_CTRL [] UN_CTRL.PAIRED = true ∧ s.unison.started = true ∧ s.replaying = false ∧ newer 32 s.tempo.sbar v.toNat = true ∧ s.dieInReset 10 = false ∧ s.capturing = false ∧ (¬v.toNat ∈ s.unison.lost) ∧ (List.find? (fun (e : UnEntry) => e.sbar == v.toNat && e.unit == ↑u && e.stream == ↑st) s.unison.open_ = some e) ∧ (∀ (w : WaitSend), w ∈ s.score.sends → w.stream = ↑st → w.sbar ≠ v.toNat) ∧ 1024 ≤ s.unison.own.length + s.unison.peer.length) ∧
    (∃ (v : BitVec 32) (a : UnClose) (b : UnClose) (s : State), s.wf ∧ (List.find? (fun (x : UnClose) => x.sbar == v.toNat) s.unison.ownClose = some a) ∧ (List.find? (fun (x : UnClose) => x.sbar == v.toNat) s.unison.peerClose = some b) ∧ UnKeyed (s.unOwn v.toNat) ∧ UnKeyed (s.unPeer v.toNat) ∧ (s.unPeer v.toNat).length ≠ b.n) ∧
    (∃ (v : BitVec 32) (a : UnClose) (b : UnClose) (s : State), s.wf ∧ (List.find? (fun (x : UnClose) => x.sbar == v.toNat) s.unison.ownClose = some a) ∧ (List.find? (fun (x : UnClose) => x.sbar == v.toNat) s.unison.peerClose = some b) ∧ UnKeyed (s.unOwn v.toNat) ∧ UnKeyed (s.unPeer v.toNat) ∧ (s.unPeer v.toNat).length = b.n ∧ (∀ (e : UnEntry), ¬s.unDisagrees v.toNat e) ∧ a.profile = b.profile) ∧
    (∃ (v : BitVec 32) (a : UnClose) (b : UnClose) (s : State), s.wf ∧ (List.find? (fun (x : UnClose) => x.sbar == v.toNat) s.unison.ownClose = some a) ∧ (List.find? (fun (x : UnClose) => x.sbar == v.toNat) s.unison.peerClose = some b) ∧ UnKeyed (s.unOwn v.toNat) ∧ UnKeyed (s.unPeer v.toNat) ∧ (s.unPeer v.toNat).length = b.n ∧ (∀ (e : UnEntry), ¬s.unDisagrees v.toNat e) ∧ a.profile ≠ b.profile ∧ s.bit UN_STATUS [] UN_STATUS.MISMATCH = false) ∧
    (∃ (v : BitVec 32) (a : UnClose) (b : UnClose) (s : State) (d : UnEntry), s.wf ∧ (List.find? (fun (x : UnClose) => x.sbar == v.toNat) s.unison.ownClose = some a) ∧ (List.find? (fun (x : UnClose) => x.sbar == v.toNat) s.unison.peerClose = some b) ∧ UnKeyed (s.unOwn v.toNat) ∧ UnKeyed (s.unPeer v.toNat) ∧ (s.unPeer v.toNat).length = b.n ∧ s.unDisagrees v.toNat d ∧ s.bit UN_STATUS [] UN_STATUS.MISMATCH = false) ∧
    (∃ (v : BitVec 32) (a : UnClose) (b : UnClose) (s : State) (d : UnEntry), s.wf ∧ (List.find? (fun (x : UnClose) => x.sbar == v.toNat) s.unison.ownClose = some a) ∧ (List.find? (fun (x : UnClose) => x.sbar == v.toNat) s.unison.peerClose = some b) ∧ UnKeyed (s.unOwn v.toNat) ∧ UnKeyed (s.unPeer v.toNat) ∧ (s.unPeer v.toNat).length = b.n ∧ s.unDisagrees v.toNat d ∧ s.bit UN_STATUS [] UN_STATUS.MISMATCH = false) ∧
    (∃ (v : BitVec 32) (a : UnClose) (b : UnClose) (s : State), s.wf ∧ (List.find? (fun (x : UnClose) => x.sbar == v.toNat) s.unison.ownClose = some a) ∧ (List.find? (fun (x : UnClose) => x.sbar == v.toNat) s.unison.peerClose = some b) ∧ UnKeyed (s.unOwn v.toNat) ∧ UnKeyed (s.unPeer v.toNat) ∧ (s.unPeer v.toNat).length = b.n ∧ ((¬∀ (e : UnEntry), ¬s.unDisagrees v.toNat e) ∨ a.profile ≠ b.profile) ∧ s.bit UN_STATUS [] UN_STATUS.MISMATCH = true) ∧
    (∃ (v : BitVec 32) (s : State), s.wf ∧ (∃ (x : UnClose), x ∈ s.unison.ownClose ∧ x.sbar = v.toNat) ∧ (¬v.toNat ∈ s.unison.lost)) ∧
    (∃ (v : BitVec 32) (s : State), s.wf ∧ (∀ (x : UnClose), x ∈ s.unison.ownClose → x.sbar ≠ v.toNat)) ∧
    (∃ (c : Cmd) (s : State), s.wf ∧ s.Accepts c 2307 ∧ s.waiters WaitFor.capture = [] ∧ c.par 1 3 = 0 ∧ c.par 0 1 = 1 ∧ 40 ≤ c.par 4 4 ∧ c.par 4 4 ≤ 16384 ∧ c.par 8 8 % 2 ^ 20 = 0 ∧ c.par 8 8 + c.par 4 4 * 2 ^ 20 ≤ 2 ^ 34 ∧ (s.tempo.running = false ∨ s.tempo.held = false ∨ s.bit UN_CAPTURE [] UN_CAPTURE.HELD = true)) ∧
    (∃ (c : Cmd) (s : State), s.wf ∧ s.Accepts c 2307 ∧ s.waiters WaitFor.capture = [] ∧ c.par 1 3 = 0 ∧ c.par 0 1 = 1 ∧ 40 ≤ c.par 4 4 ∧ c.par 4 4 ≤ 16384 ∧ c.par 8 8 % 2 ^ 20 = 0 ∧ c.par 8 8 + c.par 4 4 * 2 ^ 20 ≤ 2 ^ 34 ∧ (s.tempo.running = false ∨ s.tempo.held = false ∨ s.bit UN_CAPTURE [] UN_CAPTURE.HELD = true)) ∧
    (∃ (c : Cmd) (s : State), s.wf ∧ s.Accepts c 2307 ∧ s.waiters WaitFor.capture = [] ∧ c.par 1 3 = 0 ∧ c.par 0 1 = 1 ∧ 40 ≤ c.par 4 4 ∧ c.par 4 4 ≤ 16384 ∧ c.par 8 8 % 2 ^ 20 = 0 ∧ c.par 8 8 + c.par 4 4 * 2 ^ 20 ≤ 2 ^ 34 ∧ s.tempo.running = true ∧ s.tempo.held = true ∧ s.bit UN_CAPTURE [] UN_CAPTURE.HELD = false ∧ s.quiescent = false) ∧
    (∃ (c : Cmd) (s : State), s.wf ∧ s.Accepts c 2307 ∧ s.waiters WaitFor.capture = [] ∧ c.par 1 3 = 0 ∧ c.par 0 1 = 1 ∧ 40 ≤ c.par 4 4 ∧ c.par 4 4 ≤ 16384 ∧ c.par 8 8 % 2 ^ 20 = 0 ∧ c.par 8 8 + c.par 4 4 * 2 ^ 20 ≤ 2 ^ 34 ∧ s.tempo.running = true ∧ s.tempo.held = true ∧ s.bit UN_CAPTURE [] UN_CAPTURE.HELD = false ∧ s.quiescent = true ∧ s.tempo.sbar < 2 ^ 32 ∧ s.bit UN_CAPTURE [] UN_CAPTURE.SNAPSHOT = false) ∧
    (∃ (c : Cmd) (s : State), s.wf ∧ s.Accepts c 2307 ∧ s.waiters WaitFor.capture = [] ∧ c.par 1 3 = 0 ∧ c.par 0 1 = 2 ∧ s.busyTempo = true) ∧
    (∃ (c : Cmd) (s : State), s.wf ∧ s.Accepts c 2307 ∧ s.waiters WaitFor.capture = [] ∧ c.par 1 3 = 0 ∧ c.par 0 1 = 2 ∧ s.busyTempo = false ∧ (s.unison.snap = none ∨ s.bit UN_CAPTURE [] UN_CAPTURE.COMPLETE = false)) ∧
    (∃ (c : Cmd) (s : State) (n : Snapshot), s.wf ∧ s.Accepts c 2307 ∧ s.waiters WaitFor.capture = [] ∧ c.par 1 3 = 0 ∧ c.par 0 1 = 2 ∧ s.busyTempo = false ∧ s.unison.snap = some n ∧ s.anyInstalled = true ∧ BitVec.toNat (s.reg SCR_JOB [0]) = n.job ∧ s.bit UN_CAPTURE [] UN_CAPTURE.COMPLETE = true ∧ (∀ (x : Host.Cell), x ∈ n.boards → boardBase ≤ x.fst)) ∧
    (∃ (c : Cmd) (s : State), s.wf ∧ s.Accepts c 2307 ∧ s.waiters WaitFor.capture = [] ∧ c.par 1 3 = 0 ∧ c.par 0 1 = 3) :=
  ⟨⟨pairCmd 1 0 1 0, grid, by unfold State.wf State.Accepts; decide +kernel⟩,
   ⟨pairCmd 1 0 16384 9, grid, by unfold State.wf State.Accepts; decide +kernel⟩,
   ⟨pairCmd 1 0 1 5, grid, by unfold State.wf State.Accepts; decide +kernel⟩,
   ⟨pairCmd 1 0 1 5, (metro).setF UN_CTRL [] UN_CTRL.PAIRED 1, by unfold State.wf State.Accepts; decide +kernel⟩,
   ⟨pairCmd 2 0 1 5, playing, by unfold State.wf State.Accepts; decide +kernel⟩,
   ⟨pairCmd 1 1 16383 5, metro, by unfold State.wf State.Accepts; decide +kernel⟩,
   ⟨pairCmd 1 0 1 65535, metro, by unfold State.wf State.Accepts; decide +kernel⟩,
   ⟨pairCmd 2 0 1 1, (metro).setF UN_CTRL [] UN_CTRL.PAIRED 1, by unfold State.wf State.Accepts; decide +kernel⟩,
   ⟨5, 63, 4095, digest 63 4095 7, { paired { open_ := [digest 63 4095 7] } with score := { sends := [⟨0, 0, 0, 0, 0, 1, 0, 4095, 7, 33, 0, 0, 5, false, false, false, false⟩] } }, by unfold State.wf; decide +kernel⟩,
   ⟨5, 63, 4095, digest 63 4095 7, paired { open_ := [digest 63 4095 7] }, by unfold State.wf; decide +kernel⟩,
   ⟨5, 63, 4095, digest 63 4095 7, paired { open_ := [digest 63 4095 7], own := List.replicate 1024 (digest 1 1 1) }, by unfold State.wf; decide +kernel⟩,
   ⟨5, ⟨5, 1, 0⟩, ⟨5, 2, 0⟩, barred [digest 1 2 3] [digest 1 2 3] 2 0 0, by unfold State.wf UnKeyed; decide +kernel⟩,
   ⟨5, ⟨5, 1, 0⟩, ⟨5, 1, 0⟩, barred [digest 255 4095 3] [digest 255 4095 3] 1 0 0, by unfold State.wf; decide +kernel, by decide +kernel, by decide +kernel, by unfold UnKeyed; decide +kernel, by unfold UnKeyed; decide +kernel, by decide +kernel, no_dispute (by decide +kernel), by decide +kernel⟩,
   ⟨5, ⟨5, 1, 0⟩, ⟨5, 1, 1⟩, barred [digest 1 2 3] [digest 1 2 3] 1 0 1, by unfold State.wf; decide +kernel, by decide +kernel, by decide +kernel, by unfold UnKeyed; decide +kernel, by unfold UnKeyed; decide +kernel, by decide +kernel, no_dispute (by decide +kernel), by decide +kernel, by decide +kernel⟩,
   ⟨5, ⟨5, 1, 0⟩, ⟨5, 1, 1⟩, barred [digest 1 2 3, digest 0 7 1] [digest 1 2 4] 1 0 1, digest 1 2 3, by unfold State.wf; decide +kernel, by decide +kernel, by decide +kernel, by unfold UnKeyed; decide +kernel, by unfold UnKeyed; decide +kernel, by decide +kernel, by unfold State.unDisagrees; decide +kernel, by decide +kernel⟩,
   ⟨5, ⟨5, 1, 0⟩, ⟨5, 2, 0⟩, barred [digest 1 2 3] [digest 1 2 4, digest 0 9 4] 2 0 0, digest 0 9 4, by unfold State.wf; decide +kernel, by decide +kernel, by decide +kernel, by unfold UnKeyed; decide +kernel, by unfold UnKeyed; decide +kernel, by decide +kernel, by unfold State.unDisagrees; decide +kernel, by decide +kernel⟩,
   ⟨5, ⟨5, 1, 0⟩, ⟨5, 1, 1⟩, barred [digest 1 2 3] [digest 1 2 3] 1 0 1 (up.setBit UN_STATUS [] UN_STATUS.MISMATCH), by unfold State.wf; decide +kernel, by decide +kernel, by decide +kernel, by unfold UnKeyed; decide +kernel, by unfold UnKeyed; decide +kernel, by decide +kernel, .inr (by decide +kernel), by decide +kernel⟩,
   ⟨5, barred [digest 1 2 3] [] 1 0 0, by unfold State.wf; decide +kernel⟩,
   ⟨6, barred [digest 1 2 3] [] 1 0 0, by unfold State.wf; decide +kernel⟩,
   ⟨replayCmd 1, playing, by unfold State.wf State.Accepts; decide +kernel⟩,
   ⟨replayCmd 1, up, by unfold State.wf State.Accepts; decide +kernel⟩,
   ⟨replayCmd 1, { up with tempo := { running := true, held := true }, sects := [(1023, { st := .running })] }, by unfold State.wf State.Accepts; decide +kernel⟩,
   ⟨replayCmd 1, { tiny with tempo := { running := true, held := true, sbar := 0xFFFF_FFFF } }, by unfold State.wf State.Accepts; decide +kernel⟩,
   ⟨replayCmd 2, playing, by unfold State.wf State.Accepts; decide +kernel⟩,
   ⟨replayCmd 2, up.setReg UN_CAPTURE [] 8, by unfold State.wf State.Accepts; decide +kernel⟩,
   ⟨replayCmd 2, { captured with unison := { snap := some snap, log := [(3, .tally 0 5 2)] } }, snap, by unfold State.wf State.Accepts; decide +kernel⟩,
   ⟨replayCmd 3, { captured with unison := { snap := some snap, log := [(3, .tally 0 5 2)] } }, by unfold State.wf State.Accepts; decide +kernel⟩⟩

theorem witness_BooksAndNotices :
    (∃ (m : Fin 2) (s : State), s.wf ∧ (∃ (x : Nat × Nat × Bool), x ∈ s.books.linTransit ∧ x.fst = 8 + ↑m) ∧ (0 < (fun (t : State) (f : Fld) => t.getF LIN_POOL [8 + ↑m] f) s LIN_POOL.TRANSIT) ∧ ((fun (t : State) (f : Fld) => t.getF LIN_POOL [8 + ↑m] f) s LIN_POOL.FREE < 16384)) ∧
    (∃ (m : Fin 2) (s : State), s.wf ∧ (∀ (x : Nat × Nat × Bool), x ∈ s.books.linTransit → x.fst ≠ 8 + ↑m)) ∧
    (∃ (u : Fin 128) (mx : Nat) (mn : Nat) (s : State), s.wf ∧ s.noticeHas ↑u = true ∧ s.dieInReset 10 = false ∧ ↑u < 64 ∧ mx < 2 ^ 32 ∧ s.noticeLevel ↑u < 2 ^ 32) ∧
    (∃ (u : Fin 128) (mx : Nat) (mn : Nat) (s : State), s.wf ∧ s.noticeHas ↑u = true ∧ s.dieInReset 10 = false ∧ ↑u < 64 ∧ mx < 2 ^ 32 ∧ s.noticeLevel ↑u < 2 ^ 32) ∧
    (∃ (u : Fin 128) (mx : Nat) (mn : Nat) (s : State), s.wf ∧ s.noticeHas ↑u = true ∧ s.dieInReset 10 = false ∧ ↑u < 64 ∧ mx < 2 ^ 32 ∧ s.noticeLevel ↑u < 2 ^ 32) ∧
    (∃ (u : Fin 128) (v : BitVec 32) (s : State), s.wf ∧ s.dieInReset 10 = false ∧ 64 ≤ ↑u) ∧
    (∃ (u : Fin 128) (v : BitVec 32) (s : State), s.wf ∧ s.dieInReset 10 = false ∧ 64 ≤ ↑u) ∧
    (∃ (u : Fin 128) (v : BitVec 32) (s : State), s.wf ∧ s.dieInReset 10 = false ∧ ↑u < 64) ∧
    (∃ (u : Fin 128) (half : Fin 3) (v : Word) (s : State), s.wf ∧ s.dieInReset 10 = false ∧ s.noticeHas ↑u = false) ∧
    (∃ (u : Fin 128) (half : Fin 3) (v : Word) (s : State), s.wf ∧ s.dieInReset 10 = false ∧ s.noticeHas ↑u = false) ∧
    (∃ (u : Fin 128) (half : Fin 3) (v : Word) (s : State), s.wf ∧ s.dieInReset 10 = false ∧ s.noticeHas ↑u = true ∧ ((if ↑half = 0 then BitVec.toNat v / 2 ^ 32 else if ↑half = 1 then s.getF NTC_MARKS [↑u] NTC_MARKS.HIGH else BitVec.toNat v % 2 ^ 32) ≤ if ↑half = 2 then s.getF NTC_MARKS [↑u] NTC_MARKS.LOW else BitVec.toNat v % 2 ^ 32)) ∧
    (∃ (u : Fin 128) (half : Fin 3) (v : Word) (s : State), s.wf ∧ s.dieInReset 10 = false ∧ s.noticeHas ↑u = true ∧ ((if ↑half = 0 then BitVec.toNat v / 2 ^ 32 else if ↑half = 1 then s.getF NTC_MARKS [↑u] NTC_MARKS.HIGH else BitVec.toNat v % 2 ^ 32) ≤ if ↑half = 2 then s.getF NTC_MARKS [↑u] NTC_MARKS.LOW else BitVec.toNat v % 2 ^ 32)) ∧
    (∃ (u : Fin 128) (half : Fin 3) (v : Word) (s : State), s.wf ∧ s.dieInReset 10 = false ∧ s.noticeHas ↑u = true ∧ ((if ↑half = 0 then BitVec.toNat v / 2 ^ 32 else if ↑half = 1 then s.getF NTC_MARKS [↑u] NTC_MARKS.HIGH else BitVec.toNat v % 2 ^ 32) ≤ if ↑half = 2 then s.getF NTC_MARKS [↑u] NTC_MARKS.LOW else BitVec.toNat v % 2 ^ 32)) ∧
    (∃ (u : Fin 128) (half : Fin 3) (v : Word) (s : State), s.wf ∧ s.dieInReset 10 = false ∧ s.noticeHas ↑u = true ∧ ((if ↑half = 2 then s.getF NTC_MARKS [↑u] NTC_MARKS.LOW else BitVec.toNat v % 2 ^ 32) < if ↑half = 0 then BitVec.toNat v / 2 ^ 32 else if ↑half = 1 then s.getF NTC_MARKS [↑u] NTC_MARKS.HIGH else BitVec.toNat v % 2 ^ 32)) ∧
    (∃ (u : Fin 128) (half : Fin 3) (v : Word) (s : State), s.wf ∧ s.dieInReset 10 = false ∧ s.noticeHas ↑u = true ∧ ((if ↑half = 2 then s.getF NTC_MARKS [↑u] NTC_MARKS.LOW else BitVec.toNat v % 2 ^ 32) < if ↑half = 0 then BitVec.toNat v / 2 ^ 32 else if ↑half = 1 then s.getF NTC_MARKS [↑u] NTC_MARKS.HIGH else BitVec.toNat v % 2 ^ 32)) ∧
    (∃ (u : Fin 128) (half : Fin 3) (v : Word) (s : State), s.wf ∧ s.dieInReset 10 = false ∧ s.noticeHas ↑u = true ∧ ((if ↑half = 2 then s.getF NTC_MARKS [↑u] NTC_MARKS.LOW else BitVec.toNat v % 2 ^ 32) < if ↑half = 0 then BitVec.toNat v / 2 ^ 32 else if ↑half = 1 then s.getF NTC_MARKS [↑u] NTC_MARKS.HIGH else BitVec.toNat v % 2 ^ 32)) ∧
    (∃ (u : Fin 128) (s : State), s.wf ∧ s.dieInReset 10 = false ∧ s.noticeHas ↑u = true) ∧
    (∃ (u : Fin 128) (s : State), s.wf ∧ s.dieInReset 10 = false ∧ s.noticeHas ↑u = false) :=
  ⟨⟨0, pool, by unfold State.wf; decide +kernel⟩,
   ⟨1, { pool with books := { linTransit := [(8, 1, false)] } }, by unfold State.wf; decide +kernel⟩,
   ⟨0, 2 ^ 32 - 1, 0, up, by unfold State.wf; decide +kernel⟩,
   ⟨1, 0x4000, 0, marks 1 5 0x4000 pool, by unfold State.wf; decide +kernel⟩,
   ⟨31, 0x4000, 0, marks 31 5 0x4001, by unfold State.wf; decide +kernel⟩,
   ⟨64, 0xFFFF_FFFF, up, by unfold State.wf; decide +kernel⟩,
   ⟨127, 0x3, marks 127 5 7, by unfold State.wf; decide +kernel⟩,
   ⟨63, 0x3, up, by unfold State.wf; decide +kernel⟩,
   ⟨63, 0, 0x3, up, by unfold State.wf; decide +kernel⟩,
   ⟨16, 0, 0x3, State.reset.setReg RST_DIE [] 0 |> fun s => { s with fw := { inCold := false, coresHeld := false } }, by unfold State.wf; decide +kernel⟩,
   ⟨7, 0, 0x5_0000_0005, up, by unfold State.wf; decide +kernel⟩,
   ⟨7, 1, 0xFFFF_FFFF, up, by unfold State.wf; decide +kernel⟩,
   ⟨7, 2, 0, up, by unfold State.wf; decide +kernel⟩,
   ⟨7, 0, 0x6_0000_0005, up, by unfold State.wf; decide +kernel⟩,
   ⟨64, 1, 0xFFFF_FFFE, up, by unfold State.wf; decide +kernel⟩,
   ⟨64, 2, 1, marks 64 0 9 (up.setF NTC_LEVEL [64] NTC_LEVEL.LEVEL 1), by unfold State.wf; decide +kernel⟩,
   ⟨64, (up.setF NTC_PEAK [64] NTC_PEAK.PEAK 77).setF NTC_STATUS [64] NTC_STATUS.UPCOUNT 0xFFFF, by unfold State.wf; decide +kernel⟩,
   ⟨8, up, by unfold State.wf; decide +kernel⟩⟩

theorem witness_SampledReports :
    (∃ (c : Cmd) (s : State), s.Accepts c 774 ∧ (¬(c.par 8 1 < 4 ∧ c.par 9 7 = 0 ∧ s.destOk c (c.par 0 8) 4096 ((c.par 8 1).testBit 0) = true))) ∧
    (∃ (c : Cmd) (s : State), s.Accepts c 774 ∧ (¬(c.par 8 1 < 4 ∧ c.par 9 7 = 0 ∧ s.destOk c (c.par 0 8) 4096 ((c.par 8 1).testBit 0) = true))) ∧
    (∃ (c : Cmd) (s : State), s.Accepts c 774 ∧ c.par 8 1 < 4 ∧ c.par 9 7 = 0 ∧ s.destOk c (c.par 0 8) 4096 ((c.par 8 1).testBit 0) = true ∧ s.waiters WaitFor.census ≠ []) ∧
    (∃ (c : Cmd) (s : State), s.Accepts c 774 ∧ c.par 8 1 < 4 ∧ c.par 9 7 = 0 ∧ s.destOk c (c.par 0 8) 4096 ((c.par 8 1).testBit 0) = true ∧ s.waiters WaitFor.census = []) ∧
    (∃ (c : Cmd) (s : State), s.Accepts c 774 ∧ c.par 8 1 < 4 ∧ c.par 9 7 = 0 ∧ s.destOk c (c.par 0 8) 4096 ((c.par 8 1).testBit 0) = true ∧ s.waiters WaitFor.census = []) ∧
    (∃ (c : Cmd) (a0 : Nat) (a1 : Nat) (s : State), s.wf ∧ s.waiters WaitFor.census = [c] ∧ s.sampleDue s.front.censusBar = false) ∧
    (∃ (c : Cmd) (a0 : Nat) (a1 : Nat) (s : State), s.wf ∧ s.waiters WaitFor.census = [c] ∧ s.sampleDue s.front.censusBar = true ∧ (c.par 8 1).testBit 1 = true) ∧
    (∃ (c : Cmd) (a0 : Nat) (a1 : Nat) (s : State), s.wf ∧ s.waiters WaitFor.census = [c] ∧ s.sampleDue s.front.censusBar = true ∧ (c.par 8 1).testBit 1 = true) ∧
    (∃ (c : Cmd) (a0 : Nat) (a1 : Nat) (s : State), s.wf ∧ s.waiters WaitFor.census = [c] ∧ s.sampleDue s.front.censusBar = true ∧ c.par 8 1 = 0 ∧ c.par 0 8 + 4096 ≤ boardBase) ∧
    (∃ (c : Cmd) (a0 : Nat) (a1 : Nat) (s : State) (r : Record), s.wf ∧ s.waiters WaitFor.census = [c] ∧ (r ∈ s.records fun (m : Nat) => if m = 8 then a0 else a1) ∧ r.away = true) ∧
    (∃ (c : Cmd) (a0 : Nat) (a1 : Nat) (s : State) (r : Record), s.wf ∧ s.waiters WaitFor.census = [c] ∧ (r ∈ s.records fun (m : Nat) => if m = 8 then a0 else a1) ∧ r.unchecked = true) ∧
    (∃ (c : Cmd) (a0 : Nat) (a1 : Nat) (s : State) (r : Record), s.wf ∧ s.waiters WaitFor.census = [c] ∧ (r ∈ s.records fun (m : Nat) => if m = 8 then a0 else a1) ∧ r.away = false ∧ r.kind = 1) ∧
    (∃ (c : Cmd) (a0 : Nat) (a1 : Nat) (s : State) (r : Record), s.wf ∧ s.waiters WaitFor.census = [c] ∧ (r ∈ s.records fun (m : Nat) => if m = 8 then a0 else a1) ∧ r.away = false ∧ r.kind = 2 ∧ r.unchecked = false) ∧
    (∃ (c : Cmd) (a0 : Nat) (a1 : Nat) (s : State) (r : Record), s.wf ∧ s.waiters WaitFor.census = [c] ∧ (r ∈ s.records fun (m : Nat) => if m = 8 then a0 else a1) ∧ r.away = false ∧ r.kind = 3) ∧
    (∃ (c : Cmd) (a0 : Nat) (a1 : Nat) (s : State) (r : Record), s.wf ∧ s.waiters WaitFor.census = [c] ∧ (r ∈ s.records fun (m : Nat) => if m = 8 then a0 else a1) ∧ r.away = false ∧ r.kind = 5) ∧
    (∃ (c : Cmd) (a0 : Nat) (a1 : Nat) (s : State) (r : Record), s.wf ∧ s.waiters WaitFor.census = [c] ∧ (r ∈ s.records fun (m : Nat) => if m = 8 then a0 else a1) ∧ r.away = false ∧ r.kind = 6 ∧ r.unchecked = false) ∧
    (∃ (c : Cmd) (a0 : Nat) (a1 : Nat) (s : State) (r : Record), s.wf ∧ s.waiters WaitFor.census = [c] ∧ (r ∈ s.records fun (m : Nat) => if m = 8 then a0 else a1) ∧ r.away = false ∧ r.kind = 7) ∧
    (∃ (a0 : Nat) (a1 : Nat) (ok : Bool) (s : State), s.waiters WaitFor.census = []) ∧
    (∃ (a0 : Nat) (a1 : Nat) (ok : Bool) (s : State), s.waiters WaitFor.snapshot = []) ∧
    (∃ (c : Cmd) (s : State), s.wf ∧ s.Accepts c 1537 ∧ c.par 14 2 = 0 ∧ c.par 8 1 = 2 ∧ c.par 0 8 = 0 ∧ c.par 9 1 = 0 ∧ (¬(c.par 10 1 < 7 ∧ c.par 12 2 < telInstances (c.par 10 1) ∧ c.par 11 1 < telValues (c.par 10 1)))) ∧
    (∃ (c : Cmd) (s : State), s.wf ∧ s.Accepts c 1537 ∧ c.par 14 2 = 0 ∧ c.par 8 1 = 2 ∧ c.par 0 8 = 0 ∧ c.par 9 1 = 0 ∧ (¬(c.par 10 1 < 7 ∧ c.par 12 2 < telInstances (c.par 10 1) ∧ c.par 11 1 < telValues (c.par 10 1)))) ∧
    (∃ (c : Cmd) (s : State), s.wf ∧ s.Accepts c 1537 ∧ c.par 14 2 = 0 ∧ c.par 8 1 = 2 ∧ c.par 0 8 = 0 ∧ c.par 9 1 = 0 ∧ c.par 10 1 < 7 ∧ c.par 12 2 < telInstances (c.par 10 1) ∧ c.par 11 1 < telValues (c.par 10 1) ∧ s.telAbsent (c.par 10 1) (c.par 12 2) = true) ∧
    (∃ (c : Cmd) (s : State), s.wf ∧ s.Accepts c 1537 ∧ c.par 14 2 = 0 ∧ c.par 8 1 = 2 ∧ c.par 0 8 = 0 ∧ c.par 9 1 = 0 ∧ c.par 10 1 < 7 ∧ c.par 12 2 < telInstances (c.par 10 1) ∧ c.par 11 1 < telValues (c.par 10 1) ∧ s.telAbsent (c.par 10 1) (c.par 12 2) = false ∧ s.telAway (c.par 10 1) (c.par 12 2) = true) ∧
    (∃ (c : Cmd) (s : State), s.wf ∧ s.Accepts c 1537 ∧ c.par 14 2 = 0 ∧ c.par 8 1 = 2 ∧ c.par 0 8 = 0 ∧ c.par 9 1 = 0 ∧ c.par 10 1 < 7 ∧ c.par 12 2 < telInstances (c.par 10 1) ∧ c.par 11 1 < telValues (c.par 10 1) ∧ s.telAbsent (c.par 10 1) (c.par 12 2) = false ∧ s.telAway (c.par 10 1) (c.par 12 2) = false) ∧
    (∃ (c : Cmd) (s : State), s.wf ∧ s.Accepts c 1537 ∧ c.par 14 2 = 0 ∧ c.par 8 1 = 2 ∧ c.par 0 8 = 0 ∧ c.par 9 1 = 0 ∧ c.par 10 1 < 7 ∧ c.par 12 2 < telInstances (c.par 10 1) ∧ c.par 11 1 < telValues (c.par 10 1) ∧ s.telAbsent (c.par 10 1) (c.par 12 2) = false ∧ s.telAway (c.par 10 1) (c.par 12 2) = false) ∧
    (∃ (c : Cmd) (s : State), s.wf ∧ s.Accepts c 1537 ∧ c.par 14 2 = 0 ∧ c.par 8 1 < 8 ∧ (c.par 8 1).testBit 1 = false ∧ (¬(1 ≤ c.par 9 1 ∧ c.par 9 1 ≤ 127 ∧ c.par 10 1 = 0 ∧ c.par 11 1 = 0 ∧ c.par 12 2 = 0 ∧ s.destOk c (c.par 0 8) 73728 ((c.par 8 1).testBit 0) = true))) ∧
    (∃ (c : Cmd) (s : State), s.wf ∧ s.Accepts c 1537 ∧ c.par 14 2 = 0 ∧ c.par 8 1 < 8 ∧ (c.par 8 1).testBit 1 = false ∧ (¬(1 ≤ c.par 9 1 ∧ c.par 9 1 ≤ 127 ∧ c.par 10 1 = 0 ∧ c.par 11 1 = 0 ∧ c.par 12 2 = 0 ∧ s.destOk c (c.par 0 8) 73728 ((c.par 8 1).testBit 0) = true))) ∧
    (∃ (c : Cmd) (s : State), s.wf ∧ s.Accepts c 1537 ∧ c.par 14 2 = 0 ∧ c.par 8 1 < 8 ∧ (c.par 8 1).testBit 1 = false ∧ 1 ≤ c.par 9 1 ∧ c.par 9 1 ≤ 127 ∧ c.par 10 1 = 0 ∧ c.par 11 1 = 0 ∧ c.par 12 2 = 0 ∧ s.destOk c (c.par 0 8) 73728 ((c.par 8 1).testBit 0) = true ∧ s.bit TEL_STATUS [] TEL_STATUS.BUSY = true) ∧
    (∃ (c : Cmd) (s : State), s.wf ∧ s.Accepts c 1537 ∧ c.par 14 2 = 0 ∧ c.par 8 1 < 8 ∧ (c.par 8 1).testBit 1 = false ∧ 1 ≤ c.par 9 1 ∧ c.par 9 1 ≤ 127 ∧ c.par 10 1 = 0 ∧ c.par 11 1 = 0 ∧ c.par 12 2 = 0 ∧ s.destOk c (c.par 0 8) 73728 ((c.par 8 1).testBit 0) = true ∧ s.bit TEL_STATUS [] TEL_STATUS.BUSY = false) ∧
    (∃ (c : Cmd) (ok : Bool) (s : State), s.wf ∧ s.waiters WaitFor.snapshot = [c] ∧ s.sampleDue s.front.snapBar = true ∧ (c.par 8 1).testBit 0 = false ∧ c.par 0 8 + 73728 ≤ boardBase) ∧
    (∃ (c : Cmd) (ok : Bool) (s : State), s.wf ∧ s.waiters WaitFor.snapshot = [c] ∧ s.sampleDue s.front.snapBar = true ∧ (c.par 8 1).testBit 0 = true ∧ ok = false) ∧
    (∃ (g : Nat) (s : State), 1 ≤ g ∧ g ≤ 127) ∧
    (∃ (v : BitVec 32) (s : State), s.wf ∧ v.getLsbD 0 = true ∧ s.dieInReset 10 = false) ∧
    (∃ (v : BitVec 32) (s : State), s.wf ∧ v.getLsbD 0 = false) :=
  ⟨⟨censusCmd 0x1000 4, fitted8, by unfold State.Accepts; decide +kernel⟩,
   ⟨censusCmd 0x1004 0, fitted8, by unfold State.Accepts; decide +kernel⟩,
   ⟨censusCmd 0x1000 3, fitted8.wait .census (censusCmd 0x1000 1), by unfold State.Accepts; decide +kernel⟩,
   ⟨censusCmd 0x1000 0, { fitted8 with tempo := playing.tempo }, by unfold State.Accepts; decide +kernel⟩,
   ⟨censusCmd 0 3, fitted8, by unfold State.Accepts; decide +kernel⟩,
   ⟨censusCmd 0x1000 2, 0, 0, { counted (censusCmd 0x1000 2) (some 0) with tempo := playing.tempo }, by unfold State.wf; decide +kernel⟩,
   ⟨censusCmd 0x1000 2, 0, 3, counted (censusCmd 0x1000 2), by unfold State.wf; decide +kernel⟩,
   ⟨censusCmd 0x1000 2, 0, 2, { counted (censusCmd 0x1000 2) (some 0xFFFF_FFFF) with tempo := playing.tempo }, by unfold State.wf; decide +kernel⟩,
   ⟨censusCmd 0x1000 0, 0, 3, counted (censusCmd 0x1000 0), by unfold State.wf; decide +kernel⟩,
   ⟨censusCmd 0x1000 2, 0, 0, counted (censusCmd 0x1000 2) none (tiny.setReg RST_DIE [] 0x100), record 1 (tiny.setReg RST_DIE [] 0x100), by unfold State.wf; decide +kernel⟩,
   ⟨censusCmd 0x1000 2, 0, 0, { counted (censusCmd 0x1000 2) with score := { tallySat := [(0, true)] } }, record 6 { tiny with score := { tallySat := [(0, true)] } }, by unfold State.wf; decide +kernel⟩,
   ⟨censusCmd 0x1000 2, 0, 0, counted (censusCmd 0x1000 2), record 1 tiny, by unfold State.wf; decide +kernel⟩,
   ⟨censusCmd 0x1000 2, 0, 0, counted (censusCmd 0x1000 2) none ((tiny.setF LNK_STATUS (lnk 0) LNK_STATUS.PROFILE 2).setBit LNK_LGC_CRED (lnk 0) LNK_LGC_CRED.INIT_DONE), record 2 ((tiny.setF LNK_STATUS (lnk 0) LNK_STATUS.PROFILE 2).setBit LNK_LGC_CRED (lnk 0) LNK_LGC_CRED.INIT_DONE), by unfold State.wf; decide +kernel⟩,
   ⟨censusCmd 0x1000 2, 0, 0, counted (censusCmd 0x1000 2), record 3 tiny, by unfold State.wf; decide +kernel⟩,
   ⟨censusCmd 0x1000 2, 0, 0, counted (censusCmd 0x1000 2), record 5 tiny, by unfold State.wf; decide +kernel⟩,
   ⟨censusCmd 0x1000 2, 0, 0, counted (censusCmd 0x1000 2), record 6 tiny, by unfold State.wf; decide +kernel⟩,
   ⟨censusCmd 0x1000 2, 0, 0, counted (censusCmd 0x1000 2), record 7 tiny, by unfold State.wf; decide +kernel⟩,
   ⟨0, 0, true, up, by decide +kernel⟩,
   ⟨0, 0, true, up, by decide +kernel⟩,
   ⟨snapCmd 0 2 0 1 15 0, up, by unfold State.wf State.Accepts; decide +kernel⟩,
   ⟨snapCmd 0 2 0 7 0 0, up, by unfold State.wf State.Accepts; decide +kernel⟩,
   ⟨snapCmd 0 2 0 5 29 255, tiny, by unfold State.wf State.Accepts; decide +kernel⟩,
   ⟨snapCmd 0 2 0 3 14 7, up.setReg RST_DIE [] 0x80, by unfold State.wf State.Accepts; decide +kernel⟩,
   ⟨snapCmd 0 2 0 0 1 0, up.setF TEL_PKG [] TEL_PKG.HELD_BARS 7, by unfold State.wf State.Accepts; decide +kernel⟩,
   ⟨snapCmd 0 2 0 6 31 1, up, by unfold State.wf State.Accepts; decide +kernel⟩,
   ⟨snapCmd 0x1000 0 0x80 0 0 0, fitted8, by unfold State.wf State.Accepts; decide +kernel⟩,
   ⟨snapCmd 0x1000 4 1 0 1 0, fitted8, by unfold State.wf State.Accepts; decide +kernel⟩,
   ⟨snapCmd 0x1000 4 0x7F 0 0 0, fitted8.setBit TEL_STATUS [] TEL_STATUS.BUSY, by unfold State.wf State.Accepts; decide +kernel⟩,
   ⟨snapCmd 0x1000 5 0x7F 0 0 0, { fitted8 with tempo := playing.tempo }, by unfold State.wf State.Accepts; decide +kernel⟩,
   ⟨snapCmd 0x1000 4 1 0 0 0, false, snapping (snapCmd 0x1000 4 1 0 0 0) ((tiny.setF TEL_PKG [] TEL_PKG.HELD_BARS 7).setF TEL_STATUS [] TEL_STATUS.SNAPS 0xFFFF), by unfold State.wf; decide +kernel⟩,
   ⟨snapCmd 0x1000 5 1 0 0 0, false, snapping (snapCmd 0x1000 5 1 0 0 0) (tiny.setF TEL_PKG [] TEL_PKG.HELD_BARS 7), by unfold State.wf; decide +kernel⟩,
   ⟨0x7F, up, by decide +kernel⟩,
   ⟨1, (up.setF TEL_PKG [] TEL_PKG.HELD_BARS 7).setF TEL_LINK_TACK_RX [11] TEL_LINK_TACK_RX.COUNT 9, by unfold State.wf; decide +kernel⟩,
   ⟨0xFFFF_FFFE, up, by unfold State.wf; decide +kernel⟩⟩

theorem witness_UnitsGoAway :
    (∃ (c : Cmd) (us : BitVec 32) (st : Nat) (s : State), FirstOf (s.powerTable c) st ∧ s.Accepts c 1281) ∧
    (∃ (c : Cmd) (us : BitVec 32) (st : Nat) (s : State), FirstOf (s.powerTable c) st ∧ s.Accepts c 1281) ∧
    (∃ (c : Cmd) (us : BitVec 32) (st : Nat) (s : State), FirstOf (s.powerTable c) st ∧ s.Accepts c 1282) ∧
    (∃ (c : Cmd) (us : BitVec 32) (st : Nat) (s : State), FirstOf (s.powerTable c) st ∧ s.Accepts c 1282) ∧
    (∃ (c : Cmd) (us : BitVec 32) (st : Nat) (s : State), FirstOf (s.powerTable c) st ∧ s.Accepts c 1282) ∧
    (∃ (c : Cmd) (us : BitVec 32) (st : Nat) (s : State), FirstOf (s.powerTable c) st ∧ s.Accepts c 1283 ∧ (256 ≤ cmdUnit c ∨ s.dieFolded (cmdUnit c / 32) = false)) ∧
    (∃ (c : Cmd) (us : BitVec 32) (st : Nat) (s : State), FirstOf (s.powerTable c) st ∧ s.Accepts c 1283 ∧ (256 ≤ cmdUnit c ∨ s.dieFolded (cmdUnit c / 32) = false)) ∧
    (∃ (c : Cmd) (us : BitVec 32) (st : Nat) (s : State), FirstOf (s.powerTable c) st ∧ s.Accepts c 1284) ∧
    (∃ (c : Cmd) (us : BitVec 32) (st : Nat) (s : State), FirstOf (s.powerTable c) st ∧ s.Accepts c 1284) ∧
    (∃ (c : Cmd) (s : State), s.UnitWf ∧ s.Accepts c 1281 ∧ NoneOf (s.powerTable c)) ∧
    (∃ (c : Cmd) (s : State), s.UnitWf ∧ s.Accepts c 1281 ∧ NoneOf (s.powerTable c)) ∧
    (∃ (c : Cmd) (s : State), s.UnitWf ∧ s.Accepts c 1281 ∧ NoneOf (s.powerTable c)) ∧
    (∃ (c : Cmd) (s : State), s.UnitWf ∧ s.Accepts c 1281 ∧ NoneOf (s.powerTable c)) ∧
    (∃ (c : Cmd) (s : State), s.UnitWf ∧ s.Accepts c 1281 ∧ NoneOf (s.powerTable c)) ∧
    (∃ (c : Cmd) (s : State), s.UnitWf ∧ s.Accepts c 1281 ∧ NoneOf (s.powerTable c)) ∧
    (∃ (c : Cmd) (s : State), s.UnitWf ∧ s.Accepts c 1281 ∧ NoneOf (s.powerTable c)) ∧
    (∃ (c : Cmd) (s : State), s.UnitWf ∧ s.Accepts c 1281 ∧ NoneOf (s.powerTable c)) ∧
    (∃ (c : Cmd) (us : BitVec 32) (s : State), s.UnitWf ∧ s.Accepts c 1282 ∧ NoneOf (s.powerTable c) ∧ (cmdUnit c < 264 ∨ cmdUnit c = 266)) ∧
    (∃ (c : Cmd) (us : BitVec 32) (s : State), s.UnitWf ∧ s.Accepts c 1282 ∧ NoneOf (s.powerTable c) ∧ (cmdUnit c < 264 ∨ cmdUnit c = 266)) ∧
    (∃ (c : Cmd) (us : BitVec 32) (s : State), s.UnitWf ∧ s.Accepts c 1282 ∧ NoneOf (s.powerTable c) ∧ (cmdUnit c < 264 ∨ cmdUnit c = 266)) ∧
    (∃ (c : Cmd) (s : State), s.wf ∧ s.Accepts c 1283 ∧ NoneOf (s.powerTable c) ∧ cmdUnit c < 256 ∧ s.dieFolded (cmdUnit c / 32) = false) ∧
    (∃ (c : Cmd) (s : State), s.wf ∧ s.Accepts c 1283 ∧ NoneOf (s.powerTable c) ∧ 256 ≤ cmdUnit c ∧ cmdUnit c < 264) ∧
    (∃ (c : Cmd) (s : State), s.wf ∧ s.Accepts c 1283 ∧ NoneOf (s.powerTable c) ∧ cmdUnit c = 266) ∧
    (∃ (c : Cmd) (us : BitVec 32) (s : State), s.UnitWf ∧ s.Accepts c 1284 ∧ NoneOf (s.powerTable c) ∧ cmdUnit c < 264 ∧ c.par 1 1 = 4) ∧
    (∃ (c : Cmd) (us : BitVec 32) (s : State), s.UnitWf ∧ s.Accepts c 1284 ∧ NoneOf (s.powerTable c) ∧ cmdUnit c < 264 ∧ c.par 1 1 = 4) ∧
    (∃ (c : Cmd) (us : BitVec 32) (s : State), s.UnitWf ∧ s.Accepts c 1284 ∧ NoneOf (s.powerTable c) ∧ cmdUnit c < 256 ∧ c.par 1 1 < 4 ∧ s.pstate (cmdUnit c) ≤ c.par 1 1) ∧
    (∃ (c : Cmd) (us : BitVec 32) (s : State), s.UnitWf ∧ s.Accepts c 1284 ∧ NoneOf (s.powerTable c) ∧ cmdUnit c < 256 ∧ c.par 1 1 < 4 ∧ s.pstate (cmdUnit c) ≤ c.par 1 1) ∧
    (∃ (c : Cmd) (us : BitVec 32) (s : State), s.UnitWf ∧ s.Accepts c 1284 ∧ NoneOf (s.powerTable c) ∧ cmdUnit c < 256 ∧ c.par 1 1 < s.pstate (cmdUnit c)) :=
  ⟨⟨power 0x0501 0x1F17 0 0 9, 3, stStaleWash, up, by simp only [State.powerTable, FirstOf]; repeat first | exact .inl ⟨by decide +kernel, trivial⟩ | refine .inr ⟨by decide +kernel, ?_⟩, by unfold State.Accepts; decide +kernel⟩,
   ⟨power 0x0501 0x07, 3, stBusy, playing, by simp only [State.powerTable, FirstOf]; repeat first | exact .inl ⟨by decide +kernel, trivial⟩ | refine .inr ⟨by decide +kernel, ?_⟩, by unfold State.Accepts; decide +kernel⟩,
   ⟨power 0x0502 0x0B 0 1, 3, stBadParam, up, by simp only [State.powerTable, FirstOf]; repeat first | exact .inl ⟨by decide +kernel, trivial⟩ | refine .inr ⟨by decide +kernel, ?_⟩, by unfold State.Accepts; decide +kernel⟩,
   ⟨power 0x0502 0x1F17, 3, stUnitFolded, foldedPress 255, by simp only [State.powerTable, FirstOf]; repeat first | exact .inl ⟨by decide +kernel, trivial⟩ | refine .inr ⟨by decide +kernel, ?_⟩, by unfold State.Accepts; decide +kernel⟩,
   ⟨power 0x0502 0x1F17, 3, stUnitInReset, resetPress 255, by simp only [State.powerTable, FirstOf]; repeat first | exact .inl ⟨by decide +kernel, trivial⟩ | refine .inr ⟨by decide +kernel, ?_⟩, by unfold State.Accepts; decide +kernel⟩,
   ⟨power 0x0503 0x1F17, 3, stBusy, up, by simp only [State.powerTable, FirstOf]; repeat first | exact .inl ⟨by decide +kernel, trivial⟩ | refine .inr ⟨by decide +kernel, ?_⟩, by unfold State.Accepts; decide +kernel, by decide +kernel⟩,
   ⟨power 0x0503 0x0B, 3, stBusy, up, by simp only [State.powerTable, FirstOf]; repeat first | exact .inl ⟨by decide +kernel, trivial⟩ | refine .inr ⟨by decide +kernel, ?_⟩, by unfold State.Accepts; decide +kernel, by decide +kernel⟩,
   ⟨power 0x0504 0x1F17 0 5, 3, stBadParam, up, by simp only [State.powerTable, FirstOf]; repeat first | exact .inl ⟨by decide +kernel, trivial⟩ | refine .inr ⟨by decide +kernel, ?_⟩, by unfold State.Accepts; decide +kernel⟩,
   ⟨power 0x0504 0x07 0 4, 3, stBusy, up, by simp only [State.powerTable, FirstOf]; repeat first | exact .inl ⟨by decide +kernel, trivial⟩ | refine .inr ⟨by decide +kernel, ?_⟩, by unfold State.Accepts; decide +kernel⟩,
   ⟨power 0x0501 0x1F17, busyPress 255, by unfold State.UnitWf State.wf; decide +kernel, by unfold State.Accepts; decide +kernel, by simp only [State.powerTable, NoneOf, List.mem_cons, List.not_mem_nil, or_false, forall_eq_or_imp, forall_eq]; refine ⟨?_, ?_, ?_, ?_, ?_, ?_, ?_, ?_⟩ <;> decide +kernel⟩,
   ⟨power 0x0501 0x07, ways, by unfold State.UnitWf State.wf; decide +kernel, by unfold State.Accepts; decide +kernel, by simp only [State.powerTable, NoneOf, List.mem_cons, List.not_mem_nil, or_false, forall_eq_or_imp, forall_eq]; refine ⟨?_, ?_, ?_, ?_, ?_, ?_, ?_, ?_⟩ <;> decide +kernel⟩,
   ⟨power 0x0501 0x09 1, playing, by unfold State.UnitWf State.wf; decide +kernel, by unfold State.Accepts; decide +kernel, by simp only [State.powerTable, NoneOf, List.mem_cons, List.not_mem_nil, or_false, forall_eq_or_imp, forall_eq]; refine ⟨?_, ?_, ?_, ?_, ?_, ?_, ?_, ?_⟩ <;> decide +kernel⟩,
   ⟨power 0x0501 0x0A, playing, by unfold State.UnitWf State.wf; decide +kernel, by unfold State.Accepts; decide +kernel, by simp only [State.powerTable, NoneOf, List.mem_cons, List.not_mem_nil, or_false, forall_eq_or_imp, forall_eq]; refine ⟨?_, ?_, ?_, ?_, ?_, ?_, ?_, ?_⟩ <;> decide +kernel⟩,
   ⟨power 0x0501 0x0B, ways, by unfold State.UnitWf State.wf; decide +kernel, by unfold State.Accepts; decide +kernel, by simp only [State.powerTable, NoneOf, List.mem_cons, List.not_mem_nil, or_false, forall_eq_or_imp, forall_eq]; refine ⟨?_, ?_, ?_, ?_, ?_, ?_, ?_, ?_⟩ <;> decide +kernel⟩,
   ⟨power 0x0501 0x529, link 11 6, by unfold State.UnitWf State.wf; decide +kernel, by unfold State.Accepts; decide +kernel, by simp only [State.powerTable, NoneOf, List.mem_cons, List.not_mem_nil, or_false, forall_eq_or_imp, forall_eq]; refine ⟨?_, ?_, ?_, ?_, ?_, ?_, ?_, ?_⟩ <;> decide +kernel⟩,
   ⟨power 0x0501 0x13B, port 2 {}, by unfold State.UnitWf State.wf; decide +kernel, by unfold State.Accepts; decide +kernel, by simp only [State.powerTable, NoneOf, List.mem_cons, List.not_mem_nil, or_false, forall_eq_or_imp, forall_eq]; refine ⟨?_, ?_, ?_, ?_, ?_, ?_, ?_, ?_⟩ <;> decide +kernel⟩,
   ⟨power 0x0501 0xF4A, stacked 31 { stack := [] }, by unfold State.UnitWf State.wf; decide +kernel, by unfold State.Accepts; decide +kernel, by simp only [State.powerTable, NoneOf, List.mem_cons, List.not_mem_nil, or_false, forall_eq_or_imp, forall_eq]; refine ⟨?_, ?_, ?_, ?_, ?_, ?_, ?_, ?_⟩ <;> decide +kernel⟩,
   ⟨power 0x0502 0x1F17, 9, busyPress 255, by unfold State.UnitWf State.wf; decide +kernel, by unfold State.Accepts; decide +kernel, by simp only [State.powerTable, NoneOf, List.mem_cons, List.not_mem_nil, or_false, forall_eq_or_imp, forall_eq]; refine ⟨?_, ?_, ?_, ?_, ?_, ?_, ?_, ?_⟩ <;> decide +kernel, by decide +kernel⟩,
   ⟨power 0x0502 0x07, 9, busyPress 255, by unfold State.UnitWf State.wf; decide +kernel, by unfold State.Accepts; decide +kernel, by simp only [State.powerTable, NoneOf, List.mem_cons, List.not_mem_nil, or_false, forall_eq_or_imp, forall_eq]; refine ⟨?_, ?_, ?_, ?_, ?_, ?_, ?_, ?_⟩ <;> decide +kernel, by decide +kernel⟩,
   ⟨power 0x0502 0x0B, 9, port 2 {}, by unfold State.UnitWf State.wf; decide +kernel, by unfold State.Accepts; decide +kernel, by simp only [State.powerTable, NoneOf, List.mem_cons, List.not_mem_nil, or_false, forall_eq_or_imp, forall_eq]; refine ⟨?_, ?_, ?_, ?_, ?_, ?_, ?_, ?_⟩ <;> decide +kernel, by decide +kernel⟩,
   ⟨power 0x0503 0x1F17, foldedPress 255, by unfold State.wf; decide +kernel, by unfold State.Accepts; decide +kernel, by simp only [State.powerTable, NoneOf, List.mem_cons, List.not_mem_nil, or_false, forall_eq_or_imp, forall_eq]; refine ⟨?_, ?_, ?_, ?_, ?_, ?_, ?_, ?_⟩ <;> decide +kernel, by decide +kernel, by decide +kernel⟩,
   ⟨power 0x0503 0x07, (foldedDie 7).setReg PWR_PFOLD [7] 0xFFFF_FFFF, by unfold State.wf; decide +kernel, by unfold State.Accepts; decide +kernel, by simp only [State.powerTable, NoneOf, List.mem_cons, List.not_mem_nil, or_false, forall_eq_or_imp, forall_eq]; refine ⟨?_, ?_, ?_, ?_, ?_, ?_, ?_, ?_⟩ <;> decide +kernel, by decide +kernel, by decide +kernel⟩,
   ⟨power 0x0503 0x0B, foldedDie 11, by unfold State.wf; decide +kernel, by unfold State.Accepts; decide +kernel, by simp only [State.powerTable, NoneOf, List.mem_cons, List.not_mem_nil, or_false, forall_eq_or_imp, forall_eq]; refine ⟨?_, ?_, ?_, ?_, ?_, ?_, ?_, ?_⟩ <;> decide +kernel, by decide +kernel⟩,
   ⟨power 0x0504 0x1F17 0 4, 9, { up with sects := (List.range 4).map (fun k => (1020 + k, { st := .paused })) }, by unfold State.UnitWf State.wf; decide +kernel, by unfold State.Accepts; decide +kernel, by simp only [State.powerTable, NoneOf, List.mem_cons, List.not_mem_nil, or_false, forall_eq_or_imp, forall_eq]; refine ⟨?_, ?_, ?_, ?_, ?_, ?_, ?_, ?_⟩ <;> decide +kernel, by decide +kernel, by decide +kernel⟩,
   ⟨power 0x0504 0x07 0 4, 9, { up.setReg PWR_PFOLD [7] 0x7FFF_FFFF with sects := (List.range 4).map (fun k => (1020 + k, { st := .paused })) }, by unfold State.UnitWf State.wf; decide +kernel, by unfold State.Accepts; decide +kernel, by simp only [State.powerTable, NoneOf, List.mem_cons, List.not_mem_nil, or_false, forall_eq_or_imp, forall_eq]; refine ⟨?_, ?_, ?_, ?_, ?_, ?_, ?_, ?_⟩ <;> decide +kernel, by decide +kernel, by decide +kernel⟩,
   ⟨power 0x0504 0x1F17 0 3, 9, up, by unfold State.UnitWf State.wf; decide +kernel, by unfold State.Accepts; decide +kernel, by simp only [State.powerTable, NoneOf, List.mem_cons, List.not_mem_nil, or_false, forall_eq_or_imp, forall_eq]; refine ⟨?_, ?_, ?_, ?_, ?_, ?_, ?_, ?_⟩ <;> decide +kernel, by decide +kernel, by decide +kernel, by decide +kernel⟩,
   ⟨power 0x0504 0x10 0 0, 9, up.setReg PWR_PIDLE [0] 1, by unfold State.UnitWf State.wf; decide +kernel, by unfold State.Accepts; decide +kernel, by simp only [State.powerTable, NoneOf, List.mem_cons, List.not_mem_nil, or_false, forall_eq_or_imp, forall_eq]; refine ⟨?_, ?_, ?_, ?_, ?_, ?_, ?_, ?_⟩ <;> decide +kernel, by decide +kernel, by decide +kernel, by decide +kernel⟩,
   ⟨power 0x0504 0x1F17 0 0, 9, up.setReg PWR_PSTATE [7] 0xC000_0000_0000_0000, by unfold State.UnitWf State.wf; decide +kernel, by unfold State.Accepts; decide +kernel, by simp only [State.powerTable, NoneOf, List.mem_cons, List.not_mem_nil, or_false, forall_eq_or_imp, forall_eq]; refine ⟨?_, ?_, ?_, ?_, ?_, ?_, ?_, ?_⟩ <;> decide +kernel, by decide +kernel, by decide +kernel⟩⟩

theorem witness_UnitsReturn :
    (∃ (u : Fin 298) (s : State), s.wf ∧ s.fw.inCold = false ∧ ↑u ∈ s.pwr.asserted) ∧
    (∃ (u : Fin 298) (s : State), s.wf ∧ s.fw.inCold = false ∧ ↑u ∈ s.pwr.asserted) ∧
    (∃ (u : Fin 298) (s : State), s.wf ∧ s.fw.inCold = false ∧ ↑u ∈ s.pwr.asserted) ∧
    (∃ (u : Fin 298) (s : State), s.wf ∧ (s.fw.inCold = true ∨ ¬↑u ∈ s.pwr.asserted)) ∧
    (∃ (u : Fin 298) (s : State), s.wf ∧ (s.fw.inCold = true ∨ ¬↑u ∈ s.pwr.asserted)) ∧
    (∃ (u : Fin 298) (s : State) (us : BitVec 32), s.wf ∧ ↑u < 256 ∧ s.UnitWf ∧ s.fw.inCold = false ∧ (¬↑u ∈ s.pwr.asserted) ∧ (¬dieUnit (↑u / 32) ∈ s.pwr.asserted) ∧ s.hasDie (↑u / 32) = true ∧ s.dieInReset (↑u / 32) = false ∧ (¬dieUnit (↑u / 32) ∈ s.pwr.unfolding) ∧ s.pressFolded ↑u = false ∧ s.pressInReset ↑u = true ∧ s.bit PRS_STATUS (pix ↑u) PRS_STATUS.ZEROING = false) ∧
    (∃ (u : Fin 298) (s : State) (us : BitVec 32), s.wf ∧ ↑u < 256 ∧ s.UnitWf ∧ s.fw.inCold = false ∧ (¬↑u ∈ s.pwr.asserted) ∧ (¬dieUnit (↑u / 32) ∈ s.pwr.asserted) ∧ s.hasDie (↑u / 32) = true ∧ s.dieInReset (↑u / 32) = false ∧ (¬dieUnit (↑u / 32) ∈ s.pwr.unfolding) ∧ s.pressFolded ↑u = false ∧ s.pressInReset ↑u = true ∧ s.bit PRS_STATUS (pix ↑u) PRS_STATUS.ZEROING = false) ∧
    (∃ (u : Fin 298) (s : State) (us : BitVec 32), s.wf ∧ 256 ≤ ↑u ∧ ↑u < 264 ∧ s.UnitWf ∧ s.fw.inCold = false ∧ (¬↑u ∈ s.pwr.asserted) ∧ s.hasDie (↑u - 256) = true ∧ bitOf (s.reg RST_DIE []) (↑u - 256) = true ∧ s.dieFolded (↑u - 256) = false ∧ s.bit CLK_DIE [↑u - 256] CLK_DIE.LOCKED = true ∧ s.dieSeamsUp (↑u - 256) = true ∧ (∀ (k : Nat), k < 32 → s.bit PRS_STATUS [↑u - 256, k] PRS_STATUS.ZEROING = false)) ∧
    (∃ (u : Fin 298) (s : State) (us : BitVec 32), s.wf ∧ 256 ≤ ↑u ∧ ↑u < 264 ∧ s.UnitWf ∧ s.fw.inCold = false ∧ (¬↑u ∈ s.pwr.asserted) ∧ s.hasDie (↑u - 256) = true ∧ bitOf (s.reg RST_DIE []) (↑u - 256) = true ∧ s.dieFolded (↑u - 256) = false ∧ s.bit CLK_DIE [↑u - 256] CLK_DIE.LOCKED = true ∧ s.dieSeamsUp (↑u - 256) = true ∧ (∀ (k : Nat), k < 32 → s.bit PRS_STATUS [↑u - 256, k] PRS_STATUS.ZEROING = false)) ∧
    (∃ (u : Fin 298) (s : State) (us : BitVec 32) (c : Cmd), s.wf ∧ s.fw.inCold = false ∧ (¬↑u ∈ s.pwr.asserted) ∧ (s.unitInReset ↑u = true ∨ ↑u ∈ s.pwr.unfolding ∨ s.job ↑u ≠ none) ∧ s.waiters (WaitFor.unitReset ↑u) = [c] ∧ s.waiters (WaitFor.unfold ↑u) = []) ∧
    (∃ (p : Fin 256) (s : State), s.wf ∧ (s.fw.inCold = false ∧ s.hasDie (↑p / 32) = true ∧ s.pressFolded ↑p = false ∧ ¬↑p ∈ s.pwr.asserted ∧ ¬dieUnit (↑p / 32) ∈ s.pwr.asserted ∧ s.bit CLK_DIE [↑p / 32] CLK_DIE.LOCKED = true)) ∧
    (∃ (p : Fin 256) (s : State), s.wf ∧ (¬(s.fw.inCold = false ∧ s.hasDie (↑p / 32) = true ∧ s.pressFolded ↑p = false ∧ ¬↑p ∈ s.pwr.asserted ∧ ¬dieUnit (↑p / 32) ∈ s.pwr.asserted ∧ s.bit CLK_DIE [↑p / 32] CLK_DIE.LOCKED = true))) ∧
    (∃ (p : Fin 256) (s : State), s.wf ∧ (¬(s.fw.inCold = false ∧ s.hasDie (↑p / 32) = true ∧ s.pressFolded ↑p = false ∧ ¬↑p ∈ s.pwr.asserted ∧ ¬dieUnit (↑p / 32) ∈ s.pwr.asserted ∧ s.bit CLK_DIE [↑p / 32] CLK_DIE.LOCKED = true))) ∧
    (∃ (d : Fin 8) (us : BitVec 32) (s : State), s.UnitWf ∧ (∀ (x : Nat × Nat), x ∈ s.pwr.rising → x.snd ≤ 4)) ∧
    (∃ (d : Fin 12) (v : BitVec 8) (hbm : Bool) (s : State), s.wf ∧ tok 0 s.pwr.stackTemp = true ∧ (s.fw.inCold = true ∨ s.hasDie ↑d = false ∨ hbm = true ∧ 8 ≤ ↑d ∨ hbm = false ∧ 115 ≤ v.toNat)) ∧
    (∃ (d : Fin 12) (v : BitVec 8) (hbm : Bool) (s : State), s.wf ∧ tok 0 s.pwr.stackTemp = true ∧ (s.fw.inCold = true ∨ s.hasDie ↑d = false ∨ hbm = true ∧ 8 ≤ ↑d ∨ hbm = false ∧ 115 ≤ v.toNat)) ∧
    (∃ (d : Fin 12) (v : BitVec 8) (hbm : Bool) (s : State), s.wf ∧ tok 0 s.pwr.stackTemp = true ∧ (s.fw.inCold = true ∨ s.hasDie ↑d = false ∨ hbm = true ∧ 8 ≤ ↑d ∨ hbm = false ∧ 115 ≤ v.toNat)) ∧
    (∃ (d : Fin 12) (v : BitVec 8) (hbm : Bool) (s : State), s.wf ∧ tok 0 s.pwr.stackTemp = true ∧ (¬(s.fw.inCold = true ∨ s.hasDie ↑d = false ∨ hbm = true ∧ 8 ≤ ↑d ∨ hbm = false ∧ 115 ≤ v.toNat))) ∧
    (∃ (d : Fin 12) (v : BitVec 8) (hbm : Bool) (s : State), s.wf ∧ tok 0 s.pwr.stackTemp = true ∧ (¬(s.fw.inCold = true ∨ s.hasDie ↑d = false ∨ hbm = true ∧ 8 ≤ ↑d ∨ hbm = false ∧ 115 ≤ v.toNat))) ∧
    (∃ (d : Fin 12) (v : BitVec 8) (hbm : Bool) (s : State), s.wf ∧ tok 0 s.pwr.stackTemp = true ∧ (¬(s.fw.inCold = true ∨ s.hasDie ↑d = false ∨ hbm = true ∧ 8 ≤ ↑d ∨ hbm = false ∧ 115 ≤ v.toNat))) ∧
    (∃ (d : Fin 12) (v : BitVec 8) (hbm : Bool) (s : State), s.wf ∧ tok 0 s.pwr.stackTemp = true ∧ (¬(s.fw.inCold = true ∨ s.hasDie ↑d = false ∨ hbm = true ∧ 8 ≤ ↑d ∨ hbm = false ∧ 115 ≤ v.toNat))) ∧
    (∃ (d : Fin 12) (v : BitVec 8) (hbm : Bool) (s : State), s.wf ∧ tok 0 s.pwr.stackTemp = true ∧ (¬(s.fw.inCold = true ∨ s.hasDie ↑d = false ∨ hbm = true ∧ 8 ≤ ↑d ∨ hbm = false ∧ 115 ≤ v.toNat))) ∧
    (∃ (d : Fin 12) (v : BitVec 8) (hbm : Bool) (s : State), s.wf ∧ tok 0 s.pwr.stackTemp = true ∧ (¬(s.fw.inCold = true ∨ s.hasDie ↑d = false ∨ hbm = true ∧ 8 ≤ ↑d ∨ hbm = false ∧ 115 ≤ v.toNat))) ∧
    (∃ (d : Fin 12) (v : BitVec 8) (hbm : Bool) (s : State), s.wf ∧ tok 0 s.pwr.stackTemp = true ∧ (¬(s.fw.inCold = true ∨ s.hasDie ↑d = false ∨ hbm = true ∧ 8 ≤ ↑d ∨ hbm = false ∧ 115 ≤ v.toNat))) ∧
    (∃ (d : Fin 12) (v : BitVec 8) (hbm : Bool) (s : State), s.wf ∧ tok 0 s.pwr.stackTemp = true ∧ (¬(s.fw.inCold = true ∨ s.hasDie ↑d = false ∨ hbm = true ∧ 8 ≤ ↑d ∨ hbm = false ∧ 115 ≤ v.toNat))) ∧
    (∃ (w : Who) (v : Word) (s : State), s.wf ∧ s.regAway PWR_THERM [] = false) ∧
    (∃ (w : Who) (v : Word) (s : State), s.wf ∧ s.regAway PWR_THERM [] = false) ∧
    (∃ (w : Who) (v : Word) (s : State), s.wf ∧ s.regAway PWR_THERM [] = false) ∧
    (∃ (stream : BitVec 12) (seq : BitVec 16) (x : Desc) (s : State), s.wf ∧ (∀ (y : Desc), y ∈ s.score.desc → y.die < 8 ∧ y.press < 32) ∧ s.descOf stream.toNat seq.toNat = none) ∧
    (∃ (stream : BitVec 12) (seq : BitVec 16) (x : Desc) (s : State), s.wf ∧ (∀ (y : Desc), y ∈ s.score.desc → y.die < 8 ∧ y.press < 32) ∧ s.descOf stream.toNat seq.toNat = some x) ∧
    (∃ (stream : BitVec 12) (seq : BitVec 16) (x : Desc) (s : State), s.wf ∧ (∀ (y : Desc), y ∈ s.score.desc → y.die < 8 ∧ y.press < 32) ∧ s.descOf stream.toNat seq.toNat = some x) ∧
    (∃ (l : Fin 12) (s : State), s.wf ∧ (s.linkUp ↑l = true ∨ s.dieUp (8 + ↑l / 6) = false)) ∧
    (∃ (l : Fin 12) (s : State), s.wf ∧ (s.linkUp ↑l = true ∨ s.dieUp (8 + ↑l / 6) = false)) ∧
    (∃ (l : Fin 12) (s : State), s.wf ∧ s.linkUp ↑l = false ∧ s.dieUp (8 + ↑l / 6) = true) ∧
    (∃ (l : Fin 12) (s : State), s.wf ∧ s.linkUp ↑l = false ∧ s.dieUp (8 + ↑l / 6) = true) :=
  ⟨⟨279, asserted 279, by unfold State.wf; decide +kernel⟩,
   ⟨279, asserted 279 (up.setF AON_WASH [279] AON_WASH.WASH 65535), by unfold State.wf; decide +kernel⟩,
   ⟨0, asserted 0, by unfold State.wf; decide +kernel⟩,
   ⟨279, up, by unfold State.wf; decide +kernel⟩,
   ⟨279, State.reset, by unfold State.wf; decide +kernel⟩,
   ⟨255, resetPress 255 ((zeroed 7).wait (.unitReset 255) (power 0x0501 0x1F17)), 77, by unfold State.UnitWf State.wf; decide +kernel⟩,
   ⟨255, resetPress 255 ((zeroed 7).setF PRS_CTRL (pix 255) PRS_CTRL.PAUSE 1), 77, by unfold State.UnitWf State.wf; decide +kernel⟩,
   ⟨263, returning, 77, by unfold State.UnitWf State.wf; decide +kernel⟩,
   ⟨263, { returning with pwr := { fresh := [7], asserted := [255] } }, 77, by unfold State.UnitWf State.wf; decide +kernel⟩,
   ⟨255, resetPress 255 (up.wait (.unitReset 255) (power 0x0501 0x1F17)), 77, power 0x0501 0x1F17, by unfold State.wf; decide +kernel⟩,
   ⟨255, (up.setF CLK_DIE [7] CLK_DIE.LOCKED 1).setF PRS_STATUS (pix 255) PRS_STATUS.ZEROING 1, by unfold State.wf; decide +kernel⟩,
   ⟨255, up, by unfold State.wf; decide +kernel⟩,
   ⟨255, asserted 263 (up.setF CLK_DIE [7] CLK_DIE.LOCKED 1), by unfold State.wf; decide +kernel⟩,
   ⟨1, 9, rising [(32, 1), (63, 4), (64, 2)] (power 0x0504 0x11), by unfold State.UnitWf State.wf; decide +kernel⟩,
   ⟨7, 115, false, up, by unfold State.wf; decide +kernel⟩,
   ⟨7, 1, false, State.reset, by unfold State.wf; decide +kernel⟩,
   ⟨8, 96, true, up, by unfold State.wf; decide +kernel⟩,
   ⟨7, 114, false, up, by unfold State.wf; decide +kernel⟩,
   ⟨7, 95, false, up.setF PWR_THERM [] PWR_THERM.THROTTLED 0x80, by unfold State.wf; decide +kernel⟩,
   ⟨7, 94, false, up.setF PWR_THERM [] PWR_THERM.THROTTLED 0x81, by unfold State.wf; decide +kernel⟩,
   ⟨11, 100, false, up, by unfold State.wf; decide +kernel⟩,
   ⟨7, 120, true, up, by unfold State.wf; decide +kernel⟩,
   ⟨7, 89, true, (throttled7 95), by unfold State.wf; decide +kernel⟩,
   ⟨7, 90, true, (throttled7 95), by unfold State.wf; decide +kernel⟩,
   ⟨7, 20, false, (throttled7 90), by unfold State.wf; decide +kernel⟩,
   ⟨.core 0 true, 0xFF, up.setF PWR_TEMP [0] PWR_TEMP.NOW 105, by unfold State.wf; decide +kernel⟩,
   ⟨.core 0 true, 50, (throttled7 95).setF PWR_TEMP [0] PWR_TEMP.NOW 50, by unfold State.wf; decide +kernel⟩,
   ⟨.core 0 true, 96, throttled7 89, by unfold State.wf; decide +kernel⟩,
   ⟨4095, 3, held 4, darn (held 4), by unfold State.wf; decide +kernel⟩,
   ⟨9, 3, held 4, darn (held 4), by unfold State.wf; decide +kernel⟩,
   ⟨9, 3, held 4, { (darn (held 4)).setBit RST_EVENT [] RST_EVENT.STREAM_ENDED with tempo := playing.tempo }, by unfold State.wf; decide +kernel⟩,
   ⟨0, ways, by unfold State.wf; decide +kernel⟩,
   ⟨11, up.setReg RST_DIE [] 0x200, by unfold State.wf; decide +kernel⟩,
   ⟨11, ways, by unfold State.wf; decide +kernel⟩,
   ⟨11, { ways with legacy := [(11, { store := [] })] }, by unfold State.wf; decide +kernel⟩⟩

theorem witness_ResetsOfThePackage :
    (∃ (r : Fin 17) (s : State), s.wf ∧ (↑r = 0 ∨ s.fuses.variant = 2 ∧ (↑r = 12 ∨ ↑r = 16))) ∧
    (∃ (r : Fin 17) (s : State), s.wf ∧ (↑r = 0 ∨ s.fuses.variant = 2 ∧ (↑r = 12 ∨ ↑r = 16))) ∧
    (∃ (r : Fin 17) (s : State), s.wf ∧ (¬(↑r = 0 ∨ s.fuses.variant = 2 ∧ (↑r = 12 ∨ ↑r = 16)))) ∧
    (∃ (r : Fin 17) (s : State), s.wf ∧ (¬(↑r = 0 ∨ s.fuses.variant = 2 ∧ (↑r = 12 ∨ ↑r = 16)))) ∧
    (∃ (d : Fin 8) (s : State), (s.fw.inCold = true ∨ s.bootF RST_BOOT.STAGE < 5)) ∧
    (∃ (d : Fin 8) (s : State), (s.fw.inCold = true ∨ s.bootF RST_BOOT.STAGE < 5)) ∧
    (∃ (d : Fin 8) (s : State), s.fw.inCold = false ∧ 5 ≤ s.bootF RST_BOOT.STAGE) ∧
    (∃ (s : State), s.wf) ∧
    (∃ (w : Who) (v : BitVec 32) (s : State), s.wf ∧ Who.mMode w = true ∧ BitVec.setWidth 16 v = 49181#16 ∧ s.fw.coresHeld = false) ∧
    (∃ (w : Who) (v : BitVec 32) (s : State), s.wf ∧ (Who.mMode w = false ∨ BitVec.setWidth 16 v ≠ 49181#16 ∨ s.fw.coresHeld = true)) ∧
    (∃ (w : Who) (v : BitVec 32) (s : State), s.wf ∧ (Who.mMode w = false ∨ BitVec.setWidth 16 v ≠ 49181#16 ∨ s.fw.coresHeld = true)) ∧
    (∃ (d : Fin 12) (c : BitVec 8) (s : State), s.wf ∧ (c.toNat < 115 ∨ s.fw.inCold = false ∧ s.dieThere ↑d = false)) ∧
    (∃ (d : Fin 12) (c : BitVec 8) (s : State), s.wf ∧ (c.toNat < 115 ∨ s.fw.inCold = false ∧ s.dieThere ↑d = false)) ∧
    (∃ (d : Fin 12) (c : BitVec 8) (s : State), s.wf ∧ 115 ≤ c.toNat ∧ (s.fw.inCold = true ∨ s.dieThere ↑d = true)) ∧
    (∃ (d : Fin 12) (c : BitVec 8) (s : State), s.wf ∧ 115 ≤ c.toNat ∧ (s.fw.inCold = true ∨ s.dieThere ↑d = true)) :=
  ⟨⟨0, playing, by unfold State.wf; decide +kernel⟩,
   ⟨16, { playing with fuses := { playing.fuses with variant := 2 } }, by unfold State.wf; decide +kernel⟩,
   ⟨16, playing, by unfold State.wf; decide +kernel⟩,
   ⟨1, { playing with fuses := { playing.fuses with variant := 2 } }, by unfold State.wf; decide +kernel⟩,
   ⟨7, State.reset, by decide +kernel⟩,
   ⟨7, booting 4 0, by decide +kernel⟩,
   ⟨7, booting 5 0, by decide +kernel⟩,
   ⟨playing, by unfold State.wf; decide +kernel⟩,
   ⟨.core 15 true, 0xFFFF_C01D, playing, by unfold State.wf; decide +kernel⟩,
   ⟨.core 15 false, 0xC01D, playing, by unfold State.wf; decide +kernel⟩,
   ⟨.core 15 true, 0xC01D, State.reset, by unfold State.wf; decide +kernel⟩,
   ⟨11, 114, playing, by unfold State.wf; decide +kernel⟩,
   ⟨7, 255, tiny, by unfold State.wf; decide +kernel⟩,
   ⟨11, 115, playing, by unfold State.wf; decide +kernel⟩,
   ⟨7, 255, State.reset, by unfold State.wf; decide +kernel⟩⟩

theorem witness_BootStages :
    (∃ (heat : BitVec 8) (ok : Bool) (f : Option (Fin 11)) (ms : BitVec 16) (s : State), s.wf ∧ s.fw.inCold = true ∧ (¬(s.refActive ≠ 5 ∧ ¬(s.pins.tripped = true ∧ 95 ≤ heat.toNat) ∧ s.pins.testEn = false))) ∧
    (∃ (heat : BitVec 8) (ok : Bool) (f : Option (Fin 11)) (ms : BitVec 16) (s : State), s.wf ∧ s.fw.inCold = true ∧ (¬(s.refActive ≠ 5 ∧ ¬(s.pins.tripped = true ∧ 95 ≤ heat.toNat) ∧ s.pins.testEn = false))) ∧
    (∃ (heat : BitVec 8) (ok : Bool) (f : Option (Fin 11)) (ms : BitVec 16) (s : State), s.wf ∧ s.fw.inCold = true ∧ (¬(s.refActive ≠ 5 ∧ ¬(s.pins.tripped = true ∧ 95 ≤ heat.toNat) ∧ s.pins.testEn = false))) ∧
    (∃ (heat : BitVec 8) (ok : Bool) (f : Option (Fin 11)) (ms : BitVec 16) (s : State), s.wf ∧ s.fw.inCold = true ∧ (s.refActive ≠ 5 ∧ ¬(s.pins.tripped = true ∧ 95 ≤ heat.toNat) ∧ s.pins.testEn = false)) ∧
    (∃ (heat : BitVec 8) (ok : Bool) (f : Option (Fin 11)) (ms : BitVec 16) (s : State), s.BootAt 2) ∧
    (∃ (heat : BitVec 8) (ok : Bool) (f : Option (Fin 11)) (ms : BitVec 16) (s : State), s.BootAt 2) ∧
    (∃ (heat : BitVec 8) (ok : Bool) (f : Option (Fin 11)) (ms : BitVec 16) (s : State), s.BootAt 3 ∧ s.smState = 0 ∧ s.bootF RST_BOOT.FAIL = 1) ∧
    (∃ (heat : BitVec 8) (ok : Bool) (f : Option (Fin 11)) (ms : BitVec 16) (s : State) (x : List Byte) (y : List Byte) (ra : Nat) (rb : Nat), s.BootAt 3 ∧ s.smState = 0 ∧ s.bootF RST_BOOT.FAIL ≠ 1 ∧ s.bootImage 1 (s.copyA 1) = (x, some ra) ∧ s.bootImage 1 (1 - s.copyA 1) = (y, some rb)) ∧
    (∃ (heat : BitVec 8) (ok : Bool) (ms : BitVec 16) (s : State), s.BootAt 4 ∧ s.smState = 0) ∧
    (∃ (heat : BitVec 8) (ok : Bool) (ms : BitVec 16) (s : State), s.BootAt 4 ∧ s.smState = 0) ∧
    (∃ (heat : BitVec 8) (ok : Bool) (f : Option (Fin 11)) (ms : BitVec 16) (s : State) (x : List Byte) (y : List Byte) (ra : Nat) (rb : Nat), s.BootAt 5 ∧ (s.smState = 2 ∨ s.smState = 3) ∧ s.bootImage 2 (s.copyA 2) = (x, some ra) ∧ s.bootImage 2 (1 - s.copyA 2) = (y, some rb)) ∧
    (∃ (s : State), s.wf ∧ tok { : Target } s.icu.targets = true ∧ (¬(s.bootF RST_BOOT.STAGE = 6 ∧ s.fw.coresHeld = false ∧ s.bit CMD_IF_STATUS [] CMD_IF_STATUS.FW_READY = false))) ∧
    (∃ (s : State), s.wf ∧ tok { : Target } s.icu.targets = true ∧ s.bootF RST_BOOT.STAGE = 6 ∧ s.fw.coresHeld = false ∧ s.bit CMD_IF_STATUS [] CMD_IF_STATUS.FW_READY = false) ∧
    (∃ (s : State), s.wf ∧ tok { : Target } s.icu.targets = true ∧ s.bootF RST_BOOT.STAGE = 6 ∧ s.fw.coresHeld = false ∧ s.bit CMD_IF_STATUS [] CMD_IF_STATUS.FW_READY = false) :=
  ⟨⟨0, true, none, 1, { cold with pins := { cold.pins with testEn := true } }, by unfold State.wf; decide +kernel⟩,
   ⟨95, true, none, 1, { cold with pins := { cold.pins with tripped := true } }, by unfold State.wf; decide +kernel⟩,
   ⟨0, true, none, 1, State.reset, by unfold State.wf; decide +kernel⟩,
   ⟨94, true, none, 1, { cold with pins := { cold.pins with tripped := true } }, by unfold State.wf; decide +kernel⟩,
   ⟨0, true, none, 1, booting 2 0, by unfold State.BootAt State.wf; decide +kernel⟩,
   ⟨0, false, none, 65535, { booting 2 0 with fuses := { cold.fuses with variant := 2 } }, by unfold State.BootAt State.wf; decide +kernel⟩,
   ⟨0, true, none, 1, booting 3 1, by unfold State.BootAt State.wf; decide +kernel⟩,
   ⟨0, true, none, 1, booting 3 0, [], [], 1, 1, by unfold State.BootAt State.wf; decide +kernel⟩,
   ⟨0, true, 1, booting 4 0, by unfold State.BootAt State.wf; decide +kernel⟩,
   ⟨0, true, 1, { booting 4 2 with sm := { zeroLatch := true } }, by unfold State.BootAt State.wf; decide +kernel⟩,
   ⟨0, true, none, 1, booting 5 0 2, [], [], 1, 1, by unfold State.BootAt State.wf; decide +kernel⟩,
   ⟨up, by unfold State.wf; decide +kernel⟩,
   ⟨{ booting 6 0 2 with fw := { inCold := false, coresHeld := false } }, by unfold State.wf; decide +kernel⟩,
   ⟨{ (booting 6 0 2).setF RST_BOOT [] RST_BOOT.COPY_FW 1 with fw := { inCold := false, coresHeld := false, region := 1 } }, by unfold State.wf; decide +kernel⟩⟩

theorem witness_FirmwareUpdates :
    (∃ (c : Cmd) (s : State), s.wf ∧ s.Accepts c 2561 ∧ s.StageBad c) ∧
    (∃ (c : Cmd) (s : State), s.wf ∧ s.Accepts c 2561 ∧ s.StageBad c) ∧
    (∃ (c : Cmd) (s : State) (st : Nat), s.wf ∧ s.Accepts c 2561 ∧ (¬s.StageBad c) ∧ s.rangeAway (c.par 0 8) (c.par 8 4) = some st) ∧
    (∃ (c : Cmd) (s : State) (st : Nat), s.wf ∧ s.Accepts c 2561 ∧ (¬s.StageBad c) ∧ s.rangeAway (c.par 0 8) (c.par 8 4) = some st) ∧
    (∃ (c : Cmd) (s : State), s.wf ∧ s.Accepts c 2561 ∧ (¬s.StageBad c) ∧ s.rangeAway (c.par 0 8) (c.par 8 4) = none) ∧
    (∃ (c : Cmd) (s : State), s.wf ∧ s.Accepts c 2561 ∧ (¬s.StageBad c) ∧ s.rangeAway (c.par 0 8) (c.par 8 4) = none) ∧
    (∃ (c : Cmd) (s : State), s.wf ∧ s.Accepts c 2562 ∧ (2 ≤ c.par 0 1 ∨ c.par 1 15 ≠ 0)) ∧
    (∃ (c : Cmd) (s : State), s.wf ∧ s.Accepts c 2562 ∧ (¬(2 ≤ c.par 0 1 ∨ c.par 1 15 ≠ 0)) ∧ (s.fw.staged = none ∨ s.fw.activateCmd ≠ none)) ∧
    (∃ (c : Cmd) (s : State), s.wf ∧ s.Accepts c 2562 ∧ (¬(2 ≤ c.par 0 1 ∨ c.par 1 15 ≠ 0)) ∧ (s.fw.staged = none ∨ s.fw.activateCmd ≠ none)) ∧
    (∃ (c : Cmd) (s : State), s.wf ∧ s.Accepts c 2562 ∧ (¬(2 ≤ c.par 0 1 ∨ c.par 1 15 ≠ 0)) ∧ (¬(s.fw.staged = none ∨ s.fw.activateCmd ≠ none)) ∧ (s.getF AON_FW [] AON_FW.NFW_CLASS ≠ s.getF AON_FW_STAGED [] AON_FW_STAGED.NFW_CLASS ∧ c.par 0 1 = 0 ∧ ∃ (d : Nat), d ∈ s.condDies ∧ s.bit SCR_STATUS [d] SCR_STATUS.INSTALLED = true)) ∧
    (∃ (c : Cmd) (s : State), s.wf ∧ s.Accepts c 2562 ∧ (¬(2 ≤ c.par 0 1 ∨ c.par 1 15 ≠ 0)) ∧ (¬(s.fw.staged = none ∨ s.fw.activateCmd ≠ none)) ∧ (¬(s.getF AON_FW [] AON_FW.NFW_CLASS ≠ s.getF AON_FW_STAGED [] AON_FW_STAGED.NFW_CLASS ∧ c.par 0 1 = 0 ∧ ∃ (d : Nat), d ∈ s.condDies ∧ s.bit SCR_STATUS [d] SCR_STATUS.INSTALLED = true))) ∧
    (∃ (c : Cmd) (s : State), s.wf ∧ s.Accepts c 2562 ∧ (¬(2 ≤ c.par 0 1 ∨ c.par 1 15 ≠ 0)) ∧ (¬(s.fw.staged = none ∨ s.fw.activateCmd ≠ none)) ∧ (¬(s.getF AON_FW [] AON_FW.NFW_CLASS ≠ s.getF AON_FW_STAGED [] AON_FW_STAGED.NFW_CLASS ∧ c.par 0 1 = 0 ∧ ∃ (d : Nat), d ∈ s.condDies ∧ s.bit SCR_STATUS [d] SCR_STATUS.INSTALLED = true))) ∧
    (∃ (s : State), s.wf ∧ (s.fw.activateCmd = none ∨ s.bit CMD_IF_STATUS [] CMD_IF_STATUS.FW_READY = false)) ∧
    (∃ (s : State) (c : Cmd), s.wf ∧ s.fw.activateCmd = some c ∧ s.bit CMD_IF_STATUS [] CMD_IF_STATUS.FW_READY = true) ∧
    (∃ (s : State), s.wf ∧ s.fw.activateCmd = none) ∧
    (∃ (s : State) (c : Cmd), s.wf ∧ s.fw.activateCmd = some c) ∧
    (∃ (s : State) (c : Cmd), s.wf ∧ s.fw.activateCmd = some c) :=
  ⟨⟨stageCmd 0x1000 0x1000 2, fitted8, by unfold State.wf State.Accepts State.StageBad; decide +kernel⟩,
   ⟨stageCmd 0x1000 0x80_0001 0, fitted8, by unfold State.wf State.Accepts State.StageBad; decide +kernel⟩,
   ⟨stageCmd 0x1000 0x80_0000 0, fitted8.setReg PWR_DIE [] 1, stUnitFolded, by unfold State.wf State.Accepts State.StageBad; decide +kernel⟩,
   ⟨stageCmd 0x1000 0x1000 0, up, stUnitInReset, by unfold State.wf State.Accepts State.StageBad; decide +kernel⟩,
   ⟨stageCmd 0x1000 0x1000 0, fitted8, by unfold State.wf State.Accepts State.StageBad; decide +kernel⟩,
   ⟨stageCmd 0x1000 0x1000 1, { fitted8 with mem := putBytes [] 0x1000 (image 1) }, by unfold State.wf State.Accepts State.StageBad; decide +kernel⟩,
   ⟨activate 2, staged, by unfold State.wf State.Accepts; decide +kernel⟩,
   ⟨activate 1, up, by unfold State.wf State.Accepts; decide +kernel⟩,
   ⟨activate 1, activating (activate 0), by unfold State.wf State.Accepts; decide +kernel⟩,
   ⟨activate 0, staged 7 still, by unfold State.wf State.Accepts; decide +kernel⟩,
   ⟨activate 1, staged 7 still, by unfold State.wf State.Accepts; decide +kernel⟩,
   ⟨activate 0, staged 7, by unfold State.wf State.Accepts; decide +kernel⟩,
   ⟨staged, by unfold State.wf; decide +kernel⟩,
   ⟨{ activating (activate 0) with front := { inflight := [(activate 0, 1), (replayCmd 2, 2)] } }, activate 0, by unfold State.wf; decide +kernel⟩,
   ⟨staged, by unfold State.wf; decide +kernel⟩,
   ⟨activating (activate 0), activate 0, by unfold State.wf; decide +kernel⟩,
   ⟨(activating (activate 0)).setF CMD_IF_STATUS [] CMD_IF_STATUS.FW_READY 0, activate 0, by unfold State.wf; decide +kernel⟩⟩

theorem witness_SecurityRequests :
    (∃ (c : Cmd) (s : State), s.SmWf ∧ s.Accepts c 1793 ∧ OpenBad c) ∧
    (∃ (c : Cmd) (s : State), s.SmWf ∧ s.Accepts c 1793 ∧ OpenBad c) ∧
    (∃ (c : Cmd) (s : State), s.SmWf ∧ s.Accepts c 1793 ∧ (¬OpenBad c) ∧ s.OpenBusy c) ∧
    (∃ (c : Cmd) (s : State), s.SmWf ∧ s.Accepts c 1793 ∧ (¬OpenBad c) ∧ s.OpenBusy c) ∧
    (∃ (c : Cmd) (s : State), s.SmWf ∧ s.Accepts c 1793 ∧ (¬OpenBad c) ∧ (¬s.OpenBusy c) ∧ c.par 0 1 = 1 ∧ 16 ≤ s.sm.sessions.length) ∧
    (∃ (c : Cmd) (s : State), s.SmWf ∧ s.Accepts c 1793 ∧ (¬OpenBad c) ∧ (¬s.OpenBusy c) ∧ c.par 0 1 = 1 ∧ (¬16 ≤ s.sm.sessions.length)) ∧
    (∃ (c : Cmd) (s : State), s.SmWf ∧ s.Accepts c 1793 ∧ (¬OpenBad c) ∧ (¬s.OpenBusy c) ∧ c.par 0 1 = 2 ∧ (List.find? (fun (x : Challenge) => x.via == c.via && x.id == c.par 4 4) s.sm.challenges = none)) ∧
    (∃ (c : Cmd) (s : State) (x : Challenge), s.SmWf ∧ s.Accepts c 1793 ∧ (¬OpenBad c) ∧ (¬s.OpenBusy c) ∧ c.par 0 1 = 2 ∧ (List.find? (fun (x : Challenge) => x.via == c.via && x.id == c.par 4 4) s.sm.challenges = some x) ∧ (x.role ≠ c.par 1 1 ∨ x.key ≠ c.par 2 1 ∨ s.roleKey (c.par 1 1) (c.par 2 1) = none)) ∧
    ((fun (c : Cmd) (s : State) (x : Challenge) (pub : List Byte) => Config.ecdsaVerifies pub (leBytes 8 (BitVec.toNat (s.reg GLB_SERIAL [])) ++ leBytes 4 x.id ++ x.nonce ++ leBytes 1 x.role ++ leBytes 1 (viaNum x.via) ++ leBytes 1 x.key) c.inl = false) (openCmd 2 1 15 6 (List.replicate 96 1)) (challenged) (challenge 6) (List.replicate 96 4) → ∃ (c : Cmd) (s : State) (x : Challenge) (pub : List Byte), s.SmWf ∧ s.Accepts c 1793 ∧ (¬OpenBad c) ∧ (¬s.OpenBusy c) ∧ c.par 0 1 = 2 ∧ (List.find? (fun (x : Challenge) => x.via == c.via && x.id == c.par 4 4) s.sm.challenges = some x) ∧ x.role = c.par 1 1 ∧ x.key = c.par 2 1 ∧ s.roleKey (c.par 1 1) (c.par 2 1) = some pub ∧ Config.ecdsaVerifies pub (leBytes 8 (BitVec.toNat (s.reg GLB_SERIAL [])) ++ leBytes 4 x.id ++ x.nonce ++ leBytes 1 x.role ++ leBytes 1 (viaNum x.via) ++ leBytes 1 x.key) c.inl = false) ∧
    ((fun (c : Cmd) (s : State) (x : Challenge) (pub : List Byte) => Config.ecdsaVerifies pub (leBytes 8 (BitVec.toNat (s.reg GLB_SERIAL [])) ++ leBytes 4 x.id ++ x.nonce ++ leBytes 1 x.role ++ leBytes 1 (viaNum x.via) ++ leBytes 1 x.key) c.inl = true) (openCmd 2 1 15 6 (List.replicate 96 1)) (challenged 16) (challenge 6) (List.replicate 96 4) → ∃ (c : Cmd) (s : State) (x : Challenge) (pub : List Byte), s.SmWf ∧ s.Accepts c 1793 ∧ (¬OpenBad c) ∧ (¬s.OpenBusy c) ∧ c.par 0 1 = 2 ∧ (List.find? (fun (x : Challenge) => x.via == c.via && x.id == c.par 4 4) s.sm.challenges = some x) ∧ x.role = c.par 1 1 ∧ x.key = c.par 2 1 ∧ s.roleKey (c.par 1 1) (c.par 2 1) = some pub ∧ Config.ecdsaVerifies pub (leBytes 8 (BitVec.toNat (s.reg GLB_SERIAL [])) ++ leBytes 4 x.id ++ x.nonce ++ leBytes 1 x.role ++ leBytes 1 (viaNum x.via) ++ leBytes 1 x.key) c.inl = true ∧ 16 ≤ s.sm.sessions.length) ∧
    ((fun (c : Cmd) (s : State) (x : Challenge) (pub : List Byte) => Config.ecdsaVerifies pub (leBytes 8 (BitVec.toNat (s.reg GLB_SERIAL [])) ++ leBytes 4 x.id ++ x.nonce ++ leBytes 1 x.role ++ leBytes 1 (viaNum x.via) ++ leBytes 1 x.key) c.inl = true) (openCmd 2 1 15 6 (List.replicate 96 1)) (challenged 15) (challenge 6) (List.replicate 96 4) → ∃ (c : Cmd) (s : State) (x : Challenge) (pub : List Byte), s.SmWf ∧ s.Accepts c 1793 ∧ (¬OpenBad c) ∧ (¬s.OpenBusy c) ∧ c.par 0 1 = 2 ∧ (List.find? (fun (x : Challenge) => x.via == c.via && x.id == c.par 4 4) s.sm.challenges = some x) ∧ x.role = c.par 1 1 ∧ x.key = c.par 2 1 ∧ s.roleKey (c.par 1 1) (c.par 2 1) = some pub ∧ Config.ecdsaVerifies pub (leBytes 8 (BitVec.toNat (s.reg GLB_SERIAL [])) ++ leBytes 4 x.id ++ x.nonce ++ leBytes 1 x.role ++ leBytes 1 (viaNum x.via) ++ leBytes 1 x.key) c.inl = true ∧ (¬16 ≤ s.sm.sessions.length)) ∧
    (∃ (c : Cmd) (f : Option (Fin 11)) (s : State), s.Accepts c 1794 ∧ ((s.smState = 4 ∨ s.smState = 5) ∧ c.par 0 1 ≠ 1)) ∧
    (∃ (c : Cmd) (f : Option (Fin 11)) (s : State), s.Accepts c 1794 ∧ (¬((s.smState = 4 ∨ s.smState = 5) ∧ c.par 0 1 ≠ 1)) ∧ s.svcBad c = true) ∧
    (∃ (c : Cmd) (f : Option (Fin 11)) (s : State), s.Accepts c 1794 ∧ (¬((s.smState = 4 ∨ s.smState = 5) ∧ c.par 0 1 ≠ 1)) ∧ s.svcBad c = true) ∧
    (∃ (c : Cmd) (f : Option (Fin 11)) (s : State), s.Accepts c 1794 ∧ (¬((s.smState = 4 ∨ s.smState = 5) ∧ c.par 0 1 ≠ 1)) ∧ s.svcBad c = false ∧ s.svcRefused c = true) ∧
    (∃ (c : Cmd) (f : Option (Fin 11)) (s : State), s.Accepts c 1794 ∧ (¬((s.smState = 4 ∨ s.smState = 5) ∧ c.par 0 1 ≠ 1)) ∧ s.svcBad c = false ∧ s.svcRefused c = true) ∧
    (∃ (c : Cmd) (f : Option (Fin 11)) (s : State), s.Accepts c 1794 ∧ c.par 0 1 = 1 ∧ s.svcBad c = false ∧ s.svcRefused c = false) ∧
    (∃ (c : Cmd) (f : Option (Fin 11)) (s : State), s.SvcRuns c 2 ∧ (∀ (t : Fin 11), f = some t → ↑t = 0 ∨ 6 < ↑t)) ∧
    (∃ (c : Cmd) (f : Option (Fin 11)) (s : State), s.SvcRuns c 2 ∧ (∀ (t : Fin 11), f = some t → ↑t = 0 ∨ 6 < ↑t)) ∧
    (∃ (c : Cmd) (f : Option (Fin 11)) (s : State), s.SvcRuns c 3) ∧
    (∃ (c : Cmd) (f : Option (Fin 11)) (s : State), (s.SvcRuns c 16 ∨ s.SvcRuns c 17) ∧ (¬s.noKeyRoom (c.par 1 1) = false)) ∧
    (∃ (c : Cmd) (f : Option (Fin 11)) (s : State), (s.SvcRuns c 16 ∨ s.SvcRuns c 17) ∧ (¬s.noKeyRoom (c.par 1 1) = false)) ∧
    (∃ (c : Cmd) (f : Option (Fin 11)) (s : State), s.SvcRuns c 16 ∧ s.noKeyRoom (c.par 1 1) = false) ∧
    (∃ (c : Cmd) (f : Option (Fin 11)) (s : State), s.SvcRuns c 16 ∧ s.noKeyRoom (c.par 1 1) = false) ∧
    (∃ (c : Cmd) (f : Option (Fin 11)) (s : State), s.SvcRuns c 17 ∧ s.noKeyRoom (c.par 1 1) = false) ∧
    (∃ (c : Cmd) (f : Option (Fin 11)) (s : State) (k : Nat × KeySlot), s.SvcRuns c 18 ∧ s.usable c (c.par 3 4) 2 = some k ∧ (¬s.noKeyRoom (c.par 1 1) = false)) ∧
    ((fun (c : Cmd) (f : Option (Fin 11)) (s : State) (k : Nat × KeySlot) => Config.kwUnwrap k.snd.key c.inl = none) (svc 0x12 0 (1 :: handle5 2) (List.replicate 40 9)) (none) (withKey 2) ((5, slot5 2)) → ∃ (c : Cmd) (f : Option (Fin 11)) (s : State) (k : Nat × KeySlot), s.SvcRuns c 18 ∧ s.usable c (c.par 3 4) 2 = some k ∧ s.noKeyRoom (c.par 1 1) = false ∧ Config.kwUnwrap k.snd.key c.inl = none) ∧
    ((fun (c : Cmd) (f : Option (Fin 11)) (s : State) (k : Nat × KeySlot) (b : List Byte) => Config.kwUnwrap k.snd.key c.inl = some b) (svc 0x12 0 (1 :: handle5 2) (List.replicate 40 9)) (none) (withKey 2) ((5, slot5 2)) (List.replicate 32 3) → ∃ (c : Cmd) (f : Option (Fin 11)) (s : State) (k : Nat × KeySlot) (b : List Byte), s.SvcRuns c 18 ∧ s.usable c (c.par 3 4) 2 = some k ∧ s.noKeyRoom (c.par 1 1) = false ∧ Config.kwUnwrap k.snd.key c.inl = some b) ∧
    (∃ (c : Cmd) (f : Option (Fin 11)) (s : State) (k : Nat × KeySlot), s.SvcRuns c 19 ∧ s.usable c (c.par 2 4) 0 = some k ∧ k.snd.typ = 1 ∧ s.sakUsed (c.par 2 4) = true) ∧
    (∃ (c : Cmd) (f : Option (Fin 11)) (s : State) (k : Nat × KeySlot), s.SvcRuns c 19 ∧ s.usable c (c.par 2 4) 0 = some k ∧ (k.snd.typ ≠ 1 ∨ s.sakUsed (c.par 2 4) = false)) ∧
    (∃ (c : Cmd) (f : Option (Fin 11)) (s : State) (k : Nat × KeySlot), s.SvcRuns c 20 ∧ s.usable c (c.par 2 4) 0 = some k) ∧
    (∃ (c : Cmd) (f : Option (Fin 11)) (s : State) (svc : Nat) (st : Nat), (svc = 32 ∨ svc = 33) ∧ s.SvcRuns c svc ∧ s.rangeAway (c.par 6 8) (c.par 14 2 * 1024 + 28) = some st ∧ st ≠ stOk) ∧
    (∃ (c : Cmd) (f : Option (Fin 11)) (s : State) (svc : Nat) (st : Nat), (svc = 32 ∨ svc = 33) ∧ s.SvcRuns c svc ∧ s.rangeAway (c.par 6 8) (c.par 14 2 * 1024 + 28) = some st ∧ st ≠ stOk) ∧
    (∃ (c : Cmd) (f : Option (Fin 11)) (s : State) (k : Nat × KeySlot), s.usable c (c.par 2 4) 3 = some k ∧ s.rangeAway (c.par 6 8) (c.par 14 2 * 1024 + 28) = none ∧ s.SvcRuns c 32) ∧
    ((fun (c : Cmd) (f : Option (Fin 11)) (s : State) (k : Nat × KeySlot) => Config.gcmDecrypt k.snd.key (s.readMem (c.par 6 8 + c.par 14 2 * 1024) 12) (s.readMem (c.par 6 8) (c.par 14 2 * 1024)) (s.readMem (c.par 6 8 + c.par 14 2 * 1024 + 12) 16) = none) (wrapCmd 0x21 0x1000) (none) (withKey 3 (oper 3 fitted8)) ((5, slot5 3)) → ∃ (c : Cmd) (f : Option (Fin 11)) (s : State) (k : Nat × KeySlot), s.usable c (c.par 2 4) 3 = some k ∧ s.rangeAway (c.par 6 8) (c.par 14 2 * 1024 + 28) = none ∧ s.SvcRuns c 33 ∧ Config.gcmDecrypt k.snd.key (s.readMem (c.par 6 8 + c.par 14 2 * 1024) 12) (s.readMem (c.par 6 8) (c.par 14 2 * 1024)) (s.readMem (c.par 6 8 + c.par 14 2 * 1024 + 12) 16) = none) ∧
    ((fun (c : Cmd) (f : Option (Fin 11)) (s : State) (k : Nat × KeySlot) (p : List Byte) => Config.gcmDecrypt k.snd.key (s.readMem (c.par 6 8 + c.par 14 2 * 1024) 12) (s.readMem (c.par 6 8) (c.par 14 2 * 1024)) (s.readMem (c.par 6 8 + c.par 14 2 * 1024 + 12) 16) = some p) (wrapCmd 0x21 0x1000) (none) (withKey 3 (oper 3 fitted8)) ((5, slot5 3)) (List.replicate 4 3) → ∃ (c : Cmd) (f : Option (Fin 11)) (s : State) (k : Nat × KeySlot) (p : List Byte), s.usable c (c.par 2 4) 3 = some k ∧ s.rangeAway (c.par 6 8) (c.par 14 2 * 1024 + 28) = none ∧ s.SvcRuns c 33 ∧ Config.gcmDecrypt k.snd.key (s.readMem (c.par 6 8 + c.par 14 2 * 1024) 12) (s.readMem (c.par 6 8) (c.par 14 2 * 1024)) (s.readMem (c.par 6 8 + c.par 14 2 * 1024 + 12) 16) = some p) ∧
    (∃ (c : Cmd) (f : Option (Fin 11)) (s : State), s.SvcRuns c 48) ∧
    (∃ (c : Cmd) (f : Option (Fin 11)) (s : State), s.SvcRuns c 48) ∧
    (∃ (c : Cmd) (f : Option (Fin 11)) (s : State), s.SvcRuns c 49) ∧
    (∃ (c : Cmd) (f : Option (Fin 11)) (s : State), s.SvcRuns c 50) ∧
    (∃ (c : Cmd) (f : Option (Fin 11)) (s : State), s.SvcRuns c 51) ∧
    (∃ (c : Cmd) (f : Option (Fin 11)) (s : State), s.SvcRuns c 52) ∧
    (∃ (c : Cmd) (f : Option (Fin 11)) (s : State), s.SvcRuns c 53) ∧
    (∃ (c : Cmd) (f : Option (Fin 11)) (s : State), s.SvcRuns c 64) ∧
    (∃ (c : Cmd) (f : Option (Fin 11)) (s : State), s.SvcRuns c 65) ∧
    (∃ (w : Who) (v : BitVec 32) (f : Option (Fin 11)) (s : State), s.wf ∧ Who.mMode w = false) ∧
    (∃ (w : Who) (v : BitVec 32) (f : Option (Fin 11)) (s : State), s.wf ∧ Who.mMode w = true ∧ (¬(v.getLsbD 0 = true ∧ s.fw.coresHeld = false ∧ s.bit SM_MBOX_CTRL [] SM_MBOX_CTRL.BUSY = false))) ∧
    (∃ (w : Who) (v : BitVec 32) (f : Option (Fin 11)) (s : State), s.wf ∧ Who.mMode w = true ∧ (¬(v.getLsbD 0 = true ∧ s.fw.coresHeld = false ∧ s.bit SM_MBOX_CTRL [] SM_MBOX_CTRL.BUSY = false))) ∧
    (∃ (w : Who) (v : BitVec 32) (f : Option (Fin 11)) (s : State), s.wf ∧ Who.mMode w = true ∧ v.getLsbD 0 = true ∧ s.fw.coresHeld = false ∧ s.bit SM_MBOX_CTRL [] SM_MBOX_CTRL.BUSY = false) ∧
    (∃ (w : Who) (v : BitVec 32) (f : Option (Fin 11)) (s : State), s.wf ∧ Who.mMode w = true ∧ v.getLsbD 0 = true ∧ s.fw.coresHeld = false ∧ s.bit SM_MBOX_CTRL [] SM_MBOX_CTRL.BUSY = false) ∧
    (∃ (w : Who) (v : BitVec 32) (f : Option (Fin 11)) (s : State), s.wf ∧ Who.mMode w = true ∧ v.getLsbD 0 = true ∧ s.fw.coresHeld = false ∧ s.bit SM_MBOX_CTRL [] SM_MBOX_CTRL.BUSY = false) :=
  ⟨⟨openCmd 1 1 16 0, oper, by unfold State.Accepts State.SmWf State.wf OpenBad; decide +kernel⟩,
   ⟨openCmd 2 2 0 0, oper, by unfold State.Accepts State.SmWf State.wf OpenBad; decide +kernel⟩,
   ⟨openCmd 1 1 15 0, oper 2, by unfold State.Accepts State.SmWf State.wf OpenBad State.OpenBusy; decide +kernel⟩,
   ⟨openCmd 1 2 1 0, module_ (fun x => { x with locked := [.H] }), by unfold State.Accepts State.SmWf State.wf OpenBad State.OpenBusy; decide +kernel⟩,
   ⟨openCmd 1 1 15 0, challenged 16, by unfold State.Accepts State.SmWf State.wf OpenBad State.OpenBusy; decide +kernel⟩,
   ⟨openCmd 1 1 15 0, challenged 15, by unfold State.Accepts State.SmWf State.wf OpenBad State.OpenBusy; decide +kernel⟩,
   ⟨openCmd 2 1 15 7 (List.replicate 96 1), challenged, by unfold State.Accepts State.SmWf State.wf OpenBad State.OpenBusy; decide +kernel⟩,
   ⟨openCmd 2 1 14 6 (List.replicate 96 1), challenged, challenge 6, by unfold State.Accepts State.SmWf State.wf OpenBad State.OpenBusy; decide +kernel⟩,
   (fun hc => ⟨openCmd 2 1 15 6 (List.replicate 96 1), challenged, challenge 6, List.replicate 96 4, by unfold State.SmWf State.wf; decide +kernel, by unfold State.Accepts; decide +kernel, by unfold OpenBad; decide +kernel, by unfold State.OpenBusy; decide +kernel, by decide +kernel, by decide +kernel, by decide +kernel, by decide +kernel, by decide +kernel, hc⟩),
   (fun hc => ⟨openCmd 2 1 15 6 (List.replicate 96 1), challenged 16, challenge 6, List.replicate 96 4, by unfold State.SmWf State.wf; decide +kernel, by unfold State.Accepts; decide +kernel, by unfold OpenBad; decide +kernel, by unfold State.OpenBusy; decide +kernel, by decide +kernel, by decide +kernel, by decide +kernel, by decide +kernel, by decide +kernel, hc, by decide +kernel⟩),
   (fun hc => ⟨openCmd 2 1 15 6 (List.replicate 96 1), challenged 15, challenge 6, List.replicate 96 4, by unfold State.SmWf State.wf; decide +kernel, by unfold State.Accepts; decide +kernel, by unfold OpenBad; decide +kernel, by unfold State.OpenBusy; decide +kernel, by decide +kernel, by decide +kernel, by decide +kernel, by decide +kernel, by decide +kernel, hc, by decide +kernel⟩),
   ⟨svc 0x02 0, none, oper 5, by unfold State.Accepts; decide +kernel⟩,
   ⟨svc 0x10 8 [1], none, oper, by unfold State.Accepts; decide +kernel⟩,
   ⟨svc 0x42 0, none, oper, by unfold State.Accepts; decide +kernel⟩,
   ⟨svc 0x11 0 [1] (List.replicate 32 1), none, oper, by unfold State.Accepts; decide +kernel⟩,
   ⟨svc 0x13 0 (handle5 1), none, oper, by unfold State.Accepts; decide +kernel⟩,
   ⟨svc 0x01 0, none, oper 5, by unfold State.Accepts; decide +kernel⟩,
   ⟨svc 0x02 0, some 7, oper, by unfold State.SvcRuns State.Accepts State.SmWf State.wf; decide +kernel, of_some (by decide +kernel)⟩,
   ⟨svc 0x02 0, some 0, oper 2, by unfold State.SvcRuns State.Accepts State.SmWf State.wf; decide +kernel, of_some (by decide +kernel)⟩,
   ⟨svc 0x03 0, none, oper, by unfold State.SvcRuns State.Accepts State.SmWf State.wf; decide +kernel⟩,
   ⟨svc 0x10 0 [2], none, fullKeys, by unfold State.SvcRuns State.Accepts State.SmWf State.wf; first | exact .inl (by decide +kernel) | exact .inr (by decide +kernel), by decide +kernel⟩,
   ⟨svc 0x10 1 [2], none, { oper with fuses := { oper.fuses with bank := 8 } }, by unfold State.SvcRuns State.Accepts State.SmWf State.wf; first | exact .inl (by decide +kernel) | exact .inr (by decide +kernel), by decide +kernel⟩,
   ⟨svc 0x10 3 [2], none, oper, by unfold State.SvcRuns State.Accepts State.SmWf State.wf; decide +kernel⟩,
   ⟨svc 0x10 0 [3], none, withKey 3, by unfold State.SvcRuns State.Accepts State.SmWf State.wf; decide +kernel⟩,
   ⟨{ svc 0x11 3 [2] (List.replicate 32 9) with via := .C }, none, module_ (fun x => { x with sessions := [⟨1, .officer, .C⟩] }), by unfold State.SvcRuns State.Accepts State.SmWf State.wf; decide +kernel⟩,
   ⟨svc 0x12 0 (1 :: handle5 2) (List.replicate 40 9), none, fullKeys, (5, slot5 2), by unfold State.SvcRuns State.Accepts State.SmWf State.wf; decide +kernel⟩,
   (fun hc => ⟨svc 0x12 0 (1 :: handle5 2) (List.replicate 40 9), none, withKey 2, (5, slot5 2), by unfold State.SvcRuns State.Accepts State.SmWf State.wf; decide +kernel, by decide +kernel, by decide +kernel, hc⟩),
   (fun hc => ⟨svc 0x12 0 (1 :: handle5 2) (List.replicate 40 9), none, withKey 2, (5, slot5 2), List.replicate 32 3, by unfold State.SvcRuns State.Accepts State.SmWf State.wf; decide +kernel, by decide +kernel, by decide +kernel, hc⟩),
   ⟨svc 0x13 0 (handle5 1), none, withKey 1 (port 2 { txSa := [(0, some { sa 1 with handle := 5 + 256 + 65536 })] } oper), (5, slot5 1), by unfold State.SvcRuns State.Accepts State.SmWf State.wf; decide +kernel⟩,
   ⟨svc 0x13 0 (handle5 1), none, withKey 1 (port 2 { txSa := [(0, some (sa 1))] } oper), (5, slot5 1), by unfold State.SvcRuns State.Accepts State.SmWf State.wf; decide +kernel⟩,
   ⟨svc 0x14 0 (handle5 2), none, withKey 2, (5, slot5 2), by unfold State.SvcRuns State.Accepts State.SmWf State.wf; decide +kernel⟩,
   ⟨wrapCmd 0x20 0x1000, none, withKey 3 (oper 3 (fitted8.setReg PWR_DIE [] 1)), 0x20, stUnitFolded, by unfold State.SvcRuns State.Accepts State.SmWf State.wf; decide +kernel⟩,
   ⟨wrapCmd 0x21 0x1000, none, withKey 3, 0x21, stUnitInReset, by unfold State.SvcRuns State.Accepts State.SmWf State.wf; decide +kernel⟩,
   ⟨wrapCmd 0x20 0x1000, none, withKey 3 (oper 3 fitted8), (5, slot5 3), by unfold State.SvcRuns State.Accepts State.SmWf State.wf; decide +kernel⟩,
   (fun hc => ⟨wrapCmd 0x21 0x1000, none, withKey 3 (oper 3 fitted8), (5, slot5 3), by decide +kernel, by decide +kernel, by unfold State.SvcRuns State.Accepts State.SmWf State.wf; decide +kernel, hc⟩),
   (fun hc => ⟨wrapCmd 0x21 0x1000, none, withKey 3 (oper 3 fitted8), (5, slot5 3), List.replicate 4 3, by decide +kernel, by decide +kernel, by unfold State.SvcRuns State.Accepts State.SmWf State.wf; decide +kernel, hc⟩),
   ⟨svc 0x30 0 [7, 1] (List.replicate 96 9), none, oper, by unfold State.SvcRuns State.Accepts State.SmWf State.wf; decide +kernel⟩,
   ⟨svc 0x30 0 [7, 0], none, oper, by unfold State.SvcRuns State.Accepts State.SmWf State.wf; decide +kernel⟩,
   ⟨svc 0x31 0 [1, 0, 255], none, oper, by unfold State.SvcRuns State.Accepts State.SmWf State.wf; decide +kernel⟩,
   ⟨svc 0x32 0 [15, 1] (List.replicate 96 9), none, oper, by unfold State.SvcRuns State.Accepts State.SmWf State.wf; decide +kernel⟩,
   ⟨svc 0x33 0, none, module_ (fun x => { x with runSmSvn := 65, runFwSvn := 64 }), by unfold State.SvcRuns State.Accepts State.SmWf State.wf; decide +kernel⟩,
   ⟨svc 0x34 0 [1] (List.replicate 96 9), none, oper, by unfold State.SvcRuns State.Accepts State.SmWf State.wf; decide +kernel⟩,
   ⟨svc 0x35 0 [3], none, oper, by unfold State.SvcRuns State.Accepts State.SmWf State.wf; decide +kernel⟩,
   ⟨svc 0x40 0, none, withKey 1 (port 2 { txSa := [(0, some (sa 1))] } oper), by unfold State.SvcRuns State.Accepts State.SmWf State.wf; decide +kernel⟩,
   ⟨svc 0x41 0, none, open_ oper, by unfold State.SvcRuns State.Accepts State.SmWf State.wf; decide +kernel⟩,
   ⟨.core 3 false, 5, none, oper, by unfold State.wf; decide +kernel⟩,
   ⟨.core 3 true, 4, none, mailbox (svc 0x01 0), by unfold State.wf; decide +kernel⟩,
   ⟨.core 3 true, 1, none, (mailbox (svc 0x01 0)).setBit SM_MBOX_CTRL [] SM_MBOX_CTRL.BUSY, by unfold State.wf; decide +kernel⟩,
   ⟨.core 3 true, 1, none, mailbox (svc 0x01 0), by unfold State.wf; decide +kernel⟩,
   ⟨.core 3 true, 5, none, mailbox (svc 0x03 0), by unfold State.wf; decide +kernel⟩,
   ⟨.core 3 true, 1, none, mailbox (censusCmd 0x1000 0), by unfold State.wf; decide +kernel⟩⟩

theorem witness_SecurityStates :
    (∃ (c : Cmd) (s : State), s.SmWf ∧ s.Accepts c 1795 ∧ (2 ≤ c.par 0 1 ∨ c.par 1 15 ≠ 0)) ∧
    (∃ (c : Cmd) (s : State), s.SmWf ∧ s.Accepts c 1795 ∧ (¬(2 ≤ c.par 0 1 ∨ c.par 1 15 ≠ 0)) ∧ c.inlineLen ≠ 0) ∧
    (∃ (c : Cmd) (s : State), s.SmWf ∧ s.Accepts c 1795 ∧ (¬(2 ≤ c.par 0 1 ∨ c.par 1 15 ≠ 0)) ∧ c.inlineLen = 0) ∧
    (∃ (c : Cmd) (s : State), s.SmWf ∧ s.Accepts c 1795 ∧ (¬(2 ≤ c.par 0 1 ∨ c.par 1 15 ≠ 0)) ∧ c.inlineLen = 0) ∧
    (∃ (c : Cmd) (s : State), s.SmWf ∧ s.Accepts c 1795 ∧ (¬(2 ≤ c.par 0 1 ∨ c.par 1 15 ≠ 0)) ∧ c.inlineLen = 0) ∧
    (∃ (s : State), s.SmWf ∧ s.pins.vauxGood = false) ∧
    (∃ (s : State), s.SmWf ∧ s.pins.vauxGood = true ∧ (s.fw.inCold = true ∨ s.smState < 2)) ∧
    (∃ (s : State), s.SmWf ∧ s.pins.vauxGood = true ∧ (s.fw.inCold = true ∨ s.smState < 2)) ∧
    (∃ (s : State), s.SmWf ∧ s.pins.vauxGood = true ∧ s.fw.inCold = false ∧ 2 ≤ s.smState) ∧
    (∃ (apt : Bool) (s : State), s.SmWf ∧ s.smState ≠ 2 ∧ s.smState ≠ 3) ∧
    (∃ (apt : Bool) (s : State), s.SmWf ∧ (s.smState = 2 ∨ s.smState = 3)) ∧
    (∃ (apt : Bool) (s : State), s.SmWf ∧ (s.smState = 2 ∨ s.smState = 3)) ∧
    (∃ (a : Bool) (b : Bool) (s : State), s.SmWf ∧ s.smState ≠ 4) ∧
    (∃ (a : Bool) (b : Bool) (s : State), s.SmWf ∧ s.smState = 4 ∧ a = false ∧ s.sm.recoveries < 2) ∧
    (∃ (a : Bool) (b : Bool) (s : State), s.SmWf ∧ s.smState = 4 ∧ a = false ∧ 2 ≤ s.sm.recoveries) ∧
    (∃ (a : Bool) (b : Bool) (s : State), s.SmWf ∧ s.smState = 4 ∧ a = true ∧ b = false) ∧
    (∃ (a : Bool) (b : Bool) (s : State), s.SmWf ∧ s.smState = 4 ∧ a = true ∧ b = true) ∧
    (∃ (f : Option (Fin 11)) (s : State), s.SmWf ∧ s.smState ≠ 2 ∧ s.smState ≠ 3) ∧
    (∃ (f : Option (Fin 11)) (s : State), s.SmWf ∧ (s.smState = 2 ∨ s.smState = 3) ∧ (∀ (t : Fin 11), f = some t → ↑t = 0 ∨ 6 < ↑t)) ∧
    (∃ (f : Option (Fin 11)) (s : State), s.SmWf ∧ (s.smState = 2 ∨ s.smState = 3) ∧ (∀ (t : Fin 11), f = some t → ↑t = 0 ∨ 6 < ↑t)) ∧
    (∃ (f : Option (Fin 11)) (s : State) (x : Fin 11), s.SmWf ∧ (s.smState = 2 ∨ s.smState = 3) ∧ f = some x ∧ 1 ≤ ↑x ∧ ↑x ≤ 6) :=
  ⟨⟨cmd 0x0703 [2], oper, by unfold State.Accepts State.SmWf State.wf; decide +kernel⟩,
   ⟨cmd 0x0703 [1] 0xF [0], oper, by unfold State.Accepts State.SmWf State.wf; decide +kernel⟩,
   ⟨cmd 0x0703 [1], { withKey 1 (port 2 { txSa := [(0, some (sa 1))] } oper) with fuses := { oper.fuses with bank := 7 } }, by unfold State.Accepts State.SmWf State.wf; decide +kernel⟩,
   ⟨cmd 0x0703 [0], withKey 1, by unfold State.Accepts State.SmWf State.wf; decide +kernel⟩,
   ⟨cmd 0x0703 [1], { withKey 1 with fuses := { oper.fuses with bank := 8 } }, by unfold State.Accepts State.SmWf State.wf; decide +kernel⟩,
   ⟨{ oper with pins := { oper.pins with vauxGood := false } }, by unfold State.SmWf State.wf; decide +kernel⟩,
   ⟨State.reset, by unfold State.SmWf State.wf; decide +kernel⟩,
   ⟨oper 1, by unfold State.SmWf State.wf; decide +kernel⟩,
   ⟨withKey 1 (oper 2), by unfold State.SmWf State.wf; decide +kernel⟩,
   ⟨true, oper 4, by unfold State.SmWf State.wf; decide +kernel⟩,
   ⟨true, oper 2, by unfold State.SmWf State.wf; decide +kernel⟩,
   ⟨false, withKey 1, by unfold State.SmWf State.wf; decide +kernel⟩,
   ⟨true, true, oper, by unfold State.SmWf State.wf; decide +kernel⟩,
   ⟨false, true, module_ (fun x => { x with recoveries := 1, prior := 3 }) (oper 4), by unfold State.SmWf State.wf; decide +kernel⟩,
   ⟨false, true, module_ (fun x => { x with recoveries := 2, prior := 3, keys := [(5, slot5 1)] }) (oper 4), by unfold State.SmWf State.wf; decide +kernel⟩,
   ⟨true, false, withKey 1 (oper 4), by unfold State.SmWf State.wf; decide +kernel⟩,
   ⟨true, true, module_ (fun x => { x with recoveries := 2, prior := 3 }) (oper 4), by unfold State.SmWf State.wf; decide +kernel⟩,
   ⟨some 3, oper 4, by unfold State.SmWf State.wf; decide +kernel⟩,
   ⟨some 7, oper 2, by unfold State.SmWf State.wf; decide +kernel, by decide +kernel, of_some (by decide +kernel)⟩,
   ⟨none, oper, by unfold State.SmWf State.wf; decide +kernel, by decide +kernel, of_some (by decide +kernel)⟩,
   ⟨some 6, withKey 1, 6, by unfold State.SmWf State.wf; decide +kernel⟩⟩

theorem witness_RegisterAccess :
    (∃ (w : Who) (a : BitVec 26) (n : Fin 65) (v : Word) (s : State) (x : RegPart), s.wf ∧ s.aim a.toNat ↑n = Aim.register ∧ regParts a.toNat ↑n = [x] ∧ ruledRegs.any x.r.is = false ∧ (x.r.off / 524288 = 3 → s.noticeHas (x.ix.getD 0 0) = true) ∧ s.regAway x.r x.ix = false) ∧
    (∃ (w : Who) (a : BitVec 26) (n : Fin 65) (v : Word) (s : State) (x : RegPart), s.wf ∧ s.aim a.toNat ↑n = Aim.register ∧ regParts a.toNat ↑n = [x] ∧ ruledRegs.any x.r.is = false ∧ (x.r.off / 524288 = 3 → s.noticeHas (x.ix.getD 0 0) = true) ∧ s.regAway x.r x.ix = false) ∧
    (∃ (w : Who) (a : BitVec 26) (n : Fin 65) (v : Word) (s : State) (x : RegPart), s.wf ∧ s.aim a.toNat ↑n = Aim.register ∧ regParts a.toNat ↑n = [x] ∧ ruledRegs.any x.r.is = false ∧ (x.r.off / 524288 = 3 → s.noticeHas (x.ix.getD 0 0) = true) ∧ s.regAway x.r x.ix = false) ∧
    (∃ (w : Who) (a : BitVec 26) (n : Fin 65) (v : Word) (s : State) (x : RegPart), s.wf ∧ s.aim a.toNat ↑n = Aim.register ∧ regParts a.toNat ↑n = [x] ∧ ruledRegs.any x.r.is = false ∧ (x.r.off / 524288 = 3 → s.noticeHas (x.ix.getD 0 0) = true) ∧ s.regAway x.r x.ix = false) ∧
    (∃ (w : Who) (k : Fin 8) (v : Word) (s : State), s.wf ∧ s.absentWindow (MEM_CFG.addr [↑k]) = false ∧ s.regAway MEM_CFG [↑k] = false) ∧
    (∃ (w : Who) (k : Fin 8) (v : Word) (s : State), s.wf ∧ s.absentWindow (MEM_CFG.addr [↑k]) = false ∧ s.regAway MEM_CFG [↑k] = false) ∧
    (∃ (w : Who) (a : BitVec 26) (n : Fin 65) (v : Word) (s : State), s.aim a.toNat ↑n = Aim.register ∧ (∀ (x : RegPart), x ∈ regParts a.toNat ↑n → s.regAway x.r x.ix = true)) ∧
    (∃ (w : Who) (a : BitVec 26) (v : Word) (s : State) (x : RegPart) (y : RegPart), s.aim a.toNat 8 = Aim.register ∧ regParts a.toNat 8 = [x, y]) ∧
    (∃ (w : Who) (a : BitVec 26) (n : Fin 65) (s : State) (x : RegPart), s.wf ∧ s.aim a.toNat ↑n = Aim.register ∧ regParts a.toNat ↑n = [x] ∧ x.r.is ICU_CLAIM = false ∧ x.r.is PRS_BOARD_DATA = false ∧ x.r.isMbox = false) ∧
    (∃ (w : Who) (a : BitVec 26) (n : Fin 65) (s : State) (x : RegPart), s.wf ∧ s.aim a.toNat ↑n = Aim.register ∧ regParts a.toNat ↑n = [x] ∧ x.r.is ICU_CLAIM = false ∧ x.r.is PRS_BOARD_DATA = false ∧ x.r.isMbox = false) ∧
    (∃ (w : Who) (a : BitVec 26) (n : Fin 65) (s : State) (x : RegPart), s.wf ∧ s.aim a.toNat ↑n = Aim.register ∧ regParts a.toNat ↑n = [x] ∧ x.r.is ICU_CLAIM = false ∧ x.r.is PRS_BOARD_DATA = false ∧ x.r.isMbox = false) ∧
    (∃ (w : Who) (a : BitVec 26) (n : Fin 65) (v : Word) (s : State), s.wf ∧ accessBad a.toNat ↑n = false ∧ s.absentWindow a.toNat = true) ∧
    (∃ (w : Who) (a : BitVec 26) (n : Fin 65) (v : Word) (s : State), s.wf ∧ accessBad a.toNat ↑n = false ∧ s.absentWindow a.toNat = true) ∧
    (∃ (w : Who) (a : BitVec 26) (n : Fin 65) (v : Word) (s : State), s.aim a.toNat ↑n = Aim.reserved) ∧
    (∃ (w : Who) (a : BitVec 26) (n : Fin 65) (v : Option Word) (s : State), s.wf ∧ (↑n ≠ 4 ∧ ↑n ≠ 8 ∨ a.toNat % ↑n ≠ 0 ∨ ↑n = 8 ∧ 1064960 ≤ a.toNat ∧ a.toNat < 1073152) ∧ s.bit CMD_ACCESS_FAULT [] CMD_ACCESS_FAULT.FAULT = true) ∧
    (∃ (w : Who) (a : BitVec 26) (n : Fin 65) (v : Option Word) (s : State), s.wf ∧ (↑n ≠ 4 ∧ ↑n ≠ 8 ∨ a.toNat % ↑n ≠ 0 ∨ ↑n = 8 ∧ 1064960 ≤ a.toNat ∧ a.toNat < 1073152) ∧ s.bit CMD_ACCESS_FAULT [] CMD_ACCESS_FAULT.FAULT = true) ∧
    (∃ (w : Who) (a : BitVec 26) (n : Fin 65) (v : Option Word) (s : State), s.wf ∧ (↑n ≠ 4 ∧ ↑n ≠ 8 ∨ a.toNat % ↑n ≠ 0 ∨ ↑n = 8 ∧ 1064960 ≤ a.toNat ∧ a.toNat < 1073152) ∧ s.bit CMD_ACCESS_FAULT [] CMD_ACCESS_FAULT.FAULT = false) ∧
    (∃ (w : Who) (a : BitVec 26) (n : Fin 65) (v : Option Word) (s : State), s.wf ∧ (↑n ≠ 4 ∧ ↑n ≠ 8 ∨ a.toNat % ↑n ≠ 0 ∨ ↑n = 8 ∧ 1064960 ≤ a.toNat ∧ a.toNat < 1073152) ∧ s.bit CMD_ACCESS_FAULT [] CMD_ACCESS_FAULT.FAULT = false) ∧
    (∃ (w : Who) (a : BitVec 26) (n : Fin 65) (v : Option Word) (s : State), s.wf ∧ (↑n ≠ 4 ∧ ↑n ≠ 8 ∨ a.toNat % ↑n ≠ 0 ∨ ↑n = 8 ∧ 1064960 ≤ a.toNat ∧ a.toNat < 1073152) ∧ s.bit CMD_ACCESS_FAULT [] CMD_ACCESS_FAULT.FAULT = false) :=
  ⟨⟨.host, bar0 GLB_MODE [], 4, 0xFFFF_FFFF, up.setReg GLB_MODE [] 0xF, whole GLB_MODE [], by unfold State.wf; decide +kernel⟩,
   ⟨.core 3 false, bar0 GLB_REPRO_PROFILE [] + 4, 4, 0xFFFF_FFFF, up, ⟨GLB_REPRO_PROFILE, [], 4, 4, 0⟩, by unfold State.wf; decide +kernel⟩,
   ⟨.host, bar0 NTC_STATUS [127], 4, 0x9, up.setReg NTC_STATUS [127] 0xF, whole NTC_STATUS [127], by unfold State.wf; decide +kernel⟩,
   ⟨.host, bar0 ICU_MTIMECMP [15] + 4, 4, 0xFFFF_FFFF, up, ⟨ICU_MTIMECMP, [15], 4, 4, 0⟩, by unfold State.wf; decide +kernel⟩,
   ⟨.host, 7, 0x0000_0003, up, by unfold State.wf; decide +kernel⟩,
   ⟨.host, 7, 0xFFFF_FFFD, fitted8, by unfold State.wf; decide +kernel⟩,
   ⟨.host, bar0 PRS_STATUS [7, 31], 4, 0x60, up.setReg RST_DIE [] 0x80, by decide +kernel⟩,
   ⟨.host, bar0 NTC_STATUS [127], 0x0000_0007_0000_0009, (up.setReg NTC_STATUS [127] 0xF).setReg NTC_PEAK [127] 7, ⟨NTC_STATUS, [127], 0, 4, 0⟩, ⟨NTC_PEAK, [127], 0, 4, 4⟩, by decide +kernel⟩,
   ⟨.host, bar0 NTC_PEAK [127], 4, up.setReg NTC_PEAK [127] 0xFFFF_FFFF, whole NTC_PEAK [127], by unfold State.wf; decide +kernel⟩,
   ⟨.host, bar0 UN_PENDING [], 4, up.setReg UN_PENDING [] 0x0400_0400, whole UN_PENDING [], by unfold State.wf; decide +kernel⟩,
   ⟨.host, bar0 TEL_PKG [] + 4, 4, up.setReg TEL_PKG [] 0x5_0000_0003, ⟨TEL_PKG, [], 4, 4, 0⟩, by unfold State.wf; decide +kernel⟩,
   ⟨.host, 0x00F0_0000, 8, 5, without7, by unfold State.wf; decide +kernel⟩,
   ⟨.host, 0x00FF_FFFC, 4, 5, (without7.setBit GLB_ABSENT_ACCESS [] GLB_ABSENT_ACCESS.ACCESS).setF GLB_ABSENT_ACCESS [] GLB_ABSENT_ACCESS.COUNT 255, by unfold State.wf; decide +kernel⟩,
   ⟨.host, 0x03FF_FFF8, 8, 5, up, by decide +kernel⟩,
   ⟨.host, 0x0010_4000, 8, none, faulted, by unfold State.wf; decide +kernel⟩,
   ⟨.host, 0x2, 4, some 3, faulted, by unfold State.wf; decide +kernel⟩,
   ⟨.host, 0x0010_5FF8, 8, none, up, by unfold State.wf; decide +kernel⟩,
   ⟨.core 15 true, 0x03FF_FFFF, 64, some 3, mastered up, by unfold State.wf; decide +kernel⟩,
   ⟨.host, 0, 0, none, up, by unfold State.wf; decide +kernel⟩⟩

theorem witness_TestPortAndSideband :
    (∃ (code : BitVec 8) (s : State), scanCodes.contains code.toNat = false ∧ scanCodes.contains s.tap.ir = false) ∧
    (∃ (code : BitVec 8) (s : State), s.wf ∧ scanCodes.contains code.toNat = true ∧ scanCodes.contains s.tap.ir = true) ∧
    (∃ (code : BitVec 8) (s : State), s.wf ∧ scanCodes.contains code.toNat = true ∧ scanCodes.contains s.tap.ir = false) ∧
    (∃ (code : BitVec 8) (s : State), s.wf ∧ scanCodes.contains code.toNat = true ∧ scanCodes.contains s.tap.ir = false) ∧
    (∃ (code : BitVec 8) (s : State), s.wf ∧ scanCodes.contains code.toNat = false ∧ scanCodes.contains s.tap.ir = true) ∧
    (∃ (v : BitVec 16) (w : BitVec 96) (s : State), s.wf ∧ s.tap.ir ≠ 16) ∧
    (∃ (v : BitVec 16) (w : BitVec 96) (s : State), s.wf ∧ s.tap.ir ≠ 17) ∧
    (∃ (v : BitVec 16) (w : BitVec 96) (s : State), s.wf ∧ s.tap.ir = 16 ∧ s.debugOpen = true) ∧
    (∃ (v : BitVec 16) (w : BitVec 96) (s : State), s.wf ∧ s.debugOpen = false ∧ s.tap.ir = 16) ∧
    (∃ (v : BitVec 16) (w : BitVec 96) (s : State), s.wf ∧ s.debugOpen = false ∧ s.tap.ir = 17) ∧
    (∃ (w : BitVec 96) (s : State), s.wf ∧ s.tap.ir = 17 ∧ s.debugOpen = true ∧ w.toNat / 2 ^ 90 % 4 = 0) ∧
    (∃ (w : BitVec 96) (s : State), s.wf ∧ s.tap.ir = 17 ∧ s.debugOpen = true ∧ w.toNat / 2 ^ 90 % 4 = 3) ∧
    (∃ (w : BitVec 96) (s : State), s.wf ∧ s.tap.ir = 17 ∧ s.debugOpen = true ∧ (w.toNat / 2 ^ 90 % 4 = 1 ∨ w.toNat / 2 ^ 90 % 4 = 2)) ∧
    (∃ (w : BitVec 96) (s : State), s.wf ∧ s.tap.ir = 17 ∧ s.debugOpen = true ∧ (w.toNat / 2 ^ 90 % 4 = 1 ∨ w.toNat / 2 ^ 90 % 4 = 2)) ∧
    (∃ (w : BitVec 96) (s : State), s.wf ∧ s.tap.ir = 17 ∧ s.debugOpen = true ∧ (w.toNat / 2 ^ 90 % 4 = 1 ∨ w.toNat / 2 ^ 90 % 4 = 2)) ∧
    (∃ (w : BitVec 96) (s : State), s.wf ∧ s.tap.ir = 17 ∧ s.debugOpen = true ∧ (w.toNat / 2 ^ 90 % 4 = 1 ∨ w.toNat / 2 ^ 90 % 4 = 2)) ∧
    (∃ (w : BitVec 96) (s : State), s.wf ∧ s.tap.ir = 17 ∧ s.debugOpen = true ∧ (w.toNat / 2 ^ 90 % 4 = 1 ∨ w.toNat / 2 ^ 90 % 4 = 2)) ∧
    (∃ (w : BitVec 96) (s : State), s.wf ∧ s.tap.ir = 17 ∧ s.debugOpen = true ∧ (w.toNat / 2 ^ 90 % 4 = 1 ∨ w.toNat / 2 ^ 90 % 4 = 2)) ∧
    (∃ (level : Bool) (s : State), s.wf) ∧
    (∃ (dst : Option (BitVec 7)) (bs : List Byte) (a : BitVec 7) (s : State), s.wf) ∧
    (∃ (dst : Option (BitVec 7)) (bs : List Byte) (a : BitVec 7) (s : State), s.wf) ∧
    (∃ (dst : Option (BitVec 7)) (bs : List Byte) (a : BitVec 7) (s : State), s.wf ∧ (s.bit SMB_ADDR [] SMB_ADDR.HEM_IN && !s.bit SMB_ADDR [] SMB_ADDR.AV) = true ∧ bs = s.udid ∧ smbReserved a.toNat = false) ∧
    (∃ (dst : Option (BitVec 7)) (bs : List Byte) (a : BitVec 7) (s : State), s.wf ∧ (s.bit SMB_ADDR [] SMB_ADDR.HEM_IN && !s.bit SMB_ADDR [] SMB_ADDR.AV) = true ∧ bs = s.udid ∧ smbReserved a.toNat = false) ∧
    (∃ (dst : Option (BitVec 7)) (bs : List Byte) (a : BitVec 7) (s : State), s.wf ∧ (¬((s.bit SMB_ADDR [] SMB_ADDR.HEM_IN && !s.bit SMB_ADDR [] SMB_ADDR.AV) = true ∧ bs = s.udid ∧ smbReserved a.toNat = false))) ∧
    (∃ (dst : Option (BitVec 7)) (bs : List Byte) (a : BitVec 7) (s : State), s.wf ∧ (¬((s.bit SMB_ADDR [] SMB_ADDR.HEM_IN && !s.bit SMB_ADDR [] SMB_ADDR.AV) = true ∧ bs = s.udid ∧ smbReserved a.toNat = false))) ∧
    (∃ (dst : Option (BitVec 7)) (bs : List Byte) (a : BitVec 7) (s : State), s.wf ∧ (((match dst with | some b => s.bit SMB_ADDR [] SMB_ADDR.AV && b.toNat == s.getF SMB_ADDR [] SMB_ADDR.ADDR | none => false) || dst.isNone && s.bit SMB_ADDR [] SMB_ADDR.AV) = true)) ∧
    (∃ (dst : Option (BitVec 7)) (bs : List Byte) (a : BitVec 7) (s : State), s.wf ∧ (((match dst with | some b => s.bit SMB_ADDR [] SMB_ADDR.AV && b.toNat == s.getF SMB_ADDR [] SMB_ADDR.ADDR | none => false) || dst.isNone && s.bit SMB_ADDR [] SMB_ADDR.AV) = true)) ∧
    (∃ (dst : Option (BitVec 7)) (bs : List Byte) (a : BitVec 7) (s : State), s.wf ∧ (((match dst with | some b => s.bit SMB_ADDR [] SMB_ADDR.AV && b.toNat == s.getF SMB_ADDR [] SMB_ADDR.ADDR | none => false) || dst.isNone && s.bit SMB_ADDR [] SMB_ADDR.AV) = false)) ∧
    (∃ (dst : Option (BitVec 7)) (bs : List Byte) (a : BitVec 7) (s : State), s.wf ∧ (((match dst with | some b => s.bit SMB_ADDR [] SMB_ADDR.AV && b.toNat == s.getF SMB_ADDR [] SMB_ADDR.ADDR | none => false) || dst.isNone && s.bit SMB_ADDR [] SMB_ADDR.AV) = false)) ∧
    (∃ (s : State) (r : Instr), s.bit SMB_ADDR [] SMB_ADDR.AV = false ∧ r ∈ [Instr.smbReadStatus, Instr.smbReadSmStatus, Instr.smbReadId, Instr.smbReadTemp, Instr.smbReadCompletion]) ∧
    (∃ (s : State), s.bit SMB_ADDR [] SMB_ADDR.AV = true) ∧
    (∃ (s : State), s.bit SMB_ADDR [] SMB_ADDR.AV = true) ∧
    (∃ (s : State), s.bit SMB_ADDR [] SMB_ADDR.AV = true) ∧
    (∃ (s : State), s.bit SMB_ADDR [] SMB_ADDR.AV = true ∧ s.smb.done = true) ∧
    (∃ (s : State), s.bit SMB_ADDR [] SMB_ADDR.AV = true ∧ s.smb.done = false) ∧
    (∃ (bs : List Byte) (n : Fin 129) (pec : Option Bool) (s : State) (r : Instr), s.wf ∧ s.bit SMB_ADDR [] SMB_ADDR.AV = false ∧ r ∈ [Instr.smbWriteSlotLow bs pec, Instr.smbWriteSlotHigh n bs pec, Instr.smbSubmit pec]) ∧
    (∃ (bs : List Byte) (n : Fin 129) (pec : Option Bool) (s : State) (r : Instr), s.wf ∧ s.bit SMB_ADDR [] SMB_ADDR.AV = true ∧ (¬s.smbTakes pec) ∧ r ∈ [Instr.smbWriteSlotLow bs pec, Instr.smbWriteSlotHigh n bs pec, Instr.smbSubmit pec]) ∧
    (∃ (bs : List Byte) (n : Fin 129) (pec : Option Bool) (s : State) (r : Instr), s.wf ∧ s.bit SMB_ADDR [] SMB_ADDR.AV = true ∧ (¬s.smbTakes pec) ∧ r ∈ [Instr.smbWriteSlotLow bs pec, Instr.smbWriteSlotHigh n bs pec, Instr.smbSubmit pec]) ∧
    (∃ (bs : List Byte) (n : Fin 129) (pec : Option Bool) (s : State), s.wf ∧ s.smbTakes pec) ∧
    (∃ (bs : List Byte) (n : Fin 129) (pec : Option Bool) (s : State), s.wf ∧ s.smbTakes pec) ∧
    (∃ (bs : List Byte) (n : Fin 129) (pec : Option Bool) (s : State), s.wf ∧ s.smbTakes pec ∧ s.smb.slot.length = 256) ∧
    (∃ (bs : List Byte) (n : Fin 129) (pec : Option Bool) (s : State), s.wf ∧ s.smbTakes pec ∧ s.smb.slot.length = 256) ∧
    (∃ (bs : List Byte) (n : Fin 129) (pec : Option Bool) (s : State), s.wf ∧ s.smbTakes pec ∧ (s.smb.busy = true ∨ s.smb.partWritten = true)) ∧
    (∃ (bs : List Byte) (n : Fin 129) (pec : Option Bool) (s : State), s.wf ∧ s.smbTakes pec ∧ (s.smb.busy = true ∨ s.smb.partWritten = true)) ∧
    (∃ (bs : List Byte) (n : Fin 129) (pec : Option Bool) (s : State), s.wf ∧ s.smbTakes pec ∧ s.smb.busy = false ∧ s.smb.partWritten = false) ∧
    (∃ (s : State) (cp : Cpl), s.front.smbDone = some cp) ∧
    (∃ (wins : Bool) (s : State), s.smb.alert = true ∧ s.bit SMB_ADDR [] SMB_ADDR.AV = true ∧ wins = true) ∧
    (∃ (wins : Bool) (s : State), (s.smb.alert = false ∨ s.bit SMB_ADDR [] SMB_ADDR.AV = false ∨ wins = false)) ∧
    (∃ (wins : Bool) (s : State), (s.smb.alert = false ∨ s.bit SMB_ADDR [] SMB_ADDR.AV = false ∨ wins = false)) ∧
    (∃ (s : State), s.wf) :=
  ⟨⟨0x11, tap 0x01 0, by decide +kernel⟩,
   ⟨0x06, tap 0x00 0, by unfold State.wf; decide +kernel⟩,
   ⟨0x05, tap 0x01 0 (link 11 6), by unfold State.wf; decide +kernel⟩,
   ⟨0x03, tap 0xFF 0 (port 2 {}), by unfold State.wf; decide +kernel⟩,
   ⟨0x01, tap 0x06 0 (link 11 3), by unfold State.wf; decide +kernel⟩,
   ⟨3, 0, tap 0x11 0, by unfold State.wf; decide +kernel⟩,
   ⟨3, 0, tap 0x10 0, by unfold State.wf; decide +kernel⟩,
   ⟨0xFF01, 0, tap 0x10 0 (open_ up), by unfold State.wf; decide +kernel⟩,
   ⟨0xFF01, 0, tap 0x10 0, by unfold State.wf; decide +kernel⟩,
   ⟨0xFF01, dbg 1 0 0, (tap 0x11 0).setReg RST_DIE [] 0x400, by unfold State.wf; decide +kernel⟩,
   ⟨dbg 0 0x10 5, tap 0x11 0 (open_ up), by unfold State.wf; decide +kernel⟩,
   ⟨dbg 3 0x10 5, tap 0x11 1 (open_ up), by unfold State.wf; decide +kernel⟩,
   ⟨dbg 1 0x10 5, tap 0x11 0 (open_ up), by unfold State.wf; decide +kernel⟩,
   ⟨dbg 2 0x1E004 0xFFFF_FFFF_FFFF_FFFF, tap 0x11 0xFF01 (open_ { up with sects := [(1023, { st := .paused })] }), by unfold State.wf; decide +kernel⟩,
   ⟨dbg 1 0x1E000 5, tap 0x11 0xFF01 (open_ { up with sects := [(1023, { vec := [(0, 3), (1, 4)] })] }), by unfold State.wf; decide +kernel⟩,
   ⟨dbg 2 0x1E000 5, tap 0x11 0xFF01 (open_ { up with sects := [(1023, { st := .running })] }), by unfold State.wf; decide +kernel⟩,
   ⟨dbg 2 0x1E000 5, tap 0x11 0xFF03 (open_ up), by unfold State.wf; decide +kernel⟩,
   ⟨dbg 2 0x1E000 5, tap 0x11 0xFF01 (open_ (foldedPress 255)), by unfold State.wf; decide +kernel⟩,
   ⟨true, addressed, by unfold State.wf; decide +kernel⟩,
   ⟨none, [], 0, asking, by unfold State.wf; decide +kernel⟩,
   ⟨some 0x2A, [], 0, addressed, by unfold State.wf; decide +kernel⟩,
   ⟨none, asking.udid, 0x77, asking, by unfold State.wf; decide +kernel⟩,
   ⟨none, asking.udid, 0x08, asking, by unfold State.wf; decide +kernel⟩,
   ⟨none, asking.udid, 0x07, asking, by unfold State.wf; decide +kernel⟩,
   ⟨none, up.udid, 0x20, addressed, by unfold State.wf; decide +kernel⟩,
   ⟨none, [], 0, addressed, by unfold State.wf; decide +kernel⟩,
   ⟨some 0x2A, [], 0, addressed, by unfold State.wf; decide +kernel⟩,
   ⟨none, [], 0, asking, by unfold State.wf; decide +kernel⟩,
   ⟨some 0x2B, [], 0, addressed, by unfold State.wf; decide +kernel⟩,
   ⟨asking, .smbReadId, by decide +kernel⟩,
   ⟨addressed, by decide +kernel⟩,
   ⟨addressed oper, by decide +kernel⟩,
   ⟨addressed (up.setF PWR_TEMP [11] PWR_TEMP.NOW 99), by decide +kernel⟩,
   ⟨sideband { done := true, alert := true }, by decide +kernel⟩,
   ⟨addressed, by decide +kernel⟩,
   ⟨[1], 128, some true, asking, .smbSubmit (some true), by unfold State.wf; decide +kernel⟩,
   ⟨[1], 128, some false, addressed, .smbSubmit (some false), by unfold State.wf State.smbTakes; decide +kernel⟩,
   ⟨[1], 128, none, (addressed.setBit SMB_CFG [] SMB_CFG.PEC_REQ).setF SMB_COUNT [] SMB_COUNT.PEC_ERR 65535, .smbWriteSlotLow [1] none, by unfold State.wf State.smbTakes; decide +kernel⟩,
   ⟨List.replicate 127 5, 0, none, addressed, by unfold State.wf State.smbTakes; decide +kernel⟩,
   ⟨List.replicate 128 5, 0, some true, addressed, by unfold State.wf State.smbTakes; decide +kernel⟩,
   ⟨List.replicate 128 5, 128, some true, addressed, by unfold State.wf State.smbTakes; decide +kernel⟩,
   ⟨[1, 2], 3, some true, addressed, by unfold State.wf State.smbTakes; decide +kernel⟩,
   ⟨[], 0, some true, sideband { busy := true }, by unfold State.wf State.smbTakes; decide +kernel⟩,
   ⟨[], 0, some true, sideband { partWritten := true }, by unfold State.wf State.smbTakes; decide +kernel⟩,
   ⟨[], 0, some true, sideband { done := true }, by unfold State.wf State.smbTakes; decide +kernel⟩,
   ⟨{ sideband { busy := true } with front := { smbDone := some ⟨.S, 0, 7, 0x0601, 0, 0, 0, []⟩ } }, ⟨.S, 0, 7, 0x0601, 0, 0, 0, []⟩, by decide +kernel⟩,
   ⟨true, sideband { alert := true }, by decide +kernel⟩,
   ⟨true, addressed, by decide +kernel⟩,
   ⟨false, sideband { alert := true }, by decide +kernel⟩,
   ⟨addressed, by unfold State.wf; decide +kernel⟩⟩

theorem witness_StepRunsTheFront :
    (∃ (c : Instr) (cs : List Instr) (s : State), s.pending = c :: cs) ∧
    (∃ (s : State), s.wf ∧ s.pending = [] ∧ s.unison.replay = none) ∧
    (∃ (s : State), s.wf ∧ s.pending = [] ∧ s.unison.replay = none) :=
  ⟨⟨.tapReset, [.fwBootTimeout], { playing with pending := [.tapReset, .fwBootTimeout] }, by decide +kernel⟩,
   ⟨{ playing with tempo := { playing.tempo with beat := 0xFFFF } }, by unfold State.wf; decide +kernel⟩,
   ⟨State.reset, by unfold State.wf; decide +kernel⟩⟩

end Sys2Proof.Tests
end

section
/-! The state right after reset (R24, R816). -/

namespace Sys2Proof.Machine

/-- Nothing is listed in the register store after reset, so every register differs from its reset value by 0. -/
@[simp] theorem State.reset_reg (r : Reg) (ix : List Nat) : State.reset.reg r ix = r.resetAt ix := BitVec.zero_xor

theorem State.reset_wf : State.reset.wf := ⟨rfl, rfl⟩

theorem State.reset_inv : State.reset.Inv := ⟨State.reset_wf, by decide⟩

/-- Settles O59: the stores are empty, so registers read their reset values, and the other parts hold their initial values. -/
theorem resetState : Obligations.ResetState := by
  refine ⟨State.reset_inv, State.reset_reg, ?_, ?_, rfl, rfl, rfl, rfl, rfl, rfl, rfl⟩
  · rw [State.getF, State.reset_reg]; decide
  · rw [State.bit, State.getF, State.reset_reg]; decide

end Sys2Proof.Machine
end

section
/-! Registers bit by bit: the bits that carry an access code (R17), and what setting a register or a field keeps. -/

namespace Sys2Proof

/-- Bit `i` lies in the bit range. -/
def Fld.covers (f : Fld) (i : Nat) : Bool := decide (f.lo ≤ i) && decide (i < f.lo + f.width)

/-- Two bit ranges share no bit. -/
def Fld.apart (f g : Fld) : Prop := f.lo + f.width ≤ g.lo ∨ g.lo + g.width ≤ f.lo

theorem Fld.apart.symm {f g : Fld} (h : f.apart g) : g.apart f := Or.symm h

theorem Fld.apart.covers_left {f g : Fld} (h : f.apart g) {i : Nat} (hg : g.covers i = true) : f.covers i = false := by
  simp only [Fld.apart, Fld.covers, Bool.and_eq_true, decide_eq_true_eq, Bool.and_eq_false_iff, decide_eq_false_iff_not] at *
  omega

end Sys2Proof

namespace Sys2Proof.Machine

theorem bitOf_eq_getLsbD (v : Word) (i : Nat) : bitOf v i = v.getLsbD i := BitVec.testBit_toNat v

theorem bitOf_of_ge (v : Word) {i : Nat} (h : 64 ≤ i) : bitOf v i = false := by
  rw [bitOf_eq_getLsbD, BitVec.getLsbD_of_ge v i h]

@[simp] theorem bitOf_and (v w : Word) (i : Nat) : bitOf (v &&& w) i = (bitOf v i && bitOf w i) := by simp [bitOf_eq_getLsbD]

@[simp] theorem bitOf_or (v w : Word) (i : Nat) : bitOf (v ||| w) i = (bitOf v i || bitOf w i) := by simp [bitOf_eq_getLsbD]

theorem bitOf_zero (i : Nat) : bitOf 0 i = false := by simp [bitOf]

theorem bitOf_not (v : Word) {i : Nat} (h : i < 64) : bitOf (~~~ v) i = !bitOf v i := by simp [bitOf_eq_getLsbD, h]

theorem bitOf_ofNat (n i : Nat) : bitOf (BitVec.ofNat 64 n) i = (decide (i < 64) && n.testBit i) := by
  rw [bitOf, BitVec.toNat_ofNat, Nat.testBit_mod_two_pow]

/-- The ones of a width of `w` bits from bit `lo` on. -/
theorem bitOf_ones (w lo i : Nat) :
    bitOf (BitVec.ofNat 64 ((2 ^ w - 1) * 2 ^ lo)) i = (decide (i < 64) && (decide (lo ≤ i) && decide (i < lo + w))) := by
  rw [bitOf_ofNat, Nat.testBit_mul_two_pow, Nat.testBit_two_pow_sub_one]
  by_cases h : lo ≤ i
  · have : (i - lo < w) = (i < lo + w) := by rw [eq_iff_iff]; omega
    simp [h, this]
  · simp [h]

theorem bitOf_foldl_fields (i : Nat) : ∀ (l : List (Fld × Acc)) (m : Word),
    bitOf (l.foldl (fun m f => m ||| BitVec.ofNat 64 ((2 ^ f.1.width - 1) * 2 ^ f.1.lo)) m) i =
      (bitOf m i || (decide (i < 64) && l.any (fun f => f.1.covers i)))
  | [], m => by simp
  | f :: l, m => by
    rw [List.foldl_cons, bitOf_foldl_fields i l, bitOf_or, bitOf_ones, List.any_cons, Fld.covers, Bool.and_or_distrib_left, Bool.or_assoc]

/-- The bits of a register that carry a code are those of its fields with that code. -/
theorem bitOf_bitsOf (r : Reg) (a : Acc) (i : Nat) :
    bitOf (r.bitsOf a) i = (decide (i < 64) && r.fields.any (fun f => f.2 == a && f.1.covers i)) := by
  rw [Reg.bitsOf, bitOf_foldl_fields, bitOf_zero, Bool.false_or, List.any_filter]

/-- The fields of a register of the part share no bit (the register tables of the spec). -/
theorem allRegs_fields_apart : ∀ r ∈ allRegs, r.fields.Pairwise (fun f g => f.1.apart g.1) := by
  unfold Fld.apart
  decide +kernel

/-- A bit of a field carries the field's code and no other. -/
theorem bitOf_bitsOf_of_field {r : Reg} (hr : r ∈ allRegs) {f : Fld × Acc} (hf : f ∈ r.fields) {i : Nat} (hi : i < 64)
    (hc : f.1.covers i = true) (a : Acc) : bitOf (r.bitsOf a) i = decide (f.2 = a) := by
  have only : ∀ g ∈ r.fields, g.1.covers i = true → g = f := fun g hg hgc => by
    by_contra hne
    have : Std.Symm (fun f g : Fld × Acc => f.1.apart g.1) := ⟨fun _ _ => Fld.apart.symm⟩
    have h : g.1.apart f.1 := (allRegs_fields_apart r hr).forall hg hf hne
    simp [h.covers_left hc] at hgc
  rw [bitOf_bitsOf, decide_eq_true hi, Bool.true_and, Bool.eq_iff_iff, List.any_eq_true, decide_eq_true_iff]
  constructor
  · rintro ⟨g, hg, h⟩
    obtain ⟨ha, hgc⟩ := Bool.and_eq_true_iff.mp h
    exact only g hg hgc ▸ eq_of_beq ha
  · exact fun h => ⟨f, hf, by simp [h, hc]⟩

/-! ### What is kept -/

theorem RegsKept.refl (as : List Nat) (s : State) : RegsKept as s s := fun _ _ => rfl

theorem RegsKept.trans {as : List Nat} {s t u : State} (h : RegsKept as s t) (k : RegsKept as t u) : RegsKept as s u :=
  fun a ha => (k a ha).trans (h a ha)

theorem RegsKept.of_regs_eq {as : List Nat} {s t : State} (h : t.regs = s.regs) : RegsKept as s t := fun _ _ => by rw [h]

/-- A register at another offset reads as before. -/
theorem RegsKept.reg_eq {as : List Nat} {s t : State} (h : RegsKept as s t) {r : Reg} {ix : List Nat} (hr : r.addr ix ∉ as) :
    t.reg r ix = s.reg r ix := by rw [State.reg, State.reg, h _ hr]

theorem setReg_kept (s : State) (r : Reg) (ix : List Nat) (v : Word) : RegsKept [r.addr ix] s (s.setReg r ix v) :=
  fun _ ha => regs_setReg_ne s r ix v (by simpa using ha)

theorem setF_kept (s : State) (r : Reg) (ix : List Nat) (f : Fld) (x : Nat) : RegsKept [r.addr ix] s (s.setF r ix f x) :=
  setReg_kept s r ix _

/-- Setting a field leaves the bits outside it. -/
theorem bitOf_setF_of_not_covers (s : State) (r : Reg) (ix : List Nat) (f : Fld) (x : Nat) {i : Nat} (h : tok 0 s.regs = true)
    (hc : f.covers i = false) : bitOf ((s.setF r ix f x).reg r ix) i = bitOf (s.reg r ix) i := by
  by_cases hi : i < 64
  · rw [reg_setF_same s r ix f x h, bitOf, fset_testBit _ _ _ _ hi, if_neg (by simpa [Fld.covers] using hc)]
    rfl
  · rw [bitOf_of_ge _ (by omega), bitOf_of_ge _ (by omega)]

/-! ### Counts that a write stores as at least 1 -/

theorem atLeast1_tok (s : State) (r : Reg) (ix : List Nat) (f : Fld) (h : tok 0 s.regs = true) : tok 0 (s.atLeast1 r ix f).regs = true := by
  unfold State.atLeast1
  split
  · exact setF_tok s r ix f 1 h
  · exact h

theorem atLeast1_kept (s : State) (r : Reg) (ix : List Nat) (f : Fld) : RegsKept [r.addr ix] s (s.atLeast1 r ix f) := by
  unfold State.atLeast1
  split
  · exact setF_kept s r ix f 1
  · exact RegsKept.refl _ s

theorem getF_atLeast1_same (s : State) (r : Reg) (ix : List Nat) (f : Fld) (h : tok 0 s.regs = true) (hf : f.lo + f.width ≤ 64)
    (hw : 1 ≤ f.width) : (s.atLeast1 r ix f).getF r ix f = max 1 (s.getF r ix f) := by
  unfold State.atLeast1
  split
  · next h0 => rw [getF_setF_same s r ix f 1 h hf, h0, Nat.mod_eq_of_lt (Nat.one_lt_two_pow (by omega))]; rfl
  · omega

theorem getF_atLeast1_field (s : State) (r : Reg) (ix : List Nat) (f g : Fld) (h : tok 0 s.regs = true) (hg : g.lo + g.width ≤ 64)
    (hd : g.apart f) : (s.atLeast1 r ix f).getF r ix g = s.getF r ix g := by
  unfold State.atLeast1
  split
  · exact getF_setF_field s r ix f g 1 h hg hd
  · rfl

theorem bitOf_atLeast1_of_not_covers (s : State) (r : Reg) (ix : List Nat) (f : Fld) {i : Nat} (h : tok 0 s.regs = true)
    (hc : f.covers i = false) : bitOf ((s.atLeast1 r ix f).reg r ix) i = bitOf (s.reg r ix) i := by
  unfold State.atLeast1
  split
  · exact bitOf_setF_of_not_covers s r ix f 1 h hc
  · rfl

end Sys2Proof.Machine
end

section
/-! Accesses to BAR0 (R13 to R24): the registers that an access reaches, and a write to one of them. -/

namespace Sys2Proof.Machine

/-! ### What an access reaches -/

theorem regAt_mem {a : Nat} {r : Reg} {ix : List Nat} (h : regAt a = some (r, ix)) : r ∈ allRegs := by
  obtain ⟨q, hq, he⟩ := List.exists_of_findSome?_eq_some h
  obtain ⟨jx, -, hj⟩ := Option.map_eq_some_iff.mp he
  exact (Prod.mk.inj hj).1 ▸ hq

/-- A 32-bit access reaches a 32-bit register or a half of a register, at its own place, or nothing (R23). -/
theorem mem_partAt4 {a pos : Nat} {x : RegPart} (h : x ∈ partAt4 a pos) :
    x.r ∈ allRegs ∧ (x.lo = 0 ∨ x.lo = 4) ∧ x.len = 4 ∧ partAt4 a pos = [x] := by
  revert h
  unfold partAt4
  repeat' split
  · next h => intro hx; obtain rfl := List.mem_singleton.mp hx; exact ⟨regAt_mem h, .inl rfl, rfl, rfl⟩
  · next h _ => intro hx; obtain rfl := List.mem_singleton.mp hx; exact ⟨regAt_mem h, .inr rfl, rfl, rfl⟩
  all_goals exact fun hx => absurd hx List.not_mem_nil

/-- What an access reaches are registers of the part, in bytes that they have. -/
theorem mem_regParts {a n : Nat} {x : RegPart} (h : x ∈ regParts a n) : x.r ∈ allRegs ∧ x.lo + x.len ≤ 8 := by
  have of4 : ∀ {b pos : Nat}, x ∈ partAt4 b pos → x.r ∈ allRegs ∧ x.lo + x.len ≤ 8 := fun hx => by
    obtain ⟨hr, hlo, hlen, -⟩ := mem_partAt4 hx
    exact ⟨hr, by omega⟩
  revert h
  unfold regParts
  repeat' split
  · next h _ => intro hx; obtain rfl := List.mem_singleton.mp hx; exact ⟨regAt_mem h, le_rfl⟩
  · next h _ =>
    intro hx
    obtain rfl | hx := List.mem_cons.mp hx
    · exact ⟨regAt_mem h, show 0 + 4 ≤ 8 by decide⟩
    · exact of4 hx
  · exact of4
  · exact of4

/-- The bytes reached lie in a 64-bit register. -/
theorem RegPart.reaches.lt {x : RegPart} {i : Nat} (h : x.reaches i) (hx : x.lo + x.len ≤ 8) : i < 64 := by
  obtain ⟨-, h⟩ := h
  omega

theorem RegPart.bitOf_mask (x : RegPart) (i : Nat) :
    bitOf x.mask i = (decide (i < 64) && (decide (8 * x.lo ≤ i) && decide (i < 8 * (x.lo + x.len)))) := by
  rw [RegPart.mask, bitOf_ones, Nat.mul_add]

theorem RegPart.bitOf_mask_of_reaches {x : RegPart} (hx : x.lo + x.len ≤ 8) {i : Nat} (h : x.reaches i) : bitOf x.mask i = true := by
  rw [x.bitOf_mask, decide_eq_true (h.lt hx), decide_eq_true h.1, decide_eq_true h.2]; rfl

theorem RegPart.bitOf_mask_of_not_reaches {x : RegPart} {i : Nat} (h : ¬x.reaches i) : bitOf x.mask i = false := by
  rw [x.bitOf_mask, ← Bool.decide_and, decide_eq_false (show ¬(_ ∧ _) from h), Bool.and_false]

/-! ### A write by the access codes -/

/-- The write of one part of an access with data `v`. -/
def RegPart.write (x : RegPart) (w : Who) (v : Nat) : RegWrite :=
  ⟨w, x.r, x.ix, x.mask, BitVec.ofNat 64 (v / 2 ^ (8 * x.pos) % 2 ^ (8 * x.len) * 2 ^ (8 * x.lo))⟩

theorem regWrite_eq_foldl (s : State) (w : Who) (a n v : Nat) :
    s.regWrite w a n v = (regParts a n).foldl (fun s x => s.writeOne (x.write w v)) s := rfl

theorem regWrite_one {w : Who} {a n : Nat} {s : State} {x : RegPart} (h : regParts a n = [x]) (v : Nat) :
    s.regWrite w a n v = s.writeOne (x.write w v) := by rw [regWrite_eq_foldl, h]; rfl

theorem RegPart.bitOf_data (x : RegPart) (w : Who) (v i : Nat) : bitOf (x.write w v).data i = (bitOf x.mask i && x.dataBit v i) := by
  rw [x.bitOf_mask, RegPart.write, bitOf_ofNat, Nat.testBit_mul_two_pow, Nat.testBit_mod_two_pow, Nat.testBit_div_two_pow, RegPart.dataBit]
  by_cases h : 8 * x.lo ≤ i
  · have : (i - 8 * x.lo < 8 * x.len) = (i < 8 * (x.lo + x.len)) := by rw [eq_iff_iff]; omega
    simp [h, this, Bool.and_assoc]
  · simp [h]

/-- The register after a write by its codes, bit by bit. -/
theorem bitOf_plainWrite (s : State) (x : RegWrite) (open_ : Bool) (h : tok 0 s.regs = true) (i : Nat) :
    bitOf ((s.plainWrite x open_).reg x.r x.ix) i =
      (let m := (bitOf (x.r.bitsOf .rw) i || (open_ && bitOf (x.r.bitsOf .rwl) i)) && bitOf x.mask i
       ((bitOf (s.reg x.r x.ix) i && !m) || (bitOf x.data i && m)) && !(bitOf x.data i && bitOf (x.r.bitsOf .w1c) i) ||
        (bitOf x.data i && bitOf (x.r.bitsOf .w1s) i)) := by
  rw [State.plainWrite, reg_setReg_same _ _ _ _ h]
  by_cases hi : i < 64
  · cases open_ <;> simp [bitOf_not, hi]
  · simp [bitOf_of_ge _ (not_lt.mp hi)]

theorem plainWrite_kept (s : State) (x : RegWrite) (open_ : Bool) : RegsKept [x.r.addr x.ix] s (s.plainWrite x open_) :=
  setReg_kept s x.r x.ix _

theorem plainWrite_tok (s : State) (x : RegWrite) (open_ : Bool) (h : tok 0 s.regs = true) : tok 0 (s.plainWrite x open_).regs = true :=
  setReg_tok s x.r x.ix _ h

section
variable {s : State} {x : RegPart} (w : Who) (v : Nat) (open_ : Bool)

/-- A bit of a field that the access reaches does what the field's code says (R17). -/
theorem bitOf_plainWrite_of_reaches (h : tok 0 s.regs = true) (hr : x.r ∈ allRegs) (hx : x.lo + x.len ≤ 8) {f : Fld × Acc}
    (hf : f ∈ x.r.fields) {i : Nat} (hc : f.1.covers i = true) (hi : x.reaches i) :
    bitOf ((s.plainWrite (x.write w v) open_).reg x.r x.ix) i = wroteBit f.2 open_ (bitOf (s.reg x.r x.ix) i) (x.dataBit v i) := by
  have code : ∀ a, bitOf (x.r.bitsOf a) i = decide (f.2 = a) := bitOf_bitsOf_of_field hr hf (hi.lt hx) hc
  have hm := RegPart.bitOf_mask_of_reaches hx hi
  have step := bitOf_plainWrite s (x.write w v) open_ h i
  rw [x.bitOf_data] at step
  simp only [RegPart.write, code, hm, Bool.true_and, Bool.and_true] at step
  refine step.trans ?_
  cases f.2 <;> cases open_ <;> simp [wroteBit]

/-- A bit that the access does not reach stays. -/
theorem bitOf_plainWrite_of_not_reaches (h : tok 0 s.regs = true) {i : Nat} (hi : ¬x.reaches i) :
    bitOf ((s.plainWrite (x.write w v) open_).reg x.r x.ix) i = bitOf (s.reg x.r x.ix) i := by
  have hm := RegPart.bitOf_mask_of_not_reaches hi
  refine (bitOf_plainWrite s (x.write w v) open_ h i).trans ?_
  rw [x.bitOf_data]
  simp [RegPart.write, hm]

end

/-! ### Registers that no rule of their own governs -/

/-- A die's own registers lie in its window, below the memory controllers'. -/
theorem allRegs_die_off : ∀ r ∈ allRegs, r.dies.isSome = true → r.off < 0x0010_0000 := by decide +kernel

theorem lockOpen_of_outside (s : State) {r : Reg} (ix : List Nat) (h : r.off < 0x0160_0000 ∨ 0x0170_0000 ≤ r.off) : s.lockOpen r ix = false := by
  unfold State.lockOpen
  obtain h | h := h
  · rw [decide_eq_false (by omega)]; rfl
  · rw [decide_eq_false (show ¬r.off < 0x0170_0000 by omega), Bool.and_false]; rfl

/-- A write to a register in service without a rule of its own acts by the access codes alone (R17): every block that can hold the register
tells its ruled registers apart and leaves the others to their codes. -/
theorem writeOne_of_unruled {s : State} {x : RegWrite} (hr : x.r ∈ allRegs) (h : ruledRegs.any x.r.is = false)
    (hn : x.r.off / 0x8_0000 = 3 → s.noticeHas (x.i 0) = true) (ha : s.regAway x.r x.ix = false) :
    s.writeOne x = s.plainWrite x (s.lockOpen x.r x.ix) := by
  simp only [ruledRegs, List.cons_append, List.nil_append, List.any_cons, Bool.or_eq_false_iff] at h
  have die : x.r.dies.isSome = true → s.lockOpen x.r x.ix = false := fun hd =>
    lockOpen_of_outside s x.ix (.inl (by have := allRegs_die_off x.r hr hd; omega))
  have below : x.r.off < 0x0160_0000 → s.lockOpen x.r x.ix = false := fun ho => lockOpen_of_outside s x.ix (.inl ho)
  unfold State.writeOne
  rw [if_neg (by simp [ha])]
  split
  · next hd => rw [die (by rw [hd]; rfl)]; simp [State.writePressDie, h]
  · next hd => rw [die (by rw [hd]; rfl)]; simp [State.writePressDie, h]
  · next hd => rw [die (by rw [hd]; rfl)]; simp [State.writeMangle, h]
  · next hd => rw [die (by rw [hd]; rfl)]
  · dsimp only
    split_ifs
    · rw [below (by omega)]; simp [State.writeGlobal, h]
    · rw [below (by omega)]; simp [State.writeIcu, h]
    · rw [below (by omega)]; simp [State.writeNotice, h, hn (by omega)]
    · rw [below (by omega)]; simp [State.writeAon, h]
    · rw [below (by omega)]; simp [State.writeHostIf, h]
    · have inside : s.lockOpen x.r x.ix =
          !(s.bit MEM_STATUS [x.i 0] MEM_STATUS.TRAINED || s.bit MEM_STATUS [x.i 0] MEM_STATUS.SELF_REFRESH) := by
        rw [State.lockOpen, decide_eq_true (show 0x0160_0000 ≤ x.r.off by omega), decide_eq_true (show x.r.off < 0x0170_0000 by omega)]
        rfl
      rw [inside]
      simp [State.writeMemReg, h]
    · rw [lockOpen_of_outside s _ (.inr (by omega))]; simp [State.writeGlobal, h]

end Sys2Proof.Machine
end

section
/-! The statement about accesses to BAR0: writes and reads of registers, and accesses that reach none (R8 to R24, R659). -/

namespace Sys2Proof.Machine

/-! ### MEM_CFG -/

/-- A field of code RW that a write reaches whole at its own place takes the data. -/
theorem getF_plainWrite_rw {s : State} {r : Reg} {ix : List Nat} {n : Nat} (w : Who) (v : Word) (open_ : Bool) (h : tok 0 s.regs = true)
    (hr : r ∈ allRegs) {f : Fld} (hf : (f, Acc.rw) ∈ r.fields) (hn : n ≤ 8) (hw : f.lo + f.width ≤ 8 * n) :
    (s.plainWrite (RegPart.write ⟨r, ix, 0, n, 0⟩ w v.toNat) open_).getF r ix f = fget v f := by
  apply Nat.eq_of_testBit_eq
  intro i
  rw [State.getF, fget_testBit, fget_testBit]
  by_cases hi : i < f.width
  · have hc : f.covers (f.lo + i) = true := by simp [Fld.covers, hi]
    have hx : RegPart.reaches ⟨r, ix, 0, n, 0⟩ (f.lo + i) := ⟨by simp, by simp only; omega⟩
    have := bitOf_plainWrite_of_reaches w v.toNat open_ (x := ⟨r, ix, 0, n, 0⟩) h hr (by simpa using hn) hf hc hx
    rw [bitOf] at this
    rw [this]
    simp [wroteBit, RegPart.dataBit]
  · simp [hi]

theorem MEM_CFG_mem : MEM_CFG ∈ allRegs := by decide +kernel

/-- The configuration register of each controller is 32 bits wide and aligned (R23, R46). -/
theorem regParts_memCfg : ∀ k : Fin 8, MEM_CFG.addr [(k : Nat)] < 2 ^ 26 ∧ accessBad (MEM_CFG.addr [(k : Nat)]) 4 = false ∧
    regParts (MEM_CFG.addr [(k : Nat)]) 4 = [⟨MEM_CFG, [(k : Nat)], 0, 4, 0⟩] := by decide +kernel

/-- The rule of MEM_CFG: its codes, then the two counts as at least 1. -/
theorem writeOne_memCfg {s : State} {ix : List Nat} (w : Who) (m d : Word) (ha : s.regAway MEM_CFG ix = false) :
    s.writeOne ⟨w, MEM_CFG, ix, m, d⟩ =
      ((s.plainWrite ⟨w, MEM_CFG, ix, m, d⟩ (s.lockOpen MEM_CFG ix)).atLeast1 MEM_CFG ix MEM_CFG.SCRUB_HOURS).atLeast1 MEM_CFG ix
        MEM_CFG.WAIT_US := by
  unfold State.writeOne
  rw [if_neg (by simp [ha])]
  rfl

theorem regWrite_memCfg {w : Who} {k v : Nat} {s : State} (ha : s.regAway MEM_CFG [k] = false)
    (hx : regParts (MEM_CFG.addr [k]) 4 = [⟨MEM_CFG, [k], 0, 4, 0⟩]) :
    s.regWrite w (MEM_CFG.addr [k]) 4 v =
      ((s.plainWrite (RegPart.write ⟨MEM_CFG, [k], 0, 4, 0⟩ w v) (s.lockOpen MEM_CFG [k])).atLeast1 MEM_CFG [k]
        MEM_CFG.SCRUB_HOURS).atLeast1 MEM_CFG [k] MEM_CFG.WAIT_US := by
  rw [regWrite_one hx]
  exact writeOne_memCfg w _ _ ha

/-- What storing both counts as at least 1 does to MEM_CFG. -/
theorem memCfg_counts {p : State} (ix : List Nat) (h : tok 0 p.regs = true) :
    let t := (p.atLeast1 MEM_CFG ix MEM_CFG.SCRUB_HOURS).atLeast1 MEM_CFG ix MEM_CFG.WAIT_US
    t.getF MEM_CFG ix MEM_CFG.SCRUB_HOURS = max 1 (p.getF MEM_CFG ix MEM_CFG.SCRUB_HOURS) ∧
    t.getF MEM_CFG ix MEM_CFG.WAIT_US = max 1 (p.getF MEM_CFG ix MEM_CFG.WAIT_US) ∧
    (∀ i < 8, bitOf (t.reg MEM_CFG ix) i = bitOf (p.reg MEM_CFG ix) i) ∧ RegsKept [MEM_CFG.addr ix] p t ∧ Frame [.regs] p t := by
  have hq := atLeast1_tok p MEM_CFG ix MEM_CFG.SCRUB_HOURS h
  refine ⟨?_, ?_, fun i hi => ?_, (atLeast1_kept p _ _ _).trans (atLeast1_kept _ _ _ _),
    (State.atLeast1_frame p _ _ _).trans (State.atLeast1_frame _ _ _ _)⟩
  · rw [getF_atLeast1_field _ _ _ _ _ hq (by decide) (.inl (by decide)), getF_atLeast1_same _ _ _ _ h (by decide) (by decide)]
  · rw [getF_atLeast1_same _ _ _ _ hq (by decide) (by decide), getF_atLeast1_field _ _ _ _ _ h (by decide) (.inr (by decide))]
  · have outside : ∀ f : Fld, 8 ≤ f.lo → f.covers i = false := fun f hf => by
      rw [Fld.covers, decide_eq_false (by omega), Bool.false_and]
    rw [bitOf_atLeast1_of_not_covers _ _ _ _ hq (outside _ (by decide)), bitOf_atLeast1_of_not_covers _ _ _ _ h (outside _ (by decide))]

/-- A bit of MEM_CFG takes the data of a 32-bit write as its field's code says. -/
theorem bitOf_plainWrite_memCfg {s : State} {k : Nat} (w : Who) (v : Word) (open_ : Bool) (h : tok 0 s.regs = true) {f : Fld × Acc}
    (hf : f ∈ MEM_CFG.fields) {i : Nat} (hc : f.1.covers i = true) (hi : i < 32) :
    bitOf ((s.plainWrite (RegPart.write ⟨MEM_CFG, [k], 0, 4, 0⟩ w v.toNat) open_).reg MEM_CFG [k]) i =
      wroteBit f.2 open_ (bitOf (s.reg MEM_CFG [k]) i) (v.getLsbD i) :=
  bitOf_plainWrite_of_reaches w v.toNat open_ (x := ⟨MEM_CFG, [k], 0, 4, 0⟩) h MEM_CFG_mem (show 0 + 4 ≤ 8 by decide) hf hc
    ⟨Nat.zero_le i, hi⟩

/-! ### Where an access goes -/

theorem accessBad_eq_true {a n : Nat} :
    accessBad a n = true ↔ (n ≠ 4 ∧ n ≠ 8) ∨ a % n ≠ 0 ∨ (n = 8 ∧ 0x0010_4000 ≤ a ∧ a < 0x0010_6000) := by
  simp [accessBad, or_assoc, and_assoc]

theorem aim_eq_bad {s : State} {a n : Nat} (h : accessBad a n = true) : s.aim a n = .bad := by simp [State.aim, h]

theorem aim_eq_absent {s : State} {a n : Nat} (h : accessBad a n = false) (hw : s.absentWindow a = true) : s.aim a n = .absent := by
  simp [State.aim, h, hw]

theorem aim_eq_register {s : State} {a n : Nat} {x : RegPart} (h : accessBad a n = false) (hw : s.absentWindow a = false)
    (hx : regParts a n = [x]) : s.aim a n = .register := by
  simp [State.aim, h, hw, hx]

/-! ### Writes -/

theorem exec_registerWrite {w : Who} {a : BitVec 26} {n : Fin 65} {v : Word} {s : State} (h : s.aim a.toNat n = .register) :
    exec (.registerWrite w a n v) s = .next (s.regWrite w a.toNat n v.toNat) := by
  show execRegisterWrite w a n v s = _
  simp [execRegisterWrite, State.busWrite, h]

/-- A write to one register in service without a rule of its own acts by its access codes. -/
theorem regWrite_unruled {w : Who} {a n v : Nat} {s : State} {x : RegPart} (hx : regParts a n = [x]) (hr : ruledRegs.any x.r.is = false)
    (hn : x.r.off / 0x8_0000 = 3 → s.noticeHas (x.ix.getD 0 0) = true) (hu : s.regAway x.r x.ix = false) :
    s.regWrite w a n v = s.plainWrite (x.write w v) (s.lockOpen x.r x.ix) := by
  obtain ⟨hmem, -⟩ := mem_regParts (hx ▸ List.mem_singleton_self x)
  rw [regWrite_one hx]
  exact writeOne_of_unruled (x := x.write w v) hmem hr hn hu

theorem writeOne_away {s : State} {x : RegWrite} (h : s.regAway x.r x.ix = true) : s.writeOne x = s := by rw [State.writeOne, if_pos h]

/-- A write that reaches only registers in reset or folded changes nothing (log entry 32). -/
theorem regWrite_away {s : State} {w : Who} {a n v : Nat} (h : ∀ x ∈ regParts a n, s.regAway x.r x.ix = true) : s.regWrite w a n v = s := by
  rw [regWrite_eq_foldl]
  generalize regParts a n = l at h
  induction l with
  | nil => rfl
  | cons x l ih =>
    rw [List.foldl_cons, writeOne_away (h x List.mem_cons_self)]
    exact ih (fun y hy => h y (List.mem_cons_of_mem x hy))

/-- A 64-bit access to two 32-bit registers is made of the 32-bit accesses to its halves (R23). -/
theorem regParts_halves {a : Nat} {x y : RegPart} (h : regParts a 8 = [x, y]) :
    regParts a 4 = [x] ∧ x.lo = 0 ∧ x.len = 4 ∧ x.pos = 0 ∧ y.len = 4 ∧ y.pos = 4 ∧ regParts (a + 4) 4 = [{ y with pos := 0 }] := by
  have short : ∀ {b pos : Nat}, partAt4 b pos ≠ [x, y] := fun hp => by
    obtain ⟨-, -, -, e⟩ := mem_partAt4 (x := x) (by rw [hp]; exact List.mem_cons_self)
    simp [hp] at e
  unfold regParts at h ⊢
  simp only [if_true, show ¬(4 : Nat) = 8 by decide, if_false] at h ⊢
  cases hr : regAt a with
  | none => rw [hr] at h; exact absurd h short
  | some q =>
    obtain ⟨r, ix⟩ := q
    rw [hr] at h
    dsimp only at h
    split at h
    · simp at h
    · next hw =>
      obtain ⟨rfl, hy⟩ := List.cons_eq_cons.mp h
      refine ⟨by simp [partAt4, hr], rfl, rfl, rfl, ?_⟩
      revert hy
      unfold partAt4
      cases regAt (a + 4) with
      | some q => intro hy; obtain rfl := (List.cons_eq_cons.mp hy).1; exact ⟨rfl, rfl, rfl⟩
      | none => simp [hr, hw]

/-- Both halves of a write act (R23). -/
theorem regWrite_halves {w : Who} {a v : Nat} {s : State} {x y : RegPart} (h : regParts a 8 = [x, y]) :
    s.regWrite w a 8 v = (s.regWrite w a 4 (v % 2 ^ 32)).regWrite w (a + 4) 4 (v / 2 ^ 32) := by
  obtain ⟨hlow, hlo, hlen, hpos, hylen, hypos, hhigh⟩ := regParts_halves h
  have low : x.write w (v % 2 ^ 32) = x.write w v := by simp [RegPart.write, hlo, hlen, hpos]
  have high : RegPart.write { y with pos := 0 } w (v / 2 ^ 32) = y.write w v := by simp [RegPart.write, RegPart.mask, hylen, hypos]
  rw [regWrite_one hlow, regWrite_one hhigh, regWrite_eq_foldl, h, low, high]
  rfl

/-! ### Reads -/

theorem exec_rcRegisterRead {w : Who} {a : BitVec 26} {n : Fin 65} {s : State} (h : s.aim a.toNat n = .register) :
    exec (.rcRegisterRead w a n) s = .next (s.regRead w a.toNat n) := by
  show execRcRegisterRead w a n s = _
  simp [execRcRegisterRead, State.busRead, h]

/-- A read of one register that is neither a claim, nor a debug read, nor the mailbox: its RC fields clear in the bytes reached, and the
result is what the register shows there. -/
theorem regRead_one {w : Who} {a n : Nat} {s : State} {x : RegPart} (h : regParts a n = [x]) (hc : x.r.is ICU_CLAIM = false)
    (hb : x.r.is PRS_BOARD_DATA = false) (hm : x.r.isMbox = false) :
    s.regRead w a n = (s.setReg x.r x.ix (s.reg x.r x.ix &&& ~~~ (x.r.bitsOf .rc &&& x.mask))).readAs
      (BitVec.ofNat 64 ((s.view x.r x.ix).toNat / 2 ^ (8 * x.lo) % 2 ^ (8 * x.len) * 2 ^ (8 * x.pos))) := by
  simp [State.regRead, h, State.readPart, State.readEffect, hc, hb, hm]

/-- A read changes the front by its result alone. -/
theorem readAs_front {s t : State} (h : t.front = s.front) (d : Word) : (t.readAs d).front = { s.front with readData := d } := by
  rw [← h]; rfl

/-- The bits that a read of a part leaves: all but those of code RC in the bytes reached (R17). -/
theorem bitOf_reg_read {s : State} {x : RegPart} (h : tok 0 s.regs = true) (i : Nat) :
    bitOf ((s.setReg x.r x.ix (s.reg x.r x.ix &&& ~~~ (x.r.bitsOf .rc &&& x.mask))).reg x.r x.ix) i =
      (bitOf (s.reg x.r x.ix) i && !(bitOf (x.r.bitsOf .rc) i && bitOf x.mask i)) := by
  rw [reg_setReg_same _ _ _ _ h]
  by_cases hi : i < 64
  · simp [bitOf_not, hi]
  · simp [bitOf_of_ge _ (not_lt.mp hi)]

/-! ### Accesses to absent units -/

theorem exec_absentUnitRead {w : Who} {a : BitVec 26} {n : Fin 65} {s : State} (h : s.aim a.toNat n = .absent) :
    exec (.absentUnitRead w a n) s = .next ((s.absentAccess a.toNat false).readAs 0) := by
  show execAbsentUnitRead w a n s = _
  simp [execAbsentUnitRead, State.busRead, h]

theorem exec_absentUnitWrite {w : Who} {a : BitVec 26} {n : Fin 65} {v : Word} {s : State} (h : s.aim a.toNat n = .absent) :
    exec (.absentUnitWrite w a n v) s = .next (s.absentAccess a.toNat true) := by
  show execAbsentUnitWrite w a n v s = _
  simp [execAbsentUnitWrite, State.busWrite, h]

section
open GLB_ABSENT_ACCESS

/-- What GLB_ABSENT_ACCESS holds after an access to MiB `mb` of an absent unit's window, when it held `v` (R8, R9, R14). -/
def absentWord (v : Word) (mb : Nat) (write : Bool) : Word :=
  let v1 := if fget v ACCESS != 0 then v else fset v FIRST_MB mb
  let v2 := fset v1 ACCESS 1
  let v3 := fset v2 COUNT (satAdd (2 ^ COUNT.width - 1) (fget v2 COUNT) 1)
  if write then fset v3 WRITE 1 else v3

theorem absentAccess_reg (s : State) (a : Nat) (write : Bool) (h : tok 0 s.regs = true) :
    (s.absentAccess a write).reg GLB_ABSENT_ACCESS [] = absentWord (s.reg GLB_ABSENT_ACCESS []) (a / 2 ^ 20) write := by
  have hg : (fget (s.reg GLB_ABSENT_ACCESS []) ACCESS != 0) = s.bit GLB_ABSENT_ACCESS [] ACCESS := rfl
  rw [absentWord, hg, State.absentAccess]
  cases s.bit GLB_ABSENT_ACCESS [] ACCESS <;> cases write <;>
    simp (disch := repeat first | assumption | apply setF_tok) only [if_true, if_false, Bool.false_eq_true, State.setBit, State.incF,
      State.getF, reg_setF_same]

theorem absentAccess_kept (s : State) (a : Nat) (write : Bool) : RegsKept [GLB_ABSENT_ACCESS.addr []] s (s.absentAccess a write) := by
  have first : RegsKept [GLB_ABSENT_ACCESS.addr []] s
      (if s.bit GLB_ABSENT_ACCESS [] ACCESS then s else s.setF GLB_ABSENT_ACCESS [] FIRST_MB (a / 2 ^ 20)) := by
    split
    · exact RegsKept.refl _ s
    · exact setF_kept _ _ _ _ _
  have flagged := first.trans (setF_kept _ GLB_ABSENT_ACCESS [] ACCESS 1)
  cases write
  · exact flagged.trans (setF_kept _ _ _ _ _)
  · exact (flagged.trans (setF_kept _ _ _ _ _)).trans (setF_kept _ _ _ _ _)

variable (v : Word) (mb : Nat) (write : Bool)

theorem fget_absentWord_access : fget (absentWord v mb write) ACCESS = 1 := by
  unfold absentWord
  cases write <;> simp (disch := decide) only [if_true, if_false, Bool.false_eq_true, fget_fset_same, fget_fset_ne]
  all_goals rfl

theorem fget_absentWord_write : fget (absentWord v mb write) WRITE = if write then 1 else fget v WRITE := by
  unfold absentWord
  cases write
  · split <;> simp (disch := decide) [fget_fset_ne]
  · simp (disch := decide) [fget_fset_same]

theorem fget_absentWord_count : fget (absentWord v mb write) COUNT = min (2 ^ COUNT.width - 1) (fget v COUNT + 1) := by
  have hlt : ∀ n, satAdd (2 ^ COUNT.width - 1) n 1 % 2 ^ COUNT.width = min (2 ^ COUNT.width - 1) (n + 1) := fun n =>
    Nat.mod_eq_of_lt (by simp only [satAdd, COUNT]; omega)
  unfold absentWord
  cases write <;> split <;> simp (disch := decide) [fget_fset_same, fget_fset_ne, hlt]

theorem fget_absentWord_first (h : mb < 2 ^ FIRST_MB.width) :
    fget (absentWord v mb write) FIRST_MB = if fget v ACCESS != 0 then fget v FIRST_MB else mb := by
  unfold absentWord
  cases write <;> split <;> simp (disch := decide) [fget_fset_same, fget_fset_ne, Nat.mod_eq_of_lt h]

end

/-! ### Accesses to reserved offsets -/

theorem exec_reservedOffsetAccess_read {w : Who} {a : BitVec 26} {n : Fin 65} {s : State} (h : s.aim a.toNat n = .reserved) :
    exec (.reservedOffsetAccess w a n none) s = .next (s.readAs 0) := by
  show execReservedOffsetAccess w a n none s = _
  simp [execReservedOffsetAccess, State.busRead, h]

theorem exec_reservedOffsetAccess_write {w : Who} {a : BitVec 26} {n : Fin 65} {v : Word} {s : State} (h : s.aim a.toNat n = .reserved) :
    exec (.reservedOffsetAccess w a n (some v)) s = .next s := by
  show execReservedOffsetAccess w a n (some v) s = _
  simp [execReservedOffsetAccess, State.busWrite, h]

/-! ### Accesses of a wrong size or alignment -/

theorem exec_misalignedRegAccess {w : Who} {a : BitVec 26} {n : Fin 65} {v : Option Word} {s : State} (h : s.aim a.toNat n = .bad) :
    exec (.misalignedRegAccess w a n v) s = .next (if v.isNone then (s.accessFault w a.toNat v.isSome).readAs 0
      else s.accessFault w a.toNat v.isSome) := by
  show execMisalignedRegAccess w a n v s = _
  cases v <;> simp [execMisalignedRegAccess, State.busRead, State.busWrite, h]

/-- Only the first fault is recorded. -/
theorem accessFault_again {s : State} {w : Who} {a : Nat} {write : Bool} (h : s.bit CMD_ACCESS_FAULT [] CMD_ACCESS_FAULT.FAULT = true) :
    s.accessFault w a write = s := by rw [State.accessFault, if_pos h]

theorem b2n_bne_zero (b : Bool) : (b2n b != 0) = b := by cases b <;> rfl

section
open CMD_ACCESS_FAULT

/-- What CMD_ACCESS_FAULT holds after the first fault (R22). -/
def faultWord (write host : Bool) (a : Nat) : Word := fset (packF [(WRITE, b2n write), (HOST, b2n host), (OFFSET, a)]) FAULT 1

variable (write host : Bool) (a : Nat)

theorem fget_faultWord_fault : fget (faultWord write host a) FAULT = 1 := fget_fset_same _ _ _ (by decide)

theorem fget_faultWord_write : fget (faultWord write host a) WRITE = b2n write := by
  simp (disch := decide) only [faultWord, packF, List.foldl_cons, List.foldl_nil, fget_fset_same, fget_fset_ne]
  cases write <;> rfl

theorem fget_faultWord_host : fget (faultWord write host a) HOST = b2n host := by
  simp (disch := decide) only [faultWord, packF, List.foldl_cons, List.foldl_nil, fget_fset_same, fget_fset_ne]
  cases host <;> rfl

theorem fget_faultWord_offset (h : a < 2 ^ 26) : fget (faultWord write host a) OFFSET = a := by
  simp (disch := decide) only [faultWord, packF, List.foldl_cons, List.foldl_nil, fget_fset_same, fget_fset_ne]
  exact Nat.mod_eq_of_lt h

end

theorem fireMsix_front (s : State) (v : Nat) :
    if s.msixOpen v then (s.fireMsix v).front.msix = s.front.msix ++ [v]
    else v ∈ (s.fireMsix v).front.msixHeld ∧ (s.fireMsix v).front.msix = s.front.msix := by
  unfold State.fireMsix
  split_ifs with ho hh
  · rfl
  · exact ⟨by simpa using hh, rfl⟩
  · exact ⟨by simp, rfl⟩

theorem sendEvent_logs (s : State) (die kind data : Nat) : Logs s (s.sendEvent die kind data) die kind data := by
  intro h
  simp only [State.sendEvent, if_pos h]
  exact ⟨_, rfl, rfl, rfl, rfl⟩

/-- Only the arbiter's part of the two states matters for what is logged. -/
theorem Logs.congr {s t s' t' : State} {die kind data : Nat} (h : Logs s t die kind data) (hs : s'.arb = s.arb) (ht : t'.arb = t.arb) :
    Logs s' t' die kind data := by
  unfold Logs at *
  rwa [hs, ht]

/-- A pending vector's gate depends on CMD_IF_STATUS and on its own MSIX_CTRL alone. -/
theorem RegsKept.msixOpen_eq {as : List Nat} {s t : State} (h : RegsKept as s t) {v : Nat} (hi : CMD_IF_STATUS.addr [] ∉ as)
    (hm : MSIX_CTRL.addr [v] ∉ as) : t.msixOpen v = s.msixOpen v := by
  simp only [State.msixOpen, State.bit, State.getF, h.reg_eq hi, h.reg_eq hm]

/-- The first access that breaks R22 sets CMD_ACCESS_FAULT, is logged and fires vector 17 (R22, R683, R708). -/
theorem accessFault_spec {s : State} (w : Who) (a : Nat) (write : Bool) (h : tok 0 s.regs = true)
    (hf : s.bit CMD_ACCESS_FAULT [] CMD_ACCESS_FAULT.FAULT = false) :
    let t := s.accessFault w a write
    t.reg CMD_ACCESS_FAULT [] = faultWord write (w == .host) a ∧ RegsKept [CMD_ACCESS_FAULT.addr []] s t ∧
    Logs s t 10 1 (CMD_ACCESS_FAULT.addr [] + 2 ^ 32) ∧
    (if s.msixOpen 17 then t.front.msix = s.front.msix ++ [17] else 17 ∈ t.front.msixHeld ∧ t.front.msix = s.front.msix) := by
  let u := (s.setReg CMD_ACCESS_FAULT [] (packF [(CMD_ACCESS_FAULT.WRITE, b2n write), (CMD_ACCESS_FAULT.HOST, b2n (w == .host)),
    (CMD_ACCESS_FAULT.OFFSET, a)])).setBit CMD_ACCESS_FAULT [] CMD_ACCESS_FAULT.FAULT
  let e := u.sendEvent 10 0x01 (CMD_ACCESS_FAULT.addr [] + 2 ^ 32)
  have ht : s.accessFault w a write = e.fireMsix 17 := by rw [State.accessFault, if_neg (by simp [hf])]; rfl
  have hue : e.regs = u.regs := (State.sendEvent_frame u _ _ _).1 .regs (by decide)
  have hte : (e.fireMsix 17).regs = e.regs := (State.fireMsix_frame e 17).1 .regs (by decide)
  have kept : RegsKept [CMD_ACCESS_FAULT.addr []] s e :=
    ((setReg_kept s _ _ _).trans (setF_kept _ _ _ _ _)).trans (.of_regs_eq hue)
  have front : e.front = s.front := (State.sendEvent_frame u _ _ _).1 .front (by decide)
  rw [ht]
  refine ⟨?_, kept.trans (.of_regs_eq hte), ?_, ?_⟩
  · have recorded : u.reg CMD_ACCESS_FAULT [] = fset _ CMD_ACCESS_FAULT.FAULT 1 := reg_setF_same _ _ _ _ _ (setReg_tok _ _ _ _ h)
    rw [State.reg, hte, hue, ← State.reg, recorded, reg_setReg_same _ _ _ _ h]
    rfl
  · exact (sendEvent_logs u 10 1 _).congr rfl ((State.fireMsix_frame e 17).1 .arb (by decide))
  · have fired := fireMsix_front e 17
    rwa [kept.msixOpen_eq (by decide) (by decide), front] at fired

/-! ### The statement -/

/-- Settles O56, clause by clause: each kind of access is the operation that its rule names, and that operation's lemmas say what it changes. -/
theorem registerAccess : Obligations.RegisterAccess := by
  refine ⟨?codes, ?memCfg, ?away, ?halves, ?read, ?absent, ?reserved, ?bad⟩
  case codes =>
    rintro w a n v s x ⟨-, hs⟩ ha hx hr hn hu
    obtain ⟨hmem, hlen⟩ := mem_regParts (hx ▸ List.mem_singleton_self x)
    refine ⟨_, (exec_registerWrite ha).trans (congrArg _ (regWrite_unruled hx hr hn hu)), fun f hf i hlo hhi hi => ?_,
      fun i hi => bitOf_plainWrite_of_not_reaches w _ _ hs hi, plainWrite_kept s (x.write w v.toNat) _, State.plainWrite_frame _ _ _⟩
    exact bitOf_plainWrite_of_reaches w _ _ hs hmem hlen hf (by simp [Fld.covers, hlo, hhi]) hi
  case memCfg =>
    rintro w k v s ⟨-, hs⟩ hw hu
    obtain ⟨hlt, hbad, hx⟩ := regParts_memCfg k
    have ha : (BitVec.ofNat 26 (MEM_CFG.addr [(k : Nat)])).toNat = MEM_CFG.addr [(k : Nat)] := by
      rw [BitVec.toNat_ofNat, Nat.mod_eq_of_lt hlt]
    have hexec := exec_registerWrite (w := w) (n := 4) (v := v) (ha.symm ▸ aim_eq_register hbad hw hx)
    rw [ha, show ((4 : Fin 65) : Nat) = 4 from rfl, regWrite_memCfg hu hx] at hexec
    obtain ⟨hhours, hwait, hbits, hkept, hframe⟩ := memCfg_counts [(k : Nat)] (plainWrite_tok s _ _ hs)
    refine ⟨_, hexec, ?_, ?_, ?_, ?_, (plainWrite_kept s (RegPart.write ⟨MEM_CFG, [(k : Nat)], 0, 4, 0⟩ w v.toNat) _).trans hkept,
      (State.plainWrite_frame s _ _).trans hframe⟩
    · exact (hbits 0 (by decide)).trans (bitOf_plainWrite_memCfg w v _ hs (f := (⟨0, 1⟩, .rwl)) (by decide) (by decide) (by decide))
    · exact (hbits 1 (by decide)).trans (bitOf_plainWrite_memCfg w v _ hs (f := (⟨1, 1⟩, .rw)) (by decide) (by decide) (by decide))
    · rw [hhours, getF_plainWrite_rw w v _ hs MEM_CFG_mem (by decide) (by decide) (by decide)]
    · rw [hwait, getF_plainWrite_rw w v _ hs MEM_CFG_mem (by decide) (by decide) (by decide)]
  case away => exact fun w a n v s ha hx => (exec_registerWrite ha).trans (congrArg _ (regWrite_away hx))
  case halves => exact fun w a v s x y ha hx => (exec_registerWrite ha).trans (congrArg _ (regWrite_halves hx))
  case read =>
    rintro w a n s x ⟨-, hs⟩ ha hx hc hb hm
    obtain ⟨-, hlen⟩ := mem_regParts (hx ▸ List.mem_singleton_self x)
    refine ⟨_, (exec_rcRegisterRead ha).trans (congrArg _ (regRead_one hx hc hb hm)), BitVec.toNat_ofNat _ _, fun i hi hrc => ?_,
      fun i hi => ?_, rfl, setReg_kept s x.r x.ix _, ((State.setReg_frame s _ _ _).mono rfl).trans ((State.readAs_frame _ _).mono rfl)⟩
    · exact (bitOf_reg_read hs i).trans (by rw [hrc, RegPart.bitOf_mask_of_reaches hlen hi]; simp)
    · refine (bitOf_reg_read hs i).trans ?_
      obtain hi | hi := hi
      · simp [RegPart.bitOf_mask_of_not_reaches hi]
      · simp [hi]
  case absent =>
    rintro w a n v s ⟨-, hs⟩ hbad hw counts
    have aim := aim_eq_absent hbad hw
    have hmb : a.toNat / 2 ^ 20 < 2 ^ GLB_ABSENT_ACCESS.FIRST_MB.width := by simp only [GLB_ABSENT_ACCESS.FIRST_MB]; omega
    have counted : ∀ wr, counts (s.absentAccess a.toNat wr) := fun wr => by
      have hreg := absentAccess_reg s a.toNat wr hs
      refine ⟨?_, ?_, ?_, absentAccess_kept s a.toNat wr⟩
      · rw [State.bit, State.getF, hreg, fget_absentWord_access]; rfl
      · rw [Counted, State.getF, hreg, fget_absentWord_count]; rfl
      · rw [State.getF, hreg, fget_absentWord_first _ _ _ hmb]; rfl
    have wrote : ∀ wr, (s.absentAccess a.toNat wr).bit GLB_ABSENT_ACCESS [] GLB_ABSENT_ACCESS.WRITE =
        (wr || s.bit GLB_ABSENT_ACCESS [] GLB_ABSENT_ACCESS.WRITE) := fun wr => by
      rw [State.bit, State.getF, absentAccess_reg s a.toNat wr hs, fget_absentWord_write]
      cases wr <;> rfl
    exact ⟨⟨_, exec_absentUnitRead aim, counted false, wrote false, readAs_front ((State.absentAccess_frame s _ _).1 .front (by decide)) 0,
        ((State.absentAccess_frame s _ _).mono rfl).trans ((State.readAs_frame _ _).mono rfl)⟩,
      ⟨_, exec_absentUnitWrite aim, counted true, wrote true, State.absentAccess_frame s _ _⟩⟩
  case reserved => exact fun w a n v s ha => ⟨exec_reservedOffsetAccess_read ha, exec_reservedOffsetAccess_write ha⟩
  case bad =>
    rintro w a n v s ⟨-, hs⟩ hbad
    have hexec := exec_misalignedRegAccess (w := w) (v := v) (aim_eq_bad (s := s) (accessBad_eq_true.mpr hbad))
    refine ⟨fun hf => ?_, fun hf => ?_⟩
    · rw [hexec, accessFault_again hf]
    · obtain ⟨hreg, hkept, hlogs, hmsix⟩ := accessFault_spec w a.toNat v.isSome hs hf
      have hfault : (s.accessFault w a.toNat v.isSome).bit CMD_ACCESS_FAULT [] CMD_ACCESS_FAULT.FAULT = true := by
        rw [State.bit, State.getF, hreg, fget_faultWord_fault]; rfl
      have hwrite : (s.accessFault w a.toNat v.isSome).bit CMD_ACCESS_FAULT [] CMD_ACCESS_FAULT.WRITE = v.isSome := by
        rw [State.bit, State.getF, hreg, fget_faultWord_write, b2n_bne_zero]
      have hhost : (s.accessFault w a.toNat v.isSome).bit CMD_ACCESS_FAULT [] CMD_ACCESS_FAULT.HOST = (w == .host) := by
        rw [State.bit, State.getF, hreg, fget_faultWord_host, b2n_bne_zero]
      have hoffset : (s.accessFault w a.toNat v.isSome).getF CMD_ACCESS_FAULT [] CMD_ACCESS_FAULT.OFFSET = a.toNat := by
        rw [State.getF, hreg, fget_faultWord_offset _ _ _ a.isLt]
      have hframe := State.accessFault_frame s w a.toNat v.isSome
      cases v with
      | none =>
        exact ⟨_, hexec, hfault, hwrite, hhost, hoffset, hlogs, fun _ => rfl, hmsix, hkept, hframe.trans ((State.readAs_frame _ _).mono rfl)⟩
      | some d => exact ⟨_, hexec, hfault, hwrite, hhost, hoffset, hlogs, nofun, hmsix, hkept, hframe⟩

end Sys2Proof.Machine
end

section
/-! What every step keeps (R49, R861, R889, R897, R898): the waiting queue, the canonical form of the stores, and the direction of the fuses. -/

namespace Sys2Proof.Machine

/-! ### Fuses only rise -/

/-- The fused counters and the store-key bank are within their ranges (R861, R889, R898). -/
def Fuses.inRange (f : Fuses) : Prop := f.smSvn ≤ 64 ∧ f.fwSvn ≤ 64 ∧ f.bank ≤ 8

theorem FusesRise.of_eq {s t : State} (h : t.fuses = s.fuses) : FusesRise s t := by simp [FusesRise, h]

theorem FusesRise.trans {s t u : State} (h : FusesRise s t) (k : FusesRise t u) : FusesRise s u := by
  obtain ⟨v, st, g, sn, rd, rr, sm, fw, b, dd, co, sk⟩ := h
  obtain ⟨v', st', g', sn', rd', rr', sm', fw', b', dd', co', sk'⟩ := k
  refine ⟨v'.trans v, st'.trans st, g'.trans g, sn'.trans sn, rd'.trans rd, ?_, sm.trans sm', fw.trans fw', b.trans b', dd'.trans dd,
    fun i hi => ?_, fun i j hj => ?_⟩
  · rw [← rr', ← Nat.or_assoc, rr]
  · have hit := co i hi
    rw [co' i (hit ▸ hi), hit]
  · rw [← sk' i j hj, ← BitVec.or_assoc, sk i j hj]

/-- The queue stays, and from a state with the invariant the next one has it too and no fuse has fallen. -/
def Keeps (s t : State) : Prop := t.pending = s.pending ∧ (s.Inv → t.Inv ∧ FusesRise s t)

theorem Keeps.refl (s : State) : Keeps s s := ⟨rfl, fun h => ⟨h, .of_eq rfl⟩⟩

theorem Keeps.trans {s t u : State} (h : Keeps s t) (k : Keeps t u) : Keeps s u :=
  ⟨k.1.trans h.1, fun hs => ⟨(k.2 (h.2 hs).1).1, (h.2 hs).2.trans (k.2 (h.2 hs).1).2⟩⟩

/-- The frame holds neither the queue nor the fuses. -/
def sparesFuses (l : List Part) : Bool := !l.contains .pending && !l.contains .fuses

theorem sparesFuses_iff {l : List Part} : sparesFuses l = true ↔ Part.pending ∉ l ∧ Part.fuses ∉ l := by simp [sparesFuses]

/-- An operation whose frame holds neither the queue nor the fuses. -/
theorem Keeps.of_frame {l : List Part} {s t : State} (h : Frame l s t) (hl : sparesFuses l = true) : Keeps s t := by
  obtain ⟨hp, hf⟩ := sparesFuses_iff.mp hl
  have hf : t.fuses = s.fuses := h.1 .fuses hf
  refine ⟨h.1 .pending hp, fun ⟨⟨hm, hr⟩, hrange⟩ => ⟨⟨⟨h.2.2 hm, h.2.1 hr⟩, ?_⟩, .of_eq hf⟩⟩
  rwa [hf]

/-- One more operation whose frame holds neither the queue nor the fuses. -/
theorem Keeps.then {l : List Part} {s t u : State} (k : Keeps s t) (h : Frame l t u) (hl : sparesFuses l = true) :
    Keeps s u := k.trans (.of_frame h hl)

theorem Keeps.ite {c : Prop} [Decidable c] {s t u : State} (h : c → Keeps s t) (k : ¬c → Keeps s u) : Keeps s (if c then t else u) := by
  split
  · exact h ‹_›
  · exact k ‹_›

theorem Keeps.foldl {α : Type} {f : State → α → State} (hf : ∀ s x, Keeps s (f s x)) (as : List α) (s : State) : Keeps s (as.foldl f s) := by
  induction as generalizing s with
  | nil => exact .refl s
  | cons a as ih => exact (hf s a).trans (ih _)

/-- Burning fuses: the rest of the state is as it was. -/
theorem Keeps.burn {s : State} {f : Fuses} (h : s.fuses.inRange → f.inRange ∧ FusesRise s { s with fuses := f }) :
    Keeps s { s with fuses := f } :=
  ⟨rfl, fun ⟨hwf, hrange⟩ => ⟨⟨hwf, (h hrange).1⟩, (h hrange).2⟩⟩

/-! ### The operations that burn fuses -/

theorem getD_set_ne {α : Type} {l : List α} {i j : Nat} {x d : α} (h : i ≠ j) : (l.set i x).getD j d = l.getD j d := by
  simp [List.getD_eq_getElem?_getD, List.getElem?_set_ne h]

/-- A bank of the store keys is written with bytes that have every bit that the bank has. -/
theorem bankRise {l : List (List Byte)} {b : Nat} {k : List Byte} (h : ∀ j, j < 32 → (l.getD b []).getD j 0 ||| k.getD j 0 = k.getD j 0)
    (i j : Nat) (hj : j < 32) : (l.getD i []).getD j 0 ||| ((l.set b k).getD i []).getD j 0 = ((l.set b k).getD i []).getD j 0 := by
  by_cases hi : b = i
  · subst hi
    by_cases hb : b < l.length
    · simpa [List.getD_eq_getElem?_getD, hb] using h j hj
    · rw [List.set_eq_of_length_le (by omega), BitVec.or_self]
  · rw [getD_set_ne hi, BitVec.or_self]

theorem State.seedDrbg_keeps (s : State) : Keeps s s.seedDrbg := by
  unfold State.seedDrbg
  extract_lets _ s1 b k
  have h1 : Keeps s s1 := .of_frame (State.setSm_frame s _) rfl
  refine .ite (fun hb => ?_) (fun _ => h1)
  have hempty : s1.fuses.storeKeys.getD b [] = [] := List.isEmpty_iff.mp hb.2
  refine (h1.trans (.burn fun hr => ?_)).then (State.useFree_frame _ 32) rfl
  exact ⟨hr, rfl, rfl, rfl, rfl, rfl, Nat.or_self _, le_rfl, le_rfl, le_rfl, rfl, fun _ _ => rfl,
    bankRise fun j _ => by rw [hempty]; exact BitVec.zero_or⟩

theorem ones_getD {j : Nat} (h : j < 32) (x : Byte) :
    x ||| (List.replicate 32 (0xFF : Byte)).getD j 0 = (List.replicate 32 0xFF).getD j 0 := by
  have : (List.replicate 32 (0xFF : Byte)).getD j 0 = BitVec.allOnes 8 := by
    rw [List.getD_eq_getElem?_getD, List.getElem?_replicate_of_lt h]; rfl
  rw [this, BitVec.or_allOnes]

theorem State.eraseStore_keeps (s : State) : Keeps s s.eraseStore := by
  unfold State.eraseStore
  extract_lets b _ s1 _ s2 s3
  have h1 : Keeps s s1 := .of_frame (State.setSm_frame s _) rfl
  have h2 : Keeps s s2 := h1.trans (.burn fun ⟨hsm, hfw, hb⟩ => ⟨⟨hsm, hfw, Nat.min_le_left ..⟩, rfl, rfl, rfl, rfl, rfl,
    Nat.or_self _, le_rfl, le_rfl, le_min hb (Nat.le_succ _), rfl, fun _ _ => rfl, bankRise fun j hj => ones_getD hj _⟩)
  have h3 : Keeps s s3 := h2.then (State.setF_frame ..) rfl
  exact .ite (fun _ => h3.then (State.setF_frame ..) rfl) (fun _ => h3)

theorem State.zeroize_keeps (s : State) (store : Bool) : Keeps s (s.zeroize store) := by
  unfold State.zeroize
  extract_lets s1 s2 s3
  have h1 : Keeps s s1 :=
    ((Keeps.of_frame (State.wipeSecrets_frame s) rfl).then (State.wipeSas_frame _) rfl).then (State.closeSessions_frame _) rfl
  have h2 : Keeps s s2 := .ite (fun _ => h1.trans (State.eraseStore_keeps _)) (fun _ => h1)
  have h3 : Keeps s s3 := h2.then (State.smEvent_frame ..) rfl
  exact .ite (fun _ => h3.trans (State.seedDrbg_keeps _)) (fun _ => h3)

/-- The officer's services burn fuses upwards: no service fuses a Crypto Officer digest over another (R870). -/
theorem State.runOfficerSvc_keeps (s : State) (c : Cmd) (h : c.par 0 1 = 0x34 → s.coFused (c.par 2 1) = false) :
    Keeps s (s.runOfficerSvc c).1 := by
  unfold State.runOfficerSvc
  extract_lets +onlyGivenNames a st pub
  split
  case h_1 => exact .of_frame (State.setStore_frame ..) rfl
  case h_2 => exact (Keeps.of_frame (State.setStore_frame ..) rfl).then (State.loadPolicy_frame _) rfl
  case h_3 => exact .of_frame (State.setStore_frame ..) rfl
  case h_4 =>
    exact .burn fun ⟨hsm, hfw, hb⟩ => ⟨⟨Nat.min_le_left .., Nat.min_le_left .., hb⟩, rfl, rfl, rfl, rfl, rfl, Nat.or_self _,
      le_min hsm (le_max_left ..), le_min hfw (le_max_left ..), le_rfl, rfl, fun _ _ => rfl, fun _ _ _ => BitVec.or_self⟩
  case h_5 hop =>
    have hempty : s.fuses.coDigest.getD a [] = [] := by simpa [State.coFused] using h hop
    refine (Keeps.burn fun hr => ?_).then (State.setSmState_frame ..) rfl
    refine ⟨hr, rfl, rfl, rfl, rfl, rfl, Nat.or_self _, le_rfl, le_rfl, le_rfl, rfl, fun k hk => ?_, fun _ _ _ => BitVec.or_self⟩
    exact getD_set_ne fun he => hk (he ▸ hempty)
  case h_6 =>
    exact .burn fun hr => ⟨hr, rfl, rfl, rfl, rfl, rfl, by rw [← Nat.or_assoc, Nat.or_self], le_rfl, le_rfl, le_rfl, rfl, fun _ _ => rfl,
      fun _ _ _ => BitVec.or_self⟩
  case h_7 =>
    extract_lets s2 _ s3
    have h2 : Keeps s s2 := (State.zeroize_keeps s false).then (State.setF_frame ..) rfl
    have h3 : Keeps s s3 := (h2.then (State.setSm_frame ..) rfl).then (State.setF_frame ..) rfl
    exact (h3.then (State.setF_frame _ SM_STATUS [] SM_STATUS.APPROVED 0) rfl).then (State.smEvent_frame _ SM_EVENT.DEBUG_UNLOCKED) rfl
  case h_8 => exact (Keeps.of_frame (State.setF_frame ..) rfl).then (State.setF_frame ..) rfl

/-! ### The security module -/

theorem State.runSvc_keeps (s : State) (c : Cmd) (failed : Option Nat) (h : c.par 0 1 = 0x34 → s.coFused (c.par 2 1) = false) :
    Keeps s (s.runSvc c failed).1 := by
  unfold State.runSvc
  split
  case h_1 => exact .refl s
  case h_2 => exact .of_frame (State.knownAnswers_frame s failed) rfl
  case h_3 => exact .of_frame (State.setSm_frame ..) rfl
  case h_4 =>
    split
    · exact .of_frame (State.runKeySvc_frame s c) rfl
    · exact State.runOfficerSvc_keeps s c h

/-- A service that is not refused fuses no Crypto Officer digest over another (R870, R887). -/
theorem State.coFused_of_not_refused {s : State} {c : Cmd} (h : ¬s.svcRefused c = true) (hop : c.par 0 1 = 0x34) :
    s.coFused (c.par 2 1) = false := by
  simp only [State.svcRefused, Bool.or_eq_true, Bool.and_eq_true, not_or, not_and, beq_iff_eq] at h
  obtain ⟨⟨⟨-, h⟩, -⟩, -⟩ := h
  exact Bool.eq_false_iff.mpr (h hop).1

theorem State.smService_keeps (s : State) (c : Cmd) (failed : Option Nat) : Keeps s (s.smService c failed).1 := by
  unfold State.smService
  extract_lets svc r
  have hr : Keeps s r.1 := by
    unfold r
    split
    · exact .refl s
    split
    · exact .refl s
    split
    · exact .refl s
    next hrefused =>
      split
      · exact .refl s
      · exact State.runSvc_keeps s c failed (State.coFused_of_not_refused hrefused)
  split <;> exact hr

theorem State.smZeroize_keeps (s : State) (c : Cmd) : Keeps s (s.smZeroize c).1 := by
  unfold State.smZeroize
  split
  · exact .refl s
  split
  · exact .refl s
  · exact State.zeroize_keeps s _

theorem State.mboxRun_keeps (s : State) (failed : Option Nat) : Keeps s (s.mboxRun failed) := by
  unfold State.mboxRun
  extract_lets slot c r
  refine .ite (fun _ => ?_) fun _ => (Keeps.of_frame (State.useFree_frame s 1) rfl).then (State.mbox_frame ..) rfl
  have hr : Keeps s r.1 := by
    unfold r
    split
    · exact .refl s
    split
    · exact .of_frame (State.smSessionOpen_frame s c) rfl
    split
    · exact State.smService_keeps s c failed
    · exact State.smZeroize_keeps s c
  exact hr.then (State.mbox_frame ..) rfl

theorem State.mboxCtrl_keeps (s : State) (w : Who) (v : Word) (failed : Option Nat) : Keeps s (s.mboxCtrl w v failed) := by
  unfold State.mboxCtrl
  extract_lets s1
  have h1 : Keeps s s1 := .ite (fun _ => .of_frame (State.setF_frame ..) rfl) fun _ => .refl s
  exact .ite (fun _ => .ite (fun _ => h1.trans (State.mboxRun_keeps s1 failed)) fun _ => h1) fun _ => .refl s

theorem State.smServe_keeps (s : State) : Keeps s s.smServe :=
  ((State.seedDrbg_keeps s).then (State.loadStore_frame _) rfl).then (State.setSmState_frame ..) rfl

theorem State.serveLatch_keeps (s : State) : Keeps s s.serveLatch :=
  .ite (fun _ => (State.zeroize_keeps s true).then (State.setSm_frame ..) rfl) fun _ => .refl s

theorem State.smStart_keeps (s : State) (failed : Option Nat) : Keeps s (s.smStart failed) := by
  unfold State.smStart
  extract_lets s1 s2 s3
  have h1 : Keeps s s1 :=
    ((Keeps.of_frame (State.setSmState_frame s 1) rfl).then (State.setF_frame ..) rfl).then (State.setF_frame ..) rfl
  have h3 : Keeps s s3 := (h1.then (State.setF_frame ..) rfl).trans (State.serveLatch_keeps s2)
  split
  · exact (h3.then (State.testsRun_frame ..) rfl).trans (State.smServe_keeps _)
  · have h4 := h3.then (State.testsRun_frame s3 0x7FF (2 ^ ‹Nat›)) rfl
    exact .ite (fun _ => h4.then (State.softError_frame ..) rfl) fun _ => h4.then (State.hardError_frame ..) rfl

theorem State.bootTests_keeps (s : State) (failed : Option Nat) : Keeps s (s.bootTests failed) := by
  unfold State.bootTests
  extract_lets s1
  have h1 : Keeps s s1 := .ite (fun _ => State.smStart_keeps s failed) fun _ => .refl s
  have served : Keeps s s1.seedWash.releaseDies := (h1.then (State.seedWash_frame _) rfl).then (State.releaseDies_frame _) rfl
  exact .ite (fun _ => served) fun _ => h1.then (State.bootFail_frame ..) rfl

/-! ### Writes to registers -/

theorem State.writeAon_keeps (s : State) (x : RegWrite) : Keeps s (s.writeAon x) := by
  unfold State.writeAon
  extract_lets plain
  have h : Keeps s plain := .of_frame (State.plainWrite_frame ..) rfl
  refine .ite (fun _ => .of_frame (State.writeRefCfg_frame ..) rfl) fun _ => ?_
  refine .ite (fun _ => .of_frame (State.writeFwdCfg_frame ..) rfl) fun _ => ?_
  refine .ite (fun _ => .of_frame (State.writeRstCold_frame ..) rfl) fun _ => ?_
  refine .ite (fun _ => h.then (State.atLeast1_frame ..) rfl) fun _ => ?_
  refine .ite (fun _ => h.then (State.clearsWith_frame ..) rfl) fun _ => ?_
  refine .ite (fun _ => ?therm) fun _ => ?_
  case therm =>
    exact (h.then (State.atMost_frame ..) rfl).trans
      (.foldl (fun s d => .ite (fun _ => .of_frame (State.throttle_frame s d) rfl) fun _ => .refl s) _ _)
  refine .ite (fun _ => h.then (State.atLeast1_frame ..) rfl) fun _ => ?_
  refine .ite (fun _ => .ite (fun _ => h) fun _ => .refl s) fun _ => ?_
  exact .ite (fun _ => State.mboxCtrl_keeps ..) fun _ => h

theorem State.writeOne_keeps (s : State) (x : RegWrite) : Keeps s (s.writeOne x) := by
  unfold State.writeOne
  refine .ite (fun _ => .refl s) fun _ => ?_
  split
  · exact .of_frame (State.writePressDie_frame s x) rfl
  · exact .of_frame (State.writePressDie_frame s x) rfl
  · exact .of_frame (State.writeMangle_frame s x) rfl
  · exact .of_frame (State.plainWrite_frame s x false) rfl
  · refine .ite (fun _ => .of_frame (State.writeGlobal_frame s x) rfl) fun _ => ?_
    refine .ite (fun _ => .of_frame (State.writeIcu_frame s x) rfl) fun _ => ?_
    refine .ite (fun _ => .of_frame (State.writeNotice_frame s x) rfl) fun _ => ?_
    refine .ite (fun _ => State.writeAon_keeps s x) fun _ => ?_
    refine .ite (fun _ => .of_frame (State.writeHostIf_frame s x) rfl) fun _ => ?_
    exact .ite (fun _ => .of_frame (State.writeMemReg_frame s x) rfl) fun _ => .of_frame (State.writeGlobal_frame s x) rfl

theorem State.busWrite_keeps (s : State) (w : Who) (a n v : Nat) : Keeps s (s.busWrite w a n v) := by
  unfold State.busWrite
  split
  · exact .of_frame (State.accessFault_frame ..) rfl
  · exact .of_frame (State.absentAccess_frame ..) rfl
  · exact .refl s
  · exact .foldl (fun s x => State.writeOne_keeps s _) _ s

theorem State.debugAccess_keeps (s : State) (a : Nat) (write : Bool) (v : Nat) : Keeps s (s.debugAccess a write v) := by
  unfold State.debugAccess
  extract_lets s1
  have h1 : Keeps s s1 := .of_frame (State.mgmtEvent_frame ..) rfl
  split
  · refine .ite (fun _ => ?_) fun _ => (h1.then (State.busRead_frame ..) rfl).then (State.capture_frame ..) rfl
    exact (h1.trans (State.busWrite_keeps ..)).then (State.captureFree_frame ..) rfl
  · exact h1.then (State.debugSection_frame ..) rfl
  · exact h1.then (State.captureFree_frame ..) rfl
  · exact h1.then (State.captureFree_frame ..) rfl

/-! ### The commands whose frames hold the fuses -/

theorem State.runCmd_keeps (s : State) (c : Cmd) (op : Nat) {body : State → State} (h : Keeps s (body s)) : Keeps s (s.runCmd c op body) := by
  unfold State.runCmd
  refine .ite (fun _ => .refl s) fun _ => .ite (fun _ => .of_frame (State.complete_frame ..) rfl) fun _ => ?_
  split
  · exact .of_frame (State.complete_frame ..) rfl
  · exact h

theorem Keeps.smAnswer {s : State} {r : SmOut} (c : Cmd) (h : Keeps s r.1) : Keeps s (State.smAnswer c r) :=
  (h.then (State.mbox_frame ..) rfl).then (State.complete_frame ..) rfl

/-- The access that a command makes when it is aimed where the command says. -/
theorem accessed_keeps {s : State} {w : Who} {a n : Nat} (v : Option Word) (aim : Aim) :
    Keeps s (if s.aim a n == aim then (match v with
      | none => s.busRead w a n
      | some d => s.busWrite w a n d.toNat) else s) := by
  refine .ite (fun _ => ?_) fun _ => .refl s
  cases v with
  | none => exact .of_frame (State.busRead_frame ..) rfl
  | some d => exact State.busWrite_keeps ..

theorem execColdResetRelease_keeps (heat : BitVec 8) (ok : Bool) (f : Option (Fin 11)) (ms : BitVec 16) (s : State) :
    Completes (execColdResetRelease heat ok f ms s) (Keeps s) := by
  refine ⟨_, rfl, ?_⟩
  extract_lets go stage
  have hgo {t : State} (h : Keeps s t) : Keeps s (go t) := h.then (State.setF_frame ..) rfl
  refine .ite (fun _ => .ite (fun _ => hgo (.of_frame (State.bootStart_frame s) rfl)) fun _ => .refl s) fun _ => ?_
  refine .ite (fun _ => .refl s) fun _ => ?_
  refine .ite (fun _ => hgo (.of_frame (State.bootRom_frame s ok) rfl)) fun _ => ?_
  refine .ite (fun _ => hgo (.of_frame (State.bootSm_frame s) rfl)) fun _ => ?_
  refine .ite (fun _ => hgo (State.bootTests_keeps s _)) fun _ => ?_
  exact .ite (fun _ => hgo (.of_frame (State.bootFw_frame s) rfl)) fun _ => .refl s

theorem execRootPllLock_keeps (d : Fin 12) (f : Option (Fin 11)) (s : State) : Completes (execRootPllLock d f s) (Keeps s) := by
  refine ⟨_, rfl, .ite (fun _ => .refl s) fun _ => ?_⟩
  extract_lets s1 s2 s3
  have h1 : Keeps s s1 := .of_frame (State.setF_frame ..) rfl
  have h2 : Keeps s s2 := h1.then (State.trainSeams_frame ..) rfl
  have h3 : Keeps s s3 := h2.then (State.clrBits_frame ..) rfl
  exact .ite (fun _ => .ite (fun _ => .ite (fun _ => h3) fun _ => h3.trans (State.smStart_keeps ..)) fun _ => h2) fun _ => h1

theorem execZeroizeNLatch_keeps (s : State) : Completes (execZeroizeNLatch s) (Keeps s) := by
  refine ⟨_, rfl, .ite (fun _ => .refl s) fun _ => ?_⟩
  have h : Keeps s (s.setSm { s.sm with zeroLatch := true }) := .of_frame (State.setSm_frame ..) rfl
  exact .ite (fun _ => h) fun _ => h.trans (State.serveLatch_keeps _)

theorem execSoftErrorRecovery_keeps (ok7 ok6 : Bool) (s : State) : Completes (execSoftErrorRecovery ok7 ok6 s) (Keeps s) := by
  refine ⟨_, rfl, .ite (fun _ => .refl s) fun _ => .ite (fun _ => ?failed7) fun _ => .ite (fun _ => ?failed6) fun _ => ?passed⟩
  case failed7 =>
    have h := (Keeps.of_frame (State.setSm_frame s { s.sm with recoveries := s.sm.recoveries + 1 }) rfl).then (State.testsRun_frame _ 0x80 0x80) rfl
    exact .ite (fun _ => h.then (State.hardError_frame ..) rfl) fun _ => h
  case failed6 => exact (Keeps.of_frame (State.testsRun_frame ..) rfl).then (State.hardError_frame ..) rfl
  case passed =>
    extract_lets _ s1
    have h2 : Keeps s s1 := (Keeps.of_frame (State.testsRun_frame s 0xC0 0) rfl).then (State.setSm_frame ..) rfl
    exact .ite (fun _ => h2.trans (State.smServe_keeps _)) fun _ => (h2.trans (State.seedDrbg_keeps _)).then (State.setSmState_frame ..) rfl

theorem execDbgAccess_keeps (v : BitVec 96) (s : State) : Completes (execDbgAccess v s) (Keeps s) := by
  refine ⟨_, rfl, .ite (fun _ => .refl s) fun _ => .ite (fun _ => .of_frame (State.mgmtEvent_frame ..) rfl) fun _ => ?_⟩
  extract_lets n addr
  split
  · exact .refl s
  · exact State.debugAccess_keeps ..
  · exact State.debugAccess_keeps ..
  · exact .of_frame (State.captureFree_frame ..) rfl

/-! ### The statement -/

theorem Completes.keeps {l : List Part} {o : Host.Outcome State Fault Refusal} {s : State} (h : Completes o (Frame l s))
    (hl : sparesFuses l = true) : Completes o (Keeps s) := by
  obtain ⟨t, ho, ht⟩ := h
  exact ⟨t, ho, .of_frame ht hl⟩

/-- Every command completes and keeps the queue, the invariant and the direction of the fuses: twelve commands can burn a fuse, and the frame
of each other one holds neither the fuses nor the queue. -/
theorem exec_keeps (i : Instr) (s : State) : Completes (exec i s) (Keeps s) := by
  cases i with
  | registerWrite w a n v => exact ⟨_, rfl, accessed_keeps (some v) .register⟩
  | absentUnitWrite w a n v => exact ⟨_, rfl, accessed_keeps (some v) .absent⟩
  | reservedOffsetAccess w a n v => exact ⟨_, rfl, accessed_keeps v .reserved⟩
  | misalignedRegAccess w a n v => exact ⟨_, rfl, accessed_keeps v .bad⟩
  | coldResetRelease heat ok f ms => exact execColdResetRelease_keeps heat ok f ms s
  | rootPllLock d f => exact execRootPllLock_keeps d f s
  | smService c f => exact ⟨_, rfl, State.runCmd_keeps s c _ (.smAnswer c (State.smService_keeps s c _))⟩
  | zeroize c => exact ⟨_, rfl, State.runCmd_keeps s c _ (.smAnswer c (State.smZeroize_keeps s c))⟩
  | zeroizeNLatch => exact execZeroizeNLatch_keeps s
  | smMboxGo w v f => exact ⟨_, rfl, State.mboxCtrl_keeps s w _ _⟩
  | softErrorRecovery ok7 ok6 => exact execSoftErrorRecovery_keeps ok7 ok6 s
  | dbgAccess v => exact execDbgAccess_keeps v s
  | rcRegisterRead => exact (execRcRegisterRead_frame ..).keeps rfl
  | absentUnitRead => exact (execAbsentUnitRead_frame ..).keeps rfl
  | powerOnReset => exact (execPowerOnReset_frame s).keeps rfl
  | vauxUndervoltage => exact (execVauxUndervoltage_frame s).keeps rfl
  | railUndervoltage => exact (execRailUndervoltage_frame ..).keeps rfl
  | avsResponseTimeout => exact (execAvsResponseTimeout_frame ..).keeps rfl
  | pkgResetAssert => exact (execPkgResetAssert_frame s).keeps rfl
  | rstColdWrite => exact (execRstColdWrite_frame ..).keeps rfl
  | fwBootTimeout => exact (execFwBootTimeout_frame s).keeps rfl
  | rootPllLockLoss => exact (execRootPllLockLoss_frame ..).keeps rfl
  | refMissingEdge => exact (execRefMissingEdge_frame ..).keeps rfl
  | refFreqWindowFail => exact (execRefFreqWindowFail_frame ..).keeps rfl
  | refQualified => exact (execRefQualified_frame ..).keeps rfl
  | switchoverComplete => exact (execSwitchoverComplete_frame s).keeps rfl
  | holdoverExpiry => exact (execHoldoverExpiry_frame s).keeps rfl
  | clkFwdCfgWrite => exact (execClkFwdCfgWrite_frame ..).keeps rfl
  | clkRefCfgWrite => exact (execClkRefCfgWrite_frame ..).keeps rfl
  | mesoFillMargin => exact (execMesoFillMargin_frame ..).keeps rfl
  | mesoCrossingFault => exact (execMesoCrossingFault_frame ..).keeps rfl
  | barBoundary => exact (execBarBoundary_frame s).keeps rfl
  | barNoteCutoff => exact (execBarNoteCutoff_frame s).keeps rfl
  | barNoteMerge => exact (execBarNoteMerge_frame s).keeps rfl
  | barNoteReceive => exact (execBarNoteReceive_frame ..).keeps rfl
  | scoreStart => exact (execScoreStart_frame ..).keeps rfl
  | countinReceive => exact (execCountinReceive_frame ..).keeps rfl
  | startNotice => exact (execStartNotice_frame ..).keeps rfl
  | countinBar0Start => exact (execCountinBar0Start_frame s).keeps rfl
  | downbeatReceive => exact (execDownbeatReceive_frame ..).keeps rfl
  | downbeatMissing => exact (execDownbeatMissing_frame ..).keeps rfl
  | rubatoGateRelease => exact (execRubatoGateRelease_frame ..).keeps rfl
  | gateTimeout => exact (execGateTimeout_frame s).keeps rfl
  | fermata => exact (execFermata_frame ..).keeps rfl
  | scoreLoad => exact (execScoreLoad_frame ..).keeps rfl
  | scorePatch => exact (execScorePatch_frame ..).keeps rfl
  | patchStageDone => exact (execPatchStageDone_frame ..).keeps rfl
  | patchLate => exact (execPatchLate_frame s).keeps rfl
  | scoreStop => exact (execScoreStop_frame ..).keeps rfl
  | moveSend => exact (execMoveSend_frame ..).keeps rfl
  | boltDeparture => exact (execBoltDeparture_frame ..).keeps rfl
  | moveTake => exact (execMoveTake_frame ..).keeps rfl
  | takeDeferred => exact (execTakeDeferred_frame ..).keeps rfl
  | cue => exact (execCue_frame ..).keeps rfl
  | pendingCueFire => exact (execPendingCueFire_frame ..).keeps rfl
  | heldCueEnqueue => exact (execHeldCueEnqueue_frame ..).keeps rfl
  | cueArrive => exact (execCueArrive_frame ..).keeps rfl
  | fermataEntry => exact (execFermataEntry_frame s).keeps rfl
  | deskNop => exact (execDeskNop_frame ..).keeps rfl
  | patchpoint => exact (execPatchpoint_frame ..).keeps rfl
  | sectionPaused => exact (execSectionPaused_frame ..).keeps rfl
  | pauseRequest => exact (execPauseRequest_frame ..).keeps rfl
  | resume => exact (execResume_frame ..).keeps rfl
  | prsCntClr => exact (execPrsCntClr_frame ..).keeps rfl
  | tstartWrite => exact (execTstartWrite_frame ..).keeps rfl
  | bankWakeDone => exact (execBankWakeDone_frame ..).keeps rfl
  | gateTakesEffect => exact (execGateTakesEffect_frame ..).keeps rfl
  | holdWaitRelease => exact (execHoldWaitRelease_frame ..).keeps rfl
  | zeroingDone => exact (execZeroingDone_frame ..).keeps rfl
  | boardDebugRead => exact (execBoardDebugRead_frame ..).keeps rfl
  | boardDebugWrite => exact (execBoardDebugWrite_frame ..).keeps rfl
  | nop => exact (execNop_frame ..).keeps rfl
  | loop => exact (execLoop_frame ..).keeps rfl
  | endl => exact (execEndl_frame ..).keeps rfl
  | cuewait => exact (execCuewait_frame ..).keeps rfl
  | sync => exact (execSync_frame ..).keeps rfl
  | bankset => exact (execBankset_frame ..).keeps rfl
  | endPart => exact (execEndPart_frame ..).keeps rfl
  | tld => exact (execTld_frame ..).keeps rfl
  | tst => exact (execTst_frame ..).keeps rfl
  | tzero => exact (execTzero_frame ..).keeps rfl
  | ttr => exact (execTtr_frame ..).keeps rfl
  | azero => exact (execAzero_frame ..).keeps rfl
  | ald => exact (execAld_frame ..).keeps rfl
  | ast => exact (execAst_frame ..).keeps rfl
  | acvt => exact (execAcvt_frame ..).keeps rfl
  | mma => exact (execMma_frame ..).keeps rfl
  | mmas => exact (execMmas_frame ..).keeps rfl
  | vset => exact (execVset_frame ..).keeps rfl
  | vld => exact (execVld_frame ..).keeps rfl
  | vst => exact (execVst_frame ..).keeps rfl
  | vadd => exact (execVadd_frame ..).keeps rfl
  | vmul => exact (execVmul_frame ..).keeps rfl
  | vfma => exact (execVfma_frame ..).keeps rfl
  | vmax => exact (execVmax_frame ..).keeps rfl
  | ared => exact (execAred_frame ..).keeps rfl
  | avop => exact (execAvop_frame ..).keeps rfl
  | qld => exact (execQld_frame ..).keeps rfl
  | qst => exact (execQst_frame ..).keeps rfl
  | qwait => exact (execQwait_frame ..).keeps rfl
  | rinse => exact (execRinse_frame ..).keeps rfl
  | cadence => exact (execCadence_frame ..).keeps rfl
  | tksend => exact (execTksend_frame ..).keeps rfl
  | time => exact (execTime_frame ..).keeps rfl
  | loadFillArrive => exact (execLoadFillArrive_frame ..).keeps rfl
  | storeAccept => exact (execStoreAccept_frame ..).keeps rfl
  | writebackStart => exact (execWritebackStart_frame ..).keeps rfl
  | writebackAck => exact (execWritebackAck_frame ..).keeps rfl
  | memRequestRetry => exact (execMemRequestRetry_frame ..).keeps rfl
  | memWaitTimeout => exact (execMemWaitTimeout_frame ..).keeps rfl
  | rinseDone => exact (execRinseDone_frame ..).keeps rfl
  | fenceDone => exact (execFenceDone_frame ..).keeps rfl
  | hbmRefresh => exact (execHbmRefresh_frame ..).keeps rfl
  | scrubRead => exact (execScrubRead_frame ..).keeps rfl
  | ueRetry => exact (execUeRetry_frame ..).keeps rfl
  | memQctlCntClr => exact (execMemQctlCntClr_frame ..).keeps rfl
  | boardWindowAccess => exact (execBoardWindowAccess_frame ..).keeps rfl
  | rinseRange => exact (execRinseRange_frame ..).keeps rfl
  | cadenceCommand => exact (execCadenceCommand_frame ..).keeps rfl
  | codewordReceive => exact (execCodewordReceive_frame ..).keeps rfl
  | seamBeatReceive => exact (execSeamBeatReceive_frame ..).keeps rfl
  | alignNotice => exact (execAlignNotice_frame ..).keeps rfl
  | alignRequest => exact (execAlignRequest_frame ..).keeps rfl
  | echoNotice => exact (execEchoNotice_frame ..).keeps rfl
  | seamTrainingDone => exact (execSeamTrainingDone_frame ..).keeps rfl
  | linkEnable => exact (execLinkEnable_frame ..).keeps rfl
  | linkDisable => exact (execLinkDisable_frame ..).keeps rfl
  | lnkCntClr => exact (execLnkCntClr_frame ..).keeps rfl
  | linkStateComplete => exact (execLinkStateComplete_frame ..).keeps rfl
  | linkStateTimeout => exact (execLinkStateTimeout_frame ..).keeps rfl
  | linkRetryTimer => exact (execLinkRetryTimer_frame ..).keeps rfl
  | linkFlitReceive => exact (execLinkFlitReceive_frame ..).keeps rfl
  | echoRepeat => exact (execEchoRepeat_frame ..).keeps rfl
  | linkQuietStart => exact (execLinkQuietStart_frame ..).keeps rfl
  | linkQuietEnd => exact (execLinkQuietEnd_frame ..).keeps rfl
  | linkRetrain => exact (execLinkRetrain_frame ..).keeps rfl
  | linkProfile => exact (execLinkProfile_frame ..).keeps rfl
  | boltHeadRoute => exact (execBoltHeadRoute_frame ..).keeps rfl
  | headAdvance => exact (execHeadAdvance_frame ..).keeps rfl
  | boltLinkArrival => exact (execBoltLinkArrival_frame ..).keeps rfl
  | boltExitLookup => exact (execBoltExitLookup_frame ..).keeps rfl
  | descriptorRecordArrive => exact (execDescriptorRecordArrive_frame ..).keeps rfl
  | boltHeadAccept => exact (execBoltHeadAccept_frame ..).keeps rfl
  | boltTailArrive => exact (execBoltTailArrive_frame ..).keeps rfl
  | knotTackSend => exact (execKnotTackSend_frame ..).keeps rfl
  | knotApply => exact (execKnotApply_frame ..).keeps rfl
  | snagApply => exact (execSnagApply_frame ..).keeps rfl
  | knotTimeout => exact (execKnotTimeout_frame ..).keeps rfl
  | resendStart => exact (execResendStart_frame ..).keeps rfl
  | resendDepart => exact (execResendDepart_frame ..).keeps rfl
  | resendForward => exact (execResendForward_frame ..).keeps rfl
  | csendGo => exact (execCsendGo_frame ..).keeps rfl
  | tackInjectTranslate => exact (execTackInjectTranslate_frame ..).keeps rfl
  | tackReleaseToMangle => exact (execTackReleaseToMangle_frame ..).keeps rfl
  | tackForward => exact (execTackForward_frame ..).keeps rfl
  | tackDeflect => exact (execTackDeflect_frame ..).keeps rfl
  | tackLinkArrival => exact (execTackLinkArrival_frame ..).keeps rfl
  | noticeDeliver => exact (execNoticeDeliver_frame ..).keeps rfl
  | writeDeliver => exact (execWriteDeliver_frame ..).keeps rfl
  | addDeliver => exact (execAddDeliver_frame ..).keeps rfl
  | doorbellDeliver => exact (execDoorbellDeliver_frame ..).keeps rfl
  | peerReqDeliver => exact (execPeerReqDeliver_frame ..).keeps rfl
  | peerRspDeliver => exact (execPeerRspDeliver_frame ..).keeps rfl
  | ackReceive => exact (execAckReceive_frame ..).keeps rfl
  | ackTimeout => exact (execAckTimeout_frame ..).keeps rfl
  | inboxPop => exact (execInboxPop_frame ..).keeps rfl
  | tckGridWrite => exact (execTckGridWrite_frame ..).keeps rfl
  | mcastGroupWrite => exact (execMcastGroupWrite_frame ..).keeps rfl
  | rankTableWrite => exact (execRankTableWrite_frame ..).keeps rfl
  | sliceSet => exact (execSliceSet_frame ..).keeps rfl
  | rnkChipWrite => exact (execRnkChipWrite_frame ..).keeps rfl
  | fenceWrite => exact (execFenceWrite_frame ..).keeps rfl
  | legacyStoreSend => exact (execLegacyStoreSend_frame ..).keeps rfl
  | g1PacketSend => exact (execG1PacketSend_frame ..).keeps rfl
  | g1SegReceive => exact (execG1SegReceive_frame ..).keeps rfl
  | g1MsgReceive => exact (execG1MsgReceive_frame ..).keeps rfl
  | g1CreditReceive => exact (execG1CreditReceive_frame ..).keeps rfl
  | g1InitReceive => exact (execG1InitReceive_frame ..).keeps rfl
  | g1CreditTimer => exact (execG1CreditTimer_frame ..).keeps rfl
  | lnkLgcIdWrite => exact (execLnkLgcIdWrite_frame ..).keeps rfl
  | icuEvent => exact (execIcuEvent_frame ..).keeps rfl
  | icuSetpend => exact (execIcuSetpend_frame ..).keeps rfl
  | icuSrcWrite => exact (execIcuSrcWrite_frame ..).keeps rfl
  | icuClaim => exact (execIcuClaim_frame ..).keeps rfl
  | icuComplete => exact (execIcuComplete_frame ..).keeps rfl
  | icuStackReset => exact (execIcuStackReset_frame ..).keeps rfl
  | machineTimer => exact (execMachineTimer_frame ..).keeps rfl
  | eventStamp => exact (execEventStamp_frame ..).keeps rfl
  | eventRecordWrite => exact (execEventRecordWrite_frame ..).keeps rfl
  | softwareEvent => exact (execSoftwareEvent_frame ..).keeps rfl
  | evaRdWrite => exact (execEvaRdWrite_frame ..).keeps rfl
  | eventLogConfig => exact (execEventLogConfig_frame ..).keeps rfl
  | hostInterfaceReset => exact (execHostInterfaceReset_frame ..).keeps rfl
  | ringEnable w r v => exact (execRingEnable_frame s w r v).keeps rfl
  | ringDisable w r v => exact (execRingDisable_frame s w r v).keeps rfl
  | tailDoorbell => exact (execTailDoorbell_frame ..).keeps rfl
  | cplHeadDoorbell => exact (execCplHeadDoorbell_frame ..).keeps rfl
  | commandFetch => exact (execCommandFetch_frame ..).keeps rfl
  | msixCoalesceTimer => exact (execMsixCoalesceTimer_frame ..).keeps rfl
  | identify => exact (execIdentify_frame ..).keeps rfl
  | queryCaps => exact (execQueryCaps_frame ..).keeps rfl
  | stageIn => exact (execStageIn_frame ..).keeps rfl
  | stageOut => exact (execStageOut_frame ..).keeps rfl
  | writeInline => exact (execWriteInline_frame ..).keeps rfl
  | readSmall => exact (execReadSmall_frame ..).keeps rfl
  | ethFrameReceive => exact (execEthFrameReceive_frame ..).keeps rfl
  | pauseFrameReceive => exact (execPauseFrameReceive_frame ..).keeps rfl
  | pauseTimerExpiry => exact (execPauseTimerExpiry_frame ..).keeps rfl
  | ethFrameTransmit => exact (execEthFrameTransmit_frame ..).keeps rfl
  | xoffRefresh => exact (execXoffRefresh_frame ..).keeps rfl
  | ethLinkUp => exact (execEthLinkUp_frame ..).keeps rfl
  | ethLinkDown => exact (execEthLinkDown_frame ..).keeps rfl
  | ethQdbWrite => exact (execEthQdbWrite_frame ..).keeps rfl
  | ethQcplWrite => exact (execEthQcplWrite_frame ..).keeps rfl
  | queueTailPoll => exact (execQueueTailPoll_frame ..).keeps rfl
  | descriptorTake => exact (execDescriptorTake_frame ..).keeps rfl
  | ethDmaComplete => exact (execEthDmaComplete_frame ..).keeps rfl
  | rbtDataReceive => exact (execRbtDataReceive_frame ..).keeps rfl
  | rbtAckReceive => exact (execRbtAckReceive_frame ..).keeps rfl
  | rbtNakReceive => exact (execRbtNakReceive_frame ..).keeps rfl
  | rbtAbortReceive => exact (execRbtAbortReceive_frame ..).keeps rfl
  | rbtAckTimer => exact (execRbtAckTimer_frame ..).keeps rfl
  | rbtNakTimer => exact (execRbtNakTimer_frame ..).keeps rfl
  | rbtRto => exact (execRbtRto_frame ..).keeps rfl
  | portConfig => exact (execPortConfig_frame ..).keeps rfl
  | portQueueCreate => exact (execPortQueueCreate_frame ..).keeps rfl
  | pfcConfig => exact (execPfcConfig_frame ..).keeps rfl
  | macsecSa => exact (execMacsecSa_frame ..).keeps rfl
  | reproProfileSet => exact (execReproProfileSet_frame ..).keeps rfl
  | unisonPair => exact (execUnisonPair_frame ..).keeps rfl
  | unisonReplay => exact (execUnisonReplay_frame ..).keeps rfl
  | digestClose => exact (execDigestClose_frame ..).keeps rfl
  | barCompare => exact (execBarCompare_frame ..).keeps rfl
  | unisonWaitTimeout => exact (execUnisonWaitTimeout_frame ..).keeps rfl
  | census => exact (execCensus_frame ..).keeps rfl
  | censusSample => exact (execCensusSample_frame ..).keeps rfl
  | linenHandover => exact (execLinenHandover_frame ..).keeps rfl
  | noticeUpdate => exact (execNoticeUpdate_frame ..).keeps rfl
  | ntcMarksWrite => exact (execNtcMarksWrite_frame ..).keeps rfl
  | ntcLevelWrite => exact (execNtcLevelWrite_frame ..).keeps rfl
  | ntcPeakRead => exact (execNtcPeakRead_frame ..).keeps rfl
  | upClr => exact (execUpClr_frame ..).keeps rfl
  | unitReset => exact (execUnitReset_frame ..).keeps rfl
  | unitFold => exact (execUnitFold_frame ..).keeps rfl
  | unitUnfold => exact (execUnitUnfold_frame ..).keeps rfl
  | pstateSet => exact (execPstateSet_frame ..).keeps rfl
  | unitInService => exact (execUnitInService_frame ..).keeps rfl
  | unitServiceTimeout => exact (execUnitServiceTimeout_frame ..).keeps rfl
  | linkGiveup => exact (execLinkGiveup_frame ..).keeps rfl
  | linkDiscard => exact (execLinkDiscard_frame ..).keeps rfl
  | thermalThrottle => exact (execThermalThrottle_frame ..).keeps rfl
  | thermalTrip => exact (execThermalTrip_frame ..).keeps rfl
  | fwStage => exact (execFwStage_frame ..).keeps rfl
  | fwActivate => exact (execFwActivate_frame ..).keeps rfl
  | fwActivateRevert => exact (execFwActivateRevert_frame s).keeps rfl
  | smSessionOpen => exact (execSmSessionOpen_frame ..).keeps rfl
  | sessionIdleTimeout => exact (execSessionIdleTimeout_frame ..).keeps rfl
  | challengeExpiry => exact (execChallengeExpiry_frame ..).keeps rfl
  | authLockoutEnd => exact (execAuthLockoutEnd_frame ..).keeps rfl
  | entropyHealthFail => exact (execEntropyHealthFail_frame ..).keeps rfl
  | periodicSelftest => exact (execPeriodicSelftest_frame ..).keeps rfl
  | telemetrySnapshot => exact (execTelemetrySnapshot_frame ..).keeps rfl
  | snapshotSample => exact (execSnapshotSample_frame ..).keeps rfl
  | telClr => exact (execTelClr_frame ..).keeps rfl
  | tapReset => exact (execTapReset_frame s).keeps rfl
  | tapInstructionUpdate => exact (execTapInstructionUpdate_frame ..).keeps rfl
  | dbgSel => exact (execDbgSel_frame ..).keeps rfl
  | hemInChange => exact (execHemInChange_frame ..).keeps rfl
  | arpPrepare => exact (execArpPrepare_frame s).keeps rfl
  | arpGetUdid => exact (execArpGetUdid_frame ..).keeps rfl
  | arpAssignAddress => exact (execArpAssignAddress_frame ..).keeps rfl
  | arpResetDevice => exact (execArpResetDevice_frame ..).keeps rfl
  | smbReadStatus => exact (execSmbReadStatus_frame s).keeps rfl
  | smbReadSmStatus => exact (execSmbReadSmStatus_frame s).keeps rfl
  | smbReadId => exact (execSmbReadId_frame s).keeps rfl
  | smbReadTemp => exact (execSmbReadTemp_frame s).keeps rfl
  | smbWriteSlotLow => exact (execSmbWriteSlotLow_frame ..).keeps rfl
  | smbWriteSlotHigh => exact (execSmbWriteSlotHigh_frame ..).keeps rfl
  | smbSubmit => exact (execSmbSubmit_frame ..).keeps rfl
  | smbCommandDone => exact (execSmbCommandDone_frame s).keeps rfl
  | smbReadCompletion => exact (execSmbReadCompletion_frame s).keeps rfl
  | smbAlertResponse => exact (execSmbAlertResponse_frame ..).keeps rfl
  | smbTimeout => exact (execSmbTimeout_frame s).keeps rfl
  | laneLockLoss => exact (execLaneLockLoss_frame ..).keeps rfl
  | linkRetrainTimeout => exact (execLinkRetrainTimeout_frame ..).keeps rfl
  | hostLinkUp => exact (execHostLinkUp_frame ..).keeps rfl
  | busMasterEnableChange => exact (execBusMasterEnableChange_frame ..).keeps rfl
  | railTargetReached => exact (execRailTargetReached_frame ..).keeps rfl
  | activationDrainTimeout => exact (execActivationDrainTimeout_frame s).keeps rfl
  | resetRelease => exact (execResetRelease_frame ..).keeps rfl

/-- A beat in which no command waits. -/
theorem State.tick_keeps (s : State) : Keeps s s.tick := .of_frame (State.tick_frame s) rfl

/-- Settles O60: the front of the queue goes, and the rest follows from what each command keeps. -/
theorem everyStepKeeps : Obligations.EveryStepKeeps := by
  unfold Obligations.EveryStepKeeps
  intro s
  unfold step
  split
  next hq =>
    obtain ⟨hp, hk⟩ := State.tick_keeps s
    exact ⟨_, rfl, by rw [hp, hq]; rfl, hk⟩
  next c cs hq =>
    obtain ⟨t, ht, hp, hk⟩ := exec_keeps c (s.withPending cs)
    exact ⟨t, ht, by rw [hp, hq]; rfl, hk⟩

end Sys2Proof.Machine
end

section
/-! The boot in its stages (R939 to R951): what each stage changes of the registers, the security module and the firmware. -/

namespace Sys2Proof.Machine

/-! ### Registers that an operation keeps -/

theorem Frame.tok {l : List Part} {s t : State} (h : Frame l s t) (hs : tok 0 s.regs = true) : tok 0 t.regs = true := h.2.1 hs

theorem Frame.regs_kept {l : List Part} {s t : State} (h : Frame l s t) (hl : Part.regs ∉ l) (as : List Nat) : RegsKept as s t :=
  .of_regs_eq (h.1 .regs hl)

theorem RegsKept.getF_eq {as : List Nat} {s t : State} (h : RegsKept as s t) {r : Reg} {ix : List Nat} (f : Fld) (hr : r.addr ix ∉ as) :
    t.getF r ix f = s.getF r ix f := by rw [State.getF, State.getF, h.reg_eq hr]

theorem bit_of_getF_one {s : State} {r : Reg} {ix : List Nat} {f : Fld} (h : s.getF r ix f = 1) : s.bit r ix f = true := by
  rw [State.bit, h]; rfl

/-- One more operation, which changes no other registers. -/
theorem RegsKept.then {as bs : List Nat} {s t u : State} (k : RegsKept bs s t) (h : RegsKept as t u) (hs : as ⊆ bs) :
    RegsKept bs s u := k.trans fun a ha => h a fun hm => ha (hs hm)

theorem RegsKept.setF {as : List Nat} {s t : State} {r : Reg} {ix : List Nat} {f : Fld} {x : Nat} (k : RegsKept as s t) (h : r.addr ix ∈ as) :
    RegsKept as s (t.setF r ix f x) := k.then (setF_kept t r ix f x) (by simpa using h)

theorem RegsKept.setReg {as : List Nat} {s t : State} {r : Reg} {ix : List Nat} {v : Word} (k : RegsKept as s t) (h : r.addr ix ∈ as) :
    RegsKept as s (t.setReg r ix v) := k.then (setReg_kept t r ix v) (by simpa using h)

theorem RegsKept.ite {as : List Nat} {c : Prop} [Decidable c] {s t u : State} (h : c → RegsKept as s t) (k : ¬c → RegsKept as s u) :
    RegsKept as s (if c then t else u) := by
  split
  · exact h ‹_›
  · exact k ‹_›

theorem RegsKept.foldl {α : Type} {as : List Nat} {f : State → α → State} (l : List α) (hf : ∀ s, ∀ x ∈ l, RegsKept as s (f s x))
    (s : State) : RegsKept as s (l.foldl f s) := by
  induction l generalizing s with
  | nil => exact .refl _ s
  | cons x l ih => exact (hf s x (by simp)).trans (ih (fun s y hy => hf s y (by simp [hy])) _)

theorem setLogged_kept (s : State) (die : Nat) (r : Reg) (ix : List Nat) (f : Fld) : RegsKept [r.addr ix] s (s.setLogged die r ix f) :=
  (setF_kept s r ix f 1).trans ((State.logBits_frame ..).regs_kept (by decide) _)

theorem RegsKept.setLogged {as : List Nat} {s t : State} {die : Nat} {r : Reg} {ix : List Nat} {f : Fld} (k : RegsKept as s t)
    (h : r.addr ix ∈ as) : RegsKept as s (t.setLogged die r ix f) := k.then (setLogged_kept t die r ix f) (by simpa using h)

/-! ### RST_BOOT -/

theorem bootF_set_same {s : State} {f : Fld} (x : Nat) (h : tok 0 s.regs = true) (hf : f.lo + f.width ≤ 64) :
    (s.setF RST_BOOT [] f x).bootF f = x % 2 ^ f.width := getF_setF_same s RST_BOOT [] f x h hf

theorem bootF_set_field {s : State} {f g : Fld} (x : Nat) (h : tok 0 s.regs = true)
    (hd : g.lo + g.width ≤ 64 ∧ (g.lo + g.width ≤ f.lo ∨ f.lo + f.width ≤ g.lo)) :
    (s.setF RST_BOOT [] f x).bootF g = s.bootF g := getF_setF_field s RST_BOOT [] f g x h hd.1 hd.2

theorem RegsKept.bootF_eq {as : List Nat} {s t : State} (h : RegsKept as s t) (f : Fld) (hr : RST_BOOT.addr [] ∉ as) :
    t.bootF f = s.bootF f := h.getF_eq f hr

theorem bootFail_kept (s : State) (n : Nat) : RegsKept [RST_BOOT.addr []] s (s.bootFail n) :=
  RegsKept.ite (fun _ => setF_kept _ _ _ _ _) fun _ => .refl _ s

/-- Only the first failure of a boot is recorded. -/
theorem bootF_bootFail {s : State} {n : Nat} (h : tok 0 s.regs = true) (hn : n < 16) :
    (s.bootFail n).bootF RST_BOOT.FAIL = if s.bootF RST_BOOT.FAIL = 0 then n else s.bootF RST_BOOT.FAIL := by
  unfold State.bootFail
  by_cases h0 : s.bootF RST_BOOT.FAIL = 0
  · rw [if_pos (show s.getF _ _ _ = 0 from h0), if_pos h0, bootF_set_same n h (by decide)]
    exact Nat.mod_eq_of_lt hn
  · rw [if_neg (show ¬s.getF _ _ _ = 0 from h0), if_neg h0]

theorem bootF_bootFail_field {s : State} {n : Nat} {g : Fld} (h : tok 0 s.regs = true)
    (hd : g.lo + g.width ≤ 64 ∧ (g.lo + g.width ≤ RST_BOOT.FAIL.lo ∨ RST_BOOT.FAIL.lo + RST_BOOT.FAIL.width ≤ g.lo)) :
    (s.bootFail n).bootF g = s.bootF g := by
  unfold State.bootFail
  split
  · exact bootF_set_field n h hd
  · rfl

/-- The state `ms` milliseconds into its stage (RST_BOOT.ELAPSED_MS). -/
def State.timed (s : State) (ms : BitVec 16) : State := s.setF RST_BOOT [] RST_BOOT.ELAPSED_MS ms.toNat

theorem timed_kept (s : State) (ms : BitVec 16) : RegsKept [RST_BOOT.addr []] s (s.timed ms) := setF_kept _ _ _ _ _

theorem timed_frame (s : State) (ms : BitVec 16) : Frame [.regs] s (s.timed ms) := State.setF_frame ..

theorem bootF_timed {s : State} {ms : BitVec 16} {g : Fld} (h : tok 0 s.regs = true)
    (hd : g.lo + g.width ≤ 64 ∧ (g.lo + g.width ≤ RST_BOOT.ELAPSED_MS.lo ∨ RST_BOOT.ELAPSED_MS.lo + RST_BOOT.ELAPSED_MS.width ≤ g.lo)) :
    (s.timed ms).bootF g = s.bootF g := bootF_set_field _ h hd

theorem elapsed_timed {s : State} {ms : BitVec 16} (h : tok 0 s.regs = true) : (s.timed ms).bootF RST_BOOT.ELAPSED_MS = ms.toNat :=
  (bootF_set_same _ h (by decide)).trans (Nat.mod_eq_of_lt ms.isLt)

/-! ### Which stage an occasion takes -/

section
variable {heat : BitVec 8} {ok : Bool} {f : Option (Fin 11)} {ms : BitVec 16} {s : State}

theorem exec_release_cold (hc : s.fw.inCold = true) :
    exec (.coldResetRelease heat ok f ms) s = .next (if s.mayRelease heat.toNat then s.bootStart.timed ms else s) := by
  simp only [exec, execColdResetRelease, hc, if_true, State.timed]

/-- Out of cold reset, C0 being up, the stage of RST_BOOT says which stage comes next. -/
theorem exec_release_stage {n : Nat} (h : s.BootAt n) : exec (.coldResetRelease heat ok f ms) s = .next (
    if n = 2 then (s.bootRom ok).timed ms
    else if n = 3 ∧ s.smState = 0 then s.bootSm.timed ms
    else if n = 4 then (s.bootTests (f.map (fun t => (t : Nat)))).timed ms
    else if n = 5 ∧ (s.smState = 2 ∨ s.smState = 3) then s.bootFw.timed ms
    else s) := by
  obtain ⟨-, hc, hr, hl, hs⟩ := h
  simp only [exec, execColdResetRelease, hc, hr, hl, hs, State.timed, Bool.not_true, Bool.false_eq_true, or_self, if_false]

end

/-! ### Stage 1: C0's root PLL locks -/

theorem mayRelease_iff (s : State) (heat : Nat) : s.mayRelease heat = true ↔
    s.refActive ≠ 5 ∧ ¬(s.pins.tripped = true ∧ 95 ≤ heat) ∧ s.pins.testEn = false := by
  simp only [State.mayRelease, Bool.and_eq_true, bne_iff_ne, Bool.not_eq_true', Bool.and_eq_false_imp, decide_eq_false_iff_not, and_assoc,
    not_and]

/-- Step 1 of R940: the registers of C0's root PLL and of the dies held in reset, and the stage. -/
theorem bootStart_timed_regs {s : State} (hs : tok 0 s.regs = true) (ms : BitVec 16) :
    let t := s.bootStart.timed ms
    t.bootF RST_BOOT.STAGE = 2 ∧ t.bootF RST_BOOT.ELAPSED_MS = ms.toNat ∧ t.bit CLK_DIE [10] CLK_DIE.LOCKED = true ∧
      (t.reg RST_DIE []).toNat = 0xBFF := by
  let opened : State := { s with fw := { s.fw with inCold := false } }
  let pinned := opened.setPins { s.pins with pkgResetLow := false, vauxGood := true, railsGood := 0x1FFFF, tripped := false }
  let locked := pinned.setF CLK_DIE [10] CLK_DIE.LOCKED 1
  let held := locked.setReg RST_DIE [] 0xBFF
  have hlocked : tok 0 locked.regs = true := setF_tok pinned _ _ _ _ hs
  have hheld : tok 0 held.regs = true := setReg_tok _ _ _ _ hlocked
  have hstage : tok 0 (held.bootStage 2).regs = true := setF_tok _ _ _ _ _ hheld
  have kept : RegsKept [RST_BOOT.addr []] held ((held.bootStage 2).timed ms) := (setF_kept held _ _ _ _).trans (timed_kept _ ms)
  refine ⟨(bootF_timed hstage (by decide)).trans (bootF_set_same 2 hheld (by decide)), elapsed_timed hstage, ?_, ?_⟩
  · have lock : locked.getF CLK_DIE [10] CLK_DIE.LOCKED = 1 := getF_setF_same pinned _ _ _ _ hs (by decide)
    have : RegsKept [RST_BOOT.addr [], RST_DIE.addr []] locked ((held.bootStage 2).timed ms) :=
      ((RegsKept.refl _ _).then (setReg_kept locked RST_DIE [] 0xBFF) (by decide)).then kept (by decide)
    exact bit_of_getF_one ((this.getF_eq (r := CLK_DIE) (ix := [10]) _ (by decide)).trans lock)
  · exact congrArg BitVec.toNat ((kept.reg_eq (r := RST_DIE) (by decide)).trans (reg_setReg_same locked _ _ _ hlocked))

/-! ### Stage 2: the fuses and the boot directory -/

/-- CLK_DIE, RST_DIE and RST_PRESS, which the fuses set for the dies that are there. -/
def dieClockRegs : List Nat :=
  RST_DIE.addr [] :: ((List.range 12).map (fun d => CLK_DIE.addr [d]) ++ (List.range 8).map (fun d => RST_PRESS.addr [d]))

theorem CLK_DIE_mem {d : Nat} (h : d ∈ List.range 12) : CLK_DIE.addr [d] ∈ dieClockRegs :=
  List.mem_cons_of_mem _ (List.mem_append_left _ (List.mem_map_of_mem h))

theorem RST_PRESS_mem {s : State} {d : Nat} (h : d ∈ s.pressDies) : RST_PRESS.addr [d] ∈ dieClockRegs :=
  List.mem_cons_of_mem _ (List.mem_append_right _ (List.mem_map_of_mem (List.mem_of_mem_filter h)))

/-- The registers of the global block that the fuses set (R49, R50, R128). -/
def State.loadGlobal (s : State) : State :=
  let f := s.fuses
  let s := (((s.setF GLB_ID [] GLB_ID.STEPPING f.stepping).setF GLB_ID [] GLB_ID.VARIANT f.variant).setF GLB_ID [] GLB_ID.GRADE f.grade).setReg
    GLB_SERIAL [] (BitVec.ofNat 64 f.serial)
  let s := s.setF GLB_REPRO_PROFILE [] GLB_REPRO_PROFILE.STEP_CLASS f.stepping
  s.setReg GLB_CAP0 [] (BitVec.ofNat 64 (cap0Of f.variant))

/-- After the global block the fuses set no register but those of the dies' clocks and resets. -/
theorem loadFuses_kept (s : State) : RegsKept dieClockRegs s.loadGlobal s.loadFuses := by
  unfold State.loadFuses
  extract_lets f s1 s2 s3 s4 dies s5 s6
  have h4 : RegsKept dieClockRegs s3 s4 := .foldl _ (fun s d hd => .ite (fun _ => .refl _ s) fun _ =>
    (((RegsKept.refl _ s).setF (CLK_DIE_mem hd)).setF (CLK_DIE_mem hd)).setF (CLK_DIE_mem hd)) s3
  have h5 : RegsKept dieClockRegs s3 s5 := h4.setReg (by decide)
  exact h5.trans (.foldl _ (fun s d hd => (RegsKept.refl _ s).setReg (RST_PRESS_mem hd)) s5)

theorem loadGlobal_kept (s : State) : RegsKept [GLB_ID.addr [], GLB_SERIAL.addr [], GLB_REPRO_PROFILE.addr [], GLB_CAP0.addr []] s s.loadGlobal :=
  (((((((RegsKept.refl _ s).setF (by decide)).setF (by decide)).setF (by decide)).setReg (by decide)).setF (by decide)).setReg (by decide))

/-- What the fuses say of the part shows in the global block (R49, R50). -/
theorem loadGlobal_regs {s : State} (hs : tok 0 s.regs = true) :
    s.loadGlobal.getF GLB_ID [] GLB_ID.STEPPING = s.fuses.stepping % 2 ^ GLB_ID.STEPPING.width ∧
    s.loadGlobal.getF GLB_ID [] GLB_ID.VARIANT = s.fuses.variant % 2 ^ GLB_ID.VARIANT.width ∧
    s.loadGlobal.getF GLB_ID [] GLB_ID.GRADE = s.fuses.grade % 2 ^ GLB_ID.GRADE.width ∧
    (s.loadGlobal.reg GLB_SERIAL []).toNat = s.fuses.serial % 2 ^ 64 ∧ (s.loadGlobal.reg GLB_CAP0 []).toNat = cap0Of s.fuses.variant := by
  let s1 := s.setF GLB_ID [] GLB_ID.STEPPING s.fuses.stepping
  let s2 := s1.setF GLB_ID [] GLB_ID.VARIANT s.fuses.variant
  let s3 := s2.setF GLB_ID [] GLB_ID.GRADE s.fuses.grade
  let s4 := s3.setReg GLB_SERIAL [] (BitVec.ofNat 64 s.fuses.serial)
  let s5 := s4.setF GLB_REPRO_PROFILE [] GLB_REPRO_PROFILE.STEP_CLASS s.fuses.stepping
  have h1 : tok 0 s1.regs = true := setF_tok _ _ _ _ _ hs
  have h2 : tok 0 s2.regs = true := setF_tok _ _ _ _ _ h1
  have h3 : tok 0 s3.regs = true := setF_tok _ _ _ _ _ h2
  have h4 : tok 0 s4.regs = true := setReg_tok _ _ _ _ h3
  have h5 : tok 0 s5.regs = true := setF_tok _ _ _ _ _ h4
  have kept : RegsKept [GLB_REPRO_PROFILE.addr [], GLB_CAP0.addr []] s4 s.loadGlobal :=
    ((RegsKept.refl _ s4).setF (by decide)).setReg (by decide)
  have id {f : Fld} : s.loadGlobal.getF GLB_ID [] f = s3.getF GLB_ID [] f :=
    (kept.getF_eq f (by decide)).trans ((setReg_kept s3 _ _ _).getF_eq f (by decide))
  refine ⟨?_, ?_, ?_, ?_, ?_⟩
  · rw [id, getF_setF_field _ _ _ _ _ _ h2 (by decide) (by decide), getF_setF_field _ _ _ _ _ _ h1 (by decide) (by decide),
      getF_setF_same _ _ _ _ _ hs (by decide)]
  · rw [id, getF_setF_field _ _ _ _ _ _ h2 (by decide) (by decide), getF_setF_same _ _ _ _ _ h1 (by decide)]
  · rw [id, getF_setF_same _ _ _ _ _ h2 (by decide)]
  · rw [kept.reg_eq (by decide), reg_setReg_same _ _ _ _ h3, BitVec.toNat_ofNat]
  · rw [State.loadGlobal, reg_setReg_same _ _ _ _ h5, BitVec.toNat_ofNat, Nat.mod_eq_of_lt]
    unfold cap0Of
    split_ifs <;> decide

/-- The registers of the reference, which follow CLK_REF_CFG (R134, R150). -/
def refRegs : List Nat := [CLK_REF_CFG.addr [], CLK_REF_STATUS.addr [], CLK_HOLDOVER.addr []]

theorem refSettle_kept (s : State) : RegsKept refRegs s s.refSettle := by
  unfold State.refSettle
  extract_lets q
  split
  · refine .ite (fun _ => (RegsKept.refl _ s).setF (by decide)) fun _ => .ite (fun _ => ?_) fun _ => .refl _ s
    exact (((RegsKept.refl _ s).setF (by decide)).setF (by decide)).setLogged (by decide)
  · refine .ite (fun _ => .refl _ s) fun _ => ?_
    exact (((((RegsKept.refl _ s).setF (by decide)).setF (by decide)).setReg (by decide)).setF (by decide)).setLogged (by decide)

theorem refLost_kept (s : State) (x : Nat) : RegsKept refRegs s (s.refLost x) := by
  unfold State.refLost
  refine .ite (fun _ => ?_) fun _ => .refl _ s
  extract_lets _ s1
  have h1 : RegsKept refRegs s s1 := .of_regs_eq rfl
  exact ((h1.setF (by decide)).setLogged (by decide)).trans (refSettle_kept _)

/-- A write to CLK_REF_CFG changes the registers of the reference alone. -/
theorem writeRefCfg_kept (s : State) (v : Nat) : RegsKept refRegs s (s.writeRefCfg v) := by
  unfold State.writeRefCfg
  extract_lets w p moved s1 moved' cfg s2 both _ s3
  have h1 : RegsKept refRegs s s1 := .ite (fun _ => (RegsKept.refl _ s).setLogged (by decide)) fun _ => .refl _ s
  have h2 : RegsKept refRegs s s2 := h1.setReg (by decide)
  have h3 : RegsKept refRegs s s3 := h2.trans (.ite (fun _ => .of_regs_eq rfl) fun _ => .refl _ s2)
  refine h3.trans (.foldl _ (fun s x _ => .ite (fun _ => .refl _ s) fun _ => .ite (fun _ => refLost_kept s x) fun _ => ?_) s3)
  exact (RegsKept.refl _ s).setF (by decide)

theorem flashBytes_congr {s t : State} (h : t.flash = s.flash) (o n : Nat) : t.flashBytes o n = s.flashBytes o n := by
  unfold State.flashBytes; rw [h]

theorem bootDir_congr {s t : State} (h : t.flash = s.flash) : t.bootDir = s.bootDir := by
  unfold State.bootDir; simp only [flashBytes_congr h]

/-- Directory copies are numbered 0 and 1 (R948). -/
theorem bootDir_lt {s : State} {x : Nat × List Byte} (h : s.bootDir = some x) : x.1 < 2 := by
  unfold State.bootDir at h
  extract_lets a b at h
  split at h
  next => split at h <;> obtain rfl := Option.some.inj h <;> simp only [Nat.lt_add_one, Nat.zero_lt_two]
  next => exact Option.some.inj h ▸ Nat.zero_lt_two
  next => exact Option.some.inj h ▸ Nat.one_lt_two
  next => cases h

theorem deviceId_eq {as : List Nat} {s t : State} (h : RegsKept as s t) (hr : GLB_ID.addr [] ∉ as) : t.deviceId = s.deviceId := by
  rw [State.deviceId, State.deviceId, h.getF_eq _ hr]

/-- The registers that the boot directory sets (R948, R950). -/
def dirRegs : List Nat := RST_BOOT.addr [] :: PWR_THERM.addr [] :: refRegs

/-- The board record of a directory copy is applied (R948, R950). -/
theorem applyDir_some {s : State} {x : Nat × List Byte} (hs : tok 0 s.regs = true) (hd : s.bootDir = some x) :
    RegsKept dirRegs s s.applyDir ∧ s.applyDir.bootF RST_BOOT.FAIL = s.bootF RST_BOOT.FAIL ∧ s.applyDir.bootF RST_BOOT.DIR_COPY = x.1 ∧
    s.applyDir.front = { s.front with ssvid := leAt x.2 0x10 2, ssid := leAt x.2 0x12 2 } := by
  unfold State.applyDir
  extract_lets +onlyGivenNames dflt
  split
  case h_2 hnone => cases hd.symm.trans hnone
  case h_1 k d hsome =>
  obtain rfl : (k, d) = x := Option.some.inj (hsome.symm.trans hd)
  have hk : k < 2 := bootDir_lt hd
  extract_lets s1 v s2 th s3
  have h1 : tok 0 s1.regs = true := setF_tok _ _ _ _ _ hs
  have copy : s1.bootF RST_BOOT.DIR_COPY = k := (bootF_set_same k hs (by decide)).trans (Nat.mod_eq_of_lt hk)
  have fail : s1.bootF RST_BOOT.FAIL = s.bootF RST_BOOT.FAIL := bootF_set_field k hs (by decide)
  have ref (v : Nat) {g : Fld} : (s1.writeRefCfg v).bootF g = s1.bootF g := (writeRefCfg_kept s1 v).bootF_eq g (by decide)
  have same (v : Nat) : tok 0 (s1.writeRefCfg v).regs = true := (State.writeRefCfg_frame s1 v).tok h1
  have kept1 : RegsKept dirRegs s s1 := (RegsKept.refl _ s).setF (by decide)
  have hdir : ∀ {g : Fld}, (g.lo + g.width ≤ 64 ∧ (g.lo + g.width ≤ 10 ∨ 11 ≤ g.lo)) → s2.bootF g = s1.bootF g := fun hg => by
    unfold s2
    split
    · exact ref v
    · exact (bootF_set_field 1 (same dflt) hg).trans (ref dflt)
  have kept2 : RegsKept dirRegs s s2 := .ite (fun _ => kept1.then (writeRefCfg_kept s1 v) (by decide)) fun _ =>
    (kept1.then (writeRefCfg_kept s1 dflt) (by decide)).setF (by decide)
  have therm : RegsKept [PWR_THERM.addr []] s2 s3 := .ite (fun _ => .refl _ s2) fun _ => setF_kept _ _ _ _ _
  have front : s3.front = s.front := by
    have h2 : Frame [.regs, .arb, .pwr] s s2 := ((State.setF_frame s RST_BOOT [] RST_BOOT.DIR_COPY k).mono rfl).trans
      (.ite (fun _ => State.writeRefCfg_frame s1 v) fun _ => (State.writeRefCfg_frame s1 dflt).trans ((State.setF_frame ..).mono rfl))
    exact (h2.trans (.ite (fun _ => .refl _ s2) fun _ => (State.setF_frame ..).mono rfl)).1 .front (by decide)
  refine ⟨kept2.then therm (by decide), (therm.bootF_eq _ (by decide)).trans ((hdir (by decide)).trans fail),
    (therm.bootF_eq _ (by decide)).trans ((hdir (by decide)).trans copy), ?_⟩
  exact congrArg (fun f : Front => { f with ssvid := leAt d 0x10 2, ssid := leAt d 0x12 2 }) front

/-- Without a valid directory copy the defaults apply (R948, R950). -/
theorem applyDir_none {s : State} (hs : tok 0 s.regs = true) (hd : s.bootDir = none) :
    RegsKept dirRegs s s.applyDir ∧ s.applyDir.bootF RST_BOOT.FAIL = s.bootF RST_BOOT.FAIL ∧ s.applyDir.bootF RST_BOOT.DIR_BAD = 1 ∧
    s.applyDir.front = { s.front with ssvid := 0x52E7, ssid := s.deviceId } := by
  unfold State.applyDir
  extract_lets +onlyGivenNames dflt
  split
  case h_1 hsome => cases hd.symm.trans hsome
  case h_2 =>
  extract_lets s1
  have h0 : tok 0 (s.writeRefCfg dflt).regs = true := (State.writeRefCfg_frame s dflt).tok hs
  have kept0 : RegsKept dirRegs s (s.writeRefCfg dflt) := (RegsKept.refl _ s).then (writeRefCfg_kept s dflt) (by decide)
  have kept : RegsKept dirRegs s s1 := kept0.setF (by decide)
  have front : s1.front = s.front := (State.writeRefCfg_frame s dflt).1 .front (by decide)
  refine ⟨kept, (bootF_set_field 1 h0 (by decide)).trans ((writeRefCfg_kept s dflt).bootF_eq _ (by decide)), bootF_set_same 1 h0 (by decide), ?_⟩
  rw [← deviceId_eq kept (by decide)]
  exact congrArg (fun f : Front => { f with ssvid := 0x52E7, ssid := s1.deviceId }) front

/-- The flash does not answer (R944). -/
def State.flashFailed (s : State) : State :=
  let s := (s.bootFail 1).setF RST_BOOT [] RST_BOOT.DIR_BAD 0
  { s with front := { s.front with ssvid := 0x52E7, ssid := s.deviceId } }

/-- Steps 2 and 3 of R940, but for the directory. -/
theorem bootRom_timed {s u : State} {ok : Bool} (ms : BitVec 16) (hu : tok 0 u.regs = true)
    (h : u = if ok then s.loadFuses.applyDir else s.loadFuses.flashFailed) :
    let t := (s.bootRom ok).timed ms
    RegsKept [RST_BOOT.addr []] u t ∧ t.bootF RST_BOOT.STAGE = 3 ∧ t.bootF RST_BOOT.ELAPSED_MS = ms.toNat ∧
    (∀ g : Fld, g.lo + g.width ≤ 16 → 4 ≤ g.lo → t.bootF g = u.bootF g) ∧ t.front = { u.front with linkMayTrain := true } := by
  let v : State := { u with front := { u.front with linkMayTrain := true } }
  have hv : tok 0 v.regs = true := hu
  have hstage : tok 0 (v.bootStage 3).regs = true := setF_tok _ _ _ _ _ hv
  have ht : (s.bootRom ok).timed ms = (v.bootStage 3).timed ms := by subst h; rfl
  rw [ht]
  refine ⟨(setF_kept v RST_BOOT [] RST_BOOT.STAGE 3).trans (timed_kept _ ms),
    (bootF_timed hstage (by decide)).trans (bootF_set_same 3 hv (by decide)),
    elapsed_timed hstage, fun g hg hlo => ?_, rfl⟩
  exact (bootF_timed hstage ⟨by omega, .inl hg⟩).trans (bootF_set_field 3 hv ⟨by omega, .inr hlo⟩)

end Sys2Proof.Machine
end

section
/-! Stages 3 and 5 of the boot: the images in the flash (R865 to R867, R941). -/

namespace Sys2Proof.Machine

/-! ### Firmware images -/

theorem imageReason_lt {s : State} {img : List Byte} {kind r : Nat} {rom : Bool} (h : s.imageReason img kind rom = some r) : r < 8 := by
  unfold State.imageReason at h
  extract_lets slot key n at h
  split_ifs at h <;> obtain rfl := Option.some.inj h <;> decide

theorem bootImage_reason_lt {s : State} {kind r ra : Nat} {x : List Byte} (h : s.bootImage kind r = (x, some ra)) : ra < 8 := by
  unfold State.bootImage at h
  extract_lets o hdr n img at h
  split_ifs at h
  · obtain rfl := Option.some.inj (Prod.mk.inj h).2
    decide
  · obtain rfl := Option.some.inj (Prod.mk.inj h).2
    decide
  · exact imageReason_lt (Prod.mk.inj h).2

/-- ROM verification reads the flash and the fuses alone: check 7 of R865 is not the ROM's. -/
theorem bootImage_congr {s t : State} (hflash : t.flash = s.flash) (hfuses : t.fuses = s.fuses) (kind r : Nat) :
    t.bootImage kind r = s.bootImage kind r := by
  unfold State.bootImage State.imageReason
  simp only [flashBytes_congr hflash, hfuses, Bool.not_true, Bool.false_eq_true, false_and, if_false]

theorem leNat_lt (l : List Byte) : leNat l < 256 ^ l.length := by
  induction l with
  | nil => exact Nat.one_pos
  | cons b l ih =>
    have := b.isLt
    rw [leNat, List.length_cons, Nat.pow_succ]
    omega

theorem leAt_lt (l : List Byte) (i n : Nat) : leAt l i n < 256 ^ n := by
  have : (slice l i n).length = n := by simp [slice]
  exact (leNat_lt _).trans_eq (by rw [this])

/-! ### The states of the security module -/

theorem setSmState_kept (s : State) (st : Nat) : RegsKept [SM_STATUS.addr []] s (s.setSmState st) :=
  ((RegsKept.refl _ s).setF (by decide)).setF (by decide)

theorem smState_setSmState {s : State} {st : Nat} (h : tok 0 s.regs = true) : (s.setSmState st).smState = st % 8 := by
  rw [State.setSmState, State.smState, getF_setF_field _ _ _ _ _ _ (setF_tok _ _ _ _ _ h) (by decide) (by decide),
    getF_setF_same _ _ _ _ _ h (by decide)]
  rfl

/-- The registers that an error state sets (R892, R903). -/
def errorRegs : List Nat := [SM_STATUS.addr [], SM_EVENT.addr []]

/-- Entering an error state: STATE, ERR_CODE and the event. -/
theorem errorState_regs {s : State} {st code : Nat} (h : tok 0 s.regs = true) :
    let t := ((s.setSmState st).setF SM_STATUS [] SM_STATUS.ERR_CODE code).smEvent SM_EVENT.ERROR
    t.smState = st % 8 ∧ t.getF SM_STATUS [] SM_STATUS.ERR_CODE = code % 256 ∧ RegsKept errorRegs s t := by
  intro t
  let u := s.setSmState st
  let v := u.setF SM_STATUS [] SM_STATUS.ERR_CODE code
  have hu : tok 0 u.regs = true := (State.setSmState_frame s st).tok h
  have event : RegsKept [SM_EVENT.addr []] v t := setLogged_kept v 10 SM_EVENT [] SM_EVENT.ERROR
  refine ⟨(event.getF_eq _ (by decide)).trans ?_, (event.getF_eq _ (by decide)).trans (getF_setF_same u _ _ _ _ hu (by decide)), ?_⟩
  · exact (getF_setF_field u _ _ _ _ _ hu (by decide) (by decide)).trans (smState_setSmState h)
  · exact (((RegsKept.refl _ s).then (setSmState_kept s st) (by decide)).setF (by decide)).then event (by decide)

theorem hardError_regs {s : State} {code : Nat} (h : tok 0 s.regs = true) :
    (s.hardError code).smState = 5 ∧ (s.hardError code).getF SM_STATUS [] SM_STATUS.ERR_CODE = code % 256 ∧
    RegsKept errorRegs s (s.hardError code) := by
  let u := s.wipeSecrets.wipeSas.closeSessions
  have hu : Frame [.sm, .eth] s u :=
    ((State.wipeSecrets_frame s).mono rfl).trans (((State.wipeSas_frame _).mono rfl).trans ((State.closeSessions_frame _).mono rfl))
  obtain ⟨hstate, hcode, hkept⟩ := errorState_regs (s := u) (st := 5) (code := code) (hu.tok h)
  exact ⟨hstate, hcode, (hu.regs_kept (by decide) _).trans hkept⟩

theorem softError_regs {s : State} {n : Nat} (h : tok 0 s.regs = true) :
    (s.softError n).smState = 4 ∧ (s.softError n).getF SM_STATUS [] SM_STATUS.ERR_CODE = (0x80 + n) % 256 ∧
    RegsKept errorRegs s (s.softError n) := by
  let u := (s.setSm { s.sm with prior := s.smState, drbg := false, recoveries := 0 }).closeSessions
  have hu : Frame [.sm] s u := (State.setSm_frame s _).trans (State.closeSessions_frame _)
  obtain ⟨hstate, hcode, hkept⟩ := errorState_regs (s := u) (st := 4) (code := 0x80 + n) (hu.tok h)
  exact ⟨hstate, hcode, (hu.regs_kept (by decide) _).trans hkept⟩

/-! ### Stage 3: the firmware of the security module -/

/-- The module's firmware is entered from a flash region (R866). -/
def State.enterSm (s : State) (r : Nat) (img : List Byte) : State :=
  let s := { s with fw := { s.fw with smRegion := r } }
  (s.setSm { s.sm with runSmSvn := leAt img 0x0D 1, runSmSlot := leAt img 0x0E 1 }).bootStage 4

section
variable {s : State} {img x y : List Byte} {ra rb : Nat}

theorem bootSm_unreadable (h : s.bootF RST_BOOT.FAIL = 1) : s.bootSm = s.hardError 1 := if_pos h

theorem bootSm_first (h : s.bootF RST_BOOT.FAIL ≠ 1) (hi : s.bootImage 1 (s.copyA 1) = (img, none)) : s.bootSm = s.enterSm (s.copyA 1) img := by
  unfold State.bootSm
  extract_lets a enter
  rw [if_neg (show ¬s.getF _ _ _ = 1 from h), show s.bootImage 1 a = _ from hi]
  rfl

theorem bootSm_second (h : s.bootF RST_BOOT.FAIL ≠ 1) (ha : s.bootImage 1 (s.copyA 1) = (x, some ra))
    (hb : s.bootImage 1 (1 - s.copyA 1) = (img, none)) :
    s.bootSm = (s.enterSm (1 - s.copyA 1) img).setF RST_BOOT [] RST_BOOT.COPY_SM 1 := by
  unfold State.bootSm
  extract_lets a enter
  rw [if_neg (show ¬s.getF _ _ _ = 1 from h), show s.bootImage 1 a = _ from ha]
  dsimp only
  rw [show s.bootImage 1 (1 - a) = _ from hb]
  rfl

theorem bootSm_neither (h : s.bootF RST_BOOT.FAIL ≠ 1) (ha : s.bootImage 1 (s.copyA 1) = (x, some ra))
    (hb : s.bootImage 1 (1 - s.copyA 1) = (y, some rb)) : s.bootSm = (s.bootFail 2).hardError ra := by
  unfold State.bootSm
  extract_lets a enter
  rw [if_neg (show ¬s.getF _ _ _ = 1 from h), show s.bootImage 1 a = _ from ha]
  dsimp only
  rw [show s.bootImage 1 (1 - a) = _ from hb]

end

theorem enterSm_frame (s : State) (r : Nat) (img : List Byte) : Frame [.regs, .sm, .fw] s (s.enterSm r img) :=
  (Frame.set_fw _ (by decide) (.refl _ s)).trans (((State.setSm_frame ..).mono rfl).trans ((State.setF_frame ..).mono rfl))

theorem enterSm_stage {s : State} {r : Nat} {img : List Byte} (h : tok 0 s.regs = true) : (s.enterSm r img).bootF RST_BOOT.STAGE = 4 :=
  bootF_set_same 4 h (by decide)

/-- Entering the module's firmware sets no field of RST_BOOT but STAGE. -/
theorem enterSm_bootF {s : State} {r : Nat} {img : List Byte} {g : Fld} (h : tok 0 s.regs = true) (hg : g.lo + g.width ≤ 64 ∧ 4 ≤ g.lo) :
    (s.enterSm r img).bootF g = s.bootF g := bootF_set_field 4 h ⟨hg.1, .inr hg.2⟩

/-! ### Stage 5: the firmware of C0 -/

/-- The registers that tell of the firmware that runs (AON_FW, R848). -/
def fwRegs : List Nat := [AON_FW.addr [], GLB_REPRO_PROFILE.addr [], GLB_MODE.addr []]

/-- The image's version and profile class in the registers. -/
def State.showFirmware (s : State) (version cls : Nat) : State :=
  ((s.setF AON_FW [] AON_FW.VERSION version).setF AON_FW [] AON_FW.NFW_CLASS cls).setF GLB_REPRO_PROFILE [] GLB_REPRO_PROFILE.NFW_CLASS cls

theorem showFirmware_kept (s : State) (version cls : Nat) : RegsKept fwRegs s (s.showFirmware version cls) :=
  (((RegsKept.refl fwRegs s).setF (by decide)).setF (by decide)).setF (by decide)

theorem showFirmware_frame (s : State) (version cls : Nat) : Frame [.regs] s (s.showFirmware version cls) :=
  (State.setF_frame ..).trans ((State.setF_frame ..).trans (State.setF_frame ..))

theorem showFirmware_regs {s : State} {version cls : Nat} (h : tok 0 s.regs = true) :
    (s.showFirmware version cls).getF AON_FW [] AON_FW.VERSION = version % 2 ^ AON_FW.VERSION.width ∧
    (s.showFirmware version cls).getF AON_FW [] AON_FW.NFW_CLASS = cls % 2 ^ AON_FW.NFW_CLASS.width := by
  let u := s.setF AON_FW [] AON_FW.VERSION version
  let v := u.setF AON_FW [] AON_FW.NFW_CLASS cls
  have hu : tok 0 u.regs = true := setF_tok s _ _ _ _ h
  have last : RegsKept [GLB_REPRO_PROFILE.addr []] v (s.showFirmware version cls) := setF_kept v _ _ _ _
  refine ⟨(last.getF_eq _ (by decide)).trans ?_, (last.getF_eq _ (by decide)).trans (getF_setF_same u _ _ _ _ hu (by decide))⟩
  exact (getF_setF_field u _ _ _ _ _ hu (by decide) (by decide)).trans (getF_setF_same s _ _ _ _ h (by decide))

/-- An image is made the running one; that the profile class moved is logged apart. -/
theorem setFirmware_eq (s : State) (img : List Byte) : ∃ (moved : Bool) (m : Sm),
    s.setFirmware img = (let u : State := { s with fw := { s.fw with running := img } }
      let t := (u.showFirmware (leAt img 8 4) (leAt img 0x0C 1)).setSm m
      if moved then t.setLogged 10 GLB_MODE [] GLB_MODE.PROFILE_MOVED else t) :=
  ⟨_, _, rfl⟩

theorem setFirmware_spec {s : State} (img : List Byte) (h : tok 0 s.regs = true) :
    (s.setFirmware img).fw = { s.fw with running := img } ∧ RegsKept fwRegs s (s.setFirmware img) ∧
    (s.setFirmware img).getF AON_FW [] AON_FW.VERSION = leAt img 8 4 ∧ (s.setFirmware img).getF AON_FW [] AON_FW.NFW_CLASS = leAt img 0x0C 1 := by
  have version : leAt img 8 4 % 2 ^ AON_FW.VERSION.width = leAt img 8 4 :=
    Nat.mod_eq_of_lt ((leAt_lt img 8 4).trans_eq (by norm_num [AON_FW.VERSION]))
  have cls : leAt img 0x0C 1 % 2 ^ AON_FW.NFW_CLASS.width = leAt img 0x0C 1 :=
    Nat.mod_eq_of_lt ((leAt_lt img 0x0C 1).trans_eq (by norm_num [AON_FW.NFW_CLASS]))
  obtain ⟨moved, m, he⟩ := setFirmware_eq s img
  let u : State := { s with fw := { s.fw with running := img } }
  let v := u.showFirmware (leAt img 8 4) (leAt img 0x0C 1)
  have last : RegsKept [GLB_MODE.addr []] v (s.setFirmware img) :=
    he ▸ ((State.setSm_frame v m).regs_kept (by decide) _).trans (.ite (fun _ => setLogged_kept _ _ _ _ _) fun _ => .refl _ _)
  have frame : Frame [.regs, .sm, .arb] u (s.setFirmware img) :=
    he ▸ ((showFirmware_frame u _ _).mono rfl).trans (((State.setSm_frame v m).mono rfl).trans
      (.ite (fun _ => (State.setLogged_frame ..).mono rfl) fun _ => .refl _ _))
  obtain ⟨hversion, hcls⟩ := showFirmware_regs (s := u) (version := leAt img 8 4) (cls := leAt img 0x0C 1) h
  refine ⟨frame.1 .fw (by decide), ?_, (last.getF_eq _ (by decide)).trans (hversion.trans version),
    (last.getF_eq _ (by decide)).trans (hcls.trans cls)⟩
  exact (RegsKept.trans (.of_regs_eq rfl) (showFirmware_kept u _ _)).then last (by decide)

/-- The cores are released into a flash region's image (R867, R941). -/
def State.enterFw (s : State) (r : Nat) (img : List Byte) : State :=
  let s := s.setFirmware img
  ({ s with fw := { s.fw with region := r, coresHeld := false } }).bootStage 6

section
variable {s : State} {img x y : List Byte} {ra rb : Nat}

theorem bootFw_first (hi : s.bootImage 2 (s.copyA 2) = (img, none)) : s.bootFw = s.enterFw (s.copyA 2) img := by
  unfold State.bootFw
  extract_lets a enter
  rw [show s.bootImage 2 a = _ from hi]
  rfl

theorem bootFw_second (ha : s.bootImage 2 (s.copyA 2) = (x, some ra)) (hb : s.bootImage 2 (1 - s.copyA 2) = (img, none)) :
    s.bootFw = (s.enterFw (1 - s.copyA 2) img).setF RST_BOOT [] RST_BOOT.COPY_FW 1 := by
  unfold State.bootFw
  extract_lets a enter
  rw [show s.bootImage 2 a = _ from ha]
  dsimp only
  rw [show s.bootImage 2 (1 - a) = _ from hb]
  rfl

theorem bootFw_neither (ha : s.bootImage 2 (s.copyA 2) = (x, some ra)) (hb : s.bootImage 2 (1 - s.copyA 2) = (y, some rb)) :
    s.bootFw = (s.bootFail 4).bootStage 6 := by
  unfold State.bootFw
  extract_lets a enter
  rw [show s.bootImage 2 a = _ from ha]
  dsimp only
  rw [show s.bootImage 2 (1 - a) = _ from hb]

end

/-- What entering the firmware leaves: the state of the cores and AON_FW, and of RST_BOOT the stage alone. -/
theorem enterFw_spec {s : State} (r : Nat) (img : List Byte) (h : tok 0 s.regs = true) :
    (s.enterFw r img).fw = { s.fw with region := r, coresHeld := false, running := img } ∧ (s.enterFw r img).bootF RST_BOOT.STAGE = 6 ∧
    (s.enterFw r img).bootF RST_BOOT.COPY_FW = s.bootF RST_BOOT.COPY_FW ∧ (s.enterFw r img).getF AON_FW [] AON_FW.VERSION = leAt img 8 4 ∧
    (s.enterFw r img).getF AON_FW [] AON_FW.NFW_CLASS = leAt img 0x0C 1 ∧ Frame [.regs, .arb, .sm, .fw] s (s.enterFw r img) := by
  obtain ⟨hfw, hkept, hver, hcls⟩ := setFirmware_spec img h
  have hframe := State.setFirmware_frame s img
  let u : State := { s.setFirmware img with fw := { (s.setFirmware img).fw with region := r, coresHeld := false } }
  have hu : tok 0 u.regs = true := hframe.tok h
  have stage : RegsKept [RST_BOOT.addr []] u (s.enterFw r img) := setF_kept u _ _ _ _
  refine ⟨?_, bootF_set_same 6 hu (by decide), (bootF_set_field 6 hu (by decide)).trans (hkept.bootF_eq _ (by decide)),
    (stage.getF_eq _ (by decide)).trans hver, (stage.getF_eq _ (by decide)).trans hcls,
    (Frame.set_fw _ (by decide) hframe).trans ((State.setF_frame ..).mono rfl)⟩
  exact congrArg (fun f : Firmware => { f with region := r, coresHeld := false }) hfw

end Sys2Proof.Machine
end

section
/-! Stage 4 of the boot: the self-tests, the wash counts and the release of the dies (R890 to R892, R899, R820, R940). -/

namespace Sys2Proof.Machine

/-! ### Stage 4: the self-tests -/

section
variable {s : State}

theorem getF_setLogged (s : State) (die : Nat) (r q : Reg) (ix jx : List Nat) (f g : Fld) :
    (s.setLogged die r ix f).getF q jx g = (s.setBit r ix f).getF q jx g :=
  ((State.logBits_frame ..).regs_kept (by decide) []).getF_eq g List.not_mem_nil

theorem bit_setLogged_same {die : Nat} {r : Reg} {ix : List Nat} {f : Fld} (h : tok 0 s.regs = true) (hf : f.lo + f.width ≤ 64)
    (hw : 1 ≤ f.width) : (s.setLogged die r ix f).bit r ix f = true := by
  rw [State.bit, getF_setLogged]
  exact bit_setBit_same s r ix f h hf hw

theorem eraseStore_spec (h : tok 0 s.regs = true) : RegsKept [SM_STATUS.addr []] s s.eraseStore ∧ s.eraseStore.smState = s.smState ∧
    s.eraseStore.coFused 0 = s.coFused 0 := by
  unfold State.eraseStore
  extract_lets b _ s1 _ s2 s3
  have h3 : tok 0 s3.regs = true := setF_tok s2 _ _ _ _ h
  have bank : s3.smState = s.smState := getF_setF_field s2 _ _ _ _ _ h (by decide) (by decide)
  have kept : RegsKept [SM_STATUS.addr []] s s3 := setF_kept s2 _ _ _ _
  split
  · exact ⟨kept.setF (by decide), (getF_setF_field s3 _ _ _ _ _ h3 (by decide) (by decide)).trans bank, rfl⟩
  · exact ⟨kept, bank, rfl⟩

/-- Zeroization while the tests run (R897, R899): the module goes on testing, and the event shows. -/
theorem zeroize_spec (h : tok 0 s.regs = true) (ht : s.smState = 1) : RegsKept errorRegs s (s.zeroize true) ∧ (s.zeroize true).smState = 1 ∧
    (s.zeroize true).bit SM_EVENT [] SM_EVENT.ZEROIZED = true ∧ (s.zeroize true).coFused 0 = s.coFused 0 := by
  unfold State.zeroize
  extract_lets s1 s2 s3
  have frame : Frame [.sm, .eth] s s1 :=
    ((State.wipeSecrets_frame s).mono rfl).trans (((State.wipeSas_frame _).mono rfl).trans ((State.closeSessions_frame _).mono rfl))
  have h1 : tok 0 s1.regs = true := frame.tok h
  have kept1 : RegsKept [SM_STATUS.addr []] s s1 := frame.regs_kept (by decide) _
  have state1 : s1.smState = s.smState := (frame.regs_kept (by decide) []).getF_eq _ List.not_mem_nil
  obtain ⟨kept2, state2, fused2⟩ : RegsKept [SM_STATUS.addr []] s1 s2 ∧ s2.smState = s1.smState ∧ s2.coFused 0 = s1.coFused 0 :=
    eraseStore_spec h1
  have h2 : tok 0 s2.regs = true := (State.eraseStore_frame s1).tok h1
  have event : RegsKept [SM_EVENT.addr []] s2 s3 := setLogged_kept s2 _ _ _ _
  have state : s3.smState = 1 := (event.getF_eq _ (by decide)).trans (state2.trans (state1.trans ht))
  have fuses : s3.fuses = s2.fuses := (State.smEvent_frame s2 _).1 .fuses (by decide)
  have fuses1 : s1.fuses = s.fuses := frame.1 .fuses (by decide)
  rw [if_neg (by rw [state]; decide)]
  refine ⟨((RegsKept.refl errorRegs s).then (kept1.trans kept2) (by decide)).then event (by decide), state,
    bit_setLogged_same h2 (by decide) (by decide), ?_⟩
  rw [State.coFused, fuses, ← State.coFused, fused2, State.coFused, fuses1, ← State.coFused]

/-- A latched ZEROIZE_N is served before the tests (R899). -/
theorem serveLatch_spec (h : tok 0 s.regs = true) (ht : s.smState = 1) : RegsKept errorRegs s s.serveLatch ∧ s.serveLatch.smState = 1 ∧
    s.serveLatch.sm.zeroLatch = false ∧ s.serveLatch.coFused 0 = s.coFused 0 ∧
    (s.sm.zeroLatch = true → s.serveLatch.bit SM_EVENT [] SM_EVENT.ZEROIZED = true) := by
  obtain ⟨kept, state, event, fused⟩ := zeroize_spec h ht
  unfold State.serveLatch
  by_cases hl : s.sm.zeroLatch = true
  · rw [if_pos hl]
    exact ⟨kept, state, rfl, fused, fun _ => event⟩
  · rw [if_neg hl]
    exact ⟨.refl _ s, ht, Bool.not_eq_true _ ▸ hl, rfl, fun h => absurd h hl⟩

theorem testsRun_kept (s : State) (ran failed : Nat) : RegsKept [SM_SELFTEST.addr []] s (s.testsRun ran failed) :=
  ((RegsKept.refl _ s).setF (by decide)).setF (by decide)

/-- Tests 0 to 10 have run and none has failed (R890). -/
theorem testsRun_passed (h : tok 0 s.regs = true) : (s.testsRun 0x7FF 0).getF SM_SELFTEST [] SM_SELFTEST.FAILED &&& 0x7FF = 0 ∧
    (s.testsRun 0x7FF 0).getF SM_SELFTEST [] SM_SELFTEST.PASSED &&& 0x7FF = 0x7FF := by
  unfold State.testsRun
  extract_lets keep p f
  let u := s.setF SM_SELFTEST [] SM_SELFTEST.PASSED (keep p ||| (0x7FF ^^^ (0x7FF &&& 0)))
  have hu : tok 0 u.regs = true := setF_tok s _ _ _ _ h
  rw [getF_setF_same u _ _ _ _ hu (by decide), getF_setF_field u _ _ _ _ _ hu (by decide) (by decide), getF_setF_same s _ _ _ _ h (by decide)]
  have low (n m : Nat) : ((n &&& 0x800 ||| m) % 2 ^ 12) &&& 0x7FF = m &&& 0x7FF := by
    rw [← Nat.and_two_pow_sub_one_eq_mod, Nat.and_assoc, Nat.and_or_distrib_right, Nat.and_assoc n,
      show 0x800 &&& (2 ^ 12 - 1 &&& 0x7FF) = 0 from rfl,
      Nat.and_zero, Nat.zero_or, show (2 ^ 12 - 1) &&& 0x7FF = 0x7FF from rfl]
  exact ⟨low f 0, low p 0x7FF⟩

theorem loadPolicy_kept (s : State) : RegsKept [SM_POLICY.addr []] s s.loadPolicy :=
  (((RegsKept.refl _ s).setF (by decide)).setF (by decide)).setF (by decide)

/-- A store that does not authenticate is treated as empty (R862, R883). -/
def State.emptyStore (s : State) : State :=
  ((s.setSm { s.sm with store := {} }).setF SM_STATUS [] SM_STATUS.STORE_BAD 1).smEvent SM_EVENT.STORE_BAD

theorem emptyStore_spec (h : tok 0 s.regs = true) : RegsKept errorRegs s s.emptyStore ∧ s.emptyStore.sm.drbg = s.sm.drbg ∧
    s.emptyStore.sm.zeroLatch = s.sm.zeroLatch ∧ s.emptyStore.bit SM_EVENT [] SM_EVENT.ZEROIZED = s.bit SM_EVENT [] SM_EVENT.ZEROIZED := by
  let u := s.setSm { s.sm with store := {} }
  let v := u.setF SM_STATUS [] SM_STATUS.STORE_BAD 1
  have hv : tok 0 v.regs = true := setF_tok u _ _ _ _ h
  have kept : RegsKept [SM_STATUS.addr []] s v := setF_kept u _ _ _ _
  have sm : s.emptyStore.sm = v.sm := (State.smEvent_frame v _).1 .sm (by decide)
  refine ⟨((RegsKept.refl errorRegs s).then kept (by decide)).setLogged (by decide), by rw [sm]; rfl, by rw [sm]; rfl, ?_⟩
  rw [State.bit, State.bit]
  refine congrArg (· != 0) ((getF_setLogged v 10 SM_EVENT SM_EVENT [] [] _ _).trans ?_)
  exact (getF_setF_field v _ _ _ _ _ hv (by decide) (by decide)).trans (kept.getF_eq _ (by decide))

/-- Loading the store leaves the DRBG, the latch and the event of a zeroization (R862, R883). -/
theorem loadStore_spec (h : tok 0 s.regs = true) : RegsKept [SM_STATUS.addr [], SM_EVENT.addr [], SM_POLICY.addr []] s s.loadStore ∧
    s.loadStore.sm.drbg = s.sm.drbg ∧ s.loadStore.sm.zeroLatch = s.sm.zeroLatch ∧
    s.loadStore.bit SM_EVENT [] SM_EVENT.ZEROIZED = s.bit SM_EVENT [] SM_EVENT.ZEROIZED := by
  have load (u : State) : let t := (u.setSm { u.sm with keys := u.sm.store.keys.foldl (fun t e => tput {} t e.1 e.2) u.sm.keys }).loadPolicy
      RegsKept [SM_POLICY.addr []] u t ∧ t.sm.drbg = u.sm.drbg ∧ t.sm.zeroLatch = u.sm.zeroLatch := ⟨loadPolicy_kept _, rfl, rfl⟩
  unfold State.loadStore
  split
  · obtain ⟨kept, drbg, latch⟩ := load s
    exact ⟨(RegsKept.refl _ s).then kept (by decide), drbg, latch, congrArg (· != 0) (kept.getF_eq _ (by decide))⟩
  · obtain ⟨kept0, drbg0, latch0, event⟩ := emptyStore_spec h
    obtain ⟨kept, drbg, latch⟩ := load s.emptyStore
    exact ⟨((RegsKept.refl _ s).then kept0 (by decide)).then kept (by decide), drbg.trans drbg0, latch.trans latch0,
      (congrArg (· != 0) (kept.getF_eq _ (by decide))).trans event⟩

/-- Seeding the DRBG sets no register, and leaves the latch. -/
theorem seedDrbg_spec (s : State) : s.seedDrbg.regs = s.regs ∧ s.seedDrbg.sm = { s.sm with drbg := true } := by
  unfold State.seedDrbg
  extract_lets _ u b k _
  split <;> exact ⟨rfl, rfl⟩

/-- The module serves once its tests have passed (R862, R892). -/
theorem smServe_spec (h : tok 0 s.regs = true) : RegsKept [SM_STATUS.addr [], SM_EVENT.addr [], SM_POLICY.addr []] s s.smServe ∧
    s.smServe.smState = (if s.coFused 0 then 3 else 2) ∧ s.smServe.sm.drbg = true ∧ s.smServe.sm.zeroLatch = s.sm.zeroLatch ∧
    s.smServe.bit SM_EVENT [] SM_EVENT.ZEROIZED = s.bit SM_EVENT [] SM_EVENT.ZEROIZED := by
  obtain ⟨regs, sm⟩ := seedDrbg_spec s
  have hseed : tok 0 s.seedDrbg.regs = true := regs ▸ h
  obtain ⟨kept, drbg, latch, event⟩ := loadStore_spec hseed
  let u := s.seedDrbg.loadStore
  have hu : tok 0 u.regs = true := (State.loadStore_frame _).tok hseed
  have state : RegsKept [SM_STATUS.addr []] u s.smServe := setSmState_kept u _
  have same : s.smServe.sm = u.sm := (State.setSmState_frame u _).1 .sm (by decide)
  refine ⟨(RegsKept.trans (.of_regs_eq regs) kept).then state (by decide), ?_, ?_, ?_, ?_⟩
  · refine (smState_setSmState hu).trans ?_
    split <;> rfl
  · rw [same, drbg, sm]
  · rw [same, latch, sm]
  · refine (congrArg (· != 0) (state.getF_eq _ (by decide))).trans (event.trans ?_)
    exact congrArg (· != 0) ((RegsKept.of_regs_eq (as := []) regs).getF_eq _ List.not_mem_nil)

/-- The registers that the start of the security module sets (R890 to R892). -/
def startRegs : List Nat := [SM_STATUS.addr [], SM_EVENT.addr [], SM_SELFTEST.addr [], SM_POLICY.addr []]

/-- The start of the module as far as its tests (R890, R899). -/
def State.smBegin (s : State) : State :=
  let s := ((s.setSmState 1).setF SM_STATUS [] SM_STATUS.STORE_BANK (min 7 s.fuses.bank)).setF SM_STATUS [] SM_STATUS.STORE_EXHAUSTED
    (b2n (s.fuses.bank == 8))
  (s.setF SM_STATUS [] SM_STATUS.DEBUG_UNLOCKED (1 - s.getF SM_DEBUG [] SM_DEBUG.LOCKED))

theorem smBegin_spec (h : tok 0 s.regs = true) : RegsKept [SM_STATUS.addr []] s s.smBegin ∧ s.smBegin.smState = 1 := by
  let s1 := s.setSmState 1
  let s2 := s1.setF SM_STATUS [] SM_STATUS.STORE_BANK (min 7 s.fuses.bank)
  let s3 := s2.setF SM_STATUS [] SM_STATUS.STORE_EXHAUSTED (b2n (s.fuses.bank == 8))
  have h1 : tok 0 s1.regs = true := (State.setSmState_frame s 1).tok h
  have h2 : tok 0 s2.regs = true := setF_tok s1 _ _ _ _ h1
  have h3 : tok 0 s3.regs = true := setF_tok s2 _ _ _ _ h2
  refine ⟨(((setSmState_kept s 1).setF (by decide)).setF (by decide)).setF (by decide), ?_⟩
  calc s.smBegin.smState
    _ = s3.smState := getF_setF_field s3 _ _ _ _ _ h3 (by decide) (by decide)
    _ = s2.smState := getF_setF_field s2 _ _ _ _ _ h2 (by decide) (by decide)
    _ = s1.smState := getF_setF_field s1 _ _ _ _ _ h1 (by decide) (by decide)
    _ = 1 := smState_setSmState h

theorem smBegin_frame (s : State) : Frame [.regs] s s.smBegin :=
  (State.setSmState_frame s 1).trans ((State.setF_frame ..).trans ((State.setF_frame ..).trans (State.setF_frame ..)))

/-- Up to the tests, a latched ZEROIZE_N is served and nothing else changes the module (R899). -/
theorem serveLatch_smBegin (h : tok 0 s.regs = true) : let t := s.smBegin.serveLatch
    tok 0 t.regs = true ∧ RegsKept errorRegs s t ∧ t.sm.zeroLatch = false ∧ t.coFused 0 = s.coFused 0 ∧
    (s.sm.zeroLatch = true → t.bit SM_EVENT [] SM_EVENT.ZEROIZED = true) := by
  obtain ⟨kept, state⟩ := smBegin_spec h
  have frame := smBegin_frame s
  have sm : s.smBegin.sm = s.sm := frame.1 .sm (by decide)
  have fuses : s.smBegin.fuses = s.fuses := frame.1 .fuses (by decide)
  obtain ⟨kept', -, latch, fused, event⟩ := serveLatch_spec (frame.tok h) state
  refine ⟨(State.serveLatch_frame _).tok (frame.tok h), ((RegsKept.refl errorRegs s).then kept (by decide)).trans kept', latch, ?_, ?_⟩
  · rw [fused, State.coFused, fuses, ← State.coFused]
  · exact fun hl => event (by rw [sm, hl])

/-- No test fails (R890 to R892). -/
theorem smStart_passed (h : tok 0 s.regs = true) : let t := s.smStart none
    RegsKept startRegs s t ∧ t.smState = (if s.coFused 0 then 3 else 2) ∧ t.sm.drbg = true ∧ t.sm.zeroLatch = false ∧
    t.getF SM_SELFTEST [] SM_SELFTEST.FAILED &&& 0x7FF = 0 ∧ t.getF SM_SELFTEST [] SM_SELFTEST.PASSED &&& 0x7FF = 0x7FF ∧
    (s.sm.zeroLatch = true → t.bit SM_EVENT [] SM_EVENT.ZEROIZED = true) := by
  obtain ⟨htok, kept, latch, fused, event⟩ := serveLatch_smBegin h
  let u := s.smBegin.serveLatch
  let v := u.testsRun 0x7FF 0
  have frame : Frame [.regs] u v := State.testsRun_frame ..
  have tests : RegsKept [SM_SELFTEST.addr []] u v := testsRun_kept _ _ _
  have sm : v.sm = u.sm := frame.1 .sm (by decide)
  have fuses : v.fuses = u.fuses := frame.1 .fuses (by decide)
  obtain ⟨hfailed, hpassed⟩ := testsRun_passed htok
  obtain ⟨served, state, drbg, latch', event'⟩ := smServe_spec (frame.tok htok)
  refine ⟨(((RegsKept.refl startRegs s).then kept (by decide)).then tests (by decide)).then served (by decide), ?_, drbg, ?_, ?_, ?_, ?_⟩
  · refine state.trans ?_
    rw [show v.coFused 0 = s.coFused 0 by rw [State.coFused, fuses, ← State.coFused, fused]]
  · exact latch'.trans (by rw [sm, latch])
  · exact (congrArg (· &&& 0x7FF) (served.getF_eq _ (by decide))).trans hfailed
  · exact (congrArg (· &&& 0x7FF) (served.getF_eq _ (by decide))).trans hpassed
  · exact fun hl => event'.trans ((congrArg (· != 0) (tests.getF_eq _ (by decide))).trans (event hl))

/-- Test `x` fails (R892): the module stops in the error state that the test names. -/
theorem smStart_failed (h : tok 0 s.regs = true) (x : Fin 11) : let t := s.smStart (some x)
    RegsKept startRegs s t ∧ t.smState = (if (x : Nat) = 8 ∨ (x : Nat) = 9 then 4 else 5) ∧
    t.getF SM_STATUS [] SM_STATUS.ERR_CODE = 0x80 + x := by
  obtain ⟨htok, kept, -⟩ := serveLatch_smBegin h
  let v := s.smBegin.serveLatch.testsRun 0x7FF (2 ^ (x : Nat))
  have hv : tok 0 v.regs = true := (State.testsRun_frame ..).tok htok
  have tests : RegsKept startRegs s v := ((RegsKept.refl startRegs s).then kept (by decide)).then (testsRun_kept _ _ _) (by decide)
  have code : (0x80 + (x : Nat)) % 256 = 0x80 + x := by omega
  have he : s.smStart (some x) = if (x : Nat) = 8 ∨ (x : Nat) = 9 then v.softError x else v.hardError (0x80 + x) := rfl
  rw [he]
  dsimp only
  split
  · obtain ⟨state, err, last⟩ := softError_regs (n := x) hv
    exact ⟨tests.then last (by decide), state, err.trans code⟩
  · obtain ⟨state, err, last⟩ := hardError_regs (code := 0x80 + x) hv
    exact ⟨tests.then last (by decide), state, err.trans code⟩

end

/-! ### The wash counts and the release of the dies -/

/-- A unit's wash count is seeded (R820, R821). -/
def State.seedUnit (s : State) (u : Nat) : State :=
  if s.hasDie (unitDie u) then
    (s.setF AON_WASH [u] AON_WASH.WASH (if leNat (s.drbgBytes 2) = 0 then 1 else leNat (s.drbgBytes 2))).useFree 2
  else s

theorem seedWash_eq (s : State) : s.seedWash = (List.range 280).foldl State.seedUnit s := rfl

theorem washAddr_inj {u v : Nat} (h : AON_WASH.addr [u] = AON_WASH.addr [v]) : u = v := by
  simp only [Reg.addr, AON_WASH, dimOff] at h
  omega

theorem seedUnit_kept (s : State) (u : Nat) : RegsKept [AON_WASH.addr [u]] s (s.seedUnit u) :=
  .ite (fun _ => setF_kept _ _ _ _ _) fun _ => .refl _ s

theorem seedUnit_frame (s : State) (u : Nat) : Frame [.regs, .free] s (s.seedUnit u) :=
  .ite (fun _ => ((State.setF_frame ..).mono rfl).trans ((State.useFree_frame ..).mono rfl)) fun _ => .refl _ s

/-- A unit of the package has a wash count other than 0 once it is seeded (R820). -/
theorem wash_seedUnit_ne_zero {s : State} {u : Nat} (h : tok 0 s.regs = true) (hd : s.hasDie (unitDie u) = true) :
    (s.seedUnit u).getF AON_WASH [u] AON_WASH.WASH ≠ 0 := by
  have hlt : leNat (s.drbgBytes 2) < 2 ^ 16 := (leNat_lt _).trans_eq (by rw [State.drbgBytes, List.length_map, List.length_range]; rfl)
  unfold State.seedUnit
  rw [if_pos hd]
  refine (getF_setF_same s AON_WASH [u] _ _ h (by decide)).trans_ne ?_
  rw [Nat.mod_eq_of_lt (by split <;> [decide; exact hlt])]
  split <;> omega

theorem hasDie_congr {as : List Nat} {s t : State} (k : RegsKept as s t) (h : GLB_CAP0.addr [] ∉ as) (d : Nat) : t.hasDie d = s.hasDie d := by
  rw [State.hasDie, State.hasDie, k.reg_eq h, State.bit, State.bit, k.getF_eq _ h]

/-- The wash counts of the units below `n`. -/
def washRegs (n : Nat) : List Nat := (List.range n).map (fun u => AON_WASH.addr [u])

theorem not_mem_washRegs {a n : Nat} (h : a < AON_WASH.off) : a ∉ washRegs n := by
  intro hm
  obtain ⟨u, -, rfl⟩ := List.mem_map.mp hm
  exact absurd h (Nat.not_lt.mpr (Nat.le_add_right _ _))

theorem seedUnits_spec {s : State} (h : tok 0 s.regs = true) (n : Nat) : let t := (List.range n).foldl State.seedUnit s
    tok 0 t.regs = true ∧ RegsKept (washRegs n) s t ∧ ∀ u < n, s.hasDie (unitDie u) = true → t.getF AON_WASH [u] AON_WASH.WASH ≠ 0 := by
  induction n with
  | zero => exact ⟨h, .refl _ s, fun u hu => absurd hu (Nat.not_lt_zero u)⟩
  | succ n ih =>
    simp only [List.range_succ, List.foldl_append, List.foldl_cons, List.foldl_nil, washRegs, List.map_append, List.map_cons, List.map_nil] at ih ⊢
    set t := (List.range n).foldl State.seedUnit s
    obtain ⟨htok, kept, seeded⟩ := ih
    have last := seedUnit_kept t n
    refine ⟨(seedUnit_frame t n).tok htok, (RegsKept.then (.refl _ s) kept (List.subset_append_left ..)).then last (List.subset_append_right ..),
      fun u hu hd => ?_⟩
    by_cases hun : u = n
    · subst hun
      exact wash_seedUnit_ne_zero htok ((hasDie_congr kept (not_mem_washRegs (by decide)) _).trans hd)
    · rw [last.getF_eq _ (by simpa using fun hm => hun (washAddr_inj hm))]
      exact seeded u (by omega) hd

/-- Every unit of the package has a wash count other than 0 (R820, R821). -/
theorem seedWash_spec {s : State} (h : tok 0 s.regs = true) : RegsKept (washRegs 280) s s.seedWash ∧
    ∀ u < 280, s.hasDie (unitDie u) = true → s.seedWash.getF AON_WASH [u] AON_WASH.WASH ≠ 0 := by
  rw [seedWash_eq]
  exact (seedUnits_spec h 280).2

/-- The rails of the Press dies. -/
def railRegs : List Nat := (List.range 8).map (fun d => PWR_RAIL.addr [d])

/-- A Press die's rail comes under control (R964): a new target, and the rail at it. -/
theorem railControl_kept (s : State) {d : Nat} (hd : d ∈ List.range 8) : RegsKept railRegs s
    ((s.newTarget d).setF PWR_RAIL [d] PWR_RAIL.NOW_MV ((s.newTarget d).getF PWR_RAIL [d] PWR_RAIL.TARGET_MV)) := by
  have hm : PWR_RAIL.addr [d] ∈ railRegs := List.mem_map_of_mem (f := fun d => PWR_RAIL.addr [d]) hd
  have target : RegsKept [PWR_RAIL.addr [d]] s (s.newTarget d) := setF_kept s _ _ _ _
  exact (RegsKept.then (.refl _ s) target (by simpa using hm)).setF hm

/-- The registers that the release of the dies sets. -/
def releaseRegs : List Nat := RST_BOOT.addr [] :: railRegs

/-- The dies are released together, and the boot is in stage 5 (R940). -/
theorem releaseDies_spec {s : State} (h : tok 0 s.regs = true) : RegsKept releaseRegs s s.releaseDies ∧ s.releaseDies.bootF RST_BOOT.STAGE = 5 ∧
    s.releaseDies.pwr.asserted = [] := by
  unfold State.releaseDies
  extract_lets dies _ s1
  generalize ht : s1.pressDies.foldl _ s1 = t
  have kept : RegsKept railRegs s1 t :=
    ht ▸ .foldl _ (fun s d hd => railControl_kept s (List.mem_of_mem_filter hd)) s1
  have frame : Frame [.regs, .free] s1 t :=
    ht ▸ .foldl (fun s d k => k.trans (((State.newTarget_frame s d).mono rfl).trans ((State.setF_frame ..).mono rfl))) _ s1 (.refl _ s1)
  refine ⟨((RegsKept.refl releaseRegs s).then kept (List.subset_cons_self ..)).setF List.mem_cons_self,
    bootF_set_same 5 (frame.tok h) (by decide), ?_⟩
  exact congrArg Power.asserted (frame.1 .pwr (by decide))

/-! ### The stage of the tests -/

theorem bootTests_served {s : State} {f : Option Nat} (h0 : s.smState = 0) (hs : (s.smStart f).smState = 2 ∨ (s.smStart f).smState = 3) :
    s.bootTests f = (s.smStart f).seedWash.releaseDies := by
  unfold State.bootTests
  rw [if_pos h0]
  exact if_pos hs

theorem bootTests_stopped {s : State} {f : Option Nat} (h0 : s.smState = 0) (hs : ¬((s.smStart f).smState = 2 ∨ (s.smStart f).smState = 3)) :
    s.bootTests f = (s.smStart f).bootFail 3 := by
  unfold State.bootTests
  rw [if_pos h0]
  exact if_neg hs

end Sys2Proof.Machine
end

section
/-! FW_BOOT_TIMEOUT (R942): the reset of the cores and the other copy of C0's firmware. -/

namespace Sys2Proof.Machine

/-! ### Stage 6: the cores are reset

A target's stack may name any source, so a source that leaves active has no bound. Its state is in the upper half of ICU_SRC; from ICU_PENDING on,
the lower half of every register stays. -/

/-- The lower halves of the registers above ICU_SRC are as before. -/
def LowKept (s t : State) : Prop := tok 0 s.regs = true → tok 0 t.regs = true ∧
  ∀ a, ICU_PENDING.off ≤ a → ∀ i < 16, (tget 0 t.regs a).getLsbD i = (tget 0 s.regs a).getLsbD i

section
variable {s t u : State}

theorem LowKept.refl (s : State) : LowKept s s := fun h => ⟨h, fun _ _ _ _ => rfl⟩

theorem LowKept.trans (h : LowKept s t) (k : LowKept t u) : LowKept s u := fun hs =>
  have ⟨ht, low⟩ := h hs
  have ⟨hu, low'⟩ := k ht
  ⟨hu, fun a ha i hi => (low' a ha i hi).trans (low a ha i hi)⟩

theorem LowKept.of_regs_eq (h : t.regs = s.regs) : LowKept s t := fun hs => ⟨h ▸ hs, fun _ _ _ _ => by rw [h]⟩

theorem LowKept.ite {c : Prop} [Decidable c] (h : c → LowKept s t) (k : ¬c → LowKept s u) : LowKept s (if c then t else u) := by
  split
  · exact h ‹_›
  · exact k ‹_›

theorem LowKept.foldl {α : Type} {f : State → α → State} (hf : ∀ s x, LowKept s (f s x)) (l : List α) (s : State) :
    LowKept s (l.foldl f s) := by
  induction l generalizing s with
  | nil => exact .refl s
  | cons x l ih => exact (hf s x).trans (ih _)

/-- A field in the upper half of a register. -/
theorem LowKept.setF_high (s : State) (r : Reg) (ix : List Nat) {f : Fld} (x : Nat) (hf : 16 ≤ f.lo) : LowKept s (s.setF r ix f x) := by
  refine fun h => ⟨setF_tok s r ix f x h, fun a _ i hi => ?_⟩
  by_cases ha : a = r.addr ix
  · subst ha
    have := fset_testBit (s.reg r ix) f x i (by omega)
    rw [if_neg (by omega), BitVec.testBit_toNat, BitVec.testBit_toNat, State.reg, BitVec.getLsbD_xor] at this
    rw [State.setF, State.setReg, tget_tput_same 0 _ _ h, BitVec.getLsbD_xor, State.reg, this, Bool.xor_assoc, Bool.xor_self, Bool.xor_false]
  · exact congrArg (BitVec.getLsbD · i) (tget_tput_ne 0 _ _ ha)

/-- A register below ICU_PENDING. -/
theorem LowKept.setF_below (s : State) {r : Reg} {ix : List Nat} (f : Fld) (x : Nat) (hr : r.addr ix < ICU_PENDING.off) :
    LowKept s (s.setF r ix f x) := fun h => ⟨setF_tok s r ix f x h, fun a ha i _ => by rw [setF_kept s r ix f x a (by simp; omega)]⟩

theorem LowKept.getF_eq (h : LowKept s t) (hs : tok 0 s.regs = true) {r : Reg} {ix : List Nat} {f : Fld} (hr : ICU_PENDING.off ≤ r.addr ix)
    (hf : f.lo + f.width ≤ 16) : t.getF r ix f = s.getF r ix f := by
  apply Nat.eq_of_testBit_eq
  intro i
  rw [State.getF, State.getF, fget_testBit, fget_testBit]
  by_cases hi : i < f.width
  · rw [BitVec.testBit_toNat, BitVec.testBit_toNat, State.reg, State.reg, BitVec.getLsbD_xor, BitVec.getLsbD_xor,
      (h hs).2 _ hr _ (by omega)]
  · simp only [hi, decide_false, Bool.false_and]

theorem makePending_low {n : Nat} (h : n < 640) : LowKept s (s.makePending n) :=
  (LowKept.setF_high s _ _ _ (by decide)).trans (.setF_below _ _ _ (by simp only [Reg.addr, ICU_SRC, ICU_PENDING, dimOff]; omega))

theorem leaveActive_low (s : State) (n : Nat) : LowKept s (s.leaveActive n) := by
  unfold State.leaveActive
  extract_lets s1 c s2
  have h1 : LowKept s s1 := (LowKept.setF_high s _ _ _ (by decide)).trans (.setF_high _ _ _ _ (by decide))
  have h2 : LowKept s1 s2 := .ite (fun _ => .setF_high _ _ _ _ (by decide)) fun _ => .ite (fun hl => makePending_low ?_) fun _ => .refl s1
  · exact (h1.trans h2).trans (.ite (fun _ => .of_regs_eq rfl) fun _ => .refl s2)
  · simp only [State.levelSource, Bool.and_eq_true, decide_eq_true_eq] at hl
    exact hl.1.1

theorem emptyStack_low (s : State) (n : Nat) : LowKept s (s.emptyStack n) :=
  have h : LowKept s (s.setTarget n {}) := .of_regs_eq rfl
  h.trans (.foldl (fun s e => leaveActive_low s e.1) (s.target n).stack _)

theorem resetCores_low (s : State) : LowKept s s.resetCores := .foldl emptyStack_low (List.range 32) s

theorem leaveActive_targets (s : State) (n : Nat) : (s.leaveActive n).icu.targets = s.icu.targets := by
  unfold State.leaveActive
  extract_lets s1 c s2
  have h1 : Frame [.regs] s s1 := (State.setF_frame ..).trans (State.setF_frame ..)
  have h2 : Frame [.regs] s1 s2 :=
    .ite (fun _ => State.setBit_frame ..) fun _ => .ite (fun _ => State.makePending_frame ..) fun _ => .refl _ s1
  have same : s2.icu.targets = s.icu.targets := congrArg Icu.targets ((h1.trans h2).1 .icu (by decide))
  split
  · exact same
  · exact same

theorem emptyStack_targets (s : State) (t : Nat) : (s.emptyStack t).icu.targets = tput {} s.icu.targets t {} := by
  have leave : ∀ (l : List (Nat × Nat)) (s : State), (l.foldl (fun s e => s.leaveActive e.1) s).icu.targets = s.icu.targets := by
    intro l
    induction l with
    | nil => exact fun _ => rfl
    | cons e l ih => exact fun s => (ih _).trans (leaveActive_targets s e.1)
  exact leave _ _

/-- Every core's stack is empty after the reset (R643). -/
theorem resetCores_stack (h : tok {} s.icu.targets = true) {n : Nat} (hn : n < 32) : (s.resetCores.target n).stack = [] := by
  have fold (m : Nat) : tok {} ((List.range m).foldl State.emptyStack s).icu.targets = true ∧
      ∀ n < m, ((List.range m).foldl State.emptyStack s).target n = {} := by
    induction m with
    | zero => exact ⟨h, fun n hn => absurd hn (Nat.not_lt_zero n)⟩
    | succ m ih =>
      obtain ⟨htok, empty⟩ := ih
      simp only [List.range_succ, List.foldl_append, List.foldl_cons, List.foldl_nil, State.target, emptyStack_targets]
      refine ⟨tok_tput ({} : Target) m {} htok, fun n hn => ?_⟩
      by_cases hm : n = m
      · rw [hm, tget_tput_same ({} : Target) m {} htok]
      · exact (tget_tput_ne ({} : Target) _ _ hm).trans (empty n (by omega))
  exact congrArg Target.stack ((fold 32).2 n hn)

end

/-! ### The other copy of C0's firmware -/

/-- The firmware did not come up: the cores are reset and the failure recorded (R942). -/
def State.fwFailed (s : State) : State := s.resetCores.bootFail 5

/-- The cores are held in reset. -/
def State.heldCores (s : State) : State := { s with fw := { s.fw with coresHeld := true, running := [] } }

/-- The other copy is entered, which steps the firmware's wash count. -/
def State.otherCopy (s : State) (r : Nat) (img : List Byte) : State :=
  let s := (s.setFirmware img).stepWash 267
  ({ s with fw := { s.fw with region := r } }).setF RST_BOOT [] RST_BOOT.COPY_FW 1

section
variable {s : State}

theorem exec_timeout_early (h : ¬(s.bootF RST_BOOT.STAGE = 6 ∧ s.fw.coresHeld = false ∧ s.bit CMD_IF_STATUS [] CMD_IF_STATUS.FW_READY = false)) :
    exec .fwBootTimeout s = .next s := by
  have hc : s.getF RST_BOOT [] RST_BOOT.STAGE ≠ 6 ∨ s.fw.coresHeld = true ∨ s.bit CMD_IF_STATUS [] CMD_IF_STATUS.FW_READY = true := by
    by_contra hn
    simp only [not_or, ne_eq, not_not, Bool.not_eq_true] at hn
    exact h hn
  exact congrArg Host.Outcome.next (if_pos hc)

theorem fwFailed_frame (s : State) : Frame [.regs, .icu] s s.fwFailed :=
  (State.resetCores_frame s).trans ((State.bootFail_frame ..).mono rfl)

/-- What the reset of the cores leaves of RST_BOOT and of the wash count. -/
theorem fwFailed_spec (h : tok 0 s.regs = true) :
    s.fwFailed.bootF RST_BOOT.FAIL = (if s.bootF RST_BOOT.FAIL = 0 then 5 else s.bootF RST_BOOT.FAIL) ∧
    s.fwFailed.bootF RST_BOOT.COPY_FW = s.bootF RST_BOOT.COPY_FW ∧ s.fwFailed.wash 267 = s.wash 267 := by
  have low : LowKept s s.resetCores := resetCores_low s
  have htok : tok 0 s.resetCores.regs = true := (low h).1
  have boot {f : Fld} (hf : f.lo + f.width ≤ 16) : s.resetCores.bootF f = s.bootF f := low.getF_eq h (by decide) hf
  refine ⟨(bootF_bootFail htok (by decide)).trans (by rw [boot (by decide)]),
    (bootF_bootFail_field htok (by decide)).trans (boot (by decide)), ?_⟩
  have fail : RegsKept [RST_BOOT.addr []] s.resetCores s.fwFailed := bootFail_kept _ _
  exact (fail.getF_eq (r := AON_WASH) (ix := [267]) _ (by decide)).trans (low.getF_eq h (by decide) (by decide))

/-- The ROM verifies the same flash after the reset of the cores. -/
theorem bootImage_fwFailed (kind r : Nat) : s.fwFailed.bootImage kind r = s.bootImage kind r :=
  bootImage_congr ((fwFailed_frame s).1 .flash (by decide)) ((fwFailed_frame s).1 .fuses (by decide)) kind r

section
variable (hd : s.bootF RST_BOOT.STAGE = 6 ∧ s.fw.coresHeld = false ∧ s.bit CMD_IF_STATUS [] CMD_IF_STATUS.FW_READY = false)
include hd

theorem timeout_due :
    ¬(s.getF RST_BOOT [] RST_BOOT.STAGE ≠ 6 ∨ s.fw.coresHeld = true ∨ s.bit CMD_IF_STATUS [] CMD_IF_STATUS.FW_READY = true) := by
  obtain ⟨hs, hc, hr⟩ := hd
  rintro (h | h | h)
  · exact h hs
  · rw [hc] at h; cases h
  · rw [hr] at h; cases h

theorem exec_timeout_other {img : List Byte} (h : tok 0 s.regs = true) (h0 : s.bootF RST_BOOT.COPY_FW = 0)
    (hi : s.bootImage 2 (1 - s.fw.region) = (img, none)) :
    exec .fwBootTimeout s = .next (s.fwFailed.otherCopy (1 - s.fw.region) img) := by
  have hcopy : s.fwFailed.bit RST_BOOT [] RST_BOOT.COPY_FW = false := congrArg (· != 0) ((fwFailed_spec h).2.1.trans h0)
  show execFwBootTimeout s = _
  unfold execFwBootTimeout
  rw [if_neg (timeout_due hd)]
  extract_lets r f held
  rw [if_neg (show ¬f.bit RST_BOOT [] RST_BOOT.COPY_FW = true from fun hb => Bool.noConfusion (hcopy.symm.trans hb)),
    show f.bootImage 2 r = _ from (bootImage_fwFailed 2 _).trans hi]
  rfl

theorem exec_timeout_held (h : tok 0 s.regs = true)
    (hh : s.bootF RST_BOOT.COPY_FW = 1 ∨ ∃ x r, s.bootImage 2 (1 - s.fw.region) = (x, some r)) :
    exec .fwBootTimeout s = .next s.fwFailed.heldCores := by
  show execFwBootTimeout s = _
  unfold execFwBootTimeout
  rw [if_neg (timeout_due hd)]
  extract_lets r f held
  by_cases hb : f.bit RST_BOOT [] RST_BOOT.COPY_FW = true
  · rw [if_pos hb]
    rfl
  · rw [if_neg hb]
    obtain h1 | ⟨x, k, hx⟩ := hh
    · exact absurd (congrArg (· != 0) ((fwFailed_spec h).2.1.trans h1)) hb
    · rw [show f.bootImage 2 r = _ from (bootImage_fwFailed 2 _).trans hx]
      rfl

end

theorem washNext_lt {n : Nat} (h : n < 65536) : washNext n < 65536 := by
  unfold washNext
  split <;> omega

/-- The wash count of C0's firmware steps (R821). -/
theorem wash_stepWash (h : tok 0 s.regs = true) : (s.stepWash 267).wash 267 = washNext (s.wash 267) := by
  have hlt : s.wash 267 < 65536 := Nat.mod_lt _ (by decide)
  have step : s.stepWash 267 = s.setF AON_WASH [267] AON_WASH.WASH (washNext (s.wash 267)) := if_pos (by decide)
  rw [step]
  exact (getF_setF_same s AON_WASH [267] _ _ h (by decide)).trans (Nat.mod_eq_of_lt (washNext_lt hlt))

theorem stepWash_kept (s : State) : RegsKept [AON_WASH.addr [267]] s (s.stepWash 267) := .ite (fun _ => setF_kept _ _ _ _ _) fun _ => .refl _ s

/-- What entering the other copy leaves. -/
theorem otherCopy_spec {r : Nat} {img : List Byte} (h : tok 0 s.regs = true) : (s.otherCopy r img).fw = { s.fw with region := r, running := img } ∧
    (s.otherCopy r img).bootF RST_BOOT.COPY_FW = 1 ∧ (s.otherCopy r img).bootF RST_BOOT.FAIL = s.bootF RST_BOOT.FAIL ∧
    (s.otherCopy r img).wash 267 = washNext (s.wash 267) ∧ (s.otherCopy r img).icu = s.icu := by
  obtain ⟨hfw, hkept, -, -⟩ := setFirmware_spec img h
  let u := s.setFirmware img
  let v := u.stepWash 267
  let w : State := { v with fw := { v.fw with region := r } }
  have hu : tok 0 u.regs = true := (State.setFirmware_frame s img).tok h
  have hv : tok 0 v.regs = true := (State.stepWash_frame u 267).tok hu
  have hw : tok 0 w.regs = true := hv
  have wash : RegsKept [AON_WASH.addr [267]] u v := stepWash_kept u
  have copy : RegsKept [RST_BOOT.addr []] w (s.otherCopy r img) := setF_kept w _ _ _ _
  have fw : v.fw = { s.fw with running := img } := ((State.stepWash_frame u 267).1 .fw (by decide)).trans hfw
  have icu : v.icu = s.icu := ((State.stepWash_frame u 267).1 .icu (by decide)).trans ((State.setFirmware_frame s img).1 .icu (by decide))
  refine ⟨congrArg (fun f : Firmware => { f with region := r }) fw, bootF_set_same 1 hw (by decide), ?_, ?_, icu⟩
  · exact (bootF_set_field 1 hw (by decide)).trans ((wash.bootF_eq _ (by decide)).trans (hkept.bootF_eq _ (by decide)))
  · have before : u.wash 267 = s.wash 267 := hkept.getF_eq (r := AON_WASH) (ix := [267]) _ (by decide)
    exact (copy.getF_eq (r := AON_WASH) (ix := [267]) _ (by decide)).trans ((wash_stepWash hu).trans (congrArg washNext before))

end

end Sys2Proof.Machine
end

section
/-! The stages of COLD_RESET_RELEASE assembled (R939 to R951). -/

namespace Sys2Proof.Machine

/-! ### What each stage of the boot leaves -/

section
variable {s : State}

theorem flashFailed_frame (s : State) : Frame [.regs, .front] s s.flashFailed :=
  Frame.set_front _ (by decide) (((State.bootFail_frame s 1).mono rfl).trans ((State.setF_frame ..).mono rfl))

/-- The flash does not answer: the failure, and the default board record (R944). -/
theorem flashFailed_spec (h : tok 0 s.regs = true) : RegsKept [RST_BOOT.addr []] s s.flashFailed ∧
    s.flashFailed.bootF RST_BOOT.FAIL = (if s.bootF RST_BOOT.FAIL = 0 then 1 else s.bootF RST_BOOT.FAIL) ∧
    s.flashFailed.front.ssvid = 0x52E7 ∧ s.flashFailed.front.ssid = s.deviceId := by
  let u := s.bootFail 1
  have hu : tok 0 u.regs = true := (State.bootFail_frame s 1).tok h
  have kept : RegsKept [RST_BOOT.addr []] s s.flashFailed := (bootFail_kept s 1).trans (setF_kept u _ _ _ _)
  refine ⟨kept, (bootF_set_field 0 hu (by decide)).trans (bootF_bootFail h (by decide)), rfl, ?_⟩
  exact deviceId_eq (s := s) ((bootFail_kept s 1).trans (setF_kept u RST_BOOT [] RST_BOOT.DIR_BAD 0)) (by decide)

/-- The registers that follow the global block in stage 2. -/
def romRegs : List Nat := dieClockRegs ++ dirRegs

/-- What the directory's stage makes of the state whose fuses are loaded. -/
def State.boardLoaded (s : State) (ok : Bool) : State := if ok then s.loadFuses.applyDir else s.loadFuses.flashFailed

theorem loadFuses_tok (h : tok 0 s.regs = true) : tok 0 s.loadFuses.regs = true := (State.loadFuses_frame s).tok h

theorem boardLoaded_false (s : State) : s.boardLoaded false = s.loadFuses.flashFailed := if_neg Bool.false_ne_true

theorem boardLoaded_true (s : State) : s.boardLoaded true = s.loadFuses.applyDir := if_pos rfl

theorem boardLoaded_tok (h : tok 0 s.regs = true) (ok : Bool) : tok 0 (s.boardLoaded ok).regs = true := by
  cases ok with
  | false => exact boardLoaded_false s ▸ (flashFailed_frame _).tok (loadFuses_tok h)
  | true => exact boardLoaded_true s ▸ (State.applyDir_frame _).tok (loadFuses_tok h)

theorem boardLoaded_kept (h : tok 0 s.regs = true) (ok : Bool) : RegsKept dirRegs s.loadFuses (s.boardLoaded ok) := by
  cases ok with
  | false =>
    rw [boardLoaded_false]
    exact RegsKept.then (.refl _ _) (flashFailed_spec (loadFuses_tok h)).1 (by decide)
  | true =>
    rw [boardLoaded_true]
    cases hd : s.loadFuses.bootDir with
    | none => exact (applyDir_none (loadFuses_tok h) hd).1
    | some x => exact (applyDir_some (loadFuses_tok h) hd).1

theorem bootF_loadFuses (s : State) (f : Fld) : s.loadFuses.bootF f = s.bootF f :=
  ((loadFuses_kept s).bootF_eq f (by decide)).trans ((loadGlobal_kept s).bootF_eq f (by decide))

end

section
variable {s : State} {ok : Bool} {ms : BitVec 16}

theorem bootDir_loadFuses (s : State) : s.loadFuses.bootDir = s.bootDir := bootDir_congr ((State.loadFuses_frame s).1 .flash (by decide))

/-- Stage 2 (R940): what it makes of the state with its fuses and its board record. -/
theorem bootRom_board (h : tok 0 s.regs = true) (ok : Bool) (ms : BitVec 16) : let t := (s.bootRom ok).timed ms
    RegsKept [RST_BOOT.addr []] (s.boardLoaded ok) t ∧ t.bootF RST_BOOT.STAGE = 3 ∧ t.bootF RST_BOOT.ELAPSED_MS = ms.toNat ∧
    (∀ g : Fld, g.lo + g.width ≤ 16 → 4 ≤ g.lo → t.bootF g = (s.boardLoaded ok).bootF g) ∧
    t.front = { (s.boardLoaded ok).front with linkMayTrain := true } := bootRom_timed ms (boardLoaded_tok h ok) rfl

/-- The fuses' registers after stage 2 (R49, R50). -/
theorem bootRom_global (h : tok 0 s.regs = true) (ok : Bool) (ms : BitVec 16) : let t := (s.bootRom ok).timed ms
    t.getF GLB_ID [] GLB_ID.STEPPING = s.fuses.stepping % 2 ^ GLB_ID.STEPPING.width ∧
    t.getF GLB_ID [] GLB_ID.VARIANT = s.fuses.variant % 2 ^ GLB_ID.VARIANT.width ∧
    t.getF GLB_ID [] GLB_ID.GRADE = s.fuses.grade % 2 ^ GLB_ID.GRADE.width ∧
    (t.reg GLB_SERIAL []).toNat = s.fuses.serial % 2 ^ 64 ∧ (t.reg GLB_CAP0 []).toNat = cap0Of s.fuses.variant := by
  intro t
  have kept : RegsKept romRegs s.loadGlobal t := ((RegsKept.then (.refl _ _) (loadFuses_kept s) (List.subset_append_left ..)).then
    (boardLoaded_kept h ok) (List.subset_append_right ..)).then (bootRom_board h ok ms).1 (by decide)
  have id {f : Fld} : t.getF GLB_ID [] f = s.loadGlobal.getF GLB_ID [] f := kept.getF_eq f (by decide)
  rw [id, id, id, kept.reg_eq (by decide), kept.reg_eq (by decide)]
  exact loadGlobal_regs h

/-- Stage 2 without the flash (R944). -/
theorem bootRom_noFlash (h : tok 0 s.regs = true) (ms : BitVec 16) : let t := (s.bootRom false).timed ms
    t.bootF RST_BOOT.FAIL = (if s.bootF RST_BOOT.FAIL = 0 then 1 else s.bootF RST_BOOT.FAIL) ∧ t.front.ssvid = 0x52E7 ∧
    t.front.ssid = t.deviceId := by
  intro t
  obtain ⟨kept, -, -, boot, front⟩ := bootRom_board h false ms
  obtain ⟨failedKept, fail, ssvid, ssid⟩ := flashFailed_spec (loadFuses_tok h)
  rw [boardLoaded_false] at kept boot front
  have id : t.deviceId = s.loadFuses.deviceId := deviceId_eq (failedKept.trans kept) (by decide)
  refine ⟨(boot _ (by decide) (by decide)).trans (fail.trans ?_), (congrArg Front.ssvid front).trans ssvid,
    (congrArg Front.ssid front).trans (ssid.trans id.symm)⟩
  rw [bootF_loadFuses]

/-- Stage 2 with a valid copy of the boot directory (R948, R950). -/
theorem bootRom_dir (h : tok 0 s.regs = true) (ms : BitVec 16) {x : Nat × List Byte} (hd : s.bootDir = some x) :
    let t := (s.bootRom true).timed ms
    t.bootF RST_BOOT.FAIL = s.bootF RST_BOOT.FAIL ∧ t.bootF RST_BOOT.DIR_COPY = x.1 ∧ t.front.ssvid = leAt x.2 0x10 2 ∧
    t.front.ssid = leAt x.2 0x12 2 := by
  intro t
  obtain ⟨-, -, -, boot, front⟩ := bootRom_board h true ms
  obtain ⟨-, fail, copy, record⟩ := applyDir_some (loadFuses_tok h) ((bootDir_loadFuses s).trans hd)
  rw [boardLoaded_true] at boot front
  rw [record] at front
  refine ⟨(boot _ (by decide) (by decide)).trans (fail.trans (bootF_loadFuses s _)), (boot _ (by decide) (by decide)).trans copy, ?_, ?_⟩
  · exact congrArg Front.ssvid front
  · exact congrArg Front.ssid front

/-- Stage 2 with no valid copy of the boot directory (R948, R950). -/
theorem bootRom_noDir (h : tok 0 s.regs = true) (ms : BitVec 16) (hd : s.bootDir = none) : let t := (s.bootRom true).timed ms
    t.bootF RST_BOOT.FAIL = s.bootF RST_BOOT.FAIL ∧ t.bootF RST_BOOT.DIR_BAD = 1 ∧ t.front.ssvid = 0x52E7 ∧ t.front.ssid = t.deviceId := by
  intro t
  obtain ⟨kept, -, -, boot, front⟩ := bootRom_board h true ms
  obtain ⟨dirKept, fail, bad, record⟩ := applyDir_none (loadFuses_tok h) ((bootDir_loadFuses s).trans hd)
  rw [boardLoaded_true] at kept boot front
  rw [record] at front
  have id : t.deviceId = s.loadFuses.deviceId := deviceId_eq (dirKept.then kept (by decide)) (by decide)
  refine ⟨(boot _ (by decide) (by decide)).trans (fail.trans (bootF_loadFuses s _)), (boot _ (by decide) (by decide)).trans bad, ?_, ?_⟩
  · exact congrArg Front.ssvid front
  · exact (congrArg Front.ssid front).trans id.symm

end

section
variable {s : State}

/-- Stage 3 ends: the module's firmware is entered from flash region `r`. -/
theorem enterSm_timed (h : tok 0 s.regs = true) (r : Nat) (img : List Byte) (ms : BitVec 16) : let t := (s.enterSm r img).timed ms
    t.bootF RST_BOOT.STAGE = 4 ∧ t.bootF RST_BOOT.FAIL = s.bootF RST_BOOT.FAIL ∧ t.bootF RST_BOOT.COPY_SM = s.bootF RST_BOOT.COPY_SM ∧
    Frame [.regs, .sm, .fw] s t := by
  have htok : tok 0 (s.enterSm r img).regs = true := (enterSm_frame s r img).tok h
  refine ⟨(bootF_timed htok (by decide)).trans (enterSm_stage h), (bootF_timed htok (by decide)).trans (enterSm_bootF h (by decide)),
    (bootF_timed htok (by decide)).trans (enterSm_bootF h (by decide)), (enterSm_frame s r img).trans ((timed_frame _ ms).mono rfl)⟩

/-- Stage 3 ends with the other copy. -/
theorem enterSm_second_timed (h : tok 0 s.regs = true) (r : Nat) (img : List Byte) (ms : BitVec 16) :
    let t := ((s.enterSm r img).setF RST_BOOT [] RST_BOOT.COPY_SM 1).timed ms
    t.bootF RST_BOOT.STAGE = 4 ∧ t.bootF RST_BOOT.FAIL = s.bootF RST_BOOT.FAIL ∧ t.bootF RST_BOOT.COPY_SM = 1 ∧
    Frame [.regs, .sm, .fw] s t := by
  have htok : tok 0 (s.enterSm r img).regs = true := (enterSm_frame s r img).tok h
  have hcopy : tok 0 ((s.enterSm r img).setF RST_BOOT [] RST_BOOT.COPY_SM 1).regs = true := setF_tok _ _ _ _ _ htok
  refine ⟨?_, ?_, (bootF_timed hcopy (by decide)).trans (bootF_set_same 1 htok (by decide)),
    (enterSm_frame s r img).trans (((State.setF_frame ..).mono rfl).trans ((timed_frame _ ms).mono rfl))⟩
  · exact (bootF_timed hcopy (by decide)).trans ((bootF_set_field 1 htok (by decide)).trans (enterSm_stage h))
  · exact (bootF_timed hcopy (by decide)).trans ((bootF_set_field 1 htok (by decide)).trans (enterSm_bootF h (by decide)))

/-- Stage 3 fails: the module stops with the reason as its error code (R866, R892). -/
theorem hardError_timed (h : tok 0 s.regs = true) {reason : Nat} (hr : reason < 8) (ms : BitVec 16) : let t := (s.hardError reason).timed ms
    (∀ f : Fld, f.lo + f.width ≤ 16 → t.bootF f = s.bootF f) ∧ t.smState = 5 ∧ t.getF SM_STATUS [] SM_STATUS.ERR_CODE = reason ∧
    Frame [.regs, .eth, .arb, .sm] s t := by
  obtain ⟨state, code, kept⟩ := hardError_regs (code := reason) h
  have frame := State.hardError_frame s reason
  have time := timed_kept (s.hardError reason) ms
  refine ⟨fun f hf => (bootF_timed (frame.tok h) ⟨by omega, .inl hf⟩).trans (kept.bootF_eq f (by decide)), ?_, ?_,
    (frame.mono rfl).trans ((timed_frame _ ms).mono rfl)⟩
  · exact (time.getF_eq _ (by decide)).trans state
  · exact (time.getF_eq _ (by decide)).trans (code.trans (Nat.mod_eq_of_lt (by omega)))

/-! ### Stage 4 -/

theorem washAddr_not_mem_releaseRegs (u : Nat) : AON_WASH.addr [u] ∉ releaseRegs := fun hm =>
  have below : ∀ a ∈ releaseRegs, a < AON_WASH.off := by decide
  absurd (below _ hm) (Nat.not_lt.mpr (Nat.le_add_right _ _))

/-- The wash counts are seeded and the dies released; every other register stays (R820, R940). -/
theorem released_spec (h : tok 0 s.regs = true) (ms : BitVec 16) : let t := s.seedWash.releaseDies.timed ms
    t.bootF RST_BOOT.STAGE = 5 ∧ t.sm = s.sm ∧ t.pwr.asserted = [] ∧
    (∀ u, u < 280 → s.hasDie (unitDie u) = true → t.wash u ≠ 0) ∧
    ∀ (r : Reg) (ix : List Nat) (f : Fld), r.addr ix < AON_WASH.off → r.addr ix ∉ releaseRegs → t.getF r ix f = s.getF r ix f := by
  obtain ⟨washKept, seeded⟩ := seedWash_spec h
  have hw : tok 0 s.seedWash.regs = true := (State.seedWash_frame s).tok h
  obtain ⟨diesKept, stage, asserted⟩ := releaseDies_spec hw
  have hd : tok 0 s.seedWash.releaseDies.regs = true := (State.releaseDies_frame _).tok hw
  have time : RegsKept releaseRegs s.seedWash.releaseDies (s.seedWash.releaseDies.timed ms) :=
    RegsKept.then (.refl _ _) (timed_kept _ ms) (by decide)
  have kept := diesKept.trans time
  refine ⟨(bootF_timed hd (by decide)).trans stage, ?_, asserted, fun u hu hdie => ?_, fun r ix f hb hr => ?_⟩
  · exact ((State.releaseDies_frame _).1 .sm (by decide)).trans ((State.seedWash_frame s).1 .sm (by decide))
  · rw [State.wash, if_pos hu, kept.getF_eq _ (washAddr_not_mem_releaseRegs u)]
    exact seeded u hu hdie
  · rw [kept.getF_eq _ hr, washKept.getF_eq _ (not_mem_washRegs hb)]

/-- Every test has passed: the module serves and the dies are released (R892, R940). -/
theorem bootTests_passed (h : tok 0 s.regs = true) (h0 : s.smState = 0) (ms : BitVec 16) : let t := (s.bootTests none).timed ms
    t.bootF RST_BOOT.STAGE = 5 ∧ t.smState = (if s.coFused 0 then 3 else 2) ∧ t.sm.drbg = true ∧ t.sm.zeroLatch = false ∧
    t.pwr.asserted = [] ∧ t.getF SM_SELFTEST [] SM_SELFTEST.FAILED &&& 0x7FF = 0 ∧ t.getF SM_SELFTEST [] SM_SELFTEST.PASSED &&& 0x7FF = 0x7FF ∧
    (∀ u, u < 280 → s.hasDie (unitDie u) = true → t.wash u ≠ 0) ∧
    (s.sm.zeroLatch = true → t.bit SM_EVENT [] SM_EVENT.ZEROIZED = true) := by
  obtain ⟨started, state, drbg, latch, hfailed, hpassed, event⟩ := smStart_passed h
  have serves : (s.smStart none).smState = 2 ∨ (s.smStart none).smState = 3 := by
    rw [state]
    split
    · exact .inr rfl
    · exact .inl rfl
  rw [bootTests_served h0 serves]
  obtain ⟨stage, sm, asserted, wash, kept⟩ := released_spec ((State.smStart_frame s none).tok h) ms
  refine ⟨stage, (kept SM_STATUS [] _ (by decide) (by decide)).trans state, (congrArg Sm.drbg sm).trans drbg,
    (congrArg Sm.zeroLatch sm).trans latch, asserted, ?_, ?_, fun u hu hdie => ?_, fun hl => ?_⟩
  · rw [kept _ _ _ (by decide) (by decide), hfailed]
  · rw [kept _ _ _ (by decide) (by decide), hpassed]
  · exact wash u hu ((hasDie_congr started (by decide) _).trans hdie)
  · rw [State.bit, kept _ _ _ (by decide) (by decide)]
    exact event hl

/-- Test `x` has failed: the module is in its error state and the boot stays in stage 4 (R892, R940). -/
theorem bootTests_failed (h : tok 0 s.regs = true) (h0 : s.smState = 0) (x : Fin 11) (ms : BitVec 16) :
    let t := (s.bootTests (some x)).timed ms
    t.bootF RST_BOOT.STAGE = s.bootF RST_BOOT.STAGE ∧ t.bootF RST_BOOT.FAIL = (if s.bootF RST_BOOT.FAIL = 0 then 3 else s.bootF RST_BOOT.FAIL) ∧
    t.smState = (if (x : Nat) = 8 ∨ (x : Nat) = 9 then 4 else 5) ∧ t.getF SM_STATUS [] SM_STATUS.ERR_CODE = 0x80 + x ∧
    Frame [.regs, .eth, .arb, .sm, .fuses, .free] s t := by
  obtain ⟨started, state, code⟩ := smStart_failed h x
  have stopped : ¬((s.smStart (some x)).smState = 2 ∨ (s.smStart (some x)).smState = 3) := by
    rw [state]
    split <;> decide
  rw [bootTests_stopped h0 stopped]
  let u := s.smStart (some x)
  have frame : Frame [.regs, .eth, .arb, .sm, .fuses, .free] s u := State.smStart_frame s _
  have hu : tok 0 u.regs = true := frame.tok h
  have hfail : tok 0 (u.bootFail 3).regs = true := (State.bootFail_frame u 3).tok hu
  have last : RegsKept [RST_BOOT.addr []] u ((u.bootFail 3).timed ms) := (bootFail_kept u 3).trans (timed_kept _ ms)
  have boot (f : Fld) : u.bootF f = s.bootF f := started.bootF_eq f (by decide)
  refine ⟨?_, ?_, (last.getF_eq _ (by decide)).trans state, (last.getF_eq _ (by decide)).trans code,
    frame.trans (((State.bootFail_frame u 3).mono rfl).trans ((timed_frame _ ms).mono rfl))⟩
  · exact (bootF_timed hfail (by decide)).trans ((bootF_bootFail_field hu (by decide)).trans (boot _))
  · exact (bootF_timed hfail (by decide)).trans ((bootF_bootFail hu (by decide)).trans (by rw [boot]))

/-! ### Stage 5 -/

/-- Stage 5 ends: C0's firmware is entered from flash region `r` (R867, R941). -/
theorem enterFw_timed (h : tok 0 s.regs = true) (r : Nat) (img : List Byte) (ms : BitVec 16) : let t := (s.enterFw r img).timed ms
    (t.bootF RST_BOOT.STAGE = 6 ∧ t.fw = { s.fw with region := r, coresHeld := false, running := img } ∧
      t.getF AON_FW [] AON_FW.VERSION = leAt img 8 4 ∧ t.getF AON_FW [] AON_FW.NFW_CLASS = leAt img 0x0C 1 ∧
      Frame [.regs, .arb, .sm, .fw] s t) ∧
    t.bootF RST_BOOT.COPY_FW = s.bootF RST_BOOT.COPY_FW := by
  obtain ⟨fw, stage, copy, version, cls, frame⟩ := enterFw_spec r img h
  have time := timed_kept (s.enterFw r img) ms
  have htok : tok 0 (s.enterFw r img).regs = true := frame.tok h
  exact ⟨⟨(bootF_timed htok (by decide)).trans stage, fw, (time.getF_eq _ (by decide)).trans version, (time.getF_eq _ (by decide)).trans cls,
    frame.trans ((timed_frame _ ms).mono rfl)⟩, (bootF_timed htok (by decide)).trans copy⟩

/-- Stage 5 ends with the other copy. -/
theorem enterFw_second_timed (h : tok 0 s.regs = true) (r : Nat) (img : List Byte) (ms : BitVec 16) :
    let t := ((s.enterFw r img).setF RST_BOOT [] RST_BOOT.COPY_FW 1).timed ms
    (t.bootF RST_BOOT.STAGE = 6 ∧ t.fw = { s.fw with region := r, coresHeld := false, running := img } ∧
      t.getF AON_FW [] AON_FW.VERSION = leAt img 8 4 ∧ t.getF AON_FW [] AON_FW.NFW_CLASS = leAt img 0x0C 1 ∧
      Frame [.regs, .arb, .sm, .fw] s t) ∧
    t.bootF RST_BOOT.COPY_FW = 1 := by
  obtain ⟨fw, stage, -, version, cls, frame⟩ := enterFw_spec r img h
  let u := s.enterFw r img
  let v := u.setF RST_BOOT [] RST_BOOT.COPY_FW 1
  have hu : tok 0 u.regs = true := frame.tok h
  have hv : tok 0 v.regs = true := setF_tok u _ _ _ _ hu
  have last : RegsKept [RST_BOOT.addr []] u (v.timed ms) := (setF_kept u _ _ _ _).trans (timed_kept v ms)
  exact ⟨⟨(bootF_timed hv (by decide)).trans ((bootF_set_field 1 hu (by decide)).trans stage), fw, (last.getF_eq _ (by decide)).trans version,
    (last.getF_eq _ (by decide)).trans cls, frame.trans (((State.setF_frame u ..).mono rfl).trans ((timed_frame v ms).mono rfl))⟩,
    (bootF_timed hv (by decide)).trans (bootF_set_same 1 hu (by decide))⟩

/-- Stage 5 finds no copy that passes (R941). -/
theorem bootFw_failed_timed (h : tok 0 s.regs = true) (ms : BitVec 16) : let t := ((s.bootFail 4).bootStage 6).timed ms
    t.bootF RST_BOOT.STAGE = 6 ∧ t.bootF RST_BOOT.FAIL = (if s.bootF RST_BOOT.FAIL = 0 then 4 else s.bootF RST_BOOT.FAIL) ∧
    Frame [.regs] s t := by
  let u := s.bootFail 4
  have hu : tok 0 u.regs = true := (State.bootFail_frame s 4).tok h
  have hv : tok 0 (u.bootStage 6).regs = true := setF_tok u _ _ _ _ hu
  refine ⟨(bootF_timed hv (by decide)).trans (bootF_set_same 6 hu (by decide)), ?_,
    (State.bootFail_frame s 4).trans ((State.bootStage_frame u 6).trans (timed_frame _ ms))⟩
  exact (bootF_timed hv (by decide)).trans ((bootF_set_field 6 hu (by decide)).trans (bootF_bootFail h (by decide)))

end

theorem State.BootAt.tok {s : State} {n : Nat} (h : s.BootAt n) : Sys2Proof.Machine.tok 0 s.regs = true := by
  obtain ⟨⟨-, htok⟩, -⟩ := h
  exact htok

theorem State.BootAt.stage {s : State} {n : Nat} (h : s.BootAt n) : s.bootF RST_BOOT.STAGE = n := by
  obtain ⟨-, -, -, -, stage⟩ := h
  exact stage

/-! ### FW_BOOT_TIMEOUT -/

/-- The other copy is tried once and when it passes (R942). -/
theorem other_or_held (s : State) : (s.bootF RST_BOOT.COPY_FW = 1 ∨ ∃ x r, s.bootImage 2 (1 - s.fw.region) = (x, some r)) ∨
    (s.bootF RST_BOOT.COPY_FW = 0 ∧ ∃ img, s.bootImage 2 (1 - s.fw.region) = (img, none)) := by
  have hcopy : s.bootF RST_BOOT.COPY_FW < 2 := Nat.mod_lt _ (by decide)
  obtain ⟨img, reason⟩ := s.bootImage 2 (1 - s.fw.region)
  cases reason with
  | some r => exact .inl (.inr ⟨img, r, rfl⟩)
  | none =>
    by_cases h1 : s.bootF RST_BOOT.COPY_FW = 1
    · exact .inl (.inl h1)
    · exact .inr ⟨by omega, img, rfl⟩

/-- Every core's stack is empty (R643). -/
theorem fwFailed_stack {s : State} (h : tok {} s.icu.targets = true) {n : Nat} (hn : n < 32) :
    (s.fwFailed.target n).stack = [] := by
  have icu : s.fwFailed.icu = s.resetCores.icu := (State.bootFail_frame s.resetCores 5).1 .icu (by decide)
  rw [State.target, icu, ← State.target]
  exact resetCores_stack h hn

/-- Settles O52: each stage by what it leaves, and FW_BOOT_TIMEOUT by what the reset of the cores leaves. -/
theorem bootStages : Obligations.BootStages := by
  unfold Obligations.BootStages
  refine ⟨?cold, ?rom, ?module, ?tests, ?firmware, ?timeout⟩
  case cold =>
    intro heat ok f ms s hwf hcold may
    have next : exec (.coldResetRelease heat ok f ms) s = _ := exec_release_cold hcold
    refine ⟨fun hm => ?_, fun hm => ?_⟩
    · rw [next, if_neg fun h => hm ((mayRelease_iff s _).mp h)]
    · rw [if_pos ((mayRelease_iff s _).mpr hm)] at next
      obtain ⟨stage, elapsed, locked, held⟩ := bootStart_timed_regs hwf.2 ms
      exact ⟨_, next, rfl, stage, elapsed, locked, held, rfl, rfl, (State.bootStart_frame s).trans ((timed_frame _ ms).mono rfl)⟩
  case rom =>
    intro heat ok f ms s hs
    have htok : tok 0 s.regs = true := hs.tok
    have next : exec (.coldResetRelease heat ok f ms) s = .next ((s.bootRom ok).timed ms) := exec_release_stage hs
    obtain ⟨-, stage, elapsed, -, front⟩ := bootRom_board htok ok ms
    obtain ⟨stepping, variant, grade, serial, cap⟩ := bootRom_global htok ok ms
    refine ⟨_, next, stage, elapsed, stepping, variant, grade, serial, cap, congrArg Front.linkMayTrain front, ?_, ?_,
      (State.bootRom_frame s ok).trans ((timed_frame _ ms).mono rfl)⟩
    · rintro rfl
      exact bootRom_noFlash htok ms
    · rintro rfl
      cases hd : s.bootDir with
      | some x => exact bootRom_dir htok ms hd
      | none => exact bootRom_noDir htok ms hd
  case module =>
    intro heat ok f ms s hs h0 a entered failed
    have htok : tok 0 s.regs = true := hs.tok
    have next : exec (.coldResetRelease heat ok f ms) s = .next (s.bootSm.timed ms) := by
      rw [exec_release_stage hs, if_neg (by decide), if_pos ⟨rfl, h0⟩]
    have stage : s.bootF RST_BOOT.STAGE = 3 := hs.stage
    refine ⟨fun hf => ?_, fun hf => ⟨fun img hi => ?_, fun x img ra ha hb => ?_, fun x y ra rb ha hb => ?_⟩⟩
    · rw [bootSm_unreadable hf] at next
      obtain ⟨boot, state, code, frame⟩ := hardError_timed htok (reason := 1) (by decide) ms
      exact ⟨_, next, (boot _ (by decide)).trans stage, state, code, (boot _ (by decide)).trans hf, frame⟩
    · rw [bootSm_first hf hi] at next
      obtain ⟨st, fail, copy, frame⟩ := enterSm_timed htok (s.copyA 1) img ms
      exact ⟨_, next, ⟨st, rfl, rfl, fail, frame⟩, copy⟩
    · rw [bootSm_second hf ha hb] at next
      obtain ⟨st, fail, copy, frame⟩ := enterSm_second_timed htok (1 - s.copyA 1) img ms
      exact ⟨_, next, ⟨st, rfl, rfl, fail, frame⟩, copy⟩
    · rw [bootSm_neither hf ha hb] at next
      have frame0 := State.bootFail_frame s 2
      obtain ⟨boot, state, code, frame⟩ := hardError_timed (frame0.tok htok) (bootImage_reason_lt ha) ms
      exact ⟨_, next, (boot _ (by decide)).trans ((bootF_bootFail_field htok (by decide)).trans stage), state, code,
        (boot _ (by decide)).trans (bootF_bootFail htok (by decide)), (frame0.mono rfl).trans frame⟩
  case tests =>
    intro heat ok ms s hs h0
    have htok : tok 0 s.regs = true := hs.tok
    have next (f : Option (Fin 11)) : exec (.coldResetRelease heat ok f ms) s = .next ((s.bootTests (f.map (fun t => (t : Nat)))).timed ms) := by
      rw [exec_release_stage hs, if_neg (by decide), if_neg (by simp), if_pos rfl]
    refine ⟨?_, fun x => ?_⟩
    · obtain ⟨stage, state, drbg, latch, asserted, hfailed, hpassed, wash, event⟩ := bootTests_passed htok h0 ms
      exact ⟨_, next none, stage, state, drbg, latch, asserted, hfailed, hpassed, wash, event,
        (State.bootTests_frame s none).trans ((timed_frame _ ms).mono rfl)⟩
    · obtain ⟨stage, fail, state, code, frame⟩ := bootTests_failed htok h0 x ms
      exact ⟨_, next (some x), stage.trans hs.stage, fail, state, code, frame.1 .pwr (by decide), frame⟩
  case firmware =>
    intro heat ok f ms s hs hst a entered
    have htok : tok 0 s.regs = true := hs.tok
    have next : exec (.coldResetRelease heat ok f ms) s = .next (s.bootFw.timed ms) := by
      rw [exec_release_stage hs, if_neg (by decide), if_neg (by simp), if_neg (by decide), if_pos ⟨rfl, hst⟩]
    refine ⟨fun img hi => ?_, fun x img ra ha hb => ?_, fun x y ra rb ha hb => ?_⟩
    · rw [bootFw_first hi] at next
      exact ⟨_, next, enterFw_timed htok _ img ms⟩
    · rw [bootFw_second ha hb] at next
      exact ⟨_, next, enterFw_second_timed htok _ img ms⟩
    · rw [bootFw_neither ha hb] at next
      exact ⟨_, next, bootFw_failed_timed htok ms⟩
  case timeout =>
    intro s hwf htargets due
    have htok : tok 0 s.regs = true := hwf.2
    refine ⟨fun hd => exec_timeout_early hd, fun hd => ?_⟩
    obtain ⟨t, next, frame⟩ : Completes (exec .fwBootTimeout s) _ := execFwBootTimeout_frame s
    obtain ⟨fail, -, wash⟩ := fwFailed_spec htok
    have failedFrame := fwFailed_frame s
    have fw : s.fwFailed.fw = s.fw := failedFrame.1 .fw (by decide)
    obtain hh | ⟨h0, img, hi⟩ := other_or_held s
    · obtain rfl := Host.Outcome.next.inj (next.symm.trans (exec_timeout_held hd htok hh))
      refine ⟨_, next, fail, fun n hn => fwFailed_stack htargets hn, fun img h0 hi => ?_, fun _ => ⟨?_, wash⟩, frame⟩
      · obtain h1 | ⟨x, r, hx⟩ := hh
        · exact absurd (h0.symm.trans h1) (by decide)
        · cases hx.symm.trans hi
      · exact congrArg (fun f : Firmware => { f with coresHeld := true, running := [] }) fw
    · obtain rfl := Host.Outcome.next.inj (next.symm.trans (exec_timeout_other hd htok h0 hi))
      obtain ⟨fw', copy', fail', wash', icu'⟩ := otherCopy_spec (r := 1 - s.fw.region) (img := img) (failedFrame.tok htok)
      refine ⟨_, next, fail'.trans fail, fun n hn => ?_, fun img' _ hi' => ?_, fun hh => ?_, frame⟩
      · rw [State.target, icu', ← State.target]
        exact fwFailed_stack htargets hn
      · obtain rfl : img = img' := (Prod.mk.inj (hi.symm.trans hi')).1
        exact ⟨fw'.trans (congrArg (fun f : Firmware => { f with region := 1 - s.fw.region, running := img }) fw), copy',
          wash'.trans (congrArg washNext wash)⟩
      · obtain h1 | ⟨x, r, hx⟩ := hh
        · exact absurd (h0.symm.trans h1) (by decide)
        · cases hx.symm.trans hi

end Sys2Proof.Machine
end

section
/-! The end of a bar (R57, R60, R92, R93): the actions due, and the bar that follows when no stop is due. -/

namespace Sys2Proof.Machine

/-! ### Serial order -/

@[simp] theorem serialGe_self (w a : Nat) : serialGe w a a = true := by
  have : (a + 2 ^ w - a % 2 ^ w) % 2 ^ w = 0 := by
    have hlt : a % 2 ^ w < 2 ^ w := Nat.mod_lt _ (Nat.two_pow_pos w)
    have hle : a % 2 ^ w ≤ a := Nat.mod_le _ _
    rw [show a + 2 ^ w - a % 2 ^ w = (a - a % 2 ^ w) + 2 ^ w by omega, Nat.add_mod_right]
    exact Nat.sub_mod_eq_zero_of_mod_eq (Nat.mod_mod a _).symm
  simp [serialGe, serialDiff, sx, this]

/-! ### The same point of Score time -/

/-- Score time is the same but for the requests for a fermata (R111). -/
def SameBar (s t : State) : Prop := { t.tempo with reqBar := none } = { s.tempo with reqBar := none }

theorem SameBar.refl (s : State) : SameBar s s := rfl

theorem SameBar.trans {s t u : State} (h : SameBar s t) (k : SameBar t u) : SameBar s u := Eq.trans k h

theorem SameBar.of_tempo_eq {s t : State} (h : t.tempo = s.tempo) : SameBar s t := by rw [SameBar, h]

theorem SameBar.of_frame {l : List Part} {s t : State} (h : Frame l s t) (hl : Part.tempo ∉ l) : SameBar s t := .of_tempo_eq (h.1 .tempo hl)

theorem SameBar.ite {c : Prop} [Decidable c] {s t u : State} (h : SameBar s t) (k : SameBar s u) : SameBar s (if c then t else u) := by
  split
  · exact h
  · exact k

theorem SameBar.foldl {α : Type} {f : State → α → State} (hf : ∀ s x, SameBar s (f s x)) (l : List α) (s : State) : SameBar s (l.foldl f s) := by
  induction l generalizing s with
  | nil => exact .refl s
  | cons x l ih => exact (hf s x).trans (ih _)

theorem fermataRequest_sameBar (s : State) : SameBar s s.fermataRequest := rfl

theorem fermataRequest_reqBar (s : State) : s.fermataRequest.tempo.reqBar.isSome = true := by
  show (barMax s.tempo.reqBar s.raisedBar).isSome = true
  unfold barMax
  split
  · rfl
  · split <;> rfl

theorem scoreFaultReq_sameBar (s : State) (die cause press entry : Nat) : SameBar s (s.scoreFaultReq die cause press entry) :=
  (SameBar.of_frame (State.scoreFault_frame ..) (by decide)).trans (fermataRequest_sameBar _)

theorem discardLate_sameBar (s : State) (p : Patch) : SameBar s (s.discardLate p) := by
  dsimp only [State.discardLate]
  refine SameBar.trans ?_ (.of_frame (State.syncPatch_frame _) (by decide))
  refine SameBar.trans ?_ (.ite (.refl _) (.of_frame (State.complete_frame ..) (by decide)))
  refine SameBar.trans ?_ (.of_frame (State.patchFlag_frame ..) (by decide))
  exact SameBar.trans (.of_tempo_eq rfl) (scoreFaultReq_sameBar ..)

/-- The patches that a bar's beginning applies or discards (R338 to R340) leave its place in Score time. -/
theorem applyPatches_sameBar (s : State) (sb : Nat) : SameBar s (s.applyPatches sb) := by
  dsimp only [State.applyPatches]
  refine SameBar.trans (.foldl discardLate_sameBar (s.lateFor sb) s) ?_
  split
  · exact .refl _
  · refine SameBar.trans ?_ (.of_frame (State.syncPatch_frame _) (by decide))
    split
    · refine SameBar.trans ?_ (.of_frame (State.patchFlag_frame ..) (by decide))
      exact SameBar.trans (.of_tempo_eq rfl) (scoreFaultReq_sameBar ..)
    · refine SameBar.trans ?_ (.of_frame (State.patchFlag_frame ..) (by decide))
      refine SameBar.trans (.of_tempo_eq rfl) (.foldl (fun s r => ?_) _ _)
      exact .of_frame (State.writeRec_frame s r) (by decide)

/-! ### The next bar -/

/-- The bar after `t` (R57, R93, R96, R107), with the actions and the order of the boundary. -/
def Tempo.next (t : Tempo) (halt fall : Bool) (order : Option Order) : Tempo :=
  let held := t.halted || halt || (match order with
    | some o => o.holds (bar32 (t.barno + 1))
    | none => false)
  { t with
    barno := bar32 (t.barno + 1), sbar := if t.held then t.sbar else bar32 (t.sbar + 1), held := held, halted := t.halted || halt
    fallback := t.fallback || fall, order := order, adopting := none, frozen := false, merged := false, beat := 0
    actions := t.actions.filter (fun a => !serialGe 32 t.barno a.1) }

/-- The next bar begins at its place in Score time. -/
theorem nextBar_sameBar (s : State) (halt fall : Bool) (order : Option Order) :
    SameBar (s.setTempo (s.tempo.next halt fall order)) (s.nextBar halt fall order) := by
  unfold State.nextBar
  refine SameBar.trans ?_ (.of_frame (State.sendDownbeats_frame _) (by decide))
  refine SameBar.trans ?_ (.ite (.refl _) ((applyPatches_sameBar _ _).trans
    ((SameBar.of_frame (State.captureLate_frame _) (by decide)).trans (.of_frame (State.captureStart_frame ..) (by decide)))))
  refine SameBar.trans ?_ (.ite (fermataRequest_sameBar _) (.refl _))
  refine SameBar.trans ?_ (.ite (.of_tempo_eq (State.tempoEdge_tempo _)) (.refl _))
  exact .refl _

/-- A bar whose boundary halts the package raises a fermata request (R93). -/
theorem nextBar_halt_reqBar {s : State} (h : s.tempo.halted = false) (fall : Bool) (order : Option Order) :
    (s.nextBar true fall order).tempo.reqBar.isSome = true := by
  unfold State.nextBar
  rw [(State.sendDownbeats_frame _).1 .tempo (by decide)]
  simp only [h, Bool.false_or, Bool.true_or, Bool.not_false, Bool.and_self, if_true]
  exact fermataRequest_reqBar _

/-! ### The boundary -/

/-- The boundary of a bar halts the package: an action HALT is due (R92). -/
def Tempo.halts (t : Tempo) : Bool := (t.due t.barno).any (fun a => a == .halt)

/-- The stops that are due at the end of the bar (R328), each with whether it unloads. -/
def Tempo.stops (t : Tempo) : List Bool := (t.due t.barno).filterMap (fun a => match a with
  | .stop u _ => some u
  | _ => none)

/-- The boundary of a bar falls back to rubato: an action FALLBACK is due (R96). -/
def Tempo.falls (t : Tempo) : Bool := (t.due t.barno).any (fun a => a == .fallback)

/-- The order in force from the boundary on: the one adopted, when its bar has come (R109). -/
def Tempo.orderAfter (t : Tempo) : Option Order :=
  match t.adopting with
  | some (m, o) => if serialGe 32 t.barno m then some o else t.order
  | none => t.order

/-- The order that waits for a later boundary (R109). -/
def Tempo.orderLater (t : Tempo) : Option (Nat × Order) :=
  match t.adopting with
  | some (m, o) => if serialGe 32 t.barno m then none else some (m, o)
  | none => none

theorem halts_iff {t : Tempo} : t.halts = true ↔ BarAction.halt ∈ t.due t.barno := by simp [Tempo.halts]

theorem stops_eq_nil {s : State} (h : s.NoStopDue) : s.tempo.stops = [] := by
  rw [Tempo.stops, List.filterMap_eq_nil_iff]
  intro a ha
  cases a with
  | stop u c => exact absurd ha (h u c)
  | halt => rfl
  | fallback => rfl

/-- An action joins those that are due: the ones due before, and itself when its bar is due. -/
theorem due_append (t : Tempo) (n : Nat) (a : Nat × BarAction) :
    { t with actions := t.actions ++ [a] }.due n = t.due n ++ if serialGe 32 n a.1 then [a.2] else [] := by
  simp only [Tempo.due, List.filter_append, List.map_append]
  by_cases h : serialGe 32 n a.1 <;> simp [h]

/-- The end of a bar: of a replay, of a bar that plays on, or of one at which a stop is due. -/
theorem barEnd_eq (s : State) : s.barEnd =
    match s.captureEnd.unison.replay with
    | some c => if s.tempo.stops.isEmpty then s.captureEnd.replayEnd c else (s.captureEnd.replayEnd c).stopNow (s.tempo.stops.any id)
    | none =>
      if s.tempo.stops.isEmpty then
        let n := (if s.tempo.held then s.captureEnd else s.captureEnd.closeDesks).nextBar s.tempo.halts s.tempo.falls s.tempo.orderAfter
        n.setTempo { n.tempo with adopting := s.tempo.orderLater }
      else s.captureEnd.stopNow (s.tempo.stops.any id) := rfl

/-- At the end of a bar with no stop due and no replay, the desks close and the next bar begins. -/
theorem barEnd_next {s : State} (hr : s.unison.replay = none) (hs : s.NoStopDue) : ∃ u : State,
    u.tempo = s.tempo ∧ Frame [.regs, .cond] s u ∧
      let n := u.nextBar s.tempo.halts s.tempo.falls s.tempo.orderAfter
      s.barEnd = n.setTempo { n.tempo with adopting := s.tempo.orderLater } := by
  have frame : Frame [.regs, .cond] s s.captureEnd := (State.captureEnd_frame s).mono (by decide)
  have replay : s.captureEnd.unison.replay = none := by rw [frame.1 .unison (by decide), hr]
  have close : Frame [.regs, .cond] s (if s.tempo.held then s.captureEnd else s.captureEnd.closeDesks) :=
    .ite (fun _ => frame) fun _ => frame.trans (State.closeDesks_frame _)
  refine ⟨_, close.1 .tempo (by decide), close, ?_⟩
  rw [barEnd_eq, replay, stops_eq_nil hs]
  rfl

/-- What a bar's boundary does to the parts of the state when no stop is due and nothing is replayed. -/
theorem barEnd_frame_next {s : State} (hr : s.unison.replay = none) (hs : s.NoStopDue) :
    Frame [.regs, .mem, .tempo, .cond, .patches, .press, .linkTx, .arb, .icu, .front] s s.barEnd := by
  obtain ⟨u, -, frame, next⟩ := barEnd_next hr hs
  rw [next]
  exact ((frame.mono (by decide)).trans (State.nextBar_frame ..)).trans ((State.setTempo_frame ..).mono (by decide))

/-- The next bar's place in Score time. -/
theorem barEnd_tempo {s : State} (hr : s.unison.replay = none) (hs : s.NoStopDue) :
    { s.barEnd.tempo with reqBar := none } =
      { s.tempo.next s.tempo.halts s.tempo.falls s.tempo.orderAfter with adopting := s.tempo.orderLater, reqBar := none } := by
  obtain ⟨u, tempo, -, next⟩ := barEnd_next hr hs
  have same := nextBar_sameBar u s.tempo.halts s.tempo.falls s.tempo.orderAfter
  rw [SameBar, State.setTempo_tempo, tempo] at same
  rw [next]
  exact congrArg (fun t : Tempo => { t with adopting := s.tempo.orderLater }) same

/-- R57: the bar counts, and the Score bar advances unless the bar was held. -/
theorem barEnd_following {s : State} (hrun : s.tempo.running = true) (hr : s.unison.replay = none) (hs : s.NoStopDue) :
    FollowingBar s s.barEnd := by
  have tempo := barEnd_tempo hr hs
  exact ⟨congrArg Tempo.barno tempo, congrArg Tempo.sbar tempo, congrArg Tempo.beat tempo, (congrArg Tempo.running tempo).trans hrun⟩

/-- R93: a halt that is due leaves the package halted in a held bar, with a fermata request. -/
theorem barEnd_halted {s : State} (hr : s.unison.replay = none) (hs : s.NoStopDue) (hd : BarAction.halt ∈ s.tempo.due s.tempo.barno)
    (hh : s.tempo.halted = false) :
    s.barEnd.tempo.halted = true ∧ s.barEnd.tempo.held = true ∧ s.barEnd.tempo.reqBar.isSome = true := by
  have halts : s.tempo.halts = true := halts_iff.mpr hd
  have tempo := barEnd_tempo hr hs
  refine ⟨(congrArg Tempo.halted tempo).trans (by simp [Tempo.next, halts]), (congrArg Tempo.held tempo).trans (by simp [Tempo.next, halts]), ?_⟩
  obtain ⟨u, tempo, -, next⟩ := barEnd_next hr hs
  rw [next, halts]
  exact nextBar_halt_reqBar (by rw [tempo, hh]) _ _

/-! ### The occasions -/

theorem exec_barBoundary {s : State} (hrun : s.tempo.running = true) (hd : s.barDone = true)
    (hg : s.tempo.isGated = false ∨ s.gatesOpen = true) : exec .barBoundary s = .next s.barEnd := by
  have gate : (!s.tempo.isGated || s.tempo.halted || s.replaying || s.gatesOpen) = true := by
    obtain h | h := hg <;> simp [h]
  show execBarBoundary s = _
  simp only [execBarBoundary, hrun, hd, gate, Bool.and_self, if_true]

/-- R100: the gate beats are counted, and the bar ends. -/
theorem exec_rubatoGateRelease {s : State} (n : BitVec 32) (hrun : s.tempo.running = true) (hg : s.tempo.isGated = true)
    (hd : s.barDone = true) (ho : s.gatesOpen = true) :
    exec (.rubatoGateRelease n) s = .next (s.incF TEL_PKG [] TEL_PKG.GATE_BEATS n.toNat).barEnd := by
  show execRubatoGateRelease n s = _
  simp only [execRubatoGateRelease, hrun, hg, hd, ho, Bool.and_self, if_true]

/-! ### Bar 0 -/

/-- Score time at the start of bar 0 (R57, R59, R76). -/
def Tempo.bar0 (t : Tempo) (a : CountIn) : Tempo :=
  { t with
    barno := 0, sbar := a.startSbar, beat := 0, running := true, held := false, fallback := false
    halted := false, armed := false, accepted := none, order := none, adopting := none, reqBar := none
    reqDone := none, frozen := false, merged := false, actions := [], ferm := [], missed := [], gotBar := [] }

/-- Bar 0 begins: counters and Unison's tables are cleared, the sections start and the downbeats leave (R59, R76, R224, R313). -/
def State.beginBar0 (s : State) (a : CountIn) : State :=
  let s := s.setTempo (s.tempo.bar0 a)
  let s := s.condDies.foldl (fun s d =>
    ((s.setReg SCR_LATE_CUES [d] 0).setReg SCR_LATE_MOVES [d] 0).setReg SCR_TAKE_WAITS [d] 0) s
  let s := (s.clrReg TEL_PKG []).unClear
  ((s.setUnison { s.unison with started := s.bit UN_CTRL [] UN_CTRL.PAIRED }).startSections a.startSbar).sendDownbeats

theorem beginBar0_frame (s : State) (a : CountIn) : Frame [.regs, .sects, .linkTx, .unison] (s.setTempo (s.tempo.bar0 a)) (s.beginBar0 a) := by
  refine .via (State.sendDownbeats_frame _) (by decide) <| .via (State.startSections_frame ..) (by decide) <|
    .via (State.setUnison_frame ..) (by decide) <| .via (State.unClear_frame _) (by decide) <| .via (State.clrReg_frame ..) (by decide) <|
    .foldl (fun _ _ k => ?_) _ _ (.refl _ _)
  exact .via (State.setReg_frame ..) (by decide) <| .via (State.setReg_frame ..) (by decide) <| .via (State.setReg_frame ..) (by decide) k

theorem beginBar0_tempo (s : State) (a : CountIn) : (s.beginBar0 a).tempo = s.tempo.bar0 a := (beginBar0_frame s a).1 .tempo (by decide)

/-- Bar 0 begins, and what waits for the launch completes (R84). -/
theorem exec_countinBar0Start {s : State} {a : CountIn} (h : s.tempo.accepted = some a) :
    exec .countinBar0Start s = .next ((s.beginBar0 a).completeAll .launch stOk []) := by
  show execCountinBar0Start s = _
  rw [execCountinBar0Start, h]
  rfl

theorem completeAll_tempo (s : State) (w : WaitFor) (st : Nat) (bs : List Byte) : (s.completeAll w st bs).tempo = s.tempo :=
  (State.completeAll_frame ..).1 .tempo (by decide)

/-! ### The statement -/

/-- Settles O1: the boundary is `barEnd`, whose next bar follows the bar that ends, and bar 0 is what COUNTIN_BAR0_START sets. -/
theorem barBoundaryCounts : Obligations.BarBoundaryCounts := by
  unfold Obligations.BarBoundaryCounts
  refine ⟨?boundary, ?release, ?bar0⟩
  case boundary =>
    intro s hrun hd hg hr hs
    exact ⟨_, exec_barBoundary hrun hd hg, barEnd_following hrun hr hs, (barEnd_frame_next hr hs).mono (by decide)⟩
  case release =>
    intro n s hrun hg hd ho hr hs
    exact ⟨_, exec_rubatoGateRelease n hrun hg hd ho, barEnd_following (s := s.incF ..) hrun hr hs,
      ((State.incF_frame ..).mono (by decide)).trans ((barEnd_frame_next (s := s.incF ..) hr hs).mono (by decide))⟩
  case bar0 =>
    intro s a ha
    have tempo : ((s.beginBar0 a).completeAll .launch stOk []).tempo = s.tempo.bar0 a := (completeAll_tempo ..).trans (beginBar0_tempo s a)
    refine ⟨_, exec_countinBar0Start ha, congrArg Tempo.barno tempo, congrArg Tempo.sbar tempo, congrArg Tempo.running tempo,
      congrArg Tempo.held tempo, .via (State.completeAll_frame ..) (by decide) ?_⟩
    exact ((State.setTempo_frame s _).mono (by decide)).trans ((beginBar0_frame s a).mono (by decide))

end Sys2Proof.Machine
end

section
/-! TEMPO_FAULT (R92, R124, R125): the latch, its log record and the action that it schedules. -/

namespace Sys2Proof.Machine

/-! ### The latch -/

/-- A fault latches in a die's empty register with what it is. -/
theorem latchTempo_fields {s : State} {die cause port err : Nat} (h : tok 0 s.regs = true)
    (free : s.bit SCR_TEMPO_FAULT [die] SCR_TEMPO_FAULT.FAULT = false) : let t := s.latchTempo die cause port err
    t.getF SCR_TEMPO_FAULT [die] SCR_TEMPO_FAULT.FAULT = 1 ∧ t.getF SCR_TEMPO_FAULT [die] SCR_TEMPO_FAULT.CAUSE = cause % 8 ∧
      t.getF SCR_TEMPO_FAULT [die] SCR_TEMPO_FAULT.PORT = port % 16 ∧ t.getF SCR_TEMPO_FAULT [die] SCR_TEMPO_FAULT.ERROR = err % 256 := by
  let a := s.setBit SCR_TEMPO_FAULT [die] SCR_TEMPO_FAULT.FAULT
  let b := a.setF SCR_TEMPO_FAULT [die] SCR_TEMPO_FAULT.CAUSE cause
  let c := b.setF SCR_TEMPO_FAULT [die] SCR_TEMPO_FAULT.PORT port
  have ha : tok 0 a.regs = true := setF_tok _ _ _ _ _ h
  have hb : tok 0 b.regs = true := setF_tok _ _ _ _ _ ha
  have hc : tok 0 c.regs = true := setF_tok _ _ _ _ _ hb
  have latched : s.latchTempo die cause port err = c.setF SCR_TEMPO_FAULT [die] SCR_TEMPO_FAULT.ERROR err := by
    rw [State.latchTempo, free, if_neg Bool.false_ne_true]
  rw [latched]
  refine ⟨?_, ?_, ?_, getF_setF_same c _ _ _ _ hc (by decide)⟩
  · rw [getF_setF_field c _ _ _ _ _ hc (by decide) (by decide), getF_setF_field b _ _ _ _ _ hb (by decide) (by decide),
      getF_setF_field a _ _ _ _ _ ha (by decide) (by decide)]
    exact getF_setF_same s _ _ _ _ h (by decide)
  · rw [getF_setF_field c _ _ _ _ _ hc (by decide) (by decide), getF_setF_field b _ _ _ _ _ hb (by decide) (by decide)]
    exact getF_setF_same a _ _ _ _ ha (by decide)
  · rw [getF_setF_field c _ _ _ _ _ hc (by decide) (by decide)]
    exact getF_setF_same b _ _ _ _ hb (by decide)

theorem latchTempo_kept (s : State) (die cause port err : Nat) : RegsKept [SCR_TEMPO_FAULT.addr [die]] s (s.latchTempo die cause port err) := by
  have one (u : State) (f : Fld) (x : Nat) : RegsKept [SCR_TEMPO_FAULT.addr [die]] u (u.setF SCR_TEMPO_FAULT [die] f x) := setF_kept u _ _ _ _
  exact .ite (fun _ => one s _ _) fun _ => (((one s _ _).trans (one _ _ _)).trans (one _ _ _)).trans (one _ _ _)

/-! ### Its record and its action -/

theorem logBits_queue (s : State) (die : Nat) (r : Reg) (ix : List Nat) (bits : Nat)
    (h : (s.arb.queue.filter (fun x => x.die == die)).length < 64) :
    (s.logBits die r ix bits).arb.queue.length = s.arb.queue.length + 1 := by
  unfold State.logBits
  split <;> rw [State.sendEvent, if_pos h] <;> exact List.length_append

theorem tempoFault_regs (s : State) (die cause port err : Nat) : (s.tempoFault die cause port err).regs = (s.latchTempo die cause port err).regs :=
  ((State.scheduleAction_frame ..).1 .regs (by decide)).trans ((State.logBits_frame ..).1 .regs (by decide))

theorem tempoFault_getF (s : State) (die cause port err : Nat) (r : Reg) (ix : List Nat) (f : Fld) :
    (s.tempoFault die cause port err).getF r ix f = (s.latchTempo die cause port err).getF r ix f := by
  rw [State.getF, State.reg, tempoFault_regs]
  rfl

theorem tempoFault_queue {s : State} {die : Nat} (cause port err : Nat) (h : (s.arb.queue.filter (fun x => x.die == die)).length < 64) :
    (s.tempoFault die cause port err).arb.queue.length = s.arb.queue.length + 1 := by
  have arb : (s.latchTempo die cause port err).arb = s.arb := (State.latchTempo_frame ..).1 .arb (by decide)
  rw [State.tempoFault, (State.scheduleAction_frame ..).1 .arb (by decide), logBits_queue _ _ _ _ _ (by rwa [arb]), arb]

theorem tempoFault_actions {s : State} (die cause port err : Nat) (h : s.tempo.running = true) :
    (s.tempoFault die cause port err).tempo.actions =
      s.tempo.actions ++ [(s.raisedBar, if cause = 5 then .halt else if s.tempo.fallbackAct then .fallback else .halt)] := by
  have tempo : ((s.latchTempo die cause port err).logBits die SCR_TEMPO_FAULT [die] 1).tempo = s.tempo :=
    ((State.logBits_frame ..).1 .tempo (by decide)).trans ((State.latchTempo_frame ..).1 .tempo (by decide))
  rw [State.tempoFault, State.scheduleAction, if_pos (by rwa [tempo]), State.raisedBar, tempo]
  rfl

/-! ### A closed gate -/

/-- The first Score link whose downbeat of this bar is missing (R99, R102). -/
def State.closedGate (s : State) : Nat :=
  ((List.range 12).find? (fun l => (s.linkCfg l).score && !(tget 0 s.tempo.gotBar l != 0 &&
    serialGe 32 (tget 0 s.tempo.gotBar l - 1) s.tempo.barno))).getD 0

/-- GATE_TIMEOUT is raised on the die of the closed gate, and its gate beats are counted (R92, R100, R102). -/
def State.gateFault (s : State) : State :=
  let die := 8 + s.closedGate / 6
  ((s.incF TEL_PKG [] TEL_PKG.GATE_BEATS (s.tempo.gateLimit * 2 ^ s.tempo.k + 1)).latchTempo die 5 (s.closedGate % 6) 0).logBits die
    SCR_TEMPO_FAULT [die] 1

/-- The package halts at the end of the bar in which it waits at a closed gate (R102; log entry 5). -/
def State.gateHalt (s : State) : State :=
  s.gateFault.setTempo { s.gateFault.tempo with actions := s.gateFault.tempo.actions ++ [(s.gateFault.tempo.barno, .halt)] }

theorem gateFault_frame (s : State) : Frame [.regs, .arb] s s.gateFault :=
  .via (State.logBits_frame ..) (by decide) <| .via (State.latchTempo_frame ..) (by decide) <| .via (State.incF_frame ..) (by decide) (.refl _ _)

theorem gateHalt_tempo (s : State) : s.gateHalt.tempo = { s.tempo with actions := s.tempo.actions ++ [(s.tempo.barno, .halt)] } := by
  rw [State.gateHalt, (gateFault_frame s).1 .tempo (by decide)]
  rfl

theorem gateHalt_unison (s : State) : s.gateHalt.unison = s.unison := (gateFault_frame s).1 .unison (by decide)

theorem gateHalt_due (s : State) : s.gateHalt.tempo.due s.gateHalt.tempo.barno = s.tempo.due s.tempo.barno ++ [.halt] := by
  rw [gateHalt_tempo, due_append, serialGe_self, if_pos rfl]

theorem gateHalt_noStopDue {s : State} (h : s.NoStopDue) : s.gateHalt.NoStopDue := by
  intro u c
  rw [gateHalt_due, List.mem_append]
  rintro (hm | hm)
  · exact h u c hm
  · simp at hm

/-- R92, R102: the fault is raised and the bar ends with a halt due, which is the model's reading (log entry 5). -/
theorem exec_gateTimeout {s : State} (hrun : s.tempo.running = true) (hg : s.tempo.isGated = true) (hh : s.tempo.halted = false)
    (hd : s.barDone = true) (ho : s.gatesOpen = false) : exec .gateTimeout s = .next s.gateHalt.barEnd := by
  show execGateTimeout s = _
  simp only [execGateTimeout, hrun, hg, hh, hd, ho, Bool.and_self, Bool.not_false, if_true]
  rfl

/-! ### The statement -/

/-- Settles O6: the latch's fields, and the boundary at which a halt is due; GATE_TIMEOUT makes one due itself. -/
theorem tempoFaultEffects : Obligations.TempoFaultEffects := by
  unfold Obligations.TempoFaultEffects
  refine ⟨?raise, ?halt, ?gate⟩
  case raise =>
    intro s die cause port err hwf _ hcause hport herr free t
    have htok : tok 0 s.regs = true := hwf.2
    obtain ⟨fault, hc, hp, he⟩ := latchTempo_fields (cause := cause) (port := port) (err := err) htok free
    have get := tempoFault_getF s die cause port err SCR_TEMPO_FAULT [die]
    exact ⟨bit_of_getF_one ((get _).trans fault), ((get _).trans hc).trans (Nat.mod_eq_of_lt hcause),
      ((get _).trans hp).trans (Nat.mod_eq_of_lt hport), ((get _).trans he).trans (Nat.mod_eq_of_lt herr), tempoFault_queue cause port err,
      tempoFault_actions die cause port err,
      (latchTempo_kept s die cause port err).trans (.of_regs_eq (tempoFault_regs ..)), State.tempoFault_frame ..⟩
  case halt =>
    intro s hrun hd hg hr hs hdue hh
    obtain ⟨halted, held, req⟩ := barEnd_halted hr hs hdue hh
    exact ⟨_, exec_barBoundary hrun hd hg, halted, held, req, barEnd_following hrun hr hs⟩
  case gate =>
    intro s hrun hg hh hd ho hr hs
    have tempo := gateHalt_tempo s
    have replay : s.gateHalt.unison.replay = none := by rw [gateHalt_unison, hr]
    have stops := gateHalt_noStopDue hs
    obtain ⟨halted, held, -⟩ := barEnd_halted replay stops (by simp [gateHalt_due]) ((congrArg Tempo.halted tempo).trans hh)
    have follows := barEnd_following ((congrArg Tempo.running tempo).trans hrun) replay stops
    rw [FollowingBar, tempo] at follows
    exact ⟨_, exec_gateTimeout hrun hg hh hd ho, halted, held, follows⟩

end Sys2Proof.Machine
end

section
/-! The merge of the views on the anchor (R71, R113 to R115): one FERMATA command and the order that follows from it. -/

namespace Sys2Proof.Machine

/-! ### The order after one count -/

/-- The only request of the bar is one FERMATA command of count `n` (R114). -/
theorem counts_command {t : Tempo} {n : Nat} {c : Cmd} (hf : t.ferm = [⟨t.barno, n, .command c⟩]) (hq : t.reqBar = none) : t.counts [] = [n] := by
  simp only [Tempo.counts, hf, hq, List.filter_cons, List.filter_nil, beq_self_eq_true, if_true]
  rfl

/-- The anchor's order after one count: the same, or a changed one with one more ORDER_SEQ (R113, R114). -/
theorem newOrder_command {t : Tempo} {n : Nat} {c : Cmd} (hf : t.ferm = [⟨t.barno, n, .command c⟩]) (hq : t.reqBar = none) :
    t.newOrder [] = if applyCount t.fermLead t.barno n t.order = t.order then t.order
      else (applyCount t.fermLead t.barno n t.order).map (fun x => { x with seq := ((t.order.map (fun y => y.seq)).getD 0 + 1) % 2 ^ 16 }) := by
  rw [Tempo.newOrder, counts_command hf hq]
  rfl

/-- A count leaves the order's number alone (R114). -/
theorem applyCount_seq {lead m n : Nat} {o p : Order} (h : applyCount lead m n (some o) = some p) : p.seq = o.seq := by
  simp only [applyCount] at h
  split at h
  · split at h <;> cases h <;> rfl
  · split at h <;> cases h <;> rfl

/-! R113, case by case. -/
section
variable {lead m n : Nat} {o : Order}

theorem applyCount_none (h : 0 < n) : applyCount lead m n none = some ⟨0, bar32 (m + lead), bar32 (bar32 (m + lead) + n), n == 255⟩ :=
  if_neg (Nat.pos_iff_ne_zero.mp h)

theorem applyCount_none_zero : applyCount lead m 0 none = none := rfl

theorem applyCount_over (h : o.live m = false) (hn : 0 < n) :
    applyCount lead m n (some o) = some ⟨o.seq, bar32 (m + lead), bar32 (bar32 (m + lead) + n), n == 255⟩ := by
  simp only [applyCount, h, Bool.false_eq_true, if_false, if_neg (Nat.pos_iff_ne_zero.mp hn)]

theorem applyCount_over_zero (h : o.live m = false) : applyCount lead m 0 (some o) = some o := by
  simp only [applyCount, h, Bool.false_eq_true, if_false, if_true]

theorem applyCount_live (h : o.live m = true) (hn : 0 < n) :
    applyCount lead m n (some o) = some ⟨o.seq, o.f, bar32 (laterBar o.f (bar32 (m + lead)) + n), n == 255⟩ := by
  simp only [applyCount, h, if_true, if_neg (Nat.pos_iff_ne_zero.mp hn)]

theorem applyCount_live_zero (h : o.live m = true) :
    applyCount lead m 0 (some o) = some ⟨o.seq, o.f, if o.indef then laterBar o.f (bar32 (m + lead)) else
      earlierBar o.r (laterBar o.f (bar32 (m + lead))), false⟩ := by
  simp only [applyCount, h, if_true]

end

/-! ### The merge -/

/-- What the anchor adopts at the merge (R71, R113): its new order, when that differs from the one in force. -/
def Tempo.adopted (t : Tempo) (o : Option Order) : Option (Nat × Order) := if o = t.order then none else o.map (fun x => (t.barno, x))

theorem adopted_same (t : Tempo) : t.adopted t.order = none := if_pos rfl

/-- Nothing is adopted when the one FERMATA of the bar leaves the order as it is (R113). -/
theorem adopted_newOrder_same {t : Tempo} {n : Nat} {c : Cmd} (hf : t.ferm = [⟨t.barno, n, .command c⟩]) (hq : t.reqBar = none)
    (h : applyCount t.fermLead t.barno n t.order = t.order) : t.adopted (t.newOrder []) = none := by
  rw [newOrder_command hf hq, if_pos h, adopted_same]

/-- The first order has number 1 (R114). -/
theorem adopted_newOrder_first {t : Tempo} {n : Nat} {c : Cmd} {p : Order} (hf : t.ferm = [⟨t.barno, n, .command c⟩]) (hq : t.reqBar = none)
    (h0 : t.order = none) (h : applyCount t.fermLead t.barno n none = some p) :
    t.adopted (t.newOrder []) = some (t.barno, { p with seq := 1 }) := by
  rw [newOrder_command hf hq, h0, h]
  simp [Tempo.adopted, h0]

/-- An order that the one FERMATA of the bar changes is adopted with the next number (R114). -/
theorem adopted_newOrder_changed {t : Tempo} {n : Nat} {c : Cmd} {o p : Order} (hf : t.ferm = [⟨t.barno, n, .command c⟩]) (hq : t.reqBar = none)
    (h0 : t.order = some o) (h : applyCount t.fermLead t.barno n (some o) = some p) (hp : p ≠ o) :
    t.adopted (t.newOrder []) = some (t.barno, { p with seq := (o.seq + 1) % 2 ^ 16 }) := by
  have seq : p.seq = o.seq := applyCount_seq h
  have changed : some { p with seq := (o.seq + 1) % 2 ^ 16 } ≠ some o := fun e => hp <| by
    obtain ⟨ps, pf, pr, pi⟩ := p
    obtain ⟨os, of, or, oi⟩ := o
    simp only [Option.some.injEq, Order.mk.injEq] at e seq ⊢
    exact ⟨seq, e.2⟩
  rw [newOrder_command hf hq, h0, h, if_neg (by simpa using hp)]
  simp only [Option.map_some, Option.getD_some, Tempo.adopted, h0, if_neg changed]

/-- Score time after the merge of a bar whose only request is a FERMATA (R71, R111, R115). -/
def Tempo.merge (t : Tempo) : Tempo :=
  { t.atBeat (t.e - 132) with
    merged := true, adopting := t.adopted (t.newOrder []), reqDone := t.reqDone, ferm := [] }

/-- The merge completes the FERMATA, and the bar's request is gone. -/
theorem exec_barNoteMerge_command {s : State} {c : Cmd} {n : Nat} (hrun : s.tempo.running = true) (hf : s.tempo.frozen = true)
    (hm : s.tempo.merged = false) (ha : s.tempo.anchor = true) (hd : s.fermataAhead = []) (hq : s.tempo.reqBar = none)
    (hn : s.tempo.adopting = none) (hc : s.tempo.ferm = [⟨s.tempo.barno, n, .command c⟩]) :
    exec .barNoteMerge s = .next ((s.setTempo s.tempo.merge).complete c stOk (orderResult (s.tempo.newOrder []))) := by
  have adopt : (if (s.tempo.anchor && s.tempo.newOrder [] != s.tempo.order) = true then (s.tempo.newOrder []).map (fun x => (s.tempo.barno, x))
      else s.tempo.adopting) = s.tempo.adopted (s.tempo.newOrder []) := by
    by_cases h : s.tempo.newOrder [] = s.tempo.order <;> simp [Tempo.adopted, h, ha, hn]
  show execBarNoteMerge s = _
  simp only [execBarNoteMerge, hrun, hf, hm, hd, hq, hc, Bool.and_self, Bool.not_false, if_true, adopt]
  simp [Tempo.merge]

theorem live_of_ahead {o : Order} {m : Nat} (h : o.indef = true ∨ (newer 32 o.r o.f = true ∧ serialGe 32 o.r m = true)) : o.live m = true := by
  obtain h | ⟨h, k⟩ := h
  · simp [Order.live, h]
  · simp [Order.live, h, k]

theorem live_of_over {o : Order} {m : Nat} (h : o.indef = false ∧ (newer 32 o.r o.f = false ∨ serialGe 32 o.r m = false)) : o.live m = false := by
  obtain ⟨hi, h | h⟩ := h <;> simp [Order.live, hi, h]

/-- Settles O2: the merge adopts what `applyCount` makes of the order in force, in each of R113's cases. -/
theorem fermataArithmetic : Obligations.FermataArithmetic := by
  unfold Obligations.FermataArithmetic
  intro s c n _ hrun hfrozen hmerged ha hd hq hn hc
  have tempo (st : Nat) (bs : List Byte) : ((s.setTempo s.tempo.merge).complete c st bs).tempo = s.tempo.merge :=
    (State.complete_frame ..).1 .tempo (by decide)
  refine ⟨_, exec_barNoteMerge_command hrun hfrozen hmerged ha hd hq hn hc, ?_⟩
  simp only [tempo]
  refine ⟨rfl, rfl, fun h0 hpos => ?first, fun h0 hz => ?still, fun o h0 hover => ⟨fun hz => ?overStill, fun hpos changed => ?overNew⟩,
    fun o h0 hlive => ⟨fun hpos changed => ?longer, fun hz r hr changed => ?shorter⟩, ?frame⟩
  case first => exact adopted_newOrder_first hc hq h0 (applyCount_none hpos)
  case still => exact adopted_newOrder_same hc hq (by rw [h0, hz, applyCount_none_zero])
  case overStill => exact adopted_newOrder_same hc hq (by rw [h0, hz, applyCount_over_zero (live_of_over hover)])
  case overNew => exact adopted_newOrder_changed hc hq h0 (applyCount_over (live_of_over hover) hpos) changed
  case longer => exact adopted_newOrder_changed hc hq h0 (applyCount_live (live_of_ahead hlive) hpos) changed
  case shorter =>
    subst hz hr
    exact adopted_newOrder_changed hc hq h0 (applyCount_live_zero (live_of_ahead hlive)) changed
  case frame => exact .via (State.complete_frame ..) (by decide) ((State.setTempo_frame ..).mono (by decide))

end Sys2Proof.Machine
end

section
/-! SCORE_START (R84, R311): its status, arming and disarming, and the launch. -/

namespace Sys2Proof.Machine

/-- An accepted command runs its body (R680, R689, R952). -/
theorem runCmd_of_accepts {s : State} {c : Cmd} {op : Nat} (h : s.Accepts c op) (body : State → State) : s.runCmd c op body = body s := by
  obtain ⟨hop, hb, hf, hh⟩ := h
  simp [State.runCmd, hop, hb, hf, hh]

/-! ### The status -/

/-- The parameters of SCORE_START do not stand (the BAD_PARAM row of R84, and R311). -/
@[reducible] def State.StartBad (s : State) (c : Cmd) : Prop :=
  c.par 1 1 ≠ s.tempo.region ∨ (c.par 0 1 = 2 ∧ s.tempo.anchor = false) ∨ (c.par 0 1 = 2 ∧ c.par 4 4 < 64) ∨
    (c.par 0 1 ≠ 1 ∧ c.par 0 1 ≠ 2 ∧ c.par 0 1 ≠ 3) ∨ c.par 2 2 ≠ 0 ∨ c.par 12 4 ≠ 0 ∨ (c.par 0 1 = 2 ∧ s.isRestart (c.par 8 4) = false)

/-- The package is past what SCORE_START asks for (the BUSY row of R84). -/
@[reducible] def State.StartBusy (s : State) (c : Cmd) : Prop :=
  (c.par 0 1 = 1 ∧ (s.tempo.armed = true ∨ s.tempo.running = true)) ∨
    (c.par 0 1 = 2 ∧ (s.tempo.running = true ∨ s.tempo.launched = true)) ∨ (c.par 0 1 = 3 ∧ s.tempo.running = true)

/-- SCORE_START would arm the package, and the link check fails (R66, the TEMPO_FAULT row of R84). -/
@[reducible] def State.StartUnready (s : State) (c : Cmd) : Prop :=
  (c.par 0 1 = 1 ∨ (c.par 0 1 = 2 ∧ s.tempo.armed = false)) ∧ s.linksReady = false

section
variable {s : State} {c : Cmd}

theorem startCheck_uninstalled (hi : s.installed = false) : s.startCheck c = some stScoreFault := by
  simp only [State.startCheck, hi, Bool.not_false, if_true]

/-- The three checks of an installed package, in the order of R84. -/
theorem startCheck_installed (hi : s.installed = true) :
    s.startCheck c = if s.StartBad c then some stBadParam else if s.StartBusy c then some stBusy
      else if s.StartUnready c then some stTempoFault else none := by
  have mode : ((!(c.par 0 1 == 1 || c.par 0 1 == 2 || c.par 0 1 == 3)) = true) = (c.par 0 1 ≠ 1 ∧ c.par 0 1 ≠ 2 ∧ c.par 0 1 ≠ 3) := by
    simp [and_assoc]
  simp only [State.startCheck, hi, State.StartBad, State.StartBusy, State.StartUnready, mode, Bool.not_true, Bool.false_eq_true, if_false,
    Bool.not_eq_true', Bool.or_eq_true]

theorem startCheck_bad (hi : s.installed = true) (hb : s.StartBad c) : s.startCheck c = some stBadParam := by
  rw [startCheck_installed hi, if_pos hb]

theorem startCheck_busy (hi : s.installed = true) (hb : ¬s.StartBad c) (hy : s.StartBusy c) : s.startCheck c = some stBusy := by
  rw [startCheck_installed hi, if_neg hb, if_pos hy]

theorem startCheck_unready (hi : s.installed = true) (hb : ¬s.StartBad c) (hy : ¬s.StartBusy c) (hu : s.StartUnready c) :
    s.startCheck c = some stTempoFault := by
  rw [startCheck_installed hi, if_neg hb, if_neg hy, if_pos hu]

theorem startCheck_passed (hi : s.installed = true) (hb : ¬s.StartBad c) (hy : ¬s.StartBusy c) (hu : ¬s.StartUnready c) :
    s.startCheck c = none := by
  rw [startCheck_installed hi, if_neg hb, if_neg hy, if_neg hu]

/-- A SCORE_START that fails a check completes with that check's status. -/
theorem exec_scoreStart_refused {st : Nat} (ha : s.Accepts c 0x0302) (h : s.startCheck c = some st) :
    exec (.scoreStart c) s = .next (s.complete c st []) := by
  show execScoreStart c s = _
  rw [execScoreStart, runCmd_of_accepts ha, h]

/-- One that passes them arms, disarms or launches (R83). -/
theorem exec_scoreStart_passed (ha : s.Accepts c 0x0302) (h : s.startCheck c = none) :
    exec (.scoreStart c) s = .next (if c.par 0 1 = 1 then s.arm.complete c stOk [] else if c.par 0 1 = 3 then s.disarm.complete c stOk []
      else s.launch c) := by
  show execScoreStart c s = _
  rw [execScoreStart, runCmd_of_accepts ha, h]

end

/-! ### Arming, disarming, launching -/

theorem armed_of_arm (s : State) : s.arm.tempo.armed = true := rfl

theorem disarm_tempo (s : State) : s.disarm.tempo = { s.tempo with armed := false, launched := false, accepted := none } := by
  dsimp only [State.disarm]
  split
  · rfl
  · exact completeAll_tempo ..

/-- A launch leaves the package armed and launched, with its own count-in accepted, and the command waits for bar 0 (R75, R84). -/
theorem launch_spec (s : State) (c : Cmd) : (s.launch c).tempo.armed = true ∧ (s.launch c).tempo.launched = true ∧
    (s.launch c).tempo.accepted.isSome = true ∧ (WaitFor.launch, c) ∈ (s.launch c).front.waiting := by
  let armed := if s.tempo.armed then s else s.arm
  have harmed : armed.tempo.armed = true := by
    by_cases h : s.tempo.armed = true
    · simp [armed, h]
    · simp [armed, h, armed_of_arm]
  have sent : Frame [.cond, .linkTx, .free] armed (((armed.sendCountin 8 (c.par 4 4) 0 (c.par 8 4) 1).sendCountin 9 (c.par 4 4) 0 (c.par 8 4) 1).rewindTo
      (c.par 8 4)) :=
    .via (State.rewindTo_frame ..) (by decide) <| .via (State.sendCountin_frame ..) (by decide) <| .via (State.sendCountin_frame ..) (by decide) (.refl _ _)
  exact ⟨(congrArg Tempo.armed (sent.1 .tempo (by decide))).trans harmed, rfl, rfl, List.mem_append_right _ (List.mem_singleton_self _)⟩

/-! ### The statement -/

/-- Completing all that wait for `w` completes the one command that does. -/
theorem completeAll_one {s : State} {w : WaitFor} {c : Cmd} (h : s.waiters w = [c]) (st : Nat) (bs : List Byte) :
    s.completeAll w st bs = ({ s with front := { s.front with waiting := s.front.waiting.filter (fun x => x.1 != w) } } : State).complete c st bs := by
  simp only [State.completeAll, h, List.foldl_cons, List.foldl_nil]

/-- Settles O3: each row of R84 is a branch of `startCheck`; what passes arms, disarms or launches; bar 0 completes the launch. -/
theorem scoreStartStatuses : Obligations.ScoreStartStatuses := by
  unfold Obligations.ScoreStartStatuses
  refine ⟨fun s c ha => ?start, fun s a c h hw => ?bar0⟩
  case start =>
    refine ⟨fun hi => ?_, fun hi hb => ?_, fun hi hb hy => ?_, fun hi hb hy hu => ?_, fun hi hb hy hu => ?_⟩
    · exact exec_scoreStart_refused ha (startCheck_uninstalled hi)
    · exact exec_scoreStart_refused ha (startCheck_bad hi hb)
    · exact exec_scoreStart_refused ha (startCheck_busy hi hb hy)
    · exact exec_scoreStart_refused ha (startCheck_unready hi hb hy hu)
    · have next := exec_scoreStart_passed ha (startCheck_passed hi hb hy hu)
      refine ⟨fun hm => ⟨?_, armed_of_arm s⟩, fun hm => ⟨?_, congrArg Tempo.armed (disarm_tempo s)⟩, fun hm => ⟨_, ?_, launch_spec s c⟩⟩
      · rw [next, if_pos hm]
      · rw [next, if_neg (by omega), if_pos hm]
      · rw [next, if_neg (by omega), if_neg (by omega)]
  case bar0 =>
    have waiters : (s.beginBar0 a).waiters .launch = [c] := by
      rw [State.waiters, (beginBar0_frame s a).1 .front (by decide)]
      exact hw
    refine ⟨_, ?_, ?_, (exec_countinBar0Start h).trans (congrArg _ (completeAll_one waiters ..))⟩
    · exact congrArg Tempo.running (beginBar0_tempo s a)
    · exact congrArg Tempo.barno (beginBar0_tempo s a)

end Sys2Proof.Machine
end

section
/-! Count-in (R74 to R82): which flit a package obeys, and how it is forwarded. -/

namespace Sys2Proof.Machine

/-- The package obeys the count-in flit `f` from link `l` (R76, R80, R81): it is intact, comes from the parent, and is of the installed image. -/
def State.obeys (s : State) (l : Nat) (f : List Byte) : Bool :=
  flitOk f && leAt f 0 1 == 0xC1 && s.installed && s.tempo.armed && !s.tempo.running && s.tempo.accepted.isNone &&
    (s.linkCfg l).parent && leAt f 2 1 == s.tempo.region && leAt f 4 2 == s.tempo.slice && leAt f 3 1 == s.tempo.k &&
    leAt f 22 2 == s.tempo.anchorChip

/-- The beats from a count-in's arrival to bar 0 (R76, R82). -/
def Tempo.countinWait (t : Tempo) (f : List Byte) : Int := if t.rubato then 64 else (leAt f 8 4 : Int) - leAt f 12 4

/-- A count-in that is obeyed in time is forwarded on the child links of its die, and its wait begins (R76, R77, R312). -/
def State.acceptCountin (s : State) (l : Nat) (f : List Byte) : State :=
  let die := 8 + l / 6
  let sent := (s.sendCountin die (leAt f 8 4) (leAt f 12 4) (leAt f 16 4) (leAt f 20 2 + 1)).rewindTo (leAt f 16 4)
  sent.setTempo { sent.tempo with
    accepted := some ⟨die, leAt f 16 4, (s.tempo.countinWait f).toNat, leAt f 12 4, leAt f 8 4, leAt f 20 2, []⟩ }

/-- What a count-in does, by whether it is obeyed, starts at a restart point, and is in time. -/
theorem exec_countinReceive (l : Fin 12) (f : List Byte) (s : State) : exec (.countinReceive l f) s = .next (
    if !s.obeys l f then s.discardCountin l
    else if !s.isRestart (leAt f 16 4) then (s.discardCountin l).scoreFault (8 + l / 6) 6 0xFF 0
    else if s.tempo.countinWait f < 64 then s.tempoFault (8 + l / 6) 3 (l % 6) 0
    else s.acceptCountin l f) := rfl

theorem exec_countinReceive_discarded {l : Fin 12} {f : List Byte} {s : State} (h : s.obeys l f = false) :
    exec (.countinReceive l f) s = .next (s.discardCountin l) := by
  rw [exec_countinReceive, h]
  rfl

theorem exec_countinReceive_accepted {l : Fin 12} {f : List Byte} {s : State} (h : s.obeys l f = true) (hr : s.isRestart (leAt f 16 4) = true)
    (hw : 64 ≤ s.tempo.countinWait f) : exec (.countinReceive l f) s = .next (s.acceptCountin l f) := by
  rw [exec_countinReceive, h, hr, if_neg (by decide), if_neg (by decide), if_neg (by omega)]

theorem acceptCountin_frame (s : State) (l : Nat) (f : List Byte) : Frame [.tempo, .cond, .linkTx, .free] s (s.acceptCountin l f) :=
  .via (State.setTempo_frame ..) (by decide) <| .via (State.rewindTo_frame ..) (by decide) ((State.sendCountin_frame ..).mono (by decide))

theorem acceptCountin_linkTx (s : State) (l : Nat) (f : List Byte) : (s.acceptCountin l f).linkTx =
    (s.sendCountin (8 + l / 6) (leAt f 8 4) (leAt f 12 4) (leAt f 16 4) (leAt f 20 2 + 1)).linkTx :=
  (State.rewindTo_frame ..).1 .linkTx (by decide)

theorem acceptCountin_accepted (s : State) (l : Nat) (f : List Byte) : (s.acceptCountin l f).tempo.accepted =
    some ⟨8 + l / 6, leAt f 16 4, (s.tempo.countinWait f).toNat, leAt f 12 4, leAt f 8 4, leAt f 20 2, []⟩ := rfl

/-- A start notice is recorded with the accepted count-in (R78). -/
def State.notice (s : State) (a : CountIn) (d : Nat) : State :=
  s.setTempo { s.tempo with accepted := some { a with noticed := a.noticed ++ [d] } }

/-- A new start notice is recorded, and the Mangle die that did not receive the count-in forwards it (R77, R78). -/
theorem exec_startNotice {d : Fin 12} {s : State} {a : CountIn} (h : s.tempo.accepted = some a) (hn : (d : Nat) ∉ a.noticed) :
    exec (.startNotice d) s = .next (if ((d : Nat) = 8 ∨ (d : Nat) = 9) ∧ a.rx ≠ 10 ∧ (d : Nat) ≠ a.rx then
      (s.notice a d).sendCountin d a.total (a.elapsed + 60) a.startSbar (a.depth + 1) else s.notice a d) := by
  have new : a.noticed.contains (d : Nat) = false := by simpa using hn
  have dies : (d = 8 ∨ d = 9) = ((d : Nat) = 8 ∨ (d : Nat) = 9) := by simp [Fin.ext_iff]
  show execStartNotice d s = _
  simp only [execStartNotice, h, new, Bool.false_eq_true, if_false, dies]
  rfl

/-- Settles O4: a flit that is not obeyed is discarded, one in time is accepted, and the start notice forwards it on the other Mangle die. -/
theorem countinAcceptance : Obligations.CountinAcceptance := by
  unfold Obligations.CountinAcceptance
  refine ⟨fun l f s h => ?discard, fun l f s w hok hk hi ha hrun hacc hp hreg hsl hkk hch hr hw hwait => ?accept, fun d s a h hn => ?notice⟩
  case discard =>
    refine exec_countinReceive_discarded ?_
    cases ho : s.obeys l f with
    | false => rfl
    | true =>
      simp only [State.obeys, Bool.and_eq_true, beq_iff_eq, Bool.not_eq_true', Option.isNone_iff_eq_none] at ho
      obtain ⟨⟨⟨⟨⟨⟨⟨⟨⟨⟨ok, kind⟩, inst⟩, armed⟩, run⟩, acc⟩, par⟩, reg⟩, sl⟩, k⟩, ch⟩ := ho
      simp [ok, kind, inst, armed, run, acc, par, reg, sl, k, ch] at h
  case accept =>
    have ho : s.obeys l f = true := by simp [State.obeys, hok, hk, hi, ha, hrun, hacc, hp, hreg, hsl, hkk, hch]
    have wait : s.tempo.countinWait f = w := by
      by_cases hrub : s.tempo.rubato = true
      · rw [if_pos hrub] at hwait
        rw [Tempo.countinWait, if_pos hrub, hwait]
        rfl
      · rw [if_neg hrub] at hwait
        rw [Tempo.countinWait, if_neg hrub]
        omega
    refine ⟨_, exec_countinReceive_accepted ho hr (by omega), ?_, acceptCountin_linkTx .., acceptCountin_frame ..⟩
    rw [acceptCountin_accepted, wait, Int.toNat_natCast]
  case notice =>
    refine ⟨_, exec_startNotice h hn, ?_⟩
    have record : Frame [.tempo, .linkTx, .free] s (s.notice a d) := (State.setTempo_frame ..).mono (by decide)
    split
    · exact ⟨congrArg Tempo.accepted ((State.sendCountin_frame ..).1 .tempo (by decide)), rfl, record.trans ((State.sendCountin_frame ..).mono (by decide))⟩
    · exact ⟨rfl, rfl, record⟩

end Sys2Proof.Machine
end

section
/-! Downbeats and bar notes (R73, R86 to R97): what is counted, and what raises a fault. -/

namespace Sys2Proof.Machine

/-- A running package has heard the downbeat flit `f` on link `l` (R99). -/
def State.heard (s : State) (l : Nat) (f : List Byte) : State :=
  let seen := tget 0 s.tempo.gotBar l
  s.setTempo { s.tempo with
    gotBar := if seen = 0 ∨ newer 32 (leAt f 8 4) (seen - 1) then tput 0 s.tempo.gotBar l (leAt f 8 4 + 1) else s.tempo.gotBar }

/-- The checks of strict tempo: with no flag the downbeat's error and its place in Score time `t`; HALTED and RUBATO schedule their actions
(R87, R88, R94, R97). -/
def State.checkStrict (s : State) (t : Tempo) (l : Nat) (f : List Byte) (e : Int) : State :=
  if leAt f 1 1 % 8 = 0 then
    let checked := s.checkDrift l e
    if leAt f 8 4 ≠ t.barno ∨ leAt f 12 4 ≠ t.sbar then checked.position l else checked
  else
    let halting := if (leAt f 1 1).testBit 2 then s.scheduleAction .halt else s
    if (leAt f 1 1).testBit 0 then halting.scheduleAction .fallback else halting

/-- The order and the request that a downbeat carries (R109, R111). -/
def State.takeOrder (s : State) (l : Nat) (f : List Byte) : State :=
  let flags := leAt f 26 1
  let s := if flags.testBit 0 then s.adoptOrder l ⟨leAt f 24 2, leAt f 16 4, leAt f 20 4, flags.testBit 1⟩ else s
  if flags.testBit 2 then s.setTempo { s.tempo with reqBar := barMax s.tempo.reqBar (leAt f 28 4) } else s

theorem takeOrder_none {s : State} {l : Nat} {f : List Byte} (h : leAt f 26 1 = 0) : s.takeOrder l f = s := by
  rw [State.takeOrder, h]
  rfl

/-- What a downbeat does, by its form, its link and the tempo. -/
theorem exec_downbeatReceive (l : Fin 12) (f : List Byte) (e : BitVec 16) (s : State) : exec (.downbeatReceive l f e) s = .next (
    if !flitOk f then s.incF TEL_LINK_DB_BAD [(l : Nat)] TEL_LINK_DB_BAD.COUNT 1
    else if leAt f 0 1 ≠ 0xD1 ∨ !s.tempo.running ∨ ((s.linkCfg l).role ≠ 1 ∧ (s.linkCfg l).role ≠ 2) then s
    else
      let heard := s.heard l f
      let placed := if (s.linkCfg l).role = 1 ∧ leAt f 2 1 ≠ s.tempo.region then heard.tempoFault (8 + l / 6) 6 (l % 6) 0 else heard
      let checked :=
        if s.tempo.rubato then if (serialDiff 32 (leAt f 8 4) s.tempo.barno).natAbs ≤ 1 then placed else placed.position l
        else if s.tempo.fallback ∨ (s.linkCfg l).role ≠ 1 then placed
        else placed.checkStrict s.tempo l f e.toInt
      if (s.linkCfg l).role ≠ 1 then checked else checked.takeOrder l f) := rfl

/-- The error of a downbeat in beats: counted up to 2 either way, a fault beyond (R87). -/
theorem checkDrift_eq (s : State) (l : Nat) (e : Int) : s.checkDrift l e =
    if e < -2 ∨ 2 < e then s.tempoFault (8 + l / 6) 0 (l % 6) (BitVec.ofInt 8 (max (-127) (min 127 e))).toNat
    else if e < 0 then s.incF TEL_LINK_DB_EARLY [l] TEL_LINK_DB_EARLY.COUNT 1
    else if 0 < e then s.incF TEL_LINK_DB_LATE [l] TEL_LINK_DB_LATE.COUNT 1 else s := by
  have far : 2 < e.natAbs ↔ e < -2 ∨ 2 < e := by omega
  simp only [State.checkDrift, far]

section
variable {l : Fin 12} {f : List Byte} {s : State}

/-- A good downbeat on an internal link of a strict region, of its own region and with no order or request, is checked as R87 and R88 say. -/
theorem exec_downbeatReceive_strict (e : BitVec 16) (hok : flitOk f = true) (hk : leAt f 0 1 = 0xD1) (hrun : s.tempo.running = true)
    (hrole : (s.linkCfg l).role = 1) (hrub : s.tempo.rubato = false) (hfall : s.tempo.fallback = false) (hreg : leAt f 2 1 = s.tempo.region)
    (hord : leAt f 26 1 = 0) : exec (.downbeatReceive l f e) s = .next ((s.heard l f).checkStrict s.tempo l f e.toInt) := by
  simp [exec_downbeatReceive, hok, hk, hrun, hrole, hrub, hfall, hreg, takeOrder_none hord]

/-- R89, R90: a missing downbeat is counted, and the second bar in a row raises MISSING. -/
theorem exec_downbeatMissing (hrun : s.tempo.running = true) (hg : s.tempo.isGated = false) (hrole : (s.linkCfg l).role = 1)
    (hp : (s.linkCfg l).profile ≠ 2) :
    let u := (s.incF TEL_LINK_DB_MISSING [(l : Nat)] TEL_LINK_DB_MISSING.COUNT 1).setTempo
      { s.tempo with missed := tput 0 s.tempo.missed l (s.tempo.barno + 1) }
    exec (.downbeatMissing l) s = .next (
      if tget 0 s.tempo.missed l ≠ 0 ∧ tget 0 s.tempo.missed l % 2 ^ 32 = s.tempo.barno then u.tempoFault (8 + l / 6) 2 (l % 6) 0 else u) := by
  have watched : (s.tempo.running && !s.tempo.isGated && (s.linkCfg l).role == 1 && (s.linkCfg l).profile != 2) = true := by
    simp [hrun, hg, hrole, hp]
  show execDownbeatMissing l s = _
  simp only [execDownbeatMissing, watched, if_true]
  rfl

end

/-- R73: a bar note within 2 beats of its exact beat changes nothing, and one further off raises SEAM. -/
theorem exec_barNoteReceive {d : Fin 10} {p : Fin 4} {s : State} (e : BitVec 16) (hrun : s.tempo.running = true) :
    exec (.barNoteReceive d p e) s = .next (
      if 2 < e.toInt ∨ e.toInt < -2 then s.tempoFault d 7 p (BitVec.ofInt 8 (max (-127) (min 127 e.toInt))).toNat else s) := by
  have far : 2 < e.toInt.natAbs ↔ 2 < e.toInt ∨ e.toInt < -2 := by omega
  show execBarNoteReceive d p e s = _
  simp only [execBarNoteReceive, hrun, Bool.true_and, decide_eq_true_eq, far]

/-- Settles O5: the checks of a downbeat by its flags, and those of a missing downbeat and of a bar note. -/
theorem downbeatChecks : Obligations.DownbeatChecks := by
  unfold Obligations.DownbeatChecks
  refine ⟨fun l f e s h => ?bad, fun l f e s hok hk hrun hrole hrub hfall hreg hord => ?strict,
    fun l s hrun hg hrole hp => exec_downbeatMissing hrun hg hrole hp, fun d p e s hrun => exec_barNoteReceive e hrun⟩
  case bad =>
    rw [exec_downbeatReceive, h]
    rfl
  case strict =>
    have next := exec_downbeatReceive_strict e hok hk hrun hrole hrub hfall hreg hord
    refine ⟨fun hfl hb hs => ?_, fun hfl => ?_, fun hfl => ?_⟩
    · rw [next, State.checkStrict, if_pos hfl, if_neg (by simp [hb, hs]), checkDrift_eq]
      rfl
    · rw [next, State.checkStrict, hfl]
      rfl
    · rw [next, State.checkStrict, hfl]
      rfl

end Sys2Proof.Machine
end

section
/-! SCORE_STOP, FERMATA and the cutoff of the bar (R61, R112, R116, R328 to R330). -/

namespace Sys2Proof.Machine

/-- Every Conductor shows that a stop is due (SCR_STATUS.STOPPING). -/
def State.showStopping (s : State) : State := s.condDies.foldl (fun s d => s.setF SCR_STATUS [d] SCR_STATUS.STOPPING 1) s

theorem showStopping_frame (s : State) : Frame [.regs] s s.showStopping :=
  .foldl (fun _ _ k => .via (State.setF_frame ..) (by decide) k) _ _ (.refl _ _)

/-- The parameters of SCORE_STOP do not stand (R330). -/
@[reducible] def State.StopBad (s : State) (c : Cmd) : Prop := 2 ≤ c.par 0 1 ∨ c.par 2 14 ≠ 0 ∨ (s.tempo.k ≠ 0 ∧ c.par 1 1 ≠ s.tempo.region)

section
variable {s : State} {c : Cmd}

theorem exec_scoreStop (ha : s.Accepts c 0x0305) : exec (.scoreStop c) s = .next (
    if s.StopBad c then s.complete c stBadParam []
    else if s.tempo.running then
      (s.showStopping.setTempo { s.showStopping.tempo with
        actions := s.showStopping.tempo.actions ++ [(s.showStopping.raisedBar, .stop (c.par 0 1 == 1) c)] }).wait .stopBar c
    else
      let idle := if s.tempo.armed then s.disarm else s
      let left := if c.par 0 1 == 1 then idle.unload else idle
      left.complete c stOk (leBytes 4 s.tempo.barno ++ leBytes 4 s.tempo.sbar ++ leBytes 4 left.cueCount)) := by
  have bad : (!c.parZero 2 14) = true ↔ c.par 2 14 ≠ 0 := by simp [Cmd.parZero]
  show execScoreStop c s = _
  rw [execScoreStop, runCmd_of_accepts ha]
  simp only [bad]
  rfl

/-- On a package that has nothing to stop, disarm or unload, SCORE_STOP only answers (R329, R330). -/
theorem exec_scoreStop_idle (ha : s.Accepts c 0x0305) (hb : ¬s.StopBad c) (hrun : s.tempo.running = false) (harm : s.tempo.armed = false)
    (hu : c.par 0 1 = 0) :
    exec (.scoreStop c) s = .next (s.complete c stOk (leBytes 4 s.tempo.barno ++ leBytes 4 s.tempo.sbar ++ leBytes 4 s.cueCount)) := by
  rw [exec_scoreStop ha, if_neg hb, hrun, harm, hu]
  rfl

/-- On a running package the stop is scheduled, and its command waits (R328). -/
theorem exec_scoreStop_running (ha : s.Accepts c 0x0305) (hb : ¬s.StopBad c) (hrun : s.tempo.running = true) :
    Completes (exec (.scoreStop c) s) (fun t =>
      t.tempo = { s.tempo with actions := s.tempo.actions ++ [(s.raisedBar, .stop (c.par 0 1 == 1) c)] } ∧
      t.front.waiting = s.front.waiting ++ [(.stopBar, c)] ∧ Frame [.regs, .tempo, .front] s t) := by
  have shown := showStopping_frame s
  have tempo : s.showStopping.tempo = s.tempo := shown.1 .tempo (by decide)
  have front : s.showStopping.front = s.front := shown.1 .front (by decide)
  rw [exec_scoreStop ha, if_neg hb, if_pos hrun]
  refine ⟨_, rfl, ?_, ?_, .via (State.wait_frame ..) (by decide) <| .via (State.setTempo_frame ..) (by decide) (shown.mono (by decide))⟩
  · rw [State.wait_tempo, State.setTempo_tempo, State.raisedBar, tempo]
    rfl
  · rw [← front]
    rfl

/-- The checks of FERMATA (R116), and the request that it leaves (R61, R112). -/
theorem exec_fermata (ha : s.Accepts c 0x0304) : exec (.fermata c) s = .next (
    if s.tempo.anchor = false ∨ s.tempo.running = false ∨ c.par 1 1 ≠ s.tempo.region ∨ c.par 2 14 ≠ 0 then s.complete c stBadParam []
    else if s.tempo.halted then s.complete c stTempoFault []
    else s.setTempo { s.tempo with ferm := s.tempo.ferm ++ [⟨s.raisedBar, c.par 0 1, .command c⟩] }) := by
  have bad : (!s.tempo.anchor || !s.tempo.running || c.par 1 1 != s.tempo.region || !c.parZero 2 14) = true ↔
      s.tempo.anchor = false ∨ s.tempo.running = false ∨ c.par 1 1 ≠ s.tempo.region ∨ c.par 2 14 ≠ 0 := by
    simp [Cmd.parZero, or_assoc]
  show execFermata c s = _
  rw [execFermata, runCmd_of_accepts ha]
  simp only [bad]

end

/-- The cutoff freezes the view of a running package (R61, R71). -/
theorem exec_barNoteCutoff {s : State} (hrun : s.tempo.running = true) :
    exec .barNoteCutoff s = .next (s.setTempo { s.tempo.atBeat (s.tempo.e - 192) with frozen := true }) := by
  show execBarNoteCutoff s = _
  rw [execBarNoteCutoff, if_pos hrun]

/-- Settles O7: SCORE_STOP and FERMATA by the checks they pass, and the cutoff's view. -/
theorem scoreStopAndFermata : Obligations.ScoreStopAndFermata := by
  unfold Obligations.ScoreStopAndFermata
  refine ⟨fun s c ha hu hz hreg => ?stop, fun s c ha hb => ?stopBad, fun s c ha => ?fermata, fun s hrun => ?cutoff⟩
  case stop =>
    have good : ¬s.StopBad c := by
      rintro (h | h | ⟨hk, h⟩)
      · omega
      · exact h hz
      · exact h (hreg hk)
    exact ⟨fun hrun harm hu0 => exec_scoreStop_idle ha good hrun harm hu0, exec_scoreStop_running ha good⟩
  case stopBad => rw [exec_scoreStop ha, if_pos hb]
  case fermata =>
    refine ⟨fun hb => by rw [exec_fermata ha, if_pos hb], fun hanchor hrun hreg hz => ?_⟩
    rw [exec_fermata ha, if_neg (by simp [hanchor, hrun, hreg, hz])]
  case cutoff => exact ⟨_, exec_barNoteCutoff hrun, rfl, rfl, State.setTempo_frame ..⟩

end Sys2Proof.Machine
end

section
/-! The reference PLL and the root PLLs (R130, R135, R866): two states in which the clocks' statements fail. -/

namespace Sys2Proof.Machine

/-! ### A reference that is no source -/

/-- Forwarded mode without a backup: the PLL follows its tempo-source link, which is not qualified. -/
def State.sourceUnqualified : State :=
  (State.reset.setF CLK_FWD_CFG [] CLK_FWD_CFG.MODE 1).setF CLK_REF_STATUS [] CLK_REF_STATUS.ACTIVE 2

/-- REFCLK_A is no source in forwarded mode (R146), so its qualification leaves the PLL without one, and R136 puts it into holdover. -/
theorem sourceUnqualified_refQualified :
    Completes (exec (.refQualified 0 0) State.sourceUnqualified) (fun t => t.refActive = 4) :=
  ⟨_, rfl, by decide⟩

/-- Refutes O8: the statement has a source that the PLL follows stay active in every well-formed state. Such a state may have no qualified
source; there the qualification of an input that is no source, REFCLK_A in forwarded mode, ends in holdover. -/
theorem not_referenceLossAndReturn : ¬ Obligations.ReferenceLossAndReturn := by
  unfold Obligations.ReferenceLossAndReturn
  rintro ⟨-, qualified, -, -⟩
  have wf : State.sourceUnqualified.wf := by unfold State.wf; decide
  obtain ⟨t, ht, -, active, -⟩ := qualified 0 0 _ wf (by decide) (by decide)
  obtain ⟨t', ht', holdover⟩ := sourceUnqualified_refQualified
  obtain rfl : t = t' := Host.Outcome.next.inj (ht.symm.trans ht')
  have following : State.sourceUnqualified.refActive = 2 := by decide
  omega

/-! ### C0's root PLL before the security module's firmware -/

/-- The state that a command leaves; a command that does not complete leaves `s`. -/
def State.after (s : State) (f : State → Host.Outcome State Fault Refusal) : State :=
  match f s with
  | .next t => t
  | _ => s

/-- A boot in stage 2 whose C0 lost its lock for more than 1 µs: its reset is released, and its root PLL is about to lock again. -/
def State.c0Relocking : State :=
  (((State.reset.after (execRefQualified 0 0)).after (execColdResetRelease 0 true none 0)).after (execRootPllLockLoss 10 true)).after
    (execResetRelease 267)

theorem c0Relocking_reached : ∃ t u v : State, exec (.refQualified 0 0) .reset = .next t ∧ exec (.coldResetRelease 0 true none 0) t = .next u ∧
    exec (.rootPllLockLoss 10 true) u = .next v ∧ exec (.resetRelease 267) v = .next State.c0Relocking :=
  ⟨_, _, _, rfl, rfl, rfl, rfl⟩

/-- The boot ROM has not yet entered the security module's firmware (R866): the module stays in BOOT. -/
theorem c0Relocking_rootPllLock : Completes (exec (.rootPllLock 10 none) State.c0Relocking) (fun t => t.smState = 0) :=
  ⟨_, rfl, by decide⟩

/-- A start whose tests pass takes the module out of BOOT. -/
theorem smState_smStart_none_ne_boot {s : State} (h : tok 0 s.regs = true) : (s.smStart none).smState ≠ 0 := by
  obtain ⟨-, state, -⟩ := smStart_passed h
  rw [state]
  split <;> decide

/-- Refutes O9: the statement has the security module start whenever C0's root PLL locks with C0 in reset. In stage 2 of a boot it does not,
for its firmware is entered only in stage 3 (R866, R940). -/
theorem not_clockConfiguration : ¬ Obligations.ClockConfiguration := by
  unfold Obligations.ClockConfiguration
  rintro ⟨-, -, -, -, lock⟩
  have wf : State.c0Relocking.wf := by unfold State.wf; decide
  obtain ⟨u, -, -, frame, -, -, starts⟩ := lock 10 none State.c0Relocking wf (by decide) (by decide) (by decide)
    (by decide) (by decide) (.inl (by decide))
  obtain ⟨t, ht, boot⟩ := c0Relocking_rootPllLock
  have same := Host.Outcome.next.inj (ht.symm.trans (starts (by decide) rfl))
  have released : tok 0 ((u.trainSeams 10).clrBits RST_DIE [] (2 ^ 10)).regs = true :=
    (State.clrBits_frame ..).tok ((State.trainSeams_frame ..).tok (frame.tok wf.2))
  exact smState_smStart_none_ne_boot released (same ▸ boot)

end Sys2Proof.Machine
end

section
/-! Sections and bank pairs of a Press: reading a section after it was replaced, what `retireAt` and `waitAt` leave, and one bit of
a mask cleared or set. -/

namespace Sys2Proof.Machine

/-! ### One bit of a mask -/

/-- A number around its bit `i`: what lies above it, the bit, and what lies below it. -/
theorem testBit_around (n i b : Nat) (hb : n / 2 ^ i % 2 = b) : n = 2 ^ i * (2 * (n / 2 ^ i / 2) + b) + n % 2 ^ i := by
  rw [← hb, Nat.div_add_mod, Nat.div_add_mod]

/-- Subtracting a bit that is set clears it and no other. -/
theorem testBit_sub_two_pow {n i : Nat} (h : n.testBit i = true) (j : Nat) : (n - 2 ^ i).testBit j = (decide (j ≠ i) && n.testBit j) := by
  have hn := testBit_around n i 1 (by simpa [Nat.testBit_eq_decide_div_mod_eq] using h)
  have hr := Nat.mod_lt n (Nat.two_pow_pos i)
  generalize n / 2 ^ i / 2 = q at hn
  generalize n % 2 ^ i = r at hn hr
  have hm : n - 2 ^ i = 2 ^ i * (2 * q) + r := by rw [hn, Nat.mul_add]; omega
  rw [hm, hn, Nat.testBit_two_pow_mul_add _ hr, Nat.testBit_two_pow_mul_add _ hr]
  rcases Nat.lt_trichotomy j i with hj | rfl | hj
  · simp [hj, hj.ne]
  · simp
  · obtain ⟨k, rfl⟩ := Nat.exists_eq_add_of_lt hj
    simp [show ¬ i + k + 1 < i by omega, show i + k + 1 - i = k + 1 by omega, show i + k + 1 ≠ i by omega, Nat.testBit_succ,
      show (2 * q + 1) / 2 = q by omega]

/-- Adding a bit that is clear sets it and no other. -/
theorem testBit_add_two_pow {n i : Nat} (h : n.testBit i = false) (j : Nat) : (n + 2 ^ i).testBit j = (decide (j = i) || n.testBit j) := by
  have set : (n + 2 ^ i).testBit i = true := by rw [Nat.add_comm, Nat.testBit_two_pow_add_eq, h]; rfl
  have := testBit_sub_two_pow set j
  rw [Nat.add_sub_cancel] at this
  by_cases hj : j = i
  · simp [hj, set]
  · simpa [hj] using this.symm

/-! ### Sections -/

section
variable {s : State} {p k : Nat}

/-- The numbers of two sections differ as their Presses or their places do. -/
theorem sect_index_ne {q j : Nat} (hk : k < 4) (hj : j < 4) (h : q ≠ p ∨ j ≠ k) : 4 * q + j ≠ 4 * p + k := by omega

theorem sect_setSect_same (h : tok {} s.sects = true) (x : Section) : (s.setSect p k x).sect p k = x := tget_tput_same ({} : Section) _ x h

theorem sect_setSect_ne {q j : Nat} (x : Section) (h : 4 * q + j ≠ 4 * p + k) : (s.setSect p k x).sect q j = s.sect q j :=
  tget_tput_ne ({} : Section) _ x h

theorem setSect_sects_tok (x : Section) (h : tok {} s.sects = true) : tok {} (s.setSect p k x).sects = true := tok_tput {} _ x h

theorem sect_congr {t : State} (h : t.sects = s.sects) (q j : Nat) : t.sect q j = s.sect q j := by rw [State.sect, h]; rfl

@[simp] theorem Section.setTile_pendW (x : Section) (n : Nat) (bs : List Byte) : (x.setTile n bs).pendW = x.pendW := rfl
@[simp] theorem Section.setTile_st (x : Section) (n : Nat) (bs : List Byte) : (x.setTile n bs).st = x.st := rfl
@[simp] theorem Section.setAcc_pendW (x : Section) (n : Nat) (vs : List (BitVec 32)) : (x.setAcc n vs).pendW = x.pendW := rfl
@[simp] theorem Section.setAcc_st (x : Section) (n : Nat) (vs : List (BitVec 32)) : (x.setAcc n vs).st = x.st := rfl

theorem goto_eq {x : Section} (n : Nat) (hp : x.pendW = []) (hs : x.st ≠ .pausing) :
    x.goto n = { x with next := n, pc := n, st := .running, wait := .none, row := 0, inStrip := false } := by
  simp [Section.goto, hp, hs]

theorem hold_eq {x : Section} (i : Nat) (w : SecWait) (hp : x.pendW = []) :
    x.hold i w = { x with next := i, pc := i, st := .waiting, wait := w } := by
  simp [Section.hold, hp]

/-- An instruction that retires leaves its section with the registers it set, at the next instruction. -/
theorem retireAt_retired {t : State} (i : Nat) (f : Section → Section) (ht : t.sects = s.sects) (hp : (f (s.sect p k)).pendW = [])
    (hs : (f (s.sect p k)).st ≠ .pausing) : Retired s (t.retireAt p k i f) p k (i + 1) (f (s.sect p k)) := by
  rw [Retired, State.retireAt, sect_congr ht, goto_eq _ hp hs, State.setSect, ht]

/-- An instruction that waits leaves its section WAITING. -/
theorem waitAt_waits {t : State} (i : Nat) (w : SecWait) (ht : t.sects = s.sects) (hp : (s.sect p k).pendW = []) :
    Waits s (t.waitAt p k i w) p k i w := by
  rw [Waits, State.waitAt, sect_congr ht, hold_eq _ _ hp, State.setSect, ht]

end

/-! ### Bank pairs -/

section
variable {s : State} {p k : Nat}

theorem gated_congr {t : State} (hr : t.getF SCT_BANKMASK (six p k) SCT_BANKMASK.GATE = s.getF SCT_BANKMASK (six p k) SCT_BANKMASK.GATE)
    (hx : t.sects = s.sects) (i : Nat) : t.gated p k i = s.gated p k i := by rw [State.gated, hr, sect_congr hx]; rfl

theorem waking_congr {t : State} (hr : t.getF SCT_BANKMASK (six p k) SCT_BANKMASK.WAKING = s.getF SCT_BANKMASK (six p k) SCT_BANKMASK.WAKING)
    (i : Nat) : t.waking p k i = s.waking p k i := by rw [State.waking, hr]; rfl

/-- A bit of a mask of at most 64 bits read back after the mask was written. -/
theorem testBit_getF_setF (r : Reg) (ix : List Nat) (f : Fld) (x i : Nat) (h : tok 0 s.regs = true) (hf : f.lo + f.width ≤ 64)
    (hi : i < f.width) : ((s.setF r ix f x).getF r ix f).testBit i = x.testBit i := by
  rw [getF_setF_same _ _ _ _ _ h hf, Nat.testBit_mod_two_pow, decide_eq_true hi, Bool.true_and]

/-- The pair `b` is awake: its WAKING bit is cleared (R184). -/
def State.endWake (s : State) (p k b : Nat) : State :=
  s.setF SCT_BANKMASK (six p k) SCT_BANKMASK.WAKING (s.getF SCT_BANKMASK (six p k) SCT_BANKMASK.WAKING - 2 ^ b)

theorem endWake_frame (b : Nat) : Frame [.regs] s (s.endWake p k b) := State.setF_frame ..

theorem waking_endWake {b c : Nat} (h : tok 0 s.regs = true) (hb : s.waking p k b = true) (hc : c < 8) :
    (s.endWake p k b).waking p k c = (decide (c ≠ b) && s.waking p k c) := by
  rw [State.waking, State.endWake, testBit_getF_setF _ _ _ _ _ h (by decide) hc, testBit_sub_two_pow hb]; rfl

end

/-! ### BANK_WAKE_DONE and GATE_TAKES_EFFECT -/

section
variable {s : State} {p : Fin 256} {k : Fin 4} {b : Fin 8}

theorem exec_bankWakeDone (hb : s.waking p k b = true) : exec (.bankWakeDone p k b) s = .next (
    if (s.sect p k).st = .waiting ∧ (s.sect p k).wait = .wake then
      match (s.endWake p k b).partAt p k with
      | some (n, pw) => if pw.i.tiles.any (fun t => (s.endWake p k b).waking p k (pairOf t)) then s.endWake p k b
        else (s.endWake p k b).tileEffect p k n 0 pw.i
      | none => s.endWake p k b
    else s.endWake p k b) := by
  show execBankWakeDone p k b s = _
  simp only [execBankWakeDone, hb, if_true, Bool.and_eq_true, beq_iff_eq]
  rfl

theorem exec_gateTakesEffect (hb : (s.sect p k).gatePend.testBit b = true) (hw : (s.sect p k).wait ≠ .wake) :
    exec (.gateTakesEffect p k b) s = .next (s.setSect p k { s.sect p k with gatePend := (s.sect p k).gatePend - 2 ^ (b : Nat) }) := by
  show execGateTakesEffect p k b s = _
  simp [execGateTakesEffect, hb, beq_false_of_ne hw]

end

theorem tileEffect_tzero (s : State) (p k i upto rd : Nat) :
    s.tileEffect p k i upto (.tzero rd) = s.retireAt p k i (fun y => y.setTile rd (List.replicate 512 0)) := rfl

theorem partAt_endWake (s : State) (p k b : Nat) : (s.endWake p k b).partAt p k = s.partAt p k := rfl

/-- Settles O14: the WAKING bit of the pair goes, the waiting TZERO finds its pair awake, and the pending GATE bit ends. -/
theorem bankGating : Obligations.BankGating := by
  refine ⟨fun p k b s hwf hb hw => ?_, fun p k b s i rd sm v hwf hb hst hw hp hat hrd => ?_, fun p k b s hb hw htok => ?_⟩
  · refine ⟨s.endWake p k b, by rw [exec_bankWakeDone hb, if_neg (fun h => hw h.2)], ?_, fun c hc => ?_, setF_kept _ _ _ _ _, endWake_frame _⟩
    · simp [waking_endWake hwf.2 hb b.2]
    · simp [waking_endWake hwf.2 hb c.2, Fin.val_ne_of_ne hc]
  · have awake : (s.endWake p k b).waking p k (pairOf rd) = false := by
      rw [hrd, waking_endWake hwf.2 hb b.2]; simp
    refine ⟨(s.endWake p k b).retireAt p k i (fun y => y.setTile rd (List.replicate 512 0)), ?_,
      retireAt_retired i _ rfl ((Section.setTile_pendW _ _ _).trans hp) (by rw [Section.setTile_st, hst]; decide),
      ((endWake_frame _).mono (by decide)).trans ((State.retireAt_frame _ _ _ _ _).mono (by decide))⟩
    rw [exec_bankWakeDone hb, if_pos ⟨hst, hw⟩, partAt_endWake, hat]
    simp only [PInstr.tiles, List.any_cons, List.any_nil, awake, Bool.or_false, Bool.false_eq_true, if_false, tileEffect_tzero]
  · refine ⟨_, exec_gateTakesEffect hb hw, ?_, rfl, State.setSect_frame ..⟩
    rw [State.gated, sect_setSect_same htok, testBit_sub_two_pow hb]
    simp
    rfl

end Sys2Proof.Machine
end

section
/-! Boards and the registers of a Press: where its registers lie (R46, R167), and which bytes a Board write changes (R243, R348). -/

namespace Sys2Proof.Machine

/-! ### Where the registers of a Press lie -/

theorem addr_pix {r : Reg} (hd : r.dies = some (0, 7)) (hs : r.dims = [(32, 0x4000)]) (p : Nat) :
    r.addr (pix p) = dieWin (p / 32) + r.off + p % 32 * 0x4000 := by simp [Reg.addr, hd, hs, pix, dimOff]

theorem addr_six {r : Reg} (hd : r.dies = some (0, 7)) (hs : r.dims = [(32, 0x4000), (4, 0x400)]) (p k : Nat) :
    r.addr (six p k) = dieWin (p / 32) + r.off + (p % 32 * 0x4000 + k * 0x400) := by simp [Reg.addr, hd, hs, six, dimOff]

/-- Two registers of one Press lie apart when their offsets in its window do. -/
theorem addr_pix_ne {r q : Reg} (hr : r.dies = some (0, 7)) (hrs : r.dims = [(32, 0x4000)]) (hq : q.dies = some (0, 7))
    (hqs : q.dims = [(32, 0x4000)]) (h : r.off ≠ q.off) (p : Nat) : r.addr (pix p) ≠ q.addr (pix p) := by
  rw [addr_pix hr hrs, addr_pix hq hqs]; omega

/-- The registers of the dies of Presses lie in the windows of R46, and nothing else there. -/
theorem dieWin_press {p : Nat} (hp : p < 256) : 0x0080_0000 ≤ dieWin (p / 32) ∧ dieWin (p / 32) ≤ 0x00F0_0000 := by
  have : p / 32 < 8 := by omega
  simp only [dieWin, this, if_true]
  omega

/-! ### Bytes -/

@[simp] theorem leBytes_length : ∀ (n v : Nat), (leBytes n v).length = n
  | 0, _ => rfl
  | n + 1, v => by rw [leBytes, List.length_cons, leBytes_length n]

theorem leBytes_getD : ∀ (n v i : Nat), i < n → (leBytes n v).getD i 0 = BitVec.ofNat 8 (v / 256 ^ i)
  | n + 1, v, 0, _ => by simp [leBytes]
  | n + 1, v, i + 1, h => by
    rw [leBytes, List.getD_cons_succ, leBytes_getD n _ i (by omega), Nat.div_div_eq_div_mul, Nat.pow_succ']

theorem leNat_leBytes : ∀ (n v : Nat), leNat (leBytes n v) = v % 256 ^ n
  | 0, v => by simp [leBytes, leNat, Nat.mod_one]
  | n + 1, v => by
    rw [leBytes, leNat, leNat_leBytes n, BitVec.toNat_ofNat, Nat.pow_succ' (n := n), Nat.mod_mul (a := 256)]

/-! ### Board addresses -/

theorem boardOff_inj {p a b : Nat} : boardOff p a = boardOff p b ↔ a % 2 ^ 20 = b % 2 ^ 20 := by
  simp only [boardOff]; omega

/-- Within one turn around the Board, different addresses are different bytes. -/
theorem boardOff_add_ne {p a i j : Nat} (hi : i < 2 ^ 20) (hj : j < 2 ^ 20) (h : i ≠ j) : boardOff p (a + i) ≠ boardOff p (a + j) := by
  rw [Ne, boardOff_inj]; omega

/-! ### A Board write -/

theorem putBoard_ne (p o : Nat) : ∀ (bs : List Byte) (m : List Host.Cell) (a : Nat), (∀ i, i < bs.length → o ≠ boardOff p (a + i)) →
    tget 0 (putBoard m p a bs) o = tget 0 m o
  | [], _, _, _ => rfl
  | b :: bs, m, a, h => by
    have tail : ∀ i, i < bs.length → o ≠ boardOff p (a + 1 + i) := fun i hi => by
      rw [Nat.add_assoc, Nat.add_comm 1 i]
      exact h (i + 1) (by simpa using hi)
    have head : o ≠ boardOff p a := h 0 (by simp)
    rw [putBoard, putBoard_ne p o bs _ _ tail, tget_tput_ne 0 m b head]

theorem putBoard_at (p : Nat) : ∀ (bs : List Byte) {m : List Host.Cell} (a i : Nat), tok 0 m = true → bs.length ≤ 2 ^ 20 → i < bs.length →
    tget 0 (putBoard m p a bs) (boardOff p (a + i)) = bs.getD i 0
  | b :: bs, m, a, 0, hm, hl, _ => by
    rw [putBoard, putBoard_ne p _ bs _ _ (fun i hi => ?_)]
    · exact tget_tput_same 0 _ b hm
    · rw [Nat.add_assoc]
      exact boardOff_add_ne (by omega) (by simp at hl; omega) (by omega)
  | b :: bs, m, a, i + 1, hm, hl, hi => by
    rw [putBoard, show a + (i + 1) = a + 1 + i by omega, putBoard_at p bs (a + 1) i (tok_tput 0 _ b hm) (by simp at hl; omega) (by simpa using hi)]
    rfl

section
variable {s : State} {p a : Nat} {bs : List Byte}

/-- A byte that is none of those written reads as before. -/
theorem mbyte_writeBoard_ne {o : Nat} (h : ∀ i, i < bs.length → o ≠ boardOff p (a + i)) : (s.writeBoard p a bs).mbyte o = s.mbyte o :=
  putBoard_ne p o bs s.mem a h

theorem mbyte_writeBoard_at {i : Nat} (hm : tok 0 s.mem = true) (hl : bs.length ≤ 2 ^ 20) (hi : i < bs.length) :
    (s.writeBoard p a bs).mbyte (boardOff p (a + i)) = bs.getD i 0 := putBoard_at p bs a i hm hl hi

theorem readBoard_length (n : Nat) : (s.readBoard p a n).length = n := by simp [State.readBoard]

theorem readBoard_congr {t : State} (h : t.mem = s.mem) (n : Nat) : t.readBoard p a n = s.readBoard p a n := by
  simp only [State.readBoard, State.mbyte, h]

end

/-! ### Holds and scoreboards -/

theorem heldRange_congr {s t : State} (h : t.press = s.press) (p a n : Nat) : t.heldRange p a n = s.heldRange p a n := by
  simp only [State.heldRange, State.holdCount, State.prs, h]

theorem readWaits_congr {s t : State} (h : t.queues = s.queues) (p a n : Nat) : t.readWaits p a n = s.readWaits p a n := by
  have : t.loadPend p = s.loadPend p := by funext b; simp only [State.loadPend, h]
  simp only [State.readWaits, this]

theorem writeWaits_congr {s t : State} (h : t.queues = s.queues) (p a n : Nat) : t.writeWaits p a n = s.writeWaits p a n := by
  simp only [State.writeWaits, State.loadPend, State.storePend, h]

end Sys2Proof.Machine
end

section
/-! Debug access to a Board (R204 to R206, R219): the address that advances, the bytes that move, and the two refusals. -/

namespace Sys2Proof.Machine

section
variable {s : State} {p : Nat}

theorem PRS_STATUS_ne_BOARD_ADDR (p : Nat) : PRS_STATUS.addr (pix p) ≠ PRS_BOARD_ADDR.addr (pix p) :=
  addr_pix_ne rfl rfl rfl rfl (by decide) p

/-- PRS_BOARD_ADDR names the next 8 bytes, unless only the lower half of PRS_BOARD_DATA was accessed. -/
def Advanced (p : Nat) (lower : Bool) (s t : State) : Prop :=
  t.getF PRS_BOARD_ADDR (pix p) PRS_BOARD_ADDR.ADDR =
    if lower then s.getF PRS_BOARD_ADDR (pix p) PRS_BOARD_ADDR.ADDR else (s.getF PRS_BOARD_ADDR (pix p) PRS_BOARD_ADDR.ADDR + 1) % 2 ^ 17

theorem advanceBoard_advanced (lower : Bool) (h : tok 0 s.regs = true) : Advanced p lower s (s.advanceBoard p lower) := by
  cases lower with
  | true => rfl
  | false => exact getF_setF_same s _ _ _ _ h (by decide)

theorem advanceBoard_kept (lower : Bool) : RegsKept [PRS_BOARD_ADDR.addr (pix p)] s (s.advanceBoard p lower) :=
  .ite (fun _ => .refl _ s) (fun _ => setF_kept _ _ _ _ _)

/-- An access that is refused or discarded sets a bit of PRS_STATUS and advances the address all the same (R204). -/
theorem advanceBoard_setBit (lower : Bool) (f : Fld) (h : tok 0 s.regs = true) (hf : f.lo + f.width ≤ 64) (hw : 1 ≤ f.width) :
    Advanced p lower s ((s.setBit PRS_STATUS (pix p) f).advanceBoard p lower) ∧
    ((s.setBit PRS_STATUS (pix p) f).advanceBoard p lower).bit PRS_STATUS (pix p) f = true ∧
    RegsKept [PRS_BOARD_ADDR.addr (pix p), PRS_STATUS.addr (pix p)] s ((s.setBit PRS_STATUS (pix p) f).advanceBoard p lower) := by
  have kept := setF_kept s PRS_STATUS (pix p) f 1
  have same := kept.getF_eq PRS_BOARD_ADDR.ADDR (r := PRS_BOARD_ADDR) (ix := pix p) (by simpa using (PRS_STATUS_ne_BOARD_ADDR p).symm)
  refine ⟨?_, ?_, ((RegsKept.refl _ s).then kept (by simp)).then (advanceBoard_kept lower) (by simp)⟩
  · have := advanceBoard_advanced (s := s.setBit PRS_STATUS (pix p) f) (p := p) lower (setF_tok _ _ _ _ _ h)
    rwa [Advanced, State.setBit, same] at this
  · rw [State.bit, (advanceBoard_kept lower).getF_eq _ (by simpa using PRS_STATUS_ne_BOARD_ADDR p)]
    exact bit_setBit_same s _ _ f h hf hw

/-- The bytes of PRS_BOARD_DATA that an access of one form moves stop short of its upper half. -/
theorem half_lower (h : Fin 3) : decide (halfLo h + halfLen h < 8) = decide (h = 1) := by decide +revert

theorem halfLen_le (h : Fin 3) : halfLen h ≤ 8 := by decide +revert

end

section
variable {s : State} {p : Fin 256} (h : Fin 3)

theorem exec_boardDebugRead (hg : s.regGone PRS_BOARD_DATA (pix p) = false) : exec (.boardDebugRead p h) s =
    .next { (s.boardDebugRead p (halfLo h) (halfLen h)).1 with
      front := { (s.boardDebugRead p (halfLo h) (halfLen h)).1.front with readData := BitVec.ofNat 64 (s.boardDebugRead p (halfLo h) (halfLen h)).2 } } := by
  show execBoardDebugRead p h s = _
  rw [execBoardDebugRead, hg]; rfl

theorem exec_boardDebugWrite (d : Word) (hg : s.regGone PRS_BOARD_DATA (pix p) = false) :
    exec (.boardDebugWrite p h d) s = .next (s.boardDebugWrite p (halfLo h) (leBytes (halfLen h) d.toNat)) := by
  show execBoardDebugWrite p h d s = _
  rw [execBoardDebugWrite, hg]; rfl

end

section
variable {s : State} {p : Nat}

/-- A read with the debug lock open (R204). -/
theorem boardDebugRead_open (lo n : Nat) (ho : s.debugOpen = true) : s.boardDebugRead p lo n =
    (s.advanceBoard p (decide (lo + n < 8)), leNat (s.readBoard p (8 * s.getF PRS_BOARD_ADDR (pix p) PRS_BOARD_ADDR.ADDR + lo) n)) := by
  simp [State.boardDebugRead, ho]

/-- A read with the debug lock closed (R205). -/
theorem boardDebugRead_closed (lo n : Nat) (ho : s.debugOpen = false) : s.boardDebugRead p lo n =
    ((s.setBit PRS_STATUS (pix p) PRS_STATUS.DBG_DENIED).advanceBoard p (decide (lo + n < 8)), 0) := by
  simp [State.boardDebugRead, ho]

/-- A write with the debug lock open to blocks that no hold covers (R204). -/
theorem boardDebugWrite_open {lo : Nat} {bs : List Byte} (ho : s.debugOpen = true)
    (hh : s.heldRange p (8 * s.getF PRS_BOARD_ADDR (pix p) PRS_BOARD_ADDR.ADDR + lo) bs.length = false) : s.boardDebugWrite p lo bs =
    (s.writeBoard p (8 * s.getF PRS_BOARD_ADDR (pix p) PRS_BOARD_ADDR.ADDR + lo) bs).advanceBoard p (decide (lo + bs.length < 8)) := by
  simp [State.boardDebugWrite, ho, hh]

/-- A write with the debug lock open to a held block (R206). -/
theorem boardDebugWrite_held {lo : Nat} {bs : List Byte} (ho : s.debugOpen = true)
    (hh : s.heldRange p (8 * s.getF PRS_BOARD_ADDR (pix p) PRS_BOARD_ADDR.ADDR + lo) bs.length = true) : s.boardDebugWrite p lo bs =
    (s.setBit PRS_STATUS (pix p) PRS_STATUS.DBG_HELD).advanceBoard p (decide (lo + bs.length < 8)) := by
  simp [State.boardDebugWrite, ho, hh]

/-- A write with the debug lock closed (R205). -/
theorem boardDebugWrite_closed {lo : Nat} {bs : List Byte} (ho : s.debugOpen = false) : s.boardDebugWrite p lo bs =
    (s.setBit PRS_STATUS (pix p) PRS_STATUS.DBG_DENIED).advanceBoard p (decide (lo + bs.length < 8)) := by
  simp [State.boardDebugWrite, ho]

theorem advanceBoard_mem (lower : Bool) : (s.advanceBoard p lower).mem = s.mem := (State.advanceBoard_frame s p lower).1 .mem (by decide)

end

/-- Settles O11: by the debug lock and, for a write, by the holds on its blocks; each case advances the address alike. -/
theorem boardDebugAccess : Obligations.BoardDebugAccess := by
  intro p h d s hg hwf a lo n moved
  have hlo : lo = halfLo h := by simp only [lo, halfLo, Fin.ext_iff]; rfl
  have hn : n = halfLen h := by simp only [n, halfLen, Fin.ext_iff]; rfl
  have hmoved : ∀ t, moved t ↔ Advanced p (decide (halfLo h + halfLen h < 8)) s t := fun t => by
    simp only [half_lower, moved, Advanced, decide_eq_true_eq]
  have hlen : (leBytes (halfLen h) d.toNat).length = halfLen h := leBytes_length _ _
  have denied := advanceBoard_setBit (s := s) (p := p) (decide (halfLo h + halfLen h < 8)) PRS_STATUS.DBG_DENIED hwf.2 (by decide) (by decide)
  have held := advanceBoard_setBit (s := s) (p := p) (decide (halfLo h + halfLen h < 8)) PRS_STATUS.DBG_HELD hwf.2 (by decide) (by decide)
  simp only [hlo, hn, hmoved]
  constructor
  · refine ⟨_, exec_boardDebugRead h hg, ?_⟩
    cases ho : s.debugOpen with
    | true =>
      rw [boardDebugRead_open _ _ ho]
      have kept : RegsKept [PRS_BOARD_ADDR.addr (pix p)] s (s.advanceBoard p (decide (halfLo h + halfLen h < 8))) := advanceBoard_kept _
      exact ⟨advanceBoard_advanced _ hwf.2, fun _ => ⟨rfl, kept⟩, fun hc => absurd hc (by simp), (RegsKept.refl _ s).then kept (by simp),
        Frame.set_front _ (by decide) ((State.advanceBoard_frame ..).mono (by decide))⟩
    | false =>
      rw [boardDebugRead_closed _ _ ho]
      exact ⟨denied.1, fun hc => absurd hc (by simp), fun _ => ⟨rfl, denied.2.1⟩, denied.2.2,
        Frame.set_front _ (by decide) (((State.setBit_frame ..).mono (by decide)).trans ((State.advanceBoard_frame ..).mono (by decide)))⟩
  · refine ⟨_, exec_boardDebugWrite h d hg, ?_⟩
    cases ho : s.debugOpen with
    | true =>
      cases hh : s.heldRange p (a + halfLo h) (halfLen h) with
      | true =>
        rw [boardDebugWrite_held ho (by rw [hlen]; exact hh), hlen]
        exact ⟨held.1, fun _ hc => absurd hc (by simp), fun _ _ => ⟨held.2.1, advanceBoard_mem _⟩, fun hc => absurd hc (by simp), held.2.2,
          ((State.setBit_frame ..).mono (by decide)).trans ((State.advanceBoard_frame ..).mono (by decide))⟩
      | false =>
        rw [boardDebugWrite_open ho (by rw [hlen]; exact hh), hlen]
        have kept : RegsKept [PRS_BOARD_ADDR.addr (pix p)] s ((s.writeBoard p (a + halfLo h) (leBytes (halfLen h) d.toNat)).advanceBoard p
          (decide (halfLo h + halfLen h < 8))) := (RegsKept.of_regs_eq rfl).trans (advanceBoard_kept _)
        refine ⟨advanceBoard_advanced (s := s.writeBoard ..) _ hwf.2, fun _ _ => ⟨fun i hi => ?_, fun o hne => ?_, kept⟩,
          fun _ hc => absurd hc (by simp), fun hc => absurd hc (by simp), (RegsKept.refl _ s).then kept (by simp),
          ((State.writeBoard_frame ..).mono (by decide)).trans ((State.advanceBoard_frame ..).mono (by decide))⟩
        · rw [State.mbyte, advanceBoard_mem]
          exact (mbyte_writeBoard_at hwf.1 (by rw [hlen]; have := halfLen_le h; omega) (by rwa [hlen])).trans (leBytes_getD _ _ _ hi)
        · rw [State.mbyte, advanceBoard_mem]
          exact mbyte_writeBoard_ne (by rwa [hlen])
    | false =>
      rw [boardDebugWrite_closed ho, hlen]
      exact ⟨denied.1, fun hc => absurd hc (by simp), fun hc => absurd hc (by simp), fun _ => ⟨denied.2.1, advanceBoard_mem _⟩, denied.2.2,
        ((State.setBit_frame ..).mono (by decide)).trans ((State.advanceBoard_frame ..).mono (by decide))⟩

end Sys2Proof.Machine
end

section
/-! PAUSE_REQUEST (R210): a state in which its statement fails. -/

namespace Sys2Proof.Machine

/-- A package in service whose section 0 waits inside a strip. The table of Presses lists Press 0 twice, the second time with an MMAS of one
row in its part store: it is not in canonical form, and the first entry is the one that is read. -/
def State.pressListedTwice : State :=
  { State.reset.setReg GLB_CAP0 [] 0x33FFFF with
    fw := { inCold := false }
    press := [(0, {}), (0, { part := [(0, 0x2100_0000_0000_0000)], words := 1 })]
    sects := [(0, { st := .waiting, inStrip := true })] }

/-- The pause replaces the first entry by the default, which takes it out of the table: the MMAS of the second entry is read from then on, and
the section drains it. -/
theorem pressListedTwice_pauseRequest :
    Completes (exec (.pauseRequest 0) State.pressListedTwice) (fun t => (t.sect 0 0).st = .pausing) := ⟨_, rfl, by decide⟩

/-- Refutes O10: the first clause asks for the canonical form of the table of sections, not of the table of Presses. In a state whose table of
Presses lists a Press twice, the pause brings the second entry's part store into view, and a section that waits ends PAUSING and not PAUSED. -/
theorem not_pauseAndResume : ¬ Obligations.PauseAndResume := by
  unfold Obligations.PauseAndResume
  rintro ⟨paused, -⟩
  have wf : State.pressListedTwice.wf := by unfold State.wf; decide
  have stands : ∀ k : Fin 4, (State.pressListedTwice.sect (0 : Fin 256) k).st = .idle ∨
      ((State.pressListedTwice.sect (0 : Fin 256) k).st = .waiting ∧ State.pressListedTwice.shortMmas (0 : Fin 256) k = false) := by decide
  obtain ⟨t, ht, -, all, -⟩ := paused 0 _ (by decide) wf stands (by decide)
  obtain ⟨t', ht', pausing⟩ := pressListedTwice_pauseRequest
  obtain rfl : t = t' := Host.Outcome.next.inj (ht.symm.trans ht')
  have h := (all 0).1.symm.trans pausing
  cases h

end Sys2Proof.Machine
end

section
/-! The completion of a ring command (R671, R675, R690): its place, its phase, and the commands in flight. -/

namespace Sys2Proof.Machine

theorem fget_lt (v : Word) (f : Fld) : fget v f < 2 ^ f.width := Nat.mod_lt _ (Nat.two_pow_pos _)

theorem getF_lt (s : State) (r : Reg) (ix : List Nat) (f : Fld) : s.getF r ix f < 2 ^ f.width := fget_lt _ f

/-! ### The parts of `ringComplete` -/

/-- The completion pointer of a ring advances; the phase inverts at the wrap (R675). -/
def State.advanceCtail (s : State) (r : Nat) : State :=
  let t := s.setF CMD_RING_PTR [r] CMD_RING_PTR.CTAIL ((s.getF CMD_RING_PTR [r] CMD_RING_PTR.CTAIL + 1) % s.ringN r)
  if s.getF CMD_RING_PTR [r] CMD_RING_PTR.CTAIL + 1 = s.ringN r then
    t.setF CMD_RING_PTR [r] CMD_RING_PTR.PHASE (1 - s.getF CMD_RING_PTR [r] CMD_RING_PTR.PHASE)
  else t

/-- The bytes of a completion go to host memory, or are held while Bus Master Enable is 0 (R671). -/
def State.postCpl (s : State) (a : Nat) (bs : List Byte) : State :=
  if s.bit CMD_IF_STATUS [] CMD_IF_STATUS.BME then s.hostWrite a bs
  else { s with front := { s.front with cplHeld := s.front.cplHeld ++ [(a, bs)] } }

/-- The completion is given. -/
def State.addDone (s : State) (cp : Cpl) : State := { s with front := { s.front with done := s.front.done ++ [cp] } }

/-- A completion with its phase is written at CTAIL of its ring. -/
def State.ringPost (s : State) (r : Nat) (cp : Cpl) : State :=
  ((s.addDone cp).advanceCtail r).postCpl
    (s.getF CMD_CPL_BASE [r] CMD_CPL_BASE.BASE * 4096 + 32 * s.getF CMD_RING_PTR [r] CMD_RING_PTR.CTAIL) cp.bytes

/-- The completion that a host ring gets for a command in flight. -/
def State.hostCpl (s : State) (c : Cmd) (st hd : Nat) (res : List Byte) : Cpl :=
  { via := .H, ring := c.ring, tag := c.tag, opcode := c.opcode, status := st
    phase := s.getF CMD_RING_PTR [(c.ring : Nat)] CMD_RING_PTR.PHASE, head := hd, result := res }

theorem complete_host {s : State} {c : Cmd} {hd : Nat} (st : Nat) (res : List Byte) (hv : c.via = .H) (hdis : c ∉ s.front.discard)
    (hfl : s.front.inflight.find? (fun x => x.1 == c) = some (c, hd)) : s.complete c st res =
    (if c.flags % 2 = 1 then (s.ringPost c.ring (s.hostCpl c st hd res)).countIrq c.ring else s.ringPost c.ring (s.hostCpl c st hd res)).retire c := by
  have gone : s.front.discard.any (fun x => x == c) = false := by simpa using fun x hx (he : x = c) => hdis (he ▸ hx)
  simp only [State.complete, hfl, gone, hv, State.ringComplete, reduceCtorEq, if_false, true_and, Bool.false_eq_true]
  rfl

section
variable {s : State} {r : Nat}

theorem advanceCtail_kept : RegsKept [CMD_RING_PTR.addr [r]] s (s.advanceCtail r) :=
  .ite (fun _ => (setF_kept _ _ _ _ _).setF (by simp)) fun _ => setF_kept _ _ _ _ _

theorem advanceCtail_frame : Frame [.regs] s (s.advanceCtail r) :=
  .ite (fun _ => (State.setF_frame ..).trans (State.setF_frame ..)) fun _ => State.setF_frame ..

theorem advanceCtail_ctail (h : tok 0 s.regs = true) : (s.advanceCtail r).getF CMD_RING_PTR [r] CMD_RING_PTR.CTAIL =
    (s.getF CMD_RING_PTR [r] CMD_RING_PTR.CTAIL + 1) % s.ringN r % 4096 := by
  let t := s.setF CMD_RING_PTR [r] CMD_RING_PTR.CTAIL ((s.getF CMD_RING_PTR [r] CMD_RING_PTR.CTAIL + 1) % s.ringN r)
  have ht : t.getF CMD_RING_PTR [r] CMD_RING_PTR.CTAIL = (s.getF CMD_RING_PTR [r] CMD_RING_PTR.CTAIL + 1) % s.ringN r % 4096 :=
    getF_setF_same s _ _ _ _ h (by decide)
  unfold State.advanceCtail
  split
  · rwa [getF_setF_field t _ _ _ _ _ (setF_tok s _ _ _ _ h) (by decide) (by decide)]
  · exact ht

theorem advanceCtail_phase (h : tok 0 s.regs = true) : (s.advanceCtail r).getF CMD_RING_PTR [r] CMD_RING_PTR.PHASE =
    if s.getF CMD_RING_PTR [r] CMD_RING_PTR.CTAIL + 1 = s.ringN r then 1 - s.getF CMD_RING_PTR [r] CMD_RING_PTR.PHASE
    else s.getF CMD_RING_PTR [r] CMD_RING_PTR.PHASE := by
  let t := s.setF CMD_RING_PTR [r] CMD_RING_PTR.CTAIL ((s.getF CMD_RING_PTR [r] CMD_RING_PTR.CTAIL + 1) % s.ringN r)
  have ht : t.getF CMD_RING_PTR [r] CMD_RING_PTR.PHASE = s.getF CMD_RING_PTR [r] CMD_RING_PTR.PHASE :=
    getF_setF_field s _ _ _ _ _ h (by decide) (by decide)
  unfold State.advanceCtail
  split
  · rw [getF_setF_same t _ _ _ _ (setF_tok s _ _ _ _ h) (by decide)]
    exact Nat.mod_eq_of_lt (Nat.lt_of_le_of_lt (Nat.sub_le 1 _) (by decide))
  · exact ht

theorem postCpl_frame (a : Nat) (bs : List Byte) : Frame [.front] s (s.postCpl a bs) :=
  .ite (fun _ => State.hostWrite_frame ..) fun _ => Frame.set_front _ (by decide) (.refl _ s)

end

/-! ### What the front keeps -/

/-- The completions given, the writes to host memory, those held, and the commands in flight are the same. -/
def SameOutput (x y : Front) : Prop :=
  y.done = x.done ∧ y.hostWrites = x.hostWrites ∧ y.cplHeld = x.cplHeld ∧ y.inflight = x.inflight

theorem fireMsix_sameOutput (s : State) (v : Nat) : SameOutput s.front (s.fireMsix v).front := by
  unfold State.fireMsix
  split_ifs <;> exact ⟨rfl, rfl, rfl, rfl⟩

theorem countIrq_sameOutput (s : State) (r : Nat) : SameOutput s.front (s.countIrq r).front := by
  unfold State.countIrq
  extract_lets n
  split
  · exact fireMsix_sameOutput ({ s with front := { s.front with counted := tput 0 s.front.counted r 0 } }) r
  · exact ⟨rfl, rfl, rfl, rfl⟩

theorem retire_front {s : State} {c : Cmd} (h : s.front.inflight.any (fun x => x.1 == c) = true) :
    (s.retire c).front = { s.front with inflight := dropFirst (fun x => x.1 == c) s.front.inflight } := by
  simp only [State.retire, if_pos h]
  split_ifs <;> rfl

theorem retire_kept (s : State) (c : Cmd) : RegsKept [CMD_IF_STATUS.addr [], CMD_RING_STATUS.addr [(c.ring : Nat)]] s (s.retire c) := by
  simp only [State.retire]
  split_ifs
  · exact ((((RegsKept.of_regs_eq rfl).setF (by simp)).setF (by simp)).setF (by simp)).setF (by simp)
  · exact ((RegsKept.of_regs_eq rfl).setF (by simp)).setF (by simp)
  · exact (RegsKept.of_regs_eq rfl).setF (by simp)
  · exact .refl _ s

theorem CMD_RING_PTR_apart : ∀ r : Fin 16, CMD_RING_PTR.addr [(r : Nat)] ∉ [CMD_IF_STATUS.addr [], CMD_RING_STATUS.addr [(r : Nat)]] := by decide

theorem CMD_IF_STATUS_ne_RING_PTR : ∀ r : Fin 16, CMD_IF_STATUS.addr [] ≠ CMD_RING_PTR.addr [(r : Nat)] := by decide

/-! ### The completion -/

section
variable {s : State} {r : Nat} {cp : Cpl}

theorem ringPost_frame : Frame [.regs, .front] s (s.ringPost r cp) :=
  (Frame.set_front _ (by decide) (.refl _ s)).trans ((advanceCtail_frame.mono (by decide)).trans ((postCpl_frame _ _).mono (by decide)))

theorem advanceCtail_addDone : ((s.addDone cp).advanceCtail r).regs = (s.advanceCtail r).regs := by
  rw [State.advanceCtail, State.advanceCtail, apply_ite State.regs, apply_ite State.regs]
  rfl

theorem ringPost_regs : (s.ringPost r cp).regs = (s.advanceCtail r).regs :=
  ((postCpl_frame _ _).1 .regs (by decide)).trans advanceCtail_addDone

theorem ringPost_output (hr : CMD_IF_STATUS.addr [] ≠ CMD_RING_PTR.addr [r]) :
    let x := (s.ringPost r cp).front
    let at_ := s.getF CMD_CPL_BASE [r] CMD_CPL_BASE.BASE * 4096 + 32 * s.getF CMD_RING_PTR [r] CMD_RING_PTR.CTAIL
    x.done = s.front.done ++ [cp] ∧ x.inflight = s.front.inflight ∧
    (s.bit CMD_IF_STATUS [] CMD_IF_STATUS.BME = true → x.hostWrites = s.front.hostWrites ++ [(at_, cp.bytes)]) ∧
    (s.bit CMD_IF_STATUS [] CMD_IF_STATUS.BME = false → x.cplHeld = s.front.cplHeld ++ [(at_, cp.bytes)]) := by
  have bme : ((s.addDone cp).advanceCtail r).bit CMD_IF_STATUS [] CMD_IF_STATUS.BME = s.bit CMD_IF_STATUS [] CMD_IF_STATUS.BME := by
    rw [State.bit, advanceCtail_kept.getF_eq _ (by simpa using hr)]; rfl
  have front : ((s.addDone cp).advanceCtail r).front = (s.addDone cp).front := advanceCtail_frame.1 .front (by decide)
  simp only [State.ringPost, State.postCpl, bme]
  cases s.bit CMD_IF_STATUS [] CMD_IF_STATUS.BME <;> simp [State.hostWrite, front] <;> exact ⟨rfl, rfl, rfl⟩

end

/-- A ring command in flight, whose completion is not discarded, completes once, in its place and phase (R671, R675, R690). -/
theorem complete_ring {s : State} {c : Cmd} {hd : Nat} (st : Nat) (res : List Byte) (hwf : s.wf) (hv : c.via = .H) (hdis : c ∉ s.front.discard)
    (hfl : s.front.inflight.find? (fun x => x.1 == c) = some (c, hd)) :
    let r : Nat := c.ring
    let cp := s.hostCpl c st hd res
    let at_ := s.getF CMD_CPL_BASE [r] CMD_CPL_BASE.BASE * 4096 + 32 * s.getF CMD_RING_PTR [r] CMD_RING_PTR.CTAIL
    let t := s.complete c st res
    t.front.done = s.front.done ++ [cp] ∧ t.getF CMD_RING_PTR [r] CMD_RING_PTR.CTAIL = (s.getF CMD_RING_PTR [r] CMD_RING_PTR.CTAIL + 1) % s.ringN r % 4096 ∧
    t.getF CMD_RING_PTR [r] CMD_RING_PTR.PHASE = (if s.getF CMD_RING_PTR [r] CMD_RING_PTR.CTAIL + 1 = s.ringN r then
      1 - s.getF CMD_RING_PTR [r] CMD_RING_PTR.PHASE else s.getF CMD_RING_PTR [r] CMD_RING_PTR.PHASE) ∧
    (s.bit CMD_IF_STATUS [] CMD_IF_STATUS.BME = true → t.front.hostWrites = s.front.hostWrites ++ [(at_, cp.bytes)]) ∧
    (s.bit CMD_IF_STATUS [] CMD_IF_STATUS.BME = false → t.front.cplHeld = s.front.cplHeld ++ [(at_, cp.bytes)]) ∧
    t.front.inflight = dropFirst (fun x => x.1 == c) s.front.inflight ∧ Frame [.regs, .front] s t := by
  intro r cp at_ t
  let v := if c.flags % 2 = 1 then (s.ringPost r cp).countIrq r else s.ringPost r cp
  have ht : t = v.retire c := complete_host st res hv hdis hfl
  have hv : SameOutput (s.ringPost r cp).front v.front ∧ v.regs = (s.advanceCtail r).regs ∧ Frame [.regs, .front] s v := by
    simp only [v]
    split
    · exact ⟨countIrq_sameOutput _ r, ((State.countIrq_frame ..).1 .regs (by decide)).trans ringPost_regs,
        ringPost_frame.trans ((State.countIrq_frame ..).mono (by decide))⟩
    · exact ⟨⟨rfl, rfl, rfl, rfl⟩, ringPost_regs, ringPost_frame⟩
  obtain ⟨⟨done, writes, held, inflight⟩, regs, frame⟩ := hv
  obtain ⟨done', inflight', writes', held'⟩ := ringPost_output (s := s) (cp := cp) (CMD_IF_STATUS_ne_RING_PTR c.ring)
  have any : v.front.inflight.any (fun x => x.1 == c) = true := by
    rw [inflight, inflight', List.any_eq_true]
    exact ⟨_, List.mem_of_find?_eq_some hfl, by simp⟩
  have ptr : ∀ f, t.getF CMD_RING_PTR [r] f = (s.advanceCtail r).getF CMD_RING_PTR [r] f := fun f => by
    rw [ht, (retire_kept v c).getF_eq _ (CMD_RING_PTR_apart c.ring), State.getF, State.reg, regs]; rfl
  rw [ptr, ptr, advanceCtail_ctail hwf.2, advanceCtail_phase hwf.2, ht, retire_front any]
  exact ⟨done.trans done', rfl, rfl, fun h => writes.trans (writes' h), fun h => held.trans (held' h), by rw [inflight, inflight'],
    frame.trans (State.retire_frame ..)⟩

end Sys2Proof.Machine
end

section
/-! Writes to the stacks by an agent (R354, R701): in pieces, they leave exactly the bytes given. -/

namespace Sys2Proof.Machine

/-! ### Slices -/

@[simp] theorem slice_length (l : List Byte) (i n : Nat) : (slice l i n).length = n := by
  simp only [slice, List.length_append, List.length_replicate, List.length_take, List.length_drop]
  omega

/-! ### Bytes of device memory -/

theorem putBytes_append : ∀ (a b : List Byte) (m : List Host.Cell) (o : Nat), putBytes m o (a ++ b) = putBytes (putBytes m o a) (o + a.length) b
  | [], _, _, _ => rfl
  | x :: a, b, m, o => by
    rw [List.cons_append, putBytes, putBytes_append a b, putBytes, List.length_cons, Nat.add_assoc, Nat.add_comm 1]

section
variable {s : State} {o : Nat} {bs : List Byte}

theorem mbyte_writeMem_ne {a : Nat} (h : a < o ∨ o + bs.length ≤ a) : (s.writeMem o bs).mbyte a = s.mbyte a := putBytes_ne bs s.mem o a h

theorem readMem_writeMem (h : tok 0 s.mem = true) : (s.writeMem o bs).readMem o bs.length = bs := by
  refine List.ext_getElem (by simp [State.readMem]) fun i h1 h2 => ?_
  simp only [State.readMem, List.getElem_map, List.getElem_range, State.mbyte, State.writeMem]
  rw [putBytes_at bs o i h h2, List.getD_eq_getElem _ _ h2]

theorem writeMem_append (a b : List Byte) : (s.writeMem o a).writeMem (o + a.length) b = s.writeMem o (a ++ b) := by
  simp only [State.writeMem, putBytes_append]

theorem piecesOf_nil (u fuel o : Nat) : piecesOf u fuel o [] = [] := by cases fuel <;> rfl

/-- Pieces below `lim`, each written by `f` without a wait, add up to one write. -/
theorem foldl_piecesOf {u lim : Nat} (hu : 0 < u) {f : State × Bool → Nat × List Byte → State × Bool}
    (hf : ∀ s o bs, o < lim → f (s, false) (o, bs) = (s.writeMem o bs, false)) (fuel : Nat) :
    ∀ (s : State) (o : Nat) (bs : List Byte), bs.length < fuel → o + bs.length ≤ lim →
      (piecesOf u fuel o bs).foldl f (s, false) = (s.writeMem o bs, false) := by
  induction fuel with
  | zero => exact fun s o bs h => absurd h (Nat.not_lt_zero _)
  | succ fuel ih =>
    intro s o bs hl ho
    rw [piecesOf]
    split
    case isTrue he => rw [List.isEmpty_iff.mp he]; rfl
    case isFalse he =>
      have hpos : 0 < bs.length := List.length_pos_iff.mpr (by simpa using he)
      have hn : 0 < u - o % u := Nat.sub_pos_of_lt (Nat.mod_lt o hu)
      generalize u - o % u = n at hn
      have hd : (bs.drop n).length = bs.length - n := List.length_drop
      rw [List.foldl_cons, hf s o _ (by omega)]
      rcases Nat.le_total n bs.length with hle | hle
      · have ht : (bs.take n).length = n := by rw [List.length_take, Nat.min_eq_left hle]
        have := writeMem_append (s := s) (o := o) (bs.take n) (bs.drop n)
        rw [ih _ _ _ (by omega) (by omega), ← List.take_append_drop n bs, ← this, ht, List.take_append_drop]
      · rw [List.take_of_length_le hle, List.drop_of_length_le hle, piecesOf_nil, List.foldl_nil]

end

/-! ### Writes of agents, and of stage commands -/

section
variable {s : State} {o : Nat} {bs : List Byte}

/-- Pieces below the Boards go to the stacks. -/
theorem writePiece_stack (s : State) {o : Nat} (bs : List Byte) (why : HeldFor) (log : Bool) (h : o < boardBase) :
    s.writePiece o bs why log = (s.writeMem o bs, false) := if_pos h

theorem agentWrite_stack {u : Nat} (hu : 0 < u) (why : HeldFor) (log : Bool) (h : o + bs.length ≤ boardBase) :
    s.agentWrite u o bs why log = (s.writeMem o bs, false) :=
  foldl_piecesOf hu (fun s o bs h => by simp only [writePiece_stack s bs why log h, Bool.or_self]) _ s o bs (Nat.lt_succ_self _) h

theorem stageWrite_stack (c : Cmd) (h : o + bs.length ≤ boardBase) : s.stageWrite c o bs = (s.writeMem o bs, false) :=
  foldl_piecesOf (by decide) (fun s o bs h => by simp only [writePiece_stack s bs (.cmd c) true h, Bool.false_eq_true, if_false]) _ s o bs
    (Nat.lt_succ_self _) h

/-- What a write of `n` bytes to the stacks leaves: those bytes, and every other byte as it was. -/
theorem writeMem_spec (hm : tok 0 s.mem = true) {n : Nat} (hn : bs.length = n) : (s.writeMem o bs).readMem o n = bs ∧
    (∀ a, a < o ∨ o + n ≤ a → (s.writeMem o bs).mbyte a = s.mbyte a) ∧ Frame [.mem] s (s.writeMem o bs) :=
  ⟨hn ▸ readMem_writeMem hm, fun _ ha => mbyte_writeMem_ne (hn ▸ ha), State.writeMem_frame ..⟩

end

end Sys2Proof.Machine
end

section
/-! The identity and data commands (R697 to R706), and the release of a section's Board write that waited on a hold (R200). -/

namespace Sys2Proof.Machine

/-! ### IDENTIFY and QUERY_CAPS -/

section
variable {s : State} {c : Cmd}

theorem exec_identify (ha : s.Accepts c 0x0101) (hp : c.parZero 0 16 = true) (hi : c.inlineLen = 0) : exec (.identify c) s =
    .next (s.complete c stOk (leBytes 8 (s.reg GLB_SERIAL []).toNat ++ leBytes 5 (s.reg GLB_ID []).toNat ++
      leBytes 2 (s.getF RNK_CHIP [8] RNK_CHIP.CHIP) ++
      leBytes 1 (b2n s.sliceValid + 2 * b2n s.installed + 4 * b2n s.tempo.armed + 8 * b2n s.tempo.running))) := by
  show execIdentify c s = _
  simp only [execIdentify, runCmd_of_accepts ha, hp, hi]
  rfl

theorem exec_queryCaps (ha : s.Accepts c 0x0102) (hp : c.parZero 1 15 = true) (hi : c.inlineLen = 0) : exec (.queryCaps c) s =
    .next (if 2 < c.par 0 1 then s.complete c stBadParam [] else s.complete c stOk (s.capsPage (c.par 0 1))) := by
  show execQueryCaps c s = _
  simp [execQueryCaps, runCmd_of_accepts ha, hp, hi]

end

/-! ### WRITE_INLINE and READ_SMALL -/

section
variable {s : State} {c : Cmd} {off n : Nat}

/-- WRITE_INLINE past its header and parameters (R705). -/
theorem exec_writeInline (ha : s.Accepts c 0x0203) (hh : s.cmdHeld c = false) (hp : c.parZero 8 8 = true) (hoff : c.par 0 8 = off)
    (hlt : off < 2 ^ 48) (hn : c.inlineLen = n) : exec (.writeInline c) s = .next (
      if n = 0 then s.complete c stBadLength []
      else if s.stageRange off n = false then s.complete c stBadParam []
      else match s.rangeAway off n with
        | some st => s.complete c st []
        | none => if (s.agentWrite 32 off c.inl (.cmd c) true).2 then (s.agentWrite 32 off c.inl (.cmd c) true).1
          else (s.agentWrite 32 off c.inl (.cmd c) true).1.complete c stOk (leBytes 4 n)) := by
  show execWriteInline c s = _
  simp only [execWriteInline, runCmd_of_accepts ha, hh, hp, hoff, hn, Nat.not_le.mpr hlt, Bool.not_true, Bool.false_eq_true, or_self, if_false,
    Bool.not_eq_true'] <;> rfl

end

section
variable {s : State} {c : Cmd} {off n : Nat}
variable (ha : s.Accepts c 0x0204) (hp : c.parZero 9 7 = true) (hoff : c.par 0 8 = off) (hlt : off < 2 ^ 48) (hn : c.par 8 1 = n)
  (h1 : 1 ≤ n) (h16 : n ≤ 16) (hs : off % 32 + n ≤ 32) (hi : c.inlineLen = 0) (hr : s.stageRange off n = true) (haway : s.rangeAway off n = none)
  (hb : off < boardBase)
include ha hp hoff hlt hn h1 h16 hs hi hr haway hb

/-- READ_SMALL of bytes in the stacks, past its checks (R706). -/
theorem exec_readSmall_clean : exec (.readSmall c .clean) s = .next (s.complete c stOk (s.readMem off n)) := by
  show execReadSmall c .clean s = _
  have good : ¬((!c.parZero 9 7) = true ∨ 2 ^ 48 ≤ off ∨ n = 0 ∨ 16 < n ∨ 32 < off % 32 + n) := by
    rw [hp]; simp only [Bool.not_true, Bool.false_eq_true, false_or]; omega
  simp only [execReadSmall, runCmd_of_accepts ha, hoff, hn, if_neg good, hi, hr, haway, if_pos hb] <;> rfl

theorem exec_readSmall_bad (i : Nat) : exec (.readSmall c (.bad i)) s =
    .next ((s.eccSeen (off / 32 * 32) (.bad i)).complete c stIntegrity []) := by
  show execReadSmall c (.bad i) s = _
  have good : ¬((!c.parZero 9 7) = true ∨ 2 ^ 48 ≤ off ∨ n = 0 ∨ 16 < n ∨ 32 < off % 32 + n) := by
    rw [hp]; simp only [Bool.not_true, Bool.false_eq_true, false_or]; omega
  simp only [execReadSmall, runCmd_of_accepts ha, hoff, hn, if_neg good, hi, hr, haway, if_pos hb] <;> rfl

end

/-! ### STAGE_IN and STAGE_OUT -/

section
variable {s : State} {c : Cmd}

/-- A segment's LEN is a multiple of 512 once the checks of R700 have passed. -/
theorem stageLen_dvd (h : s.stageCheck c = none) : 512 ∣ stageLen c := by
  have seg : ∀ g ∈ stageSegs c, 512 ∣ g.2.1 := by
    by_contra hb
    push Not at hb
    obtain ⟨g, hg, hd⟩ := hb
    have any : (stageSegs c).any (fun g => g.1 % 64 != 0 || g.2.1 % 512 != 0 || g.2.1 == 0 || g.2.2 != 0) = true :=
      List.any_eq_true.mpr ⟨g, hg, by simp [Nat.dvd_iff_mod_eq_zero] at hd ⊢; tauto⟩
    simp [State.stageCheck, any] at h
  rw [stageLen, ← List.sum_eq_foldl]
  refine List.dvd_sum fun x hx => ?_
  obtain ⟨g, hg, rfl⟩ := List.mem_map.mp hx
  exact seg g hg

section
variable (input : Bool) (go : State → State) (ha : s.Accepts c (if input then 0x0201 else 0x0202))
  (hw : (s.waiters .busMaster).contains c = false)
include ha hw

theorem stageGo_refused {st : Nat} (h : s.stageCheck c = some st) : s.stageGo c input go = s.complete c st [] := by
  simp only [State.stageGo, hw, Bool.false_eq_true, if_false, runCmd_of_accepts ha, h]

theorem stageGo_waits (h : s.stageCheck c = none) (hb : s.bit CMD_IF_STATUS [] CMD_IF_STATUS.BME = false) :
    s.stageGo c input go = s.wait .busMaster c := by
  simp only [State.stageGo, hw, Bool.false_eq_true, if_false, runCmd_of_accepts ha, h, hb]

theorem stageGo_moves (h : s.stageCheck c = none) (hb : s.bit CMD_IF_STATUS [] CMD_IF_STATUS.BME = true) : s.stageGo c input go = go s := by
  simp only [State.stageGo, hw, Bool.false_eq_true, if_false, runCmd_of_accepts ha, h, hb, if_true]

end

/-- The blocks that STAGE_IN moves, and how it then ends (R701, R703). -/
theorem exec_stageIn (data : List Byte) (cut : Option StageCut) (hh : s.cmdHeld c = false) :
    exec (.stageIn c data cut) s = .next (s.stageGo c true (fun s => match stageCutAt true (stageLen c / 512) cut with
      | some (b, cause, st) => (s.stageWrite c (c.par 0 8) (slice data 0 (512 * b))).1.complete c st (stageResult (512 * b) cause)
      | none => if (s.stageWrite c (c.par 0 8) (slice data 0 (stageLen c))).2 then (s.stageWrite c (c.par 0 8) (slice data 0 (stageLen c))).1
        else (s.stageWrite c (c.par 0 8) (slice data 0 (stageLen c))).1.complete c stOk (leBytes 8 (stageLen c)))) := by
  show execStageIn c data cut s = _
  simp only [execStageIn, hh] <;> rfl

/-- What STAGE_OUT gives to the host. -/
def State.hostPieces (s : State) (l : List (Nat × List Byte)) : State := l.foldl (fun s x => s.hostWrite x.1 x.2) s

theorem hostPieces_frame (l : List (Nat × List Byte)) : Frame [.front] s (s.hostPieces l) :=
  Frame.foldl (fun _ _ k => k.trans (State.hostWrite_frame ..)) l s (.refl _ s)

theorem hostPieces_hostWrites : ∀ (l : List (Nat × List Byte)) (s : State), (s.hostPieces l).front.hostWrites = s.front.hostWrites ++ l
  | [], s => (List.append_nil _).symm
  | x :: l, s => (hostPieces_hostWrites l (s.hostWrite x.1 x.2)).trans (by simp [State.hostWrite])

theorem exec_stageOut (s : State) (c : Cmd) : exec (.stageOut c [] none) s = .next (s.stageGo c false (fun s =>
    (s.hostPieces (stagePieces (stageSegs c) (s.readMem (c.par 0 8) (512 * (stageLen c / 512))))).complete c stOk (leBytes 8 (stageLen c)))) := by
  show execStageOut c [] none s = _
  simp only [execStageOut, List.filter_nil, List.foldl_nil, ite_self] <;> rfl

end

/-! ### The release of a held Board write -/

/-- A counter field after it was raised (R904). -/
theorem counted_incF (s : State) (r : Reg) (ix : List Nat) (f : Fld) (n : Nat) (h : tok 0 s.regs = true) (hf : f.lo + f.width ≤ 64) :
    Counted r ix f n s (s.incF r ix f n) := by
  rw [Counted, State.incF, getF_setF_same _ _ _ _ _ h hf, satAdd]
  exact Nat.mod_eq_of_lt (by have := Nat.two_pow_pos f.width; omega)

section
variable {s : State} {p k : Nat}

/-- A section without a held write stays as it is. -/
theorem releaseSection_idle (h : (s.sect p k).pendW = []) : s.releaseSection p k = s := by simp [State.releaseSection, h]

theorem releaseSection_held {a : Nat} {bs : List Byte} (h : (s.sect p k).pendW = [(a, bs)]) (hh : s.heldRange p a bs.length = true) :
    s.releaseSection p k = s := by simp [State.releaseSection, h, hh]

theorem releaseSection_free {a : Nat} {bs : List Byte} (h : (s.sect p k).pendW = [(a, bs)]) (hh : s.heldRange p a bs.length = false) :
    s.releaseSection p k = (s.writeBoard p a bs).setSect p k { s.sect p k with pendW := [], pc := (s.sect p k).next } := by
  simp [State.releaseSection, h, hh]

theorem releaseSection_sect_ne {j : Nat} (hk : k < 4) (hj : j < 4) (h : j ≠ k) : (s.releaseSection p k).sect p j = s.sect p j := by
  unfold State.releaseSection
  extract_lets x t
  have ht : t.sects = s.sects := by
    simp only [t]
    generalize x.pendW = l
    induction l using List.reverseRecOn with
    | nil => rfl
    | append_singleton l w ih => rw [List.foldl_concat]; exact ih
  split
  · rw [sect_setSect_ne _ (sect_index_ne hk hj (.inr h)), sect_congr ht]
  · rfl

theorem range_four_split : ∀ k : Fin 4, List.range 4 = List.range k ++ (k : Nat) :: (List.range (3 - k)).map (fun i => (k : Nat) + 1 + i) := by
  decide

/-- Of the four sections of a Press only one has a held write: the others are passed over. -/
theorem releaseSections_one (k : Fin 4) (h : ∀ j : Fin 4, j ≠ k → (s.sect p j).pendW = []) :
    (List.range 4).foldl (fun s k => s.releaseSection p k) s = s.releaseSection p k := by
  have before : ∀ l : List Nat, (∀ j ∈ l, j < 4 ∧ j ≠ k) → l.foldl (fun s k => s.releaseSection p k) s = s := fun l => by
    induction l with
    | nil => exact fun _ => rfl
    | cons j l ih =>
      intro hl
      obtain ⟨hj, hjk⟩ := hl j (by simp)
      rw [List.foldl_cons, releaseSection_idle (h ⟨j, hj⟩ (Fin.ne_of_val_ne hjk)), ih fun i hi => hl i (by simp [hi])]
  have after : ∀ l : List Nat, (∀ j ∈ l, j < 4 ∧ j ≠ k) → l.foldl (fun s k => s.releaseSection p k) (s.releaseSection p k) = s.releaseSection p k :=
    fun l => by
      induction l with
      | nil => exact fun _ => rfl
      | cons j l ih =>
        intro hl
        obtain ⟨hj, hjk⟩ := hl j (by simp)
        rw [List.foldl_cons, releaseSection_idle ((congrArg Section.pendW (releaseSection_sect_ne k.2 hj hjk)).trans
          (h ⟨j, hj⟩ (Fin.ne_of_val_ne hjk))), ih fun i hi => hl i (by simp [hi])]
  have hk := k.2
  rw [range_four_split k, List.foldl_append, before _ (fun j hj => by have := List.mem_range.mp hj; omega), List.foldl_cons,
    after _ (fun j hj => by obtain ⟨i, hi, rfl⟩ := List.mem_map.mp hj; have := List.mem_range.mp hi; omega)]

theorem releaseWrites_idle (h : (s.prs p).heldWrites = []) : s.releaseWrites p = s := by simp [State.releaseWrites, h]

theorem landFills_idle (h : ∀ q, q < 8 → s.queue p q = []) : s.landFills p = s := by
  have idle : ∀ q, q < 4 → s.landQueue p q = s := fun q hq => by simp [State.landQueue, h q (by omega)]
  simp [State.landFills, List.range_succ, idle]

theorem startCadences_idle (h : s.waiters .cadenceDrain = []) : s.startCadences = s := by simp [State.startCadences, h]

end

/-- HOLD_WAIT_RELEASE on a Press where only its sections hold writes back. -/
theorem exec_holdWaitRelease {p : Fin 256} {s : State} (cycles : Nat) (hup : s.pressUp p = true) (hw : (s.prs p).heldWrites = [])
    (hq : ∀ q, q < 8 → s.queue p q = []) (hc : s.waiters .cadenceDrain = []) (hfl : ∀ f ∈ s.score.flights, f.accepted = false) {u : State}
    (hu : (List.range 4).foldl (fun s k => s.releaseSection p k) (s.incF PRS_HOLD_STALLS (pix p) PRS_HOLD_STALLS.COUNT cycles) = u)
    (frame : Frame [.regs, .mem, .sects] s u) : exec (.holdWaitRelease p cycles) s = .next u := by
  show execHoldWaitRelease p cycles s = _
  have press : (u.prs p).heldWrites = [] := by rw [State.prs, show u.press = s.press from frame.1 .press (by decide)]; exact hw
  have queues : ∀ q, q < 8 → u.queue p q = [] := fun q h => by
    rw [State.queue, show u.queues = s.queues from frame.1 .queues (by decide)]; exact hq q h
  have flights : u.score.flights.filter (fun f => f.accepted && f.held && f.hdr.dpress == (p : Nat)) = [] := by
    rw [show u.score = s.score from frame.1 .score (by decide)]
    exact List.filter_eq_nil_iff.mpr fun f hf => by simp [hfl f hf]
  have drain : u.waiters .cadenceDrain = [] := by
    rw [State.waiters, show u.front = s.front from frame.1 .front (by decide)]; exact hc
  simp only [execHoldWaitRelease, hup, Bool.not_true, Bool.false_eq_true, if_false, hu, releaseWrites_idle press, landFills_idle queues, flights,
    List.foldl_nil, startCadences_idle drain]

/-- Board bytes that were written, read again. -/
theorem readBoard_writeBoard {s : State} {p a : Nat} {bs : List Byte} (hm : tok 0 s.mem = true) (hl : bs.length ≤ 2 ^ 20) :
    (s.writeBoard p a bs).readBoard p a bs.length = bs := by
  refine List.ext_getElem (by simp [State.readBoard]) fun i h1 h2 => ?_
  simp only [State.readBoard, List.getElem_map, List.getElem_range]
  rw [mbyte_writeBoard_at hm hl h2, List.getD_eq_getElem _ _ h2]

section
variable {p : Fin 256} {k : Fin 4} {cycles a : Nat} {bs : List Byte} {s : State}
variable (hwf : s.wf) (hup : s.pressUp p = true) (hp : (s.sect p k).pendW = [(a, bs)]) (hj : ∀ j : Fin 4, j ≠ k → (s.sect p j).pendW = [])
  (hw : (s.prs p).heldWrites = []) (hq : ∀ q, q < 8 → s.queue p q = []) (hc : s.waiters .cadenceDrain = [])
  (hfl : ∀ f ∈ s.score.flights, f.accepted = false)
include hwf hup hp hj hw hq hc hfl

/-- A section's write that no hold keeps back any more is performed, and its instruction retires. -/
theorem holdWaitRelease_free (htok : tok {} s.sects = true) (hl : bs.length ≤ 512) (hh : s.heldRange p a bs.length = false) :
    Completes (exec (.holdWaitRelease p cycles) s) (fun t =>
      t.sect p k = { s.sect p k with pendW := [], pc := (s.sect p k).next } ∧ t.readBoard p a bs.length = bs ∧
      Counted PRS_HOLD_STALLS (pix p) PRS_HOLD_STALLS.COUNT cycles s t ∧ Frame [.regs, .mem, .sects] s t) := by
  let v := s.incF PRS_HOLD_STALLS (pix p) PRS_HOLD_STALLS.COUNT cycles
  let u := (v.writeBoard p a bs).setSect p k { s.sect p k with pendW := [], pc := (s.sect p k).next }
  have hu : (List.range 4).foldl (fun s k => s.releaseSection p k) v = u :=
    (releaseSections_one (s := v) k hj).trans (releaseSection_free (s := v) hp (hh ▸ heldRange_congr rfl ..))
  have frame : Frame [.regs, .mem, .sects] s u := ((State.incF_frame ..).mono (by decide)).trans
    (((State.writeBoard_frame ..).mono (by decide)).trans ((State.setSect_frame ..).mono (by decide)))
  refine ⟨u, exec_holdWaitRelease cycles hup hw hq hc hfl hu frame, sect_setSect_same htok _, ?_, counted_incF s _ _ _ _ hwf.2 (by decide), frame⟩
  exact (readBoard_congr rfl _).trans (readBoard_writeBoard (s := v) hwf.1 (by omega))

theorem holdWaitRelease_held (hh : s.heldRange p a bs.length = true) :
    Completes (exec (.holdWaitRelease p cycles) s) (fun t => t.sects = s.sects ∧ t.mem = s.mem ∧
      Counted PRS_HOLD_STALLS (pix p) PRS_HOLD_STALLS.COUNT cycles s t ∧ Frame [.regs] s t) := by
  let v := s.incF PRS_HOLD_STALLS (pix p) PRS_HOLD_STALLS.COUNT cycles
  have hv : (List.range 4).foldl (fun s k => s.releaseSection p k) v = v :=
    (releaseSections_one (s := v) k hj).trans (releaseSection_held (s := v) hp (hh ▸ heldRange_congr rfl ..))
  have frame : Frame [.regs] s v := State.incF_frame ..
  exact ⟨v, exec_holdWaitRelease cycles hup hw hq hc hfl hv (frame.mono (by decide)), rfl, rfl, counted_incF s _ _ _ _ hwf.2 (by decide), frame⟩

end

/-! ### The statement -/

/-- Settles O41: ring completions by `complete_ring`, the data commands by what their writes to the stacks leave, and the release by section. -/
theorem hostCommands : Obligations.HostCommands := by
  refine ⟨fun c st res hd s hwf hv hdis hfl => complete_ring st res hwf hv hdis hfl, fun s c hi => ⟨fun ha hp => exec_identify ha hp hi,
    fun ha hp => ?_⟩, fun s c ecc off n hwf hoff hlt => ⟨fun ha hh hp hn => ?_, fun ha hp hn h1 h16 hs hi hr haway hb => ⟨?_, ?_⟩⟩,
    fun s c data cut hwf ha hh hw => ?_, fun s c ha hw hck => ⟨fun hb => ?_, fun hb => ?_⟩, fun p k cycles a bs s hwf htok => ⟨fun hup => ?_, ?_, ?_⟩⟩
  · refine ⟨fun hpage => ?_, fun hpage => ?_, fun hpage => ?_⟩
    · rw [exec_queryCaps ha hp hi, hpage]; rfl
    · rw [exec_queryCaps ha hp hi, hpage]; rfl
    · rw [exec_queryCaps ha hp hi, if_pos hpage]
  · have h := exec_writeInline ha hh hp hoff hlt hn
    refine ⟨fun h0 => ?_, fun h0 hr => ?_, fun st h0 hr haway => ?_, fun h0 hr haway hb => ?_⟩
    · rw [h, if_pos h0]
    · rw [h, if_neg h0, if_pos hr]
    · rw [h, if_neg h0, if_neg (by simp [hr]), haway]
    · have hl : c.inl.length = n := (slice_length ..).trans hn
      obtain ⟨bytes, others, frame⟩ := writeMem_spec (o := off) hwf.1 hl
      refine ⟨_, bytes, others, frame, ?_⟩
      rw [h, if_neg h0, if_neg (by simp [hr]), haway, agentWrite_stack (by decide) _ _ (by omega)]
      rfl
  · rintro rfl
    exact exec_readSmall_clean ha hp hoff hlt hn h1 h16 hs hi hr haway hb
  · rintro i rfl
    exact ⟨_, State.uncorrectable_frame .., exec_readSmall_bad ha hp hoff hlt hn h1 h16 hs hi hr haway hb i⟩
  · intro off len
    refine ⟨fun st hck => ?_, fun hck hb => ?_, fun hck hb hle => ⟨fun hcut => ?_, fun b hcut hlt => ?_⟩⟩
    · rw [exec_stageIn data cut hh, stageGo_refused _ _ ha hw hck]
    · rw [exec_stageIn data cut hh, stageGo_waits _ _ ha hw hck hb]
    · obtain ⟨bytes, others, frame⟩ := writeMem_spec (o := off) hwf.1 (slice_length data 0 len)
      refine ⟨_, bytes, others, frame, ?_⟩
      rw [exec_stageIn data cut hh, stageGo_moves _ _ ha hw hck hb, hcut, stageCutAt, stageWrite_stack c (by rwa [slice_length])]
      rfl
    · have hblk : b < stageLen c / 512 := by have := Nat.div_mul_cancel (stageLen_dvd hck); omega
      obtain ⟨bytes, others, frame⟩ := writeMem_spec (o := off) hwf.1 (slice_length data 0 (512 * b))
      refine ⟨_, bytes, others, frame, ?_⟩
      rw [exec_stageIn data cut hh, stageGo_moves _ _ ha hw hck hb, hcut, stageCutAt, if_pos (by simpa using hblk)]
      dsimp only
      rw [stageWrite_stack c (by rw [slice_length]; omega)]
      rfl
  · rw [exec_stageOut, stageGo_waits _ _ ha hw hck hb]
  · refine ⟨s.hostPieces (stagePieces (stageSegs c) (s.readMem (c.par 0 8) (512 * (stageLen c / 512)))), hostPieces_hostWrites .., hostPieces_frame _, ?_⟩
    rw [exec_stageOut, stageGo_moves _ _ ha hw hck hb]
  · show execHoldWaitRelease p cycles s = _
    rw [execHoldWaitRelease, hup]; rfl
  · exact fun hup hp hj hw hq hc hfl hl hh => holdWaitRelease_free hwf hup hp hj hw hq hc hfl htok hl hh
  · exact fun hup hp hj hw hq hc hfl hh => holdWaitRelease_held hwf hup hp hj hw hq hc hfl hh

end Sys2Proof.Machine
end

section
/-! The issue of an instruction of a part (R226, R233, R236): its stalls, and the bank pairs of an instruction that names tiles (R184). -/

namespace Sys2Proof.Machine

/-! ### Registers that the stall counters leave alone -/

/-- Where the stall counters of a section of Press p lie. -/
theorem stallRegs_eq (p k : Nat) : stallRegs p k =
    [0x1810000 + (p / 32 * 0x1000 + (p % 32 * 0x40 + k * 0x10)), dieWin (p / 32) + 0x11010 + (p % 32 * 0x4000 + k * 0x400),
      dieWin (p / 32) + 0x10030 + p % 32 * 0x4000, dieWin (p / 32) + 0x10034 + p % 32 * 0x4000, 0x160100c + (p / 32 * 0x20000 + p % 32 * 0x20)] := by
  have dep : TEL_SECT_DEP.addr (six p k) = 0x1810000 + (p / 32 * 0x1000 + (p % 32 * 0x40 + k * 0x10)) := by simp [Reg.addr, TEL_SECT_DEP, six, dimOff]
  have wait : MEM_SBWAIT.addr (pix p) = 0x160100c + (p / 32 * 0x20000 + p % 32 * 0x20) := by simp [Reg.addr, MEM_SBWAIT, pix, dimOff]
  rw [stallRegs, dep, wait, addr_six (r := SCT_BANK_STALLS) rfl rfl, addr_pix (r := PRS_BOARD_STALLS) rfl rfl, addr_pix (r := PRS_HOLD_STALLS) rfl rfl]
  rfl

theorem SCT_BANKMASK_apart (p : Fin 256) (k : Fin 4) : SCT_BANKMASK.addr (six p k) ∉ stallRegs p k := by
  have win := dieWin_press p.isLt
  have off : SCT_BANKMASK.addr (six p k) = dieWin ((p : Nat) / 32) + 0x11004 + ((p : Nat) % 32 * 0x4000 + k * 0x400) := addr_six rfl rfl p k
  rw [stallRegs_eq, off]
  simp only [List.mem_cons, List.not_mem_nil, or_false]
  omega

theorem SCT_WAKES_apart (p : Fin 256) (k : Fin 4) : SCT_WAKES.addr (six p k) ∉ stallRegs p k := by
  have win := dieWin_press p.isLt
  have off : SCT_WAKES.addr (six p k) = dieWin ((p : Nat) / 32) + 0x11014 + ((p : Nat) % 32 * 0x4000 + k * 0x400) := addr_six rfl rfl p k
  rw [stallRegs_eq, off]
  simp only [List.mem_cons, List.not_mem_nil, or_false]
  omega

theorem GLB_REPRO_PROFILE_apart (p : Fin 256) (k : Fin 4) : GLB_REPRO_PROFILE.addr [] ∉ stallRegs p k := by
  have win := dieWin_press p.isLt
  have off : GLB_REPRO_PROFILE.addr [] = 0x18 := rfl
  rw [stallRegs_eq, off]
  simp only [List.mem_cons, List.not_mem_nil, or_false]
  omega
theorem SCT_BANKMASK_ne_WAKES (p k : Nat) : SCT_BANKMASK.addr (six p k) ≠ SCT_WAKES.addr (six p k) := by
  rw [addr_six rfl rfl, addr_six rfl rfl]
  exact fun h => absurd (Nat.add_left_cancel (Nat.add_right_cancel h)) (by decide)

section
variable {s : State} {p k : Nat} {w : Stalls}

theorem RegsKept.incF {as : List Nat} {s t : State} {r : Reg} {ix : List Nat} {f : Fld} {n : Nat} (k : RegsKept as s t) (h : r.addr ix ∈ as) :
    RegsKept as s (t.incF r ix f n) := k.setF h

theorem addStalls_kept : RegsKept (stallRegs p k) s (s.addStalls p k w) :=
  (((((RegsKept.refl _ s).incF (by simp [stallRegs])).incF (by simp [stallRegs])).incF (by simp [stallRegs])).incF (by simp [stallRegs])).incF
    (by simp [stallRegs])

theorem fmode_congr {as : List Nat} {t : State} (h : RegsKept as s t) (hr : GLB_REPRO_PROFILE.addr [] ∉ as) : t.fmode = s.fmode := by
  rw [State.fmode, h.getF_eq _ hr, h.getF_eq _ hr]; rfl

/-- An instruction at which the section stands acts after its stalls are counted. -/
theorem partRow_issues {i : Nat} {ins : PInstr} (h : s.Issues p k i ins) : ∃ v sm, ∀ (is_ : PInstr → Bool) (act : State → Nat → PWord → State),
    is_ ins = true → s.partRow p k w is_ act = act (s.addStalls p k w) i ⟨v, sm, ins⟩ := by
  obtain ⟨hc, -, -, v, sm, hat⟩ := h
  exact ⟨v, sm, fun is_ act hi => by simp [State.partRow, hc, hat, hi]⟩

end

/-! ### Instructions that name tiles -/

section
variable {s : State} {p k i : Nat} {ins : PInstr}

theorem wakeAll_awake {ts : List Nat} (h : ∀ r ∈ ts, s.gated p k (pairOf r) = false) : s.wakeAll p k ts = s := by
  induction ts with
  | nil => rfl
  | cons t ts ih => rw [State.wakeAll, List.foldl_cons, h t (by simp)]; exact ih fun r hr => h r (by simp [hr])

/-- With every bank awake the instruction takes effect. -/
theorem tileIssue_awake (upto : Nat) (hx : (s.sect p k).inStrip = false) (ha : s.Awake p k ins) :
    s.tileIssue p k i upto ins = s.tileEffect p k i upto ins := by
  have any : ins.tiles.any (fun t => s.waking p k (pairOf t)) = false := List.any_eq_false.mpr fun t ht => by simp [(ha t ht).2]
  simp only [State.tileIssue, hx, Bool.false_eq_true, if_false, wakeAll_awake fun r hr => (ha r hr).1, any, Bool.and_false]

end

section
variable {s : State} {p : Fin 256} {k : Fin 4} {w : Stalls} {i : Nat} {ins : PInstr}

theorem addStalls_awake (ha : s.Awake p k ins) : (s.addStalls p k w).Awake p k ins := fun r hr =>
  ⟨(gated_congr (addStalls_kept.getF_eq _ (SCT_BANKMASK_apart p k)) rfl _).trans (ha r hr).1,
    (waking_congr (addStalls_kept.getF_eq _ (SCT_BANKMASK_apart p k)) _).trans (ha r hr).2⟩

/-- An instruction with its banks awake takes effect after its stalls are counted. -/
theorem tileIssue_stalls (upto : Nat) (hx : (s.sect p k).inStrip = false) (ha : s.Awake p k ins) :
    (s.addStalls p k w).tileIssue p k i upto ins = (s.addStalls p k w).tileEffect p k i upto ins :=
  tileIssue_awake upto hx (addStalls_awake ha)

/-- An instruction that retires changes one section and the stall counters. -/
theorem onlySection_retireAt {u : State} (n : Nat) (f : Section → Section) {more : List Nat} (hk : RegsKept (more ++ stallRegs p k) s u)
    (hf : Frame [.regs] s u) : OnlySection s (u.retireAt p k n f) p k more :=
  ⟨hk.trans (.of_regs_eq rfl), (hf.mono (by decide)).trans ((State.retireAt_frame ..).mono (by decide))⟩

end

end Sys2Proof.Machine
end

section
/-! Tiles as bytes (R173, R257, R259): lists of little-endian elements, the transpose and the conversions. -/

namespace Sys2Proof.Machine

/-! ### Little-endian elements -/

theorem slice_of_le {l : List Byte} {i n : Nat} (h : i + n ≤ l.length) : slice l i n = (l.drop i).take n := by
  have : ((l.drop i).take n).length = n := by rw [List.length_take, List.length_drop]; omega
  simp [slice, this]

theorem flatMap_leBytes_length (n : Nat) (f : Nat → Nat) (l : List Nat) : (l.flatMap (fun i => leBytes n (f i))).length = n * l.length := by
  simp [List.length_flatMap, Nat.mul_comm]

/-- Element `j` of a list of little-endian elements. -/
theorem slice_flatMap_leBytes (n m j : Nat) (f : Nat → Nat) (hj : j < m) :
    slice ((List.range m).flatMap (fun i => leBytes n (f i))) (n * j) n = leBytes n (f j) := by
  have len := flatMap_leBytes_length n f
  have hle : n * j + n ≤ ((List.range m).flatMap (fun i => leBytes n (f i))).length := by
    rw [len, List.length_range, ← Nat.mul_succ]; exact Nat.mul_le_mul_left n hj
  rw [slice_of_le hle]
  obtain ⟨d, rfl⟩ := Nat.exists_eq_add_of_lt hj
  rw [Nat.add_assoc, List.range_add, List.flatMap_append,
    List.drop_append_of_le_length (by rw [len, List.length_range]), List.drop_of_length_le (by rw [len, List.length_range]), List.nil_append,
    List.range_succ_eq_map]
  simp

theorem leAt_flatMap_leBytes (n m j : Nat) (f : Nat → Nat) (hj : j < m) :
    leAt ((List.range m).flatMap (fun i => leBytes n (f i))) (n * j) n = f j % 256 ^ n := by
  rw [leAt, slice_flatMap_leBytes n m j f hj, leNat_leBytes]

/-! ### Tiles -/

theorem tile_length (x : Section) (n : Nat) : (x.tile n).length = 512 := by simp [Section.tile]

theorem tile_getElem? (x : Section) (n : Nat) {i : Nat} (h : i < 512) : (x.tile n)[i]? = some (tget 0 x.tiles (512 * n + i)) := by
  simp [Section.tile, h]

theorem transpose16_length (t : List Byte) : (transpose16 t).length = 512 := by simp [transpose16]

/-- Element (r, c) of a transposed tile is element (c, r) of the tile (R257). -/
theorem transpose16_getElem? {t : List Byte} (ht : t.length = 512) {r c b : Nat} (hr : r < 16) (hc : c < 16) (hb : b < 2) :
    (transpose16 t)[32 * r + 2 * c + b]? = t[32 * c + 2 * r + b]? := by
  have e1 : (32 * r + 2 * c + b) % 32 / 2 = c := by omega
  have e2 : (32 * r + 2 * c + b) / 32 = r := by omega
  have e3 : (32 * r + 2 * c + b) % 2 = b := by omega
  have hi : 32 * r + 2 * c + b < 512 := by omega
  have hj : 32 * c + 2 * r + b < t.length := by omega
  simp [transpose16, hi, e1, e2, e3, hj]

section
variable (m : FMode) (x : Section) (ac fl : Nat) {r c : Nat} (hr : r < 16)
include hr

theorem acvtTile_16 {f : Nat} (hf : f ≤ 1) (hc : c < 16) : leAt (acvtTile m x ac f fl) (32 * r + 2 * c) 2 = m.convert f (x.accAt ac r c) % 2 ^ 16 := by
  have := leAt_flatMap_leBytes 2 256 (16 * r + c) (fun i => m.convert f (x.accAt ac (i / 16) (i % 16))) (by omega)
  rw [show 2 * (16 * r + c) = 32 * r + 2 * c by omega, show (16 * r + c) / 16 = r by omega, show (16 * r + c) % 16 = c by omega] at this
  rw [acvtTile, if_pos hf]
  exact this

theorem acvtTile_8 {f : Nat} (hf : f = 2 ∨ f = 3 ∨ f = 4) (hc : c < 32) :
    leAt (acvtTile m x ac f fl) (32 * r + c) 1 = m.convert f (x.accAt (ac + c / 16) r (c % 16)) % 2 ^ 8 := by
  have := leAt_flatMap_leBytes 1 512 (32 * r + c) (fun i => m.convert f (x.accAt (ac + i % 32 / 16) (i / 32) (i % 16))) (by omega)
  rw [Nat.one_mul, show (32 * r + c) % 32 = c by omega, show (32 * r + c) / 32 = r by omega, show (32 * r + c) % 16 = c % 16 by omega] at this
  rw [acvtTile, if_neg (by omega), if_neg (by omega)]
  exact this

theorem acvtTile_32 (hc : c < 8) : leAt (acvtTile m x ac 5 fl) (32 * r + 4 * c) 4 = m.convert 5 (x.accAt ac r (c + 8 * (fl % 2))) % 2 ^ 32 := by
  have := leAt_flatMap_leBytes 4 128 (8 * r + c) (fun i => m.convert 5 (x.accAt ac (i / 8) (i % 8 + 8 * (fl % 2)))) (by omega)
  rw [show 4 * (8 * r + c) = 32 * r + 4 * c by omega, show (8 * r + c) / 8 = r by omega, show (8 * r + c) % 8 = c by omega] at this
  rw [acvtTile, if_neg (by omega), if_pos rfl]
  exact this

theorem mmaAcc_getElem? (ra rb f fl : Nat) (hc : c < 16) : (mmaAcc m x ac ra rb f fl)[16 * r + c]? =
    some (m.dot f (fl % 2 == 1) (x.accAt ac r c) (slice (x.tile ra) (32 * r) 32) (slice (x.tile rb) (32 * c) 32)) := by
  have hi : 16 * r + c < 256 := by omega
  simp [mmaAcc, each256, hi, show (16 * r + c) / 16 = r by omega, show (16 * r + c) % 16 = c by omega]

end

theorem acvtTile_length (m : FMode) (x : Section) (ac f fl : Nat) : (acvtTile m x ac f fl).length = 512 := by
  unfold acvtTile
  split_ifs <;> rw [flatMap_leBytes_length, List.length_range]

theorem mmaAcc_length (m : FMode) (x : Section) (ac ra rb f fl : Nat) : (mmaAcc m x ac ra rb f fl).length = 256 := by
  simp [mmaAcc, each256]

end Sys2Proof.Machine
end

section
/-! MMAS row by row (R265 to R268): what one row writes, and an MMAS of one row from its issue to its end. -/

namespace Sys2Proof.Machine

/-! ### Board bytes as slices -/

theorem readBoard_getElem? (s : State) (p a : Nat) {n i : Nat} (h : i < n) : (s.readBoard p a n)[i]? = some (s.mbyte (boardOff p (a + i))) := by
  simp [State.readBoard, h]

theorem slice_readBoard (s : State) (p a : Nat) {n i m : Nat} (h : i + m ≤ n) : slice (s.readBoard p a n) i m = s.readBoard p (a + i) m := by
  rw [slice_of_le (by rw [readBoard_length]; omega)]
  refine List.ext_getElem (by simp [readBoard_length]; omega) fun j h1 h2 => ?_
  simp [State.readBoard, Nat.add_assoc]

theorem slice_append_left {a b : List Byte} {i n : Nat} (h : i + n ≤ a.length) : slice (a ++ b) i n = slice a i n := by
  rw [slice_of_le (by rw [List.length_append]; omega), slice_of_le h, List.drop_append_of_le_length (by omega),
    List.take_append_of_le_length (by rw [List.length_drop]; omega)]

theorem slice_append_right {a b : List Byte} {i n : Nat} (h : i + n ≤ b.length) : slice (a ++ b) (a.length + i) n = slice b i n := by
  rw [slice_of_le (by rw [List.length_append]; omega), slice_of_le h, List.drop_append, List.drop_of_length_le (by omega),
    List.nil_append, Nat.add_sub_cancel_left]

/-- A Board address that went once around names the same byte (R243). -/
theorem boardOff_turn (p b j : Nat) : boardOff p (512 * (b % 2048) + j) = boardOff p (512 * b + j) := boardOff_inj.mpr (by omega)

theorem readBoard_turn (s : State) (p b j n : Nat) : s.readBoard p (512 * (b % 2048) + j) n = s.readBoard p (512 * b + j) n := by
  simp only [State.readBoard, Nat.add_assoc, boardOff_turn]

theorem blocksOf_turn (b n : Nat) : blocksOf (512 * (b % 2048)) n = blocksOf (512 * b) n := by
  have e : ∀ i, (512 * (b % 2048) / 512 + i) % 2048 = (512 * b / 512 + i) % 2048 := fun i => by omega
  simp only [blocksOf, Nat.mul_mod_right, e]

theorem heldRange_turn (s : State) (p b n : Nat) : s.heldRange p (512 * (b % 2048)) n = s.heldRange p (512 * b) n := by
  simp only [State.heldRange, blocksOf_turn]

theorem writeWaits_turn (s : State) (p b n : Nat) : s.writeWaits p (512 * (b % 2048)) n = s.writeWaits p (512 * b) n := by
  simp only [State.writeWaits, blocksOf_turn]

/-! ### One row -/

/-- The Board address of result (r, c) of an MMAS (R265). -/
def mmasAt (rows bd r c : Nat) : Nat := 512 * (bd + (if c < 8 then 0 else (rows + 16) / 16)) + 32 * r + 4 * (c % 8)

/-- The Board address of line `h` of row r: its columns 0 to 7, and 8 to 15. -/
def mmasLine (rows bd r : Nat) (h : Bool) : Nat := (bd + if h then mmasHigh rows else 0) * 512 + 32 * r

theorem mmasAt_eq (rows bd r c : Nat) : mmasAt rows bd r c = mmasLine rows bd r (decide (8 ≤ c)) + 4 * (c % 8) := by
  simp only [mmasAt, mmasLine, mmasHigh]
  by_cases h : c < 8
  · simp [h, Nat.not_le.mpr h]; omega
  · simp [h, Nat.not_lt.mp h]; omega

/-- Result (r, c) of an MMAS whose Board is that of `s` (R265). -/
def State.mmasVal (s : State) (p k rb rows f ba bd : Nat) (acc mix : Bool) (r c : Nat) : BitVec 32 :=
  s.fmode.dot f mix (if acc then w32At (s.readBoard p (mmasAt rows bd r c) 4) 0 else 0) (s.readBoard p (512 * ba + 32 * r) 32)
    (slice ((s.sect p k).tile rb) (32 * c) 32)

/-- The bytes of a row's results, the two lines one after the other. -/
def State.mmasBytes (s : State) (p k rb rows f ba bd : Nat) (acc mix : Bool) (r : Nat) : List Byte :=
  (List.range 16).flatMap (fun c => leBytes 4 (s.mmasVal p k rb rows f ba bd acc mix r c).toNat)

section
variable {s u : State} {p k rb rows f ba bd r : Nat} {acc mix : Bool}

/-- The old value of a result is the one that stands in its place. -/
theorem mmas_old {c : Nat} (hc : c < 16) :
    w32At (s.readBoard p (mmasLine rows bd r false) 32 ++ s.readBoard p (mmasLine rows bd r true) 32) (4 * c) =
      w32At (s.readBoard p (mmasAt rows bd r c) 4) 0 := by
  have whole : slice (s.readBoard p (mmasAt rows bd r c) 4) 0 4 = s.readBoard p (mmasAt rows bd r c) 4 := slice_readBoard s p _ (Nat.le_refl 4)
  simp only [w32At, leAt]
  rw [whole, mmasAt_eq]
  by_cases h : c < 8
  · rw [slice_append_left (by rw [readBoard_length]; omega), slice_readBoard s p _ (by omega), Nat.mod_eq_of_lt h,
      decide_eq_false (Nat.not_le.mpr h)]
  · have e : 4 * c = (s.readBoard p (mmasLine rows bd r false) 32).length + 4 * (c % 8) := by rw [readBoard_length]; omega
    rw [e, slice_append_right (by rw [readBoard_length]; omega), slice_readBoard s p _ (by omega), decide_eq_true (Nat.not_lt.mp h)]

/-- A row that nothing keeps back writes its two lines. -/
theorem mmasRow_free (h1 : s.readWaits p (ba * 512 + 32 * r) 32 = false) (h2 : s.writeWaits p (mmasLine rows bd r false) 32 = false)
    (h3 : s.writeWaits p (mmasLine rows bd r true) 32 = false) (h4 : s.heldRange p (mmasLine rows bd r false) 32 = false)
    (h5 : s.heldRange p (mmasLine rows bd r true) 32 = false) : s.mmasRow p k rb rows f ba bd acc mix r =
    .ok ((s.writeBoard p (mmasLine rows bd r false) ((s.mmasBytes p k rb rows f ba bd acc mix r).take 32)).writeBoard p (mmasLine rows bd r true)
      ((s.mmasBytes p k rb rows f ba bd acc mix r).drop 32)) := by
  have vals : s.mmasBytes p k rb rows f ba bd acc mix r = (List.range 16).flatMap (fun c => leBytes 4 (s.fmode.dot f mix
      (if acc then w32At (s.readBoard p (mmasLine rows bd r false) 32 ++ s.readBoard p (mmasLine rows bd r true) 32) (4 * c) else 0)
      (s.readBoard p (ba * 512 + 32 * r) 32) (slice ((s.sect p k).tile rb) (32 * c) 32)).toNat) := by
    refine List.flatMap_congr fun c hc => ?_
    rw [State.mmasVal, mmas_old (List.mem_range.mp hc), Nat.mul_comm 512 ba]
  rw [vals]
  simp only [mmasLine, Bool.false_eq_true, if_false, if_true, Nat.add_zero] at h2 h3 h4 h5 ⊢
  simp only [State.mmasRow, h1, h2, h3, h4, h5, Bool.or_self, Bool.false_eq_true, if_false]

/-- A row that was done was not kept back. -/
theorem mmasRow_ok (h : s.mmasRow p k rb rows f ba bd acc mix r = .ok u) : s.readWaits p (ba * 512 + 32 * r) 32 = false ∧
    s.writeWaits p (mmasLine rows bd r false) 32 = false ∧ s.writeWaits p (mmasLine rows bd r true) 32 = false ∧
    s.heldRange p (mmasLine rows bd r false) 32 = false ∧ s.heldRange p (mmasLine rows bd r true) 32 = false := by
  simp only [mmasLine, Bool.false_eq_true, if_false, if_true, Nat.add_zero]
  simp only [State.mmasRow] at h
  split at h
  · cases h
  rename_i h1
  split at h
  · cases h
  rename_i h2
  simp only [Bool.or_eq_true, not_or, Bool.not_eq_true] at h1 h2
  exact ⟨h1.1.1, h1.1.2, h1.2, h2.1, h2.2⟩

theorem mmasBytes_length : (s.mmasBytes p k rb rows f ba bd acc mix r).length = 64 := by
  rw [State.mmasBytes, flatMap_leBytes_length, List.length_range]

/-- The two lines of a row share no byte. -/
theorem mmasLine_apart {i j : Nat} (hr : rows < 256) (hi : i < 32) (hj : j < 32) :
    boardOff p (mmasLine rows bd r false + i) ≠ boardOff p (mmasLine rows bd r true + j) := by
  have h1 : 1 ≤ mmasHigh rows ∧ mmasHigh rows ≤ 16 := by rw [mmasHigh]; omega
  rw [Ne, boardOff_inj]
  simp only [mmasLine, Bool.false_eq_true, if_false, if_true, Nat.add_zero, Nat.add_mul]
  omega

/-- A row writes the 16 results to its two lines, and no other byte (R265). -/
theorem mmasRow_spec (hm : tok 0 s.mem = true) (hr : rows < 256) (h : s.mmasRow p k rb rows f ba bd acc mix r = .ok u) :
    (∀ c, c < 16 → leNat (u.readBoard p (mmasAt rows bd r c) 4) = (s.mmasVal p k rb rows f ba bd acc mix r c).toNat) ∧
    (∀ o, (∀ c j, c < 16 → j < 4 → o ≠ boardOff p (mmasAt rows bd r c + j)) → u.mbyte o = s.mbyte o) ∧ Frame [.mem] s u := by
  obtain ⟨h1, h2, h3, h4, h5⟩ := mmasRow_ok h
  let bs := s.mmasBytes p k rb rows f ba bd acc mix r
  let v := s.writeBoard p (mmasLine rows bd r false) (bs.take 32)
  have hl : bs.length = 64 := mmasBytes_length
  have lt : (bs.take 32).length = 32 := by rw [List.length_take, hl]; rfl
  have ld : (bs.drop 32).length = 32 := by rw [List.length_drop, hl]
  obtain rfl : v.writeBoard p (mmasLine rows bd r true) (bs.drop 32) = u := Except.ok.inj ((mmasRow_free h1 h2 h3 h4 h5).symm.trans h)
  have hv : tok 0 v.mem = true := (State.writeBoard_frame ..).2.2 hm
  have low : ∀ i, i < 32 → (v.writeBoard p (mmasLine rows bd r true) (bs.drop 32)).mbyte (boardOff p (mmasLine rows bd r false + i)) = bs.getD i 0 :=
    fun i hi => by
      rw [mbyte_writeBoard_ne fun j hj => mmasLine_apart hr hi (ld ▸ hj), mbyte_writeBoard_at hm (by omega) (by omega), List.getD_eq_getElem _ _ (by omega),
        List.getD_eq_getElem _ _ (by omega), List.getElem_take]
  have high : ∀ i, i < 32 → (v.writeBoard p (mmasLine rows bd r true) (bs.drop 32)).mbyte (boardOff p (mmasLine rows bd r true + i)) =
      bs.getD (32 + i) 0 := fun i hi => by
    rw [mbyte_writeBoard_at hv (by omega) (by omega), List.getD_eq_getElem _ _ (by omega), List.getD_eq_getElem _ _ (by omega), List.getElem_drop]
  have byte : ∀ c j, c < 16 → j < 4 → (v.writeBoard p (mmasLine rows bd r true) (bs.drop 32)).mbyte (boardOff p (mmasAt rows bd r c + j)) =
      bs.getD (4 * c + j) 0 := fun c j hc hj => by
    rw [mmasAt_eq, Nat.add_assoc]
    by_cases h : c < 8
    · rw [decide_eq_false (Nat.not_le.mpr h), low _ (by omega), Nat.mod_eq_of_lt h]
    · rw [decide_eq_true (Nat.not_lt.mp h), high _ (by omega), show 32 + (4 * (c % 8) + j) = 4 * c + j by omega]
  refine ⟨fun c hc => ?_, fun o ho => ?_, State.mmasRow_frame _ _ _ _ _ _ _ _ _ _ _ h⟩
  · have bytes : (v.writeBoard p (mmasLine rows bd r true) (bs.drop 32)).readBoard p (mmasAt rows bd r c) 4 =
        leBytes 4 (s.mmasVal p k rb rows f ba bd acc mix r c).toNat := by
      rw [← slice_flatMap_leBytes 4 16 c (fun c => (s.mmasVal p k rb rows f ba bd acc mix r c).toNat) hc]
      have hle : 4 * c + 4 ≤ bs.length := by omega
      show _ = slice bs (4 * c) 4
      rw [slice_of_le hle]
      refine List.ext_getElem (by simp [readBoard_length]; omega) fun j hj1 hj2 => ?_
      have hj : j < 4 := by simpa [readBoard_length] using hj1
      simp only [State.readBoard, List.getElem_map, List.getElem_range, List.getElem_take, List.getElem_drop]
      rw [byte c j hc hj, List.getD_eq_getElem _ _ (by omega)]
    rw [bytes, leNat_leBytes]
    exact Nat.mod_eq_of_lt (BitVec.isLt _)
  · have line : ∀ (h : Bool) i, i < 32 → o ≠ boardOff p (mmasLine rows bd r h + i) := fun h i hi => by
      have := ho (if h then 8 + i / 4 else i / 4) (i % 4) (by split <;> omega) (by omega)
      rw [mmasAt_eq, Nat.add_assoc] at this
      cases h with
      | false =>
        simp only [Bool.false_eq_true, if_false] at this
        rwa [decide_eq_false (by omega), show 4 * (i / 4 % 8) + i % 4 = i by omega] at this
      | true =>
        simp only [if_true] at this
        rwa [decide_eq_true (by omega), show 4 * ((8 + i / 4) % 8) + i % 4 = i by omega] at this
    rw [mbyte_writeBoard_ne fun i hi => line true i (by omega), mbyte_writeBoard_ne fun i hi => line false i (by omega)]

end

end Sys2Proof.Machine
end

section
/-! The instructions that name tiles (R184, R256 to R265), with their banks awake, and the wake of a gated pair. -/

namespace Sys2Proof.Machine

/-! ### Loads and stores of a Board -/

section
variable {s : State} {p k i a : Nat}

theorem loadBoard_free {n : Nat} {f : List Byte → Section → Section} (hp : (s.sect p k).pendW = []) (hr : s.readWaits p a n = false) :
    s.loadBoard p k i a n f = s.retireAt p k i (f (s.readBoard p a n)) := by simp [State.loadBoard, hp, hr]

theorem storeBoard_free {bs : List Byte} (hp : (s.sect p k).pendW = []) (hw : s.writeWaits p a bs.length = false)
    (hh : s.heldRange p a bs.length = false) : s.storeBoard p k i a bs = (s.writeBoard p a bs).retireAt p k i id := by
  simp [State.storeBoard, hp, hw, hh]

end

/-! What TLD, TST, TTR, ACVT and MMA do once their banks are awake. -/
section
variable (s : State) (p k i upto rd ra rb blk ac f fl : Nat) (xf : Bool)

theorem tileEffect_tld : s.tileEffect p k i upto (.tld rd xf blk) =
    s.loadBoard p k i (512 * (s.sect p k).effBlk xf blk) 512 (fun bs y => y.setTile rd bs) := rfl

theorem tileEffect_tst : s.tileEffect p k i upto (.tst ra xf blk) = s.storeBoard p k i (512 * (s.sect p k).effBlk xf blk) ((s.sect p k).tile ra) := rfl

theorem tileEffect_ttr : s.tileEffect p k i upto (.ttr rd ra f) = s.retireAt p k i (fun y => y.setTile rd (transpose16 (y.tile ra))) := rfl

theorem tileEffect_acvt : s.tileEffect p k i upto (.acvt rd ac f fl) = s.retireAt p k i (fun y => y.setTile rd (acvtTile s.fmode y ac f fl)) := rfl

theorem tileEffect_mma : s.tileEffect p k i upto (.mma ac ra rb f fl) =
    (s.incF SCT_BANK_STALLS (six p k) SCT_BANK_STALLS.COUNT (PInstr.mma ac ra rb f fl).ownConflict).retireAt p k i
      (fun y => y.setAcc ac (mmaAcc s.fmode y ac ra rb f fl)) := rfl

end

/-! ### An MMAS of one row -/

section
variable {s v : State} {p k i rb rows f ba bd upto : Nat} {acc mix : Bool}

theorem mmasRows_end (fuel : Nat) (h : rows < (s.sect p k).row) :
    s.mmasRows p k i rb rows f ba bd acc mix upto (fuel + 1) = s.stripDone p k i := by simp only [State.mmasRows, if_pos h]

theorem mmasRows_row (fuel : Nat) (h1 : (s.sect p k).row ≤ rows) (h2 : (s.sect p k).row < upto)
    (h : s.mmasRow p k rb rows f ba bd acc mix (s.sect p k).row = .ok v) : s.mmasRows p k i rb rows f ba bd acc mix upto (fuel + 1) =
    (v.setSect p k { v.sect p k with row := (s.sect p k).row + 1 }).mmasRows p k i rb rows f ba bd acc mix upto fuel := by
  simp only [State.mmasRows, if_neg (Nat.not_lt.mpr h1), if_neg (Nat.not_le.mpr h2), h]

/-- The section that has begun an MMAS at index i. -/
def Section.inMmas (x : Section) (i : Nat) : Section := { x with st := .running, wait := .none, pc := i, next := i + 1, inStrip := true, row := 0 }

/-- The section with `r` rows of its MMAS done. -/
def Section.atRow (x : Section) (r : Nat) : Section := { x with row := r }

@[simp] theorem Section.inMmas_tile (x : Section) (i n : Nat) : (x.inMmas i).tile n = x.tile n := rfl

theorem stripDone_sect (i : Nat) (h : tok {} s.sects = true) : (s.stripDone p k i).sect p k = (s.sect p k).goto (i + 1) :=
  sect_setSect_same (s := s.setF SCT_TSTART (six p k) SCT_TSTART.ROW 0) h _

/-- An MMAS of one row that nothing keeps back: the row, and the end of the strip. -/
theorem tileEffect_mmas_one {xf : Bool} (htok : tok {} s.sects = true) (hx : (s.sect p k).inStrip = false) (hp : (s.sect p k).pendW = [])
    (hrow : (s.setSect p k ((s.sect p k).inMmas i)).mmasRow p k rb 0 f ((s.sect p k).effBlk xf ba) ((s.sect p k).effBlk xf bd) acc mix 0 = .ok v) :
    s.tileEffect p k i 1 (.mmas rb 0 f xf ba bd acc mix) = (v.setSect p k ((v.sect p k).atRow 1)).stripDone p k i := by
  have y : (s.setSect p k ((s.sect p k).inMmas i)).sect p k = (s.sect p k).inMmas i := sect_setSect_same htok _
  have hv : tok {} v.sects = true := by
    rw [show v.sects = _ from (State.mmasRow_frame _ _ _ _ _ _ _ _ _ _ _ hrow).1 .sects (by decide)]
    exact setSect_sects_tok _ htok
  have row : ((s.setSect p k ((s.sect p k).inMmas i)).sect p k).row = 0 := by rw [y]; rfl
  have begun : s.tileEffect p k i 1 (.mmas rb 0 f xf ba bd acc mix) = (s.setSect p k ((s.sect p k).inMmas i)).mmasRows p k i rb 0 f
      ((s.sect p k).effBlk xf ba) ((s.sect p k).effBlk xf bd) acc mix 1 257 := by
    simp [State.tileEffect, hx, hp, Section.inMmas]
  rw [begun, mmasRows_row 256 (by rw [row]) (by rw [row]; decide) (by rw [row]; exact hrow), row, mmasRows_end 255]
  · rfl
  · rw [sect_setSect_same hv]
    exact Nat.zero_lt_one

/-- The results of an MMAS of one row lie in its two blocks. -/
theorem readBoard_mmasAt_one (s : State) (p bd c : Nat) : s.readBoard p (mmasAt 0 bd 0 c) 4 =
    s.readBoard p ((if c < 8 then 512 * bd else 512 * ((bd + 1) % 2048)) + 4 * (c % 8)) 4 := by
  simp only [mmasAt]
  by_cases h : c < 8
  · simp [h]
  · simp only [h, if_false]
    rw [readBoard_turn]
    rfl

end

/-! ### Issue with every bank awake -/

section
variable {s : State} {p : Fin 256} {k : Fin 4} {w : Stalls} {i : Nat}

/-- The state after the stalls of an instruction is `s` but for the stall counters. -/
theorem addStalls_frame_regs : Frame [.regs] s (s.addStalls p k w) := State.addStalls_frame ..

theorem addStalls_fmode : (s.addStalls p k w).fmode = s.fmode := fmode_congr addStalls_kept (GLB_REPRO_PROFILE_apart p k)

theorem mbyte_congr {t : State} (h : t.mem = s.mem) (o : Nat) : t.mbyte o = s.mbyte o := by rw [State.mbyte, h]; rfl

@[simp] theorem retireAt_regs (u : State) (f : Section → Section) : (u.retireAt p k i f).regs = u.regs := rfl

@[simp] theorem waitAt_regs (u : State) (n : Nat) (c : SecWait) : (u.waitAt p k n c).regs = u.regs := rfl

theorem getF_congr {t : State} (h : t.regs = s.regs) (r : Reg) (ix : List Nat) (f : Fld) : t.getF r ix f = s.getF r ix f := by
  rw [State.getF, State.reg, h]; rfl

@[simp] theorem retireAt_mem (u : State) (f : Section → Section) : (u.retireAt p k i f).mem = u.mem := rfl

@[simp] theorem addStalls_sect (q j : Nat) : (s.addStalls p k w).sect q j = s.sect q j := rfl

/-- An instruction that writes a tile and retires: what the statements ask of those that change one section. -/
theorem retires_setTile {ins : PInstr} {u : State} {rd : Nat} (h : s.Issues p k i ins) (bs : Section → List Byte) (kept : RegsKept (stallRegs p k) s u)
    (frame : Frame [.regs] s u) : Retired s (u.retireAt p k i (fun y => y.setTile rd (bs y))) p k (i + 1) ((s.sect p k).setTile rd (bs (s.sect p k))) ∧
      OnlySection s (u.retireAt p k i (fun y => y.setTile rd (bs y))) p k [] := by
  obtain ⟨-, hst, hpend, -⟩ := h
  exact ⟨retireAt_retired i (fun y => y.setTile rd (bs y)) (frame.1 .sects (by decide)) ((Section.setTile_pendW ..).trans hpend)
    (by rw [Section.setTile_st, hst]; decide), onlySection_retireAt _ _ kept frame⟩

section
variable {rd ra rb blk ac f fl : Nat} {xf : Bool}

theorem exec_tld (h : s.Issues p k i (.tld rd xf blk)) (hx : (s.sect p k).inStrip = false) (ha : s.Awake p k (.tld rd xf blk)) :
    exec (.tld p k w) s = .next ((s.addStalls p k w).tileEffect p k i 0 (.tld rd xf blk)) := by
  obtain ⟨v, sm, row⟩ := partRow_issues h (w := w)
  show execTld p k w s = _
  rw [execTld, row _ _ rfl, tileIssue_stalls 0 hx ha]

theorem exec_tst (h : s.Issues p k i (.tst ra xf blk)) (hx : (s.sect p k).inStrip = false) (ha : s.Awake p k (.tst ra xf blk)) :
    exec (.tst p k w) s = .next ((s.addStalls p k w).tileEffect p k i 0 (.tst ra xf blk)) := by
  obtain ⟨v, sm, row⟩ := partRow_issues h (w := w)
  show execTst p k w s = _
  rw [execTst, row _ _ rfl, tileIssue_stalls 0 hx ha]

theorem exec_tzero (h : s.Issues p k i (.tzero rd)) :
    exec (.tzero p k w) s = .next ((s.addStalls p k w).tileIssue p k i 0 (.tzero rd)) := by
  obtain ⟨v, sm, row⟩ := partRow_issues h (w := w)
  show execTzero p k w s = _
  rw [execTzero, row _ _ rfl]

theorem exec_ttr (h : s.Issues p k i (.ttr rd ra f)) (hx : (s.sect p k).inStrip = false) (ha : s.Awake p k (.ttr rd ra f)) :
    exec (.ttr p k w) s = .next ((s.addStalls p k w).tileEffect p k i 0 (.ttr rd ra f)) := by
  obtain ⟨v, sm, row⟩ := partRow_issues h (w := w)
  show execTtr p k w s = _
  rw [execTtr, row _ _ rfl, tileIssue_stalls 0 hx ha]

theorem exec_acvt (h : s.Issues p k i (.acvt rd ac f fl)) (hx : (s.sect p k).inStrip = false) (ha : s.Awake p k (.acvt rd ac f fl)) :
    exec (.acvt p k w) s = .next ((s.addStalls p k w).retireAt p k i (fun y => y.setTile rd (acvtTile s.fmode y ac f fl))) := by
  obtain ⟨v, sm, row⟩ := partRow_issues h (w := w)
  show execAcvt p k w s = _
  rw [execAcvt, row _ _ rfl, tileIssue_stalls 0 hx ha, tileEffect_acvt, addStalls_fmode]

theorem exec_mma (h : s.Issues p k i (.mma ac ra rb f fl)) (hx : (s.sect p k).inStrip = false) (ha : s.Awake p k (.mma ac ra rb f fl)) :
    exec (.mma p k w) s = .next (((s.addStalls p k w).incF SCT_BANK_STALLS (six p k) SCT_BANK_STALLS.COUNT
      (PInstr.mma ac ra rb f fl).ownConflict).retireAt p k i (fun y => y.setAcc ac (mmaAcc s.fmode y ac ra rb f fl))) := by
  obtain ⟨v, sm, row⟩ := partRow_issues h (w := w)
  show execMma p k w s = _
  rw [execMma, row _ _ rfl, tileIssue_stalls 0 hx ha, tileEffect_mma, addStalls_fmode]

theorem exec_mmas {rows ba bd upto : Nat} {acc mix : Bool} (h : s.Issues p k i (.mmas rb rows f xf ba bd acc mix)) (hx : (s.sect p k).inStrip = false)
    (ha : s.Awake p k (.mmas rb rows f xf ba bd acc mix)) :
    exec (.mmas p k w upto) s = .next ((s.addStalls p k w).tileEffect p k i upto (.mmas rb rows f xf ba bd acc mix)) := by
  obtain ⟨v, sm, row⟩ := partRow_issues h (w := w)
  show execMmas p k w upto s = _
  rw [execMmas, row _ _ rfl, tileIssue_stalls upto hx ha]

end

end

/-! ### The wake of a gated pair -/

section
variable {s : State} {p k b : Nat}

/-- A gated pair that starts to wake (R184). -/
theorem startWake_spec (h : tok 0 s.regs = true) (hb : b < 8) (hg : s.gated p k b = true) (hw : s.waking p k b = false) :
    ((s.startWake p k b).getF SCT_BANKMASK (six p k) SCT_BANKMASK.GATE).testBit b = false ∧ (s.startWake p k b).waking p k b = true ∧
    Counted SCT_WAKES (six p k) SCT_WAKES.COUNT 1 s (s.startWake p k b) ∧
    RegsKept [SCT_BANKMASK.addr (six p k), SCT_WAKES.addr (six p k)] s (s.startWake p k b) := by
  let g := s.setF SCT_BANKMASK (six p k) SCT_BANKMASK.GATE (s.getF SCT_BANKMASK (six p k) SCT_BANKMASK.GATE - 2 ^ b)
  let a := g.setF SCT_BANKMASK (six p k) SCT_BANKMASK.WAKING (g.getF SCT_BANKMASK (six p k) SCT_BANKMASK.WAKING + 2 ^ b)
  have htg : tok 0 g.regs = true := setF_tok s _ _ _ _ h
  have hta : tok 0 a.regs = true := setF_tok g _ _ _ _ htg
  have gate : (s.getF SCT_BANKMASK (six p k) SCT_BANKMASK.GATE).testBit b = true := by
    rw [State.gated, Bool.and_eq_true] at hg; exact hg.1
  have same : g.getF SCT_BANKMASK (six p k) SCT_BANKMASK.WAKING = s.getF SCT_BANKMASK (six p k) SCT_BANKMASK.WAKING :=
    getF_setF_field s _ _ _ _ _ h (by decide) (by decide)
  have last : ∀ f, (s.startWake p k b).getF SCT_BANKMASK (six p k) f = a.getF SCT_BANKMASK (six p k) f := fun f =>
    getF_setF_ne a _ _ _ _ _ _ _ (SCT_BANKMASK_ne_WAKES p k)
  have wakes : ∀ f, a.getF SCT_WAKES (six p k) f = s.getF SCT_WAKES (six p k) f := fun f =>
    (((RegsKept.refl [SCT_BANKMASK.addr (six p k)] s).setF (by simp)).setF (by simp)).getF_eq f (by simpa using (SCT_BANKMASK_ne_WAKES p k).symm)
  refine ⟨?_, ?_, ?_, ((((RegsKept.refl _ s).setF (by simp)).setF (by simp)).incF (by simp))⟩
  · rw [last, getF_setF_field g _ _ _ _ _ htg (by decide) (by decide), testBit_getF_setF _ _ _ _ _ h (by decide) hb,
      testBit_sub_two_pow gate]
    simp
  · rw [State.waking, last, testBit_getF_setF _ _ _ _ _ htg (by decide) hb, same, testBit_add_two_pow hw]
    simp
  · rw [Counted, ← wakes]
    exact counted_incF a _ _ _ 1 hta (by decide)

/-- A TZERO whose pair is gated and not yet waking starts the wake and waits for it. -/
theorem tileIssue_tzero_gated {i rd : Nat} (h : tok 0 s.regs = true) (hx : (s.sect p k).inStrip = false) (hg : s.gated p k (pairOf rd) = true)
    (hw : s.waking p k (pairOf rd) = false) : s.tileIssue p k i 0 (.tzero rd) = (s.startWake p k (pairOf rd)).waitAt p k i .wake := by
  have waking := (startWake_spec h (show pairOf rd < 8 by rw [pairOf]; omega) hg hw).2.1
  have strip : ((s.startWake p k (pairOf rd)).sect p k).inStrip = false := hx
  simp only [State.tileIssue, hx, PInstr.tiles, State.wakeAll, List.foldl_cons, List.foldl_nil, hg, Bool.false_eq_true, if_false, if_true, strip,
    List.any_cons, List.any_nil, waking, Bool.true_or, Bool.not_false, Bool.and_self]

end

/-! ### The statement -/

section
variable {s : State} {p : Fin 256} {k : Fin 4} {w : Stalls} {i : Nat} {xf : Bool}

/-- TST with its banks awake, past scoreboards and holds (R256). -/
theorem tst_stores {ra blk : Nat} (hwf : s.wf) (hx : (s.sect p k).inStrip = false) (h : s.Issues p k i (.tst ra xf blk))
    (ha : s.Awake p k (.tst ra xf blk)) (hw : s.writeWaits p (512 * (s.sect p k).effBlk xf blk) 512 = false)
    (hh : s.heldRange p (512 * (s.sect p k).effBlk xf blk) 512 = false) : Completes (exec (.tst p k w) s) (fun t =>
      Retired s t p k (i + 1) (s.sect p k) ∧
      (∀ n, n < 512 → t.mbyte (boardOff p (512 * (s.sect p k).effBlk xf blk + n)) = tget 0 (s.sect p k).tiles (512 * ra + n)) ∧
      (∀ o, (∀ n, n < 512 → o ≠ boardOff p (512 * (s.sect p k).effBlk xf blk + n)) → t.mbyte o = s.mbyte o) ∧
      RegsKept (stallRegs p k) s t ∧ Frame [.regs, .sects, .mem] s t) := by
  obtain ⟨u, run, kept, frame⟩ : ∃ u, exec (.tst p k w) s = .next (u.tileEffect p k i 0 (.tst ra xf blk)) ∧ RegsKept (stallRegs p k) s u ∧
    Frame [.regs] s u := ⟨_, exec_tst h hx ha, addStalls_kept, addStalls_frame_regs⟩
  have sects : u.sects = s.sects := frame.1 .sects (by decide)
  have mem : u.mem = s.mem := frame.1 .mem (by decide)
  have sect : u.sect p k = s.sect p k := sect_congr sects ..
  have hl : ((s.sect p k).tile ra).length = 512 := tile_length _ _
  generalize he : 512 * (s.sect p k).effBlk xf blk = a at *
  have waits : u.writeWaits p a ((s.sect p k).tile ra).length = false := by
    rw [hl, writeWaits_congr (show u.queues = s.queues from frame.1 .queues (by decide)), hw]
  have holds : u.heldRange p a ((s.sect p k).tile ra).length = false := by
    rw [hl, heldRange_congr (show u.press = s.press from frame.1 .press (by decide)), hh]
  have store : u.tileEffect p k i 0 (.tst ra xf blk) = (u.writeBoard p a ((s.sect p k).tile ra)).retireAt p k i id := by
    rw [tileEffect_tst, sect, he]
    exact storeBoard_free (sect ▸ h.2.2.1) waits holds
  refine ⟨(u.writeBoard p a ((s.sect p k).tile ra)).retireAt p k i id, by rw [run, store],
    retireAt_retired i id ((State.writeBoard_sects ..).trans sects) h.2.2.1 (by rw [id, h.2.1]; decide), fun n hn => ?_, fun o ho => ?_, kept.trans (.of_regs_eq ((retireAt_regs ..).trans (State.writeBoard_regs ..))),
    (frame.mono (by decide)).trans (((State.writeBoard_frame ..).mono (by decide)).trans ((State.retireAt_frame ..).mono (by decide)))⟩
  · rw [mbyte_congr (retireAt_mem ..), mbyte_writeBoard_at (mem ▸ hwf.1) (by omega) (by omega), List.getD_eq_getElem?_getD, tile_getElem? _ _ hn]
    rfl
  · rw [mbyte_congr (retireAt_mem ..), mbyte_writeBoard_ne (by rwa [hl]), mbyte_congr mem]

/-- An MMAS of one row with its banks awake, past scoreboards and holds (R265). -/
theorem mmas_one {rb f ba bd : Nat} {acc mix : Bool} (hwf : s.wf) (hx : (s.sect p k).inStrip = false) (h : s.Issues p k i (.mmas rb 0 f xf ba bd acc mix))
    (ha : s.Awake p k (.mmas rb 0 f xf ba bd acc mix)) (htok : tok {} s.sects = true) :
    let ra := 512 * (s.sect p k).effBlk xf ba
    let d0 := 512 * (s.sect p k).effBlk xf bd
    let d1 := 512 * (((s.sect p k).effBlk xf bd + 1) % 2048)
    s.readWaits p ra 32 = false → s.writeWaits p d0 32 = false → s.writeWaits p d1 32 = false → s.heldRange p d0 32 = false → s.heldRange p d1 32 = false →
    Completes (exec (.mmas p k w 1) s) (fun t => (t.sect p k).next = i + 1 ∧ (t.sect p k).inStrip = false ∧ (t.sect p k).st = .running ∧
      (∀ c, c < 16 → leNat (t.readBoard p ((if c < 8 then d0 else d1) + 4 * (c % 8)) 4) =
        (s.fmode.dot f mix (if acc then w32At (s.readBoard p ((if c < 8 then d0 else d1) + 4 * (c % 8)) 4) 0 else 0)
          (s.readBoard p ra 32) (slice ((s.sect p k).tile rb) (32 * c) 32)).toNat) ∧
      (∀ o, (∀ n, n < 32 → o ≠ boardOff p (d0 + n) ∧ o ≠ boardOff p (d1 + n)) → t.mbyte o = s.mbyte o) ∧
      Frame [.regs, .sects, .mem] s t) := by
  obtain ⟨u, run, mode, frame⟩ : ∃ u, exec (.mmas p k w 1) s = .next (u.tileEffect p k i 1 (.mmas rb 0 f xf ba bd acc mix)) ∧ u.fmode = s.fmode ∧
    Frame [.regs] s u := ⟨_, exec_mmas h hx ha, addStalls_fmode, addStalls_frame_regs⟩
  have sects : u.sects = s.sects := frame.1 .sects (by decide)
  have umem : u.mem = s.mem := frame.1 .mem (by decide)
  have press : u.press = s.press := frame.1 .press (by decide)
  have queues : u.queues = s.queues := frame.1 .queues (by decide)
  have sect : u.sect p k = s.sect p k := sect_congr sects ..
  have utok : tok {} u.sects = true := sects ▸ htok
  simp only
  generalize hea : (s.sect p k).effBlk xf ba = a
  generalize heb : (s.sect p k).effBlk xf bd = b
  intro hr hw0 hw1 hh0 hh1
  obtain ⟨y, hy⟩ : ∃ y, u.setSect p k ((s.sect p k).inMmas i) = y := ⟨_, rfl⟩
  have ysect : y.sect p k = (s.sect p k).inMmas i := hy ▸ sect_setSect_same utok _
  have yframe : Frame [.sects] u y := hy ▸ State.setSect_frame ..
  have ymem : y.mem = s.mem := (yframe.1 .mem (by decide)).trans umem
  have line0 : mmasLine 0 b 0 false = 512 * b := by simp [mmasLine, Nat.mul_comm]
  have line1 : mmasLine 0 b 0 true = 512 * (b + 1) := by simp [mmasLine, mmasHigh, Nat.mul_comm]
  have turn : ∀ n, boardOff p (512 * ((b + 1) % 2048) + n) = boardOff p (512 * (b + 1) + n) := fun n => boardOff_turn p (b + 1) n
  have yqueues : y.queues = s.queues := (yframe.1 .queues (by decide)).trans queues
  have ypress : y.press = s.press := (yframe.1 .press (by decide)).trans press
  have row := mmasRow_free (s := y) (p := p) (k := k) (rb := rb) (rows := 0) (f := f) (ba := a) (bd := b) (r := 0) (acc := acc) (mix := mix)
    (by rw [readWaits_congr yqueues, Nat.mul_comm]; exact hr) (by rw [writeWaits_congr yqueues, line0, hw0])
    (by rw [writeWaits_congr yqueues, line1, ← writeWaits_turn, hw1]) (by rw [heldRange_congr ypress, line0, hh0])
    (by rw [heldRange_congr ypress, line1, ← heldRange_turn, hh1])
  obtain ⟨results, others, vframe⟩ := mmasRow_spec (ymem ▸ hwf.1) (by decide) row
  generalize (y.writeBoard p (mmasLine 0 b 0 false) _).writeBoard p (mmasLine 0 b 0 true) _ = v at results others vframe row
  have done := tileEffect_mmas_one (v := v) (xf := xf) (ba := ba) (bd := bd) (rb := rb) (f := f) (acc := acc) (mix := mix) (i := i) utok
    (sect.symm ▸ hx) (sect.symm ▸ h.2.2.1) (by rw [sect, hea, heb, hy]; exact row)
  have vsect : v.sect p k = (s.sect p k).inMmas i := (sect_congr (vframe.1 .sects (by decide)) ..).trans ysect
  have vtok : tok {} v.sects = true := by
    rw [show v.sects = y.sects from vframe.1 .sects (by decide), ← hy]; exact setSect_sects_tok _ utok
  obtain ⟨t, ht⟩ : ∃ t, (v.setSect p k ((v.sect p k).atRow 1)).stripDone p k i = t := ⟨_, rfl⟩
  have final : t.sect p k = (((s.sect p k).inMmas i).atRow 1).goto (i + 1) := by
    rw [← ht, stripDone_sect i (setSect_sects_tok _ vtok), sect_setSect_same vtok, vsect]
  have tmem : t.mem = v.mem := ht ▸ rfl
  have val : ∀ c, y.mmasVal p k rb 0 f a b acc mix 0 c = s.fmode.dot f mix
      (if acc then w32At (s.readBoard p ((if c < 8 then 512 * b else 512 * ((b + 1) % 2048)) + 4 * (c % 8)) 4) 0 else 0)
      (s.readBoard p (512 * a) 32) (slice ((s.sect p k).tile rb) (32 * c) 32) := fun c => by
    rw [State.mmasVal, ysect, Section.inMmas_tile, readBoard_mmasAt_one, readBoard_congr ymem, readBoard_congr ymem, ← mode, ← hy]
    rfl
  refine ⟨t, by rw [run, done, ht], by rw [final]; rfl, by rw [final]; rfl, by rw [final]; rfl, fun c hc => ?_, fun o ho => ?_, ?_⟩
  · rw [← val, ← results c hc, readBoard_mmasAt_one, readBoard_congr tmem]
  · rw [mbyte_congr tmem, ← mbyte_congr ymem]
    refine others o fun c j hc hj => ?_
    rw [mmasAt_eq, Nat.add_assoc]
    cases decide (8 ≤ c) with
    | false => rw [line0]; exact (ho _ (by omega)).1
    | true => rw [line1, ← turn]; exact (ho _ (by omega)).2
  · exact (frame.mono (by decide)).trans ((yframe.mono (by decide)).trans ((vframe.mono (by decide)).trans
      (((State.setSect_frame ..).mono (by decide)).trans (ht ▸ (State.stripDone_frame ..).mono (by decide)))))

theorem tld_loads {rd blk : Nat} (hx : (s.sect p k).inStrip = false) (h : s.Issues p k i (.tld rd xf blk)) (ha : s.Awake p k (.tld rd xf blk))
    (hr : s.readWaits p (512 * (s.sect p k).effBlk xf blk) 512 = false) : Completes (exec (.tld p k w) s) (fun t =>
      Retired s t p k (i + 1) ((s.sect p k).setTile rd (s.readBoard p (512 * (s.sect p k).effBlk xf blk) 512)) ∧ OnlySection s t p k []) := by
  obtain ⟨u, run, kept, frame⟩ : ∃ u, exec (.tld p k w) s = .next (u.tileEffect p k i 0 (.tld rd xf blk)) ∧ RegsKept (stallRegs p k) s u ∧
    Frame [.regs] s u := ⟨_, exec_tld h hx ha, addStalls_kept, addStalls_frame_regs⟩
  have sects : u.sects = s.sects := frame.1 .sects (by decide)
  have sect : u.sect p k = s.sect p k := sect_congr sects ..
  rw [run, tileEffect_tld, sect, loadBoard_free (sect ▸ h.2.2.1) (by rw [readWaits_congr (show u.queues = s.queues from frame.1 .queues (by decide)), hr]),
    readBoard_congr (show u.mem = s.mem from frame.1 .mem (by decide))]
  exact ⟨_, rfl, retires_setTile h _ kept frame⟩

theorem tzero_clears {rd : Nat} (hx : (s.sect p k).inStrip = false) (h : s.Issues p k i (.tzero rd)) (ha : s.Awake p k (.tzero rd)) :
    Completes (exec (.tzero p k w) s) (fun t => Retired s t p k (i + 1) ((s.sect p k).setTile rd (List.replicate 512 0)) ∧ OnlySection s t p k []) := by
  rw [exec_tzero h, tileIssue_stalls 0 hx ha, tileEffect_tzero]
  exact ⟨_, rfl, retires_setTile h (fun _ => List.replicate 512 0) addStalls_kept addStalls_frame_regs⟩

theorem ttr_transposes {rd ra f : Nat} (hx : (s.sect p k).inStrip = false) (h : s.Issues p k i (.ttr rd ra f)) (ha : s.Awake p k (.ttr rd ra f)) :
    Completes (exec (.ttr p k w) s) (fun t => Retired s t p k (i + 1) ((s.sect p k).setTile rd (transpose16 ((s.sect p k).tile ra))) ∧
      OnlySection s t p k []) := by
  rw [exec_ttr h hx ha, tileEffect_ttr]
  exact ⟨_, rfl, retires_setTile h (fun y => transpose16 (y.tile ra)) addStalls_kept addStalls_frame_regs⟩

theorem acvt_converts {rd ac f fl : Nat} (hx : (s.sect p k).inStrip = false) (h : s.Issues p k i (.acvt rd ac f fl))
    (ha : s.Awake p k (.acvt rd ac f fl)) : Completes (exec (.acvt p k w) s) (fun t =>
      Retired s t p k (i + 1) ((s.sect p k).setTile rd (acvtTile s.fmode (s.sect p k) ac f fl)) ∧ OnlySection s t p k []) := by
  rw [exec_acvt h hx ha]
  exact ⟨_, rfl, retires_setTile h (fun y => acvtTile s.fmode y ac f fl) addStalls_kept addStalls_frame_regs⟩

theorem mma_adds {ac ra rb f mix : Nat} (hx : (s.sect p k).inStrip = false) (h : s.Issues p k i (.mma ac ra rb f mix))
    (ha : s.Awake p k (.mma ac ra rb f mix)) : Completes (exec (.mma p k w) s) (fun t =>
      Retired s t p k (i + 1) ((s.sect p k).setAcc ac (mmaAcc s.fmode (s.sect p k) ac ra rb f mix)) ∧ OnlySection s t p k []) := by
  obtain ⟨u, run, kept, frame⟩ : ∃ u, exec (.mma p k w) s = .next (u.retireAt p k i (fun y => y.setAcc ac (mmaAcc s.fmode y ac ra rb f mix))) ∧
      RegsKept (stallRegs p k) s u ∧ Frame [.regs] s u :=
    ⟨_, exec_mma h hx ha, addStalls_kept.incF (by simp [stallRegs]), addStalls_frame_regs.trans (State.incF_frame ..)⟩
  rw [run]
  exact ⟨_, rfl, retireAt_retired i (fun y => y.setAcc ac (mmaAcc s.fmode y ac ra rb f mix)) (frame.1 .sects (by decide))
    ((Section.setAcc_pendW ..).trans h.2.2.1) (by rw [Section.setAcc_st, h.2.1]; decide), onlySection_retireAt _ _ kept frame⟩

/-- A TZERO whose pair is gated and not yet waking (R184). -/
theorem tzero_wakes {rd : Nat} (hwf : s.wf) (hx : (s.sect p k).inStrip = false) (h : s.Issues p k i (.tzero rd))
    (hg : s.gated p k (pairOf rd) = true) (hw : s.waking p k (pairOf rd) = false) : Completes (exec (.tzero p k w) s) (fun t =>
      t.gated p k (pairOf rd) = false ∧ t.waking p k (pairOf rd) = true ∧ Counted SCT_WAKES (six p k) SCT_WAKES.COUNT 1 s t ∧
      Waits s t p k i .wake ∧ OnlySection s t p k [SCT_BANKMASK.addr (six p k), SCT_WAKES.addr (six p k)]) := by
  obtain ⟨u, run, kept, frame⟩ : ∃ u, exec (.tzero p k w) s = .next (u.tileIssue p k i 0 (.tzero rd)) ∧ RegsKept (stallRegs p k) s u ∧
    Frame [.regs] s u := ⟨_, exec_tzero h, addStalls_kept, addStalls_frame_regs⟩
  have sects : u.sects = s.sects := frame.1 .sects (by decide)
  have sect : u.sect p k = s.sect p k := sect_congr sects ..
  have gated : u.gated p k (pairOf rd) = true := (gated_congr (kept.getF_eq _ (SCT_BANKMASK_apart p k)) sects _).trans hg
  have waking : u.waking p k (pairOf rd) = false := (waking_congr (kept.getF_eq _ (SCT_BANKMASK_apart p k)) _).trans hw
  have htok : tok 0 u.regs = true := frame.tok hwf.2
  have issue := tileIssue_tzero_gated (i := i) htok (sect.symm ▸ hx) gated waking
  have vframe := State.startWake_frame u p k (pairOf rd)
  have spec := startWake_spec htok (show pairOf rd < 8 by rw [pairOf]; omega) gated waking
  generalize u.startWake p k (pairOf rd) = v at issue vframe spec
  obtain ⟨gate, wake, counted, woken⟩ := spec
  rw [Counted, kept.getF_eq _ (SCT_WAKES_apart p k)] at counted
  have same : ∀ r ix f, (v.waitAt p k i .wake).getF r ix f = v.getF r ix f := fun r ix f => getF_congr (waitAt_regs ..) r ix f
  refine ⟨v.waitAt p k i .wake, by rw [run, issue], ?_, (waking_congr (same ..) _).trans wake, (same ..).trans counted, waitAt_waits i .wake ((vframe.1 .sects (by decide)).trans sects) h.2.2.1,
    (((RegsKept.refl _ s).then kept (by simp)).then woken (by simp)).trans (.of_regs_eq (waitAt_regs ..)), ?_⟩
  · rw [State.gated, same, Bool.and_eq_false_iff]
    exact .inl gate
  · exact (frame.mono (by decide)).trans ((vframe.mono (by decide)).trans ((State.waitAt_frame ..).mono (by decide)))

end

/-- Settles O13: each instruction by its effect after the stalls are counted; MMAS by the two lines that one row writes. -/
theorem tileInstructions : Obligations.TileInstructions := by
  intro p k w s i hwf x at_ hx
  refine ⟨fun rd xf blk h ha hr => tld_loads hx h ha hr, fun ra xf blk h ha hw hh => tst_stores hwf hx h ha hw hh,
    fun rd h ha => tzero_clears hx h ha, fun rd ra f h ha => ?_, fun rd ac f fl h ha hf => ?_, fun rd ac f fl h ha hf => ?_,
    fun rd ac fl h ha => ?_, fun ac ra rb f mix h ha => ?_, fun rb f xf ba bd acc mix h ha htok => mmas_one hwf hx h ha htok,
    fun rb rows f ba bd r acc mix u _ hrows hrow => mmasRow_spec hwf.1 hrows hrow, fun rd h hg hw => tzero_wakes hwf hx h hg hw⟩
  · obtain ⟨t, run, done⟩ := ttr_transposes (w := w) hx h ha
    exact ⟨t, run, _, transpose16_length _, fun r c b hr hc hb => transpose16_getElem? (tile_length _ _) hr hc hb, done⟩
  · obtain ⟨t, run, done⟩ := acvt_converts (w := w) hx h ha
    exact ⟨t, run, _, acvtTile_length .., fun r c hr hc => acvtTile_16 _ _ _ _ hr (by omega) hc, done⟩
  · obtain ⟨t, run, done⟩ := acvt_converts (w := w) hx h ha
    exact ⟨t, run, _, acvtTile_length .., fun r c hr hc => acvtTile_8 _ _ _ _ hr hf hc, done⟩
  · obtain ⟨t, run, done⟩ := acvt_converts (w := w) hx h ha
    exact ⟨t, run, _, acvtTile_length .., fun r c hr hc => acvtTile_32 _ _ _ _ hr hc, done⟩
  · obtain ⟨t, run, done⟩ := mma_adds (w := w) hx h ha
    exact ⟨t, run, _, mmaAcc_length .., fun r c hr hc => mmaAcc_getElem? _ _ _ hr _ _ _ _ hc, done⟩

end Sys2Proof.Machine
end

section
/-! Commands that wait for a unit (R849 to R852): who waits, what a completion leaves, and the bits of the reset and power registers. -/

namespace Sys2Proof.Machine

section
variable {s : State} {r : Reg} {ix : List Nat}

/-! ### Bits of a register -/

theorem orReg_kept (m : Nat) : RegsKept [r.addr ix] s (s.orReg r ix m) := setReg_kept s r ix _

theorem clrBits_kept (m : Nat) : RegsKept [r.addr ix] s (s.clrBits r ix m) := setReg_kept s r ix _

theorem bitOf_orReg (m i : Nat) (h : tok 0 s.regs = true) :
    bitOf ((s.orReg r ix m).reg r ix) i = (bitOf (s.reg r ix) i || (decide (i < 64) && m.testBit i)) := by
  rw [State.orReg, reg_setReg_same s r ix _ h, bitOf_or, bitOf_ofNat]

theorem bitOf_orReg_bit {i : Nat} (h : tok 0 s.regs = true) (hi : i < 64) : bitOf ((s.orReg r ix (2 ^ i)).reg r ix) i = true := by
  simp [bitOf_orReg _ i h, hi]

theorem bitOf_clrBits {i : Nat} (j : Nat) (h : tok 0 s.regs = true) (hi : i < 64) :
    bitOf ((s.clrBits r ix (2 ^ j)).reg r ix) i = (bitOf (s.reg r ix) i && !decide (j = i)) := by
  rw [State.clrBits, reg_setReg_same s r ix _ h, bitOf_and, bitOf_not _ hi, bitOf_ofNat, Nat.testBit_two_pow]
  simp [hi]

/-- A flag that was cleared reads 0. -/
theorem bit_setF_zero (f : Fld) (h : tok 0 s.regs = true) (hf : f.lo + f.width ≤ 64) : (s.setF r ix f 0).bit r ix f = false := by
  simp [State.bit, getF_setF_same s r ix f 0 h hf]

theorem RegsKept.bit_eq {as : List Nat} {t : State} (h : RegsKept as s t) (f : Fld) (hr : r.addr ix ∉ as) : t.bit r ix f = s.bit r ix f := by
  rw [State.bit, State.bit, h.getF_eq f hr]

end

/-! ### What a completion leaves -/

/-- The registers that a completion changes: those of the host interface and of a ring. -/
def cplRegs : List Nat :=
  CMD_IF_STATUS.addr [] :: (List.range 16).flatMap (fun r => [CMD_RING_STATUS.addr [r], CMD_RING_PTR.addr [r]])

theorem retireRegs_sub : ∀ r : Fin 16, [CMD_IF_STATUS.addr [], CMD_RING_STATUS.addr [(r : Nat)]] ⊆ cplRegs := by decide

theorem ringPtr_mem_cplRegs : ∀ r : Fin 16, CMD_RING_PTR.addr [(r : Nat)] ∈ cplRegs := by decide

section
variable {s : State}

/-- The bytes of a ring's completion reach their memory. -/
def State.cplOut (s : State) (c : Cmd) (a : Nat) (bs : List Byte) : State := if c.via = .C then s.writeMem a bs else s.postCpl a bs

theorem ringComplete_eq (c : Cmd) (cp : Cpl) :
    let cp' : Cpl := { cp with phase := s.getF CMD_RING_PTR [(c.ring : Nat)] CMD_RING_PTR.PHASE }
    let t := ((s.addDone cp').advanceCtail c.ring).cplOut c (s.getF CMD_CPL_BASE [(c.ring : Nat)] CMD_CPL_BASE.BASE * 4096 +
      32 * s.getF CMD_RING_PTR [(c.ring : Nat)] CMD_RING_PTR.CTAIL) cp'.bytes
    s.ringComplete c cp = if c.via = .H ∧ c.flags % 2 = 1 then t.countIrq c.ring else t := rfl

theorem cplOut_regs (c : Cmd) (a : Nat) (bs : List Byte) : (s.cplOut c a bs).regs = s.regs := by
  unfold State.cplOut
  split
  · rfl
  · exact (postCpl_frame a bs).1 .regs (by decide)

theorem ringComplete_kept (c : Cmd) (cp : Cpl) : RegsKept [CMD_RING_PTR.addr [(c.ring : Nat)]] s (s.ringComplete c cp) := by
  have irq : ∀ v : State, (v.countIrq c.ring).regs = v.regs := fun v => (State.countIrq_frame ..).1 .regs (by decide)
  have out : ∀ cp' a bs, RegsKept [CMD_RING_PTR.addr [(c.ring : Nat)]] s (((s.addDone cp').advanceCtail c.ring).cplOut c a bs) := fun cp' a bs =>
    ((RegsKept.of_regs_eq (s := s) rfl).trans (advanceCtail_kept (s := s.addDone cp'))).trans (.of_regs_eq (cplOut_regs c a bs))
  rw [ringComplete_eq]
  exact .ite (fun _ => (out _ _ _).trans (.of_regs_eq (irq _))) fun _ => out _ _ _

theorem complete_kept (c : Cmd) (st : Nat) (bs : List Byte) : RegsKept cplRegs s (s.complete c st bs) := by
  have last : ∀ u : State, RegsKept cplRegs s u → RegsKept cplRegs s (u.retire c) := fun u h => h.then (retire_kept u c) (retireRegs_sub c.ring)
  unfold State.complete
  extract_lets r hd cp gone
  refine last _ (.ite (fun _ => .of_regs_eq rfl) fun _ => ?_)
  split
  · exact (RegsKept.refl cplRegs s).then (ringComplete_kept c cp) (by simpa using ringPtr_mem_cplRegs c.ring)
  · exact (RegsKept.refl cplRegs s).then (ringComplete_kept c cp) (by simpa using ringPtr_mem_cplRegs c.ring)
  · exact .of_regs_eq rfl
  · exact .of_regs_eq rfl

theorem completeAll_kept (w : WaitFor) (st : Nat) (bs : List Byte) : RegsKept cplRegs s (s.completeAll w st bs) :=
  (RegsKept.of_regs_eq (s := s) rfl).trans (.foldl _ (fun _ c _ => complete_kept c st bs) _)

theorem fireMsix_waiting (v : Nat) : (s.fireMsix v).front.waiting = s.front.waiting := by
  unfold State.fireMsix
  split_ifs <;> rfl

theorem countIrq_waiting (r : Nat) : (s.countIrq r).front.waiting = s.front.waiting := by
  unfold State.countIrq
  extract_lets n
  split
  · rw [fireMsix_waiting]
  · rfl

theorem cplOut_waiting (c : Cmd) (a : Nat) (bs : List Byte) : (s.cplOut c a bs).front.waiting = s.front.waiting := by
  unfold State.cplOut State.postCpl
  split_ifs <;> rfl

theorem ringComplete_waiting (c : Cmd) (cp : Cpl) : (s.ringComplete c cp).front.waiting = s.front.waiting := by
  have out : ∀ cp' a bs, (((s.addDone cp').advanceCtail c.ring).cplOut c a bs).front.waiting = s.front.waiting := fun cp' a bs =>
    by
    have front : ((s.addDone cp').advanceCtail c.ring).front = (s.addDone cp').front := advanceCtail_frame.1 .front (by decide)
    rw [cplOut_waiting, front]
    rfl
  rw [ringComplete_eq]
  split
  · exact (countIrq_waiting _).trans (out _ _ _)
  · exact out _ _ _

theorem retire_waiting (c : Cmd) : (s.retire c).front.waiting = s.front.waiting := by
  by_cases h : s.front.inflight.any (fun x => x.1 == c) = true
  · rw [retire_front h]
  · rw [State.retire, if_neg h]

theorem ite_waiting {P : Prop} [Decidable P] {a b : State} (ha : a.front.waiting = s.front.waiting) (hb : b.front.waiting = s.front.waiting) :
    (if P then a else b).front.waiting = s.front.waiting := by
  split
  · exact ha
  · exact hb

@[simp] theorem complete_waiting (c : Cmd) (st : Nat) (bs : List Byte) : (s.complete c st bs).front.waiting = s.front.waiting := by
  unfold State.complete
  extract_lets r hd cp gone f t
  refine (retire_waiting (s := t) c).trans (ite_waiting rfl ?_)
  split
  · exact ringComplete_waiting c cp
  · exact ringComplete_waiting c cp
  · rfl
  · rfl

theorem waiters_congr {t : State} (h : t.front.waiting = s.front.waiting) (w : WaitFor) : t.waiters w = s.waiters w := by
  rw [State.waiters, h]; rfl

theorem foldl_complete_waiting (st : Nat) (bs : List Byte) : ∀ (cs : List Cmd) (s : State),
    (cs.foldl (fun s c => s.complete c st bs) s).front.waiting = s.front.waiting
  | [], _ => rfl
  | c :: cs, _ => (foldl_complete_waiting st bs cs _).trans (complete_waiting c st bs)

theorem completeAll_waiting (w : WaitFor) (st : Nat) (bs : List Byte) :
    (s.completeAll w st bs).front.waiting = s.front.waiting.filter (fun x => x.1 != w) := foldl_complete_waiting st bs _ _

/-- Completing all that wait for `w` leaves those that wait for something else. -/
theorem waiters_completeAll (w v : WaitFor) (st : Nat) (bs : List Byte) :
    (s.completeAll w st bs).waiters v = if v = w then [] else s.waiters v := by
  rw [State.waiters, completeAll_waiting, List.filter_filter]
  split
  · rename_i h
    simp [h]
  · rename_i h
    rw [State.waiters]
    congr 1
    refine List.filter_congr fun x _ => ?_
    by_cases hx : x.1 = v <;> simp [hx, h]

theorem waiters_wait (w : WaitFor) (c : Cmd) : (s.wait w c).waiters w = s.waiters w ++ [c] := by simp [State.wait, State.waiters]

theorem filter_waiting_of_none {w : WaitFor} (h : s.waiters w = []) : s.front.waiting.filter (fun x => x.1 != w) = s.front.waiting := by
  have none : ∀ x ∈ s.front.waiting, x.1 ≠ w := by simpa [State.waiters, List.filter_eq_nil_iff] using h
  exact List.filter_eq_self.mpr fun x hx => by simpa using none x hx

/-- Nothing completes when nothing waits. -/
theorem completeAll_none {w : WaitFor} (h : s.waiters w = []) (st : Nat) (bs : List Byte) : s.completeAll w st bs = s := by
  simp only [State.completeAll, h, List.foldl_nil, filter_waiting_of_none h]

/-! ### Answers to the commands of a unit -/

theorem answerUnit_kept (u us st : Nat) : RegsKept cplRegs s (s.answerUnit u us st) :=
  (completeAll_kept _ _ _).trans (completeAll_kept _ _ _)

theorem waiters_answerUnit (u us st : Nat) (v : WaitFor) :
    (s.answerUnit u us st).waiters v = if v = .unfold u ∨ v = .unitReset u then [] else s.waiters v := by
  rw [State.answerUnit, waiters_completeAll, waiters_completeAll]
  by_cases h : v = .unfold u <;> simp [h]

/-- A command that waits alone for its unit is the one that completes. -/
theorem answerUnit_one {u : Nat} {c : Cmd} (us st : Nat) (h : s.waiters (.unitReset u) = [c]) (hu : s.waiters (.unfold u) = []) :
    s.answerUnit u us st = ({ s with front := { s.front with waiting := s.front.waiting.filter (fun x => x.1 != .unitReset u) } } : State).complete c st
      (s.unitResult u us ((s.job u).getD 0)) := by
  refine (completeAll_none ?_ _ _).trans (completeAll_one h st _)
  rw [waiters_completeAll, hu, ite_self]

/-- The registers that the end of a unit's command changes. -/
def finishRegs : List Nat := RST_EVENT.addr [] :: cplRegs

/-- The events of a unit's end: RESET_DONE when a command took the unit away (R852). -/
def State.noteDone (s : State) (u : Nat) : State := if (s.job u).isSome then s.setLogged 10 RST_EVENT [] RST_EVENT.RESET_DONE else s

/-- No command is left to bring the unit back. -/
def State.endJob (s : State) (u : Nat) : State :=
  { s with pwr := { s.pwr with jobs := tput none s.pwr.jobs u none, unfolding := s.pwr.unfolding.filter (fun x => x != u) } }

theorem endJob_eq (u : Nat) : ({ s.setJob u none with
    pwr := { (s.setJob u none).pwr with unfolding := (s.setJob u none).pwr.unfolding.filter (fun x => x != u) } } : State) = s.endJob u := rfl

@[simp] theorem endJob_regs (u : Nat) : (s.endJob u).regs = s.regs := rfl

@[simp] theorem endJob_front (u : Nat) : (s.endJob u).front = s.front := rfl

theorem endJob_jobs (u : Nat) : (s.endJob u).pwr.jobs = tput none s.pwr.jobs u none := rfl

theorem finishUnit_eq (u us : Nat) : s.finishUnit u us = ((s.noteDone u).answerUnit u us stOk).endJob u := by
  rw [← endJob_eq]
  rfl

theorem noteDone_frame (u : Nat) : Frame [.regs, .arb] s (s.noteDone u) := .ite (fun _ => State.setLogged_frame ..) fun _ => .refl _ s

theorem noteDone_kept (u : Nat) : RegsKept [RST_EVENT.addr []] s (s.noteDone u) := .ite (fun _ => setLogged_kept _ _ _ _ _) fun _ => .refl _ s

theorem finishUnit_kept (u us : Nat) : RegsKept finishRegs s (s.finishUnit u us) := by
  rw [finishUnit_eq]
  refine RegsKept.trans (t := (s.noteDone u).answerUnit u us stOk) ?_ (.of_regs_eq (endJob_regs u))
  exact ((RegsKept.refl finishRegs s).then (noteDone_kept u) (by decide)).then (answerUnit_kept _ _ _) (by decide)

theorem waiters_finishUnit (u us : Nat) (v : WaitFor) :
    (s.finishUnit u us).waiters v = if v = .unfold u ∨ v = .unitReset u then [] else s.waiters v := by
  have front : (s.noteDone u).front = s.front := (noteDone_frame u).1 .front (by decide)
  rw [finishUnit_eq, waiters_congr (congrArg Front.waiting (endJob_front u)), waiters_answerUnit, waiters_congr (congrArg Front.waiting front)]

theorem job_congr {t : State} (h : t.pwr = s.pwr) (u : Nat) : t.job u = s.job u := by rw [State.job, h]; rfl

theorem finishUnit_jobs (u us : Nat) : (s.finishUnit u us).pwr.jobs = tput none s.pwr.jobs u none := by
  have pwr : ((s.noteDone u).answerUnit u us stOk).pwr = s.pwr :=
    ((State.answerUnit_frame ..).1 .pwr (by decide)).trans ((noteDone_frame u).1 .pwr (by decide))
  rw [finishUnit_eq, endJob_jobs, pwr]

/-- The end of a unit's command is noted once for it (R852). -/
theorem resetDone_finishUnit {u : Nat} (us : Nat) (h : tok 0 s.regs = true) (hj : s.job u ≠ none) :
    (s.finishUnit u us).bit RST_EVENT [] RST_EVENT.RESET_DONE = true := by
  have done : (s.noteDone u).bit RST_EVENT [] RST_EVENT.RESET_DONE = true := by
    rw [State.noteDone, if_pos (Option.isSome_iff_ne_none.mpr hj)]
    exact bit_setLogged_same h (by decide) (by decide)
  rw [finishUnit_eq, (RegsKept.of_regs_eq (as := []) (endJob_regs u)).bit_eq _ List.not_mem_nil,
    (answerUnit_kept u us stOk).bit_eq _ (by decide), done]

theorem wash_congr {as : List Nat} {t : State} (k : RegsKept as s t) {u : Nat} (h : AON_WASH.addr [u] ∉ as) : t.wash u = s.wash u := by
  rw [State.wash, State.wash, k.getF_eq _ h]

/-- The one command that waits for a unit completes at its end, with the wash count, the time and the streams ended (R852). -/
theorem finishUnit_answers {u : Nat} {c : Cmd} (us : Nat) (h : s.waiters (.unitReset u) = [c]) (hu : s.waiters (.unfold u) = []) :
    ∃ w : State, w.front.done = s.front.done ∧ (s.finishUnit u us).front = (w.complete c stOk (s.unitResult u us ((s.job u).getD 0))).front := by
  have frame := noteDone_frame (s := s) u
  have front : (s.noteDone u).front = s.front := frame.1 .front (by decide)
  have res : (s.noteDone u).unitResult u us (((s.noteDone u).job u).getD 0) = s.unitResult u us ((s.job u).getD 0) := by
    rw [job_congr (frame.1 .pwr (by decide)), State.unitResult, wash_congr (noteDone_kept u) (by simp [RST_EVENT, AON_WASH, Reg.addr, dimOff]; omega)]
    rfl
  refine ⟨{ s.noteDone u with front := { (s.noteDone u).front with waiting := (s.noteDone u).front.waiting.filter (fun x => x.1 != .unitReset u) } },
    by simp only [front], ?_⟩
  rw [finishUnit_eq, endJob_front, answerUnit_one us stOk ((waiters_congr (congrArg Front.waiting front) _).trans h)
    ((waiters_congr (congrArg Front.waiting front) _).trans hu), res]

end

end Sys2Proof.Machine
end

section
/-! Units come back (R203, R821, R824, R825, R852): wash counts, sections and the registers of a Press or a die that enters service. -/

namespace Sys2Proof.Machine

/-! ### Registers kept over a range -/

/-- Every register at an offset in `Q` reads as before. -/
def RegsOn (Q : Nat → Prop) (s t : State) : Prop := ∀ a, Q a → tget 0 t.regs a = tget 0 s.regs a

section
variable {Q : Nat → Prop} {s t u : State} {r : Reg} {ix : List Nat}

theorem RegsOn.refl (Q : Nat → Prop) (s : State) : RegsOn Q s s := fun _ _ => rfl

theorem RegsOn.trans (h : RegsOn Q s t) (k : RegsOn Q t u) : RegsOn Q s u := fun a ha => (k a ha).trans (h a ha)

theorem RegsKept.on {as : List Nat} (h : RegsKept as s t) (hq : ∀ a ∈ as, ¬Q a) : RegsOn Q s t := fun a ha => h a fun hm => hq a hm ha

theorem RegsOn.of_regs_eq (h : t.regs = s.regs) : RegsOn Q s t := fun _ _ => by rw [h]

theorem RegsOn.mono {R : Nat → Prop} (h : RegsOn Q s t) (hr : ∀ a, R a → Q a) : RegsOn R s t := fun a ha => h a (hr a ha)

theorem RegsOn.foldl {α : Type} {f : State → α → State} (l : List α) (hf : ∀ s, ∀ x ∈ l, RegsOn Q s (f s x)) (s : State) :
    RegsOn Q s (l.foldl f s) := by
  induction l generalizing s with
  | nil => exact .refl Q s
  | cons x l ih => exact (hf s x (by simp)).trans (ih (fun s y hy => hf s y (by simp [hy])) _)

theorem RegsOn.reg_eq (h : RegsOn Q s t) (hq : Q (r.addr ix)) : t.reg r ix = s.reg r ix := by rw [State.reg, State.reg, h _ hq]

theorem RegsOn.getF_eq (h : RegsOn Q s t) (f : Fld) (hq : Q (r.addr ix)) : t.getF r ix f = s.getF r ix f := by
  rw [State.getF, State.getF, h.reg_eq hq]

theorem RegsOn.bit_eq (h : RegsOn Q s t) (f : Fld) (hq : Q (r.addr ix)) : t.bit r ix f = s.bit r ix f := by
  rw [State.bit, State.bit, h.getF_eq f hq]

end

/-! ### Where the reset and power registers lie -/

theorem AON_WASH_addr (u : Nat) : AON_WASH.addr [u] = 0x303400 + 4 * u := by simp [Reg.addr, AON_WASH, dimOff]; omega

theorem RST_PRESS_addr (d : Nat) : RST_PRESS.addr [d] = 0x301020 + 4 * d := by simp [Reg.addr, RST_PRESS, dimOff]; omega

theorem RST_DIE_addr : RST_DIE.addr [] = 0x301010 := rfl

theorem MEM_STATUS_addr (d : Nat) : MEM_STATUS.addr [d] = 0x1600004 + 0x20000 * d := by simp [Reg.addr, MEM_STATUS, dimOff]; omega

theorem finishRegs_range : ∀ a ∈ finishRegs, a = 0x301048 ∨ 0x400000 ≤ a ∧ a < 0x402000 := by decide

/-- The registers of a Press lie in the windows of the Press dies. -/
theorem pix_range {r : Reg} (hd : r.dies = some (0, 7)) (hs : r.dims = [(32, 0x4000)]) (ho : r.off < 0x14000) {p : Nat} (hp : p < 256) :
    0x800000 ≤ r.addr (pix p) ∧ r.addr (pix p) < 0x1000000 := by
  have := dieWin_press hp
  rw [addr_pix hd hs]
  omega

theorem SCT_TSTART_range {p k : Nat} (hp : p < 256) (hk : k < 4) : 0x800000 ≤ SCT_TSTART.addr (six p k) ∧ SCT_TSTART.addr (six p k) < 0x1000000 := by
  have := dieWin_press hp
  have off : SCT_TSTART.off = 0x11008 := rfl
  rw [addr_six rfl rfl]
  omega

/-! ### Wash counts -/

section
variable {s : State}

theorem stepWash_keeps (u : Nat) : RegsKept [AON_WASH.addr [u]] s (s.stepWash u) := .ite (fun _ => setF_kept _ _ _ _ _) fun _ => .refl _ s

theorem wash_stepWash_same {u : Nat} (hu : u < 280) (h : tok 0 s.regs = true) : (s.stepWash u).wash u = washNext (s.wash u) := by
  have hlt : s.wash u < 65536 := by
    rw [State.wash, if_pos hu]
    exact getF_lt ..
  have step : s.stepWash u = s.setF AON_WASH [u] AON_WASH.WASH (washNext (s.wash u)) := if_pos hu
  rw [step, State.wash, if_pos hu, getF_setF_same s AON_WASH [u] _ _ h (by decide)]
  exact Nat.mod_eq_of_lt (washNext_lt hlt)

theorem RegsOn.wash_eq {Q : Nat → Prop} {t : State} (h : RegsOn Q s t) {u : Nat} (hq : Q (AON_WASH.addr [u])) : t.wash u = s.wash u := by
  rw [State.wash, State.wash, h.getF_eq _ hq]

theorem unitResult_congr {Q : Nat → Prop} {t : State} (h : RegsOn Q s t) {u : Nat} (hq : Q (AON_WASH.addr [u])) (us n : Nat) :
    t.unitResult u us n = s.unitResult u us n := by
  rw [State.unitResult, State.unitResult, h.wash_eq hq]

/-! ### The sections of a Press that enters service -/

/-- One section starts over (R223). -/
def State.clearSect (s : State) (p : Nat) (x : Section) (k : Nat) : State :=
  (s.setSect p k x).setF SCT_TSTART (six p k) SCT_TSTART.ROW 0

/-- What a section is after it is cleared: idle, or paused while its Press is to pause (R223). -/
def State.freshSect (s : State) (p : Nat) : Section := if s.bit PRS_CTRL (pix p) PRS_CTRL.PAUSE then { st := .paused, wasIdle := true } else {}

theorem clearSections_eq (p : Nat) : s.clearSections p = (List.range 4).foldl (fun t k => t.clearSect p (s.freshSect p) k) s := rfl

theorem clearSect_kept (p : Nat) (x : Section) (k : Nat) : RegsKept [SCT_TSTART.addr (six p k)] s (s.clearSect p x k) :=
  (RegsKept.of_regs_eq (s := s) rfl).trans (setF_kept (s.setSect p k x) _ _ _ _)

theorem clearSections_on {Q : Nat → Prop} {p : Nat} (hp : p < 256) (hq : ∀ a, Q a → a < 0x800000 ∨ 0x1000000 ≤ a) : RegsOn Q s (s.clearSections p) := by
  rw [clearSections_eq]
  refine .foldl _ (fun t k hk => (clearSect_kept p _ k).on fun a ha hQ => ?_) s
  have := SCT_TSTART_range hp (List.mem_range.mp hk)
  have := hq a hQ
  rw [List.mem_singleton] at ha
  omega

theorem sect_clearSect_same {p k : Nat} {x : Section} (h : tok {} s.sects = true) : (s.clearSect p x k).sect p k = x := sect_setSect_same h x

theorem sect_clearSect_ne {p k j : Nat} {x : Section} (h : j ≠ k) : (s.clearSect p x k).sect p j = s.sect p j :=
  sect_setSect_ne x (by omega)

theorem clearSect_sects_tok {p k : Nat} {x : Section} (h : tok {} s.sects = true) : tok {} (s.clearSect p x k).sects = true := setSect_sects_tok x h

theorem sect_foldl_clearSect {p k : Nat} {x : Section} : ∀ (l : List Nat) (s : State), tok {} s.sects = true → k ∈ l →
    (l.foldl (fun t j => t.clearSect p x j) s).sect p k = x := by
  have keeps : ∀ (l : List Nat) (s : State), tok {} s.sects = true → s.sect p k = x → (l.foldl (fun t j => t.clearSect p x j) s).sect p k = x := by
    intro l
    induction l with
    | nil => intro s _ h; exact h
    | cons j l ih =>
      intro s ht h
      refine ih _ (clearSect_sects_tok ht) ?_
      by_cases hj : k = j
      · rw [hj]; exact sect_clearSect_same ht
      · exact (sect_clearSect_ne hj).trans h
  intro l
  induction l with
  | nil => intro s _ h; simp at h
  | cons j l ih =>
    intro s ht h
    by_cases hj : k = j
    · refine keeps l _ (clearSect_sects_tok ht) ?_
      rw [hj]; exact sect_clearSect_same ht
    · exact ih _ (clearSect_sects_tok ht) (by simpa [hj] using h)

theorem sect_clearSections {p k : Nat} (h : tok {} s.sects = true) (hk : k < 4) : (s.clearSections p).sect p k = s.freshSect p := by
  rw [clearSections_eq]
  exact sect_foldl_clearSect _ s h (List.mem_range.mpr hk)

/-! ### Commands that wait for a unit -/

theorem job_endJob {u : Nat} (v : Nat) (h : tok none s.pwr.jobs = true) (hv : s.job v = none ∨ v = u) (us : Nat) : (s.finishUnit u us).job v = none := by
  rw [State.job, finishUnit_jobs]
  by_cases hvu : v = u
  · rw [hvu, tget_tput_same none u none h]
  · rw [tget_tput_ne none _ _ hvu]
    exact hv.resolve_right hvu

theorem finishUnit_jobs_tok {u us : Nat} (h : tok none s.pwr.jobs = true) : tok none (s.finishUnit u us).pwr.jobs = true := by
  rw [finishUnit_jobs]
  exact tok_tput none u none h

theorem finishUnit_on {Q : Nat → Prop} (u us : Nat) (hq : ∀ a, Q a → a ≠ 0x301048 ∧ (a < 0x400000 ∨ 0x402000 ≤ a)) : RegsOn Q s (s.finishUnit u us) :=
  (finishUnit_kept u us).on fun a ha hQ => by
    have := finishRegs_range a ha
    have := hq a hQ
    omega

/-- Nothing waits for the unit any more, and no command is left to bring it back. -/
def State.UnitDone (s : State) (u : Nat) : Prop :=
  tok none s.pwr.jobs = true ∧ s.job u = none ∧ s.waiters (.unitReset u) = [] ∧ s.waiters (.unfold u) = []

theorem finishUnit_done {u : Nat} (us : Nat) (h : tok none s.pwr.jobs = true) : (s.finishUnit u us).UnitDone u :=
  ⟨finishUnit_jobs_tok h, job_endJob u h (.inr rfl) us, by simp [waiters_finishUnit], by simp [waiters_finishUnit]⟩

theorem State.UnitDone.finishUnit {u : Nat} (h : s.UnitDone u) (p us : Nat) : (s.finishUnit p us).UnitDone u := by
  obtain ⟨htok, job, reset, unfold_⟩ := h
  refine ⟨finishUnit_jobs_tok htok, job_endJob u htok (.inl job) us, ?_, ?_⟩
  · rw [waiters_finishUnit, reset, ite_self]
  · rw [waiters_finishUnit, unfold_, ite_self]

theorem State.UnitDone.foldl {u us : Nat} : ∀ (l : List Nat) {s : State}, s.UnitDone u → (l.foldl (fun s p => s.finishUnit p us) s).UnitDone u
  | [], _, h => h
  | p :: l, _, h => State.UnitDone.foldl l (h.finishUnit p us)

end

/-! ### The release, the zeroing and the time-out -/

section
variable {s : State} {u : Fin 298}

theorem exec_resetRelease (hc : s.fw.inCold = false) (ha : (u : Nat) ∈ s.pwr.asserted) :
    let t : State := { s with pwr := { s.pwr with asserted := s.pwr.asserted.filter (fun x => x != (u : Nat)) } }
    exec (.resetRelease u) s = .next (if 268 ≤ (u : Nat) then t.stepWash u else t) := by
  show execResetRelease u s = _
  simp [execResetRelease, hc, ha]

theorem exec_resetRelease_idle (h : s.fw.inCold = true ∨ (u : Nat) ∉ s.pwr.asserted) : exec (.resetRelease u) s = .next s := by
  show execResetRelease u s = _
  rcases h with h | h <;> simp [execResetRelease, h]

theorem resetRelease_releases (hwf : s.wf) (hc : s.fw.inCold = false) (ha : (u : Nat) ∈ s.pwr.asserted) :
    Completes (exec (.resetRelease u) s) (fun t => (u : Nat) ∉ t.pwr.asserted ∧ (∀ v, v ≠ (u : Nat) → (v ∈ t.pwr.asserted ↔ v ∈ s.pwr.asserted)) ∧
      (268 ≤ (u : Nat) → (u : Nat) < 280 → t.wash u = washNext (s.wash u)) ∧ ((u : Nat) < 268 → t.wash u = s.wash u) ∧
      RegsKept [AON_WASH.addr [(u : Nat)]] s t ∧ Frame [.regs, .pwr] s t) := by
  refine ⟨_, exec_resetRelease hc ha, ?_⟩
  have frame : ∀ p : Power, Frame [.regs, .pwr] s { s with pwr := p } := fun p => Frame.set_pwr p (by decide) (.refl _ s)
  split
  · rename_i hu
    have pwr : ∀ t : State, (t.stepWash u).pwr = t.pwr := fun t => (State.stepWash_frame ..).1 .pwr (by decide)
    refine ⟨by simp [pwr], fun v hv => by simp [pwr, hv], fun _ h2 => wash_stepWash_same h2 hwf.2, fun h => absurd h (by omega), ?_, ?_⟩
    · exact (RegsKept.of_regs_eq rfl).trans (stepWash_keeps u)
    · exact .via (State.stepWash_frame ..) (by decide) (frame _)
  · rename_i hu
    exact ⟨by simp, fun v hv => by simp [hv], fun h => absurd h hu, fun _ => rfl, .of_regs_eq rfl, frame _⟩

theorem exec_unitServiceTimeout (us : BitVec 32) (hc : s.fw.inCold = false) (ha : (u : Nat) ∉ s.pwr.asserted)
    (ho : s.unitInReset u = true ∨ (u : Nat) ∈ s.pwr.unfolding ∨ s.job u ≠ none) :
    exec (.unitServiceTimeout u us) s = .next ((s.setLogged 10 RST_EVENT [] RST_EVENT.TIMEOUT).answerUnit u us.toNat stTimeout) := by
  show execUnitServiceTimeout u us s = _
  have out : (s.unitInReset u || s.pwr.unfolding.contains (u : Nat) || (s.job u).isSome) = true := by
    simpa [or_assoc, Option.isSome_iff_ne_none] using ho
  exact congrArg Host.Outcome.next (if_neg (by rw [hc, out]; simpa using ha))

theorem unitServiceTimeout_answers (us : BitVec 32) (c : Cmd) (hwf : s.wf) (hc : s.fw.inCold = false) (ha : (u : Nat) ∉ s.pwr.asserted)
    (ho : s.unitInReset u = true ∨ (u : Nat) ∈ s.pwr.unfolding ∨ s.job u ≠ none) (hw : s.waiters (.unitReset u) = [c]) (hu : s.waiters (.unfold u) = []) :
    ∃ w : State, w.bit RST_EVENT [] RST_EVENT.TIMEOUT = true ∧ w.waiters (.unitReset u) = [] ∧ w.pwr = s.pwr ∧ Frame [.regs, .arb, .front] s w ∧
      exec (.unitServiceTimeout u us) s = .next (w.complete c stTimeout (leBytes 2 (s.wash u) ++ leBytes 4 us.toNat ++ leBytes 2 ((s.job u).getD 0))) := by
  have frame : Frame [.regs, .arb] s (s.setLogged 10 RST_EVENT [] RST_EVENT.TIMEOUT) := State.setLogged_frame ..
  have timeout : (s.setLogged 10 RST_EVENT [] RST_EVENT.TIMEOUT).bit RST_EVENT [] RST_EVENT.TIMEOUT = true :=
    bit_setLogged_same hwf.2 (by decide) (by decide)
  have kept : RegsOn (fun a => a ≠ 0x301048) s (s.setLogged 10 RST_EVENT [] RST_EVENT.TIMEOUT) :=
    (setLogged_kept _ _ _ _ _).on fun a ha h => h (List.mem_singleton.mp ha)
  rw [exec_unitServiceTimeout us hc ha ho]
  generalize s.setLogged 10 RST_EVENT [] RST_EVENT.TIMEOUT = v at frame timeout kept
  have front : v.front = s.front := frame.1 .front (by decide)
  have pwr : v.pwr = s.pwr := frame.1 .pwr (by decide)
  have waits : ∀ x, v.waiters x = s.waiters x := waiters_congr (congrArg Front.waiting front)
  refine ⟨{ v with front := { v.front with waiting := v.front.waiting.filter (fun x => x.1 != .unitReset u) } }, timeout, by simp [State.waiters], pwr,
    Frame.set_front _ (by decide) (frame.mono (by decide)), ?_⟩
  rw [answerUnit_one us.toNat stTimeout ((waits _).trans hw) ((waits _).trans hu), unitResult_congr kept (by rw [AON_WASH_addr]; omega), job_congr pwr]
  rfl

end

section
variable {s : State} {p : Fin 256}

theorem exec_zeroingDone (h : s.fw.inCold = false ∧ s.hasDie ((p : Nat) / 32) = true ∧ s.pressFolded p = false ∧ (p : Nat) ∉ s.pwr.asserted ∧
    dieUnit ((p : Nat) / 32) ∉ s.pwr.asserted ∧ s.bit CLK_DIE [(p : Nat) / 32] CLK_DIE.LOCKED = true) :
    exec (.zeroingDone p) s = .next (s.setF PRS_STATUS (pix p) PRS_STATUS.ZEROING 0) := by
  obtain ⟨cold, die, folded, own, whole, locked⟩ := h
  show execZeroingDone p s = _
  simp [execZeroingDone, cold, die, folded, own, whole, locked]

theorem exec_zeroingDone_idle (h : ¬(s.fw.inCold = false ∧ s.hasDie ((p : Nat) / 32) = true ∧ s.pressFolded p = false ∧ (p : Nat) ∉ s.pwr.asserted ∧
    dieUnit ((p : Nat) / 32) ∉ s.pwr.asserted ∧ s.bit CLK_DIE [(p : Nat) / 32] CLK_DIE.LOCKED = true)) : exec (.zeroingDone p) s = .next s := by
  show execZeroingDone p s = _
  refine congrArg Host.Outcome.next (if_pos ?_)
  by_contra hn
  exact h (by simpa [and_assoc] using hn)

end

end Sys2Proof.Machine
end

section
/-! A Press and a Press die enter service (R203, R824, R825, R838, R852). -/

namespace Sys2Proof.Machine

/-! ### A Press -/

section
variable {s : State} {u : Fin 298}

/-- A Press leaves reset: its own bit, its wash count and its sections (R203, R821). -/
def State.pressServes (s : State) (p : Nat) : State := ((s.clrBits RST_PRESS [p / 32] (2 ^ (p % 32))).stepWash p).clearSections p

theorem exec_unitInService_press (us : BitVec 32) (hu : (u : Nat) < 256) (hc : s.fw.inCold = false) (ha : (u : Nat) ∉ s.pwr.asserted)
    (hda : dieUnit ((u : Nat) / 32) ∉ s.pwr.asserted) (hd : s.hasDie ((u : Nat) / 32) = true) (hr : s.dieInReset ((u : Nat) / 32) = false)
    (hn : dieUnit ((u : Nat) / 32) ∉ s.pwr.unfolding) (hf : s.pressFolded u = false) (hp : s.pressInReset u = true)
    (hz : s.bit PRS_STATUS (pix u) PRS_STATUS.ZEROING = false) :
    exec (.unitInService u us) s = .next ((s.pressServes u).finishUnit u us.toNat) := by
  have die : unitDie u = (u : Nat) / 32 := if_pos hu
  have single : isDieUnit u = false := by simp [isDieUnit]; omega
  have other : (u : Nat) ≠ 267 := by omega
  show execUnitInService u us s = _
  simp [execUnitInService, die, single, other, hu, hc, ha, hda, hd, hr, hn, hf, hp, hz, State.pressServes]

theorem pressServes_frame (p : Nat) : Frame [.regs, .sects] s (s.pressServes p) :=
  .via (State.clearSections_frame ..) (by decide) <| .via (State.stepWash_frame ..) (by decide) <| .via (State.clrBits_frame ..) (by decide) (.refl _ s)

theorem freshSect_congr {Q : Nat → Prop} {t : State} (h : RegsOn Q s t) {p : Nat} (hq : Q (PRS_CTRL.addr (pix p))) : t.freshSect p = s.freshSect p := by
  rw [State.freshSect, State.freshSect, h.bit_eq _ hq]

/-- What `pressServes` leaves of a Press (R203, R223, R821). -/
theorem pressServes_spec {p : Nat} (hp : p < 256) (h : tok 0 s.regs = true) (hs : tok {} s.sects = true) :
    bitOf ((s.pressServes p).reg RST_PRESS [p / 32]) (p % 32) = false ∧ (s.pressServes p).wash p = washNext (s.wash p) ∧
    ∀ k, k < 4 → (s.pressServes p).sect p k = s.freshSect p := by
  unfold State.pressServes
  have hctrl := pix_range (r := PRS_CTRL) rfl rfl (by decide) hp
  have clr : RegsOn (fun a => a ≠ 0x301020 + 4 * (p / 32)) s (s.clrBits RST_PRESS [p / 32] (2 ^ (p % 32))) :=
    (clrBits_kept _).on fun a ha hn => hn (by rw [List.mem_singleton.mp ha, RST_PRESS_addr])
  have bit : bitOf ((s.clrBits RST_PRESS [p / 32] (2 ^ (p % 32))).reg RST_PRESS [p / 32]) (p % 32) = false := by
    simp [bitOf_clrBits _ h (by omega : p % 32 < 64)]
  have frame : Frame [.regs] s (s.clrBits RST_PRESS [p / 32] (2 ^ (p % 32))) := State.clrBits_frame ..
  generalize s.clrBits RST_PRESS [p / 32] (2 ^ (p % 32)) = a at clr bit frame
  have washed : RegsOn (fun x => x ≠ 0x303400 + 4 * p) a (a.stepWash p) :=
    (stepWash_keeps p).on fun x hx hn => hn (by rw [List.mem_singleton.mp hx, AON_WASH_addr])
  have wash : (a.stepWash p).wash p = washNext (s.wash p) := by
    rw [wash_stepWash_same (by omega) (frame.tok h), clr.wash_eq (by rw [AON_WASH_addr]; omega)]
  have sects : tok {} (a.stepWash p).sects = true := by
    rw [show (a.stepWash p).sects = a.sects from (State.stepWash_frame ..).1 .sects (by decide), frame.1 .sects (by decide)]
    exact hs
  generalize a.stepWash p = b at washed wash sects
  have cleared : RegsOn (fun x => x < 0x800000) b (b.clearSections p) := clearSections_on hp fun x hx => .inl hx
  refine ⟨?_, ?_, fun k hk => ?_⟩
  · rw [cleared.reg_eq (by rw [RST_PRESS_addr]; omega), washed.reg_eq (by rw [RST_PRESS_addr]; omega), bit]
  · rw [cleared.wash_eq (by rw [AON_WASH_addr]; omega), wash]
  · rw [sect_clearSections sects hk, freshSect_congr washed (by omega), freshSect_congr clr (by omega)]

/-- A zeroed Press that is in reset enters service (R203, R821, R852). -/
theorem unitInService_press (us : BitVec 32) (hu : (u : Nat) < 256) (hw : s.UnitWf) (hc : s.fw.inCold = false) (ha : (u : Nat) ∉ s.pwr.asserted)
    (hda : dieUnit ((u : Nat) / 32) ∉ s.pwr.asserted) (hd : s.hasDie ((u : Nat) / 32) = true) (hr : s.dieInReset ((u : Nat) / 32) = false)
    (hn : dieUnit ((u : Nat) / 32) ∉ s.pwr.unfolding) (hf : s.pressFolded u = false) (hp : s.pressInReset u = true)
    (hz : s.bit PRS_STATUS (pix u) PRS_STATUS.ZEROING = false) :
    Completes (exec (.unitInService u us) s) (fun t =>
      bitOf (t.reg RST_PRESS [(u : Nat) / 32]) ((u : Nat) % 32) = false ∧ t.wash u = washNext (s.wash u) ∧
      (s.bit PRS_CTRL (pix u) PRS_CTRL.PAUSE = false → ∀ k, k < 4 → t.sect u k = {}) ∧
      (s.bit PRS_CTRL (pix u) PRS_CTRL.PAUSE = true → ∀ k, k < 4 → (t.sect u k).st = .paused) ∧
      (s.job u ≠ none → t.bit RST_EVENT [] RST_EVENT.RESET_DONE = true) ∧ t.job u = none ∧ t.waiters (.unitReset u) = [] ∧ t.waiters (.unfold u) = [] ∧
      (∀ c, s.waiters (.unitReset u) = [c] → s.waiters (.unfold u) = [] → ∃ w : State, w.front.done = s.front.done ∧
        t.front = (w.complete c stOk (leBytes 2 (t.wash u) ++ leBytes 4 us.toNat ++ leBytes 2 ((s.job u).getD 0))).front) ∧
      Frame [.regs, .mem, .sects, .front, .arb, .pwr] s t) := by
  obtain ⟨⟨-, hregs⟩, hsects, -, -, -, -, hjobs, -⟩ := hw
  have frame := pressServes_frame (s := s) u
  obtain ⟨bit, wash, sects⟩ := pressServes_spec hu hregs hsects
  rw [exec_unitInService_press us hu hc ha hda hd hr hn hf hp hz]
  refine ⟨_, rfl, ?_⟩
  generalize s.pressServes u = v at frame bit wash sects
  have pwr : v.pwr = s.pwr := frame.1 .pwr (by decide)
  have front : v.front = s.front := frame.1 .front (by decide)
  have job : v.job u = s.job u := job_congr pwr u
  have waits : ∀ x, v.waiters x = s.waiters x := waiters_congr (congrArg Front.waiting front)
  have kept : RegsOn (fun a => a ≠ 0x301048 ∧ a < 0x400000) v (v.finishUnit u us.toNat) := finishUnit_on _ _ fun a h => ⟨h.1, .inl h.2⟩
  have washT : (v.finishUnit u us.toNat).wash u = v.wash u := kept.wash_eq (by rw [AON_WASH_addr]; omega)
  have sectT : ∀ k, k < 4 → (v.finishUnit u us.toNat).sect u k = s.freshSect u := fun k hk =>
    (sect_congr ((State.finishUnit_frame ..).1 .sects (by decide)) u k).trans (sects k hk)
  obtain ⟨-, jobT, resetT, unfoldT⟩ := finishUnit_done (s := v) (u := u) us.toNat (by rw [pwr]; exact hjobs)
  refine ⟨by rw [kept.reg_eq (by rw [RST_PRESS_addr]; omega), bit], washT.trans wash, fun hpause k hk => ?_, fun hpause k hk => ?_, fun hj => ?_, jobT, resetT,
    unfoldT, fun c h1 h2 => ?_, .via (State.finishUnit_frame ..) (by decide) (frame.mono (by decide))⟩
  · rw [sectT k hk, State.freshSect, hpause]; rfl
  · rw [sectT k hk, State.freshSect, hpause]; rfl
  · exact resetDone_finishUnit us.toNat (frame.tok hregs) (by rwa [job])
  · obtain ⟨w, done, ans⟩ := finishUnit_answers us.toNat ((waits _).trans h1) ((waits _).trans h2)
    refine ⟨w, done.trans (congrArg Front.done front), ?_⟩
    rw [ans, washT, job]
    have : v.unitResult u us.toNat ((s.job u).getD 0) = leBytes 2 (v.wash u) ++ leBytes 4 us.toNat ++ leBytes 2 ((s.job u).getD 0) := rfl
    rw [this]

end

/-! ### A Press die -/

section
variable {s : State} {d : Nat}

/-- The wash counts of a die and its units step, but after a cold reset (R820, R821). -/
def State.stepWashes (s : State) (d : Nat) : State :=
  if s.pwr.fresh.contains d then { s with pwr := { s.pwr with fresh := s.pwr.fresh.filter (fun x => x != d) } }
  else (dieUnits d).foldl State.stepWash s

/-- The Presses of a die that enter service with it (R824). -/
def State.servable (s : State) (u : Nat) : List Nat := (unitPresses u).filter (fun p => !s.pwr.asserted.contains p && !s.pressFolded p)

/-- A Press leaves reset with its die. -/
def State.pressJoins (s : State) (d p : Nat) : State := (s.clrBits RST_PRESS [d] (2 ^ (p % 32))).clearSections p

/-- The controller of a Press die serves its stack (R838). -/
def State.trainStack (s : State) (d : Nat) : State :=
  ((s.setF MEM_STATUS [d] MEM_STATUS.TRAINED 1).setF MEM_STATUS [d] MEM_STATUS.SELF_REFRESH 0).setF MEM_STATUS [d]
    MEM_STATUS.CHIPKILL_ACTIVE (s.getF MEM_CFG [d] MEM_CFG.CHIPKILL)

/-- The registers of a Press die's return up to the answers: RST_DIE, the wash counts, RST_PRESS and the controller. -/
def State.dieJoins (s : State) (d : Nat) : State :=
  let a := (s.clrBits RST_DIE [] (2 ^ d)).stepWashes d
  ((a.servable (256 + d)).foldl (fun s p => s.pressJoins d p) a).trainStack d

theorem dieServes_press (hd : d < 8) (us : Nat) : ∃ l : List Nat, s.dieServes d us =
    l.foldl (fun s p => s.finishUnit p us) ((s.dieJoins d).finishUnit (256 + d) us) := by
  have unit : dieUnit d = 256 + d := if_pos hd
  have e0 : d ≠ 11 := by omega
  refine ⟨(((s.clrBits RST_DIE [] (2 ^ d)).stepWashes d).servable (256 + d)).filter (fun p => ((s.dieJoins d).job p).isSome), ?_⟩
  unfold State.dieServes
  simp only [unit, hd, e0, if_true, if_false]
  rfl

theorem dieUnits_press (hd : d < 8) : dieUnits d = (256 + d) :: (List.range 32).map (fun k => 32 * d + k) := by
  simp [dieUnits, dieUnit, hd]

theorem stepWashes_on (hd : d < 8) : RegsOn (fun a => a < 0x303400 ∨ 0x303860 ≤ a) s (s.stepWashes d) := by
  unfold State.stepWashes
  split
  · exact .of_regs_eq rfl
  · refine .foldl _ (fun t u hu => (stepWash_keeps u).on fun a ha hQ => ?_) s
    have : u < 280 := by
      simp only [dieUnits_press hd, List.mem_cons, List.mem_map, List.mem_range] at hu
      omega
    rw [List.mem_singleton.mp ha, AON_WASH_addr] at hQ
    omega

theorem stepWashes_frame : Frame [.regs, .pwr] s (s.stepWashes d) :=
  .ite (fun _ => Frame.set_pwr _ (by decide) (.refl _ s)) fun _ =>
    .foldl (fun _ _ h => .via (State.stepWash_frame ..) (by decide) h) _ _ (.refl _ s)

theorem stepWashes_pwr : (s.stepWashes d).pwr.jobs = s.pwr.jobs ∧ (s.stepWashes d).pwr.asserted = s.pwr.asserted := by
  unfold State.stepWashes
  split
  · exact ⟨rfl, rfl⟩
  · have pwr : ((dieUnits d).foldl State.stepWash s).pwr = s.pwr :=
      (Frame.foldl (l := [.regs]) (fun _ _ h => .via (State.stepWash_frame ..) (by decide) h) _ _ (.refl _ s)).1 .pwr (by decide)
    rw [pwr]
    exact ⟨rfl, rfl⟩

/-- The wash count of the die itself steps once (R821). -/
theorem wash_stepWashes (hd : d < 8) (h : tok 0 s.regs = true) (hf : d ∉ s.pwr.fresh) : (s.stepWashes d).wash (256 + d) = washNext (s.wash (256 + d)) := by
  have rest : RegsOn (fun a => a = 0x303400 + 4 * (256 + d)) (s.stepWash (256 + d))
      (((List.range 32).map (fun k => 32 * d + k)).foldl State.stepWash (s.stepWash (256 + d))) := by
    refine .foldl _ (fun t u hu => (stepWash_keeps u).on fun a ha hQ => ?_) _
    have : u < 256 := by
      simp only [List.mem_map, List.mem_range] at hu
      omega
    rw [List.mem_singleton.mp ha, AON_WASH_addr] at hQ
    omega
  rw [State.stepWashes, if_neg (by simpa using hf), dieUnits_press hd, List.foldl_cons, rest.wash_eq (AON_WASH_addr _),
    wash_stepWash_same (by omega) h]

theorem pressJoins_on {p : Nat} (hp : p < 256) : RegsOn (fun a => a ≠ 0x301020 + 4 * d ∧ (a < 0x800000 ∨ 0x1000000 ≤ a)) s (s.pressJoins d p) := by
  refine RegsOn.trans (t := s.clrBits RST_PRESS [d] (2 ^ (p % 32))) ((clrBits_kept _).on fun a ha hQ => hQ.1 ?_) ?_
  · rw [List.mem_singleton.mp ha, RST_PRESS_addr]
  · exact clearSections_on hp fun a ha => ha.2

theorem pressJoins_tok (p : Nat) (h : tok 0 s.regs = true) : tok 0 (s.pressJoins d p).regs = true :=
  (State.clearSections_frame ..).tok ((State.clrBits_frame ..).tok h)

theorem bitOf_pressJoins {p : Nat} (k : Nat) (hd : d < 8) (hp : p < 256) (hk : k < 64) (h : tok 0 s.regs = true) :
    bitOf ((s.pressJoins d p).reg RST_PRESS [d]) k = (bitOf (s.reg RST_PRESS [d]) k && !decide (p % 32 = k)) := by
  have cleared : RegsOn (fun a => a < 0x800000) (s.clrBits RST_PRESS [d] (2 ^ (p % 32))) (s.pressJoins d p) := clearSections_on hp fun _ h => .inl h
  rw [cleared.reg_eq (by rw [RST_PRESS_addr]; omega), bitOf_clrBits _ h hk]

/-- Every Press that joins has left reset (R824). -/
theorem bitOf_foldl_pressJoins {k : Nat} (hd : d < 8) (hk : k < 64) : ∀ (l : List Nat) (s : State), tok 0 s.regs = true → (∀ p ∈ l, p < 256) →
    bitOf ((l.foldl (fun s p => s.pressJoins d p) s).reg RST_PRESS [d]) k = (bitOf (s.reg RST_PRESS [d]) k && l.all (fun p => !decide (p % 32 = k)))
  | [], _, _, _ => by simp
  | p :: l, s, h, hl => by
    rw [List.foldl_cons, bitOf_foldl_pressJoins hd hk l _ (pressJoins_tok p h) fun q hq => hl q (by simp [hq]),
      bitOf_pressJoins k hd (hl p (by simp)) hk h, List.all_cons, Bool.and_assoc]

theorem trainStack_kept : RegsKept [MEM_STATUS.addr [d]] s (s.trainStack d) :=
  (((RegsKept.refl _ s).setF (by simp)).setF (by simp)).setF (by simp)

theorem trainStack_spec (h : tok 0 s.regs = true) : (s.trainStack d).bit MEM_STATUS [d] MEM_STATUS.TRAINED = true ∧
    (s.trainStack d).bit MEM_STATUS [d] MEM_STATUS.SELF_REFRESH = false := by
  unfold State.trainStack
  generalize s.getF MEM_CFG [d] MEM_CFG.CHIPKILL = x
  have h1 : tok 0 (s.setF MEM_STATUS [d] MEM_STATUS.TRAINED 1).regs = true := setF_tok _ _ _ _ _ h
  have h2 := setF_tok _ MEM_STATUS [d] MEM_STATUS.SELF_REFRESH 0 h1
  constructor
  · rw [State.bit, getF_setF_field _ _ _ _ _ _ h2 (by decide) (by decide), getF_setF_field _ _ _ _ _ _ h1 (by decide) (by decide),
      getF_setF_same _ _ _ _ _ h (by decide)]
    rfl
  · rw [State.bit, getF_setF_field _ _ _ _ _ _ h2 (by decide) (by decide), getF_setF_same _ _ _ _ _ h1 (by decide)]
    rfl

theorem mem_unitPresses_die {p : Nat} (hd : d < 8) : p ∈ unitPresses (256 + d) ↔ ∃ k, k < 32 ∧ p = 32 * d + k := by
  have h1 : ¬ 256 + d < 256 := by omega
  have h2 : 256 + d < 264 := by omega
  simp only [unitPresses, h1, h2, if_true, if_false, List.mem_map, List.mem_range, Nat.add_sub_cancel_left]
  exact ⟨fun ⟨k, hk, e⟩ => ⟨k, hk, e.symm⟩, fun ⟨k, hk, e⟩ => ⟨k, hk, e.symm⟩⟩

theorem PWR_PFOLD_addr (d : Nat) : PWR_PFOLD.addr [d] = 0x302010 + 4 * d := by
  simp only [Reg.addr, PWR_PFOLD, dimOff]
  omega

theorem pressFolded_congr {Q : Nat → Prop} {t : State} (h : RegsOn Q s t) (hq : ∀ a, a = 0x302000 ∨ (0x302010 ≤ a ∧ a < 0x302030) → Q a) {p : Nat} (hp : p < 256) :
    t.pressFolded p = s.pressFolded p := by
  have pfold := PWR_PFOLD_addr (p / 32)
  rw [State.pressFolded, State.pressFolded, State.dieFolded, State.dieFolded, h.reg_eq (hq _ (.inl rfl)), h.reg_eq (hq _ (.inr (by rw [pfold]; omega)))]

theorem dieJoins_spec (hd : d < 8) (h : tok 0 s.regs = true) :
    bitOf ((s.dieJoins d).reg RST_DIE []) d = false ∧ (s.dieJoins d).bit MEM_STATUS [d] MEM_STATUS.TRAINED = true ∧
    (s.dieJoins d).bit MEM_STATUS [d] MEM_STATUS.SELF_REFRESH = false ∧
    (d ∉ s.pwr.fresh → (s.dieJoins d).wash (256 + d) = washNext (s.wash (256 + d))) ∧
    (∀ k, k < 32 → 32 * d + k ∉ s.pwr.asserted → s.pressFolded (32 * d + k) = false → bitOf ((s.dieJoins d).reg RST_PRESS [d]) k = false) ∧
    (s.dieJoins d).pwr.jobs = s.pwr.jobs := by
  simp only [State.dieJoins]
  have clr : RegsOn (fun a => a ≠ 0x301010) s (s.clrBits RST_DIE [] (2 ^ d)) := (clrBits_kept _).on fun a ha hn => hn (List.mem_singleton.mp ha)
  have bit : bitOf ((s.clrBits RST_DIE [] (2 ^ d)).reg RST_DIE []) d = false := by simp [bitOf_clrBits _ h (by omega : d < 64)]
  have frame0 : Frame [.regs] s (s.clrBits RST_DIE [] (2 ^ d)) := State.clrBits_frame ..
  have pwr0 : (s.clrBits RST_DIE [] (2 ^ d)).pwr = s.pwr := frame0.1 .pwr (by decide)
  generalize s.clrBits RST_DIE [] (2 ^ d) = a at clr bit frame0 pwr0
  have steps := stepWashes_on (s := a) hd
  have wash : d ∉ s.pwr.fresh → (a.stepWashes d).wash (256 + d) = washNext (s.wash (256 + d)) := fun hf => by
    rw [wash_stepWashes hd (frame0.tok h) (by rwa [pwr0]), clr.wash_eq (by rw [AON_WASH_addr]; omega)]
  obtain ⟨jobs1, asserted1⟩ := stepWashes_pwr (s := a) (d := d)
  have tok1 : tok 0 (a.stepWashes d).regs = true := stepWashes_frame.tok (frame0.tok h)
  generalize a.stepWashes d = b at steps wash jobs1 asserted1 tok1
  have served : ∀ p ∈ b.servable (256 + d), p < 256 := fun p hp => by
    obtain ⟨k, hk, rfl⟩ := (mem_unitPresses_die hd).mp (List.mem_of_mem_filter hp)
    omega
  have joins : RegsOn (fun x => x ≠ 0x301020 + 4 * d ∧ (x < 0x800000 ∨ 0x1000000 ≤ x)) b ((b.servable (256 + d)).foldl (fun s p => s.pressJoins d p) b) :=
    .foldl _ (fun t p hp => pressJoins_on (served p hp)) b
  have frame2 : Frame [.regs, .sects] b ((b.servable (256 + d)).foldl (fun s p => s.pressJoins d p) b) :=
    .foldl (fun _ _ h => .via (State.clearSections_frame ..) (by decide) <| .via (State.clrBits_frame ..) (by decide) h) _ _ (.refl _ b)
  have out : ∀ k, k < 32 → 32 * d + k ∉ s.pwr.asserted → s.pressFolded (32 * d + k) = false →
      bitOf (((b.servable (256 + d)).foldl (fun s p => s.pressJoins d p) b).reg RST_PRESS [d]) k = false := fun k hk ha hf => by
    have mem : 32 * d + k ∈ b.servable (256 + d) := by
      have folded : b.pressFolded (32 * d + k) = false := by
        rw [pressFolded_congr steps (fun x hx => by omega) (by omega), pressFolded_congr clr (fun x hx => by omega) (by omega), hf]
      refine List.mem_filter.mpr ⟨(mem_unitPresses_die hd).mpr ⟨k, hk, rfl⟩, ?_⟩
      simp [asserted1, pwr0, ha, folded]
    have all : ((b.servable (256 + d)).all fun p => !decide (p % 32 = k)) = false := by
      rw [List.all_eq_false]
      exact ⟨_, mem, by simp; omega⟩
    rw [bitOf_foldl_pressJoins hd (by omega) _ b tok1 served, all, Bool.and_false]
  generalize (b.servable (256 + d)).foldl (fun s p => s.pressJoins d p) b = c at joins frame2 out
  have train : RegsOn (fun x => x < 0x1000000) c (c.trainStack d) := trainStack_kept.on fun x hx hQ => by
    rw [List.mem_singleton.mp hx, MEM_STATUS_addr] at hQ
    omega
  obtain ⟨trained, refresh⟩ := trainStack_spec (d := d) (frame2.tok tok1)
  have jobs : (c.trainStack d).pwr.jobs = s.pwr.jobs := by
    have pwr3 : (c.trainStack d).pwr = c.pwr := rfl
    rw [pwr3, show c.pwr = b.pwr from frame2.1 .pwr (by decide), jobs1, pwr0]
  refine ⟨?_, trained, refresh, fun hf => ?_, fun k hk ha hf => ?_, jobs⟩
  · rw [train.reg_eq (by rw [RST_DIE_addr]; omega), joins.reg_eq (by rw [RST_DIE_addr]; omega), steps.reg_eq (by rw [RST_DIE_addr]; omega), bit]
  · rw [train.wash_eq (by rw [AON_WASH_addr]; omega), joins.wash_eq (by rw [AON_WASH_addr]; omega), wash hf]
  · rw [train.reg_eq (by rw [RST_PRESS_addr]; omega), out k hk ha hf]

theorem exec_unitInService_die {u : Fin 298} (us : BitVec 32) (h1 : 256 ≤ (u : Nat)) (h2 : (u : Nat) < 264) (hc : s.fw.inCold = false)
    (ha : (u : Nat) ∉ s.pwr.asserted) (hd : s.hasDie ((u : Nat) - 256) = true) (hr : bitOf (s.reg RST_DIE []) ((u : Nat) - 256) = true)
    (hf : s.dieFolded ((u : Nat) - 256) = false) (hl : s.bit CLK_DIE [(u : Nat) - 256] CLK_DIE.LOCKED = true) (hs : s.dieSeamsUp ((u : Nat) - 256) = true)
    (hz : ∀ k, k < 32 → s.bit PRS_STATUS [(u : Nat) - 256, k] PRS_STATUS.ZEROING = false) :
    exec (.unitInService u us) s = .next (s.dieServes ((u : Nat) - 256) us.toNat) := by
  have die : unitDie u = (u : Nat) - 256 := by simp [unitDie, h2, Nat.not_lt.mpr h1]
  have unit : dieUnit ((u : Nat) - 256) = u := by
    rw [dieUnit, if_pos (by omega), Nat.add_sub_cancel' h1]
  have whole : isDieUnit u = true := by simp [isDieUnit]; omega
  have other : (u : Nat) ≠ 267 := by omega
  have ready : ∀ p ∈ unitPresses u, s.bit PRS_STATUS (pix p) PRS_STATUS.ZEROING = false := fun p hp => by
    obtain ⟨k, hk, rfl⟩ := (mem_unitPresses_die (d := (u : Nat) - 256) (by omega)).mp (by rwa [Nat.add_sub_cancel' h1])
    have px : pix (32 * ((u : Nat) - 256) + k) = [(u : Nat) - 256, k] := by
      simp only [pix, List.cons.injEq, and_true]
      omega
    rw [px, hz k hk]
  show execUnitInService u us s = _
  simp only [execUnitInService, die, unit, whole, other, hc, hd, hr, hf, hl, hs]
  simp only [List.contains_eq_mem, ha, decide_false, Bool.or_false, Bool.false_eq_true, Bool.not_true, if_false, if_true, Bool.true_or, Bool.not_false,
    Bool.true_and]
  rw [if_pos]
  exact List.all_eq_true.mpr fun p hp => by rw [ready p hp, Bool.not_false, Bool.or_true]

/-- A Press die that meets R825 enters service with its Presses, and its controller serves its stack (R821, R825, R838). -/
theorem unitInService_die {u : Fin 298} (us : BitVec 32) (h1 : 256 ≤ (u : Nat)) (h2 : (u : Nat) < 264) (hw : s.UnitWf) (hc : s.fw.inCold = false)
    (ha : (u : Nat) ∉ s.pwr.asserted) (hd : s.hasDie ((u : Nat) - 256) = true) (hr : bitOf (s.reg RST_DIE []) ((u : Nat) - 256) = true)
    (hf : s.dieFolded ((u : Nat) - 256) = false) (hl : s.bit CLK_DIE [(u : Nat) - 256] CLK_DIE.LOCKED = true) (hs : s.dieSeamsUp ((u : Nat) - 256) = true)
    (hz : ∀ k, k < 32 → s.bit PRS_STATUS [(u : Nat) - 256, k] PRS_STATUS.ZEROING = false) :
    Completes (exec (.unitInService u us) s) (fun t => bitOf (t.reg RST_DIE []) ((u : Nat) - 256) = false ∧
      t.bit MEM_STATUS [(u : Nat) - 256] MEM_STATUS.TRAINED = true ∧ t.bit MEM_STATUS [(u : Nat) - 256] MEM_STATUS.SELF_REFRESH = false ∧
      ((u : Nat) - 256 ∉ s.pwr.fresh → t.wash u = washNext (s.wash u)) ∧ (∀ k, k < 32 → 32 * ((u : Nat) - 256) + k ∉ s.pwr.asserted →
        s.pressFolded (32 * ((u : Nat) - 256) + k) = false → bitOf (t.reg RST_PRESS [(u : Nat) - 256]) k = false) ∧
      t.job u = none ∧ t.waiters (.unitReset u) = [] ∧ t.waiters (.unfold u) = []) := by
  obtain ⟨⟨-, hregs⟩, -, -, -, -, -, hjobs, -⟩ := hw
  rw [exec_unitInService_die us h1 h2 hc ha hd hr hf hl hs hz]
  have hd8 : (u : Nat) - 256 < 8 := by omega
  have unit : 256 + ((u : Nat) - 256) = u := Nat.add_sub_cancel' h1
  obtain ⟨die, trained, refresh, wash, presses, jobs⟩ := dieJoins_spec hd8 hregs
  obtain ⟨l, serves⟩ := dieServes_press (s := s) hd8 us.toNat
  rw [serves]
  rw [unit] at wash ⊢
  generalize (u : Nat) - 256 = d at *
  generalize s.dieJoins d = v at *
  have kept : RegsOn (fun a => a ≠ 0x301048 ∧ (a < 0x400000 ∨ 0x402000 ≤ a)) v (l.foldl (fun s p => s.finishUnit p us.toNat) (v.finishUnit u us.toNat)) :=
    (finishUnit_on _ _ fun _ h => h).trans (.foldl _ (fun t p _ => finishUnit_on p _ fun _ h => h) _)
  obtain ⟨-, jobT, resetT, unfoldT⟩ := State.UnitDone.foldl (us := us.toNat) l (finishUnit_done (s := v) (u := u) us.toNat (by rwa [jobs]))
  refine ⟨_, rfl, ?_, ?_, ?_, fun hfresh => ?_, fun k hk h3 h4 => ?_, jobT, resetT, unfoldT⟩
  · rw [kept.reg_eq (by rw [RST_DIE_addr]; omega), die]
  · rw [kept.bit_eq _ (by rw [MEM_STATUS_addr]; omega), trained]
  · rw [kept.bit_eq _ (by rw [MEM_STATUS_addr]; omega), refresh]
  · rw [kept.wash_eq (by rw [AON_WASH_addr]; omega), wash hfresh]
  · rw [kept.reg_eq (by rw [RST_PRESS_addr]; omega), presses k hk h3 h4]

end

end Sys2Proof.Machine
end

section
/-! A Press rail reaches its target (R842, R852): the P-states that waited for it take effect. -/

namespace Sys2Proof.Machine

/-- What a table holds at a key is its default or stands in the table. -/
theorem tget_default_or_mem {α : Type} (d : α) (i : Nat) : ∀ t : Table α, tget d t i = d ∨ (i, tget d t i) ∈ t
  | [] => .inl rfl
  | (k, v) :: t => by
    by_cases h : k = i
    · simp [tget, h]
    · rw [tget, if_neg h]
      exact (tget_default_or_mem d i t).imp id (List.mem_cons_of_mem _)

/-! ### P-states -/

section
variable {s : State} {p q : Nat}

theorem PWR_PSTATE_addr (d : Nat) : PWR_PSTATE.addr [d] = 0x302050 + 8 * d := by simp [Reg.addr, PWR_PSTATE, dimOff]; omega

theorem PWR_RAIL_addr (d : Nat) : PWR_RAIL.addr [d] = 0x302090 + 4 * d := by simp [Reg.addr, PWR_RAIL, dimOff]; omega

theorem pstate_setPstate_same (v : Nat) (h : tok 0 s.regs = true) : (s.setPstate p v).pstate p = v % 4 :=
  getF_setF_same s _ _ _ _ h (by simp only; omega)

theorem pstate_setPstate_ne (v : Nat) (h : tok 0 s.regs = true) (hq : q ≠ p) : (s.setPstate p v).pstate q = s.pstate q := by
  unfold State.setPstate State.pstate
  by_cases hd : q / 32 = p / 32
  · rw [hd]
    exact getF_setF_field s _ _ _ _ _ h (by simp only; omega) (by simp only; omega)
  · exact getF_setF_ne s _ _ _ _ _ _ _ (by rw [PWR_PSTATE_addr, PWR_PSTATE_addr]; omega)

theorem setPstate_kept (v : Nat) : RegsKept [PWR_PSTATE.addr [p / 32]] s (s.setPstate p v) := setF_kept s _ _ _ _

theorem RegsOn.pstate_eq {Q : Nat → Prop} {t : State} (h : RegsOn Q s t) (hq : Q (PWR_PSTATE.addr [p / 32])) : t.pstate p = s.pstate p :=
  h.getF_eq _ hq

/-! ### The Presses whose P-states waited -/

/-- Press p takes the P-state that it waited for, when it waited for one (R842). -/
def State.rise (s : State) (p : Nat) : State :=
  if tget 0 s.pwr.rising p = 0 then s
  else ({ s with pwr := { s.pwr with rising := tput 0 s.pwr.rising p 0 } }).setPstate p (tget 0 s.pwr.rising p - 1)

/-- The Presses of `P` have taken the P-states that they waited for; the others are as before. -/
def Risen (P : Nat → Prop) (s t : State) : Prop :=
  tok 0 t.regs = true ∧ tok 0 t.pwr.rising = true ∧
  (∀ p, P p → tget 0 t.pwr.rising p = 0 ∧ t.pstate p = if tget 0 s.pwr.rising p = 0 then s.pstate p else tget 0 s.pwr.rising p - 1) ∧
  ∀ p, ¬P p → tget 0 t.pwr.rising p = tget 0 s.pwr.rising p ∧ t.pstate p = s.pstate p

theorem rise_risen (h : tok 0 s.regs = true) (hr : tok 0 s.pwr.rising = true) (hv : tget 0 s.pwr.rising p ≤ 4) : Risen (· = p) s (s.rise p) := by
  unfold State.rise
  by_cases h0 : tget 0 s.pwr.rising p = 0
  · rw [if_pos h0]
    exact ⟨h, hr, fun q hq => by rw [hq]; exact ⟨h0, by rw [if_pos h0]⟩, fun q _ => ⟨rfl, rfl⟩⟩
  · rw [if_neg h0]
    refine ⟨setF_tok _ _ _ _ _ h, tok_tput 0 p 0 hr, fun q hq => ?_, fun q hq => ⟨tget_tput_ne 0 _ _ hq, pstate_setPstate_ne _ h hq⟩⟩
    subst hq
    refine ⟨tget_tput_same 0 q 0 hr, (pstate_setPstate_same _ h).trans ?_⟩
    rw [if_neg h0, Nat.mod_eq_of_lt (by omega)]

theorem Risen.rise {P : Nat → Prop} {t : State} (h : Risen P s t) (hp : ¬P p) (hv : tget 0 s.pwr.rising p ≤ 4) :
    Risen (fun q => P q ∨ q = p) s (t.rise p) := by
  obtain ⟨regs, rising, inside, outside⟩ := h
  obtain ⟨same, samePstate⟩ := outside p hp
  obtain ⟨regs', rising', own, others⟩ := rise_risen (p := p) regs rising (by rwa [same])
  refine ⟨regs', rising', fun q hq => ?_, fun q hq => ?_⟩
  · by_cases hqp : q = p
    · subst hqp
      obtain ⟨zero, now⟩ := own q rfl
      exact ⟨zero, by rw [now, same, samePstate]⟩
    · obtain ⟨keptR, keptP⟩ := others q hqp
      obtain ⟨zero, now⟩ := inside q (hq.resolve_right hqp)
      exact ⟨keptR.trans zero, keptP.trans now⟩
  · push Not at hq
    obtain ⟨keptR, keptP⟩ := others q hq.2
    obtain ⟨beforeR, beforeP⟩ := outside q hq.1
    exact ⟨keptR.trans beforeR, keptP.trans beforeP⟩

theorem Risen.congr {P R : Nat → Prop} {t : State} (h : Risen P s t) (hp : ∀ q, P q ↔ R q) : Risen R s t := by
  rwa [show R = P from (funext fun q => propext (hp q)).symm]

theorem risen_range (d : Nat) (h : tok 0 s.regs = true) (hr : tok 0 s.pwr.rising = true) (hv : ∀ p, tget 0 s.pwr.rising p ≤ 4) : ∀ n, n ≤ 32 →
    Risen (fun p => p / 32 = d ∧ p % 32 < n) s ((List.range n).foldl (fun t k => t.rise (32 * d + k)) s) := by
  intro n
  induction n with
  | zero => exact fun _ => ⟨h, hr, fun p hp => absurd hp.2 (by omega), fun p _ => ⟨rfl, rfl⟩⟩
  | succ n ih =>
    intro hn
    rw [List.range_succ, List.foldl_append]
    exact ((ih (by omega)).rise (by omega) (hv _)).congr fun q => by omega

theorem rise_kept (p : Nat) : RegsKept [PWR_PSTATE.addr [p / 32]] s (s.rise p) :=
  .ite (fun _ => .refl _ s) fun _ => RegsKept.trans (t := { s with pwr := { s.pwr with rising := tput 0 s.pwr.rising p 0 } }) (.of_regs_eq rfl)
    (setPstate_kept _)

/-! ### The commands that waited -/

/-- The commands that wait for the P-state of unit u complete (R852). -/
def State.pstateReached (s : State) (us u : Nat) : State := s.completeAll (.pstate u) stOk (s.unitResult u us 0)

/-- The units whose Presses wait for no rail any more. -/
def State.pstatesDone (s : State) : List Nat := s.front.waiting.filterMap (fun x => match x.1 with
  | .pstate u => if (unitPresses u).any (fun p => tget 0 s.pwr.rising p != 0) then none else some u
  | _ => none)

theorem waiters_pstateReached (us u : Nat) (w : WaitFor) : (s.pstateReached us u).waiters w = if w = .pstate u then [] else s.waiters w :=
  waiters_completeAll ..

theorem waiters_pstatesReached_nil {w : WaitFor} (us : Nat) : ∀ (l : List Nat) (s : State), s.waiters w = [] →
    (l.foldl (fun s u => s.pstateReached us u) s).waiters w = []
  | [], _, h => h
  | u :: l, s, h => waiters_pstatesReached_nil us l (s.pstateReached us u) (by rw [waiters_pstateReached, h, ite_self])

theorem waiters_pstatesReached (us : Nat) (l : List Nat) : ∀ s : State, p ∈ l → (l.foldl (fun s u => s.pstateReached us u) s).waiters (.pstate p) = [] := by
  induction l with
  | nil => intro s h; simp at h
  | cons u l ih =>
    intro s h
    rw [List.foldl_cons]
    by_cases hu : p = u
    · exact waiters_pstatesReached_nil us l _ (by rw [waiters_pstateReached, hu, if_pos rfl])
    · exact ih _ ((List.mem_cons.mp h).resolve_left hu)

/-- Who waits for the P-state of one Press that waits for no rail is answered. -/
theorem mem_pstatesDone (hp : p < 256) (hr : tget 0 s.pwr.rising p = 0) (hw : s.waiters (.pstate p) ≠ []) : p ∈ s.pstatesDone := by
  obtain ⟨x, hx, hp'⟩ : ∃ x ∈ s.front.waiting, x.1 = .pstate p := by
    by_contra hn
    push Not at hn
    exact hw (by simpa [State.waiters, List.filter_eq_nil_iff] using hn)
  refine List.mem_filterMap.mpr ⟨x, hx, ?_⟩
  simp [hp', unitPresses, hp, hr]

theorem waiters_pstates_done (us : Nat) (hp : p < 256) (hr : tget 0 s.pwr.rising p = 0) :
    (s.pstatesDone.foldl (fun s u => s.pstateReached us u) s).waiters (.pstate p) = [] := by
  by_cases hw : s.waiters (.pstate p) = []
  · exact waiters_pstatesReached_nil us _ s hw
  · exact waiters_pstatesReached us _ s (mem_pstatesDone hp hr hw)

theorem pstatesReached_frame (us : Nat) (l : List Nat) : Frame [.regs, .mem, .front] s (l.foldl (fun s u => s.pstateReached us u) s) :=
  .foldl (fun _ _ h => .via (State.completeAll_frame ..) (by decide) h) _ _ (.refl _ s)

theorem cplRegs_range : ∀ a ∈ cplRegs, 0x400000 ≤ a ∧ a < 0x402000 := by decide

theorem completeAll_on {Q : Nat → Prop} (w : WaitFor) (st : Nat) (bs : List Byte) (hq : ∀ a, Q a → a < 0x400000 ∨ 0x402000 ≤ a) :
    RegsOn Q s (s.completeAll w st bs) :=
  (completeAll_kept w st bs).on fun a ha hQ => by
    have := cplRegs_range a ha
    have := hq a hQ
    omega

theorem pstatesReached_on (us : Nat) (l : List Nat) : RegsOn (fun a => a < 0x400000) s (l.foldl (fun s u => s.pstateReached us u) s) :=
  .foldl _ (fun _ _ _ => completeAll_on _ _ _ fun _ h => .inl h) s

end

/-! ### The step -/

section
variable {s : State} {d : Fin 8}

/-- The rail shows its target. -/
def State.railNow (s : State) (d : Nat) : State := s.setF PWR_RAIL [d] PWR_RAIL.NOW_MV (s.getF PWR_RAIL [d] PWR_RAIL.TARGET_MV)

/-- The Presses of a die take the P-states that waited for its rail (R842). -/
def State.riseDie (s : State) (d : Nat) : State := (List.range 32).foldl (fun t k => t.rise (32 * d + k)) s

/-- The commands whose Presses wait for no rail any more complete. -/
def State.pstatesReach (s : State) (us : Nat) : State := s.pstatesDone.foldl (fun t u => t.pstateReached us u) s

theorem exec_railTargetReached (us : BitVec 32) : exec (.railTargetReached d us) s = .next (((s.railNow d).riseDie d).pstatesReach us.toNat) := by
  show execRailTargetReached d us s = _
  unfold execRailTargetReached State.riseDie
  generalize List.range 32 = l
  rfl

theorem railTargetReached_rises (us : BitVec 32) (hw : s.UnitWf) (hv : ∀ x ∈ s.pwr.rising, x.2 ≤ 4) :
    Completes (exec (.railTargetReached d us) s) (fun t => t.getF PWR_RAIL [(d : Nat)] PWR_RAIL.NOW_MV = s.getF PWR_RAIL [(d : Nat)] PWR_RAIL.TARGET_MV ∧
      (∀ k, k < 32 → tget 0 t.pwr.rising (32 * (d : Nat) + k) = 0 ∧
        (tget 0 s.pwr.rising (32 * (d : Nat) + k) ≠ 0 → t.pstate (32 * (d : Nat) + k) = tget 0 s.pwr.rising (32 * (d : Nat) + k) - 1) ∧
        (tget 0 s.pwr.rising (32 * (d : Nat) + k) = 0 → t.pstate (32 * (d : Nat) + k) = s.pstate (32 * (d : Nat) + k)) ∧
        t.waiters (.pstate (32 * (d : Nat) + k)) = []) ∧
      ∀ p, p < 256 → p / 32 ≠ (d : Nat) → t.pstate p = s.pstate p ∧ tget 0 t.pwr.rising p = tget 0 s.pwr.rising p) := by
  obtain ⟨⟨-, hregs⟩, -, -, -, -, hrising, -⟩ := hw
  rw [exec_railTargetReached]
  have hd : (d : Nat) < 8 := d.2
  generalize (d : Nat) = n at hd ⊢
  have bound : ∀ p, tget 0 s.pwr.rising p ≤ 4 := fun p => (tget_default_or_mem 0 p s.pwr.rising).elim (fun h => by rw [h]; omega) fun h => hv _ h
  have now : (s.railNow n).getF PWR_RAIL [n] PWR_RAIL.NOW_MV = s.getF PWR_RAIL [n] PWR_RAIL.TARGET_MV := by
    rw [State.railNow, getF_setF_same s _ _ _ _ hregs (by decide)]
    exact Nat.mod_eq_of_lt (getF_lt ..)
  have keptR : RegsOn (fun a => a < 0x302090) s (s.railNow n) := (setF_kept s _ _ _ _).on fun a ha hQ => by
    rw [List.mem_singleton.mp ha, PWR_RAIL_addr] at hQ
    omega
  have tokR : tok 0 (s.railNow n).regs = true := setF_tok _ _ _ _ _ hregs
  have pwrR : (s.railNow n).pwr = s.pwr := rfl
  have pstateR : ∀ p, p < 256 → (s.railNow n).pstate p = s.pstate p := fun p hp => keptR.pstate_eq (by rw [PWR_PSTATE_addr]; omega)
  generalize s.railNow n = v at now tokR pwrR pstateR
  have risen : Risen (fun p => p / 32 = n ∧ p % 32 < 32) v (v.riseDie n) := risen_range n tokR (by rwa [pwrR]) (fun p => by rw [pwrR]; exact bound p) 32 le_rfl
  have keptN : RegsOn (fun a => 0x302090 ≤ a) v (v.riseDie n) := .foldl _ (fun t k hk => (rise_kept _).on fun a ha hQ => by
    have := List.mem_range.mp hk
    rw [List.mem_singleton.mp ha, PWR_PSTATE_addr] at hQ
    omega) v
  generalize v.riseDie n = w at risen keptN
  obtain ⟨-, -, inside, outside⟩ := risen
  have kept : RegsOn (fun a => a < 0x400000) w (w.pstatesReach us.toNat) := pstatesReached_on _ _
  have pwr : (w.pstatesReach us.toNat).pwr = w.pwr := (pstatesReached_frame _ _).1 .pwr (by decide)
  have pstate : ∀ p, p < 256 → (w.pstatesReach us.toNat).pstate p = w.pstate p := fun p hp => kept.pstate_eq (by rw [PWR_PSTATE_addr]; omega)
  refine ⟨_, rfl, ?_, fun k hk => ?_, fun p hp hpn => ?_⟩
  · rw [kept.getF_eq _ (by rw [PWR_RAIL_addr]; omega), keptN.getF_eq _ (by rw [PWR_RAIL_addr]; omega), now]
  · obtain ⟨zero, now'⟩ := inside (32 * n + k) ⟨by omega, by omega⟩
    rw [pwrR, pstateR _ (by omega)] at now'
    rw [pwr, pstate _ (by omega), now']
    exact ⟨zero, fun h => if_neg h, fun h => if_pos h, waiters_pstates_done _ (by omega) zero⟩
  · obtain ⟨rising, same⟩ := outside p (fun h => hpn h.1)
    rw [pwr, pstate p hp, rising, same, pstateR p hp, pwrR]
    exact ⟨rfl, rfl⟩

end

end Sys2Proof.Machine
end

section
/-! Temperature (R843, R856, R992): what a report and a write of THROT do to the throttling of the Press dies. -/

namespace Sys2Proof.Machine

/-! ### The throttling of one die -/

section
variable {s t u : State} {d n : Nat}

theorem throttled_eq (n : Nat) : s.throttled n = (decide (n < 8) && bitOf (s.reg PWR_THERM []) (16 + n)) := by
  rw [State.throttled, State.getF, fget_testBit]
  rfl

theorem throttled_congr (h : t.getF PWR_THERM [] PWR_THERM.THROTTLED = s.getF PWR_THERM [] PWR_THERM.THROTTLED) (n : Nat) :
    t.throttled n = s.throttled n := by rw [State.throttled, State.throttled, h]

/-- The flag of one die, alone, is written. -/
theorem throttled_setF (x : Nat) (h : tok 0 s.regs = true) (hd : d < 8) (n : Nat) :
    (s.setF PWR_THERM [] ⟨16 + d, 1⟩ x).throttled n = if n = d then x.testBit 0 else s.throttled n := by
  rw [throttled_eq, throttled_eq]
  by_cases hn : n < 8
  · rw [reg_setF_same s _ _ _ _ h, bitOf, fset_testBit _ _ _ _ (by omega)]
    by_cases hnd : n = d
    · simp [hnd, hd]
    · rw [if_neg (by simp only; omega), if_neg hnd]
      rfl
  · simp [hn, show n ≠ d by omega]

/-- The sensors of die d read in `t` as in `u`, and THROT is the same. -/
def SameSensors (u t : State) (d : Nat) : Prop :=
  t.getF PWR_THERM [] PWR_THERM.THROT = u.getF PWR_THERM [] PWR_THERM.THROT ∧
  t.getF PWR_TEMP [d] PWR_TEMP.NOW = u.getF PWR_TEMP [d] PWR_TEMP.NOW ∧ t.pwr.stackTemp = u.pwr.stackTemp

theorem State.ThrottledFrom.congr (h : u.ThrottledFrom s d) (hs : SameSensors u t d) (ht : t.throttled d = u.throttled d) : t.ThrottledFrom s d := by
  obtain ⟨throt, now, stack⟩ := hs
  simpa only [State.ThrottledFrom, throt, now, stack, ht] using h

theorem PWR_TEMP_addr (d : Nat) : PWR_TEMP.addr [d] = 0x3020c0 + 4 * d := by simp [Reg.addr, PWR_TEMP, dimOff]; omega

theorem throttle_kept (d : Nat) : RegsKept [PWR_THERM.addr []] s (s.throttle d) :=
  .ite (fun _ => setLogged_kept _ _ _ _ _) fun _ => .ite (fun _ => setF_kept _ _ _ _ _) fun _ => .refl _ s

/-- What one die's throttling is after its sensors are looked at (R843, R992). -/
def State.throttleOn (s : State) (d : Nat) : Bool :=
  let th := s.getF PWR_THERM [] PWR_THERM.THROT
  let now := s.getF PWR_TEMP [d] PWR_TEMP.NOW
  let stack := tget 0 s.pwr.stackTemp d
  if decide (th ≤ now) || decide (95 ≤ stack) then true
  else if decide (now + 5 < th) && decide (stack < 90) then false
  else s.throttled d

theorem throttle_spec (h : tok 0 s.regs = true) (hd : d < 8) : (s.throttle d).throttled d = s.throttleOn d ∧
    (∀ n, n ≠ d → (s.throttle d).throttled n = s.throttled n) ∧
    (s.throttle d).getF PWR_THERM [] PWR_THERM.THROT = s.getF PWR_THERM [] PWR_THERM.THROT := by
  have own : ∀ (die x n : Nat), ((s.setF PWR_THERM [] ⟨16 + d, 1⟩ x).logBits die PWR_THERM [] (2 ^ (16 + d))).throttled n =
      (s.setF PWR_THERM [] ⟨16 + d, 1⟩ x).throttled n := fun die x n =>
    throttled_congr (((State.logBits_frame ..).regs_kept (by decide) []).getF_eq _ List.not_mem_nil) n
  have throt : ∀ x, (s.setF PWR_THERM [] ⟨16 + d, 1⟩ x).getF PWR_THERM [] PWR_THERM.THROT = s.getF PWR_THERM [] PWR_THERM.THROT := fun x =>
    getF_setF_field s _ _ _ _ _ h (by decide) (.inl (show 0 + 8 ≤ 16 + d by omega))
  have noted : (s.setLogged 10 PWR_THERM [] ⟨16 + d, 1⟩).getF PWR_THERM [] PWR_THERM.THROT = s.getF PWR_THERM [] PWR_THERM.THROT :=
    (getF_setLogged ..).trans (throt 1)
  unfold State.throttle State.throttleOn
  extract_lets th now stack on f
  have on_eq : on = s.throttled d := rfl
  rw [on_eq]
  by_cases hot : (decide (th ≤ now) || decide (95 ≤ stack)) = true
  · rw [if_pos hot, hot]
    cases ht : s.throttled d
    · exact ⟨(own ..).trans ((throttled_setF 1 h hd d).trans (if_pos rfl)), fun n hn => (own ..).trans ((throttled_setF 1 h hd n).trans (if_neg hn)), noted⟩
    · have cool : (decide (now + 5 < th) && decide (stack < 90)) = false := by
        simp only [Bool.or_eq_true, decide_eq_true_eq] at hot
        simp only [Bool.and_eq_false_iff, decide_eq_false_iff_not]
        omega
      simp only [Bool.not_true, Bool.false_and, Bool.true_and, cool, Bool.false_eq_true, if_false]
      exact ⟨ht, fun _ _ => trivial, trivial⟩
  · rw [if_neg hot, Bool.not_eq_true _ |>.mp hot, Bool.and_false, if_neg (by decide)]
    by_cases cool : (decide (now + 5 < th) && decide (stack < 90)) = true
    · rw [if_pos cool]
      cases ht : s.throttled d
      · simp only [Bool.false_and, Bool.false_eq_true, if_false]
        exact ⟨ht, fun _ _ => trivial, trivial⟩
      · simp only [Bool.true_and, cool, if_true]
        exact ⟨(throttled_setF 0 h hd d).trans (if_pos rfl), fun n hn => (throttled_setF 0 h hd n).trans (if_neg hn), throt 0⟩
    · rw [if_neg cool, Bool.and_assoc, Bool.not_eq_true _ |>.mp cool, Bool.and_false, if_neg (by decide)]
      exact ⟨rfl, fun _ _ => rfl, rfl⟩

theorem throttle_sameSensors (e : Nat) (h : tok 0 s.regs = true) (hd : d < 8) : SameSensors s (s.throttle d) e :=
  ⟨(throttle_spec h hd).2.2, (throttle_kept d).getF_eq _ (by simp [PWR_TEMP_addr, show PWR_THERM.addr [] = 0x3020b0 from rfl]; omega),
    congrArg Power.stackTemp ((State.throttle_frame s d).1 .pwr (by decide))⟩

theorem throttle_throttledFrom (h : tok 0 s.regs = true) (hd : d < 8) : (s.throttle d).ThrottledFrom s d := by
  obtain ⟨own, -, -⟩ := throttle_spec h hd
  obtain ⟨throt, now, stack⟩ := throttle_sameSensors d h hd
  simp only [State.ThrottledFrom, throt, now, stack, own, State.throttleOn]
  refine ⟨fun hot => if_pos (by simpa using hot), fun h1 h2 => ?_, fun h1 h2 h3 => ?_⟩
  · rw [if_neg (by simp; omega), if_pos (by simp; omega)]
  · rw [if_neg (by simp; omega), if_neg (by simp; omega)]

theorem State.ThrottledFrom.of_throttled_eq (h : t.ThrottledFrom u d) (hu : u.throttled d = s.throttled d) : t.ThrottledFrom s d := by
  simpa only [State.ThrottledFrom, hu] using h

end

/-! ### A report -/

section
variable {s : State} {d : Fin 12} {v : BitVec 8} {hbm : Bool}

theorem exec_thermalThrottle_idle (h : s.fw.inCold = true ∨ s.hasDie d = false ∨ (hbm = true ∧ 8 ≤ (d : Nat)) ∨ (hbm = false ∧ 115 ≤ v.toNat)) :
    exec (.thermalThrottle d v hbm) s = .next s := by
  show execThermalThrottle d v hbm s = _
  rcases h with h | h | ⟨h1, h2⟩ | ⟨h1, h2⟩
  · simp [execThermalThrottle, h]
  · simp [execThermalThrottle, h]
  · simp [execThermalThrottle, h1, h2]
  · simp [execThermalThrottle, h1, h2]

theorem exec_thermalThrottle (h : ¬(s.fw.inCold = true ∨ s.hasDie d = false ∨ (hbm = true ∧ 8 ≤ (d : Nat)) ∨ (hbm = false ∧ 115 ≤ v.toNat))) :
    exec (.thermalThrottle d v hbm) s = .next (if hbm then s.senseStack d v.toNat else s.senseTemp d v.toNat) := by
  simp only [not_or, not_and, Bool.not_eq_true, Bool.not_eq_false, Nat.not_le] at h
  obtain ⟨cold, die, stack, temp⟩ := h
  show execThermalThrottle d v hbm s = _
  cases hbm
  · simp [execThermalThrottle, cold, die, Nat.not_le.mpr (temp rfl)]
  · simp [execThermalThrottle, cold, die, Nat.not_le.mpr (stack rfl)]

/-- The reading and its peak (PWR_TEMP). -/
def State.noteTemp (s : State) (d t : Nat) : State := (s.setF PWR_TEMP [d] PWR_TEMP.NOW t).peakF PWR_TEMP [d] PWR_TEMP.PEAK t

theorem noteTemp_kept (d t : Nat) : RegsKept [PWR_TEMP.addr [d]] s (s.noteTemp d t) :=
  .ite (fun _ => (setF_kept s _ _ _ _).setF (by simp)) fun _ => setF_kept s _ _ _ _

theorem noteTemp_frame (d t : Nat) : Frame [.regs] s (s.noteTemp d t) := (State.setF_frame ..).trans (State.peakF_frame ..)

theorem noteTemp_spec {d t : Nat} (h : tok 0 s.regs = true) (ht : t < 256) : (s.noteTemp d t).getF PWR_TEMP [d] PWR_TEMP.NOW = t ∧
    (s.noteTemp d t).getF PWR_TEMP [d] PWR_TEMP.PEAK = max (s.getF PWR_TEMP [d] PWR_TEMP.PEAK) t := by
  unfold State.noteTemp State.peakF
  have now : (s.setF PWR_TEMP [d] PWR_TEMP.NOW t).getF PWR_TEMP [d] PWR_TEMP.NOW = t :=
    (getF_setF_same s _ _ _ _ h (by decide)).trans (Nat.mod_eq_of_lt ht)
  have peak : (s.setF PWR_TEMP [d] PWR_TEMP.NOW t).getF PWR_TEMP [d] PWR_TEMP.PEAK = s.getF PWR_TEMP [d] PWR_TEMP.PEAK :=
    getF_setF_field s _ _ _ _ _ h (by decide) (by decide)
  have htok : tok 0 (s.setF PWR_TEMP [d] PWR_TEMP.NOW t).regs = true := setF_tok _ _ _ _ _ h
  generalize s.setF PWR_TEMP [d] PWR_TEMP.NOW t = a at now peak htok
  rw [peak]
  split
  · rename_i hlt
    rw [getF_setF_field a _ _ _ _ _ htok (by decide) (by decide), getF_setF_same a _ _ _ _ htok (by decide), now]
    exact ⟨rfl, (Nat.mod_eq_of_lt ht).trans (by omega)⟩
  · exact ⟨now, peak.trans (by omega)⟩

theorem senseTemp_eq (d t : Nat) : s.senseTemp d t = if 8 ≤ d then s.noteTemp d t else (s.noteTemp d t).throttle d := rfl

/-- What a sensor's reading does (R843). -/
theorem senseTemp_spec {d t : Nat} (h : tok 0 s.regs = true) (ht : t < 256) :
    (s.senseTemp d t).getF PWR_TEMP [d] PWR_TEMP.NOW = t ∧
    (s.senseTemp d t).getF PWR_TEMP [d] PWR_TEMP.PEAK = max (s.getF PWR_TEMP [d] PWR_TEMP.PEAK) t ∧ (s.senseTemp d t).pwr = s.pwr ∧
    (d < 8 → (s.senseTemp d t).ThrottledFrom s d) ∧ (∀ n, n ≠ d → (s.senseTemp d t).throttled n = s.throttled n) ∧
    (s.senseTemp d t).getF PWR_THERM [] PWR_THERM.THROT = s.getF PWR_THERM [] PWR_THERM.THROT ∧
    RegsKept [PWR_TEMP.addr [d], PWR_THERM.addr []] s (s.senseTemp d t) ∧ Frame [.regs, .arb] s (s.senseTemp d t) := by
  have apart : PWR_THERM.addr [] ∉ [PWR_TEMP.addr [d]] := by simp [PWR_TEMP_addr, show PWR_THERM.addr [] = 0x3020b0 from rfl]; omega
  have apart' : PWR_TEMP.addr [d] ∉ [PWR_THERM.addr []] := by simp [PWR_TEMP_addr, show PWR_THERM.addr [] = 0x3020b0 from rfl]; omega
  obtain ⟨now, peak⟩ := noteTemp_spec (d := d) h ht
  have kept := noteTemp_kept (s := s) d t
  have frame := noteTemp_frame (s := s) d t
  have flags : ∀ n, (s.noteTemp d t).throttled n = s.throttled n := throttled_congr (kept.getF_eq _ apart)
  have throt : (s.noteTemp d t).getF PWR_THERM [] PWR_THERM.THROT = s.getF PWR_THERM [] PWR_THERM.THROT := kept.getF_eq _ apart
  rw [senseTemp_eq]
  generalize s.noteTemp d t = a at *
  have pwr : a.pwr = s.pwr := frame.1 .pwr (by decide)
  have wide : RegsKept [PWR_TEMP.addr [d], PWR_THERM.addr []] s a := (RegsKept.refl _ s).then kept (by simp)
  split
  · exact ⟨now, peak, pwr, fun hd => absurd hd (by omega), fun n _ => flags n, throt, wide, frame.mono (by decide)⟩
  · have hd : d < 8 := by omega
    have htok := frame.tok h
    obtain ⟨-, others, throt'⟩ := throttle_spec htok hd
    refine ⟨by rw [(throttle_kept d).getF_eq _ apart', now], by rw [(throttle_kept d).getF_eq _ apart', peak],
      ((State.throttle_frame ..).1 .pwr (by decide)).trans pwr, fun _ => (throttle_throttledFrom htok hd).of_throttled_eq (flags d),
      fun n hn => (others n hn).trans (flags n), throt'.trans throt, wide.then (throttle_kept d) (by simp), ?_⟩
    exact .via (State.throttle_frame ..) (by decide) (frame.mono (by decide))

/-- What the report of an HBM stack does (R992). -/
theorem senseStack_spec {d t : Nat} (h : tok 0 s.regs = true) (hs : tok 0 s.pwr.stackTemp = true) (hd : d < 8) :
    tget 0 (s.senseStack d t).pwr.stackTemp d = t ∧ (s.senseStack d t).reg PWR_TEMP [d] = s.reg PWR_TEMP [d] ∧
    (s.senseStack d t).ThrottledFrom s d ∧ (∀ n, n ≠ d → (s.senseStack d t).throttled n = s.throttled n) ∧
    (s.senseStack d t).getF PWR_THERM [] PWR_THERM.THROT = s.getF PWR_THERM [] PWR_THERM.THROT ∧
    RegsKept [PWR_TEMP.addr [d], PWR_THERM.addr []] s (s.senseStack d t) ∧ Frame [.regs, .arb, .pwr] s (s.senseStack d t) := by
  unfold State.senseStack
  have frame : Frame [.pwr] s { s with pwr := { s.pwr with stackTemp := tput 0 s.pwr.stackTemp d t } } := Frame.set_pwr _ (by decide) (.refl _ s)
  have temp : tget 0 ({ s with pwr := { s.pwr with stackTemp := tput 0 s.pwr.stackTemp d t } } : State).pwr.stackTemp d = t := tget_tput_same 0 d t hs
  have regs : ({ s with pwr := { s.pwr with stackTemp := tput 0 s.pwr.stackTemp d t } } : State).regs = s.regs := rfl
  generalize ({ s with pwr := { s.pwr with stackTemp := tput 0 s.pwr.stackTemp d t } } : State) = a at frame temp regs
  have kept : RegsKept [] s a := .of_regs_eq regs
  have flags : ∀ n, a.throttled n = s.throttled n := throttled_congr (kept.getF_eq _ List.not_mem_nil)
  have htok : tok 0 a.regs = true := by rwa [regs]
  obtain ⟨-, others, throt⟩ := throttle_spec htok hd
  refine ⟨?_, ?_, (throttle_throttledFrom htok hd).of_throttled_eq (flags d), fun n hn => (others n hn).trans (flags n),
    throt.trans (kept.getF_eq _ List.not_mem_nil), ((RegsKept.refl _ s).then kept (by simp)).then (throttle_kept d) (by simp), ?_⟩
  · rw [show (a.throttle d).pwr = a.pwr from (State.throttle_frame ..).1 .pwr (by decide), temp]
  · rw [(throttle_kept d).reg_eq (by simp [PWR_TEMP_addr, show PWR_THERM.addr [] = 0x3020b0 from rfl]; omega), kept.reg_eq List.not_mem_nil]
  · exact .via (State.throttle_frame ..) (by decide) (frame.mono (by decide))

theorem thermalThrottle_reports (hwf : s.wf) (hst : tok 0 s.pwr.stackTemp = true)
    (hgo : ¬(s.fw.inCold = true ∨ s.hasDie d = false ∨ (hbm = true ∧ 8 ≤ (d : Nat)) ∨ (hbm = false ∧ 115 ≤ v.toNat))) :
    Completes (exec (.thermalThrottle d v hbm) s) (fun t =>
      (hbm = false → t.getF PWR_TEMP [(d : Nat)] PWR_TEMP.NOW = v.toNat ∧
        t.getF PWR_TEMP [(d : Nat)] PWR_TEMP.PEAK = max (s.getF PWR_TEMP [(d : Nat)] PWR_TEMP.PEAK) v.toNat ∧ t.pwr = s.pwr) ∧
      (hbm = true → tget 0 t.pwr.stackTemp d = v.toNat ∧ t.reg PWR_TEMP [(d : Nat)] = s.reg PWR_TEMP [(d : Nat)]) ∧
      ((d : Nat) < 8 → t.ThrottledFrom s d) ∧ (∀ n, n ≠ (d : Nat) → t.throttled n = s.throttled n) ∧
      t.getF PWR_THERM [] PWR_THERM.THROT = s.getF PWR_THERM [] PWR_THERM.THROT ∧
      RegsKept [PWR_TEMP.addr [(d : Nat)], PWR_THERM.addr []] s t ∧ Frame [.regs, .arb, .pwr] s t) := by
  refine ⟨_, exec_thermalThrottle hgo, ?_⟩
  cases hbm
  · obtain ⟨now, peak, pwr, own, others, throt, kept, frame⟩ := senseTemp_spec (d := d) hwf.2 (t := v.toNat) v.isLt
    exact ⟨fun _ => ⟨now, peak, pwr⟩, nofun, own, others, throt, kept, frame.mono (by decide)⟩
  · have hd : (d : Nat) < 8 := by
      by_contra h
      exact hgo (.inr (.inr (.inl ⟨rfl, by omega⟩)))
    obtain ⟨temp, reg, own, others, throt, kept, frame⟩ := senseStack_spec (t := v.toNat) hwf.2 hst hd
    exact ⟨nofun, fun _ => ⟨temp, reg⟩, fun _ => own, others, throt, kept, frame⟩

end

/-! ### A write of THROT -/

section
variable {s : State}

/-- The dies below n have been looked at. -/
def Throttles (n : Nat) (s t : State) : Prop :=
  RegsKept [PWR_THERM.addr []] s t ∧ Frame [.regs, .arb] s t ∧ t.getF PWR_THERM [] PWR_THERM.THROT = s.getF PWR_THERM [] PWR_THERM.THROT ∧
  (∀ d, d < n → s.hasDie d = true → t.ThrottledFrom s d) ∧ ∀ d, n ≤ d → t.throttled d = s.throttled d

/-- Each fitted Press die is looked at. -/
def State.throttleAll (s : State) (n : Nat) : State := (List.range n).foldl (fun s d => if s.hasDie d then s.throttle d else s) s

theorem throttleAll_succ (n : Nat) : s.throttleAll (n + 1) = if (s.throttleAll n).hasDie n then (s.throttleAll n).throttle n else s.throttleAll n := by
  rw [State.throttleAll, List.range_succ, List.foldl_append]
  rfl

theorem throttleAll_throttles (h : tok 0 s.regs = true) : ∀ n, n ≤ 8 → Throttles n s (s.throttleAll n) := by
  intro n
  induction n with
  | zero => exact fun _ => ⟨.refl _ s, .refl _ s, rfl, fun d hd => absurd hd (by omega), fun _ _ => rfl⟩
  | succ n ih =>
    intro hn
    obtain ⟨kept, frame, throt, below, above⟩ := ih (by omega)
    rw [throttleAll_succ]
    generalize s.throttleAll n = t at *
    have fitted : t.hasDie n = s.hasDie n := hasDie_congr kept (by decide) n
    have htok := frame.tok h
    split
    · obtain ⟨own, others, throt'⟩ := throttle_spec (d := n) htok (by omega)
      refine ⟨kept.then (throttle_kept n) (by simp), .via (State.throttle_frame ..) (by decide) frame, throt'.trans throt, fun d hd hf => ?_, fun d hd => ?_⟩
      · by_cases hdn : d = n
        · subst hdn
          exact (throttle_throttledFrom htok (by omega)).of_throttled_eq (above d le_rfl)
        · exact (below d (by omega) hf).congr (throttle_sameSensors d htok (by omega)) (others d hdn)
      · exact (others d (by omega)).trans (above d (by omega))
    · rename_i hno
      refine ⟨kept, frame, throt, fun d hd hf => ?_, fun d hd => above d (by omega)⟩
      refine below d (Nat.lt_of_le_of_ne (by omega) fun e => hno ?_) hf
      rw [fitted, ← e, hf]

/-! ### The register file -/

/-- How far a register's indices reach. -/
def dimSpan : List (Nat × Nat) → Nat
  | [] => 1
  | (c, st) :: _ => c * st

/-- The register returns to its reset value with a unit, a die or C0. -/
def Reg.volatile (r : Reg) : Bool := r.dom == .unit || r.dom == .die || r.dom == .c0

/-- The whole register lies outside the clock, reset and power block. -/
def Reg.outside (r : Reg) : Bool := r.dims.all (fun x => decide (0 < x.2)) && match r.dies with
  | none => decide (r.off + dimSpan r.dims ≤ 0x300000) || decide (0x304000 ≤ r.off)
  | some _ => decide (0x2000 ≤ r.off) || r.dies.all (fun x => decide (x.2 < 10))

/-- Of the register file: an access of PWR_THERM reaches it alone, what a unit's reset returns lies outside the clock, reset and power block, and the
registers that show a reset are found at their offsets. -/
theorem regFile_spec : (PWR_THERM ∈ allRegs ∧ accessBad (PWR_THERM.addr []) 4 = false ∧ regParts (PWR_THERM.addr []) 4 = [⟨PWR_THERM, [], 0, 4, 0⟩]) ∧
    (∀ r ∈ allRegs, r.volatile = true → r.outside = true) ∧
    (∀ d : Fin 10, regAt (SCR_STATUS.addr [(d : Nat)]) = some (SCR_STATUS, [(d : Nat)])) ∧
    (∀ l : Fin 12, regAt (LNK_STATUS.addr (lnk l)) = some (LNK_STATUS, lnk l)) ∧
    ∀ p : Fin 2, regAt (ETH_PORT_STATUS.addr [(p : Nat)]) = some (ETH_PORT_STATUS, [(p : Nat)]) ∧
      regAt (ETH_EVENT.addr [(p : Nat)]) = some (ETH_EVENT, [(p : Nat)]) := by decide +kernel

theorem PWR_THERM_mem : PWR_THERM ∈ allRegs := regFile_spec.1.1

/-- PWR_THERM by its codes, with THROT at most 105. -/
def State.setThrot (s : State) (w : Who) (v : Nat) : State :=
  (s.plainWrite (RegPart.write ⟨PWR_THERM, [], 0, 4, 0⟩ w v) false).atMost PWR_THERM [] PWR_THERM.THROT 105

theorem writeOne_therm (w : Who) (v : Nat) (ha : s.regAway PWR_THERM [] = false) :
    s.writeOne (RegPart.write ⟨PWR_THERM, [], 0, 4, 0⟩ w v) = (s.setThrot w v).throttleAll 8 := by
  have block : s.writeOne (RegPart.write ⟨PWR_THERM, [], 0, 4, 0⟩ w v) = s.writeAon (RegPart.write ⟨PWR_THERM, [], 0, 4, 0⟩ w v) := by
    unfold State.writeOne
    rw [if_neg (by simp [RegPart.write, ha])]
    rfl
  rw [block]
  unfold State.writeAon State.throttleAll
  generalize List.range 8 = l
  rfl

theorem exec_write_therm (w : Who) (v : Word) (ha : s.regAway PWR_THERM [] = false) :
    exec (.registerWrite w (BitVec.ofNat 26 (PWR_THERM.addr [])) 4 v) s = .next ((s.setThrot w v.toNat).throttleAll 8) := by
  have off : (BitVec.ofNat 26 (PWR_THERM.addr [])).toNat = PWR_THERM.addr [] := by decide
  have window : s.absentWindow (PWR_THERM.addr []) = false := by
    rw [show PWR_THERM.addr [] = 0x3020b0 from rfl]
    simp [State.absentWindow]
  obtain ⟨⟨-, bad, parts⟩, -⟩ := regFile_spec
  have aim : s.aim (BitVec.ofNat 26 (PWR_THERM.addr [])).toNat ((4 : Fin 65) : Nat) = .register := by
    rw [off]
    exact aim_eq_register bad window parts
  rw [exec_registerWrite aim, off]
  exact congrArg _ ((regWrite_one parts _).trans (writeOne_therm w _ ha))

theorem setThrot_kept (w : Who) (v : Nat) : RegsKept [PWR_THERM.addr []] s (s.setThrot w v) := by
  have plain : RegsKept [PWR_THERM.addr []] s (s.plainWrite (RegPart.write ⟨PWR_THERM, [], 0, 4, 0⟩ w v) false) :=
    plainWrite_kept s (RegPart.write ⟨PWR_THERM, [], 0, 4, 0⟩ w v) false
  exact .ite (fun _ => plain.setF (by simp)) fun _ => plain

theorem setThrot_frame (w : Who) (v : Nat) : Frame [.regs] s (s.setThrot w v) := (State.plainWrite_frame ..).trans (State.atMost_frame ..)

theorem setThrot_spec (w : Who) (v : Word) (h : tok 0 s.regs = true) :
    (s.setThrot w v.toNat).getF PWR_THERM [] PWR_THERM.THROT = min 105 (v.toNat % 256) ∧ ∀ n, (s.setThrot w v.toNat).throttled n = s.throttled n := by
  unfold State.setThrot State.atMost
  have throt : (s.plainWrite (RegPart.write ⟨PWR_THERM, [], 0, 4, 0⟩ w v.toNat) false).getF PWR_THERM [] PWR_THERM.THROT = v.toNat % 256 :=
    (getF_plainWrite_rw w v false h PWR_THERM_mem (by decide) (by decide) (by decide)).trans (by simp [fget, PWR_THERM.THROT])
  have flags : ∀ n, (s.plainWrite (RegPart.write ⟨PWR_THERM, [], 0, 4, 0⟩ w v.toNat) false).throttled n = s.throttled n := fun n => by
    rw [throttled_eq, throttled_eq]
    by_cases hn : n < 8
    · rw [bitOf_plainWrite_of_reaches w v.toNat false (x := ⟨PWR_THERM, [], 0, 4, 0⟩) h PWR_THERM_mem (by decide) (f := (PWR_THERM.THROTTLED, .ro)) (by decide)
        (by simp [Fld.covers, PWR_THERM.THROTTLED]; exact decide_eq_true (by omega)) ⟨by simp, by simp only; omega⟩]
      rfl
    · simp [hn]
  have htok := plainWrite_tok s (RegPart.write ⟨PWR_THERM, [], 0, 4, 0⟩ w v.toNat) false h
  generalize s.plainWrite (RegPart.write ⟨PWR_THERM, [], 0, 4, 0⟩ w v.toNat) false = a at throt flags htok
  rw [throt]
  split
  · rename_i hlt
    refine ⟨(getF_setF_same a _ _ _ _ htok (by decide)).trans ?_, fun n => (throttled_congr ?_ n).trans (flags n)⟩
    · rw [show (105 : Nat) % 2 ^ PWR_THERM.THROT.width = 105 from rfl]
      omega
    · exact getF_setF_field a _ _ _ _ _ htok (by decide) (by decide)
  · exact ⟨throt.trans (by omega), flags⟩

theorem registerWrite_throt (w : Who) (v : Word) (hwf : s.wf) (ha : s.regAway PWR_THERM [] = false) :
    Completes (exec (.registerWrite w (BitVec.ofNat 26 (PWR_THERM.addr [])) 4 v) s) (fun t =>
      t.getF PWR_THERM [] PWR_THERM.THROT = min 105 (v.toNat % 256) ∧ (∀ d, d < 8 → s.hasDie d = true → t.ThrottledFrom s d) ∧
      RegsKept [PWR_THERM.addr []] s t ∧ Frame [.regs, .arb] s t) := by
  refine ⟨_, exec_write_therm w v ha, ?_⟩
  obtain ⟨throt, flags⟩ := setThrot_spec w v hwf.2
  have kept := setThrot_kept (s := s) w v.toNat
  have frame := setThrot_frame (s := s) w v.toNat
  generalize s.setThrot w v.toNat = a at *
  obtain ⟨kept', frame', throt', below, -⟩ := throttleAll_throttles (frame.tok hwf.2) 8 le_rfl
  refine ⟨throt'.trans throt, fun d hd hf => (below d hd ?_).of_throttled_eq (flags d), kept.trans kept', (frame.mono (by decide)).trans frame'⟩
  rw [hasDie_congr kept (by decide) d, hf]

end

end Sys2Proof.Machine
end

section
/-! Give-up and discards (R508, R829 to R831): the stream that ends, and what a dead link loses. -/

namespace Sys2Proof.Machine

/-- A value other than the default reads back from any table. -/
theorem tget_tput_of_ne {α : Type} [DecidableEq α] {d v : α} (i : Nat) (h : v ≠ d) : ∀ t : Table α, tget d (tput d t i v) i = v
  | [] => by simp [tput, tget, h]
  | (k, w) :: t => by
    simp only [tput, h, if_false]
    split_ifs with h1 h2
    · simp [tget]
    · simp [tget]
    · rw [tget, if_neg (fun e => h2 e.symm)]
      exact tget_tput_of_ne i h t

/-! ### The reset and power registers -/

/-- The offsets of the clock, reset and power block (R46). -/
def inPower (a : Nat) : Prop := 0x300000 ≤ a ∧ a < 0x304000

/-- The register lies above the clock, reset and power block on every die that holds it. -/
def Reg.high (r : Reg) : Bool := match r.dies with
  | none => decide (0x304000 ≤ r.off)
  | some _ => decide (0x2000 ≤ r.off)

theorem dieWin_ge (d : Nat) : 0x302000 ≤ dieWin d := by
  unfold dieWin
  split_ifs <;> omega

theorem high_addr {r : Reg} (h : r.high = true) (d : Nat) (ix : List Nat) : 0x304000 ≤ r.addr (d :: ix) := by
  cases hd : r.dies with
  | none =>
    have off : 0x304000 ≤ r.off := by simpa [Reg.high, hd] using h
    have place : r.addr (d :: ix) = r.off + dimOff r.dims (d :: ix) := by simp [Reg.addr, hd]
    omega
  | some x =>
    have off : 0x2000 ≤ r.off := by simpa [Reg.high, hd] using h
    have place : r.addr (d :: ix) = dieWin d + r.off + dimOff r.dims ix := by simp [Reg.addr, hd]
    have win := dieWin_ge d
    omega

section
variable {s t : State}

theorem RegsKept.power {as : List Nat} (h : RegsKept as s t) (hq : ∀ a ∈ as, 0x304000 ≤ a) : RegsOn inPower s t := h.on fun a ha hQ => by
  have := hq a ha
  have := hQ.2
  omega

/-- A register above the block changes: the block does not. -/
theorem RegsKept.power_one {r : Reg} {d : Nat} {ix : List Nat} (h : RegsKept [r.addr (d :: ix)] s t) (hr : r.high = true) : RegsOn inPower s t :=
  h.power fun a ha => by
    rw [List.mem_singleton.mp ha]
    exact high_addr hr d ix

/-! ### Descriptors that are released -/

theorem syncDarn_power : RegsOn inPower s s.syncDarn :=
  .foldl _ (fun t m _ => RegsKept.power_one (r := BLT_DARN) (d := m) (ix := []) ((setF_kept t _ _ _ _).setF (by simp)) (by decide)) s

theorem dropHold_power (p b n : Nat) : RegsOn inPower s (s.dropHold p b n) := by
  unfold State.dropHold State.syncHolds
  refine RegsKept.power_one (r := PRS_HOLDS) (d := p / 32) (ix := [p % 32]) (RegsKept.setF (RegsKept.setF ?_ ?_) ?_) (by decide)
  · exact .of_regs_eq rfl
  · exact List.mem_singleton_self _
  · exact List.mem_singleton_self _

theorem releaseDesc_power (x : Desc) : RegsOn inPower s (s.releaseDesc x) := by
  refine RegsOn.trans (RegsOn.trans (t := s.setF BLT_QUOTA [x.die] (quotaFld x.stream) (s.getF BLT_QUOTA [x.die] (quotaFld x.stream) + 1)) ?_ ?_) syncDarn_power
  · exact (setF_kept s _ _ _ _).power_one (by decide)
  · exact RegsOn.trans (.of_regs_eq rfl) (dropHold_power (32 * x.die + x.press) x.sblk x.hdr.bytes)

theorem releaseDesc_desc (x : Desc) : (s.releaseDesc x).score.desc = s.score.desc.filter (fun y => y != x) := by
  have darn : ∀ t : State, t.syncDarn.score = t.score := fun t => (State.syncDarn_frame t).1 .score (by decide)
  have hold : ∀ (t : State) (p b n : Nat), (t.dropHold p b n).score = t.score := fun t p b n => (State.dropHold_frame t p b n).1 .score (by decide)
  simp only [State.releaseDesc, darn, hold]
  rfl

theorem foldl_releaseDesc_desc : ∀ (l : List Desc) (s : State), (l.foldl State.releaseDesc s).score.desc = s.score.desc.filter (fun y => !l.contains y)
  | [], s => by simp
  | x :: l, s => by
    rw [List.foldl_cons, foldl_releaseDesc_desc l, releaseDesc_desc, List.filter_filter]
    refine List.filter_congr fun y _ => ?_
    by_cases h : y = x <;> simp [h]

/-! ### A stream that ends -/

theorem endStream_desc (stream st : Nat) : (s.endStream stream st).score.desc = s.score.desc.filter (fun y => y.stream != stream) := by
  have drop : (s.endStream stream st).score.desc = ((s.score.desc.filter (fun d => d.stream == stream)).foldl State.releaseDesc s).score.desc := rfl
  rw [drop, foldl_releaseDesc_desc]
  refine List.filter_congr fun y hy => ?_
  by_cases h : y.stream = stream <;> simp [h, hy]

theorem endStream_power (stream st : Nat) : RegsOn inPower s (s.endStream stream st) :=
  RegsOn.trans (t := (s.score.desc.filter (fun d => d.stream == stream)).foldl State.releaseDesc s)
    (.foldl _ (fun _ x _ => releaseDesc_power x) s) (.of_regs_eq rfl)

theorem endStream_ended (stream st : Nat) : tget 0 (s.endStream stream st).score.ended stream = st + 1 := tget_tput_of_ne stream (Nat.succ_ne_zero st) _

/-- The first stream that ended is recorded (R831). -/
def State.recordEnded (s : State) (stream d reason : Nat) : State :=
  if s.bit RST_EVENT [] RST_EVENT.STREAM_ENDED then s
  else ((s.setF RST_ENDED [] RST_ENDED.STREAM stream).setF RST_ENDED [] RST_ENDED.DIE d).setF RST_ENDED [] RST_ENDED.REASON reason

/-- One more stream ended (R831). -/
def State.countEnded (s : State) : State := (s.incF RST_ENDED [] RST_ENDED.COUNT 1).setLogged 10 RST_EVENT [] RST_EVENT.STREAM_ENDED

theorem noteEnded_eq (stream d reason : Nat) : s.noteEnded stream d reason =
    if (s.recordEnded stream d reason).countEnded.tempo.running then (s.recordEnded stream d reason).countEnded.fermataRequest
    else (s.recordEnded stream d reason).countEnded := rfl

theorem recordEnded_frame (stream d reason : Nat) : Frame [.regs] s (s.recordEnded stream d reason) :=
  .ite (fun _ => .refl _ s) fun _ => (State.setF_frame ..).trans ((State.setF_frame ..).trans (State.setF_frame ..))

theorem recordEnded_kept (stream d reason : Nat) : RegsKept [RST_ENDED.addr []] s (s.recordEnded stream d reason) :=
  .ite (fun _ => .refl _ s) fun _ => ((setF_kept s _ _ _ _).setF (by simp)).setF (by simp)

theorem countEnded_frame : Frame [.regs, .arb] s s.countEnded := .via (State.setLogged_frame ..) (by decide) (.via (State.incF_frame ..) (by decide) (.refl _ s))

theorem recordEnded_first {stream d reason : Nat} (h : tok 0 s.regs = true) (hb : s.bit RST_EVENT [] RST_EVENT.STREAM_ENDED = false)
    (h1 : stream < 4096) (h2 : d < 16) (h3 : reason < 256) :
    (s.recordEnded stream d reason).getF RST_ENDED [] RST_ENDED.STREAM = stream ∧ (s.recordEnded stream d reason).getF RST_ENDED [] RST_ENDED.DIE = d ∧
    (s.recordEnded stream d reason).getF RST_ENDED [] RST_ENDED.REASON = reason ∧
    (s.recordEnded stream d reason).getF RST_ENDED [] RST_ENDED.COUNT = s.getF RST_ENDED [] RST_ENDED.COUNT := by
  have a1 : tok 0 (s.setF RST_ENDED [] RST_ENDED.STREAM stream).regs = true := setF_tok _ _ _ _ _ h
  have a2 := setF_tok _ RST_ENDED [] RST_ENDED.DIE d a1
  rw [State.recordEnded, hb, if_neg (by decide)]
  refine ⟨?_, ?_, ?_, ?_⟩
  · rw [getF_setF_field _ _ _ _ _ _ a2 (by decide) (by decide), getF_setF_field _ _ _ _ _ _ a1 (by decide) (by decide), getF_setF_same _ _ _ _ _ h (by decide)]
    exact Nat.mod_eq_of_lt h1
  · rw [getF_setF_field _ _ _ _ _ _ a2 (by decide) (by decide), getF_setF_same _ _ _ _ _ a1 (by decide)]
    exact Nat.mod_eq_of_lt h2
  · rw [getF_setF_same _ _ _ _ _ a2 (by decide)]
    exact Nat.mod_eq_of_lt h3
  · rw [getF_setF_field _ _ _ _ _ _ a2 (by decide) (by decide), getF_setF_field _ _ _ _ _ _ a1 (by decide) (by decide),
      getF_setF_field _ _ _ _ _ _ h (by decide) (by decide)]

theorem countEnded_spec (h : tok 0 s.regs = true) : s.countEnded.bit RST_EVENT [] RST_EVENT.STREAM_ENDED = true ∧
    Counted RST_ENDED [] RST_ENDED.COUNT 1 s s.countEnded ∧
    ∀ f ∈ [RST_ENDED.STREAM, RST_ENDED.DIE, RST_ENDED.REASON], s.countEnded.getF RST_ENDED [] f = s.getF RST_ENDED [] f := by
  have htok : tok 0 (s.incF RST_ENDED [] RST_ENDED.COUNT 1).regs = true := setF_tok _ _ _ _ _ h
  have kept : RegsKept [RST_EVENT.addr []] (s.incF RST_ENDED [] RST_ENDED.COUNT 1) s.countEnded := setLogged_kept _ _ _ _ _
  refine ⟨bit_setLogged_same htok (by decide) (by decide), ?_, fun f hf => ?_⟩
  · rw [Counted, kept.getF_eq _ (by decide)]
    exact counted_incF s _ _ _ _ h (by decide)
  · rw [kept.getF_eq _ (by decide)]
    have apart : ∀ f ∈ [RST_ENDED.STREAM, RST_ENDED.DIE, RST_ENDED.REASON], f.lo + f.width ≤ RST_ENDED.COUNT.lo := by decide
    exact getF_setF_field s _ _ _ _ _ h ((apart f hf).trans (by decide)) (.inl (apart f hf))

/-- The end of a stream as it is noted (R831): its record, its count, the event and, while Score time runs, a fermata request. -/
theorem noteEnded_spec {stream d reason : Nat} (h : tok 0 s.regs = true) (h1 : stream < 4096) (h2 : d < 16) (h3 : reason < 256) :
    (s.noteEnded stream d reason).bit RST_EVENT [] RST_EVENT.STREAM_ENDED = true ∧
    Counted RST_ENDED [] RST_ENDED.COUNT 1 s (s.noteEnded stream d reason) ∧
    (s.bit RST_EVENT [] RST_EVENT.STREAM_ENDED = false → (s.noteEnded stream d reason).getF RST_ENDED [] RST_ENDED.STREAM = stream ∧
      (s.noteEnded stream d reason).getF RST_ENDED [] RST_ENDED.DIE = d ∧ (s.noteEnded stream d reason).getF RST_ENDED [] RST_ENDED.REASON = reason) ∧
    (s.bit RST_EVENT [] RST_EVENT.STREAM_ENDED = true → ∀ f ∈ [RST_ENDED.STREAM, RST_ENDED.DIE, RST_ENDED.REASON],
      (s.noteEnded stream d reason).getF RST_ENDED [] f = s.getF RST_ENDED [] f) ∧
    (s.tempo.running = true → (s.noteEnded stream d reason).tempo.reqBar = barMax s.tempo.reqBar s.raisedBar) ∧
    (s.tempo.running = false → (s.noteEnded stream d reason).tempo = s.tempo) := by
  rw [noteEnded_eq]
  have frameA := recordEnded_frame (s := s) stream d reason
  have first := fun hb => recordEnded_first h hb h1 h2 h3
  have again : s.bit RST_EVENT [] RST_EVENT.STREAM_ENDED = true → s.recordEnded stream d reason = s := fun hb => if_pos hb
  generalize s.recordEnded stream d reason = a at frameA first again
  obtain ⟨event, counted, fields⟩ := countEnded_spec (frameA.tok h)
  have tempo : a.countEnded.tempo = s.tempo := (countEnded_frame.1 .tempo (by decide)).trans (frameA.1 .tempo (by decide))
  generalize a.countEnded = b at event counted fields tempo
  have done : ∀ u : State, u.regs = b.regs → u.bit RST_EVENT [] RST_EVENT.STREAM_ENDED = true ∧ Counted RST_ENDED [] RST_ENDED.COUNT 1 s u ∧
      (s.bit RST_EVENT [] RST_EVENT.STREAM_ENDED = false → u.getF RST_ENDED [] RST_ENDED.STREAM = stream ∧ u.getF RST_ENDED [] RST_ENDED.DIE = d ∧
        u.getF RST_ENDED [] RST_ENDED.REASON = reason) ∧
      (s.bit RST_EVENT [] RST_EVENT.STREAM_ENDED = true → ∀ f ∈ [RST_ENDED.STREAM, RST_ENDED.DIE, RST_ENDED.REASON],
        u.getF RST_ENDED [] f = s.getF RST_ENDED [] f) := fun u hu => by
    have same : ∀ r ix f, u.getF r ix f = b.getF r ix f := getF_congr hu
    refine ⟨by rw [State.bit, same]; exact event, ?_, fun hb => ?_, fun hb f hf => ?_⟩
    · rw [Counted, same]
      by_cases hb : s.bit RST_EVENT [] RST_EVENT.STREAM_ENDED = true
      · rw [← again hb]
        exact counted
      · rw [counted, (first (by simpa using hb)).2.2.2]
    · obtain ⟨f1, f2, f3, -⟩ := first hb
      rw [same, same, same, fields _ (by simp), fields _ (by simp), fields _ (by simp)]
      exact ⟨f1, f2, f3⟩
    · rw [same, fields f hf, again hb]
  split
  · rename_i hrun
    obtain ⟨c1, c2, c3, c4⟩ := done b.fermataRequest ((State.fermataRequest_frame b).1 .regs (by decide))
    rw [tempo] at hrun
    refine ⟨c1, c2, c3, c4, fun _ => ?_, fun hno => absurd hrun (by simp [hno])⟩
    rw [State.fermataRequest, State.raisedBar, State.raisedBar, tempo]
    rfl
  · rename_i hrun
    obtain ⟨c1, c2, c3, c4⟩ := done b rfl
    rw [tempo] at hrun
    exact ⟨c1, c2, c3, c4, fun h => absurd h hrun, fun _ => tempo⟩

end

/-! ### The give-up of a descriptor -/

section
variable {s : State} {stream : BitVec 12} {seq : BitVec 16} {x : Desc}

theorem exec_linkGiveup_none (h : s.descOf stream.toNat seq.toNat = none) : exec (.linkGiveup stream seq) s = .next s := by
  show execLinkGiveup stream seq s = _
  rw [execLinkGiveup, h]

theorem exec_linkGiveup_some (h : s.descOf stream.toNat seq.toNat = some x) : exec (.linkGiveup stream seq) s =
    .next (((s.endStream stream.toNat stPeerReset).noteEnded stream.toNat x.die 3).setLogged 10 RST_EVENT [] RST_EVENT.GIVEUP) := by
  show execLinkGiveup stream seq s = _
  rw [execLinkGiveup, h]

theorem linkGiveup_ends (hwf : s.wf) (hv : ∀ y ∈ s.score.desc, y.die < 8 ∧ y.press < 32) (hx : s.descOf stream.toNat seq.toNat = some x) :
    Completes (exec (.linkGiveup stream seq) s) (fun t => t.score.desc = s.score.desc.filter (fun y => y.stream != stream.toNat) ∧
      t.bit RST_EVENT [] RST_EVENT.GIVEUP = true ∧ t.bit RST_EVENT [] RST_EVENT.STREAM_ENDED = true ∧ Counted RST_ENDED [] RST_ENDED.COUNT 1 s t ∧
      tget 0 t.score.ended stream.toNat = stPeerReset + 1 ∧
      (s.bit RST_EVENT [] RST_EVENT.STREAM_ENDED = false → t.getF RST_ENDED [] RST_ENDED.STREAM = stream.toNat ∧ t.getF RST_ENDED [] RST_ENDED.DIE = x.die ∧
        t.getF RST_ENDED [] RST_ENDED.REASON = 3) ∧
      (s.bit RST_EVENT [] RST_EVENT.STREAM_ENDED = true → ∀ f ∈ [RST_ENDED.STREAM, RST_ENDED.DIE, RST_ENDED.REASON], t.getF RST_ENDED [] f = s.getF RST_ENDED [] f) ∧
      (s.tempo.running = true → t.tempo.reqBar = barMax s.tempo.reqBar s.raisedBar) ∧ (s.tempo.running = false → t.tempo = s.tempo) ∧
      t.mem = s.mem ∧ Frame [.regs, .tempo, .press, .score, .arb] s t) := by
  have hdie : x.die < 8 := (hv x (List.mem_of_find?_eq_some hx)).1
  rw [exec_linkGiveup_some hx]
  refine ⟨_, rfl, ?_⟩
  have power := endStream_power (s := s) stream.toNat stPeerReset
  have desc := endStream_desc (s := s) stream.toNat stPeerReset
  have ended := endStream_ended (s := s) stream.toNat stPeerReset
  have frameA : Frame [.regs, .press, .score] s (s.endStream stream.toNat stPeerReset) := State.endStream_frame ..
  generalize s.endStream stream.toNat stPeerReset = a at power desc ended frameA
  obtain ⟨event, counted, first, again, running, still⟩ := noteEnded_spec (stream := stream.toNat) (d := x.die) (reason := 3) (frameA.tok hwf.2) stream.isLt
    (by omega) (by decide)
  have frameB : Frame [.regs, .tempo, .arb] a (a.noteEnded stream.toNat x.die 3) := State.noteEnded_frame ..
  generalize a.noteEnded stream.toNat x.die 3 = b at event counted first again running still frameB
  have tempoA : a.tempo = s.tempo := frameA.1 .tempo (by decide)
  have endedA : ∀ f, a.getF RST_ENDED [] f = s.getF RST_ENDED [] f := fun f => power.getF_eq f ⟨by decide, by decide⟩
  have eventA : a.bit RST_EVENT [] RST_EVENT.STREAM_ENDED = s.bit RST_EVENT [] RST_EVENT.STREAM_ENDED := power.bit_eq _ ⟨by decide, by decide⟩
  have htokB := frameB.tok (frameA.tok hwf.2)
  have kept : RegsKept [RST_EVENT.addr []] b (b.setLogged 10 RST_EVENT [] RST_EVENT.GIVEUP) := setLogged_kept _ _ _ _ _
  have frameC : Frame [.regs, .arb] b (b.setLogged 10 RST_EVENT [] RST_EVENT.GIVEUP) := State.setLogged_frame ..
  have scoreC : (b.setLogged 10 RST_EVENT [] RST_EVENT.GIVEUP).score = a.score := (frameC.1 .score (by decide)).trans (frameB.1 .score (by decide))
  have tempoC : (b.setLogged 10 RST_EVENT [] RST_EVENT.GIVEUP).tempo = b.tempo := frameC.1 .tempo (by decide)
  have fieldC : ∀ f, (b.setLogged 10 RST_EVENT [] RST_EVENT.GIVEUP).getF RST_ENDED [] f = b.getF RST_ENDED [] f := fun f => kept.getF_eq f (by decide)
  have frame : Frame [.regs, .tempo, .press, .score, .arb] s (b.setLogged 10 RST_EVENT [] RST_EVENT.GIVEUP) :=
    .via frameC (by decide) (.via frameB (by decide) (frameA.mono (by decide)))
  refine ⟨by rw [scoreC, desc], bit_setLogged_same htokB (by decide) (by decide), ?_, ?_, by rw [scoreC, ended], fun hb => ?_, fun hb f hf => ?_, fun hr => ?_,
    fun hr => ?_, frame.1 .mem (by decide), frame⟩
  · rw [State.bit, getF_setLogged, State.setBit, getF_setF_field b _ _ _ _ _ htokB (by decide) (by decide)]
    exact event
  · rw [Counted, fieldC, counted, endedA]
  · rw [fieldC, fieldC, fieldC]
    exact first (by rwa [eventA])
  · rw [fieldC, again (by rwa [eventA]) f hf, endedA]
  · rw [tempoC, running (by rwa [tempoA]), State.raisedBar, State.raisedBar, tempoA]
  · rw [tempoC, still (by rwa [tempoA]), tempoA]

end

/-! ### The discards at a dead link -/

section
variable {s : State} {l : Fin 12}

/-- The Mangle die discards what waits for the link from now on (R830). -/
def State.giveUpLink (s : State) (i : Nat) : State := { s with pwr := { s.pwr with giveUp := s.pwr.giveUp.filter (fun x => x != i) ++ [i] } }

/-- The heads that wait for the link are discarded. -/
def State.discardFlights (s : State) (i : Nat) : State :=
  (s.score.flights.filter (fun f => f.at_ == 8 + i / 6 && f.exit == some i && (f.looked || !f.own))).foldl (fun s f => s.exitHead f i false) s

/-- The resends that are stored for the link are discarded. -/
def State.discardStored (s : State) (i : Nat) : State :=
  (s.score.stored.filter (fun x => x.mangle == 8 + i / 6 && x.exit == some i)).foldl
    (fun s x => ((s.unstore x).resendOver x.own x.hdr).linkDiscard (x.hdr.lines + 2)) s

/-- The flits of the bolts of a legacy store. -/
def Legacy.flits (x : Legacy) : Nat := (x.store.map (fun b => b.1.lines + 2)).foldl (· + ·) 0

/-- The bolts of the legacy store are discarded. -/
def State.discardLegacy (s : State) (i : Nat) : State :=
  if (tget {} s.legacy i).store.isEmpty then s
  else (s.setLegacy i { tget {} s.legacy i with store := [], sent := 0 }).linkDiscard (tget {} s.legacy i).flits

theorem exec_linkDiscard_idle (h : s.linkUp l = true ∨ s.dieUp (8 + (l : Nat) / 6) = false) : exec (.linkDiscard l) s = .next s := by
  show execLinkDiscard l s = _
  rcases h with h | h <;> simp [execLinkDiscard, h]

theorem exec_linkDiscard (h1 : s.linkUp l = false) (h2 : s.dieUp (8 + (l : Nat) / 6) = true) :
    exec (.linkDiscard l) s = .next ((((s.giveUpLink l).discardFlights l).discardStored l).discardLegacy l) := by
  show execLinkDiscard l s = _
  refine congrArg Host.Outcome.next ((if_neg (by simp [h1, h2])).trans ?_)
  rfl

theorem discardFlights_frame (i : Nat) : Frame [.regs, .linkTx, .legacy, .score, .arb] s (s.discardFlights i) :=
  .foldl (fun _ _ h => .via (State.exitHead_frame ..) (by decide) h) _ _ (.refl _ s)

theorem discardStored_frame (i : Nat) : Frame [.regs, .score, .books, .arb] s (s.discardStored i) :=
  .foldl (fun _ _ h => .via (State.linkDiscard_frame ..) (by decide) <| .via (State.resendOver_frame ..) (by decide) <|
    .via (State.unstore_frame ..) (by decide) h) _ _ (.refl _ s)

theorem discardLegacy_frame (i : Nat) : Frame [.regs, .legacy, .arb] s (s.discardLegacy i) :=
  .ite (fun _ => .refl _ s) fun _ => .via (State.linkDiscard_frame ..) (by decide) <| .via (State.setLegacy_frame ..) (by decide) (.refl _ s)

theorem setLegacy_kept (i : Nat) (x : Legacy) : RegsKept [LNK_LGC_CRED.addr (lnk i)] s (s.setLegacy i x) := by
  have base : RegsKept [LNK_LGC_CRED.addr (lnk i)] s { s with legacy := tput {} s.legacy i x } := .of_regs_eq rfl
  exact ((((base.setF (by simp)).setF (by simp)).setF (by simp)).setF (by simp)).setF (by simp)

theorem LNK_LGC_CRED_range : ∀ l : Fin 12, 0x304000 ≤ LNK_LGC_CRED.addr (lnk l) := by decide

theorem linkDiscard_spec (n : Nat) (h : tok 0 s.regs = true) : (s.linkDiscard n).bit RST_EVENT [] RST_EVENT.LINK_DISCARD = true ∧
    Counted RST_DISCARDS [] RST_DISCARDS.COUNT n s (s.linkDiscard n) := by
  have htok : tok 0 (s.incF RST_DISCARDS [] RST_DISCARDS.COUNT n).regs = true := setF_tok _ _ _ _ _ h
  have kept : RegsKept [RST_EVENT.addr []] (s.incF RST_DISCARDS [] RST_DISCARDS.COUNT n) (s.linkDiscard n) := setLogged_kept _ _ _ _ _
  refine ⟨bit_setLogged_same htok (by decide) (by decide), ?_⟩
  rw [Counted, kept.getF_eq _ (by decide)]
  exact counted_incF s _ _ _ _ h (by decide)

/-- What the discard of a legacy store leaves. -/
theorem discardLegacy_spec (h : tok 0 s.regs = true) (hl : tok {} s.legacy = true) (hs : (tget {} s.legacy (l : Nat)).store ≠ []) :
    (tget {} (s.discardLegacy l).legacy (l : Nat)).store = [] ∧ (s.discardLegacy l).bit RST_EVENT [] RST_EVENT.LINK_DISCARD = true ∧
    Counted RST_DISCARDS [] RST_DISCARDS.COUNT (tget {} s.legacy (l : Nat)).flits s (s.discardLegacy l) := by
  rw [State.discardLegacy, if_neg (by simpa using hs)]
  generalize (tget {} s.legacy (l : Nat)).flits = n
  generalize hx : ({ tget {} s.legacy (l : Nat) with store := [], sent := 0 } : Legacy) = x
  have power : RegsOn inPower s (s.setLegacy l x) := (setLegacy_kept l x).power fun a ha => by
    rw [List.mem_singleton.mp ha]
    exact LNK_LGC_CRED_range l
  have legacy : (s.setLegacy l x).legacy = tput {} s.legacy l x := rfl
  have htok : tok 0 (s.setLegacy l x).regs = true := (State.setLegacy_frame s l x).tok h
  generalize s.setLegacy l x = a at power legacy htok
  obtain ⟨event, counted⟩ := linkDiscard_spec n htok
  refine ⟨?_, event, ?_⟩
  · rw [show (a.linkDiscard n).legacy = a.legacy from (State.linkDiscard_frame ..).1 .legacy (by decide), legacy, tget_tput_same _ _ _ hl, ← hx]
  · rw [Counted, counted, power.getF_eq _ ⟨by decide, by decide⟩]

theorem linkDiscard_discards (hwf : s.wf) (h1 : s.linkUp l = false) (h2 : s.dieUp (8 + (l : Nat) / 6) = true) :
    Completes (exec (.linkDiscard l) s) (fun t => (l : Nat) ∈ t.pwr.giveUp ∧ (∀ i, i ≠ (l : Nat) → (i ∈ t.pwr.giveUp ↔ i ∈ s.pwr.giveUp)) ∧ t.mem = s.mem ∧
      (s.score.flights = [] → s.score.stored = [] → tok {} s.legacy = true →
        let st := (tget {} s.legacy (l : Nat)).store
        (st = [] → t.reg RST_DISCARDS [] = s.reg RST_DISCARDS [] ∧ t.reg RST_EVENT [] = s.reg RST_EVENT []) ∧
        (st ≠ [] → (tget {} t.legacy (l : Nat)).store = [] ∧ t.bit RST_EVENT [] RST_EVENT.LINK_DISCARD = true ∧
          Counted RST_DISCARDS [] RST_DISCARDS.COUNT ((st.map (fun b => b.1.lines + 2)).foldl (· + ·) 0) s t))) := by
  rw [exec_linkDiscard h1 h2]
  have frameA := discardFlights_frame (s := s.giveUpLink l) l
  have frameB := discardStored_frame (s := (s.giveUpLink l).discardFlights l) l
  have frameC := discardLegacy_frame (s := ((s.giveUpLink l).discardFlights l).discardStored l) l
  have pwr : ((((s.giveUpLink l).discardFlights l).discardStored l).discardLegacy l).pwr = (s.giveUpLink l).pwr :=
    ((frameC.1 .pwr (by decide)).trans (frameB.1 .pwr (by decide))).trans (frameA.1 .pwr (by decide))
  have mem : ((((s.giveUpLink l).discardFlights l).discardStored l).discardLegacy l).mem = s.mem :=
    ((frameC.1 .mem (by decide)).trans (frameB.1 .mem (by decide))).trans (frameA.1 .mem (by decide))
  have giveUp : (s.giveUpLink l).pwr.giveUp = s.pwr.giveUp.filter (fun x => x != (l : Nat)) ++ [(l : Nat)] := rfl
  refine ⟨_, rfl, by simp [pwr, giveUp], fun i hi => by simp [pwr, giveUp, hi], mem, fun hf hs hl => ?_⟩
  have flights : (s.giveUpLink l).discardFlights l = s.giveUpLink l := by
    simp only [State.discardFlights, show (s.giveUpLink l).score.flights = [] from hf, List.filter_nil, List.foldl_nil]
  have stored : (s.giveUpLink l).discardStored l = s.giveUpLink l := by
    simp only [State.discardStored, show (s.giveUpLink l).score.stored = [] from hs, List.filter_nil, List.foldl_nil]
  rw [flights, stored]
  refine ⟨fun hst => ?_, fun hst => discardLegacy_spec (s := s.giveUpLink l) hwf.2 hl hst⟩
  have idle : (s.giveUpLink l).discardLegacy l = s.giveUpLink l := if_pos (List.isEmpty_iff.mpr hst)
  rw [idle]
  exact ⟨rfl, rfl⟩

end

/-! ### The statement -/

/-- Settles O50: each of the ten steps is named with the state it leads to, and the registers, stores and waiting commands that it
touches are read off the parts that the step is made of. -/
theorem unitsReturn : Obligations.UnitsReturn := by
  unfold Obligations.UnitsReturn
  refine ⟨fun u s hwf => ⟨resetRelease_releases hwf, exec_resetRelease_idle, fun us hu hw hc ha hda hd hr hn hf hp hz => ?press,
      fun us h1 h2 hw hc ha hd hr hf hl hs hz => unitInService_die us h1 h2 hw hc ha hd hr hf hl hs hz,
      fun us c hc ha ho hw hu => unitServiceTimeout_answers us c hwf hc ha ho hw hu⟩,
    fun p s hwf => ⟨fun hok => ?zeroing, exec_zeroingDone_idle⟩, fun d us s hw hv => railTargetReached_rises us hw hv,
    fun d v hbm s hwf hst => ⟨exec_thermalThrottle_idle, fun hgo => thermalThrottle_reports hwf hst hgo⟩,
    fun w v s hwf ha => registerWrite_throt w v hwf ha,
    fun stream seq x s hwf hv => ⟨exec_linkGiveup_none, linkGiveup_ends hwf hv⟩,
    fun l s hwf => ⟨exec_linkDiscard_idle, linkDiscard_discards hwf⟩⟩
  case press => exact unitInService_press us hu hw hc ha hda hd hr hn hf hp hz
  case zeroing => exact ⟨_, exec_zeroingDone hok, bit_setF_zero _ hwf.2 (by decide), setF_kept _ _ _ _ _, State.setF_frame ..⟩

end Sys2Proof.Machine
end

section
/-! The checks of UNIT_RESET, UNIT_FOLD, UNIT_UNFOLD and PSTATE_SET (R849 to R851), in the order of their table. -/

namespace Sys2Proof.Machine

section
variable {s : State} {c : Cmd}

/-- A Press of a folded die is not unfolded alone. -/
def State.unfoldable (s : State) (c : Cmd) : Prop := c.opcode = 0x0503 → 256 ≤ cmdUnit c ∨ s.dieFolded (cmdUnit c / 32) = false

/-- The checks, as the rows of R851 state them. -/
theorem powerCheck_eq (h : s.unfoldable c) : s.powerCheck c =
    if 2 ≤ c.par 0 1 ∨ c.par 4 12 ≠ 0 ∨ 4 < c.par 1 1 ∨ (c.par 1 1 ≠ 0 ∧ c.opcode ≠ 0x0504) then some stBadParam
    else if c.par 2 2 ≠ 0 ∧ c.par 2 2 ≠ s.wash (cmdUnit c) then some stStaleWash
    else if c.opcode ≠ 0x0503 ∧ s.unitFolded (cmdUnit c) = true then some stUnitFolded
    else if s.unitInReset (cmdUnit c) = true then some stUnitInReset
    else if (c.opcode = 0x0501 ∨ c.opcode = 0x0502) ∧ (cmdUnit c < 266 ∨ (268 ≤ cmdUnit c ∧ cmdUnit c < 280)) ∧ s.busyTempo = true ∧ c.par 0 1 = 0 then
      some stBusy
    else if c.opcode = 0x0504 ∧ c.par 1 1 = 4 ∧ ∃ p ∈ s.pstatePresses (cmdUnit c), s.allPaused p = false then some stBusy
    else if c.opcode = 0x0503 ∧ s.unitFolded (cmdUnit c) = false then some stBusy
    else if s.unitBusy (cmdUnit c) = true then some stBusy
    else none := by
  have params : (2 ≤ c.par 0 1 ∨ 4 < c.par 1 1 ∨ (c.par 1 1 ≠ 0 ∧ c.opcode ≠ 0x0504) ∨ (!c.parZero 4 12) = true) ↔
      (2 ≤ c.par 0 1 ∨ c.par 4 12 ≠ 0 ∨ 4 < c.par 1 1 ∨ (c.par 1 1 ≠ 0 ∧ c.opcode ≠ 0x0504)) := by
    simp only [Cmd.parZero, Bool.not_eq_true', beq_eq_false_iff_ne]
    tauto
  have alone : ¬(c.opcode = 0x0503 ∧ cmdUnit c < 256 ∧ s.dieFolded (unitDie (cmdUnit c)) = true) := by
    rintro ⟨hop, hu, hf⟩
    rw [unitDie, if_pos hu] at hf
    rcases h hop with h | h
    · omega
    · rw [hf] at h
      exact absurd h (by decide)
  have folded : ((c.opcode ≠ 0x0503 ∧ s.unitFolded (cmdUnit c) = true) ∨ (c.opcode = 0x0503 ∧ cmdUnit c < 256 ∧ s.dieFolded (unitDie (cmdUnit c)) = true)) ↔
      (c.opcode ≠ 0x0503 ∧ s.unitFolded (cmdUnit c) = true) := or_iff_left alone
  have paused : ((!(s.pstatePresses (cmdUnit c)).all s.allPaused) = true) ↔ ∃ p ∈ s.pstatePresses (cmdUnit c), s.allPaused p = false := by
    rw [Bool.not_eq_true', List.all_eq_false]
    simp
  have unfolded : ((!s.unitFolded (cmdUnit c)) = true) ↔ s.unitFolded (cmdUnit c) = false := by rw [Bool.not_eq_true']
  simp only [State.powerCheck, params, folded, paused, unfolded]

/-- The first row that holds gives the status. -/
theorem powerCheck_first {st : Nat} (h : s.unfoldable c) (hf : FirstOf (s.powerTable c) st) : s.powerCheck c = some st := by
  rw [powerCheck_eq h]
  simp only [State.powerTable, FirstOf, or_false, and_false] at hf
  rcases hf with ⟨h1, rfl⟩ | ⟨n1, ⟨h2, rfl⟩ | ⟨n2, ⟨h3, rfl⟩ | ⟨n3, ⟨h4, rfl⟩ | ⟨n4, ⟨h5, rfl⟩ | ⟨n5, ⟨h6, rfl⟩ | ⟨n6, ⟨h7, rfl⟩ | ⟨n7, h8, rfl⟩⟩⟩⟩⟩⟩⟩
  · exact if_pos h1
  · rw [if_neg n1, if_pos h2]
  · rw [if_neg n1, if_neg n2, if_pos h3]
  · rw [if_neg n1, if_neg n2, if_neg n3, if_pos h4]
  · rw [if_neg n1, if_neg n2, if_neg n3, if_neg n4, if_pos h5]
  · rw [if_neg n1, if_neg n2, if_neg n3, if_neg n4, if_neg n5, if_pos h6]
  · rw [if_neg n1, if_neg n2, if_neg n3, if_neg n4, if_neg n5, if_neg n6, if_pos h7]
  · rw [if_neg n1, if_neg n2, if_neg n3, if_neg n4, if_neg n5, if_neg n6, if_neg n7, if_pos h8]

/-- No row holds: the command goes on. -/
theorem powerCheck_none (h : s.unfoldable c) (hn : NoneOf (s.powerTable c)) : s.powerCheck c = none := by
  rw [powerCheck_eq h]
  simp only [NoneOf, State.powerTable, List.forall_mem_cons, List.not_mem_nil, false_implies, implies_true, and_true] at hn
  obtain ⟨n1, n2, n3, n4, n5, n6, n7, n8⟩ := hn
  rw [if_neg n1, if_neg n2, if_neg n3, if_neg n4, if_neg n5, if_neg n6, if_neg n7, if_neg n8]

theorem unfoldable_of_ne (h : c.opcode ≠ 0x0503) : s.unfoldable c := fun e => absurd e h

/-- A unit that is neither in reset nor folded, as the table has it. -/
theorem unitFolded_of_none (hop : c.opcode ≠ 0x0503) (hn : NoneOf (s.powerTable c)) : s.unitFolded (cmdUnit c) = false := by
  have row := hn (c.opcode ≠ 0x0503 ∧ s.unitFolded (cmdUnit c) = true, stUnitFolded) (by simp [State.powerTable])
  simpa [hop] using row

/-! ### The commands past their checks -/

theorem exec_unitReset (ha : s.Accepts c 0x0501) : exec (.unitReset c) s = .next (match s.powerCheck c with
    | some st => s.complete c st []
    | none => ((((s.quiesce (cmdUnit c) (c.par 0 1 == 1)).1.setJob (cmdUnit c) (some (s.quiesce (cmdUnit c) (c.par 0 1 == 1)).2)).wait
        (.unitReset (cmdUnit c)) c).assertReset (cmdUnit c))) := by
  show execUnitReset c s = _
  unfold execUnitReset
  refine congrArg Host.Outcome.next ((runCmd_of_accepts ha _).trans ?_)
  cases s.powerCheck c <;> rfl

/-- The unit is gone, folded, its Presses first (R836, R837, R839). -/
def State.foldUnit (s : State) (u : Nat) : State :=
  let t := (unitPresses u).foldl (fun s p => (s.losePress p stUnitFolded).orReg PWR_PFOLD [p / 32] (2 ^ (p % 32))) s
  if u < 256 then t
  else if u < 264 then (t.foldPort (unitDie u)).orReg PWR_DIE [] (2 ^ unitDie u)
  else ((((t.dropSeams 11).captureReset).loseE0 stUnitFolded).orReg PWR_DIE [] (2 ^ 11)).setF CLK_DIE [11] CLK_DIE.LOCKED 0

theorem exec_unitFold (us : BitVec 32) (ha : s.Accepts c 0x0502) : exec (.unitFold c us) s = .next (match s.powerCheck c with
    | some st => s.complete c st []
    | none => (((s.quiesce (cmdUnit c) (c.par 0 1 == 1)).1.foldUnit (cmdUnit c)).setLogged 10 RST_EVENT [] RST_EVENT.FOLD_DONE).complete c stOk
        (((s.quiesce (cmdUnit c) (c.par 0 1 == 1)).1.foldUnit (cmdUnit c)).unitResult (cmdUnit c) us.toNat (s.quiesce (cmdUnit c) (c.par 0 1 == 1)).2)) := by
  show execUnitFold c us s = _
  unfold execUnitFold
  refine congrArg Host.Outcome.next ((runCmd_of_accepts ha _).trans ?_)
  cases s.powerCheck c <;> rfl

/-- The unit is powered, in reset: its own fold bits clear, those of its Presses too (R838). -/
def State.unfoldUnit (s : State) (u : Nat) : State :=
  let t := (unitPresses u).foldl (fun s p => (s.clrBits PWR_PFOLD [p / 32] (2 ^ (p % 32))).orReg RST_PRESS [p / 32] (2 ^ (p % 32))) s
  let t := if u < 256 then t else t.clrBits PWR_DIE [] (2 ^ unitDie u)
  if u = 266 then t.orReg RST_DIE [] (2 ^ 11) else t

/-- A command waits for the unit to come back. -/
def State.awaitUnfold (s : State) (u : Nat) (c : Cmd) : State :=
  (({ s with pwr := { s.pwr with unfolding := s.pwr.unfolding ++ [u] } } : State).setJob u (some 0)).wait (.unfold u) c

theorem exec_unitUnfold (ha : s.Accepts c 0x0503) : exec (.unitUnfold c) s = .next (match s.powerCheck c with
    | some st => s.complete c st []
    | none => (s.unfoldUnit (cmdUnit c)).awaitUnfold (cmdUnit c) c) := by
  show execUnitUnfold c s = _
  unfold execUnitUnfold
  refine congrArg Host.Outcome.next ((runCmd_of_accepts ha _).trans ?_)
  cases s.powerCheck c <;> rfl

/-- The Presses of the unit idle (R835). -/
def State.idlePresses (s : State) (l : List Nat) : State := l.foldl (fun s p => s.orReg PWR_PIDLE [p / 32] (2 ^ (p % 32))) s

/-- The Presses take a P-state; the command waits while one of them waits for its rail (R842). -/
def State.takePstates (s : State) (l : List Nat) (u v us : Nat) (c : Cmd) : State :=
  let t := l.foldl (fun s p => s.takePstate p v) s
  if l.any (fun p => tget 0 t.pwr.rising p != 0) then t.wait (.pstate u) c else t.complete c stOk (t.unitResult u us 0)

theorem exec_pstateSet (us : BitVec 32) (ha : s.Accepts c 0x0504) : exec (.pstateSet c us) s = .next (match s.powerCheck c with
    | some st => s.complete c st []
    | none =>
      if c.par 1 1 = 4 then (s.idlePresses (s.pstatePresses (cmdUnit c))).complete c stOk (s.unitResult (cmdUnit c) us.toNat 0)
      else s.takePstates (s.pstatePresses (cmdUnit c)) (cmdUnit c) (c.par 1 1) us.toNat c) := by
  show execPstateSet c us s = _
  unfold execPstateSet
  refine congrArg Host.Outcome.next ((runCmd_of_accepts ha _).trans ?_)
  cases s.powerCheck c <;> rfl

/-- Each of the four commands completes with the first status of R851 that applies, and has no effect. -/
theorem power_refuses (us : BitVec 32) (st : Nat) (hf : FirstOf (s.powerTable c) st) :
    (s.Accepts c 0x0501 → exec (.unitReset c) s = .next (s.complete c st [])) ∧
    (s.Accepts c 0x0502 → exec (.unitFold c us) s = .next (s.complete c st [])) ∧
    (s.Accepts c 0x0503 → (256 ≤ cmdUnit c ∨ s.dieFolded (cmdUnit c / 32) = false) → exec (.unitUnfold c) s = .next (s.complete c st [])) ∧
    (s.Accepts c 0x0504 → exec (.pstateSet c us) s = .next (s.complete c st [])) := by
  refine ⟨fun ha => ?_, fun ha => ?_, fun ha h => ?_, fun ha => ?_⟩
  · rw [exec_unitReset ha, powerCheck_first (unfoldable_of_ne (by simp [ha.1])) hf]
  · rw [exec_unitFold us ha, powerCheck_first (unfoldable_of_ne (by simp [ha.1])) hf]
  · rw [exec_unitUnfold ha, powerCheck_first (fun _ => h) hf]
  · rw [exec_pstateSet us ha, powerCheck_first (unfoldable_of_ne (by simp [ha.1])) hf]

/-! ### UNIT_UNFOLD -/

/-- One Press is powered, in reset. -/
def State.unfoldPress (s : State) (p : Nat) : State := (s.clrBits PWR_PFOLD [p / 32] (2 ^ (p % 32))).orReg RST_PRESS [p / 32] (2 ^ (p % 32))

theorem unfoldPress_frame (p : Nat) : Frame [.regs] s (s.unfoldPress p) := (State.clrBits_frame ..).trans (State.orReg_frame ..)

theorem unfoldPress_kept (p : Nat) : RegsKept [PWR_PFOLD.addr [p / 32], RST_PRESS.addr [p / 32]] s (s.unfoldPress p) :=
  ((RegsKept.refl _ s).then (clrBits_kept _) (by simp)).then (orReg_kept _) (by simp)

theorem PFOLD_ne_PRESS {d e : Nat} (hd : d < 8) (he : e < 8) : PWR_PFOLD.addr [d] ≠ RST_PRESS.addr [e] := by
  rw [PWR_PFOLD_addr, RST_PRESS_addr]
  omega

theorem bits_unfoldPress {p i : Nat} (hp : p < 256) (hi : i < 32) (h : tok 0 s.regs = true) :
    bitOf ((s.unfoldPress p).reg PWR_PFOLD [p / 32]) i = (bitOf (s.reg PWR_PFOLD [p / 32]) i && !decide (p % 32 = i)) ∧
    bitOf ((s.unfoldPress p).reg RST_PRESS [p / 32]) i = (bitOf (s.reg RST_PRESS [p / 32]) i || decide (p % 32 = i)) := by
  have hd : p / 32 < 8 := by omega
  have htok : tok 0 (s.clrBits PWR_PFOLD [p / 32] (2 ^ (p % 32))).regs = true := (State.clrBits_frame ..).tok h
  have ne := PFOLD_ne_PRESS hd hd
  refine ⟨?_, ?_⟩
  · rw [State.unfoldPress, (orReg_kept _).reg_eq (by simpa using ne), bitOf_clrBits _ h (by omega)]
  · rw [State.unfoldPress, bitOf_orReg _ _ htok, (clrBits_kept _).reg_eq (by simpa using ne.symm), Nat.testBit_two_pow, decide_eq_true (by omega : i < 64),
      Bool.true_and]

theorem unfoldPresses_frame (l : List Nat) : Frame [.regs] s (l.foldl State.unfoldPress s) :=
  .foldl (fun _ p h => h.trans (unfoldPress_frame p)) _ _ (.refl _ s)

/-- The Presses of a die that are unfolded: their fold bits are clear and their reset bits set. -/
theorem bits_unfoldPresses {d i : Nat} (hd : d < 8) (hi : i < 32) : ∀ (l : List Nat) (s : State), tok 0 s.regs = true → (∀ p ∈ l, p / 32 = d) →
    bitOf ((l.foldl State.unfoldPress s).reg PWR_PFOLD [d]) i = (bitOf (s.reg PWR_PFOLD [d]) i && l.all (fun p => !decide (p % 32 = i))) ∧
    bitOf ((l.foldl State.unfoldPress s).reg RST_PRESS [d]) i = (bitOf (s.reg RST_PRESS [d]) i || l.any (fun p => decide (p % 32 = i)))
  | [], _, _, _ => by simp
  | p :: l, s, h, hl => by
    have hp : p / 32 = d := hl p (by simp)
    have one := bits_unfoldPress (p := p) (by omega) hi h
    rw [hp] at one
    obtain ⟨fold, reset⟩ := bits_unfoldPresses hd hi l (s.unfoldPress p) ((unfoldPress_frame p).tok h) fun q hq => hl q (by simp [hq])
    rw [List.foldl_cons, fold, reset, one.1, one.2, List.all_cons, List.any_cons, Bool.and_assoc, Bool.or_assoc]
    exact ⟨rfl, rfl⟩

theorem awaitUnfold_regs (u : Nat) : (s.awaitUnfold u c).regs = s.regs := rfl

theorem awaitUnfold_frame (u : Nat) : Frame [.front, .pwr] s (s.awaitUnfold u c) :=
  .via (State.wait_frame ..) (by decide) <| .via (State.setJob_frame ..) (by decide) <| Frame.set_pwr _ (by decide) (.refl _ s)

theorem awaitUnfold_waiters (u : Nat) : (s.awaitUnfold u c).waiters (.unfold u) = s.waiters (.unfold u) ++ [c] := waiters_wait ..

theorem awaitUnfold_unfolding (u : Nat) : u ∈ (s.awaitUnfold u c).pwr.unfolding := by
  have : (s.awaitUnfold u c).pwr.unfolding = s.pwr.unfolding ++ [u] := rfl
  rw [this]
  simp

theorem waiters_frame {l : List Part} {t : State} (h : Frame l s t) (hl : Part.front ∉ l) (w : WaitFor) : t.waiters w = s.waiters w :=
  waiters_congr (congrArg Front.waiting (h.1 .front hl)) w

theorem unitUnfold_press {u : Nat} (hu : u < 256) (h : tok 0 s.regs = true) :
    let t := (s.unfoldUnit u).awaitUnfold u c
    bitOf (t.reg PWR_PFOLD [u / 32]) (u % 32) = false ∧ bitOf (t.reg RST_PRESS [u / 32]) (u % 32) = true ∧
    t.waiters (.unfold u) = s.waiters (.unfold u) ++ [c] ∧ u ∈ t.pwr.unfolding ∧
    RegsKept [PWR_PFOLD.addr [u / 32], RST_PRESS.addr [u / 32]] s t ∧ Frame [.regs, .front, .pwr] s t := by
  intro t
  have one : s.unfoldUnit u = s.unfoldPress u := by
    simp only [State.unfoldUnit, unitPresses, hu, if_true, show u ≠ 266 by omega, if_false, List.foldl_cons, List.foldl_nil]
    rfl
  obtain ⟨fold, reset⟩ := bits_unfoldPress hu (Nat.mod_lt u (by decide) : u % 32 < 32) h
  have frame := unfoldPress_frame (s := s) u
  have kept : RegsOn (fun _ => True) (s.unfoldPress u) t := .of_regs_eq ((awaitUnfold_regs u).trans (by rw [one]))
  refine ⟨?_, ?_, ?_, awaitUnfold_unfolding u, (unfoldPress_kept u).trans fun a _ => kept a trivial, ?_⟩
  · rw [kept.reg_eq trivial, fold]; simp
  · rw [kept.reg_eq trivial, reset]; simp
  · rw [show t.waiters (.unfold u) = (s.unfoldUnit u).waiters (.unfold u) ++ [c] from awaitUnfold_waiters u, one, waiters_frame frame (by decide)]
  · exact .via (awaitUnfold_frame u) (by decide) (by rw [one]; exact frame.mono (by decide))

theorem PWR_DIE_addr : PWR_DIE.addr [] = 0x302000 := rfl

theorem unitUnfold_die {u : Nat} (h1 : 256 ≤ u) (h2 : u < 264) (h : tok 0 s.regs = true) :
    let t := (s.unfoldUnit u).awaitUnfold u c
    bitOf (t.reg PWR_DIE []) (u - 256) = false ∧
    (∀ k, k < 32 → bitOf (t.reg PWR_PFOLD [u - 256]) k = false ∧ bitOf (t.reg RST_PRESS [u - 256]) k = true) ∧
    t.waiters (.unfold u) = s.waiters (.unfold u) ++ [c] ∧ Frame [.regs, .front, .pwr] s t := by
  intro t
  have hd : u - 256 < 8 := by omega
  have hu : u = 256 + (u - 256) := by omega
  have die : unitDie u = u - 256 := by simp [unitDie, h2, Nat.not_lt.mpr h1]
  have all : s.unfoldUnit u = ((unitPresses u).foldl State.unfoldPress s).clrBits PWR_DIE [] (2 ^ (u - 256)) := by
    simp only [State.unfoldUnit, Nat.not_lt.mpr h1, show u ≠ 266 by omega, if_false, die]
    rfl
  have frame := unfoldPresses_frame (s := s) (unitPresses u)
  have mem : ∀ p, p ∈ unitPresses u ↔ ∃ k, k < 32 ∧ p = 32 * (u - 256) + k := fun p => by
    have := mem_unitPresses_die (p := p) hd
    rwa [← hu] at this
  have bits := fun i hi => bits_unfoldPresses (i := i) hd hi (unitPresses u) s h fun p hp => by
    obtain ⟨k, hk, rfl⟩ := (mem p).mp hp
    omega
  generalize (unitPresses u).foldl State.unfoldPress s = a at all frame bits
  have kept : RegsOn (fun _ => True) (a.clrBits PWR_DIE [] (2 ^ (u - 256))) t := .of_regs_eq ((awaitUnfold_regs u).trans (by rw [all]))
  have clr : RegsOn (fun x => x ≠ 0x302000) a (a.clrBits PWR_DIE [] (2 ^ (u - 256))) := (clrBits_kept _).on fun x hx hn => hn (List.mem_singleton.mp hx)
  have frame' : Frame [.regs] s (s.unfoldUnit u) := by rw [all]; exact frame.trans (State.clrBits_frame ..)
  refine ⟨?_, fun k hk => ⟨?_, ?_⟩, ?_, .via (awaitUnfold_frame u) (by decide) (frame'.mono (by decide))⟩
  · rw [kept.reg_eq trivial, bitOf_clrBits _ (frame.tok h) (by omega)]; simp
  · have : (unitPresses u).all (fun p => !decide (p % 32 = k)) = false :=
      List.all_eq_false.mpr ⟨32 * (u - 256) + k, (mem _).mpr ⟨k, hk, rfl⟩, by simp; omega⟩
    rw [kept.reg_eq trivial, clr.reg_eq (by rw [PWR_PFOLD_addr]; omega), (bits k hk).1, this, Bool.and_false]
  · have : (unitPresses u).any (fun p => decide (p % 32 = k)) = true :=
      List.any_eq_true.mpr ⟨32 * (u - 256) + k, (mem _).mpr ⟨k, hk, rfl⟩, by simp; omega⟩
    rw [kept.reg_eq trivial, clr.reg_eq (by rw [RST_PRESS_addr]; omega), (bits k hk).2, this, Bool.or_true]
  · rw [show t.waiters (.unfold u) = (s.unfoldUnit u).waiters (.unfold u) ++ [c] from awaitUnfold_waiters u, waiters_frame frame' (by decide)]

theorem unitUnfold_e0 (h : tok 0 s.regs = true) :
    let t := (s.unfoldUnit 266).awaitUnfold 266 c
    bitOf (t.reg PWR_DIE []) 11 = false ∧ bitOf (t.reg RST_DIE []) 11 = true ∧
    t.waiters (.unfold 266) = s.waiters (.unfold 266) ++ [c] ∧ Frame [.regs, .front, .pwr] s t := by
  intro t
  have all : s.unfoldUnit 266 = (s.clrBits PWR_DIE [] (2 ^ 11)).orReg RST_DIE [] (2 ^ 11) := rfl
  have kept : RegsOn (fun _ => True) ((s.clrBits PWR_DIE [] (2 ^ 11)).orReg RST_DIE [] (2 ^ 11)) t := .of_regs_eq (awaitUnfold_regs 266)
  have htok : tok 0 (s.clrBits PWR_DIE [] (2 ^ 11)).regs = true := (State.clrBits_frame ..).tok h
  have frame : Frame [.regs] s (s.unfoldUnit 266) := (State.clrBits_frame s PWR_DIE [] (2 ^ 11)).trans (State.orReg_frame ..)
  refine ⟨?_, ?_, ?_, .via (awaitUnfold_frame 266) (by decide) (frame.mono (by decide))⟩
  · rw [kept.reg_eq trivial, (orReg_kept _).reg_eq (by decide), bitOf_clrBits _ h (by decide)]; simp
  · rw [kept.reg_eq trivial]
    exact bitOf_orReg_bit htok (by decide)
  · rw [show t.waiters (.unfold 266) = (s.unfoldUnit 266).waiters (.unfold 266) ++ [c] from awaitUnfold_waiters 266, waiters_frame frame (by decide)]

end

end Sys2Proof.Machine
end

section
/-! PSTATE_SET (R835, R842, R850): the Presses idle, or take a P-state at once or when their rail has risen. -/

namespace Sys2Proof.Machine

section
variable {s : State} {c : Cmd} {u v : Nat}

theorem PWR_PIDLE_addr (d : Nat) : PWR_PIDLE.addr [d] = 0x302030 + 4 * d := by simp [Reg.addr, PWR_PIDLE, dimOff]; omega

/-! ### Presses that idle -/

theorem idlePresses_frame (l : List Nat) : Frame [.regs] s (s.idlePresses l) :=
  .foldl (fun _ _ h => h.trans (State.orReg_frame ..)) _ _ (.refl _ s)

theorem idlePresses_kept {d : Nat} (l : List Nat) (hl : ∀ p ∈ l, p / 32 = d) : RegsKept [PWR_PIDLE.addr [d]] s (s.idlePresses l) :=
  .foldl l (fun t p hp => by
    have := orReg_kept (s := t) (r := PWR_PIDLE) (ix := [p / 32]) (2 ^ (p % 32))
    rwa [hl p hp] at this ⊢) s

theorem bitOf_idlePresses {d i : Nat} (hi : i < 64) : ∀ (l : List Nat) (s : State), tok 0 s.regs = true → (∀ p ∈ l, p / 32 = d) →
    bitOf ((s.idlePresses l).reg PWR_PIDLE [d]) i = (bitOf (s.reg PWR_PIDLE [d]) i || l.any (fun p => decide (p % 32 = i)))
  | [], _, _, _ => by simp [State.idlePresses]
  | p :: l, s, h, hl => by
    have hp : p / 32 = d := hl p (by simp)
    have one : bitOf ((s.orReg PWR_PIDLE [p / 32] (2 ^ (p % 32))).reg PWR_PIDLE [d]) i = (bitOf (s.reg PWR_PIDLE [d]) i || decide (p % 32 = i)) := by
      rw [hp, bitOf_orReg _ _ h, Nat.testBit_two_pow, decide_eq_true hi, Bool.true_and]
    have rest := bitOf_idlePresses hi l (s.orReg PWR_PIDLE [p / 32] (2 ^ (p % 32))) ((State.orReg_frame ..).tok h) fun q hq => hl q (by simp [hq])
    rw [one, Bool.or_assoc] at rest
    rw [List.any_cons]
    exact rest

theorem unitPresses_die {p : Nat} (hu : u < 264) (hp : p ∈ unitPresses u) : p / 32 = unitDie u := by
  by_cases h : u < 256
  · rw [unitPresses, if_pos h, List.mem_singleton] at hp
    rw [unitDie, if_pos h, hp]
  · rw [unitPresses, if_neg h, if_pos hu] at hp
    obtain ⟨k, hk, rfl⟩ := List.mem_map.mp hp
    have := List.mem_range.mp hk
    rw [unitDie, if_neg h, if_pos hu]
    omega

theorem pstateSet_idles (us : BitVec 32) (hw : s.wf) (ha : s.Accepts c 0x0504) (hn : NoneOf (s.powerTable c)) (hu : cmdUnit c < 264) (hv : c.par 1 1 = 4) :
    ∃ w : State, (∀ p ∈ s.pstatePresses (cmdUnit c), bitOf (w.reg PWR_PIDLE [p / 32]) (p % 32) = true) ∧
      RegsKept [PWR_PIDLE.addr [unitDie (cmdUnit c)]] s w ∧ Frame [.regs] s w ∧ exec (.pstateSet c us) s = .next (w.complete c stOk
        (leBytes 2 (s.wash (cmdUnit c)) ++ leBytes 4 us.toNat ++ leBytes 2 0)) := by
  have die : ∀ p ∈ s.pstatePresses (cmdUnit c), p / 32 = unitDie (cmdUnit c) := fun p hp => unitPresses_die hu (List.mem_of_mem_filter hp)
  refine ⟨s.idlePresses (s.pstatePresses (cmdUnit c)), fun p hp => ?_, idlePresses_kept _ die, idlePresses_frame _, ?_⟩
  · have any : (s.pstatePresses (cmdUnit c)).any (fun q => decide (q % 32 = p % 32)) = true := List.any_eq_true.mpr ⟨p, hp, by simp⟩
    rw [die p hp, bitOf_idlePresses (by omega) _ s hw.2 die, any, Bool.or_true]
  · rw [exec_pstateSet us ha, powerCheck_none (unfoldable_of_ne (by simp [ha.1])) hn]
    exact congrArg Host.Outcome.next (if_pos hv)

/-! ### A P-state for one Press -/

theorem PIDLE_on (p : Nat) (hp : p < 256) : RegsOn (fun a => a < 0x302030 ∨ 0x302050 ≤ a) s (s.clrBits PWR_PIDLE [p / 32] (2 ^ (p % 32))) :=
  (clrBits_kept _).on fun a ha hQ => by
    rw [List.mem_singleton.mp ha, PWR_PIDLE_addr] at hQ
    omega

/-- The Press is awake, and its wish for a P-state is `n` (0 for none). -/
def State.wishPstate (s : State) (p n : Nat) : State :=
  let t := s.clrBits PWR_PIDLE [p / 32] (2 ^ (p % 32))
  { t with pwr := { t.pwr with rising := tput 0 t.pwr.rising p n } }

theorem takePstate_eq (p : Nat) (hp : p < 256) : s.takePstate p v =
    if v < s.pstate p then (s.wishPstate p (v + 1)).newTarget (p / 32)
    else if v = s.pstate p then s.wishPstate p 0
    else ((s.wishPstate p 0).setPstate p v).newTarget (p / 32) := by
  have same : (s.clrBits PWR_PIDLE [p / 32] (2 ^ (p % 32))).pstate p = s.pstate p := (PIDLE_on p hp).pstate_eq (by rw [PWR_PSTATE_addr]; omega)
  rw [← same]
  rfl

theorem wishPstate_frame (p n : Nat) : Frame [.regs, .pwr] s (s.wishPstate p n) :=
  Frame.set_pwr _ (by decide) ((State.clrBits_frame ..).mono (by decide))

theorem wishPstate_spec {p n : Nat} (hp : p < 256) (h : tok 0 s.regs = true) (hr : tok 0 s.pwr.rising = true) :
    bitOf ((s.wishPstate p n).reg PWR_PIDLE [p / 32]) (p % 32) = false ∧ tget 0 (s.wishPstate p n).pwr.rising p = n ∧
    RegsOn (fun a => a < 0x302030 ∨ 0x302050 ≤ a) s (s.wishPstate p n) := by
  refine ⟨?_, tget_tput_same 0 p n hr, RegsOn.trans (PIDLE_on p hp) (.of_regs_eq rfl)⟩
  have : bitOf ((s.clrBits PWR_PIDLE [p / 32] (2 ^ (p % 32))).reg PWR_PIDLE [p / 32]) (p % 32) = false := by simp [bitOf_clrBits _ h (by omega : p % 32 < 64)]
  exact this

theorem newTarget_frame (d : Nat) : Frame [.regs, .free] s (s.newTarget d) := State.newTarget_frame ..

theorem newTarget_kept (d : Nat) : RegsKept [PWR_RAIL.addr [d]] s (s.newTarget d) :=
  (setF_kept s _ _ _ _).trans (RegsKept.of_regs_eq (s := s.setF PWR_RAIL [d] PWR_RAIL.TARGET_MV (550 + s.freeNat 32 % 251)) rfl)

theorem newTarget_on {d : Nat} (hd : d < 8) : RegsOn (fun a => a < 0x302090) s (s.newTarget d) := (newTarget_kept d).on fun a ha hQ => by
  rw [List.mem_singleton.mp ha, PWR_RAIL_addr] at hQ
  omega

/-- A rail's target lies within its range (R963). -/
theorem newTarget_range {d : Nat} (h : tok 0 s.regs = true) : 550 ≤ (s.newTarget d).getF PWR_RAIL [d] PWR_RAIL.TARGET_MV ∧
    (s.newTarget d).getF PWR_RAIL [d] PWR_RAIL.TARGET_MV ≤ 800 := by
  have target : (s.newTarget d).getF PWR_RAIL [d] PWR_RAIL.TARGET_MV = (550 + s.freeNat 32 % 251) % 2 ^ 10 := getF_setF_same s _ _ _ _ h (by decide)
  rw [target]
  omega

/-- A step to a higher rate waits for the rail (R842). -/
theorem takePstate_rises {p : Nat} (hp : p < 256) (h : tok 0 s.regs = true) (hr : tok 0 s.pwr.rising = true) (hv : v < s.pstate p) :
    (s.takePstate p v).pstate p = s.pstate p ∧ tget 0 (s.takePstate p v).pwr.rising p = v + 1 ∧
    bitOf ((s.takePstate p v).reg PWR_PIDLE [p / 32]) (p % 32) = false ∧ 550 ≤ (s.takePstate p v).getF PWR_RAIL [p / 32] PWR_RAIL.TARGET_MV ∧
    (s.takePstate p v).getF PWR_RAIL [p / 32] PWR_RAIL.TARGET_MV ≤ 800 ∧ Frame [.regs, .pwr, .free] s (s.takePstate p v) := by
  have hd : p / 32 < 8 := by omega
  rw [takePstate_eq p hp, if_pos hv]
  obtain ⟨idle, rising, kept⟩ := wishPstate_spec (n := v + 1) hp h hr
  have frame := wishPstate_frame (s := s) p (v + 1)
  generalize s.wishPstate p (v + 1) = a at idle rising kept frame
  have pwr : (a.newTarget (p / 32)).pwr = a.pwr := (newTarget_frame _).1 .pwr (by decide)
  obtain ⟨low, high⟩ := newTarget_range (d := p / 32) (frame.tok h)
  refine ⟨?_, by rw [pwr, rising], ?_, low, high, .via (newTarget_frame _) (by decide) (frame.mono (by decide))⟩
  · rw [(newTarget_on hd).pstate_eq (by rw [PWR_PSTATE_addr]; omega), kept.pstate_eq (by rw [PWR_PSTATE_addr]; omega)]
  · rw [(newTarget_on hd).reg_eq (by rw [PWR_PIDLE_addr]; omega), idle]

/-- The same rate or a lower one takes effect at once (R842). -/
theorem takePstate_lowers {p : Nat} (hp : p < 256) (h : tok 0 s.regs = true) (hr : tok 0 s.pwr.rising = true) (hv : s.pstate p ≤ v) (h4 : v < 4) :
    (s.takePstate p v).pstate p = v ∧ bitOf ((s.takePstate p v).reg PWR_PIDLE [p / 32]) (p % 32) = false ∧
    tget 0 (s.takePstate p v).pwr.rising p = 0 ∧ (∀ q, q < 256 → q ≠ p → (s.takePstate p v).pstate q = s.pstate q) ∧
    (s.pstate p = v → (s.takePstate p v).reg PWR_RAIL [p / 32] = s.reg PWR_RAIL [p / 32]) ∧
    RegsOn (fun a => 0x303400 ≤ a) s (s.takePstate p v) ∧ Frame [.regs, .pwr, .free] s (s.takePstate p v) := by
  have hd : p / 32 < 8 := by omega
  rw [takePstate_eq p hp, if_neg (Nat.not_lt.mpr hv)]
  obtain ⟨idle, rising, kept⟩ := wishPstate_spec (n := 0) hp h hr
  have frame := wishPstate_frame (s := s) p 0
  generalize s.wishPstate p 0 = a at idle rising kept frame
  have pstateA : ∀ q, q < 256 → a.pstate q = s.pstate q := fun q hq => kept.pstate_eq (by rw [PWR_PSTATE_addr]; omega)
  by_cases he : v = s.pstate p
  · rw [if_pos he]
    exact ⟨(pstateA p hp).trans he.symm, idle, rising, fun q hq _ => pstateA q hq, fun _ => kept.reg_eq (by rw [PWR_RAIL_addr]; omega),
      kept.mono fun a ha => .inr (by omega), frame.mono (by decide)⟩
  · rw [if_neg he]
    have same := pstate_setPstate_same (p := p) v (frame.tok h)
    have others := fun q (hq : q ≠ p) => pstate_setPstate_ne (p := p) (q := q) v (frame.tok h) hq
    have keptB : RegsOn (fun a => a < 0x302050 ∨ 0x303400 ≤ a) a (a.setPstate p v) := (setPstate_kept v).on fun x hx hQ => by
      rw [List.mem_singleton.mp hx, PWR_PSTATE_addr] at hQ
      omega
    have frameB : Frame [.regs] a (a.setPstate p v) := State.setPstate_frame ..
    generalize a.setPstate p v = b at same others keptB frameB
    have pwr : (b.newTarget (p / 32)).pwr = a.pwr := ((newTarget_frame _).1 .pwr (by decide)).trans (frameB.1 .pwr (by decide))
    have keptC : RegsOn (fun x => x < 0x302090 ∨ 0x303400 ≤ x) b (b.newTarget (p / 32)) := (newTarget_kept _).on fun x hx hQ => by
      rw [List.mem_singleton.mp hx, PWR_RAIL_addr] at hQ
      omega
    have pstateC : ∀ q, q < 256 → (b.newTarget (p / 32)).pstate q = b.pstate q := fun q hq => keptC.pstate_eq (by rw [PWR_PSTATE_addr]; omega)
    refine ⟨?_, ?_, by rw [pwr, rising], fun q hq hne => ?_, fun e => absurd e.symm he, ?_, ?_⟩
    · rw [pstateC p hp, same, Nat.mod_eq_of_lt h4]
    · rw [keptC.reg_eq (by rw [PWR_PIDLE_addr]; omega), keptB.reg_eq (by rw [PWR_PIDLE_addr]; omega), idle]
    · rw [pstateC q hq, others q hne, pstateA q hq]
    · exact (kept.mono fun x hx => .inr (by omega)).trans ((keptB.mono fun x hx => .inr hx).trans (keptC.mono fun x hx => .inr hx))
    · exact .via (newTarget_frame _) (by decide) <| .via frameB (by decide) (frame.mono (by decide))

/-! ### The command -/

theorem pstatePresses_one (hu : u < 256) (hf : s.unitFolded u = false) : s.pstatePresses u = [u] := by
  rw [State.unitFolded, if_pos hu] at hf
  simp [State.pstatePresses, unitPresses, hu, hf]

theorem exec_pstateSet_one (us : BitVec 32) (ha : s.Accepts c 0x0504) (hn : NoneOf (s.powerTable c)) (hu : cmdUnit c < 256) (hv : c.par 1 1 < 4) :
    exec (.pstateSet c us) s = .next (
      if tget 0 (s.takePstate (cmdUnit c) (c.par 1 1)).pwr.rising (cmdUnit c) = 0 then
        (s.takePstate (cmdUnit c) (c.par 1 1)).complete c stOk ((s.takePstate (cmdUnit c) (c.par 1 1)).unitResult (cmdUnit c) us.toNat 0)
      else (s.takePstate (cmdUnit c) (c.par 1 1)).wait (.pstate (cmdUnit c)) c) := by
  have hop : c.opcode ≠ 0x0503 := by simp [ha.1]
  rw [exec_pstateSet us ha, powerCheck_none (unfoldable_of_ne hop) hn]
  refine congrArg Host.Outcome.next ((if_neg (by omega)).trans ?_)
  rw [pstatePresses_one hu (unitFolded_of_none hop hn), State.takePstates, List.foldl_cons, List.foldl_nil]
  generalize s.takePstate (cmdUnit c) (c.par 1 1) = a
  by_cases h : tget 0 a.pwr.rising (cmdUnit c) = 0 <;> simp [h]

theorem pstateSet_lowers (us : BitVec 32) (hw : s.UnitWf) (ha : s.Accepts c 0x0504) (hn : NoneOf (s.powerTable c)) (hu : cmdUnit c < 256)
    (hv : c.par 1 1 < 4) (hp : s.pstate (cmdUnit c) ≤ c.par 1 1) :
    ∃ w : State, w.pstate (cmdUnit c) = c.par 1 1 ∧ bitOf (w.reg PWR_PIDLE [cmdUnit c / 32]) (cmdUnit c % 32) = false ∧
      tget 0 w.pwr.rising (cmdUnit c) = 0 ∧ (∀ p, p < 256 → p ≠ cmdUnit c → w.pstate p = s.pstate p) ∧
      (s.pstate (cmdUnit c) = c.par 1 1 → w.reg PWR_RAIL [cmdUnit c / 32] = s.reg PWR_RAIL [cmdUnit c / 32]) ∧ Frame [.regs, .pwr, .free] s w ∧
      exec (.pstateSet c us) s = .next (w.complete c stOk (leBytes 2 (s.wash (cmdUnit c)) ++ leBytes 4 us.toNat ++ leBytes 2 0)) := by
  obtain ⟨⟨-, hregs⟩, -, -, -, -, hrising, -⟩ := hw
  obtain ⟨now, idle, rising, others, rail, kept, frame⟩ := takePstate_lowers hu hregs hrising hp hv
  refine ⟨_, now, idle, rising, others, rail, frame, ?_⟩
  rw [exec_pstateSet_one us ha hn hu hv, if_pos rising, unitResult_congr kept (by rw [AON_WASH_addr]; omega)]
  rfl

theorem pstateSet_rises (us : BitVec 32) (hw : s.UnitWf) (ha : s.Accepts c 0x0504) (hn : NoneOf (s.powerTable c)) (hu : cmdUnit c < 256)
    (hp : c.par 1 1 < s.pstate (cmdUnit c)) : Completes (exec (.pstateSet c us) s) (fun t =>
      t.pstate (cmdUnit c) = s.pstate (cmdUnit c) ∧ tget 0 t.pwr.rising (cmdUnit c) = c.par 1 1 + 1 ∧
      bitOf (t.reg PWR_PIDLE [cmdUnit c / 32]) (cmdUnit c % 32) = false ∧ 550 ≤ t.getF PWR_RAIL [cmdUnit c / 32] PWR_RAIL.TARGET_MV ∧
      t.getF PWR_RAIL [cmdUnit c / 32] PWR_RAIL.TARGET_MV ≤ 800 ∧ t.waiters (.pstate (cmdUnit c)) = s.waiters (.pstate (cmdUnit c)) ++ [c] ∧
      Frame [.regs, .front, .pwr, .free] s t) := by
  obtain ⟨⟨-, hregs⟩, -, -, -, -, hrising, -⟩ := hw
  have hv : c.par 1 1 < 4 := by
    have : s.pstate (cmdUnit c) < 4 := getF_lt ..
    omega
  obtain ⟨now, rising, idle, low, high, frame⟩ := takePstate_rises hu hregs hrising hp
  rw [exec_pstateSet_one us ha hn hu hv, if_neg (by rw [rising]; omega)]
  generalize s.takePstate (cmdUnit c) (c.par 1 1) = a at *
  refine ⟨_, rfl, now, rising, idle, low, high, ?_, .via (State.wait_frame ..) (by decide) (frame.mono (by decide))⟩
  rw [waiters_wait, waiters_frame frame (by decide)]

end

end Sys2Proof.Machine
end

section
/-! What the loss of a unit leaves of the registers that say which units are away (R24, R816, R826): the reset and fold bits, the root PLLs and the
wash counts belong to no domain that a unit's reset returns. -/

namespace Sys2Proof.Machine

/-! ### Registers that return to their reset values -/

theorem tget_tclear {α : Type} (d : α) (p : Nat → Bool) (i : Nat) : ∀ t : Table α, tget d (tclear p t) i = if p i = true then d else tget d t i
  | [] => by simp [tclear, tget]
  | (k, v) :: t => by
    have ih := tget_tclear d p i t
    by_cases hk : p k = true
    · rw [tclear, if_pos hk, ih, tget]
      by_cases hki : k = i
      · simp [← hki, hk]
      · rw [if_neg hki]
    · rw [tclear, if_neg hk, tget, tget, ih]
      by_cases hki : k = i
      · simp [← hki, hk]
      · rw [if_neg hki, if_neg hki]

theorem dimIx_lt {n : Nat} {ix : List Nat} : ∀ {ds : List (Nat × Nat)}, ds.all (fun x => decide (0 < x.2)) = true → dimIx ds n = some ix → n < dimSpan ds
  | [], _, h => by
    rw [dimIx] at h
    split at h
    · rename_i h0
      rw [h0]
      exact Nat.one_pos
    · exact absurd h (by simp)
  | (c, st) :: ds, hst, h => by
    rw [dimIx] at h
    split at h
    · rename_i hlt
      have pos : 0 < st := by simpa using (List.all_eq_true.mp hst (c, st) (by simp))
      exact (Nat.div_lt_iff_lt_mul pos).mp hlt
    · exact absurd h (by simp)

theorem at?_of_regAt {a : Nat} {r : Reg} {ix : List Nat} (h : regAt a = some (r, ix)) : r.at? a = some ix := by
  obtain ⟨q, -, he⟩ := List.exists_of_findSome?_eq_some h
  obtain ⟨jx, hj, e⟩ := Option.map_eq_some_iff.mp he
  obtain ⟨rfl, rfl⟩ := Prod.mk.inj e
  exact hj

theorem dieWin_press_ge {d : Nat} (h : d < 10) : 0x800000 ≤ dieWin d := by
  unfold dieWin
  split_ifs <;> omega

/-- No register that a reset of a unit, a die or C0 returns lies in the clock, reset and power block. -/
theorem volatile_not_inPower {a : Nat} {r : Reg} {ix : List Nat} (h : regAt a = some (r, ix)) (hv : r.volatile = true) : ¬inPower a := by
  obtain ⟨-, outside, -⟩ := regFile_spec
  have out := outside r (regAt_mem h) hv
  have at_ := at?_of_regAt h
  rintro ⟨low, high⟩
  rw [Reg.outside, Bool.and_eq_true] at out
  obtain ⟨strides, place⟩ := out
  unfold Reg.at? at at_
  split at at_
  · rename_i hd
    simp only [hd, Bool.or_eq_true, decide_eq_true_eq] at place
    split at at_
    · have := dimIx_lt strides at_
      omega
    · exact absurd at_ (by simp)
  · rename_i lo hi hd
    obtain ⟨j, hj, hat⟩ := List.exists_of_findSome?_eq_some at_
    rw [List.mem_range] at hj
    simp only [hd, Bool.or_eq_true, decide_eq_true_eq, Option.all_some] at place
    simp only at hat
    split at hat
    · rename_i hb
      rcases place with place | place
      · have := dieWin_ge (lo + j)
        omega
      · have := dieWin_press_ge (d := lo + j) (by omega)
        omega
    · exact absurd hat (by simp)

section
variable {s t : State}

theorem clearRegs_power (p : Reg → List Nat → Bool) (hp : ∀ r ix, p r ix = true → r.volatile = true) : RegsOn inPower s (s.clearRegs p) := fun a ha => by
  rw [State.clearRegs, tget_tclear]
  refine if_neg fun hc => ?_
  split at hc
  · rename_i x hx
    exact volatile_not_inPower hx (hp _ _ hc) ha
  · exact absurd hc (by decide)

/-- A register that is cleared reads as its reset value. -/
theorem reg_clearRegs {p : Reg → List Nat → Bool} {r : Reg} {ix : List Nat} (ha : regAt (r.addr ix) = some (r, ix)) (hp : p r ix = true) :
    (s.clearRegs p).reg r ix = r.resetAt ix := by
  have zero : tget 0 (s.clearRegs p).regs (r.addr ix) = 0 := by
    rw [State.clearRegs, tget_tclear]
    exact if_pos (by simp only [ha, hp])
  rw [State.reg, zero]
  exact BitVec.zero_xor

theorem inUnit_volatile {u : Nat} {r : Reg} {ix : List Nat} (h : inUnit u r ix = true) : r.volatile = true := by
  simp only [inUnit, Bool.and_eq_true] at h
  simp [Reg.volatile, h.1]

theorem inDie_volatile {d : Nat} {r : Reg} {ix : List Nat} (h : inDie d r ix = true) : r.volatile = true := by
  simp only [inDie, Bool.or_eq_true, Bool.and_eq_true] at h
  rcases h with ⟨h, -⟩ | ⟨h, -⟩ <;> simp [Reg.volatile, h]

/-! ### The registers that say which units are away -/

/-- The offsets of the root PLLs, of the reset and fold bits, and of the wash counts. -/
def inUnitRegs (a : Nat) : Prop := (0x300040 ≤ a ∧ a < 0x301040) ∨ (0x302000 ≤ a ∧ a < 0x302030) ∨ (0x303400 ≤ a ∧ a < 0x303860)

theorem RegsOn.unitRegs (h : RegsOn inPower s t) : RegsOn inUnitRegs s t := h.mono fun a ha => by
  unfold inUnitRegs at ha
  unfold inPower
  omega

theorem RegsKept.unitRegs {as : List Nat} (h : RegsKept as s t) (hq : ∀ a ∈ as, ¬inUnitRegs a) : RegsOn inUnitRegs s t := h.on hq

/-- One more operation after a run of them. -/
theorem RegsOn.via {Q : Nat → Prop} {u : State} (h : RegsOn Q t u) (k : RegsOn Q s t) : RegsOn Q s u := k.trans h

/-- An operation that changes no register. -/
theorem Frame.regsOn {l : List Part} {Q : Nat → Prop} (h : Frame l s t) (hl : Part.regs ∉ l) : RegsOn Q s t := .of_regs_eq (h.1 .regs hl)

theorem noteEnded_unitRegs (stream d reason : Nat) : RegsOn inUnitRegs s (s.noteEnded stream d reason) := by
  have two : RegsKept [RST_ENDED.addr [], RST_EVENT.addr []] s (s.recordEnded stream d reason).countEnded :=
    (((RegsKept.refl _ s).then (recordEnded_kept stream d reason) (by simp)).incF (by simp)).setLogged (by simp)
  have apart : ∀ a ∈ [RST_ENDED.addr [], RST_EVENT.addr []], ¬inUnitRegs a := by
    intro a ha
    simp only [List.mem_cons, List.not_mem_nil, or_false] at ha
    unfold inUnitRegs
    rcases ha with rfl | rfl <;> decide
  rw [noteEnded_eq]
  split
  · exact (two.unitRegs apart).trans ((State.fermataRequest_frame _).regsOn (by decide))
  · exact two.unitRegs apart

/-- The streams with a descriptor that satisfies `test`, each once, with the die of their first. -/
def endedStreams (l : List Desc) (test : Desc → Bool) : List (Nat × Nat) :=
  (l.filter test).foldl (fun l d => if l.any (fun x => x.1 == d.stream) then l else l ++ [(d.stream, d.die)]) []

/-- One stream ends and is noted. -/
def State.endNoted (s : State) (reason : Nat) (x : Nat × Nat) : State := (s.endStream x.1 stPeerReset).noteEnded x.1 x.2 reason

theorem endStreams_eq (test : Desc → Bool) (reason : Nat) :
    (s.endStreams test reason).1 = (endedStreams s.score.desc test).foldl (fun s x => s.endNoted reason x) s := rfl

theorem endStreams_unitRegs (test : Desc → Bool) (reason : Nat) : RegsOn inUnitRegs s (s.endStreams test reason).1 := by
  rw [endStreams_eq]
  exact .foldl _ (fun _ _ _ => (endStream_power _ _).unitRegs.trans (noteEnded_unitRegs _ _ _)) s

theorem endUnitStreams_unitRegs (u : Nat) : RegsOn inUnitRegs s (s.endUnitStreams u).1 := by
  unfold State.endUnitStreams
  split_ifs
  · exact endStreams_unitRegs _ _
  · exact endStreams_unitRegs _ _
  · exact endStreams_unitRegs _ _
  · exact .refl _ s

/-- The first three steps of R823, before the streams end. -/
def State.fenceUnit (s : State) (u : Nat) (force : Bool) : State :=
  let s := if force && s.busyTempo && (decide (u < 266) || (decide (268 ≤ u) && decide (u < 280))) then s.fermataRequest else s
  if 256 ≤ u ∧ u < 264 then s.fenceNow (u - 256) else s

theorem quiesce_eq (u : Nat) (force : Bool) : s.quiesce u force = (s.fenceUnit u force).endUnitStreams u := rfl

theorem fenceUnit_frame (u : Nat) (force : Bool) : Frame [.mem, .tempo, .ports] s (s.fenceUnit u force) :=
  .ite (fun _ => .via (State.fenceNow_frame ..) (by decide) (.ite (fun _ => (State.fermataRequest_frame ..).mono (by decide)) fun _ => .refl _ s))
    fun _ => .ite (fun _ => (State.fermataRequest_frame ..).mono (by decide)) fun _ => .refl _ s

theorem quiesce_unitRegs (u : Nat) (force : Bool) : RegsOn inUnitRegs s (s.quiesce u force).1 := by
  rw [quiesce_eq]
  exact RegsOn.trans (t := s.fenceUnit u force) ((fenceUnit_frame u force).regsOn (by decide)) (endUnitStreams_unitRegs u)

/-! ### Presses -/

theorem sendTack_regs (k : Tack) (hk : k.sect = none) : (s.sendTack k).regs = s.regs ∧ (s.sendTack k).sects = s.sects := by
  have inj : ∀ t : State, t.injected k = t := fun t => by rw [State.injected, hk]
  unfold State.sendTack
  simp only [inj]
  split <;> exact ⟨rfl, rfl⟩

theorem buildTack_spec (d : Nat) (bs : List Byte) (token : Option Nat) :
    RegsOn inPower s (s.buildTack d bs token none) ∧ (s.buildTack d bs token none).sects = s.sects := by
  unfold State.buildTack
  extract_lets k s'
  have count : RegsOn inPower s s' ∧ s'.sects = s.sects := by
    simp only [s']
    split
    · exact ⟨(setF_kept s _ _ _ _).power_one (r := TCK_SENT) (d := d) (ix := []) (by decide), rfl⟩
    · exact ⟨.refl _ s, rfl⟩
  obtain ⟨hregs, hsects⟩ := sendTack_regs (s := s') k rfl
  exact ⟨count.1.trans (.of_regs_eq hregs), hsects.trans count.2⟩

theorem sendAck_spec (d : Nat) (k : Tack) (st : Nat) : RegsOn inPower s (s.sendAck d k st) ∧ (s.sendAck d k st).sects = s.sects := by
  unfold State.sendAck
  split
  · exact buildTack_spec ..
  · exact ⟨.refl _ s, rfl⟩

/-- The answer to one write that waits on a hold of a Press that goes away. -/
def State.answerWrite (s : State) (p st : Nat) (w : Nat × List Byte × HeldFor) : State := match w.2.2 with
  | .tack tb src token mangle => s.sendAck (p / 32) { bytes := tb, src := src, token := token, sect := none, mangle := mangle, via := none } st
  | _ => s

/-- The Press's writes that go on waiting. -/
def State.keepWrites (s : State) (p : Nat) : State :=
  s.setPrs p { s.prs p with heldWrites := (s.prs p).heldWrites.filter (fun w => match w.2.2 with
    | .cmd _ => true
    | .eth _ _ _ => true
    | _ => false) }

theorem awayWrites_eq (p st : Nat) : s.awayWrites p st = (s.prs p).heldWrites.foldl (fun s w => s.answerWrite p st w) (s.keepWrites p) := rfl

theorem answerWrite_spec (p st : Nat) (w : Nat × List Byte × HeldFor) :
    RegsOn inPower s (s.answerWrite p st w) ∧ (s.answerWrite p st w).sects = s.sects ∧ (s.answerWrite p st w).press = s.press := by
  unfold State.answerWrite
  split
  · obtain ⟨regs, sects⟩ := sendAck_spec (s := s) (p / 32) _ st
    exact ⟨regs, sects, (State.sendAck_frame ..).1 .press (by decide)⟩
  · exact ⟨.refl _ s, rfl, rfl⟩

theorem answerWrites_spec (p st : Nat) : ∀ (l : List (Nat × List Byte × HeldFor)) (s : State), RegsOn inPower s (l.foldl (fun s w => s.answerWrite p st w) s) ∧
    (l.foldl (fun s w => s.answerWrite p st w) s).sects = s.sects ∧ (l.foldl (fun s w => s.answerWrite p st w) s).press = s.press
  | [], s => ⟨.refl _ s, rfl, rfl⟩
  | w :: l, s => by
    obtain ⟨r1, x1, p1⟩ := answerWrite_spec (s := s) p st w
    obtain ⟨r2, x2, p2⟩ := answerWrites_spec p st l (s.answerWrite p st w)
    exact ⟨r1.trans r2, x2.trans x1, p2.trans p1⟩

theorem awayWrites_spec (p st : Nat) : RegsOn inPower s (s.awayWrites p st) ∧ (s.awayWrites p st).sects = s.sects ∧
    (s.awayWrites p st).press = (s.keepWrites p).press := by
  rw [awayWrites_eq]
  obtain ⟨regs, sects, press⟩ := answerWrites_spec p st (s.prs p).heldWrites (s.keepWrites p)
  exact ⟨RegsOn.trans (.of_regs_eq rfl) regs, sects.trans rfl, press⟩

/-! ### Flights -/

theorem setWindow_power (w : Window) : RegsOn inPower s (s.setWindow w) := by
  unfold State.setWindow
  refine RegsKept.power_one (r := BLT_WINDOWS) (d := w.die) (ix := []) (RegsKept.setF ?_ (List.mem_singleton_self _)) (by decide)
  exact .of_regs_eq rfl

theorem abandon_power (f : Flight) : RegsOn inPower s (s.abandon f) := by
  unfold State.abandon
  extract_lets die w i s'
  have win : RegsOn inPower s s' := setWindow_power _
  have fault : RegsOn inPower s' (s'.setBit BLT_PFAULT [die] BLT_PFAULT.ABANDONED) := (setF_kept s' _ _ _ _).power_one (r := BLT_PFAULT) (by decide)
  generalize s'.setBit BLT_PFAULT [die] BLT_PFAULT.ABANDONED = a at fault
  have drop : RegsOn inPower a (a.incF BLT_RX_DROP [die] BLT_RX_DROP.COUNT 1) := (setF_kept a _ _ _ _).power_one (r := BLT_RX_DROP) (by decide)
  exact ((win.trans fault).trans drop).trans ((State.dropFlight_frame _ f).regsOn (by decide))

theorem inputDown_power (test : Flight → Bool) : RegsOn inPower s (s.inputDown test) :=
  .foldl _ (fun t f _ => by
    split
    · exact abandon_power f
    · exact .of_regs_eq rfl) s

/-! ### A Press that is lost -/

/-- The state of a Press that is lost, but for the writes of other agents that go on waiting. -/
def State.blankPress (s : State) (p : Nat) : State :=
  (List.range 4).foldl (fun s k => s.setSect p k {}) (s.setPrs p { part := (s.prs p).part, words := (s.prs p).words, heldWrites := (s.prs p).heldWrites })

theorem losePress_eq (p st : Nat) : s.losePress p st =
    ((((((s.awayWrites p st).endQueues p).inputDown (fun f => f.accepted && f.hdr.dpress == p)).clearRegs (inUnit p)).zeroBoard p).blankPress p).clrBits
      PWR_PIDLE [p / 32] (2 ^ (p % 32)) := rfl

theorem blankPress_regs (p : Nat) : (s.blankPress p).regs = s.regs := rfl

theorem losePress_unitRegs {p : Nat} (st : Nat) (hp : p < 256) : RegsOn inUnitRegs s (s.losePress p st) := by
  rw [losePress_eq]
  refine .via ((clrBits_kept _).unitRegs fun a ha => ?_) <| .via (.of_regs_eq (blankPress_regs p)) <| .via ((State.zeroBoard_frame ..).regsOn (by decide)) <|
    .via (clearRegs_power _ fun _ _ h => inUnit_volatile h).unitRegs <| .via (inputDown_power _).unitRegs <|
    .via ((State.endQueues_frame ..).regsOn (by decide)) (awayWrites_spec p st).1.unitRegs
  rw [List.mem_singleton.mp ha, PWR_PIDLE_addr]
  unfold inUnitRegs
  omega

end

end Sys2Proof.Machine
end

section
/-! What a Press that is reset or folded has lost (R203, R223, R369, R826, R827): its sections, queue requests, Board and descriptors, but not its
part store. -/

namespace Sys2Proof.Machine

section
variable {s t u : State}

/-! ### Part stores -/

/-- Every Press keeps its part store. -/
def PartsKept (s t : State) : Prop :=
  tok {} s.press = true → tok {} t.press = true ∧ ∀ p, (t.prs p).part = (s.prs p).part ∧ (t.prs p).words = (s.prs p).words

theorem PartsKept.of_eq (h : t.press = s.press) : PartsKept s t := fun hs => by
  have same : ∀ p, t.prs p = s.prs p := fun p => by rw [State.prs, h]; rfl
  exact ⟨by rwa [h], fun p => by rw [same]; exact ⟨rfl, rfl⟩⟩

theorem PartsKept.refl (s : State) : PartsKept s s := .of_eq rfl

theorem PartsKept.trans (h : PartsKept s t) (k : PartsKept t u) : PartsKept s u := fun hs => by
  obtain ⟨ht, hp⟩ := h hs
  obtain ⟨hu, hq⟩ := k ht
  exact ⟨hu, fun p => ⟨(hq p).1.trans (hp p).1, (hq p).2.trans (hp p).2⟩⟩

theorem PartsKept.setPrs {p : Nat} {x : Press} (h1 : x.part = (s.prs p).part) (h2 : x.words = (s.prs p).words) : PartsKept s (s.setPrs p x) := fun hs => by
  refine ⟨tok_tput _ _ _ hs, fun q => ?_⟩
  by_cases hq : q = p
  · have own : (s.setPrs p x).prs q = x := by
      rw [hq]
      exact tget_tput_same {} p x hs
    rw [own, hq]
    exact ⟨h1, h2⟩
  · have other : (s.setPrs p x).prs q = s.prs q := tget_tput_ne ({} : Press) s.press x hq
    rw [other]
    exact ⟨rfl, rfl⟩

theorem PartsKept.foldl {α : Type} {f : State → α → State} (l : List α) (hf : ∀ s x, PartsKept s (f s x)) : ∀ s, PartsKept s (l.foldl f s) := by
  induction l with
  | nil => exact fun s => .refl s
  | cons x l ih => exact fun s => (hf s x).trans (ih _)

theorem Frame.partsKept {l : List Part} (h : Frame l s t) (hl : Part.press ∉ l) : PartsKept s t := .of_eq (h.1 .press hl)

theorem PartsKept.syncHolds (h : PartsKept s t) (p : Nat) : PartsKept s (t.syncHolds p) :=
  h.trans (.of_eq ((State.setF_frame ..).1 .press (by decide) |>.trans ((State.setF_frame ..).1 .press (by decide))))

theorem dropHold_partsKept (p b n : Nat) : PartsKept s (s.dropHold p b n) := by
  unfold State.dropHold
  extract_lets h
  refine PartsKept.syncHolds (PartsKept.setPrs ?_ ?_) p
  · exact rfl
  · exact rfl

theorem releaseDesc_partsKept (x : Desc) : PartsKept s (s.releaseDesc x) := by
  unfold State.releaseDesc
  extract_lets m a t
  have drop : PartsKept t ((t.dropHold (32 * x.die + x.press) x.sblk x.hdr.bytes).syncDarn) :=
    (dropHold_partsKept _ _ _).trans ((State.syncDarn_frame _).partsKept (by decide))
  exact PartsKept.trans (t := t) (.of_eq rfl) drop

theorem endStream_partsKept (stream st : Nat) : PartsKept s (s.endStream stream st) :=
  PartsKept.trans (t := (s.score.desc.filter (fun d => d.stream == stream)).foldl State.releaseDesc s)
    (.foldl _ (fun _ x => releaseDesc_partsKept x) s) (.of_eq rfl)

theorem endNoted_partsKept (reason : Nat) (x : Nat × Nat) : PartsKept s (s.endNoted reason x) :=
  (endStream_partsKept _ _).trans ((State.noteEnded_frame ..).partsKept (by decide))

theorem endUnitStreams_partsKept (v : Nat) : PartsKept s (s.endUnitStreams v).1 := by
  have ends : ∀ test reason, PartsKept s (s.endStreams test reason).1 := fun test reason => by
    rw [endStreams_eq]
    exact .foldl _ (fun _ x => endNoted_partsKept reason x) s
  unfold State.endUnitStreams
  split_ifs
  · exact ends _ _
  · exact ends _ _
  · exact ends _ _
  · exact .refl s

theorem quiesce_partsKept (v : Nat) (force : Bool) : PartsKept s (s.quiesce v force).1 := by
  rw [quiesce_eq]
  exact PartsKept.trans ((fenceUnit_frame v force).partsKept (by decide)) (endUnitStreams_partsKept v)

/-! ### Descriptors -/

/-- The descriptors left by the end of a list of streams. -/
theorem foldl_endNoted_desc (reason : Nat) : ∀ (l : List (Nat × Nat)) (s : State),
    (l.foldl (fun s x => s.endNoted reason x) s).score.desc = s.score.desc.filter (fun y => l.all (fun x => x.1 != y.stream))
  | [], s => by simp
  | x :: l, s => by
    have one : (s.endNoted reason x).score.desc = s.score.desc.filter (fun y => y.stream != x.1) := by
      rw [State.endNoted, show ((s.endStream x.1 stPeerReset).noteEnded x.1 x.2 reason).score = (s.endStream x.1 stPeerReset).score from
        (State.noteEnded_frame ..).1 .score (by decide), endStream_desc]
    rw [List.foldl_cons, foldl_endNoted_desc reason l, one, List.filter_filter]
    refine List.filter_congr fun y _ => ?_
    rw [List.all_cons, Bool.and_comm, bne_comm]

/-- Every descriptor that satisfies the test has its stream in the list. -/
theorem stream_mem_endedStreams {test : Desc → Bool} {l : List Desc} {y : Desc} (hy : y ∈ l) (ht : test y = true) :
    ∃ x ∈ endedStreams l test, x.1 = y.stream := by
  have keeps : ∀ (m : List Desc) (a : List (Nat × Nat)) (n : Nat), (∃ x ∈ a, x.1 = n) →
      ∃ x ∈ m.foldl (fun l d => if l.any (fun x => x.1 == d.stream) then l else l ++ [(d.stream, d.die)]) a, x.1 = n := by
    intro m
    induction m with
    | nil => exact fun _ _ h => h
    | cons d m ih =>
      rintro a n ⟨x, hx, hn⟩
      refine ih _ n ⟨x, ?_, hn⟩
      beta_reduce
      split
      · exact hx
      · exact List.mem_append_left _ hx
  have adds : ∀ (m : List Desc) (a : List (Nat × Nat)), y ∈ m →
      ∃ x ∈ m.foldl (fun l d => if l.any (fun x => x.1 == d.stream) then l else l ++ [(d.stream, d.die)]) a, x.1 = y.stream := by
    intro m
    induction m with
    | nil => exact fun _ h => absurd h List.not_mem_nil
    | cons d m ih =>
      intro a h
      rcases List.mem_cons.mp h with rfl | h
      · refine keeps m _ _ ?_
        beta_reduce
        split
        · rename_i hany
          obtain ⟨x, hx, he⟩ := List.any_eq_true.mp hany
          exact ⟨x, hx, by simpa using he⟩
        · exact ⟨_, List.mem_append_right _ (List.mem_singleton_self _), rfl⟩
      · exact ih _ h
  exact adds _ [] (List.mem_filter.mpr ⟨hy, ht⟩)

/-- The streams of the descriptors that satisfy the test have ended: none of those is held. -/
theorem endStreams_desc (test : Desc → Bool) (reason : Nat) : ∀ y ∈ (s.endStreams test reason).1.score.desc, y ∈ s.score.desc ∧ test y = false := by
  intro y hy
  rw [endStreams_eq, foldl_endNoted_desc] at hy
  obtain ⟨mem, gone⟩ := List.mem_filter.mp hy
  refine ⟨mem, by_contra fun ht => ?_⟩
  obtain ⟨x, hx, he⟩ := stream_mem_endedStreams mem (by simpa using ht)
  simpa [he] using List.all_eq_true.mp gone x hx

/-- Where the held descriptors were sourced. -/
def State.sources (s : State) : List (Nat × Nat) := s.score.desc.map (fun x => (x.die, x.press))

theorem sources_of_score_eq (h : t.score = s.score) : t.sources = s.sources := by rw [State.sources, h]; rfl

theorem Frame.sources {l : List Part} (h : Frame l s t) (hl : Part.score ∉ l) : t.sources = s.sources := sources_of_score_eq (h.1 .score hl)

theorem mapDesc_sources (stream seq : Nat) {f : Desc → Desc} (hf : ∀ x, (f x).die = x.die ∧ (f x).press = x.press) :
    (s.mapDesc stream seq f).sources = s.sources := by
  have map : (s.mapDesc stream seq f).score.desc = mapIf (fun d => d.stream == stream && d.seq == seq) f s.score.desc := rfl
  rw [State.sources, map, State.sources, mapIf, List.map_map]
  refine List.map_congr_left fun x _ => ?_
  simp only [Function.comp]
  split
  · rw [(hf x).1, (hf x).2]
  · rfl

theorem resendOver_sources (own : Bool) (h : BoltHdr) : (s.resendOver own h).sources = s.sources := by
  unfold State.resendOver
  split
  · exact mapDesc_sources _ _ fun x => ⟨rfl, rfl⟩
  · rfl

theorem dropFlight_sources (f : Flight) : (s.dropFlight f).sources = s.sources := by
  unfold State.dropFlight
  extract_lets s'
  split
  · exact resendOver_sources _ _
  · rfl

theorem abandon_sources (f : Flight) : (s.abandon f).sources = s.sources := by
  unfold State.abandon
  extract_lets die w i s'
  rw [dropFlight_sources]
  rfl

theorem foldl_sources {α : Type} {f : State → α → State} (l : List α) (hf : ∀ s x, (f s x).sources = s.sources) : ∀ s, (l.foldl f s).sources = s.sources := by
  induction l with
  | nil => exact fun _ => rfl
  | cons x l ih => exact fun s => (ih _).trans (hf s x)

theorem inputDown_sources (test : Flight → Bool) : (s.inputDown test).sources = s.sources :=
  foldl_sources _ (fun s f => by
    split
    · exact abandon_sources f
    · rfl) s

/-! ### A Press that is lost -/

theorem queue_setQueue_nil {p q : Nat} (j : Nat) (h : tok [] s.queues = true) (hq : s.queue p j = [] ∨ j = q) : (s.setQueue p q []).queue p j = [] := by
  by_cases hj : j = q
  · rw [hj]
    exact tget_tput_same [] _ _ h
  · have other : (s.setQueue p q []).queue p j = s.queue p j := tget_tput_ne [] _ _ (by omega)
    rw [other]
    exact hq.resolve_right hj

theorem foldl_setQueue_nil {p j : Nat} : ∀ (l : List Nat) (s : State), tok [] s.queues = true → s.queue p j = [] ∨ j ∈ l →
    (l.foldl (fun s q => s.setQueue p q []) s).queue p j = []
  | [], s, _, h => h.resolve_right List.not_mem_nil
  | q :: l, s, ht, h => by
    refine foldl_setQueue_nil l _ (tok_tput [] _ _ ht) ?_
    by_cases hj : j = q
    · exact .inl (queue_setQueue_nil j ht (.inr hj))
    · rcases h with h | h
      · exact .inl (queue_setQueue_nil j ht (.inl h))
      · exact .inr ((List.mem_cons.mp h).resolve_left hj)

theorem endQueues_queue {p q : Nat} (h : tok [] s.queues = true) (hq : q < 6) : (s.endQueues p).queue p q = [] := by
  have same : (s.endQueues p).queues = ((List.range 6).foldl (fun s q => s.setQueue p q []) s).queues := by
    unfold State.endQueues
    generalize List.range 6 = l
    rfl
  rw [State.queue, same]
  exact foldl_setQueue_nil _ s h (.inr (List.mem_range.mpr hq))

theorem mbyte_zeroBoard (p a : Nat) : (s.zeroBoard p).mbyte a =
    if boardBase + p * 0x0010_0000 ≤ a ∧ a < boardBase + (p + 1) * 0x0010_0000 then 0 else s.mbyte a := by
  rw [State.zeroBoard, State.mbyte, tget_tclear]
  simp only [Bool.and_eq_true, decide_eq_true_eq]
  rfl

theorem sect_foldl_setSect {p k : Nat} {x : Section} : ∀ (l : List Nat) (s : State), tok {} s.sects = true → s.sect p k = x ∨ k ∈ l →
    (l.foldl (fun s j => s.setSect p j x) s).sect p k = x
  | [], _, _, h => h.resolve_right List.not_mem_nil
  | j :: l, s, ht, h => by
    refine sect_foldl_setSect l _ (setSect_sects_tok x ht) ?_
    by_cases hj : k = j
    · rw [hj]
      exact .inl (sect_setSect_same ht x)
    · rcases h with h | h
      · exact .inl ((sect_setSect_ne x (by omega)).trans h)
      · exact .inr ((List.mem_cons.mp h).resolve_left hj)

theorem blankPress_frame (p : Nat) : Frame [.press, .sects] s (s.blankPress p) :=
  .foldl (fun _ _ h => .via (State.setSect_frame ..) (by decide) h) _ _ ((State.setPrs_frame ..).mono (by decide))

theorem blankPress_sect {p k : Nat} (h : tok {} s.sects = true) (hk : k < 4) : (s.blankPress p).sect p k = {} :=
  sect_foldl_setSect _ _ h (.inr (List.mem_range.mpr hk))

theorem blankPress_partsKept (p : Nat) : PartsKept s (s.blankPress p) :=
  PartsKept.trans (t := s.setPrs p { part := (s.prs p).part, words := (s.prs p).words, heldWrites := (s.prs p).heldWrites }) (PartsKept.setPrs rfl rfl)
    (.foldl (f := fun s k => s.setSect p k {}) _ (fun t k => (State.setSect_frame t p k {}).partsKept (by decide)) _)

theorem endQueues_partsKept (p : Nat) : PartsKept s (s.endQueues p) := (State.endQueues_frame ..).partsKept (by decide)

/-- The bytes of the Board of Press p are 0 in `t`, and all others as in `s`. -/
def BoardLost (p : Nat) (s t : State) : Prop := ∀ a, t.mbyte a =
  if boardBase + p * 0x0010_0000 ≤ a ∧ a < boardBase + (p + 1) * 0x0010_0000 then 0 else s.mbyte a

theorem losePress_mem (p st : Nat) : BoardLost p s (s.losePress p st) := by
  intro a
  rw [losePress_eq]
  have before : ((((s.awayWrites p st).endQueues p).inputDown (fun f => f.accepted && f.hdr.dpress == p)).clearRegs (inUnit p)).mem = s.mem :=
    (State.clearRegs_frame ..).1 .mem (by decide) |>.trans <| (State.inputDown_frame ..).1 .mem (by decide) |>.trans <|
      (State.endQueues_frame ..).1 .mem (by decide) |>.trans <| (State.awayWrites_frame ..).1 .mem (by decide)
  generalize (((s.awayWrites p st).endQueues p).inputDown (fun f => f.accepted && f.hdr.dpress == p)).clearRegs (inUnit p) = b at before
  have after : (((b.zeroBoard p).blankPress p).clrBits PWR_PIDLE [p / 32] (2 ^ (p % 32))).mem = (b.zeroBoard p).mem :=
    (State.clrBits_frame ..).1 .mem (by decide) |>.trans <| (blankPress_frame p).1 .mem (by decide)
  rw [mbyte_congr after, mbyte_zeroBoard, mbyte_congr before]

theorem losePress_sect {p k : Nat} (st : Nat) (h : tok {} s.sects = true) (hk : k < 4) : (s.losePress p st).sect p k = {} := by
  rw [losePress_eq]
  have before : (((((s.awayWrites p st).endQueues p).inputDown (fun f => f.accepted && f.hdr.dpress == p)).clearRegs (inUnit p)).zeroBoard p).sects = s.sects :=
    (State.zeroBoard_frame ..).1 .sects (by decide) |>.trans <| (State.clearRegs_frame ..).1 .sects (by decide) |>.trans <|
      (State.inputDown_frame ..).1 .sects (by decide) |>.trans <| (State.endQueues_frame ..).1 .sects (by decide) |>.trans (awayWrites_spec p st).2.1
  generalize ((((s.awayWrites p st).endQueues p).inputDown (fun f => f.accepted && f.hdr.dpress == p)).clearRegs (inUnit p)).zeroBoard p = b at before
  rw [sect_congr ((State.clrBits_frame ..).1 .sects (by decide))]
  exact blankPress_sect (by rwa [before]) hk

theorem queue_congr (h : t.queues = s.queues) (p q : Nat) : t.queue p q = s.queue p q := by rw [State.queue, h]; rfl

theorem losePress_queue {p q : Nat} (st : Nat) (h : tok [] s.queues = true) (hq : q < 6) : (s.losePress p st).queue p q = [] := by
  rw [losePress_eq]
  have before : (s.awayWrites p st).queues = s.queues := (State.awayWrites_frame ..).1 .queues (by decide)
  have ended : ((s.awayWrites p st).endQueues p).queue p q = [] := endQueues_queue (by rwa [before]) hq
  generalize (s.awayWrites p st).endQueues p = b at ended
  have after : (((((b.inputDown (fun f => f.accepted && f.hdr.dpress == p)).clearRegs (inUnit p)).zeroBoard p).blankPress p).clrBits PWR_PIDLE [p / 32]
      (2 ^ (p % 32))).queues = b.queues :=
    (State.clrBits_frame ..).1 .queues (by decide) |>.trans <| (blankPress_frame p).1 .queues (by decide) |>.trans <|
      (State.zeroBoard_frame ..).1 .queues (by decide) |>.trans <| (State.clearRegs_frame ..).1 .queues (by decide) |>.trans <|
      (State.inputDown_frame ..).1 .queues (by decide)
  rw [queue_congr after, ended]

theorem losePress_partsKept (p st : Nat) : PartsKept s (s.losePress p st) := by
  have away : PartsKept s (s.awayWrites p st) :=
    PartsKept.trans (t := s.keepWrites p) (PartsKept.setPrs rfl rfl) (.of_eq (awayWrites_spec p st).2.2)
  rw [losePress_eq]
  exact away.trans <| (endQueues_partsKept p).trans <| ((State.inputDown_frame ..).partsKept (by decide)).trans <|
    ((State.clearRegs_frame ..).partsKept (by decide)).trans <| ((State.zeroBoard_frame ..).partsKept (by decide)).trans <|
    (blankPress_partsKept p).trans ((State.clrBits_frame ..).partsKept (by decide))

theorem losePress_sources (p st : Nat) : (s.losePress p st).sources = s.sources := by
  rw [losePress_eq]
  exact ((State.clrBits_frame ..).sources (by decide)).trans <| ((blankPress_frame p).sources (by decide)).trans <|
    ((State.zeroBoard_frame ..).sources (by decide)).trans <| ((State.clearRegs_frame ..).sources (by decide)).trans <| (inputDown_sources _).trans <|
    ((State.endQueues_frame ..).sources (by decide)).trans ((State.awayWrites_frame ..).sources (by decide))

/-! ### The loss of a Press by a command -/

theorem quiesce_press_desc {p : Nat} (hp : p < 256) (force : Bool) : ∀ x ∈ (s.quiesce p force).1.score.desc, 32 * x.die + x.press ≠ p := by
  intro x hx
  have ends : (s.quiesce p force).1 = ((s.fenceUnit p force).endStreams (fun d => 32 * d.die + d.press == p) 1).1 := by
    rw [quiesce_eq, State.endUnitStreams, if_pos hp]
  rw [ends] at hx
  simpa using (endStreams_desc _ 1 x hx).2

theorem quiesce_press_mem {p : Nat} (hp : p < 256) (force : Bool) : (s.quiesce p force).1.mem = s.mem := by
  have nofence : (s.fenceUnit p force).mem = s.mem := by
    unfold State.fenceUnit
    rw [if_neg (by omega)]
    split <;> rfl
  rw [quiesce_eq]
  exact ((State.endUnitStreams_frame ..).1 .mem (by decide)).trans nofence

/-- A Press that a command takes away has lost what R203, R223, R369 and R826 say; `t` is any later state with the same stores. -/
theorem pressLost_of_quiesce {p : Nat} {force : Bool} {st : Nat} (hw : s.UnitWf) (hp : p < 256) {a v : State} (ha : Frame [.regs, .front, .pwr] (s.quiesce p force).1 a)
    (ht : Frame [.regs, .arb] (a.losePress p st) v) : PressLost s v p := by
  obtain ⟨-, hsects, hqueues, hpress, -, -, -, -⟩ := hw
  have quiet : Frame [.regs, .mem, .tempo, .press, .ports, .score, .arb] s (s.quiesce p force).1 := State.quiesce_frame ..
  have sectsA : a.sects = s.sects := (ha.1 .sects (by decide)).trans (quiet.1 .sects (by decide))
  have queuesA : a.queues = s.queues := (ha.1 .queues (by decide)).trans (quiet.1 .queues (by decide))
  have memA : a.mem = s.mem := (ha.1 .mem (by decide)).trans (quiesce_press_mem hp force)
  have parts : PartsKept s v := (quiesce_partsKept p force).trans <| (ha.partsKept (by decide)).trans <| (losePress_partsKept p st).trans <| ht.partsKept (by decide)
  have board : ∀ x, v.mbyte x = if boardBase + p * 0x0010_0000 ≤ x ∧ x < boardBase + (p + 1) * 0x0010_0000 then 0 else s.mbyte x := fun x => by
    rw [mbyte_congr (ht.1 .mem (by decide)), losePress_mem p st x, mbyte_congr memA]
  have sources : v.sources = (s.quiesce p force).1.sources :=
    (ht.sources (by decide)).trans <| (losePress_sources p st).trans (ha.sources (by decide))
  refine ⟨fun k hk => ?_, fun q hq => ?_, ((parts hpress).2 p).1, ((parts hpress).2 p).2, fun x h1 h2 => by rw [board, if_pos ⟨h1, h2⟩],
    fun x h => by rw [board, if_neg (by omega)], fun x hx => ?_⟩
  · rw [sect_congr (ht.1 .sects (by decide))]
    exact losePress_sect st (by rwa [sectsA]) hk
  · rw [queue_congr (ht.1 .queues (by decide))]
    exact losePress_queue st (by rwa [queuesA]) hq
  · have mem : (x.die, x.press) ∈ v.sources := List.mem_map_of_mem hx
    rw [sources] at mem
    obtain ⟨y, hy, e⟩ := List.mem_map.mp mem
    have := quiesce_press_desc hp force y hy
    rw [Prod.mk.injEq] at e
    rwa [e.1, e.2] at this

end

end Sys2Proof.Machine
end

section
/-! What the loss of a die, a link or E0 leaves of the registers that say which units are away (R816, R826). -/

namespace Sys2Proof.Machine

section
variable {s t : State}

/-! ### Links -/

theorem refQualified_kept (x : Nat) : RegsKept refRegs s (s.refQualified x) := by
  unfold State.refQualified
  extract_lets s1 back
  have h1 : RegsKept refRegs s s1 := (RegsKept.refl _ s).setF (by decide)
  clear_value s1
  have settled : ∀ t : State, RegsKept refRegs s1 t → RegsKept refRegs s t.refSettle := fun t h => (h1.trans h).trans (refSettle_kept t)
  refine settled _ (.ite (fun _ => ?_) fun _ => .refl _ s1)
  exact .of_regs_eq rfl

/-- One of the two forwarded clocks of links follows its link (R135). -/
def State.linkSource1 (s : State) (x : Nat) (on : Bool) : State := if on && !s.refQual x then s.refQualified x else if on then s else s.refLost x

theorem linkSource1_kept (x : Nat) (on : Bool) : RegsKept refRegs s (s.linkSource1 x on) :=
  .ite (fun _ => refQualified_kept x) fun _ => .ite (fun _ => .refl _ s) fun _ => refLost_kept s x

theorem linkSources_kept : RegsKept refRegs s s.linkSources :=
  (linkSource1_kept (s := s) 2 _).trans (linkSource1_kept 3 _)

theorem refRegs_apart : ∀ a ∈ refRegs, ¬inUnitRegs a := by
  intro a ha
  simp only [refRegs, List.mem_cons, List.not_mem_nil, or_false] at ha
  unfold inUnitRegs
  rcases ha with rfl | rfl | rfl <;> decide

theorem linkSources_unitRegs : RegsOn inUnitRegs s s.linkSources := linkSources_kept.unitRegs refRegs_apart

/-- A register above the clock, reset and power block changes. -/
theorem RegsOn.setF_high {u : State} {r : Reg} {d : Nat} {ix : List Nat} {f : Fld} {x : Nat} (h : RegsOn inPower s u) (hr : r.high = true) :
    RegsOn inPower s (u.setF r (d :: ix) f x) := h.trans ((setF_kept u _ _ _ _).power_one hr)

theorem g1Down_power (l : Nat) : RegsOn inPower s (s.g1Down l) :=
  (setLegacy_kept l _).power_one (r := LNK_LGC_CRED) (d := 8 + l / 6) (ix := [l % 6]) (by decide)

theorem startTraining_power (l st : Nat) : RegsOn inPower s (s.startTraining l st) := by
  unfold State.startTraining
  extract_lets x a b c
  have ha : RegsOn inPower s a := by
    simp only [a]
    split
    · exact g1Down_power l
    · exact .refl _ s
  have hb : RegsOn inPower a b := .of_regs_eq rfl
  have h1 : RegsOn inPower s (b.setF LNK_STATUS (lnk l) LNK_STATUS.CLASS 3) := (ha.trans hb).setF_high (by decide)
  have h2 : RegsOn inPower s c := (h1.setF_high (r := LNK_PEER) (by decide)).setF_high (r := BLT_LSKID_RES) (by decide)
  exact h2.setF_high (r := LNK_STATUS) (by decide)

theorem linkLeave_unitRegs (l st : Nat) : RegsOn inUnitRegs s (s.linkLeave l st) := by
  unfold State.linkLeave
  extract_lets a
  have ha : RegsOn inPower s a := by
    simp only [a]
    split
    · exact RegsKept.power_one (r := LNK_EVENT) (setLogged_kept _ _ _ _ _) (by decide)
    · exact .refl _ s
  exact (ha.trans (startTraining_power l st)).unitRegs.trans linkSources_unitRegs

/-! ### Seams -/

theorem seamLeave_power (d q st : Nat) : RegsOn inPower s (s.seamLeave d q st) := by
  unfold State.seamLeave
  extract_lets up a x b c
  have ha : RegsOn inPower s a := by
    simp only [a]
    split
    · exact RegsKept.power_one (r := SEAM_EVENT) (setLogged_kept _ _ _ _ _) (by decide)
    · exact .refl _ s
  have hb : RegsOn inPower a b := .of_regs_eq rfl
  have hc : RegsOn inPower b c := (setF_kept b _ _ _ _).power_one (r := SEAM_STATUS) (by decide)
  refine ((ha.trans hb).trans hc).trans ?_
  split
  · exact inputDown_power _
  · exact .refl _ c

theorem portRetrain_power (d q : Nat) (full : Bool) : RegsOn inPower s (s.portRetrain d q full) := by
  unfold State.portRetrain
  extract_lets goal state
  split_ifs
  · exact RegsOn.trans (t := s.setBit SEAM_EVENT [d, q] SEAM_EVENT.RETRAIN) ((setF_kept s _ _ _ _).power_one (r := SEAM_EVENT) (by decide)) (seamLeave_power d q goal)
  · exact seamLeave_power d q goal
  · exact .refl _ s

theorem dropSeams_power (d : Nat) : RegsOn inPower s (s.dropSeams d) :=
  .foldl _ (fun _ _ _ => (seamLeave_power _ _ _).trans (portRetrain_power _ _ _)) s

theorem captureReset_power : RegsOn inPower s s.captureReset := by
  unfold State.captureReset
  split
  · refine RegsKept.on (as := [UN_CAPTURE.addr []]) (RegsKept.setLogged ((RegsKept.refl _ s).setF (by simp)) (by simp)) fun a ha => ?_
    rw [List.mem_singleton.mp ha]
    unfold inPower
    decide
  · exact .refl _ s

/-! ### Dies -/

theorem cplRegs_power : ∀ a ∈ cplRegs, 0x304000 ≤ a := fun a ha => by
  have := cplRegs_range a ha
  omega

theorem complete_power (c : Cmd) (st : Nat) (bs : List Byte) : RegsOn inPower s (s.complete c st bs) := (complete_kept c st bs).power cplRegs_power

theorem finishScans_power (c : Cmd) : RegsOn inPower s (s.finishScans c) := by
  unfold State.finishScans
  extract_lets l a front b
  split
  · have ha : RegsOn inPower s a := .foldl (f := fun s d => s.setPort d _) _ (fun _ _ _ => .of_regs_eq rfl) s
    have hb : RegsOn inPower a b := .of_regs_eq rfl
    exact (ha.trans hb).trans (complete_power c _ _)
  · exact .refl _ s

theorem foldPort_power (d : Nat) : RegsOn inPower s (s.foldPort d) := by
  unfold State.foldPort
  extract_lets cmds a
  have ha : RegsOn inPower s a := .of_regs_eq rfl
  have hb : RegsOn inPower a (cmds.foldl (fun s c => s.finishScans c) a) := .foldl _ (fun _ c _ => finishScans_power c) a
  generalize cmds.foldl (fun s c => s.finishScans c) a = b at hb
  exact (ha.trans hb).trans (RegsKept.power_one (r := MEM_STATUS) (d := d) (ix := []) ((setF_kept b _ _ _ _).setF (by simp)) (by decide))

theorem loseCommon_regs (d : Nat) : (s.loseCommon d).regs = s.regs := (State.loseCommon_frame s d).1 .regs (by decide)

theorem loseE0_power (st : Nat) : RegsOn inPower s (s.loseE0 st) := by
  unfold State.loseE0
  extract_lets cs eth a b c e
  have ha : a.regs = s.regs := rfl
  have hb : Frame [.press] a b := .foldl (fun _ _ h => .via (State.setPrs_frame ..) (by decide) h) _ _ (.refl _ a)
  have hc : Frame [.score, .dieBase] b c := .via (State.setDieCount_frame ..) (by decide) ((State.loseFlights_frame ..).mono (by decide))
  have he : e.regs = c.regs := rfl
  have same : e.regs = s.regs := he.trans <| (hc.1 .regs (by decide)).trans <| (hb.1 .regs (by decide)).trans ha
  exact (RegsOn.of_regs_eq same).trans <| (clearRegs_power _ fun _ _ h => inDie_volatile h).trans <| .foldl _ (fun _ c _ => complete_power c st []) _

end

end Sys2Proof.Machine
end

section
/-! The dies that lose their state (R343, R784, R826): their Conductors, and the registers that say which units are away. -/

namespace Sys2Proof.Machine

section
variable {s t u : State}

/-! ### C0 -/

theorem unitRegs_of_apart {as : List Nat} (h : RegsKept as s t) (ha : ∀ a ∈ as, 0x303870 ≤ a ∨ a < 0x300040 ∨ a = 0x303000) : RegsOn inUnitRegs s t :=
  h.unitRegs fun a m => by
    have := ha a m
    unfold inUnitRegs
    omega

theorem abandonActivation_unitRegs : RegsOn inUnitRegs s s.abandonActivation := by
  unfold State.abandonActivation
  split
  · extract_lets img fw a b front e
    have ha : RegsOn inUnitRegs s a := .of_regs_eq rfl
    have hb : RegsKept [CMD_IF_STATUS.addr [], AON_FW.addr []] a b := ((RegsKept.refl _ a).setF (by simp)).setF (by simp)
    have he : RegsOn inUnitRegs b e := .of_regs_eq rfl
    exact ((ha.trans (unitRegs_of_apart hb (by decide))).trans he).trans (complete_power _ _ _).unitRegs
  · exact .refl _ s

theorem ringRegs_high : ∀ r : Fin 16, ∀ a ∈ [CMD_RING_BASE.addr [(r : Nat)], CMD_CPL_BASE.addr [(r : Nat)], CMD_RING_CFG.addr [(r : Nat)],
    CMD_RING_PTR.addr [(r : Nat)], CMD_RING_STATUS.addr [(r : Nat)]], 0x304000 ≤ a := by decide

theorem clrReg_kept (r : Reg) (ix : List Nat) : RegsKept [r.addr ix] s (s.clrReg r ix) := fun _ h => tget_tput_ne 0 _ _ (by simpa using h)

theorem ringReset_power (r : Fin 16) : RegsOn inPower s (s.ringReset r) := by
  unfold State.ringReset
  extract_lets inf a front b
  have ha : RegsKept [CMD_RING_BASE.addr [(r : Nat)], CMD_CPL_BASE.addr [(r : Nat)], CMD_RING_CFG.addr [(r : Nat)], CMD_RING_PTR.addr [(r : Nat)],
      CMD_RING_STATUS.addr [(r : Nat)]] s a :=
    ((((RegsKept.refl _ s).then (clrReg_kept _ _) (by simp)).then (clrReg_kept _ _) (by simp)).then (clrReg_kept _ _) (by simp)).then
      (clrReg_kept _ _) (by simp)
  have hb : RegsKept [CMD_RING_BASE.addr [(r : Nat)], CMD_CPL_BASE.addr [(r : Nat)], CMD_RING_CFG.addr [(r : Nat)], CMD_RING_PTR.addr [(r : Nat)],
      CMD_RING_STATUS.addr [(r : Nat)]] a b := .of_regs_eq rfl
  exact ((ha.trans hb).setReg (by simp)).power (ringRegs_high r)

theorem arbReset_power : RegsOn inPower s s.arbReset := by
  unfold State.arbReset
  extract_lets n
  split
  · exact .refl _ s
  · refine RegsKept.on (as := [EVA_LOST.addr []]) (RegsKept.incF ?_ (by simp)) fun x hx => ?_
    · exact .of_regs_eq rfl
    · rw [List.mem_singleton.mp hx]
      unfold inPower
      decide

theorem stripStart_power (p k : Nat) : RegsOn inPower s (s.stripStart p k) := by
  unfold State.stripStart
  split
  · exact RegsOn.setF_high (r := SCT_TSTART) (.refl _ s) (by decide)
  · exact .refl _ s

theorem pauseReached_power {p : Nat} (hp : p < 256) : RegsOn inPower s (s.pauseReached p) := by
  have mark : RegsOn inPower s (s.setReg PRS_DIE_EVENT [p / 32] (s.reg PRS_DIE_EVENT [p / 32] ||| BitVec.ofNat 64 (2 ^ (p % 32)))) := by
    refine RegsKept.on (setReg_kept s PRS_DIE_EVENT [p / 32] _) fun x hx => ?_
    have win := dieWin_press hp
    have : PRS_DIE_EVENT.addr [p / 32] = dieWin (p / 32) + 8 := rfl
    rw [List.mem_singleton.mp hx, this]
    unfold inPower
    omega
  unfold State.pauseReached
  split
  · extract_lets a
    split
    · exact mark.trans (.of_regs_eq rfl)
    · exact mark
  · exact .refl _ s

theorem pausePress_power {p : Nat} (hp : p < 256) : RegsOn inPower s (s.pausePress p) := by
  have one : ∀ (t : State) (k : Nat) (x : Section),
      RegsOn inPower t ((if (t.sect p k).st == .waiting && x.st == .paused then t.stripStart p k else t).setSect p k x) := fun t k x => by
    split
    · exact (stripStart_power p k).trans ((State.setSect_frame ..).regsOn (by decide))
    · exact (State.setSect_frame ..).regsOn (by decide)
  unfold State.pausePress
  split
  · exact .refl _ s
  · exact RegsOn.trans (.foldl _ (fun t k _ => one t k _) s) (pauseReached_power hp)

theorem stopPresses_power : RegsOn inPower s s.stopPresses := by
  unfold State.stopPresses
  refine .foldl _ (fun t p hp => ?_) s
  simp only [State.presses, List.mem_filter, List.mem_range] at hp
  have mark : RegsOn inPower t (t.setPrs p { t.prs p with stopPause := true }) := (State.setPrs_frame ..).regsOn (by decide)
  exact mark.trans (pausePress_power hp.1.1)

theorem replayStop_power : RegsOn inPower s s.replayStop := by
  unfold State.replayStop
  extract_lets a
  exact RegsOn.trans (.of_regs_eq rfl) stopPresses_power

theorem domC0_volatile {d : Nat} {r : Reg} {ix : List Nat} (h : (r.dom == .c0 || inDie d r ix) = true) : r.volatile = true := by
  rcases Bool.or_eq_true_iff.mp h with h | h
  · simp [Reg.volatile, h]
  · exact inDie_volatile h

theorem loseC0_unitRegs : RegsOn inUnitRegs s s.loseC0 := by
  unfold State.loseC0
  extract_lets a mine front b c smb e f g fw h i j k
  have ha : RegsOn inUnitRegs s a := abandonActivation_unitRegs
  have hb : RegsOn inUnitRegs a b := .of_regs_eq rfl
  have hc : RegsOn inUnitRegs b c := .foldl _ (fun t r hr => (ringReset_power (s := t) ⟨r, List.mem_range.mp (List.mem_filter.mp hr).1⟩).unitRegs) b
  have he : RegsOn inUnitRegs c e := .of_regs_eq rfl
  have hf : RegsOn inUnitRegs e f := ((State.smReset_frame e).regsOn (by decide)).trans (captureReset_power.trans arbReset_power).unitRegs
  have hg : RegsOn inUnitRegs f g := by
    refine RegsOn.trans (t := if f.replaying then f.replayStop else f) ?_ ((State.setUnison_frame ..).regsOn (by decide))
    split
    · exact replayStop_power.unitRegs
    · exact .refl _ f
  have hh : RegsOn inUnitRegs g h := .of_regs_eq rfl
  have hi : RegsOn inUnitRegs h i := ((State.loseFlights_frame h 10).regsOn (by decide)).trans ((State.setDieCount_frame ..).regsOn (by decide))
  have hj : RegsOn inUnitRegs i j := .of_regs_eq rfl
  have hk : RegsOn inUnitRegs j k := unitRegs_of_apart (setF_kept j CMD_IF_STATUS [] _ _) (by decide)
  exact ha.trans <| hb.trans <| hc.trans <| he.trans <| hf.trans <| hg.trans <| hh.trans <| hi.trans <| hj.trans <| hk.trans
    (clearRegs_power _ fun _ _ h => domC0_volatile h).unitRegs

/-! ### The units that are held in reset -/

theorem linkSource1_asserted (x : Nat) (on : Bool) : (s.linkSource1 x on).pwr.asserted = s.pwr.asserted := by
  have settle : ∀ t : State, t.refSettle.pwr = t.pwr := fun t => (State.refSettle_frame t).1 .pwr (by decide)
  unfold State.linkSource1
  split_ifs
  · unfold State.refQualified
    extract_lets a back
    rw [settle]
    split <;> rfl
  · rfl
  · unfold State.refLost
    split
    · extract_lets pwr a
      have same : ((a.setF CLK_REF_STATUS [] ⟨x, 1⟩ 0).refSet ⟨8 + x, 1⟩).pwr = a.pwr :=
        ((State.refSet_frame ..).1 .pwr (by decide)).trans ((State.setF_frame ..).1 .pwr (by decide))
      rw [settle, same]
    · rfl

theorem linkSources_asserted : s.linkSources.pwr.asserted = s.pwr.asserted :=
  (linkSource1_asserted (s := State.linkSource1 s 2 _) 3 _).trans (linkSource1_asserted 2 _)

theorem linkLeave_asserted (l st : Nat) : (s.linkLeave l st).pwr.asserted = s.pwr.asserted := by
  unfold State.linkLeave
  extract_lets a
  have ha : a.pwr = s.pwr := by
    simp only [a]
    split
    · exact (State.setLogged_frame ..).1 .pwr (by decide)
    · rfl
  rw [linkSources_asserted, (State.startTraining_frame ..).1 .pwr (by decide), ha]

/-! ### The losses of the dies -/

theorem loseCommon_cond (d : Nat) : (s.loseCommon d).cond = tput {} s.cond d {} := by
  have same : (s.loseCommon d).cond = tput {} (s.loseFlights d).cond d {} := rfl
  rw [same, (State.loseFlights_frame s d).1 .cond (by decide)]

/-- What a Press die loses, down to its registers. -/
theorem losePressDie_shape (d : Nat) : ∃ a : State, RegsOn inPower s a ∧ a.cond = tput {} s.cond d {} ∧
    (s.losePressDie d = a.clearRegs (inDie d) ∨ s.losePressDie d = (a.clearRegs (inDie d)).setBit MEM_ERR [d] MEM_ERR.WB_LOST) := by
  unfold State.losePressDie
  extract_lets lost cmds streams a score b books c e f g
  have hc : c.regs = a.regs := rfl
  have he : Frame [.ports] c e := State.setPort_frame ..
  have hf : Frame [.regs, .mem, .ports, .front] e f := .foldl (fun _ _ h => .via (State.finishScans_frame ..) (by decide) h) _ _ (.refl _ e)
  have kept : RegsOn inPower e f := .foldl _ (fun _ c _ => finishScans_power c) e
  refine ⟨f, ?_, ?_, ?_⟩
  · exact (RegsOn.of_regs_eq (loseCommon_regs d)).trans <| (RegsOn.of_regs_eq hc).trans <| (he.regsOn (by decide)).trans kept
  · rw [hf.1 .cond (by decide), he.1 .cond (by decide)]
    exact loseCommon_cond d
  · cases lost
    · exact .inl rfl
    · exact .inr rfl

theorem losePressDie_power (d : Nat) : RegsOn inPower s (s.losePressDie d) := by
  obtain ⟨a, kept, -, h | h⟩ := losePressDie_shape (s := s) d
  · rw [h]
    exact kept.trans (clearRegs_power _ fun _ _ h => inDie_volatile h)
  · rw [h]
    exact RegsOn.setF_high (r := MEM_ERR) (kept.trans (clearRegs_power _ fun _ _ h => inDie_volatile h)) (by decide)

/-- The links of a die leave service. -/
def State.leaveLinks (s : State) (l : List Nat) : State := l.foldl (fun s l => if s.linkState l = 0 then s else s.linkLeave l 0) s

theorem leaveLinks_spec : ∀ (l : List Nat) (s : State), RegsOn inUnitRegs s (s.leaveLinks l) ∧ (s.leaveLinks l).pwr.asserted = s.pwr.asserted ∧
    (s.leaveLinks l).cond = s.cond
  | [], s => ⟨.refl _ s, rfl, rfl⟩
  | x :: l, s => by
    have step : s.leaveLinks (x :: l) = (if s.linkState x = 0 then s else s.linkLeave x 0).leaveLinks l := rfl
    rw [step]
    split
    · exact leaveLinks_spec l s
    · obtain ⟨regs, asserted, cond⟩ := leaveLinks_spec l (s.linkLeave x 0)
      exact ⟨(linkLeave_unitRegs x 0).trans regs, asserted.trans (linkLeave_asserted x 0), cond.trans ((State.linkLeave_frame ..).1 .cond (by decide))⟩

/-- A link forgets what it holds. -/
def State.blankLink (s : State) (l : Nat) : State := { s with lk := tput {} s.lk l {}, legacy := tput {} s.legacy l {} }

theorem blankLink_frame (l : Nat) : Frame [.lk, .legacy] s (s.blankLink l) := 
  Frame.set_lk_legacy _ _ (by decide) (by decide) (.refl _ s)

theorem blankLinks_frame (l : List Nat) (s : State) : Frame [.lk, .legacy] s (l.foldl State.blankLink s) :=
  .foldl (fun _ x h => h.trans (blankLink_frame x)) _ _ (.refl _ s)

/-- What a Mangle die loses, down to its registers. -/
theorem loseMangleDie_shape (m : Nat) : ∃ a : State, RegsOn inUnitRegs s a ∧ a.cond = tput {} s.cond m {} ∧ a.pwr.asserted = s.pwr.asserted ∧
    s.loseMangleDie m = (a.clearRegs (inDie m)).linkSources := by
  unfold State.loseMangleDie
  extract_lets ls a b c e score f books g tacks h pwr i
  obtain ⟨regs, asserted, cond⟩ := leaveLinks_spec ls s
  change RegsOn inUnitRegs s a at regs
  change a.pwr.asserted = _ at asserted
  change a.cond = _ at cond
  clear_value a
  have hb : Frame [.score] a b := State.dropStored_frame ..
  have hc : Frame [.dieBase, .aligns, .cond, .score, .tacks] b c := State.loseCommon_frame ..
  have he : Frame [.lk, .legacy] c e := blankLinks_frame ls c
  have ccond : c.cond = tput {} b.cond m {} := loseCommon_cond m
  clear_value b c e
  have hi : i.regs = e.regs ∧ i.cond = e.cond ∧ i.pwr.asserted = e.pwr.asserted := ⟨rfl, rfl, rfl⟩
  obtain ⟨iregs, icond, iasserted⟩ := hi
  refine ⟨i, regs.trans <| (hb.regsOn (by decide)).trans <| (hc.regsOn (by decide)).trans <| (he.regsOn (by decide)).trans (.of_regs_eq iregs), ?_, ?_, rfl⟩
  · rw [icond, he.1 .cond (by decide), ccond, hb.1 .cond (by decide), cond]
  · rw [iasserted, he.1 .pwr (by decide), hc.1 .pwr (by decide), hb.1 .pwr (by decide), asserted]

theorem loseMangleDie_unitRegs (m : Nat) : RegsOn inUnitRegs s (s.loseMangleDie m) := by
  obtain ⟨a, kept, -, -, h⟩ := loseMangleDie_shape (s := s) m
  rw [h]
  exact kept.trans <| (clearRegs_power _ fun _ _ h => inDie_volatile h).unitRegs.trans linkSources_unitRegs

/-- What a link loses, down to its registers. -/
theorem loseLink_shape (l : Nat) : ∃ a : State, a.pwr.asserted = s.pwr.asserted ∧ s.loseLink l = (a.clearRegs (inUnit (linkUnit l))).linkSources := by
  unfold State.loseLink
  extract_lets m c a b e f g score h
  have ha : a.pwr.asserted = s.pwr.asserted := by
    simp only [a]
    split
    · rfl
    · exact linkLeave_asserted l 0
  have hf : Frame [.regs, .score, .books] a f := .via (State.linReleases_frame ..) (by decide) <| .via (State.dropStored_frame ..) (by decide)
    ((State.inputDown_frame ..).mono (by decide))
  have hh : h.pwr = f.pwr := rfl
  exact ⟨h, by rw [hh, hf.1 .pwr (by decide), ha], rfl⟩

end

end Sys2Proof.Machine
end

section
/-! UNIT_RESET past its checks (R823): what each kind of unit has lost when its reset is asserted. -/

namespace Sys2Proof.Machine

section
variable {s t u : State}

/-! ### The kinds of units -/

/-- The unit's reset is asserted. -/
def State.holdUnit (s : State) (u : Nat) : State := { s with pwr := { s.pwr with asserted := s.pwr.asserted.filter (fun x => x != u) ++ [u] } }

/-- A die's reset is asserted: it is not fresh any more. -/
def State.holdDie (s : State) (u : Nat) : State :=
  { s.holdUnit u with pwr := { (s.holdUnit u).pwr with fresh := (s.holdUnit u).pwr.fresh.filter (fun x => x != unitDie u) } }

/-- A die's Seams go down, its reset bit is set and its root PLL is unlocked. -/
def State.markDie (s : State) (d : Nat) : State := ((s.dropSeams d).captureReset.orReg RST_DIE [] (2 ^ d)).setF CLK_DIE [d] CLK_DIE.LOCKED 0

/-- The 32 Presses of a die are lost. -/
def State.losePresses (s : State) (d : Nat) : State := (List.range 32).foldl (fun s k => s.losePress (32 * d + k) stUnitInReset) s

/-- What a die that is reset loses. -/
def State.loseDie (s : State) (d : Nat) : State :=
  if d < 8 then ((s.orReg RST_PRESS [d] (2 ^ 32 - 1)).losePresses d).losePressDie d
  else if d < 10 then s.loseMangleDie d
  else if d = 11 then s.loseE0 stUnitInReset
  else s.loseC0

theorem holdUnit_asserted (u : Nat) : u ∈ (s.holdUnit u).pwr.asserted := List.mem_append_right _ (List.mem_singleton_self u)

theorem holdDie_asserted (u : Nat) : u ∈ (s.holdDie u).pwr.asserted := holdUnit_asserted u

theorem holdUnit_frame (u : Nat) : Frame [.pwr] s (s.holdUnit u) := Frame.set_pwr _ (by decide) (.refl _ s)

theorem holdDie_frame (u : Nat) : Frame [.pwr] s (s.holdDie u) := (holdUnit_frame u).trans (Frame.set_pwr _ (by decide) (.refl _ _))

theorem assertReset_press {u : Nat} (h : u < 256) :
    s.assertReset u = ((s.holdUnit u).orReg RST_PRESS [u / 32] (2 ^ (u % 32))).losePress u stUnitInReset := by
  have die : isDieUnit u = false := by simp [isDieUnit]; omega
  simp only [State.assertReset, die, Bool.false_eq_true, if_false, h, if_true, unitDie]
  rfl

theorem assertReset_die {u : Nat} (h1 : 256 ≤ u) (h2 : u < 268) : s.assertReset u = ((s.holdDie u).markDie (unitDie u)).loseDie (unitDie u) := by
  have die : isDieUnit u = true := by simp [isDieUnit, h1, h2]
  simp only [State.assertReset, die, if_true]
  rfl

theorem assertReset_link {u : Nat} (h1 : 268 ≤ u) (h2 : u < 280) : s.assertReset u = (s.holdUnit u).loseLink (u - 268) := by
  have die : isDieUnit u = false := by simp [isDieUnit]; omega
  simp only [State.assertReset, die, Bool.false_eq_true, if_false, show ¬u < 256 by omega, h2, if_true]
  rfl

theorem assertReset_port {u : Nat} (h1 : 280 ≤ u) (h2 : u < 282) : ∃ x, s.assertReset u = ((s.holdUnit u).clearRegs (inUnit u)).setEthPort (u - 280) x := by
  have die : isDieUnit u = false := by simp [isDieUnit]; omega
  simp only [State.assertReset, die, Bool.false_eq_true, if_false, show ¬u < 256 by omega, show ¬u < 280 by omega, h2, if_true]
  exact ⟨_, rfl⟩

theorem assertReset_core {u : Nat} (h : 282 ≤ u) : s.assertReset u =
    ((s.holdUnit u).emptyStack (2 * (u - 282))).emptyStack (2 * (u - 282) + 1) := by
  have die : isDieUnit u = false := by simp [isDieUnit]; omega
  simp only [State.assertReset, die, Bool.false_eq_true, if_false, show ¬u < 256 by omega, show ¬u < 280 by omega, show ¬u < 282 by omega]
  rfl

/-! ### Dies -/

/-- The offsets of the root PLLs and of the reset bits of the dies. -/
def inDieRegs (a : Nat) : Prop := 0x300040 ≤ a ∧ a < 0x301020

theorem RegsOn.dieRegs (h : RegsOn inUnitRegs s t) : RegsOn inDieRegs s t := h.mono fun a ha => .inl (by
  unfold inDieRegs at ha
  omega)

theorem losePresses_unitRegs {d : Nat} (hd : d < 8) : RegsOn inUnitRegs s (s.losePresses d) :=
  .foldl _ (fun _ k hk => losePress_unitRegs _ (by have := List.mem_range.mp hk; omega)) s

theorem losePresses_frame (d : Nat) : Frame [.regs, .mem, .press, .sects, .queues, .qseq, .ports, .score, .tacks] s (s.losePresses d) :=
  .foldl (fun _ _ h => h.trans (State.losePress_frame ..)) _ _ (.refl _ s)

theorem orPress_dieRegs (d m : Nat) : RegsOn inDieRegs s (s.orReg RST_PRESS [d] m) := (orReg_kept m).on fun a ha hQ => by
  rw [List.mem_singleton.mp ha, RST_PRESS_addr] at hQ
  unfold inDieRegs at hQ
  omega

theorem loseDie_dieRegs (d : Nat) : RegsOn inDieRegs s (s.loseDie d) := by
  unfold State.loseDie
  split_ifs with h8
  · exact (orPress_dieRegs d _).trans <| (losePresses_unitRegs h8).dieRegs.trans (losePressDie_power d).unitRegs.dieRegs
  · exact (loseMangleDie_unitRegs d).dieRegs
  · exact (loseE0_power _).unitRegs.dieRegs
  · exact loseC0_unitRegs.dieRegs

theorem CLK_DIE_addr (d : Nat) : CLK_DIE.addr [d] = 0x300040 + 4 * d := by simp [Reg.addr, CLK_DIE, dimOff]; omega

theorem markDie_regs {d : Nat} (hd : d < 12) (h : tok 0 s.regs = true) : tok 0 (s.markDie d).regs = true ∧
    bitOf ((s.markDie d).reg RST_DIE []) d = true ∧ (s.markDie d).bit CLK_DIE [d] CLK_DIE.LOCKED = false := by
  unfold State.markDie
  have htok : tok 0 (s.dropSeams d).captureReset.regs = true := (State.captureReset_frame _).tok ((State.dropSeams_frame ..).tok h)
  generalize (s.dropSeams d).captureReset = a at htok
  have tokb : tok 0 (a.orReg RST_DIE [] (2 ^ d)).regs = true := (State.orReg_frame ..).tok htok
  refine ⟨setF_tok _ _ _ _ _ tokb, ?_, bit_setF_zero _ tokb (by decide)⟩
  rw [(setF_kept (a.orReg RST_DIE [] (2 ^ d)) CLK_DIE [d] _ _).reg_eq (by rw [List.mem_singleton, RST_DIE_addr, CLK_DIE_addr]; omega)]
  exact bitOf_orReg_bit htok (by omega)

/-- A die that is reset is in reset, and its root PLL is unlocked (R826). -/
theorem reset_die {u : Nat} (h1 : 256 ≤ u) (h2 : u < 268) (h : tok 0 s.regs = true) :
    bitOf ((s.assertReset u).reg RST_DIE []) (unitDie u) = true ∧ (s.assertReset u).bit CLK_DIE [unitDie u] CLK_DIE.LOCKED = false := by
  have hd : unitDie u < 12 := by unfold unitDie; split_ifs <;> omega
  rw [assertReset_die h1 h2]
  have htok : tok 0 (s.holdDie u).regs = true := (holdDie_frame u).tok h
  obtain ⟨-, reset, unlocked⟩ := markDie_regs hd htok
  have kept := loseDie_dieRegs (s := (s.holdDie u).markDie (unitDie u)) (unitDie u)
  refine ⟨?_, ?_⟩
  · rw [kept.reg_eq (by rw [RST_DIE_addr]; unfold inDieRegs; omega), reset]
  · rw [kept.bit_eq _ (by rw [CLK_DIE_addr]; unfold inDieRegs; omega), unlocked]

/-! ### Conductors -/

theorem SCR_STATUS_spec : ∀ d : Fin 10, inDie d SCR_STATUS [(d : Nat)] = true ∧ SCR_STATUS.addr [(d : Nat)] ∉ refRegs ∧
    fget (SCR_STATUS.resetAt [(d : Nat)]) SCR_STATUS.INSTALLED = 0 := by decide

theorem MEM_ERR_ne_SCR_STATUS : ∀ d : Fin 10, SCR_STATUS.addr [(d : Nat)] ∉ [MEM_ERR.addr [(d : Nat)]] := by decide

theorem installed_clearDie {d : Nat} (hd : d < 10) : (s.clearRegs (inDie d)).bit SCR_STATUS [d] SCR_STATUS.INSTALLED = false := by
  obtain ⟨mine, -, zero⟩ := SCR_STATUS_spec ⟨d, hd⟩
  obtain ⟨-, -, dies, -⟩ := regFile_spec
  have at_ := dies ⟨d, hd⟩
  rw [State.bit, State.getF, reg_clearRegs at_ mine, zero]
  rfl

/-- A Press die or a Mangle die that is reset has lost its Conductor's stores (R343). -/
theorem loseDie_conductor {d : Nat} (hd : d < 10) (h : tok {} s.cond = true) :
    (s.loseDie d).conductor d = {} ∧ (s.loseDie d).bit SCR_STATUS [d] SCR_STATUS.INSTALLED = false := by
  obtain ⟨-, noref, -⟩ := SCR_STATUS_spec ⟨d, hd⟩
  have read : ∀ {t : State} {c : Table Conductor}, tok {} c = true → t.cond = tput {} c d {} → t.conductor d = {} := fun hc e => by
    rw [State.conductor, e]
    exact tget_tput_same ({} : Conductor) _ _ hc
  unfold State.loseDie
  split_ifs with h8
  · have before : ((s.orReg RST_PRESS [d] (2 ^ 32 - 1)).losePresses d).cond = s.cond :=
      ((losePresses_frame d).1 .cond (by decide)).trans ((State.orReg_frame ..).1 .cond (by decide))
    generalize (s.orReg RST_PRESS [d] (2 ^ 32 - 1)).losePresses d = b at before
    obtain ⟨a, -, cond, e | e⟩ := losePressDie_shape (s := b) d
    · rw [e]
      refine ⟨read h (?_ : _ = tput {} s.cond d {}), installed_clearDie hd⟩
      rw [(State.clearRegs_frame ..).1 .cond (by decide), cond, before]
    · rw [e]
      refine ⟨read h (?_ : _ = tput {} s.cond d {}), ?_⟩
      · rw [(State.setBit_frame ..).1 .cond (by decide), (State.clearRegs_frame ..).1 .cond (by decide), cond, before]
      · have apart : SCR_STATUS.addr [d] ∉ [MEM_ERR.addr [d]] := MEM_ERR_ne_SCR_STATUS ⟨d, hd⟩
        have kept : RegsKept [MEM_ERR.addr [d]] (a.clearRegs (inDie d)) ((a.clearRegs (inDie d)).setBit MEM_ERR [d] MEM_ERR.WB_LOST) := setF_kept _ _ _ _ _
        rw [kept.bit_eq _ apart, installed_clearDie hd]
  · obtain ⟨a, -, cond, -, e⟩ := loseMangleDie_shape (s := s) d
    rw [e]
    refine ⟨read h (?_ : _ = tput {} s.cond d {}), ?_⟩
    · rw [(State.linkSources_frame _).1 .cond (by decide), (State.clearRegs_frame ..).1 .cond (by decide), cond]
    · rw [linkSources_kept.bit_eq _ noref, installed_clearDie hd]

theorem reset_conductor {u : Nat} (h1 : 256 ≤ u) (h2 : u < 266) (h : tok {} s.cond = true) :
    (s.assertReset u).conductor (unitDie u) = {} ∧ (s.assertReset u).bit SCR_STATUS [unitDie u] SCR_STATUS.INSTALLED = false := by
  have hd : unitDie u < 10 := by unfold unitDie; split_ifs <;> omega
  have cond : ((s.holdDie u).markDie (unitDie u)).cond = s.cond :=
    ((State.setF_frame ..).1 .cond (by decide)).trans <| ((State.orReg_frame ..).1 .cond (by decide)).trans <|
      ((State.captureReset_frame _).1 .cond (by decide)).trans <| ((State.dropSeams_frame ..).1 .cond (by decide)).trans
      ((holdDie_frame u).1 .cond (by decide))
  rw [assertReset_die h1 (by omega)]
  exact loseDie_conductor hd (by rwa [cond])

/-! ### The units held in reset -/

theorem loseDie_asserted (d : Nat) : (s.loseDie d).pwr.asserted = s.pwr.asserted := by
  unfold State.loseDie
  split_ifs
  · exact congrArg Power.asserted <| ((State.losePressDie_frame ..).1 .pwr (by decide)).trans <| ((losePresses_frame d).1 .pwr (by decide)).trans
      ((State.orReg_frame ..).1 .pwr (by decide))
  · obtain ⟨a, -, -, asserted, e⟩ := loseMangleDie_shape (s := s) d
    rw [e, linkSources_asserted, (State.clearRegs_frame ..).1 .pwr (by decide), asserted]
  · exact congrArg Power.asserted ((State.loseE0_frame ..).1 .pwr (by decide))
  · exact congrArg Power.asserted ((State.loseC0_frame _).1 .pwr (by decide))

theorem markDie_pwr (d : Nat) : (s.markDie d).pwr = s.pwr :=
  ((State.setF_frame ..).1 .pwr (by decide)).trans <| ((State.orReg_frame ..).1 .pwr (by decide)).trans <|
    ((State.captureReset_frame _).1 .pwr (by decide)).trans ((State.dropSeams_frame ..).1 .pwr (by decide))

/-- A unit whose reset is asserted is held in reset until its release (R824). -/
theorem assertReset_asserted (u : Nat) : u ∈ (s.assertReset u).pwr.asserted := by
  have held := holdUnit_asserted (s := s) u
  by_cases h1 : u < 256
  · rw [assertReset_press h1, (State.losePress_frame ..).1 .pwr (by decide), (State.orReg_frame ..).1 .pwr (by decide)]
    exact held
  by_cases h2 : u < 268
  · rw [assertReset_die (by omega) h2, loseDie_asserted, markDie_pwr]
    exact holdDie_asserted u
  by_cases h3 : u < 280
  · obtain ⟨a, asserted, e⟩ := loseLink_shape (s := s.holdUnit u) (u - 268)
    rw [assertReset_link (by omega) h3, e, linkSources_asserted, (State.clearRegs_frame ..).1 .pwr (by decide), asserted]
    exact held
  by_cases h4 : u < 282
  · obtain ⟨x, e⟩ := assertReset_port (s := s) (by omega) h4
    rw [e, (State.setEthPort_frame ..).1 .pwr (by decide), (State.clearRegs_frame ..).1 .pwr (by decide)]
    exact held
  · rw [assertReset_core (by omega), (State.emptyStack_frame ..).1 .pwr (by decide), (State.emptyStack_frame ..).1 .pwr (by decide)]
    exact held

/-! ### Links, ports and cores -/

theorem LNK_STATUS_spec : ∀ l : Fin 12, inUnit (linkUnit l) LNK_STATUS (lnk l) = true ∧ LNK_STATUS.addr (lnk l) ∉ refRegs ∧
    fget (LNK_STATUS.resetAt (lnk l)) LNK_STATUS.STATE = 0 := by decide

/-- A link that is reset is OFF (R826). -/
theorem reset_link {u : Nat} (h1 : 268 ≤ u) (h2 : u < 280) : (s.assertReset u).linkState (u - 268) = 0 := by
  obtain ⟨mine, noref, zero⟩ := LNK_STATUS_spec ⟨u - 268, by omega⟩
  obtain ⟨-, -, -, links, -⟩ := regFile_spec
  have at_ := links ⟨u - 268, by omega⟩
  obtain ⟨a, -, e⟩ := loseLink_shape (s := s.holdUnit u) (u - 268)
  rw [assertReset_link h1 h2, e, State.linkState, linkSources_kept.getF_eq _ noref, State.getF, reg_clearRegs at_ mine, zero]

theorem ETH_spec : ∀ p : Fin 2, (inUnit (280 + p) ETH_PORT_STATUS [(p : Nat)] = true ∧ (ETH_PORT_STATUS.resetAt [(p : Nat)]).toNat = 0) ∧
    inUnit (280 + p) ETH_EVENT [(p : Nat)] = true ∧ (ETH_EVENT.resetAt [(p : Nat)]).toNat = 0 := by decide

/-- An Ethernet port's registers are at their reset values (R826). -/
theorem reset_port {u : Nat} (h1 : 280 ≤ u) (h2 : u < 282) : ((s.assertReset u).reg ETH_PORT_STATUS [u - 280]).toNat = 0 ∧
    ((s.assertReset u).reg ETH_EVENT [u - 280]).toNat = 0 := by
  obtain ⟨⟨mine1, zero1⟩, mine2, zero2⟩ := ETH_spec ⟨u - 280, by omega⟩
  obtain ⟨-, -, -, -, ports⟩ := regFile_spec
  obtain ⟨at1, at2⟩ := ports ⟨u - 280, by omega⟩
  simp only [show 280 + (u - 280) = u by omega] at mine1 mine2
  obtain ⟨x, e⟩ := assertReset_port (s := s) h1 h2
  have kept : RegsOn (fun _ => True) ((s.holdUnit u).clearRegs (inUnit u)) (s.assertReset u) := by
    rw [e]
    exact (State.setEthPort_frame ..).regsOn (by decide)
  refine ⟨?_, ?_⟩
  · rw [kept.reg_eq trivial, reg_clearRegs at1 mine1, zero1]
  · rw [kept.reg_eq trivial, reg_clearRegs at2 mine2, zero2]

/-- Both interrupt stacks of a core that is reset are empty (R643). -/
theorem reset_core {u : Nat} (h : 282 ≤ u) (ht : tok {} s.icu.targets = true) :
    ((s.assertReset u).target (2 * (u - 282))).stack = [] ∧ ((s.assertReset u).target (2 * (u - 282) + 1)).stack = [] := by
  have targets : (s.assertReset u).icu.targets = tput {} (tput {} s.icu.targets (2 * (u - 282)) {}) (2 * (u - 282) + 1) {} := by
    rw [assertReset_core h, emptyStack_targets, emptyStack_targets]
    rfl
  refine ⟨?_, ?_⟩
  · rw [State.target, targets, tget_tput_ne _ _ _ (by omega), tget_tput_same _ _ _ ht]
  · rw [State.target, targets, tget_tput_same _ _ _ (tok_tput _ _ _ ht)]

end

end Sys2Proof.Machine
end

section
/-! UNIT_RESET: the command past its checks (R821, R823, R826). -/

namespace Sys2Proof.Machine

section
variable {s : State} {c : Cmd}

/-- The command has quiesced its unit and waits for it. -/
def State.awaitReset (s : State) (u : Nat) (c : Cmd) (force : Bool) : State :=
  ((s.quiesce u force).1.setJob u (some (s.quiesce u force).2)).wait (.unitReset u) c

theorem awaitReset_frame (u : Nat) (force : Bool) : Frame [.front, .pwr] (s.quiesce u force).1 (s.awaitReset u c force) :=
  .via (State.wait_frame ..) (by decide) ((State.setJob_frame ..).mono (by decide))

theorem awaitReset_waiters (u : Nat) (force : Bool) : c ∈ (s.awaitReset u c force).waiters (.unitReset u) := by
  rw [State.awaitReset, waiters_wait]
  simp

theorem awaitReset_unitRegs (u : Nat) (force : Bool) : RegsOn inUnitRegs s (s.awaitReset u c force) :=
  (quiesce_unitRegs u force).trans ((awaitReset_frame u force).regsOn (by decide))

theorem awaitReset_whole (u : Nat) (force : Bool) : Frame [.regs, .mem, .tempo, .press, .ports, .score, .arb, .front, .pwr] s (s.awaitReset u c force) :=
  .via (awaitReset_frame u force) (by decide) ((State.quiesce_frame ..).mono (by decide))

/-- A Press that UNIT_RESET takes away (R203, R223, R369, R823). -/
theorem unitReset_press {u : Nat} (hu : u < 256) (hw : s.UnitWf) (force : Bool) :
    let t := (s.awaitReset u c force).assertReset u
    PressLost s t u ∧ bitOf (t.reg RST_PRESS [u / 32]) (u % 32) = true ∧ c ∈ t.waiters (.unitReset u) ∧ t.wash u = s.wash u := by
  intro t
  have regs := awaitReset_unitRegs (s := s) (c := c) u force
  have waits := awaitReset_waiters (s := s) (c := c) u force
  have quiet := awaitReset_frame (s := s) (c := c) u force
  have htok : tok 0 (s.awaitReset u c force).regs = true := (awaitReset_whole u force).tok hw.1.2
  have e : t = (((s.awaitReset u c force).holdUnit u).orReg RST_PRESS [u / 32] (2 ^ (u % 32))).losePress u stUnitInReset := assertReset_press hu
  generalize s.awaitReset u c force = a at *
  have held : Frame [.pwr] a (a.holdUnit u) := holdUnit_frame u
  have tokh : tok 0 (a.holdUnit u).regs = true := held.tok htok
  have marked : Frame [.regs, .front, .pwr] (s.quiesce u force).1 ((a.holdUnit u).orReg RST_PRESS [u / 32] (2 ^ (u % 32))) :=
    .via (State.orReg_frame ..) (by decide) <| .via held (by decide) (quiet.mono (by decide))
  have bit : bitOf (((a.holdUnit u).orReg RST_PRESS [u / 32] (2 ^ (u % 32))).reg RST_PRESS [u / 32]) (u % 32) = true := bitOf_orReg_bit tokh (by omega)
  have waitsb : c ∈ ((a.holdUnit u).orReg RST_PRESS [u / 32] (2 ^ (u % 32))).waiters (.unitReset u) := by
    rwa [waiters_frame (State.orReg_frame ..) (by decide), waiters_frame held (by decide)]
  have washb : AON_WASH.addr [u] ∉ [RST_PRESS.addr [u / 32]] := by
    rw [List.mem_singleton, AON_WASH_addr, RST_PRESS_addr]
    omega
  have wash : ((a.holdUnit u).orReg RST_PRESS [u / 32] (2 ^ (u % 32))).wash u = s.wash u := by
    rw [wash_congr (orReg_kept _) washb]
    exact (regs.trans (held.regsOn (by decide))).wash_eq (by rw [AON_WASH_addr]; unfold inUnitRegs; omega)
  generalize (a.holdUnit u).orReg RST_PRESS [u / 32] (2 ^ (u % 32)) = b at *
  have kept : RegsOn inUnitRegs b t := by
    rw [e]
    exact losePress_unitRegs _ hu
  refine ⟨?_, ?_, ?_, ?_⟩
  · rw [e]
    exact pressLost_of_quiesce hw hu marked (.refl _ _)
  · rw [kept.reg_eq (by rw [RST_PRESS_addr]; unfold inUnitRegs; omega), bit]
  · rw [e, waiters_frame (State.losePress_frame ..) (by decide)]
    exact waitsb
  · rw [kept.wash_eq (by rw [AON_WASH_addr]; unfold inUnitRegs; omega), wash]

/-- The command waits while its unit is lost, for every unit but the dies. -/
theorem unitReset_waits {u : Nat} (h : 268 ≤ u) (force : Bool) : c ∈ ((s.awaitReset u c force).assertReset u).waiters (.unitReset u) := by
  have waits := awaitReset_waiters (s := s) (c := c) u force
  generalize s.awaitReset u c force = a at *
  have held : c ∈ (a.holdUnit u).waiters (.unitReset u) := by rwa [waiters_frame (holdUnit_frame u) (by decide)]
  by_cases h3 : u < 280
  · rw [assertReset_link h h3, waiters_frame (State.loseLink_frame ..) (by decide)]
    exact held
  by_cases h4 : u < 282
  · obtain ⟨x, e⟩ := assertReset_port (s := a) (by omega) h4
    rw [e, waiters_frame (State.setEthPort_frame ..) (by decide), waiters_frame (State.clearRegs_frame ..) (by decide)]
    exact held
  · rw [assertReset_core (by omega), waiters_frame (State.emptyStack_frame ..) (by decide), waiters_frame (State.emptyStack_frame ..) (by decide)]
    exact held

/-- UNIT_RESET past its checks: the unit is in reset, and has lost what R826 says. -/
theorem unitReset_spec (hw : s.UnitWf) (ha : s.Accepts c 0x0501) (hn : NoneOf (s.powerTable c)) :
    let u := cmdUnit c
    Completes (exec (.unitReset c) s) (fun t => u ∈ t.pwr.asserted ∧
      (u < 256 → PressLost s t u ∧ bitOf (t.reg RST_PRESS [u / 32]) (u % 32) = true ∧ c ∈ t.waiters (.unitReset u) ∧ t.wash u = s.wash u) ∧
      (256 ≤ u → u < 268 → bitOf (t.reg RST_DIE []) (unitDie u) = true ∧ t.bit CLK_DIE [unitDie u] CLK_DIE.LOCKED = false) ∧
      (256 ≤ u → u < 266 → t.conductor (unitDie u) = {} ∧ t.bit SCR_STATUS [unitDie u] SCR_STATUS.INSTALLED = false) ∧
      (268 ≤ u → u < 280 → t.linkState (u - 268) = 0 ∧ c ∈ t.waiters (.unitReset u)) ∧
      (280 ≤ u → u < 282 → (t.reg ETH_PORT_STATUS [u - 280]).toNat = 0 ∧ (t.reg ETH_EVENT [u - 280]).toNat = 0 ∧ c ∈ t.waiters (.unitReset u)) ∧
      (282 ≤ u → u < 298 → tok {} s.icu.targets = true → (t.target (2 * (u - 282))).stack = [] ∧ (t.target (2 * (u - 282) + 1)).stack = [] ∧
        c ∈ t.waiters (.unitReset u))) := by
  intro u
  have run : exec (.unitReset c) s = .next ((s.awaitReset u c (c.par 0 1 == 1)).assertReset u) := by
    rw [exec_unitReset ha, powerCheck_none (unfoldable_of_ne (by simp [ha.1])) hn]
    rfl
  have quiet := awaitReset_whole (s := s) (c := c) u (c.par 0 1 == 1)
  have press := fun hu : u < 256 => unitReset_press (c := c) hu hw (c.par 0 1 == 1)
  have waits := fun hu : 268 ≤ u => unitReset_waits (s := s) (c := c) hu (c.par 0 1 == 1)
  obtain ⟨wf, -, -, -, cond, -⟩ := hw
  have hregs := quiet.tok wf.2
  have hcond : tok {} (s.awaitReset u c (c.par 0 1 == 1)).cond = true := by rwa [quiet.1 .cond (by decide)]
  have icu := quiet.1 .icu (by decide)
  generalize s.awaitReset u c (c.par 0 1 == 1) = a at *
  rw [run]
  refine ⟨_, rfl, assertReset_asserted u, press, fun h1 h2 => reset_die h1 h2 hregs, fun h1 h2 => reset_conductor h1 h2 hcond,
    fun h1 h2 => ⟨reset_link h1 h2, waits h1⟩, fun h1 h2 => ?_, fun h1 _ ht => ?_⟩
  · obtain ⟨status, event⟩ := reset_port (s := a) h1 h2
    exact ⟨status, event, waits (by omega)⟩
  · obtain ⟨low, high⟩ := reset_core (s := a) h1 (by rwa [icu])
    exact ⟨low, high, waits (by omega)⟩

end

end Sys2Proof.Machine
end

section
/-! UNIT_FOLD past its checks (R823, R835 to R837, R839): what a unit that is folded has lost. -/

namespace Sys2Proof.Machine

section
variable {s t : State} {c : Cmd}

/-! ### Presses -/

/-- One Press is lost, and its fold bit set. -/
def State.foldPress (s : State) (p : Nat) : State := (s.losePress p stUnitFolded).orReg PWR_PFOLD [p / 32] (2 ^ (p % 32))

theorem foldPress_frame (p : Nat) : Frame [.regs, .mem, .press, .sects, .queues, .qseq, .ports, .score, .tacks] s (s.foldPress p) :=
  .via (State.orReg_frame ..) (by decide) (State.losePress_frame ..)

theorem foldPress_sources (p : Nat) : (s.foldPress p).sources = s.sources :=
  ((State.orReg_frame ..).sources (by decide)).trans (losePress_sources p stUnitFolded)

/-- The fold bits of the Presses come to stand, and stay. -/
theorem foldPress_bit {p d i : Nat} (hp : p < 256) (hd : d < 8) (h : tok 0 s.regs = true) (hs : bitOf (s.reg PWR_PFOLD [d]) i = true ∨ p = 32 * d + i)
    (hi : i < 32) : bitOf ((s.foldPress p).reg PWR_PFOLD [d]) i = true := by
  have kept : RegsOn inUnitRegs s (s.losePress p stUnitFolded) := losePress_unitRegs _ hp
  have htok : tok 0 (s.losePress p stUnitFolded).regs = true := (State.losePress_frame ..).tok h
  have same : (s.losePress p stUnitFolded).reg PWR_PFOLD [d] = s.reg PWR_PFOLD [d] := kept.reg_eq (by rw [PWR_PFOLD_addr]; unfold inUnitRegs; omega)
  rw [State.foldPress]
  generalize s.losePress p stUnitFolded = a at htok same
  by_cases he : p / 32 = d
  · rw [he, bitOf_orReg _ _ htok, same, Nat.testBit_two_pow]
    rcases hs with hs | hs
    · rw [hs, Bool.true_or]
    · simp only [show p % 32 = i by omega, decide_true, show i < 64 by omega, Bool.true_and, Bool.or_true]
  · rw [(orReg_kept _).reg_eq (by rw [List.mem_singleton, PWR_PFOLD_addr, PWR_PFOLD_addr]; omega), same]
    exact hs.resolve_right (by omega)

theorem foldPresses_bit {d i : Nat} (hd : d < 8) (hi : i < 32) : ∀ (l : List Nat) (s : State), tok 0 s.regs = true → (∀ p ∈ l, p < 256) →
    bitOf (s.reg PWR_PFOLD [d]) i = true ∨ 32 * d + i ∈ l → bitOf ((l.foldl State.foldPress s).reg PWR_PFOLD [d]) i = true
  | [], _, _, _, h => h.resolve_right List.not_mem_nil
  | p :: l, s, ht, hl, h => by
    have bound : p < 256 := hl p List.mem_cons_self
    refine foldPresses_bit hd hi l (s.foldPress p) ((foldPress_frame p).tok ht) (fun q hq => hl q (List.mem_cons_of_mem _ hq)) ?_
    rcases h with h | h
    · exact .inl (foldPress_bit bound hd ht (.inl h) hi)
    · rcases List.mem_cons.mp h with h | h
      · exact .inl (foldPress_bit bound hd ht (.inr h.symm) hi)
      · exact .inr h

theorem foldPresses_frame (l : List Nat) : Frame [.regs, .mem, .press, .sects, .queues, .qseq, .ports, .score, .tacks] s (l.foldl State.foldPress s) :=
  .foldl (fun _ p h => h.trans (foldPress_frame p)) _ _ (.refl _ s)

/-- The offsets of the wash counts. -/
def inWash (a : Nat) : Prop := 0x303400 ≤ a ∧ a < 0x303860

theorem RegsOn.washRegs (h : RegsOn inUnitRegs s t) : RegsOn inWash s t := h.mono fun _ ha => .inr (.inr ha)

theorem orReg_wash {r : Reg} {ix : List Nat} (m : Nat) (h : ¬inWash (r.addr ix)) : RegsOn inWash s (s.orReg r ix m) :=
  (orReg_kept m).on fun a ha => by rwa [List.mem_singleton.mp ha]

theorem PFOLD_not_wash {d : Nat} (hd : d < 8) : ¬inWash (PWR_PFOLD.addr [d]) := by
  rw [PWR_PFOLD_addr]
  unfold inWash
  omega

theorem foldPress_wash {p : Nat} (hp : p < 256) : RegsOn inWash s (s.foldPress p) :=
  (losePress_unitRegs stUnitFolded hp).washRegs.trans (orReg_wash _ (PFOLD_not_wash (by omega)))

theorem foldPresses_wash (l : List Nat) (hl : ∀ p ∈ l, p < 256) : RegsOn inWash s (l.foldl State.foldPress s) :=
  .foldl _ (fun _ p hp => foldPress_wash (hl p hp)) s

theorem unitPresses_lt {u p : Nat} (h : p ∈ unitPresses u) : p < 256 := by
  unfold unitPresses at h
  split_ifs at h
  · rw [List.mem_singleton.mp h]
    assumption
  · obtain ⟨k, hk, rfl⟩ := List.mem_map.mp h
    rw [List.mem_range] at hk
    omega
  · exact absurd h List.not_mem_nil

/-! ### E0 -/

/-- E0 without power holds no port and no queue (R839). -/
theorem loseE0_eth (st : Nat) : (s.loseE0 st).eth.ports = [] ∧ (s.loseE0 st).eth.queues = [] := by
  unfold State.loseE0
  extract_lets cs eth a b f e
  have empty : a.eth.ports = [] ∧ a.eth.queues = [] := ⟨rfl, rfl⟩
  have hb : Frame [.press] a b := .foldl (fun _ _ h => .via (State.setPrs_frame ..) (by decide) h) _ _ (.refl _ a)
  have hf : Frame [.score, .dieBase] b f := .via (State.setDieCount_frame ..) (by decide) ((State.loseFlights_frame ..).mono (by decide))
  have he : e.eth = f.eth := rfl
  have answers : Frame [.regs, .mem, .front] (e.clearRegs (inDie 11)) (cs.foldl (fun s c => s.complete c st []) (e.clearRegs (inDie 11))) :=
    .foldl (fun _ _ h => .via (State.complete_frame ..) (by decide) h) _ _ (.refl _ _)
  rw [answers.1 .eth (by decide), (State.clearRegs_frame ..).1 .eth (by decide), he, hf.1 .eth (by decide), hb.1 .eth (by decide)]
  exact empty

/-! ### The units that fold -/

theorem foldUnit_press {u : Nat} (h : u < 256) : s.foldUnit u = s.foldPress u := by
  simp only [State.foldUnit, unitPresses, h, if_true, List.foldl_cons, List.foldl_nil]
  rfl

theorem foldUnit_die {u : Nat} (h1 : 256 ≤ u) (h2 : u < 264) :
    s.foldUnit u = (((unitPresses u).foldl State.foldPress s).foldPort (u - 256)).orReg PWR_DIE [] (2 ^ (u - 256)) := by
  have die : unitDie u = u - 256 := by simp [unitDie, h2, Nat.not_lt.mpr h1]
  simp only [State.foldUnit, Nat.not_lt.mpr h1, h2, if_false, if_true, die]
  rfl

theorem foldUnit_e0 : s.foldUnit 266 = ((((s.dropSeams 11).captureReset).loseE0 stUnitFolded).orReg PWR_DIE [] (2 ^ 11)).setF CLK_DIE [11] CLK_DIE.LOCKED 0 := by
  simp only [State.foldUnit, unitPresses, show ¬(266 < 256) by decide, show ¬(266 < 264) by decide, if_false, List.foldl_nil]

theorem foldPort_selfRefresh (d : Nat) (h : tok 0 s.regs = true) : (s.foldPort d).bit MEM_STATUS [d] MEM_STATUS.SELF_REFRESH = true := by
  unfold State.foldPort
  extract_lets cmds a
  have ha : tok 0 a.regs = true := (State.setPort_frame ..).tok h
  have done : Frame [.regs, .mem, .ports, .front] a (cmds.foldl (fun s c => s.finishScans c) a) :=
    .foldl (fun _ _ h => .via (State.finishScans_frame ..) (by decide) h) _ _ (.refl _ a)
  have htok := done.tok ha
  generalize cmds.foldl (fun s c => s.finishScans c) a = b at htok
  rw [State.bit, getF_setF_same _ _ _ _ _ (setF_tok _ _ _ _ _ htok) (by decide)]
  decide

end

end Sys2Proof.Machine
end

section
/-! UNIT_FOLD: the command past its checks, and O49. -/

namespace Sys2Proof.Machine

section
variable {s : State} {c : Cmd}

/-- The unit is quiesced and folded, and the fold reported. -/
def State.folded (s : State) (u : Nat) (force : Bool) : State :=
  ((s.quiesce u force).1.foldUnit u).setLogged 10 RST_EVENT [] RST_EVENT.FOLD_DONE

theorem quiesce_tok (u : Nat) (force : Bool) (h : tok 0 s.regs = true) : tok 0 (s.quiesce u force).1.regs = true := (State.quiesce_frame ..).tok h

theorem foldUnit_wash {u : Nat} (h : u < 264 ∨ u = 266) : RegsOn inWash s (s.foldUnit u) := by
  have die : ¬inWash (PWR_DIE.addr []) := by
    rw [PWR_DIE_addr]
    unfold inWash
    omega
  by_cases h1 : u < 256
  · rw [foldUnit_press h1]
    exact foldPress_wash h1
  by_cases h2 : u < 264
  · rw [foldUnit_die (by omega) h2]
    exact .via (orReg_wash _ die) <| .via (foldPort_power _).unitRegs.washRegs (foldPresses_wash _ fun _ => unitPresses_lt)
  · obtain rfl : u = 266 := by omega
    have root : ¬inWash (CLK_DIE.addr [11]) := by
      rw [CLK_DIE_addr]
      unfold inWash
      omega
    rw [foldUnit_e0]
    refine .via ((setF_kept _ CLK_DIE [11] _ _).on fun a ha => by rwa [List.mem_singleton.mp ha]) <| .via (orReg_wash _ die) <|
      .via (loseE0_power _).unitRegs.washRegs <| .via captureReset_power.unitRegs.washRegs (dropSeams_power 11).unitRegs.washRegs

theorem foldUnit_tok {u : Nat} (h : u < 264 ∨ u = 266) (ht : tok 0 s.regs = true) : tok 0 (s.foldUnit u).regs = true := by
  by_cases h1 : u < 256
  · rw [foldUnit_press h1]
    exact (foldPress_frame u).tok ht
  by_cases h2 : u < 264
  · rw [foldUnit_die (by omega) h2]
    exact (State.orReg_frame ..).tok ((State.foldPort_frame ..).tok ((foldPresses_frame _).tok ht))
  · obtain rfl : u = 266 := by omega
    rw [foldUnit_e0]
    exact (State.setF_frame ..).tok ((State.orReg_frame ..).tok ((State.loseE0_frame ..).tok ((State.captureReset_frame _).tok ((State.dropSeams_frame ..).tok ht))))

/-- The report touches RST_EVENT alone. -/
theorem folded_kept (u : Nat) (force : Bool) : RegsKept [0x301048] ((s.quiesce u force).1.foldUnit u) (s.folded u force) :=
  setLogged_kept _ 10 RST_EVENT [] RST_EVENT.FOLD_DONE

theorem folded_frame (u : Nat) (force : Bool) : Frame [.regs, .arb] ((s.quiesce u force).1.foldUnit u) (s.folded u force) := State.setLogged_frame ..

theorem folded_wash {u : Nat} (h : u < 264 ∨ u = 266) (force : Bool) : (s.folded u force).wash u = s.wash u ∧
    ((s.quiesce u force).1.foldUnit u).wash u = s.wash u := by
  have at_ : inWash (AON_WASH.addr [u]) := by
    rw [AON_WASH_addr]
    unfold inWash
    omega
  have before : ((s.quiesce u force).1.foldUnit u).wash u = s.wash u :=
    ((quiesce_unitRegs u force).washRegs.trans (foldUnit_wash h)).wash_eq at_
  refine ⟨?_, before⟩
  rw [wash_congr (folded_kept u force) (by rw [AON_WASH_addr, List.mem_singleton]; omega), before]

/-- A Press that UNIT_FOLD takes away (R836). -/
theorem folded_press {u : Nat} (hu : u < 256) (hw : s.UnitWf) (force : Bool) :
    PressLost s (s.folded u force) u ∧ bitOf ((s.folded u force).reg PWR_PFOLD [u / 32]) (u % 32) = true := by
  have e : (s.quiesce u force).1.foldUnit u = (s.quiesce u force).1.foldPress u := foldUnit_press hu
  have report := folded_frame (s := s) u force
  have kept := folded_kept (s := s) u force
  rw [e] at report kept
  refine ⟨pressLost_of_quiesce hw hu (.refl _ _) (.trans ((State.orReg_frame ..).mono (by decide)) report), ?_⟩
  rw [kept.reg_eq (by rw [PWR_PFOLD_addr, List.mem_singleton]; omega)]
  exact foldPress_bit hu (by omega) (quiesce_tok u force hw.1.2) (.inr (by omega)) (by omega)

/-- The PWR_DIE bit of a die that UNIT_FOLD takes away (R837, R839). -/
theorem folded_bit {u : Nat} (h1 : 256 ≤ u) (h : u < 264 ∨ u = 266) (ht : tok 0 s.regs = true) (force : Bool) :
    bitOf ((s.folded u force).reg PWR_DIE []) (unitDie u) = true := by
  have htok := quiesce_tok u force ht
  rw [(folded_kept u force).reg_eq (by decide)]
  generalize (s.quiesce u force).1 = q at htok
  by_cases h2 : u < 264
  · have die : unitDie u = u - 256 := by simp [unitDie, h2, Nat.not_lt.mpr h1]
    rw [foldUnit_die h1 h2, die]
    exact bitOf_orReg_bit ((State.foldPort_frame ..).tok ((foldPresses_frame _).tok htok)) (by omega)
  · obtain rfl : u = 266 := by omega
    have tokb : tok 0 (((q.dropSeams 11).captureReset).loseE0 stUnitFolded).regs = true :=
      (State.loseE0_frame ..).tok ((State.captureReset_frame _).tok ((State.dropSeams_frame ..).tok htok))
    rw [foldUnit_e0]
    generalize ((q.dropSeams 11).captureReset).loseE0 stUnitFolded = b at tokb
    rw [(setF_kept (b.orReg PWR_DIE [] (2 ^ 11)) CLK_DIE [11] _ _).reg_eq (by decide)]
    exact bitOf_orReg_bit tokb (by decide)

theorem foldPresses_sources (l : List Nat) : (l.foldl State.foldPress s).sources = s.sources := foldl_sources l (fun _ p => foldPress_sources p) s

theorem quiesce_die_desc {u : Nat} (h1 : 256 ≤ u) (h2 : u < 264) (force : Bool) : ∀ x ∈ (s.quiesce u force).1.score.desc, x.die ≠ u - 256 := by
  intro x hx
  have ends : (s.quiesce u force).1 = ((s.fenceUnit u force).endStreams (fun d => d.die == u - 256) 1).1 := by
    rw [quiesce_eq, State.endUnitStreams, if_neg (by omega), if_pos h2]
  rw [ends] at hx
  simpa using (endStreams_desc _ 1 x hx).2

/-- A Press die that UNIT_FOLD takes away: its Presses are folded, its Seams and Conductor go on, its stack refreshes itself and its streams have
ended (R827, R836, R837). -/
theorem folded_die {u : Nat} (h1 : 256 ≤ u) (h2 : u < 264) (ht : tok 0 s.regs = true) (force : Bool) :
    (∀ k, k < 32 → bitOf ((s.folded u force).reg PWR_PFOLD [u - 256]) k = true) ∧ (s.folded u force).seams = s.seams ∧
    (s.folded u force).conductor (u - 256) = s.conductor (u - 256) ∧ (s.folded u force).bit MEM_STATUS [u - 256] MEM_STATUS.SELF_REFRESH = true ∧
    ∀ x ∈ (s.folded u force).score.desc, x.die ≠ u - 256 := by
  have hd : u - 256 < 8 := by omega
  have mem : ∀ k, k < 32 → 32 * (u - 256) + k ∈ unitPresses u := fun k hk => by
    have := (mem_unitPresses_die (p := 32 * (u - 256) + k) hd).mpr ⟨k, hk, rfl⟩
    rwa [show 256 + (u - 256) = u by omega] at this
  have quiet : Frame [.regs, .mem, .tempo, .press, .ports, .score, .arb] s (s.quiesce u force).1 := State.quiesce_frame ..
  have desc := quiesce_die_desc (s := s) h1 h2 force
  have report := folded_frame (s := s) u force
  have kept := folded_kept (s := s) u force
  rw [foldUnit_die h1 h2] at report kept
  have htok := quiet.tok ht
  generalize s.folded u force = w at *
  generalize (s.quiesce u force).1 = q at *
  have presses := foldPresses_frame (s := q) (unitPresses u)
  have tokp := presses.tok htok
  have bits := fun k hk => foldPresses_bit (i := k) hd hk (unitPresses u) q htok (fun _ => unitPresses_lt) (.inr (mem k hk))
  have sources := foldPresses_sources (s := q) (unitPresses u)
  generalize (unitPresses u).foldl State.foldPress q = a at *
  have selfRefresh := foldPort_selfRefresh (s := a) (u - 256) tokp
  have port : Frame [.regs, .mem, .ports, .front] a (a.foldPort (u - 256)) := State.foldPort_frame ..
  have power := foldPort_power (s := a) (u - 256)
  generalize a.foldPort (u - 256) = b at *
  have ends : RegsOn (fun x => x ≠ 0x301048 ∧ x ≠ 0x302000) b w :=
    ((orReg_kept _).on fun x hx hQ => hQ.2 (List.mem_singleton.mp hx)).trans (kept.on fun x hx hQ => hQ.1 (List.mem_singleton.mp hx))
  have last : Frame [.regs, .arb] b w := .trans ((State.orReg_frame ..).mono (by decide)) report
  have all : Frame [.regs, .mem, .press, .sects, .queues, .qseq, .ports, .score, .tacks, .front, .arb, .tempo] s w :=
    .trans (quiet.mono (by decide)) <| .trans (presses.mono (by decide)) <| .trans (port.mono (by decide)) (last.mono (by decide))
  refine ⟨fun k hk => ?_, all.1 .seams (by decide), ?_, ?_, fun x hx => ?_⟩
  · rw [ends.reg_eq (by rw [PWR_PFOLD_addr]; omega), power.reg_eq (by rw [PWR_PFOLD_addr]; unfold inPower; omega), bits k hk]
  · rw [State.conductor, all.1 .cond (by decide)]
    rfl
  · rw [ends.bit_eq _ (by rw [MEM_STATUS_addr]; omega), selfRefresh]
  · have in_ : (x.die, x.press) ∈ w.sources := List.mem_map_of_mem hx
    rw [last.sources (by decide), port.sources (by decide), sources] at in_
    obtain ⟨y, hy, e⟩ := List.mem_map.mp in_
    rw [Prod.mk.injEq] at e
    rw [← e.1]
    exact desc y hy

theorem folded_e0 (force : Bool) : (s.folded 266 force).eth.ports = [] ∧ (s.folded 266 force).eth.queues = [] := by
  have report := folded_frame (s := s) 266 force
  rw [foldUnit_e0] at report
  have same : (s.folded 266 force).eth = (((s.quiesce 266 force).1.dropSeams 11).captureReset.loseE0 stUnitFolded).eth :=
    (report.1 .eth (by decide)).trans <| ((State.setF_frame ..).1 .eth (by decide)).trans ((State.orReg_frame ..).1 .eth (by decide))
  rw [same]
  exact loseE0_eth _

/-- UNIT_FOLD past its checks: the unit is gone, and the command completes. -/
theorem unitFold_spec (us : BitVec 32) (hw : s.UnitWf) (ha : s.Accepts c 0x0502) (hn : NoneOf (s.powerTable c)) :
    let u := cmdUnit c
    (u < 264 ∨ u = 266) → ∃ (w : State) (n : Nat), exec (.unitFold c us) s = .next (w.complete c stOk (leBytes 2 (s.wash u) ++ leBytes 4 us.toNat ++ leBytes 2 n)) ∧
      w.bit RST_EVENT [] RST_EVENT.FOLD_DONE = true ∧ w.wash u = s.wash u ∧
      (u < 256 → PressLost s w u ∧ bitOf (w.reg PWR_PFOLD [u / 32]) (u % 32) = true) ∧
      (256 ≤ u → bitOf (w.reg PWR_DIE []) (unitDie u) = true) ∧
      (256 ≤ u → u < 264 → (∀ k, k < 32 → bitOf (w.reg PWR_PFOLD [u - 256]) k = true) ∧ w.seams = s.seams ∧ w.conductor (u - 256) = s.conductor (u - 256) ∧
        w.bit MEM_STATUS [u - 256] MEM_STATUS.SELF_REFRESH = true ∧ ∀ x ∈ w.score.desc, x.die ≠ u - 256) ∧
      (u = 266 → w.eth.ports = [] ∧ w.eth.queues = []) := by
  intro u h
  obtain ⟨wash, before⟩ := folded_wash (s := s) h (c.par 0 1 == 1)
  have run : exec (.unitFold c us) s = .next ((s.folded u (c.par 0 1 == 1)).complete c stOk
      (leBytes 2 (s.wash u) ++ leBytes 4 us.toNat ++ leBytes 2 (s.quiesce u (c.par 0 1 == 1)).2)) := by
    rw [exec_unitFold us ha, powerCheck_none (unfoldable_of_ne (by simp [ha.1])) hn]
    simp only [State.unitResult]
    rw [before]
    rfl
  refine ⟨_, _, run, ?_, wash, fun hu => folded_press hu hw _, fun h1 => folded_bit h1 h hw.1.2 _, fun h1 h2 => folded_die h1 h2 hw.1.2 _, fun e => ?_⟩
  · exact bit_setLogged_same (foldUnit_tok h (quiesce_tok u _ hw.1.2)) (by decide) (by decide)
  · rw [e]
    exact folded_e0 _

end

end Sys2Proof.Machine
end

section
/-! UNIT_UNFOLD past its checks (R838), and the four commands together. -/

namespace Sys2Proof.Machine

section
variable {s : State} {c : Cmd}

theorem unitUnfold_spec (hw : s.wf) (ha : s.Accepts c 0x0503) (hn : NoneOf (s.powerTable c)) :
    let u := cmdUnit c
    (u < 256 → s.dieFolded (u / 32) = false → Completes (exec (.unitUnfold c) s) (fun t => bitOf (t.reg PWR_PFOLD [u / 32]) (u % 32) = false ∧
      bitOf (t.reg RST_PRESS [u / 32]) (u % 32) = true ∧ t.waiters (.unfold u) = s.waiters (.unfold u) ++ [c] ∧ u ∈ t.pwr.unfolding ∧
      RegsKept [PWR_PFOLD.addr [u / 32], RST_PRESS.addr [u / 32]] s t ∧ Frame [.regs, .front, .pwr] s t)) ∧
    (256 ≤ u → u < 264 → Completes (exec (.unitUnfold c) s) (fun t => bitOf (t.reg PWR_DIE []) (u - 256) = false ∧
      (∀ k, k < 32 → bitOf (t.reg PWR_PFOLD [u - 256]) k = false ∧ bitOf (t.reg RST_PRESS [u - 256]) k = true) ∧
      t.waiters (.unfold u) = s.waiters (.unfold u) ++ [c] ∧ Frame [.regs, .front, .pwr] s t)) ∧
    (u = 266 → Completes (exec (.unitUnfold c) s) (fun t => bitOf (t.reg PWR_DIE []) 11 = false ∧ bitOf (t.reg RST_DIE []) 11 = true ∧
      t.waiters (.unfold u) = s.waiters (.unfold u) ++ [c] ∧ Frame [.regs, .front, .pwr] s t)) := by
  intro u
  have run : s.unfoldable c → exec (.unitUnfold c) s = .next ((s.unfoldUnit u).awaitUnfold u c) := fun h => by
    rw [exec_unitUnfold ha, powerCheck_none h hn]
  refine ⟨fun hu hf => ⟨_, run fun _ => .inr hf, unitUnfold_press hu hw.2⟩, fun h1 h2 => ⟨_, run fun _ => .inl h1, unitUnfold_die h1 h2 hw.2⟩,
    fun e => ⟨_, run fun _ => .inl (by omega), ?_⟩⟩
  rw [e]
  exact unitUnfold_e0 hw.2

end

/-- Settles O49: the checks are the table's rows in its order; past them a unit's streams end, then its bits are set, and no loss touches the registers
that say which units are away, since they belong to no domain that a unit's reset returns. -/
theorem unitsGoAway : Obligations.UnitsGoAway := by
  unfold Obligations.UnitsGoAway
  refine ⟨fun c us st s hf => power_refuses us st hf, fun c s hw ha hn => unitReset_spec hw ha hn, fun c us s hw ha hn => unitFold_spec us hw ha hn,
    fun c s hw ha hn => unitUnfold_spec hw ha hn, fun c us s hw ha hn => ⟨fun hu hv => ?_, fun hu hv hp => ?_, fun hu hp => ?_⟩⟩
  · exact pstateSet_idles us hw.1 ha hn hu hv
  · exact pstateSet_lowers us hw ha hn hu hv hp
  · exact pstateSet_rises us hw ha hn hu hp

end Sys2Proof.Machine
end

section
/-! The issue of the instructions that name no tile (R226, R233, R236): what runs after the stalls are counted, and where the counters of a
section and of a Press lie. -/

namespace Sys2Proof.Machine

/-! ### Where the counters lie -/

theorem addr_telSect {r : Reg} (hd : r.dies = none) (hs : r.dims = [(8, 0x1000), (32, 0x40), (4, 0x10)]) (p k : Nat) :
    r.addr (six p k) = r.off + (p / 32 * 0x1000 + (p % 32 * 0x40 + k * 0x10)) := by simp [Reg.addr, hd, hs, six, dimOff]

theorem addr_memPress {r : Reg} (hd : r.dies = none) (hs : r.dims = [(8, 0x20000), (32, 0x20)]) (p : Nat) :
    r.addr (pix p) = r.off + (p / 32 * 0x20000 + p % 32 * 0x20) := by simp [Reg.addr, hd, hs, pix, dimOff]

/-- A counter of a section in the telemetry window is no stall counter when its offset is another one than that of TEL_SECT_DEP. -/
theorem telSect_apart {r : Reg} (hd : r.dies = none) (hs : r.dims = [(8, 0x1000), (32, 0x40), (4, 0x10)])
    (ho : 0x1810000 < r.off ∧ r.off < 0x1810010) (p : Fin 256) (k : Fin 4) : r.addr (six p k) ∉ stallRegs p k := by
  have win := dieWin_press p.isLt
  rw [stallRegs_eq, addr_telSect hd hs]
  simp only [List.mem_cons, List.not_mem_nil, or_false]
  omega

theorem MEM_QFULL_apart (p : Fin 256) (k : Fin 4) : MEM_QFULL.addr (pix p) ∉ stallRegs p k := by
  have win := dieWin_press p.isLt
  have off : MEM_QFULL.off = 0x1601008 := rfl
  rw [stallRegs_eq, addr_memPress rfl rfl, off]
  simp only [List.mem_cons, List.not_mem_nil, or_false]
  omega

/-- The five stall counters are five registers. -/
theorem stallRegs_nodup (p : Fin 256) (k : Fin 4) : (stallRegs p k).Nodup := by
  have win := dieWin_press p.isLt
  rw [stallRegs_eq]
  simp only [List.nodup_cons, List.mem_cons, List.not_mem_nil, or_false, not_false_eq_true, List.nodup_nil, and_true]
  omega

/-! ### Counters -/

section
variable {s t u : State} {r : Reg} {ix : List Nat} {f : Fld} {n : Nat} {as : List Nat}

/-- What happens before and after a count, elsewhere, does not show in it. -/
theorem Counted.after (h : Counted r ix f n t u) (k : RegsKept as s t) (hr : r.addr ix ∉ as) : Counted r ix f n s u := by
  rw [Counted, h, k.getF_eq f hr]

theorem Counted.before (h : Counted r ix f n s t) (k : RegsKept as t u) (hr : r.addr ix ∉ as) : Counted r ix f n s u := by
  rw [Counted, k.getF_eq f hr, h]

theorem RegsKept.weaken {bs : List Nat} (h : RegsKept as s t) (hs : as ⊆ bs) : RegsKept bs s t := (RegsKept.refl bs s).then h hs

theorem incF_kept (s : State) (r : Reg) (ix : List Nat) (f : Fld) (n : Nat) : RegsKept [r.addr ix] s (s.incF r ix f n) := setF_kept s r ix f _

end

/-- A counter field, and by how much it rises. -/
structure Rise where
  reg : Reg
  ix : List Nat
  fld : Fld
  n : Nat

/-- Where the counter lies. -/
def Rise.addr (c : Rise) : Nat := c.reg.addr c.ix

/-- The counter has risen from `s` to `t` (R904). -/
def Rise.Shows (c : Rise) (s t : State) : Prop := Counted c.reg c.ix c.fld c.n s t

/-- Raise one counter (R904). -/
def State.count (s : State) (c : Rise) : State := s.incF c.reg c.ix c.fld c.n

/-- Counters in different registers that are raised one after another each show their own count. -/
theorem counted_foldl : ∀ (l : List Rise) {s : State}, tok 0 s.regs = true → (l.map Rise.addr).Nodup →
    (∀ c ∈ l, c.fld.lo + c.fld.width ≤ 64) → ∀ c ∈ l, c.Shows s (l.foldl State.count s)
  | [], _, _, _, _, c, hc => absurd hc List.not_mem_nil
  | a :: l, s, h, nd, fit, c, hc => by
    obtain ⟨ha, nd⟩ := List.nodup_cons.mp nd
    obtain ⟨fa, fit⟩ := List.forall_mem_cons.mp fit
    have rest : RegsKept (l.map Rise.addr) (s.count a) (l.foldl State.count (s.count a)) :=
      RegsKept.foldl l (fun s x hx => (incF_kept s _ _ _ _).weaken (by rw [List.cons_subset]; exact ⟨List.mem_map_of_mem (f := Rise.addr) hx, List.nil_subset _⟩)) _
    rcases List.mem_cons.mp hc with rfl | hc
    · exact (counted_incF s _ _ _ _ h fa).before rest ha
    · refine (counted_foldl l (setF_tok _ _ _ _ _ h) nd fit c hc).after (incF_kept s a.reg a.ix a.fld a.n) fun e => ha ?_
      rw [Rise.addr, ← List.mem_singleton.mp e]
      exact List.mem_map_of_mem hc

/-- The stall counters of an instruction (R181, R194, R200, R236, R365). -/
def stallCounts (p k : Nat) (w : Stalls) : List Rise :=
  [⟨TEL_SECT_DEP, six p k, TEL_SECT_DEP.COUNT, w.dep⟩, ⟨SCT_BANK_STALLS, six p k, SCT_BANK_STALLS.COUNT, w.bank⟩,
    ⟨PRS_BOARD_STALLS, pix p, PRS_BOARD_STALLS.COUNT, w.board⟩, ⟨PRS_HOLD_STALLS, pix p, PRS_HOLD_STALLS.COUNT, w.hold⟩,
    ⟨MEM_SBWAIT, pix p, MEM_SBWAIT.COUNT, w.sb⟩]

theorem addStalls_eq_foldl (s : State) (p k : Nat) (w : Stalls) : s.addStalls p k w = (stallCounts p k w).foldl State.count s := rfl

/-- Each stall counter shows the stalls of its kind. -/
theorem addStalls_counted {s : State} {p : Fin 256} {k : Fin 4} {w : Stalls} (h : tok 0 s.regs = true) :
    ∀ c ∈ stallCounts p k w, c.Shows s (s.addStalls p k w) := by
  have fit : ∀ c ∈ stallCounts p k w, c.fld.lo + c.fld.width ≤ 64 := by
    simp only [stallCounts, List.forall_mem_cons]
    decide
  exact addStalls_eq_foldl s p k w ▸ counted_foldl (stallCounts p k w) h (stallRegs_nodup p k) fit

/-- The five stall counters one by one. -/
theorem stallCounts_show {s t : State} {p k : Nat} {w : Stalls} (h : ∀ c ∈ stallCounts p k w, c.Shows s t) :
    Counted TEL_SECT_DEP (six p k) TEL_SECT_DEP.COUNT w.dep s t ∧ Counted SCT_BANK_STALLS (six p k) SCT_BANK_STALLS.COUNT w.bank s t ∧
    Counted PRS_BOARD_STALLS (pix p) PRS_BOARD_STALLS.COUNT w.board s t ∧ Counted PRS_HOLD_STALLS (pix p) PRS_HOLD_STALLS.COUNT w.hold s t ∧
    Counted MEM_SBWAIT (pix p) MEM_SBWAIT.COUNT w.sb s t := by
  simpa only [stallCounts, List.forall_mem_cons, Rise.Shows, List.not_mem_nil, false_imp_iff, implies_true, and_true] using h

/-! ### What an issued instruction leaves -/

section
variable {s u : State} {p : Fin 256} {k : Fin 4} {w : Stalls} {i : Nat} {ins : PInstr} {more : List Nat}

/-- The command of an instruction at which the section stands acts after the stalls are counted. -/
theorem completes_at {c : Instr} {is_ : PInstr → Bool} {act : State → Nat → PWord → State} {P : State → Prop} {pw : PWord}
    (hcan : s.canIssue p k = true) (hat : s.partAt p k = some (i, pw)) (hc : exec c s = .next (s.partRow p k w is_ act)) (hi : is_ pw.i = true)
    (hu : act (s.addStalls p k w) i pw = u) (hP : P u) : Completes (exec c s) P :=
  ⟨u, hc.trans (by simp [State.partRow, hcan, hat, hi, hu]), hP⟩

theorem completes_issue {c : Instr} {is_ : PInstr → Bool} {act : State → Nat → PWord → State} {P : State → Prop} (h : s.Issues p k i ins)
    (hc : exec c s = .next (s.partRow p k w is_ act)) (hi : is_ ins = true) (hu : ∀ v sm, act (s.addStalls p k w) i ⟨v, sm, ins⟩ = u) (hP : P u) :
    Completes (exec c s) P :=
  have ⟨hcan, _, _, v, sm, hat⟩ := h
  completes_at hcan hat hc hi (hu v sm) hP

@[simp] theorem Section.setVec_pendW (x : Section) (n : Nat) (vs : List (BitVec 32)) : (x.setVec n vs).pendW = x.pendW := rfl
@[simp] theorem Section.setVec_st (x : Section) (n : Nat) (vs : List (BitVec 32)) : (x.setVec n vs).st = x.st := rfl

/-- The section of an instruction that retires goes on behind index `n`, with the registers that `f` sets. -/
theorem retires (h : s.Issues p k i ins) (n : Nat) {f : Section → Section} (hp : (f (s.sect p k)).pendW = (s.sect p k).pendW)
    (hs : (f (s.sect p k)).st = (s.sect p k).st) (kept : RegsKept (more ++ stallRegs p k) s u) (frame : Frame [.regs] s u) :
    Retired s (u.retireAt p k n f) p k (n + 1) (f (s.sect p k)) ∧ OnlySection s (u.retireAt p k n f) p k more := by
  obtain ⟨-, hst, hpend, -⟩ := h
  exact ⟨retireAt_retired n f (frame.1 .sects (by decide)) (hp.trans hpend) (by rw [hs, hst]; decide), onlySection_retireAt n f kept frame⟩

/-- An instruction that waits. -/
theorem waits (h : s.Issues p k i ins) (c : SecWait) (kept : RegsKept (more ++ stallRegs p k) s u) (frame : Frame [.regs] s u) :
    Waits s (u.waitAt p k i c) p k i c ∧ OnlySection s (u.waitAt p k i c) p k more := by
  obtain ⟨-, -, hpend, -⟩ := h
  exact ⟨waitAt_waits i c (frame.1 .sects (by decide)) hpend, kept.trans (.of_regs_eq rfl),
    (frame.mono (by decide)).trans ((State.waitAt_frame ..).mono (by decide))⟩

/-- After the stalls, one counter of the instruction's own is raised. -/
theorem countOwn_kept (r : Reg) (ix : List Nat) (f : Fld) (n : Nat) :
    RegsKept ([r.addr ix] ++ stallRegs p k) s ((s.addStalls p k w).incF r ix f n) :=
  (addStalls_kept.weaken (by simp)).incF (by simp)

theorem countOwn_frame (r : Reg) (ix : List Nat) (f : Fld) (n : Nat) : Frame [.regs] s ((s.addStalls p k w).incF r ix f n) :=
  addStalls_frame_regs.trans (State.incF_frame ..)

theorem countOwn_counted {r : Reg} {ix : List Nat} {f : Fld} (n : Nat) (h : tok 0 s.regs = true) (hf : f.lo + f.width ≤ 64)
    (ha : r.addr ix ∉ stallRegs p k) : Counted r ix f n s ((s.addStalls p k w).incF r ix f n) :=
  (counted_incF _ r ix f n (addStalls_frame_regs.tok h) hf).after addStalls_kept ha

end

end Sys2Proof.Machine
end

section
/-! The sequencer's instructions (R238, R240, R245, R250, R254, R280, R281). -/

namespace Sys2Proof.Machine

section
variable {s : State} {p : Fin 256} {k : Fin 4} {w : Stalls} {i : Nat}

theorem nop_spec (hwf : s.wf) (h : s.Issues p k i .nop) : Completes (exec (.nop p k w) s) (fun t => Retired s t p k (i + 1) (s.sect p k) ∧
    (∀ c ∈ stallCounts p k w, c.Shows s t) ∧ OnlySection s t p k []) :=
  have ⟨retired, only⟩ := retires h i (f := id) (more := []) rfl rfl addStalls_kept addStalls_frame_regs
  completes_issue h rfl rfl (fun _ _ => rfl)
    ⟨retired, fun c hc => (addStalls_counted hwf.2 c hc).before (.of_regs_eq (retireAt_regs ..) : RegsKept [] _ _) List.not_mem_nil, only⟩

theorem loop_spec {c b m : Nat} (h : s.Issues p k i (.loop c b m)) : Completes (exec (.loop p k w) s) (fun t =>
    Retired s t p k (i + 1) { s.sect p k with loops := (s.sect p k).loops ++ [⟨i, c, 0, b, m⟩] } ∧ OnlySection s t p k []) :=
  completes_issue h rfl rfl (fun _ _ => rfl)
    (retires h i (f := fun x => { x with loops := x.loops ++ [⟨i, c, 0, b, m⟩] }) rfl rfl addStalls_kept addStalls_frame_regs)

/-- ENDL before its loop's last iteration goes back behind the LOOP; after it, on. -/
theorem endl_spec {ls : List LoopFrame} {l : LoopFrame} (h : s.Issues p k i .endl) (hl : (s.sect p k).loops = ls ++ [l]) :
    (l.i < l.cnt → Completes (exec (.endl p k w) s) (fun t =>
      Retired s t p k (l.pc + 1) { s.sect p k with loops := ls ++ [{ l with i := l.i + 1 }] } ∧ OnlySection s t p k [])) ∧
    (l.cnt ≤ l.i → Completes (exec (.endl p k w) s) (fun t => Retired s t p k (i + 1) { s.sect p k with loops := ls } ∧ OnlySection s t p k [])) := by
  have last : (s.sect p k).loops.getLast? = some l := by simp [hl]
  have drop : (s.sect p k).loops.dropLast = ls := by simp [hl]
  refine ⟨fun hlt => completes_issue h rfl rfl (u := (s.addStalls p k w).retireAt p k l.pc (fun x => { x with loops := ls ++ [{ l with i := l.i + 1 }] }))
      (fun _ _ => ?_) (retires h l.pc rfl rfl addStalls_kept addStalls_frame_regs),
    fun hle => completes_issue h rfl rfl (u := (s.addStalls p k w).retireAt p k i (fun x => { x with loops := ls }))
      (fun _ _ => ?_) (retires h i rfl rfl addStalls_kept addStalls_frame_regs)⟩
  · simp only [addStalls_sect, last, hlt, if_true, drop]
    rfl
  · simp only [addStalls_sect, last, Nat.not_lt.mpr hle, if_false, State.retireAt, drop]

/-- CUEWAIT takes a cue of its line, or waits for one. -/
theorem cuewait_spec {l : Nat} (hwf : s.wf) (h : s.Issues p k i (.cuewait l)) :
    (tget 0 (s.sect p k).cues l = 0 → Completes (exec (.cuewait p k w) s) (fun t => Waits s t p k i .cue ∧
      Counted TEL_SECT_CUE (six p k) TEL_SECT_CUE.COUNT w.own s t ∧ OnlySection s t p k [TEL_SECT_CUE.addr (six p k)])) ∧
    (0 < tget 0 (s.sect p k).cues l → Completes (exec (.cuewait p k w) s) (fun t =>
      Retired s t p k (i + 1) { s.sect p k with cues := tput 0 (s.sect p k).cues l (tget 0 (s.sect p k).cues l - 1) } ∧
      OnlySection s t p k [TEL_SECT_CUE.addr (six p k)])) := by
  let u := (s.addStalls p k w).incF TEL_SECT_CUE (six p k) TEL_SECT_CUE.COUNT w.own
  have kept : RegsKept ([TEL_SECT_CUE.addr (six p k)] ++ stallRegs p k) s u := countOwn_kept _ _ _ _
  have frame : Frame [.regs] s u := countOwn_frame ..
  have sect : u.sect p k = s.sect p k := sect_congr (frame.1 .sects (by decide)) ..
  have counted : Counted TEL_SECT_CUE (six p k) TEL_SECT_CUE.COUNT w.own s u :=
    countOwn_counted _ hwf.2 (by decide) (telSect_apart rfl rfl (by decide) p k)
  refine ⟨fun h0 => ?_, fun hn => ?_⟩
  · have ⟨waiting, only⟩ := waits h .cue kept frame
    exact completes_issue h rfl rfl (fun _ _ => if_pos (sect ▸ h0))
      ⟨waiting, counted.before (.of_regs_eq (waitAt_regs ..) : RegsKept [] _ _) List.not_mem_nil, only⟩
  · exact completes_issue h rfl rfl (u := u.retireAt p k i (fun x => { x with cues := tput 0 x.cues l (tget 0 (s.sect p k).cues l - 1) }))
      (fun _ _ => if_neg (sect ▸ hn.ne')) (retires h i rfl rfl kept frame)

theorem writeGate_gate (h : tok 0 s.regs = true) {g : Nat} (hg : g < 256) :
    (s.writeGate p k g).getF SCT_BANKMASK (six p k) SCT_BANKMASK.GATE = g := by
  rw [State.writeGate, getF_setF_same _ _ _ _ _ (by rwa [State.setSect_regs]) (by decide)]
  exact Nat.mod_eq_of_lt hg

theorem writeGate_kept (s : State) (p k g : Nat) : RegsKept [SCT_BANKMASK.addr (six p k)] s (s.writeGate p k g) :=
  (RegsKept.of_regs_eq (State.setSect_regs s p k _)).trans (setF_kept _ _ _ _ _)

theorem writeGate_sects_ne {n : Nat} (g : Nat) (hn : n ≠ 4 * (p : Nat) + k) : tget {} (s.writeGate p k g).sects n = tget {} s.sects n :=
  tget_tput_ne _ _ _ hn

/-- BANKSET writes GATE; of its own section only the bits not yet in force change besides its place (R186). -/
theorem bankset_spec {g : Nat} (hwf : s.wf) (h : s.Issues p k i (.bankset g)) (hg : g < 256) : Completes (exec (.bankset p k w) s) (fun t =>
    t.getF SCT_BANKMASK (six p k) SCT_BANKMASK.GATE = g ∧ (∀ n, n ≠ 4 * (p : Nat) + k → tget {} t.sects n = tget {} s.sects n) ∧
    OnlySection s t p k [SCT_BANKMASK.addr (six p k)]) := by
  refine completes_issue h rfl rfl (u := ((s.addStalls p k w).writeGate p k g).retireAt p k i id) (fun _ _ => rfl) ⟨?_, fun n hn => ?_, ?_, ?_⟩
  · rw [getF_congr (retireAt_regs ..), writeGate_gate (addStalls_frame_regs.tok hwf.2) hg]
  · exact (tget_tput_ne _ _ _ hn).trans (writeGate_sects_ne g hn)
  · exact (addStalls_kept.weaken (by simp)).trans (((writeGate_kept _ _ _ _).weaken (by simp)).trans (.of_regs_eq (retireAt_regs ..)))
  · exact (addStalls_frame_regs.mono (by decide)).trans
      (((State.writeGate_frame ..).mono (by decide)).trans ((State.retireAt_frame ..).mono (by decide)))

theorem endPart_spec (h : s.Issues p k i .end_) : Completes (exec (.endPart p k w) s) (fun t =>
    t.sects = tput {} s.sects (4 * p + k)
      { s.sect p k with next := i + 1, pc := i + 1, st := .idle, wait := .none, row := 0, inStrip := false } ∧ OnlySection s t p k []) := by
  obtain ⟨-, hst, hp, -⟩ := id h
  refine completes_issue h rfl rfl (u := (s.addStalls p k w).setSect p k { (s.sect p k).goto (i + 1) with st := .idle }) (fun _ _ => ?_)
    ⟨?_, addStalls_kept.trans (.of_regs_eq (State.setSect_regs ..)),
      (addStalls_frame_regs.mono (by decide)).trans ((State.setSect_frame ..).mono (by decide))⟩
  · simp [hp]
  · rw [goto_eq _ hp (by rw [hst]; decide)]
    rfl

/-- The voices that TIME writes (R280). -/
theorem each16_time (a b c : Nat) : each16 (fun v => BitVec.ofNat 32 (if v = 0 then a else if v = 1 then b else if v = 2 then c else 0)) =
    [BitVec.ofNat 32 a, BitVec.ofNat 32 b, BitVec.ofNat 32 c] ++ List.replicate 13 0 := by
  simp [each16, List.range_succ]

theorem time_spec {rd : Nat} (h : s.Issues p k i (.time rd)) : Completes (exec (.time p k w) s) (fun t =>
    Retired s t p k (i + 1) ((s.sect p k).setVec rd
      ([BitVec.ofNat 32 s.tempo.beat, BitVec.ofNat 32 s.tempo.barno, BitVec.ofNat 32 s.tempo.sbar] ++ List.replicate 13 0)) ∧
    OnlySection s t p k []) := by
  rw [← each16_time]
  exact completes_issue h rfl rfl (fun _ _ => rfl) (retires h i (f := fun x => x.setVec rd (each16 (fun v =>
    BitVec.ofNat 32 (if v = 0 then s.tempo.beat else if v = 1 then s.tempo.barno else if v = 2 then s.tempo.sbar else 0))))
      (Section.setVec_pendW ..) (Section.setVec_st ..) addStalls_kept addStalls_frame_regs)

end

/-! ### Several sections of a Press in turn -/

section
variable {p : Nat}

/-- Sections replaced one after another each have the value made from their own. -/
theorem sect_foldl {op : State → Nat → State} {f : Section → Section} {P : Section → Prop}
    (hop : ∀ s j, P (s.sect p j) → op s j = s.setSect p j (f (s.sect p j))) : ∀ (l : List Nat) {s : State}, tok {} s.sects = true → l.Nodup →
    (∀ j ∈ l, j < 4 ∧ P (s.sect p j)) → ∀ j < 4, (l.foldl op s).sect p j = if j ∈ l then f (s.sect p j) else s.sect p j
  | [], _, _, _, _, _, _ => rfl
  | a :: l, s, h, nd, hl, j, hj => by
    obtain ⟨ha, nd⟩ := List.nodup_cons.mp nd
    obtain ⟨⟨ha4, haP⟩, hl⟩ := List.forall_mem_cons.mp hl
    have other : ∀ j < 4, j ≠ a → (s.setSect p a (f (s.sect p a))).sect p j = s.sect p j := fun j hj hne =>
      sect_setSect_ne _ (sect_index_ne ha4 hj (.inr hne))
    have rest := sect_foldl hop l (s := s.setSect p a (f (s.sect p a))) (setSect_sects_tok _ h) nd
      (fun j hm => ⟨(hl j hm).1, by rw [other j (hl j hm).1 fun e => ha (e ▸ hm)]; exact (hl j hm).2⟩) j hj
    rw [List.foldl_cons, hop s a haP, rest]
    rcases eq_or_ne j a with rfl | hne
    · rw [if_neg ha, sect_setSect_same h, if_pos List.mem_cons_self]
    · rw [other j hj hne]
      simp [hne]

end

/-! ### SYNC -/

/-- The sections that a mask of two names. -/
theorem mem_sectionsOf_pair : ∀ j k n : Fin 4, j ≠ k → ((n : Nat) ∈ sectionsOf (2 ^ (j : Nat) + 2 ^ (k : Nat)) ↔ n = j ∨ n = k) := by
  decide

theorem sectionsOf_nodup (sm : Nat) : (sectionsOf sm).Nodup := List.nodup_range.filter _

theorem lt_of_mem_sectionsOf {sm j : Nat} (h : j ∈ sectionsOf sm) : j < 4 := List.mem_range.mp (List.mem_of_mem_filter h)

section
variable {s t : State} {p j i sm : Nat}

/-- A section waits on the SYNC at which it stands. -/
theorem inSync_of_waiting {x : Section} (hx : t.sect p j = x) (hst : x.st = .waiting) (hw : x.wait = .sync) (hi : x.next = i) (hp : t.press = s.press)
    (hd : decodeWord (tget 0 (s.prs p).part i) = some ⟨false, sm, .sync⟩) : t.inSync p j sm = true := by
  have prs : t.prs p = s.prs p := by rw [State.prs, hp]; rfl
  simp only [State.inSync, hx, hst, hw, hi, prs, hd, beq_self_eq_true, Bool.and_self]

theorem inSync_of_not_waiting (h : (t.sect p j).st ≠ .waiting) : t.inSync p j sm = false := by simp [State.inSync, h]

end

section
variable {s : State} {p : Fin 256} {k j : Fin 4} {w : Stalls} {i : Nat}

/-- SYNC of two sections: it waits for the other one, and retires in both when that one waits on it (R250). -/
theorem sync_spec (hne : j ≠ k) (hcan : s.canIssue p k = true) (hp : (s.sect p k).pendW = [])
    (htok : tok {} s.sects = true) (hd : decodeWord (tget 0 (s.prs p).part i) = some ⟨false, 2 ^ (j : Nat) + 2 ^ (k : Nat), .sync⟩)
    (hat : s.partAt p k = some (i, ⟨false, 2 ^ (j : Nat) + 2 ^ (k : Nat), .sync⟩)) (hj : (s.sect p j).next = i) :
    ((s.sect p j).st = .waiting ∧ (s.sect p j).wait = .sync → (s.sect p j).pendW = [] → Completes (exec (.sync p k w) s) (fun t =>
      (t.sect p k).next = i + 1 ∧ (t.sect p k).st = .running ∧ (t.sect p j).next = i + 1 ∧ (t.sect p j).st = .running ∧
      Frame [.regs, .sects] s t)) ∧
    ((s.sect p j).st ≠ .waiting → Completes (exec (.sync p k w) s) (fun t => Waits s t p k i .sync ∧
      OnlySection s t p k [TEL_SECT_SYNC.addr (six p k)])) := by
  let sm := 2 ^ (j : Nat) + 2 ^ (k : Nat)
  obtain ⟨u, hu, kept, frame⟩ : ∃ u, (s.addStalls p k w).incF TEL_SECT_SYNC (six p k) TEL_SECT_SYNC.COUNT w.own = u ∧
    RegsKept ([TEL_SECT_SYNC.addr (six p k)] ++ stallRegs p k) s u ∧ Frame [.regs] s u := ⟨_, rfl, countOwn_kept _ _ _ _, countOwn_frame ..⟩
  have sects : u.sects = s.sects := frame.1 .sects (by decide)
  have usect : ∀ q n, u.sect q n = s.sect q n := sect_congr sects
  have kx : (u.waitAt p k i .sync).sect p k = (s.sect p k).hold i .sync := by
    rw [State.waitAt, sect_setSect_same (sects ▸ htok), usect]
  have jx : (u.waitAt p k i .sync).sect p j = s.sect p j := by
    rw [State.waitAt, sect_setSect_ne _ (sect_index_ne k.2 j.2 (.inr (Fin.val_ne_of_ne hne))), usect]
  have press : (u.waitAt p k i .sync).press = s.press :=
    ((State.waitAt_frame ..).1 .press (by decide)).trans (frame.1 .press (by decide))
  have run : ∀ {v : State} {P : State → Prop}, (if (sectionsOf sm).all (fun j => (u.waitAt p k i .sync).inSync p j sm) then
        (sectionsOf sm).foldl (fun s j => s.retireAt p j (s.sect p j).next id) (u.waitAt p k i .sync) else u.waitAt p k i .sync) = v → P v →
      Completes (exec (.sync p k w) s) P := fun hv hP =>
    completes_at hcan hat rfl rfl (by rw [hu, if_neg (by rw [usect, hp]; decide)]; exact hv) hP
  refine ⟨fun ⟨hjs, hjw⟩ hjp => ?_, fun hjs => ?_⟩
  · have all : (sectionsOf sm).all (fun j => (u.waitAt p k i .sync).inSync p j sm) = true := by
      refine List.all_eq_true.mpr fun n hn => ?_
      have hn4 := lt_of_mem_sectionsOf hn
      rcases (mem_sectionsOf_pair j k ⟨n, hn4⟩ hne).mp hn with e | e
      · obtain rfl : n = j := congrArg Fin.val e
        exact inSync_of_waiting jx hjs hjw hj press hd
      · obtain rfl : n = k := congrArg Fin.val e
        exact inSync_of_waiting kx rfl rfl rfl press hd
    have retired := sect_foldl (p := p) (op := fun s j => s.retireAt p j (s.sect p j).next id) (f := fun x => x.goto (x.next + 1)) (P := fun _ => True)
      (fun _ _ _ => rfl) (sectionsOf sm) (s := u.waitAt p k i .sync) (setSect_sects_tok _ (sects ▸ htok)) (sectionsOf_nodup sm)
      (fun n hn => ⟨lt_of_mem_sectionsOf hn, trivial⟩)
    have hk := (retired k k.2).trans (if_pos ((mem_sectionsOf_pair j k k hne).mpr (.inr rfl)))
    have hj' := (retired j j.2).trans (if_pos ((mem_sectionsOf_pair j k j hne).mpr (.inl rfl)))
    rw [kx] at hk
    rw [jx] at hj'
    refine run (if_pos all) ⟨by rw [hk]; rfl, by rw [hk]; rfl, by rw [hj', ← hj]; rfl, ?_, ?_⟩
    · rw [hj', Section.goto, hjs]; rfl
    · exact (frame.mono (by decide)).trans (((State.waitAt_frame ..).mono (by decide)).trans
        (Frame.foldl (fun s n h => h.trans ((State.retireAt_frame ..).mono (by decide))) _ _ (Frame.refl _ _)))
  · have all : (sectionsOf sm).all (fun j => (u.waitAt p k i .sync).inSync p j sm) = false :=
      List.all_eq_false.mpr ⟨j, (mem_sectionsOf_pair j k j hne).mpr (.inl rfl), by rw [inSync_of_not_waiting (by rwa [jx])]; decide⟩
    refine run (if_neg (by rw [all]; decide)) ⟨waitAt_waits i .sync sects hp, kept.trans (.of_regs_eq rfl),
      (frame.mono (by decide)).trans ((State.waitAt_frame ..).mono (by decide))⟩

end

/-- Settles O12: each instruction's own lemma, with the stall counters that NOP shows. -/
theorem sequencerInstructions : Obligations.SequencerInstructions := by
  unfold Obligations.SequencerInstructions
  intro p k w s i hwf x
  refine ⟨fun h => ?_, fun c b m h => loop_spec h, fun ls l h hl => endl_spec h hl, fun l n h hn => ?_, fun g h hg => bankset_spec hwf h hg,
    fun h => endPart_spec h, fun rd h => time_spec h, fun j hne hcan _ hp htok hd hat hj => ?_⟩
  · obtain ⟨t, run, retired, shows, only⟩ := nop_spec (w := w) hwf h
    obtain ⟨dep, bank, board, hold, sb⟩ := stallCounts_show shows
    exact ⟨t, run, retired, dep, bank, board, hold, sb, only⟩
  · subst hn
    exact cuewait_spec hwf h
  · exact sync_spec hne hcan hp htok hd hat hj

end Sys2Proof.Machine
end

section
/-! Vector and accumulator instructions (R258, R269 to R272): the values that they write, and the Board bytes that they load and store. -/

namespace Sys2Proof.Machine

/-- Byte `j` of a list of little-endian elements of `n` bytes. -/
theorem flatMap_leBytes_getD {n m j : Nat} (f : Nat → Nat) (hj : j < n * m) :
    ((List.range m).flatMap (fun i => leBytes n (f i))).getD j 0 = BitVec.ofNat 8 (f (j / n) / 256 ^ (j % n)) := by
  have hn : 0 < n := Nat.pos_of_mul_pos_right (Nat.lt_of_le_of_lt (Nat.zero_le j) hj)
  have hq : j / n < m := Nat.div_lt_of_lt_mul hj
  have hr : j % n < n := Nat.mod_lt j hn
  have elem := slice_flatMap_leBytes n m (j / n) f hq
  have len := flatMap_leBytes_length n f (List.range m)
  rw [List.length_range] at len
  rw [slice_of_le (by rw [len, ← Nat.mul_succ]; exact Nat.mul_le_mul_left n hq)] at elem
  have byte := congrArg (fun l => l.getD (j % n) 0) elem
  simpa [List.getD_eq_getElem?_getD, List.getElem?_take, hr, Nat.div_add_mod, ← leBytes_getD n _ _ hr] using byte

section
variable {s : State} {p : Fin 256} {k : Fin 4} {w : Stalls} {i : Nat} {ins : PInstr}

/-- A load that no queued load keeps back takes the Board's bytes into the section's registers (R251, R253). -/
theorem loadBoard_stalls (h : s.Issues p k i ins) {a n : Nat} (f : List Byte → Section → Section) (hr : s.readWaits p a n = false) :
    (s.addStalls p k w).loadBoard p k i a n f = (s.addStalls p k w).retireAt p k i (f (s.readBoard p a n)) := by
  obtain ⟨-, -, hp, -⟩ := h
  have frame := addStalls_frame_regs (s := s) (p := p) (k := k) (w := w)
  rw [loadBoard_free (by rwa [addStalls_sect]) (by rwa [readWaits_congr (frame.1 .queues (by decide))]),
    readBoard_congr (frame.1 .mem (by decide))]

/-- A store that neither a scoreboard nor a hold keeps back writes its bytes and retires (R200, R253). -/
theorem storeBoard_stalls (hwf : s.wf) (h : s.Issues p k i ins) {a : Nat} {bs : List Byte} (hl : bs.length ≤ 2 ^ 20)
    (hw : s.writeWaits p a bs.length = false) (hh : s.heldRange p a bs.length = false) : let t := (s.addStalls p k w).storeBoard p k i a bs
    Retired s t p k (i + 1) (s.sect p k) ∧ (∀ j, j < bs.length → t.mbyte (boardOff p (a + j)) = bs.getD j 0) ∧
      (∀ o, (∀ j, j < bs.length → o ≠ boardOff p (a + j)) → t.mbyte o = s.mbyte o) ∧ RegsKept (stallRegs p k) s t ∧
      Frame [.regs, .sects, .mem] s t := by
  obtain ⟨-, hst, hp, -⟩ := h
  obtain ⟨u, hu, kept, frame⟩ : ∃ u, s.addStalls p k w = u ∧ RegsKept (stallRegs p k) s u ∧ Frame [.regs] s u :=
    ⟨_, rfl, addStalls_kept, addStalls_frame_regs⟩
  have sects : u.sects = s.sects := frame.1 .sects (by decide)
  have mem : u.mem = s.mem := frame.1 .mem (by decide)
  have store : u.storeBoard p k i a bs = (u.writeBoard p a bs).retireAt p k i id :=
    storeBoard_free (by rwa [sect_congr sects]) (by rwa [writeWaits_congr (frame.1 .queues (by decide))])
      (by rwa [heldRange_congr (frame.1 .press (by decide))])
  rw [hu, store]
  refine ⟨retireAt_retired i id ((State.writeBoard_sects ..).trans sects) hp (by rw [id, hst]; decide), fun j hj => ?_, fun o ho => ?_,
    kept.trans (.of_regs_eq ((retireAt_regs ..).trans (State.writeBoard_regs ..))),
    (frame.mono (by decide)).trans (((State.writeBoard_frame ..).mono (by decide)).trans ((State.retireAt_frame ..).mono (by decide)))⟩
  · rw [mbyte_congr (retireAt_mem ..), mbyte_writeBoard_at (mem ▸ hwf.1) hl hj]
  · rw [mbyte_congr (retireAt_mem ..), mbyte_writeBoard_ne ho, mbyte_congr mem]

/-- An instruction that sets an accumulator tile, by the modes in force and its section's registers, and retires. -/
theorem sets_acc {c : Instr} {is_ : PInstr → Bool} {act : State → Nat → PWord → State} (h : s.Issues p k i ins) (ac : Nat)
    (vs : FMode → Section → List (BitVec 32)) (hc : exec c s = .next (s.partRow p k w is_ act)) (hi : is_ ins = true)
    (hu : ∀ v sm, act (s.addStalls p k w) i ⟨v, sm, ins⟩ =
      (s.addStalls p k w).retireAt p k i (fun x => x.setAcc ac (vs (s.addStalls p k w).fmode x))) :
    Completes (exec c s) (fun t => Retired s t p k (i + 1) ((s.sect p k).setAcc ac (vs s.fmode (s.sect p k))) ∧ OnlySection s t p k []) := by
  rw [addStalls_fmode] at hu
  exact completes_issue h hc hi hu (retires h i (Section.setAcc_pendW ..) (Section.setAcc_st ..) addStalls_kept addStalls_frame_regs)

/-- An instruction that sets a vector register and retires. -/
theorem sets_vec {c : Instr} {is_ : PInstr → Bool} {act : State → Nat → PWord → State} (h : s.Issues p k i ins) (rd : Nat)
    (vs : FMode → Section → List (BitVec 32)) (hc : exec c s = .next (s.partRow p k w is_ act)) (hi : is_ ins = true)
    (hu : ∀ v sm, act (s.addStalls p k w) i ⟨v, sm, ins⟩ =
      (s.addStalls p k w).retireAt p k i (fun x => x.setVec rd (vs (s.addStalls p k w).fmode x))) :
    Completes (exec c s) (fun t => Retired s t p k (i + 1) ((s.sect p k).setVec rd (vs s.fmode (s.sect p k))) ∧ OnlySection s t p k []) := by
  rw [addStalls_fmode] at hu
  exact completes_issue h hc hi hu (retires h i (Section.setVec_pendW ..) (Section.setVec_st ..) addStalls_kept addStalls_frame_regs)

/-- AST past scoreboards and holds: columns 0 to 7 of the tile to the first block, 8 to 15 to the next (R258). -/
theorem ast_stores {ac b : Nat} {xf : Bool} (hwf : s.wf) (h : s.Issues p k i (.ast ac xf b))
    (hw : s.writeWaits p (512 * (s.sect p k).effBlk xf b) 1024 = false) (hh : s.heldRange p (512 * (s.sect p k).effBlk xf b) 1024 = false) :
    Completes (exec (.ast p k w) s) (fun t => Retired s t p k (i + 1) (s.sect p k) ∧
      (∀ j, j < 1024 → t.mbyte (boardOff p (512 * (s.sect p k).effBlk xf b + j)) =
        BitVec.ofNat 8 (((s.sect p k).accAt ac (j % 512 / 32) (8 * (j / 512) + j % 32 / 4)).toNat / 256 ^ (j % 4))) ∧
      (∀ o, (∀ j, j < 1024 → o ≠ boardOff p (512 * (s.sect p k).effBlk xf b + j)) → t.mbyte o = s.mbyte o) ∧
      RegsKept (stallRegs p k) s t ∧ Frame [.regs, .sects, .mem] s t) := by
  let elem (n : Nat) : Nat := ((s.sect p k).accAt ac (n % 128 / 8) (8 * (n / 128) + n % 8)).toNat
  have hl : ((List.range 256).flatMap (fun n => leBytes 4 (elem n))).length = 1024 := by rw [flatMap_leBytes_length, List.length_range]
  have stored := storeBoard_stalls (w := w) hwf h (bs := (List.range 256).flatMap (fun n => leBytes 4 (elem n)))
    (a := 512 * (s.sect p k).effBlk xf b) (by omega) (by rwa [hl]) (by rwa [hl])
  rw [hl] at stored
  obtain ⟨retired, bytes, rest⟩ := stored
  refine completes_issue h rfl rfl (fun _ _ => rfl) ⟨retired, fun j hj => ?_, rest⟩
  have col : elem (j / 4) = ((s.sect p k).accAt ac (j % 512 / 32) (8 * (j / 512) + j % 32 / 4)).toNat := by
    simp only [elem, show j / 4 % 128 / 8 = j % 512 / 32 by omega, show 8 * (j / 4 / 128) + j / 4 % 8 = 8 * (j / 512) + j % 32 / 4 by omega]
  exact (bytes j hj).trans (by rw [flatMap_leBytes_getD elem (by omega), col])

/-- VST past scoreboards and holds. -/
theorem vst_stores {ra b ln : Nat} {xf : Bool} (hwf : s.wf) (h : s.Issues p k i (.vst ra xf b ln))
    (hw : s.writeWaits p (512 * (s.sect p k).effBlk xf b + 64 * ln) 64 = false)
    (hh : s.heldRange p (512 * (s.sect p k).effBlk xf b + 64 * ln) 64 = false) :
    Completes (exec (.vst p k w) s) (fun t => Retired s t p k (i + 1) (s.sect p k) ∧
      (∀ j, j < 64 → t.mbyte (boardOff p (512 * (s.sect p k).effBlk xf b + 64 * ln + j)) =
        BitVec.ofNat 8 (((s.sect p k).voice ra (j / 4)).toNat / 256 ^ (j % 4))) ∧
      (∀ o, (∀ j, j < 64 → o ≠ boardOff p (512 * (s.sect p k).effBlk xf b + 64 * ln + j)) → t.mbyte o = s.mbyte o) ∧
      RegsKept (stallRegs p k) s t ∧ Frame [.regs, .sects, .mem] s t) := by
  have hl : ((List.range 16).flatMap (fun v => leBytes 4 ((s.sect p k).voice ra v).toNat)).length = 64 := by
    rw [flatMap_leBytes_length, List.length_range]
  have stored := storeBoard_stalls (w := w) hwf h (bs := (List.range 16).flatMap (fun v => leBytes 4 ((s.sect p k).voice ra v).toNat))
    (a := 512 * (s.sect p k).effBlk xf b + 64 * ln) (by omega) (by rwa [hl]) (by rwa [hl])
  rw [hl] at stored
  obtain ⟨retired, bytes, rest⟩ := stored
  exact completes_issue h rfl rfl (fun _ _ => rfl) ⟨retired, fun j hj => (bytes j hj).trans (flatMap_leBytes_getD _ (by omega)), rest⟩

end

/-- A register all of whose elements are one value. -/
theorem replicate_256 : List.replicate 256 (0 : BitVec 32) = each256 (fun _ _ => 0) := by rw [each256, List.map_const', List.length_range]

theorem replicate_16 (v : BitVec 32) : List.replicate 16 v = each16 (fun _ => v) := by rw [each16, List.map_const', List.length_range]

/-- Settles O15: each instruction sets one register of its section, or moves bytes between one and the Board. -/
theorem vectorAndAccumulatorInstructions : Obligations.VectorAndAccumulatorInstructions := by
  unfold Obligations.VectorAndAccumulatorInstructions
  intro p k w s i hwf x m at_ sets stores perVoice perElem
  refine ⟨fun ac h => ?_, fun ac xf b h hr => ?_, fun ac xf b h hw hh => ast_stores hwf h hw hh, fun rd v h => ?_, fun rd xf b ln h hr => ?_,
    fun ra xf b ln h hw hh => vst_stores hwf h hw hh, fun rd ra rb h => ?_, fun rd ra rb h => ?_, fun rd ra rb rc h => ?_, fun rd ra rb h => ?_,
    fun rd ac fl h => ?_, fun ac ra fl h => ?_⟩
  · rw [replicate_256]
    exact sets_acc h ac (fun _ _ => each256 (fun _ _ => 0)) rfl rfl fun _ _ => rfl
  · exact sets_acc h ac (fun _ _ => perElem (fun r c => w32At (s.readBoard p (at_ xf b) 1024) (512 * (c / 8) + 32 * r + 4 * (c % 8)))) rfl rfl
      fun _ _ => loadBoard_stalls h _ hr
  · rw [replicate_16]
    exact sets_vec h rd (fun _ _ => each16 (fun _ => BitVec.ofNat 32 v)) rfl rfl fun _ _ => rfl
  · exact sets_vec h rd (fun _ _ => perVoice (fun v => w32At (s.readBoard p (at_ xf b + 64 * ln) 64) (4 * v))) rfl rfl
      fun _ _ => loadBoard_stalls h _ hr
  · exact sets_vec h rd (fun m x => perVoice (fun v => m.vadd (x.voice ra v) (x.voice rb v))) rfl rfl fun _ _ => rfl
  · exact sets_vec h rd (fun m x => perVoice (fun v => m.vmul (x.voice ra v) (x.voice rb v))) rfl rfl fun _ _ => rfl
  · exact sets_vec h rd (fun m x => perVoice (fun v => m.vfma (x.voice ra v) (x.voice rb v) (x.voice rc v))) rfl rfl fun _ _ => rfl
  · exact sets_vec h rd (fun m x => perVoice (fun v => m.vmax (x.voice ra v) (x.voice rb v))) rfl rfl fun _ _ => rfl
  · exact sets_vec h rd (fun m x => perVoice (fun r => m.out32 (if fl % 2 = 1 then maxTree 4 ((List.range 16).map (fun c => m.in32 (x.accAt ac r c)))
        else m.tree 4 ((List.range 16).map (fun c => m.in32 (x.accAt ac r c)))))) rfl rfl fun _ _ => rfl
  · have offset : ∀ (m : FMode) (x : Section), perElem (fun r c => m.out32 (if fl % 2 = 1 then (m.in32 (x.accAt ac r c)).add (m.in32 (x.voice ra r))
        else (m.in32 (x.accAt ac r c)).mul (m.in32 (x.voice ra r)))) =
        each256 (fun r c => if fl % 2 = 1 then m.vadd (x.accAt ac r c) (x.voice ra r) else m.vmul (x.accAt ac r c) (x.voice ra r)) := fun m x => by
      simp only [perElem, each256, FMode.vadd, FMode.vmul, apply_ite m.out32]
    rw [offset]
    exact sets_acc h ac (fun m x => each256 (fun r c => if fl % 2 = 1 then m.vadd (x.accAt ac r c) (x.voice ra r)
      else m.vmul (x.accAt ac r c) (x.voice ra r))) rfl rfl fun _ _ => rfl

end Sys2Proof.Machine
end

section
/-! Sparse tables: a key written twice, and a key written with the value that it has. -/

namespace Sys2Proof.Machine

variable {α : Type} [DecidableEq α]

/-- The second of two writes of one key is what stays. -/
theorem tput_tput_from (d : α) (i : Nat) (v w : α) : ∀ {t : Table α} {b : Nat}, tokFrom d b t = true → tput d (tput d t i v) i w = tput d t i w
  | [], _, _ => by by_cases hv : v = d <;> simp [tput, hv]
  | (k, x) :: t, b, h => by
    simp only [tokFrom, Bool.and_eq_true, decide_eq_true_eq] at h
    obtain ⟨-, ht⟩ := h
    have rest := tput_tput_from d i v w ht
    rcases Nat.lt_trichotomy i k with hi | rfl | hi
    · by_cases hv : v = d <;> simp [tput, hi, hv]
    · by_cases hv : v = d
      · have below : ∀ {t : Table α}, tokFrom d (i + 1) t = true → tput d t i w = if w = d then t else (i, w) :: t := fun {t} h => by
          cases t with
          | nil => rfl
          | cons y t =>
            simp only [tokFrom, Bool.and_eq_true, decide_eq_true_eq] at h
            simp [tput, show i < y.1 by omega]
        simp [tput, hv, below ht]
      · simp [tput, hv]
    · simp [tput, Nat.not_lt.mpr hi.le, hi.ne', rest]

theorem tput_tput (d : α) {t : Table α} (i : Nat) (v w : α) (h : tok d t = true) : tput d (tput d t i v) i w = tput d t i w :=
  tput_tput_from d i v w h

/-- A key written with the value that it has leaves the table. -/
theorem tput_self_from (d : α) (i : Nat) : ∀ {t : Table α} {b : Nat}, tokFrom d b t = true → tput d t i (tget d t i) = t
  | [], _, _ => by simp [tput, tget]
  | (k, x) :: t, b, h => by
    simp only [tokFrom, Bool.and_eq_true, decide_eq_true_eq] at h
    obtain ⟨⟨-, hx⟩, ht⟩ := h
    rcases Nat.lt_trichotomy i k with hi | rfl | hi
    · simp [tput, tget, hi, hi.ne', tget_below d t ht (by omega : i < k + 1)]
    · simp [tput, tget, hx]
    · simp [tput, tget, Nat.not_lt.mpr hi.le, hi.ne, hi.ne', tput_self_from d i ht]

theorem tput_self (d : α) {t : Table α} (i : Nat) (h : tok d t = true) : tput d t i (tget d t i) = t := tput_self_from d i h

end Sys2Proof.Machine
end

section
/-! QLD, QST and QWAIT (R273, R275, R366): requests placed at the end of a queue, room, and what is outstanding. -/

namespace Sys2Proof.Machine

/-- What a section of Press p that names `k` asks of a queue: a block to load or store, not served yet. -/
def QReq.Asks (r : QReq) (st : Bool) (k bblk mblk : Nat) : Prop :=
  r.store = st ∧ r.bblk = bblk ∧ r.mblk = mblk ∧ r.data = none ∧ r.done = false ∧ r.sect = k

/-- From `s` to `t` the requests `rs` joined queue q of Press p, and of the registers only the MEM_ERR of its die may have changed. -/
structure Joined (s t : State) (p q : Nat) (rs : List QReq) : Prop where
  queues : t.queues = tput [] s.queues (8 * p + q) (s.queue p q ++ rs)
  sects : t.sects = s.sects
  unison : t.unison = s.unison
  kept : RegsKept [MEM_ERR.addr [p / 32]] s t

section
variable {s t u : State} {p k q : Nat} {rs qs : List QReq}

theorem hbmBlock_congr {as : List Nat} (h : RegsKept as s t) (ha : GLB_CAP0.addr [] ∉ as) (b : Nat) : t.hbmBlock b = s.hbmBlock b := by
  rw [State.hbmBlock, State.hbmBlock, State.stackOf, State.stackOf, h.reg_eq ha]

theorem GLB_CAP0_ne_MEM_ERR (d : Nat) : GLB_CAP0.addr [] ∉ [MEM_ERR.addr [d]] := by
  have off : MEM_ERR.addr [d] = 0x1600010 + d * 0x20000 := by simp [Reg.addr, MEM_ERR, dimOff]
  rw [List.mem_singleton, off, show GLB_CAP0.addr [] = 8 from rfl]
  omega

/-- A queue whose head is not done keeps all its requests. -/
theorem setQueue_eq {l : List QReq} (h : ∀ r, l.head? = some r → r.done = false) :
    (s.setQueue p q l).queues = tput [] s.queues (8 * p + q) l := by
  cases l with
  | nil => rfl
  | cons r l => simp [State.setQueue, h r rfl]

theorem Joined.refl (h : tok [] s.queues = true) : Joined s s p q [] :=
  ⟨by rw [List.append_nil]; exact (tput_self [] _ h).symm, rfl, rfl, .refl _ s⟩

theorem Joined.queue_eq (h : Joined s t p q rs) (hs : tok [] s.queues = true) : t.queue p q = s.queue p q ++ rs := by
  rw [State.queue, h.queues, tget_tput_same [] _ _ hs]

theorem Joined.trans (h : Joined s t p q rs) (k : Joined t u p q qs) (hs : tok [] s.queues = true) : Joined s u p q (rs ++ qs) :=
  ⟨by rw [k.queues, h.queue_eq hs, h.queues, tput_tput [] _ _ _ hs, List.append_assoc], k.sects.trans h.sects, k.unison.trans h.unison,
    h.kept.trans k.kept⟩

/-- A request outside a replay for a block of HBM joins its queue. -/
theorem request_joins (bblk : Nat) {mblk : Nat} (hr : s.replaying = false) (hb : s.hbmBlock mblk = true)
    (hd : ∀ r, (s.queue p q).head? = some r → r.done = false) :
    ∃ r : QReq, r.Asks (decide (4 ≤ q)) k bblk mblk ∧ Joined s (s.request p k q bblk mblk) p q [r] := by
  let v : State := { s with qseq := tput 0 s.qseq p (tget 0 s.qseq p + 1) }
  let up := s.stackUp (mblk * 512 / 0x0006_0000_0000)
  let r : QReq := ⟨decide (4 ≤ q), q, k, tget 0 s.qseq p, bblk, mblk, none, false, false, false, up⟩
  obtain ⟨u, hu, queues, sects, unison, kept⟩ : ∃ u, (if up then v else v.setBit MEM_ERR [p / 32] MEM_ERR.WAIT) = u ∧ u.queues = s.queues ∧
      u.sects = s.sects ∧ u.unison = s.unison ∧ RegsKept [MEM_ERR.addr [p / 32]] s u := by
    by_cases h : up = true
    · exact ⟨v, if_pos h, rfl, rfl, rfl, .of_regs_eq rfl⟩
    · exact ⟨_, if_neg h, rfl, rfl, rfl, (RegsKept.of_regs_eq (t := v) rfl).trans (setF_kept _ _ _ _ _)⟩
  have hv : v.replaying = false := hr
  have run : s.request p k q bblk mblk = u.setQueue p q (s.queue p q ++ [r]) := by
    rw [← queue_congr queues, ← hu]
    exact (if_neg (by rw [hv]; decide)).trans (if_neg (by rw [hb]; decide))
  have head : ∀ x, (s.queue p q ++ [r]).head? = some x → x.done = false := fun x hx => by
    cases hq : s.queue p q with
    | nil =>
      rw [hq] at hx
      exact (Option.some.inj hx) ▸ rfl
    | cons y l =>
      rw [hq] at hx
      exact hd x (by rw [hq]; exact hx)
  rw [run]
  exact ⟨r, ⟨rfl, rfl, rfl, rfl, rfl, rfl⟩, by rw [setQueue_eq head, queues], sects, unison, kept.trans (.of_regs_eq rfl)⟩

/-- The requests of one instruction join their queue one after another, over consecutive blocks that wrap (R273). -/
theorem requests_join (bblk mblk : Nat) (hs : tok [] s.queues = true) (hr : s.replaying = false)
    (hd : ∀ r, (s.queue p q).head? = some r → r.done = false) (n : Nat) (hb : ∀ j < n, s.hbmBlock ((mblk + j) % 2 ^ 29) = true) :
    ∃ rs : List QReq, rs.length = n ∧ (∀ (j : Nat) (r : QReq), rs[j]? = some r → r.Asks (decide (4 ≤ q)) k ((bblk + j) % 2048) ((mblk + j) % 2 ^ 29)) ∧
      Joined s ((List.range n).foldl (fun s j => s.request p k q ((bblk + j) % 2048) ((mblk + j) % 2 ^ 29)) s) p q rs := by
  induction n with
  | zero => exact ⟨[], rfl, fun j r h => by simp at h, .refl hs⟩
  | succ n ih =>
    obtain ⟨rs, hlen, asks, joined⟩ := ih fun j hj => hb j (by omega)
    rw [List.range_succ, List.foldl_append, List.foldl_cons, List.foldl_nil]
    generalize (List.range n).foldl (fun s j => s.request p k q ((bblk + j) % 2048) ((mblk + j) % 2 ^ 29)) s = t at joined
    have head : ∀ x, (t.queue p q).head? = some x → x.done = false := fun x hx => by
      rw [joined.queue_eq hs] at hx
      cases hq : s.queue p q with
      | nil =>
        rw [hq, List.nil_append, List.head?_eq_getElem?] at hx
        exact (asks 0 x hx).2.2.2.2.1
      | cons y l =>
        rw [hq] at hx
        exact hd x (by rw [hq]; exact hx)
    obtain ⟨r, hask, last⟩ := request_joins (k := k) ((bblk + n) % 2048) (mblk := (mblk + n) % 2 ^ 29) (s := t) (p := p) (q := q)
      (by rw [State.replaying, joined.unison]; exact hr) (by rw [hbmBlock_congr joined.kept (GLB_CAP0_ne_MEM_ERR _)]; exact hb n (by omega)) head
    refine ⟨rs ++ [r], by simp [hlen], fun j x hx => ?_, joined.trans last hs⟩
    rcases Nat.lt_or_ge j rs.length with hj | hj
    · exact asks j x (by rwa [List.getElem?_append_left hj] at hx)
    · rw [List.getElem?_append_right hj] at hx
      obtain ⟨hj0, rfl⟩ : j - rs.length = 0 ∧ r = x := by
        cases hm : j - rs.length with
        | zero => rw [hm] at hx; exact ⟨rfl, Option.some.inj hx⟩
        | succ m => rw [hm] at hx; simp at hx
      obtain rfl : j = n := by omega
      exact hask

end

section
variable {s : State} {p : Fin 256} {k : Fin 4} {w : Stalls} {i : Nat} {ins : PInstr}

/-- QLD and QST once their stalls are counted, with room and without (R273, R366). -/
theorem placeRequests_spec {q nb bblk mblk : Nat} (hwf : s.wf) (h : s.Issues p k i ins) (hs : tok [] s.queues = true) (hr : s.replaying = false) :
    let t := (s.addStalls p k w).placeRequests p k i w.own q nb bblk mblk
    ((s.queue p q).length + nb + 1 ≤ 64 → (∀ r, (s.queue p q).head? = some r → r.done = false) →
      (∀ j, j ≤ nb → s.hbmBlock ((mblk + j) % 2 ^ 29) = true) → Retired s t p k (i + 1) (s.sect p k) ∧
      ∃ rs : List QReq, rs.length = nb + 1 ∧ t.queues = tput [] s.queues (8 * p + q) (s.queue p q ++ rs) ∧
        ∀ (j : Nat) (r : QReq), rs[j]? = some r → r.Asks (decide (4 ≤ q)) k ((bblk + j) % 2048) ((mblk + j) % 2 ^ 29)) ∧
    (64 < (s.queue p q).length + nb + 1 → Waits s t p k i .room ∧ Counted MEM_QFULL (pix p) MEM_QFULL.COUNT w.own s t ∧
      OnlySection s t p k [MEM_QFULL.addr (pix p)]) := by
  obtain ⟨u, hu, kept, frame, counted⟩ : ∃ u, (s.addStalls p k w).incF MEM_QFULL (pix p) MEM_QFULL.COUNT w.own = u ∧
      RegsKept ([MEM_QFULL.addr (pix p)] ++ stallRegs p k) s u ∧ Frame [.regs] s u ∧ Counted MEM_QFULL (pix p) MEM_QFULL.COUNT w.own s u :=
    ⟨_, rfl, countOwn_kept _ _ _ _, countOwn_frame .., countOwn_counted _ hwf.2 (by decide) (MEM_QFULL_apart p k)⟩
  have queues : u.queues = s.queues := frame.1 .queues (by decide)
  have unison : u.unison = s.unison := frame.1 .unison (by decide)
  have hq : u.queue p q = s.queue p q := queue_congr queues p q
  have cap : GLB_CAP0.addr [] ∉ [MEM_QFULL.addr (pix p)] ++ stallRegs p k := by
    have win := dieWin_press p.isLt
    have off : MEM_QFULL.off = 0x1601008 := rfl
    rw [stallRegs_eq, addr_memPress rfl rfl, off, show GLB_CAP0.addr [] = 8 from rfl]
    simp only [List.cons_append, List.nil_append, List.mem_cons, List.not_mem_nil, or_false]
    omega
  intro t
  have run : t = if 64 < (s.queue p q).length + nb + 1 then u.waitAt p k i .room else (u.requests p k q nb bblk mblk).retireAt p k i id := by
    rw [← hq, ← hu]; rfl
  refine ⟨fun room head hbm => ?_, fun full => ?_⟩
  · obtain ⟨rs, hlen, asks, joined⟩ := requests_join (s := u) (p := p) (k := k) (q := q) bblk mblk (queues ▸ hs)
      (by rw [State.replaying, unison]; exact hr) (hq ▸ head) (nb + 1) fun j hj => by rw [hbmBlock_congr kept cap]; exact hbm j (by omega)
    rw [if_neg (by omega)] at run
    obtain ⟨-, hst, hp, -⟩ := h
    rw [run]
    exact ⟨retireAt_retired i id (joined.sects.trans (frame.1 .sects (by decide))) hp (by rw [id, hst]; decide), rs, hlen,
      by rw [← hq, ← queues]; exact joined.queues, asks⟩
  · rw [if_pos full] at run
    have ⟨waiting, only⟩ := waits h .room kept frame
    rw [run]
    exact ⟨waiting, counted.before (.of_regs_eq (waitAt_regs ..) : RegsKept [] _ _) List.not_mem_nil, only⟩

/-- QWAIT retires when at most `n` requests of its queue are outstanding, and waits otherwise (R275). -/
theorem qwait_spec {q st n : Nat} (hwf : s.wf) (h : s.Issues p k i (.qwait q st n)) :
    ((s.queue p (4 * st + q)).length ≤ n → Completes (exec (.qwait p k w) s) (fun t => Retired s t p k (i + 1) (s.sect p k) ∧
      OnlySection s t p k [TEL_SECT_QWAIT.addr (six p k)])) ∧
    (n < (s.queue p (4 * st + q)).length → Completes (exec (.qwait p k w) s) (fun t => Waits s t p k i .queue ∧
      Counted TEL_SECT_QWAIT (six p k) TEL_SECT_QWAIT.COUNT w.own s t ∧ OnlySection s t p k [TEL_SECT_QWAIT.addr (six p k)])) := by
  let u := (s.addStalls p k w).incF TEL_SECT_QWAIT (six p k) TEL_SECT_QWAIT.COUNT w.own
  have kept : RegsKept ([TEL_SECT_QWAIT.addr (six p k)] ++ stallRegs p k) s u := countOwn_kept _ _ _ _
  have frame : Frame [.regs] s u := countOwn_frame ..
  have hq : u.queue p (4 * st + q) = s.queue p (4 * st + q) := queue_congr (frame.1 .queues (by decide)) ..
  have counted : Counted TEL_SECT_QWAIT (six p k) TEL_SECT_QWAIT.COUNT w.own s u :=
    countOwn_counted _ hwf.2 (by decide) (telSect_apart rfl rfl (by decide) p k)
  refine ⟨fun few => ?_, fun many => ?_⟩
  · exact completes_issue h rfl rfl (fun _ _ => if_neg (by rw [hq]; omega)) (retires h i (f := id) rfl rfl kept frame)
  · have ⟨waiting, only⟩ := waits h .queue kept frame
    exact completes_issue h rfl rfl (fun _ _ => if_pos (by rw [hq]; exact many))
      ⟨waiting, counted.before (.of_regs_eq (waitAt_regs ..) : RegsKept [] _ _) List.not_mem_nil, only⟩

end

/-- Settles O16: QLD and QST by the requests that join their queue, QWAIT by what is outstanding. -/
theorem queueInstructions : Obligations.QueueInstructions := by
  unfold Obligations.QueueInstructions
  intro p k w s i q nb b m xf hwf hq hnb hs hr x moves
  have moved : ∀ {c : Instr} {n : Nat} {ins : PInstr} {is_ : PInstr → Bool} {act : State → Nat → PWord → State}, s.Issues p k i ins →
      exec c s = .next (s.partRow p k w is_ act) → is_ ins = true →
      (∀ v sm, act (s.addStalls p k w) i ⟨v, sm, ins⟩ = (s.addStalls p k w).placeRequests p k i w.own n nb (x.effBlk xf b) (x.effMem xf m)) →
      moves c (decide (4 ≤ n)) n := fun h hc hi hu =>
    have ⟨placed, full⟩ := placeRequests_spec hwf h hs hr
    ⟨fun room head hbm => completes_issue h hc hi hu (placed room head hbm), fun f => completes_issue h hc hi hu (full f)⟩
  refine ⟨fun h => ?_, fun hq2 h => ?_, fun st n _ h => qwait_spec hwf h⟩
  · have := moved (c := .qld p k w) (n := q) h rfl rfl fun _ _ => rfl
    rwa [decide_eq_false (by omega)] at this
  · have := moved (c := .qst p k w) (n := 4 + q) h rfl rfl fun _ _ => rfl
    rwa [decide_eq_true (by omega)] at this

end Sys2Proof.Machine
end

section
/-! The port of a Press die (R374 to R378): what a scan or fence that begins removes, writes back and awaits. -/

namespace Sys2Proof.Machine

/-! ### Writebacks that start -/

/-- A dirty entry of the write buffer whose writeback starts (R372). -/
def WbEntry.started (e : WbEntry) : WbEntry := { e with dirty := false, flight := some e.data }

/-- Two changes of one kind, one after the other, when the first takes its elements out of the second's reach. -/
theorem mapIf_mapIf {α : Type} {p q : α → Bool} {g : α → α} (h : ∀ e, q e = true → p (g e) = false) (l : List α) :
    mapIf p g (mapIf q g l) = mapIf (fun e => q e || p e) g l := by
  simp only [mapIf, List.map_map]
  refine List.map_congr_left fun e _ => ?_
  by_cases hq : q e = true <;> simp [hq, h]

/-- The writebacks of several blocks start: each dirty entry of theirs that is not in flight. -/
theorem foldl_startWb : ∀ (l : List Nat) (x : MemPort), l.foldl MemPort.startWb x =
    { x with wb := mapIf (fun e => l.contains e.blk && (e.dirty && e.flight.isNone)) WbEntry.started x.wb }
  | [], x => by simp [mapIf]
  | b :: l, x => by
    have both := mapIf_mapIf (p := fun e => l.contains e.blk && (e.dirty && e.flight.isNone)) (q := fun e => e.blk == b && e.dirty && e.flight.isNone)
      (g := WbEntry.started) (fun e _ => by simp [WbEntry.started]) x.wb
    rw [List.foldl_cons, foldl_startWb l]
    refine congrArg (fun w => { x with wb := w }) (both.trans (congrArg (fun p => mapIf p WbEntry.started x.wb) (funext fun e => ?_)))
    rw [List.contains_cons, Bool.and_or_distrib_right, Bool.and_assoc]

/-- The blocks of a write buffer that a scan writes back. -/
def MemPort.dirtyIn (x : MemPort) (sc : Scan) : List Nat := (x.wb.filter (fun e => sc.covers e.blk && e.dirty)).map (fun e => e.blk)

/-- A scan as its port keeps it once it has begun. -/
def MemPort.scanOf (x : MemPort) (sc : Scan) : Scan := { sc with await := x.toAwait sc, wrote := (x.dirtyIn sc).length }

/-- The port once a scan has begun. -/
def MemPort.begin (x : MemPort) (sc : Scan) : MemPort :=
  { (x.dirtyIn sc).foldl MemPort.startWb { x with cache := tclear sc.covers x.cache } with scans := x.scans ++ [x.scanOf sc] }

section
variable {x : MemPort} {sc : Scan} {e : WbEntry}

theorem begin_cache (x : MemPort) (sc : Scan) : (x.begin sc).cache = tclear sc.covers x.cache := by rw [MemPort.begin, foldl_startWb]

theorem begin_wb (x : MemPort) (sc : Scan) :
    (x.begin sc).wb = mapIf (fun e => (x.dirtyIn sc).contains e.blk && (e.dirty && e.flight.isNone)) WbEntry.started x.wb := by
  rw [MemPort.begin, foldl_startWb]

/-- A dirty block of the range that is not in flight is written back. -/
theorem begin_starts (he : e ∈ x.wb) (hc : sc.covers e.blk = true) (hd : e.dirty = true) (hf : e.flight = none) : e.started ∈ (x.begin sc).wb := by
  have named : (x.dirtyIn sc).contains e.blk = true :=
    List.contains_iff_mem.mpr (List.mem_map_of_mem (List.mem_filter.mpr ⟨he, by simp [hc, hd]⟩))
  rw [begin_wb]
  exact List.mem_map.mpr ⟨e, he, if_pos (by simp only [named, hd, hf]; rfl)⟩

/-- An entry outside the range stays as it is. -/
theorem begin_keeps (he : e ∈ x.wb) (hc : sc.covers e.blk = false) : e ∈ (x.begin sc).wb := by
  have unnamed : (x.dirtyIn sc).contains e.blk = false := by
    refine Bool.eq_false_iff.mpr fun h => ?_
    obtain ⟨y, hy, hb⟩ := List.mem_map.mp (List.contains_iff_mem.mp h)
    have := (List.mem_filter.mp hy).2
    rw [hb, hc] at this
    simp at this
  rw [begin_wb]
  exact List.mem_map.mpr ⟨e, he, if_neg fun hn => absurd ((Bool.and_eq_true _ _).mp hn).1 (by rw [unnamed]; decide)⟩

end

/-! ### Ports of the package -/

section
variable {s t : State} {d : Nat} {sc : Scan}

theorem port_congr (h : t.ports = s.ports) (d : Nat) : t.port d = s.port d := by rw [State.port, h]; rfl

theorem port_setPort_same (h : tok {} s.ports = true) (x : MemPort) : (s.setPort d x).port d = x := tget_tput_same ({} : MemPort) d x h

/-- Loads of die d that a scan covers and whose fills are on their way are not kept (R376). -/
def State.markFills (s : State) (d : Nat) (sc : Scan) : State :=
  (List.range 32).foldl (fun s k => (List.range 4).foldl (fun s q =>
    s.mapQueue (32 * d + k) q (fun r => sc.covers r.mblk && r.sent && !r.done && r.data.isNone) (fun r => { r with noCache := true })) s) s

theorem markFills_ports (s : State) (d : Nat) (sc : Scan) : (s.markFills d sc).ports = s.ports :=
  (Frame.foldl (fun _ _ h => Frame.foldl (fun _ _ h => h.trans (State.mapQueue_frame ..)) _ _ h) _ s (.refl [.queues] s)).1 .ports (by decide)

theorem beginScan_eq (s : State) (d : Nat) (sc : Scan) :
    s.beginScan d sc = (s.setPort d ((s.port d).begin sc)).markFills d ((s.port d).scanOf sc) := rfl

/-- A scan that begins changes the port of its die. -/
theorem beginScan_ports (s : State) (d : Nat) (sc : Scan) : (s.beginScan d sc).ports = tput {} s.ports d ((s.port d).begin sc) := by
  rw [beginScan_eq, markFills_ports]
  rfl

theorem beginScan_port (h : tok {} s.ports = true) (sc : Scan) : (s.beginScan d sc).port d = (s.port d).begin sc := by
  rw [State.port, beginScan_ports, tget_tput_same _ _ _ h]

/-- The scan that has begun is the last of its port. -/
theorem beginScan_scans (h : tok {} s.ports = true) (sc : Scan) :
    ((s.beginScan d sc).port d).scans = (s.port d).scans ++ [(s.port d).scanOf sc] := by rw [beginScan_port h]; rfl

theorem beginScan_last (h : tok {} s.ports = true) (sc : Scan) :
    ((s.beginScan d sc).port d).scans.getLast? = some ((s.port d).scanOf sc) := by rw [beginScan_scans h, List.getLast?_concat]

/-- What a scan or fence that begins does to its port (R374 to R378). -/
theorem beginScan_spec (h : tok {} s.ports = true) (sc : Scan) (m : Nat) : let t := s.beginScan d sc
    (sc.covers m = true → tget [] (t.port d).cache m = []) ∧ (sc.covers m = false → tget [] (t.port d).cache m = tget [] (s.port d).cache m) ∧
    (∀ e ∈ (s.port d).wb, sc.covers e.blk = true → e.dirty = true → e.flight = none →
      { e with dirty := false, flight := some e.data } ∈ (t.port d).wb) ∧
    (∀ e ∈ (s.port d).wb, sc.covers e.blk = false → e ∈ (t.port d).wb) ∧ Frame [.ports, .queues] s t := by
  intro t
  have port : t.port d = (s.port d).begin sc := beginScan_port h sc
  rw [port, begin_cache, tget_tclear]
  exact ⟨fun hc => if_pos hc, fun hc => if_neg (by rw [hc]; decide), fun e he hc hd hf => begin_starts he hc hd hf, fun e he hc => begin_keeps he hc,
    (State.beginScan_frame ..).mono (by decide)⟩

end

end Sys2Proof.Machine
end

section
/-! RINSE and CADENCE of a part (R276, R277), and the end of a scan or fence (R374, R378). -/

namespace Sys2Proof.Machine

theorem GLB_CAP0_apart (p : Fin 256) (k : Fin 4) : GLB_CAP0.addr [] ∉ stallRegs p k := by
  have win := dieWin_press p.isLt
  rw [stallRegs_eq, show GLB_CAP0.addr [] = 8 from rfl]
  simp only [List.mem_cons, List.not_mem_nil, or_false]
  omega

section
variable {s : State} {p : Fin 256} {k : Fin 4} {w : Stalls} {i : Nat}

theorem strayBlock_congr {as : List Nat} {t : State} (h : RegsKept as s t) (ha : GLB_CAP0.addr [] ∉ as) (m n : Nat) :
    t.strayBlock m n = s.strayBlock m n := by
  have : t.hbmBlock = s.hbmBlock := funext (hbmBlock_congr h ha)
  rw [State.strayBlock, State.strayBlock, this]

/-- A RINSE of HBM puts a scan of its range on its die's port, and waits (R276, R374). -/
theorem rinse_spec {nb m : Nat} {xf : Bool} (h : s.Issues p k i (.rinse nb xf m)) (hs : s.strayBlock ((s.sect p k).effMem xf m) (nb + 1) = none)
    (htok : tok {} s.ports = true) : Completes (exec (.rinse p k w) s) (fun t =>
      Waits s t p k i .rinse ∧ (t.port (p / 32)).scans.length = (s.port (p / 32)).scans.length + 1 ∧
      (∃ sc, (t.port (p / 32)).scans.getLast? = some sc ∧ sc.fence = false ∧ sc.lo = (s.sect p k).effMem xf m ∧ sc.n = nb + 1 ∧ sc.by_ = .sect p k) ∧
      RegsKept (stallRegs p k) s t ∧ Frame [.regs, .sects, .ports, .queues] s t) := by
  let sc : Scan := { fence := false, lo := (s.sect p k).effMem xf m, n := nb + 1, by_ := .sect p k, await := [], wrote := 0 }
  have ⟨waiting, only⟩ := waits (more := []) h .rinse (addStalls_kept (w := w)) addStalls_frame_regs
  generalize hu : (s.addStalls p k w).waitAt p k i .rinse = u at waiting only
  obtain ⟨kept, frame⟩ := only
  have ports : u.ports = s.ports := frame.1 .ports (by decide)
  have began : Frame [.queues, .ports] u (u.beginScan (p / 32) sc) := State.beginScan_frame ..
  refine completes_issue h rfl rfl (u := u.beginScan (p / 32) sc) (fun _ _ => ?_)
    ⟨(began.1 .sects (by decide)).trans waiting, ?_, ⟨(u.port (p / 32)).scanOf sc, beginScan_last (ports ▸ htok) sc, rfl, rfl, rfl, rfl⟩,
      kept.trans (began.regs_kept (by decide) _), (frame.mono (by decide)).trans (began.mono (by decide))⟩
  · simp only [addStalls_sect, strayBlock_congr addStalls_kept (GLB_CAP0_apart p k), hs, hu, sc]
  · rw [beginScan_scans (ports ▸ htok), port_congr ports, List.length_append]
    rfl

end

/-! ### CADENCE -/

section
variable {s t : State} {p j i : Nat} {x : Section}

theorem inCadence_congr (hx : t.sect p j = s.sect p j) (hp : t.press = s.press) : t.inCadence p j = s.inCadence p j := by
  have prs : t.prs p = s.prs p := by rw [State.prs, hp]; rfl
  rw [State.inCadence, State.inCadence, hx, prs]

/-- A section waits on the CADENCE at which it stands. -/
theorem inCadence_of_waiting (hx : t.sect p j = x) (hst : x.st = .waiting) (hw : x.wait = .sync) (hi : x.next = i) (hp : t.press = s.press)
    (hd : decodeWord (tget 0 (s.prs p).part i) = some ⟨false, 15, .cadence⟩) : t.inCadence p j = true := by
  have prs : t.prs p = s.prs p := by rw [State.prs, hp]; rfl
  simp only [State.inCadence, hx, hst, hw, hi, prs, hd, beq_self_eq_true, Bool.and_self]

theorem waiting_of_inCadence (h : s.inCadence p j = true) : (s.sect p j).st = .waiting := by
  simp only [State.inCadence, Bool.and_eq_true, beq_iff_eq] at h
  exact h.1.1

theorem queuesEmpty_congr (h : t.queues = s.queues) (p : Nat) : t.queuesEmpty p = s.queuesEmpty p := by
  simp only [State.queuesEmpty, queue_congr h]

end

/-- A section whose CADENCE has begun (R239, R277). -/
def Section.fencing (x : Section) : Section := { x with wait := .cadence }

section
variable {s : State} {p : Fin 256} {k : Fin 4} {w : Stalls} {i : Nat}

/-- CADENCE waits as a SYNC, until all four sections stand in it and every queue of the Press is empty: then a fence begins (R277). -/
theorem cadence_spec (h : s.Issues p k i .cadence) (hd : decodeWord (tget 0 (s.prs p).part i) = some ⟨false, 15, .cadence⟩)
    (htok : tok {} s.sects = true) (hports : tok {} s.ports = true) :
    ((∃ j : Fin 4, j ≠ k ∧ s.inCadence p j = false) → Completes (exec (.cadence p k w) s) (fun t => Waits s t p k i .sync ∧
      OnlySection s t p k [TEL_SECT_SYNC.addr (six p k)])) ∧
    ((∀ j : Fin 4, j ≠ k → s.inCadence p j = true) → s.queuesEmpty p = true → Completes (exec (.cadence p k w) s) (fun t =>
      (∀ j : Fin 4, (t.sect p j).wait = .cadence ∧ (t.sect p j).st = .waiting) ∧
      (∃ sc, (t.port (p / 32)).scans.getLast? = some sc ∧ sc.fence = true ∧ sc.by_ = .press p) ∧
      Frame [.regs, .sects, .ports, .queues] s t)) := by
  let sc : Scan := { fence := true, lo := 0, n := 0, by_ := .press p, await := [], wrote := 0 }
  obtain ⟨u, hu, ukept, uframe⟩ : ∃ u, (s.addStalls p k w).incF TEL_SECT_SYNC (six p k) TEL_SECT_SYNC.COUNT w.own = u ∧
    RegsKept ([TEL_SECT_SYNC.addr (six p k)] ++ stallRegs p k) s u ∧ Frame [.regs] s u := ⟨_, rfl, countOwn_kept _ _ _ _, countOwn_frame ..⟩
  have ⟨waiting, only⟩ := waits h .sync ukept uframe
  have usect : u.sect p k = s.sect p k := sect_congr (uframe.1 .sects (by decide)) ..
  generalize hv : u.waitAt p k i .sync = v at waiting only
  obtain ⟨kept, frame⟩ := only
  have press : v.press = s.press := frame.1 .press (by decide)
  have kx : v.sect p k = { s.sect p k with next := i, pc := i, st := .waiting, wait := .sync } := by
    rw [State.sect, waiting, tget_tput_same _ _ _ htok]
  have jx : ∀ j : Fin 4, j ≠ k → v.sect p j = s.sect p j := fun j hj => by
    rw [State.sect, waiting, tget_tput_ne _ _ _ (sect_index_ne k.2 j.2 (.inr (Fin.val_ne_of_ne hj)))]; rfl
  have run : ∀ {t : State} {P : State → Prop}, (if (List.range 4).all (fun j => v.inCadence p j) && v.queuesEmpty p then
        ((List.range 4).foldl (fun s j => s.setSect p j (s.sect p j).fencing) v).beginScan (p / 32) sc else v) = t → P t →
      Completes (exec (.cadence p k w) s) P := fun ht hP =>
    completes_issue h rfl rfl (fun _ _ => by rw [hu, if_neg (by rw [usect, h.2.2.1]; decide), hv]; exact ht) hP
  refine ⟨fun ⟨j, hj, hc⟩ => run (if_neg ?_) ⟨waiting, kept, frame⟩, fun hc hq => ?_⟩
  · have : (List.range 4).all (fun j => v.inCadence p j) = false :=
      List.all_eq_false.mpr ⟨j, List.mem_range.mpr j.2, by rw [inCadence_congr (jx j hj) press, hc]; decide⟩
    rw [this, Bool.false_and]
    decide
  · have all : ∀ j : Fin 4, v.inCadence p j = true := fun j => by
      rcases eq_or_ne j k with rfl | hj
      · exact inCadence_of_waiting kx rfl rfl rfl press hd
      · rw [inCadence_congr (jx j hj) press, hc j hj]
    have hall : ((List.range 4).all (fun j => v.inCadence p j) && v.queuesEmpty p) = true := by
      rw [queuesEmpty_congr (frame.1 .queues (by decide)), hq, Bool.and_true]
      exact List.all_eq_true.mpr fun j hj => all ⟨j, List.mem_range.mp hj⟩
    have vtok : tok {} v.sects = true := by rw [waiting]; exact tok_tput _ _ _ htok
    have sects := sect_foldl (p := p) (op := fun s j => s.setSect p j (s.sect p j).fencing) (f := Section.fencing) (P := fun _ => True)
      (fun _ _ _ => rfl) (List.range 4) vtok List.nodup_range fun j hj => ⟨List.mem_range.mp hj, trivial⟩
    have vframe : Frame [.sects] v ((List.range 4).foldl (fun s j => s.setSect p j (s.sect p j).fencing) v) :=
      Frame.foldl (fun _ _ h => h.trans (State.setSect_frame ..)) _ v (.refl _ v)
    generalize (List.range 4).foldl (fun s j => s.setSect p j (s.sect p j).fencing) v = x at run sects vframe
    have began : Frame [.queues, .ports] x (x.beginScan (p / 32) sc) := State.beginScan_frame ..
    have ports : x.ports = s.ports := (vframe.1 .ports (by decide)).trans (frame.1 .ports (by decide))
    refine run (if_pos hall) ⟨fun j => ?_, ⟨_, beginScan_last (ports ▸ hports) sc, rfl, rfl⟩,
      (frame.mono (by decide)).trans ((vframe.mono (by decide)).trans (began.mono (by decide)))⟩
    rw [sect_congr (began.1 .sects (by decide)), sects j j.2, if_pos (List.mem_range.mpr j.2)]
    exact ⟨rfl, waiting_of_inCadence (all j)⟩

end

/-! ### The end of a scan or fence -/

section
variable {s : State} {d : Fin 8}

theorem scanDone_none {fence : Bool} (h : ∀ x ∈ (s.port d).scans, x.fence = fence → x.await ≠ []) : s.scanDone d fence = s := by
  have : (s.port d).scans.find? (fun x => x.fence == fence && x.await.isEmpty) = none := by
    refine List.find?_eq_none.mpr fun x hx hf => ?_
    simp only [Bool.and_eq_true, beq_iff_eq, List.isEmpty_iff] at hf
    exact h x hx hf.1 hf.2
  rw [State.scanDone, this]

/-- A list without its first element that is `x`, when that is its head. -/
theorem dropFirst_head {α : Type} [DecidableEq α] (x : α) (l : List α) : dropFirst (fun y => y == x) (x :: l) = l := by
  simp [dropFirst]

theorem find_head {x : Scan} {xs : List Scan} (ha : x.await = []) :
    (x :: xs).find? (fun y => y.fence == x.fence && y.await.isEmpty) = some x := List.find?_cons_of_pos (by simp [ha])

theorem scanRetire_waiting {p k : Nat} {c : SecWait} (hw : (s.sect p k).wait = c) (hst : (s.sect p k).st = .waiting) :
    s.scanRetire p k c = s.setSect p k ((s.sect p k).goto ((s.sect p k).next + 1)) := by
  simp [State.scanRetire, hw, hst]

/-- The port without its oldest scan. -/
def State.scanOut (s : State) (d : Nat) (xs : List Scan) : State := s.setPort d { s.port d with scans := xs }

theorem scanOut_frame (s : State) (d : Nat) (xs : List Scan) : Frame [.ports] s (s.scanOut d xs) := State.setPort_frame ..

/-- A RINSE that is done retires in its section (R276). -/
theorem rinseDone_spec {p : Fin 256} {k : Fin 4} {x : Scan} {xs : List Scan} (hx : (s.port d).scans = x :: xs) (ha : x.await = [])
    (hf : x.fence = false) (hb : x.by_ = .sect p k) (hw : (s.sect p k).wait = .rinse) (hst : (s.sect p k).st = .waiting)
    (hp : (s.sect p k).pendW = []) : Completes (exec (.rinseDone d) s) (fun t => Retired s t p k ((s.sect p k).next + 1) (s.sect p k) ∧
      t.ports = tput {} s.ports d { s.port d with scans := xs } ∧ Frame [.ports, .sects] s t) := by
  have frame := scanOut_frame s d xs
  have sects : (s.scanOut d xs).sects = s.sects := frame.1 .sects (by decide)
  have find := find_head (xs := xs) ha
  rw [hf] at find
  refine ⟨(s.scanOut d xs).scanRetire p k .rinse, ?_, ?_, (State.scanRetire_frame ..).1 .ports (by decide),
    (frame.mono (by decide)).trans ((State.scanRetire_frame ..).mono (by decide))⟩
  · show execRinseDone d s = _
    simp only [execRinseDone, State.scanDone, hx, find, hb, dropFirst_head]
    rfl
  · rw [scanRetire_waiting (by rw [sect_congr sects, hw]) (by rw [sect_congr sects, hst]), sect_congr sects,
      goto_eq _ hp (by rw [hst]; decide)]
    rfl

/-- A fence that is done retires the CADENCE of all four sections (R277). -/
theorem fenceDone_spec {p : Fin 256} {x : Scan} {xs : List Scan} (hx : (s.port d).scans = x :: xs) (ha : x.await = []) (hf : x.fence = true)
    (hb : x.by_ = .press p) (htok : tok {} s.sects = true) (hj : ∀ j : Fin 4, (s.sect p j).wait = .cadence ∧ (s.sect p j).st = .waiting) :
    Completes (exec (.fenceDone d) s) (fun t => (∀ j : Fin 4, (t.sect p j).st = .running ∧ (t.sect p j).next = (s.sect p j).next + 1) ∧
      t.ports = tput {} s.ports d { s.port d with scans := xs } ∧ Frame [.ports, .sects] s t) := by
  have frame := scanOut_frame s d xs
  have sects : (s.scanOut d xs).sects = s.sects := frame.1 .sects (by decide)
  have find := find_head (xs := xs) ha
  rw [hf] at find
  have retired := sect_foldl (p := p) (op := fun s k => s.scanRetire p k .cadence) (f := fun x => x.goto (x.next + 1))
    (P := fun x => x.wait = .cadence ∧ x.st = .waiting) (fun _ _ h => scanRetire_waiting h.1 h.2) (List.range 4) (s := s.scanOut d xs)
    (sects ▸ htok) List.nodup_range fun j h => ⟨List.mem_range.mp h, by rw [sect_congr sects]; exact hj ⟨j, List.mem_range.mp h⟩⟩
  have fold : Frame [.sects] (s.scanOut d xs) ((List.range 4).foldl (fun s k => s.scanRetire p k .cadence) (s.scanOut d xs)) :=
    Frame.foldl (fun _ _ h => h.trans (State.scanRetire_frame ..)) _ _ (.refl _ _)
  refine ⟨(List.range 4).foldl (fun s k => s.scanRetire p k .cadence) (s.scanOut d xs), ?_, fun j => ?_, fold.1 .ports (by decide),
    (frame.mono (by decide)).trans (fold.mono (by decide))⟩
  · show execFenceDone d s = _
    simp only [execFenceDone, State.scanDone, hx, find, hb, dropFirst_head]
    rfl
  · rw [retired j j.2, if_pos (List.mem_range.mpr j.2), sect_congr sects, Section.goto, (hj j).2]
    exact ⟨rfl, rfl⟩

end

/-! ### The commands -/

section
variable {s : State} {c : Cmd}

/-- The scans of a command leave their ports, and nothing waits for it any more. -/
def State.dropScans (s : State) (c : Cmd) : State :=
  let t := (List.range 8).foldl (fun s d => s.setPort d { s.port d with scans := (s.port d).scans.filter (fun x => x.by_ != .cmd c) }) s
  { t with front := { t.front with waiting := t.front.waiting.filter (fun x => x.2 != c) } }

theorem dropScans_frame (s : State) (c : Cmd) : Frame [.ports, .front] s (s.dropScans c) :=
  Frame.set_front _ (by decide) (Frame.foldl (fun _ _ h => h.trans ((State.setPort_frame ..).mono (by decide))) _ s (.refl _ s))

/-- A command whose scans all await nothing more completes with the number of blocks that they wrote back (R386). -/
theorem finishScans_done (h : ∀ x ∈ s.cmdScans c, x.await = []) :
    s.finishScans c = (s.dropScans c).complete c stOk (leBytes 4 ((s.cmdScans c).map (fun x => x.wrote)).sum) := by
  have all : (s.cmdScans c).all (fun x => x.await.isEmpty) = true := List.all_eq_true.mpr fun x hx => by rw [h x hx]; rfl
  rw [List.sum_eq_foldl]
  exact if_pos all

theorem finishScans_waits (h : ∃ x ∈ s.cmdScans c, x.await ≠ []) : s.finishScans c = s := by
  obtain ⟨x, hx, ha⟩ := h
  have all : (s.cmdScans c).all (fun x => x.await.isEmpty) = false :=
    List.all_eq_false.mpr ⟨x, hx, by rwa [List.isEmpty_iff]⟩
  exact if_neg (by rw [all]; decide)

theorem any_absent_iff {m : Nat} : (s.diesNamed m).any (fun d => !s.hasDie d) = true ↔ ∃ d ∈ s.diesNamed m, s.hasDie d = false := by
  simp [List.any_eq_true]

/-- The dies that are up of the one that a command names. -/
theorem filter_one {d : Nat} {f : Nat → Bool} (h : f d = true) : [d].filter f = [d] := by simp [h]

/-- The parameters of RINSE_RANGE are not in order (R383). -/
@[reducible] def State.BadRinse (s : State) (c : Cmd) : Prop :=
  c.parZero 13 3 = false ∨ c.par 0 8 % 512 ≠ 0 ∨ c.par 8 4 % 512 ≠ 0 ∨ c.par 8 4 = 0 ∨ boardBase ≤ c.par 0 8 ∨
    s.rangeMapped (c.par 0 8) (c.par 8 4) = false ∨ touchesCarve (c.par 0 8) (c.par 8 4) = true

/-- A scan goes to each of several ports. -/
def State.beginScans (s : State) (ds : List Nat) (sc : Scan) : State := ds.foldl (fun s d => s.beginScan d sc) s

/-- Of the ports named, one is up: the scan of a command goes there. -/
theorem beginScans_one (u : State) {ds : List Nat} {d : Nat} {sc : Scan} (h : ds = [d]) :
    (if ds.isEmpty then (u.beginScans ds sc).finishScans c else u.beginScans ds sc) = u.beginScan d sc := by
  rw [h, if_neg (by simp), State.beginScans, List.foldl_cons, List.foldl_nil]

/-- The scan that RINSE_RANGE asks for. -/
def rinseScan (c : Cmd) : Scan := { fence := false, lo := c.par 0 8 / 512, n := c.par 8 4 / 512, by_ := .cmd c, await := [], wrote := 0 }

theorem exec_rinseRange (ha : s.Accepts c 0x0205) : exec (.rinseRange c) s = .next (
    if s.BadRinse c then s.complete c stBadParam []
    else if (s.diesNamed (c.par 12 1)).any (fun d => !s.hasDie d) then s.complete c stAbsentUnit []
    else
      let ds := (s.diesNamed (c.par 12 1)).filter s.dieUp
      let t := (s.wait .rinse c).beginScans ds (rinseScan c)
      if ds.isEmpty then t.finishScans c else t) := by
  show execRinseRange c s = _
  rw [execRinseRange, runCmd_of_accepts ha]
  simp only [Bool.not_eq_true']
  rfl

/-- RINSE_RANGE (R383, R386). -/
theorem rinseRange_spec (ha : s.Accepts c 0x0205) :
    (s.BadRinse c → exec (.rinseRange c) s = .next (s.complete c stBadParam [])) ∧
    (¬s.BadRinse c → (∃ d ∈ s.diesNamed (c.par 12 1), s.hasDie d = false) → exec (.rinseRange c) s = .next (s.complete c stAbsentUnit [])) ∧
    (∀ d : Fin 8, ¬s.BadRinse c → s.diesNamed (c.par 12 1) = [(d : Nat)] → s.hasDie d = true → s.dieUp d = true →
      Completes (exec (.rinseRange c) s) (fun t =>
        t.front.waiting = s.front.waiting ++ [(.rinse, c)] ∧ t = (s.wait .rinse c).beginScan d (rinseScan c))) := by
  refine ⟨fun bad => by rw [exec_rinseRange ha, if_pos bad], fun ok absent => ?_, fun d ok named present up => ?_⟩
  · rw [exec_rinseRange ha, if_neg ok, if_pos (any_absent_iff.mpr absent)]
  · have none : ¬(s.diesNamed (c.par 12 1)).any (fun d => !s.hasDie d) = true := by simp [named, present]
    have front : ((s.wait .rinse c).beginScan d (rinseScan c)).front = (s.wait .rinse c).front := (State.beginScan_frame ..).1 .front (by decide)
    refine ⟨(s.wait .rinse c).beginScan d (rinseScan c), ?_, by rw [front]; rfl, rfl⟩
    rw [exec_rinseRange ha, if_neg ok, if_neg none, named]
    exact congrArg Host.Outcome.next (beginScans_one (s.wait .rinse c) (filter_one up))

/-! ### CADENCE as a command -/

/-- The fence that a CADENCE command asks for. -/
def fenceScan (c : Cmd) : Scan := { fence := true, lo := 0, n := 0, by_ := .cmd c, await := [], wrote := 0 }

theorem exec_cadenceCommand (ha : s.Accepts c 0x0206) (hw : (s.waiters .cadenceDrain).contains c = false) : exec (.cadenceCommand c) s = .next (
    if c.parZero 1 15 = false then s.complete c stBadParam []
    else if (s.diesNamed (c.par 0 1)).any (fun d => !s.hasDie d) then s.complete c stAbsentUnit []
    else (s.wait .cadenceDrain c).startCadence c) := by
  show execCadenceCommand c s = _
  rw [execCadenceCommand, if_neg (by rw [hw]; decide), runCmd_of_accepts ha]
  simp only [Bool.not_eq_true']

/-- A command that waits for its ring's earlier writes no longer waits for them, and waits for its fence. -/
def State.toFence (s : State) (c : Cmd) : State :=
  ({ s with front := { s.front with waiting := s.front.waiting.filter (fun x => x.2 != c) } }).wait .fence c

theorem startCadence_drains (h : s.earlierWrites c = true) : s.startCadence c = s := if_pos h

/-- The fence of a CADENCE command for one die that is up begins (R385). -/
theorem startCadence_one {d : Nat} (h : s.earlierWrites c = false) (named : s.diesNamed (c.par 0 1) = [d]) (up : s.dieUp d = true) :
    s.startCadence c = (s.toFence c).beginScan d (fenceScan c) := by
  have ds : ((s.toFence c).diesNamed (c.par 0 1)).filter (s.toFence c).dieUp = [d] := (congrArg (List.filter s.dieUp) named).trans (filter_one up)
  rw [State.startCadence, if_neg (by rw [h]; decide)]
  exact beginScans_one (s.toFence c) ds

theorem toFence_waiting (h : ∀ x ∈ s.front.waiting, x.2 ≠ c) :
    ((s.wait .cadenceDrain c).toFence c).front.waiting = s.front.waiting ++ [(.fence, c)] := by
  have kept : s.front.waiting.filter (fun x => x.2 != c) = s.front.waiting := List.filter_eq_self.mpr fun x hx => by simp [h x hx]
  simp [State.toFence, State.wait, List.filter_append, kept]

theorem toFence_frame (s : State) (c : Cmd) : Frame [.front] s ((s.wait .cadenceDrain c).toFence c) :=
  (State.wait_frame ..).trans (Frame.set_front _ (by decide) (Frame.set_front _ (by decide) (.refl _ _)))

/-- CADENCE as a command (R384 to R386). -/
theorem cadenceCommand_spec (ha : s.Accepts c 0x0206) (hw : (s.waiters .cadenceDrain).contains c = false) :
    (c.parZero 1 15 = false → exec (.cadenceCommand c) s = .next (s.complete c stBadParam [])) ∧
    (c.parZero 1 15 = true → (∃ d ∈ s.diesNamed (c.par 0 1), s.hasDie d = false) →
      exec (.cadenceCommand c) s = .next (s.complete c stAbsentUnit [])) ∧
    (c.parZero 1 15 = true → (∀ d ∈ s.diesNamed (c.par 0 1), s.hasDie d = true) → s.earlierWrites c = true →
      Completes (exec (.cadenceCommand c) s) (fun t => t.front.waiting = s.front.waiting ++ [(.cadenceDrain, c)] ∧ Frame [.front] s t)) ∧
    (∀ d : Fin 8, c.parZero 1 15 = true → s.diesNamed (c.par 0 1) = [(d : Nat)] → s.hasDie d = true → s.dieUp d = true → s.earlierWrites c = false →
      (∀ x ∈ s.front.waiting, x.2 ≠ c) → tok {} s.ports = true → Completes (exec (.cadenceCommand c) s) (fun t => t.front.waiting = s.front.waiting ++ [(.fence, c)] ∧
        (∃ sc, (t.port d).scans.getLast? = some sc ∧ sc.fence = true ∧ sc.by_ = .cmd c) ∧ Frame [.front, .ports, .queues] s t)) := by
  have started : c.parZero 1 15 = true → (∀ d ∈ s.diesNamed (c.par 0 1), s.hasDie d = true) →
      exec (.cadenceCommand c) s = .next ((s.wait .cadenceDrain c).startCadence c) := fun hz present => by
    have none : ¬(s.diesNamed (c.par 0 1)).any (fun d => !s.hasDie d) = true := by
      rw [any_absent_iff]
      exact fun ⟨d, hd, absent⟩ => by simp [present d hd] at absent
    rw [exec_cadenceCommand ha hw, if_neg (by rw [hz]; decide), if_neg none]
  refine ⟨fun hz => by rw [exec_cadenceCommand ha hw, if_pos hz], fun hz absent => ?_, fun hz present early => ?_,
    fun d hz named present up early fresh htok => ?_⟩
  · rw [exec_cadenceCommand ha hw, if_neg (by rw [hz]; decide), if_pos (any_absent_iff.mpr absent)]
  · exact ⟨s.wait .cadenceDrain c, by rw [started hz present, startCadence_drains (s := s.wait .cadenceDrain c) early], rfl, State.wait_frame ..⟩
  · have front := toFence_frame s c
    have began : Frame [.queues, .ports] ((s.wait .cadenceDrain c).toFence c) (((s.wait .cadenceDrain c).toFence c).beginScan d (fenceScan c)) :=
      State.beginScan_frame ..
    refine ⟨((s.wait .cadenceDrain c).toFence c).beginScan d (fenceScan c), ?_, ?_, ⟨_, beginScan_last (by exact htok) (fenceScan c), rfl, rfl⟩,
      (front.mono (by decide)).trans (began.mono (by decide))⟩
    · rw [started hz (by rw [named]; simpa using present), startCadence_one (s := s.wait .cadenceDrain c) early named up]
    · rw [show State.front _ = _ from began.1 .front (by decide), toFence_waiting fresh]

end

/-- Settles O23: the port's own lemmas, the waits of RINSE and CADENCE, and the two commands. -/
theorem rinseAndCadence : Obligations.RinseAndCadence := by
  unfold Obligations.RinseAndCadence
  refine ⟨fun p k w s i nb m xf h hs _ htok => rinse_spec h hs htok, fun p k w s i h hd _ htok hports => cadence_spec h hd htok hports,
    fun d s sc m h _ => beginScan_spec h sc m, fun d s => ⟨fun h => ?_, fun h => ?_⟩, fun d s p k x xs hx ha => ⟨?_, ?_⟩,
    fun s c ha => rinseRange_spec ha, fun s c ha hw => cadenceCommand_spec ha hw, fun s c h => finishScans_waits h,
    fun s c h => ⟨_, dropScans_frame s c, finishScans_done h⟩⟩
  · exact congrArg Host.Outcome.next (scanDone_none h)
  · exact congrArg Host.Outcome.next (scanDone_none h)
  · exact fun hf hb hw hst hp => rinseDone_spec hx ha hf hb hw hst hp
  · exact fun hf hb htok hj => fenceDone_spec hx ha hf hb htok hj

end Sys2Proof.Machine
end

section
/-! Tokens (R520 to R523) and the way of a tack to its Mangle die (R524, R526). -/

namespace Sys2Proof.Machine

/-! ### Where the token registers lie -/

/-- The register that follows the outstanding tokens of die d (R520, R523). -/
def tokenReg (d : Nat) : Nat := if d < 8 then TCK_BUDGET.addr [d] else TCK_CSEND_CTRL.addr [d]

theorem addr_die {r : Reg} {a b : Nat} (hd : r.dies = some (a, b)) (hs : r.dims = []) (d : Nat) : r.addr [d] = dieWin d + r.off := by
  simp [Reg.addr, hd, hs, dimOff]

theorem addr_wash (u : Nat) : AON_WASH.addr [u] = 0x303400 + u * 4 := by simp [Reg.addr, AON_WASH, dimOff]

/-- The token register of a die with tokens lies above the registers of the package, and at 0x5000 or more in its window. -/
theorem tokenReg_eq (d : Nat) : tokenReg d = dieWin d + if d < 8 then 0x5000 else 0x50a0 := by
  rw [tokenReg]
  split
  · exact addr_die rfl rfl d
  · exact addr_die rfl rfl d

/-! ### Tokens -/

section
variable {s t : State} {d n : Nat} {as : List Nat}

theorem tokens_congr (h : t.tacks = s.tacks) (d : Nat) : t.tokens d = s.tokens d := by rw [State.tokens, h]; rfl

theorem budget_congr (h : RegsKept as s t) (ha : TCK_BUDGET.addr [d] ∉ as) : t.budget d = s.budget d := by
  rw [State.budget, State.budget, h.getF_eq _ ha]

/-- The return field names the rank and the die's wash count (R514). -/
theorem retField_congr (h : RegsKept as s t) (hr : SCR_PLACE.addr [8] ∉ as) (hd : d < 12) (hw : ∀ u, 256 ≤ u → u < 268 → AON_WASH.addr [u] ∉ as) (full : Bool) (num use : Nat) :
    t.retField d full num use = s.retField d full num use := by
  have wash : t.dieWash d = s.dieWash d := h.getF_eq _ (hw _ (by split_ifs <;> omega) (by split_ifs <;> omega))
  rw [State.retField, State.retField, wash, State.rank, State.rank, h.getF_eq _ hr]

/-- A die's tokens are replaced, and its registers follow. -/
theorem setTokens_spec (s : State) (d : Nat) (l : List Token) :
    (s.setTokens d l).tacks = { s.tacks with tokens := tput [] s.tacks.tokens d l } ∧ RegsKept [tokenReg d] s (s.setTokens d l) := by
  rw [State.setTokens, tokenReg]
  by_cases hd : d < 8
  · rw [if_pos hd, if_pos hd]
    exact ⟨rfl, ((RegsKept.of_regs_eq rfl).setF (by simp)).setF (by simp)⟩
  · rw [if_neg hd, if_neg hd]
    exact ⟨rfl, (RegsKept.of_regs_eq rfl).setF (by simp)⟩

theorem tokens_setTokens (h : tok [] s.tacks.tokens = true) (l : List Token) : (s.setTokens d l).tokens d = l := by
  rw [State.tokens, (setTokens_spec s d l).1]
  exact tget_tput_same [] d l h

theorem setTokens_outstanding (h : tok 0 s.regs = true) (hd : d < 8) (l : List Token) :
    (s.setTokens d l).getF TCK_BUDGET [d] TCK_BUDGET.OUTSTANDING = l.length % 128 := by
  have both : ∀ (u : State) (x y : Nat), tok 0 u.regs = true →
      ((u.setF TCK_BUDGET [d] TCK_BUDGET.OUTSTANDING x).setF TCK_BUDGET [d] TCK_BUDGET.AVAILABLE y).getF TCK_BUDGET [d] TCK_BUDGET.OUTSTANDING = x % 128 :=
    fun u x y hu => by
      rw [getF_setF_field _ _ _ _ _ _ (setF_tok _ _ _ _ _ hu) (by decide) (by decide), getF_setF_same _ _ _ _ _ hu (by decide)]
      rfl
  rw [State.setTokens, if_pos hd]
  exact both _ _ _ h

/-- The lowest available token of a die (R521). -/
def State.freeToken (s : State) (d : Nat) : Option Nat := (List.range (s.budget d)).find? (fun n => (s.tokens d).all (fun t => t.num != n))

/-- The use count of a token that is taken (R522). -/
def State.nextUse (s : State) (d n : Nat) : Nat := (tget 0 s.tacks.uses (64 * d + n) + 1) % 4

/-- The state in which die d has taken its token `n`. -/
def State.tokenTaken (s : State) (d : Nat) (ack peer : Bool) (n : Nat) : State :=
  ({ s with tacks := { s.tacks with uses := tput 0 s.tacks.uses (64 * d + n) (s.nextUse d n) } }).setTokens d
    (s.tokens d ++ [(⟨n, s.nextUse d n, ack, peer⟩ : Token)])

theorem takeToken_eq (ack peer : Bool) :
    s.takeToken d ack peer = (s.freeToken d).map (fun n => (s.tokenTaken d ack peer n, n, s.nextUse d n)) := rfl

theorem tokenTaken_kept (s : State) (d : Nat) (ack peer : Bool) (n : Nat) : RegsKept [tokenReg d] s (s.tokenTaken d ack peer n) :=
  (RegsKept.of_regs_eq rfl).trans (setTokens_spec _ d _).2

theorem tokenTaken_frame (s : State) (d : Nat) (ack peer : Bool) (n : Nat) : Frame [.regs, .tacks] s (s.tokenTaken d ack peer n) :=
  .via (State.setTokens_frame ..) (by decide) (.set_tacks _ (by decide) (.refl _ s))

theorem tokenTaken_tokens (h : tok [] s.tacks.tokens = true) (ack peer : Bool) :
    (s.tokenTaken d ack peer n).tokens d = s.tokens d ++ [⟨n, s.nextUse d n, ack, peer⟩] := tokens_setTokens (by exact h) _

theorem tokenTaken_outstanding (h : tok 0 s.regs = true) (hd : d < 8) (ack peer : Bool) :
    (s.tokenTaken d ack peer n).getF TCK_BUDGET [d] TCK_BUDGET.OUTSTANDING = ((s.tokens d).length + 1) % 128 := by
  rw [State.tokenTaken, setTokens_outstanding (by exact h) hd, List.length_append]
  rfl

end

/-! ### Toward the Mangle die -/

section
variable {s : State} {d : Nat}

/-- There is room at Mangle die m for a tack of die d, and none of its tacks waits before it (R526). -/
@[reducible] def State.RoomFor (s : State) (m d : Nat) : Prop := s.injCount m d < 64 ∧ ∀ x ∈ s.tacks.waiting, ¬(x.mangle = m ∧ x.src = some d)

theorem injCount_congr {t : State} (h : t.tacks = s.tacks) (m d : Nat) : t.injCount m d = s.injCount m d := by
  rw [State.injCount, State.injCount, h]

theorem sendTack_room {t : Tack} (hs : t.src = some d) (hsect : t.sect = none) (h : s.RoomFor t.mangle d) :
    s.sendTack t = { s with tacks := { s.tacks with toMangle := s.tacks.toMangle ++ [t] } } := by
  have all : (s.tacks.waiting.all fun x => !(x.mangle == t.mangle && x.src == t.src)) = true :=
    List.all_eq_true.mpr fun x hx => by simpa only [hs, Bool.not_eq_true', Bool.and_eq_false_iff, beq_eq_false_iff_ne] using not_and_or.mp (h.2 x hx)
  rw [State.sendTack, all, hs, Option.getD_some, if_pos (by simp [h.1])]
  simp [State.injected, hsect]

theorem sendTack_waits {t : Tack} (hs : t.src = some d) (h : ¬s.RoomFor t.mangle d) :
    s.sendTack t = { s with tacks := { s.tacks with waiting := s.tacks.waiting ++ [t] } } := by
  refine if_neg fun room => h ?_
  simp only [hs, Option.getD_some, Bool.and_eq_true, decide_eq_true_eq, List.all_eq_true, Bool.not_eq_true', Bool.and_eq_false_iff, beq_eq_false_iff_ne] at room
  exact ⟨room.1, fun x hx he => (room.2 x hx).elim (fun k => k he.1) fun k => k he.2⟩

/-- The tack that a die builds (R510). -/
def builtTack (d : Nat) (bs : List Byte) (token sect : Option Nat) : Tack := ⟨withChk bs, some d, token, sect, 8 + hget bs 18 1, none⟩

/-- A Press die counts the tacks that it builds (TCK_SENT). -/
def State.countSent (s : State) (d : Nat) : State := if d < 8 then s.incF TCK_SENT [d] TCK_SENT.COUNT 1 else s

theorem buildTack_eq (bs : List Byte) (token sect : Option Nat) : s.buildTack d bs token sect = (s.countSent d).sendTack (builtTack d bs token sect) := rfl

theorem countSent_frame (s : State) (d : Nat) : Frame [.regs] s (s.countSent d) := .ite (fun _ => State.incF_frame ..) fun _ => .refl _ s

theorem countSent_counted (h : tok 0 s.regs = true) (hd : d < 8) : Counted TCK_SENT [d] TCK_SENT.COUNT 1 s (s.countSent d) := by
  rw [State.countSent, if_pos hd]
  exact counted_incF _ _ _ _ _ h (by decide)

/-- A built tack goes to its Mangle die when there is room, and waits otherwise (R526). -/
theorem buildTack_sends (bs : List Byte) (token : Option Nat) (hwf : s.wf) :
    (s.RoomFor (builtTack d bs token none).mangle d → (s.buildTack d bs token none).tacks =
      { s.tacks with toMangle := s.tacks.toMangle ++ [builtTack d bs token none] }) ∧
    (¬s.RoomFor (builtTack d bs token none).mangle d → (s.buildTack d bs token none).tacks =
      { s.tacks with waiting := s.tacks.waiting ++ [builtTack d bs token none] }) ∧
    (d < 8 → Counted TCK_SENT [d] TCK_SENT.COUNT 1 s (s.buildTack d bs token none)) ∧ Frame [.regs, .tacks] s (s.buildTack d bs token none) := by
  have frame := countSent_frame s d
  have tacks : (s.countSent d).tacks = s.tacks := frame.1 .tacks (by decide)
  have same : (s.countSent d).RoomFor (builtTack d bs token none).mangle d ↔ s.RoomFor (builtTack d bs token none).mangle d := by
    rw [State.RoomFor, State.RoomFor, injCount_congr tacks, tacks]
  have sent : ∀ u : State, u.regs = (s.countSent d).regs → d < 8 → Counted TCK_SENT [d] TCK_SENT.COUNT 1 s u := fun u hu hd =>
    (countSent_counted hwf.2 hd).before (.of_regs_eq hu : RegsKept [] _ _) List.not_mem_nil
  rw [buildTack_eq]
  by_cases room : s.RoomFor (builtTack d bs token none).mangle d
  · rw [sendTack_room rfl rfl (same.mpr room)]
    exact ⟨fun _ => by rw [tacks], fun h => absurd room h, sent _ rfl, .set_tacks _ (by decide) (frame.mono (by decide))⟩
  · rw [sendTack_waits rfl (mt same.mp room)]
    exact ⟨fun h => absurd h room, fun _ => by rw [tacks], sent _ rfl, .set_tacks _ (by decide) (frame.mono (by decide))⟩

/-- The state in which a waiting tack is released to its Mangle die (R526). -/
def State.released (s : State) (t : Tack) : State :=
  { s with tacks := { s.tacks with waiting := dropFirst (fun x => x == t) s.tacks.waiting, toMangle := s.tacks.toMangle ++ [t] } }

/-- TACK_RELEASE_TO_MANGLE (R526). -/
theorem tackRelease_spec {d : Fin 12} {m : Fin 2} {t : Tack}
    (hf : s.tacks.waiting.find? (fun t => t.src == some (d : Nat) && t.mangle == 8 + (m : Nat)) = some t) :
    (s.injCount (8 + (m : Nat)) d < 64 → Completes (exec (.tackReleaseToMangle d m) s) (fun u =>
      u.tacks = { s.tacks with waiting := dropFirst (fun x => x == t) s.tacks.waiting, toMangle := s.tacks.toMangle ++ [t] } ∧ Frame [.sects, .tacks] s u)) ∧
    (64 ≤ s.injCount (8 + (m : Nat)) d → exec (.tackReleaseToMangle d m) s = .next s) := by
  have mangle : t.mangle = 8 + (m : Nat) := by
    have := List.find?_some hf
    simp only [Bool.and_eq_true, beq_iff_eq] at this
    exact this.2
  have run : exec (.tackReleaseToMangle d m) s =
      .next (if s.injCount (8 + (m : Nat)) d < 64 then (s.released t).injected t else s) := by
    show execTackReleaseToMangle d m s = _
    rw [execTackReleaseToMangle, hf]
    simp only [mangle]
    rfl
  have frame : Frame [.sects, .tacks] s (s.released t) := .set_tacks _ (by decide) (.refl _ s)
  have injected := State.injected_frame (s.released t) t
  exact ⟨fun room => ⟨_, by rw [run, if_pos room], injected.1 .tacks (by decide), .via injected (by decide) frame⟩,
    fun full => by rw [run, if_neg (Nat.not_lt.mpr full)]⟩

/-- KNOT_TACK_SEND takes the oldest entry of a knot queue and builds its tack (R496, R497). -/
theorem knotTackSend_spec {d : Fin 8} {k : Knot} {rest : List Knot} (hk : tget [] s.score.knotQ d = k :: rest) (htok : tok [] s.score.knotQ = true)
    (hup : s.dieUp d = true) (room : s.injCount (8 + s.knotIdx k) d < 64) : ∃ u : State, tget [] u.score.knotQ d = rest ∧ Frame [.score] s u ∧
      exec (.knotTackSend d) s = .next (u.buildTack d (tackHeader k.srank 0 (s.knotIdx k) (8 + k.stream / 2 ^ 11 % 2) (if k.snag then 2 else 1) ++
        (leBytes 2 k.stream ++ leBytes 2 k.base ++ leBytes 8 k.mask ++ leBytes 1 k.rem ++ leBytes 1 0 ++ leBytes 2 s.rank ++ leBytes 8 0)) none none) := by
  refine ⟨{ s with score := { s.score with knotQ := tput [] s.score.knotQ d rest } }, tget_tput_same _ _ _ htok,
    .set_score _ (by decide) (.refl _ s), ?_⟩
  show execKnotTackSend d s = _
  rw [execKnotTackSend, hk]
  simp only [hup, room, decide_true, Bool.and_self, if_true]

end

end Sys2Proof.Machine
end

section
/-! TKSEND and CSEND_GO (R279, R514, R519 to R523): a token, the return field and the tack that is built, or a wait or a refusal. -/

namespace Sys2Proof.Machine

/-! ### TKSEND -/

/-- The tack that a TKSEND builds: its template's header, the return field, and voices 0 to 5 with FLAGS.ACK of the template (R514, R519). -/
def tksendBytes (raw ret pay : List Byte) (ack : Bool) : List Byte :=
  slice raw 0 8 ++ ret ++ slice pay 6 1 ++ leBytes 1 (leAt pay 7 1 - leAt pay 7 1 % 2 + b2n ack) ++ slice pay 8 16

/-- The registers that a TKSEND may change. -/
def tksendRegs (p k : Nat) : List Nat := [TCK_TOKEN_WAITS.addr [p / 32]] ++ stallRegs p k

section
variable {p : Fin 256} {k : Fin 4}

theorem tksendRegs_eq : tksendRegs p k = [dieWin (p / 32) + 0x5010] ++ stallRegs p k := by
  rw [tksendRegs, addr_die (r := TCK_TOKEN_WAITS) rfl rfl]
  rfl

theorem TCK_TOKEN_WAITS_apart : TCK_TOKEN_WAITS.addr [(p : Nat) / 32] ∉ stallRegs p k := by
  have win := dieWin_press p.isLt
  have off : TCK_TOKEN_WAITS.addr [(p : Nat) / 32] = dieWin ((p : Nat) / 32) + 0x5010 := addr_die rfl rfl _
  rw [stallRegs_eq, off]
  simp only [List.mem_cons, List.not_mem_nil, or_false]
  omega

theorem TCK_BUDGET_apart : TCK_BUDGET.addr [(p : Nat) / 32] ∉ tksendRegs p k := by
  have win := dieWin_press p.isLt
  have off : TCK_BUDGET.addr [(p : Nat) / 32] = dieWin ((p : Nat) / 32) + 0x5000 := addr_die rfl rfl _
  rw [tksendRegs_eq, stallRegs_eq, off]
  simp only [List.cons_append, List.nil_append, List.mem_cons, List.not_mem_nil, or_false]
  omega

/-- The registers of the return field are none that a TKSEND changes. -/
theorem retField_apart {a : Nat} (h : a = SCR_PLACE.addr [8] ∨ ∃ u, 256 ≤ u ∧ u < 268 ∧ a = AON_WASH.addr [u]) :
    a ∉ tokenReg ((p : Nat) / 32) :: tksendRegs p k := by
  have win := dieWin_press p.isLt
  have place : SCR_PLACE.addr [8] = 0x1001010 := rfl
  rw [tksendRegs_eq, stallRegs_eq, tokenReg_eq]
  simp only [List.cons_append, List.nil_append, List.mem_cons, List.not_mem_nil, or_false]
  rcases h with rfl | ⟨u, hu, hu', rfl⟩
  · rw [place]
    split <;> omega
  · rw [addr_wash]
    split <;> omega

/-- The bytes of voices 0 to 5 of a register (R514). -/
def Section.voices6 (x : Section) (ra : Nat) : List Byte := (List.range 6).flatMap fun v => leBytes 4 (x.voice ra v).toNat

/-- The state in which the stalls and the waits for a token of a TKSEND are counted. -/
def State.tksendCounted (s : State) (p : Fin 256) (k : Fin 4) (w : Stalls) : State :=
  (s.addStalls p k w).incF TCK_TOKEN_WAITS [(p : Nat) / 32] TCK_TOKEN_WAITS.COUNT w.own

section
variable {s : State} {w : Stalls} {i ra tpl : Nat}

theorem tksendCounted_kept : RegsKept (tksendRegs p k) s (s.tksendCounted p k w) := countOwn_kept _ _ _ _

theorem tksendCounted_frame : Frame [.regs] s (s.tksendCounted p k w) := countOwn_frame ..

theorem freeToken_counted : (s.tksendCounted p k w).freeToken (p / 32) = s.freeToken (p / 32) := by
  rw [State.freeToken, State.freeToken, tokens_congr (tksendCounted_frame.1 .tacks (by decide)), budget_congr tksendCounted_kept TCK_BUDGET_apart]

/-- The template of a TKSEND (R519). -/
def State.template (s : State) (d tpl : Nat) : List Byte := slice (s.conductor d).tpl (32 * tpl) 32

/-- FLAGS.ACK of a template (R519). -/
def templateAck (raw : List Byte) : Bool := leAt raw 8 1 / 2 % 2 == 1

theorem template_stalls (d : Nat) : (s.addStalls p k w).template d tpl = s.template d tpl := by
  rw [State.template, State.template, State.conductor, State.conductor, addStalls_frame_regs.1 .cond (by decide)]

theorem replaying_stalls : (s.addStalls p k w).replaying = s.replaying := by
  rw [State.replaying, State.replaying, addStalls_frame_regs.1 .unison (by decide)]

/-- What an issued TKSEND does, by the outcome of taking a token. -/
theorem tksend_takes (h : s.Issues p k i (.tksend ra tpl)) (hr : s.replaying = false) :
    ((s.tksendCounted p k w).takeToken (p / 32) (templateAck (s.template (p / 32) tpl)) false = none →
      exec (.tksend p k w) s = .next ((s.tksendCounted p k w).waitAt p k i .token)) ∧
    ∀ u num use, (s.tksendCounted p k w).takeToken (p / 32) (templateAck (s.template (p / 32) tpl)) false = some (u, num, use) →
      exec (.tksend p k w) s = .next ((u.waitAt p k i .inject).buildTack (p / 32)
        (tksendBytes (s.template (p / 32) tpl) (u.retField (p / 32) (templateAck (s.template (p / 32) tpl)) num use) ((u.sect p k).voices6 ra)
          (templateAck (s.template (p / 32) tpl)))
        (if templateAck (s.template (p / 32) tpl) then none else some num) (some (4 * (p : Nat) + (k : Nat)))) := by
  obtain ⟨v, sm, run⟩ := partRow_issues (w := w) h
  rw [← template_stalls (s := s) (p := p) (k := k) (w := w)]
  rw [← replaying_stalls (p := p) (k := k) (w := w)] at hr
  have issued : exec (.tksend p k w) s = _ := congrArg Host.Outcome.next (run _ _ rfl)
  refine ⟨fun hn => issued.trans ?_, fun u num use hu => issued.trans ?_⟩
  · refine congrArg Host.Outcome.next ((if_neg (by simp [hr])).trans ?_)
    simp only [State.tksendCounted, State.template, templateAck] at hn ⊢
    rw [hn]
  · refine congrArg Host.Outcome.next ((if_neg (by simp [hr])).trans ?_)
    simp only [State.tksendCounted, State.template, templateAck, tksendBytes, Section.voices6] at hu ⊢
    rw [hu]
    generalize s.addStalls p k w = a
    simp only [List.append_assoc]
    rfl

end

/-- A TKSEND without an available token waits for one (R521). -/
theorem tksend_waits (hwf : s.wf) (h : s.Issues p k i (.tksend ra tpl)) (hr : s.replaying = false) (hfree : s.freeToken (p / 32) = none) :
    Completes (exec (.tksend p k w) s) (fun t => Waits s t p k i .token ∧ t.tacks = s.tacks ∧
      Counted TCK_TOKEN_WAITS [(p : Nat) / 32] TCK_TOKEN_WAITS.COUNT w.own s t ∧ Frame [.regs, .sects] s t) := by
  have run := (tksend_takes (w := w) h hr).1 (by rw [takeToken_eq, freeToken_counted, hfree]; rfl)
  have counted : Counted TCK_TOKEN_WAITS [(p : Nat) / 32] TCK_TOKEN_WAITS.COUNT w.own s (s.tksendCounted p k w) :=
    countOwn_counted _ hwf.2 (by decide) TCK_TOKEN_WAITS_apart
  obtain ⟨waiting, _, frame⟩ := waits h .token tksendCounted_kept tksendCounted_frame
  exact ⟨_, run, waiting, frame.1 .tacks (by decide), counted.before (.of_regs_eq (waitAt_regs ..) : RegsKept [] _ _) List.not_mem_nil, frame⟩

/-- A TKSEND takes the lowest available token and builds its tack (R279, R514, R519, R521, R522). -/
theorem tksend_sends {num : Nat} (hwf : s.wf) (h : s.Issues p k i (.tksend ra tpl)) (hr : s.replaying = false) (htok : tok [] s.tacks.tokens = true)
    (hfree : s.freeToken (p / 32) = some num) :
    ∃ u : State, Waits s u p k i .inject ∧ Frame [.regs, .sects, .tacks] s u ∧
      u.tokens (p / 32) = s.tokens (p / 32) ++ [⟨num, s.nextUse (p / 32) num, templateAck (s.template (p / 32) tpl), false⟩] ∧
      u.getF TCK_BUDGET [(p : Nat) / 32] TCK_BUDGET.OUTSTANDING = ((s.tokens (p / 32)).length + 1) % 128 ∧
      exec (.tksend p k w) s = .next (u.buildTack (p / 32) (tksendBytes (s.template (p / 32) tpl)
        (s.retField (p / 32) (templateAck (s.template (p / 32) tpl)) num (s.nextUse (p / 32) num)) ((s.sect p k).voices6 ra)
          (templateAck (s.template (p / 32) tpl)))
        (if templateAck (s.template (p / 32) tpl) then none else some num) (some (4 * (p : Nat) + (k : Nat)))) := by
  have run := (tksend_takes (w := w) h hr).2 _ _ _ (by rw [takeToken_eq, freeToken_counted, hfree]; rfl)
  have kept := tksendCounted_kept (s := s) (p := p) (k := k) (w := w)
  have frame := tksendCounted_frame (s := s) (p := p) (k := k) (w := w)
  generalize s.tksendCounted p k w = v at run kept frame
  have tacks : v.tacks = s.tacks := frame.1 .tacks (by decide)
  generalize templateAck (s.template (p / 32) tpl) = ack at run ⊢
  have taken_kept := tokenTaken_kept v (p / 32) ack false num
  have taken_frame := tokenTaken_frame v (p / 32) ack false num
  have tokens := tokenTaken_tokens (d := p / 32) (n := num) (by rwa [tacks] : tok [] v.tacks.tokens = true) ack false
  have use : v.nextUse (p / 32) num = s.nextUse (p / 32) num := by rw [State.nextUse, tacks]; rfl
  have outstanding : (v.tokenTaken (p / 32) ack false num).getF TCK_BUDGET [(p : Nat) / 32] TCK_BUDGET.OUTSTANDING = ((s.tokens (p / 32)).length + 1) % 128 := by
    rw [tokenTaken_outstanding (frame.tok hwf.2) (by omega), tokens_congr tacks]
  rw [use, tokens_congr tacks] at tokens
  rw [use] at run
  generalize v.tokenTaken (p / 32) ack false num = u at *
  have sects : u.sects = s.sects := (taken_frame.1 .sects (by decide)).trans (frame.1 .sects (by decide))
  have ret : u.retField (p / 32) ack num (s.nextUse (p / 32) num) = s.retField (p / 32) ack num (s.nextUse (p / 32) num) :=
    retField_congr ((kept.weaken (List.subset_cons_self ..)).trans (taken_kept.weaken (by simp))) (retField_apart (.inl rfl)) (by omega)
      (fun n hn hn' => retField_apart (.inr ⟨n, hn, hn', rfl⟩)) _ _ _
  obtain ⟨-, -, hpend, -⟩ := h
  refine ⟨u.waitAt p k i .inject, waitAt_waits i .inject sects hpend, ?_, ?_, ?_, ?_⟩
  · exact .via (State.waitAt_frame ..) (by decide) (.via taken_frame (by decide) (frame.mono (by decide)))
  · exact (tokens_congr rfl _).trans tokens
  · exact outstanding
  · rw [run, ret, sect_congr sects]

end

/-! ### CSEND_GO -/

section
variable {s : State} {m : Fin 2}

/-- The tack that the data registers of a send port hold (R523). -/
def State.csendBytes (s : State) (d : Nat) : List Byte := (List.range 4).flatMap fun i => leBytes 8 (s.reg TCK_CSEND_DATA [d, i]).toNat

/-- A send port refuses the tack `bs`: its kind is none that software sends there, or its form is bad (R523). -/
def State.CsendRefuses (s : State) (bs : List Byte) : Prop :=
  hget bs 36 4 = 1 ∨ hget bs 36 4 = 2 ∨ hget bs 36 4 = 9 ∨ tackFormOk bs = false ∨ (hget bs 36 4 = 5 ∧ s.bit GLB_MODE [] GLB_MODE.METRONOME = true)

/-- The tack `bs` asks for an acknowledgement (R515). -/
def awaitsAck (bs : List Byte) : Bool := decide (3 ≤ hget bs 36 4) && decide (hget bs 36 4 ≤ 6) && leAt bs 15 1 % 2 == 1

/-- The tack `bs` keeps its token until an ACK or a response (R521). -/
def keepsToken (bs : List Byte) : Bool := awaitsAck bs || hget bs 36 4 == 7

theorem csendRefuses_iff (bs : List Byte) : s.CsendRefuses bs ↔
    (hget bs 36 4 = 1 ∨ hget bs 36 4 = 2 ∨ hget bs 36 4 = 9 ∨ !tackFormOk bs ∨ (hget bs 36 4 = 5 ∧ s.bit GLB_MODE [] GLB_MODE.METRONOME)) := by
  simp only [State.CsendRefuses, Bool.not_eq_true']

/-- A Mangle die has 64 tokens for its send port (R523). -/
theorem freeToken_mangle : s.freeToken (8 + m) = (List.range 64).find? (fun n => (s.tokens (8 + m)).all (fun t => t.num != n)) := by
  rw [State.freeToken, State.budget, if_neg (by omega)]

theorem csendGo_refuses (hwf : s.wf) (hup : s.dieUp (8 + m) = true) (h : s.CsendRefuses (s.csendBytes (8 + m))) :
    Completes (exec (.csendGo m) s) (fun t => t.bit TCK_CSEND_CTRL [8 + (m : Nat)] TCK_CSEND_CTRL.REFUSED = true ∧ Frame [.regs] s t) := by
  refine ⟨s.setBit TCK_CSEND_CTRL [8 + (m : Nat)] TCK_CSEND_CTRL.REFUSED, congrArg Host.Outcome.next ?_,
    bit_setBit_same _ _ _ _ hwf.2 (by decide) (by decide), State.setBit_frame ..⟩
  exact (if_neg (by simp [hup])).trans (if_pos ((csendRefuses_iff _).mp h))

/-- What a send port does with a tack that it does not refuse. -/
theorem csendGo_takes (hup : s.dieUp (8 + m) = true) (h : ¬s.CsendRefuses (s.csendBytes (8 + m))) :
    (s.freeToken (8 + m) = none → exec (.csendGo m) s = .next (s.setBit TCK_CSEND_CTRL [8 + (m : Nat)] TCK_CSEND_CTRL.NO_TOKEN)) ∧
    ∀ num, s.freeToken (8 + m) = some num → ∃ u, u = s.tokenTaken (8 + m) (awaitsAck (s.csendBytes (8 + m))) (hget (s.csendBytes (8 + m)) 36 4 == 7) num ∧
      exec (.csendGo m) s = .next (u.buildTack (8 + m) (slice (s.csendBytes (8 + m)) 0 8 ++
        (if hget (s.csendBytes (8 + m)) 36 4 = 8 then slice (s.csendBytes (8 + m)) 8 6 else
          u.retField (8 + m) (keepsToken (s.csendBytes (8 + m))) num (s.nextUse (8 + m) num)) ++ slice (s.csendBytes (8 + m)) 14 18)
        (if keepsToken (s.csendBytes (8 + m)) then none else some num) none) := by
  have run : exec (.csendGo m) s = .next _ := congrArg Host.Outcome.next ((if_neg (by simp [hup])).trans (if_neg (mt (csendRefuses_iff _).mpr h)))
  refine ⟨fun free => run.trans ?_, fun num free => ⟨_, rfl, run.trans ?_⟩⟩
  · rw [takeToken_eq, free]
    rfl
  · rw [takeToken_eq, free]
    rfl

/-- A tack that is not refused takes the lowest available token; a request keeps its return field, and the others get the one of the die (R514, R523). -/
theorem csendGo_sends {num : Nat} (hup : s.dieUp (8 + m) = true) (h : ¬s.CsendRefuses (s.csendBytes (8 + m))) (free : s.freeToken (8 + m) = some num) :
    ∃ (u : State) (ret : List Byte), Frame [.regs, .tacks] s u ∧
      (hget (s.csendBytes (8 + m)) 36 4 ≠ 8 → ret = s.retField (8 + m) (keepsToken (s.csendBytes (8 + m))) num (s.nextUse (8 + m) num)) ∧
      (hget (s.csendBytes (8 + m)) 36 4 = 8 → ret = slice (s.csendBytes (8 + m)) 8 6) ∧
      exec (.csendGo m) s = .next (u.buildTack (8 + m) (slice (s.csendBytes (8 + m)) 0 8 ++ ret ++ slice (s.csendBytes (8 + m)) 14 18)
        (if keepsToken (s.csendBytes (8 + m)) then none else some num) none) := by
  obtain ⟨u, hu, run⟩ := (csendGo_takes hup h).2 num free
  have place : ∀ m : Fin 2, SCR_PLACE.addr [8] ∉ [tokenReg (8 + m)] := by decide
  have wash : ∀ n, 256 ≤ n → n < 268 → AON_WASH.addr [n] ∉ [tokenReg (8 + m)] := fun n hn hn' => by
    have above : ∀ m : Fin 2, 0x400000 ≤ tokenReg (8 + m) := by decide
    have := above m
    rw [addr_wash, List.mem_singleton]
    omega
  have ret (full : Bool) (use : Nat) : u.retField (8 + m) full num use = s.retField (8 + m) full num use := by
    rw [hu]
    exact retField_congr (tokenTaken_kept _ _ _ _ _) (place m) (by omega) wash _ _ _
  refine ⟨u, _, hu ▸ tokenTaken_frame .., fun ne => ?_, fun eq => if_pos eq, run⟩
  rw [if_neg ne, ret]

end

end Sys2Proof.Machine
end

section
/-! TACK_INJECT_TRANSLATE (R524 to R527): a tack of the package's own coordinates stays, another is queued, and one for an absent rank is refused. -/

namespace Sys2Proof.Machine

section
variable {s : State} {t : Tack} {sd : Nat}

/-! ### What translation does -/

/-- The coordinates of an entry as DEST holds them (R510, R551). -/
def entCoords (e : Nat) : Nat := entX e + 32 * entY e + 1024 * entZ e

/-- The header bits of a tack with MAPPED, SLICE and AGE 0 (R525, R527). -/
def State.mappedBytes (s : State) (t : Tack) : List Byte := hset 40 8 0 (hset 24 12 s.sliceId (hset 17 1 1 t.bytes))

/-- The tack with the coordinates of its rank's entry (R525, R527). -/
def State.mapped (s : State) (m : Nat) (t : Tack) : Tack := { t with bytes := hset 0 16 (entCoords (s.rankEntry m t.dest)) (s.mappedBytes t) }

/-- A KL3 rank at the package's own coordinates is delivered at home, and another is queued. -/
theorem translate_present (hmc : t.mc = false) (ha : s.rankAbsent t.mangle t.dest = false) (hg : entGen (s.rankEntry t.mangle t.dest) = 3) :
    (entCoords (s.rankEntry t.mangle t.dest) = s.ownCoords t.mangle → s.translate t = s.deliverIn (s.mapped t.mangle t)) ∧
    (entCoords (s.rankEntry t.mangle t.dest) ≠ s.ownCoords t.mangle → s.translate t = s.enqueue (s.mapped t.mangle t)) := by
  rw [State.translate]
  simp only [hmc, ha, hg, Bool.false_eq_true, if_false, if_true]
  exact ⟨fun own => if_pos own, fun other => if_neg other⟩

/-- The state in which an absent rank is reported (R525, R553). -/
def State.absentReported (s : State) (t : Tack) : State :=
  (s.rankMiss t.mangle t.dest).setLogged t.mangle TCK_MFAULT [t.mangle] TCK_MFAULT.SLICE_VIOLATION

theorem translate_absent (hmc : t.mc = false) (ha : s.rankAbsent t.mangle t.dest = true) :
    s.translate t = (s.absentReported t).refuseTack t stSliceViolation := by
  simp only [State.translate, hmc, ha, Bool.false_eq_true, if_false, if_true, State.absentReported]

theorem enqueue_queued (h : tok [] s.tacks.inj = true) (hs : t.src = some sd) :
    tget [] (s.enqueue t).tacks.inj (16 * t.mangle + sd) = tget [] s.tacks.inj (16 * t.mangle + sd) ++ [t] := by
  rw [State.enqueue, hs]
  exact tget_tput_same _ _ _ h

/-! ### A refused tack -/

theorem refuseTack_ack (h : t.ack = true) (status : Nat) : (s.refuseTack t status).tacks.inPkg =
    s.tacks.inPkg ++ [(s.tackDie ⟨s.ackBytes t status, some t.mangle, none, none, t.mangle, none⟩, ⟨s.ackBytes t status, some t.mangle, none, none, t.mangle, none⟩)] := by
  rw [State.refuseTack, if_pos h]
  rfl

theorem refuseTack_returns {n : Nat} (h : t.ack = false) (hs : t.src = some sd) (hn : t.token = some n) (status : Nat) :
    s.refuseTack t status = s.returnToken sd n := by
  rw [State.refuseTack, if_neg (by simp [h]), hs, hn]

theorem refuseTack_kept (hs : t.src = some sd) (status : Nat) : RegsKept [tokenReg sd] s (s.refuseTack t status) := by
  have returned (n : Nat) : RegsKept [tokenReg sd] s (s.returnToken sd n) := (setTokens_spec s sd _).2
  rw [State.refuseTack, hs]
  refine .ite (fun _ => .of_regs_eq rfl) fun _ => ?_
  cases t.token with
  | some n => exact returned n
  | none => exact .ite (fun _ => returned _) fun _ => .refl _ s

theorem returnToken_gone {d n : Nat} (h : tok [] s.tacks.tokens = true) : ∀ x ∈ (s.returnToken d n).tokens d, x.num ≠ n := fun x hx => by
  rw [State.returnToken, tokens_setTokens h, List.mem_filter] at hx
  simpa using hx.2

/-! ### The report of an absent rank -/

/-- The registers of the report. -/
def reportRegs (m : Nat) : List Nat := [RNK_MISSES.addr [m], RNK_EVENT.addr [m], TCK_MFAULT.addr [m]]

theorem rankMiss_kept (s : State) (m r : Nat) : RegsKept [RNK_MISSES.addr [m], RNK_EVENT.addr [m]] s (s.rankMiss m r) := by
  have counted : RegsKept [RNK_MISSES.addr [m], RNK_EVENT.addr [m]] s (s.incF RNK_MISSES [m] RNK_MISSES.COUNT 1) := (RegsKept.refl _ s).incF (by simp)
  exact (RegsKept.ite (fun _ => counted) fun _ => counted.setF (by simp)).setLogged (by simp)

theorem rankMiss_counted {m : Nat} (h : tok 0 s.regs = true) (hne : RNK_MISSES.addr [m] ≠ RNK_EVENT.addr [m]) (r : Nat) :
    Counted RNK_MISSES [m] RNK_MISSES.COUNT 1 s (s.rankMiss m r) := by
  have rest : ∀ u : State, RegsKept [RNK_EVENT.addr [m]] u
      ((if u.bit RNK_EVENT [m] RNK_EVENT.MISS then u else u.setF RNK_EVENT [m] RNK_EVENT.MISS_RANK r).setLogged m RNK_EVENT [m] RNK_EVENT.MISS) :=
    fun u => (RegsKept.ite (fun _ => .refl _ u) fun _ => (RegsKept.refl _ u).setF (by simp)).setLogged (by simp)
  exact (counted_incF s _ _ _ _ h (by decide)).before (rest _) (by simpa using hne)

theorem absentReported_kept : RegsKept (reportRegs t.mangle) s (s.absentReported t) :=
  ((rankMiss_kept s _ _).weaken (by simp [reportRegs])).setLogged (by simp [reportRegs])

theorem absentReported_frame : Frame [.regs, .arb] s (s.absentReported t) := (State.rankMiss_frame ..).trans (State.setLogged_frame ..)

theorem absentReported_bit (h : tok 0 s.regs = true) : (s.absentReported t).bit TCK_MFAULT [t.mangle] TCK_MFAULT.SLICE_VIOLATION = true :=
  bit_setLogged_same ((State.rankMiss_frame ..).tok h) (by decide) (by decide)

/-- No token register is one of the report, and the rank's register is none of either. -/
theorem report_apart (m : Fin 2) (d : Fin 10) : SCR_PLACE.addr [8] ∉ reportRegs (8 + m) ∧ RNK_MISSES.addr [8 + (m : Nat)] ≠ RNK_EVENT.addr [8 + (m : Nat)] ∧
    RNK_MISSES.addr [8 + (m : Nat)] ∉ [TCK_MFAULT.addr [8 + (m : Nat)]] ∧ RNK_MISSES.addr [8 + (m : Nat)] ∉ [tokenReg d] ∧
    TCK_MFAULT.addr [8 + (m : Nat)] ∉ [tokenReg d] := by
  revert m d
  decide

/-! ### TACK_INJECT_TRANSLATE -/

/-- The state in which a tack has left the way to its Mangle die. -/
def State.arrived (s : State) (t : Tack) : State := { s with tacks := { s.tacks with toMangle := dropFirst (fun x => x == t) s.tacks.toMangle } }

theorem injectTranslate_eq {m : Fin 2} (hf : s.tacks.toMangle.find? (fun t => t.mangle == 8 + (m : Nat)) = some t) (hup : s.dieUp (8 + m) = true) :
    exec (.tackInjectTranslate m) s = .next ((s.arrived t).translate t) := by
  show execTackInjectTranslate m s = _
  simp only [execTackInjectTranslate, hf, hup, if_true]
  rfl

theorem arrived_frame : Frame [.tacks] s (s.arrived t) := .set_tacks _ (by decide) (.refl _ s)

theorem arrived_home (hmc : t.mc = false) (ha : s.rankAbsent t.mangle t.dest = false) (hg : entGen (s.rankEntry t.mangle t.dest) = 3)
    (own : entCoords (s.rankEntry t.mangle t.dest) = s.ownCoords t.mangle) :
    ((s.arrived t).translate t).tacks.toMangle = dropFirst (fun x => x == t) s.tacks.toMangle ∧
    (∃ a, ((s.arrived t).translate t).tacks.inPkg = s.tacks.inPkg ++ [(a, s.mapped t.mangle t)]) ∧ Frame [.tacks] s ((s.arrived t).translate t) := by
  have home : (s.arrived t).translate t = (s.arrived t).deliverIn (s.mapped t.mangle t) := (translate_present (s := s.arrived t) hmc ha hg).1 own
  rw [home]
  exact ⟨rfl, ⟨_, rfl⟩, arrived_frame.trans (State.deliverIn_frame ..)⟩

theorem arrived_queued (hmc : t.mc = false) (ha : s.rankAbsent t.mangle t.dest = false) (hg : entGen (s.rankEntry t.mangle t.dest) = 3)
    (other : entCoords (s.rankEntry t.mangle t.dest) ≠ s.ownCoords t.mangle) (hs : t.src = some sd) (htok : tok [] s.tacks.inj = true) :
    ((s.arrived t).translate t).tacks.toMangle = dropFirst (fun x => x == t) s.tacks.toMangle ∧
    tget [] ((s.arrived t).translate t).tacks.inj (16 * t.mangle + sd) = tget [] s.tacks.inj (16 * t.mangle + sd) ++ [s.mapped t.mangle t] ∧
    Frame [.tacks] s ((s.arrived t).translate t) := by
  have queued : (s.arrived t).translate t = (s.arrived t).enqueue (s.mapped t.mangle t) := (translate_present (s := s.arrived t) hmc ha hg).2 other
  rw [queued]
  exact ⟨rfl, enqueue_queued (s := s.arrived t) (t := s.mapped t.mangle t) htok hs, arrived_frame.trans (State.enqueue_frame ..)⟩

theorem ackBytes_congr {u : State} {as : List Nat} (h : RegsKept as s u) (ha : SCR_PLACE.addr [8] ∉ as) (status : Nat) :
    u.ackBytes t status = s.ackBytes t status := by
  rw [State.ackBytes, State.ackBytes, State.rank, State.rank, h.getF_eq _ ha]

/-- A tack for an absent rank is counted, logged, and answered or its token returned (R525). -/
theorem arrived_refused {m : Fin 2} (hwf : s.wf) (hm : t.mangle = 8 + m) (hmc : t.mc = false) (ha : s.rankAbsent t.mangle t.dest = true)
    (hs : t.src = some sd) (hsd : sd < 10) :
    ((s.arrived t).translate t).bit TCK_MFAULT [t.mangle] TCK_MFAULT.SLICE_VIOLATION = true ∧
    Counted RNK_MISSES [t.mangle] RNK_MISSES.COUNT 1 s ((s.arrived t).translate t) ∧
    (t.ack = true → ∃ x ∈ ((s.arrived t).translate t).tacks.inPkg, x.2.bytes = s.ackBytes t stSliceViolation) ∧
    (∀ n, t.ack = false → t.token = some n → tok [] s.tacks.tokens = true → ∀ x ∈ ((s.arrived t).translate t).tokens sd, x.num ≠ n) ∧
    Frame [.regs, .tacks, .arb] s ((s.arrived t).translate t) := by
  obtain ⟨place, missEvent, missFault, missToken, faultToken⟩ := report_apart m ⟨sd, hsd⟩
  rw [← hm] at place missEvent missFault missToken faultToken
  have refused : (s.arrived t).translate t = ((s.arrived t).absentReported t).refuseTack t stSliceViolation := translate_absent (s := s.arrived t) hmc ha
  have frame : Frame [.regs, .tacks, .arb] s ((s.arrived t).translate t) := (arrived_frame.mono (by decide)).trans ((State.translate_frame ..).mono (by decide))
  have bit := absentReported_bit (s := s.arrived t) (t := t) hwf.2
  have reported : Frame [.regs, .arb] (s.arrived t) ((s.arrived t).absentReported t) := absentReported_frame
  have counted : Counted RNK_MISSES [t.mangle] RNK_MISSES.COUNT 1 s ((s.arrived t).absentReported t) :=
    (rankMiss_counted (s := s.arrived t) hwf.2 missEvent t.dest).before (setLogged_kept _ _ _ _ _) missFault
  have rank := absentReported_kept (s := s.arrived t) (t := t)
  have ackBytes := ackBytes_congr (t := t) rank place stSliceViolation
  have kept := refuseTack_kept (s := (s.arrived t).absentReported t) hs stSliceViolation
  rw [refused] at frame ⊢
  generalize (s.arrived t).absentReported t = v at *
  refine ⟨?_, counted.before kept missToken, fun hack => ?_, fun n hack hn htok => ?_, frame⟩
  · rwa [State.bit, kept.getF_eq _ faultToken]
  · rw [refuseTack_ack hack]
    exact ⟨_, List.mem_append_right _ (List.mem_singleton_self _), ackBytes⟩
  · rw [refuseTack_returns hack hs hn]
    exact returnToken_gone (by rw [reported.1 .tacks (by decide)]; exact htok)

end

/-- Settles O31: a tack goes from TKSEND, a send port or a knot queue to its Mangle die, and is translated or refused there. -/
theorem tacksLeaveTheirDie : Obligations.TacksLeaveTheirDie := by
  unfold Obligations.TacksLeaveTheirDie
  refine ⟨fun p k w s i ra tpl hwf h hr _ htok => ⟨tksend_waits hwf h hr, fun num => tksend_sends hwf h hr htok⟩,
    fun m s hwf hup => ⟨csendGo_refuses hwf hup, fun h free => ?_, fun num h free => ?_⟩, fun d bs token s hwf _ => buildTack_sends bs token hwf,
    fun d m t s => tackRelease_spec, fun d k rest s hk htok hup room => knotTackSend_spec hk htok hup room, fun m t sd s hwf htok hup => ?_⟩
  · rw [← freeToken_mangle] at free
    exact ⟨_, (csendGo_takes hup h).1 free, bit_setBit_same _ _ _ _ hwf.2 (by decide) (by decide), State.setBit_frame ..⟩
  · rw [← freeToken_mangle] at free
    exact csendGo_sends hup h free
  · intro d base e c hf hs hmc
    have mangle : t.mangle = d := by simpa using List.find?_some hf
    have run := injectTranslate_eq hf hup
    subst e c base
    rw [← mangle]
    exact ⟨fun ha hg own => ⟨_, run, arrived_home hmc ha hg own⟩, fun ha hg other => ⟨_, run, arrived_queued hmc ha hg other hs htok⟩,
      fun ha hsd => ⟨_, run, arrived_refused hwf mangle hmc ha hs hsd⟩⟩

end Sys2Proof.Machine
end
